-- ==== Sys2Proof/Word.lean ====
section
/-! DEFINITION. The byte and byte-string types of every format of the spec (R5). -/
namespace Sys2Proof

/-- A byte of a record, flit, capsule or memory. -/
abbrev Byte := BitVec 8

/-- A byte string, lowest address first. -/
abbrev Bytes := List Byte

end Sys2Proof
end

