-- ==== Sys2Proof/Machine/Bits.lean ====
section
/-! DEFINITION. Bit fields, byte order (R5), saturating counts, two's complement, the CRCs of R140 and R187, and sorted
association lists: the helpers every other file of the machine uses. -/
namespace Sys2Proof.Machine

/-- Bits [hi:lo] of a word (R5). -/
def bits (w hi lo : Nat) : Nat := (w >>> lo) % 2 ^ (hi + 1 - lo)

/-- Bit b of a word. -/
def bitAt (w b : Nat) : Bool := w.testBit b

/-- A truth value as a one-bit field. -/
def b2n (b : Bool) : Nat := if b then 1 else 0

/-- The word made of fields given as (lowest bit, width, value). -/
def packFields (fs : List (Nat × Nat × Nat)) : Nat :=
  fs.foldl (fun acc f => acc ||| ((f.2.2 % 2 ^ f.2.1) <<< f.1)) 0

/-- The value of bytes, least significant first (R5). -/
def leNat : Bytes → Nat
  | [] => 0
  | b :: bs => b.toNat + 256 * leNat bs

/-- The n bytes of a value, least significant first (R5). -/
def leBytes : Nat → Nat → Bytes
  | 0, _ => []
  | n + 1, v => BitVec.ofNat 8 v :: leBytes n (v / 256)

/-- The value of bytes, most significant first (formats of published standards, R5). -/
def beNat (bs : Bytes) : Nat := bs.foldl (fun acc b => acc * 256 + b.toNat) 0

/-- The n bytes of a value, most significant first. -/
def beBytes (n v : Nat) : Bytes := (leBytes n v).reverse

/-- n zero bytes. -/
def zeroBytes (n : Nat) : Bytes := List.replicate n 0

/-- Bytes off to off + n - 1, zero-filled past the end. -/
def sliceBytes (bs : Bytes) (off n : Nat) : Bytes :=
  let t := (bs.drop off).take n
  t ++ zeroBytes (n - t.length)

/-- The little-endian value at offset off, n bytes. -/
def rdLe (bs : Bytes) (off n : Nat) : Nat := leNat ((bs.drop off).take n)

/-- Bytes padded with zeros, or cut, to n bytes. -/
def padTo (n : Nat) (bs : Bytes) : Bytes := sliceBytes bs 0 n

/-- A list cut into pieces of n elements, the last one shorter; fuel bounds the count of pieces. -/
def chunkFuel {α : Type} (n : Nat) : Nat → List α → List (List α)
  | 0, _ => []
  | k + 1, l => if l.isEmpty then [] else l.take n :: chunkFuel n k (l.drop n)

/-- A list cut into pieces of n elements, n not 0. -/
def chunks {α : Type} (n : Nat) (l : List α) : List (List α) := chunkFuel n l.length l

/-- The little-endian 64-bit words of a byte string. -/
def leWords (bs : Bytes) : List Nat := (chunks 8 bs).map leNat

/-- a + b, saturating at max. -/
def satAdd (max a b : Nat) : Nat := min max (a + b)

/-- The signed value of the low w bits of a word. -/
def toSigned (w v : Nat) : Int :=
  let u := v % 2 ^ w
  if u < 2 ^ (w - 1) then (u : Int) else (u : Int) - (2 ^ w : Nat)

/-- The w-bit two's complement word of a signed value. -/
def ofSigned (w : Nat) (i : Int) : Nat := (i % (2 ^ w : Nat)).toNat

/-- A signed value saturated to lo..hi. -/
def clampInt (lo hi i : Int) : Int := max lo (min hi i)

/-- Rounds up a / b. -/
def ceilDiv (a b : Nat) : Nat := (a + b - 1) / b

/-- The number of one bits among the low n bits. -/
def popcount (n w : Nat) : Nat := ((List.range n).filter (fun i => w.testBit i)).length

/-- The w low bits of v in reverse order. -/
def reflect (w v : Nat) : Nat := (List.range w).foldl (fun acc i => if v.testBit i then acc ||| (1 <<< (w - 1 - i)) else acc) 0

/-- An element put into a sorted list before the first element it is at or below. -/
def insertBy {α : Type} (le : α → α → Bool) (x : α) : List α → List α
  | [] => [x]
  | y :: t => if le x y then x :: y :: t else y :: insertBy le x t

/-- A list sorted by insertion; elements that compare equal keep their order. -/
def sortBy {α : Type} (le : α → α → Bool) : List α → List α
  | [] => []
  | x :: t => insertBy le x (sortBy le t)

/-! CRC -/

/-- One byte into a reflected CRC with reflected polynomial poly. -/
def crcRefByte (poly : Nat) (crc : Nat) (b : Byte) : Nat :=
  (List.range 8).foldl (fun c _ => if c % 2 = 1 then (c >>> 1) ^^^ poly else c >>> 1) (crc ^^^ b.toNat)

/-- The reflected form of polynomial 0x1EDC_6F41 of R140. -/
def crc32cPoly : Nat := 0x82F63B78

/-- CRC-32C of a byte string with the parameters of R140. -/
def crc32c (bs : Bytes) : Nat := (bs.foldl (crcRefByte crc32cPoly) 0xFFFFFFFF) ^^^ 0xFFFFFFFF

/-- One byte into an unreflected CRC of width w with polynomial poly in normal form. -/
def crcFwdByte (w poly : Nat) (crc : Nat) (b : Byte) : Nat :=
  (List.range 8).foldl
    (fun c _ => if c.testBit (w - 1) then ((c <<< 1) % 2 ^ w) ^^^ poly else (c <<< 1) % 2 ^ w)
    (crc ^^^ (b.toNat <<< (w - 8)))

/-- A CRC with its parameters free: width, polynomial in normal form, initial value, input and output reflection, final XOR
(the programmable check of R186). -/
def crcGen (w poly init : Nat) (refin refout : Bool) (xorout : Nat) (bs : Bytes) : Nat :=
  let ins := if refin then bs.map (fun b => BitVec.ofNat 8 (reflect 8 b.toNat)) else bs
  let c := ins.foldl (crcFwdByte w (poly % 2 ^ w)) (init % 2 ^ w)
  (if refout then reflect w c else c) ^^^ (xorout % 2 ^ w)

/-! Sorted association lists: absent keys read as the default -/

/-- A map from natural numbers, kept as a list with strictly rising keys. -/
abbrev SMap (α : Type) := List (Nat × α)

/-- The entry at key k, if any. -/
def SMap.find? {α : Type} (m : SMap α) (k : Nat) : Option α :=
  match m with
  | [] => none
  | (j, v) :: t => if j = k then some v else SMap.find? t k

/-- The entry at key k, or the default. -/
def SMap.getD {α : Type} (m : SMap α) (k : Nat) (d : α) : α := (SMap.find? m k).getD d

/-- The map with key k set to v. -/
def SMap.set {α : Type} (m : SMap α) (k : Nat) (v : α) : SMap α :=
  match m with
  | [] => [(k, v)]
  | (j, w) :: t => if j = k then (k, v) :: t else if k < j then (k, v) :: (j, w) :: t else (j, w) :: SMap.set t k v

/-- The map without key k. -/
def SMap.erase {α : Type} (m : SMap α) (k : Nat) : SMap α := m.filter (fun e => e.1 ≠ k)

end Sys2Proof.Machine
end

