-- ==== Sys2Proof/Machine/Regs.lean ====
section
/-! DEFINITION. Every register of the spec's register tables: its fields, their bits, access codes (R9, Table 0-4) and reset
values (R11), transcribed from the tables named at each register. One register name stands for all its instances; the index
that picks one is given where the operations use it. Where the spec says a BX64 register has the layout of its ZX40 namesake
(R158, R181, R206, R412) the two share one name here, without the ZX or BX prefix, and the index picks the part:
STM_STS and TB_… index 0 is ZX40's; STM_STS index 1 + p is BX_STM_PORT_STS of Stem port p; TB_… index 1 is BX64's;
BLZ_… index u (0 to 15) is ZX40's unit u and index 16 + u is BX64's unit u; PORT_ERRS index p is BX_STM_PORT_ERRS of Stem port p
and index 64 + q is BX_CNP_PORT_ERRS of Canopy port q. Reserved fields are not listed: they read 0 and take no write (R12). -/
namespace Sys2Proof.Machine

/-- Access codes of Table 0-4 (R9). -/
inductive Access where
  | ro | rw | w1c | wo | rws
  deriving DecidableEq, Repr

/-- The registers, one name for all instances of each. -/
inductive Reg where
  /-- Table 1-9 (01_one_coherent_fleet.md, after R46). -/
  | BX_EPC_SCHED_ANCHOR
  /-- Table 1-10 (01_one_coherent_fleet.md, after R46). -/
  | BX_EPC_SCHED_CFG
  /-- Table 1-11 (01_one_coherent_fleet.md, after R46). -/
  | BX_EPC_STATE
  /-- Table 1-12 (01_one_coherent_fleet.md, after R46). -/
  | BX_EPC_CURRENT
  /-- Table 1-13 (01_one_coherent_fleet.md, after R46). -/
  | BX_EPC_CTRL
  /-- Table 1-14 (01_one_coherent_fleet.md, after R46). -/
  | BX_EPC_DROP_CNT
  /-- Table 1-15 (01_one_coherent_fleet.md, after R46). -/
  | BX_EPC_MISC_CNT
  /-- Table 1-16 (01_one_coherent_fleet.md, after R46). -/
  | BX_CFG_GEN
  /-- Table 1-17 (01_one_coherent_fleet.md, after R46). -/
  | BX_CFG_APPLY
  /-- Table 1-18 (01_one_coherent_fleet.md, after R46). -/
  | ZX_EPC_STATE
  /-- Table 1-19 (01_one_coherent_fleet.md, after R46). -/
  | ZX_EPC_ID
  /-- Table 2-4 (02_zx40_block.md, after R68). -/
  | ZX_CTR_SEL
  /-- Table 2-5 (02_zx40_block.md, after R68). -/
  | ZX_CTR_VAL
  /-- Table 2-5 (02_zx40_block.md, after R68). -/
  | ZX_CTR_SNAP
  /-- Table 2-8 (02_zx40_block.md, after R70). -/
  | ZX_LS_VAL
  /-- Table 2-9 (02_zx40_block.md, after R70). -/
  | ZX_LS_CTRL
  /-- Table 2-11 (02_zx40_block.md, after R74). -/
  | ZX_SNS_CFG
  /-- Table 2-12 (02_zx40_block.md, after R74). -/
  | ZX_SNS_EN
  /-- Table 2-13 (02_zx40_block.md, after R74). -/
  | ZX_SNS_VAL
  /-- Table 2-14 (02_zx40_block.md, after R74). -/
  | ZX_SNS_CAL
  /-- Table 2-15 (02_zx40_block.md, after R74). -/
  | ZX_SNS_PARAM
  /-- Table 2-16 (02_zx40_block.md, after R75). -/
  | ZX_SEC_BIND
  /-- Table 2-17 (02_zx40_block.md, after R78). -/
  | ZX_QW_TIME
  /-- Table 2-18 (02_zx40_block.md, after R78). -/
  | ZX_QW_SPAN
  /-- Table 2-19 (02_zx40_block.md, after R79). -/
  | ZX_BAR_ARRIVE
  /-- Table 2-20 (02_zx40_block.md, after R80). -/
  | ZX_IRQ_STS
  /-- Table 2-20 (02_zx40_block.md, after R80). -/
  | ZX_IRQ_EN
  /-- Table 2-21 (02_zx40_block.md, after R82). -/
  | ZX_GRS_FEAT
  /-- Table 2-22 (02_zx40_block.md, after R82). -/
  | ZX_GRS_RESULT
  /-- Table 2-24 (02_zx40_block.md, after R83). -/
  | ZX_ID
  /-- Table 2-25 (02_zx40_block.md, after R83). -/
  | ZX_BUILD
  /-- Table 2-26 (02_zx40_block.md, after R83). -/
  | ZX_CTRL
  /-- Table 2-27 (02_zx40_block.md, after R83). -/
  | ZX_TAP_CFG
  /-- Table 2-28 (02_zx40_block.md, after R83). -/
  | ZX_TAP_STS
  /-- Table 3-4 (03_zx40_trace_and_dump.md, after R97). -/
  | ZX_TRC_CFG
  /-- Table 3-5 (03_zx40_trace_and_dump.md, after R97). -/
  | ZX_TRC_MASK
  /-- Table 3-5 (03_zx40_trace_and_dump.md, after R97). -/
  | ZX_TRC_TRIG_AT
  /-- Table 3-6 (03_zx40_trace_and_dump.md, after R97). -/
  | ZX_TRC_STS
  /-- Table 3-7 (03_zx40_trace_and_dump.md, after R97). -/
  | ZX_TRC_DBASE
  /-- Table 3-8 (03_zx40_trace_and_dump.md, after R97). -/
  | ZX_TRC_DWR
  /-- Table 3-8 (03_zx40_trace_and_dump.md, after R97). -/
  | ZX_TRC_DRD
  /-- Table 3-8 (03_zx40_trace_and_dump.md, after R97). -/
  | ZX_TRC_CTRL
  /-- Table 3-10 (03_zx40_trace_and_dump.md, after R100). -/
  | ZX_HD_CFG
  /-- Table 3-11 (03_zx40_trace_and_dump.md, after R100). -/
  | ZX_HD_STS
  /-- Table 3-11 (03_zx40_trace_and_dump.md, after R100). -/
  | ZX_HD_CTRL
  /-- Table 3-11 (03_zx40_trace_and_dump.md, after R100). -/
  | ZX_MEM_WIN
  /-- Table 3-13 (03_zx40_trace_and_dump.md, after R106). -/
  | ZX_LOG_OLDEST
  /-- Table 3-13 (03_zx40_trace_and_dump.md, after R106). -/
  | ZX_LOG_ACKED
  /-- Table 3-13 (03_zx40_trace_and_dump.md, after R106). -/
  | ZX_LOG_STS
  /-- Table 4-6 (04_queues_and_crossings.md, after R127). -/
  | BX_Q_STS
  /-- Table 4-7 (04_queues_and_crossings.md, after R127). -/
  | BX_Q_CNT
  /-- Table 4-8 (04_queues_and_crossings.md, after R127). -/
  | BX_Q_DROP
  /-- Table 5-6b (05_stem_link.md, after R147). -/
  | ZX_EPC_ADDR
  /-- Table 5-13 (05_stem_link.md, after R158). -/
  | STM_STS
  /-- Table 5-14 (05_stem_link.md, after R158). -/
  | ZX_STM_CNT
  /-- Table 5-15 (05_stem_link.md, after R158). -/
  | ZX_STM_PMA_LAT
  /-- Table 5-15 (05_stem_link.md, after R158). -/
  | ZX_STM_CTRL
  /-- Table 5-16 (05_stem_link.md, after R158). -/
  | PORT_ERRS
  /-- Table 5-17 (05_stem_link.md, after R158). -/
  | BX_STM_PORT_MISC
  /-- Table 5-18 (05_stem_link.md, after R158). -/
  | BX_STM_PORT_CTRL
  /-- Table 6-7 (06_timebase.md, after R181). -/
  | TB_NOW_NS
  /-- Table 6-7 (06_timebase.md, after R181). -/
  | TB_NOW_FRAC
  /-- Table 6-8 (06_timebase.md, after R181). -/
  | TB_STS
  /-- Table 6-9 (06_timebase.md, after R181). -/
  | TB_OFFSET
  /-- Table 6-9 (06_timebase.md, after R181). -/
  | TB_INC
  /-- Table 6-10 (06_timebase.md, after R181). -/
  | TB_SERVO
  /-- Table 6-12 (06_timebase.md, after R181). -/
  | ZX_LAC_TGT
  /-- Table 6-12 (06_timebase.md, after R181). -/
  | ZX_LAC_CFG
  /-- Table 6-13 (06_timebase.md, after R181). -/
  | ZX_TB_TAP_STOP
  /-- Table 6-14 (06_timebase.md, after R181). -/
  | BX_TB_SRC
  /-- Table 6-15 (06_timebase.md, after R181). -/
  | BX_TB_TOD
  /-- Table 6-15 (06_timebase.md, after R181). -/
  | BX_TB_PPS
  /-- Table 7-9 (07_blaze_and_poison.md, after R206). -/
  | BLZ_CFG
  /-- Table 7-10 (07_blaze_and_poison.md, after R206). -/
  | BLZ_POLY
  /-- Table 7-10 (07_blaze_and_poison.md, after R206). -/
  | BLZ_XOROUT
  /-- Table 7-11 (07_blaze_and_poison.md, after R206). -/
  | BLZ_CNT0
  /-- Table 7-11 (07_blaze_and_poison.md, after R206). -/
  | BLZ_CNT1
  /-- Table 7-12 (07_blaze_and_poison.md, after R206). -/
  | BLZ_LAST
  /-- Table 7-12 (07_blaze_and_poison.md, after R206). -/
  | ZX_BLZ_RF
  /-- Table 7-13 (07_blaze_and_poison.md, after R206). -/
  | ZX_BLZ_UCTRL
  /-- Table 7-14 (07_blaze_and_poison.md, after R206). -/
  | ZX_BLZ_STS
  /-- Table 7-14 (07_blaze_and_poison.md, after R206). -/
  | ZX_BLZ_CTRL
  /-- Table 7-15 (07_blaze_and_poison.md, after R206). -/
  | BX_BLZ_PSN_CNT0
  /-- Table 7-15 (07_blaze_and_poison.md, after R206). -/
  | BX_BLZ_PSN_CNT1
  /-- Table 8-16 (08_epoch_reduction.md, after R236). -/
  | BX_RED_SLOT
  /-- Table 8-17 (08_epoch_reduction.md, after R236). -/
  | BX_RED_SLOT_HLO
  /-- Table 8-18 (08_epoch_reduction.md, after R236). -/
  | BX_RED_CTRL
  /-- Table 8-19 (08_epoch_reduction.md, after R236). -/
  | BX_RED_STS
  /-- Table 8-19 (08_epoch_reduction.md, after R236). -/
  | BX_RED_LOG
  /-- Table 8-20 (08_epoch_reduction.md, after R236). -/
  | BX_RED_CNT0
  /-- Table 8-20 (08_epoch_reduction.md, after R236). -/
  | BX_RED_CNT1
  /-- Table 8-20 (08_epoch_reduction.md, after R236). -/
  | BX_RED_CNT2
  /-- Table 8-21 (08_epoch_reduction.md, after R236). -/
  | BX_FB_MAP
  /-- Table 8-22 (08_epoch_reduction.md, after R236). -/
  | BX_FB_CTRL
  /-- Table 8-23 (08_epoch_reduction.md, after R236). -/
  | BX_FB_STS
  /-- Table 8-23 (08_epoch_reduction.md, after R236). -/
  | BX_FB_CNT
  /-- Table 9-19 (09_grove.md, after R275). -/
  | BX_GRV_LANE_CTRL
  /-- Table 9-20 (09_grove.md, after R275). -/
  | BX_GRV_SEL
  /-- Table 9-20a (09_grove.md, after R275). -/
  | BX_GRV_SEL_DIG
  /-- Table 9-20a (09_grove.md, after R275). -/
  | BX_GRV_GRS_DIG
  /-- Table 9-21 (09_grove.md, after R275). -/
  | BX_GRV_THR
  /-- Table 9-21 (09_grove.md, after R275). -/
  | BX_GRV_AMASK
  /-- Table 9-22 (09_grove.md, after R275). -/
  | BX_GRV_SLOT_INFO
  /-- Table 9-23 (09_grove.md, after R275). -/
  | BX_GRV_SPLIT
  /-- Table 9-23 (09_grove.md, after R275). -/
  | BX_GRV_GRS_CHK
  /-- Table 9-24 (09_grove.md, after R275). -/
  | BX_GRV_GRS_SEL
  /-- Table 9-25 (09_grove.md, after R275). -/
  | BX_GRV_CNT0
  /-- Table 9-25 (09_grove.md, after R275). -/
  | BX_GRV_CNT1
  /-- Table 9-26 (09_grove.md, after R275). -/
  | ZX_GRS_STS
  /-- Table 10-12 (10_stragglers_drift_tests.md, after R305). -/
  | BX_COR_GRP_CFG
  /-- Table 10-12 (10_stragglers_drift_tests.md, after R305). -/
  | BX_COR_GRP_TIME
  /-- Table 10-13 (10_stragglers_drift_tests.md, after R305). -/
  | BX_COR_CTRL
  /-- Table 10-14 (10_stragglers_drift_tests.md, after R305). -/
  | BX_COR_HEALTH
  /-- Table 10-15 (10_stragglers_drift_tests.md, after R305). -/
  | BX_COR_HEALTH_THR
  /-- Table 10-16 (10_stragglers_drift_tests.md, after R305). -/
  | BX_COR_BAND
  /-- Table 10-16 (10_stragglers_drift_tests.md, after R305). -/
  | BX_COR_LOAD
  /-- Table 10-17 (10_stragglers_drift_tests.md, after R305). -/
  | BX_COR_DRIFT
  /-- Table 10-18 (10_stragglers_drift_tests.md, after R305). -/
  | BX_COR_ACT
  /-- Table 10-19 (10_stragglers_drift_tests.md, after R305). -/
  | BX_COR_DIE_MARK
  /-- Table 10-20 (10_stragglers_drift_tests.md, after R305). -/
  | BX_LKO_CFG
  /-- Table 10-21 (10_stragglers_drift_tests.md, after R305). -/
  | BX_LKO_DIE
  /-- Table 10-22 (10_stragglers_drift_tests.md, after R305). -/
  | BX_COR_CNT0
  /-- Table 10-22 (10_stragglers_drift_tests.md, after R305). -/
  | BX_COR_CNT1
  /-- Table 11-15 (11_replay_engine.md, after R342). -/
  | BX_RPL_ID
  /-- Table 11-15 (11_replay_engine.md, after R342). -/
  | BX_RPL_CTRL
  /-- Table 11-16 (11_replay_engine.md, after R342). -/
  | BX_RPL_STS
  /-- Table 11-17 (11_replay_engine.md, after R342). -/
  | BX_RPL_CORE_MAP
  /-- Table 11-17 (11_replay_engine.md, after R342). -/
  | BX_RPL_ENG_MAP
  /-- Table 11-18 (11_replay_engine.md, after R342). -/
  | BX_RPL_CTX
  /-- Table 11-19 (11_replay_engine.md, after R342). -/
  | BX_RPL_APD
  /-- Table 11-20 (11_replay_engine.md, after R342). -/
  | BX_RPL_CNT0
  /-- Table 11-20 (11_replay_engine.md, after R342). -/
  | BX_RPL_CNT1
  /-- Table 11-20 (11_replay_engine.md, after R342). -/
  | BX_RPL_CNT2
  /-- Table 12-13 (12_commit_gate.md, after R372). -/
  | BX_CMT_TEN_POLICY
  /-- Table 12-14 (12_commit_gate.md, after R372). -/
  | BX_CMT_TEN_SEED
  /-- Table 12-14 (12_commit_gate.md, after R372). -/
  | BX_CMT_LEDGER
  /-- Table 12-15 (12_commit_gate.md, after R372). -/
  | BX_CMT_CTRL
  /-- Table 12-16 (12_commit_gate.md, after R372). -/
  | BX_CMT_SUSPECT
  /-- Table 12-17 (12_commit_gate.md, after R372). -/
  | BX_CMT_STS
  /-- Table 12-18 (12_commit_gate.md, after R372). -/
  | BX_CMT_CNT0
  /-- Table 12-18 (12_commit_gate.md, after R372). -/
  | BX_CMT_CNT1
  /-- Table 12-18 (12_commit_gate.md, after R372). -/
  | BX_CMT_CNT2
  /-- Table 12-18 (12_commit_gate.md, after R372). -/
  | BX_CMT_CNT3
  /-- Table 12-18 (12_commit_gate.md, after R372). -/
  | BX_CMT_CNT4
  /-- Table 13-14 (13_canopy_fabric.md, after R412). -/
  | BX_CNP_IDENT
  /-- Table 13-14 (13_canopy_fabric.md, after R412). -/
  | BX_CNP_DEV_UID
  /-- Table 13-15 (13_canopy_fabric.md, after R412). -/
  | BX_CNP_PORT_STS
  /-- Table 13-15 (13_canopy_fabric.md, after R412). -/
  | BX_CNP_PORT_SEQ
  /-- Table 13-16 (13_canopy_fabric.md, after R412). -/
  | BX_CNP_PORT_MISC
  /-- Table 13-16 (13_canopy_fabric.md, after R412). -/
  | BX_CNP_PORT_CTRL
  /-- Table 13-17 (13_canopy_fabric.md, after R412). -/
  | BX_CNP_CTRL
  /-- Table 13-18 (13_canopy_fabric.md, after R412). -/
  | BX_CNP_FAB_STS
  /-- Table 13-18 (13_canopy_fabric.md, after R412). -/
  | BX_CNP_FENCE
  /-- Table 13-19 (13_canopy_fabric.md, after R412). -/
  | BX_CNP_CNT0
  /-- Table 13-19 (13_canopy_fabric.md, after R412). -/
  | BX_CNP_CNT1
  /-- Table 14-12 (14_memory_dma_codec.md, after R440). -/
  | BX_MEM_REGION
  /-- Table 14-13 (14_memory_dma_codec.md, after R440). -/
  | BX_MEM_PART
  /-- Table 14-13 (14_memory_dma_codec.md, after R440). -/
  | BX_MEM_ECC
  /-- Table 14-14 (14_memory_dma_codec.md, after R440). -/
  | BX_XLT_SPACE
  /-- Table 14-14 (14_memory_dma_codec.md, after R440). -/
  | BX_XLT_FAULT
  /-- Table 14-15 (14_memory_dma_codec.md, after R440). -/
  | BX_XLT_CNT
  /-- Table 14-15 (14_memory_dma_codec.md, after R440). -/
  | BX_MEM_CNT
  /-- Table 14-16 (14_memory_dma_codec.md, after R440). -/
  | BX_DMA_CH_CFG
  /-- Table 14-16 (14_memory_dma_codec.md, after R440). -/
  | BX_DMA_CH_RING
  /-- Table 14-16 (14_memory_dma_codec.md, after R440). -/
  | BX_DMA_CH_DB
  /-- Table 14-17 (14_memory_dma_codec.md, after R440). -/
  | BX_DMA_CH_STS
  /-- Table 14-17 (14_memory_dma_codec.md, after R440). -/
  | BX_DMA_CNT
  /-- Table 14-18 (14_memory_dma_codec.md, after R440). -/
  | BX_TRS_CTRL
  /-- Table 14-18 (14_memory_dma_codec.md, after R440). -/
  | BX_TRS_DIE_CFG
  /-- Table 14-20 (14_memory_dma_codec.md, after R440). -/
  | BX_TRS_STS
  /-- Table 14-20 (14_memory_dma_codec.md, after R440). -/
  | BX_TRS_CNT0
  /-- Table 14-20 (14_memory_dma_codec.md, after R440). -/
  | BX_TRS_CNT1
  /-- Table 15-4 (15_egress_scheduling.md, after R455). -/
  | BX_EGS_SUB_CFG
  /-- Table 15-4 (15_egress_scheduling.md, after R455). -/
  | BX_EGS_SUB_BURST
  /-- Table 15-5 (15_egress_scheduling.md, after R455). -/
  | BX_EGS_SUB_LVL
  /-- Table 15-6 (15_egress_scheduling.md, after R455). -/
  | BX_EGS_SVC_CFG
  /-- Table 15-6 (15_egress_scheduling.md, after R455). -/
  | BX_EGS_SVC_LVL
  /-- Table 15-6 (15_egress_scheduling.md, after R455). -/
  | BX_EGS_SVC_TAG
  /-- Table 15-7 (15_egress_scheduling.md, after R455). -/
  | BX_EGS_GATE_TIME
  /-- Table 15-7 (15_egress_scheduling.md, after R455). -/
  | BX_EGS_GATE_SPAN
  /-- Table 15-8 (15_egress_scheduling.md, after R455). -/
  | BX_EGS_PORT_STS
  /-- Table 15-8 (15_egress_scheduling.md, after R455). -/
  | BX_EGS_PORT_VT
  /-- Table 15-8 (15_egress_scheduling.md, after R455). -/
  | BX_EGS_PORT_CNT
  /-- Table 16-14a (16_command_capsules.md, after R481). -/
  | BX_WDN_BOOT_CAP
  /-- Table 16-14a (16_command_capsules.md, after R481). -/
  | BX_WDN_BOOT_RPL
  /-- Table 16-14a (16_command_capsules.md, after R481). -/
  | BX_WDN_BOOT_CTRL
  /-- Table 16-14a (16_command_capsules.md, after R481). -/
  | BX_WDN_BOOT_STS
  /-- Table 16-16 (16_command_capsules.md, after R483). -/
  | BX_SYS_ID
  /-- Table 16-17 (16_command_capsules.md, after R483). -/
  | BX_WDN_QP_SQB
  /-- Table 16-17 (16_command_capsules.md, after R483). -/
  | BX_WDN_QP_CQB
  /-- Table 16-17 (16_command_capsules.md, after R483). -/
  | BX_WDN_EVB
  /-- Table 16-18 (16_command_capsules.md, after R483). -/
  | BX_WDN_QP_CFG
  /-- Table 16-18 (16_command_capsules.md, after R483). -/
  | BX_WDN_EV_CFG
  /-- Table 16-19 (16_command_capsules.md, after R483). -/
  | BX_WDN_QP_DB
  /-- Table 16-19 (16_command_capsules.md, after R483). -/
  | BX_WDN_EV_DB
  /-- Table 16-20 (16_command_capsules.md, after R483). -/
  | BX_WDN_QP_STS
  /-- Table 16-20 (16_command_capsules.md, after R483). -/
  | BX_WDN_EV_STS
  /-- Table 16-21 (16_command_capsules.md, after R483). -/
  | BX_WDN_CTRL
  /-- Table 16-21 (16_command_capsules.md, after R483). -/
  | BX_WDN_MCTP
  /-- Table 16-22 (16_command_capsules.md, after R483). -/
  | BX_WDN_FW_STS
  /-- Table 16-23 (16_command_capsules.md, after R483). -/
  | BX_WDN_CNT0
  /-- Table 16-23 (16_command_capsules.md, after R483). -/
  | BX_WDN_CNT1
  /-- Table 17-16 (17_taproot_and_safety.md, after R513). -/
  | BX_TAP_STS
  /-- Table 17-16 (17_taproot_and_safety.md, after R513). -/
  | BX_TAP_CTRL
  /-- Table 17-16 (17_taproot_and_safety.md, after R513). -/
  | BX_TAP_KICK
  /-- Table 17-17 (17_taproot_and_safety.md, after R513). -/
  | BX_SAF_STS
  /-- Table 17-17 (17_taproot_and_safety.md, after R513). -/
  | BX_SAF_CTRL
  /-- Table 17-17 (17_taproot_and_safety.md, after R513). -/
  | BX_SAF_DIE
  /-- Table 17-18 (17_taproot_and_safety.md, after R513). -/
  | BX_HW_STS
  /-- Table 17-18 (17_taproot_and_safety.md, after R513). -/
  | BX_HW_CNT
  /-- Table 17-18 (17_taproot_and_safety.md, after R513). -/
  | BX_HW_AUTH
  /-- Table 17-19 (17_taproot_and_safety.md, after R513). -/
  | BX_HW_SNAP
  /-- Table 17-20 (17_taproot_and_safety.md, after R513). -/
  | BX_WT_INJ
  /-- Table 17-20 (17_taproot_and_safety.md, after R513). -/
  | BX_WT_STS
  /-- Table 17-21 (17_taproot_and_safety.md, after R513). -/
  | BX_VIOL_HOST
  /-- Table 17-21 (17_taproot_and_safety.md, after R513). -/
  | BX_VIOL_MCTP
  /-- Table 18-11 (18_reset_power_lifecycle.md, after R534). -/
  | BX_LC_STS
  /-- Table 18-11 (18_reset_power_lifecycle.md, after R534). -/
  | BX_LC_DIE
  /-- Table 18-12 (18_reset_power_lifecycle.md, after R534). -/
  | BX_PWR_STS
  /-- Table 18-12 (18_reset_power_lifecycle.md, after R534). -/
  | BX_PWR_LIMIT
  /-- Table 14-19 (14_memory_dma_codec.md, after R440). -/
  | BX_TRS_GAUGE_CFG
  /-- Table 14-19 (14_memory_dma_codec.md, after R440). -/
  | BX_TRS_GAUGE_SNS
  /-- Table 14-19 (14_memory_dma_codec.md, after R440). -/
  | BX_TRS_GAUGE_BND
  /-- Table 6-11 (06_timebase.md, after R181). -/
  | ZX_TB_STR_MAP
  deriving DecidableEq, Repr

/-- One field of a register: its bits [hi:lo], its access code and its Reset column. -/
structure Fld where
  reg : Reg
  hi : Nat
  lo : Nat
  acc : Access
  reset : Nat
  deriving DecidableEq, Repr

/-- A field's width in bits. -/
def Fld.width (f : Fld) : Nat := f.hi + 1 - f.lo

/-- The largest value a field holds. -/
def Fld.max (f : Fld) : Nat := 2 ^ f.width - 1

/-! BX_EPC_SCHED_ANCHOR: Table 1-9. -/
def BX_EPC_SCHED_ANCHOR_ANCHOR_NS : Fld := ⟨.BX_EPC_SCHED_ANCHOR, 63, 0, .ro, 0⟩

/-! BX_EPC_SCHED_CFG: Table 1-10. -/
def BX_EPC_SCHED_CFG_LEN_K : Fld := ⟨.BX_EPC_SCHED_CFG, 51, 48, .ro, 3⟩
def BX_EPC_SCHED_CFG_ANCHOR_EPOCH : Fld := ⟨.BX_EPC_SCHED_CFG, 47, 0, .ro, 0⟩

/-! BX_EPC_STATE: Table 1-11. -/
def BX_EPC_STATE_WM_VALID : Fld := ⟨.BX_EPC_STATE, 63, 63, .ro, 0⟩
def BX_EPC_STATE_WM_SYNCED : Fld := ⟨.BX_EPC_STATE, 62, 62, .ro, 0⟩
def BX_EPC_STATE_RUNNING : Fld := ⟨.BX_EPC_STATE, 61, 61, .ro, 0⟩
def BX_EPC_STATE_WATERMARK : Fld := ⟨.BX_EPC_STATE, 47, 0, .ro, 0⟩

/-! BX_EPC_CURRENT: Table 1-12. -/
def BX_EPC_CURRENT_EPOCH : Fld := ⟨.BX_EPC_CURRENT, 47, 0, .ro, 0⟩

/-! BX_EPC_CTRL: Table 1-13. -/
def BX_EPC_CTRL_RETAIN_EPOCHS : Fld := ⟨.BX_EPC_CTRL, 63, 32, .rw, 0x10000⟩
def BX_EPC_CTRL_MIN_LEAD : Fld := ⟨.BX_EPC_CTRL, 31, 24, .rw, 8⟩
def BX_EPC_CTRL_READ_WAIT_US : Fld := ⟨.BX_EPC_CTRL, 15, 0, .rw, 0x64⟩

/-! BX_EPC_DROP_CNT: Table 1-14. -/
def BX_EPC_DROP_CNT_LATE : Fld := ⟨.BX_EPC_DROP_CNT, 63, 32, .ro, 0⟩
def BX_EPC_DROP_CNT_OLD_INCARNATION : Fld := ⟨.BX_EPC_DROP_CNT, 31, 0, .ro, 0⟩

/-! BX_EPC_MISC_CNT: Table 1-15. -/
def BX_EPC_MISC_CNT_CFG_MISMATCH : Fld := ⟨.BX_EPC_MISC_CNT, 63, 32, .ro, 0⟩
def BX_EPC_MISC_CNT_READ_TIMEOUT : Fld := ⟨.BX_EPC_MISC_CNT, 31, 0, .ro, 0⟩

/-! BX_CFG_GEN: Table 1-16. -/
def BX_CFG_GEN_ARMED : Fld := ⟨.BX_CFG_GEN, 63, 63, .ro, 0⟩
def BX_CFG_GEN_STAGED : Fld := ⟨.BX_CFG_GEN, 62, 62, .ro, 0⟩
def BX_CFG_GEN_STAGED_GEN : Fld := ⟨.BX_CFG_GEN, 31, 16, .ro, 0⟩
def BX_CFG_GEN_LIVE_GEN : Fld := ⟨.BX_CFG_GEN, 15, 0, .ro, 0⟩

/-! BX_CFG_APPLY: Table 1-17. -/
def BX_CFG_APPLY_APPLY_NS : Fld := ⟨.BX_CFG_APPLY, 63, 0, .ro, 0⟩

/-! ZX_EPC_STATE: Table 1-18. -/
def ZX_EPC_STATE_RUNNING : Fld := ⟨.ZX_EPC_STATE, 63, 63, .ro, 0⟩
def ZX_EPC_STATE_EPOCH : Fld := ⟨.ZX_EPC_STATE, 47, 0, .ro, 0⟩

/-! ZX_EPC_ID: Table 1-19. -/
def ZX_EPC_ID_INCARNATION : Fld := ⟨.ZX_EPC_ID, 63, 48, .ro, 0⟩
def ZX_EPC_ID_LIVE_GEN : Fld := ⟨.ZX_EPC_ID, 47, 32, .ro, 0⟩
def ZX_EPC_ID_STAGED_GEN : Fld := ⟨.ZX_EPC_ID, 31, 16, .ro, 0⟩
def ZX_EPC_ID_ARMED : Fld := ⟨.ZX_EPC_ID, 15, 15, .ro, 0⟩
def ZX_EPC_ID_STAGED : Fld := ⟨.ZX_EPC_ID, 14, 14, .ro, 0⟩

/-! ZX_CTR_SEL: Table 2-4. -/
def ZX_CTR_SEL_EN : Fld := ⟨.ZX_CTR_SEL, 31, 31, .rw, 0⟩
def ZX_CTR_SEL_OWNER : Fld := ⟨.ZX_CTR_SEL, 30, 30, .ro, 0⟩
def ZX_CTR_SEL_TENANT : Fld := ⟨.ZX_CTR_SEL, 29, 24, .rw, 0⟩
def ZX_CTR_SEL_KIND : Fld := ⟨.ZX_CTR_SEL, 23, 21, .rw, 0⟩
def ZX_CTR_SEL_TAP : Fld := ⟨.ZX_CTR_SEL, 20, 14, .rw, 0⟩
def ZX_CTR_SEL_INDEX : Fld := ⟨.ZX_CTR_SEL, 13, 8, .rw, 0⟩
def ZX_CTR_SEL_REASON_MASK : Fld := ⟨.ZX_CTR_SEL, 7, 0, .rw, 0⟩

/-! ZX_CTR_VAL: Table 2-5. -/
def ZX_CTR_VAL_VAL : Fld := ⟨.ZX_CTR_VAL, 63, 0, .ro, 0⟩

/-! ZX_CTR_SNAP: Table 2-5. -/
def ZX_CTR_SNAP_SNAP : Fld := ⟨.ZX_CTR_SNAP, 63, 0, .ro, 0⟩

/-! ZX_LS_VAL: Table 2-8. -/
def ZX_LS_VAL_VAL : Fld := ⟨.ZX_LS_VAL, 63, 0, .ro, 0⟩

/-! ZX_LS_CTRL: Table 2-9. -/
def ZX_LS_CTRL_DIS : Fld := ⟨.ZX_LS_CTRL, 0, 0, .rw, 0⟩

/-! ZX_SNS_CFG: Table 2-11. -/
def ZX_SNS_CFG_WINDOW_US : Fld := ⟨.ZX_SNS_CFG, 15, 0, .ro, 0x28⟩

/-! ZX_SNS_EN: Table 2-12. -/
def ZX_SNS_EN_EN : Fld := ⟨.ZX_SNS_EN, 31, 0, .ro, 0⟩

/-! ZX_SNS_VAL: Table 2-13. -/
def ZX_SNS_VAL_STATUS : Fld := ⟨.ZX_SNS_VAL, 31, 30, .ro, 3⟩
def ZX_SNS_VAL_VALUE : Fld := ⟨.ZX_SNS_VAL, 15, 0, .ro, 0⟩

/-! ZX_SNS_CAL: Table 2-14. -/
def ZX_SNS_CAL_GAIN : Fld := ⟨.ZX_SNS_CAL, 31, 16, .ro, 0x4000⟩
def ZX_SNS_CAL_OFFSET : Fld := ⟨.ZX_SNS_CAL, 15, 0, .ro, 0⟩

/-! ZX_SNS_PARAM: Table 2-15. -/
def ZX_SNS_PARAM_THERM : Fld := ⟨.ZX_SNS_PARAM, 31, 25, .ro, 0x40⟩
def ZX_SNS_PARAM_VOLT : Fld := ⟨.ZX_SNS_PARAM, 24, 19, .ro, 0x20⟩
def ZX_SNS_PARAM_DROOP : Fld := ⟨.ZX_SNS_PARAM, 18, 13, .ro, 0x20⟩
def ZX_SNS_PARAM_STRETCH : Fld := ⟨.ZX_SNS_PARAM, 12, 8, .ro, 0x10⟩
def ZX_SNS_PARAM_AGE : Fld := ⟨.ZX_SNS_PARAM, 7, 3, .ro, 0x10⟩

/-! ZX_SEC_BIND: Table 2-16. -/
def ZX_SEC_BIND_BAR_MASK : Fld := ⟨.ZX_SEC_BIND, 31, 16, .rw, 0⟩
def ZX_SEC_BIND_TENANT : Fld := ⟨.ZX_SEC_BIND, 5, 0, .rw, 0⟩

/-! ZX_QW_TIME: Table 2-17. -/
def ZX_QW_TIME_PERIOD_NS : Fld := ⟨.ZX_QW_TIME, 63, 32, .rw, 0⟩
def ZX_QW_TIME_PHASE_NS : Fld := ⟨.ZX_QW_TIME, 31, 0, .rw, 0⟩

/-! ZX_QW_SPAN: Table 2-18. -/
def ZX_QW_SPAN_EN : Fld := ⟨.ZX_QW_SPAN, 63, 63, .rw, 0⟩
def ZX_QW_SPAN_GUARD_NS : Fld := ⟨.ZX_QW_SPAN, 47, 24, .rw, 0x7d0⟩
def ZX_QW_SPAN_WIDTH_NS : Fld := ⟨.ZX_QW_SPAN, 23, 0, .rw, 0⟩

/-! ZX_BAR_ARRIVE: Table 2-19. -/
def ZX_BAR_ARRIVE_LINE : Fld := ⟨.ZX_BAR_ARRIVE, 3, 0, .wo, 0⟩

/-! ZX_IRQ_STS: Table 2-20. -/
def ZX_IRQ_STS_LOG : Fld := ⟨.ZX_IRQ_STS, 5, 5, .w1c, 0⟩
def ZX_IRQ_STS_TRACE : Fld := ⟨.ZX_IRQ_STS, 4, 4, .w1c, 0⟩
def ZX_IRQ_STS_APB : Fld := ⟨.ZX_IRQ_STS, 3, 3, .w1c, 0⟩
def ZX_IRQ_STS_TAP : Fld := ⟨.ZX_IRQ_STS, 2, 2, .w1c, 0⟩
def ZX_IRQ_STS_SNS : Fld := ⟨.ZX_IRQ_STS, 1, 1, .w1c, 0⟩
def ZX_IRQ_STS_ALARM : Fld := ⟨.ZX_IRQ_STS, 0, 0, .w1c, 0⟩

/-! ZX_IRQ_EN: Table 2-20. -/
def ZX_IRQ_EN_LOG : Fld := ⟨.ZX_IRQ_EN, 5, 5, .rw, 0⟩
def ZX_IRQ_EN_TRACE : Fld := ⟨.ZX_IRQ_EN, 4, 4, .rw, 0⟩
def ZX_IRQ_EN_APB : Fld := ⟨.ZX_IRQ_EN, 3, 3, .rw, 0⟩
def ZX_IRQ_EN_TAP : Fld := ⟨.ZX_IRQ_EN, 2, 2, .rw, 0⟩
def ZX_IRQ_EN_SNS : Fld := ⟨.ZX_IRQ_EN, 1, 1, .rw, 0⟩
def ZX_IRQ_EN_ALARM : Fld := ⟨.ZX_IRQ_EN, 0, 0, .rw, 0⟩

/-! ZX_GRS_FEAT: Table 2-21. -/
def ZX_GRS_FEAT_SRC : Fld := ⟨.ZX_GRS_FEAT, 31, 30, .ro, 3⟩
def ZX_GRS_FEAT_INDEX : Fld := ⟨.ZX_GRS_FEAT, 13, 0, .ro, 0⟩

/-! ZX_GRS_RESULT: Table 2-22. -/
def ZX_GRS_RESULT_EPOCH_LO : Fld := ⟨.ZX_GRS_RESULT, 31, 16, .ro, 0⟩
def ZX_GRS_RESULT_VALID : Fld := ⟨.ZX_GRS_RESULT, 15, 15, .ro, 0⟩
def ZX_GRS_RESULT_ALARM : Fld := ⟨.ZX_GRS_RESULT, 14, 14, .ro, 0⟩
def ZX_GRS_RESULT_CLASS : Fld := ⟨.ZX_GRS_RESULT, 7, 0, .ro, 0⟩

/-! ZX_ID: Table 2-24. -/
def ZX_ID_ARCH : Fld := ⟨.ZX_ID, 31, 24, .ro, 0x40⟩
def ZX_ID_MAJOR : Fld := ⟨.ZX_ID, 23, 16, .ro, 1⟩
def ZX_ID_MINOR : Fld := ⟨.ZX_ID, 15, 8, .ro, 0⟩

/-! ZX_BUILD: Table 2-25. -/
def ZX_BUILD_SELFMON : Fld := ⟨.ZX_BUILD, 31, 31, .ro, 0⟩
def ZX_BUILD_NUM_TAPS : Fld := ⟨.ZX_BUILD, 30, 23, .ro, 0x80⟩

/-! ZX_CTRL: Table 2-26. -/
def ZX_CTRL_STOP_TICKS : Fld := ⟨.ZX_CTRL, 15, 0, .rw, 0x320⟩

/-! ZX_TAP_CFG: Table 2-27. -/
def ZX_TAP_CFG_LINES : Fld := ⟨.ZX_TAP_CFG, 30, 24, .ro, 0x40⟩
def ZX_TAP_CFG_ENGINES : Fld := ⟨.ZX_TAP_CFG, 23, 20, .ro, 8⟩
def ZX_TAP_CFG_NOM_PERIOD_PS : Fld := ⟨.ZX_TAP_CFG, 19, 0, .ro, 0x3e8⟩

/-! ZX_TAP_STS: Table 2-28. -/
def ZX_TAP_STS_STOPPED : Fld := ⟨.ZX_TAP_STS, 31, 31, .ro, 0⟩
def ZX_TAP_STS_STRETCH_SEEN : Fld := ⟨.ZX_TAP_STS, 30, 30, .w1c, 0⟩
def ZX_TAP_STS_STOP_SEEN : Fld := ⟨.ZX_TAP_STS, 29, 29, .w1c, 0⟩
def ZX_TAP_STS_ILLEGAL_SEEN : Fld := ⟨.ZX_TAP_STS, 28, 28, .w1c, 0⟩

/-! ZX_TRC_CFG: Table 3-4. -/
def ZX_TRC_CFG_POST_COUNT : Fld := ⟨.ZX_TRC_CFG, 63, 52, .rw, 0x800⟩
def ZX_TRC_CFG_MODE : Fld := ⟨.ZX_TRC_CFG, 47, 46, .rw, 0⟩
def ZX_TRC_CFG_DRAIN : Fld := ⟨.ZX_TRC_CFG, 45, 44, .rw, 0⟩
def ZX_TRC_CFG_SRC : Fld := ⟨.ZX_TRC_CFG, 43, 42, .rw, 0⟩
def ZX_TRC_CFG_TAP : Fld := ⟨.ZX_TRC_CFG, 41, 35, .rw, 0⟩
def ZX_TRC_CFG_TRIG_SRC : Fld := ⟨.ZX_TRC_CFG, 34, 32, .rw, 0⟩
def ZX_TRC_CFG_TRIG_LINE : Fld := ⟨.ZX_TRC_CFG, 31, 26, .rw, 0⟩

/-! ZX_TRC_MASK: Table 3-5. -/
def ZX_TRC_MASK_MASK : Fld := ⟨.ZX_TRC_MASK, 63, 0, .rw, 0⟩

/-! ZX_TRC_TRIG_AT: Table 3-5. -/
def ZX_TRC_TRIG_AT_TRIG_AT : Fld := ⟨.ZX_TRC_TRIG_AT, 63, 0, .rw, 0⟩

/-! ZX_TRC_STS: Table 3-6. -/
def ZX_TRC_STS_STATE : Fld := ⟨.ZX_TRC_STS, 63, 61, .ro, 0⟩
def ZX_TRC_STS_DRAIN_ERR : Fld := ⟨.ZX_TRC_STS, 60, 60, .ro, 0⟩
def ZX_TRC_STS_EMPTY : Fld := ⟨.ZX_TRC_STS, 59, 59, .ro, 1⟩
def ZX_TRC_STS_WPTR : Fld := ⟨.ZX_TRC_STS, 47, 36, .ro, 0⟩
def ZX_TRC_STS_RPTR : Fld := ⟨.ZX_TRC_STS, 35, 24, .ro, 0⟩
def ZX_TRC_STS_POST_DONE : Fld := ⟨.ZX_TRC_STS, 23, 12, .ro, 0⟩
def ZX_TRC_STS_REFIRE : Fld := ⟨.ZX_TRC_STS, 11, 4, .ro, 0⟩

/-! ZX_TRC_DBASE: Table 3-7. -/
def ZX_TRC_DBASE_BASE : Fld := ⟨.ZX_TRC_DBASE, 47, 12, .rw, 0⟩
def ZX_TRC_DBASE_SIZE : Fld := ⟨.ZX_TRC_DBASE, 4, 0, .rw, 0⟩

/-! ZX_TRC_DWR: Table 3-8. -/
def ZX_TRC_DWR_DWR : Fld := ⟨.ZX_TRC_DWR, 31, 0, .ro, 0⟩

/-! ZX_TRC_DRD: Table 3-8. -/
def ZX_TRC_DRD_DRD : Fld := ⟨.ZX_TRC_DRD, 31, 0, .rw, 0⟩

/-! ZX_TRC_CTRL: Table 3-8. -/
def ZX_TRC_CTRL_RELEASE : Fld := ⟨.ZX_TRC_CTRL, 2, 2, .wo, 0⟩
def ZX_TRC_CTRL_TRIG : Fld := ⟨.ZX_TRC_CTRL, 1, 1, .wo, 0⟩
def ZX_TRC_CTRL_ARM : Fld := ⟨.ZX_TRC_CTRL, 0, 0, .wo, 0⟩

/-! ZX_HD_CFG: Table 3-10. -/
def ZX_HD_CFG_STALL_US : Fld := ⟨.ZX_HD_CFG, 63, 44, .rw, 0⟩
def ZX_HD_CFG_BAR_MASK : Fld := ⟨.ZX_HD_CFG, 43, 28, .rw, 0⟩
def ZX_HD_CFG_BAR_US : Fld := ⟨.ZX_HD_CFG, 27, 8, .rw, 0⟩
def ZX_HD_CFG_AXI_EN : Fld := ⟨.ZX_HD_CFG, 0, 0, .rw, 0⟩

/-! ZX_HD_STS: Table 3-11. -/
def ZX_HD_STS_HELD : Fld := ⟨.ZX_HD_STS, 63, 63, .ro, 0⟩
def ZX_HD_STS_SENT : Fld := ⟨.ZX_HD_STS, 62, 62, .ro, 0⟩
def ZX_HD_STS_PEND : Fld := ⟨.ZX_HD_STS, 47, 40, .ro, 0⟩
def ZX_HD_STS_CAUSE : Fld := ⟨.ZX_HD_STS, 39, 32, .ro, 0⟩
def ZX_HD_STS_MISSED : Fld := ⟨.ZX_HD_STS, 31, 0, .ro, 0⟩

/-! ZX_HD_CTRL: Table 3-11. -/
def ZX_HD_CTRL_RELEASE : Fld := ⟨.ZX_HD_CTRL, 1, 1, .wo, 0⟩
def ZX_HD_CTRL_TAKE : Fld := ⟨.ZX_HD_CTRL, 0, 0, .wo, 0⟩

/-! ZX_MEM_WIN: Table 3-11. -/
def ZX_MEM_WIN_TARGET : Fld := ⟨.ZX_MEM_WIN, 31, 28, .rw, 0⟩
def ZX_MEM_WIN_PAGE : Fld := ⟨.ZX_MEM_WIN, 4, 0, .rw, 0⟩

/-! ZX_LOG_OLDEST: Table 3-13. -/
def ZX_LOG_OLDEST_VALID : Fld := ⟨.ZX_LOG_OLDEST, 63, 63, .ro, 0⟩
def ZX_LOG_OLDEST_EPOCH : Fld := ⟨.ZX_LOG_OLDEST, 47, 0, .ro, 0⟩

/-! ZX_LOG_ACKED: Table 3-13. -/
def ZX_LOG_ACKED_VALID : Fld := ⟨.ZX_LOG_ACKED, 63, 63, .ro, 0⟩
def ZX_LOG_ACKED_EPOCH : Fld := ⟨.ZX_LOG_ACKED, 47, 0, .ro, 0⟩

/-! ZX_LOG_STS: Table 3-13. -/
def ZX_LOG_STS_RESENDING : Fld := ⟨.ZX_LOG_STS, 31, 31, .ro, 0⟩
def ZX_LOG_STS_ENTRIES : Fld := ⟨.ZX_LOG_STS, 24, 16, .ro, 0⟩
def ZX_LOG_STS_FREE_KIB : Fld := ⟨.ZX_LOG_STS, 11, 0, .ro, 0x800⟩

/-! BX_Q_STS: Table 4-6. -/
def BX_Q_STS_UNDERRUN : Fld := ⟨.BX_Q_STS, 63, 63, .w1c, 0⟩
def BX_Q_STS_PKT_ABORT : Fld := ⟨.BX_Q_STS, 62, 62, .w1c, 0⟩
def BX_Q_STS_PARITY : Fld := ⟨.BX_Q_STS, 61, 61, .w1c, 0⟩
def BX_Q_STS_DROPPING : Fld := ⟨.BX_Q_STS, 60, 60, .ro, 0⟩
def BX_Q_STS_OPEN : Fld := ⟨.BX_Q_STS, 59, 59, .ro, 0⟩
def BX_Q_STS_PACKET : Fld := ⟨.BX_Q_STS, 58, 58, .ro, 0⟩
def BX_Q_STS_DUAL : Fld := ⟨.BX_Q_STS, 57, 57, .ro, 0⟩
def BX_Q_STS_CNT_CLR : Fld := ⟨.BX_Q_STS, 56, 56, .wo, 0⟩
def BX_Q_STS_CAPACITY : Fld := ⟨.BX_Q_STS, 55, 40, .ro, 0⟩
def BX_Q_STS_DEPTH : Fld := ⟨.BX_Q_STS, 39, 24, .ro, 0⟩
def BX_Q_STS_OPEN_WORDS : Fld := ⟨.BX_Q_STS, 23, 8, .ro, 0⟩

/-! BX_Q_CNT: Table 4-7. -/
def BX_Q_CNT_UNDERRUNS : Fld := ⟨.BX_Q_CNT, 63, 48, .ro, 0⟩
def BX_Q_CNT_ABORTS : Fld := ⟨.BX_Q_CNT, 47, 32, .ro, 0⟩
def BX_Q_CNT_CANCELS : Fld := ⟨.BX_Q_CNT, 31, 16, .ro, 0⟩
def BX_Q_CNT_PARITY_ERRS : Fld := ⟨.BX_Q_CNT, 15, 0, .ro, 0⟩

/-! BX_Q_DROP: Table 4-8. -/
def BX_Q_DROP_DROPPED_WORDS : Fld := ⟨.BX_Q_DROP, 63, 32, .ro, 0⟩
def BX_Q_DROP_OVERRUNS : Fld := ⟨.BX_Q_DROP, 31, 0, .ro, 0⟩

/-! ZX_EPC_ADDR: Table 5-6b. -/
def ZX_EPC_ADDR_ADMITTED : Fld := ⟨.ZX_EPC_ADDR, 31, 31, .ro, 0⟩
def ZX_EPC_ADDR_SELF : Fld := ⟨.ZX_EPC_ADDR, 30, 30, .ro, 0⟩
def ZX_EPC_ADDR_DIE_ADDR : Fld := ⟨.ZX_EPC_ADDR, 17, 0, .ro, 0⟩

/-! STM_STS: Table 5-13. -/
def STM_STS_LSTATE : Fld := ⟨.STM_STS, 63, 61, .ro, 0⟩
def STM_STS_LANE_MAP : Fld := ⟨.STM_STS, 60, 53, .ro, 0⟩
def STM_STS_LOCK : Fld := ⟨.STM_STS, 52, 49, .ro, 0⟩
def STM_STS_TX_NXT : Fld := ⟨.STM_STS, 48, 37, .ro, 0⟩
def STM_STS_TX_UNA : Fld := ⟨.STM_STS, 36, 25, .ro, 0⟩
def STM_STS_RX_NEXT : Fld := ⟨.STM_STS, 24, 13, .ro, 0⟩
def STM_STS_ATTEMPTS : Fld := ⟨.STM_STS, 12, 9, .ro, 0⟩
def STM_STS_REPLAY_OCC : Fld := ⟨.STM_STS, 6, 0, .ro, 0⟩

/-! ZX_STM_CNT: Table 5-14. -/
def ZX_STM_CNT_MALFORMED : Fld := ⟨.ZX_STM_CNT, 63, 48, .ro, 0⟩
def ZX_STM_CNT_VIOL : Fld := ⟨.ZX_STM_CNT, 47, 32, .ro, 0⟩
def ZX_STM_CNT_FLUSHED : Fld := ⟨.ZX_STM_CNT, 31, 16, .ro, 0⟩
def ZX_STM_CNT_DUP : Fld := ⟨.ZX_STM_CNT, 15, 0, .ro, 0⟩

/-! ZX_STM_PMA_LAT: Table 5-15. -/
def ZX_STM_PMA_LAT_TX_PS : Fld := ⟨.ZX_STM_PMA_LAT, 31, 16, .rw, 0x2580⟩
def ZX_STM_PMA_LAT_RX_PS : Fld := ⟨.ZX_STM_PMA_LAT, 15, 0, .rw, 0x3778⟩

/-! ZX_STM_CTRL: Table 5-15. -/
def ZX_STM_CTRL_RETRAIN : Fld := ⟨.ZX_STM_CTRL, 0, 0, .wo, 0⟩

/-! PORT_ERRS: Table 5-16. -/
def PORT_ERRS_MALFORMED : Fld := ⟨.PORT_ERRS, 63, 48, .ro, 0⟩
def PORT_ERRS_CRC : Fld := ⟨.PORT_ERRS, 47, 32, .ro, 0⟩
def PORT_ERRS_SEQ : Fld := ⟨.PORT_ERRS, 31, 16, .ro, 0⟩
def PORT_ERRS_VIOL : Fld := ⟨.PORT_ERRS, 15, 0, .ro, 0⟩

/-! BX_STM_PORT_MISC: Table 5-17. -/
def BX_STM_PORT_MISC_DUP_SNAP : Fld := ⟨.BX_STM_PORT_MISC, 63, 52, .ro, 0⟩
def BX_STM_PORT_MISC_ALARM_LIMITED : Fld := ⟨.BX_STM_PORT_MISC, 51, 40, .ro, 0⟩
def BX_STM_PORT_MISC_STOMPED : Fld := ⟨.BX_STM_PORT_MISC, 39, 28, .ro, 0⟩
def BX_STM_PORT_MISC_FLUSHED : Fld := ⟨.BX_STM_PORT_MISC, 27, 16, .ro, 0⟩
def BX_STM_PORT_MISC_RETRAINS : Fld := ⟨.BX_STM_PORT_MISC, 15, 0, .ro, 0⟩

/-! BX_STM_PORT_CTRL: Table 5-18. -/
def BX_STM_PORT_CTRL_HOLD : Fld := ⟨.BX_STM_PORT_CTRL, 31, 31, .rw, 0⟩
def BX_STM_PORT_CTRL_RETRAIN : Fld := ⟨.BX_STM_PORT_CTRL, 30, 30, .wo, 0⟩
def BX_STM_PORT_CTRL_ALARM_LIMIT : Fld := ⟨.BX_STM_PORT_CTRL, 15, 0, .rw, 0x40⟩

/-! TB_NOW_NS: Table 6-7. -/
def TB_NOW_NS_RC_NS : Fld := ⟨.TB_NOW_NS, 63, 0, .ro, 0⟩

/-! TB_NOW_FRAC: Table 6-7. -/
def TB_NOW_FRAC_RC_FRAC : Fld := ⟨.TB_NOW_FRAC, 15, 0, .ro, 0⟩

/-! TB_STS: Table 6-8. -/
def TB_STS_STATE : Fld := ⟨.TB_STS, 63, 62, .ro, 0⟩
def TB_STS_STEP_USED : Fld := ⟨.TB_STS, 61, 61, .ro, 0⟩
def TB_STS_RESYNC_GRANT : Fld := ⟨.TB_STS, 60, 60, .ro, 0⟩
def TB_STS_SRC_OK : Fld := ⟨.TB_STS, 59, 59, .ro, 0⟩
def TB_STS_STEPS_REFUSED : Fld := ⟨.TB_STS, 47, 32, .ro, 0⟩
def TB_STS_CLAMPS : Fld := ⟨.TB_STS, 31, 16, .ro, 0⟩
def TB_STS_LOCK_LOSSES : Fld := ⟨.TB_STS, 15, 0, .ro, 0⟩

/-! TB_OFFSET: Table 6-9. -/
def TB_OFFSET_OFFSET : Fld := ⟨.TB_OFFSET, 63, 32, .ro, 0⟩
def TB_OFFSET_DELAY : Fld := ⟨.TB_OFFSET, 31, 0, .ro, 0⟩

/-! TB_INC: Table 6-9. -/
def TB_INC_INC : Fld := ⟨.TB_INC, 39, 0, .ro, 0x140000000⟩

/-! TB_SERVO: Table 6-10. -/
def TB_SERVO_KP_SHIFT : Fld := ⟨.TB_SERVO, 63, 60, .rw, 2⟩
def TB_SERVO_KI_SHIFT : Fld := ⟨.TB_SERVO, 59, 56, .rw, 6⟩
def TB_SERVO_STEP_NS : Fld := ⟨.TB_SERVO, 55, 40, .rw, 0x3e8⟩
def TB_SERVO_UNLOCK_NS : Fld := ⟨.TB_SERVO, 39, 24, .rw, 0x64⟩
def TB_SERVO_LOCK_NS : Fld := ⟨.TB_SERVO, 23, 16, .rw, 2⟩
def TB_SERVO_HOLDOVER_MS : Fld := ⟨.TB_SERVO, 15, 0, .rw, 0x3e8⟩

/-! ZX_LAC_TGT: Table 6-12. -/
def ZX_LAC_TGT_TGT_NS : Fld := ⟨.ZX_LAC_TGT, 63, 0, .rw, 0⟩

/-! ZX_LAC_CFG: Table 6-12. -/
def ZX_LAC_CFG_ARM : Fld := ⟨.ZX_LAC_CFG, 63, 63, .rw, 0⟩
def ZX_LAC_CFG_PERIODIC : Fld := ⟨.ZX_LAC_CFG, 62, 62, .rw, 0⟩
def ZX_LAC_CFG_LATE_FIRE : Fld := ⟨.ZX_LAC_CFG, 61, 61, .rw, 0⟩
def ZX_LAC_CFG_WIDTH : Fld := ⟨.ZX_LAC_CFG, 55, 48, .rw, 1⟩
def ZX_LAC_CFG_PERIOD_NS : Fld := ⟨.ZX_LAC_CFG, 47, 16, .rw, 0⟩
def ZX_LAC_CFG_TGT_FRAC : Fld := ⟨.ZX_LAC_CFG, 15, 0, .rw, 0⟩

/-! ZX_TB_TAP_STOP: Table 6-13. -/
def ZX_TB_TAP_STOP_STOPS : Fld := ⟨.ZX_TB_TAP_STOP, 63, 32, .ro, 0⟩
def ZX_TB_TAP_STOP_STOP_NS : Fld := ⟨.ZX_TB_TAP_STOP, 31, 0, .ro, 0⟩

/-! BX_TB_SRC: Table 6-14. -/
def BX_TB_SRC_MODE : Fld := ⟨.BX_TB_SRC, 63, 62, .rw, 0⟩
def BX_TB_SRC_PRIMARY : Fld := ⟨.BX_TB_SRC, 61, 57, .rw, 0⟩
def BX_TB_SRC_BACKUP : Fld := ⟨.BX_TB_SRC, 56, 52, .rw, 0⟩
def BX_TB_SRC_BACKUP_EN : Fld := ⟨.BX_TB_SRC, 51, 51, .rw, 0⟩
def BX_TB_SRC_DOMAIN : Fld := ⟨.BX_TB_SRC, 47, 40, .rw, 0⟩
def BX_TB_SRC_ASYM_PS : Fld := ⟨.BX_TB_SRC, 31, 16, .rw, 0⟩
def BX_TB_SRC_SYNC_PERIOD_US : Fld := ⟨.BX_TB_SRC, 15, 0, .rw, 0x7d⟩

/-! BX_TB_TOD: Table 6-15. -/
def BX_TB_TOD_TOD_VALID : Fld := ⟨.BX_TB_TOD, 63, 63, .ro, 0⟩
def BX_TB_TOD_CARD_HOLDOVER : Fld := ⟨.BX_TB_TOD, 62, 62, .ro, 0⟩
def BX_TB_TOD_CRC_ERRS : Fld := ⟨.BX_TB_TOD, 47, 32, .ro, 0⟩
def BX_TB_TOD_PPS_FAULTS : Fld := ⟨.BX_TB_TOD, 31, 16, .ro, 0⟩
def BX_TB_TOD_TOD_MISMATCH : Fld := ⟨.BX_TB_TOD, 15, 0, .ro, 0⟩

/-! BX_TB_PPS: Table 6-15. -/
def BX_TB_PPS_EN : Fld := ⟨.BX_TB_PPS, 63, 63, .rw, 0⟩
def BX_TB_PPS_WIDTH_NS : Fld := ⟨.BX_TB_PPS, 31, 0, .rw, 0x186a0⟩

/-! BLZ_CFG: Table 7-9. -/
def BLZ_CFG_EN : Fld := ⟨.BLZ_CFG, 63, 63, .rw, 0⟩
def BLZ_CFG_MODE : Fld := ⟨.BLZ_CFG, 62, 61, .rw, 0⟩
def BLZ_CFG_WIDTH16 : Fld := ⟨.BLZ_CFG, 60, 60, .rw, 0⟩
def BLZ_CFG_REFIN : Fld := ⟨.BLZ_CFG, 59, 59, .rw, 1⟩
def BLZ_CFG_REFOUT : Fld := ⟨.BLZ_CFG, 58, 58, .rw, 1⟩
def BLZ_CFG_ADDR_FOLD : Fld := ⟨.BLZ_CFG, 57, 57, .rw, 1⟩
def BLZ_CFG_SEQ_FOLD : Fld := ⟨.BLZ_CFG, 56, 56, .rw, 1⟩
def BLZ_CFG_POISON : Fld := ⟨.BLZ_CFG, 55, 55, .rw, 1⟩
def BLZ_CFG_IRQ_EN : Fld := ⟨.BLZ_CFG, 54, 54, .rw, 0⟩
def BLZ_CFG_REPORT_OK : Fld := ⟨.BLZ_CFG, 53, 53, .rw, 0⟩
def BLZ_CFG_BLOCK : Fld := ⟨.BLZ_CFG, 52, 49, .rw, 4⟩
def BLZ_CFG_FEED_W : Fld := ⟨.BLZ_CFG, 48, 47, .rw, 3⟩
def BLZ_CFG_DTAP : Fld := ⟨.BLZ_CFG, 46, 40, .rw, 0⟩
def BLZ_CFG_CTAP : Fld := ⟨.BLZ_CFG, 39, 33, .rw, 0⟩
def BLZ_CFG_CGRP : Fld := ⟨.BLZ_CFG, 32, 30, .rw, 0⟩

/-! BLZ_POLY: Table 7-10. -/
def BLZ_POLY_POLY : Fld := ⟨.BLZ_POLY, 63, 32, .rw, 0x1edc6f41⟩
def BLZ_POLY_INIT : Fld := ⟨.BLZ_POLY, 31, 0, .rw, 0xffffffff⟩

/-! BLZ_XOROUT: Table 7-10. -/
def BLZ_XOROUT_XOROUT : Fld := ⟨.BLZ_XOROUT, 31, 0, .rw, 0xffffffff⟩

/-! BLZ_CNT0: Table 7-11. -/
def BLZ_CNT0_CHECKED : Fld := ⟨.BLZ_CNT0, 63, 32, .ro, 0⟩
def BLZ_CNT0_MISMATCH : Fld := ⟨.BLZ_CNT0, 31, 0, .ro, 0⟩

/-! BLZ_CNT1: Table 7-11. -/
def BLZ_CNT1_STALE : Fld := ⟨.BLZ_CNT1, 63, 48, .ro, 0⟩
def BLZ_CNT1_CORRUPT : Fld := ⟨.BLZ_CNT1, 47, 32, .ro, 0⟩
def BLZ_CNT1_UNVERIFIED : Fld := ⟨.BLZ_CNT1, 31, 16, .ro, 0⟩
def BLZ_CNT1_MALFORMED : Fld := ⟨.BLZ_CNT1, 15, 0, .ro, 0⟩

/-! BLZ_LAST: Table 7-12. -/
def BLZ_LAST_ADDR : Fld := ⟨.BLZ_LAST, 63, 24, .ro, 0⟩
def BLZ_LAST_OUTCOME : Fld := ⟨.BLZ_LAST, 23, 20, .ro, 0⟩
def BLZ_LAST_VALID : Fld := ⟨.BLZ_LAST, 19, 19, .ro, 0⟩
def BLZ_LAST_TAG : Fld := ⟨.BLZ_LAST, 15, 0, .ro, 0⟩

/-! ZX_BLZ_RF: Table 7-12. -/
def ZX_BLZ_RF_ADDR : Fld := ⟨.ZX_BLZ_RF, 63, 24, .ro, 0⟩
def ZX_BLZ_RF_OUTCOME : Fld := ⟨.ZX_BLZ_RF, 23, 20, .ro, 0⟩
def ZX_BLZ_RF_VALID : Fld := ⟨.ZX_BLZ_RF, 19, 19, .ro, 0⟩
def ZX_BLZ_RF_TAG : Fld := ⟨.ZX_BLZ_RF, 15, 0, .ro, 0⟩

/-! ZX_BLZ_UCTRL: Table 7-13. -/
def ZX_BLZ_UCTRL_FLUSH_RF : Fld := ⟨.ZX_BLZ_UCTRL, 1, 1, .wo, 0⟩
def ZX_BLZ_UCTRL_CNT_CLR : Fld := ⟨.ZX_BLZ_UCTRL, 0, 0, .wo, 0⟩

/-! ZX_BLZ_STS: Table 7-14. -/
def ZX_BLZ_STS_PSN_PEND : Fld := ⟨.ZX_BLZ_STS, 63, 48, .ro, 0⟩
def ZX_BLZ_STS_PSN_OVF : Fld := ⟨.ZX_BLZ_STS, 47, 32, .ro, 0⟩
def ZX_BLZ_STS_REPORT_LOST : Fld := ⟨.ZX_BLZ_STS, 31, 0, .ro, 0⟩

/-! ZX_BLZ_CTRL: Table 7-14. -/
def ZX_BLZ_CTRL_REFETCH_US : Fld := ⟨.ZX_BLZ_CTRL, 15, 0, .rw, 0x64⟩

/-! BX_BLZ_PSN_CNT0: Table 7-15. -/
def BX_BLZ_PSN_CNT0_REDUCTION : Fld := ⟨.BX_BLZ_PSN_CNT0, 63, 48, .ro, 0⟩
def BX_BLZ_PSN_CNT0_GROVE : Fld := ⟨.BX_BLZ_PSN_CNT0, 47, 32, .ro, 0⟩
def BX_BLZ_PSN_CNT0_REPLAY : Fld := ⟨.BX_BLZ_PSN_CNT0, 31, 16, .ro, 0⟩
def BX_BLZ_PSN_CNT0_DMA : Fld := ⟨.BX_BLZ_PSN_CNT0, 15, 0, .ro, 0⟩

/-! BX_BLZ_PSN_CNT1: Table 7-15. -/
def BX_BLZ_PSN_CNT1_CODEC : Fld := ⟨.BX_BLZ_PSN_CNT1, 63, 48, .ro, 0⟩
def BX_BLZ_PSN_CNT1_CANOPY : Fld := ⟨.BX_BLZ_PSN_CNT1, 47, 32, .ro, 0⟩
def BX_BLZ_PSN_CNT1_WARDEN : Fld := ⟨.BX_BLZ_PSN_CNT1, 31, 16, .ro, 0⟩

/-! BX_RED_SLOT: Table 8-16. -/
def BX_RED_SLOT_EN : Fld := ⟨.BX_RED_SLOT, 63, 63, .ro, 0⟩
def BX_RED_SLOT_OP : Fld := ⟨.BX_RED_SLOT, 62, 60, .ro, 0⟩
def BX_RED_SLOT_SRC_KIND : Fld := ⟨.BX_RED_SLOT, 59, 57, .ro, 0⟩
def BX_RED_SLOT_SRC_INDEX : Fld := ⟨.BX_RED_SLOT, 56, 43, .ro, 0⟩
def BX_RED_SLOT_TENANT_VIEW : Fld := ⟨.BX_RED_SLOT, 42, 42, .ro, 0⟩
def BX_RED_SLOT_HSHIFT : Fld := ⟨.BX_RED_SLOT, 41, 36, .ro, 0⟩
def BX_RED_SLOT_BUCKETS : Fld := ⟨.BX_RED_SLOT, 35, 29, .ro, 0⟩
def BX_RED_SLOT_K : Fld := ⟨.BX_RED_SLOT, 28, 24, .ro, 0⟩

/-! BX_RED_SLOT_HLO: Table 8-17. -/
def BX_RED_SLOT_HLO_HLO : Fld := ⟨.BX_RED_SLOT_HLO, 63, 0, .ro, 0⟩

/-! BX_RED_CTRL: Table 8-18. -/
def BX_RED_CTRL_FLUSH_US : Fld := ⟨.BX_RED_CTRL, 63, 48, .rw, 0x3c⟩
def BX_RED_CTRL_HOP_US : Fld := ⟨.BX_RED_CTRL, 47, 40, .rw, 5⟩

/-! BX_RED_STS: Table 8-19. -/
def BX_RED_STS_CTX_USED : Fld := ⟨.BX_RED_STS, 63, 59, .ro, 0⟩
def BX_RED_STS_OLDEST_CTX : Fld := ⟨.BX_RED_STS, 47, 0, .ro, 0⟩

/-! BX_RED_LOG: Table 8-19. -/
def BX_RED_LOG_VALID : Fld := ⟨.BX_RED_LOG, 63, 63, .ro, 0⟩
def BX_RED_LOG_OLDEST : Fld := ⟨.BX_RED_LOG, 47, 0, .ro, 0⟩

/-! BX_RED_CNT0: Table 8-20. -/
def BX_RED_CNT0_PARTIALS_SENT : Fld := ⟨.BX_RED_CNT0, 63, 32, .ro, 0⟩
def BX_RED_CNT0_PARTIALS_RCVD : Fld := ⟨.BX_RED_CNT0, 31, 0, .ro, 0⟩

/-! BX_RED_CNT1: Table 8-20. -/
def BX_RED_CNT1_OVERLAP : Fld := ⟨.BX_RED_CNT1, 63, 48, .ro, 0⟩
def BX_RED_CNT1_GEN_MISMATCH : Fld := ⟨.BX_RED_CNT1, 47, 32, .ro, 0⟩
def BX_RED_CNT1_LOST_ORIGIN : Fld := ⟨.BX_RED_CNT1, 31, 16, .ro, 0⟩
def BX_RED_CNT1_RECOMPUTE_DUP : Fld := ⟨.BX_RED_CNT1, 15, 0, .ro, 0⟩

/-! BX_RED_CNT2: Table 8-20. -/
def BX_RED_CNT2_REBUILDS : Fld := ⟨.BX_RED_CNT2, 63, 48, .ro, 0⟩
def BX_RED_CNT2_UNENROLLED : Fld := ⟨.BX_RED_CNT2, 47, 32, .ro, 0⟩
def BX_RED_CNT2_STEPPED : Fld := ⟨.BX_RED_CNT2, 31, 16, .ro, 0⟩
def BX_RED_CNT2_CTX_WAIT : Fld := ⟨.BX_RED_CNT2, 15, 0, .ro, 0⟩

/-! BX_FB_MAP: Table 8-21. -/
def BX_FB_MAP_OP : Fld := ⟨.BX_FB_MAP, 63, 60, .ro, 0⟩
def BX_FB_MAP_A_KIND : Fld := ⟨.BX_FB_MAP, 59, 57, .ro, 0⟩
def BX_FB_MAP_A_INDEX : Fld := ⟨.BX_FB_MAP, 56, 43, .ro, 0⟩
def BX_FB_MAP_B_KIND : Fld := ⟨.BX_FB_MAP, 42, 40, .ro, 0⟩
def BX_FB_MAP_B_INDEX : Fld := ⟨.BX_FB_MAP, 39, 26, .ro, 0⟩
def BX_FB_MAP_SLOT : Fld := ⟨.BX_FB_MAP, 25, 14, .ro, 0⟩
def BX_FB_MAP_SCALE : Fld := ⟨.BX_FB_MAP, 13, 6, .ro, 0⟩

/-! BX_FB_CTRL: Table 8-22. -/
def BX_FB_CTRL_NFEAT : Fld := ⟨.BX_FB_CTRL, 63, 51, .ro, 0⟩
def BX_FB_CTRL_ON_PROV : Fld := ⟨.BX_FB_CTRL, 50, 50, .rw, 0⟩

/-! BX_FB_STS: Table 8-23. -/
def BX_FB_STS_EPOCH : Fld := ⟨.BX_FB_STS, 63, 16, .ro, 0⟩
def BX_FB_STS_FORM : Fld := ⟨.BX_FB_STS, 15, 15, .ro, 0⟩
def BX_FB_STS_REVISION : Fld := ⟨.BX_FB_STS, 11, 0, .ro, 0⟩

/-! BX_FB_CNT: Table 8-23. -/
def BX_FB_CNT_VECTORS : Fld := ⟨.BX_FB_CNT, 63, 32, .ro, 0⟩
def BX_FB_CNT_MISSING : Fld := ⟨.BX_FB_CNT, 31, 0, .ro, 0⟩

/-! BX_GRV_LANE_CTRL: Table 9-19. -/
def BX_GRV_LANE_CTRL_BANK_EN : Fld := ⟨.BX_GRV_LANE_CTRL, 19, 16, .rw, 0xf⟩
def BX_GRV_LANE_CTRL_EN : Fld := ⟨.BX_GRV_LANE_CTRL, 15, 0, .rw, 0xffff⟩

/-! BX_GRV_SEL: Table 9-20. -/
def BX_GRV_SEL_EN : Fld := ⟨.BX_GRV_SEL, 63, 63, .ro, 0⟩
def BX_GRV_SEL_INPUT : Fld := ⟨.BX_GRV_SEL, 62, 62, .ro, 0⟩
def BX_GRV_SEL_FWD : Fld := ⟨.BX_GRV_SEL, 61, 61, .ro, 0⟩
def BX_GRV_SEL_SLOT : Fld := ⟨.BX_GRV_SEL, 55, 52, .ro, 0⟩

/-! BX_GRV_SEL_DIG: Table 9-20a. -/
def BX_GRV_SEL_DIG_DIG : Fld := ⟨.BX_GRV_SEL_DIG, 63, 0, .ro, 0⟩

/-! BX_GRV_GRS_DIG: Table 9-20a. -/
def BX_GRV_GRS_DIG_DIG : Fld := ⟨.BX_GRV_GRS_DIG, 63, 0, .ro, 0⟩

/-! BX_GRV_THR: Table 9-21. -/
def BX_GRV_THR_VOTE_MIN : Fld := ⟨.BX_GRV_THR, 31, 0, .ro, 0⟩

/-! BX_GRV_AMASK: Table 9-21. -/
def BX_GRV_AMASK_AMASK : Fld := ⟨.BX_GRV_AMASK, 63, 0, .ro, 0⟩

/-! BX_GRV_SLOT_INFO: Table 9-22. -/
def BX_GRV_SLOT_INFO_VALID : Fld := ⟨.BX_GRV_SLOT_INFO, 63, 63, .ro, 0⟩
def BX_GRV_SLOT_INFO_FORM : Fld := ⟨.BX_GRV_SLOT_INFO, 62, 62, .ro, 0⟩
def BX_GRV_SLOT_INFO_SELECTED : Fld := ⟨.BX_GRV_SLOT_INFO, 61, 61, .ro, 0⟩
def BX_GRV_SLOT_INFO_BOUND : Fld := ⟨.BX_GRV_SLOT_INFO, 60, 60, .ro, 0⟩
def BX_GRV_SLOT_INFO_DEPTH : Fld := ⟨.BX_GRV_SLOT_INFO, 59, 56, .ro, 0⟩
def BX_GRV_SLOT_INFO_PART : Fld := ⟨.BX_GRV_SLOT_INFO, 55, 53, .ro, 0⟩
def BX_GRV_SLOT_INFO_PART_CNT_M1 : Fld := ⟨.BX_GRV_SLOT_INFO, 52, 50, .ro, 0⟩
def BX_GRV_SLOT_INFO_NTREES_M1 : Fld := ⟨.BX_GRV_SLOT_INFO, 49, 36, .ro, 0⟩
def BX_GRV_SLOT_INFO_MODEL_ID : Fld := ⟨.BX_GRV_SLOT_INFO, 31, 0, .ro, 0⟩

/-! BX_GRV_SPLIT: Table 9-23. -/
def BX_GRV_SPLIT_WAIT_US : Fld := ⟨.BX_GRV_SPLIT, 15, 0, .rw, 0x14⟩

/-! BX_GRV_GRS_CHK: Table 9-23. -/
def BX_GRV_GRS_CHK_EN : Fld := ⟨.BX_GRV_GRS_CHK, 63, 63, .rw, 0⟩
def BX_GRV_GRS_CHK_EVERY : Fld := ⟨.BX_GRV_GRS_CHK, 15, 0, .rw, 0x40⟩

/-! BX_GRV_GRS_SEL: Table 9-24. -/
def BX_GRV_GRS_SEL_EN : Fld := ⟨.BX_GRV_GRS_SEL, 63, 63, .ro, 0⟩
def BX_GRV_GRS_SEL_SLOT : Fld := ⟨.BX_GRV_GRS_SEL, 59, 56, .ro, 0⟩

/-! BX_GRV_CNT0: Table 9-25. -/
def BX_GRV_CNT0_VECTORS : Fld := ⟨.BX_GRV_CNT0, 63, 32, .ro, 0⟩
def BX_GRV_CNT0_ALARMS : Fld := ⟨.BX_GRV_CNT0, 31, 0, .ro, 0⟩

/-! BX_GRV_CNT1: Table 9-25. -/
def BX_GRV_CNT1_ABSTAINS : Fld := ⟨.BX_GRV_CNT1, 63, 52, .ro, 0⟩
def BX_GRV_CNT1_PART_MISSING : Fld := ⟨.BX_GRV_CNT1, 51, 40, .ro, 0⟩
def BX_GRV_CNT1_FAULTS : Fld := ⟨.BX_GRV_CNT1, 39, 28, .ro, 0⟩
def BX_GRV_CNT1_GRS_MISMATCH : Fld := ⟨.BX_GRV_CNT1, 27, 20, .ro, 0⟩
def BX_GRV_CNT1_PEER_BAD : Fld := ⟨.BX_GRV_CNT1, 19, 8, .ro, 0⟩
def BX_GRV_CNT1_NO_MODEL : Fld := ⟨.BX_GRV_CNT1, 7, 0, .ro, 0⟩

/-! ZX_GRS_STS: Table 9-26. -/
def ZX_GRS_STS_IMG_VALID : Fld := ⟨.ZX_GRS_STS, 63, 63, .ro, 0⟩
def ZX_GRS_STS_IMG_ERR : Fld := ⟨.ZX_GRS_STS, 62, 62, .ro, 0⟩
def ZX_GRS_STS_STAGED_VALID : Fld := ⟨.ZX_GRS_STS, 61, 61, .ro, 0⟩
def ZX_GRS_STS_GEN : Fld := ⟨.ZX_GRS_STS, 47, 32, .ro, 0⟩
def ZX_GRS_STS_MODEL_ID : Fld := ⟨.ZX_GRS_STS, 31, 0, .ro, 0⟩

/-! BX_COR_GRP_CFG: Table 10-12. -/
def BX_COR_GRP_CFG_EN : Fld := ⟨.BX_COR_GRP_CFG, 63, 63, .ro, 0⟩
def BX_COR_GRP_CFG_LINE : Fld := ⟨.BX_COR_GRP_CFG, 59, 56, .ro, 0⟩
def BX_COR_GRP_CFG_ALPHA_SHIFT : Fld := ⟨.BX_COR_GRP_CFG, 55, 52, .ro, 3⟩
def BX_COR_GRP_CFG_LAG_HOLD : Fld := ⟨.BX_COR_GRP_CFG, 51, 48, .ro, 4⟩
def BX_COR_GRP_CFG_LAG_THR : Fld := ⟨.BX_COR_GRP_CFG, 47, 32, .ro, 0xb333⟩
def BX_COR_GRP_CFG_NMEMB : Fld := ⟨.BX_COR_GRP_CFG, 31, 13, .ro, 0⟩

/-! BX_COR_GRP_TIME: Table 10-12. -/
def BX_COR_GRP_TIME_WINDOW_NS : Fld := ⟨.BX_COR_GRP_TIME, 63, 32, .ro, 0⟩
def BX_COR_GRP_TIME_DEADLINE_NS : Fld := ⟨.BX_COR_GRP_TIME, 31, 0, .ro, 0⟩

/-! BX_COR_CTRL: Table 10-13. -/
def BX_COR_CTRL_BAR_WAIT_US : Fld := ⟨.BX_COR_CTRL, 63, 48, .rw, 0x3e8⟩
def BX_COR_CTRL_DEFER_MS : Fld := ⟨.BX_COR_CTRL, 47, 32, .rw, 0xc8⟩
def BX_COR_CTRL_TEST_RUN_MS : Fld := ⟨.BX_COR_CTRL, 31, 16, .rw, 0x7d0⟩
def BX_COR_CTRL_POP_MIN : Fld := ⟨.BX_COR_CTRL, 15, 0, .rw, 8⟩

/-! BX_COR_HEALTH: Table 10-14. -/
def BX_COR_HEALTH_W_CE : Fld := ⟨.BX_COR_HEALTH, 63, 48, .ro, 1⟩
def BX_COR_HEALTH_W_RT : Fld := ⟨.BX_COR_HEALTH, 47, 32, .ro, 1⟩
def BX_COR_HEALTH_W_RN : Fld := ⟨.BX_COR_HEALTH, 31, 16, .ro, 0x40⟩
def BX_COR_HEALTH_H_SHIFT : Fld := ⟨.BX_COR_HEALTH, 15, 12, .ro, 0⟩
def BX_COR_HEALTH_HEALTH_HOLD : Fld := ⟨.BX_COR_HEALTH, 11, 8, .ro, 4⟩

/-! BX_COR_HEALTH_THR: Table 10-15. -/
def BX_COR_HEALTH_THR_HEALTH_THR : Fld := ⟨.BX_COR_HEALTH_THR, 9, 0, .ro, 0⟩

/-! BX_COR_BAND: Table 10-16. -/
def BX_COR_BAND_T_FEAT : Fld := ⟨.BX_COR_BAND, 63, 52, .ro, 0⟩
def BX_COR_BAND_T_BASE : Fld := ⟨.BX_COR_BAND, 51, 36, .ro, 0⟩
def BX_COR_BAND_T_STEP : Fld := ⟨.BX_COR_BAND, 35, 20, .ro, 0x140⟩

/-! BX_COR_LOAD: Table 10-16. -/
def BX_COR_LOAD_LOAD_FEAT : Fld := ⟨.BX_COR_LOAD, 63, 52, .ro, 0⟩
def BX_COR_LOAD_LOAD_THR : Fld := ⟨.BX_COR_LOAD, 31, 0, .ro, 0⟩

/-! BX_COR_DRIFT: Table 10-17. -/
def BX_COR_DRIFT_EN : Fld := ⟨.BX_COR_DRIFT, 63, 63, .ro, 0⟩
def BX_COR_DRIFT_PREAMBLE : Fld := ⟨.BX_COR_DRIFT, 62, 61, .ro, 0⟩
def BX_COR_DRIFT_DSHIFT : Fld := ⟨.BX_COR_DRIFT, 60, 57, .ro, 2⟩
def BX_COR_DRIFT_FEAT : Fld := ⟨.BX_COR_DRIFT, 56, 45, .ro, 0⟩
def BX_COR_DRIFT_UNIT : Fld := ⟨.BX_COR_DRIFT, 44, 35, .ro, 0x3ff⟩
def BX_COR_DRIFT_THR : Fld := ⟨.BX_COR_DRIFT, 31, 0, .ro, 0x20000⟩

/-! BX_COR_ACT: Table 10-18. -/
def BX_COR_ACT_GROVE_STAGES : Fld := ⟨.BX_COR_ACT, 63, 56, .ro, 0⟩
def BX_COR_ACT_ACT : Fld := ⟨.BX_COR_ACT, 15, 0, .ro, 0x11f7⟩

/-! BX_COR_DIE_MARK: Table 10-19. -/
def BX_COR_DIE_MARK_REASONS : Fld := ⟨.BX_COR_DIE_MARK, 63, 56, .ro, 0⟩
def BX_COR_DIE_MARK_TSTATE : Fld := ⟨.BX_COR_DIE_MARK, 55, 54, .ro, 0⟩
def BX_COR_DIE_MARK_OVERDUE : Fld := ⟨.BX_COR_DIE_MARK, 53, 53, .ro, 0⟩
def BX_COR_DIE_MARK_BIN_VALID : Fld := ⟨.BX_COR_DIE_MARK, 52, 52, .ro, 0⟩
def BX_COR_DIE_MARK_BIN : Fld := ⟨.BX_COR_DIE_MARK, 51, 43, .ro, 0⟩
def BX_COR_DIE_MARK_UNIT : Fld := ⟨.BX_COR_DIE_MARK, 42, 33, .ro, 0⟩
def BX_COR_DIE_MARK_TEST_ID : Fld := ⟨.BX_COR_DIE_MARK, 31, 16, .ro, 0⟩
def BX_COR_DIE_MARK_LAG : Fld := ⟨.BX_COR_DIE_MARK, 15, 0, .ro, 0⟩

/-! BX_LKO_CFG: Table 10-20. -/
def BX_LKO_CFG_SUSPECT_AT : Fld := ⟨.BX_LKO_CFG, 63, 56, .ro, 3⟩
def BX_LKO_CFG_DEAD_AT : Fld := ⟨.BX_LKO_CFG, 55, 48, .ro, 8⟩
def BX_LKO_CFG_PROBE_US : Fld := ⟨.BX_LKO_CFG, 47, 32, .ro, 0x1f4⟩
def BX_LKO_CFG_PROBE_TRIES : Fld := ⟨.BX_LKO_CFG, 31, 28, .ro, 3⟩
def BX_LKO_CFG_AUTO_READMIT : Fld := ⟨.BX_LKO_CFG, 27, 27, .ro, 0⟩
def BX_LKO_CFG_READMIT_EPOCHS : Fld := ⟨.BX_LKO_CFG, 15, 0, .ro, 0x10⟩

/-! BX_LKO_DIE: Table 10-21. -/
def BX_LKO_DIE_STATE : Fld := ⟨.BX_LKO_DIE, 63, 62, .ro, 0⟩
def BX_LKO_DIE_PROBING : Fld := ⟨.BX_LKO_DIE, 61, 61, .ro, 0⟩
def BX_LKO_DIE_CAUSE : Fld := ⟨.BX_LKO_DIE, 60, 58, .ro, 0⟩
def BX_LKO_DIE_MISSED : Fld := ⟨.BX_LKO_DIE, 31, 24, .ro, 0⟩
def BX_LKO_DIE_HEARD_RUN : Fld := ⟨.BX_LKO_DIE, 23, 16, .ro, 0⟩
def BX_LKO_DIE_INCARNATION : Fld := ⟨.BX_LKO_DIE, 15, 0, .ro, 0⟩

/-! BX_COR_CNT0: Table 10-22. -/
def BX_COR_CNT0_SKIPPED : Fld := ⟨.BX_COR_CNT0, 63, 48, .ro, 0⟩
def BX_COR_CNT0_CUT : Fld := ⟨.BX_COR_CNT0, 47, 32, .ro, 0⟩
def BX_COR_CNT0_DUP_ARR : Fld := ⟨.BX_COR_CNT0, 31, 16, .ro, 0⟩
def BX_COR_CNT0_MISSED_ARR : Fld := ⟨.BX_COR_CNT0, 15, 0, .ro, 0⟩

/-! BX_COR_CNT1: Table 10-22. -/
def BX_COR_CNT1_UNBINNED : Fld := ⟨.BX_COR_CNT1, 63, 48, .ro, 0⟩
def BX_COR_CNT1_INSUFFICIENT : Fld := ⟨.BX_COR_CNT1, 47, 40, .ro, 0⟩
def BX_COR_CNT1_TESTS : Fld := ⟨.BX_COR_CNT1, 39, 28, .ro, 0⟩
def BX_COR_CNT1_OVERDUE : Fld := ⟨.BX_COR_CNT1, 27, 20, .ro, 0⟩
def BX_COR_CNT1_FAILS : Fld := ⟨.BX_COR_CNT1, 19, 12, .ro, 0⟩
def BX_COR_CNT1_PROBE_FAILS : Fld := ⟨.BX_COR_CNT1, 11, 0, .ro, 0⟩

/-! BX_RPL_ID: Table 11-15. -/
def BX_RPL_ID_APD_MAJOR : Fld := ⟨.BX_RPL_ID, 15, 8, .ro, 1⟩
def BX_RPL_ID_APD_MINOR : Fld := ⟨.BX_RPL_ID, 7, 0, .ro, 0⟩

/-! BX_RPL_CTRL: Table 11-15. -/
def BX_RPL_CTRL_EN : Fld := ⟨.BX_RPL_CTRL, 63, 63, .rw, 1⟩
def BX_RPL_CTRL_CONFIRM : Fld := ⟨.BX_RPL_CTRL, 62, 62, .rw, 1⟩
def BX_RPL_CTRL_KAT_PERIOD_MS : Fld := ⟨.BX_RPL_CTRL, 47, 32, .rw, 0xfa⟩

/-! BX_RPL_STS: Table 11-16. -/
def BX_RPL_STS_CLUSTERS : Fld := ⟨.BX_RPL_STS, 63, 60, .ro, 0xf⟩
def BX_RPL_STS_QUEUED : Fld := ⟨.BX_RPL_STS, 47, 32, .ro, 0⟩
def BX_RPL_STS_BUSY : Fld := ⟨.BX_RPL_STS, 31, 16, .ro, 0⟩
def BX_RPL_STS_ENABLED : Fld := ⟨.BX_RPL_STS, 15, 0, .ro, 0xffff⟩

/-! BX_RPL_CORE_MAP: Table 11-17. -/
def BX_RPL_CORE_MAP_CORES : Fld := ⟨.BX_RPL_CORE_MAP, 31, 0, .ro, 0xffffffff⟩

/-! BX_RPL_ENG_MAP: Table 11-17. -/
def BX_RPL_ENG_MAP_ENGINES : Fld := ⟨.BX_RPL_ENG_MAP, 63, 0, .ro, 0xffffffffffffffff⟩

/-! BX_RPL_CTX: Table 11-18. -/
def BX_RPL_CTX_STATE : Fld := ⟨.BX_RPL_CTX, 63, 62, .ro, 0⟩
def BX_RPL_CTX_PRIO : Fld := ⟨.BX_RPL_CTX, 61, 60, .ro, 0⟩
def BX_RPL_CTX_PARKED : Fld := ⟨.BX_RPL_CTX, 59, 59, .ro, 0⟩
def BX_RPL_CTX_BANK : Fld := ⟨.BX_RPL_CTX, 58, 58, .ro, 0⟩
def BX_RPL_CTX_APD_SLOT : Fld := ⟨.BX_RPL_CTX, 57, 52, .ro, 0⟩
def BX_RPL_CTX_JOB_TAG : Fld := ⟨.BX_RPL_CTX, 47, 32, .ro, 0⟩
def BX_RPL_CTX_TILES_DONE : Fld := ⟨.BX_RPL_CTX, 31, 0, .ro, 0⟩

/-! BX_RPL_APD: Table 11-19. -/
def BX_RPL_APD_VALID : Fld := ⟨.BX_RPL_APD, 63, 63, .ro, 0⟩
def BX_RPL_APD_IN_USE : Fld := ⟨.BX_RPL_APD, 62, 62, .ro, 0⟩
def BX_RPL_APD_VER_MINOR : Fld := ⟨.BX_RPL_APD, 55, 48, .ro, 0⟩
def BX_RPL_APD_APD_REV : Fld := ⟨.BX_RPL_APD, 47, 32, .ro, 0⟩
def BX_RPL_APD_APD_ID : Fld := ⟨.BX_RPL_APD, 31, 0, .ro, 0⟩

/-! BX_RPL_CNT0: Table 11-20. -/
def BX_RPL_CNT0_JOBS_DONE : Fld := ⟨.BX_RPL_CNT0, 63, 32, .ro, 0⟩
def BX_RPL_CNT0_MATCHES : Fld := ⟨.BX_RPL_CNT0, 31, 0, .ro, 0⟩

/-! BX_RPL_CNT1: Table 11-20. -/
def BX_RPL_CNT1_MISMATCH : Fld := ⟨.BX_RPL_CNT1, 63, 48, .ro, 0⟩
def BX_RPL_CNT1_NOTCOMPARABLE : Fld := ⟨.BX_RPL_CNT1, 47, 32, .ro, 0⟩
def BX_RPL_CNT1_NOT_REPLAYED : Fld := ⟨.BX_RPL_CNT1, 31, 16, .ro, 0⟩
def BX_RPL_CNT1_CONFIRM_FAIL : Fld := ⟨.BX_RPL_CNT1, 15, 0, .ro, 0⟩

/-! BX_RPL_CNT2: Table 11-20. -/
def BX_RPL_CNT2_PREEMPTS : Fld := ⟨.BX_RPL_CNT2, 63, 48, .ro, 0⟩
def BX_RPL_CNT2_XLATE_FREEZES : Fld := ⟨.BX_RPL_CNT2, 47, 32, .ro, 0⟩
def BX_RPL_CNT2_KAT_FAILS : Fld := ⟨.BX_RPL_CNT2, 31, 16, .ro, 0⟩
def BX_RPL_CNT2_RETIRED : Fld := ⟨.BX_RPL_CNT2, 15, 0, .ro, 0⟩

/-! BX_CMT_TEN_POLICY: Table 12-13. -/
def BX_CMT_TEN_POLICY_SC : Fld := ⟨.BX_CMT_TEN_POLICY, 63, 63, .rw, 0⟩
def BX_CMT_TEN_POLICY_GATE : Fld := ⟨.BX_CMT_TEN_POLICY, 62, 62, .rw, 0⟩
def BX_CMT_TEN_POLICY_HOLD_EXTERNAL : Fld := ⟨.BX_CMT_TEN_POLICY, 61, 61, .rw, 0⟩
def BX_CMT_TEN_POLICY_ON_UNCHECKED : Fld := ⟨.BX_CMT_TEN_POLICY, 60, 60, .rw, 1⟩
def BX_CMT_TEN_POLICY_AFTER_REVOKE : Fld := ⟨.BX_CMT_TEN_POLICY, 59, 56, .rw, 4⟩
def BX_CMT_TEN_POLICY_SAMPLE_PPM : Fld := ⟨.BX_CMT_TEN_POLICY, 51, 32, .rw, 0x2710⟩
def BX_CMT_TEN_POLICY_MAX_PENDING : Fld := ⟨.BX_CMT_TEN_POLICY, 31, 16, .rw, 0x400⟩
def BX_CMT_TEN_POLICY_LEDGER_LOG2 : Fld := ⟨.BX_CMT_TEN_POLICY, 4, 0, .rw, 0x10⟩

/-! BX_CMT_TEN_SEED: Table 12-14. -/
def BX_CMT_TEN_SEED_SAMPLE_SEED : Fld := ⟨.BX_CMT_TEN_SEED, 63, 0, .rw, 0⟩

/-! BX_CMT_LEDGER: Table 12-14. -/
def BX_CMT_LEDGER_NEXT_SEQ : Fld := ⟨.BX_CMT_LEDGER, 63, 16, .ro, 0⟩

/-! BX_CMT_CTRL: Table 12-15. -/
def BX_CMT_CTRL_EN : Fld := ⟨.BX_CMT_CTRL, 63, 63, .rw, 1⟩
def BX_CMT_CTRL_GATE_WAIT_MS : Fld := ⟨.BX_CMT_CTRL, 47, 32, .rw, 0x64⟩
def BX_CMT_CTRL_OPERAND_WAIT_MS : Fld := ⟨.BX_CMT_CTRL, 31, 16, .rw, 0x14⟩
def BX_CMT_CTRL_MIG_LEAD : Fld := ⟨.BX_CMT_CTRL, 15, 8, .rw, 4⟩

/-! BX_CMT_SUSPECT: Table 12-16. -/
def BX_CMT_SUSPECT_SUSPECT_PPM : Fld := ⟨.BX_CMT_SUSPECT, 63, 44, .rw, 0x3d090⟩
def BX_CMT_SUSPECT_BIN_PPM : Fld := ⟨.BX_CMT_SUSPECT, 43, 24, .rw, 0xf4240⟩
def BX_CMT_SUSPECT_MIN_SAMPLE_PPM : Fld := ⟨.BX_CMT_SUSPECT, 23, 4, .rw, 0x3e8⟩

/-! BX_CMT_STS: Table 12-17. -/
def BX_CMT_STS_JOBS : Fld := ⟨.BX_CMT_STS, 63, 51, .ro, 0⟩
def BX_CMT_STS_PENDING : Fld := ⟨.BX_CMT_STS, 50, 34, .ro, 0⟩
def BX_CMT_STS_REPLAY_JOBS : Fld := ⟨.BX_CMT_STS, 15, 0, .ro, 0⟩

/-! BX_CMT_CNT0: Table 12-18. -/
def BX_CMT_CNT0_ANNOUNCED : Fld := ⟨.BX_CMT_CNT0, 63, 32, .ro, 0⟩
def BX_CMT_CNT0_COMMITTED : Fld := ⟨.BX_CMT_CNT0, 31, 0, .ro, 0⟩

/-! BX_CMT_CNT1: Table 12-18. -/
def BX_CMT_CNT1_SELECTED : Fld := ⟨.BX_CMT_CNT1, 63, 32, .ro, 0⟩
def BX_CMT_CNT1_REVOKED : Fld := ⟨.BX_CMT_CNT1, 31, 16, .ro, 0⟩
def BX_CMT_CNT1_DEPENDENT : Fld := ⟨.BX_CMT_CNT1, 15, 0, .ro, 0⟩

/-! BX_CMT_CNT2: Table 12-18. -/
def BX_CMT_CNT2_STALE_PLACEMENT : Fld := ⟨.BX_CMT_CNT2, 63, 48, .ro, 0⟩
def BX_CMT_CNT2_DUP_STEP : Fld := ⟨.BX_CMT_CNT2, 47, 32, .ro, 0⟩
def BX_CMT_CNT2_UNCHECKED : Fld := ⟨.BX_CMT_CNT2, 31, 16, .ro, 0⟩
def BX_CMT_CNT2_NOTCOMPARABLE : Fld := ⟨.BX_CMT_CNT2, 15, 0, .ro, 0⟩

/-! BX_CMT_CNT3: Table 12-18. -/
def BX_CMT_CNT3_DETECTED : Fld := ⟨.BX_CMT_CNT3, 63, 48, .ro, 0⟩
def BX_CMT_CNT3_BLAZE : Fld := ⟨.BX_CMT_CNT3, 47, 32, .ro, 0⟩
def BX_CMT_CNT3_PLACEMENT_ERR : Fld := ⟨.BX_CMT_CNT3, 31, 16, .ro, 0⟩
def BX_CMT_CNT3_FAULTS : Fld := ⟨.BX_CMT_CNT3, 15, 0, .ro, 0⟩

/-! BX_CMT_CNT4: Table 12-18. -/
def BX_CMT_CNT4_LEDGER_OVERWRITES : Fld := ⟨.BX_CMT_CNT4, 63, 32, .ro, 0⟩
def BX_CMT_CNT4_FENCED_DROP : Fld := ⟨.BX_CMT_CNT4, 31, 16, .ro, 0⟩
def BX_CMT_CNT4_DIGEST_MISMATCH : Fld := ⟨.BX_CMT_CNT4, 15, 0, .ro, 0⟩

/-! BX_CNP_IDENT: Table 13-14. -/
def BX_CNP_IDENT_FLEET_ID : Fld := ⟨.BX_CNP_IDENT, 63, 48, .rws, 0⟩
def BX_CNP_IDENT_AGG_ID : Fld := ⟨.BX_CNP_IDENT, 47, 36, .rws, 0⟩
def BX_CNP_IDENT_ASSIGNED : Fld := ⟨.BX_CNP_IDENT, 35, 35, .rws, 0⟩
def BX_CNP_IDENT_BOOT : Fld := ⟨.BX_CNP_IDENT, 31, 0, .ro, 0⟩

/-! BX_CNP_DEV_UID: Table 13-14. -/
def BX_CNP_DEV_UID_DEV_UID : Fld := ⟨.BX_CNP_DEV_UID, 63, 0, .ro, 0⟩

/-! BX_CNP_PORT_STS: Table 13-15. -/
def BX_CNP_PORT_STS_LSTATE : Fld := ⟨.BX_CNP_PORT_STS, 63, 61, .ro, 0⟩
def BX_CNP_PORT_STS_PSTATE : Fld := ⟨.BX_CNP_PORT_STS, 60, 59, .ro, 0⟩
def BX_CNP_PORT_STS_NEIGH_AGG : Fld := ⟨.BX_CNP_PORT_STS, 58, 47, .ro, 0⟩
def BX_CNP_PORT_STS_NEIGH_PORT : Fld := ⟨.BX_CNP_PORT_STS, 46, 42, .ro, 0⟩
def BX_CNP_PORT_STS_LANE_MAP : Fld := ⟨.BX_CNP_PORT_STS, 41, 34, .ro, 0⟩
def BX_CNP_PORT_STS_ATTEMPTS : Fld := ⟨.BX_CNP_PORT_STS, 33, 30, .ro, 0⟩
def BX_CNP_PORT_STS_REPLAY_OCC : Fld := ⟨.BX_CNP_PORT_STS, 29, 22, .ro, 0⟩

/-! BX_CNP_PORT_SEQ: Table 13-15. -/
def BX_CNP_PORT_SEQ_TX_NXT : Fld := ⟨.BX_CNP_PORT_SEQ, 63, 48, .ro, 0⟩
def BX_CNP_PORT_SEQ_TX_UNA : Fld := ⟨.BX_CNP_PORT_SEQ, 47, 32, .ro, 0⟩
def BX_CNP_PORT_SEQ_RX_NEXT : Fld := ⟨.BX_CNP_PORT_SEQ, 31, 16, .ro, 0⟩

/-! BX_CNP_PORT_MISC: Table 13-16. -/
def BX_CNP_PORT_MISC_STOMPED_RX : Fld := ⟨.BX_CNP_PORT_MISC, 63, 52, .ro, 0⟩
def BX_CNP_PORT_MISC_CREDIT_VIOL : Fld := ⟨.BX_CNP_PORT_MISC, 51, 40, .ro, 0⟩
def BX_CNP_PORT_MISC_FENCED_DROP : Fld := ⟨.BX_CNP_PORT_MISC, 39, 28, .ro, 0⟩
def BX_CNP_PORT_MISC_ALARM_LIMITED : Fld := ⟨.BX_CNP_PORT_MISC, 27, 16, .ro, 0⟩
def BX_CNP_PORT_MISC_RETRAINS : Fld := ⟨.BX_CNP_PORT_MISC, 15, 0, .ro, 0⟩

/-! BX_CNP_PORT_CTRL: Table 13-16. -/
def BX_CNP_PORT_CTRL_HOLD : Fld := ⟨.BX_CNP_PORT_CTRL, 31, 31, .rw, 0⟩
def BX_CNP_PORT_CTRL_RETRAIN : Fld := ⟨.BX_CNP_PORT_CTRL, 30, 30, .wo, 0⟩
def BX_CNP_PORT_CTRL_ISOLATE : Fld := ⟨.BX_CNP_PORT_CTRL, 29, 29, .rw, 0⟩
def BX_CNP_PORT_CTRL_ALARM_LIMIT : Fld := ⟨.BX_CNP_PORT_CTRL, 15, 0, .rw, 0x100⟩

/-! BX_CNP_CTRL: Table 13-17. -/
def BX_CNP_CTRL_HB_US : Fld := ⟨.BX_CNP_CTRL, 63, 48, .rw, 0x64⟩
def BX_CNP_CTRL_LOST_US : Fld := ⟨.BX_CNP_CTRL, 47, 32, .rw, 0x3e8⟩
def BX_CNP_CTRL_REPEAT_US : Fld := ⟨.BX_CNP_CTRL, 31, 24, .rw, 0x14⟩
def BX_CNP_CTRL_RELAY_WAIT_US : Fld := ⟨.BX_CNP_CTRL, 23, 16, .rw, 0x64⟩
def BX_CNP_CTRL_LSA_REFRESH_MS : Fld := ⟨.BX_CNP_CTRL, 15, 8, .rw, 0x64⟩
def BX_CNP_CTRL_FENCE_LEAD_US : Fld := ⟨.BX_CNP_CTRL, 7, 0, .rw, 0x64⟩

/-! BX_CNP_FAB_STS: Table 13-18. -/
def BX_CNP_FAB_STS_ROLE : Fld := ⟨.BX_CNP_FAB_STS, 63, 62, .ro, 0⟩
def BX_CNP_FAB_STS_UNMIRRORED : Fld := ⟨.BX_CNP_FAB_STS, 61, 61, .ro, 0⟩
def BX_CNP_FAB_STS_ORPHANED : Fld := ⟨.BX_CNP_FAB_STS, 60, 60, .ro, 0⟩
def BX_CNP_FAB_STS_ACT_PARENT : Fld := ⟨.BX_CNP_FAB_STS, 59, 48, .ro, 0⟩
def BX_CNP_FAB_STS_ACT_BUDDY : Fld := ⟨.BX_CNP_FAB_STS, 47, 36, .ro, 0⟩
def BX_CNP_FAB_STS_ACT_ROOT : Fld := ⟨.BX_CNP_FAB_STS, 35, 24, .ro, 0⟩
def BX_CNP_FAB_STS_REACHABLE : Fld := ⟨.BX_CNP_FAB_STS, 23, 13, .ro, 0⟩

/-! BX_CNP_FENCE: Table 13-18. -/
def BX_CNP_FENCE_FENCED : Fld := ⟨.BX_CNP_FENCE, 63, 0, .ro, 0⟩

/-! BX_CNP_CNT0: Table 13-19. -/
def BX_CNP_CNT0_NOROUTE : Fld := ⟨.BX_CNP_CNT0, 63, 48, .ro, 0⟩
def BX_CNP_CNT0_TTL_EXPIRED : Fld := ⟨.BX_CNP_CNT0, 47, 32, .ro, 0⟩
def BX_CNP_CNT0_RELAY_TIMEOUT : Fld := ⟨.BX_CNP_CNT0, 31, 16, .ro, 0⟩
def BX_CNP_CNT0_DETOURS : Fld := ⟨.BX_CNP_CNT0, 15, 0, .ro, 0⟩

/-! BX_CNP_CNT1: Table 13-19. -/
def BX_CNP_CNT1_LOST_DECLARED : Fld := ⟨.BX_CNP_CNT1, 63, 48, .ro, 0⟩
def BX_CNP_CNT1_DUP_ID : Fld := ⟨.BX_CNP_CNT1, 47, 32, .ro, 0⟩
def BX_CNP_CNT1_FLEET_MISMATCH : Fld := ⟨.BX_CNP_CNT1, 31, 16, .ro, 0⟩
def BX_CNP_CNT1_LSA_ONEWAY : Fld := ⟨.BX_CNP_CNT1, 15, 0, .ro, 0⟩

/-! BX_MEM_REGION: Table 14-12. -/
def BX_MEM_REGION_NEXT_SIZE : Fld := ⟨.BX_MEM_REGION, 63, 48, .ro, 0⟩
def BX_MEM_REGION_SIZE : Fld := ⟨.BX_MEM_REGION, 47, 32, .ro, 0⟩
def BX_MEM_REGION_BASE : Fld := ⟨.BX_MEM_REGION, 31, 16, .ro, 0⟩

/-! BX_MEM_PART: Table 14-13. -/
def BX_MEM_PART_VALID : Fld := ⟨.BX_MEM_PART, 63, 63, .ro, 0⟩
def BX_MEM_PART_BASE : Fld := ⟨.BX_MEM_PART, 47, 32, .ro, 0⟩
def BX_MEM_PART_COUNT : Fld := ⟨.BX_MEM_PART, 31, 16, .ro, 0⟩
def BX_MEM_PART_LEDGER : Fld := ⟨.BX_MEM_PART, 15, 0, .ro, 0⟩

/-! BX_MEM_ECC: Table 14-13. -/
def BX_MEM_ECC_CE : Fld := ⟨.BX_MEM_ECC, 63, 40, .ro, 0⟩
def BX_MEM_ECC_UE : Fld := ⟨.BX_MEM_ECC, 39, 24, .ro, 0⟩
def BX_MEM_ECC_SCRUB_H : Fld := ⟨.BX_MEM_ECC, 7, 0, .rw, 0x18⟩

/-! BX_XLT_SPACE: Table 14-14. -/
def BX_XLT_SPACE_EN : Fld := ⟨.BX_XLT_SPACE, 63, 63, .rw, 0⟩
def BX_XLT_SPACE_L1_BASE : Fld := ⟨.BX_XLT_SPACE, 36, 12, .rw, 0⟩

/-! BX_XLT_FAULT: Table 14-14. -/
def BX_XLT_FAULT_CAUSE : Fld := ⟨.BX_XLT_FAULT, 63, 56, .ro, 0⟩
def BX_XLT_FAULT_SOURCE : Fld := ⟨.BX_XLT_FAULT, 55, 48, .ro, 0⟩
def BX_XLT_FAULT_SPACE : Fld := ⟨.BX_XLT_FAULT, 47, 41, .ro, 0⟩
def BX_XLT_FAULT_VA : Fld := ⟨.BX_XLT_FAULT, 36, 0, .ro, 0⟩

/-! BX_XLT_CNT: Table 14-15. -/
def BX_XLT_CNT_TLB_MISS : Fld := ⟨.BX_XLT_CNT, 63, 32, .ro, 0⟩
def BX_XLT_CNT_FAULTS : Fld := ⟨.BX_XLT_CNT, 31, 0, .ro, 0⟩

/-! BX_MEM_CNT: Table 14-15. -/
def BX_MEM_CNT_WIPED_GRANULES : Fld := ⟨.BX_MEM_CNT, 63, 32, .ro, 0⟩
def BX_MEM_CNT_ILOG_FULL : Fld := ⟨.BX_MEM_CNT, 31, 0, .ro, 0⟩

/-! BX_DMA_CH_CFG: Table 14-16. -/
def BX_DMA_CH_CFG_EN : Fld := ⟨.BX_DMA_CH_CFG, 63, 63, .ro, 0⟩
def BX_DMA_CH_CFG_CLASS : Fld := ⟨.BX_DMA_CH_CFG, 62, 62, .ro, 0⟩
def BX_DMA_CH_CFG_SPACE : Fld := ⟨.BX_DMA_CH_CFG, 61, 55, .ro, 0⟩
def BX_DMA_CH_CFG_FUNC : Fld := ⟨.BX_DMA_CH_CFG, 54, 49, .ro, 0⟩
def BX_DMA_CH_CFG_RING_LOG2 : Fld := ⟨.BX_DMA_CH_CFG, 48, 45, .ro, 4⟩
def BX_DMA_CH_CFG_WEIGHT : Fld := ⟨.BX_DMA_CH_CFG, 44, 37, .ro, 1⟩

/-! BX_DMA_CH_RING: Table 14-16. -/
def BX_DMA_CH_RING_BASE : Fld := ⟨.BX_DMA_CH_RING, 63, 6, .ro, 0⟩

/-! BX_DMA_CH_DB: Table 14-16. -/
def BX_DMA_CH_DB_TAIL : Fld := ⟨.BX_DMA_CH_DB, 15, 0, .rw, 0⟩

/-! BX_DMA_CH_STS: Table 14-17. -/
def BX_DMA_CH_STS_STATE : Fld := ⟨.BX_DMA_CH_STS, 63, 62, .ro, 3⟩
def BX_DMA_CH_STS_LAST_STATUS : Fld := ⟨.BX_DMA_CH_STS, 61, 58, .ro, 0⟩
def BX_DMA_CH_STS_HEAD : Fld := ⟨.BX_DMA_CH_STS, 47, 32, .ro, 0⟩
def BX_DMA_CH_STS_OFFSET : Fld := ⟨.BX_DMA_CH_STS, 31, 0, .ro, 0⟩

/-! BX_DMA_CNT: Table 14-17. -/
def BX_DMA_CNT_PREEMPTS : Fld := ⟨.BX_DMA_CNT, 63, 32, .ro, 0⟩
def BX_DMA_CNT_HALTS : Fld := ⟨.BX_DMA_CNT, 31, 16, .ro, 0⟩
def BX_DMA_CNT_HOST_ERRS : Fld := ⟨.BX_DMA_CNT, 15, 0, .ro, 0⟩

/-! BX_TRS_CTRL: Table 14-18. -/
def BX_TRS_CTRL_FULL : Fld := ⟨.BX_TRS_CTRL, 63, 63, .rw, 0⟩
def BX_TRS_CTRL_FLUSH_US : Fld := ⟨.BX_TRS_CTRL, 15, 0, .rw, 0x3e8⟩

/-! BX_TRS_DIE_CFG: Table 14-18. -/
def BX_TRS_DIE_CFG_TRACE_EN : Fld := ⟨.BX_TRS_DIE_CFG, 31, 24, .rw, 0⟩
def BX_TRS_DIE_CFG_DUMP_EN : Fld := ⟨.BX_TRS_DIE_CFG, 23, 23, .rw, 1⟩
def BX_TRS_DIE_CFG_CTR_EN : Fld := ⟨.BX_TRS_DIE_CFG, 22, 22, .rw, 0⟩
def BX_TRS_DIE_CFG_GAUGE_EN : Fld := ⟨.BX_TRS_DIE_CFG, 21, 21, .rw, 0⟩

/-! BX_TRS_STS: Table 14-20. -/
def BX_TRS_STS_IDX_WR : Fld := ⟨.BX_TRS_STS, 63, 32, .ro, 0⟩
def BX_TRS_STS_DRAIN_RD : Fld := ⟨.BX_TRS_STS, 31, 0, .ro, 0⟩

/-! BX_TRS_CNT0: Table 14-20. -/
def BX_TRS_CNT0_BLOCKS : Fld := ⟨.BX_TRS_CNT0, 63, 32, .ro, 0⟩
def BX_TRS_CNT0_INPUT_LOST : Fld := ⟨.BX_TRS_CNT0, 31, 0, .ro, 0⟩

/-! BX_TRS_CNT1: Table 14-20. -/
def BX_TRS_CNT1_FULL_LOST : Fld := ⟨.BX_TRS_CNT1, 63, 32, .ro, 0⟩
def BX_TRS_CNT1_DRAIN_LOST : Fld := ⟨.BX_TRS_CNT1, 31, 16, .ro, 0⟩
def BX_TRS_CNT1_EXCEEDED : Fld := ⟨.BX_TRS_CNT1, 15, 10, .ro, 0⟩
def BX_TRS_CNT1_GAUGE_HELD : Fld := ⟨.BX_TRS_CNT1, 9, 5, .ro, 0⟩
def BX_TRS_CNT1_DISABLED : Fld := ⟨.BX_TRS_CNT1, 4, 0, .ro, 0⟩

/-! BX_EGS_SUB_CFG: Table 15-4. -/
def BX_EGS_SUB_CFG_CIR : Fld := ⟨.BX_EGS_SUB_CFG, 63, 40, .ro, 0⟩
def BX_EGS_SUB_CFG_PIR : Fld := ⟨.BX_EGS_SUB_CFG, 39, 16, .ro, 0xffffff⟩
def BX_EGS_SUB_CFG_SERVICE : Fld := ⟨.BX_EGS_SUB_CFG, 15, 13, .ro, 0⟩

/-! BX_EGS_SUB_BURST: Table 15-4. -/
def BX_EGS_SUB_BURST_CBS : Fld := ⟨.BX_EGS_SUB_BURST, 63, 40, .ro, 0⟩
def BX_EGS_SUB_BURST_PBS : Fld := ⟨.BX_EGS_SUB_BURST, 39, 16, .ro, 0x4000⟩

/-! BX_EGS_SUB_LVL: Table 15-5. -/
def BX_EGS_SUB_LVL_C_LEVEL : Fld := ⟨.BX_EGS_SUB_LVL, 63, 32, .ro, 0⟩
def BX_EGS_SUB_LVL_P_LEVEL : Fld := ⟨.BX_EGS_SUB_LVL, 31, 0, .ro, 0x4000⟩

/-! BX_EGS_SVC_CFG: Table 15-6. -/
def BX_EGS_SVC_CFG_RATE : Fld := ⟨.BX_EGS_SVC_CFG, 63, 40, .ro, 0xffffff⟩
def BX_EGS_SVC_CFG_BURST : Fld := ⟨.BX_EGS_SVC_CFG, 39, 16, .ro, 0x8000⟩
def BX_EGS_SVC_CFG_WEIGHT : Fld := ⟨.BX_EGS_SVC_CFG, 15, 8, .ro, 0x10⟩

/-! BX_EGS_SVC_LVL: Table 15-6. -/
def BX_EGS_SVC_LVL_LEVEL : Fld := ⟨.BX_EGS_SVC_LVL, 63, 32, .ro, 0x8000⟩

/-! BX_EGS_SVC_TAG: Table 15-6. -/
def BX_EGS_SVC_TAG_TAG : Fld := ⟨.BX_EGS_SVC_TAG, 63, 0, .ro, 0⟩

/-! BX_EGS_GATE_TIME: Table 15-7. -/
def BX_EGS_GATE_TIME_PERIOD_NS : Fld := ⟨.BX_EGS_GATE_TIME, 63, 32, .ro, 0⟩
def BX_EGS_GATE_TIME_PHASE_NS : Fld := ⟨.BX_EGS_GATE_TIME, 31, 0, .ro, 0⟩

/-! BX_EGS_GATE_SPAN: Table 15-7. -/
def BX_EGS_GATE_SPAN_EN : Fld := ⟨.BX_EGS_GATE_SPAN, 63, 63, .ro, 0⟩
def BX_EGS_GATE_SPAN_MASK : Fld := ⟨.BX_EGS_GATE_SPAN, 55, 48, .ro, 0xf8⟩
def BX_EGS_GATE_SPAN_WIDTH_NS : Fld := ⟨.BX_EGS_GATE_SPAN, 23, 0, .ro, 0⟩

/-! BX_EGS_PORT_STS: Table 15-8. -/
def BX_EGS_PORT_STS_GUARD_NS : Fld := ⟨.BX_EGS_PORT_STS, 63, 48, .ro, 0⟩
def BX_EGS_PORT_STS_CLOSED : Fld := ⟨.BX_EGS_PORT_STS, 47, 44, .ro, 0⟩

/-! BX_EGS_PORT_VT: Table 15-8. -/
def BX_EGS_PORT_VT_V : Fld := ⟨.BX_EGS_PORT_VT, 63, 0, .ro, 0⟩

/-! BX_EGS_PORT_CNT: Table 15-8. -/
def BX_EGS_PORT_CNT_GATE_HELD : Fld := ⟨.BX_EGS_PORT_CNT, 63, 32, .ro, 0⟩
def BX_EGS_PORT_CNT_DEBT_CLEARS : Fld := ⟨.BX_EGS_PORT_CNT, 31, 16, .ro, 0⟩
def BX_EGS_PORT_CNT_WAKES : Fld := ⟨.BX_EGS_PORT_CNT, 15, 0, .ro, 0⟩

/-! BX_WDN_BOOT_CAP: Table 16-14a. -/
def BX_WDN_BOOT_CAP_CAP : Fld := ⟨.BX_WDN_BOOT_CAP, 63, 0, .wo, 0⟩

/-! BX_WDN_BOOT_RPL: Table 16-14a. -/
def BX_WDN_BOOT_RPL_RPL : Fld := ⟨.BX_WDN_BOOT_RPL, 63, 0, .ro, 0⟩

/-! BX_WDN_BOOT_CTRL: Table 16-14a. -/
def BX_WDN_BOOT_CTRL_GO : Fld := ⟨.BX_WDN_BOOT_CTRL, 0, 0, .wo, 0⟩

/-! BX_WDN_BOOT_STS: Table 16-14a. -/
def BX_WDN_BOOT_STS_BUSY : Fld := ⟨.BX_WDN_BOOT_STS, 63, 63, .ro, 0⟩
def BX_WDN_BOOT_STS_DONE : Fld := ⟨.BX_WDN_BOOT_STS, 62, 62, .w1c, 0⟩
def BX_WDN_BOOT_STS_RECOVERY : Fld := ⟨.BX_WDN_BOOT_STS, 61, 61, .ro, 0⟩

/-! BX_SYS_ID: Table 16-16. -/
def BX_SYS_ID_VENDOR : Fld := ⟨.BX_SYS_ID, 63, 48, .ro, 0⟩
def BX_SYS_ID_ARCH : Fld := ⟨.BX_SYS_ID, 47, 40, .ro, 0x64⟩
def BX_SYS_ID_MAJOR : Fld := ⟨.BX_SYS_ID, 39, 32, .ro, 1⟩
def BX_SYS_ID_MINOR : Fld := ⟨.BX_SYS_ID, 31, 24, .ro, 0⟩

/-! BX_WDN_QP_SQB: Table 16-17. -/
def BX_WDN_QP_SQB_BASE : Fld := ⟨.BX_WDN_QP_SQB, 63, 6, .rw, 0⟩

/-! BX_WDN_QP_CQB: Table 16-17. -/
def BX_WDN_QP_CQB_BASE : Fld := ⟨.BX_WDN_QP_CQB, 63, 6, .rw, 0⟩

/-! BX_WDN_EVB: Table 16-17. -/
def BX_WDN_EVB_BASE : Fld := ⟨.BX_WDN_EVB, 63, 6, .rw, 0⟩

/-! BX_WDN_QP_CFG: Table 16-18. -/
def BX_WDN_QP_CFG_EN : Fld := ⟨.BX_WDN_QP_CFG, 63, 63, .rw, 0⟩
def BX_WDN_QP_CFG_SQ_LOG2 : Fld := ⟨.BX_WDN_QP_CFG, 59, 56, .rw, 4⟩
def BX_WDN_QP_CFG_CQ_LOG2 : Fld := ⟨.BX_WDN_QP_CFG, 55, 52, .rw, 4⟩

/-! BX_WDN_EV_CFG: Table 16-18. -/
def BX_WDN_EV_CFG_EN : Fld := ⟨.BX_WDN_EV_CFG, 63, 63, .rw, 0⟩
def BX_WDN_EV_CFG_LOG2 : Fld := ⟨.BX_WDN_EV_CFG, 59, 52, .rw, 8⟩

/-! BX_WDN_QP_DB: Table 16-19. -/
def BX_WDN_QP_DB_CQ_HEAD : Fld := ⟨.BX_WDN_QP_DB, 31, 16, .rw, 0⟩
def BX_WDN_QP_DB_SQ_TAIL : Fld := ⟨.BX_WDN_QP_DB, 15, 0, .rw, 0⟩

/-! BX_WDN_EV_DB: Table 16-19. -/
def BX_WDN_EV_DB_HEAD : Fld := ⟨.BX_WDN_EV_DB, 15, 0, .rw, 0⟩

/-! BX_WDN_QP_STS: Table 16-20. -/
def BX_WDN_QP_STS_STATE : Fld := ⟨.BX_WDN_QP_STS, 63, 62, .ro, 0⟩
def BX_WDN_QP_STS_ERR : Fld := ⟨.BX_WDN_QP_STS, 61, 58, .ro, 0⟩
def BX_WDN_QP_STS_IN_PROG : Fld := ⟨.BX_WDN_QP_STS, 47, 32, .ro, 0⟩
def BX_WDN_QP_STS_SQ_HEAD : Fld := ⟨.BX_WDN_QP_STS, 31, 16, .ro, 0⟩
def BX_WDN_QP_STS_CQ_TAIL : Fld := ⟨.BX_WDN_QP_STS, 15, 0, .ro, 0⟩

/-! BX_WDN_EV_STS: Table 16-20. -/
def BX_WDN_EV_STS_EV_SEQ : Fld := ⟨.BX_WDN_EV_STS, 63, 32, .ro, 0⟩
def BX_WDN_EV_STS_HELD : Fld := ⟨.BX_WDN_EV_STS, 31, 16, .ro, 0⟩
def BX_WDN_EV_STS_LOST : Fld := ⟨.BX_WDN_EV_STS, 15, 0, .ro, 0⟩

/-! BX_WDN_CTRL: Table 16-21. -/
def BX_WDN_CTRL_EXEC_MS : Fld := ⟨.BX_WDN_CTRL, 63, 48, .rw, 0x3e8⟩
def BX_WDN_CTRL_RELAY_MS : Fld := ⟨.BX_WDN_CTRL, 47, 40, .rw, 0xa⟩

/-! BX_WDN_MCTP: Table 16-21. -/
def BX_WDN_MCTP_ADDR : Fld := ⟨.BX_WDN_MCTP, 6, 0, .rws, 0x3a⟩

/-! BX_WDN_FW_STS: Table 16-22. -/
def BX_WDN_FW_STS_STATE : Fld := ⟨.BX_WDN_FW_STS, 63, 62, .ro, 0⟩
def BX_WDN_FW_STS_STORE_VALID : Fld := ⟨.BX_WDN_FW_STS, 61, 61, .ro, 0⟩
def BX_WDN_FW_STS_MIN_SEC_VER : Fld := ⟨.BX_WDN_FW_STS, 47, 32, .ro, 0⟩
def BX_WDN_FW_STS_VERSION : Fld := ⟨.BX_WDN_FW_STS, 31, 0, .ro, 0⟩

/-! BX_WDN_CNT0: Table 16-23. -/
def BX_WDN_CNT0_CAPSULES : Fld := ⟨.BX_WDN_CNT0, 63, 32, .ro, 0⟩
def BX_WDN_CNT0_DENIED : Fld := ⟨.BX_WDN_CNT0, 31, 16, .ro, 0⟩
def BX_WDN_CNT0_BADOP : Fld := ⟨.BX_WDN_CNT0, 15, 0, .ro, 0⟩

/-! BX_WDN_CNT1: Table 16-23. -/
def BX_WDN_CNT1_TIMEOUTS : Fld := ⟨.BX_WDN_CNT1, 63, 48, .ro, 0⟩
def BX_WDN_CNT1_DISCARDED : Fld := ⟨.BX_WDN_CNT1, 47, 32, .ro, 0⟩
def BX_WDN_CNT1_DUP_TAG : Fld := ⟨.BX_WDN_CNT1, 31, 16, .ro, 0⟩
def BX_WDN_CNT1_POISON_DROP : Fld := ⟨.BX_WDN_CNT1, 15, 0, .ro, 0⟩

/-! BX_TAP_STS: Table 17-16. -/
def BX_TAP_STS_WEDGED : Fld := ⟨.BX_TAP_STS, 63, 63, .w1c, 0⟩
def BX_TAP_STS_CAUSE : Fld := ⟨.BX_TAP_STS, 62, 60, .ro, 0⟩
def BX_TAP_STS_DUMP_HELD : Fld := ⟨.BX_TAP_STS, 59, 59, .ro, 0⟩
def BX_TAP_STS_DUMP_READ : Fld := ⟨.BX_TAP_STS, 58, 58, .ro, 0⟩
def BX_TAP_STS_TB_LOST : Fld := ⟨.BX_TAP_STS, 57, 57, .ro, 0⟩
def BX_TAP_STS_DUMP_MISSED : Fld := ⟨.BX_TAP_STS, 47, 32, .ro, 0⟩

/-! BX_TAP_CTRL: Table 17-16. -/
def BX_TAP_CTRL_WDOG_US : Fld := ⟨.BX_TAP_CTRL, 63, 48, .rw, 0x190⟩
def BX_TAP_CTRL_AUTO_RESET : Fld := ⟨.BX_TAP_CTRL, 47, 46, .rw, 0⟩

/-! BX_TAP_KICK: Table 17-16. -/
def BX_TAP_KICK_KICK : Fld := ⟨.BX_TAP_KICK, 0, 0, .wo, 0⟩

/-! BX_SAF_STS: Table 17-17. -/
def BX_SAF_STS_LAST_CODE : Fld := ⟨.BX_SAF_STS, 63, 48, .ro, 0⟩
def BX_SAF_STS_DETECTIONS : Fld := ⟨.BX_SAF_STS, 47, 32, .ro, 0⟩
def BX_SAF_STS_LATENT_FAILS : Fld := ⟨.BX_SAF_STS, 31, 16, .ro, 0⟩
def BX_SAF_STS_DEGRADED : Fld := ⟨.BX_SAF_STS, 15, 15, .ro, 0⟩
def BX_SAF_STS_LAST_INJ : Fld := ⟨.BX_SAF_STS, 14, 14, .ro, 0⟩

/-! BX_SAF_CTRL: Table 17-17. -/
def BX_SAF_CTRL_LT_PERIOD_MS : Fld := ⟨.BX_SAF_CTRL, 63, 48, .rw, 0x64⟩

/-! BX_SAF_DIE: Table 17-17. -/
def BX_SAF_DIE_LAST_CODE : Fld := ⟨.BX_SAF_DIE, 63, 48, .ro, 0⟩
def BX_SAF_DIE_COUNT : Fld := ⟨.BX_SAF_DIE, 47, 32, .ro, 0⟩

/-! BX_HW_STS: Table 17-18. -/
def BX_HW_STS_NEXT_SEQ : Fld := ⟨.BX_HW_STS, 63, 32, .ro, 0⟩
def BX_HW_STS_MAIN_HELD : Fld := ⟨.BX_HW_STS, 31, 20, .ro, 0⟩
def BX_HW_STS_PROT_HELD : Fld := ⟨.BX_HW_STS, 19, 13, .ro, 0⟩

/-! BX_HW_CNT: Table 17-18. -/
def BX_HW_CNT_OVERWRITTEN : Fld := ⟨.BX_HW_CNT, 63, 32, .ro, 0⟩
def BX_HW_CNT_SUPPRESSED : Fld := ⟨.BX_HW_CNT, 31, 16, .ro, 0⟩
def BX_HW_CNT_LOST : Fld := ⟨.BX_HW_CNT, 15, 0, .ro, 0⟩

/-! BX_HW_AUTH: Table 17-18. -/
def BX_HW_AUTH_NONCE : Fld := ⟨.BX_HW_AUTH, 63, 0, .ro, 0⟩

/-! BX_HW_SNAP: Table 17-19. -/
def BX_HW_SNAP_EN : Fld := ⟨.BX_HW_SNAP, 63, 63, .rw, 0⟩
def BX_HW_SNAP_OFFSET : Fld := ⟨.BX_HW_SNAP, 25, 3, .rw, 0⟩

/-! BX_WT_INJ: Table 17-20. -/
def BX_WT_INJ_ARMED : Fld := ⟨.BX_WT_INJ, 63, 63, .ro, 0⟩
def BX_WT_INJ_ACTION : Fld := ⟨.BX_WT_INJ, 62, 59, .ro, 0⟩
def BX_WT_INJ_REMAIN : Fld := ⟨.BX_WT_INJ, 58, 52, .ro, 0⟩
def BX_WT_INJ_ARG : Fld := ⟨.BX_WT_INJ, 31, 0, .ro, 0⟩

/-! BX_WT_STS: Table 17-20. -/
def BX_WT_STS_ARMED : Fld := ⟨.BX_WT_STS, 63, 48, .ro, 0⟩
def BX_WT_STS_INJECTED : Fld := ⟨.BX_WT_STS, 47, 16, .ro, 0⟩

/-! BX_VIOL_HOST: Table 17-21. -/
def BX_VIOL_HOST_RESERVED_WR : Fld := ⟨.BX_VIOL_HOST, 63, 48, .ro, 0⟩
def BX_VIOL_HOST_RING_WR : Fld := ⟨.BX_VIOL_HOST, 47, 32, .ro, 0⟩
def BX_VIOL_HOST_DB_RANGE : Fld := ⟨.BX_VIOL_HOST, 31, 16, .ro, 0⟩
def BX_VIOL_HOST_EV_HEAD : Fld := ⟨.BX_VIOL_HOST, 15, 0, .ro, 0⟩

/-! BX_VIOL_MCTP: Table 17-21. -/
def BX_VIOL_MCTP_PEC : Fld := ⟨.BX_VIOL_MCTP, 63, 52, .ro, 0⟩
def BX_VIOL_MCTP_SEQ : Fld := ⟨.BX_VIOL_MCTP, 51, 40, .ro, 0⟩
def BX_VIOL_MCTP_LONG : Fld := ⟨.BX_VIOL_MCTP, 39, 28, .ro, 0⟩
def BX_VIOL_MCTP_UNSUP : Fld := ⟨.BX_VIOL_MCTP, 27, 16, .ro, 0⟩
def BX_VIOL_MCTP_BUSY : Fld := ⟨.BX_VIOL_MCTP, 15, 0, .ro, 0⟩

/-! BX_LC_STS: Table 18-11. -/
def BX_LC_STS_STATE : Fld := ⟨.BX_LC_STS, 63, 61, .ro, 0⟩
def BX_LC_STS_TRANSITIONING : Fld := ⟨.BX_LC_STS, 60, 60, .ro, 0⟩
def BX_LC_STS_NVM_ERR : Fld := ⟨.BX_LC_STS, 59, 59, .ro, 0⟩
def BX_LC_STS_TRANSITIONS : Fld := ⟨.BX_LC_STS, 47, 32, .ro, 0⟩

/-! BX_LC_DIE: Table 18-11. -/
def BX_LC_DIE_ZX_STATE : Fld := ⟨.BX_LC_DIE, 63, 61, .ro, 0⟩

/-! BX_PWR_STS: Table 18-12. -/
def BX_PWR_STS_PSTATE : Fld := ⟨.BX_PWR_STS, 63, 62, .ro, 0⟩
def BX_PWR_STS_RAIL_FAULT : Fld := ⟨.BX_PWR_STS, 61, 61, .ro, 0⟩
def BX_PWR_STS_CLOCK_FAULT : Fld := ⟨.BX_PWR_STS, 60, 60, .ro, 0⟩
def BX_PWR_STS_HBM_FAULT : Fld := ⟨.BX_PWR_STS, 59, 59, .ro, 0⟩
def BX_PWR_STS_THROTTLE : Fld := ⟨.BX_PWR_STS, 58, 58, .ro, 0⟩
def BX_PWR_STS_POWER_W : Fld := ⟨.BX_PWR_STS, 47, 32, .ro, 0⟩
def BX_PWR_STS_THROTTLE_MS : Fld := ⟨.BX_PWR_STS, 31, 16, .ro, 0⟩

/-! BX_PWR_LIMIT: Table 18-12. -/
def BX_PWR_LIMIT_LIMIT_W : Fld := ⟨.BX_PWR_LIMIT, 63, 48, .rw, 0x1c2⟩

/-! BX_TRS_GAUGE_CFG: Table 14-19. -/
def BX_TRS_GAUGE_CFG_MODE : Fld := ⟨.BX_TRS_GAUGE_CFG, 63, 62, .rw, 0⟩
def BX_TRS_GAUGE_CFG_F_LOG2 : Fld := ⟨.BX_TRS_GAUGE_CFG, 61, 60, .rw, 0⟩

/-! BX_TRS_GAUGE_SNS: Table 14-19. -/
def BX_TRS_GAUGE_SNS_SNS7 : Fld := ⟨.BX_TRS_GAUGE_SNS, 63, 56, .rw, 0⟩
def BX_TRS_GAUGE_SNS_SNS6 : Fld := ⟨.BX_TRS_GAUGE_SNS, 55, 48, .rw, 0⟩
def BX_TRS_GAUGE_SNS_SNS5 : Fld := ⟨.BX_TRS_GAUGE_SNS, 47, 40, .rw, 0⟩
def BX_TRS_GAUGE_SNS_SNS4 : Fld := ⟨.BX_TRS_GAUGE_SNS, 39, 32, .rw, 0⟩
def BX_TRS_GAUGE_SNS_SNS3 : Fld := ⟨.BX_TRS_GAUGE_SNS, 31, 24, .rw, 0⟩
def BX_TRS_GAUGE_SNS_SNS2 : Fld := ⟨.BX_TRS_GAUGE_SNS, 23, 16, .rw, 0⟩
def BX_TRS_GAUGE_SNS_SNS1 : Fld := ⟨.BX_TRS_GAUGE_SNS, 15, 8, .rw, 0⟩
def BX_TRS_GAUGE_SNS_SNS0 : Fld := ⟨.BX_TRS_GAUGE_SNS, 7, 0, .rw, 0⟩

/-! BX_TRS_GAUGE_BND: Table 14-19. -/
def BX_TRS_GAUGE_BND_BOUND3 : Fld := ⟨.BX_TRS_GAUGE_BND, 63, 48, .rw, 0⟩
def BX_TRS_GAUGE_BND_BOUND2 : Fld := ⟨.BX_TRS_GAUGE_BND, 47, 32, .rw, 0⟩
def BX_TRS_GAUGE_BND_BOUND1 : Fld := ⟨.BX_TRS_GAUGE_BND, 31, 16, .rw, 0⟩
def BX_TRS_GAUGE_BND_BOUND0 : Fld := ⟨.BX_TRS_GAUGE_BND, 15, 0, .rw, 0⟩

/-! ZX_TB_STR_MAP: Table 6-11. -/
def ZX_TB_STR_MAP_EN7 : Fld := ⟨.ZX_TB_STR_MAP, 63, 63, .rw, 0⟩
def ZX_TB_STR_MAP_TAP7 : Fld := ⟨.ZX_TB_STR_MAP, 62, 56, .rw, 0⟩
def ZX_TB_STR_MAP_EN6 : Fld := ⟨.ZX_TB_STR_MAP, 55, 55, .rw, 0⟩
def ZX_TB_STR_MAP_TAP6 : Fld := ⟨.ZX_TB_STR_MAP, 54, 48, .rw, 0⟩
def ZX_TB_STR_MAP_EN5 : Fld := ⟨.ZX_TB_STR_MAP, 47, 47, .rw, 0⟩
def ZX_TB_STR_MAP_TAP5 : Fld := ⟨.ZX_TB_STR_MAP, 46, 40, .rw, 0⟩
def ZX_TB_STR_MAP_EN4 : Fld := ⟨.ZX_TB_STR_MAP, 39, 39, .rw, 0⟩
def ZX_TB_STR_MAP_TAP4 : Fld := ⟨.ZX_TB_STR_MAP, 38, 32, .rw, 0⟩
def ZX_TB_STR_MAP_EN3 : Fld := ⟨.ZX_TB_STR_MAP, 31, 31, .rw, 0⟩
def ZX_TB_STR_MAP_TAP3 : Fld := ⟨.ZX_TB_STR_MAP, 30, 24, .rw, 0⟩
def ZX_TB_STR_MAP_EN2 : Fld := ⟨.ZX_TB_STR_MAP, 23, 23, .rw, 0⟩
def ZX_TB_STR_MAP_TAP2 : Fld := ⟨.ZX_TB_STR_MAP, 22, 16, .rw, 0⟩
def ZX_TB_STR_MAP_EN1 : Fld := ⟨.ZX_TB_STR_MAP, 15, 15, .rw, 0⟩
def ZX_TB_STR_MAP_TAP1 : Fld := ⟨.ZX_TB_STR_MAP, 14, 8, .rw, 0⟩
def ZX_TB_STR_MAP_EN0 : Fld := ⟨.ZX_TB_STR_MAP, 7, 7, .rw, 0⟩
def ZX_TB_STR_MAP_TAP0 : Fld := ⟨.ZX_TB_STR_MAP, 6, 0, .rw, 0⟩

/-- The fields of each register, highest bits first. -/
def Reg.fields : Reg → List Fld
  | .BX_EPC_SCHED_ANCHOR => [BX_EPC_SCHED_ANCHOR_ANCHOR_NS]
  | .BX_EPC_SCHED_CFG => [BX_EPC_SCHED_CFG_LEN_K, BX_EPC_SCHED_CFG_ANCHOR_EPOCH]
  | .BX_EPC_STATE => [BX_EPC_STATE_WM_VALID, BX_EPC_STATE_WM_SYNCED, BX_EPC_STATE_RUNNING, BX_EPC_STATE_WATERMARK]
  | .BX_EPC_CURRENT => [BX_EPC_CURRENT_EPOCH]
  | .BX_EPC_CTRL => [BX_EPC_CTRL_RETAIN_EPOCHS, BX_EPC_CTRL_MIN_LEAD, BX_EPC_CTRL_READ_WAIT_US]
  | .BX_EPC_DROP_CNT => [BX_EPC_DROP_CNT_LATE, BX_EPC_DROP_CNT_OLD_INCARNATION]
  | .BX_EPC_MISC_CNT => [BX_EPC_MISC_CNT_CFG_MISMATCH, BX_EPC_MISC_CNT_READ_TIMEOUT]
  | .BX_CFG_GEN => [BX_CFG_GEN_ARMED, BX_CFG_GEN_STAGED, BX_CFG_GEN_STAGED_GEN, BX_CFG_GEN_LIVE_GEN]
  | .BX_CFG_APPLY => [BX_CFG_APPLY_APPLY_NS]
  | .ZX_EPC_STATE => [ZX_EPC_STATE_RUNNING, ZX_EPC_STATE_EPOCH]
  | .ZX_EPC_ID => [ZX_EPC_ID_INCARNATION, ZX_EPC_ID_LIVE_GEN, ZX_EPC_ID_STAGED_GEN, ZX_EPC_ID_ARMED, ZX_EPC_ID_STAGED]
  | .ZX_CTR_SEL => [ZX_CTR_SEL_EN, ZX_CTR_SEL_OWNER, ZX_CTR_SEL_TENANT, ZX_CTR_SEL_KIND, ZX_CTR_SEL_TAP, ZX_CTR_SEL_INDEX, ZX_CTR_SEL_REASON_MASK]
  | .ZX_CTR_VAL => [ZX_CTR_VAL_VAL]
  | .ZX_CTR_SNAP => [ZX_CTR_SNAP_SNAP]
  | .ZX_LS_VAL => [ZX_LS_VAL_VAL]
  | .ZX_LS_CTRL => [ZX_LS_CTRL_DIS]
  | .ZX_SNS_CFG => [ZX_SNS_CFG_WINDOW_US]
  | .ZX_SNS_EN => [ZX_SNS_EN_EN]
  | .ZX_SNS_VAL => [ZX_SNS_VAL_STATUS, ZX_SNS_VAL_VALUE]
  | .ZX_SNS_CAL => [ZX_SNS_CAL_GAIN, ZX_SNS_CAL_OFFSET]
  | .ZX_SNS_PARAM => [ZX_SNS_PARAM_THERM, ZX_SNS_PARAM_VOLT, ZX_SNS_PARAM_DROOP, ZX_SNS_PARAM_STRETCH, ZX_SNS_PARAM_AGE]
  | .ZX_SEC_BIND => [ZX_SEC_BIND_BAR_MASK, ZX_SEC_BIND_TENANT]
  | .ZX_QW_TIME => [ZX_QW_TIME_PERIOD_NS, ZX_QW_TIME_PHASE_NS]
  | .ZX_QW_SPAN => [ZX_QW_SPAN_EN, ZX_QW_SPAN_GUARD_NS, ZX_QW_SPAN_WIDTH_NS]
  | .ZX_BAR_ARRIVE => [ZX_BAR_ARRIVE_LINE]
  | .ZX_IRQ_STS => [ZX_IRQ_STS_LOG, ZX_IRQ_STS_TRACE, ZX_IRQ_STS_APB, ZX_IRQ_STS_TAP, ZX_IRQ_STS_SNS, ZX_IRQ_STS_ALARM]
  | .ZX_IRQ_EN => [ZX_IRQ_EN_LOG, ZX_IRQ_EN_TRACE, ZX_IRQ_EN_APB, ZX_IRQ_EN_TAP, ZX_IRQ_EN_SNS, ZX_IRQ_EN_ALARM]
  | .ZX_GRS_FEAT => [ZX_GRS_FEAT_SRC, ZX_GRS_FEAT_INDEX]
  | .ZX_GRS_RESULT => [ZX_GRS_RESULT_EPOCH_LO, ZX_GRS_RESULT_VALID, ZX_GRS_RESULT_ALARM, ZX_GRS_RESULT_CLASS]
  | .ZX_ID => [ZX_ID_ARCH, ZX_ID_MAJOR, ZX_ID_MINOR]
  | .ZX_BUILD => [ZX_BUILD_SELFMON, ZX_BUILD_NUM_TAPS]
  | .ZX_CTRL => [ZX_CTRL_STOP_TICKS]
  | .ZX_TAP_CFG => [ZX_TAP_CFG_LINES, ZX_TAP_CFG_ENGINES, ZX_TAP_CFG_NOM_PERIOD_PS]
  | .ZX_TAP_STS => [ZX_TAP_STS_STOPPED, ZX_TAP_STS_STRETCH_SEEN, ZX_TAP_STS_STOP_SEEN, ZX_TAP_STS_ILLEGAL_SEEN]
  | .ZX_TRC_CFG => [ZX_TRC_CFG_POST_COUNT, ZX_TRC_CFG_MODE, ZX_TRC_CFG_DRAIN, ZX_TRC_CFG_SRC, ZX_TRC_CFG_TAP, ZX_TRC_CFG_TRIG_SRC, ZX_TRC_CFG_TRIG_LINE]
  | .ZX_TRC_MASK => [ZX_TRC_MASK_MASK]
  | .ZX_TRC_TRIG_AT => [ZX_TRC_TRIG_AT_TRIG_AT]
  | .ZX_TRC_STS => [ZX_TRC_STS_STATE, ZX_TRC_STS_DRAIN_ERR, ZX_TRC_STS_EMPTY, ZX_TRC_STS_WPTR, ZX_TRC_STS_RPTR, ZX_TRC_STS_POST_DONE, ZX_TRC_STS_REFIRE]
  | .ZX_TRC_DBASE => [ZX_TRC_DBASE_BASE, ZX_TRC_DBASE_SIZE]
  | .ZX_TRC_DWR => [ZX_TRC_DWR_DWR]
  | .ZX_TRC_DRD => [ZX_TRC_DRD_DRD]
  | .ZX_TRC_CTRL => [ZX_TRC_CTRL_RELEASE, ZX_TRC_CTRL_TRIG, ZX_TRC_CTRL_ARM]
  | .ZX_HD_CFG => [ZX_HD_CFG_STALL_US, ZX_HD_CFG_BAR_MASK, ZX_HD_CFG_BAR_US, ZX_HD_CFG_AXI_EN]
  | .ZX_HD_STS => [ZX_HD_STS_HELD, ZX_HD_STS_SENT, ZX_HD_STS_PEND, ZX_HD_STS_CAUSE, ZX_HD_STS_MISSED]
  | .ZX_HD_CTRL => [ZX_HD_CTRL_RELEASE, ZX_HD_CTRL_TAKE]
  | .ZX_MEM_WIN => [ZX_MEM_WIN_TARGET, ZX_MEM_WIN_PAGE]
  | .ZX_LOG_OLDEST => [ZX_LOG_OLDEST_VALID, ZX_LOG_OLDEST_EPOCH]
  | .ZX_LOG_ACKED => [ZX_LOG_ACKED_VALID, ZX_LOG_ACKED_EPOCH]
  | .ZX_LOG_STS => [ZX_LOG_STS_RESENDING, ZX_LOG_STS_ENTRIES, ZX_LOG_STS_FREE_KIB]
  | .BX_Q_STS => [BX_Q_STS_UNDERRUN, BX_Q_STS_PKT_ABORT, BX_Q_STS_PARITY, BX_Q_STS_DROPPING, BX_Q_STS_OPEN, BX_Q_STS_PACKET, BX_Q_STS_DUAL, BX_Q_STS_CNT_CLR, BX_Q_STS_CAPACITY, BX_Q_STS_DEPTH, BX_Q_STS_OPEN_WORDS]
  | .BX_Q_CNT => [BX_Q_CNT_UNDERRUNS, BX_Q_CNT_ABORTS, BX_Q_CNT_CANCELS, BX_Q_CNT_PARITY_ERRS]
  | .BX_Q_DROP => [BX_Q_DROP_DROPPED_WORDS, BX_Q_DROP_OVERRUNS]
  | .ZX_EPC_ADDR => [ZX_EPC_ADDR_ADMITTED, ZX_EPC_ADDR_SELF, ZX_EPC_ADDR_DIE_ADDR]
  | .STM_STS => [STM_STS_LSTATE, STM_STS_LANE_MAP, STM_STS_LOCK, STM_STS_TX_NXT, STM_STS_TX_UNA, STM_STS_RX_NEXT, STM_STS_ATTEMPTS, STM_STS_REPLAY_OCC]
  | .ZX_STM_CNT => [ZX_STM_CNT_MALFORMED, ZX_STM_CNT_VIOL, ZX_STM_CNT_FLUSHED, ZX_STM_CNT_DUP]
  | .ZX_STM_PMA_LAT => [ZX_STM_PMA_LAT_TX_PS, ZX_STM_PMA_LAT_RX_PS]
  | .ZX_STM_CTRL => [ZX_STM_CTRL_RETRAIN]
  | .PORT_ERRS => [PORT_ERRS_MALFORMED, PORT_ERRS_CRC, PORT_ERRS_SEQ, PORT_ERRS_VIOL]
  | .BX_STM_PORT_MISC => [BX_STM_PORT_MISC_DUP_SNAP, BX_STM_PORT_MISC_ALARM_LIMITED, BX_STM_PORT_MISC_STOMPED, BX_STM_PORT_MISC_FLUSHED, BX_STM_PORT_MISC_RETRAINS]
  | .BX_STM_PORT_CTRL => [BX_STM_PORT_CTRL_HOLD, BX_STM_PORT_CTRL_RETRAIN, BX_STM_PORT_CTRL_ALARM_LIMIT]
  | .TB_NOW_NS => [TB_NOW_NS_RC_NS]
  | .TB_NOW_FRAC => [TB_NOW_FRAC_RC_FRAC]
  | .TB_STS => [TB_STS_STATE, TB_STS_STEP_USED, TB_STS_RESYNC_GRANT, TB_STS_SRC_OK, TB_STS_STEPS_REFUSED, TB_STS_CLAMPS, TB_STS_LOCK_LOSSES]
  | .TB_OFFSET => [TB_OFFSET_OFFSET, TB_OFFSET_DELAY]
  | .TB_INC => [TB_INC_INC]
  | .TB_SERVO => [TB_SERVO_KP_SHIFT, TB_SERVO_KI_SHIFT, TB_SERVO_STEP_NS, TB_SERVO_UNLOCK_NS, TB_SERVO_LOCK_NS, TB_SERVO_HOLDOVER_MS]
  | .ZX_LAC_TGT => [ZX_LAC_TGT_TGT_NS]
  | .ZX_LAC_CFG => [ZX_LAC_CFG_ARM, ZX_LAC_CFG_PERIODIC, ZX_LAC_CFG_LATE_FIRE, ZX_LAC_CFG_WIDTH, ZX_LAC_CFG_PERIOD_NS, ZX_LAC_CFG_TGT_FRAC]
  | .ZX_TB_TAP_STOP => [ZX_TB_TAP_STOP_STOPS, ZX_TB_TAP_STOP_STOP_NS]
  | .BX_TB_SRC => [BX_TB_SRC_MODE, BX_TB_SRC_PRIMARY, BX_TB_SRC_BACKUP, BX_TB_SRC_BACKUP_EN, BX_TB_SRC_DOMAIN, BX_TB_SRC_ASYM_PS, BX_TB_SRC_SYNC_PERIOD_US]
  | .BX_TB_TOD => [BX_TB_TOD_TOD_VALID, BX_TB_TOD_CARD_HOLDOVER, BX_TB_TOD_CRC_ERRS, BX_TB_TOD_PPS_FAULTS, BX_TB_TOD_TOD_MISMATCH]
  | .BX_TB_PPS => [BX_TB_PPS_EN, BX_TB_PPS_WIDTH_NS]
  | .BLZ_CFG => [BLZ_CFG_EN, BLZ_CFG_MODE, BLZ_CFG_WIDTH16, BLZ_CFG_REFIN, BLZ_CFG_REFOUT, BLZ_CFG_ADDR_FOLD, BLZ_CFG_SEQ_FOLD, BLZ_CFG_POISON, BLZ_CFG_IRQ_EN, BLZ_CFG_REPORT_OK, BLZ_CFG_BLOCK, BLZ_CFG_FEED_W, BLZ_CFG_DTAP, BLZ_CFG_CTAP, BLZ_CFG_CGRP]
  | .BLZ_POLY => [BLZ_POLY_POLY, BLZ_POLY_INIT]
  | .BLZ_XOROUT => [BLZ_XOROUT_XOROUT]
  | .BLZ_CNT0 => [BLZ_CNT0_CHECKED, BLZ_CNT0_MISMATCH]
  | .BLZ_CNT1 => [BLZ_CNT1_STALE, BLZ_CNT1_CORRUPT, BLZ_CNT1_UNVERIFIED, BLZ_CNT1_MALFORMED]
  | .BLZ_LAST => [BLZ_LAST_ADDR, BLZ_LAST_OUTCOME, BLZ_LAST_VALID, BLZ_LAST_TAG]
  | .ZX_BLZ_RF => [ZX_BLZ_RF_ADDR, ZX_BLZ_RF_OUTCOME, ZX_BLZ_RF_VALID, ZX_BLZ_RF_TAG]
  | .ZX_BLZ_UCTRL => [ZX_BLZ_UCTRL_FLUSH_RF, ZX_BLZ_UCTRL_CNT_CLR]
  | .ZX_BLZ_STS => [ZX_BLZ_STS_PSN_PEND, ZX_BLZ_STS_PSN_OVF, ZX_BLZ_STS_REPORT_LOST]
  | .ZX_BLZ_CTRL => [ZX_BLZ_CTRL_REFETCH_US]
  | .BX_BLZ_PSN_CNT0 => [BX_BLZ_PSN_CNT0_REDUCTION, BX_BLZ_PSN_CNT0_GROVE, BX_BLZ_PSN_CNT0_REPLAY, BX_BLZ_PSN_CNT0_DMA]
  | .BX_BLZ_PSN_CNT1 => [BX_BLZ_PSN_CNT1_CODEC, BX_BLZ_PSN_CNT1_CANOPY, BX_BLZ_PSN_CNT1_WARDEN]
  | .BX_RED_SLOT => [BX_RED_SLOT_EN, BX_RED_SLOT_OP, BX_RED_SLOT_SRC_KIND, BX_RED_SLOT_SRC_INDEX, BX_RED_SLOT_TENANT_VIEW, BX_RED_SLOT_HSHIFT, BX_RED_SLOT_BUCKETS, BX_RED_SLOT_K]
  | .BX_RED_SLOT_HLO => [BX_RED_SLOT_HLO_HLO]
  | .BX_RED_CTRL => [BX_RED_CTRL_FLUSH_US, BX_RED_CTRL_HOP_US]
  | .BX_RED_STS => [BX_RED_STS_CTX_USED, BX_RED_STS_OLDEST_CTX]
  | .BX_RED_LOG => [BX_RED_LOG_VALID, BX_RED_LOG_OLDEST]
  | .BX_RED_CNT0 => [BX_RED_CNT0_PARTIALS_SENT, BX_RED_CNT0_PARTIALS_RCVD]
  | .BX_RED_CNT1 => [BX_RED_CNT1_OVERLAP, BX_RED_CNT1_GEN_MISMATCH, BX_RED_CNT1_LOST_ORIGIN, BX_RED_CNT1_RECOMPUTE_DUP]
  | .BX_RED_CNT2 => [BX_RED_CNT2_REBUILDS, BX_RED_CNT2_UNENROLLED, BX_RED_CNT2_STEPPED, BX_RED_CNT2_CTX_WAIT]
  | .BX_FB_MAP => [BX_FB_MAP_OP, BX_FB_MAP_A_KIND, BX_FB_MAP_A_INDEX, BX_FB_MAP_B_KIND, BX_FB_MAP_B_INDEX, BX_FB_MAP_SLOT, BX_FB_MAP_SCALE]
  | .BX_FB_CTRL => [BX_FB_CTRL_NFEAT, BX_FB_CTRL_ON_PROV]
  | .BX_FB_STS => [BX_FB_STS_EPOCH, BX_FB_STS_FORM, BX_FB_STS_REVISION]
  | .BX_FB_CNT => [BX_FB_CNT_VECTORS, BX_FB_CNT_MISSING]
  | .BX_GRV_LANE_CTRL => [BX_GRV_LANE_CTRL_BANK_EN, BX_GRV_LANE_CTRL_EN]
  | .BX_GRV_SEL => [BX_GRV_SEL_EN, BX_GRV_SEL_INPUT, BX_GRV_SEL_FWD, BX_GRV_SEL_SLOT]
  | .BX_GRV_SEL_DIG => [BX_GRV_SEL_DIG_DIG]
  | .BX_GRV_GRS_DIG => [BX_GRV_GRS_DIG_DIG]
  | .BX_GRV_THR => [BX_GRV_THR_VOTE_MIN]
  | .BX_GRV_AMASK => [BX_GRV_AMASK_AMASK]
  | .BX_GRV_SLOT_INFO => [BX_GRV_SLOT_INFO_VALID, BX_GRV_SLOT_INFO_FORM, BX_GRV_SLOT_INFO_SELECTED, BX_GRV_SLOT_INFO_BOUND, BX_GRV_SLOT_INFO_DEPTH, BX_GRV_SLOT_INFO_PART, BX_GRV_SLOT_INFO_PART_CNT_M1, BX_GRV_SLOT_INFO_NTREES_M1, BX_GRV_SLOT_INFO_MODEL_ID]
  | .BX_GRV_SPLIT => [BX_GRV_SPLIT_WAIT_US]
  | .BX_GRV_GRS_CHK => [BX_GRV_GRS_CHK_EN, BX_GRV_GRS_CHK_EVERY]
  | .BX_GRV_GRS_SEL => [BX_GRV_GRS_SEL_EN, BX_GRV_GRS_SEL_SLOT]
  | .BX_GRV_CNT0 => [BX_GRV_CNT0_VECTORS, BX_GRV_CNT0_ALARMS]
  | .BX_GRV_CNT1 => [BX_GRV_CNT1_ABSTAINS, BX_GRV_CNT1_PART_MISSING, BX_GRV_CNT1_FAULTS, BX_GRV_CNT1_GRS_MISMATCH, BX_GRV_CNT1_PEER_BAD, BX_GRV_CNT1_NO_MODEL]
  | .ZX_GRS_STS => [ZX_GRS_STS_IMG_VALID, ZX_GRS_STS_IMG_ERR, ZX_GRS_STS_STAGED_VALID, ZX_GRS_STS_GEN, ZX_GRS_STS_MODEL_ID]
  | .BX_COR_GRP_CFG => [BX_COR_GRP_CFG_EN, BX_COR_GRP_CFG_LINE, BX_COR_GRP_CFG_ALPHA_SHIFT, BX_COR_GRP_CFG_LAG_HOLD, BX_COR_GRP_CFG_LAG_THR, BX_COR_GRP_CFG_NMEMB]
  | .BX_COR_GRP_TIME => [BX_COR_GRP_TIME_WINDOW_NS, BX_COR_GRP_TIME_DEADLINE_NS]
  | .BX_COR_CTRL => [BX_COR_CTRL_BAR_WAIT_US, BX_COR_CTRL_DEFER_MS, BX_COR_CTRL_TEST_RUN_MS, BX_COR_CTRL_POP_MIN]
  | .BX_COR_HEALTH => [BX_COR_HEALTH_W_CE, BX_COR_HEALTH_W_RT, BX_COR_HEALTH_W_RN, BX_COR_HEALTH_H_SHIFT, BX_COR_HEALTH_HEALTH_HOLD]
  | .BX_COR_HEALTH_THR => [BX_COR_HEALTH_THR_HEALTH_THR]
  | .BX_COR_BAND => [BX_COR_BAND_T_FEAT, BX_COR_BAND_T_BASE, BX_COR_BAND_T_STEP]
  | .BX_COR_LOAD => [BX_COR_LOAD_LOAD_FEAT, BX_COR_LOAD_LOAD_THR]
  | .BX_COR_DRIFT => [BX_COR_DRIFT_EN, BX_COR_DRIFT_PREAMBLE, BX_COR_DRIFT_DSHIFT, BX_COR_DRIFT_FEAT, BX_COR_DRIFT_UNIT, BX_COR_DRIFT_THR]
  | .BX_COR_ACT => [BX_COR_ACT_GROVE_STAGES, BX_COR_ACT_ACT]
  | .BX_COR_DIE_MARK => [BX_COR_DIE_MARK_REASONS, BX_COR_DIE_MARK_TSTATE, BX_COR_DIE_MARK_OVERDUE, BX_COR_DIE_MARK_BIN_VALID, BX_COR_DIE_MARK_BIN, BX_COR_DIE_MARK_UNIT, BX_COR_DIE_MARK_TEST_ID, BX_COR_DIE_MARK_LAG]
  | .BX_LKO_CFG => [BX_LKO_CFG_SUSPECT_AT, BX_LKO_CFG_DEAD_AT, BX_LKO_CFG_PROBE_US, BX_LKO_CFG_PROBE_TRIES, BX_LKO_CFG_AUTO_READMIT, BX_LKO_CFG_READMIT_EPOCHS]
  | .BX_LKO_DIE => [BX_LKO_DIE_STATE, BX_LKO_DIE_PROBING, BX_LKO_DIE_CAUSE, BX_LKO_DIE_MISSED, BX_LKO_DIE_HEARD_RUN, BX_LKO_DIE_INCARNATION]
  | .BX_COR_CNT0 => [BX_COR_CNT0_SKIPPED, BX_COR_CNT0_CUT, BX_COR_CNT0_DUP_ARR, BX_COR_CNT0_MISSED_ARR]
  | .BX_COR_CNT1 => [BX_COR_CNT1_UNBINNED, BX_COR_CNT1_INSUFFICIENT, BX_COR_CNT1_TESTS, BX_COR_CNT1_OVERDUE, BX_COR_CNT1_FAILS, BX_COR_CNT1_PROBE_FAILS]
  | .BX_RPL_ID => [BX_RPL_ID_APD_MAJOR, BX_RPL_ID_APD_MINOR]
  | .BX_RPL_CTRL => [BX_RPL_CTRL_EN, BX_RPL_CTRL_CONFIRM, BX_RPL_CTRL_KAT_PERIOD_MS]
  | .BX_RPL_STS => [BX_RPL_STS_CLUSTERS, BX_RPL_STS_QUEUED, BX_RPL_STS_BUSY, BX_RPL_STS_ENABLED]
  | .BX_RPL_CORE_MAP => [BX_RPL_CORE_MAP_CORES]
  | .BX_RPL_ENG_MAP => [BX_RPL_ENG_MAP_ENGINES]
  | .BX_RPL_CTX => [BX_RPL_CTX_STATE, BX_RPL_CTX_PRIO, BX_RPL_CTX_PARKED, BX_RPL_CTX_BANK, BX_RPL_CTX_APD_SLOT, BX_RPL_CTX_JOB_TAG, BX_RPL_CTX_TILES_DONE]
  | .BX_RPL_APD => [BX_RPL_APD_VALID, BX_RPL_APD_IN_USE, BX_RPL_APD_VER_MINOR, BX_RPL_APD_APD_REV, BX_RPL_APD_APD_ID]
  | .BX_RPL_CNT0 => [BX_RPL_CNT0_JOBS_DONE, BX_RPL_CNT0_MATCHES]
  | .BX_RPL_CNT1 => [BX_RPL_CNT1_MISMATCH, BX_RPL_CNT1_NOTCOMPARABLE, BX_RPL_CNT1_NOT_REPLAYED, BX_RPL_CNT1_CONFIRM_FAIL]
  | .BX_RPL_CNT2 => [BX_RPL_CNT2_PREEMPTS, BX_RPL_CNT2_XLATE_FREEZES, BX_RPL_CNT2_KAT_FAILS, BX_RPL_CNT2_RETIRED]
  | .BX_CMT_TEN_POLICY => [BX_CMT_TEN_POLICY_SC, BX_CMT_TEN_POLICY_GATE, BX_CMT_TEN_POLICY_HOLD_EXTERNAL, BX_CMT_TEN_POLICY_ON_UNCHECKED, BX_CMT_TEN_POLICY_AFTER_REVOKE, BX_CMT_TEN_POLICY_SAMPLE_PPM, BX_CMT_TEN_POLICY_MAX_PENDING, BX_CMT_TEN_POLICY_LEDGER_LOG2]
  | .BX_CMT_TEN_SEED => [BX_CMT_TEN_SEED_SAMPLE_SEED]
  | .BX_CMT_LEDGER => [BX_CMT_LEDGER_NEXT_SEQ]
  | .BX_CMT_CTRL => [BX_CMT_CTRL_EN, BX_CMT_CTRL_GATE_WAIT_MS, BX_CMT_CTRL_OPERAND_WAIT_MS, BX_CMT_CTRL_MIG_LEAD]
  | .BX_CMT_SUSPECT => [BX_CMT_SUSPECT_SUSPECT_PPM, BX_CMT_SUSPECT_BIN_PPM, BX_CMT_SUSPECT_MIN_SAMPLE_PPM]
  | .BX_CMT_STS => [BX_CMT_STS_JOBS, BX_CMT_STS_PENDING, BX_CMT_STS_REPLAY_JOBS]
  | .BX_CMT_CNT0 => [BX_CMT_CNT0_ANNOUNCED, BX_CMT_CNT0_COMMITTED]
  | .BX_CMT_CNT1 => [BX_CMT_CNT1_SELECTED, BX_CMT_CNT1_REVOKED, BX_CMT_CNT1_DEPENDENT]
  | .BX_CMT_CNT2 => [BX_CMT_CNT2_STALE_PLACEMENT, BX_CMT_CNT2_DUP_STEP, BX_CMT_CNT2_UNCHECKED, BX_CMT_CNT2_NOTCOMPARABLE]
  | .BX_CMT_CNT3 => [BX_CMT_CNT3_DETECTED, BX_CMT_CNT3_BLAZE, BX_CMT_CNT3_PLACEMENT_ERR, BX_CMT_CNT3_FAULTS]
  | .BX_CMT_CNT4 => [BX_CMT_CNT4_LEDGER_OVERWRITES, BX_CMT_CNT4_FENCED_DROP, BX_CMT_CNT4_DIGEST_MISMATCH]
  | .BX_CNP_IDENT => [BX_CNP_IDENT_FLEET_ID, BX_CNP_IDENT_AGG_ID, BX_CNP_IDENT_ASSIGNED, BX_CNP_IDENT_BOOT]
  | .BX_CNP_DEV_UID => [BX_CNP_DEV_UID_DEV_UID]
  | .BX_CNP_PORT_STS => [BX_CNP_PORT_STS_LSTATE, BX_CNP_PORT_STS_PSTATE, BX_CNP_PORT_STS_NEIGH_AGG, BX_CNP_PORT_STS_NEIGH_PORT, BX_CNP_PORT_STS_LANE_MAP, BX_CNP_PORT_STS_ATTEMPTS, BX_CNP_PORT_STS_REPLAY_OCC]
  | .BX_CNP_PORT_SEQ => [BX_CNP_PORT_SEQ_TX_NXT, BX_CNP_PORT_SEQ_TX_UNA, BX_CNP_PORT_SEQ_RX_NEXT]
  | .BX_CNP_PORT_MISC => [BX_CNP_PORT_MISC_STOMPED_RX, BX_CNP_PORT_MISC_CREDIT_VIOL, BX_CNP_PORT_MISC_FENCED_DROP, BX_CNP_PORT_MISC_ALARM_LIMITED, BX_CNP_PORT_MISC_RETRAINS]
  | .BX_CNP_PORT_CTRL => [BX_CNP_PORT_CTRL_HOLD, BX_CNP_PORT_CTRL_RETRAIN, BX_CNP_PORT_CTRL_ISOLATE, BX_CNP_PORT_CTRL_ALARM_LIMIT]
  | .BX_CNP_CTRL => [BX_CNP_CTRL_HB_US, BX_CNP_CTRL_LOST_US, BX_CNP_CTRL_REPEAT_US, BX_CNP_CTRL_RELAY_WAIT_US, BX_CNP_CTRL_LSA_REFRESH_MS, BX_CNP_CTRL_FENCE_LEAD_US]
  | .BX_CNP_FAB_STS => [BX_CNP_FAB_STS_ROLE, BX_CNP_FAB_STS_UNMIRRORED, BX_CNP_FAB_STS_ORPHANED, BX_CNP_FAB_STS_ACT_PARENT, BX_CNP_FAB_STS_ACT_BUDDY, BX_CNP_FAB_STS_ACT_ROOT, BX_CNP_FAB_STS_REACHABLE]
  | .BX_CNP_FENCE => [BX_CNP_FENCE_FENCED]
  | .BX_CNP_CNT0 => [BX_CNP_CNT0_NOROUTE, BX_CNP_CNT0_TTL_EXPIRED, BX_CNP_CNT0_RELAY_TIMEOUT, BX_CNP_CNT0_DETOURS]
  | .BX_CNP_CNT1 => [BX_CNP_CNT1_LOST_DECLARED, BX_CNP_CNT1_DUP_ID, BX_CNP_CNT1_FLEET_MISMATCH, BX_CNP_CNT1_LSA_ONEWAY]
  | .BX_MEM_REGION => [BX_MEM_REGION_NEXT_SIZE, BX_MEM_REGION_SIZE, BX_MEM_REGION_BASE]
  | .BX_MEM_PART => [BX_MEM_PART_VALID, BX_MEM_PART_BASE, BX_MEM_PART_COUNT, BX_MEM_PART_LEDGER]
  | .BX_MEM_ECC => [BX_MEM_ECC_CE, BX_MEM_ECC_UE, BX_MEM_ECC_SCRUB_H]
  | .BX_XLT_SPACE => [BX_XLT_SPACE_EN, BX_XLT_SPACE_L1_BASE]
  | .BX_XLT_FAULT => [BX_XLT_FAULT_CAUSE, BX_XLT_FAULT_SOURCE, BX_XLT_FAULT_SPACE, BX_XLT_FAULT_VA]
  | .BX_XLT_CNT => [BX_XLT_CNT_TLB_MISS, BX_XLT_CNT_FAULTS]
  | .BX_MEM_CNT => [BX_MEM_CNT_WIPED_GRANULES, BX_MEM_CNT_ILOG_FULL]
  | .BX_DMA_CH_CFG => [BX_DMA_CH_CFG_EN, BX_DMA_CH_CFG_CLASS, BX_DMA_CH_CFG_SPACE, BX_DMA_CH_CFG_FUNC, BX_DMA_CH_CFG_RING_LOG2, BX_DMA_CH_CFG_WEIGHT]
  | .BX_DMA_CH_RING => [BX_DMA_CH_RING_BASE]
  | .BX_DMA_CH_DB => [BX_DMA_CH_DB_TAIL]
  | .BX_DMA_CH_STS => [BX_DMA_CH_STS_STATE, BX_DMA_CH_STS_LAST_STATUS, BX_DMA_CH_STS_HEAD, BX_DMA_CH_STS_OFFSET]
  | .BX_DMA_CNT => [BX_DMA_CNT_PREEMPTS, BX_DMA_CNT_HALTS, BX_DMA_CNT_HOST_ERRS]
  | .BX_TRS_CTRL => [BX_TRS_CTRL_FULL, BX_TRS_CTRL_FLUSH_US]
  | .BX_TRS_DIE_CFG => [BX_TRS_DIE_CFG_TRACE_EN, BX_TRS_DIE_CFG_DUMP_EN, BX_TRS_DIE_CFG_CTR_EN, BX_TRS_DIE_CFG_GAUGE_EN]
  | .BX_TRS_STS => [BX_TRS_STS_IDX_WR, BX_TRS_STS_DRAIN_RD]
  | .BX_TRS_CNT0 => [BX_TRS_CNT0_BLOCKS, BX_TRS_CNT0_INPUT_LOST]
  | .BX_TRS_CNT1 => [BX_TRS_CNT1_FULL_LOST, BX_TRS_CNT1_DRAIN_LOST, BX_TRS_CNT1_EXCEEDED, BX_TRS_CNT1_GAUGE_HELD, BX_TRS_CNT1_DISABLED]
  | .BX_EGS_SUB_CFG => [BX_EGS_SUB_CFG_CIR, BX_EGS_SUB_CFG_PIR, BX_EGS_SUB_CFG_SERVICE]
  | .BX_EGS_SUB_BURST => [BX_EGS_SUB_BURST_CBS, BX_EGS_SUB_BURST_PBS]
  | .BX_EGS_SUB_LVL => [BX_EGS_SUB_LVL_C_LEVEL, BX_EGS_SUB_LVL_P_LEVEL]
  | .BX_EGS_SVC_CFG => [BX_EGS_SVC_CFG_RATE, BX_EGS_SVC_CFG_BURST, BX_EGS_SVC_CFG_WEIGHT]
  | .BX_EGS_SVC_LVL => [BX_EGS_SVC_LVL_LEVEL]
  | .BX_EGS_SVC_TAG => [BX_EGS_SVC_TAG_TAG]
  | .BX_EGS_GATE_TIME => [BX_EGS_GATE_TIME_PERIOD_NS, BX_EGS_GATE_TIME_PHASE_NS]
  | .BX_EGS_GATE_SPAN => [BX_EGS_GATE_SPAN_EN, BX_EGS_GATE_SPAN_MASK, BX_EGS_GATE_SPAN_WIDTH_NS]
  | .BX_EGS_PORT_STS => [BX_EGS_PORT_STS_GUARD_NS, BX_EGS_PORT_STS_CLOSED]
  | .BX_EGS_PORT_VT => [BX_EGS_PORT_VT_V]
  | .BX_EGS_PORT_CNT => [BX_EGS_PORT_CNT_GATE_HELD, BX_EGS_PORT_CNT_DEBT_CLEARS, BX_EGS_PORT_CNT_WAKES]
  | .BX_WDN_BOOT_CAP => [BX_WDN_BOOT_CAP_CAP]
  | .BX_WDN_BOOT_RPL => [BX_WDN_BOOT_RPL_RPL]
  | .BX_WDN_BOOT_CTRL => [BX_WDN_BOOT_CTRL_GO]
  | .BX_WDN_BOOT_STS => [BX_WDN_BOOT_STS_BUSY, BX_WDN_BOOT_STS_DONE, BX_WDN_BOOT_STS_RECOVERY]
  | .BX_SYS_ID => [BX_SYS_ID_VENDOR, BX_SYS_ID_ARCH, BX_SYS_ID_MAJOR, BX_SYS_ID_MINOR]
  | .BX_WDN_QP_SQB => [BX_WDN_QP_SQB_BASE]
  | .BX_WDN_QP_CQB => [BX_WDN_QP_CQB_BASE]
  | .BX_WDN_EVB => [BX_WDN_EVB_BASE]
  | .BX_WDN_QP_CFG => [BX_WDN_QP_CFG_EN, BX_WDN_QP_CFG_SQ_LOG2, BX_WDN_QP_CFG_CQ_LOG2]
  | .BX_WDN_EV_CFG => [BX_WDN_EV_CFG_EN, BX_WDN_EV_CFG_LOG2]
  | .BX_WDN_QP_DB => [BX_WDN_QP_DB_CQ_HEAD, BX_WDN_QP_DB_SQ_TAIL]
  | .BX_WDN_EV_DB => [BX_WDN_EV_DB_HEAD]
  | .BX_WDN_QP_STS => [BX_WDN_QP_STS_STATE, BX_WDN_QP_STS_ERR, BX_WDN_QP_STS_IN_PROG, BX_WDN_QP_STS_SQ_HEAD, BX_WDN_QP_STS_CQ_TAIL]
  | .BX_WDN_EV_STS => [BX_WDN_EV_STS_EV_SEQ, BX_WDN_EV_STS_HELD, BX_WDN_EV_STS_LOST]
  | .BX_WDN_CTRL => [BX_WDN_CTRL_EXEC_MS, BX_WDN_CTRL_RELAY_MS]
  | .BX_WDN_MCTP => [BX_WDN_MCTP_ADDR]
  | .BX_WDN_FW_STS => [BX_WDN_FW_STS_STATE, BX_WDN_FW_STS_STORE_VALID, BX_WDN_FW_STS_MIN_SEC_VER, BX_WDN_FW_STS_VERSION]
  | .BX_WDN_CNT0 => [BX_WDN_CNT0_CAPSULES, BX_WDN_CNT0_DENIED, BX_WDN_CNT0_BADOP]
  | .BX_WDN_CNT1 => [BX_WDN_CNT1_TIMEOUTS, BX_WDN_CNT1_DISCARDED, BX_WDN_CNT1_DUP_TAG, BX_WDN_CNT1_POISON_DROP]
  | .BX_TAP_STS => [BX_TAP_STS_WEDGED, BX_TAP_STS_CAUSE, BX_TAP_STS_DUMP_HELD, BX_TAP_STS_DUMP_READ, BX_TAP_STS_TB_LOST, BX_TAP_STS_DUMP_MISSED]
  | .BX_TAP_CTRL => [BX_TAP_CTRL_WDOG_US, BX_TAP_CTRL_AUTO_RESET]
  | .BX_TAP_KICK => [BX_TAP_KICK_KICK]
  | .BX_SAF_STS => [BX_SAF_STS_LAST_CODE, BX_SAF_STS_DETECTIONS, BX_SAF_STS_LATENT_FAILS, BX_SAF_STS_DEGRADED, BX_SAF_STS_LAST_INJ]
  | .BX_SAF_CTRL => [BX_SAF_CTRL_LT_PERIOD_MS]
  | .BX_SAF_DIE => [BX_SAF_DIE_LAST_CODE, BX_SAF_DIE_COUNT]
  | .BX_HW_STS => [BX_HW_STS_NEXT_SEQ, BX_HW_STS_MAIN_HELD, BX_HW_STS_PROT_HELD]
  | .BX_HW_CNT => [BX_HW_CNT_OVERWRITTEN, BX_HW_CNT_SUPPRESSED, BX_HW_CNT_LOST]
  | .BX_HW_AUTH => [BX_HW_AUTH_NONCE]
  | .BX_HW_SNAP => [BX_HW_SNAP_EN, BX_HW_SNAP_OFFSET]
  | .BX_WT_INJ => [BX_WT_INJ_ARMED, BX_WT_INJ_ACTION, BX_WT_INJ_REMAIN, BX_WT_INJ_ARG]
  | .BX_WT_STS => [BX_WT_STS_ARMED, BX_WT_STS_INJECTED]
  | .BX_VIOL_HOST => [BX_VIOL_HOST_RESERVED_WR, BX_VIOL_HOST_RING_WR, BX_VIOL_HOST_DB_RANGE, BX_VIOL_HOST_EV_HEAD]
  | .BX_VIOL_MCTP => [BX_VIOL_MCTP_PEC, BX_VIOL_MCTP_SEQ, BX_VIOL_MCTP_LONG, BX_VIOL_MCTP_UNSUP, BX_VIOL_MCTP_BUSY]
  | .BX_LC_STS => [BX_LC_STS_STATE, BX_LC_STS_TRANSITIONING, BX_LC_STS_NVM_ERR, BX_LC_STS_TRANSITIONS]
  | .BX_LC_DIE => [BX_LC_DIE_ZX_STATE]
  | .BX_PWR_STS => [BX_PWR_STS_PSTATE, BX_PWR_STS_RAIL_FAULT, BX_PWR_STS_CLOCK_FAULT, BX_PWR_STS_HBM_FAULT, BX_PWR_STS_THROTTLE, BX_PWR_STS_POWER_W, BX_PWR_STS_THROTTLE_MS]
  | .BX_PWR_LIMIT => [BX_PWR_LIMIT_LIMIT_W]
  | .BX_TRS_GAUGE_CFG => [BX_TRS_GAUGE_CFG_MODE, BX_TRS_GAUGE_CFG_F_LOG2]
  | .BX_TRS_GAUGE_SNS => [BX_TRS_GAUGE_SNS_SNS7, BX_TRS_GAUGE_SNS_SNS6, BX_TRS_GAUGE_SNS_SNS5, BX_TRS_GAUGE_SNS_SNS4, BX_TRS_GAUGE_SNS_SNS3, BX_TRS_GAUGE_SNS_SNS2, BX_TRS_GAUGE_SNS_SNS1, BX_TRS_GAUGE_SNS_SNS0]
  | .BX_TRS_GAUGE_BND => [BX_TRS_GAUGE_BND_BOUND3, BX_TRS_GAUGE_BND_BOUND2, BX_TRS_GAUGE_BND_BOUND1, BX_TRS_GAUGE_BND_BOUND0]
  | .ZX_TB_STR_MAP => [ZX_TB_STR_MAP_EN7, ZX_TB_STR_MAP_TAP7, ZX_TB_STR_MAP_EN6, ZX_TB_STR_MAP_TAP6, ZX_TB_STR_MAP_EN5, ZX_TB_STR_MAP_TAP5, ZX_TB_STR_MAP_EN4, ZX_TB_STR_MAP_TAP4, ZX_TB_STR_MAP_EN3, ZX_TB_STR_MAP_TAP3, ZX_TB_STR_MAP_EN2, ZX_TB_STR_MAP_TAP2, ZX_TB_STR_MAP_EN1, ZX_TB_STR_MAP_TAP1, ZX_TB_STR_MAP_EN0, ZX_TB_STR_MAP_TAP0]

/-- Every register name. -/
def allRegs : List Reg :=
  ([.BX_EPC_SCHED_ANCHOR, .BX_EPC_SCHED_CFG, .BX_EPC_STATE, .BX_EPC_CURRENT, .BX_EPC_CTRL, .BX_EPC_DROP_CNT, .BX_EPC_MISC_CNT, .BX_CFG_GEN,
    .BX_CFG_APPLY, .ZX_EPC_STATE, .ZX_EPC_ID, .ZX_CTR_SEL, .ZX_CTR_VAL, .ZX_CTR_SNAP, .ZX_LS_VAL, .ZX_LS_CTRL,
    .ZX_SNS_CFG, .ZX_SNS_EN, .ZX_SNS_VAL, .ZX_SNS_CAL, .ZX_SNS_PARAM, .ZX_SEC_BIND, .ZX_QW_TIME, .ZX_QW_SPAN,
    .ZX_BAR_ARRIVE, .ZX_IRQ_STS, .ZX_IRQ_EN, .ZX_GRS_FEAT, .ZX_GRS_RESULT, .ZX_ID, .ZX_BUILD, .ZX_CTRL,
    .ZX_TAP_CFG, .ZX_TAP_STS, .ZX_TRC_CFG, .ZX_TRC_MASK, .ZX_TRC_TRIG_AT, .ZX_TRC_STS, .ZX_TRC_DBASE, .ZX_TRC_DWR] : List Reg) ++
  ([.ZX_TRC_DRD, .ZX_TRC_CTRL, .ZX_HD_CFG, .ZX_HD_STS, .ZX_HD_CTRL, .ZX_MEM_WIN, .ZX_LOG_OLDEST, .ZX_LOG_ACKED,
    .ZX_LOG_STS, .BX_Q_STS, .BX_Q_CNT, .BX_Q_DROP, .ZX_EPC_ADDR, .STM_STS, .ZX_STM_CNT, .ZX_STM_PMA_LAT,
    .ZX_STM_CTRL, .PORT_ERRS, .BX_STM_PORT_MISC, .BX_STM_PORT_CTRL, .TB_NOW_NS, .TB_NOW_FRAC, .TB_STS, .TB_OFFSET,
    .TB_INC, .TB_SERVO, .ZX_LAC_TGT, .ZX_LAC_CFG, .ZX_TB_TAP_STOP, .BX_TB_SRC, .BX_TB_TOD, .BX_TB_PPS,
    .BLZ_CFG, .BLZ_POLY, .BLZ_XOROUT, .BLZ_CNT0, .BLZ_CNT1, .BLZ_LAST, .ZX_BLZ_RF, .ZX_BLZ_UCTRL] : List Reg) ++
  ([.ZX_BLZ_STS, .ZX_BLZ_CTRL, .BX_BLZ_PSN_CNT0, .BX_BLZ_PSN_CNT1, .BX_RED_SLOT, .BX_RED_SLOT_HLO, .BX_RED_CTRL, .BX_RED_STS,
    .BX_RED_LOG, .BX_RED_CNT0, .BX_RED_CNT1, .BX_RED_CNT2, .BX_FB_MAP, .BX_FB_CTRL, .BX_FB_STS, .BX_FB_CNT,
    .BX_GRV_LANE_CTRL, .BX_GRV_SEL, .BX_GRV_SEL_DIG, .BX_GRV_GRS_DIG, .BX_GRV_THR, .BX_GRV_AMASK, .BX_GRV_SLOT_INFO, .BX_GRV_SPLIT,
    .BX_GRV_GRS_CHK, .BX_GRV_GRS_SEL, .BX_GRV_CNT0, .BX_GRV_CNT1, .ZX_GRS_STS, .BX_COR_GRP_CFG, .BX_COR_GRP_TIME, .BX_COR_CTRL,
    .BX_COR_HEALTH, .BX_COR_HEALTH_THR, .BX_COR_BAND, .BX_COR_LOAD, .BX_COR_DRIFT, .BX_COR_ACT, .BX_COR_DIE_MARK, .BX_LKO_CFG] : List Reg) ++
  ([.BX_LKO_DIE, .BX_COR_CNT0, .BX_COR_CNT1, .BX_RPL_ID, .BX_RPL_CTRL, .BX_RPL_STS, .BX_RPL_CORE_MAP, .BX_RPL_ENG_MAP,
    .BX_RPL_CTX, .BX_RPL_APD, .BX_RPL_CNT0, .BX_RPL_CNT1, .BX_RPL_CNT2, .BX_CMT_TEN_POLICY, .BX_CMT_TEN_SEED, .BX_CMT_LEDGER,
    .BX_CMT_CTRL, .BX_CMT_SUSPECT, .BX_CMT_STS, .BX_CMT_CNT0, .BX_CMT_CNT1, .BX_CMT_CNT2, .BX_CMT_CNT3, .BX_CMT_CNT4,
    .BX_CNP_IDENT, .BX_CNP_DEV_UID, .BX_CNP_PORT_STS, .BX_CNP_PORT_SEQ, .BX_CNP_PORT_MISC, .BX_CNP_PORT_CTRL, .BX_CNP_CTRL, .BX_CNP_FAB_STS,
    .BX_CNP_FENCE, .BX_CNP_CNT0, .BX_CNP_CNT1, .BX_MEM_REGION, .BX_MEM_PART, .BX_MEM_ECC, .BX_XLT_SPACE, .BX_XLT_FAULT] : List Reg) ++
  ([.BX_XLT_CNT, .BX_MEM_CNT, .BX_DMA_CH_CFG, .BX_DMA_CH_RING, .BX_DMA_CH_DB, .BX_DMA_CH_STS, .BX_DMA_CNT, .BX_TRS_CTRL,
    .BX_TRS_DIE_CFG, .BX_TRS_STS, .BX_TRS_CNT0, .BX_TRS_CNT1, .BX_EGS_SUB_CFG, .BX_EGS_SUB_BURST, .BX_EGS_SUB_LVL, .BX_EGS_SVC_CFG,
    .BX_EGS_SVC_LVL, .BX_EGS_SVC_TAG, .BX_EGS_GATE_TIME, .BX_EGS_GATE_SPAN, .BX_EGS_PORT_STS, .BX_EGS_PORT_VT, .BX_EGS_PORT_CNT, .BX_WDN_BOOT_CAP,
    .BX_WDN_BOOT_RPL, .BX_WDN_BOOT_CTRL, .BX_WDN_BOOT_STS, .BX_SYS_ID, .BX_WDN_QP_SQB, .BX_WDN_QP_CQB, .BX_WDN_EVB, .BX_WDN_QP_CFG,
    .BX_WDN_EV_CFG, .BX_WDN_QP_DB, .BX_WDN_EV_DB, .BX_WDN_QP_STS, .BX_WDN_EV_STS, .BX_WDN_CTRL, .BX_WDN_MCTP, .BX_WDN_FW_STS] : List Reg) ++
  ([.BX_WDN_CNT0, .BX_WDN_CNT1, .BX_TAP_STS, .BX_TAP_CTRL, .BX_TAP_KICK, .BX_SAF_STS, .BX_SAF_CTRL, .BX_SAF_DIE,
    .BX_HW_STS, .BX_HW_CNT, .BX_HW_AUTH, .BX_HW_SNAP, .BX_WT_INJ, .BX_WT_STS, .BX_VIOL_HOST, .BX_VIOL_MCTP,
    .BX_LC_STS, .BX_LC_DIE, .BX_PWR_STS, .BX_PWR_LIMIT, .BX_TRS_GAUGE_CFG, .BX_TRS_GAUGE_SNS, .BX_TRS_GAUGE_BND, .ZX_TB_STR_MAP] : List Reg)

/-- The names of registers that ZX40 alone has. -/
def zx40Regs : List Reg :=
  ([.ZX_EPC_STATE, .ZX_EPC_ID, .ZX_CTR_SEL, .ZX_CTR_VAL, .ZX_CTR_SNAP, .ZX_LS_VAL, .ZX_LS_CTRL, .ZX_SNS_CFG,
    .ZX_SNS_EN, .ZX_SNS_VAL, .ZX_SNS_CAL, .ZX_SNS_PARAM, .ZX_SEC_BIND, .ZX_QW_TIME, .ZX_QW_SPAN, .ZX_BAR_ARRIVE,
    .ZX_IRQ_STS, .ZX_IRQ_EN, .ZX_GRS_FEAT, .ZX_GRS_RESULT, .ZX_ID, .ZX_BUILD, .ZX_CTRL, .ZX_TAP_CFG,
    .ZX_TAP_STS, .ZX_TRC_CFG, .ZX_TRC_MASK, .ZX_TRC_TRIG_AT, .ZX_TRC_STS, .ZX_TRC_DBASE, .ZX_TRC_DWR, .ZX_TRC_DRD,
    .ZX_TRC_CTRL, .ZX_HD_CFG, .ZX_HD_STS, .ZX_HD_CTRL, .ZX_MEM_WIN, .ZX_LOG_OLDEST, .ZX_LOG_ACKED, .ZX_LOG_STS] : List Reg) ++
  ([.ZX_EPC_ADDR, .ZX_STM_CNT, .ZX_STM_PMA_LAT, .ZX_STM_CTRL, .ZX_LAC_TGT, .ZX_LAC_CFG, .ZX_TB_TAP_STOP, .ZX_BLZ_RF,
    .ZX_BLZ_UCTRL, .ZX_BLZ_STS, .ZX_BLZ_CTRL, .ZX_GRS_STS, .ZX_TB_STR_MAP] : List Reg)

end Sys2Proof.Machine
end

