-- ==== Sys2Proof/Machine/Types.lean ====
section
/-! DEFINITION. The plain data types of the machine's parts that the commands' operands and the state share, chapter by
chapter. A Ringcount value (R161) is a natural number of 2^-16 ns units, the 80 bits RC_NS and RC_FRAC, unless a field says
nanoseconds. -/
namespace Sys2Proof.Machine

/-! ## Parts and link ends -/

/-- The two parts of the device (R1). -/
inductive Part where
  | zx | bx
  deriving DecidableEq, Repr

/-- A link end of this device: ZX40's Stem end, BX64's Stem port p (0 to 63, and 64 for the internal link of the
self-monitoring ZX40, R137), or BX64's Canopy port q (0 to 23). -/
inductive LinkId where
  | zx
  | stem (p : Nat)
  | canopy (q : Nat)
  deriving DecidableEq, Repr

/-- The states of Table 5-3 (R133). -/
inductive LState where
  | reset | lock | align | param | active | downHold
  deriving DecidableEq, Repr

/-- One flit to send, before its SEQ and ACKSEQ are known (Tables 5-4 and 13-2). vc, bcast, hops, src and dst are Canopy's. -/
structure FlitBody where
  ty : Nat
  sub : Nat
  first : Bool
  last : Bool
  resent : Bool := false
  part : Nat
  payload : Bytes
  vc : Nat := 0
  bcast : Bool := false
  hops : Nat := 31
  src : Nat := 0
  dst : Nat := 0
  /-- leaves with its CRC inverted (R390) -/
  stomp : Bool := false
  deriving DecidableEq, Repr

/-- A flit held in the replay buffer: its SEQ, its body and its bytes as sent (R150: resent bit for bit). -/
structure HeldFlit where
  seq : Nat
  body : FlitBody
  bytes : Bytes
  deriving DecidableEq, Repr

/-- A flit waiting to leave a Canopy port on its VC: where it came from (a relay's port, to free its buffer) and when. -/
structure WaitFlit where
  body : FlitBody
  fromPort : Option Nat := none
  since : Nat := 0
  deriving DecidableEq, Repr

/-- A message delivered by a link end, or the open part of one (R141, R386). -/
structure Msg where
  ty : Nat
  sub : Nat
  vc : Nat := 0
  src : Nat := 0
  dst : Nat := 0
  bcast : Bool := false
  /-- hops the message may still take (R380) -/
  hops : Nat := 31
  resent : Bool := false
  bytes : Bytes
  deriving DecidableEq, Repr

/-- A message being received: the parts so far, in order of arrival (R141). -/
structure OpenMsg where
  msg : Msg
  nextPart : Nat
  deriving DecidableEq, Repr

/-- The snapshot message ZX40 is sending (R142): its epoch, mark and next part; parts 1 to K - 1, then 0. -/
structure SnapTx where
  epoch : Nat
  resent : Bool
  nextPart : Nat
  deriving DecidableEq, Repr

/-- One end of a link (R133 to R151; for Canopy with the substitutions of Table 13-1). -/
structure LinkEnd where
  /-- state of Table 5-3 -/
  lstate : LState := .reset
  /-- LANE_MAP -/
  laneMap : Nat := 0
  /-- per-lane lock bits -/
  lock : Nat := 0
  /-- failed attempts in a row -/
  attempts : Nat := 0
  /-- this end's sequence state was reset since its last ACTIVE -/
  fresh : Bool := true
  /-- the first ACTIVE marker of the partner was received (R133) -/
  partnerActive : Bool := false
  /-- scrambler state of each lane: its last 58 scrambled bits (R129) -/
  scr : List Nat := [0, 0, 0, 0]
  /-- descrambler state of each physical lane -/
  descr : List Nat := [0, 0, 0, 0]
  /-- word cycles by which each logical lane is delayed to align it (R131) -/
  deskew : List Nat := [0, 0, 0, 0]
  /-- word cycles since the last marker slot (R131) -/
  slot : Nat := 0
  /-- marker slots in a row without a valid marker, per physical lane (R134) -/
  missRun : List Nat := [0, 0, 0, 0]
  /-- next SEQ to send -/
  nxt : Nat := 0
  /-- oldest unacknowledged SEQ -/
  una : Nat := 0
  /-- NEXT, the SEQ expected next -/
  next : Nat := 0
  /-- replay buffer, oldest first -/
  replay : List HeldFlit := []
  /-- a NAK is pending -/
  nakPending : Bool := false
  /-- a NAK is due to be sent -/
  nakDue : Bool := false
  /-- accepted flits not yet acknowledged -/
  unacked : Nat := 0
  /-- an acknowledgement is due within 1 us -/
  ackDue : Bool := false
  /-- the log acknowledgement has advanced and no ACK flit has carried it (R145) -/
  logAckDue : Bool := false
  /-- first SEQ of the resend due, if any -/
  resendFrom : Option Nat := none
  /-- resends made from the present UNA -/
  resends : Nat := 0
  /-- open messages being received -/
  rxOpen : List OpenMsg := []
  /-- delivered messages not yet consumed, oldest first -/
  inbox : List Msg := []
  /-- single flits waiting, oldest first, with the class of R151 they wait in -/
  wait : List (Nat × WaitFlit) := []
  /-- a TIME flit whose word cycle is fixed for the next boundary (R152) -/
  timeFixed : Option FlitBody := none
  /-- SNAP boundaries taken since the last TRACE flit (R151) -/
  snapRun : Nat := 0
  /-- header of the last flit received with good CRC -/
  lastRx : Nat := 0
  /-- header of the last flit sent -/
  lastTx : Nat := 0
  /-- integer ns of the last LSTATE change -/
  lastChange : Nat := 0
  /-- MALFORMED plus VIOL counted since the epoch began (R157) -/
  violEpoch : Nat := 0
  /-- the epoch that count and the two below belong to -/
  violIn : Nat := 0
  /-- integer ns of the escalation retrains of the last second -/
  escalations : List Nat := []
  /-- forwarded ALARMs of the open epoch -/
  alarmsFwd : Nat := 0
  /-- the ALARM_LIMITED Heartwood record of this epoch is written -/
  limitLogged : Bool := false
  /-- the hang dump's next part to send, if one is being sent -/
  dumpNext : Option Nat := none
  /-- the snapshot message being sent -/
  snapTx : Option SnapTx := none
  deriving DecidableEq, Repr

/-! ## Queues (R108 to R122) -/

/-- A queue word (Table 4-1). -/
structure QWord where
  data : Nat
  p : Bool := false
  x : Bool := false
  last : Bool := false
  deriving DecidableEq, Repr

/-- A word in a queue with the read-edge count at which it was committed (R120). -/
structure QSlot where
  word : QWord
  stamp : Nat
  deriving DecidableEq, Repr

/-- A word that a producer presents, and its cancel strobe (R118). -/
structure QPush where
  word : QWord
  cancel : Bool := false
  deriving DecidableEq, Repr

/-- What LINK_ALIGN_DONE found: LANE_MAP and the word cycles each logical lane is delayed by (R131). -/
structure LaneAlign where
  map : Nat
  deskew : List Nat
  deriving DecidableEq, Repr

/-- What the partner's markers showed: FRESH, and whether the latest of them were ACTIVE ones (R133). -/
structure PeerMarks where
  fresh : Bool
  active : Bool
  deriving DecidableEq, Repr

/-- The words on the four physical lanes of a link end in a marker slot. -/
structure LaneMarks where
  link : LinkId
  words : List Nat
  deriving DecidableEq, Repr

/-- The header fields of an ALARM flit that its handling reads: SEQ and the sub-kind (R155). -/
structure AlarmHead where
  seq : Nat
  sub : Nat
  deriving DecidableEq, Repr

/-- Where a Canopy message comes from: the port it arrived at and the aggregator that sent it. -/
structure CanopyFrom where
  port : Nat
  src : Nat
  deriving DecidableEq, Repr

/-- A Blaze word and the sequence number it is judged against. -/
structure BlzWordSeq where
  word : Nat
  seq : Nat
  deriving DecidableEq, Repr

/-- The fixed shape of a queue, which the chapters name as hardware and give for few queues. -/
structure QShape where
  part : Part := .bx
  packet : Bool := false
  dual : Bool := false
  drop : Bool := false
  cap : Nat
  deriving DecidableEq, Repr

/-- One queue: its fixed shape, its words and its state. -/
structure Queue where
  part : Part := .bx
  packet : Bool := false
  dual : Bool := false
  /-- true for a drop producer, false for a stall producer (R113) -/
  drop : Bool := false
  /-- C, in words -/
  cap : Nat
  /-- committed words, oldest first -/
  words : List QSlot := []
  /-- words of the open packet, oldest first -/
  open_ : List QWord := []
  /-- drop-remainder in progress (R117) -/
  dropping : Bool := false
  /-- the word last popped -/
  lastPop : QWord := { data := 0 }
  /-- words a stall producer holds, oldest first (R113) -/
  held : List QPush := []
  /-- write-clock and read-clock edges seen by a dual-clock queue -/
  wEdge : Nat := 0
  rEdge : Nat := 0
  /-- write-edge counts of pops whose slots have not crossed back yet (R121) -/
  freeing : List Nat := []
  /-- the open packet survived a reset and is cancelled at the next push (R127) -/
  cancelNext : Bool := false
  underrun : Bool := false
  pktAbort : Bool := false
  parity : Bool := false
  underruns : Nat := 0
  aborts : Nat := 0
  cancels : Nat := 0
  parityErrs : Nat := 0
  droppedWords : Nat := 0
  overruns : Nat := 0
  deriving DecidableEq, Repr

/-! ## Time (R161 to R183) -/

/-- Timebase states of Table 6-2. -/
inductive TbState where
  | unlocked | settling | locked | holdover
  deriving DecidableEq, Repr

/-- An exchange in progress at the side that takes time (R170, R171): its number, t1, the arriving correctionField (0 over Stem,
where it is part of t1), t2 and t3, in 2^-16 ns; and the period in us of the SYNC that opened it. -/
structure Exchange where
  num : Nat
  t1 : Int := 0
  cS : Int := 0
  t2 : Int := 0
  t3 : Int := 0
  period : Nat := 0
  /-- Canopy port and parent of the Sync, and the port number this BX64 named in its Delay_Req (R171) -/
  q : Nat := 0
  src : Nat := 0
  reqPort : Nat := 0
  deriving DecidableEq, Repr

/-- One timebase (R161 to R167). -/
structure Timebase where
  /-- RC_NS, RC_FRAC and the 16 hidden bits: 96 bits, units of 2^-32 ns -/
  count : Nat := 0
  /-- INC, units of 2^-32 ns -/
  inc : Nat := 5368709120
  /-- ticks since reset, and the sum of INC over them, which no step changes (the model's own: what the rules measure in ticks) -/
  ticks : Nat := 0
  run : Nat := 0
  /-- adj_f of R165, exact -/
  adjF : Rat := 0
  state : TbState := .unlocked
  stepUsed : Bool := false
  /-- exchanges left of a RESYNC grant -/
  grant : Option Nat := none
  /-- measurements in a row within LOCK_NS -/
  goodRun : Nat := 0
  /-- exchanges in a row beyond UNLOCK_NS -/
  badRun : Nat := 0
  /-- the exchange begun last has yielded a measurement -/
  exMeas : Bool := false
  srcOk : Bool := false
  /-- run at the last valid measurement, and at the loss that HOLDOVER counts from (R167) -/
  lastMeas : Nat := 0
  lostAt : Nat := 0
  /-- SYNC_PERIOD_US of the last SYNC taken (R170) -/
  period : Nat := 0
  /-- the open exchange -/
  exch : Option Exchange := none
  deriving DecidableEq, Repr

/-- The 1PPS and Time-of-Day inputs (R169). -/
structure PpsIn where
  /-- NEXT_PPS_NS of a valid announcement held for the next edge -/
  tod : Option Nat := none
  cardHoldover : Bool := false
  /-- NEXT_PPS_NS of the last frame, for the + 10^9 check -/
  lastTod : Option Nat := none
  /-- the last frame had VALID = 0 -/
  invalid : Bool := false
  /-- stamp of the last accepted edge, and the timebase's run then -/
  lastEdge : Option Nat := none
  edgeRun : Nat := 0
  /-- the 1PPS output (R177): the last whole second it was driven at, and the Ringcount in 2^-16 ns up to which it is high -/
  outSec : Option Nat := none
  outUntil : Option Nat := none
  deriving DecidableEq, Repr

/-- The exchanges BX64 opens as a source of time (R170, R171): last number and whether it is open, by Stem port and by Canopy
child. -/
structure TimeSource where
  stem : SMap (Nat × Bool) := []
  canopy : SMap (Nat × Bool) := []
  /-- the timebase's run at the last valid measurement through PRIMARY, and PRIMARY is lost (R167, R168) -/
  primaryMeas : Nat := 0
  primaryLost : Bool := false
  deriving DecidableEq, Repr

/-- One launch-at-count trigger (R175, R176). The programmed fields are registers; this is the running target, in 2^-16 ns, and
the ticks for which the output stays high. -/
structure Lac where
  target : Nat := 0
  high : Nat := 0
  deriving DecidableEq, Repr

/-! ## ZX40 in the die (R51 to R84) -/

/-- One region tap. -/
structure Tap where
  /-- line values at the last sampled edge -/
  lines : Nat := 0
  /-- a latch strobe waits for the tap's latch edge (R64) -/
  latchPending : Bool := false
  /-- rclk edges since the strobe -/
  latchEdges : Nat := 0
  /-- the tick at which the strobe was raised, and the timebase's run then -/
  latchTick : Nat := 0
  latchRun : Nat := 0
  /-- Ringcount and tick of the last toggle seen (R180) -/
  lastToggle : Nat := 0
  toggleTick : Nat := 0
  /-- Ringcount at which the tap became CLOCK_STOPPED (R65), while it is -/
  stopMark : Nat := 0
  /-- start of the stopped interval in progress -/
  stoppedFrom : Option Nat := none
  /-- stopped intervals ended in the epoch still open -/
  intervals : List (Nat × Nat) := []
  /-- tick of the last stretch trip mapped to the tap -/
  lastTrip : Option Nat := none
  /-- Ringcount of each engine's last change, by engine -/
  change : SMap Nat := []
  /-- Ringcount since which each engine is stalled with its present reason, by engine (R98) -/
  stallFrom : SMap Nat := []
  deriving DecidableEq, Repr

/-- Counts of light-set events that no command of the table reports one by one, given with the epoch close: zclk cycles,
zclk cycles with the replay buffer full, lane code errors, microseconds of link down, SRAM errors (Table 2-7). -/
structure HwCounts where
  zclk : Nat := 0
  replayFull : Nat := 0
  laneErr : List Nat := []
  linkDownUs : Nat := 0
  sramCe : Nat := 0
  sramUe : Nat := 0
  deriving DecidableEq, Repr

/-- One entry of the epoch log (Table 3-12), before serialisation. -/
structure LogEntry where
  /-- where the entry begins in the log memory (log entry 97) -/
  at_ : Nat := 0
  incarnation : Nat
  epoch : Nat
  cNs : Nat
  gen : Nat
  /-- ZX_GRS_RESULT, once the vote has completed -/
  grs : Option Nat := none
  stepped : Bool := false
  stampsOvf : Bool := false
  stopped : Nat := 0
  stretched : Nat := 0
  /-- light-set counts of the epoch by LS index -/
  ls : SMap Nat := []
  /-- counts of the counters with EN = 1, by counter -/
  ctrs : SMap Nat := []
  /-- ZX_SNS_k_VAL words, once the sensor window has ended -/
  sns : Option (List Nat) := none
  /-- barrier stamps, Ringcount and line, in stamp order -/
  stamps : List (Nat × Nat) := []
  deriving DecidableEq, Repr

/-- The sensor window of the last close (R72), with the enables and calibration of its epoch. -/
structure SnsWindow where
  epoch : Nat
  /-- integer ns of its end -/
  endNs : Nat
  en : List Nat := []
  cal : List Nat := []
  /-- accepted results: sensor to (sensor error, raw value) -/
  results : SMap (Bool × Nat) := []
  deriving DecidableEq, Repr

/-- One AXI4 drain burst (R60, R94). -/
structure Burst where
  id : Nat
  buf : Nat
  addr : Nat
  /-- records in it -/
  count : Nat
  /-- integer ns of issue -/
  at_ : Nat
  /-- 1 once answered OKAY, 2 once answered in error -/
  answer : Nat := 0
  deriving DecidableEq, Repr

/-- One trace record (Table 3-1); inBurst while it is in a drain burst not yet acknowledged. -/
structure TRec where
  w0 : Nat
  w1 : Nat
  inBurst : Bool := false
  deriving DecidableEq, Repr

/-- Buffer states of R88. -/
inductive TrcState where
  | idle | armed | post | frozen
  deriving DecidableEq, Repr

/-- One trace buffer (R85 to R96). -/
structure TraceBuf where
  state : TrcState := .idle
  /-- CFG and MASK as sampled at ARM -/
  cfg : Nat := 0
  mask : Nat := 0
  /-- held records, oldest first: all of RING, the undrained of STREAM -/
  recs : List TRec := []
  /-- next slot to be written -/
  wptr : Nat := 0
  postDone : Nat := 0
  refire : Nat := 0
  drainErr : Bool := false
  /-- the zclk input queue (R93), and the records lost before it, with the stamp of the first -/
  inQ : List TRec := []
  qGap : Option (Nat × Nat) := none
  /-- LOST and stamp of an INPUT_OVERRUN gap kept in the last free slot (R92) -/
  gapOpen : Option (Nat × Nat) := none
  /-- a RELEASE of a STREAM buffer waits for the drain -/
  releasing : Bool := false
  /-- Ringcount of the entry to Z1, while gated -/
  gatedAt : Option Nat := none
  /-- TRIG_AT has fired since ARM -/
  timeDone : Bool := false
  /-- the next record of the tap in this buffer carries CLOCK_STOPPED -/
  stopNext : Bool := false
  deriving DecidableEq, Repr

/-- A waiting Heartwood request of a trace buffer (R91): buffer, cause, stamp, epoch open, requests merged. -/
structure HwReq where
  buf : Nat
  cause : Nat
  stamp : Nat
  epoch : Nat
  merged : Nat := 0
  deriving DecidableEq, Repr

/-! ## Blaze units (R184 to R207) -/

/-- A block being presented to a check unit (R193, Table 7-4). -/
structure BlzBlock where
  header : Bytes := []
  data : Bytes := []
  represent : Bool := false
  deriving DecidableEq, Repr

/-- An entry of a refetch list (R197): address, TAG and integer ns of entry. -/
structure RefetchEntry where
  addr : Nat
  tag : Nat
  at_ : Nat
  /-- the Blaze word presented with the block, for its report -/
  word : Nat := 0
  deriving DecidableEq, Repr

/-- One Blaze unit: the block being presented, the blocks whose LAST beat has come and which are not classified yet and, in ZX40, its
16 refetch slots. -/
structure BlzUnit where
  block : Option BlzBlock := none
  ready : List BlzBlock := []
  /-- waiting for the next beat with HEAD = 1 after a MALFORMED block -/
  skip : Bool := false
  refetch : SMap RefetchEntry := []
  deriving DecidableEq, Repr

/-- One report entry of Table 7-5. -/
structure BlzReport where
  w0 : Nat
  w1 : Nat
  /-- epoch open when classified -/
  epoch : Nat
  deriving DecidableEq, Repr

/-! ## Capsules (R457 to R462) -/

/-- A capsule in execution: what the Warden recorded of its origin (R462), its TAG, its parameters P0 onward (R459) and the
bytes host DMA read through its DMA pointer parameter. path is ORIGIN.PATH: 0 PCIe, 1 MCTP, 2 RELAY, 3 INTERNAL. -/
structure Cap where
  path : Nat
  tenant : Nat
  fn : Nat := 0
  qp : Nat := 0
  tag : Nat
  replyPtr : Nat := 0
  notify : Bool := false
  params : List Nat := []
  data : Bytes := []
  deriving DecidableEq, Repr

/-- A reply (Table 16-2), with the capsule it answers and the bytes it writes to host memory, if any: address and content. -/
structure Reply where
  cap : Cap
  op : Nat
  status : Nat
  reason : Nat := 0
  results : List Nat := []
  hostWrite : Option (Nat × Bytes) := none
  /-- watermark and WM_VALID at the moment the reply was formed -/
  watermark : Nat := 0
  wmValid : Bool := false
  deriving DecidableEq, Repr

/-! ## What leaves the device -/

/-- The address phase of an AXI4 write burst (R60): AWLEN is the beats less one. -/
structure AxiAw where
  id : Nat
  addr : Nat
  len : Nat
  size : Nat := 4
  burst : Nat := 1
  lock : Nat := 0
  cache : Nat := 3
  prot : Nat := 1
  qos : Nat := 0
  deriving DecidableEq, Repr

/-- An output of the device, in the order things leave it. -/
inductive Out where
  /-- a flit leaves a link end -/
  | flit (e : LinkId) (bytes : Bytes)
  /-- lane words leave a link end in the order of the word cycles, lane 0 first (R129, R130): a flit's, scrambled, or those of a marker slot -/
  | lanes (e : LinkId) (words : List Nat)
  /-- PKT_ABORT toward the producer of queue k (R116, R119) -/
  | pktAbort (k : Nat)
  /-- ZX40 issues an AXI4 write burst (R60): its address phase, and its data with every strobe 1 -/
  | axiWrite (aw : AxiAw) (data : Bytes)
  /-- sns_start pulse (R72) -/
  | snsStart
  /-- latch strobes toward the populated taps (R64) -/
  | latchStrobe
  /-- a launch-at-count pulse on lac_out[k] (R175) -/
  | lacPulse (k width : Nat)
  /-- the 1PPS output (R177): high time in ns -/
  | ppsPulse (widthNs : Nat)
  /-- a write to host memory with the requester ID of function f -/
  | hostWrite (f addr : Nat) (data : Bytes)
  /-- an MSI-X signal of function f -/
  | msix (f vector : Nat)
  /-- an MCTP message leaves Taproot -/
  | mctp (bytes : Bytes)
  /-- bits shifted out on TDO -/
  | tdo (bits : List Bool)
  /-- zx_quiet changes (R76) -/
  | quiet (level : Bool)
  /-- zx_pwr_ack and zx_iso_n of ZX40 -/
  | pwrAck (z : Nat)
  /-- a re-read of a block for CHECK_CORRUPT (R201) -/
  | reread (unit addr : Nat)
  /-- the Blaze word a BX64 unit forms for a block at a write point (R201) -/
  | blazeWord (unit addr word : Nat)
  /-- the bytes of a Canopy flit after the sixth word cycle are held by HOLD words (R390): port and count so far -/
  | holdWord (q : Nat)
  /-- the answer of ZX40's APB port: PRDATA, 0 for a write, and PSLVERR (R53, R59, R68, R75) -/
  | apb (data : Nat) (err : Bool)
  /-- the answer to a read of a BX64 register through the BAR0 of function f -/
  | bar (f data : Nat)
  deriving DecidableEq, Repr

/-- How a register is reached: a word address on ZX40's APB port, with PPROT[0]; or a BX64 register in BAR0 of function f (0 the PF),
by name and index, because the spec gives no layout of BAR0. -/
inductive RegAcc where
  | apb (addr : Nat) (priv : Bool)
  | bar (f : Nat) (r : Reg) (i : Nat)
  deriving DecidableEq, Repr

end Sys2Proof.Machine
end

