-- ==== Sys2Proof/Machine/BxTypes.lean ====
section
/-! DEFINITION. The plain data types of BX64's subsystems (chapters 1, 8, 13, 16 and 17): generations and records, epoch
contexts, the fabric, the Warden and Taproot. Instants are integer nanoseconds of BX64's Ringcount unless a field says
otherwise. -/
namespace Sys2Proof.Machine

/-! ## Generations (R41 to R46, R215, R392) -/

/-- An epoch schedule (R17): anchor boundary in ns, anchor epoch, length exponent. -/
structure Sched where
  a : Nat
  nA : Nat
  k : Nat
  deriving DecidableEq, Repr

/-- A tree entry (Table 13-9). -/
structure TreeEntry where
  agg : Nat
  parent : Nat
  buddy : Nat
  altBuddy : Nat := 0
  partition : Nat := 0
  height : Nat := 0
  root : Bool := false
  altNone : Bool := false
  /-- RELAY0 onward, NRELAY of them -/
  relays : List Nat := []
  deriving DecidableEq, Repr

/-- A barrier group (R277). -/
structure BarGroup where
  home : Nat
  num : Nat
  line : Nat
  members : List Nat
  windowNs : Nat
  deadlineNs : Nat := 0
  alphaShift : Nat := 0
  lagThr : Nat := 0
  lagHold : Nat := 0
  deriving DecidableEq, Repr

/-- One staged register of BX64 with its 64-bit word (Table 1-7). -/
structure StagedReg where
  reg : Reg
  idx : Nat
  word : Nat
  deriving DecidableEq, Repr

/-- The settings of a generation that reach this BX64 (Table 1-7): length exponent, enrolled set (die address to tenant
mask, R216), reduction tree, barrier groups, staged registers of this BX64, and per local die index the staged registers of
its ZX40 (APB address to value). -/
structure Settings where
  k : Nat := 3
  /-- the anchor boundary and anchor epoch staged with the schedule, where the settings give them: checked (R20), and replaced by T and M
  at the apply instant (R43) -/
  anchorAt : Option (Nat × Nat) := none
  enrolled : SMap Nat := []
  tree : List TreeEntry := []
  groups : List BarGroup := []
  regs : List StagedReg := []
  zx : SMap (SMap Nat) := []
  deriving DecidableEq, Repr

/-- A generation in force from its schedule's anchor epoch on (R43, R46). -/
structure GenRec where
  gen : Nat
  sched : Sched
  cfg : Settings
  /-- once a later generation is in force: the acting root, the acting parent and the children here at that instant (R29) -/
  actRoot : Option Nat := none
  parent : Option Nat := none
  children : List Nat := []
  deriving DecidableEq, Repr

/-- What a target of a distribution has answered (R43, Table 1-7a). -/
inductive Ack where
  | none | acked | refused (status : Nat)
  /-- the target cannot be reached, as its BX64 has reported -/
  | unreached
  /-- a ZX40 is to be written again after its banks have changed roles (R536) -/
  | again
  deriving DecidableEq, Repr

/-- A target of a distribution: KIND and ADDR of Table 1-7a, and its answer. -/
structure Target where
  kind : Nat
  addr : Nat
  ack : Ack := .none
  deriving DecidableEq, Repr

/-- A staged generation and its distribution (R43, R536). -/
structure Staged where
  gen : Nat
  cfg : Settings
  targets : List Target := []
  /-- instant and first epoch it is armed for -/
  armed : Option (Nat × Nat) := none
  /-- the schedule it is in force under already, when it is sent again to this BX64 after a restart (R517) -/
  anchor : Option Sched := none
  /-- the BX64 that distributed it, none where it was staged here -/
  origin : Option Nat := none
  /-- targets that refused ARM: KIND and ADDR -/
  armRefused : List (Nat × Nat) := []
  deriving DecidableEq, Repr

/-- A message of a distribution between BX64s (R43, R44, R536): a generation with its settings, ARM, the answers of a target, to the
distribution or to ARM, with its status, the ZX40s in scope at a BX64, and the end of a generation that is aborted. -/
inductive CfgMsg where
  | stage (gen : Nat) (cfg : Settings) (anchor : Option Sched)
  | arm (gen t m : Nat)
  | answer (arm : Bool) (kind addr status : Nat)
  /-- the targets local to the sender, KIND and ADDR, and whether each can be reached -/
  | scope (targets : List (Nat × Nat × Bool))
  /-- a staged generation is discarded (R44) -/
  | abort (gen : Nat)
  deriving DecidableEq, Repr

/-- The incarnations of a local die index (R38) and its fence (R40). -/
structure DieId where
  /-- current incarnation, 0 not admitted -/
  cur : Nat := 0
  /-- next to be assigned -/
  next : Nat := 1
  /-- fenced from this instant -/
  fence : Option Nat := none
  /-- cause code of the fence, as BX_LKO_DIE_p.CAUSE -/
  cause : Nat := 0
  /-- epoch at whose boundary the fence is to be lifted (R407, R295) -/
  unfence : Option Nat := none
  /-- first epoch of the generation re-send in progress or armed (R45) -/
  resendM : Option Nat := none
  /-- message whose acknowledgement the use of a new incarnation waits for (R38, Table 13-6) -/
  admitMsg : Option Nat := none
  /-- the generation its ZX40 last said it runs: ZX_EPC_ID at admission, then its snapshots (R274) -/
  runs : Nat := 0
  /-- the generation whose Grove-S image its ZX40 has acknowledged last, 0 none since it trained with FRESH (R274) -/
  image : Nat := 0
  /-- oldest epoch the ingress log had no room for (R417) -/
  ilogLacks : Option Nat := none
  deriving DecidableEq, Repr

/-- A record held (R23, R35): view 64 is the fleet record, t the per-tenant record of tenant t. -/
structure RecEntry where
  epoch : Nat
  view : Nat
  committed : Bool
  revision : Nat
  bytes : Bytes
  deriving DecidableEq, Repr

/-- A commit notice (Table 13-4): epoch, revision and per view its RECORD_CRC. -/
structure Notice where
  epoch : Nat
  revision : Nat
  crcs : List (Nat × Nat)
  deriving DecidableEq, Repr

/-- A WM_SYNC message (R395): a child's request or a parent's answer, each with its watermark, none while it holds no epoch; or the child's
repetition of its request. -/
inductive WmMsg where
  | ask (wm : Option Nat)
  | answer (wm : Option Nat)
  | again
  deriving DecidableEq, Repr

/-- A waiting EPOCH_READ (R35): the capsule and the instant its wait ends. -/
structure WaitRead where
  cap : Cap
  until_ : Nat
  deriving DecidableEq, Repr

/-- Epoch bookkeeping of BX64 (chapter 1). -/
structure Epochs where
  /-- generations, the one in force last applied first; empty under generation 0 (R46) -/
  gens : List GenRec := []
  staged : Option Staged := none
  /-- by local die index -/
  dies : SMap DieId := []
  records : List RecEntry := []
  notices : List Notice := []
  waits : List WaitRead := []
  /-- first epoch the fleet produces a record of (R31) -/
  firstEpoch : Option Nat := none
  /-- the watermark of the parent that a WM_SYNC in progress is to reach (R395) -/
  wmTarget : Option Nat := none
  /-- a reset has lost the incarnations of this BX64's ports, which its mirror holder holds and has not returned yet (R38) -/
  restoreDue : Bool := false
  /-- the INCARNATION reads that wait for them: Stem port and the bits of ZX_EPC_ID -/
  incPend : List (Nat × Nat) := []
  deriving DecidableEq, Repr

/-! ## Reduction (R212 to R235) -/

/-- A slot accumulator (Table 8-5): each operator uses its own fields. -/
structure SlotAcc where
  nvalid : Nat := 0
  total : Int := 0
  val : Int := 0
  arg : Nat := 0
  under : Nat := 0
  over_ : Nat := 0
  buckets : List Nat := []
  /-- value, die address, incarnation -/
  top : List (Int × Nat × Nat) := []
  deriving DecidableEq, Repr

/-- Merged contributions: dies with incarnations in address order, and per view (64 fleet) per slot its accumulator. -/
structure Contrib where
  dies : List (Nat × Nat) := []
  views : SMap (SMap SlotAcc) := []
  deriving DecidableEq, Repr

/-- A partial (Table 8-6). -/
structure Partial where
  epoch : Nat
  gen : Nat
  origin : Nat
  recompute : Bool := false
  supplement : Bool := false
  partSeq : Nat := 0
  body : Contrib := {}
  deriving DecidableEq, Repr

/-- An epoch context (R214). -/
structure Ctx where
  epoch : Nat
  /-- every die merged, with its incarnation -/
  merged : List (Nat × Nat) := []
  /-- contributions since the last partial sent; at the root, all of them -/
  acc : Contrib := {}
  /-- local die indices with a snapshot classified -/
  localSeen : List Nat := []
  /-- children whose first partial has been received -/
  childFirst : List Nat := []
  firstSent : Bool := false
  lastSent : Nat := 0
  partSeq : Nat := 0
  poisoned : Bool := false
  /-- root: last revision published, and when -/
  revision : Nat := 0
  lastRev : Nat := 0
  /-- root: PRESENT count of the last revision -/
  revPresent : Nat := 0
  frozen : Bool := false
  /-- root: the committed bytes wait for the buddy's acknowledgement (R32) -/
  commitMsg : Option (List Nat) := none
  /-- root: those committed bytes, by view -/
  commitRecs : List Bytes := []
  deriving DecidableEq, Repr

/-- A snapshot in the ingress log (R212). -/
structure IngEntry where
  die : Nat
  epoch : Nat
  inc : Nat
  gen : Nat
  bytes : Bytes
  /-- classified with this row of Table 8-3, once classified -/
  row : Option Nat := none
  /-- the mirror holder has acknowledged it -/
  mirrored : Bool := false
  /-- MSG_ID of its mirror item -/
  msgId : Option Nat := none
  deriving DecidableEq, Repr

/-- A kept partial (R234). -/
structure KeptPartial where
  sent : Bool
  p : Partial
  deriving DecidableEq, Repr

/-- State of the reduction pipeline and the feature builder. -/
structure Reduction where
  ctxs : List Ctx := []
  /-- closed epochs waiting for a context, ascending -/
  waiting : List Nat := []
  log : List IngEntry := []
  kept : List KeptPartial := []
  /-- last epoch closed here -/
  lastClosed : Option Nat := none
  /-- CORR outputs of the last committed vector of a die index: its epoch and, by CORR index, the outputs not missing -/
  lastCorr : SMap (Nat × SMap Nat) := []
  /-- epoch of the last committed vector set -/
  lastVec : Option Nat := none
  /-- LOG_EPOCH acknowledged to each local die index (R145, R212) -/
  logAck : SMap Nat := []
  /-- last epoch received with RESENT = 0, by die index (Table 5-12) -/
  lastFresh : SMap Nat := []
  /-- this BX64 restarted: local contributions leave as RECOMPUTE partials for epochs before (R233) -/
  recomputeTo : Option Nat := none
  /-- this BX64 restarted, and no generation has gone live since -/
  restarted : Bool := false
  deriving DecidableEq, Repr

/-! ## Stragglers, drift and Lookout (R277 to R306) -/

/-- Lag values of a member of a group: S, consecutive count, LATE count of the last epoch processed. -/
structure LagVal where
  s : Nat := 32768
  count : Nat := 0
  late : Nat := 0
  /-- incarnation these values belong to -/
  inc : Nat := 0
  deriving DecidableEq, Repr

/-- A lag return held at the member's BX64: home, group, its last epoch, values. -/
structure LagEntry where
  home : Nat
  group : Nat
  epoch : Nat
  val : LagVal
  deriving DecidableEq, Repr

/-- A barrier digest (R278): group, epoch, sender, and each PRESENT member with its incarnation and its stamps, in the words of
Table 3-10. -/
structure Digest where
  home : Nat
  group : Nat
  epoch : Nat
  agg : Nat
  entries : List (Nat × Nat × List Nat)
  deriving DecidableEq, Repr

/-- A barrier group at its home. -/
structure GroupState where
  home : Nat
  num : Nat
  line : Nat
  members : SMap LagVal := []
  digests : List Digest := []
  /-- epochs whose commit notice has been applied here and which are neither processed nor skipped: epoch and instant -/
  due : List (Nat × Nat) := []
  deriving DecidableEq, Repr

/-- A probe in progress (R293): the capsules it answers and whether its answer is to a LOOKOUT_REPORT. -/
structure Probe where
  tries : Nat
  at_ : Nat
  tag : Nat
  /-- opcode and capsule -/
  origins : List (Nat × Cap) := []
  deriving DecidableEq, Repr

/-- Correlator, test and Lookout state of a local die index beside BX_COR_DIE_p_MARK and BX_LKO_DIE_p. -/
structure DieCorr where
  /-- first committed epoch of its admission in which it was PRESENT -/
  seenFrom : Option Nat := none
  /-- lag returns, of the latest epochs of each group -/
  lag : List LagEntry := []
  /-- health scores of the latest PRESENT epochs -/
  healths : SMap Nat := []
  healthCount : Nat := 0
  /-- channel to bin to (cnt, e), under the definition of the generation in force -/
  drift : SMap (SMap (Nat × Nat)) := []
  /-- bins of channels whose definition a later generation has changed, for the vectors still to come of the epochs before it: by
  16 times the last generation of the definition + channel (R306) -/
  past : SMap (SMap (Nat × Nat)) := []
  /-- of reasons DRIFT (2) and COND_DRIFT (3): the channel that set it, and the bin -/
  driftMarks : SMap (Nat × Option Nat) := []
  /-- per reason set: the epoch of the mark (Table 10-6) -/
  markAt : SMap Nat := []
  /-- per reason set: the epoch whose processing set it, 0 where no epoch did -/
  markSet : SMap Nat := []
  /-- reasons gained while a test is outstanding -/
  gained : Nat := 0
  /-- incarnation, DEADLINE and start of the outstanding test -/
  testInc : Nat := 0
  deadline : Nat := 0
  startNs : Nat := 0
  started : Bool := false
  probe : Option Probe := none
  /-- epochs of which a complete snapshot under the current incarnation was received -/
  heard : List Nat := []
  /-- consecutive epochs heard while fenced, which HEARD_RUN shows saturating (R295) -/
  heardRun : Nat := 0
  deriving DecidableEq, Repr

/-- State of the correlator. -/
structure Corr where
  dies : SMap DieCorr := []
  groups : List GroupState := []
  /-- last TEST_ID issued -/
  testId : Nat := 0
  /-- per local die index what the mirror holds of it (R302, R303): MARK, Lookout register, the rest, the last TEST_ID -/
  atMirror : SMap (Nat × Nat × DieCorr × Nat) := []
  deriving DecidableEq, Repr

/-! ## The fabric (R377 to R407) -/

/-- A link-state advertisement held (R378): links are port, neighbour aggregator, neighbour port. -/
structure Lsa where
  uid : Nat
  agg : Nat
  boot : Nat
  lseq : Nat
  links : List (Nat × Nat × Nat)
  at_ : Nat
  deriving DecidableEq, Repr

/-- A Canopy port beside its registers. -/
structure CnpPort where
  helloSent : Bool := false
  helloAt : Nat := 0
  helloSeen : Bool := false
  neighUid : Nat := 0
  neighBoot : Nat := 0
  neighPartition : Nat := 0
  /-- flits sent per VC, modulo 4096 (R384) -/
  sent : SMap Nat := []
  /-- freed counts received from the partner -/
  freedTx : SMap Nat := []
  /-- buffers freed here, and buffers in use -/
  freedRx : SMap Nat := []
  held : SMap Nat := []
  crvc : Nat := 0
  /-- the message whose flits are being sent on a VC: SRC and DST -/
  txOpen : SMap (Nat × Nat) := []
  /-- forwarded alarms of the open epoch by source, and sources already logged as limited -/
  alarms : SMap Nat := []
  limited : List Nat := []
  alarmEpoch : Nat := 0
  /-- the flit of a cut-through whose source's CRC verdict is not known yet (R390), and the Stem port it came from -/
  cut : Option (Nat × FlitBody) := none
  deriving DecidableEq, Repr

/-- A message under end-to-end recovery (R387). -/
structure E2E where
  msgId : Nat
  dst : Nat
  ty : Nat
  sub : Nat
  vc : Nat
  /-- epoch after whose horizon, wait or commit it is obsolete -/
  epoch : Option Nat := none
  sentAt : Nat
  lastSent : Nat
  bytes : Bytes
  deriving DecidableEq, Repr

/-- What is known of another BX64 (R398). -/
structure Peer where
  lastHeard : Nat := 0
  boot : Nat := 0
  epoch : Nat := 0
  watermark : Nat := 0
  role : Nat := 0
  /-- verdict LOST, and the (BOOT, EPOCH) pair it carried -/
  lost : Bool := false
  vBoot : Nat := 0
  vEpoch : Nat := 0
  vHeld : Bool := false
  /-- newest (BOOT, BSEQ) of a broadcast from it (R381) -/
  bcast : Option (Nat × Nat) := none
  deriving DecidableEq, Repr

/-- One mirrored item (Table 13-6). -/
inductive MirrorItem where
  | snapshot (die epoch : Nat) (bytes : Bytes)
  | record (epoch view revision : Nat) (bytes : Bytes)
  | nextInc (die inc : Nat)
  | state (die mark lko : Nat) (cor : DieCorr) (testId : Nat)
  | keptPartial (sent : Bool) (p : Partial)
  | group (g : GroupState)
  deriving DecidableEq, Repr

/-- A fence held from its FENCE broadcast or its own issue (R40, R405, R406): of a die, or of a partition. -/
structure FenceRec where
  partition : Bool
  /-- die address, or partition -/
  id : Nat
  inc : Nat := 0
  cause : Nat
  /-- F, integer ns -/
  f : Nat
  /-- M, the epoch at whose opening it is lifted -/
  lift : Option Nat := none
  /-- asserted at this BX64, and lifted again -/
  asserted : Bool := false
  lifted : Bool := false
  deriving DecidableEq, Repr

/-- State of the fabric. -/
structure Fabric where
  ports : SMap CnpPort := []
  lsdb : List Lsa := []
  lseq : Nat := 0
  lsaAt : Nat := 0
  /-- destination aggregator to outgoing port (R379) -/
  routes : SMap Nat := []
  bseq : Nat := 0
  msgId : Nat := 0
  e2e : List E2E := []
  delivered : List (Nat × Nat) := []
  peers : SMap Peer := []
  /-- mirror contents by ward -/
  mirrors : SMap (List MirrorItem) := []
  /-- wards whose incoming traffic is refused since their loss was decided here (R398) -/
  standIn : List Nat := []
  /-- ALT_BUDDY is the mirror holder in use, and has acknowledged the full contents (R397) -/
  altInUse : Bool := false
  altAcked : Bool := false
  /-- message ids of the full mirror contents still unacknowledged -/
  altPending : List Nat := []
  /-- fences held, of dies and of partitions -/
  fences : List FenceRec := []
  hbAt : Nat := 0
  /-- BX64s lost at some time in this generation, which act as leaves until the next (R403) -/
  returned : List Nat := []
  deriving DecidableEq, Repr

/-! ## Grove (R238 to R276) -/

/-- A loaded model: its binary, its digest, the extent it holds in each memory of Table 9-12 (memory, start, length) and the bank
of each tree of a rule form. -/
structure Model where
  binary : Bytes
  digest : Bytes
  extents : List (Nat × Nat × Nat) := []
  banks : List Nat := []
  deriving DecidableEq, Repr

/-- A bound part of a split model at its home (R263): home slot, part, peer, peer's slot, digest. -/
structure PeerBind where
  slot : Nat
  part : Nat
  peer : Nat
  peerSlot : Nat
  digest : Bytes
  deriving DecidableEq, Repr

/-- A vector of a split model in flight (R264): sums received by part. -/
structure SplitVec where
  num : Nat
  stage : Nat
  slot : Nat
  vector : Bytes
  at_ : Nat
  /-- part to its sums, none for a FAULT -/
  parts : SMap (Option (List Nat)) := []
  /-- the GROVE_EVAL it answers -/
  eval : Option Cap := none
  deriving DecidableEq, Repr

/-- A score record held (Table 9-13). -/
structure ScoreRec where
  epoch : Nat
  committed : Bool
  die : Nat
  stage : Nat
  bytes : Bytes
  deriving DecidableEq, Repr

/-- State of the Grove engine. -/
structure Grove where
  slots : SMap Model := []
  binds : List PeerBind := []
  /-- parts pinned here: slot, and the home and its slot as 16 * home + slot -/
  pinned : List (Nat × Nat) := []
  split : List SplitVec := []
  vecNum : Nat := 0
  scores : List ScoreRec := []
  /-- last epoch of whose committed vector each stage has scored each die index: die * 8 + stage -/
  lastScored : SMap Nat := []
  /-- the last vector built, by die * 2 + 1 for a committed and die * 2 for a provisional record -/
  vectors : SMap Bytes := []
  /-- the epoch of each die's last Grove-S check (R271) -/
  grsChecked : SMap Nat := []
  deriving DecidableEq, Repr

/-! ## The Warden (R457 to R484) -/

/-- A capsule in progress on a queue pair or another path. -/
structure InProg where
  op : Nat
  cap : Cap
  at_ : Nat
  /-- relayed to this aggregator, with its instant (R475) -/
  relay : Option (Nat × Nat) := none
  deriving DecidableEq, Repr

/-- A queue pair beside its registers. -/
structure QueuePair where
  phase : Bool := true
  deriving DecidableEq, Repr

/-- An event to post: its KIND and body. -/
structure Event where
  kind : Nat
  body : Bytes
  seq : Nat
  deriving DecidableEq, Repr

/-- An event ring beside its registers (R470, R471). -/
structure EvRing where
  tail : Nat := 0
  phase : Bool := true
  hold : List Event := []
  /-- first EV_SEQ lost and how many, while an OVERFLOW is due -/
  lost : Option (Nat × Nat) := none
  deriving DecidableEq, Repr

/-- A command for a ZX40, outstanding or waiting at its port (R474): the TAG BX64 gave it, opcode,
parameters. -/
structure ZxCmd where
  tag : Nat
  op : Nat
  params : List Nat
  /-- the opcode and capsule its reply answers, none for a command of BX64's own -/
  origin : Option (Nat × Cap) := none
  at_ : Nat := 0
  deriving DecidableEq, Repr

/-- The commands of one Stem port. -/
structure ZxPort where
  out : List ZxCmd := []
  waiting : List ZxCmd := []
  nextTag : Nat := 0
  /-- a FRESH training ended and its ZX_REG_READ of ZX_EPC_ID is unanswered -/
  readTag : Option Nat := none
  deriving DecidableEq, Repr

/-- The firmware store (R477, R478). -/
structure Firmware where
  image : Bytes := []
  /-- an update is running: bytes taken so far when it comes in pieces -/
  updating : Option Bytes := none
  /-- FW_ACTIVATE has been answered S_OK and the restart is due -/
  restartDue : Bool := false
  runDigest : Bytes := []
  deriving DecidableEq, Repr

/-- MCTP endpoint state (R472, R473). -/
structure Mctp where
  eid : Nat := 0
  /-- message being assembled: bytes and next packet sequence number -/
  asm : Option (Bytes × Nat) := none
  unanswered : Nat := 0
  deriving DecidableEq, Repr

/-- State of the Warden. -/
structure Warden where
  prog : List InProg := []
  replies : List Reply := []
  qps : SMap QueuePair := []
  rings : SMap EvRing := []
  /-- function served last, the function the round-robin served last, and per function the queue pair served last (R466) -/
  lastFn : Nat := 0
  turn : Nat := 0
  lastQp : SMap Nat := []
  zx : SMap ZxPort := []
  fw : Firmware := {}
  mctp : Mctp := {}
  /-- words of the boot mailbox capsule (write-only registers) -/
  boot : SMap Nat := []
  deriving DecidableEq, Repr

/-! ## Taproot (R485 to R511) -/

/-- A Heartwood record (Table 17-8); stamp in 2^-16 ns. -/
structure HwRec where
  seq : Nat := 0
  ty : Nat
  source : Nat
  /-- source index of R504 -/
  idx : Nat := 0
  inj : Bool := false
  stamp : Nat := 0
  boot : Nat := 0
  self : Bool := false
  epoch : Nat := 0
  lc : Nat := 0
  die : Nat := 0
  inc : Nat := 0
  detail : Nat := 0
  extra : Nat := 0
  /-- per slot: read in time, value -/
  snaps : List (Bool × Nat) := []
  deriving DecidableEq, Repr

/-- The JTAG TAP (R492). -/
structure Jtag where
  ir : Nat := 1
  /-- next word of HD_READ -/
  pos : Nat := 0
  /-- boundary-scan preload and the pins driven by EXTEST -/
  preload : List Bool := []
  deriving DecidableEq, Repr

/-- State of Taproot. -/
structure Taproot where
  main : List HwRec := []
  prot : List HwRec := []
  reqs : List HwRec := []
  /-- epoch of the suppression list, and the (TYPE, source, index) already recorded in it -/
  supEpoch : Nat := 0
  sup : List (Nat × Nat × Nat) := []
  /-- (code, source index) already alarmed in the epoch -/
  safEpoch : Nat := 0
  safSent : List (Nat × Nat) := []
  opKey : Nat := 0
  /-- fence latches: Stem ports and Canopy ports -/
  stemFence : List Nat := []
  cnpFence : List Nat := []
  /-- Ringcount copy, ns, and the Taproot ns since (R487) -/
  copy : Nat := 0
  /-- instant of the last kick -/
  kickAt : Nat := 0
  /-- the kick and the epoch whose expired watchdog has been declared (R489) -/
  wdogKick : Option Nat := none
  wdogEpoch : Option Nat := none
  /-- the BX64 hang dump held: 64-bit words by word offset, those not 0 -/
  dump : SMap Nat := []
  /-- a dump being taken: stamp of the declaration, cause bits, SEQ of the WEDGE record -/
  dumpPend : Option (Nat × Nat × Nat) := none
  jtag : Jtag := {}
  lastSeen : Nat := 0
  /-- injections made since each injector was armed, by target -/
  wtDone : SMap Nat := []
  /-- a flit held back by REORDER until the next one, by target -/
  wtHeld : SMap Bytes := []
  deriving DecidableEq, Repr

/-! ## Reset, bring-up and power (R515 to R532) -/

/-- Where BX64 is on its way from a reset to operation, and what a reset leaves to be done when it completes. -/
structure PowerUp where
  /-- the step of Table 18-8 awaited: 1 rails, 2 PLLs, 3 HBM training, 4 the Clearing; 0 none, the part runs; 5 held in reset; 6 without
  power -/
  phase : Nat := 0
  /-- the one further cold reset of step 5 has been taken -/
  retried : Bool := false
  /-- the PCIe link is up (step 4) -/
  pcie : Bool := false
  /-- a life-cycle transition under way: the new state and the operator key it leaves -/
  lcNext : Option (Nat × Nat) := none
  /-- injectors that the reset under way disarmed (R511) -/
  injOff : Nat := 0
  /-- functions whose event ring gets RESTART, cause 1, when it is enabled after a warm reset (Table 18-9) -/
  restart : List Nat := []
  /-- the POWER_SET that waits for running replay jobs before P2 (R519) -/
  p2Wait : Option Cap := none
  /-- xclk in sixteenths of its full rate (R522) -/
  xclk : Nat := 16
  deriving DecidableEq, Repr

end Sys2Proof.Machine
end

