-- ==== Sys2Proof/Machine/GateTypes.lean ====
section
/-! DEFINITION. The plain data types of the replay engine (chapter 11) and the commit gate (chapter 12). -/
namespace Sys2Proof.Machine

/-- A replay job (Table 11-2): its sixteen words, whom its result goes to, and what its loads have met. -/
structure RplJob where
  words : List Nat
  /-- submission order -/
  seq : Nat
  /-- the REPLAY_RUN it answers -/
  cap : Option Cap := none
  /-- the gate's step: JOB_ID, STEP, ATTEMPT and the number j of R352 -/
  gate : Option (Nat × Nat × Nat × Nat) := none
  /-- the band of a step the job covers (R352): its first row, and the step's rows; 0 for a job of its own -/
  rowOff : Nat := 0
  rowsAll : Nat := 0
  /-- an operand block was condemned, or UNVERIFIED, at a Blaze unit -/
  blaze : Bool := false
  unverified : Bool := false
  /-- frozen by a translation fault (R315) -/
  frozen : Bool := false
  deriving DecidableEq, Repr

/-- One run of a job on a unit of the engine (R317): the unit, and the elements a fault in it gives wrong bits. A unit that works gives
none. -/
structure RplRun where
  level : Nat := 1
  idx : Nat := 0
  wrong : List (Nat × Nat) := []
  deriving DecidableEq, Repr

/-- What the loader has brought into the memories of a context's cluster, cores and engines for the job of one bank (R307, R308), as bytes
with whether a word of them is poisoned: A and its scales in the bank's half of DM0, B and its scales in its half of DM1, and BIAS, SCALE,
C_EXPECT and its scales in core memory. Tiles and their places are the loader's own (R309). -/
structure OpMem where
  /-- the job, by its submission -/
  seq : Nat
  dm0 : List (Bytes × Bool)
  dm1 : List (Bytes × Bool)
  core : List (Bytes × Bool)
  deriving DecidableEq, Repr

/-- A replay context (R313 to R315): the running job, and the job of the other bank, parked or loading. -/
structure RplCtx where
  run : Option RplJob := none
  other : Option RplJob := none
  /-- the other bank's job is being loaded -/
  loading : Bool := false
  bank : Bool := false
  /-- operands of bank 0 and of bank 1 -/
  mem0 : Option OpMem := none
  mem1 : Option OpMem := none
  deriving DecidableEq, Repr

/-- The replay engine beside its registers. -/
structure Replay where
  /-- APD images by slot -/
  apds : SMap Bytes := []
  queue : List RplJob := []
  /-- jobs of contexts out of service that the queue has no room for yet: they enter it first as it drains (R337) -/
  back : List RplJob := []
  ctxs : SMap RplCtx := []
  seq : Nat := 0
  /-- engines that failed their known-answer set since the last cold reset -/
  katFailed : List Nat := []
  /-- units retired: level (0 engine, 1 core, 2 cluster) and index -/
  retired : List (Nat × Nat) := []
  deriving DecidableEq, Repr

/-- A job of the commit gate (R344, R346, R362). -/
structure Job where
  tenant : Nat
  /-- local die index and UNIT, now and before the last migration -/
  die : Nat
  unit : Nat
  oldDie : Nat := 0
  oldUnit : Nat := 0
  apd : Nat
  gated : Bool
  /-- the tenant was slot-critical when the job was opened -/
  sc : Bool
  nextStep : Nat
  attempt : Nat := 0
  curInc : Nat
  /-- OLD_INC with the cut epoch -/
  old : Option (Nat × Nat) := none
  rollback : Bool := false
  stuck : Bool := false
  lastCommitted : Option Nat := none
  /-- steps still to be selected under rule 4 of Table 12-3 -/
  after : Nat := 0
  deriving DecidableEq, Repr

/-- A provisional step (R346 to R356). -/
structure GStep where
  job : Nat
  /-- the 128-byte record of Table 12-1 -/
  record : Bytes
  /-- local die index and UNIT of its incarnation -/
  die : Nat
  unit : Nat
  selected : Bool
  prio : Nat := 0
  u : Nat := 0
  accepted : Nat
  /-- mode and rates in force at acceptance (R359) -/
  gated : Bool
  onUnchecked : Bool
  sc : Bool
  afterRevoke : Nat := 0
  /-- cause it commits with once every earlier step has -/
  ready : Option Nat := none
  /-- words 6 to 11 of its jobs -/
  operands : Option (List Nat) := none
  /-- job number to (OUTCOME, REASON, OPERAND_UNVERIFIED), of the ended jobs; jobs submitted once more -/
  outcomes : SMap (Nat × Nat × Bool) := []
  again : List Nat := []
  /-- jobs held back while the replay queue is full -/
  heldJobs : List RplJob := []
  njobs : Nat := 0
  unverified : Bool := false
  deriving DecidableEq, Repr

/-- The commit gate beside its registers. -/
structure Gate where
  jobs : SMap Job := []
  steps : List GStep := []
  /-- tag alerts: local die index and TAG (R350) -/
  alerts : List (Nat × Nat) := []
  /-- last CHAIN of each tenant's ledger, held in SRAM (R369) -/
  chains : SMap Bytes := []
  /-- LEDGER_LOG2 in force of each tenant, where it is not 16 -/
  logs : SMap Nat := []
  /-- entries of a ledger that an uncorrectable error has made unreadable: tenant and SEQ -/
  badEntries : List (Nat × Nat) := []
  deriving DecidableEq, Repr

end Sys2Proof.Machine
end

