-- ==== Sys2Proof/Machine/HbmTypes.lean ====
section
/-! DEFINITION. The plain data types of HBM, address translation, DMA and the trace store (chapter 14) and of the egress scheduler
(chapter 15). -/
namespace Sys2Proof.Machine

/-- Host memory as a command finds it: the bytes at an address that a PCIe read returns, and whether the TLP is poisoned. A read of bytes
that no segment holds ends in UR, CA or a completion timeout. -/
structure HostSeg where
  addr : Nat
  bytes : Bytes
  poisoned : Bool := false
  deriving DecidableEq, Repr

/-- A leaf translation cached (R423): space, first VA of the page, PA of the page, its size, and the leaf's permissions. -/
structure TlbEntry where
  space : Nat
  va : Nat
  pa : Nat
  size : Nat
  rd : Bool
  wr : Bool
  deriving DecidableEq, Repr

/-- A DMA channel beside its registers: the descriptor in progress as read from the ring (Table 14-4, eight words). -/
structure DmaChan where
  desc : Option (List Nat) := none
  deriving DecidableEq, Repr

/-- A closed staging buffer (R431), with the gauge settings it closed under: its input, INPUT_LEN, epoch open and integer ns at the close,
MODE and F_LOG2 of BX_TRS_GAUGE_CFG, SIGNED of Table 14-7 and the bounds. -/
structure ClosedBlk where
  data : Bytes
  inputLen : Nat
  epoch : Nat
  ns : Nat
  mode : Nat := 0
  fLog2 : Nat := 0
  signed : Nat := 0
  bounds : List Nat := []
  deriving DecidableEq, Repr

/-- A stream of the trace store (R430, R431): the open buffer and the instant of its last append, the closed buffers the codec has not
taken, bytes lost since the last GAP entry, next BLOCK_SEQ, and the values last recorded of each gauge field. -/
structure TrsStream where
  open_ : Bytes := []
  lastAppend : Nat := 0
  closed : List ClosedBlk := []
  gapLost : Nat := 0
  seq : Nat := 0
  gauge : SMap Nat := []
  deriving DecidableEq, Repr

/-- A block at a BX64 Blaze unit (R201): address, sequence, TAG and word as presented, data, whether a word of it is poisoned, its place
in HBM if it lies there, and for whom it is: the DMA channel (units 24 to 31) or the die address (units 0 to 15). -/
structure BxBlock where
  addr : Nat
  seq : Nat := 0
  tag : Nat := 0
  word : Nat := 0
  data : Bytes
  poisoned : Bool := false
  pa : Option Nat := none
  owner : Nat := 0
  /-- at units 0 to 15: the block is one of the job that loads into the owner's free bank (R314) -/
  loading : Bool := false
  deriving DecidableEq, Repr

/-- HBM and what uses it (chapter 14). -/
structure Hbm where
  /-- contents, by physical address; an address that is not listed holds 0 -/
  cells : List Host.Cell := []
  /-- poisoned 64-bit words, by physical address / 8, ascending -/
  poison : List Nat := []
  tlb : List TlbEntry := []
  chans : SMap DmaChan := []
  /-- weighted round-robin (R427): the BULK channel served last and the chunks it has had in its turn -/
  wrrLast : Nat := 127
  wrrCount : Nat := 0
  trs : SMap TrsStream := []
  /-- next offset in the block ring, in 64 B units -/
  blkWr : Nat := 0
  /-- blocks being re-read for CHECK_CORRUPT, by unit: the block and the re-reads made (R201) -/
  reread : SMap (BxBlock × Nat) := []
  deriving DecidableEq, Repr

/-- The egress scheduler beside its registers (chapter 15). Subscriber u of port q has number q * 64 + u, service s q * 8 + s, window w
q * 4 + w, as their registers. -/
structure Egress where
  /-- staged CFG and BURST words of subscribers -/
  sub : SMap (Nat × Nat) := []
  /-- staged CFG words of services -/
  svc : SMap Nat := []
  /-- staged TIME and SPAN words of windows -/
  gate : SMap (Nat × Nat) := []
  /-- buckets whose debt is to be cleared: subscribers' and services' -/
  clearSub : List Nat := []
  clearSvc : List Nat := []
  /-- the last refill tick, by its k -/
  tick : Option Nat := none
  /-- services that competed at the last decision -/
  competing : List Nat := []
  /-- units released that have not left: port to services (Canopy) or channels (port 24) -/
  grants : SMap (List Nat) := []
  /-- units held by a window, counted already: port and service or channel -/
  held : List (Nat × Nat) := []
  /-- ports whose windows are held closed by a failed gate comparator (Table 17-6, 0x0C01) -/
  stuck : List Nat := []
  deriving DecidableEq, Repr

end Sys2Proof.Machine
end

