-- ==== Sys2Proof/Syntax.lean ====
section
/-! DEFINITION. The commands the block takes (spec/opcode_table.json), one constructor per row, with the operands the row
needs: what comes from outside the device. A row that reads an opcode's capsule takes the capsule; a row that receives a
message takes the message; a row that names an end, port, die or unit takes its number. -/
namespace Sys2Proof
open Sys2Proof.Machine

/-- The commands. -/
inductive Instr where
  /-- ZX_EPOCH_CLOSE (R19). At C(N) a ZX40 latches its counters, starts every enabled sensor conversion, strobes tap latches and writes the first part of the epoch-log entry. -/
  | zxEpochClose (h : HwCounts)
  /-- BX_EPOCH_CLOSE (R214). At C(N) a BX64 opens an epoch context for the epoch, or the epoch waits for a free context. -/
  | bxEpochClose
  /-- CONTEXT_FREE (R214). When an epoch context is released, the lowest waiting epoch takes it and its held snapshots are classified in epoch order. -/
  | contextFree
  /-- EPOCH_HORIZON (R30). At the first tick with Ringcount at or past H(N) the root freezes the contribution set of epoch N. -/
  | epochHorizon
  /-- PROVISIONAL_REVISION (R24). The root publishes a new provisional revision when the PRESENT set has grown, at most once per L/8. -/
  | provisionalRevision (n : Nat)
  /-- ROOT_COMMIT (R31). The root commits epoch N once it is COMPLETE or frozen, every earlier epoch is committed and the buddy has acknowledged the record, then sends the commit notice. -/
  | rootCommit
  /-- COMMIT_NOTICE (R394). A BX64 receives a commit notice and applies it in epoch order once it holds every named view with matching CRC, advancing its watermark. -/
  | commitNotice (q src msgId : Nat) (o : Notice)
  /-- EPOCH_READ (R35). Returns a committed or provisional record, or a status, by the first matching row of Table 1-5. -/
  | epochRead (c : Cap)
  /-- EPOCH_STATUS (R476). Returns the epoch state, current epoch, schedule and control registers. -/
  | epochStatus (c : Cap)
  /-- CFG_STAGE (R536). Checks a configuration generation, stages it and starts its distribution to every target in scope. -/
  | cfgStage (c : Cap) (cfg : Settings)
  /-- CFG_DISTRIBUTION (R536). A BX64 receives a staged generation, checks its own part and acknowledges or refuses it, writing its ZX40s. -/
  | cfgDistribution (q src msgId : Nat) (m : CfgMsg)
  /-- CFG_APPLY_AT (R44). The root checks an apply request and sends ARM to every target, or answers S_CONFLICT, S_NOTNOW or S_PARTIAL. -/
  | cfgApplyAt (c : Cap)
  /-- CFG_ABORT (R44). Discards a staged, unarmed generation, or answers S_DENIED or S_CONFLICT. -/
  | cfgAbort (c : Cap)
  /-- CFG_STATUS (R44). Returns BX_CFG_GEN and BX_CFG_APPLY. -/
  | cfgStatus (c : Cap)
  /-- CFG_ARM (R43). A target receives ARM for a generation and acknowledges it, or refuses when it does not hold the generation. -/
  | cfgArm (q src msgId : Nat) (m : CfgMsg)
  /-- CFG_APPLY_INSTANT (R43). At the first tick with Ringcount at or past T every armed target makes its shadows live and any new schedule takes effect. -/
  | cfgApplyInstant (p : Part)
  /-- WM_SYNC (R395). A parent answers a child's watermark with its own and sends the committed records the child lacks; the child sets WM_SYNCED once complete. -/
  | wmSync (q src : Nat) (m : WmMsg)
  /-- REGISTER_WRITE (R9). A write to a register with no behaviour of its own stores, ignores or refuses per its access code and view. -/
  | registerWrite (a : RegAcc) (w strb : Nat)
  /-- ZX_APB_ACCESS_IN_RESET (R53). An APB access during reset or within 64 zclk of release is answered at once with PSLVERR and no effect. -/
  | zxApbAccessInReset (addr : Nat) (write : Bool) (v : Nat)
  /-- ZX_CTR_SEL_WRITE (R68). An APB write to a counter SEL is stored for a die-local counter and effective at the next boundary, or refused for a fleet-owned one. -/
  | zxCtrSelWrite (n w : Nat) (priv : Bool)
  /-- ZX_LS_CTRL_WRITE (R70). A write of ZX_LS_CTRL.DIS stops the light set outside FIELD state and is ignored in FIELD. -/
  | zxLsCtrlWrite (v : Nat)
  /-- ZX_BAR_ARRIVE_WRITE (R79). A write to ZX_BAR_ARRIVE records one arrival on the named barrier line, stamped in the timebase domain. -/
  | zxBarArriveWrite (v : Nat) (priv : Bool)
  /-- BARRIER_ARRIVAL (R79). A rising edge on bar_arr is stamped with Ringcount and counted for the epoch. -/
  | barrierArrival (l : Nat)
  /-- TAP_LATCH_TIMEOUT (R65). When a tap's latch edge has not come STOP_TICKS after the close tick, ZX40 abandons the latch and marks the tap CLOCK_STOPPED. -/
  | tapLatchTimeout (t : Nat)
  /-- TAP_CLOCK_STOPPED (R180). A gap of STOP_TICKS without an rclk toggle starts a stopped interval of the tap. -/
  | tapClockStopped (t : Nat)
  /-- TAP_CLOCK_RESUMED (R180). The tap clock toggle resumes, ending the stopped interval; the next trace record carries CLOCK_STOPPED. -/
  | tapClockResumed (t : Nat)
  /-- STRETCH_TRIP (R179). A rising edge of a clock-stretch sensor output is counted and marks samples of its mapped tap STRETCHED. -/
  | stretchTrip (n : Nat)
  /-- DROOP_TRIP (R69). A rising edge of a droop sensor output is counted in the light set. -/
  | droopTrip (n : Nat)
  /-- TEST_MODE_REQUEST (R57). A rising edge of zx_test_mode is counted and ignored outside RETURN, and honoured in RETURN. -/
  | testModeRequest (level : Bool)
  /-- SENSOR_RESULT (R72). ZX40 accepts a sensor result, calibrates it and assigns it to the epoch if within its window. -/
  | sensorResult (id raw : Nat) (err : Bool)
  /-- SENSOR_WINDOW_END (R72). At the end of the result window ZX40 marks missing sensors LATE, writes sensor values to the log entry and sends the snapshot's first flit. -/
  | sensorWindowEnd
  /-- GROVE_S_VOTE (R82). Grove-S completes its vote for the epoch, writes ZX_GRS_RESULT and the log entry, and raises an alarm for an alarm class. -/
  | groveSVote
  /-- POISON_ACCEPT (R61). The die memory accepts a held poison request, and the next queued granule request is presented. -/
  | poisonAccept
  /-- POISON_STUCK (R61). A poison request not accepted within 64 zclk sets ZX_IRQ_STS.ALARM and is held further. -/
  | poisonStuck
  /-- DRAIN_BURST_ISSUE (R94). A trace buffer issues an AXI drain burst of records into the die ring while quiet windows are closed and the ring has room. -/
  | drainBurstIssue (n : Nat)
  /-- DRAIN_BRESP (R95). A write response for a drain burst advances DWR, or on error sets DRAIN_ERR and stops that buffer's drain. -/
  | drainBresp (id : Nat) (ok : Bool)
  /-- ZX_POWER_REQUEST (R521). ZX40 takes the power state requested on zx_pwr_req and acknowledges it, isolating and gating as the state requires. -/
  | zxPowerRequest (z : Nat)
  /-- ZX_COLD_RESET (R515). zx_por_n resets all of ZX40. -/
  | zxColdReset (low : Bool)
  /-- ZX_WARM_RESET (R515). zx_rst_n resets ZX40 except the light set and the die incarnation. -/
  | zxWarmReset (low : Bool)
  /-- ZX_LOCAL_RESET (R515). zx_lrst_n resets ZX40 alone, including its die incarnation. -/
  | zxLocalReset (low : Bool)
  /-- TRACE_ARM (R88). A write of ZX_TRC_n_CTRL.ARM to an IDLE buffer samples its settings, empties it, writes an EPOCH record and enters ARMED. -/
  | traceArm (n : Nat)
  /-- TRACE_MANUAL_TRIGGER (R89). A write of ZX_TRC_n_CTRL.TRIG triggers an ARMED buffer, writing a TRIGGER record and entering POST. -/
  | traceManualTrigger (n : Nat)
  /-- TRACE_RELEASE (R90). A write of ZX_TRC_n_CTRL.RELEASE ends recording, discarding in RING mode or draining first in STREAM mode. -/
  | traceRelease (n : Nat)
  /-- TRC_TRIGGER (R89). Triggers the named trace buffer of a die. -/
  | trcTrigger (c : Cap)
  /-- TRC_RELEASE (R90). Releases the named trace buffer of a die. -/
  | trcRelease (c : Cap)
  /-- TRACE_SOURCE_RECORD (R88). A LINE, ENGINE or BARRIER source record enters a recording buffer, counting toward POST_COUNT and freezing the buffer when reached. -/
  | traceSourceRecord (n : Nat)
  /-- TRACE_LINE_TRIGGER (R89). A rising edge of TRIG_LINE on the selected tap triggers every buffer that selects source 1. -/
  | traceLineTrigger (t l : Nat)
  /-- TRACE_TIME_TRIGGER (R89). Ringcount reaching TRIG_AT triggers every buffer that selects source 5. -/
  | traceTimeTrigger (n : Nat)
  /-- TRACE_DRD_WRITE (R94). A write of ZX_TRC_n_DRD consumes ring bytes and frees drain space. -/
  | traceDrdWrite (n v : Nat)
  /-- HANG_CONDITION (R98). A stall, clock-stop, barrier or AXI hang limit expires and ZX40 declares the die hung. -/
  | hangCondition
  /-- HANG_TAKE (R98). A write of ZX_HD_CTRL.TAKE declares a hang with cause DECLARED. -/
  | hangTake
  /-- HANG_RELEASE_WRITE (R100). A write of ZX_HD_CTRL.RELEASE releases a sent dump and redeclares any condition still holding. -/
  | hangReleaseWrite
  /-- HANG_DECLARE (R98). Declares a hang at the named die, or answers S_BUSY while a dump is held. -/
  | hangDeclare (c : Cap)
  /-- HANG_RELEASE (R100). Releases the held dump of a die, or answers S_NOTNOW before it is sent. -/
  | hangRelease (c : Cap)
  /-- HANG_DUMP_TAKEN (R99). The dump capture completes; ZX40 holds it, sets HELD, sends an ALARM and sends the dump as TRACE flits. -/
  | hangDumpTaken
  /-- LOG_RESEND (R105). ZX40 re-sends every held epoch-log entry from epoch F in ascending order. -/
  | logResend (c : Cap)
  /-- STEM_ACK_RECEIVE (R145). ZX40 receives an ACK flit carrying credits of sequence and the log acknowledgement. -/
  | stemAckReceive (logv : Bool) (epoch : Nat)
  /-- QUEUE_PUSH (R113). A producer pushes a word into a queue, waiting for room if a stall producer, or being refused if a drop producer. -/
  | queuePush (k : Nat) (h : QShape) (data : Nat) (x last : Bool) (we : List Nat) (re : Nat)
  /-- QUEUE_POP (R112). A consumer pops the head word, or at depth 0 gets the last word with UNDERRUN. -/
  | queuePop (k : Nat) (h : QShape) (we : List Nat) (re : Nat)
  /-- PACKET_CANCEL (R118). A producer cancels its open packet with a LAST word and the cancel strobe. -/
  | packetCancel (k : Nat) (h : QShape) (we : List Nat) (re : Nat)
  /-- QUEUE_CNT_CLR (R127). A write of Qk_STS.CNT_CLR clears the queue's counters. -/
  | queueCntClr (k : Nat)
  /-- LINK_RESET_DONE (R133). After 1 µs in RESET a Stem or Canopy link end releases the PMA reset and enters LOCK. -/
  | linkResetDone (e : LinkId)
  /-- LINK_LOCK_DONE (R133). All lanes have held lock and valid for 1 µs and the link end enters ALIGN. -/
  | linkLockDone (e : LinkId)
  /-- LINK_ALIGN_DONE (R133). Markers are aligned, lanes mapped and deskewed and the link end enters PARAM. -/
  | linkAlignDone (e : LinkId) (a : LaneAlign)
  /-- LINK_PARAM_DONE (R133). PARAM markers have been exchanged with compatible INFO and the link end enters ACTIVE. -/
  | linkParamDone (e : LinkId) (lane0 lane3 rxNext : Nat) (peer : PeerMarks)
  /-- LINK_TRAIN_TIMEOUT (R133). A LOCK, ALIGN or PARAM timeout, or incompatible INFO, counts a failed attempt and returns to RESET or DOWN_HOLD. -/
  | linkTrainTimeout (e : LinkId)
  /-- LINK_DOWN_HOLD_EXPIRY (R133). After 10 ms in DOWN_HOLD, unless HOLD is set, the link end returns to RESET. -/
  | linkDownHoldExpiry (e : LinkId)
  /-- LINK_LOCK_LOSS (R134). A lane lock or valid bit at 0 in ACTIVE starts a retrain. -/
  | linkLockLoss (e : LinkId) (locks : Nat)
  /-- LINK_MARKER_MISS (R134). Three consecutive marker slots without a valid marker, or a partner marker not ACTIVE, starts a retrain. -/
  | linkMarkerMiss (m : LaneMarks)
  /-- LINK_NO_FLIT_TIMEOUT (R134). No flit with good CRC for 20 µs starts a retrain. -/
  | linkNoFlitTimeout (e : LinkId)
  /-- ZX_STM_RETRAIN_WRITE (R134). A write of ZX_STM_CTRL.RETRAIN retrains the ZX40 Stem link. -/
  | zxStmRetrainWrite (v : Nat)
  /-- STEM_PORT_RETRAIN_WRITE (R134). A write of BX_STM_PORT_CTRL.RETRAIN retrains that Stem port. -/
  | stemPortRetrainWrite (p : Nat)
  /-- STEM_PORT_HOLD_WRITE (R157). Clearing BX_STM_PORT_CTRL.HOLD releases a held Stem port from DOWN_HOLD. -/
  | stemPortHoldWrite (p : Nat) (hold : Bool)
  /-- CNP_PORT_RETRAIN_WRITE (R409). A write of BX_CNP_PORT_CTRL.RETRAIN retrains that Canopy port. -/
  | cnpPortRetrainWrite (q : Nat)
  /-- STEM_PORT_CTRL (R157). Sets HOLD, RETRAIN and ALARM_LIMIT of a Stem port. -/
  | stemPortCtrl (c : Cap)
  /-- FLIT_RECEIVE (R148). A receiver checks a flit's CRC and sequence and accepts, discards, NAKs or counts a violation, applying ACKSEQ and credits. -/
  | flitReceive (e : LinkId) (words : List Nat)
  /-- NAK_TIMER_EXPIRY (R148). The 2 µs NAK timer expires with a NAK still pending and the NAK is sent again. -/
  | nakTimerExpiry (e : LinkId)
  /-- REPLAY_TIMER_EXPIRY (R150). UNA not advancing for 8 µs causes a resend from UNA, or a retrain at the ninth resend. -/
  | replayTimerExpiry (e : LinkId)
  /-- ACK_TIMER_EXPIRY (R149). An accepted flit unacknowledged for 1 µs forces an acknowledgement. -/
  | ackTimerExpiry (e : LinkId)
  /-- FLIT_TRANSMIT (R151). At a flit boundary the transmitter sends a fixed TIME flit, or picks the first waiting flit kind in priority order. -/
  | flitTransmit (e : LinkId) (psn : Bool)
  /-- SNAP_RECEIVE (R213). BX64 reassembles a complete SNAP message, writes and mirrors it to the ingress log and classifies it under Table 8-3. -/
  | snapReceive (p : Nat) (bs : Bytes) (resent poison : Bool)
  /-- ALARM_RECEIVE (R144). BX64 receives a Stem ALARM, forwards forwarded sub-kinds cut-through to its parent and consumes it locally. -/
  | alarmReceive (p : Nat) (h : AlarmHead) (payload : Bytes) (verdict : Option Bool)
  /-- TRACE_RECEIVE (R430). BX64 receives a TRACE message and appends its records or dump to the die's trace-store stream. -/
  | traceReceive (p sub : Nat) (bs : Bytes)
  /-- BLAZE_RECEIVE (R199). BX64 receives a BLAZE flit of Blaze reports from a die. -/
  | blazeReceive (p : Nat) (payload : Bytes)
  /-- CAPS_COMMAND_RECEIVE (R146). ZX40 accepts a CAPS command, or answers a ninth one S_BUSY. -/
  | capsCommandReceive (b : Bytes)
  /-- CAPS_REPLY_RECEIVE (R474). BX64 receives a ZX40 CAPS reply and returns it to the origin under its original TAG. -/
  | capsReplyReceive (p tag status reason : Nat) (results : List Nat)
  /-- INCARNATION_READ_REPLY (R147). After a FRESH training BX64 judges the read INCARNATION and admits the die with its current or a new incarnation. -/
  | incarnationReadReply (p id : Nat)
  /-- ZX_ADMIT (R147). Stores the die address, incarnation and life-cycle state at a ZX40. -/
  | zxAdmit (c : Cap)
  /-- ZX_SHADOW_WRITE (R147). Writes shadow values of staged registers for a generation at a ZX40. -/
  | zxShadowWrite (c : Cap)
  /-- ZX_GRS_IMAGE_WRITE (R268). Writes 32 bytes of a Grove-S image into the staged or live bank. -/
  | zxGrsImageWrite (c : Cap)
  /-- ZX_CFG_DONE (R537). Checks the shadow CRC and marks the generation staged, or checks a refreshed live bank. -/
  | zxCfgDone (c : Cap)
  /-- ZX_ARM (R147). Arms the staged generation at a ZX40 for apply instant T and epoch M. -/
  | zxArm (c : Cap)
  /-- ZX_CFG_DROP (R147). Discards an unarmed staged generation at a ZX40. -/
  | zxCfgDrop (c : Cap)
  /-- ZX_LC_SET (R532). Sets a ZX40 to RETURN state. -/
  | zxLcSet (c : Cap)
  /-- ZX_WT_SET (R510). Arms or disarms a ZX40 Blaze unit's injector. -/
  | zxWtSet (c : Cap)
  /-- DELAY_RESP_RECEIVE (R170). ZX40 receives a DELAY_RESP and, with a complete exchange, computes offset and delay. -/
  | delayRespReceive (exch t4 : Nat)
  /-- SYNC_SEND (R170). Every SYNC_PERIOD_US BX64 sends a SYNC to each ACTIVE Stem port and a Sync to its Canopy children. -/
  | syncSend (ahead cahead : SMap Nat)
  /-- SYNC_RECEIVE (R170). ZX40 stamps a SYNC and answers it with a DELAY_REQ. -/
  | syncReceive (exch period origin : Nat) (corr : Int) (ago ahead : Nat)
  /-- DELAY_REQ_RECEIVE (R170). BX64 stamps a DELAY_REQ and answers with a DELAY_RESP. -/
  | delayReqReceive (p exch ago ahead : Nat)
  /-- CANOPY_SYNC_RECEIVE (R171). A Canopy child stamps a Sync and sends a Delay_Req. -/
  | canopySyncReceive (q src : Nat) (msg : Bytes) (ago ahead : Nat)
  /-- CANOPY_DELAY_REQ_RECEIVE (R171). A Canopy time parent stamps a Delay_Req and answers a Delay_Resp. -/
  | canopyDelayReqReceive (q src : Nat) (msg : Bytes) (ago : Nat)
  /-- CANOPY_DELAY_RESP_RECEIVE (R171). A Canopy child completes an exchange and computes offset and path delay. -/
  | canopyDelayRespReceive (f : CanopyFrom) (msg : Bytes)
  /-- TIME_RELAY (R172). A relay forwards a time message adding its residence time to correctionField. -/
  | timeRelay (q sub src dst hops : Nat) (msg : Bytes) (ago ahead : Nat)
  /-- PPS_EDGE (R169). A 1PPS edge is stamped and, with a valid announcement, yields a measurement. -/
  | ppsEdge (ago : Nat) (wide : Bool)
  /-- TOD_FRAME (R169). A Time-of-Day frame is checked and announces the next 1PPS edge, or is ignored. -/
  | todFrame (f : Bytes)
  /-- RESYNC (R166). Grants each timebase in scope one step at its next large measurement. -/
  | resync (c : Cap)
  /-- RESYNC_GRANT_LAPSE (R166). An unused RESYNC grant lapses after 16 exchanges. -/
  | resyncGrantLapse (part : Part)
  /-- TB_SOURCE_LOST (R167). Loss of the time source in LOCKED enters HOLDOVER with INC frozen. -/
  | tbSourceLost (part : Part)
  /-- HOLDOVER_EXPIRY (R167). HOLDOVER_MS elapsing makes the timebase UNLOCKED and counts a lock loss. -/
  | holdoverExpiry (part : Part)
  /-- LAC_FIRE (R175). A launch-at-count trigger fires at the first tick with Ringcount at or past its target, pulsing lac_out. -/
  | lacFire (k : Nat)
  /-- LAC_ARM (R176). Writing ZX_LAC_k_CFG.ARM arms a trigger, firing or disarming at once if the target is past. -/
  | lacArm (k v : Nat)
  /-- PPS_OUTPUT (R177). BX64 drives its 1PPS output high at each whole second of Ringcount. -/
  | ppsOutput
  /-- TIME_SRC_SET (R168). Writes BX_TB_SRC. -/
  | timeSrcSet (c : Cap)
  /-- TIME_READ (R476). Returns Ringcount and timebase state. -/
  | timeRead (c : Cap)
  /-- TIME_STATUS (R476). Returns timebase status, offset, INC, servo, ToD and PPS registers. -/
  | timeStatus (c : Cap)
  /-- PPS_SET (R177). Writes BX_TB_PPS. -/
  | ppsSet (c : Cap)
  /-- TAPROOT_TIME_LATCH (R487). Every 1 µs Taproot latches Ringcount, or sets TB_LOST and extrapolates. -/
  | taprootTimeLatch (answered : Bool)
  /-- BLAZE_CLASSIFY (R196). A ZX40 Blaze unit classifies a presented block or forms its Blaze word after the LAST beat. -/
  | blazeClassify (u : Nat)
  /-- BLAZE_REFETCH_TIMEOUT (R197). A refetch entry not re-presented within REFETCH_US becomes UNVERIFIED. -/
  | blazeRefetchTimeout (u k : Nat)
  /-- BLZ_FLUSH_RF (R197). A write of FLUSH_RF makes every refetch entry UNVERIFIED. -/
  | blzFlushRf (u : Nat)
  /-- BLZ_CNT_CLR (R206). A write of CNT_CLR clears a unit's counters. -/
  | blzCntClr (u : Nat)
  /-- BLZ_CFG_WRITE (R200). A write to a unit's CFG, POLY or XOROUT is refused while EN is 1 except for EN. -/
  | blzCfgWrite (part : Part) (u which v : Nat)
  /-- BX_BLAZE_CHECK (R201). A BX64 Blaze unit checks a block passing its point, or forms its word at a write point. -/
  | bxBlazeCheck (u : Nat) (form : Option Nat) (b : BxBlock)
  /-- BLAZE_REREAD (R201). A re-read of a CHECK_CORRUPT block completes and is classified afresh or declared UNVERIFIED. -/
  | blazeReread (u : Nat) (w : BlzWordSeq) (data : Bytes) (poisoned : Bool)
  /-- PARTIAL_FLUSH (R219). At the flush instant a non-root BX64 sends its first partial of the epoch. -/
  | partialFlush (n : Nat) (ecc : Bool)
  /-- PARTIAL_READY (R219). Once every local die and child has contributed, a non-root BX64 sends its first partial. -/
  | partialReady (n : Nat)
  /-- SUPPLEMENT_PARTIAL (R220). A non-root BX64 sends a supplementary partial of newly merged contributions, at most once per L/8 before the horizon. -/
  | supplementPartial (n : Nat)
  /-- PARTIAL_RECEIVE (R221). A BX64 merges a received partial, or drops it for overlap, generation or lost origin. -/
  | partialReceive (q src msgId : Nat) (p : Partial) (ecc : Bool)
  /-- VECTOR_BUILD (R228). The feature builder builds feature vectors for local dies from a committed record or provisional revision. -/
  | vectorBuild (n : Nat) (committed : Bool) (poisoned : List (Nat × Nat))
  /-- GROVE_SCORE (R259). A scoring stage scores a vector and writes a score record, forwarding alarms if set. -/
  | groveScore (d k : Nat) (committed : Bool) (fault : Option Nat)
  /-- GROVE_VEC_RECEIVE (R264). A bound peer scores its part for a split vector and returns its class sums. -/
  | groveVecReceive (q src slot part num : Nat) (v : Bytes) (fault : Option Nat)
  /-- GROVE_SUMS_RECEIVE (R264). The home takes a part's sums and votes once every part has arrived, or discards bad sums. -/
  | groveSumsReceive (f : CanopyFrom) (num part : Nat) (fault : Bool) (modelId modelVer : Nat) (sums : List Nat)
  /-- GROVE_SPLIT_TIMEOUT (R264). Sums missing WAIT_US after the vector was sent give STATUS PART_MISSING. -/
  | groveSplitTimeout (num : Nat)
  /-- GRS_CHECK (R271). BX64 rescores a snapshot's Grove-S input and compares the result with the die's vote. -/
  | grsCheck (d n : Nat)
  /-- GROVE_LOAD (R255). Checks and loads a model binary into a slot and returns its digest. -/
  | groveLoad (c : Cap)
  /-- GROVE_UNLOAD (R272). Frees a model slot unless selected or bound. -/
  | groveUnload (c : Cap)
  /-- GROVE_INFO (R272). Returns a slot's header, digest, memory use and placement. -/
  | groveInfo (c : Cap)
  /-- GROVE_EVAL (R272). Scores a host-supplied vector with a slot's model. -/
  | groveEval (c : Cap) (fault : Option Nat)
  /-- GROVE_PEER_BIND (R263). Binds or unbinds a model part held on a Canopy peer. -/
  | grovePeerBind (c : Cap) (answer : Option (Option (Bytes × Bytes)))
  /-- GROVE_SCORE_READ (R272). Returns a stored score record. -/
  | groveScoreRead (c : Cap)
  /-- GROVE_GRS_IMAGE (R267). Returns the Grove-S image of a slot's model. -/
  | groveGrsImage (c : Cap)
  /-- GROVE_GRS_REFRESH (R270). Rewrites the live Grove-S bank of one ZX40. -/
  | groveGrsRefresh (c : Cap)
  /-- GRV_LANE_CTRL_WRITE (R273). A write to BX_GRV_LANE_CTRL changes enabled lanes and banks, keeping the old value if none would remain. -/
  | grvLaneCtrlWrite (v : Nat)
  /-- DIGEST_RECEIVE (R279). A group home receives a barrier digest and processes the epoch once all digests are held. -/
  | digestReceive (q src msgId : Nat) (g : Digest)
  /-- BAR_WAIT_EXPIRY (R279). A digest still missing BAR_WAIT_US after the commit notice makes the epoch SKIPPED for the group. -/
  | barWaitExpiry (home num : Nat)
  /-- LAG_RETURN_RECEIVE (R283). A member's BX64 takes the lag values returned by the home. -/
  | lagReturnReceive (q src msgId home group n : Nat) (vals : List (Nat × LagVal × Bool))
  /-- PROBE_RETRY_TIMEOUT (R293). A probe send unanswered PROBE_US later is repeated, or the probe fails after its last try. -/
  | probeRetryTimeout (d : Nat)
  /-- PROBE_REPLY_RECEIVE (R293). A probe answered S_OK succeeds and its joined reports are answered. -/
  | probeReplyReceive (d status : Nat)
  /-- TEST_DEADLINE (R299). DEADLINE passes with no TEST_START, setting OVERDUE and routing the unit's blocks through replay. -/
  | testDeadline (d : Nat)
  /-- TEST_RUN_TIMEOUT (R300). A test RUNNING for TEST_RUN_MS ends as ABORTED. -/
  | testRunTimeout (d : Nat)
  /-- LAG_READ (R304). Returns lag entries for a group or a die. -/
  | lagRead (c : Cap)
  /-- DRIFT_READ (R304). Writes a die's 512 drift bins of a channel. -/
  | driftRead (c : Cap)
  /-- SUSPECT_READ (R304). Returns a die's mark word. -/
  | suspectRead (c : Cap)
  /-- SUSPECT_CLEAR (R290). Clears mark reasons of a die. -/
  | suspectClear (c : Cap)
  /-- LOOKOUT_REPORT (R296). A job reports a die dead and Lookout probes it or answers S_FENCED. -/
  | lookoutReport (c : Cap)
  /-- LOOKOUT_ADMIT (R295). Readmits a fenced die under a new incarnation. -/
  | lookoutAdmit (c : Cap)
  /-- LOOKOUT_STATUS (R304). Returns a die's Lookout state. -/
  | lookoutStatus (c : Cap)
  /-- LOOKOUT_PROBE (R293). Probes a die, or at a ZX40 answers the probe. -/
  | lookoutProbe (c : Cap)
  /-- DIE_FENCE (R294). Fences a local die with cause OPERATOR. -/
  | dieFence (c : Cap)
  /-- TEST_REQUEST (R297). Requests a test of a die, setting reason MANUAL. -/
  | testRequest (c : Cap)
  /-- TEST_START (R298). Records the start of a test, unless a slot-critical placement blocks it. -/
  | testStart (c : Cap)
  /-- TEST_RESULT (R300). Ends a test as PASS, FAIL or ABORTED with the effects of Table 10-7. -/
  | testResult (c : Cap)
  /-- TEST_CANCEL (R304). Cancels a test, ending overdue routing and keeping reasons. -/
  | testCancel (c : Cap)
  /-- APD_LOAD (R331). Checks and loads an APD into a slot. -/
  | apdLoad (c : Cap)
  /-- APD_UNLOAD (R341). Frees an APD slot unless a job names it. -/
  | apdUnload (c : Cap)
  /-- APD_INFO (R341). Returns an APD slot's header, Setting Codes and digest. -/
  | apdInfo (c : Cap)
  /-- REPLAY_RUN (R311). Submits a replay job descriptor and returns its result record. -/
  | replayRun (c : Cap)
  /-- REPLAY_CANCEL (R315). Ends a queued, running or frozen job as NOT_REPLAYED. -/
  | replayCancel (c : Cap)
  /-- REPLAY_STATUS (R341). Returns replay status and context registers. -/
  | replayStatus (c : Cap)
  /-- REPLAY_UNIT (R337). Retires or restores a replay engine, core or cluster. -/
  | replayUnit (c : Cap)
  /-- REPLAY_GEN (R332). Returns the generator output for given inputs. -/
  | replayGen (c : Cap)
  /-- REPLAY_CROSSCHECK (R336). Compares two dies' result blocks for one step, or answers S_NOTCOMPARABLE. -/
  | replayCrosscheck (c : Cap)
  /-- REPLAY_PLACE (R313). The scheduler places a queued job on an IDLE context, or pre-empts a lower-priority job with an URGENT one. -/
  | replayPlace
  /-- REPLAY_BANK_FILLED (R314). The free bank's fill completes and the context switches banks at the next instruction boundary. -/
  | replayBankFilled (k : Nat)
  /-- REPLAY_JOB_END (R316). A replay job ends and its output is compared bit for bit with C_EXPECT, giving a result record. -/
  | replayJobEnd (k : Nat) (r1 r2 r3 : RplRun)
  /-- REPLAY_XLATE_FAULT (R315). A translation fault freezes only the context's job concerned. -/
  | replayXlateFault (k : Nat) (other : Bool) (va cause : Nat)
  /-- REPLAY_KAT (R339). Each KAT_PERIOD_MS an engine runs its known-answer set in its free bank. -/
  | replayKat (e : Nat) (pass : Bool)
  /-- STEP_ANNOUNCE (R346). Checks a step record against Table 12-2 and accepts it as SELECTED or UNSELECTED. -/
  | stepAnnounce (c : Cap)
  /-- STEP_OPERANDS (R351). Supplies a selected step's operand addresses and submits its replay jobs. -/
  | stepOperands (c : Cap)
  /-- OPERAND_WAIT_EXPIRY (R351). Operands not supplied within OPERAND_WAIT_MS make the step UNCHECKABLE. -/
  | operandWaitExpiry
  /-- GATE_WAIT_EXPIRY (R354). A step unresolved GATE_WAIT_MS after acceptance resolves UNCHECKABLE. -/
  | gateWaitExpiry
  /-- STEP_COMMIT (R355). A resolved step commits once every earlier step of its job has, writing the ledger and posting COMMIT. -/
  | stepCommit (job : Nat)
  /-- JOB_OPEN (R344). Opens a job on a local die:unit in GATED or AFTER mode. -/
  | jobOpen (c : Cap)
  /-- PLACEMENT_MIGRATE (R362). Moves a job to another local die:unit with a cut epoch. -/
  | placementMigrate (c : Cap)
  /-- COMMIT_POLICY_SET (R359). Sets a tenant's commit policy fields for later steps or jobs. -/
  | commitPolicySet (c : Cap)
  /-- COMMIT_STATUS (R371). Returns a job's step state. -/
  | commitStatus (c : Cap)
  /-- LEDGER_READ (R371). Reads a tenant's ledger entries. -/
  | ledgerRead (c : Cap)
  /-- LEDGER_HEAD (R371). Returns a tenant ledger's next SEQ and last CHAIN. -/
  | ledgerHead (c : Cap)
  /-- JOB_CLOSE (R371). Closes a job, revoking pending steps with FORCE. -/
  | jobClose (c : Cap)
  /-- HELLO_RECEIVE (R377). A Canopy port judges a HELLO and goes FORWARDING or stays ISOLATED. -/
  | helloReceive (q uid fleet agg partition boot gen : Nat)
  /-- HELLO_RESEND (R387). An unanswered HELLO is sent again every 1 ms. -/
  | helloResend (q : Nat)
  /-- LSA_RECEIVE (R378). A BX64 keeps and floods a newer LSA. -/
  | lsaReceive (q : Nat) (l : Lsa)
  /-- LSA_REFRESH (R378). Every LSA_REFRESH_MS a BX64 floods its LSA. -/
  | lsaRefresh
  /-- LSA_EXPIRY (R378). An LSA not refreshed within 4 × LSA_REFRESH_MS is deleted. -/
  | lsaExpiry
  /-- RELAY_WAIT_TIMEOUT (R385). A relayed flit waiting RELAY_WAIT_US for credit is dropped. -/
  | relayWaitTimeout (q : Nat)
  /-- BROADCAST_RECEIVE (R381). A newer broadcast is delivered and forwarded on every other FORWARDING port. -/
  | broadcastReceive (q sub src : Nat) (payload : Bytes)
  /-- CANOPY_ALARM_RECEIVE (R388). A Canopy alarm is forwarded to the acting parent under ALARM_LIMIT, or posted at the acting root. -/
  | canopyAlarmReceive (q sub src : Nat) (payload : Bytes)
  /-- CUT_THROUGH_HOLD_LIMIT (R390). After 16 HOLD words without a verdict a cut-through flit ends with its CRC inverted. -/
  | cutThroughHoldLimit (q : Nat)
  /-- RECORD_RECEIVE (R394). A BX64 receives a revision or committed record and forwards it to its children. -/
  | recordReceive (q src : Nat) (bytes : Bytes)
  /-- E2E_REPEAT (R387). An unacknowledged end-to-end message is sent again every REPEAT_US until acknowledged or obsolete. -/
  | e2eRepeat
  /-- E2E_ACK_RECEIVE (R387). A source takes an end-to-end acknowledgement of a message. -/
  | e2eAckReceive (q msgId : Nat)
  /-- MIRROR_RECEIVE (R396). A buddy stores a mirrored item and acknowledges it. -/
  | mirrorReceive (q src msgId : Nat) (m : MirrorItem)
  /-- HEARTBEAT_SEND (R398). Every HB_US a BX64 sends HEARTBEAT to its buddy, parent, children and wards. -/
  | heartbeatSend
  /-- HEARTBEAT_RECEIVE (R398). A heartbeat refreshes the sender's liveness. -/
  | heartbeatReceive (q src boot role epoch wm : Nat)
  /-- PEER_LOST_DECLARE (R398). No flit from a ward for LOST_US makes its buddy declare it lost and broadcast PEER_LOST. -/
  | peerLostDeclare (a : Nat)
  /-- PEER_LOST_RECEIVE (R401). A BX64 takes a PEER_LOST verdict, adopting an acting parent or root and resending its kept partials. -/
  | peerLostReceive (a boot ep : Nat)
  /-- PEER_BACK_RECEIVE (R398). A BX64 takes a PEER_BACK verdict of greater order for a returning BX64. -/
  | peerBackReceive (a boot ep : Nat)
  /-- PEER_DECLARE (R398). Declares a BX64 lost or back at once. -/
  | peerDeclare (c : Cap)
  /-- FIREBREAK_FENCE (R406). Fences a partition at F = issue + FENCE_LEAD_US and broadcasts FENCE. -/
  | firebreakFence (c : Cap)
  /-- FENCE_INSTANT (R406). At F every BX64 fences its ports on the partition boundary and the root marks its dies FENCED. -/
  | fenceInstant
  /-- FIREBREAK_CLEAR (R407). Schedules a partition boundary to open at B(M) and broadcasts UNFENCE. -/
  | firebreakClear (c : Cap)
  /-- UNFENCE_INSTANT (R407). At B(M) the boundary opens, dies are readmitted and affected BX64s clear WM_SYNCED and rejoin. -/
  | unfenceInstant
  /-- CANOPY_IDENT_SET (R377). Sets the fleet ID and aggregator ID while every Canopy port is DOWN. -/
  | canopyIdentSet (c : Cap)
  /-- CANOPY_PORT_CTRL (R409). Sets HOLD, RETRAIN, ISOLATE and ALARM_LIMIT of a Canopy port. -/
  | canopyPortCtrl (c : Cap)
  /-- CANOPY_TOPO_READ (R411). Writes every held LSA. -/
  | canopyTopoRead (c : Cap)
  /-- FABRIC_STATUS (R411). Returns fabric status and acting root, parent and buddy. -/
  | fabricStatus (c : Cap)
  /-- MEM_LAYOUT_SET (R416). Stages HBM region sizes for the next Clearing. -/
  | memLayoutSet (c : Cap)
  /-- MEM_PARTITION_SET (R419). Assigns or releases a tenant's HBM partition, wiping released granules. -/
  | memPartitionSet (c : Cap)
  /-- XLATE_INVAL (R423). Invalidates TLB entries of a space or range and replies once their accesses complete. -/
  | xlateInval (c : Cap)
  /-- XLATE_PROBE (R439). Translates a VA and returns the PA or the fault cause. -/
  | xlateProbe (c : Cap)
  /-- DMA_CH_SET (R424). Binds a BULK DMA channel to a space, function and ring. -/
  | dmaChSet (c : Cap)
  /-- DMA_RESUME (R429). Retries or skips the halted descriptor of a channel. -/
  | dmaResume (c : Cap)
  /-- DMA_STATUS (R439). Returns a channel's configuration and status. -/
  | dmaStatus (c : Cap)
  /-- DMA_DOORBELL (R425). A write of BX_DMA_CH_c_DB.TAIL posts descriptors to a channel. -/
  | dmaDoorbell (c tail : Nat)
  /-- DMA_CHUNK (R426). A DMA engine takes and moves one chunk of a descriptor, completing the descriptor after its last chunk. -/
  | dmaChunk (deferred : Nat) (host : List HostSeg) (u : Nat)
  /-- PATROL_SCRUB (R415). The patrol scrub reads and corrects HBM words once per SCRUB_H hours. -/
  | patrolScrub (corrected : Nat) (bad : List Nat) (snaps : List (Nat × Nat))
  /-- STAGING_FLUSH (R431). A staging buffer idle for FLUSH_US closes and its block goes to the codec. -/
  | stagingFlush (id : Nat)
  /-- CODEC_BLOCK (R432). The codec encodes a closed block and writes it with its index entry to the trace store. -/
  | codecBlock (id u : Nat) (poisoned : Bool)
  /-- TRACE_STORE_SET (R439). Writes trace-store control, gauge and per-die enable settings. -/
  | traceStoreSet (c : Cap)
  /-- TRACE_STORE_STATUS (R439). Returns trace-store status and counters. -/
  | traceStoreStatus (c : Cap)
  /-- REFILL_TICK (R447). At each 1,000 ns refill tick every bucket applies staged parameters, clears pending debt and refills. -/
  | refillTick
  /-- EGRESS_RELEASE (R443). The scheduler releases a unit from the chosen service when eligible, conforming, ungated and credited, and charges it. -/
  | egressRelease (q : Nat)
  /-- SHAPER_SET (R448). Stages a bucket's rates, bursts, weight or service. -/
  | shaperSet (c : Cap)
  /-- SHAPER_CLEAR_DEBT (R447). Clears bucket debt at the next refill tick. -/
  | shaperClearDebt (c : Cap)
  /-- SHAPER_READ (R454). Returns a bucket's values, levels and tag. -/
  | shaperRead (c : Cap)
  /-- GATE_SET (R454). Sets a time-gate window, applied at the next refill tick. -/
  | gateSet (c : Cap)
  /-- GATE_STATUS (R454). Returns a port's gate status, virtual time and counts. -/
  | gateStatus (c : Cap)
  /-- SQ_DOORBELL (R464). A write of SQ_TAIL posts capsules to a queue pair, or halts it if out of range. -/
  | sqDoorbell (f q tail : Nat)
  /-- CQ_HEAD_WRITE (R465). A write of CQ_HEAD frees completion slots. -/
  | cqHeadWrite (f q head : Nat)
  /-- EV_HEAD_WRITE (R470). A write of the event ring HEAD frees event slots. -/
  | evHeadWrite (f head : Nat)
  /-- QP_ENABLE (R467). Writing EN from 0 to 1 resets ring pointers, sets phase 1 and enters RUN. -/
  | qpEnable (f q : Nat)
  /-- QP_DISABLE (R467). Writing EN = 0 disables the queue pair and discards replies of capsules in progress. -/
  | qpDisable (f q : Nat)
  /-- CAPSULE_FETCH (R464). The Warden fetches a capsule when limits and a CQ slot allow, derives its origin and checks it. -/
  | capsuleFetch (ws block : List Nat) (data : Bytes) (err : Nat) (poison host : Bool)
  /-- CAPSULE_REPLY (R458). A dispatched capsule's action ends and its reply is written, with MSI-X if NOTIFY. -/
  | capsuleReply (cqErr : Bool)
  /-- EXEC_TIMEOUT (R458). A capsule still in progress EXEC_MS after dispatch is answered S_TIMEOUT. -/
  | execTimeout
  /-- RELAY_TIMEOUT (R475). A relayed capsule unanswered after RELAY_MS is answered S_TIMEOUT. -/
  | relayTimeout
  /-- RELAYED_CAPSULE_RECEIVE (R475). A target executes a relayed capsule under origin RELAY. -/
  | relayedCapsuleReceive (e : LinkId) (src : Nat) (ws block : List Nat) (data : Bytes)
  /-- RELAYED_REPLY_RECEIVE (R475). A relayed reply completes the capsule at the origin. -/
  | relayedReplyReceive (e : LinkId) (src : Nat) (ws : List Nat)
  /-- FLR (R469). A function level reset disables the function's queue pairs, event ring and bound DMA channels. -/
  | flr (f : Nat)
  /-- EVENT_POST (R470). An event is posted to a function's event ring, waiting in the hold queue while the ring is full. -/
  | eventPost (f kind : Nat) (body : Bytes)
  /-- MCTP_MESSAGE (R472). Taproot assembles a vendor-defined MCTP message and executes its capsule in the subset. -/
  | mctpMessage (pecOk som eom : Bool) (seq : Nat) (body : Bytes)
  /-- SET_ENDPOINT_ID (R472). MCTP control command setting the endpoint ID. -/
  | setEndpointId (eid : Nat)
  /-- GET_ENDPOINT_ID (R472). MCTP control command returning the endpoint ID. -/
  | getEndpointId
  /-- GET_ENDPOINT_UUID (R472). MCTP control command returning the UUID formed from DEV_UID. -/
  | getEndpointUuid
  /-- GET_MCTP_VERSION_SUPPORT (R472). MCTP control command returning supported versions. -/
  | getMctpVersionSupport (ty : Nat)
  /-- GET_MESSAGE_TYPE_SUPPORT (R472). MCTP control command returning supported message types. -/
  | getMessageTypeSupport
  /-- BOOT_MAILBOX_GO (R481). In RECOVERY a write of BX_WDN_BOOT_CTRL.GO executes the capsule in the boot mailbox. -/
  | bootMailboxGo
  /-- WARDEN_RESTART (R479). After FW_ACTIVATE drains, the Warden copies the store, restarts and posts RESTART. -/
  | wardenRestart
  /-- SYS_NOP (R476). Echoes its parameters. -/
  | sysNop (c : Cap)
  /-- SYS_INFO (R476). Returns identity and firmware status. -/
  | sysInfo (c : Cap)
  /-- SYS_STATUS (R476). Returns the main status registers. -/
  | sysStatus (c : Cap)
  /-- SYS_RESET_WARM (R516). Replies, then starts a warm reset of BX64 1 ms later. -/
  | sysResetWarm (c : Cap)
  /-- SYS_RESET_COLD (R516). Replies, then starts a cold reset of BX64 1 ms later. -/
  | sysResetCold (c : Cap)
  /-- SYS_RESET_STEM_PORT (R515). Resets one Stem port's PCS, link layer and queues. -/
  | sysResetStemPort (c : Cap)
  /-- SYS_RESET_CANOPY_PORT (R515). Resets one Canopy port's PCS, link layer and queues. -/
  | sysResetCanopyPort (c : Cap)
  /-- SYS_RESET_CLUSTER (R515). Resets one replay cluster, ending its jobs with reason RESET. -/
  | sysResetCluster (c : Cap)
  /-- POWER_SET (R519). Enters power state P0 to P3, or refuses. -/
  | powerSet (c : Cap)
  /-- P2_ENTRY (R519). Once running replay jobs end, the replay clusters are power-gated and P2 is entered. -/
  | p2Entry
  /-- POWER_THROTTLE (R522). Each 1 ms BX64 compares average power with LIMIT_W and adjusts xclk in steps of 1/16. -/
  | powerThrottle (w : Nat)
  /-- FW_UPDATE (R478). Checks and writes a firmware image into the store. -/
  | fwUpdate (c : Cap)
  /-- FW_ACTIVATE (R479). Stops fetching and restarts the Warden from a valid store. -/
  | fwActivate (c : Cap)
  /-- FW_INFO (R476). Returns firmware status and the running body's digest. -/
  | fwInfo (c : Cap)
  /-- ZX_REG_READ (R474). Reads a ZX40 register through its BX64. -/
  | zxRegRead (c : Cap)
  /-- ZX_REG_WRITE (R474). Writes a ZX40 register through its BX64. -/
  | zxRegWrite (c : Cap)
  /-- HW_READ (R506). Returns held Heartwood records in SEQ order. -/
  | hwRead (c : Cap)
  /-- HW_CLEAR (R508). With a valid authorization erases main-ring records up to ARG and writes HW_CLEARED. -/
  | hwClear (c : Cap)
  /-- SAFETY_STATUS (R476). Returns the safety status registers. -/
  | safetyStatus (c : Cap)
  /-- HANG_DUMP_READ (R491). Returns BX64's held hang dump. -/
  | hangDumpRead (c : Cap)
  /-- LC_STATUS (R534). Returns BX_LC_STS. -/
  | lcStatus (c : Cap)
  /-- LC_TRANSITION (R530). With a valid authorization starts a life-cycle transition through warm reset and Clearing. -/
  | lcTransition (c : Cap)
  /-- WT_ARM (R509). Arms a Windthrow injector on a target. -/
  | wtArm (c : Cap)
  /-- WT_DISARM (R509). Disarms one or all injectors. -/
  | wtDisarm (c : Cap)
  /-- WT_STATUS (R509). Returns the armed injections. -/
  | wtStatus (c : Cap)
  /-- WEDGE_DECLARE (R490). A Taproot watchdog expires; Taproot records the wedge, raises SAFETY, writes WEDGE and starts the hang dump. -/
  | wedgeDeclare (causes : Nat)
  /-- TAP_KICK (R489). A write of BX_TAP_KICK restarts the Warden watchdog. -/
  | tapKick (v : Nat)
  /-- BX_HANG_DUMP_HELD (R491). Taproot completes the BX64 hang dump and applies AUTO_RESET. -/
  | bxHangDumpHeld (branches : List (Nat × Nat)) (late : List Nat)
  /-- SAFETY_DETECTION (R497). A safety mechanism detects a fault; BX64 raises the SAFETY alarm and writes a DETECTION record. -/
  | safetyDetection (code idx : Nat) (args : List Nat) (die : Option Nat) (inj degraded : Bool)
  /-- LATENT_TEST (R500). Each LT_PERIOD_MS a checker is exercised with a fault pattern, with a failure reported. -/
  | latentTest (code idx : Nat) (args : List Nat) (pass degraded : Bool)
  /-- HEARTWOOD_REQUEST (R504). A subsystem signals an event to Taproot, which writes a Heartwood record in SEQ order. -/
  | heartwoodRequest (ev : Option HwRec)
  /-- TAPROOT_SELF_RESET (R496). A lockstep mismatch resets Taproot within 10 µs, keeping latches and the non-volatile array. -/
  | taprootSelfReset
  /-- JTAG_EXTEST (R492). Boundary scan, acting as BYPASS in FIELD state. -/
  | jtagExtest (bits_ : List Bool)
  /-- JTAG_IDCODE (R492). Selects the 32-bit IDCODE register. -/
  | jtagIdcode
  /-- JTAG_SAMPLE_PRELOAD (R492). Boundary scan sample and preload. -/
  | jtagSamplePreload (bits_ : List Bool)
  /-- JTAG_HD_READ (R492). Reads the held hang dump one word per Update-DR. -/
  | jtagHdRead
  /-- JTAG_BYPASS (R492). Selects the 1-bit bypass register. -/
  | jtagBypass (bits_ : List Bool)
  /-- POWER_ON (R515). Power-on starts a BX64 cold reset. -/
  | powerOn
  /-- RAIL_BELOW_MINIMUM (R515). A rail monitor finding a rail below its minimum starts a cold reset. -/
  | railBelowMinimum
  /-- CLEARING_DONE (R526). The BX64 Clearing completes after zeroising keys, initialising memories and applying region sizes. -/
  | clearingDone
  /-- BRINGUP_RAILS_UP (R527). Each rail is in range after its enable, or bring-up holds with RAIL_FAULT. -/
  | bringupRailsUp (ok : Bool)
  /-- BRINGUP_PLL_LOCK (R527). All PLLs lock, or bring-up holds with CLOCK_FAULT. -/
  | bringupPllLock (ok : Bool)
  /-- PCIE_LINK_UP (R527). PCIe trains after the host deasserts PERST#. -/
  | pcieLinkUp
  /-- HBM_TRAINING_DONE (R527). HBM training completes and the Clearing follows, or bring-up retries and holds with HBM_FAULT. -/
  | hbmTrainingDone (ok : Bool)
  /-- BRINGUP_TIMEOUT (R527). A bring-up step exceeding its timeout holds BX64 with the fault flag of Table 18-8. -/
  | bringupTimeout (step : Nat)
  /-- READ_WAIT_EXPIRY (R35). An EPOCH_READ whose minimum watermark the local watermark has not reached within BX_EPC_CTRL.READ_WAIT_US is answered S_TIMEOUT and counted in READ_TIMEOUT. -/
  | readWaitExpiry
  /-- REGION_TAP_SAMPLE (R63). At each rclk edge of a populated region tap ZX40 samples its event lines, updating counters, engine-state counts, trace sources and Blaze feed beats. -/
  | regionTapSample (edge : SMap Nat)
  /-- QUIET_WINDOW_EDGE (R76). At the Ringcount nanosecond at which a quiet window opens or closes, zx_quiet changes and AXI drain bursts are held or released. -/
  | quietWindowEdge
  /-- MIRROR_RESTORE_RECEIVE (R233). A restarting BX64 takes the MIRROR_RESTORE message from its buddy and rebuilds its ingress log, incarnations and correlator, mark, test and Lookout state. -/
  | mirrorRestoreReceive (q src msgId : Nat) (items : List MirrorItem)
  /-- CNP_PORT_HOLD_WRITE (R409). Clearing BX_CNP_PORT_CTRL.HOLD releases a held Canopy port, and writing ISOLATE holds or releases it in ISOLATED. -/
  | cnpPortHoldWrite (q : Nat) (hold : Bool)
  /-- POWER_LOSS (R530). Removal of all power stops every domain, including Taproot, keeping only the non-volatile array, so that a life-cycle transition before step 4 keeps the old state. -/
  | powerLoss
  /-- REGISTER_READ (R13). A register read with an effect: a low-word read that latches the high half, a NOW_NS read that latches NOW_FRAC, or a refused tenant-view read counted in APB_DENIED. -/
  | registerRead (a : RegAcc)
  deriving DecidableEq, Repr

end Sys2Proof
end

