-- ==== Sys2Proof/Decode.lean ====
section
/-! DEFINITION. The command that a word spells. spec/opcode_table.json gives no row any bits ("fields" is empty in every row), so no word
spells a command. -/
namespace Sys2Proof

/-- The command of a word numbered as the opcode table numbers bits: none, because the table gives no bits. -/
def decodeTableWord (nbits w : Nat) : Option Instr :=
  let _ := (nbits, w)
  none

end Sys2Proof
end

