-- ==== Sys2Proof/Machine/Fp.lean ====
section
/-! DEFINITION. IEEE 754 binary formats by exact arithmetic: decoding, rounding to nearest even with subnormals kept, comparison
(R81, R230, R240, R285, R286). -/
namespace Sys2Proof.Machine

/-- A binary format: exponent and fraction bits. -/
structure Fmt where
  e : Nat
  m : Nat
  deriving DecidableEq, Repr

def fp32 : Fmt := ⟨8, 23⟩
def fp64 : Fmt := ⟨11, 52⟩

/-- A value: sign, and magnitude num / den. -/
inductive FVal where
  | nan
  | inf (neg : Bool)
  | fin (neg : Bool) (num den : Nat)
  deriving DecidableEq, Repr

/-- 2^i for a signed i, as numerator and denominator. -/
def pow2 (i : Int) : Nat × Nat := if 0 ≤ i then (2 ^ i.toNat, 1) else (1, 2 ^ (-i).toNat)

/-- The exponent of the least normal number. -/
def Fmt.emin (f : Fmt) : Int := 2 - ((2 ^ (f.e - 1) : Nat) : Int)

/-- The bits of an infinity. -/
def Fmt.infBits (f : Fmt) : Nat := (2 ^ f.e - 1) * 2 ^ f.m

/-- The value of a bit pattern. -/
def Fmt.decode (f : Fmt) (w : Nat) : FVal :=
  let neg := w.testBit (f.e + f.m)
  let ex := bits w (f.e + f.m - 1) f.m
  let fr := w % 2 ^ f.m
  if ex = 2 ^ f.e - 1 then (if fr = 0 then .inf neg else .nan)
  else
    let k := if ex = 0 then fr else 2 ^ f.m + fr
    let q := f.emin + ((ex - 1 : Nat) : Int) - (f.m : Int)
    let p := pow2 q
    .fin neg (k * p.1) p.2

/-- floor(log2(num / den)), both not 0. -/
def ilog2 (num den : Nat) : Int :=
  let l : Int := (num.log2 : Int) - (den.log2 : Int)
  let p := pow2 l
  if num * p.2 < den * p.1 then l - 1 else l

/-- num / den rounded to the nearest integer, ties to even. -/
def divRne (num den : Nat) : Nat :=
  let q := num / den
  let r := num % den
  if den < 2 * r ∨ (2 * r = den ∧ q % 2 = 1) then q + 1 else q

/-- The bit pattern of a magnitude with its sign, rounded to nearest even; overflow gives an infinity. -/
def Fmt.round (f : Fmt) (neg : Bool) (num den : Nat) : Nat :=
  let sign := b2n neg * 2 ^ (f.e + f.m)
  if num = 0 then sign
  else
    let ex := max (ilog2 num den) f.emin
    let p := pow2 (ex - (f.m : Int))
    let k := divRne (num * p.2) (den * p.1)
    sign + min f.infBits ((ex - f.emin).toNat * 2 ^ f.m + k)

/-- The bit pattern of a value; a NaN is the quiet one. -/
def Fmt.encode (f : Fmt) (v : FVal) : Nat :=
  match v with
  | .nan => f.infBits + 2 ^ (f.m - 1)
  | .inf neg => b2n neg * 2 ^ (f.e + f.m) + f.infBits
  | .fin neg n d => f.round neg n d

/-- A value rounded to a format. -/
def Fmt.fit (f : Fmt) (v : FVal) : FVal := f.decode (f.encode v)

/-- A signed integer as a value, exactly. -/
def FVal.ofInt (i : Int) : FVal := .fin (i < 0) i.natAbs 1

/-- The signed numerator of a finite value. -/
def signedNum (neg : Bool) (n : Nat) : Int := if neg then -(n : Int) else n

/-- x - y in a format; only finite operands arise here. -/
def Fmt.sub (f : Fmt) (x y : FVal) : FVal :=
  match x, y with
  | .fin a n d, .fin b n' d' =>
    let z : Int := signedNum a n * d' - signedNum b n' * d
    if z = 0 then .fin (a && !b) 0 1 else f.fit (.fin (z < 0) z.natAbs (d * d'))
  | _, _ => .nan

/-- x / y in a format, y not 0. -/
def Fmt.div (f : Fmt) (x y : FVal) : FVal :=
  match x, y with
  | .fin a n d, .fin b n' d' => f.fit (.fin (a != b) (n * d') (d * n'))
  | _, _ => .nan

/-- x times 2^k. -/
def Fmt.scale (f : Fmt) (x : FVal) (k : Int) : FVal :=
  match x with
  | .fin a n d => let p := pow2 k; f.fit (.fin a (n * p.1) (d * p.2))
  | v => v

/-- x ≥ y on real values with infinities; false for a NaN (R240). -/
def FVal.ge (x y : FVal) : Bool :=
  match x, y with
  | .nan, _ | _, .nan => false
  | .inf false, _ => true
  | .inf true, .inf true => true
  | .inf true, _ => false
  | _, .inf neg => neg
  | .fin a n d, .fin b n' d' => signedNum b n' * d ≤ signedNum a n * d'

/-- floor of a value, none for infinities and NaN. -/
def FVal.floor? (x : FVal) : Option Int :=
  match x with
  | .fin a n d => some (signedNum a n / (d : Int))
  | _ => none

/-- An unsigned integer as FP32, round to nearest even. -/
def toFp32 (v : Nat) : Nat := fp32.round false v 1

end Sys2Proof.Machine
end

