-- ==== Sys2Proof/Machine/Sha256.lean ====
section
/-! DEFINITION. SHA-256 (FIPS 180-4), which R364, R477, R258 and others name. Words are natural numbers below 2^32. -/
namespace Sys2Proof.Machine

/-! ## Constants: fractions of roots of the first primes -/

/-- The primes below 312: 64 of them. -/
def shaPrimes : List Nat :=
  [2, 3, 5, 7] ++ [11, 13, 17, 19] ++ [23, 29, 31, 37] ++ [41, 43, 47, 53] ++ [59, 61, 67, 71] ++ [73, 79, 83, 89] ++ [97, 101, 103, 107] ++
  [109, 113, 127, 131] ++ [137, 139, 149, 151] ++ [157, 163, 167, 173] ++ [179, 181, 191, 193] ++ [197, 199, 211, 223] ++ [227, 229, 233, 239] ++
  [241, 251, 257, 263] ++ [269, 271, 277, 281] ++ [283, 293, 307, 311]

/-- The greatest r with r^k at most n, found bit by bit below 2^b. -/
def rootBits (k n : Nat) : Nat → Nat → Nat
  | 0, r => r
  | b + 1, r => rootBits k n b (if (r + 2 ^ b) ^ k ≤ n then r + 2 ^ b else r)

/-- The first 32 bits of the fraction of the k-th root of p. -/
def rootFraction (k p : Nat) : Nat := rootBits k (p * 2 ^ (32 * k)) 37 0 % 2 ^ 32

/-- Round constants: of cube roots. -/
def shaCube : List Nat := shaPrimes.map (rootFraction 3)

/-- The initial hash value: of the first eight square roots. -/
def shaStart : List Nat := (shaPrimes.take 8).map (rootFraction 2)

/-! ## Functions of words -/

/-- The word read around from bit n on: the 32 bits at n of the word written twice. -/
def shaTurn (n x : Nat) : Nat := x * (2 ^ 32 + 1) / 2 ^ n % 2 ^ 32

/-- Three images of a word, exclusive or. -/
def shaMix (f g h : Nat → Nat) (x : Nat) : Nat := f x ^^^ (g x ^^^ h x)

/-- The four sigmas: two of the rounds, two of the schedule. -/
def shaSumA : Nat → Nat := shaMix (shaTurn 2) (shaTurn 13) (shaTurn 22)
def shaSumE : Nat → Nat := shaMix (shaTurn 6) (shaTurn 11) (shaTurn 25)
def shaSmall0 : Nat → Nat := shaMix (shaTurn 7) (shaTurn 18) (fun x => x / 2 ^ 3)
def shaSmall1 : Nat → Nat := shaMix (shaTurn 17) (shaTurn 19) (fun x => x / 2 ^ 10)

/-- Bits of y where x has 1, of z where it has 0; and the bits that two of three words have. -/
def shaChoose (x y z : Nat) : Nat := z ^^^ (x &&& (y ^^^ z))
def shaMajor (x y z : Nat) : Nat := (x &&& (y ||| z)) ||| (y &&& z)

/-! ## A message -/

/-- The message with its end mark, zeros and bit length, whole blocks of 64 bytes. -/
def shaPadded (bs : Bytes) : Bytes :=
  padTo (ceilDiv (bs.length + 9) 64 * 64 - 8) (bs ++ beBytes 1 128) ++ beBytes 8 (8 * bs.length)

/-- n more schedule words after those of a block, which are the last sixteen of the list. -/
def shaExtend : Nat → List Nat → List Nat
  | 0, ws => ws
  | n + 1, ws =>
    let back (i : Nat) : Nat := ws.getD (ws.length - i) 0
    shaExtend n (ws ++ [(shaSmall1 (back 2) + back 7 + shaSmall0 (back 15) + back 16) % 2 ^ 32])

/-- One round on the eight working words, with round constant and schedule word added: the sum of the last words enters in front and at the
fifth place, and all move on. -/
def shaStep (v : List Nat) (kw : Nat) : List Nat :=
  let x (i : Nat) : Nat := v.getD i 0
  let t := x 7 + shaSumE (x 4) + shaChoose (x 4) (x 5) (x 6) + kw
  ((t + shaSumA (x 0) + shaMajor (x 0) (x 1) (x 2)) % 2 ^ 32 :: v.take 3) ++ ((x 3 + t) % 2 ^ 32 :: (v.drop 4).take 3)

/-- The hash value after one more block. -/
def shaAbsorb (ks hash : List Nat) (block : Bytes) : List Nat :=
  let ws := shaExtend 48 ((chunks 4 block).map beNat)
  let v := ((List.range 64).map (fun i => ks.getD i 0 + ws.getD i 0)).foldl shaStep hash
  (List.range 8).map (fun i => (hash.getD i 0 + v.getD i 0) % 2 ^ 32)

/-- SHA-256 of a byte string: 32 bytes. -/
def sha256 (bs : Bytes) : Bytes :=
  let ks := shaCube
  ((chunks 64 (shaPadded bs)).foldl (shaAbsorb ks) shaStart).flatMap (beBytes 4)

/-- A digest as the four words a capsule or register carries (R459): byte 8j in bits [63:56] of word j. -/
def digestWords (d : Bytes) : List Nat := (chunks 8 d).map beNat

end Sys2Proof.Machine
end

