-- ==== Sys2Proof/Machine/GroveOps.lean ====
section
/-! DEFINITION. The meaning of a Grove model (R238 to R252), its binary and load checks (R253 to R255), the Grove-S image (R267): one
evaluation for Grove and Grove-S. -/
namespace Sys2Proof.Machine

/-! ## Header (Table 9-10) -/

/-- The fields of a model header. -/
structure MHdr where
  magic : Nat
  ver : Nat
  form : Nat
  depth : Nat
  modelId : Nat
  modelVer : Nat
  nclass : Nat
  tieAbstain : Bool
  ntrees : Nat
  npred : Nat
  nleaf : Nat
  nmask : Nat
  nrules : Nat
  nfeat : Nat
  voteMin : Nat
  part : Nat
  partCount : Nat
  firstTree : Nat
  totalTrees : Nat
  len : Nat
  crc : Nat
  deriving DecidableEq, Repr

def parseModel (b : Bytes) : MHdr :=
  let w (i : Nat) : Nat := rdLe b (8 * i) 8
  { magic := bits (w 0) 63 32, ver := bits (w 0) 31 16, form := bits (w 0) 15 8, depth := bits (w 0) 7 4,
    modelId := bits (w 1) 63 32, modelVer := bits (w 1) 31 16, nclass := bits (w 1) 15 8 + 1, tieAbstain := bitAt (w 1) 0,
    ntrees := bits (w 2) 63 48, npred := bits (w 2) 47 32, nleaf := bits (w 2) 31 15, nmask := bits (w 2) 12 0,
    nrules := bits (w 3) 63 47, nfeat := bits (w 3) 46 34, voteMin := bits (w 4) 63 32, part := bits (w 4) 31 29,
    partCount := bits (w 4) 28 26 + 1, firstTree := bits (w 4) 25 9, totalTrees := bits (w 5) 63 47, len := bits (w 6) 63 32,
    crc := bits (w 6) 31 0 }

/-- Where the sections of a binary or an image lie, and how nodes and leaves of a tree are stored: offset of tree 0, bytes per tree,
bytes per entry, offset of the leaves within a tree. -/
structure Layout where
  mask : Nat
  pred : Nat
  leaf : Nat
  tree : Nat
  treeBytes : Nat
  entry : Nat
  leaves : Nat
  deriving DecidableEq, Repr

/-- The layout of Table 9-9. -/
def MHdr.binary (h : MHdr) : Layout :=
  let pred := 96 + 8 * h.nmask
  let leaf := pred + 8 * h.npred
  { mask := 96, pred := pred, leaf := leaf, tree := leaf + 8 * ceilDiv h.nleaf 2, treeBytes := 2 ^ (h.depth + 2), entry := 2,
    leaves := 2 * (2 ^ h.depth - 1) }

/-- The layout of Table 9-17. -/
def imageLayout : Layout := { mask := 0x100, pred := 0x200, leaf := 0xA00, tree := 0xE00, treeBytes := 128, entry := 1, leaves := 64 }

/-! ## Predicates (R238 to R243) -/

/-- One predicate bit; feat gives the FP32 pattern of a feature, none when it is missing. -/
def predBit (b : Bytes) (l : Layout) (feat : Nat → Option Nat) (i : Nat) : Bool :=
  let w := rdLe b (l.pred + 8 * i) 8
  let dflt := bitAt w 61
  match feat (bits w 43 32) with
  | none => dflt
  | some x =>
    match fp32.decode x with
    | .nan => dflt
    | v =>
      if bits w 63 62 = 0 then v.ge (fp32.decode (bits w 31 0))
      else match v with
        | .fin neg n d =>
          if n % d = 0 ∧ n / d < 64 ∧ (neg = false ∨ n = 0) then (rdLe b (l.mask + 8 * bits w 15 0) 8).testBit (n / d) else dflt
        | _ => dflt

/-- The predicate vector, every predicate evaluated once. -/
def predVector (b : Bytes) (l : Layout) (npred : Nat) (feat : Nat → Option Nat) : List Bool :=
  (List.range npred).map (predBit b l feat)

/-! ## Trees and rules (R244 to R247) -/

/-- The leaf a complete tree reaches (R244). -/
def treeWalk (b : Bytes) (off entry : Nat) (p : List Bool) : Nat → Nat → Nat
  | 0, n => n
  | k + 1, n => treeWalk b off entry p k (2 * n + 1 + b2n (p.getD (rdLe b (off + entry * n) entry % 16384) false))

/-- The leaf value number of tree t of a tree form. -/
def treeLeaf (b : Bytes) (l : Layout) (depth : Nat) (p : List Bool) (t : Nat) : Nat :=
  let off := l.tree + l.treeBytes * t
  let n := treeWalk b off l.entry p depth 0
  rdLe b (off + l.leaves + l.entry * (n - (2 ^ depth - 1))) l.entry

/-- A rule's care slots: predicate number and value; and its leaf value number. -/
def ruleCares (b : Bytes) (off : Nat) : List (Nat × Bool) × Nat :=
  let w := rdLe b off 8
  ((List.range (bits w 47 44)).map (fun i => let c := rdLe b (off + 8 + 2 * i) 2; (bits c 8 0, bitAt c 15)), bits w 63 48)

/-- The rules of tree t of a rule form: first and count. -/
def ruleRange (b : Bytes) (l : Layout) (t : Nat) : Nat × Nat :=
  let w := rdLe b (l.tree + 8 * t) 8
  (bits w 63 48, bits w 47 39)

/-- Offset of rule r. -/
def ruleOff (l : Layout) (ntrees r : Nat) : Nat := l.tree + 8 * ntrees + 24 * r

/-- The leaf value number of tree t of a rule form, none when not exactly one rule matches (R273). -/
def ruleLeaf (b : Bytes) (l : Layout) (ntrees : Nat) (p : List Bool) (t : Nat) : Option Nat :=
  let r := ruleRange b l t
  let hits := (List.range r.2).filterMap (fun i =>
    let c := ruleCares b (ruleOff l ntrees (r.1 + i))
    if c.1.all (fun x => p.getD x.1 false = x.2) then some c.2 else none)
  match hits with
  | [x] => some x
  | _ => none

/-! ## The vote (R249 to R252) -/

/-- The class sums of a model over a feature vector, none for a rule-form tree without exactly one match. -/
def modelSums (b : Bytes) (l : Layout) (h : MHdr) (feat : Nat → Option Nat) : Option (List Nat) :=
  let p := predVector b l h.npred feat
  (List.range h.ntrees).foldl (fun acc t =>
    match acc, (if h.form = 0 then some (treeLeaf b l h.depth p t) else ruleLeaf b l h.ntrees p t) with
    | some sums, some v =>
      let w := rdLe b (l.leaf + 4 * v) 4
      let c := bits w 31 24
      some (sums.set c (sums.getD c 0 + bits w 15 0))
    | _, _ => none) (some (List.replicate h.nclass 0))

/-- A result: status of Table 9-13, class, winning and runner-up sums. -/
structure Vote where
  status : Nat
  cls : Nat
  win : Nat
  runner : Nat
  deriving DecidableEq, Repr

/-- The result of class sums (R250). -/
def voteOf (sums : List Nat) (voteMin : Nat) (tieAbstain : Bool) : Vote :=
  let win := sums.foldl max 0
  let c := sums.findIdx (· = win)
  let runner := ((sums.take c) ++ sums.drop (c + 1)).foldl max 0
  let tie : Bool := 1 < (sums.filter (· = win)).length
  if win < voteMin ∨ (tie && tieAbstain) then { status := 1, cls := 0xFF, win := win, runner := runner }
  else { status := 0, cls := c, win := win, runner := runner }

/-- An alarm (R252): voted, and the class's bit in the mask is 1. -/
def Vote.alarm (v : Vote) (mask : Nat → Bool) : Bool := v.status = 0 && mask v.cls

/-- Bit c of the alarm mask of a binary or image. -/
def alarmBit (b : Bytes) (c : Nat) : Bool := ((b.getD (64 + c / 8) 0).toNat).testBit (c % 8)

/-! ## Load checks (Table 9-11, rows 0x01 to 0x0A) -/

/-- Bytes of the tree section. -/
def MHdr.treeSection (h : MHdr) : Nat := if h.form = 0 then h.ntrees * 2 ^ (h.depth + 2) else 8 * h.ntrees + 24 * h.nrules

/-- Reserved header fields are 0. -/
def reservedZero (b : Bytes) : Bool :=
  let w (i : Nat) : Nat := rdLe b (8 * i) 8
  bits (w 0) 3 0 = 0 && bits (w 1) 7 1 = 0 && bits (w 2) 14 13 = 0 && bits (w 3) 33 0 = 0 && bits (w 4) 8 0 = 0 && bits (w 5) 46 0 = 0 &&
    w 7 = 0

/-- Header fields in range (reason 0x02). -/
def MHdr.inRange (h : MHdr) : Bool :=
  h.form ≤ 1 && (if h.form = 0 then 1 ≤ h.depth && h.depth ≤ 8 else h.depth ≤ 8) && 1 ≤ h.ntrees && h.ntrees ≤ 8192 && 1 ≤ h.npred &&
    h.npred ≤ (if h.form = 0 then 16384 else 512) && 1 ≤ h.nleaf && h.nleaf ≤ 65536 && h.nmask ≤ 4096 &&
    (if h.form = 0 then h.nrules = 0 else 1 ≤ h.nrules && h.nrules ≤ 65536) && 1 ≤ h.nfeat && h.nfeat ≤ 4096 && h.part < h.partCount &&
    1 ≤ h.totalTrees && h.totalTrees ≤ 65536

/-- The greatest NCARE of a rule form equals DEPTH, which Table 9-10 defines so. -/
def maxCare (b : Bytes) (l : Layout) (h : MHdr) : Nat :=
  (List.range h.nrules).foldl (fun m r => max m (bits (rdLe b (ruleOff l h.ntrees r) 8) 47 44)) 0

/-- A predicate entry passes reason 0x05. -/
def predOk (b : Bytes) (l : Layout) (h : MHdr) (i : Nat) : Bool :=
  let w := rdLe b (l.pred + 8 * i) 8
  bits w 63 62 ≤ 1 && bits w 43 32 < h.nfeat && bits w 60 44 = 0 &&
    (if bits w 63 62 = 0 then fp32.decode (bits w 31 0) ≠ .nan else bits w 31 16 = 0 && bits w 15 0 < h.nmask)

/-- Two rules share a predicate with opposite values. -/
def disjointRules (x y : List (Nat × Bool)) : Bool := x.any (fun a => y.any (fun b => a.1 = b.1 && a.2 ≠ b.2))

/-- Every pair of a list is disjoint. -/
def pairwiseDisjoint : List (List (Nat × Bool)) → Bool
  | [] => true
  | x :: t => t.all (disjointRules x) && pairwiseDisjoint t

/-- A tree's rules form a partition (R247). -/
def partitionOk (b : Bytes) (l : Layout) (h : MHdr) (t : Nat) : Bool :=
  let r := ruleRange b l t
  let cs := (List.range r.2).map (fun i => (ruleCares b (ruleOff l h.ntrees (r.1 + i))).1)
  pairwiseDisjoint cs && ((cs.map (fun c => 2 ^ (8 - c.length))).foldl (· + ·) 0) = 256

/-- A rule's care slots are distinct and in range, and its leaf exists. -/
def ruleOk (b : Bytes) (l : Layout) (h : MHdr) (r : Nat) : Bool :=
  let c := ruleCares b (ruleOff l h.ntrees r)
  c.1.length ≤ 8 && c.1.all (fun x => x.1 < h.npred) && (c.1.map (·.1)).eraseDups.length = c.1.length && c.2 < h.nleaf

/-- The directory lists the rules contiguously, in tree order, and covers every rule. -/
def directoryOk (b : Bytes) (l : Layout) (h : MHdr) : Bool :=
  let r := (List.range h.ntrees).foldl (fun acc t =>
    let x := ruleRange b l t
    (acc.1 && x.1 = acc.2 && 1 ≤ x.2 && x.2 ≤ 256, acc.2 + x.2)) ((true, 0) : Bool × Nat)
  r.1 && r.2 = h.nrules

/-- Every node of a tree form names a predicate and every leaf a leaf value. -/
def treesOk (b : Bytes) (l : Layout) (h : MHdr) : Bool :=
  (List.range h.ntrees).all (fun t =>
    let off := l.tree + l.treeBytes * t
    (List.range (2 ^ h.depth - 1)).all (fun n => rdLe b (off + 2 * n) 2 < h.npred) &&
      (List.range (2 ^ h.depth)).all (fun n => rdLe b (off + l.leaves + 2 * n) 2 < h.nleaf))

/-- The first of the checks 0x01 to 0x0A of Table 9-11 that a binary fails. -/
def modelCheck (b : Bytes) : Option Nat :=
  let h := parseModel b
  let l := h.binary
  if ¬ (h.magic = 0x4D565247 ∧ h.ver = 1 ∧ h.len = b.length ∧ crc32c (b.take 48 ++ zeroBytes 4 ++ b.drop 52) = h.crc) then some 0x01
  else if ¬ (h.inRange ∧ reservedZero b ∧ l.tree + h.treeSection = b.length ∧ (h.form = 0 ∨ maxCare b l h = h.depth)) then some 0x02
  else if (h.tieAbstain ∨ 0 < h.voteMin) ∧ 255 < h.nclass then some 0x03
  else if (List.range 256).any (fun c => h.nclass ≤ c && alarmBit b c) then some 0x04
  else if ¬ (List.range h.npred).all (predOk b l h) then some 0x05
  else if ¬ (List.range h.nleaf).all (fun v => let w := rdLe b (l.leaf + 4 * v) 4; bits w 31 24 < h.nclass && bits w 23 16 = 0) then some 0x06
  else if h.form = 0 ∧ ¬ treesOk b l h then some 0x07
  else if h.form = 1 ∧ ¬ (directoryOk b l h ∧ (List.range h.nrules).all (ruleOk b l h)) then some 0x08
  else if h.form = 1 ∧ ¬ (List.range h.ntrees).all (partitionOk b l h) then some 0x09
  else if h.totalTrees < h.firstTree + h.ntrees ∨ (h.totalTrees = h.ntrees ∧ h.partCount ≠ 1) then some 0x0A
  else none

/-! ## Grove-S (R266, R267) -/

/-- A binary meets the limits of Table 9-16. -/
def MHdr.grsOk (h : MHdr) : Bool :=
  h.form = 0 && h.depth ≤ 6 && h.ntrees ≤ 256 && h.partCount = 1 && h.npred ≤ 256 && h.nleaf ≤ 256 && h.nmask ≤ 32 && h.nfeat ≤ 256

/-- Bytes of an image. -/
def imageBytes : Nat := 36352

/-- One tree of an image: node bytes, then leaf bytes at 64. -/
def imageTree (b : Bytes) (l : Layout) (h : MHdr) (t : Nat) : Bytes :=
  let off := l.tree + l.treeBytes * t
  padTo 64 ((List.range (2 ^ h.depth - 1)).map (fun n => BitVec.ofNat 8 (rdLe b (off + 2 * n) 2))) ++
    padTo 64 ((List.range (2 ^ h.depth)).map (fun n => BitVec.ofNat 8 (rdLe b (off + l.leaves + 2 * n) 2)))

/-- The Grove-S image of a binary for a generation (Table 9-17). -/
def grsImage (b : Bytes) (gen : Nat) : Bytes :=
  let h := parseModel b
  let l := h.binary
  let body := sliceBytes b 64 32 ++ zeroBytes 160 ++ padTo 256 (sliceBytes b l.mask (8 * h.nmask)) ++
    padTo 2048 (sliceBytes b l.pred (8 * h.npred)) ++ padTo 1024 (sliceBytes b l.leaf (4 * h.nleaf)) ++
    padTo 32768 ((List.range h.ntrees).flatMap (imageTree b l h))
  let hd (crc : Nat) : Bytes := b.take 48 ++ wordBytes_ [imageBytes * 2 ^ 32 + crc, gen * 2 ^ 48]
  let c := crc32c (hd 0 ++ body)
  hd c ++ body
where
  /-- little-endian words -/
  wordBytes_ (ws : List Nat) : Bytes := ws.flatMap (leBytes 8)

/-- An image matches its header CRC (R268). -/
def imageOk (b : Bytes) : Bool :=
  let h := parseModel b
  b.length = imageBytes && h.magic = 0x4D565247 && h.len = imageBytes && crc32c (b.take 48 ++ zeroBytes 4 ++ b.drop 52) = h.crc

end Sys2Proof.Machine
end

