-- ==== Sys2Proof/Config.lean ====
section
/-! DEFINITION. What the spec leaves open as free values: opaque constants without a body, so that nothing can be proved of
their value (each named in a log entry). -/
namespace Sys2Proof.Config

/-- A free value of w bits, the n-th drawn in a run. -/
opaque freeValue : Nat → Nat → Nat

/-- The verdict of an ECDSA P-256 check with SHA-256 (FIPS 186-5): key, signed bytes, signature bytes. -/
opaque ecdsaOk : Nat → Bytes → Bytes → Bool

/-- The Plovma key fused in Taproot (R477). -/
opaque plovmaKey : Nat

/-- The code of the epoch watchdog, cause 2 of Table 17-3, for which Table 17-6 has no row. -/
opaque epochWedgeCode : Nat

/-- Plovma's JEDEC manufacturer identity (R492), 11 bits. -/
opaque jedecId : Nat

/-- The endpoint UUID formed from DEV_UID (Table 16-11). -/
opaque uuidOf : Nat → Nat

/-- The version entry of Get MCTP Version Support for a message type. -/
opaque mctpVersion : Nat → Nat

/-- The declared TX and RX latency of a Canopy port, in 2^-16 ns (R171): the spec gives no figure and no register. -/
opaque canopyTxLat : Nat
opaque canopyRxLat : Nat

/-- An infinity converted to an integer format without saturation (R322): format code and sign. -/
opaque infToInt : Nat → Bool → Int

end Sys2Proof.Config
end

