-- ==== Sys2Proof/Machine/State.lean ====
section
/-! DEFINITION. The machine's state as plain data: one ZX40 and one BX64 (R1), every register of the spec's tables, every
store, queue and condition the chapters give them, the outputs sent so far, and the queue of waiting commands. -/
namespace Sys2Proof.Machine

/-- Reasons for a fault. -/
inductive Fault where
  /-- An access to HBM above the 64 GiB + 8 GiB the part has (Table 14-1): raised by no command as the spec is written, since
  every access is bounded by the rule that makes it. Safe. -/
  | noSuchAddress
  deriving DecidableEq, Repr

/-- Reasons for a refusal. -/
inductive Refusal where
  /-- The command has no meaning yet; raised by exec's arms only. Safe. -/
  | notModelled (mnemonic : String)
  deriving DecidableEq, Repr

/-- ZX40's own state beside its registers (chapters 2, 3, 6 and 7). -/
structure Zx where
  /-- life-cycle state: 0 BLANK, 1 PROVISIONED, 2 FIELD, 3 RETURN, 4 RETIRED (R532) -/
  lc : Nat := 0
  /-- power state in force: 0 to 3 for Z0 to Z3 -/
  pwr : Nat := 0
  /-- a requested power state that waits for a snapshot to leave, and the epoch whose snapshot is still to begin, if any (R521) -/
  pwrReq : Option (Nat × Option Nat) := none
  /-- zx_iso_n is high -/
  isoN : Bool := true
  /-- a reset input is low, or the 64 zclk after release have not passed (R53) -/
  inReset : Bool := false
  /-- the reset inputs that are low: 0 zx_por_n, 1 zx_rst_n, 2 zx_lrst_n -/
  rstLow : List Nat := []
  /-- the ZX40 Clearing runs (R526) -/
  clearing : Bool := false
  /-- level of the synchronised zx_test_mode pin -/
  testMode : Bool := false
  tb : Timebase := {}
  lacs : SMap Lac := []
  taps : SMap Tap := []
  /-- counter selections as programmed (ZX_CTR_n_SEL), by counter, those not zero -/
  ctrSel : SMap Nat := []
  /-- counter selections in force -/
  ctrLive : SMap Nat := []
  /-- selections that the last boundary replaced, for edges before the latch edge (R64) -/
  ctrOld : SMap Nat := []
  /-- VAL at the previous latch, counters and light set (R67) -/
  ctrPrev : SMap Nat := []
  lsPrev : SMap Nat := []
  /-- quiet-window settings in force (R78): window to the words of TIME and SPAN; a window that is not listed has its reset values -/
  qwLive : SMap (Nat × Nat) := []
  /-- any quiet window is open -/
  quiet : Bool := false
  /-- sensor window of the last close -/
  snsWin : Option SnsWindow := none
  /-- barrier stamps of the open epoch: Ringcount and line, in stamp order -/
  barStamps : List (Nat × Nat) := []
  barOvf : Bool := false
  /-- last arrival of each line: Ringcount and whether from the pin -/
  barLast : SMap (Nat × Bool) := []
  /-- Ringcount since which barrier line l is watched by hang cause 2 -/
  barSince : SMap Nat := []
  /-- epoch schedule held: A in ns, N_A, k, if any (R17) -/
  sched : Option Sched := none
  /-- the schedule was held and the timebase locked since the open epoch began (R21) -/
  wholeLocked : Bool := false
  heldAtOpen : Bool := false
  /-- a step took effect in the open epoch (R22) -/
  stepped : Bool := false
  /-- part of the open epoch was spent in Z2 or Z3 (R521) -/
  offEp : Bool := false
  /-- generation in force in the open epoch -/
  genOpen : Nat := 0
  /-- last close instant used, integer ns -/
  lastClose : Option Nat := none
  /-- epoch of the last close -/
  lastEpoch : Option Nat := none
  /-- staged writes of STAGED_GEN: APB address of the register to its shadow value -/
  shadow : SMap Nat := []
  /-- the armed apply instant, first epoch and exponent -/
  armed : Option (Nat × Nat × Nat) := none
  /-- trace buffers by number -/
  trc : SMap TraceBuf := []
  /-- waiting Heartwood requests of trace buffers (R91) -/
  hwReqs : List HwReq := []
  /-- outstanding drain bursts, oldest first -/
  bursts : List Burst := []
  /-- a burst waits for the quiet window to close, counted once (R77): buffers -/
  heldBufs : List Nat := []
  /-- the hang dump held -/
  dump : Bytes := []
  /-- hang conditions already declared and not released since, by cause bit -/
  hangOn : Nat := 0
  /-- epoch log, oldest first, and where the next entry begins in the log memory -/
  log : List LogEntry := []
  logWr : Nat := 0
  /-- closed epochs whose snapshot has not been sent yet, ascending -/
  unsent : List Nat := []
  /-- a resend pass is running: its next epoch, and the first epoch of a LOG_RESEND it covers -/
  pass : Option (Nat × Option Nat) := none
  /-- CAPS commands held, oldest first: opcode and capsule (R146) -/
  caps : List (Nat × Cap) := []
  /-- Blaze units 0 to 15 -/
  blz : SMap BlzUnit := []
  /-- poison requests waiting, by block: granule addresses still to mark, first first (R198) -/
  psnQ : List (List Nat) := []
  /-- the request at the pins has waited 64 zclk (R61) -/
  psnStuck : Bool := false
  /-- BLAZE reports waiting -/
  reports : List BlzReport := []
  /-- injectors of the Blaze units: action, argument, injections left -/
  inj : SMap (Nat × Nat × Nat) := []
  /-- Grove-S image banks (R268); the staged generation carries an image -/
  stagedGrs : Bool := false
  grsLive : Bytes := []
  grsStaged : Bytes := []
  /-- first epoch of the generation whose image is to become live after the vote of the epoch before it -/
  grsRole : Option Nat := none
  /-- a GROVE_GRS_REFRESH is writing the live bank; done, it is used for epochs from this one on -/
  grsWriting : Bool := false
  grsFrom : Nat := 0
  /-- feature map of the generation before, for votes of epochs before its last -/
  featOld : SMap Nat := []
  /-- an uncorrectable error was found in the live bank -/
  grsErr : Bool := false
  /-- APB: high halves latched by reads of low words, and low words written whose high word is awaited, by the register's address (R13) -/
  apbHi : SMap Nat := []
  apbLo : SMap Nat := []
  deriving DecidableEq, Repr

/-- The machine: one ZX40 and one BX64 (R1). -/
structure State where
  /-- register fields that differ from their reset value, by field key (Fld.key in Ops.lean): the value -/
  regs : SMap Nat := []
  zx : Zx := {}
  /-- BX64's timebase -/
  bxTb : Timebase := {}
  /-- BX64's 1PPS and Time-of-Day inputs -/
  pps : PpsIn := {}
  /-- exchanges BX64 has opened -/
  tsrc : TimeSource := {}
  /-- link ends, by LinkId.key -/
  links : SMap LinkEnd := []
  /-- queues of both parts, by number -/
  queues : SMap Queue := []
  ep : Epochs := {}
  red : Reduction := {}
  cnp : Fabric := {}
  grv : Grove := {}
  cor : Corr := {}
  wdn : Warden := {}
  tap : Taproot := {}
  hbm : Hbm := {}
  egs : Egress := {}
  rpl : Replay := {}
  gate : Gate := {}
  up : PowerUp := {}
  /-- outputs sent so far, oldest first (the model's own field) -/
  out : List Out := []
  /-- free values drawn so far (the model's own field) -/
  fresh : Nat := 0
  /-- commands waiting, first in first out (the model's own field) -/
  pending : List Sys2Proof.Instr := []
  deriving DecidableEq, Repr

/-- The machine right after reset: both parts after cold reset, every register at its Reset column (an absent entry of regs),
every store and queue empty, no command waiting. -/
def State.reset : State := {}

end Sys2Proof.Machine
end

