-- ==== Sys2Proof/Machine/Ops.lean ====
section
/-! DEFINITION. The operations every meaning uses: register fields, counters, outputs, free values, the clocks, the epoch
schedule and the generation of an epoch, the tree's view of this BX64, and the link ends. -/
namespace Sys2Proof.Machine

/-! ## Register fields -/

/-- The number of a register field of an instance: index, register, lowest bit. -/
def Fld.key (f : Fld) (i : Nat) : Nat := (i * 256 + f.reg.ctorIdx) * 64 + f.lo

/-- Register offsets of BX_HW_SNAP (R503): the layout of PF BAR0 is not given, so the model numbers a register by its place
in the list of registers and its index (DESIGN CHOICE, log entry 6). -/
def snapOffset (r : Reg) (i : Nat) : Nat := r.ctorIdx * 16384 + i

/-- The registers of Table 17-10a, by class; the missing slots are off. -/
def snapDefault (c : Nat) : List (Reg × Nat) :=
  match c with
  | 0 => [(.BX_TAP_STS, 0), (.BX_WDN_FW_STS, 0), (.BX_EPC_STATE, 0), (.TB_STS, 1), (.BX_RPL_STS, 0), (.BX_CMT_STS, 0),
      (.BX_CNP_FAB_STS, 0), (.BX_SAF_STS, 0)]
  | 1 => [(.BX_WDN_FW_STS, 0), (.BX_CNP_IDENT, 0), (.BX_EPC_STATE, 0), (.BX_HW_AUTH, 0), (.BX_HW_STS, 0)]
  | 2 => [(.BX_SAF_STS, 0), (.TB_STS, 1), (.BX_MEM_ECC, 0), (.BX_RPL_CNT2, 0), (.BX_GRV_CNT1, 0), (.BX_RED_CNT2, 0),
      (.BX_CMT_CNT3, 0), (.BX_TAP_STS, 0)]
  | 3 => [(.BX_WT_STS, 0), (.BX_WT_INJ, 0)]
  | 4 => [(.STM_STS, 1), (.PORT_ERRS, 0), (.BX_STM_PORT_MISC, 0), (.BX_CNP_PORT_STS, 0), (.PORT_ERRS, 64),
      (.BX_CNP_PORT_MISC, 0), (.BX_CNP_CNT0, 0), (.BX_CNP_CNT1, 0)]
  | 5 => [(.BX_LKO_DIE, 0), (.BX_COR_DIE_MARK, 0), (.STM_STS, 1), (.BX_SAF_DIE, 0), (.BX_EPC_DROP_CNT, 0)]
  | 6 => [(.BX_RED_STS, 0), (.BX_RED_CNT1, 0), (.BX_GRV_CNT1, 0), (.BX_CMT_CNT3, 0), (.BX_BLZ_PSN_CNT0, 0),
      (.BX_BLZ_PSN_CNT1, 0), (.BX_MEM_ECC, 0), (.BX_EPC_STATE, 0)]
  | 7 => [(.BX_RPL_STS, 0), (.BX_RPL_CORE_MAP, 0), (.BX_RPL_CNT1, 0), (.BX_RPL_CNT2, 0), (.BX_RPL_ENG_MAP, 0),
      (.BX_RPL_ENG_MAP, 1), (.BX_RPL_ENG_MAP, 2), (.BX_RPL_ENG_MAP, 3)]
  | _ => []

/-- Sizes of the HBM regions after reset (Table 14-1), in granules of 2 MiB. -/
def regionDefault : List Nat := [128, 256, 1280, 5888, 512, 4096]

/-- The value of a field of instance i after cold reset: the Reset column, and what the tables it names give (R11). -/
def resetOf (f : Fld) (i : Nat) : Nat :=
  match f.reg with
  | .BX_HW_SNAP =>
    match (snapDefault (i / 8))[i % 8]? with
    | none => 0
    | some r => if f.lo = 63 then 1 else snapOffset r.1 r.2
  | .ZX_TAP_CFG => if f.lo = 20 ∧ 64 ≤ i then 0 else f.reset
  | .BLZ_CFG => if 16 ≤ i ∧ 30 ≤ f.lo ∧ f.hi ≤ 48 then 0 else f.reset
  | .BX_MEM_REGION =>
    if f.lo = 16 then (regionDefault.take i).foldl (· + ·) 0 else regionDefault.getD i 0
  | .BX_EGS_GATE_SPAN => if f.lo = 48 ∧ i / 4 = 24 then 1 else f.reset
  | .BX_DMA_CH_CFG => if f.lo = 62 ∧ 120 ≤ i then 1 else f.reset
  | _ => f.reset

/-- The value a register field holds. -/
def State.rd (s : State) (f : Fld) (i : Nat := 0) : Nat := (s.regs.find? (f.key i)).getD (resetOf f i)

/-- The same as a truth value. -/
def State.flag (s : State) (f : Fld) (i : Nat := 0) : Bool := s.rd f i ≠ 0

/-- A register field set, cut to its width; a field at its reset value is not listed. -/
def State.wr (s : State) (f : Fld) (i v : Nat) : State :=
  let v := v % 2 ^ f.width
  { s with regs := if v = resetOf f i then s.regs.erase (f.key i) else s.regs.set (f.key i) v }

/-- A saturating counter field raised by n. -/
def State.bump (s : State) (f : Fld) (i : Nat := 0) (n : Nat := 1) : State := s.wr f i (satAdd f.max (s.rd f i) n)

/-- A field whose counts saturate or stop at its largest value, set to v. -/
def State.wrSat (s : State) (f : Fld) (i v : Nat) : State := s.wr f i (min v f.max)

/-! ## Outcomes, outputs, free values -/

/-- The command completes with this state. -/
def done (s : State) : Host.Outcome State Fault Refusal := .next s

/-- An output leaves the device. -/
def State.emit (s : State) (o : Out) : State := { s with out := s.out ++ [o] }

/-- A free value of w bits and the state that has drawn it. -/
def State.draw (s : State) (w : Nat) : Nat × State :=
  (Config.freeValue w s.fresh % 2 ^ w, { s with fresh := s.fresh + 1 })

/-! ## Time (R161): 2^-16 ns and integer ns of each timebase -/

/-- Ringcount of a timebase, RC_NS and RC_FRAC as one count of 2^-16 ns. -/
def Timebase.rc (t : Timebase) : Nat := t.count / 65536

/-- Integer nanoseconds of a timebase. -/
def Timebase.ns (t : Timebase) : Nat := t.count / 4294967296

/-- A stamp's integer ns and fraction. -/
def stampNs (st : Nat) : Nat := st / 65536
def stampFrac (st : Nat) : Nat := st % 65536

def State.zxRc (s : State) : Nat := s.zx.tb.rc
def State.zxNs (s : State) : Nat := s.zx.tb.ns
def State.bxRc (s : State) : Nat := s.bxTb.rc
def State.bxNs (s : State) : Nat := s.bxTb.ns

/-- The timebase counts as locked (R21, R163): LOCKED or HOLDOVER. -/
def Timebase.isLocked (t : Timebase) : Bool := t.state = .locked ∨ t.state = .holdover

/-! ## The epoch schedule (R17, R18, R30) -/

/-- Epoch length in ns. -/
def Sched.len (c : Sched) : Nat := 62500 * 2 ^ c.k

/-- B(N). -/
def Sched.open_ (c : Sched) (n : Nat) : Nat := c.a + (n - c.nA) * c.len

/-- C(N). -/
def Sched.close (c : Sched) (n : Nat) : Nat := c.open_ (n + 1)

/-- H(N). -/
def Sched.horizon (c : Sched) (n : Nat) : Nat := c.close n + 3 * c.len

/-- The epoch open at an instant, if the schedule has begun. -/
def Sched.at_ (c : Sched) (ns : Nat) : Option Nat := if ns < c.a then none else some (c.nA + (ns - c.a) / c.len)

/-- T is a boundary of the schedule: the epoch it opens. -/
def Sched.boundary? (c : Sched) (t : Nat) : Option Nat :=
  if c.a ≤ t ∧ (t - c.a) % c.len = 0 then some (c.nA + (t - c.a) / c.len) else none

/-- The epoch open at ZX40's timebase, 0 before its schedule begins. -/
def State.zxEpoch (s : State) : Nat := ((s.zx.sched.bind fun c => c.at_ s.zxNs)).getD 0

/-- The generation in force at BX64, if any but generation 0. -/
def State.liveGen? (s : State) : Option GenRec := s.ep.gens.head?

/-- The number of the generation in force. -/
def State.liveGen (s : State) : Nat := (s.liveGen?.map (·.gen)).getD 0

/-- The settings in force. -/
def State.cfg (s : State) : Settings := (s.liveGen?.map (·.cfg)).getD {}

/-- The schedule in force at BX64. -/
def State.sched? (s : State) : Option Sched := s.liveGen?.map (·.sched)

/-- The generation in force for epoch n: the newest whose first epoch is at or below n (R43). -/
def State.genOf (s : State) (n : Nat) : Option GenRec := s.ep.gens.find? (fun g => g.sched.nA ≤ n)

/-- The schedule of epoch n. -/
def State.schedOf (s : State) (n : Nat) : Sched := ((s.genOf n).map (·.sched)).getD ⟨0, 0, 3⟩

/-- C(N) and H(N) at this BX64. -/
def State.closeOf (s : State) (n : Nat) : Nat := (s.schedOf n).close n
def State.horizonOf (s : State) (n : Nat) : Nat := (s.schedOf n).horizon n

/-- The epoch open at BX64's timebase, 0 before the schedule begins. -/
def State.bxEpoch (s : State) : Nat := ((s.sched?.bind fun c => c.at_ s.bxNs)).getD 0

/-- The generation in force covers n as closed at this BX64's Ringcount. -/
def State.closed (s : State) (n : Nat) : Bool := (s.genOf n).isSome ∧ s.closeOf n ≤ s.bxNs

/-- BX_EPC_STATE.RUNNING (Table 1-11). -/
def State.running (s : State) : Bool := s.bxTb.isLocked ∧ s.sched?.isSome

/-! ## Staged registers of a generation -/

/-- A field of a staged register in some settings, 0 where the generation does not set it. -/
def Settings.fld (c : Settings) (f : Fld) (i : Nat) : Nat :=
  match c.regs.find? (fun r => r.reg = f.reg ∧ r.idx = i) with
  | some r => bits r.word f.hi f.lo
  | none => resetOf f i

/-! ## This BX64 in the tree (R377, R392, R401 to R403) -/

/-- The aggregator ID of this BX64. -/
def State.agg (s : State) : Nat := s.rd BX_CNP_IDENT_AGG_ID

/-- The generation in force for epoch n is one that a later generation has replaced. -/
def State.pastGen? (s : State) (n : Nat) : Option GenRec := (s.genOf n).filter (fun (g : GenRec) => g.actRoot.isSome)

/-- The tree entry of an aggregator in the live generation. -/
def State.treeOf (s : State) (a : Nat) : Option TreeEntry := s.cfg.tree.find? (fun e => e.agg = a)

/-- This BX64 is the root or acting root. -/
def State.isRoot (s : State) : Bool := s.rd BX_CNP_FAB_STS_ROLE ≠ 0

/-- Its acting parent, none at the root and outside a tree. -/
def State.parent? (s : State) : Option Nat :=
  if s.isRoot ∨ (s.treeOf s.agg).isNone then none else some (s.rd BX_CNP_FAB_STS_ACT_PARENT)

/-- An aggregator's verdict is LOST (R398). -/
def State.isLost (s : State) (a : Nat) : Bool := ((s.cnp.peers.find? a).map (·.lost)).getD false

/-- An aggregator is parent of no other: lost, or returned in this generation (R403). -/
def State.noParent (s : State) (a : Nat) : Bool := s.isLost a || s.cnp.returned.contains a

/-- The tree's root in the live generation. -/
def State.treeRoot? (s : State) : Option Nat := (s.cfg.tree.find? (·.root)).map (·.agg)

/-- Nearest ancestor of a that is not lost, starting with its parent (R401); none when the chain ends at a lost root. -/
def nearestAncestor (s : State) : Nat → Nat → Option Nat
  | 0, _ => none
  | fuel + 1, a =>
    match s.treeOf a with
    | none => none
    | some e => if e.root then none else if s.noParent e.parent then nearestAncestor s fuel e.parent else some e.parent

/-- The acting parent of an aggregator, as R401 and R402 give it: the nearest ancestor not lost, else the acting root. -/
def State.actingParent (s : State) (a : Nat) : Nat :=
  (nearestAncestor s s.cfg.tree.length a).getD (s.rd BX_CNP_FAB_STS_ACT_ROOT)

/-- The aggregators whose acting parent is this BX64: its children and those it adopted. -/
def State.children (s : State) : List Nat :=
  (s.cfg.tree.filter (fun e => e.agg ≠ s.agg ∧ ¬ s.isLost e.agg ∧
    (if e.root then s.isRoot ∧ s.rd BX_CNP_FAB_STS_ROLE = 2 else s.actingParent e.agg = s.agg))).map (·.agg)

/-- The acting root of a replaced generation: the one it had when it was replaced, or that tree's BUDDY of the root once that one is
lost (R29, R402). -/
def State.pastRoot (s : State) (g : GenRec) : Nat :=
  let r := g.actRoot.getD 0
  if s.isLost r then ((g.cfg.tree.find? (·.root)).map (·.buddy)).getD r else r

/-- This BX64 is the root or acting root of epoch n: that of the tree of the generation in force for it (R29). -/
def State.rootOf (s : State) (n : Nat) : Bool :=
  match s.pastGen? n with
  | none => s.isRoot
  | some g => s.pastRoot g = s.agg

/-- The acting parent for epoch n, in the tree of the generation in force for it. -/
def State.parentOf (s : State) (n : Nat) : Option Nat :=
  match s.pastGen? n with
  | none => s.parent?
  | some g => if s.pastRoot g = s.agg then none else g.parent.map (fun p => if s.isLost p then s.pastRoot g else p)

/-- The children for epoch n, in the tree of the generation in force for it. -/
def State.childrenOf (s : State) (n : Nat) : List Nat :=
  match s.pastGen? n with
  | none => s.children
  | some g => g.children.filter (fun a => ¬ s.isLost a)

/-- The holder of this BX64's mirror: ACT_BUDDY. -/
def State.buddy (s : State) : Nat := s.rd BX_CNP_FAB_STS_ACT_BUDDY

/-! ## Dies -/

/-- What is held of a local die index. -/
def State.die (s : State) (d : Nat) : DieId := s.ep.dies.getD d {}

def State.setDie (s : State) (d : Nat) (x : DieId) : State := { s with ep := { s.ep with dies := s.ep.dies.set d x } }

/-- The 18-bit die address of a local die index; the self-monitoring ZX40 (index 64) writes port bits 0 (R209). -/
def State.dieAddr (s : State) (d : Nat) : Nat := s.agg * 64 + (if d < 64 then d else 0)

/-- The local die index a capsule's die-address parameter names, if it is local (R3, R209). -/
def State.localDie? (s : State) (a : Nat) : Option Nat :=
  if bits a 17 6 ≠ s.agg ∨ a ≥ 2 ^ 19 then none else if bitAt a 18 then (if bits a 5 0 = 0 then some 64 else none) else some (bits a 5 0)

/-! ## Link ends -/

/-- The number of a link end: 0 ZX40, 1 + p Stem port p (65 the self-monitoring ZX40's), 66 + q Canopy port q. -/
def LinkId.key : LinkId → Nat
  | .zx => 0
  | .stem p => 1 + p
  | .canopy q => 66 + q

/-- A link end as held. -/
def State.link (s : State) (e : LinkId) : LinkEnd := s.links.getD e.key {}

def State.setLink (s : State) (e : LinkId) (l : LinkEnd) : State := { s with links := s.links.set e.key l }

/-- A link end changed by a function. -/
def State.modLink (s : State) (e : LinkId) (f : LinkEnd → LinkEnd) : State := s.setLink e (f (s.link e))

/-- The Ringcount in ns of the part a link end belongs to. -/
def State.linkNs (s : State) (e : LinkId) : Nat := if e = .zx then s.zxNs else s.bxNs

/-- A Canopy port's own state. -/
def State.port (s : State) (q : Nat) : CnpPort := s.cnp.ports.getD q {}

def State.setPort (s : State) (q : Nat) (p : CnpPort) : State := { s with cnp := { s.cnp with ports := s.cnp.ports.set q p } }

/-- The Canopy ports that are FORWARDING. -/
def State.fwdPorts (s : State) : List Nat := (List.range 24).filter (fun q => s.rd BX_CNP_PORT_STS_PSTATE q = 2)

/-! ## Words -/

/-- The bytes of 64-bit words, in order. -/
def wordBytes (ws : List Nat) : Bytes := ws.flatMap (leBytes 8)

end Sys2Proof.Machine
end

