-- ==== Sys2Proof/Machine/View.lean ====
section
/-! DEFINITION. Reading registers: the fields whose value lives in a store or a structure of the state are computed from it,
the others are read as held; write-only fields read 0 (R9) and reserved bits read 0 (R12). -/
namespace Sys2Proof.Machine

/-- The bits of a register that belong to a field; the others are reserved (R12). -/
def Reg.mask (r : Reg) (i : Nat) : Nat :=
  packFields ((Reg.fields r).map (fun f =>
    (f.lo, f.width, if r = .BLZ_CFG ∧ 16 ≤ i ∧ 30 ≤ f.lo ∧ f.hi ≤ 48 then 0 else f.max)))

/-- LSTATE codes (Table 5-13). -/
def LState.code : LState → Nat
  | .reset => 0 | .lock => 1 | .align => 2 | .param => 3 | .active => 4 | .downHold => 5

/-- Timebase state codes (Table 6-2). -/
def TbState.code : TbState → Nat
  | .unlocked => 0 | .settling => 1 | .locked => 2 | .holdover => 3

/-- The link end whose STM_STS has this index: 0 ZX40's, 1 + p that of Stem port p. -/
def stsLink (i : Nat) : LinkId := if i = 0 then .zx else .stem (i - 1)

/-- The timebase of a part index: 0 ZX40, 1 BX64. -/
def State.tbOf (s : State) (i : Nat) : Timebase := if i = 0 then s.zx.tb else s.bxTb

/-- R21 holds so far for the open epoch. -/
def State.zxRunning (s : State) : Bool :=
  s.zx.sched.isSome ∧ s.zx.heldAtOpen ∧ s.zx.wholeLocked ∧ s.zx.tb.isLocked

/-- A slot is named by a stage of some settings. -/
def Settings.stages (c : Settings) (slot : Nat) : Bool :=
  (List.range 8).any (fun k => c.fld BX_GRV_SEL_EN k ≠ 0 && c.fld BX_GRV_SEL_SLOT k = slot)

/-- A slot is named by a stage or by Grove-S of some settings. -/
def Settings.names (c : Settings) (slot : Nat) : Bool :=
  c.stages slot || (c.fld BX_GRV_GRS_SEL_EN 0 ≠ 0 && c.fld BX_GRV_GRS_SEL_SLOT 0 = slot)

/-- A slot is selected: the live, staged or armed generation names it. -/
def State.slotSelected (s : State) (slot : Nat) : Bool :=
  s.cfg.names slot || (match s.ep.staged with
    | none => false
    | some g => g.cfg.names slot)

/-- A stage of the live, staged or armed generation names a slot (Table 9-22). -/
def State.slotStaged (s : State) (slot : Nat) : Bool :=
  s.cfg.stages slot || (s.ep.staged.map (fun (g : Staged) => g.cfg.stages slot)).getD false

/-- A slot is pinned as a part. -/
def State.slotBound (s : State) (slot : Nat) : Bool := s.grv.pinned.any (fun x => x.1 = slot)

/-- ZX_TRC_n_STS 's fields (Table 3-6). -/
def TraceBuf.sts (b : TraceBuf) : List (Fld × Nat) :=
  [(ZX_TRC_STS_STATE, match b.state with | .idle => 0 | .armed => 1 | .post => 2 | .frozen => 3), (ZX_TRC_STS_DRAIN_ERR, b2n b.drainErr),
   (ZX_TRC_STS_EMPTY, b2n (b.recs = [])), (ZX_TRC_STS_WPTR, b.wptr), (ZX_TRC_STS_RPTR, (b.wptr + 4096 - b.recs.length % 4096) % 4096),
   (ZX_TRC_STS_POST_DONE, b.postDone), (ZX_TRC_STS_REFIRE, b.refire)]

/-- The size of an entry (R102). -/
def entrySize (nctr nstamp : Nat) : Nat := ceilDiv (4800 + 4 * nctr + 8 * nstamp) 64 * 64

def LogEntry.size (e : LogEntry) : Nat := entrySize e.ctrs.length e.stamps.length

/-- Bytes of log memory in use. -/
def logUsed (l : List LogEntry) : Nat := (l.map LogEntry.size).foldl (· + ·) 0

/-- A committed word can be popped: in a dual-clock queue from the third read-clock edge after its commit (R111, R120). -/
def Queue.visible (q : Queue) : List QSlot := if q.dual then q.words.takeWhile (fun w => decide (w.stamp + 3 ≤ q.rEdge)) else q.words

/-- A queue of BX64 that is exposed as Qk: those of ZX40 and the crossings have no register here. -/
def State.bxQueue? (s : State) (k : Nat) : Option Queue := (s.queues.find? k).filter (fun q => q.part = .bx && decide (k < 65536))

/-! Time gates (R451 to R453) -/

/-- Lines that one unit of a port can take (R452), given a window's MASK. -/
def guardNs (q mask : Nat) : Nat := if q = 24 then 328 else if bitAt mask 0 then 29 else 11

/-- Window w of port q is closed, or in guard, at integer ns t. -/
def State.winShut (s : State) (q w t : Nat) : Bool :=
  let i := q * 4 + w
  let period := s.rd BX_EGS_GATE_TIME_PERIOD_NS i
  let phase := s.rd BX_EGS_GATE_TIME_PHASE_NS i
  let r := (t + period - phase % period) % period
  s.egs.stuck.contains q || (s.flag BX_EGS_GATE_SPAN_EN i && decide (0 < period) &&
    (decide (r < s.rd BX_EGS_GATE_SPAN_WIDTH_NS i) || decide (period ≤ r + guardNs q (s.rd BX_EGS_GATE_SPAN_MASK i))))

/-- A unit of a class (VC, or bit 0 at port 24) is held by a window of its port now. A port whose windows are held closed by a failed
comparator keeps the alarm path open. -/
def State.gateHeld (s : State) (q cls : Nat) : Bool :=
  (List.range 4).any (fun w => bitAt (s.rd BX_EGS_GATE_SPAN_MASK (q * 4 + w)) cls && s.winShut q w s.bxNs &&
    !(s.egs.stuck.contains q && cls = 0 && decide (q < 24)))

/-! Units of the replay engine (R313, R337) -/

/-- Engine e (0 to 255) is in service: it, its core and its cluster are. -/
def State.engineIn (s : State) (e : Nat) : Bool :=
  !(s.rpl.retired.contains (0, e) || s.rpl.retired.contains (1, e / 8) || s.rpl.retired.contains (2, e / 64))

def State.coreIn (s : State) (c : Nat) : Bool := !(s.rpl.retired.contains (1, c) || s.rpl.retired.contains (2, c / 8))

/-- Context k is in service: one of its 16 engines is. -/
def State.ctxIn (s : State) (k : Nat) : Bool := (List.range 16).any (fun i => s.engineIn (16 * k + i))

/-- A word whose bit i is set where p i holds. -/
def maskOf (n : Nat) (p : Nat → Bool) : Nat := (List.range n).foldl (fun a i => if p i then a + 2 ^ i else a) 0

/-- The least of some numbers, 0 where there is none. -/
def minOf : List Nat → Nat
  | [] => 0
  | e :: t => t.foldl min e

/-- The fields of a register that are computed from the state, with their values. -/
def State.live (s : State) (r : Reg) (i : Nat) : List (Fld × Nat) :=
  match r with
  | .STM_STS =>
    let l := s.link (stsLink i)
    [(STM_STS_LSTATE, l.lstate.code), (STM_STS_LANE_MAP, l.laneMap), (STM_STS_LOCK, l.lock), (STM_STS_TX_NXT, l.nxt),
     (STM_STS_TX_UNA, l.una), (STM_STS_RX_NEXT, l.next), (STM_STS_ATTEMPTS, min 15 l.attempts),
     (STM_STS_REPLAY_OCC, l.replay.length)]
  | .BX_CNP_PORT_STS =>
    let l := s.link (.canopy i)
    [(BX_CNP_PORT_STS_LSTATE, l.lstate.code), (BX_CNP_PORT_STS_LANE_MAP, l.laneMap),
     (BX_CNP_PORT_STS_ATTEMPTS, min 15 l.attempts), (BX_CNP_PORT_STS_REPLAY_OCC, l.replay.length)]
  | .BX_CNP_PORT_SEQ =>
    let l := s.link (.canopy i)
    [(BX_CNP_PORT_SEQ_TX_NXT, l.nxt), (BX_CNP_PORT_SEQ_TX_UNA, l.una), (BX_CNP_PORT_SEQ_RX_NEXT, l.next)]
  | .BX_EPC_SCHED_ANCHOR => [(BX_EPC_SCHED_ANCHOR_ANCHOR_NS, (s.sched?.map (·.a)).getD 0)]
  | .BX_EPC_SCHED_CFG =>
    [(BX_EPC_SCHED_CFG_LEN_K, (s.sched?.map (·.k)).getD 3), (BX_EPC_SCHED_CFG_ANCHOR_EPOCH, (s.sched?.map (·.nA)).getD 0)]
  | .BX_EPC_STATE => [(BX_EPC_STATE_RUNNING, b2n s.running)]
  | .BX_EPC_CURRENT => [(BX_EPC_CURRENT_EPOCH, s.bxEpoch)]
  | .BX_CFG_GEN =>
    [(BX_CFG_GEN_ARMED, b2n (s.ep.staged.bind (·.armed)).isSome), (BX_CFG_GEN_STAGED, b2n s.ep.staged.isSome),
     (BX_CFG_GEN_STAGED_GEN, (s.ep.staged.map (·.gen)).getD 0), (BX_CFG_GEN_LIVE_GEN, s.liveGen)]
  | .BX_CFG_APPLY => [(BX_CFG_APPLY_APPLY_NS, ((s.ep.staged.bind (·.armed)).map (·.1)).getD 0)]
  | .ZX_EPC_STATE => [(ZX_EPC_STATE_RUNNING, b2n s.zxRunning), (ZX_EPC_STATE_EPOCH, s.zxEpoch)]
  | .TB_NOW_NS => [(TB_NOW_NS_RC_NS, (s.tbOf i).ns)]
  | .BX_TB_TOD => [(BX_TB_TOD_TOD_VALID, b2n s.pps.tod.isSome), (BX_TB_TOD_CARD_HOLDOVER, b2n s.pps.cardHoldover)]
  | .TB_STS =>
    let t := s.tbOf i
    [(TB_STS_STATE, t.state.code), (TB_STS_STEP_USED, b2n t.stepUsed), (TB_STS_RESYNC_GRANT, b2n t.grant.isSome),
     (TB_STS_SRC_OK, b2n t.srcOk)]
  | .TB_INC => [(TB_INC_INC, (s.tbOf i).inc)]
  | .BX_RED_STS =>
    [(BX_RED_STS_CTX_USED, s.red.ctxs.length),
     (BX_RED_STS_OLDEST_CTX, minOf (s.red.ctxs.map (·.epoch)))]
  | .BX_RED_LOG =>
    [(BX_RED_LOG_VALID, b2n (s.red.log ≠ [])),
     (BX_RED_LOG_OLDEST, minOf (s.red.log.map (·.epoch)))]
  | .BX_CNP_FAB_STS => [(BX_CNP_FAB_STS_REACHABLE, min 2047 s.cnp.routes.length)]
  | .BX_WDN_QP_STS =>
    [(BX_WDN_QP_STS_IN_PROG,
      (s.wdn.prog.filter (fun g => g.cap.path = 0 ∧ g.cap.fn = i / 4 ∧ g.cap.qp = i % 4)).length)]
  | .BX_WDN_EV_STS => [(BX_WDN_EV_STS_HELD, ((s.wdn.rings.find? i).map (fun e => e.hold.length)).getD 0)]
  | .BX_COR_GRP_CFG =>
    match s.cfg.groups.find? (fun g => g.home = s.agg ∧ g.num = i) with
    | none => []
    | some g => [(BX_COR_GRP_CFG_EN, 1), (BX_COR_GRP_CFG_LINE, g.line), (BX_COR_GRP_CFG_ALPHA_SHIFT, g.alphaShift),
        (BX_COR_GRP_CFG_LAG_HOLD, max 1 g.lagHold), (BX_COR_GRP_CFG_LAG_THR, g.lagThr), (BX_COR_GRP_CFG_NMEMB, g.members.length)]
  | .BX_COR_GRP_TIME =>
    match s.cfg.groups.find? (fun g => g.home = s.agg ∧ g.num = i) with
    | none => []
    | some g => [(BX_COR_GRP_TIME_WINDOW_NS, g.windowNs), (BX_COR_GRP_TIME_DEADLINE_NS, g.deadlineNs)]
  | .BX_GRV_SLOT_INFO =>
    let sel := [(BX_GRV_SLOT_INFO_SELECTED, b2n (s.slotStaged i)), (BX_GRV_SLOT_INFO_BOUND, b2n (s.slotBound i))]
    match s.grv.slots.find? i with
    | none => sel
    | some m =>
      let h := parseModel m.binary
      sel ++ [(BX_GRV_SLOT_INFO_VALID, 1), (BX_GRV_SLOT_INFO_FORM, h.form), (BX_GRV_SLOT_INFO_DEPTH, h.depth), (BX_GRV_SLOT_INFO_PART, h.part),
        (BX_GRV_SLOT_INFO_PART_CNT_M1, h.partCount - 1), (BX_GRV_SLOT_INFO_NTREES_M1, h.ntrees - 1), (BX_GRV_SLOT_INFO_MODEL_ID, h.modelId)]
  | .ZX_CTR_SEL => (Reg.fields .ZX_CTR_SEL).map (fun f => (f, bits (s.zx.ctrSel.getD i 0) f.hi f.lo))
  | .ZX_TRC_STS => (s.zx.trc.getD i {}).sts
  | .ZX_LOG_STS =>
    [(ZX_LOG_STS_RESENDING, b2n s.zx.pass.isSome), (ZX_LOG_STS_ENTRIES, min 511 s.zx.log.length),
     (ZX_LOG_STS_FREE_KIB, (2097152 - logUsed s.zx.log) / 1024)]
  | .ZX_LOG_OLDEST =>
    match s.zx.log.head? with
    | none => []
    | some e => [(ZX_LOG_OLDEST_VALID, 1), (ZX_LOG_OLDEST_EPOCH, e.epoch)]
  | .ZX_BLZ_STS => [(ZX_BLZ_STS_PSN_PEND, (s.zx.psnQ.map (·.length)).foldl (· + ·) 0)]
  | .ZX_BLZ_RF =>
    match ((s.zx.blz.find? (i / 16)).bind (fun u => u.refetch.find? (i % 16))) with
    | none => []
    | some x => [(ZX_BLZ_RF_ADDR, x.addr / 256), (ZX_BLZ_RF_OUTCOME, 4), (ZX_BLZ_RF_VALID, 1), (ZX_BLZ_RF_TAG, x.tag)]
  | .BX_Q_STS =>
    match s.bxQueue? i with
    | none => []
    | some q => [(BX_Q_STS_UNDERRUN, b2n q.underrun), (BX_Q_STS_PKT_ABORT, b2n q.pktAbort), (BX_Q_STS_PARITY, b2n q.parity),
        (BX_Q_STS_DROPPING, b2n q.dropping), (BX_Q_STS_OPEN, b2n (q.open_ ≠ [])), (BX_Q_STS_PACKET, b2n q.packet), (BX_Q_STS_DUAL, b2n q.dual),
        (BX_Q_STS_CAPACITY, q.cap), (BX_Q_STS_DEPTH, q.visible.length), (BX_Q_STS_OPEN_WORDS, q.open_.length)]
  | .BX_Q_CNT =>
    match s.bxQueue? i with
    | none => []
    | some q => [(BX_Q_CNT_UNDERRUNS, q.underruns), (BX_Q_CNT_ABORTS, q.aborts), (BX_Q_CNT_CANCELS, q.cancels), (BX_Q_CNT_PARITY_ERRS, q.parityErrs)]
  | .BX_Q_DROP =>
    match s.bxQueue? i with
    | none => []
    | some q => [(BX_Q_DROP_DROPPED_WORDS, q.droppedWords), (BX_Q_DROP_OVERRUNS, q.overruns)]
  | .BX_EGS_PORT_STS =>
    let masks := (List.range 4).map (fun w => s.rd BX_EGS_GATE_SPAN_MASK (i * 4 + w))
    [(BX_EGS_PORT_STS_GUARD_NS, (masks.map (guardNs i)).foldl max 0),
     (BX_EGS_PORT_STS_CLOSED, (List.range 4).foldl (fun a w => a + (if s.winShut i w s.bxNs then 2 ^ w else 0)) 0)]
  | .BX_RPL_STS =>
    [(BX_RPL_STS_QUEUED, s.rpl.queue.length), (BX_RPL_STS_CLUSTERS, maskOf 4 (fun c => !s.rpl.retired.contains (2, c))),
     (BX_RPL_STS_ENABLED, maskOf 16 s.ctxIn),
     (BX_RPL_STS_BUSY, (List.range 16).foldl (fun a k =>
       a + (if (s.rpl.ctxs.getD k {}).run.isSome || (s.rpl.ctxs.getD k {}).other.isSome then 2 ^ k else 0)) 0)]
  | .BX_RPL_CORE_MAP => [(BX_RPL_CORE_MAP_CORES, maskOf 32 s.coreIn)]
  | .BX_RPL_ENG_MAP => [(BX_RPL_ENG_MAP_ENGINES, maskOf 64 (fun e => s.engineIn (64 * i + e)))]
  | .BX_RPL_CTX =>
    let x := s.rpl.ctxs.getD i {}
    let w := (x.run.getD { words := [], seq := 0 }).words.getD 0 0
    [(BX_RPL_CTX_STATE, match x.run with
        | none => 0
        | some j => if j.frozen then 2 else 1),
     (BX_RPL_CTX_PRIO, bits w 39 38), (BX_RPL_CTX_PARKED, b2n x.other.isSome), (BX_RPL_CTX_BANK, b2n x.bank),
     (BX_RPL_CTX_APD_SLOT, bits w 47 42), (BX_RPL_CTX_JOB_TAG, bits w 63 48),
     (BX_RPL_CTX_TILES_DONE, if x.run.isSome then Config.freeValue 32 s.fresh % 2 ^ 32 else 0)]
  | .BX_RPL_APD =>
    let used : Bool := (s.rpl.queue ++ s.rpl.back).any (fun j => bits (j.words.getD 0 0) 47 42 == i) ||
      s.rpl.ctxs.any (fun (e : Nat × RplCtx) => (e.2.run.toList ++ e.2.other.toList).any (fun j => bits (j.words.getD 0 0) 47 42 == i))
    match s.rpl.apds.find? i with
    | none => [(BX_RPL_APD_IN_USE, b2n used)]
    | some b => [(BX_RPL_APD_VALID, 1), (BX_RPL_APD_IN_USE, b2n used), (BX_RPL_APD_VER_MINOR, bits (rdLe b 0 8) 23 16),
        (BX_RPL_APD_APD_REV, bits (rdLe b 8 8) 31 16), (BX_RPL_APD_APD_ID, bits (rdLe b 8 8) 63 32)]
  | .BX_CMT_STS =>
    [(BX_CMT_STS_JOBS, s.gate.jobs.length), (BX_CMT_STS_PENDING, s.gate.steps.length),
     (BX_CMT_STS_REPLAY_JOBS, (s.rpl.queue.filter (fun j => j.gate.isSome)).length +
       ((s.rpl.ctxs.flatMap (fun (e : Nat × RplCtx) => e.2.run.toList ++ e.2.other.toList)).filter (fun j => j.gate.isSome)).length)]
  | .BX_CMT_TEN_POLICY =>
    [(BX_CMT_TEN_POLICY_ON_UNCHECKED, if s.flag BX_CMT_TEN_POLICY_HOLD_EXTERNAL i then 1 else s.rd BX_CMT_TEN_POLICY_ON_UNCHECKED i)]
  | .BX_HW_STS => [(BX_HW_STS_MAIN_HELD, s.tap.main.length), (BX_HW_STS_PROT_HELD, s.tap.prot.length)]
  | .BX_WDN_BOOT_RPL => if s.rd BX_WDN_FW_STS_STATE = 3 then [] else [(BX_WDN_BOOT_RPL_RPL, 0)]
  | .BX_WDN_BOOT_STS =>
    if s.rd BX_WDN_FW_STS_STATE = 3 then [(BX_WDN_BOOT_STS_RECOVERY, 1)]
    else [(BX_WDN_BOOT_STS_BUSY, 0), (BX_WDN_BOOT_STS_DONE, 0), (BX_WDN_BOOT_STS_RECOVERY, 0)]
  | _ => []

/-- Registers of BX64 that a generation sets (R41): those marked staged in chapters 8, 9 and 10. -/
def stagedBx : List Reg :=
  [.BX_RED_SLOT, .BX_RED_SLOT_HLO, .BX_FB_MAP, .BX_GRV_SEL, .BX_GRV_SEL_DIG, .BX_GRV_GRS_DIG, .BX_GRV_THR, .BX_GRV_AMASK, .BX_GRV_GRS_SEL,
   .BX_COR_HEALTH, .BX_COR_HEALTH_THR, .BX_COR_BAND, .BX_COR_LOAD, .BX_COR_DRIFT, .BX_COR_ACT, .BX_LKO_CFG]

/-- Fields of which a write of 0 stores 1. -/
def zeroStoresOne : List Fld :=
  [ZX_CTRL_STOP_TICKS, TB_SERVO_LOCK_NS, ZX_BLZ_CTRL_REFETCH_US, BX_GRV_SPLIT_WAIT_US, BX_GRV_GRS_CHK_EVERY, BX_COR_CTRL_DEFER_MS,
    BX_COR_CTRL_POP_MIN, BX_RPL_CTRL_KAT_PERIOD_MS, BX_CMT_CTRL_GATE_WAIT_MS, BX_CMT_CTRL_OPERAND_WAIT_MS, BX_CNP_CTRL_HB_US, BX_CNP_CTRL_REPEAT_US,
    BX_CNP_CTRL_LSA_REFRESH_MS, BX_MEM_ECC_SCRUB_H, BX_TRS_CTRL_FLUSH_US, BX_WDN_CTRL_EXEC_MS, BX_WDN_CTRL_RELAY_MS, BX_SAF_CTRL_LT_PERIOD_MS,
    BX_COR_HEALTH_HEALTH_HOLD, BX_COR_BAND_T_STEP, BX_LKO_CFG_SUSPECT_AT, BX_LKO_CFG_PROBE_US, BX_LKO_CFG_PROBE_TRIES]

/-- Fields of which a write below a floor stores the floor. -/
def storeFloor : List (Fld × Nat) :=
  [(BX_EPC_CTRL_MIN_LEAD, 4), (BX_TB_SRC_SYNC_PERIOD_US, 16), (BX_CMT_CTRL_MIG_LEAD, 2), (BX_TAP_CTRL_WDOG_US, 100), (BX_WDN_QP_CFG_SQ_LOG2, 4),
    (BX_WDN_QP_CFG_CQ_LOG2, 4), (BX_WDN_EV_CFG_LOG2, 6), (BX_CMT_TEN_POLICY_LEDGER_LOG2, 10)]

/-- Fields of which a write above a ceiling stores the ceiling. -/
def storeCeil : List (Fld × Nat) :=
  [(ZX_TRC_DBASE_SIZE, 18), (BX_WDN_QP_CFG_SQ_LOG2, 12), (BX_WDN_QP_CFG_CQ_LOG2, 12), (BX_WDN_EV_CFG_LOG2, 16), (BX_CMT_TEN_POLICY_LEDGER_LOG2, 24),
    (BX_CMT_TEN_POLICY_SAMPLE_PPM, 1000000), (BX_PWR_LIMIT_LIMIT_W, 450)]

/-- Fields of which the values from a limit on store 0. -/
def storeNone : List (Fld × Nat) := [(ZX_TRC_CFG_MODE, 3), (ZX_TRC_CFG_TRIG_SRC, 6), (BX_TB_SRC_MODE, 3), (BX_TAP_CTRL_AUTO_RESET, 3)]

/-- The value a field stores for a value written, by the Description column of its table. -/
def storedValue (f : Fld) (v : Nat) : Nat :=
  let lim (l : List (Fld × Nat)) : Option Nat := (l.find? (fun (x : Fld × Nat) => x.1 = f)).map (·.2)
  let v := if f ∈ zeroStoresOne then max 1 v else v
  let v := match lim storeFloor with
    | some n => max n v
    | none => v
  let v := match lim storeCeil with
    | some n => min n v
    | none => v
  match lim storeNone with
  | some n => if n ≤ v then 0 else v
  | none => v

/-- A staged register as it is stored (Table 10-14 to Table 10-20): DEAD_AT not above SUSPECT_AT stores SUSPECT_AT + 1. -/
def StagedReg.stored (r : StagedReg) : StagedReg :=
  let val (f : Fld) : Nat := storedValue f (bits r.word f.hi f.lo)
  let dead (f : Fld) : Nat := if f = BX_LKO_CFG_DEAD_AT ∧ val f ≤ val BX_LKO_CFG_SUSPECT_AT then val BX_LKO_CFG_SUSPECT_AT + 1 else val f
  { r with word := packFields ((Reg.fields r.reg).map (fun f => (f.lo, f.width, dead f))) }

/-- The value of a staged field in force: what the generation sets, else what the register holds (thresholds and alarm masks are set
at the load of a model unless the generation stages them, Table 9-21). -/
def State.stagedFld (s : State) (f : Fld) (i : Nat) : Nat :=
  match s.cfg.regs.find? (fun r => r.reg = f.reg ∧ r.idx = i) with
  | some r => bits r.word f.hi f.lo
  | none => s.rd f i

/-- The value of a field as a read returns it. -/
def State.fld (s : State) (f : Fld) (i : Nat := 0) : Nat :=
  if f.reg ∈ stagedBx ∨ f = BX_FB_CTRL_NFEAT then s.stagedFld f i
  else
    match (s.live f.reg i).find? (fun x => x.1 = f) with
    | some x => x.2
    | none => s.rd f i

/-- What a read of a register changes: TB_NOW_NS latches TB_NOW_FRAC from the same tick (R181). -/
def State.readEffect (s : State) (r : Reg) (i : Nat) : State :=
  if r = .TB_NOW_NS then s.wr TB_NOW_FRAC_RC_FRAC i (stampFrac (s.tbOf i).rc) else s

/-- The word of a register as a read returns it (R9, R12). -/
def State.readReg (s : State) (r : Reg) (i : Nat := 0) : Nat :=
  packFields ((Reg.fields r).map (fun f => (f.lo, f.width, if f.acc = .wo then 0 else s.fld f i)))

/-! ## The registers BX64 has -/

/-- Registers of which BX64 has several, or whose BX64 instances do not begin at index 0: first index and number (captions of the register
tables). -/
def bxCounts : List (Reg × Nat × Nat) :=
  ([(.STM_STS, 1, 65), (.PORT_ERRS, 0, 88), (.BX_STM_PORT_MISC, 0, 65), (.BX_STM_PORT_CTRL, 0, 65), (.TB_NOW_NS, 1, 1), (.TB_NOW_FRAC, 1, 1),
    (.TB_STS, 1, 1), (.TB_OFFSET, 1, 1), (.TB_INC, 1, 1), (.TB_SERVO, 1, 1), (.BLZ_CFG, 16, 32), (.BLZ_POLY, 16, 32), (.BLZ_XOROUT, 16, 32),
    (.BLZ_CNT0, 16, 32), (.BLZ_CNT1, 16, 32), (.BLZ_LAST, 16, 32), (.BX_RED_SLOT, 0, 4096), (.BX_RED_SLOT_HLO, 0, 4096),
    (.BX_FB_MAP, 0, 4096), (.BX_GRV_SEL, 0, 8), (.BX_GRV_SEL_DIG, 0, 32), (.BX_GRV_GRS_DIG, 0, 4), (.BX_GRV_THR, 0, 16), (.BX_GRV_AMASK, 0, 64),
    (.BX_GRV_SLOT_INFO, 0, 16), (.BX_COR_GRP_CFG, 0, 256), (.BX_COR_GRP_TIME, 0, 256), (.BX_COR_LOAD, 0, 5), (.BX_COR_DRIFT, 0, 16),
    (.BX_COR_DIE_MARK, 0, 65), (.BX_LKO_DIE, 0, 65), (.BX_RPL_ENG_MAP, 0, 4), (.BX_RPL_CTX, 0, 16), (.BX_RPL_APD, 0, 64)] : List (Reg × Nat × Nat)) ++
  ([(.BX_CMT_TEN_POLICY, 0, 64), (.BX_CMT_TEN_SEED, 0, 64), (.BX_CMT_LEDGER, 0, 64), (.BX_CNP_PORT_STS, 0, 24), (.BX_CNP_PORT_SEQ, 0, 24),
    (.BX_CNP_PORT_MISC, 0, 24), (.BX_CNP_PORT_CTRL, 0, 24), (.BX_MEM_REGION, 0, 6), (.BX_MEM_PART, 0, 64), (.BX_XLT_SPACE, 0, 65),
    (.BX_DMA_CH_CFG, 0, 128), (.BX_DMA_CH_RING, 0, 128), (.BX_DMA_CH_DB, 0, 128), (.BX_DMA_CH_STS, 0, 128), (.BX_TRS_DIE_CFG, 0, 65),
    (.BX_TRS_GAUGE_BND, 0, 2), (.BX_EGS_SUB_CFG, 0, 1600), (.BX_EGS_SUB_BURST, 0, 1600), (.BX_EGS_SUB_LVL, 0, 1600), (.BX_EGS_SVC_CFG, 0, 200),
    (.BX_EGS_SVC_LVL, 0, 200), (.BX_EGS_SVC_TAG, 0, 200), (.BX_EGS_GATE_TIME, 0, 100), (.BX_EGS_GATE_SPAN, 0, 100), (.BX_EGS_PORT_STS, 0, 25),
    (.BX_EGS_PORT_VT, 0, 25), (.BX_EGS_PORT_CNT, 0, 25), (.BX_WDN_BOOT_CAP, 0, 8), (.BX_WDN_BOOT_RPL, 0, 8), (.BX_WDN_QP_SQB, 0, 256),
    (.BX_WDN_QP_CQB, 0, 256), (.BX_WDN_QP_CFG, 0, 256), (.BX_WDN_QP_DB, 0, 256), (.BX_WDN_QP_STS, 0, 256), (.BX_WDN_EVB, 0, 64),
    (.BX_WDN_EV_CFG, 0, 64), (.BX_WDN_EV_DB, 0, 64), (.BX_WDN_EV_STS, 0, 64), (.BX_SAF_DIE, 0, 65), (.BX_HW_SNAP, 0, 64), (.BX_WT_INJ, 0, 16384),
    (.BX_LC_DIE, 0, 65), (.BX_Q_STS, 0, 16384), (.BX_Q_CNT, 0, 16384), (.BX_Q_DROP, 0, 16384)] : List (Reg × Nat × Nat))

/-- First index and number of BX64's instances of a register. -/
def bxRange (r : Reg) : Nat × Nat :=
  match bxCounts.find? (fun (e : Reg × Nat × Nat) => e.1 = r) with
  | some e => e.2
  | none => if r ∈ zx40Regs then (0, 0) else (0, 1)

/-- BX64 has this instance of a register. -/
def bxHas (r : Reg) (i : Nat) : Bool := decide ((bxRange r).1 ≤ i ∧ i < (bxRange r).1 + (bxRange r).2)

end Sys2Proof.Machine
end

