-- ==== Sys2Proof/Machine/Heartwood.lean ====
section
/-! DEFINITION. Heartwood (R501 to R506): signalling an event, writing a record, the bytes of a record. Used by every chapter
that records an event. -/
namespace Sys2Proof.Machine

/-- The class of a record type (R502). -/
def hwClass (ty : Nat) : Nat := bits ty 15 8

/-- The register a snapshot slot names, by the model's numbering (log entry 6). -/
def snapReg? (off : Nat) : Option (Reg × Nat) :=
  ((allRegs.find? (fun r => r.ctorIdx = off / 16384)).map (fun r => (r, off % 16384))).bind (fun x => if bxHas x.1 x.2 then some x else none)

/-- Registers that BX64 has per port, channel, die, context or unit (R503). -/
def perIndexReg (r : Reg) : Bool :=
  r ∈ [Reg.STM_STS, .PORT_ERRS, .BX_STM_PORT_MISC, .BX_STM_PORT_CTRL, .BX_CNP_PORT_STS, .BX_CNP_PORT_SEQ, .BX_CNP_PORT_MISC, .BX_CNP_PORT_CTRL,
    .BX_LKO_DIE, .BX_COR_DIE_MARK, .BX_SAF_DIE, .BX_LC_DIE, .BX_TRS_DIE_CFG, .BX_RPL_CTX, .BLZ_CFG, .BLZ_POLY, .BLZ_XOROUT, .BLZ_CNT0, .BLZ_CNT1,
    .BLZ_LAST, .BX_DMA_CH_CFG, .BX_DMA_CH_RING, .BX_DMA_CH_DB, .BX_DMA_CH_STS, .BX_EGS_PORT_STS, .BX_EGS_PORT_VT, .BX_EGS_PORT_CNT]

/-- The slot names instance 0 of such a register. -/
def namesZero (r : Reg) (i : Nat) : Bool := perIndexReg r && (decide (i = (bxRange r).1) || (decide (r = .PORT_ERRS) && decide (i = 64)))

/-- The snapshot words of a class at this moment (R503): per slot whether it was read, and the value. A register that BX64 does not have at
the source index does not answer. -/
def State.snaps (s : State) (cls idx : Nat) : List (Bool × Nat) :=
  (List.range 8).map (fun j =>
    if s.flag BX_HW_SNAP_EN (cls * 8 + j) then
      match snapReg? (s.rd BX_HW_SNAP_OFFSET (cls * 8 + j)) with
      | none => (false, 0)
      | some r =>
        let i := if 4 ≤ cls ∧ namesZero r.1 r.2 then r.2 + idx else if r.1 = .BX_WT_INJ then idx else r.2
        if r.1 = .BX_WT_INJ ∨ bxHas r.1 i then (true, s.readReg r.1 i) else (false, 0)
    else (false, 0))

/-- Taproot writes a record: SEQ, ring, the oldest overwritten when the ring is full (R505). -/
def State.hwWrite (s : State) (r : HwRec) : State :=
  let r := { r with seq := s.rd BX_HW_STS_NEXT_SEQ }
  let s := s.wr BX_HW_STS_NEXT_SEQ 0 (r.seq + 1)
  if hwClass r.ty = 1 then
    let s := if 64 ≤ s.tap.prot.length then s.bump BX_HW_CNT_OVERWRITTEN else s
    { s with tap := { s.tap with prot := s.tap.prot.drop (s.tap.prot.length - 63) ++ [r] } }
  else
    let s := if 4032 ≤ s.tap.main.length then s.bump BX_HW_CNT_OVERWRITTEN else s
    { s with tap := { s.tap with main := s.tap.main.drop (s.tap.main.length - 4031) ++ [r] } }

/-- Ringcount as Taproot holds it (R487): its copy, run on by its own oscillator while the timebase does not answer. -/
def State.tapNs (s : State) : Nat := if s.flag BX_TAP_STS_TB_LOST then s.tap.copy else s.bxNs

/-- The same in 2^-16 ns. -/
def State.tapRc (s : State) : Nat := if s.flag BX_TAP_STS_TB_LOST then s.tap.copy * 65536 else s.bxRc

/-- A record completed with what is fixed when its event is signalled (R501, R503). -/
def State.hwForm (s : State) (r : HwRec) : HwRec :=
  { r with
    stamp := if r.stamp = 0 then s.tapRc else r.stamp
    boot := s.rd BX_CNP_IDENT_BOOT
    epoch := s.bxEpoch
    lc := s.rd BX_LC_STS_STATE
    snaps := if r.snaps = [] then s.snaps (hwClass r.ty) r.idx else r.snaps }

/-- The same event of classes 4 to 7 has been recorded in this epoch (R504). -/
def State.hwSuppressed (s : State) (r : HwRec) : Bool :=
  4 ≤ hwClass r.ty ∧ s.tap.supEpoch = s.bxEpoch ∧ (r.ty, r.source, r.idx) ∈ s.tap.sup

/-- An event is signalled (R504): Taproot forms classes 0 and 1 itself, the others wait in the request queue of 64. -/
def State.signal (s : State) (r : HwRec) : State :=
  let r := s.hwForm r
  if hwClass r.ty ≤ 1 then s.hwWrite r
  else if s.hwSuppressed r then s.bump BX_HW_CNT_SUPPRESSED
  else
    let s := if 4 ≤ hwClass r.ty then
        { s with tap := { s.tap with
            supEpoch := s.bxEpoch
            sup := (if s.tap.supEpoch = s.bxEpoch then s.tap.sup else []) ++ [(r.ty, r.source, r.idx)] } }
      else s
    if 64 ≤ s.tap.reqs.length then s.bump BX_HW_CNT_LOST
    else { s with tap := { s.tap with reqs := s.tap.reqs ++ [r] } }

/-- A VIOLATION record (Table 17-9): partner code of Table 17-13 and row of that partner's table. -/
def State.violation (s : State) (partner row source idx : Nat) : State :=
  s.signal { ty := 0x0401, source := source, idx := idx, detail := partner * 4096 + row }

/-- The bytes of a record (Table 17-8). -/
def HwRec.bytes (r : HwRec) : Bytes :=
  let w0 := packFields [(32, 32, r.seq), (16, 16, r.ty), (8, 8, r.source), (7, 1, b2n r.inj), (6, 1, b2n (hwClass r.ty = 1)), (0, 1, 1)]
  let w2 := packFields [(48, 16, stampFrac r.stamp), (16, 32, r.boot), (0, 1, b2n r.self)]
  let w3 := packFields [(16, 48, r.epoch), (13, 3, r.lc)]
  let w4 := packFields [(46, 18, r.die), (30, 16, r.inc), (0, 30, r.detail)]
  let sn := (List.range 8).map (fun j => (r.snaps.getD j (false, 0)))
  let w14 := packFields [(56, 8, hwClass r.ty),
    (48, 8, (List.range 8).foldl (fun a j => a + (if (sn.getD j (false, 0)).1 then 2 ^ j else 0)) 0)]
  let body := wordBytes ([w0, stampNs r.stamp, w2, w3, w4, r.extra] ++ sn.map (fun x => if x.1 then x.2 else 0) ++ [w14])
  body ++ leBytes 8 (crc32c body <<< 32)

end Sys2Proof.Machine
end

