-- ==== Sys2Proof/Machine/Events.lean ====
section
/-! DEFINITION. Event rings (R470, R471): posting an event, the hold queue, losses and the OVERFLOW event. -/
namespace Sys2Proof.Machine

/-- A function's event ring beside its registers. -/
def State.ring (s : State) (f : Nat) : EvRing := s.wdn.rings.getD f {}

def State.setRing (s : State) (f : Nat) (r : EvRing) : State := { s with wdn := { s.wdn with rings := s.wdn.rings.set f r } }

/-- The number of entries of a function's ring. -/
def State.ringSize (s : State) (f : Nat) : Nat := 2 ^ s.rd BX_WDN_EV_CFG_LOG2 f

/-- A ring takes an event now: it is not full under the rule of R465, and the Warden is not restarting (R479). -/
def State.ringRoom (s : State) (f : Nat) : Bool :=
  ((s.ring f).tail + 1) % s.ringSize f ≠ s.rd BX_WDN_EV_DB_HEAD f ∧ ¬ s.wdn.fw.restartDue

/-- The 64 bytes of an event ring entry (Table 16-9). -/
def eventEntry (ev : Event) (phase : Bool) : Bytes :=
  leBytes 8 (packFields [(56, 8, ev.kind), (48, 8, ev.body.length), (16, 32, ev.seq), (0, 1, b2n phase)]) ++ padTo 56 ev.body

/-- Writes an event into the ring and signals its vector (vector 4, Table 16-8). -/
def State.ringPut (s : State) (f : Nat) (ev : Event) : State :=
  let r := s.ring f
  let s := s.emit (.hostWrite f (s.rd BX_WDN_EVB_BASE f * 64 + 64 * r.tail) (eventEntry ev r.phase))
  let s := s.emit (.msix f 4)
  let t := (r.tail + 1) % s.ringSize f
  s.setRing f { r with tail := t, phase := if t = 0 then !r.phase else r.phase }

/-- The next EV_SEQ of a ring, taken. -/
def State.takeEvSeq (s : State) (f : Nat) : State := s.wr BX_WDN_EV_STS_EV_SEQ f (s.rd BX_WDN_EV_STS_EV_SEQ f + 1)

/-- An event enters a ring: the ring when nothing waits and it has room, else the hold queue, else it is lost and counted. -/
def State.enterRing (s : State) (f kind : Nat) (body : Bytes) : State :=
  let q := s.rd BX_WDN_EV_STS_EV_SEQ f
  let ev : Event := { kind := kind, body := body, seq := q }
  let s := s.takeEvSeq f
  let r := s.ring f
  if r.hold = [] ∧ s.ringRoom f then s.ringPut f ev
  else if r.hold.length < 1024 then s.setRing f { r with hold := r.hold ++ [ev] }
  else (s.setRing f { r with lost := some (match r.lost with | none => (q, 1) | some l => (l.1, l.2 + 1)) }).bump BX_WDN_EV_STS_LOST f

/-- The OVERFLOW event due, once there is room for it (R471). -/
def State.overflowIfDue (s : State) (f : Nat) : State :=
  let r := s.ring f
  match r.lost with
  | none => s
  | some l =>
    if (r.hold = [] ∧ s.ringRoom f) ∨ r.hold.length < 1024 then
      (s.setRing f { r with lost := none }).enterRing f 0x30 (leBytes 8 (l.2 % 2 ^ 32 * 2 ^ 32 + l.1))
    else s

/-- An event is posted to function f's ring; a ring that is not enabled takes none (log entry 8). -/
def State.post (s : State) (f kind : Nat) (body : Bytes) : State :=
  if s.flag BX_WDN_EV_CFG_EN f then (s.overflowIfDue f).enterRing f kind body else s

/-- Held events move into the ring while it has room. -/
def drainRing (f : Nat) : Nat → State → State
  | 0, s => s
  | k + 1, s =>
    match (s.ring f).hold with
    | [] => s
    | ev :: t => if s.ringRoom f then drainRing f k ((s.setRing f { s.ring f with hold := t }).ringPut f ev) else s

/-- Room has returned: held events first, then the OVERFLOW event. -/
def State.ringService (s : State) (f : Nat) : State := (drainRing f (s.ring f).hold.length s).overflowIfDue f

/-- The event is posted to every enabled ring. -/
def State.postAll (s : State) (kind : Nat) (body : Bytes) : State :=
  (List.range 64).foldl (fun s f => s.post f kind body) s

end Sys2Proof.Machine
end

