-- ==== Sys2Proof/Machine/Lanes.lean ====
section
/-! DEFINITION. The lanes of a link (R129 to R131, R374, Table 13-1): scrambler, mapping of flits to lane words, marker words and their slots. -/
namespace Sys2Proof.Machine

/-- A link end is Canopy's. -/
def LinkId.isCanopy : LinkId → Bool
  | .canopy _ => true
  | _ => false

/-- The self-monitoring ZX40's link has no lanes at either end (R137): BX64's is port 64, and ZX40's is such where ZX_BUILD.SELFMON says
that this ZX40 is the instance inside BX64 (R2). -/
def State.noLanes (s : State) (e : LinkId) : Bool := e == .stem 64 || (e == .zx && s.flag ZX_BUILD_SELFMON)

/-! ## The scrambler (R129) -/

/-- One 64-bit lane word through the self-synchronous scrambler x^58 + x^39 + 1, bit 0 first. h holds the last 58 scrambled bits of the lane, the
newest in bit 57. -/
def scramble64 (h w : Nat) : Nat :=
  let lo := (w ^^^ h ^^^ (h >>> 19)) % 2 ^ 39
  let t := h + lo * 2 ^ 58
  lo + (w ^^^ t ^^^ (t >>> 19)) % 2 ^ 64 / 2 ^ 39 * 2 ^ 39

/-- The word that a scrambled word carries. -/
def descramble64 (h v : Nat) : Nat :=
  let t := h + v * 2 ^ 58
  (v ^^^ t ^^^ (t >>> 19)) % 2 ^ 64

/-- A lane word of n times 64 bits, low bits first, with the lane's state after it. -/
def scrambleWord : Nat → Nat → Nat → Nat × Nat
  | 0, h, _ => (0, h)
  | n + 1, h, w =>
    let v := scramble64 h (w % 2 ^ 64)
    let r := scrambleWord n (v / 64) (w / 2 ^ 64)
    (v + r.1 * 2 ^ 64, r.2)

def descrambleWord : Nat → Nat → Nat → Nat × Nat
  | 0, h, _ => (0, h)
  | n + 1, h, v =>
    let r := descrambleWord n (v % 2 ^ 64 / 64) (v / 2 ^ 64)
    (descramble64 h (v % 2 ^ 64) + r.1 * 2 ^ 64, r.2)

/-- Lane words in the order of the word cycles, lane 0 first in each, through a step of each lane's own state. -/
def overLanes (f : Nat → Nat → Nat × Nat) : List Nat → List Nat → List Nat × List Nat
  | hs, [] => ([], hs)
  | [], w :: ws => (w :: ws, [])
  | h :: hs, w :: ws =>
    let r := f h w
    let t := overLanes f (hs ++ [r.2]) ws
    (r.1 :: t.1, t.2)

/-! ## Lane words (R130, Table 13-1) -/

/-- 64-bit halves of a lane word: 64 bits on Stem, 128 on Canopy. -/
def LinkId.halves (e : LinkId) : Nat := if e.isCanopy then 2 else 1

/-- The words of a flit in the order in which they leave: word w on lane w mod 4 in word cycle w / 4; 256-bit words where there are no lanes (R137). -/
def flitWords (wide : Bool) (e : LinkId) (bs : Bytes) : List Nat := (chunks (if wide then 32 else 8 * e.halves) bs).map leNat

/-- The physical lane on which logical lane n arrives (LANE_MAP). -/
def physLane (laneMap n : Nat) : Nat := ((List.range 4).find? (fun p => laneMap / 4 ^ p % 4 == n)).getD 0

/-- The four lane words of a word cycle as logical lanes. -/
def toLogical (laneMap : Nat) (ws : List Nat) : List Nat := (List.range 4).map (fun n => ws.getD (physLane laneMap n) 0)

/-! ## Markers (R131, Table 5-1) -/

/-- MPAT. -/
def LinkId.mpat (e : LinkId) : Nat := if e.isCanopy then 0xC47A93 else 0x4BD21E

/-- TSTATE of a state that sends markers. -/
def LState.tstate : LState → Nat
  | .align => 1
  | .param => 2
  | .active => 3
  | _ => 0

/-- INFO of a lane in PARAM: identity on lane 0, RX_NEXT on lane 1, the inverse of lane 0 on lane 3. -/
def State.markerInfo (s : State) (e : LinkId) (lane : Nat) : Nat :=
  let id := match e with
    | .zx => s.readReg .ZX_ID
    | .stem _ => 0x64010000
    | .canopy _ => s.rd BX_CNP_IDENT_FLEET_ID * 65536 + s.agg * 16
  match lane with
  | 0 => id
  | 1 => if e.isCanopy then (s.link e).next * 65536 else (s.link e).next * 2 ^ 20
  | 3 => 0xFFFFFFFF - id
  | _ => 0

/-- The marker word a link end sends on a lane now; bits [127:64] of a Canopy marker are 0. -/
def State.markerWord (s : State) (e : LinkId) (lane : Nat) : Nat :=
  let l := s.link e
  packFields [(40, 24, e.mpat), (38, 2, lane), (35, 3, l.lstate.tstate), (34, 1, b2n l.fresh),
    (0, 32, if l.lstate = .param then s.markerInfo e lane else 0)]

/-- The markers on the four lanes, which a link end in LOCK, ALIGN or PARAM sends in every word cycle and one in ACTIVE in the marker slots. -/
def State.markers (s : State) (e : LinkId) : List Nat :=
  if s.noLanes e ∨ (s.link e).lstate = .reset ∨ (s.link e).lstate = .downHold then [] else (List.range 4).map (s.markerWord e)

/-- A received marker word is valid on a physical lane: MPAT, the lane's own number, the reserved bits 0 (DEDUCED, log entry 116). -/
def markerValid (e : LinkId) (laneMap p w : Nat) : Bool :=
  bits w 63 40 == e.mpat && bits w 39 38 == laneMap / 4 ^ p % 4 && bits w 37 35 ≤ 3 && bits w 33 32 == 0 && w / 2 ^ 64 == 0

/-- A HOLD word (R375): a marker with TSTATE ACTIVE and bit 33 set. -/
def isHold (w : Nat) : Bool := bits w 63 40 == 0xC47A93 && bits w 37 35 == 3 && bitAt w 33 && w / 2 ^ 64 == 0

/-- Word cycles between two marker slots. -/
def LinkId.slotCycles (e : LinkId) : Nat := if e.isCanopy then 16 else 32

/-- A marker slot is due. -/
def State.markerDue (s : State) (e : LinkId) : Bool := !s.noLanes e && decide (e.slotCycles ≤ (s.link e).slot)

/-- A marker slot that is due goes before the flit (R160). -/
def State.sendMarkers (s : State) (e : LinkId) : State :=
  if s.markerDue e then (s.modLink e (fun l => { l with slot := 0 })).emit (.lanes e (s.markers e)) else s

/-- A flit boundary's eight word cycles pass. -/
def State.passSlot (s : State) (e : LinkId) : State := s.modLink e (fun l => { l with slot := l.slot + 8 })

/-- A flit leaves on the lanes, after the marker slot that is due: scrambled, each lane with its own state. -/
def State.sendLanes (s : State) (e : LinkId) (bs : Bytes) : State :=
  let s := s.sendMarkers e
  let r := if s.noLanes e then (flitWords true e bs, []) else overLanes (scrambleWord e.halves) (s.link e).scr (flitWords false e bs)
  ((s.modLink e (fun l => { l with scr := if s.noLanes e then l.scr else r.2 })).passSlot e).emit (.lanes e r.1)

/-- The bytes of the flit that lane words carry: HOLD words removed, descrambled in each physical lane, put in the order of logical lanes. -/
def State.rxFlit (s : State) (e : LinkId) (ws : List Nat) : Bytes × State :=
  if s.noLanes e then (ws.flatMap (leBytes 32), s)
  else
    let l := s.link e
    let ws := if e.isCanopy then ((chunks 4 ws).filter (fun c => !c.all isHold)).flatten else ws
    let r := overLanes (descrambleWord e.halves) l.descr ws
    (((chunks 4 r.1).flatMap (toLogical l.laneMap)).flatMap (leBytes (8 * e.halves)), s.modLink e (fun l => { l with descr := r.2 }))

end Sys2Proof.Machine
end

