-- ==== Sys2Proof/Machine/Links.lean ====
section
/-! DEFINITION. What every link and message shares: flit headers and bytes (R138, R140, R376), the queues of waiting flits, Canopy
messages with their prefix, paths and end-to-end recovery (R379, R381, R386, R387, R393), alarms (R388, R497), retraining (R134). -/
namespace Sys2Proof.Machine

/-! ## Parameters of the two kinds of link (Table 13-1) -/

/-- SEQ counts modulo this. -/
def LinkId.seqMod (e : LinkId) : Nat := if e.isCanopy then 65536 else 4096

/-- The forward window of Table 5-7. -/
def LinkId.window (e : LinkId) : Nat := if e.isCanopy then 127 else 63

/-- Flits the replay buffer holds. -/
def LinkId.replayMax (e : LinkId) : Nat := if e.isCanopy then 128 else 64

/-- Payload bytes of a flit. -/
def LinkId.payMax (e : LinkId) : Nat := if e.isCanopy then 492 else 244

/-- The subsystem number of a link end (Table 8-1), 0x40 for ZX40. -/
def LinkId.source : LinkId → Nat
  | .zx => 0x40
  | .stem _ => 1
  | .canopy _ => 2

/-- The port number of a link end. -/
def LinkId.num : LinkId → Nat
  | .zx => 0
  | .stem p => p
  | .canopy q => q

/-- A flit type is sequenced (Table 5-5); reserved types are taken as sequenced (log entry 10). -/
def sequencedTy (ty : Nat) : Bool := ¬ (ty = 0 ∨ ty = 5 ∨ ty = 7 ∨ ty = 8)

/-! ## Light set and link counters -/

/-- A light-set counter raised (R69, Table 2-8: modulo 2^64), unless the light set is stopped (R70). -/
def State.ls (s : State) (k : Nat) (n : Nat := 1) : State :=
  if s.flag ZX_LS_CTRL_DIS then s else s.wr ZX_LS_VAL_VAL k (s.rd ZX_LS_VAL_VAL k + n)

/-- The PORT_ERRS index of a BX64 link end. -/
def LinkId.errs : LinkId → Nat
  | .zx => 0
  | .stem p => p
  | .canopy q => 64 + q

/-- The epoch open at the part of a link end. -/
def State.linkEpoch (s : State) (e : LinkId) : Nat := if e = .zx then s.zxEpoch else s.bxEpoch

/-- The counts of a link end that belong to one epoch start over when the epoch has changed. -/
def State.epochCounts (s : State) (e : LinkId) : State :=
  if (s.link e).violIn = s.linkEpoch e then s
  else s.modLink e (fun l => { l with violIn := s.linkEpoch e, violEpoch := 0, alarmsFwd := 0, limitLogged := false })

/-- One more event of R157 or R409 in the open epoch. -/
def State.countViol (s : State) (e : LinkId) : State :=
  (s.epochCounts e).modLink e (fun l => { l with violEpoch := l.violEpoch + 1 })

/-! ## Flits -/

/-- A flit's header, both kinds of link together; vc onward are Canopy's. -/
structure Hdr where
  ty : Nat
  seq : Nat
  ackseq : Nat
  ackv : Bool
  resent : Bool
  first : Bool
  last : Bool
  sub : Nat
  len : Nat
  part : Nat
  vc : Nat
  bcast : Bool
  hops : Nat
  src : Nat
  dst : Nat
  crvc : Nat
  crcum : Nat
  deriving DecidableEq, Repr

/-- The header word of Table 5-4. -/
def Hdr.stemWord (h : Hdr) : Nat :=
  packFields [(60, 4, h.ty), (48, 12, h.seq), (36, 12, h.ackseq), (35, 1, b2n h.ackv), (34, 1, b2n h.resent), (33, 1, b2n h.first),
    (32, 1, b2n h.last), (24, 8, h.sub), (16, 8, h.len), (0, 16, h.part)]

/-- The header of Table 13-2. -/
def Hdr.canopyWord (h : Hdr) : Nat :=
  packFields [(124, 4, h.ty), (121, 3, h.vc), (120, 1, b2n h.first), (119, 1, b2n h.last), (118, 1, b2n h.ackv), (117, 1, b2n h.bcast),
    (112, 5, h.hops), (96, 16, h.seq), (80, 16, h.ackseq), (72, 8, h.sub), (52, 12, h.src), (40, 12, h.dst), (31, 9, h.len),
    (15, 16, h.part), (12, 3, h.crvc), (0, 12, h.crcum)]

/-- The header of received bytes. -/
def parseHdr (canopy : Bool) (bs : Bytes) : Hdr :=
  if canopy then
    let w := rdLe bs 0 16
    { ty := bits w 127 124, seq := bits w 111 96, ackseq := bits w 95 80, ackv := bitAt w 118, resent := false, first := bitAt w 120,
      last := bitAt w 119, sub := bits w 79 72, len := bits w 39 31, part := bits w 30 15, vc := bits w 123 121, bcast := bitAt w 117,
      hops := bits w 116 112, src := bits w 63 52, dst := bits w 51 40, crvc := bits w 14 12, crcum := bits w 11 0 }
  else
    let w := rdLe bs 0 8
    { ty := bits w 63 60, seq := bits w 59 48, ackseq := bits w 47 36, ackv := bitAt w 35, resent := bitAt w 34, first := bitAt w 33,
      last := bitAt w 32, sub := bits w 31 24, len := bits w 23 16, part := bits w 15 0, vc := 0, bcast := false, hops := 0, src := 0,
      dst := 0, crvc := 0, crcum := 0 }

/-- The header bytes of a flit. -/
def hdrLen (canopy : Bool) : Nat := if canopy then 16 else 8

/-- The payload length of a flit, and its whole length. -/
def payLen (canopy : Bool) : Nat := if canopy then 492 else 244
def flitLen (canopy : Bool) : Nat := if canopy then 512 else 256

/-- The bytes of a flit: header, payload padded with 0, CRC-32C (R138, R140, R376); the CRC inverted for a stomped flit (R390). -/
def flitBytes (canopy : Bool) (h : Hdr) (payload : Bytes) (stomp : Bool := false) : Bytes :=
  let body := leBytes (hdrLen canopy) (if canopy then h.canopyWord else h.stemWord) ++ padTo (payLen canopy) payload
  let c := crc32c body
  body ++ leBytes 4 (if stomp then c ^^^ 0xFFFFFFFF else c)

/-- The credit a Canopy port has on a VC (R382, R384): initial credit plus freed minus sent, modulo 4096. -/
def vcBuffers (vc : Nat) : Nat := [16, 8, 32, 64, 48, 32, 24, 32].getD vc 0

def CnpPort.credit (p : CnpPort) (vc : Nat) : Nat := (vcBuffers vc + p.freedTx.getD vc 0 + 4096 - p.sent.getD vc 0) % 4096

/-- The header of a flit leaving an end now with this SEQ: the acknowledgement and, on Canopy, the credit count ride along. -/
def State.txHdr (s : State) (e : LinkId) (b : FlitBody) (seq : Nat) : Hdr :=
  let l := s.link e
  let p := s.port e.num
  { ty := b.ty, seq := seq, ackseq := (l.next + e.seqMod - 1) % e.seqMod, ackv := true, resent := b.resent, first := b.first, last := b.last,
    sub := b.sub, len := b.payload.length, part := b.part, vc := b.vc, bcast := b.bcast, hops := b.hops, src := b.src, dst := b.dst,
    crvc := p.crvc, crcum := p.freedRx.getD p.crvc 0 }

/-- Bytes leave an end: header noted, CRVC stepped (R384), the flit on its lanes. -/
def State.putOut (s : State) (e : LinkId) (bs : Bytes) : State :=
  let s := s.modLink e (fun l => { l with lastTx := rdLe bs 0 8 })
  let s := match e with
    | .canopy q => s.setPort q { s.port q with crvc := ((s.port q).crvc + 1) % 8 }
    | _ => s
  (s.emit (.flit e bs)).sendLanes e bs

/-! ## Waiting flits -/

/-- A flit joins those waiting at an end, in the class of R151 (its TYPE) or the VC of R383. -/
def State.enqueue (s : State) (e : LinkId) (cls : Nat) (b : FlitBody) (fromPort : Option Nat := none) : State :=
  s.modLink e (fun l => { l with wait := l.wait ++ [(cls, { body := b, fromPort := fromPort, since := s.linkNs e })] })

/-- A flit that has cut through takes its VC before those waiting at its Canopy port: its credit and SEQ were taken first (Table 13-8). -/
def State.enqueueFront (s : State) (q vc : Nat) (b : FlitBody) : State :=
  s.modLink (.canopy q) (fun l => { l with wait := (vc, { body := b, fromPort := none, since := s.linkNs (.canopy q) }) :: l.wait })

/-- The flit of a VC that leaves a Canopy port next: the flits of two messages never interleave (R386). -/
def State.vcNext (s : State) (q vc : Nat) : Option WaitFlit :=
  let ws := ((s.link (.canopy q)).wait.filter (fun w => w.1 = vc)).map (·.2)
  match (s.port q).txOpen.find? vc with
  | none => ws.find? (fun w => w.body.first)
  | some m => ws.find? (fun w => w.body.src = m.1 ∧ w.body.dst = m.2)

/-- The flits of a message: parts of at most max bytes in ascending order, FIRST on the first and LAST on the last (R141). -/
def msgFlits (max : Nat) (b : FlitBody) (bytes : Bytes) : List FlitBody :=
  let cs := if bytes = [] then [[]] else chunks max bytes
  (List.range cs.length).map (fun i =>
    { b with first := b.first && i = 0, last := b.last && i + 1 = cs.length, part := i, payload := cs.getD i [] })

/-! ## Paths on Canopy -/

/-- The FORWARDING port whose neighbour is an aggregator, lowest first. -/
def State.portTo (s : State) (a : Nat) : Option Nat := s.fwdPorts.find? (fun q => s.rd BX_CNP_PORT_STS_NEIGH_AGG q = a)

/-- The pinned path between a BX64 and its parent (R393), child first. -/
def TreeEntry.path (e : TreeEntry) : List Nat := e.agg :: e.relays ++ [e.parent]

/-- The element after a in a list. -/
def nextAfter (a : Nat) : List Nat → Option Nat
  | [] => none
  | [_] => none
  | x :: y :: t => if x = a then some y else nextAfter a (y :: t)

/-- The next hop from this BX64 on the pinned path between two aggregators, if one is the other's tree parent and this BX64 lies
on the path. -/
def State.pinnedNext (s : State) (src dst : Nat) : Option Nat :=
  match s.treeOf src, s.treeOf dst with
  | some a, some b =>
    if ¬ a.root ∧ a.parent = dst then nextAfter s.agg a.path
    else if ¬ b.root ∧ b.parent = src then nextAfter s.agg b.path.reverse
    else none
  | _, _ => none

/-- Messages that follow the pinned path (R393): PARTIAL, REVISION, RECORD, COMMIT_NOTICE, WM_SYNC, TIME, alarms up the tree. -/
def pinnedMsg (ty sub : Nat) : Bool :=
  (ty = 1 ∧ 1 ≤ sub ∧ sub ≤ 3) ∨ (ty = 4 ∧ (sub = 0x14 ∨ sub = 0x15)) ∨ ty = 5 ∨ ty = 3

/-- The port a flit of a message leaves by, with the state that counts a detour or the lack of a route (R379, R393). -/
def State.outPort (s : State) (ty sub src dst : Nat) : Option Nat × State :=
  let pin := if pinnedMsg ty sub then s.pinnedNext src dst else none
  match pin with
  | some hop =>
    match s.portTo hop with
    | some q => (some q, s)
    | none =>
      if ty = 5 then (none, s)
      else match s.cnp.routes.find? dst with
        | some q => (some q, s.bump BX_CNP_CNT0_DETOURS)
        | none => (none, s.bump BX_CNP_CNT0_NOROUTE)
  | none =>
    match s.cnp.routes.find? dst with
    | some q => (some q, s)
    | none => (none, s.bump BX_CNP_CNT0_NOROUTE)

/-! ## Canopy messages -/

/-- The prefix of SNAP, CAPS and TRACE messages (R386). -/
def msgPrefix (id len epoch gen : Nat) : Bytes := leBytes 4 id ++ leBytes 4 len ++ leBytes 8 (epoch * 65536 + gen)

/-- All flits of a message on its way out of one port. -/
def State.sendOn (s : State) (q : Nat) (ty sub vc src dst : Nat) (bcast : Bool) (bytes : Bytes) (hops : Nat := 31) : State :=
  let b : FlitBody := {
    ty := ty, sub := sub, first := true, last := true, part := 0, payload := [], vc := vc, bcast := bcast, hops := hops,
    src := src, dst := dst }
  (msgFlits 492 b bytes).foldl (fun s b => s.enqueue (.canopy q) vc b) s

/-- A message to an aggregator by the path of its kind. -/
def State.sendTo (s : State) (ty sub vc dst : Nat) (bytes : Bytes) : State :=
  match s.outPort ty sub s.agg dst with
  | (some q, s) => s.sendOn q ty sub vc s.agg dst false bytes
  | (none, s) => s

/-- A FENCE or UNFENCE alarm, which a fenced port carries too (R406). -/
def fenceAlarm (ty sub : Nat) : Bool := ty == 3 && (sub == 0x20 || sub == 0x21)

/-- A broadcast on every FORWARDING port but one; FENCE and UNFENCE go through fenced ports as well. -/
def State.sendAll (s : State) (ty sub vc src : Nat) (bytes : Bytes) (except : Option Nat := none) (hops : Nat := 31) (bcast : Bool := true) : State :=
  (((List.range 24).filter (fun q => s.rd BX_CNP_PORT_STS_PSTATE q = 2 || (fenceAlarm ty sub && s.rd BX_CNP_PORT_STS_PSTATE q = 3))).filter
    (fun q => except ≠ some q)).foldl (fun s q => s.sendOn q ty sub vc src 0 bcast bytes hops) s

/-- A flooded or broadcast message goes on from the port it arrived at, with one hop less (R378, R380, R381); one without hops left goes no
further (log entry 122). -/
def State.passOn (s : State) (q : Nat) (ty sub vc src : Nat) (bcast : Bool) (bytes : Bytes) (hops : Nat) : State :=
  if hops = 0 then s else s.sendAll ty sub vc src bytes (some q) (hops - 1) bcast

/-- The next MSG_ID, taken. -/
def State.takeMsgId (s : State) : Nat × State :=
  (s.cnp.msgId, { s with cnp := { s.cnp with msgId := (s.cnp.msgId + 1) % 2 ^ 32 } })

/-- A prefixed message to an aggregator (R386); with rec it joins the messages under end-to-end recovery (R387). -/
def State.sendMsg (s : State) (ty sub vc dst : Nat) (body : Bytes) (epoch : Option Nat := none) (rec : Bool := false) : State :=
  let (id, s) := s.takeMsgId
  let gen := match epoch with
    | none => 0
    | some n => ((s.genOf n).map (·.gen)).getD 0
  let bytes := msgPrefix id body.length (epoch.getD 0) gen ++ body
  let s := if rec then
      { s with cnp := { s.cnp with e2e := s.cnp.e2e ++
          [{ msgId := id, dst := dst, ty := ty, sub := sub, vc := vc, epoch := epoch, sentAt := s.bxNs, lastSent := s.bxNs, bytes := bytes }] } }
    else s
  s.sendTo ty sub vc dst bytes

/-- Answers a message with E2E_ACK (Table 13-5). -/
def State.sendE2eAck (s : State) (src msgId : Nat) : State :=
  s.sendMsg 4 0x13 2 src (leBytes 8 (packFields [(32, 32, msgId), (20, 12, src)]))

/-- Judges a received message under end-to-end recovery: acknowledged, and true when it has not been delivered before. -/
def State.e2eTake (s : State) (src msgId : Nat) : Bool × State :=
  let seen := (src, msgId) ∈ s.cnp.delivered
  let s := s.sendE2eAck src msgId
  (!seen, if seen then s else { s with cnp := { s.cnp with delivered := s.cnp.delivered ++ [(src, msgId)] } })

/-- The oldest delivered message of a kind leaves an end's inbox (its content is the receiving command's operand). -/
def dropFirst (p : Msg → Bool) : List Msg → List Msg
  | [] => []
  | m :: t => if p m then t else m :: dropFirst p t

/-- That message. -/
def State.inMsg? (s : State) (e : LinkId) (ty sub : Nat) : Option Msg := (s.link e).inbox.find? (fun m => m.ty = ty && m.sub = sub)

def State.consume (s : State) (e : LinkId) (ty sub : Nat) : State :=
  s.modLink e (fun l => { l with inbox := dropFirst (fun m => m.ty = ty && m.sub = sub) l.inbox })

/-! ## Alarms -/

/-- Payload bytes 0 to 39 of an ALARM (Table 5-6): incarnation, die address, SELF, DETAIL, epoch, EXTRA, stamp. -/
def alarmPayload (inc addr : Nat) (self : Bool) (detail epoch extra stamp : Nat) : Bytes :=
  wordBytes [packFields [(48, 16, inc), (30, 18, addr), (29, 1, b2n self), (0, 16, detail)], epoch % 2 ^ 48, extra,
    stampNs stamp, stampFrac stamp <<< 48]

/-- The 48 bytes of a Canopy ALARM (R388). -/
def canopyAlarm (p40 : Bytes) (bseq : Nat) : Bytes := padTo 40 p40 ++ leBytes 4 bseq ++ zeroBytes 4

/-- The next BSEQ, taken. -/
def State.takeBseq (s : State) : Nat × State :=
  ((s.cnp.bseq + 1) % 2 ^ 32, { s with cnp := { s.cnp with bseq := (s.cnp.bseq + 1) % 2 ^ 32 } })

/-- An alarm broadcast by this BX64 (R381, Table 13-7). -/
def State.broadcastAlarm (s : State) (sub : Nat) (p40 : Bytes) : State :=
  let (b, s) := s.takeBseq
  s.sendAll 3 sub 0 s.agg (canopyAlarm p40 b)

/-- An alarm that travels up the tree from this BX64 (R388): posted at the acting root, else addressed to the acting parent. The
BSEQ it carries is the source's present one (log entry 11). A SAFETY alarm without a FORWARDING parent port is posted here (R497). -/
def State.alarmUp (s : State) (sub : Nat) (p40 : Bytes) : State :=
  let bytes := canopyAlarm p40 s.cnp.bseq
  match s.parent? with
  | none => s.post 0 0x20 bytes
  | some p =>
    match s.outPort 3 sub s.agg p with
    | (some q, s) => s.sendOn q 3 sub 0 s.agg p false bytes
    | (none, s') => if sub = 0x28 then s.post 0 0x20 bytes else s'

/-- The payload of an alarm of BX64 itself about a local die, or about none. -/
def State.bxAlarm (s : State) (detail extra : Nat) (die : Option Nat := none) : Bytes :=
  match die with
  | none => alarmPayload 0 0 false detail s.bxEpoch extra s.bxRc
  | some d => alarmPayload (s.die d).cur (s.dieAddr d) (d = 64) detail s.bxEpoch extra s.bxRc

/-! ## Safety detections (R496 to R499) -/

/-- The address and incarnation a safety report names, and its EXTRA. -/
def State.safDie (s : State) (die : Option Nat) : Nat × Nat :=
  match die with
  | none => (0, 0)
  | some d => (s.dieAddr d, (s.die d).cur)

def State.safExtra (s : State) (sys idx : Nat) (die : Option Nat) : Nat :=
  packFields [(56, 8, sys), (38, 18, (s.safDie die).1), (22, 16, (s.safDie die).2), (0, 22, idx)]

/-- The SAFETY alarm, at most once per code and source index in an epoch. -/
def State.safAlarm (s : State) (code sys idx : Nat) (die : Option Nat) : State :=
  let sent := s.tap.safEpoch = s.bxEpoch ∧ (code, idx) ∈ s.tap.safSent
  if sent then s
  else
    let s := { s with tap := { s.tap with
        safEpoch := s.bxEpoch
        safSent := (if s.tap.safEpoch = s.bxEpoch then s.tap.safSent else []) ++ [(code, idx)] } }
    s.alarmUp 0x28 (s.bxAlarm code (s.safExtra sys idx die) die)

/-- A detection in BX64: counted, recorded, and its alarm. code is that of Table 17-6, sys its subsystem number, idx the unit, port or
entry. -/
def State.detect (s : State) (code sys idx : Nat) (die : Option Nat := none) (inj : Bool := false) : State :=
  let s := ((s.wr BX_SAF_STS_LAST_CODE 0 code).bump BX_SAF_STS_DETECTIONS).wr BX_SAF_STS_LAST_INJ 0 (b2n inj)
  let s := s.safAlarm code sys idx die
  s.signal { ty := 0x0201, source := sys, idx := idx, inj := inj, self := die = some 64, die := (s.safDie die).1, inc := (s.safDie die).2,
             detail := code, extra := s.safExtra sys idx die }

/-! ## Routes (R378, R379) -/

/-- A link is usable when the advertisements of both its ends list it. -/
def lsaLinked (db : List Lsa) (a b : Nat) : Bool :=
  db.any (fun x => x.agg = a && x.links.any (fun l => l.2.1 = b)) && db.any (fun x => x.agg = b && x.links.any (fun l => l.2.1 = a))

/-- One more ring of a breadth-first search: each new aggregator with the first hop that reaches it; in every ring the aggregators
reached first keep their hop, and hops are taken in ascending neighbour order. -/
def bfsRing (db : List Lsa) (seen : SMap Nat) (ring : List (Nat × Nat)) : SMap Nat × List (Nat × Nat) :=
  ring.foldl (fun acc x =>
    (db.filter (fun l => lsaLinked db x.1 l.agg)).foldl (fun acc l =>
      match acc.1.find? l.agg with
      | none => (acc.1.set l.agg x.2, acc.2 ++ [(l.agg, x.2)])
      | some h =>
        if acc.2.any (fun y => y.1 = l.agg) ∧ x.2 < h then
          (acc.1.set l.agg x.2, acc.2.map (fun y => if y.1 = l.agg then (l.agg, x.2) else y))
        else acc) acc) (seen, [])

def bfs (db : List Lsa) : Nat → SMap Nat → List (Nat × Nat) → SMap Nat
  | 0, seen, _ => seen
  | k + 1, seen, ring => let r := bfsRing db seen ring; if r.2 = [] then r.1 else bfs db k r.1 r.2

/-- The routes of this BX64 (R379): fewest hops, then the lowest neighbour aggregator, then the lowest local port; fenced ports are
not FORWARDING and so excluded. -/
def State.computeRoutes (s : State) : SMap Nat :=
  let nb := s.fwdPorts.map (fun q => s.rd BX_CNP_PORT_STS_NEIGH_AGG q)
  let own := nb.filter (fun a => lsaLinked s.cnp.lsdb s.agg a)
  let seen := own.foldl (fun (m : SMap Nat) a => m.set a a) ([(s.agg, s.agg)] : SMap Nat)
  let hops := bfs s.cnp.lsdb s.cnp.lsdb.length seen (own.map (fun a => (a, a)))
  hops.filterMap (fun x => if x.1 = s.agg then none else (s.portTo x.2).map (fun q => (x.1, q)))

def State.recompute (s : State) : State := { s with cnp := { s.cnp with routes := s.computeRoutes } }

/-- The bytes of this BX64's LSA (Table 13-5). -/
def lsaBytes (l : Lsa) : Bytes :=
  leBytes 8 l.uid ++ leBytes 8 (packFields [(32, 32, l.boot), (0, 32, l.lseq)]) ++
    l.links.flatMap (fun x => leBytes 4 (packFields [(27, 5, x.1), (15, 12, x.2.1), (10, 5, x.2.2)]))

/-- This BX64 floods a new LSA (R378): own entry of the database replaced, routes recomputed, sent on every FORWARDING port. -/
def State.floodLsa (s : State) : State :=
  let l : Lsa := {
    uid := s.rd BX_CNP_DEV_UID_DEV_UID, agg := s.agg, boot := s.rd BX_CNP_IDENT_BOOT, lseq := (s.cnp.lseq + 1) % 2 ^ 32,
    links := s.fwdPorts.map (fun q => (q, s.rd BX_CNP_PORT_STS_NEIGH_AGG q, s.rd BX_CNP_PORT_STS_NEIGH_PORT q)), at_ := s.bxNs }
  let s := { s with cnp := { s.cnp with lseq := l.lseq, lsaAt := s.bxNs, lsdb := s.cnp.lsdb.filter (fun (x : Lsa) => x.agg ≠ s.agg) ++ [l] } }
  let s := s.recompute
  let (id, s) := s.takeMsgId
  let body := lsaBytes l
  s.fwdPorts.foldl (fun s q => s.sendOn q 4 0x11 2 s.agg 0 false (msgPrefix id body.length 0 0 ++ body)) s

/-- HELLO leaves a port (Table 13-5, R377). -/
def State.sendHello (s : State) (q : Nat) : State :=
  let part := ((s.treeOf s.agg).map (·.partition)).getD 0
  let body := wordBytes [s.rd BX_CNP_DEV_UID_DEV_UID,
    packFields [(48, 16, s.rd BX_CNP_IDENT_FLEET_ID), (36, 12, s.agg), (33, 3, s.rd BX_LC_STS_STATE), (27, 6, part)],
    packFields [(32, 32, s.rd BX_CNP_IDENT_BOOT), (16, 16, s.liveGen)], 0]
  let (id, s) := s.takeMsgId
  let s := s.sendOn q 4 0x10 2 s.agg 0 false (msgPrefix id 32 0 0 ++ body)
  s.setPort q { s.port q with helloSent := true, helloAt := s.bxNs }

/-- A Canopy port takes a PSTATE; entering or leaving FORWARDING floods an LSA. -/
def State.setPstate (s : State) (q ps : Nat) : State :=
  let old := s.rd BX_CNP_PORT_STS_PSTATE q
  let s := s.wr BX_CNP_PORT_STS_PSTATE q ps
  if old ≠ ps ∧ (old = 2 ∨ ps = 2) then s.floodLsa else s

/-! ## Leaving ACTIVE (R133, R134) -/

/-- A link end takes a state of Table 5-3; a Canopy port that is not ACTIVE is DOWN. -/
def State.setLstate (s : State) (e : LinkId) (st : LState) : State :=
  let s := s.modLink e (fun l => { l with lstate := st, lastChange := s.linkNs e, partnerActive := l.partnerActive && st = .active })
  match e with
  | .canopy q => if st = .active then s else
      (s.setPort q { s.port q with helloSent := false, helloSeen := false }).setPstate q 0
  | _ => s

/-- A retrain is counted (R133). -/
def State.countRetrain (s : State) (e : LinkId) : State :=
  match e with
  | .zx => s.ls 0xA9
  | .stem p => s.bump BX_STM_PORT_MISC_RETRAINS p
  | .canopy q => s.bump BX_CNP_PORT_MISC_RETRAINS q

/-- An end in ACTIVE retrains (R134): LOCK if every lane is locked, RESET otherwise. The self-monitoring ZX40's link has no lanes
(R137) and starts over from RESET. -/
def State.retrain (s : State) (e : LinkId) : State :=
  if (s.link e).lstate = .active then
    let l := s.link e
    (s.countRetrain e).setLstate e (if l.lock = 15 ∧ ¬ s.noLanes e then .lock else .reset)
  else s

/-- HOLD of a BX64 end takes a value: setting it holds the end in DOWN_HOLD, clearing it releases the end to RESET (R157). -/
def State.setHold (s : State) (e : LinkId) (hold : Bool) : State :=
  let s := match e with
    | .zx => s
    | .stem p => s.wr BX_STM_PORT_CTRL_HOLD p (b2n hold)
    | .canopy q => s.wr BX_CNP_PORT_CTRL_HOLD q (b2n hold)
  if hold then (if (s.link e).lstate = .downHold then s else s.setLstate e .downHold)
  else if (s.link e).lstate = .downHold then (s.modLink e (fun l => { l with attempts := 0 })).setLstate e .reset
  else s

/-! ## Violations and escalation (R156, R157, R408, R409) -/

/-- Escalation (R157, R409): 16 more malformed flits and violations in an epoch retrain the link; a BX64 port that retrains so for the
fourth time within 1 s is held, with a record and an alarm. -/
def State.escalate (s : State) (e : LinkId) : State :=
  let l := s.link e
  if l.lstate = .active ∧ 16 ≤ l.violEpoch ∧ l.violIn = s.linkEpoch e then
    let now := s.linkNs e
    let es := l.escalations.filter (fun t => now < t + 1000000000) ++ [now]
    let s := (s.modLink e (fun l => { l with violEpoch := 0, escalations := es })).retrain e
    if e ≠ .zx ∧ 4 ≤ es.length then
      let s := (s.modLink e (fun l => { l with escalations := [] })).setHold e true
      let s := s.signal { ty := 0x0402, source := e.source, idx := e.num }
      s.alarmUp 0x26 (s.bxAlarm e.num 0)
    else s
  else s

/-- A malformed flit is counted (Tables 5-12 and 13-11); the BX64 ends write a VIOLATION record; the sixteenth escalates. -/
def State.malformed (s : State) (e : LinkId) (row : Nat := 1) : State :=
  let s := s.countViol e
  (match e with
  | .zx => (s.bump ZX_STM_CNT_MALFORMED).ls 0xAB
  | .stem p => (s.bump PORT_ERRS_MALFORMED p).violation 1 row 1 p
  | .canopy q => (s.bump PORT_ERRS_MALFORMED (64 + q)).violation 2 row 2 q).escalate e

/-- A violation counted in VIOL. -/
def State.viol (s : State) (e : LinkId) (row : Nat) : State :=
  let s := s.countViol e
  (match e with
  | .zx => s.bump ZX_STM_CNT_VIOL
  | .stem p => (s.bump PORT_ERRS_VIOL p).violation 1 row 1 p
  | .canopy q => (s.bump PORT_ERRS_VIOL (64 + q)).violation 2 row 2 q).escalate e

end Sys2Proof.Machine
end

