-- ==== Sys2Proof/Machine/Capsules.lean ====
section
/-! DEFINITION. What every opcode shares: status and reason codes (Tables 16-4, 16-5), origins (R462), parameters (R459), replies
(R457, R460) and the commands BX64 sends a ZX40 (R146, R147, R474). -/
namespace Sys2Proof.Machine

/-! Status codes (Table 16-5) -/
def S_OK : Nat := 0x00
def S_BUSY : Nat := 0x01
def S_BADOP : Nat := 0x02
def S_BADPARAM : Nat := 0x03
def S_DENIED : Nat := 0x04
def S_NOTNOW : Nat := 0x05
def S_XLATE : Nat := 0x06
def S_PARTIAL : Nat := 0x07
def S_STALE : Nat := 0x08
def S_FENCED : Nat := 0x09
def S_TIMEOUT : Nat := 0x0A
def S_CONFLICT : Nat := 0x0B
def S_NOTCOMPARABLE : Nat := 0x0C

/-! Origins (Table 16-6) -/

/-- The operator, directly or relayed. -/
def Cap.isOp (c : Cap) : Bool := c.tenant = 0 ∧ (c.path = 0 ∨ c.path = 2)

/-- The operator over PCIe. -/
def Cap.isOpPcie (c : Cap) : Bool := c.tenant = 0 ∧ c.path = 0

/-- A tenant over PCIe. -/
def Cap.isTenant (c : Cap) : Bool := c.path = 0 ∧ c.tenant ≠ 0

/-- Board management. -/
def Cap.isMctp (c : Cap) : Bool := c.path = 1

/-- BX64 itself, at a ZX40. -/
def Cap.isInternal (c : Cap) : Bool := c.path = 3

/-- Parameter i (R459). -/
def Cap.p (c : Cap) (i : Nat) : Nat := c.params.getD i 0

/-! Replies -/

/-- A reply is formed (Table 16-2): the watermark as now; refusals and timeouts are counted (Table 16-23). CAPSULE_REPLY writes it. -/
def State.reply (s : State) (c : Cap) (op status : Nat) (results : List Nat := []) (reason : Nat := 0)
    (hostWrite : Option (Nat × Bytes) := none) : State :=
  let r : Reply := {
    cap := c, op := op, status := status, reason := reason, results := results, hostWrite := hostWrite,
    watermark := s.rd BX_EPC_STATE_WATERMARK, wmValid := s.flag BX_EPC_STATE_WM_VALID }
  let s := if status = S_DENIED then s.bump BX_WDN_CNT0_DENIED else s
  let s := if status = S_TIMEOUT then s.bump BX_WDN_CNT1_TIMEOUTS else s
  let s := if status = S_BADOP then s.bump BX_WDN_CNT0_BADOP else s
  { s with wdn := { s.wdn with replies := s.wdn.replies ++ [r] } }

/-- A reply whose results can exceed 48 bytes (R460): written whole at REPLY_PTR with the byte count in R0, or over MCTP returned
as words in successive replies (R473). Results are given as bytes, and what follows R0 as words. -/
def State.replyBlob (s : State) (c : Cap) (op status : Nat) (bytes : Bytes) (more : List Nat := []) : State :=
  if c.isMctp then s.reply c op status (leWords bytes)
  else s.reply c op status (bytes.length :: more) 0 (some (c.replyPtr, bytes))

/-- REPLY_PTR is needed and absent (R460). -/
def Cap.noPtr (c : Cap) : Bool := ¬ c.isMctp ∧ c.replyPtr = 0

/-- The checks every opcode shares: origin (R462), then enough parameter words (R459). -/
def State.checked (s : State) (c : Cap) (op : Nat) (allowed : Bool) (n : Nat) (f : State → State) : State :=
  if ¬ allowed then s.reply c op S_DENIED [] 0xF5
  else if c.params.length < n then s.reply c op S_BADPARAM [] 0xF3
  else f s

/-- The same for an opcode that needs REPLY_PTR. -/
def State.checkedPtr (s : State) (c : Cap) (op : Nat) (allowed : Bool) (n : Nat) (f : State → State) : State :=
  s.checked c op allowed n (fun s => if c.noPtr then s.reply c op S_BADPARAM [] 0xF2 else f s)

/-! Commands to a ZX40 -/

/-- The commands of a Stem port. -/
def State.zxPort (s : State) (p : Nat) : ZxPort := s.wdn.zx.getD p {}

def State.setZxPort (s : State) (p : Nat) (z : ZxPort) : State := { s with wdn := { s.wdn with zx := s.wdn.zx.set p z } }

/-- The 64 bytes of a capsule to a ZX40 (Table 16-1): ORIGIN INTERNAL, parameters in P0 onward. -/
def capsuleBytes (op tag : Nat) (params : List Nat) : Bytes :=
  padTo 64 (wordBytes ([packFields [(48, 16, op), (32, 16, tag), (30, 2, 3), (16, 8, 8 * params.length)], 0] ++ params))

/-- The command at the head of a port's queue leaves in a CAPS flit while fewer than 8 are outstanding (R474). -/
def State.issueZx (s : State) (p : Nat) : State :=
  let z := s.zxPort p
  match z.waiting with
  | [] => s
  | m :: t =>
    if z.out.length < 8 then
      let m := { m with at_ := s.bxNs }
      let s := s.setZxPort p { z with out := z.out ++ [m], waiting := t }
      s.enqueue (.stem p) 4 { ty := 4, sub := 0, first := true, last := true, part := 0, payload := capsuleBytes m.op m.tag m.params }
    else s

/-- A command goes to a ZX40 before every other: it is the first to leave (R147). -/
def State.zxFirst (s : State) (p op : Nat) (params : List Nat) : State :=
  let z := s.zxPort p
  let m : ZxCmd := { tag := z.nextTag, op := op, params := params, at_ := s.bxNs }
  let later := (s.link (.stem p)).wait.filter (fun w => w.2.body.ty == 4 && w.2.body.sub == 0)
  let s := s.setZxPort p { z with out := z.out ++ [m], readTag := some z.nextTag, nextTag := (z.nextTag + 1) % 65536 }
  let s := s.modLink (.stem p) (fun l => { l with wait := l.wait.filter (fun w => !(w.2.body.ty == 4 && w.2.body.sub == 0)) })
  let s := s.enqueue (.stem p) 4 { ty := 4, sub := 0, first := true, last := true, part := 0, payload := capsuleBytes op m.tag params }
  s.modLink (.stem p) (fun l => { l with wait := l.wait ++ later })

/-- A command joins the queue of a port under a TAG of BX64's own, and leaves at once if it may. -/
def State.zxSend (s : State) (p op : Nat) (params : List Nat) (origin : Option (Nat × Cap)) : State :=
  let z := s.zxPort p
  let m : ZxCmd := { tag := z.nextTag, op := op, params := params, origin := origin }
  (s.setZxPort p { z with waiting := z.waiting ++ [m], nextTag := (z.nextTag + 1) % 65536 }).issueZx p

/-- An internal opcode to a ZX40 (R147). -/
def State.zxInternal (s : State) (p op : Nat) (params : List Nat) : State := s.zxSend p op params none

/-- An operator opcode that executes at a ZX40 (R474): its die must be local and its link ACTIVE; S_BUSY once 64 wait. -/
def State.toZx (s : State) (c : Cap) (op : Nat) : State :=
  match s.localDie? (c.p 0) with
  | none => s.reply c op S_BADPARAM
  | some p =>
    if (s.link (.stem p)).lstate ≠ .active then s.reply c op S_NOTNOW
    else if 64 ≤ (s.zxPort p).waiting.length ∧ 8 ≤ (s.zxPort p).out.length then s.reply c op S_BUSY
    else s.zxSend p op c.params (some (op, c))

/-- The command sends a generation or a Grove-S image to a ZX40 (R147). -/
def ZxCmd.stages (m : ZxCmd) : Bool := (decide (0x0210 ≤ m.op) && decide (m.op ≤ 0x0212)) || m.op == 0x0310

/-- A command to a ZX40 that is lost: an operator's is answered S_TIMEOUT (R136, R474). One of BX64's own that carried the generation in force
ends the re-send, so that a later mismatch brings another (R45); one of a generation being distributed is sent again (R536). -/
def State.timeoutZx (s : State) (p : Nat) (m : ZxCmd) : State :=
  match m.origin with
  | some o => s.reply o.2 o.1 S_TIMEOUT
  | none =>
    let g := m.params.getD 0 0
    let s := if m.stages ∧ g ≠ 0 ∧ g = s.liveGen then s.setDie p { s.die p with resendM := none } else s
    match s.ep.staged with
    | none => s
    | some x =>
      let mine (t : Target) : Bool := if p = 64 then t.kind == 2 && t.addr / 64 == s.agg else t.kind == 1 && t.addr == s.dieAddr p
      if m.stages ∧ x.gen = g ∧ x.armed = none then
        { s with ep := { s.ep with staged := some { x with
          targets := x.targets.map (fun (t : Target) => if mine t ∧ t.ack = .none then { t with ack := .again } else t) } } }
      else s

/-- A flit carries a command to a ZX40. -/
def isCapsFlit (w : Nat × WaitFlit) : Bool := w.2.body.ty == 4 && w.2.body.sub == 0

/-- Every command outstanding at a ZX40 is lost (R474): its ZX40 has discarded them, or they were flushed. Those whose flits have not left
yet do not leave. -/
def State.flushZx (s : State) (p : Nat) : State :=
  let z := s.zxPort p
  let s := s.modLink (.stem p) (fun l => { l with wait := l.wait.filter (fun w => !isCapsFlit w) })
  let s := z.out.foldl (fun s m => s.timeoutZx p m) s
  s.setZxPort p { s.zxPort p with out := [], readTag := none }

/-- A reply capsule leaves ZX40: a CAPS flit up. The WATERMARK word is 0 there. -/
def State.zxSendReply (s : State) (tag op status : Nat) (results : List Nat := []) (reason : Nat := 0) : State :=
  let w0 := packFields [(48, 16, op), (32, 16, tag), (24, 8, status), (16, 8, reason)]
  s.enqueue .zx 4 { ty := 4, sub := 1, first := true, last := true, part := 0, payload := padTo 64 (wordBytes ([w0, 0] ++ results)) }

/-- The opcodes a ZX40 executes (R474, Table 5-6a). -/
def zxOpcodes : List Nat :=
  [0x0501, 0x0502, 0x0510, 0x0511, 0x0512, 0x0513, 0x0514, 0x0623, 0x0630, 0x0210, 0x0310, 0x0211, 0x0212, 0x0213, 0x0A10, 0x0F10]

/-- Commands that a ZX40 does not execute are answered when they come to the head: S_BADOP, or S_DENIED for an origin other than
INTERNAL (R147, R462). -/
def zxRefuse : Nat → State → State
  | 0, s => s
  | k + 1, s =>
    match s.zx.caps with
    | [] => s
    | (op, c) :: t =>
      let s1 := { s with zx := { s.zx with caps := t } }
      if ¬ zxOpcodes.contains op then zxRefuse k (s1.zxSendReply c.tag op S_BADOP)
      else if ¬ c.isInternal then zxRefuse k (s1.zxSendReply c.tag op S_DENIED)
      else s

/-- A ZX40 replies to the command it executed, the oldest it holds (R146). -/
def State.zxReply (s : State) (c : Cap) (op status : Nat) (results : List Nat := []) (reason : Nat := 0) : State :=
  let s := { s with zx := { s.zx with caps := s.zx.caps.drop 1 } }
  zxRefuse 8 (s.zxSendReply c.tag op status results reason)

/-- The command a ZX40 has to execute next, in arrival order (R146). -/
def State.zxNext (s : State) (c : Cap) (op : Nat) : Bool := s.zx.caps.head? = some (op, c)

/-- An opcode of R474: at BX64 it goes to the die's ZX40 as an operator's command; at the ZX40, under ORIGIN INTERNAL, it runs. -/
def State.zxRun (s : State) (c : Cap) (op n : Nat) (f : State → State) : State :=
  if c.isInternal then
    if ¬ s.zxNext c op then s
    else if c.params.length < n then s.zxReply c op S_BADPARAM [] 0xF3
    else f s
  else s.checked c op c.isOp 1 (fun s => s.toZx c op)

/-- An internal opcode at a ZX40 (R147): from any other origin it is denied. -/
def State.zxInt (s : State) (c : Cap) (op n : Nat) (f : State → State) : State :=
  if ¬ s.zxNext c op then s
  else if ¬ c.isInternal then s.zxReply c op S_DENIED
  else if c.params.length < n then s.zxReply c op S_BADPARAM [] 0xF3
  else f s

end Sys2Proof.Machine
end

