-- ==== Sys2Proof/Machine/Injection.lean ====
section
/-! DEFINITION. Windthrow's injectors (R509 to R511): arming, an event of a target, disarming. -/
namespace Sys2Proof.Machine

/-- The number of an injector's target: class of Table 17-12 (0 STEM_PORT, 1 CANOPY_PORT, 2 QUEUE, 3 BLAZE_UNIT) and index. -/
def wtTarget (cls idx : Nat) : Nat := cls * 65536 + idx

/-- A Windthrow record (Table 17-9): DETAIL is target class and index. -/
def State.wtRecord (s : State) (ty tgt extra : Nat) : State :=
  s.signal { ty := ty, source := 17, idx := tgt, detail := tgt, extra := extra }

/-- Actions in the order of the WT_ARM action list (Table 16-13). -/
def wtDrop : Nat := 0
def wtCorrupt : Nat := 1
def wtReorder : Nat := 2
def wtDelay : Nat := 3
def wtDuplicate : Nat := 4
def wtParity : Nat := 5
def wtPoison : Nat := 6
def wtData : Nat := 7
def wtCheck : Nat := 8

/-- An injector disarms: DISARMED with the number of injections in EXTRA (R510). -/
def State.wtDisarm (s : State) (tgt : Nat) : State :=
  if s.flag BX_WT_INJ_ARMED tgt then
    let n := s.tap.wtDone.getD tgt 0
    let s := (((s.wr BX_WT_INJ_ARMED tgt 0).wr BX_WT_INJ_ACTION tgt 0).wr BX_WT_INJ_REMAIN tgt 0).wr BX_WT_INJ_ARG tgt 0
    let s := s.wr BX_WT_STS_ARMED 0 (s.rd BX_WT_STS_ARMED - 1)
    let s := { s with tap := { s.tap with wtDone := s.tap.wtDone.erase tgt } }
    s.wtRecord 0x0303 tgt n
  else s

/-- The numbers of the armed injectors, ascending. -/
def State.wtArmed (s : State) : List Nat :=
  s.regs.filterMap (fun x =>
    if x.1 / 64 % 256 = Reg.BX_WT_INJ.ctorIdx ∧ x.1 % 64 = 63 then some (x.1 / 16384) else none)

/-- A reset disarms the armed injectors that it reaches, without a record of each; their number (R511). -/
def State.wtResetOff (s : State) (p : Nat → Bool) : Nat × State :=
  let ts := s.wtArmed.filter p
  let s := ts.foldl (fun s tgt =>
    let s := (((s.wr BX_WT_INJ_ARMED tgt 0).wr BX_WT_INJ_ACTION tgt 0).wr BX_WT_INJ_REMAIN tgt 0).wr BX_WT_INJ_ARG tgt 0
    { s with tap := { s.tap with wtDone := s.tap.wtDone.erase tgt } }) s
  (ts.length, s.wr BX_WT_STS_ARMED 0 (s.rd BX_WT_STS_ARMED - ts.length))

/-- RESET_OFF, if a reset disarmed injectors. -/
def State.resetOff (s : State) (n : Nat) : State := if n = 0 then s else s.signal { ty := 0x0304, source := 17, detail := n }

/-- The injectors of a ZX40 whose reset its BX64 learns of are off (R511, R524). -/
def State.wtZxOff (s : State) (p : Nat) : State :=
  let (n, s) := s.wtResetOff (fun t => t / 65536 = 3 && bitAt t 15 && bits t 14 8 = p)
  s.resetOff n

/-- An injector arms; an armed one disarms first (R509). -/
def State.wtArm (s : State) (tgt action arg count : Nat) : State :=
  let s := s.wtDisarm tgt
  let s := (((s.wr BX_WT_INJ_ARMED tgt 1).wr BX_WT_INJ_ACTION tgt action).wr BX_WT_INJ_REMAIN tgt count).wr BX_WT_INJ_ARG tgt arg
  let s := s.bump BX_WT_STS_ARMED
  { s with tap := { s.tap with wtDone := s.tap.wtDone.erase tgt } }.wtRecord 0x0301 tgt 0

/-- An event of a target: the action and argument to apply if its injector is armed. The injection is recorded, and the injector
disarms after its last one. -/
def State.wtEvent (s : State) (tgt extra : Nat) : Option (Nat × Nat) × State :=
  if s.flag BX_WT_INJ_ARMED tgt then
    let a := (s.rd BX_WT_INJ_ACTION tgt, s.rd BX_WT_INJ_ARG tgt)
    let r := s.rd BX_WT_INJ_REMAIN tgt
    let s := { s with tap := { s.tap with wtDone := s.tap.wtDone.set tgt (s.tap.wtDone.getD tgt 0 + 1) } }
    let s := (s.wr BX_WT_INJ_REMAIN tgt (r - 1)).bump BX_WT_STS_INJECTED
    let s := s.wtRecord 0x0302 tgt extra
    (some a, if r ≤ 1 then s.wtDisarm tgt else s)
  else (none, s)

/-- The target of a link end's direction, none for ZX40's own end (R509 gives BX64's ports only). -/
def wtLink (e : LinkId) (tx : Bool) : Option Nat :=
  match e with
  | .zx => none
  | .stem p => some (wtTarget 0 (b2n tx * 64 + p))
  | .canopy q => some (wtTarget 1 (b2n tx * 32 + q))

/-- One bit of a byte string inverted. -/
def flipBit (bs : Bytes) (n : Nat) : Bytes :=
  bs.mapIdx (fun i b => if i = n / 8 then b ^^^ BitVec.ofNat 8 (2 ^ (n % 8)) else b)

/-- The flits that pass a port's PCS when this flit comes to it: what an armed injector makes of it. DELAY changes only time. A flit
held back by REORDER passes after the next one. -/
def State.pcs (s : State) (e : LinkId) (tx : Bool) (bs : Bytes) : List Bytes × State :=
  match wtLink e tx with
  | none => ([bs], s)
  | some tgt =>
    let held := match s.tap.wtHeld.find? tgt with
      | none => []
      | some h => [h]
    let s := { s with tap := { s.tap with wtHeld := s.tap.wtHeld.erase tgt } }
    let h := parseHdr e.isCanopy bs
    if ¬ sequencedTy h.ty then (bs :: held, s)
    else
      match s.wtEvent tgt h.seq with
      | (none, s) => (bs :: held, s)
      | (some (act, arg), s) =>
        if act = wtDrop then (held, s)
        else if act = wtCorrupt then (flipBit bs arg :: held, s)
        else if act = wtDuplicate then (bs :: bs :: held, s)
        else if act = wtReorder then (held, { s with tap := { s.tap with wtHeld := s.tap.wtHeld.set tgt bs } })
        else (bs :: held, s)

end Sys2Proof.Machine
end

