-- ==== Sys2Proof/Machine/ZxCfg.lean ====
section
/-! DEFINITION. Configuration of a ZX40 by its BX64 (R147, R537, R267, R274): the staged registers of a ZX40 by APB address, the CRC of
ZX_CFG_DONE, and the command sequences that send a generation or a Grove-S image. -/
namespace Sys2Proof.Machine

/-- Every field of a register set from a word. -/
def State.setReg (s : State) (r : Reg) (i w : Nat) : State :=
  (Reg.fields r).foldl (fun s f => s.wr f i (bits w f.hi f.lo)) s

/-- The word of a register after cold reset. -/
def resetWord (r : Reg) (i : Nat) : Nat := packFields ((Reg.fields r).map (fun f => (f.lo, f.width, resetOf f i)))

/-- The staged register of a ZX40 at an APB address (Table 5-6a). -/
def zxStaged? (a : Nat) : Option (Reg × Nat) :=
  if a % 4 ≠ 0 then none
  else if a = 0x24 then some (.ZX_SNS_CFG, 0)
  else if 0x40 ≤ a ∧ a < 0x54 then some (.ZX_SNS_EN, (a - 0x40) / 4)
  else if 0x400 ≤ a ∧ a < 0x800 then some (.ZX_GRS_FEAT, (a - 0x400) / 4)
  else if 0x3400 ≤ a ∧ a < 0x3680 then some (.ZX_SNS_CAL, (a - 0x3400) / 4)
  else if 0x60000 ≤ a ∧ a < 0x70000 then some (.ZX_CTR_SEL, (a - 0x60000) / 4)
  else none

/-- The addresses of the staged registers in ascending order (R537). -/
def zxStagedAddrs : List Nat :=
  0x24 :: ((List.range 5).map (fun j => 0x40 + 4 * j) ++ (List.range 256).map (fun j => 0x400 + 4 * j) ++
    (List.range 160).map (fun j => 0x3400 + 4 * j) ++ (List.range 16384).map (fun j => 0x60000 + 4 * j))

/-- The value of a staged register for the CRC: a counter selection whose OWNER is 0 counts as 0. -/
def crcValue (a w : Nat) : Nat := if 0x60000 ≤ a ∧ ¬ bitAt w 30 then 0 else w

/-- The CRC of ZX_CFG_DONE over values given by address (R537). -/
def zxCfgCrc (val : Nat → Nat) : Nat := crc32c (zxStagedAddrs.flatMap (fun a => leBytes 4 (crcValue a (val a))))

/-- The staged value of a ZX40 register in a map of what generations have set, its reset value where none has. -/
def zxSetting (m : SMap Nat) (a : Nat) : Nat :=
  match m.find? a with
  | some w => w
  | none => match zxStaged? a with
    | some r => resetWord r.1 r.2
    | none => 0

/-- Runs of at most three consecutive registers. -/
def runs3 : List (Nat × Nat) → List (Nat × List Nat)
  | [] => []
  | (a, v) :: t =>
    match runs3 t with
    | (b, vs) :: r => if b = a + 4 ∧ vs.length < 3 then (a, v :: vs) :: r else (a, [v]) :: (b, vs) :: r
    | [] => [(a, [v])]

/-- The words of 32 image bytes at an offset. -/
def imageWords (img : Bytes) (off : Nat) : List Nat := (List.range 4).map (fun i => rdLe img (off + 8 * i) 8)

/-- An image goes to a ZX40 under a generation, or under 0 into its live bank. -/
def State.sendImage (s : State) (p gen : Nat) (img : Bytes) : State :=
  (List.range (imageBytes / 32)).foldl (fun s i => s.zxInternal p 0x0310 ([gen, 32 * i] ++ imageWords img (32 * i))) s

/-- The image of the slot that settings select for Grove-S, if its slot holds a model. -/
def State.grsImageOf (s : State) (c : Settings) (gen : Nat) : Option Bytes :=
  if c.fld BX_GRV_GRS_SEL_EN 0 = 0 then none
  else (s.grv.slots.find? (c.fld BX_GRV_GRS_SEL_SLOT 0)).map (fun m => grsImage m.binary gen)

/-- The staging commands of a generation to a ZX40 (R147): shadows, image, ZX_CFG_DONE. -/
def State.stageZx (s : State) (p gen : Nat) (c : Settings) : State :=
  let m := (c.zx.getD p []).set 0x24 (zxSetting (c.zx.getD p []) 0x24)
  let s := (runs3 m).foldl (fun s r => s.zxInternal p 0x0210 ([gen, r.1, r.2.length] ++ r.2)) s
  let img := s.grsImageOf c gen
  let s := match img with
    | none => s
    | some b => s.sendImage p gen b
  s.zxInternal p 0x0211 [gen, zxCfgCrc (zxSetting m), b2n img.isSome]

/-- The generation in force is sent again to a die and armed for the boundary two epochs ahead (R45, R517). -/
def State.resendGen (s : State) (p : Nat) : State :=
  match s.liveGen? with
  | none => s
  | some g =>
    let m := s.bxEpoch + 2
    let s := s.stageZx p g.gen g.cfg
    let s := s.zxInternal p 0x0212 [g.gen, g.sched.open_ m, m, g.sched.k]
    s.setDie p { s.die p with resendM := some m }

/-- The Grove-S image of the generation in force goes into a ZX40's live bank (R270, R274). -/
def State.refreshGrs (s : State) (p : Nat) : State :=
  match s.grsImageOf s.cfg s.liveGen with
  | none => s
  | some b => (s.sendImage p 0 b).zxInternal p 0x0211 [0, 0, 0]

/-- A die is brought up to the generation in force (R274): a ZX40 that runs another receives all of it, one that runs it the image alone. -/
def State.sendRun (s : State) (p : Nat) : State := if (s.die p).runs ≠ s.liveGen then s.resendGen p else s.refreshGrs p

end Sys2Proof.Machine
end

