-- ==== Sys2Proof/Machine/ZxOps.lean ====
section
/-! DEFINITION. What the ZX40 chapters share (chapters 2 and 3): interrupts and alarms, the trace buffers (R85 to R96), the hang dump
(R98 to R100), the epoch log (R102 to R106), counter selections and the Grove-S banks (R268). -/
namespace Sys2Proof.Machine

/-! ## Interrupts, alarms, addresses -/

/-- A bit of ZX_IRQ_STS is set (Table 2-20). -/
def State.irq (s : State) (f : Fld) : State := s.wr f 0 1

/-- The die incarnation ZX40 holds. -/
def State.zxInc (s : State) : Nat := s.rd ZX_EPC_ID_INCARNATION

/-- An ALARM flit of ZX40 joins those waiting (R144, Table 5-6). -/
def State.zxAlarmAt (s : State) (sub detail extra stamp epoch : Nat) : State :=
  s.enqueue .zx 3 {
    ty := 3, sub := sub, first := true, last := true, part := 0
    payload := alarmPayload s.zxInc (s.rd ZX_EPC_ADDR_DIE_ADDR) (s.flag ZX_EPC_ADDR_SELF) detail epoch extra stamp }

def State.zxAlarm (s : State) (sub detail extra : Nat) : State := s.zxAlarmAt sub detail extra s.zxRc s.zxEpoch

/-- ZX40 runs: no reset, power state Z0 or Z1. -/
def State.zxOn (s : State) : Bool := !s.zx.inReset && decide (s.zx.pwr ≤ 1)

/-- Region tap t is populated (Table 2-25). -/
def State.tapOk (s : State) (t : Nat) : Bool := decide (t < s.rd ZX_BUILD_NUM_TAPS ∧ t < 128)

def State.zxTap (s : State) (t : Nat) : Tap := s.zx.taps.getD t {}

def State.setTap (s : State) (t : Nat) (x : Tap) : State := { s with zx := { s.zx with taps := s.zx.taps.set t x } }

/-! ## Trace records (Tables 3-1 and 3-2) -/

/-- A record of a kind with its stamp (2^-16 ns), word 1 and marks. -/
def trec (kind stamp w1 : Nat) (stretched stopped : Bool := false) : TRec :=
  { w0 := packFields [(16, 48, stampNs stamp), (8, 8, stampFrac stamp / 256), (4, 4, kind), (2, 1, b2n stretched), (1, 1, b2n stopped)]
    w1 := w1 }

def TRec.kind (r : TRec) : Nat := bits r.w0 7 4

/-- POST of a record. -/
def TRec.isPost (r : TRec) : Bool := bitAt r.w0 3

/-- A GAP record of a cause. -/
def gapRec (cause lost stamp : Nat) : TRec := trec 0xA stamp (packFields [(60, 4, cause), (0, 32, min lost 0xFFFFFFFF)])

/-- The EPOCH record of epoch n, whose opening is at ns b. -/
def epochRec (n b : Nat) : TRec := trec 8 (b * 65536) (packFields [(48, 16, b / 2 ^ 48), (0, 48, n)])

/-- The GAP record of DRAIN_DROP that has not drained yet (R92). -/
def TRec.dropGap (r : TRec) : Bool := r.kind == 0xA && bits r.w1 63 60 == 0 && !r.inBurst

/-- Records that drain pressure may drop: POST = 0, undrained, not the GAP record itself. -/
def TRec.droppable (r : TRec) : Bool := !r.isPost && !r.inBurst && !r.dropGap

/-! ## Trace buffers (R88 to R93) -/

def TraceBuf.field (b : TraceBuf) (hi lo : Nat) : Nat := bits b.cfg hi lo
def TraceBuf.postCount (b : TraceBuf) : Nat := b.field 63 52
def TraceBuf.ring (b : TraceBuf) : Bool := b.field 47 46 == 1
def TraceBuf.drain (b : TraceBuf) : Nat := b.field 45 44
def TraceBuf.src (b : TraceBuf) : Nat := b.field 43 42
def TraceBuf.tap (b : TraceBuf) : Nat := b.field 41 35
def TraceBuf.trigSrc (b : TraceBuf) : Nat := b.field 34 32
def TraceBuf.trigLine (b : TraceBuf) : Nat := b.field 31 26

/-- The buffer records: ARMED or POST, and not gated in Z1 (R93). -/
def TraceBuf.recording (b : TraceBuf) : Bool := (b.state == .armed || b.state == .post) && b.gatedAt.isNone

/-- In POST a record written counts, and the last one freezes the buffer (R90). -/
def TraceBuf.countPost (b : TraceBuf) : TraceBuf :=
  if b.state = .post then
    { b with postDone := b.postDone + 1, state := if b.postCount ≤ b.postDone + 1 then .frozen else .post }
  else b

/-- A record takes the next slot, with its POST bit. -/
def TraceBuf.append (b : TraceBuf) (r : TRec) : TraceBuf :=
  let r := if b.state = .post then { r with w0 := r.w0 ||| 8 } else r
  ({ b with recs := b.recs ++ [r], wptr := (b.wptr + 1) % 4096 } : TraceBuf).countPost

/-- The first record that may be dropped leaves the list. -/
def dropOne : List TRec → List TRec
  | [] => []
  | r :: t => if r.droppable then t else r :: dropOne t

/-- The first record that may be dropped becomes a GAP record with its stamp and LOST = 2; the next one leaves the list. -/
def dropTwo (post : Bool) : List TRec → List TRec
  | [] => []
  | r :: t =>
    if r.droppable then
      let g := gapRec 0 2 0
      { g with w0 := (g.w0 % 256) ||| ((r.w0 / 256) * 256) ||| (if post then 8 else 0) } :: dropOne t
    else r :: dropTwo post t

/-- One more lost record in the GAP record of DRAIN_DROP. -/
def bumpGap (rs : List TRec) : List TRec :=
  rs.map (fun r => if r.dropGap then { r with w1 := (r.w1 / 2 ^ 32) * 2 ^ 32 + min 0xFFFFFFFF (r.w1 % 2 ^ 32 + 1) } else r)

/-- Room is made under drain pressure (R92): the buffer, and how many GAP records were written. The first drop of an episode takes two records:
with only one that may be dropped nothing is dropped, and the new record is lost as with none (open in R92; DESIGN CHOICE, log entry 111). -/
def TraceBuf.makeRoom (b : TraceBuf) : Option (TraceBuf × Nat) :=
  if b.recs.any TRec.dropGap then
    (if b.recs.any TRec.droppable then some ({ b with recs := bumpGap (dropOne b.recs) }, 0) else none)
  else if 2 ≤ (b.recs.filter TRec.droppable).length then
    some (({ b with recs := dropTwo (b.state = .post) b.recs } : TraceBuf).countPost, 1)
  else none

/-- A record is lost to the GAP record of INPUT_OVERRUN that the last free slot is kept for. -/
def TraceBuf.lose (b : TraceBuf) (stamp : Nat) : TraceBuf :=
  { b with gapOpen := match b.gapOpen with
    | none => some (1, stamp)
    | some (n, st) => some (n + 1, st) }

/-- The stamp of a record, in 2^-16 ns, as far as the record holds it. -/
def TRec.stamp (r : TRec) : Nat := bits r.w0 63 16 * 65536 + bits r.w0 15 8 * 256

/-- A record that comes while the last free slot is kept for the GAP record of INPUT_OVERRUN is lost and counted, an EPOCH or GAP record like a
source record: R92 speaks of source records only (DESIGN CHOICE, log entry 111).
A record enters the buffer: RING overwrites the oldest, STREAM makes room or loses it. The count is that of GAP records written. -/
def TraceBuf.put (b : TraceBuf) (r : TRec) : TraceBuf × Nat :=
  let g := b2n (r.kind = 0xA)
  if ¬ (b.state = .armed ∨ b.state = .post) then (b, 0)
  else if b.ring then (({ b with recs := if 4096 ≤ b.recs.length then b.recs.drop 1 else b.recs } : TraceBuf).append r, g)
  else if b.gapOpen.isSome then (b.lose r.stamp, 0)
  else if b.recs.length < 4095 ∨ (b.recs.length = 4095 ∧ b.recs.any TRec.droppable) then (b.append r, g)
  else if b.recs.length = 4095 then (b.lose r.stamp, 0)
  else
    match b.makeRoom with
    | some (b', n) => if b'.state = .frozen then (b', n) else (b'.append r, g + n)
    | none => (b.lose r.stamp, 0)

/-- The GAP record of records lost in a flush (R136) enters at their place, the front: with POST = 1 after the trigger, and counted in POST (R90). In a
full buffer it takes the place of the oldest record that may be dropped; with none its count goes to the GAP record kept for (R92). -/
def TraceBuf.flushGap (b : TraceBuf) (g : TRec) (lost : Nat) : TraceBuf × Nat :=
  let g := if b.state = .armed then g else { g with w0 := g.w0 ||| 8 }
  if b.recs.length < 4096 then (({ b with recs := g :: b.recs } : TraceBuf).countPost, 1)
  else if b.recs.any TRec.droppable then (({ b with recs := bumpGap (g :: dropOne b.recs) } : TraceBuf).countPost, 1)
  else ({ b with gapOpen := match b.gapOpen with
    | none => some (lost, g.stamp)
    | some (n, st) => some (n + lost, st) }, 0)

/-- A slot is free again: the kept GAP record is closed. -/
def TraceBuf.closeGap (b : TraceBuf) : TraceBuf × Nat :=
  match b.gapOpen with
  | none => (b, 0)
  | some (n, st) => if b.recs.length < 4096 then (({ b with gapOpen := none } : TraceBuf).append (gapRec 1 n st), 1) else (b, 0)

/-- The waiting source records of the input queue enter the buffer in order. -/
def TraceBuf.flushQ (b : TraceBuf) : TraceBuf × Nat :=
  let q := b.inQ ++ (match b.qGap with
    | none => []
    | some (n, st) => [gapRec 1 n st])
  q.foldl (fun a r => let x := a.1.put r; (x.1, a.2 + x.2)) ({ b with inQ := [], qGap := none }, 0)

/-- A source record joins the 32-record input queue, or is lost (R93). -/
def TraceBuf.source (b : TraceBuf) (r : TRec) : TraceBuf :=
  if ¬ b.recording then b
  else if b.inQ.length < 32 ∧ b.qGap.isNone then { b with inQ := b.inQ ++ [r] }
  else { b with qGap := match b.qGap with
    | none => some (1, r.stamp)
    | some (n, st) => some (n + 1, st) }

/-- The oldest queued record enters the buffer; a GAP record takes the entry that frees. -/
def TraceBuf.take (b : TraceBuf) : TraceBuf × Nat :=
  match b.inQ with
  | [] => (b, 0)
  | r :: t =>
    let q := match b.qGap with
      | none => t
      | some (n, st) => t ++ [gapRec 1 n st]
    ({ b with inQ := q, qGap := none } : TraceBuf).put r

/-- The buffer goes IDLE and holds nothing; what STS says of its last use stays until the next ARM (R95, Table 3-6). -/
def TraceBuf.toIdle (b : TraceBuf) : TraceBuf :=
  { state := .idle, cfg := b.cfg, mask := b.mask, wptr := b.wptr, postDone := b.postDone, refire := b.refire, drainErr := b.drainErr }

/-- A drained buffer that waits for its RELEASE goes IDLE (R90); so does one whose drain an error has stopped for good (R95). -/
def TraceBuf.settle (b : TraceBuf) : TraceBuf :=
  if b.releasing ∧ (b.drainErr ∨ (b.recs = [] ∧ b.gapOpen.isNone)) then b.toIdle else b

def State.trcBuf (s : State) (n : Nat) : TraceBuf := s.zx.trc.getD n {}

def State.setTrc (s : State) (n : Nat) (b : TraceBuf) : State := { s with zx := { s.zx with trc := s.zx.trc.set n b } }

/-- GAP records written are counted and interrupt (R92). -/
def State.gaps (s : State) (n : Nat) : State := if n = 0 then s else (s.ls 0xBD n).irq ZX_IRQ_STS_TRACE

/-- A buffer as changed by an operation that may have written GAP records. -/
def State.putTrc (s : State) (n : Nat) (x : TraceBuf × Nat) : State := (s.setTrc n x.1).gaps x.2

/-- A Heartwood request of a buffer leaves, or waits while the link is down: 8 wait, more merge into the last (R91). -/
def State.hwRequest (s : State) (buf cause : Nat) : State :=
  if (s.link .zx).lstate = .active then s.zxAlarm 0x10 (buf * 256 + cause) 0
  else if s.zx.hwReqs.length < 8 then
    let q : HwReq := { buf := buf, cause := cause, stamp := s.zxRc, epoch := s.zxEpoch }
    { s with zx := { s.zx with hwReqs := s.zx.hwReqs ++ [q] } }
  else
    { s with zx := { s.zx with hwReqs := s.zx.hwReqs.take 7 ++ (s.zx.hwReqs.drop 7).map (fun (q : HwReq) =>
      { q with merged := min 0xFFFFFFFF (q.merged + 1) }) } }

/-- The waiting Heartwood requests leave once the link is up. -/
def State.sendHwReqs (s : State) : State :=
  s.zx.hwReqs.foldl (fun s q => s.zxAlarmAt 0x10 (q.buf * 256 + q.cause) q.merged q.stamp q.epoch) { s with zx := { s.zx with hwReqs := [] } }

/-- A trigger reaches a buffer (R89 to R91): records that came before it are written first (Table 3-14). In Z1 an ARMED buffer takes every
trigger as in Z0, TRIGGER record and POST: R93 stops its recording, R89 names no power state (DESIGN CHOICE, log entry 44). -/
def State.trigger (s : State) (n cause : Nat) : State :=
  let b := s.trcBuf n
  match b.state with
  | .idle => s
  | .armed =>
    let x := b.flushQ
    let y := x.1.put (trec 9 s.zxRc (cause * 2 ^ 61))
    let b := { y.1 with state := if y.1.postCount = 0 then .frozen else .post, postDone := 0 }
    (s.putTrc n (b, x.2 + y.2)).ls 0xBE
  | _ => (s.setTrc n { b with refire := min 255 (b.refire + 1) }).hwRequest n cause

/-- Every buffer that selects a trigger source is triggered in the same tick. -/
def State.triggerSource (s : State) (src : Nat) (p : TraceBuf → Bool := fun _ => true) : State :=
  (List.range 8).foldl (fun s n => if (s.trcBuf n).trigSrc = src && p (s.trcBuf n) then s.trigger n src else s) s

/-- The EPOCH record of the epoch now open enters a buffer, after the records queued before it. -/
def State.epochMark (s : State) (n : Nat) : State :=
  match s.zx.sched.bind (fun c => (c.at_ s.zxNs).map (fun e => epochRec e (c.open_ e))) with
  | none => s
  | some r =>
    let x := (s.trcBuf n).flushQ
    let y := x.1.put r
    s.putTrc n (y.1, x.2 + y.2)

/-- Bursts of a buffer that has gone IDLE are no longer of any buffer: answered ones are done with, the others are awaited. -/
def State.orphanBursts (s : State) (n : Nat) : State :=
  if (s.trcBuf n).state = .idle then
    { s with zx := { s.zx with bursts := (s.zx.bursts.filter (fun b => !(b.buf == n && b.answer != 0))).map (fun (b : Burst) =>
      if b.buf = n then { b with buf := 8 } else b) } }
  else s

/-- ARM (R88): settings sampled, contents emptied, DWR and DRD cleared. In Z1 the buffer enters ARMED and its EPOCH record waits for Z0 (R93); the
GAP record of cause GATED then carries the instant of ARM, since the buffer had nothing to record at the entry to Z1 (DESIGN CHOICE, log
entry 112). -/
def State.trcArm (s : State) (n : Nat) : State :=
  if (s.trcBuf n).state ≠ .idle ∨ s.rd ZX_TRC_CFG_MODE n = 0 then s
  else
    let cfg := packFields ((Reg.fields .ZX_TRC_CFG).map (fun f => (f.lo, f.width, s.rd f n)))
    let b : TraceBuf := { state := .armed, cfg := cfg, mask := s.rd ZX_TRC_MASK_MASK n, gatedAt := if s.zx.pwr = 1 then some s.zxRc else none }
    let s := ((s.setTrc n b).wr ZX_TRC_DWR_DWR n 0).wr ZX_TRC_DRD_DRD n 0
    if s.zx.pwr = 1 then s else s.epochMark n

/-- RELEASE (R90). -/
def State.trcRelease (s : State) (n : Nat) : State :=
  let b := s.trcBuf n
  if b.state = .idle then s
  else if b.ring then (s.setTrc n b.toIdle).orphanBursts n
  else
    let x := b.flushQ
    (s.putTrc n (({ x.1 with state := .frozen, releasing := true } : TraceBuf).settle, x.2)).orphanBursts n

/-- Drained records leave the front of a buffer: a kept GAP record is closed, a release completes. -/
def State.trcFree (s : State) (n count : Nat) : State :=
  let b := s.trcBuf n
  let x := ({ b with recs := b.recs.drop count } : TraceBuf).closeGap
  s.putTrc n (x.1.settle, x.2)

/-! ## The epoch log (R102 to R106) -/

/-- A barrier stamp word (Table 3-10). -/
def barWord (x : Nat × Nat) : Nat := packFields [(60, 4, x.2), (8, 48, stampNs x.1), (0, 8, stampFrac x.1 / 256)]

/-- The bytes of an entry (Table 3-12). R19 says that the snapshot is stamped with the die address; the table has no field for it, and the entry
holds none (log entry 113). -/
def LogEntry.bytes (e : LogEntry) : Bytes :=
  let nctr := e.ctrs.length
  let w24 := packFields [(17, 15, nctr), (6, 11, e.stamps.length), (0, 1, b2n e.stepped), (1, 1, b2n e.stampsOvf)]
  let en := (List.range 2048).map (fun i => BitVec.ofNat 8 ((List.range 8).foldl (fun a j =>
    if (e.ctrs.find? (8 * i + j)).isSome then a + 2 ^ j else a) 0))
  let body := wordBytes [packFields [(48, 16, e.incarnation), (0, 48, e.epoch)], e.cNs, packFields [(48, 16, e.gen), (0, 32, e.grs.getD 0)], w24] ++
    leBytes 16 e.stopped ++ leBytes 16 e.stretched ++ wordBytes ((List.range 256).map (fun k => e.ls.getD k 0)) ++ en ++
    e.ctrs.flatMap (fun c => leBytes 4 c.2) ++ ((e.sns.getD []).flatMap (leBytes 4)) ++ e.stamps.flatMap (fun x => leBytes 8 (barWord x))
  padTo e.size body

/-- An entry is acknowledged. -/
def State.logAcked (s : State) (e : LogEntry) : Bool := s.flag ZX_LOG_ACKED_VALID && decide (e.epoch ≤ s.rd ZX_LOG_ACKED_EPOCH)

/-- Room for an entry of a size (R103): oldest first, each unacknowledged one freed being counted. -/
def State.logRoom (s : State) (size : Nat) : Nat → State
  | 0 => s
  | k + 1 =>
    if logUsed s.zx.log + size ≤ 2097152 then s
    else
      match s.zx.log with
      | [] => s
      | e :: t =>
        let evicted := !s.logAcked e
        let s1 := { s with zx := { s.zx with log := t, unsent := s.zx.unsent.filter (fun n => n ≠ e.epoch) } }
        let s2 := if evicted then (s1.ls 0x8F).irq ZX_IRQ_STS_LOG else s1
        s2.logRoom size k

/-- A change of the entry of an epoch. -/
def State.modEntry (s : State) (n : Nat) (f : LogEntry → LogEntry) : State :=
  { s with zx := { s.zx with log := s.zx.log.map (fun (e : LogEntry) => if e.epoch = n then f e else e) } }

def State.entry? (s : State) (n : Nat) : Option LogEntry := s.zx.log.find? (fun e => e.epoch = n)

/-- The oldest epoch not yet acknowledged in the log. -/
def State.oldestUnacked (s : State) : Option Nat := (s.zx.log.find? (fun e => !s.logAcked e)).map (·.epoch)

/-- A resend pass begins at an epoch; entries never sent go with it in ascending order (R105). -/
def State.startPass (s : State) (cursor : Nat) (floor : Option Nat) : State :=
  let c := s.zx.unsent.foldl min cursor
  { s with zx := { s.zx with pass := some (c, floor) } }

/-- A completed retrain sends every unacknowledged entry again; a running pass restarts from the oldest (Table 3-14). -/
def State.resendUnacked (s : State) : State :=
  match s.oldestUnacked with
  | none => s
  | some n => s.startPass n (s.zx.pass.bind (·.2))

/-- LOG_RESEND from F: a running pass restarts from F when F is below its next epoch. -/
def State.resendFrom (s : State) (f : Nat) : State :=
  match s.zx.pass with
  | none => s.startPass f (some f)
  | some (c, fl) =>
    { s with zx := { s.zx with pass := some (min c f, some (match fl with | none => f | some g => min f g)) } }

/-- The next snapshot to send: its epoch and whether it is sent again. An entry may go once its sensor values are written (R102). -/
def State.nextSnap (s : State) : Option (Nat × Bool) :=
  let again : Option LogEntry := match s.zx.pass with
    | none => none
    | some (c, fl) => s.zx.log.find? (fun e =>
        c ≤ e.epoch && (s.zx.unsent.contains e.epoch || !s.logAcked e || (match fl with | none => false | some f => decide (f ≤ e.epoch))))
  match again with
  | some e => if e.sns.isSome then some (e.epoch, !s.zx.unsent.contains e.epoch) else none
  | none => (s.zx.log.find? (fun e => s.zx.unsent.contains e.epoch && e.sns.isSome)).map (fun e => (e.epoch, false))

/-- Sending of a snapshot begins: a pass moves past it, or is over when it has nothing left. -/
def State.beginSnap (s : State) (n : Nat) : State :=
  let pass := match s.zx.pass with
    | none => none
    | some (c, fl) => if c ≤ n then some (n + 1, fl) else none
  { s with zx := { s.zx with unsent := s.zx.unsent.filter (fun m => m ≠ n), pass := pass } }

/-- A pass with no entry left to send is over. -/
def State.endPass (s : State) : State :=
  match s.zx.pass with
  | none => s
  | some (c, fl) =>
    if s.zx.log.any (fun e => c ≤ e.epoch && (s.zx.unsent.contains e.epoch || !s.logAcked e ||
        (match fl with | none => false | some f => decide (f ≤ e.epoch)))) then s
    else { s with zx := { s.zx with pass := none } }

/-! ## Counter selections (R66 to R68) -/

/-- A programmed selection word. -/
def State.setSel (s : State) (n w : Nat) : State :=
  { s with zx := { s.zx with ctrSel := if w = 0 then s.zx.ctrSel.erase n else s.zx.ctrSel.set n w } }

/-- The programmed selections come into force at a boundary; a counter whose selection changes starts at 0, and the old selection still
counts the edges before the tap's latch edge. A word written again unchanged is no new selection and VAL goes on; one that differs in any
field, TENANT and REASON_MASK included, is one (R67 leaves both open; DESIGN CHOICE, log entry 114). -/
def State.loadSel (s : State) : State :=
  let keys := ((s.zx.ctrSel.map (·.1)) ++ (s.zx.ctrLive.map (·.1))).eraseDups
  let changed := keys.filter (fun n => s.zx.ctrSel.getD n 0 ≠ s.zx.ctrLive.getD n 0)
  let old := changed.foldl (fun (m : SMap Nat) n => m.set n (s.zx.ctrLive.getD n 0)) ([] : SMap Nat)
  let s := { s with zx := { s.zx with
    ctrOld := s.zx.ctrOld.foldl (fun (m : SMap Nat) x => m.set x.1 x.2) old, ctrPrev := changed.foldl (fun (m : SMap Nat) n => m.erase n) s.zx.ctrPrev, ctrLive := s.zx.ctrSel } }
  changed.foldl (fun s n => s.wr ZX_CTR_VAL_VAL n 0) s

/-- Quiet-window settings as last written come into force at a boundary (R78). -/
def State.loadQw (s : State) : State :=
  { s with zx := { s.zx with qwLive := (List.range 4).map (fun n => (n, (s.readReg .ZX_QW_TIME n, s.readReg .ZX_QW_SPAN n))) } }

/-! ## Grove-S banks (R268) -/

/-- ZX_GRS_STS shows the live bank, as it now stands rewritten: IMG_VALID, IMG_ERR cleared, GEN and MODEL_ID (Table 9-26). -/
def State.showImage (s : State) : State :=
  let b := s.zx.grsLive
  let s := (s.wr ZX_GRS_STS_IMG_VALID 0 (b2n (b ≠ []))).wr ZX_GRS_STS_IMG_ERR 0 0
  let s := s.wr ZX_GRS_STS_GEN 0 (if b = [] then 0 else bits (rdLe b 56 8) 63 48)
  s.wr ZX_GRS_STS_MODEL_ID 0 (if b = [] then 0 else (parseModel b).modelId)

/-- The banks change roles once no vote of an epoch before M is outstanding. -/
def State.grsSwitch (s : State) : State :=
  match s.zx.grsRole with
  | none => s
  | some m =>
    if s.zx.log.any (fun e => decide (e.epoch < m) && e.grs.isNone) ∨ (s.zx.snsWin.any (fun w => decide (w.epoch < m))) then s
    else
      let live := if s.zx.stagedGrs then s.zx.grsStaged else []
      let s := { s with zx := { s.zx with
        grsRole := none, grsLive := live, grsStaged := s.zx.grsLive, stagedGrs := false, grsErr := false, grsFrom := 0, grsWriting := false } }
      s.showImage.wr ZX_GRS_STS_STAGED_VALID 0 0

/-! ## The hang dump (R98 to R100) -/

/-- State and stall reason of engine e from sampled lines (R63): STATE 0b11 counts as stalled with reason 7. -/
def engineOf (lines e : Nat) : Nat × Nat :=
  let st := bits lines (5 * e + 1) (5 * e)
  if st = 3 then (3, 7) else (st, if st = 2 then bits lines (5 * e + 4) (5 * e + 2) else 0)

/-- Microseconds since a Ringcount. -/
def State.usSince (s : State) (st : Nat) : Nat := (s.zxRc - st) / 65536 / 1000

def State.tapNums (s : State) : List Nat := (List.range 128).filter (fun t => s.tapOk t)

/-- The engines of populated taps that meet cause 0. -/
def State.stalledEngines (s : State) : List (Nat × Nat) :=
  let us := s.rd ZX_HD_CFG_STALL_US
  if us = 0 then []
  else s.tapNums.flatMap (fun t => ((List.range (s.rd ZX_TAP_CFG_ENGINES t)).filter (fun e =>
    decide (2 ≤ (engineOf (s.zxTap t).lines e).1) && decide (us ≤ s.usSince ((s.zxTap t).stallFrom.getD e 0)))).map (fun e => (t, e)))

/-- The taps that meet cause 1. -/
def State.stoppedTaps (s : State) : List Nat :=
  let us := s.rd ZX_HD_CFG_STALL_US
  if us = 0 then [] else s.tapNums.filter (fun t => s.flag ZX_TAP_STS_STOPPED t && decide (us ≤ s.usSince (s.zxTap t).stopMark))

/-- The barrier lines that meet cause 2. -/
def State.lateLines (s : State) : List Nat :=
  let us := s.rd ZX_HD_CFG_BAR_US
  if us = 0 then []
  else (List.range 16).filter (fun l => bitAt (s.rd ZX_HD_CFG_BAR_MASK) l &&
    decide (us ≤ s.usSince (max ((s.zx.barLast.find? l).map (·.1) |>.getD 0) (s.zx.barSince.getD l 0))))

/-- A drain write has waited 1,000 us (cause 3). -/
def State.axiStuck (s : State) : Bool :=
  s.flag ZX_HD_CFG_AXI_EN && s.zx.bursts.any (fun b => decide (b.answer = 0 ∧ b.at_ + 1000000 ≤ s.zxNs))

/-- The causes 0 to 3 whose condition holds now. -/
def State.hangCauses (s : State) : Nat :=
  b2n (s.stalledEngines ≠ []) + 2 * b2n (s.stoppedTaps ≠ []) + 4 * b2n (s.lateLines ≠ []) + 8 * b2n s.axiStuck

/-- The dump's word at 0x0018: tap, engine and line of the first cause found. -/
def State.firstCause (s : State) (causes : Nat) : Nat :=
  if bitAt causes 0 then let x := s.stalledEngines.headD (0, 0); x.1 * 512 + x.2 * 64
  else if bitAt causes 1 then s.stoppedTaps.headD 0 * 512
  else if bitAt causes 2 then s.lateLines.headD 0 * 4
  else 0

/-- The 8,192 bytes of the hang dump (Tables 3-9 and 5-19). Table 3-9 names what the 16 B of an outstanding write and the 32 B of a buffer hold
and not where: AWADDR 8 B, AWID 4 B, age 4 B; STS 8 B, DWR 4 B, DRD 4 B, rest 0 (DESIGN CHOICE, log entry 115). -/
def State.dumpOf (s : State) (causes : Nat) : Bytes :=
  let l := s.link .zx
  let head := wordBytes [s.zxNs, packFields [(48, 16, stampFrac s.zxRc), (32, 16, s.zxInc), (14, 18, s.rd ZX_EPC_ADDR_DIE_ADDR),
      (13, 1, s.rd ZX_EPC_ADDR_SELF), (0, 8, causes)], s.zxEpoch, s.firstCause causes] ++ zeroBytes 32
  let stem := padTo 64 (wordBytes [s.readReg .STM_STS, s.readReg .ZX_STM_CNT, l.lastRx, l.lastTx, l.lastChange] ++ leBytes 4 (s.readReg .ZX_STM_PMA_LAT))
  let bars := wordBytes ((List.range 16).map (fun i => match s.zx.barLast.find? i with
    | none => 0
    | some x => barWord (x.1, i)))
  let trc := (List.range 8).flatMap (fun n => padTo 32 (leBytes 8 (packFields ((s.trcBuf n).sts.map (fun x => (x.1.lo, x.1.width, x.2)))) ++
    leBytes 4 (s.rd ZX_TRC_DWR_DWR n) ++ leBytes 4 (s.rd ZX_TRC_DRD_DRD n)))
  let axi := padTo 256 ((s.zx.bursts.filter (fun b => b.answer = 0)).flatMap (fun b =>
    leBytes 8 b.addr ++ leBytes 4 b.id ++ leBytes 4 ((s.zxNs - b.at_) / 1000)))
  let lines := wordBytes ((List.range 128).map (fun t => (s.zxTap t).lines))
  let eng := (List.range 128).flatMap (fun t => (List.range 8).flatMap (fun e =>
    if ¬ s.tapOk t ∨ s.rd ZX_TAP_CFG_ENGINES t ≤ e then zeroBytes 4
    else
      let x := engineOf (s.zxTap t).lines e
      leBytes 4 (packFields [(8, 24, min 0xFFFFFF (s.usSince ((s.zxTap t).change.getD e 0))), (5, 3, x.2), (0, 2, x.1)])))
  let ls := wordBytes ((List.range 256).map (fun k => s.rd ZX_LS_VAL_VAL k))
  head ++ stem ++ bars ++ trc ++ axi ++ zeroBytes 256 ++ lines ++ eng ++ ls

/-- A declaration (R98 to R100): the dump is taken as of this tick, or, while one is held or being captured, the causes are added. -/
def State.declareHang (s : State) (causes : Nat) : State :=
  if s.zx.dump ≠ [] then
    (s.bump ZX_HD_STS_MISSED).wr ZX_HD_STS_PEND 0 (s.rd ZX_HD_STS_PEND ||| causes)
  else
    let s := ({ s with zx := { s.zx with dump := s.dumpOf causes } }).wr ZX_HD_STS_CAUSE 0 causes
    s.triggerSource 4

/-- A held dump that has been sent is released; a condition that still holds declares at once (R100). -/
def State.releaseHang (s : State) : State :=
  if ¬ s.flag ZX_HD_STS_HELD ∨ ¬ s.flag ZX_HD_STS_SENT then s
  else
    let s := { s with zx := { s.zx with dump := [], hangOn := s.hangCauses } }
    let s := (((s.wr ZX_HD_STS_HELD 0 0).wr ZX_HD_STS_SENT 0 0).wr ZX_HD_STS_PEND 0 0).wr ZX_HD_STS_CAUSE 0 0
    if s.zx.hangOn = 0 then s else s.declareHang s.zx.hangOn

end Sys2Proof.Machine
end

