-- ==== Sys2Proof/Machine/Blaze.lean ====
section
/-! DEFINITION. Blaze words (R184 to R189) and the check units of ZX40 (R192 to R200). Unit u of ZX40 has register index u, unit u of
BX64 index 16 + u. -/
namespace Sys2Proof.Machine

/-! ## The Blaze word -/

/-- WCRC over bits [63:8] of a word (R187). -/
def wcrc (w : Nat) : Nat := crcGen 8 0x2F 0xFF false false 0xFF ((leBytes 8 w).drop 1)

/-- CHECK as a unit's configuration gives it (R186), folding as asked. -/
def State.blzCheck (s : State) (u : Nat) (data : Bytes) (addr seq : Nat) (addrFold seqFold : Bool) : Nat :=
  let msg := data ++ (if addrFold then leBytes 8 addr else []) ++ (if seqFold then leBytes 4 seq else [])
  crcGen (if s.flag BLZ_CFG_WIDTH16 u then 16 else 32) (s.rd BLZ_POLY_POLY u) (s.rd BLZ_POLY_INIT u) (s.flag BLZ_CFG_REFIN u)
    (s.flag BLZ_CFG_REFOUT u) (s.rd BLZ_XOROUT_XOROUT u % 2 ^ (if s.flag BLZ_CFG_WIDTH16 u then 16 else 32)) msg

/-- The word a unit forms (Table 7-1): the unit's fold bits and a FMT byte ([7:4] FMT, [3] SCALED, [2] COMPRESSED). -/
def State.blzForm (s : State) (u : Nat) (data : Bytes) (addr seq fmt : Nat) : Nat :=
  let af := s.flag BLZ_CFG_ADDR_FOLD u
  let sf := s.flag BLZ_CFG_SEQ_FOLD u
  let w := packFields [(32, 32, s.blzCheck u data addr seq af sf), (16, 16, seq), (12, 4, bits fmt 7 4), (11, 1, bits fmt 3 3),
    (10, 1, bits fmt 2 2), (9, 1, b2n af), (8, 1, b2n sf)]
  w + wcrc w

/-- Outcomes of Table 7-3, and CHECK_CORRUPT's own code. -/
def blzReported : Nat := 0
def blzOk : Nat := 1
def blzMismatch : Nat := 2
def blzStale : Nat := 3
def blzCorrupt : Nat := 4
def blzUnverified : Nat := 5
def blzMalformed : Nat := 6
def blzUnpoisoned : Nat := 7

/-- The outcome of a block with its word (R189). -/
def State.blzJudge (s : State) (u : Nat) (data : Bytes) (addr seq word : Nat) : Nat :=
  if wcrc word ≠ word % 256 then blzCorrupt
  else if bits word 31 16 ≠ seq % 65536 then blzStale
  else if s.blzCheck u data addr seq (bitAt word 9) (bitAt word 8) ≠ bits word 63 32 then blzMismatch
  else blzOk

/-- FMT 0xF, or SCALED with a format other than 0x5 to 0x9 (R185): counted, and untyped at the commit gate. -/
def blzUntyped (word : Nat) : Bool :=
  bits word 15 12 = 0xF || (bitAt word 11 && !(decide (5 ≤ bits word 15 12) && decide (bits word 15 12 ≤ 9)))

/-- The counters of a unit for an outcome (Table 7-11). -/
def State.blzCount (s : State) (u outcome : Nat) : State :=
  let s := if outcome ≤ 4 then s.bump BLZ_CNT0_CHECKED u else s
  match outcome with
  | 2 => s.bump BLZ_CNT0_MISMATCH u
  | 3 => s.bump BLZ_CNT1_STALE u
  | 4 => s.bump BLZ_CNT1_CORRUPT u
  | 5 => s.bump BLZ_CNT1_UNVERIFIED u
  | 6 => s.bump BLZ_CNT1_MALFORMED u
  | _ => s

/-- LAST of a unit (Table 7-12). -/
def State.blzLast (s : State) (u outcome addr tag : Nat) : State :=
  if outcome ≤ 1 then s
  else (((s.wr BLZ_LAST_ADDR u (addr / 256)).wr BLZ_LAST_OUTCOME u outcome).wr BLZ_LAST_VALID u 1).wr BLZ_LAST_TAG u tag

/-- The block size of a unit. -/
def State.blzSize (s : State) (u : Nat) : Nat := 256 * 2 ^ min 8 (s.rd BLZ_CFG_BLOCK u)

/-! ## Reports of ZX40 (R199) -/

/-- OUTCOME of a report entry. -/
def BlzReport.outcome (r : BlzReport) : Nat := bits r.w0 23 20

/-- The first OK or REPORTED entry leaves the queue. -/
def dropCalm : List BlzReport → List BlzReport
  | [] => []
  | r :: t => if r.outcome ≤ 1 then t else r :: dropCalm t

def State.blzReport (s : State) (u outcome addr tag word : Nat) : State :=
  let r : BlzReport := { w0 := packFields [(24, 40, addr / 256), (20, 4, outcome), (16, 4, u), (0, 16, tag)], w1 := word, epoch := s.zxEpoch }
  let q := s.zx.reports
  if q.length < 256 then { s with zx := { s.zx with reports := q ++ [r] } }
  else if 1 < outcome ∧ q.any (fun x => decide (x.outcome ≤ 1)) then { s with zx := { s.zx with reports := dropCalm q ++ [r] } }
  else s.bump ZX_BLZ_STS_REPORT_LOST

/-! ## Units of ZX40 (R193 to R198) -/

def State.blzUnit (s : State) (u : Nat) : BlzUnit := s.zx.blz.getD u {}

def State.setBlz (s : State) (u : Nat) (x : BlzUnit) : State := { s with zx := { s.zx with blz := s.zx.blz.set u x } }

def BlzBlock.addr (b : BlzBlock) : Nat := rdLe b.header 0 8
def BlzBlock.word (b : BlzBlock) : Nat := rdLe b.header 8 8
def BlzBlock.seq (b : BlzBlock) : Nat := rdLe b.header 16 4
def BlzBlock.tag (b : BlzBlock) : Nat := rdLe b.header 20 2

/-- A MALFORMED block is counted and reported, and the unit waits for the next header (R195). -/
def State.blzBad (s : State) (u : Nat) (b : BlzBlock) : State :=
  let s := s.setBlz u { s.blzUnit u with block := none, skip := true }
  ((s.blzCount u blzMalformed).blzLast u blzMalformed b.addr b.tag).blzReport u blzMalformed b.addr b.tag b.word

/-- One beat at a unit: its bytes and control lines. With EN = 0 only the block in progress takes beats (R200). -/
def State.blzBeat (s : State) (u : Nat) (bytes : Bytes) (ctl : Nat) : State :=
  let x := s.blzUnit u
  let head := bitAt ctl 1
  let last := bitAt ctl 2
  if ¬ bitAt ctl 0 ∨ (x.block.isNone ∧ ¬ s.flag BLZ_CFG_EN u) then s
  else if x.block.isNone ∧ x.skip ∧ ¬ head then s
  else
    let b := x.block.getD {}
    let s := s.setBlz u { x with skip := false }
    if bits ctl 7 4 ≠ 0 then s.blzBad u b
    else if head then
      let b' := { b with header := (b.header ++ bytes).take 32, represent := b.represent || bitAt ctl 3 }
      if b.data ≠ [] ∨ last then s.blzBad u b' else s.setBlz u { s.blzUnit u with block := some b' }
    else if b.header.length < 32 then s.blzBad u b
    else
      let b' := { b with data := b.data ++ bytes }
      let n := s.blzSize u
      if n < b'.data.length ∨ (last ∧ (b'.data.length ≠ n ∨ b.addr % n ≠ 0)) then s.blzBad u b'
      else if last then s.setBlz u { s.blzUnit u with block := none, ready := x.ready ++ [b'] }
      else s.setBlz u { s.blzUnit u with block := some b' }

/-- The refetch slot of a block, by address and TAG (R197). -/
def BlzUnit.slotOf (x : BlzUnit) (addr tag : Nat) : Option Nat :=
  (List.find? (fun (e : Nat × RefetchEntry) => e.2.addr == addr && e.2.tag == tag) x.refetch).map (·.1)

/-- A block becomes UNVERIFIED. -/
def State.blzUnverify (s : State) (u addr tag word : Nat) : State :=
  ((s.blzCount u blzUnverified).blzLast u blzUnverified addr tag).blzReport u blzUnverified addr tag word

/-- A condemned block (R198): poison requests, alarm, interrupt, trace trigger; the outcome reported. -/
def State.blzCondemn (s : State) (u outcome : Nat) (b : BlzBlock) : State :=
  let room := decide (s.zx.psnQ.length < 16)
  let poison := s.flag BLZ_CFG_POISON u
  let grans := (List.range (s.blzSize u / 64)).map (fun i => b.addr / 64 % 2 ^ 42 + i)
  let s := if poison then (if room then { s with zx := { s.zx with psnQ := s.zx.psnQ ++ [grans] } } else s.bump ZX_BLZ_STS_PSN_OVF) else s
  let out := if poison && !room then blzUnpoisoned else outcome
  let s := s.zxAlarm 2 u b.addr
  let s := if s.flag BLZ_CFG_IRQ_EN u then s.irq ZX_IRQ_STS_ALARM else s
  ((s.triggerSource 3).blzLast u out b.addr b.tag).blzReport u out b.addr b.tag b.word

/-- An injection at a unit's input (R205, R510), reported as a HEARTWOOD_REQ: bit arg of the word or of the block flipped while the injector has one left. -/
def State.blzInject (s : State) (u : Nat) (b : BlzBlock) : BlzBlock × State :=
  match s.zx.inj.find? u with
  | none => (b, s)
  | some (action, arg, left) =>
    let b' := if action = 2 then { b with header := flipBit b.header (64 + arg % 64) } else { b with data := flipBit b.data arg }
    let inj := if left ≤ 1 then s.zx.inj.erase u else s.zx.inj.set u (action, arg, left - 1)
    (b', ({ s with zx := { s.zx with inj := inj } }).zxAlarm 0x10 (0xFE00 + u) b.addr)

/-- BLAZE_CLASSIFY: unit u classifies the oldest block whose LAST beat has come, or forms its word (R196, R197). -/
def execBlazeClassify (u : Nat) (s : State) : Host.Outcome State Fault Refusal :=
  let x := s.blzUnit u
  match x.ready with
  | [] => done s
  | b0 :: rest =>
    let s := s.setBlz u { x with ready := rest }
    let (b, s) := s.blzInject u b0
    let x := s.blzUnit u
    if s.rd BLZ_CFG_MODE u = 1 then
      let fmt := rdLe b.header 22 1
      let w := s.blzForm u b.data b.addr b.seq fmt
      let s := if blzUntyped w then s.bump BLZ_CNT1_MALFORMED u else s
      done (((s.ls 0xB8).blzCount u blzReported).blzReport u blzReported b.addr b.tag w)
    else
      let slot := if b.represent then x.slotOf b.addr b.tag else none
      let s := match slot with
        | none => s
        | some k => s.setBlz u { x with refetch := x.refetch.erase k }
      let o := s.blzJudge u b.data b.addr b.seq b.word
      let s := if blzUntyped b.word then s.bump BLZ_CNT1_MALFORMED u else s
      let s := (s.ls 0xB8).blzCount u o
      if o = blzCorrupt then
        let s := s.ls 0xBA
        let free := (List.range 16).find? (fun k => ((s.blzUnit u).refetch.find? k).isNone)
        match slot, free with
        | none, some k =>
          let y := s.blzUnit u
          let s := s.setBlz u { y with refetch := y.refetch.set k { addr := b.addr, tag := b.tag, at_ := s.zxNs, word := b.word } }
          done ((s.blzLast u o b.addr b.tag).blzReport u o b.addr b.tag b.word)
        | _, _ => done (s.blzUnverify u b.addr b.tag b.word)
      else if o = blzOk then
        if s.rd BLZ_CFG_MODE u = 2 ∨ s.flag BLZ_CFG_REPORT_OK u ∨ b.represent then done (s.blzReport u o b.addr b.tag b.word) else done s
      else done ((s.ls 0xB9).blzCondemn u o b)

/-- A refetch entry of slot k becomes UNVERIFIED and leaves the list; its report carries the word presented (Table 7-5). -/
def State.blzExpire (s : State) (u k : Nat) : State :=
  let x := s.blzUnit u
  match x.refetch.find? k with
  | none => s
  | some e =>
    (s.setBlz u { x with refetch := x.refetch.erase k }).blzUnverify u e.addr e.tag e.word

/-- A block with the entry's address and TAG is being presented again: re-presentation wins over expiry and flush (Table 7-16). -/
def State.blzComing (s : State) (u : Nat) (e : RefetchEntry) : Bool :=
  let x := s.blzUnit u
  (x.block.toList ++ x.ready).any (fun b => b.represent && 32 ≤ b.header.length && b.addr = e.addr && b.tag = e.tag)

/-- BLAZE_REFETCH_TIMEOUT: entry k of unit u has not been re-presented within REFETCH_US. -/
def execBlazeRefetchTimeout (u k : Nat) (s : State) : Host.Outcome State Fault Refusal :=
  match (s.blzUnit u).refetch.find? k with
  | none => done s
  | some e =>
    if s.blzComing u e ∨ s.zxNs < e.at_ + max 1 (s.rd ZX_BLZ_CTRL_REFETCH_US) * 1000 then done s else done (s.blzExpire u k)

/-- BLZ_FLUSH_RF: FLUSH_RF of ZX_BLZ_u_CTRL written 1. -/
def execBlzFlushRf (u : Nat) (s : State) : Host.Outcome State Fault Refusal :=
  done ((List.range 16).foldl (fun s k =>
    match (s.blzUnit u).refetch.find? k with
    | none => s
    | some e => if s.blzComing u e then s else s.blzExpire u k) s)

/-- BLZ_CNT_CLR: CNT_CLR of ZX_BLZ_u_CTRL written 1. -/
def execBlzCntClr (u : Nat) (s : State) : Host.Outcome State Fault Refusal :=
  let s := (s.wr BLZ_CNT0_CHECKED u 0).wr BLZ_CNT0_MISMATCH u 0
  done ((((s.wr BLZ_CNT1_STALE u 0).wr BLZ_CNT1_CORRUPT u 0).wr BLZ_CNT1_UNVERIFIED u 0).wr BLZ_CNT1_MALFORMED u 0)

/-- A 64-bit write of CFG (which 0), POLY (1) or XOROUT (2) of a unit (R200): while EN is 1, one that changes any field other than EN is
refused. The value is stored as Table 7-9 says; the answer is false for PSLVERR. -/
def State.blzWrite (s : State) (u which v : Nat) : Bool × State :=
  let r : Reg := if which = 0 then .BLZ_CFG else if which = 1 then .BLZ_POLY else .BLZ_XOROUT
  let mode := if bits v 62 61 = 3 then 0 else bits v 62 61
  let v1 : Nat := if which = 0 then bitAt v 63 |> b2n |> fun e => e * 2 ^ 63 + mode * 2 ^ 61 + bits v 60 53 * 2 ^ 53 + min 8 (bits v 52 49) * 2 ^ 49 + v % 2 ^ 49
    else v % 2 ^ 64
  let old : Nat := s.readReg r u
  let known : Nat := packFields ((Reg.fields r).map (fun (f : Fld) => (f.lo, f.width, bits v1 f.hi f.lo)))
  let same : Bool := if which = 0 then known % 2 ^ 63 == old % 2 ^ 63 else known == old
  if s.flag BLZ_CFG_EN u && !same then (false, s) else (true, s.setReg r u v1)

/-- BLZ_CFG_WRITE: a write of CFG, POLY or XOROUT of ZX40's unit u over APB, or of a BX64 unit. -/
def execBlzCfgWrite (part : Part) (u which v : Nat) (s : State) : Host.Outcome State Fault Refusal :=
  let i := if part = .zx then u else 16 + u
  let r := s.blzWrite i which (v &&& Reg.mask (if which = 0 then .BLZ_CFG else if which = 1 then .BLZ_POLY else .BLZ_XOROUT) i)
  if part ≠ .zx then done r.2
  else if s.zx.inReset ∨ 2 ≤ s.zx.pwr then done s
  else if r.1 then done (r.2.emit (.apb 0 false))
  else done ((r.2.ls 0xCB).emit (.apb 0 true))

end Sys2Proof.Machine
end

