-- ==== Sys2Proof/Machine/RedOps.lean ====
section
/-! DEFINITION. The reduction's arithmetic (R210 to R226): the fields of a snapshot (Table 3-12), slot sources (Table 8-4), operators
(Table 8-5), merged contributions, the bytes of partials (Table 8-6), records (Tables 8-7 to 8-9) and completeness vectors. -/
namespace Sys2Proof.Machine

/-! ## A snapshot (Table 3-12) -/

def snapInc (b : Bytes) : Nat := rdLe b 6 2
def snapEpoch (b : Bytes) : Nat := rdLe b 0 6
def snapClose (b : Bytes) : Nat := rdLe b 8 8
def snapGen (b : Bytes) : Nat := rdLe b 22 2
def snapGrs (b : Bytes) : Nat := rdLe b 16 4
def snapNctr (b : Bytes) : Nat := bits (rdLe b 24 4) 31 17
def snapNstamp (b : Bytes) : Nat := bits (rdLe b 24 4) 16 6
def snapStepped (b : Bytes) : Bool := bitAt (rdLe b 24 4) 0
def snapOvf (b : Bytes) : Bool := bitAt (rdLe b 24 4) 1

/-- Light-set count k. -/
def snapLs (b : Bytes) (k : Nat) : Nat := rdLe b (64 + 8 * k) 8

/-- The EN bit of counter n. -/
def snapCtrEn (b : Bytes) (n : Nat) : Bool := ((b.getD (2112 + n / 8) 0).toNat).testBit (n % 8)

/-- The EN bits set in bytes lo to lo + n - 1 of the EN map. -/
def snapEnBelow (b : Bytes) (n : Nat) : Nat :=
  let whole := ((b.drop 2112).take (n / 8)).foldl (fun a x => a + popcount 8 x.toNat) 0
  whole + popcount (n % 8) (b.getD (2112 + n / 8) 0).toNat

/-- Count of counter n, its EN bit being 1. -/
def snapCtr (b : Bytes) (n : Nat) : Nat := rdLe b (4160 + 4 * snapEnBelow b n) 4

/-- ZX_SNS_k_VAL. -/
def snapSns (b : Bytes) (k : Nat) : Nat := rdLe b (4160 + 4 * snapNctr b + 4 * k) 4

/-- The barrier stamps, in stamp order, as 64-bit words. -/
def snapStamps (b : Bytes) : List Nat := (List.range (snapNstamp b)).map (fun i => rdLe b (4800 + 4 * snapNctr b + 8 * i) 8)

/-- The line of a barrier stamp word (the stamp layout of Table 3-10). -/
def stampLine (w : Nat) : Nat := bits w 63 60

/-! ## Slots (Table 8-16) -/

/-- An enabled reduction slot. -/
structure Slot where
  idx : Nat
  op : Nat
  kind : Nat
  src : Nat
  tenant : Bool
  hshift : Nat
  buckets : Nat
  k : Nat
  hlo : Int
  deriving DecidableEq, Repr

/-- The settings of slot i. -/
def Settings.slot (c : Settings) (i : Nat) : Slot :=
  { idx := i, op := c.fld BX_RED_SLOT_OP i, kind := c.fld BX_RED_SLOT_SRC_KIND i, src := c.fld BX_RED_SLOT_SRC_INDEX i,
    tenant := c.fld BX_RED_SLOT_TENANT_VIEW i ≠ 0, hshift := c.fld BX_RED_SLOT_HSHIFT i, buckets := c.fld BX_RED_SLOT_BUCKETS i,
    k := c.fld BX_RED_SLOT_K i, hlo := toSigned 64 (c.fld BX_RED_SLOT_HLO_HLO i) }

/-- The enabled slots, in ascending order. -/
def Settings.slots (c : Settings) : List Slot :=
  let en := (c.regs.filter (fun r => r.reg = .BX_RED_SLOT ∧ bitAt r.word 63)).map (·.idx)
  ((sortBy (fun a b => a ≤ b) en.eraseDups)).map c.slot

/-- The slots of a view: every enabled one in the fleet view (64), those with TENANT_VIEW in a tenant's (R216). -/
def Settings.viewSlots (c : Settings) (view : Nat) : List Slot := c.slots.filter (fun x => view = 64 ∨ x.tenant)

/-- Counter n of the ZX40 of a local die is fleet-owned in the generation (R42, R68). -/
def Settings.ctrOwned (c : Settings) (die n : Nat) : Bool :=
  match (c.zx.getD die []).find? (0x60000 + 4 * n) with
  | none => false
  | some w => bitAt w 30

/-- The tenant mask of a die address in the enrolled set, none when it is not enrolled. -/
def Settings.mask? (c : Settings) (addr : Nat) : Option Nat := c.enrolled.find? addr

/-! ## Sources (Table 8-4) -/

/-- A sensor's value: sign-extended for IDs 0x00 to 0x3F, zero-extended otherwise. -/
def snsValue (k w : Nat) : Int := if k < 0x40 then toSigned 16 (bits w 15 0) else (bits w 15 0 : Nat)

/-- The value of a source for a die, none when it is not valid; owned tells which counters are fleet-owned. -/
def sourceVal (owned : Nat → Bool) (b : Bytes) (kind idx : Nat) : Option Int :=
  match kind with
  | 0 => some (snapLs b (idx % 256) : Nat)
  | 1 => if snapCtrEn b idx && owned idx then some (snapCtr b idx : Nat) else none
  | 2 => let w := snapSns b idx; if bits w 31 30 = 0 then some (snsValue idx w) else none
  | 3 => if snapOvf b then none else some (((snapStamps b).filter (fun w => stampLine w = idx)).length : Nat)
  | 4 => let w := snapGrs b; if bitAt w 15 ∧ bits w 7 0 ≠ 0xFF then some (bits w 7 0 : Nat) else none
  | 5 => some (b2n (bitAt (rdLe b 32 32) idx) : Nat)
  | _ => none

/-! ## Operators (Table 8-5) -/

/-- Entries of a TOPK list order: greater values first for TOPK_MAX, lesser first for TOPK_MIN, ties by ascending die address. -/
def topBefore (maxOp : Bool) (x y : Int × Nat × Nat) : Bool :=
  x.1 = y.1 && x.2.1 ≤ y.2.1 || (if maxOp then y.1 < x.1 else x.1 < y.1)

/-- The contribution of a die to a slot. -/
def SlotAcc.single (t : Slot) (v : Option Int) (a inc : Nat) : SlotAcc :=
  let empty : SlotAcc := { buckets := if t.op = 3 then List.replicate t.buckets 0 else [] }
  match v with
  | none => empty
  | some v =>
    match t.op with
    | 0 => { empty with nvalid := 1, total := v }
    | 1 | 2 => { empty with nvalid := 1, val := v, arg := a }
    | 3 =>
      let b := (v - t.hlo) / ((2 ^ t.hshift : Nat) : Int)
      if b < 0 then { empty with nvalid := 1, under := 1 }
      else if (t.buckets : Int) ≤ b then { empty with nvalid := 1, over_ := 1 }
      else { empty with nvalid := 1, buckets := empty.buckets.set b.toNat 1 }
    | 4 | 5 => { empty with nvalid := 1, top := [(v, a, inc)] }
    | _ => { empty with nvalid := 1 }

/-- The merge of two accumulators of a slot. -/
def SlotAcc.merge (t : Slot) (x y : SlotAcc) : SlotAcc :=
  let n := x.nvalid + y.nvalid
  match t.op with
  | 0 => { x with nvalid := n, total := x.total + y.total }
  | 1 | 2 =>
    if x.nvalid = 0 then { y with nvalid := n }
    else if y.nvalid = 0 then { x with nvalid := n }
    else
      let yWins : Bool := (if t.op = 1 then y.val < x.val else x.val < y.val) || (y.val = x.val && y.arg < x.arg)
      if yWins then { y with nvalid := n } else { x with nvalid := n }
  | 3 => { x with nvalid := n, under := x.under + y.under, over_ := x.over_ + y.over_,
                  buckets := (List.range t.buckets).map (fun i => x.buckets.getD i 0 + y.buckets.getD i 0) }
  | 4 | 5 => { x with nvalid := n,
                      top := ((sortBy (fun a b => topBefore (t.op = 4) a b = true) (x.top ++ y.top))).take t.k }
  | _ => { x with nvalid := n }

/-- The tenants of a mask. -/
def maskTenants (m : Nat) : List Nat := (List.range 64).filter (fun t => m.testBit t)

/-- One die's contribution to every view it belongs to. -/
def Settings.contribOf (c : Settings) (die addr inc : Nat) (b : Bytes) : Contrib :=
  let owned := c.ctrOwned die
  let view (v : Nat) : SMap SlotAcc := (c.viewSlots v).map (fun t => (t.idx, SlotAcc.single t (sourceVal owned b t.kind t.src) addr inc))
  { dies := [(addr, inc)], views := (maskTenants ((c.mask? addr).getD 0) ++ [64]).map (fun v => (v, view v)) }

/-- Two sets of merged contributions united. -/
def Settings.mergeContrib (c : Settings) (x y : Contrib) : Contrib :=
  let dies := (sortBy (fun a b => a.1 ≤ b.1) (x.dies ++ y.dies))
  let views := y.views.foldl (fun m v =>
    match m.find? v.1 with
    | none => m.set v.1 v.2
    | some xs => m.set v.1 (v.2.foldl (fun xs a =>
        match xs.find? a.1 with
        | none => xs.set a.1 a.2
        | some z => xs.set a.1 (SlotAcc.merge (c.slot a.1) z a.2)) xs)) x.views
  { dies := dies, views := views }

/-! ## Slot results (Table 8-9) -/

/-- A count padded to a multiple of 8 bytes. -/
def pad8 (b : Bytes) : Bytes := b ++ zeroBytes ((8 - b.length % 8) % 8)

/-- The slot result of an accumulator. -/
def slotResult (t : Slot) (a : SlotAcc) : Bytes :=
  let low := packFields [(19, 12, t.idx), (0, 19, a.nvalid)]
  match t.op with
  | 0 =>
    let w := ofSigned 96 a.total
    wordBytes [w % 2 ^ 64, (w >>> 64) <<< 32 ||| low]
  | 1 | 2 => wordBytes [ofSigned 64 a.val, (a.arg <<< 46) ||| low]
  | 3 => wordBytes [packFields [(32, 32, a.under), (0, 32, a.over_)], (t.buckets <<< 57) ||| low] ++
      pad8 ((List.range t.buckets).flatMap (fun i => leBytes 4 (a.buckets.getD i 0)))
  | _ => wordBytes [0, (t.k <<< 59) ||| low] ++
      (List.range t.k).flatMap (fun i =>
        match a.top[i]? with
        | none => zeroBytes 16
        | some e => wordBytes [ofSigned 64 e.1, packFields [(46, 18, e.2.1), (30, 16, e.2.2)]])

/-- The slot results of a view in ascending slot order; a slot that no die has contributed to is empty. -/
def Settings.viewResults (c : Settings) (k : Contrib) (v : Nat) : Bytes :=
  (c.viewSlots v).flatMap (fun t => slotResult t (((k.views.getD v []).find? t.idx).getD (SlotAcc.single t none 0 0)))

/-- The tenants that have a die in a list of dies. -/
def Settings.tenantsOf (c : Settings) (dies : List Nat) : List Nat :=
  let m := dies.foldl (fun m a => m ||| (c.mask? a).getD 0) 0
  maskTenants m

/-- Every tenant of the enrolled set. -/
def Settings.tenants (c : Settings) : List Nat := c.tenantsOf (c.enrolled.map (·.1))

/-! ## Partials (Table 8-6) -/

/-- The bytes of a partial. -/
def Settings.partialBytes (c : Settings) (p : Partial) : Bytes :=
  let ts := c.tenantsOf (p.body.dies.map (·.1))
  let views := (64 :: ts).map (fun v =>
    let r := c.viewResults p.body v
    leBytes 8 (packFields [(63, 1, b2n (v = 64)), (57, 6, if v = 64 then 0 else v), (0, 32, r.length)]) ++ r)
  let list := wordBytes (p.body.dies.map (fun d => packFields [(46, 18, d.1), (30, 16, d.2)]))
  let rest := list ++ views.flatten
  wordBytes [packFields [(16, 48, p.epoch), (0, 16, p.gen)],
    packFields [(52, 12, p.origin), (51, 1, b2n p.recompute), (50, 1, b2n p.supplement), (31, 19, p.body.dies.length), (24, 7, views.length)],
    packFields [(32, 32, p.partSeq), (0, 32, 32 + rest.length)], 0] ++ rest

/-! ## Fences and completeness (R25, R40, R225) -/

/-- The partition of an aggregator in some settings. -/
def Settings.partOf (c : Settings) (agg : Nat) : Option Nat := (c.tree.find? (fun e => e.agg = agg)).map (·.partition)

/-- A die is fenced for an epoch (R40, R406): some fence held on it or its partition has F at or before C(N), and is not lifted for
that epoch. -/
def State.fencedFor (s : State) (addr n : Nat) : Bool :=
  let part := (((s.genOf n).map (fun (g : GenRec) => g.cfg)).getD {}).partOf (addr / 64)
  s.cnp.fences.any (fun (x : FenceRec) =>
    (if x.partition then part = some x.id else x.id = addr) && decide (x.f ≤ s.closeOf n) &&
      (match x.lift with
       | none => true
       | some m => decide (n < m)))

/-- The state code of a die in the completeness vector of a view (Table 1-1). -/
def State.cvState (s : State) (c : Settings) (n view : Nat) (merged : List (Nat × Nat)) (addr : Nat) : Nat :=
  match c.mask? addr with
  | none => 0
  | some m =>
    if view ≠ 64 ∧ ¬ m.testBit view then 0
    else if merged.any (fun d => d.1 = addr) then 1
    else if s.fencedFor addr n then 3
    else 2

/-- First aggregator and number of aggregators of the vector (R225). -/
def Settings.cvSpan (c : Settings) : Nat × Nat :=
  match c.enrolled.map (fun e => e.1 / 64) with
  | [] => (((c.tree.find? (·.root)).map (·.agg)).getD 0, 1)
  | a :: t => let lo := t.foldl min a; (lo, t.foldl max a - lo + 1)

/-- The completeness vector's bytes. -/
def State.cvBytes (s : State) (c : Settings) (n view : Nat) (merged : List (Nat × Nat)) : Bytes :=
  let sp := c.cvSpan
  (List.range sp.2).flatMap (fun i =>
    leBytes 16 ((c.enrolled.filter (fun e => e.1 / 64 = sp.1 + i)).foldl
      (fun w e => w ||| (s.cvState c n view merged e.1 <<< (2 * (e.1 % 64)))) 0))

/-- PRESENT, ABSENT and FENCED counts of a view. -/
def State.cvCounts (s : State) (c : Settings) (n view : Nat) (merged : List (Nat × Nat)) : Nat × Nat × Nat :=
  c.enrolled.foldl (fun k e =>
    match s.cvState c n view merged e.1 with
    | 1 => (k.1 + 1, k.2.1, k.2.2)
    | 2 => (k.1, k.2.1 + 1, k.2.2)
    | 3 => (k.1, k.2.1, k.2.2 + 1)
    | _ => k) (0, 0, 0)

/-! ## Records (Tables 1-2, 1-3, 8-7, 8-8) -/

/-- A record with its RECORD_CRC taken as 0 replaced by the CRC-32C over it. -/
def sealRecord (b : Bytes) : Bytes := b.take 44 ++ leBytes 4 (crc32c b) ++ b.drop 48

/-- The bytes of a record of a view at the root. -/
def State.recordBytes (s : State) (g : GenRec) (n view revision : Nat) (committed : Bool) (k : Contrib) : Bytes :=
  let c := g.cfg
  let cnt := s.cvCounts c n view k.dies
  let slots := c.viewResults k view
  let cv := s.cvBytes c n view k.dies
  let sp := c.cvSpan
  sealRecord (wordBytes
    [packFields [(16, 48, n), (15, 1, b2n committed), (14, 1, b2n (cnt.2.1 = 0)), (13, 1, b2n (view ≠ 64)), (0, 12, min 0xFFF revision)],
     packFields [(48, 16, s.rd BX_CNP_IDENT_FLEET_ID), (32, 16, g.gen), (20, 12, s.agg), (14, 6, if view = 64 then 0 else view),
       (0, 13, cnt.1)],
     packFields [(51, 13, (c.viewSlots view).length), (32, 19, cnt.2.1), (13, 19, cnt.2.2), (0, 6, cnt.1 >>> 13)],
     packFields [(32, 32, slots.length), (0, 32, cv.length)],
     packFields [(52, 12, sp.1), (39, 13, sp.2)], 0] ++ slots ++ cv)

/-- Fields of a record held. -/
def recEpoch (b : Bytes) : Nat := rdLe b 2 6
def recCommitted (b : Bytes) : Bool := bitAt (rdLe b 0 2) 15
def recComplete (b : Bytes) : Bool := bitAt (rdLe b 0 2) 14
def recView (b : Bytes) : Nat := if bitAt (rdLe b 0 2) 13 then bits (rdLe b 8 4) 19 14 else 64
def recRevision (b : Bytes) : Nat := bits (rdLe b 0 2) 11 0
def recGen (b : Bytes) : Nat := rdLe b 12 2
def recCrc (b : Bytes) : Nat := rdLe b 44 4
def recPresent (b : Bytes) : Nat := bits (rdLe b 8 8) 12 0 + bits (rdLe b 16 8) 5 0 * 2 ^ 13

/-- The receiver's own CRC of a record equals its RECORD_CRC (R225). -/
def recCrcOk (b : Bytes) : Bool := crc32c (b.take 44 ++ zeroBytes 4 ++ b.drop 48) = recCrc b

/-- The completeness state of a die in a record. -/
def recDie (b : Bytes) (addr : Nat) : Nat :=
  let first := bits (rdLe b 32 8) 63 52
  let n := bits (rdLe b 32 8) 51 39
  let slots := rdLe b 28 4
  let a := addr / 64
  if a < first ∨ first + n ≤ a then 0
  else bits (rdLe b (48 + slots + 16 * (a - first)) 16) (2 * (addr % 64) + 1) (2 * (addr % 64))

end Sys2Proof.Machine
end

