-- ==== Sys2Proof/Machine/Ingress.lean ====
section
/-! DEFINITION. The ingress of snapshots (R212 to R214, R399, R417): the buddy mirror (R396), incarnations (R38), partials on their way out
(R222), classification (Table 8-3) and the log acknowledgement (R104, R212). -/
namespace Sys2Proof.Machine

/-! ## The mirror (R396, R397) -/

/-- The holder of this BX64's mirror: BUDDY, or ALT_BUDDY once the BUDDY is lost; none without a live holder or without a tree. -/
def State.mirrorHolder? (s : State) : Option Nat :=
  match s.treeOf s.agg with
  | none => none
  | some e =>
    if ¬ s.isLost e.buddy then some e.buddy
    else if e.altNone ∨ s.isLost e.altBuddy then none else some e.altBuddy

/-- The body of a mirror item: a kind word and the item's fields, one 64-bit word each, then its bytes (log entry 15). -/
def State.itemBytes (s : State) (m : MirrorItem) : Bytes :=
  match m with
  | .snapshot d e b => wordBytes [1, d, e, b.length] ++ b
  | .record e v r b => wordBytes [2, e, v, r, b.length] ++ b
  | .nextInc d i => wordBytes [3, d, i]
  | .state d mark lko x id => wordBytes ([4, d, mark, lko, id, x.healthCount, x.deadline, x.testInc, x.lag.length] ++
      x.lag.flatMap (fun (y : LagEntry) => [y.home * 256 + y.group, y.epoch, y.val.s, y.val.count, y.val.late]))
  | .group g => wordBytes ([6, g.home, g.num, g.line, g.members.length] ++
      g.members.flatMap (fun m => [m.1, m.2.inc, m.2.s, m.2.count, m.2.late]))
  | .keptPartial sent p =>
    let b := (((s.genOf p.epoch).map (fun (g : GenRec) => g.cfg)).getD {}).partialBytes p
    wordBytes [5, b2n sent, b.length] ++ b

/-- An item goes to the mirror holder; its MSG_ID, none where there is no holder. -/
def State.mirror (s : State) (m : MirrorItem) (epoch : Option Nat := none) : Option Nat × State :=
  match s.mirrorHolder? with
  | none => (none, s)
  | some h => (some s.cnp.msgId, s.sendMsg 1 4 4 h (s.itemBytes m) epoch true)

/-! ## Incarnations (R38) -/

/-- The life-cycle state ZX_ADMIT carries: that of the BX64, or PROVISIONED where that is RETURN (R532). -/
def State.lcCode (s : State) : Nat := if s.rd BX_LC_STS_STATE = 3 then 1 else s.rd BX_LC_STS_STATE

/-- ZX_ADMIT of a die with its current incarnation. -/
def State.sendAdmit (s : State) (p : Nat) : State :=
  s.zxInternal p 0x0630 [(if p = 64 then 2 ^ 18 else 0) + s.dieAddr p, (s.die p).cur, s.lcCode]

/-- The value after an incarnation: 0 is skipped. -/
def nextInc (i : Nat) : Nat := if 0xFFFF ≤ i then 1 else i + 1

/-- The next incarnation of a port is assigned; it is used once the mirror holds the value after it (Table 13-6). While the values are
still to come back from the mirror, none is assigned (R38). -/
def State.assignInc (s : State) (p : Nat) : State :=
  if s.ep.restoreDue then { s with ep := { s.ep with incPend := s.ep.incPend ++ [(p, 0)] } }
  else
    let d := s.die p
    let n := nextInc d.next
    let (id, s) := s.mirror (.nextInc p n)
    let s := s.setDie p { d with cur := d.next, next := n, admitMsg := id, resendM := none }
    let s := s.wr BX_LKO_DIE_INCARNATION p d.next
    if id = none then s.sendAdmit p else s

/-! ## Partials leave (R222, R234) -/

/-- A partial leaves for an aggregator, is kept, and is mirrored. -/
def State.emitPartial (s : State) (c : Settings) (p : Partial) (dst : Nat) : State :=
  let s := s.sendMsg 1 1 3 dst (c.partialBytes p) (some p.epoch) true
  let s := s.bump BX_RED_CNT0_PARTIALS_SENT
  let kp : KeptPartial := { sent := true, p := p }
  let s := { s with red := { s.red with kept := s.red.kept ++ [kp] } }
  (s.mirror (.keptPartial true p) (some p.epoch)).2

/-- A context by its epoch. -/
def State.ctx? (s : State) (n : Nat) : Option Ctx := s.red.ctxs.find? (fun (x : Ctx) => x.epoch = n)

def State.setCtx (s : State) (x : Ctx) : State :=
  { s with red := { s.red with ctxs := s.red.ctxs.map (fun (y : Ctx) => if y.epoch = x.epoch then x else y) } }

/-- The settings of epoch n. -/
def State.cfgOf (s : State) (n : Nat) : Settings := ((s.genOf n).map (fun (g : GenRec) => g.cfg)).getD {}

/-- The PART_SEQ of the next partial of an epoch: one after the last this BX64 has sent, RECOMPUTE or not (R222). -/
def State.nextSeq (s : State) (n : Nat) : Nat :=
  ((s.red.kept.filter (fun (x : KeptPartial) => x.sent ∧ x.p.epoch = n)).map (fun (x : KeptPartial) => x.p.partSeq + 1)).foldl max
    (((s.ctx? n).map (fun (x : Ctx) => x.partSeq)).getD 0)

/-- The acting root of epoch n. -/
def State.rootFor (s : State) (n : Nat) : Nat := ((s.pastGen? n).map s.pastRoot).getD (s.rd BX_CNP_FAB_STS_ACT_ROOT)

/-- A one-die RECOMPUTE partial to the acting root (R233, R399). -/
def State.recomputePartial (s : State) (n : Nat) (k : Contrib) : State :=
  let p : Partial := {
    epoch := n, gen := ((s.genOf n).map (fun (g : GenRec) => g.gen)).getD 0, origin := s.agg, recompute := true, partSeq := s.nextSeq n, body := k }
  s.emitPartial (s.cfgOf n) p (s.rootFor n)

/-- Contributions merged into a context. -/
def Ctx.merge (c : Settings) (x : Ctx) (k : Contrib) : Ctx := { x with merged := x.merged ++ k.dies, acc := c.mergeContrib x.acc k }

/-- The local contributions that an open context has merged and not sent yet leave as RECOMPUTE partials instead (R233): the accumulator is
built again from the partials received. -/
def State.recomputeOpen (s : State) (x : Ctx) : State :=
  let c := s.cfgOf x.epoch
  let mine := x.acc.dies.filter (fun d => d.1 / 64 = s.agg)
  let own (p : Partial) : Bool := p.body.dies.any (fun d => x.acc.dies.any (fun y => y.1 = d.1))
  let got := ((s.red.kept.filter (fun (k : KeptPartial) => ¬ k.sent ∧ k.p.epoch = x.epoch)).map (fun (k : KeptPartial) => k.p)).filter own
  if s.rootOf x.epoch ∨ mine = [] then s
  else
    let s := s.setCtx { x with acc := got.foldl (fun a p => c.mergeContrib a p.body) {} }
    (s.red.log.filter (fun (e : IngEntry) => e.epoch = x.epoch && mine.any (fun d => d.1 = s.dieAddr e.die) && e.die ≠ 64)).foldl
      (fun s (e : IngEntry) => s.recomputePartial x.epoch (c.contribOf e.die (s.dieAddr e.die) e.inc e.bytes)) s

/-! ## Classification (Table 8-3) -/

/-- The committed record of an epoch has been applied here. -/
def State.committed (s : State) (n : Nat) : Bool := s.flag BX_EPC_STATE_WM_VALID && decide (n ≤ s.rd BX_EPC_STATE_WATERMARK)

/-- The row of Table 8-3, from row 5 on, that a snapshot of a die matches at the BX64 or stand-in that classifies it. -/
def State.classRow (s : State) (addr n : Nat) (self : Bool) (b : Bytes) : Nat :=
  let c := s.cfgOf n
  if ¬ self ∧ (c.mask? addr).isNone then 5
  else if s.committed n ∨ s.horizonOf n ≤ s.bxNs then 6
  else if snapGen b ≠ ((s.genOf n).map (fun (g : GenRec) => g.gen)).getD 0 then 7
  else if ¬ self ∧ s.fencedFor addr n then 8
  else if snapStepped b then 9
  else 10

/-- The re-send of the generation on a mismatch, once for each episode (R45). -/
def State.mismatch (s : State) (p n : Nat) : State :=
  match (s.die p).resendM with
  | none => s.resendGen p
  | some m => if m ≤ n then s.resendGen p else s

/-- What a row counts. -/
def State.countRow (s : State) (row : Nat) : State :=
  match row with
  | 5 => s.bump BX_RED_CNT2_UNENROLLED
  | 6 => s.bump BX_EPC_DROP_CNT_LATE
  | 7 => s.bump BX_EPC_MISC_CNT_CFG_MISMATCH
  | 9 => s.bump BX_RED_CNT2_STEPPED
  | _ => s

/-- The ingress log entry of a die and epoch. -/
def State.held? (s : State) (d n : Nat) : Option IngEntry := s.red.log.find? (fun (x : IngEntry) => x.die = d ∧ x.epoch = n)

def State.setRow (s : State) (d n row : Nat) : State :=
  { s with red := { s.red with log := s.red.log.map (fun (x : IngEntry) => if x.die = d ∧ x.epoch = n then { x with row := some row } else x) } }

/-- A held snapshot is classified (R213, R214): rows 5 to 10. -/
def State.classify (s : State) (d n : Nat) (b : Bytes) : State :=
  let self : Bool := d = 64
  let row := s.classRow (s.dieAddr d) n self b
  let s := (s.countRow row).setRow d n row
  let s := if row = 7 then s.mismatch d n else s
  match s.ctx? n with
  | none => s
  | some x =>
    let x := { x with localSeen := x.localSeen ++ [d] }
    if row = 10 ∧ ¬ self then
      let c := s.cfgOf n
      let k := c.contribOf d (s.dieAddr d) (snapInc b) b
      let recompute : Bool := match s.red.recomputeTo with
        | some m => decide (n < m) && !s.rootOf n
        | none => false
      if recompute then (s.setCtx { x with merged := x.merged ++ k.dies }).recomputePartial n k
      else s.setCtx (x.merge c k)
    else s.setCtx x

/-- The held snapshots of an epoch not yet classified are classified in ascending die order. -/
def State.classifyHeld (s : State) (n : Nat) : State :=
  let es := (sortBy (fun a b => a.die ≤ b.die) (s.red.log.filter (fun (x : IngEntry) => x.epoch = n ∧ x.row = none)))
  es.foldl (fun s (x : IngEntry) => s.classify x.die n x.bytes) s

/-! ## The log acknowledgement (R104, R212) -/

/-- An entry counts as held by both: acknowledged by the mirror holder, committed (its mirror item is obsolete), or no mirror is kept
for the time being (R397). -/
def State.entryHeld (s : State) (x : IngEntry) : Bool :=
  x.mirrored || x.msgId = none || s.committed x.epoch || s.flag BX_CNP_FAB_STS_UNMIRRORED

/-- The acknowledgement of a die advances to the greatest epoch through which every snapshot is held; an ACK falls due. -/
def State.advanceAck (s : State) (d : Nat) : State :=
  let es := s.red.log.filter (fun (x : IngEntry) => x.die = d)
  let lacks := (s.die d).ilogLacks
  let limit := (es.filter (fun x => ¬ s.entryHeld x)).map (fun (x : IngEntry) => x.epoch)
  let ok (n : Nat) : Bool := limit.all (fun m => decide (n < m)) && (match lacks with
    | some m => decide (n < m)
    | none => true)
  let best := ((es.map (fun (x : IngEntry) => x.epoch)).filter ok).foldl max 0
  if best = 0 ∨ best ≤ s.red.logAck.getD d 0 then s
  else
    let s := { s with red := { s.red with logAck := s.red.logAck.set d best } }
    s.modLink (.stem d) (fun l => { l with logAckDue := true })

/-! ## The ingress log (R212, R417) -/

/-- Bytes of HBM region r. -/
def State.regionBytes (s : State) (r : Nat) : Nat := s.rd BX_MEM_REGION_SIZE r * 2097152

def roundUp64 (n : Nat) : Nat := (n + 63) / 64 * 64

/-- Bytes of all views of the newest committed epoch, each record rounded up to 64. -/
def State.epochBytes (s : State) : Nat :=
  let n := s.rd BX_EPC_STATE_WATERMARK
  ((s.ep.records.filter (fun (x : RecEntry) => x.epoch = n ∧ x.committed)).map (fun (x : RecEntry) => roundUp64 x.bytes.length)).foldl (· + ·) 0

/-- W, the retention window (R418). -/
def State.window (s : State) : Nat :=
  let e := s.epochBytes
  let r := s.rd BX_EPC_CTRL_RETAIN_EPOCHS
  if e = 0 then r else min r ((s.regionBytes 3 - 1073741824) / e)

/-- An epoch lies beyond the retention window. -/
def State.beyondRetention (s : State) (n : Nat) : Bool :=
  s.flag BX_EPC_STATE_WM_VALID && decide (n + s.window ≤ s.rd BX_EPC_STATE_WATERMARK)

/-- Bytes the ingress log holds. -/
def State.logBytes (s : State) : Nat := (s.red.log.map (fun (x : IngEntry) => roundUp64 x.bytes.length)).foldl (· + ·) 0

/-- R212 allows an entry to be freed: its epoch's and the next epoch's notices are applied, and it has been held for 64 epochs. -/
def State.mayFree (s : State) (x : IngEntry) : Bool := s.committed (x.epoch + 1) && decide (x.epoch + 64 ≤ s.bxEpoch)

/-- Entries freed oldest first until n bytes fit, or none is left that may be freed. -/
def freeLog : Nat → State → Nat → State
  | 0, s, _ => s
  | k + 1, s, n =>
    if s.logBytes + n ≤ s.regionBytes 1 then s
    else
      match (sortBy (fun a b => a.epoch ≤ b.epoch) (s.red.log.filter s.mayFree)) with
      | [] => s
      | x :: _ =>
        freeLog k { s with red := { s.red with
          log := s.red.log.filter (fun (y : IngEntry) => ¬ (y.die = x.die ∧ y.epoch = x.epoch)) } } n

/-- A die's snapshots are asked for again from an epoch (LOG_RESEND). -/
def State.askResend (s : State) (d n : Nat) : State := s.zxInternal d 0x0514 [s.dieAddr d + (if d = 64 then 2 ^ 18 else 0), n]

/-- A held snapshot of which a word reads poisoned is discarded from the log (the mirror's copy with it) and asked for again; a resend of
its epoch is then no duplicate (R212, Table 7-7). -/
def State.dropHeld (s : State) (d n : Nat) : State :=
  match s.held? d n with
  | none => s
  | some _ =>
    let s := { s with red := { s.red with log := s.red.log.filter (fun (e : IngEntry) => ¬ (e.die = d ∧ e.epoch = n)) } }
    (s.bump BX_BLZ_PSN_CNT0_REDUCTION).askResend d n

/-- The oldest epoch a die's log lacks is noted. -/
def State.noteLack (s : State) (d n : Nat) : State :=
  let x := s.die d
  s.setDie d { x with ilogLacks := some (match x.ilogLacks with
    | none => n
    | some m => min m n) }

/-- Space has freed: every die that lacks epochs is asked to send them again (R417). -/
def State.ilogFreed (s : State) : State :=
  (List.range 65).foldl (fun s d =>
    match (s.die d).ilogLacks with
    | some n => s.askResend d n
    | none => s) s

/-- Entries no rule needs any longer are freed as the log needs room; what a commit makes room for is asked for again. -/
def State.afterCommitLog (s : State) : State :=
  if (List.range 65).any (fun d => ((s.die d).ilogLacks).isSome) then
    let s' := freeLog s.red.log.length s (s.regionBytes 1)
    if s'.logBytes < s.logBytes then s'.ilogFreed else s'
  else s

/-- A new complete snapshot is written, mirrored and, unless its epoch waits for a context or for its close here, classified. -/
def State.storeSnap (s : State) (d : Nat) (b : Bytes) : State :=
  let n := snapEpoch b
  let s := freeLog s.red.log.length s (roundUp64 b.length)
  if s.regionBytes 1 < s.logBytes + roundUp64 b.length then (s.bump BX_MEM_CNT_ILOG_FULL).noteLack d n
  else
    let (id, s) := s.mirror (.snapshot d n b) (some n)
    let x : IngEntry := { die := d, epoch := n, inc := snapInc b, gen := snapGen b, bytes := b, msgId := id }
    let s := { s with red := { s.red with log := s.red.log ++ [x] } }
    let s := if (s.die d).ilogLacks = some n then s.setDie d { s.die d with ilogLacks := none } else s
    let past : Bool := (s.red.lastClosed.map (fun m => decide (n ≤ m))).getD false && !s.red.waiting.contains n
    let s := if (s.ctx? n).isSome ∨ s.committed n ∨ past then s.classify d n b else s
    s.advanceAck d

/-- Lookout hears a complete snapshot under the current incarnation (R292). -/
def State.corDie (s : State) (d : Nat) : DieCorr := s.cor.dies.getD d {}

def State.setCorDie (s : State) (d : Nat) (x : DieCorr) : State := { s with cor := { s.cor with dies := s.cor.dies.set d x } }

def State.hear (s : State) (d n : Nat) : State :=
  let x := s.corDie d
  if n ∈ x.heard then s else s.setCorDie d { x with heard := x.heard ++ [n] }

/-- A snapshot of a die has been classified for an epoch by a row before row 5: it counts toward the first partial (R219). -/
def State.noteSeen (s : State) (d n : Nat) : State :=
  match s.ctx? n with
  | none => s
  | some x => s.setCtx { x with localSeen := x.localSeen ++ [d] }

/-- A complete snapshot of a local die (Tables 8-3 and 5-12). -/
def State.takeSnap (s : State) (d : Nat) (b : Bytes) (resent poison : Bool) : State :=
  let n := snapEpoch b
  let e : LinkId := .stem d
  if poison then (((s.bump BX_BLZ_PSN_CNT0_REDUCTION).noteSeen d n).noteLack d n).askResend d n
  else if snapInc b ≠ (s.die d).cur then (s.bump BX_EPC_DROP_CNT_OLD_INCARNATION).noteSeen d n
  else if s.liveGen? ≠ none ∧ ¬ s.closed n then s.viol e 7
  else
    let s := (s.hear d n).setDie d { s.die d with runs := snapGen b }
    let lf := (s.red.lastFresh.find? d).map (fun m => decide (n ≤ m))
    if ¬ resent ∧ lf = some true then s.viol e 8
    else
      let s := if resent then s else { s with red := { s.red with lastFresh := s.red.lastFresh.set d n } }
      match s.held? d n with
      | some x =>
        if x.bytes = b then s.bump BX_STM_PORT_MISC_DUP_SNAP d
        else (s.viol e 10).signal { ty := 0x0403, source := 1, idx := d, self := d = 64, die := s.dieAddr d, inc := snapInc b, detail := d,
                                    extra := n }
      | none => s.storeSnap d b

/-- The INCARNATION read after a FRESH training is judged (R147): 0 or another than the current one gives the die a new incarnation, the
current one is carried again. What the ZX40 runs is brought up to the generation in force (R274, R517). After a reset it waits for the
mirror. -/
def State.judgeInc (s : State) (p id : Nat) : State :=
  let inc := bits id 63 48
  if s.ep.restoreDue then { s with ep := { s.ep with incPend := s.ep.incPend ++ [(p, id)] } } else
  let s := if inc = 0 ∨ inc ≠ (s.die p).cur then s.assignInc p else s.sendAdmit p
  let s := s.setDie p { s.die p with runs := bits id 47 32, image := 0 }
  s.sendRun p

/-- The INCARNATION reads that waited for the mirror are judged (R38, R147). -/
def State.releaseIncs (s : State) : State :=
  let ps := s.ep.incPend
  if s.ep.restoreDue then
    ps.foldl (fun s x => s.judgeInc x.1 x.2) { s with ep := { s.ep with restoreDue := false, incPend := [] } }
  else s

/-- Every open context gives its unsent local contributions as RECOMPUTE partials. -/
def State.recomputeAll (s : State) : State :=
  s.red.ctxs.foldl (fun s (x : Ctx) => match s.ctx? x.epoch with
    | none => s
    | some y => s.recomputeOpen y) s

end Sys2Proof.Machine
end

