-- ==== Sys2Proof/Machine/LookoutOps.lean ====
section
/-! DEFINITION. Marks, tests, fences, probes and the per-epoch updates of the correlator and Lookout (R277 to R303): the operations the
commands of several chapters share. -/
namespace Sys2Proof.Machine

/-! ## Fences (R294, R405) -/

/-- The integer nanosecond of the next tclk tick of BX64's timebase. -/
def State.nextTick (s : State) : Nat := (s.bxTb.count + s.bxTb.inc) / 4294967296

/-- The DETAIL of a FENCE or UNFENCE alarm (Table 13-7). -/
def fenceDetail (partition : Bool) (id cause : Nat) : Nat :=
  packFields [(15, 1, b2n partition), (9, 6, if partition then id else 0), (6, 3, cause)]

/-- A die fence is held here (R405). -/
def State.dieFenced (s : State) (d : Nat) : Bool := (s.die d).fence.isSome

/-- The partition of this BX64 is fenced now. -/
def State.partFenced (s : State) : Bool :=
  match s.treeOf s.agg with
  | none => false
  | some e => (s.rd BX_CNP_FENCE_FENCED).testBit e.partition

/-- Lookout fences a die with a cause of BX_LKO_DIE_p.CAUSE: fence first, then Heartwood, then the broadcast (R294). The
self-monitoring ZX40 is not fenced: a record and a SAFETY alarm, whose code the spec does not give. -/
def State.fenceDie (s : State) (d cause : Nat) : State :=
  let rec_ : HwRec := {
    ty := 0x0503, source := 6, idx := d, self := d = 64, die := s.dieAddr d, inc := (s.die d).cur, detail := cause }
  if d = 64 then
    let s := (s.wr BX_LKO_DIE_STATE d 2).signal rec_
    let (code, s) := s.draw 16
    s.detect code 0x41 d (some d)
  else if s.dieFenced d then s
  else
    let f := s.nextTick
    let x := s.die d
    let fr : FenceRec := { partition := false, id := s.dieAddr d, inc := x.cur, cause := cause, f := f, asserted := true }
    let s := s.setDie d { x with fence := some f, cause := cause }
    let s := { s with cnp := { s.cnp with fences := s.cnp.fences ++ [fr] } }
    let s := ((s.wr BX_LKO_DIE_STATE d 2).wr BX_LKO_DIE_CAUSE d cause).wr BX_LKO_DIE_HEARD_RUN d 0
    let s := s.setCorDie d { s.corDie d with heardRun := 0 }
    let s := s.signal rec_
    s.broadcastAlarm 0x20 (s.bxAlarm (fenceDetail false 0 cause) f (some d))

/-! ## Marks and tests (R290, R291, R297) -/

/-- Bits of BX_COR_ACT for a reason: TEST and REPLAY. -/
def State.actTest (s : State) (r : Nat) : Bool := (s.cfg.fld BX_COR_ACT_ACT 0).testBit (2 * r)
def State.actReplay (s : State) (r : Nat) : Bool := (s.cfg.fld BX_COR_ACT_ACT 0).testBit (2 * r + 1)

/-- Lower and upper temperature of a bin, and its signature (Table 10-6). -/
def Settings.binRange (c : Settings) (bin : Nat) : Nat × Nat × Nat :=
  let base := toSigned 16 (c.fld BX_COR_BAND_T_BASE 0)
  let step : Int := (max 1 (c.fld BX_COR_BAND_T_STEP 0) : Nat)
  let lo := base + ((bin / 32 : Nat) : Int) * step
  (ofSigned 16 lo, ofSigned 16 (lo + step), bin % 32)

/-- The reasons set on a die. -/
def State.reasons (s : State) (d : Nat) : Nat := s.rd BX_COR_DIE_MARK_REASONS d

/-- A test is issued for a die (R297): TEST_ID, PENDING, the dispatch record on the operator's event ring. reason is the bit number,
pre the PREAMBLE and bin the bin carried, if any, with the settings c that define it. -/
def State.issueTest (s : State) (c : Settings) (d unit reason n pre : Nat) (bin : Option Nat) : State :=
  let id := (s.cor.testId + 1) % 65536
  let s := { s with cor := { s.cor with testId := id } }
  let deadline := s.bxNs + (max 1 (s.rd BX_COR_CTRL_DEFER_MS)) * 1000000
  let s := (((s.wr BX_COR_DIE_MARK_TSTATE d 1).wr BX_COR_DIE_MARK_UNIT d unit).wr BX_COR_DIE_MARK_TEST_ID d id).bump BX_COR_CNT1_TESTS
  let s := s.setCorDie d { s.corDie d with testInc := (s.die d).cur, deadline := deadline, started := false, gained := 0 }
  let w1 := packFields [(16, 48, n), (14, 2, pre), (5, 9, bin.getD 0), (4, 1, b2n bin.isSome)]
  let w2 := match bin with
    | none => 0
    | some b => let r := c.binRange b; packFields [(48, 16, r.1), (32, 16, r.2.1), (27, 5, r.2.2)]
  s.post 0 0x10 (wordBytes [packFields [(46, 18, s.dieAddr d), (30, 16, (s.die d).cur), (20, 10, unit), (16, 4, reason), (0, 16, id)], w1, w2,
    deadline])

/-- A test for a reason a die has gained, where its TEST bit asks for one and no test is outstanding. The channel of a drift reason is that
of the generation of the epoch n that set it. -/
def State.testFor (s : State) (d r n : Nat) : State :=
  if d = 64 ∨ ¬ s.actTest r ∨ s.rd BX_COR_DIE_MARK_TSTATE d ≠ 0 then s
  else
    let c := s.cfgOf n
    match (s.corDie d).driftMarks.find? r with
    | none => s.issueTest c d 0x3FF r n 0 none
    | some (chan, bin) => s.issueTest c d (c.fld BX_COR_DRIFT_UNIT chan) r n (if r = 3 then c.fld BX_COR_DRIFT_PREAMBLE chan else 0) bin

/-- A reason is noted with the epoch of its mark, and as gained while a test is outstanding; set is the epoch whose processing set it, 0
where none did. -/
def State.noteReason (s : State) (d r n set : Nat) : State :=
  let s := s.wr BX_COR_DIE_MARK_REASONS d (s.reasons d ||| 2 ^ r)
  let x := s.corDie d
  let busy : Bool := s.rd BX_COR_DIE_MARK_TSTATE d ≠ 0
  s.setCorDie d { x with
    markAt := x.markAt.set r n, markSet := x.markSet.set r set, gained := if busy then x.gained ||| 2 ^ r else x.gained }

/-- A die gains a reason in epoch n (R290, R291). -/
def State.setReason (s : State) (d r n : Nat) : State :=
  if (s.reasons d).testBit r then s else (s.noteReason d r n (if r ≤ 4 then n else 0)).testFor d r n

/-- A drift reason with its channel and, for COND_DRIFT, its bin. -/
def State.setDrift (s : State) (d r n chan : Nat) (bin : Option Nat) : State :=
  if (s.reasons d).testBit r then s
  else
    let x := s.corDie d
    let s := s.setCorDie d { x with driftMarks := x.driftMarks.set r (chan, bin) }
    let s := match bin with
      | none => s
      | some b => (s.wr BX_COR_DIE_MARK_BIN d b).wr BX_COR_DIE_MARK_BIN_VALID d 1
    s.setReason d r n

/-- The reasons of a mask are cleared, and what belongs to them. -/
def State.clearReasons (s : State) (d mask : Nat) : State :=
  let r := (s.reasons d &&& mask) ^^^ s.reasons d
  let s := s.wr BX_COR_DIE_MARK_REASONS d r
  let x := s.corDie d
  let s := s.setCorDie d { x with gained := x.gained &&& r, driftMarks := x.driftMarks.filter (fun y => r.testBit y.1) }
  if r.testBit 3 then s else (s.wr BX_COR_DIE_MARK_BIN_VALID d 0).wr BX_COR_DIE_MARK_BIN d 0

/-! ## Correlator state at the mirror (R302, R303) -/

/-- What the mirror holds of a die: MARK, its Lookout register, the rest without drift bins, and the last TEST_ID. -/
def State.dieState (s : State) (d : Nat) : Nat × Nat × DieCorr × Nat :=
  (s.readReg .BX_COR_DIE_MARK d, s.readReg .BX_LKO_DIE d, { s.corDie d with drift := [], past := [] }, s.cor.testId)

/-- The state of a die goes to the mirror. -/
def State.mirrorDie (s : State) (d : Nat) : State :=
  let x := s.dieState d
  let s := (s.mirror (.state d x.1 x.2.1 x.2.2.1 x.2.2.2)).2
  { s with cor := { s.cor with atMirror := s.cor.atMirror.set d x } }

/-- The state of a die as the mirror holds it is in force again; drift bins stay. -/
def State.restoreDie (s : State) (d : Nat) (x : Nat × Nat × DieCorr × Nat) : State :=
  let y := s.corDie d
  ((s.setReg .BX_COR_DIE_MARK d x.1).setReg .BX_LKO_DIE d x.2.1).setCorDie d { x.2.2.1 with drift := y.drift, past := y.past }

/-- The last TEST_ID issued comes back with the state of a die: the latest of those held. -/
def State.lastTest (s : State) (id : Nat) : State :=
  let newer : Bool := s.cor.testId = 0 || decide ((id + 65536 - s.cor.testId) % 65536 < 32768)
  if newer then { s with cor := { s.cor with testId := id } } else s

/-! ## Admission (R295) -/

/-- Everything the correlator and Lookout hold of a die starts over under a new incarnation. -/
def State.resetCorr (s : State) (d : Nat) : State :=
  let s := s.clearReasons d 0xFF
  let s := (s.wr BX_COR_DIE_MARK_TSTATE d 0).wr BX_COR_DIE_MARK_OVERDUE d 0
  let s := s.wr BX_COR_DIE_MARK_LAG d 0
  let s := ((s.wr BX_LKO_DIE_MISSED d 0).wr BX_LKO_DIE_HEARD_RUN d 0).wr BX_LKO_DIE_PROBING d 0
  s.setCorDie d {}

/-- The epoch at which a fence asked to be lifted now is lifted: the first R407 allows. -/
def State.liftEpoch (s : State) : Nat := s.bxEpoch + s.rd BX_EPC_CTRL_MIN_LEAD

/-- A fenced die is readmitted (R295): a new incarnation, its state reset, MANUAL after a failed test, and the fence to be lifted at
B(M), which UNFENCE announces. Its ZX40 is brought up to the generation in force, as at every admission (R274). -/
def State.readmit (s : State) (d : Nat) : State :=
  let m := s.liftEpoch
  let cause := (s.die d).cause
  let addr := s.dieAddr d
  let s := (s.resetCorr d).assignInc d
  let s := s.setDie d { s.die d with unfence := some m }
  let s := { s with cnp := { s.cnp with fences := s.cnp.fences.map (fun (x : FenceRec) =>
    if ¬ x.partition ∧ x.id = addr ∧ x.lift = none then { x with lift := some m } else x) } }
  let s := if cause = 3 then s.setReason d 6 s.bxEpoch else s
  let s := s.sendRun d
  s.broadcastAlarm 0x21 (s.bxAlarm (fenceDetail false 0 cause) ((s.schedOf m).open_ m) (some d))

/-! ## Probes (R293) -/

/-- One send of a probe. -/
def State.sendProbe (s : State) (d tries : Nat) (origins : List (Nat × Cap)) : State :=
  let tag := (s.zxPort d).nextTag
  let s := s.zxSend d 0x0623 [] none
  s.setCorDie d { s.corDie d with probe := some { tries := tries, at_ := s.bxNs, tag := tag, origins := origins } }

/-- A probe begins, or a capsule joins the one in progress. -/
def State.startProbe (s : State) (d : Nat) (origin : Option (Nat × Cap)) : State :=
  match (s.corDie d).probe with
  | some p =>
    s.setCorDie d { s.corDie d with probe := some { p with origins := p.origins ++ origin.toList } }
  | none => (s.wr BX_LKO_DIE_PROBING d 1).sendProbe d 1 origin.toList

/-- A probe ends: the capsules that wait for it are answered. LOOKOUT_REPORT's verdict is ALIVE 0 or DEAD 1. -/
def State.endProbe (s : State) (d : Nat) (alive : Bool) : State :=
  match (s.corDie d).probe with
  | none => s
  | some p =>
    let s := (s.wr BX_LKO_DIE_PROBING d 0).setCorDie d { s.corDie d with probe := none }
    p.origins.foldl (fun s o =>
      if o.1 = 0x0620 then s.reply o.2 o.1 S_OK [b2n !alive]
      else s.reply o.2 o.1 (if alive then S_OK else S_TIMEOUT)) s

/-! ## Lookout (R292) -/

/-- SUSPECT_AT and DEAD_AT as stored. -/
def State.suspectAt (s : State) : Nat := max 1 (s.cfg.fld BX_LKO_CFG_SUSPECT_AT 0)
def State.deadAt (s : State) : Nat :=
  let v := s.cfg.fld BX_LKO_CFG_DEAD_AT 0
  if v ≤ s.suspectAt then s.suspectAt + 1 else v

/-- Lookout's update of one die for epoch n. -/
def State.lookDie (s : State) (n d : Nat) : State :=
  let x := s.corDie d
  let heard : Bool := n ∈ x.heard
  let s := s.setCorDie d { x with heard := x.heard.filter (fun e => n < e) }
  if s.dieFenced d then
    let run := if heard then x.heardRun + 1 else 0
    let s := (s.setCorDie d { s.corDie d with heardRun := run }).wr BX_LKO_DIE_HEARD_RUN d (min 255 run)
    if s.cfg.fld BX_LKO_CFG_AUTO_READMIT 0 = 1 ∧ (s.die d).cause = 1 ∧ s.cfg.fld BX_LKO_CFG_READMIT_EPOCHS 0 ≤ run ∧ (s.die d).unfence = none
    then s.readmit d else s
  else if d ≠ 64 ∧ ((s.cfgOf n).mask? (s.dieAddr d)).isNone then s.wr BX_LKO_DIE_STATE d 3
  else if d ≠ 64 ∧ s.partFenced then s
  else
    let missed := if heard then 0 else min 255 (s.rd BX_LKO_DIE_MISSED d + 1)
    let s := s.wr BX_LKO_DIE_MISSED d missed
    if missed < s.suspectAt then s.wr BX_LKO_DIE_STATE d 0
    else if missed < s.deadAt then (s.wr BX_LKO_DIE_STATE d 1).startProbe d none
    else if s.rd BX_LKO_DIE_STATE d = 2 then s
    else s.fenceDie d 1

/-- The update after a commit notice of epoch n, for every local die and the self-monitoring ZX40. -/
def State.lookoutUpdate (s : State) (n : Nat) : State := (List.range 65).foldl (fun s d => s.lookDie n d) s

/-! ## Records held -/

/-- The committed fleet record of an epoch. -/
def State.fleetRecord? (s : State) (n : Nat) : Option Bytes :=
  (s.ep.records.find? (fun (x : RecEntry) => x.epoch = n ∧ x.view = 64 ∧ x.committed)).map (fun (x : RecEntry) => x.bytes)

/-- A local die takes part in a committed record: PRESENT, or for the self-monitoring ZX40 kept unmerged under row 10 (R209). -/
def State.presentIn (s : State) (r : Bytes) (d : Nat) : Bool :=
  if d = 64 then (match s.held? 64 (recEpoch r) with
    | some x => x.row = some 10
    | none => false)
  else recDie r (s.dieAddr d) = 1

/-! ## The health score (R284) -/

/-- The health score of a snapshot. -/
def Settings.healthOf (c : Settings) (b : Bytes) : Nat :=
  let w := c.fld BX_COR_HEALTH_W_CE 0 * snapLs b 0xB4 + c.fld BX_COR_HEALTH_W_RT 0 * snapLs b 0xA8 + c.fld BX_COR_HEALTH_W_RN 0 * snapLs b 0xA9
  1000 - min 1000 (w >>> c.fld BX_COR_HEALTH_H_SHIFT 0)

/-- The health update of one die for the committed epoch n. -/
def State.healthDie (s : State) (n : Nat) (r : Bytes) (d : Nat) : State :=
  match s.presentIn r d, s.held? d n with
  | true, some x =>
    let c := s.cfgOf n
    let h := c.healthOf x.bytes
    let thr := c.fld BX_COR_HEALTH_THR_HEALTH_THR 0
    let y := s.corDie d
    let count := if thr ≠ 0 ∧ h < thr then y.healthCount + 1 else 0
    let s := s.setCorDie d { y with
      healths := SMap.set (y.healths.filter (fun e => n ≤ e.1 + 4)) n h, healthCount := count, seenFrom := some (y.seenFrom.getD n) }
    if thr ≠ 0 ∧ max 1 (c.fld BX_COR_HEALTH_HEALTH_HOLD 0) ≤ count then s.setReason d 4 n else s
  | true, none => s.setCorDie d { s.corDie d with seenFrom := some ((s.corDie d).seenFrom.getD n) }
  | false, _ => s

def State.healthUpdate (s : State) (n : Nat) (r : Bytes) : State := (List.range 65).foldl (fun s d => s.healthDie n r d) s

/-! ## Barrier digests (R278, R279) -/

/-- The stamps of a die on a line, in stamp order. -/
def lineStamps (b : Bytes) (line : Nat) : List Nat := (snapStamps b).filter (fun w => stampLine w = line)

/-- The digest entries of a group for the dies of an aggregator: those of its members PRESENT in the record with STAMPS_OVF = 0. snap
gives the snapshot of a port. -/
def digestEntries (agg : Nat) (snap : Nat → Option Bytes) (g : BarGroup) (r : Bytes) : List (Nat × Nat × List Nat) :=
  (g.members.filter (fun a => a / 64 = agg)).filterMap (fun a =>
    if recDie r a ≠ 1 then none
    else match snap (a % 64) with
      | none => none
      | some b => if snapOvf b then none else some (a, snapInc b, lineStamps b g.line))

/-- The bytes of a digest: a word per field, in the order of its fields, each entry as die, incarnation, count and stamps (log entry 15). -/
def digestBytes (g : Digest) : Bytes :=
  wordBytes ([g.home * 256 + g.group, g.epoch, g.agg, g.entries.length] ++
    g.entries.flatMap (fun e => [packFields [(46, 18, e.1), (30, 16, e.2.1), (0, 30, e.2.2.length)]] ++ e.2.2))

/-- The home of a group now: the lost home's buddy in its place (R302). -/
def State.homeNow (s : State) (h : Nat) : Nat :=
  if s.isLost h then ((s.treeOf h).map (·.buddy)).getD h else h

/-- A digest reaches a group held here. -/
def State.takeDigest (s : State) (g : Digest) : State :=
  { s with cor := { s.cor with groups := s.cor.groups.map (fun (x : GroupState) =>
    if x.home = g.home ∧ x.num = g.group then
      (if x.digests.any (fun (y : Digest) => y.epoch = g.epoch ∧ y.agg = g.agg) then x else { x with digests := x.digests ++ [g] })
    else x) } }

/-- The digests of an aggregator's members leave for the homes of their groups, or are taken here. -/
def State.sendDigests (s : State) (agg n : Nat) (snap : Nat → Option Bytes) (r : Bytes) : State :=
  ((s.cfgOf n).groups.filter (fun (g : BarGroup) => g.members.any (fun a => a / 64 = agg))).foldl (fun s g =>
    let dg : Digest := { home := g.home, group := g.num, epoch := n, agg := agg, entries := digestEntries agg snap g r }
    let h := s.homeNow g.home
    if h = s.agg then s.takeDigest dg else s.sendMsg 1 5 6 h (digestBytes dg) (some n) true) s

/-- The epoch falls due at every group held here: BAR_WAIT_US runs from now. -/
def State.groupsDue (s : State) (n : Nat) : State :=
  { s with cor := { s.cor with groups := s.cor.groups.map (fun (x : GroupState) => { x with due := x.due ++ [(n, s.bxNs)] }) } }

end Sys2Proof.Machine
end

