-- ==== Sys2Proof/Machine/Queues.lean ====
section
/-! DEFINITION. Queues (chapter 4): push, pop, cancel and clearing of the counters, and the crossing queues of a Stem port (R154). Each command is
one cycle; of a pop and a push in one cycle (Table 4-2) the pop comes first. A command on a dual-clock queue carries the clock edges made since the
command before it, in order, true for one of the write clock; a read edge that meets a write edge comes before it (R120: strictly after). A push is
made at a write edge of its own that follows them, a pop at a read edge of its own. -/
namespace Sys2Proof.Machine

/-- A queue of a shape, empty. -/
def QShape.queue (h : QShape) : Queue := { part := h.part, packet := h.packet, dual := h.dual, drop := h.drop, cap := h.cap }

/-- A queue by number; the first command that names it says its shape. -/
def State.queue (s : State) (k : Nat) (h : QShape) : Queue := (s.queues.find? k).getD h.queue

def State.setQueue (s : State) (k : Nat) (q : Queue) : State := { s with queues := s.queues.set k q }

/-- Even parity over data, X and, in a packet queue, LAST (Table 4-1). -/
def QWord.par (w : QWord) (packet : Bool) : Bool := (popcount 64 w.data + b2n w.x + b2n (packet && w.last)) % 2 == 1

/-! ## Queues by themselves -/

/-- A write-clock edge: freed slots cross back at the third one (R121). -/
def Queue.writeEdge (q : Queue) : Queue :=
  { q with wEdge := q.wEdge + 1, freeing := q.freeing.filter (fun f => decide (q.wEdge + 1 < f + 3)) }

/-- A read-clock edge. -/
def Queue.readEdge (q : Queue) : Queue := { q with rEdge := q.rEdge + 1 }

/-- Slots as the writer sees them. -/
def Queue.occupied (q : Queue) : Nat := q.words.length + q.open_.length + q.freeing.length

/-- The open packet is discarded with a word that is refused (R116, R119). -/
def Queue.rewind (q : Queue) (last over_ : Bool) : Queue :=
  { q with open_ := [], pktAbort := true, dropping := !last
           aborts := if over_ then q.aborts else min 0xFFFF (q.aborts + 1)
           overruns := if over_ then min 0xFFFFFFFF (q.overruns + 1) else q.overruns
           droppedWords := min 0xFFFFFFFF (q.droppedWords + q.open_.length + 1) }

/-- The open packet is cancelled, with a cancelling word or, after a reset, without (R118, R127). -/
def Queue.cancel (q : Queue) (words : Nat) : Queue :=
  { q with open_ := [], cancels := min 0xFFFF (q.cancels + 1), droppedWords := min 0xFFFFFFFF (q.droppedWords + q.open_.length + words) }

/-- What becomes of a word presented: written, held by a stall producer, or refused with the queue as it then is; abort tells of PKT_ABORT. -/
inductive PushFate where
  | write | hold | refuse (q : Queue) (abort : Bool)

/-- The push rules before a word is written (R113, R116 to R119). -/
def Queue.judge (q : Queue) (w : QPush) : PushFate :=
  let last := w.word.last
  if q.dropping then .refuse { q with dropping := !(last || w.cancel), droppedWords := min 0xFFFFFFFF (q.droppedWords + 1) } false
  else if w.cancel then .refuse (if q.packet then q.cancel 1 else q) false
  else if q.packet ∧ q.open_.length + 1 = q.cap then .refuse (q.rewind last false) true
  else if q.occupied < q.cap then .write
  else if ¬ q.drop then .hold
  else if q.packet then .refuse (q.rewind last true) true
  else .refuse { q with overruns := min 0xFFFFFFFF (q.overruns + 1) } false

/-- A word is written: into the open packet, which its LAST word commits, or into a plain queue (R115). -/
def Queue.store (q : Queue) (w : QWord) : Queue :=
  if ¬ q.packet then { q with words := q.words ++ [{ word := w, stamp := q.rEdge }] }
  else if w.last then { q with words := q.words ++ (q.open_ ++ [w]).map (fun x => ({ word := x, stamp := q.rEdge } : QSlot)), open_ := [] }
  else { q with open_ := q.open_ ++ [w] }

/-- The head word is popped, or the last one again (R109, R112); true for a word whose parity fails. -/
def Queue.pop (q : Queue) : Bool × Queue :=
  match q.visible with
  | [] => (false, { q with underrun := true, underruns := min 0xFFFF (q.underruns + 1) })
  | sl :: _ =>
    let w := sl.word
    let bad := w.p != w.par q.packet
    (bad, { q with
      words := q.words.drop 1, lastPop := { w with x := w.x || bad }, parity := q.parity || bad
      parityErrs := if bad then min 0xFFFF (q.parityErrs + 1) else q.parityErrs
      freeing := if q.dual then q.freeing ++ [q.wEdge] else q.freeing })

/-- An open packet that survived a reset is cancelled at the first push after it (R127). -/
def Queue.afterReset (q : Queue) : Queue :=
  if ¬ q.cancelNext then q else if q.open_ = [] then { q with cancelNext := false } else { q.cancel 0 with cancelNext := false }

/-- The contents of a queue are cleared, its counters kept: the word last popped is zero (R112, R128). -/
def Queue.clear (q : Queue) : Queue := { q with words := [], open_ := [], held := [], dropping := false, lastPop := { data := 0 }, freeing := [], cancelNext := false }

/-- A reset that the queue's contents outlive: its open packet is to be cancelled (R127). -/
def Queue.survive (q : Queue) : Queue := if q.open_ = [] then q else { q with cancelNext := true }

/-! ## Pushes of a producer -/

/-- The write port (R109, R110): P computed, then what an armed injector makes of the word. -/
def State.writePort (s : State) (k : Nat) (q : Queue) (w : QWord) : QWord × State :=
  let w := { w with p := w.par q.packet }
  if q.part = .zx ∨ 65536 ≤ k then (w, s)
  else
    match s.wtEvent (wtTarget 2 k) w.data with
    | (none, s) => (w, s)
    | (some (act, _), s) =>
      if act = wtParity then ({ w with p := !w.p }, s)
      else if act = wtPoison then
        let x := { w with x := true }
        ({ x with p := x.par q.packet }, s)
      else (w, s)

/-- One word is presented; true when it has to wait. -/
def State.pushWord (s : State) (k : Nat) (q : Queue) (w : QPush) : Bool × State :=
  let q := q.afterReset
  match q.judge w with
  | .hold => (true, s.setQueue k q)
  | .refuse q' abort => (false, if abort then (s.setQueue k q').emit (.pktAbort k) else s.setQueue k q')
  | .write =>
    let r := s.writePort k q w.word
    (false, r.2.setQueue k (q.store r.1))

/-- The word a producer presents is pushed, if it can be. -/
def State.pushFirst (s : State) (k : Nat) (h : QShape) : State :=
  let q := s.queue k h
  match q.held with
  | [] => s
  | w :: t =>
    let r := s.pushWord k { q with held := t } w
    if r.1 then s.setQueue k { q.afterReset with held := w :: t } else r.2

/-- The words a producer presents are pushed as slots free, in a single-clock queue one in each of the cycles that follow. -/
def State.pushHeld (s : State) (k : Nat) (h : QShape) : State := (s.queue k h).held.foldl (fun s _ => s.pushFirst k h) s

/-- A clock edge of a dual-clock queue: at a write edge the word presented is pushed, if it can be. -/
def State.queueEdge (s : State) (k : Nat) (h : QShape) (write : Bool) : State :=
  if write then (s.setQueue k (s.queue k h).writeEdge).pushFirst k h else s.setQueue k (s.queue k h).readEdge

/-- The clock edges made since the command before, in their order, true for a write edge: re read edges, and of each write edge the number of
these that came before it. -/
def clockEdges (we : List Nat) (re : Nat) : List Bool :=
  (List.range (re + 1)).flatMap (fun r => (we.filter (fun n => n = r)).map (fun _ => true) ++ if r < re then [false] else [])

/-- The clock edges made since the command before. -/
def State.queueEdges (s : State) (k : Nat) (h : QShape) (we : List Nat) (re : Nat) : State :=
  (clockEdges we re).foldl (fun s e => s.queueEdge k h e) s

/-- A producer presents a word, behind those it still holds. -/
def State.present (s : State) (k : Nat) (h : QShape) (w : QPush) : State :=
  let q := s.queue k h
  let s := s.setQueue k { q with held := q.held ++ [w] }
  if q.dual then s.queueEdge k h true else s.pushHeld k h

/-- QUEUE_PUSH: a word with its X and LAST is pushed into queue k. -/
def execQueuePush (k : Nat) (h : QShape) (data : Nat) (x last : Bool) (we : List Nat) (re : Nat) (s : State) : Host.Outcome State Fault Refusal :=
  let s := s.queueEdges k h we re
  done (s.present k h { word := { data := data % 2 ^ 64, x := x, last := last && (s.queue k h).packet } })

/-- QUEUE_POP: a word is popped from queue k, or the last one again (R109, R112). In a single-clock queue the slot is free in the same cycle. -/
def execQueuePop (k : Nat) (h : QShape) (we : List Nat) (re : Nat) (s : State) : Host.Outcome State Fault Refusal :=
  let s := s.queueEdges k h we re
  let q := s.queue k h
  let r := (if q.dual then q.readEdge else q).pop
  let s := s.setQueue k r.2
  let s := if r.1 ∧ q.part = .zx then s.ls 0xB6 else s
  done (if q.dual then s else s.pushHeld k h)

/-- PACKET_CANCEL: a LAST word with the cancel strobe (R118), after the words its producer still holds. -/
def execPacketCancel (k : Nat) (h : QShape) (we : List Nat) (re : Nat) (s : State) : Host.Outcome State Fault Refusal :=
  done ((s.queueEdges k h we re).present k h { word := { data := 0, last := true }, cancel := true })

/-- QUEUE_CNT_CLR: CNT_CLR of Qk_STS written 1. -/
def execQueueCntClr (k : Nat) (s : State) : Host.Outcome State Fault Refusal :=
  match s.queues.find? k with
  | none => done s
  | some q => done (s.setQueue k { q with underruns := 0, aborts := 0, cancels := 0, parityErrs := 0, droppedWords := 0, overruns := 0 })

/-! ## The crossing queues of a Stem port of BX64 (R154) -/

/-- The lane packet queue of lane j of port p, j = 4 the urgent crossing. No chapter exposes them, so that their numbers lie above Qk's. -/
def crossQueue (p j : Nat) : Nat := 65536 + 8 * p + j

/-- A lane packet queue: 128 words, fed by a drop producer. -/
def laneShape : QShape := { packet := true, dual := true, drop := true, cap := 128 }

/-- The urgent crossing: a plain dual-clock queue. The spec gives no capacity; one flit's 32 words (DESIGN CHOICE, log entry 117). -/
def urgentShape : QShape := { dual := true, drop := true, cap := 32 }

/-- Words pushed at one write edge each; true when none was refused. -/
def Queue.feed (q : Queue) : List QWord → Bool × Queue
  | [] => (true, q)
  | w :: t =>
    let q := q.writeEdge
    match q.judge { word := w } with
    | .write => (q.store { w with p := w.par q.packet }).feed t
    | .refuse q' _ => (false, (q'.feed t).2)
    | .hold => (false, q)

/-- Every word that can be popped is popped, one at each read edge. -/
def Queue.drain : Nat → Queue → Queue
  | 0, q => q
  | n + 1, q => if q.readEdge.visible = [] then q.readEdge else Queue.drain n q.readEdge.pop.2

/-- Words pass a crossing: pushed, visible at the third read edge, and popped; false when one was refused. -/
def State.crossWords (s : State) (k : Nat) (h : QShape) (ws : List QWord) : Bool × State :=
  let r := (s.queue k h).feed ws
  (r.1, s.setQueue k (Queue.drain ws.length r.2.readEdge.readEdge))

/-- A flit crosses into cclk: an ALARM through the urgent crossing, any other through the four lane packet queues, lane by lane and popped in
lock-step. False when a queue refused a word, and none of the flit is delivered. -/
def State.crossIn (s : State) (p ty : Nat) (bs : Bytes) : Bool × State :=
  let ws := (chunks 8 bs).map leNat
  if ty = 3 then s.crossWords (crossQueue p 4) urgentShape (ws.map (fun w => { data := w }))
  else
    (List.range 4).foldl (fun a j =>
      let lane := (List.range 8).map (fun c => ({ data := ws.getD (4 * c + j) 0, last := c == 7 } : QWord))
      let r := a.2.crossWords (crossQueue p j) laneShape lane
      (a.1 && r.1, r.2)) (true, s)

end Sys2Proof.Machine
end

