-- ==== Sys2Proof/Machine/Stem.lean ====
section
/-! DEFINITION. The link chapters' commands (R133 to R160, R374 to R391, R409): training, retraining, HOLD, the receiver, the
retry timers. FLIT_TRANSMIT stands in Transmit.lean. -/
namespace Sys2Proof.Machine

/-- The APB address of ZX_EPC_ID (Table 2-2's map). -/
def zxEpcIdAddr : Nat := 0x88

/-! ## Training (R133, R134) -/

/-- HOLD of a BX64 port; ZX40 never holds its link (R157). -/
def State.holdSet (s : State) (e : LinkId) : Bool :=
  match e with
  | .zx => false
  | .stem p => s.flag BX_STM_PORT_CTRL_HOLD p
  | .canopy q => s.flag BX_CNP_PORT_CTRL_HOLD q

/-- A failed attempt (R133): the eighth in a row enters DOWN_HOLD, else RESET. -/
def State.failAttempt (s : State) (e : LinkId) : State :=
  let n := (s.link e).attempts + 1
  let s := s.modLink e (fun l => { l with attempts := n })
  s.setLstate e (if 8 ≤ n then .downHold else .reset)

/-- Flits flushed under R135 are counted. -/
def State.countFlushed (s : State) (e : LinkId) (n : Nat) : State :=
  match e with
  | .zx => s.bump ZX_STM_CNT_FLUSHED 0 n
  | .stem p => s.bump BX_STM_PORT_MISC_FLUSHED p n
  | .canopy _ => s

/-- ZX40 recovers what it flushed (R136): ALARMs again under a new SEQ, the held dump again, a GAP record of DRAIN_DROP in each
STREAM buffer with DRAIN = STEM that lost records. Snapshots come back by the resend of R105. -/
def State.recoverFlushed (s : State) (held : List HeldFlit) : State :=
  let s := (held.filter (fun h => h.body.ty = 3)).foldl (fun s h => s.enqueue .zx 3 h.body) s
  let s := if s.flag ZX_HD_STS_HELD then s.modLink .zx (fun l => { l with dumpNext := some 0 }) else s
  (List.range 8).foldl (fun s n =>
    let flits := held.filter (fun h => h.body.ty = 2 ∧ h.body.sub = n)
    let lost := (flits.map (fun h => h.body.payload.length / 16)).foldl (· + ·) 0
    let b := s.trcBuf n
    if lost = 0 ∨ b.state = .idle then s
    else
      let first := bits (rdLe ((flits.head?.map (fun h => h.body.payload)).getD []) 0 8) 63 8
      let g := gapRec 0 lost 0
      s.putTrc n (b.flushGap { g with w0 := g.w0 % 256 + first * 256 } lost)) s

/-- Entry into ACTIVE (R135, R136, R137): FRESH of either side clears the sequence state and the replay buffer, else the partner's
RX_NEXT - 1 acknowledges and the rest is resent from RX_NEXT. peerActive tells that an ACTIVE marker of the partner was received already. A marker
slot comes first (DESIGN CHOICE, log entry 116). -/
def State.enterActive (s : State) (e : LinkId) (fresh : Bool) (rxNext : Nat) (peerFresh peerActive : Bool) : State :=
  let l := s.link e
  let s := if fresh then
      let s := s.countFlushed e l.replay.length
      let s := s.modLink e (fun l => { l with
        next := 0, nxt := 0, una := 0, replay := [], resendFrom := none, resends := 0, nakPending := false, nakDue := false, unacked := 0,
        ackDue := false, rxOpen := [], snapTx := none })
      match e with
      | .zx => s.recoverFlushed l.replay
      | .stem p =>
        let s := if peerFresh ∨ l.replay.any (fun h => h.body.ty = 4) then s.flushZx p else s
        let s := if peerFresh then s.wtZxOff p else s
        s.zxFirst p 0x0501 [s.dieAddr p, zxEpcIdAddr, 1]
      | .canopy q => s.setPort q { s.port q with sent := [], freedTx := [], freedRx := [], held := [], txOpen := [] }
    else
      let m := e.seqMod
      s.modLink e (fun l => { l with
        replay := l.replay.filter (fun h => (h.seq + m - rxNext) % m < (l.nxt + m - rxNext) % m), una := rxNext,
        resendFrom := if (l.nxt + m - rxNext) % m = 0 then none else some rxNext
        resends := if rxNext = l.una then l.resends else 0 })
  let s := s.modLink e (fun l => { l with attempts := 0, fresh := false, slot := e.slotCycles, missRun := [0, 0, 0, 0] })
  let s := s.setLstate e .active
  let s := s.modLink e (fun l => { l with partnerActive := peerActive })
  match e with
  | .canopy q => (s.setPstate q 1).sendHello q
  | .zx => s.sendHwReqs.resendUnacked
  | _ => s

/-- BX64's domains outside Taproot run: no reset or bring-up holds them, and the part is not in P3 (R516, R518). -/
def State.bxOn (s : State) : Bool := s.up.phase = 0 && s.rd BX_PWR_STS_PSTATE ≠ 3

/-- LINK_RESET_DONE: 1 us in RESET has elapsed. The self-monitoring ZX40's link goes to ACTIVE directly with FRESH = 1 (R137). -/
def execLinkResetDone (e : LinkId) (s : State) : Host.Outcome State Fault Refusal :=
  if (s.link e).lstate = .reset ∧ (if e = .zx then s.zxOn else s.bxOn) then
    if s.noLanes e then done (s.enterActive e true 0 true true)
    else done (s.setLstate e .lock)
  else done s

/-- LINK_LOCK_DONE: all four lanes locked and valid for 1 us. -/
def execLinkLockDone (e : LinkId) (s : State) : Host.Outcome State Fault Refusal :=
  if (s.link e).lstate = .lock then done ((s.modLink e (fun l => { l with lock := 15 })).setLstate e .align) else done s

/-- The four LANE values of a LANE_MAP are distinct. -/
def lanesDistinct (m : Nat) : Bool := (List.range 4).all (fun n => (List.range 4).any (fun p => m / 4 ^ p % 4 == n))

/-- LINK_ALIGN_DONE: markers valid on every lane; LANE_MAP as found and the word cycles each logical lane is delayed by (R131). Where the lane
numbers are not distinct or the skew exceeds 8 word cycles the end stays in ALIGN. -/
def execLinkAlignDone (e : LinkId) (a : LaneAlign) (s : State) : Host.Outcome State Fault Refusal :=
  if (s.link e).lstate = .align ∧ lanesDistinct a.map ∧ a.deskew.all (fun n => decide (n ≤ 8)) then
    done ((s.modLink e (fun l => { l with laneMap := a.map % 256, deskew := a.deskew })).setLstate e .param)
  else done s

/-- INFO is compatible (R133, Table 13-1): lane 3 the inverse of lane 0, and lane 0 as the end's partner must send it. -/
def State.infoOk (s : State) (e : LinkId) (lane0 lane3 : Nat) : Bool :=
  lane3 = 0xFFFFFFFF - lane0 &&
    match e with
    | .zx => lane0 = 0x64010000
    | .stem _ => bits lane0 31 24 = 0x40 && bits lane0 23 16 = 0x01
    | .canopy _ => bits lane0 31 16 = s.rd BX_CNP_IDENT_FLEET_ID && bits lane0 15 4 ≠ s.agg

/-- LINK_PARAM_DONE: the PARAM markers exchanged: INFO of lanes 0 and 3, the partner's RX_NEXT and FRESH, and whether the partner's latest markers
were ACTIVE ones. Incompatible INFO fails the attempt; an RX_NEXT outside UNA to NXT is a violation treated as FRESH (Table 5-12). -/
def execLinkParamDone (e : LinkId) (lane0 lane3 rxNext : Nat) (peer : PeerMarks) (s : State) : Host.Outcome State Fault Refusal :=
  let l := s.link e
  if l.lstate = .param then
    if s.infoOk e lane0 lane3 then
      let m := e.seqMod
      let inWin : Bool := (rxNext + m - l.una) % m ≤ (l.nxt + m - l.una) % m ∧ rxNext < m
      let fresh := l.fresh ∨ peer.fresh
      let s := if fresh ∨ inWin then s else s.viol e 5
      done (s.enterActive e (fresh ∨ ¬ inWin) rxNext peer.fresh peer.active)
    else done ((s.viol e 6).failAttempt e)
  else done s

/-- LINK_TRAIN_TIMEOUT: the timeout of LOCK, ALIGN or PARAM is a failed attempt. -/
def execLinkTrainTimeout (e : LinkId) (s : State) : Host.Outcome State Fault Refusal :=
  match (s.link e).lstate with
  | .lock | .align | .param => done (s.failAttempt e)
  | _ => done s

/-- LINK_DOWN_HOLD_EXPIRY: 10 ms in DOWN_HOLD, then RESET; with HOLD set only when HOLD is cleared. -/
def execLinkDownHoldExpiry (e : LinkId) (s : State) : Host.Outcome State Fault Refusal :=
  if (s.link e).lstate = .downHold ∧ ¬ s.holdSet e then
    done ((s.modLink e (fun l => { l with attempts := 0 })).setLstate e .reset)
  else done s

/-- LINK_LOCK_LOSS: a lock or valid bit at 0; locks gives the lanes still locked. The self-monitoring ZX40's link has no such bits (R137). -/
def execLinkLockLoss (e : LinkId) (locks : Nat) (s : State) : Host.Outcome State Fault Refusal :=
  done (if s.noLanes e then s else (s.modLink e (fun l => { l with lock := locks % 16 })).retrain e)

/-- Marker slots missed in a row on each physical lane, after a slot with these words. -/
def missRuns (e : LinkId) (laneMap : Nat) (runs words : List Nat) : List Nat :=
  (List.range 4).map (fun p => if markerValid e laneMap p (words.getD p 0) then 0 else runs.getD p 0 + 1)

/-- LINK_MARKER_MISS: a marker slot in ACTIVE with the words of the four physical lanes. The third in a row without a valid marker on one lane, or a
marker with TSTATE other than ACTIVE, retrains the link (R134); an ACTIVE marker lets this end send flits (R133). -/
def execLinkMarkerMiss (m : LaneMarks) (s : State) : Host.Outcome State Fault Refusal :=
  let e := m.link
  let words := m.words
  let l := s.link e
  if l.lstate ≠ .active ∨ s.noLanes e then done s
  else
    let valid := ((List.range 4).filter (fun p => markerValid e l.laneMap p (words.getD p 0))).map (fun p => words.getD p 0)
    let runs := missRuns e l.laneMap l.missRun words
    if valid.any (fun w => bits w 37 35 != 3) ∨ runs.any (fun n => decide (3 ≤ n)) then done ((s.modLink e (fun l => { l with missRun := runs })).retrain e)
    else done (s.modLink e (fun l => { l with missRun := runs, partnerActive := l.partnerActive || !valid.isEmpty }))

/-- LINK_NO_FLIT_TIMEOUT: no flit with good CRC for 20 us. -/
def execLinkNoFlitTimeout (e : LinkId) (s : State) : Host.Outcome State Fault Refusal := done (s.retrain e)

/-- ZX_STM_RETRAIN_WRITE: a write of ZX_STM_CTRL. -/
def execZxStmRetrainWrite (v : Nat) (s : State) : Host.Outcome State Fault Refusal :=
  done (if bitAt v 0 then s.retrain .zx else s)

/-- STEM_PORT_RETRAIN_WRITE: a write of 1 to BX_STM_PORT_CTRL.RETRAIN of port p. -/
def execStemPortRetrainWrite (p : Nat) (s : State) : Host.Outcome State Fault Refusal :=
  done (if p < 64 then s.retrain (.stem p) else s)

/-- STEM_PORT_HOLD_WRITE: a write of BX_STM_PORT_CTRL.HOLD of port p. -/
def execStemPortHoldWrite (p : Nat) (hold : Bool) (s : State) : Host.Outcome State Fault Refusal :=
  done (if p < 64 ∧ s.flag BX_STM_PORT_CTRL_HOLD p ≠ hold then s.setHold (.stem p) hold else s)

/-- CNP_PORT_RETRAIN_WRITE: a write of 1 to BX_CNP_PORT_CTRL.RETRAIN of port q. -/
def execCnpPortRetrainWrite (q : Nat) (s : State) : Host.Outcome State Fault Refusal :=
  done (if q < 24 then s.retrain (.canopy q) else s)

/-- CNP_PORT_HOLD_WRITE: a write of BX_CNP_PORT_CTRL.HOLD of port q. -/
def execCnpPortHoldWrite (q : Nat) (hold : Bool) (s : State) : Host.Outcome State Fault Refusal :=
  done (if q < 24 ∧ s.flag BX_CNP_PORT_CTRL_HOLD q ≠ hold then s.setHold (.canopy q) hold else s)

/-- STEM_PORT_CTRL (0x0610): port, HOLD, RETRAIN, ALARM_LIMIT. -/
def execStemPortCtrl (c : Cap) (s : State) : Host.Outcome State Fault Refusal :=
  done (s.checked c 0x0610 c.isOp 4 (fun s =>
    if 63 < c.p 0 then s.reply c 0x0610 S_BADPARAM
    else
      let e : LinkId := .stem (c.p 0)
      let s := s.wr BX_STM_PORT_CTRL_ALARM_LIMIT (c.p 0) (c.p 3)
      let s := if s.flag BX_STM_PORT_CTRL_HOLD (c.p 0) ≠ bitAt (c.p 1) 0 then s.setHold e (bitAt (c.p 1) 0) else s
      let s := if bitAt (c.p 2) 0 then s.retrain e else s
      s.reply c 0x0610 S_OK))

/-! ## The receiver (R148 to R151) -/

/-- A NAK falls due unless one is pending; ZX40 counts it when it is sent. -/
def State.nak (s : State) (e : LinkId) : State :=
  if (s.link e).nakPending then s else s.modLink e (fun l => { l with nakPending := true, nakDue := true })

/-- A cumulative acknowledgement (R150): it frees every flit through a, or is a violation outside UNA - 1 to NXT - 1. -/
def State.applyAck (s : State) (e : LinkId) (a : Nat) : State :=
  let l := s.link e
  let m := e.seqMod
  let d := (a + m - l.una) % m
  let held := (l.nxt + m - l.una) % m
  if d < held then
    s.modLink e (fun l => { l with
      replay := l.replay.filter (fun h => d < (h.seq + m - l.una) % m), una := (a + 1) % m, resends := 0
      resendFrom := match l.resendFrom with
        | some r => if (r + m - l.una) % m ≤ d then (if d + 1 = held then none else some ((a + 1) % m)) else some r
        | none => none })
  else if d = m - 1 then s
  else s.viol e 4

/-- A resend falls due from a SEQ (R150): the ninth from the same UNA retrains the link instead. -/
def State.resendDue (s : State) (e : LinkId) (from_ : Nat) : State :=
  let l := s.link e
  if l.replay = [] then s
  else if 8 ≤ l.resends then s.retrain e
  else s.modLink e (fun l => { l with resendFrom := some from_, resends := l.resends + 1 })

/-- Stem content is well formed (Table 5-5, R139): type and SUB allowed in this direction, LEN as the table gives. up is true for
flits toward BX64. -/
def stemContentOk (up : Bool) (h : Hdr) : Bool :=
  match h.ty with
  | 0 => h.sub = 0 ∧ h.len = 0
  | 1 => up ∧ h.sub = 0 ∧ 1 ≤ h.len ∧ h.len ≤ 244
  | 2 => up ∧ ((h.sub ≤ 7 ∧ 16 ≤ h.len ∧ h.len ≤ 240 ∧ h.len % 16 = 0) ∨ (h.sub = 8 ∧ 1 ≤ h.len ∧ h.len ≤ 244))
  | 3 => up ∧ h.len = 40 ∧ (h.sub ∈ [1, 2, 3, 4, 0x10])
  | 4 => h.len = 64 ∧ (if up then h.sub = 1 else h.sub = 0)
  | 5 => h.len = 40 ∧ (if up then h.sub = 1 else h.sub = 0 ∨ h.sub = 2)
  | 6 => up ∧ h.sub = 0 ∧ 24 ≤ h.len ∧ h.len ≤ 232 ∧ (h.len - 8) % 16 = 0
  | 7 => h.sub = 0 ∧ (if up then h.len = 0 else h.len = 8)
  | 8 => h.sub = 0 ∧ h.len = 0
  | _ => false

/-- The VC of a Canopy message (Table 13-4), none for link control, or for a kind that Canopy does not carry. -/
def canopyVc (ty sub : Nat) : Option Nat :=
  match ty with
  | 1 => [(1, 3), (2, 7), (3, 7), (4, 4), (5, 6), (6, 6)].lookup sub
  | 2 => if sub = 0 then some 7 else none
  | 3 => if sub ∈ [1, 2, 3, 4] ∨ (0x20 ≤ sub ∧ sub ≤ 0x2C) then some 0 else none
  | 4 => if sub ≤ 1 ∨ (0x10 ≤ sub ∧ sub ≤ 0x16) then some 2 else if sub = 0x20 ∨ sub = 0x21 then some 5 else none
  | 5 => if sub ≤ 2 then some 1 else none
  | _ => none

/-- Canopy content is well formed (Table 13-11 row 1). -/
def canopyContentOk (h : Hdr) : Bool :=
  if h.ty = 0 ∨ h.ty = 8 then h.len = 0
  else if h.ty = 7 then h.len = 16
  else h.len ≤ 492 ∧ canopyVc h.ty h.sub = some h.vc ∧ (h.ty ≠ 3 ∨ h.len = 48)

/-- The message a part belongs to: one open message per TYPE on Stem (R141), per VC on Canopy (R386). -/
def sameMsg (canopy : Bool) (m : OpenMsg) (h : Hdr) : Bool := if canopy then m.msg.vc = h.vc else m.msg.ty = h.ty

/-- The parts of a SNAP message and its bytes, from NCTR and NSTAMP in part 0 (R142). -/
def snapBytes (part0 : Bytes) : Nat := entrySize (bits (rdLe part0 24 8) 31 17) (bits (rdLe part0 24 8) 16 6)

/-- A SNAP message that its part 0 ends is whole: K parts, and S bytes in all. n is the number of parts received, b the bytes. -/
def snapWhole (n : Nat) (b : Bytes) : Bool := n == ceilDiv (snapBytes b) 244 && b.length == snapBytes b

/-- A Stem message of one flit, or a part of a hang dump as R143 cuts it. -/
def stemPartOk (h : Hdr) : Bool :=
  if h.ty = 2 ∧ h.sub = 8 then decide (h.part ≤ 33) && (h.last == decide (h.part = 33)) && decide (h.len = if h.part = 33 then 140 else 244)
  else h.ty = 1 || h.ty = 2 || (h.first && h.last)

/-- A part takes its place (R141, R142, R386): a delivered message, an open one, or malformed with the open message dropped. A SNAP
message starts with part 1 and ends with part 0, whose bytes come first and give K. -/
def State.reassemble (s : State) (e : LinkId) (h : Hdr) (payload : Bytes) : State :=
  let canopy := e.isCanopy
  let isSnap : Bool := ¬ canopy ∧ h.ty = 1
  let cur := (s.link e).rxOpen.find? (fun m => sameMsg canopy m h)
  let others := (s.link e).rxOpen.filter (fun m => ¬ sameMsg canopy m h)
  let bad := (s.modLink e (fun l => { l with rxOpen := others })).malformed e 2
  let deliver (m : Msg) := s.modLink e (fun l => { l with rxOpen := others, inbox := l.inbox ++ [m] })
  let base : Msg := {
    ty := h.ty, sub := h.sub, vc := h.vc, src := h.src, dst := h.dst, bcast := h.bcast, hops := h.hops, resent := h.resent, bytes := payload }
  if ¬ canopy ∧ ¬ stemPartOk h then bad
  else match cur with
  | none =>
    if ¬ h.first then bad
    else if h.last then (if h.part = 0 ∧ (¬ isSnap ∨ snapWhole 1 payload) then deliver base else bad)
    else if h.part = (if isSnap then 1 else 0) then
      s.modLink e (fun l => { l with rxOpen := others ++ [{ msg := base, nextPart := h.part + 1 }] })
    else bad
  | some m =>
    if h.first ∨ m.msg.sub ≠ h.sub ∨ m.msg.src ≠ h.src ∨ m.msg.dst ≠ h.dst ∨ m.msg.ty ≠ h.ty then bad
    else if isSnap ∧ h.last then
      (if h.part = 0 ∧ snapWhole m.nextPart (payload ++ m.msg.bytes) then deliver { m.msg with bytes := payload ++ m.msg.bytes } else bad)
    else if h.part ≠ m.nextPart then bad
    else
      let msg := { m.msg with bytes := m.msg.bytes ++ payload }
      if h.last then deliver msg
      else s.modLink e (fun l => { l with rxOpen := others ++ [{ msg := msg, nextPart := h.part + 1 }] })

/-- Buffers of a VC are freed at a Canopy port (R384). -/
def State.freeBuf (s : State) (q vc : Nat) : State :=
  let p := s.port q
  s.setPort q { p with held := p.held.set vc (p.held.getD vc 0 - 1), freedRx := p.freedRx.set vc ((p.freedRx.getD vc 0 + 1) % 4096) }

/-- The buffer of a flit whose content is dropped on arrival is free at once (R384). -/
def State.dropBuf (s : State) (e : LinkId) (h : Hdr) : State :=
  match e with
  | .canopy q =>
    if h.ty = 0 ∨ h.ty = 7 ∨ h.ty = 8 then s
    else s.setPort q { s.port q with freedRx := (s.port q).freedRx.set h.vc (((s.port q).freedRx.getD h.vc 0 + 1) % 4096) }
  | _ => s

/-- A freed count received (R384): taken when ahead of the one held by 1 to 2,047. -/
def CnpPort.takeCount (p : CnpPort) (vc n : Nat) : CnpPort :=
  let d := (n + 4096 - p.freedTx.getD vc 0) % 4096
  if 1 ≤ d ∧ d ≤ 2047 then { p with freedTx := p.freedTx.set vc (n % 4096) } else p

/-- A Canopy flit whose content has been accepted (R377, R380, R381, R385, R406): refused at a port that is not open to it, relayed,
or taken. -/
def State.canopyContent (s : State) (q : Nat) (h : Hdr) (payload : Bytes) : State :=
  let ps := s.rd BX_CNP_PORT_STS_PSTATE q
  let linkOnly : Bool := h.ty = 5 ∨ h.ty = 0 ∨ h.ty = 7 ∨ h.ty = 8
  let hello : Bool := h.ty = 4 ∧ h.sub = 0x10
  if ps = 3 ∧ ¬ (linkOnly ∨ fenceAlarm h.ty h.sub) then ((s.bump BX_CNP_PORT_MISC_FENCED_DROP q).violation 2 14 2 q).freeBuf q h.vc
  else if ps < 2 ∧ ¬ (linkOnly ∨ hello) then (s.viol (.canopy q) 5).freeBuf q h.vc
  else if h.bcast ∨ hello ∨ linkOnly ∨ h.dst = s.agg ∨ (h.ty = 4 ∧ h.sub = 0x11) then
    (s.reassemble (.canopy q) h payload).freeBuf q h.vc
  else if h.hops = 0 then ((s.bump BX_CNP_CNT0_TTL_EXPIRED).violation 2 13 2 q).freeBuf q h.vc
  else
    match s.outPort h.ty h.sub h.src h.dst with
    | (none, s) => (s.violation 2 13 2 q).freeBuf q h.vc
    | (some o, s) =>
      s.enqueue (.canopy o) h.vc {
        ty := h.ty, sub := h.sub, first := h.first, last := h.last, part := h.part, payload := payload, vc := h.vc, bcast := false,
        hops := h.hops - 1, src := h.src, dst := h.dst } (some q)

/-- Accepted content is delivered, or dropped as malformed. -/
def State.deliver (s : State) (e : LinkId) (h : Hdr) (payload : Bytes) : State :=
  match e with
  | .canopy q =>
    let s := if 1 ≤ h.ty ∧ h.ty ≤ 5 then
        let p := s.cnp.peers.getD h.src {}
        { s with cnp := { s.cnp with peers := s.cnp.peers.set h.src { p with lastHeard := s.bxNs } } }
      else s
    if ¬ canopyContentOk h then (s.malformed e 1).dropBuf e h
    else if h.ty = 7 then
      s.setPort q ((List.range 8).foldl (fun p v => p.takeCount v (rdLe payload (2 * v) 2)) (s.port q))
    else if h.ty = 0 ∨ h.ty = 8 then s
    else
      let p := s.port q
      (s.setPort q { p with held := p.held.set h.vc (p.held.getD h.vc 0 + 1) }).canopyContent q h payload
  | _ =>
    if ¬ stemContentOk (e ≠ .zx) h then s.malformed e 1
    else if h.ty = 0 ∨ h.ty = 8 ∨ (h.ty = 7 ∧ e ≠ .zx) then s
    else s.reassemble e h payload

/-- A flit the receiver counts as out of sequence or failing its CRC. -/
def State.countCrc (s : State) (e : LinkId) : State :=
  match e with
  | .zx => s.ls 0xA4
  | _ => s.bump PORT_ERRS_CRC e.errs

def State.countSeq (s : State) (e : LinkId) : State :=
  match e with
  | .zx => s.ls 0xA5
  | _ => s.bump PORT_ERRS_SEQ e.errs

/-- A Canopy port has no buffer left on a VC (Table 13-11 row 3). -/
def State.noBuffer (s : State) (e : LinkId) (h : Hdr) : Bool :=
  match e with
  | .canopy q => canopyVc h.ty h.sub = some h.vc ∧ vcBuffers h.vc ≤ (s.port q).held.getD h.vc 0
  | _ => false

/-- An ACKSEQ lies within UNA - 1 to NXT - 1 (Table 5-12 row 4). -/
def LinkEnd.ackOk (l : LinkEnd) (m a : Nat) : Bool := (a + m - l.una) % m < (l.nxt + m - l.una) % m || (a + m - l.una) % m == m - 1

/-- A flit on a VC without credit is discarded, and a NAK falls due as for a CRC failure (Table 13-11). -/
def State.creditViol (s : State) (e : LinkId) : State :=
  ((((s.bump BX_CNP_PORT_MISC_CREDIT_VIOL e.num).countViol e).violation 2 3 2 e.num).nak e).escalate e

/-- An unsequenced flit (Table 5-7 row 2): its acknowledgement applies, a NAK whose ACKSEQ lies in the window makes a resend due, the rest is
delivered. A NAK with SUB or LEN outside Table 5-5 is malformed (Table 5-12 row 1). -/
def State.receiveUnseq (s : State) (e : LinkId) (h : Hdr) (payload : Bytes) : State :=
  let ok := (s.link e).ackOk e.seqMod h.ackseq
  let s := if h.ackv then s.applyAck e h.ackseq else s
  if h.ty = 8 ∧ (h.sub ≠ 0 ∨ h.len ≠ 0) then s.malformed e 1
  else if h.ty = 8 then
    let s := if e = .zx then s.ls 0xA7 else s
    if ok then s.resendDue e ((h.ackseq + 1) % e.seqMod) else s
  else if h.ty = 5 ∧ s.noBuffer e h then s.creditViol e
  else s.deliver e h payload

/-- The sequenced flit expected next (Table 5-7 row 3; on Canopy rows 3 of Table 13-11 and R391 besides). -/
def State.accept (s : State) (e : LinkId) (h : Hdr) (payload : Bytes) (stomped : Bool) : State :=
  if s.noBuffer e h && !stomped then s.creditViol e
  else
    let s1 := s.modLink e (fun l => { l with
      next := (l.next + 1) % e.seqMod, nakPending := false, nakDue := false, unacked := l.unacked + 1
      ackDue := l.ackDue || 16 ≤ l.unacked + 1 })
    let s2 := if h.ackv then s1.applyAck e h.ackseq else s1
    if stomped then s2.dropBuf e h else s2.deliver e h payload

/-- A sequenced flit by its distance from NEXT (Table 5-7 rows 3 to 6). -/
def State.receiveSeq (s : State) (e : LinkId) (h : Hdr) (payload : Bytes) (stomped : Bool) : State :=
  let m := e.seqMod
  let d := (h.seq + m - (s.link e).next) % m
  if d = 0 then s.accept e h payload stomped
  else if d ≤ e.window then (s.countSeq e).nak e
  else if m - e.window ≤ d then
    let s1 := s.modLink e (fun l => { l with ackDue := true })
    if e = .zx then s1.bump ZX_STM_CNT_DUP else s1
  else s.viol e 3

/-- The credit count a Canopy header carries applies to every flit with a good CRC (R384). -/
def State.headerCredit (s : State) (e : LinkId) (h : Hdr) : State :=
  match e with
  | .canopy q => s.setPort q ((s.port q).takeCount h.crvc h.crcum)
  | _ => s

/-- The CRC verdict on received bytes: good, stomped (the inverse of the computed CRC, R391), or bad. -/
def crcVerdict (canopy : Bool) (bs : Bytes) : Option Bool :=
  let n := flitLen canopy
  let crc := rdLe bs (n - 4) 4
  let good := crc32c (bs.take (n - 4))
  if bs.length ≠ n then none
  else if crc = good then some false
  else if canopy && crc = 0xFFFFFFFF - good then some true
  else none

/-- The receiver's action on one flit (Table 5-7). A stomped flit is counted and taken for sequencing only (R391). -/
def State.receive (s : State) (e : LinkId) (bs : Bytes) : State :=
  match crcVerdict e.isCanopy bs with
  | none => (s.countCrc e).nak e
  | some stomped =>
    let h := parseHdr e.isCanopy bs
    let payload := (bs.drop (hdrLen e.isCanopy)).take (min h.len (payLen e.isCanopy))
    let s0 := s.modLink e (fun l => { l with lastRx := rdLe bs 0 8 })
    let s1 := if stomped then s0.bump BX_CNP_PORT_MISC_STOMPED_RX e.num else s0.headerCredit e h
    if sequencedTy h.ty then s1.receiveSeq e h payload stomped else if stomped then s1.dropBuf e h else s1.receiveUnseq e h payload

/-- A flit that has passed the PCS reaches the link layer: at a Stem port of BX64 through the port's crossing queues (R154). One that a queue
aborts is asked for again, as one whose CRC fails (R119). -/
def State.flitIn (s : State) (e : LinkId) (bs : Bytes) : State :=
  match e with
  | .stem p =>
    if p = 64 then s.receive e bs
    else
      let r := s.crossIn p (bits (rdLe bs 0 8) 63 60) bs
      if r.1 then r.2.receive e bs else r.2.nak e
  | _ => s.receive e bs

/-- FLIT_RECEIVE: a flit arrives at a link end in ACTIVE as the words of its lanes; an armed injector of the port acts first. -/
def execFlitReceive (e : LinkId) (words : List Nat) (s : State) : Host.Outcome State Fault Refusal :=
  if (s.link e).lstate = .active then
    let x := s.rxFlit e words
    let r := x.2.pcs e false x.1
    done (r.1.foldl (fun s b => s.flitIn e b) r.2)
  else done s

/-- NAK_TIMER_EXPIRY: the NAK is sent again while one is pending (R148). -/
def execNakTimerExpiry (e : LinkId) (s : State) : Host.Outcome State Fault Refusal :=
  done (s.modLink e (fun l => { l with nakDue := l.nakDue || l.nakPending }))

/-- REPLAY_TIMER_EXPIRY: UNA has not advanced for 8 us while flits are held (R150). A resend already due stands: one resend, counted
once (Table 5-20). -/
def execReplayTimerExpiry (e : LinkId) (s : State) : Host.Outcome State Fault Refusal :=
  if (s.link e).lstate = .active ∧ (s.link e).resendFrom = none then done (s.resendDue e (s.link e).una) else done s

/-- ACK_TIMER_EXPIRY: 1 us since the oldest accepted flit not yet acknowledged (R149). -/
def execAckTimerExpiry (e : LinkId) (s : State) : Host.Outcome State Fault Refusal :=
  done (s.modLink e (fun l => { l with ackDue := l.ackDue || 0 < l.unacked }))

end Sys2Proof.Machine
end

