-- ==== Sys2Proof/Machine/Warden.lean ====
section
/-! DEFINITION. The Warden's rings and paths (R457 to R484): doorbells, fetch, replies, timeouts, relay, FLR, events, MCTP, firmware and
the boot mailbox. The opcodes' own meanings stand with their chapters. -/
namespace Sys2Proof.Machine

/-! ## Opcodes and origins (Tables 16-6, 16-11, 16-12, 16-13) -/

/-- The opcode is assigned (Tables 16-12 and 16-13). -/
def assigned (op : Nat) : Bool :=
  (0x0001 ≤ op ∧ op ≤ 0x0005) ∨ (0x0010 ≤ op ∧ op ≤ 0x0012) ∨ (0x0101 ≤ op ∧ op ≤ 0x0105) ∨ (0x0201 ≤ op ∧ op ≤ 0x0206) ∨
  (0x0210 ≤ op ∧ op ≤ 0x0213) ∨ (0x0221 ≤ op ∧ op ≤ 0x0224) ∨ (0x0301 ≤ op ∧ op ≤ 0x0308) ∨ op = 0x0310 ∨ (0x0401 ≤ op ∧ op ≤ 0x0409) ∨
  (0x0410 ≤ op ∧ op ≤ 0x0418) ∨ op = 0x0501 ∨ op = 0x0502 ∨ (0x0510 ≤ op ∧ op ≤ 0x0514) ∨ op = 0x0520 ∨ op = 0x0521 ∨
  (0x0601 ≤ op ∧ op ≤ 0x0607) ∨ op = 0x0610 ∨ (0x0620 ≤ op ∧ op ≤ 0x0624) ∨ op = 0x0630 ∨ (0x0701 ≤ op ∧ op ≤ 0x0707) ∨
  (0x0801 ≤ op ∧ op ≤ 0x0805) ∨ (0x0901 ≤ op ∧ op ≤ 0x0904) ∨ (0x0920 ≤ op ∧ op ≤ 0x0923) ∨ op = 0x0A01 ∨ op = 0x0A02 ∨ op = 0x0A10 ∨
  (0x0F01 ≤ op ∧ op ≤ 0x0F03) ∨ op = 0x0F10

/-- The internal opcodes of R147, which no submitter may use. -/
def internalOp (op : Nat) : Bool := op ∈ [0x0210, 0x0211, 0x0212, 0x0213, 0x0310, 0x0630, 0x0A10, 0x0F10]

/-- The operator opcodes that execute at a ZX40 (R474); LOOKOUT_PROBE goes there as a probe of R293, by its own command. -/
def zxOpcode (op : Nat) : Bool := op ∈ [0x0501, 0x0502, 0x0510, 0x0511, 0x0512, 0x0513, 0x0514]

/-- The opcodes open to a tenant (Table 16-6, Table 12-12). -/
def tenantOp (op : Nat) : Bool :=
  op ∈ [0x0001, 0x0002, 0x0101, 0x0201, 0x0410, 0x0411, 0x0414, 0x0415, 0x0416, 0x0417, 0x0418, 0x0620]

/-- The MCTP subset (Table 16-11); SYS_RESET is judged by its kind, FW_UPDATE by RECOVERY. -/
def mctpOp (op kind : Nat) (recovery : Bool) : Bool :=
  op ∈ [0x0001, 0x0002, 0x0003, 0x0101, 0x0901, 0x0903, 0x0904, 0x0A01, 0x0A02, 0x0604, 0x0012] || (op = 0x0004 && kind ≤ 1) ||
    (op = 0x0010 && recovery)

/-- BX64 is in RECOVERY (R480). -/
def State.recovery (s : State) : Bool := s.rd BX_WDN_FW_STS_STATE = 3

/-- The opcode is open to the capsule's origin (Table 16-6); in RETIRED only SYS_INFO, LC_STATUS and HW_READ over MCTP are (R531). -/
def State.openTo (s : State) (op : Nat) (c : Cap) : Bool :=
  if internalOp op then false
  else if s.rd BX_LC_STS_STATE = 4 then c.isMctp && op ∈ [0x0002, 0x0A01, 0x0901]
  else match c.path with
    | 0 => c.tenant = 0 || tenantOp op
    | 1 => mctpOp op (c.p 0) s.recovery
    | 2 => if c.tenant = 0 then !(op ∈ [0x0004, 0x0010, 0x0011, 0x0902, 0x0A02] || op / 256 = 0x0F) else op = 0x0620
    | _ => false

/-! ## Capsules (Table 16-1) -/

/-- The fields of a submitted capsule. -/
structure CapWord where
  op : Nat
  tag : Nat
  origin : Nat
  len : Nat
  relay : Bool
  notify : Bool
  indirect : Bool
  agg : Nat
  rsv : Bool
  deriving DecidableEq, Repr

def parseCapWord (w : Nat) : CapWord :=
  { op := bits w 63 48, tag := bits w 47 32, origin := bits w 31 24, len := bits w 23 16, relay := bitAt w 15, notify := bitAt w 14,
    indirect := bitAt w 13, agg := bits w 12 1, rsv := bitAt w 0 }

/-- The capsule of eight words with its parameter block and the bytes its DMA pointer reads. -/
def mkCap (path tenant fn qp : Nat) (ws block : List Nat) (data : Bytes) : CapWord × Cap :=
  let h := parseCapWord (ws.getD 0 0)
  let ps := if h.indirect then block else ws.drop 2
  (h, { path := path, tenant := tenant, fn := fn, qp := qp, tag := h.tag, replyPtr := ws.getD 1 0, notify := h.notify,
        params := ps.take (h.len / 8), data := data })

/-- The first check of Table 16-3 that fails: status and REASON. host is true when the parameter block and REPLY_PTR can be read and
written by host DMA. -/
def State.capsuleCheck (s : State) (h : CapWord) (c : Cap) (host : Bool) : Option (Nat × Nat) :=
  if ¬ assigned h.op then some (S_BADOP, 0)
  else if h.rsv ∨ (¬ h.relay ∧ h.agg ≠ 0) then some (S_BADPARAM, 0xF0)
  else if h.len % 8 ≠ 0 ∨ (if h.indirect then 248 else 48) < h.len then some (S_BADPARAM, 0xF3)
  else if c.path = 0 ∧ s.wdn.prog.any (fun g => g.cap.path = 0 && g.cap.fn = c.fn && g.cap.qp = c.qp && g.cap.tag = c.tag) then
    some (S_BADPARAM, 0xF1)
  else if ¬ s.openTo h.op c then some (S_DENIED, 0xF5)
  else if h.relay ∧ (c.path = 2 ∨ (h.agg ≠ s.agg ∧ ¬ c.isOpPcie)) then some (S_BADPARAM, 0xF6)
  else if ¬ host then some (S_BADPARAM, 0xF4)
  else none

/-- A capsule is in progress. -/
def State.begin (s : State) (op : Nat) (c : Cap) (relay : Option (Nat × Nat) := none) : State :=
  { s with wdn := { s.wdn with prog := s.wdn.prog ++ [{ op := op, cap := c, at_ := s.bxNs, relay := relay }] } }

/-- A capsule taken from any path: answered at the first check that fails, relayed, sent to its ZX40, or left in progress for its
opcode's own step. -/
def State.dispatchCap (s : State) (h : CapWord) (c : Cap) (host : Bool) : State :=
  match s.capsuleCheck h c host with
  | some x =>
    let s := s.begin h.op c
    let s := if x.2 = 0xF1 then s.bump BX_WDN_CNT1_DUP_TAG else s
    let s := s.reply c h.op x.1 [] x.2
    if c.path = 0 then s.violation 4 5 15 c.fn else s
  | none =>
    if h.relay ∧ h.agg ≠ s.agg then
      let w0 := packFields [(48, 16, h.op), (32, 16, h.tag), (16, 8, 8 * c.params.length), (13, 1, b2n (6 < c.params.length))]
      (s.begin h.op c (some (h.agg, s.bxNs))).sendMsg 4 0 2 h.agg (wordBytes ([w0, c.replyPtr] ++ c.params))
    else if zxOpcode h.op then (s.begin h.op c).toZx c h.op
    else s.begin h.op c

/-! ## Queue pairs (R464 to R469) -/

/-- The register index of queue pair q of function f. -/
def qpIdx (f q : Nat) : Nat := f * 4 + q

def State.sqSize (s : State) (i : Nat) : Nat := 2 ^ s.rd BX_WDN_QP_CFG_SQ_LOG2 i
def State.cqSize (s : State) (i : Nat) : Nat := 2 ^ s.rd BX_WDN_QP_CFG_CQ_LOG2 i

/-- Capsules of a queue pair in progress, and of tenant functions together. -/
def State.inProg (s : State) (i : Nat) : Nat :=
  (s.wdn.prog.filter (fun g => g.cap.path = 0 ∧ qpIdx g.cap.fn g.cap.qp = i)).length

/-- A queue pair halts with a cause of R468, a violation of the host (Table 17-14). -/
def State.haltQp (s : State) (i err row : Nat) : State :=
  ((s.wr BX_WDN_QP_STS_STATE i 2).wr BX_WDN_QP_STS_ERR i err).violation 4 row 15 i

/-- SQ_DOORBELL: a write of SQ_TAIL. -/
def execSqDoorbell (f q tail : Nat) (s : State) : Host.Outcome State Fault Refusal :=
  let i := qpIdx f q
  if 64 ≤ f ∨ 4 ≤ q then done s
  else
    let s := s.wr BX_WDN_QP_DB_SQ_TAIL i tail
    if s.rd BX_WDN_QP_STS_STATE i = 1 ∧ s.sqSize i ≤ tail then done (s.haltQp i 2 3) else done s

/-- CQ_HEAD_WRITE: a write of CQ_HEAD; one that passes CQ_TAIL halts the queue pair. -/
def execCqHeadWrite (f q head : Nat) (s : State) : Host.Outcome State Fault Refusal :=
  let i := qpIdx f q
  if 64 ≤ f ∨ 4 ≤ q then done s
  else
    let old := s.rd BX_WDN_QP_DB_CQ_HEAD i
    let n := s.cqSize i
    let bad : Bool := n ≤ head ∨ (s.rd BX_WDN_QP_STS_CQ_TAIL i + n - old) % n < (head + n - old) % n
    let s := s.wr BX_WDN_QP_DB_CQ_HEAD i head
    if s.rd BX_WDN_QP_STS_STATE i = 1 ∧ bad then done (s.haltQp i 2 3) else done s

/-- EV_HEAD_WRITE: a write of HEAD; one past the last entry posted is ignored (Table 17-14 row 9). -/
def execEvHeadWrite (f head : Nat) (s : State) : Host.Outcome State Fault Refusal :=
  let n := s.ringSize f
  let old := s.rd BX_WDN_EV_DB_HEAD f
  if 64 ≤ f then done s
  else if n ≤ head ∨ ((s.ring f).tail + n - old) % n < (head + n - old) % n then
    done ((s.bump BX_VIOL_HOST_EV_HEAD).violation 4 9 15 f)
  else done ((s.wr BX_WDN_EV_DB_HEAD f head).ringService f)

/-- QP_ENABLE: EN of a queue pair from 0 to 1 (R467). -/
def execQpEnable (f q : Nat) (s : State) : Host.Outcome State Fault Refusal :=
  let i := qpIdx f q
  if 64 ≤ f ∨ 4 ≤ q ∨ s.flag BX_WDN_QP_CFG_EN i then done s
  else
    let s := (((s.wr BX_WDN_QP_CFG_EN i 1).wr BX_WDN_QP_STS_SQ_HEAD i 0).wr BX_WDN_QP_STS_CQ_TAIL i 0).wr BX_WDN_QP_STS_STATE i 1
    let s := s.wr BX_WDN_QP_STS_ERR i 0
    done { s with wdn := { s.wdn with qps := s.wdn.qps.set i { phase := true } } }

/-- A queue pair is disabled: its capsules in progress complete without a reply, each counted (R467). -/
def State.disableQp (s : State) (i : Nat) : State :=
  let s := (s.wr BX_WDN_QP_CFG_EN i 0).wr BX_WDN_QP_STS_STATE i 0
  let s := s.bump BX_WDN_CNT1_DISCARDED 0 (s.inProg i)
  { s with wdn := { s.wdn with prog := s.wdn.prog.filter (fun g => ¬ (g.cap.path = 0 ∧ qpIdx g.cap.fn g.cap.qp = i)) } }

/-- QP_DISABLE: EN written 0. -/
def execQpDisable (f q : Nat) (s : State) : Host.Outcome State Fault Refusal :=
  if 64 ≤ f ∨ 4 ≤ q then done s else done (s.disableQp (qpIdx f q))

/-- A function's event ring is disabled: its waiting events are dropped with it. -/
def State.disableRing (s : State) (f : Nat) : State := (s.wr BX_WDN_EV_CFG_EN f 0).setRing f {}

/-- FLR of a function (R469): its queue pairs and event ring are disabled, and every DMA channel bound to it is DISABLED; the other
enabled rings get a RESTART event of cause 3. -/
def execFlr (f : Nat) (s : State) : Host.Outcome State Fault Refusal :=
  if 64 ≤ f then done s
  else
    let s := (List.range 4).foldl (fun s q => s.disableQp (qpIdx f q)) s
    let s := s.disableRing f
    let s := (List.range 128).foldl (fun s c =>
      if s.rd BX_DMA_CH_CFG_FUNC c = f ∧ s.flag BX_DMA_CH_CFG_EN c then (({ s with hbm := { s.hbm with chans := s.hbm.chans.erase c } }).wr BX_DMA_CH_STS_STATE c 3).wr BX_DMA_CH_CFG_EN c 0
      else s) s
    done (s.postAll 0x31 (leBytes 8 (s.rd BX_CNP_IDENT_BOOT * 2 ^ 32 + 3)))

/-! ## Fetch (R464 to R466) -/

/-- A queue pair has a capsule the Warden may fetch: RUN, one waiting, a CQ slot to reserve, and room under every limit. -/
def State.canFetch (s : State) (f q : Nat) : Bool :=
  let i := qpIdx f q
  let n := s.cqSize i
  let used := (s.rd BX_WDN_QP_STS_CQ_TAIL i + n - s.rd BX_WDN_QP_DB_CQ_HEAD i) % n
  s.rd BX_WDN_QP_STS_STATE i = 1 && s.rd BX_WDN_QP_STS_SQ_HEAD i ≠ s.rd BX_WDN_QP_DB_SQ_TAIL i && used + s.inProg i < n - 1 &&
    s.inProg i < 64 && s.wdn.prog.length < 4096 &&
    (f = 0 || (s.wdn.prog.filter (fun g => g.cap.path = 0 ∧ g.cap.fn ≠ 0)).length < 3840)

/-- The Warden fetches at all: it runs its firmware and no restart is due. -/
def State.wardenRuns (s : State) : Bool :=
  (s.rd BX_WDN_FW_STS_STATE = 1 || s.rd BX_WDN_FW_STS_STATE = 2) && !s.wdn.fw.restartDue

/-- The queue pair of a function served next, round robin after the last one. -/
def State.nextQp (s : State) (f : Nat) : Option Nat :=
  let l := s.wdn.lastQp.getD f 3
  ((List.range 4).map (fun k => (l + 1 + k) % 4)).find? (fun q => s.canFetch f q)

/-- The function and queue pair of the next fetch (R466): the physical function when the fetch before was for another one, else the
functions in turn after the one the turn served last. -/
def State.nextFetch (s : State) : Option (Nat × Nat) :=
  if ¬ s.wardenRuns then none
  else
    let order := (if s.wdn.lastFn ≠ 0 then [0] else []) ++ (List.range 64).map (fun k => (s.wdn.turn + 1 + k) % 64)
    (order.find? (fun f => (s.nextQp f).isSome)).bind (fun f => (s.nextQp f).map (fun q => (f, q)))

/-- A fetch from queue pair q of function f is on record for the turns of R466; the physical function served before its turn takes none. -/
def State.served (s : State) (f q : Nat) : State :=
  { s with wdn := { s.wdn with
    lastFn := f, turn := if f = 0 ∧ s.wdn.lastFn ≠ 0 then s.wdn.turn else f, lastQp := s.wdn.lastQp.set f q } }

/-- CAPSULE_FETCH: the Warden reads the next capsule. ws are its eight words, block its parameter block, data what its DMA pointer
reads; err is 0, 1 for a UR, CA or timeout, 4 for a poisoned completion; poison is a poisoned word (Table 7-7); host says that
the parameter block and REPLY_PTR answer host DMA. -/
def execCapsuleFetch (ws block : List Nat) (data : Bytes) (err : Nat) (poison host : Bool) (s : State) :
    Host.Outcome State Fault Refusal :=
  match s.nextFetch with
  | none => done s
  | some (f, q) =>
    let i := qpIdx f q
    if err ≠ 0 then done (s.haltQp i (if err = 4 then 4 else 1) 4)
    else
      let s := s.wr BX_WDN_QP_STS_SQ_HEAD i ((s.rd BX_WDN_QP_STS_SQ_HEAD i + 1) % s.sqSize i)
      let s := s.served f q
      let s := s.bump BX_WDN_CNT0_CAPSULES
      if poison then
        done (((s.bump BX_WDN_CNT1_POISON_DROP).bump BX_BLZ_PSN_CNT1_WARDEN).signal { ty := 0x0606, source := 15, idx := i })
      else
        let (h, c) := mkCap 0 f f q ws block data
        done (s.dispatchCap h c host)

/-! ## Replies (R458, R465) -/

/-- The 64 bytes of a reply (Table 16-2). -/
def replyBytes (r : Reply) (sqHead : Nat) (phase : Bool) (reason : Nat) (results : List Nat) : Bytes :=
  let w0 := packFields [(48, 16, r.op), (32, 16, r.cap.tag), (24, 8, r.status), (16, 8, reason), (4, 12, sqHead), (0, 1, b2n phase)]
  let w1 := packFields [(16, 48, r.watermark), (15, 1, b2n r.wmValid)]
  padTo 64 (wordBytes ([w0, w1] ++ results.take 6))

/-- The replies over MCTP (R473): parts of six words with MORE set on all but the last, which carries the final STATUS. -/
def mctpParts (r : Reply) : List Bytes :=
  let cs := if r.results = [] then [[]] else chunks 6 r.results
  (List.range cs.length).map (fun i =>
    let last : Bool := i + 1 = cs.length
    let reason := if cs.length = 1 ∧ r.reason ≠ 0 then r.reason else b2n (!last) * 128 + i % 128
    replyBytes { r with status := if last then r.status else S_OK } 0 false reason (cs.getD i []))

/-- The entry in progress that a reply answers leaves: the oldest of its capsule, or for a duplicate TAG (0xF1) the youngest. -/
def State.endProg (s : State) (r : Reply) : State :=
  let hit (g : InProg) : Bool := g.op = r.op ∧ g.cap = r.cap
  { s with wdn := { s.wdn with
    prog := if r.reason = 0xF1 then (s.wdn.prog.reverse.eraseP hit).reverse else s.wdn.prog.eraseP hit } }

/-- A reply to the capsule in progress has been formed and waits to be written. -/
def State.replyDue (s : State) (g : InProg) : Bool := s.wdn.replies.any (fun (r : Reply) => r.op = g.op ∧ r.cap = g.cap)

/-- The oldest reply formed is written: its results at the host address first, then the CQ slot, then the MSI-X signal;
over MCTP and RELAY it leaves by that path, over RELAY with the results that the origin writes at REPLY_PTR. A reply whose capsule is no longer in progress is dropped (R458, R467). cqErr is an error
on the CQ write (R468). -/
def State.writeReply (s : State) (cqErr : Bool) : State :=
  match s.wdn.replies with
  | [] => s
  | r :: t =>
    let s := { s with wdn := { s.wdn with replies := t } }
    let live := s.wdn.prog.any (fun g => g.op = r.op && g.cap = r.cap)
    if ¬ live then s
    else
      let s := s.endProg r
      match r.cap.path with
      | 0 =>
        let i := qpIdx r.cap.fn r.cap.qp
        let s := match r.hostWrite with
          | none => s
          | some w => s.emit (.hostWrite r.cap.fn w.1 w.2)
        if cqErr then s.haltQp i 3 4
        else
          let tail := s.rd BX_WDN_QP_STS_CQ_TAIL i
          let ph := ((s.wdn.qps.find? i).map (·.phase)).getD true
          let s := s.emit (.hostWrite r.cap.fn (s.rd BX_WDN_QP_CQB_BASE i * 64 + 64 * tail)
            (replyBytes r (s.rd BX_WDN_QP_STS_SQ_HEAD i) ph r.reason r.results))
          let nt := (tail + 1) % s.cqSize i
          let s := s.wr BX_WDN_QP_STS_CQ_TAIL i nt
          let s := { s with wdn := { s.wdn with qps := s.wdn.qps.set i { phase := if nt = 0 then !ph else ph } } }
          if r.cap.notify then s.emit (.msix r.cap.fn r.cap.qp) else s
      | 1 =>
        let s := { s with wdn := { s.wdn with mctp := { s.wdn.mctp with unanswered := s.wdn.mctp.unanswered - 1 } } }
        (mctpParts r).foldl (fun s b => s.emit (.mctp ([0x7E] ++ beBytes 2 (s.rd BX_SYS_ID_VENDOR) ++ b))) s
      | 2 => s.sendMsg 4 1 2 r.cap.fn (replyBytes r 0 false r.reason r.results ++ (r.hostWrite.map (·.2)).getD [])
      | _ => s

/-- CAPSULE_REPLY: the oldest reply is written. -/
def execCapsuleReply (cqErr : Bool) (s : State) : Host.Outcome State Fault Refusal := done (s.writeReply cqErr)

/-- Every reply formed is written. -/
def State.writeReplies (s : State) : State := s.wdn.replies.foldl (fun s _ => s.writeReply false) s

/-- EXEC_TIMEOUT: every capsule still in progress EXEC_MS after dispatch is answered S_TIMEOUT (R458). -/
def execExecTimeout (s : State) : Host.Outcome State Fault Refusal :=
  let lim := s.rd BX_WDN_CTRL_EXEC_MS * 1000000
  let late := s.wdn.prog.filter (fun g => g.at_ + lim ≤ s.bxNs ∧ ¬ s.replyDue g)
  done (late.foldl (fun s g => s.reply g.cap g.op S_TIMEOUT) s)

/-! ## Relay (R475) -/

/-- The relayed capsules of some targets are answered S_TIMEOUT; a reply that comes later finds none to complete. -/
def State.relayFail (s : State) (p : InProg → Bool) : State :=
  let hit := s.wdn.prog.filter (fun g => g.relay.isSome && p g && !s.replyDue g)
  let s := hit.foldl (fun s g => s.reply g.cap g.op S_TIMEOUT) s
  { s with wdn := { s.wdn with prog := s.wdn.prog.map (fun g => if g.relay.isSome && p g then { g with relay := none } else g) } }

/-- RELAY_TIMEOUT: no reply RELAY_MS after sending. -/
def execRelayTimeout (s : State) : Host.Outcome State Fault Refusal :=
  let lim := s.rd BX_WDN_CTRL_RELAY_MS * 1000000
  done (s.relayFail (fun g => match g.relay with
    | none => false
    | some r => r.2 + lim ≤ s.bxNs))

/-- RELAYED_CAPSULE_RECEIVE: a routed capsule from aggregator src: its words and parameter block. ORIGIN is RELAY with the tenant the
sending BX64 recorded; the reply goes back to src. -/
def execRelayedCapsuleReceive (e : LinkId) (src : Nat) (ws block : List Nat) (data : Bytes) (s : State) :
    Host.Outcome State Fault Refusal :=
  let s := s.consume e 4 0
  let h := parseCapWord (ws.getD 0 0)
  let (h, c) := mkCap 2 (h.origin % 64) src 0 ws block data
  done (s.dispatchCap h c true)

/-- RELAYED_REPLY_RECEIVE: the target's reply completes the capsule at the origin, the results after its eight words written at
REPLY_PTR; one that comes too late is dropped. -/
def execRelayedReplyReceive (e : LinkId) (src : Nat) (ws : List Nat) (s : State) : Host.Outcome State Fault Refusal :=
  let s := s.consume e 4 1
  let w := ws.getD 0 0
  match s.wdn.prog.find? (fun g => g.op = bits w 63 48 && g.cap.tag = bits w 47 32 && (g.relay.map (·.1)) = some src) with
  | none => done s
  | some g =>
    let s := { s with wdn := { s.wdn with prog := s.wdn.prog.map (fun x => if x = g then { x with relay := none } else x) } }
    let blob := (wordBytes (ws.drop 8)).take (ws.getD 2 0)
    done (s.reply g.cap g.op (bits w 31 24) ((ws.drop 2).take 6) (bits w 23 16) (if blob = [] then none else some (g.cap.replyPtr, blob)))

/-- EVENT_POST: a subsystem posts an event to a function's ring. -/
def execEventPost (f kind : Nat) (body : Bytes) (s : State) : Host.Outcome State Fault Refusal :=
  done (if f < 64 then s.post f kind (body.take 56) else s)

/-! ## MCTP (R472, R473) -/

/-- A violation of the MCTP requester (Table 17-15). -/
def State.mctpViol (s : State) (row : Nat) : State :=
  (match row with
    | 1 => s.bump BX_VIOL_MCTP_PEC
    | 2 => s.bump BX_VIOL_MCTP_SEQ
    | 3 => s.bump BX_VIOL_MCTP_LONG
    | 6 => s.bump BX_VIOL_MCTP_BUSY
    | _ => s.bump BX_VIOL_MCTP_UNSUP).violation 5 row 16 0

/-- A capsule over MCTP: message type, vendor ID, capsule, parameter block. -/
def State.mctpCapsule (s : State) (m : Bytes) : State :=
  let ws := leWords (sliceBytes m 3 64)
  let (h, c) := mkCap 1 0 0 0 ws (leWords (m.drop 67)) []
  if 4 ≤ s.wdn.mctp.unanswered then s.mctpViol 6
  else
    let s := { s with wdn := { s.wdn with mctp := { s.wdn.mctp with unanswered := s.wdn.mctp.unanswered + 1 } } }
    let s := if ¬ s.openTo h.op c then s.mctpViol 5 else s
    s.dispatchCap h c true

/-- A whole message: a vendor-defined one carries a capsule; control messages come as their own commands; others are dropped. -/
def State.mctpMessage (s : State) (m : Bytes) : State :=
  if rdLe m 0 1 = 0x7E ∧ beNat (sliceBytes m 1 2) = s.rd BX_SYS_ID_VENDOR then s.mctpCapsule m
  else if rdLe m 0 1 = 0x00 then s
  else s.mctpViol 4

/-- MCTP_MESSAGE: one packet: whether its PEC holds and it is at least its header long, SOM, EOM, sequence number, body. -/
def execMctpMessage (pecOk som eom : Bool) (seq : Nat) (body : Bytes) (s : State) : Host.Outcome State Fault Refusal :=
  let set (s : State) (a : Option (Bytes × Nat)) : State := { s with wdn := { s.wdn with mctp := { s.wdn.mctp with asm := a } } }
  if ¬ pecOk then done (s.mctpViol 1)
  else
    let cur : Option Bytes :=
      if som then some [] else match s.wdn.mctp.asm with
        | none => none
        | some a => if a.2 = seq % 4 then some a.1 else none
    match cur with
    | none => done ((set s none).mctpViol 2)
    | some b =>
      let m := b ++ body
      if 320 < m.length then done ((set s none).mctpViol 3)
      else if eom then done ((set s none).mctpMessage m)
      else done (set s (some (m, (seq + 1) % 4)))

/-- A control response: type 0x00, command code, completion code and fields, as the MCTP base specification lays them out (PRESUMED,
log entry 14). -/
def State.mctpControl (s : State) (code : Nat) (fields : Bytes) : State :=
  s.emit (.mctp ([0x00] ++ leBytes 1 code ++ [0x00] ++ fields))

/-- SET_ENDPOINT_ID: the endpoint takes the EID. -/
def execSetEndpointId (eid : Nat) (s : State) : Host.Outcome State Fault Refusal :=
  let s := { s with wdn := { s.wdn with mctp := { s.wdn.mctp with eid := eid % 256 } } }
  done (s.mctpControl 0x01 ([0x00] ++ leBytes 1 eid ++ [0x00]))

/-- GET_ENDPOINT_ID. -/
def execGetEndpointId (s : State) : Host.Outcome State Fault Refusal :=
  done (s.mctpControl 0x02 (leBytes 1 s.wdn.mctp.eid ++ [0x00, 0x00]))

/-- GET_ENDPOINT_UUID: formed from DEV_UID; how is not given, so the 16 bytes are a free value of it. -/
def execGetEndpointUuid (s : State) : Host.Outcome State Fault Refusal :=
  done (s.mctpControl 0x03 (leBytes 16 (Config.uuidOf (s.rd BX_CNP_DEV_UID_DEV_UID))))

/-- GET_MCTP_VERSION_SUPPORT: the versions entry is that of the base specification, not given here: a free value of 4 bytes. -/
def execGetMctpVersionSupport (ty : Nat) (s : State) : Host.Outcome State Fault Refusal :=
  done (s.mctpControl 0x04 ([0x01] ++ leBytes 4 (Config.mctpVersion ty)))

/-- GET_MESSAGE_TYPE_SUPPORT: control and vendor defined - PCI. -/
def execGetMessageTypeSupport (s : State) : Host.Outcome State Fault Refusal :=
  done (s.mctpControl 0x05 [0x02, 0x00, 0x7E])

/-! ## System opcodes of the Warden (Table 16-13) -/

/-- SYS_NOP (0x0001): R0 to R5 echo P0 to P5. -/
def execSysNop (c : Cap) (s : State) : Host.Outcome State Fault Refusal :=
  done (s.checked c 0x0001 (c.isOp || c.isTenant || c.isMctp) 0 (fun s => s.reply c 0x0001 S_OK (c.params.take 6)))

/-- SYS_INFO (0x0002): BX_SYS_ID, DEV_UID, BX_WDN_FW_STS. -/
def execSysInfo (c : Cap) (s : State) : Host.Outcome State Fault Refusal :=
  done (s.checked c 0x0002 (c.isOp || c.isTenant || c.isMctp) 0 (fun s =>
    s.reply c 0x0002 S_OK [s.readReg .BX_SYS_ID, s.rd BX_CNP_DEV_UID_DEV_UID, s.readReg .BX_WDN_FW_STS]))

/-- SYS_STATUS (0x0003): six status registers. Over MCTP Taproot reads them on the debug path, and a register of a Warden that is
restarting reads all ones, with S_PARTIAL (R486, Table 17-7). -/
def execSysStatus (c : Cap) (s : State) : Host.Outcome State Fault Refusal :=
  done (s.checked c 0x0003 (c.isOp || c.isMctp) 0 (fun s =>
    let lost : Bool := c.isMctp && (s.wdn.fw.restartDue || bitAt (s.rd BX_TAP_STS_CAUSE) 0 && s.flag BX_TAP_STS_WEDGED)
    let fw := if lost then 2 ^ 64 - 1 else s.readReg .BX_WDN_FW_STS
    s.reply c 0x0003 (if lost then S_PARTIAL else S_OK) [s.readReg .BX_EPC_STATE, s.readReg .TB_STS 1, s.readReg .BX_CNP_FAB_STS, fw,
      s.readReg .BX_RPL_STS, s.readReg .BX_CMT_STS]))

/-! ## Firmware (R477 to R481) -/

/-- The result of an image's checks in the order of R478: status and REASON of the first that fails. len is the length given. -/
def State.fwCheck (s : State) (img : Bytes) (len : Nat) (withBody : Bool) : Option (Nat × Nat) :=
  if rdLe img 0 4 ≠ 0x314E4457 ∨ rdLe img 4 2 ≠ 1 ∨ 256 + rdLe img 12 4 ≠ len ∨ 4194048 < rdLe img 12 4 then some (S_BADPARAM, 0x01)
  else if rdLe img 6 2 < s.rd BX_WDN_FW_STS_MIN_SEC_VER then some (S_DENIED, 0)
  else if ¬ Config.ecdsaOk Config.plovmaKey (sliceBytes img 0 64) (sliceBytes img 64 64) then some (S_BADPARAM, 0x02)
  else if withBody ∧ sha256 (img.drop 256) ≠ sliceBytes img 32 32 then some (S_BADPARAM, 0x03)
  else none

def State.setFw (s : State) (fw : Firmware) : State := { s with wdn := { s.wdn with fw := fw } }

/-- The image is whole in the store: check 4, then STORE_VALID and the reply's results. -/
def State.fwFinish (s : State) (img : Bytes) : (Nat × Nat × List Nat) × State :=
  let s := s.setFw { s.wdn.fw with image := img, updating := none }
  let s := if s.rd BX_WDN_FW_STS_STATE = 2 then s.wr BX_WDN_FW_STS_STATE 0 1 else s
  if sha256 (img.drop 256) = sliceBytes img 32 32 then
    ((S_OK, 0, rdLe img 8 4 :: digestWords (sha256 (img.drop 256))), s.wr BX_WDN_FW_STS_STORE_VALID 0 1)
  else ((S_BADPARAM, 0x03, []), s.wr BX_WDN_FW_STS_STORE_VALID 0 0)

/-- One piece of an image taken in sequence (R473): byte offset and up to 40 bytes. Checks 1 to 3 fall due when the header is whole. -/
def State.fwPiece (s : State) (off : Nat) (bs : Bytes) : (Nat × Nat × List Nat) × State :=
  let sofar := if off = 0 then [] else s.wdn.fw.updating.getD []
  if off ≠ sofar.length then ((S_BADPARAM, 0x01, []), s)
  else
    let all := sofar ++ bs
    let total := 256 + rdLe all 12 4
    let img := if 256 ≤ all.length then all.take total else all
    let bad := if 256 ≤ img.length ∧ sofar.length < 256 then s.fwCheck (img.take 256) total false else none
    match bad with
    | some x => ((x.1, x.2, []), s.setFw { s.wdn.fw with updating := none })
    | none =>
      let s := if 256 < img.length then s.wr BX_WDN_FW_STS_STORE_VALID 0 0 else s
      let s := s.setFw { s.wdn.fw with updating := some img, image := if 256 < img.length then img else s.wdn.fw.image }
      let s := if s.rd BX_WDN_FW_STS_STATE = 1 then s.wr BX_WDN_FW_STS_STATE 0 2 else s
      if 256 ≤ img.length ∧ img.length = total then s.fwFinish img else ((S_OK, 0, []), s)

/-- The Warden starts from the store, or BX64 enters RECOVERY (R479, R480). cause is that of the RESTART event, 0 for none. -/
def State.wardenStart (s : State) (cause : Nat) : State :=
  let img := s.wdn.fw.image
  let ok : Bool := s.flag BX_WDN_FW_STS_STORE_VALID && (s.fwCheck img (256 + rdLe img 12 4) true).isNone
  let s := s.setFw { s.wdn.fw with restartDue := false }
  if ok then
    let sec := max (s.rd BX_WDN_FW_STS_MIN_SEC_VER) (rdLe img 6 2)
    let s := ((s.wr BX_WDN_FW_STS_STATE 0 1).wr BX_WDN_FW_STS_VERSION 0 (rdLe img 8 4)).wr BX_WDN_FW_STS_MIN_SEC_VER 0 sec
    let s := s.wr BX_WDN_BOOT_STS_RECOVERY 0 0
    let s := s.setFw { s.wdn.fw with runDigest := sliceBytes img 32 32 }
    let s := { s with tap := { s.tap with kickAt := s.bxNs } }
    let s := if cause = 2 then s.signal { ty := 0x0103, source := 0x80 } else s
    let s := if cause = 0 then s else s.postAll 0x31 (leBytes 8 (s.rd BX_CNP_IDENT_BOOT * 2 ^ 32 + cause))
    (List.range 64).foldl (fun s f => if s.flag BX_WDN_EV_CFG_EN f then s.ringService f else s) s
  else
    ((s.wr BX_WDN_FW_STS_STATE 0 3).wr BX_WDN_BOOT_STS_RECOVERY 0 1).signal { ty := 0x0104, source := 0x80 }

/-- FW_UPDATE (0x0010): the image at its DMA pointer; over MCTP in RECOVERY as a sequence of pieces. -/
def execFwUpdate (c : Cap) (s : State) : Host.Outcome State Fault Refusal :=
  done (s.checked c 0x0010 (c.isOpPcie || (c.isMctp && s.recovery)) 2 (fun s =>
    if c.isMctp then
      let (r, s) := s.fwPiece (c.p 0) (wordBytes (c.params.drop 1))
      let s := s.reply c 0x0010 r.1 r.2.2 r.2.1
      if s.flag BX_WDN_FW_STS_STORE_VALID ∧ s.wdn.fw.updating = none then s.wardenStart 0 else s
    else if s.wdn.fw.updating.isSome then s.reply c 0x0010 S_BUSY
    else
      match s.fwCheck c.data (c.p 1) false with
      | some x => s.reply c 0x0010 x.1 [] x.2
      | none =>
        let (r, s) := s.fwFinish c.data
        s.reply c 0x0010 r.1 r.2.2 r.2.1))

/-- FW_ACTIVATE (0x0011): R479. -/
def execFwActivate (c : Cap) (s : State) : Host.Outcome State Fault Refusal :=
  done (s.checked c 0x0011 c.isOpPcie 0 (fun s =>
    if s.wdn.fw.updating.isSome then s.reply c 0x0011 S_BUSY
    else if ¬ s.flag BX_WDN_FW_STS_STORE_VALID then s.reply c 0x0011 S_NOTNOW
    else (s.reply c 0x0011 S_OK).setFw { s.wdn.fw with restartDue := true }))

/-- FW_INFO (0x0012): BX_WDN_FW_STS, then the digest of the running body. -/
def execFwInfo (c : Cap) (s : State) : Host.Outcome State Fault Refusal :=
  done (s.checked c 0x0012 (c.isOp || c.isMctp) 0 (fun s =>
    s.reply c 0x0012 S_OK (s.readReg .BX_WDN_FW_STS :: digestWords (padTo 32 s.wdn.fw.runDigest))))

/-- WARDEN_RESTART: after FW_ACTIVATE the capsules in progress have ended or are timed out, and the Warden starts from the store; a
Warden that is not running starts as after cold reset. -/
def execWardenRestart (s : State) : Host.Outcome State Fault Refusal :=
  let act := s.wdn.fw.restartDue
  let s := if act then (s.wdn.prog.filter (fun g => g.cap.path ≠ 1 ∧ ¬ s.replyDue g)).foldl (fun s g => s.reply g.cap g.op S_TIMEOUT) s else s
  done (s.wardenStart (if act then 2 else 0))

/-- BOOT_MAILBOX_GO: in RECOVERY Taproot executes the capsule of BX_WDN_BOOT_CAP and writes its reply into BX_WDN_BOOT_RPL (R481). -/
def execBootMailboxGo (s : State) : Host.Outcome State Fault Refusal :=
  if ¬ s.recovery ∨ s.flag BX_WDN_BOOT_STS_BUSY then done s
  else
    let ws := (List.range 8).map (fun i => s.wdn.boot.getD i 0)
    let (h, c) := mkCap 0 0 0 0 ws [] []
    let (r, s) : (Nat × Nat × List Nat) × State :=
      if h.op = 0x0010 then s.fwPiece (c.p 0) (wordBytes (c.params.drop 1))
      else if h.op = 0x0012 then ((S_OK, 0, s.readReg .BX_WDN_FW_STS :: digestWords (padTo 32 s.wdn.fw.runDigest)), s)
      else ((S_DENIED, 0, []), s.bump BX_WDN_CNT0_DENIED)
    let rep : Reply := {
      cap := c, op := h.op, status := r.1, watermark := s.rd BX_EPC_STATE_WATERMARK, wmValid := s.flag BX_EPC_STATE_WM_VALID }
    let rw := leWords (replyBytes rep 0 false r.2.1 r.2.2)
    let s := (List.range 8).foldl (fun s i => s.wr BX_WDN_BOOT_RPL_RPL i (rw.getD i 0)) s
    let s := s.wr BX_WDN_BOOT_STS_DONE 0 1
    done (if s.flag BX_WDN_FW_STS_STORE_VALID ∧ s.wdn.fw.updating = none then s.wardenStart 0 else s)

end Sys2Proof.Machine
end

