-- ==== Sys2Proof/Machine/FabricOps.lean ====
section
/-! DEFINITION. Roles, records and losses in the fabric (R24, R48, R234, R394 to R403, R418): what the commands of chapters 1 and 13
share. -/
namespace Sys2Proof.Machine

/-! ## Records held (R394, R418) -/

/-- Records older than the window are evicted, score records with them (R259, R418). -/
def State.evictRecords (s : State) : State :=
  let w := s.window
  let m := s.rd BX_EPC_STATE_WATERMARK
  { s with
    ep := { s.ep with records := s.ep.records.filter (fun (x : RecEntry) => ¬ (x.committed ∧ x.epoch + w ≤ m)) }
    grv := { s.grv with scores := s.grv.scores.filter (fun (x : ScoreRec) => ¬ s.beyondRetention x.epoch) } }

/-- A record held for an epoch and view, committed or the latest revision. -/
def State.record? (s : State) (n view : Nat) (committed : Bool) : Option RecEntry :=
  s.ep.records.find? (fun (x : RecEntry) => x.epoch = n ∧ x.view = view ∧ x.committed = committed)

/-- The answer of Table 1-5 for a capsule, none while it waits for its minimum watermark: rows 2 to 9. -/
def State.epochAnswer (s : State) (c : Cap) : Option State :=
  let n := c.p 0
  let view := if bitAt (c.p 1) 6 then bits (c.p 1) 5 0 else 64
  let wm := s.rd BX_EPC_STATE_WATERMARK
  let old : Bool := s.flag BX_EPC_STATE_WM_VALID && decide (n + s.window ≤ wm)
  let give (r : RecEntry) : State := s.replyBlob c 0x0201 S_OK r.bytes [rdLe r.bytes 0 8]
  if ¬ s.flag BX_EPC_STATE_WM_SYNCED then some (s.reply c 0x0201 S_NOTNOW)
  else if old then some (s.reply c 0x0201 S_STALE)
  else if wm < c.p 3 then none
  else if s.closed n ∧ view ≠ 64 ∧ view ∉ (s.cfgOf n).tenants then some (s.reply c 0x0201 S_BADPARAM)
  else if s.committed n then
    match s.record? n view true with
    | some r => some (give r)
    | none => some (s.reply c 0x0201 S_STALE)
  else if c.p 2 = 0 then some (s.reply c 0x0201 S_NOTNOW)
  else
    match s.closed n, s.record? n view false with
    | true, some r => some (give r)
    | _, _ => some (s.reply c 0x0201 S_NOTNOW)

/-- The capsules that wait for a watermark are answered as far as it now reaches (R35). -/
def State.answerWaits (s : State) : State :=
  s.ep.waits.foldl (fun s (w : WaitRead) =>
    match s.epochAnswer w.cap with
    | none => s
    | some t => { t with ep := { t.ep with waits := t.ep.waits.filter (fun (x : WaitRead) => x ≠ w) } }) s

/-- The entry of a record's bytes. -/
def recEntryOf (b : Bytes) : RecEntry :=
  { epoch := recEpoch b, view := recView b, committed := recCommitted b, revision := recRevision b, bytes := b }

/-- A record takes its place: a committed one where none is held for its epoch and view, a revision in place of a lower one. -/
def State.putRecord (s : State) (b : Bytes) : State :=
  let r := recEntryOf b
  match s.record? r.epoch r.view r.committed with
  | none => { s with ep := { s.ep with records := s.ep.records ++ [r] } }
  | some x =>
    if r.committed ∨ r.revision ≤ x.revision then s
    else { s with ep := { s.ep with records := s.ep.records.map (fun (y : RecEntry) => if y = x then r else y) } }

/-- Messages of an epoch down its tree to every child. -/
def State.toChildren (s : State) (ty sub vc : Nat) (body : Bytes) (epoch : Nat) (rec : Bool := false) : State :=
  (s.childrenOf epoch).foldl (fun s a => s.sendMsg ty sub vc a body (some epoch) rec) s

/-- The body of a commit notice: EPOCH and REVISION, then per view its code (64 fleet) and RECORD_CRC. -/
def noticeBytes (n : Notice) : Bytes :=
  wordBytes ([n.epoch * 65536 + n.revision] ++ n.crcs.map (fun c => c.1 * 2 ^ 32 + c.2))

/-- The committed records of an epoch and their notice go to the children. -/
def State.announce (s : State) (n : Nat) : State :=
  let rs := s.ep.records.filter (fun (x : RecEntry) => x.epoch = n ∧ x.committed)
  let s := rs.foldl (fun s (x : RecEntry) => s.toChildren 1 3 7 x.bytes n) s
  let no : Notice := {
    epoch := n, revision := ((rs.map (fun (x : RecEntry) => x.revision)).foldl max 0), crcs := rs.map (fun (x : RecEntry) => (x.view, recCrc x.bytes)) }
  s.toChildren 4 0x14 2 (noticeBytes no) n true

/-! ## Roles (R401, R402) -/

/-- This BX64 holds mirror items of a ward. -/
def State.holdsMirror (s : State) (a : Nat) : Bool := ((s.cnp.mirrors.find? a).getD []) ≠ []

/-- The acting root given the verdicts held: kept until it is lost, then the root's BUDDY, or its ALT_BUDDY where that one may hold the
root's mirror (R402). -/
def State.actingRootNow (s : State) : Nat :=
  let cur := s.rd BX_CNP_FAB_STS_ACT_ROOT
  if ¬ s.noParent cur then cur
  else match s.cfg.tree.find? (·.root) with
    | none => cur
    | some e =>
      if ¬ s.noParent e.buddy then e.buddy
      else if e.altNone ∨ s.noParent e.altBuddy then cur
      else if e.altBuddy = s.agg ∧ ¬ s.holdsMirror e.agg then cur
      else e.altBuddy

/-- BX_CNP_FAB_STS from the tree and the verdicts held. -/
def State.refreshRoles (s : State) : State :=
  match s.treeOf s.agg with
  | none => ((s.wr BX_CNP_FAB_STS_ROLE 0 0).wr BX_CNP_FAB_STS_ACT_PARENT 0 0).wr BX_CNP_FAB_STS_ORPHANED 0 0
  | some e =>
    let r := s.actingRootNow
    let s := s.wr BX_CNP_FAB_STS_ACT_ROOT 0 r
    let lostSelf := s.noParent s.agg
    let s := s.wr BX_CNP_FAB_STS_ROLE 0 (if r = s.agg ∧ ¬ lostSelf then (if e.root then 1 else 2) else 0)
    let parent := if r = s.agg then 0 else if e.root then r else s.actingParent s.agg
    let s := s.wr BX_CNP_FAB_STS_ACT_PARENT 0 parent
    let s := s.wr BX_CNP_FAB_STS_ORPHANED 0 (b2n (r ≠ s.agg ∧ (e.root ∨ parent ≠ e.parent)))
    s.wr BX_CNP_FAB_STS_ACT_BUDDY 0 (s.mirrorHolder?.getD e.buddy)

/-- The partials this BX64 has sent go again, unchanged, to its acting parent: those of the epochs whose acting parent is another than
before (R234). A new tree changes the parent of no epoch of which a partial has been sent. -/
def State.resendPartials (s : State) (old : Nat → Option Nat) : State :=
  (s.red.kept.filter (fun (k : KeptPartial) => k.sent && !k.p.recompute)).foldl (fun s (k : KeptPartial) =>
    match s.parentOf k.p.epoch with
    | none => s
    | some p => if old k.p.epoch = some p then s else
      (s.sendMsg 1 1 3 p ((s.cfgOf k.p.epoch).partialBytes k.p) (some k.p.epoch) true).bump BX_RED_CNT0_PARTIALS_SENT) s

/-- The highest revision of an epoch's fleet record held here. -/
def State.lastRevision (s : State) (n : Nat) : Nat :=
  ((s.ep.records.filter (fun (x : RecEntry) => x.epoch = n ∧ ¬ x.committed)).map (fun (x : RecEntry) => x.revision)).foldl max 0

/-- A root context is built from the partials this BX64 sent and its accumulator (R402). Its revisions go on from the highest that this BX64
holds of the old root, since revisions move in one direction (R24); the spec does not say how a new acting root numbers them (DESIGN CHOICE,
log entry 107). -/
def State.rootContext (s : State) (x : Ctx) : Ctx :=
  let c := s.cfgOf x.epoch
  let sent := (s.red.kept.filter (fun (k : KeptPartial) => k.sent ∧ k.p.epoch = x.epoch)).map (fun (k : KeptPartial) => k.p.body)
  let acc := sent.foldl (fun a k => c.mergeContrib a k) x.acc
  { x with acc := acc, merged := acc.dies, revision := s.lastRevision x.epoch, revPresent := 0, frozen := false, commitMsg := none, commitRecs := [] }

/-- The watermark after committing as far as the records held reach without a gap. -/
def advanceWm : Nat → State → State
  | 0, s => s
  | k + 1, s =>
    let n := s.rd BX_EPC_STATE_WATERMARK + 1
    if s.flag BX_EPC_STATE_WM_VALID ∧ (s.record? n 64 true).isSome then advanceWm k (s.wr BX_EPC_STATE_WATERMARK 0 n) else s

/-- This BX64 becomes the acting root (R402, R48): the records it acknowledged for the lost root are committed, every record of the mirror is
announced again, at a root that is back its own, and root contexts are built for every epoch not committed of which it is the root now.
was: the epochs whose root it was before. -/
def State.becomeRoot (s : State) (lost : Nat) (was : Nat → Bool) : State :=
  let recs := ((s.cnp.mirrors.find? lost).getD []).filterMap (fun m => match m with
    | .record e v r b => if v = 64 ∨ v < 64 then some (e, r, b) else none
    | _ => none)
  let s := recs.foldl (fun s x => s.putRecord x.2.2) s
  let s := if s.flag BX_EPC_STATE_WM_VALID then s
    else match (sortBy (fun a b => a ≤ b) (recs.map (fun x => x.1))) with
      | [] => s
      | n :: _ => (s.wr BX_EPC_STATE_WATERMARK 0 n).wr BX_EPC_STATE_WM_VALID 0 1
  let s := advanceWm recs.length s
  let root (x : Ctx) : Ctx := if s.rootOf x.epoch ∧ ¬ was x.epoch then s.rootContext x else x
  let s := { s with red := { s.red with ctxs := (s.red.ctxs.filter (fun (x : Ctx) => ¬ s.committed x.epoch)).map root } }
  let own := (s.ep.records.filter (fun (x : RecEntry) => x.committed ∧ x.view = 64)).map (fun (x : RecEntry) => x.epoch)
  let ns := if lost = s.agg then own else (recs.map (fun x => x.1)).eraseDups
  ((sortBy (fun a b => a ≤ b) ns).foldl (fun s n => s.announce n) s).answerWaits

/-! ## The mirror after a loss (R397) -/

/-- UNMIRRORED: register, record and alarm. -/
def State.unmirrored (s : State) : State :=
  let s := (s.wr BX_CNP_FAB_STS_UNMIRRORED 0 1).signal { ty := 0x0407, source := 2, detail := s.agg * 16, extra := s.bxEpoch }
  s.alarmUp 0x29 (s.bxAlarm (s.agg * 16) s.bxEpoch)

/-- The full mirror contents: next incarnations, uncommitted snapshots, kept partials, marks and groups, and at the root its committed
records. -/
def State.mirrorContents (s : State) : List (MirrorItem × Option Nat) :=
  (((List.range 65).filter (fun d => (s.die d).cur ≠ 0)).map (fun d => (MirrorItem.nextInc d (s.die d).next, none))) ++
  ((s.red.log.filter (fun (x : IngEntry) => ¬ s.committed x.epoch)).map (fun (x : IngEntry) => (MirrorItem.snapshot x.die x.epoch x.bytes, some x.epoch))) ++
  (s.red.kept.map (fun (k : KeptPartial) => (MirrorItem.keptPartial k.sent k.p, some k.p.epoch))) ++
  (s.cor.dies.map (fun d => (let x := s.dieState d.1; MirrorItem.state d.1 x.1 x.2.1 x.2.2.1 x.2.2.2, none))) ++
  (s.cor.groups.map (fun (g : GroupState) => (MirrorItem.group g, none))) ++
  (if s.isRoot then (s.ep.records.filter (fun (x : RecEntry) => x.committed)).map
      (fun (x : RecEntry) => (MirrorItem.record x.epoch x.view x.revision x.bytes, none)) else [])

/-- The mirror moves to ALT_BUDDY, or is without a holder (R397). What the old holder had not acknowledged is not repeated to it. -/
def State.switchMirror (s : State) (lost : Nat) : State :=
  let s := { s with cnp := { s.cnp with e2e := s.cnp.e2e.filter (fun (x : E2E) => ¬ (x.dst = lost ∧ x.ty = 1 ∧ x.sub = 4)) } }
  let s := { s with red := { s.red with ctxs := s.red.ctxs.map (fun (x : Ctx) => { x with commitMsg := none, commitRecs := [] }) } }
  match s.mirrorHolder? with
  | none => s.unmirrored
  | some h =>
    let s := s.mirrorContents.foldl (fun s (x : MirrorItem × Option Nat) =>
      let r := s.mirror x.1 x.2
      match r.1 with
      | none => r.2
      | some id => { r.2 with cnp := { r.2.cnp with altPending := r.2.cnp.altPending ++ [id] } }) s
    let s := { s with cnp := { s.cnp with altInUse := true, altAcked := false } }
    (s.wr BX_CNP_FAB_STS_ACT_BUDDY 0 h).unmirrored

/-! ## Standing in for a lost BX64 (R399) -/

/-- The incarnation before a value: 0xFFFF before 1. -/
def prevInc (i : Nat) : Nat := if i ≤ 1 then 0xFFFF else i - 1

/-- The current incarnation of a port of a lost ward, from the next one its mirror holds. -/
def wardInc (items : List MirrorItem) (d : Nat) : Option Nat :=
  items.findSome? (fun m => match m with
    | .nextInc x i => if x = d then some (prevInc i) else none
    | _ => none)

/-- A received partial is kept (R234) and mirrored. -/
def State.keepReceived (s : State) (p : Partial) : State :=
  let k : KeptPartial := { sent := false, p := p }
  let s := { s with red := { s.red with kept := s.red.kept ++ [k] } }
  (s.mirror (.keptPartial false p) (some p.epoch)).2

/-- One mirrored snapshot of a lost ward is classified as the ward would have. At the root it is kept as a partial received, for the
rebuild of R235. -/
def State.standInSnap (s : State) (a : Nat) (items : List MirrorItem) (d n : Nat) (b : Bytes) : State :=
  if d = 64 ∨ ¬ s.closed n ∨ s.horizonOf n ≤ s.bxNs then s
  else if ((wardInc items d).map (fun i => decide (i ≠ snapInc b))).getD false then s.bump BX_EPC_DROP_CNT_OLD_INCARNATION
  else
    let addr := a * 64 + d
    let row := s.classRow addr n false b
    let s := s.countRow row
    if row = 10 then
      let c := s.cfgOf n
      let k := c.contribOf d addr (snapInc b) b
      if s.rootOf n then
        match s.ctx? n with
        | none => s
        | some x =>
          if x.merged.any (fun m => m.1 = addr) then s.bump BX_RED_CNT1_RECOMPUTE_DUP
          else
            let p : Partial := { epoch := n, gen := ((s.genOf n).map (fun (g : GenRec) => g.gen)).getD 0, origin := s.agg, recompute := true, body := k }
            (s.keepReceived p).setCtx (x.merge c k)
      else s.recomputePartial n k
    else s

/-- Snapshot of a port of a ward in its mirror, for the barrier digests of an epoch. -/
def wardSnap (items : List MirrorItem) (n d : Nat) : Option Bytes :=
  items.findSome? (fun m => match m with
    | .snapshot x e b => if x = d ∧ e = n then some b else none
    | _ => none)

/-- A group homed here starts, its members entering with the lag score of R281. -/
def groupStart (g : BarGroup) : GroupState :=
  { home := g.home, num := g.num, line := g.line, members := g.members.map (fun a => (a, {})) }

/-- This BX64 stands in for a lost ward whose mirror it holds: snapshots, digests and group homes. -/
def State.standIn (s : State) (a : Nat) : State :=
  let items := (s.cnp.mirrors.find? a).getD []
  let s := { s with cnp := { s.cnp with standIn := s.cnp.standIn ++ [a] } }
  let s := items.foldl (fun s m => match m with
    | .snapshot d n b => s.standInSnap a items d n b
    | _ => s) s
  let held := items.filterMap (fun m => match m with
    | .group x => if x.home = a then some x else none
    | _ => none)
  let taken := held ++ (s.cfg.groups.filter (fun (g : BarGroup) => g.home = a && !held.any (fun x => x.num = g.num))).map groupStart
  let s := { s with cor := { s.cor with groups := s.cor.groups ++ taken } }
  let n := s.rd BX_EPC_STATE_WATERMARK
  match s.fleetRecord? n with
  | none => s
  | some r => s.sendDigests a n (wardSnap items n) r

/-! ## Verdicts (R398) -/

/-- A (BOOT, EPOCH) pair is greater than another: BOOT first, then the 32 epoch bits as a signed difference. -/
def pairGreater (b e b' e' : Nat) : Bool := b' < b || (b = b' && (let d := (e + 2 ^ 32 - e') % 2 ^ 32; 0 < d && d < 2 ^ 31))

/-- A verdict replaces the one held: its pair is greater, or equal and LOST. -/
def Peer.takes (p : Peer) (lost : Bool) (boot ep : Nat) : Bool :=
  !p.vHeld || pairGreater boot ep p.vBoot p.vEpoch || (boot = p.vBoot && ep = p.vEpoch && lost && !p.lost)

def State.peer (s : State) (a : Nat) : Peer := s.cnp.peers.getD a {}

def State.setPeer (s : State) (a : Nat) (p : Peer) : State := { s with cnp := { s.cnp with peers := s.cnp.peers.set a p } }

/-- What every BX64 does once it holds the verdict LOST on another (R234, R397, R399, R401, R402, R475). -/
def State.lostEffects (s : State) (a : Nat) : State :=
  let oldParent := s.parentOf
  let wasRoot := s.rootOf
  let root0 := s.isRoot
  let s := { s with cnp := { s.cnp with returned := (s.cnp.returned.filter (fun x => x ≠ a)) ++ [a] } }
  let s := s.relayFail (fun g => match g.relay with
    | none => false
    | some r => r.1 = a)
  let mine : Bool := ((s.treeOf s.agg).map (fun (e : TreeEntry) =>
    e.buddy == a || (e.altBuddy == a && !e.altNone && s.isLost e.buddy))).getD false
  let s := s.refreshRoles
  let s := if mine then s.switchMirror a else s
  let s := if s.holdsMirror a ∧ a ≠ s.agg then s.standIn a else s
  let now : Bool := s.red.ctxs.any (fun (x : Ctx) => s.rootOf x.epoch && !wasRoot x.epoch)
  let s := if now ∨ (s.isRoot ∧ ¬ root0) then s.becomeRoot a wasRoot else s
  s.resendPartials oldParent

/-- A LOST verdict is taken. -/
def State.takeLost (s : State) (a boot ep : Nat) : State :=
  let p := s.peer a
  if p.takes true boot ep then
    (s.setPeer a { p with lost := true, vHeld := true, vBoot := boot, vEpoch := ep }).lostEffects a
  else s

/-- A BACK verdict is taken (R398, R402, R403): partials go again to a parent that has changed, and a BX64 that acts as root announces the
records of the mirror. The BX64 that is back acts as a leaf for the rest of the generation, but for a root or buddy that
returns without a reset while no BX64 acts as root. -/
def State.takeBack (s : State) (a boot ep : Nat) : State :=
  let p := s.peer a
  if p.takes false boot ep then
    let same : Bool := boot = p.vBoot
    let oldParent := s.parentOf
    let wasRoot := s.rootOf
    let root0 := s.isRoot
    let s := s.setPeer a { p with lost := false, vHeld := true, vBoot := boot, vEpoch := ep, lastHeard := s.bxNs }
    let s := { s with cnp := { s.cnp with standIn := s.cnp.standIn.filter (fun x => x ≠ a) } }
    let none_ : Bool := s.noParent (s.rd BX_CNP_FAB_STS_ACT_ROOT)
    let heir : Bool := ((s.cfg.tree.find? (·.root)).map (fun (e : TreeEntry) => e.agg == a || e.buddy == a)).getD false
    let s := if none_ && same && heir then
        let s : State := { s with cnp := { s.cnp with returned := s.cnp.returned.filter (fun x => x ≠ a) } }
        (s.wr BX_CNP_FAB_STS_ACT_ROOT 0 a).refreshRoles
      else s.refreshRoles
    let s := if s.isRoot ∧ ¬ root0 then s.becomeRoot (s.treeRoot?.getD a) wasRoot else s
    s.resendPartials oldParent
  else s

/-- This BX64 declares another lost (R398): counted, recorded, broadcast, and acted on from this tick. -/
def State.declareLost (s : State) (a : Nat) : State :=
  let boot := (s.peer a).boot
  let ep := s.bxEpoch % 2 ^ 32
  let s := (s.bump BX_CNP_CNT1_LOST_DECLARED).signal { ty := 0x0406, source := 2, idx := a, detail := a * 16, extra := boot * 2 ^ 32 + ep }
  let s := s.broadcastAlarm 0x22 (s.bxAlarm (a * 16) (boot * 2 ^ 32 + ep))
  s.takeLost a boot ep

/-- A returning BX64 is announced (R398, R403). -/
def State.declareBack (s : State) (a boot : Nat) : State :=
  let ep := s.bxEpoch % 2 ^ 32
  let s := s.broadcastAlarm 0x23 (s.bxAlarm (a * 16) (boot * 2 ^ 32 + ep))
  s.takeBack a boot ep

/-- The mirror contents held for a restarted ward go to it (MIRROR_RESTORE). -/
def State.sendRestore (s : State) (a : Nat) : State :=
  let items := (s.cnp.mirrors.find? a).getD []
  if items = [] then s else s.sendMsg 2 0 7 a (items.flatMap s.itemBytes) none true

/-! ## Partition boundaries (R404 to R407) -/

/-- The neighbour of a Canopy port lies on the other side of partition p's boundary. -/
def State.crosses (s : State) (p q : Nat) : Bool :=
  let mine : Bool := ((s.treeOf s.agg).map (fun (e : TreeEntry) => e.partition == p)).getD false
  let other : Bool := ((s.treeOf (s.rd BX_CNP_PORT_STS_NEIGH_AGG q)).map (fun (e : TreeEntry) => e.partition == p)).getD
    ((s.port q).neighPartition == p)
  mine != other

/-- Some fence in force crosses a port. -/
def State.portFenced (s : State) (q : Nat) : Bool := (List.range 64).any (fun p => (s.rd BX_CNP_FENCE_FENCED).testBit p && s.crosses p q)

end Sys2Proof.Machine
end

