-- ==== Sys2Proof/Machine/CfgOps.lean ====
section
/-! DEFINITION. Staging a generation (R43, R215, R258, R266, R277, R392, R536): the checks, the targets, the messages between BX64s and the
answers of targets. -/
namespace Sys2Proof.Machine

/-! ## The schedule before the first generation -/

/-- The schedule an apply instant is measured by: the live one, and before any generation the reset values of BX_EPC_SCHED_ANCHOR
and BX_EPC_SCHED_CFG (log entry 20). -/
def State.liveSched (s : State) : Sched := s.sched?.getD ⟨0, 0, 3⟩

/-! ## Checks of a generation (R215, R217, R229, R258, R266, R277, R392) -/

/-- A source kind and index are in range; CORR only for features. -/
def sourceOk (corr : Bool) (kind idx : Nat) : Bool :=
  match kind with
  | 0 => decide (idx < 256)
  | 1 => decide (idx < 16384)
  | 2 => decide (idx < 160)
  | 3 => decide (idx < 16)
  | 4 => true
  | 5 => decide (idx < 256)
  | 6 => corr && decide (idx < 20)
  | _ => false

/-- A slot's settings. -/
def Slot.ok (t : Slot) : Bool :=
  decide (t.op ≤ 5) && sourceOk false t.kind t.src && (t.op ≠ 3 || (decide (1 ≤ t.buckets) && decide (t.buckets ≤ 64))) &&
    ((t.op ≠ 4 && t.op ≠ 5) || (decide (1 ≤ t.k) && decide (t.k ≤ 16)))

/-- Bytes of a slot's result. -/
def Slot.bytes (t : Slot) : Nat :=
  match t.op with
  | 3 => 16 + (4 * t.buckets + 7) / 8 * 8
  | 4 | 5 => 16 + 16 * t.k
  | _ => 16

/-- A feature's settings: its operation and both its operands, which are checked whether the operation reads them or not (R215). -/
def Settings.featOk (c : Settings) (f : Nat) : Bool :=
  let op := c.fld BX_FB_MAP_OP f
  let a := sourceOk true (c.fld BX_FB_MAP_A_KIND f) (c.fld BX_FB_MAP_A_INDEX f)
  let b := sourceOk true (c.fld BX_FB_MAP_B_KIND f) (c.fld BX_FB_MAP_B_INDEX f)
  match op with
  | 0 => true
  | 1 | 2 | 3 | 4 | 5 | 6 | 7 | 8 => a && b
  | _ => false

/-- A list of die addresses is in strictly ascending order. -/
def ascendingDies : List Nat → Bool
  | a :: b :: t => decide (a < b) && ascendingDies (b :: t)
  | _ => true

/-- The barrier groups (R277). -/
def Settings.groupsOk (c : Settings) : Bool :=
  c.groups.all (fun g => decide (g.num < 256) && decide (g.line < 16) && decide (1 ≤ g.members.length) && decide (g.members.length ≤ 4096) &&
    decide (1 ≤ g.alphaShift) && decide (g.alphaShift ≤ 15) && g.members.all (fun a => decide (a < 2 ^ 18)) && ascendingDies g.members) &&
  (c.groups.flatMap (fun g => g.members)).all (fun a => decide ((c.groups.filter (fun g => g.members.contains a)).length ≤ 4)) &&
  c.groups.all (fun g => decide (((c.groups.filter (fun h => h.home = g.home)).map (fun h => h.members.length)).foldl (· + ·) 0 ≤ 262144))

/-- The chain of parents of an aggregator reaches the root. -/
def chainEnds (t : List TreeEntry) : Nat → Nat → Bool
  | 0, _ => false
  | k + 1, a =>
    match t.find? (fun e => e.agg = a) with
    | none => false
    | some e => e.root || chainEnds t k e.parent

/-- The reduction tree (R392). -/
def treeOk (t : List TreeEntry) : Bool :=
  decide ((t.filter (fun e => e.root)).length = 1) && t.all (fun e =>
    chainEnds t (t.length + 1) e.agg && decide (e.buddy ≠ e.agg) && (e.altNone || (decide (e.altBuddy ≠ e.agg) && decide (e.altBuddy ≠ e.buddy))) &&
    (!e.altNone || decide (e.altBuddy = 0)) &&
    (!e.root || t.any (fun x => x.agg = e.buddy && !x.root && x.parent = e.agg)) &&
    decide ((t.filter (fun x => x.buddy = e.agg || (!x.altNone && x.altBuddy = e.agg))).length ≤ 4) &&
    e.relays.all (fun r => t.any (fun x => x.agg = r)) && decide (e.relays.length ≤ 5) &&
    (let ks := (t.filter (fun x => !x.root && x.parent = e.agg)).map (fun x => x.height)
     if ks.isEmpty then decide (e.height = 0) else decide (e.height = 1 + ks.foldl max 0)))

/-- The settings as a whole, without the slots of Grove. -/
def Settings.ok (c : Settings) (liveK : Nat) : Bool :=
  decide (c.k ≤ 14) && decide (liveK ≤ c.k + 2) && c.slots.all Slot.ok &&
    (List.range 5).all (fun i => fp32.decode (c.fld BX_COR_LOAD_LOAD_THR i) ≠ .nan) &&
    decide ((c.slots.map Slot.bytes).foldl (· + ·) 0 ≤ 262144) && decide (c.fld BX_FB_CTRL_NFEAT 0 ≤ 4096) &&
    (List.range (c.fld BX_FB_CTRL_NFEAT 0)).all c.featOk && c.groupsOk && (c.tree.isEmpty || treeOk c.tree) &&
    c.enrolled.all (fun e => decide (e.1 < 2 ^ 18))

/-- The digest a generation names, from the words of its SEL_DIG or GRS_DIG registers. -/
def Settings.digest (c : Settings) (f : Fld) (base : Nat) : Bytes := (List.range 4).flatMap (fun j => beBytes 8 (c.fld f (base + j)))

/-- Every part of a split model is bound (R263). -/
def State.bound (s : State) (slot parts : Nat) : Bool :=
  (List.range parts).all (fun p => p = 0 || s.grv.binds.any (fun (b : PeerBind) => b.slot = slot && b.part = p))

/-- The slots of Grove that a generation names, as they stand here (R258, R266). -/
def State.groveOk (s : State) (c : Settings) : Bool :=
  (List.range 8).all (fun k =>
    c.fld BX_GRV_SEL_EN k = 0 || (match s.grv.slots.find? (c.fld BX_GRV_SEL_SLOT k) with
      | none => false
      | some m =>
        let h := parseModel m.binary
        decide (h.part = 0) && decide (m.digest = c.digest BX_GRV_SEL_DIG_DIG (4 * k)) && decide (h.nfeat ≤ c.fld BX_FB_CTRL_NFEAT 0) &&
          s.bound (c.fld BX_GRV_SEL_SLOT k) h.partCount)) &&
  (c.fld BX_GRV_GRS_SEL_EN 0 = 0 || (match s.grv.slots.find? (c.fld BX_GRV_GRS_SEL_SLOT 0) with
    | none => false
    | some m => decide (m.digest = c.digest BX_GRV_GRS_DIG_DIG 0) && (parseModel m.binary).grsOk))

/-! ## Messages of a distribution (log entry 15) -/

/-- The bytes of a message: a kind word, then its fields, a word each. -/
def cfgBytes (m : CfgMsg) : Bytes :=
  match m with
  | .stage g c a => wordBytes ([1, g, c.k] ++ (c.anchorAt.map (fun x => [x.1, x.2])).getD [] ++ (a.map (fun x => [x.a, x.nA, x.k])).getD [] ++
      [c.enrolled.length] ++ c.enrolled.flatMap (fun e => [e.1, e.2]) ++
      [c.tree.length] ++ c.tree.flatMap (fun e => [e.agg, e.parent, e.buddy, e.altBuddy, e.partition, e.height, b2n e.root, b2n e.altNone] ++ e.relays) ++
      [c.groups.length] ++ c.groups.flatMap (fun g => [g.home, g.num, g.line, g.windowNs, g.deadlineNs, g.alphaShift, g.lagThr, g.lagHold] ++ g.members) ++
      [c.regs.length] ++ c.regs.flatMap (fun r => [snapOffset r.reg r.idx, r.word]) ++
      c.zx.flatMap (fun z => [z.1] ++ z.2.flatMap (fun x => [x.1, x.2])))
  | .arm g t m => wordBytes [2, g, t, m]
  | .answer arm k a st => wordBytes [3, b2n arm, k, a, st]
  | .scope ts => wordBytes ([4, ts.length] ++ ts.flatMap (fun t => [t.1, t.2.1, b2n t.2.2]))
  | .abort g => wordBytes [5, g]

/-- A message of a distribution to another BX64, under end-to-end recovery. -/
def State.sendCfg (s : State) (a : Nat) (m : CfgMsg) : State := s.sendMsg 4 0x16 2 a (cfgBytes m) none true

/-! ## Targets (R536) -/

/-- A ZX40 target's local die index, if it is local to this BX64. -/
def State.localTarget (s : State) (kind addr : Nat) : Option Nat :=
  if kind = 1 ∧ addr / 64 = s.agg then some (addr % 64) else if kind = 2 ∧ addr / 64 = s.agg then some 64 else none

/-- The ZX40s of this BX64 in scope: admitted ports, enrolled ports, the self-monitoring ZX40. -/
def State.localTargets (s : State) (c : Settings) : List Target :=
  ((List.range 64).filter (fun p => (s.die p).cur ≠ 0 ∨ (c.mask? (s.dieAddr p)).isSome ∨ (s.cfg.mask? (s.dieAddr p)).isSome)).map
    (fun p => ({ kind := 1, addr := s.dieAddr p } : Target)) ++ [{ kind := 2, addr := s.agg * 64 }]

/-- The other BX64s of the live and the staged tree. -/
def State.otherBx (s : State) (c : Settings) : List Nat :=
  (sortBy (fun a b => a ≤ b) (((s.cfg.tree ++ c.tree).map (fun e => e.agg)).filter (fun a => a ≠ s.agg)).eraseDups)

/-- Targets in ascending order of KIND and address. -/
def sortTargets (ts : List Target) : List Target := sortBy (fun (x y : Target) => x.kind < y.kind ∨ x.kind = y.kind ∧ x.addr ≤ y.addr) ts

/-- All targets of a generation staged here, in ascending order of KIND and address. -/
def State.targets (s : State) (c : Settings) : List Target :=
  let bx := s.otherBx c
  let remote := (((c.enrolled ++ s.cfg.enrolled).map (fun e => e.1)).filter (fun a => a / 64 ≠ s.agg)).eraseDups
  let all := bx.map (fun a => ({ kind := 0, addr := a * 64 } : Target)) ++ remote.map (fun a => { kind := 1, addr := a }) ++
    bx.map (fun a => { kind := 2, addr := a * 64 }) ++ s.localTargets c
  sortTargets all

/-- A target cannot be reached: a ZX40 here whose link is not ACTIVE, one that its BX64 reports so, or anything of a BX64 without a route,
lost, or refusing. -/
def State.unreachable (s : State) (ts : List Target) (t : Target) : Bool :=
  match s.localTarget t.kind t.addr with
  | some p => (s.link (.stem p)).lstate ≠ .active
  | none =>
    let a := t.addr / 64
    t.ack = .unreached || (s.cnp.routes.find? a).isNone || s.isLost a || (t.kind ≠ 0 && ts.any (fun x => x.kind = 0 && x.addr = a * 64 && (match x.ack with
      | .refused _ => true
      | _ => false)))

/-- The distribution is still running. -/
def State.distributing (s : State) : Bool :=
  match s.ep.staged with
  | none => false
  | some g => g.targets.any (fun t => (t.ack = .none || t.ack = .again) && !s.unreachable g.targets t)

def State.setStaged (s : State) (g : Option Staged) : State := { s with ep := { s.ep with staged := g } }

/-- The staged ZX40 settings of a generation over those in force: a generation names only what it sets. -/
def overlayZx (old new : SMap (SMap Nat)) : SMap (SMap Nat) :=
  new.foldl (fun m z => m.set z.1 (z.2.foldl (fun x e => x.set e.1 e.2) (m.getD z.1 []))) old

/-- The settings of a generation with what it does not set taken from the live ones: a shadow starts as its live value (R147). -/
def State.overlay (s : State) (c : Settings) : Settings :=
  let old := s.cfg.regs.filter (fun (r : StagedReg) => !c.regs.any (fun (x : StagedReg) => x.reg == r.reg && x.idx == r.idx))
  { c with regs := old ++ c.regs.map StagedReg.stored, zx := overlayZx s.cfg.zx c.zx }

/-- A generation comes into the shadows of this BX64 and goes on to its ZX40s. -/
def State.holdStaged (s : State) (g : Staged) : State :=
  let g := { g with cfg := s.overlay g.cfg }
  let s := s.setStaged (some g)
  g.targets.foldl (fun s (t : Target) =>
    match s.localTarget t.kind t.addr with
    | some p => if (s.link (.stem p)).lstate = .active then s.stageZx p g.gen g.cfg else s
    | none => s) s

/-- The generation in force goes again to a restarted BX64, armed for the boundary two epochs ahead (R43, R517). -/
def State.resendTo (s : State) (a : Nat) : State :=
  match s.liveGen? with
  | none => s
  | some g =>
    let m := s.bxEpoch + 2
    (s.sendCfg a (.stage g.gen g.cfg (some g.sched))).sendCfg a (.arm g.gen (g.sched.open_ m) m)

/-- What a status says of a target: the banks of a ZX40 that answers S_CONFLICT have not changed roles yet (R536). -/
def ackOf (kind status : Nat) : Ack := if status = 0 then .acked else if status = S_CONFLICT ∧ kind ≠ 0 then .again else .refused status

/-- A target that refused ARM has its Heartwood record (R43). -/
def State.armRecord (s : State) (kind addr gen : Nat) : State :=
  let (ty, s) := s.draw 16
  s.signal { ty := ty, source := 3, idx := addr % 64, die := addr, detail := packFields [(18, 2, kind), (0, 18, addr)], extra := gen }

/-- The answer of a target to the distribution, or to ARM, is noted at a BX64 that holds the generation. A target of another BX64 that this
one did not know of joins the list. A refusal of ARM that comes after the apply instant is recorded, and the live generation goes again to
its target at once (R43). -/
def State.noteAnswer (s : State) (arm : Bool) (kind addr status : Nat) : State :=
  match s.ep.staged with
  | none =>
    if arm ∧ status ≠ 0 ∧ s.liveGen?.isSome then
      let s := if s.isRoot then s.armRecord kind addr s.liveGen else s
      match s.localTarget kind addr with
      | some p => s.resendGen p
      | none => if kind = 0 ∧ s.isRoot then s.resendTo (addr / 64) else s
    else s
  | some g =>
    let known : Bool := g.targets.any (fun (t : Target) => t.kind = kind && t.addr = addr)
    let ts : List Target := if known then g.targets.map (fun (t : Target) => if t.kind = kind ∧ t.addr = addr then { t with ack := ackOf kind status } else t)
      else sortTargets (g.targets ++ [({ kind := kind, addr := addr, ack := ackOf kind status } : Target)])
    let g := if arm then (if status = 0 then g else { g with armRefused := g.armRefused ++ [(kind, addr)] }) else { g with targets := ts }
    let s := s.setStaged (some g)
    if arm ∧ status ≠ 0 ∧ g.origin = none then s.armRecord kind addr g.gen else s

/-- The root that arms a generation: the acting root, or the staged tree's where no tree is live yet. -/
def State.armRoot? (s : State) (c : Settings) : Option Nat :=
  if s.liveGen?.isSome then some (s.rd BX_CNP_FAB_STS_ACT_ROOT) else (c.tree.find? (fun e => e.root)).map (fun e => e.agg)

/-- This BX64 is that root; without a tree every BX64 is its own. -/
def State.armsGen (s : State) (c : Settings) : Bool :=
  if s.liveGen?.isSome then s.isRoot else c.tree.isEmpty || s.armRoot? c = some s.agg

/-- Those that follow the distribution of the generation held here: the BX64 it came from and the root that arms it, where they are others. -/
def State.followers (s : State) : List Nat :=
  match s.ep.staged with
  | none => []
  | some g => ((g.origin.toList ++ (s.armRoot? g.cfg).toList).filter (fun a => a ≠ s.agg)).eraseDups

/-- The answer of a target local to this BX64: noted here, and told to those that follow the distribution. -/
def State.localAnswer (s : State) (arm : Bool) (kind addr status : Nat) : State :=
  let s := s.noteAnswer arm kind addr status
  if ¬ arm ∧ ackOf kind status = .again then s
  else s.followers.foldl (fun s a => s.sendCfg a (.answer arm kind addr status)) s

/-- The targets local to this BX64 are told to those that follow the distribution, with whether they can be reached. -/
def State.tellScope (s : State) : State :=
  match s.ep.staged with
  | none => s
  | some g =>
    let ts := (g.targets.filter (fun (t : Target) => (s.localTarget t.kind t.addr).isSome)).map
      (fun (t : Target) => (t.kind, t.addr, !s.unreachable g.targets t))
    s.followers.foldl (fun s a => s.sendCfg a (.scope ts)) s

/-- The targets of another BX64 are noted: those not known join the list, and those it cannot reach are not waited for. -/
def State.noteScope (s : State) (ts : List (Nat × Nat × Bool)) : State :=
  match s.ep.staged with
  | none => s
  | some g =>
    let add := (ts.filter (fun t => g.targets.all (fun (x : Target) => ¬ (x.kind = t.1 ∧ x.addr = t.2.1)))).map (fun t => ({ kind := t.1, addr := t.2.1 } : Target))
    let mark (t : Target) : Target :=
      if t.ack = .none ∧ ts.any (fun x => x.1 = t.kind && x.2.1 = t.addr && !x.2.2) then { t with ack := .unreached } else t
    s.setStaged (some { g with targets := sortTargets ((g.targets ++ add).map mark) })

/-- Local targets that have not answered and whose Stem link is not ACTIVE are no longer waited for, here and where the distribution is
followed (R536). -/
def State.targetsGone (s : State) : State :=
  match s.ep.staged with
  | none => s
  | some g =>
    let gone (t : Target) : Bool := (s.localTarget t.kind t.addr).isSome && (t.ack = .none || t.ack = .again) && s.unreachable g.targets t
    if g.armed.isSome ∨ ¬ g.targets.any gone then s
    else
      let s := s.setStaged (some { g with targets := g.targets.map (fun (t : Target) => if gone t then { t with ack := .unreached } else t) })
      s.followers.foldl (fun s a => s.sendCfg a (.scope ((g.targets.filter gone).map (fun (t : Target) => (t.kind, t.addr, false))))) s

/-- A staged generation is discarded here and at the ZX40s that hold it (R44). -/
def State.dropStaged (s : State) (g : Staged) : State :=
  (g.targets.foldl (fun s (x : Target) => match s.localTarget x.kind x.addr with
    | some p => if x.ack = .acked then s.zxInternal p 0x0213 [g.gen] else s
    | none => s) s).setStaged none

/-- A ZX40's banks may have changed roles: a target to be written again is written (R536). -/
def State.restage (s : State) : State :=
  match s.ep.staged with
  | none => s
  | some g =>
    let due := g.targets.filter (fun (t : Target) => t.ack = .again)
    let s := s.setStaged (some { g with targets := g.targets.map (fun (t : Target) => if t.ack = .again then { t with ack := .none } else t) })
    due.foldl (fun s (t : Target) => match s.localTarget t.kind t.addr with
      | some p => s.stageZx p g.gen g.cfg
      | none => s) s

end Sys2Proof.Machine
end

