-- ==== Sys2Proof/Machine/Canopy.lean ====
section
/-! DEFINITION. The Canopy commands (R377 to R413): HELLO, LSAs, broadcasts, alarms, records, end-to-end recovery, the mirror,
heartbeats, loss and return, Firebreak, and the fabric opcodes. -/
namespace Sys2Proof.Machine

/-! ## HELLO and routes -/

/-- A port goes to FORWARDING, or FENCED where a fence in force crosses it; without ASSIGNED or with ISOLATE it stays ISOLATED. -/
def State.openPort (s : State) (q : Nat) : State :=
  let p := s.port q
  if (s.link (.canopy q)).lstate = .active ∧ p.helloSent ∧ p.helloSeen ∧ s.flag BX_CNP_IDENT_ASSIGNED ∧ ¬ s.flag BX_CNP_PORT_CTRL_ISOLATE q then
    s.setPstate q (if s.portFenced q then 3 else 2)
  else s

/-- The conflict a HELLO shows (R377): none, another fleet (some true), a duplicate aggregator ID (some false). -/
def State.helloConflict (s : State) (fleet agg uid : Nat) : Option Bool :=
  if fleet ≠ s.rd BX_CNP_IDENT_FLEET_ID then some true
  else if agg = s.agg ∨ s.cnp.lsdb.any (fun (l : Lsa) => l.agg = agg ∧ l.uid ≠ uid) then some false
  else none

/-- A returning or restarted BX64 has been noticed by its higher BOOT: its buddy announces it and returns its mirror (R403, R233). Its MSG_IDs
start over, so those delivered before its reset are no repeats (DEDUCED, log entry 122). -/
def State.noticeBoot (s : State) (a boot : Nat) : State :=
  let p := s.peer a
  let s := s.setPeer a { p with boot := max boot p.boot, lastHeard := s.bxNs }
  let s : State := if p.boot < boot ∧ p.boot ≠ 0 then { s with cnp := { s.cnp with delivered := s.cnp.delivered.filter (fun x => x.1 ≠ a) } } else s
  if p.boot < boot ∧ s.holdsMirror a then
    let s := if p.lost then s.declareBack a boot else s
    s.sendRestore a
  else s

/-- The root re-sends the live generation to a BX64 of the tree that has rejoined without it (R517). -/
def State.resendRejoined (s : State) (a : Nat) : State := if s.isRoot ∧ a ≠ s.agg ∧ (s.treeOf a).isSome then s.resendTo a else s

/-- HELLO_RECEIVE: a HELLO at port q: DEV_UID, fleet, aggregator, partition, BOOT, LIVE_GEN. The port of the neighbour is in no message,
so NEIGH_PORT is a free value. -/
def execHelloReceive (q uid fleet agg partition boot gen : Nat) (s : State) : Host.Outcome State Fault Refusal :=
  let s := s.consume (.canopy q) 4 0x10
  if 24 ≤ q ∨ (s.link (.canopy q)).lstate ≠ .active then done s
  else
    match s.helloConflict fleet agg uid with
    | some other =>
      let s := if other then s.bump BX_CNP_CNT1_FLEET_MISMATCH else s.bump BX_CNP_CNT1_DUP_ID
      let s := (s.setPort q { s.port q with helloSeen := false }).setPstate q 1
      let s := s.violation 2 4 2 q
      let d := packFields [(4, 12, agg), (3, 1, b2n other)]
      let s := s.signal { ty := 0x0405, source := 2, idx := q, detail := d, extra := uid }
      done (s.alarmUp 0x2C (s.bxAlarm d uid))
    | none =>
      let answer : Bool := !(s.port q).helloSeen
      let s := s.setPort q { s.port q with helloSeen := true, neighUid := uid, neighBoot := boot, neighPartition := partition }
      let (np, s) := s.draw 5
      let s := (s.wr BX_CNP_PORT_STS_NEIGH_AGG q agg).wr BX_CNP_PORT_STS_NEIGH_PORT q np
      let s := s.noticeBoot agg boot
      let s := if answer then s.sendHello q else s
      let s := s.openPort q
      done (if gen = 0 ∧ answer then s.resendRejoined agg else s)

/-- HELLO_RESEND: an unanswered HELLO is sent again every 1 ms. -/
def execHelloResend (q : Nat) (s : State) : Host.Outcome State Fault Refusal :=
  let p := s.port q
  if q < 24 ∧ (s.link (.canopy q)).lstate = .active ∧ p.helloSent ∧ ¬ p.helloSeen ∧ p.helloAt + 1000000 ≤ s.bxNs then done (s.sendHello q)
  else done s

/-- An LSA is newer: (BOOT, LSEQ) lexicographically. -/
def Lsa.newer (x y : Lsa) : Bool := y.boot < x.boot || (y.boot = x.boot && y.lseq < x.lseq)

/-- LSA_RECEIVE: an LSA arrives at port q; a newer one is kept and goes on as it came (R378). -/
def execLsaReceive (q : Nat) (l : Lsa) (s : State) : Host.Outcome State Fault Refusal :=
  let m := s.inMsg? (.canopy q) 4 0x11
  let s := s.consume (.canopy q) 4 0x11
  let held := s.cnp.lsdb.find? (fun (x : Lsa) => x.agg = l.agg)
  let take : Bool := l.agg ≠ s.agg && (match held with
    | none => true
    | some x => l.newer x)
  if ¬ take then done s
  else
    let l := { l with at_ := s.bxNs }
    let s := { s with cnp := { s.cnp with lsdb := s.cnp.lsdb.filter (fun (x : Lsa) => x.agg ≠ l.agg) ++ [l] } }
    let oneway := l.links.filter (fun k => s.cnp.lsdb.any (fun (x : Lsa) => x.agg = k.2.1 && !x.links.any (fun m => m.2.1 = l.agg)))
    let s := oneway.foldl (fun s _ => (s.bump BX_CNP_CNT1_LSA_ONEWAY).violation 2 6 2 q) s
    let s := s.recompute
    let body := lsaBytes l
    let bytes := (m.map (·.bytes)).getD (msgPrefix 0 body.length 0 0 ++ body)
    done ((s.passOn q 4 0x11 2 l.agg false bytes ((m.map (·.hops)).getD 31)).noticeBoot l.agg l.boot)

/-- LSA_REFRESH: every LSA_REFRESH_MS this BX64 floods its LSA. -/
def execLsaRefresh (s : State) : Host.Outcome State Fault Refusal :=
  if s.cnp.lsaAt + max 1 (s.rd BX_CNP_CTRL_LSA_REFRESH_MS) * 1000000 ≤ s.bxNs then done s.floodLsa else done s

/-- LSA_EXPIRY: LSAs not refreshed within four refresh periods are deleted and routes recomputed. -/
def execLsaExpiry (s : State) : Host.Outcome State Fault Refusal :=
  let lim := 4 * max 1 (s.rd BX_CNP_CTRL_LSA_REFRESH_MS) * 1000000
  let keep := s.cnp.lsdb.filter (fun (x : Lsa) => x.agg = s.agg || s.bxNs < x.at_ + lim)
  if keep.length = s.cnp.lsdb.length then done s else done { s with cnp := { s.cnp with lsdb := keep } }.recompute

/-- A flit of a message has been dropped on its way out of a port: the message is no longer the one being sent on its VC. -/
def State.closeTx (s : State) (q : Nat) (b : FlitBody) : State :=
  let p := s.port q
  if p.txOpen.find? b.vc = some (b.src, b.dst) then s.setPort q { p with txOpen := p.txOpen.erase b.vc } else s

/-- RELAY_WAIT_TIMEOUT: flits a relay has held RELAY_WAIT_US are dropped and their buffers freed (R385). -/
def execRelayWaitTimeout (q : Nat) (s : State) : Host.Outcome State Fault Refusal :=
  let lim := s.rd BX_CNP_CTRL_RELAY_WAIT_US * 1000
  let late (w : Nat × WaitFlit) : Bool := w.2.fromPort.isSome && decide (w.2.since + lim ≤ s.bxNs)
  let drop := (s.link (.canopy q)).wait.filter late
  let s := s.modLink (.canopy q) (fun l => { l with wait := l.wait.filter (fun w => !late w) })
  done (drop.foldl (fun s w =>
    (match w.2.fromPort with
     | some p => s.freeBuf p w.2.body.vc
     | none => s).bump BX_CNP_CNT0_RELAY_TIMEOUT |>.closeTx q w.2.body) s)

/-! ## Broadcasts and alarms -/

/-- A FENCE broadcast is held (R405, R406). -/
def State.holdFence (s : State) (p : Bytes) : State :=
  let w := rdLe p 0 8
  let d := bits w 15 0
  let f := rdLe p 16 8
  let fr : FenceRec := if bitAt d 15 then { partition := true, id := bits d 14 9, cause := bits d 8 6, f := f }
    else { partition := false, id := bits w 47 30, inc := bits w 63 48, cause := bits d 8 6, f := f }
  { s with cnp := { s.cnp with fences := s.cnp.fences ++ [fr] } }

/-- An UNFENCE broadcast: the fence it names is to be lifted at B(M), given as its instant. -/
def State.holdUnfence (s : State) (p : Bytes) : State :=
  let w := rdLe p 0 8
  let d := bits w 15 0
  let t := rdLe p 16 8
  let m := (s.sched?.bind (fun c => c.at_ t)).getD 0
  { s with cnp := { s.cnp with fences := s.cnp.fences.map (fun (x : FenceRec) =>
    if x.lift = none ∧ x.partition = bitAt d 15 ∧ x.id = (if bitAt d 15 then bits d 14 9 else bits w 47 30) then { x with lift := some m } else x) } }

/-- BROADCAST_RECEIVE: a broadcast alarm from src at port q; newness by BOOT as its LSA gives and BSEQ. FENCE and UNFENCE act here;
PEER_LOST and PEER_BACK have commands of their own. -/
def execBroadcastReceive (q sub src : Nat) (payload : Bytes) (s : State) : Host.Outcome State Fault Refusal :=
  let hops := ((s.inMsg? (.canopy q) 3 sub).map (·.hops)).getD 31
  let s := s.consume (.canopy q) 3 sub
  let bseq := rdLe payload 40 4
  let boot := ((s.cnp.lsdb.find? (fun (x : Lsa) => x.agg = src)).map (fun (x : Lsa) => x.boot)).getD (s.peer src).boot
  let newer : Bool := src ≠ s.agg && (match (s.peer src).bcast with
    | none => true
    | some (b, n) => b < boot || (b = boot && n < bseq))
  if ¬ newer then done s
  else
    let s := s.setPeer src { s.peer src with bcast := some (boot, bseq) }
    let s := s.passOn q 3 sub 0 src true payload hops
    done (if sub = 0x20 then s.holdFence payload else if sub = 0x21 then s.holdUnfence payload else s)

/-- Alarms of a source aggregator forwarded in the open epoch, from every port (R388). -/
def State.alarmsOf (s : State) (src : Nat) : Nat :=
  ((List.range 24).map (fun q => if (s.port q).alarmEpoch = s.bxEpoch then (s.port q).alarms.getD src 0 else 0)).foldl (· + ·) 0

/-- CANOPY_ALARM_RECEIVE: an alarm that travels up the tree arrives here as its DST (R388). -/
def execCanopyAlarmReceive (q sub src : Nat) (payload : Bytes) (s : State) : Host.Outcome State Fault Refusal :=
  let s := s.consume (.canopy q) 3 sub
  match s.parent? with
  | none => done (s.post 0 0x20 payload)
  | some parent =>
    let p := s.port q
    let p := if p.alarmEpoch = s.bxEpoch then p else { p with alarmEpoch := s.bxEpoch, alarms := [], limited := [] }
    if s.rd BX_CNP_PORT_CTRL_ALARM_LIMIT q ≤ s.alarmsOf src then
      let s := s.bump BX_CNP_PORT_MISC_ALARM_LIMITED q
      let s := if p.limited = [] then (s.signal { ty := 0x0404, source := 2, idx := q, detail := q, extra := src }).violation 2 12 2 q else s
      done (s.setPort q { p with limited := p.limited ++ [src] })
    else
      let s := s.setPort q { p with alarms := p.alarms.set src (p.alarms.getD src 0 + 1) }
      match s.outPort 3 sub s.agg parent with
      | (some o, s) => done (s.sendOn o 3 sub 0 src parent false payload)
      | (none, s) => done s

/-- CUT_THROUGH_HOLD_LIMIT: 16 HOLD words without a verdict: the cut-through flit of port q ends with its CRC inverted (R390). -/
def execCutThroughHoldLimit (q : Nat) (s : State) : Host.Outcome State Fault Refusal :=
  match (s.port q).cut with
  | none => done s
  | some (p, b) =>
    let s := s.setPort q { s.port q with cut := none }
    done ((s.bump BX_STM_PORT_MISC_STOMPED p).enqueueFront q 0 { b with stomp := true })

/-! ## End-to-end recovery (R387) -/

/-- A message is obsolete: its horizon, wait or epoch has passed. -/
def State.obsolete (s : State) (m : E2E) : Bool :=
  match m.epoch with
  | none => false
  | some n =>
    if m.ty = 1 ∧ m.sub = 1 then decide (s.horizonOf n ≤ s.bxNs)
    else if m.ty = 1 ∧ (m.sub = 5 ∨ m.sub = 6) then decide (m.sentAt + s.rd BX_COR_CTRL_BAR_WAIT_US * 1000 ≤ s.bxNs)
    else if m.ty = 1 ∧ m.sub = 4 then s.committed n
    else false

/-- E2E_REPEAT: every unacknowledged message not sent for REPEAT_US is sent again, or dropped when obsolete. -/
def execE2eRepeat (s : State) : Host.Outcome State Fault Refusal :=
  let s := { s with cnp := { s.cnp with e2e := s.cnp.e2e.filter (fun m => !s.obsolete m) } }
  let lim := max 1 (s.rd BX_CNP_CTRL_REPEAT_US) * 1000
  let due := s.cnp.e2e.filter (fun (m : E2E) => m.lastSent + lim ≤ s.bxNs)
  let s := { s with cnp := { s.cnp with e2e := s.cnp.e2e.map (fun (m : E2E) => if m.lastSent + lim ≤ s.bxNs then { m with lastSent := s.bxNs } else m) } }
  done (due.foldl (fun s (m : E2E) => s.sendTo m.ty m.sub m.vc m.dst m.bytes) s)

/-- The snapshots and commits that waited for a mirror item's acknowledgement. -/
def State.ackItems (s : State) (id : Nat) : State :=
  let log := s.red.log.map (fun (x : IngEntry) => if x.msgId = some id then { x with mirrored := true } else x)
  let ctxs := s.red.ctxs.map (fun (x : Ctx) => { x with commitMsg := x.commitMsg.map (fun l => l.filter (fun i => i ≠ id)) })
  { s with red := { s.red with log := log, ctxs := ctxs } }

/-- A die's new incarnation is used once the mirror holds the next one. -/
def State.ackAdmit (s : State) (id d : Nat) : State :=
  if (s.die d).admitMsg = some id then (s.setDie d { s.die d with admitMsg := none }).sendAdmit d else s

/-- ALT_BUDDY has acknowledged one more of the full mirror contents (R397). -/
def State.ackAlt (s : State) (id : Nat) : State :=
  let left := s.cnp.altPending.filter (fun i => i ≠ id)
  if left.length = s.cnp.altPending.length then s
  else
    let s := { s with cnp := { s.cnp with altPending := left, altAcked := left.isEmpty } }
    if left.isEmpty then (List.range 65).foldl (fun s d => s.advanceAck d) (s.wr BX_CNP_FAB_STS_UNMIRRORED 0 0) else s

/-- What follows from the acknowledgement of a mirror item: the snapshot counts as held, an incarnation is used, a record's commit is
free, ALT_BUDDY holds the contents. -/
def State.mirrorAcked (s : State) (id : Nat) : State :=
  let dies := (s.red.log.filter (fun (x : IngEntry) => x.msgId = some id)).map (fun (x : IngEntry) => x.die)
  let s := dies.foldl (fun s d => s.advanceAck d) (s.ackItems id)
  ((List.range 65).foldl (fun s d => s.ackAdmit id d) s).ackAlt id

/-- E2E_ACK_RECEIVE: the end-to-end acknowledgement of one of this BX64's messages. -/
def execE2eAckReceive (q msgId : Nat) (s : State) : Host.Outcome State Fault Refusal :=
  let s := s.consume (.canopy q) 4 0x13
  let held := s.cnp.e2e.any (fun (m : E2E) => m.msgId = msgId)
  let s := { s with cnp := { s.cnp with e2e := s.cnp.e2e.filter (fun (m : E2E) => m.msgId ≠ msgId) } }
  done (if held then s.mirrorAcked msgId else s)

/-! ## The mirror (R396) -/

/-- src is a ward of this BX64: it names it BUDDY, or ALT_BUDDY once its BUDDY is lost. -/
def State.isWard (s : State) (src : Nat) : Bool :=
  match s.treeOf src with
  | none => false
  | some e => e.buddy = s.agg || (!e.altNone && e.altBuddy = s.agg && s.isLost e.buddy)

/-- Two items fill the same place of a mirror: the later replaces the earlier. -/
def MirrorItem.same : MirrorItem → MirrorItem → Bool
  | .snapshot d e _, .snapshot d' e' _ => d = d' && e = e'
  | .record e v _ _, .record e' v' _ _ => e = e' && v = v'
  | .nextInc d _, .nextInc d' _ => d = d'
  | .state d _ _ _ _, .state d' _ _ _ _ => d = d'
  | .group g, .group g' => g.home = g'.home && g.num = g'.num
  | .keptPartial a p, .keptPartial b p' => a = b && p.epoch = p'.epoch && p.origin = p'.origin && p.partSeq = p'.partSeq
  | _, _ => false

/-- An item is obsolete once its epoch has committed; a committed record stays for the succession (R48). -/
def State.itemObsolete (s : State) (m : MirrorItem) : Bool :=
  match m with
  | .snapshot _ e _ => s.committed (e + 1)
  | .keptPartial _ p => s.committed p.epoch
  | .record e _ _ _ => s.committed e && decide (e + s.window ≤ s.rd BX_EPC_STATE_WATERMARK)
  | _ => false

/-- MIRROR_RECEIVE: an item from a ward; a record is acknowledged only when this BX64's own CRC of it is right (R225). A BX64 that has
decided a ward lost takes and acknowledges nothing more from it. -/
def execMirrorReceive (q src msgId : Nat) (m : MirrorItem) (s : State) : Host.Outcome State Fault Refusal :=
  let s := s.consume (.canopy q) 1 4
  let good : Bool := match m with
    | .record _ _ _ b => recCrcOk b
    | _ => true
  if ¬ s.isWard src then done (s.viol (.canopy q) 10)
  else if s.isLost src ∨ ¬ good then done s
  else
    let (fresh, s) := s.e2eTake src msgId
    if ¬ fresh then done s
    else
      let items := (((s.cnp.mirrors.find? src).getD []).filter (fun x => !x.same m && !s.itemObsolete x)) ++ [m]
      done { s with cnp := { s.cnp with mirrors := s.cnp.mirrors.set src items } }

/-! ## Heartbeats and loss (R398) -/

/-- Those this BX64 sends heartbeats to: buddy, parent, children, wards. -/
def State.heartbeatTo (s : State) : List Nat :=
  let w := (s.cfg.tree.filter (fun (e : TreeEntry) => e.agg ≠ s.agg && s.isWard e.agg)).map (fun (e : TreeEntry) => e.agg)
  let b := (s.mirrorHolder?).toList
  (b ++ s.parent?.toList ++ s.children ++ w).eraseDups

/-- HEARTBEAT_SEND: every HB_US. -/
def execHeartbeatSend (s : State) : Host.Outcome State Fault Refusal :=
  if s.cnp.hbAt + max 1 (s.rd BX_CNP_CTRL_HB_US) * 1000 ≤ s.bxNs then
    let role := match s.rd BX_CNP_FAB_STS_ROLE with
      | 0 => if s.cnp.standIn = [] then 0 else 2
      | _ => 1
    let body := wordBytes [packFields [(32, 32, s.rd BX_CNP_IDENT_BOOT), (30, 2, role)], s.bxEpoch * 65536, s.rd BX_EPC_STATE_WATERMARK * 65536]
    let s := { s with cnp := { s.cnp with hbAt := s.bxNs } }
    done (s.heartbeatTo.foldl (fun s a => s.sendMsg 4 0x12 2 a body) s)
  else done s

/-- HEARTBEAT_RECEIVE: the sender is alive. -/
def execHeartbeatReceive (q src boot role epoch wm : Nat) (s : State) : Host.Outcome State Fault Refusal :=
  let s := (s.consume (.canopy q) 4 0x12).noticeBoot src boot
  done (s.setPeer src { s.peer src with lastHeard := s.bxNs, boot := boot, role := role, epoch := epoch, watermark := wm })

/-- LOST_US as stored: not below four heartbeats. -/
def State.lostUs (s : State) : Nat := max (s.rd BX_CNP_CTRL_LOST_US) (4 * max 1 (s.rd BX_CNP_CTRL_HB_US))

/-- PEER_LOST_DECLARE: nothing has been heard from ward a for LOST_US, or for twice that where this BX64 is its ALT_BUDDY and its BUDDY
is lost. -/
def execPeerLostDeclare (a : Nat) (s : State) : Host.Outcome State Fault Refusal :=
  match s.treeOf a with
  | none => done s
  | some e =>
    let mult := if e.buddy = s.agg then 1 else 2
    if s.isWard a ∧ a ≠ s.agg ∧ ¬ s.isLost a ∧ (s.peer a).lastHeard + mult * s.lostUs * 1000 ≤ s.bxNs then done (s.declareLost a) else done s

/-- PEER_LOST_RECEIVE: a PEER_LOST broadcast names BX64 a with its (BOOT, EPOCH) pair. -/
def execPeerLostReceive (a boot ep : Nat) (s : State) : Host.Outcome State Fault Refusal := done (s.takeLost a boot ep)

/-- PEER_BACK_RECEIVE. -/
def execPeerBackReceive (a boot ep : Nat) (s : State) : Host.Outcome State Fault Refusal :=
  let again : Bool := (s.peer a).lost && boot ≠ (s.peer a).vBoot && (s.portTo a).isNone
  let s := s.takeBack a boot ep
  done (if again ∧ ¬ s.isLost a then s.resendRejoined a else s)

/-- PEER_DECLARE (0x0607): aggregator; 0 LOST or 1 BACK. -/
def execPeerDeclare (c : Cap) (s : State) : Host.Outcome State Fault Refusal :=
  done (s.checked c 0x0607 c.isOp 2 (fun s =>
    if c.p 0 = s.agg ∨ 4095 < c.p 0 ∨ 1 < c.p 1 then s.reply c 0x0607 S_BADPARAM
    else
      let s := if c.p 1 = 0 then s.declareLost (c.p 0) else s.declareBack (c.p 0) (s.peer (c.p 0)).boot
      s.reply c 0x0607 S_OK))

/-! ## Firebreak (R404 to R407) -/

/-- A partition has a fence that has not been lifted. -/
def State.partHasFence (s : State) (p : Nat) : Bool := s.cnp.fences.any (fun (x : FenceRec) => x.partition && x.id = p && !x.lifted)

/-- FIREBREAK_FENCE (0x0604). -/
def execFirebreakFence (c : Cap) (s : State) : Host.Outcome State Fault Refusal :=
  done (s.checked c 0x0604 (c.isOp || c.isMctp) 1 (fun s =>
    let p := c.p 0
    let rootPart := (s.treeOf (s.rd BX_CNP_FAB_STS_ACT_ROOT)).map (fun (e : TreeEntry) => e.partition)
    if 63 < p then s.reply c 0x0604 S_BADPARAM
    else if rootPart = some p ∨ s.partHasFence p then s.reply c 0x0604 S_CONFLICT
    else
      let f := s.bxNs + s.rd BX_CNP_CTRL_FENCE_LEAD_US * 1000
      let fr : FenceRec := { partition := true, id := p, cause := 4, f := f }
      let s := { s with cnp := { s.cnp with fences := s.cnp.fences ++ [fr] } }
      let s := s.broadcastAlarm 0x20 (s.bxAlarm (fenceDetail true p 4) f)
      s.reply c 0x0604 S_OK [f]))

/-- What waits at a port that becomes FENCED is dropped and counted, but for TIME and FENCE and UNFENCE alarms (R406). -/
def State.dropFenced (s : State) (q : Nat) : State :=
  let stays (w : Nat × WaitFlit) : Bool := w.2.body.ty == 5 || fenceAlarm w.2.body.ty w.2.body.sub
  let drop := (s.link (.canopy q)).wait.filter (fun w => !stays w)
  let s := s.modLink (.canopy q) (fun l => { l with wait := l.wait.filter stays })
  drop.foldl (fun s w =>
    ((match w.2.fromPort with
      | some p => s.freeBuf p w.2.body.vc
      | none => s).bump BX_CNP_PORT_MISC_FENCED_DROP q).closeTx q w.2.body) s

/-- A fence asserts: of a partition, at the ports of its boundary. -/
def State.assertFence (s : State) (x : FenceRec) : State :=
  if x.partition then
    let s := s.wr BX_CNP_FENCE_FENCED 0 (s.rd BX_CNP_FENCE_FENCED ||| 2 ^ x.id)
    (List.range 24).foldl (fun s q => if s.rd BX_CNP_PORT_STS_PSTATE q = 2 ∧ s.crosses x.id q then (s.setPstate q 3).dropFenced q else s) s
  else s

/-- FENCE_INSTANT: every fence whose F has been reached asserts here. -/
def execFenceInstant (s : State) : Host.Outcome State Fault Refusal :=
  let due := s.cnp.fences.filter (fun (x : FenceRec) => !x.asserted && decide (x.f ≤ s.bxNs))
  let s := { s with cnp := { s.cnp with fences := s.cnp.fences.map (fun (x : FenceRec) => if x.f ≤ s.bxNs then { x with asserted := true } else x) } }
  done (due.foldl (fun s x => s.assertFence x) s)

/-- FIREBREAK_CLEAR (0x0605): partition; M. -/
def execFirebreakClear (c : Cap) (s : State) : Host.Outcome State Fault Refusal :=
  done (s.checked c 0x0605 c.isOp 2 (fun s =>
    let p := c.p 0
    let m := c.p 1
    if 63 < p then s.reply c 0x0605 S_BADPARAM
    else if ¬ s.partHasFence p then s.reply c 0x0605 S_CONFLICT
    else if m < s.liftEpoch then s.reply c 0x0605 S_NOTNOW
    else
      let s := { s with cnp := { s.cnp with fences := s.cnp.fences.map (fun (x : FenceRec) =>
        if x.partition ∧ x.id = p ∧ ¬ x.lifted then { x with lift := some m } else x) } }
      let s := s.broadcastAlarm 0x21 (s.bxAlarm (fenceDetail true p 4) ((s.schedOf m).open_ m))
      s.reply c 0x0605 S_OK))

/-- The local dies and the self-monitoring ZX40 that have been admitted. -/
def State.admittedDies (s : State) : List Nat := (List.range 64).filter (fun d => (s.die d).cur ≠ 0)

/-- A lifted die fence at its port. -/
def State.liftDie (s : State) (addr : Nat) : State :=
  if addr / 64 = s.agg then
    let d := addr % 64
    let s := s.setDie d { s.die d with fence := none, cause := 0, unfence := none }
    (s.wr BX_LKO_DIE_STATE d 0).wr BX_LKO_DIE_CAUSE d 0
  else s

/-- This BX64 rejoins at a boundary that opens (R34, R233, R407). -/
def State.rejoin (s : State) : State := (s.wr BX_EPC_STATE_WM_SYNCED 0 0)

/-- A lifted partition fence: ports open, dies of the partition get new incarnations, and those cut off rejoin. -/
def State.liftPart (s : State) (p : Nat) : State :=
  let inside : Bool := ((s.treeOf s.agg).map (fun (e : TreeEntry) => e.partition == p)).getD false
  let cut : Bool := !s.isRoot && (s.cnp.routes.find? (s.rd BX_CNP_FAB_STS_ACT_ROOT)).isNone
  let s := s.wr BX_CNP_FENCE_FENCED 0 ((List.range 64).foldl (fun w i =>
    if (s.rd BX_CNP_FENCE_FENCED).testBit i ∧ i ≠ p then w ||| 2 ^ i else w) 0)
  let s := (List.range 24).foldl (fun s q => if s.rd BX_CNP_PORT_STS_PSTATE q = 3 ∧ ¬ s.portFenced q then s.setPstate q 2 else s) s
  let s := if inside ∨ cut then s.rejoin else s
  if inside then
    let s := s.admittedDies.foldl (fun s d => s.assignInc d) s
    State.recomputeAll { s with red := { s.red with recomputeTo := some s.bxEpoch } }
  else s

/-- UNFENCE_INSTANT: at B(M) every fence to be lifted there is lifted. -/
def execUnfenceInstant (s : State) : Host.Outcome State Fault Refusal :=
  let isDue (x : FenceRec) : Bool := !x.lifted && (match x.lift with
    | some m => decide ((s.schedOf m).open_ m ≤ s.bxNs)
    | none => false)
  let due := s.cnp.fences.filter isDue
  let s := { s with cnp := { s.cnp with fences := s.cnp.fences.map (fun (x : FenceRec) => if isDue x then { x with lifted := true } else x) } }
  done (due.foldl (fun s (x : FenceRec) => if x.partition then s.liftPart x.id else s.liftDie x.id) s)

/-! ## Fabric opcodes (Table 13-13) -/

/-- CANOPY_IDENT_SET (0x0601): fleet ID; aggregator ID. -/
def execCanopyIdentSet (c : Cap) (s : State) : Host.Outcome State Fault Refusal :=
  done (s.checked c 0x0601 c.isOp 2 (fun s =>
    if (List.range 24).any (fun q => s.flag BX_CNP_PORT_STS_PSTATE q) then s.reply c 0x0601 S_NOTNOW
    else if 65535 < c.p 0 ∨ 4095 < c.p 1 then s.reply c 0x0601 S_BADPARAM
    else (((s.wr BX_CNP_IDENT_FLEET_ID 0 (c.p 0)).wr BX_CNP_IDENT_AGG_ID 0 (c.p 1)).wr BX_CNP_IDENT_ASSIGNED 0 1).reply c 0x0601 S_OK))

/-- CANOPY_PORT_CTRL (0x0602): port; HOLD; RETRAIN; ISOLATE; ALARM_LIMIT. -/
def execCanopyPortCtrl (c : Cap) (s : State) : Host.Outcome State Fault Refusal :=
  done (s.checked c 0x0602 c.isOp 5 (fun s =>
    let q := c.p 0
    if 23 < q then s.reply c 0x0602 S_BADPARAM
    else
      let s := s.wr BX_CNP_PORT_CTRL_ALARM_LIMIT q (c.p 4)
      let s := if s.flag BX_CNP_PORT_CTRL_HOLD q ≠ bitAt (c.p 1) 0 then s.setHold (.canopy q) (bitAt (c.p 1) 0) else s
      let s := if bitAt (c.p 2) 0 then s.retrain (.canopy q) else s
      let s := s.wr BX_CNP_PORT_CTRL_ISOLATE q (b2n (bitAt (c.p 3) 0))
      let s := if bitAt (c.p 3) 0 then (if 2 ≤ s.rd BX_CNP_PORT_STS_PSTATE q then s.setPstate q 1 else s) else s.openPort q
      s.reply c 0x0602 S_OK))

/-- CANOPY_TOPO_READ (0x0603): every LSA held, one after the other, at the DMA pointer; R0 their byte count. -/
def execCanopyTopoRead (c : Cap) (s : State) : Host.Outcome State Fault Refusal :=
  done (s.checked c 0x0603 c.isOp 1 (fun s =>
    let b := s.cnp.lsdb.flatMap lsaBytes
    s.reply c 0x0603 S_OK [b.length] 0 (some (c.p 0, b))))

/-- FABRIC_STATUS (0x0606): BX_CNP_FAB_STS, the acting root, parent and buddy. -/
def execFabricStatus (c : Cap) (s : State) : Host.Outcome State Fault Refusal :=
  done (s.checked c 0x0606 c.isOp 0 (fun s =>
    s.reply c 0x0606 S_OK [s.readReg .BX_CNP_FAB_STS, s.rd BX_CNP_FAB_STS_ACT_ROOT, s.rd BX_CNP_FAB_STS_ACT_PARENT, s.rd BX_CNP_FAB_STS_ACT_BUDDY]))

end Sys2Proof.Machine
end

