-- ==== Sys2Proof/Machine/Memory.lean ====
section
/-! DEFINITION. HBM (R414 to R419): its bytes, poison marks and regions; address spaces and translation (R420 to R423). -/
namespace Sys2Proof.Machine

/-! ## Bytes -/

/-- A byte of memory; one that is not listed is 0, as the Clearing's engines write it (R526). -/
def cellGet : List Host.Cell → Nat → Byte
  | [], _ => 0
  | (j, v) :: t, a => if j = a then v else if a < j then 0 else cellGet t a

/-- A byte written; a zero is not listed. -/
def cellSet : List Host.Cell → Nat → Byte → List Host.Cell
  | [], a, b => if b = 0 then [] else [(a, b)]
  | (j, v) :: t, a, b =>
    if a < j then (if b = 0 then (j, v) :: t else (a, b) :: (j, v) :: t)
    else if j = a then (if b = 0 then t else (a, b) :: t)
    else (j, v) :: cellSet t a b

/-- The canonical form of memory above an address: addresses strictly rising, no listed zero. -/
def cellsWf : Nat → List Host.Cell → Bool
  | _, [] => true
  | lo, (j, v) :: t => decide (lo ≤ j) && v != 0 && cellsWf (j + 1) t

/-- The canonical form of memory. -/
def Memory.wf (m : List Host.Cell) : Bool := cellsWf 0 m

/-- n bytes from an address. -/
def cellsRead (m : List Host.Cell) (a n : Nat) : Bytes := (List.range n).map (fun i => cellGet m (a + i))

/-- Bytes written from an address on. -/
def cellsWrite : List Host.Cell → Nat → Bytes → List Host.Cell
  | m, _, [] => m
  | m, a, b :: bs => cellsWrite (cellSet m a b) (a + 1) bs

/-- A range of bytes wiped with zeros. -/
def cellsWipe (m : List Host.Cell) (a n : Nat) : List Host.Cell := m.filter (fun (c : Host.Cell) => decide (c.1 < a) || decide (a + n ≤ c.1))

/-- The words an access of n bytes touches, and those it covers whole. -/
def wordsOf (a n : Nat) : List Nat := if n = 0 then [] else (List.range ((a + n - 1) / 8 - a / 8 + 1)).map (fun i => a / 8 + i)
def wordsWhole (a n : Nat) : List Nat := (wordsOf a n).filter (fun w => decide (a ≤ 8 * w) && decide (8 * w + 8 ≤ a + n))

/-- A list of marks with one more, in ascending order without repeats. -/
def addMark (l : List Nat) (w : Nat) : List Nat := if l.contains w then l else insertBy (fun x y => decide (x ≤ y)) w l

def State.setHbm (s : State) (h : Hbm) : State := { s with hbm := h }

/-- n bytes of HBM. -/
def State.hbmRead (s : State) (a n : Nat) : Bytes := cellsRead s.hbm.cells a n

/-- A word of the range is poisoned. -/
def State.hbmPoisoned (s : State) (a n : Nat) : Bool := (wordsOf a n).any (fun w => s.hbm.poison.contains w)

/-- Bytes written to HBM. A poisoned write marks every word it touches; a clean one clears the words it covers whole (R202). -/
def State.hbmWrite (s : State) (a : Nat) (bs : Bytes) (x : Bool := false) : State :=
  let p := if x then (wordsOf a bs.length).foldl addMark s.hbm.poison
    else s.hbm.poison.filter (fun w => !(wordsWhole a bs.length).contains w)
  s.setHbm { s.hbm with cells := cellsWrite s.hbm.cells a bs, poison := p }

/-- A range poisoned where it lies. -/
def State.hbmPoison (s : State) (a n : Nat) : State := s.setHbm { s.hbm with poison := (wordsOf a n).foldl addMark s.hbm.poison }

/-- A range wiped. -/
def State.hbmWipe (s : State) (a n : Nat) : State :=
  s.setHbm { s.hbm with cells := cellsWipe s.hbm.cells a n, poison := s.hbm.poison.filter (fun w => decide (8 * w < a) || decide (a + n ≤ 8 * w)) }

/-! ## Regions and partitions (R416, R419) -/

/-- Bytes of a granule, and granules of both stacks. -/
def granule : Nat := 2097152
def hbmGranules : Nat := 36864

/-- First granule of HBM region r, and the granule after the last region: the first of the tenant pool. -/
def State.regionBase (s : State) (r : Nat) : Nat := s.rd BX_MEM_REGION_BASE r
def State.poolBase (s : State) : Nat := s.rd BX_MEM_REGION_BASE 5 + s.rd BX_MEM_REGION_SIZE 5

/-- The smallest size of each region in granules (Table 14-1), for a given ILOG size. -/
def regionMin (r ilog : Nat) : Nat := [96, 160, 4 * ilog + 128, 1024, 128, 32].getD r 0

/-- Granules of a ledger of 2^log entries of 160 B. -/
def ledgerGranules (log : Nat) : Nat := ceilDiv (2 ^ log * 160) granule

/-- A partition holds a granule. -/
def State.partHolds (s : State) (t g : Nat) : Bool :=
  s.flag BX_MEM_PART_VALID t && decide (s.rd BX_MEM_PART_BASE t ≤ g) && decide (g < s.rd BX_MEM_PART_BASE t + s.rd BX_MEM_PART_COUNT t)

/-! ## Translation (R420 to R423) -/

/-- A translation: the PA with the page's VA, PA and size and the leaf's permissions, or the cause of Table 14-3. -/
inductive Xlate where
  | ok (pa : Nat) (e : TlbEntry)
  | fail (cause : Nat)
  deriving DecidableEq, Repr

/-- PA lies where R420 lets the space map. -/
def State.mayMap (s : State) (space pa : Nat) : Bool :=
  let g := pa / granule
  if space = 64 then decide (g < s.poolBase)
  else s.flag BX_MEM_PART_VALID space && decide (s.rd BX_MEM_PART_BASE space ≤ g) &&
    decide (g < s.rd BX_MEM_PART_BASE space + s.rd BX_MEM_PART_COUNT space - s.rd BX_MEM_PART_LEDGER space)

/-- An entry address lies in PTAB. -/
def State.inPtab (s : State) (a : Nat) : Bool :=
  decide (s.regionBase 0 * granule ≤ a) && decide (a + 8 ≤ (s.regionBase 0 + s.rd BX_MEM_REGION_SIZE 0) * granule)

/-- The entry at an address, or the cause of its first failing check: PTAB_RANGE, TABLE_POISON, RESERVED, INVALID. l1 tells the level. -/
def State.xlEntry (s : State) (l1 : Bool) (a : Nat) : Except Nat Nat :=
  if ¬ s.inPtab a then .error 1
  else if s.hbmPoisoned a 8 then .error 2
  else
    let e := leNat (s.hbmRead a 8)
    let ty := bits e 1 0
    let misaligned : Bool := ty = 2 && (if l1 then bits e 20 12 ≠ 0 else bits e 15 12 ≠ 0)
    if bits e 63 37 ≠ 0 ∨ bits e 11 4 ≠ 0 ∨ ty = 3 ∨ misaligned then .error 3
    else if ty = 0 then .error 4
    else .ok e

/-- Checks of a leaf: PERMISSION, then PARTITION. -/
def State.xlLeaf (s : State) (space va size e : Nat) (write : Bool) : Xlate :=
  let page := bits e 36 12 * 4096 / size * size
  let t : TlbEntry := { space := space, va := va / size * size, pa := page, size := size, rd := bitAt e 2, wr := bitAt e 3 }
  if ¬ (if write then t.wr else t.rd) then .fail 5
  else if ¬ s.mayMap space (page + va % size) then .fail 6
  else .ok (page + va % size) t

/-- The walk of both levels. -/
def State.walk (s : State) (space va : Nat) (write : Bool) : Xlate :=
  if ¬ s.flag BX_XLT_SPACE_EN space then .fail 1
  else
    let l1 := s.rd BX_XLT_SPACE_L1_BASE space * 4096 / 524288 * 524288
    match s.xlEntry true (l1 + 8 * bits va 36 21) with
    | .error c => .fail c
    | .ok e1 =>
      if bits e1 1 0 = 2 then s.xlLeaf space va granule e1 write
      else
        match s.xlEntry false (bits e1 36 12 * 4096 + 8 * bits va 20 12) with
        | .error c => .fail c
        | .ok e2 => s.xlLeaf space va (if bits e2 1 0 = 1 then 4096 else 65536) e2 write

/-- A translation fault is recorded (R422); an uncorrectable error in a table is a detection of mechanism 0x0B01. -/
def State.xlFault (s : State) (source space va cause : Nat) : State :=
  let s := (((s.wr BX_XLT_FAULT_CAUSE 0 cause).wr BX_XLT_FAULT_SOURCE 0 source).wr BX_XLT_FAULT_SPACE 0 space).wr BX_XLT_FAULT_VA 0 va
  let s := s.bump BX_XLT_CNT_FAULTS
  if cause = 2 then s.detect 0x0B01 11 source else s

/-- A translation through the TLB (R423): a hit uses the cached leaf; a miss walks and caches what succeeds, the oldest entry leaving a
full TLB. A failure is recorded. -/
def State.translate (s : State) (source space va : Nat) (write : Bool) : Except Nat Nat × State :=
  match s.hbm.tlb.find? (fun (t : TlbEntry) => t.space = space && t.va ≤ va && va < t.va + t.size) with
  | some t => if (if write then t.wr else t.rd) then (.ok (t.pa + (va - t.va)), s) else (.error 5, s.xlFault source space va 5)
  | none =>
    let s := s.bump BX_XLT_CNT_TLB_MISS
    match s.walk space va write with
    | .fail c => (.error c, s.xlFault source space va c)
    | .ok pa t => (.ok pa, s.setHbm { s.hbm with tlb := s.hbm.tlb.drop (s.hbm.tlb.length - 4095) ++ [t] })

/-- Entries of a space's range leave the TLB. -/
def State.tlbInval (s : State) (space va len : Nat) : State :=
  s.setHbm { s.hbm with tlb := s.hbm.tlb.filter (fun (t : TlbEntry) =>
    !(decide (t.space = space) && (decide (len = 0) || (decide (t.va < va + len) && decide (va < t.va + t.size))))) }

/-! ## Ranges of a space -/

/-- The pieces of a range, one to a 4 KiB page: VA and length. -/
def vaPieces (va n : Nat) : List (Nat × Nat) :=
  (List.range (if n = 0 then 0 else ceilDiv (va % 4096 + n) 4096)).map (fun i =>
    let a := max va ((va / 4096 + i) * 4096)
    (a, min (va + n) ((va / 4096 + i + 1) * 4096) - a))

/-- The physical pieces of a range, or the cause of the first translation that fails. -/
def State.vaRange (s : State) (source space va n : Nat) (write : Bool) : Except Nat (List (Nat × Nat)) × State :=
  (vaPieces va n).foldl (fun (a : Except Nat (List (Nat × Nat)) × State) p =>
    match a.1 with
    | .error c => (.error c, a.2)
    | .ok l =>
      let r := a.2.translate source space p.1 write
      match r.1 with
      | .error c => (.error c, r.2)
      | .ok pa => (.ok (l ++ [(pa, p.2)]), r.2)) (.ok [], s)

/-- The bytes of physical pieces, and whether one of their words is poisoned. -/
def State.readPieces (s : State) (ps : List (Nat × Nat)) : Bytes × Bool :=
  (ps.flatMap (fun p => s.hbmRead p.1 p.2), ps.any (fun p => s.hbmPoisoned p.1 p.2))

/-- Bytes written over physical pieces. -/
def State.writePieces (s : State) (ps : List (Nat × Nat)) (bs : Bytes) : State :=
  (ps.foldl (fun (a : State × Bytes) p => (a.1.hbmWrite p.1 (a.2.take p.2), a.2.drop p.2)) (s, bs)).1

/-! ## Opcodes and the scrub -/

/-- MEM_LAYOUT_SET (0x0701): six region sizes in granules, staged for the next Clearing. -/
def execMemLayoutSet (c : Cap) (s : State) : Host.Outcome State Fault Refusal :=
  done (s.checked c 0x0701 c.isOp 6 (fun s =>
    let sizes := (List.range 6).map c.p
    let small := (List.range 6).any (fun r => decide (c.p r < regionMin r (c.p 1)))
    let total := sizes.foldl (· + ·) 0
    let parts := (List.range 64).filter (fun t => s.flag BX_MEM_PART_VALID t)
    if small then s.reply c 0x0701 S_BADPARAM
    else if hbmGranules < total ∨ parts.any (fun t => decide (s.rd BX_MEM_PART_BASE t < total)) then s.reply c 0x0701 S_CONFLICT
    else ((List.range 6).foldl (fun s r => s.wr BX_MEM_REGION_NEXT_SIZE r (c.p r)) s).reply c 0x0701 S_OK))

/-- A tenant has an open job. -/
def State.jobOpen (s : State) (t : Nat) : Bool := s.gate.jobs.any (fun (e : Nat × Job) => e.2.tenant == t)

/-- A partition as it is to be: registers written, the granules that leave it wiped (R419). -/
def State.setPartition (s : State) (t base count : Nat) : State :=
  let old := if s.flag BX_MEM_PART_VALID t then (s.rd BX_MEM_PART_BASE t, s.rd BX_MEM_PART_COUNT t) else (0, 0)
  let leave := (List.range old.2).filter (fun i => !(decide (base ≤ old.1 + i) && decide (old.1 + i < base + count)))
  let s := leave.foldl (fun s i => s.hbmWipe ((old.1 + i) * granule) granule) s
  let s := s.bump BX_MEM_CNT_WIPED_GRANULES 0 leave.length
  let led := if count = 0 then 0 else ledgerGranules (s.gate.logs.getD t 16)
  (((s.wr BX_MEM_PART_VALID t (if count = 0 then 0 else 1)).wr BX_MEM_PART_BASE t (if count = 0 then 0 else base)).wr BX_MEM_PART_COUNT t
    count).wr BX_MEM_PART_LEDGER t led

/-- XLATE_INVAL (0x0703): space, VA, length; 0 for the whole space. Chunks are whole commands here, so no access is outstanding. -/
def execXlateInval (c : Cap) (s : State) : Host.Outcome State Fault Refusal :=
  done (s.checked c 0x0703 c.isOp 3 (fun s =>
    if 64 < c.p 0 then s.reply c 0x0703 S_BADPARAM else (s.tlbInval (c.p 0) (c.p 1) (c.p 2)).reply c 0x0703 S_OK))

/-- XLATE_PROBE (0x0704): space, VA, read or write; PA and page size, or S_XLATE with the cause. -/
def execXlateProbe (c : Cap) (s : State) : Host.Outcome State Fault Refusal :=
  done (s.checked c 0x0704 c.isOp 3 (fun s =>
    if 64 < c.p 0 ∨ 2 ^ 37 ≤ c.p 1 then s.reply c 0x0704 S_BADPARAM
    else match s.walk (c.p 0) (c.p 1) (c.p 2 ≠ 0) with
      | .ok pa t => s.reply c 0x0704 S_OK [pa, t.size]
      | .fail x => s.reply c 0x0704 S_XLATE [x]))

/-- Uncorrectable errors found on an HBM read: the words poisoned, counted, a detection of mechanism 0x0A01. The index of the detection is
not given: a free value. -/
def State.hbmError (s : State) (a : Nat) : State :=
  let (i, s) := s.draw 22
  ((s.hbmPoison (a / 8 * 8) 8).bump BX_MEM_ECC_UE).detect 0x0A01 10 i

end Sys2Proof.Machine
end

