-- ==== Sys2Proof/Machine/BxBlaze.lean ====
section
/-! DEFINITION. Blaze check units of BX64 (R201): one pass of a block through a unit, condemnation, and the loop of re-reads. Unit u of BX64
has register index 16 + u. -/
namespace Sys2Proof.Machine

/-- A block as an armed injector leaves it at a unit's input (R205): one bit of the word or of the data flipped. -/
def State.bxInject (s : State) (u : Nat) (b : BxBlock) : BxBlock × State :=
  match s.wtEvent (wtTarget 3 u) b.addr with
  | (none, s) => (b, s)
  | (some (act, arg), s) =>
    if act = wtCheck then ({ b with word := (b.word ^^^ 2 ^ (arg % 64)) }, s) else ({ b with data := flipBit b.data arg }, s)

/-- A condemned block (R190, R201): poisoned where it lies in HBM, a Canopy alarm, a record naming unit and block. -/
def State.bxCondemn (s : State) (u : Nat) (b : BxBlock) : State :=
  let s := match b.pa with
    | none => s
    | some a => if s.flag BLZ_CFG_POISON (16 + u) then s.hbmPoison a b.data.length else s
  let s := s.alarmUp 0x25 (s.bxAlarm u b.addr)
  s.signal { ty := 0x0605, source := 18, idx := u, detail := u, extra := b.addr }

/-- One pass of a block through a unit: its outcome, counted. A poisoned block is not classified and counted MALFORMED (Table 7-16). -/
def State.bxPass (s : State) (u : Nat) (b : BxBlock) : Nat × State :=
  let i := 16 + u
  let (b, s) := s.bxInject u b
  if b.poisoned then (blzMalformed, (s.blzCount i blzMalformed).blzLast i blzMalformed b.addr b.tag)
  else
    let o := s.blzJudge i b.data b.addr b.seq b.word
    let s := if blzUntyped b.word then s.bump BLZ_CNT1_MALFORMED i else s
    (o, (s.blzCount i o).blzLast i o b.addr b.tag)

/-- A unit at a write point forms the word of a block (R201), of a FMT byte. A poisoned block is not formed over. -/
def State.bxForm (s : State) (u fmt : Nat) (b : BxBlock) : State :=
  let i := 16 + u
  if ¬ s.flag BLZ_CFG_EN i then s
  else if b.poisoned then s.blzCount i blzMalformed
  else
    let w := s.blzForm i b.data b.addr b.seq fmt
    let s := (s.blzCount i blzReported).emit (.blazeWord u b.addr w)
    if blzUntyped w then s.bump BLZ_CNT1_MALFORMED i else s

/-- A unit judges a block from memory: CHECK_CORRUPT is re-read up to 2 times, then UNVERIFIED. What memory holds does not change
between the re-reads. -/
def State.bxJudge (s : State) (u : Nat) (b : BxBlock) : Nat × State :=
  if ¬ s.flag BLZ_CFG_EN (16 + u) then (blzOk, s)
  else
    let r := s.bxPass u b
    let r := if r.1 = blzCorrupt then r.2.bxPass u b else r
    let r := if r.1 = blzCorrupt then r.2.bxPass u b else r
    if r.1 = blzCorrupt then (blzUnverified, (r.2.blzCount (16 + u) blzUnverified).blzLast (16 + u) blzUnverified b.addr b.tag)
    else if r.1 = blzMismatch ∨ r.1 = blzStale then (r.1, r.2.bxCondemn u b)
    else r

end Sys2Proof.Machine
end

