-- ==== Sys2Proof/Machine/TraceStore.lean ====
section
/-! DEFINITION. The trace store (R430, R431), the codec (R432 to R435) and its rings (R436). -/
namespace Sys2Proof.Machine

/-! ## Streams (R430, R431) -/

def State.trs (s : State) (id : Nat) : TrsStream := s.hbm.trs.getD id {}

def State.setTrs (s : State) (id : Nat) (x : TrsStream) : State := s.setHbm { s.hbm with trs := s.hbm.trs.set id x }

/-- A stream records (BX_TRS_DIE_p_CFG). -/
def State.trsOn (s : State) (p k : Nat) : Bool :=
  if k < 8 then bitAt (s.rd BX_TRS_DIE_CFG_TRACE_EN p) k
  else if k = 8 then s.flag BX_TRS_DIE_CFG_DUMP_EN p
  else if k = 9 then s.flag BX_TRS_DIE_CFG_CTR_EN p
  else k = 10 && s.flag BX_TRS_DIE_CFG_GAUGE_EN p

/-- The sensor ID of gauge field f. -/
def State.gaugeSns (s : State) (f : Nat) : Nat :=
  s.rd ([BX_TRS_GAUGE_SNS_SNS0, BX_TRS_GAUGE_SNS_SNS1, BX_TRS_GAUGE_SNS_SNS2, BX_TRS_GAUGE_SNS_SNS3, BX_TRS_GAUGE_SNS_SNS4, BX_TRS_GAUGE_SNS_SNS5,
    BX_TRS_GAUGE_SNS_SNS6, BX_TRS_GAUGE_SNS_SNS7].getD f BX_TRS_GAUGE_SNS_SNS0)

/-- The bound of gauge field f. -/
def State.gaugeBound (s : State) (f : Nat) : Nat :=
  s.rd ([BX_TRS_GAUGE_BND_BOUND0, BX_TRS_GAUGE_BND_BOUND1, BX_TRS_GAUGE_BND_BOUND2, BX_TRS_GAUGE_BND_BOUND3].getD (f % 4) BX_TRS_GAUGE_BND_BOUND0) (f / 4)

/-- Fields of a gauge record. -/
def State.gaugeF (s : State) : Nat := 2 ^ s.rd BX_TRS_GAUGE_CFG_F_LOG2

/-- The open buffer of a stream closes (R431): a partial gauge block is padded with copies of its last record. -/
def State.closeBuf (s : State) (id : Nat) : State :=
  let x := s.trs id
  if x.open_ = [] then s
  else
    let g : Bool := id % 16 = 10
    let r := 2 * s.gaugeF
    let last := x.open_.drop (x.open_.length - r)
    let pad := if g then (List.replicate ((4096 - x.open_.length) / max 1 r) last).flatten else []
    let signed := (List.range s.gaugeF).foldl (fun a f => a + (if s.gaugeSns f < 0x40 then 2 ^ f else 0)) 0
    let b : ClosedBlk := {
      data := x.open_ ++ pad, inputLen := x.open_.length, epoch := s.bxEpoch, ns := s.bxNs, mode := if g then s.rd BX_TRS_GAUGE_CFG_MODE else 0,
      fLog2 := s.rd BX_TRS_GAUGE_CFG_F_LOG2, signed := signed, bounds := (List.range 8).map s.gaugeBound }
    s.setTrs id { x with open_ := [], closed := x.closed ++ [b] }

/-- Input is lost: counted, and owed a GAP entry. -/
def State.loseInput (s : State) (id n : Nat) : State :=
  let x := s.trs id
  (s.setTrs id { x with gapLost := x.gapLost + n }).bump BX_TRS_CNT0_INPUT_LOST 0 n

/-- A record is appended to a stream, or lost when both buffers hold closed blocks. -/
def State.appendRec (s : State) (id : Nat) (r : Bytes) : State :=
  let x := s.trs id
  if 2 ≤ x.closed.length then s.loseInput id r.length
  else
    let s := s.setTrs id { x with open_ := x.open_ ++ r, lastAppend := s.bxNs }
    if 4096 ≤ x.open_.length + r.length then s.closeBuf id else s

/-- A hang dump is appended: both halves or neither. -/
def State.appendDump (s : State) (id : Nat) (bs : Bytes) : State :=
  if (s.trs id).closed ≠ [] then s.loseInput id bs.length
  else (s.appendRec id (bs.take 4096)).appendRec id (bs.drop 4096)

/-- Input arrives for stream k of die p: discarded and counted while the stream is disabled. -/
def State.trsInput (s : State) (p k : Nat) (rs : List Bytes) : State :=
  if ¬ s.trsOn p k then s.bump BX_TRS_CNT1_DISABLED
  else if k = 8 then s.appendDump (p * 16 + 8) rs.flatten
  else rs.foldl (fun s r => s.appendRec (p * 16 + k) r) s

/-- The gauge record of a snapshot: a sensor whose STATUS is not 0b00 repeats the field's last value, 0 at first. -/
def State.gaugeInput (s : State) (p : Nat) (b : Bytes) : State :=
  if ¬ s.trsOn p 10 then s.bump BX_TRS_CNT1_DISABLED
  else
    let id := p * 16 + 10
    let (vs, s) := (List.range s.gaugeF).foldl (fun (acc : List Nat × State) f =>
      let w := snapSns b (acc.2.gaugeSns f)
      let held : Bool := bits w 31 30 ≠ 0 || 160 ≤ acc.2.gaugeSns f
      let v := if held then (acc.2.trs id).gauge.getD f 0 else bits w 15 0
      let t := if held then acc.2.bump BX_TRS_CNT1_GAUGE_HELD else acc.2
      (acc.1 ++ [v], t.setTrs id { t.trs id with gauge := (t.trs id).gauge.set f v })) ([], s)
    s.appendRec id (vs.flatMap (leBytes 2))

/-- Counter and gauge history of a committed epoch: each local die PRESENT whose snapshot is held (Table 14-6). -/
def State.trsHistory (s : State) (n : Nat) (present : Nat → Bool) : State :=
  ((s.red.log.filter (fun (x : IngEntry) => x.epoch = n)).filter (fun x => present x.die)).foldl (fun s x =>
    (s.trsInput x.die 9 [wordBytes ((List.range 256).map (snapLs x.bytes))]).gaugeInput x.die x.bytes) s

/-! ## The codec (R432 to R434) -/

/-- The stride of a stream (Table 14-6). -/
def strideOf (k fLog2 : Nat) : Nat := if k < 8 then 2 else if k = 9 then 256 else if k = 10 then max 1 (2 ^ fLog2 / 4) else 0

/-- Zigzag of a word: arithmetic shift of the signed word. -/
def zigzag (r : Nat) : Nat := ((r * 2) % 2 ^ 64) ^^^ (if r.testBit 63 then 2 ^ 64 - 1 else 0)

/-- Bits of a number needed, 0 for 0. -/
def bitLen (v : Nat) : Nat := if v = 0 then 0 else v.log2 + 1

/-- One group of a PACKED payload. -/
def packGroup (zs : List Nat) : Bytes :=
  let b := bitLen (zs.foldl max 0)
  let v := (List.range zs.length).foldl (fun a i => a + zs.getD i 0 * 2 ^ (b * i)) 0
  leBytes 1 b ++ leBytes (ceilDiv (b * zs.length) 8) v

/-- The PACKED payload of input words (R433). -/
def packedPayload (stride : Nat) (ws : List Nat) : Bytes :=
  let z := (List.range ws.length).map (fun i =>
    zigzag (if 0 < stride ∧ stride ≤ i then (ws.getD i 0 + 2 ^ 64 - ws.getD (i - stride) 0) % 2 ^ 64 else ws.getD i 0))
  (chunks 8 z).flatMap packGroup

/-- Rounds d / 2^s half away from zero. -/
def roundHalfAway (d : Int) (s : Nat) : Int :=
  let m := (2 * d.natAbs + 2 ^ s) / 2 ^ (s + 1)
  if d < 0 then -(m : Int) else m

/-- The codes of one field's values after the first at shift s: codes, and whether one clamped. k bits per code. -/
def fixedField (k s : Nat) (signed : Bool) (first : Int) (vs : List Int) : List Int × Bool :=
  let lim : Int := (2 ^ (k - 1) : Nat)
  let r := vs.foldl (fun (acc : List Int × Bool × Int) v =>
    let c0 := roundHalfAway (v - acc.2.2) s
    let c := clampInt (-lim) (lim - 1) c0
    let rec_ := acc.2.2 + c * (2 ^ s : Nat)
    let rec_ := if signed then clampInt (-32768) 32767 rec_ else clampInt 0 65535 rec_
    (acc.1 ++ [c], acc.2.1 || c ≠ c0, rec_)) ([], false, first)
  (r.1, r.2.1)

/-- The shift of a field: the smallest at which nothing clamps, else 15. -/
def fixedShift (k : Nat) (signed : Bool) (first : Int) (vs : List Int) : Nat :=
  ((List.range 16).find? (fun s => !(fixedField k s signed first vs).2)).getD 15

/-- A FIXED block (R434): the field table, the payload, the shifts and EXCEEDED bits. -/
def fixedBlock (b : ClosedBlk) : Bytes × Nat × Nat :=
  let k := 16 / 2 ^ b.mode
  let f := 2 ^ b.fLog2
  let sg (i : Nat) : Bool := b.signed.testBit i
  let raw := (List.range 2048).map (fun i => rdLe b.data (2 * i) 2)
  let val (i : Nat) : Int := if sg (i % f) then toSigned 16 (raw.getD i 0) else (raw.getD i 0 : Nat)
  let fields := (List.range f).map (fun j =>
    let vs := (List.range (2048 / f - 1)).map (fun i => val (j + (i + 1) * f))
    let sh := fixedShift k (sg j) (val j) vs
    let r := fixedField k sh (sg j) (val j) vs
    let ex : Bool := r.2 || (decide (0 < sh) && decide (b.bounds.getD j 0 < 2 ^ (sh - 1)))
    (0 :: r.1, sh, ex))
  let table := (List.range 8).flatMap (fun j => leBytes 2 (if j < f then raw.getD j 0 else 0))
  let code (i : Nat) : Nat := ofSigned k ((fields.getD (i % f) ([], 0, false)).1.getD (i / f) 0)
  let pay := (List.range (4096 / 2 ^ b.mode)).flatMap (fun n =>
    leBytes 1 ((List.range (8 / k)).foldl (fun a i => a + code (n * (8 / k) + i) * 2 ^ (k * i)) 0))
  (table ++ pay, (List.range f).foldl (fun a j => a + (fields.getD j ([], 0, false)).2.1 * 2 ^ (4 * j)) 0,
    (List.range f).foldl (fun a j => a + (if (fields.getD j ([], 0, false)).2.2 then 2 ^ j else 0)) 0)

/-- An output block (R432): its MODE of Table 14-7, its bytes and its EXCEEDED bits. -/
def codecBlock (stream seq : Nat) (b : ClosedBlk) : Nat × Bytes × Nat :=
  let st := strideOf (stream % 16) b.fLog2
  let hdr (mode ex sg fl aux : Nat) : Bytes :=
    wordBytes [packFields [(60, 4, mode), (50, 10, st), (48, 2, fl), (40, 8, ex), (32, 8, sg), (0, 13, b.inputLen)],
      packFields [(32, 32, seq), (0, 32, aux)]]
  if b.mode = 0 then
    let ws := leWords (padTo (ceilDiv b.inputLen 8 * 8) b.data)
    let p := packedPayload st ws
    if p.length ≤ b.inputLen then (1, hdr 1 0 0 0 p.length ++ p, 0) else (0, hdr 0 0 0 0 0 ++ b.data.take b.inputLen, 0)
  else
    let r := fixedBlock b
    (b.mode + 1, hdr (b.mode + 1) r.2.2 b.signed b.fLog2 r.2.1 ++ r.1, r.2.2)

/-! ## The rings (R436) -/

/-- Bytes of TRACE, its first address; entries of the index ring; 64 B units and first address of the block ring. -/
def State.trcBytes (s : State) : Nat := s.rd BX_MEM_REGION_SIZE 5 * granule
def State.trcBase (s : State) : Nat := s.regionBase 5 * granule
def State.idxCount (s : State) : Nat := s.trcBytes / 16 / 32
def State.blkUnits (s : State) : Nat := (s.trcBytes - s.trcBytes / 16) / 64
def State.blkAddr (s : State) (off : Nat) : Nat := s.trcBase + s.trcBytes / 16 + 64 * off

/-- The place of index entry n, and its four words. -/
def State.idxAddr (s : State) (n : Nat) : Nat := s.trcBase + 32 * (n % s.idxCount)
def State.idxWords (s : State) (n : Nat) : List Nat := leWords (s.hbmRead (s.idxAddr n) 32)

/-- No word of index entry n is poisoned: only then is what it says used (R202). -/
def State.idxGood (s : State) (n : Nat) : Bool := !s.hbmPoisoned (s.idxAddr n) 32

/-- Index entries written and not drained, oldest first. -/
def State.undrained (s : State) : List Nat :=
  let rd := s.rd BX_TRS_STS_DRAIN_RD
  let n := (s.rd BX_TRS_STS_IDX_WR + 2 ^ 32 - rd) % 2 ^ 32
  (List.range n).map (fun i => (rd + i) % 2 ^ 32)

/-- Fields of an entry (Table 14-9). -/
def idxKind (ws : List Nat) : Nat := bits (ws.getD 0 0) 4 1
def idxStream (ws : List Nat) : Nat := bits (ws.getD 0 0) 15 5
def idxOff (ws : List Nat) : Nat := bits (ws.getD 1 0) 63 32
def idxLen (ws : List Nat) : Nat := bits (ws.getD 1 0) 31 19

/-- The extents of the block ring in use: offset and length, in 64 B units. -/
def State.blkUsed (s : State) : List (Nat × Nat) :=
  ((s.undrained.filter s.idxGood).map s.idxWords).filterMap (fun ws => if idxKind ws = 15 then none else some (idxOff ws, ceilDiv (idxLen ws) 64))

/-- Where a block of n units goes: at the next offset if it is free there, else at the first free place after it around the ring, a
block never lying across the end. -/
def State.blkPlace (s : State) (n : Nat) : Option Nat :=
  let used := s.blkUsed
  let size := s.blkUnits
  let fits (o : Nat) : Bool := decide (o + n ≤ size) && used.all (fun u => decide (u.1 + u.2 ≤ o) || decide (o + n ≤ u.1))
  let cand := (used.map (fun u => u.1 + u.2)) ++ [0]
  let w := s.hbm.blkWr
  let cand := sortBy (fun a b => decide ((a + size - w) % max 1 size ≤ (b + size - w) % max 1 size)) cand
  (w :: cand).find? fits

/-- The index ring has room for one more entry. -/
def State.idxRoom (s : State) : Bool := decide (s.undrained.length < s.idxCount)

/-- An entry is written at IDX_WR. -/
def State.putIdx (s : State) (ws : List Nat) : State :=
  let n := s.rd BX_TRS_STS_IDX_WR
  (s.hbmWrite (s.idxAddr n) (wordBytes ws)).wr BX_TRS_STS_IDX_WR 0 ((n + 1) % 2 ^ 32)

/-- The words of an entry. -/
def idxEntry (epoch stream kind off len word ns : Nat) : List Nat :=
  [packFields [(16, 48, epoch), (5, 11, stream), (1, 4, kind)], packFields [(32, 32, off), (19, 13, len)], word, ns]

/-- The GAP entry a stream owes, once the index ring has room. -/
def State.putGap (s : State) (id : Nat) : State :=
  let x := s.trs id
  if x.gapLost = 0 ∨ ¬ s.idxRoom then s
  else (s.setTrs id { x with gapLost := 0 }).putIdx (idxEntry s.bxEpoch id 15 (min (2 ^ 32 - 1) x.gapLost) 0 0 s.bxNs)

/-- A block's entry rewritten in place as a GAP with a LOST. -/
def State.makeGap (s : State) (n lost : Nat) : State :=
  let ws := s.idxWords n
  s.hbmWrite (s.idxAddr n) (wordBytes [packFields [(5, 59, bits (ws.getD 0 0) 63 5), (1, 4, 15)], lost * 2 ^ 32, 0, ws.getD 3 0])

/-- The undrained entry that gives way to a block of n units, turned into a gap, whose LOST is a free value where the block's head reads poisoned; none when the block has its place or nothing may go. -/
def State.overwriteOne (s : State) (draining : Option Nat) (n : Nat) : Option State :=
  if (s.blkPlace n).isSome then none
  else
    (s.undrained.find? (fun e => s.idxGood e && idxKind (s.idxWords e) ≠ 15 && idxStream (s.idxWords e) % 16 ≠ 8 && draining ≠ some e)).map
      (fun e =>
        let a := s.blkAddr (idxOff (s.idxWords e))
        let (len, s) := if s.hbmPoisoned a 8 then s.draw 13 else (bits (rdLe (s.hbmRead a 8) 0 8) 12 0, s)
        (s.makeGap e len).bump BX_TRS_CNT1_DRAIN_LOST)

/-- OVERWRITE: undrained blocks are freed oldest first until n units fit; never a dump block, nor the block being drained. -/
def overwrite (draining : Option Nat) (n : Nat) : Nat → State → State
  | 0, s => s
  | k + 1, s =>
    match s.overwriteOne draining n with
    | none => s
    | some t => overwrite draining n k t

/-- The entry a TRACE_DRAIN is delivering: DRAIN_RD while a channel has such a descriptor in progress. -/
def State.draining (s : State) : Option Nat :=
  if s.hbm.chans.any (fun (e : Nat × DmaChan) => e.2.desc.any (fun (ws : List Nat) => bits (ws.getD 0 0) 63 60 == 3)) then
    some (s.rd BX_TRS_STS_DRAIN_RD) else none

/-- Room for a block of n units under TRS_CTRL.FULL OVERWRITE. -/
def State.makeRoom (s : State) (n : Nat) : State :=
  if s.flag BX_TRS_CTRL_FULL ∧ s.idxRoom then overwrite s.draining n (s.undrained.length + 1) s else s

/-- The place of a block of n units, none when the index ring or the block ring has no room. -/
def State.blkRoom (s : State) (n : Nat) : Option Nat := if s.idxRoom then s.blkPlace n else none

/-- A codec block for which the store has no room is lost to a gap of its stream. -/
def State.codecLost (s : State) (id : Nat) (b : ClosedBlk) : State :=
  let y := s.trs id
  ((s.setTrs id { y with gapLost := y.gapLost + b.inputLen }).bump BX_TRS_CNT1_FULL_LOST 0 b.inputLen).putGap id

/-- A codec block is written at unit o of the block ring, with its Blaze word and its index entry. -/
def State.codecPut (s : State) (id u : Nat) (poisoned : Bool) (seq : Nat) (b : ClosedBlk) (r : Nat × Bytes × Nat) (o : Nat) : State :=
  let n := ceilDiv r.2.1.length 64
  let a := s.blkAddr o
  let w := s.blzForm (16 + (16 + u % 8)) r.2.1 a seq 0x04
  let s := s.hbmWrite a (padTo (64 * n) r.2.1) poisoned
  let s := s.setHbm { s.hbm with blkWr := (o + n) % max 1 s.blkUnits }
  (s.putIdx (idxEntry b.epoch id r.1 o r.2.1.length w b.ns)).bump BX_TRS_CNT0_BLOCKS

/-- A codec block r (codec, bytes, inputs exceeded) of a stream's block b takes its place in the store, or is lost to a gap. -/
def State.codecStore (s : State) (id u : Nat) (poisoned : Bool) (seq : Nat) (b : ClosedBlk) (r : Nat × Bytes × Nat) : State :=
  let n := ceilDiv r.2.1.length 64
  (s.blkRoom n).elim (s.codecLost id b) (fun o => s.codecPut id u poisoned seq b r o)

/-- What a codec block counts before it is stored. -/
def State.codecCount (s : State) (poisoned : Bool) (r : Nat × Bytes × Nat) : State :=
  let s := s.bump BX_TRS_CNT1_EXCEEDED 0 (popcount 8 r.2.2)
  let s := if poisoned then s.bump BX_BLZ_PSN_CNT1_CODEC else s
  s.makeRoom (ceilDiv r.2.1.length 64)

/-- CODEC_BLOCK: the codec takes the oldest closed block of a stream and writes it with its index entry; u of units 16 to 23 forms its
Blaze word; poisoned tells that an input word read poisoned. -/
def execCodecBlock (id u : Nat) (poisoned : Bool) (s : State) : Host.Outcome State Fault Refusal :=
  let x := s.trs id
  match x.closed with
  | [] => done s
  | b :: rest =>
    let s := s.setTrs id { x with closed := rest, seq := (x.seq + 1) % 2 ^ 32 }
    let r := codecBlock id x.seq b
    done (((s.putGap id).codecCount poisoned r).codecStore id u poisoned x.seq b r)

/-- STAGING_FLUSH: the open buffer of a stream closes FLUSH_US after its last append. -/
def execStagingFlush (id : Nat) (s : State) : Host.Outcome State Fault Refusal :=
  if s.bxNs < (s.trs id).lastAppend + max 1 (s.rd BX_TRS_CTRL_FLUSH_US) * 1000 then done s else done (s.closeBuf id)

/-- The Heartwood record of a hang dump, naming the die (R99), from the dump's head (Table 3-9). -/
def dumpRec (p : Nat) (bs : Bytes) : HwRec :=
  let w := rdLe bs 8 8
  { ty := 0x0501, source := 0x40, idx := p, self := p = 64, die := bits w 31 14, inc := bits w 47 32, detail := bits w 7 0,
    stamp := rdLe bs 0 8 * 65536 + bits w 63 48 }

/-- TRACE_RECEIVE: a TRACE message of Stem port p: whole records of buffer sub, or a hang dump (SUB 8). -/
def execTraceReceive (p sub : Nat) (bs : Bytes) (s : State) : Host.Outcome State Fault Refusal :=
  let s := s.consume (.stem p) 2 sub
  if 8 < sub then done s
  else
    let s := if sub = 8 then s.signal (dumpRec p bs) else s
    done (s.trsInput p sub (if sub = 8 then [padTo 8192 bs] else chunks 16 bs))

/-- A gauge register of the store is written: every open gauge block closes under the old settings first (R434). -/
def State.closeGauges (s : State) : State :=
  (s.hbm.trs.filter (fun (e : Nat × TrsStream) => e.1 % 16 == 10)).foldl (fun s (e : Nat × TrsStream) => s.closeBuf e.1) s

/-- TRACE_STORE_SET (0x0520): what to write, 0 BX_TRS_CTRL, 1 GAUGE_CFG, 2 GAUGE_SNS, 3 and 4 GAUGE_BND0 and BND1, 5 BX_TRS_DIE_p_CFG; p;
the 64-bit word. Reserved bits set are a reserved value. -/
def execTraceStoreSet (c : Cap) (s : State) : Host.Outcome State Fault Refusal :=
  done (s.checked c 0x0520 c.isOp 3 (fun s =>
    let r : Reg := [Reg.BX_TRS_CTRL, .BX_TRS_GAUGE_CFG, .BX_TRS_GAUGE_SNS, .BX_TRS_GAUGE_BND, .BX_TRS_GAUGE_BND].getD (c.p 0) .BX_TRS_DIE_CFG
    let i := if c.p 0 = 4 then 1 else if c.p 0 = 5 then c.p 1 else 0
    let known := packFields ((Reg.fields r).map (fun (f : Fld) => (f.lo, f.width, bits (c.p 2) f.hi f.lo)))
    if 5 < c.p 0 ∨ (c.p 0 = 5 ∧ 64 < c.p 1) ∨ known ≠ c.p 2 then s.reply c 0x0520 S_BADPARAM
    else
      let s := if 1 ≤ c.p 0 ∧ c.p 0 ≤ 4 then s.closeGauges else s
      let w := if c.p 0 = 0 ∧ c.p 2 % 65536 = 0 then c.p 2 + 1 else c.p 2
      ((Reg.fields r).foldl (fun s (f : Fld) => s.wr f i (bits w f.hi f.lo)) s).reply c 0x0520 S_OK))

/-- TRACE_STORE_STATUS (0x0521). -/
def execTraceStoreStatus (c : Cap) (s : State) : Host.Outcome State Fault Refusal :=
  done (s.checked c 0x0521 c.isOp 0 (fun s =>
    s.reply c 0x0521 S_OK [s.readReg .BX_TRS_STS, s.readReg .BX_TRS_CNT0, s.readReg .BX_TRS_CNT1]))

end Sys2Proof.Machine
end

