-- ==== Sys2Proof/Machine/Dma.lean ====
section
/-! DEFINITION. DMA (R424 to R429), TRACE_DRAIN (R437), the BX64 Blaze commands (R201) and the patrol scrub (R415). -/
namespace Sys2Proof.Machine

/-! ## Channels and descriptors -/

def State.chan (s : State) (c : Nat) : DmaChan := s.hbm.chans.getD c {}

def State.setChan (s : State) (c : Nat) (x : DmaChan) : State := s.setHbm { s.hbm with chans := s.hbm.chans.set c x }

/-- Fields of a descriptor (Table 14-4). -/
def dOp (d : List Nat) : Nat := bits (d.getD 0 0) 63 60
def dIrq (d : List Nat) : Bool := bitAt (d.getD 0 0) 59
def dLen (d : List Nat) : Nat := bits (d.getD 0 0) 31 0
def dOff (d : List Nat) : Nat := bits (d.getD 3 0) 63 32
def dSetOff (d : List Nat) (o : Nat) : List Nat := d.set 3 (o % 2 ^ 32 * 2 ^ 32)

/-- A descriptor sends data to the host. -/
def dToHost (d : List Nat) : Bool := dOp d = 1 || dOp d = 3

/-- Ring size of a channel, and the host address of its descriptor at HEAD. -/
def State.dmaSize (s : State) (c : Nat) : Nat := 2 ^ s.rd BX_DMA_CH_CFG_RING_LOG2 c
def State.dmaSlot (s : State) (c : Nat) : Nat := s.rd BX_DMA_CH_RING_BASE c * 64 + 64 * s.rd BX_DMA_CH_STS_HEAD c

/-- STATE of an enabled channel that is not HALTED: RUN while descriptors wait, else IDLE. -/
def State.dmaSettle (s : State) (c : Nat) : State :=
  s.wr BX_DMA_CH_STS_STATE c (if s.rd BX_DMA_CH_STS_HEAD c = s.rd BX_DMA_CH_DB_TAIL c then 0 else 1)

/-- HEAD moves on to the next descriptor. -/
def State.dmaNext (s : State) (c : Nat) : State :=
  ((s.wr BX_DMA_CH_STS_HEAD c ((s.rd BX_DMA_CH_STS_HEAD c + 1) % s.dmaSize c)).setChan c {}).dmaSettle c

/-- Words 3 and 4 are written back into the ring, and the MSI-X sent if IRQ is set (vector 5 + c mod 11, Table 16-8). -/
def State.dmaComplete (s : State) (c : Nat) (d : List Nat) (off status cause va : Nat) : State :=
  let w3 := packFields [(32, 32, off), (28, 4, status), (27, 1, 1)]
  let w4 := packFields [(56, 8, cause), (0, 37, va)]
  let f := s.rd BX_DMA_CH_CFG_FUNC c
  let s := s.emit (.hostWrite f (s.dmaSlot c + 24) (wordBytes [w3, w4]))
  let s := if dIrq d then s.emit (.msix f (5 + c % 11)) else s
  (s.wr BX_DMA_CH_STS_LAST_STATUS c status).wr BX_DMA_CH_STS_OFFSET c off

/-- A descriptor ends in error and its channel halts (R428). -/
def State.dmaHalt (s : State) (c : Nat) (d : List Nat) (status : Nat) (cause : Nat := 0) (va : Nat := 0) : State :=
  let s := ((s.dmaComplete c d (dOff d) status cause va).wr BX_DMA_CH_STS_STATE c 2).bump BX_DMA_CNT_HALTS
  let s := s.setChan c { desc := some d }
  if status = 4 then (s.bump BX_DMA_CNT_HOST_ERRS).violation 4 8 11 c
  else if status = 5 then s.violation 4 7 11 c
  else if status = 2 then s.bump BX_BLZ_PSN_CNT0_DMA
  else s

/-- The descriptor ends with every byte moved. -/
def State.dmaOk (s : State) (c : Nat) (d : List Nat) : State := (s.dmaComplete c d (dOff d) 0 0 0).dmaNext c

/-- A descriptor breaks Table 14-4. -/
def State.dBad (s : State) (c : Nat) (d : List Nat) : Bool :=
  decide (3 < dOp d) || dLen d = 0 || bits (d.getD 0 0) 58 48 ≠ 0 || bits (d.getD 3 0) 26 0 ≠ 0 || bits (d.getD 4 0) 55 37 ≠ 0 ||
  (d.drop 5).any (fun w => w ≠ 0) || decide (2 ^ 37 ≤ d.getD 2 0) || (dOp d = 2 && decide (2 ^ 37 ≤ d.getD 1 0)) ||
  (dOp d = 3 && (d.getD 2 0 ≠ 0 || s.rd BX_DMA_CH_CFG_SPACE c ≠ 64 || s.rd BX_DMA_CH_CFG_FUNC c ≠ 0))

/-- The bytes host memory returns for a read, and whether a TLP of them is poisoned. -/
def hostRead (host : List HostSeg) (a n : Nat) : Option (Bytes × Bool) :=
  (host.find? (fun (g : HostSeg) => decide (g.addr ≤ a) && decide (a + n ≤ g.addr + g.bytes.length))).map
    (fun g => ((g.bytes.drop (a - g.addr)).take n, g.poisoned))

/-- Bytes of the next entry of TRACE_DRAIN with its block, none after the newest closed entry. -/
def State.drainSize (s : State) : Option Nat :=
  if s.rd BX_TRS_STS_DRAIN_RD = s.rd BX_TRS_STS_IDX_WR then none
  else if ¬ s.idxGood (s.rd BX_TRS_STS_DRAIN_RD) then some 32
  else
    let ws := s.idxWords (s.rd BX_TRS_STS_DRAIN_RD)
    some (32 + if idxKind ws = 15 then 0 else ceilDiv (idxLen ws) 64 * 64)

/-- Bytes of a descriptor's next chunk (R426); of TRACE_DRAIN one entry with its block. -/
def State.chunkLen (s : State) (d : List Nat) : Nat :=
  let rem := dLen d - dOff d
  let room (va : Nat) : Nat := 4096 - (va + dOff d) % 4096
  if dOp d = 3 then (match s.drainSize with
    | none => 0
    | some n => if rem < n then 0 else n)
  else if dOp d = 2 then min rem (min (room (d.getD 1 0)) (room (d.getD 2 0)))
  else min rem (room (d.getD 2 0))

/-! ## Arbitration (R427, R444) -/

/-- A channel waits for an engine: it is RUN, and a chunk that goes to the host has been released by the egress scheduler. -/
def State.dmaReady (s : State) (c : Nat) : Bool :=
  s.rd BX_DMA_CH_STS_STATE c = 1 &&
    (match (s.chan c).desc with
      | none => true
      | some d => !dToHost d || s.chunkLen d = 0 || (s.egs.grants.getD 24 []).contains c)

/-- Weighted round-robin over some channels, given the one served last and its count: it keeps its turn for WEIGHT chunks, then the next
one in ascending order follows. -/
def State.wrrPick (s : State) (last count : Nat) (ready : List Nat) : Option Nat :=
  if ready.contains last ∧ count < max 1 (s.rd BX_DMA_CH_CFG_WEIGHT last) then some last
  else (ready.filter (fun c => decide (last < c))).head? <|> ready.head?

/-- The BULK channel an engine takes its next chunk from, with the round-robin moved on. -/
def State.pickChan (s : State) : Option Nat × State :=
  match s.wrrPick s.hbm.wrrLast s.hbm.wrrCount ((List.range 120).filter s.dmaReady) with
  | none => (none, s)
  | some c => (some c, s.setHbm { s.hbm with wrrLast := c, wrrCount := if c = s.hbm.wrrLast then s.hbm.wrrCount + 1 else 1 })

/-- A released unit of a channel leaves. -/
def State.useGrant (s : State) (c : Nat) : State :=
  { s with egs := { s.egs with grants := s.egs.grants.set 24 ((s.egs.grants.getD 24 []).erase c) } }

/-! ## Chunks (R426) -/

/-- A chunk is complete: OFFSET advances, and the descriptor ends after its last chunk. -/
def State.chunkDone (s : State) (c : Nat) (d : List Nat) (n : Nat) : State :=
  let d := dSetOff d (dOff d + n)
  let s := (s.setChan c { desc := some d }).wr BX_DMA_CH_STS_OFFSET c (dOff d)
  if dLen d ≤ dOff d then s.dmaOk c d else s

/-- A VA of the descriptor is translated, or the descriptor ends in XLATE or MALFORMED. -/
def State.dmaVa (s : State) (c : Nat) (va : Nat) (write : Bool) : Except (Nat × Nat) Nat × State :=
  if 2 ^ 37 ≤ va then (.error (5, 0), s)
  else
    let r := s.translate c (s.rd BX_DMA_CH_CFG_SPACE c) va write
    match r.1 with
    | .error x => (.error (1, x), r.2)
    | .ok pa => (.ok pa, r.2)

/-- H2D: bytes of host memory into BX64 memory. -/
def State.chunkH2d (s : State) (c : Nat) (d : List Nat) (n : Nat) (host : List HostSeg) : State :=
  let va := d.getD 2 0 + dOff d
  match s.dmaVa c va true with
  | (.error x, s) => s.dmaHalt c d x.1 x.2 va
  | (.ok pa, s) =>
    match hostRead host (d.getD 1 0 + dOff d) n with
    | none => s.dmaHalt c d 4
    | some (bs, x) => let s := s.hbmWrite pa bs x; if x then s.dmaHalt c d 4 else s.chunkDone c d n

/-- D2H: bytes of BX64 memory to the host; a poisoned word stops the channel before the chunk is sent. -/
def State.chunkD2h (s : State) (c : Nat) (d : List Nat) (n : Nat) : State :=
  let va := d.getD 2 0 + dOff d
  match s.dmaVa c va false with
  | (.error x, s) => s.dmaHalt c d x.1 x.2 va
  | (.ok pa, s) =>
    if s.hbmPoisoned pa n then s.dmaHalt c d 2
    else (s.emit (.hostWrite (s.rd BX_DMA_CH_CFG_FUNC c) (d.getD 1 0 + dOff d) (s.hbmRead pa n))).chunkDone c d n

/-- COPY: within a space. -/
def State.chunkCopy (s : State) (c : Nat) (d : List Nat) (n : Nat) : State :=
  let va1 := d.getD 1 0 + dOff d
  let va2 := d.getD 2 0 + dOff d
  match s.dmaVa c va1 false with
  | (.error x, s) => s.dmaHalt c d x.1 x.2 va1
  | (.ok pa1, s) =>
    match s.dmaVa c va2 true with
    | (.error x, s) => s.dmaHalt c d x.1 x.2 va2
    | (.ok pa2, s) =>
      if s.hbmPoisoned pa1 n then s.dmaHalt c d 2 else (s.hbmWrite pa2 (s.hbmRead pa1 n)).chunkDone c d n

/-- One entry of TRACE_DRAIN with its block, checked by unit u (R437). -/
def State.drainEntry (s : State) (c : Nat) (d : List Nat) (n u : Nat) : State :=
  let rd := s.rd BX_TRS_STS_DRAIN_RD
  let ws := s.idxWords rd
  let gap : Bool := idxKind ws = 15
  let a := s.blkAddr (idxOff ws)
  let blk := s.hbmRead a (if gap then 0 else idxLen ws)
  if ¬ s.idxGood rd then s.dmaHalt c d 2
  else
    let b : BxBlock := {
      addr := a, seq := bits (rdLe blk 8 8) 63 32, word := ws.getD 2 0, data := blk, poisoned := s.hbmPoisoned a (idxLen ws), pa := some a }
    let r := if gap then (blzOk, s) else s.bxJudge u b
    if ¬ gap ∧ b.poisoned then r.2.dmaHalt c d 2
    else if r.1 = blzMismatch ∨ r.1 = blzStale then r.2.dmaHalt c d 3
    else
      let ws := if r.1 = blzUnverified then ws.set 0 (ws.getD 0 0 + 1) else ws
      let s := r.2.emit (.hostWrite 0 (d.getD 1 0 + dOff d) (wordBytes ws ++ padTo (n - 32) blk))
      let s := s.wr BX_TRS_STS_DRAIN_RD 0 ((rd + 1) % 2 ^ 32)
      let d := dSetOff d (dOff d + n)
      (s.setChan c { desc := some d }).wr BX_DMA_CH_STS_OFFSET c (dOff d)

/-- One chunk of a descriptor in progress. -/
def State.chunk (s : State) (c : Nat) (d : List Nat) (host : List HostSeg) (u : Nat) : State :=
  let n := s.chunkLen d
  if s.dBad c d then s.dmaHalt c d 5
  else if n = 0 then s.dmaOk c d
  else
    let s := if dToHost d then s.useGrant c else s
    match dOp d with
    | 0 => s.chunkH2d c d n host
    | 1 => s.chunkD2h c d n
    | 2 => s.chunkCopy c d n
    | _ => s.drainEntry c d n u

/-- DMA_CHUNK: an engine takes and moves one chunk. host is host memory as the engine's reads find it, deferred how many BULK chunks gave
way to ALARM chunks before it, u which of units 16 to 23 checks a trace block. A descriptor is read from the ring first; one that sends to
the host waits for its release. -/
def execDmaChunk (deferred : Nat) (host : List HostSeg) (u : Nat) (s : State) : Host.Outcome State Fault Refusal :=
  let s := s.bump BX_DMA_CNT_PREEMPTS 0 deferred
  match s.pickChan with
  | (none, s) => done s
  | (some c, s) =>
    match (s.chan c).desc with
    | some d => done (s.chunk c d host (16 + u % 8))
    | none =>
      match hostRead host (s.dmaSlot c) 64 with
      | none | some (_, true) => done (s.dmaHalt c [] 4)
      | some (bs, false) =>
        let d := leWords bs
        let s := (s.setChan c { desc := some d }).wr BX_DMA_CH_STS_OFFSET c (dOff d)
        if dToHost d ∧ ¬ s.dBad c d then done s else done (s.chunk c d host (16 + u % 8))

/-! ## Commands of channels -/

/-- DMA_DOORBELL: a write of BX_DMA_CH_c_DB.TAIL; one at or above the ring size is ignored (Table 17-14 row 6). -/
def execDmaDoorbell (c tail : Nat) (s : State) : Host.Outcome State Fault Refusal :=
  if 128 ≤ c then done s
  else if s.dmaSize c ≤ tail then done ((s.bump BX_VIOL_HOST_DB_RANGE).violation 4 6 11 c)
  else
    let s := s.wr BX_DMA_CH_DB_TAIL c tail
    done (if s.rd BX_DMA_CH_STS_STATE c ≤ 1 then s.dmaSettle c else s)

/-- DMA_CH_SET (0x0705): channel, EN, SPACE, FUNC, RING_BASE, RING_LOG2, WEIGHT. -/
def execDmaChSet (c : Cap) (s : State) : Host.Outcome State Fault Refusal :=
  done (s.checked c 0x0705 c.isOp 7 (fun s =>
    let ch := c.p 0
    let space := c.p 2
    let func := c.p 3
    if 128 ≤ ch then s.reply c 0x0705 S_BADPARAM
    else if 120 ≤ ch then s.reply c 0x0705 S_DENIED
    else if s.rd BX_DMA_CH_STS_STATE ch = 1 then s.reply c 0x0705 S_BUSY
    else if 64 < space ∨ 63 < func ∨ (func ≠ 0 ∧ space ≠ func) ∨ c.p 4 % 64 ≠ 0 ∨ c.p 5 < 4 ∨ 16 < c.p 5 ∨ 1 < c.p 1 ∨ 255 < c.p 6 then
      s.reply c 0x0705 S_BADPARAM
    else
      let s := (((s.wr BX_DMA_CH_CFG_EN ch (c.p 1)).wr BX_DMA_CH_CFG_SPACE ch space).wr BX_DMA_CH_CFG_FUNC ch func).wr BX_DMA_CH_RING_BASE ch
        (c.p 4 / 64)
      let s := (s.wr BX_DMA_CH_CFG_RING_LOG2 ch (c.p 5)).wr BX_DMA_CH_CFG_WEIGHT ch (max 1 (c.p 6))
      let s :=
        if c.p 1 = 0 then (s.setChan ch {}).wr BX_DMA_CH_STS_STATE ch 3
        else if s.rd BX_DMA_CH_STS_STATE ch = 2 then s
        else s.dmaSettle ch
      s.reply c 0x0705 S_OK))

/-- DMA_RESUME (0x0706): channel, RETRY 0 or SKIP 1. SKIP of a TRACE_DRAIN halted by Blaze rewrites the condemned block's entry as a GAP of
unknown length (R437). -/
def execDmaResume (c : Cap) (s : State) : Host.Outcome State Fault Refusal :=
  done (s.checked c 0x0706 c.isOp 2 (fun s =>
    let ch := c.p 0
    if 128 ≤ ch ∨ 1 < c.p 1 then s.reply c 0x0706 S_BADPARAM
    else if s.rd BX_DMA_CH_STS_STATE ch ≠ 2 then s.reply c 0x0706 S_CONFLICT
    else if c.p 1 = 0 then ((s.setChan ch {}).wr BX_DMA_CH_STS_STATE ch 1).reply c 0x0706 S_OK
    else
      let trace : Bool := s.rd BX_DMA_CH_STS_LAST_STATUS ch = 3 && (s.chan ch).desc.any (fun (d : List Nat) => dOp d == 3)
      let s := if trace then s.makeGap (s.rd BX_TRS_STS_DRAIN_RD) (2 ^ 32 - 1) else s
      (s.dmaNext ch).reply c 0x0706 S_OK))

/-- DMA_STATUS (0x0707). -/
def execDmaStatus (c : Cap) (s : State) : Host.Outcome State Fault Refusal :=
  done (s.checked c 0x0707 c.isOp 1 (fun s =>
    if 128 ≤ c.p 0 then s.reply c 0x0707 S_BADPARAM
    else s.reply c 0x0707 S_OK [s.readReg .BX_DMA_CH_CFG (c.p 0), s.readReg .BX_DMA_CH_STS (c.p 0)]))

/-! ## Blaze units of BX64 (R201) -/

/-- A unit reports a block to the consumer of its path (Table 7-6): the job of the replay context, that of the bank being loaded where the block is
one of its (units 0 to 15), or the DMA channel (24 to 31). -/
def State.bxReport (s : State) (u outcome : Nat) (b : BxBlock) : State :=
  let bad : Bool := outcome = blzMismatch || outcome = blzStale
  if u < 16 then
    match s.rpl.ctxs.find? b.owner with
    | none => s
    | some x =>
      let mark (j : RplJob) : RplJob := { j with blaze := j.blaze || bad, unverified := j.unverified || decide (outcome = blzUnverified) }
      { s with rpl := { s.rpl with ctxs := s.rpl.ctxs.set b.owner (if b.loading then { x with other := x.other.map mark } else { x with run := x.run.map mark }) } }
  else if 24 ≤ u ∧ bad ∧ s.rd BX_DMA_CH_STS_STATE b.owner = 1 then
    match (s.chan b.owner).desc with
    | none => s
    | some d => s.dmaHalt b.owner d 3
  else s

/-- The outcome of a pass acts: CHECK_CORRUPT is re-read, a condemned block is handled, and the consumer told. -/
def State.bxOutcome (s : State) (u outcome tries : Nat) (b : BxBlock) : State :=
  if outcome = blzCorrupt then
    if tries < 2 then (s.setHbm { s.hbm with reread := s.hbm.reread.set u (b, tries + 1) }).emit (.reread u b.addr)
    else ((s.blzCount (16 + u) blzUnverified).blzLast (16 + u) blzUnverified b.addr b.tag).bxReport u blzUnverified b
  else
    let s := if outcome = blzMismatch ∨ outcome = blzStale then s.bxCondemn u b else s
    s.bxReport u outcome b

/-- BX_BLAZE_CHECK: unit u, in service, checks a block passing its point, or forms its word where form is given: the FMT byte of a write
point. -/
def execBxBlazeCheck (u : Nat) (form : Option Nat) (b : BxBlock) (s : State) : Host.Outcome State Fault Refusal :=
  if 32 ≤ u ∨ ¬ s.flag BLZ_CFG_EN (16 + u) then done s
  else
    match form with
    | some fmt => done (s.bxForm u fmt b)
    | none => let r := s.bxPass u b; done (r.2.bxOutcome u r.1 0 b)

/-- BLAZE_REREAD: a re-read of unit u completes with the word, sequence and data memory holds (Table 7-16). -/
def execBlazeReread (u : Nat) (w : BlzWordSeq) (data : Bytes) (poisoned : Bool) (s : State) : Host.Outcome State Fault Refusal :=
  match s.hbm.reread.find? u with
  | none => done s
  | some (b, tries) =>
    let b := { b with word := w.word % 2 ^ 64, seq := w.seq % 2 ^ 32, data := data, poisoned := poisoned }
    let s := s.setHbm { s.hbm with reread := s.hbm.reread.erase u }
    let r := s.bxPass u b
    done (r.2.bxOutcome u r.1 tries b)

/-- PATROL_SCRUB: one pass over HBM: how many words were corrected, the addresses of uncorrectable words, and the held snapshots (die and
epoch) among them, which leave the ingress log and are asked for again (R212). -/
def execPatrolScrub (corrected : Nat) (bad : List Nat) (snaps : List (Nat × Nat)) (s : State) : Host.Outcome State Fault Refusal :=
  let s := s.bump BX_MEM_ECC_CE 0 corrected
  let s := bad.foldl (fun s a => s.hbmError a) s
  done (snaps.foldl (fun s x => s.dropHeld x.1 x.2) s)

end Sys2Proof.Machine
end

