-- ==== Sys2Proof/Machine/Features.lean ====
section
/-! DEFINITION. The feature builder (R228 to R232), the correlator's outputs (R289) and the drift bins (R285 to R288). -/
namespace Sys2Proof.Machine

/-! ## Correlator outputs (R289) -/

/-- The groups of a die address in some settings. -/
def Settings.groupsOf (c : Settings) (addr : Nat) : List BarGroup := c.groups.filter (fun g => g.members.contains addr)

/-- A bound on epochs: at or below m, or any. -/
def upTo (m : Option Nat) (e : Nat) : Bool :=
  match m with
  | none => true
  | some m => decide (e ≤ m)

/-- The lag values of a die in a group after the epochs of a bound: the newest return, or the values it entered with. -/
def DieCorr.lagAt (x : DieCorr) (m : Option Nat) (g : BarGroup) : LagVal :=
  let es := x.lag.filter (fun y => y.home = g.home && y.group = g.num && upTo m y.epoch)
  match es.foldl (fun (b : Option LagEntry) y => match b with
    | none => some y
    | some z => if z.epoch ≤ y.epoch then some y else some z) none with
  | none => {}
  | some y => y.val

/-- What the bins of a channel mean under some settings (R288). -/
def Settings.binDef (c : Settings) (chan : Nat) : List Nat :=
  [c.fld BX_COR_BAND_T_FEAT 0, c.fld BX_COR_BAND_T_BASE 0, c.fld BX_COR_BAND_T_STEP 0, c.fld BX_COR_DRIFT_FEAT chan] ++
    (List.range 5).flatMap (fun i => [c.fld BX_COR_LOAD_LOAD_FEAT i, c.fld BX_COR_LOAD_LOAD_THR i])

/-- The last generation, of a list from the oldest on, before what the bins of a channel mean changes for the first time. -/
def lastSame (chan : Nat) : List GenRec → Option Nat
  | a :: b :: t => if a.cfg.binDef chan ≠ b.cfg.binDef chan then some a.gen else lastSame chan (b :: t)
  | _ => none

/-- The generation under which bins of epoch n are past, none where the definition in force is that of the epoch. -/
def State.binsOf (s : State) (n chan : Nat) : Option Nat :=
  match s.genOf n with
  | none => none
  | some g => lastSame chan (g :: (s.ep.gens.takeWhile (fun x => x ≠ g)).reverse)

/-- The bins of a channel that a vector of epoch n updates (R306). -/
def State.bins (s : State) (d n chan : Nat) : SMap (Nat × Nat) :=
  match s.binsOf n chan with
  | none => (s.corDie d).drift.getD chan []
  | some g => (s.corDie d).past.getD (16 * g + chan) []

def State.setBins (s : State) (d n chan : Nat) (b : SMap (Nat × Nat)) : State :=
  let x := s.corDie d
  match s.binsOf n chan with
  | none => s.setCorDie d { x with drift := x.drift.set chan b }
  | some g => s.setCorDie d { x with past := x.past.set (16 * g + chan) b }

/-- The populated bins of a channel for an epoch, with their e. -/
def State.popBins (s : State) (d n chan : Nat) : List (Nat × Nat) :=
  ((s.bins d n chan).filter (fun b => max 1 (s.rd BX_COR_CTRL_POP_MIN) ≤ b.2.1)).map (fun b => (b.1, b.2.2))

/-- The CORR outputs of a die that are not missing, after the epochs of a bound; LAG and DRIFT_MAX in units of 2^-16. -/
def State.corrOut (s : State) (d n : Nat) (m : Option Nat) : SMap Nat :=
  let x := s.corDie d
  let seen : Bool := match x.seenFrom with
    | none => false
    | some k => upTo m k
  if ¬ seen then []
  else
    let gs := if d = 64 then [] else (s.cfgOf n).groupsOf (s.dieAddr d)
    let vals := gs.map (x.lagAt m)
    let lag := if gs.isEmpty then [] else [(0, (vals.map (fun v => v.s)).foldl max 0), (2, (vals.map (fun v => v.late)).foldl (· + ·) 0)]
    let health := match m with
      | some k => x.healths.find? k
      | none => x.healths.getLast?.map (fun (e : Nat × Nat) => e.2)
    let marks := (List.range 8).foldl (fun w r =>
      if (s.reasons d).testBit r && upTo m (x.markSet.getD r 0) then w + 2 ^ r else w) 0
    let drift := (List.range 16).filterMap (fun c => match s.popBins d n c with
      | [] => none
      | bs => some (4 + c, (bs.map (fun b => b.2)).foldl max 0))
    lag ++ (health.map (fun h => (1, h))).toList ++ [(3, marks)] ++ drift

/-- A CORR output as a number. -/
def corrVal (idx v : Nat) : FVal := if idx = 0 ∨ 4 ≤ idx then .fin false v 65536 else .fin false v 1

/-! ## Features (Table 8-13, R230) -/

/-- A slot of the fleet view of a record: its settings and the offset of its result. -/
def slotIn (c : Settings) (slot : Nat) : Option (Slot × Nat) :=
  let r := (c.viewSlots 64).foldl (fun (a : Nat × Option (Slot × Nat)) t =>
    let len := match t.op with
      | 3 => 16 + (4 * t.buckets + 7) / 8 * 8
      | 4 | 5 => 16 + 16 * t.k
      | _ => 16
    (a.1 + len, if t.idx = slot then some (t, a.1) else a.2)) (48, none)
  r.2

/-- NVALID of a slot result. -/
def slotNvalid (r : Bytes) (off : Nat) : Nat := bits (rdLe r (off + 8) 8) 18 0

/-- The total of a SUM result. -/
def slotTotal (r : Bytes) (off : Nat) : Int := toSigned 96 (rdLe r off 8 + (bits (rdLe r (off + 8) 8) 63 32) * 2 ^ 64)

/-- MEAN of a slot. -/
def meanOf (c : Settings) (r : Bytes) (slot : Nat) : Option FVal :=
  match slotIn c slot with
  | none => none
  | some (t, off) =>
    let n := slotNvalid r off
    if t.op ≠ 0 ∨ n = 0 then none else some (fp64.div (fp64.fit (.ofInt (slotTotal r off))) (fp64.fit (.ofInt n)))

/-- A value is zero. -/
def FVal.isZero : FVal → Bool
  | .fin _ 0 _ => true
  | _ => false

/-- What a vector of a die reads: the settings, the record, the snapshots of N and N - 1, and the CORR outputs of both. -/
structure FeatIn where
  cfg : Settings
  rec_ : Bytes
  die : Nat
  addr : Nat
  now : Option Bytes
  before : Option Bytes
  corr : SMap Nat
  corrBefore : SMap Nat
  deriving DecidableEq, Repr

/-- An operand of epoch N, or of N - 1. -/
def FeatIn.operand (x : FeatIn) (prev : Bool) (kind idx : Nat) : Option FVal :=
  if kind = 6 then ((if prev then x.corrBefore else x.corr).find? idx).map (corrVal idx)
  else
    match if prev then x.before else x.now with
    | none => none
    | some b => (sourceVal (x.cfg.ctrOwned x.die) b kind idx).map (fun v => fp64.fit (.ofInt v))

/-- The result of a feature before scaling, none when it is missing. -/
def FeatIn.value (x : FeatIn) (f : Nat) : Option FVal :=
  let c := x.cfg
  let slot := c.fld BX_FB_MAP_SLOT f
  let a := x.operand false (c.fld BX_FB_MAP_A_KIND f) (c.fld BX_FB_MAP_A_INDEX f)
  let mean := meanOf c x.rec_ slot
  match c.fld BX_FB_MAP_OP f with
  | 1 => a
  | 2 => match a, x.operand true (c.fld BX_FB_MAP_A_KIND f) (c.fld BX_FB_MAP_A_INDEX f) with
    | some v, some w => if x.before.isSome then some (fp64.sub v w) else none
    | _, _ => none
  | 3 => match a, x.operand false (c.fld BX_FB_MAP_B_KIND f) (c.fld BX_FB_MAP_B_INDEX f) with
    | some v, some w => if w.isZero then none else some (fp64.div v w)
    | _, _ => none
  | 4 => mean
  | 5 => match a, mean with
    | some v, some m => some (fp64.sub v m)
    | _, _ => none
  | 6 => match a, mean with
    | some v, some m => if m.isZero then none else some (fp64.div v m)
    | _, _ => none
  | 7 => match slotIn c slot with
    | none => none
    | some (t, off) =>
      if slotNvalid x.rec_ off = 0 then none
      else if t.op = 0 then some (fp64.fit (.ofInt (slotTotal x.rec_ off)))
      else if t.op = 1 ∨ t.op = 2 then some (fp64.fit (.ofInt (toSigned 64 (rdLe x.rec_ off 8))))
      else none
  | 8 => match slotIn c slot with
    | none => none
    | some (t, off) =>
      if t.op = 4 ∨ t.op = 5 then
        let hit := (List.range (min t.k (slotNvalid x.rec_ off))).any (fun i => x.die ≠ 64 && bits (rdLe x.rec_ (off + 24 + 16 * i) 8) 63 46 = x.addr)
        some (.fin false (b2n hit) 1)
      else none
  | _ => none

/-- The FP32 pattern of a feature, none when it is missing. -/
def FeatIn.feature (x : FeatIn) (f : Nat) : Option Nat :=
  (x.value f).map (fun v => fp32.encode (fp64.scale v (toSigned 8 (x.cfg.fld BX_FB_MAP_SCALE f))))

/-! ## Vectors (Table 8-14) -/

/-- What the vector of a die reads for a record. -/
def State.featIn (s : State) (d : Nat) (r : Bytes) : FeatIn :=
  let n := recEpoch r
  let prevRec := match s.fleetRecord? (n - 1) with
    | some p => some p
    | none => (s.ep.records.find? (fun (x : RecEntry) => x.epoch = n - 1 ∧ x.view = 64)).map (fun (x : RecEntry) => x.bytes)
  let now := (s.held? d n).map (fun (x : IngEntry) => x.bytes)
  let old := s.held? d (n - 1)
  let before := match prevRec, now, old with
    | some p, some b, some x => if s.presentIn p d && x.inc = snapInc b then some x.bytes else none
    | _, _, _ => none
  let last := s.red.lastCorr.getD d (0, [])
  { cfg := s.cfgOf n, rec_ := r, die := d, addr := s.dieAddr d, now := now, before := before,
    corr := s.corrOut d n (if recCommitted r then some (n - 1) else s.red.lastVec),
    corrBefore := if last.1 + 1 = n then last.2 else [] }

/-- The bytes of a vector from its features. -/
def State.vectorBytes (s : State) (d : Nat) (r : Bytes) (fs : List (Option Nat)) : Bytes :=
  let n := fs.length
  let inc := ((s.held? d (recEpoch r)).map (fun (x : IngEntry) => x.inc)).getD (s.die d).cur
  wordBytes [packFields [(16, 48, recEpoch r), (15, 1, b2n (recCommitted r)), (0, 12, recRevision r)],
    packFields [(46, 18, s.dieAddr d), (30, 16, inc), (17, 13, n), (16, 1, b2n (d = 64))], recGen r <<< 48, 0] ++
    fs.flatMap (fun f => leBytes 4 (f.getD 0x7FC00000)) ++
    (List.range ((n + 63) / 64)).flatMap (fun i =>
      leBytes 8 ((List.range 64).foldl (fun w j => match fs[64 * i + j]? with
        | some none => w + 2 ^ j
        | _ => w) 0))

/-- Fields of a vector. -/
def vecEpoch (v : Bytes) : Nat := rdLe v 2 6
def vecCommitted (v : Bytes) : Bool := bitAt (rdLe v 0 2) 15
def vecNfeat (v : Bytes) : Nat := bits (rdLe v 8 8) 29 17
def vecGen (v : Bytes) : Nat := rdLe v 22 2
def vecInc (v : Bytes) : Nat := bits (rdLe v 8 8) 45 30
def vecMissing (v : Bytes) (f : Nat) : Bool := (rdLe v (32 + 4 * vecNfeat v + 8 * (f / 64)) 8).testBit (f % 64)

/-- A feature of a vector, none when it is missing or the vector has none of that number. -/
def vecFeat (v : Bytes) (f : Nat) : Option Nat :=
  if vecNfeat v ≤ f ∨ vecMissing v f then none else some (rdLe v (32 + 4 * f) 4)

/-! ## Drift (R285 to R287) -/

/-- The FP32 value of a feature for the bins, none when missing or NaN. -/
def vecVal (v : Bytes) (f : Nat) : Option FVal :=
  match (vecFeat v f).map fp32.decode with
  | some .nan | none => none
  | some x => some x

/-- The temperature band of a vector: clamp(floor((t - T_BASE) / T_STEP), 0, 15), in the units of the registers (log entry 21). -/
def Settings.band (c : Settings) (t : FVal) : Nat :=
  let x := fp64.sub t (.ofInt (toSigned 16 (c.fld BX_COR_BAND_T_BASE 0)))
  let y := fp64.div x (.ofInt (max 1 (c.fld BX_COR_BAND_T_STEP 0) : Nat))
  match y with
  | .inf neg => if neg then 0 else 15
  | .nan => 0
  | .fin .. => (clampInt 0 15 ((y.floor?).getD 0)).toNat

/-- The load signature of a vector, none when a load feature is missing or NaN. -/
def Settings.sig (c : Settings) (v : Bytes) : Option Nat :=
  (List.range 5).foldl (fun (a : Option Nat) i =>
    match a, vecVal v (c.fld BX_COR_LOAD_LOAD_FEAT i) with
    | some w, some x => some (if x.ge (fp32.decode (c.fld BX_COR_LOAD_LOAD_THR i)) then w + 2 ^ i else w)
    | _, _ => none) (some 0)

/-- q of R286: |x| in Q16.16, round half to even, saturating. -/
def driftQ (x : FVal) : Nat :=
  match x with
  | .fin _ n d => min (divRne (n * 65536) d) 0xFFFFFFFF
  | _ => 0xFFFFFFFF

/-- The evaluation of a channel (Table 10-2), by the generation of epoch n. -/
def State.driftEval (s : State) (d n chan : Nat) : State :=
  let thr := (s.cfgOf n).fld BX_COR_DRIFT_THR chan
  let pop := s.popBins d n chan
  let e := pop.filter (fun b => thr < b.2)
  let k := pop.filter (fun b => b.2 ≤ thr ∧ b.2 < thr / 2)
  if e = [] then s
  else if 4 ≤ k.length then
    let best := e.foldl (fun (a : Nat × Nat) b => if a.2 < b.2 then b else a) (0, 0)
    s.setDrift d 3 n chan (some best.1)
  else if 4 ≤ e.length then s.setDrift d 2 n chan none
  else s.bump BX_COR_CNT1_INSUFFICIENT

/-- One channel takes a committed vector. -/
def State.driftChan (s : State) (d : Nat) (v : Bytes) (chan : Nat) : State :=
  let c := s.cfgOf (vecEpoch v)
  if c.fld BX_COR_DRIFT_EN chan = 0 then s
  else
    match vecVal v (c.fld BX_COR_BAND_T_FEAT 0), c.sig v, vecVal v (c.fld BX_COR_DRIFT_FEAT chan) with
    | some t, some sg, some x =>
      let b := c.band t * 32 + sg
      let bins := s.bins d (vecEpoch v) chan
      let old := bins.getD b (0, 0)
      let q := driftQ x
      let e := if old.1 = 0 then q else ((old.2 : Int) + (((q : Int) - old.2) / ((2 ^ c.fld BX_COR_DRIFT_DSHIFT chan : Nat) : Int))).toNat
      (s.setBins d (vecEpoch v) chan (bins.set b (min (old.1 + 1) 65535, e))).driftEval d (vecEpoch v) chan
    | _, _, _ => s.bump BX_COR_CNT1_UNBINNED

/-- A generation changes what bins mean: those of the channels it affects start empty (R288), and the bins of before are kept, under the
generation that was in force, for its vectors that are still to come (R306). -/
def State.clearBins (s : State) (oldGen : Nat) (old new : Settings) : State :=
  let hit (c : Nat) : Bool := old.binDef c ≠ new.binDef c
  { s with cor := { s.cor with dies := s.cor.dies.map (fun d => (d.1, { d.2 with
    past := (d.2.drift.filter (fun x => hit x.1)).foldl (fun p x => p.set (16 * oldGen + x.1) x.2) d.2.past
    drift := d.2.drift.filter (fun x => !hit x.1) })) } }

/-- Once a vector of the generation in force is built, no vector of an earlier one follows. -/
def State.dropPast (s : State) (d n : Nat) : State :=
  if (s.genOf n).map (fun (g : GenRec) => g.gen) = s.liveGen?.map (fun (g : GenRec) => g.gen) then s.setCorDie d { s.corDie d with past := [] } else s

/-! ## VECTOR_BUILD -/

/-- The dies a vector is built for. -/
def State.vecDies (s : State) (r : Bytes) : List Nat := (List.range 65).filter (fun d => s.presentIn r d)

/-- One vector: built, counted, handed on; a committed one updates the drift bins and leaves its CORR outputs for the next. -/
def State.buildOne (s : State) (r : Bytes) (poisoned : List (Nat × Nat)) (d : Nat) : State :=
  let x := s.featIn d r
  let bad (f : Nat) : Bool := poisoned.contains (d, f)
  let nf := x.cfg.fld BX_FB_CTRL_NFEAT 0
  let fs := (List.range nf).map (fun f => if bad f then none else x.feature f)
  let v := s.vectorBytes d r fs
  let miss := (fs.filter (fun f => f = none)).length
  let s := ((s.bump BX_FB_CNT_VECTORS).bump BX_FB_CNT_MISSING 0 miss).bump BX_BLZ_PSN_CNT0_GROVE 0 ((List.range nf).filter bad).length
  let com := recCommitted r
  let s := { s with grv := { s.grv with vectors := s.grv.vectors.set (2 * d + b2n com) v } }
  if com then
    let s := { s with red := { s.red with lastCorr := s.red.lastCorr.set d (recEpoch r, x.corr) } }
    let s := s.dropPast d (recEpoch r)
    ((List.range 16).foldl (fun s c => s.driftChan d v c) s).mirrorDie d
  else s

/-- The feature map of an epoch uses a CORR operand. -/
def Settings.usesCorr (c : Settings) : Bool :=
  (List.range (c.fld BX_FB_CTRL_NFEAT 0)).any (fun f => c.fld BX_FB_MAP_A_KIND f = 6 || c.fld BX_FB_MAP_B_KIND f = 6)

/-- The processing of epoch n is complete for a die (R289): its lag returns have come, and where the die takes part in record n its vector
has been built and every stage has scored it. -/
def State.processed (s : State) (d n : Nat) : Bool :=
  let c := s.cfgOf n
  let began : Bool := match s.genOf n with
    | none => false
    | some g => decide (g.sched.nA ≤ n)
  !began || (d = 64 || (c.groupsOf (s.dieAddr d)).all (fun g => (s.corDie d).lag.any (fun y => y.home = g.home && y.group = g.num && n ≤ y.epoch))) &&
    (match s.fleetRecord? n, s.grv.vectors.find? (2 * d + 1) with
     | none, _ => true
     | some r, none => s.red.lastVec.isNone || !s.presentIn r d
     | some r, some v => if vecEpoch v ≠ n then !s.presentIn r d || decide (n < vecEpoch v) else (List.range 8).all (fun k => c.fld BX_GRV_SEL_EN k = 0 || s.grv.lastScored.find? (8 * d + k) = some n))

/-- VECTOR_BUILD: the vectors of the committed record of epoch n, or of the provisional revision held. poisoned names features of
dies whose words in the held snapshot of the epoch read poisoned: those are missing, and the snapshot is discarded (R212). -/
def execVectorBuild (n : Nat) (committed : Bool) (poisoned : List (Nat × Nat)) (s : State) : Host.Outcome State Fault Refusal :=
  let r? := if committed then s.fleetRecord? n
    else if s.flag BX_FB_CTRL_ON_PROV ∧ ¬ s.committed n then
      (s.ep.records.find? (fun (x : RecEntry) => x.epoch = n ∧ x.view = 64 ∧ ¬ x.committed)).map (fun (x : RecEntry) => x.bytes)
    else none
  match r? with
  | none => done s
  | some r =>
    let fresh : Bool := match s.red.lastVec with
      | none => true
      | some m => !committed || decide (m < n)
    let ready : Bool := !committed || !(s.cfgOf n).usesCorr || (s.vecDies r).all (fun d => s.processed d (n - 1))
    if fresh && ready then
      let s := (s.vecDies r).foldl (fun s d => s.buildOne r poisoned d) s
      let s := (poisoned.map (·.1)).foldl (fun s d => s.dropHeld d n) s
      let s := ((s.wr BX_FB_STS_EPOCH 0 n).wr BX_FB_STS_FORM 0 (b2n committed)).wr BX_FB_STS_REVISION 0 (recRevision r)
      done (if committed then { s with red := { s.red with lastVec := some n } } else s)
    else done s

end Sys2Proof.Machine
end

