-- ==== Sys2Proof/Machine/ReplayNum.lean ====
section
/-! DEFINITION. The arithmetic of the replay engine (R318 to R334): formats, rounding, the order tree, the epilogue, the APD and the
generator. Values are exact fractions; a result depends on the APD, the job descriptor and the operand bytes only (R310). -/
namespace Sys2Proof.Machine

/-! ## Formats (Table 11-5) -/

/-- NaN and infinity of a floating-point format: as IEEE 754, as E4M3 (one NaN, no infinity), or neither. -/
inductive FpKind where
  | ieee | e4m3 | finite
  deriving DecidableEq, Repr

/-- A format: floating point with exponent and mantissa bits and bias, or an integer. -/
inductive RFmt where
  | fp (e m bias : Nat) (kind : FpKind)
  | int (w : Nat) (signed : Bool)
  deriving DecidableEq, Repr

/-- The format of an FMT code of Table 7-2. -/
def rfmt : Nat → Option RFmt
  | 0x1 => some (.fp 11 52 1023 .ieee) | 0x2 => some (.fp 8 23 127 .ieee) | 0x3 => some (.fp 5 10 15 .ieee)
  | 0x4 => some (.fp 8 7 127 .ieee) | 0x5 => some (.fp 4 3 7 .e4m3) | 0x6 => some (.fp 5 2 15 .ieee)
  | 0x7 => some (.fp 3 2 3 .finite) | 0x8 => some (.fp 2 3 1 .finite) | 0x9 => some (.fp 2 1 1 .finite)
  | 0xA => some (.int 32 true) | 0xB => some (.int 16 true) | 0xC => some (.int 8 true) | 0xD => some (.int 8 false)
  | 0xE => some (.int 4 true)
  | _ => none

/-- The format of a code; a code that is none has no elements. -/
def rfmtD (c : Nat) : RFmt := (rfmt c).getD (.int 0 false)

/-- Bits of an element. -/
def RFmt.width : RFmt → Nat
  | .fp e m _ _ => 1 + e + m
  | .int w _ => w

def RFmt.isInt : RFmt → Bool
  | .fp .. => false
  | .int .. => true

/-- The least normal number's exponent. -/
def fpEmin (bias : Nat) : Int := 1 - (bias : Int)

/-- The exponent of max finite, and its mantissa field. -/
def fpEmax (e bias : Nat) (k : FpKind) : Int := ((2 ^ e : Nat) : Int) - (match k with
  | .ieee => 2
  | _ => 1) - (bias : Int)
def fpTop (m : Nat) (k : FpKind) : Nat := 2 ^ (m + 1) - (match k with
  | .e4m3 => 2
  | _ => 1)

/-- A magnitude as a fraction: k times 2^q. -/
def mag (k : Nat) (q : Int) : Nat × Nat := let p := pow2 q; (k * p.1, p.2)

/-- The value of an element's bits, a subnormal read as zero where DAZ is set (R320). -/
def RFmt.value (f : RFmt) (daz : Bool) (w : Nat) : FVal :=
  match f with
  | .int n signed => FVal.ofInt (if signed then toSigned n w else ((w % 2 ^ n : Nat) : Int))
  | .fp e m bias kind =>
    let neg := w.testBit (e + m)
    let ex := bits w (e + m - 1) m
    let fr := w % 2 ^ m
    let ones := 2 ^ e - 1
    if kind = .ieee ∧ ex = ones then (if fr = 0 then .inf neg else .nan)
    else if kind = .e4m3 ∧ ex = ones ∧ fr = 2 ^ m - 1 then .nan
    else if ex = 0 ∧ daz then .fin neg 0 1
    else
      let x := mag (if ex = 0 then fr else 2 ^ m + fr) (fpEmin bias + ((ex - 1 : Nat) : Int) - (m : Int))
      .fin neg x.1 x.2

/-! ## Rounding (R320, R334) -/

/-- How a result is rounded: mode of Table 11-6, SAT, FTZ, and the draw of SR. -/
structure Rnd where
  rm : Nat
  sat : Bool := false
  ftz : Bool := false
  d : Nat := 0
  deriving DecidableEq, Repr

/-- A magnitude num / den rounded to an integer under a mode. -/
def roundInt (r : Rnd) (neg : Bool) (num den : Nat) : Nat :=
  let q := num / den
  let x := num % den
  if x = 0 then q
  else
    match r.rm with
    | 0 => divRne num den
    | 1 => q
    | 2 => if neg then q else q + 1
    | 3 => if neg then q + 1 else q
    | 4 => if den ≤ 2 * x then q + 1 else q
    | _ => if 65536 ≤ x * 65536 / den + r.d then q + 1 else q

/-- num / den rounded to a multiple of 2^q: the multiple. -/
def roundAt (r : Rnd) (neg : Bool) (num den : Nat) (q : Int) : Nat := let p := pow2 q; roundInt r neg (num * p.2) (den * p.1)

/-- A magnitude beyond max finite, or an infinity, under the mode's rule. -/
def overflowed (e m bias : Nat) (kind : FpKind) (r : Rnd) (neg inf : Bool) : FVal :=
  let top := mag (fpTop m kind) (fpEmax e bias kind - (m : Int))
  let toMax : Bool := r.rm = 1 || (r.rm = 2 && neg) || (r.rm = 3 && !neg)
  if r.sat ∨ kind = .finite then .fin neg top.1 top.2
  else if kind = .e4m3 then .nan
  else if toMax ∧ ¬ inf then .fin neg top.1 top.2
  else .inf neg

/-- A value rounded to a floating-point format. A subnormal result is the exact value rounded once to the format's least quantum. -/
def fpRound (e m bias : Nat) (kind : FpKind) (r : Rnd) (v : FVal) : FVal :=
  match v with
  | .nan => .nan
  | .inf neg => overflowed e m bias kind r neg true
  | .fin neg num den =>
    if num = 0 then .fin neg 0 1
    else
      let ex := ilog2 num den
      let free := roundAt r neg num den (ex - (m : Int))
      let tiny : Bool := decide (ex < fpEmin bias) && !(ex = fpEmin bias - 1 && free = 2 ^ (m + 1))
      let q := max ex (fpEmin bias) - (m : Int)
      let k := if ex < fpEmin bias then roundAt r neg num den q else free
      let isTiny : Bool := if r.rm = 5 then decide (k < 2 ^ m) else tiny
      if r.ftz ∧ isTiny then .fin neg 0 1
      else
        let x := mag k q
        let top := mag (fpTop m kind) (fpEmax e bias kind - (m : Int))
        if top.1 * x.2 < x.1 * top.2 then overflowed e m bias kind r neg false else .fin neg x.1 x.2

/-- An integer that wraps or saturates into a format (R322). -/
def intFit (w : Nat) (signed sat : Bool) (i : Int) : Int :=
  let lo : Int := if signed then -((2 ^ (w - 1) : Nat) : Int) else 0
  let hi : Int := if signed then ((2 ^ (w - 1) : Nat) : Int) - 1 else ((2 ^ w : Nat) : Int) - 1
  if sat then clampInt lo hi i else if signed then toSigned w (ofSigned w i) else ((ofSigned w i : Nat) : Int)

/-- A value rounded to an integer format; a NaN becomes nonan. -/
def intRound (code w : Nat) (signed : Bool) (r : Rnd) (nonan : Nat) (v : FVal) : Int :=
  match v with
  | .nan => if signed then toSigned w nonan else ((nonan % 2 ^ w : Nat) : Int)
  | .inf neg => if r.sat then intFit w signed true (if neg then -((2 ^ 70 : Nat) : Int) else ((2 ^ 70 : Nat) : Int)) else intFit w signed false (Config.infToInt code neg)
  | .fin neg num den => intFit w signed r.sat (signedNum neg (roundInt r neg num den))

/-- The bits of a value of a floating-point format, exactly representable in it. -/
def fpBits (e m bias : Nat) (kind : FpKind) (nonan : Nat) (v : FVal) : Nat :=
  match v with
  | .nan => match kind with
    | .ieee => (2 ^ e - 1) * 2 ^ m + 2 ^ (m - 1)
    | .e4m3 => 2 ^ (e + m) - 1
    | .finite => nonan % 2 ^ (1 + e + m)
  | .inf neg => b2n neg * 2 ^ (e + m) + (2 ^ e - 1) * 2 ^ m
  | .fin neg num den =>
    let sign := b2n neg * 2 ^ (e + m)
    if num = 0 then sign
    else
      let ex := max (ilog2 num den) (fpEmin bias)
      let p := pow2 (ex - (m : Int))
      sign + (ex - fpEmin bias).toNat * 2 ^ m + num * p.2 / (den * p.1)

/-- A value converted to an output format: its bits (R320 to R322). -/
def RFmt.convert (f : RFmt) (code : Nat) (r : Rnd) (nonan : Nat) (v : FVal) : Nat :=
  match f with
  | .fp e m bias kind => fpBits e m bias kind nonan (fpRound e m bias kind r v)
  | .int w signed => ofSigned w (intRound code w signed r nonan v)

/-! ## Exact operations (R323, R325) -/

/-- An exact product. -/
def FVal.mul (x y : FVal) : FVal :=
  match x, y with
  | .nan, _ | _, .nan => .nan
  | .inf a, .inf b => .inf (a != b)
  | .inf a, .fin b n _ => if n = 0 then .nan else .inf (a != b)
  | .fin a n _, .inf b => if n = 0 then .nan else .inf (a != b)
  | .fin a n d, .fin b n' d' => .fin (a != b) (n * n') (d * d')

/-- x times 2^k, exactly. -/
def FVal.shift (x : FVal) (k : Int) : FVal :=
  match x with
  | .fin a n d => let p := pow2 k; .fin a (n * p.1) (d * p.2)
  | v => v

def FVal.isNegZero : FVal → Bool
  | .fin true 0 _ => true
  | _ => false

/-- An exact sum of several operands; the sign of a zero by R325. A sum of one operand is that operand. -/
def sumExact (rm : Nat) (xs : List FVal) : FVal :=
  let negInf := xs.any (fun x => x == .inf true)
  let posInf := xs.any (fun x => x == .inf false)
  if xs.any (fun x => x == .nan) ∨ (negInf ∧ posInf) then .nan
  else if posInf then .inf false
  else if negInf then .inf true
  else
    match xs with
    | [x] => x
    | _ =>
      let t : Int × Nat := xs.foldl (fun (a : Int × Nat) x =>
        match x with
        | .fin neg n d => (a.1 * d + signedNum neg n * a.2, a.2 * d)
        | _ => a) (0, 1)
      if t.1 = 0 then .fin (rm = 3 || xs.all FVal.isNegZero) 0 1 else .fin (t.1 < 0) t.1.natAbs t.2

/-- x < y on real values with infinities; false for a NaN (R240). -/
def FVal.lt (x y : FVal) : Bool := x != .nan && y != .nan && !(x.ge y)

/-! ## The APD (R329, Table 11-9) -/

/-- A piece of a function: LB and the coefficients C0 to C3. -/
structure Piece where
  lb : FVal
  c : List FVal
  deriving DecidableEq, Repr

/-- A function of the epilogue (R327). -/
structure RFun where
  fma : Bool
  loInf : FVal
  hiInf : FVal
  pieces : List Piece
  deriving DecidableEq, Repr

/-- An epilogue operation (R326): OP, FN, ARG0, ARG1. -/
structure EpiOp where
  op : Nat
  fn : Nat
  arg0 : Nat
  arg1 : Nat
  deriving DecidableEq, Repr

/-- An arithmetic profile descriptor. -/
structure Apd where
  /-- header words 0 to 7 -/
  h : List Nat
  codes : List Nat
  ops : List EpiOp
  funs : List RFun
  deriving DecidableEq, Repr

def Apd.f (a : Apd) (w hi lo : Nat) : Nat := bits (a.h.getD w 0) hi lo
def Apd.nanAny (a : Apd) : Bool := a.f 1 0 0 ≠ 0
def Apd.biasInit (a : Apd) : Bool := a.f 1 1 1 ≠ 0
def Apd.aFmt (a : Apd) : Nat := a.f 2 63 60
def Apd.aScaled (a : Apd) : Bool := a.f 2 59 59 ≠ 0
def Apd.bFmt (a : Apd) : Nat := a.f 2 57 54
def Apd.bScaled (a : Apd) : Bool := a.f 2 53 53 ≠ 0
def Apd.outFmt (a : Apd) : Nat := a.f 2 46 43
def Apd.outScaled (a : Apd) : Bool := a.f 2 42 42 ≠ 0
def Apd.nonan (a : Apd) : Nat := a.f 2 36 29
def Apd.accInt (a : Apd) : Bool := a.f 3 63 63 ≠ 0
def Apd.chunkLog (a : Apd) : Nat := a.f 4 63 60
def Apd.rows (a : Apd) : Nat := 2 ^ a.f 5 63 60
def Apd.cols (a : Apd) : Nat := 2 ^ a.f 5 59 56

/-- NSC, NFUNC and NEPI of an image, and the offsets of its sections. -/
def apdNsc (b : Bytes) : Nat := bits (rdLe b 0 8) 15 8
def apdNfunc (b : Bytes) : Nat := bits (rdLe b 0 8) 7 4
def apdNepi (b : Bytes) : Nat := bits (rdLe b 0 8) 3 0
def apdOpsAt (b : Bytes) : Nat := 64 + (4 * apdNsc b + 7) / 8 * 8

/-- An FP32 constant. -/
def constAt (b : Bytes) (off : Nat) : FVal := fp32.decode (rdLe b off 4)

/-- The functions from an offset on, and the offset after the last. -/
def parseFuns (b : Bytes) : Nat → Nat → List RFun × Nat
  | 0, off => ([], off)
  | k + 1, off =>
    let w := rdLe b off 8
    let n := bits w 63 56
    let ps := (List.range n).map (fun i => ({
      lb := constAt b (off + 16 + 24 * i), c := (List.range 4).map (fun j => constAt b (off + 16 + 24 * i + 4 + 4 * j)) } : Piece))
    let f : RFun := { fma := bitAt w 55, loInf := constAt b (off + 8), hiInf := constAt b (off + 12), pieces := ps }
    let r := parseFuns b k (off + 16 + 24 * n)
    (f :: r.1, r.2)

/-- The APD of an image. -/
def parseApd (b : Bytes) : Apd :=
  let o := apdOpsAt b
  { h := (List.range 8).map (fun i => rdLe b (8 * i) 8)
    codes := (List.range (apdNsc b)).map (fun i => rdLe b (64 + 4 * i) 4)
    ops := (List.range (apdNepi b)).map (fun i =>
      let w0 := rdLe b (o + 16 * i) 8
      let w1 := rdLe b (o + 16 * i + 8) 8
      { op := bits w0 63 60, fn := bits w0 59 57, arg0 := bits w1 63 32, arg1 := bits w1 31 0 })
    funs := (parseFuns b (apdNfunc b) (o + 16 * apdNepi b)).1 }

/-- The length an image's header gives its sections. -/
def apdLen (b : Bytes) : Nat := (parseFuns b (apdNfunc b) (apdOpsAt b + 16 * apdNepi b)).2

/-! ## The generator (R332) -/

def rotl32 (v n : Nat) : Nat := ((v <<< n) ||| (v >>> (32 - n))) % 2 ^ 32
def add32 (a b : Nat) : Nat := (a + b) % 2 ^ 32

/-- The state of the generator: x0 to x3 and the round's keys. -/
structure GenSt where
  x0 : Nat
  x1 : Nat
  x2 : Nat
  x3 : Nat
  k0 : Nat
  k1 : Nat

/-- Round r. -/
def genRound (g : GenSt) (r : Nat) : GenSt :=
  let x0 := add32 (add32 g.x0 g.x1) g.k0
  let x3 := rotl32 (g.x3 ^^^ x0) 13
  let x2 := add32 (add32 g.x2 x3) g.k1
  let x1 := rotl32 (g.x1 ^^^ x2) 9
  let x0 := add32 (add32 x0 x1) r
  let x3 := rotl32 (x3 ^^^ x0) 17
  let x2 := add32 x2 x3
  let x1 := rotl32 (x1 ^^^ x2) 5
  ⟨x0, x1, x2, x3, add32 g.k0 0x9e3779b9, add32 g.k1 0x6a09e667⟩

/-- The four output words of seed, step, block, stream and call. -/
def genOut (seed step block stream call : Nat) : List Nat :=
  let c : GenSt := ⟨call % 2 ^ 32, block % 2 ^ 32, step % 2 ^ 32, ((stream % 256) <<< 24) ||| bits step 47 32, seed % 2 ^ 32, bits seed 63 32⟩
  let g := (List.range 10).foldl genRound c
  [g.x0 ^^^ c.x0, g.x1 ^^^ c.x1, g.x2 ^^^ c.x2, g.x3 ^^^ c.x3]

/-! ## Jobs (Table 11-2) -/

def RplJob.w (j : RplJob) (i : Nat) : Nat := j.words.getD i 0
def RplJob.tag (j : RplJob) : Nat := bits (j.w 0) 63 48
def RplJob.slot (j : RplJob) : Nat := bits (j.w 0) 47 42
def RplJob.kind (j : RplJob) : Nat := bits (j.w 0) 41 40
def RplJob.prio (j : RplJob) : Nat := bits (j.w 0) 39 38
def RplJob.tenant (j : RplJob) : Nat := bits (j.w 0) 37 32
def RplJob.code (j : RplJob) : Nat := bits (j.w 0) 31 0
def RplJob.m (j : RplJob) : Nat := bits (j.w 2) 62 42
def RplJob.n (j : RplJob) : Nat := bits (j.w 2) 41 21
def RplJob.k (j : RplJob) : Nat := bits (j.w 2) 20 0

/-- The draw of an element in a stream (R333). -/
def RplJob.draw (j : RplJob) (a : Apd) (stream row col : Nat) : Nat :=
  let block := (bits (j.w 5) 63 32 + row / a.rows * ceilDiv j.n a.cols + col / a.cols) % 2 ^ 32
  let e := (row % a.rows) * a.cols + col % a.cols
  let out := genOut (j.w 3) (bits (j.w 4) 63 16) block stream (e / 8)
  let w := out.getD (e % 8 / 2) 0
  if e % 2 = 0 then w % 65536 else w / 65536

/-! ## Operands (R312) -/

/-- Element i of packed data, w bits each. -/
def elemAt (w : Nat) (b : Bytes) (i : Nat) : Nat := (rdLe b (w * i / 8) 9 >>> (w * i % 8)) % 2 ^ w

/-- Bytes of n elements, w bits each. -/
def dataBytes (w n : Nat) : Nat := ceilDiv (w * n) 8

/-- Bytes of a matrix: data, and one scale byte per 32 elements of a row where it is scaled. -/
def matBytes (w rows cols : Nat) (scaled : Bool) : Nat := dataBytes w (rows * cols) + (if scaled then rows * ceilDiv cols 32 else 0)

/-- The rows of a matrix that a job reads: their data, the bit the first element starts at, and their scales. -/
structure Mat where
  data : Bytes := []
  bit : Nat := 0
  scales : Bytes := []

/-- Bits of element i of a matrix. -/
def Mat.at_ (x : Mat) (w i : Nat) : Nat := (rdLe x.data ((x.bit + w * i) / 8) 9 >>> ((x.bit + w * i) % 8)) % 2 ^ w

/-- Element (i, j) of a matrix of some columns with its scale (R319, R323). -/
def Mat.elem (x : Mat) (f : RFmt) (daz scaled : Bool) (cols i j : Nat) : FVal :=
  let v := f.value daz (x.at_ f.width (i * cols + j))
  if ¬ scaled then v
  else
    let e := rdLe x.scales (i * ceilDiv cols 32 + j / 32) 1
    if e = 255 then .nan else v.shift ((e : Int) - 127)

/-- The operands of a job. -/
structure Operands where
  a : Mat
  b : Mat
  bias : Bytes
  scale : Bytes

/-! ## The order tree (R324) -/

/-- round_acc. -/
def Apd.acc (a : Apd) (v : FVal) : FVal :=
  if a.accInt then FVal.ofInt (intRound 0 (a.f 3 62 56) true { rm := a.f 3 45 43, sat := a.f 3 41 41 ≠ 0 } a.nonan v)
  else fpRound (a.f 3 55 52) (a.f 3 51 46) (2 ^ (a.f 3 55 52 - 1) - 1) .ieee { rm := a.f 3 45 43, ftz := a.f 3 42 42 ≠ 0 } v

/-- round_acc of an exact sum. -/
def Apd.add (a : Apd) (xs : List FVal) : FVal := a.acc (sumExact (a.f 3 45 43) xs)

/-- pw of R324; fuel bounds the depth. -/
def pairwise (add : FVal → FVal → FVal) : Nat → List FVal → FVal
  | _, [x] => x
  | 0, _ => .fin false 0 1
  | k + 1, l =>
    let h := 2 ^ (l.length - 1).log2
    add (pairwise add k (l.take h)) (pairwise add k (l.drop h))

/-- Leaves combined SERIAL or PAIRWISE. -/
def Apd.combine (a : Apd) (pair : Bool) (ls : List FVal) : FVal :=
  match ls with
  | [] => .fin false 0 1
  | x :: t => if pair then pairwise (fun u v => a.add [u, v]) ls.length ls else t.foldl (fun u v => a.add [u, v]) x

/-- One chunk of products. -/
def Apd.chunkSum (a : Apd) (ps : List FVal) : FVal :=
  match a.f 4 59 58 with
  | 0 => a.add ps
  | 1 => match ps with
    | [] => .fin false 0 1
    | p :: t => t.foldl (fun u v => a.add [u, v]) (a.acc p)
  | _ => a.combine true (ps.map a.acc)

/-- The sum of the products of an output element. -/
def Apd.orderTree (a : Apd) (ps : List FVal) (bias : Option FVal) : FVal :=
  let cs := (chunks (2 ^ a.chunkLog) ps).map a.chunkSum
  let slices := (chunks (ceilDiv cs.length (max 1 (a.f 4 55 48))) cs).map (a.combine (a.f 4 57 56 = 1))
  let leaves := (bias.map a.acc).toList ++ slices
  a.combine (a.f 4 47 46 = 1) leaves

/-! ## The epilogue (R326 to R328) -/

/-- A value rounded into EPI_FMT. -/
def Apd.epi (a : Apd) (v : FVal) : FVal :=
  let rm := a.f 4 43 41
  match a.f 4 45 44 with
  | 1 => fpRound 8 23 127 .ieee { rm := rm } v
  | 2 => fpRound 11 52 1023 .ieee { rm := rm } v
  | _ =>
    if a.accInt then FVal.ofInt (intRound 0 (a.f 3 62 56) true { rm := rm, sat := a.f 3 41 41 ≠ 0 } a.nonan v)
    else fpRound (a.f 3 55 52) (a.f 3 51 46) (2 ^ (a.f 3 55 52 - 1) - 1) .ieee { rm := rm } v

/-- The piece of a function that holds x: the last whose LB is at or below x, the first for anything below. -/
def RFun.piece (f : RFun) (x : FVal) : Piece :=
  ((f.pieces.drop 1).filter (fun p => x.ge p.lb)).getLast?.getD (f.pieces.headD { lb := .nan, c := [] })

/-- f_FN(x). -/
def Apd.func (a : Apd) (fn : Nat) (x : FVal) : FVal :=
  match a.funs[fn]?, x with
  | none, _ => .nan
  | _, .nan => .nan
  | some f, .inf true => a.epi f.loInf
  | some f, .inf false => a.epi f.hiInf
  | some f, x =>
    let p := f.piece x
    let rm := a.f 4 43 41
    let stepf (y c : FVal) : FVal := if f.fma then a.epi (sumExact rm [y.mul x, c]) else a.epi (sumExact rm [a.epi (y.mul x), c])
    (p.c.take 3).reverse.foldl stepf (a.epi (p.c.getD 3 .nan))

/-- One operation on x at element (row, col). -/
def Apd.apply (a : Apd) (j : RplJob) (o : Operands) (row col : Nat) (x : FVal) (op : EpiOp) : FVal :=
  let rm := a.f 4 43 41
  match op.op with
  | 1 => a.epi (sumExact rm [x, (rfmtD (a.f 2 51 48)).value (a.f 2 47 47 ≠ 0) (elemAt (rfmtD (a.f 2 51 48)).width o.bias col)])
  | 2 => a.epi (x.mul (fp32.decode (rdLe o.scale (4 * col) 4)))
  | 3 => a.epi (x.mul (fp32.decode op.arg0))
  | 4 => a.epi (a.func op.fn x)
  | 5 =>
    let lo := fp32.decode op.arg0
    let hi := fp32.decode op.arg1
    let y := if x.lt lo then lo else x
    a.epi (if hi.lt y then hi else y)
  | 6 => if j.draw a 1 row col < op.arg0 % 65536 then .fin false 0 1 else a.epi (x.mul (fp32.decode op.arg1))
  | _ => x

/-- The epilogue's result at an element. -/
def Apd.epilogue (a : Apd) (j : RplJob) (o : Operands) (row col : Nat) (x : FVal) : FVal :=
  (a.ops.takeWhile (fun op => op.op ≠ 0)).foldl (a.apply j o row col) (a.epi x)

/-- The value of an output element before its conversion. -/
def Apd.elem (a : Apd) (j : RplJob) (o : Operands) (row col : Nat) : FVal :=
  let fa := rfmtD a.aFmt
  let fb := rfmtD a.bFmt
  let daz := a.f 2 58 58 ≠ 0
  if j.kind = 1 then a.epilogue j o row col (o.a.elem fa daz a.aScaled j.n row col)
  else
    let ps := (List.range j.k).map (fun k =>
      (o.a.elem fa daz a.aScaled j.k row k).mul (o.b.elem fb (a.f 2 52 52 ≠ 0) a.bScaled j.k col k))
    let bias := if a.biasInit then some ((rfmtD (a.f 2 51 48)).value (a.f 2 47 47 ≠ 0) (elemAt (rfmtD (a.f 2 51 48)).width o.bias col)) else none
    a.epilogue j o row col (a.orderTree ps bias)

/-- Floor of log2 of a magnitude, none for zero, an infinity or a NaN. -/
def FVal.log2? : FVal → Option Int
  | .fin _ n d => if n = 0 then none else some (ilog2 n d)
  | _ => none

/-- The scale byte of a block of a scaled output (R328). -/
def scaleByte (emax : Int) (vs : List FVal) : Nat :=
  if vs.any (fun v => v == .inf true || v == .inf false) then 255
  else
    match vs.filterMap FVal.log2? with
    | [] => 0
    | x :: t => (clampInt (-127) 127 (t.foldl max x - emax) + 127).toNat

/-- emax of an element format of a scaled output. -/
def elemEmax (f : RFmt) : Int :=
  match f with
  | .fp e _ bias kind => fpEmax e bias kind
  | .int _ _ => 0

/-- An output row: element bits and scale bytes. -/
def Apd.outRow (a : Apd) (j : RplJob) (o : Operands) (row : Nat) : List Nat × List Nat :=
  let f := rfmtD a.outFmt
  let vs := (List.range j.n).map (a.elem j o row)
  let rnd (col : Nat) : Rnd := { rm := a.f 2 41 39, sat := a.f 2 38 38 ≠ 0, ftz := a.f 2 37 37 ≠ 0, d := j.draw a 0 row col }
  if a.outScaled then
    let blocks := chunks 32 vs
    let ss := blocks.map (scaleByte (elemEmax f))
    (vs.mapIdx (fun c v => f.convert a.outFmt (rnd c) a.nonan (v.shift (127 - ((ss.getD (c / 32) 0 : Nat) : Int)))), ss)
  else (vs.mapIdx (fun c v => f.convert a.outFmt (rnd c) a.nonan v), [])

/-- The whole output of a job: element bits in row-major order, scale bytes in row order. -/
def Apd.output (a : Apd) (j : RplJob) (o : Operands) : List Nat × List Nat :=
  let rows := (List.range j.m).map (a.outRow j o)
  (rows.flatMap (·.1), rows.flatMap (·.2))

/-- Elements packed, w bits each. -/
def packElems (w : Nat) (es : List Nat) : Bytes :=
  let v := es.foldr (fun e acc => acc * 2 ^ w + e % 2 ^ w) 0
  leBytes (dataBytes w es.length) v

/-- The bytes of an output: data, then scales. -/
def outBytes (w : Nat) (out : List Nat × List Nat) : Bytes := packElems w out.1 ++ out.2.map (BitVec.ofNat 8)

/-- The indices of elements that differ from the expected ones (R316): an element differs with its bits or with its block's scale. A NaN
matches any NaN of the format where NAN_ANY is set. -/
def Apd.differs (a : Apd) (j : RplJob) (out : List Nat × List Nat) (expect : Mat) : List Nat :=
  let f := rfmtD a.outFmt
  let isNan (w : Nat) : Bool := !f.isInt && f.value false w == .nan
  (List.range (j.m * j.n)).filter (fun i =>
    let x := out.1.getD i 0
    let y := expect.at_ f.width i
    let s := i / j.n * ceilDiv j.n 32 + i % j.n / 32
    !(x == y || (a.nanAny && isNan x && isNan y)) || (a.outScaled && out.2.getD s 0 != rdLe expect.scales s 1))

end Sys2Proof.Machine
end

