-- ==== Sys2Proof/Machine/RplOps.lean ====
section
/-! DEFINITION. Replay jobs and contexts (R311 to R317, R337): submission, what keeps a job from running, its operands, its outcome and its
record; units in and out of service. -/
namespace Sys2Proof.Machine

def State.setRpl (s : State) (r : Replay) : State := { s with rpl := r }

def State.rctx (s : State) (k : Nat) : RplCtx := s.rpl.ctxs.getD k {}

def State.setRctx (s : State) (k : Nat) (x : RplCtx) : State := s.setRpl { s.rpl with ctxs := s.rpl.ctxs.set k x }

/-- Every job in a context, running, parked or loading. -/
def RplCtx.jobs (x : RplCtx) : List RplJob := x.run.toList ++ x.other.toList

/-- Every job queued or in a context. -/
def State.rplJobs (s : State) : List RplJob := s.rpl.queue ++ s.rpl.back ++ s.rpl.ctxs.flatMap (fun (e : Nat × RplCtx) => e.2.jobs)

/-- A slot is named by a queued or running job. -/
def State.apdBusy (s : State) (slot : Nat) : Bool := s.rplJobs.any (fun j => j.slot = slot)

/-- The descriptor breaks Table 11-2. -/
def RplJob.malformed (j : RplJob) : Bool :=
  decide (1 < j.kind) || j.prio = 3 || bits (j.w 1) 29 0 ≠ 0 || bitAt (j.w 2) 63 || j.m = 0 || j.n = 0 ||
  (if j.kind = 0 then j.k = 0 else j.k ≠ 0) || bits (j.w 4) 15 0 ≠ 0 || bits (j.w 5) 31 0 ≠ 0 ||
  (List.range 6).any (fun i => decide (2 ^ 37 ≤ j.w (6 + i))) || (List.range 4).any (fun i => j.w (12 + i) ≠ 0)

/-- An operation of a kind is in the epilogue. -/
def Apd.hasOp (a : Apd) (n : Nat) : Bool := (a.ops.takeWhile (fun op => op.op ≠ 0)).any (fun op => op.op = n)

/-- The job uses BIAS. -/
def Apd.usesBias (a : Apd) : Bool := a.hasOp 1 || a.biasInit

/-- The job does not fit its APD: scaled operands (R312), or an address of BIAS or SCALE that the APD does not use (Table 11-2). -/
def RplJob.misfit (j : RplJob) (a : Apd) : Bool :=
  ((a.aScaled || a.bScaled) && j.k % 32 ≠ 0) || (a.outScaled && j.n % 32 ≠ 0) ||
    (!a.usesBias && j.w 8 ≠ 0) || (!a.hasOp 2 && j.w 9 ≠ 0)

/-- OUTCOME and REASON codes of Table 11-4. -/
def oMatch : Nat := 0
def oMismatch : Nat := 1
def oNotComparable : Nat := 2
def oNotReplayed : Nat := 3
def oEngineFault : Nat := 4

/-- What ends a job before it runs: its OUTCOME and REASON (R313, R331, R336, R337). -/
def State.jobStop (s : State) (j : RplJob) : Option (Nat × Nat) :=
  if ¬ (List.range 16).any s.ctxIn then some (oNotReplayed, 8)
  else
    match s.rpl.apds.find? j.slot with
    | none => some (oNotReplayed, 4)
    | some b =>
      let a := parseApd b
      if j.malformed ∨ j.misfit a then some (oNotReplayed, 5)
      else if ¬ a.codes.contains j.code then some (oNotComparable, 0)
      else none

/-- A job joins the queue. -/
def State.submit (s : State) (j : RplJob) : State :=
  s.setRpl { s.rpl with queue := s.rpl.queue ++ [{ j with seq := s.rpl.seq }], seq := s.rpl.seq + 1 }

def State.queueFull (s : State) : Bool := decide (1024 ≤ s.rpl.queue.length)

/-- Two jobs are the same submission. -/
def RplJob.is (j i : RplJob) : Bool := j.seq = i.seq

/-- A job leaves the queue and the contexts; a context whose running job goes takes up the parked one. -/
def State.dropJob (s : State) (j : RplJob) : State :=
  let clean (x : RplCtx) : RplCtx :=
    if x.run.any (fun i => i.is j) then
      (if x.loading then { x with run := none } else { x with run := x.other, other := none, bank := if x.other.isSome then !x.bank else x.bank })
    else if x.other.any (fun i => i.is j) then { x with other := none, loading := false }
    else x
  s.setRpl { s.rpl with
    queue := s.rpl.queue.filter (fun i => !i.is j), back := s.rpl.back.filter (fun i => !i.is j), ctxs := s.rpl.ctxs.map (fun (e : Nat × RplCtx) => (e.1, clean e.2)) }

/-- A change of a job wherever it is. -/
def State.modJob (s : State) (j : RplJob) (f : RplJob → RplJob) : State :=
  let g (i : RplJob) : RplJob := if i.is j then f i else i
  s.setRpl { s.rpl with
    queue := s.rpl.queue.map g, back := s.rpl.back.map g
    ctxs := s.rpl.ctxs.map (fun (e : Nat × RplCtx) => (e.1, { e.2 with run := e.2.run.map g, other := e.2.other.map g })) }

/-- The counters of an ended job (Table 11-20). -/
def State.countJob (s : State) (outcome reason : Nat) : State :=
  let s := s.bump BX_RPL_CNT0_JOBS_DONE
  let s := if reason = 1 then s.bump BX_BLZ_PSN_CNT0_REPLAY else s
  match outcome with
  | 0 => s.bump BX_RPL_CNT0_MATCHES
  | 1 => s.bump BX_RPL_CNT1_MISMATCH
  | 2 => s.bump BX_RPL_CNT1_NOTCOMPARABLE
  | 3 => s.bump BX_RPL_CNT1_NOT_REPLAYED
  | _ => s

/-- A result record (Table 11-4): six words. -/
def State.resultRec (s : State) (j : RplJob) (outcome reason cluster : Nat) (confirmed : Bool) (bad : List Nat) : List Nat :=
  [packFields [(48, 16, j.tag), (45, 3, outcome), (41, 4, reason), (40, 1, b2n j.unverified), (39, 1, b2n confirmed), (37, 2, cluster), (0, 32, j.code)],
   packFields [(30, 34, bits (j.w 1) 63 30)], bad.headD 0, (min bad.length 0xFFFFFFFF) <<< 32, s.bxNs, 0]

/-! ## Operands -/

/-- The ranges of the rows a job reads of a matrix at va: data and scales, and the bit its first element starts at. -/
def RplJob.band (j : RplJob) (va w cols : Nat) (scaled : Bool) : List (Nat × Nat) × Nat :=
  let start := j.rowOff * cols * w
  let data := (va + start / 8, ceilDiv (start % 8 + j.m * cols * w) 8)
  let sc := (va + dataBytes w (max j.rowsAll j.m * cols) + j.rowOff * ceilDiv cols 32, if scaled then j.m * ceilDiv cols 32 else 0)
  ([data, sc], start % 8)

/-- A's columns. -/
def RplJob.aCols (j : RplJob) : Nat := if j.kind = 0 then j.k else j.n

/-- The ranges a job reads, VA and bytes: A's data and scales, B's, BIAS, SCALE, C_EXPECT's data and scales. -/
def Apd.ranges (a : Apd) (j : RplJob) : List (Nat × Nat) :=
  let fb := (rfmtD a.bFmt).width
  let bn := if j.kind = 0 then dataBytes fb (j.n * j.k) else 0
  (j.band (j.w 6) (rfmtD a.aFmt).width j.aCols a.aScaled).1 ++
    [(j.w 7, bn), (j.w 7 + bn, if a.bScaled ∧ j.kind = 0 then j.n * ceilDiv j.k 32 else 0),
     (j.w 8, if a.usesBias then dataBytes (rfmtD (a.f 2 51 48)).width j.n else 0), (j.w 9, if a.hasOp 2 then 4 * j.n else 0)] ++
    (j.band (j.w 10) (rfmtD a.outFmt).width j.n a.outScaled).1

/-- The operands and the expected result, from the bytes of the ranges in their order. -/
def Apd.operands (a : Apd) (j : RplJob) (bs : List Bytes) : Operands × Mat :=
  ({ a := { data := bs.getD 0 [], bit := (j.band (j.w 6) (rfmtD a.aFmt).width j.aCols a.aScaled).2, scales := bs.getD 1 [] }
     b := { data := bs.getD 2 [], scales := bs.getD 3 [] }
     bias := bs.getD 4 [], scale := bs.getD 5 [] },
   { data := bs.getD 6 [], bit := (j.band (j.w 10) (rfmtD a.outFmt).width j.n a.outScaled).2, scales := bs.getD 7 [] })

/-- The translation source code of the replay engine (Table 14-15). -/
def srcReplay : Nat := 0x80

/-- The physical pieces of each range, or a failed translation. -/
def State.loadRanges (s : State) (space : Nat) (rs : List (Nat × Nat)) : Except Nat (List (List (Nat × Nat))) × State :=
  rs.foldl (fun (a : Except Nat (List (List (Nat × Nat))) × State) r =>
    match a.1 with
    | .error c => (.error c, a.2)
    | .ok l =>
      let x := a.2.vaRange srcReplay space r.1 r.2 false
      match x.1 with
      | .error c => (.error c, x.2)
      | .ok ps => (.ok (l ++ [ps]), x.2)) (.ok [], s)

/-- A translation fault freezes a job, once (R315). -/
def State.freeze (s : State) (j : RplJob) : State :=
  if j.frozen then s else (s.bump BX_RPL_CNT2_XLATE_FREEZES).modJob j (fun i => { i with frozen := true })

/-- The operands of a bank of a context. -/
def RplCtx.mem (x : RplCtx) (bank : Bool) : Option OpMem := if bank then x.mem1 else x.mem0

/-- The operands of a job in a bank of its context, if they are there. -/
def State.operandsIn (s : State) (k : Nat) (bank : Bool) (j : RplJob) : Option OpMem := ((s.rctx k).mem bank).filter (fun m => m.seq = j.seq)

/-- The loader brings a job's operands into a bank of its context (R308), unless they are there; a translation that fails freezes the job. -/
def State.loadBank (s : State) (k : Nat) (bank : Bool) (j : RplJob) : State :=
  if (s.operandsIn k bank j).isSome then s
  else
    let a := parseApd ((s.rpl.apds.find? j.slot).getD [])
    match s.loadRanges j.tenant (a.ranges j) with
    | (.error _, s) => s.freeze j
    | (.ok rs, s) =>
      let l := rs.map s.readPieces
      let m : OpMem := { seq := j.seq, dm0 := l.take 2, dm1 := (l.drop 2).take 2, core := l.drop 4 }
      let x := s.rctx k
      s.setRctx k (if bank then { x with mem1 := some m } else { x with mem0 := some m })

/-- A result block is stored through a Blaze unit of context k's cluster, which forms its word (R201, R308): the unit and the sequence number
are free (log entry 121). -/
def State.storeWord (s : State) (k fmt addr : Nat) (data : Bytes) : State :=
  let (i, s) := s.draw 2
  let (q, s) := s.draw 32
  s.bxForm (4 * (k / 4) + i % 4) fmt { addr := addr, seq := q % 2 ^ 32, data := data }

/-- The result a job stores passes the units block by block, by the block size of the cluster's first unit; what is no whole block carries no word. -/
def State.storeWords (s : State) (k fmt va : Nat) (b : Bytes) : State :=
  let n := s.blzSize (16 + 4 * (k / 4))
  if va % n ≠ 0 then s
  else (List.range (b.length / n)).foldl (fun s i => s.storeWord k fmt (va + i * n) (sliceBytes b (i * n) n)) s

/-- Output elements as a run on a faulty unit gives them. -/
def faulty (r : RplRun) (out : List Nat × List Nat) : List Nat × List Nat :=
  (r.wrong.foldl (fun (l : List Nat) (w : Nat × Nat) => l.set w.1 w.2) out.1, out.2)

/-- The outcome of R316 and R317 over up to three runs: outcome, the differing elements, CONFIRMED, the output taken, and which runs'
units are retired. -/
structure Verdict where
  outcome : Nat
  bad : List Nat := []
  confirmed : Bool := false
  out : List Nat × List Nat
  retire : List Nat := []
  failed : Bool := false

def Apd.verdict (a : Apd) (j : RplJob) (confirm : Bool) (out : List Nat × List Nat) (expect : Mat) (r1 r2 r3 : RplRun) : Verdict :=
  let o1 := faulty r1 out
  let d1 := a.differs j o1 expect
  if d1 = [] then { outcome := oMatch, out := o1 }
  else if ¬ confirm then { outcome := oMismatch, bad := d1, out := o1 }
  else
    let o2 := faulty r2 out
    let o3 := faulty r3 out
    let by_ (o : List Nat × List Nat) (retire : List Nat) : Verdict :=
      let d := a.differs j o expect
      { outcome := if d = [] then oMatch else oMismatch, bad := d, confirmed := d ≠ [], out := o, retire := retire, failed := true }
    if o1 = o2 then { outcome := oMismatch, bad := d1, confirmed := true, out := o1 }
    else if o1 = o3 then by_ o1 [1]
    else if o2 = o3 then by_ o2 [0]
    else { outcome := oEngineFault, out := o1, retire := [0, 1, 2] }

/-! ## Units (R337) -/

/-- A context out of service gives its jobs back to the queue, where they keep their place, as far as its 1,024 entries reach (R313). -/
def State.evacuate (s : State) (k : Nat) : State :=
  let back := s.rpl.back ++ (s.rctx k).jobs.map (fun j => { j with frozen := false })
  let room := 1024 - s.rpl.queue.length
  let q := sortBy (fun (a b : RplJob) => decide (a.seq ≤ b.seq)) (s.rpl.queue ++ back.take room)
  s.setRpl { s.rpl with queue := q, back := back.drop room, ctxs := s.rpl.ctxs.erase k }

/-- A unit of a level lies in context k. -/
def unitOf (level idx k : Nat) : Bool := (if level = 0 then idx / 16 else if level = 1 then idx / 2 else idx) = (if level = 2 then k / 4 else k)

/-- The operands of a context are lost: its job starts over with them (R337). -/
def State.dropMem (s : State) (k : Nat) : State :=
  match s.rpl.ctxs.find? k with
  | none => s
  | some x => s.setRctx k { x with mem0 := none, mem1 := none }

/-- A unit leaves service: recorded, counted; contexts that lose all their engines give their jobs back. -/
def State.retireUnit (s : State) (level idx : Nat) : State :=
  if s.rpl.retired.contains (level, idx) then s
  else
    let s := s.setRpl { s.rpl with retired := s.rpl.retired ++ [(level, idx)] }
    let s := (s.bump BX_RPL_CNT2_RETIRED).signal { ty := 0x0701, source := 7, idx := idx, detail := packFields [(8, 2, level), (0, 8, idx)] }
    (List.range 16).foldl (fun s k => if ¬ s.ctxIn k then s.evacuate k else if unitOf level idx k then s.dropMem k else s) s

/-- Units of a level. -/
def unitCount (level : Nat) : Nat := [256, 32, 4].getD level 0

end Sys2Proof.Machine
end

