-- ==== Sys2Proof/Machine/GateOps.lean ====
section
/-! DEFINITION. The commit gate's operations (R344 to R370): the ledger, events, selection, replay jobs of a step, resolution, commit,
revoke, tag matches and faults. -/
namespace Sys2Proof.Machine

def State.setGate (s : State) (g : Gate) : State := { s with gate := g }

/-! ## Step records (Table 12-1) -/

def GStep.w (g : GStep) (i : Nat) : Nat := rdLe g.record (8 * i) 8
def GStep.attempt (g : GStep) : Nat := bits (g.w 0) 31 24
def GStep.kind (g : GStep) : Nat := bits (g.w 0) 23 22
def GStep.tenant (g : GStep) : Nat := bits (g.w 0) 21 16
def GStep.tag (g : GStep) : Nat := bits (g.w 0) 15 0
def GStep.step (g : GStep) : Nat := bits (g.w 1) 63 16
def GStep.inc (g : GStep) : Nat := bits (g.w 1) 15 0
def GStep.epoch (g : GStep) : Nat := bits (g.w 2) 63 16
def GStep.code (g : GStep) : Nat := bits (g.w 3) 63 32
def GStep.m (g : GStep) : Nat := bits (g.w 4) 62 42
def GStep.n (g : GStep) : Nat := bits (g.w 4) 41 21
def GStep.k (g : GStep) : Nat := bits (g.w 4) 20 0
def GStep.digest (g : GStep) : Bytes := sliceBytes g.record 96 32

/-- The causes of Table 12-7. -/
def cChecked : Nat := 0x0
def cUnselected : Nat := 0x1
def cUnchecked : Nat := 0x2
def cNotComparable : Nat := 0x3
def cDigestOnly : Nat := 0x4
def cAfter : Nat := 0x5
def cMismatch : Nat := 0x8
def cDependent : Nat := 0x9
def cBlaze : Nat := 0xA
def cUncheckable : Nat := 0xB
def cFault : Nat := 0xC
def cDigest : Nat := 0xD
def cClosed : Nat := 0xE

def State.gjob? (s : State) (id : Nat) : Option Job := s.gate.jobs.find? id

def State.setJob (s : State) (id : Nat) (j : Job) : State := s.setGate { s.gate with jobs := s.gate.jobs.set id j }

/-- The same provisional step. -/
def GStep.is (g h : GStep) : Bool := g.job = h.job && g.step = h.step && g.attempt = h.attempt

def State.gstep? (s : State) (job step attempt : Nat) : Option GStep :=
  s.gate.steps.find? (fun g => g.job = job && g.step = step && g.attempt = attempt)

def State.setStep (s : State) (g : GStep) : State :=
  s.setGate { s.gate with steps := s.gate.steps.map (fun (h : GStep) => if h.is g then g else h) }

def State.dropStep (s : State) (g : GStep) : State := s.setGate { s.gate with steps := s.gate.steps.filter (fun h => !h.is g) }

/-! ## The ledger (R364, R365) and events (R360) -/

/-- What an entry tells beside its SEQ and CHAIN (Table 12-10). -/
structure LedgerRec where
  kind : Nat
  cause : Nat := 0
  unverified : Bool := false
  selected : Bool := false
  tenant : Nat
  job : Nat := 0
  attempt : Nat := 0
  stepKind : Nat := 0
  slot : Nat := 0
  inc : Nat := 0
  step : Nat := 0
  tag : Nat := 0
  addr : Nat := 0
  unit : Nat := 0
  epoch : Nat := 0
  code : Nat := 0
  u : Nat := 0
  params : Nat := 0
  digests : Bytes := []

/-- Bytes 0 to 127 of an entry. -/
def LedgerRec.bytes (r : LedgerRec) (seq ns : Nat) : Bytes :=
  wordBytes [packFields [(16, 48, seq), (12, 4, r.kind), (8, 4, r.cause), (7, 1, b2n r.unverified), (6, 1, b2n r.selected), (0, 6, r.tenant)],
    packFields [(32, 32, r.job), (24, 8, r.attempt), (22, 2, r.stepKind), (16, 6, r.slot), (0, 16, r.inc)], packFields [(16, 48, r.step), (0, 16, r.tag)],
    packFields [(46, 18, r.addr), (36, 10, r.unit)], packFields [(16, 48, r.epoch)], packFields [(32, 32, r.code), (0, 32, r.u)],
    packFields [(19, 45, r.params)], ns] ++ padTo 64 r.digests

/-- Entries of a tenant's ledger, and the address of its ring in the partition's highest granules, if the tenant has one (R419). -/
def State.ledgerSize (s : State) (t : Nat) : Nat := 2 ^ s.gate.logs.getD t 16
def State.ledgerBase? (s : State) (t : Nat) : Option Nat :=
  if s.flag BX_MEM_PART_VALID t then some ((s.rd BX_MEM_PART_BASE t + s.rd BX_MEM_PART_COUNT t - s.rd BX_MEM_PART_LEDGER t) * granule) else none

/-- An entry is chained and written; its SEQ and CHAIN. -/
def State.ledgerPut (s : State) (r : LedgerRec) : Nat × Bytes × State :=
  let t := r.tenant
  let seq := s.rd BX_CMT_LEDGER_NEXT_SEQ t
  let body := r.bytes seq s.bxNs
  let chain := sha256 (s.gate.chains.getD t (zeroBytes 32) ++ body)
  let s := s.setGate { s.gate with
    chains := s.gate.chains.set t chain
    badEntries := s.gate.badEntries.filter (fun x => !(x.1 = t && x.2 + s.ledgerSize t = seq)) }
  let s := s.wr BX_CMT_LEDGER_NEXT_SEQ t (seq + 1)
  let s := if s.ledgerSize t ≤ seq then s.bump BX_CMT_CNT4_LEDGER_OVERWRITES else s
  let s := match s.ledgerBase? t with
    | none => s
    | some a => s.hbmWrite (a + seq % s.ledgerSize t * 160) (body ++ chain)
  (seq, chain, s)

/-- A ledger starts with a RESTART entry at SEQ 0, whose previous CHAIN is zero (R367); it exists in its tenant's partition. -/
def State.ledgerStart (s : State) (t : Nat) : State :=
  if s.rd BX_CMT_LEDGER_NEXT_SEQ t = 0 then
    let r : LedgerRec := { kind := 4, tenant := t }
    (s.ledgerPut r).2.2
  else s

/-- An entry enters its tenant's ledger. -/
def State.ledger (s : State) (r : LedgerRec) : Nat × Bytes × State := (s.ledgerStart r.tenant).ledgerPut r

/-- An event to the ring of the job's tenant, and a copy to the operator's (R360). -/
def State.stepEvent (s : State) (t : Nat) (ws : List Nat) : State :=
  let b := wordBytes ws
  (if t = 0 then s else s.post t 0x01 b).post 0 0x01 b

/-- The ledger entry of a step. -/
def State.stepRec (s : State) (g : GStep) (kind cause : Nat) : LedgerRec :=
  { kind := kind, cause := cause, unverified := g.unverified, selected := g.selected, tenant := g.tenant, job := g.job, attempt := g.attempt,
    stepKind := g.kind, slot := ((s.gjob? g.job).map (·.apd)).getD 0, inc := g.inc, step := g.step, tag := g.tag, addr := s.dieAddr g.die,
    unit := g.unit, epoch := g.epoch, code := g.code, u := g.u, params := bits (g.w 7) 63 19, digests := sliceBytes g.record 64 64 }

/-- Words 0 to 2 of a step's event, and its last word. -/
def stepWords (g : GStep) (kind cause seq w3 : Nat) : List Nat :=
  [packFields [(32, 32, g.job), (28, 4, kind), (24, 4, cause), (16, 8, g.attempt), (0, 6, g.tenant)], packFields [(16, 48, g.step), (0, 16, g.inc)],
   packFields [(16, 48, seq)], w3]

/-- A step commits: ledger entry, COMMIT event with its token, LAST_COMMITTED. -/
def State.commitStep (s : State) (g : GStep) (cause : Nat) : State :=
  let (seq, chain, s) := s.ledger (s.stepRec g 1 cause)
  let s := (s.stepEvent g.tenant (stepWords g 1 cause seq (rdLe chain 0 8))).bump BX_CMT_CNT0_COMMITTED
  match s.gjob? g.job with
  | none => s
  | some j => s.setJob g.job { j with lastCommitted := some (match j.lastCommitted with
      | none => g.step
      | some l => max l g.step) }

/-- Jobs given back by contexts, then held jobs of steps, enter the replay queue while it has room (R313). -/
def feedOne : Nat → State → State
  | 0, s => s
  | k + 1, s =>
    if s.queueFull then s
    else
      match s.rpl.back with
      | j :: t => feedOne k (s.setRpl { s.rpl with queue := sortBy (fun (a b : RplJob) => decide (a.seq ≤ b.seq)) (s.rpl.queue ++ [j]), back := t })
      | [] =>
      match s.gate.steps.find? (fun g => g.heldJobs ≠ []) with
      | none => s
      | some g =>
        match g.heldJobs with
        | [] => s
        | j :: t => feedOne k ((s.setStep { g with heldJobs := t }).submit j)

def State.feed (s : State) : State := feedOne 1024 s

/-- Replay jobs of a step are cancelled; their outcomes are discarded. -/
def State.cancelJobs (s : State) (g : GStep) : State :=
  (s.rplJobs.filter (fun j => match j.gate with
    | some x => x.1 = g.job && x.2.1 = g.step && x.2.2.1 = g.attempt
    | none => false)).foldl (fun s j => s.dropJob j) s

/-- A step is no longer provisional; jobs held back take the places its jobs leave in the queue. -/
def State.endStep (s : State) (g : GStep) : State := ((s.cancelJobs g).dropStep g).feed

/-- An AFTER_CHECK entry and event end a step of an AFTER job. -/
def State.afterCheck (s : State) (g : GStep) (cause : Nat) : State :=
  let (seq, _, s) := s.ledger (s.stepRec g 3 cause)
  let s := s.stepEvent g.tenant (stepWords g 3 cause seq 0)
  (if cause = cChecked then s else s.bump BX_CMT_CNT3_DETECTED).endStep g

/-- One step is revoked: ledger entry and REVOKE event. -/
def State.revokeOne (s : State) (g : GStep) (cause : Nat) : State :=
  let lc := (s.gjob? g.job).bind (·.lastCommitted)
  let (seq, _, s) := s.ledger (s.stepRec g 2 cause)
  let w3 := packFields [(16, 48, lc.getD 0), (15, 1, b2n lc.isSome)]
  let s := s.stepEvent g.tenant (stepWords g 2 cause seq w3)
  (if cause = cDependent then s.bump BX_CMT_CNT1_DEPENDENT else s.bump BX_CMT_CNT1_REVOKED).endStep g

/-- Provisional steps of a job, ascending. -/
def State.stepsOf (s : State) (job : Nat) : List GStep :=
  sortBy (fun (a b : GStep) => decide (a.step ≤ b.step)) (s.gate.steps.filter (fun g => g.job = job))

/-- REVOKE of a step and of every provisional step of its job above it (R356); the job enters ROLLBACK, or STUCK. -/
def State.revoke (s : State) (g : GStep) (cause : Nat) : State :=
  let later := (s.stepsOf g.job).filter (fun h => decide (g.step < h.step))
  let s := later.foldl (fun s h => s.revokeOne h cDependent) (s.revokeOne g cause)
  match s.gjob? g.job with
  | none => s
  | some j =>
    if 255 ≤ j.attempt then s.setJob g.job { j with stuck := true }
    else s.setJob g.job { j with rollback := true, nextStep := g.step, attempt := j.attempt + 1, after := g.afterRevoke }

/-! ## Detection (R354) -/

/-- A test of a die is requested by hand (TEST_REQUEST, R354): reason MANUAL, and a test with this UNIT unless one is outstanding. -/
def State.requestTest (s : State) (d unit pre : Nat) (bin : Option Nat) : State :=
  let n := s.bxEpoch
  let busy : Bool := s.rd BX_COR_DIE_MARK_TSTATE d ≠ 0
  let s := if (s.reasons d).testBit 6 then s else s.noteReason d 6 n 0
  if busy ∨ d = 64 then s else s.issueTest s.cfg d unit 6 n pre bin

/-- What follows a MISMATCH, BLAZE or DIGEST outcome: MANUAL on the die, a record, a Canopy alarm. -/
def State.detected (s : State) (g : GStep) (cause : Nat) : State :=
  let x := packFields [(32, 32, g.job), (0, 32, g.step)]
  let s := s.requestTest g.die g.unit 0 none
  let s := s.signal { ty := 0x0607, source := 8, idx := g.die, die := s.dieAddr g.die, inc := g.inc, detail := cause, extra := x }
  s.alarmUp 0x27 (alarmPayload g.inc (s.dieAddr g.die) false cause s.bxEpoch x s.bxRc)

/-- The resolution of a step (Table 12-5). -/
def State.resolve (s : State) (g : GStep) (cause : Nat) : State :=
  let s := if cause = cUncheckable then s.bump BX_CMT_CNT2_UNCHECKED
    else if cause = cBlaze then s.bump BX_CMT_CNT3_BLAZE
    else if cause = cDigest then s.bump BX_CMT_CNT4_DIGEST_MISMATCH
    else s
  let s := if cause = cMismatch ∨ cause = cBlaze ∨ cause = cDigest then s.detected g cause else s
  if ¬ g.gated then s.afterCheck g cause
  else if cause = cChecked then s.setStep { g with ready := some cChecked }
  else if cause = cUncheckable ∧ ¬ g.onUnchecked then ((s.cancelJobs g).setStep { g with ready := some cUnchecked, heldJobs := [] }).feed
  else s.revoke g cause

/-! ## Selection (Table 12-3) -/

/-- die:UNIT is reported TEST_OVERDUE (R299). -/
def State.overdue (s : State) (d unit : Nat) : Bool :=
  s.flag BX_COR_DIE_MARK_OVERDUE d && (s.rd BX_COR_DIE_MARK_UNIT d = 0x3FF || s.rd BX_COR_DIE_MARK_UNIT d = unit)

/-- The bin of a vector for a channel (R285). -/
def Settings.vecBin (c : Settings) (v : Bytes) (chan : Nat) : Option Nat :=
  match vecVal v (c.fld BX_COR_BAND_T_FEAT 0), c.sig v, vecVal v (c.fld BX_COR_DRIFT_FEAT chan) with
  | some t, some sg, some _ => some (c.band t * 32 + sg)
  | _, _, _ => none

/-- A die's most recent vector. -/
def State.lastVector (s : State) (d : Nat) : Option Bytes :=
  match s.grv.vectors.find? (2 * d), s.grv.vectors.find? (2 * d + 1) with
  | some p, some c => some (if vecEpoch c < vecEpoch p then p else c)
  | some p, none => some p
  | none, c => c

/-- A step of a die is in the mark's bin (R349). -/
def State.inBin (s : State) (d : Nat) : Bool :=
  s.flag BX_COR_DIE_MARK_BIN_VALID d &&
    (match s.lastVector d with
      | none => false
      | some v => (s.cfgOf (vecEpoch v)).vecBin v ((((s.corDie d).driftMarks.find? 3).map (fun m => m.1)).getD 0) = some (s.rd BX_COR_DIE_MARK_BIN d))

/-- A reason with REPLAY set is on a die. -/
def State.replayReason (s : State) (d : Nat) : Bool := (List.range 8).any (fun r => (s.reasons d).testBit r && s.actReplay r)

/-- The draw of R348 against a rate: whether it selects, and u. -/
def State.sample (s : State) (g : GStep) (ppm : Nat) : Bool × Nat :=
  let u := (genOut (s.rd BX_CMT_TEN_SEED_SAMPLE_SEED g.tenant) g.step g.job 0 g.attempt).headD 0
  (decide (u < ppm * 4294967296 / 1000000), u)

/-- Selection of an accepted step: selected, priority, u, and the cause it resolves with when not selected. after tells that rule 4
applies. -/
def State.select (s : State) (g : GStep) (slot : Nat) (after : Bool) : Bool × Nat × Nat × Nat :=
  let listed : Bool := match s.rpl.apds.find? slot with
    | none => false
    | some b => (parseApd b).codes.contains g.code
  let sus := s.rd BX_CMT_SUSPECT_SUSPECT_PPM
  if g.kind = 2 then (false, 0, 0, cDigestOnly)
  else if ¬ listed then (false, 0, 0, cNotComparable)
  else if s.overdue g.die g.unit ∨ s.gate.alerts.contains (g.die, g.tag) then (true, 2, 0, 0)
  else if after then (true, 1, 0, 0)
  else if s.replayReason g.die then
    let r := s.sample g (if s.inBin g.die then s.rd BX_CMT_SUSPECT_BIN_PPM else sus)
    (r.1, 1, r.2, cUnselected)
  else
    let r := s.sample g (s.rd BX_CMT_TEN_POLICY_SAMPLE_PPM g.tenant)
    (r.1, 0, r.2, cUnselected)

/-! ## Replay of a step (R351 to R353) -/

/-- The replay jobs of a step (R352). -/
def State.stepJobs (s : State) (g : GStep) (slot : Nat) (ops : List Nat) : List RplJob :=
  let a := parseApd ((s.rpl.apds.find? slot).getD [])
  let jn := max 1 (min 16 (ceilDiv g.m 128))
  let h := max 1 (ceilDiv (ceilDiv g.m jn) a.rows * a.rows)
  let bands := (List.range jn).filter (fun j => decide (j * h < g.m) || (j = 0 && g.m = 0))
  bands.map (fun j => {
    words := [packFields [(48, 16, j), (42, 6, slot), (40, 2, g.kind), (38, 2, g.prio), (32, 6, g.tenant), (0, 32, g.code)],
      packFields [(46, 18, s.dieAddr g.die), (30, 16, g.inc)],
      packFields [(42, 21, min g.m ((j + 1) * h) - j * h), (21, 21, g.n), (0, 21, g.k)], g.w 5, packFields [(16, 48, g.step)],
      ((bits (g.w 6) 63 32 + j * h / a.rows * ceilDiv g.n a.cols) % 2 ^ 32) <<< 32] ++ ops.take 6
    seq := 0
    gate := some (g.job, g.step, g.attempt, j)
    rowOff := j * h
    rowsAll := g.m })

/-- A step's C_EXPECT bytes, and whether one of their words is poisoned; none where no digest was announced or they cannot be read. -/
def State.expectBytes (s : State) (g : GStep) : Option (Bytes × Bool) :=
  let slot := ((s.gjob? g.job).map (·.apd)).getD 0
  let a := parseApd ((s.rpl.apds.find? slot).getD [])
  let ops := g.operands.getD []
  if g.digest = zeroBytes 32 then none
  else
    match (s.vaRange srcReplay g.tenant (ops.getD 4 0) (matBytes (rfmtD a.outFmt).width g.m g.n a.outScaled) false).1 with
    | .error _ => none
    | .ok ps => some (s.readPieces ps)

/-- The digest of a step's C_EXPECT bytes differs from the one announced (R351). -/
def State.digestDiffers (s : State) (g : GStep) : Bool := (s.expectBytes g).any (fun x => sha256 x.1 ≠ g.digest)

/-- A word of the C_EXPECT bytes is poisoned: no digest is formed over them (R202), and the step is one that poison kept from its replay. -/
def State.expectPoisoned (s : State) (g : GStep) : Bool := (s.expectBytes g).any (fun x => x.2)

/-- The outcome of a step from its jobs' (Table 12-4). The digest of C_EXPECT is known where every job has loaded its band (R351). -/
def State.stepOutcome (s : State) (g : GStep) : Nat :=
  let os := g.outcomes.map (·.2)
  if os.any (fun o => o.1 = oNotReplayed && (o.2.1 = 1 || o.2.1 = 2)) ∨ s.expectPoisoned g then cBlaze
  else if os.all (fun o => o.1 ≠ oNotReplayed) ∧ s.digestDiffers g then cDigest
  else if os.any (fun o => o.1 = oMismatch) then cMismatch
  else if os.any (fun o => o.1 ≠ oMatch) then cUncheckable
  else cChecked

/-- A replay job of a step has ended. -/
def State.gateJobEnd (s : State) (j : RplJob) (outcome reason : Nat) : State :=
  match j.gate with
  | none => s
  | some (job, step, attempt, i) =>
    match s.gstep? job step attempt with
    | none => s
    | some g =>
      if (outcome = oNotReplayed ∨ outcome = oEngineFault) ∧ ¬ g.again.contains i then
        (s.setStep { g with
          again := g.again ++ [i]
          heldJobs := g.heldJobs ++ [{ j with blaze := false, unverified := false, frozen := false }] }).feed
      else
        let g := { g with outcomes := g.outcomes.set i (outcome, reason, j.unverified), unverified := g.unverified || j.unverified }
        let s := s.setStep g
        if g.outcomes.length < g.njobs then s else s.resolve g (s.stepOutcome g)

/-! ## Blaze reports (R350) -/

/-- A step is selected at URGENT priority (R350), and so are the jobs of it that wait. -/
def State.urge (s : State) (g : GStep) : State :=
  let mine (j : RplJob) : Bool := match j.gate with
    | some x => x.1 = g.job && x.2.1 = g.step && x.2.2.1 = g.attempt
    | none => false
  let up (j : RplJob) : RplJob := { j with words := j.words.set 0 (j.w 0 - j.prio <<< 38 + 2 <<< 38) }
  let s := if g.selected then s else s.bump BX_CMT_CNT1_SELECTED
  let s := s.setRpl { s.rpl with queue := s.rpl.queue.map (fun j => if mine j then up j else j), back := s.rpl.back.map (fun j => if mine j then up j else j) }
  s.setStep { g with selected := true, prio := 2, ready := none, heldJobs := g.heldJobs.map up }

/-- A report of a local die's unit: its outcome (Table 7-3) and TAG. condemned tells MISMATCH, STALE or UNPOISONED; otherwise it is
UNVERIFIED. -/
def State.tagMatch (s : State) (d tag : Nat) (condemned : Bool) : State :=
  let hits := s.gate.steps.filter (fun g => g.die = d && g.tag = tag)
  if hits = [] then
    if s.gate.alerts.contains (d, tag) then s else s.setGate { s.gate with alerts := s.gate.alerts ++ [(d, tag)] }
  else
    hits.foldl (fun s h =>
      match s.gstep? h.job h.step h.attempt with
      | none => s
      | some g =>
        if condemned then s.resolve g cBlaze
        else if g.ready = some cUnselected ∨ (g.selected ∧ g.ready.isNone) then s.urge g
        else s) s

/-! ## Faults (R369) -/

/-- A record and the count of a fault of the gate's state. -/
def State.gateFault (s : State) (idx extra : Nat) : State :=
  (s.bump BX_CMT_CNT3_FAULTS).signal { ty := 0x0608, source := 8, idx := idx, extra := extra }

/-- A provisional step's entry is lost. -/
def State.stepFault (s : State) (job step attempt : Nat) : State :=
  match s.gstep? job step attempt with
  | none => s
  | some g => (s.gateFault 0 (packFields [(32, 32, job), (0, 32, step)])).resolve g cFault

/-- A job's entry is lost: its steps are revoked, and it is closed. -/
def State.jobFault (s : State) (job : Nat) : State :=
  match s.gjob? job with
  | none => s
  | some _ =>
    let s := s.gateFault 1 (job <<< 32)
    let s := (s.stepsOf job).foldl (fun s g => if g.gated then s.revokeOne g cFault else s.afterCheck g cFault) s
    s.setGate { s.gate with jobs := s.gate.jobs.erase job }

/-- A ledger entry is lost. -/
def State.entryFault (s : State) (t seq : Nat) : State :=
  (s.gateFault 2 seq).setGate { s.gate with badEntries := s.gate.badEntries ++ [(t, seq)] }

/-- An active slot-critical placement is on die:UNIT (R344). -/
def State.scPlaced (s : State) (d unit : Nat) : Bool :=
  s.gate.jobs.any (fun (e : Nat × Job) =>
    let hit (x : Nat) (u : Nat) : Bool := x = d && (unit = 0x3FF || u = unit)
    e.2.sc && (hit e.2.die e.2.unit || (match e.2.old with
      | none => false
      | some o => decide (s.bxEpoch < o.2) && hit e.2.oldDie e.2.oldUnit)))

end Sys2Proof.Machine
end

