-- ==== Sys2Proof/Machine/Replay.lean ====
section
/-! DEFINITION. The replay engine's commands (chapter 11): APDs, jobs, placement and pre-emption, the end of a job, units, the generator
and the cross-check. -/
namespace Sys2Proof.Machine

/-! ## APD slots (R329 to R331) -/

/-- Reserved bits of an APD's sections are 0, and the sections fill the image. -/
def apdPadOk (b : Bytes) (a : Apd) : Bool :=
  let o := apdOpsAt b
  let funAt := (List.range (apdNfunc b)).map (fun i => (parseFuns b i (o + 16 * apdNepi b)).2)
  apdLen b = b.length && (apdNsc b % 2 = 0 || rdLe b (o - 4) 4 = 0) &&
  (List.range a.ops.length).all (fun i => bits (rdLe b (o + 16 * i) 8) 56 0 = 0) &&
  funAt.all (fun f => bits (rdLe b f 8) 54 0 = 0 && (List.range (bits (rdLe b f 8) 63 56)).all (fun i => rdLe b (f + 16 + 24 * i + 20) 4 = 0))

/-- Fields in range and reserved fields 0 (check 0x02). -/
def apdFieldsOk (b : Bytes) (a : Apd) : Bool :=
  decide (1 ≤ apdNsc b) && decide (apdNsc b ≤ 16) && decide (apdNfunc b ≤ 8) && decide (apdNepi b ≤ 8) && a.f 1 15 2 = 0 &&
  decide (a.f 2 41 39 ≤ 5) && a.f 2 28 0 = 0 && decide (a.f 2 51 48 ≤ 14) && a.f 3 40 0 = 0 && decide (a.f 3 45 43 ≤ 4) &&
  (if a.accInt then decide (16 ≤ a.f 3 62 56) && decide (a.f 3 62 56 ≤ 64)
    else decide (5 ≤ a.f 3 55 52) && decide (a.f 3 55 52 ≤ 11) && decide (2 ≤ a.f 3 51 46) && decide (a.f 3 51 46 ≤ 52)) &&
  decide (a.chunkLog ≤ 11) && decide (a.f 4 59 58 ≤ 2) && decide (a.f 4 57 56 ≤ 1) && decide (1 ≤ a.f 4 55 48) && decide (a.f 4 47 46 ≤ 1) &&
  decide (a.f 4 45 44 ≤ 2) && decide (a.f 4 43 41 ≤ 4) && a.f 4 40 0 = 0 && a.f 5 55 0 = 0 && a.f 7 63 0 = 0 && apdPadOk b a

/-- The formats agree (check 0x03), and SCALED stands only beside formats 0x5 to 0x9 (check 0x04). -/
def apdFmtsOk (a : Apd) : Bool :=
  match rfmt a.aFmt, rfmt a.bFmt, rfmt a.outFmt with
  | some x, some y, some _ => x.isInt = y.isInt && x.isInt = a.accInt
  | _, _, _ => false
def apdScaledOk (a : Apd) : Bool :=
  let ok (scaled : Bool) (f : Nat) : Bool := !scaled || (decide (5 ≤ f) && decide (f ≤ 9))
  ok a.aScaled a.aFmt && ok a.bScaled a.bFmt && ok a.outScaled a.outFmt

/-- Operation codes, FN, and END as the last operation (check 0x06). -/
def apdOpsOk (a : Apd) : Bool :=
  a.ops.all (fun o => decide (o.op ≤ 6) && (o.op ≠ 4 || decide (o.fn < a.funs.length))) && (a.ops.dropLast).all (fun o => o.op ≠ 0)

/-- Values that ascend strictly. -/
def ascending : List FVal → Bool
  | x :: y :: t => x.lt y && ascending (y :: t)
  | _ => true

/-- Functions (check 0x07). -/
def apdFunsOk (a : Apd) : Bool :=
  a.funs.all (fun f => decide (1 ≤ f.pieces.length) && decide (f.pieces.length ≤ 16) && f.pieces.all (fun p => p.lb != .nan) &&
    ascending (f.pieces.map (·.lb)))

/-- The reason of the first check of Table 11-10 that an image of a length fails, 0 when none does. -/
def apdCheck (b : Bytes) (len : Nat) : Nat :=
  let a := parseApd b
  let crc := crc32c (b.take 48 ++ zeroBytes 4 ++ b.drop 52)
  if a.f 0 63 32 ≠ 0x31445041 ∨ a.f 0 31 24 ≠ 1 ∨ a.f 6 63 32 ≠ len ∨ b.length ≠ len ∨ a.f 6 31 0 ≠ crc then 1
  else if ¬ apdFieldsOk b a then 2
  else if ¬ apdFmtsOk a then 3
  else if ¬ apdScaledOk a then 4
  else if a.codes.contains 0 ∨ a.codes.eraseDups.length ≠ a.codes.length then 5
  else if ¬ apdOpsOk a then 6
  else if ¬ apdFunsOk a then 7
  else 0

/-- APD_LOAD (0x0401): slot; DMA pointer and length. -/
def execApdLoad (c : Cap) (s : State) : Host.Outcome State Fault Refusal :=
  done (s.checked c 0x0401 c.isOp 3 (fun s =>
    let r := apdCheck c.data (c.p 2)
    if 63 < c.p 0 then s.reply c 0x0401 S_BADPARAM
    else if r ≠ 0 then s.reply c 0x0401 S_BADPARAM [] r
    else if s.apdBusy (c.p 0) then s.reply c 0x0401 S_BUSY [] 8
    else (s.setRpl { s.rpl with apds := s.rpl.apds.set (c.p 0) c.data }).reply c 0x0401 S_OK (digestWords (sha256 c.data))))

/-- APD_UNLOAD (0x0402). -/
def execApdUnload (c : Cap) (s : State) : Host.Outcome State Fault Refusal :=
  done (s.checked c 0x0402 c.isOp 1 (fun s =>
    if 63 < c.p 0 then s.reply c 0x0402 S_BADPARAM
    else if s.apdBusy (c.p 0) then s.reply c 0x0402 S_BUSY
    else (s.setRpl { s.rpl with apds := s.rpl.apds.erase (c.p 0) }).reply c 0x0402 S_OK))

/-- APD_INFO (0x0403): header words 0 to 5, Setting Codes, digest. -/
def execApdInfo (c : Cap) (s : State) : Host.Outcome State Fault Refusal :=
  done (s.checkedPtr c 0x0403 c.isOp 1 (fun s =>
    match s.rpl.apds.find? (c.p 0) with
    | none => s.reply c 0x0403 S_BADPARAM
    | some b =>
      let a := parseApd b
      s.replyBlob c 0x0403 S_OK (wordBytes (a.h.take 6 ++ a.codes) ++ sha256 b)))

/-! ## Jobs -/

/-- A job ends: counted, its record delivered to whoever it belongs to, held jobs of the gate let in. -/
def State.finishJob (s : State) (j : RplJob) (outcome reason cluster : Nat) (confirmed : Bool := false) (bad : List Nat := []) : State :=
  let rec_ := s.resultRec j outcome reason cluster confirmed bad
  let s := (s.dropJob j).countJob outcome reason
  let s := match j.cap with
    | none => s
    | some c => s.reply c 0x0404 S_OK rec_
  (s.gateJobEnd j outcome reason).feed

/-- The cluster in which a job runs or is parked, 0 for a job that none runs (Table 11-4). -/
def State.clusterOf (s : State) (j : RplJob) : Nat := (((List.range 16).find? (fun k => (s.rctx k).jobs.any (fun i => i.is j))).getD 0) / 4

/-- An address of a descriptor does not translate; the failed one is recorded. -/
def State.badAddress (s : State) (source tenant : Nat) : List Nat → Option Nat × State
  | [] => (none, s)
  | a :: t =>
    if a = 0 then s.badAddress source tenant t
    else
      let r := s.translate source tenant a false
      match r.1 with
      | .error x => (some x, r.2)
      | .ok _ => r.2.badAddress source tenant t

/-- REPLAY_RUN (0x0404): DMA pointer to a descriptor; answered with the result record when the job ends. -/
def execReplayRun (c : Cap) (s : State) : Host.Outcome State Fault Refusal :=
  done (s.checked c 0x0404 c.isOp 1 (fun s =>
    let j : RplJob := { words := leWords (padTo 128 c.data), seq := 0, cap := some c }
    let misfit : Bool := match s.rpl.apds.find? j.slot with
      | none => false
      | some b => j.misfit (parseApd b)
    if j.malformed ∨ misfit then s.reply c 0x0404 S_BADPARAM
    else if s.queueFull then s.reply c 0x0404 S_BUSY
    else
      match s.badAddress srcReplay j.tenant ((List.range 6).map (fun i => j.w (6 + i))) with
      | (some x, s) => s.reply c 0x0404 S_XLATE [x]
      | (none, s) => s.submit j))

/-- REPLAY_CANCEL (0x0405): JOB_TAG; the job ends NOT_REPLAYED, CANCELLED or XLATE if frozen. -/
def execReplayCancel (c : Cap) (s : State) : Host.Outcome State Fault Refusal :=
  done (s.checked c 0x0405 c.isOp 1 (fun s =>
    match s.rplJobs.find? (fun j => j.tag = c.p 0) with
    | none => s.reply c 0x0405 S_STALE
    | some j => (s.finishJob j oNotReplayed (if j.frozen then 3 else 7) (s.clusterOf j)).reply c 0x0405 S_OK))

/-- REPLAY_STATUS (0x0406): BX_RPL_STS and BX_RPL_CTX_0 to 15. -/
def execReplayStatus (c : Cap) (s : State) : Host.Outcome State Fault Refusal :=
  done (s.checkedPtr c 0x0406 c.isOp 0 (fun s =>
    s.replyBlob c 0x0406 S_OK (wordBytes (s.readReg .BX_RPL_STS :: (List.range 16).map (fun k => s.readReg .BX_RPL_CTX k)))))

/-- REPLAY_UNIT (0x0407): level, index, RETIRE or RESTORE. -/
def execReplayUnit (c : Cap) (s : State) : Host.Outcome State Fault Refusal :=
  done (s.checked c 0x0407 c.isOp 3 (fun s =>
    if 2 < c.p 0 ∨ unitCount (c.p 0) ≤ c.p 1 ∨ 1 < c.p 2 then s.reply c 0x0407 S_BADPARAM
    else if c.p 2 = 0 then (s.retireUnit (c.p 0) (c.p 1)).reply c 0x0407 S_OK
    else if c.p 0 = 0 ∧ s.rpl.katFailed.contains (c.p 1) then s.reply c 0x0407 S_CONFLICT
    else (s.setRpl { s.rpl with retired := s.rpl.retired.filter (fun u => u ≠ (c.p 0, c.p 1)) }).reply c 0x0407 S_OK))

/-- REPLAY_GEN (0x0408): seed, step, block, stream, call. -/
def execReplayGen (c : Cap) (s : State) : Host.Outcome State Fault Refusal :=
  done (s.checked c 0x0408 c.isOp 5 (fun s =>
    if 2 ^ 48 ≤ c.p 1 ∨ 2 ^ 32 ≤ c.p 2 ∨ 255 < c.p 3 ∨ 2 ^ 32 ≤ c.p 4 then s.reply c 0x0408 S_BADPARAM
    else s.reply c 0x0408 S_OK (genOut (c.p 0) (c.p 1) (c.p 2) (c.p 3) (c.p 4))))

/-- REPLAY_CROSSCHECK (0x0409): two die addresses with Setting Codes, two block addresses, length in bytes, FMT. The blocks lie in space
64; the answer is 0 for a match, else 1 and the index of the first differing element. Blocks with a poisoned word are not compared (R202); the spec
names no answer for them: S_PARTIAL without results (DESIGN CHOICE, log entry 119). -/
def execReplayCrosscheck (c : Cap) (s : State) : Host.Outcome State Fault Refusal :=
  done (s.checked c 0x0409 c.isOp 8 (fun s =>
    match rfmt (c.p 7) with
    | none => s.reply c 0x0409 S_BADPARAM
    | some f =>
      if c.p 1 ≠ c.p 3 then s.reply c 0x0409 S_NOTCOMPARABLE
      else
        let r := s.vaRange srcReplay 64 (c.p 4) (c.p 6) false
        let q := r.2.vaRange srcReplay 64 (c.p 5) (c.p 6) false
        match r.1, q.1 with
        | .ok a, .ok b =>
          let s := q.2
          let (x, xp) := s.readPieces a
          let (y, yp) := s.readPieces b
          if xp || yp then (s.bump BX_BLZ_PSN_CNT0_REPLAY).reply c 0x0409 S_PARTIAL
          else match (List.range (8 * c.p 6 / f.width)).find? (fun i => elemAt f.width x i ≠ elemAt f.width y i) with
          | none => s.reply c 0x0409 S_OK [0]
          | some i => s.reply c 0x0409 S_OK [1, i]
        | .error x, _ => q.2.reply c 0x0409 S_XLATE [x]
        | _, .error x => q.2.reply c 0x0409 S_XLATE [x]))

/-! ## Placement (R313, R314) -/

/-- a leaves the queue before b. -/
def RplJob.before (a b : RplJob) : Bool := decide (b.prio < a.prio) || (a.prio = b.prio && decide (a.seq < b.seq))

/-- The job that leaves the queue next. -/
def nextJob : List RplJob → Option RplJob
  | [] => none
  | j :: t => match nextJob t with
    | none => some j
    | some i => if i.before j then some i else some j

/-- The context a job goes to, and whether into its other bank. -/
def State.placeAt (s : State) (j : RplJob) : Option (Nat × Bool) :=
  let idle := (List.range 16).find? (fun k => s.ctxIn k && (s.rctx k).run.isNone && (s.rctx k).other.isNone)
  match idle with
  | some k => some (k, false)
  | none =>
    if j.prio ≠ 2 then none
    else
      let lower (p : Nat) : Option Nat := (List.range 16).find? (fun k =>
        s.ctxIn k && (s.rctx k).other.isNone && (s.rctx k).run.any (fun i => i.prio = p))
      ((lower 0) <|> (lower 1)).map (fun k => (k, true))

/-- The replay clusters run: xclk is stopped in P1 and below (Table 18-2). -/
def State.replayRuns (s : State) : Bool := s.rd BX_PWR_STS_PSTATE = 0

/-- REPLAY_PLACE: the scheduler looks at the queue, and the loader begins on the job placed. A job that cannot run ends at once. On the way to P2 no further job is placed
(R519). -/
def execReplayPlace (s : State) : Host.Outcome State Fault Refusal :=
  if ¬ s.flag BX_RPL_CTRL_EN ∨ ¬ s.replayRuns ∨ s.up.p2Wait.isSome then done s
  else
    match nextJob s.rpl.queue with
    | none => done s
    | some j =>
      match s.jobStop j with
      | some (o, r) => done (s.finishJob j o r 0)
      | none =>
        match s.placeAt j with
        | none => done s
        | some (k, other) =>
          let s := s.setRpl { s.rpl with queue := s.rpl.queue.filter (fun i => !i.is j) }
          let x := s.rctx k
          let s := s.setRctx k (if other then { x with other := some j, loading := true } else { x with run := some j })
          done (if other then s else s.loadBank k x.bank j).feed

/-- REPLAY_BANK_FILLED: the fill of context k's free bank completes and the context switches banks (R314), unless the fill meets a failed
translation. -/
def execReplayBankFilled (k : Nat) (s : State) : Host.Outcome State Fault Refusal :=
  let x := s.rctx k
  if ¬ x.loading ∨ x.other.any (fun j => j.frozen) ∨ ¬ s.replayRuns then done s
  else
    let s := (x.other.toList).foldl (fun s j => s.loadBank k (!x.bank) j) s
    let x := s.rctx k
    if x.other.any (fun j => j.frozen) then done s
    else
      let s := if x.run.isSome then s.bump BX_RPL_CNT2_PREEMPTS else s
      done (s.setRctx k { x with run := x.other, other := x.run, loading := false, bank := !x.bank })

/-! ## The end of a job (R315 to R317) -/

/-- The unit of a run is retired. -/
def State.retireRun (s : State) (r : RplRun) : State := s.retireUnit r.level r.idx

/-- The job of a context computes on the operands of its bank, compares and stores (R308, R316); a translation that fails freezes it. -/
def State.runJob (s : State) (k : Nat) (j : RplJob) (a : Apd) (r1 r2 r3 : RplRun) : State :=
  let s := s.loadBank k (s.rctx k).bank j
  match s.operandsIn k (s.rctx k).bank j with
  | none => s
  | some m =>
    let loads := m.dm0 ++ m.dm1 ++ m.core
    let outLen := matBytes (rfmtD a.outFmt).width j.m j.n a.outScaled
    let store : Except Nat (List (Nat × Nat)) × State := if j.w 11 = 0 then (.ok [], s) else s.vaRange srcReplay j.tenant (j.w 11) outLen true
    match store with
    | (.error _, s) => s.freeze j
    | (.ok dst, s) =>
      let s := s.modJob j (fun i => { i with frozen := false })
      let j := { j with frozen := false }
      if j.blaze then s.finishJob j oNotReplayed 2 (k / 4)
      else if loads.any (·.2) then s.finishJob j oNotReplayed 1 (k / 4)
      else
        let (ops, expect) := a.operands j (loads.map (·.1))
        let v := a.verdict j (s.flag BX_RPL_CTRL_CONFIRM) (a.output j ops) expect r1 r2 r3
        let b := outBytes (rfmtD a.outFmt).width v.out
        let s := if v.outcome = oEngineFault ∨ j.w 11 = 0 then s else (s.writePieces dst b).storeWords k (16 * a.outFmt + 8 * b2n a.outScaled) (j.w 11) b
        let s := s.finishJob j v.outcome 0 (k / 4) v.confirmed v.bad
        let s := if v.failed then s.bump BX_RPL_CNT1_CONFIRM_FAIL else s
        v.retire.foldl (fun s i => s.retireRun ([r1, r2, r3].getD i r1)) s

/-- REPLAY_JOB_END: the running job of context k ends. The runs name the units it and its confirmations used, and the elements a faulty
unit gives wrong bits. -/
def execReplayJobEnd (k : Nat) (r1 r2 r3 : RplRun) (s : State) : Host.Outcome State Fault Refusal :=
  match (if s.replayRuns then (s.rctx k).run else none) with
  | none => done s
  | some j =>
    match s.rpl.apds.find? j.slot with
    | none => done (s.finishJob j oNotReplayed 4 (k / 4))
    | some b => done (s.runJob k j (parseApd b) r1 r2 r3)

/-- REPLAY_XLATE_FAULT: a translation of context k fails; other tells that it arose in the bank being loaded. -/
def execReplayXlateFault (k : Nat) (other : Bool) (va cause : Nat) (s : State) : Host.Outcome State Fault Refusal :=
  match (if other then (s.rctx k).other else (s.rctx k).run) with
  | none => done s
  | some j => done ((s.xlFault srcReplay j.tenant va cause).freeze j)

/-- REPLAY_KAT: engine e's known-answer set has run in the free bank of its context, and passed or failed (R339). -/
def execReplayKat (e : Nat) (pass : Bool) (s : State) : Host.Outcome State Fault Refusal :=
  if 256 ≤ e ∨ pass ∨ ¬ s.replayRuns ∨ ¬ s.engineIn e ∨ (s.rctx (e / 16)).other.isSome then done s
  else
    let s := (s.bump BX_RPL_CNT2_KAT_FAILS).setRpl { s.rpl with katFailed := addMark s.rpl.katFailed e }
    let s := s.retireUnit 0 e
    let s := s.signal { ty := 0x0702, source := 7, idx := e, detail := e }
    done (s.alarmUp 0x28 (s.bxAlarm 0x0701 (packFields [(56, 8, 7), (0, 22, e)])))

end Sys2Proof.Machine
end

