-- ==== Sys2Proof/Machine/Gate.lean ====
section
/-! DEFINITION. The commit gate's commands (Table 12-12) and its waits (R351, R354, R355). -/
namespace Sys2Proof.Machine

/-- The capsule comes from the operator or from a job's tenant. -/
def Cap.ownsJob (c : Cap) (j : Job) : Bool := c.isOp || (c.isTenant && c.tenant = j.tenant)

/-- The row of Table 12-2 from row 3 on that an announcement of a job matches: its status and what it counts. -/
def State.announceRow (s : State) (g : GStep) (j : Job) : Nat × Option Fld :=
  let isOld : Bool := match j.old with
    | none => false
    | some o => o.1 = g.inc
  let die := if isOld then j.oldDie else j.die
  let cut := (j.old.map (·.2)).getD 0
  let fenced : Bool := (g.inc = j.curInc || isOld) && (match (s.die die).fence with
    | none => false
    | some f => decide (f ≤ s.closeOf g.epoch))
  let pending := (s.gate.steps.filter (fun h => h.tenant = j.tenant)).length
  if fenced then (S_FENCED, some BX_CMT_CNT4_FENCED_DROP)
  else if (g.inc ≠ j.curInc ∧ ¬ isOld) ∨ (isOld ∧ cut ≤ g.epoch) then (S_STALE, some BX_CMT_CNT2_STALE_PLACEMENT)
  else if ¬ isOld ∧ j.old.isSome ∧ g.epoch < cut then (S_BADPARAM, some BX_CMT_CNT3_PLACEMENT_ERR)
  else if j.stuck then (S_CONFLICT, none)
  else if g.attempt < j.attempt then (S_STALE, none)
  else if j.rollback ∧ g.attempt ≠ j.attempt then (S_STALE, none)
  else if g.step < j.nextStep then (S_CONFLICT, some BX_CMT_CNT2_DUP_STEP)
  else if j.nextStep < g.step then (S_NOTNOW, none)
  else if 65536 ≤ s.gate.steps.length ∨ s.rd BX_CMT_TEN_POLICY_MAX_PENDING j.tenant ≤ pending then (S_BUSY, none)
  else (S_OK, none)

/-- An accepted announcement (R346, R347): the job moves on, the step is selected or not; a step of an AFTER job commits at once. The
answer is 0 SELECTED or 1 UNSELECTED. -/
def State.accept? (s : State) (g : GStep) (j : Job) : Bool × State :=
  let isOld : Bool := match j.old with
    | none => false
    | some o => o.1 = g.inc
  let g := { g with die := if isOld then j.oldDie else j.die, unit := if isOld then j.oldUnit else j.unit }
  let (sel, prio, u, cause) := s.select g j.apd (0 < j.after)
  let g := { g with selected := sel, prio := prio, u := u, ready := if sel then none else some cause }
  let s := s.bump BX_CMT_CNT0_ANNOUNCED
  let s := if sel then s.bump BX_CMT_CNT1_SELECTED else if cause = cNotComparable then s.bump BX_CMT_CNT2_NOTCOMPARABLE else s
  let s := if sel then s.setGate { s.gate with alerts := s.gate.alerts.filter (fun a => a ≠ (g.die, g.tag)) } else s
  let s := s.setJob g.job { j with nextStep := g.step + 1, rollback := false, after := j.after - 1 }
  let keep := s.setGate { s.gate with steps := s.gate.steps ++ [g] }
  if g.gated then (sel, keep)
  else (sel, (if sel then keep else s).commitStep g cAfter)

/-- STEP_ANNOUNCE (0x0410): DMA pointer to a step record. -/
def execStepAnnounce (c : Cap) (s : State) : Host.Outcome State Fault Refusal :=
  done (s.checked c 0x0410 (c.isOp || c.isTenant) 1 (fun s =>
    let b := padTo 128 c.data
    let id := rdLe b 4 4
    match s.gjob? id with
    | none => s.reply c 0x0410 S_BADPARAM
    | some j =>
      let pol (f : Fld) : Nat := s.rd f j.tenant
      let g : GStep := {
        job := id, record := b, die := j.die, unit := j.unit, selected := false, accepted := s.bxNs, gated := j.gated
        onUnchecked := pol BX_CMT_TEN_POLICY_HOLD_EXTERNAL ≠ 0 || pol BX_CMT_TEN_POLICY_ON_UNCHECKED ≠ 0, sc := j.sc
        afterRevoke := pol BX_CMT_TEN_POLICY_AFTER_REVOKE }
      if ¬ c.ownsJob j then s.reply c 0x0410 S_DENIED
      else if g.tenant ≠ j.tenant ∨ g.kind = 3 then s.reply c 0x0410 S_BADPARAM
      else if ¬ s.flag BX_CMT_CTRL_EN then s.reply c 0x0410 S_NOTNOW
      else
        let r := s.announceRow g j
        let s := match r.2 with
          | none => s
          | some f => s.bump f
        if r.1 ≠ S_OK then s.reply c 0x0410 r.1
        else
          let x := s.accept? g j
          x.2.reply c 0x0410 S_OK [b2n !x.1]))

/-- The steps that a wait has run out for resolve UNCHECKABLE. -/
def State.expire (s : State) (due : GStep → Bool) : State :=
  (s.gate.steps.filter (fun g => g.ready.isNone && due g)).foldl (fun s h =>
    match s.gstep? h.job h.step h.attempt with
    | none => s
    | some g => s.resolve g cUncheckable) s

/-- Selected steps whose operands have not come within OPERAND_WAIT_MS resolve (R351). -/
def State.expireOperands (s : State) : State :=
  let lim := max 1 (s.rd BX_CMT_CTRL_OPERAND_WAIT_MS) * 1000000
  s.expire (fun g => g.selected && g.operands.isNone && decide (g.accepted + lim ≤ s.bxNs))

/-- OPERAND_WAIT_EXPIRY: the wait of R351 is looked at. -/
def execOperandWaitExpiry (s : State) : Host.Outcome State Fault Refusal := done s.expireOperands

/-- STEP_OPERANDS (0x0411): JOB_ID, STEP, ATTEMPT; DMA pointer to words 6 to 11 of Table 11-2. A wait that has run out wins (R373). -/
def execStepOperands (c : Cap) (s : State) : Host.Outcome State Fault Refusal :=
  done (s.checked c 0x0411 (c.isOp || c.isTenant) 4 (fun s =>
    let s := s.expireOperands
    match s.gjob? (c.p 0) with
    | none => s.reply c 0x0411 S_STALE
    | some j =>
      if ¬ c.ownsJob j then s.reply c 0x0411 S_DENIED
      else
        match s.gstep? (c.p 0) (c.p 1) (c.p 2) with
        | none => s.reply c 0x0411 (if c.p 1 < j.nextStep ∨ c.p 2 < j.attempt then S_STALE else S_NOTNOW)
        | some g =>
          let ops := leWords (padTo 48 c.data)
          if g.selected ∧ g.ready.isSome then s.reply c 0x0411 S_STALE
          else if ¬ g.selected ∨ g.operands.isSome then s.reply c 0x0411 S_NOTNOW
          else if ops.getD 5 0 ≠ 0 then s.reply c 0x0411 S_BADPARAM
          else
            match s.badAddress 0x81 j.tenant ops with
            | (some x, s) => s.reply c 0x0411 S_XLATE [x]
            | (none, s) =>
              let jobs := s.stepJobs g j.apd ops
              ((s.setStep { g with operands := some ops, heldJobs := jobs, njobs := jobs.length }).feed).reply c 0x0411 S_OK))

/-- GATE_WAIT_EXPIRY: steps still unresolved GATE_WAIT_MS after their acceptance. -/
def execGateWaitExpiry (s : State) : Host.Outcome State Fault Refusal :=
  let lim := max 1 (s.rd BX_CMT_CTRL_GATE_WAIT_MS) * 1000000
  done (s.expire (fun g => decide (g.accepted + lim ≤ s.bxNs)))

/-- STEP_COMMIT: the first provisional step of a job, if its resolution is to commit (R355). -/
def execStepCommit (job : Nat) (s : State) : Host.Outcome State Fault Refusal :=
  match s.stepsOf job with
  | [] => done s
  | g :: _ =>
    match g.ready with
    | none => done s
    | some cause => if g.gated then done ((s.commitStep g cause).endStep g) else done s

/-- JOB_OPEN (0x0412): JOB_ID, tenant, die address, UNIT, incarnation, APD slot, first step. -/
def execJobOpen (c : Cap) (s : State) : Host.Outcome State Fault Refusal :=
  done (s.checked c 0x0412 c.isOp 7 (fun s =>
    let t := c.p 1
    match s.localDie? (c.p 2) with
    | none => s.reply c 0x0412 S_BADPARAM
    | some d =>
      let bad : Bool := d = 64 || decide (2 ^ 32 ≤ c.p 0) || decide (63 < t) || decide (1023 < c.p 3) || c.p 4 = 0 || decide (65535 < c.p 4) ||
        (s.rpl.apds.find? (c.p 5)).isNone || decide (2 ^ 48 ≤ c.p 6)
      if bad then s.reply c 0x0412 S_BADPARAM
      else if (s.gjob? (c.p 0)).isSome then s.reply c 0x0412 S_CONFLICT
      else if 4096 ≤ s.gate.jobs.length then s.reply c 0x0412 S_BUSY
      else
        let sc := s.flag BX_CMT_TEN_POLICY_SC t
        (s.setJob (c.p 0) {
          tenant := t, die := d, unit := c.p 3, apd := c.p 5, gated := !sc && s.flag BX_CMT_TEN_POLICY_GATE t, sc := sc, nextStep := c.p 6
          curInc := c.p 4 }).reply c 0x0412 S_OK))

/-- PLACEMENT_MIGRATE (0x0413): JOB_ID, die address, UNIT, incarnation, cut epoch E (R362). -/
def execPlacementMigrate (c : Cap) (s : State) : Host.Outcome State Fault Refusal :=
  done (s.checked c 0x0413 c.isOp 5 (fun s =>
    let e := c.p 4
    match s.gjob? (c.p 0), s.localDie? (c.p 1) with
    | some j, some d =>
      let oldInc := (j.old.map (·.1)).getD 0
      let again : Bool := match j.old with
        | none => false
        | some o => decide (s.bxEpoch ≤ o.2 + 3)
      if d = 64 ∨ 1023 < c.p 2 ∨ 65535 < c.p 3 then s.reply c 0x0413 S_BADPARAM
      else if e < s.bxEpoch + max 2 (s.rd BX_CMT_CTRL_MIG_LEAD) then s.reply c 0x0413 S_NOTNOW
      else if c.p 3 = 0 ∨ c.p 3 = j.curInc ∨ c.p 3 = oldInc ∨ again then s.reply c 0x0413 S_CONFLICT
      else
        let s := s.setJob (c.p 0) { j with
          old := some (j.curInc, e), oldDie := j.die, oldUnit := j.unit, curInc := c.p 3, die := d, unit := c.p 2 }
        let r : LedgerRec := {
          kind := 5, tenant := j.tenant, job := c.p 0, attempt := j.attempt, slot := j.apd, inc := c.p 3, step := e, addr := s.dieAddr d
          unit := c.p 2 }
        (s.ledger r).2.2.reply c 0x0413 S_OK
    | _, _ => s.reply c 0x0413 S_BADPARAM))

/-- The fields of a tenant's policy (Table 12-13), in order. -/
def policyFields : List Fld :=
  [BX_CMT_TEN_POLICY_SC, BX_CMT_TEN_POLICY_GATE, BX_CMT_TEN_POLICY_HOLD_EXTERNAL, BX_CMT_TEN_POLICY_ON_UNCHECKED, BX_CMT_TEN_POLICY_AFTER_REVOKE,
   BX_CMT_TEN_POLICY_SAMPLE_PPM, BX_CMT_TEN_POLICY_MAX_PENDING, BX_CMT_TEN_POLICY_LEDGER_LOG2]

/-- What a policy field stores. -/
def policyStore (f : Fld) (v : Nat) : Nat :=
  if f = BX_CMT_TEN_POLICY_SAMPLE_PPM then min v 1000000 else if f = BX_CMT_TEN_POLICY_LEDGER_LOG2 then max 10 (min v 24) else v

/-- COMMIT_POLICY_SET (0x0414): tenant, then every field of Table 12-13; a tenant sets only GATE, HOLD_EXTERNAL, ON_UNCHECKED,
AFTER_REVOKE and SAMPLE_PPM of its own. -/
def execCommitPolicySet (c : Cap) (s : State) : Host.Outcome State Fault Refusal :=
  done (s.checked c 0x0414 (c.isOp || c.isTenant) 9 (fun s =>
    let t := c.p 0
    let fs := policyFields.zip (c.params.drop 1)
    let kept (f : Fld) : Bool := [BX_CMT_TEN_POLICY_SC, BX_CMT_TEN_POLICY_MAX_PENDING, BX_CMT_TEN_POLICY_LEDGER_LOG2].contains f
    let other : Bool := !c.isOp && (t ≠ c.tenant || fs.any (fun x => kept x.1 && s.rd x.1 t ≠ x.2))
    if other then s.reply c 0x0414 S_DENIED
    else if 63 < t ∨ fs.any (fun x => decide (x.1.max < x.2)) ∨ c.p 6 < s.rd BX_CMT_SUSPECT_MIN_SAMPLE_PPM then s.reply c 0x0414 S_BADPARAM
    else (fs.foldl (fun s x => s.wr x.1 t (policyStore x.1 x.2)) s).reply c 0x0414 S_OK))

/-- COMMIT_STATUS (0x0415): NEXT_STEP, ATTEMPT, LAST_COMMITTED, steps pending, state. -/
def execCommitStatus (c : Cap) (s : State) : Host.Outcome State Fault Refusal :=
  done (s.checked c 0x0415 (c.isOp || c.isTenant) 1 (fun s =>
    match s.gjob? (c.p 0) with
    | none => s.reply c 0x0415 S_STALE
    | some j =>
      if ¬ c.ownsJob j then s.reply c 0x0415 S_DENIED
      else s.reply c 0x0415 S_OK [j.nextStep, j.attempt, j.lastCommitted.getD 0, (s.stepsOf (c.p 0)).length,
        if j.stuck then 2 else if j.rollback then 1 else 0]))

/-- A SEQ of a tenant's ledger: overwritten, or never held for want of a partition. -/
def State.entryGone (s : State) (t seq : Nat) : Bool :=
  decide (seq + s.ledgerSize t < s.rd BX_CMT_LEDGER_NEXT_SEQ t) || (s.ledgerBase? t).isNone

/-- The bytes of an entry as held; one that is gone reads as zeros. -/
def State.entryBytes (s : State) (t seq : Nat) : Bytes :=
  match s.ledgerBase? t with
  | none => zeroBytes 160
  | some a => if s.entryGone t seq then zeroBytes 160 else s.hbmRead (a + seq % s.ledgerSize t * 160) 160

/-- An entry is poisoned. -/
def State.entryBad (s : State) (t seq : Nat) : Bool :=
  s.gate.badEntries.contains (t, seq) || (match s.ledgerBase? t with
    | none => false
    | some a => !s.entryGone t seq && s.hbmPoisoned (a + seq % s.ledgerSize t * 160) 160)

/-- LEDGER_READ (0x0416): tenant, first SEQ, count, DMA pointer. S_PARTIAL answers the first SEQ that is gone or poisoned. -/
def execLedgerRead (c : Cap) (s : State) : Host.Outcome State Fault Refusal :=
  done (s.checked c 0x0416 (c.isOp || c.isTenant) 4 (fun s =>
    let t := c.p 0
    let next := s.rd BX_CMT_LEDGER_NEXT_SEQ t
    let n := min (c.p 2) (next - min next (c.p 1))
    let seqs := (List.range n).map (fun i => c.p 1 + i)
    let hw := some (c.p 3, seqs.flatMap (s.entryBytes t))
    if ¬ c.isOp ∧ t ≠ c.tenant then s.reply c 0x0416 S_DENIED
    else if 63 < t then s.reply c 0x0416 S_BADPARAM
    else if 0 < n ∧ seqs.all (s.entryGone t) then s.reply c 0x0416 S_STALE
    else
      match seqs.find? (fun q => s.entryGone t q || s.entryBad t q) with
      | none => s.reply c 0x0416 S_OK [n] 0 hw
      | some q => s.reply c 0x0416 S_PARTIAL [q] 0 hw))

/-- LEDGER_HEAD (0x0417): the next SEQ and the last CHAIN. -/
def execLedgerHead (c : Cap) (s : State) : Host.Outcome State Fault Refusal :=
  done (s.checked c 0x0417 (c.isOp || c.isTenant) 1 (fun s =>
    let t := c.p 0
    if ¬ c.isOp ∧ t ≠ c.tenant then s.reply c 0x0417 S_DENIED
    else if 63 < t then s.reply c 0x0417 S_BADPARAM
    else s.reply c 0x0417 S_OK (s.rd BX_CMT_LEDGER_NEXT_SEQ t :: digestWords (s.gate.chains.getD t (zeroBytes 32)))))

/-- JOB_CLOSE (0x0418): JOB_ID; FORCE. -/
def execJobClose (c : Cap) (s : State) : Host.Outcome State Fault Refusal :=
  done (s.checked c 0x0418 (c.isOp || c.isTenant) 2 (fun s =>
    match s.gjob? (c.p 0) with
    | none => s.reply c 0x0418 S_STALE
    | some j =>
      let steps := s.stepsOf (c.p 0)
      if ¬ c.ownsJob j then s.reply c 0x0418 S_DENIED
      else if steps ≠ [] ∧ ¬ bitAt (c.p 1) 0 then s.reply c 0x0418 S_BUSY
      else
        let s := steps.foldl (fun s g => if g.gated then s.revokeOne g cClosed else s.endStep g) s
        (s.setGate { s.gate with jobs := s.gate.jobs.erase (c.p 0) }).reply c 0x0418 S_OK))

end Sys2Proof.Machine
end

