-- ==== Sys2Proof/Machine/Grove.lean ====
section
/-! DEFINITION. The Grove engine's commands (R255 to R276): loading, scoring, split models, the Grove-S check and the opcodes of
Table 9-18. -/
namespace Sys2Proof.Machine

/-! ## Memories and placement (R256, R257) -/

/-- Capacity of memory m: 0 tree bytes, 1 predicates, 2 leaf values, 3 rule masks, 4 to 7 the rule banks. -/
def grvCap (m : Nat) : Nat := [8388608, 32768, 131072, 4096, 16384, 16384, 16384, 16384].getD m 0

/-- Occupied extents of a memory, start and length, in ascending order. -/
def State.grvUsed (s : State) (m : Nat) : List (Nat × Nat) :=
  sortBy (fun a b => a.1 ≤ b.1) (((s.grv.slots.flatMap (fun x => x.2.extents)).filter (fun e => e.1 = m ∧ e.2.2 ≠ 0)).map (fun e => e.2))

/-- The lowest start from which n fit between occupied extents. -/
def firstFit (n : Nat) : Nat → List (Nat × Nat) → Nat
  | at_, [] => at_
  | at_, (st, len) :: t => if at_ + n ≤ st then at_ else firstFit n (st + len) t

/-- The lowest free extent of a memory that is large enough, if any. -/
def State.alloc (s : State) (m n : Nat) : Option (Nat × Nat × Nat) :=
  let a := firstFit n 0 (s.grvUsed m)
  if a + n ≤ grvCap m then some (m, a, n) else none

/-- Trees placed in a rule bank by the models loaded. -/
def State.bankTrees (s : State) (b : Nat) : Nat := (s.grv.slots.map (fun x => (x.2.banks.filter (fun y => y = b)).length)).foldl (· + ·) 0

/-- One more tree of r rules placed: banks chosen so far, rules and trees per bank; none when it fits no bank. -/
def placeTree (room : Nat → Nat → Bool) (a : Option (List Nat × SMap Nat × SMap Nat)) (r : Nat) : Option (List Nat × SMap Nat × SMap Nat) :=
  match a with
  | none => none
  | some (bs, rules, trees) =>
    let ok := (List.range 4).filter (fun b => room b (rules.getD b 0 + r))
    match ok with
    | [] => none
    | b0 :: t =>
      let b := t.foldl (fun x y => if trees.getD y 0 < trees.getD x 0 then y else x) b0
      some (bs ++ [b], rules.set b (rules.getD b 0 + r), trees.set b (trees.getD b 0 + 1))

/-- Extents and banks of a checked binary, none where a memory lacks room (reason 0x0C). -/
def State.place (s : State) (b : Bytes) : Option (List (Nat × Nat × Nat) × List Nat) :=
  let h := parseModel b
  let l := h.binary
  match s.alloc 1 h.npred, s.alloc 2 h.nleaf, s.alloc 3 h.nmask with
  | some p, some f, some m =>
    if h.form = 0 then (s.alloc 0 h.treeSection).map (fun t => ([t, p, f, m], []))
    else
      let rs := (List.range h.ntrees).map (fun t => let r := ruleRange b l t; r.2)
      let start : List Nat × SMap Nat × SMap Nat := ([], [], (List.range 4).map (fun i => (i, s.bankTrees i)))
      match rs.foldl (placeTree (fun i n => (s.alloc (4 + i) n).isSome)) (some start) with
      | none => none
      | some r => some ([p, f, m] ++ (List.range 4).filterMap (fun i => s.alloc (4 + i) (r.2.1.getD i 0)), r.1)
  | _, _, _ => none

/-! ## Load and unload -/

/-- The digest some settings name for a slot, if they name it. -/
def Settings.wants (c : Settings) (slot : Nat) : List Bytes :=
  let dig (f : Fld) (base : Nat) : Bytes := (List.range 4).flatMap (fun j => beBytes 8 (c.fld f (base + j)))
  ((List.range 8).filter (fun k => c.fld BX_GRV_SEL_EN k ≠ 0 ∧ c.fld BX_GRV_SEL_SLOT k = slot)).map (fun k => dig BX_GRV_SEL_DIG_DIG (4 * k)) ++
    (if c.fld BX_GRV_GRS_SEL_EN 0 ≠ 0 ∧ c.fld BX_GRV_GRS_SEL_SLOT 0 = slot then [dig BX_GRV_GRS_DIG_DIG 0] else [])

/-- A digest is the one every generation that selects the slot names. -/
def State.digestWanted (s : State) (slot : Nat) (d : Bytes) : Bool :=
  (s.cfg.wants slot ++ (match s.ep.staged with
    | none => []
    | some g => g.cfg.wants slot)).all (fun x => x = d)

/-- The load checks of Table 9-11 in order: reason and status of the first that fails. -/
def State.loadCheck (s : State) (slot len : Nat) (b : Bytes) : Option (Nat × Nat) :=
  if b.length ≠ len then some (1, S_BADPARAM)
  else match modelCheck b with
    | some r => some (r, S_BADPARAM)
    | none =>
      let full : Bool := (s.grv.slots.find? slot).isSome
      if full ∧ s.slotSelected slot ∨ s.slotBound slot then some (0x0B, S_BUSY)
      else if ({ s with grv := { s.grv with slots := s.grv.slots.erase slot } }.place b).isNone then some (0x0C, S_NOTNOW)
      else if ¬ full ∧ ¬ s.digestWanted slot (sha256 b) then some (0x0D, S_CONFLICT)
      else none

/-- The default threshold and alarm mask of a loaded model enter their registers (Table 9-21). -/
def State.setThr (s : State) (slot : Nat) (b : Bytes) : State :=
  let s := s.wr BX_GRV_THR_VOTE_MIN slot (parseModel b).voteMin
  (List.range 4).foldl (fun s j => s.wr BX_GRV_AMASK_AMASK (4 * slot + j) (rdLe b (64 + 8 * j) 8)) s

/-- The image of a reloaded Grove-S slot goes to each local ZX40 whose live bank does not hold it (R274). -/
def State.reloadGrs (s : State) (slot : Nat) : State :=
  if s.cfg.fld BX_GRV_GRS_SEL_EN 0 = 0 ∨ s.cfg.fld BX_GRV_GRS_SEL_SLOT 0 ≠ slot then s
  else (List.range 65).foldl (fun s p =>
    let d := s.die p
    if d.cur = 0 ∨ (s.link (.stem p)).lstate ≠ .active ∨ (d.runs = s.liveGen ∧ d.image = s.liveGen) then s else s.sendRun p) s

/-- A home's message to the BX64 that holds a part: a question (way 256), or with way 512 to pin the part for it, with peer 0xFFF to let it
go (log entry 15). -/
def State.tellPeer (s : State) (b : PeerBind) (tag tenant way peer : Nat) : State :=
  let w0 := packFields [(48, 16, 0x0305), (32, 16, tag), (24, 6, tenant), (16, 8, 64), (13, 1, 1)]
  s.sendMsg 4 0 2 b.peer (wordBytes ([w0, 0, way + b.slot, b.part, peer, b.peerSlot] ++ leWords b.digest))

/-- The bindings of a home slot end, and their parts are let go: all of them, or that of one part. -/
def State.unbind (s : State) (c : Cap) (slot : Nat) (part : Option Nat) : State :=
  let gone (b : PeerBind) : Bool := b.slot = slot && part.all (fun j => b.part = j)
  let s := (s.grv.binds.filter gone).foldl (fun s (b : PeerBind) => s.tellPeer b c.tag c.tenant 512 0xFFF) s
  { s with grv := { s.grv with binds := s.grv.binds.filter (fun (b : PeerBind) => ¬ gone b) } }

/-- GROVE_LOAD (0x0301): slot; DMA pointer and length, whose bytes come with the capsule. -/
def execGroveLoad (c : Cap) (s : State) : Host.Outcome State Fault Refusal :=
  done (s.checked c 0x0301 c.isOp 3 (fun s =>
    if 15 < c.p 0 then s.reply c 0x0301 S_BADPARAM
    else
      match s.loadCheck (c.p 0) (c.p 2) c.data with
      | some r => s.reply c 0x0301 r.2 [] r.1
      | none =>
        let s := { s with grv := { s.grv with slots := s.grv.slots.erase (c.p 0) } }
        let pl := (s.place c.data).getD ([], [])
        let m : Model := { binary := c.data, digest := sha256 c.data, extents := pl.1, banks := pl.2 }
        let s := { s with grv := { s.grv with slots := s.grv.slots.set (c.p 0) m } }.unbind c (c.p 0) none
        ((s.setThr (c.p 0) c.data).reloadGrs (c.p 0)).reply c 0x0301 S_OK (leWords m.digest)))

/-- GROVE_UNLOAD (0x0302). -/
def execGroveUnload (c : Cap) (s : State) : Host.Outcome State Fault Refusal :=
  done (s.checked c 0x0302 c.isOp 1 (fun s =>
    if 15 < c.p 0 then s.reply c 0x0302 S_BADPARAM
    else if s.slotSelected (c.p 0) ∨ s.slotBound (c.p 0) then s.reply c 0x0302 S_BUSY
    else
      let s := { s with grv := { s.grv with slots := s.grv.slots.erase (c.p 0) } }.unbind c (c.p 0) none
      s.reply c 0x0302 S_OK))

/-- GROVE_INFO (0x0303): header words 0 to 5, digest, entries used of each memory, and per rule bank its trees. -/
def execGroveInfo (c : Cap) (s : State) : Host.Outcome State Fault Refusal :=
  done (s.checkedPtr c 0x0303 c.isOp 1 (fun s =>
    match s.grv.slots.find? (c.p 0) with
    | none => s.reply c 0x0303 S_BADPARAM
    | some m =>
      let used := (List.range 8).map (fun i => ((m.extents.filter (fun e => e.1 = i)).map (fun e => e.2.2)).foldl (· + ·) 0)
      let banks := (List.range 4).map (fun i => (m.banks.filter (fun b => b = i)).length)
      s.replyBlob c 0x0303 S_OK (m.binary.take 48 ++ m.digest ++ wordBytes (used ++ banks))))

/-! ## Scoring (R258 to R260) -/

/-- The threshold in force for a slot under some settings. -/
def State.voteMin (s : State) (c : Settings) (slot : Nat) : Nat :=
  match c.regs.find? (fun r => r.reg = .BX_GRV_THR ∧ r.idx = slot) with
  | some r => bits r.word 31 0
  | none => s.rd BX_GRV_THR_VOTE_MIN slot

/-- A class's bit of the alarm mask in force for a slot under some settings. -/
def State.amask (s : State) (c : Settings) (slot cls : Nat) : Bool :=
  let i := 4 * slot + cls / 64
  let w := match c.regs.find? (fun r => r.reg = .BX_GRV_AMASK ∧ r.idx = i) with
    | some r => r.word
    | none => s.rd BX_GRV_AMASK_AMASK i
  w.testBit (cls % 64)

/-- The settings of a generation number, where one is held. -/
def State.genCfg (s : State) (gen : Nat) : Settings := ((s.ep.gens.find? (fun (g : GenRec) => g.gen = gen)).map (fun (g : GenRec) => g.cfg)).getD s.cfg

/-- A score record (Table 9-13) as four words. -/
def scoreWords (v : Bytes) (stage slot : Nat) (r : Vote) (alarm : Bool) (h : MHdr) : List Nat :=
  let w1 := rdLe v 8 8
  [rdLe v 0 8,
   packFields [(30, 34, w1 >>> 30), (27, 3, stage), (23, 4, slot), (15, 8, if 1 < r.status then 0xFF else r.cls), (14, 1, b2n alarm), (12, 2, r.status),
     (11, 1, bits w1 16 16)],
   if 1 < r.status then 0 else packFields [(32, 32, r.win), (0, 32, r.runner)],
   packFields [(32, 32, h.modelId), (16, 16, h.modelVer), (0, 16, vecGen v)]]

/-- The local die index of a vector. -/
def vecDie (v : Bytes) : Nat := if bitAt (rdLe v 8 8) 16 then 64 else bits (rdLe v 8 8) 51 46

/-- The score store takes a record, and lets go those beyond the retention window (R259, R418). -/
def State.storeScore (s : State) (v : Bytes) (stage : Nat) (ws : List Nat) : State :=
  let n := vecEpoch v
  let r : ScoreRec := { epoch := n, committed := vecCommitted v, die := vecDie v, stage := stage, bytes := wordBytes ws }
  let keep := s.grv.scores.filter (fun (x : ScoreRec) => ¬ s.beyondRetention x.epoch ∧
    ¬ (x.epoch = n ∧ x.committed = r.committed ∧ x.die = r.die ∧ x.stage = stage))
  { s with grv := { s.grv with scores := keep ++ [r] } }

/-- What a result counts. -/
def State.countScore (s : State) (r : Vote) (alarm : Bool) : State :=
  let s := s.bump BX_GRV_CNT0_VECTORS
  let s := if alarm then s.bump BX_GRV_CNT0_ALARMS else s
  match r.status with
  | 1 => s.bump BX_GRV_CNT1_ABSTAINS
  | 2 => s.bump BX_GRV_CNT1_PART_MISSING
  | 3 => s.bump BX_GRV_CNT1_FAULTS
  | _ => s

/-- A stage's result: the record, its counters, its alarm and reason GROVE. -/
def State.finishScore (s : State) (v : Bytes) (stage slot : Nat) (r : Vote) (h : MHdr) : State :=
  let c := s.genCfg (vecGen v)
  let alarm := r.alarm (fun k => s.amask c slot k)
  let ws := scoreWords v stage slot r alarm h
  let s := (s.countScore r alarm).storeScore v stage ws
  let d := vecDie v
  let s := if alarm ∧ c.fld BX_GRV_SEL_FWD stage ≠ 0 then
      s.alarmUp 0x24 (s.bxAlarm (packFields [(8, 8, stage), (0, 8, r.cls)]) (ws.getD 1 0) (some d)) else s
  if alarm ∧ vecCommitted v ∧ (c.fld BX_COR_ACT_GROVE_STAGES 0).testBit stage then (s.setReason d 0 (vecEpoch v)).mirrorDie d else s

/-- A FAULT is recorded: slot and memory (R273). -/
def State.grvFault (s : State) (slot mem : Nat) : State := s.signal { ty := 0x0603, source := 5, idx := slot, detail := slot, extra := mem }

/-- The class sums of a slot's model over a vector, none for FAULT; fault names a memory whose word reads with an uncorrectable error. -/
def State.partSums (s : State) (slot : Nat) (m : Model) (v : Bytes) (fault : Option Nat) : Option (List Nat) × State :=
  match fault with
  | some mem => (none, s.grvFault slot mem)
  | none =>
    let h := parseModel m.binary
    match modelSums m.binary h.binary h (vecFeat v) with
    | some x => (some x, s)
    | none => (none, s.grvFault slot 4)

/-- A vector is scored by the model of a slot: at once, or in parts (R264). eval is the GROVE_EVAL it answers. -/
def State.scoreWith (s : State) (v : Bytes) (stage slot : Nat) (m : Model) (fault : Option Nat) (finish : State → Vote → State) (eval : Option Cap) :
    State :=
  let h := parseModel m.binary
  let num := (s.grv.vecNum + 1) % 2 ^ 32
  let send (s : State) : State :=
    (s.grv.binds.filter (fun (b : PeerBind) => b.slot = slot)).foldl (fun s (b : PeerBind) =>
      s.sendMsg 4 0x20 5 b.peer (wordBytes [b.peerSlot, b.part, num] ++ v)) { s with grv := { s.grv with vecNum := num } }
  let s := if h.partCount = 1 then s else send s
  let (sums, s) := s.partSums slot m v fault
  match sums with
  | none => finish s { status := 3, cls := 0xFF, win := 0, runner := 0 }
  | some x =>
    if h.partCount = 1 then finish s (voteOf x (s.voteMin (s.genCfg (vecGen v)) slot) h.tieAbstain)
    else
      let sv : SplitVec := { num := num, stage := stage, slot := slot, vector := v, at_ := s.bxNs, parts := [(0, some x)], eval := eval }
      { s with grv := { s.grv with split := s.grv.split ++ [sv] } }

/-- GROVE_SCORE: stage k scores the last vector of die d, committed or provisional. fault: a memory read with an uncorrectable error. -/
def execGroveScore (d k : Nat) (committed : Bool) (fault : Option Nat) (s : State) : Host.Outcome State Fault Refusal :=
  match s.grv.vectors.find? (2 * d + b2n committed) with
  | none => done s
  | some v =>
    let c := s.genCfg (vecGen v)
    let n := vecEpoch v
    let key := if committed then 8 * d + k else 1024 + 8 * d + k
    let stamp := if committed then n else n * 4096 + bits (rdLe v 0 2) 11 0
    let past : Bool := !committed && (match s.grv.vectors.find? (2 * d + 1) with
      | some w => decide (n ≤ vecEpoch w)
      | none => false)
    if 7 < k ∨ c.fld BX_GRV_SEL_EN k = 0 ∨ (¬ committed ∧ c.fld BX_GRV_SEL_INPUT k = 0) ∨ past ∨ s.grv.lastScored.find? key = some stamp then done s
    else
      let s := { s with grv := { s.grv with lastScored := s.grv.lastScored.set key stamp } }
      let slot := c.fld BX_GRV_SEL_SLOT k
      match s.grv.slots.find? slot with
      | none => done (s.bump BX_GRV_CNT1_NO_MODEL)
      | some m => done (s.scoreWith v k slot m fault (fun s r => s.finishScore v k slot r (parseModel m.binary)) none)

/-! ## Split models (R262 to R265) -/

/-- GROVE_VEC_RECEIVE: the home src sends a vector for a part held here. A FAULT of it counts here (R273). -/
def execGroveVecReceive (q src slot part num : Nat) (v : Bytes) (fault : Option Nat) (s : State) : Host.Outcome State Fault Refusal :=
  let s := s.consume (.canopy q) 4 0x20
  let answer (s : State) (m : Option Model) (sums : Option (List Nat)) : State :=
    let h := (m.map (fun x => parseModel x.binary)).getD (parseModel [])
    let xs := sums.getD []
    s.sendMsg 4 0x21 5 src (wordBytes ([num, part, b2n sums.isNone, packFields [(32, 32, h.modelId), (16, 16, h.modelVer)], xs.length] ++ xs))
  match s.grv.slots.find? slot with
  | none => done (answer s none none)
  | some m =>
    if (parseModel m.binary).part ≠ part then done (answer s (some m) none)
    else
      let (sums, s) := s.partSums slot m v fault
      done (answer (if sums.isNone then s.bump BX_GRV_CNT1_FAULTS else s) (some m) sums)

/-- The sums of every part added. -/
def addSums (xs : List (List Nat)) (n : Nat) : List Nat := (List.range n).map (fun i => (xs.map (fun l => l.getD i 0)).foldl (· + ·) 0)

/-- GROVE_EVAL is answered with a score record, which counts as any (Table 9-25). -/
def State.evalReply (s : State) (c : Cap) (v : Bytes) (slot : Nat) (r : Vote) (h : MHdr) : State :=
  let alarm := r.alarm (fun k => s.amask (s.genCfg (vecGen v)) slot k)
  (s.countScore r alarm).reply c 0x0304 S_OK (scoreWords v 0 slot r alarm h)

/-- A split vector ends with a result: the stage's record, or the reply of GROVE_EVAL. -/
def State.endSplit (s : State) (x : SplitVec) (r : Vote) : State :=
  let s := { s with grv := { s.grv with split := s.grv.split.filter (fun (y : SplitVec) => y.num ≠ x.num) } }
  match s.grv.slots.find? x.slot with
  | none => s
  | some m =>
    let h := parseModel m.binary
    match x.eval with
    | none => s.finishScore x.vector x.stage x.slot r h
    | some c => s.evalReply c x.vector x.slot r h

/-- A split vector once a part has answered: PART_MISSING on a FAULT, the vote once every part has arrived. -/
def State.trySplit (s : State) (x : SplitVec) : State :=
  match s.grv.slots.find? x.slot with
  | none => s
  | some m =>
    let h := parseModel m.binary
    if x.parts.any (fun p => p.2.isNone) then s.endSplit x { status := 2, cls := 0xFF, win := 0, runner := 0 }
    else if (List.range h.partCount).all (fun p => (x.parts.find? p).isSome) then
      let sums := addSums (x.parts.filterMap (fun p => p.2)) h.nclass
      s.endSplit x (voteOf sums (s.voteMin (s.genCfg (vecGen x.vector)) x.slot) h.tieAbstain)
    else s

/-- GROVE_SUMS_RECEIVE: a part's sums return from peer src: vector number, part, FAULT or not, model, class sums. The part is that of the
peer's binding (R265). -/
def execGroveSumsReceive (f : CanopyFrom) (num part : Nat) (fault : Bool) (modelId modelVer : Nat) (sums : List Nat) (s : State) :
    Host.Outcome State Fault Refusal :=
  let s := s.consume (.canopy f.port) 4 0x21
  let bad (s : State) : State := (s.bump BX_GRV_CNT1_PEER_BAD).viol (.canopy f.port) 11
  match s.grv.split.find? (fun (x : SplitVec) => x.num = num) with
  | none => done (bad s)
  | some x =>
    match s.grv.slots.find? x.slot with
    | none => done (bad s)
    | some m =>
      let h := parseModel m.binary
      if modelId ≠ h.modelId ∨ modelVer ≠ h.modelVer ∨ part = 0 ∨ h.partCount ≤ part ∨
          ¬ s.grv.binds.any (fun (b : PeerBind) => b.slot = x.slot && b.part = part && b.peer = f.src) ∨ (x.parts.find? part).isSome ∨ (¬ fault ∧ sums.length ≠ h.nclass) then
        done (bad s)
      else if x.at_ + max 1 (s.rd BX_GRV_SPLIT_WAIT_US) * 1000 ≤ s.bxNs then
        done (s.endSplit x { status := 2, cls := 0xFF, win := 0, runner := 0 })
      else
        let x := { x with parts := x.parts.set part (if fault then none else some sums) }
        let s := { s with grv := { s.grv with split := s.grv.split.map (fun (y : SplitVec) => if y.num = num then x else y) } }
        done (s.trySplit x)

/-- GROVE_SPLIT_TIMEOUT: WAIT_US after vector num was sent some sums are missing. -/
def execGroveSplitTimeout (num : Nat) (s : State) : Host.Outcome State Fault Refusal :=
  match s.grv.split.find? (fun (x : SplitVec) => x.num = num) with
  | none => done s
  | some x =>
    if x.at_ + max 1 (s.rd BX_GRV_SPLIT_WAIT_US) * 1000 ≤ s.bxNs then done (s.endSplit x { status := 2, cls := 0xFF, win := 0, runner := 0 }) else done s

/-- The fields of R262 that a part shares with part 0. -/
def sameModel (a b : Bytes) : Bool :=
  let x := parseModel a
  let y := parseModel b
  x.modelId = y.modelId && x.modelVer = y.modelVer && x.nclass = y.nclass && x.nfeat = y.nfeat && x.tieAbstain = y.tieAbstain &&
    x.voteMin = y.voteMin && sliceBytes a 64 32 = sliceBytes b 64 32 && x.totalTrees = y.totalTrees && x.partCount = y.partCount

/-- GROVE_PEER_BIND at the peer: a home's question is answered with the header of what the slot holds, where that is the part and digest it
names; once the home has bound the part it is pinned for that home, until the home lets it go. -/
def State.peerConfirm (s : State) (c : Cap) : State :=
  let slot := c.p 3
  let key := (slot, 16 * c.fn + c.p 0 % 256)
  let rest := s.grv.pinned.filter (fun x => ¬ (x = key))
  if 512 ≤ c.p 0 then
    { s with grv := { s.grv with pinned := if c.p 2 = 0xFFF then rest else rest ++ [key] } }.reply c 0x0305 S_OK
  else
    match s.grv.slots.find? slot with
    | none => s.reply c 0x0305 S_CONFLICT
    | some m =>
      if m.digest = wordBytes [c.p 4, c.p 5, c.p 6, c.p 7] ∧ (parseModel m.binary).part = c.p 1 then
        s.reply c 0x0305 S_OK (leWords (m.binary.take 96))
      else s.reply c 0x0305 S_CONFLICT

/-- GROVE_PEER_BIND (0x0305): home slot; part; peer; peer slot; digest. answer is what the peer answers within 100 us: the header and
alarm mask, and the digest, of what its slot holds; none for no answer, some none for an empty slot. A home's question to its peer
carries 256 beside the home slot, its binding and unbinding 512 (log entry 15). -/
def execGrovePeerBind (c : Cap) (answer : Option (Option (Bytes × Bytes))) (s : State) : Host.Outcome State Fault Refusal :=
  done (s.checked c 0x0305 c.isOp 8 (fun s =>
    let b : PeerBind := { slot := c.p 0, part := c.p 1, peer := c.p 2, peerSlot := c.p 3, digest := wordBytes [c.p 4, c.p 5, c.p 6, c.p 7] }
    if c.path = 2 ∧ 256 ≤ c.p 0 then s.peerConfirm c
    else if 15 < c.p 0 ∨ c.p 1 = 0 ∨ 7 < c.p 1 ∨ 15 < c.p 3 then s.reply c 0x0305 S_BADPARAM
    else if s.slotSelected (c.p 0) then s.reply c 0x0305 S_BUSY
    else if c.p 2 = 0xFFF then (s.unbind c (c.p 0) (some (c.p 1))).reply c 0x0305 S_OK
    else
      match s.grv.slots.find? (c.p 0) with
      | none => s.reply c 0x0305 S_CONFLICT
      | some m =>
        let s := s.tellPeer b c.tag c.tenant 256 s.agg
        match answer with
        | none => s.reply c 0x0305 S_TIMEOUT
        | some none => s.reply c 0x0305 S_CONFLICT
        | some (some (hdr, dg)) =>
          if dg = b.digest ∧ (parseModel hdr).part = b.part ∧ sameModel m.binary hdr ∧ (parseModel m.binary).part = 0 then
            let s := (s.unbind c b.slot (some b.part)).tellPeer b c.tag c.tenant 512 s.agg
            { s with grv := { s.grv with binds := s.grv.binds ++ [b] } }.reply c 0x0305 S_OK
          else s.reply c 0x0305 S_CONFLICT))

/-! ## Other opcodes -/

/-- GROVE_EVAL (0x0304): slot; DMA pointer to a vector, whose bytes come with the capsule. -/
def execGroveEval (c : Cap) (fault : Option Nat) (s : State) : Host.Outcome State Fault Refusal :=
  done (s.checked c 0x0304 c.isOp 2 (fun s =>
    match s.grv.slots.find? (c.p 0) with
    | none => s.reply c 0x0304 S_BADPARAM
    | some m =>
      let h := parseModel m.binary
      if h.part ≠ 0 then s.reply c 0x0304 S_BADPARAM
      else s.scoreWith c.data 0 (c.p 0) m fault (fun s r => s.evalReply c c.data (c.p 0) r h) (some c)))

/-- GROVE_SCORE_READ (0x0306): die; epoch; stage; form. -/
def execGroveScoreRead (c : Cap) (s : State) : Host.Outcome State Fault Refusal :=
  done (s.checked c 0x0306 c.isOp 4 (fun s =>
    match s.localDie? (c.p 0) with
    | none => s.reply c 0x0306 S_BADPARAM
    | some d =>
      if 7 < c.p 2 ∨ 1 < c.p 3 then s.reply c 0x0306 S_BADPARAM
      else
        match s.grv.scores.find? (fun (x : ScoreRec) => x.die = d && x.epoch = c.p 1 && x.stage = c.p 2 && x.committed = (c.p 3 = 1)) with
        | some x => s.reply c 0x0306 S_OK (leWords x.bytes)
        | none =>
          if s.beyondRetention (c.p 1) then s.reply c 0x0306 S_STALE else s.reply c 0x0306 S_NOTNOW))

/-- GROVE_GRS_IMAGE (0x0307): slot; DMA pointer. -/
def execGroveGrsImage (c : Cap) (s : State) : Host.Outcome State Fault Refusal :=
  done (s.checked c 0x0307 c.isOp 2 (fun s =>
    match s.grv.slots.find? (c.p 0) with
    | none => s.reply c 0x0307 S_BADPARAM
    | some m =>
      if (parseModel m.binary).grsOk then s.reply c 0x0307 S_OK [imageBytes] 0 (some (c.p 1, grsImage m.binary s.liveGen))
      else s.reply c 0x0307 S_BADPARAM))

/-- GROVE_GRS_REFRESH (0x0308): answered when the ZX40 has answered ZX_CFG_DONE. -/
def execGroveGrsRefresh (c : Cap) (s : State) : Host.Outcome State Fault Refusal :=
  done (s.checked c 0x0308 c.isOp 1 (fun s =>
    match s.localDie? (c.p 0) with
    | none => s.reply c 0x0308 S_BADPARAM
    | some p =>
      match s.grsImageOf s.cfg s.liveGen with
      | none => s.reply c 0x0308 S_NOTNOW
      | some b =>
        if (s.link (.stem p)).lstate ≠ .active then s.reply c 0x0308 S_NOTNOW
        else (s.sendImage p 0 b).zxSend p 0x0211 [0, 0, 0] (some (0x0308, c))))

/-- GRV_LANE_CTRL_WRITE: a write that would enable no lane or no bank keeps that field. -/
def execGrvLaneCtrlWrite (v : Nat) (s : State) : Host.Outcome State Fault Refusal :=
  let s := if bits v 15 0 = 0 then s else s.wr BX_GRV_LANE_CTRL_EN 0 (bits v 15 0)
  done (if bits v 19 16 = 0 then s else s.wr BX_GRV_LANE_CTRL_BANK_EN 0 (bits v 19 16))

/-! ## The Grove-S check (R271) -/

/-- Feature f of the Grove-S input rebuilt from a snapshot: FP32, or missing (R81). -/
def grsFeature (m : SMap Nat) (b : Bytes) (f : Nat) : Option Nat :=
  let w := zxSetting m (0x400 + 4 * f)
  let idx := bits w 13 0
  match bits w 31 30 with
  | 0 => some (toFp32 (if snapCtrEn b idx then snapCtr b idx else 0))
  | 1 => if idx < 256 then some (toFp32 (snapLs b idx)) else none
  | 2 =>
    if idx < 160 ∧ bits (snapSns b idx) 31 30 = 0 then some (fp32.encode (.ofInt (snsValue idx (snapSns b idx)))) else none
  | _ => none

/-- GRS_CHECK: the vote in the snapshot of epoch n of die d is checked against a vote of this BX64's own. -/
def execGrsCheck (d n : Nat) (s : State) : Host.Outcome State Fault Refusal :=
  let due : Bool := s.flag BX_GRV_GRS_CHK_EN && n % max 1 (s.rd BX_GRV_GRS_CHK_EVERY) = 0 && s.grv.grsChecked.find? d ≠ some n
  let c := s.cfgOf n
  match s.held? d n, (if c.fld BX_GRV_GRS_SEL_EN 0 = 0 then none else s.grv.slots.find? (c.fld BX_GRV_GRS_SEL_SLOT 0)) with
  | some x, some m =>
    if ¬ due ∨ x.row ≠ some 10 then done s
    else
      let s := { s with grv := { s.grv with grsChecked := s.grv.grsChecked.set d n } }
      let g := snapGrs x.bytes
      if ¬ bitAt g 15 then done s
      else
        let h := parseModel m.binary
        let feat (f : Nat) : Option Nat := grsFeature ((s.genCfg x.gen).zx.getD d []) x.bytes f
        match modelSums m.binary h.binary h feat with
        | none => done s
        | some sums =>
          let r := voteOf sums h.voteMin h.tieAbstain
          if r.cls = bits g 7 0 ∧ r.alarm (alarmBit m.binary) = bitAt g 14 then done s
          else
            let s := (s.bump BX_GRV_CNT1_GRS_MISMATCH).signal { ty := 0x0505, source := 5, idx := d, self := d = 64, die := s.dieAddr d, inc := x.inc, extra := n }
            done ((s.setReason d 5 n).mirrorDie d)
  | _, _ => done s

end Sys2Proof.Machine
end

