-- ==== Sys2Proof/Machine/Time.lean ====
section
/-! DEFINITION. Time (chapter 6): measurements and the servo, the Stem and Canopy exchanges, the 1PPS and Time-of-Day inputs,
RESYNC, holdover, launch-at-count triggers, the 1PPS output and the time opcodes. Part index 0 is ZX40, 1 BX64. Stamps are signed
counts of 2^-16 ns. -/
namespace Sys2Proof.Machine

/-! ## The servo (R162 to R167) -/

def State.setTb (s : State) (i : Nat) (t : Timebase) : State :=
  if i = 0 then { s with zx := { s.zx with tb := t, wholeLocked := s.zx.wholeLocked && t.isLocked } } else { s with bxTb := t }

/-- A rational rounded to the nearest integer, a tie to the even one. -/
def roundEven (r : Rat) : Int :=
  let f := r.floor
  let d := r - f
  if d < 1 / 2 then f else if 1 / 2 < d then f + 1 else if f % 2 = 0 then f else f + 1

/-- 200 ppm. -/
def ppm200 : Rat := 1 / 5000

/-- A rate held within 200 ppm, and whether it had to be. -/
def clampRate (r : Rat) : Rat × Bool := if ppm200 < r then (ppm200, true) else if r < -ppm200 then (-ppm200, true) else (r, false)

/-- R165: the new adj_f and INC, and whether anything was clamped, after an offset o in ns and a period p in ns. -/
def servo (adjF o : Rat) (p ki kp : Nat) : Rat × Nat × Bool :=
  let (f, c1) := clampRate (adjF - o / (p * 2 ^ ki : Nat))
  let (a, c2) := clampRate (f - o / (p * 2 ^ kp : Nat))
  (f, (roundEven (5368709120 * (1 + a))).toNat, c1 || c2)

/-- R164: Ringcount steps by -o at one tick, and the timebase enters SETTLING. -/
def Timebase.step (t : Timebase) (o : Rat) : Timebase :=
  { t with count := ((t.count : Int) - (o * 4294967296).floor).toNat % 2 ^ 96, state := .settling, goodRun := 0, badRun := 0 }

/-- Table 6-2: the state after a measurement that stepped nothing. -/
def Timebase.track (t : Timebase) (o : Rat) (lock unlock : Nat) : Timebase :=
  let a : Rat := if o < 0 then -o else o
  match t.state with
  | .locked =>
    let bad := if (unlock : Rat) < a then t.badRun + 1 else 0
    if 2 ≤ bad then { t with state := .settling, goodRun := 0, badRun := 0 } else { t with badRun := bad }
  | st =>
    let good := if a ≤ (lock : Rat) then t.goodRun + 1 else 0
    if 4 ≤ good then { t with state := .locked, goodRun := good, badRun := 0 }
    else { t with state := if st = .unlocked then .settling else st, goodRun := good }

/-- A value in 2^-8 ns from one in ns: the spec does not say how it is rounded, so one of the two neighbours, by a free bit. -/
def State.fine8 (s : State) (r : Rat) : Int × State :=
  let f := (r * 256).floor
  if (f : Rat) = r * 256 then (f, s)
  else let (b, s) := s.draw 1; (f + b, s)

/-- OFFSET and DELAY of a measurement, saturating (Table 6-9); a 1PPS measurement has no delay. -/
def State.noteOffset (s : State) (i : Nat) (o : Rat) (d : Option Rat) : State :=
  let (v, s) := s.fine8 o
  let s := s.wr TB_OFFSET_OFFSET i (ofSigned 32 (clampInt (-2147483648) 2147483647 v))
  match d with
  | none => s
  | some d => let (v, s) := s.fine8 d; s.wr TB_OFFSET_DELAY i (clampInt 0 4294967295 v).toNat

/-- A step is counted against the snapshot of the epoch it takes effect in (R22). -/
def State.noteStep (s : State) (i : Nat) (o : Rat) : State :=
  if i = 0 then { s with zx := { s.zx with stepped := true } }
  else { s with pps := { s.pps with lastEdge := s.pps.lastEdge.map (fun e => ((e : Int) - (o * 65536).floor).toNat) } }

/-- A span of ns in the units of a timebase's run. -/
def nsRun (ns : Nat) : Nat := ns * 4294967296

/-- HOLDOVER_MS has elapsed since the loss (R167). -/
def State.holdoverOver (s : State) (i : Nat) : Bool :=
  decide ((s.tbOf i).state = .holdover) && decide ((s.tbOf i).lostAt + nsRun (s.rd TB_SERVO_HOLDOVER_MS i * 1000000) ≤ (s.tbOf i).run)

/-- HOLDOVER ends in UNLOCKED, counted (R167). -/
def State.expireHoldover (s : State) (i : Nat) : State :=
  if s.holdoverOver i then
    let s := (s.setTb i { s.tbOf i with state := .unlocked, goodRun := 0, badRun := 0 }).bump TB_STS_LOCK_LOSSES i
    if i = 0 then s.ls 0xC8 else s
  else s

/-- A valid measurement (R163 to R166): offset o and delay d in ns, exchange period in ns. The first one after reset steps; a grant
steps once beyond LOCK_NS; every other corrects the rate, one beyond STEP_NS being counted, at BX64 with a VIOLATION record (Table 6-16). An
expiry of HOLDOVER in the same tick comes first (Table 6-17). -/
def State.measure (s : State) (i : Nat) (o : Rat) (d : Option Rat) (period : Nat) : State :=
  let s := (s.expireHoldover i).noteOffset i o d
  let t : Timebase := { s.tbOf i with srcOk := true, exMeas := true, lastMeas := (s.tbOf i).run }
  let a : Rat := if o < 0 then -o else o
  let lock := s.rd TB_SERVO_LOCK_NS i
  if ¬ t.stepUsed then (s.setTb i { t.step o with stepUsed := true }).noteStep i o
  else if t.grant.isSome ∧ (lock : Rat) < a then (s.setTb i { t.step o with grant := none }).noteStep i o
  else
    let s := if (s.rd TB_SERVO_STEP_NS i : Rat) < a then
        let s := s.bump TB_STS_STEPS_REFUSED i
        if i = 0 then s.ls 0xC7 else s.violation 3 9 3 (if s.rd BX_TB_SRC_MODE = 2 then 64 + s.rd BX_TB_SRC_PRIMARY else 0)
      else s
    let (f, inc, clamped) := servo t.adjF o period (s.rd TB_SERVO_KI_SHIFT i) (s.rd TB_SERVO_KP_SHIFT i)
    let s := if clamped then
        let s := s.bump TB_STS_CLAMPS i
        if i = 0 then s.ls 0xC6 else s
      else s
    s.setTb i ({ t with adjF := f, inc := inc }.track o lock (s.rd TB_SERVO_UNLOCK_NS i))

/-- An exchange begins: a RESYNC grant that has seen 16 lapses unused (R166), else one fewer is left; an exchange before it that yielded no
measurement ends a run of bad ones (Table 6-2: two consecutive exchanges). -/
def State.beginExchange (s : State) (i : Nat) : State :=
  let t := s.tbOf i
  s.setTb i { t with
    badRun := if t.exMeas then t.badRun else 0, exMeas := false
    grant := match t.grant with
      | some (n + 1) => some n
      | _ => none }

/-- A time-source violation (Table 6-16): counted in VIOL of a port, with a VIOLATION record at BX64. -/
def State.timeViol (s : State) (e : LinkId) (row : Nat) : State :=
  let s := s.countViol e
  (match e with
  | .zx => s.bump ZX_STM_CNT_VIOL
  | _ => (s.bump PORT_ERRS_VIOL e.errs).violation 3 row 3 e.num).escalate e

/-- d lies outside 0 to 100 us (Table 6-16 row 8). -/
def delayBad (d : Rat) : Bool := d < 0 || 100000 < d

/-! ## Stamps (R152, R169, R171): the tick of an edge with its phase, to 1/16 tclk -/

/-- The Ringcount, in 2^-16 ns, of the instant k sixteenths of a tclk period before the present tick. -/
def State.stampAgo (s : State) (i k : Nat) : Int := (((s.tbOf i).count : Int) - (k * (s.tbOf i).inc / 16 : Nat)) / 65536

/-- That of the instant k sixteenths after it: a word cycle fixed ahead. -/
def State.stampAhead (s : State) (i k : Nat) : Nat := ((s.tbOf i).count + k * (s.tbOf i).inc / 16) / 65536

/-- 4 word cycles of the Stem lanes in sixteenths of a tclk period, rounded up: as far ahead as a TIME flit is fixed at least (R152). -/
def aheadMin : Nat := 103

/-! ## Stem exchanges (R170) -/

/-- A time of the given picoseconds in 2^-16 ns, rounded to nearest (R152). -/
def psUnits (ps : Nat) : Nat := (2 * ps * 65536 + 1000) / 2000

/-- The declared latencies of a Stem port of BX64, those of the Stem PHY macro (R132, Table 5-15); the self-monitoring link has no PMA (R137). -/
def stemTxLat (p : Nat) : Nat := if p = 64 then 0 else psUnits 9600
def stemRxLat (p : Nat) : Nat := if p = 64 then 0 else psUnits 14200

/-- The deskew delay of logical lane 0 of a link end, in 2^-16 ns: word cycles of 500 MHz on Stem, of 875 MHz on Canopy. -/
def State.deskew0 (s : State) (e : LinkId) : Nat :=
  let n := (s.link e).deskew.getD 0 0
  if e.isCanopy then n * 524288 / 7 else n * 131072

/-- A TIME payload (Table 5-9). -/
def timePayload (origin exch period corr resp : Nat) : Bytes :=
  wordBytes [stampNs origin, packFields [(48, 16, stampFrac origin), (32, 16, exch), (0, 16, period)], corr % 2 ^ 64,
    stampNs resp, stampFrac resp <<< 48]

/-- A TIME flit gets its word cycle fixed (R152); one fixed already keeps its own. -/
def State.sendTime (s : State) (e : LinkId) (sub : Nat) (payload : Bytes) : State :=
  let b : FlitBody := { ty := 5, sub := sub, first := true, last := true, part := 0, payload := payload }
  if (s.link e).timeFixed = none then s.modLink e (fun l => { l with timeFixed := some b }) else s.enqueue e 5 b

/-- SYNC_SEND: SYNC_PERIOD_US has passed: a SYNC to each ACTIVE Stem port and a Sync to each Canopy child. ahead gives how far ahead the word cycle
is fixed for each Stem port, cahead for each Canopy port, in sixteenths of a tclk period. -/
def State.stemSyncs (s : State) (ahead : SMap Nat) : State :=
  (List.range 65).foldl (fun s p =>
    if (s.link (.stem p)).lstate = .active then
      let n := ((s.tsrc.stem.getD p (0, false)).1 + 1) % 65536
      let s := { s with tsrc := { s.tsrc with stem := s.tsrc.stem.set p (n, true) } }
      s.sendTime (.stem p) 0 (timePayload (s.stampAhead 1 (ahead.getD p aheadMin)) n (s.rd BX_TB_SRC_SYNC_PERIOD_US) (stemTxLat p) 0)
    else s) s

/-- SYNC_RECEIVE: ZX40 takes a SYNC: exchange number, period, ORIGIN and CORRECTION of its payload. The header's edge lies ago sixteenths of a tclk
period back, the word cycle fixed for the DELAY_REQ ahead sixteenths on. An exchange already open is given up. -/
def execSyncReceive (exch period origin : Nat) (corr : Int) (ago ahead : Nat) (s : State) : Host.Outcome State Fault Refusal :=
  let s := (s.consume .zx 5 0).beginExchange 0
  let lat := psUnits (s.rd ZX_STM_PMA_LAT_TX_PS)
  let reply := s.stampAhead 0 ahead
  let x : Exchange := {
    num := exch % 65536, t1 := origin + corr, t2 := s.stampAgo 0 ago - psUnits (s.rd ZX_STM_PMA_LAT_RX_PS) - s.deskew0 .zx
    t3 := (reply : Int) + lat, period := period }
  let s := { s with zx := { s.zx with tb := { s.zx.tb with exch := some x, period := period } } }
  done (s.sendTime .zx 1 (timePayload reply (exch % 65536) 0 lat 0))

/-- DELAY_REQ_RECEIVE: BX64 takes a DELAY_REQ at Stem port p whose header's edge lies ago sixteenths of a tclk period back; the DELAY_RESP is fixed
ahead sixteenths on. -/
def execDelayReqReceive (p exch ago ahead : Nat) (s : State) : Host.Outcome State Fault Refusal :=
  let s := s.consume (.stem p) 5 1
  match s.tsrc.stem.find? p with
  | some (n, true) =>
    if n = exch % 65536 then
      let t4 := (s.stampAgo 1 ago - stemRxLat p - s.deskew0 (.stem p)).toNat
      let s := { s with tsrc := { s.tsrc with stem := s.tsrc.stem.set p (n, false) } }
      done (s.sendTime (.stem p) 2 (timePayload (s.stampAhead 1 ahead) n 0 (stemTxLat p) t4))
    else done s
  | _ => done (s.timeViol (.stem p) 7)

/-- DELAY_RESP_RECEIVE: ZX40 takes a DELAY_RESP carrying t4 and, with a complete exchange, measures. -/
def execDelayRespReceive (exch t4 : Nat) (s : State) : Host.Outcome State Fault Refusal :=
  let s := s.consume .zx 5 2
  match s.zx.tb.exch with
  | none => done (s.timeViol .zx 7)
  | some x =>
    if x.num ≠ exch % 65536 then done s
    else
      let s := { s with zx := { s.zx with tb := { s.zx.tb with exch := none } } }
      let u : Int := x.t2 - x.t1
      let v : Int := (t4 : Int) - x.t3
      let d : Rat := (u + v : Int) / 131072
      if delayBad d then done (s.timeViol .zx 8)
      else done (s.measure 0 ((u - v : Int) / 131072) (some d) (x.period * 1000))

/-! ## Canopy exchanges (R171, R172) -/

/-- The IEEE 1588-2019 message of Table 6-4: type, control field, domain, correctionField, source port, sequenceId, and the bytes
from byte 34 on. -/
def ptpMsg (ty control domain : Nat) (corr : Int) (fleet agg port seq : Nat) (body : Bytes) : Bytes :=
  beBytes 1 ty ++ beBytes 1 0x12 ++ beBytes 2 (34 + body.length) ++ beBytes 1 domain ++ beBytes 1 0 ++ beBytes 2 0 ++
    beBytes 8 (ofSigned 64 corr) ++ beBytes 4 0 ++ beBytes 2 fleet ++ beBytes 2 0 ++ beBytes 2 agg ++ beBytes 2 0 ++ beBytes 2 port ++
    beBytes 2 seq ++ beBytes 1 control ++ beBytes 1 0x7F ++ body

/-- originTimestamp or receiveTimestamp of a stamp: seconds and nanoseconds. -/
def ptpTime (st : Nat) : Bytes := beBytes 6 (stampNs st / 1000000000) ++ beBytes 4 (stampNs st % 1000000000)

/-- A timestamp field at byte 34, in 2^-16 ns. -/
def ptpStamp (b : Bytes) : Nat := (beNat ((b.drop 34).take 6) * 1000000000 + beNat ((b.drop 40).take 4)) * 65536

def ptpCorr (b : Bytes) : Int := toSigned 64 (beNat ((b.drop 8).take 8))

def ptpSeq (b : Bytes) : Nat := beNat ((b.drop 30).take 2)

/-- controlField of a messageType (Table 6-4). -/
def ptpControl (ty : Nat) : Nat := if ty = 9 then 3 else ty

/-- The ten octets of a port identity: fleet ID, aggregator ID, port number (Table 6-4). -/
def ptpPort (fleet agg port : Nat) : Bytes := beBytes 2 fleet ++ beBytes 2 0 ++ beBytes 2 agg ++ beBytes 2 0 ++ beBytes 2 port

/-- A sourcePortIdentity is that of a Canopy port of an aggregator of this fleet. -/
def ptpSourceOk (b : Bytes) (fleet agg : Nat) : Bool := (List.range 24).any (fun q => (b.drop 20).take 10 == ptpPort fleet agg (q + 1))

/-- A message is the one of Table 6-4 with this messageType, for this domain, from this aggregator; TLVs after it are ignored. -/
def ptpOk (b : Bytes) (ty domain fleet src : Nat) : Bool :=
  beNat (b.take 1) = ty ∧ beNat ((b.drop 1).take 1) = 0x12 ∧ beNat ((b.drop 4).take 1) = domain ∧ beNat ((b.drop 5).take 1) = 0 ∧
    beNat ((b.drop 6).take 2) = 0 ∧ beNat ((b.drop 32).take 1) = ptpControl ty ∧ beNat ((b.drop 33).take 1) = 0x7F ∧ ptpSourceOk b fleet src ∧
    (if ty = 9 then 54 else 44) ≤ b.length

/-- A TIME message leaves hop by hop on the pinned path (R393). -/
def State.sendPtp (s : State) (sub src dst hops : Nat) (mk : Nat → Bytes) (domainPort : Bool := true) : State :=
  match s.outPort 5 sub src dst with
  | (none, s) => s
  | (some q, s) =>
    s.enqueue (.canopy q) 1 {
      ty := 5, sub := sub, first := true, last := true, part := 0, payload := mk (if domainPort then q + 1 else 0), vc := 1, hops := hops
      src := src, dst := dst }

/-- The children of this BX64 in the tree, which take their time from it. -/
def State.timeChildren (s : State) : List Nat :=
  (s.cfg.tree.filter (fun e => !e.root && e.parent == s.agg && e.agg != s.agg)).map (fun e => e.agg)

/-- A message of Table 6-4 for this BX64, from an aggregator. -/
def State.ptpOk (s : State) (b : Bytes) (ty src : Nat) : Bool :=
  Machine.ptpOk b ty (s.rd BX_TB_SRC_DOMAIN) (s.rd BX_CNP_IDENT_FLEET_ID) src

def State.canopySyncs (s : State) (ahead : SMap Nat) : State :=
  s.timeChildren.foldl (fun s a =>
    let n := ((s.tsrc.canopy.getD a (0, false)).1 + 1) % 65536
    let s := { s with tsrc := { s.tsrc with canopy := s.tsrc.canopy.set a (n, true) } }
    s.sendPtp 0 s.agg a 31 (fun port =>
      let t1 := s.stampAhead 1 (ahead.getD (port - 1) aheadMin)
      ptpMsg 0 0 (s.rd BX_TB_SRC_DOMAIN) (stampFrac t1 + Config.canopyTxLat) (s.rd BX_CNP_IDENT_FLEET_ID) s.agg port n (ptpTime t1))) s

def execSyncSend (ahead cahead : SMap Nat) (s : State) : Host.Outcome State Fault Refusal :=
  done ((s.stemSyncs ahead).canopySyncs cahead)

/-- Canopy port q is the time parent's: PRIMARY, or BACKUP when it is enabled and the primary is lost (R168). -/
def State.timePort (s : State) (q : Nat) : Bool :=
  s.rd BX_TB_SRC_MODE = 2 ∧ (q = s.rd BX_TB_SRC_PRIMARY ∨ (s.flag BX_TB_SRC_BACKUP_EN ∧ q = s.rd BX_TB_SRC_BACKUP ∧ s.tsrc.primaryLost))

/-- The receive stamp of a Canopy message: its edge less the RX latency and the deskew delay of lane 0. -/
def State.canopyStamp (s : State) (q ago : Nat) : Int := s.stampAgo 1 ago - Config.canopyRxLat - s.deskew0 (.canopy q)

/-- ASYM_PS in 2^-16 ns, rounded to nearest. -/
def State.asym (s : State) : Int :=
  let v := toSigned 16 (s.rd BX_TB_SRC_ASYM_PS)
  if v < 0 then -(psUnits v.natAbs : Int) else psUnits v.natAbs

/-- CANOPY_SYNC_RECEIVE: a Sync from src at port q, its edge ago sixteenths of a tclk period back; the Delay_Req is fixed ahead sixteenths on. The
child adds its ASYM to the arriving correctionField (R171, R173). -/
def execCanopySyncReceive (q src : Nat) (msg : Bytes) (ago ahead : Nat) (s : State) : Host.Outcome State Fault Refusal :=
  let s := s.consume (.canopy q) 5 0
  if ¬ s.ptpOk msg 0 src then done (s.timeViol (.canopy q) 5)
  else if ¬ s.timePort q then done s
  else
    let s := s.beginExchange 1
    let t3 := s.stampAhead 1 ahead
    let x : Exchange := {
      num := ptpSeq msg, t1 := ptpStamp msg, cS := ptpCorr msg + s.asym, t2 := s.canopyStamp q ago, t3 := t3
      period := s.rd BX_TB_SRC_SYNC_PERIOD_US, q := q, src := src, reqPort := ((s.outPort 5 1 s.agg src).1.map (· + 1)).getD 0 }
    let s := { s with bxTb := { s.bxTb with exch := some x } }
    done (s.sendPtp 1 s.agg src 31 (fun port =>
      ptpMsg 1 1 (s.rd BX_TB_SRC_DOMAIN) (stampFrac t3 + Config.canopyTxLat) (s.rd BX_CNP_IDENT_FLEET_ID) s.agg port x.num (ptpTime t3)))

/-- CANOPY_DELAY_REQ_RECEIVE: a Delay_Req from src at port q, its edge ago sixteenths of a tclk period back: answered with a Delay_Resp. -/
def execCanopyDelayReqReceive (q src : Nat) (msg : Bytes) (ago : Nat) (s : State) : Host.Outcome State Fault Refusal :=
  let s := s.consume (.canopy q) 5 1
  if ¬ s.ptpOk msg 1 src then done (s.timeViol (.canopy q) 5)
  else
    match s.tsrc.canopy.find? src with
    | some (n, true) =>
      if n = ptpSeq msg then
        let t4 := (s.canopyStamp q ago).toNat
        let s := { s with tsrc := { s.tsrc with canopy := s.tsrc.canopy.set src (n, false) } }
        done (s.sendPtp 2 s.agg src 31 (fun port =>
          ptpMsg 9 3 (s.rd BX_TB_SRC_DOMAIN) (ptpCorr msg - stampFrac t4) (s.rd BX_CNP_IDENT_FLEET_ID) s.agg port n
            (ptpTime t4 ++ (msg.drop 20).take 10)))
      else done s
    | _ => done s

/-- A measurement over Canopy: one through PRIMARY ends its loss (R168). -/
def State.canopyMeasure (s : State) (x : Exchange) (o d : Rat) : State :=
  let s := if x.q = s.rd BX_TB_SRC_PRIMARY then { s with tsrc := { s.tsrc with primaryMeas := s.bxTb.run, primaryLost := false } } else s
  s.measure 1 o (some d) (x.period * 1000)

/-- CANOPY_DELAY_RESP_RECEIVE: the child completes the exchange: d and o of R171. One that answers no Delay_Req of this exchange is a violation
(Table 6-16); after BX_TB_SRC has named another source there is nothing to measure (R168). -/
def execCanopyDelayRespReceive (f : CanopyFrom) (msg : Bytes) (s : State) : Host.Outcome State Fault Refusal :=
  let q := f.port
  let src := f.src
  let s := s.consume (.canopy q) 5 2
  if ¬ s.ptpOk msg 9 src then done (s.timeViol (.canopy q) 5)
  else
    match s.bxTb.exch with
    | none => done (s.timeViol (.canopy q) 6)
    | some x =>
      if x.num ≠ ptpSeq msg ∨ x.src ≠ src ∨ (msg.drop 44).take 10 ≠ ptpPort (s.rd BX_CNP_IDENT_FLEET_ID) s.agg x.reqPort then
        done (s.timeViol (.canopy q) 6)
      else
        let s := { s with bxTb := { s.bxTb with exch := none } }
        let d : Rat := ((x.t2 - x.t3) + ((ptpStamp msg : Int) - x.t1) - x.cS - ptpCorr msg : Int) / 131072
        let o : Rat := ((x.t2 - x.t1 - x.cS : Int) : Rat) / 65536 - d
        if ¬ s.timePort x.q then done s
        else if delayBad d then done (s.timeViol (.canopy q) 8)
        else done (s.canopyMeasure x o d)

/-- TIME_RELAY: a relay forwards a time message, adding its residence time, egress stamp less ingress stamp, to correctionField before the flit's CRC
is formed. -/
def execTimeRelay (q sub src dst hops : Nat) (msg : Bytes) (ago ahead : Nat) (s : State) : Host.Outcome State Fault Refusal :=
  let s := s.consume (.canopy q) 5 sub
  if hops = 0 then done ((s.bump BX_CNP_CNT0_TTL_EXPIRED).violation 2 13 2 q)
  else
    let c := ofSigned 64 (ptpCorr msg + ((s.stampAhead 1 ahead : Int) + Config.canopyTxLat - s.canopyStamp q ago))
    done (s.sendPtp sub src dst (hops - 1) (fun _ => msg.take 8 ++ beBytes 8 c ++ msg.drop 16))

/-! ## The timing card (R169) -/

/-- The 1PPS edge lies 1 s within 1 us after the last accepted one, or no edge was accepted in the last 1.5 s (R167). -/
def State.ppsSpaced (s : State) (stamp : Nat) : Bool :=
  match s.pps.lastEdge with
  | none => true
  | some e =>
    let gap := (stamp : Int) - e
    (999999000 * 65536 ≤ gap && gap ≤ 1000001000 * 65536) || 1500000000 * 65536 ≤ gap

/-- PPS_EDGE: a rising edge of the 1PPS input, ago sixteenths of a tclk period back; wide: it stayed high for at least 1 us. -/
def execPpsEdge (ago : Nat) (wide : Bool) (s : State) : Host.Outcome State Fault Refusal :=
  let stamp := (s.stampAgo 1 ago).toNat
  if s.rd BX_TB_SRC_MODE ≠ 1 then done s
  else if ¬ wide ∨ ¬ s.ppsSpaced stamp then done ((s.bump BX_TB_TOD_PPS_FAULTS).violation 3 4 3 0)
  else
    let tod := s.pps.tod
    let s := ({ s with pps := { s.pps with lastEdge := some stamp, edgeRun := s.bxTb.run, tod := none } }).beginExchange 1
    match tod with
    | none => done s
    | some n => done (s.measure 1 (((stamp : Int) - n * 65536 : Int) / 65536) none 1000000000)

/-- TOD_FRAME: a Time-of-Day frame of 16 bytes is complete (Table 6-3). Its value is compared with that of the frame before it, which is remembered
whether or not that frame was valid or matched (DEDUCED: 'the previous value', log entry 118). -/
def execTodFrame (f : Bytes) (s : State) : Host.Outcome State Fault Refusal :=
  let timely : Bool := match s.pps.lastEdge with
    | none => false
    | some e => decide (200000000 * 65536 ≤ (s.bxRc : Int) - e ∧ (s.bxRc : Int) - e ≤ 900000000 * 65536)
  let next := rdLe f 4 8
  let fl := rdLe f 3 1
  if s.rd BX_TB_SRC_MODE ≠ 1 then done s
  else if f.length ≠ 16 ∨ rdLe f 0 2 ≠ 0xA55A ∨ rdLe f 2 1 ≠ 1 ∨ crc32c (f.take 12) ≠ rdLe f 12 4 then
    done ((s.bump BX_TB_TOD_CRC_ERRS).violation 3 1 3 0)
  else if ¬ timely then done s
  else
    let prev := s.pps.lastTod
    let s := { s with pps := { s.pps with cardHoldover := bitAt fl 1, lastTod := some next, invalid := !bitAt fl 0 } }
    if ¬ bitAt fl 0 then done (({ s with pps := { s.pps with tod := none } }).violation 3 3 3 0)
    else if next % 1000000000 ≠ 0 ∨ (s.bxTb.stepUsed ∧ prev.any (fun (n : Nat) => decide (n + 1000000000 ≠ next))) then
      done ((({ s with pps := { s.pps with tod := none } }).bump BX_TB_TOD_TOD_MISMATCH).violation 3 2 3 0)
    else done { s with pps := { s.pps with tod := some next } }

/-! ## Loss, holdover, RESYNC -/

/-- A span of ns without a valid measurement. -/
def State.idleFor (s : State) (i ns : Nat) : Bool := decide ((s.tbOf i).lastMeas + nsRun ns ≤ (s.tbOf i).run)

/-- 1.5 s in ns, and 4 exchange periods of a timebase. -/
def lossPps : Nat := 1500000000
def State.fourPeriods (s : State) (i : Nat) : Nat := 4000 * (if i = 0 then s.zx.tb.period else s.rd BX_TB_SRC_SYNC_PERIOD_US)

/-- The source of a timebase is lost (R167). A link that has left ACTIVE for 4 exchange periods has carried no measurement for as long. In INPUT mode a
card that announces VALID = 0 is lost after 1.5 s without a measurement (Table 6-16). In NONE there is no source. -/
def State.sourceLost (s : State) (i : Nat) : Bool :=
  if i = 0 then s.idleFor 0 (s.fourPeriods 0)
  else if s.rd BX_TB_SRC_MODE = 1 then
    decide (s.pps.edgeRun + nsRun lossPps ≤ s.bxTb.run) || (s.pps.invalid && s.idleFor 1 lossPps)
  else if s.rd BX_TB_SRC_MODE = 2 then s.idleFor 1 (s.fourPeriods 1)
  else true

/-- TB_SOURCE_LOST: the conditions of R167 are looked at for a timebase, after a measurement of the same tick (Table 6-17); in CANOPY mode for PRIMARY
by itself as well (R168). -/
def execTbSourceLost (part : Part) (s : State) : Host.Outcome State Fault Refusal :=
  let i := if part = .zx then 0 else 1
  let s := if i = 1 ∧ s.rd BX_TB_SRC_MODE = 2 ∧ s.tsrc.primaryMeas + nsRun (s.fourPeriods 1) ≤ s.bxTb.run then
      { s with tsrc := { s.tsrc with primaryLost := true } } else s
  let t := s.tbOf i
  if ¬ s.sourceLost i then done s
  else if t.state = .locked then done (s.setTb i { t with srcOk := false, state := .holdover, goodRun := 0, lostAt := t.run })
  else done (s.setTb i { t with srcOk := false })

/-- HOLDOVER_EXPIRY: HOLDOVER_MS has elapsed since the loss. -/
def execHoldoverExpiry (part : Part) (s : State) : Host.Outcome State Fault Refusal := done (s.expireHoldover (if part = .zx then 0 else 1))

/-- A grant for the ZX40 that holds the address of a local die index. -/
def State.grantDie (s : State) (d : Nat) : State :=
  if s.flag ZX_EPC_ADDR_ADMITTED ∧ s.rd ZX_EPC_ADDR_DIE_ADDR = s.dieAddr d ∧ s.flag ZX_EPC_ADDR_SELF = decide (d = 64) then
    s.setTb 0 { s.zx.tb with grant := some 16 }
  else s

/-- RESYNC (0x0103): scope 0 BX64, 1 DIE, 2 BX64_AND_DIES; die address. -/
def execResync (c : Cap) (s : State) : Host.Outcome State Fault Refusal :=
  done (s.checked c 0x0103 c.isOp 2 (fun s =>
    let bx (s : State) := s.setTb 1 { s.bxTb with grant := some 16 }
    match c.p 0 with
    | 0 => (bx s).reply c 0x0103 S_OK
    | 1 =>
      match s.localDie? (c.p 1) with
      | none => s.reply c 0x0103 S_BADPARAM
      | some d => if (s.link (.stem d)).lstate ≠ .active then s.reply c 0x0103 S_NOTNOW else (s.grantDie d).reply c 0x0103 S_OK
    | 2 => ((List.range 65).foldl (fun s d => if (s.link (.stem d)).lstate = .active then s.grantDie d else s) (bx s)).reply c 0x0103 S_OK
    | _ => s.reply c 0x0103 S_BADPARAM))

/-- RESYNC_GRANT_LAPSE: a grant that 16 exchanges have not used lapses. -/
def execResyncGrantLapse (part : Part) (s : State) : Host.Outcome State Fault Refusal :=
  let i := if part = .zx then 0 else 1
  let t := s.tbOf i
  done (if t.grant = some 0 then s.setTb i { t with grant := none } else s)

/-! ## Launch at count (R175, R176) and the 1PPS output (R177) -/

def State.lac (s : State) (k : Nat) : Lac := s.zx.lacs.getD k {}

def State.setLac (s : State) (k : Nat) (x : Lac) : State := { s with zx := { s.zx with lacs := s.zx.lacs.set k x } }

/-- PERIOD_NS in 2^-16 ns, 0 for a single-shot trigger. -/
def State.lacPeriod (s : State) (k : Nat) : Nat :=
  if s.flag ZX_LAC_CFG_PERIODIC k then s.rd ZX_LAC_CFG_PERIOD_NS k * 65536 else 0

/-- Trigger k drives its output for WIDTH ticks from now. -/
def State.lacPulse (s : State) (k : Nat) : State :=
  let w := max 1 (s.rd ZX_LAC_CFG_WIDTH k)
  ((s.setLac k { s.lac k with high := w }).emit (.lacPulse k w)).ls 0xC9

/-- How many periods past a target lie at or below now. -/
def passed (target per now : Nat) : Nat := if now < target then 0 else (now - target) / per + 1

/-- LAC_FIRE: trigger k fires at the first tick with Ringcount at or past its target; the targets a step passed over beyond the first
count as late. -/
def execLacFire (k : Nat) (s : State) : Host.Outcome State Fault Refusal :=
  let t := (s.lac k).target
  if 8 ≤ k ∨ ¬ s.flag ZX_LAC_CFG_ARM k ∨ s.zxRc < t then done s
  else
    let s := s.lacPulse k
    let per := s.lacPeriod k
    if per = 0 then done (s.wr ZX_LAC_CFG_ARM k 0)
    else
      let n := passed (t + per) per s.zxRc
      let s := if n = 0 then s else s.ls 0xCA n
      done (s.setLac k { s.lac k with target := t + per + n * per })

/-- LAC_ARM: a write of ZX_LAC_k_CFG. With ARM 1 the trigger arms against TGT_NS and TGT_FRAC, or is late. -/
def execLacArm (k v : Nat) (s : State) : Host.Outcome State Fault Refusal :=
  if 8 ≤ k then done s
  else
    let s := ((((s.wr ZX_LAC_CFG_ARM k (bits v 63 63)).wr ZX_LAC_CFG_PERIODIC k (bits v 62 62)).wr ZX_LAC_CFG_LATE_FIRE k (bits v 61 61)).wr
      ZX_LAC_CFG_PERIOD_NS k (bits v 47 16)).wr ZX_LAC_CFG_TGT_FRAC k (bits v 15 0)
    let s := s.wr ZX_LAC_CFG_WIDTH k (max 1 (bits v 55 48))
    if ¬ bitAt v 63 then done s
    else
      let t := s.rd ZX_LAC_TGT_TGT_NS k * 65536 + bits v 15 0
      let s := s.setLac k { s.lac k with target := t }
      let per := s.lacPeriod k
      if s.zxRc < t then done s
      else if t = s.zxRc then execLacFire k s
      else
        let s := s.ls 0xCA
        let s := if bitAt v 61 then s.lacPulse k else s
        if per = 0 then done (s.wr ZX_LAC_CFG_ARM k 0)
        else done (s.setLac k { s.lac k with target := t + passed t per s.zxRc * per })

/-- The 1PPS output may be high: EN is 1 and the timebase neither UNLOCKED nor SETTLING (R177). -/
def State.ppsOn (s : State) : Bool := s.flag BX_TB_PPS_EN && s.bxTb.isLocked

/-- The level of the 1PPS output. -/
def State.ppsLevel (s : State) : Bool := s.ppsOn && s.pps.outUntil.any (fun (n : Nat) => decide (s.bxRc < n))

/-- PPS_OUTPUT: the tick at which Ringcount first reaches a whole second: the output goes high for WIDTH_NS, once for each second. -/
def execPpsOutput (s : State) : Host.Outcome State Fault Refusal :=
  let second := 1000000000 * 4294967296
  let k := s.bxTb.count / second
  if s.ppsOn ∧ (s.bxTb.count - s.bxTb.inc) / second ≠ k ∧ s.pps.outSec.all (fun (n : Nat) => decide (n < k)) then
    let w := s.rd BX_TB_PPS_WIDTH_NS
    done ({ s with pps := { s.pps with outSec := some k, outUntil := some ((k * 1000000000 + w) * 65536) } }.emit (.ppsPulse w))
  else done s

/-! ## The tick (R161, log entry 3) -/

/-- A tclk tick of a timebase: INC is added to the 96-bit count. -/
def Timebase.tick (t : Timebase) : Timebase :=
  { t with count := (t.count + t.inc) % 2 ^ 96, ticks := t.ticks + 1, run := t.run + t.inc }

/-- ZX40's timebase runs in Z0, Z1 and Z2, out of reset (R521, Table 18-7). -/
def State.zxTicks (s : State) : Bool := !s.zx.inReset && decide (s.zx.pwr ≤ 2)

/-- BX64's timebase runs while the part has power and is not held in reset. -/
def State.bxTicks (s : State) : Bool := decide (s.up.phase < 5)

/-- One tclk tick of both parts: the counts advance, and a launch-at-count output that is high has one tick less to go. -/
def State.tick (s : State) : State :=
  let s := if s.zxTicks then { s with zx := { s.zx with
      tb := s.zx.tb.tick, lacs := s.zx.lacs.map (fun x => (x.1, { x.2 with high := x.2.high - 1 })) } } else s
  if s.bxTicks then { s with bxTb := s.bxTb.tick, pps := { s.pps with outUntil := if s.ppsOn then s.pps.outUntil else none } } else s

/-! ## Opcodes (Table 16-13) -/

/-- TIME_SRC_SET (0x0102): the value of BX_TB_SRC. -/
def execTimeSrcSet (c : Cap) (s : State) : Host.Outcome State Fault Refusal :=
  done (s.checked c 0x0102 c.isOp 1 (fun s =>
    let v := c.p 0
    if 23 < bits v 61 57 ∨ 23 < bits v 56 52 then s.reply c 0x0102 S_BADPARAM
    else
      let s := { s with tsrc := { s.tsrc with primaryMeas := s.bxTb.run, primaryLost := false } }
      let s := s.wr BX_TB_SRC_MODE 0 (if bits v 63 62 = 3 then 0 else bits v 63 62)
      let s := ((s.wr BX_TB_SRC_PRIMARY 0 (bits v 61 57)).wr BX_TB_SRC_BACKUP 0 (bits v 56 52)).wr BX_TB_SRC_BACKUP_EN 0 (bits v 51 51)
      let s := ((s.wr BX_TB_SRC_DOMAIN 0 (bits v 47 40)).wr BX_TB_SRC_ASYM_PS 0 (bits v 31 16)).wr BX_TB_SRC_SYNC_PERIOD_US 0 (max 16 (bits v 15 0))
      s.reply c 0x0102 S_OK))

/-- TIME_READ (0x0101): Ringcount and timebase state. -/
def execTimeRead (c : Cap) (s : State) : Host.Outcome State Fault Refusal :=
  done (s.checked c 0x0101 (c.isOp || c.isTenant || c.isMctp) 0 (fun s =>
    let s := s.readEffect .TB_NOW_NS 1
    s.reply c 0x0101 S_OK [s.readReg .TB_NOW_NS 1, s.readReg .TB_NOW_FRAC 1, s.readReg .TB_STS 1]))

/-- TIME_STATUS (0x0104). -/
def execTimeStatus (c : Cap) (s : State) : Host.Outcome State Fault Refusal :=
  done (s.checked c 0x0104 c.isOp 0 (fun s =>
    s.reply c 0x0104 S_OK [s.readReg .TB_STS 1, s.readReg .TB_OFFSET 1, s.readReg .TB_INC 1, s.readReg .TB_SERVO 1, s.readReg .BX_TB_TOD,
      s.readReg .BX_TB_PPS]))

/-- PPS_SET (0x0105): the value of BX_TB_PPS. -/
def execPpsSet (c : Cap) (s : State) : Host.Outcome State Fault Refusal :=
  done (s.checked c 0x0105 c.isOp 1 (fun s =>
    let s := ((s.wr BX_TB_PPS_EN 0 (bits (c.p 0) 63 63)).wr BX_TB_PPS_WIDTH_NS 0 (bits (c.p 0) 31 0))
    ({ s with pps := { s.pps with outUntil := if s.ppsOn then s.pps.outUntil else none } }).reply c 0x0105 S_OK))

end Sys2Proof.Machine
end

