-- ==== Sys2Proof/Machine/ZxBlock.lean ====
section
/-! DEFINITION. ZX40 in the die (chapter 2): the epoch close (R19 to R22, R67, R102, R103), region taps (R63 to R66, R178 to R180), sensors
(R71 to R74), the Grove-S vote (R81, R82, R270), barriers (R79), poison requests (R61) and quiet windows (R76). -/
namespace Sys2Proof.Machine

/-! ## The epoch close -/

/-- The boundary last reached at ZX40: the schedule, the epoch that ends there and the instant. -/
def State.zxBoundary (s : State) : Option (Sched × Nat × Nat) :=
  match s.zx.sched with
  | none => none
  | some c => (c.at_ s.zxNs).map (fun m => (c, m - 1, c.open_ m))

/-- Counts of what no command reports one by one are added to the light set, and zclk cycles to the counters of KIND ZCLK, which run in Z0
and Z1. -/
def State.addHw (s : State) (h : HwCounts) : State :=
  let s := (s.ls 0x8B h.zclk).ls 0xAF h.replayFull
  let s := (List.range 4).foldl (fun s n => s.ls (0xA0 + n) (h.laneErr.getD n 0)) s
  let s := ((s.ls 0xAA h.linkDownUs).ls 0xB4 h.sramCe).ls 0xB5 h.sramUe
  s.zx.ctrLive.foldl (fun s x =>
    if decide (s.zx.pwr < 2) && bitAt x.2 31 && bits x.2 23 21 == 5 then s.wr ZX_CTR_VAL_VAL x.1 (s.rd ZX_CTR_VAL_VAL x.1 + h.zclk) else s) s

/-- A count of the epoch now closing: VAL minus VAL at the previous latch, modulo 2^64 (R67). -/
def wrapSub (a b : Nat) : Nat := (a + 2 ^ 64 - b % 2 ^ 64) % 2 ^ 64

/-- The count of a counter: 0 with EN = 0. -/
def State.ctrCount (s : State) (n : Nat) : Nat :=
  if bitAt (s.zx.ctrLive.getD n 0) 31 then wrapSub (s.rd ZX_CTR_VAL_VAL n) (s.zx.ctrPrev.getD n 0) else 0

def State.lsCount (s : State) (k : Nat) : Nat := wrapSub (s.rd ZX_LS_VAL_VAL k) (s.zx.lsPrev.getD k 0)

/-- The first part of the log entry of epoch e (R102 step 1). -/
def State.formEntry (s : State) (c : Sched) (e : Nat) : LogEntry :=
  { at_ := s.zx.logWr, incarnation := s.zxInc, epoch := e, cNs := c.close e, gen := s.zx.genOpen, stepped := s.zx.stepped, stampsOvf := s.zx.barOvf,
    ls := ((List.range 256).map (fun k => (k, s.lsCount k))).filter (fun x => x.2 ≠ 0)
    ctrs := (s.zx.ctrLive.filter (fun x => bitAt x.2 31)).map (fun x => (x.1, s.ctrCount x.1))
    stamps := s.zx.barStamps }

/-- Counters latch (R67): SNAP of every counter, and VAL of this latch. Selections programmed since come into force (R68). -/
def State.latchCounters (s : State) : State :=
  let keys := ((s.zx.ctrLive.map (·.1)) ++ (s.zx.ctrOld.map (·.1))).eraseDups
  let s1 := keys.foldl (fun s n => s.wr ZX_CTR_SNAP_SNAP n (s.ctrCount n)) s
  let prev := s1.zx.ctrLive.foldl (fun (m : SMap Nat) x => SMap.set m x.1 (s1.rd ZX_CTR_VAL_VAL x.1)) ([] : SMap Nat)
  let lsp := ((List.range 256).map (fun k => (k, s1.rd ZX_LS_VAL_VAL k))).filter (fun x => x.2 ≠ 0)
  ({ s1 with zx := { s1.zx with ctrPrev := prev, lsPrev := lsp, ctrOld := [] } }).loadSel

/-- Overlap of two intervals. -/
def overlap (a b c d : Nat) : Nat := min b d - max a c

/-- STOP_NS of a tap for an epoch from b to c, in ns (R180); intervals that ended by then are done with. -/
def State.latchStop (s : State) (t b c : Nat) : State :=
  let x := s.zxTap t
  let cur := match x.stoppedFrom with
    | none => []
    | some a => [(a, max a s.zxRc)]
  let sum := ((x.intervals ++ cur).map (fun i => overlap i.1 i.2 (b * 65536) (c * 65536))).foldl (· + ·) 0
  (s.setTap t { x with intervals := x.intervals.filter (fun i => decide (c * 65536 < i.2)) }).wrSat ZX_TB_TAP_STOP_STOP_NS t (sum / 65536)

/-- Latch strobes go to every populated tap (R64). -/
def State.strobe (s : State) : State :=
  (s.tapNums.foldl (fun s t => s.setTap t {
    s.zxTap t with latchPending := true, latchEdges := 0, latchTick := s.zx.tb.ticks, latchRun := s.zx.tb.run }) s).emit .latchStrobe

/-- The sensor window of an epoch opens (R72): WINDOW_US, at most half the epoch in whole us. -/
def State.openWindow (s : State) (c : Sched) (e at_ : Nat) : State :=
  let us := min (s.rd ZX_SNS_CFG_WINDOW_US) (c.len / 2 / 1000)
  let w : SnsWindow := {
    epoch := e, endNs := at_ + us * 1000
    en := (List.range 5).map (fun j => s.rd ZX_SNS_EN_EN j)
    cal := (List.range 160).map (fun k => s.readReg .ZX_SNS_CAL k) }
  ({ s with zx := { s.zx with snsWin := some w } }).emit .snsStart

/-- VALUE of a raw result (R73). -/
def snsCal (id cal raw : Nat) : Nat :=
  let sign := decide (id < 0x40)
  let x : Int := if sign then toSigned 16 raw else (raw : Int)
  let v : Int := (x * toSigned 16 (bits cal 31 16) + 8192) / 16384 + toSigned 16 (bits cal 15 0)
  if sign then ofSigned 16 (clampInt (-32768) 32767 v) else (clampInt 0 65535 v).toNat

/-- The ZX_SNS_k_VAL word of a sensor at a window's end. -/
def SnsWindow.word (w : SnsWindow) (k : Nat) : Nat :=
  if ¬ bitAt (w.en.getD (k / 32) 0) (k % 32) then 3 * 2 ^ 30
  else
    match w.results.find? k with
    | none => 2 ^ 30
    | some (true, _) => 2 * 2 ^ 30
    | some (false, raw) => snsCal k (w.cal.getD k 0) raw

/-- A window ends (R72): LATE marks, values, the second step of R102. -/
def State.endWindow (s : State) (w : SnsWindow) : State :=
  let words := (List.range 160).map w.word
  let late := (words.filter (fun x => bits x 31 30 = 1)).length
  let bad := words.any (fun x => bits x 31 30 = 1 || bits x 31 30 = 2)
  let s := (List.range 160).foldl (fun s k => s.setReg .ZX_SNS_VAL k (words.getD k 0)) (s.ls 0xC4 late)
  let s := s.modEntry w.epoch (fun e => { e with sns := some words })
  let s := if bad then s.irq ZX_IRQ_STS_SNS else s
  { s with zx := { s.zx with snsWin := none } }

/-- The close of epoch N at its boundary C: latch, conversions, strobes, log entry. -/
def State.closeEpoch (s : State) (c : Sched) (n at_ : Nat) : State :=
  let s := match s.zx.snsWin with
    | none => s
    | some w => s.endWindow w
  let z := s.zx
  let e := match z.lastEpoch with
    | none => n
    | some l => l + 1
  let part := z.heldAtOpen && !z.offEp && decide (z.pwr < 2) && ((z.wholeLocked && z.tb.isLocked && decide (e = n)) || z.stepped)
  let flags (s : State) : State := { s with zx := { s.zx with
    heldAtOpen := true, wholeLocked := s.zx.tb.isLocked, stepped := false, offEp := decide (2 ≤ s.zx.pwr), lastClose := some at_, lastEpoch := some n
    genOpen := s.rd ZX_EPC_ID_LIVE_GEN, barStamps := [], barOvf := false } }
  if 2 ≤ z.pwr then (flags s).loadSel.loadQw
  else
    let entry := s.formEntry c e
    let s := s.latchCounters.loadQw
    let s := (s.tapNums.foldl (fun s t => s.latchStop t (at_ - c.len) at_) s).strobe
    let s := (s.openWindow c e at_)
    let s := flags s
    let s := if z.pwr = 0 then (List.range 8).foldl (fun s i => if (s.trcBuf i).recording then s.epochMark i else s) s else s
    if part then
      let s := (s.ls 0x8C).logRoom entry.size (s.zx.log.length + 1)
      ({ s with zx := { s.zx with log := s.zx.log ++ [entry], unsent := s.zx.unsent ++ [e], logWr := (s.zx.logWr + entry.size) % 2097152 } }).grsSwitch
    else s.grsSwitch

/-- ZX_EPOCH_CLOSE: the timebase has reached a close instant later than the last one used (R19, R22). The counts of hardware events since
the command before are counted, with a close or without one (R69). -/
def execZxEpochClose (h : HwCounts) (s : State) : Host.Outcome State Fault Refusal :=
  if s.zx.inReset || s.zx.pwr == 3 then done s
  else
    let s := s.addHw h
    match s.zxBoundary with
    | none => done s
    | some (c, n, at_) =>
      if s.zx.lastClose.any (fun (l : Nat) => decide (at_ ≤ l)) then done s else done (s.closeEpoch c n at_)

/-! ## Region taps -/

/-- A change of the entry of an epoch whose counts may still change: nothing of it has been sent before its sensor values are in. -/
def State.modCounts (s : State) (n : Nat) (f : LogEntry → LogEntry) : State :=
  s.modEntry n (fun e => if e.sns.isNone then f e else e)

/-- A light-set count of an event sampled in a region clock (R64): before the latch edge it belongs to the epoch closed last. -/
def State.lsRegion (s : State) (pre : Bool) (k n : Nat) : State :=
  if n = 0 ∨ s.flag ZX_LS_CTRL_DIS then s
  else if pre then
    let s1 := s.ls k n
    let s2 := { s1 with zx := { s1.zx with lsPrev := SMap.set s1.zx.lsPrev k (s1.zx.lsPrev.getD k 0 + n) } }
    s2.modCounts (s2.zx.lastEpoch.getD 0) (fun e => { e with ls := SMap.set e.ls k (e.ls.getD k 0 + n) })
  else s.ls k n

/-- What one edge of a tap adds to a counter with this selection (Table 2-3). -/
def ctrAdd (w t engines nlines prev lines : Nat) : Nat :=
  let idx := bits w 13 8
  if ¬ bitAt w 31 ∨ bits w 20 14 ≠ t then 0
  else
    match bits w 23 21 with
    | 0 => if idx < nlines then b2n (bitAt lines idx && !bitAt prev idx) else 0
    | 1 => if idx < nlines then b2n (bitAt lines idx) else 0
    | 2 => if idx < engines then b2n ((engineOf lines idx).1 = 1) else 0
    | 3 => if idx < engines then b2n (decide (2 ≤ (engineOf lines idx).1) && bitAt w (engineOf lines idx).2) else 0
    | 4 => if idx < engines then b2n ((engineOf lines idx).1 = 0) else 0
    | _ => 0

/-- One edge for one counter: an edge before the latch edge counts in the epoch closed last, under the selection of that epoch. -/
def State.ctrEdge (s : State) (pre : Bool) (n t engines nlines prev lines : Nat) : State :=
  let old := (s.zx.ctrOld.find? n)
  let w := if pre then old.getD (s.zx.ctrLive.getD n 0) else s.zx.ctrLive.getD n 0
  let d := ctrAdd w t engines nlines prev lines
  if d = 0 then s
  else if pre then
    let s1 := s.wr ZX_CTR_SNAP_SNAP n (s.rd ZX_CTR_SNAP_SNAP n + d)
    let s2 := if old.isNone then
        let s3 := s1.wr ZX_CTR_VAL_VAL n (s1.rd ZX_CTR_VAL_VAL n + d)
        { s3 with zx := { s3.zx with ctrPrev := SMap.set s3.zx.ctrPrev n (s3.zx.ctrPrev.getD n 0 + d) } }
      else s1
    s2.modCounts (s2.zx.lastEpoch.getD 0) (fun e =>
      match e.ctrs.find? n with
      | none => e
      | some v => { e with ctrs := SMap.set e.ctrs n (v + d) })
  else s.wr ZX_CTR_VAL_VAL n (s.rd ZX_CTR_VAL_VAL n + d)

/-- A tap's clock runs again (R180): a stopped interval ends, and in every buffer of the tap the next record carries CLOCK_STOPPED (Table 3-1:
whether each buffer's own first record or only the first of all carries it is open; log entry 108). -/
def State.resumeTap (s : State) (t : Nat) : State :=
  let x := s.zxTap t
  let s1 := match x.stoppedFrom with
    | none => s
    | some a =>
      let s := (List.range 8).foldl (fun (s : State) n =>
        if (s.trcBuf n).state ≠ TrcState.idle ∧ (s.trcBuf n).tap = t then s.setTrc n { s.trcBuf n with stopNext := true } else s) s
      s.setTap t { x with intervals := x.intervals ++ [(a, s.zxRc)], stoppedFrom := none }
  (s1.setTap t { s1.zxTap t with lastToggle := s.zxRc, toggleTick := s.zx.tb.ticks }).wr ZX_TAP_STS_STOPPED t 0

/-- A clock-stretch sensor mapped to the tap tripped in this tick or within the 16 ticks before it (R179). -/
def State.tripNear (s : State) (t : Nat) : Bool := (s.zxTap t).lastTrip.any (fun (k : Nat) => decide (s.zx.tb.ticks ≤ k + 16))

/-- The latch edge became visible later than 3 × NOM_PERIOD_PS + 2,500 ps after the latch tick (R179), in the time the timebase has run. -/
def State.latchLate (s : State) (t : Nat) : Bool :=
  decide ((3 * s.rd ZX_TAP_CFG_NOM_PERIOD_PS t + 2500) * 4294967296 < (s.zx.tb.run - (s.zxTap t).latchRun) * 1000)

/-- How an engine stalls (R63): its reason where it is stalled. STATE 0b11 is stalled with reason 7. -/
def stallOf (lines e : Nat) : Option Nat := if 2 ≤ (engineOf lines e).1 then some (engineOf lines e).2 else none

/-- The engines' part of an edge: light-set counts, change stamps, illegal states (R63, R69). -/
def State.engineEdge (s : State) (pre : Bool) (t engines prev lines : Nat) : State :=
  let es := (List.range engines).map (engineOf lines)
  let busy := (es.filter (fun x => x.1 = 1)).length
  let stall := (es.filter (fun x => decide (2 ≤ x.1))).length
  let idle := (es.filter (fun x => x.1 = 0)).length
  let ill := (es.filter (fun x => x.1 = 3)).length
  let s := ((((s.lsRegion pre t busy).lsRegion pre 0x88 busy).lsRegion pre 0x89 stall).lsRegion pre 0x8A idle).lsRegion pre 0xC0 ill
  let s := (List.range 8).foldl (fun s r => s.lsRegion pre (0x80 + r) (es.filter (fun x => decide (2 ≤ x.1) && x.2 == r)).length) s
  let s := if ill = 0 then s else (s.wr ZX_TAP_STS_ILLEGAL_SEEN t 1).irq ZX_IRQ_STS_TAP
  let moved := (List.range engines).filter (fun e => engineOf prev e ≠ engineOf lines e)
  let stall := (List.range engines).filter (fun e => stallOf prev e ≠ stallOf lines e)
  s.setTap t { s.zxTap t with
    change := moved.foldl (fun (m : SMap Nat) e => SMap.set m e s.zxRc) (s.zxTap t).change
    stallFrom := stall.foldl (fun (m : SMap Nat) e => SMap.set m e s.zxRc) (s.zxTap t).stallFrom }

/-- The records of an edge for a buffer that records this tap (R88). -/
def TraceBuf.edgeRecords (b : TraceBuf) (t engines prev lines stamp : Nat) (stretched mark : Bool) : List TRec :=
  if b.tap ≠ t then []
  else if b.src = 0 then
    if (prev ^^^ lines) &&& b.mask = 0 then [] else [trec 0 stamp lines stretched mark]
  else if b.src = 1 then
    let es := (List.range engines).filter (fun e => engineOf prev e ≠ engineOf lines e)
    es.mapIdx (fun i e =>
      let x := engineOf lines e
      trec 1 stamp (packFields [(5, 3, e), (2, 3, if 2 ≤ x.1 then x.2 else 0), (0, 2, x.1)]) stretched (mark && i = 0))
  else []

/-- The edge reaches the trace buffers. -/
def State.traceEdge (s : State) (t engines prev lines : Nat) (stretched : Bool) : State :=
  (List.range 8).foldl (fun s n =>
    let b := s.trcBuf n
    let rs := b.edgeRecords t engines prev lines s.zxRc stretched b.stopNext
    if ¬ b.recording ∨ rs = [] then s else s.setTrc n (rs.foldl TraceBuf.source { b with stopNext := false })) s

/-- One rclk edge of one tap (R63, R64, R66). The edge before a tap's first sampled edge, after a reset and after Z2, is taken to have every line
0, which the spec leaves open (log entry 109). -/
def State.tapEdge (s : State) (t raw : Nat) : State :=
  let nlines := s.rd ZX_TAP_CFG_LINES t
  let engines := s.rd ZX_TAP_CFG_ENGINES t
  let lines := raw % 2 ^ nlines
  let s := s.resumeTap t
  let x := s.zxTap t
  let prev := x.lines
  let latch := x.latchPending && decide (2 ≤ x.latchEdges)
  let pre := x.latchPending && !latch
  let late := latch && s.latchLate t
  let stretched := s.tripNear t || late
  let s := s.engineEdge pre t engines prev lines
  let keys := ((s.zx.ctrLive ++ s.zx.ctrOld).filter (fun c => bits c.2 20 14 = t)).map (·.1) |>.eraseDups
  let s := keys.foldl (fun s n => s.ctrEdge pre n t engines nlines prev lines) s
  let s := s.traceEdge t engines prev lines stretched
  let y := s.zxTap t
  let s := s.setTap t { y with lines := lines, latchPending := y.latchPending && !latch, latchEdges := if latch then 0 else y.latchEdges + 1 }
  if stretched then
    let s := (s.wr ZX_TAP_STS_STRETCH_SEEN t 1).lsRegion pre 0xC1 1
    if latch then s.modCounts (s.zx.lastEpoch.getD 0) (fun e => { e with stretched := e.stretched ||| 2 ^ t }) else s
  else s

/-- The beat a Blaze unit takes from the lines of its taps (R192, R193). -/
def State.blzFeed (s : State) (u : Nat) : State :=
  let w := 2 ^ s.rd BLZ_CFG_FEED_W u
  let ctl := bits (s.zxTap (s.rd BLZ_CFG_CTAP u)).lines (8 * s.rd BLZ_CFG_CGRP u + 7) (8 * s.rd BLZ_CFG_CGRP u)
  let bytes := (List.range w).flatMap (fun i => leBytes 8 (s.zxTap (s.rd BLZ_CFG_DTAP u + i)).lines)
  s.blzBeat u bytes ctl

/-- REGION_TAP_SAMPLE: one rising edge of a region clock, with the lines of every populated tap that it clocks. -/
def execRegionTapSample (edge : SMap Nat) (s : State) : Host.Outcome State Fault Refusal :=
  if ¬ s.zxOn then done s
  else
    let taps := edge.filter (fun x => s.tapOk x.1)
    let s1 := taps.foldl (fun s x => s.tapEdge x.1 x.2) s
    done ((List.range 16).foldl (fun s u => if taps.any (fun x => x.1 = s.rd BLZ_CFG_CTAP u) then s.blzFeed u else s) s1)

/-- STOP_TICKS ticks have passed since a tick of the timebase. -/
def State.stopTicks (s : State) (k : Nat) : Bool := decide (k + s.rd ZX_CTRL_STOP_TICKS ≤ s.zx.tb.ticks)

/-- TAP_LATCH_TIMEOUT: a tap's latch edge has not come STOP_TICKS after the latch tick (R65). -/
def execTapLatchTimeout (t : Nat) (s : State) : Host.Outcome State Fault Refusal :=
  if ¬ s.zxOn ∨ ¬ s.tapOk t ∨ ¬ (s.zxTap t).latchPending ∨ ¬ s.stopTicks (s.zxTap t).latchTick then done s
  else
    let mark := if s.flag ZX_TAP_STS_STOPPED t then (s.zxTap t).stopMark else s.zxRc
    let s := s.setTap t { s.zxTap t with latchPending := false, latchEdges := 0, stopMark := mark }
    let s := s.modCounts (s.zx.lastEpoch.getD 0) (fun e => { e with stopped := e.stopped ||| 2 ^ t })
    done ((((s.wr ZX_TAP_STS_STOPPED t 1).wr ZX_TAP_STS_STOP_SEEN t 1).ls 0xC2).irq ZX_IRQ_STS_TAP)

/-- TAP_CLOCK_STOPPED: no toggle of a tap's clock for STOP_TICKS ticks (R180); one in this tick keeps it from being stopped (Table 6-17). -/
def execTapClockStopped (t : Nat) (s : State) : Host.Outcome State Fault Refusal :=
  if ¬ s.zxOn ∨ ¬ s.tapOk t ∨ (s.zxTap t).stoppedFrom.isSome ∨ ¬ s.stopTicks (s.zxTap t).toggleTick then done s
  else done ((s.setTap t { s.zxTap t with stoppedFrom := some (s.zxTap t).lastToggle }).bump ZX_TB_TAP_STOP_STOPS t)

/-- TAP_CLOCK_RESUMED: the next toggle is seen. -/
def execTapClockResumed (t : Nat) (s : State) : Host.Outcome State Fault Refusal :=
  if ¬ s.zxOn ∨ ¬ s.tapOk t then done s else done (s.resumeTap t)

/-- STRETCH_TRIP: a rising edge of sns_stretch_evt of a sensor (R69, R179). -/
def execStretchTrip (n : Nat) (s : State) : Host.Outcome State Fault Refusal :=
  if 16 ≤ n ∨ s.zx.inReset ∨ s.zx.pwr = 3 then done s
  else
    let e := bits (s.readReg .ZX_TB_STR_MAP (n / 8)) (8 * (n % 8) + 7) (8 * (n % 8))
    let s := s.ls (0xD0 + n)
    done (if bitAt e 7 then s.setTap (e % 128) { s.zxTap (e % 128) with lastTrip := some s.zx.tb.ticks } else s)

/-- DROOP_TRIP: a rising edge of sns_droop_evt of a sensor. -/
def execDroopTrip (n : Nat) (s : State) : Host.Outcome State Fault Refusal :=
  if 32 ≤ n ∨ s.zx.inReset ∨ s.zx.pwr = 3 then done s else done (s.ls (0xE0 + n))

/-- TEST_MODE_REQUEST: an edge of the synchronised zx_test_mode to a level (R57). -/
def execTestModeRequest (level : Bool) (s : State) : Host.Outcome State Fault Refusal :=
  if s.zx.inReset ∨ s.zx.pwr = 3 then done s
  else if s.zx.lc = 3 then done { s with zx := { s.zx with testMode := level } }
  else if level then done ((s.ls 0xCB).irq ZX_IRQ_STS_APB)
  else done { s with zx := { s.zx with testMode := false } }

/-! ## Counter selections and the light set -/

/-- A SEL word as APB may store it: OWNER is not written. -/
def selStore (old w : Nat) : Nat := (w % 2 ^ 32) - 2 ^ 30 * bits w 30 30 + 2 ^ 30 * bits old 30 30

/-- ZX_CTR_SEL_WRITE: an APB write to the SEL of counter n, in the privileged or the tenant view (R68, R75). One that both rules refuse
counts under both. -/
def execZxCtrSelWrite (n w : Nat) (priv : Bool) (s : State) : Host.Outcome State Fault Refusal :=
  let old := s.zx.ctrSel.getD n 0
  let tenant := s.rd ZX_SEC_BIND_TENANT
  let denied : Bool := !priv && !(!bitAt old 30 && tenant ≠ 0 && bits old 29 24 = tenant)
  if 16384 ≤ n ∨ 2 ≤ s.zx.pwr then done s
  else if s.zx.inReset then done (s.emit (.apb 0 true))
  else if denied || bitAt old 30 then
    let s := if denied then s.ls 0xCB else s
    let s := if bitAt old 30 then s.ls 0xCC else s
    done ((s.irq ZX_IRQ_STS_APB).emit (.apb 0 true))
  else done ((s.setSel n (selStore old w)).emit (.apb 0 false))

/-- ZX_LS_CTRL_WRITE: a write of DIS (R70). -/
def execZxLsCtrlWrite (v : Nat) (s : State) : Host.Outcome State Fault Refusal :=
  if 2 ≤ s.zx.pwr then done s
  else if s.zx.inReset then done (s.emit (.apb 0 true))
  else done ((if bitAt v 0 ∧ s.zx.lc = 2 then s else s.wr ZX_LS_CTRL_DIS 0 (v % 2)).emit (.apb 0 false))

/-- ZX_APB_ACCESS_IN_RESET: an access while a reset input is low or within 64 zclk of release is answered and changes nothing (R53). -/
def execZxApbAccessInReset (addr : Nat) (write : Bool) (v : Nat) (s : State) : Host.Outcome State Fault Refusal :=
  let _ := (addr, write, v)
  done (if s.zx.inReset ∧ s.zx.pwr < 2 then s.emit (.apb 0 true) else s)

/-! ## Barriers (R79) -/

/-- An arrival is counted and, while the epoch has room, stamped and traced (R88: a record for each stamped arrival). -/
def State.arriveNew (s : State) (l : Nat) (pin : Bool) : State :=
  let s := s.ls (0x90 + l)
  let z := s.zx
  let full := decide (1024 ≤ z.barStamps.length)
  let s := { s with zx := { z with
    barLast := SMap.set z.barLast l (s.zxRc, pin)
    barStamps := if full then z.barStamps else z.barStamps ++ [(s.zxRc, l)]
    barOvf := z.barOvf || full } }
  (List.range 8).foldl (fun s n =>
    let b := s.trcBuf n
    if !full && b.recording && b.src == 2 then s.setTrc n (b.source (trec 2 s.zxRc l)) else s) s

/-- An arrival on a barrier line: the pin and the register in one tick make one arrival (Table 2-29). -/
def State.arrive (s : State) (l : Nat) (pin : Bool) : State :=
  if (s.zx.barLast.find? l).any (fun (x : Nat × Bool) => x.1 == s.zxRc && x.2 != pin) then s else s.arriveNew l pin

/-- BARRIER_ARRIVAL: a rising edge of bar_arr of line l. -/
def execBarrierArrival (l : Nat) (s : State) : Host.Outcome State Fault Refusal :=
  if 16 ≤ l ∨ ¬ s.zxOn then done s else done (s.arrive l true)

/-- ZX_BAR_ARRIVE_WRITE: a write of a line to ZX_BAR_ARRIVE, in the privileged or the tenant view (R75). -/
def execZxBarArriveWrite (v : Nat) (priv : Bool) (s : State) : Host.Outcome State Fault Refusal :=
  if 2 ≤ s.zx.pwr then done s
  else if s.zx.inReset then done (s.emit (.apb 0 true))
  else if ¬ priv ∧ ¬ bitAt (s.rd ZX_SEC_BIND_BAR_MASK) (v % 16) then done (((s.ls 0xCB).irq ZX_IRQ_STS_APB).emit (.apb 0 true))
  else done ((s.arrive (v % 16) false).emit (.apb 0 false))

/-! ## Sensors -/

/-- A sensor ID is valid (R71). -/
def State.snsOk (s : State) (id : Nat) : Bool :=
  if id < 0x40 then decide (id < s.rd ZX_SNS_PARAM_THERM)
  else if id < 0x60 then decide (id - 0x40 < s.rd ZX_SNS_PARAM_VOLT)
  else if id < 0x80 then decide (id - 0x60 < s.rd ZX_SNS_PARAM_DROOP)
  else if id < 0x90 then decide (id - 0x80 < s.rd ZX_SNS_PARAM_STRETCH)
  else if id < 0xA0 then decide (id - 0x90 < s.rd ZX_SNS_PARAM_AGE)
  else false

/-- SENSOR_RESULT: a result is accepted at the sensor port (R71 to R73). One in its window with sns_res_err = 1 counts in SNS_ERR alone; whether it
counts in SNS_CONV too is open in Table 2-7 (log entry 110). -/
def execSensorResult (id raw : Nat) (err : Bool) (s : State) : Host.Outcome State Fault Refusal :=
  if ¬ s.zxOn then done s
  else
    match s.zx.snsWin with
    | none => done (s.ls 0xC4)
    | some w =>
      if w.endNs ≤ s.zxNs then done (s.ls 0xC4)
      else if ¬ s.snsOk id ∨ (w.results.find? id).isSome then done (s.ls 0xC5)
      else
        let s1 := { s with zx := { s.zx with snsWin := some { w with results := SMap.set w.results id (err, raw % 65536) } } }
        done (if err then s1.ls 0xC5 else s1.ls 0xC3)

/-- SENSOR_WINDOW_END: the window of the last close has ended. -/
def execSensorWindowEnd (s : State) : Host.Outcome State Fault Refusal :=
  match s.zx.snsWin with
  | none => done s
  | some w => if s.zxNs < w.endNs then done s else done (s.endWindow w)

/-! ## Grove-S (R81, R82, R268, R270) -/

/-- The feature map of an epoch, by APB address. -/
def State.grsFeats (s : State) (e : Nat) : SMap Nat :=
  if (match s.zx.grsRole with | none => false | some m => decide (e < m)) then s.zx.featOld
  else (List.range 256).map (fun f => (0x400 + 4 * f, s.readReg .ZX_GRS_FEAT f))

/-- The result of the vote over an entry: class and alarm, none when no valid image is in force (R270). -/
def State.grsVote (s : State) (e : LogEntry) : Option (Nat × Bool) :=
  let img := s.zx.grsLive
  if img = [] ∨ s.zx.grsErr ∨ s.zx.grsWriting ∨ e.epoch < s.zx.grsFrom then none
  else
    let h := parseModel img
    let bytes := e.bytes
    let m := s.grsFeats e.epoch
    match modelSums img imageLayout h (grsFeature m bytes) with
    | none => none
    | some sums =>
      let v := voteOf sums h.voteMin h.tieAbstain
      some (v.cls, v.alarm (alarmBit img))

/-- GROVE_S_VOTE: the vote of the oldest epoch whose sensor values are written and whose result is not. -/
def execGroveSVote (s : State) : Host.Outcome State Fault Refusal :=
  if ¬ s.zxOn then done s
  else
    match s.zx.log.find? (fun e => e.sns.isSome && e.grs.isNone) with
    | none => done s
    | some e =>
      let v := s.grsVote e
      let w := match v with
        | none => packFields [(16, 16, e.epoch)]
        | some (c, a) => packFields [(16, 16, e.epoch), (15, 1, 1), (14, 1, b2n a), (0, 8, c)]
      let s := (s.setReg .ZX_GRS_RESULT 0 w).modEntry e.epoch (fun x => { x with grs := some w })
      match v with
      | none => done s.grsSwitch
      | some (_, a) =>
        let s := s.ls 0xCD
        let s := if a then (((s.ls 0xCE).irq ZX_IRQ_STS_ALARM).zxAlarm 1 (w % 65536) 0).triggerSource 2 else s
        done s.grsSwitch

/-! ## Poison requests (R61, R198) -/

/-- The granule at the poison pins. -/
def State.psnHead (s : State) : Option Nat := (s.zx.psnQ.head?).bind List.head?

/-- POISON_ACCEPT: psn_ready is 1 while a request is held. -/
def execPoisonAccept (s : State) : Host.Outcome State Fault Refusal :=
  match s.zx.psnQ with
  | [] => done s
  | g :: t =>
    let rest := g.drop 1
    done (({ s with zx := { s.zx with psnQ := if rest = [] then t else rest :: t, psnStuck := false } }).ls 0xB7)

/-- POISON_STUCK: the request at the pins is still not accepted 64 zclk after psn_valid rose. -/
def execPoisonStuck (s : State) : Host.Outcome State Fault Refusal :=
  match s.psnHead with
  | none => done s
  | some a =>
    if s.zx.psnStuck then done s
    else done ((({ s with zx := { s.zx with psnStuck := true } }).irq ZX_IRQ_STS_ALARM).zxAlarm 4 0 (a * 64))

/-! ## Quiet windows (R76, R77) -/

/-- A quiet window is open at an instant, by the settings in force. -/
def State.qwOpen (s : State) (n t : Nat) : Bool :=
  let w := s.zx.qwLive.getD n (0, 2000 * 2 ^ 24)
  let per := bits w.1 63 32
  let wid := bits w.2 23 0
  let grd := bits w.2 47 24
  let r := (t + per - bits w.1 31 0 % per) % per
  bitAt w.2 63 && (decide (per = 0 ∨ per ≤ wid + grd) || decide (r < wid) || decide (per - grd ≤ r))

def State.anyQw (s : State) : Bool := (List.range 4).any (fun n => s.qwOpen n s.zxNs)

/-- QUIET_WINDOW_EDGE: zx_quiet takes the value the windows give at this instant. -/
def execQuietWindowEdge (s : State) : Host.Outcome State Fault Refusal :=
  if s.zx.inReset ∨ 2 ≤ s.zx.pwr then done s
  else
    let q := s.anyQw
    if q = s.zx.quiet then done s
    else done (({ s with zx := { s.zx with quiet := q, heldBufs := if q then s.zx.heldBufs else [] } }).emit (.quiet q))

end Sys2Proof.Machine
end

