-- ==== Sys2Proof/Machine/ZxTrace.lean ====
section
/-! DEFINITION. ZX40's stores of the recent past (chapter 3): trace buffers and their drain (R85 to R97), the hang dump (R98 to R100), the
epoch log's resends and acknowledgements (R104, R105). -/
namespace Sys2Proof.Machine

/-! ## Trace buffers -/

/-- A buffer number. -/
def bufOk (n : Nat) : Bool := decide (n < 8)

/-- TRACE_ARM: a write of 1 to ZX_TRC_n_CTRL.ARM. -/
def execTraceArm (n : Nat) (s : State) : Host.Outcome State Fault Refusal :=
  done (if s.zxOn && bufOk n then s.trcArm n else s)

/-- TRACE_MANUAL_TRIGGER: a write of 1 to ZX_TRC_n_CTRL.TRIG. -/
def execTraceManualTrigger (n : Nat) (s : State) : Host.Outcome State Fault Refusal :=
  done (if s.zxOn && bufOk n then s.trigger n 0 else s)

/-- TRACE_RELEASE: a write of 1 to ZX_TRC_n_CTRL.RELEASE. -/
def execTraceRelease (n : Nat) (s : State) : Host.Outcome State Fault Refusal :=
  done (if s.zxOn && bufOk n then s.trcRelease n else s)

/-- TRC_TRIGGER (0x0510): die address, buffer. -/
def execTrcTrigger (c : Cap) (s : State) : Host.Outcome State Fault Refusal :=
  done (s.zxRun c 0x0510 2 (fun s => if bufOk (c.p 1) then (s.trigger (c.p 1) 0).zxReply c 0x0510 S_OK else s.zxReply c 0x0510 S_BADPARAM))

/-- TRC_RELEASE (0x0511): die address, buffer. -/
def execTrcRelease (c : Cap) (s : State) : Host.Outcome State Fault Refusal :=
  done (s.zxRun c 0x0511 2 (fun s => if bufOk (c.p 1) then (s.trcRelease (c.p 1)).zxReply c 0x0511 S_OK else s.zxReply c 0x0511 S_BADPARAM))

/-- TRACE_SOURCE_RECORD: the oldest record of a buffer's input queue enters the buffer. -/
def execTraceSourceRecord (n : Nat) (s : State) : Host.Outcome State Fault Refusal :=
  done (if s.zxOn && bufOk n && (s.trcBuf n).recording then s.putTrc n (s.trcBuf n).take else s)

/-- TRACE_LINE_TRIGGER: a rising edge of line l of tap t (source 1). -/
def execTraceLineTrigger (t l : Nat) (s : State) : Host.Outcome State Fault Refusal :=
  done (if s.zxOn && s.tapOk t && decide (l < s.rd ZX_TAP_CFG_LINES t) then
    s.triggerSource 1 (fun b => b.tap = t && b.trigLine = l) else s)

/-- TRACE_TIME_TRIGGER: the first tick at which Ringcount has reached TRIG_AT (source 5). -/
def execTraceTimeTrigger (n : Nat) (s : State) : Host.Outcome State Fault Refusal :=
  let b := s.trcBuf n
  if ¬ (s.zxOn && bufOk n) ∨ b.state = .idle ∨ b.trigSrc ≠ 5 ∨ b.timeDone ∨ s.zxNs < s.rd ZX_TRC_TRIG_AT_TRIG_AT n then done s
  else done ((s.setTrc n { b with timeDone := true }).trigger n 5)

/-! ## The AXI drain (R60, R94, R95) -/

/-- Bytes of a buffer's ring in die memory. -/
def State.ringBytes (s : State) (n : Nat) : Nat := 4096 * 2 ^ min 18 (s.rd ZX_TRC_DBASE_SIZE n)

/-- Offset in the ring of the next record to be issued: after DWR and every burst on its way. -/
def State.issueOff (s : State) (n : Nat) : Nat :=
  (s.rd ZX_TRC_DWR_DWR n + 16 * (((s.zx.bursts.filter (fun b => b.buf = n)).map (·.count)).foldl (· + ·) 0)) % s.ringBytes n

/-- Records of the next burst: at most 16, within 4 KiB, within the ring, within what the consumer has freed. -/
def State.burstCount (s : State) (n : Nat) : Nat :=
  let size := s.ringBytes n
  let off := s.issueOff n
  let base := s.rd ZX_TRC_DBASE_BASE n * 4096 / size * size
  let free := (s.rd ZX_TRC_DRD_DRD n % size + 2 * size - off - 16) % size / 16
  let ready := ((s.trcBuf n).recs.filter (fun r => !r.inBurst)).length
  min (min 16 ready) (min free (min ((size - off) / 16) ((4096 - (base + off) % 4096) / 16)))

/-- A buffer drains over AXI. -/
def State.axiDrains (s : State) (n : Nat) : Bool :=
  let b := s.trcBuf n
  decide (b.state ≠ .idle) && !b.ring && b.drain == 1 && !b.drainErr

/-- The lowest AWID not outstanding. -/
def State.freeId (s : State) : Option Nat :=
  (List.range 16).find? (fun i => !s.zx.bursts.any (fun b => b.id == i && b.answer == 0))

/-- The first k records that are in no burst are now in one. -/
def markBurst : Nat → List TRec → List TRec
  | _, [] => []
  | 0, l => l
  | k + 1, r :: t => if r.inBurst then r :: markBurst (k + 1) t else { r with inBurst := true } :: markBurst k t

/-- DRAIN_BURST_ISSUE: a burst of buffer n is ready; an open quiet window holds it, counted once (R77). -/
def execDrainBurstIssue (n : Nat) (s : State) : Host.Outcome State Fault Refusal :=
  let k := s.burstCount n
  if ¬ (s.zxOn && bufOk n && s.axiDrains n) ∨ k = 0 then done s
  else if s.anyQw then
    done (if s.zx.heldBufs.contains n then s else ({ s with zx := { s.zx with heldBufs := s.zx.heldBufs ++ [n] } }).ls 0xBC)
  else
    match s.freeId with
    | none => done s
    | some i =>
      let size := s.ringBytes n
      let a := s.rd ZX_TRC_DBASE_BASE n * 4096 / size * size + s.issueOff n
      let b := s.trcBuf n
      let data := ((b.recs.filter (fun r => !r.inBurst)).take k).flatMap (fun r => leBytes 8 r.w0 ++ leBytes 8 r.w1)
      let x : Burst := { id := i, buf := n, addr := a, count := k, at_ := s.zxNs }
      let s := s.setTrc n { b with recs := markBurst k b.recs }
      let s := { s with zx := { s.zx with bursts := s.zx.bursts ++ [x], heldBufs := s.zx.heldBufs.filter (fun m => m ≠ n) } }
      done (s.emit (.axiWrite { id := i, addr := a, len := k - 1 } data))

/-- The first burst of a buffer, and the others. -/
def takeBurst (n : Nat) : List Burst → Option (Burst × List Burst)
  | [] => none
  | b :: t =>
    if b.buf = n then some (b, t)
    else match takeBurst n t with
      | none => none
      | some (x, r) => some (x, b :: r)

/-- DWR moves past every burst that it and all earlier ones have been answered OKAY. -/
def advanceDwr (n : Nat) : Nat → State → State
  | 0, s => s
  | k + 1, s =>
    match takeBurst n s.zx.bursts with
    | none => s
    | some (b, rest) =>
      if b.answer = 1 then
        let s := { s with zx := { s.zx with bursts := rest } }
        let s := s.wr ZX_TRC_DWR_DWR n ((s.rd ZX_TRC_DWR_DWR n + 16 * b.count) % s.ringBytes n)
        advanceDwr n k (s.trcFree n b.count)
      else s

/-- DRAIN_BRESP: the response of an outstanding burst. -/
def execDrainBresp (id : Nat) (ok : Bool) (s : State) : Host.Outcome State Fault Refusal :=
  match s.zx.bursts.find? (fun b => b.id == id && b.answer == 0) with
  | none => done s
  | some b =>
    let n := b.buf
    let set (l : List Burst) : List Burst := l.map (fun (x : Burst) =>
      if x.id = id ∧ x.answer = 0 then { x with answer := if ok then 1 else 2 } else x)
    let s := if ok then s else s.ls 0xBB
    if ¬ bufOk n then
      done { s with zx := { s.zx with bursts := s.zx.bursts.filter (fun x => !(x.id == id && x.answer == 0)) } }
    else
      let s := { s with zx := { s.zx with bursts := set s.zx.bursts } }
      let s := if ok then s else (s.setTrc n ({ s.trcBuf n with drainErr := true } : TraceBuf).settle).irq ZX_IRQ_STS_TRACE
      done ((advanceDwr n s.zx.bursts.length s).orphanBursts n)

/-- TRACE_DRD_WRITE: the consumer's offset; bits below 16 B and at or above the ring size are ignored. -/
def execTraceDrdWrite (n v : Nat) (s : State) : Host.Outcome State Fault Refusal :=
  done (if s.zxOn && bufOk n then s.wr ZX_TRC_DRD_DRD n (v % s.ringBytes n / 16 * 16) else s)

/-! ## The hang dump -/

/-- HANG_CONDITION: the conditions of causes 0 to 3 are looked at; one that holds and has not been declared declares the die hung. -/
def execHangCondition (s : State) : Host.Outcome State Fault Refusal :=
  if ¬ s.zxOn then done s
  else
    let now := s.hangCauses
    let new := now - (now &&& s.zx.hangOn)
    let s := { s with zx := { s.zx with hangOn := now } }
    done (if new = 0 then s else s.declareHang new)

/-- HANG_TAKE: a write of 1 to ZX_HD_CTRL.TAKE (cause 4). -/
def execHangTake (s : State) : Host.Outcome State Fault Refusal := done (if s.zxOn then s.declareHang 16 else s)

/-- HANG_RELEASE_WRITE: a write of 1 to ZX_HD_CTRL.RELEASE. -/
def execHangReleaseWrite (s : State) : Host.Outcome State Fault Refusal := done (if s.zxOn then s.releaseHang else s)

/-- HANG_DECLARE (0x0512): die address. While a dump is held the declaration takes none (R100). -/
def execHangDeclare (c : Cap) (s : State) : Host.Outcome State Fault Refusal :=
  done (s.zxRun c 0x0512 1 (fun s => (s.declareHang 16).zxReply c 0x0512 (if s.zx.dump = [] then S_OK else S_BUSY)))

/-- HANG_RELEASE (0x0513): die address. -/
def execHangRelease (c : Cap) (s : State) : Host.Outcome State Fault Refusal :=
  done (s.zxRun c 0x0513 1 (fun s =>
    if s.flag ZX_HD_STS_SENT then s.releaseHang.zxReply c 0x0513 S_OK else s.zxReply c 0x0513 S_NOTNOW))

/-- HANG_DUMP_TAKEN: the capture is complete (R99 steps 3 to 5). -/
def execHangDumpTaken (s : State) : Host.Outcome State Fault Refusal :=
  if s.zx.dump = [] ∨ s.flag ZX_HD_STS_HELD then done s
  else
    let s := (((s.wr ZX_HD_STS_HELD 0 1).wr ZX_HD_STS_SENT 0 0).irq ZX_IRQ_STS_TRACE).ls 0xBF
    let s := s.zxAlarm 3 (s.rd ZX_HD_STS_CAUSE) 0
    done (s.modLink .zx (fun l => { l with dumpNext := some 0 }))

/-! ## The epoch log -/

/-- LOG_RESEND (0x0514): die address, first epoch (R105). -/
def execLogResend (c : Cap) (s : State) : Host.Outcome State Fault Refusal :=
  done (s.zxRun c 0x0514 2 (fun s =>
    let part := match s.zx.log.head? with
      | none => true
      | some e => decide (c.p 1 < e.epoch)
    let s1 := s.resendFrom (c.p 1)
    let s1 := s1.endPass
    if part then s1.zxReply c 0x0514 S_PARTIAL [s.readReg .ZX_LOG_OLDEST] else s1.zxReply c 0x0514 S_OK))

/-- STEM_ACK_RECEIVE: an ACK flit's log acknowledgement (R104, R145). -/
def execStemAckReceive (logv : Bool) (epoch : Nat) (s : State) : Host.Outcome State Fault Refusal :=
  let s := s.consume .zx 7 0
  if ¬ logv then done s
  else if s.flag ZX_LOG_ACKED_VALID ∧ epoch ≤ s.rd ZX_LOG_ACKED_EPOCH then done s
  else if ¬ s.zx.lastEpoch.any (fun (n : Nat) => decide (epoch ≤ n)) then done (s.viol .zx 13)
  else done ((s.wr ZX_LOG_ACKED_VALID 0 1).wr ZX_LOG_ACKED_EPOCH 0 epoch)

end Sys2Proof.Machine
end

