-- ==== Sys2Proof/Machine/ZxAdmin.lean ====
section
/-! DEFINITION. ZX40 under its BX64 and its pins: commands received (R146), the internal opcodes of Table 5-6a, the apply instant at a
ZX40 (R43, R147), resets (R515), survival (Table 18-7), power states (R521) and the Clearing (R526). -/
namespace Sys2Proof.Machine

/-! ## Survival (Table 18-7) -/

/-- Registers of ZX40, by their place in the list of registers. Of a register that BX64 has as well, those with ZX40's index. -/
def zxRegs : List Reg :=
  [.ZX_EPC_STATE, .ZX_EPC_ID, .ZX_CTR_SEL, .ZX_CTR_VAL, .ZX_CTR_SNAP, .ZX_LS_VAL, .ZX_LS_CTRL, .ZX_SNS_CFG, .ZX_SNS_EN, .ZX_SNS_VAL, .ZX_SNS_CAL,
   .ZX_SNS_PARAM, .ZX_SEC_BIND, .ZX_QW_TIME, .ZX_QW_SPAN, .ZX_BAR_ARRIVE, .ZX_IRQ_STS, .ZX_IRQ_EN, .ZX_GRS_FEAT, .ZX_GRS_RESULT, .ZX_ID, .ZX_BUILD,
   .ZX_CTRL, .ZX_TAP_CFG, .ZX_TAP_STS, .ZX_TRC_CFG, .ZX_TRC_MASK, .ZX_TRC_TRIG_AT, .ZX_TRC_STS, .ZX_TRC_DBASE, .ZX_TRC_DWR, .ZX_TRC_DRD, .ZX_TRC_CTRL,
   .ZX_HD_CFG, .ZX_HD_STS, .ZX_HD_CTRL, .ZX_MEM_WIN, .ZX_LOG_OLDEST, .ZX_LOG_ACKED, .ZX_LOG_STS, .ZX_EPC_ADDR, .ZX_STM_CNT, .ZX_STM_PMA_LAT,
   .ZX_STM_CTRL, .ZX_LAC_TGT, .ZX_LAC_CFG, .ZX_TB_TAP_STOP, .ZX_BLZ_RF, .ZX_BLZ_UCTRL, .ZX_BLZ_STS, .ZX_BLZ_CTRL, .ZX_GRS_STS, .ZX_TB_STR_MAP]

/-- Registers both parts have, with the number of indices that are ZX40's. -/
def sharedRegs : List (Reg × Nat) :=
  [(.STM_STS, 1), (.TB_NOW_NS, 1), (.TB_NOW_FRAC, 1), (.TB_STS, 1), (.TB_OFFSET, 1), (.TB_INC, 1), (.TB_SERVO, 1), (.BLZ_CFG, 16), (.BLZ_POLY, 16),
   (.BLZ_XOROUT, 16), (.BLZ_CNT0, 16), (.BLZ_CNT1, 16), (.BLZ_LAST, 16)]

/-- A held register field (by key) is one of ZX40's. -/
def zxKey (key : Nat) : Bool :=
  let c := key / 64 % 256
  let i := key / 16384
  zxRegs.any (fun r => r.ctorIdx == c) || sharedRegs.any (fun r => r.1.ctorIdx == c && decide (i < r.2))

/-- Registers that report how ZX40 is integrated (R11's 'integration'): no reset changes them. -/
def integrated : List Reg := [.ZX_BUILD, .ZX_SNS_PARAM, .ZX_TAP_CFG]

/-- A held register field is of one of these registers. -/
def keyOf (rs : List Reg) (key : Nat) : Bool := rs.any (fun r => r.ctorIdx == key / 64 % 256)

/-- Register fields are returned to their reset values. -/
def State.dropRegs (s : State) (p : Nat → Bool) : State := { s with regs := s.regs.filter (fun x => !p x.1) }

/-- The memories are wiped: trace buffers, hang dump, epoch log, refetch lists, report queue, Grove-S banks. -/
def State.zxWipe (s : State) : State :=
  let z := s.zx
  let s := { s with zx := { z with
    trc := [], bursts := z.bursts.map (fun (b : Burst) => { b with buf := 8 }), heldBufs := [], dump := [], log := [], logWr := 0, unsent := [], pass := none
    blz := z.blz.map (fun (x : Nat × BlzUnit) => (x.1, { x.2 with refetch := [] })), reports := [], stagedGrs := false, grsLive := [], grsStaged := []
    grsRole := none, grsWriting := false, grsErr := false } }
  let s := s.dropRegs (keyOf [.ZX_HD_STS, .ZX_TRC_DWR, .ZX_TRC_DRD, .ZX_GRS_STS])
  s.modLink .zx (fun l => { l with dumpNext := none, snapTx := none })

/-- A ZX40 Clearing begins (R526). -/
def State.zxClear (s : State) : State := let s := s.zxWipe; { s with zx := { s.zx with clearing := true } }

/-- The life-cycle state of a ZX40 changes (R532): Clearing; entry to FIELD starts the light set (R70). RETURN ends at cold reset only. -/
def State.zxSetLc (s : State) (lc : Nat) : State :=
  if s.zx.lc = lc ∨ s.zx.lc = 3 then s
  else
    let s := { s with zx := { s.zx with lc := lc, testMode := false } }
    let s := if lc = 2 then s.wr ZX_LS_CTRL_DIS 0 0 else s
    s.zxClear

/-- ZX40 after a reset that keeps what a predicate on register fields names; lc is the life-cycle state it then has. -/
def State.zxFresh (s : State) (keep : Nat → Bool) (lc : Nat) : State :=
  let z := s.zx
  let s := s.dropRegs (fun k => zxKey k && !keep k && !keyOf integrated k)
  let s := { s with queues := s.queues.filter (fun (x : Nat × Queue) => x.2.part ≠ Part.zx) }
  let s := { s with zx := ({ lc := lc, pwr := z.pwr, isoN := z.isoN, inReset := z.inReset, rstLow := z.rstLow, clearing := true, lsPrev := if keep (ZX_LS_VAL_VAL.key 0) then z.lsPrev else []
                             testMode := z.testMode && lc == 3 } : Zx) }
  s.setLink .zx {}

/-- Fields kept: the light set; with inc, the incarnation and address too. -/
def keepLight (inc : Bool) (key : Nat) : Bool :=
  keyOf [.ZX_LS_VAL, .ZX_LS_CTRL] key || (inc && (keyOf [.ZX_EPC_ADDR] key || key == ZX_EPC_ID_INCARNATION.key 0))

/-- A reset input goes low: kind 0 cold, 1 warm, 2 local; or it is high again and the 64 zclk after release have passed: the part is in reset
while any input is low (R53). -/
def State.zxReset (s : State) (kind : Nat) (low : Bool) : State :=
  let rest := s.zx.rstLow.filter (· ≠ kind)
  if ¬ low then { s with zx := { s.zx with rstLow := rest, inReset := decide (rest ≠ []) } }
  else
    let s := { s with zx := { s.zx with inReset := true, rstLow := rest ++ [kind] } }
    match kind with
    | 0 => s.zxFresh (fun _ => false) 0
    | 1 => s.zxFresh (keepLight true) s.zx.lc
    | _ => s.zxFresh (keepLight false) s.zx.lc

/-- ZX_COLD_RESET: zx_por_n. -/
def execZxColdReset (low : Bool) (s : State) : Host.Outcome State Fault Refusal := done (s.zxReset 0 low)

/-- ZX_WARM_RESET: zx_rst_n. -/
def execZxWarmReset (low : Bool) (s : State) : Host.Outcome State Fault Refusal := done (s.zxReset 1 low)

/-- ZX_LOCAL_RESET: zx_lrst_n. -/
def execZxLocalReset (low : Bool) (s : State) : Host.Outcome State Fault Refusal := done (s.zxReset 2 low)

/-! ## Power states (R521) -/

/-- Entry to Z1: trace buffers record nothing from here on (R93). -/
def State.gateTrace (s : State) : State :=
  (List.range 8).foldl (fun s n => if (s.trcBuf n).recording then s.setTrc n { s.trcBuf n with gatedAt := some s.zxRc } else s) s

/-- Return to Z0: a GAP record of cause GATED, then an EPOCH record. -/
def State.ungateTrace (s : State) : State :=
  (List.range 8).foldl (fun s n =>
    match (s.trcBuf n).gatedAt with
    | none => s
    | some g =>
      let x := ({ s.trcBuf n with gatedAt := none } : TraceBuf).flushQ
      let y := x.1.put (gapRec 2 0 g)
      (s.putTrc n (y.1, x.2 + y.2)).epochMark n) s

/-- What Z2 leaves: timebase, light set, configuration; counters, sensors, Stem and memories are off. -/
def State.zxRetain (s : State) : State :=
  let s := s.zxWipe.dropRegs (keyOf [.ZX_CTR_VAL, .ZX_CTR_SNAP, .ZX_SNS_VAL])
  let s := { s with queues := s.queues.map (fun (x : Nat × Queue) => (x.1, if x.2.part = Part.zx then x.2.clear else x.2)) }
  let z := s.zx
  let s := { s with zx := { z with
    taps := [], ctrPrev := [], ctrOld := [], snsWin := none, barStamps := [], barOvf := false, barLast := [], hwReqs := [], bursts := [], caps := []
    blz := [], psnQ := [], psnStuck := false, inj := [], quiet := false, hangOn := 0, offEp := true } }
  s.setLink .zx {}

/-- A power state is entered and acknowledged. Back from Z2 or Z3, the taps' clocks are watched from this tick on. -/
def State.zxEnter (s : State) (z : Nat) : State :=
  let old := s.zx.pwr
  let s := { s with zx := { s.zx with pwrReq := none } }
  let s := if z = 3 then
      let s := s.zxFresh (fun _ => false) 0
      { s with zx := { s.zx with clearing := false, offEp := true } }
    else if z = 2 then (if old < 2 then s.zxRetain else s)
    else if z = 1 then (if old = 0 then s.gateTrace else s)
    else if old = 1 then s.ungateTrace
    else s
  let s := if 2 ≤ old ∧ z < 2 then
      s.tapNums.foldl (fun s t => s.setTap t { s.zxTap t with lastToggle := s.zxRc, toggleTick := s.zx.tb.ticks }) s
    else s
  ({ s with zx := { s.zx with pwr := z, isoN := decide (z < 2) } }).emit (.pwrAck z)

/-- The snapshot that a request for Z2 or Z3 waits for has not left: the one in progress, or that of an epoch that closed in the same tick
(Table 18-13). -/
def State.pwrWaits (s : State) (n : Option Nat) : Bool := (s.link .zx).snapTx.isSome || n.any (fun (e : Nat) => s.zx.unsent.contains e)

/-- A waiting request is honoured once the snapshot has left. -/
def State.pwrSettle (s : State) : State :=
  match s.zx.pwrReq with
  | none => s
  | some (z, n) => if s.pwrWaits n then s else s.zxEnter z

/-- ZX_POWER_REQUEST: zx_pwr_req takes a value. -/
def execZxPowerRequest (z : Nat) (s : State) : Host.Outcome State Fault Refusal :=
  if 4 ≤ z ∨ s.zx.inReset then done s
  else if z < 2 then done (s.zxEnter z)
  else
    let n := if s.zx.lastClose = some s.zxNs then s.zx.lastEpoch else none
    done ({ s with zx := { s.zx with pwrReq := some (z, n) } }).pwrSettle

/-! ## Commands received (R146) -/

/-- The capsule in the 64 bytes of a CAPS flit (Table 16-1). -/
def capOfBytes (b : Bytes) : Nat × Cap :=
  let w := rdLe b 0 8
  (bits w 63 48, {
    path := bits w 31 30, tenant := bits w 29 24, tag := bits w 47 32
    params := (List.range (min 6 (bits w 23 16 / 8))).map (fun i => rdLe b (16 + 8 * i) 8) })

/-- CAPS_COMMAND_RECEIVE: a command reaches ZX40; a ninth is answered S_BUSY. -/
def execCapsCommandReceive (b : Bytes) (s : State) : Host.Outcome State Fault Refusal :=
  if ¬ s.zxOn then done s
  else
    let x := capOfBytes b
    let s := (s.consume .zx 4 0).ls 0xAD
    if 8 ≤ s.zx.caps.length then done ((s.ls 0xAE).zxSendReply x.2.tag x.1 S_BUSY)
    else done (zxRefuse 8 { s with zx := { s.zx with caps := s.zx.caps ++ [x] } })

/-! ## Internal opcodes (Table 5-6a) -/

/-- A new incarnation: the log is discarded (R106). -/
def State.newInc (s : State) (inc : Nat) : State :=
  if s.zxInc = inc then s
  else
    let s := { s with zx := { s.zx with log := [], unsent := [], pass := none } }
    let s := s.modLink .zx (fun l => { l with snapTx := none })
    let s := (s.wr ZX_LOG_ACKED_VALID 0 0).wr ZX_LOG_ACKED_EPOCH 0 0
    (s.ls 0xCF).wr ZX_EPC_ID_INCARNATION 0 inc

/-- ZX_ADMIT (0x0630): die address, incarnation, life-cycle state. -/
def execZxAdmit (c : Cap) (s : State) : Host.Outcome State Fault Refusal :=
  done (s.zxInt c 0x0630 3 (fun s =>
    if c.p 1 % 65536 = 0 ∨ 2 < c.p 2 then s.zxReply c 0x0630 S_BADPARAM
    else
      let s := ((s.wr ZX_EPC_ADDR_ADMITTED 0 1).wr ZX_EPC_ADDR_SELF 0 (bits (c.p 0) 18 18)).wr ZX_EPC_ADDR_DIE_ADDR 0 (c.p 0)
      ((s.newInc (c.p 1 % 65536)).zxSetLc (c.p 2)).zxReply c 0x0630 S_OK))

/-- The live value of a staged register. -/
def State.zxLive (s : State) (a : Nat) : Nat :=
  match zxStaged? a with
  | some (.ZX_CTR_SEL, n) => s.zx.ctrSel.getD n 0
  | some (r, i) => s.readReg r i
  | none => 0

/-- The first write for a generation other than the one in the shadows loads every shadow from its live value. -/
def State.firstWrite (s : State) (g : Nat) : State :=
  if s.rd ZX_EPC_ID_STAGED_GEN = g then s
  else
    let s := { s with zx := { s.zx with shadow := [], stagedGrs := false } }
    (s.wr ZX_EPC_ID_STAGED_GEN 0 g).wr ZX_EPC_ID_STAGED 0 0

/-- ZX_SHADOW_WRITE (0x0210): generation, APB address, count, values. -/
def execZxShadowWrite (c : Cap) (s : State) : Host.Outcome State Fault Refusal :=
  done (s.zxInt c 0x0210 3 (fun s =>
    let g := c.p 0
    let n := c.p 2
    let ok := g % 65536 ≠ 0 ∧ 1 ≤ n ∧ n ≤ 3 ∧ n + 3 ≤ c.params.length ∧ (List.range n).all (fun i => (zxStaged? (c.p 1 + 4 * i)).isSome)
    if ¬ ok then s.zxReply c 0x0210 S_BADPARAM
    else if s.flag ZX_EPC_ID_ARMED then s.zxReply c 0x0210 S_CONFLICT
    else
      let s := s.firstWrite g
      let m := (List.range n).foldl (fun (m : SMap Nat) i => SMap.set m (c.p 1 + 4 * i) (c.p (3 + i) % 2 ^ 32)) s.zx.shadow
      ({ s with zx := { s.zx with shadow := m } }).zxReply c 0x0210 S_OK))

/-- 32 bytes written into an image. -/
def imageWrite (img : Bytes) (off : Nat) (ws : List Nat) : Bytes :=
  let b := padTo imageBytes img
  b.take off ++ wordBytes ws ++ b.drop (off + 32)

/-- ZX_GRS_IMAGE_WRITE (0x0310): generation or 0, byte offset, four words. -/
def execZxGrsImageWrite (c : Cap) (s : State) : Host.Outcome State Fault Refusal :=
  done (s.zxInt c 0x0310 6 (fun s =>
    let g := c.p 0
    let off := c.p 1
    let ws := (List.range 4).map (fun i => c.p (2 + i))
    if off % 32 ≠ 0 ∨ imageBytes ≤ off then s.zxReply c 0x0310 S_BADPARAM
    else if s.flag ZX_EPC_ID_ARMED ∨ (g ≠ 0 ∧ s.zx.grsRole.isSome) then s.zxReply c 0x0310 S_CONFLICT
    else if g = 0 then
      ({ s with zx := { s.zx with grsLive := imageWrite s.zx.grsLive off ws, grsWriting := true } }).zxReply c 0x0310 S_OK
    else
      let s := s.firstWrite g
      let img := imageWrite s.zx.grsStaged off ws
      let s := { s with zx := { s.zx with grsStaged := img } }
      (s.wr ZX_GRS_STS_STAGED_VALID 0 (b2n (imageOk img))).zxReply c 0x0310 S_OK))

/-- ZX_CFG_DONE (0x0211): generation or 0, CRC of the shadows (R537), GRS. -/
def execZxCfgDone (c : Cap) (s : State) : Host.Outcome State Fault Refusal :=
  done (s.zxInt c 0x0211 3 (fun s =>
    let g := c.p 0
    let grs := bitAt (c.p 2) 0
    if g = 0 then
      if imageOk s.zx.grsLive then
        let s := { s with zx := { s.zx with grsErr := false, grsWriting := false, grsFrom := s.zxEpoch } }
        s.showImage.zxReply c 0x0211 S_OK
      else s.zxReply c 0x0211 S_PARTIAL
    else if g ≠ s.rd ZX_EPC_ID_STAGED_GEN then s.zxReply c 0x0211 S_CONFLICT
    else
      let val (a : Nat) : Nat := (s.zx.shadow.find? a).getD (s.zxLive a)
      if zxCfgCrc val = c.p 1 % 2 ^ 32 ∧ (¬ grs ∨ s.flag ZX_GRS_STS_STAGED_VALID) then
        (({ s with zx := { s.zx with stagedGrs := grs } }).wr ZX_EPC_ID_STAGED 0 1).zxReply c 0x0211 S_OK
      else s.zxReply c 0x0211 S_PARTIAL))

/-- ZX_ARM (0x0212): generation, apply instant, first epoch, length exponent. -/
def execZxArm (c : Cap) (s : State) : Host.Outcome State Fault Refusal :=
  done (s.zxInt c 0x0212 4 (fun s =>
    if ¬ s.flag ZX_EPC_ID_STAGED ∨ c.p 0 ≠ s.rd ZX_EPC_ID_STAGED_GEN then s.zxReply c 0x0212 S_CONFLICT
    else if c.p 1 ≤ s.zxNs then s.zxReply c 0x0212 S_NOTNOW
    else (({ s with zx := { s.zx with armed := some (c.p 1, c.p 2, c.p 3) } }).wr ZX_EPC_ID_ARMED 0 1).zxReply c 0x0212 S_OK))

/-- ZX_CFG_DROP (0x0213): generation. -/
def execZxCfgDrop (c : Cap) (s : State) : Host.Outcome State Fault Refusal :=
  done (s.zxInt c 0x0213 1 (fun s =>
    if c.p 0 ≠ s.rd ZX_EPC_ID_STAGED_GEN then s.zxReply c 0x0213 S_CONFLICT
    else if s.flag ZX_EPC_ID_ARMED then s.zxReply c 0x0213 S_DENIED
    else (({ s with zx := { s.zx with shadow := [], stagedGrs := false } }).wr ZX_EPC_ID_STAGED 0 0).zxReply c 0x0213 S_OK))

/-- ZX_LC_SET (0x0A10): RETURN. -/
def execZxLcSet (c : Cap) (s : State) : Host.Outcome State Fault Refusal :=
  done (s.zxInt c 0x0A10 1 (fun s =>
    if c.p 0 ≠ 3 then s.zxReply c 0x0A10 S_BADPARAM else (s.zxSetLc 3).zxReply c 0x0A10 S_OK))

/-- ZX_WT_SET (0x0F10): unit, action (0 DISARM, 1 BLAZE_DATA, 2 BLAZE_CHECK), argument, count. -/
def execZxWtSet (c : Cap) (s : State) : Host.Outcome State Fault Refusal :=
  done (s.zxInt c 0x0F10 4 (fun s =>
    let u := c.p 0
    let argOk := if c.p 1 = 1 then decide (c.p 2 < 8 * s.blzSize u) else decide (c.p 2 < 64)
    if 16 ≤ u ∨ 2 < c.p 1 then s.zxReply c 0x0F10 S_BADPARAM
    else if c.p 1 = 0 then ({ s with zx := { s.zx with inj := s.zx.inj.erase u } }).zxReply c 0x0F10 S_OK
    else if ¬ argOk ∨ c.p 3 = 0 ∨ 64 < c.p 3 then s.zxReply c 0x0F10 S_BADPARAM
    else ({ s with zx := { s.zx with inj := SMap.set s.zx.inj u (c.p 1, c.p 2, c.p 3) } }).zxReply c 0x0F10 S_OK))

/-! ## The apply instant at a ZX40 -/

/-- One staged value goes live: OWNER = 0 of a counter selection takes OWNER alone (R147). -/
def State.applyShadow (s : State) (a w : Nat) : State :=
  match zxStaged? a with
  | some (.ZX_CTR_SEL, n) =>
    if bitAt w 30 then s.setSel n w else s.setSel n (s.zx.ctrSel.getD n 0 - 2 ^ 30 * bits (s.zx.ctrSel.getD n 0) 30 30)
  | some (r, i) => s.setReg r i w
  | none => s

/-- The armed generation goes live at a ZX40 (R147, R175, R268): the epoch before its first one has closed. -/
def State.zxApply (s : State) : State :=
  match s.zx.armed with
  | none => s
  | some (t, m, k) =>
    let closed := s.zx.sched.isNone || s.zx.lastEpoch.any (fun (e : Nat) => decide (m ≤ e + 1))
    if s.zxNs < t ∨ s.zx.inReset ∨ s.zx.pwr = 3 ∨ ¬ closed then s
    else
      let feats : SMap Nat := (List.range 256).map (fun f => (0x400 + 4 * f, s.readReg .ZX_GRS_FEAT f))
      let first := s.zx.sched.isNone
      let g := s.rd ZX_EPC_ID_STAGED_GEN
      let s := s.zx.shadow.foldl (fun s x => s.applyShadow x.1 x.2) s
      let s := s.loadSel.loadQw
      let z := s.zx
      let s := { s with zx := { z with
        shadow := [], armed := none, sched := some ⟨t, m, min 14 k⟩, genOpen := g, featOld := feats, grsRole := some m
        heldAtOpen := if first then true else z.heldAtOpen
        wholeLocked := if first then z.tb.isLocked else z.wholeLocked
        stepped := if first then false else z.stepped
        lastClose := if first then some t else z.lastClose
        lastEpoch := if first then some (m - 1) else z.lastEpoch } }
      let s := if first ∧ z.pwr = 0 then (List.range 8).foldl (fun (s : State) i => if (s.trcBuf i).recording then s.epochMark i else s) s else s
      (((s.wr ZX_EPC_ID_LIVE_GEN 0 g).wr ZX_EPC_ID_ARMED 0 0).wr ZX_EPC_ID_STAGED 0 0).grsSwitch

end Sys2Proof.Machine
end

