-- ==== Sys2Proof/Machine/Access.lean ====
section
/-! DEFINITION. Register access (R9 to R14): ZX40's APB port with its address map, its views and its 64-bit registers (R13, R53, R59, R68,
R74, R75, R83, R101), and BX64's registers through the BAR0 of a function (R440, R483, R513). -/
namespace Sys2Proof.Machine

/-- The state a command leaves, for a write that has the effect of another command. -/
def nextOr (o : Host.Outcome State Fault Refusal) (s : State) : State :=
  match o with
  | .next t => t
  | _ => s

/-! ## What a field stores -/

/-- A write to one field by its access code (Table 0-4). -/
def State.storeField (s : State) (i w : Nat) (f : Fld) : State :=
  match f.acc with
  | .rw | .rws => s.wr f i (storedValue f (bits w f.hi f.lo))
  | .w1c => if bitAt w f.lo then s.wr f i 0 else s
  | .ro | .wo => s

/-- A write to a register with no behaviour of its own (R9): every field by its access code. -/
def State.store (s : State) (r : Reg) (i w : Nat) : State := (Reg.fields r).foldl (fun s f => s.storeField i w f) s

/-! ## ZX40's APB address map (Table 2-23) -/

/-- One row of the map: first address, stride, number, register, index of the first, and whether it is 64 bits wide. -/
structure ApbRow where
  base : Nat
  stride : Nat
  count : Nat
  reg : Reg
  first : Nat := 0
  wide : Bool := true
  deriving DecidableEq, Repr

/-- The registers below 0x2_0000. -/
def apbLow : List ApbRow :=
  [⟨0x00, 4, 1, .ZX_ID, 0, false⟩, ⟨0x04, 4, 1, .ZX_BUILD, 0, false⟩, ⟨0x08, 4, 1, .ZX_CTRL, 0, false⟩, ⟨0x10, 4, 1, .ZX_SEC_BIND, 0, false⟩,
    ⟨0x14, 4, 1, .ZX_LS_CTRL, 0, false⟩, ⟨0x18, 4, 1, .ZX_IRQ_STS, 0, false⟩, ⟨0x1C, 4, 1, .ZX_IRQ_EN, 0, false⟩,
    ⟨0x20, 4, 1, .ZX_SNS_PARAM, 0, false⟩, ⟨0x24, 4, 1, .ZX_SNS_CFG, 0, false⟩, ⟨0x40, 4, 5, .ZX_SNS_EN, 0, false⟩,
    ⟨0x60, 4, 1, .ZX_BAR_ARRIVE, 0, false⟩, ⟨0x80, 8, 1, .ZX_EPC_STATE, 0, true⟩, ⟨0x88, 8, 1, .ZX_EPC_ID, 0, true⟩,
    ⟨0x90, 4, 1, .ZX_EPC_ADDR, 0, false⟩, ⟨0x100, 16, 4, .ZX_QW_TIME, 0, true⟩, ⟨0x108, 16, 4, .ZX_QW_SPAN, 0, true⟩,
    ⟨0x200, 4, 1, .ZX_GRS_RESULT, 0, false⟩, ⟨0x208, 8, 1, .ZX_GRS_STS, 0, true⟩, ⟨0x400, 4, 256, .ZX_GRS_FEAT, 0, false⟩,
    ⟨0x1000, 8, 128, .ZX_TAP_CFG, 0, false⟩, ⟨0x1004, 8, 128, .ZX_TAP_STS, 0, false⟩, ⟨0x2000, 8, 256, .ZX_LS_VAL, 0, true⟩,
    ⟨0x3000, 4, 160, .ZX_SNS_VAL, 0, false⟩, ⟨0x3400, 4, 160, .ZX_SNS_CAL, 0, false⟩]

/-- The counters and the registers of chapter 3. -/
def apbMid : List ApbRow :=
  [⟨0x20000, 8, 16384, .ZX_CTR_VAL, 0, true⟩, ⟨0x40000, 8, 16384, .ZX_CTR_SNAP, 0, true⟩, ⟨0x60000, 4, 16384, .ZX_CTR_SEL, 0, false⟩,
    ⟨0x80000, 64, 8, .ZX_TRC_CFG, 0, true⟩, ⟨0x80008, 64, 8, .ZX_TRC_MASK, 0, true⟩, ⟨0x80010, 64, 8, .ZX_TRC_TRIG_AT, 0, true⟩,
    ⟨0x80018, 64, 8, .ZX_TRC_STS, 0, true⟩, ⟨0x80020, 64, 8, .ZX_TRC_DBASE, 0, true⟩, ⟨0x80028, 64, 8, .ZX_TRC_DWR, 0, false⟩,
    ⟨0x8002C, 64, 8, .ZX_TRC_DRD, 0, false⟩, ⟨0x80030, 64, 8, .ZX_TRC_CTRL, 0, false⟩, ⟨0x80200, 8, 1, .ZX_HD_CFG, 0, true⟩,
    ⟨0x80208, 8, 1, .ZX_HD_STS, 0, true⟩, ⟨0x80210, 4, 1, .ZX_HD_CTRL, 0, false⟩, ⟨0x80300, 8, 1, .ZX_LOG_OLDEST, 0, true⟩,
    ⟨0x80308, 8, 1, .ZX_LOG_ACKED, 0, true⟩, ⟨0x80310, 8, 1, .ZX_LOG_STS, 0, true⟩, ⟨0x80400, 4, 1, .ZX_MEM_WIN, 0, false⟩]

/-- The Stem, timebase and Blaze registers. -/
def apbHigh : List ApbRow :=
  [⟨0xC0000, 8, 1, .STM_STS, 0, true⟩, ⟨0xC0008, 8, 1, .ZX_STM_CNT, 0, true⟩, ⟨0xC0010, 4, 1, .ZX_STM_PMA_LAT, 0, false⟩,
    ⟨0xC0014, 4, 1, .ZX_STM_CTRL, 0, false⟩, ⟨0xC0100, 8, 1, .TB_NOW_NS, 0, true⟩, ⟨0xC0108, 4, 1, .TB_NOW_FRAC, 0, false⟩,
    ⟨0xC0110, 8, 1, .TB_STS, 0, true⟩, ⟨0xC0118, 8, 1, .TB_OFFSET, 0, true⟩, ⟨0xC0120, 8, 1, .TB_INC, 0, true⟩,
    ⟨0xC0128, 8, 1, .TB_SERVO, 0, true⟩, ⟨0xC0130, 8, 2, .ZX_TB_STR_MAP, 0, true⟩, ⟨0xC0200, 16, 8, .ZX_LAC_TGT, 0, true⟩,
    ⟨0xC0208, 16, 8, .ZX_LAC_CFG, 0, true⟩, ⟨0xC0400, 8, 128, .ZX_TB_TAP_STOP, 0, true⟩, ⟨0xD0000, 256, 16, .BLZ_CFG, 0, true⟩,
    ⟨0xD0008, 256, 16, .BLZ_POLY, 0, true⟩, ⟨0xD0010, 256, 16, .BLZ_XOROUT, 0, true⟩, ⟨0xD0018, 256, 16, .BLZ_CNT0, 0, true⟩,
    ⟨0xD0020, 256, 16, .BLZ_CNT1, 0, true⟩, ⟨0xD0028, 256, 16, .BLZ_LAST, 0, true⟩, ⟨0xD00C0, 256, 16, .ZX_BLZ_UCTRL, 0, false⟩,
    ⟨0xD1000, 8, 1, .ZX_BLZ_STS, 0, true⟩, ⟨0xD1008, 4, 1, .ZX_BLZ_CTRL, 0, false⟩] ++
  (List.range 16).map (fun u => ⟨0xD0040 + 256 * u, 8, 16, .ZX_BLZ_RF, 16 * u, true⟩)

/-- The row holds the word at a word address. -/
def ApbRow.has (x : ApbRow) (a : Nat) : Bool :=
  decide (x.base ≤ a) && decide ((a - x.base) / x.stride < x.count) && decide ((a - x.base) % x.stride < (if x.wide then 8 else 4))

/-- A word of the map: the register, its index, its first address, its width, and which half the word is. -/
structure ApbWord where
  reg : Reg
  idx : Nat
  base : Nat
  wide : Bool
  high : Bool
  deriving DecidableEq, Repr

/-- The register word at a word address; none for a reserved address and for the windows of R101 and R268. -/
def apbWord? (a : Nat) : Option ApbWord :=
  if a % 4 ≠ 0 then none
  else ((if a < 0x20000 then apbLow else if a < 0xC0000 then apbMid else apbHigh).find? (fun x => x.has a)).map (fun x =>
    let k := (a - x.base) / x.stride
    let off := (a - x.base) % x.stride
    { reg := x.reg, idx := x.first + k, base := a - off, wide := x.wide, high := off = 4 })

/-- The access is within the tenant view (R75). -/
def State.tenantView (s : State) (x : Option ApbWord) (write : Option Nat) : Bool :=
  match x with
  | none => false
  | some x =>
    match x.reg with
    | .ZX_ID => true
    | .ZX_BAR_ARRIVE => (match write with
      | some v => bitAt (s.rd ZX_SEC_BIND_BAR_MASK) (v % 16)
      | none => s.rd ZX_SEC_BIND_BAR_MASK ≠ 0)
    | .ZX_CTR_SEL | .ZX_CTR_VAL | .ZX_CTR_SNAP =>
      let sel := s.zx.ctrSel.getD x.idx 0
      s.rd ZX_SEC_BIND_TENANT ≠ 0 && !bitAt sel 30 && bits sel 29 24 = s.rd ZX_SEC_BIND_TENANT
    | _ => false

/-! ## Reading over APB -/

/-- Word k of a byte string. -/
def word32 (b : Bytes) (off : Nat) : Nat := rdLe (padTo (off + 4) b) off 4

/-- The epoch log entry that holds a byte of the log memory, and which of its bytes that is. -/
def State.logByte (s : State) (a : Nat) : Option Byte :=
  match s.zx.log.find? (fun e => decide ((a + 2097152 - e.at_) % 2097152 < e.size)) with
  | none => none
  | some e => e.bytes[(a + 2097152 - e.at_) % 2097152]?

/-- A word of the window that ZX_MEM_WIN selects (R101). The spec gives no content for a slot that holds no record, nor for a part of the log
memory that holds no entry: such a word is a free value. Entries lie one after another (log entry 97). -/
def State.winRead (s : State) (off : Nat) : Nat × State :=
  let t := s.rd ZX_MEM_WIN_TARGET
  if t < 8 then
    let b := s.trcBuf t
    let first := (b.wptr + 4096 - b.recs.length % 4096) % 4096
    match b.recs[(off / 16 + 4096 - first) % 4096]? with
    | some r => (word32 (wordBytes [r.w0, r.w1]) (off % 16), s)
    | none => s.draw 32
  else if t = 8 then
    match (List.range 4).mapM (fun i => s.logByte (s.rd ZX_MEM_WIN_PAGE * 65536 + off + i)) with
    | some bs => (leNat bs, s)
    | none => s.draw 32
  else (0, s)

/-- A word of a memory window: the trace window, the hang dump, the live Grove-S bank (R101, R268); a reserved address reads 0. -/
def State.memRead (s : State) (a : Nat) : Nat × State :=
  if 0x90000 ≤ a ∧ a < 0xA0000 then s.winRead (a - 0x90000)
  else if 0xA0000 ≤ a ∧ a < 0xA2000 then (if s.zx.dump = [] then s.draw 32 else (word32 s.zx.dump (a - 0xA0000), s))
  else if 0xE0000 ≤ a ∧ a < 0xE8E00 then (word32 s.zx.grsLive (a - 0xE0000), s)
  else (0, s)

/-- A word of a register (R13): a read of a low word latches the high half, the next read of the high word returns it. -/
def State.wordRead (s : State) (x : ApbWord) : Nat × State :=
  let v := s.readReg x.reg x.idx
  if ¬ x.wide then (v % 2 ^ 32, s)
  else if x.high then
    match s.zx.apbHi.find? x.base with
    | some h => (h, { s with zx := { s.zx with apbHi := s.zx.apbHi.erase x.base } })
    | none => (v / 2 ^ 32 % 2 ^ 32, s)
  else
    let s := s.readEffect x.reg x.idx
    (v % 2 ^ 32, { s with zx := { s.zx with apbHi := SMap.set s.zx.apbHi x.base (v / 2 ^ 32 % 2 ^ 32) } })

/-- An access refused under R75. -/
def State.apbDeny (s : State) : State := (s.ls 0xCB).irq ZX_IRQ_STS_APB

/-- A read of a word address: PRDATA, PSLVERR, and the state. -/
def State.apbRead (s : State) (a : Nat) (priv : Bool) : (Nat × Bool) × State :=
  let x := apbWord? a
  if ¬ priv ∧ ¬ s.tenantView x none then ((0, true), s.apbDeny)
  else
    let (v, t) : Nat × State := match x with
      | some x => s.wordRead x
      | none => s.memRead a
    ((v, false), t)

/-! ## Writing over APB -/

/-- Registers that staged configuration sets, and the light set: a write to them counts in APB_FLEET_WRITE (R69, R74, Table 2-7). -/
def fleetRegs : List Reg := [.ZX_SNS_CFG, .ZX_SNS_EN, .ZX_SNS_CAL, .ZX_GRS_FEAT, .ZX_LS_VAL]

/-- A write of ZX_HD_CFG: lines set anew in BAR_MASK are watched from now (R98). -/
def State.hdCfg (s : State) (w : Nat) : State :=
  let old := s.rd ZX_HD_CFG_BAR_MASK
  let t := s.store .ZX_HD_CFG 0 w
  let fresh := (List.range 16).filter (fun l => bitAt (t.rd ZX_HD_CFG_BAR_MASK) l && !bitAt old l)
  { t with zx := { t.zx with barSince := fresh.foldl (fun (m : SMap Nat) l => SMap.set m l s.zxRc) t.zx.barSince } }

/-- A write of ZX_TRC_n_CTRL: ARM, then TRIG, then RELEASE (Table 3-14's order of coinciding events). -/
def State.trcCtrl (s : State) (n w : Nat) : State :=
  let s := if bitAt w 0 then s.trcArm n else s
  let s := if bitAt w 1 then s.trigger n 0 else s
  if bitAt w 2 then s.trcRelease n else s

/-- A write of ZX_BLZ_u_CTRL. -/
def State.blzCtrl (s : State) (u w : Nat) : State :=
  let s := if bitAt w 1 then nextOr (execBlzFlushRf u s) s else s
  if bitAt w 0 then nextOr (execBlzCntClr u s) s else s

/-- A write of a whole ZX40 register: PSLVERR, and the state. -/
def State.zxStore (s : State) (r : Reg) (i w : Nat) : Bool × State :=
  match r with
  | .ZX_CTR_SEL =>
    let old := s.zx.ctrSel.getD i 0
    if bitAt old 30 then (true, (s.ls 0xCC).irq ZX_IRQ_STS_APB) else (false, s.setSel i (selStore old w))
  | .ZX_CTR_VAL | .ZX_CTR_SNAP => (false, if bitAt (s.zx.ctrSel.getD i 0) 30 then s.ls 0xCC else s)
  | .ZX_LS_CTRL => (false, if bitAt w 0 ∧ s.zx.lc = 2 then s else s.store r 0 w)
  | .ZX_BAR_ARRIVE => (false, s.arrive (w % 16) false)
  | .ZX_TRC_TRIG_AT => (false, (s.store r i w).setTrc i { s.trcBuf i with timeDone := false })
  | .ZX_TRC_DRD => (false, s.wr ZX_TRC_DRD_DRD i (w % s.ringBytes i / 16 * 16))
  | .ZX_TRC_CTRL => (false, s.trcCtrl i w)
  | .ZX_HD_CFG => (false, s.hdCfg w)
  | .ZX_HD_CTRL =>
    let s := if bitAt w 0 then s.declareHang 16 else s
    (false, if bitAt w 1 then s.releaseHang else s)
  | .ZX_STM_CTRL => (false, if bitAt w 0 then s.retrain .zx else s)
  | .ZX_LAC_CFG => (false, nextOr (execLacArm i w s) s)
  | .BLZ_CFG | .BLZ_POLY | .BLZ_XOROUT =>
    let x := s.blzWrite i (if r = .BLZ_CFG then 0 else if r = .BLZ_POLY then 1 else 2) w
    if x.1 then (false, x.2) else (true, x.2.ls 0xCB)
  | .ZX_BLZ_UCTRL => (false, s.blzCtrl i w)
  | _ => (false, if r ∈ fleetRegs then s.ls 0xCC else s.store r i w)

/-- A write of a register word: a 64-bit register takes its value with the high word (R13). The spec says nothing of a high word without a low
word before it: the low half is then a free value. -/
def State.wordWrite (s : State) (x : ApbWord) (w : Nat) : Bool × State :=
  if ¬ x.wide then s.zxStore x.reg x.idx w
  else if ¬ x.high then (false, { s with zx := { s.zx with apbLo := SMap.set s.zx.apbLo x.base w } })
  else
    let (lo, s) : Nat × State := match s.zx.apbLo.find? x.base with
      | some l => (l, { s with zx := { s.zx with apbLo := s.zx.apbLo.erase x.base } })
      | none => s.draw 32
    s.zxStore x.reg x.idx (w * 2 ^ 32 + lo)

/-- A write of a word: PSLVERR, and the state (R12, R59, R75). full says that every strobe is 1. -/
def State.apbWrite (s : State) (a w : Nat) (priv full : Bool) : Bool × State :=
  let x := apbWord? a
  let w := w % 2 ^ 32
  let denied : Bool := !priv && !s.tenantView x (some w)
  let fleet : Bool := (x.map (fun y => decide (y.reg = .ZX_CTR_SEL) && bitAt (s.zx.ctrSel.getD y.idx 0) 30)).getD false
  if denied then (true, if fleet then s.apbDeny.ls 0xCC else s.apbDeny)
  else if ¬ full then (true, s.irq ZX_IRQ_STS_APB)
  else
    match x with
    | some x => s.wordWrite x w
    | none => (false, s)

/-! ## BX64's registers -/

/-- A function reaches a register in its BAR0: the PF every one, VF t its own Warden registers and the DB and STS of DMA channels bound to it
(R440, R483). -/
def State.barHas (s : State) (f : Nat) (r : Reg) (i : Nat) : Bool :=
  bxHas r i && (f = 0 || match r with
    | .BX_WDN_QP_SQB | .BX_WDN_QP_CQB | .BX_WDN_QP_CFG | .BX_WDN_QP_DB | .BX_WDN_QP_STS => i / 4 = f
    | .BX_WDN_EVB | .BX_WDN_EV_CFG | .BX_WDN_EV_DB | .BX_WDN_EV_STS => i = f
    | .BX_DMA_CH_DB | .BX_DMA_CH_STS => s.rd BX_DMA_CH_CFG_FUNC i = f
    | _ => false)

/-- A ring register takes writes only while EN is 0 (R467, Table 17-14 row 2). -/
def State.ringWrite (s : State) (f : Nat) (en : Bool) (r : Reg) (i w : Nat) : State :=
  if en then (s.bump BX_VIOL_HOST_RING_WR).violation 4 2 15 f else s.store r i w

/-- A write of BX_WDN_f_QPq_CFG (R467). -/
def State.qpCfg (s : State) (i w : Nat) : State :=
  let en := s.flag BX_WDN_QP_CFG_EN i
  let sq := storedValue BX_WDN_QP_CFG_SQ_LOG2 (bits w 59 56)
  let cq := storedValue BX_WDN_QP_CFG_CQ_LOG2 (bits w 55 52)
  let s := if sq ≠ s.rd BX_WDN_QP_CFG_SQ_LOG2 i ∨ cq ≠ s.rd BX_WDN_QP_CFG_CQ_LOG2 i then
      (if en then (s.bump BX_VIOL_HOST_RING_WR).violation 4 2 15 (i / 4)
       else (s.wr BX_WDN_QP_CFG_SQ_LOG2 i sq).wr BX_WDN_QP_CFG_CQ_LOG2 i cq)
    else s
  if en = bitAt w 63 then s
  else if en then s.disableQp i
  else nextOr (execQpEnable (i / 4) (i % 4) s) s

/-- A write of BX_WDN_f_EV_CFG. A ring enabled for the first time after a warm reset gets its RESTART event (Table 18-9). -/
def State.evCfg (s : State) (f w : Nat) : State :=
  let en := s.flag BX_WDN_EV_CFG_EN f
  let n := storedValue BX_WDN_EV_CFG_LOG2 (bits w 59 52)
  let s := if n ≠ s.rd BX_WDN_EV_CFG_LOG2 f then
      (if en then (s.bump BX_VIOL_HOST_RING_WR).violation 4 2 15 f else s.wr BX_WDN_EV_CFG_LOG2 f n)
    else s
  if en = bitAt w 63 then s
  else if en then s.disableRing f
  else
    let s := s.wr BX_WDN_EV_CFG_EN f 1
    if s.up.restart.contains f then
      ({ s with up := { s.up with restart := s.up.restart.filter (· ≠ f) } }).post f 0x31 (leBytes 8 (s.rd BX_CNP_IDENT_BOOT * 2 ^ 32 + 1))
    else s

/-- A write of BX_STM_PORT_CTRL. -/
def State.stemCtrl (s : State) (p w : Nat) : State :=
  let s := s.wr BX_STM_PORT_CTRL_ALARM_LIMIT p (bits w 15 0)
  let s := if s.flag BX_STM_PORT_CTRL_HOLD p ≠ bitAt w 31 then s.setHold (.stem p) (bitAt w 31) else s
  if bitAt w 30 then s.retrain (.stem p) else s

/-- A write of BX_CNP_PORT_CTRL. -/
def State.cnpCtrl (s : State) (q w : Nat) : State :=
  let s := s.wr BX_CNP_PORT_CTRL_ALARM_LIMIT q (bits w 15 0)
  let s := if s.flag BX_CNP_PORT_CTRL_HOLD q ≠ bitAt w 31 then s.setHold (.canopy q) (bitAt w 31) else s
  let s := if bitAt w 30 then s.retrain (.canopy q) else s
  let s := s.wr BX_CNP_PORT_CTRL_ISOLATE q (b2n (bitAt w 29))
  if bitAt w 29 then (if 2 ≤ s.rd BX_CNP_PORT_STS_PSTATE q then s.setPstate q 1 else s) else s.openPort q

/-- A write of a queue's STS: the W1C bits and CNT_CLR (Table 4-6). -/
def State.queueSts (s : State) (k w : Nat) : State :=
  match s.bxQueue? k with
  | none => s
  | some q =>
    let s := s.setQueue k {
      q with underrun := q.underrun && !bitAt w 63, pktAbort := q.pktAbort && !bitAt w 62, parity := q.parity && !bitAt w 61 }
    if bitAt w 56 then nextOr (execQueueCntClr k s) s else s

/-- A write of BX_CNP_IDENT: with ASSIGNED the ports that wait for it open (R377). -/
def State.identWrite (s : State) (w : Nat) : State :=
  let s := s.store .BX_CNP_IDENT 0 w
  (List.range 24).foldl (fun s q => if s.rd BX_CNP_PORT_STS_PSTATE q = 1 then s.openPort q else s) s

/-- A write of a whole BX64 register by function f. -/
def State.bxStore (s : State) (f : Nat) (r : Reg) (i w : Nat) : State :=
  match r with
  | .BX_Q_STS => s.queueSts i w
  | .BX_STM_PORT_CTRL => if i < 64 then s.stemCtrl i w else s.wr BX_STM_PORT_CTRL_ALARM_LIMIT i (bits w 15 0)
  | .BX_CNP_PORT_CTRL => s.cnpCtrl i w
  | .BLZ_CFG => (s.blzWrite i 0 (w &&& Reg.mask .BLZ_CFG i)).2
  | .BLZ_POLY => (s.blzWrite i 1 w).2
  | .BLZ_XOROUT => (s.blzWrite i 2 w).2
  | .BX_GRV_LANE_CTRL => nextOr (execGrvLaneCtrlWrite w s) s
  | .BX_CNP_CTRL =>
    let s := s.store r 0 w
    s.wr BX_CNP_CTRL_LOST_US 0 (min BX_CNP_CTRL_LOST_US.max (max (s.rd BX_CNP_CTRL_LOST_US) (4 * s.rd BX_CNP_CTRL_HB_US)))
  | .BX_CNP_IDENT => s.identWrite w
  | .BX_TB_SRC => { s with tsrc := { s.tsrc with primaryMeas := s.bxTb.run, primaryLost := false } }.store r i w
  | .BX_TB_PPS =>
    let s := s.store r i w
    { s with pps := { s.pps with outUntil := if s.ppsOn then s.pps.outUntil else none } }
  | .BX_DMA_CH_DB => nextOr (execDmaDoorbell i (bits w 15 0) s) s
  | .BX_TRS_GAUGE_CFG | .BX_TRS_GAUGE_SNS | .BX_TRS_GAUGE_BND => s.closeGauges.store r i w
  | .BX_WDN_BOOT_CAP => if s.recovery then { s with wdn := { s.wdn with boot := SMap.set s.wdn.boot i w } } else s
  | .BX_WDN_BOOT_CTRL => if bitAt w 0 then nextOr (execBootMailboxGo s) s else s
  | .BX_WDN_BOOT_STS => if s.recovery then s.store r 0 w else s
  | .BX_WDN_QP_SQB | .BX_WDN_QP_CQB => s.ringWrite f (s.flag BX_WDN_QP_CFG_EN i) r i w
  | .BX_WDN_EVB => s.ringWrite f (s.flag BX_WDN_EV_CFG_EN i) r i w
  | .BX_WDN_QP_CFG => s.qpCfg i w
  | .BX_WDN_EV_CFG => s.evCfg i w
  | .BX_WDN_QP_DB =>
    let s := nextOr (execCqHeadWrite (i / 4) (i % 4) (bits w 31 16) s) s
    nextOr (execSqDoorbell (i / 4) (i % 4) (bits w 15 0) s) s
  | .BX_WDN_EV_DB => nextOr (execEvHeadWrite i (bits w 15 0) s) s
  | .BX_SAF_CTRL | .BX_HW_SNAP => if s.rd BX_LC_STS_STATE = 2 then s else s.store r i w
  | _ => s.store r i w

/-- BX64 answers its host: no reset holds it (R516; Table 0-5: a write in flight when a reset asserts is discarded) and it has power. -/
def State.barUp (s : State) : Bool := s.up.phase == 0

/-- A host write of a BX64 register: nonzero reserved bits, or a nonzero write to a register the function does not reach, are ignored and
counted (R12, Table 17-14 row 1). -/
def State.barWrite (s : State) (f : Nat) (r : Reg) (i w : Nat) : State :=
  let w := w % 2 ^ 64
  let reach := s.barHas f r i
  let extra : Bool := if reach then (w &&& Reg.mask r i) ≠ w else w ≠ 0
  let s := if extra then (s.bump BX_VIOL_HOST_RESERVED_WR).violation 4 1 15 f else s
  if reach then s.bxStore f r i (w &&& Reg.mask r i) else s

/-! ## The commands -/

/-- ZX40 sees APB accesses: zclk runs. -/
def State.apbOn (s : State) : Bool := decide (s.zx.pwr < 2)

/-- REGISTER_WRITE: one word over APB with its strobes, or one register of BX64. -/
def execRegisterWrite (a : RegAcc) (w strb : Nat) (s : State) : Host.Outcome State Fault Refusal :=
  match a with
  | .apb addr priv =>
    if ¬ s.apbOn then done s
    else if s.zx.inReset then done (s.emit (.apb 0 true))
    else
      let x := s.apbWrite addr w priv (strb = 15)
      done (x.2.emit (.apb 0 x.1))
  | .bar f r i => done (if s.barUp ∧ f < 64 then s.barWrite f r i w else s)

/-- REGISTER_READ: one word over APB, or one register of BX64. -/
def execRegisterRead (a : RegAcc) (s : State) : Host.Outcome State Fault Refusal :=
  match a with
  | .apb addr priv =>
    if ¬ s.apbOn then done s
    else if s.zx.inReset then done (s.emit (.apb 0 true))
    else
      let x := s.apbRead addr priv
      done (x.2.emit (.apb x.1.1 x.1.2))
  | .bar f r i =>
    if ¬ s.barUp ∨ 64 ≤ f then done s
    else if s.barHas f r i then done ((s.readEffect r i).emit (.bar f (s.readReg r i)))
    else done (s.emit (.bar f 0))

/-- ZX_REG_READ (0x0501): die address, APB address, width (0 for 32 bits, 1 for 64). A 64-bit read is the low word, then the high. -/
def execZxRegRead (c : Cap) (s : State) : Host.Outcome State Fault Refusal :=
  done (s.zxRun c 0x0501 3 (fun s =>
    let lo := s.apbRead (c.p 1) true
    if 1 < c.p 2 then s.zxReply c 0x0501 S_BADPARAM
    else if c.p 2 = 0 then (if lo.1.2 then lo.2.zxReply c 0x0501 S_DENIED else lo.2.zxReply c 0x0501 S_OK [lo.1.1])
    else
      let hi := lo.2.apbRead (c.p 1 + 4) true
      if lo.1.2 ∨ hi.1.2 then hi.2.zxReply c 0x0501 S_DENIED
      else hi.2.zxReply c 0x0501 S_OK [hi.1.1 * 2 ^ 32 + lo.1.1]))

/-- ZX_REG_WRITE (0x0502): die address, APB address, width, value. A 64-bit write is the low word, then the high. -/
def execZxRegWrite (c : Cap) (s : State) : Host.Outcome State Fault Refusal :=
  done (s.zxRun c 0x0502 4 (fun s =>
    let lo := s.apbWrite (c.p 1) (c.p 3) true true
    if 1 < c.p 2 then s.zxReply c 0x0502 S_BADPARAM
    else if c.p 2 = 0 then lo.2.zxReply c 0x0502 (if lo.1 then S_DENIED else S_OK)
    else
      let hi := lo.2.apbWrite (c.p 1 + 4) (c.p 3 / 2 ^ 32) true true
      hi.2.zxReply c 0x0502 (if lo.1 || hi.1 then S_DENIED else S_OK)))

end Sys2Proof.Machine
end

