-- ==== Sys2Proof/Machine/Correlator.lean ====
section
/-! DEFINITION. Barrier groups at their home (R279 to R283), Lookout's probes (R293, R296) and the correlator's opcodes (Table 10-11). -/
namespace Sys2Proof.Machine

/-! ## Instances (R280) -/

/-- An arrival: stamp in 2^-8 ns since the epoch opened, die address. -/
def arrivals (base : Nat) (x : List (Nat × Nat × List Nat)) : List (Nat × Nat) :=
  (sortBy (fun a b => a.1 < b.1 ∨ a.1 = b.1 ∧ a.2 ≤ b.2) (x.flatMap (fun e => e.2.2.map (fun w => ((bits w 55 0 + 2 ^ 56 - base % 2 ^ 56) % 2 ^ 56, e.1)))))

/-- The first instance of a sorted list of arrivals: its entries, how many duplicates, the arrivals left. -/
def firstInstance (window : Nat) (arr : List (Nat × Nat)) : List (Nat × Nat) × Nat × List (Nat × Nat) :=
  match arr with
  | [] => ([], 0, [])
  | (o, _) :: _ =>
    let inside := arr.filter (fun a => a.1 < o + window)
    let inst := inside.foldl (fun (l : List (Nat × Nat)) a => if l.any (fun b => b.2 = a.2) then l else l ++ [a]) []
    (inst, inside.length - inst.length, arr.filter (fun a => ¬ a.1 < o + window))

/-- The instances of an epoch: opening stamp, entries, duplicates. Fuel is the number of arrivals. -/
def instances (window : Nat) : Nat → List (Nat × Nat) → List (Nat × List (Nat × Nat) × Nat)
  | 0, _ => []
  | k + 1, arr =>
    match arr with
    | [] => []
    | (o, _) :: _ =>
      let r := firstInstance window arr
      (o, r.1, r.2.1) :: instances window k r.2.2

/-! ## Lag scores (R281, R282) -/

/-- One instance for one member: its values, whether R282 marks it, and whether it misses the instance. Every instance counts LATE and a
missed arrival; only a scored one moves S and the count (R280; log entry 120). -/
def scoreMember (g : BarGroup) (m o : Nat) (scored : Bool) (inst : List (Nat × Nat)) (addr : Nat) (v : LagVal) : LagVal × Bool × Bool :=
  let mine := inst.find? (fun a => a.2 = addr)
  let rank := match mine with
    | some a => 1 + (inst.filter (fun b => b.1 < a.1)).length
    | none => m
  let late : Bool := match mine with
    | some a => decide (g.deadlineNs ≠ 0 ∧ o + g.deadlineNs * 256 < a.1)
    | none => false
  let v := { v with late := v.late + b2n late }
  if ¬ scored then (v, false, mine.isNone)
  else
    let r := ((rank - 1) * 65535 + (m - 1) / 2) / (m - 1)
    let s := ((v.s : Int) + (((r : Int) - v.s) / ((2 ^ g.alphaShift : Nat) : Int))).toNat
    let count := if g.lagThr ≤ s then v.count + 1 else 0
    ({ v with s := s, count := count }, decide (max 1 g.lagHold ≤ count), mine.isNone)

/-- Members' values through an instance: values, marks, missed arrivals. -/
def scoreInstance (g : BarGroup) (x : List Nat) (o : Nat) (scored : Bool) (inst : List (Nat × Nat)) (a : SMap (LagVal × Bool) × Nat) :
    SMap (LagVal × Bool) × Nat :=
  x.foldl (fun (a : SMap (LagVal × Bool) × Nat) d =>
    let v := a.1.getD d ({}, false)
    let r := scoreMember g x.length o scored inst d v.1
    (a.1.set d (r.1, v.2 || r.2.1), a.2 + b2n r.2.2)) a

/-- The group of a generation by home and number. -/
def Settings.group? (c : Settings) (home num : Nat) : Option BarGroup := c.groups.find? (fun g => g.home = home && g.num = num)

def State.setGroup (s : State) (x : GroupState) : State :=
  { s with cor := { s.cor with groups := s.cor.groups.map (fun (y : GroupState) => if y.home = x.home ∧ y.num = x.num then x else y) } }

/-! ## Lag returns (R283) -/

/-- A lag return reaches the member's BX64; values of an incarnation that is not the die's own count as those it entered with (R281, R295);
one for a die that is not local resets the count of a member whose test passed. hit:
R282 marks the member in this epoch. -/
def State.takeLag (s : State) (home group n : Nat) (addr : Nat) (v : LagVal) (hit : Bool) : State :=
  if addr / 64 = s.agg then
    let d := addr % 64
    let x := s.corDie d
    let stale : Bool := v.inc ≠ 0 && v.inc ≠ (s.die d).cur
    let y : LagEntry := { home := home, group := group, epoch := n, val := if stale then {} else v }
    let keep := x.lag.filter (fun z => ¬ (z.home = home ∧ z.group = group ∧ (z.epoch = n ∨ z.epoch + 4 ≤ n)))
    let s := s.setCorDie d { x with lag := keep ++ [y] }
    let gs := s.cfg.groupsOf addr
    let s := s.wr BX_COR_DIE_MARK_LAG d ((gs.map (fun g => ((s.corDie d).lagAt none g).s)).foldl max 0)
    (if hit ∧ ¬ stale then s.setReason d 1 n else s).mirrorDie d
  else
    match s.cor.groups.find? (fun (x : GroupState) => x.home = home && x.num = group) with
    | some x => s.setGroup { x with members := x.members.map (fun m => if m.1 = addr then (m.1, { m.2 with count := 0 }) else m) }
    | none => s

/-- The bytes of a lag return. -/
def lagBytes (home group n : Nat) (vals : List (Nat × LagVal × Bool)) : Bytes :=
  wordBytes ([home * 256 + group, n, vals.length] ++ vals.flatMap (fun v =>
    [packFields [(46, 18, v.1), (30, 16, v.2.1.inc), (0, 1, b2n v.2.2)],
     packFields [(48, 16, v.2.1.s), (40, 8, min 255 v.2.1.count), (16, 24, min 16777215 v.2.1.late)]]))

/-- The values of every member go to the members' BX64s. -/
def State.sendLag (s : State) (home group n : Nat) (vals : List (Nat × LagVal × Bool)) : State :=
  ((vals.map (fun v => v.1 / 64)).eraseDups).foldl (fun s a =>
    let mine := vals.filter (fun v => v.1 / 64 = a)
    if a = s.agg then mine.foldl (fun s v => s.takeLag home group n v.1 v.2.1 v.2.2) s
    else s.sendMsg 1 6 6 a (lagBytes home group n mine) (some n) true) s

/-! ## BARRIER_PROCESS (R279 to R283) -/

/-- A group as it stands under the settings of an epoch (R281): a change of line starts every member anew, a kept line keeps the values of
the members it keeps. -/
def GroupState.enter (x : GroupState) (g : BarGroup) : GroupState :=
  { x with line := g.line, members := g.members.map (fun a => (a, if x.line = g.line then x.members.getD a {} else {})) }

/-- One epoch of a group with its digests: instances, scores, counters, returns. -/
def State.processEpoch (s : State) (x : GroupState) (g : BarGroup) (n : Nat) : State :=
  let x := x.enter g
  let entries := (x.digests.filter (fun (d : Digest) => d.epoch = n)).flatMap (fun (d : Digest) => d.entries)
  let xs := entries.map (fun e => e.1)
  let c := s.schedOf n
  let base := c.open_ n * 256
  let arr := arrivals base entries
  let ins := instances (g.windowNs * 256) arr.length arr
  let cut (o : Nat) : Bool := decide ((c.close n - c.open_ n) * 256 < o + g.windowNs * 256)
  let start : SMap (LagVal × Bool) := g.members.foldl (fun m a =>
    let v := x.members.getD a {}
    let inc := ((entries.find? (fun e => e.1 = a)).map (fun e => e.2.1)).getD v.inc
    m.set a (if v.inc = 0 ∨ v.inc = inc then ({ v with inc := inc, late := 0 }, false) else ({ inc := inc }, false))) []
  let r := ins.foldl (fun a i => scoreInstance g xs i.1 (!cut i.1 && decide (2 ≤ xs.length)) i.2.1 a) (start, 0)
  let dup := (ins.map (fun i => i.2.2)).foldl (· + ·) 0
  let s := ((s.bump BX_COR_CNT0_DUP_ARR 0 dup).bump BX_COR_CNT0_CUT 0 (ins.filter (fun i => cut i.1)).length).bump BX_COR_CNT0_MISSED_ARR 0 r.2
  let x := { x with
    members := r.1.map (fun m => (m.1, m.2.1))
    digests := x.digests.filter (fun (d : Digest) => n < d.epoch)
    due := x.due.filter (fun d => n < d.1) }
  ((s.setGroup x).mirror (.group x)).2.sendLag x.home x.num n (r.1.map (fun m => (m.1, m.2.1, m.2.2)))

/-- A SKIPPED epoch (R279): counted, the unchanged values returned (R289). -/
def State.skipEpoch (s : State) (x : GroupState) (g : BarGroup) (n : Nat) : State :=
  let s := s.bump BX_COR_CNT0_SKIPPED
  let x := { x.enter g with digests := x.digests.filter (fun (d : Digest) => n < d.epoch), due := x.due.filter (fun d => n < d.1) }
  ((s.setGroup x).mirror (.group x)).2.sendLag x.home x.num n (x.members.map (fun m => (m.1, m.2, false)))

/-- Every BX64 that hosts a member has sent its digest. -/
def digestsHeld (x : GroupState) (g : BarGroup) (n : Nat) : Bool :=
  g.members.all (fun a => x.digests.any (fun (d : Digest) => d.epoch = n && d.agg = a / 64))

/-- A group that neither the generation of epoch n nor a later one has is over. -/
def State.endGroup (s : State) (home num n : Nat) : State :=
  if s.ep.gens.any (fun (g : GenRec) => n < g.sched.nA && (g.cfg.group? home num).isSome) then s
  else { s with cor := { s.cor with groups := s.cor.groups.filter (fun (x : GroupState) => ¬ (x.home = home ∧ x.num = num)) } }

/-- The due epochs of a group in ascending order, as far as they can be processed; expired ones are skipped. Fuel is their number. -/
def State.advanceGroup (home num : Nat) : Nat → State → State
  | 0, s => s
  | k + 1, s =>
    match s.cor.groups.find? (fun (x : GroupState) => x.home = home && x.num = num) with
    | none => s
    | some x =>
      match x.due with
      | [] => s
      | (n, t) :: _ =>
        match (s.cfgOf n).group? home num with
        | none => State.advanceGroup home num k ((s.setGroup { x with due := x.due.drop 1 }).endGroup home num n)
        | some g =>
          if t + s.rd BX_COR_CTRL_BAR_WAIT_US * 1000 ≤ s.bxNs then State.advanceGroup home num k (s.skipEpoch x g n)
          else if digestsHeld x g n then State.advanceGroup home num k (s.processEpoch x g n)
          else s

/-- The number of due epochs of a group. -/
def State.dueOf (s : State) (home num : Nat) : Nat :=
  ((s.cor.groups.find? (fun (x : GroupState) => x.home = home && x.num = num)).map (fun (x : GroupState) => x.due.length)).getD 0

/-- A group's due epochs are processed as far as its digests reach. -/
def State.runGroup (s : State) (home num : Nat) : State := State.advanceGroup home num (s.dueOf home num) s

/-- DIGEST_RECEIVE: a barrier digest from src at port q. A digest of an epoch processed or skipped already changes nothing. -/
def execDigestReceive (q src msgId : Nat) (g : Digest) (s : State) : Host.Outcome State Fault Refusal :=
  let s := s.consume (.canopy q) 1 5
  let (fresh, s) := s.e2eTake src msgId
  if ¬ fresh then done s else done ((s.takeDigest g).runGroup g.home g.group)

/-- BAR_WAIT_EXPIRY: BAR_WAIT_US after the commit notice a digest is still missing. -/
def execBarWaitExpiry (home num : Nat) (s : State) : Host.Outcome State Fault Refusal := done (s.runGroup home num)

/-- LAG_RETURN_RECEIVE: values of members from the home src. -/
def execLagReturnReceive (q src msgId home group n : Nat) (vals : List (Nat × LagVal × Bool)) (s : State) : Host.Outcome State Fault Refusal :=
  let s := s.consume (.canopy q) 1 6
  let (fresh, s) := s.e2eTake src msgId
  if ¬ fresh then done s else done (vals.foldl (fun s v => s.takeLag home group n v.1 v.2.1 v.2.2) s)

/-! ## Groups of a generation (R281) -/

/-- The groups that a generation brings here as it begins. Those held go on as they stand: each epoch is processed with the group its own
generation gives, and a group that is gone ends with the last epoch before it (R279). -/
def State.startGroups (s : State) (new : Settings) : State :=
  let fresh := new.groups.filter (fun g => s.homeNow g.home = s.agg ∧ ¬ s.cor.groups.any (fun (x : GroupState) => x.home = g.home && x.num = g.num))
  { s with cor := { s.cor with groups := s.cor.groups ++ fresh.map groupStart } }

/-! ## Probes (R293, R296) -/

/-- PROBE_RETRY_TIMEOUT: PROBE_US after a send it is unanswered: the next send, or after the last one the probe fails and the die is
fenced with cause PROBE. -/
def execProbeRetryTimeout (d : Nat) (s : State) : Host.Outcome State Fault Refusal :=
  match (s.corDie d).probe with
  | none => done s
  | some p =>
    if s.bxNs < p.at_ + max 1 (s.cfg.fld BX_LKO_CFG_PROBE_US 0) * 1000 then done s
    else if p.tries < max 1 (s.cfg.fld BX_LKO_CFG_PROBE_TRIES 0) then done (s.sendProbe d (p.tries + 1) p.origins)
    else done (((s.bump BX_COR_CNT1_PROBE_FAILS).endProbe d false).fenceDie d 2)

/-- PROBE_REPLY_RECEIVE: the ZX40 of a die answers a probe with a status; a send before the last one counts as well. -/
def execProbeReplyReceive (d status : Nat) (s : State) : Host.Outcome State Fault Refusal :=
  let s := s.consume (.stem d) 4 1
  let z := s.zxPort d
  let s := s.setZxPort d { z with out := z.out.filter (fun (m : ZxCmd) => ¬ (m.op = 0x0623 ∧ m.origin = none)) }
  done ((if status = S_OK then s.endProbe d true else s).issueZx d)

/-! ## Opcodes (Table 10-11) -/

/-- An operator opcode about a local die. -/
def State.dieOp (s : State) (c : Cap) (op n : Nat) (f : Nat → State → State) : State :=
  s.checked c op c.isOp n (fun s =>
    match s.localDie? (c.p 0) with
    | none => s.reply c op S_BADPARAM
    | some d => f d s)

/-- An entry of Table 10-11a. -/
def lagEntryBytes (addr home group : Nat) (v : LagVal) : Bytes :=
  wordBytes [packFields [(46, 18, addr), (34, 12, home), (26, 8, group)],
    packFields [(48, 16, v.s), (40, 8, min 255 v.count), (16, 24, min 16777215 v.late)]]

/-- LAG_READ (0x0221): selector 0 GROUP: home, group; 1 DIE: die address. -/
def execLagRead (c : Cap) (s : State) : Host.Outcome State Fault Refusal :=
  done (s.checkedPtr c 0x0221 c.isOp (if c.p 0 = 0 then 3 else 2) (fun s =>
    if c.p 0 = 0 then
      match s.cor.groups.find? (fun (x : GroupState) => x.home = c.p 1 && x.num = c.p 2), s.cfg.group? (c.p 1) (c.p 2) with
      | some x, some g => s.replyBlob c 0x0221 S_OK ((x.enter g).members.flatMap (fun m => lagEntryBytes m.1 x.home x.num m.2))
      | _, _ => s.reply c 0x0221 S_BADPARAM
    else if c.p 0 = 1 then
      match s.localDie? (c.p 1) with
      | none => s.reply c 0x0221 S_BADPARAM
      | some d =>
        let gs := (sortBy (fun a b => a.home < b.home ∨ a.home = b.home ∧ a.num ≤ b.num) (if d = 64 then [] else s.cfg.groupsOf (s.dieAddr d)))
        s.replyBlob c 0x0221 S_OK (gs.flatMap (fun g => lagEntryBytes (s.dieAddr d) g.home g.num ((s.corDie d).lagAt none g)))
    else s.reply c 0x0221 S_BADPARAM))

/-- DRIFT_READ (0x0222): die; channel; DMA pointer. -/
def execDriftRead (c : Cap) (s : State) : Host.Outcome State Fault Refusal :=
  done (s.dieOp c 0x0222 3 (fun d s =>
    if 15 < c.p 1 then s.reply c 0x0222 S_BADPARAM
    else
      let bins := (s.corDie d).drift.getD (c.p 1) []
      let b := wordBytes ((List.range 512).map (fun i => let x := bins.getD i (0, 0); packFields [(32, 16, x.1), (0, 32, x.2)]))
      s.reply c 0x0222 S_OK [4096] 0 (some (c.p 2, b))))

/-- SUSPECT_READ (0x0223). -/
def execSuspectRead (c : Cap) (s : State) : Host.Outcome State Fault Refusal :=
  done (s.dieOp c 0x0223 1 (fun d s => s.reply c 0x0223 S_OK [s.readReg .BX_COR_DIE_MARK d]))

/-- SUSPECT_CLEAR (0x0224): die; reason mask. -/
def execSuspectClear (c : Cap) (s : State) : Host.Outcome State Fault Refusal :=
  done (s.dieOp c 0x0224 2 (fun d s =>
    if s.rd BX_COR_DIE_MARK_TSTATE d = 2 then s.reply c 0x0224 S_BUSY
    else (s.clearReasons d (c.p 1 % 256)).reply c 0x0224 S_OK))

/-- LOOKOUT_REPORT (0x0620): die; from the operator, or a tenant whose mask includes the die. -/
def execLookoutReport (c : Cap) (s : State) : Host.Outcome State Fault Refusal :=
  done (s.checked c 0x0620 (c.isOp || c.isTenant || (c.path = 2 && c.tenant ≠ 0)) 1 (fun s =>
    if bits (c.p 0) 17 6 ≠ s.agg ∧ c.p 0 < 2 ^ 18 then
      let a := bits (c.p 0) 17 6
      if c.path = 2 then s.reply c 0x0620 S_BADPARAM
      else
        let s := { s with wdn := { s.wdn with prog := s.wdn.prog.map (fun (g : InProg) =>
          if g.op = 0x0620 ∧ g.cap = c then { g with relay := some (a, s.bxNs) } else g) } }
        let w0 := packFields [(48, 16, 0x0620), (32, 16, c.tag), (30, 2, 2), (16, 8, 8), (24, 6, c.tenant)]
        s.sendMsg 4 0 2 a (padTo 64 (wordBytes [w0, 0, c.p 0]))
    else
      match s.localDie? (c.p 0) with
      | none => s.reply c 0x0620 S_BADPARAM
      | some d =>
        if c.tenant ≠ 0 ∧ (d = 64 ∨ ¬ ((s.cfg.mask? (s.dieAddr d)).getD 0).testBit c.tenant) then s.reply c 0x0620 S_DENIED
        else if s.dieFenced d then s.reply c 0x0620 S_FENCED
        else s.startProbe d (some (0x0620, c))))

/-- LOOKOUT_ADMIT (0x0621). -/
def execLookoutAdmit (c : Cap) (s : State) : Host.Outcome State Fault Refusal :=
  done (s.dieOp c 0x0621 1 (fun d s =>
    if ¬ s.dieFenced d ∨ (s.die d).unfence.isSome then s.reply c 0x0621 S_CONFLICT
    else if s.rd BX_LKO_DIE_HEARD_RUN d = 0 then s.reply c 0x0621 S_NOTNOW
    else (s.readmit d).reply c 0x0621 S_OK))

/-- LOOKOUT_STATUS (0x0622). -/
def execLookoutStatus (c : Cap) (s : State) : Host.Outcome State Fault Refusal :=
  done (s.dieOp c 0x0622 1 (fun d s => s.reply c 0x0622 S_OK [s.readReg .BX_LKO_DIE d]))

/-- LOOKOUT_PROBE (0x0623): at BX64 with a die; at a ZX40, without, answered S_OK. -/
def execLookoutProbe (c : Cap) (s : State) : Host.Outcome State Fault Refusal :=
  if c.isInternal then done (if s.zxNext c 0x0623 then s.zxReply c 0x0623 S_OK else s)
  else done (s.dieOp c 0x0623 1 (fun d s => s.startProbe d (some (0x0623, c))))

/-- DIE_FENCE (0x0624). -/
def execDieFence (c : Cap) (s : State) : Host.Outcome State Fault Refusal :=
  done (s.dieOp c 0x0624 1 (fun d s =>
    if d = 64 then s.reply c 0x0624 S_BADPARAM
    else if s.dieFenced d then s.reply c 0x0624 S_FENCED
    else
      let s := s.fenceDie d 4
      s.reply c 0x0624 S_OK [((s.die d).fence).getD 0]))

end Sys2Proof.Machine
end

