-- ==== Sys2Proof/Machine/Epoch.lean ====
section
/-! DEFINITION. Epoch contexts, horizon and revisions (R24, R30, R214), reading (R34 to R37) and staged configuration (R41 to R46, R536). -/
namespace Sys2Proof.Machine

/-! ## Contexts (R214) -/

/-- A partial's contributions enter a context whose generation's settings are given. -/
def Ctx.takePartial (c : Settings) (x : Ctx) (p : Partial) : Ctx :=
  let x := if p.supplement ∨ p.recompute then x else { x with childFirst := x.childFirst ++ [p.origin] }
  if p.body.dies.any (fun d => x.merged.any (fun m => m.1 = d.1)) then x else x.merge c p.body

/-- A partial meets the context of its epoch. -/
def State.mergePartial (s : State) (x : Ctx) (p : Partial) : State :=
  let c := s.cfgOf p.epoch
  let dup : Bool := p.body.dies.any (fun d => x.merged.any (fun m => m.1 = d.1))
  let s := s.setCtx (x.takePartial c p)
  if ¬ dup then s
  else if p.recompute ∧ p.body.dies.length = 1 then s.bump BX_RED_CNT1_RECOMPUTE_DUP
  else (s.bump BX_RED_CNT1_OVERLAP).signal { ty := 0x0602, source := 3, idx := p.origin, detail := p.origin, extra := p.epoch }

/-- A context opens: partials received before it opened meet it in the order they came, then held snapshots are classified in die order. -/
def State.openCtx (s : State) (n : Nat) : State :=
  let got := (s.red.kept.filter (fun (k : KeptPartial) => ¬ k.sent ∧ k.p.epoch = n)).map (fun (k : KeptPartial) => k.p)
  let s : State := { s with red := { s.red with ctxs := s.red.ctxs ++ [{ epoch := n }] } }
  (got.foldl (fun s p => match s.ctx? n with
    | none => s
    | some x => s.mergePartial x p) s).classifyHeld n

/-- The epoch that closes next at this BX64: the one after the last closed, or after a start the earliest whose horizon has not passed. -/
def State.nextClose? (s : State) : Option Nat :=
  match s.red.lastClosed with
  | some n => some (n + 1)
  | none => s.ep.gens.getLast?.map (fun (g : GenRec) => g.sched.nA + ((s.bxNs - g.sched.a) / g.sched.len - 3))

/-- After a start, the snapshots held of epochs before the first that closes here are classified: their horizons have passed (R213). -/
def State.classifyOlder (s : State) (n : Nat) : State :=
  let es := (s.red.log.filter (fun (x : IngEntry) => x.epoch < n ∧ x.row = none)).map (fun (x : IngEntry) => x.epoch)
  (sortBy (fun a b => a ≤ b) es.eraseDups).foldl (fun s m => s.classifyHeld m) s

/-- BX_EPOCH_CLOSE: C(N) has come: a context opens, or the epoch waits for one. -/
def execBxEpochClose (s : State) : Host.Outcome State Fault Refusal :=
  match s.nextClose? with
  | none => done s
  | some n =>
    if ¬ s.closed n then done s
    else
      let s := if s.red.lastClosed = none then s.classifyOlder n else s
      let s := { s with red := { s.red with lastClosed := some n } }.targetsGone.restage
      if s.committed n then done (s.classifyHeld n)
      else if s.red.waiting = [] ∧ s.red.ctxs.length < 16 then done (s.openCtx n)
      else done ({ s with red := { s.red with waiting := s.red.waiting ++ [n] } }.bump BX_RED_CNT2_CTX_WAIT)

/-- CONTEXT_FREE: the lowest waiting epoch takes a free context. -/
def execContextFree (s : State) : Host.Outcome State Fault Refusal :=
  match s.red.waiting with
  | [] => done s
  | n :: t => if s.red.ctxs.length < 16 then done ({ s with red := { s.red with waiting := t } }.openCtx n) else done s

/-- EPOCH_HORIZON: the root freezes every contribution set whose horizon has come. -/
def execEpochHorizon (s : State) : Host.Outcome State Fault Refusal :=
  let due (x : Ctx) : Bool := s.rootOf x.epoch && decide (s.horizonOf x.epoch ≤ s.bxNs)
  done { s with red := { s.red with ctxs := s.red.ctxs.map (fun (x : Ctx) => if due x then { x with frozen := true } else x) } }

/-- The views of a generation: the fleet's (64), then each tenant's. -/
def Settings.views (c : Settings) : List Nat := 64 :: c.tenants

/-- PROVISIONAL_REVISION: the root publishes epoch n again once its PRESENT set has grown, at most once per L/8, and not once its committed
record is formed, which has the number after the last revision (R27). -/
def execProvisionalRevision (n : Nat) (s : State) : Host.Outcome State Fault Refusal :=
  match s.ctx? n, s.genOf n with
  | some x, some g =>
    let due : Bool := x.revision = 0 || decide (x.lastRev + g.sched.len / 8 ≤ s.bxNs)
    if s.rootOf n ∧ g.gen ≠ 0 ∧ ¬ x.frozen ∧ x.commitMsg = none ∧ ¬ x.poisoned ∧ x.revPresent < x.merged.length ∧ due then
      let r := x.revision + 1
      let s := g.cfg.views.foldl (fun s v =>
        let b := s.recordBytes g n v r false x.acc
        (s.putRecord b).toChildren 1 2 7 b n) s
      done (s.setCtx { x with revision := r, lastRev := s.bxNs, revPresent := x.merged.length })
    else done s
  | _, _ => done s

/-! ## Reading (Table 1-5) -/

/-- EPOCH_READ (0x0201): epoch; view; form; minimum watermark. -/
def execEpochRead (c : Cap) (s : State) : Host.Outcome State Fault Refusal :=
  done (s.checkedPtr c 0x0201 (c.isOp || c.isTenant) 4 (fun s =>
    let own : Bool := bitAt (c.p 1) 6 && bits (c.p 1) 5 0 = c.tenant
    if c.isTenant ∧ ¬ own then s.reply c 0x0201 S_DENIED
    else if 127 < c.p 1 ∨ 1 < c.p 2 then s.reply c 0x0201 S_BADPARAM
    else
      match s.epochAnswer c with
      | some s => s
      | none =>
        let w : WaitRead := { cap := c, until_ := s.bxNs + s.rd BX_EPC_CTRL_READ_WAIT_US * 1000 }
        { s with ep := { s.ep with waits := s.ep.waits ++ [w] } }))

/-- READ_WAIT_EXPIRY: readers whose minimum watermark was not reached in time. -/
def execReadWaitExpiry (s : State) : Host.Outcome State Fault Refusal :=
  let s := s.answerWaits
  let late := s.ep.waits.filter (fun (w : WaitRead) => w.until_ ≤ s.bxNs)
  let s := { s with ep := { s.ep with waits := s.ep.waits.filter (fun (w : WaitRead) => ¬ w.until_ ≤ s.bxNs) } }
  done (late.foldl (fun s (w : WaitRead) => (s.bump BX_EPC_MISC_CNT_READ_TIMEOUT).reply w.cap 0x0201 S_TIMEOUT) s)

/-- EPOCH_STATUS (0x0202). -/
def execEpochStatus (c : Cap) (s : State) : Host.Outcome State Fault Refusal :=
  done (s.checked c 0x0202 c.isOp 0 (fun s => s.reply c 0x0202 S_OK
    [s.readReg .BX_EPC_STATE, s.readReg .BX_EPC_CURRENT, s.readReg .BX_EPC_SCHED_ANCHOR, s.readReg .BX_EPC_SCHED_CFG, s.readReg .BX_EPC_CTRL]))

/-! ## Staging and applying (R43, R44, R536) -/

/-- A generation is armed here. -/
def State.isArmed (s : State) : Bool := (s.ep.staged.bind (fun (g : Staged) => g.armed)).isSome

/-- The epoch schedule of some settings is refused (R20): its anchor epoch is below an epoch already closed here. -/
def State.anchorPast (s : State) (c : Settings) : Bool :=
  match c.anchorAt, s.red.lastClosed with
  | some x, some n => decide (x.2 < n)
  | _, _ => false

/-- CFG_STAGE (0x0203): generation; DMA pointer and length, whose settings are cfg. -/
def execCfgStage (c : Cap) (cfg : Settings) (s : State) : Host.Outcome State Fault Refusal :=
  done (s.checked c 0x0203 c.isOp 3 (fun s =>
    if s.isArmed ∨ s.distributing then s.reply c 0x0203 S_BUSY
    else if c.p 0 = 0 ∨ 65535 < c.p 0 ∨ ¬ (s.overlay cfg).ok s.liveSched.k ∨ ¬ s.groveOk (s.overlay cfg) ∨ s.anchorPast cfg then
      s.reply c 0x0203 S_BADPARAM
    else
      let s := s.holdStaged { gen := c.p 0, cfg := cfg, targets := s.targets cfg }
      let s := (s.otherBx cfg).foldl (fun s a => s.sendCfg a (.stage (c.p 0) cfg none)) s
      let s := (s.followers.foldl (fun s a => s.sendCfg a (.answer false 0 (s.agg * 64) S_OK)) s).tellScope
      s.reply c 0x0203 S_OK))

/-- CFG_DISTRIBUTION: a message of a distribution from src: a generation, or a target's answer. -/
def execCfgDistribution (q src msgId : Nat) (m : CfgMsg) (s : State) : Host.Outcome State Fault Refusal :=
  let s := s.consume (.canopy q) 4 0x16
  let (fresh, s) := s.e2eTake src msgId
  if ¬ fresh then done s
  else
    match m with
    | .stage gen cfg anchor =>
      let tell (s : State) (st : Nat) : State :=
        (((src :: (s.armRoot? cfg).toList).filter (fun a => a ≠ s.agg)).eraseDups).foldl (fun s a => s.sendCfg a (.answer false 0 (s.agg * 64) st)) s
      if s.isArmed then done (tell s S_BUSY)
      else if anchor = none ∧ (¬ ((s.overlay cfg).ok s.liveSched.k && s.groveOk (s.overlay cfg)) ∨ s.anchorPast cfg) then done (tell s S_BADPARAM)
      else
        let ts := if anchor = none ∧ s.armsGen cfg then s.targets cfg else s.localTargets cfg
        done ((tell (s.holdStaged { gen := gen, cfg := cfg, targets := ts, anchor := anchor, origin := some src }) S_OK).tellScope)
    | .answer arm kind addr st => done (s.noteAnswer arm kind addr st)
    | .scope ts => done (s.noteScope ts)
    | .abort gen =>
      match s.ep.staged with
      | some g => done (if g.gen = gen ∧ g.armed = none then s.dropStaged g else s)
      | none => done s
    | .arm _ _ _ => done s

/-- A list entry of Table 1-7a. -/
def targetEntry (unreach : Bool) (t : Target) : Nat :=
  let (why, st) : Nat × Nat := match t.ack with
    | .refused st => (2, st)
    | _ => (if unreach then 0 else 1, 0)
  packFields [(62, 2, t.kind), (60, 2, why), (52, 8, st), (0, 18, t.addr)]

/-- ARM reaches the shadows here: armed for (T, M), and the ZX40s that hold the generation are armed. -/
def State.armHere (s : State) (g : Staged) (t m : Nat) : State :=
  let s := s.setStaged (some { g with armed := some (t, m) })
  g.targets.foldl (fun s (x : Target) => match s.localTarget x.kind x.addr with
    | some p => s.zxInternal p 0x0212 [g.gen, t, m, g.cfg.k]
    | none => s) s

/-- CFG_APPLY_AT (0x0204): generation; T. Any generation armed, the one named included, is answered S_CONFLICT: the table speaks of another
generation, and an armed one cannot be armed again (DESIGN CHOICE, log entry 106). -/
def execCfgApplyAt (c : Cap) (s : State) : Host.Outcome State Fault Refusal :=
  done (s.checkedPtr c 0x0204 c.isOp 2 (fun s =>
    if s.isArmed then s.reply c 0x0204 S_CONFLICT
    else
      match s.ep.staged with
      | none => s.reply c 0x0204 S_NOTNOW
      | some g =>
        if g.gen ≠ c.p 0 ∨ g.anchor ≠ none ∨ ¬ s.armsGen g.cfg then s.reply c 0x0204 S_NOTNOW
        else
          match s.liveSched.boundary? (c.p 1) with
          | none => s.reply c 0x0204 S_NOTNOW
          | some m =>
            if m < (s.liveSched.at_ s.bxNs).getD 0 + s.rd BX_EPC_CTRL_MIN_LEAD then s.reply c 0x0204 S_NOTNOW
            else
              let left := g.targets.filter (fun t => t.ack ≠ .acked)
              if left ≠ [] then
                s.replyBlob c 0x0204 S_PARTIAL (wordBytes (left.map (fun t => targetEntry (s.unreachable g.targets t) t)))
              else
                let s := s.armHere { g with origin := none } (c.p 1) m
                let s := (s.otherBx g.cfg).foldl (fun s a => s.sendCfg a (.arm g.gen (c.p 1) m)) s
                s.reply c 0x0204 S_OK [0]))

/-- CFG_ABORT (0x0205): generation. -/
def execCfgAbort (c : Cap) (s : State) : Host.Outcome State Fault Refusal :=
  done (s.checked c 0x0205 c.isOp 1 (fun s =>
    match s.ep.staged with
    | none => s.reply c 0x0205 S_CONFLICT
    | some g =>
      if g.gen ≠ c.p 0 then s.reply c 0x0205 S_CONFLICT
      else if g.armed.isSome then s.reply c 0x0205 S_DENIED
      else
        let s := (s.otherBx g.cfg).foldl (fun s a => s.sendCfg a (.abort g.gen)) (s.dropStaged g)
        s.reply c 0x0205 S_OK))

/-- CFG_STATUS (0x0206). -/
def execCfgStatus (c : Cap) (s : State) : Host.Outcome State Fault Refusal :=
  done (s.checked c 0x0206 c.isOp 0 (fun s => s.reply c 0x0206 S_OK [s.readReg .BX_CFG_GEN, s.readReg .BX_CFG_APPLY]))

/-- CFG_ARM: ARM from the root, or a target's answer to it. -/
def execCfgArm (q src msgId : Nat) (m : CfgMsg) (s : State) : Host.Outcome State Fault Refusal :=
  let s := s.consume (.canopy q) 4 0x16
  let (fresh, s) := s.e2eTake src msgId
  if ¬ fresh then done s
  else
    match m with
    | .arm gen t n =>
      match s.ep.staged with
      | some g =>
        if g.gen = gen ∧ g.armed = none then done ((s.armHere { g with origin := some src } t n).sendCfg src (.answer true 0 (s.agg * 64) S_OK))
        else done (s.sendCfg src (.answer true 0 (s.agg * 64) S_CONFLICT))
      | none => done (s.sendCfg src (.answer true 0 (s.agg * 64) S_CONFLICT))
    | .answer arm kind addr st => done (s.noteAnswer arm kind addr st)
    | .stage _ _ _ | .scope _ | .abort _ => done s

end Sys2Proof.Machine
end

