-- ==== Sys2Proof/Machine/Commit.lean ====
section
/-! DEFINITION. Committing and synchronising (R23, R29 to R35, R394, R395) and the apply instant (R43). -/
namespace Sys2Proof.Machine

/-! ## What the commit of an epoch brings about -/

/-- The state of the correlator and of Lookout goes to the mirror (Table 13-6); that of a group goes as its epochs are processed. -/
def State.mirrorState (s : State) : State := s.cor.dies.foldl (fun s (d : Nat × DieCorr) => s.mirrorDie d.1) s

/-- The digests this BX64 owes for an epoch: its own, and those of the wards it stands in for (R278, R399). -/
def State.allDigests (s : State) (n : Nat) (r : Bytes) : State :=
  let s := s.sendDigests s.agg n (fun d => (s.held? d n).map (fun (x : IngEntry) => x.bytes)) r
  s.cnp.standIn.foldl (fun s a => s.sendDigests a n (wardSnap ((s.cnp.mirrors.find? a).getD []) n) r) s

/-- What no rule needs once epoch n is committed: its context, provisional records, partials. Snapshots of n that waited for a context have
been classified before, as LATE (R214). -/
def State.pruneEpoch (s : State) (n : Nat) : State :=
  { s with
    red := { s.red with
      ctxs := s.red.ctxs.filter (fun (x : Ctx) => x.epoch ≠ n), waiting := s.red.waiting.filter (fun m => m ≠ n)
      kept := s.red.kept.filter (fun (k : KeptPartial) => n < k.p.epoch) }
    ep := { s.ep with
      records := s.ep.records.filter (fun (x : RecEntry) => x.committed || decide (x.epoch ≠ n))
      notices := s.ep.notices.filter (fun (x : Notice) => n < x.epoch) } }

/-- The records of the committed epoch n, which follows the watermark, are held: the watermark advances, the context is released, Lookout,
the correlator and the trace store work on the epoch, and readers are answered. -/
def State.applyCommit (s : State) (n : Nat) : State :=
  let s := (((s.wr BX_EPC_STATE_WATERMARK 0 n).wr BX_EPC_STATE_WM_VALID 0 1).classifyHeld n).pruneEpoch n
  let s := s.lookoutUpdate n
  let s := match s.fleetRecord? n with
    | none => s
    | some r => ((s.healthUpdate n r).allDigests n r).trsHistory n (fun d => s.presentIn r d)
  let s := s.groupsDue n
  let s := s.cor.groups.foldl (fun s (g : GroupState) => s.runGroup g.home g.num) s
  let s := s.mirrorState.evictRecords
  let s := (List.range 65).foldl (fun s d => s.advanceAck d) s
  s.afterCommitLog.answerWaits

/-! ## The root (R29 to R32) -/

/-- The epoch that commits next: the one after the watermark, at first the anchor epoch of the first schedule (R31). -/
def State.nextCommit? (s : State) : Option Nat :=
  if s.flag BX_EPC_STATE_WM_VALID then some (s.rd BX_EPC_STATE_WATERMARK + 1) else s.ep.firstEpoch

/-- No die of the epoch is ABSENT (R26). -/
def State.isComplete (s : State) (n : Nat) (x : Ctx) : Bool := (s.cvCounts (s.cfgOf n) n 64 x.acc.dies).2.1 = 0

/-- The committed records of the next epoch are formed and go to the mirror holder, if the epoch is COMPLETE or frozen. Without a holder
the root commits nothing (R397). -/
def State.proposeCommit (s : State) : State :=
  match s.nextCommit? with
  | none => s
  | some n =>
    match s.ctx? n, s.genOf n with
    | some x, some g =>
      if ¬ s.rootOf n ∨ x.commitMsg.isSome ∨ x.poisoned ∨ s.mirrorHolder? = none ∨ ¬ (x.frozen || s.isComplete n x) then s
      else
        let rev := min 0xFFF (x.revision + 1)
        let recs := g.cfg.views.map (fun v => s.recordBytes g n v rev true x.acc)
        let (ids, s) := recs.foldl (fun (acc : List Nat × State) b =>
          let (id, t) := acc.2.mirror (.record n (recView b) rev b) (some n)
          (acc.1 ++ id.toList, t)) ([], s)
        s.setCtx { x with commitMsg := some ids, commitRecs := recs }
    | _, _ => s

/-- The next epoch's records have been acknowledged: the root commits, and sends them and the notice down the tree. -/
def State.finishCommit (s : State) : State :=
  match s.nextCommit? with
  | none => s
  | some n =>
    match s.ctx? n with
    | none => s
    | some x =>
      if ¬ s.rootOf n ∨ x.commitMsg ≠ some [] then s
      else
        let s := x.commitRecs.foldl (fun s b => s.putRecord b) s
        (s.announce n).applyCommit n

/-- ROOT_COMMIT: the root of an epoch commits it once its mirror holder has acknowledged its records, and proposes the epoch that follows.
Whose root this BX64 is, the generation in force for the epoch tells (R29). -/
def execRootCommit (s : State) : Host.Outcome State Fault Refusal := done s.finishCommit.proposeCommit

/-! ## Commit notices (R32, R394) -/

/-- WM_SYNC goes to the acting parent with this BX64's watermark. -/
def State.askSync (s : State) : State :=
  match s.parent? with
  | none => s
  | some p => s.sendMsg 4 0x15 2 p (leBytes 8 (packFields [(16, 48, s.rd BX_EPC_STATE_WATERMARK), (15, 1, b2n (s.flag BX_EPC_STATE_WM_VALID))]))

/-- Every view a notice names is held with the CRC it gives. -/
def State.noticeHeld (s : State) (o : Notice) : Bool :=
  o.crcs.all (fun c => match s.record? o.epoch c.1 true with
    | none => false
    | some r => recCrc r.bytes == c.2)

/-- A record whose CRC a notice contradicts is dropped, to be fetched again. -/
def State.dropWrong (s : State) (o : Notice) : State :=
  { s with ep := { s.ep with records := s.ep.records.filter (fun (r : RecEntry) =>
      !(r.committed && r.epoch == o.epoch && o.crcs.any (fun c => c.1 == r.view && c.2 != recCrc r.bytes))) } }

/-- Notices held are applied in epoch order; the first whose views are not all held is asked for. Fuel is the number of notices. -/
def applyNotices : Nat → State → State
  | 0, s => s
  | k + 1, s =>
    match s.nextCommit? with
    | none => s
    | some n =>
      match s.ep.notices.find? (fun (o : Notice) => o.epoch = n) with
      | none => s
      | some o => if s.noticeHeld o then applyNotices k (s.applyCommit n) else (s.dropWrong o).askSync

def State.runNotices (s : State) : State := applyNotices s.ep.notices.length s

/-- COMMIT_NOTICE: a notice from src at port q. It goes on to this BX64's children, and is applied once it is its turn. -/
def execCommitNotice (q src msgId : Nat) (o : Notice) (s : State) : Host.Outcome State Fault Refusal :=
  let s := s.consume (.canopy q) 4 0x14
  if s.isLost src then done s
  else
    let (fresh, s) := s.e2eTake src msgId
    if ¬ fresh then done s
    else if s.parentOf o.epoch ≠ some src then done (s.viol (.canopy q) 8)
    else
      let s := s.toChildren 4 0x14 2 (noticeBytes o) o.epoch true
      let past : Bool := s.committed o.epoch || s.ep.notices.any (fun (x : Notice) => x.epoch == o.epoch)
      let s : State := if past then s else { s with ep := { s.ep with notices := s.ep.notices ++ [o] } }
      done s.runNotices

/-! ## WM_SYNC (R395) -/

/-- The committed records above a watermark go to a child in ascending order. -/
def State.sendSince (s : State) (a : Nat) (wm : Option Nat) : State :=
  let own := s.rd BX_EPC_STATE_WATERMARK
  let rs := s.ep.records.filter (fun (r : RecEntry) => r.committed && s.committed r.epoch && wm.all (fun m => decide (m < r.epoch)) &&
    decide (own < r.epoch + s.rd BX_EPC_CTRL_RETAIN_EPOCHS))
  (sortBy (fun (x y : RecEntry) => decide (x.epoch < y.epoch) || (x.epoch == y.epoch && decide (y.view ≤ x.view))) rs).foldl
    (fun s (r : RecEntry) => s.sendMsg 1 3 7 a r.bytes (some r.epoch)) s

/-- The views of an epoch, as far as its generation is known here. -/
def State.epochHeld (s : State) (n : Nat) : Bool := ((s.cfgOf n).views).all (fun v => (s.record? n v true).isSome)

/-- The watermark follows the records held toward the parent's: one epoch after the other, and for a BX64 without a watermark at once to
the parent's epoch, once that is held. Fuel bounds the epochs. -/
def syncTo (target : Nat) : Nat → State → State
  | 0, s => s
  | k + 1, s =>
    if s.flag BX_EPC_STATE_WM_VALID then
      let n := s.rd BX_EPC_STATE_WATERMARK + 1
      if n ≤ target ∧ s.epochHeld n then syncTo target k (((s.wr BX_EPC_STATE_WATERMARK 0 n).classifyHeld n).pruneEpoch n) else s
    else if s.epochHeld target then (((s.wr BX_EPC_STATE_WATERMARK 0 target).wr BX_EPC_STATE_WM_VALID 0 1).classifyHeld target).pruneEpoch target
    else s

/-- The synchronisation goes as far as the records held allow; at the parent's watermark it is complete. -/
def State.runSync (s : State) : State :=
  match s.ep.wmTarget with
  | none => s
  | some t =>
    let s := syncTo t (t + 1 - s.rd BX_EPC_STATE_WATERMARK) s
    if s.committed t then (({ s with ep := { s.ep with wmTarget := none } }.wr BX_EPC_STATE_WM_SYNCED 0 1).runNotices).answerWaits else s.answerWaits

/-- WM_SYNC: a child's request or the parent's answer from src at port q, or the child's repetition. -/
def execWmSync (q src : Nat) (m : WmMsg) (s : State) : Host.Outcome State Fault Refusal :=
  match m with
  | .again => done (if s.flag BX_EPC_STATE_WM_SYNCED then s.runSync else s.runSync.askSync)
  | .ask wm =>
    let s := s.consume (.canopy q) 4 0x15
    if src ∉ s.children then done s
    else
      let w := packFields [(16, 48, s.rd BX_EPC_STATE_WATERMARK), (15, 1, b2n (s.flag BX_EPC_STATE_WM_VALID))]
      done ((s.sendMsg 4 0x15 2 src (leBytes 8 w)).sendSince src wm)
  | .answer wm =>
    let s := s.consume (.canopy q) 4 0x15
    if s.parent? ≠ some src then done s
    else
      match wm with
      | none => done ((s.wr BX_EPC_STATE_WM_SYNCED 0 1).runNotices.answerWaits)
      | some t => done ({ s with ep := { s.ep with wmTarget := some t } }.runSync)

/-! ## The apply instant (R43, R45) -/

/-- The roles of the new tree: its root acts, and every BX64 takes the place the tree gives it (R392, R403). -/
def State.applyTree (s : State) : State :=
  let s := { s with cnp := { s.cnp with returned := [] } }
  (match s.treeRoot? with
    | none => s
    | some r => s.wr BX_CNP_FAB_STS_ACT_ROOT 0 r).refreshRoles

/-- The targets that refused ARM get the generation again: a BX64 from the root, a ZX40 from its BX64. -/
def State.resendRefused (s : State) (ts : List (Nat × Nat)) : State :=
  ts.foldl (fun s t =>
    match s.localTarget t.1 t.2 with
    | some p => s.resendGen p
    | none => if t.1 = 0 ∧ s.isRoot then s.resendTo (t.2 / 64) else s) s

/-- The root's watermark needs no parent; any other BX64 asks its parent (R34). -/
def State.startSync (s : State) : State :=
  if s.isRoot then s.wr BX_EPC_STATE_WM_SYNCED 0 1
  else if s.flag BX_EPC_STATE_WM_SYNCED then s
  else s.askSync

/-- The generations held once another replaces the one in force, which keeps the acting root, the acting parent and the children it had:
epochs below M stay with the tree of the generation in force for them (R29). -/
def State.pastGens (s : State) : List GenRec :=
  match s.ep.gens with
  | [] => []
  | g :: t => { g with actRoot := some (s.rd BX_CNP_FAB_STS_ACT_ROOT), parent := s.parent?, children := s.children } :: t

/-- What waited for a restart to end: the incarnations that were to come back from the mirror are taken as they are, and local
contributions of the epochs closed so far leave as RECOMPUTE partials (R38, R233). -/
def State.restartOver (s : State) : State :=
  let s := if s.red.restarted then { s with red := { s.red with restarted := false, recomputeTo := some (max (s.red.recomputeTo.getD 0) s.bxEpoch) } } else s
  s.releaseIncs

/-- The generation armed at BX64 goes live. -/
def State.bxApply (s : State) (g : Staged) (t m : Nat) : State :=
  let old := s.cfg
  let oldGen := s.liveGen
  let first := s.liveGen?.isNone && g.anchor.isNone
  let rec_ : GenRec := { gen := g.gen, sched := g.anchor.getD ⟨t, m, g.cfg.k⟩, cfg := g.cfg }
  let s := { s with ep := { s.ep with
    gens := rec_ :: s.pastGens, staged := none
    firstEpoch := if first then some m else s.ep.firstEpoch
    dies := s.ep.dies.map (fun (d : Nat × DieId) => (d.1, { d.2 with resendM := none })) } }
  let s := (s.applyTree.startGroups g.cfg).clearBins oldGen old g.cfg
  ((s.resendRefused g.armRefused).startSync).restartOver

/-- CFG_APPLY_INSTANT: the first tick at or past T at a part. -/
def execCfgApplyInstant (p : Part) (s : State) : Host.Outcome State Fault Refusal :=
  match p with
  | .zx => done s.zxApply
  | .bx =>
    match s.ep.staged with
    | none => done s
    | some g =>
      match g.armed with
      | none => done s
      | some (t, m) => done (if t ≤ s.bxNs then s.bxApply g t m else s)

/-! ## Records down the tree (R394) -/

/-- RECORD_RECEIVE: a revision or committed record from src at port q. -/
def execRecordReceive (q src : Nat) (bytes : Bytes) (s : State) : Host.Outcome State Fault Refusal :=
  let committed := recCommitted bytes
  let s := s.consume (.canopy q) 1 (if committed then 3 else 2)
  let n := recEpoch bytes
  if s.parentOf n ≠ some src then done (s.viol (.canopy q) 8)
  else
    let s := s.toChildren 1 (if committed then 3 else 2) 7 bytes n
    if ¬ recCrcOk bytes then done s
    else
      match s.record? n (recView bytes) true with
      | some x =>
        if committed ∧ x.bytes ≠ bytes then
          let d := packFields [(4, 12, src), (3, 1, b2n (recView bytes ≠ 64))]
          let e := packFields [(16, 48, n), (0, 6, if recView bytes = 64 then 0 else recView bytes)]
          let s := (s.viol (.canopy q) 9).signal { ty := 0x0408, source := 2, idx := q, detail := d, extra := e }
          done (s.alarmUp 0x2A (s.bxAlarm d e))
        else done s
      | none =>
        let t := s.putRecord bytes
        done (if committed then t.runSync.runNotices else t)

end Sys2Proof.Machine
end

