-- ==== Sys2Proof/Machine/Reduction.lean ====
section
/-! DEFINITION. Partials on the tree (R219 to R222, R235, R400), and the restart of a BX64 from its mirror (R233). -/
namespace Sys2Proof.Machine

/-! ## Rebuild (R235) -/

/-- A poisoned accumulator rebuilt from the kept inputs: local snapshots under row 10, then received partials; a non-root leaves out
what its sent partials hold. -/
def State.rebuilt (s : State) (x : Ctx) : Ctx :=
  let c := s.cfgOf x.epoch
  let sent := if s.rootOf x.epoch then [] else
    (s.red.kept.filter (fun (k : KeptPartial) => k.sent ∧ k.p.epoch = x.epoch)).flatMap (fun (k : KeptPartial) => k.p.body.dies)
  let isSent (a : Nat) : Bool := sent.any (fun d => d.1 = a)
  let base : Ctx := { x with merged := sent, acc := {}, poisoned := false }
  let locals := (sortBy (fun a b => a.die ≤ b.die) (s.red.log.filter (fun (e : IngEntry) => e.epoch = x.epoch && e.row = some 10 && e.die ≠ 64 && !isSent (s.dieAddr e.die))))
  let y := locals.foldl (fun y (e : IngEntry) => y.merge c (c.contribOf e.die (s.dieAddr e.die) e.inc e.bytes)) base
  let got := (s.red.kept.filter (fun (k : KeptPartial) => ¬ k.sent ∧ k.p.epoch = x.epoch)).map (fun (k : KeptPartial) => k.p)
  got.foldl (fun y p => if p.body.dies.any (fun d => y.merged.any (fun m => m.1 = d.1)) then y else y.merge c p.body) y

/-- An uncorrectable error poisons the context of an epoch, which is rebuilt: counted and recorded. -/
def State.poisonCtx (s : State) (n : Nat) : State :=
  match s.ctx? n with
  | none => s
  | some x => ((s.setCtx (s.rebuilt x)).bump BX_RED_CNT2_REBUILDS).signal { ty := 0x0601, source := 3, extra := n }

/-! ## Partials leave (R219, R220) -/

/-- What a context has merged since its last partial leaves for the acting parent. -/
def State.sendPartial (s : State) (x : Ctx) (supplement : Bool) : State :=
  match s.parentOf x.epoch, s.genOf x.epoch with
  | some dst, some g =>
    let q := s.nextSeq x.epoch
    let p : Partial := { epoch := x.epoch, gen := g.gen, origin := s.agg, supplement := supplement, partSeq := q, body := x.acc }
    let s := s.setCtx { x with acc := {}, firstSent := true, lastSent := s.bxNs, partSeq := q + 1 }
    s.emitPartial g.cfg p dst
  | _, _ => s

/-- FLUSH instant of epoch n here: C(N) + FLUSH_US + h HOP_US, not after C(N) + 2 L(N). -/
def State.flushAt (s : State) (n : Nat) : Nat :=
  let h := ((s.treeOf s.agg).map (fun (e : TreeEntry) => e.height)).getD 0
  min (s.closeOf n + (s.rd BX_RED_CTRL_FLUSH_US + h * s.rd BX_RED_CTRL_HOP_US) * 1000) (s.closeOf n + 2 * (s.schedOf n).len)

/-- PARTIAL_FLUSH: the flush instant of epoch n has come and no partial has left: the first one leaves. ecc: the accumulator is read
with an uncorrectable error, and is rebuilt first. -/
def execPartialFlush (n : Nat) (ecc : Bool) (s : State) : Host.Outcome State Fault Refusal :=
  let s := if ecc then s.poisonCtx n else s
  match s.ctx? n with
  | none => done s
  | some x => if ¬ s.rootOf n ∧ ¬ x.firstSent ∧ s.flushAt n ≤ s.bxNs then done (s.sendPartial x false) else done s

/-- The enrolled, unfenced local dies of epoch n. -/
def State.expectedLocals (s : State) (n : Nat) : List Nat :=
  (List.range 64).filter (fun d => ((s.cfgOf n).mask? (s.dieAddr d)).isSome && !s.fencedFor (s.dieAddr d) n)

/-- PARTIAL_READY: every expected local die is classified and every child has sent its first partial. -/
def execPartialReady (n : Nat) (s : State) : Host.Outcome State Fault Refusal :=
  match s.ctx? n with
  | none => done s
  | some x =>
    let ready : Bool := (s.expectedLocals n).all (fun d => x.localSeen.contains d) && (s.childrenOf n).all (fun a => x.childFirst.contains a)
    if ¬ s.rootOf n ∧ ¬ x.firstSent ∧ ready then done (s.sendPartial x false) else done s

/-- SUPPLEMENT_PARTIAL: what has been merged since leaves, at most once per L/8 and before the horizon. -/
def execSupplementPartial (n : Nat) (s : State) : Host.Outcome State Fault Refusal :=
  match s.ctx? n with
  | none => done s
  | some x =>
    if ¬ s.rootOf n ∧ x.firstSent ∧ x.acc.dies ≠ [] ∧ x.lastSent + (s.schedOf n).len / 8 ≤ s.bxNs ∧ s.bxNs < s.horizonOf n then
      done (s.sendPartial x true)
    else done s

/-! ## Partials arrive (R221) -/

/-- A partial accepted at the root or a parent. -/
def State.takeReceived (s : State) (p : Partial) : State :=
  let s := s.bump BX_RED_CNT0_PARTIALS_RCVD
  if p.gen ≠ ((s.genOf p.epoch).map (fun (g : GenRec) => g.gen)).getD 0 then s.bump BX_RED_CNT1_GEN_MISMATCH
  else if s.committed p.epoch ∨ (s.rootOf p.epoch ∧ s.horizonOf p.epoch ≤ s.bxNs) then s.bump BX_EPC_DROP_CNT_LATE 0 p.body.dies.length
  else
    let s := s.keepReceived p
    match s.ctx? p.epoch with
    | none => s
    | some x => s.mergePartial x p

/-- PARTIAL_RECEIVE: a partial from src at port q. ecc: its merge meets an uncorrectable error of the accumulator. -/
def execPartialReceive (q src msgId : Nat) (p : Partial) (ecc : Bool) (s : State) : Host.Outcome State Fault Refusal :=
  let s := s.consume (.canopy q) 1 1
  if s.isLost src then done (s.bump BX_RED_CNT1_LOST_ORIGIN)
  else if ¬ p.recompute ∧ src ∉ s.childrenOf p.epoch then done (s.viol (.canopy q) 7)
  else
    let (fresh, s) := s.e2eTake src msgId
    if ¬ fresh then done s
    else if p.recompute ∧ ¬ s.rootOf p.epoch then
      done (s.sendMsg 1 1 3 (s.rootFor p.epoch) ((s.cfgOf p.epoch).partialBytes p) (some p.epoch) true)
    else
      let s := if ecc then s.poisonCtx p.epoch else s
      done (s.takeReceived p)

/-! ## Restart (R233, R302, R517) -/

/-- One item of MIRROR_RESTORE. -/
def State.restoreItem (s : State) (m : MirrorItem) : State :=
  match m with
  | .snapshot d n b =>
    if (s.held? d n).isSome then s
    else
      let x : IngEntry := { die := d, epoch := n, inc := snapInc b, gen := snapGen b, bytes := b, mirrored := true }
      let s := { s with red := { s.red with log := s.red.log ++ [x] } }
      if (s.ctx? n).isSome then s.classify d n b else s
  | .nextInc d i => (s.setDie d { s.die d with cur := prevInc i, next := i }).wr BX_LKO_DIE_INCARNATION d (prevInc i)
  | .state d mark lko x id => (s.restoreDie d (mark, lko, x, id)).lastTest id
  | .group g =>
    { s with cor := { s.cor with groups := (s.cor.groups.filter (fun (y : GroupState) => ¬ (y.home = g.home ∧ y.num = g.num))) ++ [g] } }
  | .keptPartial sent p =>
    let k : KeptPartial := { sent := sent, p := p }
    { s with red := { s.red with kept := s.red.kept ++ [k] } }
  | .record _ _ _ b => s.putRecord b

/-- MIRROR_RESTORE_RECEIVE: the mirror contents come back from the buddy. -/
def execMirrorRestoreReceive (q src msgId : Nat) (items : List MirrorItem) (s : State) : Host.Outcome State Fault Refusal :=
  let s := s.consume (.canopy q) 2 0
  let (fresh, s) := s.e2eTake src msgId
  if ¬ fresh then done s
  else
    let live : Bool := s.liveGen?.isSome
    let s : State := { s with red := { s.red with
      restarted := s.red.restarted || !live, recomputeTo := if live then some (max (s.red.recomputeTo.getD 0) s.bxEpoch) else s.red.recomputeTo } }
    let s := items.foldl (fun s m => s.restoreItem m) s
    done ((List.range 65).foldl (fun s d => s.advanceAck d) s.recomputeAll).releaseIncs

end Sys2Proof.Machine
end

