-- ==== Sys2Proof/Machine/Taproot.lean ====
section
/-! DEFINITION. Taproot, Heartwood and Windthrow (R485 to R514): the commands of the always-on island. The hang dump's completion, the
resets and the reactions to detections stand in Reset.lean and Detections.lean. -/
namespace Sys2Proof.Machine

/-- TAPROOT_TIME_LATCH (R487): every 1 us Taproot latches Ringcount; unanswered, the copy runs on Taproot's oscillator. -/
def execTaprootTimeLatch (answered : Bool) (s : State) : Host.Outcome State Fault Refusal :=
  done (if answered then { s with tap := { s.tap with copy := s.bxNs } }.wr BX_TAP_STS_TB_LOST 0 0
    else { s with tap := { s.tap with copy := s.tap.copy + 1000 } }.wr BX_TAP_STS_TB_LOST 0 1)

/-- TAP_KICK: a write of BX_TAP_KICK by the Warden's firmware restarts watchdog cause 0 (R489, R513). -/
def execTapKick (v : Nat) (s : State) : Host.Outcome State Fault Refusal :=
  done (if bitAt v 0 then { s with tap := { s.tap with kickAt := s.tapNs } } else s)

/-- The code of a watchdog (Tables 17-3 and 17-6): the table gives none for cause 2, so it is a free value. -/
def wedgeCode (cause : Nat) : Nat := if cause = 0 then 0x0F03 else if cause = 1 then 0x1301 else Config.epochWedgeCode % 65536

/-- HEARTWOOD_REQUEST (R501, R504): an event is signalled, if one is given, and Taproot writes the oldest waiting record. -/
def execHeartwoodRequest (ev : Option HwRec) (s : State) : Host.Outcome State Fault Refusal :=
  let s := match ev with
    | none => s
    | some r => s.signal r
  match s.tap.reqs with
  | [] => done s
  | r :: t => done ({ s with tap := { s.tap with reqs := t } }.hwWrite r)

/-- Taproot resets itself (code 0x1001 of Table 17-6): latches and the non-volatile array are kept; the JTAG TAP and the MCTP endpoint's
message in assembly start over. -/
def State.tapSelfReset (s : State) : State :=
  let s := { s with
    tap := { s.tap with jtag := {}, kickAt := s.tapNs }
    wdn := { s.wdn with mctp := { s.wdn.mctp with asm := none } } }
  s.signal { ty := 0x0005, source := 0x80 }

/-- TAPROOT_SELF_RESET. -/
def execTaprootSelfReset (s : State) : Host.Outcome State Fault Refusal := done s.tapSelfReset

/-! ## Reading and clearing Heartwood (R506 to R508) -/

/-- A record is returned by HW_READ: VALID, with a good CRC; every record the model holds is. In SEQ order. -/
def State.hwHeld (s : State) : List HwRec :=
  let all := s.tap.main ++ s.tap.prot
  (sortBy (fun a b => a.seq ≤ b.seq) all)

/-- HW_READ (0x0901): first index, count, DMA pointer. Over MCTP the pointer must be 0 and the records follow R0 (R473). -/
def execHwRead (c : Cap) (s : State) : Host.Outcome State Fault Refusal :=
  done (s.checked c 0x0901 (c.isOp || c.isMctp) 3 (fun s =>
    let rs := (s.hwHeld.filter (fun r => c.p 0 ≤ r.seq)).take (c.p 1)
    let bytes := rs.flatMap HwRec.bytes
    if c.isMctp then
      if c.p 2 ≠ 0 then (s.bump BX_VIOL_MCTP_UNSUP).reply c 0x0901 S_BADPARAM [] 0xF4
      else s.reply c 0x0901 S_OK (rs.length :: leWords bytes)
    else s.reply c 0x0901 S_OK [rs.length] 0 (some (c.p 2, bytes))))

/-- The key held in the operator key slot: Plovma's fused key in BLANK and RETURN (R528). -/
def State.heldKey (s : State) : Nat :=
  if s.rd BX_LC_STS_STATE = 0 ∨ s.rd BX_LC_STS_STATE = 3 then Config.plovmaKey else s.tap.opKey

/-- The first authorization check that fails, judged in the order of R507; the NONCE advances by every check made. blk is the block of
Table 17-11 read through the DMA pointer. -/
def State.authorized (s : State) (command : Nat) (blk : Bytes) : Bool × State :=
    let ok : Bool := rdLe blk 0 4 = 0x48545541 && rdLe blk 4 2 = command && rdLe blk 8 8 = s.rd BX_CNP_DEV_UID_DEV_UID &&
    rdLe blk 16 8 = s.rd BX_HW_AUTH_NONCE && s.tapNs ≤ rdLe blk 24 8 &&
    Config.ecdsaOk s.heldKey (sliceBytes blk 0 64) (sliceBytes blk 64 64)
  (ok, s.wr BX_HW_AUTH_NONCE 0 (s.rd BX_HW_AUTH_NONCE + 1))

/-- HW_CLEAR (0x0902): the main ring up to ARG is erased, and HW_CLEARED written with EXTRA = ARG and SNAP0 = the NONCE used (R508). -/
def execHwClear (c : Cap) (s : State) : Host.Outcome State Fault Refusal :=
  done (s.checked c 0x0902 c.isOpPcie 1 (fun s =>
    let nonce := s.rd BX_HW_AUTH_NONCE
    let (ok, s) := s.authorized 0x0001 c.data
    if ok then
      let arg := rdLe c.data 32 8
      let s := { s with tap := { s.tap with main := s.tap.main.filter (fun r => ¬ r.seq ≤ arg) } }
      let s := s.signal { ty := 0x0102, source := 0x80, extra := arg, snaps := [(true, nonce)] }
      s.reply c 0x0902 S_OK
    else s.reply c 0x0902 S_DENIED))

/-- SAFETY_STATUS (0x0903): the status registers of the safety chapter without an index, BX_SAF_STS and BX_TAP_STS (log entry 12). -/
def execSafetyStatus (c : Cap) (s : State) : Host.Outcome State Fault Refusal :=
  done (s.checked c 0x0903 (c.isOp || c.isMctp) 0 (fun s =>
    s.reply c 0x0903 S_OK [s.readReg .BX_SAF_STS, s.readReg .BX_TAP_STS]))

/-- The bytes of the held hang dump, 64 KiB (Table 17-4). -/
def State.dumpBytes (s : State) : Bytes := (List.range 8192).flatMap (fun i => leBytes 8 (s.tap.dump.getD i 0))

/-- HANG_DUMP_READ (0x0904): a complete read of the held dump. -/
def execHangDumpRead (c : Cap) (s : State) : Host.Outcome State Fault Refusal :=
  done (s.checked c 0x0904 (c.isOp || c.isMctp) 1 (fun s =>
    if ¬ s.flag BX_TAP_STS_DUMP_HELD then s.reply c 0x0904 S_NOTNOW
    else if c.isMctp then
      if c.p 0 ≠ 0 then (s.bump BX_VIOL_MCTP_UNSUP).reply c 0x0904 S_BADPARAM [] 0xF4
      else (s.wr BX_TAP_STS_DUMP_READ 0 1).reply c 0x0904 S_OK (leWords s.dumpBytes)
    else (s.wr BX_TAP_STS_DUMP_READ 0 1).reply c 0x0904 S_OK [] 0 (some (c.p 0, s.dumpBytes))))

/-! ## JTAG (R492) -/

/-- FIELD state of the part (R529 numbering of BX_LC_STS.STATE). -/
def State.inField (s : State) : Bool := s.rd BX_LC_STS_STATE = 2

/-- RETIRED: JTAG answers IDCODE and BYPASS only (R531), so the other instructions select BYPASS (DEDUCED, log entry 22). -/
def State.retired (s : State) : Bool := s.rd BX_LC_STS_STATE = 4

/-- JTAG_EXTEST: the boundary scan drives the pins; in FIELD it acts as BYPASS, which returns one 0 bit and passes the rest on. -/
def execJtagExtest (bits_ : List Bool) (s : State) : Host.Outcome State Fault Refusal :=
  if s.inField ∨ s.retired then done ({ s with tap := { s.tap with jtag := { s.tap.jtag with ir := 0xFF } } }.emit (.tdo (false :: bits_.dropLast)))
  else done { s with tap := { s.tap with jtag := { s.tap.jtag with ir := 0x00, preload := bits_ } } }

/-- JTAG_IDCODE: MAJOR, 0xB064, Plovma's JEDEC identity (a free value), 1; shifted out least significant bit first. -/
def execJtagIdcode (s : State) : Host.Outcome State Fault Refusal :=
  let w := packFields [(28, 4, s.rd BX_SYS_ID_MAJOR), (12, 16, 0xB064), (1, 11, Config.jedecId), (0, 1, 1)]
  done ({ s with tap := { s.tap with jtag := { s.tap.jtag with ir := 0x01 } } }.emit (.tdo ((List.range 32).map (fun i => bitAt w i))))

/-- JTAG_SAMPLE_PRELOAD: the boundary cells take the given values; the pins sampled are those of the outside, so what is shifted out is
a free value of that length. -/
def execJtagSamplePreload (bits_ : List Bool) (s : State) : Host.Outcome State Fault Refusal :=
  if s.retired then done ({ s with tap := { s.tap with jtag := { s.tap.jtag with ir := 0xFF } } }.emit (.tdo (false :: bits_.dropLast)))
  else
  let (v, s) := s.draw bits_.length
  done ({ s with tap := { s.tap with jtag := { s.tap.jtag with ir := 0x02, preload := bits_ } } }.emit
    (.tdo ((List.range bits_.length).map (fun i => bitAt v i))))

/-- JTAG_HD_READ: the next 32-bit word of the held dump, least significant bit first, 0 when none is held; Update-DR advances one word.
Selecting the instruction starts at offset 0. The word past the last completes the read. -/
def execJtagHdRead (s : State) : Host.Outcome State Fault Refusal :=
  if s.retired then done ({ s with tap := { s.tap with jtag := { s.tap.jtag with ir := 0xFF } } }.emit (.tdo [false]))
  else
  let pos := if s.tap.jtag.ir = 0x30 then s.tap.jtag.pos else 0
  let w := if s.flag BX_TAP_STS_DUMP_HELD then bits (s.tap.dump.getD (pos / 2) 0) (pos % 2 * 32 + 31) (pos % 2 * 32) else 0
  let s := { s with tap := { s.tap with jtag := { s.tap.jtag with ir := 0x30, pos := pos + 1 } } }
  let s := if pos = 16383 ∧ s.flag BX_TAP_STS_DUMP_HELD then s.wr BX_TAP_STS_DUMP_READ 0 1 else s
  done (s.emit (.tdo ((List.range 32).map (fun i => bitAt w i))))

/-- JTAG_BYPASS: one bit, also for every code not assigned. -/
def execJtagBypass (bits_ : List Bool) (s : State) : Host.Outcome State Fault Refusal :=
  done ({ s with tap := { s.tap with jtag := { s.tap.jtag with ir := 0xFF } } }.emit (.tdo (false :: bits_.dropLast)))

/-! ## Windthrow (R509 to R511) -/

/-- The data bytes of a block of a Blaze unit of BX64, from its BLOCK field (Table 7-9). -/
def State.blzBlockBytes (s : State) (i : Nat) : Nat := 256 * 2 ^ s.rd BLZ_CFG_BLOCK i

/-- A target exists (Table 17-12): class and index. -/
def wtIndexOk (cls idx : Nat) : Bool :=
  match cls with
  | 0 => idx < 128
  | 1 => idx < 64 ∧ idx % 32 < 24
  | 2 => idx < 65536 ∧ 1 ≤ idx / 256 ∧ idx / 256 ≤ 18
  | 3 => if bitAt idx 15 then idx < 65536 ∧ bits idx 14 8 ≤ 64 ∧ bits idx 7 4 = 0 else idx < 32
  | _ => false

/-- An action and its argument are valid for a target (Table 17-12). -/
def State.wtArgOk (s : State) (cls idx action arg : Nat) : Bool :=
  match cls with
  | 0 | 1 =>
    action ≤ 4 ∧ (if action = wtCorrupt then arg < (if cls = 0 then 2048 else 4096)
      else if action = wtDelay then 1 ≤ arg ∧ arg ≤ 1000000 else arg = 0)
  | 2 => (action = wtParity ∨ action = wtPoison) ∧ arg = 0
  | 3 => (action = wtData ∧ (bitAt idx 15 ∨ arg < 8 * s.blzBlockBytes (16 + idx))) ∨ (action = wtCheck ∧ arg < 64)
  | _ => false

/-- A target lies in a ZX40: the local die index and unit. -/
def wtZx? (cls idx : Nat) : Option (Nat × Nat) := if cls = 3 ∧ bitAt idx 15 then some (bits idx 14 8, bits idx 3 0) else none

/-- WT_ARM (0x0F01): class, index, action, argument, count. A ZX40 unit is armed with ZX_WT_SET, whose reply answers the capsule. -/
def execWtArm (c : Cap) (s : State) : Host.Outcome State Fault Refusal :=
  done (s.checked c 0x0F01 (c.isOpPcie && s.rd BX_LC_STS_STATE ≠ 4) 5 (fun s =>
    let (cls, idx, action, arg, count) := (c.p 0, c.p 1, c.p 2, c.p 3, c.p 4)
    if wtIndexOk cls idx && s.wtArgOk cls idx action arg && 1 ≤ count && count ≤ 64 then
      let s := s.wtArm (wtTarget cls idx) action arg count
      match wtZx? cls idx with
      | none => s.reply c 0x0F01 S_OK
      | some z => s.zxSend z.1 0x0F10 [z.2, if action = wtData then 1 else 2, arg, count] (some (0x0F01, c))
    else s.reply c 0x0F01 S_BADPARAM))

/-- An injector disarms, at its ZX40 as well. -/
def State.wtOff (s : State) (tgt : Nat) : State :=
  if s.flag BX_WT_INJ_ARMED tgt then
    let s := s.wtDisarm tgt
    match wtZx? (tgt / 65536) (tgt % 65536) with
    | none => s
    | some z => s.zxInternal z.1 0x0F10 [z.2, 0, 0, 1]
  else s

/-- WT_DISARM (0x0F02): class and index, or 0xFFFF for all. -/
def execWtDisarm (c : Cap) (s : State) : Host.Outcome State Fault Refusal :=
  done (s.checked c 0x0F02 (c.isOpPcie && s.rd BX_LC_STS_STATE ≠ 4) 1 (fun s =>
    let s := if c.p 0 = 0xFFFF then s.wtArmed.foldl (fun s t => s.wtOff t) s else s.wtOff (wtTarget (c.p 0) (c.p 1))
    s.reply c 0x0F02 S_OK))

/-- WT_STATUS (0x0F03): the armed injections at REPLY_PTR, two words each: target, and BX_WT_INJ (log entry 13). -/
def execWtStatus (c : Cap) (s : State) : Host.Outcome State Fault Refusal :=
  done (s.checkedPtr c 0x0F03 (c.isOpPcie && s.rd BX_LC_STS_STATE ≠ 4) 0 (fun s =>
    s.replyBlob c 0x0F03 S_OK (wordBytes (s.wtArmed.flatMap (fun t => [t, s.readReg .BX_WT_INJ t])))))

end Sys2Proof.Machine
end

