-- ==== Sys2Proof/Machine/Reset.lean ====
section
/-! DEFINITION. Reset, power and life cycle of BX64 (R515 to R532): what survives (Table 18-6), cold and warm resets, the Clearing,
bring-up, the power states, the transitions of the life cycle, and the completion of the hang dump (R491). -/
namespace Sys2Proof.Machine

/-! ## Survival (Table 18-6) -/

/-- The resets of the whole of BX64: cold; cold under AUTO_RESET = 2, which keeps a held hang dump; warm; warm from P3; the warm reset
of a life-cycle transition. -/
inductive ResetKind where
  | cold | coldDump | warm | p3Exit | lifeCycle
  deriving DecidableEq, Repr

/-- A cold reset. -/
def ResetKind.isCold : ResetKind → Bool
  | .cold | .coldDump => true
  | _ => false

/-- A register key is one of these fields of instance 0. -/
def keyIn (fs : List Fld) (key : Nat) : Bool := fs.any (fun f => f.key 0 == key)

/-- A register key is of BX64's timebase. -/
def tbKey (key : Nat) : Bool :=
  keyOf [.BX_TB_SRC, .BX_TB_TOD, .BX_TB_PPS] key ||
    (keyOf [.TB_NOW_NS, .TB_NOW_FRAC, .TB_STS, .TB_OFFSET, .TB_INC, .TB_SERVO] key && decide (1 ≤ key / 16384))

/-- A register key is BX_MEM_REGION.NEXT_SIZE, which the next Clearing applies (R416, R526). -/
def nextSizeKey (key : Nat) : Bool := keyOf [.BX_MEM_REGION] key && key % 64 == BX_MEM_REGION_NEXT_SIZE.lo

/-- The register fields of BX64 that every reset keeps: those held in Taproot's non-volatile array, the fused identity. -/
def keepAlways (key : Nat) : Bool :=
  keyOf [.BX_HW_STS, .BX_HW_AUTH, .BX_CNP_DEV_UID] key ||
    keyIn [BX_LC_STS_STATE, BX_LC_STS_TRANSITIONS, BX_WDN_FW_STS_MIN_SEC_VER, BX_CNP_IDENT_BOOT, BX_HW_CNT_OVERWRITTEN] key

/-- The register fields a warm reset keeps besides: RWS fields, the fence latches' register, BX_SAF_STS, BX_HW_CNT, the store's state. -/
def keepWarm (key : Nat) : Bool :=
  keyOf [.BX_CNP_FENCE, .BX_SAF_STS, .BX_HW_CNT] key ||
    keyIn [BX_CNP_IDENT_FLEET_ID, BX_CNP_IDENT_AGG_ID, BX_CNP_IDENT_ASSIGNED, BX_WDN_MCTP_ADDR, BX_WDN_FW_STS_STORE_VALID] key

/-- The register fields of BX64 kept by a reset; dump tells that a held hang dump is kept. NEXT_SIZE is at its Reset column after a cold reset
(R11), so that only the Clearing of a warm reset applies another. -/
def bxKeep (k : ResetKind) (dump : Bool) (key : Nat) : Bool :=
  keepAlways key || (!k.isCold && nextSizeKey key) || (dump && keyIn [BX_TAP_STS_DUMP_HELD, BX_TAP_STS_DUMP_READ] key) ||
    (!k.isCold && keepWarm key) || (k == .p3Exit && tbKey key)

/-- A held hang dump survives: not a cold reset but that of AUTO_RESET = 2, not a life-cycle change, and not once it has been read
completely (R491). -/
def State.dumpKept (s : State) (k : ResetKind) : Bool := k != .cold && k != .lifeCycle && !s.flag BX_TAP_STS_DUMP_READ

/-- What a reset leaves of a local die index: a warm reset keeps its fence (R524). -/
def DieId.fenceOnly (d : DieId) : DieId := { fence := d.fence, cause := d.cause, unfence := d.unfence }

/-- Taproot after a reset. -/
def Taproot.after (t : Taproot) (k : ResetKind) (dump : Bool) : Taproot :=
  let d := if dump then t.dump else []
  if k.isCold then { main := t.main, prot := t.prot, opKey := t.opKey, dump := d }
  else { t with dump := d, supEpoch := 0, sup := [], safEpoch := 0, safSent := [], kickAt := 0, wtDone := [], wtHeld := [] }

/-- The Warden after a reset: a warm reset keeps the firmware store and Taproot's MCTP endpoint. -/
def Warden.after (w : Warden) (k : ResetKind) : Warden :=
  if k.isCold then {} else { fw := { image := w.fw.image }, mctp := { w.mctp with unanswered := 0 } }

/-- The LEDGER_LOG2 of every tenant that the Clearing applies (R367). -/
def State.nextLogs (s : State) : SMap Nat :=
  ((List.range 64).map (fun t => (t, s.rd BX_CMT_TEN_POLICY_LEDGER_LOG2 t))).filter (fun x => x.2 ≠ 16)

/-- BX64 with every register group wiped, returned to its reset value or kept as its column of Table 18-6 says. ZX40, its queues and its
link end are not touched. -/
def State.bxWipe (s : State) (k : ResetKind) : State :=
  let dump := s.dumpKept k
  let logs := s.nextLogs
  let warm := !k.isCold
  let t := s.dropRegs (fun key => !zxKey key && !bxKeep k dump key)
  { t with
    bxTb := if k = .p3Exit then s.bxTb else {}
    pps := if k = .p3Exit then s.pps else {}
    tsrc := {}
    links := s.links.filter (fun (x : Nat × LinkEnd) => x.1 = 0)
    queues := s.queues.filter (fun (x : Nat × Queue) => x.2.part = .zx)
    ep := {
      dies := if warm then s.ep.dies.map (fun (x : Nat × DieId) => (x.1, x.2.fenceOnly)) else []
      restoreDue := s.ep.restoreDue || (s.mirrorHolder?.isSome && s.ep.dies.any (fun (x : Nat × DieId) => x.2.cur != 0)) }
    red := { restarted := s.red.restarted || s.liveGen?.isSome }
    cnp := { fences := if warm then s.cnp.fences else [] }
    grv := {}
    cor := {}
    wdn := s.wdn.after k
    tap := s.tap.after k dump
    hbm := {}
    egs := {}
    rpl := if warm then { retired := s.rpl.retired, katFailed := s.rpl.katFailed } else {}
    gate := { logs := logs } }

/-! ## Cold and warm reset (R516) -/

/-- RETIRED holds every domain outside Taproot in reset (R531); else a cold reset begins with the rails and a warm one with the
Clearing. -/
def State.firstPhase (s : State) (k : ResetKind) : Nat := if s.rd BX_LC_STS_STATE = 4 then 5 else if k.isCold then 1 else 4

/-- A cold or warm reset of BX64: its record, BOOT, the injectors, then everything outside Taproot. An update that runs leaves the store
invalid (Table 18-13). -/
def State.bxReset (s : State) (k : ResetKind) : State :=
  let s := s.signal { ty := if k.isCold then 0x0003 else 0x0004, source := 0x80 }
  let s := s.wr BX_CNP_IDENT_BOOT 0 (s.rd BX_CNP_IDENT_BOOT + 1)
  let s := if s.wdn.fw.updating.isSome then s.wr BX_WDN_FW_STS_STORE_VALID 0 0 else s
  let (n, s) := s.wtResetOff (fun _ => true)
  let up : PowerUp := {
    phase := s.firstPhase k, retried := s.up.retried, pcie := s.up.pcie && !k.isCold && k != .p3Exit, injOff := s.up.injOff + n
    restart := if k.isCold then [] else List.range 64 }
  { s.bxWipe k with up := up }

/-- The kind a warm reset has: from P3 the timebase keeps its state (R520). -/
def State.warmKind (s : State) : ResetKind := if s.rd BX_PWR_STS_PSTATE = 3 then .p3Exit else .warm

/-- A warm or cold reset the operator or board management asks for: answered, then begun. A transition under way serves a warm reset as
well (Table 18-13). The millisecond between the two is not kept (log entry 23). -/
def State.askedReset (s : State) (c : Cap) (k : ResetKind) : State :=
  let s := (s.reply c 0x0004 S_OK).writeReplies
  if s.up.lcNext.isSome ∧ ¬ k.isCold then s else s.bxReset k

/-- The checks SYS_RESET's kinds share: origin, and that P0 names the kind. -/
def State.sysReset (s : State) (c : Cap) (kind : Nat) (f : State → State) : State :=
  s.checked c 0x0004 (c.isOpPcie || (c.isMctp && kind ≤ 1)) 1 (fun s => if c.p 0 ≠ kind then s.reply c 0x0004 S_BADPARAM else f s)

/-- SYS_RESET (0x0004) WARM. -/
def execSysResetWarm (c : Cap) (s : State) : Host.Outcome State Fault Refusal :=
  done (s.sysReset c 0 (fun s => s.askedReset c s.warmKind))

/-- SYS_RESET (0x0004) COLD. -/
def execSysResetCold (c : Cap) (s : State) : Host.Outcome State Fault Refusal := done (s.sysReset c 1 (fun s => s.askedReset c .cold))

/-- POWER_ON: power starts a cold reset. -/
def execPowerOn (s : State) : Host.Outcome State Fault Refusal := done (s.bxReset .cold)

/-- RAIL_BELOW_MINIMUM: mechanism 0x1302 detects it and a cold reset follows (R496, R515). -/
def execRailBelowMinimum (s : State) : Host.Outcome State Fault Refusal :=
  done (if s.up.phase = 6 then s else (s.detect 0x1302 0x80 0).bxReset .cold)

/-- POWER_LOSS: every domain stops, Taproot's volatile storage included; the non-volatile array is kept. A transition that has not
reached step 4 of R530 leaves the old state. -/
def execPowerLoss (s : State) : Host.Outcome State Fault Refusal :=
  let s := (s.bxWipe .cold).dropRegs nextSizeKey
  done { s with gate := {}, up := { phase := 6 } }

/-! ## Ports and clusters (R515) -/

/-- The queues of BX64 that a port or cluster reset does not clear: an open packet is cancelled at the next push (R127; DEDUCED, log entry 117). -/
def State.keepQueues (s : State) : State :=
  { s with queues := s.queues.map (fun (x : Nat × Queue) => (x.1, if x.2.part = .bx then x.2.survive else x.2)) }

/-- A Stem or Canopy port's state returns to reset, its queues with it; its counters stay, and its injectors are off. CAPS commands that it loses are
answered (R136). -/
def State.portReset (s : State) (e : LinkId) : State :=
  let l := s.link e
  let s := match e with
    | .canopy q =>
      let s := l.wait.foldl (fun (s : State) (w : Nat × WaitFlit) => match w.2.fromPort with
        | some f => if f = q then s else s.freeBuf f w.1
        | none => s) s
      let s := s.setPstate q 0
      let s := s.dropRegs (fun k => keyOf [.BX_CNP_PORT_STS, .BX_CNP_PORT_SEQ] k && k / 16384 == q)
      (s.wr BX_CNP_PORT_CTRL_HOLD q 0).setPort q {}
    | .stem p =>
      let s := if (l.replay.any (fun h => h.body.ty = 4)) ∨ l.wait.any isCapsFlit then s.flushZx p else s
      { s.wr BX_STM_PORT_CTRL_HOLD p 0 with queues := s.queues.filter (fun (x : Nat × Queue) => x.1 / 8 ≠ crossQueue p 0 / 8) }
    | .zx => s
  let s := s.keepQueues.setLink e { lastChange := s.bxNs }
  let (n, s) := s.wtResetOff (fun t => (wtLink e true == some t) || (wtLink e false == some t))
  s.resetOff n

/-- SYS_RESET (0x0004) STEM_PORT, index 0 to 63. -/
def execSysResetStemPort (c : Cap) (s : State) : Host.Outcome State Fault Refusal :=
  done (s.sysReset c 2 (fun s => if 64 ≤ c.p 1 then s.reply c 0x0004 S_BADPARAM else (s.portReset (.stem (c.p 1))).reply c 0x0004 S_OK))

/-- SYS_RESET (0x0004) CANOPY_PORT, index 0 to 23. -/
def execSysResetCanopyPort (c : Cap) (s : State) : Host.Outcome State Fault Refusal :=
  done (s.sysReset c 3 (fun s => if 24 ≤ c.p 1 then s.reply c 0x0004 S_BADPARAM else (s.portReset (.canopy (c.p 1))).reply c 0x0004 S_OK))

/-- The jobs of a replay cluster's four contexts, running and parked, end with reason RESET (R340), its contexts are wiped, and the
injectors of its four Blaze units (Table 7-6) are off. -/
def State.clusterReset (s : State) (cl : Nat) : State :=
  let ks := (List.range 4).map (fun i => 4 * cl + i)
  let s := ks.foldl (fun s k => ((s.rctx k).run.toList ++ (s.rctx k).other.toList).foldl (fun s j => s.finishJob j oNotReplayed 6 cl) s) s
  let (n, s) := (ks.foldl (fun s k => s.setRctx k {}) s).keepQueues.wtResetOff (fun t => (List.range 4).any (fun i => t == wtTarget 3 (4 * cl + i)))
  s.resetOff n

/-- SYS_RESET (0x0004) CLUSTER, index 0 to 3. -/
def execSysResetCluster (c : Cap) (s : State) : Host.Outcome State Fault Refusal :=
  done (s.sysReset c 4 (fun s => if 4 ≤ c.p 1 then s.reply c 0x0004 S_BADPARAM else (s.clusterReset (c.p 1)).reply c 0x0004 S_OK))

/-! ## Bring-up (Table 18-8) -/

def State.setUp (s : State) (u : PowerUp) : State := { s with up := u }

/-- Bring-up goes to a step, or is held in reset. -/
def State.toPhase (s : State) (n : Nat) : State := s.setUp { s.up with phase := n }

/-- Step 5 fails: one further cold reset, then HBM_FAULT. -/
def State.hbmFail (s : State) : State :=
  if s.up.retried then (s.wr BX_PWR_STS_HBM_FAULT 0 1).toPhase 5 else (s.setUp { s.up with retried := true }).bxReset .cold

/-- BRINGUP_RAILS_UP: step 2; ok tells that each rail is in range. -/
def execBringupRailsUp (ok : Bool) (s : State) : Host.Outcome State Fault Refusal :=
  if s.up.phase ≠ 1 then done s else done (if ok then s.toPhase 2 else (s.wr BX_PWR_STS_RAIL_FAULT 0 1).toPhase 5)

/-- BRINGUP_PLL_LOCK: step 3. -/
def execBringupPllLock (ok : Bool) (s : State) : Host.Outcome State Fault Refusal :=
  if s.up.phase ≠ 2 then done s else done (if ok then s.toPhase 3 else (s.wr BX_PWR_STS_CLOCK_FAULT 0 1).toPhase 5)

/-- PCIE_LINK_UP: step 4. -/
def execPcieLinkUp (s : State) : Host.Outcome State Fault Refusal :=
  done (if 5 ≤ s.up.phase ∨ s.rd BX_PWR_STS_PSTATE = 3 then s else s.setUp { s.up with pcie := true })

/-- HBM_TRAINING_DONE: step 5 up to the Clearing. -/
def execHbmTrainingDone (ok : Bool) (s : State) : Host.Outcome State Fault Refusal :=
  if s.up.phase ≠ 3 then done s else done (if ok then s.toPhase 4 else s.hbmFail)

/-- BRINGUP_TIMEOUT: a step of Table 18-8 has not been done in its time. -/
def execBringupTimeout (step : Nat) (s : State) : Host.Outcome State Fault Refusal :=
  done (match step with
    | 1 => if s.up.phase = 1 then (s.wr BX_LC_STS_NVM_ERR 0 1).toPhase 5 else s
    | 2 => if s.up.phase = 1 then (s.wr BX_PWR_STS_RAIL_FAULT 0 1).toPhase 5 else s
    | 3 => if s.up.phase = 2 then (s.wr BX_PWR_STS_CLOCK_FAULT 0 1).toPhase 5 else s
    | 5 => if s.up.phase = 3 ∨ s.up.phase = 4 then s.hbmFail else s
    | _ => s)

/-- NEXT_SIZE is applied: each region's size, and the regions one after the other from granule 0 (R416). -/
def State.applySizes (s : State) : State :=
  let sizes := (List.range 6).map (fun r => s.rd BX_MEM_REGION_NEXT_SIZE r)
  (List.range 6).foldl (fun s r => (s.wr BX_MEM_REGION_SIZE r (sizes.getD r 0)).wr BX_MEM_REGION_BASE r ((sizes.take r).foldl (· + ·) 0)) s

/-- Step 4 of R530: the new state and its record; RETURN_PREP returns the identity, RETIRE erases both rings first (R505, R529). -/
def State.lcEnter (s : State) (new key : Nat) : State :=
  let old := s.rd BX_LC_STS_STATE
  let s := (s.wr BX_LC_STS_STATE 0 new).bump BX_LC_STS_TRANSITIONS
  let s := { s with tap := { s.tap with opKey := key } }
  let s := if new = 3 then
      ((s.wr BX_CNP_IDENT_FLEET_ID 0 BX_CNP_IDENT_FLEET_ID.reset).wr BX_CNP_IDENT_AGG_ID 0 BX_CNP_IDENT_AGG_ID.reset).wr BX_CNP_IDENT_ASSIGNED
        0 BX_CNP_IDENT_ASSIGNED.reset
    else s
  let s := if new = 4 then { s with tap := { s.tap with main := [], prot := [], reqs := [] } }.wr BX_HW_STS_NEXT_SEQ 0 0 else s
  s.signal { ty := 0x0101, source := 0x80, extra := old + 8 * new }

/-- CLEARING_DONE (R526, R516, R530): memories and keys are zero since the reset; the region sizes apply; the life-cycle transition under
way is completed; RESET_OFF; the Warden starts, or RECOVERY. -/
def execClearingDone (s : State) : Host.Outcome State Fault Refusal :=
  if s.up.phase ≠ 4 then done s
  else
    let s := s.applySizes
    let s := match s.up.lcNext with
      | none => s
      | some x => s.lcEnter x.1 x.2
    let s := s.wr BX_LC_STS_TRANSITIONING 0 0
    let s := s.resetOff s.up.injOff
    if s.rd BX_LC_STS_STATE = 4 then done (s.setUp { phase := 5 })
    else done ((s.setUp { s.up with phase := 0, retried := false, lcNext := none, injOff := 0 }).wardenStart 0)

/-! ## Power states (R518 to R522) -/

/-- A running or parked job is in some replay context. -/
def State.jobsRun (s : State) : Bool := (List.range 16).any (fun k => (s.rctx k).run.isSome || (s.rctx k).other.isSome)

/-- P2 is entered: the clusters are power-gated, their contexts and memories lost (Table 18-6). -/
def State.enterP2 (s : State) (c : Cap) : State :=
  let s := s.setUp { s.up with p2Wait := none }
  ({ s with rpl := { s.rpl with ctxs := [] } }.wr BX_PWR_STS_PSTATE 0 2).reply c 0x0005 S_OK

/-- P3 is entered: the reply leaves first, then PCIe and every link go down. -/
def State.enterP3 (s : State) (c : Cap) : State :=
  let s := (s.reply c 0x0005 S_OK).writeReplies
  let s := (s.links.filter (fun (x : Nat × LinkEnd) => x.1 ≠ 0)).foldl (fun s (x : Nat × LinkEnd) =>
    let e : LinkId := if x.1 < 66 then .stem (x.1 - 1) else .canopy (x.1 - 66)
    s.setLstate e .reset) s
  (s.setUp { s.up with pcie := false, p2Wait := none }).wr BX_PWR_STS_PSTATE 0 3

/-- POWER_SET (0x0005): P0 to P3. In P3 only a warm reset is taken (R520). -/
def execPowerSet (c : Cap) (s : State) : Host.Outcome State Fault Refusal :=
  if s.rd BX_PWR_STS_PSTATE = 3 then done s
  else done (s.checked c 0x0005 c.isOp 1 (fun s =>
    let z := c.p 0
    if 3 < z then s.reply c 0x0005 S_BADPARAM
    else if z = 3 ∧ s.rd BX_CNP_FAB_STS_ROLE ≠ 0 then s.reply c 0x0005 S_CONFLICT
    else if s.wdn.fw.updating.isSome ∨ s.flag BX_LC_STS_TRANSITIONING then s.reply c 0x0005 S_BUSY
    else if z = 3 then s.enterP3 c
    else if z = 2 then (if s.jobsRun then s.setUp { s.up with p2Wait := some c } else s.enterP2 c)
    else ((s.setUp { s.up with p2Wait := none }).wr BX_PWR_STS_PSTATE 0 z).reply c 0x0005 S_OK))

/-- P2_ENTRY: the running jobs have ended, and P2 is entered. -/
def execP2Entry (s : State) : Host.Outcome State Fault Refusal :=
  match s.up.p2Wait with
  | none => done s
  | some c => done (if s.jobsRun then s else s.enterP2 c)

/-- POWER_THROTTLE: the power averaged over 1 ms, in W. Above LIMIT_W xclk falls by one sixteenth, at or below it xclk rises by one up to
its full rate (how it recovers is a DESIGN CHOICE, log entry 24). -/
def execPowerThrottle (w : Nat) (s : State) : Host.Outcome State Fault Refusal :=
  let s := s.wrSat BX_PWR_STS_POWER_W 0 w
  let x := if s.rd BX_PWR_LIMIT_LIMIT_W < w then s.up.xclk - 1 else min 16 (s.up.xclk + 1)
  let s := s.setUp { s.up with xclk := x }
  let s := s.wr BX_PWR_STS_THROTTLE 0 (b2n (x < 16))
  done (if x < 16 then s.bump BX_PWR_STS_THROTTLE_MS else s)

/-! ## Life cycle (R528 to R534) -/

/-- LC_STATUS (0x0A01): BX_LC_STS. -/
def execLcStatus (c : Cap) (s : State) : Host.Outcome State Fault Refusal :=
  done (s.checked c 0x0A01 (c.isOp || c.isMctp) 0 (fun s => s.reply c 0x0A01 S_OK [s.readReg .BX_LC_STS]))

/-- The COMMAND of Table 18-10 for a transition, none where it is not permitted. -/
def lcCommand (old new : Nat) : Option Nat :=
  if old = 4 then none
  else if new = 4 then some 0x0015
  else match old, new with
    | 0, 1 => some 0x0010
    | 1, 2 => some 0x0011
    | 2, 1 => some 0x0012
    | 1, 3 => some 0x0013
    | 2, 3 => some 0x0013
    | 3, 0 => some 0x0014
    | 2, 2 => some 0x0016
    | _, _ => none

/-- The transition begins (R530): TRANSITIONING, the reply, the warm reset. -/
def State.lcBegin (s : State) (c : Cap) (new key : Nat) : State :=
  let s := ((s.wr BX_LC_STS_TRANSITIONING 0 1).reply c 0x0A02 S_OK).writeReplies
  let s := s.bxReset .lifeCycle
  (s.wr BX_LC_STS_TRANSITIONING 0 1).setUp { s.up with lcNext := some (new, key) }

/-- LC_TRANSITION (0x0A02): target state; DMA pointer to the authorization block, which over MCTP is 0 with the block in the parameter
block. -/
def execLcTransition (c : Cap) (s : State) : Host.Outcome State Fault Refusal :=
  done (s.checked c 0x0A02 (c.isOpPcie || c.isMctp) 2 (fun s =>
    let new := c.p 0
    let blk := if c.isMctp then wordBytes (c.params.drop 2) else c.data
    match lcCommand (s.rd BX_LC_STS_STATE) new with
    | none => s.reply c 0x0A02 S_BADPARAM
    | some cmd =>
      if c.isMctp ∧ c.p 1 ≠ 0 then (s.bump BX_VIOL_MCTP_UNSUP).reply c 0x0A02 S_BADPARAM [] 0xF4
      else if s.flag BX_LC_STS_TRANSITIONING then s.reply c 0x0A02 S_BUSY
      else
        let (ok, s) := s.authorized cmd blk
        let key := sliceBytes blk 128 64
        let keyOk : Bool := cmd ≠ 0x0010 || sliceBytes blk 32 8 = (sha256 key).take 8
        if ¬ ok ∨ ¬ keyOk then s.reply c 0x0A02 S_DENIED
        else if cmd = 0x0016 then
          match s.localDie? (rdLe blk 32 8) with
          | none => s.reply c 0x0A02 S_BADPARAM
          | some p => (s.zxInternal p 0x0A10 [3]).reply c 0x0A02 S_OK
        else s.lcBegin c new (if cmd = 0x0010 then beNat key else if new = 3 then 0 else s.tap.opKey)))

/-! ## The hang dump is complete (R490, R491) -/

/-- The words of the dump at their word offsets (Table 17-4), but for the timeout map: branches are the Warden's last taken ones, newest
first, source and target. -/
def State.dumpWords (s : State) (at_ causes seq timedOut : Nat) (branches : List (Nat × Nat)) : List (Nat × Nat) :=
  let place (off : Nat) (ws : List Nat) : List (Nat × Nat) := ws.mapIdx (fun i w => (off / 8 + i, w))
  let regs (r : Reg) (first n : Nat) : List Nat := (List.range n).map (fun i => s.readReg r (first + i))
  let qs := ((s.queues.filter (fun (x : Nat × Queue) => x.2.part = .bx)).map (fun (x : Nat × Queue) => s.readReg .BX_Q_STS x.1)).take 1024
  let qp (i : Nat) : Nat := s.readReg .BX_WDN_QP_STS i / 2 ^ 32
  place 0 [stampNs at_, packFields [(48, 16, stampFrac at_), (16, 32, s.rd BX_CNP_IDENT_BOOT), (0, 3, causes)], seq * 2 ^ 32 + timedOut] ++
  place 0x40 [s.readReg .BX_TAP_STS, s.readReg .BX_WDN_FW_STS, s.readReg .BX_EPC_STATE, s.readReg .BX_EPC_CURRENT, s.readReg .TB_STS 1,
    s.readReg .BX_RPL_STS, s.readReg .BX_CMT_STS, s.readReg .BX_CNP_FAB_STS] ++
  place 0x200 ((branches.take 256).map (fun b => b.1 % 2 ^ 32 * 2 ^ 32 + b.2 % 2 ^ 32)) ++
  place 0xA00 (regs .STM_STS 1 64) ++ place 0xC00 (regs .BX_CNP_PORT_STS 0 24) ++ place 0xCC0 (regs .BX_CNP_PORT_SEQ 0 24) ++
  place 0xD80 (regs .BX_RPL_CTX 0 16) ++ place 0x1000 qs ++ place 0x3000 (regs .BX_DMA_CH_STS 0 128) ++
  place 0x3400 ((List.range 128).map (fun i => qp (2 * i) + qp (2 * i + 1) * 2 ^ 32))

/-- Words that were not answered read all ones, and the timeout map names them. -/
def dumpTimeouts (ws : List (Nat × Nat)) (late : List Nat) : SMap Nat :=
  let m : SMap Nat := late.foldl (fun (m : SMap Nat) i => SMap.set m i (2 ^ 64 - 1)) ws
  let m : SMap Nat := late.foldl (fun (m : SMap Nat) i =>
    let k := 0x3800 / 8 + i / 64
    let w := SMap.getD m k 0
    SMap.set m k (if bitAt w (i % 64) then w else w + 2 ^ (i % 64))) m
  m.filter (fun x => x.2 ≠ 0)

/-- AUTO_RESET once a dump is held (R490): 1 a warm reset, 2 a cold one that keeps the dump. -/
def State.autoReset (s : State) : State :=
  match s.rd BX_TAP_CTRL_AUTO_RESET with
  | 1 => if s.up.lcNext.isSome then s else s.bxReset s.warmKind
  | 2 => s.bxReset .coldDump
  | _ => s

/-- A watchdog of Table 17-3 has expired and the wedge of this expiry is not declared yet: no kick for WDOG_US; a domain that does not toggle,
which Taproot's monitor tells; while the schedule runs, an epoch that does not advance, which the command tells, for the model's epoch is
that of Ringcount. -/
def State.expired (s : State) (i : Nat) : Bool :=
  match i with
  | 0 => s.tap.wdogKick ≠ some s.tap.kickAt && decide (s.tap.kickAt + max 100 (s.rd BX_TAP_CTRL_WDOG_US) * 1000 ≤ s.tapNs)
  | 2 => s.tap.wdogEpoch ≠ some s.bxEpoch && s.running
  | _ => true

/-- WEDGE_DECLARE (R489, R490): one wedge for the watchdogs that expire in this Taproot tick, of those that the command names. A dump already
held lets AUTO_RESET act at once (DEDUCED, log entry 123). -/
def execWedgeDeclare (causes : Nat) (s : State) : Host.Outcome State Fault Refusal :=
  let cs := (List.range 3).filter (fun i => bitAt causes i && s.expired i)
  match cs with
  | [] => done s
  | c :: _ =>
    let s := { s with tap := { s.tap with
      wdogKick := if cs.contains 0 then some s.tap.kickAt else s.tap.wdogKick
      wdogEpoch := if cs.contains 2 then some s.bxEpoch else s.tap.wdogEpoch } }
    let cause := cs.foldl (fun a i => a + 2 ^ i) 0
    let s := (s.wr BX_TAP_STS_WEDGED 0 1).wr BX_TAP_STS_CAUSE 0 cause
    let s := cs.foldl (fun s i => s.detect (wedgeCode i) 0x80 i) s
    let seq := s.rd BX_HW_STS_NEXT_SEQ
    let s := s.signal { ty := 0x0001, source := 0x80, idx := c, detail := wedgeCode c }
    if s.flag BX_TAP_STS_DUMP_HELD then done (s.bump BX_TAP_STS_DUMP_MISSED).autoReset
    else if s.tap.dumpPend.isSome then done (s.bump BX_TAP_STS_DUMP_MISSED)
    else done { s with tap := { s.tap with dumpPend := some (s.tapRc, cause, seq) } }

/-- BX_HANG_DUMP_HELD: Taproot has taken the dump; late are the word offsets that timed out. Then AUTO_RESET. -/
def execBxHangDumpHeld (branches : List (Nat × Nat)) (late : List Nat) (s : State) : Host.Outcome State Fault Refusal :=
  match s.tap.dumpPend with
  | none => done s
  | some (at_, causes, seq) =>
    let late := late.filter (fun i => i < 0x3800 / 8)
    let d := dumpTimeouts (s.dumpWords at_ causes seq late.length branches) late
    let s := { s with tap := { s.tap with dump := d, dumpPend := none } }
    let s := (s.wr BX_TAP_STS_DUMP_HELD 0 1).wr BX_TAP_STS_DUMP_READ 0 0
    let s := s.signal { ty := 0x0002, source := 0x80, extra := late.length }
    done s.autoReset

end Sys2Proof.Machine
end

