-- ==== Sys2Proof/Machine/Detections.lean ====
section
/-! DEFINITION. Safety detections and latent tests (R493 to R500): the report, and the reaction of Table 17-6. The failures that a
subsystem's own command meets (a bad CRC, a poisoned operand, an outvoted unit) react where that command stands; here stand those that come
on their own. -/
namespace Sys2Proof.Machine

/-- The subsystem number of a mechanism (Tables 8-1 and 17-6): the high byte of its code, 0x80 for Taproot and its monitors. -/
def mechSys (code : Nat) : Nat := if 0x10 ≤ code / 256 ∧ code / 256 ≠ 0x11 ∧ code / 256 ≠ 0x12 then 0x80 else code / 256

/-- The reaction of a ZX40 mechanism. args: for 0x4001 1 when the error lies in the live Grove-S bank; for 0x4002 the epoch. -/
def State.zxReact (s : State) (code : Nat) (args : List Nat) : State :=
  match code with
  | 0x4001 =>
    if args.getD 0 0 = 1 then (({ s with zx := { s.zx with grsErr := true } }).wr ZX_GRS_STS_IMG_ERR 0 1).ls 0xB5 else s
  | 0x4002 =>
    let n := args.getD 0 0
    { s with zx := { s.zx with log := s.zx.log.filter (fun (e : LogEntry) => e.epoch ≠ n), unsent := s.zx.unsent.filter (fun m => m ≠ n) } }
  | 0x4004 | 0x4008 => (s.setTb 0 { s.zx.tb with state := .unlocked, goodRun := 0, badRun := 0 }).bump TB_STS_LOCK_LOSSES 0
  | 0x4006 => s.wr ZX_GRS_RESULT_VALID 0 0
  | _ => s

/-- R303: the entry of the correlator that held the error. args: 0, channel and bin of a drift bin; 1, home, group and member of a lag
score; 2 a mark word or test state, which comes back as the mirror holds it, if it holds one. -/
def State.corrEcc (s : State) (d : Nat) (args : List Nat) : State :=
  let s := match args.getD 0 0 with
    | 0 =>
      let x := s.corDie d
      let bins : SMap (Nat × Nat) := SMap.getD x.drift (args.getD 1 0) []
      s.setCorDie d { x with drift := SMap.set x.drift (args.getD 1 0) (SMap.erase bins (args.getD 2 0)) }
    | 1 =>
      { s with cor := { s.cor with groups := s.cor.groups.map (fun (g : GroupState) =>
        if g.home = args.getD 1 0 ∧ g.num = args.getD 2 0 then
          { g with members := g.members.map (fun (m : Nat × LagVal) =>
            if m.1 = args.getD 3 0 then (m.1, { m.2 with s := 32768, count := 0 }) else m) }
        else g) } }
    | _ =>
      match s.cor.atMirror.find? d with
      | some x => s.restoreDie d x
      | none => s
  s.signal { ty := 0x0604, source := 6, idx := d, detail := args.getD 0 0, extra := d }

/-- The oldest reply formed becomes S_TIMEOUT (0x0F04). -/
def State.replyTimeout (s : State) : State :=
  match s.wdn.replies with
  | [] => s
  | r :: t => ({ s with wdn := { s.wdn with replies := { r with status := S_TIMEOUT, reason := 0, results := [], hostWrite := none } :: t } }).bump
      BX_WDN_CNT1_TIMEOUTS

/-- The Warden restarts as under R479. -/
def State.wardenFail (s : State) : State := s.setFw { s.wdn.fw with restartDue := true }

/-- The descriptor in progress of a channel halts with XLATE, cause TABLE_POISON. -/
def State.dmaEcc (s : State) (c : Nat) : State :=
  match (s.chan c).desc with
  | none => s
  | some d => if s.rd BX_DMA_CH_STS_STATE c = 1 then s.dmaHalt c d 1 2 else s

/-- The gate's state that held the error (R369). args: 0, job, step and attempt; 1 and a job; 2, tenant and SEQ of a ledger entry. -/
def State.gateEcc (s : State) (args : List Nat) : State :=
  match args.getD 0 0 with
  | 0 => s.stepFault (args.getD 1 0) (args.getD 2 0) (args.getD 3 0)
  | 1 => s.jobFault (args.getD 1 0)
  | _ => s.entryFault (args.getD 1 0) (args.getD 2 0)

/-- The reaction of a BX64 mechanism at a unit, port or entry. args: the epoch for 0x0301, the address for 0x0A01, with the die and the
epoch of the held snapshot it lies in, if any, else as the reaction says. -/
def State.bxReact (s : State) (code idx : Nat) (args : List Nat) : State :=
  match code with
  | 0x0202 => if idx < 24 then (s.retrain (.canopy idx)).recompute else s
  | 0x0301 => s.poisonCtx (args.getD 0 0)
  | 0x0601 => s.corrEcc idx args
  | 0x0701 => if idx < 256 then s.retireUnit 0 idx else s
  | 0x0801 => s.gateEcc args
  | 0x0A01 =>
    let s := if args.getD 0 0 < hbmGranules * granule then s.hbmPoison (args.getD 0 0) 1 else s
    if args.length = 3 then s.dropHeld (args.getD 1 0) (args.getD 2 0) else s
  | 0x0B01 => if idx < 128 then s.dmaEcc idx else s
  | 0x0C01 => { s with egs := { s.egs with stuck := addMark s.egs.stuck idx } }
  | 0x0D01 => (s.setTb 1 { s.bxTb with state := .unlocked, goodRun := 0, badRun := 0 }).bump TB_STS_LOCK_LOSSES 1
  | 0x0F01 | 0x0F02 => s.wardenFail
  | 0x0F04 => s.replyTimeout.wardenFail
  | 0x1001 => s.tapSelfReset
  | 0x1302 => s.bxReset .cold
  | _ => s

/-- A ZX40's report (R498): HEARTWOOD_REQ with DETAIL 0xFF and the code's low byte; Grove-S sends none (R270). -/
def State.zxReport (s : State) (code idx : Nat) : State :=
  if code = 0x4006 then s else s.zxAlarm 0x10 (0xFF00 + code % 256) (idx % 2 ^ 22)

/-- DEGRADED, until cold reset (R499). -/
def State.degrade (s : State) (d : Bool) : State := if d then s.wr BX_SAF_STS_DEGRADED 0 1 else s

/-- SAFETY_DETECTION: a mechanism of Table 17-6 detects a fault at index idx, of a local die for one that concerns it; inj tells that the
event coincides with an injection; degraded that the reaction cannot take the unit from service. -/
def execSafetyDetection (code idx : Nat) (args : List Nat) (die : Option Nat) (inj degraded : Bool) (s : State) :
    Host.Outcome State Fault Refusal :=
  if code / 256 = 0x40 then done ((s.zxReport code idx).zxReact code args)
  else done (((s.detect code (mechSys code) idx die inj).degrade degraded).bxReact code idx args)

/-- LATENT_TEST (R500): a checker has been exercised with a fault pattern. A failure is recorded, alarmed and counted, and the checked unit
handled as if it had detected a fault. -/
def execLatentTest (code idx : Nat) (args : List Nat) (pass degraded : Bool) (s : State) : Host.Outcome State Fault Refusal :=
  if pass then done s
  else if code / 256 = 0x40 then done ((s.zxReport code idx).zxReact code args)
  else
    let sys := mechSys code
    let s := (s.safAlarm code sys idx none).bump BX_SAF_STS_LATENT_FAILS
    let s := s.signal { ty := 0x0202, source := sys, idx := idx, detail := code, extra := s.safExtra sys idx none }
    done ((s.degrade degraded).bxReact code idx args)

end Sys2Proof.Machine
end

