-- ==== Sys2Proof/Machine/Egress.lean ====
section
/-! DEFINITION. The egress scheduler (chapter 15): buckets and refills, releases with their virtual time, and its opcodes. -/
namespace Sys2Proof.Machine

def State.setEgs (s : State) (e : Egress) : State := { s with egs := e }

/-! ## Buckets (R445 to R447) -/

/-- The rate that is unlimited. -/
def unlimited : Nat := 0xFFFFFF

/-- A level is at least 0; an unlimited bucket always conforms. -/
def conforms (rate level : Nat) : Bool := rate = unlimited || decide (0 ≤ toSigned 32 level)

/-- A level after a charge of n bytes; an unlimited bucket is never charged. -/
def charged (rate level n : Nat) : Nat := if rate = unlimited then level else ofSigned 32 (toSigned 32 level - n)

/-- Subscriber i is committed-eligible, or peak-eligible. -/
def State.committedOk (s : State) (i : Nat) : Bool :=
  s.rd BX_EGS_SUB_CFG_CIR i ≠ 0 && conforms (s.rd BX_EGS_SUB_CFG_CIR i) (s.rd BX_EGS_SUB_LVL_C_LEVEL i)
def State.peakOk (s : State) (i : Nat) : Bool :=
  !s.committedOk i && conforms (s.rd BX_EGS_SUB_CFG_PIR i) (s.rd BX_EGS_SUB_LVL_P_LEVEL i)

/-- A release of n bytes is charged (R446). -/
def State.charge (s : State) (sub svc n : Nat) : State :=
  let com := s.committedOk sub
  let s := s.wr BX_EGS_SVC_LVL_LEVEL svc (charged (s.rd BX_EGS_SVC_CFG_RATE svc) (s.rd BX_EGS_SVC_LVL_LEVEL svc) n)
  let s := s.wr BX_EGS_SUB_LVL_P_LEVEL sub (charged (s.rd BX_EGS_SUB_CFG_PIR sub) (s.rd BX_EGS_SUB_LVL_P_LEVEL sub) n)
  if com then s.wr BX_EGS_SUB_LVL_C_LEVEL sub (charged (s.rd BX_EGS_SUB_CFG_CIR sub) (s.rd BX_EGS_SUB_LVL_C_LEVEL sub) n) else s

/-- A level after a refill: pending debt cleared, then the rate added up to the burst. -/
def refilled (rate burst level : Nat) (clear : Bool) : Nat :=
  if rate = unlimited then burst
  else
    let l := toSigned 32 level
    ofSigned 32 (min ((if clear then max l 0 else l) + rate) burst)

/-- Services and subscribers of a port (Table 15-1). -/
def portSvcs (q : Nat) : List Nat := if q = 24 then List.range 8 else [3, 4, 5, 6, 7]
def portSubs (q : Nat) : List Nat := if q = 24 then List.range 120 else [3, 4, 5, 6, 7]

/-- A 64-bit word written to the fields of a register. -/
def State.putWord (s : State) (r : Reg) (i w : Nat) : State := (Reg.fields r).foldl (fun s (f : Fld) => s.wr f i (bits w f.hi f.lo)) s

/-- A subscriber's refill. -/
def State.refillSub (s : State) (q u : Nat) : State :=
  let i := q * 64 + u
  let s := match s.egs.sub.find? i with
    | none => s
    | some w => (s.putWord .BX_EGS_SUB_CFG i w.1).putWord .BX_EGS_SUB_BURST i w.2
  let clear := s.egs.clearSub.contains i
  let s := if clear then s.bump BX_EGS_PORT_CNT_DEBT_CLEARS q 2 else s
  let c := refilled (s.rd BX_EGS_SUB_CFG_CIR i) (s.rd BX_EGS_SUB_BURST_CBS i) (s.rd BX_EGS_SUB_LVL_C_LEVEL i) clear
  let p := refilled (s.rd BX_EGS_SUB_CFG_PIR i) (s.rd BX_EGS_SUB_BURST_PBS i) (s.rd BX_EGS_SUB_LVL_P_LEVEL i) clear
  (s.wr BX_EGS_SUB_LVL_C_LEVEL i c).wr BX_EGS_SUB_LVL_P_LEVEL i p

/-- A service's refill. -/
def State.refillSvc (s : State) (q v : Nat) : State :=
  let i := q * 8 + v
  let s := match s.egs.svc.find? i with
    | none => s
    | some w => (s.putWord .BX_EGS_SVC_CFG i w).wr BX_EGS_SVC_CFG_WEIGHT i (max 1 (bits w 15 8))
  let clear := s.egs.clearSvc.contains i
  let s := if clear then s.bump BX_EGS_PORT_CNT_DEBT_CLEARS q else s
  s.wr BX_EGS_SVC_LVL_LEVEL i (refilled (s.rd BX_EGS_SVC_CFG_RATE i) (s.rd BX_EGS_SVC_CFG_BURST i) (s.rd BX_EGS_SVC_LVL_LEVEL i) clear)

/-! ## Units waiting (R442, R443) -/

/-- Channel c has a released-to-be unit: a chunk for the host that waits for its release. -/
def State.chanUnit (s : State) (c : Nat) : Bool :=
  s.rd BX_DMA_CH_STS_STATE c = 1 && !(s.egs.grants.getD 24 []).contains c &&
    (match (s.chan c).desc with
      | none => false
      | some d => dToHost d && !s.dBad c d && decide (0 < s.chunkLen d))

/-- Subscriber u of port q has a unit waiting: on a Canopy port a flit of its VC while the port is ACTIVE. -/
def State.unitWaits (s : State) (q u : Nat) : Bool :=
  if q = 24 then s.chanUnit u
  else
    let l := s.link (.canopy q)
    l.lstate = .active && !(s.egs.grants.getD q []).contains u && (s.vcNext q u).isSome

/-- The service of a subscriber. -/
def State.svcOf (s : State) (q u : Nat) : Nat := if q = 24 then s.rd BX_EGS_SUB_CFG_SERVICE (q * 64 + u) else u

/-- The class of a service in a window's MASK. -/
def gateCls (q v : Nat) : Nat := if q = 24 then 0 else v

/-- Subscriber u's unit meets conditions 1, 2 and 4 of R443; com and peak tell which eligibility counts. -/
def State.conformsUnit (s : State) (q u : Nat) (com peak : Bool) : Bool :=
  let i := q * 64 + u
  let v := s.svcOf q u
  s.unitWaits q u && ((com && s.committedOk i) || (peak && s.peakOk i)) &&
    conforms (s.rd BX_EGS_SVC_CFG_RATE (q * 8 + v)) (s.rd BX_EGS_SVC_LVL_LEVEL (q * 8 + v)) &&
    (q = 24 || (s.port q).credit v ≠ 0)

/-- The subscribers of a service whose units R443 would release now. -/
def State.releasable (s : State) (q v : Nat) (com peak : Bool) : List Nat :=
  if s.gateHeld q (gateCls q v) then [] else (portSubs q).filter (fun u => s.svcOf q u = v && s.conformsUnit q u com peak)

/-- Units that only a window holds are counted once each. -/
def State.countHeld (s : State) (q : Nat) : State :=
  (portSubs q).foldl (fun s u =>
    if s.gateHeld q (gateCls q (s.svcOf q u)) ∧ s.conformsUnit q u true true ∧ ¬ s.egs.held.contains (q, u) then
      (s.setEgs { s.egs with held := s.egs.held ++ [(q, u)] }).bump BX_EGS_PORT_CNT_GATE_HELD q
    else s) s

/-! ## Order of service (R449, R450) -/

/-- a lies before b: the signed 64-bit difference. -/
def tagBefore (a b : Nat) : Bool := decide (toSigned 64 ((a + 2 ^ 64 - b % 2 ^ 64) % 2 ^ 64) < 0)

/-- Services that start to compete wake: tag := max(tag, V). -/
def State.wake (s : State) (q : Nat) : State :=
  (portSvcs q).foldl (fun s v =>
    let i := q * 8 + v
    let now := (s.releasable q v true true) ≠ []
    let was := s.egs.competing.contains i
    let s := s.setEgs { s.egs with competing := if now then (if was then s.egs.competing else s.egs.competing ++ [i])
                                                else s.egs.competing.filter (fun x => x ≠ i) }
    if now ∧ ¬ was then
      let s := s.bump BX_EGS_PORT_CNT_WAKES q
      if tagBefore (s.rd BX_EGS_SVC_TAG_TAG i) (s.rd BX_EGS_PORT_VT_V q) then s.wr BX_EGS_SVC_TAG_TAG i (s.rd BX_EGS_PORT_VT_V q) else s
    else s) s

/-- The service with the smallest tag, ties to the lower number. -/
def State.firstTag (s : State) (q : Nat) : List Nat → Option Nat
  | [] => none
  | v :: t =>
    match s.firstTag q t with
    | none => some v
    | some w => if tagBefore (s.rd BX_EGS_SVC_TAG_TAG (q * 8 + w)) (s.rd BX_EGS_SVC_TAG_TAG (q * 8 + v)) then some w else some v

/-- The unit of a release: on a Canopy port 512 B, at port 24 the chunk's bytes. -/
def State.unitBytes (s : State) (q u : Nat) : Nat :=
  if q = 24 then (match (s.chan u).desc with
    | none => 0
    | some d => s.chunkLen d)
  else 512

/-- A unit of subscriber u of service v is released and charged; V and the tag move on. -/
def State.release (s : State) (q v u : Nat) : State :=
  let n := s.unitBytes q u
  let i := q * 8 + v
  let s := s.charge (q * 64 + u) i n
  let tag := s.rd BX_EGS_SVC_TAG_TAG i
  let s := (s.wr BX_EGS_PORT_VT_V q tag).wr BX_EGS_SVC_TAG_TAG i (tag + n * 65536 / max 1 (s.rd BX_EGS_SVC_CFG_WEIGHT i))
  s.setEgs { s.egs with
    grants := s.egs.grants.set q (s.egs.grants.getD q [] ++ [u])
    held := s.egs.held.filter (fun x => x ≠ (q, u)) }

/-- EGRESS_RELEASE: a decision at port q; on a Canopy port one released flit at a time waits for its boundary. -/
def execEgressRelease (q : Nat) (s : State) : Host.Outcome State Fault Refusal :=
  if 24 < q ∨ (q < 24 ∧ s.egs.grants.getD q [] ≠ []) then done s
  else
    let s := (s.countHeld q).wake q
    let coms := (portSvcs q).filter (fun v => (s.releasable q v true false) ≠ [])
    let peaks := (portSvcs q).filter (fun v => (s.releasable q v false true) ≠ [])
    let pass := decide (coms ≠ [])
    match s.firstTag q (if pass then coms else peaks) with
    | none => done s
    | some v =>
      let us := s.releasable q v pass (!pass)
      match (if q = 24 then s.wrrPick s.hbm.wrrLast s.hbm.wrrCount us else us.head?) with
      | none => done s
      | some u => done (s.release q v u)

/-- REFILL_TICK: the first tick at which Ringcount has reached a multiple of 1,000 ns not yet used. -/
def execRefillTick (s : State) : Host.Outcome State Fault Refusal :=
  let k := s.bxNs / 1000
  if s.egs.tick.any (fun (j : Nat) => decide (k ≤ j)) then done s
  else
    let s := (List.range 25).foldl (fun s q =>
      (portSvcs q).foldl (fun s v => s.refillSvc q v) ((portSubs q).foldl (fun s u => s.refillSub q u) s)) s
    let s := s.egs.gate.foldl (fun s (g : Nat × (Nat × Nat)) => (s.putWord .BX_EGS_GATE_TIME g.1 g.2.1).putWord .BX_EGS_GATE_SPAN g.1 g.2.2) s
    let s := s.setEgs { s.egs with sub := [], svc := [], gate := [], clearSub := [], clearSvc := [], tick := some k }
    done ((List.range 25).foldl (fun s q => s.wake q) s)

/-! ## Opcodes (Table 15-3) -/

/-- CFG and BURST words of a subscriber, and the CFG word of a service, as staged or else live. -/
def State.stagedSub (s : State) (i : Nat) : Nat × Nat := s.egs.sub.getD i (s.readReg .BX_EGS_SUB_CFG i, s.readReg .BX_EGS_SUB_BURST i)
def State.stagedSvc (s : State) (i : Nat) : Nat := s.egs.svc.getD i (s.readReg .BX_EGS_SVC_CFG i)

/-- The sum of CIR over a service's subscribers exceeds its limited RATE, on staged values. -/
def State.overRate (s : State) (q v : Nat) : Bool :=
  let rate := bits (s.stagedSvc (q * 8 + v)) 63 40
  let subs := (portSubs q).filter (fun u => (if q = 24 then bits (s.stagedSub (q * 64 + u)).1 15 13 else u) = v)
  rate ≠ unlimited && decide (rate < (subs.map (fun u => bits (s.stagedSub (q * 64 + u)).1 63 40)).foldl (· + ·) 0)

/-- SHAPER_SET (0x0801): port, SUB 0 or SVC 1, index, CFG word, BURST word (SUB). -/
def execShaperSet (c : Cap) (s : State) : Host.Outcome State Fault Refusal :=
  done (s.checked c 0x0801 c.isOp (if c.p 1 = 0 then 5 else 4) (fun s =>
    let q := c.p 0
    let x := c.p 2
    if 24 < q ∨ 1 < c.p 1 then s.reply c 0x0801 S_BADPARAM
    else if c.p 1 = 0 then
      let cir := bits (c.p 3) 63 40
      let pir := bits (c.p 3) 39 16
      let svc := bits (c.p 3) 15 13
      let i := q * 64 + x
      if ¬ (portSubs q).contains x ∨ (pir ≠ unlimited ∧ pir < cir) ∨ (q ≠ 24 ∧ svc ≠ 0) then s.reply c 0x0801 S_BADPARAM
      else
        let t := s.setEgs { s.egs with sub := s.egs.sub.set i (c.p 3 / 8192 * 8192, c.p 4 / 65536 * 65536) }
        if t.overRate q (if q = 24 then svc else x) then s.reply c 0x0801 S_BADPARAM else t.reply c 0x0801 S_OK
    else if ¬ (portSvcs q).contains x then s.reply c 0x0801 S_BADPARAM
    else
      let t := s.setEgs { s.egs with svc := s.egs.svc.set (q * 8 + x) (c.p 3 / 256 * 256) }
      if t.overRate q x then s.reply c 0x0801 S_BADPARAM else t.reply c 0x0801 S_OK))

/-- SHAPER_CLEAR_DEBT (0x0802): port, SUB or SVC, index or 0xFFFF for every bucket of the port. -/
def execShaperClearDebt (c : Cap) (s : State) : Host.Outcome State Fault Refusal :=
  done (s.checked c 0x0802 c.isOp 3 (fun s =>
    let q := c.p 0
    let x := c.p 2
    if 24 < q ∨ 1 < c.p 1 then s.reply c 0x0802 S_BADPARAM
    else if x = 0xFFFF then
      (s.setEgs { s.egs with
        clearSub := (portSubs q).foldl (fun l u => addMark l (q * 64 + u)) s.egs.clearSub
        clearSvc := (portSvcs q).foldl (fun l v => addMark l (q * 8 + v)) s.egs.clearSvc }).reply c 0x0802 S_OK
    else if c.p 1 = 0 then
      if (portSubs q).contains x then (s.setEgs { s.egs with clearSub := addMark s.egs.clearSub (q * 64 + x) }).reply c 0x0802 S_OK
      else s.reply c 0x0802 S_BADPARAM
    else if (portSvcs q).contains x then (s.setEgs { s.egs with clearSvc := addMark s.egs.clearSvc (q * 8 + x) }).reply c 0x0802 S_OK
    else s.reply c 0x0802 S_BADPARAM))

/-- SHAPER_READ (0x0803): port, SUB or SVC, index: live CFG and BURST, staged CFG and BURST, LVL; of a service live and staged CFG, LVL, TAG. -/
def execShaperRead (c : Cap) (s : State) : Host.Outcome State Fault Refusal :=
  done (s.checked c 0x0803 c.isOp 3 (fun s =>
    let q := c.p 0
    let x := c.p 2
    if 24 < q ∨ 1 < c.p 1 ∨ ¬ (if c.p 1 = 0 then portSubs q else portSvcs q).contains x then s.reply c 0x0803 S_BADPARAM
    else if c.p 1 = 0 then
      let i := q * 64 + x
      s.reply c 0x0803 S_OK [s.readReg .BX_EGS_SUB_CFG i, s.readReg .BX_EGS_SUB_BURST i, (s.stagedSub i).1, (s.stagedSub i).2,
        s.readReg .BX_EGS_SUB_LVL i]
    else
      let i := q * 8 + x
      s.reply c 0x0803 S_OK [s.readReg .BX_EGS_SVC_CFG i, s.stagedSvc i, s.readReg .BX_EGS_SVC_LVL i, s.readReg .BX_EGS_SVC_TAG i]))

/-- GATE_SET (0x0804): port, window, EN, PERIOD_NS, PHASE_NS, WIDTH_NS, MASK. -/
def execGateSet (c : Cap) (s : State) : Host.Outcome State Fault Refusal :=
  done (s.checked c 0x0804 c.isOp 7 (fun s =>
    let q := c.p 0
    let mask := c.p 6
    let bad : Bool := c.p 2 = 1 && (c.p 3 = 0 || decide (c.p 3 ≤ c.p 5 + guardNs q mask))
    let badMask : Bool := decide (255 < mask) || (if q = 24 then 1 < mask else bitAt mask 2)
    if 24 < q ∨ 3 < c.p 1 ∨ 1 < c.p 2 ∨ bad ∨ badMask ∨ 2 ^ 32 ≤ c.p 3 ∨ 2 ^ 32 ≤ c.p 4 ∨ 2 ^ 24 ≤ c.p 5 then s.reply c 0x0804 S_BADPARAM
    else
      let w := (packFields [(32, 32, c.p 3), (0, 32, c.p 4)], packFields [(63, 1, c.p 2), (48, 8, mask), (0, 24, c.p 5)])
      (s.setEgs { s.egs with gate := s.egs.gate.set (q * 4 + c.p 1) w }).reply c 0x0804 S_OK))

/-- GATE_STATUS (0x0805): port. -/
def execGateStatus (c : Cap) (s : State) : Host.Outcome State Fault Refusal :=
  done (s.checked c 0x0805 c.isOp 1 (fun s =>
    if 24 < c.p 0 then s.reply c 0x0805 S_BADPARAM
    else s.reply c 0x0805 S_OK [s.readReg .BX_EGS_PORT_STS (c.p 0), s.readReg .BX_EGS_PORT_VT (c.p 0), s.readReg .BX_EGS_PORT_CNT (c.p 0)]))

end Sys2Proof.Machine
end

