-- ==== Sys2Proof/Machine/FieldTests.lean ====
section
/-! DEFINITION. In-field tests (R297 to R300, Table 10-11): requesting, starting and ending a test, its deadline and its longest run. -/
namespace Sys2Proof.Machine

/-- The die whose outstanding test has this TEST_ID, under the incarnation the test was issued for. -/
def State.testDie? (s : State) (id : Nat) : Option Nat :=
  (List.range 64).find? (fun d => s.rd BX_COR_DIE_MARK_TSTATE d ≠ 0 && s.rd BX_COR_DIE_MARK_TEST_ID d = id && (s.corDie d).testInc = (s.die d).cur)

/-- A test is overdue (R299): OVERDUE, a record, an alarm; the gate reads OVERDUE. -/
def State.testOverdue (s : State) (d : Nat) : State :=
  if s.flag BX_COR_DIE_MARK_OVERDUE d then s
  else
    let id := s.rd BX_COR_DIE_MARK_TEST_ID d
    let unit := s.rd BX_COR_DIE_MARK_UNIT d
    let s := (s.wr BX_COR_DIE_MARK_OVERDUE d 1).bump BX_COR_CNT1_OVERDUE
    let s := s.signal { ty := 0x0504, source := 6, idx := d, die := s.dieAddr d, inc := (s.die d).cur, detail := id, extra := unit }
    s.alarmUp 0x2B (s.bxAlarm id unit (some d))

/-- A test is no longer outstanding; routing under OVERDUE ends with it. -/
def State.testIdle (s : State) (d : Nat) : State :=
  ((s.wr BX_COR_DIE_MARK_TSTATE d 0).wr BX_COR_DIE_MARK_OVERDUE d 0).setCorDie d { s.corDie d with started := false }

/-- The LAG_HOLD count of a member returns to 0 at the home of each of its groups, by a lag return from here (log entry 15). -/
def State.clearLag (s : State) (d : Nat) : State :=
  let addr := s.dieAddr d
  (s.cfg.groupsOf addr).foldl (fun s g =>
    let v := (s.corDie d).lagAt none g
    let h := s.homeNow g.home
    if h = s.agg then
      match s.cor.groups.find? (fun (x : GroupState) => x.home = g.home && x.num = g.num) with
      | none => s
      | some x => s.setGroup { x with members := x.members.map (fun m => if m.1 = addr then (m.1, { m.2 with count := 0 }) else m) }
    else s.sendMsg 1 6 6 h (lagBytes g.home g.num s.bxEpoch [(addr, { v with count := 0 }, false)]) (some s.bxEpoch) true) s

/-- A test passed (Table 10-7): reasons and what raised them cleared; reasons gained meanwhile, with their channels and bins, set again with a
test of their own. -/
def State.testPass (s : State) (d : Nat) : State :=
  let y := s.corDie d
  let again (r : Nat) : Bool := y.gained.testBit r
  let chans := (y.driftMarks.filter (fun m => ¬ again m.1)).map (fun m => m.2.1)
  let s := (s.clearLag d).clearReasons d 0xFF
  let x := s.corDie d
  let s := s.setCorDie d { x with
    lag := x.lag.map (fun (z : LagEntry) => { z with val := { z.val with count := 0 } })
    healthCount := 0, drift := x.drift.filter (fun b => b.1 ∉ chans), past := x.past.filter (fun b => b.1 % 16 ∉ chans) }
  let s := s.testIdle d
  ((List.range 8).filter again).foldl (fun s r =>
    let n := y.markAt.getD r s.bxEpoch
    match y.driftMarks.find? r with
    | some m => s.setDrift d r n m.1 m.2
    | none => if r = 6 then s.requestTest d 0x3FF 0 none else s.setReason d r n) s

/-- A test ends aborted: PENDING again, and overdue where its DEADLINE has passed. -/
def State.testAbort (s : State) (d : Nat) : State :=
  let s := (s.wr BX_COR_DIE_MARK_TSTATE d 1).setCorDie d { s.corDie d with started := false }
  if (s.corDie d).deadline ≤ s.bxNs then s.testOverdue d else s

/-- TEST_REQUEST (0x0920): die; UNIT; PREAMBLE; bin, 0xFFFF for none. -/
def execTestRequest (c : Cap) (s : State) : Host.Outcome State Fault Refusal :=
  done (s.dieOp c 0x0920 4 (fun d s =>
    if d = 64 ∨ 0x3FF < c.p 1 ∨ 3 < c.p 2 ∨ (511 < c.p 3 ∧ c.p 3 ≠ 0xFFFF) then s.reply c 0x0920 S_BADPARAM
    else if s.dieFenced d then s.reply c 0x0920 S_FENCED
    else if s.rd BX_COR_DIE_MARK_TSTATE d ≠ 0 then s.reply c 0x0920 S_BUSY
    else
      let s := s.requestTest d (c.p 1) (c.p 2) (if c.p 3 = 0xFFFF then none else some (c.p 3))
      s.reply c 0x0920 S_OK [s.rd BX_COR_DIE_MARK_TEST_ID d]))

/-- TEST_START (0x0921): TEST_ID. -/
def execTestStart (c : Cap) (s : State) : Host.Outcome State Fault Refusal :=
  done (s.checked c 0x0921 c.isOp 1 (fun s =>
    match s.testDie? (c.p 0) with
    | none => s.reply c 0x0921 S_STALE
    | some d =>
      if s.dieFenced d then s.reply c 0x0921 S_FENCED
      else if s.scPlaced d (s.rd BX_COR_DIE_MARK_UNIT d) then s.reply c 0x0921 S_DENIED
      else if s.rd BX_COR_DIE_MARK_TSTATE d = 2 then s.reply c 0x0921 S_OK
      else
        let s := (s.wr BX_COR_DIE_MARK_TSTATE d 2).setCorDie d { s.corDie d with started := true, startNs := s.bxNs }
        s.reply c 0x0921 S_OK))

/-- TEST_RESULT (0x0922): TEST_ID; 0 PASS, 1 FAIL, 2 ABORTED. -/
def execTestResult (c : Cap) (s : State) : Host.Outcome State Fault Refusal :=
  done (s.checked c 0x0922 c.isOp 2 (fun s =>
    match s.testDie? (c.p 0) with
    | none => s.reply c 0x0922 S_STALE
    | some d =>
      if s.rd BX_COR_DIE_MARK_TSTATE d ≠ 2 then s.reply c 0x0922 S_NOTNOW
      else
        match c.p 1 with
        | 0 => (s.testPass d).reply c 0x0922 S_OK
        | 1 => (((s.bump BX_COR_CNT1_FAILS).fenceDie d 3).testIdle d).reply c 0x0922 S_OK
        | 2 => (s.testAbort d).reply c 0x0922 S_OK
        | _ => s.reply c 0x0922 S_BADPARAM))

/-- TEST_CANCEL (0x0923): TEST_ID. -/
def execTestCancel (c : Cap) (s : State) : Host.Outcome State Fault Refusal :=
  done (s.checked c 0x0923 c.isOp 1 (fun s =>
    match s.testDie? (c.p 0) with
    | none => s.reply c 0x0923 S_STALE
    | some d => ((s.testIdle d).setCorDie d { (s.testIdle d).corDie d with gained := 0 }).reply c 0x0923 S_OK))

/-- TEST_DEADLINE: the DEADLINE of die d's test has passed and no TEST_START has been accepted. -/
def execTestDeadline (d : Nat) (s : State) : Host.Outcome State Fault Refusal :=
  if d < 64 ∧ s.rd BX_COR_DIE_MARK_TSTATE d = 1 ∧ (s.corDie d).deadline ≤ s.bxNs then done (s.testOverdue d) else done s

/-- TEST_RUN_TIMEOUT: die d's test has run for TEST_RUN_MS. -/
def execTestRunTimeout (d : Nat) (s : State) : Host.Outcome State Fault Refusal :=
  if d < 64 ∧ s.rd BX_COR_DIE_MARK_TSTATE d = 2 ∧ (s.corDie d).startNs + s.rd BX_COR_CTRL_TEST_RUN_MS * 1000000 ≤ s.bxNs then
    done (s.testAbort d)
  else done s

end Sys2Proof.Machine
end

