-- ==== Sys2Proof/Machine/Partition.lean ====
section
/-! DEFINITION. Giving a tenant its HBM partition, in whose highest granules its ledger starts (R367, R419). -/
namespace Sys2Proof.Machine

/-- MEM_PARTITION_SET (0x0702): tenant, base granule, count; 0 releases. -/
def execMemPartitionSet (c : Cap) (s : State) : Host.Outcome State Fault Refusal :=
  done (s.checked c 0x0702 c.isOp 3 (fun s =>
    let t := c.p 0
    let base := c.p 1
    let n := c.p 2
    let run := (List.range 120).any (fun ch => s.rd BX_DMA_CH_STS_STATE ch = 1 && s.rd BX_DMA_CH_CFG_SPACE ch = t)
    let overlap := decide (n ≠ 0) && (List.range 64).any (fun u => u ≠ t && s.flag BX_MEM_PART_VALID u &&
      decide (s.rd BX_MEM_PART_BASE u < base + n) && decide (base < s.rd BX_MEM_PART_BASE u + s.rd BX_MEM_PART_COUNT u))
    if 64 ≤ t then s.reply c 0x0702 S_BADPARAM
    else if s.jobOpen t ∨ run then s.reply c 0x0702 S_BUSY
    else if overlap then s.reply c 0x0702 S_CONFLICT
    else if n ≠ 0 ∧ (n < ledgerGranules (s.gate.logs.getD t 16) + 1 ∨ base < s.poolBase ∨ hbmGranules < base + n) then
      s.reply c 0x0702 S_BADPARAM
    else
      let s := s.setPartition t base n
      (if n = 0 then s else s.ledgerStart t).reply c 0x0702 S_OK))

end Sys2Proof.Machine
end

