-- ==== Sys2Proof/Machine/Receive.lean ====
section
/-! DEFINITION. What BX64 does with the messages of its ZX40s: snapshots (R212, R213), alarms (R144, R155, R388 to R390, R498), Blaze
reports (R199, R350), capsule replies (R474) and the incarnation read after a FRESH training (R147, R517). A die fenced at its port sends
snapshots only: its alarms, Blaze reports and capsule replies go nowhere (R405). -/
namespace Sys2Proof.Machine

/-- SNAP_RECEIVE: a complete snapshot message of Stem port p; poison: a word of it was read poisoned from the ingress queue. -/
def execSnapReceive (p : Nat) (bs : Bytes) (resent poison : Bool) (s : State) : Host.Outcome State Fault Refusal :=
  done ((s.consume (.stem p) 1 0).takeSnap p bs resent poison)

/-! ## Alarms -/

/-- The fields of an alarm payload (Table 5-6) as a record names them. -/
def alarmRec (ty p : Nat) (payload : Bytes) : HwRec :=
  let w := rdLe payload 0 8
  { ty := ty, source := 0x40, idx := p, self := p = 64, die := bits w 47 30, inc := bits w 63 48, detail := bits w 15 0,
    extra := rdLe payload 16 8, stamp := rdLe payload 24 8 * 65536 + rdLe payload 38 2 }

/-- A ZX40's safety report (R498): BX_SAF_DIE_p, a SAFETY alarm, once per code and source index in an epoch, and a record. -/
def State.zxSafety (s : State) (p : Nat) (payload : Bytes) : State :=
  let r := alarmRec 0x0506 p payload
  let code := 0x4000 + r.detail % 256
  let idx := r.extra % 2 ^ 22
  let s := (s.wr BX_SAF_DIE_LAST_CODE p code).bump BX_SAF_DIE_COUNT p
  let key := (code, (p + 1) * 2 ^ 22 + idx)
  let known : Bool := s.tap.safEpoch = s.bxEpoch && s.tap.safSent.contains key
  let s := if known then s.bump BX_SAF_STS_DETECTIONS else
      let extra := packFields [(56, 8, if p = 64 then 0x41 else 0x40), (38, 18, s.dieAddr p), (22, 16, (s.die p).cur), (0, 22, idx)]
      let s := { s with tap := { s.tap with
          safEpoch := s.bxEpoch
          safSent := (if s.tap.safEpoch = s.bxEpoch then s.tap.safSent else []) ++ [key] } }
      s.alarmUp 0x28 (s.bxAlarm code extra (some p))
  s.signal { r with detail := code }

/-- An injection reported by a ZX40 (R510). -/
def State.zxInjected (s : State) (p : Nat) (payload : Bytes) : State :=
  let r := alarmRec 0x0302 p payload
  let tgt := wtTarget 3 (2 ^ 15 + p * 256 + r.detail % 256)
  if s.flag BX_WT_INJ_ARMED tgt then (s.wtEvent tgt r.extra).2
  else (s.bump BX_WT_STS_INJECTED).wtRecord 0x0302 tgt r.extra

/-- A HEARTWOOD_REQ is consumed: a safety report, an injection, or a trigger of R91. -/
def State.heartwoodReq (s : State) (p : Nat) (payload : Bytes) : State :=
  let kind := bits (rdLe payload 0 8) 15 8
  if kind = 0xFF then s.zxSafety p payload
  else if kind = 0xFE then s.zxInjected p payload
  else s.signal (alarmRec 0x0502 p payload)

/-- More ALARMs of a port than its limit in an epoch: consumed here, counted, and recorded once per epoch (Table 5-12 row 14). -/
def State.alarmLimited (s : State) (p : Nat) : State :=
  let s := s.bump BX_STM_PORT_MISC_ALARM_LIMITED p
  if (s.link (.stem p)).limitLogged then s
  else
    let s := s.modLink (.stem p) (fun l => { l with limitLogged := true })
    (s.signal { ty := 0x0404, source := 1, idx := p, detail := p }).violation 1 14 1 p

/-- The alarm may go to the parent: the port is not fenced, and its limit for the epoch is not reached. -/
def State.alarmRoom (s : State) (p : Nat) : Bool := (s.link (.stem p)).alarmsFwd < s.rd BX_STM_PORT_CTRL_ALARM_LIMIT p

/-- One more alarm of the port goes to the parent in this epoch. -/
def State.countAlarm (s : State) (p : Nat) : State := s.modLink (.stem p) (fun l => { l with alarmsFwd := l.alarmsFwd + 1 })

/-- The flit that carries a die's alarm to the acting parent, and its port, if that port is FORWARDING. -/
def State.alarmFlit (s : State) (sub : Nat) (payload : Bytes) : Option (Nat × FlitBody) × State :=
  match s.parent? with
  | none => (none, s)
  | some a =>
    match s.outPort 3 sub s.agg a with
    | (some q, s) => (some (q, {
        ty := 3, sub := sub, first := true, last := true, part := 0, payload := canopyAlarm payload s.cnp.bseq, vc := 0, bcast := false,
        hops := 31, src := s.agg, dst := a }), s)
    | (none, s) => (none, s)

/-- The cut-through of a Stem port's alarm that waits for its verdict: its Canopy port and its flit. -/
def State.cutOf (s : State) (p : Nat) : Option (Nat × FlitBody) :=
  (List.range 24).findSome? (fun q => match (s.port q).cut with
    | some c => if c.1 = p then some (q, c.2) else none
    | none => none)

/-- The conditions of R389 on the parent port q: FORWARDING, a credit on VC 0, nothing in progress, no resend due, no marker due, the egress gate
open. -/
def State.cutReady (s : State) (q : Nat) : Bool :=
  let e : LinkId := .canopy q
  let l := s.link e
  decide (s.rd BX_CNP_PORT_STS_PSTATE q = 2) && decide (l.lstate = .active) && l.partnerActive && decide ((s.port q).credit 0 ≠ 0) &&
    (s.port q).cut.isNone && l.resendFrom.isNone && decide (l.replay.length < e.replayMax) && !l.wait.any (fun w => w.1 == 0) &&
    !s.markerDue e && !s.gateHeld q 0

/-- A forwarded alarm whose CRC verdict is not known yet starts on its way (R389); one that cannot cut through waits for the verdict. -/
def State.alarmCut (s : State) (p sub : Nat) (payload : Bytes) : State :=
  if ¬ s.alarmRoom p then s
  else
    match s.alarmFlit sub payload with
    | (some (q, b), s) =>
      if ¬ s.cutReady q then s
      else ((s.setPort q { s.port q with cut := some (p, b) }).countAlarm p).emit (.holdWord q)
    | (none, s) => s

/-- A forwarded alarm with its verdict: the cut-through ends with its CRC right, or inverted; without one a good alarm goes up whole, and
a bad one, forwarded before its verdict, leaves stomped. The acting root posts its own dies' alarms. -/
def State.alarmEnd (s : State) (p sub : Nat) (payload : Bytes) (good : Bool) : State :=
  match s.cutOf p with
  | some (q, b) =>
    let s := s.setPort q { s.port q with cut := none }
    let s := if good then s else s.bump BX_STM_PORT_MISC_STOMPED p
    s.enqueueFront q 0 { b with stomp := !good }
  | none =>
    if s.parent?.isNone then (if good then s.post 0 0x20 (canopyAlarm payload s.cnp.bseq) else s)
    else if ¬ s.alarmRoom p then (if good then s.alarmLimited p else s)
    else
      match s.alarmFlit sub payload with
      | (some (q, b), s) =>
        let s := s.countAlarm p
        let s := if good then s else s.bump BX_STM_PORT_MISC_STOMPED p
        s.enqueue (.canopy q) 0 { b with stomp := !good }
      | (none, s) => s

/-- An accepted ALARM of these bytes waits at a Stem port. -/
def State.alarmWaits (s : State) (p sub : Nat) (payload : Bytes) : Bool :=
  (s.link (.stem p)).inbox.any (fun m => m.ty == 3 && m.sub == sub && m.bytes == payload)

/-- ALARM_RECEIVE: an ALARM of Stem port p: SEQ, sub-kind, its 40 bytes, and what is known of its CRC: nothing yet, or the verdict. One whose verdict
is not known or bad is forwarded when its SEQ is NEXT (R155); a good one when the link has accepted it, as NEXT by then tells no more. An ALARM
with a bad CRC is never consumed; its answer on Stem is FLIT_RECEIVE's. -/
def execAlarmReceive (p : Nat) (h : AlarmHead) (payload : Bytes) (verdict : Option Bool) (s : State) : Host.Outcome State Fault Refusal :=
  let sub := h.sub
  let s := s.epochCounts (.stem p)
  let fwd : Bool := 1 ≤ sub && sub ≤ 4
  let next : Bool := h.seq == (s.link (.stem p)).next
  match verdict with
  | none => done (if fwd && next && !s.dieFenced p then s.alarmCut p sub payload else s)
  | some false => done (if fwd && next && !s.dieFenced p then s.alarmEnd p sub payload false else s)
  | some true =>
    if ¬ s.alarmWaits p sub payload then done s
    else
      let s := s.consume (.stem p) 3 sub
      if fwd then done (if s.dieFenced p then s else s.alarmEnd p sub payload true)
      else if sub = 0x10 then done (s.heartwoodReq p payload)
      else done s

/-! ## Blaze reports -/

/-- A report entry reaches the commit gate (R350): outcomes MISMATCH, STALE and UNPOISONED condemn, UNVERIFIED selects. -/
def State.blazeEntry (s : State) (d w0 : Nat) : State :=
  let outcome := bits w0 23 20
  if outcome = 2 ∨ outcome = 3 ∨ outcome = 7 then s.tagMatch d (bits w0 15 0) true
  else if outcome = 5 then s.tagMatch d (bits w0 15 0) false
  else s

/-- BLAZE_RECEIVE: a BLAZE flit of Stem port p: its payload (Table 7-5). -/
def execBlazeReceive (p : Nat) (payload : Bytes) (s : State) : Host.Outcome State Fault Refusal :=
  let s := s.consume (.stem p) 6 0
  if s.dieFenced p then done s
  else
    let n := (payload.length - 8) / 16
    done ((List.range n).foldl (fun s j => s.blazeEntry p (rdLe payload (8 + 16 * j) 8)) s)

/-! ## Capsule replies -/

/-- A target's KIND and address (Table 1-7a) of a local die index. -/
def State.targetOf (s : State) (p : Nat) : Nat × Nat := if p = 64 then (2, s.agg * 64) else (1, s.dieAddr p)

/-- A target waits to be written again (R536). -/
def State.targetAgain (s : State) (p : Nat) : Bool :=
  ((s.ep.staged.map (fun (g : Staged) => g.targets.any (fun (t : Target) => (t.kind, t.addr) = s.targetOf p && t.ack = .again))).getD false)

/-- A ZX40 has acknowledged an image: that of a generation, or with generation 0 that of the one in force. -/
def State.noteImage (s : State) (p : Nat) (m : ZxCmd) (status : Nat) : State :=
  if m.op ≠ 0x0211 ∨ status ≠ S_OK then s
  else if m.params.getD 0 0 = 0 then s.setDie p { s.die p with image := s.liveGen }
  else s.setDie p { s.die p with image := if bitAt (m.params.getD 2 0) 0 then m.params.getD 0 0 else 0 }

/-- The answer of a ZX40 to a command of BX64's own: the acknowledgement or refusal of a generation (R43, R536), a refused re-send
(R45), its life-cycle state (R532), or an answer to a probe (R293). -/
def State.ownReply (s : State) (p : Nat) (m : ZxCmd) (status : Nat) : State :=
  let gen := m.params.getD 0 0
  let k := s.targetOf p
  let staged : Bool := gen ≠ 0 && (((s.ep.staged.map (fun (g : Staged) => g.gen)) = some gen) || (m.op = 0x0212 && s.ep.staged.isNone && status ≠ S_OK))
  let s := if status ≠ S_OK ∧ gen ≠ 0 ∧ gen = s.liveGen ∧ (0x0210 ≤ m.op ∧ m.op ≤ 0x0212 ∨ m.op = 0x0310) then
      s.setDie p { s.die p with resendM := none } else s
  let s := if status = S_OK ∧ m.op = 0x0630 then s.wr BX_LC_DIE_ZX_STATE p (m.params.getD 2 0)
    else if status = S_OK ∧ m.op = 0x0A10 then s.wr BX_LC_DIE_ZX_STATE p (m.params.getD 0 0) else s
  if m.op = 0x0623 then (if status = S_OK then s.endProbe p true else s)
  else if ¬ staged then s
  else if m.op = 0x0211 then (if s.targetAgain p then s else s.localAnswer false k.1 k.2 status)
  else if m.op = 0x0212 then s.localAnswer true k.1 k.2 status
  else if (m.op = 0x0210 ∨ m.op = 0x0310) ∧ status = S_CONFLICT then s.localAnswer false k.1 k.2 status
  else s

/-- A reply takes its command off the port's list. -/
def State.takeReply (s : State) (p tag : Nat) : State :=
  let z := s.zxPort p
  s.setZxPort p { z with out := z.out.filter (fun (m : ZxCmd) => m.tag ≠ tag), readTag := if z.readTag = some tag then none else z.readTag }

/-- The reply to an operator's command goes back under its own TAG. A refused ZX_WT_SET leaves no injector armed. -/
def State.returnReply (s : State) (o : Nat × Cap) (status reason : Nat) (results : List Nat) : State :=
  let s := if o.1 = 0x0F01 ∧ status ≠ S_OK then s.wtDisarm (wtTarget (o.2.p 0) (o.2.p 1)) else s
  s.reply o.2 o.1 status results reason

/-- CAPS_REPLY_RECEIVE: a reply capsule of Stem port p: TAG, status, reason and results. -/
def execCapsReplyReceive (p tag status reason : Nat) (results : List Nat) (s : State) : Host.Outcome State Fault Refusal :=
  let s := s.consume (.stem p) 4 1
  match (s.zxPort p).out.find? (fun (m : ZxCmd) => m.tag = tag) with
  | none => done (s.viol (.stem p) 11)
  | some m =>
    let first : Bool := (s.zxPort p).readTag = some tag
    let s := (s.takeReply p tag).noteImage p m status
    if first then done ((s.judgeInc p (results.getD 0 0)).issueZx p)
    else
      match m.origin with
      | none => done ((s.ownReply p m status).issueZx p)
      | some o =>
        if s.dieFenced p ∧ o.1 ≠ 0x0623 then done (s.issueZx p)
        else done ((s.returnReply o status reason results).issueZx p)

/-- INCARNATION_READ_REPLY: the reply to the first command after a FRESH training of port p: the 64 bits of ZX_EPC_ID. -/
def execIncarnationReadReply (p id : Nat) (s : State) : Host.Outcome State Fault Refusal :=
  match (s.zxPort p).readTag with
  | none => done s
  | some tag => done ((((s.consume (.stem p) 4 1).takeReply p tag).judgeInc p id).issueZx p)

end Sys2Proof.Machine
end

