-- ==== Sys2Proof/Machine/Transmit.lean ====
section
/-! DEFINITION. FLIT_TRANSMIT: what a link end sends at a flit boundary, by R151 on Stem and R383 on Canopy. -/
namespace Sys2Proof.Machine

/-! ## Sending one flit -/

/-- Bytes pass the PCS of an end and leave the device. -/
def State.sendBytes (s : State) (e : LinkId) (bs : Bytes) : State :=
  let r := s.pcs e true bs
  r.1.foldl (fun s b => s.putOut e b) r.2

/-- A flit that carries the present ACKSEQ has acknowledged every flit accepted (R149). -/
def State.acked (s : State) (e : LinkId) : State := s.modLink e (fun l => { l with unacked := 0, ackDue := false })

/-- A sequenced flit leaves with the next SEQ and is held until acknowledged (R149, R150). -/
def State.sendSeq (s : State) (e : LinkId) (b : FlitBody) : State :=
  let l := s.link e
  let bs := flitBytes e.isCanopy (s.txHdr e b l.nxt) b.payload b.stomp
  let s := s.modLink e (fun l => { l with nxt := (l.nxt + 1) % e.seqMod, replay := l.replay ++ [{ seq := l.nxt, body := b, bytes := bs }] })
  (s.acked e).sendBytes e bs

/-- An unsequenced flit leaves; its SEQ is 0 (Table 5-4). -/
def State.sendUnseq (s : State) (e : LinkId) (b : FlitBody) : State :=
  (s.acked e).sendBytes e (flitBytes e.isCanopy (s.txHdr e b 0) b.payload b.stomp)

/-- A link-control flit body: a message of one flit, so it carries both marks (R141). -/
def ctlBody (ty : Nat) (payload : Bytes) : FlitBody :=
  { ty := ty, sub := 0, first := true, last := true, part := 0, payload := payload }

/-- The replay buffer has room for one more flit. -/
def State.replayRoom (s : State) (e : LinkId) : Bool := decide ((s.link e).replay.length < e.replayMax)

/-- A resend: the held flit of SEQ r goes again bit for bit, with the ACKSEQ it had, so that it acknowledges nothing new. -/
def State.sendAgain (s : State) (e : LinkId) (r : Nat) : State :=
  let l := s.link e
  let next := (r + 1) % e.seqMod
  let s := s.modLink e (fun l => { l with resendFrom := if next = l.nxt then none else some next })
  match l.replay.find? (fun h => h.seq = r) with
  | none => s
  | some h => (if e = .zx then s.ls 0xA8 else s).sendBytes e h.bytes

/-- NAK (R148): ACKSEQ is NEXT - 1. -/
def State.sendNak (s : State) (e : LinkId) : State :=
  let s := s.modLink e (fun l => { l with nakDue := false })
  (if e = .zx then s.ls 0xA6 else s).sendUnseq e (ctlBody 8 [])

/-- The payload of an ACK flit: the log acknowledgement of a Stem port (R145), the eight freed counts of a Canopy port (R384). -/
def State.ackPayload (s : State) (e : LinkId) : Bytes :=
  match e with
  | .zx => []
  | .stem p =>
    match s.red.logAck.find? p with
    | none => zeroBytes 8
    | some n => leBytes 8 (2 ^ 63 + n % 2 ^ 48)
  | .canopy q => (List.range 8).flatMap (fun v => leBytes 2 ((s.port q).freedRx.getD v 0))

/-- ACK where an acknowledgement is due, of flits or of the log (R145, R149), else IDLE. -/
def State.sendCtl (s : State) (e : LinkId) : State :=
  if (s.link e).ackDue || (s.link e).logAckDue then (s.modLink e (fun l => { l with logAckDue := false })).sendUnseq e (ctlBody 7 (s.ackPayload e))
  else (if e = .zx then s.ls 0xB3 else s).sendUnseq e (ctlBody 0 [])

/-- The first flit waiting in a class leaves the waiting list. -/
def dropClass (cls : Nat) : List (Nat × WaitFlit) → List (Nat × WaitFlit)
  | [] => []
  | w :: t => if w.1 = cls then t else w :: dropClass cls t

def State.waiting? (s : State) (e : LinkId) (cls : Nat) : Option FlitBody :=
  ((s.link e).wait.find? (fun w => w.1 = cls)).map (fun w => w.2.body)

def State.dropWaiting (s : State) (e : LinkId) (cls : Nat) : State := s.modLink e (fun l => { l with wait := dropClass cls l.wait })

/-! ## ZX40's own messages -/

/-- A message that a poisoned word keeps from being sent is counted (Table 7-7). -/
def State.poisonedMsg (s : State) : State := ((s.bump ZX_STM_CNT_MALFORMED).countViol .zx).escalate .zx

/-- The snapshot part to send next: the message in progress, or the next one; a message whose entry the log has freed is broken off (R142). -/
def State.snapPart (s : State) : Option SnapTx :=
  match (s.link .zx).snapTx.filter (fun t => (s.entry? t.epoch).isSome) with
  | some t => some t
  | none => s.nextSnap.map (fun x => { epoch := x.1, resent := x.2, nextPart := 1 })

/-- The next part of a snapshot message of K parts: 1 to K - 1 and then 0, which waits for the vote's result (R104). -/
def State.snapReady (s : State) : Option (SnapTx × Nat × Bytes) :=
  match s.snapPart with
  | none => none
  | some t =>
    match s.entry? t.epoch with
    | none => none
    | some x =>
      let k := ceilDiv x.size 244
      let p := if t.nextPart < k then t.nextPart else 0
      if p = 0 ∧ x.grs.isNone then none else some (t, p, x.bytes)

/-- A snapshot message ends: counted, a pass with nothing left is over, a waiting power state is taken. -/
def State.snapDone (s : State) (t : SnapTx) : State :=
  let s := s.modLink .zx (fun l => { l with snapTx := none })
  ((s.ls (if t.resent then 0x8E else 0x8D)).endPass).pwrSettle

/-- One SNAP flit. -/
def State.sendSnap (s : State) (t : SnapTx) (p : Nat) (bytes : Bytes) (psn : Bool) : State :=
  let fresh : Bool := t.nextPart = 1
  let s := if fresh then s.beginSnap t.epoch else s
  if psn then
    let s := (s.modLink .zx (fun l => { l with snapTx := none })).poisonedMsg
    { s with zx := { s.zx with unsent := sortBy (fun a b => decide (a ≤ b)) (s.zx.unsent.filter (fun m => m ≠ t.epoch) ++ [t.epoch]) } }
  else
    let b : FlitBody := {
      ty := 1, sub := 0, first := fresh, last := p = 0, resent := t.resent, part := p, payload := (bytes.drop (244 * p)).take 244 }
    let s := (s.modLink .zx (fun l => { l with snapTx := some { t with nextPart := p + 1 }, snapRun := l.snapRun + 1 })).sendSeq .zx b
    let s := s.ls 0xB0
    if p = 0 then s.snapDone t else s

/-- The STREAM buffer with DRAIN = STEM that has records waiting, lowest first. -/
def State.traceReady (s : State) : Option Nat :=
  (List.range 8).find? (fun n => (s.trcBuf n).drain = 2 && !(s.trcBuf n).ring && (s.trcBuf n).recs ≠ [])

/-- TRACE waits: the hang dump, or records. -/
def State.traceWaits (s : State) : Bool := (s.link .zx).dumpNext.isSome || s.traceReady.isSome

/-- One part of the hang dump (R143). -/
def State.sendDump (s : State) (i : Nat) (psn : Bool) : State :=
  if psn then (s.modLink .zx (fun l => { l with dumpNext := none })).poisonedMsg
  else
    let b : FlitBody := {
      ty := 2, sub := 8, first := i = 0, last := i = 33, part := i, payload := (s.zx.dump.drop (244 * i)).take 244 }
    let s := (s.modLink .zx (fun l => { l with dumpNext := if i = 33 then none else some (i + 1) })).sendSeq .zx b
    let s := s.ls 0xB1
    if i = 33 then s.wr ZX_HD_STS_SENT 0 1 else s

/-- One TRACE flit: up to 15 records of a buffer, in slot order (R143). -/
def State.sendRecs (s : State) (n : Nat) (psn : Bool) : State :=
  let rs := ((s.trcBuf n).recs).take 15
  let s := if psn then s.poisonedMsg
    else
      let b : FlitBody := {
        ty := 2, sub := n, first := true, last := true, part := 0, payload := rs.flatMap (fun (r : TRec) => wordBytes [r.w0, r.w1]) }
      (s.sendSeq .zx b).ls 0xB1
  s.trcFree n rs.length

/-- A TRACE boundary. -/
def State.sendTrace (s : State) (psn : Bool) : State :=
  let s := s.modLink .zx (fun l => { l with snapRun := 0 })
  match (s.link .zx).dumpNext with
  | some i => s.sendDump i psn
  | none =>
    match s.traceReady with
    | none => s
    | some n => s.sendRecs n psn

/-- One BLAZE flit: up to 14 entries (R199, Table 7-5). -/
def State.sendBlaze (s : State) (psn : Bool) : State :=
  let rs := s.zx.reports.take 14
  let s := { s with zx := { s.zx with reports := s.zx.reports.drop 14 } }
  if psn then s.poisonedMsg
  else
    let ep := (rs.head?.map (·.epoch)).getD 0
    let payload := wordBytes (packFields [(48, 16, s.zxInc), (0, 48, ep)] :: rs.flatMap (fun (r : BlzReport) => [r.w0, r.w1]))
    (s.sendSeq .zx { ty := 6, sub := 0, first := true, last := true, part := 0, payload := payload }).ls 0xB2

/-- What a ZX40 sends after its waiting single flits: SNAP, BLAZE, TRACE, of which TRACE takes one boundary in every eight. -/
def State.zxBulk (s : State) (psn : Bool) : State :=
  if ¬ s.replayRoom .zx then s.sendCtl .zx
  else if s.traceWaits ∧ s.snapReady.isSome ∧ 7 ≤ (s.link .zx).snapRun then s.sendTrace psn
  else
    match s.snapReady with
    | some (t, p, bytes) => s.sendSnap t p bytes psn
    | none =>
      if s.zx.reports ≠ [] then s.sendBlaze psn
      else if s.traceWaits then s.sendTrace psn
      else s.sendCtl .zx

/-! ## Stem -/

/-- A waiting single flit of a class leaves: an ALARM or a CAPS message. -/
def State.sendWaiting (s : State) (e : LinkId) (cls : Nat) (b : FlitBody) (psn : Bool) : State :=
  let s := s.dropWaiting e cls
  if psn ∧ e = .zx then s.poisonedMsg
  else
    let s := s.sendSeq e b
    if e = .zx ∧ cls = 3 then s.ls 0xAC else s

/-- The boundary of a Stem end, after the fixed TIME flit and a resend. -/
def State.stemBoundary (s : State) (e : LinkId) (psn : Bool) : State :=
  let room := s.replayRoom e
  match (if room then s.waiting? e 3 else none) with
  | some b => s.sendWaiting e 3 b psn
  | none =>
    if (s.link e).nakDue then s.sendNak e
    else
      match s.waiting? e 5 with
      | some b => (s.dropWaiting e 5).sendUnseq e b
      | none =>
        match (if room then s.waiting? e 4 else none) with
        | some b => s.sendWaiting e 4 b psn
        | none => if e = .zx then s.zxBulk psn else s.sendCtl e

/-! ## Canopy -/

/-- The next flit of a VC, if its credit, the replay buffer and the port's windows let it start. -/
def State.vcReady (s : State) (q vc : Nat) : Option WaitFlit :=
  match s.vcNext q vc with
  | none => none
  | some w =>
    if (s.port q).credit vc = 0 ∨ s.gateHeld q vc ∨ (w.body.ty ≠ 5 ∧ ¬ s.replayRoom (.canopy q)) then none else some w

/-- A flit on VC 0 or 1 that only a window holds is counted once (Table 15-2). -/
def State.countGate (s : State) (q : Nat) : State :=
  [0, 1].foldl (fun s vc =>
    if (s.vcNext q vc).isSome ∧ (s.port q).credit vc ≠ 0 ∧ s.gateHeld q vc ∧ ¬ s.egs.held.contains (q, vc) then
      (s.setEgs { s.egs with held := s.egs.held ++ [(q, vc)] }).bump BX_EGS_PORT_CNT_GATE_HELD q
    else s) s

/-- A waiting flit leaves the list of a port. -/
def dropFlit (vc : Nat) (x : WaitFlit) : List (Nat × WaitFlit) → List (Nat × WaitFlit)
  | [] => []
  | w :: t => if w = (vc, x) then t else w :: dropFlit vc x t

/-- The buffer a relayed flit held is free again (R384, R385). -/
def State.freeRelay (s : State) (w : WaitFlit) : State :=
  match w.fromPort with
  | some p => s.freeBuf p w.body.vc
  | none => s

/-- A message that a poisoned word keeps from being sent: its waiting flits go, and are counted once (Table 7-7). -/
def State.dropMsg (s : State) (q vc : Nat) (x : WaitFlit) : State :=
  let mine (w : Nat × WaitFlit) : Bool := w.1 = vc && w.2.body.src = x.body.src && w.2.body.dst = x.body.dst
  let pre := ((s.link (.canopy q)).wait.filter mine).takeWhile (fun w => !w.2.body.last)
  let n := pre.length + 1
  let gone := ((s.link (.canopy q)).wait.filter mine).take n
  let s := gone.foldl (fun s w => (s.modLink (.canopy q) (fun l => { l with wait := dropFlit vc w.2 l.wait })).freeRelay w.2) s
  let p := s.port q
  (s.setPort q { p with txOpen := p.txOpen.erase vc }).bump BX_BLZ_PSN_CNT1_CANOPY

/-- A flit leaves on its VC: a credit is taken, its message opens or ends, the buffer it held is freed. -/
def State.sendVc (s : State) (q vc : Nat) (w : WaitFlit) (psn : Bool) : State :=
  let s := s.setEgs { s.egs with held := s.egs.held.filter (fun x => x ≠ (q, vc)) }
  if psn then s.dropMsg q vc w
  else
    let p := s.port q
    let b := w.body
    let s := s.setPort q { p with
      sent := p.sent.set vc ((p.sent.getD vc 0 + 1) % 4096)
      txOpen := if b.last then p.txOpen.erase vc else p.txOpen.set vc (b.src, b.dst) }
    let s := s.modLink (.canopy q) (fun l => { l with wait := dropFlit vc w l.wait })
    let s := if b.ty = 5 then s.sendUnseq (.canopy q) b else s.sendSeq (.canopy q) b
    s.freeRelay w

/-- The flit the egress scheduler released for this boundary. -/
def State.granted (s : State) (q : Nat) : Option (Nat × WaitFlit) :=
  match s.egs.grants.getD q [] with
  | [] => none
  | vc :: _ => (s.vcNext q vc).map (fun w => (vc, w))

/-- The boundary of a Canopy port, after the fixed TIME flit and a resend. -/
def State.canopyBoundary (s : State) (q : Nat) (psn : Bool) : State :=
  let e : LinkId := .canopy q
  let s := s.countGate q
  match s.vcReady q 0 with
  | some w => s.sendVc q 0 w psn
  | none =>
    if (s.link e).nakDue then s.sendNak e
    else
      match s.vcReady q 1 with
      | some w => s.sendVc q 1 w psn
      | none =>
        match s.vcReady q 2 with
        | some w => s.sendVc q 2 w psn
        | none =>
          match (if s.replayRoom e then s.granted q else none) with
          | some (vc, w) => (s.setEgs { s.egs with grants := s.egs.grants.set q ((s.egs.grants.getD q []).drop 1) }).sendVc q vc w psn
          | none => s.sendCtl e

/-- A resend waits until no window of the port is closed to any class (R451). -/
def State.resendHeld (s : State) (e : LinkId) : Bool :=
  match e with
  | .canopy q => (List.range 8).any (fun v => s.gateHeld q v)
  | _ => false

/-- The end sends: ACTIVE, of a ZX40 that runs, and on Canopy no cut-through flit in progress on HOLD words (R390). -/
def State.maySend (s : State) (e : LinkId) : Bool :=
  (s.link e).lstate = .active &&
    match e with
    | .zx => s.zxOn
    | .stem _ => true
    | .canopy q => (s.port q).cut.isNone

/-- The TIME flit fixed for a boundary: one that no marker takes (R151). -/
def State.fixedNow (s : State) (e : LinkId) : Option FlitBody := if s.markerDue e then none else (s.link e).timeFixed

/-- FLIT_TRANSMIT: a flit boundary of a link end. psn tells that a word of the flit chosen read poisoned. Before the partner's first ACTIVE marker only
markers leave; what fills the word cycles between them the spec does not say, and no output shows it (log entry 116). -/
def execFlitTransmit (e : LinkId) (psn : Bool) (s : State) : Host.Outcome State Fault Refusal :=
  if ¬ s.maySend e then done s
  else if ¬ (s.link e).partnerActive then done (if s.noLanes e then s else (s.sendMarkers e).passSlot e)
  else
    match s.fixedNow e with
    | some b => done ((s.modLink e (fun l => { l with timeFixed := none })).sendUnseq e b)
    | none =>
      match (if s.resendHeld e then none else (s.link e).resendFrom) with
      | some r => done (s.sendAgain e r)
      | none =>
        match e with
        | .canopy q => done (s.canopyBoundary q psn)
        | _ => done (s.stemBoundary e psn)

end Sys2Proof.Machine
end

