-- ==== Sys2Proof/Machine/Dispatch.lean ====
section
/-! DEFINITION. One arm per command: its meaning, or its rejection by name. -/
namespace Sys2Proof.Machine
open Sys2Proof

/-- The effect of one command on everything but the queue of waiting commands. -/
def exec (i : Instr) (s : State) : Host.Outcome State Fault Refusal :=
  match i with
  | .zxEpochClose h => Sys2Proof.Machine.execZxEpochClose h s
  | .bxEpochClose => Sys2Proof.Machine.execBxEpochClose s
  | .contextFree => Sys2Proof.Machine.execContextFree s
  | .epochHorizon => Sys2Proof.Machine.execEpochHorizon s
  | .provisionalRevision n => Sys2Proof.Machine.execProvisionalRevision n s
  | .rootCommit => Sys2Proof.Machine.execRootCommit s
  | .commitNotice q src msgId o => Sys2Proof.Machine.execCommitNotice q src msgId o s
  | .epochRead c => Sys2Proof.Machine.execEpochRead c s
  | .epochStatus c => Sys2Proof.Machine.execEpochStatus c s
  | .cfgStage c cfg => Sys2Proof.Machine.execCfgStage c cfg s
  | .cfgDistribution q src msgId m => Sys2Proof.Machine.execCfgDistribution q src msgId m s
  | .cfgApplyAt c => Sys2Proof.Machine.execCfgApplyAt c s
  | .cfgAbort c => Sys2Proof.Machine.execCfgAbort c s
  | .cfgStatus c => Sys2Proof.Machine.execCfgStatus c s
  | .cfgArm q src msgId m => Sys2Proof.Machine.execCfgArm q src msgId m s
  | .cfgApplyInstant p => Sys2Proof.Machine.execCfgApplyInstant p s
  | .wmSync q src m => Sys2Proof.Machine.execWmSync q src m s
  | .registerWrite a w strb => Sys2Proof.Machine.execRegisterWrite a w strb s
  | .zxApbAccessInReset addr write v => Sys2Proof.Machine.execZxApbAccessInReset addr write v s
  | .zxCtrSelWrite n w priv => Sys2Proof.Machine.execZxCtrSelWrite n w priv s
  | .zxLsCtrlWrite v => Sys2Proof.Machine.execZxLsCtrlWrite v s
  | .zxBarArriveWrite v priv => Sys2Proof.Machine.execZxBarArriveWrite v priv s
  | .barrierArrival l => Sys2Proof.Machine.execBarrierArrival l s
  | .tapLatchTimeout t => Sys2Proof.Machine.execTapLatchTimeout t s
  | .tapClockStopped t => Sys2Proof.Machine.execTapClockStopped t s
  | .tapClockResumed t => Sys2Proof.Machine.execTapClockResumed t s
  | .stretchTrip n => Sys2Proof.Machine.execStretchTrip n s
  | .droopTrip n => Sys2Proof.Machine.execDroopTrip n s
  | .testModeRequest level => Sys2Proof.Machine.execTestModeRequest level s
  | .sensorResult id raw err => Sys2Proof.Machine.execSensorResult id raw err s
  | .sensorWindowEnd => Sys2Proof.Machine.execSensorWindowEnd s
  | .groveSVote => Sys2Proof.Machine.execGroveSVote s
  | .poisonAccept => Sys2Proof.Machine.execPoisonAccept s
  | .poisonStuck => Sys2Proof.Machine.execPoisonStuck s
  | .drainBurstIssue n => Sys2Proof.Machine.execDrainBurstIssue n s
  | .drainBresp id ok => Sys2Proof.Machine.execDrainBresp id ok s
  | .zxPowerRequest z => Sys2Proof.Machine.execZxPowerRequest z s
  | .zxColdReset low => Sys2Proof.Machine.execZxColdReset low s
  | .zxWarmReset low => Sys2Proof.Machine.execZxWarmReset low s
  | .zxLocalReset low => Sys2Proof.Machine.execZxLocalReset low s
  | .traceArm n => Sys2Proof.Machine.execTraceArm n s
  | .traceManualTrigger n => Sys2Proof.Machine.execTraceManualTrigger n s
  | .traceRelease n => Sys2Proof.Machine.execTraceRelease n s
  | .trcTrigger c => Sys2Proof.Machine.execTrcTrigger c s
  | .trcRelease c => Sys2Proof.Machine.execTrcRelease c s
  | .traceSourceRecord n => Sys2Proof.Machine.execTraceSourceRecord n s
  | .traceLineTrigger t l => Sys2Proof.Machine.execTraceLineTrigger t l s
  | .traceTimeTrigger n => Sys2Proof.Machine.execTraceTimeTrigger n s
  | .traceDrdWrite n v => Sys2Proof.Machine.execTraceDrdWrite n v s
  | .hangCondition => Sys2Proof.Machine.execHangCondition s
  | .hangTake => Sys2Proof.Machine.execHangTake s
  | .hangReleaseWrite => Sys2Proof.Machine.execHangReleaseWrite s
  | .hangDeclare c => Sys2Proof.Machine.execHangDeclare c s
  | .hangRelease c => Sys2Proof.Machine.execHangRelease c s
  | .hangDumpTaken => Sys2Proof.Machine.execHangDumpTaken s
  | .logResend c => Sys2Proof.Machine.execLogResend c s
  | .stemAckReceive logv epoch => Sys2Proof.Machine.execStemAckReceive logv epoch s
  | .queuePush k h data x last we re => Sys2Proof.Machine.execQueuePush k h data x last we re s
  | .queuePop k h we re => Sys2Proof.Machine.execQueuePop k h we re s
  | .packetCancel k h we re => Sys2Proof.Machine.execPacketCancel k h we re s
  | .queueCntClr k => Sys2Proof.Machine.execQueueCntClr k s
  | .linkResetDone e => Sys2Proof.Machine.execLinkResetDone e s
  | .linkLockDone e => Sys2Proof.Machine.execLinkLockDone e s
  | .linkAlignDone e a => Sys2Proof.Machine.execLinkAlignDone e a s
  | .linkParamDone e lane0 lane3 rxNext peer => Sys2Proof.Machine.execLinkParamDone e lane0 lane3 rxNext peer s
  | .linkTrainTimeout e => Sys2Proof.Machine.execLinkTrainTimeout e s
  | .linkDownHoldExpiry e => Sys2Proof.Machine.execLinkDownHoldExpiry e s
  | .linkLockLoss e locks => Sys2Proof.Machine.execLinkLockLoss e locks s
  | .linkMarkerMiss m => Sys2Proof.Machine.execLinkMarkerMiss m s
  | .linkNoFlitTimeout e => Sys2Proof.Machine.execLinkNoFlitTimeout e s
  | .zxStmRetrainWrite v => Sys2Proof.Machine.execZxStmRetrainWrite v s
  | .stemPortRetrainWrite p => Sys2Proof.Machine.execStemPortRetrainWrite p s
  | .stemPortHoldWrite p hold => Sys2Proof.Machine.execStemPortHoldWrite p hold s
  | .cnpPortRetrainWrite q => Sys2Proof.Machine.execCnpPortRetrainWrite q s
  | .stemPortCtrl c => Sys2Proof.Machine.execStemPortCtrl c s
  | .flitReceive e words => Sys2Proof.Machine.execFlitReceive e words s
  | .nakTimerExpiry e => Sys2Proof.Machine.execNakTimerExpiry e s
  | .replayTimerExpiry e => Sys2Proof.Machine.execReplayTimerExpiry e s
  | .ackTimerExpiry e => Sys2Proof.Machine.execAckTimerExpiry e s
  | .flitTransmit e psn => Sys2Proof.Machine.execFlitTransmit e psn s
  | .snapReceive p bs resent poison => Sys2Proof.Machine.execSnapReceive p bs resent poison s
  | .alarmReceive p h payload verdict => Sys2Proof.Machine.execAlarmReceive p h payload verdict s
  | .traceReceive p sub bs => Sys2Proof.Machine.execTraceReceive p sub bs s
  | .blazeReceive p payload => Sys2Proof.Machine.execBlazeReceive p payload s
  | .capsCommandReceive b => Sys2Proof.Machine.execCapsCommandReceive b s
  | .capsReplyReceive p tag status reason results => Sys2Proof.Machine.execCapsReplyReceive p tag status reason results s
  | .incarnationReadReply p id => Sys2Proof.Machine.execIncarnationReadReply p id s
  | .zxAdmit c => Sys2Proof.Machine.execZxAdmit c s
  | .zxShadowWrite c => Sys2Proof.Machine.execZxShadowWrite c s
  | .zxGrsImageWrite c => Sys2Proof.Machine.execZxGrsImageWrite c s
  | .zxCfgDone c => Sys2Proof.Machine.execZxCfgDone c s
  | .zxArm c => Sys2Proof.Machine.execZxArm c s
  | .zxCfgDrop c => Sys2Proof.Machine.execZxCfgDrop c s
  | .zxLcSet c => Sys2Proof.Machine.execZxLcSet c s
  | .zxWtSet c => Sys2Proof.Machine.execZxWtSet c s
  | .delayRespReceive exch t4 => Sys2Proof.Machine.execDelayRespReceive exch t4 s
  | .syncSend ahead cahead => Sys2Proof.Machine.execSyncSend ahead cahead s
  | .syncReceive exch period origin corr ago ahead => Sys2Proof.Machine.execSyncReceive exch period origin corr ago ahead s
  | .delayReqReceive p exch ago ahead => Sys2Proof.Machine.execDelayReqReceive p exch ago ahead s
  | .canopySyncReceive q src msg ago ahead => Sys2Proof.Machine.execCanopySyncReceive q src msg ago ahead s
  | .canopyDelayReqReceive q src msg ago => Sys2Proof.Machine.execCanopyDelayReqReceive q src msg ago s
  | .canopyDelayRespReceive f msg => Sys2Proof.Machine.execCanopyDelayRespReceive f msg s
  | .timeRelay q sub src dst hops msg ago ahead => Sys2Proof.Machine.execTimeRelay q sub src dst hops msg ago ahead s
  | .ppsEdge ago wide => Sys2Proof.Machine.execPpsEdge ago wide s
  | .todFrame f => Sys2Proof.Machine.execTodFrame f s
  | .resync c => Sys2Proof.Machine.execResync c s
  | .resyncGrantLapse part => Sys2Proof.Machine.execResyncGrantLapse part s
  | .tbSourceLost part => Sys2Proof.Machine.execTbSourceLost part s
  | .holdoverExpiry part => Sys2Proof.Machine.execHoldoverExpiry part s
  | .lacFire k => Sys2Proof.Machine.execLacFire k s
  | .lacArm k v => Sys2Proof.Machine.execLacArm k v s
  | .ppsOutput => Sys2Proof.Machine.execPpsOutput s
  | .timeSrcSet c => Sys2Proof.Machine.execTimeSrcSet c s
  | .timeRead c => Sys2Proof.Machine.execTimeRead c s
  | .timeStatus c => Sys2Proof.Machine.execTimeStatus c s
  | .ppsSet c => Sys2Proof.Machine.execPpsSet c s
  | .taprootTimeLatch answered => Sys2Proof.Machine.execTaprootTimeLatch answered s
  | .blazeClassify u => Sys2Proof.Machine.execBlazeClassify u s
  | .blazeRefetchTimeout u k => Sys2Proof.Machine.execBlazeRefetchTimeout u k s
  | .blzFlushRf u => Sys2Proof.Machine.execBlzFlushRf u s
  | .blzCntClr u => Sys2Proof.Machine.execBlzCntClr u s
  | .blzCfgWrite part u which v => Sys2Proof.Machine.execBlzCfgWrite part u which v s
  | .bxBlazeCheck u form b => Sys2Proof.Machine.execBxBlazeCheck u form b s
  | .blazeReread u w data poisoned => Sys2Proof.Machine.execBlazeReread u w data poisoned s
  | .partialFlush n ecc => Sys2Proof.Machine.execPartialFlush n ecc s
  | .partialReady n => Sys2Proof.Machine.execPartialReady n s
  | .supplementPartial n => Sys2Proof.Machine.execSupplementPartial n s
  | .partialReceive q src msgId p ecc => Sys2Proof.Machine.execPartialReceive q src msgId p ecc s
  | .vectorBuild n committed poisoned => Sys2Proof.Machine.execVectorBuild n committed poisoned s
  | .groveScore d k committed fault => Sys2Proof.Machine.execGroveScore d k committed fault s
  | .groveVecReceive q src slot part num v fault => Sys2Proof.Machine.execGroveVecReceive q src slot part num v fault s
  | .groveSumsReceive f num part fault modelId modelVer sums => Sys2Proof.Machine.execGroveSumsReceive f num part fault modelId modelVer sums s
  | .groveSplitTimeout num => Sys2Proof.Machine.execGroveSplitTimeout num s
  | .grsCheck d n => Sys2Proof.Machine.execGrsCheck d n s
  | .groveLoad c => Sys2Proof.Machine.execGroveLoad c s
  | .groveUnload c => Sys2Proof.Machine.execGroveUnload c s
  | .groveInfo c => Sys2Proof.Machine.execGroveInfo c s
  | .groveEval c fault => Sys2Proof.Machine.execGroveEval c fault s
  | .grovePeerBind c answer => Sys2Proof.Machine.execGrovePeerBind c answer s
  | .groveScoreRead c => Sys2Proof.Machine.execGroveScoreRead c s
  | .groveGrsImage c => Sys2Proof.Machine.execGroveGrsImage c s
  | .groveGrsRefresh c => Sys2Proof.Machine.execGroveGrsRefresh c s
  | .grvLaneCtrlWrite v => Sys2Proof.Machine.execGrvLaneCtrlWrite v s
  | .digestReceive q src msgId g => Sys2Proof.Machine.execDigestReceive q src msgId g s
  | .barWaitExpiry home num => Sys2Proof.Machine.execBarWaitExpiry home num s
  | .lagReturnReceive q src msgId home group n vals => Sys2Proof.Machine.execLagReturnReceive q src msgId home group n vals s
  | .probeRetryTimeout d => Sys2Proof.Machine.execProbeRetryTimeout d s
  | .probeReplyReceive d status => Sys2Proof.Machine.execProbeReplyReceive d status s
  | .testDeadline d => Sys2Proof.Machine.execTestDeadline d s
  | .testRunTimeout d => Sys2Proof.Machine.execTestRunTimeout d s
  | .lagRead c => Sys2Proof.Machine.execLagRead c s
  | .driftRead c => Sys2Proof.Machine.execDriftRead c s
  | .suspectRead c => Sys2Proof.Machine.execSuspectRead c s
  | .suspectClear c => Sys2Proof.Machine.execSuspectClear c s
  | .lookoutReport c => Sys2Proof.Machine.execLookoutReport c s
  | .lookoutAdmit c => Sys2Proof.Machine.execLookoutAdmit c s
  | .lookoutStatus c => Sys2Proof.Machine.execLookoutStatus c s
  | .lookoutProbe c => Sys2Proof.Machine.execLookoutProbe c s
  | .dieFence c => Sys2Proof.Machine.execDieFence c s
  | .testRequest c => Sys2Proof.Machine.execTestRequest c s
  | .testStart c => Sys2Proof.Machine.execTestStart c s
  | .testResult c => Sys2Proof.Machine.execTestResult c s
  | .testCancel c => Sys2Proof.Machine.execTestCancel c s
  | .apdLoad c => Sys2Proof.Machine.execApdLoad c s
  | .apdUnload c => Sys2Proof.Machine.execApdUnload c s
  | .apdInfo c => Sys2Proof.Machine.execApdInfo c s
  | .replayRun c => Sys2Proof.Machine.execReplayRun c s
  | .replayCancel c => Sys2Proof.Machine.execReplayCancel c s
  | .replayStatus c => Sys2Proof.Machine.execReplayStatus c s
  | .replayUnit c => Sys2Proof.Machine.execReplayUnit c s
  | .replayGen c => Sys2Proof.Machine.execReplayGen c s
  | .replayCrosscheck c => Sys2Proof.Machine.execReplayCrosscheck c s
  | .replayPlace => Sys2Proof.Machine.execReplayPlace s
  | .replayBankFilled k => Sys2Proof.Machine.execReplayBankFilled k s
  | .replayJobEnd k r1 r2 r3 => Sys2Proof.Machine.execReplayJobEnd k r1 r2 r3 s
  | .replayXlateFault k other va cause => Sys2Proof.Machine.execReplayXlateFault k other va cause s
  | .replayKat e pass => Sys2Proof.Machine.execReplayKat e pass s
  | .stepAnnounce c => Sys2Proof.Machine.execStepAnnounce c s
  | .stepOperands c => Sys2Proof.Machine.execStepOperands c s
  | .operandWaitExpiry => Sys2Proof.Machine.execOperandWaitExpiry s
  | .gateWaitExpiry => Sys2Proof.Machine.execGateWaitExpiry s
  | .stepCommit job => Sys2Proof.Machine.execStepCommit job s
  | .jobOpen c => Sys2Proof.Machine.execJobOpen c s
  | .placementMigrate c => Sys2Proof.Machine.execPlacementMigrate c s
  | .commitPolicySet c => Sys2Proof.Machine.execCommitPolicySet c s
  | .commitStatus c => Sys2Proof.Machine.execCommitStatus c s
  | .ledgerRead c => Sys2Proof.Machine.execLedgerRead c s
  | .ledgerHead c => Sys2Proof.Machine.execLedgerHead c s
  | .jobClose c => Sys2Proof.Machine.execJobClose c s
  | .helloReceive q uid fleet agg partition boot gen => Sys2Proof.Machine.execHelloReceive q uid fleet agg partition boot gen s
  | .helloResend q => Sys2Proof.Machine.execHelloResend q s
  | .lsaReceive q l => Sys2Proof.Machine.execLsaReceive q l s
  | .lsaRefresh => Sys2Proof.Machine.execLsaRefresh s
  | .lsaExpiry => Sys2Proof.Machine.execLsaExpiry s
  | .relayWaitTimeout q => Sys2Proof.Machine.execRelayWaitTimeout q s
  | .broadcastReceive q sub src payload => Sys2Proof.Machine.execBroadcastReceive q sub src payload s
  | .canopyAlarmReceive q sub src payload => Sys2Proof.Machine.execCanopyAlarmReceive q sub src payload s
  | .cutThroughHoldLimit q => Sys2Proof.Machine.execCutThroughHoldLimit q s
  | .recordReceive q src bytes => Sys2Proof.Machine.execRecordReceive q src bytes s
  | .e2eRepeat => Sys2Proof.Machine.execE2eRepeat s
  | .e2eAckReceive q msgId => Sys2Proof.Machine.execE2eAckReceive q msgId s
  | .mirrorReceive q src msgId m => Sys2Proof.Machine.execMirrorReceive q src msgId m s
  | .heartbeatSend => Sys2Proof.Machine.execHeartbeatSend s
  | .heartbeatReceive q src boot role epoch wm => Sys2Proof.Machine.execHeartbeatReceive q src boot role epoch wm s
  | .peerLostDeclare a => Sys2Proof.Machine.execPeerLostDeclare a s
  | .peerLostReceive a boot ep => Sys2Proof.Machine.execPeerLostReceive a boot ep s
  | .peerBackReceive a boot ep => Sys2Proof.Machine.execPeerBackReceive a boot ep s
  | .peerDeclare c => Sys2Proof.Machine.execPeerDeclare c s
  | .firebreakFence c => Sys2Proof.Machine.execFirebreakFence c s
  | .fenceInstant => Sys2Proof.Machine.execFenceInstant s
  | .firebreakClear c => Sys2Proof.Machine.execFirebreakClear c s
  | .unfenceInstant => Sys2Proof.Machine.execUnfenceInstant s
  | .canopyIdentSet c => Sys2Proof.Machine.execCanopyIdentSet c s
  | .canopyPortCtrl c => Sys2Proof.Machine.execCanopyPortCtrl c s
  | .canopyTopoRead c => Sys2Proof.Machine.execCanopyTopoRead c s
  | .fabricStatus c => Sys2Proof.Machine.execFabricStatus c s
  | .memLayoutSet c => Sys2Proof.Machine.execMemLayoutSet c s
  | .memPartitionSet c => Sys2Proof.Machine.execMemPartitionSet c s
  | .xlateInval c => Sys2Proof.Machine.execXlateInval c s
  | .xlateProbe c => Sys2Proof.Machine.execXlateProbe c s
  | .dmaChSet c => Sys2Proof.Machine.execDmaChSet c s
  | .dmaResume c => Sys2Proof.Machine.execDmaResume c s
  | .dmaStatus c => Sys2Proof.Machine.execDmaStatus c s
  | .dmaDoorbell c tail => Sys2Proof.Machine.execDmaDoorbell c tail s
  | .dmaChunk deferred host u => Sys2Proof.Machine.execDmaChunk deferred host u s
  | .patrolScrub corrected bad snaps => Sys2Proof.Machine.execPatrolScrub corrected bad snaps s
  | .stagingFlush id => Sys2Proof.Machine.execStagingFlush id s
  | .codecBlock id u poisoned => Sys2Proof.Machine.execCodecBlock id u poisoned s
  | .traceStoreSet c => Sys2Proof.Machine.execTraceStoreSet c s
  | .traceStoreStatus c => Sys2Proof.Machine.execTraceStoreStatus c s
  | .refillTick => Sys2Proof.Machine.execRefillTick s
  | .egressRelease q => Sys2Proof.Machine.execEgressRelease q s
  | .shaperSet c => Sys2Proof.Machine.execShaperSet c s
  | .shaperClearDebt c => Sys2Proof.Machine.execShaperClearDebt c s
  | .shaperRead c => Sys2Proof.Machine.execShaperRead c s
  | .gateSet c => Sys2Proof.Machine.execGateSet c s
  | .gateStatus c => Sys2Proof.Machine.execGateStatus c s
  | .sqDoorbell f q tail => Sys2Proof.Machine.execSqDoorbell f q tail s
  | .cqHeadWrite f q head => Sys2Proof.Machine.execCqHeadWrite f q head s
  | .evHeadWrite f head => Sys2Proof.Machine.execEvHeadWrite f head s
  | .qpEnable f q => Sys2Proof.Machine.execQpEnable f q s
  | .qpDisable f q => Sys2Proof.Machine.execQpDisable f q s
  | .capsuleFetch ws block data err poison host => Sys2Proof.Machine.execCapsuleFetch ws block data err poison host s
  | .capsuleReply cqErr => Sys2Proof.Machine.execCapsuleReply cqErr s
  | .execTimeout => Sys2Proof.Machine.execExecTimeout s
  | .relayTimeout => Sys2Proof.Machine.execRelayTimeout s
  | .relayedCapsuleReceive e src ws block data => Sys2Proof.Machine.execRelayedCapsuleReceive e src ws block data s
  | .relayedReplyReceive e src ws => Sys2Proof.Machine.execRelayedReplyReceive e src ws s
  | .flr f => Sys2Proof.Machine.execFlr f s
  | .eventPost f kind body => Sys2Proof.Machine.execEventPost f kind body s
  | .mctpMessage pecOk som eom seq body => Sys2Proof.Machine.execMctpMessage pecOk som eom seq body s
  | .setEndpointId eid => Sys2Proof.Machine.execSetEndpointId eid s
  | .getEndpointId => Sys2Proof.Machine.execGetEndpointId s
  | .getEndpointUuid => Sys2Proof.Machine.execGetEndpointUuid s
  | .getMctpVersionSupport ty => Sys2Proof.Machine.execGetMctpVersionSupport ty s
  | .getMessageTypeSupport => Sys2Proof.Machine.execGetMessageTypeSupport s
  | .bootMailboxGo => Sys2Proof.Machine.execBootMailboxGo s
  | .wardenRestart => Sys2Proof.Machine.execWardenRestart s
  | .sysNop c => Sys2Proof.Machine.execSysNop c s
  | .sysInfo c => Sys2Proof.Machine.execSysInfo c s
  | .sysStatus c => Sys2Proof.Machine.execSysStatus c s
  | .sysResetWarm c => Sys2Proof.Machine.execSysResetWarm c s
  | .sysResetCold c => Sys2Proof.Machine.execSysResetCold c s
  | .sysResetStemPort c => Sys2Proof.Machine.execSysResetStemPort c s
  | .sysResetCanopyPort c => Sys2Proof.Machine.execSysResetCanopyPort c s
  | .sysResetCluster c => Sys2Proof.Machine.execSysResetCluster c s
  | .powerSet c => Sys2Proof.Machine.execPowerSet c s
  | .p2Entry => Sys2Proof.Machine.execP2Entry s
  | .powerThrottle w => Sys2Proof.Machine.execPowerThrottle w s
  | .fwUpdate c => Sys2Proof.Machine.execFwUpdate c s
  | .fwActivate c => Sys2Proof.Machine.execFwActivate c s
  | .fwInfo c => Sys2Proof.Machine.execFwInfo c s
  | .zxRegRead c => Sys2Proof.Machine.execZxRegRead c s
  | .zxRegWrite c => Sys2Proof.Machine.execZxRegWrite c s
  | .hwRead c => Sys2Proof.Machine.execHwRead c s
  | .hwClear c => Sys2Proof.Machine.execHwClear c s
  | .safetyStatus c => Sys2Proof.Machine.execSafetyStatus c s
  | .hangDumpRead c => Sys2Proof.Machine.execHangDumpRead c s
  | .lcStatus c => Sys2Proof.Machine.execLcStatus c s
  | .lcTransition c => Sys2Proof.Machine.execLcTransition c s
  | .wtArm c => Sys2Proof.Machine.execWtArm c s
  | .wtDisarm c => Sys2Proof.Machine.execWtDisarm c s
  | .wtStatus c => Sys2Proof.Machine.execWtStatus c s
  | .wedgeDeclare causes => Sys2Proof.Machine.execWedgeDeclare causes s
  | .tapKick v => Sys2Proof.Machine.execTapKick v s
  | .bxHangDumpHeld branches late => Sys2Proof.Machine.execBxHangDumpHeld branches late s
  | .safetyDetection code idx args die inj degraded => Sys2Proof.Machine.execSafetyDetection code idx args die inj degraded s
  | .latentTest code idx args pass degraded => Sys2Proof.Machine.execLatentTest code idx args pass degraded s
  | .heartwoodRequest ev => Sys2Proof.Machine.execHeartwoodRequest ev s
  | .taprootSelfReset => Sys2Proof.Machine.execTaprootSelfReset s
  | .jtagExtest bits_ => Sys2Proof.Machine.execJtagExtest bits_ s
  | .jtagIdcode => Sys2Proof.Machine.execJtagIdcode s
  | .jtagSamplePreload bits_ => Sys2Proof.Machine.execJtagSamplePreload bits_ s
  | .jtagHdRead => Sys2Proof.Machine.execJtagHdRead s
  | .jtagBypass bits_ => Sys2Proof.Machine.execJtagBypass bits_ s
  | .powerOn => Sys2Proof.Machine.execPowerOn s
  | .railBelowMinimum => Sys2Proof.Machine.execRailBelowMinimum s
  | .clearingDone => Sys2Proof.Machine.execClearingDone s
  | .bringupRailsUp ok => Sys2Proof.Machine.execBringupRailsUp ok s
  | .bringupPllLock ok => Sys2Proof.Machine.execBringupPllLock ok s
  | .pcieLinkUp => Sys2Proof.Machine.execPcieLinkUp s
  | .hbmTrainingDone ok => Sys2Proof.Machine.execHbmTrainingDone ok s
  | .bringupTimeout step => Sys2Proof.Machine.execBringupTimeout step s
  | .readWaitExpiry => Sys2Proof.Machine.execReadWaitExpiry s
  | .regionTapSample edge => Sys2Proof.Machine.execRegionTapSample edge s
  | .quietWindowEdge => Sys2Proof.Machine.execQuietWindowEdge s
  | .mirrorRestoreReceive q src msgId items => Sys2Proof.Machine.execMirrorRestoreReceive q src msgId items s
  | .cnpPortHoldWrite q hold => Sys2Proof.Machine.execCnpPortHoldWrite q hold s
  | .powerLoss => Sys2Proof.Machine.execPowerLoss s
  | .registerRead a => Sys2Proof.Machine.execRegisterRead a s

end Sys2Proof.Machine
end

