-- ==== Sys2Proof/Safety.lean ====
section
/-! DEFINITION. What claims are stated in: a command that answers a next state, what a reply says, the canonical form of a state, and
what a command leaves alone. -/
namespace Sys2Proof.Machine
open Sys2Proof

/-- The command answers a next state, of which P holds. -/
def Answers (i : Instr) (s : State) (P : State → Prop) : Prop := ∃ t, exec i s = .next t ∧ P t

/-- A machine that neither faults nor refuses at its next step. -/
def State.Safe (s : State) : Prop := ∃ t, step s = .next t

/-- The newest reply formed at BX64: the capsule it answers, the opcode, the status and the results (Table 16-2). -/
def State.lastReply (t : State) : Option (Cap × Nat × Nat × List Nat) :=
  t.wdn.replies.getLast?.map (fun (r : Reply) => (r.cap, r.op, r.status, r.results))

/-- The newest reply formed at BX64 is to capsule c under an opcode, with a status and these results. -/
abbrev State.replied (t : State) (c : Cap) (op status : Nat) (results : List Nat) : Prop := t.lastReply = some (c, op, status, results)

/-- The newest reply formed at BX64 is to capsule c under an opcode, with a status, whatever its results. -/
abbrev State.answered (t : State) (c : Cap) (op status : Nat) : Prop := t.lastReply.map (fun r => (r.1, r.2.1, r.2.2.1)) = some (c, op, status)

/-- The newest reply formed at BX64 takes these bytes to the capsule's REPLY_PTR (R465). -/
abbrev State.wrote (t : State) (c : Cap) (b : Bytes) : Prop :=
  t.wdn.replies.getLast?.bind (fun (r : Reply) => r.hostWrite) = some (c.replyPtr, b)

/-- One reply is formed after those that wait, and nothing else changes. -/
abbrev State.onlyReply (s t : State) : Prop :=
  { t with wdn := { t.wdn with replies := s.wdn.replies } } = s ∧ t.wdn.replies.dropLast = s.wdn.replies ∧
    t.wdn.replies.length = s.wdn.replies.length + 1

/-- Reply word 0 of a ZX40 (Table 16-2). -/
def zxReplyWord (tag op status reason : Nat) : Nat := packFields [(48, 16, op), (32, 16, tag), (24, 8, status), (16, 8, reason)]

/-- A CAPS reply of the ZX40 with this status waits to be sent up its Stem link (R146). -/
abbrev State.zxReplied (t : State) (c : Cap) (op status : Nat) (results : List Nat) (reason : Nat := 0) : Prop :=
  ∃ w ∈ (t.link .zx).wait, w.2.body.ty = 4 ∧ w.2.body.sub = 1 ∧
    w.2.body.payload = padTo 64 (wordBytes ([zxReplyWord c.tag op status reason, 0] ++ results))

/-- Light-set counter k has counted n more, modulo 2^64, unless the light set is stopped (R69, R70). -/
abbrev State.lsUp (s t : State) (k n : Nat) : Prop :=
  t.rd ZX_LS_VAL_VAL k = (if s.flag ZX_LS_CTRL_DIS then s.rd ZX_LS_VAL_VAL k else (s.rd ZX_LS_VAL_VAL k + n) % 2 ^ 64)

/-- A counter field that saturates has counted n more. -/
abbrev State.counted (s t : State) (f : Fld) (i n : Nat) : Prop := t.rd f i = min f.max (s.rd f i + n)

/-- Every register field outside a list of registers reads as before. -/
def RegsKept (rs : List Reg) (s t : State) : Prop := ∀ (f : Fld) (i : Nat), f.lo < 64 → f.reg ∉ rs → t.rd f i = s.rd f i

/-- Every byte of HBM outside n bytes from an address reads as before. -/
def HbmKeptOutside (a n : Nat) (s t : State) : Prop :=
  ∀ b, (b < a ∨ a + n ≤ b) → cellGet t.hbm.cells b = cellGet s.hbm.cells b

/-- Every byte of HBM reads as before. -/
def HbmKept (s t : State) : Prop := ∀ b, cellGet t.hbm.cells b = cellGet s.hbm.cells b

/-- The capsule is answered S_DENIED under an opcode, counted, and nothing else changes. -/
def Denies (i : Instr) (s : State) (c : Cap) (op : Nat) : Prop :=
  Answers i s (fun u => u.replied c op S_DENIED [] ∧ s.counted u BX_WDN_CNT0_DENIED 0 1 ∧ { u with wdn := s.wdn, regs := s.regs } = s)

/-- The capsule is answered under an opcode, and not S_DENIED. -/
def Accepts (i : Instr) (s : State) (c : Cap) (op : Nat) : Prop :=
  Answers i s (fun u => ∃ st, st ≠ S_DENIED ∧ u.answered c op st)

/-- The command reads: it changes nothing but the replies formed and the counters of the Warden. -/
def Reads (i : Instr) (s : State) : Prop :=
  Answers i s (fun u => { u with wdn := s.wdn, regs := s.regs } = s ∧ { u.wdn with replies := s.wdn.replies } = s.wdn ∧
    RegsKept [.BX_WDN_CNT0, .BX_WDN_CNT1] s u)

/-- The keys of a map rise strictly, from a bound on. -/
def keysRise {α : Type} : Nat → List (Nat × α) → Bool
  | _, [] => true
  | lo, e :: t => decide (lo ≤ e.1) && keysRise (e.1 + 1) t

/-- The canonical form of a state: HBM's bytes are listed in ascending order with no zero listed, and the register fields in ascending order,
so that equal contents are equal data. -/
def State.Inv (s : State) : Prop := Memory.wf s.hbm.cells = true ∧ keysRise 0 s.regs = true

end Sys2Proof.Machine

namespace Sys2Proof.Instr
open Sys2Proof.Machine

/-- The commands that may change HBM, its tables or its regions: those that store to it, patrol it, map it, or end what holds it, and the
resets. -/
def changesHbm : Instr → Bool
  | .rootCommit | .commitNotice .. | .wmSync .. | .registerWrite .. | .traceReceive .. | .blazeReceive .. | .bxBlazeCheck ..
  | .blazeReread .. | .replayRun .. | .replayCancel .. | .replayCrosscheck .. | .replayPlace | .replayJobEnd .. | .replayBankFilled ..
  | .stepAnnounce .. | .stepOperands .. | .operandWaitExpiry | .gateWaitExpiry | .stepCommit .. | .placementMigrate .. | .jobClose ..
  | .recordReceive .. | .memPartitionSet .. | .xlateInval .. | .dmaChSet .. | .dmaResume .. | .dmaChunk .. | .flr .. | .patrolScrub ..
  | .stagingFlush .. | .codecBlock .. | .traceStoreSet .. | .sysResetWarm .. | .sysResetCold .. | .sysResetCluster .. | .lcTransition ..
  | .wedgeDeclare .. | .bxHangDumpHeld .. | .safetyDetection .. | .latentTest .. | .powerOn | .railBelowMinimum | .hbmTrainingDone ..
  | .bringupTimeout .. | .powerLoss => true
  | _ => false

/-- The commands that act at the ZX40 or carry something to it. -/
def changesZx : Instr → Bool
  | .zxEpochClose .. | .cfgApplyInstant .. | .registerWrite .. | .zxCtrSelWrite .. | .zxBarArriveWrite .. | .barrierArrival ..
  | .tapLatchTimeout .. | .tapClockStopped .. | .tapClockResumed .. | .stretchTrip .. | .testModeRequest .. | .sensorResult ..
  | .sensorWindowEnd | .groveSVote | .poisonAccept | .poisonStuck | .drainBurstIssue .. | .drainBresp .. | .zxPowerRequest ..
  | .zxColdReset .. | .zxWarmReset .. | .zxLocalReset .. | .traceArm .. | .traceManualTrigger .. | .traceRelease .. | .trcTrigger ..
  | .trcRelease .. | .traceSourceRecord .. | .traceLineTrigger .. | .traceTimeTrigger .. | .hangCondition | .hangTake | .hangReleaseWrite
  | .hangDeclare .. | .hangRelease .. | .logResend .. | .linkResetDone .. | .linkParamDone .. | .flitTransmit .. | .capsCommandReceive ..
  | .zxAdmit .. | .zxShadowWrite .. | .zxGrsImageWrite .. | .zxCfgDone .. | .zxArm .. | .zxCfgDrop .. | .zxLcSet .. | .zxWtSet ..
  | .delayRespReceive .. | .syncReceive .. | .canopySyncReceive .. | .canopyDelayRespReceive .. | .ppsEdge .. | .resync ..
  | .resyncGrantLapse .. | .tbSourceLost .. | .holdoverExpiry .. | .lacFire .. | .lacArm .. | .blazeClassify .. | .blazeRefetchTimeout ..
  | .blzFlushRf .. | .lookoutProbe .. | .zxRegRead .. | .zxRegWrite .. | .safetyDetection .. | .latentTest .. | .regionTapSample ..
  | .quietWindowEdge | .registerRead .. => true
  | _ => false

/-- The commands that may change the jobs, steps and ledgers of the commit gate. -/
def changesGate : Instr → Bool
  | .blazeReceive .. | .replayCancel .. | .replayPlace | .replayJobEnd .. | .stepAnnounce .. | .stepOperands .. | .operandWaitExpiry
  | .gateWaitExpiry | .stepCommit .. | .jobOpen .. | .placementMigrate .. | .jobClose .. | .memPartitionSet .. | .sysResetWarm ..
  | .sysResetCold .. | .sysResetCluster .. | .lcTransition .. | .wedgeDeclare .. | .bxHangDumpHeld .. | .safetyDetection ..
  | .latentTest .. | .powerOn | .railBelowMinimum | .hbmTrainingDone .. | .bringupTimeout .. | .powerLoss => true
  | _ => false

/-- The commands of bring-up, power and reset. -/
def changesPower : Instr → Bool
  | .registerWrite .. | .sysResetWarm .. | .sysResetCold .. | .powerSet .. | .p2Entry | .powerThrottle .. | .lcTransition ..
  | .wedgeDeclare .. | .bxHangDumpHeld .. | .safetyDetection .. | .latentTest .. | .powerOn | .railBelowMinimum | .clearingDone | .bringupRailsUp ..
  | .bringupPllLock .. | .pcieLinkUp | .hbmTrainingDone .. | .bringupTimeout .. | .powerLoss => true
  | _ => false

/-- The commands that act on queues of chapter 4: their own, a write of their registers, a flit that comes in through the crossing queues, and
what resets a part. -/
def changesQueues : Instr → Bool
  | .registerWrite .. | .queuePush .. | .queuePop .. | .packetCancel .. | .queueCntClr .. | .flitReceive .. | .flitTransmit ..
  | .zxPowerRequest .. | .zxColdReset .. | .zxWarmReset .. | .zxLocalReset .. | .sysResetStemPort .. | .sysResetCanopyPort ..
  | .sysResetCluster .. | .sysResetWarm .. | .sysResetCold .. | .lcTransition .. | .wedgeDeclare .. | .bxHangDumpHeld ..
  | .safetyDetection .. | .latentTest .. | .powerOn | .railBelowMinimum | .hbmTrainingDone .. | .bringupTimeout .. | .powerLoss => true
  | _ => false

/-- The commands that act on the egress shapers, or reset. -/
def changesEgress : Instr → Bool
  | .flitTransmit .. | .dmaChunk .. | .refillTick | .egressRelease .. | .shaperSet .. | .shaperClearDebt .. | .gateSet ..
  | .sysResetWarm .. | .sysResetCold .. | .lcTransition .. | .wedgeDeclare .. | .bxHangDumpHeld .. | .safetyDetection .. | .latentTest ..
  | .powerOn | .railBelowMinimum | .hbmTrainingDone .. | .bringupTimeout .. | .powerLoss => true
  | _ => false

/-- The commands after which a cold reset may follow at once. -/
def coldResets : Instr → Bool
  | .sysResetCold .. | .powerOn | .railBelowMinimum | .powerLoss | .hbmTrainingDone .. | .bringupTimeout .. | .wedgeDeclare .. | .bxHangDumpHeld ..
  | .safetyDetection .. | .latentTest .. => true
  | _ => false

end Sys2Proof.Instr
end

