-- ==== Sys2Proof/Machine/Operands.lean ====
section
/-! DEFINITION. The ranges of the commands' operands: which port, function, channel, unit or word an operand may name. -/
namespace Sys2Proof.Machine

/-- A 16-bit, a 32-bit and a 64-bit word. -/
def u16Ok (n : Nat) : Bool := decide (n < 2 ^ 16)
def u32Ok (n : Nat) : Bool := decide (n < 2 ^ 32)
def wordOk (n : Nat) : Bool := decide (n < 2 ^ 64)

/-- A Stem port of BX64 that has lanes: 0 to 63 (R3). -/
def stemOk (p : Nat) : Bool := decide (p < 64)

/-- A die of this BX64: its Stem port, or 64 for the self-monitoring ZX40 (R2, R209). -/
def localDieOk (p : Nat) : Bool := decide (p ≤ 64)

/-- A Canopy port: 0 to 23. -/
def canopyOk (q : Nat) : Bool := decide (q < 24)

/-- An egress port: a Canopy port, or 24 for the drain (R444). -/
def egressOk (q : Nat) : Bool := decide (q ≤ 24)

/-- A link end exists. -/
def linkOk (e : LinkId) : Bool :=
  match e with
  | .zx => true
  | .stem p => localDieOk p
  | .canopy q => canopyOk q

/-- A lane word of a link: 64 bits on Stem, 128 on Canopy (R129, Table 13-1), 256 where there are no lanes (R137). -/
def laneWordOk (e : LinkId) (w : Nat) : Bool :=
  decide (w < match e with
    | .canopy _ => 2 ^ 128
    | .stem 64 => 2 ^ 256
    | _ => 2 ^ 64)

/-- The words of one flit: 8 word cycles of four lanes (R130), on Canopy with HOLD words among them (R375); 8 words where there are no lanes. -/
def laneWordsOk (e : LinkId) (ws : List Nat) : Bool :=
  ws.all (laneWordOk e) && match e with
    | .canopy _ => decide (32 ≤ ws.length ∧ ws.length % 4 = 0)
    | .stem 64 => decide (ws.length = 8)
    | _ => decide (ws.length = 32)

/-- An aggregator address: 12 bits (R3). -/
def aggOk (a : Nat) : Bool := decide (a < 4096)

/-- A die's address: its aggregator's 12 bits over the 6 bits of its port (R3). -/
def dieAddrOk (d : Nat) : Bool := decide (d < 2 ^ 18)

/-- An epoch number: 48 bits (R20). -/
def epochNumOk (n : Nat) : Bool := decide (n < 2 ^ 48)

/-- A PCIe function: 0 the PF, 1 to 63 the VFs. -/
def fnOk (f : Nat) : Bool := decide (f < 64)

/-- A queue pair of a function. -/
def qpOk (q : Nat) : Bool := decide (q < 4)

/-- A DMA channel (R424). -/
def chanOk (c : Nat) : Bool := decide (c < 128)

/-- A trace buffer (R85). -/
def bufferOk (n : Nat) : Bool := decide (n < 8)

/-- A region tap and a line of it. -/
def tapNumOk (t : Nat) : Bool := decide (t < 128)
def lineOk (l : Nat) : Bool := decide (l < 64)

/-- A Blaze check unit of ZX40 (R192). -/
def unitOk (u : Nat) : Bool := decide (u < 16)

/-- A word address of ZX40's APB space (Table 2-23). -/
def apbOk (a : Nat) : Bool := decide (a < 2 ^ 20) && decide (a % 4 = 0)

/-- A register access names a word, or a register BX64 has. -/
def RegAcc.ok (a : RegAcc) : Bool :=
  match a with
  | .apb addr _ => apbOk addr
  | .bar f r i => fnOk f && bxHas r i

/-- A capsule in execution: a path of ORIGIN, a tenant, a function and queue pair, a TAG and 64-bit parameters (Table 16-1, R462). -/
def Cap.ok (c : Cap) : Bool :=
  decide (c.path < 4) && decide (c.tenant < 64) && fnOk c.fn && qpOk c.qp && u16Ok c.tag && wordOk c.replyPtr && c.params.all wordOk

end Sys2Proof.Machine
end

