-- ==== Sys2Proof/WellFormed.lean ====
section
/-! DEFINITION. Which commands are well formed: every operand lies in the range the spec gives it. exec is total and does not ask; the
outside sends no others. -/
namespace Sys2Proof
open Sys2Proof.Machine

/-- The operands of a command lie in their ranges. -/
def Instr.wf (i : Instr) : Bool :=
  match i with
  | .zxEpochClose _ => true
  | .bxEpochClose => true
  | .contextFree => true
  | .epochHorizon => true
  | .provisionalRevision n => epochNumOk n
  | .rootCommit => true
  | .commitNotice q src _ _ => canopyOk q && aggOk src
  | .epochRead c => c.ok
  | .epochStatus c => c.ok
  | .cfgStage c _ => c.ok
  | .cfgDistribution q src _ _ => canopyOk q && aggOk src
  | .cfgApplyAt c => c.ok
  | .cfgAbort c => c.ok
  | .cfgStatus c => c.ok
  | .cfgArm q src _ _ => canopyOk q && aggOk src
  | .cfgApplyInstant _ => true
  | .wmSync q src _ => canopyOk q && aggOk src
  | .registerWrite a w strb => a.ok && (match a with | .apb _ _ => u32Ok w | .bar _ _ _ => wordOk w) && decide (strb < 16)
  | .zxApbAccessInReset addr _ v => apbOk addr && u32Ok v
  | .zxCtrSelWrite n w _ => decide (n < 16384) && u32Ok w
  | .zxLsCtrlWrite v => u32Ok v
  | .zxBarArriveWrite v _ => u32Ok v
  | .barrierArrival l => decide (l < 16)
  | .tapLatchTimeout t => tapNumOk t
  | .tapClockStopped t => tapNumOk t
  | .tapClockResumed t => tapNumOk t
  | .stretchTrip n => decide (n < 16)
  | .droopTrip n => decide (n < 32)
  | .testModeRequest _ => true
  | .sensorResult id raw _ => decide (id < 160) && u16Ok raw
  | .sensorWindowEnd => true
  | .groveSVote => true
  | .poisonAccept => true
  | .poisonStuck => true
  | .drainBurstIssue n => bufferOk n
  | .drainBresp id _ => decide (id < 16)
  | .zxPowerRequest z => decide (z < 4)
  | .zxColdReset _ => true
  | .zxWarmReset _ => true
  | .zxLocalReset _ => true
  | .traceArm n => bufferOk n
  | .traceManualTrigger n => bufferOk n
  | .traceRelease n => bufferOk n
  | .trcTrigger c => c.ok
  | .trcRelease c => c.ok
  | .traceSourceRecord n => bufferOk n
  | .traceLineTrigger t l => tapNumOk t && lineOk l
  | .traceTimeTrigger n => bufferOk n
  | .traceDrdWrite n v => bufferOk n && u32Ok v
  | .hangCondition => true
  | .hangTake => true
  | .hangReleaseWrite => true
  | .hangDeclare c => c.ok
  | .hangRelease c => c.ok
  | .hangDumpTaken => true
  | .logResend c => c.ok
  | .stemAckReceive _ epoch => epochNumOk epoch
  | .queuePush _ _ _ _ _ _ _ => true
  | .queuePop _ _ _ _ => true
  | .packetCancel _ _ _ _ => true
  | .queueCntClr _ => true
  | .linkResetDone e => linkOk e
  | .linkLockDone e => linkOk e
  | .linkAlignDone e a => linkOk e && decide (a.map < 256) && decide (a.deskew.length = 4)
  | .linkParamDone e _ _ _ _ => linkOk e
  | .linkTrainTimeout e => linkOk e
  | .linkDownHoldExpiry e => linkOk e
  | .linkLockLoss e locks => linkOk e && decide (locks < 16)
  | .linkMarkerMiss m => linkOk m.link && decide (m.words.length = 4) && m.words.all (laneWordOk m.link)
  | .linkNoFlitTimeout e => linkOk e
  | .zxStmRetrainWrite v => u32Ok v
  | .stemPortRetrainWrite p => stemOk p
  | .stemPortHoldWrite p _ => stemOk p
  | .cnpPortRetrainWrite q => canopyOk q
  | .stemPortCtrl c => c.ok
  | .flitReceive e words => linkOk e && laneWordsOk e words
  | .nakTimerExpiry e => linkOk e
  | .replayTimerExpiry e => linkOk e
  | .ackTimerExpiry e => linkOk e
  | .flitTransmit e _ => linkOk e
  | .snapReceive p _ _ _ => localDieOk p
  | .alarmReceive p h _ _ => localDieOk p && decide (h.seq < 4096)
  | .traceReceive p _ _ => localDieOk p
  | .blazeReceive p _ => localDieOk p
  | .capsCommandReceive _ => true
  | .capsReplyReceive p _ _ _ _ => localDieOk p
  | .incarnationReadReply p _ => localDieOk p
  | .zxAdmit c => c.ok
  | .zxShadowWrite c => c.ok
  | .zxGrsImageWrite c => c.ok
  | .zxCfgDone c => c.ok
  | .zxArm c => c.ok
  | .zxCfgDrop c => c.ok
  | .zxLcSet c => c.ok
  | .zxWtSet c => c.ok
  | .delayRespReceive exch _ => u16Ok exch
  | .syncSend _ _ => true
  | .syncReceive exch _ _ _ _ _ => u16Ok exch
  | .delayReqReceive p _ _ _ => stemOk p
  | .canopySyncReceive q src _ _ _ => canopyOk q && aggOk src
  | .canopyDelayReqReceive q src _ _ => canopyOk q && aggOk src
  | .canopyDelayRespReceive f _ => canopyOk f.port && aggOk f.src
  | .timeRelay q _ src dst _ _ _ _ => canopyOk q && aggOk src && aggOk dst
  | .ppsEdge _ _ => true
  | .todFrame f => decide (f.length = 16)
  | .resync c => c.ok
  | .resyncGrantLapse _ => true
  | .tbSourceLost _ => true
  | .holdoverExpiry _ => true
  | .lacFire k => decide (k < 8)
  | .lacArm k v => decide (k < 8) && wordOk v
  | .ppsOutput => true
  | .timeSrcSet c => c.ok
  | .timeRead c => c.ok
  | .timeStatus c => c.ok
  | .ppsSet c => c.ok
  | .taprootTimeLatch _ => true
  | .blazeClassify u => unitOk u
  | .blazeRefetchTimeout u k => unitOk u && decide (k < 16)
  | .blzFlushRf u => unitOk u
  | .blzCntClr u => unitOk u
  | .blzCfgWrite _ u which v => decide (u < 32) && decide (which < 3) && wordOk v
  | .bxBlazeCheck u _ _ => decide (u < 32)
  | .blazeReread u w _ _ => decide (u < 32) && wordOk w.word && u32Ok w.seq
  | .partialFlush n _ => epochNumOk n
  | .partialReady n => epochNumOk n
  | .supplementPartial n => epochNumOk n
  | .partialReceive q src _ _ _ => canopyOk q && aggOk src
  | .vectorBuild n _ _ => epochNumOk n
  | .groveScore d k _ _ => localDieOk d && decide (k < 8)
  | .groveVecReceive q src _ _ _ _ _ => canopyOk q && aggOk src
  | .groveSumsReceive f _ _ _ _ _ _ => canopyOk f.port && aggOk f.src
  | .groveSplitTimeout _ => true
  | .grsCheck d _ => localDieOk d
  | .groveLoad c => c.ok
  | .groveUnload c => c.ok
  | .groveInfo c => c.ok
  | .groveEval c _ => c.ok
  | .grovePeerBind c _ => c.ok
  | .groveScoreRead c => c.ok
  | .groveGrsImage c => c.ok
  | .groveGrsRefresh c => c.ok
  | .grvLaneCtrlWrite v => wordOk v
  | .digestReceive q src _ _ => canopyOk q && aggOk src
  | .barWaitExpiry home _ => aggOk home
  | .lagReturnReceive q src _ _ _ _ _ => canopyOk q && aggOk src
  | .probeRetryTimeout d => dieAddrOk d
  | .probeReplyReceive d status => dieAddrOk d && decide (status < 256)
  | .testDeadline d => dieAddrOk d
  | .testRunTimeout d => dieAddrOk d
  | .lagRead c => c.ok
  | .driftRead c => c.ok
  | .suspectRead c => c.ok
  | .suspectClear c => c.ok
  | .lookoutReport c => c.ok
  | .lookoutAdmit c => c.ok
  | .lookoutStatus c => c.ok
  | .lookoutProbe c => c.ok
  | .dieFence c => c.ok
  | .testRequest c => c.ok
  | .testStart c => c.ok
  | .testResult c => c.ok
  | .testCancel c => c.ok
  | .apdLoad c => c.ok
  | .apdUnload c => c.ok
  | .apdInfo c => c.ok
  | .replayRun c => c.ok
  | .replayCancel c => c.ok
  | .replayStatus c => c.ok
  | .replayUnit c => c.ok
  | .replayGen c => c.ok
  | .replayCrosscheck c => c.ok
  | .replayPlace => true
  | .replayBankFilled k => decide (k < 16)
  | .replayJobEnd k _ _ _ => decide (k < 16)
  | .replayXlateFault k _ _ _ => decide (k < 16)
  | .replayKat e _ => decide (e < 256)
  | .stepAnnounce c => c.ok
  | .stepOperands c => c.ok
  | .operandWaitExpiry => true
  | .gateWaitExpiry => true
  | .stepCommit job => u32Ok job
  | .jobOpen c => c.ok
  | .placementMigrate c => c.ok
  | .commitPolicySet c => c.ok
  | .commitStatus c => c.ok
  | .ledgerRead c => c.ok
  | .ledgerHead c => c.ok
  | .jobClose c => c.ok
  | .helloReceive q _ _ _ _ boot _ => canopyOk q && u32Ok boot
  | .helloResend q => canopyOk q
  | .lsaReceive q _ => canopyOk q
  | .lsaRefresh => true
  | .lsaExpiry => true
  | .relayWaitTimeout q => canopyOk q
  | .broadcastReceive q _ src _ => canopyOk q && aggOk src
  | .canopyAlarmReceive q _ src _ => canopyOk q && aggOk src
  | .cutThroughHoldLimit q => canopyOk q
  | .recordReceive q src _ => canopyOk q && aggOk src
  | .e2eRepeat => true
  | .e2eAckReceive q _ => canopyOk q
  | .mirrorReceive q src _ _ => canopyOk q && aggOk src
  | .heartbeatSend => true
  | .heartbeatReceive q src boot _ _ _ => canopyOk q && aggOk src && u32Ok boot
  | .peerLostDeclare a => aggOk a
  | .peerLostReceive a boot _ => aggOk a && u32Ok boot
  | .peerBackReceive a boot _ => aggOk a && u32Ok boot
  | .peerDeclare c => c.ok
  | .firebreakFence c => c.ok
  | .fenceInstant => true
  | .firebreakClear c => c.ok
  | .unfenceInstant => true
  | .canopyIdentSet c => c.ok
  | .canopyPortCtrl c => c.ok
  | .canopyTopoRead c => c.ok
  | .fabricStatus c => c.ok
  | .memLayoutSet c => c.ok
  | .memPartitionSet c => c.ok
  | .xlateInval c => c.ok
  | .xlateProbe c => c.ok
  | .dmaChSet c => c.ok
  | .dmaResume c => c.ok
  | .dmaStatus c => c.ok
  | .dmaDoorbell c tail => chanOk c && u16Ok tail
  | .dmaChunk _ _ _ => true
  | .patrolScrub _ _ _ => true
  | .stagingFlush _ => true
  | .codecBlock _ _ _ => true
  | .traceStoreSet c => c.ok
  | .traceStoreStatus c => c.ok
  | .refillTick => true
  | .egressRelease q => egressOk q
  | .shaperSet c => c.ok
  | .shaperClearDebt c => c.ok
  | .shaperRead c => c.ok
  | .gateSet c => c.ok
  | .gateStatus c => c.ok
  | .sqDoorbell f q tail => fnOk f && qpOk q && u16Ok tail
  | .cqHeadWrite f q head => fnOk f && qpOk q && u16Ok head
  | .evHeadWrite f head => fnOk f && u16Ok head
  | .qpEnable f q => fnOk f && qpOk q
  | .qpDisable f q => fnOk f && qpOk q
  | .capsuleFetch ws block _ _ _ _ => decide (ws.length = 8) && ws.all wordOk && block.all wordOk
  | .capsuleReply _ => true
  | .execTimeout => true
  | .relayTimeout => true
  | .relayedCapsuleReceive e src _ _ _ => linkOk e && aggOk src
  | .relayedReplyReceive e src _ => linkOk e && aggOk src
  | .flr f => fnOk f
  | .eventPost f kind body => fnOk f && decide (kind < 256) && decide (body.length ≤ 56)
  | .mctpMessage _ _ _ seq _ => decide (seq < 4)
  | .setEndpointId eid => decide (eid < 256)
  | .getEndpointId => true
  | .getEndpointUuid => true
  | .getMctpVersionSupport ty => decide (ty < 256)
  | .getMessageTypeSupport => true
  | .bootMailboxGo => true
  | .wardenRestart => true
  | .sysNop c => c.ok
  | .sysInfo c => c.ok
  | .sysStatus c => c.ok
  | .sysResetWarm c => c.ok
  | .sysResetCold c => c.ok
  | .sysResetStemPort c => c.ok
  | .sysResetCanopyPort c => c.ok
  | .sysResetCluster c => c.ok
  | .powerSet c => c.ok
  | .p2Entry => true
  | .powerThrottle w => u16Ok w
  | .fwUpdate c => c.ok
  | .fwActivate c => c.ok
  | .fwInfo c => c.ok
  | .zxRegRead c => c.ok
  | .zxRegWrite c => c.ok
  | .hwRead c => c.ok
  | .hwClear c => c.ok
  | .safetyStatus c => c.ok
  | .hangDumpRead c => c.ok
  | .lcStatus c => c.ok
  | .lcTransition c => c.ok
  | .wtArm c => c.ok
  | .wtDisarm c => c.ok
  | .wtStatus c => c.ok
  | .wedgeDeclare causes => decide (causes < 8)
  | .tapKick v => wordOk v
  | .bxHangDumpHeld _ _ => true
  | .safetyDetection code _ _ _ _ _ => u16Ok code
  | .latentTest code _ _ _ _ => u16Ok code
  | .heartwoodRequest _ => true
  | .taprootSelfReset => true
  | .jtagExtest _ => true
  | .jtagIdcode => true
  | .jtagSamplePreload _ => true
  | .jtagHdRead => true
  | .jtagBypass _ => true
  | .powerOn => true
  | .railBelowMinimum => true
  | .clearingDone => true
  | .bringupRailsUp _ => true
  | .bringupPllLock _ => true
  | .pcieLinkUp => true
  | .hbmTrainingDone _ => true
  | .bringupTimeout step => decide (step < 9)
  | .readWaitExpiry => true
  | .regionTapSample _ => true
  | .quietWindowEdge => true
  | .mirrorRestoreReceive q src _ _ => canopyOk q && aggOk src
  | .cnpPortHoldWrite q _ => canopyOk q
  | .powerLoss => true
  | .registerRead a => a.ok

end Sys2Proof
end

