-- ==== Sys2Proof/Certificates/Slice0/Obligations.lean ====
section
/-! DEFINITION. The statements for the provers, from the numbered rules of the spec. -/
open Sys2Proof Sys2Proof.Machine

/-- At BX64: at the close of the next epoch, not committed, with no epoch waiting and fewer than 16 contexts in use, BX_EPOCH_CLOSE makes it the
last closed epoch and opens its context; with all 16 in use the epoch waits, after those that wait already, and CTX_WAIT counts.
CONTEXT_FREE opens the context of the first waiting epoch once one is free. EPOCH_HORIZON freezes every context of an epoch whose root this
BX64 is and whose horizon has come, and changes nothing else. PROVISIONAL_REVISION of such an epoch under a generation, its context not
frozen, not poisoned, not yet proposed for commit and with new contributions, due, raises its revision by one and keeps how many dies it
covered and when. Where a clause rests on a choice of the model and not on the spec, log entries 3 and 30 name it. -/
def Obligations.EpochContextsOpenWaitAndFreeze : Prop :=
  (∀ (s : State) (n : Nat), s.nextClose? = some n → s.closed n = true → s.committed n = false → s.red.waiting = [] → s.red.ctxs.length < 16
    → Answers (.bxEpochClose) s (fun u => u.red.lastClosed = some n ∧ (u.ctx? n).isSome = true ∧ u.red.waiting = [])) ∧
  (∀ (s : State) (n : Nat), s.nextClose? = some n → s.closed n = true → s.committed n = false → s.red.ctxs.length = 16 → s.red.lastClosed ≠
    none → Answers (.bxEpochClose) s (fun u => u.red.lastClosed = some n ∧ u.red.waiting = s.red.waiting ++ [n] ∧ u.red.ctxs = s.red.ctxs ∧
    s.counted u BX_RED_CNT2_CTX_WAIT 0 1)) ∧
  (∀ (s : State) (n : Nat) (t : List Nat), s.red.waiting = n :: t → s.red.ctxs.length < 16 → Answers (.contextFree) s (fun u =>
    u.red.waiting = t ∧ (u.ctx? n).isSome = true)) ∧
  (∀ (s : State), Answers (.epochHorizon) s (fun u => (∀ x ∈ u.red.ctxs, s.rootOf x.epoch = true → s.horizonOf x.epoch ≤ s.bxNs → x.frozen
    = true) ∧ (∀ x ∈ u.red.ctxs, ¬ (s.rootOf x.epoch = true ∧ s.horizonOf x.epoch ≤ s.bxNs) → x ∈ s.red.ctxs) ∧ u.red.ctxs.map (fun x => ({
    x with frozen := false } : Ctx)) = s.red.ctxs.map (fun x => ({ x with frozen := false } : Ctx)) ∧ { u with red := { u.red with ctxs :=
    s.red.ctxs } } = s)) ∧
  (∀ (s : State) (n : Nat) (x : Ctx) (g : GenRec), s.ctx? n = some x → s.genOf n = some g → s.rootOf n = true → g.gen ≠ 0 → x.frozen =
    false → x.commitMsg = none → x.poisoned = false → x.revPresent < x.merged.length → x.revision = 0 ∨ x.lastRev + g.sched.len / 8 ≤ s.bxNs
    → Answers (.provisionalRevision n) s (fun u => (u.ctx? n).map (fun y => (y.revision, y.revPresent, y.lastRev)) = some (x.revision + 1,
    x.merged.length, s.bxNs)))

/-- With WM_SYNCED, EPOCH_READ by the operator over a queue pair, of the fleet record held of a committed epoch inside the window, its minimum
watermark reached, is answered S_OK with the record whole for REPLY_PTR and its length and first word as results, and nothing but that reply
changes; a minimum watermark not reached makes it wait for READ_WAIT_US, and nothing else changes. READ_WAIT_EXPIRY, where no waiting reader
can be answered otherwise, removes every reader whose wait has ended, leaves the others, and answers each one removed S_TIMEOUT.
EPOCH_STATUS by the operator answers S_OK with the state, the current epoch, both words of the schedule and the control register, and
nothing but that reply changes. Where a clause rests on a choice of the model and not on the spec, log entry 29 names it. -/
def Obligations.EpochReadsAnswerWaitAndExpire : Prop :=
  (∀ (s : State) (c : Cap) (r : RecEntry), c.isOp = true → c.isMctp = false → 4 ≤ c.params.length → c.noPtr = false → c.p 1 = 0 → c.p 2 ≤ 1
    → s.flag BX_EPC_STATE_WM_SYNCED = true → s.committed (c.p 0) = true → s.rd BX_EPC_STATE_WATERMARK < c.p 0 + s.window → c.p 3 ≤ s.rd
    BX_EPC_STATE_WATERMARK → s.record? (c.p 0) 64 true = some r → Answers (.epochRead c) s (fun u => u.replied c 0x0201 S_OK
    [r.bytes.length, rdLe r.bytes 0 8] ∧ u.wrote c r.bytes ∧ s.onlyReply u)) ∧
  (∀ (s : State) (c : Cap), c.isOp = true → 4 ≤ c.params.length → c.noPtr = false → c.p 1 = 0 → c.p 2 ≤ 1 → s.flag BX_EPC_STATE_WM_SYNCED =
    true → s.flag BX_EPC_STATE_WM_VALID = false ∨ s.rd BX_EPC_STATE_WATERMARK < c.p 0 + s.window → s.rd BX_EPC_STATE_WATERMARK < c.p 3 →
    Answers (.epochRead c) s (fun u => u = { s with ep := { s.ep with waits := s.ep.waits ++ [⟨c, s.bxNs + s.rd BX_EPC_CTRL_READ_WAIT_US *
    1000⟩] } })) ∧
  (∀ (s : State), (∀ w ∈ s.ep.waits, (s.epochAnswer w.cap).isNone = true) → Answers (.readWaitExpiry) s (fun u => u.ep.waits =
    s.ep.waits.filter (fun w => decide (s.bxNs < w.until_)) ∧ (∀ w ∈ s.ep.waits, w.until_ ≤ s.bxNs → ∃ r ∈ u.wdn.replies, r.cap = w.cap ∧
    r.op = 0x0201 ∧ r.status = S_TIMEOUT))) ∧
  (∀ (s : State) (c : Cap), c.isOp = true → Answers (.epochStatus c) s (fun u => u.replied c 0x0202 S_OK [s.readReg .BX_EPC_STATE,
    s.readReg .BX_EPC_CURRENT, s.readReg .BX_EPC_SCHED_ANCHOR, s.readReg .BX_EPC_SCHED_CFG, s.readReg .BX_EPC_CTRL] ∧ s.onlyReply u))

/-- CFG_STAGE of a well-formed generation while none is armed or being distributed is answered S_OK and stages it, laid over the live settings;
so does a new distribution message with such a generation, which keeps its sender. CFG_APPLY_AT of the staged generation at a boundary no
nearer than MIN_LEAD, at the BX64 that arms it, with every target acknowledged, is answered S_OK and arms it for that instant and epoch;
with a target that has not acknowledged it is answered S_PARTIAL, and nothing but that reply changes. A new ARM message of the staged
generation arms it and keeps the sender. CFG_ABORT of a staged, not armed generation is answered S_OK and drops it. At the apply instant the
armed generation is the newest in force at BX64, with its schedule and settings, and is staged no longer; at the ZX40, powered and out of
reset with the epochs before M closed, its schedule is (T, M, k at most 14), LIVE_GEN is the staged generation, and nothing is staged or
armed. CFG_STATUS is answered S_OK with both registers, and nothing but that reply changes. Where a clause rests on a choice of the model
and not on the spec, log entries 15, 20, 25, 26, 27, 28 and 106 name it. -/
def Obligations.GenerationsAreStagedArmedAndApplied : Prop :=
  (∀ (s : State) (c : Cap) (g : Settings), c.isOp = true → 3 ≤ c.params.length → s.isArmed = false → s.distributing = false → c.p 0 ≠ 0 →
    c.p 0 ≤ 65535 → (s.overlay g).ok s.liveSched.k = true → s.groveOk (s.overlay g) = true → s.anchorPast g = false → Answers (.cfgStage c
    g) s (fun u => u.replied c 0x0203 S_OK [] ∧ u.ep.staged.map (fun x => (x.gen, x.cfg, x.armed, x.origin)) = some (c.p 0, s.overlay g,
    none, none))) ∧
  (∀ (s : State) (q src msgId gen : Nat) (g : Settings), (src, msgId) ∉ s.cnp.delivered → s.isArmed = false → (s.overlay g).ok
    s.liveSched.k = true → s.groveOk (s.overlay g) = true → s.anchorPast g = false → Answers (.cfgDistribution q src msgId (.stage gen g
    none)) s (fun u => u.ep.staged.map (fun x => (x.gen, x.cfg, x.armed, x.origin)) = some (gen, s.overlay g, none, some src) ∧ (src, msgId)
    ∈ u.cnp.delivered)) ∧
  (∀ (s : State) (c : Cap) (g : Staged) (m : Nat), c.isOp = true → 2 ≤ c.params.length → c.noPtr = false → s.ep.staged = some g → g.armed =
    none → g.gen = c.p 0 → g.anchor = none → s.armsGen g.cfg = true → s.liveSched.boundary? (c.p 1) = some m → (s.liveSched.at_ s.bxNs).getD
    0 + s.rd BX_EPC_CTRL_MIN_LEAD ≤ m → (∀ t ∈ g.targets, t.ack = .acked) → Answers (.cfgApplyAt c) s (fun u => u.replied c 0x0204 S_OK [0]
    ∧ u.ep.staged.bind (fun x => x.armed) = some (c.p 1, m))) ∧
  (∀ (s : State) (c : Cap) (g : Staged) (m : Nat), c.isOp = true → 2 ≤ c.params.length → c.noPtr = false → s.ep.staged = some g → g.armed =
    none → g.gen = c.p 0 → g.anchor = none → s.armsGen g.cfg = true → s.liveSched.boundary? (c.p 1) = some m → (s.liveSched.at_ s.bxNs).getD
    0 + s.rd BX_EPC_CTRL_MIN_LEAD ≤ m → (∃ t ∈ g.targets, t.ack ≠ .acked) → Answers (.cfgApplyAt c) s (fun u => u.answered c 0x0204
    S_PARTIAL ∧ s.onlyReply u)) ∧
  (∀ (s : State) (c : Cap) (g : Staged), c.isOp = true → 1 ≤ c.params.length → s.ep.staged = some g → g.gen = c.p 0 → g.armed = none →
    Answers (.cfgAbort c) s (fun u => u.ep.staged = none ∧ u.replied c 0x0205 S_OK [])) ∧
  (∀ (s : State) (c : Cap), c.isOp = true → Answers (.cfgStatus c) s (fun u => u.replied c 0x0206 S_OK [s.readReg .BX_CFG_GEN, s.readReg
    .BX_CFG_APPLY] ∧ s.onlyReply u)) ∧
  (∀ (s : State) (q src msgId t n : Nat) (g : Staged), (src, msgId) ∉ s.cnp.delivered → s.ep.staged = some g → g.armed = none → Answers
    (.cfgArm q src msgId (.arm g.gen t n)) s (fun u => u.ep.staged.map (fun x => (x.gen, x.armed, x.origin)) = some (g.gen, some (t, n),
    some src))) ∧
  (∀ (s : State) (g : Staged) (t m : Nat), s.ep.staged = some g → g.armed = some (t, m) → t ≤ s.bxNs → Answers (.cfgApplyInstant .bx) s
    (fun u => u.ep.staged = none ∧ u.ep.gens.head?.map (fun r => (r.gen, r.sched, r.cfg)) = some (g.gen, g.anchor.getD ⟨t, m, g.cfg.k⟩,
    g.cfg))) ∧
  (∀ (s : State) (t m k : Nat), s.zx.armed = some (t, m, k) → t ≤ s.zxNs → s.zx.inReset = false → s.zx.pwr ≠ 3 → s.zx.sched = none ∨
    s.zx.lastEpoch.any (fun (e : Nat) => decide (m ≤ e + 1)) = true → Answers (.cfgApplyInstant .zx) s (fun u => u.zx.sched = some ⟨t, m,
    min 14 k⟩ ∧ u.zx.armed = none ∧ u.rd ZX_EPC_ID_ARMED = 0 ∧ u.rd ZX_EPC_ID_STAGED = 0 ∧ u.rd ZX_EPC_ID_LIVE_GEN = s.rd
    ZX_EPC_ID_STAGED_GEN % 65536))

/-- At the root of the epoch that commits next, its records acknowledged by the mirror holder, ROOT_COMMIT makes that epoch the watermark,
valid. A new COMMIT_NOTICE from the parent that this BX64 has for an epoch not committed is held afterwards, or its epoch is committed;
WM_SYNC answered by the parent, which holds no epoch, sets WM_SYNCED, and so does one whose watermark is reached here, which ends the
synchronisation; RECORD_RECEIVE from the parent of its epoch, of a revision with a matching CRC and no record held of its epoch and view,
holds it after the records held. Where a clause rests on a choice of the model and not on the spec, log entries 15, 95, 107 and 125 name it. -/
def Obligations.EpochsCommitAndRecordsFlow : Prop :=
  (∀ (s : State) (n : Nat) (x : Ctx), s.rootOf n = true → s.nextCommit? = some n → n < 2 ^ 48 → s.ctx? n = some x → x.commitMsg = some [] →
    Answers (.rootCommit) s (fun u => u.rd BX_EPC_STATE_WATERMARK = n ∧ u.rd BX_EPC_STATE_WM_VALID = 1)) ∧
  (∀ (s : State) (q src msgId : Nat) (o : Notice), s.isLost src = false → (src, msgId) ∉ s.cnp.delivered → s.parentOf o.epoch = some src →
    s.committed o.epoch = false → (∀ x ∈ o :: s.ep.notices, x.epoch < 2 ^ 48) → Answers (.commitNotice q src msgId o) s (fun u => (o.epoch ∈
    u.ep.notices.map (fun x => x.epoch) ∨ u.committed o.epoch = true))) ∧
  (∀ (s : State) (q src : Nat), s.parent? = some src → Answers (.wmSync q src (.answer none)) s (fun u => u.rd BX_EPC_STATE_WM_SYNCED = 1)) ∧
  (∀ (s : State) (q src t : Nat), s.parent? = some src → s.committed t = true → Answers (.wmSync q src (.answer (some t))) s (fun u => u.rd
    BX_EPC_STATE_WM_SYNCED = 1 ∧ u.ep.wmTarget = none)) ∧
  (∀ (s : State) (q src : Nat) (b : Bytes), s.parentOf (recEpoch b) = some src → recCrcOk b = true → recCommitted b = false → s.record?
    (recEpoch b) (recView b) true = none → s.record? (recEpoch b) (recView b) false = none → Answers (.recordReceive q src b) s (fun u =>
    u.ep.records = s.ep.records ++ [recEntryOf b]))

/-- With the ZX40 running and a populated tap: TAP_LATCH_TIMEOUT of a tap whose latch has been pending for STOP_TICKS ends the latch, sets
STOPPED, STOP_SEEN, the TAP interrupt and the tap's stopped bit in the entry of the epoch closed last while its counts may change, and
counts 0xC2; TAP_CLOCK_STOPPED of a tap with no toggle for STOP_TICKS and no interval open opens one at the last toggle and counts STOPS;
TAP_CLOCK_RESUMED makes now the last toggle, ends an open interval there and clears STOPPED; REGION_TAP_SAMPLE of one tap holds its lines,
cut to LINES. Out of reset and not in Z3, STRETCH_TRIP and DROOP_TRIP count in the light set, the stretch trip also noting the tick at the
mapped tap, and the droop trip changing nothing else of the ZX40; TEST_MODE_REQUEST takes the level in RETURN, and in any other state a
rising edge is not taken, is counted in APB_DENIED and raises the APB interrupt. Where a clause rests on a choice of the model and not on
the spec, log entries 48, 55, 108 and 109 name it. -/
def Obligations.TapClockEventsAreRecorded : Prop :=
  (∀ (s : State) (t : Nat), s.zxOn = true → s.tapOk t = true → (s.zxTap t).latchPending = true → s.stopTicks (s.zxTap t).latchTick = true →
    Answers (.tapLatchTimeout t) s (fun u => u.rd ZX_TAP_STS_STOPPED t = 1 ∧ u.rd ZX_TAP_STS_STOP_SEEN t = 1 ∧ u.rd ZX_IRQ_STS_TAP 0 = 1 ∧
    (u.zxTap t).latchPending = false ∧ s.lsUp u 0xC2 1 ∧ (∀ e ∈ u.zx.log, e.epoch = s.zx.lastEpoch.getD 0 → e.sns = none → e.stopped.testBit
    t = true))) ∧
  (∀ (s : State) (t : Nat), s.zxOn = true → s.tapOk t = true → (s.zxTap t).stoppedFrom = none → s.stopTicks (s.zxTap t).toggleTick = true →
    Answers (.tapClockStopped t) s (fun u => (u.zxTap t).stoppedFrom = some (s.zxTap t).lastToggle ∧ s.counted u ZX_TB_TAP_STOP_STOPS t 1)) ∧
  (∀ (s : State) (t : Nat), s.zxOn = true → s.tapOk t = true → Answers (.tapClockResumed t) s (fun u => u.rd ZX_TAP_STS_STOPPED t = 0 ∧
    (u.zxTap t).stoppedFrom = none ∧ (u.zxTap t).lastToggle = s.zxRc ∧ (∀ a, (s.zxTap t).stoppedFrom = some a → (a, s.zxRc) ∈ (u.zxTap
    t).intervals))) ∧
  (∀ (s : State) (t raw : Nat), s.zxOn = true → s.tapOk t = true → Answers (.regionTapSample [(t, raw)]) s (fun u => (u.zxTap t).lines =
    raw % 2 ^ s.rd ZX_TAP_CFG_LINES t)) ∧
  (∀ (s : State) (n : Nat), n < 16 → s.zx.inReset = false → s.zx.pwr ≠ 3 → Answers (.stretchTrip n) s (fun u => s.lsUp u (0xD0 + n) 1 ∧ (∀
    e, e = bits (s.readReg .ZX_TB_STR_MAP (n / 8)) (8 * (n % 8) + 7) (8 * (n % 8)) → bitAt e 7 = true → (u.zxTap (e % 128)).lastTrip = some
    s.zx.tb.ticks))) ∧
  (∀ (s : State) (n : Nat), n < 32 → s.zx.inReset = false → s.zx.pwr ≠ 3 → Answers (.droopTrip n) s (fun u => s.lsUp u (0xE0 + n) 1 ∧ u.zx
    = s.zx)) ∧
  (∀ (s : State) (level : Bool), s.zx.inReset = false → s.zx.pwr ≠ 3 → s.zx.lc = 3 → Answers (.testModeRequest level) s (fun u =>
    u.zx.testMode = level ∧ u.regs = s.regs)) ∧
  (∀ (s : State), s.zx.inReset = false → s.zx.pwr ≠ 3 → s.zx.lc ≠ 3 → Answers (.testModeRequest true) s (fun u => u.zx.testMode =
    s.zx.testMode ∧ s.lsUp u 0xCB 1 ∧ u.rd ZX_IRQ_STS_APB 0 = 1))

/-- When the ZX40 is in Z0 or Z1, out of reset, its timebase has reached a close instant later than the last one used, and the schedule was held
and the timebase locked over the whole epoch (R21): ZX_EPOCH_CLOSE answers a state whose last close is that instant and whose last epoch is
that epoch, with the epoch's entry last in the log under its close instant and waiting to be sent, the sensor window of the epoch open, the
start of the conversions and the latch strobe emitted, a latch pending at every populated tap and no barrier stamp held over. Where a clause
rests on a choice of the model and not on the spec, log entries 48, 49, 55, 113 and 114 name it. -/
def Obligations.EpochCloseTakesASnapshot : Prop :=
  (∀ (s : State) (h : HwCounts) (c : Sched) (n a : Nat), s.zxBoundary = some (c, n, a) → s.zx.inReset = false → s.zx.pwr ≤ 1 → ((∀ l,
    s.zx.lastClose = some l → l < a)) → s.zx.heldAtOpen = true → s.zx.offEp = false → s.zx.wholeLocked = true → s.zx.tb.isLocked = true →
    s.zx.lastEpoch = some (n - 1) → 1 ≤ n → Answers (.zxEpochClose h) s (fun u => u.zx.lastClose = some a ∧ u.zx.lastEpoch = some n ∧
    u.zx.log.getLast?.map (fun e => (e.epoch, e.cNs)) = some (n, c.close n) ∧ n ∈ u.zx.unsent ∧ u.zx.snsWin.map (fun w => w.epoch) = some n
    ∧ Out.latchStrobe ∈ u.out ∧ Out.snsStart ∈ u.out ∧ u.zx.barStamps = [] ∧ (∀ t, s.tapOk t = true → (u.zxTap t).latchPending = true)))

/-- In Z0 or Z1 out of reset: a privileged write to the SEL of a counter whose selection is not fleet-owned stores its fields, and the
ZX_SEC_BIND tenant may write the selection of a counter it owns; either is answered without PSLVERR. A write to the SEL of a fleet-owned
counter is answered with PSLVERR, counts 0xCC and stores nothing. DIS is stored outside FIELD. A barrier arrival written by the privileged
view, or for a line ZX_SEC_BIND allows the tenant, on a line that has had none, counts in the light set, becomes the line's last arrival and
is answered without PSLVERR; one on the pin counts and becomes the last arrival too. An access in reset, in Z0 or Z1, is answered with
PSLVERR and changes nothing else. Where a clause rests on a choice of the model and not on the spec, log entries 35 and 98 name it. -/
def Obligations.ZxRegisterWritesKeepTheViews : Prop :=
  (∀ (s : State) (n w : Nat), n < 16384 → s.zx.inReset = false → s.zx.pwr ≤ 1 → bitAt (s.zx.ctrSel.getD n 0) 30 = false → Answers
    (.zxCtrSelWrite n w true) s (fun u => u.zx.ctrSel.getD n 0 = (w % 2 ^ 32) - 2 ^ 30 * bits w 30 30 ∧ u.out = s.out ++ [.apb 0 false] ∧
    u.regs = s.regs)) ∧
  (∀ (s : State) (n w : Nat), n < 16384 → s.zx.inReset = false → s.zx.pwr ≤ 1 → bitAt (s.zx.ctrSel.getD n 0) 30 = false → s.rd
    ZX_SEC_BIND_TENANT ≠ 0 → bits (s.zx.ctrSel.getD n 0) 29 24 = s.rd ZX_SEC_BIND_TENANT → Answers (.zxCtrSelWrite n w false) s (fun u =>
    u.zx.ctrSel.getD n 0 = (w % 2 ^ 32) - 2 ^ 30 * bits w 30 30 ∧ u.out = s.out ++ [.apb 0 false] ∧ u.regs = s.regs)) ∧
  (∀ (s : State) (n w : Nat) (priv : Bool), n < 16384 → s.zx.inReset = false → s.zx.pwr ≤ 1 → bitAt (s.zx.ctrSel.getD n 0) 30 = true →
    Answers (.zxCtrSelWrite n w priv) s (fun u => u.zx = s.zx ∧ u.out = s.out ++ [.apb 0 true] ∧ s.lsUp u 0xCC 1)) ∧
  (∀ (s : State) (v : Nat), s.zx.inReset = false → s.zx.pwr ≤ 1 → s.zx.lc ≠ 2 → Answers (.zxLsCtrlWrite v) s (fun u => u.rd ZX_LS_CTRL_DIS
    = v % 2 ∧ u.out = s.out ++ [.apb 0 false] ∧ u.zx = s.zx)) ∧
  (∀ (s : State) (l : Nat), l < 16 → s.zxOn = true → s.zx.barLast.find? l = none → Answers (.barrierArrival l) s (fun u => s.lsUp u (0x90 +
    l) 1 ∧ u.zx.barLast.find? l = some (s.zxRc, true) ∧ u.out = s.out)) ∧
  (∀ (s : State) (v : Nat) (priv : Bool), s.zxOn = true → s.zx.barLast.find? (v % 16) = none → priv = true ∨ bitAt (s.rd
    ZX_SEC_BIND_BAR_MASK) (v % 16) = true → Answers (.zxBarArriveWrite v priv) s (fun u => s.lsUp u (0x90 + v % 16) 1 ∧ u.zx.barLast.find?
    (v % 16) = some (s.zxRc, false) ∧ u.out = s.out ++ [.apb 0 false])) ∧
  (∀ (s : State) (addr v : Nat) (write : Bool), s.zx.inReset = true → s.zx.pwr ≤ 1 → Answers (.zxApbAccessInReset addr write v) s (fun u =>
    u = s.emit (.apb 0 true)))

/-- SENSOR_RESULT without an error, the first of a valid sensor in an open window, holds the result and counts it; SENSOR_WINDOW_END at the
window's end closes the window and completes the entry of its epoch with the word of every sensor; GROVE_S_VOTE gives the oldest completed
entry without a result its result, VALID telling whether a vote was taken and an alarm raising the ALARM interrupt; POISON_ACCEPT takes the
first granule of the oldest request off and counts it; POISON_STUCK of a request not yet marked marks it, raises the ALARM interrupt and
keeps the requests; QUIET_WINDOW_EDGE in Z0 or Z1, out of reset, drives zx_quiet to the level the windows give where it differs, and changes
no register. Where a clause rests on a choice of the model and not on the spec, log entry 110 names it. -/
def Obligations.SensorsVotesPoisonAndQuietWindows : Prop :=
  (∀ (s : State) (id raw : Nat) (w : SnsWindow), s.zxOn = true → s.zx.snsWin = some w → s.zxNs < w.endNs → s.snsOk id = true →
    w.results.find? id = none → Answers (.sensorResult id raw false) s (fun u => u.zx.snsWin.bind (fun x => SMap.find? x.results id) = some
    (false, raw % 65536) ∧ s.lsUp u 0xC3 1)) ∧
  (∀ (s : State) (w : SnsWindow), s.zx.snsWin = some w → w.endNs ≤ s.zxNs → Answers (.sensorWindowEnd) s (fun u => u.zx.snsWin = none ∧ (∀
    e ∈ u.zx.log, e.epoch = w.epoch → e.sns = some ((List.range 160).map w.word)))) ∧
  (∀ (s : State) (e : LogEntry), s.zxOn = true → s.zx.log.find? (fun x => x.sns.isSome && x.grs.isNone) = some e → Answers (.groveSVote) s
    (fun u => u.rd ZX_GRS_RESULT_VALID = b2n (s.grsVote e).isSome ∧ u.rd ZX_GRS_RESULT_EPOCH_LO = e.epoch % 65536 ∧ (u.entry? e.epoch).any
    (fun x => x.grs.isSome) ∧ (∀ c, s.grsVote e = some (c, true) → u.rd ZX_IRQ_STS_ALARM = 1))) ∧
  (∀ (s : State) (g : List Nat) (t : List (List Nat)), s.zx.psnQ = g :: t → Answers (.poisonAccept) s (fun u => u.zx.psnQ = (if g.drop 1 =
    [] then t else g.drop 1 :: t) ∧ u.zx.psnStuck = false ∧ s.lsUp u 0xB7 1)) ∧
  (∀ (s : State) (a : Nat), s.psnHead = some a → s.zx.psnStuck = false → Answers (.poisonStuck) s (fun u => u.zx.psnStuck = true ∧ u.rd
    ZX_IRQ_STS_ALARM = 1 ∧ u.zx.psnQ = s.zx.psnQ)) ∧
  (∀ (s : State), s.zx.inReset = false → s.zx.pwr ≤ 1 → s.anyQw ≠ s.zx.quiet → Answers (.quietWindowEdge) s (fun u => u.zx.quiet = s.anyQw
    ∧ u.out = s.out ++ [.quiet s.anyQw] ∧ u.regs = s.regs))

/-- A low zx_por_n, zx_rst_n or zx_lrst_n puts the ZX40 in reset with its Clearing begun; a cold reset returns the life-cycle state to BLANK and
clears the light set, a warm reset keeps the light set and the incarnation, and a local reset keeps the light set and returns the
incarnation to 0; the release of the one reset input that is low ends the reset and changes nothing else. A power request for Z0 or Z1 out
of reset is acknowledged at once with isolation off; one for Z2 or Z3 from Z0 or Z1, with no snapshot under way and no close at this
instant, is acknowledged with zx_iso_n low and the epoch log lost. In Z0 or Z1 a received command of R474 is counted and held, behind at
most seven held ones of R474. Where a clause rests on a choice of the model and not on the spec, log entries 51, 53 and 54 name it. -/
def Obligations.Zx40ResetsPowerAndCommands : Prop :=
  (∀ (s : State), Answers (.zxColdReset true) s (fun u => u.zx.inReset = true ∧ u.zx.clearing = true ∧ u.zx.lc = 0 ∧ u.zx.log = [] ∧ (∀ k,
    u.rd ZX_LS_VAL_VAL k = 0))) ∧
  (∀ (s : State), Answers (.zxWarmReset true) s (fun u => u.zx.inReset = true ∧ u.zx.clearing = true ∧ u.zx.lc = s.zx.lc ∧ (∀ k, u.rd
    ZX_LS_VAL_VAL k = s.rd ZX_LS_VAL_VAL k) ∧ u.rd ZX_EPC_ID_INCARNATION = s.rd ZX_EPC_ID_INCARNATION)) ∧
  (∀ (s : State), Answers (.zxLocalReset true) s (fun u => u.zx.inReset = true ∧ u.zx.clearing = true ∧ u.zx.lc = s.zx.lc ∧ (∀ k, u.rd
    ZX_LS_VAL_VAL k = s.rd ZX_LS_VAL_VAL k) ∧ u.rd ZX_EPC_ID_INCARNATION = 0)) ∧
  (∀ (s : State), s.zx.rstLow = [0] → Answers (.zxColdReset false) s (fun u => u = { s with zx := { s.zx with inReset := false, rstLow :=
    [] } })) ∧
  (∀ (s : State), s.zx.rstLow = [1] → Answers (.zxWarmReset false) s (fun u => u = { s with zx := { s.zx with inReset := false, rstLow :=
    [] } })) ∧
  (∀ (s : State), s.zx.rstLow = [2] → Answers (.zxLocalReset false) s (fun u => u = { s with zx := { s.zx with inReset := false, rstLow :=
    [] } })) ∧
  (∀ (s : State) (z : Nat), z < 2 → s.zx.inReset = false → Answers (.zxPowerRequest z) s (fun u => u.zx.pwr = z ∧ u.zx.isoN = true ∧
    u.out.getLast? = some (.pwrAck z))) ∧
  (∀ (s : State) (z : Nat), z = 2 ∨ z = 3 → s.zx.inReset = false → s.zx.pwr < 2 → (s.link .zx).snapTx = none → s.zx.lastClose ≠ some s.zxNs
    → Answers (.zxPowerRequest z) s (fun u => u.zx.pwr = z ∧ u.zx.isoN = false ∧ u.out.getLast? = some (.pwrAck z) ∧ u.zx.log = [])) ∧
  (∀ (s : State) (b : Bytes), s.zxOn = true → s.zx.caps.length < 8 → (capOfBytes b).2.isInternal = true → zxOpcodes.contains (capOfBytes
    b).1 = true → (∀ x ∈ s.zx.caps, x.2.isInternal = true ∧ zxOpcodes.contains x.1 = true) → Answers (.capsCommandReceive b) s (fun u =>
    u.zx.caps = s.zx.caps ++ [capOfBytes b] ∧ s.lsUp u 0xAD 1))

/-- For an internal command at the head of a ZX40's queue: ZX_ADMIT sets ADMITTED, the die address and the incarnation (a new incarnation
empties the log); ZX_SHADOW_WRITE of one to three staged registers in a row while nothing is armed holds the values under its generation;
ZX_GRS_IMAGE_WRITE of a generation, while nothing is armed and the banks have no switch ahead, puts 32 bytes into the staged image;
ZX_CFG_DONE of the generation in the shadows, with their CRC, marks it staged, with its image where GRS says so and the image is valid;
ZX_ARM of the staged generation at a later instant arms it; ZX_CFG_DROP of the generation in the shadows, not armed, empties them; ZX_LC_SET
enters RETURN and, from another state, its Clearing; ZX_WT_SET arms a Blaze injector with its action, argument and count, or disarms it.
Each replies S_OK. Where a clause rests on a choice of the model and not on the spec, log entry 50 names it. -/
def Obligations.Zx40InternalCommandsAct : Prop :=
  (∀ (s : State) (c : Cap), s.zxNext c 0x0630 = true → c.isInternal = true → 3 ≤ c.params.length → c.p 1 % 65536 ≠ 0 → c.p 2 ≤ 2 → Answers
    (.zxAdmit c) s (fun u => u.rd ZX_EPC_ADDR_ADMITTED = 1 ∧ u.rd ZX_EPC_ADDR_DIE_ADDR = c.p 0 % 2 ^ 18 ∧ u.rd ZX_EPC_ID_INCARNATION = c.p 1
    % 65536 ∧ (s.zxInc ≠ c.p 1 % 65536 → u.zx.log = []) ∧ u.zxReplied c 0x0630 S_OK [])) ∧
  (∀ (s : State) (c : Cap), s.zxNext c 0x0210 = true → c.isInternal = true → c.p 0 ≠ 0 → c.p 0 < 65536 → 1 ≤ c.p 2 → c.p 2 ≤ 3 → c.p 2 + 3
    ≤ c.params.length → (∀ i < c.p 2, (zxStaged? (c.p 1 + 4 * i)).isSome = true) → s.flag ZX_EPC_ID_ARMED = false → Answers (.zxShadowWrite
    c) s (fun u => (∀ i < c.p 2, u.zx.shadow.find? (c.p 1 + 4 * i) = some (c.p (3 + i) % 2 ^ 32)) ∧ u.rd ZX_EPC_ID_STAGED_GEN = c.p 0 ∧
    u.zxReplied c 0x0210 S_OK [])) ∧
  (∀ (s : State) (c : Cap), s.zxNext c 0x0310 = true → c.isInternal = true → 6 ≤ c.params.length → c.p 0 ≠ 0 → c.p 1 % 32 = 0 → c.p 1 <
    imageBytes → s.flag ZX_EPC_ID_ARMED = false → s.zx.grsRole = none → Answers (.zxGrsImageWrite c) s (fun u => u.zx.grsStaged = imageWrite
    s.zx.grsStaged (c.p 1) [c.p 2, c.p 3, c.p 4, c.p 5] ∧ u.zxReplied c 0x0310 S_OK [])) ∧
  (∀ (s : State) (c : Cap), s.zxNext c 0x0211 = true → c.isInternal = true → 3 ≤ c.params.length → c.p 0 ≠ 0 → c.p 0 = s.rd
    ZX_EPC_ID_STAGED_GEN → zxCfgCrc (fun a => (s.zx.shadow.find? a).getD (s.zxLive a)) = c.p 1 % 2 ^ 32 → bitAt (c.p 2) 0 = false ∨ s.flag
    ZX_GRS_STS_STAGED_VALID = true → Answers (.zxCfgDone c) s (fun u => u.rd ZX_EPC_ID_STAGED = 1 ∧ u.zx.stagedGrs = bitAt (c.p 2) 0 ∧
    u.zxReplied c 0x0211 S_OK [])) ∧
  (∀ (s : State) (c : Cap), s.zxNext c 0x0212 = true → c.isInternal = true → 4 ≤ c.params.length → s.flag ZX_EPC_ID_STAGED = true → c.p 0 =
    s.rd ZX_EPC_ID_STAGED_GEN → s.zxNs < c.p 1 → Answers (.zxArm c) s (fun u => u.zx.armed = some (c.p 1, c.p 2, c.p 3) ∧ u.rd
    ZX_EPC_ID_ARMED = 1 ∧ u.zxReplied c 0x0212 S_OK [])) ∧
  (∀ (s : State) (c : Cap), s.zxNext c 0x0213 = true → c.isInternal = true → 1 ≤ c.params.length → c.p 0 = s.rd ZX_EPC_ID_STAGED_GEN →
    s.flag ZX_EPC_ID_ARMED = false → Answers (.zxCfgDrop c) s (fun u => u.zx.shadow = [] ∧ u.rd ZX_EPC_ID_STAGED = 0 ∧ u.zxReplied c 0x0213
    S_OK [])) ∧
  (∀ (s : State) (c : Cap), s.zxNext c 0x0A10 = true → c.isInternal = true → 1 ≤ c.params.length → c.p 0 = 3 → Answers (.zxLcSet c) s (fun
    u => u.zx.lc = 3 ∧ u.zxReplied c 0x0A10 S_OK [] ∧ (s.zx.lc ≠ 3 → u.zx.clearing = true))) ∧
  (∀ (s : State) (c : Cap), s.zxNext c 0x0F10 = true → c.isInternal = true → 4 ≤ c.params.length → c.p 0 < 16 → c.p 1 = 1 ∧ c.p 2 < 8 *
    s.blzSize (c.p 0) ∨ c.p 1 = 2 ∧ c.p 2 < 64 → 1 ≤ c.p 3 → c.p 3 ≤ 64 → Answers (.zxWtSet c) s (fun u => SMap.find? u.zx.inj (c.p 0) =
    some (c.p 1, c.p 2, c.p 3) ∧ u.zxReplied c 0x0F10 S_OK [])) ∧
  (∀ (s : State) (c : Cap), s.zxNext c 0x0F10 = true → c.isInternal = true → 4 ≤ c.params.length → c.p 0 < 16 → c.p 1 = 0 → Answers
    (.zxWtSet c) s (fun u => SMap.find? u.zx.inj (c.p 0) = none ∧ u.zxReplied c 0x0F10 S_OK []))

/-- With the ZX40 running and a buffer below 8: in Z0 TRACE_ARM of an IDLE buffer whose MODE is not 0 makes it ARMED with the settings of CFG
and the mask sampled and DWR and DRD 0; a manual trigger of an ARMED buffer makes it POST, or FROZEN with a POST_COUNT of 0, no record
counted yet, and counts 0xBE; so do the time trigger of a buffer that selects it, once its instant has come, and a line trigger of a buffer
that selects the line; TRACE_RELEASE of a RING buffer in use makes it IDLE and empty and changes no register; the oldest record of the input
queue enters a recording ARMED buffer that is a RING or has room, as its last record, and a GAP record kept for the queue takes the entry
that frees; DRD takes the consumer's offset in 16-byte steps within the ring, and nothing else of the ZX40 changes. TRC_TRIGGER and
TRC_RELEASE do the same to the buffer they name and reply S_OK. Where a clause rests on a choice of the model and not on the spec, log
entries 43, 44, 111 and 112 name it. -/
def Obligations.TraceBuffersFollowTheirStates : Prop :=
  (∀ (s : State) (n : Nat), s.zxOn = true → n < 8 → (s.trcBuf n).state = .idle → s.rd ZX_TRC_CFG_MODE n ≠ 0 → s.zx.pwr = 0 → Answers
    (.traceArm n) s (fun u => (u.trcBuf n).state = .armed ∧ (u.trcBuf n).cfg = packFields ((Reg.fields .ZX_TRC_CFG).map (fun f => (f.lo,
    f.width, s.rd f n))) ∧ (u.trcBuf n).mask = s.rd ZX_TRC_MASK_MASK n ∧ u.rd ZX_TRC_DWR_DWR n = 0 ∧ u.rd ZX_TRC_DRD_DRD n = 0)) ∧
  (∀ (s : State) (n : Nat), s.zxOn = true → n < 8 → (s.trcBuf n).state = .armed → Answers (.traceManualTrigger n) s (fun u => (u.trcBuf
    n).state = (if (s.trcBuf n).postCount = 0 then .frozen else .post) ∧ (u.trcBuf n).postDone = 0 ∧ s.lsUp u 0xBE 1)) ∧
  (∀ (s : State) (n : Nat), s.zxOn = true → n < 8 → (s.trcBuf n).state ≠ .idle → (s.trcBuf n).ring = true → Answers (.traceRelease n) s
    (fun u => (u.trcBuf n).state = .idle ∧ (u.trcBuf n).recs = [] ∧ (u.trcBuf n).inQ = [] ∧ u.regs = s.regs)) ∧
  (∀ (s : State) (n : Nat) (r : TRec) (t : List TRec), s.zxOn = true → n < 8 → (s.trcBuf n).state = .armed → (s.trcBuf n).gatedAt = none →
    (s.trcBuf n).inQ = r :: t → (s.trcBuf n).ring = true ∨ (s.trcBuf n).gapOpen = none ∧ (s.trcBuf n).recs.length < 4095 → Answers
    (.traceSourceRecord n) s (fun u => (u.trcBuf n).inQ = t ++ ((s.trcBuf n).qGap.map (fun g => gapRec 1 g.1 g.2)).toList ∧ (u.trcBuf
    n).recs.getLast? = some r)) ∧
  (∀ (s : State) (n : Nat), s.zxOn = true → n < 8 → (s.trcBuf n).state = .armed → (s.trcBuf n).trigSrc = 5 → (s.trcBuf n).timeDone = false
    → s.rd ZX_TRC_TRIG_AT_TRIG_AT n ≤ s.zxNs → Answers (.traceTimeTrigger n) s (fun u => (u.trcBuf n).state = (if (s.trcBuf n).postCount = 0
    then .frozen else .post) ∧ (u.trcBuf n).postDone = 0 ∧ (u.trcBuf n).timeDone = true ∧ s.lsUp u 0xBE 1)) ∧
  (∀ (s : State) (t l n : Nat), s.zxOn = true → s.tapOk t = true → l < s.rd ZX_TAP_CFG_LINES t → n < 8 → (s.trcBuf n).state = .armed →
    (s.trcBuf n).trigSrc = 1 → (s.trcBuf n).tap = t → (s.trcBuf n).trigLine = l → Answers (.traceLineTrigger t l) s (fun u => (u.trcBuf
    n).state = (if (s.trcBuf n).postCount = 0 then .frozen else .post) ∧ (u.trcBuf n).postDone = 0)) ∧
  (∀ (s : State) (n v : Nat), s.zxOn = true → n < 8 → Answers (.traceDrdWrite n v) s (fun u => u.rd ZX_TRC_DRD_DRD n = v % s.ringBytes n /
    16 * 16 ∧ u.zx = s.zx)) ∧
  (∀ (s : State) (c : Cap), c.isInternal = true → s.zxNext c 0x0510 = true → 2 ≤ c.params.length → c.p 1 < 8 → (s.trcBuf (c.p 1)).state =
    .armed → Answers (.trcTrigger c) s (fun u => (u.trcBuf (c.p 1)).state = (if (s.trcBuf (c.p 1)).postCount = 0 then .frozen else .post) ∧
    (u.trcBuf (c.p 1)).postDone = 0 ∧ u.zxReplied c 0x0510 S_OK [])) ∧
  (∀ (s : State) (c : Cap), c.isInternal = true → s.zxNext c 0x0511 = true → 2 ≤ c.params.length → c.p 1 < 8 → (s.trcBuf (c.p 1)).state ≠
    .idle → (s.trcBuf (c.p 1)).ring = true → Answers (.trcRelease c) s (fun u => (u.trcBuf (c.p 1)).state = .idle ∧ (u.trcBuf (c.p 1)).recs
    = [] ∧ u.zxReplied c 0x0511 S_OK []))

/-- With the ZX40 running: DRAIN_BURST_ISSUE of a buffer with a burst ready and no quiet window open emits one AXI write, INCR of 16-byte beats
at the burst's place in the ring, of the first records in no burst, under the lowest AWID not outstanding, holds the burst as outstanding
and changes no register; while a quiet window is open nothing is issued and a buffer not yet held is held and counted. An OKAY response of
the one burst of a buffer, the oldest of all, moves DWR past its records and ends it; any other response to a buffer's burst marks its drain
as stopped by an error, counts, and raises the TRACE interrupt. Where a clause rests on a choice of the model and not on the spec, log entry
43 names it. -/
def Obligations.TraceDrainWritesItsRing : Prop :=
  (∀ (s : State) (n i : Nat), s.zxOn = true → n < 8 → s.axiDrains n = true → s.burstCount n ≠ 0 → s.anyQw = false → s.freeId = some i →
    Answers (.drainBurstIssue n) s (fun u => u.zx.bursts = s.zx.bursts ++ [⟨i, n, s.rd ZX_TRC_DBASE_BASE n * 4096 / s.ringBytes n *
    s.ringBytes n + s.issueOff n, s.burstCount n, s.zxNs, 0⟩] ∧ u.out = s.out ++ [.axiWrite ⟨i, s.rd ZX_TRC_DBASE_BASE n * 4096 /
    s.ringBytes n * s.ringBytes n + s.issueOff n, s.burstCount n - 1, 4, 1, 0, 3, 1, 0⟩ ((((s.trcBuf n).recs.filter (fun r =>
    !r.inBurst)).take (s.burstCount n)).flatMap (fun r => leBytes 8 r.w0 ++ leBytes 8 r.w1))] ∧ u.regs = s.regs)) ∧
  (∀ (s : State) (n : Nat), s.zxOn = true → n < 8 → s.axiDrains n = true → s.burstCount n ≠ 0 → s.anyQw = true → s.zx.heldBufs.contains n =
    false → Answers (.drainBurstIssue n) s (fun u => u.zx.heldBufs = s.zx.heldBufs ++ [n] ∧ u.out = s.out ∧ s.lsUp u 0xBC 1)) ∧
  (∀ (s : State) (i : Nat) (b : Burst) (rest : List Burst), s.zx.bursts = b :: rest → b.id = i → b.answer = 0 → b.buf < 8 → (∀ x ∈ rest,
    x.buf ≠ b.buf) → (∀ x ∈ rest, x.id ≠ i) → Answers (.drainBresp i true) s (fun u => u.rd ZX_TRC_DWR_DWR b.buf = (s.rd ZX_TRC_DWR_DWR
    b.buf + 16 * b.count) % s.ringBytes b.buf % 2 ^ 32 ∧ u.zx.bursts = rest)) ∧
  (∀ (s : State) (i : Nat) (b : Burst), s.zx.bursts.find? (fun b => b.id == i && b.answer == 0) = some b → b.buf < 8 → Answers (.drainBresp
    i false) s (fun u => s.lsUp u 0xBB 1 ∧ u.rd ZX_IRQ_STS_TRACE = 1 ∧ (u.trcBuf b.buf).drainErr = true))

/-- With the ZX40 running and no dump held or being captured, a new condition of causes 0 to 3, HD_CTRL.TAKE and HANG_DECLARE each begin a dump
of 8,192 bytes under their cause bits; while one is, TAKE leaves it, adds its cause to PEND and counts MISSED. HANG_DUMP_TAKEN of a captured
dump sets HELD, clears SENT, raises the TRACE interrupt and counts, and the dump waits to be sent from its first part. A held dump that has
been sent, with no cause present, is released by HD_CTRL.RELEASE, which clears HELD, SENT, CAUSE and PEND, or by HANG_RELEASE. The two
commands reply S_OK. Where a clause rests on a choice of the model and not on the spec, log entries 47 and 115 name it. -/
def Obligations.HangDumpsAreTakenAndReleased : Prop :=
  (∀ (s : State), s.zxOn = true → s.zx.dump = [] → s.hangCauses - (s.hangCauses &&& s.zx.hangOn) ≠ 0 → Answers (.hangCondition) s (fun u =>
    u.zx.hangOn = s.hangCauses ∧ u.rd ZX_HD_STS_CAUSE = (s.hangCauses - (s.hangCauses &&& s.zx.hangOn)) % 256 ∧ u.zx.dump = s.dumpOf
    (s.hangCauses - (s.hangCauses &&& s.zx.hangOn)) ∧ u.zx.dump.length = 8192)) ∧
  (∀ (s : State), s.zxOn = true → s.zx.dump = [] → Answers (.hangTake) s (fun u => u.rd ZX_HD_STS_CAUSE = 16 ∧ u.zx.dump = s.dumpOf 16 ∧
    u.zx.dump.length = 8192)) ∧
  (∀ (s : State), s.zxOn = true → s.zx.dump ≠ [] → Answers (.hangTake) s (fun u => u.zx.dump = s.zx.dump ∧ u.rd ZX_HD_STS_PEND = (s.rd
    ZX_HD_STS_PEND ||| 16) % 256 ∧ s.counted u ZX_HD_STS_MISSED 0 1)) ∧
  (∀ (s : State) (c : Cap), c.isInternal = true → s.zxNext c 0x0512 = true → 1 ≤ c.params.length → s.zx.dump = [] → Answers (.hangDeclare
    c) s (fun u => u.rd ZX_HD_STS_CAUSE = 16 ∧ u.zx.dump = s.dumpOf 16 ∧ u.zx.dump.length = 8192 ∧ u.zxReplied c 0x0512 S_OK [])) ∧
  (∀ (s : State), s.zx.dump ≠ [] → s.flag ZX_HD_STS_HELD = false → Answers (.hangDumpTaken) s (fun u => u.rd ZX_HD_STS_HELD = 1 ∧ u.rd
    ZX_HD_STS_SENT = 0 ∧ u.rd ZX_IRQ_STS_TRACE = 1 ∧ (u.link .zx).dumpNext = some 0 ∧ s.lsUp u 0xBF 1)) ∧
  (∀ (s : State), s.zxOn = true → s.flag ZX_HD_STS_HELD = true → s.flag ZX_HD_STS_SENT = true → s.hangCauses = 0 → Answers
    (.hangReleaseWrite) s (fun u => u.zx.dump = [] ∧ u.rd ZX_HD_STS_HELD = 0 ∧ u.rd ZX_HD_STS_SENT = 0 ∧ u.rd ZX_HD_STS_CAUSE = 0 ∧ u.rd
    ZX_HD_STS_PEND = 0)) ∧
  (∀ (s : State) (c : Cap), c.isInternal = true → s.zxNext c 0x0513 = true → 1 ≤ c.params.length → s.flag ZX_HD_STS_HELD = true → s.flag
    ZX_HD_STS_SENT = true → s.hangCauses = 0 → Answers (.hangRelease c) s (fun u => u.zx.dump = [] ∧ u.rd ZX_HD_STS_HELD = 0 ∧ u.zxReplied c
    0x0513 S_OK []))

/-- LOG_RESEND with a first epoch at or above the oldest entry is answered S_OK, and a pass runs if an entry from that epoch on is held; below
the oldest entry, or with an empty log, it is answered S_PARTIAL with ZX_LOG_OLDEST. An ACK flit whose LOGV is 1 and whose epoch is later
than the one acknowledged and not after the last close sets ZX_LOG_ACKED to it; an epoch after the last close is a violation and sets
nothing. Where a clause rests on a choice of the model and not on the spec, log entry 78 names it. -/
def Obligations.EpochLogResendsAndAcknowledgements : Prop :=
  (∀ (s : State) (c : Cap) (e : LogEntry), c.isInternal = true → s.zxNext c 0x0514 = true → 2 ≤ c.params.length → s.zx.log.head? = some e →
    e.epoch ≤ c.p 1 → Answers (.logResend c) s (fun u => u.zxReplied c 0x0514 S_OK [] ∧ (∀ x ∈ s.zx.log, c.p 1 ≤ x.epoch → u.zx.pass ≠
    none))) ∧
  (∀ (s : State) (c : Cap) (e : LogEntry), c.isInternal = true → s.zxNext c 0x0514 = true → 2 ≤ c.params.length → s.zx.log.head? = some e →
    c.p 1 < e.epoch → Answers (.logResend c) s (fun u => u.zxReplied c 0x0514 S_PARTIAL [s.readReg .ZX_LOG_OLDEST])) ∧
  (∀ (s : State) (c : Cap), c.isInternal = true → s.zxNext c 0x0514 = true → 2 ≤ c.params.length → s.zx.log = [] → Answers (.logResend c) s
    (fun u => u.zxReplied c 0x0514 S_PARTIAL [s.readReg .ZX_LOG_OLDEST])) ∧
  (∀ (s : State) (epoch l : Nat), s.zx.lastEpoch = some l → epoch ≤ l → s.flag ZX_LOG_ACKED_VALID = false ∨ s.rd ZX_LOG_ACKED_EPOCH < epoch
    → Answers (.stemAckReceive true epoch) s (fun u => u.rd ZX_LOG_ACKED_VALID = 1 ∧ u.rd ZX_LOG_ACKED_EPOCH = epoch % 2 ^ 48 ∧ u.zx.log =
    s.zx.log)) ∧
  (∀ (s : State) (epoch l : Nat), s.zx.lastEpoch = some l → l < epoch → s.flag ZX_LOG_ACKED_VALID = false ∨ s.rd ZX_LOG_ACKED_EPOCH < epoch
    → Answers (.stemAckReceive true epoch) s (fun u => u.rd ZX_LOG_ACKED_EPOCH = s.rd ZX_LOG_ACKED_EPOCH ∧ s.counted u ZX_STM_CNT_VIOL 0 1))

/-- For queue k, as the clock edges a command carries leave it, with nothing held, no cancel pending and no drop in progress: a push into a
plain queue with a free slot puts the word last; at full a drop queue keeps its words and counts an overrun, and a stall queue keeps its
words and holds the new one; a LAST word of a packet queue with room, which is not to fill the queue as one packet, commits the open packet
and itself behind the words there are. A pop of a visible word whose parity is right returns it, poison bit as stored, takes it off and
counts no parity error; a pop with nothing visible returns the last word again, sets UNDERRUN and counts it. PACKET_CANCEL of a packet queue
discards the open packet, keeps the committed words and counts. CNT_CLR returns the counters to 0 and keeps the words. Where a clause rests
on a choice of the model and not on the spec, log entries 52 and 117 name it. -/
def Obligations.QueuesPushPopAndCancel : Prop :=
  (∀ (s : State) (k : Nat) (h : QShape) (data : Nat) (x last : Bool) (we : List Nat) (re : Nat) (q : Queue), (s.queueEdges k h we re).queue
    k h = q → q.packet = false → q.held = [] → q.cancelNext = false → q.dropping = false → (if q.dual then q.writeEdge else q).occupied <
    q.cap → Answers (.queuePush k h data x last we re) s (fun u => (u.queue k h).words.map (fun w => w.word.data) = q.words.map (fun w =>
    w.word.data) ++ [data % 2 ^ 64])) ∧
  (∀ (s : State) (k : Nat) (h : QShape) (data : Nat) (x last : Bool) (we : List Nat) (re : Nat) (q : Queue), (s.queueEdges k h we re).queue
    k h = q → q.packet = false → q.held = [] → q.cancelNext = false → q.dropping = false → q.cap ≤ (if q.dual then q.writeEdge else
    q).occupied → q.drop = true → Answers (.queuePush k h data x last we re) s (fun u => (u.queue k h).words = q.words ∧ (u.queue k
    h).overruns = min 0xFFFFFFFF (q.overruns + 1))) ∧
  (∀ (s : State) (k : Nat) (h : QShape) (data : Nat) (x last : Bool) (we : List Nat) (re : Nat) (q : Queue), (s.queueEdges k h we re).queue
    k h = q → q.packet = false → q.held = [] → q.cancelNext = false → q.dropping = false → q.cap ≤ (if q.dual then q.writeEdge else
    q).occupied → q.drop = false → Answers (.queuePush k h data x last we re) s (fun u => (u.queue k h).words = q.words ∧ (u.queue k h).held
    = [{ word := ⟨data % 2 ^ 64, false, x, false⟩ }])) ∧
  (∀ (s : State) (k : Nat) (h : QShape) (data : Nat) (x : Bool) (we : List Nat) (re : Nat) (q : Queue), (s.queueEdges k h we re).queue k h
    = q → q.packet = true → q.held = [] → q.cancelNext = false → q.dropping = false → q.open_.length + 1 ≠ q.cap → (if q.dual then
    q.writeEdge else q).occupied < q.cap → Answers (.queuePush k h data x true we re) s (fun u => (u.queue k h).words.map (fun w =>
    w.word.data) = q.words.map (fun w => w.word.data) ++ q.open_.map (fun w => w.data) ++ [data % 2 ^ 64] ∧ (u.queue k h).open_ = [])) ∧
  (∀ (s : State) (k : Nat) (h : QShape) (we : List Nat) (re : Nat) (q : Queue) (sl : QSlot) (t : List QSlot), (s.queueEdges k h we
    re).queue k h = q → q.held = [] → (if q.dual then q.readEdge else q).visible = sl :: t → sl.word.p = sl.word.par q.packet → Answers
    (.queuePop k h we re) s (fun u => (u.queue k h).lastPop = sl.word ∧ (u.queue k h).words = q.words.drop 1 ∧ (u.queue k h).parityErrs =
    q.parityErrs)) ∧
  (∀ (s : State) (k : Nat) (h : QShape) (we : List Nat) (re : Nat) (q : Queue), (s.queueEdges k h we re).queue k h = q → (if q.dual then
    q.readEdge else q).visible = [] → Answers (.queuePop k h we re) s (fun u => (u.queue k h).underrun = true ∧ (u.queue k h).underruns =
    min 0xFFFF (q.underruns + 1) ∧ (u.queue k h).lastPop = q.lastPop)) ∧
  (∀ (s : State) (k : Nat) (h : QShape) (we : List Nat) (re : Nat) (q : Queue), (s.queueEdges k h we re).queue k h = q → q.packet = true →
    q.held = [] → q.cancelNext = false → q.dropping = false → Answers (.packetCancel k h we re) s (fun u => (u.queue k h).open_ = [] ∧
    (u.queue k h).words = q.words ∧ (u.queue k h).cancels = min 0xFFFF (q.cancels + 1))) ∧
  (∀ (s : State) (k : Nat) (h : QShape) (q : Queue), s.queues.find? k = some q → Answers (.queueCntClr k) s (fun u => (u.queue k h).words =
    q.words ∧ (u.queue k h).overruns = 0 ∧ (u.queue k h).underruns = 0 ∧ (u.queue k h).aborts = 0 ∧ (u.queue k h).cancels = 0 ∧ (u.queue k
    h).parityErrs = 0 ∧ (u.queue k h).droppedWords = 0))

/-- With zclk running and out of reset, a privileged APB read of a 32-bit register answers it without PSLVERR and changes nothing else; a
privileged APB write to ZX_IRQ_EN with all strobes stores every field and answers without PSLVERR, and with a strobe at 0 it answers
PSLVERR, raises IRQ.APB and stores nothing. A host read through BAR0 of a register its function reaches answers the register; a write of
BX_EPC_CTRL by function 0 with the reserved bits 0 stores its fields. ZX_REG_READ of a 32-bit register and ZX_REG_WRITE of ZX_IRQ_EN do the
same at a ZX40 under ORIGIN INTERNAL and reply S_OK; an operator's read of a ZX40 with an ACTIVE local link, nothing waiting and fewer than
eight commands under way is sent there, and a write joins those that wait behind eight; neither is answered yet. Where a clause rests on a
choice of the model and not on the spec, log entries 7, 97, 98 and 100 name it. -/
def Obligations.RegistersAreReadAndWritten : Prop :=
  (∀ (s : State) (a : Nat) (x : ApbWord), s.apbOn = true → s.zx.inReset = false → apbWord? a = some x → x.wide = false → Answers
    (.registerRead (.apb a true)) s (fun u => u = s.emit (.apb (s.readReg x.reg x.idx % 2 ^ 32) false))) ∧
  (∀ (s : State) (a w : Nat) (x : ApbWord), s.apbOn = true → s.zx.inReset = false → apbWord? a = some x → x.reg = .ZX_IRQ_EN → Answers
    (.registerWrite (.apb a true) w 15) s (fun u => (∀ f ∈ Reg.fields .ZX_IRQ_EN, u.rd f 0 = bits w f.lo f.lo) ∧ u.out = s.out ++ [.apb 0
    false] ∧ u.zx = s.zx)) ∧
  (∀ (s : State) (a w k : Nat), s.apbOn = true → s.zx.inReset = false → k ≠ 15 → Answers (.registerWrite (.apb a true) w k) s (fun u =>
    u.rd ZX_IRQ_STS_APB = 1 ∧ u.out = s.out ++ [.apb 0 true] ∧ u.zx = s.zx ∧ RegsKept [.ZX_IRQ_STS] s u)) ∧
  (∀ (s : State) (a w k : Nat) (priv : Bool), s.apbOn = true → s.zx.inReset = true → Answers (.registerWrite (.apb a priv) w k) s (fun u =>
    u = s.emit (.apb 0 true))) ∧
  (∀ (s : State) (f i : Nat) (r : Reg), s.barUp = true → f < 64 → s.barHas f r i = true → Answers (.registerRead (.bar f r i)) s (fun u =>
    u.out.getLast? = some (.bar f (s.readReg r i)))) ∧
  (∀ (s : State) (w : Nat), s.barUp = true → w < 2 ^ 64 → w &&& Reg.mask .BX_EPC_CTRL 0 = w → Answers (.registerWrite (.bar 0 .BX_EPC_CTRL
    0) w 255) s (fun u => u.rd BX_EPC_CTRL_RETAIN_EPOCHS = storedValue BX_EPC_CTRL_RETAIN_EPOCHS (bits w 63 32) % 2 ^ 32 ∧ u.rd
    BX_EPC_CTRL_MIN_LEAD = storedValue BX_EPC_CTRL_MIN_LEAD (bits w 31 24) % 2 ^ 8 ∧ u.rd BX_EPC_CTRL_READ_WAIT_US = storedValue
    BX_EPC_CTRL_READ_WAIT_US (bits w 15 0) % 2 ^ 16 ∧ u.ep = s.ep)) ∧
  (∀ (s : State) (c : Cap) (x : ApbWord), c.isInternal = true → s.zxNext c 0x0501 = true → 3 ≤ c.params.length → c.p 2 = 0 → apbWord? (c.p
    1) = some x → x.wide = false → Answers (.zxRegRead c) s (fun u => u.zxReplied c 0x0501 S_OK [s.readReg x.reg x.idx % 2 ^ 32])) ∧
  (∀ (s : State) (c : Cap) (x : ApbWord), c.isInternal = true → s.zxNext c 0x0502 = true → 4 ≤ c.params.length → c.p 2 = 0 → apbWord? (c.p
    1) = some x → x.reg = .ZX_IRQ_EN → Answers (.zxRegWrite c) s (fun u => u.zxReplied c 0x0502 S_OK [] ∧ (∀ f ∈ Reg.fields .ZX_IRQ_EN, u.rd
    f 0 = bits (c.p 3) f.lo f.lo))) ∧
  (∀ (s : State) (c : Cap) (p : Nat), c.isOp = true → 1 ≤ c.params.length → s.localDie? (c.p 0) = some p → (s.link (.stem p)).lstate =
    .active → (s.zxPort p).waiting.length < 64 → (s.zxPort p).out.length = 8 → Answers (.zxRegWrite c) s (fun u => (u.zxPort
    p).waiting.length = (s.zxPort p).waiting.length + 1 ∧ u.wdn.replies = s.wdn.replies)) ∧
  (∀ (s : State) (c : Cap) (p : Nat), c.isOp = true → 1 ≤ c.params.length → s.localDie? (c.p 0) = some p → (s.link (.stem p)).lstate =
    .active → (s.zxPort p).waiting = [] → (s.zxPort p).out.length < 8 → Answers (.zxRegRead c) s (fun u => (u.zxPort p).out.length =
    (s.zxPort p).out.length + 1 ∧ u.wdn.replies = s.wdn.replies))

/-- LINK_RESET_DONE takes a powered end in RESET to LOCK, one without lanes to ACTIVE; LINK_LOCK_DONE takes LOCK to ALIGN with all lanes locked;
LINK_ALIGN_DONE, its lane numbers distinct and no delay above 8 word cycles, takes ALIGN to PARAM with its LANE_MAP; LINK_PARAM_DONE with
compatible INFO takes PARAM to ACTIVE, with NEXT, NXT and UNA returned to 0 where either side is FRESH, and where neither is, with NEXT and
NXT kept and UNA at the partner's RX_NEXT, if that lies from UNA to NXT. A training timeout counts an attempt and goes to RESET, at the
eighth to DOWN_HOLD; DOWN_HOLD ends in RESET, with no attempt counted, unless HOLD is set. A loss of lock, the third marker missed in a row
on a lane, 20 us without a flit and the RETRAIN bits, which count, take an ACTIVE end to LOCK with every lane locked and to RESET otherwise;
an end without lanes goes to RESET. HOLD, set anew, holds a port in DOWN_HOLD. STEM_PORT_CTRL by the operator is answered S_OK and writes
HOLD and ALARM_LIMIT. Where a clause rests on a choice of the model and not on the spec, log entries 67, 104 and 116 name it. -/
def Obligations.LinksTrainThroughTheirStates : Prop :=
  (∀ (s : State) (e : LinkId), (s.link e).lstate = .reset → (if e = .zx then s.zxOn else s.bxOn) = true → s.noLanes e = false → Answers
    (.linkResetDone e) s (fun u => (u.link e).lstate = .lock ∧ (u.regs = s.regs ∨ e.isCanopy = true))) ∧
  (∀ (s : State) (e : LinkId), (s.link e).lstate = .reset → (if e = .zx then s.zxOn else s.bxOn) = true → s.noLanes e = true → Answers
    (.linkResetDone e) s (fun u => (u.link e).lstate = .active)) ∧
  (∀ (s : State) (e : LinkId), (s.link e).lstate = .lock → Answers (.linkLockDone e) s (fun u => (u.link e).lstate = .align ∧ (u.link
    e).lock = 15)) ∧
  (∀ (s : State) (e : LinkId) (m : Nat) (d : List Nat), (s.link e).lstate = .align → lanesDistinct m = true → (∀ n ∈ d, n ≤ 8) → Answers
    (.linkAlignDone e ⟨m, d⟩) s (fun u => (u.link e).lstate = .param ∧ (u.link e).laneMap = m % 256 ∧ (u.link e).deskew = d)) ∧
  (∀ (s : State) (e : LinkId) (a b n : Nat) (pf pa : Bool), (s.link e).lstate = .param → s.infoOk e a b = true → (s.link e).fresh = true ∨
    pf = true → Answers (.linkParamDone e a b n ⟨pf, pa⟩) s (fun u => (u.link e).lstate = .active ∧ (u.link e).next = 0 ∧ (u.link e).nxt = 0
    ∧ (u.link e).una = 0 ∧ (u.link e).attempts = 0)) ∧
  (∀ (s : State) (e : LinkId) (a b n : Nat) (pa : Bool), (s.link e).lstate = .param → s.infoOk e a b = true → (s.link e).fresh = false → n
    < e.seqMod → (n + e.seqMod - (s.link e).una) % e.seqMod ≤ ((s.link e).nxt + e.seqMod - (s.link e).una) % e.seqMod → Answers
    (.linkParamDone e a b n ⟨false, pa⟩) s (fun u => (u.link e).lstate = .active ∧ (u.link e).una = n ∧ (u.link e).next = (s.link e).next ∧
    (u.link e).nxt = (s.link e).nxt)) ∧
  (∀ (s : State) (e : LinkId), (s.link e).lstate = .lock ∨ (s.link e).lstate = .align ∨ (s.link e).lstate = .param → Answers
    (.linkTrainTimeout e) s (fun u => (u.link e).lstate = (if (s.link e).attempts < 7 then .reset else .downHold) ∧ (u.link e).attempts =
    (s.link e).attempts + 1)) ∧
  (∀ (s : State) (e : LinkId), (s.link e).lstate = .downHold → s.holdSet e = false → Answers (.linkDownHoldExpiry e) s (fun u => (u.link
    e).lstate = .reset ∧ (u.link e).attempts = 0)) ∧
  (∀ (s : State) (e : LinkId) (m : Nat), (s.link e).lstate = .active → s.noLanes e = false → Answers (.linkLockLoss e m) s (fun u =>
    (u.link e).lstate = (if m % 16 = 15 then .lock else .reset) ∧ (u.link e).lock = m % 16)) ∧
  (∀ (s : State) (e : LinkId) (ws : List Nat), (s.link e).lstate = .active → s.noLanes e = false → (∃ n ∈ missRuns e (s.link e).laneMap
    (s.link e).missRun ws, 3 ≤ n) → Answers (.linkMarkerMiss ⟨e, ws⟩) s (fun u => (u.link e).lstate = (if (s.link e).lock = 15 then .lock
    else .reset))) ∧
  (∀ (s : State) (e : LinkId), (s.link e).lstate = .active → Answers (.linkNoFlitTimeout e) s (fun u => (u.link e).lstate = (if (s.link
    e).lock = 15 ∧ s.noLanes e = false then .lock else .reset))) ∧
  (∀ (s : State) (v : Nat), (s.link .zx).lstate = .active → bitAt v 0 = true → Answers (.zxStmRetrainWrite v) s (fun u => (u.link
    .zx).lstate = (if (s.link .zx).lock = 15 ∧ s.noLanes .zx = false then .lock else .reset) ∧ s.lsUp u 0xA9 1)) ∧
  (∀ (s : State) (p : Nat), p < 64 → (s.link (.stem p)).lstate = .active → Answers (.stemPortRetrainWrite p) s (fun u => (u.link (.stem
    p)).lstate = (if (s.link (.stem p)).lock = 15 then .lock else .reset) ∧ s.counted u BX_STM_PORT_MISC_RETRAINS p 1)) ∧
  (∀ (s : State) (p : Nat), p < 64 → s.flag BX_STM_PORT_CTRL_HOLD p = false → Answers (.stemPortHoldWrite p true) s (fun u => u.rd
    BX_STM_PORT_CTRL_HOLD p = 1 ∧ (u.link (.stem p)).lstate = .downHold)) ∧
  (∀ (s : State) (q : Nat), q < 24 → (s.link (.canopy q)).lstate = .active → Answers (.cnpPortRetrainWrite q) s (fun u => (u.link (.canopy
    q)).lstate = (if (s.link (.canopy q)).lock = 15 then .lock else .reset) ∧ s.counted u BX_CNP_PORT_MISC_RETRAINS q 1)) ∧
  (∀ (s : State) (q : Nat), q < 24 → s.flag BX_CNP_PORT_CTRL_HOLD q = false → Answers (.cnpPortHoldWrite q true) s (fun u => u.rd
    BX_CNP_PORT_CTRL_HOLD q = 1 ∧ (u.link (.canopy q)).lstate = .downHold)) ∧
  (∀ (s : State) (c : Cap), c.isOp = true → 4 ≤ c.params.length → c.p 0 ≤ 63 → Answers (.stemPortCtrl c) s (fun u => u.replied c 0x0610
    S_OK [] ∧ u.flag BX_STM_PORT_CTRL_HOLD (c.p 0) = bitAt (c.p 1) 0 ∧ u.rd BX_STM_PORT_CTRL_ALARM_LIMIT (c.p 0) = c.p 3 % 65536))

/-- At a Stem end of BX64 that may send, its partner ACTIVE, with one command waiting, no TIME flit fixed, no resend and no NAK due and room in
the replay buffer, FLIT_TRANSMIT takes it from those waiting, gives it NXT as its SEQ and holds it until acknowledged. A sequenced flit with
a good CRC whose SEQ is the one expected next, which arrives as lane words at a Stem end in ACTIVE, with no injector at work there and room
in the crossing queues, moves NEXT on and ends a pending NAK. The NAK timer makes a pending NAK due, the replay timer starts a resend from
UNA below the eighth and counts it, and the ACK timer makes an acknowledgement due while flits are unacknowledged. Where a clause rests on a
choice of the model and not on the spec, log entries 10, 78, 79 and 116 name it. -/
def Obligations.FlitsAreSentHeldAndAcknowledged : Prop :=
  (∀ (s : State) (p : Nat) (w : WaitFlit), s.maySend (.stem p) = true → (s.link (.stem p)).partnerActive = true → (s.link (.stem
    p)).timeFixed = none → (s.link (.stem p)).resendFrom = none → (s.link (.stem p)).nakDue = false → (s.link (.stem p)).wait = [(4, w)] →
    s.replayRoom (.stem p) = true → Answers (.flitTransmit (.stem p) false) s (fun u => (u.link (.stem p)).wait = [] ∧ (u.link (.stem
    p)).nxt = ((s.link (.stem p)).nxt + 1) % (LinkId.stem p).seqMod ∧ (u.link (.stem p)).replay.map (fun h => h.seq) = (s.link (.stem
    p)).replay.map (fun h => h.seq) ++ [(s.link (.stem p)).nxt])) ∧
  (∀ (s : State) (e : LinkId) (ws : List Nat) (bs : Bytes) (t : State), (s.link e).lstate = .active → e.isCanopy = false → s.rxFlit e ws =
    (bs, t) → t.pcs e false bs = ([bs], t) → ((∀ p, e = .stem p → p ≠ 64 → (t.crossIn p (bits (rdLe bs 0 8) 63 60) bs).1 = true)) →
    crcVerdict false bs = some false → sequencedTy (parseHdr false bs).ty = true → (parseHdr false bs).seq = (s.link e).next → Answers
    (.flitReceive e ws) s (fun u => (u.link e).next = ((s.link e).next + 1) % e.seqMod ∧ (u.link e).nakPending = false)) ∧
  (∀ (s : State) (e : LinkId), (s.link e).nakPending = true → Answers (.nakTimerExpiry e) s (fun u => (u.link e).nakDue = true)) ∧
  (∀ (s : State) (e : LinkId), (s.link e).lstate = .active → (s.link e).resendFrom = none → (s.link e).replay ≠ [] → (s.link e).resends < 8
    → Answers (.replayTimerExpiry e) s (fun u => (u.link e).resendFrom = some (s.link e).una ∧ (u.link e).resends = (s.link e).resends + 1)) ∧
  (∀ (s : State) (e : LinkId), 0 < (s.link e).unacked → Answers (.ackTimerExpiry e) s (fun u => (u.link e).ackDue = true))

/-- SYNC_SEND numbers and opens an exchange with every ACTIVE Stem port and fixes a SYNC where no TIME flit is fixed; SYNC_RECEIVE opens the
exchange at the ZX40 with its number, its period and t1 = ORIGIN + CORRECTION; DELAY_REQ_RECEIVE of the open number at a port with no TIME
flit fixed ends it there and fixes a DELAY_RESP; DELAY_RESP_RECEIVE of the open number with a delay of 0 to 100 us closes the exchange,
marks the source good and, as the first measurement, steps into SETTLING. On Canopy a Sync from the time parent opens the exchange at a
child with its stamps and correction, a Delay_Req of the open number ends it at the parent, and a Delay_Resp that answers the child through
its time source, with such a delay, closes it as on Stem. A relay passes a time message with hops left on with one hop fewer. In MODE 1 a
1PPS edge wide and spaced, none announced, is the last edge, and a timely Time-of-Day frame for a whole second, VALID and with a good CRC,
before the first step, announces the next edge and is the previous value from then on; neither changes a register. Where a clause rests on a
choice of the model and not on the spec, log entries 36, 37, 38, 39, 40 and 118 name it. -/
def Obligations.TimeExchangesComplete : Prop :=
  (∀ (s : State) (st ct : SMap Nat) (p : Nat), p < 65 → (s.link (.stem p)).lstate = .active → (s.link (.stem p)).timeFixed = none → Answers
    (.syncSend st ct) s (fun u => SMap.getD u.tsrc.stem p (0, false) = (((SMap.getD s.tsrc.stem p (0, false)).1 + 1) % 65536, true) ∧
    (u.link (.stem p)).timeFixed.map (fun b => (b.ty, b.sub)) = some (5, 0))) ∧
  (∀ (s : State) (exch period origin : Nat) (corr : Int) (ago ahead : Nat), Answers (.syncReceive exch period origin corr ago ahead) s (fun
    u => u.zx.tb.exch.map (fun x => (x.num, x.t1, x.period)) = some (exch % 65536, (origin : Int) + corr, period))) ∧
  (∀ (s : State) (p exch ago ahead : Nat), s.tsrc.stem.find? p = some (exch % 65536, true) → (s.link (.stem p)).timeFixed = none → Answers
    (.delayReqReceive p exch ago ahead) s (fun u => SMap.getD u.tsrc.stem p (0, true) = (exch % 65536, false) ∧ (u.link (.stem
    p)).timeFixed.map (fun b => (b.ty, b.sub)) = some (5, 2))) ∧
  (∀ (s : State) (exch t4 : Nat) (x : Exchange), s.zx.tb.exch = some x → x.num = exch % 65536 → 0 ≤ (x.t2 - x.t1) + ((t4 : Int) - x.t3) →
    (x.t2 - x.t1) + ((t4 : Int) - x.t3) ≤ 13107200000 → Answers (.delayRespReceive exch t4) s (fun u => u.zx.tb.exch = none ∧ u.zx.tb.srcOk
    = true ∧ (s.zx.tb.stepUsed = false → u.zx.tb.state = .settling ∧ u.zx.tb.stepUsed = true))) ∧
  (∀ (s : State) (q src : Nat) (msg : Bytes) (ago ahead : Nat), s.ptpOk msg 0 src = true → s.timePort q = true → Answers
    (.canopySyncReceive q src msg ago ahead) s (fun u => u.bxTb.exch.map (fun x => (x.num, x.t1, x.cS, x.t2, x.t3)) = some (ptpSeq msg,
    (ptpStamp msg : Int), ptpCorr msg + s.asym, s.canopyStamp q ago, (s.stampAhead 1 ahead : Int)))) ∧
  (∀ (s : State) (q src : Nat) (msg : Bytes) (ago : Nat), s.ptpOk msg 1 src = true → s.tsrc.canopy.find? src = some (ptpSeq msg, true) →
    Answers (.canopyDelayReqReceive q src msg ago) s (fun u => SMap.getD u.tsrc.canopy src (0, true) = (ptpSeq msg, false))) ∧
  (∀ (s : State) (q src : Nat) (msg : Bytes) (x : Exchange), s.ptpOk msg 9 src = true → s.bxTb.exch = some x → x.num = ptpSeq msg → x.src =
    src → (msg.drop 44).take 10 = ptpPort (s.rd BX_CNP_IDENT_FLEET_ID) s.agg x.reqPort → s.timePort x.q = true → 0 ≤ (x.t2 - x.t3) +
    ((ptpStamp msg : Int) - x.t1) - x.cS - ptpCorr msg → (x.t2 - x.t3) + ((ptpStamp msg : Int) - x.t1) - x.cS - ptpCorr msg ≤ 13107200000 →
    Answers (.canopyDelayRespReceive ⟨q, src⟩ msg) s (fun u => u.bxTb.exch = none ∧ u.bxTb.srcOk = true ∧ (s.bxTb.stepUsed = false →
    u.bxTb.state = .settling))) ∧
  (∀ (s : State) (q sub src dst hops : Nat) (msg : Bytes) (ago ahead o : Nat), hops ≠ 0 → (s.consume (.canopy q) 5 sub).outPort 5 sub src
    dst = (some o, s.consume (.canopy q) 5 sub) → Answers (.timeRelay q sub src dst hops msg ago ahead) s (fun u => (u.link (.canopy
    o)).wait.map (fun w => w.2.body.hops) = (s.link (.canopy o)).wait.map (fun w => w.2.body.hops) ++ [hops - 1])) ∧
  (∀ (s : State) (ago : Nat), s.rd BX_TB_SRC_MODE = 1 → s.ppsSpaced (s.stampAgo 1 ago).toNat = true → s.pps.tod = none → Answers (.ppsEdge
    ago true) s (fun u => u.pps.lastEdge = some (s.stampAgo 1 ago).toNat ∧ u.pps.tod = none ∧ u.regs = s.regs)) ∧
  (∀ (s : State) (f : Bytes) (e : Nat), s.rd BX_TB_SRC_MODE = 1 → f.length = 16 → rdLe f 0 2 = 0xA55A → rdLe f 2 1 = 1 → crc32c (f.take 12)
    = rdLe f 12 4 → s.pps.lastEdge = some e → e + 200000000 * 65536 ≤ s.bxRc → s.bxRc ≤ e + 900000000 * 65536 → bitAt (rdLe f 3 1) 0 = true
    → rdLe f 4 8 % 1000000000 = 0 → s.bxTb.stepUsed = false → Answers (.todFrame f) s (fun u => u.pps.tod = some (rdLe f 4 8) ∧
    u.pps.lastTod = some (rdLe f 4 8) ∧ u.regs = s.regs))

/-- A LOCKED timebase that loses its source is in HOLDOVER at the same count; HOLDOVER that has lasted HOLDOVER_MS is UNLOCKED and counts a lock
loss. RESYNC of BX64 is answered S_OK and grants one step; a grant that 16 exchanges have not used lapses. An armed trigger whose target has
come drives its output for WIDTH ticks; a single-shot one disarms, and a periodic one stays armed for a target later than now by at most its
period. Arming before the target stores it and drives nothing. The 1PPS output, enabled and LOCKED or in HOLDOVER, pulses for WIDTH_NS at a
whole second that has had no pulse. TIME_SRC_SET with both ports at most 23 is answered S_OK and stores the source, TIME_READ the time and
the state of the timebase, TIME_STATUS six registers with nothing but that reply changed, and PPS_SET stores EN and WIDTH_NS; each answers
S_OK. Where a clause rests on a choice of the model and not on the spec, log entries 3, 41, 42 and 118 name it. -/
def Obligations.TimebasesHoldAndTriggersFire : Prop :=
  (∀ (s : State) (p : Part), (s.tbOf (if p = .zx then 0 else 1)).state = .locked → s.sourceLost (if p = .zx then 0 else 1) = true → Answers
    (.tbSourceLost p) s (fun u => (u.tbOf (if p = .zx then 0 else 1)).state = .holdover ∧ (u.tbOf (if p = .zx then 0 else 1)).srcOk = false
    ∧ (u.tbOf (if p = .zx then 0 else 1)).count = (s.tbOf (if p = .zx then 0 else 1)).count)) ∧
  (∀ (s : State) (p : Part), s.holdoverOver (if p = .zx then 0 else 1) = true → Answers (.holdoverExpiry p) s (fun u => (u.tbOf (if p = .zx
    then 0 else 1)).state = .unlocked ∧ s.counted u TB_STS_LOCK_LOSSES (if p = .zx then 0 else 1) 1)) ∧
  (∀ (s : State) (c : Cap), c.isOp = true → 2 ≤ c.params.length → c.p 0 = 0 → Answers (.resync c) s (fun u => u.bxTb.grant = some 16 ∧
    u.replied c 0x0103 S_OK [])) ∧
  (∀ (s : State) (p : Part), (s.tbOf (if p = .zx then 0 else 1)).grant = some 0 → Answers (.resyncGrantLapse p) s (fun u => (u.tbOf (if p =
    .zx then 0 else 1)).grant = none ∧ u.regs = s.regs)) ∧
  (∀ (s : State) (k : Nat), k < 8 → s.flag ZX_LAC_CFG_ARM k = true → (s.lac k).target ≤ s.zxRc → s.lacPeriod k = 0 → Answers (.lacFire k) s
    (fun u => u.rd ZX_LAC_CFG_ARM k = 0 ∧ u.out = s.out ++ [.lacPulse k (max 1 (s.rd ZX_LAC_CFG_WIDTH k))] ∧ (u.lac k).high = max 1 (s.rd
    ZX_LAC_CFG_WIDTH k) ∧ s.lsUp u 0xC9 1)) ∧
  (∀ (s : State) (k : Nat), k < 8 → s.flag ZX_LAC_CFG_ARM k = true → (s.lac k).target ≤ s.zxRc → s.lacPeriod k ≠ 0 → Answers (.lacFire k) s
    (fun u => u.flag ZX_LAC_CFG_ARM k = true ∧ s.zxRc < (u.lac k).target ∧ (u.lac k).target ≤ s.zxRc + s.lacPeriod k ∧ u.out = s.out ++
    [.lacPulse k (max 1 (s.rd ZX_LAC_CFG_WIDTH k))])) ∧
  (∀ (s : State) (k v : Nat), k < 8 → bitAt v 63 = true → s.zxRc < s.rd ZX_LAC_TGT_TGT_NS k * 65536 + bits v 15 0 → Answers (.lacArm k v) s
    (fun u => u.rd ZX_LAC_CFG_ARM k = 1 ∧ (u.lac k).target = s.rd ZX_LAC_TGT_TGT_NS k * 65536 + bits v 15 0 ∧ u.out = s.out)) ∧
  (∀ (s : State), s.ppsOn = true → ((∀ n, s.pps.outSec = some n → n < s.bxTb.count / (1000000000 * 4294967296))) → (s.bxTb.count -
    s.bxTb.inc) / (1000000000 * 4294967296) ≠ s.bxTb.count / (1000000000 * 4294967296) → Answers (.ppsOutput) s (fun u => u.out = s.out ++
    [.ppsPulse (s.rd BX_TB_PPS_WIDTH_NS)] ∧ u.pps.outUntil = some ((s.bxTb.count / (1000000000 * 4294967296) * 1000000000 + s.rd
    BX_TB_PPS_WIDTH_NS) * 65536) ∧ u.regs = s.regs)) ∧
  (∀ (s : State) (c : Cap), c.isOp = true → 1 ≤ c.params.length → bits (c.p 0) 61 57 ≤ 23 → bits (c.p 0) 56 52 ≤ 23 → Answers (.timeSrcSet
    c) s (fun u => u.rd BX_TB_SRC_MODE = (if bits (c.p 0) 63 62 = 3 then 0 else bits (c.p 0) 63 62) ∧ u.rd BX_TB_SRC_BACKUP_EN = bits (c.p
    0) 51 51 ∧ u.rd BX_TB_SRC_DOMAIN = bits (c.p 0) 47 40 ∧ u.rd BX_TB_SRC_ASYM_PS = bits (c.p 0) 31 16 ∧ u.rd BX_TB_SRC_PRIMARY = bits (c.p
    0) 61 57 ∧ u.rd BX_TB_SRC_BACKUP = bits (c.p 0) 56 52 ∧ u.rd BX_TB_SRC_SYNC_PERIOD_US = max 16 (bits (c.p 0) 15 0) ∧ u.replied c 0x0102
    S_OK [])) ∧
  (∀ (s : State) (c : Cap), (c.isOp || c.isTenant || c.isMctp) = true → Answers (.timeRead c) s (fun u => u.replied c 0x0101 S_OK
    [s.readReg .TB_NOW_NS 1, (s.readEffect .TB_NOW_NS 1).readReg .TB_NOW_FRAC 1, s.readReg .TB_STS 1])) ∧
  (∀ (s : State) (c : Cap), c.isOp = true → Answers (.timeStatus c) s (fun u => u.replied c 0x0104 S_OK [s.readReg .TB_STS 1, s.readReg
    .TB_OFFSET 1, s.readReg .TB_INC 1, s.readReg .TB_SERVO 1, s.readReg .BX_TB_TOD, s.readReg .BX_TB_PPS] ∧ s.onlyReply u)) ∧
  (∀ (s : State) (c : Cap), c.isOp = true → 1 ≤ c.params.length → Answers (.ppsSet c) s (fun u => u.rd BX_TB_PPS_EN = bits (c.p 0) 63 63 ∧
    u.rd BX_TB_PPS_WIDTH_NS = bits (c.p 0) 31 0 ∧ u.replied c 0x0105 S_OK []))

/-- For the oldest whole block of a unit that checks, with no injection and not a re-presentation: OK is counted in CHECKED and BLAZE_CHECKED
and leaves nothing poisoned; MISMATCH or STALE with POISON set and room counts in 0xB9, is noted in LAST, and queues every 64-byte granule
of the block for poisoning; CHECK_CORRUPT counts in 0xBA and, where the refetch list has room, is noted in LAST and enters a free slot of
the list with its address, TAG and word. A refetch entry not coming and not re-presented in REFETCH_US leaves and counts UNVERIFIED; a flush
with no block on its way empties the list; CNT_CLR returns the counters to 0 and changes nothing else of the ZX40. In Z0 or Z1 out of reset
a write of POLY while EN is 0 stores it and is answered without PSLVERR, and one that would change it while EN is 1 keeps it and is answered
with PSLVERR. Where a clause rests on a choice of the model and not on the spec, log entries 45 and 46 name it. -/
def Obligations.BlazeUnitsOfZx40Judge : Prop :=
  (∀ (s : State) (k : Nat) (b : BlzBlock) (t : List BlzBlock), k < 16 → (s.blzUnit k).ready = b :: t → s.zx.inj.find? k = none → s.rd
    BLZ_CFG_MODE k ≠ 1 → b.represent = false → s.blzJudge k b.data b.addr b.seq b.word = blzOk → Answers (.blazeClassify k) s (fun u =>
    (u.blzUnit k).ready = t ∧ s.counted u BLZ_CNT0_CHECKED k 1 ∧ s.lsUp u 0xB8 1 ∧ u.zx.psnQ = s.zx.psnQ ∧ u.out = s.out)) ∧
  (∀ (s : State) (k : Nat) (b : BlzBlock) (t : List BlzBlock), k < 16 → (s.blzUnit k).ready = b :: t → s.zx.inj.find? k = none → s.rd
    BLZ_CFG_MODE k ≠ 1 → b.represent = false → s.blzJudge k b.data b.addr b.seq b.word = blzStale ∨ s.blzJudge k b.data b.addr b.seq b.word
    = blzMismatch → s.flag BLZ_CFG_POISON k = true → s.zx.psnQ.length < 16 → Answers (.blazeClassify k) s (fun u => (u.blzUnit k).ready = t
    ∧ u.zx.psnQ = s.zx.psnQ ++ [(List.range (s.blzSize k / 64)).map (fun i => b.addr / 64 % 2 ^ 42 + i)] ∧ u.rd BLZ_LAST_OUTCOME k =
    s.blzJudge k b.data b.addr b.seq b.word ∧ u.rd BLZ_LAST_VALID k = 1 ∧ s.lsUp u 0xB9 1)) ∧
  (∀ (s : State) (k : Nat) (b : BlzBlock) (t : List BlzBlock), k < 16 → (s.blzUnit k).ready = b :: t → s.zx.inj.find? k = none → s.rd
    BLZ_CFG_MODE k ≠ 1 → b.represent = false → s.blzJudge k b.data b.addr b.seq b.word = blzCorrupt → (∃ j, j < 16 ∧ (s.blzUnit
    k).refetch.find? j = none) → Answers (.blazeClassify k) s (fun u => (u.blzUnit k).ready = t ∧ s.lsUp u 0xBA 1 ∧ u.rd BLZ_LAST_OUTCOME k
    = blzCorrupt ∧ (∃ j, j < 16 ∧ (s.blzUnit k).refetch.find? j = none ∧ ((u.blzUnit k).refetch.find? j).map (fun e => (e.addr, e.tag,
    e.word)) = some (b.addr, b.tag, b.word)))) ∧
  (∀ (s : State) (k j : Nat) (e : RefetchEntry), (s.blzUnit k).refetch.find? j = some e → s.blzComing k e = false → e.at_ + max 1 (s.rd
    ZX_BLZ_CTRL_REFETCH_US) * 1000 ≤ s.zxNs → Answers (.blazeRefetchTimeout k j) s (fun u => (u.blzUnit k).refetch.find? j = none ∧
    s.counted u BLZ_CNT1_UNVERIFIED k 1)) ∧
  (∀ (s : State) (k : Nat), (s.blzUnit k).block = none → (s.blzUnit k).ready = [] → Answers (.blzFlushRf k) s (fun u => (∀ j, j < 16 →
    (u.blzUnit k).refetch.find? j = none))) ∧
  (∀ (s : State) (k : Nat), Answers (.blzCntClr k) s (fun u => u.rd BLZ_CNT0_CHECKED k = 0 ∧ u.rd BLZ_CNT0_MISMATCH k = 0 ∧ u.rd
    BLZ_CNT1_STALE k = 0 ∧ u.rd BLZ_CNT1_CORRUPT k = 0 ∧ u.rd BLZ_CNT1_UNVERIFIED k = 0 ∧ u.rd BLZ_CNT1_MALFORMED k = 0 ∧ u.zx = s.zx)) ∧
  (∀ (s : State) (k v : Nat), s.zx.inReset = false → s.zx.pwr < 2 → s.flag BLZ_CFG_EN k = false → Answers (.blzCfgWrite .zx k 1 v) s (fun u
    => u.rd BLZ_POLY_POLY k = bits v 63 32 ∧ u.rd BLZ_POLY_INIT k = bits v 31 0 ∧ u.out = s.out ++ [.apb 0 false])) ∧
  (∀ (s : State) (k v : Nat), s.zx.inReset = false → s.zx.pwr < 2 → s.flag BLZ_CFG_EN k = true → s.rd BLZ_POLY_POLY k < 2 ^ 32 → bits v 63
    32 ≠ s.rd BLZ_POLY_POLY k → Answers (.blzCfgWrite .zx k 1 v) s (fun u => u.rd BLZ_POLY_POLY k = s.rd BLZ_POLY_POLY k ∧ u.out = s.out ++
    [.apb 0 true] ∧ s.lsUp u 0xCB 1))

/-- For unit k of BX64 in service: a write point given a clean block emits its address and the word of R185 to R187, counts it checked and
changes no memory; a check of a clean block with no injector armed counts it: one that is OK at a unit from 16 to 23 emits nothing and
changes no memory, and one found CHECK_CORRUPT at any unit asks for a re-read and holds the block with one re-read made; a clean re-read by
a unit from 16 to 23 that is OK is counted, ends the loop and emits nothing. A write of POLY of a unit not in service stores it and emits
nothing. Where a clause rests on a choice of the model and not on the spec, log entries 56 and 60 name it. -/
def Obligations.BlazeUnitsOfBx64Judge : Prop :=
  (∀ (s : State) (k fmt : Nat) (b : BxBlock), k < 32 → s.flag BLZ_CFG_EN (16 + k) = true → b.poisoned = false → Answers (.bxBlazeCheck k
    (some fmt) b) s (fun u => u.out = s.out ++ [.blazeWord k b.addr (s.blzForm (16 + k) b.data b.addr b.seq fmt)] ∧ s.counted u
    BLZ_CNT0_CHECKED (16 + k) 1 ∧ u.hbm = s.hbm)) ∧
  (∀ (s : State) (k : Nat) (b : BxBlock), 16 ≤ k → k < 24 → s.flag BLZ_CFG_EN (16 + k) = true → s.flag BX_WT_INJ_ARMED (wtTarget 3 k) =
    false → b.poisoned = false → s.blzJudge (16 + k) b.data b.addr b.seq b.word = blzOk → Answers (.bxBlazeCheck k none b) s (fun u =>
    s.counted u BLZ_CNT0_CHECKED (16 + k) 1 ∧ u.hbm = s.hbm ∧ u.out = s.out)) ∧
  (∀ (s : State) (k : Nat) (b : BxBlock), k < 32 → s.flag BLZ_CFG_EN (16 + k) = true → s.flag BX_WT_INJ_ARMED (wtTarget 3 k) = false →
    b.poisoned = false → s.blzJudge (16 + k) b.data b.addr b.seq b.word = blzCorrupt → Answers (.bxBlazeCheck k none b) s (fun u => u.out =
    s.out ++ [.reread k b.addr] ∧ SMap.find? u.hbm.reread k = some (b, 1) ∧ s.counted u BLZ_CNT1_CORRUPT (16 + k) 1)) ∧
  (∀ (s : State) (k w q : Nat) (d : Bytes) (b : BxBlock) (n : Nat), 16 ≤ k → k < 24 → s.hbm.reread.find? k = some (b, n) → s.flag
    BX_WT_INJ_ARMED (wtTarget 3 k) = false → s.blzJudge (16 + k) d b.addr (q % 2 ^ 32) (w % 2 ^ 64) = blzOk → Answers (.blazeReread k ⟨w, q⟩
    d false) s (fun u => SMap.find? u.hbm.reread k = none ∧ u.out = s.out ∧ s.counted u BLZ_CNT0_CHECKED (16 + k) 1)) ∧
  (∀ (s : State) (k v : Nat), s.flag BLZ_CFG_EN (16 + k) = false → Answers (.blzCfgWrite .bx k 1 v) s (fun u => u.rd BLZ_POLY_POLY (16 + k)
    = bits v 63 32 ∧ u.rd BLZ_POLY_INIT (16 + k) = bits v 31 0 ∧ u.out = s.out))

/-- At a BX64 that is not the root of epoch n and has an acting parent for it: the first partial of epoch n leaves at the flush instant, or
earlier when every expected die is classified and every child has sent; a supplement leaves once L/8 has passed since the last and before
the horizon. A partial holds what was merged since the last one, is kept as sent, counted, sent to the acting parent under end-to-end
recovery, and leaves the context with nothing unsent. A received partial of the epoch's generation, from a child, of an uncommitted epoch
and at the root before the horizon, is kept and merged if none of its dies is merged already; one that is not of the generation is counted
in GEN_MISMATCH, one of a lost origin in LOST_ORIGIN, and one from no child changes nothing in the reduction. A restored NEXT_INC of a die
becomes its NEXT_INC and the one before it its current incarnation, and snapshots of epochs before the current one are RECOMPUTE ones from
then on; a mirror message had before restores nothing. Where a clause rests on a choice of the model and not on the spec, log entries 15 and
30 name it. -/
def Obligations.PartialsFlowUpTheTree : Prop :=
  (∀ (s : State) (n a : Nat) (x : Ctx) (g : GenRec), s.ctx? n = some x → s.rootOf n = false → s.parentOf n = some a → s.genOf n = some g →
    x.firstSent = false → s.flushAt n ≤ s.bxNs → Answers (.partialFlush n false) s (fun u => (u.ctx? n).map (fun y => (y.firstSent,
    y.lastSent, y.partSeq, y.acc)) = some (true, s.bxNs, s.nextSeq n + 1, {}) ∧ u.red.kept.map (fun k => (k.sent, k.p.epoch, k.p.supplement,
    k.p.body)) = s.red.kept.map (fun k => (k.sent, k.p.epoch, k.p.supplement, k.p.body)) ++ [(true, n, false, x.acc)] ∧ s.counted u
    BX_RED_CNT0_PARTIALS_SENT 0 1 ∧ (∃ m ∈ u.cnp.e2e, m.ty = 1 ∧ m.sub = 1 ∧ m.dst = a ∧ m.epoch = some n))) ∧
  (∀ (s : State) (n a : Nat) (x : Ctx) (g : GenRec), s.ctx? n = some x → s.rootOf n = false → s.parentOf n = some a → s.genOf n = some g →
    x.firstSent = false → (∀ d ∈ s.expectedLocals n, x.localSeen.contains d = true) → (∀ c ∈ s.childrenOf n, x.childFirst.contains c = true)
    → Answers (.partialReady n) s (fun u => (u.ctx? n).map (fun y => (y.firstSent, y.lastSent, y.partSeq, y.acc)) = some (true, s.bxNs,
    s.nextSeq n + 1, {}) ∧ u.red.kept.map (fun k => (k.sent, k.p.epoch, k.p.supplement, k.p.body)) = s.red.kept.map (fun k => (k.sent,
    k.p.epoch, k.p.supplement, k.p.body)) ++ [(true, n, false, x.acc)] ∧ s.counted u BX_RED_CNT0_PARTIALS_SENT 0 1 ∧ (∃ m ∈ u.cnp.e2e, m.ty
    = 1 ∧ m.sub = 1 ∧ m.dst = a ∧ m.epoch = some n))) ∧
  (∀ (s : State) (n a : Nat) (x : Ctx) (g : GenRec), s.ctx? n = some x → s.rootOf n = false → s.parentOf n = some a → s.genOf n = some g →
    x.firstSent = true → x.acc.dies ≠ [] → x.lastSent + (s.schedOf n).len / 8 ≤ s.bxNs → s.bxNs < s.horizonOf n → Answers
    (.supplementPartial n) s (fun u => (u.ctx? n).map (fun y => (y.firstSent, y.lastSent, y.partSeq, y.acc)) = some (true, s.bxNs, s.nextSeq
    n + 1, {}) ∧ u.red.kept.map (fun k => (k.sent, k.p.epoch, k.p.supplement, k.p.body)) = s.red.kept.map (fun k => (k.sent, k.p.epoch,
    k.p.supplement, k.p.body)) ++ [(true, n, true, x.acc)] ∧ s.counted u BX_RED_CNT0_PARTIALS_SENT 0 1 ∧ (∃ m ∈ u.cnp.e2e, m.ty = 1 ∧ m.sub
    = 1 ∧ m.dst = a ∧ m.epoch = some n))) ∧
  (∀ (s : State) (q src m : Nat) (p : Partial) (x : Ctx), s.isLost src = false → src ∈ s.childrenOf p.epoch → (src, m) ∉ s.cnp.delivered →
    p.recompute = false → (s.genOf p.epoch).map (fun g => g.gen) = some p.gen → s.committed p.epoch = false → (s.rootOf p.epoch = true →
    s.bxNs < s.horizonOf p.epoch) → s.ctx? p.epoch = some x → p.body.dies.any (fun d => x.merged.any (fun y => y.1 = d.1)) = false → Answers
    (.partialReceive q src m p false) s (fun u => (u.ctx? p.epoch).map (fun y => y.merged) = some (x.merged ++ p.body.dies) ∧ u.red.kept =
    s.red.kept ++ [⟨false, p⟩] ∧ s.counted u BX_RED_CNT0_PARTIALS_RCVD 0 1 ∧ (src, m) ∈ u.cnp.delivered)) ∧
  (∀ (s : State) (q src m : Nat) (p : Partial) (g : GenRec), s.isLost src = false → src ∈ s.childrenOf p.epoch → (src, m) ∉ s.cnp.delivered
    → p.recompute = false → s.genOf p.epoch = some g → p.gen ≠ g.gen → Answers (.partialReceive q src m p false) s (fun u => u.red = s.red ∧
    s.counted u BX_RED_CNT1_GEN_MISMATCH 0 1)) ∧
  (∀ (s : State) (q src m : Nat) (p : Partial) (e : Bool), s.isLost src = true → Answers (.partialReceive q src m p e) s (fun u => u.red =
    s.red ∧ s.counted u BX_RED_CNT1_LOST_ORIGIN 0 1)) ∧
  (∀ (s : State) (q src m : Nat) (p : Partial) (e : Bool), s.isLost src = false → p.recompute = false → src ∉ s.childrenOf p.epoch →
    Answers (.partialReceive q src m p e) s (fun u => u.red = s.red ∧ u.cnp.delivered = s.cnp.delivered)) ∧
  (∀ (s : State) (q src m d i : Nat), (src, m) ∉ s.cnp.delivered → s.liveGen?.isSome = true → s.ep.restoreDue = false → Answers
    (.mirrorRestoreReceive q src m [.nextInc d i]) s (fun u => (u.die d).next = i ∧ (u.die d).cur = prevInc i ∧ u.red.recomputeTo = some
    (max (s.red.recomputeTo.getD 0) s.bxEpoch))) ∧
  (∀ (s : State) (q src m : Nat) (l : List MirrorItem), (src, m) ∈ s.cnp.delivered → Answers (.mirrorRestoreReceive q src m l) s (fun u =>
    u.red = s.red ∧ u.ep = s.ep))

/-- A complete snapshot under the die's current incarnation, of a closed epoch, a resend or of a later epoch than the last fresh one, not held
and with room in the log, is held; the same bytes again in a resend are counted DUP_SNAP and change nothing in the reduction; one under
another incarnation is counted and dropped; one read poisoned is counted, not held, noted as lacking, and the epoch is asked for again. A
safety report whose flit is accepted writes BX_SAF_DIE. A good and accepted alarm of a die not fenced and within its limit leaves whole
toward the acting parent, with VC 0 and no stomp. A Blaze report of one MISMATCH entry that finds no step is remembered; one of a fenced die
is not. A reply to an operator's command is returned with its status and results, and takes the command off the port; a reply to none
replies nothing. An incarnation read of 0 assigns the die its next incarnation. The vectors of a committed record's present dies are built
in epoch order, where no correlator feature is used; of an epoch not after the last one built none is built. Where a clause rests on a
choice of the model and not on the spec, log entries 16 and 90 name it. -/
def Obligations.MessagesOfLocalDiesAreTaken : Prop :=
  (∀ (s : State) (p : Nat) (b : Bytes) (r : Bool), p < 65 → snapInc b = (s.die p).cur → s.closed (snapEpoch b) = true → (r ||
    (s.red.lastFresh.find? p).all (fun m => decide (m < snapEpoch b))) = true → s.held? p (snapEpoch b) = none → s.logBytes + roundUp64
    b.length ≤ s.regionBytes 1 → Answers (.snapReceive p b r false) s (fun u => (u.held? p (snapEpoch b)).map (fun x => (x.bytes, x.inc,
    x.gen)) = some (b, snapInc b, snapGen b))) ∧
  (∀ (s : State) (p : Nat) (b : Bytes) (x : IngEntry), snapInc b = (s.die p).cur → s.closed (snapEpoch b) = true → s.held? p (snapEpoch b)
    = some x → x.bytes = b → Answers (.snapReceive p b true false) s (fun u => u.red = s.red ∧ s.counted u BX_STM_PORT_MISC_DUP_SNAP p 1)) ∧
  (∀ (s : State) (p : Nat) (b : Bytes) (r : Bool), snapInc b ≠ (s.die p).cur → Answers (.snapReceive p b r false) s (fun u => u.red.log =
    s.red.log ∧ u.cor = s.cor ∧ s.counted u BX_EPC_DROP_CNT_OLD_INCARNATION 0 1)) ∧
  (∀ (s : State) (p : Nat) (b : Bytes) (r : Bool), (s.die p).ilogLacks = none → Answers (.snapReceive p b r true) s (fun u => u.red.log =
    s.red.log ∧ (∃ m ∈ (u.zxPort p).out ++ (u.zxPort p).waiting, m.op = 0x0514 ∧ m.params.getD 1 0 = snapEpoch b) ∧ (u.die p).ilogLacks =
    some (snapEpoch b) ∧ s.counted u BX_BLZ_PSN_CNT0_REDUCTION 0 1)) ∧
  (∀ (s : State) (p q : Nat) (b : Bytes), p < 65 → bits (rdLe b 0 8) 15 8 = 0xFF → s.alarmWaits p 0x10 b = true → Answers (.alarmReceive p
    ⟨q, 0x10⟩ b (some true)) s (fun u => u.rd BX_SAF_DIE_LAST_CODE p = 0x4000 + bits (rdLe b 0 8) 7 0)) ∧
  (∀ (s : State) (p sub a q n : Nat) (b : Bytes), 1 ≤ sub → sub ≤ 4 → s.alarmWaits p sub b = true → s.dieFenced p = false → s.cutOf p =
    none → s.parent? = some a → (s.epochCounts (.stem p)).alarmRoom p = true → (s.outPort 3 sub s.agg a).1 = some q → Answers (.alarmReceive
    p ⟨n, sub⟩ b (some true)) s (fun u => (∃ w ∈ (u.link (.canopy q)).wait, w.1 = 0 ∧ w.2.body.ty = 3 ∧ w.2.body.sub = sub ∧ w.2.body.dst =
    a ∧ w.2.body.stomp = false ∧ w.2.body.payload = canopyAlarm b s.cnp.bseq))) ∧
  (∀ (s : State) (p sub n : Nat) (b : Bytes) (v : Option Bool), 1 ≤ sub → sub ≤ 4 → s.dieFenced p = true → Answers (.alarmReceive p ⟨n,
    sub⟩ b v) s (fun u => u.cnp = s.cnp ∧ u.out = s.out ∧ u.regs = s.regs)) ∧
  (∀ (s : State) (p : Nat) (b : Bytes), s.dieFenced p = false → b.length = 24 → bits (rdLe b 8 8) 23 20 = 2 → (∀ g ∈ s.gate.steps, ¬ (g.die
    = p ∧ g.tag = bits (rdLe b 8 8) 15 0)) → s.gate.alerts.contains (p, bits (rdLe b 8 8) 15 0) = false → Answers (.blazeReceive p b) s (fun
    u => u.gate.alerts = s.gate.alerts ++ [(p, bits (rdLe b 8 8) 15 0)])) ∧
  (∀ (s : State) (p : Nat) (b : Bytes), s.dieFenced p = true → Answers (.blazeReceive p b) s (fun u => u.gate = s.gate ∧ u.regs = s.regs)) ∧
  (∀ (s : State) (p tag st rs op : Nat) (res : List Nat) (m : ZxCmd) (c : Cap), (s.zxPort p).out.find? (fun (x : ZxCmd) => x.tag = tag) =
    some m → (s.zxPort p).readTag ≠ some tag → m.origin = some (op, c) → s.dieFenced p = false → op ≠ 0x0F01 → Answers (.capsReplyReceive p
    tag st rs res) s (fun u => u.replied c op st res ∧ ((s.zxPort p).waiting = [] → (u.zxPort p).out = (s.zxPort p).out.filter (fun (x :
    ZxCmd) => x.tag ≠ tag)))) ∧
  (∀ (s : State) (p tag st rs : Nat) (res : List Nat), (s.zxPort p).out.find? (fun (x : ZxCmd) => x.tag = tag) = none → Answers
    (.capsReplyReceive p tag st rs res) s (fun u => u.wdn.replies = s.wdn.replies ∧ u.zxPort p = s.zxPort p)) ∧
  (∀ (s : State) (p id tag : Nat), (s.zxPort p).readTag = some tag → s.ep.restoreDue = false → bits id 63 48 = 0 → Answers
    (.incarnationReadReply p id) s (fun u => (u.die p).cur = (s.die p).next ∧ (u.die p).next = nextInc (s.die p).next)) ∧
  (∀ (s : State) (n : Nat) (r : Bytes), n < 2 ^ 48 → s.fleetRecord? n = some r → s.red.lastVec = none → (s.cfgOf n).usesCorr = false →
    Answers (.vectorBuild n true []) s (fun u => u.red.lastVec = some n ∧ (∀ d ∈ s.vecDies r, (u.grv.vectors.find? (2 * d + b2n
    (recCommitted r))).isSome = true) ∧ u.rd BX_FB_STS_EPOCH = n ∧ u.rd BX_FB_STS_FORM = 1)) ∧
  (∀ (s : State) (n m : Nat) (p : List (Nat × Nat)), s.red.lastVec = some m → n ≤ m → Answers (.vectorBuild n true p) s (fun u => u = s))

/-- By the operator: GROVE_LOAD of a binary that passes the checks of Table 9-11 puts it in its slot, sets its threshold and is answered S_OK
with its SHA-256; one that fails is answered with that check's status and changes nothing. GROVE_UNLOAD of a slot neither selected nor bound
empties it. GROVE_INFO returns header words, digest and 96 bytes of use, GROVE_SCORE_READ a score record and GROVE_GRS_IMAGE the image; they
change nothing. GROVE_GRS_REFRESH of a die whose link is ACTIVE sends the image and ends with ZX_CFG_DONE of generation 0, answered by the
reply. GROVE_PEER_BIND of peer 0xFFF releases the binding, and of a peer that does not answer is S_TIMEOUT. A write of the lane control
keeps a field it would make 0. Where a clause rests on a choice of the model and not on the spec, log entries 17, 32 and 75 name it. -/
def Obligations.GroveModelsAreLoadedAndRead : Prop :=
  (∀ (s : State) (c : Cap), c.isOp = true → 3 ≤ c.params.length → c.p 0 ≤ 15 → s.loadCheck (c.p 0) (c.p 2) c.data = none → Answers
    (.groveLoad c) s (fun u => u.replied c 0x0301 S_OK (leWords (sha256 c.data)) ∧ (u.grv.slots.find? (c.p 0)).map (fun m => m.binary) =
    some c.data ∧ u.rd BX_GRV_THR_VOTE_MIN (c.p 0) = (parseModel c.data).voteMin)) ∧
  (∀ (s : State) (c : Cap) (r : Nat × Nat), c.isOp = true → 3 ≤ c.params.length → c.p 0 ≤ 15 → s.loadCheck (c.p 0) (c.p 2) c.data = some r
    → Answers (.groveLoad c) s (fun u => u.replied c 0x0301 r.2 [] ∧ s.onlyReply u)) ∧
  (∀ (s : State) (c : Cap), c.isOp = true → 1 ≤ c.params.length → c.p 0 ≤ 15 → s.slotSelected (c.p 0) = false → s.slotBound (c.p 0) = false
    → Answers (.groveUnload c) s (fun u => u.replied c 0x0302 S_OK [] ∧ u.grv.slots = s.grv.slots.erase (c.p 0))) ∧
  (∀ (s : State) (c : Cap) (m : Model), c.isOp = true → 1 ≤ c.params.length → c.noPtr = false → s.grv.slots.find? (c.p 0) = some m →
    Answers (.groveInfo c) s (fun u => u.replied c 0x0303 S_OK [(m.binary.take 48).length + m.digest.length + 96] ∧ s.onlyReply u ∧
    (u.wdn.replies.getLast?.bind (fun r => r.hostWrite)).map (fun x => (x.1, x.2.take ((m.binary.take 48).length + m.digest.length))) = some
    (c.replyPtr, m.binary.take 48 ++ m.digest))) ∧
  (∀ (s : State) (c : Cap) (d : Nat) (x : ScoreRec), c.isOp = true → 4 ≤ c.params.length → s.localDie? (c.p 0) = some d → c.p 2 ≤ 7 → c.p 3
    ≤ 1 → s.grv.scores.find? (fun (x : ScoreRec) => x.die = d && x.epoch = c.p 1 && x.stage = c.p 2 && x.committed = (c.p 3 = 1)) = some x →
    Answers (.groveScoreRead c) s (fun u => u.replied c 0x0306 S_OK (leWords x.bytes) ∧ s.onlyReply u)) ∧
  (∀ (s : State) (c : Cap) (m : Model), c.isOp = true → 2 ≤ c.params.length → s.grv.slots.find? (c.p 0) = some m → (parseModel
    m.binary).grsOk = true → Answers (.groveGrsImage c) s (fun u => u.replied c 0x0307 S_OK [36352] ∧ s.onlyReply u ∧
    u.wdn.replies.getLast?.bind (fun r => r.hostWrite) = some (c.p 1, grsImage m.binary s.liveGen))) ∧
  (∀ (s : State) (c : Cap) (p : Nat) (b : Bytes), c.isOp = true → 1 ≤ c.params.length → s.localDie? (c.p 0) = some p → s.grsImageOf s.cfg
    s.liveGen = some b → (s.link (.stem p)).lstate = .active → Answers (.groveGrsRefresh c) s (fun u => (∃ m ∈ (u.zxPort p).waiting ++
    (u.zxPort p).out, m.op = 0x0211 ∧ m.params = [0, 0, 0] ∧ m.origin = some (0x0308, c)) ∧ u.wdn.replies = s.wdn.replies)) ∧
  (∀ (s : State) (c : Cap), c.isOp = true → 8 ≤ c.params.length → c.p 0 ≤ 15 → 1 ≤ c.p 1 → c.p 1 ≤ 7 → c.p 2 = 0xFFF → c.p 3 ≤ 15 →
    s.slotSelected (c.p 0) = false → Answers (.grovePeerBind c none) s (fun u => u.replied c 0x0305 S_OK [] ∧ u.grv.binds =
    s.grv.binds.filter (fun (b : PeerBind) => ¬ (b.slot = c.p 0 ∧ b.part = c.p 1)))) ∧
  (∀ (s : State) (c : Cap) (m : Model), c.isOp = true → 8 ≤ c.params.length → c.p 0 ≤ 15 → 1 ≤ c.p 1 → c.p 1 ≤ 7 → c.p 2 ≠ 0xFFF → c.p 3 ≤
    15 → s.slotSelected (c.p 0) = false → s.grv.slots.find? (c.p 0) = some m → Answers (.grovePeerBind c none) s (fun u => u.replied c
    0x0305 S_TIMEOUT [] ∧ u.grv = s.grv)) ∧
  (∀ (s : State) (v : Nat), Answers (.grvLaneCtrlWrite v) s (fun u => u.rd BX_GRV_LANE_CTRL_EN = (if bits v 15 0 = 0 then s.rd
    BX_GRV_LANE_CTRL_EN else bits v 15 0) ∧ u.rd BX_GRV_LANE_CTRL_BANK_EN = (if bits v 19 16 = 0 then s.rd BX_GRV_LANE_CTRL_BANK_EN else
    bits v 19 16) ∧ u.grv = s.grv))

/-- GROVE_SCORE of an enabled stage over a committed vector not scored yet: with no model in its slot it counts NO_MODEL; with an unsplit model
it writes the record of Table 9-13 of the vote over the class sums. GROVE_EVAL is answered S_OK with that record of the vector it names. A
vector for a slot that holds no model is answered with FAULT. The sums of a part from the peer bound for it, in time, join their vector;
those for no vector count PEER_BAD; once all are there the vote over the added sums is taken and a GROVE_EVAL answered; once WAIT_US has
passed a stage's vector ends and counts PART_MISSING. GRS_CHECK of a due snapshot of row 10 with a valid vote changes nothing more when the
recomputed class and alarm agree, and counts GRS_MISMATCH and sets the die's reason GRS_MISMATCH when they do not. Where a clause rests on a
choice of the model and not on the spec, log entries 15 and 31 name it. -/
def Obligations.GroveScoresAndSplitsModels : Prop :=
  (∀ (s : State) (d k : Nat) (v : Bytes), k ≤ 7 → s.grv.vectors.find? (2 * d + 1) = some v → (s.genCfg (vecGen v)).fld BX_GRV_SEL_EN k ≠ 0
    → s.grv.lastScored.find? (8 * d + k) ≠ some (vecEpoch v) → s.grv.slots.find? ((s.genCfg (vecGen v)).fld BX_GRV_SEL_SLOT k) = none →
    Answers (.groveScore d k true none) s (fun u => s.counted u BX_GRV_CNT1_NO_MODEL 0 1 ∧ u.grv.scores = s.grv.scores)) ∧
  (∀ (s : State) (d k : Nat) (v : Bytes) (m : Model) (x : List Nat), k ≤ 7 → s.grv.vectors.find? (2 * d + 1) = some v → (s.genCfg (vecGen
    v)).fld BX_GRV_SEL_EN k ≠ 0 → s.grv.lastScored.find? (8 * d + k) ≠ some (vecEpoch v) → s.grv.slots.find? ((s.genCfg (vecGen v)).fld
    BX_GRV_SEL_SLOT k) = some m → (parseModel m.binary).partCount = 1 → modelSums m.binary (parseModel m.binary).binary (parseModel
    m.binary) (vecFeat v) = some x → Answers (.groveScore d k true none) s (fun u => (∃ r ∈ u.grv.scores, r.epoch = vecEpoch v ∧ r.committed
    = vecCommitted v ∧ r.die = vecDie v ∧ r.stage = k ∧ r.bytes = wordBytes (scoreWords v k ((s.genCfg (vecGen v)).fld BX_GRV_SEL_SLOT k)
    (voteOf x (s.voteMin (s.genCfg (vecGen v)) ((s.genCfg (vecGen v)).fld BX_GRV_SEL_SLOT k)) (parseModel m.binary).tieAbstain) ((voteOf x
    (s.voteMin (s.genCfg (vecGen v)) ((s.genCfg (vecGen v)).fld BX_GRV_SEL_SLOT k)) (parseModel m.binary).tieAbstain).alarm (fun j =>
    s.amask (s.genCfg (vecGen v)) ((s.genCfg (vecGen v)).fld BX_GRV_SEL_SLOT k) j)) (parseModel m.binary))) ∧ u.grv.lastScored.find? (8 * d
    + k) = some (vecEpoch v))) ∧
  (∀ (s : State) (c : Cap) (m : Model) (x : List Nat), c.isOp = true → 2 ≤ c.params.length → s.grv.slots.find? (c.p 0) = some m →
    (parseModel m.binary).part = 0 → (parseModel m.binary).partCount = 1 → modelSums m.binary (parseModel m.binary).binary (parseModel
    m.binary) (vecFeat c.data) = some x → Answers (.groveEval c none) s (fun u => u.replied c 0x0304 S_OK (scoreWords c.data 0 (c.p 0)
    (voteOf x (s.voteMin (s.genCfg (vecGen c.data)) (c.p 0)) (parseModel m.binary).tieAbstain) ((voteOf x (s.voteMin (s.genCfg (vecGen
    c.data)) (c.p 0)) (parseModel m.binary).tieAbstain).alarm (fun j => s.amask (s.genCfg (vecGen c.data)) (c.p 0) j)) (parseModel
    m.binary)) ∧ u.grv = s.grv)) ∧
  (∀ (s : State) (q q2 src slot part num : Nat) (v : Bytes) (f : Option Nat), s.grv.slots.find? slot = none → (s.outPort 4 0x21 s.agg
    src).1 = some q2 → Answers (.groveVecReceive q src slot part num v f) s (fun u => (∃ w ∈ (u.link (.canopy q2)).wait, w.1 = 5 ∧
    w.2.body.ty = 4 ∧ w.2.body.sub = 0x21 ∧ w.2.body.dst = src ∧ w.2.body.payload = msgPrefix s.cnp.msgId 40 0 0 ++ wordBytes [num, part, 1,
    0, 0]) ∧ u.grv = s.grv)) ∧
  (∀ (s : State) (q src num part i v : Nat) (f : Bool) (l : List Nat), (∀ x ∈ s.grv.split, x.num ≠ num) → Answers (.groveSumsReceive ⟨q,
    src⟩ num part f i v l) s (fun u => u.grv = s.grv ∧ s.counted u BX_GRV_CNT1_PEER_BAD 0 1)) ∧
  (∀ (s : State) (q src num part j : Nat) (l : List Nat) (x : SplitVec) (m : Model), s.grv.split.find? (fun (y : SplitVec) => y.num = num)
    = some x → s.grv.slots.find? x.slot = some m → s.grv.binds.any (fun (b : PeerBind) => b.slot = x.slot && b.part = part && b.peer = src)
    = true → part ≠ 0 → part < (parseModel m.binary).partCount → x.parts.find? part = none → l.length = (parseModel m.binary).nclass →
    s.bxNs < x.at_ + max 1 (s.rd BX_GRV_SPLIT_WAIT_US) * 1000 → x.parts.any (fun p => p.2.isNone) = false → j < (parseModel
    m.binary).partCount → j ≠ part → x.parts.find? j = none → Answers (.groveSumsReceive ⟨q, src⟩ num part false (parseModel
    m.binary).modelId (parseModel m.binary).modelVer l) s (fun u => (u.grv.split.find? (fun (y : SplitVec) => y.num = num)).map (fun y =>
    y.parts) = some (x.parts.set part (some l)))) ∧
  (∀ (s : State) (q src num part : Nat) (l : List Nat) (x : SplitVec) (m : Model) (c : Cap), s.grv.split.find? (fun (y : SplitVec) => y.num
    = num) = some x → s.grv.slots.find? x.slot = some m → s.grv.binds.any (fun (b : PeerBind) => b.slot = x.slot && b.part = part && b.peer
    = src) = true → part ≠ 0 → part < (parseModel m.binary).partCount → x.parts.find? part = none → l.length = (parseModel m.binary).nclass
    → s.bxNs < x.at_ + max 1 (s.rd BX_GRV_SPLIT_WAIT_US) * 1000 → (x.parts.set part (some l)).any (fun p => p.2.isNone) = false → (∀ j <
    (parseModel m.binary).partCount, ((x.parts.set part (some l)).find? j).isSome = true) → x.eval = some c → Answers (.groveSumsReceive ⟨q,
    src⟩ num part false (parseModel m.binary).modelId (parseModel m.binary).modelVer l) s (fun u => u.replied c 0x0304 S_OK (scoreWords
    x.vector 0 x.slot (voteOf (addSums ((x.parts.set part (some l)).filterMap (fun p => p.2)) (parseModel m.binary).nclass) (s.voteMin
    (s.genCfg (vecGen x.vector)) x.slot) (parseModel m.binary).tieAbstain) ((voteOf (addSums ((x.parts.set part (some l)).filterMap (fun p
    => p.2)) (parseModel m.binary).nclass) (s.voteMin (s.genCfg (vecGen x.vector)) x.slot) (parseModel m.binary).tieAbstain).alarm (fun j =>
    s.amask (s.genCfg (vecGen x.vector)) x.slot j)) (parseModel m.binary)) ∧ (∀ y ∈ u.grv.split, y.num ≠ num))) ∧
  (∀ (s : State) (num : Nat) (x : SplitVec) (m : Model), s.grv.split.find? (fun (y : SplitVec) => y.num = num) = some x → s.grv.slots.find?
    x.slot = some m → x.eval = none → x.at_ + max 1 (s.rd BX_GRV_SPLIT_WAIT_US) * 1000 ≤ s.bxNs → Answers (.groveSplitTimeout num) s (fun u
    => s.counted u BX_GRV_CNT1_PART_MISSING 0 1 ∧ (∀ y ∈ u.grv.split, y.num ≠ num))) ∧
  (∀ (s : State) (d n : Nat) (x : IngEntry) (m : Model) (f : List Nat), s.flag BX_GRV_GRS_CHK_EN = true → n % max 1 (s.rd
    BX_GRV_GRS_CHK_EVERY) = 0 → s.grv.grsChecked.find? d ≠ some n → s.held? d n = some x → x.row = some 10 → bitAt (snapGrs x.bytes) 15 =
    true → (s.cfgOf n).fld BX_GRV_GRS_SEL_EN 0 ≠ 0 → s.grv.slots.find? ((s.cfgOf n).fld BX_GRV_GRS_SEL_SLOT 0) = some m → modelSums m.binary
    (parseModel m.binary).binary (parseModel m.binary) (grsFeature ((s.genCfg x.gen).zx.getD d []) x.bytes) = some f → (voteOf f (parseModel
    m.binary).voteMin (parseModel m.binary).tieAbstain).cls = bits (snapGrs x.bytes) 7 0 → (voteOf f (parseModel m.binary).voteMin
    (parseModel m.binary).tieAbstain).alarm (alarmBit m.binary) = bitAt (snapGrs x.bytes) 14 → Answers (.grsCheck d n) s (fun u =>
    u.grv.grsChecked.find? d = some n ∧ { u with grv := s.grv } = s)) ∧
  (∀ (s : State) (d n : Nat) (x : IngEntry) (m : Model) (f : List Nat), s.flag BX_GRV_GRS_CHK_EN = true → n % max 1 (s.rd
    BX_GRV_GRS_CHK_EVERY) = 0 → s.grv.grsChecked.find? d ≠ some n → s.held? d n = some x → x.row = some 10 → bitAt (snapGrs x.bytes) 15 =
    true → (s.cfgOf n).fld BX_GRV_GRS_SEL_EN 0 ≠ 0 → s.grv.slots.find? ((s.cfgOf n).fld BX_GRV_GRS_SEL_SLOT 0) = some m → modelSums m.binary
    (parseModel m.binary).binary (parseModel m.binary) (grsFeature ((s.genCfg x.gen).zx.getD d []) x.bytes) = some f → ¬ ((voteOf f
    (parseModel m.binary).voteMin (parseModel m.binary).tieAbstain).cls = bits (snapGrs x.bytes) 7 0 ∧ (voteOf f (parseModel
    m.binary).voteMin (parseModel m.binary).tieAbstain).alarm (alarmBit m.binary) = bitAt (snapGrs x.bytes) 14) → Answers (.grsCheck d n) s
    (fun u => u.grv.grsChecked.find? d = some n ∧ s.counted u BX_GRV_CNT1_GRS_MISMATCH 0 1 ∧ (u.reasons d).testBit 5 = true))

/-- A digest not yet delivered joins its group, here one with no due epoch, and a repeated one changes nothing in the correlator. At
BAR_WAIT_EXPIRY an epoch BAR_WAIT_US overdue is counted SKIPPED and no longer due; one that still waits stays. A lag return for a local die
under its incarnation is held. LAG_READ of a group held and in force or of a local die, DRIFT_READ, SUSPECT_READ and LOOKOUT_STATUS by the
operator return what is held and change nothing; SUSPECT_CLEAR of a die whose test does not run clears the reasons of its mask. Where a
clause rests on a choice of the model and not on the spec, log entries 15, 17, 31 and 120 name it. -/
def Obligations.CorrelatorTakesDigestsAndReads : Prop :=
  (∀ (s : State) (q src m : Nat) (g : Digest) (x : GroupState), (src, m) ∉ s.cnp.delivered → s.cor.groups = [x] → x.home = g.home → x.num =
    g.group → x.due = [] → x.digests.any (fun (y : Digest) => y.epoch = g.epoch ∧ y.agg = g.agg) = false → Answers (.digestReceive q src m
    g) s (fun u => u.cor.groups = [{ x with digests := x.digests ++ [g] }] ∧ (src, m) ∈ u.cnp.delivered)) ∧
  (∀ (s : State) (q src m : Nat) (g : Digest), (src, m) ∈ s.cnp.delivered → Answers (.digestReceive q src m g) s (fun u => u.cor = s.cor ∧
    u.red = s.red)) ∧
  (∀ (s : State) (home num n t : Nat) (x : GroupState) (g : BarGroup), s.cor.groups.find? (fun (y : GroupState) => y.home = home && y.num =
    num) = some x → x.due = [(n, t)] → (s.cfgOf n).group? home num = some g → t + s.rd BX_COR_CTRL_BAR_WAIT_US * 1000 ≤ s.bxNs → Answers
    (.barWaitExpiry home num) s (fun u => s.counted u BX_COR_CNT0_SKIPPED 0 1 ∧ (u.cor.groups.find? (fun (y : GroupState) => y.home = home
    && y.num = num)).map (fun y => y.due) = some [])) ∧
  (∀ (s : State) (home num n t : Nat) (x : GroupState) (g : BarGroup), s.cor.groups.find? (fun (y : GroupState) => y.home = home && y.num =
    num) = some x → x.due = [(n, t)] → (s.cfgOf n).group? home num = some g → s.bxNs < t + s.rd BX_COR_CTRL_BAR_WAIT_US * 1000 → digestsHeld
    x g n = false → Answers (.barWaitExpiry home num) s (fun u => u = s)) ∧
  (∀ (s : State) (q src m home group n a : Nat) (v : LagVal), (src, m) ∉ s.cnp.delivered → a / 64 = s.agg → v.inc = 0 ∨ v.inc = (s.die (a %
    64)).cur → Answers (.lagReturnReceive q src m home group n [(a, v, false)]) s (fun u => (∃ y ∈ (u.corDie (a % 64)).lag, y = ⟨home,
    group, n, v⟩) ∧ (src, m) ∈ u.cnp.delivered)) ∧
  (∀ (s : State) (c : Cap) (x : GroupState) (g : BarGroup), c.isOp = true → 3 ≤ c.params.length → c.noPtr = false → c.p 0 = 0 →
    s.cor.groups.find? (fun (y : GroupState) => y.home = c.p 1 && y.num = c.p 2) = some x → s.cfg.group? (c.p 1) (c.p 2) = some g → Answers
    (.lagRead c) s (fun u => u.answered c 0x0221 S_OK ∧ u.wrote c ((x.enter g).members.flatMap (fun m => lagEntryBytes m.1 x.home x.num
    m.2)) ∧ s.onlyReply u)) ∧
  (∀ (s : State) (c : Cap) (d : Nat), c.isOp = true → 2 ≤ c.params.length → c.noPtr = false → c.p 0 = 1 → s.localDie? (c.p 1) = some d →
    Answers (.lagRead c) s (fun u => u.answered c 0x0221 S_OK ∧ (u.wrote c ((sortBy (fun a b => a.home < b.home ∨ a.home = b.home ∧ a.num ≤
    b.num) (if d = 64 then [] else s.cfg.groupsOf (s.dieAddr d))).flatMap (fun g => lagEntryBytes (s.dieAddr d) g.home g.num ((s.corDie
    d).lagAt none g)))) ∧ s.onlyReply u)) ∧
  (∀ (s : State) (c : Cap) (d : Nat), c.isOp = true → 3 ≤ c.params.length → s.localDie? (c.p 0) = some d → c.p 1 ≤ 15 → Answers (.driftRead
    c) s (fun u => u.replied c 0x0222 S_OK [4096] ∧ u.wdn.replies.getLast?.bind (fun r => r.hostWrite) = some (c.p 2, wordBytes ((List.range
    512).map (fun i => packFields [(32, 16, (((s.corDie d).drift.getD (c.p 1) []).getD i (0, 0)).1), (0, 32, (((s.corDie d).drift.getD (c.p
    1) []).getD i (0, 0)).2)]))) ∧ s.onlyReply u)) ∧
  (∀ (s : State) (c : Cap) (d : Nat), c.isOp = true → 1 ≤ c.params.length → s.localDie? (c.p 0) = some d → Answers (.suspectRead c) s (fun
    u => u.replied c 0x0223 S_OK [s.readReg .BX_COR_DIE_MARK d] ∧ s.onlyReply u)) ∧
  (∀ (s : State) (c : Cap) (d : Nat), c.isOp = true → 2 ≤ c.params.length → s.localDie? (c.p 0) = some d → s.rd BX_COR_DIE_MARK_TSTATE d ≠
    2 → Answers (.suspectClear c) s (fun u => u.replied c 0x0224 S_OK [] ∧ (∀ r < 8, (u.reasons d).testBit r = ((s.reasons d).testBit r &&
    !((c.p 1).testBit r))))) ∧
  (∀ (s : State) (c : Cap) (d : Nat), c.isOp = true → 1 ≤ c.params.length → s.localDie? (c.p 0) = some d → Answers (.lookoutStatus c) s
    (fun u => u.replied c 0x0622 S_OK [s.readReg .BX_LKO_DIE d] ∧ s.onlyReply u))

/-- LOOKOUT_REPORT by the operator of a local die starts a probe where none runs, LOOKOUT_PROBE joins one that runs, and at the ZX40 it is
answered S_OK. An unanswered probe is sent again after PROBE_US; after PROBE_TRIES sends it fails, counts PROBE_FAILS and fences its die
with cause PROBE. A good reply ends it and answers the one that asked. DIE_FENCE fences a local die at the next tick with cause OPERATOR and
answers with that instant; of a fenced die it is S_FENCED. LOOKOUT_ADMIT of a fenced die that has been heard, no restore from the mirror
being due, gives it its next incarnation; of a die not fenced it is S_CONFLICT. Where a clause rests on a choice of the model and not on the
spec, log entries 70, 71 and 74 name it. -/
def Obligations.LookoutProbesFencesAndReadmits : Prop :=
  (∀ (s : State) (d : Nat) (p : Probe), (s.corDie d).probe = some p → p.at_ + max 1 (s.cfg.fld BX_LKO_CFG_PROBE_US 0) * 1000 ≤ s.bxNs →
    p.tries < max 1 (s.cfg.fld BX_LKO_CFG_PROBE_TRIES 0) → Answers (.probeRetryTimeout d) s (fun u => (u.corDie d).probe.map (fun x =>
    (x.tries, x.at_, x.origins)) = some (p.tries + 1, s.bxNs, p.origins) ∧ (∃ x ∈ (u.zxPort d).waiting ++ (u.zxPort d).out, x.op = 0x0623 ∧
    x.origin = none))) ∧
  (∀ (s : State) (d : Nat) (p : Probe), d < 64 → s.dieFenced d = false → (s.corDie d).probe = some p → p.at_ + max 1 (s.cfg.fld
    BX_LKO_CFG_PROBE_US 0) * 1000 ≤ s.bxNs → max 1 (s.cfg.fld BX_LKO_CFG_PROBE_TRIES 0) ≤ p.tries → Answers (.probeRetryTimeout d) s (fun u
    => (u.corDie d).probe = none ∧ s.counted u BX_COR_CNT1_PROBE_FAILS 0 1 ∧ (u.die d).fence = some s.nextTick ∧ u.rd BX_LKO_DIE_CAUSE d = 2
    ∧ u.rd BX_LKO_DIE_STATE d = 2)) ∧
  (∀ (s : State) (d : Nat) (p : Probe) (c : Cap), (s.corDie d).probe = some p → p.origins = [(0x0623, c)] → Answers (.probeReplyReceive d
    S_OK) s (fun u => (u.corDie d).probe = none ∧ u.replied c 0x0623 S_OK [] ∧ u.rd BX_LKO_DIE_PROBING d = 0)) ∧
  (∀ (s : State) (c : Cap) (d : Nat), c.isOp = true → 1 ≤ c.params.length → s.localDie? (c.p 0) = some d → bits (c.p 0) 17 6 = s.agg →
    c.tenant = 0 → s.dieFenced d = false → (s.corDie d).probe = none → Answers (.lookoutReport c) s (fun u => (u.corDie d).probe.map (fun x
    => (x.tries, x.origins)) = some (1, [(0x0620, c)]) ∧ u.rd BX_LKO_DIE_PROBING d = 1)) ∧
  (∀ (s : State) (c : Cap) (d : Nat) (p : Probe), c.isOp = true → 1 ≤ c.params.length → s.localDie? (c.p 0) = some d → (s.corDie d).probe =
    some p → Answers (.lookoutProbe c) s (fun u => (u.corDie d).probe = some { p with origins := p.origins ++ [(0x0623, c)] } ∧ u.wdn =
    s.wdn)) ∧
  (∀ (s : State) (c : Cap), c.isInternal = true → s.zx.caps.head? = some (0x0623, c) → Answers (.lookoutProbe c) s (fun u => u.zxReplied c
    0x0623 S_OK [])) ∧
  (∀ (s : State) (c : Cap) (d : Nat), c.isOp = true → 1 ≤ c.params.length → s.localDie? (c.p 0) = some d → d < 64 → s.dieFenced d = false →
    Answers (.dieFence c) s (fun u => u.replied c 0x0624 S_OK [s.nextTick] ∧ (u.die d).fence = some s.nextTick ∧ u.rd BX_LKO_DIE_CAUSE d = 4
    ∧ u.rd BX_LKO_DIE_STATE d = 2)) ∧
  (∀ (s : State) (c : Cap) (d : Nat), c.isOp = true → 1 ≤ c.params.length → s.localDie? (c.p 0) = some d → d < 64 → s.dieFenced d = true →
    Answers (.dieFence c) s (fun u => u.replied c 0x0624 S_FENCED [] ∧ s.onlyReply u)) ∧
  (∀ (s : State) (c : Cap) (d : Nat), c.isOp = true → 1 ≤ c.params.length → s.localDie? (c.p 0) = some d → s.dieFenced d = true → (s.die
    d).unfence = none → s.rd BX_LKO_DIE_HEARD_RUN d ≠ 0 → s.ep.restoreDue = false → Answers (.lookoutAdmit c) s (fun u => u.replied c 0x0621
    S_OK [] ∧ (u.die d).cur = (s.die d).next ∧ (u.die d).unfence = some s.liftEpoch)) ∧
  (∀ (s : State) (c : Cap) (d : Nat), c.isOp = true → 1 ≤ c.params.length → s.localDie? (c.p 0) = some d → s.dieFenced d = false → Answers
    (.lookoutAdmit c) s (fun u => u.replied c 0x0621 S_CONFLICT [] ∧ s.onlyReply u))

/-- TEST_REQUEST of a die neither fenced nor with a test outstanding sets MANUAL and makes a test PENDING under the next TEST_ID, which it
answers. TEST_START makes it RUNNING where the die is not fenced and no slot-critical placement is active on its unit. TEST_RESULT of a
running test: PASS clears the reasons where none was gained meanwhile, FAIL counts and fences with cause TEST, ABORTED makes it PENDING
again; before it runs it is S_NOTNOW. TEST_CANCEL ends it; an unknown TEST_ID is S_STALE. A pending test at its deadline is OVERDUE and
counted; a test running longer than TEST_RUN_MS is PENDING again. Where a clause rests on a choice of the model and not on the spec, log
entries 33 and 91 name it. -/
def Obligations.FieldTestsRunTheirCourse : Prop :=
  (∀ (s : State) (c : Cap) (d : Nat), c.isOp = true → 4 ≤ c.params.length → s.localDie? (c.p 0) = some d → d < 64 → c.p 1 ≤ 0x3FF → c.p 2 ≤
    3 → c.p 3 = 0xFFFF → s.dieFenced d = false → s.rd BX_COR_DIE_MARK_TSTATE d = 0 → Answers (.testRequest c) s (fun u => u.replied c 0x0920
    S_OK [(s.cor.testId + 1) % 65536] ∧ u.rd BX_COR_DIE_MARK_TSTATE d = 1 ∧ u.rd BX_COR_DIE_MARK_UNIT d = c.p 1 ∧ (u.reasons d).testBit 6 =
    true ∧ s.counted u BX_COR_CNT1_TESTS 0 1)) ∧
  (∀ (s : State) (c : Cap) (d : Nat), c.isOp = true → 1 ≤ c.params.length → s.testDie? (c.p 0) = some d → s.dieFenced d = false →
    s.scPlaced d (s.rd BX_COR_DIE_MARK_UNIT d) = false → Answers (.testStart c) s (fun u => u.replied c 0x0921 S_OK [] ∧ u.rd
    BX_COR_DIE_MARK_TSTATE d = 2)) ∧
  (∀ (s : State) (c : Cap) (d : Nat), c.isOp = true → 2 ≤ c.params.length → s.testDie? (c.p 0) = some d → s.rd BX_COR_DIE_MARK_TSTATE d = 2
    → c.p 1 = 0 → (s.corDie d).gained = 0 → Answers (.testResult c) s (fun u => u.replied c 0x0922 S_OK [] ∧ u.rd BX_COR_DIE_MARK_TSTATE d =
    0 ∧ u.flag BX_COR_DIE_MARK_OVERDUE d = false ∧ (∀ r < 8, (u.reasons d).testBit r = false))) ∧
  (∀ (s : State) (c : Cap) (d : Nat), c.isOp = true → 2 ≤ c.params.length → s.testDie? (c.p 0) = some d → s.rd BX_COR_DIE_MARK_TSTATE d = 2
    → c.p 1 = 1 → s.dieFenced d = false → Answers (.testResult c) s (fun u => u.replied c 0x0922 S_OK [] ∧ u.rd BX_COR_DIE_MARK_TSTATE d = 0
    ∧ (u.die d).fence = some s.nextTick ∧ u.rd BX_LKO_DIE_CAUSE d = 3 ∧ s.counted u BX_COR_CNT1_FAILS 0 1)) ∧
  (∀ (s : State) (c : Cap) (d : Nat), c.isOp = true → 2 ≤ c.params.length → s.testDie? (c.p 0) = some d → s.rd BX_COR_DIE_MARK_TSTATE d = 2
    → c.p 1 = 2 → Answers (.testResult c) s (fun u => u.replied c 0x0922 S_OK [] ∧ u.rd BX_COR_DIE_MARK_TSTATE d = 1)) ∧
  (∀ (s : State) (c : Cap) (d : Nat), c.isOp = true → 2 ≤ c.params.length → s.testDie? (c.p 0) = some d → s.rd BX_COR_DIE_MARK_TSTATE d ≠ 2
    → Answers (.testResult c) s (fun u => u.replied c 0x0922 S_NOTNOW [] ∧ s.onlyReply u)) ∧
  (∀ (s : State) (c : Cap) (d : Nat), c.isOp = true → 1 ≤ c.params.length → s.testDie? (c.p 0) = some d → Answers (.testCancel c) s (fun u
    => u.replied c 0x0923 S_OK [] ∧ u.rd BX_COR_DIE_MARK_TSTATE d = 0 ∧ u.flag BX_COR_DIE_MARK_OVERDUE d = false)) ∧
  (∀ (s : State) (c : Cap), c.isOp = true → 1 ≤ c.params.length → s.testDie? (c.p 0) = none → Answers (.testCancel c) s (fun u => u.replied
    c 0x0923 S_STALE [] ∧ s.onlyReply u)) ∧
  (∀ (s : State) (d : Nat), d < 64 → s.rd BX_COR_DIE_MARK_TSTATE d = 1 → (s.corDie d).deadline ≤ s.bxNs → s.flag BX_COR_DIE_MARK_OVERDUE d
    = false → Answers (.testDeadline d) s (fun u => u.flag BX_COR_DIE_MARK_OVERDUE d = true ∧ s.counted u BX_COR_CNT1_OVERDUE 0 1 ∧ u.rd
    BX_COR_DIE_MARK_TSTATE d = 1)) ∧
  (∀ (s : State) (d : Nat), d < 64 → s.rd BX_COR_DIE_MARK_TSTATE d = 2 → (s.corDie d).startNs + s.rd BX_COR_CTRL_TEST_RUN_MS * 1000000 ≤
    s.bxNs → Answers (.testRunTimeout d) s (fun u => u.rd BX_COR_DIE_MARK_TSTATE d = 1 ∧ (u.corDie d).started = false))

/-- MEM_LAYOUT_SET with sizes at or above the smallest, fitting HBM and below every partition, stages each NEXT_SIZE; MEM_PARTITION_SET of a
free run of the pool, for a tenant without a job, sets the partition; XLATE_INVAL of a whole space leaves no entry of it in the TLB;
XLATE_PROBE answers the address and page size of a walk and changes nothing else. Each answers S_OK. PATROL_SCRUB counts the corrected words
and marks every uncorrectable word poisoned. Where a clause rests on a choice of the model and not on the spec, log entries 5, 56 and 57
name it. -/
def Obligations.MemoryIsLaidOutAndTranslated : Prop :=
  (∀ (s : State) (c : Cap), c.isOp = true → 6 ≤ c.params.length → (List.range 6).any (fun r => decide (c.p r < regionMin r (c.p 1))) =
    false → ((List.range 6).map c.p).foldl (· + ·) 0 ≤ hbmGranules → (List.range 64).any (fun t => s.flag BX_MEM_PART_VALID t && decide
    (s.rd BX_MEM_PART_BASE t < ((List.range 6).map c.p).foldl (· + ·) 0)) = false → Answers (.memLayoutSet c) s (fun u => u.replied c 0x0701
    S_OK [] ∧ (∀ r, r < 6 → u.rd BX_MEM_REGION_NEXT_SIZE r = c.p r % 65536) ∧ u.hbm = s.hbm)) ∧
  (∀ (s : State) (c : Cap), c.isOp = true → 3 ≤ c.params.length → c.p 0 < 64 → s.jobOpen (c.p 0) = false → (List.range 120).any (fun ch =>
    s.rd BX_DMA_CH_STS_STATE ch = 1 && s.rd BX_DMA_CH_CFG_SPACE ch = c.p 0) = false → (List.range 64).any (fun t => t ≠ c.p 0 && s.flag
    BX_MEM_PART_VALID t && decide (s.rd BX_MEM_PART_BASE t < c.p 1 + c.p 2) && decide (c.p 1 < s.rd BX_MEM_PART_BASE t + s.rd
    BX_MEM_PART_COUNT t)) = false → ledgerGranules (SMap.getD s.gate.logs (c.p 0) 16) + 1 ≤ c.p 2 → s.poolBase ≤ c.p 1 → c.p 1 + c.p 2 ≤
    hbmGranules → Answers (.memPartitionSet c) s (fun u => u.replied c 0x0702 S_OK [] ∧ u.rd BX_MEM_PART_VALID (c.p 0) = 1 ∧ u.rd
    BX_MEM_PART_BASE (c.p 0) = c.p 1 ∧ u.rd BX_MEM_PART_COUNT (c.p 0) = c.p 2)) ∧
  (∀ (s : State) (c : Cap), c.isOp = true → 3 ≤ c.params.length → c.p 0 ≤ 64 → c.p 2 = 0 → Answers (.xlateInval c) s (fun u => u.replied c
    0x0703 S_OK [] ∧ (∀ e ∈ u.hbm.tlb, e.space ≠ c.p 0) ∧ u.regs = s.regs)) ∧
  (∀ (s : State) (c : Cap) (pa : Nat) (t : TlbEntry), c.isOp = true → 3 ≤ c.params.length → c.p 0 ≤ 64 → c.p 1 < 2 ^ 37 → s.walk (c.p 0)
    (c.p 1) (decide (c.p 2 ≠ 0)) = .ok pa t → Answers (.xlateProbe c) s (fun u => u.replied c 0x0704 S_OK [pa, t.size] ∧ s.onlyReply u)) ∧
  (∀ (s : State) (n : Nat) (bad : List Nat), Answers (.patrolScrub n bad []) s (fun u => s.counted u BX_MEM_ECC_CE 0 n ∧ (∀ a ∈ bad, a / 8
    ∈ u.hbm.poison) ∧ u.hbm.cells = s.hbm.cells))

/-- DMA_CHUNK of a host-to-device descriptor in progress, well formed and with a chunk left, whose address translates to pa and whose host bytes
are there and clean: the n bytes from pa read as the host's, and every byte of HBM outside them reads as before. DMA_DOORBELL within the
ring takes TAIL. DMA_CH_SET that enables a BULK channel not running, with values in range, sets its space, function, ring and weight;
DMA_RESUME RETRY of a halted one makes it RUNNING again with no descriptor held and the same HEAD; DMA_STATUS returns its registers. Each is
answered S_OK. Where a clause rests on a choice of the model and not on the spec, log entries 18, 58 and 61 name it. -/
def Obligations.DmaMovesDescribedBytes : Prop :=
  (∀ (s : State) (df j : Nat) (host : List HostSeg) (ch pa : Nat) (ds : List Nat) (bs : Bytes) (s1 s2 : State), (s.bump BX_DMA_CNT_PREEMPTS
    0 df).pickChan = (some ch, s1) → (s1.chan ch).desc = some ds → s1.dBad ch ds = false → dOp ds = 0 → s1.chunkLen ds ≠ 0 → s1.dmaVa ch
    (ds.getD 2 0 + dOff ds) true = (.ok pa, s2) → hostRead host (ds.getD 1 0 + dOff ds) (s1.chunkLen ds) = some (bs, false) → Answers
    (.dmaChunk df host j) s (fun u => HbmKeptOutside pa (s1.chunkLen ds) s u ∧ u.hbmRead pa bs.length = bs)) ∧
  (∀ (s : State) (ch t : Nat), ch < 128 → t < s.dmaSize ch → Answers (.dmaDoorbell ch t) s (fun u => u.rd BX_DMA_CH_DB_TAIL ch = t % 65536
    ∧ u.hbm = s.hbm)) ∧
  (∀ (s : State) (c : Cap), c.isOp = true → 7 ≤ c.params.length → c.p 0 < 120 → s.rd BX_DMA_CH_STS_STATE (c.p 0) ≠ 1 → c.p 1 = 1 → c.p 2 ≤
    64 → c.p 3 ≤ 63 → c.p 3 = 0 ∨ c.p 2 = c.p 3 → c.p 4 % 64 = 0 → 4 ≤ c.p 5 → c.p 5 ≤ 16 → c.p 6 ≤ 255 → Answers (.dmaChSet c) s (fun u =>
    u.replied c 0x0705 S_OK [] ∧ u.rd BX_DMA_CH_CFG_EN (c.p 0) = 1 ∧ u.rd BX_DMA_CH_CFG_SPACE (c.p 0) = c.p 2 ∧ u.rd BX_DMA_CH_CFG_FUNC (c.p
    0) = c.p 3 ∧ u.rd BX_DMA_CH_CFG_WEIGHT (c.p 0) = max 1 (c.p 6) ∧ u.rd BX_DMA_CH_CFG_RING_LOG2 (c.p 0) = c.p 5 ∧ u.rd BX_DMA_CH_RING_BASE
    (c.p 0) = c.p 4 / 64 % 2 ^ 58)) ∧
  (∀ (s : State) (c : Cap), c.isOp = true → 2 ≤ c.params.length → c.p 0 < 128 → s.rd BX_DMA_CH_STS_STATE (c.p 0) = 2 → c.p 1 = 0 → Answers
    (.dmaResume c) s (fun u => u.replied c 0x0706 S_OK [] ∧ u.rd BX_DMA_CH_STS_STATE (c.p 0) = 1 ∧ (u.chan (c.p 0)).desc = none ∧ u.rd
    BX_DMA_CH_STS_HEAD (c.p 0) = s.rd BX_DMA_CH_STS_HEAD (c.p 0))) ∧
  (∀ (s : State) (c : Cap), c.isOp = true → 1 ≤ c.params.length → c.p 0 < 128 → Answers (.dmaStatus c) s (fun u => u.replied c 0x0707 S_OK
    [s.readReg .BX_DMA_CH_CFG (c.p 0), s.readReg .BX_DMA_CH_STS (c.p 0)] ∧ s.onlyReply u))

/-- TRACE_RECEIVE of one 16-byte record of an enabled stream with a buffer free and room appends it; STAGING_FLUSH after FLUSH_US closes the
open buffer; CODEC_BLOCK of the oldest closed block, owing no gap, with OVERWRITE off and a place in the rings, takes the block, advances
IDX_WR, and writes HBM only in the block's units and its index entry; TRACE_STORE_SET of a die's configuration stores it, TRACE_STORE_STATUS
reads, each answered S_OK. Where a clause rests on a choice of the model and not on the spec, log entries 17 and 59 name it. -/
def Obligations.TraceStoreKeepsBlocks : Prop :=
  (∀ (s : State) (p k : Nat) (bs : Bytes), k < 8 → s.trsOn p k = true → bs.length = 16 → (s.trs (p * 16 + k)).closed.length < 2 → (s.trs (p
    * 16 + k)).open_.length + 16 < 4096 → Answers (.traceReceive p k bs) s (fun u => (u.trs (p * 16 + k)).open_ = (s.trs (p * 16 + k)).open_
    ++ bs ∧ u.regs = s.regs ∧ u.hbm.cells = s.hbm.cells)) ∧
  (∀ (s : State) (id : Nat), (s.trs id).lastAppend + max 1 (s.rd BX_TRS_CTRL_FLUSH_US) * 1000 ≤ s.bxNs → (s.trs id).open_ ≠ [] → Answers
    (.stagingFlush id) s (fun u => (u.trs id).open_ = [] ∧ (u.trs id).closed.length = (s.trs id).closed.length + 1 ∧ u.regs = s.regs)) ∧
  (∀ (s : State) (id k o : Nat) (psn : Bool) (b : ClosedBlk) (t : List ClosedBlk), (s.trs id).closed = b :: t → (s.trs id).gapLost = 0 →
    s.flag BX_TRS_CTRL_FULL = false → s.blkRoom (ceilDiv (codecBlock id (s.trs id).seq b).2.1.length 64) = some o → Answers (.codecBlock id
    k psn) s (fun u => (u.trs id).closed = t ∧ u.rd BX_TRS_STS_IDX_WR = (s.rd BX_TRS_STS_IDX_WR + 1) % 2 ^ 32 ∧ (∀ a, (a < s.blkAddr o ∨
    s.blkAddr o + 64 * ceilDiv (codecBlock id (s.trs id).seq b).2.1.length 64 ≤ a) → (a < s.idxAddr (s.rd BX_TRS_STS_IDX_WR) ∨ s.idxAddr
    (s.rd BX_TRS_STS_IDX_WR) + 32 ≤ a) → cellGet u.hbm.cells a = cellGet s.hbm.cells a))) ∧
  (∀ (s : State) (c : Cap), c.isOp = true → 3 ≤ c.params.length → c.p 0 = 5 → c.p 1 ≤ 64 → packFields ((Reg.fields .BX_TRS_DIE_CFG).map
    (fun f => (f.lo, f.width, bits (c.p 2) f.hi f.lo))) = c.p 2 → Answers (.traceStoreSet c) s (fun u => u.replied c 0x0520 S_OK [] ∧ (∀ f ∈
    Reg.fields .BX_TRS_DIE_CFG, u.rd f (c.p 1) = bits (c.p 2) f.hi f.lo) ∧ u.hbm = s.hbm)) ∧
  (∀ (s : State) (c : Cap), c.isOp = true → Answers (.traceStoreStatus c) s (fun u => u.replied c 0x0521 S_OK [s.readReg .BX_TRS_STS,
    s.readReg .BX_TRS_CNT0, s.readReg .BX_TRS_CNT1] ∧ s.onlyReply u))

/-- REFILL_TICK at a multiple of 1,000 ns not used yet takes that tick, puts the staged rates of subscribers and services in force, and leaves
no staged setting or debt clearance. EGRESS_RELEASE at a Canopy port without an unused grant, where some service with a committed-eligible
unit has the first tag, grants the first such unit of that service. SHAPER_SET of a service within its subscribers' sum and GATE_SET with a
period beyond width and guard are staged; SHAPER_CLEAR_DEBT marks a subscriber's bucket; SHAPER_READ and GATE_STATUS read. Each opcode
answers S_OK. Where a clause rests on a choice of the model and not on the spec, log entries 17 and 62 name it. -/
def Obligations.EgressRefillsAndReleases : Prop :=
  (∀ (s : State), ((∀ j, s.egs.tick = some j → j < s.bxNs / 1000)) → Answers (.refillTick) s (fun u => u.egs.tick = some (s.bxNs / 1000) ∧
    u.egs.sub = [] ∧ u.egs.svc = [] ∧ u.egs.gate = [] ∧ u.egs.clearSub = [] ∧ u.egs.clearSvc = [] ∧ (∀ q x w, q < 25 → x ∈ portSubs q →
    s.egs.sub.find? (q * 64 + x) = some w → u.rd BX_EGS_SUB_CFG_CIR (q * 64 + x) = bits w.1 63 40 ∧ u.rd BX_EGS_SUB_CFG_PIR (q * 64 + x) =
    bits w.1 39 16) ∧ (∀ q x w, q < 25 → x ∈ portSvcs q → s.egs.svc.find? (q * 8 + x) = some w → u.rd BX_EGS_SVC_CFG_RATE (q * 8 + x) = bits
    w BX_EGS_SVC_CFG_RATE.hi BX_EGS_SVC_CFG_RATE.lo))) ∧
  (∀ (s : State) (q v k : Nat), q < 24 → SMap.getD s.egs.grants q [] = [] → ((s.countHeld q).wake q).firstTag q ((portSvcs q).filter (fun x
    => decide (((s.countHeld q).wake q).releasable q x true false ≠ []))) = some v → (((s.countHeld q).wake q).releasable q v true
    false).head? = some k → Answers (.egressRelease q) s (fun u => SMap.getD u.egs.grants q [] = [k])) ∧
  (∀ (s : State) (c : Cap), c.isOp = true → 4 ≤ c.params.length → c.p 0 ≤ 24 → c.p 1 = 1 → (portSvcs (c.p 0)).contains (c.p 2) = true →
    (s.setEgs { s.egs with svc := s.egs.svc.set (c.p 0 * 8 + c.p 2) (c.p 3 / 256 * 256) }).overRate (c.p 0) (c.p 2) = false → Answers
    (.shaperSet c) s (fun u => u.replied c 0x0801 S_OK [] ∧ SMap.find? u.egs.svc (c.p 0 * 8 + c.p 2) = some (c.p 3 / 256 * 256) ∧ u.regs =
    s.regs)) ∧
  (∀ (s : State) (c : Cap), c.isOp = true → 3 ≤ c.params.length → c.p 0 ≤ 24 → c.p 1 = 0 → c.p 2 ≠ 0xFFFF → (portSubs (c.p 0)).contains
    (c.p 2) = true → Answers (.shaperClearDebt c) s (fun u => u.replied c 0x0802 S_OK [] ∧ c.p 0 * 64 + c.p 2 ∈ u.egs.clearSub ∧ u.regs =
    s.regs)) ∧
  (∀ (s : State) (c : Cap), c.isOp = true → 3 ≤ c.params.length → c.p 0 ≤ 24 → c.p 1 = 1 → (portSvcs (c.p 0)).contains (c.p 2) = true →
    Answers (.shaperRead c) s (fun u => u.replied c 0x0803 S_OK [s.readReg .BX_EGS_SVC_CFG (c.p 0 * 8 + c.p 2), s.stagedSvc (c.p 0 * 8 + c.p
    2), s.readReg .BX_EGS_SVC_LVL (c.p 0 * 8 + c.p 2), s.readReg .BX_EGS_SVC_TAG (c.p 0 * 8 + c.p 2)] ∧ s.onlyReply u)) ∧
  (∀ (s : State) (c : Cap), c.isOp = true → 7 ≤ c.params.length → c.p 0 ≤ 24 → c.p 1 ≤ 3 → c.p 2 = 1 → c.p 3 < 2 ^ 32 → c.p 4 < 2 ^ 32 →
    c.p 5 < 2 ^ 24 → c.p 5 + guardNs (c.p 0) (c.p 6) < c.p 3 → c.p 6 ≤ 255 → (if c.p 0 = 24 then decide (c.p 6 ≤ 1) else !bitAt (c.p 6) 2) =
    true → Answers (.gateSet c) s (fun u => u.replied c 0x0804 S_OK [] ∧ SMap.find? u.egs.gate (c.p 0 * 4 + c.p 1) = some (packFields [(32,
    32, c.p 3), (0, 32, c.p 4)], packFields [(63, 1, 1), (48, 8, c.p 6), (0, 24, c.p 5)]) ∧ u.regs = s.regs)) ∧
  (∀ (s : State) (c : Cap), c.isOp = true → 1 ≤ c.params.length → c.p 0 ≤ 24 → Answers (.gateStatus c) s (fun u => u.replied c 0x0805 S_OK
    [s.readReg .BX_EGS_PORT_STS (c.p 0), s.readReg .BX_EGS_PORT_VT (c.p 0), s.readReg .BX_EGS_PORT_CNT (c.p 0)] ∧ s.onlyReply u))

/-- REPLAY_RUN of a well-formed descriptor that fits its APD, with room in the queue and addresses that translate, joins the queue in submission
order and waits for its answer. REPLAY_PLACE takes the next job to an idle context, whose memories take its operands, or ends one that
cannot run with its outcome and reason. A filled bank switches in with its operands. A job whose operands are there and clean and that
stores no output ends with the outcome of R316 and R317, and its REPLAY_RUN is answered S_OK with that record; one whose slot is empty ends
NOT_REPLAYED with reason NO_APD. A translation fault freezes the job and is counted once. REPLAY_CANCEL of a job held counts it
NOT_REPLAYED; of an unknown tag it is S_STALE. Where a clause rests on a choice of the model and not on the spec, log entries 84, 85, 119
and 121 name it. -/
def Obligations.ReplayJobsRunAndEnd : Prop :=
  (∀ (s : State) (c : Cap) (b : Bytes) (s1 : State), c.isOp = true → 1 ≤ c.params.length → RplJob.malformed ⟨leWords (padTo 128 c.data), 0,
    some c, none, 0, 0, false, false, false⟩ = false → s.rpl.apds.find? (RplJob.slot ⟨leWords (padTo 128 c.data), 0, some c, none, 0, 0,
    false, false, false⟩) = some b → RplJob.misfit ⟨leWords (padTo 128 c.data), 0, some c, none, 0, 0, false, false, false⟩ (parseApd b) =
    false → s.rpl.queue.length < 1024 → s.badAddress srcReplay (RplJob.tenant ⟨leWords (padTo 128 c.data), 0, some c, none, 0, 0, false,
    false, false⟩) ((List.range 6).map (fun i => RplJob.w ⟨leWords (padTo 128 c.data), 0, some c, none, 0, 0, false, false, false⟩ (6 + i)))
    = (none, s1) → Answers (.replayRun c) s (fun u => u.rpl.queue = s.rpl.queue ++ [⟨leWords (padTo 128 c.data), s.rpl.seq, some c, none, 0,
    0, false, false, false⟩] ∧ u.rpl.seq = s.rpl.seq + 1 ∧ { u with rpl := s1.rpl } = s1)) ∧
  (∀ (s : State) (k : Nat) (j : RplJob) (rs : List (List (Nat × Nat))), s.flag BX_RPL_CTRL_EN = true → s.replayRuns = true → s.up.p2Wait =
    none → nextJob s.rpl.queue = some j → s.jobStop j = none → s.placeAt j = some (k, false) → s.operandsIn k (s.rctx k).bank j = none →
    (s.loadRanges j.tenant ((parseApd ((s.rpl.apds.find? j.slot).getD [])).ranges j)).1 = .ok rs → Answers (.replayPlace) s (fun u =>
    (u.rctx k).run = some j ∧ (u.rctx k).mem (s.rctx k).bank = some ⟨j.seq, (rs.map s.readPieces).take 2, ((rs.map s.readPieces).drop
    2).take 2, (rs.map s.readPieces).drop 4⟩ ∧ u.wdn = s.wdn)) ∧
  (∀ (s : State) (j : RplJob) (o r : Nat), s.flag BX_RPL_CTRL_EN = true → s.replayRuns = true → s.up.p2Wait = none → nextJob s.rpl.queue =
    some j → s.jobStop j = some (o, r) → j.gate = none → Answers (.replayPlace) s (fun u => s.counted u BX_RPL_CNT0_JOBS_DONE 0 1 ∧ (∀ c,
    j.cap = some c → u.replied c 0x0404 S_OK (s.resultRec j o r 0 false [])))) ∧
  (∀ (s : State) (k : Nat) (j : RplJob) (rs : List (List (Nat × Nat))), (s.rctx k).loading = true → (s.rctx k).other = some j → j.frozen =
    false → s.replayRuns = true → s.operandsIn k (!(s.rctx k).bank) j = none → (s.loadRanges j.tenant ((parseApd ((s.rpl.apds.find?
    j.slot).getD [])).ranges j)).1 = .ok rs → Answers (.replayBankFilled k) s (fun u => (u.rctx k).run = some j ∧ (u.rctx k).other = (s.rctx
    k).run ∧ (u.rctx k).loading = false ∧ (u.rctx k).bank = !(s.rctx k).bank ∧ (u.rctx k).mem (u.rctx k).bank = some ⟨j.seq, (rs.map
    s.readPieces).take 2, ((rs.map s.readPieces).drop 2).take 2, (rs.map s.readPieces).drop 4⟩ ∧ ((s.rctx k).run ≠ none → s.counted u
    BX_RPL_CNT2_PREEMPTS 0 1))) ∧
  (∀ (s : State) (k : Nat) (j : RplJob) (b : Bytes) (c : Cap) (m : OpMem) (v : Verdict) (r1 r2 r3 : RplRun), s.replayRuns = true → (s.rctx
    k).run = some j → s.rpl.apds.find? j.slot = some b → j.cap = some c → j.gate = none → j.frozen = false → j.blaze = false → j.w 11 = 0 →
    s.operandsIn k (s.rctx k).bank j = some m → (m.dm0 ++ m.dm1 ++ m.core).any (fun x => x.2) = false → (parseApd b).verdict j (s.flag
    BX_RPL_CTRL_CONFIRM) ((parseApd b).output j ((parseApd b).operands j ((m.dm0 ++ m.dm1 ++ m.core).map (fun x => x.1))).1) ((parseApd
    b).operands j ((m.dm0 ++ m.dm1 ++ m.core).map (fun x => x.1))).2 r1 r2 r3 = v → Answers (.replayJobEnd k r1 r2 r3) s (fun u => u.replied
    c 0x0404 S_OK (s.resultRec j v.outcome 0 (k / 4) v.confirmed v.bad) ∧ s.counted u BX_RPL_CNT0_JOBS_DONE 0 1)) ∧
  (∀ (s : State) (k : Nat) (j : RplJob) (r1 r2 r3 : RplRun), s.replayRuns = true → (s.rctx k).run = some j → s.rpl.apds.find? j.slot = none
    → j.gate = none → Answers (.replayJobEnd k r1 r2 r3) s (fun u => s.counted u BX_RPL_CNT1_NOT_REPLAYED 0 1 ∧ (∀ c, j.cap = some c →
    u.replied c 0x0404 S_OK (s.resultRec j 3 4 (k / 4) false [])))) ∧
  (∀ (s : State) (k va : Nat) (j : RplJob) (cs : Nat), (s.rctx k).run = some j → j.frozen = false → Answers (.replayXlateFault k false va
    cs) s (fun u => s.counted u BX_RPL_CNT2_XLATE_FREEZES 0 1 ∧ (u.rctx k).run = some { j with frozen := true })) ∧
  (∀ (s : State) (c : Cap) (j : RplJob), c.isOp = true → 1 ≤ c.params.length → s.rplJobs.find? (fun j => j.tag = c.p 0) = some j → Answers
    (.replayCancel c) s (fun u => u.replied c 0x0405 S_OK [] ∧ s.counted u BX_RPL_CNT1_NOT_REPLAYED 0 1)) ∧
  (∀ (s : State) (c : Cap), c.isOp = true → 1 ≤ c.params.length → (∀ j ∈ s.rplJobs, j.tag ≠ c.p 0) → Answers (.replayCancel c) s (fun u =>
    u.replied c 0x0405 S_STALE [] ∧ s.onlyReply u))

/-- APD_LOAD of an image that passes Table 11-10 into a slot no job names stores it and answers its SHA-256; one that fails is S_BADPARAM.
APD_UNLOAD empties a slot no job names; APD_INFO and REPLAY_STATUS read. REPLAY_UNIT retires a unit, or restores one that has not failed its
known-answer set. A failed known-answer set retires its engine, a passed one changes nothing. REPLAY_GEN answers the generator's output.
REPLAY_CROSSCHECK answers 0 for equal blocks without poison, and S_NOTCOMPARABLE for different Setting Codes. Where a clause rests on a
choice of the model and not on the spec, log entries 83 and 85 name it. -/
def Obligations.ReplayUnitsAndDescriptors : Prop :=
  (∀ (s : State) (c : Cap), c.isOp = true → 3 ≤ c.params.length → c.p 0 ≤ 63 → apdCheck c.data (c.p 2) = 0 → s.apdBusy (c.p 0) = false →
    Answers (.apdLoad c) s (fun u => u.replied c 0x0401 S_OK (digestWords (sha256 c.data)) ∧ u.rpl.apds.find? (c.p 0) = some c.data)) ∧
  (∀ (s : State) (c : Cap), c.isOp = true → 3 ≤ c.params.length → c.p 0 ≤ 63 → apdCheck c.data (c.p 2) ≠ 0 → Answers (.apdLoad c) s (fun u
    => u.replied c 0x0401 S_BADPARAM [] ∧ s.onlyReply u)) ∧
  (∀ (s : State) (c : Cap), c.isOp = true → 1 ≤ c.params.length → c.p 0 ≤ 63 → s.apdBusy (c.p 0) = false → Answers (.apdUnload c) s (fun u
    => u.replied c 0x0402 S_OK [] ∧ u.rpl.apds = s.rpl.apds.erase (c.p 0))) ∧
  (∀ (s : State) (c : Cap) (b : Bytes), c.isOp = true → 1 ≤ c.params.length → c.noPtr = false → s.rpl.apds.find? (c.p 0) = some b → Answers
    (.apdInfo c) s (fun u => u.answered c 0x0403 S_OK ∧ u.wrote c (wordBytes ((parseApd b).h.take 6 ++ (parseApd b).codes) ++ sha256 b) ∧
    s.onlyReply u)) ∧
  (∀ (s : State) (c : Cap), c.isOp = true → c.noPtr = false → Answers (.replayStatus c) s (fun u => u.replied c 0x0406 S_OK [136] ∧ u.wrote
    c (wordBytes (s.readReg .BX_RPL_STS :: (List.range 16).map (fun k => s.readReg .BX_RPL_CTX k))) ∧ s.onlyReply u)) ∧
  (∀ (s : State) (c : Cap), c.isOp = true → 3 ≤ c.params.length → c.p 0 ≤ 2 → c.p 1 < unitCount (c.p 0) → c.p 2 = 0 → Answers (.replayUnit
    c) s (fun u => u.replied c 0x0407 S_OK [] ∧ (c.p 0, c.p 1) ∈ u.rpl.retired)) ∧
  (∀ (s : State) (c : Cap), c.isOp = true → 3 ≤ c.params.length → c.p 0 ≤ 2 → c.p 1 < unitCount (c.p 0) → c.p 2 = 1 → (c.p 0 = 0 →
    s.rpl.katFailed.contains (c.p 1) = false) → Answers (.replayUnit c) s (fun u => u.replied c 0x0407 S_OK [] ∧ (c.p 0, c.p 1) ∉
    u.rpl.retired)) ∧
  (∀ (s : State) (c : Cap), c.isOp = true → 5 ≤ c.params.length → c.p 1 < 2 ^ 48 → c.p 2 < 2 ^ 32 → c.p 3 ≤ 255 → c.p 4 < 2 ^ 32 → Answers
    (.replayGen c) s (fun u => u.replied c 0x0408 S_OK (genOut (c.p 0) (c.p 1) (c.p 2) (c.p 3) (c.p 4)) ∧ s.onlyReply u)) ∧
  (∀ (s : State) (c : Cap), c.isOp = true → 8 ≤ c.params.length → (rfmt (c.p 7)).isSome = true → c.p 1 ≠ c.p 3 → Answers (.replayCrosscheck
    c) s (fun u => u.replied c 0x0409 S_NOTCOMPARABLE [] ∧ s.onlyReply u)) ∧
  (∀ (s : State) (c : Cap) (f : RFmt) (s1 s2 : State) (a b : List (Nat × Nat)), c.isOp = true → 8 ≤ c.params.length → rfmt (c.p 7) = some f
    → c.p 1 = c.p 3 → s.vaRange 0x80 64 (c.p 4) (c.p 6) false = (.ok a, s1) → s1.vaRange 0x80 64 (c.p 5) (c.p 6) false = (.ok b, s2) →
    (s2.readPieces a).2 = false → (s2.readPieces b).2 = false → (∀ i < 8 * c.p 6 / f.width, elemAt f.width (s2.readPieces a).1 i = elemAt
    f.width (s2.readPieces b).1 i) → Answers (.replayCrosscheck c) s (fun u => u.replied c 0x0409 S_OK [0])) ∧
  (∀ (s : State) (e : Nat), e < 256 → s.replayRuns = true → s.engineIn e = true → (s.rctx (e / 16)).other = none → Answers (.replayKat e
    false) s (fun u => e ∈ u.rpl.katFailed ∧ (0, e) ∈ u.rpl.retired ∧ s.counted u BX_RPL_CNT2_KAT_FAILS 0 1)) ∧
  (∀ (s : State) (e : Nat), Answers (.replayKat e true) s (fun u => u = s))

/-- STEP_ANNOUNCE of the job's next step under its current incarnation, with room and no fence, moves the job on, counts ANNOUNCED, keeps the
step provisional in a gated job, and is answered S_OK; of an earlier step it is S_CONFLICT and counts DUP_STEP. STEP_OPERANDS of a selected
step that still waits for them, no wait having run out and no address failing, are held. A selected step without operands OPERAND_WAIT_MS
after acceptance resolves UNCHECKABLE: without ON_UNCHECKED it is ready to commit as UNCHECKED, and with it, at GATE_WAIT_MS, it is revoked
and its job rolls back. STEP_COMMIT ends the first step of a gated job that is ready, counts it and takes the next sequence number of its
tenant's ledger; of one not resolved it changes nothing. Where a clause rests on a choice of the model and not on the spec, log entries 86
and 87 name it. -/
def Obligations.StepsAreAnnouncedAndResolve : Prop :=
  (∀ (s : State) (c : Cap) (b : Bytes) (j : Job), (c.isOp || c.isTenant) = true → 1 ≤ c.params.length → padTo 128 c.data = b → s.gjob?
    (rdLe b 4 4) = some j → c.ownsJob j = true → bits (rdLe b 0 8) 21 16 = j.tenant → bits (rdLe b 0 8) 23 22 ≠ 3 → s.flag BX_CMT_CTRL_EN =
    true → bits (rdLe b 8 8) 15 0 = j.curInc → j.old = none → (s.die j.die).fence = none → j.stuck = false → bits (rdLe b 0 8) 31 24 =
    j.attempt → bits (rdLe b 8 8) 63 16 = j.nextStep → s.gate.steps.length < 65536 → (s.gate.steps.filter (fun h => h.tenant =
    j.tenant)).length < s.rd BX_CMT_TEN_POLICY_MAX_PENDING j.tenant → Answers (.stepAnnounce c) s (fun u => u.answered c 0x0410 S_OK ∧
    (u.gjob? (rdLe b 4 4)).map (fun x => (x.nextStep, x.rollback)) = some (j.nextStep + 1, false) ∧ s.counted u BX_CMT_CNT0_ANNOUNCED 0 1 ∧
    (j.gated = true → ∃ g ∈ u.gate.steps, g.job = rdLe b 4 4 ∧ g.record = b ∧ g.accepted = s.bxNs ∧ g.gated = true))) ∧
  (∀ (s : State) (c : Cap) (b : Bytes) (j : Job), (c.isOp || c.isTenant) = true → 1 ≤ c.params.length → padTo 128 c.data = b → s.gjob?
    (rdLe b 4 4) = some j → c.ownsJob j = true → bits (rdLe b 0 8) 21 16 = j.tenant → bits (rdLe b 0 8) 23 22 ≠ 3 → s.flag BX_CMT_CTRL_EN =
    true → bits (rdLe b 8 8) 15 0 = j.curInc → j.old = none → (s.die j.die).fence = none → j.stuck = false → bits (rdLe b 0 8) 31 24 =
    j.attempt → bits (rdLe b 8 8) 63 16 < j.nextStep → Answers (.stepAnnounce c) s (fun u => u.replied c 0x0410 S_CONFLICT [] ∧ u.gate =
    s.gate ∧ s.counted u BX_CMT_CNT2_DUP_STEP 0 1)) ∧
  (∀ (s : State) (c : Cap) (j : Job) (g : GStep), (c.isOp || c.isTenant) = true → 4 ≤ c.params.length → s.gjob? (c.p 0) = some j →
    c.ownsJob j = true → s.gstep? (c.p 0) (c.p 1) (c.p 2) = some g → g.selected = true → g.ready = none → g.operands = none →
    s.gate.steps.filter (fun x => x.ready.isNone && (x.selected && x.operands.isNone && decide (x.accepted + max 1 (s.rd
    BX_CMT_CTRL_OPERAND_WAIT_MS) * 1000000 ≤ s.bxNs))) = [] → (leWords (padTo 48 c.data)).getD 5 0 = 0 → (s.badAddress 0x81 j.tenant
    (leWords (padTo 48 c.data))).1 = none → Answers (.stepOperands c) s (fun u => u.replied c 0x0411 S_OK [] ∧ (u.gstep? (c.p 0) (c.p 1)
    (c.p 2)).bind (fun x => x.operands) = some (leWords (padTo 48 c.data)))) ∧
  (∀ (s : State) (g : GStep), s.gate.steps = [g] → g.selected = true → g.operands = none → g.ready = none → g.gated = true → g.onUnchecked
    = false → g.accepted + max 1 (s.rd BX_CMT_CTRL_OPERAND_WAIT_MS) * 1000000 ≤ s.bxNs → Answers (.operandWaitExpiry) s (fun u =>
    u.gate.steps = [{ g with ready := some 2, heldJobs := [] }] ∧ s.counted u BX_CMT_CNT2_UNCHECKED 0 1)) ∧
  (∀ (s : State) (g : GStep) (j : Job), s.gate.steps = [g] → s.gjob? g.job = some j → j.attempt < 255 → g.ready = none → g.gated = true →
    g.onUnchecked = true → g.accepted + max 1 (s.rd BX_CMT_CTRL_GATE_WAIT_MS) * 1000000 ≤ s.bxNs → Answers (.gateWaitExpiry) s (fun u =>
    u.gate.steps = [] ∧ (u.gjob? g.job).map (fun x => (x.rollback, x.nextStep, x.attempt)) = some (true, g.step, j.attempt + 1) ∧ s.counted
    u BX_CMT_CNT1_REVOKED 0 1 ∧ s.counted u BX_CMT_CNT2_UNCHECKED 0 1)) ∧
  (∀ (s : State) (j cs : Nat) (g : GStep) (t : List GStep), s.stepsOf j = g :: t → g.ready = some cs → g.gated = true → 0 < s.rd
    BX_CMT_LEDGER_NEXT_SEQ g.tenant → s.rd BX_CMT_LEDGER_NEXT_SEQ g.tenant < 2 ^ 40 → Answers (.stepCommit j) s (fun u => u.gate.steps.map
    (fun h => (h.job, h.step, h.attempt)) = (s.gate.steps.filter (fun h => !h.is g)).map (fun h => (h.job, h.step, h.attempt)) ∧ s.counted u
    BX_CMT_CNT0_COMMITTED 0 1 ∧ u.rd BX_CMT_LEDGER_NEXT_SEQ g.tenant = s.rd BX_CMT_LEDGER_NEXT_SEQ g.tenant + 1)) ∧
  (∀ (s : State) (j : Nat) (g : GStep) (t : List GStep), s.stepsOf j = g :: t → g.ready = none → Answers (.stepCommit j) s (fun u => u = s))

/-- JOB_OPEN of a new JOB_ID with operands in range and a loaded APD opens a job at its first step, gated as the tenant's policy says; of an
open one it is S_CONFLICT. PLACEMENT_MIGRATE with enough lead and a new incarnation records the old one until its cut epoch.
COMMIT_POLICY_SET by the operator stores every field in range. COMMIT_STATUS, LEDGER_READ of entries all held and good, and LEDGER_HEAD
return what is held and change nothing, and a tenant's read of another's ledger is S_DENIED. JOB_CLOSE of a job without steps closes it, and
with steps but no FORCE it is S_BUSY. Where a clause rests on a choice of the model and not on the spec, log entries 88 and 89 name it. -/
def Obligations.GateJobsPoliciesAndLedgers : Prop :=
  (∀ (s : State) (c : Cap) (d : Nat), c.isOp = true → 7 ≤ c.params.length → s.localDie? (c.p 2) = some d → d ≠ 64 → c.p 0 < 2 ^ 32 → c.p 1
    ≤ 63 → c.p 3 ≤ 1023 → c.p 4 ≠ 0 → c.p 4 ≤ 65535 → (s.rpl.apds.find? (c.p 5)).isSome = true → c.p 6 < 2 ^ 48 → s.gjob? (c.p 0) = none →
    s.gate.jobs.length < 4096 → Answers (.jobOpen c) s (fun u => u.replied c 0x0412 S_OK [] ∧ (u.gjob? (c.p 0)).map (fun x => (x.tenant,
    x.die, x.unit, x.curInc, x.apd, x.nextStep)) = some (c.p 1, d, c.p 3, c.p 4, c.p 5, c.p 6) ∧ (u.gjob? (c.p 0)).map (fun x => x.gated) =
    some (!s.flag BX_CMT_TEN_POLICY_SC (c.p 1) && s.flag BX_CMT_TEN_POLICY_GATE (c.p 1)))) ∧
  (∀ (s : State) (c : Cap) (d : Nat), c.isOp = true → 7 ≤ c.params.length → s.localDie? (c.p 2) = some d → d ≠ 64 → c.p 0 < 2 ^ 32 → c.p 1
    ≤ 63 → c.p 3 ≤ 1023 → c.p 4 ≠ 0 → c.p 4 ≤ 65535 → (s.rpl.apds.find? (c.p 5)).isSome = true → c.p 6 < 2 ^ 48 → (s.gjob? (c.p 0)).isSome =
    true → Answers (.jobOpen c) s (fun u => u.replied c 0x0412 S_CONFLICT [] ∧ s.onlyReply u)) ∧
  (∀ (s : State) (c : Cap) (d : Nat) (j : Job), c.isOp = true → 5 ≤ c.params.length → s.gjob? (c.p 0) = some j → s.localDie? (c.p 1) = some
    d → d ≠ 64 → c.p 2 ≤ 1023 → c.p 3 ≤ 65535 → s.bxEpoch + max 2 (s.rd BX_CMT_CTRL_MIG_LEAD) ≤ c.p 4 → c.p 3 ≠ 0 → c.p 3 ≠ j.curInc → j.old
    = none → Answers (.placementMigrate c) s (fun u => u.replied c 0x0413 S_OK [] ∧ (u.gjob? (c.p 0)).map (fun x => (x.old, x.oldDie,
    x.oldUnit, x.curInc, x.die, x.unit)) = some (some (j.curInc, c.p 4), j.die, j.unit, c.p 3, d, c.p 2))) ∧
  (∀ (s : State) (c : Cap), c.isOp = true → 9 ≤ c.params.length → c.p 0 ≤ 63 → (policyFields.zip (c.params.drop 1)).any (fun x => decide
    (x.1.max < x.2)) = false → s.rd BX_CMT_SUSPECT_MIN_SAMPLE_PPM ≤ c.p 6 → Answers (.commitPolicySet c) s (fun u => u.replied c 0x0414 S_OK
    [] ∧ (∀ x ∈ policyFields.zip (c.params.drop 1), u.rd x.1 (c.p 0) = policyStore x.1 x.2))) ∧
  (∀ (s : State) (c : Cap) (j : Job), (c.isOp || c.isTenant) = true → 1 ≤ c.params.length → s.gjob? (c.p 0) = some j → c.ownsJob j = true →
    Answers (.commitStatus c) s (fun u => u.replied c 0x0415 S_OK [j.nextStep, j.attempt, j.lastCommitted.getD 0, (s.stepsOf (c.p
    0)).length, if j.stuck then 2 else if j.rollback then 1 else 0] ∧ s.onlyReply u)) ∧
  (∀ (s : State) (c : Cap), c.isTenant = true → 4 ≤ c.params.length → c.p 0 ≠ c.tenant → Answers (.ledgerRead c) s (fun u => u.replied c
    0x0416 S_DENIED [] ∧ u.hbm = s.hbm)) ∧
  (∀ (s : State) (c : Cap) (n : Nat), c.isOp = true → 4 ≤ c.params.length → c.p 0 ≤ 63 → min (c.p 2) (s.rd BX_CMT_LEDGER_NEXT_SEQ (c.p 0) -
    min (s.rd BX_CMT_LEDGER_NEXT_SEQ (c.p 0)) (c.p 1)) = n → ((List.range n).map (fun i => c.p 1 + i)).any (fun q => s.entryGone (c.p 0) q
    || s.entryBad (c.p 0) q) = false → Answers (.ledgerRead c) s (fun u => u.replied c 0x0416 S_OK [n] ∧ u.wdn.replies.getLast?.bind (fun r
    => r.hostWrite) = some (c.p 3, ((List.range n).map (fun i => c.p 1 + i)).flatMap (s.entryBytes (c.p 0))) ∧ s.onlyReply u)) ∧
  (∀ (s : State) (c : Cap), c.isOp = true → 1 ≤ c.params.length → c.p 0 ≤ 63 → Answers (.ledgerHead c) s (fun u => u.replied c 0x0417 S_OK
    (s.rd BX_CMT_LEDGER_NEXT_SEQ (c.p 0) :: digestWords (s.gate.chains.getD (c.p 0) (zeroBytes 32))) ∧ s.onlyReply u)) ∧
  (∀ (s : State) (c : Cap) (j : Job), (c.isOp || c.isTenant) = true → 2 ≤ c.params.length → s.gjob? (c.p 0) = some j → c.ownsJob j = true →
    s.stepsOf (c.p 0) = [] → Answers (.jobClose c) s (fun u => u.replied c 0x0418 S_OK [] ∧ u.gate.jobs = s.gate.jobs.erase (c.p 0) ∧
    u.gate.steps = s.gate.steps)) ∧
  (∀ (s : State) (c : Cap) (j : Job), (c.isOp || c.isTenant) = true → 2 ≤ c.params.length → s.gjob? (c.p 0) = some j → c.ownsJob j = true →
    s.stepsOf (c.p 0) ≠ [] → bitAt (c.p 1) 0 = false → Answers (.jobClose c) s (fun u => u.replied c 0x0418 S_BUSY [] ∧ s.onlyReply u))

/-- On an ACTIVE port a HELLO without conflict records its neighbour; one of another fleet is counted and isolates the port. An unanswered HELLO
is sent again after 1 ms. An LSA newer than the one held, of another aggregator, takes its place; one not newer changes nothing in the
fabric's state. Every refresh period this BX64 floods its own LSA under the next LSEQ; LSAs not refreshed within four periods go. Flits held
RELAY_WAIT_US are dropped and counted. CANOPY_IDENT_SET with every port DOWN assigns the identity; CANOPY_PORT_CTRL sets its port;
CANOPY_TOPO_READ and FABRIC_STATUS read. Where a clause rests on a choice of the model and not on the spec, log entries 69, 96 and 122 name
it. -/
def Obligations.NeighboursAndRoutesAreKept : Prop :=
  (∀ (s : State) (q uid fl ag pt bt gn : Nat), q < 24 → (s.link (.canopy q)).lstate = .active → s.helloConflict fl ag uid = none → ag <
    4096 → Answers (.helloReceive q uid fl ag pt bt gn) s (fun u => u.rd BX_CNP_PORT_STS_NEIGH_AGG q = ag ∧ (u.port q).helloSeen = true ∧
    (u.port q).neighBoot = bt ∧ (u.port q).neighPartition = pt)) ∧
  (∀ (s : State) (q uid fl ag pt bt gn : Nat), q < 24 → (s.link (.canopy q)).lstate = .active → fl ≠ s.rd BX_CNP_IDENT_FLEET_ID → Answers
    (.helloReceive q uid fl ag pt bt gn) s (fun u => u.rd BX_CNP_PORT_STS_PSTATE q = 1 ∧ (u.port q).helloSeen = false ∧ s.counted u
    BX_CNP_CNT1_FLEET_MISMATCH 0 1)) ∧
  (∀ (s : State) (q : Nat), q < 24 → (s.link (.canopy q)).lstate = .active → (s.port q).helloSent = true → (s.port q).helloSeen = false →
    (s.port q).helloAt + 1000000 ≤ s.bxNs → Answers (.helloResend q) s (fun u => (u.port q).helloAt = s.bxNs ∧ (∃ w ∈ (u.link (.canopy
    q)).wait, w.2.body.ty = 4 ∧ w.2.body.sub = 0x10))) ∧
  (∀ (s : State) (q : Nat) (l : Lsa), l.agg ≠ s.agg → (∀ x ∈ s.cnp.lsdb, x.agg = l.agg → l.newer x = true) → Answers (.lsaReceive q l) s
    (fun u => (∃ x ∈ u.cnp.lsdb, x = { l with at_ := s.bxNs }) ∧ (∀ x ∈ s.cnp.lsdb, x.agg ≠ l.agg → x ∈ u.cnp.lsdb))) ∧
  (∀ (s : State) (q : Nat) (l x : Lsa), s.cnp.lsdb.find? (fun (x : Lsa) => x.agg = l.agg) = some x → l.newer x = false → Answers
    (.lsaReceive q l) s (fun u => u.cnp = s.cnp ∧ u.regs = s.regs)) ∧
  (∀ (s : State), s.cnp.lsaAt + max 1 (s.rd BX_CNP_CTRL_LSA_REFRESH_MS) * 1000000 ≤ s.bxNs → Answers (.lsaRefresh) s (fun u => u.cnp.lsaAt
    = s.bxNs ∧ u.cnp.lseq = (s.cnp.lseq + 1) % 2 ^ 32 ∧ (∃ x ∈ u.cnp.lsdb, x.agg = s.agg ∧ x.lseq = u.cnp.lseq ∧ x.boot = s.rd
    BX_CNP_IDENT_BOOT))) ∧
  (∀ (s : State), Answers (.lsaExpiry) s (fun u => u.cnp.lsdb = s.cnp.lsdb.filter (fun (x : Lsa) => x.agg = s.agg || s.bxNs < x.at_ + 4 *
    max 1 (s.rd BX_CNP_CTRL_LSA_REFRESH_MS) * 1000000))) ∧
  (∀ (s : State) (q : Nat), ((s.link (.canopy q)).wait.filter (fun w => w.2.fromPort.isSome && decide (w.2.since + s.rd
    BX_CNP_CTRL_RELAY_WAIT_US * 1000 ≤ s.bxNs))) ≠ [] → Answers (.relayWaitTimeout q) s (fun u => (u.link (.canopy q)).wait = (s.link
    (.canopy q)).wait.filter (fun w => !(w.2.fromPort.isSome && decide (w.2.since + s.rd BX_CNP_CTRL_RELAY_WAIT_US * 1000 ≤ s.bxNs))) ∧
    s.counted u BX_CNP_CNT0_RELAY_TIMEOUT 0 (((s.link (.canopy q)).wait.filter (fun w => w.2.fromPort.isSome && decide (w.2.since + s.rd
    BX_CNP_CTRL_RELAY_WAIT_US * 1000 ≤ s.bxNs))).length))) ∧
  (∀ (s : State) (c : Cap), c.isOp = true → 2 ≤ c.params.length → (∀ q < 24, s.flag BX_CNP_PORT_STS_PSTATE q = false) → c.p 0 ≤ 65535 → c.p
    1 ≤ 4095 → Answers (.canopyIdentSet c) s (fun u => u.replied c 0x0601 S_OK [] ∧ u.rd BX_CNP_IDENT_FLEET_ID = c.p 0 ∧ u.agg = c.p 1 ∧
    u.flag BX_CNP_IDENT_ASSIGNED = true)) ∧
  (∀ (s : State) (c : Cap), c.isOp = true → 5 ≤ c.params.length → c.p 0 < 24 → Answers (.canopyPortCtrl c) s (fun u => u.replied c 0x0602
    S_OK [] ∧ u.rd BX_CNP_PORT_CTRL_ALARM_LIMIT (c.p 0) = c.p 4 % 65536 ∧ u.flag BX_CNP_PORT_CTRL_ISOLATE (c.p 0) = bitAt (c.p 3) 0)) ∧
  (∀ (s : State) (c : Cap), c.isOp = true → 1 ≤ c.params.length → Answers (.canopyTopoRead c) s (fun u => u.replied c 0x0603 S_OK
    [(s.cnp.lsdb.flatMap lsaBytes).length] ∧ u.wdn.replies.getLast?.bind (fun r => r.hostWrite) = some (c.p 0, s.cnp.lsdb.flatMap lsaBytes)
    ∧ s.onlyReply u)) ∧
  (∀ (s : State) (c : Cap), c.isOp = true → Answers (.fabricStatus c) s (fun u => u.replied c 0x0606 S_OK [s.readReg .BX_CNP_FAB_STS, s.rd
    BX_CNP_FAB_STS_ACT_ROOT, s.rd BX_CNP_FAB_STS_ACT_PARENT, s.rd BX_CNP_FAB_STS_ACT_BUDDY] ∧ s.onlyReply u))

/-- A broadcast newer by (BOOT, BSEQ) is remembered and a FENCE is held; one not newer changes nothing in the fabric. An alarm that arrives here
goes on to the acting parent within the limit of its port on its source's alarms of the open epoch, and is counted and dropped over it; at
the root it goes no further. After its HOLD words a cut-through ends stomped. E2E_REPEAT drops what is obsolete and sends again what is due;
an acknowledgement removes its message. A ward's mirror item is held once; one of no ward is refused. Heartbeats are sent every HB_US and
note their sender. A ward silent for LOST_US is declared lost, as is one PEER_DECLARE names; verdicts with a greater pair are taken. Where a
clause rests on a choice of the model and not on the spec, log entries 15, 72, 73 and 122 name it. -/
def Obligations.FabricMessagesAreRecoveredAndMirrored : Prop :=
  (∀ (s : State) (q src bt : Nat) (b : Bytes), src ≠ s.agg → (s.peer src).bcast.all (fun x => (x.1 < bt || (x.1 = bt && x.2 < rdLe b 40
    4))) = true → bt = ((s.cnp.lsdb.find? (fun (x : Lsa) => x.agg = src)).map (fun (x : Lsa) => x.boot)).getD (s.peer src).boot → bitAt
    (bits (rdLe b 0 8) 15 0) 15 = false → Answers (.broadcastReceive q 0x20 src b) s (fun u => (u.peer src).bcast = some (bt, rdLe b 40 4) ∧
    (∃ x ∈ u.cnp.fences, x.partition = false ∧ x.id = bits (rdLe b 0 8) 47 30 ∧ x.f = rdLe b 16 8 ∧ x.lift = none))) ∧
  (∀ (s : State) (q sub src bt : Nat) (b : Bytes), bt = ((s.cnp.lsdb.find? (fun (x : Lsa) => x.agg = src)).map (fun (x : Lsa) =>
    x.boot)).getD (s.peer src).boot → src = s.agg ∨ (s.peer src).bcast.any (fun x => !(x.1 < bt || (x.1 = bt && x.2 < rdLe b 40 4))) = true
    → Answers (.broadcastReceive q sub src b) s (fun u => u.cnp = s.cnp ∧ u.regs = s.regs)) ∧
  (∀ (s : State) (q sub src a o : Nat) (b : Bytes), s.parent? = some a → (s.port q).alarmEpoch = s.bxEpoch → s.alarmsOf src < s.rd
    BX_CNP_PORT_CTRL_ALARM_LIMIT q → (s.outPort 3 sub s.agg a).1 = some o → b.length = 48 → Answers (.canopyAlarmReceive q sub src b) s (fun
    u => (∃ w ∈ (u.link (.canopy o)).wait, w.1 = 0 ∧ w.2.body.ty = 3 ∧ w.2.body.sub = sub ∧ w.2.body.dst = a ∧ w.2.body.payload = b) ∧
    (u.port q).alarms.getD src 0 = (s.port q).alarms.getD src 0 + 1)) ∧
  (∀ (s : State) (q sub src a : Nat) (b : Bytes), s.parent? = some a → (s.port q).alarmEpoch = s.bxEpoch → s.rd
    BX_CNP_PORT_CTRL_ALARM_LIMIT q ≤ s.alarmsOf src → Answers (.canopyAlarmReceive q sub src b) s (fun u => s.counted u
    BX_CNP_PORT_MISC_ALARM_LIMITED q 1 ∧ src ∈ (u.port q).limited)) ∧
  (∀ (s : State) (q sub src : Nat) (b : Bytes), s.parent? = none → Answers (.canopyAlarmReceive q sub src b) s (fun u => u.cnp = s.cnp ∧
    u.red = s.red)) ∧
  (∀ (s : State) (q p : Nat) (b : FlitBody), (s.port q).cut = some (p, b) → Answers (.cutThroughHoldLimit q) s (fun u => (u.port q).cut =
    none ∧ s.counted u BX_STM_PORT_MISC_STOMPED p 1 ∧ (∃ w ∈ (u.link (.canopy q)).wait, w.1 = 0 ∧ w.2.body = { b with stomp := true }))) ∧
  (∀ (s : State), Answers (.e2eRepeat) s (fun u => (∀ m ∈ u.cnp.e2e, s.obsolete m = false ∧ s.bxNs < m.lastSent + max 1 (s.rd
    BX_CNP_CTRL_REPEAT_US) * 1000) ∧ u.cnp.e2e.map (fun m => m.msgId) = (s.cnp.e2e.filter (fun m => !s.obsolete m)).map (fun m => m.msgId))) ∧
  (∀ (s : State) (q m : Nat), Answers (.e2eAckReceive q m) s (fun u => u.cnp.e2e = s.cnp.e2e.filter (fun (x : E2E) => x.msgId ≠ m))) ∧
  (∀ (s : State) (q src m : Nat) (x : MirrorItem), s.isWard src = true → s.isLost src = false → (∀ e v r b, x ≠ .record e v r b) → (src, m)
    ∉ s.cnp.delivered → Answers (.mirrorReceive q src m x) s (fun u => (∃ l, u.cnp.mirrors.find? src = some l ∧ x ∈ l) ∧ (src, m) ∈
    u.cnp.delivered)) ∧
  (∀ (s : State) (q src m : Nat) (x : MirrorItem), s.isWard src = false → Answers (.mirrorReceive q src m x) s (fun u => u.cnp = s.cnp ∧
    u.red = s.red)) ∧
  (∀ (s : State), s.cnp.hbAt + max 1 (s.rd BX_CNP_CTRL_HB_US) * 1000 ≤ s.bxNs → Answers (.heartbeatSend) s (fun u => u.cnp.hbAt = s.bxNs ∧
    u.red = s.red ∧ (∀ a ∈ s.heartbeatTo, ∀ o, a ≠ s.agg → (s.outPort 4 0x12 s.agg a).1 = some o → ∃ w ∈ (u.link (.canopy o)).wait,
    w.2.body.ty = 4 ∧ w.2.body.sub = 0x12 ∧ w.2.body.dst = a))) ∧
  (∀ (s : State), s.bxNs < s.cnp.hbAt + max 1 (s.rd BX_CNP_CTRL_HB_US) * 1000 → Answers (.heartbeatSend) s (fun u => u = s)) ∧
  (∀ (s : State) (q src bt rl ep wm : Nat), Answers (.heartbeatReceive q src bt rl ep wm) s (fun u => ((u.peer src).lastHeard, (u.peer
    src).boot, (u.peer src).role, (u.peer src).epoch, (u.peer src).watermark) = (s.bxNs, bt, rl, ep, wm) ∧ (bt ≤ (s.peer src).boot → (u.peer
    src).lost = (s.peer src).lost))) ∧
  (∀ (s : State) (a : Nat) (e : TreeEntry), s.treeOf a = some e → e.buddy = s.agg → a ≠ s.agg → s.isLost a = false → (s.peer a).vHeld =
    false → (s.peer a).lastHeard + s.lostUs * 1000 ≤ s.bxNs → Answers (.peerLostDeclare a) s (fun u => u.isLost a = true ∧ s.counted u
    BX_CNP_CNT1_LOST_DECLARED 0 1)) ∧
  (∀ (s : State) (a bt ep : Nat), (s.peer a).takes true bt ep = true → Answers (.peerLostReceive a bt ep) s (fun u => u.isLost a = true ∧
    (u.peer a).vBoot = bt ∧ (u.peer a).vEpoch = ep)) ∧
  (∀ (s : State) (a bt ep : Nat), (s.peer a).takes true bt ep = false → Answers (.peerLostReceive a bt ep) s (fun u => u = s)) ∧
  (∀ (s : State) (a bt ep : Nat), (s.peer a).takes false bt ep = true → Answers (.peerBackReceive a bt ep) s (fun u => u.isLost a = false ∧
    (u.peer a).vBoot = bt ∧ (u.peer a).vEpoch = ep)) ∧
  (∀ (s : State) (c : Cap), c.isOp = true → 2 ≤ c.params.length → c.p 0 ≠ s.agg → c.p 0 ≤ 4095 → c.p 1 = 0 → (s.peer (c.p 0)).vHeld = false
    → Answers (.peerDeclare c) s (fun u => u.replied c 0x0607 S_OK [] ∧ u.isLost (c.p 0) = true ∧ s.counted u BX_CNP_CNT1_LOST_DECLARED 0 1))

/-- FIREBREAK_FENCE of a partition other than the acting root's without a fence holds one for FENCE_LEAD_US from now and answers that instant;
of a fenced one it is S_CONFLICT. At its instant every fence is asserted, and a partition's bit of BX_CNP_FENCE is set. FIREBREAK_CLEAR of a
fenced partition at an epoch the rule allows notes the lift, and too early it is S_NOTNOW. At the opening of its epoch a fence is lifted,
and a local die's fence is gone. Where a clause rests on a choice of the model and not on the spec, log entry 71 names it. -/
def Obligations.FirebreakFencesAndLifts : Prop :=
  (∀ (s : State) (c : Cap), c.isOp = true → 1 ≤ c.params.length → c.p 0 ≤ 63 → (s.treeOf (s.rd BX_CNP_FAB_STS_ACT_ROOT)).map (fun (e :
    TreeEntry) => e.partition) ≠ some (c.p 0) → s.partHasFence (c.p 0) = false → Answers (.firebreakFence c) s (fun u => u.replied c 0x0604
    S_OK [s.bxNs + s.rd BX_CNP_CTRL_FENCE_LEAD_US * 1000] ∧ (∃ x ∈ u.cnp.fences, x.partition = true ∧ x.id = c.p 0 ∧ x.f = s.bxNs + s.rd
    BX_CNP_CTRL_FENCE_LEAD_US * 1000 ∧ x.asserted = false))) ∧
  (∀ (s : State) (c : Cap), c.isOp = true → 1 ≤ c.params.length → c.p 0 ≤ 63 → s.partHasFence (c.p 0) = true → Answers (.firebreakFence c)
    s (fun u => u.replied c 0x0604 S_CONFLICT [] ∧ s.onlyReply u)) ∧
  (∀ (s : State), Answers (.fenceInstant) s (fun u => u.cnp.fences = s.cnp.fences.map (fun (x : FenceRec) => if x.f ≤ s.bxNs then { x with
    asserted := true } else x) ∧ (∀ x ∈ s.cnp.fences, x.partition = true → x.asserted = false → x.f ≤ s.bxNs → x.id < 64 → (u.rd
    BX_CNP_FENCE_FENCED).testBit x.id = true))) ∧
  (∀ (s : State) (c : Cap), c.isOp = true → 2 ≤ c.params.length → c.p 0 ≤ 63 → s.partHasFence (c.p 0) = true → s.liftEpoch ≤ c.p 1 →
    Answers (.firebreakClear c) s (fun u => u.replied c 0x0605 S_OK [] ∧ (∀ x ∈ u.cnp.fences, x.partition = true → x.id = c.p 0 → x.lifted =
    false → x.lift = some (c.p 1)))) ∧
  (∀ (s : State) (c : Cap), c.isOp = true → 2 ≤ c.params.length → c.p 0 ≤ 63 → s.partHasFence (c.p 0) = true → c.p 1 < s.liftEpoch →
    Answers (.firebreakClear c) s (fun u => u.replied c 0x0605 S_NOTNOW [] ∧ s.onlyReply u)) ∧
  (∀ (s : State) (d m : Nat) (x : FenceRec), s.cnp.fences = [x] → x.partition = false → x.id = s.agg * 64 + d → d < 64 → x.lifted = false →
    x.lift = some m → (s.schedOf m).open_ m ≤ s.bxNs → Answers (.unfenceInstant) s (fun u => u.cnp.fences = [{ x with lifted := true }] ∧
    (u.die d).fence = none ∧ u.rd BX_LKO_DIE_STATE d = 0)) ∧
  (∀ (s : State), (∀ x ∈ s.cnp.fences, x.lifted = false → x.lift = none) → Answers (.unfenceInstant) s (fun u => u = s))

/-- TAPROOT_TIME_LATCH answered copies Ringcount and clears TB_LOST, unanswered the copy runs on by 1 us and TB_LOST is set. TAP_KICK with bit 0
restarts watchdog 0. WEDGE_DECLARE of watchdogs that have expired sets WEDGED with those causes, and a dump falls due where none is held or
due. HEARTWOOD_REQUEST writes the oldest waiting record under the next SEQ. TAPROOT_SELF_RESET starts the JTAG TAP and the MCTP assembly
over. HW_READ and HANG_DUMP_READ answer S_OK, SAFETY_STATUS reads. HW_CLEAR that fails a check is denied, counts the NONCE on and erases
nothing; one that passes every check (the signature check is an opaque constant of the model) erases the main ring up to ARG, counts the
NONCE on and is answered S_OK. Where a clause rests on a choice of the model and not on the spec, log entries 12, 19, 64 and 123 name it. -/
def Obligations.TaprootKeepsHeartwood : Prop :=
  (∀ (s : State), Answers (.taprootTimeLatch true) s (fun u => u.tap.copy = s.bxNs ∧ u.rd BX_TAP_STS_TB_LOST = 0 ∧ u.hbm = s.hbm)) ∧
  (∀ (s : State), Answers (.taprootTimeLatch false) s (fun u => u.tap.copy = s.tap.copy + 1000 ∧ u.rd BX_TAP_STS_TB_LOST = 1)) ∧
  (∀ (s : State) (v : Nat), bitAt v 0 = true → Answers (.tapKick v) s (fun u => u = { s with tap := { s.tap with kickAt := s.tapNs } })) ∧
  (∀ (s : State) (causes : Nat) (cs : List Nat), (List.range 3).filter (fun i => bitAt causes i && s.expired i) = cs → cs ≠ [] → s.flag
    BX_TAP_STS_DUMP_HELD = false → s.tap.dumpPend = none → Answers (.wedgeDeclare causes) s (fun u => u.rd BX_TAP_STS_WEDGED = 1 ∧ u.rd
    BX_TAP_STS_CAUSE = (cs.foldl (fun a i => a + 2 ^ i) 0) % 2 ^ BX_TAP_STS_CAUSE.width ∧ u.tap.dumpPend.map (fun d => (d.1, d.2.1)) = some
    (s.tapRc, cs.foldl (fun a i => a + 2 ^ i) 0))) ∧
  (∀ (s : State) (r : HwRec) (t : List HwRec), s.tap.reqs = r :: t → Answers (.heartwoodRequest none) s (fun u => u.tap.reqs = t ∧
    (u.tap.main ++ u.tap.prot).any (fun x => x = { r with seq := s.rd BX_HW_STS_NEXT_SEQ }) = true ∧ u.rd BX_HW_STS_NEXT_SEQ = (s.rd
    BX_HW_STS_NEXT_SEQ + 1) % 2 ^ BX_HW_STS_NEXT_SEQ.width)) ∧
  (∀ (s : State), Answers (.taprootSelfReset) s (fun u => u.tap.jtag = {} ∧ u.wdn.mctp.asm = none ∧ u.tap.opKey = s.tap.opKey ∧
    u.tap.kickAt = s.tapNs)) ∧
  (∀ (s : State) (c : Cap), c.isOp = true → 3 ≤ c.params.length → Answers (.hwRead c) s (fun u => u.replied c 0x0901 S_OK
    [((s.hwHeld.filter (fun r => c.p 0 ≤ r.seq)).take (c.p 1)).length] ∧ u.wdn.replies.getLast?.bind (fun r => r.hostWrite) = some (c.p 2,
    ((s.hwHeld.filter (fun r => c.p 0 ≤ r.seq)).take (c.p 1)).flatMap HwRec.bytes) ∧ s.onlyReply u)) ∧
  (∀ (s : State) (c : Cap), c.isOpPcie = true → 1 ≤ c.params.length → rdLe c.data 0 4 ≠ 0x48545541 → Answers (.hwClear c) s (fun u =>
    u.replied c 0x0902 S_DENIED [] ∧ u.tap.main = s.tap.main ∧ u.rd BX_HW_AUTH_NONCE = (s.rd BX_HW_AUTH_NONCE + 1) % 2 ^
    BX_HW_AUTH_NONCE.width)) ∧
  (∀ (s : State) (c : Cap), c.isOpPcie = true → 1 ≤ c.params.length → (s.authorized 1 c.data).1 = true → Answers (.hwClear c) s (fun u =>
    u.replied c 0x0902 S_OK [] ∧ u.tap.main = s.tap.main.filter (fun r => ¬ r.seq ≤ rdLe c.data 32 8) ∧ u.rd BX_HW_AUTH_NONCE = (s.rd
    BX_HW_AUTH_NONCE + 1) % 2 ^ BX_HW_AUTH_NONCE.width)) ∧
  (∀ (s : State) (c : Cap), c.isOp = true ∨ c.isMctp = true → Answers (.safetyStatus c) s (fun u => u.replied c 0x0903 S_OK [s.readReg
    .BX_SAF_STS, s.readReg .BX_TAP_STS] ∧ s.onlyReply u)) ∧
  (∀ (s : State) (c : Cap), c.isOp = true → 1 ≤ c.params.length → s.flag BX_TAP_STS_DUMP_HELD = true → Answers (.hangDumpRead c) s (fun u
    => u.replied c 0x0904 S_OK [] ∧ u.wdn.replies.getLast?.bind (fun r => r.hostWrite) = some (c.p 0, s.dumpBytes) ∧ u.rd
    BX_TAP_STS_DUMP_READ = 1 ∧ u.tap = s.tap))

/-- In BLANK, PROVISIONED or RETURN: EXTEST drives the cells, SAMPLE/PRELOAD loads them and shifts out as many bits, HD_READ shifts out the next
32 bits of the dump; IDCODE shifts out 32 bits and BYPASS delays by one bit in every state. WT_ARM of a valid target at BX64 by the operator
over PCIe, not RETIRED, arms its injector with COUNT; WT_DISARM disarms it; WT_STATUS lists the armed ones. Each answers S_OK. Where a
clause rests on a choice of the model and not on the spec, log entries 13, 22, 66 and 101 name it. -/
def Obligations.JtagAndWindthrowAct : Prop :=
  (∀ (s : State) (b : List Bool), s.inField = false → s.retired = false → Answers (.jtagExtest b) s (fun u => u.tap.jtag.ir = 0 ∧
    u.tap.jtag.preload = b ∧ u.regs = s.regs)) ∧
  (∀ (s : State), Answers (.jtagIdcode) s (fun u => u.tap.jtag.ir = 1 ∧ u.out.length = s.out.length + 1 ∧ u.regs = s.regs ∧
    u.out.getLast?.map (fun o => match o with | .tdo b => b.length | _ => 0) = some 32)) ∧
  (∀ (s : State) (b : List Bool), s.retired = false → Answers (.jtagSamplePreload b) s (fun u => u.tap.jtag.ir = 2 ∧ u.tap.jtag.preload = b
    ∧ u.fresh = s.fresh + 1 ∧ u.out.length = s.out.length + 1 ∧ u.out.getLast?.map (fun o => match o with | .tdo x => x.length | _ => 0) =
    some b.length)) ∧
  (∀ (s : State), s.retired = false → s.tap.jtag.ir = 0x30 → Answers (.jtagHdRead) s (fun u => u.tap.jtag.ir = 0x30 ∧ u.tap.jtag.pos =
    s.tap.jtag.pos + 1 ∧ u.out = s.out ++ [.tdo ((List.range 32).map (fun i => bitAt (if s.flag BX_TAP_STS_DUMP_HELD then bits
    (s.tap.dump.getD (s.tap.jtag.pos / 2) 0) (s.tap.jtag.pos % 2 * 32 + 31) (s.tap.jtag.pos % 2 * 32) else 0) i))])) ∧
  (∀ (s : State) (b : List Bool), Answers (.jtagBypass b) s (fun u => u.tap.jtag.ir = 0xFF ∧ u.out = s.out ++ [.tdo (false :: b.dropLast)]
    ∧ u.regs = s.regs)) ∧
  (∀ (s : State) (c : Cap), c.isOpPcie = true → s.rd BX_LC_STS_STATE ≠ 4 → 5 ≤ c.params.length → wtIndexOk (c.p 0) (c.p 1) = true →
    s.wtArgOk (c.p 0) (c.p 1) (c.p 2) (c.p 3) = true → 1 ≤ c.p 4 → c.p 4 ≤ 64 → wtZx? (c.p 0) (c.p 1) = none → Answers (.wtArm c) s (fun u
    => u.replied c 0x0F01 S_OK [] ∧ u.rd BX_WT_INJ_ARMED (wtTarget (c.p 0) (c.p 1)) = 1 ∧ u.rd BX_WT_INJ_REMAIN (wtTarget (c.p 0) (c.p 1)) =
    c.p 4 % 2 ^ BX_WT_INJ_REMAIN.width)) ∧
  (∀ (s : State) (c : Cap), c.isOpPcie = true → s.rd BX_LC_STS_STATE ≠ 4 → 1 ≤ c.params.length → c.p 0 ≠ 0xFFFF → s.flag BX_WT_INJ_ARMED
    (wtTarget (c.p 0) (c.p 1)) = true → wtZx? (wtTarget (c.p 0) (c.p 1) / 65536) (wtTarget (c.p 0) (c.p 1) % 65536) = none → Answers
    (.wtDisarm c) s (fun u => u.replied c 0x0F02 S_OK [] ∧ u.rd BX_WT_INJ_ARMED (wtTarget (c.p 0) (c.p 1)) = 0)) ∧
  (∀ (s : State) (c : Cap), c.isOpPcie = true → s.rd BX_LC_STS_STATE ≠ 4 → c.noPtr = false → Answers (.wtStatus c) s (fun u => u.answered c
    0x0F03 S_OK ∧ u.wrote c (wordBytes (s.wtArmed.flatMap (fun t => [t, s.readReg .BX_WT_INJ t]))) ∧ s.onlyReply u))

/-- A doorbell write of SQ_TAIL below the ring's size is taken and of CQ_HEAD up to CQ_TAIL too; one out of range to a queue pair in RUN puts it
into HALTED with cause 2. A HEAD write past the last entry posted is ignored and counted, another is taken. Enabling a queue pair sets both
heads to 0 and RUN; disabling it discards its capsules in progress, counted. FLR disables the function's queue pairs, its event ring and its
DMA channels. -/
def Obligations.DoorbellsMoveTheRings : Prop :=
  (∀ (s : State) (f q tail : Nat), f < 64 → q < 4 → tail < s.sqSize (f * 4 + q) → Answers (.sqDoorbell f q tail) s (fun u => u.rd
    BX_WDN_QP_DB_SQ_TAIL (f * 4 + q) = tail % 65536 ∧ u.rd BX_WDN_QP_STS_STATE (f * 4 + q) = s.rd BX_WDN_QP_STS_STATE (f * 4 + q) ∧ { u with
    regs := s.regs } = s)) ∧
  (∀ (s : State) (f q tail : Nat), f < 64 → q < 4 → s.rd BX_WDN_QP_STS_STATE (f * 4 + q) = 1 → s.sqSize (f * 4 + q) ≤ tail → Answers
    (.sqDoorbell f q tail) s (fun u => u.rd BX_WDN_QP_STS_STATE (f * 4 + q) = 2 ∧ u.rd BX_WDN_QP_STS_ERR (f * 4 + q) = 2)) ∧
  (∀ (s : State) (f q head : Nat), f < 64 → q < 4 → head < s.cqSize (f * 4 + q) → (head + s.cqSize (f * 4 + q) - s.rd BX_WDN_QP_DB_CQ_HEAD
    (f * 4 + q)) % s.cqSize (f * 4 + q) ≤ (s.rd BX_WDN_QP_STS_CQ_TAIL (f * 4 + q) + s.cqSize (f * 4 + q) - s.rd BX_WDN_QP_DB_CQ_HEAD (f * 4
    + q)) % s.cqSize (f * 4 + q) → Answers (.cqHeadWrite f q head) s (fun u => u.rd BX_WDN_QP_DB_CQ_HEAD (f * 4 + q) = head % 65536 ∧ u.rd
    BX_WDN_QP_STS_STATE (f * 4 + q) = s.rd BX_WDN_QP_STS_STATE (f * 4 + q) ∧ { u with regs := s.regs } = s)) ∧
  (∀ (s : State) (f q head : Nat), f < 64 → q < 4 → s.rd BX_WDN_QP_STS_STATE (f * 4 + q) = 1 → (s.rd BX_WDN_QP_STS_CQ_TAIL (f * 4 + q) +
    s.cqSize (f * 4 + q) - s.rd BX_WDN_QP_DB_CQ_HEAD (f * 4 + q)) % s.cqSize (f * 4 + q) < (head + s.cqSize (f * 4 + q) - s.rd
    BX_WDN_QP_DB_CQ_HEAD (f * 4 + q)) % s.cqSize (f * 4 + q) → Answers (.cqHeadWrite f q head) s (fun u => u.rd BX_WDN_QP_STS_STATE (f * 4 +
    q) = 2 ∧ u.rd BX_WDN_QP_STS_ERR (f * 4 + q) = 2)) ∧
  (∀ (s : State) (f head : Nat), f < 64 → head < s.ringSize f → (head + s.ringSize f - s.rd BX_WDN_EV_DB_HEAD f) % s.ringSize f ≤ ((s.ring
    f).tail + s.ringSize f - s.rd BX_WDN_EV_DB_HEAD f) % s.ringSize f → Answers (.evHeadWrite f head) s (fun u => u.rd BX_WDN_EV_DB_HEAD f =
    head % 65536)) ∧
  (∀ (s : State) (f head : Nat), f < 64 → ((s.ring f).tail + s.ringSize f - s.rd BX_WDN_EV_DB_HEAD f) % s.ringSize f < (head + s.ringSize f
    - s.rd BX_WDN_EV_DB_HEAD f) % s.ringSize f → Answers (.evHeadWrite f head) s (fun u => u.rd BX_WDN_EV_DB_HEAD f = s.rd BX_WDN_EV_DB_HEAD
    f ∧ s.counted u BX_VIOL_HOST_EV_HEAD 0 1 ∧ u.wdn = s.wdn)) ∧
  (∀ (s : State) (f q : Nat), f < 64 → q < 4 → s.flag BX_WDN_QP_CFG_EN (f * 4 + q) = false → Answers (.qpEnable f q) s (fun u => u.rd
    BX_WDN_QP_CFG_EN (f * 4 + q) = 1 ∧ u.rd BX_WDN_QP_STS_SQ_HEAD (f * 4 + q) = 0 ∧ u.rd BX_WDN_QP_STS_CQ_TAIL (f * 4 + q) = 0 ∧ u.rd
    BX_WDN_QP_STS_STATE (f * 4 + q) = 1 ∧ u.rd BX_WDN_QP_STS_ERR (f * 4 + q) = 0 ∧ u.wdn.prog = s.wdn.prog)) ∧
  (∀ (s : State) (f q : Nat), f < 64 → q < 4 → s.flag BX_WDN_QP_CFG_EN (f * 4 + q) = true → Answers (.qpEnable f q) s (fun u => u = s)) ∧
  (∀ (s : State) (f q : Nat), f < 64 → q < 4 → Answers (.qpDisable f q) s (fun u => u.rd BX_WDN_QP_CFG_EN (f * 4 + q) = 0 ∧ u.rd
    BX_WDN_QP_STS_STATE (f * 4 + q) = 0 ∧ s.counted u BX_WDN_CNT1_DISCARDED 0 (s.inProg (f * 4 + q)) ∧ u.wdn.prog = s.wdn.prog.filter (fun g
    => ¬ (g.cap.path = 0 ∧ qpIdx g.cap.fn g.cap.qp = f * 4 + q)) ∧ u.wdn.replies = s.wdn.replies)) ∧
  (∀ (s : State) (f : Nat), f < 64 → Answers (.flr f) s (fun u => (∀ q < 4, u.rd BX_WDN_QP_CFG_EN (f * 4 + q) = 0 ∧ u.rd
    BX_WDN_QP_STS_STATE (f * 4 + q) = 0) ∧ u.rd BX_WDN_EV_CFG_EN f = 0 ∧ u.ring f = {} ∧ (∀ c < 128, s.rd BX_DMA_CH_CFG_FUNC c = f → s.flag
    BX_DMA_CH_CFG_EN c = true → u.rd BX_DMA_CH_CFG_EN c = 0 ∧ u.rd BX_DMA_CH_STS_STATE c = 3)))

/-- CAPSULE_FETCH takes the next capsule of the queue pair served next: one that passes every check is in progress and counted; one that fails
is answered with that check's status; a poisoned one is dropped and counted; an error halts the queue pair with its cause; with nothing to
fetch nothing happens. CAPSULE_REPLY writes the oldest reply into its completion slot and moves CQ_TAIL; a reply whose capsule is no longer
in progress is dropped. EXEC_TIMEOUT answers S_TIMEOUT to every capsule over its time, and RELAY_TIMEOUT to every relayed one over its own,
that no reply waits for. A relayed capsule that passes is in progress under RELAY; a relayed reply answers the capsule it belongs to with
its results and what follows its eight words, or none. Where a clause rests on a choice of the model and not on the spec, log entries 18,
65, 68 and 124 name it. -/
def Obligations.CapsulesAreFetchedAnsweredAndRelayed : Prop :=
  (∀ (s : State) (ws block : List Nat) (data : Bytes) (err : Nat) (poison host : Bool), s.nextFetch = none → Answers (.capsuleFetch ws
    block data err poison host) s (fun u => u = s)) ∧
  (∀ (s : State) (f q err : Nat) (ws block : List Nat) (data : Bytes) (poison host : Bool), s.nextFetch = some (f, q) → err ≠ 0 → Answers
    (.capsuleFetch ws block data err poison host) s (fun u => u.rd BX_WDN_QP_STS_STATE (f * 4 + q) = 2 ∧ u.rd BX_WDN_QP_STS_ERR (f * 4 + q)
    = (if err = 4 then 4 else 1) ∧ u.wdn = s.wdn)) ∧
  (∀ (s : State) (f q : Nat) (ws block : List Nat) (data : Bytes) (host : Bool), s.nextFetch = some (f, q) → Answers (.capsuleFetch ws
    block data 0 true host) s (fun u => s.counted u BX_WDN_CNT1_POISON_DROP 0 1 ∧ s.counted u BX_WDN_CNT0_CAPSULES 0 1 ∧ u.wdn.prog =
    s.wdn.prog ∧ u.rd BX_WDN_QP_STS_SQ_HEAD (f * 4 + q) = (s.rd BX_WDN_QP_STS_SQ_HEAD (f * 4 + q) + 1) % s.sqSize (f * 4 + q) % 65536)) ∧
  (∀ (s : State) (f q : Nat) (ws block : List Nat) (data : Bytes) (host : Bool) (h : CapWord) (c : Cap), s.nextFetch = some (f, q) → mkCap
    0 f f q ws block data = (h, c) → s.capsuleCheck h c host = none → h.relay = false → zxOpcode h.op = false → Answers (.capsuleFetch ws
    block data 0 false host) s (fun u => u.wdn.prog = s.wdn.prog ++ [{ op := h.op, cap := c, at_ := s.bxNs }] ∧ u.wdn.replies =
    s.wdn.replies ∧ s.counted u BX_WDN_CNT0_CAPSULES 0 1 ∧ u.rd BX_WDN_QP_STS_SQ_HEAD (f * 4 + q) = (s.rd BX_WDN_QP_STS_SQ_HEAD (f * 4 + q)
    + 1) % s.sqSize (f * 4 + q) % 65536)) ∧
  (∀ (s : State) (f q st reason : Nat) (ws block : List Nat) (data : Bytes) (host : Bool) (h : CapWord) (c : Cap), s.nextFetch = some (f,
    q) → mkCap 0 f f q ws block data = (h, c) → s.capsuleCheck h c host = some (st, reason) → Answers (.capsuleFetch ws block data 0 false
    host) s (fun u => u.replied c h.op st [] ∧ s.counted u BX_WDN_CNT0_CAPSULES 0 1)) ∧
  (∀ (s : State) (b : Bool), s.wdn.replies = [] → Answers (.capsuleReply b) s (fun u => u = s)) ∧
  (∀ (s : State) (r : Reply) (t : List Reply) (i : Nat), s.wdn.replies = r :: t → s.wdn.prog.any (fun g => g.op = r.op && g.cap = r.cap) =
    true → r.cap.path = 0 → i = qpIdx r.cap.fn r.cap.qp → Answers (.capsuleReply false) s (fun u => u.wdn.replies = t ∧ u.wdn.prog = (if
    r.reason = 0xF1 then (s.wdn.prog.reverse.eraseP (fun g => g.op = r.op && g.cap = r.cap)).reverse else s.wdn.prog.eraseP (fun g => g.op =
    r.op && g.cap = r.cap)) ∧ u.rd BX_WDN_QP_STS_CQ_TAIL i = (s.rd BX_WDN_QP_STS_CQ_TAIL i + 1) % s.cqSize i % 65536 ∧ Out.hostWrite
    r.cap.fn (s.rd BX_WDN_QP_CQB_BASE i * 64 + 64 * s.rd BX_WDN_QP_STS_CQ_TAIL i) (replyBytes r (s.rd BX_WDN_QP_STS_SQ_HEAD i)
    (((s.wdn.qps.find? i).map (fun x => x.phase)).getD true) r.reason r.results) ∈ u.out)) ∧
  (∀ (s : State) (b : Bool) (r : Reply) (t : List Reply), s.wdn.replies = r :: t → s.wdn.prog.any (fun g => g.op = r.op && g.cap = r.cap) =
    false → Answers (.capsuleReply b) s (fun u => u.wdn.replies = t ∧ u.out = s.out ∧ u.regs = s.regs)) ∧
  (∀ (s : State), Answers (.execTimeout) s (fun u => (∀ g ∈ s.wdn.prog, g.at_ + s.rd BX_WDN_CTRL_EXEC_MS * 1000000 ≤ s.bxNs → s.replyDue g
    = false → ∃ r ∈ u.wdn.replies, r.cap = g.cap ∧ r.op = g.op ∧ r.status = S_TIMEOUT) ∧ u.wdn.prog = s.wdn.prog)) ∧
  (∀ (s : State), Answers (.relayTimeout) s (fun u => (∀ g ∈ s.wdn.prog, ∀ a t, g.relay = some (a, t) → t + s.rd BX_WDN_CTRL_RELAY_MS *
    1000000 ≤ s.bxNs → s.replyDue g = false → ∃ r ∈ u.wdn.replies, r.cap = g.cap ∧ r.op = g.op ∧ r.status = S_TIMEOUT) ∧ u.wdn.prog.length =
    s.wdn.prog.length)) ∧
  (∀ (s : State) (e : LinkId) (src : Nat) (ws block : List Nat) (data : Bytes) (h : CapWord) (c : Cap), mkCap 2 ((parseCapWord (ws.getD 0
    0)).origin % 64) src 0 ws block data = (h, c) → s.capsuleCheck h c true = none → h.relay = false → zxOpcode h.op = false → Answers
    (.relayedCapsuleReceive e src ws block data) s (fun u => u.wdn.prog = s.wdn.prog ++ [{ op := h.op, cap := c, at_ := s.bxNs }])) ∧
  (∀ (s : State) (e : LinkId) (src : Nat) (ws : List Nat) (g : InProg), s.wdn.prog.find? (fun g => g.op = bits (ws.getD 0 0) 63 48 &&
    g.cap.tag = bits (ws.getD 0 0) 47 32 && (g.relay.map (fun x => x.1)) = some src) = some g → Answers (.relayedReplyReceive e src ws) s
    (fun u => u.replied g.cap g.op (bits (ws.getD 0 0) 31 24) ((ws.drop 2).take 6) ∧ u.wdn.replies.getLast?.bind (fun r => r.hostWrite) =
    (if (wordBytes (ws.drop 8)).take (ws.getD 2 0) = [] then none else some (g.cap.replyPtr, (wordBytes (ws.drop 8)).take (ws.getD 2 0))))) ∧
  (∀ (s : State) (e : LinkId) (src : Nat) (ws : List Nat), s.wdn.prog.find? (fun g => g.op = bits (ws.getD 0 0) 63 48 && g.cap.tag = bits
    (ws.getD 0 0) 47 32 && (g.relay.map (fun x => x.1)) = some src) = none → Answers (.relayedReplyReceive e src ws) s (fun u => u.wdn =
    s.wdn ∧ u.regs = s.regs))

/-- EVENT_POST to a ring that is not enabled changes nothing; to an enabled one with room and nothing waiting it writes the entry at the tail
under the next EV_SEQ, signals vector 4 and moves the tail; with no room it waits in the hold queue. An MCTP packet with a bad PEC, out of
sequence or making a message over 320 bytes is dropped and counted; a first packet that is not the last starts a message; a whole capsule
that passes every check, with fewer than four unanswered, is in progress. The five control requests are answered; SET_ENDPOINT_ID takes the
EID. The layout of the responses is log entry 14. Where a clause rests on a choice of the model and not on the spec, log entries 8, 14 and
101 name it. -/
def Obligations.EventsAndMctpMessagesAreTaken : Prop :=
  (∀ (s : State) (f kind : Nat) (b : Bytes), s.flag BX_WDN_EV_CFG_EN f = false → Answers (.eventPost f kind b) s (fun u => u = s)) ∧
  (∀ (s : State) (f kind : Nat) (b : Bytes), f < 64 → s.flag BX_WDN_EV_CFG_EN f = true → (s.ring f).hold = [] → (s.ring f).lost = none →
    s.ringRoom f = true → Answers (.eventPost f kind b) s (fun u => Out.hostWrite f (s.rd BX_WDN_EVB_BASE f * 64 + 64 * (s.ring f).tail)
    (eventEntry ⟨kind, b.take 56, s.rd BX_WDN_EV_STS_EV_SEQ f⟩ (s.ring f).phase) ∈ u.out ∧ Out.msix f 4 ∈ u.out ∧ u.rd BX_WDN_EV_STS_EV_SEQ
    f = (s.rd BX_WDN_EV_STS_EV_SEQ f + 1) % 2 ^ 32 ∧ (u.ring f).tail = ((s.ring f).tail + 1) % s.ringSize f)) ∧
  (∀ (s : State) (f kind : Nat) (b : Bytes), f < 64 → s.flag BX_WDN_EV_CFG_EN f = true → (s.ring f).hold.length < 1024 → (s.ring f).lost =
    none → s.ringRoom f = false → Answers (.eventPost f kind b) s (fun u => (u.ring f).hold = (s.ring f).hold ++ [⟨kind, b.take 56, s.rd
    BX_WDN_EV_STS_EV_SEQ f⟩] ∧ u.out = s.out)) ∧
  (∀ (s : State) (som eom : Bool) (q : Nat) (b : Bytes), Answers (.mctpMessage false som eom q b) s (fun u => s.counted u BX_VIOL_MCTP_PEC
    0 1 ∧ u.wdn = s.wdn)) ∧
  (∀ (s : State) (q : Nat) (b : Bytes), b.length ≤ 320 → Answers (.mctpMessage true true false q b) s (fun u => u.wdn.mctp.asm = some (b,
    (q + 1) % 4) ∧ u.regs = s.regs)) ∧
  (∀ (s : State) (eom : Bool) (q : Nat) (b m : Bytes) (n : Nat), s.wdn.mctp.asm = some (m, n) → n ≠ q % 4 → Answers (.mctpMessage true
    false eom q b) s (fun u => u.wdn.mctp.asm = none ∧ s.counted u BX_VIOL_MCTP_SEQ 0 1)) ∧
  (∀ (s : State) (eom : Bool) (q : Nat) (b : Bytes), 320 < b.length → Answers (.mctpMessage true true eom q b) s (fun u => u.wdn.mctp.asm =
    none ∧ s.counted u BX_VIOL_MCTP_LONG 0 1 ∧ u.wdn.prog = s.wdn.prog)) ∧
  (∀ (s : State) (q : Nat) (b : Bytes) (h : CapWord) (c : Cap), b.length ≤ 320 → rdLe b 0 1 = 0x7E → beNat (sliceBytes b 1 2) = s.rd
    BX_SYS_ID_VENDOR → mkCap 1 0 0 0 (leWords (sliceBytes b 3 64)) (leWords (b.drop 67)) [] = (h, c) → s.wdn.mctp.unanswered < 4 →
    s.capsuleCheck h c true = none → h.relay = false → zxOpcode h.op = false → Answers (.mctpMessage true true true q b) s (fun u =>
    u.wdn.prog = s.wdn.prog ++ [{ op := h.op, cap := c, at_ := s.bxNs }] ∧ u.wdn.mctp.unanswered = s.wdn.mctp.unanswered + 1 ∧
    u.wdn.mctp.asm = none)) ∧
  (∀ (s : State) (e : Nat), Answers (.setEndpointId e) s (fun u => u.wdn.mctp.eid = e % 256 ∧ u.out = s.out ++ [.mctp ([0x00, 0x01, 0x00,
    0x00] ++ leBytes 1 e ++ [0x00])] ∧ u.regs = s.regs)) ∧
  (∀ (s : State), Answers (.getEndpointId) s (fun u => u = s.emit (.mctp ([0x00, 0x02, 0x00] ++ leBytes 1 s.wdn.mctp.eid ++ [0x00, 0x00])))) ∧
  (∀ (s : State), Answers (.getEndpointUuid) s (fun u => u = s.emit (.mctp ([0x00, 0x03, 0x00] ++ leBytes 16 (Config.uuidOf (s.rd
    BX_CNP_DEV_UID_DEV_UID)))))) ∧
  (∀ (s : State) (ty : Nat), Answers (.getMctpVersionSupport ty) s (fun u => u = s.emit (.mctp ([0x00, 0x04, 0x00, 0x01] ++ leBytes 4
    (Config.mctpVersion ty))))) ∧
  (∀ (s : State), Answers (.getMessageTypeSupport) s (fun u => u = s.emit (.mctp [0x00, 0x05, 0x00, 0x02, 0x00, 0x7E])))

/-- SYS_NOP echoes its first six parameters; SYS_INFO, SYS_STATUS and FW_INFO read their registers, and the digest of the running body.
FW_UPDATE over PCIe of a bad image answers the first check that fails, of a good one S_OK with version and digest and makes the store valid,
and while one runs S_BUSY; its first piece over MCTP in RECOVERY is held. FW_ACTIVATE of a valid store makes the restart due. WARDEN_RESTART
from a valid store runs it; else the part is in RECOVERY. Outside RECOVERY the boot mailbox does nothing; in it FW_INFO is answered in
BX_WDN_BOOT_RPL and another opcode is denied. Where a clause rests on a choice of the model and not on the spec, log entries 19 and 92 name
it. -/
def Obligations.WardenFirmwareAndSystemOpcodes : Prop :=
  (∀ (s : State) (c : Cap), c.isOp = true ∨ c.isTenant = true ∨ c.isMctp = true → Answers (.sysNop c) s (fun u => u.replied c 0x0001 S_OK
    (c.params.take 6) ∧ s.onlyReply u)) ∧
  (∀ (s : State) (c : Cap), c.isOp = true ∨ c.isTenant = true ∨ c.isMctp = true → Answers (.sysInfo c) s (fun u => u.replied c 0x0002 S_OK
    [s.readReg .BX_SYS_ID, s.rd BX_CNP_DEV_UID_DEV_UID, s.readReg .BX_WDN_FW_STS] ∧ s.onlyReply u)) ∧
  (∀ (s : State) (c : Cap), c.isOp = true → Answers (.sysStatus c) s (fun u => u.replied c 0x0003 S_OK [s.readReg .BX_EPC_STATE, s.readReg
    .TB_STS 1, s.readReg .BX_CNP_FAB_STS, s.readReg .BX_WDN_FW_STS, s.readReg .BX_RPL_STS, s.readReg .BX_CMT_STS] ∧ s.onlyReply u)) ∧
  (∀ (s : State) (c : Cap), c.isOp = true ∨ c.isMctp = true → Answers (.fwInfo c) s (fun u => u.replied c 0x0012 S_OK (s.readReg
    .BX_WDN_FW_STS :: digestWords (padTo 32 s.wdn.fw.runDigest)) ∧ s.onlyReply u)) ∧
  (∀ (s : State) (c : Cap), c.isOpPcie = true → 2 ≤ c.params.length → s.wdn.fw.updating.isSome = true → Answers (.fwUpdate c) s (fun u =>
    u.replied c 0x0010 S_BUSY [] ∧ s.onlyReply u)) ∧
  (∀ (s : State) (c : Cap) (st reason : Nat), c.isOpPcie = true → 2 ≤ c.params.length → s.wdn.fw.updating = none → s.fwCheck c.data (c.p 1)
    false = some (st, reason) → Answers (.fwUpdate c) s (fun u => u.replied c 0x0010 st [] ∧ u.wdn.fw = s.wdn.fw ∧ u.rd
    BX_WDN_FW_STS_STORE_VALID = s.rd BX_WDN_FW_STS_STORE_VALID)) ∧
  (∀ (s : State) (c : Cap), c.isOpPcie = true → 2 ≤ c.params.length → s.wdn.fw.updating = none → s.fwCheck c.data (c.p 1) false = none →
    sha256 (c.data.drop 256) = sliceBytes c.data 32 32 → Answers (.fwUpdate c) s (fun u => u.replied c 0x0010 S_OK (rdLe c.data 8 4 ::
    digestWords (sha256 (c.data.drop 256))) ∧ u.wdn.fw.image = c.data ∧ u.rd BX_WDN_FW_STS_STORE_VALID = 1)) ∧
  (∀ (s : State) (c : Cap), c.isMctp = true → s.recovery = true → 2 ≤ c.params.length → c.params.length ≤ 30 → c.p 0 = 0 → s.flag
    BX_WDN_FW_STS_STORE_VALID = false → Answers (.fwUpdate c) s (fun u => u.replied c 0x0010 S_OK [] ∧ u.wdn.fw.updating = some (wordBytes
    (c.params.drop 1)) ∧ u.wdn.fw.image = s.wdn.fw.image)) ∧
  (∀ (s : State) (c : Cap), c.isOpPcie = true → s.wdn.fw.updating = none → s.flag BX_WDN_FW_STS_STORE_VALID = true → Answers (.fwActivate
    c) s (fun u => u.replied c 0x0011 S_OK [] ∧ u.wdn.fw.restartDue = true ∧ u.regs = s.regs)) ∧
  (∀ (s : State) (c : Cap), c.isOpPcie = true → s.wdn.fw.updating = none → s.flag BX_WDN_FW_STS_STORE_VALID = false → Answers (.fwActivate
    c) s (fun u => u.replied c 0x0011 S_NOTNOW [] ∧ s.onlyReply u)) ∧
  (∀ (s : State), s.flag BX_WDN_FW_STS_STORE_VALID = false → Answers (.wardenRestart) s (fun u => u.rd BX_WDN_FW_STS_STATE = 3 ∧ u.rd
    BX_WDN_BOOT_STS_RECOVERY = 1 ∧ u.wdn.fw.restartDue = false)) ∧
  (∀ (s : State), s.flag BX_WDN_FW_STS_STORE_VALID = true → s.fwCheck s.wdn.fw.image (256 + rdLe s.wdn.fw.image 12 4) true = none → Answers
    (.wardenRestart) s (fun u => u.rd BX_WDN_FW_STS_STATE = 1 ∧ u.rd BX_WDN_FW_STS_VERSION = rdLe s.wdn.fw.image 8 4 % 2 ^ 32 ∧ u.rd
    BX_WDN_BOOT_STS_RECOVERY = 0 ∧ u.wdn.fw.restartDue = false ∧ (∀ g ∈ s.wdn.prog, s.wdn.fw.restartDue = true → g.cap.path ≠ 1 → s.replyDue
    g = false → ∃ r ∈ u.wdn.replies, r.cap = g.cap ∧ r.op = g.op ∧ r.status = S_TIMEOUT))) ∧
  (∀ (s : State), s.recovery = false → Answers (.bootMailboxGo) s (fun u => u = s)) ∧
  (∀ (s : State), s.recovery = true → s.flag BX_WDN_BOOT_STS_BUSY = false → bits (s.wdn.boot.getD 0 0) 63 48 = 0x0012 → bits
    (s.wdn.boot.getD 0 0) 23 16 = 0 → s.flag BX_WDN_FW_STS_STORE_VALID = false → Answers (.bootMailboxGo) s (fun u => u.rd
    BX_WDN_BOOT_STS_DONE = 1 ∧ u.wdn = s.wdn ∧ (∀ i < 8, u.rd BX_WDN_BOOT_RPL_RPL i = (leWords (replyBytes ⟨(mkCap 0 0 0 0 ((List.range
    8).map (fun i => s.wdn.boot.getD i 0)) [] []).2, 0x0012, S_OK, 0, [], none, s.rd BX_EPC_STATE_WATERMARK, s.flag BX_EPC_STATE_WM_VALID⟩ 0
    false 0 (s.readReg .BX_WDN_FW_STS :: digestWords (padTo 32 s.wdn.fw.runDigest)))).getD i 0 % 2 ^ 64))) ∧
  (∀ (s : State), s.recovery = true → s.flag BX_WDN_BOOT_STS_BUSY = false → bits (s.wdn.boot.getD 0 0) 63 48 ≠ 0x0010 → bits
    (s.wdn.boot.getD 0 0) 63 48 ≠ 0x0012 → s.flag BX_WDN_FW_STS_STORE_VALID = false → Answers (.bootMailboxGo) s (fun u => u.rd
    BX_WDN_BOOT_STS_DONE = 1 ∧ s.counted u BX_WDN_CNT0_DENIED 0 1 ∧ u.wdn = s.wdn))

/-- Where the part is not RETIRED: SYS_RESET WARM and COLD over PCIe, POWER_ON and RAIL_BELOW_MINIMUM raise BOOT by one, wipe the contexts,
memories and engines of BX64 (all that is kept of the epochs is that a generation was in force) and leave the ZX40 as it is; a cold one
(which awaits the rails) also the fences and the Warden, and every BX64 register field that Table 18-6 does not keep reads its reset value;
a warm one awaits the Clearing. SYS_RESET of a Stem or Canopy port returns that link end to reset and is answered S_OK, of a cluster it
wipes its four contexts; a bad index is S_BADPARAM. The hang dump, once taken, is held, and AUTO_RESET resets. Where a clause rests on a
choice of the model and not on the spec, log entries 23, 53, 92, 117 and 123 name it. -/
def Obligations.ResetsReturnThePart : Prop :=
  (∀ (s : State) (c : Cap), c.isOpPcie = true → 1 ≤ c.params.length → c.p 0 = 0 → s.up.lcNext = none → s.rd BX_PWR_STS_PSTATE ≠ 3 → s.rd
    BX_LC_STS_STATE ≠ 4 → Answers (.sysResetWarm c) s (fun u => u.up.phase = 4 ∧ u.rd BX_CNP_IDENT_BOOT = (s.rd BX_CNP_IDENT_BOOT + 1) % 2 ^
    32 ∧ u.red = { restarted := s.red.restarted || s.liveGen?.isSome } ∧ u.grv = {} ∧ u.cor = {} ∧ u.hbm = {} ∧ u.egs = {} ∧ u.zx = s.zx ∧
    u.gate.jobs = [] ∧ u.rd BX_LC_STS_STATE = s.rd BX_LC_STS_STATE ∧ (∀ (f : Fld) (i : Nat), zxKey (f.key i) = false → bxKeep .warm true
    (f.key i) = false → u.rd f i = resetOf f i))) ∧
  (∀ (s : State) (c : Cap), c.isOpPcie = true → 1 ≤ c.params.length → c.p 0 = 1 → s.rd BX_LC_STS_STATE ≠ 4 → Answers (.sysResetCold c) s
    (fun u => u.up.phase = 1 ∧ u.rd BX_CNP_IDENT_BOOT = (s.rd BX_CNP_IDENT_BOOT + 1) % 2 ^ 32 ∧ u.red = { restarted := s.red.restarted ||
    s.liveGen?.isSome } ∧ u.grv = {} ∧ u.cor = {} ∧ u.hbm = {} ∧ u.egs = {} ∧ u.zx = s.zx ∧ u.cnp = {} ∧ u.wdn = {} ∧ u.rpl = {} ∧ (∀ (f :
    Fld) (i : Nat), zxKey (f.key i) = false → bxKeep .cold false (f.key i) = false → u.rd f i = resetOf f i))) ∧
  (∀ (s : State) (c : Cap), c.isOpPcie = true → 1 ≤ c.params.length → c.p 0 = 1 → s.rd BX_LC_STS_STATE = 4 → Answers (.sysResetCold c) s
    (fun u => u.up.phase = 5)) ∧
  (∀ (s : State), s.rd BX_LC_STS_STATE ≠ 4 → Answers (.powerOn) s (fun u => u.up.phase = 1 ∧ u.rd BX_CNP_IDENT_BOOT = (s.rd
    BX_CNP_IDENT_BOOT + 1) % 2 ^ 32 ∧ u.red = { restarted := s.red.restarted || s.liveGen?.isSome } ∧ u.grv = {} ∧ u.cor = {} ∧ u.hbm = {} ∧
    u.egs = {} ∧ u.zx = s.zx ∧ u.cnp = {} ∧ u.wdn = {} ∧ u.rpl = {} ∧ (∀ (f : Fld) (i : Nat), zxKey (f.key i) = false → bxKeep .cold false
    (f.key i) = false → u.rd f i = resetOf f i))) ∧
  (∀ (s : State), s.rd BX_LC_STS_STATE ≠ 4 → s.up.phase ≠ 6 → Answers (.railBelowMinimum) s (fun u => u.up.phase = 1 ∧ u.rd
    BX_CNP_IDENT_BOOT = (s.rd BX_CNP_IDENT_BOOT + 1) % 2 ^ 32 ∧ u.red = { restarted := s.red.restarted || s.liveGen?.isSome } ∧ u.grv = {} ∧
    u.cor = {} ∧ u.hbm = {} ∧ u.egs = {} ∧ u.zx = s.zx ∧ u.cnp = {} ∧ u.wdn = {} ∧ u.rpl = {})) ∧
  (∀ (s : State), s.up.phase = 6 → Answers (.railBelowMinimum) s (fun u => u = s)) ∧
  (∀ (s : State) (c : Cap), c.isOpPcie = true → 1 ≤ c.params.length → c.p 0 = 2 → c.p 1 < 64 → Answers (.sysResetStemPort c) s (fun u =>
    u.answered c 0x0004 S_OK ∧ u.link (.stem (c.p 1)) = { lastChange := s.bxNs } ∧ u.rd BX_STM_PORT_CTRL_HOLD (c.p 1) = 0 ∧ u.cnp = s.cnp ∧
    u.red = s.red ∧ u.up = s.up)) ∧
  (∀ (s : State) (c : Cap), c.isOpPcie = true → 1 ≤ c.params.length → c.p 0 = 2 → 64 ≤ c.p 1 → Answers (.sysResetStemPort c) s (fun u =>
    u.replied c 0x0004 S_BADPARAM [] ∧ s.onlyReply u)) ∧
  (∀ (s : State) (c : Cap), c.isOpPcie = true → 1 ≤ c.params.length → c.p 0 = 3 → c.p 1 < 24 → Answers (.sysResetCanopyPort c) s (fun u =>
    u.answered c 0x0004 S_OK ∧ u.link (.canopy (c.p 1)) = { lastChange := s.bxNs } ∧ u.port (c.p 1) = {} ∧ u.rd BX_CNP_PORT_STS_PSTATE (c.p
    1) = 0 ∧ u.up = s.up)) ∧
  (∀ (s : State) (c : Cap), c.isOpPcie = true → 1 ≤ c.params.length → c.p 0 = 4 → c.p 1 < 4 → Answers (.sysResetCluster c) s (fun u =>
    u.answered c 0x0004 S_OK ∧ (∀ k < 4, u.rctx (4 * c.p 1 + k) = {}))) ∧
  (∀ (s : State) (br : List (Nat × Nat)) (late : List Nat), s.tap.dumpPend = none → Answers (.bxHangDumpHeld br late) s (fun u => u = s)) ∧
  (∀ (s : State) (br : List (Nat × Nat)) (late : List Nat) (at_ ca sq : Nat), s.tap.dumpPend = some (at_, ca, sq) → s.rd
    BX_TAP_CTRL_AUTO_RESET = 0 → Answers (.bxHangDumpHeld br late) s (fun u => u.rd BX_TAP_STS_DUMP_HELD = 1 ∧ u.rd BX_TAP_STS_DUMP_READ = 0
    ∧ u.tap.dumpPend = none ∧ u.tap.dump = dumpTimeouts (s.dumpWords at_ ca sq (late.filter (fun i => i < 0x3800 / 8)).length br)
    (late.filter (fun i => i < 0x3800 / 8)) ∧ u.up = s.up)) ∧
  (∀ (s : State) (br : List (Nat × Nat)) (late : List Nat) (at_ ca sq : Nat), s.tap.dumpPend = some (at_, ca, sq) → s.rd
    BX_TAP_CTRL_AUTO_RESET = 2 → s.rd BX_LC_STS_STATE ≠ 4 → Answers (.bxHangDumpHeld br late) s (fun u => u.rd BX_TAP_STS_DUMP_HELD = 1 ∧
    u.tap.dump = dumpTimeouts (s.dumpWords at_ ca sq (late.filter (fun i => i < 0x3800 / 8)).length br) (late.filter (fun i => i < 0x3800 /
    8)) ∧ u.up.phase = 1 ∧ u.red = { restarted := s.red.restarted || s.liveGen?.isSome } ∧ u.grv = {} ∧ u.cor = {} ∧ u.hbm = {} ∧ u.egs = {}
    ∧ u.zx = s.zx))

/-- Each step of bring-up that is done goes to the next; one that fails sets its fault bit and holds the part in reset, HBM training after one
further cold reset. The PCIe link comes up while the part is not held and not in P3. At the end of the Clearing each region has its
NEXT_SIZE, a life-cycle transition under way is completed and the part runs. A time limit that passes counts as the failure of its step; a
command of another step changes nothing. Power loss stops the part and leaves ZX40's state. Where a clause rests on a choice of the model
and not on the spec, log entries 4 and 93 name it. -/
def Obligations.BringUpGoesStepByStep : Prop :=
  (∀ (s : State), s.up.phase = 1 → Answers (.bringupRailsUp true) s (fun u => u.up = { s.up with phase := 2 } ∧ u.regs = s.regs)) ∧
  (∀ (s : State), s.up.phase = 1 → Answers (.bringupRailsUp false) s (fun u => u.up.phase = 5 ∧ u.rd BX_PWR_STS_RAIL_FAULT = 1)) ∧
  (∀ (s : State) (ok : Bool), s.up.phase ≠ 1 → Answers (.bringupRailsUp ok) s (fun u => u = s)) ∧
  (∀ (s : State), s.up.phase = 2 → Answers (.bringupPllLock true) s (fun u => u.up = { s.up with phase := 3 } ∧ u.regs = s.regs)) ∧
  (∀ (s : State), s.up.phase = 2 → Answers (.bringupPllLock false) s (fun u => u.up.phase = 5 ∧ u.rd BX_PWR_STS_CLOCK_FAULT = 1)) ∧
  (∀ (s : State), s.up.phase < 5 → s.rd BX_PWR_STS_PSTATE ≠ 3 → Answers (.pcieLinkUp) s (fun u => u.up = { s.up with pcie := true } ∧
    u.regs = s.regs)) ∧
  (∀ (s : State), s.rd BX_PWR_STS_PSTATE = 3 → Answers (.pcieLinkUp) s (fun u => u = s)) ∧
  (∀ (s : State), s.up.phase = 3 → Answers (.hbmTrainingDone true) s (fun u => u.up = { s.up with phase := 4 } ∧ u.regs = s.regs)) ∧
  (∀ (s : State), s.up.phase = 3 → s.up.retried = true → Answers (.hbmTrainingDone false) s (fun u => u.up.phase = 5 ∧ u.rd
    BX_PWR_STS_HBM_FAULT = 1)) ∧
  (∀ (s : State), s.up.phase = 3 → s.up.retried = false → s.rd BX_LC_STS_STATE ≠ 4 → Answers (.hbmTrainingDone false) s (fun u =>
    u.up.phase = 1 ∧ u.up.retried = true)) ∧
  (∀ (s : State), s.up.phase = 4 → s.up.lcNext = none → s.rd BX_LC_STS_STATE ≠ 4 → Answers (.clearingDone) s (fun u => u.up.phase = 0 ∧
    u.up.retried = false ∧ (∀ r < 6, u.rd BX_MEM_REGION_SIZE r = s.rd BX_MEM_REGION_NEXT_SIZE r % 2 ^ BX_MEM_REGION_SIZE.width) ∧ u.rd
    BX_LC_STS_STATE = s.rd BX_LC_STS_STATE)) ∧
  (∀ (s : State) (st key : Nat), s.up.phase = 4 → s.up.lcNext = some (st, key) → st < 4 → Answers (.clearingDone) s (fun u => u.up.phase =
    0 ∧ u.up.lcNext = none ∧ u.rd BX_LC_STS_STATE = st ∧ u.rd BX_LC_STS_TRANSITIONING = 0 ∧ u.tap.opKey = key)) ∧
  (∀ (s : State), s.up.phase ≠ 4 → Answers (.clearingDone) s (fun u => u = s)) ∧
  (∀ (s : State), s.up.phase = 1 → Answers (.bringupTimeout 1) s (fun u => u.up.phase = 5 ∧ u.rd BX_LC_STS_NVM_ERR = 1)) ∧
  (∀ (s : State), s.up.phase = 1 → Answers (.bringupTimeout 2) s (fun u => u.up.phase = 5 ∧ u.rd BX_PWR_STS_RAIL_FAULT = 1)) ∧
  (∀ (s : State), s.up.phase = 2 → Answers (.bringupTimeout 3) s (fun u => u.up.phase = 5 ∧ u.rd BX_PWR_STS_CLOCK_FAULT = 1)) ∧
  (∀ (s : State), s.up.phase = 3 ∨ s.up.phase = 4 → s.up.retried = true → Answers (.bringupTimeout 5) s (fun u => u.up.phase = 5 ∧ u.rd
    BX_PWR_STS_HBM_FAULT = 1)) ∧
  (∀ (s : State) (n : Nat), s.up.phase = 0 → Answers (.bringupTimeout n) s (fun u => u = s)) ∧
  (∀ (s : State), Answers (.powerLoss) s (fun u => u.up = { phase := 6 } ∧ u.gate = {} ∧ u.red = { restarted := s.red.restarted ||
    s.liveGen?.isSome } ∧ u.hbm = {} ∧ u.zx = s.zx))

/-- Outside P3 POWER_SET goes to P0 or P1 at once, to P2 when no job runs (else it waits for P2_ENTRY), to P3 when the BX64 has no role in the
tree; with a role it is S_CONFLICT, over 3 S_BADPARAM, during an update or a transition S_BUSY; in P3 it does nothing. Above LIMIT_W xclk
falls by one sixteenth. LC_TRANSITION to a state not permitted is S_BADPARAM, during one S_BUSY, not authorized S_DENIED; an authorized one
begins with a warm reset. A detection of mechanism 0x0C01, 0x0D01, 0x4002 or 0x4006 has its reaction, one in BX64 is counted with its code;
a latent test that passes changes nothing. Where a clause rests on a choice of the model and not on the spec, log entries 24, 93 and 94 name
it. -/
def Obligations.PowerStatesLifeCycleAndDetections : Prop :=
  (∀ (s : State) (c : Cap), s.rd BX_PWR_STS_PSTATE ≠ 3 → c.isOp = true → 1 ≤ c.params.length → c.p 0 ≤ 1 → s.wdn.fw.updating = none →
    s.flag BX_LC_STS_TRANSITIONING = false → Answers (.powerSet c) s (fun u => u.replied c 0x0005 S_OK [] ∧ u.rd BX_PWR_STS_PSTATE = c.p 0 ∧
    u.up.p2Wait = none ∧ u.rpl = s.rpl)) ∧
  (∀ (s : State) (c : Cap), s.rd BX_PWR_STS_PSTATE ≠ 3 → c.isOp = true → 1 ≤ c.params.length → c.p 0 = 2 → s.jobsRun = false →
    s.wdn.fw.updating = none → s.flag BX_LC_STS_TRANSITIONING = false → Answers (.powerSet c) s (fun u => u.replied c 0x0005 S_OK [] ∧ u.rd
    BX_PWR_STS_PSTATE = 2 ∧ u.rpl.ctxs = [])) ∧
  (∀ (s : State) (c : Cap), s.rd BX_PWR_STS_PSTATE ≠ 3 → c.isOp = true → 1 ≤ c.params.length → c.p 0 = 2 → s.jobsRun = true →
    s.wdn.fw.updating = none → s.flag BX_LC_STS_TRANSITIONING = false → Answers (.powerSet c) s (fun u => u.up.p2Wait = some c ∧ { u with up
    := s.up } = s)) ∧
  (∀ (s : State) (c : Cap), s.rd BX_PWR_STS_PSTATE ≠ 3 → c.isOp = true → 1 ≤ c.params.length → c.p 0 = 3 → s.rd BX_CNP_FAB_STS_ROLE = 0 →
    s.wdn.fw.updating = none → s.flag BX_LC_STS_TRANSITIONING = false → Answers (.powerSet c) s (fun u => u.rd BX_PWR_STS_PSTATE = 3 ∧
    u.up.pcie = false)) ∧
  (∀ (s : State) (c : Cap), s.rd BX_PWR_STS_PSTATE ≠ 3 → c.isOp = true → 1 ≤ c.params.length → c.p 0 = 3 → s.rd BX_CNP_FAB_STS_ROLE ≠ 0 →
    Answers (.powerSet c) s (fun u => u.replied c 0x0005 S_CONFLICT [] ∧ s.onlyReply u)) ∧
  (∀ (s : State) (c : Cap), s.rd BX_PWR_STS_PSTATE ≠ 3 → c.isOp = true → 1 ≤ c.params.length → c.p 0 ≤ 2 → s.flag BX_LC_STS_TRANSITIONING =
    true → Answers (.powerSet c) s (fun u => u.replied c 0x0005 S_BUSY [] ∧ s.onlyReply u)) ∧
  (∀ (s : State) (c : Cap), s.rd BX_PWR_STS_PSTATE ≠ 3 → c.isOp = true → 1 ≤ c.params.length → 3 < c.p 0 → Answers (.powerSet c) s (fun u
    => u.replied c 0x0005 S_BADPARAM [] ∧ s.onlyReply u)) ∧
  (∀ (s : State) (c : Cap), s.rd BX_PWR_STS_PSTATE = 3 → Answers (.powerSet c) s (fun u => u = s)) ∧
  (∀ (s : State) (c : Cap), s.up.p2Wait = some c → s.jobsRun = false → Answers (.p2Entry) s (fun u => u.replied c 0x0005 S_OK [] ∧ u.rd
    BX_PWR_STS_PSTATE = 2 ∧ u.rpl.ctxs = [] ∧ u.up.p2Wait = none)) ∧
  (∀ (s : State), s.up.p2Wait = none ∨ s.jobsRun = true → Answers (.p2Entry) s (fun u => u = s)) ∧
  (∀ (s : State) (w : Nat), s.rd BX_PWR_LIMIT_LIMIT_W < w → s.up.xclk ≤ 16 → 1 ≤ s.up.xclk → Answers (.powerThrottle w) s (fun u =>
    u.up.xclk = s.up.xclk - 1 ∧ u.rd BX_PWR_STS_THROTTLE = 1 ∧ u.rd BX_PWR_STS_POWER_W = min w 65535 ∧ s.counted u BX_PWR_STS_THROTTLE_MS 0
    1)) ∧
  (∀ (s : State) (w : Nat), w ≤ s.rd BX_PWR_LIMIT_LIMIT_W → 15 ≤ s.up.xclk → Answers (.powerThrottle w) s (fun u => u.up.xclk = 16 ∧ u.rd
    BX_PWR_STS_THROTTLE = 0 ∧ u.rd BX_PWR_STS_POWER_W = min w 65535)) ∧
  (∀ (s : State) (c : Cap), c.isOp = true ∨ c.isMctp = true → Answers (.lcStatus c) s (fun u => u.replied c 0x0A01 S_OK [s.readReg
    .BX_LC_STS] ∧ s.onlyReply u)) ∧
  (∀ (s : State) (c : Cap), c.isOpPcie = true → 2 ≤ c.params.length → lcCommand (s.rd BX_LC_STS_STATE) (c.p 0) = none → Answers
    (.lcTransition c) s (fun u => u.replied c 0x0A02 S_BADPARAM [] ∧ s.onlyReply u)) ∧
  (∀ (s : State) (c : Cap), c.isOpPcie = true → 2 ≤ c.params.length → (lcCommand (s.rd BX_LC_STS_STATE) (c.p 0)).isSome = true → s.flag
    BX_LC_STS_TRANSITIONING = true → Answers (.lcTransition c) s (fun u => u.replied c 0x0A02 S_BUSY [] ∧ s.onlyReply u)) ∧
  (∀ (s : State) (c : Cap) (cmd : Nat), c.isOpPcie = true → 2 ≤ c.params.length → lcCommand (s.rd BX_LC_STS_STATE) (c.p 0) = some cmd →
    s.flag BX_LC_STS_TRANSITIONING = false → rdLe c.data 0 4 ≠ 0x48545541 → Answers (.lcTransition c) s (fun u => u.replied c 0x0A02
    S_DENIED [] ∧ u.rd BX_LC_STS_STATE = s.rd BX_LC_STS_STATE)) ∧
  (∀ (s : State) (c : Cap) (cmd : Nat), c.isOpPcie = true → 2 ≤ c.params.length → lcCommand (s.rd BX_LC_STS_STATE) (c.p 0) = some cmd → cmd
    ≠ 0x0010 → cmd ≠ 0x0016 → s.flag BX_LC_STS_TRANSITIONING = false → (s.authorized cmd c.data).1 = true → Answers (.lcTransition c) s (fun
    u => u.rd BX_LC_STS_TRANSITIONING = 1 ∧ u.up.phase = 4 ∧ u.up.lcNext.map (fun x => x.1) = some (c.p 0) ∧ u.rd BX_LC_STS_STATE = s.rd
    BX_LC_STS_STATE)) ∧
  (∀ (s : State) (i : Nat) (a : List Nat) (d : Option Nat) (j g : Bool), Answers (.safetyDetection 0x0C01 i a d j g) s (fun u => i ∈
    u.egs.stuck ∧ s.counted u BX_SAF_STS_DETECTIONS 0 1 ∧ u.rd BX_SAF_STS_LAST_CODE = 0x0C01 ∧ u.rd BX_SAF_STS_DEGRADED = (if g then 1 else
    s.rd BX_SAF_STS_DEGRADED))) ∧
  (∀ (s : State) (i : Nat) (a : List Nat) (d : Option Nat) (j g : Bool), Answers (.safetyDetection 0x0D01 i a d j g) s (fun u =>
    u.bxTb.state = .unlocked ∧ s.counted u BX_SAF_STS_DETECTIONS 0 1 ∧ s.counted u TB_STS_LOCK_LOSSES 1 1)) ∧
  (∀ (s : State) (i n : Nat) (a : List Nat) (d : Option Nat) (j g : Bool), Answers (.safetyDetection 0x4002 i (n :: a) d j g) s (fun u =>
    (∀ e ∈ u.zx.log, e.epoch ≠ n) ∧ n ∉ u.zx.unsent ∧ s.rd BX_SAF_STS_DETECTIONS = u.rd BX_SAF_STS_DETECTIONS)) ∧
  (∀ (s : State) (i : Nat) (a : List Nat) (d : Option Nat) (j g : Bool), Answers (.safetyDetection 0x4006 i a d j g) s (fun u => u.rd
    ZX_GRS_RESULT_VALID = 0 ∧ { u with regs := s.regs } = s)) ∧
  (∀ (s : State) (code i : Nat) (a : List Nat) (g : Bool), Answers (.latentTest code i a true g) s (fun u => u = s)) ∧
  (∀ (s : State) (i : Nat) (a : List Nat) (g : Bool), Answers (.latentTest 0x0C01 i a false g) s (fun u => i ∈ u.egs.stuck ∧ s.counted u
    BX_SAF_STS_LATENT_FAILS 0 1))

/-- For every command and state: a step of the state with that command in front of a queue is the command's execution on the state with the
queue's rest. With no command waiting a step is one tick: each timebase that runs advances by its increment, a ZX40 whose timebase stands is
as before, and so are the registers, the Warden and HBM. A command that a table word spells would be put in front; no word spells one, since
the table gives no bits. The queue is the model's (log entry 1), the tick on an empty queue log entry 3. -/
def Obligations.AStepRunsTheFirstWaitingCommand : Prop :=
  (∀ (c : Instr) (s : State) (rest : List Instr), step { s with pending := c :: rest } = exec c { s with pending := rest }) ∧
  (∀ s : State, s.pending = [] → ∃ t, step s = .next t ∧ t.pending = [] ∧ t.regs = s.regs ∧ t.wdn = s.wdn ∧ t.hbm = s.hbm ∧
    (s.bxTicks = true → t.bxTb.count = (s.bxTb.count + s.bxTb.inc) % 2 ^ 96) ∧ (s.bxTicks = false → t.bxTb = s.bxTb) ∧
    (s.zxTicks = true → t.zx.tb.count = (s.zx.tb.count + s.zx.tb.inc) % 2 ^ 96) ∧ (s.zxTicks = false → t.zx = s.zx)) ∧
  (∀ (s : State) (nbits w : Nat), s.withFetchWord nbits w = s)

/-- For every command and every state, reachable or not: execution answers a next state (no fault, no refusal), whose queue of waiting commands
is the one before, whose outputs are the outputs before followed by new ones, and whose counter of drawn free values has not gone back. No
partner's violation stops the machine (R512). Where a clause rests on a choice of the model and not on the spec, log entry 76 names it. -/
def Obligations.EveryCommandCompletesAndKeepsTheQueue : Prop :=
  ∀ (i : Instr) (s : State), ∃ t, exec i s = .next t ∧ t.pending = s.pending ∧ s.out <+: t.out ∧ s.fresh ≤ t.fresh

/-- For every state s whose HBM bytes are listed in strictly rising order with no zero listed and whose register fields are listed in strictly
rising order: if a step answers next t, then t has the same form. So equal contents of HBM and of the registers are equal data after any
number of steps. The form itself is the model's. -/
def Obligations.EveryStepKeepsTheCanonicalForm : Prop :=
  ∀ s t : State, s.Inv → step s = .next t → t.Inv

/-- State.reset meets the invariant that every step keeps; no command waits in it, HBM lists nothing, and every register field of every index
reads the reset value of its table. Where a clause rests on a choice of the model and not on the spec, log entries 2, 4 and 5 name it. -/
def Obligations.ResetHasTheCanonicalForm : Prop :=
  State.reset.Inv ∧ State.reset.pending = [] ∧ State.reset.hbm.cells = [] ∧ ∀ (f : Fld) (i : Nat), State.reset.rd f i = resetOf f i

/-- Whole-machine frames. A command outside the list changesHbm leaves all of HBM as it is, its tables and regions included; one outside
changesGate the jobs, steps and ledgers of the commit gate; one outside changesPower what bring-up and the power states keep; one outside
changesQueues every queue of chapter 4; one outside changesEgress the shapers. Each list names the commands of Table rows one by one. -/
def Obligations.StoresAreChangedOnlyByTheirCommands : Prop :=
  ∀ (i : Instr) (s t : State), exec i s = .next t →
    (i.changesHbm = false → t.hbm = s.hbm) ∧ (i.changesGate = false → t.gate = s.gate) ∧ (i.changesPower = false → t.up = s.up) ∧
    (i.changesQueues = false → t.queues = s.queues) ∧ (i.changesEgress = false → t.egs = s.egs)

/-- For every command outside the list changesZx (70 commands: those at the die, what the Stem link delivers to it, and accesses to its
registers): whatever else it does at BX64, the ZX40's state is afterwards what it was before. The two parts share nothing but what links and
pins carry. -/
def Obligations.Zx40IsChangedOnlyByItsCommands : Prop :=
  ∀ (i : Instr) (s t : State), i.changesZx = false → exec i s = .next t → t.zx = s.zx

/-- For every capsule, of any origin and with any parameters, and every state: each of the thirty opcodes listed answers a next state in which
only the list of formed replies and the two counter registers of the Warden may differ: every other register field, all memory, every link
and the rest of the Warden are as before. -/
def Obligations.StatusOpcodesOnlyRead : Prop :=
  ∀ (s : State) (c : Cap), 
    Reads (.epochStatus c) s ∧ Reads (.cfgStatus c) s ∧ Reads (.timeStatus c) s ∧ 
    Reads (.groveInfo c) s ∧ Reads (.groveScoreRead c) s ∧ Reads (.groveGrsImage c) s ∧ 
    Reads (.lagRead c) s ∧ Reads (.driftRead c) s ∧ Reads (.suspectRead c) s ∧ 
    Reads (.lookoutStatus c) s ∧ Reads (.apdInfo c) s ∧ Reads (.replayStatus c) s ∧ 
    Reads (.replayGen c) s ∧ Reads (.commitStatus c) s ∧ Reads (.ledgerRead c) s ∧ 
    Reads (.ledgerHead c) s ∧ Reads (.canopyTopoRead c) s ∧ Reads (.fabricStatus c) s ∧ 
    Reads (.xlateProbe c) s ∧ Reads (.dmaStatus c) s ∧ Reads (.traceStoreStatus c) s ∧ 
    Reads (.shaperRead c) s ∧ Reads (.gateStatus c) s ∧ Reads (.sysNop c) s ∧ 
    Reads (.sysInfo c) s ∧ Reads (.sysStatus c) s ∧ Reads (.fwInfo c) s ∧ 
    Reads (.safetyStatus c) s ∧ Reads (.lcStatus c) s ∧ Reads (.wtStatus c) s

/-- For every state and capsule: each opcode of Table 14-11 and of Table 15-3 from an origin other than the operator is answered S_DENIED and
does nothing else; from the operator it is accepted, that is, answered with another status (but DMA_CH_SET of a system channel, which Table
14-11 denies). DMA_RESUME on a channel not in HALTED is answered S_CONFLICT and does nothing else; on a HALTED channel it is answered S_OK,
and with RETRY the channel is in RUN. -/
def Obligations.MemoryAndSchedulerOpcodesAreTheOperators : Prop :=
  (∀ (s : State) (c : Cap), c.isOp = false →
    Denies (.memLayoutSet c) s c 0x0701 ∧ Denies (.memPartitionSet c) s c 0x0702 ∧ Denies (.xlateInval c) s c 0x0703 ∧
    Denies (.xlateProbe c) s c 0x0704 ∧ Denies (.dmaChSet c) s c 0x0705 ∧ Denies (.dmaResume c) s c 0x0706 ∧
    Denies (.dmaStatus c) s c 0x0707 ∧ Denies (.traceStoreSet c) s c 0x0520 ∧ Denies (.traceStoreStatus c) s c 0x0521 ∧
    Denies (.shaperSet c) s c 0x0801 ∧ Denies (.shaperClearDebt c) s c 0x0802 ∧ Denies (.shaperRead c) s c 0x0803 ∧
    Denies (.gateSet c) s c 0x0804 ∧ Denies (.gateStatus c) s c 0x0805) ∧
  (∀ (s : State) (c : Cap), c.isOp = true →
    Accepts (.memLayoutSet c) s c 0x0701 ∧ Accepts (.memPartitionSet c) s c 0x0702 ∧ Accepts (.xlateInval c) s c 0x0703 ∧
    Accepts (.xlateProbe c) s c 0x0704 ∧ (c.p 0 < 120 → Accepts (.dmaChSet c) s c 0x0705) ∧ Accepts (.dmaResume c) s c 0x0706 ∧
    Accepts (.dmaStatus c) s c 0x0707 ∧ Accepts (.traceStoreSet c) s c 0x0520 ∧ Accepts (.traceStoreStatus c) s c 0x0521 ∧
    Accepts (.shaperSet c) s c 0x0801 ∧ Accepts (.shaperClearDebt c) s c 0x0802 ∧ Accepts (.shaperRead c) s c 0x0803 ∧
    Accepts (.gateSet c) s c 0x0804 ∧ Accepts (.gateStatus c) s c 0x0805) ∧
  (∀ (s : State) (c : Cap), c.isOp = true → 2 ≤ c.params.length → c.p 0 < 128 → c.p 1 ≤ 1 → s.rd BX_DMA_CH_STS_STATE (c.p 0) ≠ 2 →
    Answers (.dmaResume c) s (fun u => u.replied c 0x0706 S_CONFLICT [] ∧ { u with wdn := s.wdn } = s)) ∧
  (∀ (s : State) (c : Cap), c.isOp = true → 2 ≤ c.params.length → c.p 0 < 128 → c.p 1 ≤ 1 → s.rd BX_DMA_CH_STS_STATE (c.p 0) = 2 →
    Answers (.dmaResume c) s (fun u => u.answered c 0x0706 S_OK ∧ (c.p 1 = 0 → u.rd BX_DMA_CH_STS_STATE (c.p 0) = 1)))

/-- For every state and every capsule that came from a tenant over PCIe, whatever it holds: each of the 72 operator opcodes listed (beside those
of Tables 14-11 and 15-3, stated on their own) answers S_DENIED, DENIED counts one, and nothing but the reply and that counter changes. A
tenant so changes nothing of the machine with them. -/
def Obligations.OperatorOpcodesAreDeniedToTenants : Prop :=
  ∀ (s : State) (c : Cap), c.isTenant = true →
    Denies (.epochStatus c) s c 0x0202 ∧ (∀ a, Denies (.cfgStage c a) s c 0x0203) ∧ Denies (.cfgApplyAt c) s c 0x0204 ∧
    Denies (.cfgAbort c) s c 0x0205 ∧ Denies (.cfgStatus c) s c 0x0206 ∧ Denies (.trcTrigger c) s c 0x0510 ∧
    Denies (.trcRelease c) s c 0x0511 ∧ Denies (.hangDeclare c) s c 0x0512 ∧ Denies (.hangRelease c) s c 0x0513 ∧
    Denies (.logResend c) s c 0x0514 ∧ Denies (.stemPortCtrl c) s c 0x0610 ∧ Denies (.resync c) s c 0x0103 ∧
    Denies (.timeSrcSet c) s c 0x0102 ∧ Denies (.timeStatus c) s c 0x0104 ∧ Denies (.ppsSet c) s c 0x0105 ∧
    Denies (.groveLoad c) s c 0x0301 ∧ Denies (.groveUnload c) s c 0x0302 ∧ Denies (.groveInfo c) s c 0x0303 ∧
    (∀ a, Denies (.groveEval c a) s c 0x0304) ∧ (∀ a, Denies (.grovePeerBind c a) s c 0x0305) ∧ Denies (.groveScoreRead c) s c 0x0306 ∧
    Denies (.groveGrsImage c) s c 0x0307 ∧ Denies (.groveGrsRefresh c) s c 0x0308 ∧ Denies (.lagRead c) s c 0x0221 ∧
    Denies (.driftRead c) s c 0x0222 ∧ Denies (.suspectRead c) s c 0x0223 ∧ Denies (.suspectClear c) s c 0x0224 ∧
    Denies (.lookoutAdmit c) s c 0x0621 ∧ Denies (.lookoutStatus c) s c 0x0622 ∧ Denies (.dieFence c) s c 0x0624 ∧
    Denies (.testRequest c) s c 0x0920 ∧ Denies (.testStart c) s c 0x0921 ∧ Denies (.testResult c) s c 0x0922 ∧
    Denies (.testCancel c) s c 0x0923 ∧ Denies (.apdLoad c) s c 0x0401 ∧ Denies (.apdUnload c) s c 0x0402 ∧
    Denies (.apdInfo c) s c 0x0403 ∧ Denies (.replayRun c) s c 0x0404 ∧ Denies (.replayCancel c) s c 0x0405 ∧
    Denies (.replayStatus c) s c 0x0406 ∧ Denies (.replayUnit c) s c 0x0407 ∧ Denies (.replayGen c) s c 0x0408 ∧
    Denies (.replayCrosscheck c) s c 0x0409 ∧ Denies (.jobOpen c) s c 0x0412 ∧ Denies (.placementMigrate c) s c 0x0413 ∧
    Denies (.peerDeclare c) s c 0x0607 ∧ Denies (.firebreakFence c) s c 0x0604 ∧ Denies (.firebreakClear c) s c 0x0605 ∧
    Denies (.canopyIdentSet c) s c 0x0601 ∧ Denies (.canopyPortCtrl c) s c 0x0602 ∧ Denies (.canopyTopoRead c) s c 0x0603 ∧
    Denies (.fabricStatus c) s c 0x0606 ∧ Denies (.sysStatus c) s c 0x0003 ∧ Denies (.sysResetWarm c) s c 0x0004 ∧
    Denies (.sysResetCold c) s c 0x0004 ∧ Denies (.sysResetStemPort c) s c 0x0004 ∧ Denies (.sysResetCanopyPort c) s c 0x0004 ∧
    Denies (.sysResetCluster c) s c 0x0004 ∧ Denies (.fwUpdate c) s c 0x0010 ∧ Denies (.fwActivate c) s c 0x0011 ∧
    Denies (.fwInfo c) s c 0x0012 ∧ Denies (.zxRegRead c) s c 0x0501 ∧ Denies (.zxRegWrite c) s c 0x0502 ∧
    Denies (.hwRead c) s c 0x0901 ∧ Denies (.hwClear c) s c 0x0902 ∧ Denies (.safetyStatus c) s c 0x0903 ∧
    Denies (.hangDumpRead c) s c 0x0904 ∧ Denies (.lcStatus c) s c 0x0A01 ∧ Denies (.lcTransition c) s c 0x0A02 ∧
    Denies (.wtArm c) s c 0x0F01 ∧ Denies (.wtDisarm c) s c 0x0F02 ∧ Denies (.wtStatus c) s c 0x0F03

/-- For each of the five life-cycle states and every capsule of the operator over PCIe with its two parameters, the block read through its DMA
pointer, or of board management over MCTP with DMA pointer 0, the block in its parameter block, no transition running: a target that Table
18-10 does not give for the state is answered S_BADPARAM and changes nothing; for one it gives, an authorization block of another COMMAND is
answered S_DENIED and leaves the state; a block that R507 accepts under the COMMAND of the table begins the transition (PROVISION with a key
that matches its ARG), or, for ZX40_RETURN of a local die, is answered S_OK. -/
def Obligations.LifeCycleTransitionsAreThoseOfTheTable : Prop :=
  ∀ (s : State) (c : Cap) (blk : Bytes), s.rd BX_LC_STS_STATE ≤ 4 → (c.isOpPcie = true ∧ blk = c.data ∨ c.isMctp = true ∧ c.p 1 = 0 ∧ blk = wordBytes (c.params.drop 2)) →
    2 ≤ c.params.length → s.flag BX_LC_STS_TRANSITIONING = false →
    ((∀ cmd, (s.rd BX_LC_STS_STATE, c.p 0, cmd) ∉ [(0, 1, 0x0010), (1, 2, 0x0011), (2, 1, 0x0012), (1, 3, 0x0013), (2, 3, 0x0013), (3, 0, 0x0014), (0, 4, 0x0015), (1, 4, 0x0015), (2, 4, 0x0015), (3, 4, 0x0015), (2, 2, 0x0016)]) →
      Answers (.lcTransition c) s (fun u => u.replied c 0x0A02 S_BADPARAM [] ∧ { u with wdn := s.wdn } = s)) ∧
    (∀ cmd, (s.rd BX_LC_STS_STATE, c.p 0, cmd) ∈ [(0, 1, 0x0010), (1, 2, 0x0011), (2, 1, 0x0012), (1, 3, 0x0013), (2, 3, 0x0013), (3, 0, 0x0014), (0, 4, 0x0015), (1, 4, 0x0015), (2, 4, 0x0015), (3, 4, 0x0015), (2, 2, 0x0016)] →
      (rdLe blk 4 2 ≠ cmd →
        Answers (.lcTransition c) s (fun u => u.replied c 0x0A02 S_DENIED [] ∧ u.rd BX_LC_STS_STATE = s.rd BX_LC_STS_STATE ∧ u.up = s.up)) ∧
      ((s.authorized cmd blk).1 = true → cmd ≠ 0x0016 →
        (cmd = 0x0010 → sliceBytes blk 32 8 = (sha256 (sliceBytes blk 128 64)).take 8) →
        Answers (.lcTransition c) s (fun u => u.up.lcNext.map (fun x => x.1) = some (c.p 0) ∧ u.rd BX_LC_STS_TRANSITIONING = 1)) ∧
      ((s.authorized cmd blk).1 = true → cmd = 0x0016 → (s.localDie? (rdLe blk 32 8)).isSome = true →
        Answers (.lcTransition c) s (fun u => u.replied c 0x0A02 S_OK [] ∧ u.up = s.up)))

/-- Whole-machine rules over every command and every state: the life-cycle state of BX64 is after the command what it was before, unless the
command is the end of the Clearing with a transition under way; so a RETIRED part stays RETIRED under every command that begins with none
under way. BX_SAF_STS.DEGRADED, once 1, stays 1 unless the command is one after which a cold reset follows; and a detection at BX64 that
cannot remove the faulty unit sets it, unless it is the rail monitor's, whose reaction is a cold reset. -/
def Obligations.SafetyStateOutlivesEveryOtherCommand : Prop :=
  (∀ (i : Instr) (s t : State), exec i s = .next t →
    (t.rd BX_LC_STS_STATE = s.rd BX_LC_STS_STATE ∨ i = .clearingDone ∧ s.up.phase = 4 ∧ s.up.lcNext.isSome = true) ∧
    (s.rd BX_SAF_STS_DEGRADED = 1 → i.coldResets = false → t.rd BX_SAF_STS_DEGRADED = 1)) ∧
  (∀ (s : State) (code idx : Nat) (args : List Nat) (die : Option Nat) (inj : Bool), code / 256 ≠ 0x40 → code ≠ 0x1302 →
    Answers (.safetyDetection code idx args die inj true) s (fun u => u.rd BX_SAF_STS_DEGRADED = 1))
end

