-- ==== Sys2Proof/Laws/Crc.lean ====
section
/-! SUPPORT. A CRC-32C has 32 bits. -/
namespace Sys2Proof.Machine

/-- One shift of a reflected CRC register keeps its width. -/
theorem crcStep_lt {poly c : Nat} (hp : poly < 2 ^ 32) (hc : c < 2 ^ 32) : (if c % 2 = 1 then (c >>> 1) ^^^ poly else c >>> 1) < 2 ^ 32 := by
  have h : c >>> 1 < 2 ^ 32 := by rw [Nat.shiftRight_eq_div_pow]; omega
  split
  · exact Nat.xor_lt_two_pow h hp
  · exact h

theorem crcSteps_lt {poly : Nat} (hp : poly < 2 ^ 32) (l : List Nat) :
    ∀ c, c < 2 ^ 32 → l.foldl (fun c _ => if c % 2 = 1 then (c >>> 1) ^^^ poly else c >>> 1) c < 2 ^ 32 := by
  induction l with
  | nil => intro c hc; exact hc
  | cons _ t ih => intro c hc; exact ih _ (crcStep_lt hp hc)

theorem crcRefByte_lt {poly c : Nat} (b : Byte) (hp : poly < 2 ^ 32) (hc : c < 2 ^ 32) : crcRefByte poly c b < 2 ^ 32 := by
  apply crcSteps_lt hp
  apply Nat.xor_lt_two_pow hc
  have := b.isLt; omega

theorem crcBytes_lt {poly : Nat} (hp : poly < 2 ^ 32) (bs : Bytes) : ∀ c, c < 2 ^ 32 → bs.foldl (crcRefByte poly) c < 2 ^ 32 := by
  induction bs with
  | nil => intro c hc; exact hc
  | cons b t ih => intro c hc; exact ih _ (crcRefByte_lt b hp hc)

/-- A CRC-32C is below 2^32. -/
theorem crc32c_lt (bs : Bytes) : crc32c bs < 2 ^ 32 := by
  apply Nat.xor_lt_two_pow
  · exact crcBytes_lt (by decide) bs _ (by decide)
  · decide

end Sys2Proof.Machine
end

