-- ==== Sys2Proof/Laws/Memory.lean ====
section
/-! SUPPORT. The laws of HBM's bytes: a read after a write, and that every memory operation keeps the canonical form. -/
namespace Sys2Proof.Machine

theorem cellsWf_mono {a b : Nat} (h : a ≤ b) (m : List Host.Cell) (hm : cellsWf b m = true) : cellsWf a m = true := by
  cases m with
  | nil => rfl
  | cons e t =>
    simp only [cellsWf, Bool.and_eq_true, decide_eq_true_eq] at hm ⊢
    exact ⟨⟨by omega, hm.1.2⟩, hm.2⟩

/-- A write keeps the canonical form. -/
theorem cellSet_wf (m : List Host.Cell) (lo a : Nat) (b : Byte) (hm : cellsWf lo m = true) (h : lo ≤ a) :
    cellsWf lo (cellSet m a b) = true := by
  induction m generalizing lo with
  | nil =>
    by_cases hb : b = 0#8
    · simp [cellSet, hb, cellsWf]
    · simp [cellSet, hb, cellsWf, h]
  | cons e t ih =>
    obtain ⟨j, v⟩ := e
    simp only [cellsWf, Bool.and_eq_true, decide_eq_true_eq] at hm
    unfold cellSet
    split
    · next h1 =>
      split
      · simp only [cellsWf, Bool.and_eq_true, decide_eq_true_eq]; exact hm
      · next hb =>
        simp only [cellsWf, Bool.and_eq_true, decide_eq_true_eq, bne_iff_ne]
        exact ⟨⟨h, hb⟩, ⟨by omega, by simpa using hm.1.2⟩, hm.2⟩
    · split
      · next h1 h2 =>
        subst h2
        split
        · exact cellsWf_mono (by omega) _ hm.2
        · next hb =>
          simp only [cellsWf, Bool.and_eq_true, decide_eq_true_eq, bne_iff_ne]
          exact ⟨⟨h, hb⟩, hm.2⟩
      · next h1 h2 =>
        simp only [cellsWf, Bool.and_eq_true, decide_eq_true_eq]
        exact ⟨hm.1, ih _ hm.2 (by omega)⟩

/-- A run of bytes written keeps the canonical form. -/
theorem cellsWrite_wf (m : List Host.Cell) (a : Nat) (bs : Bytes) (hm : Memory.wf m = true) : Memory.wf (cellsWrite m a bs) = true := by
  induction bs generalizing m a with
  | nil => exact hm
  | cons b t ih => exact ih _ _ (cellSet_wf m 0 a b hm (Nat.zero_le _))

theorem cellsFilter_wf (p : Host.Cell → Bool) (m : List Host.Cell) (lo : Nat) (hm : cellsWf lo m = true) :
    cellsWf lo (m.filter p) = true := by
  induction m generalizing lo with
  | nil => rfl
  | cons e t ih =>
    obtain ⟨j, v⟩ := e
    simp only [cellsWf, Bool.and_eq_true, decide_eq_true_eq] at hm
    by_cases h : p (j, v)
    · simp only [List.filter, h, cellsWf, Bool.and_eq_true, decide_eq_true_eq]
      exact ⟨hm.1, ih _ hm.2⟩
    · simp only [List.filter, h]
      exact cellsWf_mono (by omega) _ (ih _ hm.2)

/-- A wipe keeps the canonical form. -/
theorem cellsWipe_wf (m : List Host.Cell) (a n : Nat) (hm : Memory.wf m = true) : Memory.wf (cellsWipe m a n) = true :=
  cellsFilter_wf _ m 0 hm

theorem cellGet_below (m : List Host.Cell) (lo a : Nat) (hm : cellsWf lo m = true) (h : a < lo) : cellGet m a = 0 := by
  cases m with
  | nil => rfl
  | cons e t =>
    obtain ⟨j, v⟩ := e
    simp only [cellsWf, Bool.and_eq_true, decide_eq_true_eq] at hm
    unfold cellGet
    rw [if_neg (by omega), if_pos (by omega)]

/-- A read of the byte written gives it. -/
theorem cellGet_set_same (m : List Host.Cell) (lo a : Nat) (b : Byte) (hm : cellsWf lo m = true) : cellGet (cellSet m a b) a = b := by
  induction m generalizing lo with
  | nil => by_cases hb : b = 0#8 <;> simp [cellSet, hb, cellGet]
  | cons e t ih =>
    obtain ⟨j, v⟩ := e
    simp only [cellsWf, Bool.and_eq_true, decide_eq_true_eq] at hm
    unfold cellSet
    split
    · next h1 =>
      split
      · next hb => subst hb; unfold cellGet; rw [if_neg (by omega), if_pos h1]
      · simp [cellGet]
    · split
      · next h1 h2 =>
        subst h2
        split
        · next hb => subst hb; exact cellGet_below t _ _ hm.2 (Nat.lt_succ_self _)
        · simp [cellGet]
      · next h1 h2 =>
        unfold cellGet
        rw [if_neg h2, if_neg h1]
        exact ih _ hm.2

/-- A write leaves every other byte alone. -/
theorem cellGet_set_other (m : List Host.Cell) (lo a c : Nat) (b : Byte) (hm : cellsWf lo m = true) (h : c ≠ a) :
    cellGet (cellSet m a b) c = cellGet m c := by
  induction m generalizing lo with
  | nil =>
    by_cases hb : b = 0#8
    · simp [cellSet, hb]
    · simp [cellSet, hb, cellGet, Ne.symm h]
  | cons e t ih =>
    obtain ⟨j, v⟩ := e
    simp only [cellsWf, Bool.and_eq_true, decide_eq_true_eq] at hm
    by_cases h1 : a < j
    · by_cases hb : b = 0#8
      · simp [cellSet, h1, hb]
      · have e1 : cellSet ((j, v) :: t) a b = (a, b) :: (j, v) :: t := by simp [cellSet, h1, hb]
        rw [e1]
        by_cases hc : c < a
        · simp [cellGet, Ne.symm h, hc, show ¬ j = c by omega, show c < j by omega]
        · simp [cellGet, Ne.symm h, hc]
    · by_cases h2 : j = a
      · subst h2
        by_cases hb : b = 0#8
        · have e1 : cellSet ((j, v) :: t) j b = t := by simp [cellSet, hb]
          rw [e1]
          by_cases hc : c < j
          · rw [cellGet_below t _ _ hm.2 (by omega)]; simp [cellGet, Ne.symm h, hc]
          · simp [cellGet, Ne.symm h, hc]
        · simp [cellSet, hb, cellGet, Ne.symm h]
      · have e1 : cellSet ((j, v) :: t) a b = (j, v) :: cellSet t a b := by simp [cellSet, h1, h2]
        rw [e1]
        simp only [cellGet, ih _ hm.2]

theorem hbmWrite_wf (s : State) (a : Nat) (bs : Bytes) (x : Bool) (h : Memory.wf s.hbm.cells = true) :
    Memory.wf (s.hbmWrite a bs x).hbm.cells = true := cellsWrite_wf _ _ _ h

theorem hbmWipe_wf (s : State) (a n : Nat) (h : Memory.wf s.hbm.cells = true) : Memory.wf (s.hbmWipe a n).hbm.cells = true :=
  cellsWipe_wf _ _ _ h

theorem hbmPoison_cells (s : State) (a n : Nat) : (s.hbmPoison a n).hbm.cells = s.hbm.cells := rfl

end Sys2Proof.Machine
end

