-- ==== Sys2Proof/Laws/SMap.lean ====
section
/-! SUPPORT. The laws of sorted association lists: a lookup after an update. They hold of every list, sorted or not. -/
namespace Sys2Proof.Machine

@[simp] theorem SMap.find?_nil {α : Type} (k : Nat) : SMap.find? ([] : SMap α) k = none := rfl

@[simp] theorem SMap.find?_set_same {α : Type} (m : SMap α) (k : Nat) (v : α) : SMap.find? (SMap.set m k v) k = some v := by
  induction m with
  | nil => simp [SMap.set, SMap.find?]
  | cons e t ih =>
    obtain ⟨j, w⟩ := e
    by_cases h : j = k
    · simp [SMap.set, SMap.find?, h]
    · by_cases h2 : k < j
      · simp [SMap.set, SMap.find?, h, h2]
      · simp [SMap.set, SMap.find?, h, h2, ih]

theorem SMap.find?_set_other {α : Type} (m : SMap α) {j k : Nat} (v : α) (h : j ≠ k) :
    SMap.find? (SMap.set m k v) j = SMap.find? m j := by
  induction m with
  | nil => simp [SMap.set, SMap.find?, Ne.symm h]
  | cons e t ih =>
    obtain ⟨i, w⟩ := e
    by_cases h1 : i = k
    · subst h1; simp [SMap.set, SMap.find?, Ne.symm h]
    · by_cases h2 : k < i
      · simp [SMap.set, SMap.find?, h1, h2, Ne.symm h]
      · simp only [SMap.set, SMap.find?, h1, h2, if_false, ih]

@[simp] theorem SMap.find?_erase_same {α : Type} (m : SMap α) (k : Nat) : SMap.find? (SMap.erase m k) k = none := by
  induction m with
  | nil => rfl
  | cons e t ih =>
    obtain ⟨i, w⟩ := e
    by_cases h : i = k
    · simpa [SMap.erase, h] using ih
    · simp only [SMap.erase, ne_eq, decide_not] at ih ⊢
      simp [List.filter, h, SMap.find?, ih]

theorem SMap.find?_erase_other {α : Type} (m : SMap α) {j k : Nat} (h : j ≠ k) :
    SMap.find? (SMap.erase m k) j = SMap.find? m j := by
  induction m with
  | nil => rfl
  | cons e t ih =>
    obtain ⟨i, w⟩ := e
    simp only [SMap.erase, ne_eq, decide_not] at ih ⊢
    by_cases h1 : i = k
    · subst h1; simp [List.filter, SMap.find?, Ne.symm h, ih]
    · simp [List.filter, h1, SMap.find?, ih]

@[simp] theorem SMap.getD_set_same {α : Type} (m : SMap α) (k : Nat) (v d : α) : SMap.getD (SMap.set m k v) k d = v := by
  simp [SMap.getD]

theorem SMap.getD_set_other {α : Type} (m : SMap α) {j k : Nat} (v d : α) (h : j ≠ k) :
    SMap.getD (SMap.set m k v) j d = SMap.getD m j d := by
  simp [SMap.getD, SMap.find?_set_other m v h]

theorem keysRise_mono {α : Type} {a b : Nat} (h : a ≤ b) (m : List (Nat × α)) (hm : keysRise b m = true) : keysRise a m = true := by
  cases m with
  | nil => rfl
  | cons e t =>
    simp only [keysRise, Bool.and_eq_true, decide_eq_true_eq] at hm ⊢
    exact ⟨le_trans h hm.1, hm.2⟩

/-- A map update keeps the keys rising. -/
theorem SMap.set_keysRise {α : Type} (k : Nat) (v : α) (m : SMap α) (lo : Nat) (hm : keysRise lo m = true) (hk : lo ≤ k) :
    keysRise lo (SMap.set m k v) = true := by
  induction m generalizing lo with
  | nil => simp [SMap.set, keysRise, hk]
  | cons e t ih =>
    obtain ⟨j, w⟩ := e
    simp only [keysRise, Bool.and_eq_true, decide_eq_true_eq] at hm
    unfold SMap.set
    split
    · next h =>
      subst h
      simp only [keysRise, Bool.and_eq_true, decide_eq_true_eq]
      exact hm
    · split
      · next h1 h2 =>
        simp only [keysRise, Bool.and_eq_true, decide_eq_true_eq]
        exact ⟨hk, h2, hm.2⟩
      · next h1 h2 =>
        simp only [keysRise, Bool.and_eq_true, decide_eq_true_eq]
        exact ⟨hm.1, ih _ hm.2 (by omega)⟩

/-- A selection of entries keeps the keys rising. -/
theorem filter_keysRise {α : Type} (p : Nat × α → Bool) (m : List (Nat × α)) (lo : Nat) (hm : keysRise lo m = true) :
    keysRise lo (m.filter p) = true := by
  induction m generalizing lo with
  | nil => rfl
  | cons e t ih =>
    simp only [keysRise, Bool.and_eq_true, decide_eq_true_eq] at hm
    by_cases h : p e
    · simp only [List.filter, h, keysRise, Bool.and_eq_true, decide_eq_true_eq]
      exact ⟨hm.1, ih _ hm.2⟩
    · simp only [List.filter, h]
      exact keysRise_mono (by omega) _ (ih _ hm.2)

end Sys2Proof.Machine
end

