-- ==== Sys2Proof/Laws/Regs.lean ====
section
/-! SUPPORT. The laws of register fields: a read after a write gives the value written, and a write leaves every other field alone. -/
namespace Sys2Proof.Machine

theorem Reg.ctorIdx_lt (r : Reg) : r.ctorIdx < 256 := by cases r <;> decide

theorem Reg.ctorIdx_inj {r q : Reg} (h : r.ctorIdx = q.ctorIdx) : r = q := by
  have h2 := congrArg Reg.ofNat h
  simpa [Reg.ofNat_ctorIdx] using h2

/-- Fields of different registers, instances or places have different keys. -/
theorem Fld.key_ne {f g : Fld} {i j : Nat} (hf : f.lo < 64) (hg : g.lo < 64) (h : f.reg ≠ g.reg ∨ i ≠ j ∨ f.lo ≠ g.lo) :
    f.key i ≠ g.key j := by
  have h1 := Reg.ctorIdx_lt f.reg
  have h2 := Reg.ctorIdx_lt g.reg
  intro e
  unfold Fld.key at e
  have e1 : f.lo = g.lo := by omega
  have e2 : i = j := by omega
  have e3 : f.reg.ctorIdx = g.reg.ctorIdx := by omega
  rcases h with h | h | h
  · exact h (Reg.ctorIdx_inj e3)
  · exact h e2
  · exact h e1

/-- A field reads the value written, cut to its width. -/
@[simp] theorem State.rd_wr_same (s : State) (f : Fld) (i v : Nat) : (s.wr f i v).rd f i = v % 2 ^ f.width := by
  unfold State.wr State.rd
  dsimp only
  split
  · next h => rw [SMap.find?_erase_same]; exact h.symm
  · rw [SMap.find?_set_same]; rfl

/-- A write leaves every other field alone. -/
theorem State.rd_wr_other (s : State) {f g : Fld} {i j : Nat} (v : Nat) (hk : g.key j ≠ f.key i) : (s.wr f i v).rd g j = s.rd g j := by
  unfold State.wr State.rd
  dsimp only
  split
  · rw [SMap.find?_erase_other _ hk]
  · rw [SMap.find?_set_other _ _ hk]

/-- A write leaves the fields of every other register alone. -/
theorem State.rd_wr_otherReg (s : State) {f g : Fld} {i j : Nat} (v : Nat) (hf : f.lo < 64) (hg : g.lo < 64) (h : g.reg ≠ f.reg) :
    (s.wr f i v).rd g j = s.rd g j := s.rd_wr_other v (Fld.key_ne hg hf (.inl h))

/-- A saturating counter raised by n reads the sum, or its largest value. -/
theorem State.rd_bump_same (s : State) (f : Fld) (i n : Nat) :
    (s.bump f i n).rd f i = satAdd f.max (s.rd f i) n % 2 ^ f.width := s.rd_wr_same f i _

/-- A write leaves the other fields of its register alone. -/
theorem State.rd_wr_otherLo (s : State) {f g : Fld} {i j : Nat} (v : Nat) (hf : f.lo < 64) (hg : g.lo < 64) (h : g.lo ≠ f.lo) :
    (s.wr f i v).rd g j = s.rd g j := s.rd_wr_other v (Fld.key_ne hg hf (.inr (.inr h)))

/-- A write leaves the fields of every other instance alone. -/
theorem State.rd_wr_otherIdx (s : State) {f g : Fld} {i j : Nat} (v : Nat) (hf : f.lo < 64) (hg : g.lo < 64) (h : j ≠ i) :
    (s.wr f i v).rd g j = s.rd g j := s.rd_wr_other v (Fld.key_ne hg hf (.inr (.inl h)))

/-- A write keeps the register fields in ascending order. -/
theorem State.wr_keysRise (s : State) (f : Fld) (i v : Nat) (h : keysRise 0 s.regs = true) : keysRise 0 (s.wr f i v).regs = true := by
  unfold State.wr
  dsimp only
  split
  · exact filter_keysRise _ _ _ h
  · exact SMap.set_keysRise _ _ _ _ h (Nat.zero_le _)

end Sys2Proof.Machine
end

