-- ==== Sys2Proof/Laws/State.lean ====
section
/-! SUPPORT. One lemma per part of State per update: what an update leaves alone, and what it gives the part it changes. -/
namespace Sys2Proof.Machine
variable (s : State)

/-! wr -/

@[simp] theorem State.wr_zx (f : Fld) (i v : Nat) : (s.wr f i v).zx = s.zx := rfl
@[simp] theorem State.wr_bxTb (f : Fld) (i v : Nat) : (s.wr f i v).bxTb = s.bxTb := rfl
@[simp] theorem State.wr_pps (f : Fld) (i v : Nat) : (s.wr f i v).pps = s.pps := rfl
@[simp] theorem State.wr_tsrc (f : Fld) (i v : Nat) : (s.wr f i v).tsrc = s.tsrc := rfl
@[simp] theorem State.wr_links (f : Fld) (i v : Nat) : (s.wr f i v).links = s.links := rfl
@[simp] theorem State.wr_queues (f : Fld) (i v : Nat) : (s.wr f i v).queues = s.queues := rfl
@[simp] theorem State.wr_ep (f : Fld) (i v : Nat) : (s.wr f i v).ep = s.ep := rfl
@[simp] theorem State.wr_red (f : Fld) (i v : Nat) : (s.wr f i v).red = s.red := rfl
@[simp] theorem State.wr_cnp (f : Fld) (i v : Nat) : (s.wr f i v).cnp = s.cnp := rfl
@[simp] theorem State.wr_grv (f : Fld) (i v : Nat) : (s.wr f i v).grv = s.grv := rfl
@[simp] theorem State.wr_cor (f : Fld) (i v : Nat) : (s.wr f i v).cor = s.cor := rfl
@[simp] theorem State.wr_wdn (f : Fld) (i v : Nat) : (s.wr f i v).wdn = s.wdn := rfl
@[simp] theorem State.wr_tap (f : Fld) (i v : Nat) : (s.wr f i v).tap = s.tap := rfl
@[simp] theorem State.wr_hbm (f : Fld) (i v : Nat) : (s.wr f i v).hbm = s.hbm := rfl
@[simp] theorem State.wr_egs (f : Fld) (i v : Nat) : (s.wr f i v).egs = s.egs := rfl
@[simp] theorem State.wr_rpl (f : Fld) (i v : Nat) : (s.wr f i v).rpl = s.rpl := rfl
@[simp] theorem State.wr_gate (f : Fld) (i v : Nat) : (s.wr f i v).gate = s.gate := rfl
@[simp] theorem State.wr_up (f : Fld) (i v : Nat) : (s.wr f i v).up = s.up := rfl
@[simp] theorem State.wr_out (f : Fld) (i v : Nat) : (s.wr f i v).out = s.out := rfl
@[simp] theorem State.wr_fresh (f : Fld) (i v : Nat) : (s.wr f i v).fresh = s.fresh := rfl
@[simp] theorem State.wr_pending (f : Fld) (i v : Nat) : (s.wr f i v).pending = s.pending := rfl

/-! bump -/

@[simp] theorem State.bump_zx (f : Fld) (i n : Nat) : (s.bump f i n).zx = s.zx := rfl
@[simp] theorem State.bump_bxTb (f : Fld) (i n : Nat) : (s.bump f i n).bxTb = s.bxTb := rfl
@[simp] theorem State.bump_pps (f : Fld) (i n : Nat) : (s.bump f i n).pps = s.pps := rfl
@[simp] theorem State.bump_tsrc (f : Fld) (i n : Nat) : (s.bump f i n).tsrc = s.tsrc := rfl
@[simp] theorem State.bump_links (f : Fld) (i n : Nat) : (s.bump f i n).links = s.links := rfl
@[simp] theorem State.bump_queues (f : Fld) (i n : Nat) : (s.bump f i n).queues = s.queues := rfl
@[simp] theorem State.bump_ep (f : Fld) (i n : Nat) : (s.bump f i n).ep = s.ep := rfl
@[simp] theorem State.bump_red (f : Fld) (i n : Nat) : (s.bump f i n).red = s.red := rfl
@[simp] theorem State.bump_cnp (f : Fld) (i n : Nat) : (s.bump f i n).cnp = s.cnp := rfl
@[simp] theorem State.bump_grv (f : Fld) (i n : Nat) : (s.bump f i n).grv = s.grv := rfl
@[simp] theorem State.bump_cor (f : Fld) (i n : Nat) : (s.bump f i n).cor = s.cor := rfl
@[simp] theorem State.bump_wdn (f : Fld) (i n : Nat) : (s.bump f i n).wdn = s.wdn := rfl
@[simp] theorem State.bump_tap (f : Fld) (i n : Nat) : (s.bump f i n).tap = s.tap := rfl
@[simp] theorem State.bump_hbm (f : Fld) (i n : Nat) : (s.bump f i n).hbm = s.hbm := rfl
@[simp] theorem State.bump_egs (f : Fld) (i n : Nat) : (s.bump f i n).egs = s.egs := rfl
@[simp] theorem State.bump_rpl (f : Fld) (i n : Nat) : (s.bump f i n).rpl = s.rpl := rfl
@[simp] theorem State.bump_gate (f : Fld) (i n : Nat) : (s.bump f i n).gate = s.gate := rfl
@[simp] theorem State.bump_up (f : Fld) (i n : Nat) : (s.bump f i n).up = s.up := rfl
@[simp] theorem State.bump_out (f : Fld) (i n : Nat) : (s.bump f i n).out = s.out := rfl
@[simp] theorem State.bump_fresh (f : Fld) (i n : Nat) : (s.bump f i n).fresh = s.fresh := rfl
@[simp] theorem State.bump_pending (f : Fld) (i n : Nat) : (s.bump f i n).pending = s.pending := rfl

/-! wrSat -/

@[simp] theorem State.wrSat_zx (f : Fld) (i v : Nat) : (s.wrSat f i v).zx = s.zx := rfl
@[simp] theorem State.wrSat_bxTb (f : Fld) (i v : Nat) : (s.wrSat f i v).bxTb = s.bxTb := rfl
@[simp] theorem State.wrSat_pps (f : Fld) (i v : Nat) : (s.wrSat f i v).pps = s.pps := rfl
@[simp] theorem State.wrSat_tsrc (f : Fld) (i v : Nat) : (s.wrSat f i v).tsrc = s.tsrc := rfl
@[simp] theorem State.wrSat_links (f : Fld) (i v : Nat) : (s.wrSat f i v).links = s.links := rfl
@[simp] theorem State.wrSat_queues (f : Fld) (i v : Nat) : (s.wrSat f i v).queues = s.queues := rfl
@[simp] theorem State.wrSat_ep (f : Fld) (i v : Nat) : (s.wrSat f i v).ep = s.ep := rfl
@[simp] theorem State.wrSat_red (f : Fld) (i v : Nat) : (s.wrSat f i v).red = s.red := rfl
@[simp] theorem State.wrSat_cnp (f : Fld) (i v : Nat) : (s.wrSat f i v).cnp = s.cnp := rfl
@[simp] theorem State.wrSat_grv (f : Fld) (i v : Nat) : (s.wrSat f i v).grv = s.grv := rfl
@[simp] theorem State.wrSat_cor (f : Fld) (i v : Nat) : (s.wrSat f i v).cor = s.cor := rfl
@[simp] theorem State.wrSat_wdn (f : Fld) (i v : Nat) : (s.wrSat f i v).wdn = s.wdn := rfl
@[simp] theorem State.wrSat_tap (f : Fld) (i v : Nat) : (s.wrSat f i v).tap = s.tap := rfl
@[simp] theorem State.wrSat_hbm (f : Fld) (i v : Nat) : (s.wrSat f i v).hbm = s.hbm := rfl
@[simp] theorem State.wrSat_egs (f : Fld) (i v : Nat) : (s.wrSat f i v).egs = s.egs := rfl
@[simp] theorem State.wrSat_rpl (f : Fld) (i v : Nat) : (s.wrSat f i v).rpl = s.rpl := rfl
@[simp] theorem State.wrSat_gate (f : Fld) (i v : Nat) : (s.wrSat f i v).gate = s.gate := rfl
@[simp] theorem State.wrSat_up (f : Fld) (i v : Nat) : (s.wrSat f i v).up = s.up := rfl
@[simp] theorem State.wrSat_out (f : Fld) (i v : Nat) : (s.wrSat f i v).out = s.out := rfl
@[simp] theorem State.wrSat_fresh (f : Fld) (i v : Nat) : (s.wrSat f i v).fresh = s.fresh := rfl
@[simp] theorem State.wrSat_pending (f : Fld) (i v : Nat) : (s.wrSat f i v).pending = s.pending := rfl

/-! emit -/

@[simp] theorem State.emit_regs (o : Out) : (s.emit o).regs = s.regs := rfl
@[simp] theorem State.emit_zx (o : Out) : (s.emit o).zx = s.zx := rfl
@[simp] theorem State.emit_bxTb (o : Out) : (s.emit o).bxTb = s.bxTb := rfl
@[simp] theorem State.emit_pps (o : Out) : (s.emit o).pps = s.pps := rfl
@[simp] theorem State.emit_tsrc (o : Out) : (s.emit o).tsrc = s.tsrc := rfl
@[simp] theorem State.emit_links (o : Out) : (s.emit o).links = s.links := rfl
@[simp] theorem State.emit_queues (o : Out) : (s.emit o).queues = s.queues := rfl
@[simp] theorem State.emit_ep (o : Out) : (s.emit o).ep = s.ep := rfl
@[simp] theorem State.emit_red (o : Out) : (s.emit o).red = s.red := rfl
@[simp] theorem State.emit_cnp (o : Out) : (s.emit o).cnp = s.cnp := rfl
@[simp] theorem State.emit_grv (o : Out) : (s.emit o).grv = s.grv := rfl
@[simp] theorem State.emit_cor (o : Out) : (s.emit o).cor = s.cor := rfl
@[simp] theorem State.emit_wdn (o : Out) : (s.emit o).wdn = s.wdn := rfl
@[simp] theorem State.emit_tap (o : Out) : (s.emit o).tap = s.tap := rfl
@[simp] theorem State.emit_hbm (o : Out) : (s.emit o).hbm = s.hbm := rfl
@[simp] theorem State.emit_egs (o : Out) : (s.emit o).egs = s.egs := rfl
@[simp] theorem State.emit_rpl (o : Out) : (s.emit o).rpl = s.rpl := rfl
@[simp] theorem State.emit_gate (o : Out) : (s.emit o).gate = s.gate := rfl
@[simp] theorem State.emit_up (o : Out) : (s.emit o).up = s.up := rfl
@[simp] theorem State.emit_out (o : Out) : (s.emit o).out = s.out ++ [o] := rfl
@[simp] theorem State.emit_fresh (o : Out) : (s.emit o).fresh = s.fresh := rfl
@[simp] theorem State.emit_pending (o : Out) : (s.emit o).pending = s.pending := rfl

/-! setDie -/

@[simp] theorem State.setDie_regs (d : Nat) (x : DieId) : (s.setDie d x).regs = s.regs := rfl
@[simp] theorem State.setDie_zx (d : Nat) (x : DieId) : (s.setDie d x).zx = s.zx := rfl
@[simp] theorem State.setDie_bxTb (d : Nat) (x : DieId) : (s.setDie d x).bxTb = s.bxTb := rfl
@[simp] theorem State.setDie_pps (d : Nat) (x : DieId) : (s.setDie d x).pps = s.pps := rfl
@[simp] theorem State.setDie_tsrc (d : Nat) (x : DieId) : (s.setDie d x).tsrc = s.tsrc := rfl
@[simp] theorem State.setDie_links (d : Nat) (x : DieId) : (s.setDie d x).links = s.links := rfl
@[simp] theorem State.setDie_queues (d : Nat) (x : DieId) : (s.setDie d x).queues = s.queues := rfl
@[simp] theorem State.setDie_ep (d : Nat) (x : DieId) : (s.setDie d x).ep = { s.ep with dies := s.ep.dies.set d x } := rfl
@[simp] theorem State.setDie_red (d : Nat) (x : DieId) : (s.setDie d x).red = s.red := rfl
@[simp] theorem State.setDie_cnp (d : Nat) (x : DieId) : (s.setDie d x).cnp = s.cnp := rfl
@[simp] theorem State.setDie_grv (d : Nat) (x : DieId) : (s.setDie d x).grv = s.grv := rfl
@[simp] theorem State.setDie_cor (d : Nat) (x : DieId) : (s.setDie d x).cor = s.cor := rfl
@[simp] theorem State.setDie_wdn (d : Nat) (x : DieId) : (s.setDie d x).wdn = s.wdn := rfl
@[simp] theorem State.setDie_tap (d : Nat) (x : DieId) : (s.setDie d x).tap = s.tap := rfl
@[simp] theorem State.setDie_hbm (d : Nat) (x : DieId) : (s.setDie d x).hbm = s.hbm := rfl
@[simp] theorem State.setDie_egs (d : Nat) (x : DieId) : (s.setDie d x).egs = s.egs := rfl
@[simp] theorem State.setDie_rpl (d : Nat) (x : DieId) : (s.setDie d x).rpl = s.rpl := rfl
@[simp] theorem State.setDie_gate (d : Nat) (x : DieId) : (s.setDie d x).gate = s.gate := rfl
@[simp] theorem State.setDie_up (d : Nat) (x : DieId) : (s.setDie d x).up = s.up := rfl
@[simp] theorem State.setDie_out (d : Nat) (x : DieId) : (s.setDie d x).out = s.out := rfl
@[simp] theorem State.setDie_fresh (d : Nat) (x : DieId) : (s.setDie d x).fresh = s.fresh := rfl
@[simp] theorem State.setDie_pending (d : Nat) (x : DieId) : (s.setDie d x).pending = s.pending := rfl

/-! setLink -/

@[simp] theorem State.setLink_regs (e : LinkId) (l : LinkEnd) : (s.setLink e l).regs = s.regs := rfl
@[simp] theorem State.setLink_zx (e : LinkId) (l : LinkEnd) : (s.setLink e l).zx = s.zx := rfl
@[simp] theorem State.setLink_bxTb (e : LinkId) (l : LinkEnd) : (s.setLink e l).bxTb = s.bxTb := rfl
@[simp] theorem State.setLink_pps (e : LinkId) (l : LinkEnd) : (s.setLink e l).pps = s.pps := rfl
@[simp] theorem State.setLink_tsrc (e : LinkId) (l : LinkEnd) : (s.setLink e l).tsrc = s.tsrc := rfl
@[simp] theorem State.setLink_links (e : LinkId) (l : LinkEnd) : (s.setLink e l).links = s.links.set e.key l := rfl
@[simp] theorem State.setLink_queues (e : LinkId) (l : LinkEnd) : (s.setLink e l).queues = s.queues := rfl
@[simp] theorem State.setLink_ep (e : LinkId) (l : LinkEnd) : (s.setLink e l).ep = s.ep := rfl
@[simp] theorem State.setLink_red (e : LinkId) (l : LinkEnd) : (s.setLink e l).red = s.red := rfl
@[simp] theorem State.setLink_cnp (e : LinkId) (l : LinkEnd) : (s.setLink e l).cnp = s.cnp := rfl
@[simp] theorem State.setLink_grv (e : LinkId) (l : LinkEnd) : (s.setLink e l).grv = s.grv := rfl
@[simp] theorem State.setLink_cor (e : LinkId) (l : LinkEnd) : (s.setLink e l).cor = s.cor := rfl
@[simp] theorem State.setLink_wdn (e : LinkId) (l : LinkEnd) : (s.setLink e l).wdn = s.wdn := rfl
@[simp] theorem State.setLink_tap (e : LinkId) (l : LinkEnd) : (s.setLink e l).tap = s.tap := rfl
@[simp] theorem State.setLink_hbm (e : LinkId) (l : LinkEnd) : (s.setLink e l).hbm = s.hbm := rfl
@[simp] theorem State.setLink_egs (e : LinkId) (l : LinkEnd) : (s.setLink e l).egs = s.egs := rfl
@[simp] theorem State.setLink_rpl (e : LinkId) (l : LinkEnd) : (s.setLink e l).rpl = s.rpl := rfl
@[simp] theorem State.setLink_gate (e : LinkId) (l : LinkEnd) : (s.setLink e l).gate = s.gate := rfl
@[simp] theorem State.setLink_up (e : LinkId) (l : LinkEnd) : (s.setLink e l).up = s.up := rfl
@[simp] theorem State.setLink_out (e : LinkId) (l : LinkEnd) : (s.setLink e l).out = s.out := rfl
@[simp] theorem State.setLink_fresh (e : LinkId) (l : LinkEnd) : (s.setLink e l).fresh = s.fresh := rfl
@[simp] theorem State.setLink_pending (e : LinkId) (l : LinkEnd) : (s.setLink e l).pending = s.pending := rfl

/-! modLink -/

@[simp] theorem State.modLink_regs (e : LinkId) (f : LinkEnd → LinkEnd) : (s.modLink e f).regs = s.regs := rfl
@[simp] theorem State.modLink_zx (e : LinkId) (f : LinkEnd → LinkEnd) : (s.modLink e f).zx = s.zx := rfl
@[simp] theorem State.modLink_bxTb (e : LinkId) (f : LinkEnd → LinkEnd) : (s.modLink e f).bxTb = s.bxTb := rfl
@[simp] theorem State.modLink_pps (e : LinkId) (f : LinkEnd → LinkEnd) : (s.modLink e f).pps = s.pps := rfl
@[simp] theorem State.modLink_tsrc (e : LinkId) (f : LinkEnd → LinkEnd) : (s.modLink e f).tsrc = s.tsrc := rfl
@[simp] theorem State.modLink_links (e : LinkId) (f : LinkEnd → LinkEnd) : (s.modLink e f).links = s.links.set e.key (f (s.link e)) := rfl
@[simp] theorem State.modLink_queues (e : LinkId) (f : LinkEnd → LinkEnd) : (s.modLink e f).queues = s.queues := rfl
@[simp] theorem State.modLink_ep (e : LinkId) (f : LinkEnd → LinkEnd) : (s.modLink e f).ep = s.ep := rfl
@[simp] theorem State.modLink_red (e : LinkId) (f : LinkEnd → LinkEnd) : (s.modLink e f).red = s.red := rfl
@[simp] theorem State.modLink_cnp (e : LinkId) (f : LinkEnd → LinkEnd) : (s.modLink e f).cnp = s.cnp := rfl
@[simp] theorem State.modLink_grv (e : LinkId) (f : LinkEnd → LinkEnd) : (s.modLink e f).grv = s.grv := rfl
@[simp] theorem State.modLink_cor (e : LinkId) (f : LinkEnd → LinkEnd) : (s.modLink e f).cor = s.cor := rfl
@[simp] theorem State.modLink_wdn (e : LinkId) (f : LinkEnd → LinkEnd) : (s.modLink e f).wdn = s.wdn := rfl
@[simp] theorem State.modLink_tap (e : LinkId) (f : LinkEnd → LinkEnd) : (s.modLink e f).tap = s.tap := rfl
@[simp] theorem State.modLink_hbm (e : LinkId) (f : LinkEnd → LinkEnd) : (s.modLink e f).hbm = s.hbm := rfl
@[simp] theorem State.modLink_egs (e : LinkId) (f : LinkEnd → LinkEnd) : (s.modLink e f).egs = s.egs := rfl
@[simp] theorem State.modLink_rpl (e : LinkId) (f : LinkEnd → LinkEnd) : (s.modLink e f).rpl = s.rpl := rfl
@[simp] theorem State.modLink_gate (e : LinkId) (f : LinkEnd → LinkEnd) : (s.modLink e f).gate = s.gate := rfl
@[simp] theorem State.modLink_up (e : LinkId) (f : LinkEnd → LinkEnd) : (s.modLink e f).up = s.up := rfl
@[simp] theorem State.modLink_out (e : LinkId) (f : LinkEnd → LinkEnd) : (s.modLink e f).out = s.out := rfl
@[simp] theorem State.modLink_fresh (e : LinkId) (f : LinkEnd → LinkEnd) : (s.modLink e f).fresh = s.fresh := rfl
@[simp] theorem State.modLink_pending (e : LinkId) (f : LinkEnd → LinkEnd) : (s.modLink e f).pending = s.pending := rfl

/-! setPort -/

@[simp] theorem State.setPort_regs (q : Nat) (p : CnpPort) : (s.setPort q p).regs = s.regs := rfl
@[simp] theorem State.setPort_zx (q : Nat) (p : CnpPort) : (s.setPort q p).zx = s.zx := rfl
@[simp] theorem State.setPort_bxTb (q : Nat) (p : CnpPort) : (s.setPort q p).bxTb = s.bxTb := rfl
@[simp] theorem State.setPort_pps (q : Nat) (p : CnpPort) : (s.setPort q p).pps = s.pps := rfl
@[simp] theorem State.setPort_tsrc (q : Nat) (p : CnpPort) : (s.setPort q p).tsrc = s.tsrc := rfl
@[simp] theorem State.setPort_links (q : Nat) (p : CnpPort) : (s.setPort q p).links = s.links := rfl
@[simp] theorem State.setPort_queues (q : Nat) (p : CnpPort) : (s.setPort q p).queues = s.queues := rfl
@[simp] theorem State.setPort_ep (q : Nat) (p : CnpPort) : (s.setPort q p).ep = s.ep := rfl
@[simp] theorem State.setPort_red (q : Nat) (p : CnpPort) : (s.setPort q p).red = s.red := rfl
@[simp] theorem State.setPort_cnp (q : Nat) (p : CnpPort) : (s.setPort q p).cnp = { s.cnp with ports := s.cnp.ports.set q p } := rfl
@[simp] theorem State.setPort_grv (q : Nat) (p : CnpPort) : (s.setPort q p).grv = s.grv := rfl
@[simp] theorem State.setPort_cor (q : Nat) (p : CnpPort) : (s.setPort q p).cor = s.cor := rfl
@[simp] theorem State.setPort_wdn (q : Nat) (p : CnpPort) : (s.setPort q p).wdn = s.wdn := rfl
@[simp] theorem State.setPort_tap (q : Nat) (p : CnpPort) : (s.setPort q p).tap = s.tap := rfl
@[simp] theorem State.setPort_hbm (q : Nat) (p : CnpPort) : (s.setPort q p).hbm = s.hbm := rfl
@[simp] theorem State.setPort_egs (q : Nat) (p : CnpPort) : (s.setPort q p).egs = s.egs := rfl
@[simp] theorem State.setPort_rpl (q : Nat) (p : CnpPort) : (s.setPort q p).rpl = s.rpl := rfl
@[simp] theorem State.setPort_gate (q : Nat) (p : CnpPort) : (s.setPort q p).gate = s.gate := rfl
@[simp] theorem State.setPort_up (q : Nat) (p : CnpPort) : (s.setPort q p).up = s.up := rfl
@[simp] theorem State.setPort_out (q : Nat) (p : CnpPort) : (s.setPort q p).out = s.out := rfl
@[simp] theorem State.setPort_fresh (q : Nat) (p : CnpPort) : (s.setPort q p).fresh = s.fresh := rfl
@[simp] theorem State.setPort_pending (q : Nat) (p : CnpPort) : (s.setPort q p).pending = s.pending := rfl

/-! setHbm -/

@[simp] theorem State.setHbm_regs (h : Hbm) : (s.setHbm h).regs = s.regs := rfl
@[simp] theorem State.setHbm_zx (h : Hbm) : (s.setHbm h).zx = s.zx := rfl
@[simp] theorem State.setHbm_bxTb (h : Hbm) : (s.setHbm h).bxTb = s.bxTb := rfl
@[simp] theorem State.setHbm_pps (h : Hbm) : (s.setHbm h).pps = s.pps := rfl
@[simp] theorem State.setHbm_tsrc (h : Hbm) : (s.setHbm h).tsrc = s.tsrc := rfl
@[simp] theorem State.setHbm_links (h : Hbm) : (s.setHbm h).links = s.links := rfl
@[simp] theorem State.setHbm_queues (h : Hbm) : (s.setHbm h).queues = s.queues := rfl
@[simp] theorem State.setHbm_ep (h : Hbm) : (s.setHbm h).ep = s.ep := rfl
@[simp] theorem State.setHbm_red (h : Hbm) : (s.setHbm h).red = s.red := rfl
@[simp] theorem State.setHbm_cnp (h : Hbm) : (s.setHbm h).cnp = s.cnp := rfl
@[simp] theorem State.setHbm_grv (h : Hbm) : (s.setHbm h).grv = s.grv := rfl
@[simp] theorem State.setHbm_cor (h : Hbm) : (s.setHbm h).cor = s.cor := rfl
@[simp] theorem State.setHbm_wdn (h : Hbm) : (s.setHbm h).wdn = s.wdn := rfl
@[simp] theorem State.setHbm_tap (h : Hbm) : (s.setHbm h).tap = s.tap := rfl
@[simp] theorem State.setHbm_hbm (h : Hbm) : (s.setHbm h).hbm = h := rfl
@[simp] theorem State.setHbm_egs (h : Hbm) : (s.setHbm h).egs = s.egs := rfl
@[simp] theorem State.setHbm_rpl (h : Hbm) : (s.setHbm h).rpl = s.rpl := rfl
@[simp] theorem State.setHbm_gate (h : Hbm) : (s.setHbm h).gate = s.gate := rfl
@[simp] theorem State.setHbm_up (h : Hbm) : (s.setHbm h).up = s.up := rfl
@[simp] theorem State.setHbm_out (h : Hbm) : (s.setHbm h).out = s.out := rfl
@[simp] theorem State.setHbm_fresh (h : Hbm) : (s.setHbm h).fresh = s.fresh := rfl
@[simp] theorem State.setHbm_pending (h : Hbm) : (s.setHbm h).pending = s.pending := rfl

/-! setZxPort -/

@[simp] theorem State.setZxPort_regs (p : Nat) (z : ZxPort) : (s.setZxPort p z).regs = s.regs := rfl
@[simp] theorem State.setZxPort_zx (p : Nat) (z : ZxPort) : (s.setZxPort p z).zx = s.zx := rfl
@[simp] theorem State.setZxPort_bxTb (p : Nat) (z : ZxPort) : (s.setZxPort p z).bxTb = s.bxTb := rfl
@[simp] theorem State.setZxPort_pps (p : Nat) (z : ZxPort) : (s.setZxPort p z).pps = s.pps := rfl
@[simp] theorem State.setZxPort_tsrc (p : Nat) (z : ZxPort) : (s.setZxPort p z).tsrc = s.tsrc := rfl
@[simp] theorem State.setZxPort_links (p : Nat) (z : ZxPort) : (s.setZxPort p z).links = s.links := rfl
@[simp] theorem State.setZxPort_queues (p : Nat) (z : ZxPort) : (s.setZxPort p z).queues = s.queues := rfl
@[simp] theorem State.setZxPort_ep (p : Nat) (z : ZxPort) : (s.setZxPort p z).ep = s.ep := rfl
@[simp] theorem State.setZxPort_red (p : Nat) (z : ZxPort) : (s.setZxPort p z).red = s.red := rfl
@[simp] theorem State.setZxPort_cnp (p : Nat) (z : ZxPort) : (s.setZxPort p z).cnp = s.cnp := rfl
@[simp] theorem State.setZxPort_grv (p : Nat) (z : ZxPort) : (s.setZxPort p z).grv = s.grv := rfl
@[simp] theorem State.setZxPort_cor (p : Nat) (z : ZxPort) : (s.setZxPort p z).cor = s.cor := rfl
@[simp] theorem State.setZxPort_wdn (p : Nat) (z : ZxPort) : (s.setZxPort p z).wdn = { s.wdn with zx := s.wdn.zx.set p z } := rfl
@[simp] theorem State.setZxPort_tap (p : Nat) (z : ZxPort) : (s.setZxPort p z).tap = s.tap := rfl
@[simp] theorem State.setZxPort_hbm (p : Nat) (z : ZxPort) : (s.setZxPort p z).hbm = s.hbm := rfl
@[simp] theorem State.setZxPort_egs (p : Nat) (z : ZxPort) : (s.setZxPort p z).egs = s.egs := rfl
@[simp] theorem State.setZxPort_rpl (p : Nat) (z : ZxPort) : (s.setZxPort p z).rpl = s.rpl := rfl
@[simp] theorem State.setZxPort_gate (p : Nat) (z : ZxPort) : (s.setZxPort p z).gate = s.gate := rfl
@[simp] theorem State.setZxPort_up (p : Nat) (z : ZxPort) : (s.setZxPort p z).up = s.up := rfl
@[simp] theorem State.setZxPort_out (p : Nat) (z : ZxPort) : (s.setZxPort p z).out = s.out := rfl
@[simp] theorem State.setZxPort_fresh (p : Nat) (z : ZxPort) : (s.setZxPort p z).fresh = s.fresh := rfl
@[simp] theorem State.setZxPort_pending (p : Nat) (z : ZxPort) : (s.setZxPort p z).pending = s.pending := rfl

/-! setRing -/

@[simp] theorem State.setRing_regs (f : Nat) (r : EvRing) : (s.setRing f r).regs = s.regs := rfl
@[simp] theorem State.setRing_zx (f : Nat) (r : EvRing) : (s.setRing f r).zx = s.zx := rfl
@[simp] theorem State.setRing_bxTb (f : Nat) (r : EvRing) : (s.setRing f r).bxTb = s.bxTb := rfl
@[simp] theorem State.setRing_pps (f : Nat) (r : EvRing) : (s.setRing f r).pps = s.pps := rfl
@[simp] theorem State.setRing_tsrc (f : Nat) (r : EvRing) : (s.setRing f r).tsrc = s.tsrc := rfl
@[simp] theorem State.setRing_links (f : Nat) (r : EvRing) : (s.setRing f r).links = s.links := rfl
@[simp] theorem State.setRing_queues (f : Nat) (r : EvRing) : (s.setRing f r).queues = s.queues := rfl
@[simp] theorem State.setRing_ep (f : Nat) (r : EvRing) : (s.setRing f r).ep = s.ep := rfl
@[simp] theorem State.setRing_red (f : Nat) (r : EvRing) : (s.setRing f r).red = s.red := rfl
@[simp] theorem State.setRing_cnp (f : Nat) (r : EvRing) : (s.setRing f r).cnp = s.cnp := rfl
@[simp] theorem State.setRing_grv (f : Nat) (r : EvRing) : (s.setRing f r).grv = s.grv := rfl
@[simp] theorem State.setRing_cor (f : Nat) (r : EvRing) : (s.setRing f r).cor = s.cor := rfl
@[simp] theorem State.setRing_wdn (f : Nat) (r : EvRing) : (s.setRing f r).wdn = { s.wdn with rings := s.wdn.rings.set f r } := rfl
@[simp] theorem State.setRing_tap (f : Nat) (r : EvRing) : (s.setRing f r).tap = s.tap := rfl
@[simp] theorem State.setRing_hbm (f : Nat) (r : EvRing) : (s.setRing f r).hbm = s.hbm := rfl
@[simp] theorem State.setRing_egs (f : Nat) (r : EvRing) : (s.setRing f r).egs = s.egs := rfl
@[simp] theorem State.setRing_rpl (f : Nat) (r : EvRing) : (s.setRing f r).rpl = s.rpl := rfl
@[simp] theorem State.setRing_gate (f : Nat) (r : EvRing) : (s.setRing f r).gate = s.gate := rfl
@[simp] theorem State.setRing_up (f : Nat) (r : EvRing) : (s.setRing f r).up = s.up := rfl
@[simp] theorem State.setRing_out (f : Nat) (r : EvRing) : (s.setRing f r).out = s.out := rfl
@[simp] theorem State.setRing_fresh (f : Nat) (r : EvRing) : (s.setRing f r).fresh = s.fresh := rfl
@[simp] theorem State.setRing_pending (f : Nat) (r : EvRing) : (s.setRing f r).pending = s.pending := rfl

/-! setPeer -/

@[simp] theorem State.setPeer_regs (a : Nat) (p : Peer) : (s.setPeer a p).regs = s.regs := rfl
@[simp] theorem State.setPeer_zx (a : Nat) (p : Peer) : (s.setPeer a p).zx = s.zx := rfl
@[simp] theorem State.setPeer_bxTb (a : Nat) (p : Peer) : (s.setPeer a p).bxTb = s.bxTb := rfl
@[simp] theorem State.setPeer_pps (a : Nat) (p : Peer) : (s.setPeer a p).pps = s.pps := rfl
@[simp] theorem State.setPeer_tsrc (a : Nat) (p : Peer) : (s.setPeer a p).tsrc = s.tsrc := rfl
@[simp] theorem State.setPeer_links (a : Nat) (p : Peer) : (s.setPeer a p).links = s.links := rfl
@[simp] theorem State.setPeer_queues (a : Nat) (p : Peer) : (s.setPeer a p).queues = s.queues := rfl
@[simp] theorem State.setPeer_ep (a : Nat) (p : Peer) : (s.setPeer a p).ep = s.ep := rfl
@[simp] theorem State.setPeer_red (a : Nat) (p : Peer) : (s.setPeer a p).red = s.red := rfl
@[simp] theorem State.setPeer_cnp (a : Nat) (p : Peer) : (s.setPeer a p).cnp = { s.cnp with peers := s.cnp.peers.set a p } := rfl
@[simp] theorem State.setPeer_grv (a : Nat) (p : Peer) : (s.setPeer a p).grv = s.grv := rfl
@[simp] theorem State.setPeer_cor (a : Nat) (p : Peer) : (s.setPeer a p).cor = s.cor := rfl
@[simp] theorem State.setPeer_wdn (a : Nat) (p : Peer) : (s.setPeer a p).wdn = s.wdn := rfl
@[simp] theorem State.setPeer_tap (a : Nat) (p : Peer) : (s.setPeer a p).tap = s.tap := rfl
@[simp] theorem State.setPeer_hbm (a : Nat) (p : Peer) : (s.setPeer a p).hbm = s.hbm := rfl
@[simp] theorem State.setPeer_egs (a : Nat) (p : Peer) : (s.setPeer a p).egs = s.egs := rfl
@[simp] theorem State.setPeer_rpl (a : Nat) (p : Peer) : (s.setPeer a p).rpl = s.rpl := rfl
@[simp] theorem State.setPeer_gate (a : Nat) (p : Peer) : (s.setPeer a p).gate = s.gate := rfl
@[simp] theorem State.setPeer_up (a : Nat) (p : Peer) : (s.setPeer a p).up = s.up := rfl
@[simp] theorem State.setPeer_out (a : Nat) (p : Peer) : (s.setPeer a p).out = s.out := rfl
@[simp] theorem State.setPeer_fresh (a : Nat) (p : Peer) : (s.setPeer a p).fresh = s.fresh := rfl
@[simp] theorem State.setPeer_pending (a : Nat) (p : Peer) : (s.setPeer a p).pending = s.pending := rfl

/-! setStaged -/

@[simp] theorem State.setStaged_regs (g : Option Staged) : (s.setStaged g).regs = s.regs := rfl
@[simp] theorem State.setStaged_zx (g : Option Staged) : (s.setStaged g).zx = s.zx := rfl
@[simp] theorem State.setStaged_bxTb (g : Option Staged) : (s.setStaged g).bxTb = s.bxTb := rfl
@[simp] theorem State.setStaged_pps (g : Option Staged) : (s.setStaged g).pps = s.pps := rfl
@[simp] theorem State.setStaged_tsrc (g : Option Staged) : (s.setStaged g).tsrc = s.tsrc := rfl
@[simp] theorem State.setStaged_links (g : Option Staged) : (s.setStaged g).links = s.links := rfl
@[simp] theorem State.setStaged_queues (g : Option Staged) : (s.setStaged g).queues = s.queues := rfl
@[simp] theorem State.setStaged_ep (g : Option Staged) : (s.setStaged g).ep = { s.ep with staged := g } := rfl
@[simp] theorem State.setStaged_red (g : Option Staged) : (s.setStaged g).red = s.red := rfl
@[simp] theorem State.setStaged_cnp (g : Option Staged) : (s.setStaged g).cnp = s.cnp := rfl
@[simp] theorem State.setStaged_grv (g : Option Staged) : (s.setStaged g).grv = s.grv := rfl
@[simp] theorem State.setStaged_cor (g : Option Staged) : (s.setStaged g).cor = s.cor := rfl
@[simp] theorem State.setStaged_wdn (g : Option Staged) : (s.setStaged g).wdn = s.wdn := rfl
@[simp] theorem State.setStaged_tap (g : Option Staged) : (s.setStaged g).tap = s.tap := rfl
@[simp] theorem State.setStaged_hbm (g : Option Staged) : (s.setStaged g).hbm = s.hbm := rfl
@[simp] theorem State.setStaged_egs (g : Option Staged) : (s.setStaged g).egs = s.egs := rfl
@[simp] theorem State.setStaged_rpl (g : Option Staged) : (s.setStaged g).rpl = s.rpl := rfl
@[simp] theorem State.setStaged_gate (g : Option Staged) : (s.setStaged g).gate = s.gate := rfl
@[simp] theorem State.setStaged_up (g : Option Staged) : (s.setStaged g).up = s.up := rfl
@[simp] theorem State.setStaged_out (g : Option Staged) : (s.setStaged g).out = s.out := rfl
@[simp] theorem State.setStaged_fresh (g : Option Staged) : (s.setStaged g).fresh = s.fresh := rfl
@[simp] theorem State.setStaged_pending (g : Option Staged) : (s.setStaged g).pending = s.pending := rfl

/-! setEgs -/

@[simp] theorem State.setEgs_regs (e : Egress) : (s.setEgs e).regs = s.regs := rfl
@[simp] theorem State.setEgs_zx (e : Egress) : (s.setEgs e).zx = s.zx := rfl
@[simp] theorem State.setEgs_bxTb (e : Egress) : (s.setEgs e).bxTb = s.bxTb := rfl
@[simp] theorem State.setEgs_pps (e : Egress) : (s.setEgs e).pps = s.pps := rfl
@[simp] theorem State.setEgs_tsrc (e : Egress) : (s.setEgs e).tsrc = s.tsrc := rfl
@[simp] theorem State.setEgs_links (e : Egress) : (s.setEgs e).links = s.links := rfl
@[simp] theorem State.setEgs_queues (e : Egress) : (s.setEgs e).queues = s.queues := rfl
@[simp] theorem State.setEgs_ep (e : Egress) : (s.setEgs e).ep = s.ep := rfl
@[simp] theorem State.setEgs_red (e : Egress) : (s.setEgs e).red = s.red := rfl
@[simp] theorem State.setEgs_cnp (e : Egress) : (s.setEgs e).cnp = s.cnp := rfl
@[simp] theorem State.setEgs_grv (e : Egress) : (s.setEgs e).grv = s.grv := rfl
@[simp] theorem State.setEgs_cor (e : Egress) : (s.setEgs e).cor = s.cor := rfl
@[simp] theorem State.setEgs_wdn (e : Egress) : (s.setEgs e).wdn = s.wdn := rfl
@[simp] theorem State.setEgs_tap (e : Egress) : (s.setEgs e).tap = s.tap := rfl
@[simp] theorem State.setEgs_hbm (e : Egress) : (s.setEgs e).hbm = s.hbm := rfl
@[simp] theorem State.setEgs_egs (e : Egress) : (s.setEgs e).egs = e := rfl
@[simp] theorem State.setEgs_rpl (e : Egress) : (s.setEgs e).rpl = s.rpl := rfl
@[simp] theorem State.setEgs_gate (e : Egress) : (s.setEgs e).gate = s.gate := rfl
@[simp] theorem State.setEgs_up (e : Egress) : (s.setEgs e).up = s.up := rfl
@[simp] theorem State.setEgs_out (e : Egress) : (s.setEgs e).out = s.out := rfl
@[simp] theorem State.setEgs_fresh (e : Egress) : (s.setEgs e).fresh = s.fresh := rfl
@[simp] theorem State.setEgs_pending (e : Egress) : (s.setEgs e).pending = s.pending := rfl

/-! setGate -/

@[simp] theorem State.setGate_regs (g : Gate) : (s.setGate g).regs = s.regs := rfl
@[simp] theorem State.setGate_zx (g : Gate) : (s.setGate g).zx = s.zx := rfl
@[simp] theorem State.setGate_bxTb (g : Gate) : (s.setGate g).bxTb = s.bxTb := rfl
@[simp] theorem State.setGate_pps (g : Gate) : (s.setGate g).pps = s.pps := rfl
@[simp] theorem State.setGate_tsrc (g : Gate) : (s.setGate g).tsrc = s.tsrc := rfl
@[simp] theorem State.setGate_links (g : Gate) : (s.setGate g).links = s.links := rfl
@[simp] theorem State.setGate_queues (g : Gate) : (s.setGate g).queues = s.queues := rfl
@[simp] theorem State.setGate_ep (g : Gate) : (s.setGate g).ep = s.ep := rfl
@[simp] theorem State.setGate_red (g : Gate) : (s.setGate g).red = s.red := rfl
@[simp] theorem State.setGate_cnp (g : Gate) : (s.setGate g).cnp = s.cnp := rfl
@[simp] theorem State.setGate_grv (g : Gate) : (s.setGate g).grv = s.grv := rfl
@[simp] theorem State.setGate_cor (g : Gate) : (s.setGate g).cor = s.cor := rfl
@[simp] theorem State.setGate_wdn (g : Gate) : (s.setGate g).wdn = s.wdn := rfl
@[simp] theorem State.setGate_tap (g : Gate) : (s.setGate g).tap = s.tap := rfl
@[simp] theorem State.setGate_hbm (g : Gate) : (s.setGate g).hbm = s.hbm := rfl
@[simp] theorem State.setGate_egs (g : Gate) : (s.setGate g).egs = s.egs := rfl
@[simp] theorem State.setGate_rpl (g : Gate) : (s.setGate g).rpl = s.rpl := rfl
@[simp] theorem State.setGate_gate (g : Gate) : (s.setGate g).gate = g := rfl
@[simp] theorem State.setGate_up (g : Gate) : (s.setGate g).up = s.up := rfl
@[simp] theorem State.setGate_out (g : Gate) : (s.setGate g).out = s.out := rfl
@[simp] theorem State.setGate_fresh (g : Gate) : (s.setGate g).fresh = s.fresh := rfl
@[simp] theorem State.setGate_pending (g : Gate) : (s.setGate g).pending = s.pending := rfl

/-! setRpl -/

@[simp] theorem State.setRpl_regs (r : Replay) : (s.setRpl r).regs = s.regs := rfl
@[simp] theorem State.setRpl_zx (r : Replay) : (s.setRpl r).zx = s.zx := rfl
@[simp] theorem State.setRpl_bxTb (r : Replay) : (s.setRpl r).bxTb = s.bxTb := rfl
@[simp] theorem State.setRpl_pps (r : Replay) : (s.setRpl r).pps = s.pps := rfl
@[simp] theorem State.setRpl_tsrc (r : Replay) : (s.setRpl r).tsrc = s.tsrc := rfl
@[simp] theorem State.setRpl_links (r : Replay) : (s.setRpl r).links = s.links := rfl
@[simp] theorem State.setRpl_queues (r : Replay) : (s.setRpl r).queues = s.queues := rfl
@[simp] theorem State.setRpl_ep (r : Replay) : (s.setRpl r).ep = s.ep := rfl
@[simp] theorem State.setRpl_red (r : Replay) : (s.setRpl r).red = s.red := rfl
@[simp] theorem State.setRpl_cnp (r : Replay) : (s.setRpl r).cnp = s.cnp := rfl
@[simp] theorem State.setRpl_grv (r : Replay) : (s.setRpl r).grv = s.grv := rfl
@[simp] theorem State.setRpl_cor (r : Replay) : (s.setRpl r).cor = s.cor := rfl
@[simp] theorem State.setRpl_wdn (r : Replay) : (s.setRpl r).wdn = s.wdn := rfl
@[simp] theorem State.setRpl_tap (r : Replay) : (s.setRpl r).tap = s.tap := rfl
@[simp] theorem State.setRpl_hbm (r : Replay) : (s.setRpl r).hbm = s.hbm := rfl
@[simp] theorem State.setRpl_egs (r : Replay) : (s.setRpl r).egs = s.egs := rfl
@[simp] theorem State.setRpl_rpl (r : Replay) : (s.setRpl r).rpl = r := rfl
@[simp] theorem State.setRpl_gate (r : Replay) : (s.setRpl r).gate = s.gate := rfl
@[simp] theorem State.setRpl_up (r : Replay) : (s.setRpl r).up = s.up := rfl
@[simp] theorem State.setRpl_out (r : Replay) : (s.setRpl r).out = s.out := rfl
@[simp] theorem State.setRpl_fresh (r : Replay) : (s.setRpl r).fresh = s.fresh := rfl
@[simp] theorem State.setRpl_pending (r : Replay) : (s.setRpl r).pending = s.pending := rfl

/-! setUp -/

@[simp] theorem State.setUp_regs (u : PowerUp) : (s.setUp u).regs = s.regs := rfl
@[simp] theorem State.setUp_zx (u : PowerUp) : (s.setUp u).zx = s.zx := rfl
@[simp] theorem State.setUp_bxTb (u : PowerUp) : (s.setUp u).bxTb = s.bxTb := rfl
@[simp] theorem State.setUp_pps (u : PowerUp) : (s.setUp u).pps = s.pps := rfl
@[simp] theorem State.setUp_tsrc (u : PowerUp) : (s.setUp u).tsrc = s.tsrc := rfl
@[simp] theorem State.setUp_links (u : PowerUp) : (s.setUp u).links = s.links := rfl
@[simp] theorem State.setUp_queues (u : PowerUp) : (s.setUp u).queues = s.queues := rfl
@[simp] theorem State.setUp_ep (u : PowerUp) : (s.setUp u).ep = s.ep := rfl
@[simp] theorem State.setUp_red (u : PowerUp) : (s.setUp u).red = s.red := rfl
@[simp] theorem State.setUp_cnp (u : PowerUp) : (s.setUp u).cnp = s.cnp := rfl
@[simp] theorem State.setUp_grv (u : PowerUp) : (s.setUp u).grv = s.grv := rfl
@[simp] theorem State.setUp_cor (u : PowerUp) : (s.setUp u).cor = s.cor := rfl
@[simp] theorem State.setUp_wdn (u : PowerUp) : (s.setUp u).wdn = s.wdn := rfl
@[simp] theorem State.setUp_tap (u : PowerUp) : (s.setUp u).tap = s.tap := rfl
@[simp] theorem State.setUp_hbm (u : PowerUp) : (s.setUp u).hbm = s.hbm := rfl
@[simp] theorem State.setUp_egs (u : PowerUp) : (s.setUp u).egs = s.egs := rfl
@[simp] theorem State.setUp_rpl (u : PowerUp) : (s.setUp u).rpl = s.rpl := rfl
@[simp] theorem State.setUp_gate (u : PowerUp) : (s.setUp u).gate = s.gate := rfl
@[simp] theorem State.setUp_up (u : PowerUp) : (s.setUp u).up = u := rfl
@[simp] theorem State.setUp_out (u : PowerUp) : (s.setUp u).out = s.out := rfl
@[simp] theorem State.setUp_fresh (u : PowerUp) : (s.setUp u).fresh = s.fresh := rfl
@[simp] theorem State.setUp_pending (u : PowerUp) : (s.setUp u).pending = s.pending := rfl

/-! setCorDie -/

@[simp] theorem State.setCorDie_regs (d : Nat) (x : DieCorr) : (s.setCorDie d x).regs = s.regs := rfl
@[simp] theorem State.setCorDie_zx (d : Nat) (x : DieCorr) : (s.setCorDie d x).zx = s.zx := rfl
@[simp] theorem State.setCorDie_bxTb (d : Nat) (x : DieCorr) : (s.setCorDie d x).bxTb = s.bxTb := rfl
@[simp] theorem State.setCorDie_pps (d : Nat) (x : DieCorr) : (s.setCorDie d x).pps = s.pps := rfl
@[simp] theorem State.setCorDie_tsrc (d : Nat) (x : DieCorr) : (s.setCorDie d x).tsrc = s.tsrc := rfl
@[simp] theorem State.setCorDie_links (d : Nat) (x : DieCorr) : (s.setCorDie d x).links = s.links := rfl
@[simp] theorem State.setCorDie_queues (d : Nat) (x : DieCorr) : (s.setCorDie d x).queues = s.queues := rfl
@[simp] theorem State.setCorDie_ep (d : Nat) (x : DieCorr) : (s.setCorDie d x).ep = s.ep := rfl
@[simp] theorem State.setCorDie_red (d : Nat) (x : DieCorr) : (s.setCorDie d x).red = s.red := rfl
@[simp] theorem State.setCorDie_cnp (d : Nat) (x : DieCorr) : (s.setCorDie d x).cnp = s.cnp := rfl
@[simp] theorem State.setCorDie_grv (d : Nat) (x : DieCorr) : (s.setCorDie d x).grv = s.grv := rfl
@[simp] theorem State.setCorDie_cor (d : Nat) (x : DieCorr) : (s.setCorDie d x).cor = { s.cor with dies := s.cor.dies.set d x } := rfl
@[simp] theorem State.setCorDie_wdn (d : Nat) (x : DieCorr) : (s.setCorDie d x).wdn = s.wdn := rfl
@[simp] theorem State.setCorDie_tap (d : Nat) (x : DieCorr) : (s.setCorDie d x).tap = s.tap := rfl
@[simp] theorem State.setCorDie_hbm (d : Nat) (x : DieCorr) : (s.setCorDie d x).hbm = s.hbm := rfl
@[simp] theorem State.setCorDie_egs (d : Nat) (x : DieCorr) : (s.setCorDie d x).egs = s.egs := rfl
@[simp] theorem State.setCorDie_rpl (d : Nat) (x : DieCorr) : (s.setCorDie d x).rpl = s.rpl := rfl
@[simp] theorem State.setCorDie_gate (d : Nat) (x : DieCorr) : (s.setCorDie d x).gate = s.gate := rfl
@[simp] theorem State.setCorDie_up (d : Nat) (x : DieCorr) : (s.setCorDie d x).up = s.up := rfl
@[simp] theorem State.setCorDie_out (d : Nat) (x : DieCorr) : (s.setCorDie d x).out = s.out := rfl
@[simp] theorem State.setCorDie_fresh (d : Nat) (x : DieCorr) : (s.setCorDie d x).fresh = s.fresh := rfl
@[simp] theorem State.setCorDie_pending (d : Nat) (x : DieCorr) : (s.setCorDie d x).pending = s.pending := rfl

/-! setQueue -/

@[simp] theorem State.setQueue_regs (k : Nat) (q : Queue) : (s.setQueue k q).regs = s.regs := rfl
@[simp] theorem State.setQueue_zx (k : Nat) (q : Queue) : (s.setQueue k q).zx = s.zx := rfl
@[simp] theorem State.setQueue_bxTb (k : Nat) (q : Queue) : (s.setQueue k q).bxTb = s.bxTb := rfl
@[simp] theorem State.setQueue_pps (k : Nat) (q : Queue) : (s.setQueue k q).pps = s.pps := rfl
@[simp] theorem State.setQueue_tsrc (k : Nat) (q : Queue) : (s.setQueue k q).tsrc = s.tsrc := rfl
@[simp] theorem State.setQueue_links (k : Nat) (q : Queue) : (s.setQueue k q).links = s.links := rfl
@[simp] theorem State.setQueue_queues (k : Nat) (q : Queue) : (s.setQueue k q).queues = s.queues.set k q := rfl
@[simp] theorem State.setQueue_ep (k : Nat) (q : Queue) : (s.setQueue k q).ep = s.ep := rfl
@[simp] theorem State.setQueue_red (k : Nat) (q : Queue) : (s.setQueue k q).red = s.red := rfl
@[simp] theorem State.setQueue_cnp (k : Nat) (q : Queue) : (s.setQueue k q).cnp = s.cnp := rfl
@[simp] theorem State.setQueue_grv (k : Nat) (q : Queue) : (s.setQueue k q).grv = s.grv := rfl
@[simp] theorem State.setQueue_cor (k : Nat) (q : Queue) : (s.setQueue k q).cor = s.cor := rfl
@[simp] theorem State.setQueue_wdn (k : Nat) (q : Queue) : (s.setQueue k q).wdn = s.wdn := rfl
@[simp] theorem State.setQueue_tap (k : Nat) (q : Queue) : (s.setQueue k q).tap = s.tap := rfl
@[simp] theorem State.setQueue_hbm (k : Nat) (q : Queue) : (s.setQueue k q).hbm = s.hbm := rfl
@[simp] theorem State.setQueue_egs (k : Nat) (q : Queue) : (s.setQueue k q).egs = s.egs := rfl
@[simp] theorem State.setQueue_rpl (k : Nat) (q : Queue) : (s.setQueue k q).rpl = s.rpl := rfl
@[simp] theorem State.setQueue_gate (k : Nat) (q : Queue) : (s.setQueue k q).gate = s.gate := rfl
@[simp] theorem State.setQueue_up (k : Nat) (q : Queue) : (s.setQueue k q).up = s.up := rfl
@[simp] theorem State.setQueue_out (k : Nat) (q : Queue) : (s.setQueue k q).out = s.out := rfl
@[simp] theorem State.setQueue_fresh (k : Nat) (q : Queue) : (s.setQueue k q).fresh = s.fresh := rfl
@[simp] theorem State.setQueue_pending (k : Nat) (q : Queue) : (s.setQueue k q).pending = s.pending := rfl

/-! setBlz -/

@[simp] theorem State.setBlz_regs (u : Nat) (x : BlzUnit) : (s.setBlz u x).regs = s.regs := rfl
@[simp] theorem State.setBlz_zx (u : Nat) (x : BlzUnit) : (s.setBlz u x).zx = { s.zx with blz := s.zx.blz.set u x } := rfl
@[simp] theorem State.setBlz_bxTb (u : Nat) (x : BlzUnit) : (s.setBlz u x).bxTb = s.bxTb := rfl
@[simp] theorem State.setBlz_pps (u : Nat) (x : BlzUnit) : (s.setBlz u x).pps = s.pps := rfl
@[simp] theorem State.setBlz_tsrc (u : Nat) (x : BlzUnit) : (s.setBlz u x).tsrc = s.tsrc := rfl
@[simp] theorem State.setBlz_links (u : Nat) (x : BlzUnit) : (s.setBlz u x).links = s.links := rfl
@[simp] theorem State.setBlz_queues (u : Nat) (x : BlzUnit) : (s.setBlz u x).queues = s.queues := rfl
@[simp] theorem State.setBlz_ep (u : Nat) (x : BlzUnit) : (s.setBlz u x).ep = s.ep := rfl
@[simp] theorem State.setBlz_red (u : Nat) (x : BlzUnit) : (s.setBlz u x).red = s.red := rfl
@[simp] theorem State.setBlz_cnp (u : Nat) (x : BlzUnit) : (s.setBlz u x).cnp = s.cnp := rfl
@[simp] theorem State.setBlz_grv (u : Nat) (x : BlzUnit) : (s.setBlz u x).grv = s.grv := rfl
@[simp] theorem State.setBlz_cor (u : Nat) (x : BlzUnit) : (s.setBlz u x).cor = s.cor := rfl
@[simp] theorem State.setBlz_wdn (u : Nat) (x : BlzUnit) : (s.setBlz u x).wdn = s.wdn := rfl
@[simp] theorem State.setBlz_tap (u : Nat) (x : BlzUnit) : (s.setBlz u x).tap = s.tap := rfl
@[simp] theorem State.setBlz_hbm (u : Nat) (x : BlzUnit) : (s.setBlz u x).hbm = s.hbm := rfl
@[simp] theorem State.setBlz_egs (u : Nat) (x : BlzUnit) : (s.setBlz u x).egs = s.egs := rfl
@[simp] theorem State.setBlz_rpl (u : Nat) (x : BlzUnit) : (s.setBlz u x).rpl = s.rpl := rfl
@[simp] theorem State.setBlz_gate (u : Nat) (x : BlzUnit) : (s.setBlz u x).gate = s.gate := rfl
@[simp] theorem State.setBlz_up (u : Nat) (x : BlzUnit) : (s.setBlz u x).up = s.up := rfl
@[simp] theorem State.setBlz_out (u : Nat) (x : BlzUnit) : (s.setBlz u x).out = s.out := rfl
@[simp] theorem State.setBlz_fresh (u : Nat) (x : BlzUnit) : (s.setBlz u x).fresh = s.fresh := rfl
@[simp] theorem State.setBlz_pending (u : Nat) (x : BlzUnit) : (s.setBlz u x).pending = s.pending := rfl

/-! setTap -/

@[simp] theorem State.setTap_regs (t : Nat) (x : Tap) : (s.setTap t x).regs = s.regs := rfl
@[simp] theorem State.setTap_zx (t : Nat) (x : Tap) : (s.setTap t x).zx = { s.zx with taps := s.zx.taps.set t x } := rfl
@[simp] theorem State.setTap_bxTb (t : Nat) (x : Tap) : (s.setTap t x).bxTb = s.bxTb := rfl
@[simp] theorem State.setTap_pps (t : Nat) (x : Tap) : (s.setTap t x).pps = s.pps := rfl
@[simp] theorem State.setTap_tsrc (t : Nat) (x : Tap) : (s.setTap t x).tsrc = s.tsrc := rfl
@[simp] theorem State.setTap_links (t : Nat) (x : Tap) : (s.setTap t x).links = s.links := rfl
@[simp] theorem State.setTap_queues (t : Nat) (x : Tap) : (s.setTap t x).queues = s.queues := rfl
@[simp] theorem State.setTap_ep (t : Nat) (x : Tap) : (s.setTap t x).ep = s.ep := rfl
@[simp] theorem State.setTap_red (t : Nat) (x : Tap) : (s.setTap t x).red = s.red := rfl
@[simp] theorem State.setTap_cnp (t : Nat) (x : Tap) : (s.setTap t x).cnp = s.cnp := rfl
@[simp] theorem State.setTap_grv (t : Nat) (x : Tap) : (s.setTap t x).grv = s.grv := rfl
@[simp] theorem State.setTap_cor (t : Nat) (x : Tap) : (s.setTap t x).cor = s.cor := rfl
@[simp] theorem State.setTap_wdn (t : Nat) (x : Tap) : (s.setTap t x).wdn = s.wdn := rfl
@[simp] theorem State.setTap_tap (t : Nat) (x : Tap) : (s.setTap t x).tap = s.tap := rfl
@[simp] theorem State.setTap_hbm (t : Nat) (x : Tap) : (s.setTap t x).hbm = s.hbm := rfl
@[simp] theorem State.setTap_egs (t : Nat) (x : Tap) : (s.setTap t x).egs = s.egs := rfl
@[simp] theorem State.setTap_rpl (t : Nat) (x : Tap) : (s.setTap t x).rpl = s.rpl := rfl
@[simp] theorem State.setTap_gate (t : Nat) (x : Tap) : (s.setTap t x).gate = s.gate := rfl
@[simp] theorem State.setTap_up (t : Nat) (x : Tap) : (s.setTap t x).up = s.up := rfl
@[simp] theorem State.setTap_out (t : Nat) (x : Tap) : (s.setTap t x).out = s.out := rfl
@[simp] theorem State.setTap_fresh (t : Nat) (x : Tap) : (s.setTap t x).fresh = s.fresh := rfl
@[simp] theorem State.setTap_pending (t : Nat) (x : Tap) : (s.setTap t x).pending = s.pending := rfl

/-! setTrc -/

@[simp] theorem State.setTrc_regs (n : Nat) (b : TraceBuf) : (s.setTrc n b).regs = s.regs := rfl
@[simp] theorem State.setTrc_zx (n : Nat) (b : TraceBuf) : (s.setTrc n b).zx = { s.zx with trc := s.zx.trc.set n b } := rfl
@[simp] theorem State.setTrc_bxTb (n : Nat) (b : TraceBuf) : (s.setTrc n b).bxTb = s.bxTb := rfl
@[simp] theorem State.setTrc_pps (n : Nat) (b : TraceBuf) : (s.setTrc n b).pps = s.pps := rfl
@[simp] theorem State.setTrc_tsrc (n : Nat) (b : TraceBuf) : (s.setTrc n b).tsrc = s.tsrc := rfl
@[simp] theorem State.setTrc_links (n : Nat) (b : TraceBuf) : (s.setTrc n b).links = s.links := rfl
@[simp] theorem State.setTrc_queues (n : Nat) (b : TraceBuf) : (s.setTrc n b).queues = s.queues := rfl
@[simp] theorem State.setTrc_ep (n : Nat) (b : TraceBuf) : (s.setTrc n b).ep = s.ep := rfl
@[simp] theorem State.setTrc_red (n : Nat) (b : TraceBuf) : (s.setTrc n b).red = s.red := rfl
@[simp] theorem State.setTrc_cnp (n : Nat) (b : TraceBuf) : (s.setTrc n b).cnp = s.cnp := rfl
@[simp] theorem State.setTrc_grv (n : Nat) (b : TraceBuf) : (s.setTrc n b).grv = s.grv := rfl
@[simp] theorem State.setTrc_cor (n : Nat) (b : TraceBuf) : (s.setTrc n b).cor = s.cor := rfl
@[simp] theorem State.setTrc_wdn (n : Nat) (b : TraceBuf) : (s.setTrc n b).wdn = s.wdn := rfl
@[simp] theorem State.setTrc_tap (n : Nat) (b : TraceBuf) : (s.setTrc n b).tap = s.tap := rfl
@[simp] theorem State.setTrc_hbm (n : Nat) (b : TraceBuf) : (s.setTrc n b).hbm = s.hbm := rfl
@[simp] theorem State.setTrc_egs (n : Nat) (b : TraceBuf) : (s.setTrc n b).egs = s.egs := rfl
@[simp] theorem State.setTrc_rpl (n : Nat) (b : TraceBuf) : (s.setTrc n b).rpl = s.rpl := rfl
@[simp] theorem State.setTrc_gate (n : Nat) (b : TraceBuf) : (s.setTrc n b).gate = s.gate := rfl
@[simp] theorem State.setTrc_up (n : Nat) (b : TraceBuf) : (s.setTrc n b).up = s.up := rfl
@[simp] theorem State.setTrc_out (n : Nat) (b : TraceBuf) : (s.setTrc n b).out = s.out := rfl
@[simp] theorem State.setTrc_fresh (n : Nat) (b : TraceBuf) : (s.setTrc n b).fresh = s.fresh := rfl
@[simp] theorem State.setTrc_pending (n : Nat) (b : TraceBuf) : (s.setTrc n b).pending = s.pending := rfl

/-! setLac -/

@[simp] theorem State.setLac_regs (k : Nat) (x : Lac) : (s.setLac k x).regs = s.regs := rfl
@[simp] theorem State.setLac_zx (k : Nat) (x : Lac) : (s.setLac k x).zx = { s.zx with lacs := s.zx.lacs.set k x } := rfl
@[simp] theorem State.setLac_bxTb (k : Nat) (x : Lac) : (s.setLac k x).bxTb = s.bxTb := rfl
@[simp] theorem State.setLac_pps (k : Nat) (x : Lac) : (s.setLac k x).pps = s.pps := rfl
@[simp] theorem State.setLac_tsrc (k : Nat) (x : Lac) : (s.setLac k x).tsrc = s.tsrc := rfl
@[simp] theorem State.setLac_links (k : Nat) (x : Lac) : (s.setLac k x).links = s.links := rfl
@[simp] theorem State.setLac_queues (k : Nat) (x : Lac) : (s.setLac k x).queues = s.queues := rfl
@[simp] theorem State.setLac_ep (k : Nat) (x : Lac) : (s.setLac k x).ep = s.ep := rfl
@[simp] theorem State.setLac_red (k : Nat) (x : Lac) : (s.setLac k x).red = s.red := rfl
@[simp] theorem State.setLac_cnp (k : Nat) (x : Lac) : (s.setLac k x).cnp = s.cnp := rfl
@[simp] theorem State.setLac_grv (k : Nat) (x : Lac) : (s.setLac k x).grv = s.grv := rfl
@[simp] theorem State.setLac_cor (k : Nat) (x : Lac) : (s.setLac k x).cor = s.cor := rfl
@[simp] theorem State.setLac_wdn (k : Nat) (x : Lac) : (s.setLac k x).wdn = s.wdn := rfl
@[simp] theorem State.setLac_tap (k : Nat) (x : Lac) : (s.setLac k x).tap = s.tap := rfl
@[simp] theorem State.setLac_hbm (k : Nat) (x : Lac) : (s.setLac k x).hbm = s.hbm := rfl
@[simp] theorem State.setLac_egs (k : Nat) (x : Lac) : (s.setLac k x).egs = s.egs := rfl
@[simp] theorem State.setLac_rpl (k : Nat) (x : Lac) : (s.setLac k x).rpl = s.rpl := rfl
@[simp] theorem State.setLac_gate (k : Nat) (x : Lac) : (s.setLac k x).gate = s.gate := rfl
@[simp] theorem State.setLac_up (k : Nat) (x : Lac) : (s.setLac k x).up = s.up := rfl
@[simp] theorem State.setLac_out (k : Nat) (x : Lac) : (s.setLac k x).out = s.out := rfl
@[simp] theorem State.setLac_fresh (k : Nat) (x : Lac) : (s.setLac k x).fresh = s.fresh := rfl
@[simp] theorem State.setLac_pending (k : Nat) (x : Lac) : (s.setLac k x).pending = s.pending := rfl

/-! setChan -/

@[simp] theorem State.setChan_regs (c : Nat) (x : DmaChan) : (s.setChan c x).regs = s.regs := rfl
@[simp] theorem State.setChan_zx (c : Nat) (x : DmaChan) : (s.setChan c x).zx = s.zx := rfl
@[simp] theorem State.setChan_bxTb (c : Nat) (x : DmaChan) : (s.setChan c x).bxTb = s.bxTb := rfl
@[simp] theorem State.setChan_pps (c : Nat) (x : DmaChan) : (s.setChan c x).pps = s.pps := rfl
@[simp] theorem State.setChan_tsrc (c : Nat) (x : DmaChan) : (s.setChan c x).tsrc = s.tsrc := rfl
@[simp] theorem State.setChan_links (c : Nat) (x : DmaChan) : (s.setChan c x).links = s.links := rfl
@[simp] theorem State.setChan_queues (c : Nat) (x : DmaChan) : (s.setChan c x).queues = s.queues := rfl
@[simp] theorem State.setChan_ep (c : Nat) (x : DmaChan) : (s.setChan c x).ep = s.ep := rfl
@[simp] theorem State.setChan_red (c : Nat) (x : DmaChan) : (s.setChan c x).red = s.red := rfl
@[simp] theorem State.setChan_cnp (c : Nat) (x : DmaChan) : (s.setChan c x).cnp = s.cnp := rfl
@[simp] theorem State.setChan_grv (c : Nat) (x : DmaChan) : (s.setChan c x).grv = s.grv := rfl
@[simp] theorem State.setChan_cor (c : Nat) (x : DmaChan) : (s.setChan c x).cor = s.cor := rfl
@[simp] theorem State.setChan_wdn (c : Nat) (x : DmaChan) : (s.setChan c x).wdn = s.wdn := rfl
@[simp] theorem State.setChan_tap (c : Nat) (x : DmaChan) : (s.setChan c x).tap = s.tap := rfl
@[simp] theorem State.setChan_hbm (c : Nat) (x : DmaChan) : (s.setChan c x).hbm = { s.hbm with chans := s.hbm.chans.set c x } := rfl
@[simp] theorem State.setChan_egs (c : Nat) (x : DmaChan) : (s.setChan c x).egs = s.egs := rfl
@[simp] theorem State.setChan_rpl (c : Nat) (x : DmaChan) : (s.setChan c x).rpl = s.rpl := rfl
@[simp] theorem State.setChan_gate (c : Nat) (x : DmaChan) : (s.setChan c x).gate = s.gate := rfl
@[simp] theorem State.setChan_up (c : Nat) (x : DmaChan) : (s.setChan c x).up = s.up := rfl
@[simp] theorem State.setChan_out (c : Nat) (x : DmaChan) : (s.setChan c x).out = s.out := rfl
@[simp] theorem State.setChan_fresh (c : Nat) (x : DmaChan) : (s.setChan c x).fresh = s.fresh := rfl
@[simp] theorem State.setChan_pending (c : Nat) (x : DmaChan) : (s.setChan c x).pending = s.pending := rfl

/-! setTrs -/

@[simp] theorem State.setTrs_regs (id : Nat) (x : TrsStream) : (s.setTrs id x).regs = s.regs := rfl
@[simp] theorem State.setTrs_zx (id : Nat) (x : TrsStream) : (s.setTrs id x).zx = s.zx := rfl
@[simp] theorem State.setTrs_bxTb (id : Nat) (x : TrsStream) : (s.setTrs id x).bxTb = s.bxTb := rfl
@[simp] theorem State.setTrs_pps (id : Nat) (x : TrsStream) : (s.setTrs id x).pps = s.pps := rfl
@[simp] theorem State.setTrs_tsrc (id : Nat) (x : TrsStream) : (s.setTrs id x).tsrc = s.tsrc := rfl
@[simp] theorem State.setTrs_links (id : Nat) (x : TrsStream) : (s.setTrs id x).links = s.links := rfl
@[simp] theorem State.setTrs_queues (id : Nat) (x : TrsStream) : (s.setTrs id x).queues = s.queues := rfl
@[simp] theorem State.setTrs_ep (id : Nat) (x : TrsStream) : (s.setTrs id x).ep = s.ep := rfl
@[simp] theorem State.setTrs_red (id : Nat) (x : TrsStream) : (s.setTrs id x).red = s.red := rfl
@[simp] theorem State.setTrs_cnp (id : Nat) (x : TrsStream) : (s.setTrs id x).cnp = s.cnp := rfl
@[simp] theorem State.setTrs_grv (id : Nat) (x : TrsStream) : (s.setTrs id x).grv = s.grv := rfl
@[simp] theorem State.setTrs_cor (id : Nat) (x : TrsStream) : (s.setTrs id x).cor = s.cor := rfl
@[simp] theorem State.setTrs_wdn (id : Nat) (x : TrsStream) : (s.setTrs id x).wdn = s.wdn := rfl
@[simp] theorem State.setTrs_tap (id : Nat) (x : TrsStream) : (s.setTrs id x).tap = s.tap := rfl
@[simp] theorem State.setTrs_hbm (id : Nat) (x : TrsStream) : (s.setTrs id x).hbm = { s.hbm with trs := s.hbm.trs.set id x } := rfl
@[simp] theorem State.setTrs_egs (id : Nat) (x : TrsStream) : (s.setTrs id x).egs = s.egs := rfl
@[simp] theorem State.setTrs_rpl (id : Nat) (x : TrsStream) : (s.setTrs id x).rpl = s.rpl := rfl
@[simp] theorem State.setTrs_gate (id : Nat) (x : TrsStream) : (s.setTrs id x).gate = s.gate := rfl
@[simp] theorem State.setTrs_up (id : Nat) (x : TrsStream) : (s.setTrs id x).up = s.up := rfl
@[simp] theorem State.setTrs_out (id : Nat) (x : TrsStream) : (s.setTrs id x).out = s.out := rfl
@[simp] theorem State.setTrs_fresh (id : Nat) (x : TrsStream) : (s.setTrs id x).fresh = s.fresh := rfl
@[simp] theorem State.setTrs_pending (id : Nat) (x : TrsStream) : (s.setTrs id x).pending = s.pending := rfl

/-! setFw -/

@[simp] theorem State.setFw_regs (x : Firmware) : (s.setFw x).regs = s.regs := rfl
@[simp] theorem State.setFw_zx (x : Firmware) : (s.setFw x).zx = s.zx := rfl
@[simp] theorem State.setFw_bxTb (x : Firmware) : (s.setFw x).bxTb = s.bxTb := rfl
@[simp] theorem State.setFw_pps (x : Firmware) : (s.setFw x).pps = s.pps := rfl
@[simp] theorem State.setFw_tsrc (x : Firmware) : (s.setFw x).tsrc = s.tsrc := rfl
@[simp] theorem State.setFw_links (x : Firmware) : (s.setFw x).links = s.links := rfl
@[simp] theorem State.setFw_queues (x : Firmware) : (s.setFw x).queues = s.queues := rfl
@[simp] theorem State.setFw_ep (x : Firmware) : (s.setFw x).ep = s.ep := rfl
@[simp] theorem State.setFw_red (x : Firmware) : (s.setFw x).red = s.red := rfl
@[simp] theorem State.setFw_cnp (x : Firmware) : (s.setFw x).cnp = s.cnp := rfl
@[simp] theorem State.setFw_grv (x : Firmware) : (s.setFw x).grv = s.grv := rfl
@[simp] theorem State.setFw_cor (x : Firmware) : (s.setFw x).cor = s.cor := rfl
@[simp] theorem State.setFw_wdn (x : Firmware) : (s.setFw x).wdn = { s.wdn with fw := x } := rfl
@[simp] theorem State.setFw_tap (x : Firmware) : (s.setFw x).tap = s.tap := rfl
@[simp] theorem State.setFw_hbm (x : Firmware) : (s.setFw x).hbm = s.hbm := rfl
@[simp] theorem State.setFw_egs (x : Firmware) : (s.setFw x).egs = s.egs := rfl
@[simp] theorem State.setFw_rpl (x : Firmware) : (s.setFw x).rpl = s.rpl := rfl
@[simp] theorem State.setFw_gate (x : Firmware) : (s.setFw x).gate = s.gate := rfl
@[simp] theorem State.setFw_up (x : Firmware) : (s.setFw x).up = s.up := rfl
@[simp] theorem State.setFw_out (x : Firmware) : (s.setFw x).out = s.out := rfl
@[simp] theorem State.setFw_fresh (x : Firmware) : (s.setFw x).fresh = s.fresh := rfl
@[simp] theorem State.setFw_pending (x : Firmware) : (s.setFw x).pending = s.pending := rfl

/-! hbmPoison -/

@[simp] theorem State.hbmPoison_regs (a n : Nat) : (s.hbmPoison a n).regs = s.regs := rfl
@[simp] theorem State.hbmPoison_zx (a n : Nat) : (s.hbmPoison a n).zx = s.zx := rfl
@[simp] theorem State.hbmPoison_bxTb (a n : Nat) : (s.hbmPoison a n).bxTb = s.bxTb := rfl
@[simp] theorem State.hbmPoison_pps (a n : Nat) : (s.hbmPoison a n).pps = s.pps := rfl
@[simp] theorem State.hbmPoison_tsrc (a n : Nat) : (s.hbmPoison a n).tsrc = s.tsrc := rfl
@[simp] theorem State.hbmPoison_links (a n : Nat) : (s.hbmPoison a n).links = s.links := rfl
@[simp] theorem State.hbmPoison_queues (a n : Nat) : (s.hbmPoison a n).queues = s.queues := rfl
@[simp] theorem State.hbmPoison_ep (a n : Nat) : (s.hbmPoison a n).ep = s.ep := rfl
@[simp] theorem State.hbmPoison_red (a n : Nat) : (s.hbmPoison a n).red = s.red := rfl
@[simp] theorem State.hbmPoison_cnp (a n : Nat) : (s.hbmPoison a n).cnp = s.cnp := rfl
@[simp] theorem State.hbmPoison_grv (a n : Nat) : (s.hbmPoison a n).grv = s.grv := rfl
@[simp] theorem State.hbmPoison_cor (a n : Nat) : (s.hbmPoison a n).cor = s.cor := rfl
@[simp] theorem State.hbmPoison_wdn (a n : Nat) : (s.hbmPoison a n).wdn = s.wdn := rfl
@[simp] theorem State.hbmPoison_tap (a n : Nat) : (s.hbmPoison a n).tap = s.tap := rfl
@[simp] theorem State.hbmPoison_egs (a n : Nat) : (s.hbmPoison a n).egs = s.egs := rfl
@[simp] theorem State.hbmPoison_rpl (a n : Nat) : (s.hbmPoison a n).rpl = s.rpl := rfl
@[simp] theorem State.hbmPoison_gate (a n : Nat) : (s.hbmPoison a n).gate = s.gate := rfl
@[simp] theorem State.hbmPoison_up (a n : Nat) : (s.hbmPoison a n).up = s.up := rfl
@[simp] theorem State.hbmPoison_out (a n : Nat) : (s.hbmPoison a n).out = s.out := rfl
@[simp] theorem State.hbmPoison_fresh (a n : Nat) : (s.hbmPoison a n).fresh = s.fresh := rfl
@[simp] theorem State.hbmPoison_pending (a n : Nat) : (s.hbmPoison a n).pending = s.pending := rfl

/-! hbmWrite -/

@[simp] theorem State.hbmWrite_regs (a : Nat) (bs : Bytes) (x : Bool) : (s.hbmWrite a bs x).regs = s.regs := rfl
@[simp] theorem State.hbmWrite_zx (a : Nat) (bs : Bytes) (x : Bool) : (s.hbmWrite a bs x).zx = s.zx := rfl
@[simp] theorem State.hbmWrite_bxTb (a : Nat) (bs : Bytes) (x : Bool) : (s.hbmWrite a bs x).bxTb = s.bxTb := rfl
@[simp] theorem State.hbmWrite_pps (a : Nat) (bs : Bytes) (x : Bool) : (s.hbmWrite a bs x).pps = s.pps := rfl
@[simp] theorem State.hbmWrite_tsrc (a : Nat) (bs : Bytes) (x : Bool) : (s.hbmWrite a bs x).tsrc = s.tsrc := rfl
@[simp] theorem State.hbmWrite_links (a : Nat) (bs : Bytes) (x : Bool) : (s.hbmWrite a bs x).links = s.links := rfl
@[simp] theorem State.hbmWrite_queues (a : Nat) (bs : Bytes) (x : Bool) : (s.hbmWrite a bs x).queues = s.queues := rfl
@[simp] theorem State.hbmWrite_ep (a : Nat) (bs : Bytes) (x : Bool) : (s.hbmWrite a bs x).ep = s.ep := rfl
@[simp] theorem State.hbmWrite_red (a : Nat) (bs : Bytes) (x : Bool) : (s.hbmWrite a bs x).red = s.red := rfl
@[simp] theorem State.hbmWrite_cnp (a : Nat) (bs : Bytes) (x : Bool) : (s.hbmWrite a bs x).cnp = s.cnp := rfl
@[simp] theorem State.hbmWrite_grv (a : Nat) (bs : Bytes) (x : Bool) : (s.hbmWrite a bs x).grv = s.grv := rfl
@[simp] theorem State.hbmWrite_cor (a : Nat) (bs : Bytes) (x : Bool) : (s.hbmWrite a bs x).cor = s.cor := rfl
@[simp] theorem State.hbmWrite_wdn (a : Nat) (bs : Bytes) (x : Bool) : (s.hbmWrite a bs x).wdn = s.wdn := rfl
@[simp] theorem State.hbmWrite_tap (a : Nat) (bs : Bytes) (x : Bool) : (s.hbmWrite a bs x).tap = s.tap := rfl
@[simp] theorem State.hbmWrite_egs (a : Nat) (bs : Bytes) (x : Bool) : (s.hbmWrite a bs x).egs = s.egs := rfl
@[simp] theorem State.hbmWrite_rpl (a : Nat) (bs : Bytes) (x : Bool) : (s.hbmWrite a bs x).rpl = s.rpl := rfl
@[simp] theorem State.hbmWrite_gate (a : Nat) (bs : Bytes) (x : Bool) : (s.hbmWrite a bs x).gate = s.gate := rfl
@[simp] theorem State.hbmWrite_up (a : Nat) (bs : Bytes) (x : Bool) : (s.hbmWrite a bs x).up = s.up := rfl
@[simp] theorem State.hbmWrite_out (a : Nat) (bs : Bytes) (x : Bool) : (s.hbmWrite a bs x).out = s.out := rfl
@[simp] theorem State.hbmWrite_fresh (a : Nat) (bs : Bytes) (x : Bool) : (s.hbmWrite a bs x).fresh = s.fresh := rfl
@[simp] theorem State.hbmWrite_pending (a : Nat) (bs : Bytes) (x : Bool) : (s.hbmWrite a bs x).pending = s.pending := rfl

/-! hbmWipe -/

@[simp] theorem State.hbmWipe_regs (a n : Nat) : (s.hbmWipe a n).regs = s.regs := rfl
@[simp] theorem State.hbmWipe_zx (a n : Nat) : (s.hbmWipe a n).zx = s.zx := rfl
@[simp] theorem State.hbmWipe_bxTb (a n : Nat) : (s.hbmWipe a n).bxTb = s.bxTb := rfl
@[simp] theorem State.hbmWipe_pps (a n : Nat) : (s.hbmWipe a n).pps = s.pps := rfl
@[simp] theorem State.hbmWipe_tsrc (a n : Nat) : (s.hbmWipe a n).tsrc = s.tsrc := rfl
@[simp] theorem State.hbmWipe_links (a n : Nat) : (s.hbmWipe a n).links = s.links := rfl
@[simp] theorem State.hbmWipe_queues (a n : Nat) : (s.hbmWipe a n).queues = s.queues := rfl
@[simp] theorem State.hbmWipe_ep (a n : Nat) : (s.hbmWipe a n).ep = s.ep := rfl
@[simp] theorem State.hbmWipe_red (a n : Nat) : (s.hbmWipe a n).red = s.red := rfl
@[simp] theorem State.hbmWipe_cnp (a n : Nat) : (s.hbmWipe a n).cnp = s.cnp := rfl
@[simp] theorem State.hbmWipe_grv (a n : Nat) : (s.hbmWipe a n).grv = s.grv := rfl
@[simp] theorem State.hbmWipe_cor (a n : Nat) : (s.hbmWipe a n).cor = s.cor := rfl
@[simp] theorem State.hbmWipe_wdn (a n : Nat) : (s.hbmWipe a n).wdn = s.wdn := rfl
@[simp] theorem State.hbmWipe_tap (a n : Nat) : (s.hbmWipe a n).tap = s.tap := rfl
@[simp] theorem State.hbmWipe_egs (a n : Nat) : (s.hbmWipe a n).egs = s.egs := rfl
@[simp] theorem State.hbmWipe_rpl (a n : Nat) : (s.hbmWipe a n).rpl = s.rpl := rfl
@[simp] theorem State.hbmWipe_gate (a n : Nat) : (s.hbmWipe a n).gate = s.gate := rfl
@[simp] theorem State.hbmWipe_up (a n : Nat) : (s.hbmWipe a n).up = s.up := rfl
@[simp] theorem State.hbmWipe_out (a n : Nat) : (s.hbmWipe a n).out = s.out := rfl
@[simp] theorem State.hbmWipe_fresh (a n : Nat) : (s.hbmWipe a n).fresh = s.fresh := rfl
@[simp] theorem State.hbmWipe_pending (a n : Nat) : (s.hbmWipe a n).pending = s.pending := rfl

/-! draw -/

@[simp] theorem State.draw_regs (w : Nat) : (s.draw w).2.regs = s.regs := rfl
@[simp] theorem State.draw_zx (w : Nat) : (s.draw w).2.zx = s.zx := rfl
@[simp] theorem State.draw_bxTb (w : Nat) : (s.draw w).2.bxTb = s.bxTb := rfl
@[simp] theorem State.draw_pps (w : Nat) : (s.draw w).2.pps = s.pps := rfl
@[simp] theorem State.draw_tsrc (w : Nat) : (s.draw w).2.tsrc = s.tsrc := rfl
@[simp] theorem State.draw_links (w : Nat) : (s.draw w).2.links = s.links := rfl
@[simp] theorem State.draw_queues (w : Nat) : (s.draw w).2.queues = s.queues := rfl
@[simp] theorem State.draw_ep (w : Nat) : (s.draw w).2.ep = s.ep := rfl
@[simp] theorem State.draw_red (w : Nat) : (s.draw w).2.red = s.red := rfl
@[simp] theorem State.draw_cnp (w : Nat) : (s.draw w).2.cnp = s.cnp := rfl
@[simp] theorem State.draw_grv (w : Nat) : (s.draw w).2.grv = s.grv := rfl
@[simp] theorem State.draw_cor (w : Nat) : (s.draw w).2.cor = s.cor := rfl
@[simp] theorem State.draw_wdn (w : Nat) : (s.draw w).2.wdn = s.wdn := rfl
@[simp] theorem State.draw_tap (w : Nat) : (s.draw w).2.tap = s.tap := rfl
@[simp] theorem State.draw_hbm (w : Nat) : (s.draw w).2.hbm = s.hbm := rfl
@[simp] theorem State.draw_egs (w : Nat) : (s.draw w).2.egs = s.egs := rfl
@[simp] theorem State.draw_rpl (w : Nat) : (s.draw w).2.rpl = s.rpl := rfl
@[simp] theorem State.draw_gate (w : Nat) : (s.draw w).2.gate = s.gate := rfl
@[simp] theorem State.draw_up (w : Nat) : (s.draw w).2.up = s.up := rfl
@[simp] theorem State.draw_out (w : Nat) : (s.draw w).2.out = s.out := rfl
@[simp] theorem State.draw_fresh (w : Nat) : (s.draw w).2.fresh = s.fresh + 1 := rfl
@[simp] theorem State.draw_pending (w : Nat) : (s.draw w).2.pending = s.pending := rfl

/-! reads of registers that an update outside them leaves alone -/

@[simp] theorem State.rd_emit (fld_ : Fld) (j_ : Nat) (o : Out) : (s.emit o).rd fld_ j_ = s.rd fld_ j_ := rfl
@[simp] theorem State.rd_setDie (fld_ : Fld) (j_ : Nat) (d : Nat) (x : DieId) : (s.setDie d x).rd fld_ j_ = s.rd fld_ j_ := rfl
@[simp] theorem State.rd_setLink (fld_ : Fld) (j_ : Nat) (e : LinkId) (l : LinkEnd) : (s.setLink e l).rd fld_ j_ = s.rd fld_ j_ := rfl
@[simp] theorem State.rd_modLink (fld_ : Fld) (j_ : Nat) (e : LinkId) (f : LinkEnd → LinkEnd) : (s.modLink e f).rd fld_ j_ = s.rd fld_ j_ := rfl
@[simp] theorem State.rd_setPort (fld_ : Fld) (j_ : Nat) (q : Nat) (p : CnpPort) : (s.setPort q p).rd fld_ j_ = s.rd fld_ j_ := rfl
@[simp] theorem State.rd_setHbm (fld_ : Fld) (j_ : Nat) (h : Hbm) : (s.setHbm h).rd fld_ j_ = s.rd fld_ j_ := rfl
@[simp] theorem State.rd_setZxPort (fld_ : Fld) (j_ : Nat) (p : Nat) (z : ZxPort) : (s.setZxPort p z).rd fld_ j_ = s.rd fld_ j_ := rfl
@[simp] theorem State.rd_setRing (fld_ : Fld) (j_ : Nat) (f : Nat) (r : EvRing) : (s.setRing f r).rd fld_ j_ = s.rd fld_ j_ := rfl
@[simp] theorem State.rd_setPeer (fld_ : Fld) (j_ : Nat) (a : Nat) (p : Peer) : (s.setPeer a p).rd fld_ j_ = s.rd fld_ j_ := rfl
@[simp] theorem State.rd_setStaged (fld_ : Fld) (j_ : Nat) (g : Option Staged) : (s.setStaged g).rd fld_ j_ = s.rd fld_ j_ := rfl
@[simp] theorem State.rd_setEgs (fld_ : Fld) (j_ : Nat) (e : Egress) : (s.setEgs e).rd fld_ j_ = s.rd fld_ j_ := rfl
@[simp] theorem State.rd_setGate (fld_ : Fld) (j_ : Nat) (g : Gate) : (s.setGate g).rd fld_ j_ = s.rd fld_ j_ := rfl
@[simp] theorem State.rd_setRpl (fld_ : Fld) (j_ : Nat) (r : Replay) : (s.setRpl r).rd fld_ j_ = s.rd fld_ j_ := rfl
@[simp] theorem State.rd_setUp (fld_ : Fld) (j_ : Nat) (u : PowerUp) : (s.setUp u).rd fld_ j_ = s.rd fld_ j_ := rfl
@[simp] theorem State.rd_setCorDie (fld_ : Fld) (j_ : Nat) (d : Nat) (x : DieCorr) : (s.setCorDie d x).rd fld_ j_ = s.rd fld_ j_ := rfl
@[simp] theorem State.rd_setQueue (fld_ : Fld) (j_ : Nat) (k : Nat) (q : Queue) : (s.setQueue k q).rd fld_ j_ = s.rd fld_ j_ := rfl
@[simp] theorem State.rd_setBlz (fld_ : Fld) (j_ : Nat) (u : Nat) (x : BlzUnit) : (s.setBlz u x).rd fld_ j_ = s.rd fld_ j_ := rfl
@[simp] theorem State.rd_setTap (fld_ : Fld) (j_ : Nat) (t : Nat) (x : Tap) : (s.setTap t x).rd fld_ j_ = s.rd fld_ j_ := rfl
@[simp] theorem State.rd_setTrc (fld_ : Fld) (j_ : Nat) (n : Nat) (b : TraceBuf) : (s.setTrc n b).rd fld_ j_ = s.rd fld_ j_ := rfl
@[simp] theorem State.rd_setLac (fld_ : Fld) (j_ : Nat) (k : Nat) (x : Lac) : (s.setLac k x).rd fld_ j_ = s.rd fld_ j_ := rfl
@[simp] theorem State.rd_setChan (fld_ : Fld) (j_ : Nat) (c : Nat) (x : DmaChan) : (s.setChan c x).rd fld_ j_ = s.rd fld_ j_ := rfl
@[simp] theorem State.rd_setTrs (fld_ : Fld) (j_ : Nat) (id : Nat) (x : TrsStream) : (s.setTrs id x).rd fld_ j_ = s.rd fld_ j_ := rfl
@[simp] theorem State.rd_setFw (fld_ : Fld) (j_ : Nat) (x : Firmware) : (s.setFw x).rd fld_ j_ = s.rd fld_ j_ := rfl
@[simp] theorem State.rd_hbmPoison (fld_ : Fld) (j_ : Nat) (a n : Nat) : (s.hbmPoison a n).rd fld_ j_ = s.rd fld_ j_ := rfl
@[simp] theorem State.rd_hbmWrite (fld_ : Fld) (j_ : Nat) (a : Nat) (bs : Bytes) (x : Bool) : (s.hbmWrite a bs x).rd fld_ j_ = s.rd fld_ j_ := rfl
@[simp] theorem State.rd_hbmWipe (fld_ : Fld) (j_ : Nat) (a n : Nat) : (s.hbmWipe a n).rd fld_ j_ = s.rd fld_ j_ := rfl
@[simp] theorem State.link_setLink (e : LinkId) (l : LinkEnd) : (s.setLink e l).link e = l := SMap.getD_set_same _ _ _ _
@[simp] theorem State.link_modLink (e : LinkId) (f : LinkEnd → LinkEnd) : (s.modLink e f).link e = f (s.link e) := SMap.getD_set_same _ _ _ _

end Sys2Proof.Machine
end

