-- ==== Sys2Proof/Machine/Flags.lean ====
section
/-! DEFINITION. ZX40's outputs that hold a level (Table 2-1): the interrupt pins (R80), the isolation, quiet and poison pins, the Stem and sensor
controls and the AXI4 channels that never move. -/
namespace Sys2Proof.Machine

/-- A bit of ZX_IRQ_STS that its bit of ZX_IRQ_EN lets through: an enable is kept under the field at its bit position. -/
def State.irqOn (s : State) (sts en : Fld) : Bool := s.flag sts && s.flag en

/-- zx_irq[0]: ALARM with its enable (R80). -/
def State.irqAlarm (s : State) : Bool := s.irqOn ZX_IRQ_STS_ALARM ZX_IRQ_EN_ALARM

/-- zx_irq[1]: SNS, TAP, APB or LOG, each with its enable (R80). -/
def State.irqEvent (s : State) : Bool :=
  s.irqOn ZX_IRQ_STS_SNS ZX_IRQ_EN_SNS || s.irqOn ZX_IRQ_STS_TAP ZX_IRQ_EN_TAP || s.irqOn ZX_IRQ_STS_APB ZX_IRQ_EN_APB ||
    s.irqOn ZX_IRQ_STS_LOG ZX_IRQ_EN_LOG

/-- zx_irq[2]: TRACE with its enable (R80). -/
def State.irqTrace (s : State) : Bool := s.irqOn ZX_IRQ_STS_TRACE ZX_IRQ_EN_TRACE

/-- stm_pma_rst_n: low while the Stem end is in RESET, and while the switched domain is off or in reset (R133); the self-monitoring ZX40 has no
PMA to release (R137). -/
def State.stmPmaRstN (s : State) : Bool := !s.flag ZX_BUILD_SELFMON && decide (s.zx.pwr < 2) && !s.zx.inReset && decide ((s.link .zx).lstate ≠ .reset)

/-- stm_tx_en: the PCS drives valid words: markers or flits, in every state that follows the PMA's reset (R133). -/
def State.stmTxEn (s : State) : Bool := s.stmPmaRstN && decide ((s.link .zx).lstate ≠ .downHold)

/-- sns_res_ready: ZX40 accepts a result in every cycle in which it runs. -/
def State.snsResReady (s : State) : Bool := decide (s.zx.pwr < 2) && !s.zx.inReset

/-- ARVALID is held 0 and RREADY and BREADY 1: write responses are accepted at any time (R51, R77). -/
def State.arValid (_ : State) : Bool := false
def State.rReady (_ : State) : Bool := true
def State.bReady (_ : State) : Bool := true

/-- zx_iso_n, zx_quiet and zx_pwr_ack as they stand. -/
def State.zxIsoN (s : State) : Bool := s.zx.isoN
def State.zxQuietPin (s : State) : Bool := s.zx.quiet
def State.zxPwrAck (s : State) : Nat := s.zx.pwr

/-- psn_valid, with psn_addr: the granule of the request held (R61). -/
def State.psnPins (s : State) : Bool × Nat :=
  match (s.zx.psnQ.head?).bind List.head? with
  | none => (false, 0)
  | some a => (true, a)

/-- lac_out: the launch-at-count outputs that are high (R175). -/
def State.lacOut (s : State) : Nat := maskOf 8 (fun k => decide (0 < (s.zx.lacs.getD k {}).high))

/-- The three interrupt pins as a word. -/
def State.zxIrq (s : State) : Nat := packFields [(0, 1, b2n s.irqAlarm), (1, 1, b2n s.irqEvent), (2, 1, b2n s.irqTrace)]

end Sys2Proof.Machine
end

