-- ==== Sys2Proof/Tests/Slice0.lean ====
section
/-! SUPPORT. The model's own tests: ill-formed commands refused, the spec's worked examples, and for every statement with hypotheses a
witness: states and operands that meet them all together. -/
open Sys2Proof Sys2Proof.Machine
namespace Sys2Proof.Tests
set_option maxRecDepth 200000
set_option Elab.async false

/-! ## Ill-formed commands are refused by WellFormed: one term for each check -/

def tCap : Cap := { path := 0, tenant := 0, tag := 7, replyPtr := 4096, params := [1, 2] }

theorem test_wf_accepts : Instr.wf (.helloResend 23) = true ∧ Instr.wf (.sysNop tCap) = true ∧ Instr.wf (.flitTransmit (.stem 64) false) = true ∧
    Instr.wf (.registerRead (.apb 0xFFFFC true)) = true ∧ Instr.wf (.registerRead (.bar 0 .BX_SYS_ID 0)) = true := by decide
theorem test_wf_refuses_capsules : Instr.wf (.sysNop { tCap with path := 4 }) = false ∧ Instr.wf (.sysNop { tCap with tenant := 64 }) = false ∧
    Instr.wf (.sysNop { tCap with fn := 64 }) = false ∧ Instr.wf (.sysNop { tCap with qp := 4 }) = false ∧
    Instr.wf (.sysNop { tCap with tag := 65536 }) = false ∧ Instr.wf (.sysNop { tCap with replyPtr := 2 ^ 64 }) = false ∧
    Instr.wf (.sysNop { tCap with params := [2 ^ 64] }) = false := by decide
theorem test_wf_refuses_ports : Instr.wf (.helloResend 24) = false ∧ Instr.wf (.peerLostDeclare 4096) = false ∧
    Instr.wf (.stemPortRetrainWrite 64) = false ∧ Instr.wf (.flitTransmit (.stem 65) false) = false ∧
    Instr.wf (.flitTransmit (.canopy 24) false) = false ∧ Instr.wf (.egressRelease 25) = false ∧
    Instr.wf (.groveScore 65 0 true none) = false ∧ Instr.wf (.groveScore 0 8 true none) = false ∧ Instr.wf (.probeRetryTimeout (2 ^ 18)) = false := by decide
theorem test_wf_refuses_flits_of_another_length : Instr.wf (.flitReceive .zx (List.replicate 33 0)) = false ∧
    Instr.wf (.flitReceive (.canopy 0) (List.replicate 31 0)) = false ∧ Instr.wf (.flitReceive .zx (List.replicate 32 (2 ^ 64))) = false ∧ Instr.wf (.todFrame (zeroBytes 15)) = false := by decide
theorem test_wf_refuses_link_fields : Instr.wf (.linkLockLoss .zx 16) = false ∧ Instr.wf (.linkAlignDone .zx ⟨256, [0, 0, 0, 0]⟩) = false ∧ Instr.wf (.linkAlignDone .zx ⟨0xE4, [0]⟩) = false := by decide
theorem test_wf_refuses_register_accesses : Instr.wf (.registerRead (.apb 0x100000 true)) = false ∧
    Instr.wf (.registerRead (.apb 2 true)) = false ∧ Instr.wf (.registerRead (.bar 64 .BX_SYS_ID 0)) = false ∧
    Instr.wf (.registerRead (.bar 0 .ZX_ID 0)) = false ∧ Instr.wf (.registerWrite (.apb 0 true) (2 ^ 32) 15) = false ∧
    Instr.wf (.registerWrite (.apb 0 true) 0 16) = false ∧ Instr.wf (.registerWrite (.bar 0 .BX_SYS_ID 0) (2 ^ 64) 15) = false ∧
    Instr.wf (.zxApbAccessInReset 6 true 0) = false := by decide
theorem test_wf_refuses_zx40_operands : Instr.wf (.zxCtrSelWrite 16384 0 true) = false ∧ Instr.wf (.zxLsCtrlWrite (2 ^ 32)) = false ∧
    Instr.wf (.barrierArrival 16) = false ∧ Instr.wf (.tapLatchTimeout 128) = false ∧ Instr.wf (.stretchTrip 16) = false ∧
    Instr.wf (.droopTrip 32) = false ∧ Instr.wf (.sensorResult 160 0 false) = false ∧ Instr.wf (.sensorResult 0 65536 false) = false ∧
    Instr.wf (.drainBresp 16 true) = false ∧ Instr.wf (.zxPowerRequest 4) = false ∧ Instr.wf (.traceArm 8) = false ∧
    Instr.wf (.traceLineTrigger 0 64) = false ∧ Instr.wf (.stemAckReceive true (2 ^ 48)) = false := by decide
theorem test_wf_refuses_units : Instr.wf (.lacFire 8) = false ∧ Instr.wf (.blazeClassify 16) = false ∧
    Instr.wf (.blazeRefetchTimeout 0 16) = false ∧ Instr.wf (.blzCfgWrite .zx 32 0 0) = false ∧ Instr.wf (.blzCfgWrite .zx 0 3 0) = false ∧
    Instr.wf (.replayBankFilled 16) = false ∧ Instr.wf (.replayKat 256 true) = false ∧ Instr.wf (.delayRespReceive 65536 0) = false ∧
    Instr.wf (.stepCommit (2 ^ 32)) = false ∧ Instr.wf (.testDeadline (2 ^ 18)) = false := by decide
theorem test_wf_refuses_host_and_management_operands : Instr.wf (.dmaDoorbell 128 0) = false ∧ Instr.wf (.dmaDoorbell 0 65536) = false ∧
    Instr.wf (.sqDoorbell 64 0 0) = false ∧ Instr.wf (.cqHeadWrite 0 4 0) = false ∧
    Instr.wf (.capsuleFetch [] [] [] 0 false true) = false ∧ Instr.wf (.capsuleFetch [0, 0, 0, 0, 0, 0, 0, 2 ^ 64] [] [] 0 false true) = false ∧
    Instr.wf (.eventPost 0 0 (zeroBytes 57)) = false ∧ Instr.wf (.eventPost 0 256 []) = false ∧ Instr.wf (.mctpMessage true true true 4 []) = false ∧
    Instr.wf (.setEndpointId 256) = false ∧ Instr.wf (.getMctpVersionSupport 256) = false ∧ Instr.wf (.wedgeDeclare 8) = false ∧
    Instr.wf (.tapKick (2 ^ 64)) = false ∧ Instr.wf (.bringupTimeout 9) = false ∧ Instr.wf (.probeReplyReceive 0 256) = false ∧
    Instr.wf (.safetyDetection 65536 0 [] none false false) = false ∧ Instr.wf (.powerThrottle 65536) = false := by decide

/-! ## The spec's worked examples -/

/-- The schedule before Table 1-4. -/
def tSched : Sched := ⟨3600000000000, 7200000, 3⟩
theorem test_epoch_of_table_1_4 : (tSched.open_ 7200010, tSched.close 7200010, tSched.horizon 7200010) = (3600005000000, 3600005500000, 3600007000000) := by decide
/-- The new schedule of Table 1-8. -/
def tSched2 : Sched := ⟨3600060000000, 7200120, 2⟩
theorem test_horizons_of_table_1_8 : (tSched.horizon 7200119, tSched2.close 7200120, tSched2.horizon 7200120, tSched2.horizon 7200123) =
    (3600061500000, 3600060250000, 3600061000000, 3600061750000) := by decide

/-- Each 1 of a lane word returns 39 and 58 bits later (R129). -/
theorem test_scrambler_taps : scramble64 0 1 = 1 + 2 ^ 39 + 2 ^ 58 := by decide +kernel
theorem test_descrambler_recovers_the_word : descramble64 0x123456789ABCDEF (scramble64 0x123456789ABCDEF 0xFEDCBA9876543210) = 0xFEDCBA9876543210 := by decide +kernel

/-- The queue of Table 4-3: a packet queue of 8 words, its words and open words after a command. -/
def tQ8 : QShape := { cap := 8, packet := true }
def tRun (s : State) (l : List Instr) : State := l.foldl (fun (s : State) i =>
  match exec i s with
  | .next t => t
  | _ => s) s
def tLen (s : State) : Nat × Nat × Bool × Nat := ((s.queue 0 tQ8).words.length, (s.queue 0 tQ8).open_.length, (s.queue 0 tQ8).dropping, (s.queue 0 tQ8).droppedWords)
def tFull : State := { State.reset with queues := [(0, { part := .bx, cap := 8, packet := true, open_ := (List.range 7).map (fun n => { data := n }) })] }
theorem test_queue_of_table_4_3_aborts_the_packet_that_fills_it : tLen (tRun tFull [.queuePush 0 tQ8 0xB7 false false [] 0]) = (0, 0, true, 8) := by decide

/-- The word of chapter 7's example and the check byte in it. -/
theorem test_word_crc_of_the_blaze_example : wcrc 0x9C417E051A415B87 = 0x87 := by decide

/-- The model of Table 9-8: two trees over three features, in the tree form. -/
def tModel : MHdr := { magic := 0, ver := 0, form := 0, depth := 2, modelId := 0, modelVer := 0, nclass := 3, tieAbstain := false, ntrees := 2, npred := 3, nleaf := 6, nmask := 1, nrules := 0, nfeat := 3, voteMin := 0, part := 0, partCount := 1, firstTree := 0, totalTrees := 2, len := 0, crc := 0 }
def tImage : Bytes := zeroBytes 96 ++ leBytes 8 0x12 ++ leBytes 8 0x000000003F000000 ++ leBytes 8 0x2000000180000000 ++ leBytes 8 0x4000000200000000 ++
  [0x0000012C, 0x010001F4, 0x02000190, 0x010002BC, 0x00000190, 0x0200012C].flatMap (leBytes 4) ++
  [0, 1, 2, 0, 1, 2, 3, 0].flatMap (leBytes 2) ++ [1, 0, 0, 4, 4, 5, 5, 0].flatMap (leBytes 2)
theorem test_grove_vector_a_of_table_9_8 : modelSums tImage tModel.binary tModel (fun i => [some 0x3F000000, some 0x80000000, some 0x40800000].getD i none) =
    some [0, 700, 300] := by decide
theorem test_grove_vector_b_of_table_9_8 : modelSums tImage tModel.binary tModel (fun i => [none, some 1, some 0x40200000].getD i none) =
    some [0, 500, 300] := by decide
theorem test_grove_vote_breaks_a_tie_low_or_abstains : (voteOf [400, 0, 400] 0 false).cls = 0 ∧ (voteOf [400, 0, 400] 0 true).status = 1 := by decide

/-- The element of Table 11-7 under an order of INNER. -/
def tApd (inner : Nat) : Apd := { h := [0, 0, packFields [(60, 4, 5), (54, 4, 5), (43, 4, 3)], packFields [(52, 4, 5), (46, 6, 10)], packFields [(60, 4, 2), (58, 2, inner), (48, 8, 1)], 0, 0, 0], codes := [], ops := [], funs := [] }
def tJob : RplJob := { words := [0, 0, packFields [(42, 21, 1), (21, 21, 1), (0, 21, 4)]], seq := 0 }
def tOps : Operands := { a := { data := [0x78, 0x20, 0x20, 0xF8] }, b := { data := [0x38, 0x38, 0x38, 0x38] }, bias := [], scale := [] }
theorem test_replay_exact_of_table_11_7 : (tApd 0).output tJob tOps = ([0x3400], []) := by decide
theorem test_replay_pairwise_of_table_11_7 : (tApd 2).output tJob tOps = ([0x3000], []) := by decide
theorem test_replay_serial_of_table_11_7 : (tApd 1).output tJob tOps = ([0], []) := by decide

/-- Table 10-1: the fifth and sixth epoch of the lagging die (ALPHA_SHIFT 3, M = 36). -/
def tGroup : BarGroup := { home := 0, num := 0, line := 0, members := [], windowNs := 0, alphaShift := 3, lagThr := 45875, lagHold := 2 }
def tArr (rank : Nat) : List (Nat × Nat) := (List.range 36).map (fun j => (j, if j + 1 = rank then 99 else j))
theorem test_lag_score_of_table_10_1 : (scoreMember tGroup 36 0 true (tArr 36) 99 { s := 45417 }).1.s = 47931 := by decide +kernel
theorem test_lag_due_of_table_10_1 : ((scoreMember tGroup 36 0 true (tArr 33) 99 { s := 47931, count := 1 }).1.s,
    (scoreMember tGroup 36 0 true (tArr 33) 99 { s := 47931, count := 1 }).2.1) = (49429, true) := by decide +kernel

/-! ## Witnesses of the statements: each theorem meets one clause's hypotheses at a concrete state and operands, by applying the clause -/

def cOp : Cap := { path := 0, tenant := 0, tag := 7, replyPtr := 4096, params := [50, 0, 0, 0, 0, 0] }
def cGen : Cap := { path := 0, tenant := 0, tag := 7, replyPtr := 4096, params := [1, 1000, 8] }
def gA : GenRec := { gen := 1, sched := ⟨1000, 50, 0⟩, cfg := { k := 0, tree := [{ agg := 0, parent := 0, buddy := 1, root := true }, { agg := 1, parent := 0, buddy := 0 }] } }
def wEp : State := { State.reset with ep := { gens := [gA] }, bxTb := { count := 63500 * 2 ^ 32, state := .locked }, red := { lastClosed := some 49 } }
def wRoot : State := (wEp.wr BX_CNP_FAB_STS_ROLE 0 1)
def wChild : State := ({ wEp with ep := { wEp.ep with gens := [{ gA with cfg := { gA.cfg with tree := [{ agg := 1, parent := 0, buddy := 0, root := true }, { agg := 0, parent := 1, buddy := 1 }] } }] } }.wr BX_CNP_FAB_STS_ACT_PARENT 0 1)
def wWait : State := { wEp with red := { wEp.red with waiting := [50, 51] } }
def full16 : List Ctx := (List.range 16).map (fun n => ({ epoch := n } : Ctx))
def wHor : State := { wRoot with red := { wRoot.red with ctxs := [{ epoch := 50 }] }, bxTb := { count := 300000 * 2 ^ 32, state := .locked } }
def wRev : State := { wRoot with red := { wRoot.red with ctxs := [{ epoch := 50, merged := [(0, 1)] }] } }
def wCom : State := (((wEp.wr BX_EPC_STATE_WM_SYNCED 0 1).wr BX_EPC_STATE_WM_VALID 0 1).wr BX_EPC_STATE_WATERMARK 0 50)
def rE : RecEntry := { epoch := 50, view := 64, committed := true, revision := 1, bytes := zeroBytes 48 }
def wRec : State := { wCom with ep := { wCom.ep with records := [rE] } }
def wLate : State := { wEp.wr BX_EPC_STATE_WM_SYNCED 0 1 with ep := { wEp.ep with waits := [⟨{ cOp with params := [50, 0, 0, 60] }, 10⟩, ⟨{ cOp with params := [50, 0, 0, 60] }, 70000⟩] } }
def sgA : Staged := { gen := 1, cfg := {} }
def wStg : State := { State.reset with ep := { staged := some sgA } }
def wArmed : State := { State.reset with ep := { staged := some { sgA with armed := some (1000, 50) } }, bxTb := { count := 2000 * 2 ^ 32 } }
def wZxArm : State := { State.reset with zx := { State.reset.zx with armed := some (1000, 50, 0), tb := { count := 2000 * 2 ^ 32 } } }
def wPar : State := wChild
def recB : Bytes := zeroBytes 44 ++ leBytes 4 (crc32c (zeroBytes 48))
def w0 : State := { State.reset with zx := { State.reset.zx with isoN := true } }
def wTap : State := { State.reset with zx := { State.reset.zx with taps := [(3, { latchPending := true })], tb := { State.reset.zx.tb with ticks := 1000000 } } }
def wTick : State := { State.reset with zx := { State.reset.zx with tb := { State.reset.zx.tb with ticks := 1000000 } } }
def wRet : State := { State.reset with zx := { State.reset.zx with lc := 3 } }
def wSch : State := { State.reset with zx := { State.reset.zx with sched := some ⟨1000, 50, 0⟩, tb := { count := 63500 * 2 ^ 32, state := .locked }, heldAtOpen := true, wholeLocked := true, lastEpoch := some 49 } }
def wSns : State := { State.reset with zx := { State.reset.zx with snsWin := some { epoch := 50, endNs := 100 } } }
def wEnt : State := { State.reset with zx := { State.reset.zx with log := [{ incarnation := 1, epoch := 50, cNs := 63500, gen := 1, sns := some [] }], tb := { count := 100 * 2 ^ 32 }, snsWin := some { epoch := 50, endNs := 100 } } }
def wPsn : State := { State.reset with zx := { State.reset.zx with psnQ := [[16, 17], [40]] } }
def wRst : State := { State.reset with zx := { State.reset.zx with inReset := true } }
def wBind : State := ({ State.reset with zx := { State.reset.zx with ctrSel := [(7, 2147483648 + 5 * 16777216)] } } : State).wr ZX_SEC_BIND_TENANT 0 5
def wQw : State := { State.reset with zx := { State.reset.zx with quiet := true } }
def cI1 : Cap := { path := 3, tenant := 0, tag := 9, params := [1, 36, 1, 5, 0, 0] }
def wSg1 : State := State.reset.wr ZX_EPC_ID_STAGED_GEN 0 1
def wSg2 : State := wSg1.wr ZX_EPC_ID_STAGED 0 1
def cAdm : Cap := { path := 3, tenant := 0, tag := 9, params := [70, 5, 1] }
def cImg : Cap := { path := 3, tenant := 0, tag := 9, params := [1, 64, 1, 2, 3, 4] }
def cArm : Cap := { path := 3, tenant := 0, tag := 9, params := [1, 5000, 60, 2] }
def cLc : Cap := { path := 3, tenant := 0, tag := 9, params := [3] }
def cWt : Cap := { path := 3, tenant := 0, tag := 9, params := [2, 1, 100, 3] }
def cWt0 : Cap := { path := 3, tenant := 0, tag := 9, params := [2, 0, 0, 0] }
def cDone : Cap := { path := 3, tenant := 0, tag := 9, params := [1, zxCfgCrc (fun a => (wSg1.zx.shadow.find? a).getD (wSg1.zxLive a)), 0] }
def wDone : State := { wSg1 with zx := { wSg1.zx with caps := [(0x0211, cDone)] } }
def wBuf : State := ({ State.reset with zx := { State.reset.zx with trc := [(2, { state := .armed, cfg := 1 * 2 ^ 46 + 5 * 2 ^ 32 + 3 * 2 ^ 52 })] } } : State)
def wCfgB : State := State.reset.wr ZX_TRC_CFG_MODE 2 1
def wInQ : State := { State.reset with zx := { State.reset.zx with trc := [(2, { state := .armed, cfg := 1 * 2 ^ 46, inQ := [trec 0 5 7] })] } }
def wDrn : State := ({ State.reset with zx := { State.reset.zx with trc := [(2, { state := .armed, cfg := 2 * 2 ^ 46 + 1 * 2 ^ 44, recs := [trec 0 5 7, trec 0 6 8] })] } } : State)
def wBst : State := { State.reset with zx := { State.reset.zx with bursts := [{ id := 4, buf := 2, addr := 0, count := 2, at_ := 0 }], trc := [(2, { state := .armed, cfg := 2 * 2 ^ 46 + 1 * 2 ^ 44, recs := [trec 0 5 7, trec 0 6 8] })] } }
def wDump : State := { State.reset with zx := { State.reset.zx with dump := [1, 2] } }
def wHeld : State := ((({ State.reset with zx := { State.reset.zx with dump := [1, 2] } } : State).wr ZX_HD_STS_HELD 0 1).wr ZX_HD_STS_SENT 0 1)
def cInt : Cap := { path := 3, tenant := 0, tag := 9, params := [0, 2, 0, 0, 0, 0] }
def wAck : State := { State.reset with zx := { State.reset.zx with lastEpoch := some 50 } }
def wHang : State := (((({ State.reset with zx := { State.reset.zx with tb := { count := 9000 * 2 ^ 32 } } } : State).wr ZX_HD_CFG_BAR_US 0 5).wr ZX_HD_CFG_BAR_MASK 0 1))
def shp : QShape := { part := .zx, cap := 4 }
def shpP : QShape := { part := .zx, packet := true, drop := true, cap := 4 }
def qA : Queue := { part := .zx, cap := 4, words := [{ word := { data := 3 }, stamp := 0 }] }
def qF : Queue := { part := .zx, cap := 1, drop := true, words := [{ word := { data := 3 }, stamp := 0 }] }
def qS : Queue := { part := .zx, cap := 1, words := [{ word := { data := 3 }, stamp := 0 }] }
def qP : Queue := { part := .zx, packet := true, drop := true, cap := 4, open_ := [{ data := 7 }] }
def qE : Queue := { part := .zx, cap := 4 }
def cRd : Cap := { path := 3, tenant := 0, tag := 9, params := [0, 28, 0, 5] }
def cRdOp : Cap := { path := 0, tenant := 0, tag := 9, params := [2, 28, 0, 5] }
def xIrq : ApbWord := { reg := .ZX_IRQ_EN, idx := 0, base := 28, wide := false, high := false }
def wUp2 : State := State.reset.modLink (.stem 2) (fun l => { l with lstate := .active })
def cPort : Cap := { path := 0, tenant := 0, tag := 9, params := [2, 1, 0, 40] }
def wAckd : State := State.reset.modLink (.stem 2) (fun l => { l with lstate := .active, replay := [⟨3, ⟨4, 0, true, true, false, 0, [], 0, false, 0, 0, 0, false⟩, []⟩], una := 3, nxt := 4, nakPending := true, unacked := 2 })
def bodyC : FlitBody := { ty := 4, sub := 0, first := true, last := true, part := 0, payload := zeroBytes 64 }
def wWaitF : State := State.reset.modLink (.stem 2) (fun l => { l with lstate := .active, partnerActive := true, wait := [(4, { body := bodyC })] })
def capsFlit : Bytes := flitBytes false { ty := 4, sub := 1, len := 64, part := 0, first := true, last := true, ackv := false, ackseq := 0, seq := 0, vc := 0, crvc := 0, crcum := 0, bcast := false, hops := 0, src := 0, dst := 0, resent := false } (zeroBytes 64) false
def wExch : State := { State.reset with zx := { State.reset.zx with tb := { exch := some { num := 7, t1 := 1000, t2 := 2000, t3 := 3000, period := 125 } } } }
def wStemX : State := { State.reset with tsrc := { stem := [(2, (7, true))] } }
def wCard : State := State.reset.wr BX_TB_SRC_MODE 0 1
def wPtp : State := ((State.reset.wr BX_TB_SRC_MODE 0 2).wr BX_TB_SRC_PRIMARY 0 3)
def mSync : Bytes := ptpMsg 0 0 0 5 0 9 1 77 (ptpTime 65536)
def mReq : Bytes := ptpMsg 1 1 0 5 0 9 1 77 (ptpTime 65536)
def mResp : Bytes := ptpMsg 9 3 0 5 0 9 1 77 (ptpTime 65536 ++ ptpPort 0 0 4)
def todB : Bytes := leBytes 2 0xA55A ++ [1, 1] ++ leBytes 8 5000000000
def todF : Bytes := todB ++ leBytes 4 (crc32c todB)
def wTod : State := { State.reset.wr BX_TB_SRC_MODE 0 1 with pps := { lastEdge := some 0 }, bxTb := { count := 300000000 * 2 ^ 32 } }
def cT0 : Cap := { path := 0, tenant := 0, tag := 7, replyPtr := 4096, params := [0, 0] }
def cSrc : Cap := { path := 0, tenant := 0, tag := 7, replyPtr := 4096, params := [2 * 2 ^ 62 + 3 * 2 ^ 57 + 4 * 2 ^ 52 + 500] }
def cPps : Cap := { path := 0, tenant := 0, tag := 7, replyPtr := 4096, params := [2 ^ 63 + 1000] }
def wLac : State := { (State.reset.wr ZX_LAC_CFG_ARM 2 1) with zx := { State.reset.zx with lacs := [(2, { target := 100 })], tb := { count := 200 * 65536 } } }
def wLacP : State := { ((State.reset.wr ZX_LAC_CFG_ARM 2 1).wr ZX_LAC_CFG_PERIODIC 2 1).wr ZX_LAC_CFG_PERIOD_NS 2 10 with zx := { State.reset.zx with lacs := [(2, { target := 100 })], tb := { count := 200 * 65536 } } }
def wPoi : State := State.reset.wr BLZ_CFG_POISON 3 1
def blkW : Nat := wcrc 0xA5A50000000500
def zBlkD : Bytes := zeroBytes 256
def zWordOk : Nat := State.reset.blzForm 3 (zeroBytes 256) 512 5 0
def zBlk : BlzBlock := { header := leBytes 8 512 ++ leBytes 8 (State.reset.blzForm 3 (zeroBytes 256) 512 5 0) ++ leBytes 4 5 ++ leBytes 2 7 ++ zeroBytes 10, data := zeroBytes 256 }
def zBlkS : BlzBlock := { header := leBytes 8 512 ++ leBytes 8 (State.reset.blzForm 3 (zeroBytes 256) 512 5 0) ++ leBytes 4 6 ++ leBytes 2 7 ++ zeroBytes 10, data := zeroBytes 256 }
def zBlkC : BlzBlock := { header := leBytes 8 512 ++ leBytes 8 0 ++ leBytes 4 6 ++ leBytes 2 7 ++ zeroBytes 10, data := zeroBytes 256 }
def wBlzRf : State := { State.reset with zx := { State.reset.zx with blz := [(3, { refetch := [(2, { addr := 512, tag := 7, at_ := 0 })] })], tb := { count := 100000000 * 2 ^ 32 } } }
def wBxEn : State := State.reset.wr BLZ_CFG_EN 34 1
def bxB : BxBlock := { addr := 4096, seq := 5, data := zeroBytes 64, word := State.reset.blzForm 34 (zeroBytes 64) 4096 5 0 }
def bxC : BxBlock := { addr := 4096, seq := 5, data := zeroBytes 64, word := 0 }
def wRr : State := { wBxEn with hbm := { wBxEn.hbm with reread := [(18, (bxC, 1))] } }
def ctxA : Ctx := { epoch := 50, acc := { dies := [(0, 1)] }, merged := [(0, 1)] }
def ctxS : Ctx := { epoch := 50, firstSent := true, acc := { dies := [(0, 1)] }, merged := [(0, 1)] }
def wPf : State := { wChild with red := { wChild.red with ctxs := [ctxA] }, bxTb := { count := 300000 * 2 ^ 32, state := .locked } }
def wPr : State := { wChild with red := { wChild.red with ctxs := [ctxA] } }
def wSup : State := { wChild with red := { wChild.red with ctxs := [ctxS] } }
def gC : GenRec := ((wChild.genOf 50).getD gA)
def ptl : Partial := { epoch := 50, gen := 1, origin := 1, body := { dies := [(64, 1)] } }
def ptlG : Partial := { epoch := 50, gen := 2, origin := 1, body := { dies := [(64, 1)] } }
def wGot : State := { wRoot with red := { wRoot.red with ctxs := [{ epoch := 50 }] } }
def snB : Bytes := leBytes 6 50 ++ leBytes 2 1 ++ zeroBytes 4160
def snE : IngEntry := { die := 2, epoch := 50, inc := 1, gen := 0, bytes := snB }
def wSnp : State := ({ wEp with ep := { wEp.ep with dies := [(2, { cur := 1 })] } } : State).wr BX_MEM_REGION_SIZE 1 4
def wSnpD : State := { wSnp with red := { wSnp.red with log := [snE] } }
def wFen : State := { wEp with ep := { wEp.ep with dies := [(2, { cur := 1, fence := some 9 })] } }
def safP : Bytes := wordBytes [0xFF05, 50, 3, 4, 0]
def wSaf : State := wEp.modLink (.stem 2) (fun l => { l with inbox := [{ ty := 3, sub := 16, bytes := safP }] })
def capP : Bytes := wordBytes [0x0005, 50, 3, 4, 0]
def blzP : Bytes := wordBytes [0, 0x200007, 0]
def cmdZ : ZxCmd := { tag := 4, op := 0x0605, params := [], origin := some (0x0605, cOp) }
def wZo : State := State.reset.setZxPort 2 { out := [cmdZ] }
def wZr : State := State.reset.setZxPort 2 { out := [{ tag := 4, op := 0x0620, params := [] }], readTag := some 4 }
def wUpC : State := (({ wChild with cnp := { wChild.cnp with routes := [(1, 5)] } } : State).wr BX_STM_PORT_CTRL_ALARM_LIMIT 2 4).modLink (.stem 2) (fun l => { l with inbox := [{ ty := 3, sub := 1, bytes := capP }] })
def wVec : State := { wCom with ep := { wCom.ep with records := [rE] } }
def mdH : Nat → Nat → Bytes := fun (crc pc : Nat) => (wordBytes [0x4D565247 * 2 ^ 32 + 65536 + 16, 7 * 2 ^ 32 + 65536 + 256, 2 ^ 48 + 2 ^ 32 + 2 * 2 ^ 15, 2 ^ 34, pc * 2 ^ 26, (1 + pc) * 2 ^ 47, 120 * 2 ^ 32 + crc, 0, 2, 0, 0, 0, 0x3F800000, 10 + (2 ^ 24 + 20) * 2 ^ 32, 1 * 2 ^ 32] : Bytes)
def mdB : Bytes := mdH (crc32c (mdH 0 0)) 0
def mdA : Model := { binary := mdB, digest := zeroBytes 32 }
def mdS : Model := { binary := mdH 0 2, digest := zeroBytes 32 }
def vecG : Bytes := wordBytes [50 * 65536 + 2 ^ 15, 2 ^ 30 + 2 ^ 17, 2 ^ 48, 0] ++ leBytes 4 0x40000000 ++ zeroBytes 8
def gG : GenRec := { gen := 1, sched := ⟨1000, 50, 0⟩, cfg := { k := 0, regs := [⟨.BX_GRV_SEL, 2, 2 ^ 63 + 3 * 2 ^ 52⟩, ⟨.BX_GRV_GRS_SEL, 0, 2 ^ 63 + 3 * 2 ^ 56⟩] } }
def wGr : State := { wEp with ep := { wEp.ep with gens := [gG] }, grv := { slots := [(3, mdA), (4, mdS)], vectors := [(1, vecG)] } }
def wGrN : State := { wGr with grv := { wGr.grv with slots := [] } }
def spA : SplitVec := { num := 9, stage := 2, slot := 4, vector := vecG, at_ := 63400, parts := [(0, some [1, 2])] }
def spE : SplitVec := { num := 9, stage := 2, slot := 4, vector := vecG, at_ := 63400, parts := [(0, some [1, 2]), (1, some [3, 4])], eval := some cOp }
def pbs : List PeerBind := [{ slot := 4, part := 1, peer := 6, peerSlot := 2, digest := [] }, { slot := 4, part := 2, peer := 6, peerSlot := 3, digest := [] }]
def wSp : State := { wGr with grv := { wGr.grv with split := [spA], binds := pbs } }
def wSpE : State := { wGr with grv := { wGr.grv with split := [spE], binds := pbs } }
def wSpT : State := { wGr with grv := { wGr.grv with split := [{ spA with at_ := 0 }] }, bxTb := { count := 3000000 * 2 ^ 32 } }
def wGrRt : State := { wGr with cnp := { wGr.cnp with routes := [(7, 5)] } }
def snG : Bytes := leBytes 6 50 ++ leBytes 2 1 ++ zeroBytes 8 ++ leBytes 4 0x8000 ++ zeroBytes 4600
def snG1 : Bytes := leBytes 6 50 ++ leBytes 2 1 ++ zeroBytes 8 ++ leBytes 4 0x8001 ++ zeroBytes 4600
def enG : IngEntry := { die := 2, epoch := 50, inc := 1, gen := 1, bytes := snG, row := some 10 }
def enG1 : IngEntry := { enG with bytes := snG1 }
def wChk : State := ({ wGr with red := { wGr.red with log := [enG] } }.wr BX_GRV_GRS_CHK_EN 0 1).wr BX_GRV_GRS_CHK_EVERY 0 10
def wChk1 : State := ({ wGr with red := { wGr.red with log := [enG1] } }.wr BX_GRV_GRS_CHK_EN 0 1).wr BX_GRV_GRS_CHK_EVERY 0 10
def srA : ScoreRec := { epoch := 50, committed := true, die := 2, stage := 1, bytes := zeroBytes 32 }
def wScr : State := { wGr with grv := { wGr.grv with scores := [srA] } }
def cLd : Cap := { path := 0, tenant := 0, tag := 7, params := [5, 4096, 120], data := mdB }
def cLd2 : Cap := { path := 0, tenant := 0, tag := 7, params := [5, 4096, 121], data := mdB }
def cUnl : Cap := { path := 0, tenant := 0, tag := 7, params := [4] }
def cIn : Cap := { path := 0, tenant := 0, tag := 7, replyPtr := 4096, params := [3, 8192] }
def cEv : Cap := { path := 0, tenant := 0, tag := 7, params := [3, 4096], data := vecG }
def cBind : Cap := { path := 0, tenant := 0, tag := 7, params := [4, 1, 0xFFF, 2, 0, 0, 0, 0] }
def cBindP : Cap := { path := 0, tenant := 0, tag := 7, params := [4, 1, 6, 2, 0, 0, 0, 0] }
def cSr : Cap := { path := 0, tenant := 0, tag := 7, params := [2, 50, 1, 1] }
def cRf : Cap := { path := 0, tenant := 0, tag := 7, params := [2] }
def wGrUp : State := wGr.modLink (.stem 2) (fun l => { l with lstate := .active })
def gBar : BarGroup := { home := 0, num := 3, line := 1, windowNs := 100, deadlineNs := 0, members := [2, 5] }
def grpA : GroupState := { home := 0, num := 3, line := 1, members := [(2, {}), (5, {})], due := [(50, 1000)] }
def wCorr : State := ({ State.reset with ep := { gens := [{ gA with cfg := { gA.cfg with groups := [gBar] } }] }, cor := { State.reset.cor with groups := [grpA] }, bxTb := { count := 2000000 * 2 ^ 32 } } : State)
def wCorr2 : State := { wCorr with bxTb := { count := 1001 * 2 ^ 32 } }
def dgA : Digest := { home := 0, group := 3, epoch := 51, agg := 0, entries := [] }
def prA : Probe := { tries := 1, at_ := 0, tag := 0, origins := [(0x0623, cOp)] }
def wPrb : State := { State.reset with bxTb := { count := 2000000000 * 2 ^ 32 }, cor := { State.reset.cor with dies := [(2, { probe := some prA })] } }
def cD2 : Cap := { path := 0, tenant := 0, tag := 7, params := [2] }
def cD2b : Cap := { path := 0, tenant := 0, tag := 7, replyPtr := 4096, params := [2, 4, 8192] }
def cLag : Cap := { path := 0, tenant := 0, tag := 7, replyPtr := 4096, params := [0, 0, 3] }
def cLag1 : Cap := { path := 0, tenant := 0, tag := 7, replyPtr := 4096, params := [1, 2, 3] }
def cSClr : Cap := { path := 0, tenant := 0, tag := 7, params := [2, 0x40] }
def cTen : Cap := { path := 0, tenant := 9, tag := 7, params := [2] }
def wFen2 : State := ({ State.reset with ep := { dies := [(2, { cur := 1, fence := some 9, cause := 1 })] } } : State).wr BX_LKO_DIE_HEARD_RUN 2 3
def cTq : Cap := { path := 0, tenant := 0, tag := 7, params := [2, 5, 1, 0xFFFF] }
def cTi : Cap := { path := 0, tenant := 0, tag := 7, params := [4, 0] }
def wTp : State := (((State.reset.wr BX_COR_DIE_MARK_TSTATE 2 1).wr BX_COR_DIE_MARK_TEST_ID 2 4).wr BX_COR_DIE_MARK_UNIT 2 5)
def wTr : State := (((State.reset.wr BX_COR_DIE_MARK_TSTATE 2 2).wr BX_COR_DIE_MARK_TEST_ID 2 4).wr BX_COR_DIE_MARK_UNIT 2 5)
def wTd : State := { wTp with bxTb := { count := 50000000000 * 2 ^ 32 } }
def wTl : State := { wTr with bxTb := { count := 50000000000000 * 2 ^ 32 } }
def cChSet : Cap := { path := 0, tenant := 0, tag := 7, replyPtr := 4096, params := [3, 1, 0, 0, 4096, 4, 2] }
def cCh : Cap := { path := 0, tenant := 0, tag := 7, replyPtr := 4096, params := [3, 0] }
def cLay : Cap := { path := 0, tenant := 0, tag := 7, replyPtr := 4096, params := [128, 256, 1280, 5888, 512, 4096] }
def cXi : Cap := { path := 0, tenant := 0, tag := 7, replyPtr := 4096, params := [0, 0, 0] }
def cXp : Cap := { path := 0, tenant := 0, tag := 7, replyPtr := 4096, params := [64, 0, 0] }
def cPart : Cap := { path := 0, tenant := 0, tag := 7, replyPtr := 4096, params := [5, 12160, 20] }
def cTrs : Cap := { path := 0, tenant := 0, tag := 7, replyPtr := 4096, params := [5, 2, 2 ^ 24] }
def tlbA : TlbEntry := { space := 0, va := 0, pa := 8192, size := 4096, rd := true, wr := true }
def dsA : List Nat := [0 * 2 ^ 60 + 16, 1024, 32, 0, 0, 0, 0, 0]
def wDmaA : State := { (State.reset.wr BX_DMA_CH_STS_STATE 3 1).wr BX_DMA_CH_CFG_SPACE 3 0 with hbm := { State.reset.hbm with tlb := [tlbA], chans := [(3, { desc := some dsA })] } }
def hostA : List HostSeg := [{ addr := 1024, bytes := List.replicate 16 7 }]
def wHalt : State := State.reset.wr BX_DMA_CH_STS_STATE 3 2
def wXlt : State := { (State.reset.wr BX_XLT_SPACE_EN 64 1).wr BX_XLT_SPACE_L1_BASE 64 0 with hbm := { State.reset.hbm with cells := [(0, 6)] } }
def wTrsOn : State := State.reset.wr BX_TRS_DIE_CFG_TRACE_EN 2 1
def wOpen : State := { State.reset with hbm := { State.reset.hbm with trs := [(32, { open_ := zeroBytes 16 })] }, bxTb := { count := 70000000 * 2 ^ 32 } }
def clA : ClosedBlk := { data := zeroBytes 16, inputLen := 16, epoch := 5, ns := 9 }
def wCod : State := { State.reset with hbm := { State.reset.hbm with trs := [(32, { closed := [clA] })] } }
def cShp : Cap := { path := 0, tenant := 0, tag := 7, replyPtr := 4096, params := [24, 1, 2, 100 * 2 ^ 40 + 1000 * 2 ^ 16] }
def cClr : Cap := { path := 0, tenant := 0, tag := 7, replyPtr := 4096, params := [24, 0, 5] }
def cGat : Cap := { path := 0, tenant := 0, tag := 7, replyPtr := 4096, params := [24, 1, 1, 10000, 0, 100, 1] }
def cP : Cap := { path := 0, tenant := 0, tag := 7, replyPtr := 4096, params := [3] }
def wRel : State := { (State.reset.wr BX_EGS_SUB_CFG_CIR 131 0xFFFFFF).modLink (.canopy 2) (fun l => { l with lstate := .active, wait := [(3, { body := bodyC })] }) with cnp := State.reset.cnp }
def apH : Nat → Bytes := fun (crc : Nat) => (wordBytes [0x31445041 * 2 ^ 32 + 2 ^ 24 + 256 + 1, 0, 2 * 2 ^ 60 + 2 * 2 ^ 54 + 2 * 2 ^ 43, 8 * 2 ^ 52 + 23 * 2 ^ 46, 2 ^ 48, 0, 88 * 2 ^ 32 + crc, 0, 5, 0, 0] : Bytes)
def apB : Bytes := apH (crc32c (apH 0))
def jbW : List Nat := [3 * 2 ^ 48 + 2 * 2 ^ 42 + 5, 0, 2 ^ 42 + 2 ^ 21 + 1, 0, 0, 0, 0, 0, 0, 0, 0, 0, 0, 0, 0, 0]
def jbA : RplJob := { words := jbW, seq := 0, cap := some cOp }
def cAl : Cap := { path := 0, tenant := 0, tag := 7, params := [2, 4096, 88], data := apB }
def cAu : Cap := { path := 0, tenant := 0, tag := 7, replyPtr := 4096, params := [2] }
def cRr : Cap := { path := 0, tenant := 0, tag := 7, params := [4096], data := wordBytes jbW }
def cRc : Cap := { path := 0, tenant := 0, tag := 7, replyPtr := 4096, params := [3] }
def cRu : Cap := { path := 0, tenant := 0, tag := 7, params := [1, 4, 0] }
def cRg : Cap := { path := 0, tenant := 0, tag := 7, params := [1, 2, 3, 4, 5] }
def cRx : Cap := { path := 0, tenant := 0, tag := 7, params := [1, 5, 2, 5, 0, 64, 64, 2] }
def cRx2 : Cap := { path := 0, tenant := 0, tag := 7, params := [1, 5, 2, 6, 0, 64, 64, 2] }
def tlbX : TlbEntry := { space := 64, va := 0, pa := 8192, size := 4096, rd := true, wr := true }
def wRp : State := { State.reset with rpl := { apds := [(2, apB)], queue := [jbA], seq := 1 } }
def wRn : State := { State.reset with rpl := { queue := [jbA], seq := 1 } }
def opM : OpMem := { seq := 0, dm0 := [(zeroBytes 4, false), ([], false)], dm1 := [(zeroBytes 4, false), ([], false)], core := [([], false), ([], false), (zeroBytes 4, false), ([], false)] }
def rsA : List (List (Nat × Nat)) := [[(8192, 4)], [], [(8192, 4)], [], [], [], [(8192, 4)], []]
def wRpm : State := { wRp with hbm := { State.reset.hbm with tlb := [tlbA] } }
def wRx : State := { State.reset with rpl := { apds := [(2, apB)], ctxs := [(6, { run := some jbA, mem0 := some opM })], seq := 1 }, hbm := { State.reset.hbm with tlb := [tlbA, tlbX] } }
def wRl : State := { State.reset with rpl := { apds := [(2, apB)], ctxs := [(6, { other := some jbA, loading := true })], seq := 1 }, hbm := { State.reset.hbm with tlb := [tlbA] } }
def srec : Bytes := wordBytes [7 * 2 ^ 32 + 0 * 2 ^ 24 + 3, 5 * 65536 + 9, 50 * 65536, 6 * 2 ^ 32, 2 ^ 42 + 2 ^ 21 + 1, 0, 0, 0] ++ zeroBytes 64
def jobA : Job := { tenant := 0, die := 2, unit := 1, apd := 2, gated := true, sc := false, nextStep := 5, curInc := 9 }
def gsA : GStep := { job := 7, record := srec, die := 2, unit := 1, selected := true, accepted := 0, gated := true, onUnchecked := false, sc := false }
def gsU : GStep := { job := 7, record := srec, die := 2, unit := 1, selected := false, accepted := 0, gated := true, onUnchecked := true, sc := false }
def gsR : GStep := { job := 7, record := srec, die := 2, unit := 1, selected := false, accepted := 0, gated := true, onUnchecked := true, sc := false, ready := some 1 }
def wJob : State := { State.reset with gate := { jobs := [(7, jobA)] } }
def wGst : State := { State.reset with rpl := { apds := [(2, apB)] }, gate := { jobs := [(7, jobA)], steps := [gsA] }, bxTb := { count := 900000000 * 2 ^ 32 } }
def wGso : State := { wGst with bxTb := {} }
def wGsu : State := { wGst with gate := { wGst.gate with steps := [gsU] } }
def wGsr : State := { wGst with gate := { wGst.gate with steps := [gsR] } }
def cAn : Cap := { path := 0, tenant := 0, tag := 7, params := [4096], data := srec }
def cSo : Cap := { path := 0, tenant := 0, tag := 7, params := [7, 5, 0, 4096] }
def cJo : Cap := { path := 0, tenant := 0, tag := 7, params := [8, 3, 2, 1, 9, 2, 5] }
def cPm : Cap := { path := 0, tenant := 0, tag := 7, params := [7, 3, 1, 10, 100] }
def cPs : Cap := { path := 0, tenant := 0, tag := 7, params := [3, 0, 1, 0, 1, 4, 20000, 1024, 16] }
def cCs : Cap := { path := 0, tenant := 0, tag := 7, params := [7, 0] }
def cLr : Cap := { path := 0, tenant := 0, tag := 7, params := [3, 0, 4, 4096] }
def wCan : State := (State.reset.modLink (.canopy 5) (fun l => { l with lstate := .active })).setPort 5 { helloSent := true }
def lsA : Lsa := { uid := 9, agg := 7, boot := 2, lseq := 3, links := [(1, 0, 5)], at_ := 0 }
def wLs : State := { State.reset with cnp := { State.reset.cnp with lsdb := [lsA] }, bxTb := { count := 90000000000 * 2 ^ 32 } }
def wRly : State := State.reset.modLink (.canopy 5) (fun l => { l with wait := [(2, { body := bodyC, fromPort := some 3, since := 0 }), (2, { body := bodyC })] })
def wRlyT : State := { wRly with bxTb := { count := 90000000000 * 2 ^ 32 } }
def fnB : Bytes := wordBytes [(2 * 64 + 1) * 2 ^ 30 + 3 * 2 ^ 48, 50, 7000, 0, 0] ++ leBytes 4 6 ++ zeroBytes 4
def wAlm : State := { wChild with cnp := { wChild.cnp with routes := [(1, 5)] } }
def alP : Bytes := zeroBytes 48
def wCut : State := State.reset.setPort 5 { cut := some (2, bodyC) }
def e2A : E2E := { msgId := 7, dst := 3, ty := 1, sub := 5, vc := 6, epoch := none, sentAt := 0, lastSent := 0, bytes := [1] }
def wE2 : State := { State.reset with cnp := { State.reset.cnp with e2e := [e2A] }, bxTb := { count := 90000000000 * 2 ^ 32 } }
def wWard : State := { wEp with ep := { wEp.ep with gens := [{ gA with cfg := { k := 0, tree := [{ agg := 0, parent := 0, buddy := 1, root := true }, { agg := 1, parent := 0, buddy := 0 }] } }] }, bxTb := { count := 90000000000 * 2 ^ 32 } }
def cPd : Cap := { path := 0, tenant := 0, tag := 7, params := [9, 0] }
def cFf : Cap := { path := 0, tenant := 0, tag := 7, params := [5, 60] }
def cId : Cap := { path := 0, tenant := 0, tag := 7, params := [5, 60] }
def cPc : Cap := { path := 0, tenant := 0, tag := 7, params := [5, 0, 0, 1, 40] }
def fnA : FenceRec := { partition := true, id := 5, cause := 4, f := 0 }
def wFnc : State := { State.reset with cnp := { State.reset.cnp with fences := [fnA] } }
def fnD : FenceRec := { partition := false, id := 2, cause := 4, f := 0, lift := some 0, asserted := true }
def wUnf : State := { State.reset with cnp := { State.reset.cnp with fences := [fnD] }, ep := { State.reset.ep with dies := [(2, { fence := some 0 })] } }
def cHw : Cap := { path := 0, tenant := 0, tag := 7, replyPtr := 4096, params := [0, 5, 8192, 0, 0] }
def hwA : HwRec := { ty := 0x0401, source := 2, idx := 3 }
def wHwQ : State := { State.reset with tap := { State.reset.tap with reqs := [hwA] } }
def wHwM : State := { State.reset with tap := { State.reset.tap with main := [{ hwA with seq := 4 }] } }
def wKick : State := { State.reset with bxTb := { count := 90000000000 * 2 ^ 32 } }
def wDumpH : State := State.reset.wr BX_TAP_STS_DUMP_HELD 0 1
def cWtA : Cap := { path := 0, tenant := 0, tag := 7, replyPtr := 4096, params := [2, 256, wtParity, 0, 3] }
def wWt : State := State.reset.wr BX_WT_INJ_ARMED (wtTarget 2 256) 1
def wQp : State := (((State.reset.wr BX_WDN_QP_CFG_EN 5 1).wr BX_WDN_QP_STS_STATE 5 1).wr BX_WDN_QP_DB_SQ_TAIL 5 3).wr BX_WDN_FW_STS_STATE 0 1
def wQp0 : State := State.reset.wr BX_WDN_FW_STS_STATE 0 1
def wRing : State := (State.reset.wr BX_WDN_EV_CFG_EN 2 1).setRing 2 { tail := 3 }
def nopW : List Nat := [2 ^ 48 + 9 * 2 ^ 32 + 8 * 2 ^ 16, 0, 77]
def nopH : CapWord := { op := 1, tag := 9, origin := 0, len := 8, relay := false, notify := false, indirect := false, agg := 0, rsv := false }
def nopC : Cap := { path := 0, tenant := 1, fn := 1, qp := 1, tag := 9, params := [77] }
def badH : CapWord := { op := 0x0FFF, tag := 9, origin := 0, len := 8, relay := false, notify := false, indirect := false, agg := 0, rsv := false }
def badW : List Nat := [0x0FFF * 2 ^ 48 + 9 * 2 ^ 32 + 8 * 2 ^ 16, 0, 77]
def rpN : Reply := { cap := nopC, op := 1, status := 0, results := [77] }
def wRep : State := { wQp with wdn := { wQp.wdn with prog := [{ op := 1, cap := nopC, at_ := 0 }], replies := [rpN] } }
def wStale : State := { wQp with wdn := { wQp.wdn with replies := [rpN] } }
def wLateP : State := { wRep with bxTb := { count := 90000000000 * 2 ^ 32 } }
def ipR : InProg := { op := 1, cap := nopC, at_ := 0, relay := some (7, 0) }
def wRlq : State := { wQp with wdn := { wQp.wdn with prog := [ipR] }, bxTb := { count := 90000000000 * 2 ^ 32 } }
def nopC2 : Cap := { path := 2, tenant := 0, fn := 7, qp := 0, tag := 9, params := [77] }
def nopM : Bytes := [0x7E, 0, 0] ++ wordBytes (nopW ++ [0, 0, 0, 0, 0])
def nopCm : Cap := { path := 1, tenant := 0, fn := 0, qp := 0, tag := 9, params := [77] }
def wAsm : State := { State.reset with wdn := { State.reset.wdn with mctp := { asm := some ([1, 2], 1) } } }
def wRecov : State := (State.reset.wr BX_WDN_FW_STS_STATE 0 3).wr BX_WDN_BOOT_STS_RECOVERY 0 1
def wRecI : State := { wRecov with wdn := { wRecov.wdn with boot := [(0, 0x0012 * 2 ^ 48)] } }
def wRecN : State := { wRecov with wdn := { wRecov.wdn with boot := [(0, 0x0001 * 2 ^ 48)] } }
def cMc : Cap := { path := 1, tenant := 0, tag := 7, params := [0, 5] }
def cNop : Cap := { path := 0, tenant := 3, tag := 7, params := [1, 2, 3] }
def cFw : Cap := { path := 0, tenant := 0, tag := 7, params := [4096, 300], data := zeroBytes 300 }
def wFwV : State := State.reset.wr BX_WDN_FW_STS_STORE_VALID 0 1
def wFwU : State := { State.reset with wdn := { State.reset.wdn with fw := { updating := some [] } } }
def fwImg : Bytes := leBytes 4 0x314E4457 ++ leBytes 2 1 ++ leBytes 2 3 ++ leBytes 4 9 ++ leBytes 4 0 ++ zeroBytes 16 ++ sha256 [] ++ zeroBytes 192
def cFwI : Cap := { path := 0, tenant := 0, tag := 7, params := [4096, 256], data := fwImg }
def wFwI : State := { wFwV with wdn := { wFwV.wdn with fw := { image := fwImg, restartDue := true } } }
def cRw : Cap := { path := 0, tenant := 0, tag := 7, params := [0, 0] }
def cRcold : Cap := { path := 0, tenant := 0, tag := 7, params := [1, 0] }
def cRs : Cap := { path := 0, tenant := 0, tag := 7, params := [2, 5] }
def cRn : Cap := { path := 0, tenant := 0, tag := 7, params := [3, 5] }
def cRk : Cap := { path := 0, tenant := 0, tag := 7, params := [4, 1] }
def wUse : State := { (State.reset.modLink (.stem 5) (fun l => { l with lstate := .active })) with red := { State.reset.red with waiting := [4] } }
def wRetd : State := State.reset.wr BX_LC_STS_STATE 0 4
def wP3 : State := State.reset.wr BX_PWR_STS_PSTATE 0 3
def wDmp : State := { State.reset with tap := { State.reset.tap with dumpPend := some (5, 1, 2) } }
def up4 : State := { State.reset with up := { phase := 4, lcNext := some (1, 9) } }
def wRun : State := { State.reset with rpl := { State.reset.rpl with ctxs := [(0, { run := some jbA })] } }
def wP2w : State := { State.reset with up := { p2Wait := some cOp } }
def wBusyL : State := State.reset.wr BX_LC_STS_TRANSITIONING 0 1
def cLct : Cap := { path := 0, tenant := 0, tag := 7, params := [1, 4096] }
def lcB : Bytes := leBytes 4 0x48545541 ++ leBytes 2 0x0015 ++ zeroBytes 10 ++ zeroBytes 8 ++ leBytes 8 (2 ^ 64 - 1) ++ zeroBytes 160
def cLcR : Cap := { path := 0, tenant := 0, tag := 7, params := [4, 4096], data := lcB }
def hcB : Bytes := leBytes 4 0x48545541 ++ leBytes 2 0x0001 ++ zeroBytes 10 ++ zeroBytes 8 ++ leBytes 8 (2 ^ 64 - 1) ++ zeroBytes 160
def cHcl : Cap := { path := 0, tenant := 0, tag := 7, params := [4096], data := hcB }
theorem wit_EpochContextsOpenWaitAndFreeze_1 (H : Obligations.EpochContextsOpenWaitAndFreeze) : ∃ i P, Answers i wEp P :=
  ⟨_, _, H.1 wEp 50 (by decide +kernel) (by decide +kernel) (by decide +kernel) (by decide +kernel) (by decide +kernel)⟩
theorem wit_EpochContextsOpenWaitAndFreeze_2 (H : Obligations.EpochContextsOpenWaitAndFreeze) : ∃ i P, Answers i { wEp with red := { wEp.red with ctxs := full16 } } P :=
  ⟨_, _, H.2.1 { wEp with red := { wEp.red with ctxs := full16 } } 50 (by decide +kernel) (by decide +kernel) (by decide +kernel) (by decide +kernel) (by decide +kernel)⟩
theorem wit_EpochContextsOpenWaitAndFreeze_3 (H : Obligations.EpochContextsOpenWaitAndFreeze) : ∃ i P, Answers i wWait P :=
  ⟨_, _, H.2.2.1 wWait 50 [51] (by decide +kernel) (by decide +kernel)⟩
theorem wit_EpochContextsOpenWaitAndFreeze_4 (H : Obligations.EpochContextsOpenWaitAndFreeze) : ∃ i P, Answers i wHor P :=
  ⟨_, _, H.2.2.2.1 wHor ⟩
theorem wit_EpochContextsOpenWaitAndFreeze_5 (H : Obligations.EpochContextsOpenWaitAndFreeze) : ∃ i P, Answers i wRev P :=
  ⟨_, _, H.2.2.2.2 wRev 50 { epoch := 50, merged := [(0, 1)] } gA (by decide +kernel) (by decide +kernel) (by decide +kernel) (by decide +kernel) (by decide +kernel) (by decide +kernel) (by decide +kernel) (by decide +kernel) (by decide +kernel)⟩
theorem wit_EpochReadsAnswerWaitAndExpire_1 (H : Obligations.EpochReadsAnswerWaitAndExpire) : ∃ i P, Answers i wRec P :=
  ⟨_, _, H.1 wRec cOp rE (by decide +kernel) (by decide +kernel) (by decide +kernel) (by decide +kernel) (by decide +kernel) (by decide +kernel) (by decide +kernel) (by decide +kernel) (by decide +kernel) (by decide +kernel) (by decide +kernel)⟩
theorem wit_EpochReadsAnswerWaitAndExpire_2 (H : Obligations.EpochReadsAnswerWaitAndExpire) : ∃ i P, Answers i (State.reset.wr BX_EPC_STATE_WM_SYNCED 0 1) P :=
  ⟨_, _, H.2.1 (State.reset.wr BX_EPC_STATE_WM_SYNCED 0 1) { cOp with params := [50, 0, 0, 60] } (by decide +kernel) (by decide +kernel) (by decide +kernel) (by decide +kernel) (by decide +kernel) (by decide +kernel) (by decide +kernel) (by decide +kernel)⟩
theorem wit_EpochReadsAnswerWaitAndExpire_3 (H : Obligations.EpochReadsAnswerWaitAndExpire) : ∃ i P, Answers i wLate P :=
  ⟨_, _, H.2.2.1 wLate (by decide +kernel)⟩
theorem wit_EpochReadsAnswerWaitAndExpire_4 (H : Obligations.EpochReadsAnswerWaitAndExpire) : ∃ i P, Answers i w0 P :=
  ⟨_, _, H.2.2.2 w0 cOp (by decide +kernel)⟩
theorem wit_GenerationsAreStagedArmedAndApplied_1 (H : Obligations.GenerationsAreStagedArmedAndApplied) : ∃ i P, Answers i w0 P :=
  ⟨_, _, H.1 w0 cGen { k := 1 } (by decide +kernel) (by decide +kernel) (by decide +kernel) (by decide +kernel) (by decide +kernel) (by decide +kernel) (by decide +kernel) (by decide +kernel) (by decide +kernel)⟩
theorem wit_GenerationsAreStagedArmedAndApplied_2 (H : Obligations.GenerationsAreStagedArmedAndApplied) : ∃ i P, Answers i w0 P :=
  ⟨_, _, H.2.1 w0 2 5 9 1 { k := 1 } (by decide +kernel) (by decide +kernel) (by decide +kernel) (by decide +kernel) (by decide +kernel)⟩
theorem wit_GenerationsAreStagedArmedAndApplied_3 (H : Obligations.GenerationsAreStagedArmedAndApplied) : ∃ i P, Answers i wStg P :=
  ⟨_, _, H.2.2.1 wStg { cGen with params := [1, 5000000] } sgA 10 (by decide +kernel) (by decide +kernel) (by decide +kernel) (by decide +kernel) (by decide +kernel) (by decide +kernel) (by decide +kernel) (by decide +kernel) (by decide +kernel) (by decide +kernel) (by intro t h; cases h)⟩
theorem wit_GenerationsAreStagedArmedAndApplied_4 (H : Obligations.GenerationsAreStagedArmedAndApplied) : ∃ i P, Answers i { State.reset with ep := { staged := some { sgA with targets := [⟨2, 0, .none⟩] } } } P :=
  ⟨_, _, H.2.2.2.1 { State.reset with ep := { staged := some { sgA with targets := [⟨2, 0, .none⟩] } } } { cGen with params := [1, 5000000] } { sgA with targets := [⟨2, 0, .none⟩] } 10 (by decide +kernel) (by decide +kernel) (by decide +kernel) (by decide +kernel) (by decide +kernel) (by decide +kernel) (by decide +kernel) (by decide +kernel) (by decide +kernel) (by decide +kernel) (⟨⟨2, 0, .none⟩, by decide, by decide⟩)⟩
theorem wit_GenerationsAreStagedArmedAndApplied_5 (H : Obligations.GenerationsAreStagedArmedAndApplied) : ∃ i P, Answers i wStg P :=
  ⟨_, _, H.2.2.2.2.1 wStg cGen sgA (by decide +kernel) (by decide +kernel) (by decide +kernel) (by decide +kernel) (by decide +kernel)⟩
theorem wit_GenerationsAreStagedArmedAndApplied_6 (H : Obligations.GenerationsAreStagedArmedAndApplied) : ∃ i P, Answers i w0 P :=
  ⟨_, _, H.2.2.2.2.2.1 w0 cOp (by decide +kernel)⟩
theorem wit_GenerationsAreStagedArmedAndApplied_7 (H : Obligations.GenerationsAreStagedArmedAndApplied) : ∃ i P, Answers i wStg P :=
  ⟨_, _, H.2.2.2.2.2.2.1 wStg 2 5 9 100000 60 sgA (by decide +kernel) (by decide +kernel) (by decide +kernel)⟩
theorem wit_GenerationsAreStagedArmedAndApplied_8 (H : Obligations.GenerationsAreStagedArmedAndApplied) : ∃ i P, Answers i wArmed P :=
  ⟨_, _, H.2.2.2.2.2.2.2.1 wArmed { sgA with armed := some (1000, 50) } 1000 50 (by decide +kernel) (by decide +kernel) (by decide +kernel)⟩
theorem wit_GenerationsAreStagedArmedAndApplied_9 (H : Obligations.GenerationsAreStagedArmedAndApplied) : ∃ i P, Answers i wZxArm P :=
  ⟨_, _, H.2.2.2.2.2.2.2.2 wZxArm 1000 50 0 (by decide +kernel) (by decide +kernel) (by decide +kernel) (by decide +kernel) (by decide +kernel)⟩
theorem wit_EpochsCommitAndRecordsFlow_1 (H : Obligations.EpochsCommitAndRecordsFlow) : ∃ i P, Answers i { wRoot with ep := { wRoot.ep with firstEpoch := some 50 }, red := { wRoot.red with ctxs := [{ epoch := 50, commitMsg := some [] }] } } P :=
  ⟨_, _, H.1 { wRoot with ep := { wRoot.ep with firstEpoch := some 50 }, red := { wRoot.red with ctxs := [{ epoch := 50, commitMsg := some [] }] } } 50 { epoch := 50, commitMsg := some [] } (by decide +kernel) (by decide +kernel) (by decide +kernel) (by decide +kernel) (by decide +kernel)⟩
theorem wit_EpochsCommitAndRecordsFlow_2 (H : Obligations.EpochsCommitAndRecordsFlow) : ∃ i P, Answers i wPar P :=
  ⟨_, _, H.2.1 wPar 2 1 9 ⟨50, 1, []⟩ (by decide +kernel) (by decide +kernel) (by decide +kernel) (by decide +kernel) (by decide +kernel)⟩
theorem wit_EpochsCommitAndRecordsFlow_3 (H : Obligations.EpochsCommitAndRecordsFlow) : ∃ i P, Answers i wPar P :=
  ⟨_, _, H.2.2.1 wPar 2 1 (by decide +kernel)⟩
theorem wit_EpochsCommitAndRecordsFlow_4 (H : Obligations.EpochsCommitAndRecordsFlow) : ∃ i P, Answers i ((wPar.wr BX_EPC_STATE_WM_VALID 0 1).wr BX_EPC_STATE_WATERMARK 0 60) P :=
  ⟨_, _, H.2.2.2.1 ((wPar.wr BX_EPC_STATE_WM_VALID 0 1).wr BX_EPC_STATE_WATERMARK 0 60) 2 1 55 (by decide +kernel) (by decide +kernel)⟩
theorem wit_EpochsCommitAndRecordsFlow_5 (H : Obligations.EpochsCommitAndRecordsFlow) : ∃ i P, Answers i wPar P :=
  ⟨_, _, H.2.2.2.2 wPar 2 1 recB (by decide +kernel) (by decide +kernel) (by decide +kernel) (by decide +kernel) (by decide +kernel)⟩
theorem wit_TapClockEventsAreRecorded_1 (H : Obligations.TapClockEventsAreRecorded) : ∃ i P, Answers i wTap P :=
  ⟨_, _, H.1 wTap 3 (by decide +kernel) (by decide +kernel) (by decide +kernel) (by decide +kernel)⟩
theorem wit_TapClockEventsAreRecorded_2 (H : Obligations.TapClockEventsAreRecorded) : ∃ i P, Answers i wTick P :=
  ⟨_, _, H.2.1 wTick 3 (by decide +kernel) (by decide +kernel) (by decide +kernel) (by decide +kernel)⟩
theorem wit_TapClockEventsAreRecorded_3 (H : Obligations.TapClockEventsAreRecorded) : ∃ i P, Answers i w0 P :=
  ⟨_, _, H.2.2.1 w0 3 (by decide +kernel) (by decide +kernel)⟩
theorem wit_TapClockEventsAreRecorded_4 (H : Obligations.TapClockEventsAreRecorded) : ∃ i P, Answers i w0 P :=
  ⟨_, _, H.2.2.2.1 w0 3 5 (by decide +kernel) (by decide +kernel)⟩
theorem wit_TapClockEventsAreRecorded_5 (H : Obligations.TapClockEventsAreRecorded) : ∃ i P, Answers i w0 P :=
  ⟨_, _, H.2.2.2.2.1 w0 15 (by decide +kernel) (by decide +kernel) (by decide +kernel)⟩
theorem wit_TapClockEventsAreRecorded_6 (H : Obligations.TapClockEventsAreRecorded) : ∃ i P, Answers i w0 P :=
  ⟨_, _, H.2.2.2.2.2.1 w0 31 (by decide +kernel) (by decide +kernel) (by decide +kernel)⟩
theorem wit_TapClockEventsAreRecorded_7 (H : Obligations.TapClockEventsAreRecorded) : ∃ i P, Answers i wRet P :=
  ⟨_, _, H.2.2.2.2.2.2.1 wRet true (by decide +kernel) (by decide +kernel) (by decide +kernel)⟩
theorem wit_TapClockEventsAreRecorded_8 (H : Obligations.TapClockEventsAreRecorded) : ∃ i P, Answers i w0 P :=
  ⟨_, _, H.2.2.2.2.2.2.2 w0 (by decide +kernel) (by decide +kernel) (by decide +kernel)⟩
theorem wit_EpochCloseTakesASnapshot_1 (H : Obligations.EpochCloseTakesASnapshot) : ∃ i P, Answers i wSch P :=
  ⟨_, _, H wSch {} ⟨1000, 50, 0⟩ 50 63500 (by decide +kernel) (by decide +kernel) (by decide +kernel) ((fun _ h => by cases h)) (by decide +kernel) (by decide +kernel) (by decide +kernel) (by decide +kernel) (by decide +kernel) (by decide +kernel)⟩
theorem wit_ZxRegisterWritesKeepTheViews_1 (H : Obligations.ZxRegisterWritesKeepTheViews) : ∃ i P, Answers i w0 P :=
  ⟨_, _, H.1 w0 7 5 (by decide +kernel) (by decide +kernel) (by decide +kernel) (by decide +kernel)⟩
theorem wit_ZxRegisterWritesKeepTheViews_2 (H : Obligations.ZxRegisterWritesKeepTheViews) : ∃ i P, Answers i wBind P :=
  ⟨_, _, H.2.1 wBind 7 5 (by decide +kernel) (by decide +kernel) (by decide +kernel) (by decide +kernel) (by decide +kernel) (by decide +kernel)⟩
theorem wit_ZxRegisterWritesKeepTheViews_3 (H : Obligations.ZxRegisterWritesKeepTheViews) : ∃ i P, Answers i { State.reset with zx := { State.reset.zx with ctrSel := [(7, 1073741824)] } } P :=
  ⟨_, _, H.2.2.1 { State.reset with zx := { State.reset.zx with ctrSel := [(7, 1073741824)] } } 7 5 true (by decide +kernel) (by decide +kernel) (by decide +kernel) (by decide +kernel)⟩
theorem wit_ZxRegisterWritesKeepTheViews_4 (H : Obligations.ZxRegisterWritesKeepTheViews) : ∃ i P, Answers i w0 P :=
  ⟨_, _, H.2.2.2.1 w0 1 (by decide +kernel) (by decide +kernel) (by decide +kernel)⟩
theorem wit_ZxRegisterWritesKeepTheViews_5 (H : Obligations.ZxRegisterWritesKeepTheViews) : ∃ i P, Answers i w0 P :=
  ⟨_, _, H.2.2.2.2.1 w0 15 (by decide +kernel) (by decide +kernel) (by decide +kernel)⟩
theorem wit_ZxRegisterWritesKeepTheViews_6 (H : Obligations.ZxRegisterWritesKeepTheViews) : ∃ i P, Answers i w0 P :=
  ⟨_, _, H.2.2.2.2.2.1 w0 31 true (by decide +kernel) (by decide +kernel) (by decide +kernel)⟩
theorem wit_ZxRegisterWritesKeepTheViews_7 (H : Obligations.ZxRegisterWritesKeepTheViews) : ∃ i P, Answers i wRst P :=
  ⟨_, _, H.2.2.2.2.2.2 wRst 16 3 true (by decide +kernel) (by decide +kernel)⟩
theorem wit_SensorsVotesPoisonAndQuietWindows_1 (H : Obligations.SensorsVotesPoisonAndQuietWindows) : ∃ i P, Answers i wSns P :=
  ⟨_, _, H.1 wSns 3 70000 { epoch := 50, endNs := 100 } (by decide +kernel) (by decide +kernel) (by decide +kernel) (by decide +kernel) (by decide +kernel)⟩
theorem wit_SensorsVotesPoisonAndQuietWindows_2 (H : Obligations.SensorsVotesPoisonAndQuietWindows) : ∃ i P, Answers i wEnt P :=
  ⟨_, _, H.2.1 wEnt { epoch := 50, endNs := 100 } (by decide +kernel) (by decide +kernel)⟩
theorem wit_SensorsVotesPoisonAndQuietWindows_3 (H : Obligations.SensorsVotesPoisonAndQuietWindows) : ∃ i P, Answers i wEnt P :=
  ⟨_, _, H.2.2.1 wEnt { incarnation := 1, epoch := 50, cNs := 63500, gen := 1, sns := some [] } (by decide +kernel) (by decide +kernel)⟩
theorem wit_SensorsVotesPoisonAndQuietWindows_4 (H : Obligations.SensorsVotesPoisonAndQuietWindows) : ∃ i P, Answers i wPsn P :=
  ⟨_, _, H.2.2.2.1 wPsn [16, 17] [[40]] (by decide +kernel)⟩
theorem wit_SensorsVotesPoisonAndQuietWindows_5 (H : Obligations.SensorsVotesPoisonAndQuietWindows) : ∃ i P, Answers i wPsn P :=
  ⟨_, _, H.2.2.2.2.1 wPsn 16 (by decide +kernel) (by decide +kernel)⟩
theorem wit_SensorsVotesPoisonAndQuietWindows_6 (H : Obligations.SensorsVotesPoisonAndQuietWindows) : ∃ i P, Answers i wQw P :=
  ⟨_, _, H.2.2.2.2.2 wQw (by decide +kernel) (by decide +kernel) (by decide +kernel)⟩
theorem wit_Zx40ResetsPowerAndCommands_1 (H : Obligations.Zx40ResetsPowerAndCommands) : ∃ i P, Answers i w0 P :=
  ⟨_, _, H.1 w0 ⟩
theorem wit_Zx40ResetsPowerAndCommands_2 (H : Obligations.Zx40ResetsPowerAndCommands) : ∃ i P, Answers i w0 P :=
  ⟨_, _, H.2.1 w0 ⟩
theorem wit_Zx40ResetsPowerAndCommands_3 (H : Obligations.Zx40ResetsPowerAndCommands) : ∃ i P, Answers i w0 P :=
  ⟨_, _, H.2.2.1 w0 ⟩
theorem wit_Zx40ResetsPowerAndCommands_4 (H : Obligations.Zx40ResetsPowerAndCommands) : ∃ i P, Answers i { State.reset with zx := { State.reset.zx with inReset := true, rstLow := [0] } } P :=
  ⟨_, _, H.2.2.2.1 { State.reset with zx := { State.reset.zx with inReset := true, rstLow := [0] } } (by decide +kernel)⟩
theorem wit_Zx40ResetsPowerAndCommands_5 (H : Obligations.Zx40ResetsPowerAndCommands) : ∃ i P, Answers i { State.reset with zx := { State.reset.zx with inReset := true, rstLow := [1] } } P :=
  ⟨_, _, H.2.2.2.2.1 { State.reset with zx := { State.reset.zx with inReset := true, rstLow := [1] } } (by decide +kernel)⟩
theorem wit_Zx40ResetsPowerAndCommands_6 (H : Obligations.Zx40ResetsPowerAndCommands) : ∃ i P, Answers i { State.reset with zx := { State.reset.zx with inReset := true, rstLow := [2] } } P :=
  ⟨_, _, H.2.2.2.2.2.1 { State.reset with zx := { State.reset.zx with inReset := true, rstLow := [2] } } (by decide +kernel)⟩
theorem wit_Zx40ResetsPowerAndCommands_7 (H : Obligations.Zx40ResetsPowerAndCommands) : ∃ i P, Answers i w0 P :=
  ⟨_, _, H.2.2.2.2.2.2.1 w0 1 (by decide +kernel) (by decide +kernel)⟩
theorem wit_Zx40ResetsPowerAndCommands_8 (H : Obligations.Zx40ResetsPowerAndCommands) : ∃ i P, Answers i w0 P :=
  ⟨_, _, H.2.2.2.2.2.2.2.1 w0 2 (by decide +kernel) (by decide +kernel) (by decide +kernel) (by decide +kernel) (by decide +kernel)⟩
theorem wit_Zx40ResetsPowerAndCommands_9 (H : Obligations.Zx40ResetsPowerAndCommands) : ∃ i P, Answers i w0 P :=
  ⟨_, _, H.2.2.2.2.2.2.2.2 w0 (capsuleBytes 0x0510 9 [0, 2]) (by decide +kernel) (by decide +kernel) (by decide +kernel) (by decide +kernel) (by decide +kernel)⟩
theorem wit_Zx40InternalCommandsAct_1 (H : Obligations.Zx40InternalCommandsAct) : ∃ i P, Answers i { State.reset with zx := { State.reset.zx with caps := [(0x0630, cAdm)] } } P :=
  ⟨_, _, H.1 { State.reset with zx := { State.reset.zx with caps := [(0x0630, cAdm)] } } cAdm (by decide +kernel) (by decide +kernel) (by decide +kernel) (by decide +kernel) (by decide +kernel)⟩
theorem wit_Zx40InternalCommandsAct_2 (H : Obligations.Zx40InternalCommandsAct) : ∃ i P, Answers i { State.reset with zx := { State.reset.zx with caps := [(0x0210, cI1)] } } P :=
  ⟨_, _, H.2.1 { State.reset with zx := { State.reset.zx with caps := [(0x0210, cI1)] } } cI1 (by decide +kernel) (by decide +kernel) (by decide +kernel) (by decide +kernel) (by decide +kernel) (by decide +kernel) (by decide +kernel) (by decide +kernel) (by decide +kernel)⟩
theorem wit_Zx40InternalCommandsAct_3 (H : Obligations.Zx40InternalCommandsAct) : ∃ i P, Answers i { State.reset with zx := { State.reset.zx with caps := [(0x0310, cImg)] } } P :=
  ⟨_, _, H.2.2.1 { State.reset with zx := { State.reset.zx with caps := [(0x0310, cImg)] } } cImg (by decide +kernel) (by decide +kernel) (by decide +kernel) (by decide +kernel) (by decide +kernel) (by decide +kernel) (by decide +kernel) (by decide +kernel)⟩
theorem cDone_p1 : cDone.p 1 = zxCfgCrc (fun a => (wSg1.zx.shadow.find? a).getD (wSg1.zxLive a)) := by simp only [Cap.p, cDone, List.getD_cons_succ, List.getD_cons_zero]
theorem cDone_p0 : cDone.p 0 = 1 := by simp only [Cap.p, cDone, List.getD_cons_zero]
theorem cDone_p2 : cDone.p 2 = 0 := by simp only [Cap.p, cDone, List.getD_cons_succ, List.getD_cons_zero]
theorem cDone_len : cDone.params.length = 3 := by simp only [cDone, List.length_cons, List.length_nil]
theorem cDone_x2 (a : Nat) : wDone.zxLive a = wSg1.zxLive a := rfl
theorem cDone_x3 : wDone.zxNext cDone 0x0211 = true := by unfold State.zxNext wDone; exact decide_eq_true rfl
theorem cDone_x4 : cDone.isInternal = true := by simp [Cap.isInternal, cDone]
theorem cDone_x5 : cDone.p 0 = wDone.rd ZX_EPC_ID_STAGED_GEN := by rw [cDone_p0]; decide

theorem cDone_y1 : 3 ≤ cDone.params.length := Nat.le_of_eq cDone_len.symm
theorem cDone_y2 : cDone.p 0 ≠ 0 := by rw [cDone_p0]; decide
theorem cDone_y3 : bitAt (cDone.p 2) 0 = false ∨ wDone.flag ZX_GRS_STS_STAGED_VALID = true := by rw [cDone_p2]; exact .inl (by decide +kernel)
theorem wit_Zx40InternalCommandsAct_4 (H : Obligations.Zx40InternalCommandsAct) : ∃ i P, Answers i wDone P :=
  ⟨_, _, H.2.2.2.1 wDone cDone cDone_x3 cDone_x4 cDone_y1 cDone_y2 cDone_x5 (by
    rw [cDone_p1]
    refine Eq.trans ?_ (Nat.mod_eq_of_lt ?_).symm
    · exact congrArg zxCfgCrc (funext fun a => by rw [cDone_x2]; rfl)
    · unfold zxCfgCrc; exact crc32c_lt _) cDone_y3⟩
theorem wit_Zx40InternalCommandsAct_5 (H : Obligations.Zx40InternalCommandsAct) : ∃ i P, Answers i { wSg2 with zx := { wSg2.zx with caps := [(0x0212, cArm)] } } P :=
  ⟨_, _, H.2.2.2.2.1 { wSg2 with zx := { wSg2.zx with caps := [(0x0212, cArm)] } } cArm (by decide +kernel) (by decide +kernel) (by decide +kernel) (by decide +kernel) (by decide +kernel) (by decide +kernel)⟩
theorem wit_Zx40InternalCommandsAct_6 (H : Obligations.Zx40InternalCommandsAct) : ∃ i P, Answers i { wSg2 with zx := { wSg2.zx with caps := [(0x0213, cI1)] } } P :=
  ⟨_, _, H.2.2.2.2.2.1 { wSg2 with zx := { wSg2.zx with caps := [(0x0213, cI1)] } } cI1 (by decide +kernel) (by decide +kernel) (by decide +kernel) (by decide +kernel) (by decide +kernel)⟩
theorem wit_Zx40InternalCommandsAct_7 (H : Obligations.Zx40InternalCommandsAct) : ∃ i P, Answers i { State.reset with zx := { State.reset.zx with caps := [(0x0A10, cLc)] } } P :=
  ⟨_, _, H.2.2.2.2.2.2.1 { State.reset with zx := { State.reset.zx with caps := [(0x0A10, cLc)] } } cLc (by decide +kernel) (by decide +kernel) (by decide +kernel) (by decide +kernel)⟩
theorem wit_Zx40InternalCommandsAct_8 (H : Obligations.Zx40InternalCommandsAct) : ∃ i P, Answers i { State.reset with zx := { State.reset.zx with caps := [(0x0F10, cWt)] } } P :=
  ⟨_, _, H.2.2.2.2.2.2.2.1 { State.reset with zx := { State.reset.zx with caps := [(0x0F10, cWt)] } } cWt (by decide +kernel) (by decide +kernel) (by decide +kernel) (by decide +kernel) (by decide +kernel) (by decide +kernel) (by decide +kernel)⟩
theorem wit_Zx40InternalCommandsAct_9 (H : Obligations.Zx40InternalCommandsAct) : ∃ i P, Answers i { State.reset with zx := { State.reset.zx with caps := [(0x0F10, cWt0)] } } P :=
  ⟨_, _, H.2.2.2.2.2.2.2.2 { State.reset with zx := { State.reset.zx with caps := [(0x0F10, cWt0)] } } cWt0 (by decide +kernel) (by decide +kernel) (by decide +kernel) (by decide +kernel) (by decide +kernel)⟩
theorem wit_TraceBuffersFollowTheirStates_1 (H : Obligations.TraceBuffersFollowTheirStates) : ∃ i P, Answers i wCfgB P :=
  ⟨_, _, H.1 wCfgB 2 (by decide +kernel) (by decide +kernel) (by decide +kernel) (by decide +kernel) (by decide +kernel)⟩
theorem wit_TraceBuffersFollowTheirStates_2 (H : Obligations.TraceBuffersFollowTheirStates) : ∃ i P, Answers i wBuf P :=
  ⟨_, _, H.2.1 wBuf 2 (by decide +kernel) (by decide +kernel) (by decide +kernel)⟩
theorem wit_TraceBuffersFollowTheirStates_3 (H : Obligations.TraceBuffersFollowTheirStates) : ∃ i P, Answers i wBuf P :=
  ⟨_, _, H.2.2.1 wBuf 2 (by decide +kernel) (by decide +kernel) (by decide +kernel) (by decide +kernel)⟩
theorem wit_TraceBuffersFollowTheirStates_4 (H : Obligations.TraceBuffersFollowTheirStates) : ∃ i P, Answers i wInQ P :=
  ⟨_, _, H.2.2.2.1 wInQ 2 (trec 0 5 7) [] (by decide +kernel) (by decide +kernel) (by decide +kernel) (by decide +kernel) (by decide +kernel) (by decide +kernel)⟩
theorem wit_TraceBuffersFollowTheirStates_5 (H : Obligations.TraceBuffersFollowTheirStates) : ∃ i P, Answers i wBuf P :=
  ⟨_, _, H.2.2.2.2.1 wBuf 2 (by decide +kernel) (by decide +kernel) (by decide +kernel) (by decide +kernel) (by decide +kernel) (by decide +kernel)⟩
theorem wit_TraceBuffersFollowTheirStates_6 (H : Obligations.TraceBuffersFollowTheirStates) : ∃ i P, Answers i { State.reset with zx := { State.reset.zx with trc := [(2, { state := .armed, cfg := 1 * 2 ^ 46 + 1 * 2 ^ 32 + 3 * 2 ^ 35 + 4 * 2 ^ 26 })] } } P :=
  ⟨_, _, H.2.2.2.2.2.1 { State.reset with zx := { State.reset.zx with trc := [(2, { state := .armed, cfg := 1 * 2 ^ 46 + 1 * 2 ^ 32 + 3 * 2 ^ 35 + 4 * 2 ^ 26 })] } } 3 4 2 (by decide +kernel) (by decide +kernel) (by decide +kernel) (by decide +kernel) (by decide +kernel) (by decide +kernel) (by decide +kernel) (by decide +kernel)⟩
theorem wit_TraceBuffersFollowTheirStates_7 (H : Obligations.TraceBuffersFollowTheirStates) : ∃ i P, Answers i w0 P :=
  ⟨_, _, H.2.2.2.2.2.2.1 w0 2 100 (by decide +kernel) (by decide +kernel)⟩
theorem wit_TraceBuffersFollowTheirStates_8 (H : Obligations.TraceBuffersFollowTheirStates) : ∃ i P, Answers i { wBuf with zx := { wBuf.zx with caps := [(0x0510, cInt)] } } P :=
  ⟨_, _, H.2.2.2.2.2.2.2.1 { wBuf with zx := { wBuf.zx with caps := [(0x0510, cInt)] } } cInt (by decide +kernel) (by decide +kernel) (by decide +kernel) (by decide +kernel) (by decide +kernel)⟩
theorem wit_TraceBuffersFollowTheirStates_9 (H : Obligations.TraceBuffersFollowTheirStates) : ∃ i P, Answers i { wBuf with zx := { wBuf.zx with caps := [(0x0511, cInt)] } } P :=
  ⟨_, _, H.2.2.2.2.2.2.2.2 { wBuf with zx := { wBuf.zx with caps := [(0x0511, cInt)] } } cInt (by decide +kernel) (by decide +kernel) (by decide +kernel) (by decide +kernel) (by decide +kernel) (by decide +kernel)⟩
theorem wit_TraceDrainWritesItsRing_1 (H : Obligations.TraceDrainWritesItsRing) : ∃ i P, Answers i wDrn P :=
  ⟨_, _, H.1 wDrn 2 0 (by decide +kernel) (by decide +kernel) (by decide +kernel) (by decide +kernel) (by decide +kernel) (by decide +kernel)⟩
theorem wit_TraceDrainWritesItsRing_2 (H : Obligations.TraceDrainWritesItsRing) : ∃ i P, Answers i ({ wDrn with zx := { wDrn.zx with qwLive := [(0, (0, 2 ^ 63))] } } : State) P :=
  ⟨_, _, H.2.1 ({ wDrn with zx := { wDrn.zx with qwLive := [(0, (0, 2 ^ 63))] } } : State) 2 (by decide +kernel) (by decide +kernel) (by decide +kernel) (by decide +kernel) (by decide +kernel) (by decide +kernel)⟩
theorem wit_TraceDrainWritesItsRing_3 (H : Obligations.TraceDrainWritesItsRing) : ∃ i P, Answers i wBst P :=
  ⟨_, _, H.2.2.1 wBst 4 { id := 4, buf := 2, addr := 0, count := 2, at_ := 0 } [] (by decide +kernel) (by decide +kernel) (by decide +kernel) (by decide +kernel) ((by decide +kernel)) ((by decide +kernel))⟩
theorem wit_TraceDrainWritesItsRing_4 (H : Obligations.TraceDrainWritesItsRing) : ∃ i P, Answers i wBst P :=
  ⟨_, _, H.2.2.2 wBst 4 { id := 4, buf := 2, addr := 0, count := 2, at_ := 0 } (by decide +kernel) (by decide +kernel)⟩
theorem wit_HangDumpsAreTakenAndReleased_1 (H : Obligations.HangDumpsAreTakenAndReleased) : ∃ i P, Answers i wHang P :=
  ⟨_, _, H.1 wHang (by decide +kernel) (by decide +kernel) (by decide +kernel)⟩
theorem wit_HangDumpsAreTakenAndReleased_2 (H : Obligations.HangDumpsAreTakenAndReleased) : ∃ i P, Answers i w0 P :=
  ⟨_, _, H.2.1 w0 (by decide +kernel) (by decide +kernel)⟩
theorem wit_HangDumpsAreTakenAndReleased_3 (H : Obligations.HangDumpsAreTakenAndReleased) : ∃ i P, Answers i wDump P :=
  ⟨_, _, H.2.2.1 wDump (by decide +kernel) (by decide +kernel)⟩
theorem wit_HangDumpsAreTakenAndReleased_4 (H : Obligations.HangDumpsAreTakenAndReleased) : ∃ i P, Answers i { State.reset with zx := { State.reset.zx with caps := [(0x0512, cInt)] } } P :=
  ⟨_, _, H.2.2.2.1 { State.reset with zx := { State.reset.zx with caps := [(0x0512, cInt)] } } cInt (by decide +kernel) (by decide +kernel) (by decide +kernel) (by decide +kernel)⟩
theorem wit_HangDumpsAreTakenAndReleased_5 (H : Obligations.HangDumpsAreTakenAndReleased) : ∃ i P, Answers i wDump P :=
  ⟨_, _, H.2.2.2.2.1 wDump (by decide +kernel) (by decide +kernel)⟩
theorem wit_HangDumpsAreTakenAndReleased_6 (H : Obligations.HangDumpsAreTakenAndReleased) : ∃ i P, Answers i wHeld P :=
  ⟨_, _, H.2.2.2.2.2.1 wHeld (by decide +kernel) (by decide +kernel) (by decide +kernel) (by decide +kernel)⟩
theorem wit_HangDumpsAreTakenAndReleased_7 (H : Obligations.HangDumpsAreTakenAndReleased) : ∃ i P, Answers i { wHeld with zx := { wHeld.zx with caps := [(0x0513, cInt)] } } P :=
  ⟨_, _, H.2.2.2.2.2.2 { wHeld with zx := { wHeld.zx with caps := [(0x0513, cInt)] } } cInt (by decide +kernel) (by decide +kernel) (by decide +kernel) (by decide +kernel) (by decide +kernel) (by decide +kernel)⟩
theorem wit_EpochLogResendsAndAcknowledgements_1 (H : Obligations.EpochLogResendsAndAcknowledgements) : ∃ i P, Answers i { wEnt with zx := { wEnt.zx with caps := [(0x0514, { path := 3, tenant := 0, tag := 9, params := [0, 50] })] } } P :=
  ⟨_, _, H.1 { wEnt with zx := { wEnt.zx with caps := [(0x0514, { path := 3, tenant := 0, tag := 9, params := [0, 50] })] } } { path := 3, tenant := 0, tag := 9, params := [0, 50] } { incarnation := 1, epoch := 50, cNs := 63500, gen := 1, sns := some [] } (by decide +kernel) (by decide +kernel) (by decide +kernel) (by decide +kernel) (by decide +kernel)⟩
theorem wit_EpochLogResendsAndAcknowledgements_2 (H : Obligations.EpochLogResendsAndAcknowledgements) : ∃ i P, Answers i { wEnt with zx := { wEnt.zx with caps := [(0x0514, { path := 3, tenant := 0, tag := 9, params := [0, 49] })] } } P :=
  ⟨_, _, H.2.1 { wEnt with zx := { wEnt.zx with caps := [(0x0514, { path := 3, tenant := 0, tag := 9, params := [0, 49] })] } } { path := 3, tenant := 0, tag := 9, params := [0, 49] } { incarnation := 1, epoch := 50, cNs := 63500, gen := 1, sns := some [] } (by decide +kernel) (by decide +kernel) (by decide +kernel) (by decide +kernel) (by decide +kernel)⟩
theorem wit_EpochLogResendsAndAcknowledgements_3 (H : Obligations.EpochLogResendsAndAcknowledgements) : ∃ i P, Answers i { State.reset with zx := { State.reset.zx with caps := [(0x0514, cInt)] } } P :=
  ⟨_, _, H.2.2.1 { State.reset with zx := { State.reset.zx with caps := [(0x0514, cInt)] } } cInt (by decide +kernel) (by decide +kernel) (by decide +kernel) (by decide +kernel)⟩
theorem wit_EpochLogResendsAndAcknowledgements_4 (H : Obligations.EpochLogResendsAndAcknowledgements) : ∃ i P, Answers i wAck P :=
  ⟨_, _, H.2.2.2.1 wAck 50 50 (by decide +kernel) (by decide +kernel) (by decide +kernel)⟩
theorem wit_EpochLogResendsAndAcknowledgements_5 (H : Obligations.EpochLogResendsAndAcknowledgements) : ∃ i P, Answers i wAck P :=
  ⟨_, _, H.2.2.2.2 wAck 51 50 (by decide +kernel) (by decide +kernel) (by decide +kernel)⟩
theorem wit_QueuesPushPopAndCancel_1 (H : Obligations.QueuesPushPopAndCancel) : ∃ i P, Answers i { State.reset with queues := [(5, qA)] } P :=
  ⟨_, _, H.1 { State.reset with queues := [(5, qA)] } 5 shp 9 false false [] 0 qA (by decide +kernel) (by decide +kernel) (by decide +kernel) (by decide +kernel) (by decide +kernel) (by decide +kernel)⟩
theorem wit_QueuesPushPopAndCancel_2 (H : Obligations.QueuesPushPopAndCancel) : ∃ i P, Answers i { State.reset with queues := [(5, qF)] } P :=
  ⟨_, _, H.2.1 { State.reset with queues := [(5, qF)] } 5 shp 9 false false [] 0 qF (by decide +kernel) (by decide +kernel) (by decide +kernel) (by decide +kernel) (by decide +kernel) (by decide +kernel) (by decide +kernel)⟩
theorem wit_QueuesPushPopAndCancel_3 (H : Obligations.QueuesPushPopAndCancel) : ∃ i P, Answers i { State.reset with queues := [(5, qS)] } P :=
  ⟨_, _, H.2.2.1 { State.reset with queues := [(5, qS)] } 5 shp 9 false false [] 0 qS (by decide +kernel) (by decide +kernel) (by decide +kernel) (by decide +kernel) (by decide +kernel) (by decide +kernel) (by decide +kernel)⟩
theorem wit_QueuesPushPopAndCancel_4 (H : Obligations.QueuesPushPopAndCancel) : ∃ i P, Answers i { State.reset with queues := [(5, qP)] } P :=
  ⟨_, _, H.2.2.2.1 { State.reset with queues := [(5, qP)] } 5 shpP 9 false [] 0 qP (by decide +kernel) (by decide +kernel) (by decide +kernel) (by decide +kernel) (by decide +kernel) (by decide +kernel) (by decide +kernel)⟩
theorem wit_QueuesPushPopAndCancel_5 (H : Obligations.QueuesPushPopAndCancel) : ∃ i P, Answers i { State.reset with queues := [(5, qA)] } P :=
  ⟨_, _, H.2.2.2.2.1 { State.reset with queues := [(5, qA)] } 5 shp [] 0 qA { word := { data := 3 }, stamp := 0 } [] (by decide +kernel) (by decide +kernel) (by decide +kernel) (by decide +kernel)⟩
theorem wit_QueuesPushPopAndCancel_6 (H : Obligations.QueuesPushPopAndCancel) : ∃ i P, Answers i { State.reset with queues := [(5, qE)] } P :=
  ⟨_, _, H.2.2.2.2.2.1 { State.reset with queues := [(5, qE)] } 5 shp [] 0 qE (by decide +kernel) (by decide +kernel)⟩
theorem wit_QueuesPushPopAndCancel_7 (H : Obligations.QueuesPushPopAndCancel) : ∃ i P, Answers i { State.reset with queues := [(5, qP)] } P :=
  ⟨_, _, H.2.2.2.2.2.2.1 { State.reset with queues := [(5, qP)] } 5 shpP [] 0 qP (by decide +kernel) (by decide +kernel) (by decide +kernel) (by decide +kernel) (by decide +kernel)⟩
theorem wit_QueuesPushPopAndCancel_8 (H : Obligations.QueuesPushPopAndCancel) : ∃ i P, Answers i { State.reset with queues := [(5, qF)] } P :=
  ⟨_, _, H.2.2.2.2.2.2.2 { State.reset with queues := [(5, qF)] } 5 shp qF (by decide +kernel)⟩
theorem wit_RegistersAreReadAndWritten_1 (H : Obligations.RegistersAreReadAndWritten) : ∃ i P, Answers i w0 P :=
  ⟨_, _, H.1 w0 28 xIrq (by decide +kernel) (by decide +kernel) (by decide +kernel) (by decide +kernel)⟩
theorem wit_RegistersAreReadAndWritten_2 (H : Obligations.RegistersAreReadAndWritten) : ∃ i P, Answers i w0 P :=
  ⟨_, _, H.2.1 w0 28 63 xIrq (by decide +kernel) (by decide +kernel) (by decide +kernel) (by decide +kernel)⟩
theorem wit_RegistersAreReadAndWritten_3 (H : Obligations.RegistersAreReadAndWritten) : ∃ i P, Answers i w0 P :=
  ⟨_, _, H.2.2.1 w0 28 63 7 (by decide +kernel) (by decide +kernel) (by decide +kernel)⟩
theorem wit_RegistersAreReadAndWritten_4 (H : Obligations.RegistersAreReadAndWritten) : ∃ i P, Answers i wRst P :=
  ⟨_, _, H.2.2.2.1 wRst 28 63 15 true (by decide +kernel) (by decide +kernel)⟩
theorem wit_RegistersAreReadAndWritten_5 (H : Obligations.RegistersAreReadAndWritten) : ∃ i P, Answers i w0 P :=
  ⟨_, _, H.2.2.2.2.1 w0 0 0 .BX_EPC_CTRL (by decide +kernel) (by decide +kernel) (by decide +kernel)⟩
theorem wit_RegistersAreReadAndWritten_6 (H : Obligations.RegistersAreReadAndWritten) : ∃ i P, Answers i w0 P :=
  ⟨_, _, H.2.2.2.2.2.1 w0 (20 * 2 ^ 32 + 9 * 2 ^ 24 + 50) (by decide +kernel) (by decide +kernel) (by decide +kernel)⟩
theorem wit_RegistersAreReadAndWritten_7 (H : Obligations.RegistersAreReadAndWritten) : ∃ i P, Answers i { State.reset with zx := { State.reset.zx with caps := [(0x0501, cRd)] } } P :=
  ⟨_, _, H.2.2.2.2.2.2.1 { State.reset with zx := { State.reset.zx with caps := [(0x0501, cRd)] } } cRd xIrq (by decide +kernel) (by decide +kernel) (by decide +kernel) (by decide +kernel) (by decide +kernel) (by decide +kernel)⟩
theorem wit_RegistersAreReadAndWritten_8 (H : Obligations.RegistersAreReadAndWritten) : ∃ i P, Answers i { State.reset with zx := { State.reset.zx with caps := [(0x0502, cRd)] } } P :=
  ⟨_, _, H.2.2.2.2.2.2.2.1 { State.reset with zx := { State.reset.zx with caps := [(0x0502, cRd)] } } cRd xIrq (by decide +kernel) (by decide +kernel) (by decide +kernel) (by decide +kernel) (by decide +kernel) (by decide +kernel)⟩
theorem wit_RegistersAreReadAndWritten_9 (H : Obligations.RegistersAreReadAndWritten) : ∃ i P, Answers i (wUp2.setZxPort 2 { out := List.replicate 8 { tag := 0, op := 0, params := [] } }) P :=
  ⟨_, _, H.2.2.2.2.2.2.2.2.1 (wUp2.setZxPort 2 { out := List.replicate 8 { tag := 0, op := 0, params := [] } }) cRdOp 2 (by decide +kernel) (by decide +kernel) (by decide +kernel) (by decide +kernel) (by decide +kernel) (by decide +kernel)⟩
theorem wit_RegistersAreReadAndWritten_10 (H : Obligations.RegistersAreReadAndWritten) : ∃ i P, Answers i wUp2 P :=
  ⟨_, _, H.2.2.2.2.2.2.2.2.2 wUp2 cRdOp 2 (by decide +kernel) (by decide +kernel) (by decide +kernel) (by decide +kernel) (by decide +kernel) (by decide +kernel)⟩
theorem wit_LinksTrainThroughTheirStates_1 (H : Obligations.LinksTrainThroughTheirStates) : ∃ i P, Answers i w0 P :=
  ⟨_, _, H.1 w0 (.stem 2) (by decide +kernel) (by decide +kernel) (by decide +kernel)⟩
theorem wit_LinksTrainThroughTheirStates_2 (H : Obligations.LinksTrainThroughTheirStates) : ∃ i P, Answers i w0 P :=
  ⟨_, _, H.2.1 w0 (.stem 64) (by decide +kernel) (by decide +kernel) (by decide +kernel)⟩
theorem wit_LinksTrainThroughTheirStates_3 (H : Obligations.LinksTrainThroughTheirStates) : ∃ i P, Answers i (State.reset.modLink (.stem 2) (fun l => { l with lstate := .lock })) P :=
  ⟨_, _, H.2.2.1 (State.reset.modLink (.stem 2) (fun l => { l with lstate := .lock })) (.stem 2) (by decide +kernel)⟩
theorem wit_LinksTrainThroughTheirStates_4 (H : Obligations.LinksTrainThroughTheirStates) : ∃ i P, Answers i (State.reset.modLink (.canopy 2) (fun l => { l with lstate := .align })) P :=
  ⟨_, _, H.2.2.2.1 (State.reset.modLink (.canopy 2) (fun l => { l with lstate := .align })) (.canopy 2) 228 [0, 8, 3, 1] (by decide +kernel) (by decide +kernel) (by decide +kernel)⟩
theorem wit_LinksTrainThroughTheirStates_5 (H : Obligations.LinksTrainThroughTheirStates) : ∃ i P, Answers i (State.reset.modLink .zx (fun l => { l with lstate := .param })) P :=
  ⟨_, _, H.2.2.2.2.1 (State.reset.modLink .zx (fun l => { l with lstate := .param })) .zx 0x64010000 0x9BFEFFFF 0 true false (by decide +kernel) (by decide +kernel) (by decide +kernel)⟩
theorem wit_LinksTrainThroughTheirStates_6 (H : Obligations.LinksTrainThroughTheirStates) : ∃ i P, Answers i (State.reset.modLink (.stem 2) (fun l => { l with lstate := .param, fresh := false, una := 3, nxt := 6 })) P :=
  ⟨_, _, H.2.2.2.2.2.1 (State.reset.modLink (.stem 2) (fun l => { l with lstate := .param, fresh := false, una := 3, nxt := 6 })) (.stem 2) 0x40010000 0xBFFEFFFF 5 true (by decide +kernel) (by decide +kernel) (by decide +kernel) (by decide +kernel) (by decide +kernel)⟩
theorem wit_LinksTrainThroughTheirStates_7 (H : Obligations.LinksTrainThroughTheirStates) : ∃ i P, Answers i (State.reset.modLink (.stem 2) (fun l => { l with lstate := .align, attempts := 7 })) P :=
  ⟨_, _, H.2.2.2.2.2.2.1 (State.reset.modLink (.stem 2) (fun l => { l with lstate := .align, attempts := 7 })) (.stem 2) (by decide +kernel)⟩
theorem wit_LinksTrainThroughTheirStates_8 (H : Obligations.LinksTrainThroughTheirStates) : ∃ i P, Answers i (State.reset.modLink (.stem 2) (fun l => { l with lstate := .downHold, attempts := 8 })) P :=
  ⟨_, _, H.2.2.2.2.2.2.2.1 (State.reset.modLink (.stem 2) (fun l => { l with lstate := .downHold, attempts := 8 })) (.stem 2) (by decide +kernel) (by decide +kernel)⟩
theorem wit_LinksTrainThroughTheirStates_9 (H : Obligations.LinksTrainThroughTheirStates) : ∃ i P, Answers i (State.reset.modLink (.stem 2) (fun l => { l with lstate := .active, lock := 15 })) P :=
  ⟨_, _, H.2.2.2.2.2.2.2.2.1 (State.reset.modLink (.stem 2) (fun l => { l with lstate := .active, lock := 15 })) (.stem 2) 7 (by decide +kernel) (by decide +kernel)⟩
theorem wit_LinksTrainThroughTheirStates_10 (H : Obligations.LinksTrainThroughTheirStates) : ∃ i P, Answers i (State.reset.modLink .zx (fun l => { l with lstate := .active, lock := 15, missRun := [0, 2, 0, 0] })) P :=
  ⟨_, _, H.2.2.2.2.2.2.2.2.2.1 (State.reset.modLink .zx (fun l => { l with lstate := .active, lock := 15, missRun := [0, 2, 0, 0] })) .zx [] (by decide +kernel) (by decide +kernel) ((by decide +kernel))⟩
theorem wit_LinksTrainThroughTheirStates_11 (H : Obligations.LinksTrainThroughTheirStates) : ∃ i P, Answers i (State.reset.modLink (.canopy 2) (fun l => { l with lstate := .active, lock := 15 })) P :=
  ⟨_, _, H.2.2.2.2.2.2.2.2.2.2.1 (State.reset.modLink (.canopy 2) (fun l => { l with lstate := .active, lock := 15 })) (.canopy 2) (by decide +kernel)⟩
theorem wit_LinksTrainThroughTheirStates_12 (H : Obligations.LinksTrainThroughTheirStates) : ∃ i P, Answers i (State.reset.modLink .zx (fun l => { l with lstate := .active, lock := 15 })) P :=
  ⟨_, _, H.2.2.2.2.2.2.2.2.2.2.2.1 (State.reset.modLink .zx (fun l => { l with lstate := .active, lock := 15 })) 1 (by decide +kernel) (by decide +kernel)⟩
theorem wit_LinksTrainThroughTheirStates_13 (H : Obligations.LinksTrainThroughTheirStates) : ∃ i P, Answers i (State.reset.modLink (.stem 2) (fun l => { l with lstate := .active, lock := 15 })) P :=
  ⟨_, _, H.2.2.2.2.2.2.2.2.2.2.2.2.1 (State.reset.modLink (.stem 2) (fun l => { l with lstate := .active, lock := 15 })) 2 (by decide +kernel) (by decide +kernel)⟩
theorem wit_LinksTrainThroughTheirStates_14 (H : Obligations.LinksTrainThroughTheirStates) : ∃ i P, Answers i w0 P :=
  ⟨_, _, H.2.2.2.2.2.2.2.2.2.2.2.2.2.1 w0 2 (by decide +kernel) (by decide +kernel)⟩
theorem wit_LinksTrainThroughTheirStates_15 (H : Obligations.LinksTrainThroughTheirStates) : ∃ i P, Answers i (State.reset.modLink (.canopy 2) (fun l => { l with lstate := .active, lock := 15 })) P :=
  ⟨_, _, H.2.2.2.2.2.2.2.2.2.2.2.2.2.2.1 (State.reset.modLink (.canopy 2) (fun l => { l with lstate := .active, lock := 15 })) 2 (by decide +kernel) (by decide +kernel)⟩
theorem wit_LinksTrainThroughTheirStates_16 (H : Obligations.LinksTrainThroughTheirStates) : ∃ i P, Answers i w0 P :=
  ⟨_, _, H.2.2.2.2.2.2.2.2.2.2.2.2.2.2.2.1 w0 2 (by decide +kernel) (by decide +kernel)⟩
theorem wit_LinksTrainThroughTheirStates_17 (H : Obligations.LinksTrainThroughTheirStates) : ∃ i P, Answers i w0 P :=
  ⟨_, _, H.2.2.2.2.2.2.2.2.2.2.2.2.2.2.2.2 w0 cPort (by decide +kernel) (by decide +kernel) (by decide +kernel)⟩
theorem wit_FlitsAreSentHeldAndAcknowledged_1 (H : Obligations.FlitsAreSentHeldAndAcknowledged) : ∃ i P, Answers i wWaitF P :=
  ⟨_, _, H.1 wWaitF 2 { body := bodyC } (by decide +kernel) (by decide +kernel) (by decide +kernel) (by decide +kernel) (by decide +kernel) (by decide +kernel) (by decide +kernel)⟩
theorem wit_FlitsAreSentHeldAndAcknowledged_2 (H : Obligations.FlitsAreSentHeldAndAcknowledged) : ∃ i P, Answers i (State.reset.modLink (.stem 64) (fun l => { l with lstate := .active, nakPending := true })) P :=
  ⟨_, _, H.2.1 (State.reset.modLink (.stem 64) (fun l => { l with lstate := .active, nakPending := true })) (.stem 64) (flitWords true (.stem 64) capsFlit) capsFlit (State.reset.modLink (.stem 64) (fun l => { l with lstate := .active, nakPending := true })) (by decide +kernel) (by decide +kernel) (by decide +kernel) (by decide +kernel) ((by intro p h hp; cases h; exact absurd rfl hp)) (by decide +kernel) (by decide +kernel) (by decide +kernel)⟩
theorem wit_FlitsAreSentHeldAndAcknowledged_3 (H : Obligations.FlitsAreSentHeldAndAcknowledged) : ∃ i P, Answers i wAckd P :=
  ⟨_, _, H.2.2.1 wAckd (.stem 2) (by decide +kernel)⟩
theorem wit_FlitsAreSentHeldAndAcknowledged_4 (H : Obligations.FlitsAreSentHeldAndAcknowledged) : ∃ i P, Answers i wAckd P :=
  ⟨_, _, H.2.2.2.1 wAckd (.stem 2) (by decide +kernel) (by decide +kernel) (by decide +kernel) (by decide +kernel)⟩
theorem wit_FlitsAreSentHeldAndAcknowledged_5 (H : Obligations.FlitsAreSentHeldAndAcknowledged) : ∃ i P, Answers i wAckd P :=
  ⟨_, _, H.2.2.2.2 wAckd (.stem 2) (by decide +kernel)⟩
theorem wit_TimeExchangesComplete_1 (H : Obligations.TimeExchangesComplete) : ∃ i P, Answers i wUp2 P :=
  ⟨_, _, H.1 wUp2 [] [] 2 (by decide +kernel) (by decide +kernel) (by decide +kernel)⟩
theorem wit_TimeExchangesComplete_2 (H : Obligations.TimeExchangesComplete) : ∃ i P, Answers i w0 P :=
  ⟨_, _, H.2.1 w0 7 125 1000 5 20 400 ⟩
theorem wit_TimeExchangesComplete_3 (H : Obligations.TimeExchangesComplete) : ∃ i P, Answers i wStemX P :=
  ⟨_, _, H.2.2.1 wStemX 2 7 500 600 (by decide +kernel) (by decide +kernel)⟩
theorem wit_TimeExchangesComplete_4 (H : Obligations.TimeExchangesComplete) : ∃ i P, Answers i wExch P :=
  ⟨_, _, H.2.2.2.1 wExch 7 4000 { num := 7, t1 := 1000, t2 := 2000, t3 := 3000, period := 125 } (by decide +kernel) (by decide +kernel) (by decide +kernel) (by decide +kernel)⟩
theorem wit_TimeExchangesComplete_5 (H : Obligations.TimeExchangesComplete) : ∃ i P, Answers i wPtp P :=
  ⟨_, _, H.2.2.2.2.1 wPtp 3 9 mSync 500 600 (by decide +kernel) (by decide +kernel)⟩
theorem wit_TimeExchangesComplete_6 (H : Obligations.TimeExchangesComplete) : ∃ i P, Answers i { wPtp with tsrc := { canopy := [(9, (77, true))] } } P :=
  ⟨_, _, H.2.2.2.2.2.1 { wPtp with tsrc := { canopy := [(9, (77, true))] } } 3 9 mReq 500 (by decide +kernel) (by decide +kernel)⟩
theorem wit_TimeExchangesComplete_7 (H : Obligations.TimeExchangesComplete) : ∃ i P, Answers i { wPtp with bxTb := { exch := some { num := 77, t1 := 65000, t2 := 2000, t3 := 1500, period := 125, q := 3, src := 9, reqPort := 4 } } } P :=
  ⟨_, _, H.2.2.2.2.2.2.1 { wPtp with bxTb := { exch := some { num := 77, t1 := 65000, t2 := 2000, t3 := 1500, period := 125, q := 3, src := 9, reqPort := 4 } } } 3 9 mResp { num := 77, t1 := 65000, t2 := 2000, t3 := 1500, period := 125, q := 3, src := 9, reqPort := 4 } (by decide +kernel) (by decide +kernel) (by decide +kernel) (by decide +kernel) (by decide +kernel) (by decide +kernel) (by decide +kernel) (by decide +kernel)⟩
theorem wit_TimeExchangesComplete_8 (H : Obligations.TimeExchangesComplete) : ∃ i P, Answers i { State.reset with cnp := { routes := [(5, 4)] } } P :=
  ⟨_, _, H.2.2.2.2.2.2.2.1 { State.reset with cnp := { routes := [(5, 4)] } } 3 0 9 5 7 mSync 100 200 4 (by decide +kernel) (by decide +kernel)⟩
theorem wit_TimeExchangesComplete_9 (H : Obligations.TimeExchangesComplete) : ∃ i P, Answers i wCard P :=
  ⟨_, _, H.2.2.2.2.2.2.2.2.1 wCard 1000 (by decide +kernel) (by decide +kernel) (by decide +kernel)⟩
theorem wit_TimeExchangesComplete_10 (H : Obligations.TimeExchangesComplete) : ∃ i P, Answers i wTod P :=
  ⟨_, _, H.2.2.2.2.2.2.2.2.2 wTod todF 0 (by decide +kernel) (by decide +kernel) (by decide +kernel) (by decide +kernel) (by decide +kernel) (by decide +kernel) (by decide +kernel) (by decide +kernel) (by decide +kernel) (by decide +kernel) (by decide +kernel)⟩
theorem wit_TimebasesHoldAndTriggersFire_1 (H : Obligations.TimebasesHoldAndTriggersFire) : ∃ i P, Answers i { State.reset with bxTb := { state := .locked } } P :=
  ⟨_, _, H.1 { State.reset with bxTb := { state := .locked } } .bx (by decide +kernel) (by decide +kernel)⟩
theorem wit_TimebasesHoldAndTriggersFire_2 (H : Obligations.TimebasesHoldAndTriggersFire) : ∃ i P, Answers i { State.reset with bxTb := { state := .holdover, run := 10 ^ 30 } } P :=
  ⟨_, _, H.2.1 { State.reset with bxTb := { state := .holdover, run := 10 ^ 30 } } .bx (by decide +kernel)⟩
theorem wit_TimebasesHoldAndTriggersFire_3 (H : Obligations.TimebasesHoldAndTriggersFire) : ∃ i P, Answers i w0 P :=
  ⟨_, _, H.2.2.1 w0 cT0 (by decide +kernel) (by decide +kernel) (by decide +kernel)⟩
theorem wit_TimebasesHoldAndTriggersFire_4 (H : Obligations.TimebasesHoldAndTriggersFire) : ∃ i P, Answers i { State.reset with bxTb := { grant := some 0 } } P :=
  ⟨_, _, H.2.2.2.1 { State.reset with bxTb := { grant := some 0 } } .bx (by decide +kernel)⟩
theorem wit_TimebasesHoldAndTriggersFire_5 (H : Obligations.TimebasesHoldAndTriggersFire) : ∃ i P, Answers i wLac P :=
  ⟨_, _, H.2.2.2.2.1 wLac 2 (by decide +kernel) (by decide +kernel) (by decide +kernel) (by decide +kernel)⟩
theorem wit_TimebasesHoldAndTriggersFire_6 (H : Obligations.TimebasesHoldAndTriggersFire) : ∃ i P, Answers i wLacP P :=
  ⟨_, _, H.2.2.2.2.2.1 wLacP 2 (by decide +kernel) (by decide +kernel) (by decide +kernel) (by decide +kernel)⟩
theorem wit_TimebasesHoldAndTriggersFire_7 (H : Obligations.TimebasesHoldAndTriggersFire) : ∃ i P, Answers i w0 P :=
  ⟨_, _, H.2.2.2.2.2.2.1 w0 2 (2 ^ 63 + 9) (by decide +kernel) (by decide +kernel) (by decide +kernel)⟩
theorem wit_TimebasesHoldAndTriggersFire_8 (H : Obligations.TimebasesHoldAndTriggersFire) : ∃ i P, Answers i { State.reset.wr BX_TB_PPS_EN 0 1 with bxTb := { state := .locked, count := 1000000000 * 4294967296 + 5 } } P :=
  ⟨_, _, H.2.2.2.2.2.2.2.1 { State.reset.wr BX_TB_PPS_EN 0 1 with bxTb := { state := .locked, count := 1000000000 * 4294967296 + 5 } } (by decide +kernel) ((by intro n h; cases h)) (by decide +kernel)⟩
theorem wit_TimebasesHoldAndTriggersFire_9 (H : Obligations.TimebasesHoldAndTriggersFire) : ∃ i P, Answers i w0 P :=
  ⟨_, _, H.2.2.2.2.2.2.2.2.1 w0 cSrc (by decide +kernel) (by decide +kernel) (by decide +kernel) (by decide +kernel)⟩
theorem wit_TimebasesHoldAndTriggersFire_10 (H : Obligations.TimebasesHoldAndTriggersFire) : ∃ i P, Answers i w0 P :=
  ⟨_, _, H.2.2.2.2.2.2.2.2.2.1 w0 cT0 (by decide +kernel)⟩
theorem wit_TimebasesHoldAndTriggersFire_11 (H : Obligations.TimebasesHoldAndTriggersFire) : ∃ i P, Answers i w0 P :=
  ⟨_, _, H.2.2.2.2.2.2.2.2.2.2.1 w0 cT0 (by decide +kernel)⟩
theorem wit_TimebasesHoldAndTriggersFire_12 (H : Obligations.TimebasesHoldAndTriggersFire) : ∃ i P, Answers i w0 P :=
  ⟨_, _, H.2.2.2.2.2.2.2.2.2.2.2 w0 cPps (by decide +kernel) (by decide +kernel)⟩
theorem wit_BlazeUnitsOfZx40Judge_1 (H : Obligations.BlazeUnitsOfZx40Judge) : ∃ i P, Answers i { State.reset with zx := { State.reset.zx with blz := [(3, { ready := [zBlk] })] } } P :=
  ⟨_, _, H.1 { State.reset with zx := { State.reset.zx with blz := [(3, { ready := [zBlk] })] } } 3 zBlk [] (by decide +kernel) (by decide +kernel) (by decide +kernel) (by decide +kernel) (by decide +kernel) (by decide +kernel)⟩
theorem wit_BlazeUnitsOfZx40Judge_2 (H : Obligations.BlazeUnitsOfZx40Judge) : ∃ i P, Answers i { wPoi with zx := { wPoi.zx with blz := [(3, { ready := [zBlkS] })] } } P :=
  ⟨_, _, H.2.1 { wPoi with zx := { wPoi.zx with blz := [(3, { ready := [zBlkS] })] } } 3 zBlkS [] (by decide +kernel) (by decide +kernel) (by decide +kernel) (by decide +kernel) (by decide +kernel) (by decide +kernel) (by decide +kernel) (by decide +kernel)⟩
theorem wit_BlazeUnitsOfZx40Judge_3 (H : Obligations.BlazeUnitsOfZx40Judge) : ∃ i P, Answers i { State.reset with zx := { State.reset.zx with blz := [(3, { ready := [zBlkC] })] } } P :=
  ⟨_, _, H.2.2.1 { State.reset with zx := { State.reset.zx with blz := [(3, { ready := [zBlkC] })] } } 3 zBlkC [] (by decide +kernel) (by decide +kernel) (by decide +kernel) (by decide +kernel) (by decide +kernel) (by decide +kernel) (⟨0, by decide, by decide⟩)⟩
theorem wit_BlazeUnitsOfZx40Judge_4 (H : Obligations.BlazeUnitsOfZx40Judge) : ∃ i P, Answers i wBlzRf P :=
  ⟨_, _, H.2.2.2.1 wBlzRf 3 2 { addr := 512, tag := 7, at_ := 0 } (by decide +kernel) (by decide +kernel) (by decide +kernel)⟩
theorem wit_BlazeUnitsOfZx40Judge_5 (H : Obligations.BlazeUnitsOfZx40Judge) : ∃ i P, Answers i wBlzRf P :=
  ⟨_, _, H.2.2.2.2.1 wBlzRf 3 (by decide +kernel) (by decide +kernel)⟩
theorem wit_BlazeUnitsOfZx40Judge_6 (H : Obligations.BlazeUnitsOfZx40Judge) : ∃ i P, Answers i w0 P :=
  ⟨_, _, H.2.2.2.2.2.1 w0 3 ⟩
theorem wit_BlazeUnitsOfZx40Judge_7 (H : Obligations.BlazeUnitsOfZx40Judge) : ∃ i P, Answers i w0 P :=
  ⟨_, _, H.2.2.2.2.2.2.1 w0 3 (5 * 2 ^ 32 + 1) (by decide +kernel) (by decide +kernel) (by decide +kernel)⟩
theorem wit_BlazeUnitsOfZx40Judge_8 (H : Obligations.BlazeUnitsOfZx40Judge) : ∃ i P, Answers i (State.reset.wr BLZ_CFG_EN 3 1) P :=
  ⟨_, _, H.2.2.2.2.2.2.2 (State.reset.wr BLZ_CFG_EN 3 1) 3 (5 * 2 ^ 32 + 1) (by decide +kernel) (by decide +kernel) (by decide +kernel) (by decide +kernel) (by decide +kernel)⟩
theorem wit_BlazeUnitsOfBx64Judge_1 (H : Obligations.BlazeUnitsOfBx64Judge) : ∃ i P, Answers i wBxEn P :=
  ⟨_, _, H.1 wBxEn 18 0 bxB (by decide +kernel) (by decide +kernel) (by decide +kernel)⟩
theorem wit_BlazeUnitsOfBx64Judge_2 (H : Obligations.BlazeUnitsOfBx64Judge) : ∃ i P, Answers i wBxEn P :=
  ⟨_, _, H.2.1 wBxEn 18 bxB (by decide +kernel) (by decide +kernel) (by decide +kernel) (by decide +kernel) (by decide +kernel) (by decide +kernel)⟩
theorem wit_BlazeUnitsOfBx64Judge_3 (H : Obligations.BlazeUnitsOfBx64Judge) : ∃ i P, Answers i wBxEn P :=
  ⟨_, _, H.2.2.1 wBxEn 18 bxC (by decide +kernel) (by decide +kernel) (by decide +kernel) (by decide +kernel) (by decide +kernel)⟩
theorem wit_BlazeUnitsOfBx64Judge_4 (H : Obligations.BlazeUnitsOfBx64Judge) : ∃ i P, Answers i wRr P :=
  ⟨_, _, H.2.2.2.1 wRr 18 bxB.word 5 (zeroBytes 64) bxC 1 (by decide +kernel) (by decide +kernel) (by decide +kernel) (by decide +kernel) (by decide +kernel)⟩
theorem wit_BlazeUnitsOfBx64Judge_5 (H : Obligations.BlazeUnitsOfBx64Judge) : ∃ i P, Answers i w0 P :=
  ⟨_, _, H.2.2.2.2 w0 3 (5 * 2 ^ 32 + 1) (by decide +kernel)⟩
theorem wit_PartialsFlowUpTheTree_1 (H : Obligations.PartialsFlowUpTheTree) : ∃ i P, Answers i wPf P :=
  ⟨_, _, H.1 wPf 50 1 ctxA gC (by decide +kernel) (by decide +kernel) (by decide +kernel) (by decide +kernel) (by decide +kernel) (by decide +kernel)⟩
theorem wit_PartialsFlowUpTheTree_2 (H : Obligations.PartialsFlowUpTheTree) : ∃ i P, Answers i wPr P :=
  ⟨_, _, H.2.1 wPr 50 1 ctxA gC (by decide +kernel) (by decide +kernel) (by decide +kernel) (by decide +kernel) (by decide +kernel) (by decide +kernel) (by decide +kernel)⟩
theorem wit_PartialsFlowUpTheTree_3 (H : Obligations.PartialsFlowUpTheTree) : ∃ i P, Answers i wSup P :=
  ⟨_, _, H.2.2.1 wSup 50 1 ctxS gC (by decide +kernel) (by decide +kernel) (by decide +kernel) (by decide +kernel) (by decide +kernel) (by decide +kernel) (by decide +kernel) (by decide +kernel)⟩
theorem wit_PartialsFlowUpTheTree_4 (H : Obligations.PartialsFlowUpTheTree) : ∃ i P, Answers i wGot P :=
  ⟨_, _, H.2.2.2.1 wGot 3 1 7 ptl { epoch := 50 } (by decide +kernel) (by decide +kernel) (by decide +kernel) (by decide +kernel) (by decide +kernel) (by decide +kernel) (by decide +kernel) (by decide +kernel) (by decide +kernel)⟩
theorem wit_PartialsFlowUpTheTree_5 (H : Obligations.PartialsFlowUpTheTree) : ∃ i P, Answers i wGot P :=
  ⟨_, _, H.2.2.2.2.1 wGot 3 1 7 ptlG gA (by decide +kernel) (by decide +kernel) (by decide +kernel) (by decide +kernel) (by decide +kernel) (by decide +kernel)⟩
theorem wit_PartialsFlowUpTheTree_6 (H : Obligations.PartialsFlowUpTheTree) : ∃ i P, Answers i { wGot with cnp := { wGot.cnp with peers := [(1, { lost := true })] } } P :=
  ⟨_, _, H.2.2.2.2.2.1 { wGot with cnp := { wGot.cnp with peers := [(1, { lost := true })] } } 3 1 7 ptl false (by decide +kernel)⟩
theorem wit_PartialsFlowUpTheTree_7 (H : Obligations.PartialsFlowUpTheTree) : ∃ i P, Answers i wGot P :=
  ⟨_, _, H.2.2.2.2.2.2.1 wGot 3 9 7 ptl false (by decide +kernel) (by decide +kernel) (by decide +kernel)⟩
theorem wit_PartialsFlowUpTheTree_8 (H : Obligations.PartialsFlowUpTheTree) : ∃ i P, Answers i wGot P :=
  ⟨_, _, H.2.2.2.2.2.2.2.1 wGot 3 1 7 5 9 (by decide +kernel) (by decide +kernel) (by decide +kernel)⟩
theorem wit_PartialsFlowUpTheTree_9 (H : Obligations.PartialsFlowUpTheTree) : ∃ i P, Answers i { wGot with cnp := { wGot.cnp with delivered := [(1, 7)] } } P :=
  ⟨_, _, H.2.2.2.2.2.2.2.2 { wGot with cnp := { wGot.cnp with delivered := [(1, 7)] } } 3 1 7 [] (by decide +kernel)⟩
theorem wit_MessagesOfLocalDiesAreTaken_1 (H : Obligations.MessagesOfLocalDiesAreTaken) : ∃ i P, Answers i wSnp P :=
  ⟨_, _, H.1 wSnp 2 snB false (by decide +kernel) (by decide +kernel) (by decide +kernel) (by decide +kernel) (by decide +kernel) (by decide +kernel)⟩
theorem wit_MessagesOfLocalDiesAreTaken_2 (H : Obligations.MessagesOfLocalDiesAreTaken) : ∃ i P, Answers i wSnpD P :=
  ⟨_, _, H.2.1 wSnpD 2 snB snE (by decide +kernel) (by decide +kernel) (by decide +kernel) (by decide +kernel)⟩
theorem wit_MessagesOfLocalDiesAreTaken_3 (H : Obligations.MessagesOfLocalDiesAreTaken) : ∃ i P, Answers i wSnp P :=
  ⟨_, _, H.2.2.1 wSnp 3 snB true (by decide +kernel)⟩
theorem wit_MessagesOfLocalDiesAreTaken_4 (H : Obligations.MessagesOfLocalDiesAreTaken) : ∃ i P, Answers i wSnp P :=
  ⟨_, _, H.2.2.2.1 wSnp 3 snB true (by decide +kernel)⟩
theorem wit_MessagesOfLocalDiesAreTaken_5 (H : Obligations.MessagesOfLocalDiesAreTaken) : ∃ i P, Answers i wSaf P :=
  ⟨_, _, H.2.2.2.2.1 wSaf 2 7 safP (by decide +kernel) (by decide +kernel) (by decide +kernel)⟩
theorem wit_MessagesOfLocalDiesAreTaken_6 (H : Obligations.MessagesOfLocalDiesAreTaken) : ∃ i P, Answers i wUpC P :=
  ⟨_, _, H.2.2.2.2.2.1 wUpC 2 1 1 5 7 capP (by decide +kernel) (by decide +kernel) (by decide +kernel) (by decide +kernel) (by decide +kernel) (by decide +kernel) (by decide +kernel) (by decide +kernel)⟩
theorem wit_MessagesOfLocalDiesAreTaken_7 (H : Obligations.MessagesOfLocalDiesAreTaken) : ∃ i P, Answers i wFen P :=
  ⟨_, _, H.2.2.2.2.2.2.1 wFen 2 1 7 capP none (by decide +kernel) (by decide +kernel) (by decide +kernel)⟩
theorem wit_MessagesOfLocalDiesAreTaken_8 (H : Obligations.MessagesOfLocalDiesAreTaken) : ∃ i P, Answers i wEp P :=
  ⟨_, _, H.2.2.2.2.2.2.2.1 wEp 2 blzP (by decide +kernel) (by decide +kernel) (by decide +kernel) (by decide +kernel) (by decide +kernel)⟩
theorem wit_MessagesOfLocalDiesAreTaken_9 (H : Obligations.MessagesOfLocalDiesAreTaken) : ∃ i P, Answers i wFen P :=
  ⟨_, _, H.2.2.2.2.2.2.2.2.1 wFen 2 blzP (by decide +kernel)⟩
theorem wit_MessagesOfLocalDiesAreTaken_10 (H : Obligations.MessagesOfLocalDiesAreTaken) : ∃ i P, Answers i wZo P :=
  ⟨_, _, H.2.2.2.2.2.2.2.2.2.1 wZo 2 4 0 0 0x0605 [7] cmdZ cOp (by decide +kernel) (by decide +kernel) (by decide +kernel) (by decide +kernel) (by decide +kernel)⟩
theorem wit_MessagesOfLocalDiesAreTaken_11 (H : Obligations.MessagesOfLocalDiesAreTaken) : ∃ i P, Answers i wZo P :=
  ⟨_, _, H.2.2.2.2.2.2.2.2.2.2.1 wZo 2 5 0 0 [] (by decide +kernel)⟩
theorem wit_MessagesOfLocalDiesAreTaken_12 (H : Obligations.MessagesOfLocalDiesAreTaken) : ∃ i P, Answers i wZr P :=
  ⟨_, _, H.2.2.2.2.2.2.2.2.2.2.2.1 wZr 2 0 4 (by decide +kernel) (by decide +kernel) (by decide +kernel)⟩
theorem wit_MessagesOfLocalDiesAreTaken_13 (H : Obligations.MessagesOfLocalDiesAreTaken) : ∃ i P, Answers i wVec P :=
  ⟨_, _, H.2.2.2.2.2.2.2.2.2.2.2.2.1 wVec 50 (zeroBytes 48) (by decide +kernel) (by decide +kernel) (by decide +kernel) (by decide +kernel)⟩
theorem wit_MessagesOfLocalDiesAreTaken_14 (H : Obligations.MessagesOfLocalDiesAreTaken) : ∃ i P, Answers i { wVec with red := { wVec.red with lastVec := some 60 } } P :=
  ⟨_, _, H.2.2.2.2.2.2.2.2.2.2.2.2.2 { wVec with red := { wVec.red with lastVec := some 60 } } 50 60 [] (by decide +kernel) (by decide +kernel)⟩
theorem wit_GroveModelsAreLoadedAndRead_1 (H : Obligations.GroveModelsAreLoadedAndRead) : ∃ i P, Answers i wGr P :=
  ⟨_, _, H.1 wGr cLd (by decide +kernel) (by decide +kernel) (by decide +kernel) (by decide +kernel)⟩
theorem wit_GroveModelsAreLoadedAndRead_2 (H : Obligations.GroveModelsAreLoadedAndRead) : ∃ i P, Answers i wGr P :=
  ⟨_, _, H.2.1 wGr cLd2 (1, S_BADPARAM) (by decide +kernel) (by decide +kernel) (by decide +kernel) (by decide +kernel)⟩
theorem wit_GroveModelsAreLoadedAndRead_3 (H : Obligations.GroveModelsAreLoadedAndRead) : ∃ i P, Answers i wGr P :=
  ⟨_, _, H.2.2.1 wGr cUnl (by decide +kernel) (by decide +kernel) (by decide +kernel) (by decide +kernel) (by decide +kernel)⟩
theorem wit_GroveModelsAreLoadedAndRead_4 (H : Obligations.GroveModelsAreLoadedAndRead) : ∃ i P, Answers i wGr P :=
  ⟨_, _, H.2.2.2.1 wGr cIn mdA (by decide +kernel) (by decide +kernel) (by decide +kernel) (by decide +kernel)⟩
theorem wit_GroveModelsAreLoadedAndRead_5 (H : Obligations.GroveModelsAreLoadedAndRead) : ∃ i P, Answers i wScr P :=
  ⟨_, _, H.2.2.2.2.1 wScr cSr 2 srA (by decide +kernel) (by decide +kernel) (by decide +kernel) (by decide +kernel) (by decide +kernel) (by decide +kernel)⟩
theorem wit_GroveModelsAreLoadedAndRead_6 (H : Obligations.GroveModelsAreLoadedAndRead) : ∃ i P, Answers i wGr P :=
  ⟨_, _, H.2.2.2.2.2.1 wGr cIn mdA (by decide +kernel) (by decide +kernel) (by decide +kernel) (by decide +kernel)⟩
theorem wit_GroveModelsAreLoadedAndRead_7 (H : Obligations.GroveModelsAreLoadedAndRead) : ∃ i P, Answers i wGrUp P :=
  ⟨_, _, H.2.2.2.2.2.2.1 wGrUp cRf 2 (grsImage mdB 1) (by decide +kernel) (by decide +kernel) (by decide +kernel) (by rfl) (by decide +kernel)⟩
theorem wit_GroveModelsAreLoadedAndRead_8 (H : Obligations.GroveModelsAreLoadedAndRead) : ∃ i P, Answers i wGr P :=
  ⟨_, _, H.2.2.2.2.2.2.2.1 wGr cBind (by decide +kernel) (by decide +kernel) (by decide +kernel) (by decide +kernel) (by decide +kernel) (by decide +kernel) (by decide +kernel) (by decide +kernel)⟩
theorem wit_GroveModelsAreLoadedAndRead_9 (H : Obligations.GroveModelsAreLoadedAndRead) : ∃ i P, Answers i wGr P :=
  ⟨_, _, H.2.2.2.2.2.2.2.2.1 wGr cBindP mdS (by decide +kernel) (by decide +kernel) (by decide +kernel) (by decide +kernel) (by decide +kernel) (by decide +kernel) (by decide +kernel) (by decide +kernel) (by decide +kernel)⟩
theorem wit_GroveModelsAreLoadedAndRead_10 (H : Obligations.GroveModelsAreLoadedAndRead) : ∃ i P, Answers i wGr P :=
  ⟨_, _, H.2.2.2.2.2.2.2.2.2 wGr 5 ⟩
theorem wit_GroveScoresAndSplitsModels_1 (H : Obligations.GroveScoresAndSplitsModels) : ∃ i P, Answers i wGrN P :=
  ⟨_, _, H.1 wGrN 0 2 vecG (by decide +kernel) (by decide +kernel) (by decide +kernel) (by decide +kernel) (by decide +kernel)⟩
theorem wit_GroveScoresAndSplitsModels_2 (H : Obligations.GroveScoresAndSplitsModels) : ∃ i P, Answers i wGr P :=
  ⟨_, _, H.2.1 wGr 0 2 vecG mdA [0, 20] (by decide +kernel) (by decide +kernel) (by decide +kernel) (by decide +kernel) (by decide +kernel) (by decide +kernel) (by decide +kernel)⟩
theorem wit_GroveScoresAndSplitsModels_3 (H : Obligations.GroveScoresAndSplitsModels) : ∃ i P, Answers i wGr P :=
  ⟨_, _, H.2.2.1 wGr cEv mdA [0, 20] (by decide +kernel) (by decide +kernel) (by decide +kernel) (by decide +kernel) (by decide +kernel) (by decide +kernel)⟩
theorem wit_GroveScoresAndSplitsModels_4 (H : Obligations.GroveScoresAndSplitsModels) : ∃ i P, Answers i wGrRt P :=
  ⟨_, _, H.2.2.2.1 wGrRt 5 5 7 9 1 3 vecG none (by decide +kernel) (by decide +kernel)⟩
theorem wit_GroveScoresAndSplitsModels_5 (H : Obligations.GroveScoresAndSplitsModels) : ∃ i P, Answers i wSp P :=
  ⟨_, _, H.2.2.2.2.1 wSp 5 6 8 1 7 1 false [1, 2] (by decide +kernel)⟩
theorem wit_GroveScoresAndSplitsModels_6 (H : Obligations.GroveScoresAndSplitsModels) : ∃ i P, Answers i wSp P :=
  ⟨_, _, H.2.2.2.2.2.1 wSp 5 6 9 1 2 [3, 4] spA mdS (by decide +kernel) (by decide +kernel) (by decide +kernel) (by decide +kernel) (by decide +kernel) (by decide +kernel) (by decide +kernel) (by decide +kernel) (by decide +kernel) (by decide +kernel) (by decide +kernel) (by decide +kernel)⟩
theorem wit_GroveScoresAndSplitsModels_7 (H : Obligations.GroveScoresAndSplitsModels) : ∃ i P, Answers i wSpE P :=
  ⟨_, _, H.2.2.2.2.2.2.1 wSpE 5 6 9 2 [3, 4] spE mdS cOp (by decide +kernel) (by decide +kernel) (by decide +kernel) (by decide +kernel) (by decide +kernel) (by decide +kernel) (by decide +kernel) (by decide +kernel) (by decide +kernel) (by decide +kernel) (by decide +kernel)⟩
theorem wit_GroveScoresAndSplitsModels_8 (H : Obligations.GroveScoresAndSplitsModels) : ∃ i P, Answers i wSpT P :=
  ⟨_, _, H.2.2.2.2.2.2.2.1 wSpT 9 { spA with at_ := 0 } mdS (by decide +kernel) (by decide +kernel) (by decide +kernel) (by decide +kernel)⟩
theorem wit_GroveScoresAndSplitsModels_9 (H : Obligations.GroveScoresAndSplitsModels) : ∃ i P, Answers i wChk P :=
  ⟨_, _, H.2.2.2.2.2.2.2.2.1 wChk 2 50 enG mdA [10, 0] (by decide +kernel) (by decide +kernel) (by decide +kernel) (by decide +kernel) (by decide +kernel) (by decide +kernel) (by decide +kernel) (by decide +kernel) (by decide +kernel) (by decide +kernel) (by decide +kernel)⟩
theorem wit_GroveScoresAndSplitsModels_10 (H : Obligations.GroveScoresAndSplitsModels) : ∃ i P, Answers i wChk1 P :=
  ⟨_, _, H.2.2.2.2.2.2.2.2.2 wChk1 2 50 enG1 mdA [10, 0] (by decide +kernel) (by decide +kernel) (by decide +kernel) (by decide +kernel) (by decide +kernel) (by decide +kernel) (by decide +kernel) (by decide +kernel) (by decide +kernel) (by decide +kernel)⟩
theorem wit_CorrelatorTakesDigestsAndReads_1 (H : Obligations.CorrelatorTakesDigestsAndReads) : ∃ i P, Answers i { wCorr with cor := { wCorr.cor with groups := [{ grpA with due := [] }] } } P :=
  ⟨_, _, H.1 { wCorr with cor := { wCorr.cor with groups := [{ grpA with due := [] }] } } 3 1 7 dgA { grpA with due := [] } (by decide +kernel) (by decide +kernel) (by decide +kernel) (by decide +kernel) (by decide +kernel) (by decide +kernel)⟩
theorem wit_CorrelatorTakesDigestsAndReads_2 (H : Obligations.CorrelatorTakesDigestsAndReads) : ∃ i P, Answers i { wCorr with cnp := { wCorr.cnp with delivered := [(1, 7)] } } P :=
  ⟨_, _, H.2.1 { wCorr with cnp := { wCorr.cnp with delivered := [(1, 7)] } } 3 1 7 dgA (by decide +kernel)⟩
theorem wit_CorrelatorTakesDigestsAndReads_3 (H : Obligations.CorrelatorTakesDigestsAndReads) : ∃ i P, Answers i wCorr P :=
  ⟨_, _, H.2.2.1 wCorr 0 3 50 1000 grpA gBar (by decide +kernel) (by decide +kernel) (by decide +kernel) (by decide +kernel)⟩
theorem wit_CorrelatorTakesDigestsAndReads_4 (H : Obligations.CorrelatorTakesDigestsAndReads) : ∃ i P, Answers i wCorr2 P :=
  ⟨_, _, H.2.2.2.1 wCorr2 0 3 50 1000 grpA gBar (by decide +kernel) (by decide +kernel) (by decide +kernel) (by decide +kernel) (by decide +kernel)⟩
theorem wit_CorrelatorTakesDigestsAndReads_5 (H : Obligations.CorrelatorTakesDigestsAndReads) : ∃ i P, Answers i wCorr P :=
  ⟨_, _, H.2.2.2.2.1 wCorr 3 1 7 0 3 50 2 { s := 100 } (by decide +kernel) (by decide +kernel) (by decide +kernel)⟩
theorem wit_CorrelatorTakesDigestsAndReads_6 (H : Obligations.CorrelatorTakesDigestsAndReads) : ∃ i P, Answers i wCorr P :=
  ⟨_, _, H.2.2.2.2.2.1 wCorr cLag grpA gBar (by decide +kernel) (by decide +kernel) (by decide +kernel) (by decide +kernel) (by decide +kernel) (by decide +kernel)⟩
theorem wit_CorrelatorTakesDigestsAndReads_7 (H : Obligations.CorrelatorTakesDigestsAndReads) : ∃ i P, Answers i wCorr P :=
  ⟨_, _, H.2.2.2.2.2.2.1 wCorr cLag1 2 (by decide +kernel) (by decide +kernel) (by decide +kernel) (by decide +kernel) (by decide +kernel)⟩
theorem wit_CorrelatorTakesDigestsAndReads_8 (H : Obligations.CorrelatorTakesDigestsAndReads) : ∃ i P, Answers i wCorr P :=
  ⟨_, _, H.2.2.2.2.2.2.2.1 wCorr cD2b 2 (by decide +kernel) (by decide +kernel) (by decide +kernel) (by decide +kernel)⟩
theorem wit_CorrelatorTakesDigestsAndReads_9 (H : Obligations.CorrelatorTakesDigestsAndReads) : ∃ i P, Answers i wCorr P :=
  ⟨_, _, H.2.2.2.2.2.2.2.2.1 wCorr cD2 2 (by decide +kernel) (by decide +kernel) (by decide +kernel)⟩
theorem wit_CorrelatorTakesDigestsAndReads_10 (H : Obligations.CorrelatorTakesDigestsAndReads) : ∃ i P, Answers i (wCorr.wr BX_COR_DIE_MARK_REASONS 2 0x41) P :=
  ⟨_, _, H.2.2.2.2.2.2.2.2.2.1 (wCorr.wr BX_COR_DIE_MARK_REASONS 2 0x41) cSClr 2 (by decide +kernel) (by decide +kernel) (by decide +kernel) (by decide +kernel)⟩
theorem wit_CorrelatorTakesDigestsAndReads_11 (H : Obligations.CorrelatorTakesDigestsAndReads) : ∃ i P, Answers i wCorr P :=
  ⟨_, _, H.2.2.2.2.2.2.2.2.2.2 wCorr cD2 2 (by decide +kernel) (by decide +kernel) (by decide +kernel)⟩
theorem wit_LookoutProbesFencesAndReadmits_1 (H : Obligations.LookoutProbesFencesAndReadmits) : ∃ i P, Answers i wPrb P :=
  ⟨_, _, H.1 wPrb 2 prA (by decide +kernel) (by decide +kernel) (by decide +kernel)⟩
theorem wit_LookoutProbesFencesAndReadmits_2 (H : Obligations.LookoutProbesFencesAndReadmits) : ∃ i P, Answers i { wPrb with cor := { wPrb.cor with dies := [(2, { probe := some { prA with tries := 99 } })] } } P :=
  ⟨_, _, H.2.1 { wPrb with cor := { wPrb.cor with dies := [(2, { probe := some { prA with tries := 99 } })] } } 2 { prA with tries := 99 } (by decide +kernel) (by decide +kernel) (by decide +kernel) (by decide +kernel) (by decide +kernel)⟩
theorem wit_LookoutProbesFencesAndReadmits_3 (H : Obligations.LookoutProbesFencesAndReadmits) : ∃ i P, Answers i wPrb P :=
  ⟨_, _, H.2.2.1 wPrb 2 prA cOp (by decide +kernel) (by decide +kernel)⟩
theorem wit_LookoutProbesFencesAndReadmits_4 (H : Obligations.LookoutProbesFencesAndReadmits) : ∃ i P, Answers i wCorr P :=
  ⟨_, _, H.2.2.2.1 wCorr cD2 2 (by decide +kernel) (by decide +kernel) (by decide +kernel) (by decide +kernel) (by decide +kernel) (by decide +kernel) (by decide +kernel)⟩
theorem wit_LookoutProbesFencesAndReadmits_5 (H : Obligations.LookoutProbesFencesAndReadmits) : ∃ i P, Answers i wPrb P :=
  ⟨_, _, H.2.2.2.2.1 wPrb cD2 2 prA (by decide +kernel) (by decide +kernel) (by decide +kernel) (by decide +kernel)⟩
theorem wit_LookoutProbesFencesAndReadmits_6 (H : Obligations.LookoutProbesFencesAndReadmits) : ∃ i P, Answers i { State.reset with zx := { State.reset.zx with caps := [(0x0623, cI1)] } } P :=
  ⟨_, _, H.2.2.2.2.2.1 { State.reset with zx := { State.reset.zx with caps := [(0x0623, cI1)] } } cI1 (by decide +kernel) (by decide +kernel)⟩
theorem wit_LookoutProbesFencesAndReadmits_7 (H : Obligations.LookoutProbesFencesAndReadmits) : ∃ i P, Answers i wCorr P :=
  ⟨_, _, H.2.2.2.2.2.2.1 wCorr cD2 2 (by decide +kernel) (by decide +kernel) (by decide +kernel) (by decide +kernel) (by decide +kernel)⟩
theorem wit_LookoutProbesFencesAndReadmits_8 (H : Obligations.LookoutProbesFencesAndReadmits) : ∃ i P, Answers i wFen2 P :=
  ⟨_, _, H.2.2.2.2.2.2.2.1 wFen2 cD2 2 (by decide +kernel) (by decide +kernel) (by decide +kernel) (by decide +kernel) (by decide +kernel)⟩
theorem wit_LookoutProbesFencesAndReadmits_9 (H : Obligations.LookoutProbesFencesAndReadmits) : ∃ i P, Answers i wFen2 P :=
  ⟨_, _, H.2.2.2.2.2.2.2.2.1 wFen2 cD2 2 (by decide +kernel) (by decide +kernel) (by decide +kernel) (by decide +kernel) (by decide +kernel) (by decide +kernel) (by decide +kernel)⟩
theorem wit_LookoutProbesFencesAndReadmits_10 (H : Obligations.LookoutProbesFencesAndReadmits) : ∃ i P, Answers i wCorr P :=
  ⟨_, _, H.2.2.2.2.2.2.2.2.2 wCorr cD2 2 (by decide +kernel) (by decide +kernel) (by decide +kernel) (by decide +kernel)⟩
theorem wit_FieldTestsRunTheirCourse_1 (H : Obligations.FieldTestsRunTheirCourse) : ∃ i P, Answers i State.reset P :=
  ⟨_, _, H.1 State.reset cTq 2 (by decide +kernel) (by decide +kernel) (by decide +kernel) (by decide +kernel) (by decide +kernel) (by decide +kernel) (by decide +kernel) (by decide +kernel) (by decide +kernel)⟩
theorem wit_FieldTestsRunTheirCourse_2 (H : Obligations.FieldTestsRunTheirCourse) : ∃ i P, Answers i wTp P :=
  ⟨_, _, H.2.1 wTp cTi 2 (by decide +kernel) (by decide +kernel) (by decide +kernel) (by decide +kernel) (by decide +kernel)⟩
theorem wit_FieldTestsRunTheirCourse_3 (H : Obligations.FieldTestsRunTheirCourse) : ∃ i P, Answers i wTr P :=
  ⟨_, _, H.2.2.1 wTr cTi 2 (by decide +kernel) (by decide +kernel) (by decide +kernel) (by decide +kernel) (by decide +kernel) (by decide +kernel)⟩
theorem wit_FieldTestsRunTheirCourse_4 (H : Obligations.FieldTestsRunTheirCourse) : ∃ i P, Answers i wTr P :=
  ⟨_, _, H.2.2.2.1 wTr { cTi with params := [4, 1] } 2 (by decide +kernel) (by decide +kernel) (by decide +kernel) (by decide +kernel) (by decide +kernel) (by decide +kernel)⟩
theorem wit_FieldTestsRunTheirCourse_5 (H : Obligations.FieldTestsRunTheirCourse) : ∃ i P, Answers i wTr P :=
  ⟨_, _, H.2.2.2.2.1 wTr { cTi with params := [4, 2] } 2 (by decide +kernel) (by decide +kernel) (by decide +kernel) (by decide +kernel) (by decide +kernel)⟩
theorem wit_FieldTestsRunTheirCourse_6 (H : Obligations.FieldTestsRunTheirCourse) : ∃ i P, Answers i wTp P :=
  ⟨_, _, H.2.2.2.2.2.1 wTp cTi 2 (by decide +kernel) (by decide +kernel) (by decide +kernel) (by decide +kernel)⟩
theorem wit_FieldTestsRunTheirCourse_7 (H : Obligations.FieldTestsRunTheirCourse) : ∃ i P, Answers i wTr P :=
  ⟨_, _, H.2.2.2.2.2.2.1 wTr cTi 2 (by decide +kernel) (by decide +kernel) (by decide +kernel)⟩
theorem wit_FieldTestsRunTheirCourse_8 (H : Obligations.FieldTestsRunTheirCourse) : ∃ i P, Answers i State.reset P :=
  ⟨_, _, H.2.2.2.2.2.2.2.1 State.reset cTi (by decide +kernel) (by decide +kernel) (by decide +kernel)⟩
theorem wit_FieldTestsRunTheirCourse_9 (H : Obligations.FieldTestsRunTheirCourse) : ∃ i P, Answers i wTd P :=
  ⟨_, _, H.2.2.2.2.2.2.2.2.1 wTd 2 (by decide +kernel) (by decide +kernel) (by decide +kernel) (by decide +kernel)⟩
theorem wit_FieldTestsRunTheirCourse_10 (H : Obligations.FieldTestsRunTheirCourse) : ∃ i P, Answers i wTl P :=
  ⟨_, _, H.2.2.2.2.2.2.2.2.2 wTl 2 (by decide +kernel) (by decide +kernel) (by decide +kernel)⟩
theorem wit_MemoryIsLaidOutAndTranslated_1 (H : Obligations.MemoryIsLaidOutAndTranslated) : ∃ i P, Answers i w0 P :=
  ⟨_, _, H.1 w0 cLay (by decide +kernel) (by decide +kernel) (by decide +kernel) (by decide +kernel) (by decide +kernel)⟩
theorem wit_MemoryIsLaidOutAndTranslated_2 (H : Obligations.MemoryIsLaidOutAndTranslated) : ∃ i P, Answers i w0 P :=
  ⟨_, _, H.2.1 w0 cPart (by decide +kernel) (by decide +kernel) (by decide +kernel) (by decide +kernel) (by decide +kernel) (by decide +kernel) (by decide +kernel) (by decide +kernel) (by decide +kernel)⟩
theorem wit_MemoryIsLaidOutAndTranslated_3 (H : Obligations.MemoryIsLaidOutAndTranslated) : ∃ i P, Answers i w0 P :=
  ⟨_, _, H.2.2.1 w0 cXi (by decide +kernel) (by decide +kernel) (by decide +kernel) (by decide +kernel)⟩
theorem wit_MemoryIsLaidOutAndTranslated_4 (H : Obligations.MemoryIsLaidOutAndTranslated) : ∃ i P, Answers i wXlt P :=
  ⟨_, _, H.2.2.2.1 wXlt cXp 0 { space := 64, va := 0, pa := 0, size := 2097152, rd := true, wr := false } (by decide +kernel) (by decide +kernel) (by decide +kernel) (by decide +kernel) (by decide +kernel)⟩
theorem wit_MemoryIsLaidOutAndTranslated_5 (H : Obligations.MemoryIsLaidOutAndTranslated) : ∃ i P, Answers i w0 P :=
  ⟨_, _, H.2.2.2.2 w0 3 [64] ⟩
theorem wit_DmaMovesDescribedBytes_1 (H : Obligations.DmaMovesDescribedBytes) : ∃ i P, Answers i wDmaA P :=
  ⟨_, _, H.1 wDmaA 0 0 hostA 3 8224 dsA (List.replicate 16 7) ((wDmaA.bump BX_DMA_CNT_PREEMPTS 0 0).pickChan).2 ((wDmaA.bump BX_DMA_CNT_PREEMPTS 0 0).pickChan).2 (by rfl) (by decide +kernel) (by decide +kernel) (by decide +kernel) (by decide +kernel) (by rfl) (by decide +kernel)⟩
theorem wit_DmaMovesDescribedBytes_2 (H : Obligations.DmaMovesDescribedBytes) : ∃ i P, Answers i (State.reset.wr BX_DMA_CH_CFG_RING_LOG2 3 4) P :=
  ⟨_, _, H.2.1 (State.reset.wr BX_DMA_CH_CFG_RING_LOG2 3 4) 3 9 (by decide +kernel) (by decide +kernel)⟩
theorem wit_DmaMovesDescribedBytes_3 (H : Obligations.DmaMovesDescribedBytes) : ∃ i P, Answers i w0 P :=
  ⟨_, _, H.2.2.1 w0 cChSet (by decide +kernel) (by decide +kernel) (by decide +kernel) (by decide +kernel) (by decide +kernel) (by decide +kernel) (by decide +kernel) (by decide +kernel) (by decide +kernel) (by decide +kernel) (by decide +kernel) (by decide +kernel)⟩
theorem wit_DmaMovesDescribedBytes_4 (H : Obligations.DmaMovesDescribedBytes) : ∃ i P, Answers i wHalt P :=
  ⟨_, _, H.2.2.2.1 wHalt cCh (by decide +kernel) (by decide +kernel) (by decide +kernel) (by decide +kernel) (by decide +kernel)⟩
theorem wit_DmaMovesDescribedBytes_5 (H : Obligations.DmaMovesDescribedBytes) : ∃ i P, Answers i w0 P :=
  ⟨_, _, H.2.2.2.2 w0 cCh (by decide +kernel) (by decide +kernel) (by decide +kernel)⟩
theorem wit_TraceStoreKeepsBlocks_1 (H : Obligations.TraceStoreKeepsBlocks) : ∃ i P, Answers i wTrsOn P :=
  ⟨_, _, H.1 wTrsOn 2 0 (zeroBytes 16) (by decide +kernel) (by decide +kernel) (by decide +kernel) (by decide +kernel) (by decide +kernel)⟩
theorem wit_TraceStoreKeepsBlocks_2 (H : Obligations.TraceStoreKeepsBlocks) : ∃ i P, Answers i wOpen P :=
  ⟨_, _, H.2.1 wOpen 32 (by decide +kernel) (by decide +kernel)⟩
theorem wit_TraceStoreKeepsBlocks_3 (H : Obligations.TraceStoreKeepsBlocks) : ∃ i P, Answers i wCod P :=
  ⟨_, _, H.2.2.1 wCod 32 0 0 false clA [] (by decide +kernel) (by decide +kernel) (by decide +kernel) (by decide +kernel)⟩
theorem wit_TraceStoreKeepsBlocks_4 (H : Obligations.TraceStoreKeepsBlocks) : ∃ i P, Answers i w0 P :=
  ⟨_, _, H.2.2.2.1 w0 cTrs (by decide +kernel) (by decide +kernel) (by decide +kernel) (by decide +kernel) (by decide +kernel)⟩
theorem wit_TraceStoreKeepsBlocks_5 (H : Obligations.TraceStoreKeepsBlocks) : ∃ i P, Answers i w0 P :=
  ⟨_, _, H.2.2.2.2 w0 cTrs (by decide +kernel)⟩
theorem wit_EgressRefillsAndReleases_1 (H : Obligations.EgressRefillsAndReleases) : ∃ i P, Answers i w0 P :=
  ⟨_, _, H.1 w0 (fun _ h => by cases h)⟩
theorem wit_EgressRefillsAndReleases_2 (H : Obligations.EgressRefillsAndReleases) : ∃ i P, Answers i wRel P :=
  ⟨_, _, H.2.1 wRel 2 3 3 (by decide +kernel) (by decide +kernel) (by decide +kernel) (by decide +kernel)⟩
theorem wit_EgressRefillsAndReleases_3 (H : Obligations.EgressRefillsAndReleases) : ∃ i P, Answers i w0 P :=
  ⟨_, _, H.2.2.1 w0 cShp (by decide +kernel) (by decide +kernel) (by decide +kernel) (by decide +kernel) (by decide +kernel) (by decide +kernel)⟩
theorem wit_EgressRefillsAndReleases_4 (H : Obligations.EgressRefillsAndReleases) : ∃ i P, Answers i w0 P :=
  ⟨_, _, H.2.2.2.1 w0 cClr (by decide +kernel) (by decide +kernel) (by decide +kernel) (by decide +kernel) (by decide +kernel) (by decide +kernel)⟩
theorem wit_EgressRefillsAndReleases_5 (H : Obligations.EgressRefillsAndReleases) : ∃ i P, Answers i w0 P :=
  ⟨_, _, H.2.2.2.2.1 w0 cShp (by decide +kernel) (by decide +kernel) (by decide +kernel) (by decide +kernel) (by decide +kernel)⟩
theorem wit_EgressRefillsAndReleases_6 (H : Obligations.EgressRefillsAndReleases) : ∃ i P, Answers i w0 P :=
  ⟨_, _, H.2.2.2.2.2.1 w0 cGat (by decide +kernel) (by decide +kernel) (by decide +kernel) (by decide +kernel) (by decide +kernel) (by decide +kernel) (by decide +kernel) (by decide +kernel) (by decide +kernel) (by decide +kernel) (by decide +kernel)⟩
theorem wit_EgressRefillsAndReleases_7 (H : Obligations.EgressRefillsAndReleases) : ∃ i P, Answers i w0 P :=
  ⟨_, _, H.2.2.2.2.2.2 w0 cP (by decide +kernel) (by decide +kernel) (by decide +kernel)⟩
theorem wit_ReplayJobsRunAndEnd_1 (H : Obligations.ReplayJobsRunAndEnd) : ∃ i P, Answers i wRp P :=
  ⟨_, _, H.1 wRp cRr apB wRp (by decide +kernel) (by decide +kernel) (by decide +kernel) (by decide +kernel) (by decide +kernel) (by decide +kernel) (by rfl)⟩
theorem wit_ReplayJobsRunAndEnd_2 (H : Obligations.ReplayJobsRunAndEnd) : ∃ i P, Answers i wRpm P :=
  ⟨_, _, H.2.1 wRpm 0 jbA rsA (by decide +kernel) (by decide +kernel) (by decide +kernel) (by decide +kernel) (by decide +kernel) (by decide +kernel) (by decide +kernel) (by rfl)⟩
theorem wit_ReplayJobsRunAndEnd_3 (H : Obligations.ReplayJobsRunAndEnd) : ∃ i P, Answers i wRn P :=
  ⟨_, _, H.2.2.1 wRn jbA 3 4 (by decide +kernel) (by decide +kernel) (by decide +kernel) (by decide +kernel) (by decide +kernel) (by decide +kernel)⟩
theorem wit_ReplayJobsRunAndEnd_4 (H : Obligations.ReplayJobsRunAndEnd) : ∃ i P, Answers i wRl P :=
  ⟨_, _, H.2.2.2.1 wRl 6 jbA rsA (by decide +kernel) (by decide +kernel) (by decide +kernel) (by decide +kernel) (by decide +kernel) (by rfl)⟩
theorem wit_ReplayJobsRunAndEnd_5 (H : Obligations.ReplayJobsRunAndEnd) : ∃ i P, Answers i wRx P :=
  ⟨_, _, H.2.2.2.2.1 wRx 6 jbA apB cOp opM ((parseApd apB).verdict jbA (wRx.flag BX_RPL_CTRL_CONFIRM) ((parseApd apB).output jbA ((parseApd apB).operands jbA ((opM.dm0 ++ opM.dm1 ++ opM.core).map (fun x => x.1))).1) ((parseApd apB).operands jbA ((opM.dm0 ++ opM.dm1 ++ opM.core).map (fun x => x.1))).2 {} {} {}) {} {} {} (by decide +kernel) (by decide +kernel) (by decide +kernel) (by decide +kernel) (by decide +kernel) (by decide +kernel) (by decide +kernel) (by decide +kernel) (by decide +kernel) (by decide +kernel) (by rfl)⟩
theorem wit_ReplayJobsRunAndEnd_6 (H : Obligations.ReplayJobsRunAndEnd) : ∃ i P, Answers i { wRx with rpl := { wRx.rpl with apds := [] } } P :=
  ⟨_, _, H.2.2.2.2.2.1 { wRx with rpl := { wRx.rpl with apds := [] } } 6 jbA {} {} {} (by decide +kernel) (by decide +kernel) (by decide +kernel) (by decide +kernel)⟩
theorem wit_ReplayJobsRunAndEnd_7 (H : Obligations.ReplayJobsRunAndEnd) : ∃ i P, Answers i wRx P :=
  ⟨_, _, H.2.2.2.2.2.2.1 wRx 6 64 jbA 5 (by decide +kernel) (by decide +kernel)⟩
theorem wit_ReplayJobsRunAndEnd_8 (H : Obligations.ReplayJobsRunAndEnd) : ∃ i P, Answers i wRp P :=
  ⟨_, _, H.2.2.2.2.2.2.2.1 wRp cRc jbA (by decide +kernel) (by decide +kernel) (by decide +kernel)⟩
theorem wit_ReplayJobsRunAndEnd_9 (H : Obligations.ReplayJobsRunAndEnd) : ∃ i P, Answers i wRp P :=
  ⟨_, _, H.2.2.2.2.2.2.2.2 wRp { cRc with params := [4] } (by decide +kernel) (by decide +kernel) (by decide +kernel)⟩
theorem wit_ReplayUnitsAndDescriptors_1 (H : Obligations.ReplayUnitsAndDescriptors) : ∃ i P, Answers i State.reset P :=
  ⟨_, _, H.1 State.reset cAl (by decide +kernel) (by decide +kernel) (by decide +kernel) (by decide +kernel) (by decide +kernel)⟩
theorem wit_ReplayUnitsAndDescriptors_2 (H : Obligations.ReplayUnitsAndDescriptors) : ∃ i P, Answers i State.reset P :=
  ⟨_, _, H.2.1 State.reset { cAl with params := [2, 4096, 80] } (by decide +kernel) (by decide +kernel) (by decide +kernel) (by decide +kernel)⟩
theorem wit_ReplayUnitsAndDescriptors_3 (H : Obligations.ReplayUnitsAndDescriptors) : ∃ i P, Answers i State.reset P :=
  ⟨_, _, H.2.2.1 State.reset cAu (by decide +kernel) (by decide +kernel) (by decide +kernel) (by decide +kernel)⟩
theorem wit_ReplayUnitsAndDescriptors_4 (H : Obligations.ReplayUnitsAndDescriptors) : ∃ i P, Answers i wRp P :=
  ⟨_, _, H.2.2.2.1 wRp cAu apB (by decide +kernel) (by decide +kernel) (by decide +kernel) (by decide +kernel)⟩
theorem wit_ReplayUnitsAndDescriptors_5 (H : Obligations.ReplayUnitsAndDescriptors) : ∃ i P, Answers i wRp P :=
  ⟨_, _, H.2.2.2.2.1 wRp cAu (by decide +kernel) (by decide +kernel)⟩
theorem wit_ReplayUnitsAndDescriptors_6 (H : Obligations.ReplayUnitsAndDescriptors) : ∃ i P, Answers i State.reset P :=
  ⟨_, _, H.2.2.2.2.2.1 State.reset cRu (by decide +kernel) (by decide +kernel) (by decide +kernel) (by decide +kernel) (by decide +kernel)⟩
theorem wit_ReplayUnitsAndDescriptors_7 (H : Obligations.ReplayUnitsAndDescriptors) : ∃ i P, Answers i State.reset P :=
  ⟨_, _, H.2.2.2.2.2.2.1 State.reset { cRu with params := [1, 4, 1] } (by decide +kernel) (by decide +kernel) (by decide +kernel) (by decide +kernel) (by decide +kernel) (by decide +kernel)⟩
theorem wit_ReplayUnitsAndDescriptors_8 (H : Obligations.ReplayUnitsAndDescriptors) : ∃ i P, Answers i State.reset P :=
  ⟨_, _, H.2.2.2.2.2.2.2.1 State.reset cRg (by decide +kernel) (by decide +kernel) (by decide +kernel) (by decide +kernel) (by decide +kernel) (by decide +kernel)⟩
theorem wit_ReplayUnitsAndDescriptors_9 (H : Obligations.ReplayUnitsAndDescriptors) : ∃ i P, Answers i State.reset P :=
  ⟨_, _, H.2.2.2.2.2.2.2.2.1 State.reset cRx2 (by decide +kernel) (by decide +kernel) (by decide +kernel) (by decide +kernel)⟩
theorem wit_ReplayUnitsAndDescriptors_10 (H : Obligations.ReplayUnitsAndDescriptors) : ∃ i P, Answers i wRx P :=
  ⟨_, _, H.2.2.2.2.2.2.2.2.2.1 wRx cRx (.fp 8 23 127 .ieee) wRx wRx [(8192, 64)] [(8256, 64)] (by decide +kernel) (by decide +kernel) (by decide +kernel) (by decide +kernel) (by rfl) (by rfl) (by decide +kernel) (by decide +kernel) (by decide +kernel)⟩
theorem wit_ReplayUnitsAndDescriptors_11 (H : Obligations.ReplayUnitsAndDescriptors) : ∃ i P, Answers i State.reset P :=
  ⟨_, _, H.2.2.2.2.2.2.2.2.2.2.1 State.reset 9 (by decide +kernel) (by decide +kernel) (by decide +kernel) (by decide +kernel)⟩
theorem wit_ReplayUnitsAndDescriptors_12 (H : Obligations.ReplayUnitsAndDescriptors) : ∃ i P, Answers i State.reset P :=
  ⟨_, _, H.2.2.2.2.2.2.2.2.2.2.2 State.reset 9 ⟩
theorem wit_StepsAreAnnouncedAndResolve_1 (H : Obligations.StepsAreAnnouncedAndResolve) : ∃ i P, Answers i wJob P :=
  ⟨_, _, H.1 wJob cAn srec jobA (by decide +kernel) (by decide +kernel) (by decide +kernel) (by decide +kernel) (by decide +kernel) (by decide +kernel) (by decide +kernel) (by decide +kernel) (by decide +kernel) (by decide +kernel) (by decide +kernel) (by decide +kernel) (by decide +kernel) (by decide +kernel) (by decide +kernel) (by decide +kernel)⟩
theorem wit_StepsAreAnnouncedAndResolve_2 (H : Obligations.StepsAreAnnouncedAndResolve) : ∃ i P, Answers i { wJob with gate := { jobs := [(7, { jobA with nextStep := 6 })] } } P :=
  ⟨_, _, H.2.1 { wJob with gate := { jobs := [(7, { jobA with nextStep := 6 })] } } cAn srec { jobA with nextStep := 6 } (by decide +kernel) (by decide +kernel) (by decide +kernel) (by decide +kernel) (by decide +kernel) (by decide +kernel) (by decide +kernel) (by decide +kernel) (by decide +kernel) (by decide +kernel) (by decide +kernel) (by decide +kernel) (by decide +kernel) (by decide +kernel)⟩
theorem wit_StepsAreAnnouncedAndResolve_3 (H : Obligations.StepsAreAnnouncedAndResolve) : ∃ i P, Answers i wGso P :=
  ⟨_, _, H.2.2.1 wGso cSo jobA gsA (by decide +kernel) (by decide +kernel) (by decide +kernel) (by decide +kernel) (by decide +kernel) (by decide +kernel) (by decide +kernel) (by decide +kernel) (by decide +kernel) (by decide +kernel) (by rfl)⟩
theorem wit_StepsAreAnnouncedAndResolve_4 (H : Obligations.StepsAreAnnouncedAndResolve) : ∃ i P, Answers i wGst P :=
  ⟨_, _, H.2.2.2.1 wGst gsA (by decide +kernel) (by decide +kernel) (by decide +kernel) (by decide +kernel) (by decide +kernel) (by decide +kernel) (by decide +kernel)⟩
theorem wit_StepsAreAnnouncedAndResolve_5 (H : Obligations.StepsAreAnnouncedAndResolve) : ∃ i P, Answers i wGsu P :=
  ⟨_, _, H.2.2.2.2.1 wGsu gsU jobA (by decide +kernel) (by decide +kernel) (by decide +kernel) (by decide +kernel) (by decide +kernel) (by decide +kernel) (by decide +kernel)⟩
theorem wit_StepsAreAnnouncedAndResolve_6 (H : Obligations.StepsAreAnnouncedAndResolve) : ∃ i P, Answers i (wGsr.wr BX_CMT_LEDGER_NEXT_SEQ 0 3) P :=
  ⟨_, _, H.2.2.2.2.2.1 (wGsr.wr BX_CMT_LEDGER_NEXT_SEQ 0 3) 7 1 gsR [] (by decide +kernel) (by decide +kernel) (by decide +kernel) (by decide +kernel) (by decide +kernel)⟩
theorem wit_StepsAreAnnouncedAndResolve_7 (H : Obligations.StepsAreAnnouncedAndResolve) : ∃ i P, Answers i wGst P :=
  ⟨_, _, H.2.2.2.2.2.2 wGst 7 gsA [] (by decide +kernel) (by decide +kernel)⟩
theorem wit_GateJobsPoliciesAndLedgers_1 (H : Obligations.GateJobsPoliciesAndLedgers) : ∃ i P, Answers i wGst P :=
  ⟨_, _, H.1 wGst cJo 2 (by decide +kernel) (by decide +kernel) (by decide +kernel) (by decide +kernel) (by decide +kernel) (by decide +kernel) (by decide +kernel) (by decide +kernel) (by decide +kernel) (by decide +kernel) (by decide +kernel) (by decide +kernel) (by decide +kernel)⟩
theorem wit_GateJobsPoliciesAndLedgers_2 (H : Obligations.GateJobsPoliciesAndLedgers) : ∃ i P, Answers i wGst P :=
  ⟨_, _, H.2.1 wGst { cJo with params := [7, 3, 2, 1, 9, 2, 5] } 2 (by decide +kernel) (by decide +kernel) (by decide +kernel) (by decide +kernel) (by decide +kernel) (by decide +kernel) (by decide +kernel) (by decide +kernel) (by decide +kernel) (by decide +kernel) (by decide +kernel) (by decide +kernel)⟩
theorem wit_GateJobsPoliciesAndLedgers_3 (H : Obligations.GateJobsPoliciesAndLedgers) : ∃ i P, Answers i wJob P :=
  ⟨_, _, H.2.2.1 wJob cPm 3 jobA (by decide +kernel) (by decide +kernel) (by decide +kernel) (by decide +kernel) (by decide +kernel) (by decide +kernel) (by decide +kernel) (by decide +kernel) (by decide +kernel) (by decide +kernel) (by decide +kernel)⟩
theorem wit_GateJobsPoliciesAndLedgers_4 (H : Obligations.GateJobsPoliciesAndLedgers) : ∃ i P, Answers i State.reset P :=
  ⟨_, _, H.2.2.2.1 State.reset cPs (by decide +kernel) (by decide +kernel) (by decide +kernel) (by decide +kernel) (by decide +kernel)⟩
theorem wit_GateJobsPoliciesAndLedgers_5 (H : Obligations.GateJobsPoliciesAndLedgers) : ∃ i P, Answers i wGst P :=
  ⟨_, _, H.2.2.2.2.1 wGst cCs jobA (by decide +kernel) (by decide +kernel) (by decide +kernel) (by decide +kernel)⟩
theorem wit_GateJobsPoliciesAndLedgers_6 (H : Obligations.GateJobsPoliciesAndLedgers) : ∃ i P, Answers i State.reset P :=
  ⟨_, _, H.2.2.2.2.2.1 State.reset { cLr with tenant := 5 } (by decide +kernel) (by decide +kernel) (by decide +kernel)⟩
theorem wit_GateJobsPoliciesAndLedgers_7 (H : Obligations.GateJobsPoliciesAndLedgers) : ∃ i P, Answers i State.reset P :=
  ⟨_, _, H.2.2.2.2.2.2.1 State.reset cLr 0 (by decide +kernel) (by decide +kernel) (by decide +kernel) (by decide +kernel) (by decide +kernel)⟩
theorem wit_GateJobsPoliciesAndLedgers_8 (H : Obligations.GateJobsPoliciesAndLedgers) : ∃ i P, Answers i State.reset P :=
  ⟨_, _, H.2.2.2.2.2.2.2.1 State.reset cLr (by decide +kernel) (by decide +kernel) (by decide +kernel)⟩
theorem wit_GateJobsPoliciesAndLedgers_9 (H : Obligations.GateJobsPoliciesAndLedgers) : ∃ i P, Answers i wJob P :=
  ⟨_, _, H.2.2.2.2.2.2.2.2.1 wJob cCs jobA (by decide +kernel) (by decide +kernel) (by decide +kernel) (by decide +kernel) (by decide +kernel)⟩
theorem wit_GateJobsPoliciesAndLedgers_10 (H : Obligations.GateJobsPoliciesAndLedgers) : ∃ i P, Answers i wGst P :=
  ⟨_, _, H.2.2.2.2.2.2.2.2.2 wGst cCs jobA (by decide +kernel) (by decide +kernel) (by decide +kernel) (by decide +kernel) (by decide +kernel) (by decide +kernel)⟩
theorem wit_NeighboursAndRoutesAreKept_1 (H : Obligations.NeighboursAndRoutesAreKept) : ∃ i P, Answers i wCan P :=
  ⟨_, _, H.1 wCan 5 9 0 7 0 2 1 (by decide +kernel) (by decide +kernel) (by decide +kernel) (by decide +kernel)⟩
theorem wit_NeighboursAndRoutesAreKept_2 (H : Obligations.NeighboursAndRoutesAreKept) : ∃ i P, Answers i wCan P :=
  ⟨_, _, H.2.1 wCan 5 9 8 7 0 2 1 (by decide +kernel) (by decide +kernel) (by decide +kernel)⟩
theorem wit_NeighboursAndRoutesAreKept_3 (H : Obligations.NeighboursAndRoutesAreKept) : ∃ i P, Answers i { wCan with bxTb := { count := 9000000 * 2 ^ 32 } } P :=
  ⟨_, _, H.2.2.1 { wCan with bxTb := { count := 9000000 * 2 ^ 32 } } 5 (by decide +kernel) (by decide +kernel) (by decide +kernel) (by decide +kernel) (by decide +kernel)⟩
theorem wit_NeighboursAndRoutesAreKept_4 (H : Obligations.NeighboursAndRoutesAreKept) : ∃ i P, Answers i wLs P :=
  ⟨_, _, H.2.2.2.1 wLs 5 { lsA with lseq := 4 } (by decide +kernel) (by decide +kernel)⟩
theorem wit_NeighboursAndRoutesAreKept_5 (H : Obligations.NeighboursAndRoutesAreKept) : ∃ i P, Answers i wLs P :=
  ⟨_, _, H.2.2.2.2.1 wLs 5 lsA lsA (by decide +kernel) (by decide +kernel)⟩
theorem wit_NeighboursAndRoutesAreKept_6 (H : Obligations.NeighboursAndRoutesAreKept) : ∃ i P, Answers i wLs P :=
  ⟨_, _, H.2.2.2.2.2.1 wLs (by decide +kernel)⟩
theorem wit_NeighboursAndRoutesAreKept_7 (H : Obligations.NeighboursAndRoutesAreKept) : ∃ i P, Answers i wLs P :=
  ⟨_, _, H.2.2.2.2.2.2.1 wLs ⟩
theorem wit_NeighboursAndRoutesAreKept_8 (H : Obligations.NeighboursAndRoutesAreKept) : ∃ i P, Answers i wRlyT P :=
  ⟨_, _, H.2.2.2.2.2.2.2.1 wRlyT 5 (by decide +kernel)⟩
theorem wit_NeighboursAndRoutesAreKept_9 (H : Obligations.NeighboursAndRoutesAreKept) : ∃ i P, Answers i State.reset P :=
  ⟨_, _, H.2.2.2.2.2.2.2.2.1 State.reset cId (by decide +kernel) (by decide +kernel) (by decide +kernel) (by decide +kernel) (by decide +kernel)⟩
theorem wit_NeighboursAndRoutesAreKept_10 (H : Obligations.NeighboursAndRoutesAreKept) : ∃ i P, Answers i State.reset P :=
  ⟨_, _, H.2.2.2.2.2.2.2.2.2.1 State.reset cPc (by decide +kernel) (by decide +kernel) (by decide +kernel)⟩
theorem wit_NeighboursAndRoutesAreKept_11 (H : Obligations.NeighboursAndRoutesAreKept) : ∃ i P, Answers i wLs P :=
  ⟨_, _, H.2.2.2.2.2.2.2.2.2.2.1 wLs cPd (by decide +kernel) (by decide +kernel)⟩
theorem wit_NeighboursAndRoutesAreKept_12 (H : Obligations.NeighboursAndRoutesAreKept) : ∃ i P, Answers i wLs P :=
  ⟨_, _, H.2.2.2.2.2.2.2.2.2.2.2 wLs cPd (by decide +kernel)⟩
theorem wit_FabricMessagesAreRecoveredAndMirrored_1 (H : Obligations.FabricMessagesAreRecoveredAndMirrored) : ∃ i P, Answers i State.reset P :=
  ⟨_, _, H.1 State.reset 5 7 0 fnB (by decide +kernel) (by decide +kernel) (by decide +kernel) (by decide +kernel)⟩
theorem wit_FabricMessagesAreRecoveredAndMirrored_2 (H : Obligations.FabricMessagesAreRecoveredAndMirrored) : ∃ i P, Answers i State.reset P :=
  ⟨_, _, H.2.1 State.reset 5 0x20 0 0 fnB (by decide +kernel) (by decide +kernel)⟩
theorem wit_FabricMessagesAreRecoveredAndMirrored_3 (H : Obligations.FabricMessagesAreRecoveredAndMirrored) : ∃ i P, Answers i (wAlm.setPort 3 { alarmEpoch := wAlm.bxEpoch }) P :=
  ⟨_, _, H.2.2.1 (wAlm.setPort 3 { alarmEpoch := wAlm.bxEpoch }) 3 1 7 1 5 alP (by decide +kernel) (by decide +kernel) (by decide +kernel) (by decide +kernel) (by decide +kernel)⟩
theorem wit_FabricMessagesAreRecoveredAndMirrored_4 (H : Obligations.FabricMessagesAreRecoveredAndMirrored) : ∃ i P, Answers i ((wAlm.setPort 3 { alarmEpoch := wAlm.bxEpoch }).wr BX_CNP_PORT_CTRL_ALARM_LIMIT 3 0) P :=
  ⟨_, _, H.2.2.2.1 ((wAlm.setPort 3 { alarmEpoch := wAlm.bxEpoch }).wr BX_CNP_PORT_CTRL_ALARM_LIMIT 3 0) 3 1 7 1 alP (by decide +kernel) (by decide +kernel) (by decide +kernel)⟩
theorem wit_FabricMessagesAreRecoveredAndMirrored_5 (H : Obligations.FabricMessagesAreRecoveredAndMirrored) : ∃ i P, Answers i State.reset P :=
  ⟨_, _, H.2.2.2.2.1 State.reset 3 1 7 alP (by decide +kernel)⟩
theorem wit_FabricMessagesAreRecoveredAndMirrored_6 (H : Obligations.FabricMessagesAreRecoveredAndMirrored) : ∃ i P, Answers i wCut P :=
  ⟨_, _, H.2.2.2.2.2.1 wCut 5 2 bodyC (by decide +kernel)⟩
theorem wit_FabricMessagesAreRecoveredAndMirrored_7 (H : Obligations.FabricMessagesAreRecoveredAndMirrored) : ∃ i P, Answers i wE2 P :=
  ⟨_, _, H.2.2.2.2.2.2.1 wE2 ⟩
theorem wit_FabricMessagesAreRecoveredAndMirrored_8 (H : Obligations.FabricMessagesAreRecoveredAndMirrored) : ∃ i P, Answers i wE2 P :=
  ⟨_, _, H.2.2.2.2.2.2.2.1 wE2 5 7 ⟩
theorem wit_FabricMessagesAreRecoveredAndMirrored_9 (H : Obligations.FabricMessagesAreRecoveredAndMirrored) : ∃ i P, Answers i wWard P :=
  ⟨_, _, H.2.2.2.2.2.2.2.2.1 wWard 5 1 7 (.nextInc 3 4) (by decide +kernel) (by decide +kernel) (by intro e v r b h; cases h) (by decide +kernel)⟩
theorem wit_FabricMessagesAreRecoveredAndMirrored_10 (H : Obligations.FabricMessagesAreRecoveredAndMirrored) : ∃ i P, Answers i State.reset P :=
  ⟨_, _, H.2.2.2.2.2.2.2.2.2.1 State.reset 5 1 7 (.nextInc 3 4) (by decide +kernel)⟩
theorem wit_FabricMessagesAreRecoveredAndMirrored_11 (H : Obligations.FabricMessagesAreRecoveredAndMirrored) : ∃ i P, Answers i wWard P :=
  ⟨_, _, H.2.2.2.2.2.2.2.2.2.2.1 wWard (by decide +kernel)⟩
theorem wit_FabricMessagesAreRecoveredAndMirrored_12 (H : Obligations.FabricMessagesAreRecoveredAndMirrored) : ∃ i P, Answers i State.reset P :=
  ⟨_, _, H.2.2.2.2.2.2.2.2.2.2.2.1 State.reset (by decide +kernel)⟩
theorem wit_FabricMessagesAreRecoveredAndMirrored_13 (H : Obligations.FabricMessagesAreRecoveredAndMirrored) : ∃ i P, Answers i State.reset P :=
  ⟨_, _, H.2.2.2.2.2.2.2.2.2.2.2.2.1 State.reset 5 7 1 1 50 40 ⟩
theorem wit_FabricMessagesAreRecoveredAndMirrored_14 (H : Obligations.FabricMessagesAreRecoveredAndMirrored) : ∃ i P, Answers i wWard P :=
  ⟨_, _, H.2.2.2.2.2.2.2.2.2.2.2.2.2.1 wWard 1 { agg := 1, parent := 0, buddy := 0 } (by decide +kernel) (by decide +kernel) (by decide +kernel) (by decide +kernel) (by decide +kernel) (by decide +kernel)⟩
theorem wit_FabricMessagesAreRecoveredAndMirrored_15 (H : Obligations.FabricMessagesAreRecoveredAndMirrored) : ∃ i P, Answers i wWard P :=
  ⟨_, _, H.2.2.2.2.2.2.2.2.2.2.2.2.2.2.1 wWard 1 2 50 (by decide +kernel)⟩
theorem wit_FabricMessagesAreRecoveredAndMirrored_16 (H : Obligations.FabricMessagesAreRecoveredAndMirrored) : ∃ i P, Answers i { wWard with cnp := { wWard.cnp with peers := [(1, { vHeld := true, vBoot := 9 })] } } P :=
  ⟨_, _, H.2.2.2.2.2.2.2.2.2.2.2.2.2.2.2.1 { wWard with cnp := { wWard.cnp with peers := [(1, { vHeld := true, vBoot := 9 })] } } 1 2 50 (by decide +kernel)⟩
theorem wit_FabricMessagesAreRecoveredAndMirrored_17 (H : Obligations.FabricMessagesAreRecoveredAndMirrored) : ∃ i P, Answers i wWard P :=
  ⟨_, _, H.2.2.2.2.2.2.2.2.2.2.2.2.2.2.2.2.1 wWard 1 2 50 (by decide +kernel)⟩
theorem wit_FabricMessagesAreRecoveredAndMirrored_18 (H : Obligations.FabricMessagesAreRecoveredAndMirrored) : ∃ i P, Answers i wWard P :=
  ⟨_, _, H.2.2.2.2.2.2.2.2.2.2.2.2.2.2.2.2.2 wWard cPd (by decide +kernel) (by decide +kernel) (by decide +kernel) (by decide +kernel) (by decide +kernel) (by decide +kernel)⟩
theorem wit_FirebreakFencesAndLifts_1 (H : Obligations.FirebreakFencesAndLifts) : ∃ i P, Answers i State.reset P :=
  ⟨_, _, H.1 State.reset cFf (by decide +kernel) (by decide +kernel) (by decide +kernel) (by decide +kernel) (by decide +kernel)⟩
theorem wit_FirebreakFencesAndLifts_2 (H : Obligations.FirebreakFencesAndLifts) : ∃ i P, Answers i wFnc P :=
  ⟨_, _, H.2.1 wFnc cFf (by decide +kernel) (by decide +kernel) (by decide +kernel) (by decide +kernel)⟩
theorem wit_FirebreakFencesAndLifts_3 (H : Obligations.FirebreakFencesAndLifts) : ∃ i P, Answers i wFnc P :=
  ⟨_, _, H.2.2.1 wFnc ⟩
theorem wit_FirebreakFencesAndLifts_4 (H : Obligations.FirebreakFencesAndLifts) : ∃ i P, Answers i wFnc P :=
  ⟨_, _, H.2.2.2.1 wFnc cFf (by decide +kernel) (by decide +kernel) (by decide +kernel) (by decide +kernel) (by decide +kernel)⟩
theorem wit_FirebreakFencesAndLifts_5 (H : Obligations.FirebreakFencesAndLifts) : ∃ i P, Answers i wFnc P :=
  ⟨_, _, H.2.2.2.2.1 wFnc { cFf with params := [5, 0] } (by decide +kernel) (by decide +kernel) (by decide +kernel) (by decide +kernel) (by decide +kernel)⟩
theorem wit_FirebreakFencesAndLifts_6 (H : Obligations.FirebreakFencesAndLifts) : ∃ i P, Answers i wUnf P :=
  ⟨_, _, H.2.2.2.2.2.1 wUnf 2 0 fnD (by decide +kernel) (by decide +kernel) (by decide +kernel) (by decide +kernel) (by decide +kernel) (by decide +kernel) (by decide +kernel)⟩
theorem wit_FirebreakFencesAndLifts_7 (H : Obligations.FirebreakFencesAndLifts) : ∃ i P, Answers i wFnc P :=
  ⟨_, _, H.2.2.2.2.2.2 wFnc (by decide +kernel)⟩
theorem wit_TaprootKeepsHeartwood_1 (H : Obligations.TaprootKeepsHeartwood) : ∃ i P, Answers i w0 P :=
  ⟨_, _, H.1 w0 ⟩
theorem wit_TaprootKeepsHeartwood_2 (H : Obligations.TaprootKeepsHeartwood) : ∃ i P, Answers i w0 P :=
  ⟨_, _, H.2.1 w0 ⟩
theorem wit_TaprootKeepsHeartwood_3 (H : Obligations.TaprootKeepsHeartwood) : ∃ i P, Answers i w0 P :=
  ⟨_, _, H.2.2.1 w0 1 (by decide +kernel)⟩
theorem wit_TaprootKeepsHeartwood_4 (H : Obligations.TaprootKeepsHeartwood) : ∃ i P, Answers i wKick P :=
  ⟨_, _, H.2.2.2.1 wKick 1 [0] (by decide +kernel) (by decide +kernel) (by decide +kernel) (by decide +kernel)⟩
theorem wit_TaprootKeepsHeartwood_5 (H : Obligations.TaprootKeepsHeartwood) : ∃ i P, Answers i wHwQ P :=
  ⟨_, _, H.2.2.2.2.1 wHwQ hwA [] (by decide +kernel)⟩
theorem wit_TaprootKeepsHeartwood_6 (H : Obligations.TaprootKeepsHeartwood) : ∃ i P, Answers i w0 P :=
  ⟨_, _, H.2.2.2.2.2.1 w0 ⟩
theorem wit_TaprootKeepsHeartwood_7 (H : Obligations.TaprootKeepsHeartwood) : ∃ i P, Answers i wHwM P :=
  ⟨_, _, H.2.2.2.2.2.2.1 wHwM cHw (by decide +kernel) (by decide +kernel)⟩
theorem wit_TaprootKeepsHeartwood_8 (H : Obligations.TaprootKeepsHeartwood) : ∃ i P, Answers i wHwM P :=
  ⟨_, _, H.2.2.2.2.2.2.2.1 wHwM cHw (by decide +kernel) (by decide +kernel) (by decide +kernel)⟩
theorem wit_TaprootKeepsHeartwood_9 (hk : Config.ecdsaOk State.reset.heldKey (sliceBytes hcB 0 64) (sliceBytes hcB 64 64) = true) :
    cHcl.isOpPcie = true ∧ 1 ≤ cHcl.params.length ∧ (State.reset.authorized 1 cHcl.data).1 = true := by
  have h1 : rdLe hcB 0 4 = 0x48545541 := by decide
  have h2 : rdLe hcB 4 2 = 1 := by decide
  have h3 : rdLe hcB 8 8 = State.reset.rd BX_CNP_DEV_UID_DEV_UID := by decide
  have h4 : rdLe hcB 16 8 = State.reset.rd BX_HW_AUTH_NONCE := by decide
  have h5 : State.reset.tapNs ≤ rdLe hcB 24 8 := by decide
  have h6 : cHcl.data = hcB := rfl
  refine ⟨by decide, by decide, ?_⟩
  simp only [State.authorized, h6, h1, h2, ← h3, ← h4, hk]
  simp [h5]
theorem wit_TaprootKeepsHeartwood_10 (H : Obligations.TaprootKeepsHeartwood) : ∃ i P, Answers i w0 P :=
  ⟨_, _, H.2.2.2.2.2.2.2.2.2.1 w0 cHw (by decide +kernel)⟩
theorem wit_TaprootKeepsHeartwood_11 (H : Obligations.TaprootKeepsHeartwood) : ∃ i P, Answers i wDumpH P :=
  ⟨_, _, H.2.2.2.2.2.2.2.2.2.2 wDumpH cHw (by decide +kernel) (by decide +kernel) (by decide +kernel)⟩
theorem wit_JtagAndWindthrowAct_1 (H : Obligations.JtagAndWindthrowAct) : ∃ i P, Answers i w0 P :=
  ⟨_, _, H.1 w0 [true, false] (by decide +kernel) (by decide +kernel)⟩
theorem wit_JtagAndWindthrowAct_2 (H : Obligations.JtagAndWindthrowAct) : ∃ i P, Answers i w0 P :=
  ⟨_, _, H.2.1 w0 ⟩
theorem wit_JtagAndWindthrowAct_3 (H : Obligations.JtagAndWindthrowAct) : ∃ i P, Answers i w0 P :=
  ⟨_, _, H.2.2.1 w0 [true, false] (by decide +kernel)⟩
theorem wit_JtagAndWindthrowAct_4 (H : Obligations.JtagAndWindthrowAct) : ∃ i P, Answers i { State.reset with tap := { State.reset.tap with jtag := { ir := 0x30 } } } P :=
  ⟨_, _, H.2.2.2.1 { State.reset with tap := { State.reset.tap with jtag := { ir := 0x30 } } } (by decide +kernel) (by decide +kernel)⟩
theorem wit_JtagAndWindthrowAct_5 (H : Obligations.JtagAndWindthrowAct) : ∃ i P, Answers i w0 P :=
  ⟨_, _, H.2.2.2.2.1 w0 [true, false] ⟩
theorem wit_JtagAndWindthrowAct_6 (H : Obligations.JtagAndWindthrowAct) : ∃ i P, Answers i w0 P :=
  ⟨_, _, H.2.2.2.2.2.1 w0 cWtA (by decide +kernel) (by decide +kernel) (by decide +kernel) (by decide +kernel) (by decide +kernel) (by decide +kernel) (by decide +kernel) (by decide +kernel)⟩
theorem wit_JtagAndWindthrowAct_7 (H : Obligations.JtagAndWindthrowAct) : ∃ i P, Answers i wWt P :=
  ⟨_, _, H.2.2.2.2.2.2.1 wWt cWtA (by decide +kernel) (by decide +kernel) (by decide +kernel) (by decide +kernel) (by decide +kernel) (by decide +kernel)⟩
theorem wit_JtagAndWindthrowAct_8 (H : Obligations.JtagAndWindthrowAct) : ∃ i P, Answers i wWt P :=
  ⟨_, _, H.2.2.2.2.2.2.2 wWt cWtA (by decide +kernel) (by decide +kernel) (by decide +kernel)⟩
theorem wit_DoorbellsMoveTheRings_1 (H : Obligations.DoorbellsMoveTheRings) : ∃ i P, Answers i wQp P :=
  ⟨_, _, H.1 wQp 1 1 4 (by decide +kernel) (by decide +kernel) (by decide +kernel)⟩
theorem wit_DoorbellsMoveTheRings_2 (H : Obligations.DoorbellsMoveTheRings) : ∃ i P, Answers i wQp P :=
  ⟨_, _, H.2.1 wQp 1 1 16 (by decide +kernel) (by decide +kernel) (by decide +kernel) (by decide +kernel)⟩
theorem wit_DoorbellsMoveTheRings_3 (H : Obligations.DoorbellsMoveTheRings) : ∃ i P, Answers i (wQp.wr BX_WDN_QP_STS_CQ_TAIL 5 3) P :=
  ⟨_, _, H.2.2.1 (wQp.wr BX_WDN_QP_STS_CQ_TAIL 5 3) 1 1 2 (by decide +kernel) (by decide +kernel) (by decide +kernel) (by decide +kernel)⟩
theorem wit_DoorbellsMoveTheRings_4 (H : Obligations.DoorbellsMoveTheRings) : ∃ i P, Answers i (wQp.wr BX_WDN_QP_STS_CQ_TAIL 5 3) P :=
  ⟨_, _, H.2.2.2.1 (wQp.wr BX_WDN_QP_STS_CQ_TAIL 5 3) 1 1 4 (by decide +kernel) (by decide +kernel) (by decide +kernel) (by decide +kernel)⟩
theorem wit_DoorbellsMoveTheRings_5 (H : Obligations.DoorbellsMoveTheRings) : ∃ i P, Answers i wRing P :=
  ⟨_, _, H.2.2.2.2.1 wRing 2 3 (by decide +kernel) (by decide +kernel) (by decide +kernel)⟩
theorem wit_DoorbellsMoveTheRings_6 (H : Obligations.DoorbellsMoveTheRings) : ∃ i P, Answers i wRing P :=
  ⟨_, _, H.2.2.2.2.2.1 wRing 2 4 (by decide +kernel) (by decide +kernel)⟩
theorem wit_DoorbellsMoveTheRings_7 (H : Obligations.DoorbellsMoveTheRings) : ∃ i P, Answers i State.reset P :=
  ⟨_, _, H.2.2.2.2.2.2.1 State.reset 1 1 (by decide +kernel) (by decide +kernel) (by decide +kernel)⟩
theorem wit_DoorbellsMoveTheRings_8 (H : Obligations.DoorbellsMoveTheRings) : ∃ i P, Answers i wQp P :=
  ⟨_, _, H.2.2.2.2.2.2.2.1 wQp 1 1 (by decide +kernel) (by decide +kernel) (by decide +kernel)⟩
theorem wit_DoorbellsMoveTheRings_9 (H : Obligations.DoorbellsMoveTheRings) : ∃ i P, Answers i wRep P :=
  ⟨_, _, H.2.2.2.2.2.2.2.2.1 wRep 1 1 (by decide +kernel) (by decide +kernel)⟩
theorem wit_DoorbellsMoveTheRings_10 (H : Obligations.DoorbellsMoveTheRings) : ∃ i P, Answers i wQp P :=
  ⟨_, _, H.2.2.2.2.2.2.2.2.2 wQp 1 (by decide +kernel)⟩
theorem wit_CapsulesAreFetchedAnsweredAndRelayed_1 (H : Obligations.CapsulesAreFetchedAnsweredAndRelayed) : ∃ i P, Answers i State.reset P :=
  ⟨_, _, H.1 State.reset [] [] [] 0 false true (by decide +kernel)⟩
theorem wit_CapsulesAreFetchedAnsweredAndRelayed_2 (H : Obligations.CapsulesAreFetchedAnsweredAndRelayed) : ∃ i P, Answers i wQp P :=
  ⟨_, _, H.2.1 wQp 1 1 4 [] [] [] false true (by decide +kernel) (by decide +kernel)⟩
theorem wit_CapsulesAreFetchedAnsweredAndRelayed_3 (H : Obligations.CapsulesAreFetchedAnsweredAndRelayed) : ∃ i P, Answers i wQp P :=
  ⟨_, _, H.2.2.1 wQp 1 1 [] [] [] true (by decide +kernel)⟩
theorem wit_CapsulesAreFetchedAnsweredAndRelayed_4 (H : Obligations.CapsulesAreFetchedAnsweredAndRelayed) : ∃ i P, Answers i wQp P :=
  ⟨_, _, H.2.2.2.1 wQp 1 1 nopW [] [] true nopH nopC (by decide +kernel) (by decide +kernel) (by decide +kernel) (by decide +kernel) (by decide +kernel)⟩
theorem wit_CapsulesAreFetchedAnsweredAndRelayed_5 (H : Obligations.CapsulesAreFetchedAnsweredAndRelayed) : ∃ i P, Answers i wQp P :=
  ⟨_, _, H.2.2.2.2.1 wQp 1 1 2 0 badW [] [] true badH nopC (by decide +kernel) (by decide +kernel) (by decide +kernel)⟩
theorem wit_CapsulesAreFetchedAnsweredAndRelayed_6 (H : Obligations.CapsulesAreFetchedAnsweredAndRelayed) : ∃ i P, Answers i State.reset P :=
  ⟨_, _, H.2.2.2.2.2.1 State.reset false (by decide +kernel)⟩
theorem wit_CapsulesAreFetchedAnsweredAndRelayed_7 (H : Obligations.CapsulesAreFetchedAnsweredAndRelayed) : ∃ i P, Answers i wRep P :=
  ⟨_, _, H.2.2.2.2.2.2.1 wRep rpN [] 5 (by decide +kernel) (by decide +kernel) (by decide +kernel) (by decide +kernel)⟩
theorem wit_CapsulesAreFetchedAnsweredAndRelayed_8 (H : Obligations.CapsulesAreFetchedAnsweredAndRelayed) : ∃ i P, Answers i wStale P :=
  ⟨_, _, H.2.2.2.2.2.2.2.1 wStale false rpN [] (by decide +kernel) (by decide +kernel)⟩
theorem wit_CapsulesAreFetchedAnsweredAndRelayed_9 (H : Obligations.CapsulesAreFetchedAnsweredAndRelayed) : ∃ i P, Answers i wLateP P :=
  ⟨_, _, H.2.2.2.2.2.2.2.2.1 wLateP ⟩
theorem wit_CapsulesAreFetchedAnsweredAndRelayed_10 (H : Obligations.CapsulesAreFetchedAnsweredAndRelayed) : ∃ i P, Answers i wRlq P :=
  ⟨_, _, H.2.2.2.2.2.2.2.2.2.1 wRlq ⟩
theorem wit_CapsulesAreFetchedAnsweredAndRelayed_11 (H : Obligations.CapsulesAreFetchedAnsweredAndRelayed) : ∃ i P, Answers i wQp0 P :=
  ⟨_, _, H.2.2.2.2.2.2.2.2.2.2.1 wQp0 (.canopy 5) 7 nopW [] [] nopH nopC2 (by decide +kernel) (by decide +kernel) (by decide +kernel) (by decide +kernel)⟩
theorem wit_CapsulesAreFetchedAnsweredAndRelayed_12 (H : Obligations.CapsulesAreFetchedAnsweredAndRelayed) : ∃ i P, Answers i wRlq P :=
  ⟨_, _, H.2.2.2.2.2.2.2.2.2.2.2.1 wRlq (.canopy 5) 7 [2 ^ 48 + 9 * 2 ^ 32, 0, 77] ipR (by decide +kernel)⟩
theorem wit_CapsulesAreFetchedAnsweredAndRelayed_13 (H : Obligations.CapsulesAreFetchedAnsweredAndRelayed) : ∃ i P, Answers i State.reset P :=
  ⟨_, _, H.2.2.2.2.2.2.2.2.2.2.2.2 State.reset (.canopy 5) 7 [2 ^ 48 + 9 * 2 ^ 32, 0, 77] (by decide +kernel)⟩
theorem wit_EventsAndMctpMessagesAreTaken_1 (H : Obligations.EventsAndMctpMessagesAreTaken) : ∃ i P, Answers i State.reset P :=
  ⟨_, _, H.1 State.reset 2 0x20 [1] (by decide +kernel)⟩
theorem wit_EventsAndMctpMessagesAreTaken_2 (H : Obligations.EventsAndMctpMessagesAreTaken) : ∃ i P, Answers i wRing P :=
  ⟨_, _, H.2.1 wRing 2 0x20 [1] (by decide +kernel) (by decide +kernel) (by decide +kernel) (by decide +kernel) (by decide +kernel)⟩
theorem wit_EventsAndMctpMessagesAreTaken_3 (H : Obligations.EventsAndMctpMessagesAreTaken) : ∃ i P, Answers i ((State.reset.wr BX_WDN_EV_CFG_EN 2 1).wr BX_WDN_EV_CFG_LOG2 2 0) P :=
  ⟨_, _, H.2.2.1 ((State.reset.wr BX_WDN_EV_CFG_EN 2 1).wr BX_WDN_EV_CFG_LOG2 2 0) 2 0x20 [1] (by decide +kernel) (by decide +kernel) (by decide +kernel) (by decide +kernel) (by decide +kernel)⟩
theorem wit_EventsAndMctpMessagesAreTaken_4 (H : Obligations.EventsAndMctpMessagesAreTaken) : ∃ i P, Answers i State.reset P :=
  ⟨_, _, H.2.2.2.1 State.reset true true 0 [1] ⟩
theorem wit_EventsAndMctpMessagesAreTaken_5 (H : Obligations.EventsAndMctpMessagesAreTaken) : ∃ i P, Answers i State.reset P :=
  ⟨_, _, H.2.2.2.2.1 State.reset 0 [1] (by decide +kernel)⟩
theorem wit_EventsAndMctpMessagesAreTaken_6 (H : Obligations.EventsAndMctpMessagesAreTaken) : ∃ i P, Answers i wAsm P :=
  ⟨_, _, H.2.2.2.2.2.1 wAsm false 2 [1] [1, 2] 1 (by decide +kernel) (by decide +kernel)⟩
theorem wit_EventsAndMctpMessagesAreTaken_7 (H : Obligations.EventsAndMctpMessagesAreTaken) : ∃ i P, Answers i State.reset P :=
  ⟨_, _, H.2.2.2.2.2.2.1 State.reset false 0 (zeroBytes 321) (by decide +kernel)⟩
theorem wit_EventsAndMctpMessagesAreTaken_8 (H : Obligations.EventsAndMctpMessagesAreTaken) : ∃ i P, Answers i wQp0 P :=
  ⟨_, _, H.2.2.2.2.2.2.2.1 wQp0 0 nopM nopH nopCm (by decide +kernel) (by decide +kernel) (by decide +kernel) (by decide +kernel) (by decide +kernel) (by decide +kernel) (by decide +kernel) (by decide +kernel)⟩
theorem wit_EventsAndMctpMessagesAreTaken_9 (H : Obligations.EventsAndMctpMessagesAreTaken) : ∃ i P, Answers i State.reset P :=
  ⟨_, _, H.2.2.2.2.2.2.2.2.1 State.reset 9 ⟩
theorem wit_EventsAndMctpMessagesAreTaken_10 (H : Obligations.EventsAndMctpMessagesAreTaken) : ∃ i P, Answers i State.reset P :=
  ⟨_, _, H.2.2.2.2.2.2.2.2.2.1 State.reset ⟩
theorem wit_EventsAndMctpMessagesAreTaken_11 (H : Obligations.EventsAndMctpMessagesAreTaken) : ∃ i P, Answers i State.reset P :=
  ⟨_, _, H.2.2.2.2.2.2.2.2.2.2.1 State.reset ⟩
theorem wit_EventsAndMctpMessagesAreTaken_12 (H : Obligations.EventsAndMctpMessagesAreTaken) : ∃ i P, Answers i State.reset P :=
  ⟨_, _, H.2.2.2.2.2.2.2.2.2.2.2.1 State.reset 0 ⟩
theorem wit_EventsAndMctpMessagesAreTaken_13 (H : Obligations.EventsAndMctpMessagesAreTaken) : ∃ i P, Answers i State.reset P :=
  ⟨_, _, H.2.2.2.2.2.2.2.2.2.2.2.2 State.reset ⟩
theorem wit_WardenFirmwareAndSystemOpcodes_1 (H : Obligations.WardenFirmwareAndSystemOpcodes) : ∃ i P, Answers i State.reset P :=
  ⟨_, _, H.1 State.reset cNop (by decide +kernel)⟩
theorem wit_WardenFirmwareAndSystemOpcodes_2 (H : Obligations.WardenFirmwareAndSystemOpcodes) : ∃ i P, Answers i State.reset P :=
  ⟨_, _, H.2.1 State.reset cNop (by decide +kernel)⟩
theorem wit_WardenFirmwareAndSystemOpcodes_3 (H : Obligations.WardenFirmwareAndSystemOpcodes) : ∃ i P, Answers i State.reset P :=
  ⟨_, _, H.2.2.1 State.reset cOp (by decide +kernel)⟩
theorem wit_WardenFirmwareAndSystemOpcodes_4 (H : Obligations.WardenFirmwareAndSystemOpcodes) : ∃ i P, Answers i State.reset P :=
  ⟨_, _, H.2.2.2.1 State.reset cOp (by decide +kernel)⟩
theorem wit_WardenFirmwareAndSystemOpcodes_5 (H : Obligations.WardenFirmwareAndSystemOpcodes) : ∃ i P, Answers i wFwU P :=
  ⟨_, _, H.2.2.2.2.1 wFwU cFw (by decide +kernel) (by decide +kernel) (by decide +kernel)⟩
theorem wit_WardenFirmwareAndSystemOpcodes_6 (H : Obligations.WardenFirmwareAndSystemOpcodes) : ∃ i P, Answers i State.reset P :=
  ⟨_, _, H.2.2.2.2.2.1 State.reset cFw 3 1 (by decide +kernel) (by decide +kernel) (by decide +kernel) (by decide +kernel)⟩
theorem fwImg_checks (hk : Config.ecdsaOk Config.plovmaKey (sliceBytes fwImg 0 64) (sliceBytes fwImg 64 64) = true) :
    State.reset.fwCheck fwImg 256 false = none := by
  have h1 : rdLe fwImg 0 4 = 0x314E4457 := by decide
  have h2 : rdLe fwImg 4 2 = 1 := by decide
  have h3 : rdLe fwImg 12 4 = 0 := by decide
  have h4 : State.reset.rd BX_WDN_FW_STS_MIN_SEC_VER ≤ rdLe fwImg 6 2 := by decide
  simp [State.fwCheck, h1, h2, h3, hk, Nat.not_lt.2 h4]

theorem wit_WardenFirmwareAndSystemOpcodes_7 (hk : Config.ecdsaOk Config.plovmaKey (sliceBytes fwImg 0 64) (sliceBytes fwImg 64 64) = true) :
    cFwI.isOpPcie = true ∧ 2 ≤ cFwI.params.length ∧ State.reset.wdn.fw.updating = none ∧
      State.reset.fwCheck cFwI.data (cFwI.p 1) false = none ∧ sha256 (cFwI.data.drop 256) = sliceBytes cFwI.data 32 32 :=
  ⟨by decide, by decide, by decide, fwImg_checks hk, by decide⟩
theorem wit_WardenFirmwareAndSystemOpcodes_8 (H : Obligations.WardenFirmwareAndSystemOpcodes) : ∃ i P, Answers i wRecov P :=
  ⟨_, _, H.2.2.2.2.2.2.2.1 wRecov cMc (by decide +kernel) (by decide +kernel) (by decide +kernel) (by decide +kernel) (by decide +kernel) (by decide +kernel)⟩
theorem wit_WardenFirmwareAndSystemOpcodes_9 (H : Obligations.WardenFirmwareAndSystemOpcodes) : ∃ i P, Answers i wFwV P :=
  ⟨_, _, H.2.2.2.2.2.2.2.2.1 wFwV cOp (by decide +kernel) (by decide +kernel) (by decide +kernel)⟩
theorem wit_WardenFirmwareAndSystemOpcodes_10 (H : Obligations.WardenFirmwareAndSystemOpcodes) : ∃ i P, Answers i State.reset P :=
  ⟨_, _, H.2.2.2.2.2.2.2.2.2.1 State.reset cOp (by decide +kernel) (by decide +kernel) (by decide +kernel)⟩
theorem wit_WardenFirmwareAndSystemOpcodes_11 (H : Obligations.WardenFirmwareAndSystemOpcodes) : ∃ i P, Answers i State.reset P :=
  ⟨_, _, H.2.2.2.2.2.2.2.2.2.2.1 State.reset (by decide +kernel)⟩
theorem wit_WardenFirmwareAndSystemOpcodes_12 (hk : Config.ecdsaOk Config.plovmaKey (sliceBytes fwImg 0 64) (sliceBytes fwImg 64 64) = true) :
    wFwI.flag BX_WDN_FW_STS_STORE_VALID = true ∧ wFwI.fwCheck wFwI.wdn.fw.image (256 + rdLe wFwI.wdn.fw.image 12 4) true = none := by
  have h1 : rdLe fwImg 0 4 = 0x314E4457 := by decide
  have h2 : rdLe fwImg 4 2 = 1 := by decide
  have h3 : rdLe fwImg 12 4 = 0 := by decide
  have h4 : wFwI.rd BX_WDN_FW_STS_MIN_SEC_VER ≤ rdLe fwImg 6 2 := by decide
  have h5 : sha256 (fwImg.drop 256) = sliceBytes fwImg 32 32 := by decide
  have h6 : wFwI.wdn.fw.image = fwImg := rfl
  have h7 : fwImg.length = 256 := by decide
  refine ⟨by decide, ?_⟩
  simp [State.fwCheck, h1, h2, h3, h5, h6, hk, Nat.not_lt.2 h4]
theorem wit_WardenFirmwareAndSystemOpcodes_13 (H : Obligations.WardenFirmwareAndSystemOpcodes) : ∃ i P, Answers i State.reset P :=
  ⟨_, _, H.2.2.2.2.2.2.2.2.2.2.2.2.1 State.reset (by decide +kernel)⟩
theorem wit_WardenFirmwareAndSystemOpcodes_14 (H : Obligations.WardenFirmwareAndSystemOpcodes) : ∃ i P, Answers i wRecI P :=
  ⟨_, _, H.2.2.2.2.2.2.2.2.2.2.2.2.2.1 wRecI (by decide +kernel) (by decide +kernel) (by decide +kernel) (by decide +kernel) (by decide +kernel)⟩
theorem wit_WardenFirmwareAndSystemOpcodes_15 (H : Obligations.WardenFirmwareAndSystemOpcodes) : ∃ i P, Answers i wRecN P :=
  ⟨_, _, H.2.2.2.2.2.2.2.2.2.2.2.2.2.2 wRecN (by decide +kernel) (by decide +kernel) (by decide +kernel) (by decide +kernel) (by decide +kernel)⟩
theorem wit_ResetsReturnThePart_1 (H : Obligations.ResetsReturnThePart) : ∃ i P, Answers i wUse P :=
  ⟨_, _, H.1 wUse cRw (by decide +kernel) (by decide +kernel) (by decide +kernel) (by decide +kernel) (by decide +kernel) (by decide +kernel)⟩
theorem wit_ResetsReturnThePart_2 (H : Obligations.ResetsReturnThePart) : ∃ i P, Answers i wUse P :=
  ⟨_, _, H.2.1 wUse cRcold (by decide +kernel) (by decide +kernel) (by decide +kernel) (by decide +kernel)⟩
theorem wit_ResetsReturnThePart_3 (H : Obligations.ResetsReturnThePart) : ∃ i P, Answers i wRetd P :=
  ⟨_, _, H.2.2.1 wRetd cRcold (by decide +kernel) (by decide +kernel) (by decide +kernel) (by decide +kernel)⟩
theorem wit_ResetsReturnThePart_4 (H : Obligations.ResetsReturnThePart) : ∃ i P, Answers i wUse P :=
  ⟨_, _, H.2.2.2.1 wUse (by decide +kernel)⟩
theorem wit_ResetsReturnThePart_5 (H : Obligations.ResetsReturnThePart) : ∃ i P, Answers i wUse P :=
  ⟨_, _, H.2.2.2.2.1 wUse (by decide +kernel) (by decide +kernel)⟩
theorem wit_ResetsReturnThePart_6 (H : Obligations.ResetsReturnThePart) : ∃ i P, Answers i { State.reset with up := { phase := 6 } } P :=
  ⟨_, _, H.2.2.2.2.2.1 { State.reset with up := { phase := 6 } } (by decide +kernel)⟩
theorem wit_ResetsReturnThePart_7 (H : Obligations.ResetsReturnThePart) : ∃ i P, Answers i wUse P :=
  ⟨_, _, H.2.2.2.2.2.2.1 wUse cRs (by decide +kernel) (by decide +kernel) (by decide +kernel) (by decide +kernel)⟩
theorem wit_ResetsReturnThePart_8 (H : Obligations.ResetsReturnThePart) : ∃ i P, Answers i wUse P :=
  ⟨_, _, H.2.2.2.2.2.2.2.1 wUse { cRs with params := [2, 64] } (by decide +kernel) (by decide +kernel) (by decide +kernel) (by decide +kernel)⟩
theorem wit_ResetsReturnThePart_9 (H : Obligations.ResetsReturnThePart) : ∃ i P, Answers i wUse P :=
  ⟨_, _, H.2.2.2.2.2.2.2.2.1 wUse cRn (by decide +kernel) (by decide +kernel) (by decide +kernel) (by decide +kernel)⟩
theorem wit_ResetsReturnThePart_10 (H : Obligations.ResetsReturnThePart) : ∃ i P, Answers i wUse P :=
  ⟨_, _, H.2.2.2.2.2.2.2.2.2.1 wUse cRk (by decide +kernel) (by decide +kernel) (by decide +kernel) (by decide +kernel)⟩
theorem wit_ResetsReturnThePart_11 (H : Obligations.ResetsReturnThePart) : ∃ i P, Answers i State.reset P :=
  ⟨_, _, H.2.2.2.2.2.2.2.2.2.2.1 State.reset [] [] (by decide +kernel)⟩
theorem wit_ResetsReturnThePart_12 (H : Obligations.ResetsReturnThePart) : ∃ i P, Answers i wDmp P :=
  ⟨_, _, H.2.2.2.2.2.2.2.2.2.2.2.1 wDmp [] [] 5 1 2 (by decide +kernel) (by decide +kernel)⟩
theorem wit_ResetsReturnThePart_13 (H : Obligations.ResetsReturnThePart) : ∃ i P, Answers i (wDmp.wr BX_TAP_CTRL_AUTO_RESET 0 2) P :=
  ⟨_, _, H.2.2.2.2.2.2.2.2.2.2.2.2 (wDmp.wr BX_TAP_CTRL_AUTO_RESET 0 2) [] [] 5 1 2 (by decide +kernel) (by decide +kernel) (by decide +kernel)⟩
theorem wit_BringUpGoesStepByStep_1 (H : Obligations.BringUpGoesStepByStep) : ∃ i P, Answers i { State.reset with up := { phase := 1 } } P :=
  ⟨_, _, H.1 { State.reset with up := { phase := 1 } } (by decide +kernel)⟩
theorem wit_BringUpGoesStepByStep_2 (H : Obligations.BringUpGoesStepByStep) : ∃ i P, Answers i { State.reset with up := { phase := 1 } } P :=
  ⟨_, _, H.2.1 { State.reset with up := { phase := 1 } } (by decide +kernel)⟩
theorem wit_BringUpGoesStepByStep_3 (H : Obligations.BringUpGoesStepByStep) : ∃ i P, Answers i { State.reset with up := { phase := 2 } } P :=
  ⟨_, _, H.2.2.1 { State.reset with up := { phase := 2 } } true (by decide +kernel)⟩
theorem wit_BringUpGoesStepByStep_4 (H : Obligations.BringUpGoesStepByStep) : ∃ i P, Answers i { State.reset with up := { phase := 2 } } P :=
  ⟨_, _, H.2.2.2.1 { State.reset with up := { phase := 2 } } (by decide +kernel)⟩
theorem wit_BringUpGoesStepByStep_5 (H : Obligations.BringUpGoesStepByStep) : ∃ i P, Answers i { State.reset with up := { phase := 2 } } P :=
  ⟨_, _, H.2.2.2.2.1 { State.reset with up := { phase := 2 } } (by decide +kernel)⟩
theorem wit_BringUpGoesStepByStep_6 (H : Obligations.BringUpGoesStepByStep) : ∃ i P, Answers i State.reset P :=
  ⟨_, _, H.2.2.2.2.2.1 State.reset (by decide +kernel) (by decide +kernel)⟩
theorem wit_BringUpGoesStepByStep_7 (H : Obligations.BringUpGoesStepByStep) : ∃ i P, Answers i wP3 P :=
  ⟨_, _, H.2.2.2.2.2.2.1 wP3 (by decide +kernel)⟩
theorem wit_BringUpGoesStepByStep_8 (H : Obligations.BringUpGoesStepByStep) : ∃ i P, Answers i { State.reset with up := { phase := 3 } } P :=
  ⟨_, _, H.2.2.2.2.2.2.2.1 { State.reset with up := { phase := 3 } } (by decide +kernel)⟩
theorem wit_BringUpGoesStepByStep_9 (H : Obligations.BringUpGoesStepByStep) : ∃ i P, Answers i { State.reset with up := { phase := 3, retried := true } } P :=
  ⟨_, _, H.2.2.2.2.2.2.2.2.1 { State.reset with up := { phase := 3, retried := true } } (by decide +kernel) (by decide +kernel)⟩
theorem wit_BringUpGoesStepByStep_10 (H : Obligations.BringUpGoesStepByStep) : ∃ i P, Answers i { State.reset with up := { phase := 3 } } P :=
  ⟨_, _, H.2.2.2.2.2.2.2.2.2.1 { State.reset with up := { phase := 3 } } (by decide +kernel) (by decide +kernel) (by decide +kernel)⟩
theorem wit_BringUpGoesStepByStep_11 (H : Obligations.BringUpGoesStepByStep) : ∃ i P, Answers i { State.reset with up := { phase := 4 } } P :=
  ⟨_, _, H.2.2.2.2.2.2.2.2.2.2.1 { State.reset with up := { phase := 4 } } (by decide +kernel) (by decide +kernel) (by decide +kernel)⟩
theorem wit_BringUpGoesStepByStep_12 (H : Obligations.BringUpGoesStepByStep) : ∃ i P, Answers i up4 P :=
  ⟨_, _, H.2.2.2.2.2.2.2.2.2.2.2.1 up4 1 9 (by decide +kernel) (by decide +kernel) (by decide +kernel)⟩
theorem wit_BringUpGoesStepByStep_13 (H : Obligations.BringUpGoesStepByStep) : ∃ i P, Answers i State.reset P :=
  ⟨_, _, H.2.2.2.2.2.2.2.2.2.2.2.2.1 State.reset (by decide +kernel)⟩
theorem wit_BringUpGoesStepByStep_14 (H : Obligations.BringUpGoesStepByStep) : ∃ i P, Answers i { State.reset with up := { phase := 1 } } P :=
  ⟨_, _, H.2.2.2.2.2.2.2.2.2.2.2.2.2.1 { State.reset with up := { phase := 1 } } (by decide +kernel)⟩
theorem wit_BringUpGoesStepByStep_15 (H : Obligations.BringUpGoesStepByStep) : ∃ i P, Answers i { State.reset with up := { phase := 1 } } P :=
  ⟨_, _, H.2.2.2.2.2.2.2.2.2.2.2.2.2.2.1 { State.reset with up := { phase := 1 } } (by decide +kernel)⟩
theorem wit_BringUpGoesStepByStep_16 (H : Obligations.BringUpGoesStepByStep) : ∃ i P, Answers i { State.reset with up := { phase := 2 } } P :=
  ⟨_, _, H.2.2.2.2.2.2.2.2.2.2.2.2.2.2.2.1 { State.reset with up := { phase := 2 } } (by decide +kernel)⟩
theorem wit_BringUpGoesStepByStep_17 (H : Obligations.BringUpGoesStepByStep) : ∃ i P, Answers i { State.reset with up := { phase := 3, retried := true } } P :=
  ⟨_, _, H.2.2.2.2.2.2.2.2.2.2.2.2.2.2.2.2.1 { State.reset with up := { phase := 3, retried := true } } (by decide +kernel) (by decide +kernel)⟩
theorem wit_BringUpGoesStepByStep_18 (H : Obligations.BringUpGoesStepByStep) : ∃ i P, Answers i State.reset P :=
  ⟨_, _, H.2.2.2.2.2.2.2.2.2.2.2.2.2.2.2.2.2.1 State.reset 3 (by decide +kernel)⟩
theorem wit_BringUpGoesStepByStep_19 (H : Obligations.BringUpGoesStepByStep) : ∃ i P, Answers i wUse P :=
  ⟨_, _, H.2.2.2.2.2.2.2.2.2.2.2.2.2.2.2.2.2.2 wUse ⟩
theorem wit_PowerStatesLifeCycleAndDetections_1 (H : Obligations.PowerStatesLifeCycleAndDetections) : ∃ i P, Answers i State.reset P :=
  ⟨_, _, H.1 State.reset { cOp with params := [1, 0] } (by decide +kernel) (by decide +kernel) (by decide +kernel) (by decide +kernel) (by decide +kernel) (by decide +kernel)⟩
theorem wit_PowerStatesLifeCycleAndDetections_2 (H : Obligations.PowerStatesLifeCycleAndDetections) : ∃ i P, Answers i State.reset P :=
  ⟨_, _, H.2.1 State.reset { cOp with params := [2, 0] } (by decide +kernel) (by decide +kernel) (by decide +kernel) (by decide +kernel) (by decide +kernel) (by decide +kernel) (by decide +kernel)⟩
theorem wit_PowerStatesLifeCycleAndDetections_3 (H : Obligations.PowerStatesLifeCycleAndDetections) : ∃ i P, Answers i wRun P :=
  ⟨_, _, H.2.2.1 wRun { cOp with params := [2, 0] } (by decide +kernel) (by decide +kernel) (by decide +kernel) (by decide +kernel) (by decide +kernel) (by decide +kernel) (by decide +kernel)⟩
theorem wit_PowerStatesLifeCycleAndDetections_4 (H : Obligations.PowerStatesLifeCycleAndDetections) : ∃ i P, Answers i State.reset P :=
  ⟨_, _, H.2.2.2.1 State.reset { cOp with params := [3, 0] } (by decide +kernel) (by decide +kernel) (by decide +kernel) (by decide +kernel) (by decide +kernel) (by decide +kernel) (by decide +kernel)⟩
theorem wit_PowerStatesLifeCycleAndDetections_5 (H : Obligations.PowerStatesLifeCycleAndDetections) : ∃ i P, Answers i wRoot P :=
  ⟨_, _, H.2.2.2.2.1 wRoot { cOp with params := [3, 0] } (by decide +kernel) (by decide +kernel) (by decide +kernel) (by decide +kernel) (by decide +kernel)⟩
theorem wit_PowerStatesLifeCycleAndDetections_6 (H : Obligations.PowerStatesLifeCycleAndDetections) : ∃ i P, Answers i wBusyL P :=
  ⟨_, _, H.2.2.2.2.2.1 wBusyL { cOp with params := [1, 0] } (by decide +kernel) (by decide +kernel) (by decide +kernel) (by decide +kernel) (by decide +kernel)⟩
theorem wit_PowerStatesLifeCycleAndDetections_7 (H : Obligations.PowerStatesLifeCycleAndDetections) : ∃ i P, Answers i State.reset P :=
  ⟨_, _, H.2.2.2.2.2.2.1 State.reset { cOp with params := [4, 0] } (by decide +kernel) (by decide +kernel) (by decide +kernel) (by decide +kernel)⟩
theorem wit_PowerStatesLifeCycleAndDetections_8 (H : Obligations.PowerStatesLifeCycleAndDetections) : ∃ i P, Answers i wP3 P :=
  ⟨_, _, H.2.2.2.2.2.2.2.1 wP3 { cOp with params := [1, 0] } (by decide +kernel)⟩
theorem wit_PowerStatesLifeCycleAndDetections_9 (H : Obligations.PowerStatesLifeCycleAndDetections) : ∃ i P, Answers i wP2w P :=
  ⟨_, _, H.2.2.2.2.2.2.2.2.1 wP2w cOp (by decide +kernel) (by decide +kernel)⟩
theorem wit_PowerStatesLifeCycleAndDetections_10 (H : Obligations.PowerStatesLifeCycleAndDetections) : ∃ i P, Answers i State.reset P :=
  ⟨_, _, H.2.2.2.2.2.2.2.2.2.1 State.reset (by decide +kernel)⟩
theorem wit_PowerStatesLifeCycleAndDetections_11 (H : Obligations.PowerStatesLifeCycleAndDetections) : ∃ i P, Answers i State.reset P :=
  ⟨_, _, H.2.2.2.2.2.2.2.2.2.2.1 State.reset 500 (by decide +kernel) (by decide +kernel) (by decide +kernel)⟩
theorem wit_PowerStatesLifeCycleAndDetections_12 (H : Obligations.PowerStatesLifeCycleAndDetections) : ∃ i P, Answers i State.reset P :=
  ⟨_, _, H.2.2.2.2.2.2.2.2.2.2.2.1 State.reset 100 (by decide +kernel) (by decide +kernel)⟩
theorem wit_PowerStatesLifeCycleAndDetections_13 (H : Obligations.PowerStatesLifeCycleAndDetections) : ∃ i P, Answers i State.reset P :=
  ⟨_, _, H.2.2.2.2.2.2.2.2.2.2.2.2.1 State.reset cOp (by decide +kernel)⟩
theorem wit_PowerStatesLifeCycleAndDetections_14 (H : Obligations.PowerStatesLifeCycleAndDetections) : ∃ i P, Answers i (State.reset.wr BX_LC_STS_STATE 0 1) P :=
  ⟨_, _, H.2.2.2.2.2.2.2.2.2.2.2.2.2.1 (State.reset.wr BX_LC_STS_STATE 0 1) { cLct with params := [0, 4096] } (by decide +kernel) (by decide +kernel) (by decide +kernel)⟩
theorem wit_PowerStatesLifeCycleAndDetections_15 (H : Obligations.PowerStatesLifeCycleAndDetections) : ∃ i P, Answers i wBusyL P :=
  ⟨_, _, H.2.2.2.2.2.2.2.2.2.2.2.2.2.2.1 wBusyL cLct (by decide +kernel) (by decide +kernel) (by decide +kernel) (by decide +kernel)⟩
theorem wit_PowerStatesLifeCycleAndDetections_16 (H : Obligations.PowerStatesLifeCycleAndDetections) : ∃ i P, Answers i State.reset P :=
  ⟨_, _, H.2.2.2.2.2.2.2.2.2.2.2.2.2.2.2.1 State.reset cLct 16 (by decide +kernel) (by decide +kernel) (by decide +kernel) (by decide +kernel) (by decide +kernel)⟩
theorem wit_PowerStatesLifeCycleAndDetections_17 (hk : Config.ecdsaOk State.reset.heldKey (sliceBytes lcB 0 64) (sliceBytes lcB 64 64) = true) :
    cLcR.isOpPcie = true ∧ 2 ≤ cLcR.params.length ∧ lcCommand (State.reset.rd BX_LC_STS_STATE) (cLcR.p 0) = some 0x0015 ∧
      State.reset.flag BX_LC_STS_TRANSITIONING = false ∧ (State.reset.authorized 0x0015 cLcR.data).1 = true := by
  have h1 : rdLe lcB 0 4 = 0x48545541 := by decide
  have h2 : rdLe lcB 4 2 = 0x0015 := by decide
  have h3 : rdLe lcB 8 8 = State.reset.rd BX_CNP_DEV_UID_DEV_UID := by decide
  have h4 : rdLe lcB 16 8 = State.reset.rd BX_HW_AUTH_NONCE := by decide
  have h5 : State.reset.tapNs ≤ rdLe lcB 24 8 := by decide
  have h6 : cLcR.data = lcB := rfl
  refine ⟨by decide, by decide, by decide, by decide, ?_⟩
  simp only [State.authorized, h6, h1, h2, ← h3, ← h4, hk]
  simp [h5]
theorem wit_PowerStatesLifeCycleAndDetections_18 (H : Obligations.PowerStatesLifeCycleAndDetections) : ∃ i P, Answers i State.reset P :=
  ⟨_, _, H.2.2.2.2.2.2.2.2.2.2.2.2.2.2.2.2.2.1 State.reset 3 [] none false true ⟩
theorem wit_PowerStatesLifeCycleAndDetections_19 (H : Obligations.PowerStatesLifeCycleAndDetections) : ∃ i P, Answers i State.reset P :=
  ⟨_, _, H.2.2.2.2.2.2.2.2.2.2.2.2.2.2.2.2.2.2.1 State.reset 3 [] none false true ⟩
theorem wit_PowerStatesLifeCycleAndDetections_20 (H : Obligations.PowerStatesLifeCycleAndDetections) : ∃ i P, Answers i wEnt P :=
  ⟨_, _, H.2.2.2.2.2.2.2.2.2.2.2.2.2.2.2.2.2.2.2.1 wEnt 0 50 [] none false false ⟩
theorem wit_PowerStatesLifeCycleAndDetections_21 (H : Obligations.PowerStatesLifeCycleAndDetections) : ∃ i P, Answers i State.reset P :=
  ⟨_, _, H.2.2.2.2.2.2.2.2.2.2.2.2.2.2.2.2.2.2.2.2.1 State.reset 0 [] none false false ⟩
theorem wit_PowerStatesLifeCycleAndDetections_22 (H : Obligations.PowerStatesLifeCycleAndDetections) : ∃ i P, Answers i State.reset P :=
  ⟨_, _, H.2.2.2.2.2.2.2.2.2.2.2.2.2.2.2.2.2.2.2.2.2.1 State.reset 3073 3 [] false ⟩
theorem wit_PowerStatesLifeCycleAndDetections_23 (H : Obligations.PowerStatesLifeCycleAndDetections) : ∃ i P, Answers i State.reset P :=
  ⟨_, _, H.2.2.2.2.2.2.2.2.2.2.2.2.2.2.2.2.2.2.2.2.2.2 State.reset 3 [] false ⟩

/-! ## Witnesses of the whole-machine statements: states and operands that meet their hypotheses -/

def wOff : State := { State.reset with up := { State.reset.up with phase := 5 } }
theorem wit_AStepRunsTheFirstWaitingCommand_ticks : State.reset.pending = [] ∧ State.reset.bxTicks = true ∧ State.reset.zxTicks = true := by decide
theorem wit_AStepRunsTheFirstWaitingCommand_still : wOff.pending = [] ∧ wOff.bxTicks = false ∧
    ({ State.reset with zx := { State.reset.zx with inReset := true } } : State).zxTicks = false := by decide
def wHbmA : State := ({ State.reset with hbm := { State.reset.hbm with cells := [(5, 7), (9, 1)] } } : State).wr BX_LC_STS_STATE 0 2
theorem wit_EveryStepKeepsTheCanonicalForm : wHbmA.Inv ∧ (∃ t, step { wHbmA with pending := [.jtagIdcode] } = .next t) ∧
    ({ wHbmA with pending := [.jtagIdcode] } : State).Inv := by
  refine ⟨by constructor <;> decide, ⟨_, rfl⟩, by constructor <;> decide⟩
theorem wit_StoresAreChangedOnlyByTheirCommands : ∃ t, exec .jtagIdcode wHbmA = .next t ∧ Instr.jtagIdcode.changesHbm = false ∧
    Instr.jtagIdcode.changesGate = false ∧ Instr.jtagIdcode.changesPower = false ∧ Instr.jtagIdcode.changesQueues = false ∧
    Instr.jtagIdcode.changesEgress = false := ⟨_, rfl, rfl, rfl, rfl, rfl, rfl⟩
theorem wit_Zx40IsChangedOnlyByItsCommands : ∃ t, exec .heartbeatSend wHbmA = .next t ∧ Instr.heartbeatSend.changesZx = false := ⟨_, rfl, rfl⟩
def cTnt : Cap := { path := 0, tenant := 5, tag := 7, replyPtr := 4096, params := [3, 0] }
theorem wit_MemoryAndSchedulerOpcodesAreTheOperators_origins : cTnt.isOp = false ∧ cOp.isOp = true ∧ cOp.p 0 < 120 := by decide
theorem wit_MemoryAndSchedulerOpcodesAreTheOperators_channels : ({ cOp with params := [3, 0] } : Cap).isOp = true ∧
    2 ≤ ({ cOp with params := [3, 0] } : Cap).params.length ∧ ({ cOp with params := [3, 0] } : Cap).p 0 < 128 ∧
    ({ cOp with params := [3, 0] } : Cap).p 1 ≤ 1 ∧ State.reset.rd BX_DMA_CH_STS_STATE 3 ≠ 2 ∧
    (State.reset.wr BX_DMA_CH_STS_STATE 3 2).rd BX_DMA_CH_STS_STATE 3 = 2 := by decide
theorem wit_OperatorOpcodesAreDeniedToTenants : cTnt.isTenant = true := by decide
/-- Table 18-10: from, to, COMMAND. -/
def lcTable : List (Nat × Nat × Nat) :=
  [(0, 1, 0x0010), (1, 2, 0x0011), (2, 1, 0x0012), (1, 3, 0x0013), (2, 3, 0x0013), (3, 0, 0x0014), (0, 4, 0x0015), (1, 4, 0x0015), (2, 4, 0x0015), (3, 4, 0x0015), (2, 2, 0x0016)]
theorem wit_LifeCycleTransitionsAreThoseOfTheTable : State.reset.rd BX_LC_STS_STATE ≤ 4 ∧ cLct.isOpPcie = true ∧ 2 ≤ cLct.params.length ∧
    State.reset.flag BX_LC_STS_TRANSITIONING = false := by decide
theorem wit_LifeCycleTransitionsAreThoseOfTheTable_other : ({ cLct with params := [2, 4096] } : Cap).p 0 = 2 ∧
    ∀ x ∈ lcTable, x.1 = State.reset.rd BX_LC_STS_STATE → x.2.1 ≠ ({ cLct with params := [2, 4096] } : Cap).p 0 := by decide
theorem wit_LifeCycleTransitionsAreThoseOfTheTable_denied : (State.reset.rd BX_LC_STS_STATE, cLct.p 0, 0x0010) ∈ lcTable ∧
    rdLe cLct.data 4 2 ≠ 0x0010 := by decide
theorem wit_LifeCycleTransitionsAreThoseOfTheTable_accepted
    (hk : Config.ecdsaOk State.reset.heldKey (sliceBytes lcB 0 64) (sliceBytes lcB 64 64) = true) :
    (State.reset.rd BX_LC_STS_STATE, cLcR.p 0, 0x0015) ∈ lcTable ∧ (State.reset.authorized 0x0015 cLcR.data).1 = true ∧ 0x0015 ≠ 0x0016 :=
  ⟨by decide, (wit_PowerStatesLifeCycleAndDetections_17 hk).2.2.2.2, by decide⟩
def lcF : Bytes := leBytes 4 0x48545541 ++ leBytes 2 0x0016 ++ zeroBytes 10 ++ zeroBytes 8 ++ leBytes 8 (2 ^ 64 - 1) ++ leBytes 8 2 ++ zeroBytes 152
def cLcF : Cap := { path := 0, tenant := 0, tag := 7, params := [2, 4096], data := lcF }
def wFld : State := State.reset.wr BX_LC_STS_STATE 0 2
theorem wit_LifeCycleTransitionsAreThoseOfTheTable_returned
    (hk : Config.ecdsaOk wFld.heldKey (sliceBytes lcF 0 64) (sliceBytes lcF 64 64) = true) :
    (wFld.rd BX_LC_STS_STATE, cLcF.p 0, 0x0016) ∈ lcTable ∧ (wFld.authorized 0x0016 cLcF.data).1 = true ∧
      (wFld.localDie? (rdLe cLcF.data 32 8)).isSome = true := by
  have h1 : rdLe lcF 0 4 = 0x48545541 := by decide
  have h2 : rdLe lcF 4 2 = 0x0016 := by decide
  have h3 : rdLe lcF 8 8 = wFld.rd BX_CNP_DEV_UID_DEV_UID := by decide
  have h4 : rdLe lcF 16 8 = wFld.rd BX_HW_AUTH_NONCE := by decide
  have h5 : wFld.tapNs ≤ rdLe lcF 24 8 := by decide
  have h6 : cLcF.data = lcF := rfl
  refine ⟨by decide, ?_, by decide⟩
  simp only [State.authorized, h6, h1, h2, ← h3, ← h4, hk]
  simp [h5]
theorem wit_SafetyStateOutlivesEveryOtherCommand : ∃ t, exec .heartbeatSend ((State.reset.wr BX_SAF_STS_DEGRADED 0 1).wr BX_LC_STS_STATE 0 2) = .next t ∧
    ((State.reset.wr BX_SAF_STS_DEGRADED 0 1).wr BX_LC_STS_STATE 0 2).rd BX_SAF_STS_DEGRADED = 1 ∧ Instr.heartbeatSend.coldResets = false := ⟨_, rfl, by decide, rfl⟩
theorem wit_SafetyStateOutlivesEveryOtherCommand_code : 0x0C01 / 256 ≠ 0x40 ∧ 0x0C01 ≠ 0x1302 := by decide

end Sys2Proof.Tests
end

section
/-! SUPPORT. Every command grows the state: the queue, the outputs, the free values, the canonical form and the ZX40, a lemma per function. -/

namespace Sys2Proof.Machine

/-- What every command keeps between the state s before and t after: the queue of waiting commands, the outputs sent, the free values drawn, the
canonical form, and, where z is set, all of the ZX40. -/
structure Grows (z : Bool) (s t : State) : Prop where
  pending : t.pending = s.pending
  out : s.out <+: t.out
  fresh : s.fresh ≤ t.fresh
  inv : s.Inv → t.Inv
  zx : z = true → t.zx = s.zx

/-- The outcome is a next state, which has grown from s. -/
def Runs (z : Bool) (s : State) (o : Host.Outcome State Fault Refusal) : Prop := ∃ t, o = .next t ∧ Grows z s t

theorem Runs.done {z : Bool} {s t : State} (h : Grows z s t) : Runs z s (done t) := ⟨t, rfl, h⟩

theorem Runs.branch {z : Bool} {s : State} {c : Prop} [Decidable c] {o p : Host.Outcome State Fault Refusal} (ho : Runs z s o) (hp : Runs z s p) :
    Runs z s (if c then o else p) := by
  split <;> assumption

namespace Grows
variable {z : Bool} {s t : State}

theorem refl (z : Bool) (s : State) : Grows z s s := ⟨rfl, List.prefix_refl _, le_rfl, id, fun _ => rfl⟩

theorem branch {c : Prop} [Decidable c] {u : State} (ht : Grows z s t) (hu : Grows z s u) : Grows z s (if c then t else u) := by
  split <;> assumption

theorem foldl {α : Type} {f : State → α → State} {l : List α} (h : Grows z s t) (hf : ∀ u x, Grows z s u → Grows z s (f u x)) :
    Grows z s (l.foldl f t) := by
  induction l generalizing t with
  | nil => exact h
  | cons x l ih => exact ih (hf t x h)

theorem foldlSnd {α β : Type} {f : β × State → α → β × State} {l : List α} {b : β} (h : Grows z s t)
    (hf : ∀ p x, Grows z s p.2 → Grows z s (f p x).2) : Grows z s (l.foldl f (b, t)).2 := by
  suffices ∀ p : β × State, Grows z s p.2 → Grows z s (l.foldl f p).2 from this _ h
  induction l with
  | nil => exact fun _ hp => hp
  | cons x l ih => exact fun p hp => ih _ (hf p x hp)

theorem foldlFst {α β : Type} {f : State × β → α → State × β} {l : List α} {b : β} (h : Grows z s t)
    (hf : ∀ p x, Grows z s p.1 → Grows z s (f p x).1) : Grows z s (l.foldl f (t, b)).1 := by
  suffices ∀ p : State × β, Grows z s p.1 → Grows z s (l.foldl f p).1 from this _ h
  induction l with
  | nil => exact fun _ hp => hp
  | cons x l ih => exact fun p hp => ih _ (hf p x hp)

theorem branchSnd {α : Type} {c : Prop} [Decidable c] {p q : α × State} (hp : Grows z s p.2) (hq : Grows z s q.2) :
    Grows z s (if c then p else q).2 := by
  split <;> assumption

theorem pair {α : Type} {a : α} (h : Grows z s t) : Grows z s (a, t).2 := h

theorem snd_eq {α : Type} {p : α × State} {a : α} {u : State} (h : Grows z s p.2) (e : p = (a, u)) : Grows z s u := by
  subst e
  exact h

/-! ### What changes the registers, the outputs, the free values and HBM, and what changes none of them -/

theorem wr (h : Grows z s t) {f i v} : Grows z s (t.wr f i v) :=
  ⟨h.pending, h.out, h.fresh, fun hs => ⟨(h.inv hs).1, t.wr_keysRise f i v (h.inv hs).2⟩, h.zx⟩

theorem emit (h : Grows z s t) {o} : Grows z s (t.emit o) :=
  ⟨h.pending, h.out.trans (List.prefix_append _ _), h.fresh, h.inv, h.zx⟩

theorem draw (h : Grows z s t) : Grows z s { t with fresh := t.fresh + 1 } :=
  ⟨h.pending, h.out, h.fresh.trans (Nat.le_succ _), h.inv, h.zx⟩

theorem dropRegs (h : Grows z s t) {p} : Grows z s (t.dropRegs p) :=
  ⟨h.pending, h.out, h.fresh, fun hs => ⟨(h.inv hs).1, filter_keysRise _ _ _ (h.inv hs).2⟩, h.zx⟩

theorem setHbm (h : Grows z s t) {x} (hx : Memory.wf t.hbm.cells = true → Memory.wf x.cells = true := by exact fun hw => hw) :
    Grows z s (t.setHbm x) :=
  ⟨h.pending, h.out, h.fresh, fun hs => ⟨hx (h.inv hs).1, (h.inv hs).2⟩, h.zx⟩

/-- An update of what is neither a register, an output, a free value, a waiting command, HBM nor the ZX40. -/
theorem set (h : Grows z s t) {bxTb pps tsrc links queues ep red cnp grv cor wdn tap egs rpl gate up} :
    Grows z s ⟨t.regs, t.zx, bxTb, pps, tsrc, links, queues, ep, red, cnp, grv, cor, wdn, tap, t.hbm, egs, rpl, gate, up, t.out, t.fresh,
      t.pending⟩ :=
  ⟨h.pending, h.out, h.fresh, h.inv, h.zx⟩

/-- The same with the ZX40 among what is updated. -/
theorem setZx (h : Grows false s t) {zx bxTb pps tsrc links queues ep red cnp grv cor wdn tap egs rpl gate up} :
    Grows false s ⟨t.regs, zx, bxTb, pps, tsrc, links, queues, ep, red, cnp, grv, cor, wdn, tap, t.hbm, egs, rpl, gate, up, t.out, t.fresh,
      t.pending⟩ :=
  ⟨h.pending, h.out, h.fresh, h.inv, nofun⟩

/-! ### Ops -/

theorem bump (h : Grows z s t) {f i n} : Grows z s (t.bump f i n) :=
  h.wr

theorem wrSat (h : Grows z s t) {f i v} : Grows z s (t.wrSat f i v) :=
  h.wr

theorem setDie (h : Grows z s t) {d x} : Grows z s (t.setDie d x) :=
  h.set

theorem setLink (h : Grows z s t) {e l} : Grows z s (t.setLink e l) :=
  h.set

theorem modLink (h : Grows z s t) {e f} : Grows z s (t.modLink e f) :=
  h.setLink

theorem setPort (h : Grows z s t) {q p} : Grows z s (t.setPort q p) :=
  h.set

/-! ### View -/

theorem readEffect (h : Grows z s t) {r i} : Grows z s (t.readEffect r i) :=
  .branch h.wr h

/-! ### Heartwood -/

theorem hwWrite (h : Grows z s t) {r} : Grows z s (t.hwWrite r) :=
  .branch (Grows.branch h.wr.bump h.wr).set (Grows.branch h.wr.bump h.wr).set

theorem signal (h : Grows z s t) {r} : Grows z s (t.signal r) :=
  .branch h.hwWrite (.branch h.bump (.branch (Grows.branch h.set h).bump (Grows.branch h.set h).set))

theorem violation (h : Grows z s t) {partner row source idx} : Grows z s (t.violation partner row source idx) :=
  h.signal

/-! ### Events -/

theorem setRing (h : Grows z s t) {f r} : Grows z s (t.setRing f r) :=
  h.set

theorem ringPut (h : Grows z s t) {f ev} : Grows z s (t.ringPut f ev) :=
  h.emit.emit.setRing

theorem takeEvSeq (h : Grows z s t) {f} : Grows z s (t.takeEvSeq f) :=
  h.wr

theorem enterRing (h : Grows z s t) {f kind body} : Grows z s (t.enterRing f kind body) :=
  .branch h.takeEvSeq.ringPut (.branch h.takeEvSeq.setRing h.takeEvSeq.setRing.bump)

theorem overflowIfDue (h : Grows z s t) {f} : Grows z s (t.overflowIfDue f) := by
  dsimp only [State.overflowIfDue]
  split
  · exact h
  · exact .branch h.setRing.enterRing h

theorem post (h : Grows z s t) {f kind body} : Grows z s (t.post f kind body) :=
  .branch h.overflowIfDue.enterRing h

theorem drainRing (h : Grows z s t) {f k} : Grows z s (drainRing f k t) := by
  induction k generalizing t with
  | zero => exact h
  | succ k ih =>
    unfold Machine.drainRing
    split
    · exact h
    · exact .branch (ih h.setRing.ringPut) h

theorem ringService (h : Grows z s t) {f} : Grows z s (t.ringService f) :=
  h.drainRing.overflowIfDue

theorem postAll (h : Grows z s t) {kind body} : Grows z s (t.postAll kind body) :=
  h.foldl fun _ _ h => h.post

/-! ### Lanes -/

theorem sendMarkers (h : Grows z s t) {e} : Grows z s (t.sendMarkers e) :=
  .branch h.modLink.emit h

theorem passSlot (h : Grows z s t) {e} : Grows z s (t.passSlot e) :=
  h.modLink

theorem sendLanes (h : Grows z s t) {e bs} : Grows z s (t.sendLanes e bs) :=
  h.sendMarkers.modLink.passSlot.emit

theorem rxFlit (h : Grows z s t) {e ws} : Grows z s (t.rxFlit e ws).2 := by
  dsimp only [State.rxFlit]
  exact .branchSnd (.pair h) (.pair h.modLink)

/-! ### Links -/

theorem ls (h : Grows z s t) {k n} : Grows z s (t.ls k n) :=
  .branch h h.wr

theorem epochCounts (h : Grows z s t) {e} : Grows z s (t.epochCounts e) :=
  .branch h h.modLink

theorem countViol (h : Grows z s t) {e} : Grows z s (t.countViol e) :=
  h.epochCounts.modLink

theorem putOut (h : Grows z s t) {e bs} : Grows z s (t.putOut e bs) := by
  dsimp only [State.putOut]
  exact .sendLanes (.emit (by split; exacts [h.modLink.setPort, h.modLink]))

theorem enqueue (h : Grows z s t) {e cls b fromPort} : Grows z s (t.enqueue e cls b fromPort) :=
  h.modLink

theorem enqueueFront (h : Grows z s t) {q vc b} : Grows z s (t.enqueueFront q vc b) :=
  h.modLink

theorem outPort (h : Grows z s t) {ty sub src dst} : Grows z s (t.outPort ty sub src dst).2 := by
  dsimp only [State.outPort]
  split
  · split
    · exact h
    · refine .branchSnd (.pair h) ?_
      split <;> exact h.bump
  · split
    · exact h
    · exact h.bump

theorem sendOn (h : Grows z s t) {q ty sub vc src dst bcast bytes hops} : Grows z s (t.sendOn q ty sub vc src dst bcast bytes hops) :=
  h.foldl fun _ _ h => h.enqueue

theorem sendTo (h : Grows z s t) {ty sub vc dst bytes} : Grows z s (t.sendTo ty sub vc dst bytes) := by
  dsimp only [State.sendTo]
  split
  · next e => exact (h.outPort.snd_eq e).sendOn
  · next e => exact h.outPort.snd_eq e

theorem sendAll (h : Grows z s t) {ty sub vc src bytes except hops bcast} : Grows z s (t.sendAll ty sub vc src bytes except hops bcast) :=
  h.foldl fun _ _ h => h.sendOn

theorem passOn (h : Grows z s t) {q ty sub vc src bcast bytes hops} : Grows z s (t.passOn q ty sub vc src bcast bytes hops) :=
  .branch h h.sendAll

theorem takeMsgId (h : Grows z s t) : Grows z s (t.takeMsgId).2 :=
  h.set

theorem sendMsg (h : Grows z s t) {ty sub vc dst body epoch rec} : Grows z s (t.sendMsg ty sub vc dst body epoch rec) :=
  (Grows.branch h.takeMsgId.set h.takeMsgId).sendTo

theorem sendE2eAck (h : Grows z s t) {src msgId} : Grows z s (t.sendE2eAck src msgId) :=
  h.sendMsg

theorem e2eTake (h : Grows z s t) {src msgId} : Grows z s (t.e2eTake src msgId).2 := by
  dsimp only [State.e2eTake]
  exact .branch h.sendE2eAck h.sendE2eAck.set

theorem consume (h : Grows z s t) {e ty sub} : Grows z s (t.consume e ty sub) :=
  h.modLink

theorem takeBseq (h : Grows z s t) : Grows z s (t.takeBseq).2 :=
  h.set

theorem broadcastAlarm (h : Grows z s t) {sub p40} : Grows z s (t.broadcastAlarm sub p40) :=
  h.takeBseq.sendAll

theorem alarmUp (h : Grows z s t) {sub p40} : Grows z s (t.alarmUp sub p40) := by
  dsimp only [State.alarmUp]
  split
  · exact h.post
  · split
    · next e => exact (h.outPort.snd_eq e).sendOn
    · next e => exact .branch h.post (h.outPort.snd_eq e)

theorem safAlarm (h : Grows z s t) {code sys idx die} : Grows z s (t.safAlarm code sys idx die) :=
  .branch h h.set.alarmUp

theorem detect (h : Grows z s t) {code sys idx die inj} : Grows z s (t.detect code sys idx die inj) :=
  h.wr.bump.wr.safAlarm.signal

theorem recompute (h : Grows z s t) : Grows z s t.recompute :=
  h.set

theorem floodLsa (h : Grows z s t) : Grows z s t.floodLsa :=
  h.set.recompute.takeMsgId.foldl fun _ _ h => h.sendOn

theorem sendHello (h : Grows z s t) {q} : Grows z s (t.sendHello q) :=
  h.takeMsgId.sendOn.setPort

theorem setPstate (h : Grows z s t) {q ps} : Grows z s (t.setPstate q ps) :=
  .branch h.wr.floodLsa h.wr

theorem setLstate (h : Grows z s t) {e st} : Grows z s (t.setLstate e st) := by
  dsimp only [State.setLstate]
  split
  · exact .branch h.modLink h.modLink.setPort.setPstate
  · exact h.modLink

theorem countRetrain (h : Grows z s t) {e} : Grows z s (t.countRetrain e) := by
  dsimp only [State.countRetrain]
  split
  · exact h.ls
  · exact h.bump
  · exact h.bump

theorem retrain (h : Grows z s t) {e} : Grows z s (t.retrain e) :=
  .branch h.countRetrain.setLstate h

theorem setHold (h : Grows z s t) {e hold} : Grows z s (t.setHold e hold) := by
  unfold State.setHold
  extract_lets s₁
  have h₁ : Grows z s s₁ := by
    dsimp only [s₁]
    split
    · exact h
    · exact h.wr
    · exact h.wr
  exact .branch (.branch h₁ h₁.setLstate) (.branch h₁.modLink.setLstate h₁)

theorem escalate (h : Grows z s t) {e} : Grows z s (t.escalate e) :=
  .branch (.branch h.modLink.retrain.modLink.setHold.signal.alarmUp h.modLink.retrain) h

theorem malformed (h : Grows z s t) {e row} : Grows z s (t.malformed e row) := by
  dsimp only [State.malformed]
  exact .escalate (by split; exacts [h.countViol.bump.ls, h.countViol.bump.violation, h.countViol.bump.violation])

theorem viol (h : Grows z s t) {e row} : Grows z s (t.viol e row) := by
  dsimp only [State.viol]
  exact .escalate (by split; exacts [h.countViol.bump, h.countViol.bump.violation, h.countViol.bump.violation])

/-! ### Capsules -/

theorem reply (h : Grows z s t) {c op status results reason hostWrite} : Grows z s (t.reply c op status results reason hostWrite) := by
  unfold State.reply
  extract_lets r s₁ s₂ s₃
  have h₁ : Grows z s s₁ := .branch h.bump h
  have h₂ : Grows z s s₂ := .branch h₁.bump h₁
  have h₃ : Grows z s s₃ := .branch h₂.bump h₂
  exact h₃.set

theorem replyBlob (h : Grows z s t) {c op status bytes more} : Grows z s (t.replyBlob c op status bytes more) :=
  .branch h.reply h.reply

theorem checked (h : Grows z s t) {c op a n f} (hf : Grows z s (f t)) : Grows z s (t.checked c op a n f) :=
  .branch h.reply (.branch h.reply hf)

theorem checkedPtr (h : Grows z s t) {c op a n f} (hf : Grows z s (f t)) : Grows z s (t.checkedPtr c op a n f) :=
  h.checked (.branch h.reply hf)

theorem setZxPort (h : Grows z s t) {p z'} : Grows z s (t.setZxPort p z') :=
  h.set

theorem issueZx (h : Grows z s t) {p} : Grows z s (t.issueZx p) := by
  dsimp only [State.issueZx]
  split
  · exact h
  · exact .branch h.setZxPort.enqueue h

theorem zxFirst (h : Grows z s t) {p op params} : Grows z s (t.zxFirst p op params) := by
  dsimp only [State.zxFirst]
  exact h.setZxPort.modLink.enqueue.modLink

theorem zxSend (h : Grows z s t) {p op params origin} : Grows z s (t.zxSend p op params origin) :=
  h.setZxPort.issueZx

theorem zxInternal (h : Grows z s t) {p op params} : Grows z s (t.zxInternal p op params) :=
  h.zxSend

theorem toZx (h : Grows z s t) {c op} : Grows z s (t.toZx c op) := by
  dsimp only [State.toZx]
  split
  · exact h.reply
  · exact .branch h.reply (.branch h.reply h.zxSend)

theorem timeoutZx (h : Grows z s t) {p m} : Grows z s (t.timeoutZx p m) := by
  dsimp only [State.timeoutZx]
  split
  · exact h.reply
  · split
    · exact .branch h.setDie h
    · exact .branch (Grows.branch h.setDie h).set (.branch h.setDie h)

theorem flushZx (h : Grows z s t) {p} : Grows z s (t.flushZx p) :=
  (h.modLink.foldl fun _ _ h => h.timeoutZx).setZxPort

theorem zxSendReply (h : Grows z s t) {tag op status results reason} : Grows z s (t.zxSendReply tag op status results reason) :=
  h.enqueue

theorem zxRefuse (h : Grows false s t) {k} : Grows false s (zxRefuse k t) := by
  induction k generalizing t with
  | zero => exact h
  | succ k ih =>
    unfold Machine.zxRefuse
    split
    · exact h
    · exact .branch (ih h.setZx.zxSendReply) (.branch (ih h.setZx.zxSendReply) h)

theorem zxReply (h : Grows false s t) {c op status results reason} : Grows false s (t.zxReply c op status results reason) :=
  h.setZx.zxSendReply.zxRefuse

theorem zxRun (h : Grows false s t) {c op n f} (hf : Grows false s (f t)) : Grows false s (t.zxRun c op n f) :=
  .branch (.branch h (.branch h.zxReply hf)) (h.checked h.toZx)

theorem zxInt (h : Grows false s t) {c op n f} (hf : Grows false s (f t)) : Grows false s (t.zxInt c op n f) :=
  .branch h (.branch h.zxReply (.branch h.zxReply hf))

/-! ### Injection -/

theorem wtRecord (h : Grows z s t) {ty tgt extra} : Grows z s (t.wtRecord ty tgt extra) :=
  h.signal

theorem wtDisarm (h : Grows z s t) {tgt} : Grows z s (t.wtDisarm tgt) :=
  .branch h.wr.wr.wr.wr.wr.set.wtRecord h

theorem wtResetOff (h : Grows z s t) {p} : Grows z s (t.wtResetOff p).2 :=
  (h.foldl fun _ _ h => h.wr.wr.wr.wr.set).wr

theorem resetOff (h : Grows z s t) {n} : Grows z s (t.resetOff n) :=
  .branch h h.signal

theorem wtZxOff (h : Grows z s t) {p} : Grows z s (t.wtZxOff p) :=
  h.wtResetOff.resetOff

theorem wtArm (h : Grows z s t) {tgt action arg count} : Grows z s (t.wtArm tgt action arg count) :=
  h.wtDisarm.wr.wr.wr.wr.bump.set.wtRecord

theorem wtEvent (h : Grows z s t) {tgt extra} : Grows z s (t.wtEvent tgt extra).2 := by
  dsimp only [State.wtEvent]
  exact .branchSnd (.pair (.branch h.set.wr.bump.wtRecord.wtDisarm h.set.wr.bump.wtRecord)) (.pair h)

theorem pcs (h : Grows z s t) {e tx bs} : Grows z s (t.pcs e tx bs).2 := by
  dsimp only [State.pcs]
  split
  · exact h
  · refine .branchSnd (.pair h.set) ?_
    split
    · next e => exact h.set.wtEvent.snd_eq e
    · next e => exact .branchSnd (.pair (h.set.wtEvent.snd_eq e)) (.branchSnd (.pair (h.set.wtEvent.snd_eq e))
        (.branchSnd (.pair (h.set.wtEvent.snd_eq e)) (.branchSnd (.pair (h.set.wtEvent.snd_eq e).set) (.pair (h.set.wtEvent.snd_eq e)))))

/-! ### ZxCfg -/

theorem setReg (h : Grows z s t) {r i w} : Grows z s (t.setReg r i w) :=
  h.foldl fun _ _ h => h.wr

theorem sendImage (h : Grows z s t) {p gen img} : Grows z s (t.sendImage p gen img) :=
  h.foldl fun _ _ h => h.zxInternal

theorem stageZx (h : Grows z s t) {p gen c} : Grows z s (t.stageZx p gen c) := by
  dsimp only [State.stageZx]
  exact .zxInternal (by split; exacts [h.foldl fun _ _ h => h.zxInternal, (h.foldl fun _ _ h => h.zxInternal).sendImage])

theorem resendGen (h : Grows z s t) {p} : Grows z s (t.resendGen p) := by
  dsimp only [State.resendGen]
  split
  · exact h
  · exact h.stageZx.zxInternal.setDie

theorem refreshGrs (h : Grows z s t) {p} : Grows z s (t.refreshGrs p) := by
  dsimp only [State.refreshGrs]
  split
  · exact h
  · exact h.sendImage.zxInternal

theorem sendRun (h : Grows z s t) {p} : Grows z s (t.sendRun p) :=
  .branch h.resendGen h.refreshGrs

/-! ### ZxOps -/

theorem irq (h : Grows z s t) {f} : Grows z s (t.irq f) :=
  h.wr

theorem zxAlarmAt (h : Grows z s t) {sub detail extra stamp epoch} : Grows z s (t.zxAlarmAt sub detail extra stamp epoch) :=
  h.enqueue

theorem zxAlarm (h : Grows z s t) {sub detail extra} : Grows z s (t.zxAlarm sub detail extra) :=
  h.zxAlarmAt

theorem setTap (h : Grows false s t) {t' x} : Grows false s (t.setTap t' x) :=
  h.setZx

theorem setTrc (h : Grows false s t) {n b} : Grows false s (t.setTrc n b) :=
  h.setZx

theorem gaps (h : Grows z s t) {n} : Grows z s (t.gaps n) :=
  .branch h h.ls.irq

theorem putTrc (h : Grows false s t) {n x} : Grows false s (t.putTrc n x) :=
  h.setTrc.gaps

theorem hwRequest (h : Grows false s t) {buf cause} : Grows false s (t.hwRequest buf cause) :=
  .branch h.zxAlarm (.branch h.setZx h.setZx)

theorem sendHwReqs (h : Grows false s t) : Grows false s t.sendHwReqs :=
  h.setZx.foldl fun _ _ h => h.zxAlarmAt

theorem trigger (h : Grows false s t) {n cause} : Grows false s (t.trigger n cause) := by
  dsimp only [State.trigger]
  split
  · exact h
  · exact h.putTrc.ls
  · exact h.setTrc.hwRequest

theorem triggerSource (h : Grows false s t) {src p} : Grows false s (t.triggerSource src p) :=
  h.foldl fun _ _ h1 => .branch h1.trigger h1

theorem epochMark (h : Grows false s t) {n} : Grows false s (t.epochMark n) := by
  dsimp only [State.epochMark]
  split
  · exact h
  · exact h.putTrc

theorem orphanBursts (h : Grows false s t) {n} : Grows false s (t.orphanBursts n) :=
  .branch h.setZx h

theorem trcArm (h : Grows false s t) {n} : Grows false s (t.trcArm n) :=
  .branch h (.branch h.setTrc.wr.wr h.setTrc.wr.wr.epochMark)

theorem trcRelease (h : Grows false s t) {n} : Grows false s (t.trcRelease n) :=
  .branch h (.branch h.setTrc.orphanBursts h.putTrc.orphanBursts)

theorem trcFree (h : Grows false s t) {n count} : Grows false s (t.trcFree n count) :=
  h.putTrc

theorem logRoom (h : Grows false s t) {size k} : Grows false s (t.logRoom size k) := by
  induction k generalizing t with
  | zero => exact h
  | succ k ih =>
    unfold State.logRoom
    refine .branch h ?_
    split
    · exact h
    · exact ih (.branch h.setZx.ls.irq h.setZx)

theorem modEntry (h : Grows false s t) {n f} : Grows false s (t.modEntry n f) :=
  h.setZx

theorem startPass (h : Grows false s t) {cursor floor} : Grows false s (t.startPass cursor floor) :=
  h.setZx

theorem resendUnacked (h : Grows false s t) : Grows false s t.resendUnacked := by
  dsimp only [State.resendUnacked]
  split
  · exact h
  · exact h.startPass

theorem resendFrom (h : Grows false s t) {f} : Grows false s (t.resendFrom f) := by
  dsimp only [State.resendFrom]
  split
  · exact h.startPass
  · exact h.setZx

theorem beginSnap (h : Grows false s t) {n} : Grows false s (t.beginSnap n) :=
  h.setZx

theorem endPass (h : Grows false s t) : Grows false s t.endPass := by
  dsimp only [State.endPass]
  split
  · exact h
  · exact .branch h h.setZx

theorem setSel (h : Grows false s t) {n w} : Grows false s (t.setSel n w) :=
  h.setZx

theorem loadSel (h : Grows false s t) : Grows false s t.loadSel :=
  h.setZx.foldl fun _ _ h => h.wr

theorem loadQw (h : Grows false s t) : Grows false s t.loadQw :=
  h.setZx

theorem showImage (h : Grows z s t) : Grows z s t.showImage :=
  h.wr.wr.wr.wr

theorem grsSwitch (h : Grows false s t) : Grows false s t.grsSwitch := by
  dsimp only [State.grsSwitch]
  split
  · exact h
  · exact .branch h h.setZx.showImage.wr

theorem declareHang (h : Grows false s t) {causes} : Grows false s (t.declareHang causes) :=
  .branch h.bump.wr h.setZx.wr.triggerSource

theorem releaseHang (h : Grows false s t) : Grows false s t.releaseHang :=
  .branch h (.branch h.setZx.wr.wr.wr.wr h.setZx.wr.wr.wr.wr.declareHang)

/-! ### Blaze -/

theorem blzCount (h : Grows z s t) {u outcome} : Grows z s (t.blzCount u outcome) := by
  dsimp only [State.blzCount]
  split
  · exact (Grows.branch h.bump h).bump
  · exact (Grows.branch h.bump h).bump
  · exact (Grows.branch h.bump h).bump
  · exact (Grows.branch h.bump h).bump
  · exact (Grows.branch h.bump h).bump
  · exact .branch h.bump h

theorem blzLast (h : Grows z s t) {u outcome addr tag} : Grows z s (t.blzLast u outcome addr tag) :=
  .branch h h.wr.wr.wr.wr

theorem blzReport (h : Grows false s t) {u outcome addr tag word} : Grows false s (t.blzReport u outcome addr tag word) :=
  .branch h.setZx (.branch h.setZx h.bump)

theorem setBlz (h : Grows false s t) {u x} : Grows false s (t.setBlz u x) :=
  h.setZx

theorem blzBad (h : Grows false s t) {u b} : Grows false s (t.blzBad u b) :=
  h.setBlz.blzCount.blzLast.blzReport

theorem blzBeat (h : Grows false s t) {u bytes ctl} : Grows false s (t.blzBeat u bytes ctl) :=
  .branch h (.branch h (.branch h.setBlz.blzBad (.branch (.branch h.setBlz.blzBad h.setBlz.setBlz)
    (.branch h.setBlz.blzBad (.branch h.setBlz.blzBad (.branch h.setBlz.setBlz h.setBlz.setBlz))))))

theorem blzUnverify (h : Grows false s t) {u addr tag word} : Grows false s (t.blzUnverify u addr tag word) :=
  h.blzCount.blzLast.blzReport

theorem blzCondemn (h : Grows false s t) {u outcome b} : Grows false s (t.blzCondemn u outcome b) :=
  (Grows.branch (Grows.branch (.branch h.setZx h.bump) h).zxAlarm.irq (Grows.branch (.branch h.setZx h.bump)
    h).zxAlarm).triggerSource.blzLast.blzReport

theorem blzInject (h : Grows false s t) {u b} : Grows false s (t.blzInject u b).2 := by
  dsimp only [State.blzInject]
  split
  · exact h
  · exact h.setZx.zxAlarm

theorem blazeClassify (h : Grows false s t) {u} : Runs false s (execBlazeClassify u t) := by
  unfold execBlazeClassify
  extract_lets x₀
  split
  · exact .done h
  · extract_lets s₁
    split
    next e =>
    extract_lets x fmt w s₂ slot s₃ o s₄ s₅ s₆ free y
    have h₁ := (h.setBlz.blzInject : Grows false s (s₁.blzInject u _).2).snd_eq e
    have h₂ : Grows false s s₂ := .branch h₁.bump h₁
    have h₃ : Grows false s s₃ := by
      dsimp only [s₃]
      clear_value slot
      cases slot with
      | none => exact h₁
      | some k => exact h₁.setBlz
    have h₄ : Grows false s s₄ := .branch h₃.bump h₃
    have h₅ : Grows false s s₅ := h₄.ls.blzCount
    refine .branch (.done h₂.ls.blzCount.blzReport) (.branch ?_ (.branch (.branch (.done h₅.blzReport) (.done h₅)) (.done h₅.ls.blzCondemn)))
    clear_value slot free
    split
    · exact .done h₅.ls.setBlz.blzLast.blzReport
    · exact .done h₅.ls.blzUnverify

theorem blzExpire (h : Grows false s t) {u k} : Grows false s (t.blzExpire u k) := by
  dsimp only [State.blzExpire]
  split
  · exact h
  · exact h.setBlz.blzUnverify

theorem blazeRefetchTimeout (h : Grows false s t) {u k} : Runs false s (execBlazeRefetchTimeout u k t) := by
  dsimp only [execBlazeRefetchTimeout]
  split
  · exact .done h
  · exact .branch (.done h) (.done h.blzExpire)

theorem blzFlushRf (h : Grows false s t) {u} : Runs false s (execBlzFlushRf u t) := by
  dsimp only [execBlzFlushRf]
  exact .done (h.foldl fun _ _ h1 => by split; exacts [h1, .branch h1 h1.blzExpire])

theorem blzCntClr (h : Grows z s t) {u} : Runs z s (execBlzCntClr u t) :=
  .done h.wr.wr.wr.wr.wr.wr

theorem blzWrite (h : Grows z s t) {u which v} : Grows z s (t.blzWrite u which v).2 := by
  dsimp only [State.blzWrite]
  exact .branchSnd (.pair h) (.pair h.setReg)

theorem blzCfgWrite (h : Grows z s t) {part u which v} : Runs z s (execBlzCfgWrite part u which v t) :=
  .branch (.done h.blzWrite) (.branch (.done h) (.branch (.done h.blzWrite.emit) (.done h.blzWrite.ls.emit)))

/-! ### Ingress -/

theorem mirror (h : Grows z s t) {m epoch} : Grows z s (t.mirror m epoch).2 := by
  dsimp only [State.mirror]
  split
  · exact h
  · exact h.sendMsg

theorem sendAdmit (h : Grows z s t) {p} : Grows z s (t.sendAdmit p) :=
  h.zxInternal

theorem assignInc (h : Grows z s t) {p} : Grows z s (t.assignInc p) :=
  .branch h.set (.branch h.mirror.setDie.wr.sendAdmit h.mirror.setDie.wr)

theorem emitPartial (h : Grows z s t) {c p dst} : Grows z s (t.emitPartial c p dst) :=
  h.sendMsg.bump.set.mirror

theorem setCtx (h : Grows z s t) {x} : Grows z s (t.setCtx x) :=
  h.set

theorem recomputePartial (h : Grows z s t) {n k} : Grows z s (t.recomputePartial n k) :=
  h.emitPartial

theorem recomputeOpen (h : Grows z s t) {x} : Grows z s (t.recomputeOpen x) :=
  .branch h (h.setCtx.foldl fun _ _ h => h.recomputePartial)

theorem mismatch (h : Grows z s t) {p n} : Grows z s (t.mismatch p n) := by
  dsimp only [State.mismatch]
  split
  · exact h.resendGen
  · exact .branch h.resendGen h

theorem countRow (h : Grows z s t) {row} : Grows z s (t.countRow row) := by
  dsimp only [State.countRow]
  split
  · exact h.bump
  · exact h.bump
  · exact h.bump
  · exact h.bump
  · exact h

theorem setRow (h : Grows z s t) {d n row} : Grows z s (t.setRow d n row) :=
  h.set

theorem classify (h : Grows z s t) {d n b} : Grows z s (t.classify d n b) := by
  dsimp only [State.classify]
  split
  · exact .branch h.countRow.setRow.mismatch h.countRow.setRow
  · exact .branch (.branch (Grows.branch h.countRow.setRow.mismatch h.countRow.setRow).setCtx.recomputePartial
      (Grows.branch h.countRow.setRow.mismatch h.countRow.setRow).setCtx) (Grows.branch h.countRow.setRow.mismatch h.countRow.setRow).setCtx

theorem classifyHeld (h : Grows z s t) {n} : Grows z s (t.classifyHeld n) :=
  h.foldl fun _ _ h => h.classify

theorem advanceAck (h : Grows z s t) {d} : Grows z s (t.advanceAck d) :=
  .branch h h.set.modLink

theorem freeLog (h : Grows z s t) {k n} : Grows z s (freeLog k t n) := by
  induction k generalizing t with
  | zero => exact h
  | succ k ih =>
    unfold Machine.freeLog
    refine .branch h ?_
    split
    · exact h
    · exact ih h.set

theorem askResend (h : Grows z s t) {d n} : Grows z s (t.askResend d n) :=
  h.zxInternal

theorem dropHeld (h : Grows z s t) {d n} : Grows z s (t.dropHeld d n) := by
  dsimp only [State.dropHeld]
  split
  · exact h
  · exact h.set.bump.askResend

theorem noteLack (h : Grows z s t) {d n} : Grows z s (t.noteLack d n) :=
  h.setDie

theorem ilogFreed (h : Grows z s t) : Grows z s t.ilogFreed := by
  dsimp only [State.ilogFreed]
  exact h.foldl fun _ _ h => by split; exacts [h.askResend, h]

theorem afterCommitLog (h : Grows z s t) : Grows z s t.afterCommitLog :=
  .branch (.branch h.freeLog.ilogFreed h.freeLog) h

theorem storeSnap (h : Grows z s t) {d b} : Grows z s (t.storeSnap d b) :=
  .branch h.freeLog.bump.noteLack (Grows.branch (Grows.branch h.freeLog.mirror.set.setDie h.freeLog.mirror.set).classify
    (.branch h.freeLog.mirror.set.setDie h.freeLog.mirror.set)).advanceAck

theorem setCorDie (h : Grows z s t) {d x} : Grows z s (t.setCorDie d x) :=
  h.set

theorem hear (h : Grows z s t) {d n} : Grows z s (t.hear d n) :=
  .branch h h.setCorDie

theorem noteSeen (h : Grows z s t) {d n} : Grows z s (t.noteSeen d n) := by
  dsimp only [State.noteSeen]
  split
  · exact h
  · exact h.setCtx

theorem takeSnap (h : Grows z s t) {d b resent poison} : Grows z s (t.takeSnap d b resent poison) := by
  dsimp only [State.takeSnap]
  refine .branch h.bump.noteSeen.noteLack.askResend (.branch h.bump.noteSeen (.branch h.viol (.branch h.hear.setDie.viol ?_)))
  split
  · exact .branch (Grows.branch h.hear.setDie h.hear.setDie.set).bump (Grows.branch h.hear.setDie h.hear.setDie.set).viol.signal
  · exact (Grows.branch h.hear.setDie h.hear.setDie.set).storeSnap

theorem judgeInc (h : Grows z s t) {p id} : Grows z s (t.judgeInc p id) :=
  .branch h.set (Grows.branch h.assignInc h.sendAdmit).setDie.sendRun

theorem releaseIncs (h : Grows z s t) : Grows z s t.releaseIncs :=
  .branch (h.set.foldl fun _ _ h => h.judgeInc) h

theorem recomputeAll (h : Grows z s t) : Grows z s t.recomputeAll := by
  dsimp only [State.recomputeAll]
  exact h.foldl fun _ _ h => by split; exacts [h, h.recomputeOpen]

/-! ### LookoutOps -/

theorem fenceDie (h : Grows z s t) {d cause} : Grows z s (t.fenceDie d cause) :=
  .branch h.wr.signal.draw.detect (.branch h h.setDie.set.wr.wr.wr.setCorDie.signal.broadcastAlarm)

theorem issueTest (h : Grows z s t) {c d unit reason n pre bin} : Grows z s (t.issueTest c d unit reason n pre bin) :=
  h.set.wr.wr.wr.bump.setCorDie.post

theorem testFor (h : Grows z s t) {d r n} : Grows z s (t.testFor d r n) := by
  dsimp only [State.testFor]
  refine .branch h ?_
  split <;> exact h.issueTest

theorem noteReason (h : Grows z s t) {d r n set} : Grows z s (t.noteReason d r n set) :=
  h.wr.setCorDie

theorem setReason (h : Grows z s t) {d r n} : Grows z s (t.setReason d r n) :=
  .branch h h.noteReason.testFor

theorem setDrift (h : Grows z s t) {d r n chan bin} : Grows z s (t.setDrift d r n chan bin) := by
  dsimp only [State.setDrift]
  exact .branch h (.setReason (by split; exacts [h.setCorDie, h.setCorDie.wr.wr]))

theorem clearReasons (h : Grows z s t) {d mask} : Grows z s (t.clearReasons d mask) :=
  .branch h.wr.setCorDie h.wr.setCorDie.wr.wr

theorem mirrorDie (h : Grows z s t) {d} : Grows z s (t.mirrorDie d) :=
  h.mirror.set

theorem restoreDie (h : Grows z s t) {d x} : Grows z s (t.restoreDie d x) :=
  h.setReg.setReg.setCorDie

theorem lastTest (h : Grows z s t) {id} : Grows z s (t.lastTest id) :=
  .branch h.set h

theorem resetCorr (h : Grows z s t) {d} : Grows z s (t.resetCorr d) :=
  h.clearReasons.wr.wr.wr.wr.wr.wr.setCorDie

theorem readmit (h : Grows z s t) {d} : Grows z s (t.readmit d) :=
  (Grows.branch h.resetCorr.assignInc.setDie.set.setReason h.resetCorr.assignInc.setDie.set).sendRun.broadcastAlarm

theorem sendProbe (h : Grows z s t) {d tries origins} : Grows z s (t.sendProbe d tries origins) :=
  h.zxSend.setCorDie

theorem startProbe (h : Grows z s t) {d origin} : Grows z s (t.startProbe d origin) := by
  dsimp only [State.startProbe]
  split
  · exact h.setCorDie
  · exact h.wr.sendProbe

theorem endProbe (h : Grows z s t) {d alive} : Grows z s (t.endProbe d alive) := by
  dsimp only [State.endProbe]
  split
  · exact h
  · exact h.wr.setCorDie.foldl fun _ _ h1 => .branch h1.reply h1.reply

theorem lookDie (h : Grows z s t) {n d} : Grows z s (t.lookDie n d) :=
  .branch (.branch h.setCorDie.setCorDie.wr.readmit h.setCorDie.setCorDie.wr) (.branch h.setCorDie.wr
    (.branch h.setCorDie (.branch h.setCorDie.wr.wr (.branch h.setCorDie.wr.wr.startProbe (.branch h.setCorDie.wr h.setCorDie.wr.fenceDie)))))

theorem lookoutUpdate (h : Grows z s t) {n} : Grows z s (t.lookoutUpdate n) :=
  h.foldl fun _ _ h => h.lookDie

theorem healthDie (h : Grows z s t) {n r d} : Grows z s (t.healthDie n r d) := by
  dsimp only [State.healthDie]
  split
  · exact .branch h.setCorDie.setReason h.setCorDie
  · exact h.setCorDie
  · exact h

theorem healthUpdate (h : Grows z s t) {n r} : Grows z s (t.healthUpdate n r) :=
  h.foldl fun _ _ h1 => h1.healthDie

theorem takeDigest (h : Grows z s t) {g} : Grows z s (t.takeDigest g) :=
  h.set

theorem sendDigests (h : Grows z s t) {agg n snap r} : Grows z s (t.sendDigests agg n snap r) :=
  h.foldl fun _ _ h1 => .branch h1.takeDigest h1.sendMsg

theorem groupsDue (h : Grows z s t) {n} : Grows z s (t.groupsDue n) :=
  h.set

/-! ### Queues -/

theorem setQueue (h : Grows z s t) {k q} : Grows z s (t.setQueue k q) :=
  h.set

theorem writePort (h : Grows z s t) {k q w} : Grows z s (t.writePort k q w).2 := by
  dsimp only [State.writePort]
  refine .branchSnd (.pair h) ?_
  split
  · next e => exact h.wtEvent.snd_eq e
  · next e => exact .branchSnd (.pair (h.wtEvent.snd_eq e)) (.branchSnd (.pair (h.wtEvent.snd_eq e)) (.pair (h.wtEvent.snd_eq e)))

theorem pushWord (h : Grows z s t) {k q w} : Grows z s (t.pushWord k q w).2 := by
  dsimp only [State.pushWord]
  split
  · exact h.setQueue
  · exact .branch h.setQueue.emit h.setQueue
  · exact h.writePort.setQueue

theorem pushFirst (h : Grows z s t) {k h'} : Grows z s (t.pushFirst k h') := by
  dsimp only [State.pushFirst]
  split
  · exact h
  · exact .branch h.setQueue h.pushWord

theorem pushHeld (h : Grows z s t) {k h'} : Grows z s (t.pushHeld k h') :=
  h.foldl fun _ _ h1 => h1.pushFirst

theorem queueEdge (h : Grows z s t) {k h' write} : Grows z s (t.queueEdge k h' write) :=
  .branch h.setQueue.pushFirst h.setQueue

theorem queueEdges (h : Grows z s t) {k h' we re} : Grows z s (t.queueEdges k h' we re) :=
  h.foldl fun _ _ h => h.queueEdge

theorem present (h : Grows z s t) {k h' w} : Grows z s (t.present k h' w) :=
  .branch h.setQueue.queueEdge h.setQueue.pushHeld

theorem queuePush (h : Grows z s t) {k h' data x last we re} : Runs z s (execQueuePush k h' data x last we re t) :=
  .done h.queueEdges.present

theorem queuePop (h : Grows z s t) {k h' we re} : Runs z s (execQueuePop k h' we re t) :=
  .done (.branch (.branch h.queueEdges.setQueue.ls h.queueEdges.setQueue) (Grows.branch h.queueEdges.setQueue.ls h.queueEdges.setQueue).pushHeld)

theorem packetCancel (h : Grows z s t) {k h' we re} : Runs z s (execPacketCancel k h' we re t) :=
  .done h.queueEdges.present

theorem queueCntClr (h : Grows z s t) {k} : Runs z s (execQueueCntClr k t) := by
  dsimp only [execQueueCntClr]
  split
  · exact .done h
  · exact .done h.setQueue

theorem crossWords (h : Grows z s t) {k h' ws} : Grows z s (t.crossWords k h' ws).2 :=
  h.setQueue

theorem crossIn (h : Grows z s t) {p ty bs} : Grows z s (t.crossIn p ty bs).2 := by
  dsimp only [State.crossIn]
  split
  · exact h.crossWords
  · exact h.foldlSnd fun _ _ hp => hp.crossWords

/-! ### Stem -/

theorem failAttempt (h : Grows z s t) {e} : Grows z s (t.failAttempt e) :=
  h.modLink.setLstate

theorem countFlushed (h : Grows z s t) {e n} : Grows z s (t.countFlushed e n) := by
  dsimp only [State.countFlushed]
  split
  · exact h.bump
  · exact h.bump
  · exact h

theorem recoverFlushed (h : Grows false s t) {held} : Grows false s (t.recoverFlushed held) :=
  (Grows.branch (h.foldl fun _ _ h => h.enqueue).modLink (h.foldl fun _ _ h => h.enqueue)).foldl fun _ _ h1 => .branch h1 h1.putTrc

theorem enterActive (h : Grows false s t) {e fresh rxNext peerFresh peerActive} :
    Grows false s (t.enterActive e fresh rxNext peerFresh peerActive) := by
  unfold State.enterActive
  extract_lets l s₁ s₂ n s₃ s₄ s₅ s₆
  have h₂ : Grows false s s₂ := h.countFlushed.modLink
  have h₃ : Grows false s s₃ := by
    refine .branch ?_ h.modLink
    split
    · exact h₂.recoverFlushed
    · extract_lets u₁ u₂
      have hu : Grows false s u₁ := .branch h₂.flushZx h₂
      exact (Grows.branch hu.wtZxOff hu).zxFirst
    · exact h₂.setPort
  have h₆ : Grows false s s₆ := h₃.modLink.setLstate.modLink
  split
  · exact h₆.setPstate.sendHello
  · exact h₆.sendHwReqs.resendUnacked
  · exact h₆

theorem linkResetDone (h : Grows false s t) {e} : Runs false s (execLinkResetDone e t) :=
  .branch (.branch (.done h.enterActive) (.done h.setLstate)) (.done h)

theorem linkLockDone (h : Grows z s t) {e} : Runs z s (execLinkLockDone e t) :=
  .branch (.done h.modLink.setLstate) (.done h)

theorem linkAlignDone (h : Grows z s t) {e a} : Runs z s (execLinkAlignDone e a t) :=
  .branch (.done h.modLink.setLstate) (.done h)

theorem linkParamDone (h : Grows false s t) {e lane0 lane3 rxNext peer} : Runs false s (execLinkParamDone e lane0 lane3 rxNext peer t) :=
  .branch (.branch (.done (Grows.branch h h.viol).enterActive) (.done h.viol.failAttempt)) (.done h)

theorem linkTrainTimeout (h : Grows z s t) {e} : Runs z s (execLinkTrainTimeout e t) := by
  dsimp only [execLinkTrainTimeout]
  split
  · exact .done h.failAttempt
  · exact .done h.failAttempt
  · exact .done h.failAttempt
  · exact .done h

theorem linkDownHoldExpiry (h : Grows z s t) {e} : Runs z s (execLinkDownHoldExpiry e t) :=
  .branch (.done h.modLink.setLstate) (.done h)

theorem linkLockLoss (h : Grows z s t) {e locks} : Runs z s (execLinkLockLoss e locks t) :=
  .done (.branch h h.modLink.retrain)

theorem linkMarkerMiss (h : Grows z s t) {m} : Runs z s (execLinkMarkerMiss m t) :=
  .branch (.done h) (.branch (.done h.modLink.retrain) (.done h.modLink))

theorem linkNoFlitTimeout (h : Grows z s t) {e} : Runs z s (execLinkNoFlitTimeout e t) :=
  .done h.retrain

theorem zxStmRetrainWrite (h : Grows z s t) {v} : Runs z s (execZxStmRetrainWrite v t) :=
  .done (.branch h.retrain h)

theorem stemPortRetrainWrite (h : Grows z s t) {p} : Runs z s (execStemPortRetrainWrite p t) :=
  .done (.branch h.retrain h)

theorem stemPortHoldWrite (h : Grows z s t) {p hold} : Runs z s (execStemPortHoldWrite p hold t) :=
  .done (.branch h.setHold h)

theorem cnpPortRetrainWrite (h : Grows z s t) {q} : Runs z s (execCnpPortRetrainWrite q t) :=
  .done (.branch h.retrain h)

theorem cnpPortHoldWrite (h : Grows z s t) {q hold} : Runs z s (execCnpPortHoldWrite q hold t) :=
  .done (.branch h.setHold h)

theorem stemPortCtrl (h : Grows z s t) {c} : Runs z s (execStemPortCtrl c t) :=
  .done (h.checked (.branch h.reply (Grows.branch (Grows.branch h.wr.setHold h.wr).retrain (.branch h.wr.setHold h.wr)).reply))

theorem nak (h : Grows z s t) {e} : Grows z s (t.nak e) :=
  .branch h h.modLink

theorem applyAck (h : Grows z s t) {e a} : Grows z s (t.applyAck e a) :=
  .branch h.modLink (.branch h h.viol)

theorem resendDue (h : Grows z s t) {e from_} : Grows z s (t.resendDue e from_) :=
  .branch h (.branch h.retrain h.modLink)

theorem reassemble (h : Grows z s t) {e h' payload} : Grows z s (t.reassemble e h' payload) := by
  dsimp only [State.reassemble]
  refine .branch h.modLink.malformed ?_
  split
  · exact .branch h.modLink.malformed (.branch (.branch h.modLink h.modLink.malformed) (.branch h.modLink h.modLink.malformed))
  · exact .branch h.modLink.malformed (.branch (.branch h.modLink h.modLink.malformed) (.branch h.modLink.malformed (.branch h.modLink h.modLink)))

theorem freeBuf (h : Grows z s t) {q vc} : Grows z s (t.freeBuf q vc) :=
  h.setPort

theorem dropBuf (h : Grows z s t) {e h'} : Grows z s (t.dropBuf e h') := by
  dsimp only [State.dropBuf]
  split
  · exact .branch h h.setPort
  · exact h

theorem canopyContent (h : Grows z s t) {q h' payload} : Grows z s (t.canopyContent q h' payload) := by
  dsimp only [State.canopyContent]
  refine .branch h.bump.violation.freeBuf (.branch h.viol.freeBuf (.branch h.reassemble.freeBuf (.branch h.bump.violation.freeBuf ?_)))
  split
  · next e => exact (h.outPort.snd_eq e).violation.freeBuf
  · next e => exact (h.outPort.snd_eq e).enqueue

theorem deliver (h : Grows z s t) {e h' payload} : Grows z s (t.deliver e h' payload) := by
  dsimp only [State.deliver]
  split
  · exact .branch (Grows.branch h.set h).malformed.dropBuf (.branch (Grows.branch h.set h).setPort
      (.branch (.branch h.set h) (Grows.branch h.set h).setPort.canopyContent))
  · exact .branch h.malformed (.branch h h.reassemble)

theorem countCrc (h : Grows z s t) {e} : Grows z s (t.countCrc e) := by
  dsimp only [State.countCrc]
  split
  · exact h.ls
  · exact h.bump

theorem countSeq (h : Grows z s t) {e} : Grows z s (t.countSeq e) := by
  dsimp only [State.countSeq]
  split
  · exact h.ls
  · exact h.bump

theorem creditViol (h : Grows z s t) {e} : Grows z s (t.creditViol e) :=
  h.bump.countViol.violation.nak.escalate

theorem receiveUnseq (h : Grows z s t) {e h' payload} : Grows z s (t.receiveUnseq e h' payload) := by
  unfold State.receiveUnseq
  extract_lets ok s₁ s₂
  have h₁ : Grows z s s₁ := .branch h.applyAck h
  have h₂ : Grows z s s₂ := .branch h₁.ls h₁
  exact .branch h₁.malformed (.branch (.branch h₂.resendDue h₂) (.branch h₁.creditViol h₁.deliver))

theorem accept (h : Grows z s t) {e h' payload stomped} : Grows z s (t.accept e h' payload stomped) :=
  .branch h.creditViol (.branch (Grows.branch h.modLink.applyAck h.modLink).dropBuf (Grows.branch h.modLink.applyAck h.modLink).deliver)

theorem receiveSeq (h : Grows z s t) {e h' payload stomped} : Grows z s (t.receiveSeq e h' payload stomped) :=
  .branch h.accept (.branch h.countSeq.nak (.branch (.branch h.modLink.bump h.modLink) h.viol))

theorem headerCredit (h : Grows z s t) {e h'} : Grows z s (t.headerCredit e h') := by
  dsimp only [State.headerCredit]
  split
  · exact h.setPort
  · exact h

theorem receive (h : Grows z s t) {e bs} : Grows z s (t.receive e bs) := by
  dsimp only [State.receive]
  split
  · exact h.countCrc.nak
  · exact .branch (Grows.branch h.modLink.bump h.modLink.headerCredit).receiveSeq
      (.branch (Grows.branch h.modLink.bump h.modLink.headerCredit).dropBuf (Grows.branch h.modLink.bump h.modLink.headerCredit).receiveUnseq)

theorem flitIn (h : Grows z s t) {e bs} : Grows z s (t.flitIn e bs) := by
  dsimp only [State.flitIn]
  split
  · exact .branch h.receive (.branch h.crossIn.receive h.crossIn.nak)
  · exact h.receive

theorem flitReceive (h : Grows z s t) {e words} : Runs z s (execFlitReceive e words t) :=
  .branch (.done (h.rxFlit.pcs.foldl fun _ _ h => h.flitIn)) (.done h)

theorem nakTimerExpiry (h : Grows z s t) {e} : Runs z s (execNakTimerExpiry e t) :=
  .done h.modLink

theorem replayTimerExpiry (h : Grows z s t) {e} : Runs z s (execReplayTimerExpiry e t) :=
  .branch (.done h.resendDue) (.done h)

theorem ackTimerExpiry (h : Grows z s t) {e} : Runs z s (execAckTimerExpiry e t) :=
  .done h.modLink

/-! ### Warden -/

theorem begin (h : Grows z s t) {op c relay} : Grows z s (t.begin op c relay) :=
  h.set

theorem dispatchCap (h : Grows z s t) {h' c host} : Grows z s (t.dispatchCap h' c host) := by
  dsimp only [State.dispatchCap]
  split
  · exact .branch (Grows.branch h.begin.bump h.begin).reply.violation (Grows.branch h.begin.bump h.begin).reply
  · exact .branch h.begin.sendMsg (.branch h.begin.toZx h.begin)

theorem haltQp (h : Grows z s t) {i err row} : Grows z s (t.haltQp i err row) :=
  h.wr.wr.violation

theorem sqDoorbell (h : Grows z s t) {f q tail} : Runs z s (execSqDoorbell f q tail t) :=
  .branch (.done h) (.branch (.done h.wr.haltQp) (.done h.wr))

theorem cqHeadWrite (h : Grows z s t) {f q head} : Runs z s (execCqHeadWrite f q head t) :=
  .branch (.done h) (.branch (.done h.wr.haltQp) (.done h.wr))

theorem evHeadWrite (h : Grows z s t) {f head} : Runs z s (execEvHeadWrite f head t) :=
  .branch (.done h) (.branch (.done h.bump.violation) (.done h.wr.ringService))

theorem qpEnable (h : Grows z s t) {f q} : Runs z s (execQpEnable f q t) :=
  .branch (.done h) (.done h.wr.wr.wr.wr.wr.set)

theorem disableQp (h : Grows z s t) {i} : Grows z s (t.disableQp i) :=
  h.wr.wr.bump.set

theorem qpDisable (h : Grows z s t) {f q} : Runs z s (execQpDisable f q t) :=
  .branch (.done h) (.done h.disableQp)

theorem disableRing (h : Grows z s t) {f} : Grows z s (t.disableRing f) :=
  h.wr.setRing

theorem flr (h : Grows z s t) {f} : Runs z s (execFlr f t) :=
  .branch (.done h) (.done ((h.foldl fun _ _ h => h.disableQp).disableRing.foldl fun _ _ h1 => .branch h1.setHbm.wr.wr h1).postAll)

theorem served (h : Grows z s t) {f q} : Grows z s (t.served f q) :=
  h.set

theorem capsuleFetch (h : Grows z s t) {ws block data err poison host} : Runs z s (execCapsuleFetch ws block data err poison host t) := by
  dsimp only [execCapsuleFetch]
  split
  · exact .done h
  · exact .branch (.done h.haltQp) (.branch (.done h.wr.served.bump.bump.bump.signal) (.done h.wr.served.bump.dispatchCap))

theorem endProg (h : Grows z s t) {r} : Grows z s (t.endProg r) :=
  h.set

theorem writeReply (h : Grows z s t) {cqErr} : Grows z s (t.writeReply cqErr) := by
  dsimp only [State.writeReply]
  split
  · exact h
  · refine .branch h.set ?_
    split
    · exact .branch (.haltQp (by split; exacts [h.set.endProg, h.set.endProg.emit]))
        (.branch (.emit (.set (.wr (.emit (by split; exacts [h.set.endProg, h.set.endProg.emit])))))
        (.set (.wr (.emit (by split; exacts [h.set.endProg, h.set.endProg.emit])))))
    · exact h.set.endProg.set.foldl fun _ _ h => h.emit
    · exact h.set.endProg.sendMsg
    · exact h.set.endProg

theorem capsuleReply (h : Grows z s t) {cqErr} : Runs z s (execCapsuleReply cqErr t) :=
  .done h.writeReply

theorem writeReplies (h : Grows z s t) : Grows z s t.writeReplies :=
  h.foldl fun _ _ h => h.writeReply

theorem execTimeout (h : Grows z s t) : Runs z s (execExecTimeout t) :=
  .done (h.foldl fun _ _ h => h.reply)

theorem relayFail (h : Grows z s t) {p} : Grows z s (t.relayFail p) :=
  (h.foldl fun _ _ h => h.reply).set

theorem relayTimeout (h : Grows z s t) : Runs z s (execRelayTimeout t) :=
  .done h.relayFail

theorem relayedCapsuleReceive (h : Grows z s t) {e src ws block data} : Runs z s (execRelayedCapsuleReceive e src ws block data t) :=
  .done h.consume.dispatchCap

theorem relayedReplyReceive (h : Grows z s t) {e src ws} : Runs z s (execRelayedReplyReceive e src ws t) := by
  dsimp only [execRelayedReplyReceive]
  split
  · exact .done h.consume
  · exact .done h.consume.set.reply

theorem eventPost (h : Grows z s t) {f kind body} : Runs z s (execEventPost f kind body t) :=
  .done (.branch h.post h)

theorem mctpViol (h : Grows z s t) {row} : Grows z s (t.mctpViol row) := by
  dsimp only [State.mctpViol]
  exact .violation (by split <;> exact h.bump)

theorem mctpCapsule (h : Grows z s t) {m} : Grows z s (t.mctpCapsule m) :=
  .branch h.mctpViol (Grows.branch h.set.mctpViol h.set).dispatchCap

theorem mctpMessage (h : Grows z s t) {m} : Grows z s (t.mctpMessage m) :=
  .branch h.mctpCapsule (.branch h h.mctpViol)

theorem mctpMessageCmd (h : Grows z s t) {pecOk som eom seq body} : Runs z s (execMctpMessage pecOk som eom seq body t) := by
  dsimp only [execMctpMessage]
  refine .branch (.done h.mctpViol) ?_
  split
  · exact .done h.set.mctpViol
  · exact .branch (.done h.set.mctpViol) (.branch (.done h.set.mctpMessage) (.done h.set))

theorem mctpControl (h : Grows z s t) {code fields} : Grows z s (t.mctpControl code fields) :=
  h.emit

theorem setEndpointId (h : Grows z s t) {eid} : Runs z s (execSetEndpointId eid t) :=
  .done h.set.mctpControl

theorem getEndpointId (h : Grows z s t) : Runs z s (execGetEndpointId t) :=
  .done h.mctpControl

theorem getEndpointUuid (h : Grows z s t) : Runs z s (execGetEndpointUuid t) :=
  .done h.mctpControl

theorem getMctpVersionSupport (h : Grows z s t) {ty} : Runs z s (execGetMctpVersionSupport ty t) :=
  .done h.mctpControl

theorem getMessageTypeSupport (h : Grows z s t) : Runs z s (execGetMessageTypeSupport t) :=
  .done h.mctpControl

theorem sysNop (h : Grows z s t) {c} : Runs z s (execSysNop c t) :=
  .done (h.checked h.reply)

theorem sysInfo (h : Grows z s t) {c} : Runs z s (execSysInfo c t) :=
  .done (h.checked h.reply)

theorem sysStatus (h : Grows z s t) {c} : Runs z s (execSysStatus c t) :=
  .done (h.checked h.reply)

theorem setFw (h : Grows z s t) {fw} : Grows z s (t.setFw fw) :=
  h.set

theorem fwFinish (h : Grows z s t) {img} : Grows z s (t.fwFinish img).2 := by
  dsimp only [State.fwFinish]
  exact .branchSnd (.pair (Grows.branch h.setFw.wr h.setFw).wr) (.pair (Grows.branch h.setFw.wr h.setFw).wr)

theorem fwPiece (h : Grows z s t) {off bs} : Grows z s (t.fwPiece off bs).2 := by
  dsimp only [State.fwPiece]
  refine .branchSnd (.pair h) ?_
  split
  · exact h.setFw
  · exact .branchSnd (Grows.branch (Grows.branch h.wr h).setFw.wr (Grows.branch h.wr h).setFw).fwFinish
      (.pair (.branch (Grows.branch h.wr h).setFw.wr (Grows.branch h.wr h).setFw))

theorem wardenStart (h : Grows z s t) {cause} : Grows z s (t.wardenStart cause) :=
  .branch ((Grows.branch (.branch h.setFw.wr.wr.wr.wr.setFw.set.signal h.setFw.wr.wr.wr.wr.setFw.set)
    (Grows.branch h.setFw.wr.wr.wr.wr.setFw.set.signal h.setFw.wr.wr.wr.wr.setFw.set).postAll).foldl fun _ _ h1 => .branch h1.ringService h1)
    h.setFw.wr.wr.signal

theorem fwUpdate (h : Grows z s t) {c} : Runs z s (execFwUpdate c t) := by
  dsimp only [execFwUpdate]
  refine .done (h.checked ?_)
  refine .branch (.branch h.fwPiece.reply.wardenStart h.fwPiece.reply) (.branch h.reply ?_)
  split
  · exact h.reply
  · exact h.fwFinish.reply

theorem fwActivate (h : Grows z s t) {c} : Runs z s (execFwActivate c t) :=
  .done (h.checked (.branch h.reply (.branch h.reply h.reply.setFw)))

theorem fwInfo (h : Grows z s t) {c} : Runs z s (execFwInfo c t) :=
  .done (h.checked h.reply)

theorem wardenRestart (h : Grows z s t) : Runs z s (execWardenRestart t) :=
  .done (Grows.branch (h.foldl fun _ _ h => h.reply) h).wardenStart

theorem bootMailboxGo (h : Grows z s t) : Runs z s (execBootMailboxGo t) :=
  .branch (.done h) (.done (.branch ((Grows.branchSnd h.fwPiece (.branchSnd (.pair h) (.pair h.bump))).foldl fun _ _ h => h.wr).wr.wardenStart
    ((Grows.branchSnd h.fwPiece (.branchSnd (.pair h) (.pair h.bump))).foldl fun _ _ h => h.wr).wr))

/-! ### FabricOps -/

theorem evictRecords (h : Grows z s t) : Grows z s t.evictRecords :=
  h.set

theorem epochAnswer (h : Grows z s t) {c u} (e : t.epochAnswer c = some u) : Grows z s u := by
  unfold State.epochAnswer at e
  extract_lets n view wm old give at e
  split at e
  · cases e; exact h.reply
  split at e
  · cases e; exact h.reply
  split at e
  · cases e
  split at e
  · cases e; exact h.reply
  split at e
  · split at e
    · cases e; exact h.replyBlob
    · cases e; exact h.reply
  split at e
  · cases e; exact h.reply
  split at e
  · cases e; exact h.replyBlob
  · cases e; exact h.reply

theorem answerWaits (h : Grows z s t) : Grows z s t.answerWaits := by
  dsimp only [State.answerWaits]
  exact h.foldl fun _ _ h1 => by split; exacts [h1, (h1.epochAnswer ‹_›).set]

theorem putRecord (h : Grows z s t) {b} : Grows z s (t.putRecord b) := by
  dsimp only [State.putRecord]
  split
  · exact h.set
  · exact .branch h h.set

theorem toChildren (h : Grows z s t) {ty sub vc body epoch rec} : Grows z s (t.toChildren ty sub vc body epoch rec) :=
  h.foldl fun _ _ h => h.sendMsg

theorem announce (h : Grows z s t) {n} : Grows z s (t.announce n) :=
  (h.foldl fun _ _ h1 => h1.toChildren).toChildren

theorem refreshRoles (h : Grows z s t) : Grows z s t.refreshRoles := by
  dsimp only [State.refreshRoles]
  split
  · exact h.wr.wr.wr
  · exact h.wr.wr.wr.wr.wr

theorem resendPartials (h : Grows z s t) {old} : Grows z s (t.resendPartials old) := by
  dsimp only [State.resendPartials]
  exact h.foldl fun _ _ h1 => by split; exacts [h1, .branch h1 h1.sendMsg.bump]

theorem advanceWm (h : Grows z s t) {k} : Grows z s (advanceWm k t) := by
  induction k generalizing t with
  | zero => exact h
  | succ k ih => exact .branch (ih h.wr) h

theorem becomeRoot (h : Grows z s t) {lost was} : Grows z s (t.becomeRoot lost was) := by
  dsimp only [State.becomeRoot]
  exact ((Grows.branch (h.foldl fun _ _ h => h.putRecord) (by split; exacts [h.foldl fun _ _ h => h.putRecord,
    (h.foldl fun _ _ h => h.putRecord).wr.wr])).advanceWm.set.foldl fun _ _ h => h.announce).answerWaits

theorem unmirrored (h : Grows z s t) : Grows z s t.unmirrored :=
  h.wr.signal.alarmUp

theorem switchMirror (h : Grows z s t) {lost} : Grows z s (t.switchMirror lost) := by
  dsimp only [State.switchMirror]
  split
  · exact h.set.set.unmirrored
  · exact (h.set.set.foldl fun _ _ h => by split; exacts [h.mirror, h.mirror.set]).set.wr.unmirrored

theorem keepReceived (h : Grows z s t) {p} : Grows z s (t.keepReceived p) :=
  h.set.mirror

theorem standInSnap (h : Grows z s t) {a items d n b} : Grows z s (t.standInSnap a items d n b) := by
  dsimp only [State.standInSnap]
  refine .branch h (.branch h.bump (.branch (.branch ?_ h.countRow.recomputePartial) h.countRow))
  split
  · exact h.countRow
  · exact .branch h.countRow.bump h.countRow.keepReceived.setCtx

theorem standIn (h : Grows z s t) {a} : Grows z s (t.standIn a) := by
  dsimp only [State.standIn]
  split
  · exact (h.set.foldl fun _ _ h => by split; exacts [h.standInSnap, h]).set
  · exact (h.set.foldl fun _ _ h => by split; exacts [h.standInSnap, h]).set.sendDigests

theorem setPeer (h : Grows z s t) {a p} : Grows z s (t.setPeer a p) :=
  h.set

theorem lostEffects (h : Grows z s t) {a} : Grows z s (t.lostEffects a) := by
  unfold State.lostEffects
  extract_lets oldParent wasRoot root0 cnp s₁ s₂ mine s₃ s₄ s₅ now s₆
  have h₃ : Grows z s s₃ := h.set.relayFail.refreshRoles
  have h₄ : Grows z s s₄ := .branch h₃.switchMirror h₃
  have h₅ : Grows z s s₅ := .branch h₄.standIn h₄
  have h₆ : Grows z s s₆ := .branch h₅.becomeRoot h₅
  exact h₆.resendPartials

theorem takeLost (h : Grows z s t) {a boot ep} : Grows z s (t.takeLost a boot ep) :=
  .branch h.setPeer.lostEffects h

theorem takeBack (h : Grows z s t) {a boot ep} : Grows z s (t.takeBack a boot ep) :=
  .branch (Grows.branch (Grows.branch h.setPeer.set.set.wr.refreshRoles h.setPeer.set.refreshRoles).becomeRoot
    (.branch h.setPeer.set.set.wr.refreshRoles h.setPeer.set.refreshRoles)).resendPartials h

theorem declareLost (h : Grows z s t) {a} : Grows z s (t.declareLost a) :=
  h.bump.signal.broadcastAlarm.takeLost

theorem declareBack (h : Grows z s t) {a boot} : Grows z s (t.declareBack a boot) :=
  h.broadcastAlarm.takeBack

theorem sendRestore (h : Grows z s t) {a} : Grows z s (t.sendRestore a) :=
  .branch h h.sendMsg

/-! ### CfgOps -/

theorem sendCfg (h : Grows z s t) {a m} : Grows z s (t.sendCfg a m) :=
  h.sendMsg

theorem setStaged (h : Grows z s t) {g} : Grows z s (t.setStaged g) :=
  h.set

theorem holdStaged (h : Grows z s t) {g} : Grows z s (t.holdStaged g) := by
  dsimp only [State.holdStaged]
  exact h.setStaged.foldl fun _ _ h1 => by split; exacts [.branch h1.stageZx h1, h1]

theorem resendTo (h : Grows z s t) {a} : Grows z s (t.resendTo a) := by
  dsimp only [State.resendTo]
  split
  · exact h
  · exact h.sendCfg.sendCfg

theorem armRecord (h : Grows z s t) {kind addr gen} : Grows z s (t.armRecord kind addr gen) :=
  h.draw.signal

theorem noteAnswer (h : Grows z s t) {arm kind addr status} : Grows z s (t.noteAnswer arm kind addr status) := by
  dsimp only [State.noteAnswer]
  split
  · refine .branch ?_ h
    split
    · exact (Grows.branch h.armRecord h).resendGen
    · exact .branch (Grows.branch h.armRecord h).resendTo (.branch h.armRecord h)
  · exact .branch h.setStaged.armRecord h.setStaged

theorem localAnswer (h : Grows z s t) {arm kind addr status} : Grows z s (t.localAnswer arm kind addr status) :=
  .branch h.noteAnswer (h.noteAnswer.foldl fun _ _ h => h.sendCfg)

theorem tellScope (h : Grows z s t) : Grows z s t.tellScope := by
  dsimp only [State.tellScope]
  split
  · exact h
  · exact h.foldl fun _ _ h => h.sendCfg

theorem noteScope (h : Grows z s t) {ts} : Grows z s (t.noteScope ts) := by
  dsimp only [State.noteScope]
  split
  · exact h
  · exact h.setStaged

theorem targetsGone (h : Grows z s t) : Grows z s t.targetsGone := by
  dsimp only [State.targetsGone]
  split
  · exact h
  · exact .branch h (h.setStaged.foldl fun _ _ h => h.sendCfg)

theorem dropStaged (h : Grows z s t) {g} : Grows z s (t.dropStaged g) := by
  dsimp only [State.dropStaged]
  exact (h.foldl fun _ _ h1 => by split; exacts [.branch h1.zxInternal h1, h1]).setStaged

theorem restage (h : Grows z s t) : Grows z s t.restage := by
  dsimp only [State.restage]
  split
  · exact h
  · exact h.setStaged.foldl fun _ _ h => by split; exacts [h.stageZx, h]

/-! ### Canopy -/

theorem openPort (h : Grows z s t) {q} : Grows z s (t.openPort q) :=
  .branch h.setPstate h

theorem noticeBoot (h : Grows z s t) {a boot} : Grows z s (t.noticeBoot a boot) :=
  .branch (Grows.branch (Grows.branch h.setPeer.set h.setPeer).declareBack (.branch h.setPeer.set h.setPeer)).sendRestore
    (.branch h.setPeer.set h.setPeer)

theorem resendRejoined (h : Grows z s t) {a} : Grows z s (t.resendRejoined a) :=
  .branch h.resendTo h

theorem helloReceive (h : Grows z s t) {q uid fleet agg partition boot gen} : Runs z s (execHelloReceive q uid fleet agg partition boot gen t) := by
  dsimp only [execHelloReceive]
  refine .branch (.done h.consume) ?_
  split
  · exact .done (Grows.branch h.consume.bump h.consume.bump).setPort.setPstate.violation.signal.alarmUp
  · exact .done (.branch (Grows.branch h.consume.setPort.draw.wr.wr.noticeBoot.sendHello
      h.consume.setPort.draw.wr.wr.noticeBoot).openPort.resendRejoined (Grows.branch h.consume.setPort.draw.wr.wr.noticeBoot.sendHello
      h.consume.setPort.draw.wr.wr.noticeBoot).openPort)

theorem helloResend (h : Grows z s t) {q} : Runs z s (execHelloResend q t) :=
  .branch (.done h.sendHello) (.done h)

theorem lsaReceive (h : Grows z s t) {q l} : Runs z s (execLsaReceive q l t) :=
  .branch (.done h.consume) (.done (h.consume.set.foldl fun _ _ h => h.bump.violation).recompute.passOn.noticeBoot)

theorem lsaRefresh (h : Grows z s t) : Runs z s (execLsaRefresh t) :=
  .branch (.done h.floodLsa) (.done h)

theorem lsaExpiry (h : Grows z s t) : Runs z s (execLsaExpiry t) :=
  .branch (.done h) (.done h.set.recompute)

theorem closeTx (h : Grows z s t) {q b} : Grows z s (t.closeTx q b) :=
  .branch h.setPort h

theorem relayWaitTimeout (h : Grows z s t) {q} : Runs z s (execRelayWaitTimeout q t) := by
  dsimp only [execRelayWaitTimeout]
  exact .done (h.modLink.foldl fun _ _ h => .closeTx (.bump (by split; exacts [h.freeBuf, h])))

theorem holdFence (h : Grows z s t) {p} : Grows z s (t.holdFence p) :=
  h.set

theorem holdUnfence (h : Grows z s t) {p} : Grows z s (t.holdUnfence p) :=
  h.set

theorem broadcastReceive (h : Grows z s t) {q sub src payload} : Runs z s (execBroadcastReceive q sub src payload t) :=
  .branch (.done h.consume) (.done (.branch h.consume.setPeer.passOn.holdFence (.branch h.consume.setPeer.passOn.holdUnfence
    h.consume.setPeer.passOn)))

theorem canopyAlarmReceive (h : Grows z s t) {q sub src payload} : Runs z s (execCanopyAlarmReceive q sub src payload t) := by
  dsimp only [execCanopyAlarmReceive]
  split
  · exact .done h.consume.post
  · refine .branch (.done (Grows.branch h.consume.bump.signal.violation h.consume.bump).setPort) ?_
    split
    · next e => exact .done (h.consume.setPort.outPort.snd_eq e).sendOn
    · next e => exact .done (h.consume.setPort.outPort.snd_eq e)

theorem cutThroughHoldLimit (h : Grows z s t) {q} : Runs z s (execCutThroughHoldLimit q t) := by
  dsimp only [execCutThroughHoldLimit]
  split
  · exact .done h
  · exact .done h.setPort.bump.enqueueFront

theorem e2eRepeat (h : Grows z s t) : Runs z s (execE2eRepeat t) :=
  .done (h.set.set.foldl fun _ _ h => h.sendTo)

theorem ackItems (h : Grows z s t) {id} : Grows z s (t.ackItems id) :=
  h.set

theorem ackAdmit (h : Grows z s t) {id d} : Grows z s (t.ackAdmit id d) :=
  .branch h.setDie.sendAdmit h

theorem ackAlt (h : Grows z s t) {id} : Grows z s (t.ackAlt id) :=
  .branch h (.branch (h.set.wr.foldl fun _ _ h => h.advanceAck) h.set)

theorem mirrorAcked (h : Grows z s t) {id} : Grows z s (t.mirrorAcked id) := by
  dsimp only [State.mirrorAcked]
  exact ((h.ackItems.foldl fun _ _ h => h.advanceAck).foldl fun _ _ h => h.ackAdmit).ackAlt

theorem e2eAckReceive (h : Grows z s t) {q msgId} : Runs z s (execE2eAckReceive q msgId t) :=
  .done (.branch h.consume.set.mirrorAcked h.consume.set)

theorem mirrorReceive (h : Grows z s t) {q src msgId m} : Runs z s (execMirrorReceive q src msgId m t) :=
  .branch (.done h.consume.viol) (.branch (.done h.consume) (.branch (.done h.consume.e2eTake) (.done h.consume.e2eTake.set)))

theorem heartbeatSend (h : Grows z s t) : Runs z s (execHeartbeatSend t) :=
  .branch (.done (h.set.foldl fun _ _ h => h.sendMsg)) (.done h)

theorem heartbeatReceive (h : Grows z s t) {q src boot role epoch wm} : Runs z s (execHeartbeatReceive q src boot role epoch wm t) :=
  .done h.consume.noticeBoot.setPeer

theorem peerLostDeclare (h : Grows z s t) {a} : Runs z s (execPeerLostDeclare a t) := by
  dsimp only [execPeerLostDeclare]
  split
  · exact .done h
  · exact .branch (.done h.declareLost) (.done h)

theorem peerLostReceive (h : Grows z s t) {a boot ep} : Runs z s (execPeerLostReceive a boot ep t) :=
  .done h.takeLost

theorem peerBackReceive (h : Grows z s t) {a boot ep} : Runs z s (execPeerBackReceive a boot ep t) :=
  .done (.branch h.takeBack.resendRejoined h.takeBack)

theorem peerDeclare (h : Grows z s t) {c} : Runs z s (execPeerDeclare c t) :=
  .done (h.checked (.branch h.reply (Grows.branch h.declareLost h.declareBack).reply))

theorem firebreakFence (h : Grows z s t) {c} : Runs z s (execFirebreakFence c t) :=
  .done (h.checked (.branch h.reply (.branch h.reply h.set.broadcastAlarm.reply)))

theorem dropFenced (h : Grows z s t) {q} : Grows z s (t.dropFenced q) := by
  dsimp only [State.dropFenced]
  exact h.modLink.foldl fun _ _ h => .closeTx (.bump (by split; exacts [h.freeBuf, h]))

theorem assertFence (h : Grows z s t) {x} : Grows z s (t.assertFence x) :=
  .branch (h.wr.foldl fun _ _ h1 => .branch h1.setPstate.dropFenced h1) h

theorem fenceInstant (h : Grows z s t) : Runs z s (execFenceInstant t) :=
  .done (h.set.foldl fun _ _ h => h.assertFence)

theorem firebreakClear (h : Grows z s t) {c} : Runs z s (execFirebreakClear c t) :=
  .done (h.checked (.branch h.reply (.branch h.reply (.branch h.reply h.set.broadcastAlarm.reply))))

theorem liftDie (h : Grows z s t) {addr} : Grows z s (t.liftDie addr) :=
  .branch h.setDie.wr.wr h

theorem rejoin (h : Grows z s t) : Grows z s t.rejoin :=
  h.wr

theorem liftPart (h : Grows z s t) {p} : Grows z s (t.liftPart p) :=
  .branch ((Grows.branch (h.wr.foldl fun _ _ h1 => .branch h1.setPstate h1).rejoin (h.wr.foldl fun _ _ h1 => .branch h1.setPstate h1)).foldl fun _ _
    h => h.assignInc).set.recomputeAll (.branch (h.wr.foldl fun _ _ h1 => .branch h1.setPstate h1).rejoin
    (h.wr.foldl fun _ _ h1 => .branch h1.setPstate h1))

theorem unfenceInstant (h : Grows z s t) : Runs z s (execUnfenceInstant t) :=
  .done (h.set.foldl fun _ _ h1 => .branch h1.liftPart h1.liftDie)

theorem canopyIdentSet (h : Grows z s t) {c} : Runs z s (execCanopyIdentSet c t) :=
  .done (h.checked (.branch h.reply (.branch h.reply h.wr.wr.wr.reply)))

theorem canopyPortCtrl (h : Grows z s t) {c} : Runs z s (execCanopyPortCtrl c t) := by
  refine .done (h.checked ?_)
  extract_lets q s₁ s₂ s₃ s₄ s₅
  have h₂ : Grows z s s₂ := .branch h.wr.setHold h.wr
  have h₃ : Grows z s s₃ := .branch h₂.retrain h₂
  have h₅ : Grows z s s₅ := .branch (.branch h₃.wr.setPstate h₃.wr) h₃.wr.openPort
  exact .branch h.reply h₅.reply

theorem canopyTopoRead (h : Grows z s t) {c} : Runs z s (execCanopyTopoRead c t) :=
  .done (h.checked h.reply)

theorem fabricStatus (h : Grows z s t) {c} : Runs z s (execFabricStatus c t) :=
  .done (h.checked h.reply)

/-! ### Memory -/

theorem hbmWrite (h : Grows z s t) {a bs x} : Grows z s (t.hbmWrite a bs x) :=
  h.setHbm (hbmWrite_wf t a bs x)

theorem hbmPoison (h : Grows z s t) {a n} : Grows z s (t.hbmPoison a n) :=
  h.setHbm

theorem hbmWipe (h : Grows z s t) {a n} : Grows z s (t.hbmWipe a n) :=
  h.setHbm (hbmWipe_wf t a n)

theorem xlFault (h : Grows z s t) {source space va cause} : Grows z s (t.xlFault source space va cause) :=
  .branch h.wr.wr.wr.wr.bump.detect h.wr.wr.wr.wr.bump

theorem translate (h : Grows z s t) {source space va write} : Grows z s (t.translate source space va write).2 := by
  dsimp only [State.translate]
  split
  · exact .branchSnd (.pair h) (.pair h.xlFault)
  · split
    · exact h.bump.xlFault
    · exact h.bump.setHbm

theorem tlbInval (h : Grows z s t) {space va len} : Grows z s (t.tlbInval space va len) :=
  h.setHbm

theorem vaRange (h : Grows z s t) {source space va n write} : Grows z s (t.vaRange source space va n write).2 :=
  h.foldlSnd fun _ _ hp => by dsimp only; split; exacts [hp, by split <;> exact hp.translate]

theorem writePieces (h : Grows z s t) {ps bs} : Grows z s (t.writePieces ps bs) :=
  h.foldlFst fun _ _ hp => hp.hbmWrite

theorem memLayoutSet (h : Grows z s t) {c} : Runs z s (execMemLayoutSet c t) :=
  .done (h.checked (.branch h.reply (.branch h.reply (h.foldl fun _ _ h => h.wr).reply)))

theorem setPartition (h : Grows z s t) {t' base count} : Grows z s (t.setPartition t' base count) :=
  (h.foldl fun _ _ h1 => h1.hbmWipe).bump.wr.wr.wr.wr

theorem xlateInval (h : Grows z s t) {c} : Runs z s (execXlateInval c t) :=
  .done (h.checked (.branch h.reply h.tlbInval.reply))

theorem xlateProbe (h : Grows z s t) {c} : Runs z s (execXlateProbe c t) := by
  dsimp only [execXlateProbe]
  refine .done (h.checked ?_)
  refine .branch h.reply ?_
  split <;> exact h.reply

theorem hbmError (h : Grows z s t) {a} : Grows z s (t.hbmError a) :=
  h.draw.hbmPoison.bump.detect

/-! ### BxBlaze -/

theorem bxInject (h : Grows z s t) {u b} : Grows z s (t.bxInject u b).2 := by
  dsimp only [State.bxInject]
  split
  · next e => exact h.wtEvent.snd_eq e
  · next e => exact .branchSnd (.pair (h.wtEvent.snd_eq e)) (.pair (h.wtEvent.snd_eq e))

theorem bxCondemn (h : Grows z s t) {u b} : Grows z s (t.bxCondemn u b) := by
  dsimp only [State.bxCondemn]
  exact .signal (.alarmUp (by split; exacts [h, .branch h.hbmPoison h]))

theorem bxPass (h : Grows z s t) {u b} : Grows z s (t.bxPass u b).2 := by
  dsimp only [State.bxPass]
  exact .branchSnd (.pair h.bxInject.blzCount.blzLast) (.pair (Grows.branch h.bxInject.bump h.bxInject).blzCount.blzLast)

theorem bxForm (h : Grows z s t) {u fmt b} : Grows z s (t.bxForm u fmt b) :=
  .branch h (.branch h.blzCount (.branch h.blzCount.emit.bump h.blzCount.emit))

theorem bxJudge (h : Grows z s t) {u b} : Grows z s (t.bxJudge u b).2 := by
  unfold State.bxJudge
  extract_lets r₁ r₂ r₃
  have h₁ : Grows z s r₁.2 := h.bxPass
  have h₂ : Grows z s r₂.2 := .branchSnd h₁.bxPass h₁
  have h₃ : Grows z s r₃.2 := .branchSnd h₂.bxPass h₂
  exact .branchSnd (.pair h) (.branchSnd (.pair h₃.blzCount.blzLast) (.branchSnd (.pair h₃.bxCondemn) h₃))

/-! ### TraceStore -/

theorem setTrs (h : Grows z s t) {id x} : Grows z s (t.setTrs id x) :=
  h.setHbm

theorem closeBuf (h : Grows z s t) {id} : Grows z s (t.closeBuf id) :=
  .branch h h.setTrs

theorem loseInput (h : Grows z s t) {id n} : Grows z s (t.loseInput id n) :=
  h.setTrs.bump

theorem appendRec (h : Grows z s t) {id r} : Grows z s (t.appendRec id r) :=
  .branch h.loseInput (.branch h.setTrs.closeBuf h.setTrs)

theorem appendDump (h : Grows z s t) {id bs} : Grows z s (t.appendDump id bs) :=
  .branch h.loseInput h.appendRec.appendRec

theorem trsInput (h : Grows z s t) {p k rs} : Grows z s (t.trsInput p k rs) :=
  .branch h.bump (.branch h.appendDump (h.foldl fun _ _ h => h.appendRec))

theorem gaugeInput (h : Grows z s t) {p b} : Grows z s (t.gaugeInput p b) :=
  .branch h.bump (h.foldlSnd fun _ _ hp => (Grows.branch hp.bump hp).setTrs).appendRec

theorem trsHistory (h : Grows z s t) {n present} : Grows z s (t.trsHistory n present) :=
  h.foldl fun _ _ h => h.trsInput.gaugeInput

theorem putIdx (h : Grows z s t) {ws} : Grows z s (t.putIdx ws) :=
  h.hbmWrite.wr

theorem putGap (h : Grows z s t) {id} : Grows z s (t.putGap id) :=
  .branch h h.setTrs.putIdx

theorem makeGap (h : Grows z s t) {n lost} : Grows z s (t.makeGap n lost) :=
  h.hbmWrite

theorem overwriteOne (h : Grows z s t) {draining n u} (e : t.overwriteOne draining n = some u) : Grows z s u := by
  unfold State.overwriteOne at e
  split at e
  · cases e
  · obtain ⟨x, -, rfl⟩ := Option.map_eq_some_iff.mp e
    extract_lets a
    split
    next e => exact ((Grows.branchSnd h.draw (.pair h)).snd_eq e).makeGap.bump

theorem overwrite (h : Grows z s t) {draining n k} : Grows z s (overwrite draining n k t) := by
  induction k generalizing t with
  | zero => exact h
  | succ k ih =>
    unfold Machine.overwrite
    split
    · exact h
    · next e => exact ih (h.overwriteOne e)

theorem makeRoom (h : Grows z s t) {n} : Grows z s (t.makeRoom n) :=
  .branch h.overwrite h

theorem codecLost (h : Grows z s t) {id b} : Grows z s (t.codecLost id b) :=
  h.setTrs.bump.putGap

theorem codecPut (h : Grows z s t) {id u poisoned seq b r o} : Grows z s (t.codecPut id u poisoned seq b r o) :=
  h.hbmWrite.setHbm.putIdx.bump

theorem codecStore (h : Grows z s t) {id u poisoned seq b r} : Grows z s (t.codecStore id u poisoned seq b r) := by
  dsimp only [State.codecStore]
  cases t.blkRoom (ceilDiv r.2.1.length 64) with
  | none => exact h.codecLost
  | some o => exact h.codecPut

theorem codecCount (h : Grows z s t) {poisoned r} : Grows z s (t.codecCount poisoned r) :=
  (Grows.branch h.bump.bump h.bump).makeRoom

theorem codecBlock (h : Grows z s t) {id u poisoned} : Runs z s (execCodecBlock id u poisoned t) := by
  dsimp only [execCodecBlock]
  split
  · exact .done h
  · exact .done h.setTrs.putGap.codecCount.codecStore

theorem stagingFlush (h : Grows z s t) {id} : Runs z s (execStagingFlush id t) :=
  .branch (.done h) (.done h.closeBuf)

theorem traceReceive (h : Grows z s t) {p sub bs} : Runs z s (execTraceReceive p sub bs t) :=
  .branch (.done h.consume) (.done (Grows.branch h.consume.signal h.consume).trsInput)

theorem closeGauges (h : Grows z s t) : Grows z s t.closeGauges :=
  h.foldl fun _ _ h => h.closeBuf

theorem traceStoreSet (h : Grows z s t) {c} : Runs z s (execTraceStoreSet c t) :=
  .done (h.checked (.branch h.reply ((Grows.branch h.closeGauges h).foldl fun _ _ h => h.wr).reply))

theorem traceStoreStatus (h : Grows z s t) {c} : Runs z s (execTraceStoreStatus c t) :=
  .done (h.checked h.reply)

/-! ### Dma -/

theorem setChan (h : Grows z s t) {c x} : Grows z s (t.setChan c x) :=
  h.setHbm

theorem dmaSettle (h : Grows z s t) {c} : Grows z s (t.dmaSettle c) :=
  h.wr

theorem dmaNext (h : Grows z s t) {c} : Grows z s (t.dmaNext c) :=
  h.wr.setChan.dmaSettle

theorem dmaComplete (h : Grows z s t) {c d off status cause va} : Grows z s (t.dmaComplete c d off status cause va) :=
  (Grows.branch h.emit.emit h.emit).wr.wr

theorem dmaHalt (h : Grows z s t) {c d status cause va} : Grows z s (t.dmaHalt c d status cause va) :=
  .branch h.dmaComplete.wr.bump.setChan.bump.violation (.branch h.dmaComplete.wr.bump.setChan.violation
    (.branch h.dmaComplete.wr.bump.setChan.bump h.dmaComplete.wr.bump.setChan))

theorem dmaOk (h : Grows z s t) {c d} : Grows z s (t.dmaOk c d) :=
  h.dmaComplete.dmaNext

theorem pickChan (h : Grows z s t) : Grows z s (t.pickChan).2 := by
  dsimp only [State.pickChan]
  split
  · exact h
  · exact h.setHbm

theorem useGrant (h : Grows z s t) {c} : Grows z s (t.useGrant c) :=
  h.set

theorem chunkDone (h : Grows z s t) {c d n} : Grows z s (t.chunkDone c d n) :=
  .branch h.setChan.wr.dmaOk h.setChan.wr

theorem dmaVa (h : Grows z s t) {c va write} : Grows z s (t.dmaVa c va write).2 := by
  dsimp only [State.dmaVa]
  refine .branchSnd (.pair h) ?_
  split <;> exact h.translate

theorem chunkH2d (h : Grows z s t) {c d n host} : Grows z s (t.chunkH2d c d n host) := by
  dsimp only [State.chunkH2d]
  split
  · next e => exact (h.dmaVa.snd_eq e).dmaHalt
  · next e =>
    split
    · exact (h.dmaVa.snd_eq e).dmaHalt
    · exact .branch (h.dmaVa.snd_eq e).hbmWrite.dmaHalt (h.dmaVa.snd_eq e).hbmWrite.chunkDone

theorem chunkD2h (h : Grows z s t) {c d n} : Grows z s (t.chunkD2h c d n) := by
  dsimp only [State.chunkD2h]
  split
  · next e => exact (h.dmaVa.snd_eq e).dmaHalt
  · next e => exact .branch (h.dmaVa.snd_eq e).dmaHalt (h.dmaVa.snd_eq e).emit.chunkDone

theorem chunkCopy (h : Grows z s t) {c d n} : Grows z s (t.chunkCopy c d n) := by
  dsimp only [State.chunkCopy]
  split
  · next e => exact (h.dmaVa.snd_eq e).dmaHalt
  · next e =>
    split
    · next e2 => exact ((h.dmaVa.snd_eq e).dmaVa.snd_eq e2).dmaHalt
    · next e2 => exact .branch ((h.dmaVa.snd_eq e).dmaVa.snd_eq e2).dmaHalt ((h.dmaVa.snd_eq e).dmaVa.snd_eq e2).hbmWrite.chunkDone

theorem drainEntry (h : Grows z s t) {c d n u} : Grows z s (t.drainEntry c d n u) :=
  .branch h.dmaHalt (.branch (Grows.branchSnd (.pair h) h.bxJudge).dmaHalt (.branch (Grows.branchSnd (.pair h) h.bxJudge).dmaHalt
    (Grows.branchSnd (.pair h) h.bxJudge).emit.wr.setChan.wr))

theorem chunk (h : Grows z s t) {c d host u} : Grows z s (t.chunk c d host u) := by
  dsimp only [State.chunk]
  refine .branch h.dmaHalt (.branch h.dmaOk ?_)
  split
  · exact (Grows.branch h.useGrant h).chunkH2d
  · exact (Grows.branch h.useGrant h).chunkD2h
  · exact (Grows.branch h.useGrant h).chunkCopy
  · exact (Grows.branch h.useGrant h).drainEntry

theorem dmaChunk (h : Grows z s t) {deferred host u} : Runs z s (execDmaChunk deferred host u t) := by
  dsimp only [execDmaChunk]
  split
  · next e => exact .done (h.bump.pickChan.snd_eq e)
  · next e =>
    split
    · exact .done (h.bump.pickChan.snd_eq e).chunk
    · split
      · exact .done (h.bump.pickChan.snd_eq e).dmaHalt
      · exact .done (h.bump.pickChan.snd_eq e).dmaHalt
      · exact .branch (.done (h.bump.pickChan.snd_eq e).setChan.wr) (.done (h.bump.pickChan.snd_eq e).setChan.wr.chunk)

theorem dmaDoorbell (h : Grows z s t) {c tail} : Runs z s (execDmaDoorbell c tail t) :=
  .branch (.done h) (.branch (.done h.bump.violation) (.done (.branch h.wr.dmaSettle h.wr)))

theorem dmaChSet (h : Grows z s t) {c} : Runs z s (execDmaChSet c t) :=
  .done (h.checked (.branch h.reply (.branch h.reply (.branch h.reply (.branch h.reply
    (Grows.branch h.wr.wr.wr.wr.wr.wr.setChan.wr (.branch h.wr.wr.wr.wr.wr.wr h.wr.wr.wr.wr.wr.wr.dmaSettle)).reply)))))

theorem dmaResume (h : Grows z s t) {c} : Runs z s (execDmaResume c t) :=
  .done (h.checked (.branch h.reply (.branch h.reply (.branch h.setChan.wr.reply (Grows.branch h.makeGap h).dmaNext.reply))))

theorem dmaStatus (h : Grows z s t) {c} : Runs z s (execDmaStatus c t) :=
  .done (h.checked (.branch h.reply h.reply))

theorem bxReport (h : Grows z s t) {u outcome b} : Grows z s (t.bxReport u outcome b) := by
  dsimp only [State.bxReport]
  refine .branch ?_ ?_
  · split
    · exact h
    · exact h.set
  · refine .branch ?_ h
    split
    · exact h
    · exact h.dmaHalt

theorem bxOutcome (h : Grows z s t) {u outcome tries b} : Grows z s (t.bxOutcome u outcome tries b) :=
  .branch (.branch h.setHbm.emit h.blzCount.blzLast.bxReport) (Grows.branch h.bxCondemn h).bxReport

theorem bxBlazeCheck (h : Grows z s t) {u form b} : Runs z s (execBxBlazeCheck u form b t) := by
  dsimp only [execBxBlazeCheck]
  refine .branch (.done h) ?_
  split
  · exact .done h.bxForm
  · exact .done h.bxPass.bxOutcome

theorem blazeReread (h : Grows z s t) {u w data poisoned} : Runs z s (execBlazeReread u w data poisoned t) := by
  dsimp only [execBlazeReread]
  split
  · exact .done h
  · exact .done h.setHbm.bxPass.bxOutcome

theorem patrolScrub (h : Grows z s t) {corrected bad snaps} : Runs z s (execPatrolScrub corrected bad snaps t) :=
  .done ((h.bump.foldl fun _ _ h1 => h1.hbmError).foldl fun _ _ h => h.dropHeld)

/-! ### Features -/

theorem setBins (h : Grows z s t) {d n chan b} : Grows z s (t.setBins d n chan b) := by
  dsimp only [State.setBins]
  split <;> exact h.setCorDie

theorem driftEval (h : Grows z s t) {d n chan} : Grows z s (t.driftEval d n chan) :=
  .branch h (.branch h.setDrift (.branch h.setDrift h.bump))

theorem driftChan (h : Grows z s t) {d v chan} : Grows z s (t.driftChan d v chan) := by
  dsimp only [State.driftChan]
  refine .branch h ?_
  split
  · exact h.setBins.driftEval
  · exact h.bump

theorem clearBins (h : Grows z s t) {oldGen old new} : Grows z s (t.clearBins oldGen old new) :=
  h.set

theorem dropPast (h : Grows z s t) {d n} : Grows z s (t.dropPast d n) :=
  .branch h.setCorDie h

theorem buildOne (h : Grows z s t) {r poisoned d} : Grows z s (t.buildOne r poisoned d) :=
  .branch (h.bump.bump.bump.set.set.dropPast.foldl fun _ _ h1 => h1.driftChan).mirrorDie h.bump.bump.bump.set

theorem vectorBuild (h : Grows z s t) {n committed poisoned} : Runs z s (execVectorBuild n committed poisoned t) := by
  dsimp only [execVectorBuild]
  split
  · exact .done h
  · exact .branch (.done (.branch ((h.foldl fun _ _ h => h.buildOne).foldl fun _ _ h => h.dropHeld).wr.wr.wr.set
      ((h.foldl fun _ _ h => h.buildOne).foldl fun _ _ h => h.dropHeld).wr.wr.wr)) (.done h)

/-! ### RplOps -/

theorem setRpl (h : Grows z s t) {r} : Grows z s (t.setRpl r) :=
  h.set

theorem setRctx (h : Grows z s t) {k x} : Grows z s (t.setRctx k x) :=
  h.setRpl

theorem submit (h : Grows z s t) {j} : Grows z s (t.submit j) :=
  h.setRpl

theorem dropJob (h : Grows z s t) {j} : Grows z s (t.dropJob j) :=
  h.setRpl

theorem modJob (h : Grows z s t) {j f} : Grows z s (t.modJob j f) :=
  h.setRpl

theorem countJob (h : Grows z s t) {outcome reason} : Grows z s (t.countJob outcome reason) := by
  dsimp only [State.countJob]
  split
  · exact (Grows.branch h.bump.bump h.bump).bump
  · exact (Grows.branch h.bump.bump h.bump).bump
  · exact (Grows.branch h.bump.bump h.bump).bump
  · exact (Grows.branch h.bump.bump h.bump).bump
  · exact .branch h.bump.bump h.bump

theorem loadRanges (h : Grows z s t) {space rs} : Grows z s (t.loadRanges space rs).2 :=
  h.foldlSnd fun _ _ hp => by dsimp only; split; exacts [hp, by split <;> exact hp.vaRange]

theorem freeze (h : Grows z s t) {j} : Grows z s (t.freeze j) :=
  .branch h h.bump.modJob

theorem loadBank (h : Grows z s t) {k bank j} : Grows z s (t.loadBank k bank j) := by
  dsimp only [State.loadBank]
  refine .branch h ?_
  split
  · next e => exact (h.loadRanges.snd_eq e).freeze
  · next e => exact (h.loadRanges.snd_eq e).setRctx

theorem storeWord (h : Grows z s t) {k fmt addr data} : Grows z s (t.storeWord k fmt addr data) :=
  h.draw.draw.bxForm

theorem storeWords (h : Grows z s t) {k fmt va b} : Grows z s (t.storeWords k fmt va b) :=
  .branch h (h.foldl fun _ _ h => h.storeWord)

theorem evacuate (h : Grows z s t) {k} : Grows z s (t.evacuate k) :=
  h.setRpl

theorem dropMem (h : Grows z s t) {k} : Grows z s (t.dropMem k) := by
  dsimp only [State.dropMem]
  split
  · exact h
  · exact h.setRctx

theorem retireUnit (h : Grows z s t) {level idx} : Grows z s (t.retireUnit level idx) :=
  .branch h (h.setRpl.bump.signal.foldl fun _ _ h1 => .branch h1.evacuate (.branch h1.dropMem h1))

/-! ### GateOps -/

theorem setGate (h : Grows z s t) {g} : Grows z s (t.setGate g) :=
  h.set

theorem setJob (h : Grows z s t) {id j} : Grows z s (t.setJob id j) :=
  h.setGate

theorem setStep (h : Grows z s t) {g} : Grows z s (t.setStep g) :=
  h.setGate

theorem dropStep (h : Grows z s t) {g} : Grows z s (t.dropStep g) :=
  h.setGate

theorem ledgerPut (h : Grows z s t) {r} : Grows z s (t.ledgerPut r).2.2 := by
  dsimp only [State.ledgerPut]
  split
  · exact .branch h.setGate.wr.bump h.setGate.wr
  · exact (Grows.branch h.setGate.wr.bump h.setGate.wr).hbmWrite

theorem ledgerStart (h : Grows z s t) {t'} : Grows z s (t.ledgerStart t') :=
  .branch h.ledgerPut h

theorem ledger (h : Grows z s t) {r} : Grows z s (t.ledger r).2.2 :=
  h.ledgerStart.ledgerPut

theorem stepEvent (h : Grows z s t) {t' ws} : Grows z s (t.stepEvent t' ws) :=
  (Grows.branch h h.post).post

theorem commitStep (h : Grows z s t) {g cause} : Grows z s (t.commitStep g cause) := by
  dsimp only [State.commitStep]
  split
  · exact h.ledger.stepEvent.bump
  · exact h.ledger.stepEvent.bump.setJob

theorem feedOne (h : Grows z s t) {k} : Grows z s (feedOne k t) := by
  induction k generalizing t with
  | zero => exact h
  | succ k ih =>
    unfold Machine.feedOne
    refine .branch h ?_
    split
    · exact ih h.setRpl
    · split
      · exact h
      · split
        · exact h
        · exact ih h.setStep.submit

theorem feed (h : Grows z s t) : Grows z s t.feed :=
  h.feedOne

theorem cancelJobs (h : Grows z s t) {g} : Grows z s (t.cancelJobs g) :=
  h.foldl fun _ _ h => h.dropJob

theorem endStep (h : Grows z s t) {g} : Grows z s (t.endStep g) :=
  h.cancelJobs.dropStep.feed

theorem afterCheck (h : Grows z s t) {g cause} : Grows z s (t.afterCheck g cause) :=
  (Grows.branch h.ledger.stepEvent h.ledger.stepEvent.bump).endStep

theorem revokeOne (h : Grows z s t) {g cause} : Grows z s (t.revokeOne g cause) :=
  (Grows.branch h.ledger.stepEvent.bump h.ledger.stepEvent.bump).endStep

theorem revoke (h : Grows z s t) {g cause} : Grows z s (t.revoke g cause) := by
  dsimp only [State.revoke]
  split
  · exact h.revokeOne.foldl fun _ _ h => h.revokeOne
  · exact .branch (h.revokeOne.foldl fun _ _ h => h.revokeOne).setJob (h.revokeOne.foldl fun _ _ h => h.revokeOne).setJob

theorem requestTest (h : Grows z s t) {d unit pre bin} : Grows z s (t.requestTest d unit pre bin) :=
  .branch (.branch h h.noteReason) (Grows.branch h h.noteReason).issueTest

theorem detected (h : Grows z s t) {g cause} : Grows z s (t.detected g cause) :=
  h.requestTest.signal.alarmUp

theorem resolve (h : Grows z s t) {g cause} : Grows z s (t.resolve g cause) := by
  unfold State.resolve
  extract_lets s₁ s₂
  have h₁ : Grows z s s₁ := .branch h.bump (.branch h.bump (.branch h.bump h))
  have h₂ : Grows z s s₂ := .branch h₁.detected h₁
  exact .branch h₂.afterCheck (.branch h₂.setStep (.branch h₂.cancelJobs.setStep.feed h₂.revoke))

theorem gateJobEnd (h : Grows z s t) {j outcome reason} : Grows z s (t.gateJobEnd j outcome reason) := by
  dsimp only [State.gateJobEnd]
  split
  · exact h
  · split
    · exact h
    · exact .branch h.setStep.feed (.branch h.setStep h.setStep.resolve)

theorem urge (h : Grows z s t) {g} : Grows z s (t.urge g) :=
  (Grows.branch h h.bump).setRpl.setStep

theorem tagMatch (h : Grows z s t) {d tag condemned} : Grows z s (t.tagMatch d tag condemned) := by
  dsimp only [State.tagMatch]
  exact .branch (.branch h h.setGate) (h.foldl fun _ _ h1 => by split; exacts [h1, .branch h1.resolve (.branch h1.urge h1)])

theorem gateFault (h : Grows z s t) {idx extra} : Grows z s (t.gateFault idx extra) :=
  h.bump.signal

theorem stepFault (h : Grows z s t) {job step attempt} : Grows z s (t.stepFault job step attempt) := by
  dsimp only [State.stepFault]
  split
  · exact h
  · exact h.gateFault.resolve

theorem jobFault (h : Grows z s t) {job} : Grows z s (t.jobFault job) := by
  dsimp only [State.jobFault]
  split
  · exact h
  · exact (h.gateFault.foldl fun _ _ h1 => .branch h1.revokeOne h1.afterCheck).setGate

theorem entryFault (h : Grows z s t) {t' seq} : Grows z s (t.entryFault t' seq) :=
  h.gateFault.setGate

/-! ### Replay -/

theorem apdLoad (h : Grows z s t) {c} : Runs z s (execApdLoad c t) :=
  .done (h.checked (.branch h.reply (.branch h.reply (.branch h.reply h.setRpl.reply))))

theorem apdUnload (h : Grows z s t) {c} : Runs z s (execApdUnload c t) :=
  .done (h.checked (.branch h.reply (.branch h.reply h.setRpl.reply)))

theorem apdInfo (h : Grows z s t) {c} : Runs z s (execApdInfo c t) := by
  dsimp only [execApdInfo]
  refine .done (h.checkedPtr ?_)
  split
  · exact h.reply
  · exact h.replyBlob

theorem finishJob (h : Grows z s t) {j outcome reason cluster confirmed bad} : Grows z s (t.finishJob j outcome reason cluster confirmed bad) := by
  dsimp only [State.finishJob]
  exact .feed (.gateJobEnd (by split; exacts [h.dropJob.countJob, h.dropJob.countJob.reply]))

theorem badAddress (h : Grows z s t) {source tenant l} : Grows z s (t.badAddress source tenant l).2 := by
  induction l generalizing t with
  | nil => exact h
  | cons a l ih =>
    unfold State.badAddress
    split
    · exact ih h
    · dsimp only
      split
      · exact h.translate
      · exact ih h.translate

theorem replayRun (h : Grows z s t) {c} : Runs z s (execReplayRun c t) := by
  dsimp only [execReplayRun]
  refine .done (h.checked ?_)
  refine .branch h.reply (.branch h.reply ?_)
  split
  · next e => exact (h.badAddress.snd_eq e).reply
  · next e => exact (h.badAddress.snd_eq e).submit

theorem replayCancel (h : Grows z s t) {c} : Runs z s (execReplayCancel c t) := by
  dsimp only [execReplayCancel]
  refine .done (h.checked ?_)
  split
  · exact h.reply
  · exact h.finishJob.reply

theorem replayStatus (h : Grows z s t) {c} : Runs z s (execReplayStatus c t) :=
  .done (h.checkedPtr h.replyBlob)

theorem replayUnit (h : Grows z s t) {c} : Runs z s (execReplayUnit c t) :=
  .done (h.checked (.branch h.reply (.branch h.retireUnit.reply (.branch h.reply h.setRpl.reply))))

theorem replayGen (h : Grows z s t) {c} : Runs z s (execReplayGen c t) :=
  .done (h.checked (.branch h.reply h.reply))

theorem replayCrosscheck (h : Grows z s t) {c} : Runs z s (execReplayCrosscheck c t) := by
  dsimp only [execReplayCrosscheck]
  refine .done (h.checked ?_)
  split
  · exact h.reply
  · refine .branch h.reply ?_
    split
    · refine .branch h.vaRange.vaRange.bump.reply ?_
      split <;> exact h.vaRange.vaRange.reply
    · exact h.vaRange.vaRange.reply
    · exact h.vaRange.vaRange.reply

theorem replayPlace (h : Grows z s t) : Runs z s (execReplayPlace t) := by
  dsimp only [execReplayPlace]
  refine .branch (.done h) ?_
  split
  · exact .done h
  · split
    · exact .done h.finishJob
    · split
      · exact .done h
      · exact .done (Grows.branch h.setRpl.setRctx h.setRpl.setRctx.loadBank).feed

theorem replayBankFilled (h : Grows z s t) {k} : Runs z s (execReplayBankFilled k t) :=
  .branch (.done h) (.branch (.done (h.foldl fun _ _ h => h.loadBank)) (.done (Grows.branch (h.foldl fun _ _ h => h.loadBank).bump
    (h.foldl fun _ _ h => h.loadBank)).setRctx))

theorem retireRun (h : Grows z s t) {r} : Grows z s (t.retireRun r) :=
  h.retireUnit

theorem runJob (h : Grows z s t) {k j a r1 r2 r3} : Grows z s (t.runJob k j a r1 r2 r3) := by
  unfold State.runJob
  extract_lets s₁ outLen store j'
  have h₁ : Grows z s s₁ := h.loadBank
  split
  · exact h₁
  · extract_lets loads
    have hs : Grows z s store.2 := .branchSnd (.pair h₁) h₁.vaRange
    clear_value store
    split
    · exact Grows.freeze hs
    · next u =>
      have hu : Grows z s u := hs
      refine .branch hu.modJob.finishJob (.branch hu.modJob.finishJob (.foldl (.branch (.bump ?_) ?_) fun _ _ h => h.retireRun))
      · exact (Grows.branch hu.modJob hu.modJob.writePieces.storeWords).finishJob
      · exact (Grows.branch hu.modJob hu.modJob.writePieces.storeWords).finishJob

theorem replayJobEnd (h : Grows z s t) {k r1 r2 r3} : Runs z s (execReplayJobEnd k r1 r2 r3 t) := by
  dsimp only [execReplayJobEnd]
  split
  · exact .done h
  · split
    · exact .done h.finishJob
    · exact .done h.runJob

theorem replayXlateFault (h : Grows z s t) {k other va cause} : Runs z s (execReplayXlateFault k other va cause t) := by
  dsimp only [execReplayXlateFault]
  split
  · exact .done h
  · exact .done h.xlFault.freeze

theorem replayKat (h : Grows z s t) {e pass} : Runs z s (execReplayKat e pass t) :=
  .branch (.done h) (.done h.bump.setRpl.retireUnit.signal.alarmUp)

/-! ### Gate -/

theorem accept? (h : Grows z s t) {g j} : Grows z s (t.accept? g j).2 := by
  unfold State.accept?
  extract_lets isOld g₁ s₁
  split
  extract_lets g₂ s₂ gate s₃ s₄ gate' keep
  have h₁ : Grows z s s₁ := h.bump
  have h₂ : Grows z s s₂ := .branch h₁.bump (.branch h₁.bump h₁)
  have h₃ : Grows z s s₃ := .branch h₂.setGate h₂
  have h₄ : Grows z s s₄ := h₃.setJob
  have hk : Grows z s keep := h₄.setGate
  exact .branchSnd (.pair hk) (.pair (Grows.branch hk h₄).commitStep)

theorem stepAnnounce (h : Grows z s t) {c} : Runs z s (execStepAnnounce c t) := by
  dsimp only [execStepAnnounce]
  refine .done (h.checked ?_)
  split
  · exact h.reply
  · exact .branch h.reply (.branch h.reply (.branch h.reply (.branch (.reply (by split; exacts [h, h.bump]))
      (.reply (.accept? (by split; exacts [h, h.bump]))))))

theorem expire (h : Grows z s t) {due} : Grows z s (t.expire due) := by
  dsimp only [State.expire]
  exact h.foldl fun _ _ h => by split; exacts [h, h.resolve]

theorem expireOperands (h : Grows z s t) : Grows z s t.expireOperands :=
  h.expire

theorem operandWaitExpiry (h : Grows z s t) : Runs z s (execOperandWaitExpiry t) :=
  .done h.expireOperands

theorem stepOperands (h : Grows z s t) {c} : Runs z s (execStepOperands c t) := by
  dsimp only [execStepOperands]
  refine .done (h.checked ?_)
  split
  · exact h.expireOperands.reply
  · refine .branch h.expireOperands.reply ?_
    split
    · exact h.expireOperands.reply
    · refine .branch h.expireOperands.reply (.branch h.expireOperands.reply (.branch h.expireOperands.reply ?_))
      split
      · next e => exact (h.expireOperands.badAddress.snd_eq e).reply
      · next e => exact (h.expireOperands.badAddress.snd_eq e).setStep.feed.reply

theorem gateWaitExpiry (h : Grows z s t) : Runs z s (execGateWaitExpiry t) :=
  .done h.expire

theorem stepCommit (h : Grows z s t) {job} : Runs z s (execStepCommit job t) := by
  dsimp only [execStepCommit]
  split
  · exact .done h
  · split
    · exact .done h
    · exact .branch (.done h.commitStep.endStep) (.done h)

theorem jobOpen (h : Grows z s t) {c} : Runs z s (execJobOpen c t) := by
  dsimp only [execJobOpen]
  refine .done (h.checked ?_)
  split
  · exact h.reply
  · exact .branch h.reply (.branch h.reply (.branch h.reply h.setJob.reply))

theorem placementMigrate (h : Grows z s t) {c} : Runs z s (execPlacementMigrate c t) := by
  dsimp only [execPlacementMigrate]
  refine .done (h.checked ?_)
  split
  · exact .branch h.reply (.branch h.reply (.branch h.reply h.setJob.ledger.reply))
  · exact h.reply

theorem commitPolicySet (h : Grows z s t) {c} : Runs z s (execCommitPolicySet c t) :=
  .done (h.checked (.branch h.reply (.branch h.reply (h.foldl fun _ _ h => h.wr).reply)))

theorem commitStatus (h : Grows z s t) {c} : Runs z s (execCommitStatus c t) := by
  dsimp only [execCommitStatus]
  refine .done (h.checked ?_)
  split
  · exact h.reply
  · exact .branch h.reply h.reply

theorem ledgerRead (h : Grows z s t) {c} : Runs z s (execLedgerRead c t) := by
  dsimp only [execLedgerRead]
  refine .done (h.checked ?_)
  refine .branch h.reply (.branch h.reply (.branch h.reply ?_))
  split <;> exact h.reply

theorem ledgerHead (h : Grows z s t) {c} : Runs z s (execLedgerHead c t) :=
  .done (h.checked (.branch h.reply (.branch h.reply h.reply)))

theorem jobClose (h : Grows z s t) {c} : Runs z s (execJobClose c t) := by
  dsimp only [execJobClose]
  refine .done (h.checked ?_)
  split
  · exact h.reply
  · exact .branch h.reply (.branch h.reply (h.foldl fun _ _ h1 => .branch h1.revokeOne h1.endStep).setGate.reply)

/-! ### Grove -/

theorem setThr (h : Grows z s t) {slot b} : Grows z s (t.setThr slot b) :=
  h.wr.foldl fun _ _ h => h.wr

theorem reloadGrs (h : Grows z s t) {slot} : Grows z s (t.reloadGrs slot) :=
  .branch h (h.foldl fun _ _ h1 => .branch h1 h1.sendRun)

theorem tellPeer (h : Grows z s t) {b tag tenant way peer} : Grows z s (t.tellPeer b tag tenant way peer) :=
  h.sendMsg

theorem unbind (h : Grows z s t) {c slot part} : Grows z s (t.unbind c slot part) :=
  (h.foldl fun _ _ h => h.tellPeer).set

theorem groveLoad (h : Grows z s t) {c} : Runs z s (execGroveLoad c t) := by
  dsimp only [execGroveLoad]
  refine .done (h.checked ?_)
  refine .branch h.reply ?_
  split
  · exact h.reply
  · exact h.set.set.unbind.setThr.reloadGrs.reply

theorem groveUnload (h : Grows z s t) {c} : Runs z s (execGroveUnload c t) :=
  .done (h.checked (.branch h.reply (.branch h.reply h.set.unbind.reply)))

theorem groveInfo (h : Grows z s t) {c} : Runs z s (execGroveInfo c t) := by
  dsimp only [execGroveInfo]
  refine .done (h.checkedPtr ?_)
  split
  · exact h.reply
  · exact h.replyBlob

theorem storeScore (h : Grows z s t) {v stage ws} : Grows z s (t.storeScore v stage ws) :=
  h.set

theorem countScore (h : Grows z s t) {r alarm} : Grows z s (t.countScore r alarm) := by
  dsimp only [State.countScore]
  split
  · exact (Grows.branch h.bump.bump h.bump).bump
  · exact (Grows.branch h.bump.bump h.bump).bump
  · exact (Grows.branch h.bump.bump h.bump).bump
  · exact .branch h.bump.bump h.bump

theorem finishScore (h : Grows z s t) {v stage slot r h'} : Grows z s (t.finishScore v stage slot r h') :=
  .branch (Grows.branch h.countScore.storeScore.alarmUp h.countScore.storeScore).setReason.mirrorDie
    (.branch h.countScore.storeScore.alarmUp h.countScore.storeScore)

theorem grvFault (h : Grows z s t) {slot mem} : Grows z s (t.grvFault slot mem) :=
  h.signal

theorem partSums (h : Grows z s t) {slot m v fault} : Grows z s (t.partSums slot m v fault).2 := by
  dsimp only [State.partSums]
  split
  · exact h.grvFault
  · split
    · exact h
    · exact h.grvFault

theorem scoreWith (h : Grows z s t) {v stage slot m fault finish eval} (hf : ∀ u w, Grows z s u → Grows z s (finish u w)) :
    Grows z s (t.scoreWith v stage slot m fault finish eval) := by
  unfold State.scoreWith
  extract_lets m' num send s₁
  have h₁ : Grows z s s₁ := .branch h (h.set.foldl fun _ _ h => h.sendMsg)
  dsimp only
  split
  · exact hf _ _ h₁.partSums
  · exact .branch (hf _ _ h₁.partSums) h₁.partSums.set

theorem groveScore (h : Grows z s t) {d k committed fault} : Runs z s (execGroveScore d k committed fault t) := by
  dsimp only [execGroveScore]
  split
  · exact .done h
  · refine .branch (.done h) ?_
    split
    · exact .done h.set.bump
    · exact .done (h.set.scoreWith fun _ _ h => h.finishScore)

theorem groveVecReceive (h : Grows z s t) {q src slot part num v fault} : Runs z s (execGroveVecReceive q src slot part num v fault t) := by
  dsimp only [execGroveVecReceive]
  split
  · exact .done h.consume.sendMsg
  · exact .branch (.done h.consume.sendMsg) (.done (Grows.branch h.consume.partSums.bump h.consume.partSums).sendMsg)

theorem evalReply (h : Grows z s t) {c v slot r h'} : Grows z s (t.evalReply c v slot r h') :=
  h.countScore.reply

theorem endSplit (h : Grows z s t) {x r} : Grows z s (t.endSplit x r) := by
  dsimp only [State.endSplit]
  split
  · exact h.set
  · split
    · exact h.set.finishScore
    · exact h.set.evalReply

theorem trySplit (h : Grows z s t) {x} : Grows z s (t.trySplit x) := by
  dsimp only [State.trySplit]
  split
  · exact h
  · exact .branch h.endSplit (.branch h.endSplit h)

theorem groveSumsReceive (h : Grows z s t) {f num part fault modelId modelVer sums} :
    Runs z s (execGroveSumsReceive f num part fault modelId modelVer sums t) := by
  dsimp only [execGroveSumsReceive]
  split
  · exact .done h.consume.bump.viol
  · split
    · exact .done h.consume.bump.viol
    · exact .branch (.done h.consume.bump.viol) (.branch (.done h.consume.endSplit) (.done h.consume.set.trySplit))

theorem groveSplitTimeout (h : Grows z s t) {num} : Runs z s (execGroveSplitTimeout num t) := by
  dsimp only [execGroveSplitTimeout]
  split
  · exact .done h
  · exact .branch (.done h.endSplit) (.done h)

theorem peerConfirm (h : Grows z s t) {c} : Grows z s (t.peerConfirm c) := by
  dsimp only [State.peerConfirm]
  refine .branch h.set.reply ?_
  split
  · exact h.reply
  · exact .branch h.reply h.reply

theorem grovePeerBind (h : Grows z s t) {c answer} : Runs z s (execGrovePeerBind c answer t) := by
  dsimp only [execGrovePeerBind]
  refine .done (h.checked ?_)
  refine .branch h.peerConfirm (.branch h.reply (.branch h.reply (.branch h.unbind.reply ?_)))
  split
  · exact h.reply
  · split
    · exact h.tellPeer.reply
    · exact h.tellPeer.reply
    · exact .branch h.tellPeer.unbind.tellPeer.set.reply h.tellPeer.reply

theorem groveEval (h : Grows z s t) {c fault} : Runs z s (execGroveEval c fault t) := by
  dsimp only [execGroveEval]
  refine .done (h.checked ?_)
  split
  · exact h.reply
  · exact .branch h.reply (h.scoreWith fun _ _ h => h.evalReply)

theorem groveScoreRead (h : Grows z s t) {c} : Runs z s (execGroveScoreRead c t) := by
  dsimp only [execGroveScoreRead]
  refine .done (h.checked ?_)
  split
  · exact h.reply
  · refine .branch h.reply ?_
    split
    · exact h.reply
    · exact .branch h.reply h.reply

theorem groveGrsImage (h : Grows z s t) {c} : Runs z s (execGroveGrsImage c t) := by
  dsimp only [execGroveGrsImage]
  refine .done (h.checked ?_)
  split
  · exact h.reply
  · exact .branch h.reply h.reply

theorem groveGrsRefresh (h : Grows z s t) {c} : Runs z s (execGroveGrsRefresh c t) := by
  dsimp only [execGroveGrsRefresh]
  refine .done (h.checked ?_)
  split
  · exact h.reply
  · split
    · exact h.reply
    · exact .branch h.reply h.sendImage.zxSend

theorem grvLaneCtrlWrite (h : Grows z s t) {v} : Runs z s (execGrvLaneCtrlWrite v t) :=
  .done (.branch (.branch h h.wr) (Grows.branch h h.wr).wr)

theorem grsCheck (h : Grows z s t) {d n} : Runs z s (execGrsCheck d n t) := by
  dsimp only [execGrsCheck]
  split
  · refine .branch (.done h) (.branch (.done h.set) ?_)
    split
    · exact .done h.set
    · exact .branch (.done h.set) (.done h.set.bump.signal.setReason.mirrorDie)
  · exact .done h

/-! ### Time -/

theorem setTb (h : Grows false s t) {i t'} : Grows false s (t.setTb i t') :=
  .branch h.setZx h.set

theorem fine8 (h : Grows z s t) {r} : Grows z s (t.fine8 r).2 := by
  dsimp only [State.fine8]
  exact .branchSnd (.pair h) (.pair h.draw)

theorem noteOffset (h : Grows z s t) {i o d} : Grows z s (t.noteOffset i o d) := by
  dsimp only [State.noteOffset]
  split
  · exact h.fine8.wr
  · exact h.fine8.wr.fine8.wr

theorem noteStep (h : Grows false s t) {i o} : Grows false s (t.noteStep i o) :=
  .branch h.setZx h.set

theorem expireHoldover (h : Grows false s t) {i} : Grows false s (t.expireHoldover i) :=
  .branch (.branch h.setTb.bump.ls h.setTb.bump) h

theorem measure (h : Grows false s t) {i o d period} : Grows false s (t.measure i o d period) := by
  unfold State.measure
  extract_lets s₁ tb₀ tb a lock tb₁ s₂ s₃
  have h₁ : Grows false s s₁ := h.expireHoldover.noteOffset
  have h₃ : Grows false s s₃ := .branch (.branch h₁.bump.ls h₁.bump.violation) h₁
  exact .branch h₁.setTb.noteStep (.branch h₁.setTb.noteStep (Grows.branch (.branch h₃.bump.ls h₃.bump) h₃).setTb)

theorem beginExchange (h : Grows false s t) {i} : Grows false s (t.beginExchange i) :=
  h.setTb

theorem timeViol (h : Grows z s t) {e row} : Grows z s (t.timeViol e row) := by
  dsimp only [State.timeViol]
  exact .escalate (by split; exacts [h.countViol.bump, h.countViol.bump.violation])

theorem sendTime (h : Grows z s t) {e sub payload} : Grows z s (t.sendTime e sub payload) :=
  .branch h.modLink h.enqueue

theorem stemSyncs (h : Grows z s t) {ahead} : Grows z s (t.stemSyncs ahead) :=
  h.foldl fun _ _ h1 => .branch h1.set.sendTime h1

theorem syncReceive (h : Grows false s t) {exch period origin corr ago ahead} : Runs false s (execSyncReceive exch period origin corr ago ahead t) :=
  .done h.consume.beginExchange.setZx.sendTime

theorem delayReqReceive (h : Grows z s t) {p exch ago ahead} : Runs z s (execDelayReqReceive p exch ago ahead t) := by
  dsimp only [execDelayReqReceive]
  split
  · exact .branch (.done h.consume.set.sendTime) (.done h.consume)
  · exact .done h.consume.timeViol

theorem delayRespReceive (h : Grows false s t) {exch t4} : Runs false s (execDelayRespReceive exch t4 t) := by
  dsimp only [execDelayRespReceive]
  split
  · exact .done h.consume.timeViol
  · exact .branch (.done h.consume) (.branch (.done h.consume.setZx.timeViol) (.done h.consume.setZx.measure))

theorem sendPtp (h : Grows z s t) {sub src dst hops mk domainPort} : Grows z s (t.sendPtp sub src dst hops mk domainPort) := by
  dsimp only [State.sendPtp]
  split
  · next e => exact h.outPort.snd_eq e
  · next e => exact (h.outPort.snd_eq e).enqueue

theorem canopySyncs (h : Grows z s t) {ahead} : Grows z s (t.canopySyncs ahead) :=
  h.foldl fun _ _ h => h.set.sendPtp

theorem syncSend (h : Grows z s t) {ahead cahead} : Runs z s (execSyncSend ahead cahead t) :=
  .done h.stemSyncs.canopySyncs

theorem canopySyncReceive (h : Grows false s t) {q src msg ago ahead} : Runs false s (execCanopySyncReceive q src msg ago ahead t) :=
  .branch (.done h.consume.timeViol) (.branch (.done h.consume) (.done h.consume.beginExchange.set.sendPtp))

theorem canopyDelayReqReceive (h : Grows z s t) {q src msg ago} : Runs z s (execCanopyDelayReqReceive q src msg ago t) := by
  dsimp only [execCanopyDelayReqReceive]
  refine .branch (.done h.consume.timeViol) ?_
  split
  · exact .branch (.done h.consume.set.sendPtp) (.done h.consume)
  · exact .done h.consume

theorem canopyMeasure (h : Grows false s t) {x o d} : Grows false s (t.canopyMeasure x o d) :=
  (Grows.branch h.set h).measure

theorem canopyDelayRespReceive (h : Grows false s t) {f msg} : Runs false s (execCanopyDelayRespReceive f msg t) := by
  dsimp only [execCanopyDelayRespReceive]
  refine .branch (.done h.consume.timeViol) ?_
  split
  · exact .done h.consume.timeViol
  · exact .branch (.done h.consume.timeViol) (.branch (.done h.consume.set) (.branch (.done h.consume.set.timeViol)
      (.done h.consume.set.canopyMeasure)))

theorem timeRelay (h : Grows z s t) {q sub src dst hops msg ago ahead} : Runs z s (execTimeRelay q sub src dst hops msg ago ahead t) :=
  .branch (.done h.consume.bump.violation) (.done h.consume.sendPtp)

theorem ppsEdge (h : Grows false s t) {ago wide} : Runs false s (execPpsEdge ago wide t) := by
  dsimp only [execPpsEdge]
  refine .branch (.done h) (.branch (.done h.bump.violation) ?_)
  split
  · exact .done h.set.beginExchange
  · exact .done h.set.beginExchange.measure

theorem todFrame (h : Grows z s t) {f} : Runs z s (execTodFrame f t) :=
  .branch (.done h) (.branch (.done h.bump.violation) (.branch (.done h) (.branch (.done h.set.set.violation)
    (.branch (.done h.set.set.bump.violation) (.done h.set.set)))))

theorem tbSourceLost (h : Grows false s t) {part} : Runs false s (execTbSourceLost part t) :=
  .branch (.done (.branch h.set h)) (.branch (.done (Grows.branch h.set h).setTb) (.done (Grows.branch h.set h).setTb))

theorem holdoverExpiry (h : Grows false s t) {part} : Runs false s (execHoldoverExpiry part t) :=
  .done h.expireHoldover

theorem grantDie (h : Grows false s t) {d} : Grows false s (t.grantDie d) :=
  .branch h.setTb h

theorem resync (h : Grows false s t) {c} : Runs false s (execResync c t) := by
  dsimp only [execResync]
  refine .done (h.checked ?_)
  split
  · exact h.setTb.reply
  · split
    · exact h.reply
    · exact .branch h.reply h.grantDie.reply
  · exact (h.setTb.foldl fun _ _ h1 => .branch h1.grantDie h1).reply
  · exact h.reply

theorem resyncGrantLapse (h : Grows false s t) {part} : Runs false s (execResyncGrantLapse part t) :=
  .done (.branch h.setTb h)

theorem setLac (h : Grows false s t) {k x} : Grows false s (t.setLac k x) :=
  h.setZx

theorem lacPulse (h : Grows false s t) {k} : Grows false s (t.lacPulse k) :=
  h.setLac.emit.ls

theorem lacFire (h : Grows false s t) {k} : Runs false s (execLacFire k t) :=
  .branch (.done h) (.branch (.done h.lacPulse.wr) (.done (Grows.branch h.lacPulse h.lacPulse.ls).setLac))

theorem lacArm (h : Grows false s t) {k v} : Runs false s (execLacArm k v t) :=
  .branch (.done h) (.branch (.done h.wr.wr.wr.wr.wr.wr) (.branch (.done h.wr.wr.wr.wr.wr.wr.setLac)
    (.branch h.wr.wr.wr.wr.wr.wr.setLac.lacFire (.branch (.done (Grows.branch h.wr.wr.wr.wr.wr.wr.setLac.ls.lacPulse
    h.wr.wr.wr.wr.wr.wr.setLac.ls).wr) (.done (Grows.branch h.wr.wr.wr.wr.wr.wr.setLac.ls.lacPulse h.wr.wr.wr.wr.wr.wr.setLac.ls).setLac)))))

theorem ppsOutput (h : Grows z s t) : Runs z s (execPpsOutput t) :=
  .branch (.done h.set.emit) (.done h)

theorem tick (h : Grows false s t) : Grows false s t.tick :=
  .branch (Grows.branch h.setZx h).set (.branch h.setZx h)

theorem timeSrcSet (h : Grows z s t) {c} : Runs z s (execTimeSrcSet c t) :=
  .done (h.checked (.branch h.reply h.set.wr.wr.wr.wr.wr.wr.wr.reply))

theorem timeRead (h : Grows z s t) {c} : Runs z s (execTimeRead c t) :=
  .done (h.checked h.readEffect.reply)

theorem timeStatus (h : Grows z s t) {c} : Runs z s (execTimeStatus c t) :=
  .done (h.checked h.reply)

theorem ppsSet (h : Grows z s t) {c} : Runs z s (execPpsSet c t) :=
  .done (h.checked h.wr.wr.set.reply)

/-! ### ZxBlock -/

theorem addHw (h : Grows z s t) {h'} : Grows z s (t.addHw h') :=
  (h.ls.ls.foldl fun _ _ h => h.ls).ls.ls.ls.foldl fun _ _ h1 => .branch h1.wr h1

theorem latchCounters (h : Grows false s t) : Grows false s t.latchCounters :=
  (h.foldl fun _ _ h => h.wr).setZx.loadSel

theorem latchStop (h : Grows false s t) {t' b c} : Grows false s (t.latchStop t' b c) :=
  h.setTap.wrSat

theorem strobe (h : Grows false s t) : Grows false s t.strobe :=
  (h.foldl fun _ _ h => h.setTap).emit

theorem openWindow (h : Grows false s t) {c e at_} : Grows false s (t.openWindow c e at_) :=
  h.setZx.emit

theorem endWindow (h : Grows false s t) {w} : Grows false s (t.endWindow w) :=
  (Grows.branch (h.ls.foldl fun _ _ h => h.setReg).modEntry.irq (h.ls.foldl fun _ _ h => h.setReg).modEntry).setZx

theorem closeEpoch (h : Grows false s t) {c n at_} : Grows false s (t.closeEpoch c n at_) := by
  unfold State.closeEpoch
  extract_lets s₁ zx e part flags entry s₂ s₃ s₄ s₅ s₆
  have h₁ : Grows false s s₁ := by
    dsimp only [s₁]
    split
    · exact h
    · exact h.endWindow
  have h₅ : Grows false s s₅ := (h₁.latchCounters.loadQw.foldl fun _ _ h => h.latchStop).strobe.openWindow.setZx
  have h₆ : Grows false s s₆ := .branch (h₅.foldl fun _ _ h => .branch h.epochMark h) h₅
  exact .branch h₁.setZx.loadSel.loadQw (.branch h₆.ls.logRoom.setZx.grsSwitch h₆.grsSwitch)

theorem zxEpochClose (h : Grows false s t) {h'} : Runs false s (execZxEpochClose h' t) := by
  dsimp only [execZxEpochClose]
  refine .branch (.done h) ?_
  split
  · exact .done h.addHw
  · exact .branch (.done h.addHw) (.done h.addHw.closeEpoch)

theorem modCounts (h : Grows false s t) {n f} : Grows false s (t.modCounts n f) :=
  h.modEntry

theorem lsRegion (h : Grows false s t) {pre k n} : Grows false s (t.lsRegion pre k n) :=
  .branch h (.branch h.ls.setZx.modCounts h.ls)

theorem ctrEdge (h : Grows false s t) {pre n t' engines nlines prev lines} : Grows false s (t.ctrEdge pre n t' engines nlines prev lines) :=
  .branch h (.branch (Grows.branch h.wr.wr.setZx h.wr).modCounts h.wr)

theorem resumeTap (h : Grows false s t) {t'} : Grows false s (t.resumeTap t') := by
  dsimp only [State.resumeTap]
  exact .wr (.setTap (by split; exacts [h, (h.foldl fun _ _ h1 => .branch h1.setTrc h1).setTap]))

theorem engineEdge (h : Grows false s t) {pre t' engines prev lines} : Grows false s (t.engineEdge pre t' engines prev lines) :=
  (Grows.branch (h.lsRegion.lsRegion.lsRegion.lsRegion.lsRegion.foldl fun _ _ h => h.lsRegion)
    (h.lsRegion.lsRegion.lsRegion.lsRegion.lsRegion.foldl fun _ _ h => h.lsRegion).wr.irq).setTap

theorem traceEdge (h : Grows false s t) {t' engines prev lines stretched} : Grows false s (t.traceEdge t' engines prev lines stretched) :=
  h.foldl fun _ _ h1 => .branch h1 h1.setTrc

theorem tapEdge (h : Grows false s t) {t' raw} : Grows false s (t.tapEdge t' raw) :=
  .branch (.branch (h.resumeTap.engineEdge.foldl fun _ _ h => h.ctrEdge).traceEdge.setTap.wr.lsRegion.modCounts
    (h.resumeTap.engineEdge.foldl fun _ _ h => h.ctrEdge).traceEdge.setTap.wr.lsRegion)
    (h.resumeTap.engineEdge.foldl fun _ _ h => h.ctrEdge).traceEdge.setTap

theorem blzFeed (h : Grows false s t) {u} : Grows false s (t.blzFeed u) :=
  h.blzBeat

theorem regionTapSample (h : Grows false s t) {edge} : Runs false s (execRegionTapSample edge t) :=
  .branch (.done h) (.done ((h.foldl fun _ _ h => h.tapEdge).foldl fun _ _ h1 => .branch h1.blzFeed h1))

theorem tapLatchTimeout (h : Grows false s t) {t'} : Runs false s (execTapLatchTimeout t' t) :=
  .branch (.done h) (.done h.setTap.modCounts.wr.wr.ls.irq)

theorem tapClockStopped (h : Grows false s t) {t'} : Runs false s (execTapClockStopped t' t) :=
  .branch (.done h) (.done h.setTap.bump)

theorem tapClockResumed (h : Grows false s t) {t'} : Runs false s (execTapClockResumed t' t) :=
  .branch (.done h) (.done h.resumeTap)

theorem stretchTrip (h : Grows false s t) {n} : Runs false s (execStretchTrip n t) :=
  .branch (.done h) (.done (.branch h.ls.setTap h.ls))

theorem droopTrip (h : Grows z s t) {n} : Runs z s (execDroopTrip n t) :=
  .branch (.done h) (.done h.ls)

theorem testModeRequest (h : Grows false s t) {level} : Runs false s (execTestModeRequest level t) :=
  .branch (.done h) (.branch (.done h.setZx) (.branch (.done h.ls.irq) (.done h.setZx)))

theorem zxCtrSelWrite (h : Grows false s t) {n w priv} : Runs false s (execZxCtrSelWrite n w priv t) :=
  .branch (.done h) (.branch (.done h.emit) (.branch (.done (Grows.branch (Grows.branch h.ls h).ls (.branch h.ls h)).irq.emit) (.done h.setSel.emit)))

theorem zxLsCtrlWrite (h : Grows z s t) {v} : Runs z s (execZxLsCtrlWrite v t) :=
  .branch (.done h) (.branch (.done h.emit) (.done (Grows.branch h h.wr).emit))

theorem zxApbAccessInReset (h : Grows z s t) {addr write v} : Runs z s (execZxApbAccessInReset addr write v t) :=
  .done (.branch h.emit h)

theorem arriveNew (h : Grows false s t) {l pin} : Grows false s (t.arriveNew l pin) :=
  h.ls.setZx.foldl fun _ _ h1 => .branch h1.setTrc h1

theorem arrive (h : Grows false s t) {l pin} : Grows false s (t.arrive l pin) :=
  .branch h h.arriveNew

theorem barrierArrival (h : Grows false s t) {l} : Runs false s (execBarrierArrival l t) :=
  .branch (.done h) (.done h.arrive)

theorem zxBarArriveWrite (h : Grows false s t) {v priv} : Runs false s (execZxBarArriveWrite v priv t) :=
  .branch (.done h) (.branch (.done h.emit) (.branch (.done h.ls.irq.emit) (.done h.arrive.emit)))

theorem sensorResult (h : Grows false s t) {id raw err} : Runs false s (execSensorResult id raw err t) := by
  dsimp only [execSensorResult]
  refine .branch (.done h) ?_
  split
  · exact .done h.ls
  · exact .branch (.done h.ls) (.branch (.done h.ls) (.done (.branch h.setZx.ls h.setZx.ls)))

theorem sensorWindowEnd (h : Grows false s t) : Runs false s (execSensorWindowEnd t) := by
  dsimp only [execSensorWindowEnd]
  split
  · exact .done h
  · exact .branch (.done h) (.done h.endWindow)

theorem groveSVote (h : Grows false s t) : Runs false s (execGroveSVote t) := by
  dsimp only [execGroveSVote]
  refine .branch (.done h) ?_
  split
  · exact .done h
  · split
    · exact .done h.setReg.modEntry.grsSwitch
    · exact .done (Grows.branch h.setReg.modEntry.ls.ls.irq.zxAlarm.triggerSource h.setReg.modEntry.ls).grsSwitch

theorem poisonAccept (h : Grows false s t) : Runs false s (execPoisonAccept t) := by
  dsimp only [execPoisonAccept]
  split
  · exact .done h
  · exact .done h.setZx.ls

theorem poisonStuck (h : Grows false s t) : Runs false s (execPoisonStuck t) := by
  dsimp only [execPoisonStuck]
  split
  · exact .done h
  · exact .branch (.done h) (.done h.setZx.irq.zxAlarm)

theorem quietWindowEdge (h : Grows false s t) : Runs false s (execQuietWindowEdge t) :=
  .branch (.done h) (.branch (.done h) (.done h.setZx.emit))

/-! ### ZxTrace -/

theorem traceArm (h : Grows false s t) {n} : Runs false s (execTraceArm n t) :=
  .done (.branch h.trcArm h)

theorem traceManualTrigger (h : Grows false s t) {n} : Runs false s (execTraceManualTrigger n t) :=
  .done (.branch h.trigger h)

theorem traceRelease (h : Grows false s t) {n} : Runs false s (execTraceRelease n t) :=
  .done (.branch h.trcRelease h)

theorem trcTrigger (h : Grows false s t) {c} : Runs false s (execTrcTrigger c t) :=
  .done (h.zxRun (.branch h.trigger.zxReply h.zxReply))

theorem trcReleaseCmd (h : Grows false s t) {c} : Runs false s (execTrcRelease c t) :=
  .done (h.zxRun (.branch h.trcRelease.zxReply h.zxReply))

theorem traceSourceRecord (h : Grows false s t) {n} : Runs false s (execTraceSourceRecord n t) :=
  .done (.branch h.putTrc h)

theorem traceLineTrigger (h : Grows false s t) {t' l} : Runs false s (execTraceLineTrigger t' l t) :=
  .done (.branch h.triggerSource h)

theorem traceTimeTrigger (h : Grows false s t) {n} : Runs false s (execTraceTimeTrigger n t) :=
  .branch (.done h) (.done h.setTrc.trigger)

theorem drainBurstIssue (h : Grows false s t) {n} : Runs false s (execDrainBurstIssue n t) := by
  dsimp only [execDrainBurstIssue]
  refine .branch (.done h) (.branch (.done (.branch h h.setZx.ls)) ?_)
  split
  · exact .done h
  · exact .done h.setTrc.setZx.emit

theorem advanceDwr (h : Grows false s t) {n k} : Grows false s (advanceDwr n k t) := by
  induction k generalizing t with
  | zero => exact h
  | succ k ih =>
    unfold Machine.advanceDwr
    split
    · exact h
    · exact .branch (ih h.setZx.wr.trcFree) h

theorem drainBresp (h : Grows false s t) {id ok} : Runs false s (execDrainBresp id ok t) := by
  dsimp only [execDrainBresp]
  split
  · exact .done h
  · exact .branch (.done (Grows.branch h h.ls).setZx) (.done (Grows.branch (Grows.branch h h.ls).setZx
      (Grows.branch h h.ls).setZx.setTrc.irq).advanceDwr.orphanBursts)

theorem traceDrdWrite (h : Grows z s t) {n v} : Runs z s (execTraceDrdWrite n v t) :=
  .done (.branch h.wr h)

theorem hangCondition (h : Grows false s t) : Runs false s (execHangCondition t) :=
  .branch (.done h) (.done (.branch h.setZx h.setZx.declareHang))

theorem hangTake (h : Grows false s t) : Runs false s (execHangTake t) :=
  .done (.branch h.declareHang h)

theorem hangReleaseWrite (h : Grows false s t) : Runs false s (execHangReleaseWrite t) :=
  .done (.branch h.releaseHang h)

theorem hangDeclare (h : Grows false s t) {c} : Runs false s (execHangDeclare c t) :=
  .done (h.zxRun h.declareHang.zxReply)

theorem hangRelease (h : Grows false s t) {c} : Runs false s (execHangRelease c t) :=
  .done (h.zxRun (.branch h.releaseHang.zxReply h.zxReply))

theorem hangDumpTaken (h : Grows z s t) : Runs z s (execHangDumpTaken t) :=
  .branch (.done h) (.done h.wr.wr.irq.ls.zxAlarm.modLink)

theorem logResend (h : Grows false s t) {c} : Runs false s (execLogResend c t) :=
  .done (h.zxRun (.branch h.resendFrom.endPass.zxReply h.resendFrom.endPass.zxReply))

theorem stemAckReceive (h : Grows z s t) {logv epoch} : Runs z s (execStemAckReceive logv epoch t) :=
  .branch (.done h.consume) (.branch (.done h.consume) (.branch (.done h.consume.viol) (.done h.consume.wr.wr)))

/-! ### ZxAdmin -/

theorem zxWipe (h : Grows false s t) : Grows false s t.zxWipe := by
  dsimp only [State.zxWipe]
  exact h.setZx.dropRegs.modLink

theorem zxClear (h : Grows false s t) : Grows false s t.zxClear :=
  h.zxWipe.setZx

theorem zxSetLc (h : Grows false s t) {lc} : Grows false s (t.zxSetLc lc) :=
  .branch h (Grows.branch h.setZx.wr h.setZx).zxClear

theorem zxFresh (h : Grows false s t) {keep lc} : Grows false s (t.zxFresh keep lc) :=
  h.dropRegs.set.setZx.setLink

theorem zxReset (h : Grows false s t) {kind low} : Grows false s (t.zxReset kind low) := by
  dsimp only [State.zxReset]
  refine .branch h.setZx ?_
  split <;> exact h.setZx.zxFresh

theorem zxColdReset (h : Grows false s t) {low} : Runs false s (execZxColdReset low t) :=
  .done h.zxReset

theorem zxWarmReset (h : Grows false s t) {low} : Runs false s (execZxWarmReset low t) :=
  .done h.zxReset

theorem zxLocalReset (h : Grows false s t) {low} : Runs false s (execZxLocalReset low t) :=
  .done h.zxReset

theorem gateTrace (h : Grows false s t) : Grows false s t.gateTrace :=
  h.foldl fun _ _ h1 => .branch h1.setTrc h1

theorem ungateTrace (h : Grows false s t) : Grows false s t.ungateTrace := by
  dsimp only [State.ungateTrace]
  exact h.foldl fun _ _ h1 => by split; exacts [h1, h1.putTrc.epochMark]

theorem zxRetain (h : Grows false s t) : Grows false s t.zxRetain :=
  h.zxWipe.dropRegs.set.setZx.setLink

theorem zxEnter (h : Grows false s t) {z'} : Grows false s (t.zxEnter z') := by
  unfold State.zxEnter
  extract_lets old zx₁ s₁ s₂ zx₂ s₃ s₄
  have h₁ : Grows false s s₁ := h.setZx
  have h₃ : Grows false s s₃ := .branch h₁.zxFresh.setZx (.branch (.branch h₁.zxRetain h₁)
    (.branch (.branch h₁.gateTrace h₁) (.branch h₁.ungateTrace h₁)))
  have h₄ : Grows false s s₄ := .branch (h₃.foldl fun _ _ h => h.setTap) h₃
  exact h₄.setZx.emit

theorem pwrSettle (h : Grows false s t) : Grows false s t.pwrSettle := by
  dsimp only [State.pwrSettle]
  split
  · exact h
  · exact .branch h h.zxEnter

theorem zxPowerRequest (h : Grows false s t) {z'} : Runs false s (execZxPowerRequest z' t) :=
  .branch (.done h) (.branch (.done h.zxEnter) (.done h.setZx.pwrSettle))

theorem capsCommandReceive (h : Grows false s t) {b} : Runs false s (execCapsCommandReceive b t) :=
  .branch (.done h) (.branch (.done h.consume.ls.ls.zxSendReply) (.done h.consume.ls.setZx.zxRefuse))

theorem newInc (h : Grows false s t) {inc} : Grows false s (t.newInc inc) :=
  .branch h h.setZx.modLink.wr.wr.ls.wr

theorem zxAdmit (h : Grows false s t) {c} : Runs false s (execZxAdmit c t) :=
  .done (h.zxInt (.branch h.zxReply h.wr.wr.wr.newInc.zxSetLc.zxReply))

theorem firstWrite (h : Grows false s t) {g} : Grows false s (t.firstWrite g) :=
  .branch h h.setZx.wr.wr

theorem zxShadowWrite (h : Grows false s t) {c} : Runs false s (execZxShadowWrite c t) :=
  .done (h.zxInt (.branch h.zxReply (.branch h.zxReply h.firstWrite.setZx.zxReply)))

theorem zxGrsImageWrite (h : Grows false s t) {c} : Runs false s (execZxGrsImageWrite c t) :=
  .done (h.zxInt (.branch h.zxReply (.branch h.zxReply (.branch h.setZx.zxReply h.firstWrite.setZx.wr.zxReply))))

theorem zxCfgDone (h : Grows false s t) {c} : Runs false s (execZxCfgDone c t) :=
  .done (h.zxInt (.branch (.branch h.setZx.showImage.zxReply h.zxReply) (.branch h.zxReply (.branch h.setZx.wr.zxReply h.zxReply))))

theorem zxArm (h : Grows false s t) {c} : Runs false s (execZxArm c t) :=
  .done (h.zxInt (.branch h.zxReply (.branch h.zxReply h.setZx.wr.zxReply)))

theorem zxCfgDrop (h : Grows false s t) {c} : Runs false s (execZxCfgDrop c t) :=
  .done (h.zxInt (.branch h.zxReply (.branch h.zxReply h.setZx.wr.zxReply)))

theorem zxLcSet (h : Grows false s t) {c} : Runs false s (execZxLcSet c t) :=
  .done (h.zxInt (.branch h.zxReply h.zxSetLc.zxReply))

theorem zxWtSet (h : Grows false s t) {c} : Runs false s (execZxWtSet c t) :=
  .done (h.zxInt (.branch h.zxReply (.branch h.setZx.zxReply (.branch h.zxReply h.setZx.zxReply))))

theorem applyShadow (h : Grows false s t) {a w} : Grows false s (t.applyShadow a w) := by
  dsimp only [State.applyShadow]
  split
  · exact .branch h.setSel h.setSel
  · exact h.setReg
  · exact h

theorem zxApply (h : Grows false s t) : Grows false s t.zxApply := by
  dsimp only [State.zxApply]
  split
  · exact h
  · exact .branch h (Grows.branch ((h.foldl fun _ _ h1 => h1.applyShadow).loadSel.loadQw.setZx.foldl fun _ _ h1 => .branch h1.epochMark h1)
      (h.foldl fun _ _ h1 => h1.applyShadow).loadSel.loadQw.setZx).wr.wr.wr.grsSwitch

/-! ### Access -/

theorem nextOr {o : Host.Outcome State Fault Refusal} (ho : Runs z s o) {t} : Grows z s (nextOr o t) := by
  obtain ⟨u, rfl, hu⟩ := ho
  exact hu

theorem storeField (h : Grows z s t) {i w f} : Grows z s (t.storeField i w f) := by
  dsimp only [State.storeField]
  split
  · exact h.wr
  · exact h.wr
  · exact .branch h.wr h
  · exact h
  · exact h

theorem store (h : Grows z s t) {r i w} : Grows z s (t.store r i w) :=
  h.foldl fun _ _ h => h.storeField

theorem winRead (h : Grows z s t) {off} : Grows z s (t.winRead off).2 := by
  dsimp only [State.winRead]
  refine .branchSnd ?_ ?_
  · split
    · exact h
    · exact h.draw
  · refine .branchSnd ?_ (.pair h)
    split
    · exact h
    · exact h.draw

theorem memRead (h : Grows z s t) {a} : Grows z s (t.memRead a).2 := by
  dsimp only [State.memRead]
  exact .branchSnd h.winRead (.branchSnd (.branchSnd h.draw (.pair h)) (.branchSnd (.pair h) (.pair h)))

theorem wordRead (h : Grows false s t) {x} : Grows false s (t.wordRead x).2 := by
  dsimp only [State.wordRead]
  refine .branchSnd (.pair h) (.branchSnd ?_ (.pair h.readEffect.setZx))
  split
  · exact h.setZx
  · exact h

theorem apbDeny (h : Grows z s t) : Grows z s t.apbDeny :=
  h.ls.irq

theorem apbRead (h : Grows false s t) {a priv} : Grows false s (t.apbRead a priv).2 := by
  dsimp only [State.apbRead]
  exact .branchSnd (.pair h.apbDeny) (.pair (by split; exacts [h.wordRead, h.memRead]))

theorem hdCfg (h : Grows false s t) {w} : Grows false s (t.hdCfg w) :=
  h.store.setZx

theorem trcCtrl (h : Grows false s t) {n w} : Grows false s (t.trcCtrl n w) :=
  .branch (Grows.branch (Grows.branch h.trcArm h).trigger (.branch h.trcArm h)).trcRelease
    (.branch (Grows.branch h.trcArm h).trigger (.branch h.trcArm h))

theorem blzCtrl (h : Grows false s t) {u w} : Grows false s (t.blzCtrl u w) :=
  .branch (nextOr (Grows.branch (nextOr h.blzFlushRf) h).blzCntClr) (.branch (nextOr h.blzFlushRf) h)

theorem zxStore (h : Grows false s t) {r i w} : Grows false s (t.zxStore r i w).2 := by
  dsimp only [State.zxStore]
  split
  · exact .branchSnd (.pair h.ls.irq) (.pair h.setSel)
  · exact .branch h.ls h
  · exact .branch h.ls h
  · exact .branch h h.store
  · exact h.arrive
  · exact h.store.setTrc
  · exact h.wr
  · exact h.trcCtrl
  · exact h.hdCfg
  · exact .branch (Grows.branch h.declareHang h).releaseHang (.branch h.declareHang h)
  · exact .branch h.retrain h
  · exact nextOr h.lacArm
  · exact .branchSnd (.pair h.blzWrite) (.pair h.blzWrite.ls)
  · exact .branchSnd (.pair h.blzWrite) (.pair h.blzWrite.ls)
  · exact .branchSnd (.pair h.blzWrite) (.pair h.blzWrite.ls)
  · exact h.blzCtrl
  · exact .branch h.ls h.store

theorem wordWrite (h : Grows false s t) {x w} : Grows false s (t.wordWrite x w).2 := by
  dsimp only [State.wordWrite]
  exact .branchSnd h.zxStore (.branchSnd (.pair h.setZx) (.zxStore (by split; exacts [h.setZx, h.draw])))

theorem apbWrite (h : Grows false s t) {a w priv full} : Grows false s (t.apbWrite a w priv full).2 := by
  dsimp only [State.apbWrite]
  refine .branchSnd (.pair (.branch h.apbDeny.ls h.apbDeny)) (.branchSnd (.pair h.irq) ?_)
  split
  · exact h.wordWrite
  · exact h

theorem ringWrite (h : Grows z s t) {f en r i w} : Grows z s (t.ringWrite f en r i w) :=
  .branch h.bump.violation h.store

theorem qpCfg (h : Grows z s t) {i w} : Grows z s (t.qpCfg i w) :=
  .branch (.branch (.branch h.bump.violation h.wr.wr) h) (.branch (Grows.branch (.branch h.bump.violation h.wr.wr) h).disableQp
    (nextOr (Grows.branch (.branch h.bump.violation h.wr.wr) h).qpEnable))

theorem evCfg (h : Grows z s t) {f w} : Grows z s (t.evCfg f w) := by
  unfold State.evCfg
  extract_lets en n s₁ s₂ up
  have h₁ : Grows z s s₁ := .branch (.branch h.bump.violation h.wr) h
  exact .branch h₁ (.branch h₁.disableRing (.branch h₁.wr.set.post h₁.wr))

theorem stemCtrl (h : Grows z s t) {p w} : Grows z s (t.stemCtrl p w) :=
  .branch (Grows.branch h.wr.setHold h.wr).retrain (.branch h.wr.setHold h.wr)

theorem cnpCtrl (h : Grows z s t) {q w} : Grows z s (t.cnpCtrl q w) := by
  unfold State.cnpCtrl
  extract_lets s₁ s₂ s₃ s₄
  have h₂ : Grows z s s₂ := .branch h.wr.setHold h.wr
  have h₃ : Grows z s s₃ := .branch h₂.retrain h₂
  exact .branch (.branch h₃.wr.setPstate h₃.wr) h₃.wr.openPort

theorem queueSts (h : Grows z s t) {k w} : Grows z s (t.queueSts k w) := by
  dsimp only [State.queueSts]
  split
  · exact h
  · exact .branch (nextOr h.setQueue.queueCntClr) h.setQueue

theorem identWrite (h : Grows z s t) {w} : Grows z s (t.identWrite w) :=
  h.store.foldl fun _ _ h1 => .branch h1.openPort h1

theorem bxStore (h : Grows z s t) {f r i w} : Grows z s (t.bxStore f r i w) := by
  dsimp only [State.bxStore]
  split
  · exact h.queueSts
  · exact .branch h.stemCtrl h.wr
  · exact h.cnpCtrl
  · exact h.blzWrite
  · exact h.blzWrite
  · exact h.blzWrite
  · exact nextOr h.grvLaneCtrlWrite
  · exact h.store.wr
  · exact h.identWrite
  · exact h.set.store
  · exact h.store.set
  · exact nextOr h.dmaDoorbell
  · exact h.closeGauges.store
  · exact h.closeGauges.store
  · exact h.closeGauges.store
  · exact .branch h.set h
  · exact .branch (nextOr h.bootMailboxGo) h
  · exact .branch h.store h
  · exact h.ringWrite
  · exact h.ringWrite
  · exact h.ringWrite
  · exact h.qpCfg
  · exact h.evCfg
  · exact (nextOr (nextOr h.cqHeadWrite).sqDoorbell)
  · exact nextOr h.evHeadWrite
  · exact .branch h h.store
  · exact .branch h h.store
  · exact h.store

theorem barWrite (h : Grows z s t) {f r i w} : Grows z s (t.barWrite f r i w) :=
  .branch (Grows.branch h.bump.violation h).bxStore (.branch h.bump.violation h)

theorem registerWrite (h : Grows false s t) {a w strb} : Runs false s (execRegisterWrite a w strb t) := by
  dsimp only [execRegisterWrite]
  split
  · exact .branch (.done h) (.branch (.done h.emit) (.done h.apbWrite.emit))
  · exact .done (.branch h.barWrite h)

theorem registerRead (h : Grows false s t) {a} : Runs false s (execRegisterRead a t) := by
  dsimp only [execRegisterRead]
  split
  · exact .branch (.done h) (.branch (.done h.emit) (.done h.apbRead.emit))
  · exact .branch (.done h) (.branch (.done h.readEffect.emit) (.done h.emit))

theorem zxRegRead (h : Grows false s t) {c} : Runs false s (execZxRegRead c t) :=
  .done (h.zxRun (.branch h.zxReply (.branch (.branch h.apbRead.zxReply h.apbRead.zxReply)
    (.branch h.apbRead.apbRead.zxReply h.apbRead.apbRead.zxReply))))

theorem zxRegWrite (h : Grows false s t) {c} : Runs false s (execZxRegWrite c t) :=
  .done (h.zxRun (.branch h.zxReply (.branch h.apbWrite.zxReply h.apbWrite.apbWrite.zxReply)))

/-! ### Correlator -/

theorem setGroup (h : Grows z s t) {x} : Grows z s (t.setGroup x) :=
  h.set

theorem takeLag (h : Grows z s t) {home group n addr v hit} : Grows z s (t.takeLag home group n addr v hit) := by
  dsimp only [State.takeLag]
  refine .branch (Grows.branch h.setCorDie.wr.setReason h.setCorDie.wr).mirrorDie ?_
  split
  · exact h.setGroup
  · exact h

theorem sendLag (h : Grows z s t) {home group n vals} : Grows z s (t.sendLag home group n vals) :=
  h.foldl fun _ _ h1 => .branch (h1.foldl fun _ _ h => h.takeLag) h1.sendMsg

theorem processEpoch (h : Grows z s t) {x g n} : Grows z s (t.processEpoch x g n) :=
  h.bump.bump.bump.setGroup.mirror.sendLag

theorem skipEpoch (h : Grows z s t) {x g n} : Grows z s (t.skipEpoch x g n) :=
  h.bump.setGroup.mirror.sendLag

theorem endGroup (h : Grows z s t) {home num n} : Grows z s (t.endGroup home num n) :=
  .branch h h.set

theorem advanceGroup (h : Grows z s t) {home num k} : Grows z s (State.advanceGroup home num k t) := by
  induction k generalizing t with
  | zero => exact h
  | succ k ih =>
    unfold State.advanceGroup
    split
    · exact h
    · split
      · exact h
      · split
        · exact ih h.setGroup.endGroup
        · exact .branch (ih h.skipEpoch) (.branch (ih h.processEpoch) h)

theorem runGroup (h : Grows z s t) {home num} : Grows z s (t.runGroup home num) :=
  h.advanceGroup

theorem digestReceive (h : Grows z s t) {q src msgId g} : Runs z s (execDigestReceive q src msgId g t) :=
  .branch (.done h.consume.e2eTake) (.done h.consume.e2eTake.takeDigest.runGroup)

theorem barWaitExpiry (h : Grows z s t) {home num} : Runs z s (execBarWaitExpiry home num t) :=
  .done h.runGroup

theorem lagReturnReceive (h : Grows z s t) {q src msgId home group n vals} : Runs z s (execLagReturnReceive q src msgId home group n vals t) :=
  .branch (.done h.consume.e2eTake) (.done (h.consume.e2eTake.foldl fun _ _ h => h.takeLag))

theorem startGroups (h : Grows z s t) {new} : Grows z s (t.startGroups new) :=
  h.set

theorem probeRetryTimeout (h : Grows z s t) {d} : Runs z s (execProbeRetryTimeout d t) := by
  dsimp only [execProbeRetryTimeout]
  split
  · exact .done h
  · exact .branch (.done h) (.branch (.done h.sendProbe) (.done h.bump.endProbe.fenceDie))

theorem probeReplyReceive (h : Grows z s t) {d status} : Runs z s (execProbeReplyReceive d status t) :=
  .done (Grows.branch h.consume.setZxPort.endProbe h.consume.setZxPort).issueZx

theorem dieOp (h : Grows z s t) {c op n f} (hf : ∀ d, Grows z s (f d t)) : Grows z s (t.dieOp c op n f) :=
  h.checked (by split; exacts [h.reply, hf _])

theorem lagRead (h : Grows z s t) {c} : Runs z s (execLagRead c t) := by
  dsimp only [execLagRead]
  refine .done (h.checkedPtr ?_)
  refine .branch ?_ ?_
  · split
    · exact h.replyBlob
    · exact h.reply
  · refine .branch ?_ h.reply
    split
    · exact h.reply
    · exact h.replyBlob

theorem driftRead (h : Grows z s t) {c} : Runs z s (execDriftRead c t) :=
  .done (h.dieOp fun _ => .branch h.reply h.reply)

theorem suspectRead (h : Grows z s t) {c} : Runs z s (execSuspectRead c t) :=
  .done (h.dieOp fun _ => h.reply)

theorem suspectClear (h : Grows z s t) {c} : Runs z s (execSuspectClear c t) :=
  .done (h.dieOp fun _ => .branch h.reply h.clearReasons.reply)

theorem lookoutReport (h : Grows z s t) {c} : Runs z s (execLookoutReport c t) := by
  dsimp only [execLookoutReport]
  refine .done (h.checked ?_)
  refine .branch (.branch h.reply h.set.sendMsg) ?_
  split
  · exact h.reply
  · exact .branch h.reply (.branch h.reply h.startProbe)

theorem lookoutAdmit (h : Grows z s t) {c} : Runs z s (execLookoutAdmit c t) :=
  .done (h.dieOp fun _ => .branch h.reply (.branch h.reply h.readmit.reply))

theorem lookoutStatus (h : Grows z s t) {c} : Runs z s (execLookoutStatus c t) :=
  .done (h.dieOp fun _ => h.reply)

theorem lookoutProbe (h : Grows false s t) {c} : Runs false s (execLookoutProbe c t) :=
  .branch (.done (.branch h.zxReply h)) (.done (h.dieOp fun _ => h.startProbe))

theorem dieFence (h : Grows z s t) {c} : Runs z s (execDieFence c t) :=
  .done (h.dieOp fun _ => .branch h.reply (.branch h.reply h.fenceDie.reply))

/-! ### Epoch -/

theorem mergePartial (h : Grows z s t) {x p} : Grows z s (t.mergePartial x p) :=
  .branch h.setCtx (.branch h.setCtx.bump h.setCtx.bump.signal)

theorem openCtx (h : Grows z s t) {n} : Grows z s (t.openCtx n) := by
  dsimp only [State.openCtx]
  exact (h.set.foldl fun _ _ h => by split; exacts [h, h.mergePartial]).classifyHeld

theorem classifyOlder (h : Grows z s t) {n} : Grows z s (t.classifyOlder n) :=
  h.foldl fun _ _ h => h.classifyHeld

theorem bxEpochClose (h : Grows z s t) : Runs z s (execBxEpochClose t) := by
  dsimp only [execBxEpochClose]
  split
  · exact .done h
  · exact .branch (.done h) (.branch (.done (Grows.branch h.classifyOlder h).set.targetsGone.restage.classifyHeld)
      (.branch (.done (Grows.branch h.classifyOlder h).set.targetsGone.restage.openCtx)
      (.done (Grows.branch h.classifyOlder h).set.targetsGone.restage.set.bump)))

theorem contextFree (h : Grows z s t) : Runs z s (execContextFree t) := by
  dsimp only [execContextFree]
  split
  · exact .done h
  · exact .branch (.done h.set.openCtx) (.done h)

theorem epochHorizon (h : Grows z s t) : Runs z s (execEpochHorizon t) :=
  .done h.set

theorem provisionalRevision (h : Grows z s t) {n} : Runs z s (execProvisionalRevision n t) := by
  dsimp only [execProvisionalRevision]
  split
  · exact .branch (.done (h.foldl fun _ _ h1 => h1.putRecord.toChildren).setCtx) (.done h)
  · exact .done h

theorem epochRead (h : Grows z s t) {c} : Runs z s (execEpochRead c t) := by
  dsimp only [execEpochRead]
  refine .done (h.checkedPtr ?_)
  refine .branch h.reply (.branch h.reply ?_)
  split
  · next e => exact (h.epochAnswer e)
  · exact h.set

theorem readWaitExpiry (h : Grows z s t) : Runs z s (execReadWaitExpiry t) :=
  .done (h.answerWaits.set.foldl fun _ _ h => h.bump.reply)

theorem epochStatus (h : Grows z s t) {c} : Runs z s (execEpochStatus c t) :=
  .done (h.checked h.reply)

theorem cfgStage (h : Grows z s t) {c cfg} : Runs z s (execCfgStage c cfg t) :=
  .done (h.checked (.branch h.reply (.branch h.reply ((h.holdStaged.foldl fun _ _ h => h.sendCfg).foldl fun _ _ h => h.sendCfg).tellScope.reply)))

theorem cfgDistribution (h : Grows z s t) {q src msgId m} : Runs z s (execCfgDistribution q src msgId m t) := by
  dsimp only [execCfgDistribution]
  refine .branch (.done h.consume.e2eTake) ?_
  split
  · exact .branch (.done (h.consume.e2eTake.foldl fun _ _ h => h.sendCfg)) (.branch (.done (h.consume.e2eTake.foldl fun _ _ h => h.sendCfg))
      (.done (h.consume.e2eTake.holdStaged.foldl fun _ _ h => h.sendCfg).tellScope))
  · exact .done h.consume.e2eTake.noteAnswer
  · exact .done h.consume.e2eTake.noteScope
  · split
    · exact .done (.branch h.consume.e2eTake.dropStaged h.consume.e2eTake)
    · exact .done h.consume.e2eTake
  · exact .done h.consume.e2eTake

theorem armHere (h : Grows z s t) {g t' m} : Grows z s (t.armHere g t' m) := by
  dsimp only [State.armHere]
  exact h.setStaged.foldl fun _ _ h => by split; exacts [h.zxInternal, h]

theorem cfgApplyAt (h : Grows z s t) {c} : Runs z s (execCfgApplyAt c t) := by
  dsimp only [execCfgApplyAt]
  refine .done (h.checkedPtr ?_)
  refine .branch h.reply ?_
  split
  · exact h.reply
  · refine .branch h.reply ?_
    split
    · exact h.reply
    · exact .branch h.reply (.branch h.replyBlob (h.armHere.foldl fun _ _ h => h.sendCfg).reply)

theorem cfgAbort (h : Grows z s t) {c} : Runs z s (execCfgAbort c t) := by
  dsimp only [execCfgAbort]
  refine .done (h.checked ?_)
  split
  · exact h.reply
  · exact .branch h.reply (.branch h.reply (h.dropStaged.foldl fun _ _ h => h.sendCfg).reply)

theorem cfgStatus (h : Grows z s t) {c} : Runs z s (execCfgStatus c t) :=
  .done (h.checked h.reply)

theorem cfgArm (h : Grows z s t) {q src msgId m} : Runs z s (execCfgArm q src msgId m t) := by
  dsimp only [execCfgArm]
  refine .branch (.done h.consume.e2eTake) ?_
  split
  · split
    · exact .branch (.done h.consume.e2eTake.armHere.sendCfg) (.done h.consume.e2eTake.sendCfg)
    · exact .done h.consume.e2eTake.sendCfg
  · exact .done h.consume.e2eTake.noteAnswer
  · exact .done h.consume.e2eTake
  · exact .done h.consume.e2eTake
  · exact .done h.consume.e2eTake

/-! ### Commit -/

theorem mirrorState (h : Grows z s t) : Grows z s t.mirrorState :=
  h.foldl fun _ _ h => h.mirrorDie

theorem allDigests (h : Grows z s t) {n r} : Grows z s (t.allDigests n r) :=
  h.sendDigests.foldl fun _ _ h => h.sendDigests

theorem pruneEpoch (h : Grows z s t) {n} : Grows z s (t.pruneEpoch n) :=
  h.set

theorem applyCommit (h : Grows z s t) {n} : Grows z s (t.applyCommit n) := by
  dsimp only [State.applyCommit]
  exact .answerWaits (.afterCommitLog (.foldl (.evictRecords (.mirrorState (.foldl
    (.groupsDue (by split; exacts [h.wr.wr.classifyHeld.pruneEpoch.lookoutUpdate,
    h.wr.wr.classifyHeld.pruneEpoch.lookoutUpdate.healthUpdate.allDigests.trsHistory])) fun _ _ h => h.runGroup))) fun _ _ h => h.advanceAck))

theorem proposeCommit (h : Grows z s t) : Grows z s t.proposeCommit := by
  dsimp only [State.proposeCommit]
  split
  · exact h
  · split
    · exact .branch h (.setCtx (.foldlSnd h fun _ _ hp => by exact hp.mirror))
    · exact h

theorem finishCommit (h : Grows z s t) : Grows z s t.finishCommit := by
  dsimp only [State.finishCommit]
  split
  · exact h
  · split
    · exact h
    · exact .branch h (h.foldl fun _ _ h => h.putRecord).announce.applyCommit

theorem rootCommit (h : Grows z s t) : Runs z s (execRootCommit t) :=
  .done h.finishCommit.proposeCommit

theorem askSync (h : Grows z s t) : Grows z s t.askSync := by
  dsimp only [State.askSync]
  split
  · exact h
  · exact h.sendMsg

theorem dropWrong (h : Grows z s t) {o} : Grows z s (t.dropWrong o) :=
  h.set

theorem applyNotices (h : Grows z s t) {k} : Grows z s (applyNotices k t) := by
  induction k generalizing t with
  | zero => exact h
  | succ k ih =>
    unfold Machine.applyNotices
    split
    · exact h
    · split
      · exact h
      · exact .branch (ih h.applyCommit) h.dropWrong.askSync

theorem runNotices (h : Grows z s t) : Grows z s t.runNotices :=
  h.applyNotices

theorem commitNotice (h : Grows z s t) {q src msgId o} : Runs z s (execCommitNotice q src msgId o t) :=
  .branch (.done h.consume) (.branch (.done h.consume.e2eTake) (.branch (.done h.consume.e2eTake.viol)
    (.done (Grows.branch h.consume.e2eTake.toChildren h.consume.e2eTake.toChildren.set).runNotices)))

theorem sendSince (h : Grows z s t) {a wm} : Grows z s (t.sendSince a wm) :=
  h.foldl fun _ _ h => h.sendMsg

theorem syncTo (h : Grows z s t) {n k} : Grows z s (syncTo n k t) := by
  induction k generalizing t with
  | zero => exact h
  | succ k ih => exact .branch (.branch (ih h.wr.classifyHeld.pruneEpoch) h) (.branch h.wr.wr.classifyHeld.pruneEpoch h)

theorem runSync (h : Grows z s t) : Grows z s t.runSync := by
  dsimp only [State.runSync]
  split
  · exact h
  · exact .branch h.syncTo.set.wr.runNotices.answerWaits h.syncTo.answerWaits

theorem wmSync (h : Grows z s t) {q src m} : Runs z s (execWmSync q src m t) := by
  dsimp only [execWmSync]
  split
  · exact .done (.branch h.runSync h.runSync.askSync)
  · exact .branch (.done h.consume) (.done h.consume.sendMsg.sendSince)
  · refine .branch (.done h.consume) ?_
    split
    · exact .done h.consume.wr.runNotices.answerWaits
    · exact .done h.consume.set.runSync

theorem applyTree (h : Grows z s t) : Grows z s t.applyTree := by
  dsimp only [State.applyTree]
  exact .refreshRoles (by split; exacts [h.set, h.set.wr])

theorem resendRefused (h : Grows z s t) {ts} : Grows z s (t.resendRefused ts) := by
  dsimp only [State.resendRefused]
  exact h.foldl fun _ _ h1 => by split; exacts [h1.resendGen, .branch h1.resendTo h1]

theorem startSync (h : Grows z s t) : Grows z s t.startSync :=
  .branch h.wr (.branch h h.askSync)

theorem restartOver (h : Grows z s t) : Grows z s t.restartOver :=
  (Grows.branch h.set h).releaseIncs

theorem bxApply (h : Grows z s t) {g t' m} : Grows z s (t.bxApply g t' m) :=
  h.set.applyTree.startGroups.clearBins.resendRefused.startSync.restartOver

theorem cfgApplyInstant (h : Grows false s t) {p} : Runs false s (execCfgApplyInstant p t) := by
  dsimp only [execCfgApplyInstant]
  split
  · exact .done h.zxApply
  · split
    · exact .done h
    · split
      · exact .done h
      · exact .done (.branch h.bxApply h)

theorem recordReceive (h : Grows z s t) {q src bytes} : Runs z s (execRecordReceive q src bytes t) := by
  dsimp only [execRecordReceive]
  refine .branch (.done h.consume.viol) (.branch (.done h.consume.toChildren) ?_)
  split
  · exact .branch (.done h.consume.toChildren.viol.signal.alarmUp) (.done h.consume.toChildren)
  · exact .done (.branch h.consume.toChildren.putRecord.runSync.runNotices h.consume.toChildren.putRecord)

/-! ### Reduction -/

theorem poisonCtx (h : Grows z s t) {n} : Grows z s (t.poisonCtx n) := by
  dsimp only [State.poisonCtx]
  split
  · exact h
  · exact h.setCtx.bump.signal

theorem sendPartial (h : Grows z s t) {x supplement} : Grows z s (t.sendPartial x supplement) := by
  dsimp only [State.sendPartial]
  split
  · exact h.setCtx.emitPartial
  · exact h

theorem partialFlush (h : Grows z s t) {n ecc} : Runs z s (execPartialFlush n ecc t) := by
  dsimp only [execPartialFlush]
  split
  · exact .done (.branch h.poisonCtx h)
  · exact .branch (.done (Grows.branch h.poisonCtx h).sendPartial) (.done (.branch h.poisonCtx h))

theorem partialReady (h : Grows z s t) {n} : Runs z s (execPartialReady n t) := by
  dsimp only [execPartialReady]
  split
  · exact .done h
  · exact .branch (.done h.sendPartial) (.done h)

theorem supplementPartial (h : Grows z s t) {n} : Runs z s (execSupplementPartial n t) := by
  dsimp only [execSupplementPartial]
  split
  · exact .done h
  · exact .branch (.done h.sendPartial) (.done h)

theorem takeReceived (h : Grows z s t) {p} : Grows z s (t.takeReceived p) := by
  dsimp only [State.takeReceived]
  refine .branch h.bump.bump (.branch h.bump.bump ?_)
  split
  · exact h.bump.keepReceived
  · exact h.bump.keepReceived.mergePartial

theorem partialReceive (h : Grows z s t) {q src msgId p ecc} : Runs z s (execPartialReceive q src msgId p ecc t) :=
  .branch (.done h.consume.bump) (.branch (.done h.consume.viol) (.branch (.done h.consume.e2eTake)
    (.branch (.done h.consume.e2eTake.sendMsg) (.done (Grows.branch h.consume.e2eTake.poisonCtx h.consume.e2eTake).takeReceived))))

theorem restoreItem (h : Grows z s t) {m} : Grows z s (t.restoreItem m) := by
  dsimp only [State.restoreItem]
  split
  · exact .branch h (.branch h.set.classify h.set)
  · exact h.setDie.wr
  · exact h.restoreDie.lastTest
  · exact h.set
  · exact h.set
  · exact h.putRecord

theorem mirrorRestoreReceive (h : Grows z s t) {q src msgId items} : Runs z s (execMirrorRestoreReceive q src msgId items t) :=
  .branch (.done h.consume.e2eTake) (.done ((h.consume.e2eTake.set.foldl fun _ _ h => h.restoreItem).recomputeAll.foldl fun _ _ h =>
    h.advanceAck).releaseIncs)

/-! ### Taproot -/

theorem taprootTimeLatch (h : Grows z s t) {answered} : Runs z s (execTaprootTimeLatch answered t) :=
  .done (.branch h.set.wr h.set.wr)

theorem tapKick (h : Grows z s t) {v} : Runs z s (execTapKick v t) :=
  .done (.branch h.set h)

theorem heartwoodRequest (h : Grows z s t) {ev} : Runs z s (execHeartwoodRequest ev t) := by
  dsimp only [execHeartwoodRequest]
  split
  · exact .done (by split; exacts [h, h.signal])
  · exact .done (.hwWrite (.set (by split; exacts [h, h.signal])))

theorem tapSelfReset (h : Grows z s t) : Grows z s t.tapSelfReset :=
  h.set.signal

theorem taprootSelfReset (h : Grows z s t) : Runs z s (execTaprootSelfReset t) :=
  .done h.tapSelfReset

theorem hwRead (h : Grows z s t) {c} : Runs z s (execHwRead c t) :=
  .done (h.checked (.branch (.branch h.bump.reply h.reply) h.reply))

theorem authorized (h : Grows z s t) {command blk} : Grows z s (t.authorized command blk).2 :=
  h.wr

theorem hwClear (h : Grows z s t) {c} : Runs z s (execHwClear c t) :=
  .done (h.checked (.branch h.wr.set.signal.reply h.wr.reply))

theorem safetyStatus (h : Grows z s t) {c} : Runs z s (execSafetyStatus c t) :=
  .done (h.checked h.reply)

theorem hangDumpRead (h : Grows z s t) {c} : Runs z s (execHangDumpRead c t) :=
  .done (h.checked (.branch h.reply (.branch (.branch h.bump.reply h.wr.reply) h.wr.reply)))

theorem jtagExtest (h : Grows z s t) {bits_} : Runs z s (execJtagExtest bits_ t) :=
  .branch (.done h.set.emit) (.done h.set)

theorem jtagIdcode (h : Grows z s t) : Runs z s (execJtagIdcode t) :=
  .done h.set.emit

theorem jtagSamplePreload (h : Grows z s t) {bits_} : Runs z s (execJtagSamplePreload bits_ t) :=
  .branch (.done h.set.emit) (.done h.draw.set.emit)

theorem jtagHdRead (h : Grows z s t) : Runs z s (execJtagHdRead t) :=
  .branch (.done h.set.emit) (.done (Grows.branch h.set.wr h.set).emit)

theorem jtagBypass (h : Grows z s t) {bits_} : Runs z s (execJtagBypass bits_ t) :=
  .done h.set.emit

theorem wtArmCmd (h : Grows z s t) {c} : Runs z s (execWtArm c t) := by
  dsimp only [execWtArm]
  refine .done (h.checked ?_)
  refine .branch ?_ h.reply
  split
  · exact h.wtArm.reply
  · exact h.wtArm.zxSend

theorem wtOff (h : Grows z s t) {tgt} : Grows z s (t.wtOff tgt) := by
  dsimp only [State.wtOff]
  refine .branch ?_ h
  split
  · exact h.wtDisarm
  · exact h.wtDisarm.zxInternal

theorem wtDisarmCmd (h : Grows z s t) {c} : Runs z s (execWtDisarm c t) :=
  .done (h.checked (Grows.branch (h.foldl fun _ _ h => h.wtOff) h.wtOff).reply)

theorem wtStatus (h : Grows z s t) {c} : Runs z s (execWtStatus c t) :=
  .done (h.checkedPtr h.replyBlob)

/-! ### Reset -/

theorem bxWipe (h : Grows z s t) {k} : Grows z s (t.bxWipe k) :=
  ((h.dropRegs (p := fun key => !zxKey key && !bxKeep k (t.dumpKept k) key)).setHbm (x := {}) fun _ => rfl).set

theorem bxReset (h : Grows z s t) {k} : Grows z s (t.bxReset k) :=
  (Grows.branch h.signal.wr.wr h.signal.wr).wtResetOff.bxWipe.set

theorem askedReset (h : Grows z s t) {c k} : Grows z s (t.askedReset c k) :=
  .branch h.reply.writeReplies h.reply.writeReplies.bxReset

theorem sysReset (h : Grows z s t) {c kind f} (hf : Grows z s (f t)) : Grows z s (t.sysReset c kind f) :=
  h.checked (.branch h.reply hf)

theorem sysResetWarm (h : Grows z s t) {c} : Runs z s (execSysResetWarm c t) :=
  .done (h.sysReset h.askedReset)

theorem sysResetCold (h : Grows z s t) {c} : Runs z s (execSysResetCold c t) :=
  .done (h.sysReset h.askedReset)

theorem powerOn (h : Grows z s t) : Runs z s (execPowerOn t) :=
  .done h.bxReset

theorem railBelowMinimum (h : Grows z s t) : Runs z s (execRailBelowMinimum t) :=
  .done (.branch h h.detect.bxReset)

theorem powerLoss (h : Grows z s t) : Runs z s (execPowerLoss t) :=
  .done h.bxWipe.dropRegs.set

theorem keepQueues (h : Grows z s t) : Grows z s t.keepQueues :=
  h.set

theorem portReset (h : Grows z s t) {e} : Grows z s (t.portReset e) := by
  dsimp only [State.portReset]
  exact .resetOff (.wtResetOff (.setLink (.keepQueues (by split; exacts [(h.foldl fun _ _ h1 => by split; exacts [.branch h1 h1.freeBuf,
    h1]).setPstate.dropRegs.wr.setPort, (Grows.branch h.flushZx h).wr.set, h]))))

theorem sysResetStemPort (h : Grows z s t) {c} : Runs z s (execSysResetStemPort c t) :=
  .done (h.sysReset (.branch h.reply h.portReset.reply))

theorem sysResetCanopyPort (h : Grows z s t) {c} : Runs z s (execSysResetCanopyPort c t) :=
  .done (h.sysReset (.branch h.reply h.portReset.reply))

theorem clusterReset (h : Grows z s t) {cl} : Grows z s (t.clusterReset cl) :=
  ((h.foldl fun _ _ h1 => h1.foldl fun _ _ h2 => h2.finishJob).foldl fun _ _ h => h.setRctx).keepQueues.wtResetOff.resetOff

theorem sysResetCluster (h : Grows z s t) {c} : Runs z s (execSysResetCluster c t) :=
  .done (h.sysReset (.branch h.reply h.clusterReset.reply))

theorem setUp (h : Grows z s t) {u} : Grows z s (t.setUp u) :=
  h.set

theorem toPhase (h : Grows z s t) {n} : Grows z s (t.toPhase n) :=
  h.setUp

theorem hbmFail (h : Grows z s t) : Grows z s t.hbmFail :=
  .branch h.wr.toPhase h.setUp.bxReset

theorem bringupRailsUp (h : Grows z s t) {ok} : Runs z s (execBringupRailsUp ok t) :=
  .branch (.done h) (.done (.branch h.toPhase h.wr.toPhase))

theorem bringupPllLock (h : Grows z s t) {ok} : Runs z s (execBringupPllLock ok t) :=
  .branch (.done h) (.done (.branch h.toPhase h.wr.toPhase))

theorem pcieLinkUp (h : Grows z s t) : Runs z s (execPcieLinkUp t) :=
  .done (.branch h h.setUp)

theorem hbmTrainingDone (h : Grows z s t) {ok} : Runs z s (execHbmTrainingDone ok t) :=
  .branch (.done h) (.done (.branch h.toPhase h.hbmFail))

theorem bringupTimeout (h : Grows z s t) {step} : Runs z s (execBringupTimeout step t) := by
  dsimp only [execBringupTimeout]
  exact .done (by split; exacts [.branch h.wr.toPhase h, .branch h.wr.toPhase h, .branch h.wr.toPhase h, .branch h.hbmFail h, h])

theorem applySizes (h : Grows z s t) : Grows z s t.applySizes :=
  h.foldl fun _ _ h => h.wr.wr

theorem lcEnter (h : Grows z s t) {new key} : Grows z s (t.lcEnter new key) :=
  (Grows.branch (Grows.branch h.wr.bump.set.wr.wr.wr h.wr.bump.set).set.wr (.branch h.wr.bump.set.wr.wr.wr h.wr.bump.set)).signal

theorem clearingDone (h : Grows z s t) : Runs z s (execClearingDone t) := by
  dsimp only [execClearingDone]
  exact .branch (.done h) (.branch (.done (.setUp (.resetOff (.wr (by split; exacts [h.applySizes, h.applySizes.lcEnter])))))
    (.done (.wardenStart (.setUp (.resetOff (.wr (by split; exacts [h.applySizes, h.applySizes.lcEnter])))))))

theorem enterP2 (h : Grows z s t) {c} : Grows z s (t.enterP2 c) :=
  h.setUp.set.wr.reply

theorem enterP3 (h : Grows z s t) {c} : Grows z s (t.enterP3 c) :=
  (h.reply.writeReplies.foldl fun _ _ h => h.setLstate).setUp.wr

theorem powerSet (h : Grows z s t) {c} : Runs z s (execPowerSet c t) :=
  .branch (.done h) (.done (h.checked (.branch h.reply (.branch h.reply (.branch h.reply
    (.branch h.enterP3 (.branch (.branch h.setUp h.enterP2) h.setUp.wr.reply)))))))

theorem p2Entry (h : Grows z s t) : Runs z s (execP2Entry t) := by
  dsimp only [execP2Entry]
  split
  · exact .done h
  · exact .done (.branch h h.enterP2)

theorem powerThrottle (h : Grows z s t) {w} : Runs z s (execPowerThrottle w t) :=
  .done (.branch h.wrSat.setUp.wr.bump h.wrSat.setUp.wr)

theorem lcStatus (h : Grows z s t) {c} : Runs z s (execLcStatus c t) :=
  .done (h.checked h.reply)

theorem lcBegin (h : Grows z s t) {c new key} : Grows z s (t.lcBegin c new key) :=
  h.wr.reply.writeReplies.bxReset.wr.setUp

theorem lcTransition (h : Grows z s t) {c} : Runs z s (execLcTransition c t) := by
  dsimp only [execLcTransition]
  refine .done (h.checked ?_)
  split
  · exact h.reply
  · refine .branch h.bump.reply (.branch h.reply (.branch h.wr.reply (.branch ?_ h.wr.lcBegin)))
    split
    · exact h.wr.reply
    · exact h.wr.zxInternal.reply

theorem autoReset (h : Grows z s t) : Grows z s t.autoReset := by
  dsimp only [State.autoReset]
  split
  · exact .branch h h.bxReset
  · exact h.bxReset
  · exact h

theorem wedgeDeclare (h : Grows z s t) {causes} : Runs z s (execWedgeDeclare causes t) := by
  dsimp only [execWedgeDeclare]
  split
  · exact .done h
  · exact .branch (.done (h.set.wr.wr.foldl fun _ _ h => h.detect).signal.bump.autoReset)
      (.branch (.done (h.set.wr.wr.foldl fun _ _ h => h.detect).signal.bump) (.done (h.set.wr.wr.foldl fun _ _ h => h.detect).signal.set))

theorem bxHangDumpHeld (h : Grows z s t) {branches late} : Runs z s (execBxHangDumpHeld branches late t) := by
  dsimp only [execBxHangDumpHeld]
  split
  · exact .done h
  · exact .done h.set.wr.wr.signal.autoReset

/-! ### Detections -/

theorem zxReact (h : Grows false s t) {code args} : Grows false s (t.zxReact code args) := by
  dsimp only [State.zxReact]
  split
  · exact .branch h.setZx.wr.ls h
  · exact h.setZx
  · exact h.setTb.bump
  · exact h.setTb.bump
  · exact h.wr
  · exact h

theorem corrEcc (h : Grows z s t) {d args} : Grows z s (t.corrEcc d args) := by
  dsimp only [State.corrEcc]
  exact .signal (by split; exacts [h.setCorDie, h.set, by split; exacts [h.restoreDie, h]])

theorem replyTimeout (h : Grows z s t) : Grows z s t.replyTimeout := by
  dsimp only [State.replyTimeout]
  split
  · exact h
  · exact h.set.bump

theorem wardenFail (h : Grows z s t) : Grows z s t.wardenFail :=
  h.setFw

theorem dmaEcc (h : Grows z s t) {c} : Grows z s (t.dmaEcc c) := by
  dsimp only [State.dmaEcc]
  split
  · exact h
  · exact .branch h.dmaHalt h

theorem gateEcc (h : Grows z s t) {args} : Grows z s (t.gateEcc args) := by
  dsimp only [State.gateEcc]
  split
  · exact h.stepFault
  · exact h.jobFault
  · exact h.entryFault

theorem bxReact (h : Grows false s t) {code idx args} : Grows false s (t.bxReact code idx args) := by
  dsimp only [State.bxReact]
  split
  · exact .branch h.retrain.recompute h
  · exact h.poisonCtx
  · exact h.corrEcc
  · exact .branch h.retireUnit h
  · exact h.gateEcc
  · exact .branch (Grows.branch h.hbmPoison h).dropHeld (.branch h.hbmPoison h)
  · exact .branch h.dmaEcc h
  · exact h.set
  · exact h.setTb.bump
  · exact h.wardenFail
  · exact h.wardenFail
  · exact h.replyTimeout.wardenFail
  · exact h.tapSelfReset
  · exact h.bxReset
  · exact h

theorem zxReport (h : Grows z s t) {code idx} : Grows z s (t.zxReport code idx) :=
  .branch h h.zxAlarm

theorem degrade (h : Grows z s t) {d} : Grows z s (t.degrade d) :=
  .branch h.wr h

theorem safetyDetection (h : Grows false s t) {code idx args die inj degraded} :
    Runs false s (execSafetyDetection code idx args die inj degraded t) :=
  .branch (.done h.zxReport.zxReact) (.done h.detect.degrade.bxReact)

theorem latentTest (h : Grows false s t) {code idx args pass degraded} : Runs false s (execLatentTest code idx args pass degraded t) :=
  .branch (.done h) (.branch (.done h.zxReport.zxReact) (.done h.safAlarm.bump.signal.degrade.bxReact))

/-! ### Egress -/

theorem setEgs (h : Grows z s t) {e} : Grows z s (t.setEgs e) :=
  h.set

theorem charge (h : Grows z s t) {sub svc n} : Grows z s (t.charge sub svc n) :=
  .branch h.wr.wr.wr h.wr.wr

theorem putWord (h : Grows z s t) {r i w} : Grows z s (t.putWord r i w) :=
  h.foldl fun _ _ h => h.wr

theorem refillSub (h : Grows z s t) {q u} : Grows z s (t.refillSub q u) := by
  dsimp only [State.refillSub]
  exact (Grows.branch (.bump (by split; exacts [h, h.putWord.putWord])) (by split; exacts [h, h.putWord.putWord])).wr.wr

theorem refillSvc (h : Grows z s t) {q v} : Grows z s (t.refillSvc q v) := by
  dsimp only [State.refillSvc]
  exact (Grows.branch (.bump (by split; exacts [h, h.putWord.wr])) (by split; exacts [h, h.putWord.wr])).wr

theorem countHeld (h : Grows z s t) {q} : Grows z s (t.countHeld q) :=
  h.foldl fun _ _ h1 => .branch h1.setEgs.bump h1

theorem wake (h : Grows z s t) {q} : Grows z s (t.wake q) :=
  h.foldl fun _ _ h1 => .branch (.branch h1.setEgs.bump.wr h1.setEgs.bump) h1.setEgs

theorem release (h : Grows z s t) {q v u} : Grows z s (t.release q v u) :=
  h.charge.wr.wr.setEgs

theorem egressRelease (h : Grows z s t) {q} : Runs z s (execEgressRelease q t) := by
  dsimp only [execEgressRelease]
  refine .branch (.done h) ?_
  split
  · exact .done h.countHeld.wake
  · split
    · exact .done h.countHeld.wake
    · exact .done h.countHeld.wake.release

theorem refillTick (h : Grows z s t) : Runs z s (execRefillTick t) :=
  .branch (.done h) (.done (((h.foldl fun _ _ h1 => (h1.foldl fun _ _ h => h.refillSub).foldl fun _ _ h => h.refillSvc).foldl fun _ _ h =>
    h.putWord.putWord).setEgs.foldl fun _ _ h => h.wake))

theorem shaperSet (h : Grows z s t) {c} : Runs z s (execShaperSet c t) :=
  .done (h.checked (.branch h.reply (.branch (.branch h.reply (.branch h.reply h.setEgs.reply)) (.branch h.reply (.branch h.reply h.setEgs.reply)))))

theorem shaperClearDebt (h : Grows z s t) {c} : Runs z s (execShaperClearDebt c t) :=
  .done (h.checked (.branch h.reply (.branch h.setEgs.reply (.branch (.branch h.setEgs.reply h.reply) (.branch h.setEgs.reply h.reply)))))

theorem shaperRead (h : Grows z s t) {c} : Runs z s (execShaperRead c t) :=
  .done (h.checked (.branch h.reply (.branch h.reply h.reply)))

theorem gateSet (h : Grows z s t) {c} : Runs z s (execGateSet c t) :=
  .done (h.checked (.branch h.reply h.setEgs.reply))

theorem gateStatus (h : Grows z s t) {c} : Runs z s (execGateStatus c t) :=
  .done (h.checked (.branch h.reply h.reply))

/-! ### FieldTests -/

theorem testOverdue (h : Grows z s t) {d} : Grows z s (t.testOverdue d) :=
  .branch h h.wr.bump.signal.alarmUp

theorem testIdle (h : Grows z s t) {d} : Grows z s (t.testIdle d) :=
  h.wr.wr.setCorDie

theorem clearLag (h : Grows z s t) {d} : Grows z s (t.clearLag d) := by
  dsimp only [State.clearLag]
  exact h.foldl fun _ _ h1 => .branch (by split; exacts [h1, h1.setGroup]) h1.sendMsg

theorem testPass (h : Grows z s t) {d} : Grows z s (t.testPass d) := by
  dsimp only [State.testPass]
  exact h.clearLag.clearReasons.setCorDie.testIdle.foldl fun _ _ h1 => by split; exacts [h1.setDrift, .branch h1.requestTest h1.setReason]

theorem testAbort (h : Grows z s t) {d} : Grows z s (t.testAbort d) :=
  .branch h.wr.setCorDie.testOverdue h.wr.setCorDie

theorem testRequest (h : Grows z s t) {c} : Runs z s (execTestRequest c t) :=
  .done (h.dieOp fun _ => .branch h.reply (.branch h.reply (.branch h.reply h.requestTest.reply)))

theorem testStart (h : Grows z s t) {c} : Runs z s (execTestStart c t) := by
  dsimp only [execTestStart]
  refine .done (h.checked ?_)
  split
  · exact h.reply
  · exact .branch h.reply (.branch h.reply (.branch h.reply h.wr.setCorDie.reply))

theorem testResult (h : Grows z s t) {c} : Runs z s (execTestResult c t) := by
  dsimp only [execTestResult]
  refine .done (h.checked ?_)
  split
  · exact h.reply
  · refine .branch h.reply ?_
    split
    · exact h.testPass.reply
    · exact h.bump.fenceDie.testIdle.reply
    · exact h.testAbort.reply
    · exact h.reply

theorem testCancel (h : Grows z s t) {c} : Runs z s (execTestCancel c t) := by
  dsimp only [execTestCancel]
  refine .done (h.checked ?_)
  split
  · exact h.reply
  · exact h.testIdle.setCorDie.reply

theorem testDeadline (h : Grows z s t) {d} : Runs z s (execTestDeadline d t) :=
  .branch (.done h.testOverdue) (.done h)

theorem testRunTimeout (h : Grows z s t) {d} : Runs z s (execTestRunTimeout d t) :=
  .branch (.done h.testAbort) (.done h)

/-! ### Partition -/

theorem memPartitionSet (h : Grows z s t) {c} : Runs z s (execMemPartitionSet c t) :=
  .done (h.checked (.branch h.reply (.branch h.reply (.branch h.reply (.branch h.reply
    (Grows.branch h.setPartition h.setPartition.ledgerStart).reply)))))

/-! ### Receive -/

theorem snapReceive (h : Grows z s t) {p bs resent poison} : Runs z s (execSnapReceive p bs resent poison t) :=
  .done h.consume.takeSnap

theorem zxSafety (h : Grows z s t) {p payload} : Grows z s (t.zxSafety p payload) :=
  (Grows.branch h.wr.bump.bump h.wr.bump.set.alarmUp).signal

theorem zxInjected (h : Grows z s t) {p payload} : Grows z s (t.zxInjected p payload) :=
  .branch h.wtEvent h.bump.wtRecord

theorem heartwoodReq (h : Grows z s t) {p payload} : Grows z s (t.heartwoodReq p payload) :=
  .branch h.zxSafety (.branch h.zxInjected h.signal)

theorem alarmLimited (h : Grows z s t) {p} : Grows z s (t.alarmLimited p) :=
  .branch h.bump h.bump.modLink.signal.violation

theorem countAlarm (h : Grows z s t) {p} : Grows z s (t.countAlarm p) :=
  h.modLink

theorem alarmFlit (h : Grows z s t) {sub payload} : Grows z s (t.alarmFlit sub payload).2 := by
  dsimp only [State.alarmFlit]
  split
  · exact h
  · split
    · next e => exact h.outPort.snd_eq e
    · next e => exact h.outPort.snd_eq e

theorem alarmCut (h : Grows z s t) {p sub payload} : Grows z s (t.alarmCut p sub payload) := by
  dsimp only [State.alarmCut]
  refine .branch h ?_
  split
  · next e => exact .branch (h.alarmFlit.snd_eq e) (h.alarmFlit.snd_eq e).setPort.countAlarm.emit
  · next e => exact h.alarmFlit.snd_eq e

theorem alarmEnd (h : Grows z s t) {p sub payload good} : Grows z s (t.alarmEnd p sub payload good) := by
  dsimp only [State.alarmEnd]
  split
  · exact (Grows.branch h.setPort h.setPort.bump).enqueueFront
  · refine .branch (.branch h.post h) (.branch (.branch h.alarmLimited h) ?_)
    split
    · next e => exact (Grows.branch (h.alarmFlit.snd_eq e).countAlarm (h.alarmFlit.snd_eq e).countAlarm.bump).enqueue
    · next e => exact h.alarmFlit.snd_eq e

theorem alarmReceive (h : Grows z s t) {p h' payload verdict} : Runs z s (execAlarmReceive p h' payload verdict t) := by
  dsimp only [execAlarmReceive]
  split
  · exact .done (.branch h.epochCounts.alarmCut h.epochCounts)
  · exact .done (.branch h.epochCounts.alarmEnd h.epochCounts)
  · exact .branch (.done h.epochCounts) (.branch (.done (.branch h.epochCounts.consume h.epochCounts.consume.alarmEnd))
      (.branch (.done h.epochCounts.consume.heartwoodReq) (.done h.epochCounts.consume)))

theorem blazeEntry (h : Grows z s t) {d w0} : Grows z s (t.blazeEntry d w0) :=
  .branch h.tagMatch (.branch h.tagMatch h)

theorem blazeReceive (h : Grows z s t) {p payload} : Runs z s (execBlazeReceive p payload t) :=
  .branch (.done h.consume) (.done (h.consume.foldl fun _ _ h => h.blazeEntry))

theorem noteImage (h : Grows z s t) {p m status} : Grows z s (t.noteImage p m status) :=
  .branch h (.branch h.setDie h.setDie)

theorem ownReply (h : Grows z s t) {p m status} : Grows z s (t.ownReply p m status) := by
  unfold State.ownReply
  extract_lets gen k staged die s₁ s₂
  have h₁ : Grows z s s₁ := .branch h.setDie h
  have h₂ : Grows z s s₂ := .branch h₁.wr (.branch h₁.wr h₁)
  have ha (b) : Grows z s (s₂.localAnswer b k.1 k.2 status) := h₂.localAnswer
  exact .branch (.branch h₂.endProbe h₂) (.branch h₂ (.branch (.branch h₂ (ha _)) (.branch (ha _) (.branch (ha _) h₂))))

theorem takeReply (h : Grows z s t) {p tag} : Grows z s (t.takeReply p tag) :=
  h.setZxPort

theorem returnReply (h : Grows z s t) {o status reason results} : Grows z s (t.returnReply o status reason results) :=
  (Grows.branch h.wtDisarm h).reply

theorem capsReplyReceive (h : Grows z s t) {p tag status reason results} : Runs z s (execCapsReplyReceive p tag status reason results t) := by
  dsimp only [execCapsReplyReceive]
  split
  · exact .done h.consume.viol
  · refine .branch (.done h.consume.takeReply.noteImage.judgeInc.issueZx) ?_
    split
    · exact .done h.consume.takeReply.noteImage.ownReply.issueZx
    · exact .branch (.done h.consume.takeReply.noteImage.issueZx) (.done h.consume.takeReply.noteImage.returnReply.issueZx)

theorem incarnationReadReply (h : Grows z s t) {p id} : Runs z s (execIncarnationReadReply p id t) := by
  dsimp only [execIncarnationReadReply]
  split
  · exact .done h
  · exact .done h.consume.takeReply.judgeInc.issueZx

/-! ### Transmit -/

theorem sendBytes (h : Grows z s t) {e bs} : Grows z s (t.sendBytes e bs) :=
  h.pcs.foldl fun _ _ h => h.putOut

theorem acked (h : Grows z s t) {e} : Grows z s (t.acked e) :=
  h.modLink

theorem sendSeq (h : Grows z s t) {e b} : Grows z s (t.sendSeq e b) :=
  h.modLink.acked.sendBytes

theorem sendUnseq (h : Grows z s t) {e b} : Grows z s (t.sendUnseq e b) :=
  h.acked.sendBytes

theorem sendAgain (h : Grows z s t) {e r} : Grows z s (t.sendAgain e r) := by
  dsimp only [State.sendAgain]
  split
  · exact h.modLink
  · exact (Grows.branch h.modLink.ls h.modLink).sendBytes

theorem sendNak (h : Grows z s t) {e} : Grows z s (t.sendNak e) :=
  (Grows.branch h.modLink.ls h.modLink).sendUnseq

theorem sendCtl (h : Grows z s t) {e} : Grows z s (t.sendCtl e) :=
  .branch h.modLink.sendUnseq (Grows.branch h.ls h).sendUnseq

theorem dropWaiting (h : Grows z s t) {e cls} : Grows z s (t.dropWaiting e cls) :=
  h.modLink

theorem poisonedMsg (h : Grows z s t) : Grows z s t.poisonedMsg :=
  h.bump.countViol.escalate

theorem snapDone (h : Grows false s t) {t'} : Grows false s (t.snapDone t') :=
  h.modLink.ls.endPass.pwrSettle

theorem sendSnap (h : Grows false s t) {t' p bytes psn} : Grows false s (t.sendSnap t' p bytes psn) :=
  .branch (Grows.branch h.beginSnap h).modLink.poisonedMsg.setZx (.branch (Grows.branch h.beginSnap h).modLink.sendSeq.ls.snapDone
    (Grows.branch h.beginSnap h).modLink.sendSeq.ls)

theorem sendDump (h : Grows z s t) {i psn} : Grows z s (t.sendDump i psn) :=
  .branch h.modLink.poisonedMsg (.branch h.modLink.sendSeq.ls.wr h.modLink.sendSeq.ls)

theorem sendRecs (h : Grows false s t) {n psn} : Grows false s (t.sendRecs n psn) :=
  (Grows.branch h.poisonedMsg h.sendSeq.ls).trcFree

theorem sendTrace (h : Grows false s t) {psn} : Grows false s (t.sendTrace psn) := by
  dsimp only [State.sendTrace]
  split
  · exact h.modLink.sendDump
  · split
    · exact h.modLink
    · exact h.modLink.sendRecs

theorem sendBlaze (h : Grows false s t) {psn} : Grows false s (t.sendBlaze psn) :=
  .branch h.setZx.poisonedMsg h.setZx.sendSeq.ls

theorem zxBulk (h : Grows false s t) {psn} : Grows false s (t.zxBulk psn) := by
  dsimp only [State.zxBulk]
  refine .branch h.sendCtl (.branch h.sendTrace ?_)
  split
  · exact h.sendSnap
  · exact .branch h.sendBlaze (.branch h.sendTrace h.sendCtl)

theorem sendWaiting (h : Grows z s t) {e cls b psn} : Grows z s (t.sendWaiting e cls b psn) :=
  .branch h.dropWaiting.poisonedMsg (.branch h.dropWaiting.sendSeq.ls h.dropWaiting.sendSeq)

theorem stemBoundary (h : Grows false s t) {e psn} : Grows false s (t.stemBoundary e psn) := by
  dsimp only [State.stemBoundary]
  split
  · exact h.sendWaiting
  · refine .branch h.sendNak ?_
    split
    · exact h.dropWaiting.sendUnseq
    · split
      · exact h.sendWaiting
      · exact .branch h.zxBulk h.sendCtl

theorem countGate (h : Grows z s t) {q} : Grows z s (t.countGate q) :=
  h.foldl fun _ _ h1 => .branch h1.setEgs.bump h1

theorem freeRelay (h : Grows z s t) {w} : Grows z s (t.freeRelay w) := by
  dsimp only [State.freeRelay]
  split
  · exact h.freeBuf
  · exact h

theorem dropMsg (h : Grows z s t) {q vc x} : Grows z s (t.dropMsg q vc x) :=
  (h.foldl fun _ _ h => h.modLink.freeRelay).setPort.bump

theorem sendVc (h : Grows z s t) {q vc w psn} : Grows z s (t.sendVc q vc w psn) :=
  .branch h.setEgs.dropMsg (Grows.branch h.setEgs.setPort.modLink.sendUnseq h.setEgs.setPort.modLink.sendSeq).freeRelay

theorem canopyBoundary (h : Grows z s t) {q psn} : Grows z s (t.canopyBoundary q psn) := by
  dsimp only [State.canopyBoundary]
  split
  · exact h.countGate.sendVc
  · refine .branch h.countGate.sendNak ?_
    split
    · exact h.countGate.sendVc
    · split
      · exact h.countGate.sendVc
      · split
        · exact h.countGate.setEgs.sendVc
        · exact h.countGate.sendCtl

theorem flitTransmit (h : Grows false s t) {e psn} : Runs false s (execFlitTransmit e psn t) := by
  dsimp only [execFlitTransmit]
  refine .branch (.done h) (.branch (.done (.branch h h.sendMarkers.passSlot)) ?_)
  split
  · exact .done h.modLink.sendUnseq
  · split
    · exact .done h.sendAgain
    · split
      · exact .done h.canopyBoundary
      · exact .done h.stemBoundary

end Grows

/-- Every command answers a next state that has grown, and whose ZX40 is as before where the command is outside changesZx. -/
theorem exec_runs (i : Instr) (s : State) : Runs (!i.changesZx) s (exec i s) := by
  have h (z : Bool) : Grows z s s := .refl z s
  unfold exec
  cases i with
  | zxEpochClose => exact (h _).zxEpochClose
  | bxEpochClose => exact (h _).bxEpochClose
  | contextFree => exact (h _).contextFree
  | epochHorizon => exact (h _).epochHorizon
  | provisionalRevision => exact (h _).provisionalRevision
  | rootCommit => exact (h _).rootCommit
  | commitNotice => exact (h _).commitNotice
  | epochRead => exact (h _).epochRead
  | epochStatus => exact (h _).epochStatus
  | cfgStage => exact (h _).cfgStage
  | cfgDistribution => exact (h _).cfgDistribution
  | cfgApplyAt => exact (h _).cfgApplyAt
  | cfgAbort => exact (h _).cfgAbort
  | cfgStatus => exact (h _).cfgStatus
  | cfgArm => exact (h _).cfgArm
  | cfgApplyInstant => exact (h _).cfgApplyInstant
  | wmSync => exact (h _).wmSync
  | registerWrite => exact (h _).registerWrite
  | zxApbAccessInReset => exact (h _).zxApbAccessInReset
  | zxCtrSelWrite => exact (h _).zxCtrSelWrite
  | zxLsCtrlWrite => exact (h _).zxLsCtrlWrite
  | zxBarArriveWrite => exact (h _).zxBarArriveWrite
  | barrierArrival => exact (h _).barrierArrival
  | tapLatchTimeout => exact (h _).tapLatchTimeout
  | tapClockStopped => exact (h _).tapClockStopped
  | tapClockResumed => exact (h _).tapClockResumed
  | stretchTrip => exact (h _).stretchTrip
  | droopTrip => exact (h _).droopTrip
  | testModeRequest => exact (h _).testModeRequest
  | sensorResult => exact (h _).sensorResult
  | sensorWindowEnd => exact (h _).sensorWindowEnd
  | groveSVote => exact (h _).groveSVote
  | poisonAccept => exact (h _).poisonAccept
  | poisonStuck => exact (h _).poisonStuck
  | drainBurstIssue => exact (h _).drainBurstIssue
  | drainBresp => exact (h _).drainBresp
  | zxPowerRequest => exact (h _).zxPowerRequest
  | zxColdReset => exact (h _).zxColdReset
  | zxWarmReset => exact (h _).zxWarmReset
  | zxLocalReset => exact (h _).zxLocalReset
  | traceArm => exact (h _).traceArm
  | traceManualTrigger => exact (h _).traceManualTrigger
  | traceRelease => exact (h _).traceRelease
  | trcTrigger => exact (h _).trcTrigger
  | trcRelease => exact (h _).trcReleaseCmd
  | traceSourceRecord => exact (h _).traceSourceRecord
  | traceLineTrigger => exact (h _).traceLineTrigger
  | traceTimeTrigger => exact (h _).traceTimeTrigger
  | traceDrdWrite => exact (h _).traceDrdWrite
  | hangCondition => exact (h _).hangCondition
  | hangTake => exact (h _).hangTake
  | hangReleaseWrite => exact (h _).hangReleaseWrite
  | hangDeclare => exact (h _).hangDeclare
  | hangRelease => exact (h _).hangRelease
  | hangDumpTaken => exact (h _).hangDumpTaken
  | logResend => exact (h _).logResend
  | stemAckReceive => exact (h _).stemAckReceive
  | queuePush => exact (h _).queuePush
  | queuePop => exact (h _).queuePop
  | packetCancel => exact (h _).packetCancel
  | queueCntClr => exact (h _).queueCntClr
  | linkResetDone => exact (h _).linkResetDone
  | linkLockDone => exact (h _).linkLockDone
  | linkAlignDone => exact (h _).linkAlignDone
  | linkParamDone => exact (h _).linkParamDone
  | linkTrainTimeout => exact (h _).linkTrainTimeout
  | linkDownHoldExpiry => exact (h _).linkDownHoldExpiry
  | linkLockLoss => exact (h _).linkLockLoss
  | linkMarkerMiss => exact (h _).linkMarkerMiss
  | linkNoFlitTimeout => exact (h _).linkNoFlitTimeout
  | zxStmRetrainWrite => exact (h _).zxStmRetrainWrite
  | stemPortRetrainWrite => exact (h _).stemPortRetrainWrite
  | stemPortHoldWrite => exact (h _).stemPortHoldWrite
  | cnpPortRetrainWrite => exact (h _).cnpPortRetrainWrite
  | stemPortCtrl => exact (h _).stemPortCtrl
  | flitReceive => exact (h _).flitReceive
  | nakTimerExpiry => exact (h _).nakTimerExpiry
  | replayTimerExpiry => exact (h _).replayTimerExpiry
  | ackTimerExpiry => exact (h _).ackTimerExpiry
  | flitTransmit => exact (h _).flitTransmit
  | snapReceive => exact (h _).snapReceive
  | alarmReceive => exact (h _).alarmReceive
  | traceReceive => exact (h _).traceReceive
  | blazeReceive => exact (h _).blazeReceive
  | capsCommandReceive => exact (h _).capsCommandReceive
  | capsReplyReceive => exact (h _).capsReplyReceive
  | incarnationReadReply => exact (h _).incarnationReadReply
  | zxAdmit => exact (h _).zxAdmit
  | zxShadowWrite => exact (h _).zxShadowWrite
  | zxGrsImageWrite => exact (h _).zxGrsImageWrite
  | zxCfgDone => exact (h _).zxCfgDone
  | zxArm => exact (h _).zxArm
  | zxCfgDrop => exact (h _).zxCfgDrop
  | zxLcSet => exact (h _).zxLcSet
  | zxWtSet => exact (h _).zxWtSet
  | delayRespReceive => exact (h _).delayRespReceive
  | syncSend => exact (h _).syncSend
  | syncReceive => exact (h _).syncReceive
  | delayReqReceive => exact (h _).delayReqReceive
  | canopySyncReceive => exact (h _).canopySyncReceive
  | canopyDelayReqReceive => exact (h _).canopyDelayReqReceive
  | canopyDelayRespReceive => exact (h _).canopyDelayRespReceive
  | timeRelay => exact (h _).timeRelay
  | ppsEdge => exact (h _).ppsEdge
  | todFrame => exact (h _).todFrame
  | resync => exact (h _).resync
  | resyncGrantLapse => exact (h _).resyncGrantLapse
  | tbSourceLost => exact (h _).tbSourceLost
  | holdoverExpiry => exact (h _).holdoverExpiry
  | lacFire => exact (h _).lacFire
  | lacArm => exact (h _).lacArm
  | ppsOutput => exact (h _).ppsOutput
  | timeSrcSet => exact (h _).timeSrcSet
  | timeRead => exact (h _).timeRead
  | timeStatus => exact (h _).timeStatus
  | ppsSet => exact (h _).ppsSet
  | taprootTimeLatch => exact (h _).taprootTimeLatch
  | blazeClassify => exact (h _).blazeClassify
  | blazeRefetchTimeout => exact (h _).blazeRefetchTimeout
  | blzFlushRf => exact (h _).blzFlushRf
  | blzCntClr => exact (h _).blzCntClr
  | blzCfgWrite => exact (h _).blzCfgWrite
  | bxBlazeCheck => exact (h _).bxBlazeCheck
  | blazeReread => exact (h _).blazeReread
  | partialFlush => exact (h _).partialFlush
  | partialReady => exact (h _).partialReady
  | supplementPartial => exact (h _).supplementPartial
  | partialReceive => exact (h _).partialReceive
  | vectorBuild => exact (h _).vectorBuild
  | groveScore => exact (h _).groveScore
  | groveVecReceive => exact (h _).groveVecReceive
  | groveSumsReceive => exact (h _).groveSumsReceive
  | groveSplitTimeout => exact (h _).groveSplitTimeout
  | grsCheck => exact (h _).grsCheck
  | groveLoad => exact (h _).groveLoad
  | groveUnload => exact (h _).groveUnload
  | groveInfo => exact (h _).groveInfo
  | groveEval => exact (h _).groveEval
  | grovePeerBind => exact (h _).grovePeerBind
  | groveScoreRead => exact (h _).groveScoreRead
  | groveGrsImage => exact (h _).groveGrsImage
  | groveGrsRefresh => exact (h _).groveGrsRefresh
  | grvLaneCtrlWrite => exact (h _).grvLaneCtrlWrite
  | digestReceive => exact (h _).digestReceive
  | barWaitExpiry => exact (h _).barWaitExpiry
  | lagReturnReceive => exact (h _).lagReturnReceive
  | probeRetryTimeout => exact (h _).probeRetryTimeout
  | probeReplyReceive => exact (h _).probeReplyReceive
  | testDeadline => exact (h _).testDeadline
  | testRunTimeout => exact (h _).testRunTimeout
  | lagRead => exact (h _).lagRead
  | driftRead => exact (h _).driftRead
  | suspectRead => exact (h _).suspectRead
  | suspectClear => exact (h _).suspectClear
  | lookoutReport => exact (h _).lookoutReport
  | lookoutAdmit => exact (h _).lookoutAdmit
  | lookoutStatus => exact (h _).lookoutStatus
  | lookoutProbe => exact (h _).lookoutProbe
  | dieFence => exact (h _).dieFence
  | testRequest => exact (h _).testRequest
  | testStart => exact (h _).testStart
  | testResult => exact (h _).testResult
  | testCancel => exact (h _).testCancel
  | apdLoad => exact (h _).apdLoad
  | apdUnload => exact (h _).apdUnload
  | apdInfo => exact (h _).apdInfo
  | replayRun => exact (h _).replayRun
  | replayCancel => exact (h _).replayCancel
  | replayStatus => exact (h _).replayStatus
  | replayUnit => exact (h _).replayUnit
  | replayGen => exact (h _).replayGen
  | replayCrosscheck => exact (h _).replayCrosscheck
  | replayPlace => exact (h _).replayPlace
  | replayBankFilled => exact (h _).replayBankFilled
  | replayJobEnd => exact (h _).replayJobEnd
  | replayXlateFault => exact (h _).replayXlateFault
  | replayKat => exact (h _).replayKat
  | stepAnnounce => exact (h _).stepAnnounce
  | stepOperands => exact (h _).stepOperands
  | operandWaitExpiry => exact (h _).operandWaitExpiry
  | gateWaitExpiry => exact (h _).gateWaitExpiry
  | stepCommit => exact (h _).stepCommit
  | jobOpen => exact (h _).jobOpen
  | placementMigrate => exact (h _).placementMigrate
  | commitPolicySet => exact (h _).commitPolicySet
  | commitStatus => exact (h _).commitStatus
  | ledgerRead => exact (h _).ledgerRead
  | ledgerHead => exact (h _).ledgerHead
  | jobClose => exact (h _).jobClose
  | helloReceive => exact (h _).helloReceive
  | helloResend => exact (h _).helloResend
  | lsaReceive => exact (h _).lsaReceive
  | lsaRefresh => exact (h _).lsaRefresh
  | lsaExpiry => exact (h _).lsaExpiry
  | relayWaitTimeout => exact (h _).relayWaitTimeout
  | broadcastReceive => exact (h _).broadcastReceive
  | canopyAlarmReceive => exact (h _).canopyAlarmReceive
  | cutThroughHoldLimit => exact (h _).cutThroughHoldLimit
  | recordReceive => exact (h _).recordReceive
  | e2eRepeat => exact (h _).e2eRepeat
  | e2eAckReceive => exact (h _).e2eAckReceive
  | mirrorReceive => exact (h _).mirrorReceive
  | heartbeatSend => exact (h _).heartbeatSend
  | heartbeatReceive => exact (h _).heartbeatReceive
  | peerLostDeclare => exact (h _).peerLostDeclare
  | peerLostReceive => exact (h _).peerLostReceive
  | peerBackReceive => exact (h _).peerBackReceive
  | peerDeclare => exact (h _).peerDeclare
  | firebreakFence => exact (h _).firebreakFence
  | fenceInstant => exact (h _).fenceInstant
  | firebreakClear => exact (h _).firebreakClear
  | unfenceInstant => exact (h _).unfenceInstant
  | canopyIdentSet => exact (h _).canopyIdentSet
  | canopyPortCtrl => exact (h _).canopyPortCtrl
  | canopyTopoRead => exact (h _).canopyTopoRead
  | fabricStatus => exact (h _).fabricStatus
  | memLayoutSet => exact (h _).memLayoutSet
  | memPartitionSet => exact (h _).memPartitionSet
  | xlateInval => exact (h _).xlateInval
  | xlateProbe => exact (h _).xlateProbe
  | dmaChSet => exact (h _).dmaChSet
  | dmaResume => exact (h _).dmaResume
  | dmaStatus => exact (h _).dmaStatus
  | dmaDoorbell => exact (h _).dmaDoorbell
  | dmaChunk => exact (h _).dmaChunk
  | patrolScrub => exact (h _).patrolScrub
  | stagingFlush => exact (h _).stagingFlush
  | codecBlock => exact (h _).codecBlock
  | traceStoreSet => exact (h _).traceStoreSet
  | traceStoreStatus => exact (h _).traceStoreStatus
  | refillTick => exact (h _).refillTick
  | egressRelease => exact (h _).egressRelease
  | shaperSet => exact (h _).shaperSet
  | shaperClearDebt => exact (h _).shaperClearDebt
  | shaperRead => exact (h _).shaperRead
  | gateSet => exact (h _).gateSet
  | gateStatus => exact (h _).gateStatus
  | sqDoorbell => exact (h _).sqDoorbell
  | cqHeadWrite => exact (h _).cqHeadWrite
  | evHeadWrite => exact (h _).evHeadWrite
  | qpEnable => exact (h _).qpEnable
  | qpDisable => exact (h _).qpDisable
  | capsuleFetch => exact (h _).capsuleFetch
  | capsuleReply => exact (h _).capsuleReply
  | execTimeout => exact (h _).execTimeout
  | relayTimeout => exact (h _).relayTimeout
  | relayedCapsuleReceive => exact (h _).relayedCapsuleReceive
  | relayedReplyReceive => exact (h _).relayedReplyReceive
  | flr => exact (h _).flr
  | eventPost => exact (h _).eventPost
  | mctpMessage => exact (h _).mctpMessageCmd
  | setEndpointId => exact (h _).setEndpointId
  | getEndpointId => exact (h _).getEndpointId
  | getEndpointUuid => exact (h _).getEndpointUuid
  | getMctpVersionSupport => exact (h _).getMctpVersionSupport
  | getMessageTypeSupport => exact (h _).getMessageTypeSupport
  | bootMailboxGo => exact (h _).bootMailboxGo
  | wardenRestart => exact (h _).wardenRestart
  | sysNop => exact (h _).sysNop
  | sysInfo => exact (h _).sysInfo
  | sysStatus => exact (h _).sysStatus
  | sysResetWarm => exact (h _).sysResetWarm
  | sysResetCold => exact (h _).sysResetCold
  | sysResetStemPort => exact (h _).sysResetStemPort
  | sysResetCanopyPort => exact (h _).sysResetCanopyPort
  | sysResetCluster => exact (h _).sysResetCluster
  | powerSet => exact (h _).powerSet
  | p2Entry => exact (h _).p2Entry
  | powerThrottle => exact (h _).powerThrottle
  | fwUpdate => exact (h _).fwUpdate
  | fwActivate => exact (h _).fwActivate
  | fwInfo => exact (h _).fwInfo
  | zxRegRead => exact (h _).zxRegRead
  | zxRegWrite => exact (h _).zxRegWrite
  | hwRead => exact (h _).hwRead
  | hwClear => exact (h _).hwClear
  | safetyStatus => exact (h _).safetyStatus
  | hangDumpRead => exact (h _).hangDumpRead
  | lcStatus => exact (h _).lcStatus
  | lcTransition => exact (h _).lcTransition
  | wtArm => exact (h _).wtArmCmd
  | wtDisarm => exact (h _).wtDisarmCmd
  | wtStatus => exact (h _).wtStatus
  | wedgeDeclare => exact (h _).wedgeDeclare
  | tapKick => exact (h _).tapKick
  | bxHangDumpHeld => exact (h _).bxHangDumpHeld
  | safetyDetection => exact (h _).safetyDetection
  | latentTest => exact (h _).latentTest
  | heartwoodRequest => exact (h _).heartwoodRequest
  | taprootSelfReset => exact (h _).taprootSelfReset
  | jtagExtest => exact (h _).jtagExtest
  | jtagIdcode => exact (h _).jtagIdcode
  | jtagSamplePreload => exact (h _).jtagSamplePreload
  | jtagHdRead => exact (h _).jtagHdRead
  | jtagBypass => exact (h _).jtagBypass
  | powerOn => exact (h _).powerOn
  | railBelowMinimum => exact (h _).railBelowMinimum
  | clearingDone => exact (h _).clearingDone
  | bringupRailsUp => exact (h _).bringupRailsUp
  | bringupPllLock => exact (h _).bringupPllLock
  | pcieLinkUp => exact (h _).pcieLinkUp
  | hbmTrainingDone => exact (h _).hbmTrainingDone
  | bringupTimeout => exact (h _).bringupTimeout
  | readWaitExpiry => exact (h _).readWaitExpiry
  | regionTapSample => exact (h _).regionTapSample
  | quietWindowEdge => exact (h _).quietWindowEdge
  | mirrorRestoreReceive => exact (h _).mirrorRestoreReceive
  | cnpPortHoldWrite => exact (h _).cnpPortHoldWrite
  | powerLoss => exact (h _).powerLoss
  | registerRead => exact (h _).registerRead

theorem grows_of_exec {i : Instr} {s t : State} (e : exec i s = .next t) : Grows (!i.changesZx) s t := by
  obtain ⟨u, hu, h⟩ := exec_runs i s
  obtain rfl : u = t := Host.Outcome.next.inj (hu.symm.trans e)
  exact h

/-- Settles O51: a command's execution grows the state, and growing keeps the queue, the outputs and the free values drawn. -/
theorem everyCommandCompletesAndKeepsTheQueue : Obligations.EveryCommandCompletesAndKeepsTheQueue := by
  intro i s
  obtain ⟨t, e, h⟩ := exec_runs i s
  exact ⟨t, e, h.pending, h.out, h.fresh⟩

/-- Settles O52: a step is a tick or a command's execution on the rest of the queue, and both keep the canonical form. -/
theorem everyStepKeepsTheCanonicalForm : Obligations.EveryStepKeepsTheCanonicalForm := by
  intro s t hs e
  unfold step at e
  split at e
  · obtain rfl : s.tick = t := Host.Outcome.next.inj e
    exact (Grows.refl false s).tick.inv hs
  · exact (grows_of_exec e).inv hs

/-- Settles O55: growing under a command outside changesZx keeps the ZX40. -/
theorem zx40IsChangedOnlyByItsCommands : Obligations.Zx40IsChangedOnlyByItsCommands := by
  intro i s t hi e
  exact (grows_of_exec e).zx (by rw [hi]; rfl)

end Sys2Proof.Machine
end

section
/-! SUPPORT. A step and the state after reset. -/

namespace Sys2Proof.Machine
open Sys2Proof

/-! ### A step (R1, R161) -/

/-- What the ZX40's half of a tick makes of the state. -/
def State.tickZx (s : State) : State :=
  if s.zxTicks then { s with zx := { s.zx with
      tb := s.zx.tb.tick, lacs := s.zx.lacs.map (fun x => (x.1, { x.2 with high := x.2.high - 1 })) } } else s

/-- What BX64's half makes of it. -/
def State.tickBx (s : State) : State :=
  if s.bxTicks then { s with bxTb := s.bxTb.tick, pps := { s.pps with outUntil := if s.ppsOn then s.pps.outUntil else none } } else s

theorem State.tick_eq (s : State) : s.tick = s.tickZx.tickBx := rfl

theorem State.tickZx_keeps (s : State) : s.tickZx.pending = s.pending ∧ s.tickZx.regs = s.regs ∧ s.tickZx.wdn = s.wdn ∧
    s.tickZx.hbm = s.hbm ∧ s.tickZx.bxTb = s.bxTb ∧ s.tickZx.up = s.up := by
  unfold State.tickZx
  split <;> exact ⟨rfl, rfl, rfl, rfl, rfl, rfl⟩

theorem State.tickBx_keeps (s : State) : s.tickBx.pending = s.pending ∧ s.tickBx.regs = s.regs ∧ s.tickBx.wdn = s.wdn ∧
    s.tickBx.hbm = s.hbm ∧ s.tickBx.zx = s.zx := by
  unfold State.tickBx
  split <;> exact ⟨rfl, rfl, rfl, rfl, rfl⟩

theorem State.tickZx_zx_tb {s : State} (h : s.zxTicks = true) : s.tickZx.zx.tb = s.zx.tb.tick := by
  unfold State.tickZx
  rw [if_pos h]

theorem State.tickZx_of_stands {s : State} (h : s.zxTicks = false) : s.tickZx = s := by
  unfold State.tickZx
  rw [h]; rfl

theorem State.tickBx_bxTb {s : State} (h : s.bxTicks = true) : s.tickBx.bxTb = s.bxTb.tick := by
  unfold State.tickBx
  rw [if_pos h]

theorem State.tickBx_of_stands {s : State} (h : s.bxTicks = false) : s.tickBx = s := by
  unfold State.tickBx
  rw [h]; rfl

/-- Settles O50: the model's step takes the queue apart, and an empty queue leaves a tick, whose halves touch one part each. -/
theorem aStepRunsTheFirstWaitingCommand : Obligations.AStepRunsTheFirstWaitingCommand := by
  refine ⟨fun _ _ _ => rfl, fun s hs => ⟨s.tick, ?_, ?_⟩, fun _ _ _ => rfl⟩
  · unfold step
    rw [hs]
  · rw [s.tick_eq]
    obtain ⟨hp, hr, hw, hh, hb, hu⟩ := s.tickZx_keeps
    obtain ⟨hp', hr', hw', hh', hz'⟩ := s.tickZx.tickBx_keeps
    have ht : s.tickZx.bxTicks = s.bxTicks := congrArg (fun u : PowerUp => decide (u.phase < 5)) hu
    refine ⟨hp'.trans (hp.trans hs), hr'.trans hr, hw'.trans hw, hh'.trans hh, fun h => ?_, fun h => ?_, fun h => ?_, fun h => ?_⟩
    · rw [State.tickBx_bxTb (ht.trans h), hb]; rfl
    · rw [State.tickBx_of_stands (ht.trans h), hb]
    · rw [hz', State.tickZx_zx_tb h]; rfl
    · rw [hz', State.tickZx_of_stands h]

/-! ### Reset (R11, R516) -/

/-- Settles O53: reset lists no register field and no byte of HBM. -/
theorem resetHasTheCanonicalForm : Obligations.ResetHasTheCanonicalForm :=
  ⟨⟨rfl, rfl⟩, rfl, rfl, fun _ _ => rfl⟩

end Sys2Proof.Machine
end

section
/-! SUPPORT. What a tenant is denied. -/

namespace Sys2Proof.Machine
open Sys2Proof

/-! ### What a tenant is denied (R16, R462, Table 16-6) -/

/-- A saturating counter that is raised reads the sum or its largest value, whatever its width. -/
theorem State.counted_bump (s : State) (f : Fld) (i n : Nat) : s.counted (s.bump f i n) f i n := by
  have hlt : satAdd f.max (s.rd f i) n < 2 ^ f.width := by
    have := Nat.two_pow_pos f.width
    unfold satAdd Fld.max
    omega
  exact (s.rd_bump_same f i n).trans (Nat.mod_eq_of_lt hlt)

/-- An S_DENIED reply counts itself in DENIED and waits behind the replies before it. -/
theorem State.reply_denied (s : State) (c : Cap) (op : Nat) (res : List Nat) (reason : Nat) :
    let u := s.reply c op S_DENIED res reason
    u.replied c op S_DENIED res ∧ s.counted u BX_WDN_CNT0_DENIED 0 1 ∧ { u with wdn := s.wdn, regs := s.regs } = s := by
  refine ⟨?_, s.counted_bump BX_WDN_CNT0_DENIED 0 1, rfl⟩
  change Option.map _ (List.getLast? (s.wdn.replies ++ [_])) = _
  rw [List.getLast?_append_of_ne_nil _ (List.cons_ne_nil _ _)]
  rfl

theorem State.checked_of_not_allowed (s : State) (c : Cap) (op n : Nat) {a : Bool} (ha : a = false) (f : State → State) :
    s.checked c op a n f = s.reply c op S_DENIED [] 0xF5 := by
  unfold State.checked
  rw [ha]
  rfl

section
variable {c : Cap} (h : c.isTenant = true)
include h

theorem Cap.path_tenant_of_isTenant : c.path = 0 ∧ c.tenant ≠ 0 := of_decide_eq_true h

theorem Cap.isOp_of_isTenant : c.isOp = false := by
  simp [Cap.isOp, (Cap.path_tenant_of_isTenant h).2]

theorem Cap.isOpPcie_of_isTenant : c.isOpPcie = false := by
  simp [Cap.isOpPcie, (Cap.path_tenant_of_isTenant h).2]

theorem Cap.isMctp_of_isTenant : c.isMctp = false := by
  simp [Cap.isMctp, (Cap.path_tenant_of_isTenant h).1]

theorem Cap.isInternal_of_isTenant : c.isInternal = false := by
  simp [Cap.isInternal, (Cap.path_tenant_of_isTenant h).1]

end

namespace Denies
variable {i : Instr} {s : State} {c : Cap} {op n : Nat} {f : State → State}

/-- A command that checks its capsule denies one that its check does not allow. -/
theorem of_checked {a : Bool} (ha : a = false) (he : exec i s = done (s.checked c op a n f)) : Denies i s c op :=
  ⟨_, he.trans (congrArg done (s.checked_of_not_allowed c op n ha f)), s.reply_denied c op [] 0xF5⟩

/-! One lemma for each set of origins that the commands below allow; e is the command's meaning. -/

section
variable (h : c.isTenant = true) (e : State → Host.Outcome State Fault Refusal)
include h

theorem operator (he : e s = done (s.checked c op c.isOp n f) := by rfl) (hi : exec i s = e s := by rfl) : Denies i s c op :=
  of_checked (Cap.isOp_of_isTenant h) (hi.trans he)

theorem operatorOrMctp (he : e s = done (s.checked c op (c.isOp || c.isMctp) n f) := by rfl) (hi : exec i s = e s := by rfl) : Denies i s c op :=
  of_checked (by rw [Cap.isOp_of_isTenant h, Cap.isMctp_of_isTenant h]; rfl) (hi.trans he)

theorem pcie (he : e s = done (s.checked c op c.isOpPcie n f) := by rfl) (hi : exec i s = e s := by rfl) : Denies i s c op :=
  of_checked (Cap.isOpPcie_of_isTenant h) (hi.trans he)

theorem pcieAnd {b : Bool} (he : e s = done (s.checked c op (c.isOpPcie && b) n f) := by rfl) (hi : exec i s = e s := by rfl) : Denies i s c op :=
  of_checked (by rw [Cap.isOpPcie_of_isTenant h]; rfl) (hi.trans he)

theorem pcieOrMctp (he : e s = done (s.checked c op (c.isOpPcie || c.isMctp) n f) := by rfl) (hi : exec i s = e s := by rfl) : Denies i s c op :=
  of_checked (by rw [Cap.isOpPcie_of_isTenant h, Cap.isMctp_of_isTenant h]; rfl) (hi.trans he)

theorem pcieOrMctpAnd {b : Bool} (he : e s = done (s.checked c op (c.isOpPcie || (c.isMctp && b)) n f) := by rfl)
    (hi : exec i s = e s := by rfl) : Denies i s c op :=
  of_checked (by rw [Cap.isOpPcie_of_isTenant h, Cap.isMctp_of_isTenant h]; rfl) (hi.trans he)

/-- What a ZX40 executes is checked at BX64 where it does not come from BX64 itself. -/
theorem zx (he : e s = done (s.zxRun c op n f) := by rfl) (hi : exec i s = e s := by rfl) : Denies i s c op := by
  refine of_checked (n := 1) (f := fun s => s.toZx c op) (Cap.isOp_of_isTenant h) (hi.trans (he.trans ?_))
  unfold State.zxRun
  rw [Cap.isInternal_of_isTenant h]
  rfl

end
end Denies

/-- Settles O58: each command is checked before it acts, and no check among these allows a tenant. -/
theorem operatorOpcodesAreDeniedToTenants : Obligations.OperatorOpcodesAreDeniedToTenants := by
  intro s c h
  exact ⟨.operator h (execEpochStatus c), fun a => .operator h (execCfgStage c a), .operator h (execCfgApplyAt c), .operator h (execCfgAbort c),
    .operator h (execCfgStatus c), .zx h (execTrcTrigger c), .zx h (execTrcRelease c), .zx h (execHangDeclare c), .zx h (execHangRelease c),
    .zx h (execLogResend c), .operator h (execStemPortCtrl c), .operator h (execResync c), .operator h (execTimeSrcSet c),
    .operator h (execTimeStatus c), .operator h (execPpsSet c), .operator h (execGroveLoad c), .operator h (execGroveUnload c),
    .operator h (execGroveInfo c), fun a => .operator h (execGroveEval c a), fun a => .operator h (execGrovePeerBind c a),
    .operator h (execGroveScoreRead c), .operator h (execGroveGrsImage c), .operator h (execGroveGrsRefresh c), .operator h (execLagRead c),
    .operator h (execDriftRead c), .operator h (execSuspectRead c), .operator h (execSuspectClear c), .operator h (execLookoutAdmit c),
    .operator h (execLookoutStatus c), .operator h (execDieFence c), .operator h (execTestRequest c), .operator h (execTestStart c),
    .operator h (execTestResult c), .operator h (execTestCancel c), .operator h (execApdLoad c), .operator h (execApdUnload c),
    .operator h (execApdInfo c), .operator h (execReplayRun c), .operator h (execReplayCancel c), .operator h (execReplayStatus c),
    .operator h (execReplayUnit c), .operator h (execReplayGen c), .operator h (execReplayCrosscheck c), .operator h (execJobOpen c),
    .operator h (execPlacementMigrate c), .operator h (execPeerDeclare c), .operatorOrMctp h (execFirebreakFence c),
    .operator h (execFirebreakClear c), .operator h (execCanopyIdentSet c), .operator h (execCanopyPortCtrl c), .operator h (execCanopyTopoRead c),
    .operator h (execFabricStatus c), .operatorOrMctp h (execSysStatus c), .pcieOrMctpAnd h (execSysResetWarm c),
    .pcieOrMctpAnd h (execSysResetCold c), .pcieOrMctpAnd h (execSysResetStemPort c), .pcieOrMctpAnd h (execSysResetCanopyPort c),
    .pcieOrMctpAnd h (execSysResetCluster c), .pcieOrMctpAnd h (execFwUpdate c), .pcie h (execFwActivate c), .operatorOrMctp h (execFwInfo c),
    .zx h (execZxRegRead c), .zx h (execZxRegWrite c), .operatorOrMctp h (execHwRead c), .pcie h (execHwClear c),
    .operatorOrMctp h (execSafetyStatus c), .operatorOrMctp h (execHangDumpRead c), .operatorOrMctp h (execLcStatus c),
    .pcieOrMctp h (execLcTransition c), .pcieAnd h (execWtArm c), .pcieAnd h (execWtDisarm c), .pcieAnd h (execWtStatus c)⟩

end Sys2Proof.Machine
end

section
/-! SUPPORT. Registers read and written over APB, BAR0 and the register opcodes. -/

namespace Sys2Proof.Machine
open Sys2Proof

/-! ### What storing a register writes (R9, R12) -/

theorem State.storeField_frame (s : State) (i w : Nat) (f : Fld) : s.storeField i w f = { s with regs := (s.storeField i w f).regs } := by
  unfold State.storeField
  cases f.acc <;> dsimp only
  case w1c => split <;> rfl
  all_goals rfl

/-- Storing a register changes register fields and nothing else. -/
theorem State.store_frame (s : State) (r : Reg) (i w : Nat) : s.store r i w = { s with regs := (s.store r i w).regs } := by
  unfold State.store
  induction Reg.fields r generalizing s with
  | nil => rfl
  | cons f l ih =>
    rw [List.foldl_cons, ih, s.storeField_frame]

theorem State.store_out (s : State) (r : Reg) (i w : Nat) : (s.store r i w).out = s.out := by rw [s.store_frame]

theorem State.store_zx (s : State) (r : Reg) (i w : Nat) : (s.store r i w).zx = s.zx := by rw [s.store_frame]

theorem State.store_ep (s : State) (r : Reg) (i w : Nat) : (s.store r i w).ep = s.ep := by rw [s.store_frame]

theorem State.rd_storeField_same (s : State) {f : Fld} (i w : Nat) (hf : f.acc = .rw) :
    (s.storeField i w f).rd f i = storedValue f (bits w f.hi f.lo) % 2 ^ f.width := by
  unfold State.storeField
  rw [hf]
  exact s.rd_wr_same f i _

theorem State.rd_storeField_otherLo (s : State) {f g : Fld} (i w : Nat) (hf : f.lo < 64) (hg : g.lo < 64) (h : g.lo ≠ f.lo) :
    (s.storeField i w f).rd g i = s.rd g i := by
  unfold State.storeField
  cases f.acc <;> dsimp only
  case rw => exact s.rd_wr_otherLo _ hf hg h
  case rws => exact s.rd_wr_otherLo _ hf hg h
  case w1c =>
    split
    · exact s.rd_wr_otherLo _ hf hg h
    · rfl

theorem State.rd_foldl_storeField_otherLo (s : State) {l : List Fld} {g : Fld} (i w : Nat) (hl : ∀ f ∈ l, f.lo < 64) (hg : g.lo < 64)
    (h : ∀ f ∈ l, g.lo ≠ f.lo) : (l.foldl (fun s f => s.storeField i w f) s).rd g i = s.rd g i := by
  induction l generalizing s with
  | nil => rfl
  | cons f l ih =>
    rw [List.forall_mem_cons] at hl h
    exact (ih _ hl.2 h.2).trans (s.rd_storeField_otherLo i w hl.1 hg h.1)

theorem State.rd_foldl_storeField (s : State) {l : List Fld} {f : Fld} (i w : Nat) (hl : ∀ g ∈ l, g.lo < 64)
    (hd : l.Pairwise (fun a b => a.lo ≠ b.lo)) (hf : f ∈ l) (ha : f.acc = .rw) :
    (l.foldl (fun s f => s.storeField i w f) s).rd f i = storedValue f (bits w f.hi f.lo) % 2 ^ f.width := by
  induction l generalizing s with
  | nil => cases hf
  | cons g l ih =>
    rw [List.pairwise_cons] at hd
    have hl' := (List.forall_mem_cons.mp hl).2
    rcases List.mem_cons.mp hf with rfl | hf
    · exact (State.rd_foldl_storeField_otherLo _ i w hl' (hl f List.mem_cons_self) hd.1).trans (s.rd_storeField_same i w ha)
    · exact ih _ hl' hd.2 hf

/-- A RW field of a register stored reads the value that its column stores for the bits written. -/
theorem State.rd_store (s : State) {r : Reg} {f : Fld} (i w : Nat) (hl : ∀ g ∈ Reg.fields r, g.lo < 64)
    (hd : (Reg.fields r).Pairwise (fun a b => a.lo ≠ b.lo)) (hf : f ∈ Reg.fields r) (ha : f.acc = .rw) :
    (s.store r i w).rd f i = storedValue f (bits w f.hi f.lo) % 2 ^ f.width := s.rd_foldl_storeField i w hl hd hf ha

theorem bits_bit_mod (w b : Nat) (hb : b < 32) : bits (w % 2 ^ 32) b b = bits w b b := by
  unfold bits
  rw [Nat.add_sub_cancel_left, pow_one, Nat.shiftRight_eq_div_pow, Nat.shiftRight_eq_div_pow]
  have := Nat.testBit_mod_two_pow w 32 b
  simp only [Nat.testBit_eq_decide_div_mod_eq, hb, decide_true, Bool.true_and, decide_eq_decide] at this
  omega

/-- The fields of ZX_IRQ_EN are RW bits below bit 32, stored as written. -/
theorem irqEn_fields : ∀ f ∈ Reg.fields .ZX_IRQ_EN, f.acc = .rw ∧ f.hi = f.lo ∧ f.lo < 32 ∧ f.width = 1 ∧ f ∉ zeroStoresOne ∧
    ∀ l ∈ [storeFloor, storeCeil, storeNone], l.find? (fun x => x.1 = f) = none := by
  decide

theorem storedValue_irqEn {f : Fld} (hf : f ∈ Reg.fields .ZX_IRQ_EN) (v : Nat) : storedValue f v = v := by
  obtain ⟨-, -, -, -, hz, hl⟩ := irqEn_fields f hf
  simp only [List.forall_mem_cons] at hl
  obtain ⟨hfl, hc, hn, -⟩ := hl
  simp only [storedValue, hz, hfl, hc, hn, if_false, Option.map_none]

theorem State.rd_store_irqEn (s : State) (w : Nat) :
    ∀ f ∈ Reg.fields .ZX_IRQ_EN, (s.store .ZX_IRQ_EN 0 (w % 2 ^ 32)).rd f 0 = bits w f.lo f.lo := by
  intro f hf
  obtain ⟨ha, hhi, hlo, hw, -⟩ := irqEn_fields f hf
  rw [s.rd_store 0 _ (by decide) (by decide) hf ha, storedValue_irqEn hf, hhi, bits_bit_mod w f.lo hlo, hw]
  exact Nat.mod_eq_of_lt (by unfold bits; rw [Nat.add_sub_cancel_left]; exact Nat.mod_lt _ (by decide))

/-! ### Words over APB (R59, Table 2-23) -/

theorem apbRows_irqEn : ∀ r ∈ apbLow ++ apbMid ++ apbHigh, r.reg = .ZX_IRQ_EN → r = ⟨0x1C, 4, 1, .ZX_IRQ_EN, 0, false⟩ := by
  decide

/-- ZX_IRQ_EN is one word of 32 bits. -/
theorem apbWord?_irqEn {a : Nat} {x : ApbWord} (hx : apbWord? a = some x) (hr : x.reg = .ZX_IRQ_EN) : x.idx = 0 ∧ x.wide = false := by
  unfold apbWord? at hx
  split at hx
  · cases hx
  · obtain ⟨r, hfind, rfl⟩ := Option.map_eq_some_iff.mp hx
    have hmem : r ∈ apbLow ++ apbMid ++ apbHigh := by
      have := List.mem_of_find?_eq_some hfind
      simp only [List.mem_append]
      split at this
      · exact .inl (.inl this)
      · split at this
        · exact .inl (.inr this)
        · exact .inr this
    have hhas := List.find?_some hfind
    obtain rfl := apbRows_irqEn r hmem hr
    simp only [ApbRow.has] at hhas
    constructor
    · simp at hhas ⊢
      omega
    · rfl

theorem State.zxStore_irqEn (s : State) (i w : Nat) : s.zxStore .ZX_IRQ_EN i w = (false, s.store .ZX_IRQ_EN i w) := rfl

/-- A privileged read of a register of 32 bits answers it and has no effect. -/
theorem State.apbRead_narrow (s : State) {a : Nat} {x : ApbWord} (hx : apbWord? a = some x) (hw : x.wide = false) :
    s.apbRead a true = ((s.readReg x.reg x.idx % 2 ^ 32, false), s) := by
  simp [State.apbRead, State.wordRead, hx, hw]

/-- A privileged write of ZX_IRQ_EN with every strobe is a store. -/
theorem State.apbWrite_irqEn (s : State) {a : Nat} {x : ApbWord} (w : Nat) (hx : apbWord? a = some x) (hr : x.reg = .ZX_IRQ_EN) :
    s.apbWrite a w true true = (false, s.store .ZX_IRQ_EN 0 (w % 2 ^ 32)) := by
  obtain ⟨hidx, hwide⟩ := apbWord?_irqEn hx hr
  simp [State.apbWrite, State.wordWrite, hx, hwide, hr, hidx, State.zxStore_irqEn]

/-- A privileged write with a strobe at 0 stores nothing and is reported. -/
theorem State.apbWrite_partial (s : State) (a w : Nat) : s.apbWrite a w true false = (true, s.irq ZX_IRQ_STS_APB) := by
  simp [State.apbWrite]

theorem State.irq_regsKept (s : State) (o : Out) : RegsKept [.ZX_IRQ_STS] s ((s.irq ZX_IRQ_STS_APB).emit o) := fun f i hlo hf => by
  rw [s.irq _ |>.rd_emit]
  exact s.rd_wr_otherReg (f := ZX_IRQ_STS_APB) 1 (by decide) hlo (List.ne_of_not_mem_cons hf)

theorem exec_registerRead (a : RegAcc) (s : State) : exec (.registerRead a) s = execRegisterRead a s := rfl

theorem exec_registerWrite (a : RegAcc) (w k : Nat) (s : State) : exec (.registerWrite a w k) s = execRegisterWrite a w k s := rfl

section
variable {s : State} (hon : s.apbOn = true)
include hon

theorem exec_apbRead (hrst : s.zx.inReset = false) (a : Nat) (priv : Bool) : exec (.registerRead (.apb a priv)) s =
    done ((s.apbRead a priv).2.emit (.apb (s.apbRead a priv).1.1 (s.apbRead a priv).1.2)) := by
  simp [exec_registerRead, execRegisterRead, hon, hrst]

theorem exec_apbWrite (hrst : s.zx.inReset = false) (a : Nat) (priv : Bool) (w k : Nat) : exec (.registerWrite (.apb a priv) w k) s =
    done ((s.apbWrite a w priv (k = 15)).2.emit (.apb 0 (s.apbWrite a w priv (k = 15)).1)) := by
  simp [exec_registerWrite, execRegisterWrite, hon, hrst]

/-- In reset every access answers PSLVERR. -/
theorem exec_apbWrite_inReset (hrst : s.zx.inReset = true) (a : Nat) (priv : Bool) (w k : Nat) :
    exec (.registerWrite (.apb a priv) w k) s = done (s.emit (.apb 0 true)) := by
  simp [exec_registerWrite, execRegisterWrite, hon, hrst]

end

/-! ### Words over BAR0 (R474) -/

theorem exec_barRead {s : State} {f i : Nat} {r : Reg} (hup : s.barUp = true) (hf : f < 64) (hr : s.barHas f r i = true) :
    exec (.registerRead (.bar f r i)) s = done ((s.readEffect r i).emit (.bar f (s.readReg r i))) := by
  simp [exec_registerRead, execRegisterRead, hup, hr, Nat.not_le.mpr hf]

/-- A write by function 0 that sets no bit outside the fields is the register's store. -/
theorem exec_barWrite {s : State} {r : Reg} {i w : Nat} (hup : s.barUp = true) (hr : s.barHas 0 r i = true) (hw : w < 2 ^ 64)
    (hm : w &&& Reg.mask r i = w) (k : Nat) : exec (.registerWrite (.bar 0 r i) w k) s = done (s.bxStore 0 r i w) := by
  have hmod : w % 2 ^ 64 = w := Nat.mod_eq_of_lt hw
  simp [exec_registerWrite, execRegisterWrite, State.barWrite, hup, hr, hmod, hm, -Nat.reducePow]

/-! ### Register opcodes at a ZX40 (R147, R474, Table 5-6a) -/

theorem State.zxSendReply_wait (s : State) (tag op status : Nat) (res : List Nat) (reason : Nat) :
    ∃ x, ((s.zxSendReply tag op status res reason).link .zx).wait = (s.link .zx).wait ++ [x] ∧ x.2.body.ty = 4 ∧ x.2.body.sub = 1 ∧
      x.2.body.payload = padTo 64 (wordBytes ([zxReplyWord tag op status reason, 0] ++ res)) := by
  refine ⟨_, congrArg LinkEnd.wait (s.link_modLink .zx _), rfl, rfl, rfl⟩

/-- Refusing the commands at the head changes no register field, and what waits on the link still waits. -/
theorem zxRefuse_keeps (k : Nat) (s : State) :
    (zxRefuse k s).regs = s.regs ∧ (s.link .zx).wait ⊆ ((zxRefuse k s).link .zx).wait := by
  induction k generalizing s with
  | zero => exact ⟨rfl, fun _ h => h⟩
  | succ k ih =>
    have refused (t : List (Nat × Cap)) (tag op status : Nat) :
        let u := zxRefuse k (({ s with zx := { s.zx with caps := t } } : State).zxSendReply tag op status)
        u.regs = s.regs ∧ (s.link .zx).wait ⊆ (u.link .zx).wait := by
      obtain ⟨hregs, hwait⟩ := ih (({ s with zx := { s.zx with caps := t } } : State).zxSendReply tag op status)
      obtain ⟨x, hx, -⟩ := ({ s with zx := { s.zx with caps := t } } : State).zxSendReply_wait tag op status [] 0
      exact ⟨hregs, fun y hy => hwait (hx ▸ List.mem_append_left _ hy)⟩
    unfold zxRefuse
    split
    · exact ⟨rfl, fun _ h => h⟩
    · dsimp only
      split
      · exact refused _ _ _ _
      · split
        · exact refused _ _ _ _
        · exact ⟨rfl, fun _ h => h⟩

theorem State.zxReply_regs (s : State) (c : Cap) (op status : Nat) (res : List Nat) (reason : Nat) :
    (s.zxReply c op status res reason).regs = s.regs := (zxRefuse_keeps 8 _).1

theorem State.rd_zxReply (s : State) (c : Cap) (op status : Nat) (res : List Nat) (reason : Nat) (f : Fld) (i : Nat) :
    (s.zxReply c op status res reason).rd f i = s.rd f i :=
  congrArg (fun m => (SMap.find? m (f.key i)).getD (resetOf f i)) (s.zxReply_regs c op status res reason)

/-- A ZX40's reply waits on its Stem link, whatever the commands behind it are refused. -/
theorem State.zxReply_replied (s : State) (c : Cap) (op status : Nat) (res : List Nat) (reason : Nat) :
    (s.zxReply c op status res reason).zxReplied c op status res reason := by
  obtain ⟨x, hx, hbody⟩ := State.zxSendReply_wait { s with zx := { s.zx with caps := s.zx.caps.drop 1 } } c.tag op status res reason
  exact ⟨x, (zxRefuse_keeps 8 _).2 (hx ▸ List.mem_append_right _ (List.mem_singleton_self x)), hbody⟩

/-- Under ORIGIN INTERNAL a ZX40 executes the command at its head. -/
theorem State.zxRun_internal {s : State} {c : Cap} {op n : Nat} (hc : c.isInternal = true) (hn : s.zxNext c op = true)
    (hl : n ≤ c.params.length) (f : State → State) : s.zxRun c op n f = f s := by
  simp [State.zxRun, hc, hn, Nat.not_lt.mpr hl]

theorem Cap.isInternal_of_isOp {c : Cap} (hc : c.isOp = true) : c.isInternal = false := by
  obtain ⟨-, hp⟩ : c.tenant = 0 ∧ (c.path = 0 ∨ c.path = 2) := of_decide_eq_true hc
  rcases hp with hp | hp <;> simp [Cap.isInternal, hp]

/-- The operator's command to a ZX40 whose link is up and whose commands leave room is sent. -/
theorem State.zxRun_operator {s : State} {c : Cap} {op n p : Nat} (hc : c.isOp = true) (hl : 1 ≤ c.params.length)
    (hd : s.localDie? (c.p 0) = some p) (ha : (s.link (.stem p)).lstate = .active)
    (hroom : (s.zxPort p).waiting.length < 64 ∨ (s.zxPort p).out.length < 8) (f : State → State) :
    s.zxRun c op n f = s.zxSend p op c.params (some (op, c)) := by
  have hroom' : ¬ (64 ≤ (s.zxPort p).waiting.length ∧ 8 ≤ (s.zxPort p).out.length) := by omega
  simp [State.zxRun, Cap.isInternal_of_isOp hc, State.checked, hc, Nat.not_lt.mpr hl, State.toZx, hd, ha, hroom']

@[simp] theorem State.zxPort_setZxPort (s : State) (p : Nat) (z : ZxPort) : (s.setZxPort p z).zxPort p = z := SMap.getD_set_same _ _ _ _

/-- With eight commands under way none is issued. -/
theorem State.issueZx_of_full {s : State} {p : Nat} (h : 8 ≤ (s.zxPort p).out.length) : s.issueZx p = s := by
  unfold State.issueZx
  dsimp only
  split
  · rfl
  · exact if_neg (Nat.not_lt.mpr h)

/-- With room the command that waited longest is issued. -/
theorem State.issueZx_of_room {s : State} {p : Nat} (hw : (s.zxPort p).waiting ≠ []) (h : (s.zxPort p).out.length < 8) :
    ((s.issueZx p).zxPort p).out.length = (s.zxPort p).out.length + 1 ∧ (s.issueZx p).wdn.replies = s.wdn.replies := by
  unfold State.issueZx
  dsimp only
  split
  · next e => exact absurd e hw
  · next m t e =>
    rw [if_pos h]
    refine ⟨?_, rfl⟩
    change List.length (ZxPort.out ((State.setZxPort s p _).zxPort p)) = _
    rw [State.zxPort_setZxPort]
    exact List.length_append

/-! ### The clauses of O16 at the two parts -/

theorem registerWrite_irqEn {s : State} {a : Nat} {x : ApbWord} (w : Nat) (hon : s.apbOn = true) (hrst : s.zx.inReset = false)
    (hx : apbWord? a = some x) (hr : x.reg = .ZX_IRQ_EN) : Answers (.registerWrite (.apb a true) w 15) s (fun u =>
      (∀ f ∈ Reg.fields .ZX_IRQ_EN, u.rd f 0 = bits w f.lo f.lo) ∧ u.out = s.out ++ [.apb 0 false] ∧ u.zx = s.zx) := by
  have he := exec_apbWrite hon hrst a true w 15
  rw [decide_eq_true rfl, s.apbWrite_irqEn w hx hr] at he
  exact ⟨_, he, s.rd_store_irqEn w, congrArg (· ++ [Out.apb 0 false]) (s.store_out _ 0 _), s.store_zx _ 0 _⟩

theorem registerWrite_partial {s : State} (a w : Nat) {k : Nat} (hon : s.apbOn = true) (hrst : s.zx.inReset = false) (hk : k ≠ 15) :
    Answers (.registerWrite (.apb a true) w k) s (fun u =>
      u.rd ZX_IRQ_STS_APB = 1 ∧ u.out = s.out ++ [.apb 0 true] ∧ u.zx = s.zx ∧ RegsKept [.ZX_IRQ_STS] s u) := by
  have he := exec_apbWrite hon hrst a true w k
  rw [decide_eq_false hk, s.apbWrite_partial] at he
  exact ⟨_, he, s.rd_wr_same ZX_IRQ_STS_APB 0 1, rfl, rfl, s.irq_regsKept _⟩

theorem registerWrite_epcCtrl {s : State} {w : Nat} (hup : s.barUp = true) (hw : w < 2 ^ 64) (hm : w &&& Reg.mask .BX_EPC_CTRL 0 = w) :
    Answers (.registerWrite (.bar 0 .BX_EPC_CTRL 0) w 255) s (fun u =>
      u.rd BX_EPC_CTRL_RETAIN_EPOCHS = storedValue BX_EPC_CTRL_RETAIN_EPOCHS (bits w 63 32) % 2 ^ 32 ∧
      u.rd BX_EPC_CTRL_MIN_LEAD = storedValue BX_EPC_CTRL_MIN_LEAD (bits w 31 24) % 2 ^ 8 ∧
      u.rd BX_EPC_CTRL_READ_WAIT_US = storedValue BX_EPC_CTRL_READ_WAIT_US (bits w 15 0) % 2 ^ 16 ∧ u.ep = s.ep) := by
  have hrd (f : Fld) (hf : f ∈ Reg.fields .BX_EPC_CTRL) (ha : f.acc = .rw) := s.rd_store 0 w (by decide) (by decide) hf ha
  refine ⟨_, exec_barWrite hup (Bool.and_eq_true_iff.mpr ⟨by decide, rfl⟩) hw hm 255, ?_, ?_, ?_, ?_⟩
  · exact hrd BX_EPC_CTRL_RETAIN_EPOCHS (by decide) rfl
  · exact hrd BX_EPC_CTRL_MIN_LEAD (by decide) rfl
  · exact hrd BX_EPC_CTRL_READ_WAIT_US (by decide) rfl
  · exact s.store_ep .BX_EPC_CTRL 0 w

theorem zxRegRead_internal {s : State} {c : Cap} {x : ApbWord} (hc : c.isInternal = true) (hn : s.zxNext c 0x0501 = true)
    (hl : 3 ≤ c.params.length) (h2 : c.p 2 = 0) (hx : apbWord? (c.p 1) = some x) (hw : x.wide = false) :
    Answers (.zxRegRead c) s (fun u => u.zxReplied c 0x0501 S_OK [s.readReg x.reg x.idx % 2 ^ 32]) := by
  refine ⟨s.zxReply c 0x0501 S_OK [s.readReg x.reg x.idx % 2 ^ 32], ?_, s.zxReply_replied c _ _ _ 0⟩
  change execZxRegRead c s = _
  unfold execZxRegRead
  rw [State.zxRun_internal hc hn hl, s.apbRead_narrow hx hw, h2]
  rfl

theorem zxRegWrite_internal {s : State} {c : Cap} {x : ApbWord} (hc : c.isInternal = true) (hn : s.zxNext c 0x0502 = true)
    (hl : 4 ≤ c.params.length) (h2 : c.p 2 = 0) (hx : apbWord? (c.p 1) = some x) (hr : x.reg = .ZX_IRQ_EN) :
    Answers (.zxRegWrite c) s (fun u => u.zxReplied c 0x0502 S_OK [] ∧
      (∀ f ∈ Reg.fields .ZX_IRQ_EN, u.rd f 0 = bits (c.p 3) f.lo f.lo)) := by
  let u := s.store .ZX_IRQ_EN 0 (c.p 3 % 2 ^ 32)
  refine ⟨u.zxReply c 0x0502 S_OK, ?_, u.zxReply_replied c _ _ _ 0, fun f hf => ?_⟩
  · change execZxRegWrite c s = _
    unfold execZxRegWrite
    rw [State.zxRun_internal hc hn hl, s.apbWrite_irqEn _ hx hr, h2]
    rfl
  · rw [u.rd_zxReply]
    exact s.rd_store_irqEn _ f hf

section
variable {s : State} {c : Cap} {p : Nat} (hc : c.isOp = true) (hl : 1 ≤ c.params.length) (hd : s.localDie? (c.p 0) = some p)
  (ha : (s.link (.stem p)).lstate = .active)
include hc hl hd ha

/-- Eight commands under way: the write joins those that wait. -/
theorem zxRegWrite_waits (hwait : (s.zxPort p).waiting.length < 64) (hout : (s.zxPort p).out.length = 8) :
    Answers (.zxRegWrite c) s (fun u => (u.zxPort p).waiting.length = (s.zxPort p).waiting.length + 1 ∧ u.wdn.replies = s.wdn.replies) := by
  refine ⟨s.zxSend p 0x0502 c.params (some (0x0502, c)), ?_, ?_⟩
  · change execZxRegWrite c s = _
    unfold execZxRegWrite
    rw [State.zxRun_operator hc hl hd ha (.inl hwait)]; rfl
  · unfold State.zxSend
    dsimp only
    rw [State.issueZx_of_full (by rw [State.zxPort_setZxPort]; exact hout.ge), State.zxPort_setZxPort]
    exact ⟨List.length_append, rfl⟩

/-- Room among those under way: a command is sent, the read itself where none waits before it. -/
theorem zxRegRead_sent (hout : (s.zxPort p).out.length < 8) :
    Answers (.zxRegRead c) s (fun u => (u.zxPort p).out.length = (s.zxPort p).out.length + 1 ∧ u.wdn.replies = s.wdn.replies) := by
  refine ⟨s.zxSend p 0x0501 c.params (some (0x0501, c)), ?_, ?_⟩
  · change execZxRegRead c s = _
    unfold execZxRegRead
    rw [State.zxRun_operator hc hl hd ha (.inr hout)]; rfl
  · unfold State.zxSend
    dsimp only
    have h := State.issueZx_of_room (s := s.setZxPort p { s.zxPort p with
      waiting := (s.zxPort p).waiting ++ [{ tag := (s.zxPort p).nextTag, op := 0x0501, params := c.params, origin := some (0x0501, c) }],
      nextTag := ((s.zxPort p).nextTag + 1) % 65536 }) (p := p)
    rw [State.zxPort_setZxPort] at h
    exact h (List.append_ne_nil_of_right_ne_nil _ (List.cons_ne_nil _ _)) hout

end

/-- Settles O16: APB, BAR0 and the two register opcodes all come to readReg and to store. -/
theorem registersAreReadAndWritten : Obligations.RegistersAreReadAndWritten := by
  refine ⟨fun s a x hon hrst hx hw => ⟨_, exec_apbRead hon hrst a true, ?_⟩,
    fun s a w x hon hrst hx hr => registerWrite_irqEn w hon hrst hx hr,
    fun s a w k hon hrst hk => registerWrite_partial a w hon hrst hk,
    fun s a w k priv hon hrst => ⟨_, exec_apbWrite_inReset hon hrst a priv w k, rfl⟩,
    fun s f i r hup hf hr => ⟨_, exec_barRead hup hf hr, ?_⟩,
    fun s w hup hw hm => registerWrite_epcCtrl hup hw hm,
    fun s c x hc hn hl h2 hx hw => zxRegRead_internal hc hn hl h2 hx hw,
    fun s c x hc hn hl h2 hx hr => zxRegWrite_internal hc hn hl h2 hx hr,
    fun s c p hc hl hd ha hwait hout => zxRegWrite_waits hc hl hd ha hwait hout,
    fun s c p hc hl hd ha _ hout => zxRegRead_sent hc hl hd ha hout⟩
  · rw [s.apbRead_narrow hx hw]
  · exact List.getLast?_concat

end Sys2Proof.Machine
end

section
/-! SUPPORT. The internal commands of a ZX40 (Table 5-6a). -/

namespace Sys2Proof.Machine
open Sys2Proof

/-! ### Fields kept -/

/-- Fields that a removal of register fields spares read as before. -/
theorem State.rd_dropRegs (s : State) {p : Nat → Bool} {f : Fld} {i : Nat} (hp : p (f.key i) = false) :
    (s.dropRegs p).rd f i = s.rd f i := by
  have hfind : SMap.find? (s.regs.filter (fun x => !p x.1)) (f.key i) = SMap.find? s.regs (f.key i) := by
    induction s.regs with
    | nil => rfl
    | cons e t ih =>
      by_cases he : e.1 = f.key i
      · simp [List.filter, he, hp, SMap.find?]
      · by_cases hd : p e.1 <;> simp [List.filter, hd, SMap.find?, he, ih]
  exact congrArg (fun x => x.getD (resetOf f i)) hfind

/-- A field of a register outside a list of registers has no key of theirs. -/
theorem keyOf_key {rs : List Reg} {f : Fld} {i : Nat} (hlo : f.lo < 64) (hf : f.reg ∉ rs) : keyOf rs (f.key i) = false := by
  have hidx : f.key i / 64 % 256 = f.reg.ctorIdx := by
    have := Reg.ctorIdx_lt f.reg
    unfold Fld.key
    omega
  simp only [keyOf, hidx, List.any_eq_false, beq_iff_eq]
  exact fun r hr he => hf (Reg.ctorIdx_inj he ▸ hr)

/-- A ZX40 that answers what waits at its head changes nothing of itself but the commands it holds. -/
theorem zxRefuse_zx {α : Type} (g : Zx → α) (hg : ∀ z l, g { z with caps := l } = g z) (k : Nat) (s : State) :
    g (zxRefuse k s).zx = g s.zx := by
  induction k generalizing s with
  | zero => rfl
  | succ k ih =>
    unfold zxRefuse
    split
    · rfl
    · dsimp only
      split
      · exact (ih _).trans (hg _ _)
      · split
        · exact (ih _).trans (hg _ _)
        · rfl

/-- A reply of a ZX40 changes nothing of it but the commands it holds. -/
theorem State.zxReply_zx {α : Type} (g : Zx → α) (s : State) (c : Cap) (op status : Nat)
    (hg : ∀ z l, g { z with caps := l } = g z := by exact fun _ _ => rfl) : g (s.zxReply c op status).zx = g s.zx :=
  (zxRefuse_zx g hg 8 _).trans (hg _ _)

theorem State.zxInt_internal {s : State} {c : Cap} {op n : Nat} (hn : s.zxNext c op = true) (hc : c.isInternal = true)
    (hl : n ≤ c.params.length) (f : State → State) : s.zxInt c op n f = f s := by
  simp [State.zxInt, hn, hc, Nat.not_lt.mpr hl]

/-! ### ZX_ADMIT -/

/-- The registers of the trace buffers, the hang dump and the image banks that a Clearing returns to reset. -/
def clearedRegs : List Reg := [.ZX_HD_STS, .ZX_TRC_DWR, .ZX_TRC_DRD, .ZX_GRS_STS]

theorem State.rd_zxClear (s : State) {f : Fld} {i : Nat} (hlo : f.lo < 64) (hf : f.reg ∉ clearedRegs) : s.zxClear.rd f i = s.rd f i :=
  State.rd_dropRegs _ (keyOf_key hlo hf)

/-- A life-cycle state taken changes no register but those a Clearing returns to reset and the light set's control. -/
theorem State.rd_zxSetLc (s : State) (lc : Nat) {f : Fld} {i : Nat} (hlo : f.lo < 64) (hf : f.reg ∉ .ZX_LS_CTRL :: clearedRegs) :
    (s.zxSetLc lc).rd f i = s.rd f i := by
  have hclr := List.not_mem_of_not_mem_cons hf
  unfold State.zxSetLc
  dsimp only
  split
  · rfl
  · rw [State.rd_zxClear _ hlo hclr]
    split
    · exact State.rd_wr_otherReg _ _ (by decide) hlo (List.ne_of_not_mem_cons hf)
    · rfl

theorem State.zxSetLc_log (s : State) (lc : Nat) (h : s.zx.log = []) : (s.zxSetLc lc).zx.log = [] := by
  unfold State.zxSetLc
  split
  · exact h
  · rfl

/-- RETURN is entered, and from another state its Clearing with it. -/
theorem State.zxSetLc_return (s : State) : (s.zxSetLc 3).zx.lc = 3 ∧ (s.zx.lc ≠ 3 → (s.zxSetLc 3).zx.clearing = true) := by
  unfold State.zxSetLc
  split
  · next h => exact ⟨h.elim id id, fun hne => absurd (h.elim id id) hne⟩
  · exact ⟨rfl, fun _ => rfl⟩

theorem State.rd_newInc_incarnation (s : State) {inc : Nat} (h : inc < 65536) : (s.newInc inc).rd ZX_EPC_ID_INCARNATION = inc := by
  unfold State.newInc
  split
  · assumption
  · exact (State.rd_wr_same _ _ _ _).trans (Nat.mod_eq_of_lt h)

theorem State.newInc_log (s : State) {inc : Nat} (h : s.zxInc ≠ inc) : (s.newInc inc).zx.log = [] := by
  unfold State.newInc
  rw [if_neg h]
  unfold State.ls
  dsimp only
  split <;> rfl

theorem State.rd_ls (s : State) (k n : Nat) {f : Fld} {i : Nat} (hlo : f.lo < 64) (hf : f.reg ≠ .ZX_LS_VAL) : (s.ls k n).rd f i = s.rd f i := by
  unfold State.ls
  split
  · rfl
  · exact State.rd_wr_otherReg _ _ (by decide) hlo hf

theorem State.rd_newInc (s : State) (inc : Nat) {f : Fld} {i : Nat} (hlo : f.lo < 64) (hf : f.reg ∉ [Reg.ZX_LOG_ACKED, .ZX_LS_VAL, .ZX_EPC_ID]) :
    (s.newInc inc).rd f i = s.rd f i := by
  simp only [List.mem_cons, List.not_mem_nil, or_false, not_or] at hf
  obtain ⟨hack, hls, hid⟩ := hf
  unfold State.newInc
  split
  · rfl
  · dsimp only
    rw [State.rd_wr_otherReg _ _ (by decide) hlo hid, State.rd_ls _ _ _ hlo hls, State.rd_wr_otherReg _ _ (by decide) hlo hack,
      State.rd_wr_otherReg _ _ (by decide) hlo hack]
    rfl

theorem zxAdmit_admits {s : State} {c : Cap} (hn : s.zxNext c 0x0630 = true) (hc : c.isInternal = true) (hl : 3 ≤ c.params.length)
    (h1 : c.p 1 % 65536 ≠ 0) (h2 : c.p 2 ≤ 2) : Answers (.zxAdmit c) s (fun u => u.rd ZX_EPC_ADDR_ADMITTED = 1 ∧
      u.rd ZX_EPC_ADDR_DIE_ADDR = c.p 0 % 2 ^ 18 ∧ u.rd ZX_EPC_ID_INCARNATION = c.p 1 % 65536 ∧ (s.zxInc ≠ c.p 1 % 65536 → u.zx.log = []) ∧
      u.zxReplied c 0x0630 S_OK []) := by
  let a := ((s.wr ZX_EPC_ADDR_ADMITTED 0 1).wr ZX_EPC_ADDR_SELF 0 (bits (c.p 0) 18 18)).wr ZX_EPC_ADDR_DIE_ADDR 0 (c.p 0)
  let u := (a.newInc (c.p 1 % 65536)).zxSetLc (c.p 2)
  have he : exec (.zxAdmit c) s = done (u.zxReply c 0x0630 S_OK) := by
    change execZxAdmit c s = _
    unfold execZxAdmit
    rw [State.zxInt_internal hn hc hl, if_neg (by omega)]
  have hinc : a.zxInc = s.zxInc := by
    unfold State.zxInc
    simp only [a]
    rw [State.rd_wr_otherReg _ _ (by decide) (by decide) (by decide), State.rd_wr_otherReg _ _ (by decide) (by decide) (by decide),
      State.rd_wr_otherReg _ _ (by decide) (by decide) (by decide)]
  have haddr (f : Fld) (hlo : f.lo < 64) (hf : f.reg = .ZX_EPC_ADDR) : (u.zxReply c 0x0630 S_OK).rd f = a.rd f := by
    rw [u.rd_zxReply, State.rd_zxSetLc _ _ hlo (by rw [hf]; decide), State.rd_newInc _ _ hlo (by rw [hf]; decide)]
  refine ⟨_, he, ?_, ?_, ?_, fun hne => ?_, u.zxReply_replied c _ _ _ 0⟩
  · rw [haddr _ (by decide) rfl, State.rd_wr_otherLo _ _ (by decide) (by decide) (by decide),
      State.rd_wr_otherLo _ _ (by decide) (by decide) (by decide), State.rd_wr_same]
    rfl
  · rw [haddr _ (by decide) rfl, State.rd_wr_same]
    rfl
  · rw [u.rd_zxReply, State.rd_zxSetLc _ _ (by decide) (by decide), State.rd_newInc_incarnation _ (Nat.mod_lt _ (by decide))]
  · rw [u.zxReply_zx Zx.log]
    exact State.zxSetLc_log _ _ (State.newInc_log _ (hinc ▸ hne))

/-! ### The shadows: ZX_SHADOW_WRITE, ZX_GRS_IMAGE_WRITE, ZX_CFG_DONE, ZX_ARM, ZX_CFG_DROP -/

theorem State.rd_firstWrite_gen (s : State) {g : Nat} (hg : g < 65536) : (s.firstWrite g).rd ZX_EPC_ID_STAGED_GEN = g := by
  unfold State.firstWrite
  split
  · assumption
  · rw [State.rd_wr_otherLo _ _ (by decide) (by decide) (by decide), State.rd_wr_same]
    exact Nat.mod_eq_of_lt hg

theorem State.firstWrite_grsStaged (s : State) (g : Nat) : (s.firstWrite g).zx.grsStaged = s.zx.grsStaged := by
  unfold State.firstWrite
  split <;> rfl

/-- Values set one after the other at addresses a word apart are each found at their own. -/
theorem SMap.find?_foldl_words (m : SMap Nat) (a : Nat) (v : Nat → Nat) (n i : Nat) (hi : i < n) :
    SMap.find? ((List.range n).foldl (fun (m : SMap Nat) i => SMap.set m (a + 4 * i) (v i)) m) (a + 4 * i) = some (v i) := by
  induction n with
  | zero => omega
  | succ n ih =>
    rw [List.range_succ, List.foldl_append, List.foldl_cons, List.foldl_nil]
    by_cases h : i = n
    · rw [h, SMap.find?_set_same]
    · rw [SMap.find?_set_other _ _ (by omega)]
      exact ih (by omega)

theorem zxShadowWrite_holds {s : State} {c : Cap} (hn : s.zxNext c 0x0210 = true) (hc : c.isInternal = true) (h0 : c.p 0 ≠ 0)
    (hg : c.p 0 < 65536) (h1 : 1 ≤ c.p 2) (h3 : c.p 2 ≤ 3) (hl : c.p 2 + 3 ≤ c.params.length)
    (hst : ∀ i < c.p 2, (zxStaged? (c.p 1 + 4 * i)).isSome = true) (ha : s.flag ZX_EPC_ID_ARMED = false) :
    Answers (.zxShadowWrite c) s (fun u => (∀ i < c.p 2, u.zx.shadow.find? (c.p 1 + 4 * i) = some (c.p (3 + i) % 2 ^ 32)) ∧
      u.rd ZX_EPC_ID_STAGED_GEN = c.p 0 ∧ u.zxReplied c 0x0210 S_OK []) := by
  let w := s.firstWrite (c.p 0)
  let m := (List.range (c.p 2)).foldl (fun (m : SMap Nat) i => SMap.set m (c.p 1 + 4 * i) (c.p (3 + i) % 2 ^ 32)) w.zx.shadow
  let u : State := { w with zx := { w.zx with shadow := m } }
  have he : exec (.zxShadowWrite c) s = done (u.zxReply c 0x0210 S_OK) := by
    change execZxShadowWrite c s = _
    unfold execZxShadowWrite
    have hok : c.p 0 % 65536 ≠ 0 ∧ 1 ≤ c.p 2 ∧ c.p 2 ≤ 3 ∧ c.p 2 + 3 ≤ c.params.length ∧
        (List.range (c.p 2)).all (fun i => (zxStaged? (c.p 1 + 4 * i)).isSome) = true :=
      ⟨by omega, h1, h3, hl, List.all_eq_true.mpr fun i hi => hst i (List.mem_range.mp hi)⟩
    rw [State.zxInt_internal hn hc (by omega)]
    dsimp only
    rw [if_neg (not_not.mpr hok), if_neg (by rw [ha]; decide)]
  refine ⟨_, he, fun i hi => ?_, ?_, u.zxReply_replied c _ _ _ 0⟩
  · rw [u.zxReply_zx Zx.shadow]
    exact SMap.find?_foldl_words _ _ (fun i => c.p (3 + i) % 2 ^ 32) _ i hi
  · rw [u.rd_zxReply]
    exact s.rd_firstWrite_gen hg

theorem zxGrsImageWrite_writes {s : State} {c : Cap} (hn : s.zxNext c 0x0310 = true) (hc : c.isInternal = true) (hl : 6 ≤ c.params.length)
    (h0 : c.p 0 ≠ 0) (h32 : c.p 1 % 32 = 0) (hoff : c.p 1 < imageBytes) (ha : s.flag ZX_EPC_ID_ARMED = false) (hr : s.zx.grsRole = none) :
    Answers (.zxGrsImageWrite c) s (fun u => u.zx.grsStaged = imageWrite s.zx.grsStaged (c.p 1) [c.p 2, c.p 3, c.p 4, c.p 5] ∧
      u.zxReplied c 0x0310 S_OK []) := by
  let w := s.firstWrite (c.p 0)
  let img := imageWrite w.zx.grsStaged (c.p 1) [c.p 2, c.p 3, c.p 4, c.p 5]
  let u := ({ w with zx := { w.zx with grsStaged := img } } : State).wr ZX_GRS_STS_STAGED_VALID 0 (b2n (imageOk img))
  have he : exec (.zxGrsImageWrite c) s = done (u.zxReply c 0x0310 S_OK) := by
    change execZxGrsImageWrite c s = _
    unfold execZxGrsImageWrite
    rw [State.zxInt_internal hn hc hl]
    dsimp only
    rw [if_neg (by omega), if_neg (by rw [ha, hr]; simp), if_neg h0]
    rfl
  refine ⟨_, he, ?_, u.zxReply_replied c _ _ _ 0⟩
  rw [u.zxReply_zx Zx.grsStaged, ← s.firstWrite_grsStaged (c.p 0)]
  rfl

theorem zxCfgDone_stages {s : State} {c : Cap} (hn : s.zxNext c 0x0211 = true) (hc : c.isInternal = true) (hl : 3 ≤ c.params.length)
    (h0 : c.p 0 ≠ 0) (hg : c.p 0 = s.rd ZX_EPC_ID_STAGED_GEN)
    (hcrc : zxCfgCrc (fun a => (s.zx.shadow.find? a).getD (s.zxLive a)) = c.p 1 % 2 ^ 32)
    (hv : bitAt (c.p 2) 0 = false ∨ s.flag ZX_GRS_STS_STAGED_VALID = true) : Answers (.zxCfgDone c) s (fun u => u.rd ZX_EPC_ID_STAGED = 1 ∧
      u.zx.stagedGrs = bitAt (c.p 2) 0 ∧ u.zxReplied c 0x0211 S_OK []) := by
  let u := ({ s with zx := { s.zx with stagedGrs := bitAt (c.p 2) 0 } } : State).wr ZX_EPC_ID_STAGED 0 1
  have he : exec (.zxCfgDone c) s = done (u.zxReply c 0x0211 S_OK) := by
    change execZxCfgDone c s = _
    unfold execZxCfgDone
    rw [State.zxInt_internal hn hc hl]
    dsimp only
    rw [if_neg h0, if_neg (not_not.mpr hg), if_pos ⟨hcrc, hv.imp (by rintro h; rw [h]; decide) id⟩]
  refine ⟨_, he, ?_, u.zxReply_zx Zx.stagedGrs c 0x0211 S_OK, u.zxReply_replied c _ _ _ 0⟩
  rw [u.rd_zxReply, State.rd_wr_same]
  rfl

theorem zxArm_arms {s : State} {c : Cap} (hn : s.zxNext c 0x0212 = true) (hc : c.isInternal = true) (hl : 4 ≤ c.params.length)
    (hst : s.flag ZX_EPC_ID_STAGED = true) (hg : c.p 0 = s.rd ZX_EPC_ID_STAGED_GEN) (ht : s.zxNs < c.p 1) :
    Answers (.zxArm c) s (fun u => u.zx.armed = some (c.p 1, c.p 2, c.p 3) ∧ u.rd ZX_EPC_ID_ARMED = 1 ∧ u.zxReplied c 0x0212 S_OK []) := by
  let u := ({ s with zx := { s.zx with armed := some (c.p 1, c.p 2, c.p 3) } } : State).wr ZX_EPC_ID_ARMED 0 1
  have he : exec (.zxArm c) s = done (u.zxReply c 0x0212 S_OK) := by
    change execZxArm c s = _
    unfold execZxArm
    rw [State.zxInt_internal hn hc hl, if_neg (by rw [hst]; simpa using hg), if_neg (by omega)]
  refine ⟨_, he, u.zxReply_zx Zx.armed c 0x0212 S_OK, ?_, u.zxReply_replied c _ _ _ 0⟩
  rw [u.rd_zxReply, State.rd_wr_same]
  rfl

theorem zxCfgDrop_drops {s : State} {c : Cap} (hn : s.zxNext c 0x0213 = true) (hc : c.isInternal = true) (hl : 1 ≤ c.params.length)
    (hg : c.p 0 = s.rd ZX_EPC_ID_STAGED_GEN) (ha : s.flag ZX_EPC_ID_ARMED = false) :
    Answers (.zxCfgDrop c) s (fun u => u.zx.shadow = [] ∧ u.rd ZX_EPC_ID_STAGED = 0 ∧ u.zxReplied c 0x0213 S_OK []) := by
  let u := ({ s with zx := { s.zx with shadow := [], stagedGrs := false } } : State).wr ZX_EPC_ID_STAGED 0 0
  have he : exec (.zxCfgDrop c) s = done (u.zxReply c 0x0213 S_OK) := by
    change execZxCfgDrop c s = _
    unfold execZxCfgDrop
    rw [State.zxInt_internal hn hc hl, if_neg (not_not.mpr hg), if_neg (by rw [ha]; decide)]
  refine ⟨_, he, u.zxReply_zx Zx.shadow c 0x0213 S_OK, ?_, u.zxReply_replied c _ _ _ 0⟩
  rw [u.rd_zxReply, State.rd_wr_same]
  rfl

/-! ### ZX_LC_SET and ZX_WT_SET -/

theorem zxLcSet_return {s : State} {c : Cap} (hn : s.zxNext c 0x0A10 = true) (hc : c.isInternal = true) (hl : 1 ≤ c.params.length)
    (h0 : c.p 0 = 3) : Answers (.zxLcSet c) s (fun u => u.zx.lc = 3 ∧ u.zxReplied c 0x0A10 S_OK [] ∧ (s.zx.lc ≠ 3 → u.zx.clearing = true)) := by
  let u := s.zxSetLc 3
  have he : exec (.zxLcSet c) s = done (u.zxReply c 0x0A10 S_OK) := by
    change execZxLcSet c s = _
    unfold execZxLcSet
    rw [State.zxInt_internal hn hc hl, if_neg (not_not.mpr h0)]
  obtain ⟨hlc, hclr⟩ := s.zxSetLc_return
  exact ⟨_, he, (u.zxReply_zx Zx.lc c 0x0A10 S_OK).trans hlc, u.zxReply_replied c _ _ _ 0,
    fun hne => (u.zxReply_zx Zx.clearing c 0x0A10 S_OK).trans (hclr hne)⟩

theorem zxWtSet_arms {s : State} {c : Cap} (hn : s.zxNext c 0x0F10 = true) (hc : c.isInternal = true) (hl : 4 ≤ c.params.length)
    (hu : c.p 0 < 16) (harg : c.p 1 = 1 ∧ c.p 2 < 8 * s.blzSize (c.p 0) ∨ c.p 1 = 2 ∧ c.p 2 < 64) (h1 : 1 ≤ c.p 3) (h64 : c.p 3 ≤ 64) :
    Answers (.zxWtSet c) s (fun u => SMap.find? u.zx.inj (c.p 0) = some (c.p 1, c.p 2, c.p 3) ∧ u.zxReplied c 0x0F10 S_OK []) := by
  let u : State := { s with zx := { s.zx with inj := SMap.set s.zx.inj (c.p 0) (c.p 1, c.p 2, c.p 3) } }
  have he : exec (.zxWtSet c) s = done (u.zxReply c 0x0F10 S_OK) := by
    change execZxWtSet c s = _
    unfold execZxWtSet
    have hok : (if c.p 1 = 1 then decide (c.p 2 < 8 * s.blzSize (c.p 0)) else decide (c.p 2 < 64)) = true := by
      rcases harg with ⟨ha, hb⟩ | ⟨ha, hb⟩ <;> simp [ha, hb]
    rw [State.zxInt_internal hn hc hl]
    dsimp only
    rw [if_neg (by omega), if_neg (by omega), if_neg (by rw [hok]; simp; omega)]
  refine ⟨_, he, ?_, u.zxReply_replied c _ _ _ 0⟩
  rw [u.zxReply_zx Zx.inj]
  exact SMap.find?_set_same _ _ _

theorem zxWtSet_disarms {s : State} {c : Cap} (hn : s.zxNext c 0x0F10 = true) (hc : c.isInternal = true) (hl : 4 ≤ c.params.length)
    (hu : c.p 0 < 16) (h0 : c.p 1 = 0) : Answers (.zxWtSet c) s (fun u => SMap.find? u.zx.inj (c.p 0) = none ∧ u.zxReplied c 0x0F10 S_OK []) := by
  let u : State := { s with zx := { s.zx with inj := s.zx.inj.erase (c.p 0) } }
  have he : exec (.zxWtSet c) s = done (u.zxReply c 0x0F10 S_OK) := by
    change execZxWtSet c s = _
    unfold execZxWtSet
    rw [State.zxInt_internal hn hc hl]
    dsimp only
    rw [if_neg (by omega), if_pos h0]
  refine ⟨_, he, ?_, u.zxReply_replied c _ _ _ 0⟩
  rw [u.zxReply_zx Zx.inj]
  exact SMap.find?_erase_same _ _

/-- Settles O10: at the head and under ORIGIN INTERNAL each command runs its own body, whose last act is the reply. -/
theorem zx40InternalCommandsAct : Obligations.Zx40InternalCommandsAct :=
  ⟨fun _ _ hn hc hl h1 h2 => zxAdmit_admits hn hc hl h1 h2,
    fun _ _ hn hc h0 hg h1 h3 hl hst ha => zxShadowWrite_holds hn hc h0 hg h1 h3 hl hst ha,
    fun _ _ hn hc hl h0 h32 hoff ha hr => zxGrsImageWrite_writes hn hc hl h0 h32 hoff ha hr,
    fun _ _ hn hc hl h0 hg hcrc hv => zxCfgDone_stages hn hc hl h0 hg hcrc hv,
    fun _ _ hn hc hl hst hg ht => zxArm_arms hn hc hl hst hg ht,
    fun _ _ hn hc hl hg ha => zxCfgDrop_drops hn hc hl hg ha,
    fun _ _ hn hc hl h0 => zxLcSet_return hn hc hl h0,
    fun _ _ hn hc hl hu harg h1 h64 => zxWtSet_arms hn hc hl hu harg h1 h64,
    fun _ _ hn hc hl hu h0 => zxWtSet_disarms hn hc hl hu h0⟩

end Sys2Proof.Machine
end

section
/-! SUPPORT. Reading epochs (R34 to R37, Tables 1-5 and 1-6). -/

namespace Sys2Proof.Machine
open Sys2Proof

/-! ### Checks and replies (Table 16-2) -/

theorem State.checked_of_allowed (s : State) {c : Cap} {op n : Nat} {a : Bool} (ha : a = true) (hl : n ≤ c.params.length) (f : State → State) :
    s.checked c op a n f = f s := by
  unfold State.checked
  rw [if_neg (not_not.mpr ha), if_neg (Nat.not_lt.mpr hl)]

theorem State.checkedPtr_of_allowed (s : State) {c : Cap} {op n : Nat} {a : Bool} (ha : a = true) (hl : n ≤ c.params.length)
    (hp : c.noPtr = false) (f : State → State) : s.checkedPtr c op a n f = f s := by
  unfold State.checkedPtr
  rw [s.checked_of_allowed ha hl, hp]
  rfl

theorem State.reply_replied (s : State) (c : Cap) (op status : Nat) (res : List Nat) (reason : Nat) (w : Option (Nat × Bytes)) :
    (s.reply c op status res reason w).replied c op status res := by
  unfold State.replied State.lastReply State.reply
  dsimp only
  rw [List.getLast?_concat]
  rfl

theorem State.reply_wrote (s : State) (c : Cap) (op status : Nat) (res : List Nat) (reason : Nat) (b : Bytes) :
    (s.reply c op status res reason (some (c.replyPtr, b))).wrote c b := by
  unfold State.wrote State.reply
  dsimp only
  rw [List.getLast?_concat]
  rfl

/-- A reply whose status no counter of Table 16-23 counts changes nothing else. -/
theorem State.reply_onlyReply (s : State) (c : Cap) (op : Nat) {status : Nat} (hst : status ∉ [S_DENIED, S_TIMEOUT, S_BADOP]) (res : List Nat)
    (reason : Nat) (w : Option (Nat × Bytes)) : s.onlyReply (s.reply c op status res reason w) := by
  simp only [List.mem_cons, List.not_mem_nil, or_false, not_or] at hst
  obtain ⟨hd, ht, hb⟩ := hst
  unfold State.onlyReply State.reply
  dsimp only
  rw [if_neg hd, if_neg ht, if_neg hb]
  exact ⟨rfl, List.dropLast_concat, List.length_append⟩

/-- A command that comes to such a reply answers it and changes nothing else. -/
theorem answers_reply {i : Instr} {s : State} {c : Cap} {op status : Nat} {res : List Nat} (hst : status ∉ [S_DENIED, S_TIMEOUT, S_BADOP])
    (he : exec i s = done (s.reply c op status res)) : Answers i s (fun u => u.replied c op status res ∧ s.onlyReply u) :=
  ⟨_, he, s.reply_replied c op status res 0 none, s.reply_onlyReply c op hst res 0 none⟩

/-- A reply keeps the replies formed before it and joins them. -/
theorem State.reply_replies (s : State) (c : Cap) (op status : Nat) (res : List Nat) :
    ∃ r, (s.reply c op status res).wdn.replies = s.wdn.replies ++ [r] ∧ r.cap = c ∧ r.op = op ∧ r.status = status := by
  unfold State.reply
  dsimp only
  have hcounted (t : State) (p : Prop) [Decidable p] (f : Fld) : (if p then t.bump f else t).wdn = t.wdn := by split <;> rfl
  rw [hcounted, hcounted, hcounted]
  exact ⟨_, rfl, rfl, rfl, rfl⟩

/-- A reply changes no queue of epochs, contexts, records or readers. -/
theorem State.reply_ep (s : State) (c : Cap) (op status : Nat) (res : List Nat) (reason : Nat) (w : Option (Nat × Bytes)) :
    (s.reply c op status res reason w).ep = s.ep := by
  unfold State.reply
  dsimp only
  have hcounted (t : State) (p : Prop) [Decidable p] (f : Fld) : (if p then t.bump f else t).ep = t.ep := by split <;> rfl
  rw [hcounted, hcounted, hcounted]

theorem Cap.tenant_of_isOp {c : Cap} (h : c.isOp = true) : c.tenant = 0 := (of_decide_eq_true h : c.tenant = 0 ∧ _).1

theorem Cap.isTenant_of_isOp {c : Cap} (h : c.isOp = true) : c.isTenant = false := by
  simp [Cap.isTenant, Cap.tenant_of_isOp h]

/-! ### EPOCH_READ -/

/-- The operator's read of the fleet record, in a form there is, is the answer of Table 1-5 or a wait of READ_WAIT_US. -/
theorem exec_epochRead_fleet {s : State} {c : Cap} (hc : c.isOp = true) (hl : 4 ≤ c.params.length) (hp : c.noPtr = false) (h1 : c.p 1 = 0)
    (h2 : c.p 2 ≤ 1) : exec (.epochRead c) s = done ((s.epochAnswer c).getD
      { s with ep := { s.ep with waits := s.ep.waits ++ [⟨c, s.bxNs + s.rd BX_EPC_CTRL_READ_WAIT_US * 1000⟩] } }) := by
  change execEpochRead c s = _
  unfold execEpochRead
  rw [s.checkedPtr_of_allowed (by rw [hc]; rfl) hl hp]
  dsimp only
  rw [if_neg (by rw [Cap.isTenant_of_isOp hc]; simp), if_neg (by omega)]
  cases s.epochAnswer c <;> rfl

/-- Inside the window, its minimum watermark reached, a committed epoch is answered with the fleet record held. -/
theorem State.epochAnswer_committed {s : State} {c : Cap} {r : RecEntry} (h1 : c.p 1 = 0) (hsync : s.flag BX_EPC_STATE_WM_SYNCED = true)
    (hcom : s.committed (c.p 0) = true) (hwin : s.rd BX_EPC_STATE_WATERMARK < c.p 0 + s.window) (hmin : c.p 3 ≤ s.rd BX_EPC_STATE_WATERMARK)
    (hr : s.record? (c.p 0) 64 true = some r) : s.epochAnswer c = some (s.replyBlob c 0x0201 S_OK r.bytes [rdLe r.bytes 0 8]) := by
  have hview : bitAt (c.p 1) 6 = false := by rw [h1]; decide
  unfold State.epochAnswer
  dsimp only
  rw [hview, if_neg (by rw [hsync]; decide), if_neg (by simp; omega), if_neg (by omega), if_neg (by simp), if_pos hcom]
  simp only [Bool.false_eq_true, if_false, hr]

/-- A minimum watermark not reached leaves the capsule without an answer. -/
theorem State.epochAnswer_waits {s : State} {c : Cap} (hsync : s.flag BX_EPC_STATE_WM_SYNCED = true)
    (hwin : s.flag BX_EPC_STATE_WM_VALID = false ∨ s.rd BX_EPC_STATE_WATERMARK < c.p 0 + s.window)
    (hmin : s.rd BX_EPC_STATE_WATERMARK < c.p 3) : s.epochAnswer c = none := by
  unfold State.epochAnswer
  dsimp only
  rw [if_neg (by rw [hsync]; decide), if_neg (by rcases hwin with h | h <;> simp [h]), if_pos hmin]

theorem epochRead_answers {s : State} {c : Cap} {r : RecEntry} (hc : c.isOp = true) (hm : c.isMctp = false) (hl : 4 ≤ c.params.length)
    (hp : c.noPtr = false) (h1 : c.p 1 = 0) (h2 : c.p 2 ≤ 1) (hsync : s.flag BX_EPC_STATE_WM_SYNCED = true)
    (hcom : s.committed (c.p 0) = true) (hwin : s.rd BX_EPC_STATE_WATERMARK < c.p 0 + s.window) (hmin : c.p 3 ≤ s.rd BX_EPC_STATE_WATERMARK)
    (hr : s.record? (c.p 0) 64 true = some r) : Answers (.epochRead c) s (fun u => u.replied c 0x0201 S_OK
      [r.bytes.length, rdLe r.bytes 0 8] ∧ u.wrote c r.bytes ∧ s.onlyReply u) := by
  have he := exec_epochRead_fleet (s := s) hc hl hp h1 h2
  rw [State.epochAnswer_committed h1 hsync hcom hwin hmin hr] at he
  unfold State.replyBlob at he
  rw [hm] at he
  exact ⟨_, he, s.reply_replied c _ _ _ _ _, s.reply_wrote c _ _ _ _ _, s.reply_onlyReply c _ (by decide) _ _ _⟩

theorem epochRead_waits {s : State} {c : Cap} (hc : c.isOp = true) (hl : 4 ≤ c.params.length) (hp : c.noPtr = false) (h1 : c.p 1 = 0)
    (h2 : c.p 2 ≤ 1) (hsync : s.flag BX_EPC_STATE_WM_SYNCED = true)
    (hwin : s.flag BX_EPC_STATE_WM_VALID = false ∨ s.rd BX_EPC_STATE_WATERMARK < c.p 0 + s.window)
    (hmin : s.rd BX_EPC_STATE_WATERMARK < c.p 3) : Answers (.epochRead c) s (fun u =>
      u = { s with ep := { s.ep with waits := s.ep.waits ++ [⟨c, s.bxNs + s.rd BX_EPC_CTRL_READ_WAIT_US * 1000⟩] } }) := by
  have he := exec_epochRead_fleet (s := s) hc hl hp h1 h2
  rw [State.epochAnswer_waits hsync hwin hmin] at he
  exact ⟨_, he, rfl⟩

/-! ### READ_WAIT_EXPIRY -/

/-- Where no waiting reader can be answered, none is. -/
theorem State.answerWaits_of_none {s : State} (h : ∀ w ∈ s.ep.waits, (s.epochAnswer w.cap).isNone = true) : s.answerWaits = s := by
  unfold State.answerWaits
  generalize s.ep.waits = l at h
  induction l with
  | nil => rfl
  | cons w t ih =>
    obtain ⟨hw, ht⟩ := List.forall_mem_cons.mp h
    rw [List.foldl_cons, Option.isNone_iff_eq_none.mp hw]
    exact ih ht

/-- A reader whose wait has ended is counted and answered S_TIMEOUT. -/
def State.timeOutReader (s : State) (w : WaitRead) : State := (s.bump BX_EPC_MISC_CNT_READ_TIMEOUT).reply w.cap 0x0201 S_TIMEOUT

theorem State.timeOutReaders_ep (s : State) (l : List WaitRead) : (l.foldl State.timeOutReader s).ep = s.ep := by
  induction l generalizing s with
  | nil => rfl
  | cons w t ih => exact (ih _).trans (State.reply_ep _ _ _ _ _ _ _)

/-- Each of the readers is answered, and every reply formed before is kept. -/
theorem State.timeOutReaders_replies (s : State) (l : List WaitRead) : s.wdn.replies ⊆ (l.foldl State.timeOutReader s).wdn.replies ∧
    ∀ w ∈ l, ∃ r ∈ (l.foldl State.timeOutReader s).wdn.replies, r.cap = w.cap ∧ r.op = 0x0201 ∧ r.status = S_TIMEOUT := by
  induction l generalizing s with
  | nil => exact ⟨fun _ h => h, nofun⟩
  | cons w t ih =>
    obtain ⟨hsub, hall⟩ := ih (s.timeOutReader w)
    obtain ⟨r, hr, hbody⟩ := (s.bump BX_EPC_MISC_CNT_READ_TIMEOUT).reply_replies w.cap 0x0201 S_TIMEOUT []
    have hr' : (s.timeOutReader w).wdn.replies = s.wdn.replies ++ [r] := hr
    rw [hr'] at hsub
    rw [List.foldl_cons]
    refine ⟨fun x hx => hsub (List.mem_append_left _ hx), List.forall_mem_cons.mpr ⟨⟨r, ?_, hbody⟩, hall⟩⟩
    exact hsub (List.mem_append_right _ (List.mem_singleton_self r))

theorem readWaitExpiry_expires {s : State} (h : ∀ w ∈ s.ep.waits, (s.epochAnswer w.cap).isNone = true) :
    Answers (.readWaitExpiry) s (fun u => u.ep.waits = s.ep.waits.filter (fun w => decide (s.bxNs < w.until_)) ∧
      (∀ w ∈ s.ep.waits, w.until_ ≤ s.bxNs → ∃ r ∈ u.wdn.replies, r.cap = w.cap ∧ r.op = 0x0201 ∧ r.status = S_TIMEOUT)) := by
  let late := s.ep.waits.filter (fun w => decide (w.until_ ≤ s.bxNs))
  let u : State := { s with ep := { s.ep with waits := s.ep.waits.filter (fun w => decide ¬ w.until_ ≤ s.bxNs) } }
  have he : exec .readWaitExpiry s = done (late.foldl State.timeOutReader u) := by
    change execReadWaitExpiry s = _
    unfold execReadWaitExpiry
    rw [State.answerWaits_of_none h]
    rfl
  refine ⟨_, he, ?_, fun w hw ht => (u.timeOutReaders_replies late).2 w (List.mem_filter.mpr ⟨hw, decide_eq_true ht⟩)⟩
  rw [u.timeOutReaders_ep]
  simp only [u, Nat.not_le]

/-- Settles O2: each read comes to one row of Table 1-5, and the expiry answers the readers it removes. -/
theorem epochReadsAnswerWaitAndExpire : Obligations.EpochReadsAnswerWaitAndExpire := by
  refine ⟨fun _ _ _ hc hm hl hp h1 h2 hsync hcom hwin hmin hr => epochRead_answers hc hm hl hp h1 h2 hsync hcom hwin hmin hr,
    fun _ _ hc hl hp h1 h2 hsync hwin hmin => epochRead_waits hc hl hp h1 h2 hsync hwin hmin,
    fun _ h => readWaitExpiry_expires h, fun s c hc => answers_reply (by decide) ?_⟩
  exact congrArg done (s.checked_of_allowed hc (Nat.zero_le _) _)

end Sys2Proof.Machine
end

section
/-! SUPPORT. What sending a message leaves alone: Canopy messages (R379, R386, R393) and the commands to a ZX40 (R146, R147). -/

namespace Sys2Proof.Machine
open Sys2Proof

theorem RegsKept.trans {rs : List Reg} {s t u : State} (ht : RegsKept rs s t) (hu : RegsKept rs t u) : RegsKept rs s u :=
  fun f i hlo hf => (hu f i hlo hf).trans (ht f i hlo hf)

/-- A state without what the sending of messages changes: register fields, link ends, the MSG_ID and the messages under end-to-end
recovery, and the commands of the Stem ports. -/
def State.unsent (s : State) : State :=
  { s with regs := [], links := [], cnp := { s.cnp with msgId := 0, e2e := [] }, wdn := { s.wdn with zx := [] } }

/-- Between s before and t after, messages have been sent: nothing else has changed, and of the registers at most what counts detours and
messages without a route (Table 13-19). -/
structure Sends (s t : State) : Prop where
  rest : t.unsent = s.unsent
  regs : RegsKept [.BX_CNP_CNT0] s t

namespace Sends
variable {s t u : State}

theorem refl (s : State) : Sends s s := ⟨rfl, fun _ _ _ _ => rfl⟩

theorem trans (h : Sends s t) (hu : Sends t u) : Sends s u := ⟨hu.rest.trans h.rest, h.regs.trans hu.regs⟩

theorem branch {c : Prop} [Decidable c] (ht : Sends s t) (hu : Sends s u) : Sends s (if c then t else u) := by
  split <;> assumption

theorem foldl {α : Type} {f : State → α → State} {l : List α} (h : Sends s t) (hf : ∀ u x, Sends s u → Sends s (f u x)) :
    Sends s (l.foldl f t) := by
  induction l generalizing t with
  | nil => exact h
  | cons x l ih => exact ih (hf t x h)

theorem snd_eq {α : Type} {p : α × State} {a : α} (h : Sends s p.2) (e : p = (a, u)) : Sends s u := by
  subst e
  exact h

/-! What a message does not change, field by field. -/

theorem ep (h : Sends s t) : t.ep = s.ep := congrArg (fun u => u.ep) h.rest
theorem red (h : Sends s t) : t.red = s.red := congrArg (fun u => u.red) h.rest
theorem grv (h : Sends s t) : t.grv = s.grv := congrArg (fun u => u.grv) h.rest
theorem bxTb (h : Sends s t) : t.bxTb = s.bxTb := congrArg (fun u => u.bxTb) h.rest
theorem peers (h : Sends s t) : t.cnp.peers = s.cnp.peers := congrArg (fun u => u.cnp.peers) h.rest
theorem delivered (h : Sends s t) : t.cnp.delivered = s.cnp.delivered := congrArg (fun u => u.cnp.delivered) h.rest

theorem rd (h : Sends s t) {f : Fld} {i : Nat} (hlo : f.lo < 64 := by decide) (hf : f.reg ∉ [Reg.BX_CNP_CNT0] := by decide) :
    t.rd f i = s.rd f i := h.regs f i hlo hf

/-! Canopy messages. -/

theorem modLink (h : Sends s t) {e f} : Sends s (t.modLink e f) := ⟨h.rest, h.regs⟩

theorem enqueue (h : Sends s t) {e cls b fromPort} : Sends s (t.enqueue e cls b fromPort) := h.modLink

theorem consume (h : Sends s t) {e ty sub} : Sends s (t.consume e ty sub) := h.modLink

theorem bumpCnt0 (h : Sends s t) {f : Fld} (hlo : f.lo < 64) (hf : f.reg = .BX_CNP_CNT0) : Sends s (t.bump f) :=
  ⟨h.rest, h.regs.trans fun _ _ hglo hg => t.rd_wr_otherReg _ hlo hglo (by rw [hf]; exact List.ne_of_not_mem_cons hg)⟩

theorem outPort (h : Sends s t) {ty sub src dst} : Sends s (t.outPort ty sub src dst).2 := by
  have hdetour := h.bumpCnt0 (f := BX_CNP_CNT0_DETOURS) (by decide) rfl
  have hnoroute := h.bumpCnt0 (f := BX_CNP_CNT0_NOROUTE) (by decide) rfl
  dsimp only [State.outPort]
  split
  · split
    · exact h
    · split
      · exact h
      · split
        · exact hdetour
        · exact hnoroute
  · split
    · exact h
    · exact hnoroute

theorem sendOn (h : Sends s t) {q ty sub vc src dst bcast bytes hops} : Sends s (t.sendOn q ty sub vc src dst bcast bytes hops) :=
  h.foldl fun _ _ h => h.enqueue

theorem sendTo (h : Sends s t) {ty sub vc dst bytes} : Sends s (t.sendTo ty sub vc dst bytes) := by
  dsimp only [State.sendTo]
  split
  · next e => exact (h.outPort.snd_eq e).sendOn
  · next e => exact h.outPort.snd_eq e

theorem setSent (h : Sends s t) {id e2e} : Sends s { t with cnp := { t.cnp with msgId := id, e2e := e2e } } := ⟨h.rest, h.regs⟩

theorem sendMsg (h : Sends s t) {ty sub vc dst body epoch rec} : Sends s (t.sendMsg ty sub vc dst body epoch rec) :=
  (Sends.branch h.setSent h.setSent).sendTo

theorem sendCfg (h : Sends s t) {a m} : Sends s (t.sendCfg a m) := h.sendMsg

theorem toChildren (h : Sends s t) {ty sub vc body epoch rec} : Sends s (t.toChildren ty sub vc body epoch rec) :=
  h.foldl fun _ _ h => h.sendMsg

theorem mirror (h : Sends s t) {m epoch} : Sends s (t.mirror m epoch).2 := by
  dsimp only [State.mirror]
  split
  · exact h
  · exact h.sendMsg

theorem askSync (h : Sends s t) : Sends s t.askSync := by
  dsimp only [State.askSync]
  split
  · exact h
  · exact h.sendMsg

theorem resendTo (h : Sends s t) {a} : Sends s (t.resendTo a) := by
  dsimp only [State.resendTo]
  split
  · exact h
  · exact h.sendCfg.sendCfg

theorem tellScope (h : Sends s t) : Sends s t.tellScope := by
  dsimp only [State.tellScope]
  split
  · exact h
  · exact h.foldl fun _ _ h => h.sendCfg

/-! Commands to a ZX40. -/

theorem setZxPort (h : Sends s t) {p z} : Sends s (t.setZxPort p z) := ⟨h.rest, h.regs⟩

theorem issueZx (h : Sends s t) {p} : Sends s (t.issueZx p) := by
  dsimp only [State.issueZx]
  split
  · exact h
  · exact .branch h.setZxPort.enqueue h

theorem zxSend (h : Sends s t) {p op params origin} : Sends s (t.zxSend p op params origin) := h.setZxPort.issueZx

theorem zxInternal (h : Sends s t) {p op params} : Sends s (t.zxInternal p op params) := h.zxSend

theorem sendImage (h : Sends s t) {p gen img} : Sends s (t.sendImage p gen img) := h.foldl fun _ _ h => h.zxInternal

theorem stageZx (h : Sends s t) {p gen c} : Sends s (t.stageZx p gen c) := by
  dsimp only [State.stageZx]
  exact .zxInternal (by split; exacts [h.foldl fun _ _ h => h.zxInternal, (h.foldl fun _ _ h => h.zxInternal).sendImage])

theorem refreshGrs (h : Sends s t) {p} : Sends s (t.refreshGrs p) := by
  dsimp only [State.refreshGrs]
  split
  · exact h
  · exact h.sendImage.zxInternal

end Sends

/-! ### A message taken under end-to-end recovery (R387) -/

/-- A message not delivered before is fresh; it is delivered now, and only its acknowledgement has been sent. -/
theorem State.e2eTake_fresh (s : State) {src msgId : Nat} (h : (src, msgId) ∉ s.cnp.delivered) : ∃ t, Sends s t ∧
    s.e2eTake src msgId = (true, { t with cnp := { t.cnp with delivered := t.cnp.delivered ++ [(src, msgId)] } }) := by
  refine ⟨s.sendE2eAck src msgId, (Sends.refl s).sendMsg, ?_⟩
  unfold State.e2eTake
  simp [h]

end Sys2Proof.Machine
end

section
/-! SUPPORT. What the work of an epoch leaves alone (R23, R31, R34, R43): BX_EPC_STATE, the generations, the notices held, and which epochs
have closed, wait or have a context; a lemma per function. -/

namespace Sys2Proof.Machine
open Sys2Proof

/-- What BX64 holds of its epochs beside their contributions and records. -/
structure EpochView where
  tb : Timebase
  gens : List GenRec
  staged : Option Staged
  notices : List Notice
  wmTarget : Option Nat
  lastClosed : Option Nat
  waiting : List Nat
  open_ : List Nat

def State.epochView (s : State) : EpochView :=
  ⟨s.bxTb, s.ep.gens, s.ep.staged, s.ep.notices, s.ep.wmTarget, s.red.lastClosed, s.red.waiting, s.red.ctxs.map (fun x => x.epoch)⟩

/-- Between s before and t after, what is held of the epochs and BX_EPC_STATE are unchanged. -/
structure EpochKept (s t : State) : Prop where
  view : t.epochView = s.epochView
  epc : ∀ f : Fld, f.reg = .BX_EPC_STATE → f.lo < 64 → t.rd f = s.rd f

namespace EpochKept
variable {s t u : State}

theorem refl (s : State) : EpochKept s s := ⟨rfl, fun _ _ _ => rfl⟩

theorem trans (h : EpochKept s t) (hu : EpochKept t u) : EpochKept s u :=
  ⟨hu.view.trans h.view, fun f hf hlo => (hu.epc f hf hlo).trans (h.epc f hf hlo)⟩

theorem branch {c : Prop} [Decidable c] (ht : EpochKept s t) (hu : EpochKept s u) : EpochKept s (if c then t else u) := by
  split <;> assumption

theorem foldl {α : Type} {f : State → α → State} {l : List α} (h : EpochKept s t) (hf : ∀ u x, EpochKept s u → EpochKept s (f u x)) :
    EpochKept s (l.foldl f t) := by
  induction l generalizing t with
  | nil => exact h
  | cons x l ih => exact ih (hf t x h)

theorem foldlSnd {α β : Type} {f : β × State → α → β × State} {l : List α} {b : β} (h : EpochKept s t)
    (hf : ∀ p x, EpochKept s p.2 → EpochKept s (f p x).2) : EpochKept s (l.foldl f (b, t)).2 := by
  suffices ∀ p : β × State, EpochKept s p.2 → EpochKept s (l.foldl f p).2 from this _ h
  induction l with
  | nil => exact fun _ hp => hp
  | cons x l ih => exact fun p hp => ih _ (hf p x hp)

theorem snd_eq {α : Type} {p : α × State} {a : α} (h : EpochKept s p.2) (e : p = (a, u)) : EpochKept s u := by
  subst e
  exact h

/-! The parts kept, one by one. -/

theorem bxTb (h : EpochKept s t) : t.bxTb = s.bxTb := congrArg EpochView.tb h.view
theorem gens (h : EpochKept s t) : t.ep.gens = s.ep.gens := congrArg EpochView.gens h.view
theorem staged (h : EpochKept s t) : t.ep.staged = s.ep.staged := congrArg EpochView.staged h.view
theorem notices (h : EpochKept s t) : t.ep.notices = s.ep.notices := congrArg EpochView.notices h.view
theorem wmTarget (h : EpochKept s t) : t.ep.wmTarget = s.ep.wmTarget := congrArg EpochView.wmTarget h.view
theorem lastClosed (h : EpochKept s t) : t.red.lastClosed = s.red.lastClosed := congrArg EpochView.lastClosed h.view
theorem waiting (h : EpochKept s t) : t.red.waiting = s.red.waiting := congrArg EpochView.waiting h.view
theorem openEpochs (h : EpochKept s t) : t.red.ctxs.map (fun x => x.epoch) = s.red.ctxs.map (fun x => x.epoch) := congrArg EpochView.open_ h.view

theorem watermark (h : EpochKept s t) : t.rd BX_EPC_STATE_WATERMARK = s.rd BX_EPC_STATE_WATERMARK := h.epc _ rfl (by decide)
theorem wmValid (h : EpochKept s t) : t.rd BX_EPC_STATE_WM_VALID = s.rd BX_EPC_STATE_WM_VALID := h.epc _ rfl (by decide)
theorem wmSynced (h : EpochKept s t) : t.rd BX_EPC_STATE_WM_SYNCED = s.rd BX_EPC_STATE_WM_SYNCED := h.epc _ rfl (by decide)

/-! ### Updates outside what is kept -/

theorem wr (h : EpochKept s t) {f i v} (hlo : f.lo < 64 := by decide) (hf : f.reg ≠ .BX_EPC_STATE := by decide) : EpochKept s (t.wr f i v) :=
  ⟨h.view, fun g hg hglo => (t.rd_wr_otherReg v hlo hglo (by rw [hg]; exact hf.symm)).trans (h.epc g hg hglo)⟩

theorem bump (h : EpochKept s t) {f i n} (hlo : f.lo < 64 := by decide) (hf : f.reg ≠ .BX_EPC_STATE := by decide) : EpochKept s (t.bump f i n) :=
  h.wr hlo hf

/-- An update of anything but the registers and what is held of the epochs. -/
theorem set (h : EpochKept s t) {zx pps tsrc links queues dies records waits firstEpoch restoreDue incPend log kept lastCorr lastVec logAck
    lastFresh recomputeTo restarted cnp grv cor wdn tap hbm egs rpl gate up out fresh pending} : EpochKept s ⟨t.regs, zx, t.bxTb, pps, tsrc,
      links, queues, ⟨t.ep.gens, t.ep.staged, dies, records, t.ep.notices, waits, firstEpoch, t.ep.wmTarget, restoreDue, incPend⟩,
      ⟨t.red.ctxs, t.red.waiting, log, kept, t.red.lastClosed, lastCorr, lastVec, logAck, lastFresh, recomputeTo, restarted⟩, cnp, grv, cor, wdn,
      tap, hbm, egs, rpl, gate, up, out, fresh, pending⟩ :=
  ⟨h.view, h.epc⟩

theorem sends (h : EpochKept s t) (hu : Sends t u) : EpochKept s u := by
  refine h.trans ⟨?_, fun f hf hlo => hu.rd hlo (by rw [hf]; decide)⟩
  simp only [State.epochView, hu.bxTb, hu.ep, hu.red]

theorem modLink (h : EpochKept s t) {e f} : EpochKept s (t.modLink e f) := h.set

theorem setDie (h : EpochKept s t) {d x} : EpochKept s (t.setDie d x) := h.set

theorem emit (h : EpochKept s t) {o} : EpochKept s (t.emit o) := h.set

theorem draw (h : EpochKept s t) : EpochKept s { t with fresh := t.fresh + 1 } := h.set

theorem sendMsg (h : EpochKept s t) {ty sub vc dst body epoch rec} : EpochKept s (t.sendMsg ty sub vc dst body epoch rec) :=
  h.sends (Sends.refl t).sendMsg

theorem zxInternal (h : EpochKept s t) {p op params} : EpochKept s (t.zxInternal p op params) := h.sends (Sends.refl t).zxInternal

theorem zxSend (h : EpochKept s t) {p op params origin} : EpochKept s (t.zxSend p op params origin) := h.sends (Sends.refl t).zxSend

theorem mirror (h : EpochKept s t) {m epoch} : EpochKept s (t.mirror m epoch).2 := h.sends (Sends.refl t).mirror

theorem toChildren (h : EpochKept s t) {ty sub vc body epoch rec} : EpochKept s (t.toChildren ty sub vc body epoch rec) :=
  h.sends (Sends.refl t).toChildren

/-! ### Heartwood, events and alarms -/

theorem hwWrite (h : EpochKept s t) {r} : EpochKept s (t.hwWrite r) :=
  .branch (EpochKept.branch h.wr.bump h.wr).set (EpochKept.branch h.wr.bump h.wr).set

theorem signal (h : EpochKept s t) {r} : EpochKept s (t.signal r) :=
  .branch h.hwWrite (.branch h.bump (.branch (EpochKept.branch h.set h).bump (EpochKept.branch h.set h).set))

theorem setRing (h : EpochKept s t) {f r} : EpochKept s (t.setRing f r) := h.set

theorem ringPut (h : EpochKept s t) {f ev} : EpochKept s (t.ringPut f ev) := h.emit.emit.setRing

theorem takeEvSeq (h : EpochKept s t) {f} : EpochKept s (t.takeEvSeq f) := h.wr

theorem enterRing (h : EpochKept s t) {f kind body} : EpochKept s (t.enterRing f kind body) :=
  .branch h.takeEvSeq.ringPut (.branch h.takeEvSeq.setRing h.takeEvSeq.setRing.bump)

theorem overflowIfDue (h : EpochKept s t) {f} : EpochKept s (t.overflowIfDue f) := by
  dsimp only [State.overflowIfDue]
  split
  · exact h
  · exact .branch h.setRing.enterRing h

theorem post (h : EpochKept s t) {f kind body} : EpochKept s (t.post f kind body) := .branch h.overflowIfDue.enterRing h

theorem sendOn (h : EpochKept s t) {q ty sub vc src dst bcast bytes hops} : EpochKept s (t.sendOn q ty sub vc src dst bcast bytes hops) :=
  h.sends (Sends.refl t).sendOn

theorem broadcastAlarm (h : EpochKept s t) {sub p40} : EpochKept s (t.broadcastAlarm sub p40) := by
  dsimp only [State.broadcastAlarm, State.takeBseq, State.sendAll]
  exact h.set.foldl fun _ _ h => h.sendOn

theorem alarmUp (h : EpochKept s t) {sub p40} : EpochKept s (t.alarmUp sub p40) := by
  dsimp only [State.alarmUp]
  split
  · exact h.post
  · split
    · next e => exact ((h.sends (Sends.refl t).outPort).snd_eq e).sendOn
    · next e => exact .branch h.post ((h.sends (Sends.refl t).outPort).snd_eq e)

theorem safAlarm (h : EpochKept s t) {code sys idx die} : EpochKept s (t.safAlarm code sys idx die) := .branch h h.set.alarmUp

theorem detect (h : EpochKept s t) {code sys idx die inj} : EpochKept s (t.detect code sys idx die inj) := h.wr.bump.wr.safAlarm.signal

theorem reply (h : EpochKept s t) {c op status results reason hostWrite} : EpochKept s (t.reply c op status results reason hostWrite) := by
  unfold State.reply
  extract_lets r s₁ s₂ s₃
  have h₁ : EpochKept s s₁ := .branch h.bump h
  have h₂ : EpochKept s s₂ := .branch h₁.bump h₁
  have h₃ : EpochKept s s₃ := .branch h₂.bump h₂
  exact h₃.set

theorem replyBlob (h : EpochKept s t) {c op status bytes more} : EpochKept s (t.replyBlob c op status bytes more) := .branch h.reply h.reply

/-! ### Generations sent, incarnations, partials (R38, R45, R222) -/

theorem resendGen (h : EpochKept s t) {p} : EpochKept s (t.resendGen p) := by
  dsimp only [State.resendGen]
  split
  · exact h
  · exact (h.sends (Sends.refl t).stageZx.zxInternal).setDie

theorem sendRun (h : EpochKept s t) {p} : EpochKept s (t.sendRun p) := .branch h.resendGen (h.sends (Sends.refl t).refreshGrs)

theorem sendAdmit (h : EpochKept s t) {p} : EpochKept s (t.sendAdmit p) := h.zxInternal

theorem assignInc (h : EpochKept s t) {p} : EpochKept s (t.assignInc p) :=
  .branch h.set (.branch h.mirror.setDie.wr.sendAdmit h.mirror.setDie.wr)

theorem judgeInc (h : EpochKept s t) {p id} : EpochKept s (t.judgeInc p id) :=
  .branch h.set (EpochKept.branch h.assignInc h.sendAdmit).setDie.sendRun

theorem releaseIncs (h : EpochKept s t) : EpochKept s t.releaseIncs := .branch (h.set.foldl fun _ _ h => h.judgeInc) h

theorem setCtx (h : EpochKept s t) {x} : EpochKept s (t.setCtx x) := by
  have hopen : (t.setCtx x).red.ctxs.map (fun y => y.epoch) = t.red.ctxs.map (fun y => y.epoch) := by
    simp only [State.setCtx, List.map_map, List.map_inj_left, Function.comp_apply]
    intro y _
    split
    · next e => exact e.symm
    · rfl
  refine h.trans ⟨?_, fun _ _ _ => rfl⟩
  simp only [State.epochView, hopen]
  rfl

theorem emitPartial (h : EpochKept s t) {c p dst} : EpochKept s (t.emitPartial c p dst) := h.sendMsg.bump.set.mirror

theorem recomputePartial (h : EpochKept s t) {n k} : EpochKept s (t.recomputePartial n k) := h.emitPartial

theorem mergePartial (h : EpochKept s t) {x p} : EpochKept s (t.mergePartial x p) :=
  .branch h.setCtx (.branch h.setCtx.bump h.setCtx.bump.signal)

/-! ### Classification and the ingress log (Table 8-3, R212, R417) -/

theorem mismatch (h : EpochKept s t) {p n} : EpochKept s (t.mismatch p n) := by
  dsimp only [State.mismatch]
  split
  · exact h.resendGen
  · exact .branch h.resendGen h

theorem countRow (h : EpochKept s t) {row} : EpochKept s (t.countRow row) := by
  dsimp only [State.countRow]
  split
  · exact h.bump
  · exact h.bump
  · exact h.bump
  · exact h.bump
  · exact h

theorem setRow (h : EpochKept s t) {d n row} : EpochKept s (t.setRow d n row) := h.set

theorem classify (h : EpochKept s t) {d n b} : EpochKept s (t.classify d n b) := by
  unfold State.classify
  extract_lets self row s₁ s₂
  have h₂ : EpochKept s s₂ := .branch h.countRow.setRow.mismatch h.countRow.setRow
  split
  · exact h₂
  · exact .branch (.branch h₂.setCtx.recomputePartial h₂.setCtx) h₂.setCtx

theorem classifyHeld (h : EpochKept s t) {n} : EpochKept s (t.classifyHeld n) := h.foldl fun _ _ h => h.classify

theorem advanceAck (h : EpochKept s t) {d} : EpochKept s (t.advanceAck d) := .branch h h.set.modLink

theorem freeLog (h : EpochKept s t) {k n} : EpochKept s (freeLog k t n) := by
  induction k generalizing t with
  | zero => exact h
  | succ k ih =>
    unfold Machine.freeLog
    refine .branch h ?_
    split
    · exact h
    · exact ih h.set

theorem ilogFreed (h : EpochKept s t) : EpochKept s t.ilogFreed := by
  dsimp only [State.ilogFreed]
  exact h.foldl fun _ _ h => by split; exacts [h.zxInternal, h]

theorem afterCommitLog (h : EpochKept s t) : EpochKept s t.afterCommitLog := .branch (.branch h.freeLog.ilogFreed h.freeLog) h

/-! ### Lookout, marks and health (R284, R290 to R295) -/

theorem setCorDie (h : EpochKept s t) {d x} : EpochKept s (t.setCorDie d x) := h.set

theorem fenceDie (h : EpochKept s t) {d cause} : EpochKept s (t.fenceDie d cause) :=
  .branch h.wr.signal.draw.detect (.branch h h.setDie.set.wr.wr.wr.setCorDie.signal.broadcastAlarm)

theorem issueTest (h : EpochKept s t) {c d unit reason n pre bin} : EpochKept s (t.issueTest c d unit reason n pre bin) :=
  h.set.wr.wr.wr.bump.setCorDie.post

theorem testFor (h : EpochKept s t) {d r n} : EpochKept s (t.testFor d r n) := by
  dsimp only [State.testFor]
  refine .branch h ?_
  split <;> exact h.issueTest

theorem setReason (h : EpochKept s t) {d r n} : EpochKept s (t.setReason d r n) := .branch h h.wr.setCorDie.testFor

theorem clearReasons (h : EpochKept s t) {d mask} : EpochKept s (t.clearReasons d mask) := .branch h.wr.setCorDie h.wr.setCorDie.wr.wr

theorem mirrorDie (h : EpochKept s t) {d} : EpochKept s (t.mirrorDie d) := h.mirror.set

theorem resetCorr (h : EpochKept s t) {d} : EpochKept s (t.resetCorr d) := h.clearReasons.wr.wr.wr.wr.wr.wr.setCorDie

theorem readmit (h : EpochKept s t) {d} : EpochKept s (t.readmit d) :=
  (EpochKept.branch h.resetCorr.assignInc.setDie.set.setReason h.resetCorr.assignInc.setDie.set).sendRun.broadcastAlarm

theorem startProbe (h : EpochKept s t) {d origin} : EpochKept s (t.startProbe d origin) := by
  dsimp only [State.startProbe]
  split
  · exact h.setCorDie
  · exact h.wr.zxSend.setCorDie

theorem lookDie (h : EpochKept s t) {n d} : EpochKept s (t.lookDie n d) :=
  .branch (.branch h.setCorDie.setCorDie.wr.readmit h.setCorDie.setCorDie.wr) (.branch h.setCorDie.wr
    (.branch h.setCorDie (.branch h.setCorDie.wr.wr (.branch h.setCorDie.wr.wr.startProbe (.branch h.setCorDie.wr h.setCorDie.wr.fenceDie)))))

theorem lookoutUpdate (h : EpochKept s t) {n} : EpochKept s (t.lookoutUpdate n) := h.foldl fun _ _ h => h.lookDie

theorem healthDie (h : EpochKept s t) {n r d} : EpochKept s (t.healthDie n r d) := by
  dsimp only [State.healthDie]
  split
  · exact .branch h.setCorDie.setReason h.setCorDie
  · exact h.setCorDie
  · exact h

theorem healthUpdate (h : EpochKept s t) {n r} : EpochKept s (t.healthUpdate n r) := h.foldl fun _ _ h => h.healthDie

/-! ### Barrier groups (R278 to R283) -/

theorem sendDigests (h : EpochKept s t) {agg n snap r} : EpochKept s (t.sendDigests agg n snap r) :=
  h.foldl fun _ _ h => .branch h.set h.sendMsg

theorem groupsDue (h : EpochKept s t) {n} : EpochKept s (t.groupsDue n) := h.set

theorem setGroup (h : EpochKept s t) {x} : EpochKept s (t.setGroup x) := h.set

theorem takeLag (h : EpochKept s t) {home group n addr v hit} : EpochKept s (t.takeLag home group n addr v hit) := by
  dsimp only [State.takeLag]
  refine .branch (EpochKept.branch h.setCorDie.wr.setReason h.setCorDie.wr).mirrorDie ?_
  split
  · exact h.setGroup
  · exact h

theorem sendLag (h : EpochKept s t) {home group n vals} : EpochKept s (t.sendLag home group n vals) :=
  h.foldl fun _ _ h => .branch (h.foldl fun _ _ h => h.takeLag) h.sendMsg

theorem processEpoch (h : EpochKept s t) {x g n} : EpochKept s (t.processEpoch x g n) := h.bump.bump.bump.setGroup.mirror.sendLag

theorem skipEpoch (h : EpochKept s t) {x g n} : EpochKept s (t.skipEpoch x g n) := h.bump.setGroup.mirror.sendLag

theorem endGroup (h : EpochKept s t) {home num n} : EpochKept s (t.endGroup home num n) := .branch h h.set

theorem advanceGroup (h : EpochKept s t) {home num k} : EpochKept s (State.advanceGroup home num k t) := by
  induction k generalizing t with
  | zero => exact h
  | succ k ih =>
    unfold State.advanceGroup
    split
    · exact h
    · split
      · exact h
      · split
        · exact ih h.setGroup.endGroup
        · exact .branch (ih h.skipEpoch) (.branch (ih h.processEpoch) h)

theorem runGroup (h : EpochKept s t) {home num} : EpochKept s (t.runGroup home num) := h.advanceGroup

/-! ### The trace store (R430, R431) -/

theorem setTrs (h : EpochKept s t) {id x} : EpochKept s (t.setTrs id x) := h.set

theorem closeBuf (h : EpochKept s t) {id} : EpochKept s (t.closeBuf id) := .branch h h.setTrs

theorem loseInput (h : EpochKept s t) {id n} : EpochKept s (t.loseInput id n) := h.setTrs.bump

theorem appendRec (h : EpochKept s t) {id r} : EpochKept s (t.appendRec id r) := .branch h.loseInput (.branch h.setTrs.closeBuf h.setTrs)

theorem trsInput (h : EpochKept s t) {p k rs} : EpochKept s (t.trsInput p k rs) :=
  .branch h.bump (.branch (.branch h.loseInput h.appendRec.appendRec) (h.foldl fun _ _ h => h.appendRec))

theorem gaugeInput (h : EpochKept s t) {p b} : EpochKept s (t.gaugeInput p b) :=
  .branch h.bump (h.foldlSnd fun _ _ hp => (EpochKept.branch hp.bump hp).setTrs).appendRec

theorem trsHistory (h : EpochKept s t) {n present} : EpochKept s (t.trsHistory n present) := h.foldl fun _ _ h => h.trsInput.gaugeInput

/-! ### Records and readers (R34, R394, R418) -/

theorem evictRecords (h : EpochKept s t) : EpochKept s t.evictRecords := h.set

theorem epochAnswer (h : EpochKept s t) {c u} (e : t.epochAnswer c = some u) : EpochKept s u := by
  unfold State.epochAnswer at e
  extract_lets n view wm old give at e
  have hreply {status} (e : some (t.reply c 0x0201 status) = some u) : EpochKept s u := Option.some.inj e ▸ h.reply
  have hgive {r} (e : some (give r) = some u) : EpochKept s u := Option.some.inj e ▸ h.replyBlob
  split at e
  · exact hreply e
  split at e
  · exact hreply e
  split at e
  · cases e
  split at e
  · exact hreply e
  split at e
  · split at e
    · exact hgive e
    · exact hreply e
  split at e
  · exact hreply e
  split at e
  · exact hgive e
  · exact hreply e

theorem answerWaits (h : EpochKept s t) : EpochKept s t.answerWaits := by
  dsimp only [State.answerWaits]
  exact h.foldl fun _ _ h => by split; exacts [h, (h.epochAnswer ‹_›).set]

theorem putRecord (h : EpochKept s t) {b} : EpochKept s (t.putRecord b) := by
  dsimp only [State.putRecord]
  split
  · exact h.set
  · exact .branch h h.set

end EpochKept

end Sys2Proof.Machine
end

section
/-! SUPPORT. Contexts open, wait, freeze and are revised (R24, R30, R214). -/

namespace Sys2Proof.Machine
open Sys2Proof

/-! ### The context of an epoch -/

theorem State.ctx?_isSome (s : State) (n : Nat) : (s.ctx? n).isSome = true ↔ n ∈ s.red.ctxs.map (fun x => x.epoch) := by
  simp [State.ctx?]

theorem State.ctx?_setCtx (s : State) {x : Ctx} (h : (s.ctx? x.epoch).isSome = true) : (s.setCtx x).ctx? x.epoch = some x := by
  rw [State.ctx?_isSome] at h
  dsimp only [State.ctx?, State.setCtx]
  generalize s.red.ctxs = l at h
  induction l with
  | nil => exact absurd h List.not_mem_nil
  | cons y l ih => by_cases e : y.epoch = x.epoch <;> grind

/-- The contexts of partials that came early, and of held snapshots, enter the context opened; nothing else of the epochs changes. -/
theorem State.openCtx_kept (s : State) (n : Nat) : EpochKept { s with red := { s.red with ctxs := s.red.ctxs ++ [{ epoch := n }] } } (s.openCtx n) :=
  ((EpochKept.refl _).foldl fun u p h => by split; exacts [h, h.mergePartial]).classifyHeld

theorem State.ctx?_openCtx (s : State) (n : Nat) : ((s.openCtx n).ctx? n).isSome = true := by
  rw [State.ctx?_isSome, (s.openCtx_kept n).openEpochs]
  simp

theorem State.classifyOlder_kept (s : State) (n : Nat) : EpochKept s (s.classifyOlder n) := (EpochKept.refl s).foldl fun _ _ h => h.classifyHeld

/-! ### What the distribution of a generation does at the close of an epoch (R536) -/

theorem State.targetsGone_sends (s : State) : ∃ g, Sends (s.setStaged g) s.targetsGone := by
  have hself : Sends (s.setStaged s.ep.staged) s := .refl s
  dsimp only [State.targetsGone]
  split
  · exact ⟨_, hself⟩
  · split
    · exact ⟨_, hself⟩
    · exact ⟨_, (Sends.refl _).foldl fun _ _ h => h.sendCfg⟩

theorem State.restage_sends (s : State) : ∃ g, Sends (s.setStaged g) s.restage := by
  dsimp only [State.restage]
  split
  · exact ⟨s.ep.staged, .refl s⟩
  · exact ⟨_, (Sends.refl _).foldl fun _ t h => by split; exacts [h.stageZx, h]⟩

/-- Both leave the contexts alone, and the registers but the counter of unreachable destinations. -/
theorem State.closeDistribution (s : State) : s.targetsGone.restage.red = s.red ∧ RegsKept [.BX_CNP_CNT0] s s.targetsGone.restage := by
  obtain ⟨_, hgone⟩ := s.targetsGone_sends
  obtain ⟨_, hstage⟩ := s.targetsGone.restage_sends
  exact ⟨hstage.red.trans hgone.red, RegsKept.trans hgone.regs hstage.regs⟩

theorem State.committed_congr {s t : State} (hv : t.rd BX_EPC_STATE_WM_VALID = s.rd BX_EPC_STATE_WM_VALID)
    (hw : t.rd BX_EPC_STATE_WATERMARK = s.rd BX_EPC_STATE_WATERMARK) (n : Nat) : t.committed n = s.committed n := by
  simp only [State.committed, State.flag, hv, hw]

theorem EpochKept.committed {s t : State} (h : EpochKept s t) (n : Nat) : t.committed n = s.committed n :=
  State.committed_congr h.wmValid h.watermark n

/-! ### The commands -/

/-- The state at which the epoch that closes gets its context or waits for one. -/
def State.closing (s : State) (n : Nat) : State :=
  let s := if s.red.lastClosed = none then s.classifyOlder n else s
  { s with red := { s.red with lastClosed := some n } }.targetsGone.restage

/-- Before it, held snapshots of older epochs have been classified after a start, and a distribution may have been followed. -/
theorem State.closing_kept (s : State) (n : Nat) : ∃ t, EpochKept s t ∧ (s.red.lastClosed ≠ none → t = s) ∧
    (s.closing n).red = { t.red with lastClosed := some n } ∧ RegsKept [.BX_CNP_CNT0] t (s.closing n) := by
  refine ⟨if s.red.lastClosed = none then s.classifyOlder n else s, .branch (s.classifyOlder_kept n) (.refl s), fun h => if_neg h, ?_⟩
  exact State.closeDistribution _

theorem exec_bxEpochClose {s : State} {n : Nat} (hn : s.nextClose? = some n) (hc : s.closed n = true) (hu : s.committed n = false) :
    exec .bxEpochClose s = .next (if (s.closing n).red.waiting = [] ∧ (s.closing n).red.ctxs.length < 16 then (s.closing n).openCtx n
      else { s.closing n with red := { (s.closing n).red with waiting := (s.closing n).red.waiting ++ [n] } }.bump BX_RED_CNT2_CTX_WAIT) := by
  obtain ⟨t, hkept, -, -, hregs⟩ := s.closing_kept n
  have hu' : (s.closing n).committed n = false := by
    rw [State.committed_congr (hregs _ 0 (by decide) (by decide)) (hregs _ 0 (by decide) (by decide)), hkept.committed, hu]
  have he : exec .bxEpochClose s = execBxEpochClose s := rfl
  rw [he]
  simp only [execBxEpochClose, hn, hc, not_true_eq_false, if_false]
  exact (if_neg (ne_true_of_eq_false hu')).trans (apply_ite Host.Outcome.next _ _ _).symm

/-- With an epoch that has a context, a fold that keeps the epochs, and the revision of that context. -/
theorem exec_provisionalRevision {s : State} {n : Nat} {x : Ctx} {g : GenRec} (hx : s.ctx? n = some x) (hg : s.genOf n = some g)
    (hr : s.rootOf n = true) (h0 : g.gen ≠ 0) (hf : x.frozen = false) (hm : x.commitMsg = none) (hp : x.poisoned = false)
    (hnew : x.revPresent < x.merged.length) (hdue : x.revision = 0 ∨ x.lastRev + g.sched.len / 8 ≤ s.bxNs) : ∃ t, EpochKept s t ∧
    exec (.provisionalRevision n) s = .next (t.setCtx { x with revision := x.revision + 1, lastRev := t.bxNs, revPresent := x.merged.length }) := by
  have he : exec (.provisionalRevision n) s = execProvisionalRevision n s := rfl
  rw [he]
  simp only [execProvisionalRevision, hx, hg]
  rw [if_pos ⟨hr, h0, by simp [hf], hm, by simp [hp], hnew, by simpa using hdue⟩]
  exact ⟨_, (EpochKept.refl s).foldl fun u v h => h.putRecord.toChildren, rfl⟩

/-- Settles O1: the distribution of a generation and the classification of held snapshots leave the contexts' epochs, those that wait and
the watermark alone, so the close takes the branch that the contexts in use call for; the frozen contexts and the revised one are read off
the lists. -/
theorem epochContextsOpenWaitAndFreeze : Obligations.EpochContextsOpenWaitAndFreeze := by
  refine ⟨?_, ?_, ?_, ?_, ?_⟩
  · intro s n hn hc hu hwait hlen
    obtain ⟨t, hkept, -, hred, -⟩ := s.closing_kept n
    have hlen' : t.red.ctxs.length = s.red.ctxs.length := by simpa using congrArg List.length hkept.openEpochs
    have hfree : (s.closing n).red.waiting = [] ∧ (s.closing n).red.ctxs.length < 16 := by
      rw [hred]
      exact ⟨hkept.waiting.trans hwait, hlen'.trans_lt hlen⟩
    have hopen := (s.closing n).openCtx_kept n
    refine ⟨_, (exec_bxEpochClose hn hc hu).trans (by rw [if_pos hfree]), ?_, State.ctx?_openCtx _ n, hopen.waiting.trans hfree.1⟩
    rw [hopen.lastClosed, hred]
  · intro s n hn hc hu hlen hlast
    obtain ⟨t, -, ht, hred, hregs⟩ := s.closing_kept n
    obtain rfl := ht hlast
    have hfull : ¬ ((t.closing n).red.waiting = [] ∧ (t.closing n).red.ctxs.length < 16) := by simp [hred, hlen]
    refine ⟨_, (exec_bxEpochClose hn hc hu).trans (by rw [if_neg hfull]), ?_, ?_, ?_, ?_⟩
    · exact congrArg (fun r => r.lastClosed) hred
    · exact congrArg (fun r => r.waiting ++ [n]) hred
    · exact congrArg (fun r => r.ctxs) hred
    · have hcount := State.counted_bump (t.closing n) BX_RED_CNT2_CTX_WAIT 0 1
      rw [State.counted, hregs BX_RED_CNT2_CTX_WAIT 0 (by decide) (by decide)] at hcount
      exact hcount
  · intro s n t hw hlen
    have he : exec .contextFree s = execContextFree s := rfl
    have hopen := State.openCtx_kept { s with red := { s.red with waiting := t } } n
    refine ⟨_, ?_, hopen.waiting, State.ctx?_openCtx _ n⟩
    rw [he]
    simp only [execContextFree, hw, hlen, if_true, done]
  · intro s
    refine ⟨_, rfl, ?_, ?_, ?_, rfl⟩
    · rintro x hx hroot hdue
      obtain ⟨y, -, rfl⟩ := List.mem_map.1 hx
      by_cases hy : s.rootOf y.epoch = true ∧ s.horizonOf y.epoch ≤ s.bxNs
      · simp [hy]
      · rw [if_neg (by simpa using hy)] at hroot hdue
        exact absurd ⟨hroot, hdue⟩ hy
    · rintro x hx hnot
      obtain ⟨y, hmem, rfl⟩ := List.mem_map.1 hx
      by_cases hy : s.rootOf y.epoch = true ∧ s.horizonOf y.epoch ≤ s.bxNs
      · simp [hy] at hnot
      · simpa [hy] using hmem
    · rw [List.map_map]
      exact List.map_congr_left fun x _ => by dsimp only [Function.comp]; split <;> rfl
  · intro s n x g hx hg hr h0 hf hm hp hnew hdue
    obtain ⟨t, hkept, he⟩ := exec_provisionalRevision hx hg hr h0 hf hm hp hnew hdue
    have hxn : x.epoch = n := by simpa using List.find?_some hx
    have hsome : (t.ctx? n).isSome = true := by
      rw [State.ctx?_isSome, hkept.openEpochs, ← State.ctx?_isSome, hx]
      rfl
    refine ⟨_, he, ?_⟩
    subst hxn
    have hset := State.ctx?_setCtx t (x := { x with revision := x.revision + 1, lastRev := t.bxNs, revPresent := x.merged.length }) hsome
    rw [hset, State.bxNs, hkept.bxTb]
    rfl

end Sys2Proof.Machine
end

section
/-! SUPPORT. A generation is staged, distributed, armed, aborted and applied (R43, R44, R536). -/

namespace Sys2Proof.Machine
open Sys2Proof

/-! ### The staged generation -/

theorem State.holdStaged_sends (s : State) (g : Staged) : Sends (s.setStaged (some { g with cfg := s.overlay g.cfg })) (s.holdStaged g) := by
  refine (Sends.refl _).foldl fun u t h => ?_
  split
  · exact .branch h.stageZx h
  · exact h

theorem State.armHere_sends (s : State) (g : Staged) (t m : Nat) : Sends (s.setStaged (some { g with armed := some (t, m) })) (s.armHere g t m) :=
  (Sends.refl _).foldl fun u x h => by split; exacts [h.zxInternal, h]

/-! What the checks of a generation read: the generations, the last epoch closed and the models held. -/

section
variable {s t : State}

theorem State.liveSched_congr (h : t.ep = s.ep) : t.liveSched = s.liveSched := by
  simp only [State.liveSched, State.sched?, State.liveGen?, h]

theorem State.overlay_congr (h : t.ep = s.ep) (c : Settings) : t.overlay c = s.overlay c := by
  simp only [State.overlay, State.cfg, State.liveGen?, h]

theorem State.isArmed_congr (h : t.ep = s.ep) : t.isArmed = s.isArmed := by simp only [State.isArmed, h]

theorem State.anchorPast_congr (h : t.red = s.red) (c : Settings) : t.anchorPast c = s.anchorPast c := by simp only [State.anchorPast, h]

theorem State.groveOk_congr (h : t.grv = s.grv) (c : Settings) : t.groveOk c = s.groveOk c := by
  unfold State.groveOk State.bound
  rw [h]

end

theorem State.isArmed_of_staged {s : State} {g : Staged} (hs : s.ep.staged = some g) : s.isArmed = g.armed.isSome := by
  simp [State.isArmed, hs]

/-! ### CFG_STAGE and CFG_DISTRIBUTION -/

theorem cfgStage_stages {s : State} {c : Cap} {g : Settings} (hc : c.isOp = true) (hl : 3 ≤ c.params.length) (ha : s.isArmed = false)
    (hd : s.distributing = false) (h0 : c.p 0 ≠ 0) (hmax : c.p 0 ≤ 65535) (hok : (s.overlay g).ok s.liveSched.k = true)
    (hgrv : s.groveOk (s.overlay g) = true) (hpast : s.anchorPast g = false) : Answers (.cfgStage c g) s (fun u =>
      u.replied c 0x0203 S_OK [] ∧ u.ep.staged.map (fun x => (x.gen, x.cfg, x.armed, x.origin)) = some (c.p 0, s.overlay g, none, none)) := by
  let u := s.holdStaged { gen := c.p 0, cfg := g, targets := s.targets g }
  let v := (u.otherBx g).foldl (fun s a => s.sendCfg a (.stage (c.p 0) g none)) u
  let w := (v.followers.foldl (fun s a => s.sendCfg a (.answer false 0 (s.agg * 64) S_OK)) v).tellScope
  have hv : Sends _ v := (s.holdStaged_sends _).foldl fun _ _ h => h.sendCfg
  have hw : Sends _ w := (hv.foldl fun _ _ h => h.sendCfg).tellScope
  have he : exec (.cfgStage c g) s = done (w.reply c 0x0203 S_OK) := by
    change execCfgStage c g s = _
    unfold execCfgStage
    rw [s.checked_of_allowed hc hl]
    dsimp only
    rw [if_neg (by simp [ha, hd]), if_neg (by simp [hok, hgrv, hpast]; omega)]
  refine ⟨_, he, w.reply_replied c _ _ _ _ _, ?_⟩
  rw [w.reply_ep, hw.ep]
  rfl

/-- A message of a distribution that comes for the first time is handled at a state in which the answer has been sent and it counts as
delivered. -/
theorem State.consume_e2eTake_fresh (s : State) {e : LinkId} {ty sub src msgId : Nat} (h : (src, msgId) ∉ s.cnp.delivered) :
    ∃ t, Sends s t ∧ (s.consume e ty sub).e2eTake src msgId =
      (true, { t with cnp := { t.cnp with delivered := t.cnp.delivered ++ [(src, msgId)] } }) := by
  obtain ⟨t, ht, he⟩ := (s.consume e ty sub).e2eTake_fresh (src := src) (msgId := msgId) h
  exact ⟨t, (Sends.refl s).consume.trans ht, he⟩

theorem cfgDistribution_stages {s : State} {q src msgId gen : Nat} {g : Settings} (hnew : (src, msgId) ∉ s.cnp.delivered)
    (ha : s.isArmed = false) (hok : (s.overlay g).ok s.liveSched.k = true) (hgrv : s.groveOk (s.overlay g) = true)
    (hpast : s.anchorPast g = false) : Answers (.cfgDistribution q src msgId (.stage gen g none)) s (fun u =>
      u.ep.staged.map (fun x => (x.gen, x.cfg, x.armed, x.origin)) = some (gen, s.overlay g, none, some src) ∧
      (src, msgId) ∈ u.cnp.delivered) := by
  obtain ⟨t, ht, htake⟩ := s.consume_e2eTake_fresh (e := .canopy q) (ty := 4) (sub := 0x16) hnew
  generalize hu : ({ t with cnp := { t.cnp with delivered := t.cnp.delivered ++ [(src, msgId)] } } : State) = u at htake
  have hep : u.ep = s.ep := by rw [← hu]; exact ht.ep
  have hchecks : u.isArmed = false ∧ ((u.overlay g).ok u.liveSched.k && u.groveOk (u.overlay g)) = true ∧ u.anchorPast g = false := by
    have hred : u.red = s.red := by rw [← hu]; exact ht.red
    have hg : u.grv = s.grv := by rw [← hu]; exact ht.grv
    rw [State.isArmed_congr hep, State.overlay_congr hep, State.liveSched_congr hep, State.groveOk_congr hg, State.anchorPast_congr hred]
    simp [ha, hok, hgrv, hpast]
  have he : ∃ ts v, Sends (u.holdStaged { gen := gen, cfg := g, targets := ts, origin := some src }) v ∧
      exec (.cfgDistribution q src msgId (.stage gen g none)) s = done v := by
    change ∃ ts v, _ ∧ execCfgDistribution q src msgId (.stage gen g none) s = _
    unfold execCfgDistribution
    obtain ⟨h1, h2, h3⟩ := hchecks
    dsimp only
    rw [htake]
    dsimp only
    rw [if_neg (by decide), if_neg (by rw [h1]; decide), if_neg (by simp only [h2, h3]; decide)]
    exact ⟨_, _, ((Sends.refl _).foldl fun _ _ h => h.sendCfg).tellScope, rfl⟩
  obtain ⟨ts, v, hv, he⟩ := he
  have hstaged := (u.holdStaged_sends { gen := gen, cfg := g, targets := ts, origin := some src }).trans hv
  refine ⟨_, he, ?_, ?_⟩
  · rw [hstaged.ep, ← State.overlay_congr hep g]
    rfl
  · rw [hstaged.delivered, ← hu]
    exact List.mem_append_right _ (List.mem_singleton_self _)

/-! ### CFG_APPLY_AT, CFG_ABORT and CFG_ARM -/

/-- CFG_APPLY_AT of the staged generation at a boundary far enough away, at the BX64 that arms it: the targets that have not acknowledged
decide. -/
theorem exec_cfgApplyAt {s : State} {c : Cap} {g : Staged} {m : Nat} (hc : c.isOp = true) (hl : 2 ≤ c.params.length) (hp : c.noPtr = false)
    (hs : s.ep.staged = some g) (ha : g.armed = none) (hg : g.gen = c.p 0) (hn : g.anchor = none) (harm : s.armsGen g.cfg = true)
    (hb : s.liveSched.boundary? (c.p 1) = some m) (hm : (s.liveSched.at_ s.bxNs).getD 0 + s.rd BX_EPC_CTRL_MIN_LEAD ≤ m) :
    exec (.cfgApplyAt c) s = done (if g.targets.filter (fun t => t.ack ≠ .acked) ≠ [] then
        s.replyBlob c 0x0204 S_PARTIAL (wordBytes ((g.targets.filter (fun t => t.ack ≠ .acked)).map
          (fun t => targetEntry (s.unreachable g.targets t) t)))
      else (((s.armHere { g with origin := none } (c.p 1) m).otherBx g.cfg).foldl (fun s a => s.sendCfg a (.arm g.gen (c.p 1) m))
        (s.armHere { g with origin := none } (c.p 1) m)).reply c 0x0204 S_OK [0]) := by
  change execCfgApplyAt c s = _
  unfold execCfgApplyAt
  rw [s.checkedPtr_of_allowed hc hl hp]
  dsimp only
  rw [if_neg (by simp [State.isArmed_of_staged hs, ha]), hs]
  dsimp only
  rw [if_neg (by simp [hg, hn, harm]), hb]
  dsimp only
  rw [if_neg (by omega)]

theorem cfgAbort_drops {s : State} {c : Cap} {g : Staged} (hc : c.isOp = true) (hl : 1 ≤ c.params.length) (hs : s.ep.staged = some g)
    (hg : g.gen = c.p 0) (ha : g.armed = none) : Answers (.cfgAbort c) s (fun u => u.ep.staged = none ∧ u.replied c 0x0205 S_OK []) := by
  let u := (s.otherBx g.cfg).foldl (fun s a => s.sendCfg a (.abort g.gen)) (s.dropStaged g)
  have hu : Sends (s.dropStaged g) u := (Sends.refl _).foldl fun _ _ h => h.sendCfg
  have he : exec (.cfgAbort c) s = done (u.reply c 0x0205 S_OK) := by
    change execCfgAbort c s = _
    unfold execCfgAbort
    rw [s.checked_of_allowed hc hl]
    dsimp only
    rw [hs]
    dsimp only
    rw [if_neg (not_not.mpr hg), if_neg (by rw [ha]; decide)]
  refine ⟨_, he, ?_, u.reply_replied c _ _ _ _ _⟩
  rw [u.reply_ep, hu.ep]
  rfl

theorem cfgArm_arms {s : State} {q src msgId t n : Nat} {g : Staged} (hnew : (src, msgId) ∉ s.cnp.delivered) (hs : s.ep.staged = some g)
    (ha : g.armed = none) : Answers (.cfgArm q src msgId (.arm g.gen t n)) s (fun u =>
      u.ep.staged.map (fun x => (x.gen, x.armed, x.origin)) = some (g.gen, some (t, n), some src)) := by
  obtain ⟨v, hv, htake⟩ := s.consume_e2eTake_fresh (e := .canopy q) (ty := 4) (sub := 0x16) hnew
  generalize hu : ({ v with cnp := { v.cnp with delivered := v.cnp.delivered ++ [(src, msgId)] } } : State) = u at htake
  have hep : u.ep.staged = some g := by rw [← hu, ← hs]; exact congrArg (fun e => e.staged) hv.ep
  have he : exec (.cfgArm q src msgId (.arm g.gen t n)) s =
      done ((u.armHere { g with origin := some src } t n).sendCfg src (.answer true 0 (u.agg * 64) S_OK)) := by
    change execCfgArm q src msgId (.arm g.gen t n) s = _
    unfold execCfgArm
    dsimp only
    rw [htake]
    dsimp only
    rw [if_neg (by decide), hep]
    dsimp only
    rw [if_pos ⟨rfl, ha⟩]
  refine ⟨_, he, ?_⟩
  beta_reduce
  rw [(u.armHere_sends { g with origin := some src } t n).sendCfg.ep]
  rfl

/-! ### The apply instant at BX64 -/

theorem EpochKept.refreshRoles {s t : State} (h : EpochKept s t) : EpochKept s t.refreshRoles := by
  dsimp only [State.refreshRoles]
  split
  · exact h.wr.wr.wr
  · exact h.wr.wr.wr.wr.wr

theorem EpochKept.applyTree {s t : State} (h : EpochKept s t) : EpochKept s t.applyTree := by
  dsimp only [State.applyTree]
  refine EpochKept.refreshRoles ?_
  split
  · exact h.set
  · exact h.set.wr

theorem EpochKept.startGroups {s t : State} (h : EpochKept s t) {c} : EpochKept s (t.startGroups c) := h.set

theorem EpochKept.clearBins {s t : State} (h : EpochKept s t) {n old new} : EpochKept s (t.clearBins n old new) := h.set

theorem EpochKept.resendRefused {s t : State} (h : EpochKept s t) {ts} : EpochKept s (t.resendRefused ts) := by
  refine h.foldl fun u x h => ?_
  split
  · exact h.resendGen
  · exact .branch (h.sends (Sends.refl u).resendTo) h

theorem EpochKept.restartOver {s t : State} (h : EpochKept s t) : EpochKept s t.restartOver := (EpochKept.branch h.set h).releaseIncs

theorem State.startSync_ep (s : State) : s.startSync.ep = s.ep := by
  unfold State.startSync
  split
  · rfl
  · split
    · rfl
    · exact (Sends.refl s).askSync.ep

/-- The generation that goes live at BX64 is the newest in force, and nothing is staged. -/
theorem State.bxApply_live (s : State) (g : Staged) (t m : Nat) : (s.bxApply g t m).ep.staged = none ∧
    (s.bxApply g t m).ep.gens.head? = some { gen := g.gen, sched := g.anchor.getD ⟨t, m, g.cfg.k⟩, cfg := g.cfg } := by
  unfold State.bxApply
  extract_lets old oldGen first rec_ ep s₁ s₂
  have h₂ : EpochKept s₁ s₂ := (EpochKept.refl s₁).applyTree.startGroups.clearBins
  have h₃ : EpochKept s₁ (s₂.resendRefused g.armRefused) := h₂.resendRefused
  have h₄ : EpochKept (s₂.resendRefused g.armRefused).startSync (s₂.resendRefused g.armRefused).startSync.restartOver := (EpochKept.refl _).restartOver
  rw [h₄.staged, h₄.gens, State.startSync_ep, h₃.staged, h₃.gens]
  exact ⟨rfl, rfl⟩

/-! ### The apply instant at a ZX40 -/

/-- A ZX40 without what trace records and a change of the Grove-S banks touch: the trace buffers, and the banks with what is noted of them. -/
def Zx.plain (z : Zx) : Zx :=
  { z with trc := [], grsRole := none, grsLive := [], grsStaged := [], stagedGrs := false, grsErr := false, grsFrom := 0, grsWriting := false }

/-- Between s before and t after, records may have entered the trace buffers and the Grove-S banks changed roles: nothing else of the ZX40
has changed, nothing has left the device, and of the registers at most the light set, the interrupts and ZX_GRS_STS. -/
structure ZxKept (s t : State) : Prop where
  plain : t.zx.plain = s.zx.plain
  out : t.out = s.out
  regs : RegsKept [.ZX_LS_VAL, .ZX_IRQ_STS, .ZX_GRS_STS] s t

namespace ZxKept
variable {s t : State}

theorem refl (s : State) : ZxKept s s := ⟨rfl, rfl, fun _ _ _ _ => rfl⟩

theorem sched (h : ZxKept s t) : t.zx.sched = s.zx.sched := congrArg (fun z => z.sched) h.plain
theorem armed (h : ZxKept s t) : t.zx.armed = s.zx.armed := congrArg (fun z => z.armed) h.plain

theorem branch {c : Prop} [Decidable c] {u : State} (ht : ZxKept s t) (hu : ZxKept s u) : ZxKept s (if c then t else u) := by
  split <;> assumption

theorem foldl {α : Type} {f : State → α → State} {l : List α} (h : ZxKept s t) (hf : ∀ u x, ZxKept s u → ZxKept s (f u x)) :
    ZxKept s (l.foldl f t) := by
  induction l generalizing t with
  | nil => exact h
  | cons x l ih => exact ih (hf t x h)

theorem wr (h : ZxKept s t) {f : Fld} {i v : Nat} (hlo : f.lo < 64 := by decide)
    (hf : f.reg ∈ [Reg.ZX_LS_VAL, .ZX_IRQ_STS, .ZX_GRS_STS] := by decide) : ZxKept s (t.wr f i v) :=
  ⟨h.plain, h.out, h.regs.trans fun _ _ hglo hg => t.rd_wr_otherReg v hlo hglo (ne_of_mem_of_not_mem hf hg).symm⟩

theorem ls (h : ZxKept s t) {k n} : ZxKept s (t.ls k n) := by
  unfold State.ls
  split
  · exact h
  · exact h.wr

theorem gaps (h : ZxKept s t) {n} : ZxKept s (t.gaps n) := by
  unfold State.gaps
  split
  · exact h
  · exact h.ls.wr

theorem putTrc (h : ZxKept s t) {n x} : ZxKept s (t.putTrc n x) := gaps (t := t.setTrc n x.1) ⟨h.plain, h.out, h.regs⟩

theorem epochMark (h : ZxKept s t) {n} : ZxKept s (t.epochMark n) := by
  unfold State.epochMark
  split
  · exact h
  · exact h.putTrc

theorem grsSwitch (h : ZxKept s t) : ZxKept s t.grsSwitch := by
  unfold State.grsSwitch
  split
  · exact h
  · split
    · exact h
    · have hbanks (z : Zx) (hz : z.plain = t.zx.plain) : ZxKept s { t with zx := z } := ⟨hz.trans h.plain, h.out, h.regs⟩
      exact (hbanks { t.zx with
        grsRole := none, grsLive := _, grsStaged := _, stagedGrs := false, grsErr := false, grsFrom := 0, grsWriting := false } rfl).wr.wr.wr.wr.wr

end ZxKept

/-- What goes live at a ZX40 that closes the epochs before M: the schedule of T, M and k, and the staged generation. -/
theorem State.zxApply_live {s : State} {t m k : Nat} (ha : s.zx.armed = some (t, m, k)) (ht : t ≤ s.zxNs) (hr : s.zx.inReset = false)
    (hp : s.zx.pwr ≠ 3) (hc : s.zx.sched = none ∨ s.zx.lastEpoch.any (fun (e : Nat) => decide (m ≤ e + 1)) = true) :
    s.zxApply.zx.sched = some ⟨t, m, min 14 k⟩ ∧ s.zxApply.zx.armed = none ∧ s.zxApply.rd ZX_EPC_ID_ARMED = 0 ∧
      s.zxApply.rd ZX_EPC_ID_STAGED = 0 ∧ s.zxApply.rd ZX_EPC_ID_LIVE_GEN = s.rd ZX_EPC_ID_STAGED_GEN % 65536 := by
  unfold State.zxApply
  split
  · next hnone => exact absurd (ha.symm.trans hnone) (by simp)
  · next t' m' k' hsome =>
    obtain ⟨rfl, rfl, rfl⟩ : t = t' ∧ m = m' ∧ k = k' := by simpa [ha] using hsome
    extract_lets closed feats first g s₁ s₂ z s₃ s₄
    have hopen : ¬ (s.zxNs < t ∨ s.zx.inReset = true ∨ s.zx.pwr = 3 ∨ ¬ closed = true) := by
      simp only [closed, hr, hp, Bool.or_eq_true, Option.isNone_iff_eq_none, hc]
      simp [ht]
    rw [if_neg hopen]
    have hmark : ZxKept s₃ s₄ := .branch ((ZxKept.refl s₃).foldl fun u i h => .branch h.epochMark h) (.refl s₃)
    have hswitch := (ZxKept.refl (((s₄.wr ZX_EPC_ID_LIVE_GEN 0 g).wr ZX_EPC_ID_ARMED 0 0).wr ZX_EPC_ID_STAGED 0 0)).grsSwitch
    refine ⟨hswitch.sched.trans hmark.sched, hswitch.armed.trans hmark.armed, ?_, ?_, ?_⟩
    · rw [hswitch.regs _ _ (by decide) (by decide), State.rd_wr_otherLo _ _ (by decide) (by decide) (by decide), State.rd_wr_same]
      rfl
    · rw [hswitch.regs _ _ (by decide) (by decide), State.rd_wr_same]
      rfl
    · rw [hswitch.regs _ _ (by decide) (by decide), State.rd_wr_otherLo _ _ (by decide) (by decide) (by decide),
        State.rd_wr_otherLo _ _ (by decide) (by decide) (by decide), State.rd_wr_same]
      rfl

/-- Settles O3: what goes out with a generation leaves it as it was staged or armed, and the work of the apply instant leaves what went live. -/
theorem generationsAreStagedArmedAndApplied : Obligations.GenerationsAreStagedArmedAndApplied := by
  refine ⟨fun _ _ _ hc hl ha hd h0 hmax hok hgrv hpast => cfgStage_stages hc hl ha hd h0 hmax hok hgrv hpast,
    fun _ _ _ _ _ _ hnew ha hok hgrv hpast => cfgDistribution_stages hnew ha hok hgrv hpast, ?_, ?_,
    fun _ _ _ hc hl hs hg ha => cfgAbort_drops hc hl hs hg ha, ?_, fun _ _ _ _ _ _ _ hnew hs ha => cfgArm_arms hnew hs ha, ?_, ?_⟩
  · intro s c g m hc hl hp hs ha hg hn harm hb hm hall
    have he := exec_cfgApplyAt hc hl hp hs ha hg hn harm hb hm
    rw [if_neg (by simpa using hall)] at he
    refine ⟨_, he, State.reply_replied _ c _ _ _ _ _, ?_⟩
    rw [State.reply_ep, ((s.armHere_sends { g with origin := none } (c.p 1) m).foldl fun _ _ h => h.sendCfg).ep]
    rfl
  · intro s c g m hc hl hp hs ha hg hn harm hb hm hsome
    have he := exec_cfgApplyAt hc hl hp hs ha hg hn harm hb hm
    rw [if_pos (by simpa using hsome)] at he
    refine ⟨_, he, ?_⟩
    unfold State.replyBlob
    split
    all_goals
      refine ⟨?_, s.reply_onlyReply c _ (by decide) _ _ _⟩
      rw [State.answered, s.reply_replied]
      rfl
  · exact fun s c hc => answers_reply (by decide) (congrArg done (s.checked_of_allowed hc (Nat.zero_le _) _))
  · intro s g t m hs ha ht
    have he : exec (.cfgApplyInstant .bx) s = done (s.bxApply g t m) := by
      change execCfgApplyInstant .bx s = _
      unfold execCfgApplyInstant
      dsimp only
      rw [hs]
      dsimp only
      rw [ha]
      dsimp only
      rw [if_pos ht]
    obtain ⟨hstaged, hgens⟩ := s.bxApply_live g t m
    exact ⟨_, he, hstaged, by rw [hgens]; rfl⟩
  · exact fun s t m k ha ht hr hp hc => ⟨_, rfl, State.zxApply_live ha ht hr hp hc⟩

end Sys2Proof.Machine
end

section
/-! SUPPORT. Epochs commit, notices and records flow (R23, R31, R32, R394, R395). -/

namespace Sys2Proof.Machine
open Sys2Proof

/-! ### What the commit of an epoch changes -/

namespace EpochKept
variable {s t : State}

theorem mirrorState (h : EpochKept s t) : EpochKept s t.mirrorState := h.foldl fun _ _ h => h.mirrorDie

theorem allDigests (h : EpochKept s t) {n r} : EpochKept s (t.allDigests n r) := h.sendDigests.foldl fun _ _ h => h.sendDigests

theorem proposeCommit (h : EpochKept s t) : EpochKept s t.proposeCommit := by
  unfold State.proposeCommit
  split
  · exact h
  · split
    · refine .branch h ?_
      extract_lets rev recs
      split
      next e =>
        refine setCtx (snd_eq ?_ e)
        exact h.foldlSnd fun _ _ h => h.mirror
    · exact h

end EpochKept

/-- The watermark is n, and the contexts and notices of the epochs committed are gone. -/
def State.committedAt (s : State) (n : Nat) : State :=
  (((s.wr BX_EPC_STATE_WATERMARK 0 n).wr BX_EPC_STATE_WM_VALID 0 1).classifyHeld n).pruneEpoch n

theorem State.applyCommit_kept (s : State) (n : Nat) : EpochKept (s.committedAt n) (s.applyCommit n) := by
  have hlook : EpochKept (s.committedAt n) ((s.committedAt n).lookoutUpdate n) := (EpochKept.refl _).lookoutUpdate
  unfold State.applyCommit
  extract_lets s₁ s₂ s₃ s₄ s₅ s₆ s₇
  have h₃ : EpochKept (s.committedAt n) s₃ := by
    dsimp only [s₃]
    split
    · exact hlook
    · exact hlook.healthUpdate.allDigests.trsHistory
  have h₅ : EpochKept (s.committedAt n) s₅ := h₃.groupsDue.foldl fun _ _ h => h.runGroup
  have h₇ : EpochKept (s.committedAt n) s₇ := h₅.mirrorState.evictRecords.foldl fun _ _ h => h.advanceAck
  exact h₇.afterCommitLog.answerWaits

theorem State.committedAt_rd (s : State) (n : Nat) {f : Fld} (hf : f.reg = .BX_EPC_STATE) (hlo : f.lo < 64) :
    (s.committedAt n).rd f = ((s.wr BX_EPC_STATE_WATERMARK 0 n).wr BX_EPC_STATE_WM_VALID 0 1).rd f :=
  (EpochKept.refl _).classifyHeld.epc f hf hlo

theorem State.applyCommit_watermark (s : State) {n : Nat} (hn : n < 2 ^ 48) : (s.applyCommit n).rd BX_EPC_STATE_WATERMARK = n := by
  rw [(s.applyCommit_kept n).watermark, s.committedAt_rd n rfl (by decide),
    State.rd_wr_otherLo _ _ (by decide) (by decide) (by decide), State.rd_wr_same]
  exact Nat.mod_eq_of_lt hn

theorem State.applyCommit_wmValid (s : State) (n : Nat) : (s.applyCommit n).rd BX_EPC_STATE_WM_VALID = 1 := by
  rw [(s.applyCommit_kept n).wmValid, s.committedAt_rd n rfl (by decide), State.rd_wr_same]
  rfl

theorem State.applyCommit_wmSynced (s : State) (n : Nat) : (s.applyCommit n).rd BX_EPC_STATE_WM_SYNCED = s.rd BX_EPC_STATE_WM_SYNCED := by
  rw [(s.applyCommit_kept n).wmSynced, s.committedAt_rd n rfl (by decide),
    State.rd_wr_otherLo _ _ (by decide) (by decide) (by decide), State.rd_wr_otherLo _ _ (by decide) (by decide) (by decide)]

theorem State.applyCommit_notices (s : State) (n : Nat) : (s.applyCommit n).ep.notices = s.ep.notices.filter (fun x => n < x.epoch) := by
  have hheld := (EpochKept.refl ((s.wr BX_EPC_STATE_WATERMARK 0 n).wr BX_EPC_STATE_WM_VALID 0 1)).classifyHeld (n := n)
  exact (s.applyCommit_kept n).notices.trans (congrArg (List.filter fun (x : Notice) => n < x.epoch) hheld.notices)

theorem State.applyCommit_wmTarget (s : State) (n : Nat) : (s.applyCommit n).ep.wmTarget = s.ep.wmTarget := by
  have hheld := (EpochKept.refl ((s.wr BX_EPC_STATE_WATERMARK 0 n).wr BX_EPC_STATE_WM_VALID 0 1)).classifyHeld (n := n)
  exact (s.applyCommit_kept n).wmTarget.trans hheld.wmTarget

theorem State.committed_applyCommit (s : State) {n k : Nat} (hn : n < 2 ^ 48) : (s.applyCommit n).committed k = decide (k ≤ n) := by
  simp [State.committed, State.flag, s.applyCommit_wmValid, s.applyCommit_watermark hn]

/-! ### ROOT_COMMIT -/

theorem State.finishCommit_eq {s : State} {n : Nat} {x : Ctx} (hr : s.rootOf n = true) (hn : s.nextCommit? = some n) (hx : s.ctx? n = some x)
    (hm : x.commitMsg = some []) : ∃ t : State, s.finishCommit = t.applyCommit n := by
  unfold State.finishCommit
  rw [hn]
  dsimp only
  rw [hx]
  dsimp only
  rw [if_neg (by simp [hr, hm])]
  exact ⟨_, rfl⟩

/-! ### Notices held (R32, R394) -/

theorem State.nextCommit?_of_committed {s : State} {n k : Nat} (hn : s.nextCommit? = some n) (hk : s.committed k = true) : k ≤ n := by
  obtain ⟨hv, hw⟩ : s.flag BX_EPC_STATE_WM_VALID = true ∧ k ≤ s.rd BX_EPC_STATE_WATERMARK := by simpa [State.committed] using hk
  simp only [State.nextCommit?, hv, if_true, Option.some.injEq] at hn
  omega

/-- The epoch n is known to have committed: its notice is held, or it is committed here; and no notice held is of an epoch beyond 48 bits. -/
def State.noticed (s : State) (n : Nat) : Prop :=
  (n ∈ s.ep.notices.map (fun x => x.epoch) ∨ s.committed n = true) ∧ ∀ x ∈ s.ep.notices, x.epoch < 2 ^ 48

theorem EpochKept.noticed {s t : State} (h : EpochKept s t) {n : Nat} (hn : s.noticed n) : t.noticed n := by
  unfold State.noticed
  rwa [h.notices, h.committed]

/-- The commit of the epoch whose turn it is leaves an epoch noticed: of a notice dropped the epoch is committed now. -/
theorem State.noticed_applyCommit {s : State} {n k : Nat} (hn : s.nextCommit? = some n) (hlt : n < 2 ^ 48) (hk : s.noticed k) :
    (s.applyCommit n).noticed k := by
  obtain ⟨hheld, hall⟩ := hk
  unfold State.noticed
  rw [s.applyCommit_notices, s.committed_applyCommit hlt]
  refine ⟨?_, fun x hx => hall x (List.mem_filter.mp hx).1⟩
  by_cases hle : k ≤ n
  · exact .inr (decide_eq_true hle)
  · refine .inl ?_
    obtain hmem | hcom := hheld
    · obtain ⟨x, hx, rfl⟩ := List.mem_map.mp hmem
      exact List.mem_map_of_mem (List.mem_filter.mpr ⟨hx, by simpa using hle⟩)
    · exact absurd (State.nextCommit?_of_committed hn hcom) hle

theorem EpochKept.dropWrong {s t : State} (h : EpochKept s t) {o} : EpochKept s (t.dropWrong o) := h.set

theorem EpochKept.askSync {s t : State} (h : EpochKept s t) : EpochKept s t.askSync := h.sends (Sends.refl t).askSync

/-- What the commit of the next epoch and the messages sent keep, the notices applied in turn keep. -/
theorem applyNotices_keeps {P : State → Prop} (hcommit : ∀ (s : State) (n : Nat), s.nextCommit? = some n →
      n ∈ s.ep.notices.map (fun x => x.epoch) → P s → P (s.applyCommit n))
    (hkept : ∀ s t : State, EpochKept s t → P s → P t) (k : Nat) {s : State} (hs : P s) : P (applyNotices k s) := by
  induction k generalizing s with
  | zero => exact hs
  | succ k ih =>
    unfold applyNotices
    split
    · exact hs
    · next n hn =>
      split
      · exact hs
      · next o ho =>
        have hmem : n ∈ s.ep.notices.map (fun x => x.epoch) :=
          List.mem_map.mpr ⟨o, List.mem_of_find?_eq_some ho, by simpa using List.find?_some ho⟩
        split
        · exact ih (hcommit s n hn hmem hs)
        · exact hkept s _ (EpochKept.refl s).dropWrong.askSync hs

theorem State.noticed_runNotices {s : State} {n : Nat} (h : s.noticed n) : s.runNotices.noticed n := by
  refine applyNotices_keeps (P := fun t => t.noticed n) (fun t m hm hmem ht => ?_) (fun t u hu ht => hu.noticed ht) _ h
  obtain ⟨x, hx, rfl⟩ := List.mem_map.mp hmem
  exact State.noticed_applyCommit hm (ht.2 x hx) ht

theorem State.runNotices_sync (s : State) : s.runNotices.rd BX_EPC_STATE_WM_SYNCED = s.rd BX_EPC_STATE_WM_SYNCED ∧
    s.runNotices.ep.wmTarget = s.ep.wmTarget := by
  refine applyNotices_keeps (P := fun t => t.rd BX_EPC_STATE_WM_SYNCED = s.rd BX_EPC_STATE_WM_SYNCED ∧ t.ep.wmTarget = s.ep.wmTarget)
    (fun t n _ _ ht => ?_) (fun t u hu ht => ?_) _ ⟨rfl, rfl⟩
  · rwa [t.applyCommit_wmSynced, t.applyCommit_wmTarget]
  · rwa [hu.wmSynced, hu.wmTarget]

/-! ### The parent for an epoch: what it reads -/

theorem State.parentOf_congr {s t : State} (hep : t.ep = s.ep) (hpeers : t.cnp.peers = s.cnp.peers) (hregs : RegsKept [.BX_CNP_CNT0] s t)
    (n : Nat) : t.parentOf n = s.parentOf n := by
  have hlost (a : Nat) : t.isLost a = s.isLost a := by simp only [State.isLost, hpeers]
  have hagg : t.agg = s.agg := hregs _ 0 (by decide) (by decide)
  have hpast : t.pastGen? n = s.pastGen? n := by simp only [State.pastGen?, State.genOf, hep]
  have hroot (g : GenRec) : t.pastRoot g = s.pastRoot g := by simp only [State.pastRoot, hlost]
  have hparent : t.parent? = s.parent? := by
    have htree : t.treeOf s.agg = s.treeOf s.agg := by simp only [State.treeOf, State.cfg, State.liveGen?, hep]
    have hrole : t.isRoot = s.isRoot := by simp only [State.isRoot, hregs BX_CNP_FAB_STS_ROLE 0 (by decide) (by decide)]
    simp only [State.parent?, hrole, hagg, htree, hregs BX_CNP_FAB_STS_ACT_PARENT 0 (by decide) (by decide)]
  simp only [State.parentOf, hpast, hroot, hlost, hagg, hparent]

/-! ### COMMIT_NOTICE, WM_SYNC and RECORD_RECEIVE -/

theorem commitNotice_held {s : State} {q src msgId : Nat} {o : Notice} (hl : s.isLost src = false) (hnew : (src, msgId) ∉ s.cnp.delivered)
    (hp : s.parentOf o.epoch = some src) (hmax : ∀ x ∈ o :: s.ep.notices, x.epoch < 2 ^ 48) :
    Answers (.commitNotice q src msgId o) s (fun u => (o.epoch ∈ u.ep.notices.map (fun x => x.epoch) ∨ u.committed o.epoch = true)) := by
  obtain ⟨t, ht, htake⟩ := s.consume_e2eTake_fresh (e := .canopy q) (ty := 4) (sub := 0x14) hnew
  generalize hu : ({ t with cnp := { t.cnp with delivered := t.cnp.delivered ++ [(src, msgId)] } } : State) = u at htake
  have hparent : u.parentOf o.epoch = some src := by
    subst hu
    rw [← hp]
    exact State.parentOf_congr ht.ep ht.peers ht.regs o.epoch
  let v := u.toChildren 4 0x14 2 (noticeBytes o) o.epoch true
  let past : Bool := v.committed o.epoch || v.ep.notices.any (fun x => x.epoch == o.epoch)
  let w : State := if past then v else { v with ep := { v.ep with notices := v.ep.notices ++ [o] } }
  have he : exec (.commitNotice q src msgId o) s = done w.runNotices := by
    change execCommitNotice q src msgId o s = _
    unfold execCommitNotice
    dsimp only
    rw [if_neg (by change ¬ s.isLost src = true; rw [hl]; decide), htake]
    dsimp only
    rw [if_neg (by decide), if_neg (by rw [hparent]; simp)]
  have hnotices : v.ep.notices = s.ep.notices := by
    have hv : Sends u v := (Sends.refl u).toChildren
    rw [hv.ep, ← hu]
    exact congrArg (fun e => e.notices) ht.ep
  have hw : w.noticed o.epoch := by
    obtain ⟨ho, hall⟩ := List.forall_mem_cons.mp hmax
    by_cases hpast : past = true
    · have hwv : w = v := if_pos hpast
      rw [hwv, State.noticed, hnotices]
      refine ⟨?_, hall⟩
      obtain hcom | hany := (Bool.or_eq_true _ _).mp hpast
      · exact .inr hcom
      · obtain ⟨x, hx, hxe⟩ := List.any_eq_true.mp hany
        exact .inl (List.mem_map.mpr ⟨x, hnotices ▸ hx, by simpa using hxe⟩)
    · have hwn : w = { v with ep := { v.ep with notices := v.ep.notices ++ [o] } } := if_neg hpast
      rw [hwn, State.noticed, hnotices]
      exact ⟨.inl (by simp), List.forall_mem_append.mpr ⟨hall, by simpa using ho⟩⟩
  exact ⟨_, he, (State.noticed_runNotices hw).1⟩

/-- The synchronisation to a watermark that is reached stops at once. -/
theorem syncTo_of_committed {s : State} {t : Nat} (h : s.committed t = true) (k : Nat) : syncTo t k s = s := by
  obtain ⟨hv, hw⟩ : s.flag BX_EPC_STATE_WM_VALID = true ∧ t ≤ s.rd BX_EPC_STATE_WATERMARK := by simpa [State.committed] using h
  cases k with
  | zero => rfl
  | succ k =>
    unfold syncTo
    rw [if_pos hv]
    exact if_neg fun hle => absurd hle.1 (by omega)

/-- Once synchronised, a BX64 stays so while the notices held are applied and the readers answered, and has no watermark to reach. -/
theorem State.synced_runNotices_answerWaits {s : State} (h : s.rd BX_EPC_STATE_WM_SYNCED = 1) :
    s.runNotices.answerWaits.rd BX_EPC_STATE_WM_SYNCED = 1 ∧ s.runNotices.answerWaits.ep.wmTarget = s.ep.wmTarget := by
  have hkept := (EpochKept.refl s.runNotices).answerWaits
  obtain ⟨hsync, htarget⟩ := s.runNotices_sync
  exact ⟨(hkept.wmSynced.trans hsync).trans h, hkept.wmTarget.trans htarget⟩

theorem wmSync_none_syncs {s : State} {q src : Nat} (hp : s.parent? = some src) :
    Answers (.wmSync q src (.answer none)) s (fun u => u.rd BX_EPC_STATE_WM_SYNCED = 1) := by
  let t := (s.consume (.canopy q) 4 0x15).wr BX_EPC_STATE_WM_SYNCED 0 1
  have he : exec (.wmSync q src (.answer none)) s = done t.runNotices.answerWaits := by
    change execWmSync q src (.answer none) s = _
    unfold execWmSync
    dsimp only
    rw [if_neg (by change ¬ s.parent? ≠ some src; simp [hp])]
  exact ⟨_, he, (State.synced_runNotices_answerWaits (State.rd_wr_same _ _ _ _)).1⟩

theorem wmSync_reached_syncs {s : State} {q src t : Nat} (hp : s.parent? = some src) (hc : s.committed t = true) :
    Answers (.wmSync q src (.answer (some t))) s (fun u => u.rd BX_EPC_STATE_WM_SYNCED = 1 ∧ u.ep.wmTarget = none) := by
  let u := s.consume (.canopy q) 4 0x15
  let v : State := { u with ep := { u.ep with wmTarget := some t } }
  let w := ({ v with ep := { v.ep with wmTarget := none } } : State).wr BX_EPC_STATE_WM_SYNCED 0 1
  have hv : v.committed t = true := hc
  have he : exec (.wmSync q src (.answer (some t))) s = done w.runNotices.answerWaits := by
    have hrun : v.runSync = w.runNotices.answerWaits := by
      unfold State.runSync
      dsimp only [v]
      rw [syncTo_of_committed hv, if_pos hv]
    rw [← hrun]
    change execWmSync q src (.answer (some t)) s = _
    unfold execWmSync
    dsimp only
    rw [if_neg (by change ¬ s.parent? ≠ some src; simp [hp])]
  exact ⟨_, he, State.synced_runNotices_answerWaits (State.rd_wr_same _ _ _ _)⟩

theorem State.record?_congr {s t : State} (h : t.ep = s.ep) (n view : Nat) (c : Bool) : t.record? n view c = s.record? n view c := by
  simp only [State.record?, h]

theorem recordReceive_holds {s : State} {q src : Nat} {b : Bytes} (hp : s.parentOf (recEpoch b) = some src) (hcrc : recCrcOk b = true)
    (hc : recCommitted b = false) (hcom : s.record? (recEpoch b) (recView b) true = none)
    (hrev : s.record? (recEpoch b) (recView b) false = none) : Answers (.recordReceive q src b) s (fun u =>
      u.ep.records = s.ep.records ++ [recEntryOf b]) := by
  let t := (s.consume (.canopy q) 1 2).toChildren 1 2 7 b (recEpoch b)
  have ht : Sends s t := (Sends.refl s).consume.toChildren
  have he : exec (.recordReceive q src b) s = done (t.putRecord b) := by
    change execRecordReceive q src b s = _
    unfold execRecordReceive
    rw [hc]
    dsimp only
    rw [if_neg (by change ¬ s.parentOf (recEpoch b) ≠ some src; simp [hp]), if_neg (by simp [hcrc])]
    have hnone : ((s.consume (.canopy q) 1 2).toChildren 1 2 7 b (recEpoch b)).record? (recEpoch b) (recView b) true = none :=
      (State.record?_congr ht.ep _ _ _).trans hcom
    simp only [Bool.false_eq_true, if_false]
    rw [hnone]
  refine ⟨_, he, ?_⟩
  have hnone : t.record? (recEntryOf b).epoch (recEntryOf b).view (recEntryOf b).committed = none := by
    rw [State.record?_congr ht.ep]
    simpa [recEntryOf, hc] using hrev
  unfold State.putRecord
  dsimp only
  rw [hnone]
  exact congrArg (· ++ [recEntryOf b]) (congrArg (fun e => e.records) ht.ep)

/-- Settles O4: beyond the watermark, the contexts and the notices of the epochs committed, the work of a commit leaves BX_EPC_STATE and the
notices alone; so the watermark stands, a notice dropped has been committed, and the synchronisation stays complete. -/
theorem epochsCommitAndRecordsFlow : Obligations.EpochsCommitAndRecordsFlow := by
  refine ⟨?_, fun _ _ _ _ _ hl hnew hp _ hmax => commitNotice_held hl hnew hp hmax, fun _ _ _ hp => wmSync_none_syncs hp,
    fun _ _ _ _ hp hc => wmSync_reached_syncs hp hc, fun _ _ _ _ hp hcrc hc hcom hrev => recordReceive_holds hp hcrc hc hcom hrev⟩
  intro s n x hr hn hlt hx hm
  obtain ⟨t, ht⟩ := State.finishCommit_eq hr hn hx hm
  have hkept : EpochKept (t.applyCommit n) s.finishCommit.proposeCommit := by
    rw [← ht]
    exact (EpochKept.refl _).proposeCommit
  exact ⟨_, rfl, hkept.watermark.trans (t.applyCommit_watermark hlt), hkept.wmValid.trans (t.applyCommit_wmValid n)⟩

end Sys2Proof.Machine
end

section
/-! SUPPORT. The close of an epoch at a ZX40 (R19, R64, R67, R72, R102, R103). -/

namespace Sys2Proof.Machine
open Sys2Proof

/-! ### What counting and latching leave alone: the taps populated, and the outputs -/

/-- Between s before and t after, nothing has left the device and the populated taps are the same. -/
structure Latches (s t : State) : Prop where
  out : t.out = s.out
  taps : t.rd ZX_BUILD_NUM_TAPS = s.rd ZX_BUILD_NUM_TAPS

namespace Latches
variable {s t u : State}

theorem refl (s : State) : Latches s s := ⟨rfl, rfl⟩

theorem tapOk (h : Latches s t) (n : Nat) : t.tapOk n = s.tapOk n := by simp only [State.tapOk, h.taps]

theorem branch {c : Prop} [Decidable c] (ht : Latches s t) (hu : Latches s u) : Latches s (if c then t else u) := by
  split <;> assumption

theorem foldl {α : Type} {f : State → α → State} {l : List α} (h : Latches s t) (hf : ∀ u, ∀ x ∈ l, Latches s u → Latches s (f u x)) :
    Latches s (l.foldl f t) := List.foldlRecOn l f h fun u hu x hx => hf u x hx hu

theorem wr (h : Latches s t) {f : Fld} {i v : Nat} (hlo : f.lo < 64 := by decide) (hf : f.reg ≠ .ZX_BUILD := by decide) :
    Latches s (t.wr f i v) :=
  ⟨h.out, (t.rd_wr_otherReg v hlo (by decide) hf.symm).trans h.taps⟩

theorem ls (h : Latches s t) {k n} : Latches s (t.ls k n) := .branch h h.wr

theorem setReg (h : Latches s t) {r i w} (hr : ∀ f ∈ Reg.fields r, f.lo < 64 ∧ f.reg ≠ .ZX_BUILD := by decide) : Latches s (t.setReg r i w) :=
  h.foldl fun _ f hf h => h.wr (hr f hf).1 (hr f hf).2

theorem setZx (h : Latches s t) {z} : Latches s { t with zx := z } := ⟨h.out, h.taps⟩

theorem addHw (h : Latches s t) {c} : Latches s (t.addHw c) :=
  (h.ls.ls.foldl fun _ _ _ h => h.ls).ls.ls.ls.foldl fun _ _ _ h => .branch h.wr h

theorem endWindow (h : Latches s t) {w} : Latches s (t.endWindow w) :=
  setZx (.branch (wr (setZx (h.ls.foldl fun _ _ _ h => h.setReg))) (setZx (h.ls.foldl fun _ _ _ h => h.setReg)))

theorem loadSel (h : Latches s t) : Latches s t.loadSel := h.setZx.foldl fun _ _ _ h => h.wr

theorem latchCounters (h : Latches s t) : Latches s t.latchCounters := (setZx (h.foldl fun _ _ _ h => h.wr)).loadSel

theorem loadQw (h : Latches s t) : Latches s t.loadQw := h.setZx

theorem latchStop (h : Latches s t) {n b c} : Latches s (t.latchStop n b c) := h.setZx.wr

end Latches

/-! ### The ZX40 before the latch -/

theorem State.ls_zx (s : State) (k n : Nat) : (s.ls k n).zx = s.zx := by
  unfold State.ls
  split <;> rfl

theorem State.setReg_zx (s : State) (r : Reg) (i w : Nat) : (s.setReg r i w).zx = s.zx :=
  List.foldlRecOn (motive := fun (t : State) => t.zx = s.zx) _ _ rfl fun _ h _ _ => h

theorem State.addHw_zx (s : State) (h : HwCounts) : (s.addHw h).zx = s.zx := by
  have hls {t : State} (ht : t.zx = s.zx) (k n : Nat) : (t.ls k n).zx = s.zx := (t.ls_zx k n).trans ht
  unfold State.addHw
  refine List.foldlRecOn (motive := fun (t : State) => t.zx = s.zx) _ _ (hls (hls (hls ?_ _ _) _ _) _ _) fun t ht x _ => ?_
  · exact List.foldlRecOn (motive := fun (t : State) => t.zx = s.zx) _ _ (hls (hls rfl _ _) _ _) fun t ht k _ => hls ht _ _
  · split
    · exact ht
    · exact ht

/-- The end of a window writes its values into the log and closes it. -/
theorem State.endWindow_zx (s : State) (w : SnsWindow) : ∃ l, (s.endWindow w).zx = { s.zx with log := l, snsWin := none } := by
  have hvals (t : State) (ht : t.zx = s.zx) (ks : List Nat) (v : List Nat) : (ks.foldl (fun s k => s.setReg .ZX_SNS_VAL k (v.getD k 0)) t).zx = s.zx :=
    List.foldlRecOn (motive := fun (t : State) => t.zx = s.zx) _ _ ht fun u hu k _ => (u.setReg_zx _ _ _).trans hu
  unfold State.endWindow
  extract_lets words late bad s₁ s₂ s₃
  have h₁ : s₁.zx = s.zx := hvals _ (s.ls_zx _ _) _ _
  have h₃ : s₃.zx = s₂.zx := by
    dsimp only [s₃]
    split <;> rfl
  have h₂ : s₂.zx = { s.zx with log := s₂.zx.log } := congrArg (fun z : Zx => { z with log := s₂.zx.log }) h₁
  exact ⟨s₂.zx.log, congrArg (fun z : Zx => { z with snsWin := none }) (h₃.trans h₂)⟩

/-! ### The latch strobe (R64) -/

theorem State.zxTap_setTap_same (s : State) (t : Nat) (x : Tap) : (s.setTap t x).zxTap t = x := SMap.getD_set_same _ _ _ _

theorem State.zxTap_setTap_other (s : State) {t k : Nat} (x : Tap) (h : k ≠ t) : (s.setTap t x).zxTap k = s.zxTap k :=
  SMap.getD_set_other _ _ _ h

/-- The strobe leaves the device once. -/
theorem State.strobe_out (s : State) : s.strobe.out = s.out ++ [.latchStrobe] := by
  have h : ∀ l : List Nat, (l.foldl (fun s t => s.setTap t {
      s.zxTap t with latchPending := true, latchEdges := 0, latchTick := s.zx.tb.ticks, latchRun := s.zx.tb.run }) s).out = s.out :=
    fun l => List.foldlRecOn (motive := fun (t : State) => t.out = s.out) _ _ rfl fun _ h _ _ => h
  exact congrArg (· ++ [Out.latchStrobe]) (h s.tapNums)

/-- After the strobe a latch is pending at every populated tap. -/
theorem State.strobe_pending (s : State) {t : Nat} (ht : s.tapOk t = true) : (s.strobe.zxTap t).latchPending = true := by
  have hmem : t ∈ s.tapNums := by
    have : t < 128 := (of_decide_eq_true ht).2
    exact List.mem_filter.mpr ⟨List.mem_range.mpr this, ht⟩
  unfold State.strobe
  generalize s.tapNums = l at hmem
  suffices ∀ u : State, t ∈ l ∨ (u.zxTap t).latchPending = true → ((l.foldl (fun s t => s.setTap t {
      s.zxTap t with latchPending := true, latchEdges := 0, latchTick := s.zx.tb.ticks, latchRun := s.zx.tb.run }) u).zxTap t).latchPending = true
    from this s (.inl hmem)
  clear hmem
  induction l with
  | nil => exact fun u h => h.resolve_left List.not_mem_nil
  | cons k l ih =>
    intro u h
    refine ih _ ?_
    by_cases hk : t = k
    · subst hk
      exact .inr (by rw [State.zxTap_setTap_same])
    · rw [State.zxTap_setTap_other _ _ hk]
      exact h.imp_left fun hm => (List.mem_cons.mp hm).resolve_left hk

/-! ### The log entry (R102, R103) -/

theorem ZxKept.trans {s t u : State} (h : ZxKept s t) (hu : ZxKept t u) : ZxKept s u :=
  ⟨hu.plain.trans h.plain, hu.out.trans h.out, h.regs.trans hu.regs⟩

/-- The ZX40 with another log, of which other entries wait to be sent. -/
def State.withLog (s : State) (l : List LogEntry) (u : List Nat) : State := { s with zx := { s.zx with log := l, unsent := u } }

theorem ZxKept.withLog {s t : State} (h : ZxKept s t) {l u} : ZxKept (s.withLog l u) (t.withLog l u) :=
  ⟨congrArg (fun z => { z with log := l, unsent := u }) h.plain, h.out, h.regs⟩

/-- Making room for an entry drops entries of the log, and what is noted of them. -/
theorem State.logRoom_kept (s : State) (size k : Nat) : ∃ l u, ZxKept (s.withLog l u) (s.logRoom size k) := by
  induction k generalizing s with
  | zero => exact ⟨_, _, .refl s⟩
  | succ k ih =>
    unfold State.logRoom
    split
    · exact ⟨_, _, .refl s⟩
    · split
      · exact ⟨_, _, .refl s⟩
      · extract_lets evicted z s₁ s₂
        obtain ⟨l, u, h⟩ := ih s₂
        have h₂ : ZxKept s₁ s₂ := .branch (ZxKept.refl s₁).ls.wr (.refl s₁)
        exact ⟨l, u, h₂.withLog.trans h⟩

/-! ### ZX_EPOCH_CLOSE -/

/-- From s on, epoch n has closed at the instant a: the close is noted, the sensor window is open, and the taps have their latch strobe. -/
structure ClosedAt (s : State) (n a : Nat) (u : State) : Prop where
  lastClose : u.zx.lastClose = some a
  lastEpoch : u.zx.lastEpoch = some n
  window : u.zx.snsWin.map (fun w => w.epoch) = some n
  out : u.out = s.out ++ [.latchStrobe] ++ [.snsStart]
  stamps : u.zx.barStamps = []
  pending : ∀ t, s.tapOk t = true → (u.zxTap t).latchPending = true

theorem ClosedAt.kept {s u v : State} {n a : Nat} (h : ClosedAt s n a u) (hv : ZxKept u v) : ClosedAt s n a v where
  lastClose := (congrArg (fun z => z.lastClose) hv.plain).trans h.lastClose
  lastEpoch := (congrArg (fun z => z.lastEpoch) hv.plain).trans h.lastEpoch
  window := (congrArg (fun z => z.snsWin.map (fun w => w.epoch)) hv.plain).trans h.window
  out := hv.out.trans h.out
  stamps := (congrArg (fun z => z.barStamps) hv.plain).trans h.stamps
  pending := fun t ht => (congrArg (fun z => (z.taps.getD t {}).latchPending) hv.plain).trans (h.pending t ht)

/-- The log may be another. -/
theorem ClosedAt.setLog {s u : State} {n a : Nat} (h : ClosedAt s n a u) {l v w} :
    ClosedAt s n a { u with zx := { u.zx with log := l, unsent := v, logWr := w } } :=
  ⟨h.lastClose, h.lastEpoch, h.window, h.out, h.stamps, h.pending⟩

/-- The close of epoch n at the instant a is noted, and the next epoch begins. -/
def State.noteClose (s : State) (n a : Nat) : State :=
  { s with zx := { s.zx with
    heldAtOpen := true, wholeLocked := s.zx.tb.isLocked, stepped := false, offEp := decide (2 ≤ s.zx.pwr), lastClose := some a, lastEpoch := some n
    genOpen := s.rd ZX_EPC_ID_LIVE_GEN, barStamps := [], barOvf := false } }

theorem State.openWindow_out (s : State) (c : Sched) (e a : Nat) : (s.openWindow c e a).out = s.out ++ [.snsStart] := rfl

/-- Strobe, window and note of the close of an epoch, at counters that have latched. -/
theorem Latches.closedAt {s t : State} (h : Latches s t) (c : Sched) (n a : Nat) :
    ClosedAt s n a ((t.strobe.openWindow c n a).noteClose n a) where
  lastClose := rfl
  lastEpoch := rfl
  window := rfl
  out := by
    change (t.strobe.openWindow c n a).out = _
    rw [State.openWindow_out, State.strobe_out, h.out]
  stamps := rfl
  pending k hk := t.strobe_pending ((h.tapOk k).trans hk)

/-- An entry joins the log, to be sent as the snapshot of epoch e. -/
def State.addEntry (s : State) (x : LogEntry) (e : Nat) : State :=
  { s with zx := { s.zx with log := s.zx.log ++ [x], unsent := s.zx.unsent ++ [e], logWr := (s.zx.logWr + x.size) % 2097152 } }

/-- With its entry added, and the Grove-S banks changed if they were due, the epoch is closed and its entry is the last of the log. -/
theorem ClosedAt.addEntry {s t : State} {n a : Nat} (h : ClosedAt s n a t) (x : LogEntry) : ClosedAt s n a (t.addEntry x n).grsSwitch ∧
    (t.addEntry x n).grsSwitch.zx.log.getLast? = some x ∧ n ∈ (t.addEntry x n).grsSwitch.zx.unsent := by
  have hswitch := (ZxKept.refl (t.addEntry x n)).grsSwitch
  have hlog : (t.addEntry x n).grsSwitch.zx.log = t.zx.log ++ [x] := congrArg (fun z => z.log) hswitch.plain
  have hunsent : (t.addEntry x n).grsSwitch.zx.unsent = t.zx.unsent ++ [n] := congrArg (fun z => z.unsent) hswitch.plain
  refine ⟨h.setLog.kept hswitch, ?_, ?_⟩
  · rw [hlog, List.getLast?_concat]
  · rw [hunsent]
    exact List.mem_append_right _ (List.mem_singleton_self n)

/-- The close of an epoch that was spent under its schedule, at a locked timebase, in Z0 or Z1, adds the epoch's entry to the log. -/
theorem State.closeEpoch_snapshot {s : State} {c : Sched} {n a : Nat} (hp : s.zx.pwr ≤ 1) (hheld : s.zx.heldAtOpen = true)
    (hoff : s.zx.offEp = false) (hwhole : s.zx.wholeLocked = true) (htb : s.zx.tb.isLocked = true) (hlast : s.zx.lastEpoch = some (n - 1))
    (hn : 1 ≤ n) : ClosedAt s n a (s.closeEpoch c n a) ∧
      (s.closeEpoch c n a).zx.log.getLast?.map (fun e => (e.epoch, e.cNs)) = some (n, c.close n) ∧ n ∈ (s.closeEpoch c n a).zx.unsent := by
  generalize hr : s.closeEpoch c n a = r
  unfold State.closeEpoch at hr
  extract_lets s₁ z e part flags entry s₂ s₃ s₄ s₅ s₆ s₇ at hr
  have hz : ∃ l w, z = { s.zx with log := l, snsWin := w } := by
    dsimp only [z, s₁]
    split
    · exact ⟨_, _, rfl⟩
    · next w _ => exact (s.endWindow_zx w).imp fun _ h => ⟨_, h⟩
  have hzp : z.pwr ≤ 1 := by obtain ⟨l, w, h⟩ := hz; rwa [h]
  have he : e = n := by
    have hzl : z.lastEpoch = some (n - 1) := by obtain ⟨l, w, h⟩ := hz; rwa [h]
    dsimp only [e]
    rw [hzl]
    exact Nat.sub_add_cancel hn
  have hpart : part = true := by
    obtain ⟨l, w, h⟩ := hz
    dsimp only [part]
    rw [h]
    have : s.zx.pwr < 2 := by omega
    simp [hheld, hoff, hwhole, htb, he, this]
  rw [if_neg (by omega), if_pos hpart] at hr
  have h₁ : Latches s s₁ := by
    dsimp only [s₁]
    split
    · exact .refl s
    · exact (Latches.refl s).endWindow
  have h₃ : Latches s ((s₂.tapNums.foldl (fun s t => s.latchStop t (a - c.len) a) s₂)) :=
    h₁.latchCounters.loadQw.foldl fun _ _ _ h => h.latchStop
  have h₅ : ClosedAt s n a s₅ := by
    have h₄ : s₄ = s₃.openWindow c n a := by rw [← he]
    change ClosedAt s n a (s₄.noteClose n a)
    rw [h₄]
    exact h₃.closedAt c n a
  have h₆ : ZxKept s₅ s₆ := .branch ((ZxKept.refl s₅).foldl fun u i h => .branch h.epochMark h) (.refl s₅)
  obtain ⟨l, v, h₇⟩ := (s₆.ls 0x8C).logRoom_kept entry.size (s₆.zx.log.length + 1)
  have hclosed : ClosedAt s n a s₇ := ClosedAt.kept (ClosedAt.setLog (h₅.kept h₆.ls)) h₇
  have hlogged := hclosed.addEntry entry
  have hr' : (s₇.addEntry entry n).grsSwitch = r := by
    rw [← hr, he]
    rfl
  rw [hr'] at hlogged
  obtain ⟨hat, hlast', hunsent⟩ := hlogged
  refine ⟨hat, ?_, hunsent⟩
  rw [hlast', ← he]
  rfl

/-- Settles O6: the counts before and the trace records, the room in the log and the change of the Grove-S banks after leave what the close
latches, so the branch of R102 step 1 stands at the end. -/
theorem epochCloseTakesASnapshot : Obligations.EpochCloseTakesASnapshot := by
  intro s h c n a hb hr hp hlater hheld hoff hwhole htb hlast hn
  have hzx := s.addHw_zx h
  have hlatch : Latches s (s.addHw h) := (Latches.refl s).addHw
  have hboundary : (s.addHw h).zxBoundary = some (c, n, a) := by
    rw [← hb]
    unfold State.zxBoundary State.zxNs
    rw [hzx]
  have he : exec (.zxEpochClose h) s = done ((s.addHw h).closeEpoch c n a) := by
    change execZxEpochClose h s = _
    unfold execZxEpochClose
    rw [if_neg (by simp [hr]; omega)]
    dsimp only
    rw [hboundary]
    dsimp only
    have hfirst : s.zx.lastClose.any (fun (l : Nat) => decide (a ≤ l)) = false := by
      cases hl : s.zx.lastClose with
      | none => rfl
      | some l => simpa using hlater l hl
    rw [hzx, hfirst]
    rfl
  rw [← hzx] at hp hheld hoff hwhole htb hlast
  obtain ⟨hclosed, hlog, hunsent⟩ := State.closeEpoch_snapshot (c := c) (a := a) hp hheld hoff hwhole htb hlast hn
  refine ⟨_, he, hclosed.lastClose, hclosed.lastEpoch, hlog, hunsent, hclosed.window, ?_, ?_, hclosed.stamps,
    fun t ht => hclosed.pending t ((hlatch.tapOk t).trans ht)⟩
  · rw [hclosed.out]
    simp
  · rw [hclosed.out]
    simp

end Sys2Proof.Machine
end

section
/-! SUPPORT. What a ZX40 counts and interrupts for, and what its trace records leave alone (R69, R70, R80, R88 to R92). -/

namespace Sys2Proof.Machine
open Sys2Proof

/-! ### Registers written one after the other -/

theorem RegsKept.refl (rs : List Reg) (s : State) : RegsKept rs s s := fun _ _ _ _ => rfl

theorem RegsKept.wr {rs : List Reg} {s t : State} (h : RegsKept rs s t) {f : Fld} {i v : Nat} (hlo : f.lo < 64 := by decide)
    (hf : f.reg ∈ rs := by decide) : RegsKept rs s (t.wr f i v) :=
  h.trans fun _ _ hg hm => t.rd_wr_otherReg v hlo hg (ne_of_mem_of_not_mem hf hm).symm

/-! ### The light set (R69, R70) -/

theorem State.lsUp_ls (s : State) (k n : Nat) : s.lsUp (s.ls k n) k n := by
  unfold State.ls State.lsUp
  split
  · rfl
  · exact s.rd_wr_same ZX_LS_VAL_VAL k _

theorem State.lsUp_wr {s t : State} {k n : Nat} (h : s.lsUp t k n) {f : Fld} {i v : Nat} (hlo : f.lo < 64 := by decide)
    (hf : ZX_LS_VAL_VAL.reg ≠ f.reg := by decide) : s.lsUp (t.wr f i v) k n :=
  (t.rd_wr_otherReg v hlo (by decide) hf).trans h

theorem State.lsUp_irq {s t : State} {k n : Nat} (h : s.lsUp t k n) {f : Fld} (hlo : f.lo < 64 := by decide)
    (hf : ZX_LS_VAL_VAL.reg ≠ f.reg := by decide) : s.lsUp (t.irq f) k n := State.lsUp_wr h hlo hf

/-- Another counter of the light set does not count. -/
theorem State.rd_ls_other (s : State) {j k : Nat} (n : Nat) (h : j ≠ k) : (s.ls k n).rd ZX_LS_VAL_VAL j = s.rd ZX_LS_VAL_VAL j := by
  unfold State.ls
  split
  · rfl
  · exact s.rd_wr_otherIdx _ (by decide) (by decide) h

/-- What was done before the count leaves the light set alone. -/
theorem State.lsUp_of_kept {s t u : State} {k n : Nat} (hv : t.rd ZX_LS_VAL_VAL k = s.rd ZX_LS_VAL_VAL k)
    (hd : t.rd ZX_LS_CTRL_DIS = s.rd ZX_LS_CTRL_DIS) (h : t.lsUp u k n) : s.lsUp u k n := by
  unfold State.lsUp State.flag at h ⊢
  rwa [hv, hd] at h

/-! ### Words written into registers, and entries of the log changed -/

theorem State.rd_foldl_wr_otherLo (s : State) {l : List Fld} {g : Fld} (i w : Nat) (hl : ∀ f ∈ l, f.lo < 64) (hg : g.lo < 64)
    (h : ∀ f ∈ l, g.lo ≠ f.lo) : (l.foldl (fun s f => s.wr f i (bits w f.hi f.lo)) s).rd g i = s.rd g i :=
  List.foldlRecOn (motive := fun (t : State) => t.rd g i = s.rd g i) _ _ rfl fun t ht f hf =>
    (t.rd_wr_otherLo _ (hl f hf) hg (h f hf)).trans ht

theorem State.rd_foldl_wr (s : State) {l : List Fld} {f : Fld} (i w : Nat) (hl : ∀ g ∈ l, g.lo < 64)
    (hd : l.Pairwise (fun a b => a.lo ≠ b.lo)) (hf : f ∈ l) :
    (l.foldl (fun s f => s.wr f i (bits w f.hi f.lo)) s).rd f i = bits w f.hi f.lo := by
  induction l generalizing s with
  | nil => cases hf
  | cons g l ih =>
    rw [List.pairwise_cons] at hd
    have hl' := (List.forall_mem_cons.mp hl).2
    rcases List.mem_cons.mp hf with rfl | hf
    · rw [List.foldl_cons, State.rd_foldl_wr_otherLo _ i w hl' (hl f List.mem_cons_self) hd.1, State.rd_wr_same]
      exact Nat.mod_mod _ _
    · exact ih _ hl' hd.2 hf

/-- A field of a register reads its bits of the word last set. -/
theorem State.rd_setReg (s : State) {r : Reg} {f : Fld} (i w : Nat) (hl : ∀ g ∈ Reg.fields r, g.lo < 64)
    (hd : (Reg.fields r).Pairwise (fun a b => a.lo ≠ b.lo)) (hf : f ∈ Reg.fields r) : (s.setReg r i w).rd f i = bits w f.hi f.lo :=
  s.rd_foldl_wr i w hl hd hf

/-- An entry of the epoch whose entry was changed is a changed one. -/
theorem State.mem_modEntry {s : State} {n : Nat} {f : LogEntry → LogEntry} {e : LogEntry}
    (he : e ∈ (s.modEntry n f).zx.log) (hn : e.epoch = n) : ∃ x ∈ s.zx.log, x.epoch = n ∧ f x = e := by
  obtain ⟨x, hx, rfl⟩ := List.mem_map.mp he
  by_cases h : x.epoch = n
  · exact ⟨x, hx, h, (if_pos h).symm⟩
  · rw [if_neg h] at hn
    exact absurd hn h

theorem State.entry?_modEntry (s : State) (n : Nat) {f : LogEntry → LogEntry} (hf : ∀ x, (f x).epoch = x.epoch) :
    (s.modEntry n f).entry? n = (s.entry? n).map f := by
  unfold State.entry? State.modEntry
  dsimp only
  induction s.zx.log with
  | nil => rfl
  | cons x l ih =>
    by_cases h : x.epoch = n
    · simp [h, hf]
    · simp only [List.map_cons, if_neg h]
      rw [List.find?_cons_of_neg (by simpa using h), List.find?_cons_of_neg (by simpa using h), ih]

/-! ### Trace buffers -/

/-- Between s before and t after, trace buffers may have changed and nothing else. -/
def OnlyTrc (s t : State) : Prop := ∃ m, t = { s with zx := { s.zx with trc := m } }

namespace OnlyTrc
variable {s t : State}

theorem refl (s : State) : OnlyTrc s s := ⟨s.zx.trc, rfl⟩

theorem setTrc (h : OnlyTrc s t) {n b} : OnlyTrc s (t.setTrc n b) := by
  obtain ⟨m, rfl⟩ := h
  exact ⟨_, rfl⟩

theorem branch {c : Prop} [Decidable c] {u : State} (ht : OnlyTrc s t) (hu : OnlyTrc s u) : OnlyTrc s (if c then t else u) := by
  split <;> assumption

theorem foldl {α : Type} {f : State → α → State} {l : List α} (h : OnlyTrc s t) (hf : ∀ u x, OnlyTrc s u → OnlyTrc s (f u x)) :
    OnlyTrc s (l.foldl f t) := List.foldlRecOn l f h fun u hu x _ => hf u x hu

end OnlyTrc

/-- Of the ZX40's interrupts every bit has its own place in ZX_IRQ_STS. -/
theorem irqSts_fields : ∀ f ∈ Reg.fields .ZX_IRQ_STS, f.reg = .ZX_IRQ_STS ∧ f.lo < 64 ∧ f.width = 1 ∧
    ∀ g ∈ Reg.fields .ZX_IRQ_STS, g ≠ f → g.lo ≠ f.lo := by
  decide

theorem State.rd_irq_same (s : State) {f : Fld} (hf : f ∈ Reg.fields .ZX_IRQ_STS := by decide) : (s.irq f).rd f = 1 := by
  obtain ⟨-, -, hw, -⟩ := irqSts_fields f hf
  exact (s.rd_wr_same f 0 1).trans (by rw [hw]; rfl)

/-- Between s before and t after, records may have entered the trace buffers, triggers been taken, alarms been formed and the Grove-S banks
changed roles: the epoch log and the drain bursts are the same, of the registers at most the light set, the interrupts and ZX_GRS_STS have
changed, and no interrupt has been cleared. -/
structure Traces (s t : State) : Prop where
  log : t.zx.log = s.zx.log
  bursts : t.zx.bursts = s.zx.bursts
  regs : RegsKept [.ZX_LS_VAL, .ZX_IRQ_STS, .ZX_GRS_STS] s t
  irqs : ∀ f ∈ Reg.fields .ZX_IRQ_STS, s.rd f = 1 → t.rd f = 1

namespace Traces
variable {s t : State}

theorem refl (s : State) : Traces s s := ⟨rfl, rfl, .refl _ s, fun _ _ h => h⟩

theorem branch {c : Prop} [Decidable c] {u : State} (ht : Traces s t) (hu : Traces s u) : Traces s (if c then t else u) := by
  split <;> assumption

theorem foldl {α : Type} {f : State → α → State} {l : List α} (h : Traces s t) (hf : ∀ u x, Traces s u → Traces s (f u x)) :
    Traces s (l.foldl f t) := List.foldlRecOn l f h fun u hu x _ => hf u x hu

/-- The ZX40 may be another with the same log and bursts. -/
theorem setZx (h : Traces s t) {z : Zx} (hl : z.log = t.zx.log := by rfl) (hb : z.bursts = t.zx.bursts := by rfl) : Traces s { t with zx := z } :=
  ⟨hl.trans h.log, hb.trans h.bursts, h.regs, h.irqs⟩

theorem modLink (h : Traces s t) {e f} : Traces s (t.modLink e f) := ⟨h.log, h.bursts, h.regs, h.irqs⟩

theorem wr (h : Traces s t) {f : Fld} {i v : Nat} (hlo : f.lo < 64 := by decide) (hf : f.reg ∈ [Reg.ZX_LS_VAL, .ZX_GRS_STS] := by decide) :
    Traces s (t.wr f i v) := by
  have hsub : [Reg.ZX_LS_VAL, .ZX_GRS_STS] ⊆ [.ZX_LS_VAL, .ZX_IRQ_STS, .ZX_GRS_STS] := by decide
  refine ⟨h.log, h.bursts, h.regs.wr hlo (hsub hf), fun g hg hs => ?_⟩
  obtain ⟨hreg, hglo, -⟩ := irqSts_fields g hg
  exact (t.rd_wr_otherReg v hlo hglo (ne_of_mem_of_not_mem hf (hreg ▸ by decide)).symm).trans (h.irqs g hg hs)

theorem ls (h : Traces s t) {k n} : Traces s (t.ls k n) := .branch h h.wr

theorem irq (h : Traces s t) {f : Fld} (hf : f ∈ Reg.fields .ZX_IRQ_STS := by decide) : Traces s (t.irq f) := by
  obtain ⟨hreg, hlo, -, hother⟩ := irqSts_fields f hf
  refine ⟨h.log, h.bursts, h.regs.wr hlo (by rw [hreg]; decide), fun g hg hs => ?_⟩
  by_cases hgf : g = f
  · rw [hgf]
    exact t.rd_irq_same hf
  · exact (t.rd_wr_otherLo 1 hlo (irqSts_fields g hg).2.1 (hother g hg hgf)).trans (h.irqs g hg hs)

theorem setTrc (h : Traces s t) {n b} : Traces s (t.setTrc n b) := h.setZx

theorem gaps (h : Traces s t) {n} : Traces s (t.gaps n) := .branch h h.ls.irq

theorem putTrc (h : Traces s t) {n x} : Traces s (t.putTrc n x) := h.setTrc.gaps

theorem trcFree (h : Traces s t) {n k} : Traces s (t.trcFree n k) := h.putTrc

theorem zxAlarm (h : Traces s t) {sub detail extra} : Traces s (t.zxAlarm sub detail extra) := ⟨h.log, h.bursts, h.regs, h.irqs⟩

theorem hwRequest (h : Traces s t) {buf cause} : Traces s (t.hwRequest buf cause) := .branch h.zxAlarm (.branch h.setZx h.setZx)

theorem trigger (h : Traces s t) {n cause} : Traces s (t.trigger n cause) := by
  unfold State.trigger
  extract_lets b
  split
  · exact h
  · exact h.putTrc.ls
  · exact h.setTrc.hwRequest

theorem triggerSource (h : Traces s t) {src p} : Traces s (t.triggerSource src p) := h.foldl fun _ _ h => .branch h.trigger h

theorem grsSwitch (h : Traces s t) : Traces s t.grsSwitch := by
  unfold State.grsSwitch
  split
  · exact h
  · split
    · exact h
    · exact wr (wr (wr (wr (wr h.setZx))))

end Traces

end Sys2Proof.Machine
end

section
/-! SUPPORT. Registers of a ZX40 written over APB, barrier arrivals, and accesses in reset (R53, R68, R70, R75, R79). -/

namespace Sys2Proof.Machine
open Sys2Proof

/-! ### Counter selections (R68, R75) -/

theorem State.setSel_ctrSel (s : State) (n w : Nat) : (s.setSel n w).zx.ctrSel.getD n 0 = w := by
  unfold State.setSel
  dsimp only
  split
  · next h => rw [SMap.getD, SMap.find?_erase_same, h]; rfl
  · exact SMap.getD_set_same _ _ _ _

theorem bits_bit (w b : Nat) : bits w b b = b2n (bitAt w b) := by
  unfold bits b2n bitAt
  rw [Nat.add_sub_cancel_left, pow_one, Nat.shiftRight_eq_div_pow, Nat.testBit_eq_decide_div_mod_eq]
  split
  · next h => exact of_decide_eq_true h
  · next h => simpa using h

/-- The word that APB stores over a selection that is not fleet-owned. -/
theorem selStore_of_unowned {old : Nat} (w : Nat) (h : bitAt old 30 = false) : selStore old w = w % 2 ^ 32 - 2 ^ 30 * bits w 30 30 := by
  unfold selStore
  rw [bits_bit old, h]
  rfl

section
variable {s : State} {n : Nat} (w : Nat) (hn : n < 16384) (hr : s.zx.inReset = false) (hp : s.zx.pwr ≤ 1)
include hn hr hp

/-- A write that neither the view nor the owner forbids is stored. -/
theorem zxCtrSelWrite_stores {priv : Bool} (ho : bitAt (s.zx.ctrSel.getD n 0) 30 = false)
    (hv : priv = true ∨ s.rd ZX_SEC_BIND_TENANT ≠ 0 ∧ bits (s.zx.ctrSel.getD n 0) 29 24 = s.rd ZX_SEC_BIND_TENANT) :
    Answers (.zxCtrSelWrite n w priv) s (fun u => u.zx.ctrSel.getD n 0 = (w % 2 ^ 32) - 2 ^ 30 * bits w 30 30 ∧
      u.out = s.out ++ [.apb 0 false] ∧ u.regs = s.regs) := by
  refine ⟨(s.setSel n (selStore (s.zx.ctrSel.getD n 0) w)).emit (.apb 0 false), ?_, ?_, rfl, rfl⟩
  · change execZxCtrSelWrite n w priv s = done _
    have hd : (!priv && !(!bitAt (s.zx.ctrSel.getD n 0) 30 && decide (s.rd ZX_SEC_BIND_TENANT ≠ 0) &&
        decide (bits (s.zx.ctrSel.getD n 0) 29 24 = s.rd ZX_SEC_BIND_TENANT))) = false := by
      rcases hv with hv | ⟨h0, ht⟩
      · rw [hv]; rfl
      · simp [ho, h0, ht]
    unfold execZxCtrSelWrite
    dsimp only
    rw [if_neg (by omega), if_neg (by simp [hr]), hd, ho]
    rfl
  · rw [State.emit_zx, State.setSel_ctrSel, selStore_of_unowned w ho]

/-- A write of a fleet-owned selection is reported and stores nothing. -/
theorem zxCtrSelWrite_fleet {priv : Bool} (ho : bitAt (s.zx.ctrSel.getD n 0) 30 = true) :
    Answers (.zxCtrSelWrite n w priv) s (fun u => u.zx = s.zx ∧ u.out = s.out ++ [.apb 0 true] ∧ s.lsUp u 0xCC 1) := by
  let a := if priv then s else s.ls 0xCB
  have ha : a.zx = s.zx ∧ a.out = s.out ∧ a.rd ZX_LS_VAL_VAL 0xCC = s.rd ZX_LS_VAL_VAL 0xCC ∧ a.rd ZX_LS_CTRL_DIS = s.rd ZX_LS_CTRL_DIS := by
    dsimp only [a]
    split
    · exact ⟨rfl, rfl, rfl, rfl⟩
    · exact ⟨s.ls_zx _ _, ((ZxKept.refl s).ls).out, s.rd_ls_other 1 (by decide), s.rd_ls _ _ (by decide) (by decide)⟩
  obtain ⟨hzx, hout, hval, hdis⟩ := ha
  refine ⟨((a.ls 0xCC).irq ZX_IRQ_STS_APB).emit (.apb 0 true), ?_, ?_, ?_, ?_⟩
  · change execZxCtrSelWrite n w priv s = done _
    unfold execZxCtrSelWrite
    dsimp only
    rw [if_neg (by omega), if_neg (by simp [hr]), if_pos (by simp [ho]), ho]
    cases priv <;> rfl
  · exact (a.ls_zx _ _).trans hzx
  · exact congrArg (· ++ [Out.apb 0 true]) (((ZxKept.refl a).ls.out).trans hout)
  · exact State.lsUp_of_kept hval hdis (State.lsUp_irq (f := ZX_IRQ_STS_APB) (a.lsUp_ls _ _))

end

/-! ### The light set's stop (R70) -/

theorem zxLsCtrlWrite_stores {s : State} (v : Nat) (hr : s.zx.inReset = false) (hp : s.zx.pwr ≤ 1) (hlc : s.zx.lc ≠ 2) :
    Answers (.zxLsCtrlWrite v) s (fun u => u.rd ZX_LS_CTRL_DIS = v % 2 ∧ u.out = s.out ++ [.apb 0 false] ∧ u.zx = s.zx) := by
  refine ⟨(s.wr ZX_LS_CTRL_DIS 0 (v % 2)).emit (.apb 0 false), ?_, ?_, rfl, rfl⟩
  · change execZxLsCtrlWrite v s = done _
    unfold execZxLsCtrlWrite
    rw [if_neg (by omega), if_neg (by simp [hr]), if_neg (by simp [hlc])]
  · rw [State.rd_emit, State.rd_wr_same]
    exact Nat.mod_mod _ _

/-! ### Barrier arrivals (R75, R79) -/

/-- An arrival on a line counts, becomes the line's last arrival, and nothing leaves the device. -/
theorem State.arriveNew_arrives (s : State) (l : Nat) (pin : Bool) : s.lsUp (s.arriveNew l pin) (0x90 + l) 1 ∧
    (s.arriveNew l pin).zx.barLast.find? l = some (s.zxRc, pin) ∧ (s.arriveNew l pin).out = s.out := by
  unfold State.arriveNew
  extract_lets s₁ z full s₂
  have htrc : OnlyTrc s₂ ((List.range 8).foldl (fun s n =>
      if !full && (s.trcBuf n).recording && (s.trcBuf n).src == 2 then s.setTrc n ((s.trcBuf n).source (trec 2 s.zxRc l)) else s) s₂) :=
    (OnlyTrc.refl s₂).foldl fun _ _ h => .branch h.setTrc h
  obtain ⟨m, hm⟩ := htrc
  rw [hm]
  have hrc : s₁.zxRc = s.zxRc := congrArg (fun z => z.tb.rc) (s.ls_zx _ _)
  refine ⟨s.lsUp_ls _ _, ?_, (ZxKept.refl s).ls.out⟩
  rw [← hrc]
  exact SMap.find?_set_same _ _ _

/-- On a line that has had no arrival yet the pin and the register are not one arrival (Table 2-29). -/
theorem State.arrive_of_first {s : State} {l : Nat} (h : s.zx.barLast.find? l = none) (pin : Bool) : s.arrive l pin = s.arriveNew l pin := by
  unfold State.arrive
  rw [h]
  rfl

section
variable {s : State}

theorem barrierArrival_arrives {l : Nat} (hl : l < 16) (hon : s.zxOn = true) (h : s.zx.barLast.find? l = none) :
    Answers (.barrierArrival l) s (fun u => s.lsUp u (0x90 + l) 1 ∧ u.zx.barLast.find? l = some (s.zxRc, true) ∧ u.out = s.out) := by
  refine ⟨s.arriveNew l true, ?_, s.arriveNew_arrives l true⟩
  change execBarrierArrival l s = done _
  unfold execBarrierArrival
  rw [if_neg (by simp [hon, hl]), State.arrive_of_first h]

theorem State.inReset_of_zxOn (hon : s.zxOn = true) : s.zx.inReset = false ∧ s.zx.pwr ≤ 1 := by
  simpa [State.zxOn] using hon

theorem zxBarArriveWrite_arrives {v : Nat} {priv : Bool} (hon : s.zxOn = true) (h : s.zx.barLast.find? (v % 16) = none)
    (hv : priv = true ∨ bitAt (s.rd ZX_SEC_BIND_BAR_MASK) (v % 16) = true) :
    Answers (.zxBarArriveWrite v priv) s (fun u => s.lsUp u (0x90 + v % 16) 1 ∧ u.zx.barLast.find? (v % 16) = some (s.zxRc, false) ∧
      u.out = s.out ++ [.apb 0 false]) := by
  obtain ⟨hr, hp⟩ := State.inReset_of_zxOn hon
  obtain ⟨hup, hlast, hout⟩ := s.arriveNew_arrives (v % 16) false
  refine ⟨(s.arriveNew (v % 16) false).emit (.apb 0 false), ?_, hup, hlast, congrArg (· ++ [Out.apb 0 false]) hout⟩
  change execZxBarArriveWrite v priv s = done _
  unfold execZxBarArriveWrite
  rw [if_neg (by omega), if_neg (by simp [hr]), if_neg (by rcases hv with hv | hv <;> simp [hv]), State.arrive_of_first h]

theorem zxApbAccessInReset_refuses {addr v : Nat} {write : Bool} (hr : s.zx.inReset = true) (hp : s.zx.pwr ≤ 1) :
    Answers (.zxApbAccessInReset addr write v) s (fun u => u = s.emit (.apb 0 true)) :=
  ⟨_, congrArg done (if_pos ⟨hr, by omega⟩), rfl⟩

end

/-- Settles O7: a write that R68 and R75 allow is stored as written, one of a fleet-owned selection is reported, and an arrival is counted
before it is stamped and traced. -/
theorem zxRegisterWritesKeepTheViews : Obligations.ZxRegisterWritesKeepTheViews :=
  ⟨fun _ _ w hn hr hp ho => zxCtrSelWrite_stores w hn hr hp ho (.inl rfl),
    fun _ _ w hn hr hp ho h0 ht => zxCtrSelWrite_stores w hn hr hp ho (.inr ⟨h0, ht⟩),
    fun _ _ w _ hn hr hp ho => zxCtrSelWrite_fleet w hn hr hp ho,
    fun _ v hr hp hlc => zxLsCtrlWrite_stores v hr hp hlc,
    fun _ _ hl hon h => barrierArrival_arrives hl hon h,
    fun _ _ _ hon h hv => zxBarArriveWrite_arrives hon h hv,
    fun _ _ _ _ hr hp => zxApbAccessInReset_refuses hr hp⟩

end Sys2Proof.Machine
end

section
/-! SUPPORT. Resets of a ZX40, its power states, and the commands it holds (R53, R146, R515, R521, Table 18-7). -/

namespace Sys2Proof.Machine
open Sys2Proof

/-! ### What survives a reset (Table 18-7) -/

/-- A field that a removal of register fields takes is at its reset value. -/
theorem State.rd_dropRegs_taken (s : State) {p : Nat → Bool} {f : Fld} {i : Nat} (hp : p (f.key i) = true) :
    (s.dropRegs p).rd f i = resetOf f i := by
  have hfind : SMap.find? (s.regs.filter (fun x => !p x.1)) (f.key i) = none := by
    induction s.regs with
    | nil => rfl
    | cons e t ih =>
      by_cases he : p e.1 = true
      · rw [List.filter_cons_of_neg (by simp [he])]
        exact ih
      · have hne : e.1 ≠ f.key i := fun h => he (h ▸ hp)
        rw [List.filter_cons_of_pos (by simp [he]), SMap.find?, if_neg hne]
        exact ih
  exact congrArg (fun x => x.getD (resetOf f i)) hfind

/-- A field of a register in a list of registers has a key of theirs. -/
theorem keyOf_key_mem {rs : List Reg} {f : Fld} (i : Nat) (hlo : f.lo < 64) (hf : f.reg ∈ rs) : keyOf rs (f.key i) = true := by
  have hidx : f.key i / 64 % 256 = f.reg.ctorIdx := by
    have := Reg.ctorIdx_lt f.reg
    unfold Fld.key
    omega
  simp only [keyOf, hidx, List.any_eq_true, beq_iff_eq]
  exact ⟨_, hf, rfl⟩

theorem zxKey_key {f : Fld} (i : Nat) (hlo : f.lo < 64) (hf : f.reg ∈ zxRegs) : zxKey (f.key i) = true :=
  Bool.or_eq_true_iff.mpr (.inl (keyOf_key_mem i hlo hf))

section
variable (s : State) {keep : Nat → Bool} (lc : Nat) {f : Fld} {i : Nat}

/-- A field that a reset keeps reads as before. -/
theorem State.rd_zxFresh_kept (hk : keep (f.key i) = true) : (s.zxFresh keep lc).rd f i = s.rd f i :=
  s.rd_dropRegs (p := fun k => zxKey k && !keep k && !keyOf integrated k) (by simp [hk])

/-- A field of a ZX40 that a reset does not keep, and that does not tell how the ZX40 is integrated, is at its reset value. -/
theorem State.rd_zxFresh_lost (hlo : f.lo < 64) (hf : f.reg ∈ zxRegs) (hi : f.reg ∉ integrated) (hk : keep (f.key i) = false) :
    (s.zxFresh keep lc).rd f i = resetOf f i :=
  s.rd_dropRegs_taken (p := fun k => zxKey k && !keep k && !keyOf integrated k) (by simp [hk, zxKey_key i hlo hf, keyOf_key hlo hi])

end

/-- A warm and a local reset keep the light set. -/
theorem keepLight_ls (inc : Bool) (k : Nat) : keepLight inc (ZX_LS_VAL_VAL.key k) = true :=
  Bool.or_eq_true_iff.mpr (.inl (keyOf_key_mem k (by decide) (by decide)))

theorem keepLight_incarnation (inc : Bool) : keepLight inc (ZX_EPC_ID_INCARNATION.key 0) = inc := by
  cases inc <;> decide

/-- A reset input goes low: the part with its reset noted. -/
def State.rstDown (s : State) (kind : Nat) : State :=
  { s with zx := { s.zx with inReset := true, rstLow := s.zx.rstLow.filter (· ≠ kind) ++ [kind] } }

theorem zxColdReset_resets (s : State) : Answers (.zxColdReset true) s (fun u =>
    u.zx.inReset = true ∧ u.zx.clearing = true ∧ u.zx.lc = 0 ∧ u.zx.log = [] ∧ (∀ k, u.rd ZX_LS_VAL_VAL k = 0)) :=
  ⟨(s.rstDown 0).zxFresh (fun _ => false) 0, rfl, rfl, rfl, rfl, rfl,
    fun _ => (s.rstDown 0).rd_zxFresh_lost 0 (by decide) (by decide) (by decide) rfl⟩

theorem zxWarmReset_resets (s : State) : Answers (.zxWarmReset true) s (fun u =>
    u.zx.inReset = true ∧ u.zx.clearing = true ∧ u.zx.lc = s.zx.lc ∧ (∀ k, u.rd ZX_LS_VAL_VAL k = s.rd ZX_LS_VAL_VAL k) ∧
      u.rd ZX_EPC_ID_INCARNATION = s.rd ZX_EPC_ID_INCARNATION) :=
  ⟨(s.rstDown 1).zxFresh (keepLight true) s.zx.lc, rfl, rfl, rfl, rfl,
    fun k => (s.rstDown 1).rd_zxFresh_kept _ (keepLight_ls true k), (s.rstDown 1).rd_zxFresh_kept _ (keepLight_incarnation true)⟩

theorem zxLocalReset_resets (s : State) : Answers (.zxLocalReset true) s (fun u =>
    u.zx.inReset = true ∧ u.zx.clearing = true ∧ u.zx.lc = s.zx.lc ∧ (∀ k, u.rd ZX_LS_VAL_VAL k = s.rd ZX_LS_VAL_VAL k) ∧
      u.rd ZX_EPC_ID_INCARNATION = 0) :=
  ⟨(s.rstDown 2).zxFresh (keepLight false) s.zx.lc, rfl, rfl, rfl, rfl,
    fun k => (s.rstDown 2).rd_zxFresh_kept _ (keepLight_ls false k),
    (s.rstDown 2).rd_zxFresh_lost _ (by decide) (by decide) (by decide) (keepLight_incarnation false)⟩

/-- The release of the only reset input that is low ends the reset. -/
theorem State.zxReset_release {s : State} {kind : Nat} (h : s.zx.rstLow = [kind]) :
    s.zxReset kind false = { s with zx := { s.zx with inReset := false, rstLow := [] } } := by
  have hrest : s.zx.rstLow.filter (· ≠ kind) = [] := by rw [h]; simp
  unfold State.zxReset
  rw [hrest]
  rfl

/-! ### Power states (R521) -/

/-- A power state below Z2 is entered with isolation off and acknowledged, any other with isolation on. -/
theorem State.zxEnter_acks (s : State) (z : Nat) : (s.zxEnter z).zx.pwr = z ∧ (s.zxEnter z).zx.isoN = decide (z < 2) ∧
    (s.zxEnter z).out.getLast? = some (.pwrAck z) := ⟨rfl, rfl, List.getLast?_concat⟩

/-- Z2 and Z3 lose the epoch log. -/
theorem State.zxEnter_log {s : State} {z : Nat} (hz : z = 2 ∨ z = 3) (hp : s.zx.pwr < 2) : (s.zxEnter z).zx.log = [] := by
  rcases hz with rfl | rfl
  · simp only [State.zxEnter, hp, Nat.lt_irrefl, and_false, if_true, if_false, State.emit_zx, Nat.reduceEqDiff]
    rfl
  · simp only [State.zxEnter, Nat.reduceLT, and_false, if_true, if_false, State.emit_zx]
    rfl

section
variable {s : State} {z : Nat} (hr : s.zx.inReset = false)
include hr

theorem zxPowerRequest_on (hz : z < 2) : Answers (.zxPowerRequest z) s (fun u =>
    u.zx.pwr = z ∧ u.zx.isoN = true ∧ u.out.getLast? = some (.pwrAck z)) := by
  obtain ⟨hpwr, hiso, hack⟩ := s.zxEnter_acks z
  refine ⟨s.zxEnter z, ?_, hpwr, hiso.trans (decide_eq_true hz), hack⟩
  change execZxPowerRequest z s = done _
  unfold execZxPowerRequest
  rw [if_neg (by simp [hr]; omega), if_pos hz]

/-- With no snapshot on its way and none to begin, a request for Z2 or Z3 is honoured at once. -/
theorem zxPowerRequest_off (hz : z = 2 ∨ z = 3) (hp : s.zx.pwr < 2) (hsnap : (s.link .zx).snapTx = none)
    (hclose : s.zx.lastClose ≠ some s.zxNs) : Answers (.zxPowerRequest z) s (fun u =>
      u.zx.pwr = z ∧ u.zx.isoN = false ∧ u.out.getLast? = some (.pwrAck z) ∧ u.zx.log = []) := by
  let a : State := { s with zx := { s.zx with pwrReq := some (z, none) } }
  obtain ⟨hpwr, hiso, hack⟩ := a.zxEnter_acks z
  refine ⟨a.zxEnter z, ?_, hpwr, hiso.trans (decide_eq_false (by omega)), hack, State.zxEnter_log hz hp⟩
  have hwait : a.pwrWaits none = false := by
    change ((s.link .zx).snapTx.isSome || false) = false
    rw [hsnap]
    rfl
  have hsettle : a.pwrSettle = a.zxEnter z := by
    change (if a.pwrWaits none then a else a.zxEnter z) = _
    rw [hwait]
    rfl
  change execZxPowerRequest z s = done _
  unfold execZxPowerRequest
  rw [if_neg (by simp [hr]; omega), if_neg (by omega)]
  dsimp only
  rw [if_neg hclose]
  exact congrArg done hsettle

end

/-! ### Commands received (R146) -/

/-- A command of R474 under ORIGIN INTERNAL at the head is not refused. -/
theorem zxRefuse_of_head {k : Nat} {s : State} (h : ∀ x ∈ s.zx.caps, x.2.isInternal = true ∧ zxOpcodes.contains x.1 = true) :
    zxRefuse k s = s := by
  cases k with
  | zero => rfl
  | succ k =>
    unfold zxRefuse
    split
    · rfl
    · next op c t hcaps =>
      obtain ⟨hint, hop⟩ := h (op, c) (hcaps ▸ List.mem_cons_self)
      dsimp only at hint hop ⊢
      rw [if_neg (not_not.mpr hop), if_neg (not_not.mpr hint)]

theorem capsCommandReceive_holds {s : State} {b : Bytes} (hon : s.zxOn = true) (hlen : s.zx.caps.length < 8)
    (hint : (capOfBytes b).2.isInternal = true) (hop : zxOpcodes.contains (capOfBytes b).1 = true)
    (hall : ∀ x ∈ s.zx.caps, x.2.isInternal = true ∧ zxOpcodes.contains x.1 = true) : Answers (.capsCommandReceive b) s (fun u =>
      u.zx.caps = s.zx.caps ++ [capOfBytes b] ∧ s.lsUp u 0xAD 1) := by
  let a := (s.consume .zx 4 0).ls 0xAD
  let u : State := { a with zx := { a.zx with caps := a.zx.caps ++ [capOfBytes b] } }
  have ha : a.zx.caps = s.zx.caps := congrArg (fun z => z.caps) ((s.consume .zx 4 0).ls_zx _ _)
  have hu : u.zx.caps = s.zx.caps ++ [capOfBytes b] := congrArg (· ++ [capOfBytes b]) ha
  refine ⟨u, ?_, hu, (s.consume .zx 4 0).lsUp_ls 0xAD 1⟩
  change execCapsCommandReceive b s = done _
  unfold execCapsCommandReceive
  rw [if_neg (not_not.mpr hon)]
  dsimp only
  rw [if_neg (by rw [ha]; omega)]
  refine congrArg done (zxRefuse_of_head fun y hy => ?_)
  change y ∈ u.zx.caps at hy
  rw [hu, List.mem_append, List.mem_singleton] at hy
  rcases hy with hy | rfl
  · exact hall y hy
  · exact ⟨hint, hop⟩

/-- Settles O9: a reset drops the register fields that Table 18-7 does not keep, a power state is entered in one step once no snapshot holds
it, and a command joins those held. -/
theorem zx40ResetsPowerAndCommands : Obligations.Zx40ResetsPowerAndCommands :=
  ⟨zxColdReset_resets, zxWarmReset_resets, zxLocalReset_resets,
    fun s h => ⟨s.zxReset 0 false, rfl, State.zxReset_release h⟩,
    fun s h => ⟨s.zxReset 1 false, rfl, State.zxReset_release h⟩,
    fun s h => ⟨s.zxReset 2 false, rfl, State.zxReset_release h⟩,
    fun _ _ hz hr => zxPowerRequest_on hr hz,
    fun _ _ hz hr hp hsnap hclose => zxPowerRequest_off hr hz hp hsnap hclose,
    fun _ _ hon hlen hint hop hall => capsCommandReceive_holds hon hlen hint hop hall⟩

end Sys2Proof.Machine
end

section
/-! SUPPORT. The AXI drain of a ZX40's trace buffers (R60, R77, R94, R95). -/

namespace Sys2Proof.Machine
open Sys2Proof

/-! ### What a buffer keeps of its drain's error -/

theorem TraceBuf.settle_drainErr (b : TraceBuf) : b.settle.drainErr = b.drainErr := by
  unfold TraceBuf.settle
  split <;> rfl

theorem TraceBuf.append_drainErr (b : TraceBuf) (r : TRec) : (b.append r).drainErr = b.drainErr := by
  unfold TraceBuf.append TraceBuf.countPost
  dsimp only
  split <;> rfl

theorem TraceBuf.closeGap_drainErr (b : TraceBuf) : b.closeGap.1.drainErr = b.drainErr := by
  unfold TraceBuf.closeGap
  split
  · rfl
  · split
    · exact TraceBuf.append_drainErr _ _
    · rfl

theorem State.trcBuf_setTrc_same (s : State) (n : Nat) (b : TraceBuf) : (s.setTrc n b).trcBuf n = b := SMap.getD_set_same _ _ _ _

theorem State.gaps_zx (s : State) (n : Nat) : (s.gaps n).zx = s.zx := by
  unfold State.gaps
  split
  · rfl
  · exact s.ls_zx _ _

theorem State.trcFree_drainErr (s : State) (n k : Nat) : ((s.trcFree n k).trcBuf n).drainErr = (s.trcBuf n).drainErr := by
  let x := ({ s.trcBuf n with recs := (s.trcBuf n).recs.drop k } : TraceBuf).closeGap
  have hbuf : (s.trcFree n k).trcBuf n = x.1.settle :=
    (congrArg (fun z : Zx => z.trc.getD n {}) (State.gaps_zx _ _)).trans (s.trcBuf_setTrc_same n _)
  rw [hbuf, TraceBuf.settle_drainErr]
  exact TraceBuf.closeGap_drainErr _

/-! ### Bursts answered (R94, R95) -/

theorem takeBurst_of_none {n : Nat} {l : List Burst} (h : ∀ x ∈ l, x.buf ≠ n) : takeBurst n l = none := by
  induction l with
  | nil => rfl
  | cons b l ih =>
    rw [List.forall_mem_cons] at h
    rw [takeBurst, if_neg h.1, ih h.2]

theorem advanceDwr_of_none {n k : Nat} {s : State} (h : ∀ x ∈ s.zx.bursts, x.buf ≠ n) : advanceDwr n k s = s := by
  cases k with
  | zero => rfl
  | succ k => rw [advanceDwr, takeBurst_of_none h]

/-- The oldest burst of a buffer, answered OKAY, moves DWR past its records. -/
theorem advanceDwr_of_first {n k : Nat} {s : State} {b : Burst} {rest : List Burst} (hb : s.zx.bursts = b :: rest) (hn : b.buf = n)
    (ha : b.answer = 1) : advanceDwr n (k + 1) s = advanceDwr n k ((({ s with zx := { s.zx with bursts := rest } } : State).wr ZX_TRC_DWR_DWR n
      ((s.rd ZX_TRC_DWR_DWR n + 16 * b.count) % s.ringBytes n)).trcFree n b.count) := by
  have ht : takeBurst n s.zx.bursts = some (b, rest) := by rw [hb, takeBurst, if_pos hn]
  rw [advanceDwr, ht]
  dsimp only
  rw [if_pos ha]
  rfl

theorem State.orphanBursts_regs (s : State) (n : Nat) : (s.orphanBursts n).regs = s.regs := by
  unfold State.orphanBursts
  split <;> rfl

theorem State.orphanBursts_trc (s : State) (n : Nat) : (s.orphanBursts n).zx.trc = s.zx.trc := by
  unfold State.orphanBursts
  split <;> rfl

theorem State.orphanBursts_of_none {s : State} {n : Nat} (h : ∀ x ∈ s.zx.bursts, x.buf ≠ n) : (s.orphanBursts n).zx.bursts = s.zx.bursts := by
  unfold State.orphanBursts
  split
  · have hkeep : s.zx.bursts.filter (fun b => !(b.buf == n && b.answer != 0)) = s.zx.bursts :=
      List.filter_eq_self.mpr fun x hx => by simp [h x hx]
    change (s.zx.bursts.filter _).map _ = _
    rw [hkeep]
    exact (List.map_congr_left fun x hx => if_neg (h x hx)).trans (List.map_id' _)
  · rfl

theorem State.rd_orphanBursts (s : State) (n : Nat) (f : Fld) (i : Nat) : (s.orphanBursts n).rd f i = s.rd f i :=
  congrArg (fun m => (SMap.find? m (f.key i)).getD (resetOf f i)) (s.orphanBursts_regs n)

theorem drainBresp_okay {s : State} {i : Nat} {b : Burst} {rest : List Burst} (hb : s.zx.bursts = b :: rest) (hid : b.id = i)
    (ha : b.answer = 0) (hbuf : b.buf < 8) (hone : ∀ x ∈ rest, x.buf ≠ b.buf) (hids : ∀ x ∈ rest, x.id ≠ i) :
    Answers (.drainBresp i true) s (fun u =>
      u.rd ZX_TRC_DWR_DWR b.buf = (s.rd ZX_TRC_DWR_DWR b.buf + 16 * b.count) % s.ringBytes b.buf % 2 ^ 32 ∧ u.zx.bursts = rest) := by
  let n := b.buf
  let moved := ({ s with zx := { s.zx with bursts := rest } } : State).wr ZX_TRC_DWR_DWR n
    ((s.rd ZX_TRC_DWR_DWR n + 16 * b.count) % s.ringBytes n)
  have htraces : Traces moved (moved.trcFree n b.count) := (Traces.refl moved).trcFree
  have hnone : ∀ x ∈ (moved.trcFree n b.count).zx.bursts, x.buf ≠ n := by
    rw [htraces.bursts]
    exact hone
  refine ⟨(moved.trcFree n b.count).orphanBursts n, ?_, ?_, ?_⟩
  · change execDrainBresp i true s = done _
    have hfind : s.zx.bursts.find? (fun b => b.id == i && b.answer == 0) = some b := by
      rw [hb, List.find?_cons_of_pos (by simp [hid, ha])]
    have hset : s.zx.bursts.map (fun x => if x.id = i ∧ x.answer = 0 then { x with answer := 1 } else x) =
        { b with answer := 1 } :: rest := by
      rw [hb, List.map_cons, if_pos ⟨hid, ha⟩]
      exact congrArg _ ((List.map_congr_left fun x hx => if_neg fun h => hids x hx h.1).trans (List.map_id' _))
    unfold execDrainBresp
    rw [hfind]
    dsimp only
    rw [if_neg (by simpa [bufOk] using hbuf)]
    simp only [if_true, hset]
    refine congrArg (fun u : State => done (u.orphanBursts n)) ?_
    rw [List.length_cons, advanceDwr_of_first (b := { b with answer := 1 }) rfl rfl rfl]
    exact advanceDwr_of_none hnone
  · rw [State.rd_orphanBursts, htraces.regs _ _ (by decide) (by decide)]
    exact State.rd_wr_same _ _ _ _
  · rw [State.orphanBursts_of_none hnone, htraces.bursts]
    rfl

/-- Between s before and t after, bursts of buffer n may have been done with: light-set counter 0xBB has not counted, the TRACE interrupt
stays and so does the drain's error. -/
structure DrainKept (n : Nat) (s t : State) : Prop where
  val : t.rd ZX_LS_VAL_VAL 0xBB = s.rd ZX_LS_VAL_VAL 0xBB
  trace : s.rd ZX_IRQ_STS_TRACE = 1 → t.rd ZX_IRQ_STS_TRACE = 1
  err : (t.trcBuf n).drainErr = (s.trcBuf n).drainErr

theorem DrainKept.trans {n : Nat} {s t u : State} (h : DrainKept n s t) (hu : DrainKept n t u) : DrainKept n s u :=
  ⟨hu.val.trans h.val, fun hs => hu.trace (h.trace hs), hu.err.trans h.err⟩

theorem State.rd_gaps_val (s : State) (n : Nat) {k : Nat} (hk : k ≠ 0xBD) : (s.gaps n).rd ZX_LS_VAL_VAL k = s.rd ZX_LS_VAL_VAL k := by
  unfold State.gaps
  split
  · rfl
  · exact (State.rd_wr_otherReg _ _ (by decide) (by decide) (by decide)).trans (s.rd_ls_other n hk)

theorem DrainKept.trcFree (n : Nat) (s : State) (k : Nat) : DrainKept n s (s.trcFree n k) :=
  ⟨State.rd_gaps_val _ _ (by decide), (Traces.refl s).trcFree.irqs _ (by decide), s.trcFree_drainErr n k⟩

theorem DrainKept.advanceDwr (n k : Nat) (s : State) : DrainKept n s (advanceDwr n k s) := by
  induction k generalizing s with
  | zero => exact ⟨rfl, id, rfl⟩
  | succ k ih =>
    unfold Machine.advanceDwr
    split
    · exact ⟨rfl, id, rfl⟩
    · next b rest _ =>
      split
      · extract_lets z s₁ s₂
        have h₂ : DrainKept n s s₂ :=
          ⟨State.rd_wr_otherReg s₁ _ (by decide) (by decide) (by decide),
            fun h => (State.rd_wr_otherReg s₁ _ (by decide) (by decide) (by decide)).trans h, rfl⟩
        exact (h₂.trans (.trcFree n s₂ b.count)).trans (ih _)
      · exact ⟨rfl, id, rfl⟩

theorem drainBresp_error {s : State} {i : Nat} {b : Burst} (hb : s.zx.bursts.find? (fun b => b.id == i && b.answer == 0) = some b)
    (hbuf : b.buf < 8) : Answers (.drainBresp i false) s (fun u =>
      s.lsUp u 0xBB 1 ∧ u.rd ZX_IRQ_STS_TRACE = 1 ∧ (u.trcBuf b.buf).drainErr = true) := by
  let n := b.buf
  let a := s.ls 0xBB
  let answered : State := { a with zx := { a.zx with bursts := a.zx.bursts.map (fun x =>
    if x.id = i ∧ x.answer = 0 then { x with answer := 2 } else x) } }
  let stopped := (answered.setTrc n ({ answered.trcBuf n with drainErr := true } : TraceBuf).settle).irq ZX_IRQ_STS_TRACE
  obtain ⟨hval, htrace, herr⟩ := DrainKept.advanceDwr n stopped.zx.bursts.length stopped
  refine ⟨(advanceDwr n stopped.zx.bursts.length stopped).orphanBursts n, ?_, ?_, ?_, ?_⟩
  · change execDrainBresp i false s = done _
    unfold execDrainBresp
    rw [hb]
    dsimp only
    rw [if_neg (by simpa [bufOk] using hbuf)]
    rfl
  · exact ((State.rd_orphanBursts _ _ _ _).trans hval).trans (State.lsUp_irq (f := ZX_IRQ_STS_TRACE) (s.lsUp_ls 0xBB 1))
  · exact (State.rd_orphanBursts _ _ _ _).trans (htrace (State.rd_irq_same _))
  · have htrc := congrArg (fun m : SMap TraceBuf => (m.getD n {}).drainErr)
      (State.orphanBursts_trc (advanceDwr n stopped.zx.bursts.length stopped) n)
    refine htrc.trans (herr.trans ?_)
    change ((answered.setTrc n _).trcBuf n).drainErr = true
    rw [State.trcBuf_setTrc_same, TraceBuf.settle_drainErr]

/-! ### Bursts issued (R77, R94) -/

section
variable {s : State} {n : Nat} (hon : s.zxOn = true) (hn : n < 8) (hax : s.axiDrains n = true) (hk : s.burstCount n ≠ 0)
include hon hn hax hk

theorem drainBurstIssue_issues {i : Nat} (hq : s.anyQw = false) (hi : s.freeId = some i) : Answers (.drainBurstIssue n) s (fun u =>
    u.zx.bursts = s.zx.bursts ++ [⟨i, n, s.rd ZX_TRC_DBASE_BASE n * 4096 / s.ringBytes n * s.ringBytes n + s.issueOff n, s.burstCount n,
      s.zxNs, 0⟩] ∧
    u.out = s.out ++ [.axiWrite
      ⟨i, s.rd ZX_TRC_DBASE_BASE n * 4096 / s.ringBytes n * s.ringBytes n + s.issueOff n, s.burstCount n - 1, 4, 1, 0, 3, 1, 0⟩
      ((((s.trcBuf n).recs.filter (fun r => !r.inBurst)).take (s.burstCount n)).flatMap (fun r => leBytes 8 r.w0 ++ leBytes 8 r.w1))] ∧
    u.regs = s.regs) := by
  have he : exec (.drainBurstIssue n) s = execDrainBurstIssue n s := rfl
  unfold execDrainBurstIssue at he
  dsimp only at he
  rw [if_neg (by simp [hon, bufOk, hn, hax, hk]), hq, if_neg (by decide), hi] at he
  exact ⟨_, he, rfl, rfl, rfl⟩

theorem drainBurstIssue_held (hq : s.anyQw = true) (hb : s.zx.heldBufs.contains n = false) : Answers (.drainBurstIssue n) s (fun u =>
    u.zx.heldBufs = s.zx.heldBufs ++ [n] ∧ u.out = s.out ∧ s.lsUp u 0xBC 1) := by
  let a : State := { s with zx := { s.zx with heldBufs := s.zx.heldBufs ++ [n] } }
  refine ⟨a.ls 0xBC, ?_, congrArg (fun z => z.heldBufs) (a.ls_zx _ _), (ZxKept.refl a).ls.out, a.lsUp_ls 0xBC 1⟩
  change execDrainBurstIssue n s = done _
  unfold execDrainBurstIssue
  dsimp only
  rw [if_neg (by simp [hon, bufOk, hn, hax, hk]), if_pos hq, hb]
  rfl

end

/-- Settles O12: a burst is issued in one step, its OKAY takes it from the front of the outstanding ones, and what an error stops stays
stopped while bursts answered before are done with. -/
theorem traceDrainWritesItsRing : Obligations.TraceDrainWritesItsRing :=
  ⟨fun _ _ _ hon hn hax hk hq hi => drainBurstIssue_issues hon hn hax hk hq hi,
    fun _ _ hon hn hax hk hq hb => drainBurstIssue_held hon hn hax hk hq hb,
    fun _ _ _ _ hb hid ha hbuf hone hids => drainBresp_okay hb hid ha hbuf hone hids,
    fun _ _ _ hb hbuf => drainBresp_error hb hbuf⟩

end Sys2Proof.Machine
end

section
/-! SUPPORT. Sensors, the Grove-S vote, poison requests and quiet windows of a ZX40 (R61, R71 to R73, R76, R81, R82). -/

namespace Sys2Proof.Machine
open Sys2Proof

/-! ### Sensors (R71 to R73) -/

theorem sensorResult_held {s : State} {id raw : Nat} {w : SnsWindow} (hon : s.zxOn = true) (hw : s.zx.snsWin = some w) (ht : s.zxNs < w.endNs)
    (hid : s.snsOk id = true) (hfirst : w.results.find? id = none) : Answers (.sensorResult id raw false) s (fun u =>
      u.zx.snsWin.bind (fun x => SMap.find? x.results id) = some (false, raw % 65536) ∧ s.lsUp u 0xC3 1) := by
  let a : State := { s with zx := { s.zx with snsWin := some { w with results := SMap.set w.results id (false, raw % 65536) } } }
  refine ⟨a.ls 0xC3, ?_, ?_, a.lsUp_ls 0xC3 1⟩
  · change execSensorResult id raw false s = done _
    unfold execSensorResult
    rw [if_neg (not_not.mpr hon), hw]
    dsimp only
    rw [if_neg (by omega), if_neg (by simp [hid, hfirst])]
    rfl
  · rw [a.ls_zx]
    exact SMap.find?_set_same _ _ _

theorem sensorWindowEnd_closes {s : State} {w : SnsWindow} (hw : s.zx.snsWin = some w) (ht : w.endNs ≤ s.zxNs) :
    Answers (.sensorWindowEnd) s (fun u =>
      u.zx.snsWin = none ∧ (∀ e ∈ u.zx.log, e.epoch = w.epoch → e.sns = some ((List.range 160).map w.word))) := by
  refine ⟨s.endWindow w, ?_, rfl, ?_⟩
  · change execSensorWindowEnd s = done _
    unfold execSensorWindowEnd
    rw [hw]
    exact if_neg (by omega)
  · unfold State.endWindow
    extract_lets words late bad s₁ s₂ s₃
    have h₃ : s₃.zx = s₂.zx := by
      dsimp only [s₃]
      split <;> rfl
    intro e he hepoch
    change e ∈ s₃.zx.log at he
    rw [h₃] at he
    obtain ⟨x, -, -, rfl⟩ := State.mem_modEntry (s := s₁) he hepoch
    rfl

/-! ### The Grove-S vote (R81, R82, R270) -/

/-- The ZX_GRS_RESULT word of a vote over an entry. -/
def voteWord (e : LogEntry) : Option (Nat × Bool) → Nat
  | none => packFields [(16, 16, e.epoch)]
  | some (c, a) => packFields [(16, 16, e.epoch), (15, 1, 1), (14, 1, b2n a), (0, 8, c)]

theorem testBit_packFields (fs : List (Nat × Nat × Nat)) (i : Nat) : (packFields fs).testBit i =
    fs.any (fun f => decide (f.1 ≤ i) && (decide (i - f.1 < f.2.1) && f.2.2.testBit (i - f.1))) := by
  unfold packFields
  suffices ∀ acc : Nat, (fs.foldl (fun acc f => acc ||| ((f.2.2 % 2 ^ f.2.1) <<< f.1)) acc).testBit i = (acc.testBit i ||
      fs.any (fun f => decide (f.1 ≤ i) && (decide (i - f.1 < f.2.1) && f.2.2.testBit (i - f.1)))) by simpa using this 0
  induction fs with
  | nil => simp
  | cons f fs ih =>
    intro acc
    rw [List.foldl_cons, ih, List.any_cons, Nat.testBit_or, Nat.testBit_shiftLeft, Nat.testBit_mod_two_pow, Bool.or_assoc]

theorem bits_voteWord_valid (e : LogEntry) (v : Option (Nat × Bool)) : bits (voteWord e v) 15 15 = b2n v.isSome := by
  rw [bits_bit]
  unfold bitAt voteWord
  cases v <;> simp [testBit_packFields]

theorem bits_voteWord_epoch (e : LogEntry) (v : Option (Nat × Bool)) : bits (voteWord e v) 31 16 = e.epoch % 65536 := by
  have hbit (i : Nat) (hi : i < 16) : (voteWord e v).testBit (16 + i) = e.epoch.testBit i := by
    unfold voteWord
    cases v with
    | none => simp [testBit_packFields, hi]
    | some x =>
      have hlow : ¬ 16 + i ≤ 15 ∧ ¬ 16 + i - 15 < 1 ∧ ¬ 16 + i - 14 < 1 ∧ ¬ 16 + i < 8 := by omega
      simp [testBit_packFields, hi, hlow]
  refine Nat.eq_of_testBit_eq fun i => ?_
  rw [show 65536 = 2 ^ 16 from rfl, Nat.testBit_mod_two_pow]
  unfold bits
  rw [Nat.testBit_mod_two_pow, Nat.testBit_shiftRight]
  by_cases hi : i < 16
  · rw [hbit i hi]
  · simp [hi]

/-- The result of a vote over entry e is shown in ZX_GRS_RESULT and joins the entry. -/
def State.showVote (s : State) (e : LogEntry) (v : Option (Nat × Bool)) : State :=
  (s.setReg .ZX_GRS_RESULT 0 (voteWord e v)).modEntry e.epoch (fun x => { x with grs := some (voteWord e v) })

theorem State.rd_showVote (s : State) (e : LogEntry) (v : Option (Nat × Bool)) {f : Fld} (hf : f ∈ Reg.fields .ZX_GRS_RESULT) :
    (s.showVote e v).rd f = bits (voteWord e v) f.hi f.lo := s.rd_setReg 0 _ (by decide) (by decide) hf

theorem State.entry?_showVote {s : State} {e : LogEntry} (he : e ∈ s.zx.log) (v : Option (Nat × Bool)) :
    ((s.showVote e v).entry? e.epoch).any (fun x => x.grs.isSome) = true := by
  have hlog : (s.setReg .ZX_GRS_RESULT 0 (voteWord e v)).entry? e.epoch = s.entry? e.epoch :=
    congrArg (fun z : Zx => z.log.find? (fun x : LogEntry => x.epoch = e.epoch)) (s.setReg_zx _ _ _)
  have hsome : (s.entry? e.epoch).isSome = true := List.find?_isSome.mpr ⟨e, he, by simp⟩
  unfold State.showVote
  rw [State.entry?_modEntry _ _ (f := fun x => { x with grs := some (voteWord e v) }) (fun _ => rfl), hlog]
  obtain ⟨x, hx⟩ := Option.isSome_iff_exists.mp hsome
  rw [hx]
  rfl

/-- After the vote's result is shown there follow counts and interrupts, for an alarm its triggers, and the change of the banks that is due. -/
theorem exec_groveSVote {s : State} {e : LogEntry} (hon : s.zxOn = true)
    (he : s.zx.log.find? (fun x => x.sns.isSome && x.grs.isNone) = some e) : ∃ u, exec .groveSVote s = done u ∧
      Traces (s.showVote e (s.grsVote e)) u ∧ ∀ c, s.grsVote e = some (c, true) → u.rd ZX_IRQ_STS_ALARM = 1 := by
  have hexec : exec .groveSVote s = execGroveSVote s := rfl
  unfold execGroveSVote at hexec
  rw [if_neg (not_not.mpr hon), he] at hexec
  dsimp only at hexec
  generalize s.grsVote e = v at hexec ⊢
  have hshown := Traces.refl (s.showVote e v)
  rcases v with _ | ⟨c, _ | _⟩
  · exact ⟨(s.showVote e none).grsSwitch, hexec, hshown.grsSwitch, nofun⟩
  · exact ⟨((s.showVote e (some (c, false))).ls 0xCD).grsSwitch, hexec, hshown.ls.grsSwitch, nofun⟩
  · let a := (((s.showVote e (some (c, true))).ls 0xCD).ls 0xCE).irq ZX_IRQ_STS_ALARM
    let w := voteWord e (some (c, true))
    refine ⟨((a.zxAlarm 1 (w % 65536) 0).triggerSource 2).grsSwitch, hexec, hshown.ls.ls.irq.zxAlarm.triggerSource.grsSwitch, fun _ _ => ?_⟩
    exact (Traces.refl a).zxAlarm.triggerSource.grsSwitch.irqs ZX_IRQ_STS_ALARM (by decide) (State.rd_irq_same _)

theorem groveSVote_votes {s : State} {e : LogEntry} (hon : s.zxOn = true)
    (he : s.zx.log.find? (fun x => x.sns.isSome && x.grs.isNone) = some e) : Answers (.groveSVote) s (fun u =>
      u.rd ZX_GRS_RESULT_VALID = b2n (s.grsVote e).isSome ∧ u.rd ZX_GRS_RESULT_EPOCH_LO = e.epoch % 65536 ∧
      (u.entry? e.epoch).any (fun x => x.grs.isSome) ∧ (∀ c, s.grsVote e = some (c, true) → u.rd ZX_IRQ_STS_ALARM = 1)) := by
  obtain ⟨u, hu, htraces, halarm⟩ := exec_groveSVote hon he
  refine ⟨u, hu, ?_, ?_, ?_, halarm⟩
  · rw [htraces.regs _ _ (by decide) (by decide), State.rd_showVote _ _ _ (by decide)]
    exact bits_voteWord_valid e _
  · rw [htraces.regs _ _ (by decide) (by decide), State.rd_showVote _ _ _ (by decide)]
    exact bits_voteWord_epoch e _
  · unfold State.entry?
    rw [htraces.log]
    exact State.entry?_showVote (List.mem_of_find?_eq_some he) _

/-! ### Poison requests (R61) and quiet windows (R76) -/

theorem poisonAccept_takes {s : State} {g : List Nat} {t : List (List Nat)} (hq : s.zx.psnQ = g :: t) : Answers (.poisonAccept) s (fun u =>
    u.zx.psnQ = (if g.drop 1 = [] then t else g.drop 1 :: t) ∧ u.zx.psnStuck = false ∧ s.lsUp u 0xB7 1) := by
  let a : State := { s with zx := { s.zx with psnQ := if g.drop 1 = [] then t else g.drop 1 :: t, psnStuck := false } }
  refine ⟨a.ls 0xB7, ?_, congrArg (fun z => z.psnQ) (a.ls_zx _ _), congrArg (fun z => z.psnStuck) (a.ls_zx _ _), a.lsUp_ls 0xB7 1⟩
  change execPoisonAccept s = done _
  unfold execPoisonAccept
  rw [hq]

theorem poisonStuck_marks {s : State} {a : Nat} (hh : s.psnHead = some a) (hs : s.zx.psnStuck = false) : Answers (.poisonStuck) s (fun u =>
    u.zx.psnStuck = true ∧ u.rd ZX_IRQ_STS_ALARM = 1 ∧ u.zx.psnQ = s.zx.psnQ) := by
  let marked : State := { s with zx := { s.zx with psnStuck := true } }
  refine ⟨(marked.irq ZX_IRQ_STS_ALARM).zxAlarm 4 0 (a * 64), ?_, rfl, marked.rd_irq_same (f := ZX_IRQ_STS_ALARM), rfl⟩
  change execPoisonStuck s = done _
  unfold execPoisonStuck
  rw [hh]
  dsimp only
  rw [hs]
  rfl

theorem quietWindowEdge_drives {s : State} (hr : s.zx.inReset = false) (hp : s.zx.pwr ≤ 1) (hq : s.anyQw ≠ s.zx.quiet) :
    Answers (.quietWindowEdge) s (fun u => u.zx.quiet = s.anyQw ∧ u.out = s.out ++ [.quiet s.anyQw] ∧ u.regs = s.regs) := by
  have he : exec .quietWindowEdge s = execQuietWindowEdge s := rfl
  unfold execQuietWindowEdge at he
  dsimp only at he
  rw [if_neg (by simp [hr]; omega), if_neg hq] at he
  exact ⟨_, he, rfl, rfl, rfl⟩

/-- Settles O8: a result or a granule is taken and then counted, and what follows the word of the vote changes neither ZX_GRS_RESULT nor the
log. -/
theorem sensorsVotesPoisonAndQuietWindows : Obligations.SensorsVotesPoisonAndQuietWindows :=
  ⟨fun _ _ _ _ hon hw ht hid hfirst => sensorResult_held hon hw ht hid hfirst,
    fun _ _ hw ht => sensorWindowEnd_closes hw ht,
    fun _ _ hon he => groveSVote_votes hon he,
    fun _ _ _ hq => poisonAccept_takes hq,
    fun _ _ hh hs => poisonStuck_marks hh hs,
    fun _ hr hp hq => quietWindowEdge_drives hr hp hq⟩

end Sys2Proof.Machine
end

section
/-! SUPPORT. Region taps, trips and test mode of a ZX40 (R57, R63 to R66, R69, R179, R180). -/

namespace Sys2Proof.Machine
open Sys2Proof

/-! ### Stopped and resumed clocks (R65, R180) -/

/-- The trace buffers that record a tap close its stopped interval with their next record (R91). -/
def State.markStops (s : State) (t : Nat) : State := (List.range 8).foldl (fun (s : State) n =>
  if (s.trcBuf n).state ≠ TrcState.idle ∧ (s.trcBuf n).tap = t then s.setTrc n { s.trcBuf n with stopNext := true } else s) s

theorem State.markStops_onlyTrc (s : State) (t : Nat) : OnlyTrc s (s.markStops t) :=
  .foldl (.refl s) fun _ _ h => .branch h.setTrc h

/-- A toggle that comes in a stopped interval ends it. -/
def State.endStop (s : State) (t : Nat) : State := match (s.zxTap t).stoppedFrom with
  | none => s
  | some a => (s.markStops t).setTap t
      { s.zxTap t with intervals := (s.zxTap t).intervals ++ [(a, (s.markStops t).zxRc)], stoppedFrom := none }

theorem State.resumeTap_eq (s : State) (t : Nat) : s.resumeTap t = ((s.endStop t).setTap t
    { (s.endStop t).zxTap t with lastToggle := s.zxRc, toggleTick := s.zx.tb.ticks }).wr ZX_TAP_STS_STOPPED t 0 := rfl

theorem State.endStop_spec (s : State) (t : Nat) : ((s.endStop t).zxTap t).stoppedFrom = none ∧
    ∀ a, (s.zxTap t).stoppedFrom = some a → (a, s.zxRc) ∈ ((s.endStop t).zxTap t).intervals := by
  unfold State.endStop
  split
  · next h => exact ⟨h, fun a ha => absurd (h.symm.trans ha) nofun⟩
  · next a h =>
    rw [State.zxTap_setTap_same]
    refine ⟨rfl, fun b hb => ?_⟩
    obtain rfl : a = b := Option.some.inj (h.symm.trans hb)
    obtain ⟨m, hm⟩ := s.markStops_onlyTrc t
    have hrc : (s.markStops t).zxRc = s.zxRc := by rw [hm]; rfl
    rw [hrc]
    exact List.mem_append_right _ (List.mem_singleton_self _)

section
variable {s : State} {t : Nat} (hon : s.zxOn = true) (ht : s.tapOk t = true)
include hon ht

theorem tapLatchTimeout_marks (hl : (s.zxTap t).latchPending = true) (hs : s.stopTicks (s.zxTap t).latchTick = true) :
    Answers (.tapLatchTimeout t) s (fun u => u.rd ZX_TAP_STS_STOPPED t = 1 ∧ u.rd ZX_TAP_STS_STOP_SEEN t = 1 ∧ u.rd ZX_IRQ_STS_TAP 0 = 1 ∧
      (u.zxTap t).latchPending = false ∧ s.lsUp u 0xC2 1 ∧
      (∀ e ∈ u.zx.log, e.epoch = s.zx.lastEpoch.getD 0 → e.sns = none → e.stopped.testBit t = true)) := by
  let x : Tap := { s.zxTap t with
    latchPending := false, latchEdges := 0
    stopMark := if s.flag ZX_TAP_STS_STOPPED t then (s.zxTap t).stopMark else s.zxRc }
  let a := (s.setTap t x).modCounts (s.zx.lastEpoch.getD 0) (fun e => { e with stopped := e.stopped ||| 2 ^ t })
  let b := (a.wr ZX_TAP_STS_STOPPED t 1).wr ZX_TAP_STS_STOP_SEEN t 1
  have hzx : ((b.ls 0xC2).irq ZX_IRQ_STS_TAP).zx = a.zx := b.ls_zx _ _
  have hsts (f : Fld) (hf : f.reg = .ZX_TAP_STS) (hlo : f.lo < 64) : ((b.ls 0xC2).irq ZX_IRQ_STS_TAP).rd f t = b.rd f t :=
    (State.rd_wr_otherReg _ _ (by decide) hlo (by rw [hf]; decide)).trans (b.rd_ls _ _ hlo (by rw [hf]; decide))
  have hkept : RegsKept [.ZX_TAP_STS] s b := ((RegsKept.refl _ a).wr).wr
  refine ⟨(b.ls 0xC2).irq ZX_IRQ_STS_TAP, ?_, ?_, ?_, State.rd_irq_same _, ?_, ?_, fun e he hn hsns => ?_⟩
  · change execTapLatchTimeout t s = done _
    unfold execTapLatchTimeout
    rw [if_neg (by simp [hon, ht, hl, hs])]
    rfl
  · rw [hsts _ rfl (by decide), State.rd_wr_otherLo _ _ (by decide) (by decide) (by decide), State.rd_wr_same]
    rfl
  · rw [hsts _ rfl (by decide), State.rd_wr_same]
    rfl
  · unfold State.zxTap
    rw [hzx]
    exact congrArg Tap.latchPending (s.zxTap_setTap_same t x)
  · exact State.lsUp_irq (State.lsUp_of_kept (hkept _ _ (by decide) (by decide)) (hkept _ _ (by decide) (by decide)) (b.lsUp_ls _ _))
  · rw [hzx] at he
    obtain ⟨y, -, -, rfl⟩ := State.mem_modEntry (s := s.setTap t x) he hn
    dsimp only at hsns ⊢
    by_cases h : y.sns.isNone = true
    · rw [if_pos h]
      exact (Nat.testBit_or _ _ _).trans (by rw [Nat.testBit_two_pow_self, Bool.or_true])
    · rw [if_neg h] at hsns
      exact absurd (hsns ▸ rfl) h

theorem tapClockStopped_opens (hf : (s.zxTap t).stoppedFrom = none) (hs : s.stopTicks (s.zxTap t).toggleTick = true) :
    Answers (.tapClockStopped t) s (fun u =>
      (u.zxTap t).stoppedFrom = some (s.zxTap t).lastToggle ∧ s.counted u ZX_TB_TAP_STOP_STOPS t 1) := by
  let a := s.setTap t { s.zxTap t with stoppedFrom := some (s.zxTap t).lastToggle }
  refine ⟨a.bump ZX_TB_TAP_STOP_STOPS t, ?_, congrArg Tap.stoppedFrom (s.zxTap_setTap_same t _), a.counted_bump ZX_TB_TAP_STOP_STOPS t 1⟩
  change execTapClockStopped t s = done _
  unfold execTapClockStopped
  rw [if_neg (by simp [hon, ht, hf, hs])]

/-- The next toggle ends the stopped interval that is open, and the tap is no longer stopped. -/
theorem tapClockResumed_ends : Answers (.tapClockResumed t) s (fun u => u.rd ZX_TAP_STS_STOPPED t = 0 ∧ (u.zxTap t).stoppedFrom = none ∧
    (u.zxTap t).lastToggle = s.zxRc ∧ (∀ a, (s.zxTap t).stoppedFrom = some a → (a, s.zxRc) ∈ (u.zxTap t).intervals)) := by
  refine ⟨s.resumeTap t, ?_, ?_⟩
  · change execTapClockResumed t s = done _
    unfold execTapClockResumed
    rw [if_neg (by simp [hon, ht])]
  · obtain ⟨hnone, hint⟩ := s.endStop_spec t
    rw [s.resumeTap_eq t]
    have htap := (s.endStop t).zxTap_setTap_same t { (s.endStop t).zxTap t with lastToggle := s.zxRc, toggleTick := s.zx.tb.ticks }
    refine ⟨State.rd_wr_same _ ZX_TAP_STS_STOPPED t 0, ?_, ?_, fun a ha => ?_⟩
    · exact (congrArg Tap.stoppedFrom htap).trans hnone
    · exact congrArg Tap.lastToggle htap
    · exact (congrArg Tap.intervals htap).symm ▸ hint a ha

end

/-! ### Samples of the taps (R63, R64) -/

/-- Between s before and t after, no tap has changed. -/
def TapsKept (s t : State) : Prop := t.zx.taps = s.zx.taps

namespace TapsKept
variable {s t : State}

theorem refl (s : State) : TapsKept s s := rfl

theorem branch {c : Prop} [Decidable c] {u : State} (ht : TapsKept s t) (hu : TapsKept s u) : TapsKept s (if c then t else u) := by
  split <;> assumption

theorem zxTap (h : TapsKept s t) (k : Nat) : t.zxTap k = s.zxTap k := congrArg (fun m : SMap Tap => m.getD k {}) h

theorem foldl {α : Type} {f : State → α → State} {l : List α} (h : TapsKept s t) (hf : ∀ u x, TapsKept s u → TapsKept s (f u x)) :
    TapsKept s (l.foldl f t) := List.foldlRecOn l f h fun u hu x _ => hf u x hu

theorem wr (h : TapsKept s t) {f i v} : TapsKept s (t.wr f i v) := h

theorem bump (h : TapsKept s t) {f i n} : TapsKept s (t.bump f i n) := h

theorem ls (h : TapsKept s t) {k n} : TapsKept s (t.ls k n) := .branch h h

theorem modCounts (h : TapsKept s t) {n f} : TapsKept s (t.modCounts n f) := h

theorem lsRegion (h : TapsKept s t) {pre k n} : TapsKept s (t.lsRegion pre k n) := .branch h (.branch h.ls h.ls)

theorem setBlz (h : TapsKept s t) {u x} : TapsKept s (t.setBlz u x) := h

theorem blzCount (h : TapsKept s t) {u o} : TapsKept s (t.blzCount u o) := by
  unfold State.blzCount
  extract_lets s₁
  have h₁ : TapsKept s s₁ := .branch h.bump h
  split <;> exact h₁

theorem blzLast (h : TapsKept s t) {u o a g} : TapsKept s (t.blzLast u o a g) := .branch h h

theorem blzReport (h : TapsKept s t) {u o a g w} : TapsKept s (t.blzReport u o a g w) := .branch h (.branch h h)

theorem blzBad (h : TapsKept s t) {u b} : TapsKept s (t.blzBad u b) := h.setBlz.blzCount.blzLast.blzReport

theorem blzBeat (h : TapsKept s t) {u bs c} : TapsKept s (t.blzBeat u bs c) :=
  .branch h (.branch h (.branch h.setBlz.blzBad (.branch (.branch h.setBlz.blzBad h) (.branch h.setBlz.blzBad
    (.branch h.setBlz.blzBad (.branch h h))))))

theorem blzFeed (h : TapsKept s t) {u} : TapsKept s (t.blzFeed u) := h.blzBeat

end TapsKept

/-- After an edge the tap holds the lines sampled, cut to LINES. -/
theorem State.tapEdge_lines (s : State) (t raw : Nat) : ((s.tapEdge t raw).zxTap t).lines = raw % 2 ^ s.rd ZX_TAP_CFG_LINES t := by
  unfold State.tapEdge
  extract_lets nlines engines lines s₁ x prev latch pre late stretched s₂ keys s₃ s₄ y s₅ s₆
  have h₆ : TapsKept s₅ s₆ := (TapsKept.refl s₅).wr.lsRegion
  refine (congrArg Tap.lines (TapsKept.zxTap (s := s₅) ?_ t)).trans (congrArg Tap.lines (s₄.zxTap_setTap_same t _))
  exact .branch (.branch h₆.modCounts h₆) (.refl s₅)

theorem regionTapSample_holds {s : State} {t raw : Nat} (hon : s.zxOn = true) (ht : s.tapOk t = true) :
    Answers (.regionTapSample [(t, raw)]) s (fun u => (u.zxTap t).lines = raw % 2 ^ s.rd ZX_TAP_CFG_LINES t) := by
  have he : exec (.regionTapSample [(t, raw)]) s = execRegionTapSample [(t, raw)] s := rfl
  unfold execRegionTapSample at he
  rw [if_neg (not_not.mpr hon), List.filter_cons_of_pos (by exact ht), List.filter_nil] at he
  dsimp only [List.foldl_cons, List.foldl_nil] at he
  refine ⟨_, he, ?_⟩
  refine (congrArg Tap.lines (TapsKept.zxTap (s := s.tapEdge t raw) ?_ t)).trans (s.tapEdge_lines t raw)
  exact .foldl (.refl _) fun _ _ h => .branch h.blzFeed h

/-! ### Trips (R69, R179) and test mode (R57) -/

section
variable {s : State} (hr : s.zx.inReset = false) (hp : s.zx.pwr ≠ 3)
include hr hp

theorem stretchTrip_counts {n : Nat} (hn : n < 16) : Answers (.stretchTrip n) s (fun u => s.lsUp u (0xD0 + n) 1 ∧
    (∀ e, e = bits (s.readReg .ZX_TB_STR_MAP (n / 8)) (8 * (n % 8) + 7) (8 * (n % 8)) → bitAt e 7 = true →
      (u.zxTap (e % 128)).lastTrip = some s.zx.tb.ticks)) := by
  let e := bits (s.readReg .ZX_TB_STR_MAP (n / 8)) (8 * (n % 8) + 7) (8 * (n % 8))
  let a := s.ls (0xD0 + n)
  refine ⟨if bitAt e 7 then a.setTap (e % 128) { a.zxTap (e % 128) with lastTrip := some a.zx.tb.ticks } else a, ?_, ?_, ?_⟩
  · change execStretchTrip n s = done _
    unfold execStretchTrip
    rw [if_neg (by simp [hr, hp, hn])]
  · have hup : s.lsUp a (0xD0 + n) 1 := s.lsUp_ls _ _
    split <;> exact hup
  · rintro _ rfl hbit
    rw [if_pos hbit, State.zxTap_setTap_same]
    exact congrArg (fun z => some z.tb.ticks) (s.ls_zx _ _)

theorem droopTrip_counts {n : Nat} (hn : n < 32) : Answers (.droopTrip n) s (fun u => s.lsUp u (0xE0 + n) 1 ∧ u.zx = s.zx) := by
  refine ⟨s.ls (0xE0 + n), ?_, s.lsUp_ls _ _, s.ls_zx _ _⟩
  change execDroopTrip n s = done _
  unfold execDroopTrip
  rw [if_neg (by simp [hr, hp, hn])]

theorem testModeRequest_return (level : Bool) (hlc : s.zx.lc = 3) : Answers (.testModeRequest level) s (fun u =>
    u.zx.testMode = level ∧ u.regs = s.regs) := by
  refine ⟨{ s with zx := { s.zx with testMode := level } }, ?_, rfl, rfl⟩
  change execTestModeRequest level s = done _
  unfold execTestModeRequest
  rw [if_neg (by simp [hr, hp]), if_pos hlc]

theorem testModeRequest_denied (hlc : s.zx.lc ≠ 3) : Answers (.testModeRequest true) s (fun u =>
    u.zx.testMode = s.zx.testMode ∧ s.lsUp u 0xCB 1 ∧ u.rd ZX_IRQ_STS_APB 0 = 1) := by
  refine ⟨(s.ls 0xCB).irq ZX_IRQ_STS_APB, ?_, congrArg (fun z => z.testMode) (s.ls_zx _ _), State.lsUp_irq (s.lsUp_ls _ _), State.rd_irq_same _⟩
  change execTestModeRequest true s = done _
  unfold execTestModeRequest
  rw [if_neg (by simp [hr, hp]), if_neg hlc]
  rfl

end

/-- Settles O5: a timeout, a stop and a toggle write their own tap, nothing after a sample of one tap touches its lines, and what is counted
or raised last leaves the rest. -/
theorem tapClockEventsAreRecorded : Obligations.TapClockEventsAreRecorded :=
  ⟨fun _ _ hon ht hl hs => tapLatchTimeout_marks hon ht hl hs,
    fun _ _ hon ht hf hs => tapClockStopped_opens hon ht hf hs,
    fun _ _ hon ht => tapClockResumed_ends hon ht,
    fun _ _ _ hon ht => regionTapSample_holds hon ht,
    fun _ _ hn hr hp => stretchTrip_counts hr hp hn,
    fun _ _ hn hr hp => droopTrip_counts hr hp hn,
    fun _ level hr hp hlc => testModeRequest_return hr hp level hlc,
    fun _ hr hp hlc => testModeRequest_denied hr hp hlc⟩

end Sys2Proof.Machine
end

section
/-! SUPPORT. The trace buffers of a ZX40 (R88 to R94, Table 3-5). -/

namespace Sys2Proof.Machine
open Sys2Proof

/-! ### Records that enter an ARMED buffer (R90 to R92) -/

/-- A buffer without what records that enter it change: the records held and queued, the next slot and the GAP record kept. -/
def TraceBuf.plain (b : TraceBuf) : TraceBuf := { b with recs := [], wptr := 0, inQ := [], qGap := none, gapOpen := none }

theorem TraceBuf.state_of_plain {b b' : TraceBuf} (h : b'.plain = b.plain) : b'.state = b.state := congrArg (fun x => x.state) h

theorem TraceBuf.postCount_of_plain {b b' : TraceBuf} (h : b'.plain = b.plain) : b'.postCount = b.postCount :=
  congrArg (fun x => x.postCount) h

theorem TraceBuf.timeDone_of_plain {b b' : TraceBuf} (h : b'.plain = b.plain) : b'.timeDone = b.timeDone := congrArg (fun x => x.timeDone) h

section
variable {b : TraceBuf} (ha : b.state = .armed)
include ha

/-- An ARMED buffer takes a record behind those it holds, as it is. -/
theorem TraceBuf.append_armed (r : TRec) : b.append r = { b with recs := b.recs ++ [r], wptr := (b.wptr + 1) % 4096 } := by
  have hpost : ¬ b.state = .post := by simp [ha]
  unfold TraceBuf.append TraceBuf.countPost
  dsimp only
  rw [if_neg hpost, if_neg hpost]

theorem TraceBuf.makeRoom_plain {b' : TraceBuf} {k : Nat} (h : b.makeRoom = some (b', k)) : b'.plain = b.plain := by
  have hcount (rs : List TRec) : ({ b with recs := rs } : TraceBuf).countPost = { b with recs := rs } := if_neg (by simp [ha])
  unfold TraceBuf.makeRoom at h
  split at h
  · split at h
    · obtain ⟨rfl, -⟩ := Prod.mk.inj (Option.some.inj h)
      rfl
    · cases h
  · split at h
    · obtain ⟨rfl, -⟩ := Prod.mk.inj (Option.some.inj h)
      rw [hcount]
      rfl
    · cases h

theorem TraceBuf.put_plain (r : TRec) : (b.put r).1.plain = b.plain := by
  have hin {b' : TraceBuf} (h : b'.plain = b.plain) : (b'.append r).plain = b.plain := by
    rw [TraceBuf.append_armed ((TraceBuf.state_of_plain h).trans ha)]
    exact h
  unfold TraceBuf.put
  dsimp only
  rw [if_neg (by simp [ha])]
  split
  · exact hin rfl
  · split
    · rfl
    · split
      · exact hin rfl
      · split
        · rfl
        · split
          · next b' k hroom =>
            have hb' := TraceBuf.makeRoom_plain ha hroom
            split
            · exact hb'
            · exact hin hb'
          · rfl

theorem TraceBuf.flushQ_plain : b.flushQ.1.plain = b.plain :=
  List.foldlRecOn (motive := fun (x : TraceBuf × Nat) => x.1.plain = b.plain) _ _ rfl fun _ hx _ _ =>
    (TraceBuf.put_plain ((TraceBuf.state_of_plain hx).trans ha) _).trans hx

/-- A record that comes to a buffer which is a RING, or has room, is its last. -/
theorem TraceBuf.put_last (r : TRec) (hroom : b.ring = true ∨ b.gapOpen = none ∧ b.recs.length < 4095) :
    (b.put r).1.inQ = b.inQ ∧ (b.put r).1.recs.getLast? = some r := by
  have hin (rs : List TRec) : (({ b with recs := rs } : TraceBuf).append r).inQ = b.inQ ∧
      (({ b with recs := rs } : TraceBuf).append r).recs.getLast? = some r := by
    rw [TraceBuf.append_armed (b := { b with recs := rs }) ha]
    exact ⟨rfl, List.getLast?_concat⟩
  unfold TraceBuf.put
  dsimp only
  rw [if_neg (by simp [ha])]
  split
  · exact hin _
  · next hring =>
    obtain ⟨hgap, hlen⟩ := hroom.resolve_left hring
    rw [if_neg (by simp [hgap]), if_pos (.inl hlen)]
    exact hin b.recs

end

/-! ### The buffers of a state -/

theorem State.trcBuf_setTrc_other (s : State) {n m : Nat} (b : TraceBuf) (h : m ≠ n) : (s.setTrc n b).trcBuf m = s.trcBuf m :=
  SMap.getD_set_other _ _ _ h

theorem State.trcBuf_congr {s t : State} (h : t.zx = s.zx) (n : Nat) : t.trcBuf n = s.trcBuf n := by
  unfold State.trcBuf
  rw [h]

theorem State.trcBuf_ls (s : State) (k c n : Nat) : (s.ls k c).trcBuf n = s.trcBuf n := State.trcBuf_congr (s.ls_zx k c) n

theorem State.putTrc_zx (s : State) (n : Nat) (x : TraceBuf × Nat) : (s.putTrc n x).zx = (s.setTrc n x.1).zx := State.gaps_zx _ _

theorem State.trcBuf_putTrc_same (s : State) (n : Nat) (x : TraceBuf × Nat) : (s.putTrc n x).trcBuf n = x.1 :=
  (State.trcBuf_congr (s.putTrc_zx n x) n).trans (s.trcBuf_setTrc_same n x.1)

theorem State.trcBuf_putTrc_other (s : State) {n m : Nat} (x : TraceBuf × Nat) (h : m ≠ n) : (s.putTrc n x).trcBuf m = s.trcBuf m :=
  (State.trcBuf_congr (s.putTrc_zx n x) m).trans (s.trcBuf_setTrc_other x.1 h)

theorem State.trcBuf_zxReply (s : State) (c : Cap) (op status n : Nat) : (s.zxReply c op status).trcBuf n = s.trcBuf n :=
  s.zxReply_zx (fun z => z.trc.getD n {}) c op status

/-! ### Triggers (R89 to R91) -/

/-- Buffer n has taken its trigger: it is in POST with no record counted, or FROZEN where it records none after it. -/
structure TriggerTaken (s : State) (n : Nat) (u : State) : Prop where
  state : (u.trcBuf n).state = if (s.trcBuf n).postCount = 0 then .frozen else .post
  postDone : (u.trcBuf n).postDone = 0

theorem TriggerTaken.congr {s u v : State} {n : Nat} (h : TriggerTaken s n u) (hv : v.trcBuf n = u.trcBuf n) : TriggerTaken s n v :=
  ⟨hv ▸ h.state, hv ▸ h.postDone⟩

/-- GAP records written with a trigger are counted under another number. -/
theorem State.lsUp_putTrc_ls (s : State) (n : Nat) (x : TraceBuf × Nat) : s.lsUp ((s.putTrc n x).ls 0xBE) 0xBE 1 :=
  State.lsUp_of_kept (State.rd_gaps_val (s.setTrc n x.1) x.2 (by decide)) ((Traces.refl s).putTrc.regs _ _ (by decide) (by decide))
    (State.lsUp_ls _ 0xBE 1)

/-- An ARMED buffer takes a trigger, whatever records come in before it. -/
theorem State.trigger_armed {s : State} {n : Nat} (ha : (s.trcBuf n).state = .armed) (cause : Nat) :
    TriggerTaken s n (s.trigger n cause) ∧ ((s.trigger n cause).trcBuf n).timeDone = (s.trcBuf n).timeDone ∧
      s.lsUp (s.trigger n cause) 0xBE 1 := by
  unfold State.trigger
  dsimp only
  rw [ha]
  dsimp only
  generalize hx : (s.trcBuf n).flushQ = x
  have hflush : x.1.plain = (s.trcBuf n).plain := hx ▸ TraceBuf.flushQ_plain ha
  generalize hy : x.1.put (trec 9 s.zxRc (cause * 2 ^ 61)) = y
  have hput : y.1.plain = (s.trcBuf n).plain :=
    hy ▸ (TraceBuf.put_plain ((TraceBuf.state_of_plain hflush).trans ha) _).trans hflush
  have htime : y.1.timeDone = (s.trcBuf n).timeDone := TraceBuf.timeDone_of_plain hput
  rw [TraceBuf.postCount_of_plain hput]
  refine ⟨⟨?_, ?_⟩, ?_, ?_⟩
  · rw [State.trcBuf_ls, State.trcBuf_putTrc_same]
  · rw [State.trcBuf_ls, State.trcBuf_putTrc_same]
  · rw [State.trcBuf_ls, State.trcBuf_putTrc_same]
    exact htime
  · exact s.lsUp_putTrc_ls n _

theorem State.trcBuf_hwRequest (s : State) (buf cause n : Nat) : (s.hwRequest buf cause).trcBuf n = s.trcBuf n := by
  unfold State.hwRequest
  split
  · rfl
  · split <;> rfl

theorem State.trcBuf_trigger_other (s : State) {n m : Nat} (cause : Nat) (h : m ≠ n) : (s.trigger n cause).trcBuf m = s.trcBuf m := by
  unfold State.trigger
  extract_lets b
  split
  · rfl
  · rw [State.trcBuf_ls, State.trcBuf_putTrc_other _ _ h]
  · rw [State.trcBuf_hwRequest, State.trcBuf_setTrc_other _ _ h]

/-- A buffer that selects the source is triggered. -/
def State.triggerIf (src : Nat) (p : TraceBuf → Bool) (s : State) (n : Nat) : State :=
  if (s.trcBuf n).trigSrc = src && p (s.trcBuf n) then s.trigger n src else s

theorem State.triggerSource_eq (s : State) (src : Nat) (p : TraceBuf → Bool) :
    s.triggerSource src p = (List.range 8).foldl (State.triggerIf src p) s := rfl

theorem State.trcBuf_triggerIf_other {src : Nat} {p : TraceBuf → Bool} (s : State) {n m : Nat} (h : m ≠ n) :
    (s.triggerIf src p n).trcBuf m = s.trcBuf m := by
  unfold State.triggerIf
  split
  · exact s.trcBuf_trigger_other src h
  · rfl

theorem State.trcBuf_foldl_triggerIf_other {src : Nat} {p : TraceBuf → Bool} (s : State) {l : List Nat} {m : Nat} (h : m ∉ l) :
    (l.foldl (State.triggerIf src p) s).trcBuf m = s.trcBuf m :=
  List.foldlRecOn (motive := fun (t : State) => t.trcBuf m = s.trcBuf m) _ _ rfl fun t ht _ hn =>
    (t.trcBuf_triggerIf_other (ne_of_mem_of_not_mem hn h).symm).trans ht

/-- An ARMED buffer that selects the source takes its trigger, and the other buffers' triggers leave it alone. -/
theorem State.triggerSource_armed {s : State} {n src : Nat} {p : TraceBuf → Bool} (hn : n < 8) (ha : (s.trcBuf n).state = .armed)
    (hsrc : (s.trcBuf n).trigSrc = src) (hp : p (s.trcBuf n) = true) : TriggerTaken s n (s.triggerSource src p) := by
  obtain ⟨before, after, hsplit⟩ := List.append_of_mem (List.mem_range.mpr hn)
  have hnodup : n ∉ before ∧ n ∉ after := by
    have h := List.nodup_range (n := 8)
    rw [hsplit, List.nodup_middle, List.nodup_cons, List.mem_append, not_or] at h
    exact h.1
  let t := before.foldl (State.triggerIf src p) s
  have ht : t.trcBuf n = s.trcBuf n := s.trcBuf_foldl_triggerIf_other hnodup.1
  have hif : t.triggerIf src p n = t.trigger n src := if_pos (by rw [ht, hsrc, hp]; simp)
  obtain ⟨hstate, hdone⟩ := (State.trigger_armed (ht ▸ ha) src).1
  rw [State.triggerSource_eq, hsplit, List.foldl_append, List.foldl_cons, hif]
  exact TriggerTaken.congr ⟨ht ▸ hstate, hdone⟩ (State.trcBuf_foldl_triggerIf_other _ hnodup.2)

/-! ### ARM and RELEASE (R88, R90) -/

/-- The EPOCH record leaves an ARMED buffer as it is but for its records. -/
theorem State.epochMark_plain {s : State} {n : Nat} (ha : (s.trcBuf n).state = .armed) :
    ((s.epochMark n).trcBuf n).plain = (s.trcBuf n).plain := by
  unfold State.epochMark
  split
  · rfl
  · have hflush := TraceBuf.flushQ_plain ha
    rw [State.trcBuf_putTrc_same]
    exact (TraceBuf.put_plain ((TraceBuf.state_of_plain hflush).trans ha) _).trans hflush

theorem State.trcBuf_orphanBursts (s : State) (n m : Nat) : (s.orphanBursts n).trcBuf m = s.trcBuf m :=
  congrArg (fun t : SMap TraceBuf => t.getD m {}) (s.orphanBursts_trc n)

/-- A RING buffer in use is released at once, and nothing but buffers and bursts changes. -/
theorem State.trcRelease_ring {s : State} {n : Nat} (hu : (s.trcBuf n).state ≠ .idle) (hr : (s.trcBuf n).ring = true) :
    (s.trcRelease n).trcBuf n = (s.trcBuf n).toIdle ∧ (s.trcRelease n).regs = s.regs := by
  unfold State.trcRelease
  dsimp only
  rw [if_neg hu, if_pos hr, State.trcBuf_orphanBursts, State.trcBuf_setTrc_same]
  exact ⟨rfl, State.orphanBursts_regs _ n⟩

/-- A ring of DBASE.SIZE is of at most 1 GiB. -/
theorem State.ringBytes_bounds (s : State) (n : Nat) : 0 < s.ringBytes n ∧ s.ringBytes n ≤ 2 ^ 30 := by
  have hpow : 2 ^ min 18 (s.rd ZX_TRC_DBASE_SIZE n) ≤ 2 ^ 18 := Nat.pow_le_pow_right (by decide) (min_le_left _ _)
  have hpos := Nat.two_pow_pos (min 18 (s.rd ZX_TRC_DBASE_SIZE n))
  unfold State.ringBytes
  omega

/-! ### The clauses of O11 -/

section
variable {s : State} {n : Nat} (hon : s.zxOn = true) (hn : n < 8)
include hon hn

theorem zxOn_and_bufOk : (s.zxOn && bufOk n) = true := by simp [hon, hn, bufOk]

theorem traceArm_arms (hi : (s.trcBuf n).state = .idle) (hm : s.rd ZX_TRC_CFG_MODE n ≠ 0) (hp : s.zx.pwr = 0) : Answers (.traceArm n) s
    (fun u => (u.trcBuf n).state = .armed ∧
      (u.trcBuf n).cfg = packFields ((Reg.fields .ZX_TRC_CFG).map (fun f => (f.lo, f.width, s.rd f n))) ∧
      (u.trcBuf n).mask = s.rd ZX_TRC_MASK_MASK n ∧ u.rd ZX_TRC_DWR_DWR n = 0 ∧ u.rd ZX_TRC_DRD_DRD n = 0) := by
  let b : TraceBuf := {
    state := .armed, cfg := packFields ((Reg.fields .ZX_TRC_CFG).map (fun f => (f.lo, f.width, s.rd f n))), mask := s.rd ZX_TRC_MASK_MASK n }
  let t := ((s.setTrc n b).wr ZX_TRC_DWR_DWR n 0).wr ZX_TRC_DRD_DRD n 0
  have hb : t.trcBuf n = b := s.trcBuf_setTrc_same n b
  have hplain : ((t.epochMark n).trcBuf n).plain = b.plain := hb ▸ State.epochMark_plain (hb ▸ rfl)
  have hregs := (ZxKept.refl t).epochMark (n := n).regs
  refine ⟨t.epochMark n, ?_, congrArg TraceBuf.state hplain, congrArg TraceBuf.cfg hplain, congrArg TraceBuf.mask hplain, ?_, ?_⟩
  · change execTraceArm n s = done _
    unfold execTraceArm State.trcArm
    rw [if_pos (zxOn_and_bufOk hon hn), if_neg (by simp [hi, hm])]
    dsimp only
    rw [if_neg (by simp [hp]), if_neg (by simp [hp])]
  · rw [hregs _ _ (by decide) (by decide), State.rd_wr_otherReg _ _ (by decide) (by decide) (by decide), State.rd_wr_same]
    rfl
  · rw [hregs _ _ (by decide) (by decide), State.rd_wr_same]
    rfl

theorem traceManualTrigger_triggers (ha : (s.trcBuf n).state = .armed) : Answers (.traceManualTrigger n) s (fun u =>
    (u.trcBuf n).state = (if (s.trcBuf n).postCount = 0 then .frozen else .post) ∧ (u.trcBuf n).postDone = 0 ∧ s.lsUp u 0xBE 1) := by
  obtain ⟨⟨hstate, hdone⟩, -, hup⟩ := State.trigger_armed ha 0
  refine ⟨s.trigger n 0, ?_, hstate, hdone, hup⟩
  change execTraceManualTrigger n s = done _
  unfold execTraceManualTrigger
  rw [if_pos (zxOn_and_bufOk hon hn)]

theorem traceRelease_empties (hu : (s.trcBuf n).state ≠ .idle) (hr : (s.trcBuf n).ring = true) : Answers (.traceRelease n) s (fun u =>
    (u.trcBuf n).state = .idle ∧ (u.trcBuf n).recs = [] ∧ (u.trcBuf n).inQ = [] ∧ u.regs = s.regs) := by
  obtain ⟨hbuf, hregs⟩ := State.trcRelease_ring hu hr
  refine ⟨s.trcRelease n, ?_, hbuf ▸ rfl, hbuf ▸ rfl, hbuf ▸ rfl, hregs⟩
  change execTraceRelease n s = done _
  unfold execTraceRelease
  rw [if_pos (zxOn_and_bufOk hon hn)]

theorem traceSourceRecord_enters {r : TRec} {t : List TRec} (ha : (s.trcBuf n).state = .armed) (hg : (s.trcBuf n).gatedAt = none)
    (hq : (s.trcBuf n).inQ = r :: t)
    (hroom : (s.trcBuf n).ring = true ∨ (s.trcBuf n).gapOpen = none ∧ (s.trcBuf n).recs.length < 4095) :
    Answers (.traceSourceRecord n) s (fun u =>
      (u.trcBuf n).inQ = t ++ ((s.trcBuf n).qGap.map (fun g => gapRec 1 g.1 g.2)).toList ∧ (u.trcBuf n).recs.getLast? = some r) := by
  let b := s.trcBuf n
  let q := t ++ (b.qGap.map (fun g => gapRec 1 g.1 g.2)).toList
  have htake : b.take = ({ b with inQ := q, qGap := none } : TraceBuf).put r := by
    unfold TraceBuf.take
    simp only [b, q, hq]
    cases (s.trcBuf n).qGap <;> simp
  obtain ⟨hin, hlast⟩ := TraceBuf.put_last (b := { b with inQ := q, qGap := none }) ha r hroom
  refine ⟨s.putTrc n b.take, ?_, ?_, ?_⟩
  · change execTraceSourceRecord n s = done _
    unfold execTraceSourceRecord
    rw [zxOn_and_bufOk hon hn, if_pos (by simp [TraceBuf.recording, ha, hg])]
  · rw [State.trcBuf_putTrc_same, htake, hin]
  · rw [State.trcBuf_putTrc_same, htake, hlast]

theorem traceTimeTrigger_triggers (ha : (s.trcBuf n).state = .armed) (hsrc : (s.trcBuf n).trigSrc = 5)
    (hd : (s.trcBuf n).timeDone = false) (ht : s.rd ZX_TRC_TRIG_AT_TRIG_AT n ≤ s.zxNs) : Answers (.traceTimeTrigger n) s (fun u =>
      (u.trcBuf n).state = (if (s.trcBuf n).postCount = 0 then .frozen else .post) ∧ (u.trcBuf n).postDone = 0 ∧
      (u.trcBuf n).timeDone = true ∧ s.lsUp u 0xBE 1) := by
  let b : TraceBuf := { s.trcBuf n with timeDone := true }
  have hb : (s.setTrc n b).trcBuf n = b := s.trcBuf_setTrc_same n b
  obtain ⟨⟨hstate, hdone⟩, htime, hup⟩ := State.trigger_armed (s := s.setTrc n b) (n := n) (by rw [hb]; exact ha) 5
  rw [hb] at hstate htime
  refine ⟨(s.setTrc n b).trigger n 5, ?_, hstate, hdone, htime, hup⟩
  change execTraceTimeTrigger n s = done _
  unfold execTraceTimeTrigger
  dsimp only
  rw [if_neg (by simp [hon, bufOk, hn, ha, hsrc, hd, ht])]

theorem traceDrdWrite_stores (v : Nat) : Answers (.traceDrdWrite n v) s (fun u =>
    u.rd ZX_TRC_DRD_DRD n = v % s.ringBytes n / 16 * 16 ∧ u.zx = s.zx) := by
  refine ⟨s.wr ZX_TRC_DRD_DRD n (v % s.ringBytes n / 16 * 16), ?_, ?_, rfl⟩
  · change execTraceDrdWrite n v s = done _
    unfold execTraceDrdWrite
    rw [if_pos (zxOn_and_bufOk hon hn)]
  · obtain ⟨hpos, hle⟩ := s.ringBytes_bounds n
    have hlt : v % s.ringBytes n / 16 * 16 < 2 ^ 32 := by
      have := Nat.mod_lt v hpos
      omega
    exact (s.rd_wr_same _ _ _).trans (Nat.mod_eq_of_lt hlt)

end

theorem traceLineTrigger_triggers {s : State} {t l n : Nat} (hon : s.zxOn = true) (ht : s.tapOk t = true) (hl : l < s.rd ZX_TAP_CFG_LINES t)
    (hn : n < 8) (ha : (s.trcBuf n).state = .armed) (hsrc : (s.trcBuf n).trigSrc = 1) (htap : (s.trcBuf n).tap = t)
    (hline : (s.trcBuf n).trigLine = l) : Answers (.traceLineTrigger t l) s (fun u =>
      (u.trcBuf n).state = (if (s.trcBuf n).postCount = 0 then .frozen else .post) ∧ (u.trcBuf n).postDone = 0) := by
  obtain ⟨hstate, hdone⟩ := State.triggerSource_armed (p := fun b => b.tap = t && b.trigLine = l) hn ha hsrc (by simp [htap, hline])
  refine ⟨_, ?_, hstate, hdone⟩
  change execTraceLineTrigger t l s = done _
  unfold execTraceLineTrigger
  rw [if_pos (by simp [hon, ht, hl])]

section
variable {s : State} {c : Cap} (hc : c.isInternal = true) (hl : 2 ≤ c.params.length) (hn : c.p 1 < 8)
include hc hl hn

theorem trcTrigger_triggers (hnext : s.zxNext c 0x0510 = true) (ha : (s.trcBuf (c.p 1)).state = .armed) : Answers (.trcTrigger c) s (fun u =>
    (u.trcBuf (c.p 1)).state = (if (s.trcBuf (c.p 1)).postCount = 0 then .frozen else .post) ∧ (u.trcBuf (c.p 1)).postDone = 0 ∧
    u.zxReplied c 0x0510 S_OK []) := by
  let u := s.trigger (c.p 1) 0
  obtain ⟨hstate, hdone⟩ := (State.trigger_armed ha 0).1.congr (u.trcBuf_zxReply c 0x0510 S_OK (c.p 1))
  refine ⟨u.zxReply c 0x0510 S_OK, ?_, hstate, hdone, u.zxReply_replied c _ _ _ 0⟩
  change execTrcTrigger c s = done _
  unfold execTrcTrigger
  rw [State.zxRun_internal hc hnext hl, if_pos (show bufOk (c.p 1) = true from decide_eq_true hn)]

theorem trcRelease_empties (hnext : s.zxNext c 0x0511 = true) (hu : (s.trcBuf (c.p 1)).state ≠ .idle)
    (hr : (s.trcBuf (c.p 1)).ring = true) : Answers (.trcRelease c) s (fun u =>
      (u.trcBuf (c.p 1)).state = .idle ∧ (u.trcBuf (c.p 1)).recs = [] ∧ u.zxReplied c 0x0511 S_OK []) := by
  let u := s.trcRelease (c.p 1)
  have hbuf : (u.zxReply c 0x0511 S_OK).trcBuf (c.p 1) = (s.trcBuf (c.p 1)).toIdle :=
    (u.trcBuf_zxReply c _ _ _).trans (State.trcRelease_ring hu hr).1
  refine ⟨u.zxReply c 0x0511 S_OK, ?_, hbuf ▸ rfl, hbuf ▸ rfl, u.zxReply_replied c _ _ _ 0⟩
  change execTrcRelease c s = done _
  unfold execTrcRelease
  rw [State.zxRun_internal hc hnext hl, if_pos (show bufOk (c.p 1) = true from decide_eq_true hn)]

end

/-- Settles O11: records that enter an ARMED buffer leave it ARMED with its settings, so each trigger finds it as it was, and a reply leaves
the buffers alone. -/
theorem traceBuffersFollowTheirStates : Obligations.TraceBuffersFollowTheirStates :=
  ⟨fun _ _ hon hn hi hm hp => traceArm_arms hon hn hi hm hp,
    fun _ _ hon hn ha => traceManualTrigger_triggers hon hn ha,
    fun _ _ hon hn hu hr => traceRelease_empties hon hn hu hr,
    fun _ _ _ _ hon hn ha hg hq hroom => traceSourceRecord_enters hon hn ha hg hq hroom,
    fun _ _ hon hn ha hsrc hd ht => traceTimeTrigger_triggers hon hn ha hsrc hd ht,
    fun _ _ _ _ hon ht hl hn ha hsrc htap hline => traceLineTrigger_triggers hon ht hl hn ha hsrc htap hline,
    fun _ _ v hon hn => traceDrdWrite_stores hon hn v,
    fun _ _ hc hnext hl hn ha => trcTrigger_triggers hc hl hn hnext ha,
    fun _ _ hc hnext hl hn hu hr => trcRelease_empties hc hl hn hnext hu hr⟩

end Sys2Proof.Machine
end

section
/-! SUPPORT. The hang dump of a ZX40 (R98 to R100, Table 3-9). -/

namespace Sys2Proof.Machine
open Sys2Proof

/-! ### The length of a dump (Table 3-9) -/

@[simp] theorem length_leBytes (n v : Nat) : (leBytes n v).length = n := by
  induction n generalizing v with
  | zero => rfl
  | succ n ih => exact congrArg (· + 1) (ih _)

@[simp] theorem length_zeroBytes (n : Nat) : (zeroBytes n).length = n := List.length_replicate

@[simp] theorem length_padTo (n : Nat) (b : Bytes) : (padTo n b).length = n := by
  simp only [padTo, sliceBytes, List.drop_zero, List.length_append, List.length_take, length_zeroBytes]
  omega

theorem length_flatMap_of_const {α β : Type} {f : α → List β} {k : Nat} (hf : ∀ x, (f x).length = k) (l : List α) :
    (l.flatMap f).length = l.length * k := by
  rw [List.length_flatMap, List.map_congr_left fun x _ => hf x, List.map_const', List.sum_replicate, smul_eq_mul]

@[simp] theorem length_wordBytes (ws : List Nat) : (wordBytes ws).length = ws.length * 8 := length_flatMap_of_const (length_leBytes 8) ws

/-- However many bursts are outstanding, a dump is of 8,192 bytes. -/
theorem State.length_dumpOf (s : State) (causes : Nat) : (s.dumpOf causes).length = 8192 := by
  unfold State.dumpOf
  extract_lets l head stem bars trc axi lines eng ls
  have hhead : head.length = 64 := by simp [head]
  have hstem : stem.length = 64 := length_padTo _ _
  have hbars : bars.length = 128 := by simp [bars]
  have htrc : trc.length = 256 := (length_flatMap_of_const (fun _ => length_padTo 32 _) _).trans (by simp)
  have haxi : axi.length = 256 := length_padTo _ _
  have hlines : lines.length = 1024 := by simp [lines]
  have heng : eng.length = 4096 := by
    refine (length_flatMap_of_const (k := 32) (fun t => ?_) _).trans (by simp)
    refine (length_flatMap_of_const (k := 4) (fun e => ?_) _).trans (by simp)
    split
    · exact length_zeroBytes 4
    · exact length_leBytes 4 _
  have hls : ls.length = 2048 := by simp [ls]
  simp only [List.length_append, hhead, hstem, hbars, htrc, haxi, hlines, heng, hls, length_zeroBytes]

/-! ### What the triggers of a declaration leave alone (R91) -/

/-- A ZX40 without what a trigger changes of it: the trace buffers and the Heartwood requests that wait. -/
def Zx.untriggered (z : Zx) : Zx := { z with trc := [], hwReqs := [] }

theorem State.trigger_untriggered (s : State) (n cause : Nat) : (s.trigger n cause).zx.untriggered = s.zx.untriggered := by
  unfold State.trigger
  extract_lets b
  split
  · rfl
  · rw [State.ls_zx, State.putTrc_zx]
    rfl
  · unfold State.hwRequest
    split
    · rfl
    · split <;> rfl

theorem State.triggerSource_untriggered (s : State) (src : Nat) (p : TraceBuf → Bool) :
    (s.triggerSource src p).zx.untriggered = s.zx.untriggered :=
  List.foldlRecOn (motive := fun (t : State) => t.zx.untriggered = s.zx.untriggered) _ _ rfl fun t ht n _ => by
    split
    · exact (t.trigger_untriggered n src).trans ht
    · exact ht

theorem State.triggerSource_dump (s : State) (src : Nat) (p : TraceBuf → Bool) : (s.triggerSource src p).zx.dump = s.zx.dump :=
  congrArg (fun z => z.dump) (s.triggerSource_untriggered src p)

theorem State.triggerSource_hangOn (s : State) (src : Nat) (p : TraceBuf → Bool) : (s.triggerSource src p).zx.hangOn = s.zx.hangOn :=
  congrArg (fun z => z.hangOn) (s.triggerSource_untriggered src p)

/-! ### Declarations (R98 to R100) -/

/-- From s on, a dump under some causes has begun: it is as of s, and its CAUSE is shown. -/
structure DumpBegun (s : State) (causes : Nat) (u : State) : Prop where
  cause : u.rd ZX_HD_STS_CAUSE = causes % 256
  dump : u.zx.dump = s.dumpOf causes
  length : u.zx.dump.length = 8192

/-- With no dump held or being captured, a declaration begins one, and the causes declared before are not touched. -/
theorem State.declareHang_begins {s : State} (hd : s.zx.dump = []) (causes : Nat) :
    DumpBegun s causes (s.declareHang causes) ∧ (s.declareHang causes).zx.hangOn = s.zx.hangOn := by
  unfold State.declareHang
  rw [if_neg (not_not.mpr hd)]
  extract_lets z t
  have hdump : (t.triggerSource 4).zx.dump = s.dumpOf causes := t.triggerSource_dump 4 _
  refine ⟨⟨?_, hdump, hdump ▸ s.length_dumpOf causes⟩, t.triggerSource_hangOn 4 _⟩
  rw [(Traces.refl t).triggerSource.regs _ _ (by decide) (by decide)]
  exact State.rd_wr_same _ _ _ _

/-- The causes declared are no part of a dump. -/
theorem State.dumpOf_hangOn (s : State) (on causes : Nat) :
    ({ s with zx := { s.zx with hangOn := on } } : State).dumpOf causes = s.dumpOf causes := rfl

theorem hangCondition_begins {s : State} (hon : s.zxOn = true) (hd : s.zx.dump = [])
    (hnew : s.hangCauses - (s.hangCauses &&& s.zx.hangOn) ≠ 0) : Answers (.hangCondition) s (fun u => u.zx.hangOn = s.hangCauses ∧
      u.rd ZX_HD_STS_CAUSE = (s.hangCauses - (s.hangCauses &&& s.zx.hangOn)) % 256 ∧
      u.zx.dump = s.dumpOf (s.hangCauses - (s.hangCauses &&& s.zx.hangOn)) ∧ u.zx.dump.length = 8192) := by
  let t : State := { s with zx := { s.zx with hangOn := s.hangCauses } }
  obtain ⟨⟨hcause, hdump, hlen⟩, hhang⟩ := t.declareHang_begins hd (s.hangCauses - (s.hangCauses &&& s.zx.hangOn))
  refine ⟨_, ?_, hhang, hcause, hdump.trans (s.dumpOf_hangOn _ _), hlen⟩
  change execHangCondition s = done _
  unfold execHangCondition
  rw [if_neg (not_not.mpr hon)]
  exact congrArg done (if_neg hnew)

theorem exec_hangTake {s : State} (hon : s.zxOn = true) : exec .hangTake s = done (s.declareHang 16) := by
  change execHangTake s = _
  unfold execHangTake
  rw [if_pos hon]

theorem hangTake_begins {s : State} (hon : s.zxOn = true) (hd : s.zx.dump = []) : Answers (.hangTake) s (fun u =>
    u.rd ZX_HD_STS_CAUSE = 16 ∧ u.zx.dump = s.dumpOf 16 ∧ u.zx.dump.length = 8192) :=
  have ⟨⟨hcause, hdump, hlen⟩, _⟩ := s.declareHang_begins hd 16
  ⟨_, exec_hangTake hon, hcause, hdump, hlen⟩

/-- While a dump is held or being captured, a declaration is noted. -/
theorem hangTake_noted {s : State} (hon : s.zxOn = true) (hd : s.zx.dump ≠ []) : Answers (.hangTake) s (fun u => u.zx.dump = s.zx.dump ∧
    u.rd ZX_HD_STS_PEND = (s.rd ZX_HD_STS_PEND ||| 16) % 256 ∧ s.counted u ZX_HD_STS_MISSED 0 1) := by
  have he := exec_hangTake hon
  unfold State.declareHang at he
  rw [if_pos hd] at he
  refine ⟨_, he, rfl, State.rd_wr_same _ _ _ _, ?_⟩
  exact (State.rd_wr_otherLo _ _ (by decide) (by decide) (by decide)).trans (s.counted_bump ZX_HD_STS_MISSED 0 1)

theorem hangDeclare_begins {s : State} {c : Cap} (hc : c.isInternal = true) (hn : s.zxNext c 0x0512 = true) (hl : 1 ≤ c.params.length)
    (hd : s.zx.dump = []) : Answers (.hangDeclare c) s (fun u => u.rd ZX_HD_STS_CAUSE = 16 ∧ u.zx.dump = s.dumpOf 16 ∧
      u.zx.dump.length = 8192 ∧ u.zxReplied c 0x0512 S_OK []) := by
  let u := s.declareHang 16
  obtain ⟨⟨hcause, hdump, hlen⟩, -⟩ := s.declareHang_begins hd 16
  have hkept : (u.zxReply c 0x0512 S_OK).zx.dump = u.zx.dump := u.zxReply_zx Zx.dump c 0x0512 S_OK
  refine ⟨u.zxReply c 0x0512 S_OK, ?_, (u.rd_zxReply c _ _ _ _ _ _).trans hcause, hkept.trans hdump, hkept ▸ hlen,
    u.zxReply_replied c _ _ _ 0⟩
  change execHangDeclare c s = done _
  unfold execHangDeclare
  rw [State.zxRun_internal hc hn hl, if_pos hd]

/-! ### The dump captured, held and released (R99, R100) -/

theorem State.rd_zxAlarm (s : State) (sub detail extra : Nat) (f : Fld) (i : Nat) : (s.zxAlarm sub detail extra).rd f i = s.rd f i := rfl

theorem hangDumpTaken_holds {s : State} (hd : s.zx.dump ≠ []) (hh : s.flag ZX_HD_STS_HELD = false) : Answers (.hangDumpTaken) s (fun u =>
    u.rd ZX_HD_STS_HELD = 1 ∧ u.rd ZX_HD_STS_SENT = 0 ∧ u.rd ZX_IRQ_STS_TRACE = 1 ∧ (u.link .zx).dumpNext = some 0 ∧ s.lsUp u 0xBF 1) := by
  let held := (s.wr ZX_HD_STS_HELD 0 1).wr ZX_HD_STS_SENT 0 0
  let a := (held.irq ZX_IRQ_STS_TRACE).ls 0xBF
  let u := (a.zxAlarm 3 (a.rd ZX_HD_STS_CAUSE) 0).modLink .zx (fun l => { l with dumpNext := some 0 })
  have hu (f : Fld) (i : Nat) : u.rd f i = a.rd f i := (State.rd_modLink _ _ _ _ _).trans (a.rd_zxAlarm _ _ _ _ _)
  have hheld : RegsKept [.ZX_LS_VAL, .ZX_IRQ_STS, .ZX_GRS_STS] held a := (Traces.refl held).irq.ls.regs
  have hbefore : RegsKept [.ZX_HD_STS, .ZX_IRQ_STS] s (held.irq ZX_IRQ_STS_TRACE) := (((RegsKept.refl _ s).wr).wr).wr
  refine ⟨u, ?_, ?_, ?_, ?_, ?_, ?_⟩
  · change execHangDumpTaken s = done _
    unfold execHangDumpTaken
    rw [if_neg (by simp [hd, hh])]
  · rw [hu, hheld _ _ (by decide) (by decide), State.rd_wr_otherLo _ _ (by decide) (by decide) (by decide), State.rd_wr_same]
    rfl
  · rw [hu, hheld _ _ (by decide) (by decide), State.rd_wr_same]
    rfl
  · rw [hu, State.rd_ls _ _ _ (by decide) (by decide), State.rd_irq_same]
  · exact congrArg LinkEnd.dumpNext (State.link_modLink _ _ _)
  · rw [State.lsUp, hu]
    exact State.lsUp_of_kept (hbefore _ _ (by decide) (by decide)) (hbefore _ _ (by decide) (by decide)) (State.lsUp_ls _ 0xBF 1)

/-- No dump is held, and nothing is shown of one. -/
structure DumpReleased (u : State) : Prop where
  dump : u.zx.dump = []
  held : u.rd ZX_HD_STS_HELD = 0
  sent : u.rd ZX_HD_STS_SENT = 0
  cause : u.rd ZX_HD_STS_CAUSE = 0
  pend : u.rd ZX_HD_STS_PEND = 0

/-- A held dump that has been sent is released, and with no cause present none begins. -/
theorem State.releaseHang_releases {s : State} (hh : s.flag ZX_HD_STS_HELD = true) (hs : s.flag ZX_HD_STS_SENT = true)
    (hc : s.hangCauses = 0) : DumpReleased s.releaseHang := by
  unfold State.releaseHang
  rw [if_neg (by simp [hh, hs])]
  extract_lets z a b
  have hcleared : DumpReleased b := by
    have hother {f g : Fld} (t : State) (hf : f.lo < 64) (hg : g.lo < 64) (h : g.lo ≠ f.lo) : (t.wr f 0 0).rd g = t.rd g :=
      t.rd_wr_otherLo 0 hf hg h
    refine ⟨rfl, ?_, ?_, State.rd_wr_same _ _ _ _, ?_⟩ <;> simp only [b]
    · rw [hother _ (by decide) (by decide) (by decide), hother _ (by decide) (by decide) (by decide),
        hother _ (by decide) (by decide) (by decide)]
      exact State.rd_wr_same _ _ _ _
    · rw [hother _ (by decide) (by decide) (by decide), hother _ (by decide) (by decide) (by decide)]
      exact State.rd_wr_same _ _ _ _
    · rw [hother _ (by decide) (by decide) (by decide)]
      exact State.rd_wr_same _ _ _ _
  rwa [if_pos (show b.zx.hangOn = 0 from hc)]

section
variable {s : State} (hh : s.flag ZX_HD_STS_HELD = true) (hs : s.flag ZX_HD_STS_SENT = true) (hcauses : s.hangCauses = 0)
include hh hs hcauses

theorem hangReleaseWrite_releases (hon : s.zxOn = true) : Answers (.hangReleaseWrite) s (fun u => u.zx.dump = [] ∧
    u.rd ZX_HD_STS_HELD = 0 ∧ u.rd ZX_HD_STS_SENT = 0 ∧ u.rd ZX_HD_STS_CAUSE = 0 ∧ u.rd ZX_HD_STS_PEND = 0) := by
  obtain ⟨hdump, hheld, hsent, hcause, hpend⟩ := State.releaseHang_releases hh hs hcauses
  refine ⟨s.releaseHang, ?_, hdump, hheld, hsent, hcause, hpend⟩
  change execHangReleaseWrite s = done _
  unfold execHangReleaseWrite
  rw [if_pos hon]

theorem hangRelease_releases {c : Cap} (hc : c.isInternal = true) (hn : s.zxNext c 0x0513 = true) (hl : 1 ≤ c.params.length) :
    Answers (.hangRelease c) s (fun u => u.zx.dump = [] ∧ u.rd ZX_HD_STS_HELD = 0 ∧ u.zxReplied c 0x0513 S_OK []) := by
  let u := s.releaseHang
  have hrel : DumpReleased u := State.releaseHang_releases hh hs hcauses
  refine ⟨u.zxReply c 0x0513 S_OK, ?_, (u.zxReply_zx Zx.dump c 0x0513 S_OK).trans hrel.dump,
    (u.rd_zxReply c _ _ _ _ _ _).trans hrel.held, u.zxReply_replied c _ _ _ 0⟩
  change execHangRelease c s = done _
  unfold execHangRelease
  rw [State.zxRun_internal hc hn hl, if_pos hs]

end

/-- Settles O13: every declaration comes to one, which begins a dump or notes its causes, and what a trigger of cause 4 changes is not of
the dump. -/
theorem hangDumpsAreTakenAndReleased : Obligations.HangDumpsAreTakenAndReleased :=
  ⟨fun _ hon hd hnew => hangCondition_begins hon hd hnew,
    fun _ hon hd => hangTake_begins hon hd,
    fun _ hon hd => hangTake_noted hon hd,
    fun _ _ hc hn hl hd => hangDeclare_begins hc hn hl hd,
    fun _ hd hh => hangDumpTaken_holds hd hh,
    fun _ hon hh hs hcauses => hangReleaseWrite_releases hh hs hcauses hon,
    fun _ _ hc hn hl hh hs hcauses => hangRelease_releases hh hs hcauses hc hn hl⟩

end Sys2Proof.Machine
end

section
/-! SUPPORT. Resend passes and log acknowledgements of a ZX40 (R104, R105, R145). -/

namespace Sys2Proof.Machine
open Sys2Proof

/-! ### Resend passes (R105) -/

theorem foldl_min_le (l : List Nat) (c : Nat) : l.foldl min c ≤ c :=
  List.foldlRecOn (motive := (· ≤ c)) l min le_rfl fun _ h _ _ => (min_le_left _ _).trans h

/-- After LOG_RESEND from F a pass runs that takes in every entry from F on. -/
theorem State.resendFrom_pass (s : State) (f : Nat) :
    ∃ c g, (s.resendFrom f).zx.pass = some (c, some g) ∧ c ≤ f ∧ g ≤ f := by
  unfold State.resendFrom
  split
  · exact ⟨_, f, rfl, foldl_min_le _ _, le_rfl⟩
  · next c fl _ =>
    cases fl with
    | none => exact ⟨_, f, rfl, min_le_right _ _, le_rfl⟩
    | some g => exact ⟨_, _, rfl, min_le_right _ _, min_le_left _ _⟩

theorem State.resendFrom_log (s : State) (f : Nat) : (s.resendFrom f).zx.log = s.zx.log := by
  unfold State.resendFrom
  split <;> rfl

/-- A pass with an entry left to send goes on. -/
theorem State.endPass_of_held {s : State} {c g : Nat} {x : LogEntry} (hp : s.zx.pass = some (c, some g)) (hx : x ∈ s.zx.log)
    (hc : c ≤ x.epoch) (hg : g ≤ x.epoch) : s.endPass = s := by
  unfold State.endPass
  rw [hp]
  exact if_pos (List.any_eq_true.mpr ⟨x, hx, by simp [hc, hg]⟩)

theorem State.resendFrom_endPass_runs {s : State} {f : Nat} {x : LogEntry} (hx : x ∈ s.zx.log) (hf : f ≤ x.epoch) :
    (s.resendFrom f).endPass.zx.pass ≠ none := by
  obtain ⟨c, g, hp, hc, hg⟩ := s.resendFrom_pass f
  rw [State.endPass_of_held hp (s.resendFrom_log f ▸ hx) (hc.trans hf) (hg.trans hf), hp]
  exact Option.some_ne_none _

section
variable {s : State} {c : Cap} (hc : c.isInternal = true) (hn : s.zxNext c 0x0514 = true) (hl : 2 ≤ c.params.length)
include hc hn hl

theorem logResend_passes {e : LogEntry} (he : s.zx.log.head? = some e) (hf : e.epoch ≤ c.p 1) : Answers (.logResend c) s (fun u =>
    u.zxReplied c 0x0514 S_OK [] ∧ (∀ x ∈ s.zx.log, c.p 1 ≤ x.epoch → u.zx.pass ≠ none)) := by
  let u := (s.resendFrom (c.p 1)).endPass
  refine ⟨u.zxReply c 0x0514 S_OK, ?_, u.zxReply_replied c _ _ _ 0, fun x hx hfx => ?_⟩
  · change execLogResend c s = done _
    unfold execLogResend
    rw [State.zxRun_internal hc hn hl, he]
    dsimp only
    rw [if_neg (by simpa using hf)]
  · rw [u.zxReply_zx Zx.pass]
    exact State.resendFrom_endPass_runs hx hfx

/-- Below the oldest entry, as in an empty log, part of what is asked for is gone. -/
theorem logResend_partial (hf : ∀ e, s.zx.log.head? = some e → c.p 1 < e.epoch) : Answers (.logResend c) s (fun u =>
    u.zxReplied c 0x0514 S_PARTIAL [s.readReg .ZX_LOG_OLDEST]) := by
  refine ⟨(s.resendFrom (c.p 1)).endPass.zxReply c 0x0514 S_PARTIAL [s.readReg .ZX_LOG_OLDEST], ?_, State.zxReply_replied _ c _ _ _ 0⟩
  change execLogResend c s = done _
  unfold execLogResend
  rw [State.zxRun_internal hc hn hl]
  dsimp only
  refine congrArg done (if_pos ?_)
  split
  · rfl
  · next e he => exact decide_eq_true (hf e he)

end

/-! ### Violations at a ZX40 (R156, R157) -/

theorem State.rd_congr {s t : State} (h : t.regs = s.regs) (f : Fld) (i : Nat) : t.rd f i = s.rd f i :=
  congrArg (fun m => (SMap.find? m (f.key i)).getD (resetOf f i)) h

theorem State.countViol_regs (s : State) (e : LinkId) : (s.countViol e).regs = s.regs := by
  unfold State.countViol State.epochCounts
  split <;> rfl

/-- A retrain of a ZX40's link counts in the light set. -/
theorem State.escalate_zx_regsKept (s : State) : RegsKept [.ZX_LS_VAL] s (s.escalate .zx) := by
  have hretrain (t : State) : RegsKept [.ZX_LS_VAL] t (t.retrain .zx) := fun f i hlo hf => by
    unfold State.retrain
    split
    · exact t.rd_ls _ _ hlo (List.ne_of_not_mem_cons hf)
    · rfl
  unfold State.escalate
  dsimp only
  split
  · rw [if_neg (by simp)]
    exact hretrain _
  · exact .refl _ s

/-- A violation at a ZX40 is counted in VIOL, and of the other registers at most the light set changes. -/
theorem State.viol_zx (s : State) (row : Nat) : RegsKept [.ZX_LS_VAL] (s.bump ZX_STM_CNT_VIOL) (s.viol .zx row) := by
  let t := s.countViol .zx
  have hregs : (t.bump ZX_STM_CNT_VIOL).regs = (s.bump ZX_STM_CNT_VIOL).regs := by
    unfold State.bump State.wr
    rw [State.rd_congr (s.countViol_regs .zx)]
    dsimp only
    rw [s.countViol_regs]
  exact fun f i hlo hf => ((t.bump ZX_STM_CNT_VIOL).escalate_zx_regsKept f i hlo hf).trans (State.rd_congr hregs f i)

/-! ### Acknowledgements (R104, R145) -/

/-- A later epoch is compared with the last close. -/
theorem exec_stemAckReceive_later {s : State} {epoch l : Nat} (hlast : s.zx.lastEpoch = some l)
    (hlater : s.flag ZX_LOG_ACKED_VALID = false ∨ s.rd ZX_LOG_ACKED_EPOCH < epoch) : exec (.stemAckReceive true epoch) s =
      done (if epoch ≤ l then ((s.consume .zx 7 0).wr ZX_LOG_ACKED_VALID 0 1).wr ZX_LOG_ACKED_EPOCH 0 epoch
        else (s.consume .zx 7 0).viol .zx 13) := by
  let t := s.consume .zx 7 0
  have hnew : ¬ (t.flag ZX_LOG_ACKED_VALID = true ∧ epoch ≤ t.rd ZX_LOG_ACKED_EPOCH) := by
    change ¬ (s.flag ZX_LOG_ACKED_VALID = true ∧ epoch ≤ s.rd ZX_LOG_ACKED_EPOCH)
    rcases hlater with h | h
    · simp [h]
    · omega
  have hlast' : t.zx.lastEpoch = some l := hlast
  change execStemAckReceive true epoch s = _
  unfold execStemAckReceive
  dsimp only
  rw [if_neg (by simp), if_neg hnew, hlast']
  by_cases h : epoch ≤ l
  · rw [if_pos h, if_neg (by simpa using h)]
  · rw [if_neg h, if_pos (by simpa using h)]

section
variable {s : State} {epoch l : Nat} (hlast : s.zx.lastEpoch = some l)
  (hlater : s.flag ZX_LOG_ACKED_VALID = false ∨ s.rd ZX_LOG_ACKED_EPOCH < epoch)
include hlast hlater

theorem stemAckReceive_acknowledges (h : epoch ≤ l) : Answers (.stemAckReceive true epoch) s (fun u =>
    u.rd ZX_LOG_ACKED_VALID = 1 ∧ u.rd ZX_LOG_ACKED_EPOCH = epoch % 2 ^ 48 ∧ u.zx.log = s.zx.log) := by
  have he := exec_stemAckReceive_later hlast hlater
  rw [if_pos h] at he
  refine ⟨_, he, ?_, State.rd_wr_same _ _ _ _, rfl⟩
  rw [State.rd_wr_otherLo _ _ (by decide) (by decide) (by decide), State.rd_wr_same]
  rfl

theorem stemAckReceive_violates (h : l < epoch) : Answers (.stemAckReceive true epoch) s (fun u =>
    u.rd ZX_LOG_ACKED_EPOCH = s.rd ZX_LOG_ACKED_EPOCH ∧ s.counted u ZX_STM_CNT_VIOL 0 1) := by
  let t := s.consume .zx 7 0
  have hkept := t.viol_zx 13
  have he := exec_stemAckReceive_later hlast hlater
  rw [if_neg (Nat.not_le.mpr h)] at he
  refine ⟨_, he, ?_, ?_⟩
  · refine (hkept _ _ (by decide) (by decide)).trans ?_
    exact t.rd_wr_otherReg _ (by decide) (by decide) (by decide)
  · exact (hkept _ _ (by decide) (by decide)).trans (t.counted_bump ZX_STM_CNT_VIOL 0 1)

end

/-- Settles O14: the pass that LOG_RESEND leaves takes in every entry from its epoch on, and an acknowledgement is compared with the last close. -/
theorem epochLogResendsAndAcknowledgements : Obligations.EpochLogResendsAndAcknowledgements :=
  ⟨fun _ _ _ hc hn hl he hf => logResend_passes hc hn hl he hf,
    fun _ _ _ hc hn hl he hf => logResend_partial hc hn hl fun _ h => Option.some.inj (he.symm.trans h) ▸ hf,
    fun _ _ hc hn hl he => logResend_partial hc hn hl fun _ h => absurd h (by simp [he]),
    fun _ _ _ hlast h hlater => stemAckReceive_acknowledges hlast hlater h,
    fun _ _ _ hlast h hlater => stemAckReceive_violates hlast hlater h⟩

end Sys2Proof.Machine
end

section
/-! SUPPORT. A queue's words, its held words and its counters under push, pop, cancel and clear (R109 to R119). -/

namespace Sys2Proof.Machine
open Sys2Proof

@[simp] theorem State.queue_setQueue (s : State) (k : Nat) (h : QShape) (q : Queue) : (s.setQueue k q).queue k h = q := by
  simp [State.queue]

/-! ### A queue by itself -/

/-- A queue as the write edge of a push leaves it: a single-clock queue has none of its own (R120). -/
def Queue.atWrite (q : Queue) : Queue := if q.dual then q.writeEdge else q

/-- A queue as the read edge of a pop leaves it. -/
def Queue.atRead (q : Queue) : Queue := if q.dual then q.readEdge else q

/-- A write edge frees slots that cross back, and moves nothing else but its own count (R121). -/
theorem Queue.atWrite_eq (q : Queue) : q.atWrite = { q with wEdge := q.atWrite.wEdge, freeing := q.atWrite.freeing } := by
  unfold Queue.atWrite
  split <;> rfl

theorem Queue.atRead_eq (q : Queue) : q.atRead = { q with rEdge := q.atRead.rEdge } := by
  unfold Queue.atRead
  split <;> rfl

section
variable (q : Queue)

@[simp] theorem Queue.atWrite_packet : q.atWrite.packet = q.packet := by rw [q.atWrite_eq]
@[simp] theorem Queue.atWrite_drop : q.atWrite.drop = q.drop := by rw [q.atWrite_eq]
@[simp] theorem Queue.atWrite_cap : q.atWrite.cap = q.cap := by rw [q.atWrite_eq]
@[simp] theorem Queue.atWrite_words : q.atWrite.words = q.words := by rw [q.atWrite_eq]
@[simp] theorem Queue.atWrite_open : q.atWrite.open_ = q.open_ := by rw [q.atWrite_eq]
@[simp] theorem Queue.atWrite_held : q.atWrite.held = q.held := by rw [q.atWrite_eq]
@[simp] theorem Queue.atWrite_dropping : q.atWrite.dropping = q.dropping := by rw [q.atWrite_eq]
@[simp] theorem Queue.atWrite_cancelNext : q.atWrite.cancelNext = q.cancelNext := by rw [q.atWrite_eq]
@[simp] theorem Queue.atWrite_cancels : q.atWrite.cancels = q.cancels := by rw [q.atWrite_eq]
@[simp] theorem Queue.atWrite_overruns : q.atWrite.overruns = q.overruns := by rw [q.atWrite_eq]

@[simp] theorem Queue.atRead_packet : q.atRead.packet = q.packet := by rw [q.atRead_eq]
@[simp] theorem Queue.atRead_words : q.atRead.words = q.words := by rw [q.atRead_eq]
@[simp] theorem Queue.atRead_held : q.atRead.held = q.held := by rw [q.atRead_eq]
@[simp] theorem Queue.atRead_lastPop : q.atRead.lastPop = q.lastPop := by rw [q.atRead_eq]
@[simp] theorem Queue.atRead_underruns : q.atRead.underruns = q.underruns := by rw [q.atRead_eq]
@[simp] theorem Queue.atRead_parityErrs : q.atRead.parityErrs = q.parityErrs := by rw [q.atRead_eq]

end

theorem Queue.afterReset_of_noCancel {q : Queue} (h : q.cancelNext = false) : q.afterReset = q := by
  simp [Queue.afterReset, h]

/-! What becomes of a word presented while no drop is in progress -/

section
variable {q : Queue} {w : QPush} (hdrop : q.dropping = false)
include hdrop

/-- A cancel strobe discards the open packet (R118). -/
theorem Queue.judge_cancel (hc : w.cancel = true) (hp : q.packet = true) : q.judge w = .refuse (q.cancel 1) false := by
  simp [Queue.judge, hdrop, hc, hp]

/-- A word that leaves the open packet below the capacity finds a free slot. -/
theorem Queue.judge_room (hc : w.cancel = false) (hfill : q.packet = true → q.open_.length + 1 ≠ q.cap) (hroom : q.occupied < q.cap) :
    q.judge w = .write := by
  have hn : ¬ (q.packet = true ∧ q.open_.length + 1 = q.cap) := fun h => hfill h.1 h.2
  simp [Queue.judge, hdrop, hc, hn, hroom]

/-- A plain queue of a drop producer loses the word (R113). -/
theorem Queue.judge_full_drop (hc : w.cancel = false) (hp : q.packet = false) (hfull : q.cap ≤ q.occupied) (hd : q.drop = true) :
    q.judge w = .refuse { q with overruns := min 0xFFFFFFFF (q.overruns + 1) } false := by
  simp [Queue.judge, hdrop, hc, hp, Nat.not_lt.mpr hfull, hd]

/-- The stall producer of a plain queue holds the word (R113). -/
theorem Queue.judge_full_stall (hc : w.cancel = false) (hp : q.packet = false) (hfull : q.cap ≤ q.occupied) (hd : q.drop = false) :
    q.judge w = .hold := by
  simp [Queue.judge, hdrop, hc, hp, Nat.not_lt.mpr hfull, hd]

end

theorem Queue.store_plain {q : Queue} (hp : q.packet = false) (w : QWord) :
    q.store w = { q with words := q.words ++ [{ word := w, stamp := q.rEdge }] } := by
  simp [Queue.store, hp]

theorem Queue.store_last {q : Queue} {w : QWord} (hp : q.packet = true) (hl : w.last = true) :
    q.store w = { q with words := q.words ++ (q.open_ ++ [w]).map (fun x => ({ word := x, stamp := q.rEdge } : QSlot)), open_ := [] } := by
  simp [Queue.store, hp, hl]

theorem Queue.pop_empty {q : Queue} (h : q.visible = []) :
    q.pop = (false, { q with underrun := true, underruns := min 0xFFFF (q.underruns + 1) }) := by
  simp [Queue.pop, h]

/-- The head word with its parity right is popped as stored (R109, R110). -/
theorem Queue.pop_good {q : Queue} {sl : QSlot} {t : List QSlot} (h : q.visible = sl :: t) (hp : sl.word.p = sl.word.par q.packet) :
    q.pop = (false, { q with words := q.words.drop 1, lastPop := sl.word, freeing := if q.dual then q.freeing ++ [q.wEdge] else q.freeing }) := by
  simp [Queue.pop, h, ← hp]

/-! ### A word presented -/

/-- The write port may change P and X of a word, and nothing else of it (R109, R110). -/
theorem State.writePort_word (s : State) (k : Nat) (q : Queue) (w : QWord) :
    (s.writePort k q w).1.data = w.data ∧ (s.writePort k q w).1.last = w.last := by
  unfold State.writePort
  dsimp only
  split
  · exact ⟨rfl, rfl⟩
  · split
    · exact ⟨rfl, rfl⟩
    · split
      · exact ⟨rfl, rfl⟩
      · split <;> exact ⟨rfl, rfl⟩

section
variable {s : State} {k : Nat} {q : Queue} {w : QPush} (hn : q.cancelNext = false)
include hn

theorem State.pushWord_hold (h : q.judge w = .hold) : s.pushWord k q w = (true, s.setQueue k q) := by
  simp [State.pushWord, Queue.afterReset_of_noCancel hn, h]

theorem State.pushWord_refuse {q' : Queue} (h : q.judge w = .refuse q' false) : s.pushWord k q w = (false, s.setQueue k q') := by
  simp [State.pushWord, Queue.afterReset_of_noCancel hn, h]

theorem State.pushWord_write (h : q.judge w = .write) :
    s.pushWord k q w = (false, (s.writePort k q w.word).2.setQueue k (q.store (s.writePort k q w.word).1)) := by
  simp [State.pushWord, Queue.afterReset_of_noCancel hn, h]

end

/-- A producer presents the oldest word it holds, and goes on holding it if it has to wait. -/
theorem State.pushFirst_cons {s : State} {k : Nat} {h : QShape} {w : QPush} {l : List QPush} (hheld : (s.queue k h).held = w :: l)
    (hn : (s.queue k h).cancelNext = false) : s.pushFirst k h =
      if (s.pushWord k { s.queue k h with held := l } w).1 then s.setQueue k { s.queue k h with held := w :: l }
      else (s.pushWord k { s.queue k h with held := l } w).2 := by
  unfold State.pushFirst
  dsimp only
  rw [hheld, Queue.afterReset_of_noCancel hn]

theorem State.pushHeld_nil {s : State} {k : Nat} {h : QShape} (hheld : (s.queue k h).held = []) : s.pushHeld k h = s := by
  unfold State.pushHeld
  rw [hheld]
  rfl

section
variable {s : State} {k : Nat} {h : QShape} (hheld : (s.queue k h).held = [])
include hheld

/-- A word presented to a producer that holds nothing is the one it pushes next, at the write edge of the push. -/
theorem State.present_eq_pushFirst (w : QPush) :
    ∃ t : State, s.present k h w = (t.setQueue k { (s.queue k h).atWrite with held := [w] }).pushFirst k h := by
  generalize hq : s.queue k h = q at hheld
  cases hd : q.dual with
  | true =>
    refine ⟨s.setQueue k { q with held := [w] }, ?_⟩
    simp [State.present, State.queueEdge, Queue.atWrite, Queue.writeEdge, hq, hd, hheld]
  | false =>
    refine ⟨s, ?_⟩
    simp [State.present, State.pushHeld, Queue.atWrite, hq, hd, hheld]

variable (hn : (s.queue k h).cancelNext = false)
include hn

/-- With no cancel pending besides, the word is pushed into the queue as the write edge leaves it, or held. -/
theorem State.present_eq (w : QPush) : ∃ t : State, s.present k h w =
    if (t.pushWord k (s.queue k h).atWrite w).1 then t.setQueue k { (s.queue k h).atWrite with held := [w] }
    else (t.pushWord k (s.queue k h).atWrite w).2 := by
  obtain ⟨t, ht⟩ := State.present_eq_pushFirst hheld w
  have hq := t.queue_setQueue k h { (s.queue k h).atWrite with held := [w] }
  have hback : { (s.queue k h).atWrite with held := [] } = (s.queue k h).atWrite := by
    rw [← hheld, ← Queue.atWrite_held]
  refine ⟨t.setQueue k { (s.queue k h).atWrite with held := [w] }, ?_⟩
  rw [ht, State.pushFirst_cons (l := []) (by rw [hq]) (by rw [hq]; simpa using hn), hq]
  simp only [hback]

theorem State.present_write {w : QPush} (hj : (s.queue k h).atWrite.judge w = .write) : ∃ v : QWord,
    v.data = w.word.data ∧ v.last = w.word.last ∧ (s.present k h w).queue k h = (s.queue k h).atWrite.store v := by
  obtain ⟨t, ht⟩ := State.present_eq hheld hn w
  obtain ⟨hdata, hlast⟩ := t.writePort_word k (s.queue k h).atWrite w.word
  refine ⟨_, hdata, hlast, ?_⟩
  rw [ht, State.pushWord_write (by simpa using hn) hj]
  simp

theorem State.present_refuse {w : QPush} {q' : Queue} (hj : (s.queue k h).atWrite.judge w = .refuse q' false) :
    (s.present k h w).queue k h = q' := by
  obtain ⟨t, ht⟩ := State.present_eq hheld hn w
  rw [ht, State.pushWord_refuse (by simpa using hn) hj]
  simp

theorem State.present_hold {w : QPush} (hj : (s.queue k h).atWrite.judge w = .hold) :
    (s.present k h w).queue k h = { (s.queue k h).atWrite with held := [w] } := by
  obtain ⟨t, ht⟩ := State.present_eq hheld hn w
  rw [ht, State.pushWord_hold (by simpa using hn) hj]
  simp

end

/-! ### Words held and the words popped

A push of a word that was held leaves the last word popped and the underruns as they are. -/

/-- What the pops have left in a queue: UNDERRUN, its count and the word last popped (R112). -/
def Queue.popped (q : Queue) : Bool × Nat × QWord := (q.underrun, q.underruns, q.lastPop)

theorem Queue.afterReset_popped (q : Queue) : q.afterReset.popped = q.popped := by
  unfold Queue.afterReset
  split
  · rfl
  · split <;> rfl

theorem Queue.store_popped (q : Queue) (w : QWord) : (q.store w).popped = q.popped := by
  unfold Queue.store
  split
  · rfl
  · split <;> rfl

theorem Queue.judge_popped {q q' : Queue} {w : QPush} {abort : Bool} (h : q.judge w = .refuse q' abort) : q'.popped = q.popped := by
  unfold Queue.judge at h
  dsimp only at h
  split at h
  · cases h; rfl
  split at h
  · cases h
    split <;> rfl
  split at h
  · cases h; rfl
  split at h
  · cases h
  split at h
  · cases h
  split at h <;> cases h <;> rfl

section
variable (s : State) (k : Nat) (h : QShape)

theorem State.pushWord_popped (q : Queue) (w : QPush) : ((s.pushWord k q w).2.queue k h).popped = q.popped := by
  rw [← q.afterReset_popped]
  unfold State.pushWord
  dsimp only
  split
  · rw [State.queue_setQueue]
  · next q' abort hj =>
    have hq : ((s.setQueue k q').queue k h).popped = q.afterReset.popped := by
      rw [State.queue_setQueue, Queue.judge_popped hj]
    split
    · exact hq
    · exact hq
  · rw [State.queue_setQueue, Queue.store_popped]

theorem State.pushFirst_popped : ((s.pushFirst k h).queue k h).popped = (s.queue k h).popped := by
  unfold State.pushFirst
  dsimp only
  split
  · rfl
  · split
    · rw [State.queue_setQueue]
      exact Queue.afterReset_popped _
    · exact s.pushWord_popped k h _ _

theorem State.pushHeld_popped : ((s.pushHeld k h).queue k h).popped = (s.queue k h).popped := by
  unfold State.pushHeld
  generalize (s.queue k h).held = l
  induction l generalizing s with
  | nil => rfl
  | cons _ l ih => exact (ih _).trans (s.pushFirst_popped k h)

end

/-! ### The commands of a queue, from the state its clock edges leave -/

section
variable {s : State} {k : Nat} {h : QShape} (hheld : (s.queue k h).held = []) (hn : (s.queue k h).cancelNext = false)
  (hdrop : (s.queue k h).dropping = false)
include hheld hn hdrop

section
variable (hp : (s.queue k h).packet = false) (w : QWord)
include hp

theorem State.present_plain_room (hroom : (s.queue k h).atWrite.occupied < (s.queue k h).cap) :
    ((s.present k h { word := w }).queue k h).words.map (fun x => x.word.data) =
      (s.queue k h).words.map (fun x => x.word.data) ++ [w.data] := by
  have hj := Queue.judge_room (q := (s.queue k h).atWrite) (w := { word := w }) (by simpa using hdrop) rfl (by simp [hp]) (by simpa using hroom)
  obtain ⟨v, hdata, -, hu⟩ := State.present_write hheld hn hj
  rw [hu, Queue.store_plain (by simpa using hp)]
  simp [hdata]

theorem State.present_plain_full_drop (hfull : (s.queue k h).cap ≤ (s.queue k h).atWrite.occupied) (hd : (s.queue k h).drop = true) :
    ((s.present k h { word := w }).queue k h).words = (s.queue k h).words ∧
      ((s.present k h { word := w }).queue k h).overruns = min 0xFFFFFFFF ((s.queue k h).overruns + 1) := by
  have hj := Queue.judge_full_drop (q := (s.queue k h).atWrite) (w := { word := w }) (by simpa using hdrop) rfl (by simpa using hp)
    (by simpa using hfull) (by simpa using hd)
  rw [State.present_refuse hheld hn hj]
  simp

theorem State.present_plain_full_stall (hfull : (s.queue k h).cap ≤ (s.queue k h).atWrite.occupied) (hd : (s.queue k h).drop = false) :
    ((s.present k h { word := w }).queue k h).words = (s.queue k h).words ∧
      ((s.present k h { word := w }).queue k h).held = [{ word := w }] := by
  have hj := Queue.judge_full_stall (q := (s.queue k h).atWrite) (w := { word := w }) (by simpa using hdrop) rfl (by simpa using hp)
    (by simpa using hfull) (by simpa using hd)
  rw [State.present_hold hheld hn hj]
  simp

end

section
variable (hp : (s.queue k h).packet = true)
include hp

/-- The LAST word of a packet commits the packet, behind the words committed before (R115). -/
theorem State.present_packet_last {w : QWord} (hl : w.last = true) (hfill : (s.queue k h).open_.length + 1 ≠ (s.queue k h).cap)
    (hroom : (s.queue k h).atWrite.occupied < (s.queue k h).cap) :
    ((s.present k h { word := w }).queue k h).words.map (fun x => x.word.data) =
      (s.queue k h).words.map (fun x => x.word.data) ++ (s.queue k h).open_.map (fun x => x.data) ++ [w.data] ∧
      ((s.present k h { word := w }).queue k h).open_ = [] := by
  have hj := Queue.judge_room (q := (s.queue k h).atWrite) (w := { word := w }) (by simpa using hdrop) rfl (by simpa using fun _ => hfill)
    (by simpa using hroom)
  obtain ⟨v, hdata, hlast, hu⟩ := State.present_write hheld hn hj
  rw [hu, Queue.store_last (by simpa using hp) (hlast.trans hl)]
  simp [hdata]

theorem State.present_cancel (w : QWord) :
    ((s.present k h { word := w, cancel := true }).queue k h).open_ = [] ∧
      ((s.present k h { word := w, cancel := true }).queue k h).words = (s.queue k h).words ∧
      ((s.present k h { word := w, cancel := true }).queue k h).cancels = min 0xFFFF ((s.queue k h).cancels + 1) := by
  have hj := Queue.judge_cancel (q := (s.queue k h).atWrite) (w := { word := w, cancel := true }) (by simpa using hdrop) rfl (by simpa using hp)
  rw [State.present_refuse hheld hn hj]
  simp [Queue.cancel]

end
end

section
variable {s : State} {k : Nat} {h : QShape} {we : List Nat} {re : Nat} {q : Queue} (hq : (s.queueEdges k h we re).queue k h = q)
include hq

/-- A pop whose word passes its parity check ends, in a single-clock queue, with the words held being pushed. -/
theorem exec_queuePop_good {r : Queue} (hr : q.atRead.pop = (false, r)) : exec (.queuePop k h we re) s =
    done (if q.dual then (s.queueEdges k h we re).setQueue k r else ((s.queueEdges k h we re).setQueue k r).pushHeld k h) := by
  have hr' : (if q.dual then q.readEdge else q).pop = (false, r) := hr
  change execQueuePop k h we re s = _
  unfold execQueuePop
  dsimp only
  rw [hq, hr']
  simp only [Bool.false_eq_true, false_and, if_false]

theorem queuePop_head {sl : QSlot} {t : List QSlot} (hheld : q.held = []) (hv : q.atRead.visible = sl :: t)
    (hp : sl.word.p = sl.word.par q.packet) : Answers (.queuePop k h we re) s (fun u =>
      (u.queue k h).lastPop = sl.word ∧ (u.queue k h).words = q.words.drop 1 ∧ (u.queue k h).parityErrs = q.parityErrs) := by
  have hr := Queue.pop_good hv (by simpa using hp)
  refine ⟨_, exec_queuePop_good hq hr, ?_⟩
  rw [State.pushHeld_nil (by simpa using hheld), ite_self]
  simp

/-- What a pop has left outlasts the pushes of words held that follow it. -/
theorem queuePop_popped {r : Queue} (hr : q.atRead.pop = (false, r)) :
    Answers (.queuePop k h we re) s (fun u => (u.queue k h).popped = r.popped) := by
  refine ⟨_, exec_queuePop_good hq hr, ?_⟩
  split
  · rw [State.queue_setQueue]
  · rw [State.pushHeld_popped, State.queue_setQueue]

theorem queuePop_underrun (hv : q.atRead.visible = []) : Answers (.queuePop k h we re) s (fun u =>
    (u.queue k h).underrun = true ∧ (u.queue k h).underruns = min 0xFFFF (q.underruns + 1) ∧ (u.queue k h).lastPop = q.lastPop) := by
  obtain ⟨u, hu, hpopped⟩ := queuePop_popped hq (Queue.pop_empty hv)
  refine ⟨u, hu, ?_⟩
  simpa [Queue.popped] using hpopped

end

/-- Clearing the counters keeps the words (Table 4-6). -/
theorem queueCntClr_clears {s : State} {k : Nat} (h : QShape) {q : Queue} (hq : s.queues.find? k = some q) :
    Answers (.queueCntClr k) s (fun u => (u.queue k h).words = q.words ∧ (u.queue k h).overruns = 0 ∧ (u.queue k h).underruns = 0 ∧
      (u.queue k h).aborts = 0 ∧ (u.queue k h).cancels = 0 ∧ (u.queue k h).parityErrs = 0 ∧ (u.queue k h).droppedWords = 0) := by
  refine ⟨_, (show execQueueCntClr k s = _ by unfold execQueueCntClr; rw [hq]; rfl), ?_⟩
  simp

/-- Settles O15: a word presented by a producer that holds nothing meets the queue as its write edge leaves it, and what was held changes
nothing that a pop has left. -/
theorem queuesPushPopAndCancel : Obligations.QueuesPushPopAndCancel := by
  refine ⟨?_, ?_, ?_, ?_, fun _ _ _ _ _ _ _ _ hq hheld hv hp => queuePop_head hq hheld hv hp,
    fun _ _ _ _ _ _ hq hv => queuePop_underrun hq hv, ?_, fun _ _ h _ hq => queueCntClr_clears h hq⟩
  · rintro s k h data x last we re _ rfl hp hheld hn hdrop hroom
    exact ⟨_, rfl, State.present_plain_room hheld hn hdrop hp _ hroom⟩
  · rintro s k h data x last we re _ rfl hp hheld hn hdrop hfull hd
    exact ⟨_, rfl, State.present_plain_full_drop hheld hn hdrop hp _ hfull hd⟩
  · rintro s k h data x last we re _ rfl hp hheld hn hdrop hfull hd
    refine ⟨_, rfl, ?_⟩
    simpa [hp] using State.present_plain_full_stall hheld hn hdrop hp
      { data := data % 2 ^ 64, x := x, last := last && ((s.queueEdges k h we re).queue k h).packet } hfull hd
  · rintro s k h data x we re _ rfl hp hheld hn hdrop hfill hroom
    exact ⟨_, rfl, State.present_packet_last hheld hn hdrop hp (by simp [hp]) hfill hroom⟩
  · rintro s k h we re _ rfl hp hheld hn hdrop
    exact ⟨_, rfl, State.present_cancel hheld hn hdrop hp _⟩

end Sys2Proof.Machine
end

section
/-! SUPPORT. What messages, records and changes of LSTATE leave alone of the link ends (R133 to R137, R150, R151); a lemma per function. -/

namespace Sys2Proof.Machine
open Sys2Proof

/-! ### Link ends, one by one and in part -/

/-- Two ends with one key are one end. -/
theorem State.link_modLink_any (s : State) (e e' : LinkId) (f : LinkEnd → LinkEnd) :
    (s.modLink e f).link e' = if e'.key = e.key then f (s.link e') else s.link e' := by
  unfold State.modLink State.setLink State.link
  split
  · next h => rw [h, SMap.getD_set_same]
  · next h => rw [SMap.getD_set_other _ _ _ h]

/-- A link end without the flits that wait at it. -/
def LinkEnd.unqueued (l : LinkEnd) : LinkEnd := { l with wait := [], dumpNext := none }

/-- A link end without what waits at it and without what a change of LSTATE changes. -/
def LinkEnd.stateless (l : LinkEnd) : LinkEnd := { l.unqueued with lstate := .reset, lastChange := 0, partnerActive := false }

/-- Which flit a link end expects, and whether it has asked for it again. -/
def LinkEnd.expects (l : LinkEnd) : Nat × Bool := (l.next, l.nakPending)

/-- What a link end has to send: the flits that wait, NXT, and the flits held until acknowledged. -/
def LinkEnd.sends (l : LinkEnd) : List (Nat × WaitFlit) × Nat × List HeldFlit := (l.wait, l.nxt, l.replay)

/-- Between s before and t after, this part of every link end is unchanged. -/
def LinkKept {α : Type} (g : LinkEnd → α) (s t : State) : Prop := ∀ e, g (t.link e) = g (s.link e)

namespace LinkKept
variable {α : Type} {g : LinkEnd → α} {s t u : State}

theorem refl (g : LinkEnd → α) (s : State) : LinkKept g s s := fun _ => rfl

theorem trans (h : LinkKept g s t) (hu : LinkKept g t u) : LinkKept g s u := fun e => (hu e).trans (h e)

theorem branch {c : Prop} [Decidable c] (ht : LinkKept g s t) (hu : LinkKept g s u) : LinkKept g s (if c then t else u) := by
  split <;> assumption

theorem foldl {β : Type} {f : State → β → State} {l : List β} (h : LinkKept g s t) (hf : ∀ u x, LinkKept g s u → LinkKept g s (f u x)) :
    LinkKept g s (l.foldl f t) := List.foldlRecOn l f h fun u hu x _ => hf u x hu

theorem snd_eq {β : Type} {p : β × State} {b : β} (h : LinkKept g s p.2) (e : p = (b, u)) : LinkKept g s u := by
  subst e
  exact h

/-- An update outside the link ends. -/
theorem set (h : LinkKept g s t) {regs zx bxTb pps tsrc queues ep red cnp grv cor wdn tap hbm egs rpl gate up out fresh pending} :
    LinkKept g s ⟨regs, zx, bxTb, pps, tsrc, t.links, queues, ep, red, cnp, grv, cor, wdn, tap, hbm, egs, rpl, gate, up, out, fresh, pending⟩ := h

theorem wr (h : LinkKept g s t) {f i v} : LinkKept g s (t.wr f i v) := h

theorem bump (h : LinkKept g s t) {f i n} : LinkKept g s (t.bump f i n) := h

theorem emit (h : LinkKept g s t) {o} : LinkKept g s (t.emit o) := h

/-- An update of a link end outside the part. -/
theorem modLink (h : LinkKept g s t) {e : LinkId} {f : LinkEnd → LinkEnd} (hf : ∀ l, g (f l) = g l := by exact fun _ => rfl) :
    LinkKept g s (t.modLink e f) := fun e' => by
  rw [State.link_modLink_any]
  split
  · exact (hf _).trans (h e')
  · exact h e'

/-- What is a function of a part kept is kept. -/
theorem part {β : Type} {f : LinkEnd → β} (h : LinkKept g s t) (k : α → β) (hk : ∀ l, k (g l) = f l := by exact fun _ => rfl) :
    LinkKept f s t := fun e => by
  rw [← hk, h e, hk]

/-- The same of one end. -/
theorem field {β : Type} (h : LinkKept g s t) (k : α → β) (e : LinkId) : k (g (t.link e)) = k (g (s.link e)) := congrArg k (h e)

/-! ### Functions that change no link end -/

theorem ls (h : LinkKept g s t) {k n} : LinkKept g s (t.ls k n) := .branch h h.wr

theorem hwWrite (h : LinkKept g s t) {r} : LinkKept g s (t.hwWrite r) :=
  .branch (LinkKept.branch h.wr.bump h.wr).set (LinkKept.branch h.wr.bump h.wr).set

theorem signal (h : LinkKept g s t) {r} : LinkKept g s (t.signal r) :=
  .branch h.hwWrite (.branch h.bump (.branch (LinkKept.branch h.set h).bump (LinkKept.branch h.set h).set))

theorem violation (h : LinkKept g s t) {partner row source idx} : LinkKept g s (t.violation partner row source idx) := h.signal

theorem enterRing (h : LinkKept g s t) {f kind body} : LinkKept g s (t.enterRing f kind body) := .branch h (.branch h h)

theorem overflowIfDue (h : LinkKept g s t) {f} : LinkKept g s (t.overflowIfDue f) := by
  dsimp only [State.overflowIfDue]
  split
  · exact h
  · exact .branch (LinkKept.set h).enterRing h

theorem post (h : LinkKept g s t) {f kind body} : LinkKept g s (t.post f kind body) := .branch h.overflowIfDue.enterRing h

theorem outPort (h : LinkKept g s t) {ty sub src dst} : LinkKept g s (t.outPort ty sub src dst).2 := by
  dsimp only [State.outPort]
  split
  · split
    · exact h
    · split
      · exact h
      · split <;> exact h.bump
  · split
    · exact h
    · exact h.bump

theorem wtDisarm (h : LinkKept g s t) {tgt} : LinkKept g s (t.wtDisarm tgt) := .branch (LinkKept.set h.wr.wr.wr.wr.wr).signal h

theorem wtEvent (h : LinkKept g s t) {tgt extra} : LinkKept g s (t.wtEvent tgt extra).2 := by
  dsimp only [State.wtEvent]
  split
  · exact .branch (LinkKept.set h).wr.bump.signal.wtDisarm (LinkKept.set h).wr.bump.signal
  · exact h

theorem pcs (h : LinkKept g s t) {e tx bs} : LinkKept g s (t.pcs e tx bs).2 := by
  dsimp only [State.pcs]
  split
  · exact h
  · split
    · exact h.set
    · split
      · next he => exact (wtEvent h.set).snd_eq he
      · next he =>
        have hev := (wtEvent h.set).snd_eq he
        split_ifs
        · exact hev
        · exact hev
        · exact hev
        · exact hev.set
        · exact hev

theorem crossIn (h : LinkKept g s t) {p ty bs} : LinkKept g s (t.crossIn p ty bs).2 := by
  dsimp only [State.crossIn]
  split
  · exact h
  · exact List.foldlRecOn (motive := fun (a : Bool × State) => LinkKept g s a.2) _ _ h fun _ ha _ _ => ha

theorem reply (h : LinkKept g s t) {c op status results reason w} : LinkKept g s (t.reply c op status results reason w) := by
  unfold State.reply
  extract_lets r s₁ s₂ s₃
  have h₁ : LinkKept g s s₁ := .branch h.bump h
  have h₂ : LinkKept g s s₂ := .branch h₁.bump h₁
  have h₃ : LinkKept g s s₃ := .branch h₂.bump h₂
  exact h₃.set

theorem timeoutZx (h : LinkKept g s t) {p m} : LinkKept g s (t.timeoutZx p m) := by
  dsimp only [State.timeoutZx]
  split
  · exact h.reply
  · split
    · exact .branch h.set h
    · exact .branch (LinkKept.branch h.set h).set (.branch h.set h)

theorem wtResetOff (h : LinkKept g s t) {p} : LinkKept g s (t.wtResetOff p).2 :=
  .wr (h.foldl fun _ _ h => h.wr.wr.wr.wr.set)

theorem wtZxOff (h : LinkKept g s t) {p} : LinkKept g s (t.wtZxOff p) := .branch h.wtResetOff h.wtResetOff.signal

theorem gaps (h : LinkKept g s t) {n} : LinkKept g s (t.gaps n) := .branch h h.ls.wr

theorem putTrc (h : LinkKept g s t) {n x} : LinkKept g s (t.putTrc n x) := (LinkKept.set h).gaps

theorem countFlushed (h : LinkKept g s t) {e n} : LinkKept g s (t.countFlushed e n) := by
  unfold State.countFlushed
  split
  · exact h.bump
  · exact h.bump
  · exact h

theorem countRetrain (h : LinkKept g s t) {e} : LinkKept g s (t.countRetrain e) := by
  unfold State.countRetrain
  split
  · exact h.ls
  · exact h.bump
  · exact h.bump

theorem resendUnacked (h : LinkKept g s t) : LinkKept g s t.resendUnacked := by
  unfold State.resendUnacked
  split
  · exact h
  · exact h.set

/-! ### Messages: flits join and leave those that wait -/

theorem enqueue (h : LinkKept LinkEnd.unqueued s t) {e cls b fromPort} : LinkKept LinkEnd.unqueued s (t.enqueue e cls b fromPort) := h.modLink

theorem sendOn (h : LinkKept LinkEnd.unqueued s t) {q ty sub vc src dst bcast bytes hops} :
    LinkKept LinkEnd.unqueued s (t.sendOn q ty sub vc src dst bcast bytes hops) := h.foldl fun _ _ h => h.enqueue

theorem alarmUp (h : LinkKept LinkEnd.unqueued s t) {sub p40} : LinkKept LinkEnd.unqueued s (t.alarmUp sub p40) := by
  dsimp only [State.alarmUp]
  split
  · exact h.post
  · split
    · next e => exact (h.outPort.snd_eq e).sendOn
    · next e => exact .branch h.post (h.outPort.snd_eq e)

theorem floodLsa (h : LinkKept LinkEnd.unqueued s t) : LinkKept LinkEnd.unqueued s t.floodLsa :=
  foldl h.set fun _ _ h => h.sendOn

theorem setPstate (h : LinkKept LinkEnd.unqueued s t) {q ps} : LinkKept LinkEnd.unqueued s (t.setPstate q ps) :=
  .branch (LinkKept.set h).floodLsa h.set

theorem sendHello (h : LinkKept LinkEnd.unqueued s t) {q} : LinkKept LinkEnd.unqueued s (t.sendHello q) :=
  (LinkKept.set h).sendOn.set

theorem zxFirst (h : LinkKept LinkEnd.unqueued s t) {p op params} : LinkKept LinkEnd.unqueued s (t.zxFirst p op params) :=
  .modLink (.enqueue (.modLink h.set))

theorem flushZx (h : LinkKept LinkEnd.unqueued s t) {p} : LinkKept LinkEnd.unqueued s (t.flushZx p) :=
  LinkKept.set (.foldl (.modLink h) fun _ _ h => h.timeoutZx)

theorem recoverFlushed (h : LinkKept LinkEnd.unqueued s t) {held} : LinkKept LinkEnd.unqueued s (t.recoverFlushed held) := by
  have hq {l : List HeldFlit} : LinkKept LinkEnd.unqueued s (l.foldl (fun s h => s.enqueue .zx 3 h.body) t) := h.foldl fun _ _ h => h.enqueue
  exact foldl (.branch hq.modLink hq) fun _ _ h => .branch h h.putTrc

theorem sendHwReqs (h : LinkKept LinkEnd.unqueued s t) : LinkKept LinkEnd.unqueued s t.sendHwReqs :=
  foldl h.set fun _ _ h => h.enqueue

/-! ### Changes of LSTATE -/

theorem stateless (h : LinkKept LinkEnd.unqueued s t) : LinkKept LinkEnd.stateless s t :=
  h.part fun l => { l with lstate := .reset, lastChange := 0, partnerActive := false }

theorem setLstate (h : LinkKept LinkEnd.stateless s t) {e st} : LinkKept LinkEnd.stateless s (t.setLstate e st) := by
  have hmod : LinkKept LinkEnd.stateless s (t.modLink e fun l => { l with
      lstate := st, lastChange := t.linkNs e, partnerActive := l.partnerActive && st = .active }) := h.modLink
  dsimp only [State.setLstate]
  split
  · exact .branch hmod (hmod.trans (LinkKept.set (refl _ _)).setPstate.stateless)
  · exact hmod

theorem retrain (h : LinkKept LinkEnd.stateless s t) {e} : LinkKept LinkEnd.stateless s (t.retrain e) := .branch h.countRetrain.setLstate h

end LinkKept
end Sys2Proof.Machine
end

section
/-! SUPPORT. Link ends train, fail, retrain and are held (R133 to R137, R157, Table 5-3). -/

namespace Sys2Proof.Machine
open Sys2Proof

/-! ### A change of LSTATE -/

@[simp] theorem State.setLstate_lstate (s : State) (e : LinkId) (st : LState) : ((s.setLstate e st).link e).lstate = st := by
  let t := s.modLink e fun l => { l with lstate := st, lastChange := s.linkNs e, partnerActive := l.partnerActive && st = .active }
  have ht : (t.link e).lstate = st := by rw [State.link_modLink]
  dsimp only [State.setLstate]
  split
  · next q =>
    split
    · exact ht
    · exact (congrArg LinkEnd.lstate (((LinkKept.refl LinkEnd.unqueued t).set).setPstate (.canopy q))).trans ht
  · exact ht

/-- What a change of LSTATE, and what follows it, leaves of its end. -/
theorem State.setLstate_stateless (s : State) (e : LinkId) (st : LState) : LinkKept LinkEnd.stateless s (s.setLstate e st) :=
  (LinkKept.refl _ s).setLstate

@[simp] theorem State.setLstate_lock (s : State) (e : LinkId) (st : LState) : ((s.setLstate e st).link e).lock = (s.link e).lock :=
  (s.setLstate_stateless e st).field LinkEnd.lock e

@[simp] theorem State.setLstate_attempts (s : State) (e : LinkId) (st : LState) : ((s.setLstate e st).link e).attempts = (s.link e).attempts :=
  (s.setLstate_stateless e st).field LinkEnd.attempts e

@[simp] theorem State.setLstate_laneMap (s : State) (e : LinkId) (st : LState) : ((s.setLstate e st).link e).laneMap = (s.link e).laneMap :=
  (s.setLstate_stateless e st).field LinkEnd.laneMap e

@[simp] theorem State.setLstate_deskew (s : State) (e : LinkId) (st : LState) : ((s.setLstate e st).link e).deskew = (s.link e).deskew :=
  (s.setLstate_stateless e st).field LinkEnd.deskew e

theorem State.setLstate_regs (s : State) (e : LinkId) (st : LState) (he : e.isCanopy = false) : (s.setLstate e st).regs = s.regs := by
  cases e with
  | canopy q => cases he
  | zx | stem p => rfl

theorem State.floodLsa_regs (s : State) : RegsKept [.BX_CNP_CNT0] s s.floodLsa := by
  intro f i hlo hf
  dsimp only [State.floodLsa]
  exact (Sends.foldl (.refl _) fun _ _ h => h.sendOn).regs f i hlo hf

/-- A change of LSTATE changes PSTATE of a Canopy port, and no other register field but what counts messages without a route. -/
theorem State.setLstate_regsKept (s : State) (e : LinkId) (st : LState) : RegsKept [.BX_CNP_PORT_STS, .BX_CNP_CNT0] s (s.setLstate e st) := by
  intro f i hlo hf
  simp only [List.mem_cons, List.not_mem_nil, or_false, not_or] at hf
  have hwr (t : State) (q v : Nat) : (t.wr BX_CNP_PORT_STS_PSTATE q v).rd f i = t.rd f i := t.rd_wr_otherReg v (by decide) hlo hf.1
  dsimp only [State.setLstate]
  split
  · split
    · rfl
    · dsimp only [State.setPstate]
      split
      · exact (State.floodLsa_regs _ f i hlo (by simpa using hf.2)).trans (hwr _ _ _)
      · exact hwr _ _ _
  · rfl

/-! ### Training (R133, R134, Table 5-3) -/

section
variable {s : State} {e : LinkId}

theorem linkResetDone_locks (hl : (s.link e).lstate = .reset) (hon : (if e = .zx then s.zxOn else s.bxOn) = true) (hn : s.noLanes e = false) :
    Answers (.linkResetDone e) s (fun u => (u.link e).lstate = .lock ∧ (u.regs = s.regs ∨ e.isCanopy = true)) := by
  refine ⟨s.setLstate e .lock, ?_, s.setLstate_lstate e _, ?_⟩
  · change execLinkResetDone e s = done _
    unfold execLinkResetDone
    rw [if_pos ⟨hl, hon⟩, hn]
    rfl
  · cases hc : e.isCanopy with
    | true => exact .inr rfl
    | false => exact .inl (s.setLstate_regs e _ hc)

theorem linkLockDone_aligns (hl : (s.link e).lstate = .lock) : Answers (.linkLockDone e) s (fun u =>
    (u.link e).lstate = .align ∧ (u.link e).lock = 15) :=
  ⟨(s.modLink e fun l => { l with lock := 15 }).setLstate e .align, if_pos hl, by simp⟩

theorem linkAlignDone_pairs {m : Nat} {d : List Nat} (hl : (s.link e).lstate = .align) (hm : lanesDistinct m = true) (hd : ∀ n ∈ d, n ≤ 8) :
    Answers (.linkAlignDone e ⟨m, d⟩) s (fun u => (u.link e).lstate = .param ∧ (u.link e).laneMap = m % 256 ∧ (u.link e).deskew = d) :=
  ⟨(s.modLink e fun l => { l with laneMap := m % 256, deskew := d }).setLstate e .param,
    if_pos ⟨hl, hm, List.all_eq_true.mpr fun n hn => decide_eq_true (hd n hn)⟩, by simp⟩

theorem linkTrainTimeout_fails (hl : (s.link e).lstate = .lock ∨ (s.link e).lstate = .align ∨ (s.link e).lstate = .param) :
    Answers (.linkTrainTimeout e) s (fun u => (u.link e).lstate = (if (s.link e).attempts < 7 then .reset else .downHold) ∧
      (u.link e).attempts = (s.link e).attempts + 1) := by
  refine ⟨s.failAttempt e, ?_, ?_, ?_⟩
  · change execLinkTrainTimeout e s = done _
    unfold execLinkTrainTimeout
    rcases hl with h | h | h <;> rw [h]
  · by_cases h : (s.link e).attempts < 7
    · simp [State.failAttempt, h, show ¬ 8 ≤ (s.link e).attempts + 1 by omega]
    · simp [State.failAttempt, h, show 8 ≤ (s.link e).attempts + 1 by omega]
  · simp [State.failAttempt]

theorem linkDownHoldExpiry_resets (hl : (s.link e).lstate = .downHold) (hh : s.holdSet e = false) : Answers (.linkDownHoldExpiry e) s (fun u =>
    (u.link e).lstate = .reset ∧ (u.link e).attempts = 0) :=
  ⟨(s.modLink e fun l => { l with attempts := 0 }).setLstate e .reset, if_pos ⟨hl, by simp [hh]⟩, by simp⟩

end

/-! ### Entry into ACTIVE (R135 to R137) -/

/-- An end enters ACTIVE with no attempt counted: with its sequence state at 0 where either side is FRESH, and acknowledged up to the
partner's RX_NEXT where neither is. -/
theorem State.enterActive_link (s : State) (e : LinkId) (fresh : Bool) (rxNext : Nat) (pf pa : Bool) :
    let l := (s.enterActive e fresh rxNext pf pa).link e
    l.lstate = .active ∧ l.attempts = 0 ∧ l.next = (if fresh then 0 else (s.link e).next) ∧ l.nxt = (if fresh then 0 else (s.link e).nxt) ∧
      l.una = (if fresh then 0 else rxNext) := by
  unfold State.enterActive
  extract_lets l₀ s₁ s₂ m s₃ s₄ s₅ s₆ l
  have hseq : (s₃.link e).next = (if fresh then 0 else (s.link e).next) ∧ (s₃.link e).nxt = (if fresh then 0 else (s.link e).nxt) ∧
      (s₃.link e).una = (if fresh then 0 else rxNext) := by
    cases fresh with
    | false => simp [s₃]
    | true =>
      have h₂ : LinkKept LinkEnd.unqueued s₂ s₃ := by
        dsimp only [s₃]
        rw [if_pos rfl]
        split
        · exact (LinkKept.refl _ _).recoverFlushed
        · exact .zxFirst (.branch (LinkKept.branch (LinkKept.refl _ _).flushZx (.refl _ _)).wtZxOff
            (.branch (LinkKept.refl _ _).flushZx (.refl _ _)))
        · exact (LinkKept.refl _ _).set
      refine ⟨(h₂.field LinkEnd.next e).trans ?_, (h₂.field LinkEnd.nxt e).trans ?_, (h₂.field LinkEnd.una e).trans ?_⟩
      all_goals simp [s₂, LinkEnd.unqueued]
  have hend : l.unqueued = (s₆.link e).unqueued := by
    dsimp only [l]
    split
    · exact (LinkKept.refl LinkEnd.unqueued s₆).setPstate.sendHello _
    · exact (LinkKept.refl LinkEnd.unqueued s₆).sendHwReqs.resendUnacked _
    · rfl
  have h₄ : s₄.link e = { s₃.link e with attempts := 0, fresh := false, slot := e.slotCycles, missRun := [0, 0, 0, 0] } :=
    State.link_modLink _ _ _
  have hrest : l.stateless = (s₄.link e).stateless := by
    have h₆ : LinkKept LinkEnd.stateless s₄ s₆ := (s₄.setLstate_stateless e .active).modLink
    exact (congrArg (fun x : LinkEnd => { x with lstate := .reset, lastChange := 0, partnerActive := false }) hend).trans (h₆ e)
  rw [h₄] at hrest
  obtain ⟨hnext, hnxt, huna⟩ := hseq
  exact ⟨(congrArg LinkEnd.lstate hend).trans (by simp [s₆, s₅, LinkEnd.unqueued]), congrArg LinkEnd.attempts hrest,
    (congrArg LinkEnd.next hrest).trans hnext, (congrArg LinkEnd.nxt hrest).trans hnxt, (congrArg LinkEnd.una hrest).trans huna⟩

theorem linkResetDone_laneless {s : State} {e : LinkId} (hl : (s.link e).lstate = .reset) (hon : (if e = .zx then s.zxOn else s.bxOn) = true)
    (hn : s.noLanes e = true) : Answers (.linkResetDone e) s (fun u => (u.link e).lstate = .active) := by
  refine ⟨s.enterActive e true 0 true true, ?_, (s.enterActive_link e _ _ _ _).1⟩
  change execLinkResetDone e s = done _
  unfold execLinkResetDone
  rw [if_pos ⟨hl, hon⟩, if_pos hn]

section
variable {s : State} {e : LinkId} {a b n : Nat} {pa : Bool} (hl : (s.link e).lstate = .param) (hi : s.infoOk e a b = true)
include hl hi

theorem linkParamDone_fresh {pf : Bool} (hf : (s.link e).fresh = true ∨ pf = true) : Answers (.linkParamDone e a b n ⟨pf, pa⟩) s (fun u =>
    (u.link e).lstate = .active ∧ (u.link e).next = 0 ∧ (u.link e).nxt = 0 ∧ (u.link e).una = 0 ∧ (u.link e).attempts = 0) := by
  obtain ⟨hst, hatt, hnext, hnxt, huna⟩ := s.enterActive_link e true n pf pa
  refine ⟨s.enterActive e true n pf pa, ?_, hst, hnext, hnxt, huna, hatt⟩
  change execLinkParamDone e a b n ⟨pf, pa⟩ s = done _
  unfold execLinkParamDone
  simp [hl, hi, hf]

theorem linkParamDone_resumes (hf : (s.link e).fresh = false) (hn : n < e.seqMod)
    (hw : (n + e.seqMod - (s.link e).una) % e.seqMod ≤ ((s.link e).nxt + e.seqMod - (s.link e).una) % e.seqMod) :
    Answers (.linkParamDone e a b n ⟨false, pa⟩) s (fun u => (u.link e).lstate = .active ∧ (u.link e).una = n ∧
      (u.link e).next = (s.link e).next ∧ (u.link e).nxt = (s.link e).nxt) := by
  obtain ⟨hst, -, hnext, hnxt, huna⟩ := s.enterActive_link e false n false pa
  refine ⟨s.enterActive e false n false pa, ?_, hst, huna, hnext, hnxt⟩
  change execLinkParamDone e a b n ⟨false, pa⟩ s = done _
  unfold execLinkParamDone
  simp [hl, hi, hf, hw, hn]

end

/-! ### Retraining (R134) -/

theorem State.retrain_lstate {s : State} {e : LinkId} (hl : (s.link e).lstate = .active) :
    ((s.retrain e).link e).lstate = if (s.link e).lock = 15 ∧ s.noLanes e = false then .lock else .reset := by
  unfold State.retrain
  rw [if_pos hl]
  simp

theorem State.noLanes_stem {p : Nat} (hp : p < 64) (s : State) : s.noLanes (.stem p) = false := by
  simp [State.noLanes, hp.ne]

theorem State.noLanes_canopy (s : State) (q : Nat) : s.noLanes (.canopy q) = false := rfl

/-- An end in ACTIVE counts its retrain before it leaves. -/
theorem State.rd_retrain {s : State} {e : LinkId} (hl : (s.link e).lstate = .active) {f : Fld} {i : Nat} (hlo : f.lo < 64 := by decide)
    (hf : f.reg ∉ [Reg.BX_CNP_PORT_STS, .BX_CNP_CNT0] := by decide) : (s.retrain e).rd f i = (s.countRetrain e).rd f i := by
  unfold State.retrain
  rw [if_pos hl]
  exact State.setLstate_regsKept _ _ _ f i hlo hf

section
variable {s : State} {e : LinkId} (hl : (s.link e).lstate = .active)
include hl

theorem linkLockLoss_retrains (m : Nat) (hn : s.noLanes e = false) : Answers (.linkLockLoss e m) s (fun u =>
    (u.link e).lstate = (if m % 16 = 15 then .lock else .reset) ∧ (u.link e).lock = m % 16) := by
  let t := s.modLink e fun l => { l with lock := m % 16 }
  have ht : t.link e = { s.link e with lock := m % 16 } := s.link_modLink e _
  have hn' : t.noLanes e = false := hn
  refine ⟨t.retrain e, ?_, ?_, ?_⟩
  · change execLinkLockLoss e m s = done _
    unfold execLinkLockLoss
    rw [hn]
    rfl
  · rw [State.retrain_lstate (by rw [ht]; exact hl), hn', ht]
    simp
  · exact ((LinkKept.refl LinkEnd.stateless t).retrain.field LinkEnd.lock e).trans (by rw [ht]; rfl)

theorem linkMarkerMiss_retrains {ws : List Nat} (hn : s.noLanes e = false)
    (hm : ∃ n ∈ missRuns e (s.link e).laneMap (s.link e).missRun ws, 3 ≤ n) : Answers (.linkMarkerMiss ⟨e, ws⟩) s (fun u =>
    (u.link e).lstate = (if (s.link e).lock = 15 then .lock else .reset)) := by
  let t := s.modLink e fun l => { l with missRun := missRuns e (s.link e).laneMap (s.link e).missRun ws }
  have ht : t.link e = { s.link e with missRun := missRuns e (s.link e).laneMap (s.link e).missRun ws } := s.link_modLink e _
  have hn' : t.noLanes e = false := hn
  refine ⟨t.retrain e, ?_, ?_⟩
  · change execLinkMarkerMiss ⟨e, ws⟩ s = done _
    unfold execLinkMarkerMiss
    dsimp only
    rw [if_neg (by simp [hl, hn]), if_pos (.inr (by simpa using hm))]
  · refine (State.retrain_lstate (by rw [ht]; exact hl)).trans ?_
    rw [hn', ht]
    simp

theorem linkNoFlitTimeout_retrains : Answers (.linkNoFlitTimeout e) s (fun u =>
    (u.link e).lstate = (if (s.link e).lock = 15 ∧ s.noLanes e = false then .lock else .reset)) :=
  ⟨s.retrain e, rfl, State.retrain_lstate hl⟩

end

theorem zxStmRetrainWrite_retrains {s : State} {v : Nat} (hl : (s.link .zx).lstate = .active) (hv : bitAt v 0 = true) :
    Answers (.zxStmRetrainWrite v) s (fun u => (u.link .zx).lstate = (if (s.link .zx).lock = 15 ∧ s.noLanes .zx = false then .lock else .reset) ∧
      s.lsUp u 0xA9 1) :=
  ⟨s.retrain .zx, congrArg done (if_pos hv), State.retrain_lstate hl, (State.rd_retrain hl).trans (s.lsUp_ls 0xA9 1)⟩

theorem stemPortRetrainWrite_retrains {s : State} {p : Nat} (hp : p < 64) (hl : (s.link (.stem p)).lstate = .active) :
    Answers (.stemPortRetrainWrite p) s (fun u => (u.link (.stem p)).lstate = (if (s.link (.stem p)).lock = 15 then .lock else .reset) ∧
      s.counted u BX_STM_PORT_MISC_RETRAINS p 1) := by
  refine ⟨s.retrain (.stem p), congrArg done (if_pos hp), ?_, (State.rd_retrain hl).trans (s.counted_bump BX_STM_PORT_MISC_RETRAINS p 1)⟩
  simp [State.retrain_lstate hl, s.noLanes_stem hp]

theorem cnpPortRetrainWrite_retrains {s : State} {q : Nat} (hq : q < 24) (hl : (s.link (.canopy q)).lstate = .active) :
    Answers (.cnpPortRetrainWrite q) s (fun u => (u.link (.canopy q)).lstate = (if (s.link (.canopy q)).lock = 15 then .lock else .reset) ∧
      s.counted u BX_CNP_PORT_MISC_RETRAINS q 1) := by
  refine ⟨s.retrain (.canopy q), congrArg done (if_pos hq), ?_, (State.rd_retrain hl).trans (s.counted_bump BX_CNP_PORT_MISC_RETRAINS q 1)⟩
  simp [State.retrain_lstate hl, s.noLanes_canopy]

/-! ### HOLD (R157) -/

/-- HOLD, set, has its end in DOWN_HOLD, whether or not it was there. -/
theorem State.setHold_downHold (s : State) (e : LinkId) : ((s.setHold e true).link e).lstate = .downHold := by
  unfold State.setHold
  extract_lets t
  have ht : t.link e = s.link e := by
    dsimp only [t]
    split <;> rfl
  rw [if_pos rfl]
  split
  · next h => rw [ht]; rwa [ht] at h
  · exact t.setLstate_lstate e _

/-- HOLD of a BX64 end written, before the end follows it. -/
def State.writeHold (s : State) (e : LinkId) (hold : Bool) : State :=
  match e with
  | .zx => s
  | .stem p => s.wr BX_STM_PORT_CTRL_HOLD p (b2n hold)
  | .canopy q => s.wr BX_CNP_PORT_CTRL_HOLD q (b2n hold)

/-- Once HOLD is written, its end follows it with no register field changed but those of a change of LSTATE. -/
theorem State.setHold_regsKept (s : State) (e : LinkId) (hold : Bool) :
    RegsKept [.BX_CNP_PORT_STS, .BX_CNP_CNT0] (s.writeHold e hold) (s.setHold e hold) := by
  unfold State.setHold
  extract_lets t
  have ht : s.writeHold e hold = t := by cases e <;> rfl
  rw [ht]
  split
  · split
    · exact .refl _ t
    · exact t.setLstate_regsKept e _
  · split
    · exact State.setLstate_regsKept (t.modLink e fun l => { l with attempts := 0 }) e _
    · exact .refl _ t

theorem State.rd_setHold_stem (s : State) (p : Nat) (hold : Bool) : (s.setHold (.stem p) hold).rd BX_STM_PORT_CTRL_HOLD p = b2n hold :=
  (s.setHold_regsKept (.stem p) hold _ p (by decide) (by decide)).trans ((s.rd_wr_same BX_STM_PORT_CTRL_HOLD p _).trans (by cases hold <;> rfl))

theorem State.rd_setHold_canopy (s : State) (q : Nat) (hold : Bool) : (s.setHold (.canopy q) hold).rd BX_CNP_PORT_CTRL_HOLD q = b2n hold :=
  (s.setHold_regsKept (.canopy q) hold _ q (by decide) (by decide)).trans ((s.rd_wr_same BX_CNP_PORT_CTRL_HOLD q _).trans (by cases hold <;> rfl))

theorem stemPortHoldWrite_holds {s : State} {p : Nat} (hp : p < 64) (hh : s.flag BX_STM_PORT_CTRL_HOLD p = false) :
    Answers (.stemPortHoldWrite p true) s (fun u => u.rd BX_STM_PORT_CTRL_HOLD p = 1 ∧ (u.link (.stem p)).lstate = .downHold) :=
  ⟨s.setHold (.stem p) true, congrArg done (if_pos ⟨hp, by simp [hh]⟩), s.rd_setHold_stem p true, s.setHold_downHold _⟩

theorem cnpPortHoldWrite_holds {s : State} {q : Nat} (hq : q < 24) (hh : s.flag BX_CNP_PORT_CTRL_HOLD q = false) :
    Answers (.cnpPortHoldWrite q true) s (fun u => u.rd BX_CNP_PORT_CTRL_HOLD q = 1 ∧ (u.link (.canopy q)).lstate = .downHold) :=
  ⟨s.setHold (.canopy q) true, congrArg done (if_pos ⟨hq, by simp [hh]⟩), s.rd_setHold_canopy q true, s.setHold_downHold _⟩

/-! ### STEM_PORT_CTRL -/

theorem State.flag_of_rd_b2n {s : State} {f : Fld} {i : Nat} {b : Bool} (h : s.rd f i = b2n b) : s.flag f i = b := by
  unfold State.flag
  rw [h]
  cases b <;> rfl

/-- A retrain of a Stem port leaves BX_STM_PORT_CTRL alone. -/
theorem State.rd_retrain_stemCtrl (s : State) (p : Nat) {f : Fld} {i : Nat} (hf : f.reg = .BX_STM_PORT_CTRL) (hlo : f.lo < 64) :
    (s.retrain (.stem p)).rd f i = s.rd f i := by
  by_cases hl : (s.link (.stem p)).lstate = .active
  · exact (State.rd_retrain hl hlo (by rw [hf]; decide)).trans (s.rd_wr_otherReg _ (by decide) hlo (by rw [hf]; decide))
  · unfold State.retrain
    rw [if_neg hl]

theorem stemPortCtrl_answers {s : State} {c : Cap} (hc : c.isOp = true) (hl : 4 ≤ c.params.length) (hp : c.p 0 ≤ 63) :
    Answers (.stemPortCtrl c) s (fun u => u.replied c 0x0610 S_OK [] ∧ u.flag BX_STM_PORT_CTRL_HOLD (c.p 0) = bitAt (c.p 1) 0 ∧
      u.rd BX_STM_PORT_CTRL_ALARM_LIMIT (c.p 0) = c.p 3 % 65536) := by
  let s₁ := s.wr BX_STM_PORT_CTRL_ALARM_LIMIT (c.p 0) (c.p 3)
  let s₂ := if s₁.flag BX_STM_PORT_CTRL_HOLD (c.p 0) ≠ bitAt (c.p 1) 0 then s₁.setHold (.stem (c.p 0)) (bitAt (c.p 1) 0) else s₁
  let s₃ := if bitAt (c.p 2) 0 then s₂.retrain (.stem (c.p 0)) else s₂
  have hhold : s₂.flag BX_STM_PORT_CTRL_HOLD (c.p 0) = bitAt (c.p 1) 0 := by
    dsimp only [s₂]
    split
    · exact State.flag_of_rd_b2n (s₁.rd_setHold_stem _ _)
    · next h => exact not_not.mp h
  have hlimit : s₂.rd BX_STM_PORT_CTRL_ALARM_LIMIT (c.p 0) = c.p 3 % 65536 := by
    have h₁ : s₁.rd BX_STM_PORT_CTRL_ALARM_LIMIT (c.p 0) = c.p 3 % 65536 := s.rd_wr_same BX_STM_PORT_CTRL_ALARM_LIMIT _ _
    dsimp only [s₂]
    split
    · exact (s₁.setHold_regsKept (.stem (c.p 0)) _ _ _ (by decide) (by decide)).trans
        ((s₁.rd_wr_otherLo _ (by decide) (by decide) (by decide)).trans h₁)
    · exact h₁
  have h₃ (f : Fld) (hf : f.reg = .BX_STM_PORT_CTRL) (hlo : f.lo < 64) : s₃.rd f (c.p 0) = s₂.rd f (c.p 0) := by
    dsimp only [s₃]
    split
    · exact s₂.rd_retrain_stemCtrl _ hf hlo
    · rfl
  refine ⟨s₃.reply c 0x0610 S_OK, ?_, s₃.reply_replied c _ _ _ 0 none, ?_, ?_⟩
  · change execStemPortCtrl c s = done _
    unfold execStemPortCtrl
    rw [s.checked_of_allowed hc hl, if_neg (Nat.not_lt.mpr hp)]
  · exact (congrArg (fun n => decide (n ≠ 0)) (h₃ BX_STM_PORT_CTRL_HOLD rfl (by decide))).trans hhold
  · exact (h₃ BX_STM_PORT_CTRL_ALARM_LIMIT rfl (by decide)).trans hlimit

/-- Settles O17: a change of LSTATE leaves of its end all but LSTATE itself and what waits, a retrain is counted before it, and the entry into
ACTIVE gives the sequence state before what it sends. -/
theorem linksTrainThroughTheirStates : Obligations.LinksTrainThroughTheirStates :=
  ⟨fun _ _ hl hon hn => linkResetDone_locks hl hon hn,
    fun _ _ hl hon hn => linkResetDone_laneless hl hon hn,
    fun _ _ hl => linkLockDone_aligns hl,
    fun _ _ _ _ hl hm hd => linkAlignDone_pairs hl hm hd,
    fun _ _ _ _ _ _ _ hl hi hf => linkParamDone_fresh hl hi hf,
    fun _ _ _ _ _ _ hl hi hf hn hw => linkParamDone_resumes hl hi hf hn hw,
    fun _ _ hl => linkTrainTimeout_fails hl,
    fun _ _ hl hh => linkDownHoldExpiry_resets hl hh,
    fun _ _ m hl hn => linkLockLoss_retrains hl m hn,
    fun _ _ _ hl hn hm => linkMarkerMiss_retrains hl hn hm,
    fun _ _ hl => linkNoFlitTimeout_retrains hl,
    fun _ _ hl hv => zxStmRetrainWrite_retrains hl hv,
    fun _ _ hp hl => stemPortRetrainWrite_retrains hp hl,
    fun _ _ hp hh => stemPortHoldWrite_holds hp hh,
    fun _ _ hq hl => cnpPortRetrainWrite_retrains hq hl,
    fun _ _ hq hh => cnpPortHoldWrite_holds hq hh,
    fun _ _ hc hl hp => stemPortCtrl_answers hc hl hp⟩

end Sys2Proof.Machine
end

section
/-! SUPPORT. Flits are sent and held, accepted and acknowledged, and the retry timers expire (R148 to R151, Table 5-7). -/

namespace Sys2Proof.Machine
open Sys2Proof

namespace LinkKept
variable {s t : State}

/-! ### What leaves on the lanes keeps what an end has to send -/

theorem sendLanes (h : LinkKept LinkEnd.sends s t) {e bs} : LinkKept LinkEnd.sends s (t.sendLanes e bs) :=
  .emit (.modLink (.modLink (.branch (LinkKept.modLink h).emit h)))

theorem putOut (h : LinkKept LinkEnd.sends s t) {e bs} : LinkKept LinkEnd.sends s (t.putOut e bs) := by
  dsimp only [State.putOut]
  refine .sendLanes (.emit ?_)
  split
  · exact (LinkKept.modLink h).set
  · exact h.modLink

theorem sendBytes (h : LinkKept LinkEnd.sends s t) {e bs} : LinkKept LinkEnd.sends s (t.sendBytes e bs) :=
  h.pcs.foldl fun _ _ h => h.putOut

/-! ### What violations and deliveries leave of the flit expected next -/

theorem expects (h : LinkKept LinkEnd.stateless s t) : LinkKept LinkEnd.expects s t := h.part LinkEnd.expects

theorem setLstateExpects (h : LinkKept LinkEnd.expects s t) {e st} : LinkKept LinkEnd.expects s (t.setLstate e st) :=
  h.trans (t.setLstate_stateless e st).expects

theorem retrainExpects (h : LinkKept LinkEnd.expects s t) {e} : LinkKept LinkEnd.expects s (t.retrain e) :=
  .branch h.countRetrain.setLstateExpects h

theorem setHold (h : LinkKept LinkEnd.expects s t) {e hold} : LinkKept LinkEnd.expects s (t.setHold e hold) := by
  unfold State.setHold
  extract_lets u
  have hu : LinkKept LinkEnd.expects s u := by
    dsimp only [u]
    split
    · exact h
    · exact h.wr
    · exact h.wr
  exact .branch (.branch hu hu.setLstateExpects) (.branch (LinkKept.modLink hu).setLstateExpects hu)

theorem escalate (h : LinkKept LinkEnd.expects s t) {e} : LinkKept LinkEnd.expects s (t.escalate e) := by
  unfold State.escalate
  extract_lets l now es s₁ s₂ s₃
  have h₁ : LinkKept LinkEnd.expects s s₁ := (LinkKept.modLink h).retrainExpects
  have h₃ : LinkKept LinkEnd.expects s s₃ := (LinkKept.modLink h₁).setHold.signal
  exact .branch (.branch (h₃.trans (LinkKept.refl LinkEnd.unqueued s₃).alarmUp.stateless.expects) h₁) h

theorem countViol (h : LinkKept LinkEnd.expects s t) {e} : LinkKept LinkEnd.expects s (t.countViol e) :=
  .modLink (.branch h h.modLink)

theorem viol (h : LinkKept LinkEnd.expects s t) {e row} : LinkKept LinkEnd.expects s (t.viol e row) := by
  dsimp only [State.viol]
  refine .escalate ?_
  split
  · exact h.countViol.bump
  · exact h.countViol.bump.violation
  · exact h.countViol.bump.violation

theorem malformed (h : LinkKept LinkEnd.expects s t) {e row} : LinkKept LinkEnd.expects s (t.malformed e row) := by
  dsimp only [State.malformed]
  refine .escalate ?_
  split
  · exact h.countViol.bump.ls
  · exact h.countViol.bump.violation
  · exact h.countViol.bump.violation

theorem applyAck (h : LinkKept LinkEnd.expects s t) {e a} : LinkKept LinkEnd.expects s (t.applyAck e a) :=
  .branch h.modLink (.branch h h.viol)

theorem reassemble (h : LinkKept LinkEnd.expects s t) {e h' payload} : LinkKept LinkEnd.expects s (t.reassemble e h' payload) := by
  unfold State.reassemble
  extract_lets canopy isSnap cur others bad deliver base
  have hbad : LinkKept LinkEnd.expects s bad := (LinkKept.modLink h).malformed
  have hdeliver (m) : LinkKept LinkEnd.expects s (deliver m) := h.modLink
  refine .branch hbad ?_
  clear_value cur
  cases cur with
  | none => exact .branch hbad (.branch (.branch (hdeliver _) hbad) (.branch h.modLink hbad))
  | some m => exact .branch hbad (.branch (.branch (hdeliver _) hbad) (.branch hbad (.branch (hdeliver _) h.modLink)))

/-- At a Stem end, of either part. -/
theorem deliver (h : LinkKept LinkEnd.expects s t) {e h' payload} (he : e.isCanopy = false) :
    LinkKept LinkEnd.expects s (t.deliver e h' payload) := by
  unfold State.deliver
  split
  · cases he
  · exact .branch h.malformed (.branch h h.reassemble)

end LinkKept

/-! ### FLIT_TRANSMIT (R149 to R151) -/

/-- A sequenced flit takes NXT as its SEQ and is held, and what waits stays. -/
theorem State.sendSeq_sends (s : State) (e : LinkId) (b : FlitBody) : ∃ bs, ((s.sendSeq e b).link e).sends =
    ((s.link e).wait, ((s.link e).nxt + 1) % e.seqMod, (s.link e).replay ++ [{ seq := (s.link e).nxt, body := b, bytes := bs }]) := by
  refine ⟨flitBytes e.isCanopy (s.txHdr e b (s.link e).nxt) b.payload b.stomp, ?_⟩
  refine ((LinkKept.refl LinkEnd.sends _).sendBytes e).trans ?_
  simp [State.acked, LinkEnd.sends]

theorem stemBoundary_sends {s : State} {p : Nat} {w : WaitFlit} (hnak : (s.link (.stem p)).nakDue = false)
    (hw : (s.link (.stem p)).wait = [(4, w)]) (hr : s.replayRoom (.stem p) = true) :
    s.stemBoundary (.stem p) false = (s.dropWaiting (.stem p) 4).sendSeq (.stem p) w.body := by
  unfold State.stemBoundary
  simp [hr, State.waiting?, hw, hnak, State.sendWaiting]

theorem flitTransmit_sends {s : State} {p : Nat} {w : WaitFlit} (hm : s.maySend (.stem p) = true) (hp : (s.link (.stem p)).partnerActive = true)
    (ht : (s.link (.stem p)).timeFixed = none) (hres : (s.link (.stem p)).resendFrom = none) (hnak : (s.link (.stem p)).nakDue = false)
    (hw : (s.link (.stem p)).wait = [(4, w)]) (hr : s.replayRoom (.stem p) = true) : Answers (.flitTransmit (.stem p) false) s (fun u =>
      (u.link (.stem p)).wait = [] ∧ (u.link (.stem p)).nxt = ((s.link (.stem p)).nxt + 1) % (LinkId.stem p).seqMod ∧
      (u.link (.stem p)).replay.map (fun h => h.seq) = (s.link (.stem p)).replay.map (fun h => h.seq) ++ [(s.link (.stem p)).nxt]) := by
  let t := s.dropWaiting (.stem p) 4
  obtain ⟨bs, hsends⟩ := t.sendSeq_sends (.stem p) w.body
  have ht' : t.link (.stem p) = { s.link (.stem p) with wait := [] } := by
    refine (s.link_modLink _ _).trans ?_
    rw [hw]
    rfl
  rw [ht'] at hsends
  dsimp only at hsends
  refine ⟨t.sendSeq (.stem p) w.body, ?_, congrArg Prod.fst hsends, congrArg (fun x => x.2.1) hsends, ?_⟩
  · change execFlitTransmit (.stem p) false s = done _
    have hfixed : s.fixedNow (.stem p) = none := by simp [State.fixedNow, ht]
    unfold execFlitTransmit
    rw [if_neg (not_not.mpr hm), if_neg (not_not.mpr hp), hfixed, hres, ite_self]
    exact congrArg done (stemBoundary_sends hnak hw hr)
  · exact (congrArg (fun x => x.2.2.map fun h => h.seq) hsends).trans List.map_append

/-! ### FLIT_RECEIVE (R148, Table 5-7) -/

/-- The flit expected next, at a Stem end: NEXT moves on and no NAK is pending, whatever else the flit brings. -/
theorem State.accept_expects (s : State) {e : LinkId} (he : e.isCanopy = false) (h : Hdr) (payload : Bytes) :
    ((s.accept e h payload false).link e).expects = (((s.link e).next + 1) % e.seqMod, false) := by
  have hbuf : s.noBuffer e h = false := by
    cases e with
    | canopy q => cases he
    | zx | stem p => rfl
  unfold State.accept
  rw [hbuf, if_neg (by simp)]
  extract_lets s₁ s₂
  have h₂ : LinkKept LinkEnd.expects s₁ s₂ := .branch (LinkKept.refl _ _).applyAck (.refl _ _)
  rw [if_neg (by simp)]
  refine (h₂.deliver he e).trans ?_
  simp [s₁, LinkEnd.expects]

theorem State.receive_expects {s : State} {e : LinkId} {bs : Bytes} (he : e.isCanopy = false) (hcrc : crcVerdict false bs = some false)
    (hty : sequencedTy (parseHdr false bs).ty = true) (hseq : (parseHdr false bs).seq = (s.link e).next) :
    ((s.receive e bs).link e).expects = (((s.link e).next + 1) % e.seqMod, false) := by
  let s₀ := s.modLink e fun l => { l with lastRx := rdLe bs 0 8 }
  have hnext : (s₀.link e).next = (s.link e).next := (LinkKept.refl LinkEnd.expects s).modLink.field Prod.fst e
  have hcredit (h : Hdr) : s₀.headerCredit e h = s₀ := by
    cases e with
    | canopy q => cases he
    | zx | stem p => rfl
  unfold State.receive
  rw [he, hcrc]
  dsimp only
  rw [if_neg Bool.false_ne_true, if_pos hty, hcredit]
  unfold State.receiveSeq
  dsimp only
  rw [hnext, hseq, Nat.add_sub_cancel_left, Nat.mod_self, if_pos rfl, s₀.accept_expects he, hnext]

theorem State.flitIn_expects {s : State} {e : LinkId} {bs : Bytes} (he : e.isCanopy = false)
    (hcross : ∀ p, e = .stem p → p ≠ 64 → (s.crossIn p (bits (rdLe bs 0 8) 63 60) bs).1 = true) (hcrc : crcVerdict false bs = some false)
    (hty : sequencedTy (parseHdr false bs).ty = true) (hseq : (parseHdr false bs).seq = (s.link e).next) :
    ((s.flitIn e bs).link e).expects = (((s.link e).next + 1) % e.seqMod, false) := by
  unfold State.flitIn
  split
  · next p =>
    split
    · exact State.receive_expects he hcrc hty hseq
    · next hp =>
      let r := s.crossIn p (bits (rdLe bs 0 8) 63 60) bs
      have hnext : (r.2.link (.stem p)).next = (s.link (.stem p)).next := (LinkKept.refl LinkEnd.expects s).crossIn.field Prod.fst _
      rw [if_pos (hcross p rfl hp), ← hnext]
      exact State.receive_expects he hcrc hty (hseq.trans hnext.symm)
  · exact State.receive_expects he hcrc hty hseq

theorem flitReceive_accepts {s t : State} {e : LinkId} {ws : List Nat} {bs : Bytes} (hl : (s.link e).lstate = .active) (he : e.isCanopy = false)
    (hrx : s.rxFlit e ws = (bs, t)) (hpcs : t.pcs e false bs = ([bs], t))
    (hcross : ∀ p, e = .stem p → p ≠ 64 → (t.crossIn p (bits (rdLe bs 0 8) 63 60) bs).1 = true) (hcrc : crcVerdict false bs = some false)
    (hty : sequencedTy (parseHdr false bs).ty = true) (hseq : (parseHdr false bs).seq = (s.link e).next) :
    Answers (.flitReceive e ws) s (fun u => (u.link e).next = ((s.link e).next + 1) % e.seqMod ∧ (u.link e).nakPending = false) := by
  have hrxKept : LinkKept LinkEnd.expects s (s.rxFlit e ws).2 := by
    unfold State.rxFlit
    split
    · exact .refl _ s
    · exact (LinkKept.refl _ s).modLink
  have hnext : (t.link e).next = (s.link e).next := (hrxKept.snd_eq hrx).field Prod.fst e
  have hexpects := State.flitIn_expects he hcross hcrc hty (hseq.trans hnext.symm)
  refine ⟨t.flitIn e bs, ?_, ?_, congrArg Prod.snd hexpects⟩
  · change execFlitReceive e ws s = done _
    unfold execFlitReceive
    rw [if_pos hl, hrx]
    dsimp only
    rw [hpcs]
    rfl
  · rw [← hnext]
    exact congrArg Prod.fst hexpects

/-! ### The timers (R148 to R150) -/

section
variable {s : State} {e : LinkId}

theorem nakTimerExpiry_due (h : (s.link e).nakPending = true) : Answers (.nakTimerExpiry e) s (fun u => (u.link e).nakDue = true) :=
  ⟨s.modLink e fun l => { l with nakDue := l.nakDue || l.nakPending }, rfl, by simp [h]⟩

theorem replayTimerExpiry_resends (hl : (s.link e).lstate = .active) (hf : (s.link e).resendFrom = none) (hr : (s.link e).replay ≠ [])
    (hn : (s.link e).resends < 8) : Answers (.replayTimerExpiry e) s (fun u =>
      (u.link e).resendFrom = some (s.link e).una ∧ (u.link e).resends = (s.link e).resends + 1) := by
  refine ⟨s.modLink e fun l => { l with resendFrom := some (s.link e).una, resends := l.resends + 1 }, ?_, by simp⟩
  change execReplayTimerExpiry e s = done _
  unfold execReplayTimerExpiry State.resendDue
  rw [if_pos ⟨hl, hf⟩, if_neg hr, if_neg (Nat.not_le.mpr hn)]

theorem ackTimerExpiry_due (h : 0 < (s.link e).unacked) : Answers (.ackTimerExpiry e) s (fun u => (u.link e).ackDue = true) :=
  ⟨s.modLink e fun l => { l with ackDue := l.ackDue || 0 < l.unacked }, rfl, by simp [h]⟩

end

/-- Settles O18: what leaves on the lanes changes nothing that waits or is held, and neither an acknowledgement nor what a flit brings changes
which flit is expected next. -/
theorem flitsAreSentHeldAndAcknowledged : Obligations.FlitsAreSentHeldAndAcknowledged :=
  ⟨fun _ _ _ hm hp ht hres hnak hw hr => flitTransmit_sends hm hp ht hres hnak hw hr,
    fun _ _ _ _ _ hl he hrx hpcs hcross hcrc hty hseq => flitReceive_accepts hl he hrx hpcs hcross hcrc hty hseq,
    fun _ _ h => nakTimerExpiry_due h,
    fun _ _ hl hf hr hn => replayTimerExpiry_resends hl hf hr hn,
    fun _ _ h => ackTimerExpiry_due h⟩

end Sys2Proof.Machine
end

section
/-! SUPPORT. The timebases: what a measurement makes of one, and which parts of the state leave it alone (R163 to R166, Table 6-2). -/

namespace Sys2Proof.Machine
open Sys2Proof

/-! ### The timebase of a part -/

@[simp] theorem State.tbOf_setTb (s : State) (i : Nat) (t : Timebase) : (s.setTb i t).tbOf i = t := by
  unfold State.setTb State.tbOf
  split <;> rfl

@[simp] theorem State.setTb_regs (s : State) (i : Nat) (t : Timebase) : (s.setTb i t).regs = s.regs := by
  unfold State.setTb
  split <;> rfl

theorem State.tbOf_ls (s : State) (k n j : Nat) : (s.ls k n).tbOf j = s.tbOf j := by
  unfold State.ls
  split <;> rfl

theorem State.tbOf_fine8 (s : State) (r : Rat) (j : Nat) : (s.fine8 r).2.tbOf j = s.tbOf j := by
  unfold State.fine8
  dsimp only
  split <;> rfl

theorem State.tbOf_noteOffset (s : State) (i : Nat) (o : Rat) (d : Option Rat) (j : Nat) : (s.noteOffset i o d).tbOf j = s.tbOf j := by
  cases d with
  | none => exact s.tbOf_fine8 o j
  | some d => exact (State.tbOf_fine8 _ d j).trans (s.tbOf_fine8 o j)

theorem State.tbOf_noteStep (s : State) (i : Nat) (o : Rat) (j : Nat) : (s.noteStep i o).tbOf j = s.tbOf j := by
  unfold State.noteStep
  split <;> rfl

/-! ### Measurements (R163 to R166) -/

/-- The end of HOLDOVER leaves a timebase's exchange alone, and whether it has stepped. -/
theorem State.expireHoldover_keeps (s : State) (i : Nat) : ((s.expireHoldover i).tbOf i).exch = (s.tbOf i).exch ∧
    ((s.expireHoldover i).tbOf i).stepUsed = (s.tbOf i).stepUsed := by
  let u := s.setTb i { s.tbOf i with state := .unlocked, goodRun := 0, badRun := 0 }
  have hu (v : State) (hv : v.tbOf i = u.tbOf i) : (v.tbOf i).exch = (s.tbOf i).exch ∧ (v.tbOf i).stepUsed = (s.tbOf i).stepUsed := by
    rw [hv, State.tbOf_setTb]
    exact ⟨rfl, rfl⟩
  unfold State.expireHoldover
  split
  · dsimp only
    split
    · exact hu _ (State.tbOf_ls _ _ _ _)
    · exact hu _ rfl
  · exact ⟨rfl, rfl⟩

theorem Timebase.track_keeps (t : Timebase) (o : Rat) (lock unlock : Nat) : (t.track o lock unlock).exch = t.exch ∧
    (t.track o lock unlock).srcOk = t.srcOk := by
  unfold Timebase.track
  extract_lets a bad good
  split
  · split <;> exact ⟨rfl, rfl⟩
  · split <;> exact ⟨rfl, rfl⟩

/-- A timebase t after a measurement, as u: its exchange is as before, its source is good, and the first measurement has stepped it. -/
structure Measured (t u : Timebase) : Prop where
  exch : u.exch = t.exch
  srcOk : u.srcOk = true
  first : t.stepUsed = false → u.state = .settling ∧ u.stepUsed = true

theorem State.measure_measured (s : State) (i : Nat) (o : Rat) (d : Option Rat) (period : Nat) :
    Measured (s.tbOf i) ((s.measure i o d period).tbOf i) := by
  unfold State.measure
  extract_lets s₁ t a lock s₂ s₃
  have hkept : t.exch = (s.tbOf i).exch ∧ t.stepUsed = (s.tbOf i).stepUsed := by
    dsimp only [t, s₁]
    rw [State.tbOf_noteOffset]
    exact s.expireHoldover_keeps i
  obtain ⟨hexch, hused⟩ := hkept
  split
  · rw [State.tbOf_noteStep, State.tbOf_setTb]
    exact ⟨hexch, rfl, fun _ => ⟨rfl, rfl⟩⟩
  · next hstepped =>
    have hnotFirst {p : Prop} (h : (s.tbOf i).stepUsed = false) : p := absurd (hused.trans h) (by simpa using hstepped)
    split
    · rw [State.tbOf_noteStep, State.tbOf_setTb]
      exact ⟨hexch, rfl, hnotFirst⟩
    · split
      rw [State.tbOf_setTb]
      obtain ⟨htexch, htsrc⟩ := Timebase.track_keeps _ o _ _
      exact ⟨htexch.trans hexch, htsrc, hnotFirst⟩

/-- A delay of 0 to 100 us, in 2^-17 ns, is none of Table 6-16 row 8. -/
theorem delayBad_of_within {n : Int} (h0 : 0 ≤ n) (h1 : n ≤ 13107200000) : delayBad ((n : Rat) / 131072) = false := by
  have h0' : (0 : Rat) ≤ n := by exact_mod_cast h0
  have h1' : (n : Rat) ≤ 13107200000 := by exact_mod_cast h1
  unfold delayBad
  rw [Bool.or_eq_false_iff, decide_eq_false_iff_not, decide_eq_false_iff_not, not_lt, not_lt, div_le_iff₀ (by norm_num)]
  exact ⟨by positivity, by linarith⟩

end Sys2Proof.Machine
end

section
/-! SUPPORT. The time exchanges on Stem and Canopy and the timing card (R163, R164, R169 to R172). -/

namespace Sys2Proof.Machine
open Sys2Proof

/-! ### TIME flits and messages leave by a link -/

theorem Sends.tsrc {s t : State} (h : Sends s t) : t.tsrc = s.tsrc := congrArg (fun u => u.tsrc) h.rest

theorem State.sendTime_sends (s : State) (e : LinkId) (sub : Nat) (payload : Bytes) : Sends s (s.sendTime e sub payload) :=
  .branch (Sends.refl s).modLink (Sends.refl s).enqueue

theorem State.sendTime_zx (s : State) (e : LinkId) (sub : Nat) (payload : Bytes) : (s.sendTime e sub payload).zx = s.zx :=
  (Grows.refl true s).sendTime.zx rfl

/-- A TIME flit is fixed where none is fixed yet. -/
theorem State.sendTime_fixes {s : State} {e : LinkId} (h : (s.link e).timeFixed = none) (sub : Nat) (payload : Bytes) :
    ((s.sendTime e sub payload).link e).timeFixed.map (fun b => (b.ty, b.sub)) = some (5, sub) := by
  unfold State.sendTime
  dsimp only
  rw [if_pos h, State.link_modLink]
  rfl

theorem State.sendTime_link_other (s : State) {e e' : LinkId} (h : e'.key ≠ e.key) (sub : Nat) (payload : Bytes) :
    (s.sendTime e sub payload).link e' = s.link e' := by
  unfold State.sendTime State.enqueue
  dsimp only
  split <;> rw [State.link_modLink_any, if_neg h]

theorem State.sendPtp_sends (s : State) (sub src dst hops : Nat) (mk : Nat → Bytes) (own : Bool) :
    Sends s (s.sendPtp sub src dst hops mk own) := by
  unfold State.sendPtp
  split
  · next e => exact (Sends.refl s).outPort.snd_eq e
  · next e => exact ((Sends.refl s).outPort.snd_eq e).enqueue

theorem LinkKept.sendPtp {s t : State} (h : LinkKept LinkEnd.unqueued s t) {sub src dst hops mk own} :
    LinkKept LinkEnd.unqueued s (t.sendPtp sub src dst hops mk own) := by
  unfold State.sendPtp
  split
  · next e => exact h.outPort.snd_eq e
  · next e => exact (h.outPort.snd_eq e).enqueue

/-! ### What the message consumed leaves alone -/

/-- A message consumed leaves of every link end what does not read the messages delivered. -/
theorem State.consume_keeps (s : State) (e e' : LinkId) (ty sub : Nat) {α : Type} (g : LinkEnd → α)
    (hg : ∀ l m, g { l with inbox := m } = g l := by exact fun _ _ => rfl) : g ((s.consume e ty sub).link e') = g (s.link e') :=
  (LinkKept.refl g s).modLink (fun l => hg l _) e'

/-- The receive stamp of a Canopy message is that of the state it is received in. -/
theorem State.canopyStamp_consume (s : State) (e : LinkId) (ty sub q ago : Nat) :
    (s.consume e ty sub).canopyStamp q ago = s.canopyStamp q ago := by
  unfold State.canopyStamp State.deskew0
  rw [s.consume_keeps e (.canopy q) ty sub LinkEnd.deskew]
  rfl

/-! ### SYNC_SEND (R170) -/

/-- The SYNC of one Stem port. -/
def State.stemSync (ahead : SMap Nat) (s : State) (p : Nat) : State :=
  if (s.link (.stem p)).lstate = .active then
    let n := ((s.tsrc.stem.getD p (0, false)).1 + 1) % 65536
    let s := { s with tsrc := { s.tsrc with stem := s.tsrc.stem.set p (n, true) } }
    s.sendTime (.stem p) 0 (timePayload (s.stampAhead 1 (ahead.getD p aheadMin)) n (s.rd BX_TB_SRC_SYNC_PERIOD_US) (stemTxLat p) 0)
  else s

theorem State.stemSyncs_eq (s : State) (ahead : SMap Nat) : s.stemSyncs ahead = (List.range 65).foldl (State.stemSync ahead) s := rfl

/-- What a Stem port's exchanges read: the number of the last one and whether it is open, and the port's link end. -/
def State.stemTime (s : State) (p : Nat) : (Nat × Bool) × LinkEnd := (SMap.getD s.tsrc.stem p (0, false), s.link (.stem p))

/-- An exchange with the next number is open at a port, and a SYNC is fixed there: the port after in state u, before in s. -/
def SyncFixed (s u : State) (p : Nat) : Prop :=
  SMap.getD u.tsrc.stem p (0, false) = (((SMap.getD s.tsrc.stem p (0, false)).1 + 1) % 65536, true) ∧
    (u.link (.stem p)).timeFixed.map (fun b => (b.ty, b.sub)) = some (5, 0)

theorem State.stemSync_fixes {s : State} {p : Nat} (ahead : SMap Nat) (ha : (s.link (.stem p)).lstate = .active)
    (ht : (s.link (.stem p)).timeFixed = none) : SyncFixed s (s.stemSync ahead p) p := by
  unfold State.stemSync
  rw [if_pos ha]
  dsimp only
  constructor
  · rw [(State.sendTime_sends _ _ _ _).tsrc]
    exact SMap.getD_set_same _ _ _ _
  · refine State.sendTime_fixes ?_ _ _
    exact ht

theorem State.stemTime_stemSync_other (s : State) (ahead : SMap Nat) {p k : Nat} (h : p ≠ k) : (s.stemSync ahead k).stemTime p = s.stemTime p := by
  unfold State.stemSync
  split
  · dsimp only
    unfold State.stemTime
    have hkey : (LinkId.stem p).key ≠ (LinkId.stem k).key := fun e => h (Nat.add_left_cancel e)
    rw [(State.sendTime_sends _ _ _ _).tsrc, State.sendTime_link_other _ hkey, SMap.getD_set_other _ _ _ h]
    rfl
  · rfl

theorem State.stemTime_foldl_stemSync (s : State) (ahead : SMap Nat) {l : List Nat} {p : Nat} (h : p ∉ l) :
    (l.foldl (State.stemSync ahead) s).stemTime p = s.stemTime p :=
  List.foldlRecOn (motive := fun (t : State) => t.stemTime p = s.stemTime p) _ _ rfl fun t ht _ hk =>
    (t.stemTime_stemSync_other ahead (ne_of_mem_of_not_mem hk h).symm).trans ht

/-- The SYNCs of the other ports leave a port's exchange and its link end alone. -/
theorem State.stemSyncs_fixes {s : State} {p : Nat} (ahead : SMap Nat) (hp : p < 65) (ha : (s.link (.stem p)).lstate = .active)
    (ht : (s.link (.stem p)).timeFixed = none) : SyncFixed s (s.stemSyncs ahead) p := by
  obtain ⟨before, after, hsplit⟩ := List.append_of_mem (List.mem_range.mpr hp)
  have hnodup : p ∉ before ∧ p ∉ after := by
    have h := List.nodup_range (n := 65)
    rw [hsplit, List.nodup_middle, List.nodup_cons, List.mem_append, not_or] at h
    exact h.1
  let t := before.foldl (State.stemSync ahead) s
  have hbefore : t.stemTime p = s.stemTime p := s.stemTime_foldl_stemSync ahead hnodup.1
  have hafter : (s.stemSyncs ahead).stemTime p = (t.stemSync ahead p).stemTime p := by
    rw [State.stemSyncs_eq, hsplit, List.foldl_append, List.foldl_cons]
    exact State.stemTime_foldl_stemSync _ ahead hnodup.2
  obtain ⟨hnum, hlink⟩ := Prod.mk.inj hbefore
  obtain ⟨hnum', hlink'⟩ := Prod.mk.inj hafter
  have hfix := t.stemSync_fixes ahead (hlink ▸ ha) (hlink ▸ ht)
  unfold SyncFixed at hfix ⊢
  rwa [hnum', hlink', ← hnum]

/-- The Syncs of the Canopy children leave the Stem exchanges alone, and of the link ends all but what waits. -/
theorem State.canopySyncs_keeps (s : State) (ahead : SMap Nat) : (s.canopySyncs ahead).tsrc.stem = s.tsrc.stem ∧
    LinkKept LinkEnd.unqueued s (s.canopySyncs ahead) :=
  List.foldlRecOn (motive := fun (t : State) => t.tsrc.stem = s.tsrc.stem ∧ LinkKept LinkEnd.unqueued s t) _ _ ⟨rfl, .refl _ s⟩
    fun _ ht _ _ => ⟨(congrArg TimeSource.stem (State.sendPtp_sends _ _ _ _ _ _ _).tsrc).trans (by exact ht.1), (LinkKept.set ht.2).sendPtp⟩

theorem SyncFixed.canopySyncs {s t : State} {p : Nat} (h : SyncFixed s t p) (ahead : SMap Nat) : SyncFixed s (t.canopySyncs ahead) p := by
  obtain ⟨hstem, hlinks⟩ := t.canopySyncs_keeps ahead
  have htime : ((t.canopySyncs ahead).link (.stem p)).timeFixed = (t.link (.stem p)).timeFixed := hlinks.field LinkEnd.timeFixed _
  unfold SyncFixed
  rw [hstem, htime]
  exact h

theorem syncSend_fixes {s : State} {p : Nat} (st ct : SMap Nat) (hp : p < 65) (ha : (s.link (.stem p)).lstate = .active)
    (ht : (s.link (.stem p)).timeFixed = none) : Answers (.syncSend st ct) s (fun u => SyncFixed s u p) :=
  ⟨(s.stemSyncs st).canopySyncs ct, rfl, (State.stemSyncs_fixes st hp ha ht).canopySyncs ct⟩

/-! ### The exchange with a ZX40 (R170) -/

theorem syncReceive_opens (s : State) (exch period origin : Nat) (corr : Int) (ago ahead : Nat) :
    Answers (.syncReceive exch period origin corr ago ahead) s (fun u =>
      u.zx.tb.exch.map (fun x => (x.num, x.t1, x.period)) = some (exch % 65536, (origin : Int) + corr, period)) := by
  exact ⟨_, rfl, congrArg (fun z : Zx => z.tb.exch.map (fun x => (x.num, x.t1, x.period))) (State.sendTime_zx _ _ _ _)⟩

theorem delayReqReceive_answers {s : State} {p exch : Nat} (ago ahead : Nat) (hx : s.tsrc.stem.find? p = some (exch % 65536, true))
    (ht : (s.link (.stem p)).timeFixed = none) : Answers (.delayReqReceive p exch ago ahead) s (fun u =>
      SMap.getD u.tsrc.stem p (0, true) = (exch % 65536, false) ∧
      (u.link (.stem p)).timeFixed.map (fun b => (b.ty, b.sub)) = some (5, 2)) := by
  let s₁ := s.consume (.stem p) 5 1
  let s₂ := { s₁ with tsrc := { s₁.tsrc with stem := s₁.tsrc.stem.set p (exch % 65536, false) } }
  let t4 := (s₁.stampAgo 1 ago - stemRxLat p - s₁.deskew0 (.stem p)).toNat
  have hfree : (s₂.link (.stem p)).timeFixed = none := (s.consume_keeps _ _ _ _ LinkEnd.timeFixed).trans ht
  refine ⟨s₂.sendTime (.stem p) 2 (timePayload (s₂.stampAhead 1 ahead) (exch % 65536) 0 (stemTxLat p) t4), ?_, ?_,
    State.sendTime_fixes hfree _ _⟩
  · change execDelayReqReceive p exch ago ahead s = done _
    unfold execDelayReqReceive
    have hx' : s₁.tsrc.stem.find? p = some (exch % 65536, true) := hx
    simp only [hx', s₁, s₂, t4, if_true]
  · rw [(State.sendTime_sends _ _ _ _).tsrc]
    exact SMap.getD_set_same _ _ _ _

theorem delayRespReceive_measures {s : State} {exch t4 : Nat} {x : Exchange} (hx : s.zx.tb.exch = some x) (hn : x.num = exch % 65536)
    (h0 : 0 ≤ (x.t2 - x.t1) + ((t4 : Int) - x.t3)) (h1 : (x.t2 - x.t1) + ((t4 : Int) - x.t3) ≤ 13107200000) :
    Answers (.delayRespReceive exch t4) s (fun u => u.zx.tb.exch = none ∧ u.zx.tb.srcOk = true ∧
      (s.zx.tb.stepUsed = false → u.zx.tb.state = .settling ∧ u.zx.tb.stepUsed = true)) := by
  let s₁ := s.consume .zx 5 2
  let s₂ := { s₁ with zx := { s₁.zx with tb := { s₁.zx.tb with exch := none } } }
  let m := s₂.measure 0 (((x.t2 - x.t1) - ((t4 : Int) - x.t3) : Int) / 131072) (some (((x.t2 - x.t1) + ((t4 : Int) - x.t3) : Int) / 131072))
    (x.period * 1000)
  obtain ⟨hexch, hsrc, hfirst⟩ : Measured (s₂.tbOf 0) (m.tbOf 0) := s₂.measure_measured 0 _ _ _
  refine ⟨m, ?_, hexch, hsrc, hfirst⟩
  change execDelayRespReceive exch t4 s = done _
  have hx' : s₁.zx.tb.exch = some x := hx
  unfold execDelayRespReceive
  dsimp only
  rw [hx']
  dsimp only
  rw [if_neg (not_not.mpr hn), delayBad_of_within h0 h1]
  rfl

/-! ### The exchange on Canopy (R171, R172) -/

theorem canopySyncReceive_opens {s : State} {q src : Nat} {msg : Bytes} (ago ahead : Nat) (hok : s.ptpOk msg 0 src = true)
    (hport : s.timePort q = true) : Answers (.canopySyncReceive q src msg ago ahead) s (fun u =>
      u.bxTb.exch.map (fun x => (x.num, x.t1, x.cS, x.t2, x.t3)) = some (ptpSeq msg, (ptpStamp msg : Int), ptpCorr msg + s.asym,
        s.canopyStamp q ago, (s.stampAhead 1 ahead : Int))) := by
  let s₁ := s.consume (.canopy q) 5 0
  have hok' : s₁.ptpOk msg 0 src = true := hok
  have hport' : s₁.timePort q = true := hport
  refine ⟨_, by
    change execCanopySyncReceive q src msg ago ahead s = done _
    unfold execCanopySyncReceive
    dsimp only
    rw [if_neg (not_not.mpr hok'), if_neg (not_not.mpr hport')], ?_⟩
  refine (congrArg (fun t : Timebase => t.exch.map (fun x => (x.num, x.t1, x.cS, x.t2, x.t3))) (State.sendPtp_sends _ _ _ _ _ _ _).bxTb).trans ?_
  change some (ptpSeq msg, (ptpStamp msg : Int), ptpCorr msg + s.asym, s₁.canopyStamp q ago, (s.stampAhead 1 ahead : Int)) = _
  rw [State.canopyStamp_consume]

theorem canopyDelayReqReceive_ends {s : State} {src : Nat} {msg : Bytes} (q ago : Nat) (hok : s.ptpOk msg 1 src = true)
    (hx : s.tsrc.canopy.find? src = some (ptpSeq msg, true)) : Answers (.canopyDelayReqReceive q src msg ago) s (fun u =>
      SMap.getD u.tsrc.canopy src (0, true) = (ptpSeq msg, false)) := by
  let s₁ := s.consume (.canopy q) 5 1
  have hok' : s₁.ptpOk msg 1 src = true := hok
  have hx' : s₁.tsrc.canopy.find? src = some (ptpSeq msg, true) := hx
  refine ⟨_, by
    change execCanopyDelayReqReceive q src msg ago s = done _
    unfold execCanopyDelayReqReceive
    dsimp only
    rw [if_neg (not_not.mpr hok'), hx']
    dsimp only
    rw [if_pos rfl], ?_⟩
  exact (congrArg (fun t : TimeSource => SMap.getD t.canopy src (0, true)) (State.sendPtp_sends _ _ _ _ _ _ _).tsrc).trans
    (SMap.getD_set_same _ _ _ _)

/-- A measurement over Canopy is one of BX64's timebase. -/
theorem State.canopyMeasure_measured (s : State) (x : Exchange) (o d : Rat) : Measured s.bxTb (s.canopyMeasure x o d).bxTb := by
  have hmeasured {t : State} (ht : t.bxTb = s.bxTb) : Measured s.bxTb (t.measure 1 o (some d) (x.period * 1000)).bxTb :=
    ht ▸ t.measure_measured 1 o (some d) (x.period * 1000)
  refine hmeasured ?_
  split <;> rfl

theorem canopyDelayRespReceive_measures {s : State} {q src : Nat} {msg : Bytes} {x : Exchange} (hok : s.ptpOk msg 9 src = true)
    (hx : s.bxTb.exch = some x) (hn : x.num = ptpSeq msg) (hsrc : x.src = src)
    (hreq : (msg.drop 44).take 10 = ptpPort (s.rd BX_CNP_IDENT_FLEET_ID) s.agg x.reqPort) (hport : s.timePort x.q = true)
    (h0 : 0 ≤ (x.t2 - x.t3) + ((ptpStamp msg : Int) - x.t1) - x.cS - ptpCorr msg)
    (h1 : (x.t2 - x.t3) + ((ptpStamp msg : Int) - x.t1) - x.cS - ptpCorr msg ≤ 13107200000) :
    Answers (.canopyDelayRespReceive ⟨q, src⟩ msg) s (fun u => u.bxTb.exch = none ∧ u.bxTb.srcOk = true ∧
      (s.bxTb.stepUsed = false → u.bxTb.state = .settling)) := by
  let s₁ := s.consume (.canopy q) 5 2
  let s₂ := { s₁ with bxTb := { s₁.bxTb with exch := none } }
  let d : Rat := ((x.t2 - x.t3) + ((ptpStamp msg : Int) - x.t1) - x.cS - ptpCorr msg : Int) / 131072
  let o : Rat := ((x.t2 - x.t1 - x.cS : Int) : Rat) / 65536 - d
  obtain ⟨hexch, hok₂, hfirst⟩ := s₂.canopyMeasure_measured x o d
  refine ⟨s₂.canopyMeasure x o d, ?_, hexch, hok₂, fun h => (hfirst h).1⟩
  change execCanopyDelayRespReceive ⟨q, src⟩ msg s = done _
  have hok' : s₁.ptpOk msg 9 src = true := hok
  have hx' : s₁.bxTb.exch = some x := hx
  have hport' : s₂.timePort x.q = true := hport
  unfold execCanopyDelayRespReceive
  dsimp only
  rw [if_neg (not_not.mpr hok'), hx']
  dsimp only
  rw [if_neg (by simp only [not_or, not_not]; exact ⟨hn, hsrc, hreq⟩), if_neg (not_not.mpr hport'), delayBad_of_within h0 h1]
  rfl

theorem timeRelay_passes {s : State} {q sub src dst hops : Nat} {o : Nat} (msg : Bytes) (ago ahead : Nat) (hh : hops ≠ 0)
    (ho : (s.consume (.canopy q) 5 sub).outPort 5 sub src dst = (some o, s.consume (.canopy q) 5 sub)) :
    Answers (.timeRelay q sub src dst hops msg ago ahead) s (fun u => (u.link (.canopy o)).wait.map (fun w => w.2.body.hops) =
      (s.link (.canopy o)).wait.map (fun w => w.2.body.hops) ++ [hops - 1]) := by
  refine ⟨_, by
    change execTimeRelay q sub src dst hops msg ago ahead s = done _
    unfold execTimeRelay
    rw [if_neg hh], ?_⟩
  unfold State.sendPtp
  rw [ho]
  dsimp only
  unfold State.enqueue
  rw [State.link_modLink, ← s.consume_keeps (.canopy q) (.canopy o) 5 sub LinkEnd.wait]
  exact List.map_append

/-! ### The timing card (R169) -/

theorem ppsEdge_taken {s : State} (ago : Nat) (hmode : s.rd BX_TB_SRC_MODE = 1) (hspaced : s.ppsSpaced (s.stampAgo 1 ago).toNat = true)
    (htod : s.pps.tod = none) : Answers (.ppsEdge ago true) s (fun u => u.pps.lastEdge = some (s.stampAgo 1 ago).toNat ∧ u.pps.tod = none ∧
      u.regs = s.regs) := by
  let t := { s with pps := { s.pps with lastEdge := some (s.stampAgo 1 ago).toNat, edgeRun := s.bxTb.run, tod := none } }
  refine ⟨t.beginExchange 1, ?_, rfl, rfl, rfl⟩
  change execPpsEdge ago true s = done _
  unfold execPpsEdge
  dsimp only
  rw [if_neg (not_not.mpr hmode), if_neg (by simp [hspaced]), htod]

theorem todFrame_taken {s : State} {f : Bytes} {e : Nat} (hmode : s.rd BX_TB_SRC_MODE = 1) (hlen : f.length = 16) (hmark : rdLe f 0 2 = 0xA55A)
    (hver : rdLe f 2 1 = 1) (hcrc : crc32c (f.take 12) = rdLe f 12 4) (hedge : s.pps.lastEdge = some e)
    (hearly : e + 200000000 * 65536 ≤ s.bxRc) (hlate : s.bxRc ≤ e + 900000000 * 65536) (hvalid : bitAt (rdLe f 3 1) 0 = true)
    (hwhole : rdLe f 4 8 % 1000000000 = 0) (hused : s.bxTb.stepUsed = false) : Answers (.todFrame f) s (fun u =>
      u.pps.tod = some (rdLe f 4 8) ∧ u.pps.lastTod = some (rdLe f 4 8) ∧ u.regs = s.regs) := by
  refine ⟨{ s with pps := { s.pps with
    cardHoldover := bitAt (rdLe f 3 1) 1, lastTod := some (rdLe f 4 8), invalid := !bitAt (rdLe f 3 1) 0, tod := some (rdLe f 4 8) } },
    ?_, rfl, rfl, rfl⟩
  change execTodFrame f s = done _
  have htimely : (200000000 * 65536 ≤ (s.bxRc : Int) - e ∧ (s.bxRc : Int) - e ≤ 900000000 * 65536) := by omega
  unfold execTodFrame
  dsimp only
  rw [hedge]
  dsimp only
  rw [if_neg (not_not.mpr hmode), if_neg (by simp [hlen, hmark, hver, hcrc]), if_neg (by simpa using htimely), if_neg (not_not.mpr hvalid),
    if_neg (by simp [hwhole, hused])]

/-- Settles O19: a SYNC of another port leaves a port's exchange alone, a measurement keeps the exchange ended and steps the first time, and
what is sent changes neither timebase nor exchange. -/
theorem timeExchangesComplete : Obligations.TimeExchangesComplete :=
  ⟨fun _ st ct _ hp ha ht => syncSend_fixes st ct hp ha ht,
    fun s exch period origin corr ago ahead => syncReceive_opens s exch period origin corr ago ahead,
    fun _ _ _ ago ahead hx ht => delayReqReceive_answers ago ahead hx ht,
    fun _ _ _ _ hx hn h0 h1 => delayRespReceive_measures hx hn h0 h1,
    fun _ _ _ _ ago ahead hok hport => canopySyncReceive_opens ago ahead hok hport,
    fun _ q _ _ ago hok hx => canopyDelayReqReceive_ends q ago hok hx,
    fun _ _ _ _ _ hok hx hn hsrc hreq hport h0 h1 => canopyDelayRespReceive_measures hok hx hn hsrc hreq hport h0 h1,
    fun _ _ _ _ _ _ msg ago ahead _ hh ho => timeRelay_passes msg ago ahead hh ho,
    fun _ ago hmode hspaced htod => ppsEdge_taken ago hmode hspaced htod,
    fun _ _ _ hmode hlen hmark hver hcrc hedge hearly hlate hvalid hwhole hused =>
      todFrame_taken hmode hlen hmark hver hcrc hedge hearly hlate hvalid hwhole hused⟩

end Sys2Proof.Machine
end

section
/-! SUPPORT. Loss of the source, holdover, RESYNC, launch-at-count triggers, the 1PPS output and the time opcodes (R166 to R168, R175 to R177,
Table 16-13). -/

namespace Sys2Proof.Machine
open Sys2Proof

/-! ### Loss of the source, HOLDOVER and RESYNC (R166, R167) -/

/-- The loss of PRIMARY by itself is noted where CANOPY mode has it (R168). -/
def State.checkPrimary (s : State) (i : Nat) : State :=
  if i = 1 ∧ s.rd BX_TB_SRC_MODE = 2 ∧ s.tsrc.primaryMeas + nsRun (s.fourPeriods 1) ≤ s.bxTb.run then
    { s with tsrc := { s.tsrc with primaryLost := true } } else s

theorem State.checkPrimary_tbOf (s : State) (i j : Nat) : (s.checkPrimary i).tbOf j = s.tbOf j := by
  unfold State.checkPrimary
  split <;> rfl

theorem State.checkPrimary_sourceLost (s : State) (i j : Nat) : (s.checkPrimary i).sourceLost j = s.sourceLost j := by
  unfold State.checkPrimary
  split <;> rfl

theorem tbSourceLost_holds {s : State} {p : Part} (hl : (s.tbOf (if p = .zx then 0 else 1)).state = .locked)
    (hs : s.sourceLost (if p = .zx then 0 else 1) = true) : Answers (.tbSourceLost p) s (fun u =>
      (u.tbOf (if p = .zx then 0 else 1)).state = .holdover ∧ (u.tbOf (if p = .zx then 0 else 1)).srcOk = false ∧
      (u.tbOf (if p = .zx then 0 else 1)).count = (s.tbOf (if p = .zx then 0 else 1)).count) := by
  let i := if p = .zx then 0 else 1
  let t := s.checkPrimary i
  let x : Timebase := { t.tbOf i with srcOk := false, state := .holdover, goodRun := 0, lostAt := (t.tbOf i).run }
  have hlost : t.sourceLost i = true := (s.checkPrimary_sourceLost i i).trans hs
  have htb : t.tbOf i = s.tbOf i := s.checkPrimary_tbOf i i
  have hset : (t.setTb i x).tbOf i = x := t.tbOf_setTb i x
  have hcount : x.count = (s.tbOf i).count := by rw [← htb]
  refine ⟨t.setTb i x, ?_, congrArg Timebase.state hset, congrArg Timebase.srcOk hset, (congrArg Timebase.count hset).trans hcount⟩
  change (if ¬ t.sourceLost i then done t else if (t.tbOf i).state = .locked then done (t.setTb i x) else _) = _
  rw [if_neg (not_not.mpr hlost), if_pos ((congrArg Timebase.state htb).trans hl)]
  rfl

theorem State.expireHoldover_counts {s : State} {i : Nat} (h : s.holdoverOver i = true) :
    ((s.expireHoldover i).tbOf i).state = .unlocked ∧ s.counted (s.expireHoldover i) TB_STS_LOCK_LOSSES i 1 := by
  let t := s.setTb i { s.tbOf i with state := .unlocked, goodRun := 0, badRun := 0 }
  have hstate : ((t.bump TB_STS_LOCK_LOSSES i).tbOf i).state = .unlocked := congrArg Timebase.state (s.tbOf_setTb i _)
  have hcount : s.counted (t.bump TB_STS_LOCK_LOSSES i) TB_STS_LOCK_LOSSES i 1 := by
    have hrd : t.rd TB_STS_LOCK_LOSSES i = s.rd TB_STS_LOCK_LOSSES i := State.rd_congr (s.setTb_regs i _) _ _
    unfold State.counted
    rw [← hrd]
    exact t.counted_bump TB_STS_LOCK_LOSSES i 1
  unfold State.expireHoldover
  rw [if_pos h]
  dsimp only
  split
  · refine ⟨?_, ?_⟩
    · rw [State.tbOf_ls]
      exact hstate
    · exact (State.rd_ls _ _ _ (by decide) (by decide)).trans hcount
  · exact ⟨hstate, hcount⟩

theorem holdoverExpiry_unlocks {s : State} {p : Part} (h : s.holdoverOver (if p = .zx then 0 else 1) = true) :
    Answers (.holdoverExpiry p) s (fun u => (u.tbOf (if p = .zx then 0 else 1)).state = .unlocked ∧
      s.counted u TB_STS_LOCK_LOSSES (if p = .zx then 0 else 1) 1) :=
  ⟨_, rfl, State.expireHoldover_counts h⟩

theorem State.reply_bxTb (s : State) (c : Cap) (op status : Nat) (res : List Nat) : (s.reply c op status res).bxTb = s.bxTb :=
  (EpochKept.refl s).reply.bxTb

theorem resync_grants {s : State} {c : Cap} (hc : c.isOp = true) (hl : 2 ≤ c.params.length) (h0 : c.p 0 = 0) : Answers (.resync c) s (fun u =>
    u.bxTb.grant = some 16 ∧ u.replied c 0x0103 S_OK []) := by
  let t := s.setTb 1 { s.bxTb with grant := some 16 }
  refine ⟨t.reply c 0x0103 S_OK, ?_, ?_, t.reply_replied c _ _ _ 0 none⟩
  · change execResync c s = done _
    unfold execResync
    rw [s.checked_of_allowed hc hl]
    dsimp only
    rw [h0]
    rfl
  · rw [State.reply_bxTb]
    rfl

theorem resyncGrantLapse_lapses {s : State} {p : Part} (h : (s.tbOf (if p = .zx then 0 else 1)).grant = some 0) :
    Answers (.resyncGrantLapse p) s (fun u => (u.tbOf (if p = .zx then 0 else 1)).grant = none ∧ u.regs = s.regs) := by
  refine ⟨s.setTb (if p = .zx then 0 else 1) { s.tbOf (if p = .zx then 0 else 1) with grant := none }, ?_, ?_, s.setTb_regs _ _⟩
  · exact congrArg done (if_pos h)
  · rw [State.tbOf_setTb]

/-! ### Launch-at-count triggers (R175, R176) -/

theorem State.lac_setLac (s : State) (k : Nat) (x : Lac) : (s.setLac k x).lac k = x := SMap.getD_set_same _ _ _ _

theorem State.lac_congr {s t : State} (h : t.zx = s.zx) (k : Nat) : t.lac k = s.lac k := congrArg (fun z : Zx => z.lacs.getD k {}) h

theorem State.ls_out (s : State) (k n : Nat) : (s.ls k n).out = s.out := by
  unfold State.ls
  split <;> rfl

/-- A trigger that fires: its output is driven for WIDTH ticks, the pulse counts, and the target and every other register stay. -/
structure LacFired (s : State) (k : Nat) (u : State) : Prop where
  high : (u.lac k).high = max 1 (s.rd ZX_LAC_CFG_WIDTH k)
  out : u.out = s.out ++ [.lacPulse k (max 1 (s.rd ZX_LAC_CFG_WIDTH k))]
  count : s.lsUp u 0xC9 1
  now : u.zxRc = s.zxRc
  regs : RegsKept [.ZX_LS_VAL] s u

theorem State.lacPulse_fires (s : State) (k : Nat) : LacFired s k (s.lacPulse k) := by
  let w := max 1 (s.rd ZX_LAC_CFG_WIDTH k)
  let t := (s.setLac k { s.lac k with high := w }).emit (.lacPulse k w)
  have hzx : (s.lacPulse k).zx = t.zx := t.ls_zx _ _
  exact {
    high := by rw [State.lac_congr hzx]; exact congrArg Lac.high (s.lac_setLac k _)
    out := t.ls_out _ _
    count := t.lsUp_ls 0xC9 1
    now := (congrArg (fun z : Zx => z.tb.rc) hzx).trans rfl
    regs := fun f i hlo hf => t.rd_ls _ _ hlo (List.ne_of_not_mem_cons hf) }

theorem LacFired.flag_arm {s u : State} {k : Nat} (h : LacFired s k u) : u.flag ZX_LAC_CFG_ARM k = s.flag ZX_LAC_CFG_ARM k := by
  unfold State.flag
  rw [h.regs ZX_LAC_CFG_ARM k (by decide) (by decide)]

theorem LacFired.period {s u : State} {k : Nat} (h : LacFired s k u) : u.lacPeriod k = s.lacPeriod k := by
  unfold State.lacPeriod State.flag
  rw [h.regs ZX_LAC_CFG_PERIODIC k (by decide) (by decide), h.regs ZX_LAC_CFG_PERIOD_NS k (by decide) (by decide)]

/-- Targets passed over count in another counter of the light set. -/
theorem LacFired.late {s u : State} {k : Nat} (h : LacFired s k u) (n : Nat) : LacFired s k (u.ls 0xCA n) where
  high := by rw [State.lac_congr (u.ls_zx _ _)]; exact h.high
  out := (u.ls_out _ _).trans h.out
  count := (u.rd_ls_other n (by decide)).trans h.count
  now := (congrArg (fun z : Zx => z.tb.rc) (u.ls_zx 0xCA n)).trans h.now
  regs := fun f i hlo hf => (u.rd_ls _ _ hlo (List.ne_of_not_mem_cons hf)).trans (h.regs f i hlo hf)

/-- The next target of a periodic trigger is the first one past now. -/
theorem next_target {target per now : Nat} (hdue : target ≤ now) (hper : per ≠ 0) : now < target + per + passed (target + per) per now * per ∧
    target + per + passed (target + per) per now * per ≤ now + per := by
  unfold passed
  split
  · omega
  · have hmod := Nat.div_add_mod (now - (target + per)) per
    have hlt := Nat.mod_lt (now - (target + per)) (Nat.pos_of_ne_zero hper)
    rw [Nat.mul_comm] at hmod
    rw [Nat.add_mul, Nat.one_mul]
    omega

section
variable {s : State} {k : Nat} (hk : k < 8) (harm : s.flag ZX_LAC_CFG_ARM k = true) (hdue : (s.lac k).target ≤ s.zxRc)
include hk harm hdue

theorem lac_fires : ¬ (8 ≤ k ∨ ¬ s.flag ZX_LAC_CFG_ARM k ∨ s.zxRc < (s.lac k).target) := by
  rw [not_or, not_or, not_not]
  exact ⟨Nat.not_le.mpr hk, harm, Nat.not_lt.mpr hdue⟩

theorem lacFire_single (hper : s.lacPeriod k = 0) : Answers (.lacFire k) s (fun u => u.rd ZX_LAC_CFG_ARM k = 0 ∧
    u.out = s.out ++ [.lacPulse k (max 1 (s.rd ZX_LAC_CFG_WIDTH k))] ∧ (u.lac k).high = max 1 (s.rd ZX_LAC_CFG_WIDTH k) ∧
    s.lsUp u 0xC9 1) := by
  have hfired := s.lacPulse_fires k
  refine ⟨(s.lacPulse k).wr ZX_LAC_CFG_ARM k 0, ?_, State.rd_wr_same _ _ _ _, hfired.out, hfired.high, State.lsUp_wr hfired.count⟩
  change execLacFire k s = done _
  unfold execLacFire
  dsimp only
  rw [if_neg (lac_fires hk harm hdue), hfired.period, if_pos hper]

theorem lacFire_periodic (hper : s.lacPeriod k ≠ 0) : Answers (.lacFire k) s (fun u => u.flag ZX_LAC_CFG_ARM k = true ∧
    s.zxRc < (u.lac k).target ∧ (u.lac k).target ≤ s.zxRc + s.lacPeriod k ∧
    u.out = s.out ++ [.lacPulse k (max 1 (s.rd ZX_LAC_CFG_WIDTH k))]) := by
  have hpulse := s.lacPulse_fires k
  let n := passed ((s.lac k).target + s.lacPeriod k) (s.lacPeriod k) s.zxRc
  let t := if n = 0 then s.lacPulse k else (s.lacPulse k).ls 0xCA n
  have hfired : LacFired s k t := by
    dsimp only [t]
    split
    · exact hpulse
    · exact hpulse.late n
  obtain ⟨hlater, hsoon⟩ := next_target hdue hper
  refine ⟨t.setLac k { t.lac k with target := (s.lac k).target + s.lacPeriod k + n * s.lacPeriod k }, ?_, ?_, ?_, ?_, ?_⟩
  · change execLacFire k s = done _
    unfold execLacFire
    dsimp only
    rw [if_neg (lac_fires hk harm hdue), hpulse.period, if_neg hper, hpulse.now]
  · rw [State.flag, State.rd_setLac]
    exact hfired.flag_arm.trans harm
  · rw [State.lac_setLac]
    exact hlater
  · rw [State.lac_setLac]
    exact hsoon
  · rw [State.setLac_out]
    exact hfired.out

end

/-- ZX_LAC_k_CFG written, WIDTH at least 1. -/
def State.writeLacCfg (s : State) (k v : Nat) : State :=
  (((((s.wr ZX_LAC_CFG_ARM k (bits v 63 63)).wr ZX_LAC_CFG_PERIODIC k (bits v 62 62)).wr ZX_LAC_CFG_LATE_FIRE k (bits v 61 61)).wr
    ZX_LAC_CFG_PERIOD_NS k (bits v 47 16)).wr ZX_LAC_CFG_TGT_FRAC k (bits v 15 0)).wr ZX_LAC_CFG_WIDTH k (max 1 (bits v 55 48))

theorem State.rd_writeLacCfg_arm (s : State) (k v : Nat) : (s.writeLacCfg k v).rd ZX_LAC_CFG_ARM k = bits v 63 63 := by
  unfold State.writeLacCfg
  simp (disch := decide) only [State.rd_wr_otherLo, State.rd_wr_same]
  exact Nat.mod_mod _ _

theorem State.writeLacCfg_regs (s : State) (k v : Nat) : RegsKept [.ZX_LAC_CFG] s (s.writeLacCfg k v) :=
  (RegsKept.refl _ s).wr.wr.wr.wr.wr.wr

theorem lacArm_arms {s : State} {k v : Nat} (hk : k < 8) (harm : bitAt v 63 = true)
    (hlater : s.zxRc < s.rd ZX_LAC_TGT_TGT_NS k * 65536 + bits v 15 0) : Answers (.lacArm k v) s (fun u => u.rd ZX_LAC_CFG_ARM k = 1 ∧
      (u.lac k).target = s.rd ZX_LAC_TGT_TGT_NS k * 65536 + bits v 15 0 ∧ u.out = s.out) := by
  let t := s.writeLacCfg k v
  have htgt : t.rd ZX_LAC_TGT_TGT_NS k = s.rd ZX_LAC_TGT_TGT_NS k := s.writeLacCfg_regs k v _ _ (by decide) (by decide)
  refine ⟨t.setLac k { t.lac k with target := s.rd ZX_LAC_TGT_TGT_NS k * 65536 + bits v 15 0 }, ?_, ?_, ?_, rfl⟩
  · change execLacArm k v s = done _
    unfold execLacArm
    rw [if_neg (Nat.not_le.mpr hk)]
    change (if ¬ bitAt v 63 then done t else _) = _
    rw [if_neg (not_not.mpr harm)]
    change (if s.zxRc < t.rd ZX_LAC_TGT_TGT_NS k * 65536 + bits v 15 0 then
      done (t.setLac k { t.lac k with target := t.rd ZX_LAC_TGT_TGT_NS k * 65536 + bits v 15 0 }) else _) = _
    rw [htgt, if_pos hlater]
  · exact (s.rd_writeLacCfg_arm k v).trans (by rw [bits_bit, harm]; rfl)
  · rw [State.lac_setLac]

/-! ### The 1PPS output (R177) -/

theorem ppsOutput_pulses {s : State} (hon : s.ppsOn = true)
    (hnew : ∀ n, s.pps.outSec = some n → n < s.bxTb.count / (1000000000 * 4294967296))
    (hsec : (s.bxTb.count - s.bxTb.inc) / (1000000000 * 4294967296) ≠ s.bxTb.count / (1000000000 * 4294967296)) :
    Answers .ppsOutput s (fun u => u.out = s.out ++ [.ppsPulse (s.rd BX_TB_PPS_WIDTH_NS)] ∧
      u.pps.outUntil = some ((s.bxTb.count / (1000000000 * 4294967296) * 1000000000 + s.rd BX_TB_PPS_WIDTH_NS) * 65536) ∧ u.regs = s.regs) := by
  have hall : s.pps.outSec.all (fun (n : Nat) => decide (n < s.bxTb.count / (1000000000 * 4294967296))) = true := by
    cases h : s.pps.outSec with
    | none => rfl
    | some n => exact decide_eq_true (hnew n h)
  let x : PpsIn := { s.pps with
    outSec := some (s.bxTb.count / (1000000000 * 4294967296))
    outUntil := some ((s.bxTb.count / (1000000000 * 4294967296) * 1000000000 + s.rd BX_TB_PPS_WIDTH_NS) * 65536) }
  refine ⟨({ s with pps := x } : State).emit (.ppsPulse (s.rd BX_TB_PPS_WIDTH_NS)), ?_, rfl, rfl, rfl⟩
  change execPpsOutput s = done _
  unfold execPpsOutput
  dsimp only
  rw [if_pos ⟨hon, hsec, hall⟩]

/-! ### The time opcodes (Table 16-13) -/

theorem State.rd_reply (s : State) (c : Cap) (op : Nat) {status : Nat} (hst : status ∉ [S_DENIED, S_TIMEOUT, S_BADOP]) (res : List Nat)
    (f : Fld) (i : Nat) : (s.reply c op status res).rd f i = s.rd f i :=
  State.rd_congr (congrArg State.regs (s.reply_onlyReply c op hst res 0 none).1) f i

/-- BX_TB_SRC written, SYNC_PERIOD_US at least 16 and MODE 3 as 0. -/
def State.writeTimeSrc (s : State) (v : Nat) : State :=
  ((((((s.wr BX_TB_SRC_MODE 0 (if bits v 63 62 = 3 then 0 else bits v 63 62)).wr BX_TB_SRC_PRIMARY 0 (bits v 61 57)).wr BX_TB_SRC_BACKUP 0
    (bits v 56 52)).wr BX_TB_SRC_BACKUP_EN 0 (bits v 51 51)).wr BX_TB_SRC_DOMAIN 0 (bits v 47 40)).wr BX_TB_SRC_ASYM_PS 0 (bits v 31 16)).wr
      BX_TB_SRC_SYNC_PERIOD_US 0 (max 16 (bits v 15 0))

theorem bits_lt (w hi lo : Nat) : bits w hi lo < 2 ^ (hi + 1 - lo) := Nat.mod_lt _ (Nat.two_pow_pos _)

/-- The source as BX_TB_SRC holds it. -/
structure TimeSrcIs (u : State) (v : Nat) : Prop where
  mode : u.rd BX_TB_SRC_MODE = if bits v 63 62 = 3 then 0 else bits v 63 62
  backupEn : u.rd BX_TB_SRC_BACKUP_EN = bits v 51 51
  domain : u.rd BX_TB_SRC_DOMAIN = bits v 47 40
  asym : u.rd BX_TB_SRC_ASYM_PS = bits v 31 16
  primary : u.rd BX_TB_SRC_PRIMARY = bits v 61 57
  backup : u.rd BX_TB_SRC_BACKUP = bits v 56 52
  period : u.rd BX_TB_SRC_SYNC_PERIOD_US = max 16 (bits v 15 0)

theorem State.writeTimeSrc_holds (s : State) (v : Nat) : TimeSrcIs (s.writeTimeSrc v) v := by
  constructor <;> unfold State.writeTimeSrc <;> simp (disch := decide) only [State.rd_wr_otherLo, State.rd_wr_same] <;>
    refine Nat.mod_eq_of_lt ?_
  case mode =>
    split
    · exact Nat.two_pow_pos _
    · exact bits_lt v 63 62
  case period => exact max_lt (by decide) (bits_lt v 15 0)
  all_goals exact bits_lt v _ _

theorem timeSrcSet_stores {s : State} {c : Cap} (hc : c.isOp = true) (hl : 1 ≤ c.params.length) (hp : bits (c.p 0) 61 57 ≤ 23)
    (hb : bits (c.p 0) 56 52 ≤ 23) : Answers (.timeSrcSet c) s (fun u => TimeSrcIs u (c.p 0) ∧ u.replied c 0x0102 S_OK []) := by
  let t : State := { s with tsrc := { s.tsrc with primaryMeas := s.bxTb.run, primaryLost := false } }
  let u := t.writeTimeSrc (c.p 0)
  have hrd (f : Fld) : (u.reply c 0x0102 S_OK).rd f = u.rd f := u.rd_reply c _ (by decide) [] f 0
  have hsrc : TimeSrcIs u (c.p 0) := t.writeTimeSrc_holds _
  refine ⟨u.reply c 0x0102 S_OK, ?_, ?_, u.reply_replied c _ _ _ 0 none⟩
  · change execTimeSrcSet c s = done _
    unfold execTimeSrcSet
    rw [s.checked_of_allowed hc hl]
    dsimp only
    rw [if_neg (not_or.mpr ⟨Nat.not_lt.mpr hp, Nat.not_lt.mpr hb⟩)]
    rfl
  · obtain ⟨hmode, hen, hdom, hasym, hprim, hback, hper⟩ := hsrc
    constructor <;> rw [hrd] <;> assumption

/-- A register reads as before after a write of another one that none of its fields is computed from. -/
theorem State.readReg_wr_other (s : State) {r : Reg} {g : Fld} {i j v : Nat} (hlive : (s.wr g j v).live r i = s.live r i)
    (hfields : ∀ f ∈ Reg.fields r, f.reg = r ∧ f.lo < 64) (hg : g.lo < 64) (hne : r ≠ g.reg) : (s.wr g j v).readReg r i = s.readReg r i := by
  unfold State.readReg
  refine congrArg packFields (List.map_congr_left fun f hf => ?_)
  obtain ⟨hreg, hlo⟩ := hfields f hf
  have hrd : (s.wr g j v).rd f i = s.rd f i := s.rd_wr_otherReg v hg hlo (by rw [hreg]; exact hne)
  have hfld : (s.wr g j v).fld f i = s.fld f i := by
    unfold State.fld State.stagedFld
    rw [hreg, hlive, hrd]
    rfl
  rw [hfld]

theorem timeRead_answers {s : State} {c : Cap} (hc : (c.isOp || c.isTenant || c.isMctp) = true) : Answers (.timeRead c) s (fun u =>
    u.replied c 0x0101 S_OK
      [s.readReg .TB_NOW_NS 1, (s.readEffect .TB_NOW_NS 1).readReg .TB_NOW_FRAC 1, s.readReg .TB_STS 1]) := by
  let t := s.readEffect .TB_NOW_NS 1
  have hnow : t.readReg .TB_NOW_NS 1 = s.readReg .TB_NOW_NS 1 := s.readReg_wr_other rfl (by decide) (by decide) (by decide)
  have hsts : t.readReg .TB_STS 1 = s.readReg .TB_STS 1 := s.readReg_wr_other rfl (by decide) (by decide) (by decide)
  refine ⟨t.reply c 0x0101 S_OK [t.readReg .TB_NOW_NS 1, t.readReg .TB_NOW_FRAC 1, t.readReg .TB_STS 1], ?_, ?_⟩
  · exact congrArg done (s.checked_of_allowed hc (Nat.zero_le _) _)
  · rw [← hnow, ← hsts]
    exact t.reply_replied c _ _ _ 0 none

theorem timeStatus_answers {s : State} {c : Cap} (hc : c.isOp = true) : Answers (.timeStatus c) s (fun u =>
    u.replied c 0x0104 S_OK [s.readReg .TB_STS 1, s.readReg .TB_OFFSET 1, s.readReg .TB_INC 1, s.readReg .TB_SERVO 1, s.readReg .BX_TB_TOD,
      s.readReg .BX_TB_PPS] ∧ s.onlyReply u) :=
  answers_reply (by decide) (congrArg done (s.checked_of_allowed hc (Nat.zero_le _) _))

theorem ppsSet_stores {s : State} {c : Cap} (hc : c.isOp = true) (hl : 1 ≤ c.params.length) : Answers (.ppsSet c) s (fun u =>
    u.rd BX_TB_PPS_EN = bits (c.p 0) 63 63 ∧ u.rd BX_TB_PPS_WIDTH_NS = bits (c.p 0) 31 0 ∧ u.replied c 0x0105 S_OK []) := by
  let t := (s.wr BX_TB_PPS_EN 0 (bits (c.p 0) 63 63)).wr BX_TB_PPS_WIDTH_NS 0 (bits (c.p 0) 31 0)
  let u : State := { t with pps := { t.pps with outUntil := if t.ppsOn then t.pps.outUntil else none } }
  have hen : t.rd BX_TB_PPS_EN = bits (c.p 0) 63 63 := by
    simp (disch := decide) only [t, State.rd_wr_otherLo, State.rd_wr_same]
    exact Nat.mod_mod _ _
  have hwidth : t.rd BX_TB_PPS_WIDTH_NS = bits (c.p 0) 31 0 := (State.rd_wr_same _ _ _ _).trans (Nat.mod_mod _ _)
  refine ⟨u.reply c 0x0105 S_OK, congrArg done (s.checked_of_allowed hc hl _), ?_, ?_, u.reply_replied c _ _ _ 0 none⟩
  · exact (u.rd_reply c _ (by decide) _ _ _).trans hen
  · exact (u.rd_reply c _ (by decide) _ _ _).trans hwidth

/-- Settles O20: the source judged lost is the one before PRIMARY's loss is noted, the pulse of a trigger leaves its settings alone and its next
target is the first past now, and what an opcode stores is read back from the reply's state. -/
theorem timebasesHoldAndTriggersFire : Obligations.TimebasesHoldAndTriggersFire := by
  refine ⟨fun _ _ hl hs => tbSourceLost_holds hl hs,
    fun _ _ h => holdoverExpiry_unlocks h,
    fun _ _ hc hl h0 => resync_grants hc hl h0,
    fun _ _ h => resyncGrantLapse_lapses h,
    fun _ _ hk harm hdue hper => lacFire_single hk harm hdue hper,
    fun _ _ hk harm hdue hper => lacFire_periodic hk harm hdue hper,
    fun _ _ _ hk harm hlater => lacArm_arms hk harm hlater,
    fun _ hon hnew hsec => ppsOutput_pulses hon hnew hsec,
    fun _ _ hc hl hp hb => ?_,
    fun _ _ hc => timeRead_answers hc,
    fun _ _ hc => timeStatus_answers hc,
    fun _ _ hc hl => ppsSet_stores hc hl⟩
  obtain ⟨u, he, ⟨hmode, hen, hdom, hasym, hprim, hback, hper⟩, hreply⟩ := timeSrcSet_stores hc hl hp hb
  exact ⟨u, he, hmode, hen, hdom, hasym, hprim, hback, hper, hreply⟩

end Sys2Proof.Machine
end

section
/-! SUPPORT. What a Blaze unit counts, notes in LAST and reports, and what each of these leaves alone (R196, R199, Tables 7-11 and 7-12). -/

namespace Sys2Proof.Machine
open Sys2Proof
variable (s : State)

/-! ### Counters, LAST and reports -/

/-- A word with an untyped FMT byte is counted MALFORMED (R185). -/
def State.countUntyped (u word : Nat) : State := if blzUntyped word then s.bump BLZ_CNT1_MALFORMED u else s

/-- Whatever a raised counter leaves alone, the counters of an outcome leave alone. -/
theorem State.blzCount_keeps {α : Type} {g : State → α}
    (hg : ∀ (t : State) (f : Fld) (i : Nat), f.reg ∈ [Reg.BLZ_CNT0, .BLZ_CNT1] → f.lo < 64 → g (t.bump f i) = g t) (u o : Nat) :
    g (s.blzCount u o) = g s := by
  unfold State.blzCount
  extract_lets t
  have ht : g t = g s := by
    dsimp only [t]
    split
    · exact hg s _ u (by decide) (by decide)
    · rfl
  rw [← ht]
  split
  case h_6 => rfl
  all_goals exact hg t _ u (by decide) (by decide)

@[simp] theorem State.blzCount_zx (u o : Nat) : (s.blzCount u o).zx = s.zx := s.blzCount_keeps (g := State.zx) (fun _ _ _ _ _ => rfl) u o
@[simp] theorem State.blzCount_out (u o : Nat) : (s.blzCount u o).out = s.out := s.blzCount_keeps (g := State.out) (fun _ _ _ _ _ => rfl) u o
@[simp] theorem State.blzCount_hbm (u o : Nat) : (s.blzCount u o).hbm = s.hbm := s.blzCount_keeps (g := State.hbm) (fun _ _ _ _ _ => rfl) u o

theorem State.rd_blzCount (u o : Nat) {f : Fld} {i : Nat} (hlo : f.lo < 64) (hf : f.reg ∉ [Reg.BLZ_CNT0, .BLZ_CNT1]) :
    (s.blzCount u o).rd f i = s.rd f i :=
  s.blzCount_keeps (g := fun t => t.rd f i) (fun t _ _ hg hglo => t.rd_wr_otherReg _ hglo hlo (ne_of_mem_of_not_mem hg hf).symm) u o

/-- What was done before the count leaves the counter alone. -/
theorem State.counted_of_before {s t u : State} {f : Fld} {i n : Nat} (ht : t.rd f i = s.rd f i) (h : t.counted u f i n) : s.counted u f i n :=
  h.trans (by rw [ht])

theorem State.blzCount_ok_counts (u : Nat) : s.counted (s.blzCount u blzOk) BLZ_CNT0_CHECKED u 1 :=
  s.counted_bump BLZ_CNT0_CHECKED u 1

theorem State.blzCount_corrupt_counts (u : Nat) : s.counted (s.blzCount u blzCorrupt) BLZ_CNT1_CORRUPT u 1 :=
  State.counted_of_before (s.rd_wr_otherReg _ (by decide) (by decide) (by decide))
    (State.counted_bump (s.bump BLZ_CNT0_CHECKED u) BLZ_CNT1_CORRUPT u 1)

@[simp] theorem State.countUntyped_zx (u w : Nat) : (s.countUntyped u w).zx = s.zx := by unfold State.countUntyped; split <;> rfl
@[simp] theorem State.countUntyped_out (u w : Nat) : (s.countUntyped u w).out = s.out := by unfold State.countUntyped; split <;> rfl
@[simp] theorem State.countUntyped_hbm (u w : Nat) : (s.countUntyped u w).hbm = s.hbm := by unfold State.countUntyped; split <;> rfl

theorem State.rd_countUntyped (u w : Nat) {f : Fld} {i : Nat} (hlo : f.lo < 64)
    (hf : f.reg ≠ .BLZ_CNT1 ∨ f.lo ≠ BLZ_CNT1_MALFORMED.lo) : (s.countUntyped u w).rd f i = s.rd f i := by
  unfold State.countUntyped
  split
  · exact s.rd_wr_other _ (Fld.key_ne hlo (by decide) (hf.imp_right .inr))
  · rfl

@[simp] theorem State.blzLast_zx (u o a g : Nat) : (s.blzLast u o a g).zx = s.zx := by unfold State.blzLast; split <;> rfl
@[simp] theorem State.blzLast_out (u o a g : Nat) : (s.blzLast u o a g).out = s.out := by unfold State.blzLast; split <;> rfl
@[simp] theorem State.blzLast_hbm (u o a g : Nat) : (s.blzLast u o a g).hbm = s.hbm := by unfold State.blzLast; split <;> rfl

theorem State.rd_blzLast (u o a g : Nat) {f : Fld} {i : Nat} (hlo : f.lo < 64) (hf : f.reg ≠ .BLZ_LAST) :
    (s.blzLast u o a g).rd f i = s.rd f i := by
  have hkept : RegsKept [.BLZ_LAST] s (s.blzLast u o a g) := by
    unfold State.blzLast
    split
    · exact .refl _ s
    · exact (RegsKept.refl _ s).wr.wr.wr.wr
  exact hkept f i hlo (by simpa using hf)

/-- LAST names the newest outcome that is neither OK nor REPORTED. -/
theorem State.blzLast_notes {o : Nat} (ho : 1 < o) (u a g : Nat) :
    (s.blzLast u o a g).rd BLZ_LAST_OUTCOME u = o % 16 ∧ (s.blzLast u o a g).rd BLZ_LAST_VALID u = 1 := by
  unfold State.blzLast
  rw [if_neg (Nat.not_le.mpr ho)]
  simp (disch := decide) only [State.rd_wr_otherLo, State.rd_wr_same]
  exact ⟨rfl, rfl⟩

/-- A report changes the reports that wait and nothing else of the ZX40. -/
theorem State.blzReport_zx {α : Type} {g : Zx → α} (hg : ∀ z l, g { z with reports := l } = g z) (u o a t w : Nat) :
    g (s.blzReport u o a t w).zx = g s.zx := by
  unfold State.blzReport
  dsimp only
  split
  · exact hg _ _
  · split
    · exact hg _ _
    · rfl

@[simp] theorem State.blzReport_out (u o a t w : Nat) : (s.blzReport u o a t w).out = s.out := by
  unfold State.blzReport
  dsimp only
  split
  · rfl
  · split <;> rfl

theorem State.rd_blzReport (u o a t w : Nat) {f : Fld} {i : Nat} (hlo : f.lo < 64) (hf : f.reg ≠ .ZX_BLZ_STS) :
    (s.blzReport u o a t w).rd f i = s.rd f i := by
  unfold State.blzReport
  dsimp only
  split
  · rfl
  · split
    · rfl
    · exact State.rd_wr_otherReg _ _ (by decide) hlo hf

/-! ### The unit itself -/

theorem State.blzUnit_congr {s t : State} (h : t.zx = s.zx) (k : Nat) : t.blzUnit k = s.blzUnit k := congrArg (fun z : Zx => z.blz.getD k {}) h

@[simp] theorem State.blzUnit_setBlz (u : Nat) (x : BlzUnit) : (s.setBlz u x).blzUnit u = x := SMap.getD_set_same _ _ _ _

theorem State.blzUnit_blzReport (u o a t w k : Nat) : (s.blzReport u o a t w).blzUnit k = s.blzUnit k :=
  s.blzReport_zx (g := fun z => z.blz.getD k {}) (fun _ _ => rfl) u o a t w

theorem State.blzUnit_blzUnverify (u a t w k : Nat) : (s.blzUnverify u a t w).blzUnit k = s.blzUnit k :=
  (State.blzUnit_blzReport _ _ _ _ _ _ k).trans (State.blzUnit_congr ((State.blzLast_zx _ _ _ _ _).trans (s.blzCount_zx _ _)) k)

/-- A block that becomes UNVERIFIED is counted so. -/
theorem State.blzUnverify_counts (u a t w : Nat) : s.counted (s.blzUnverify u a t w) BLZ_CNT1_UNVERIFIED u 1 := by
  unfold State.counted State.blzUnverify
  rw [State.rd_blzReport _ _ _ _ _ _ (by decide) (by decide), State.rd_blzLast _ _ _ _ _ (by decide) (by decide)]
  exact s.counted_bump BLZ_CNT1_UNVERIFIED u 1

end Sys2Proof.Machine
end

section
/-! SUPPORT. Check units of the ZX40 classify blocks, hold those with a corrupt word for re-presentation and condemn others; entries of the
refetch list expire (R189, R196 to R198). -/

namespace Sys2Proof.Machine
open Sys2Proof

/-! ### The oldest block of a unit that checks -/

theorem State.blzInject_none {s : State} {u : Nat} (h : s.zx.inj.find? u = none) (b : BlzBlock) : s.blzInject u b = (b, s) := by
  unfold State.blzInject
  rw [h]

/-- The block that unit u classifies has left those that wait, and its outcome is counted. -/
def State.blzTaken (s : State) (u : Nat) (b : BlzBlock) (t : List BlzBlock) : State :=
  (((s.setBlz u { s.blzUnit u with ready := t }).countUntyped u b.word).ls 0xB8).blzCount u (s.blzJudge u b.data b.addr b.seq b.word)

/-- Slot k of a unit's refetch list is free. -/
def State.blzSlotFree (s : State) (u k : Nat) : Bool := ((s.blzUnit u).refetch.find? k).isNone

/-- The first free slot of a unit's refetch list. -/
def State.blzSlot? (s : State) (u : Nat) : Option Nat := (List.range 16).find? (s.blzSlotFree u)

/-- Slot k of a unit's refetch list holds a block with a corrupt word, which is noted and reported. -/
def State.blzAwait (s : State) (u k o : Nat) (b : BlzBlock) : State :=
  let y := s.blzUnit u
  ((s.setBlz u { y with refetch := y.refetch.set k { addr := b.addr, tag := b.tag, at_ := s.zxNs, word := b.word } }).blzLast u o
    b.addr b.tag).blzReport u o b.addr b.tag b.word

theorem State.blzSlot?_free {s : State} {k : Nat} (h : ∃ j, j < 16 ∧ (s.blzUnit k).refetch.find? j = none) :
    ∃ j, s.blzSlot? k = some j ∧ j < 16 ∧ (s.blzUnit k).refetch.find? j = none := by
  obtain ⟨i, hi, hnone⟩ := h
  have hfree : s.blzSlotFree k i = true := Option.isNone_iff_eq_none.mpr hnone
  obtain ⟨j, hj⟩ := Option.isSome_iff_exists.mp (List.find?_isSome.mpr ⟨i, List.mem_range.mpr hi, hfree⟩)
  have hj' : s.blzSlotFree k j = true := List.find?_some hj
  exact ⟨j, hj, List.mem_range.mp (List.mem_of_find?_eq_some hj), Option.isNone_iff_eq_none.mp hj'⟩

theorem State.blzAwait_holds (s : State) (u k : Nat) (b : BlzBlock) :
    (s.blzAwait u k blzCorrupt b).blzUnit u = { s.blzUnit u with
      refetch := (s.blzUnit u).refetch.set k { addr := b.addr, tag := b.tag, at_ := s.zxNs, word := b.word } } ∧
    (s.blzAwait u k blzCorrupt b).rd BLZ_LAST_OUTCOME u = blzCorrupt ∧
    ∀ j, (s.blzAwait u k blzCorrupt b).rd ZX_LS_VAL_VAL j = s.rd ZX_LS_VAL_VAL j := by
  unfold State.blzAwait
  refine ⟨?_, ?_, fun j => ?_⟩
  · rw [State.blzUnit_blzReport, State.blzUnit_congr (State.blzLast_zx _ _ _ _ _), State.blzUnit_setBlz]
  · rw [State.rd_blzReport _ _ _ _ _ _ (by decide) (by decide)]
    exact (State.blzLast_notes _ (by decide) _ _ _).1
  · rw [State.rd_blzReport _ _ _ _ _ _ (by decide) (by decide), State.rd_blzLast _ _ _ _ _ (by decide) (by decide), State.rd_setBlz]

/-- What follows the count of a block of outcome o that is not a re-presentation (R196 to R198). -/
def State.blzFollow (s : State) (u o : Nat) (b : BlzBlock) : Host.Outcome State Fault Refusal :=
  if o = blzCorrupt then
    let s := s.ls 0xBA
    match s.blzSlot? u with
    | some j => done (s.blzAwait u j o b)
    | none => done (s.blzUnverify u b.addr b.tag b.word)
  else if o = blzOk then
    if s.rd BLZ_CFG_MODE u = 2 ∨ s.flag BLZ_CFG_REPORT_OK u ∨ b.represent then done (s.blzReport u o b.addr b.tag b.word) else done s
  else done ((s.ls 0xB9).blzCondemn u o b)

/-! ### A condemned block (R198) -/

theorem State.blzSize_congr {s t : State} {k : Nat} (h : t.rd BLZ_CFG_BLOCK k = s.rd BLZ_CFG_BLOCK k) : t.blzSize k = s.blzSize k := by
  unfold State.blzSize
  rw [h]

theorem State.rd_hwRequest (s : State) (buf cause : Nat) (f : Fld) (i : Nat) : (s.hwRequest buf cause).rd f i = s.rd f i := by
  unfold State.hwRequest
  split
  · rfl
  · split <;> rfl

/-- Triggers count under 0xBD and 0xBE of the light set only. -/
theorem State.rd_trigger_val (s : State) (n cause : Nat) {j : Nat} (hgap : j ≠ 0xBD) (htrig : j ≠ 0xBE) :
    (s.trigger n cause).rd ZX_LS_VAL_VAL j = s.rd ZX_LS_VAL_VAL j := by
  unfold State.trigger
  extract_lets b
  split
  · rfl
  · exact (State.rd_ls_other _ _ htrig).trans (State.rd_gaps_val (s.setTrc n _) _ hgap)
  · exact State.rd_hwRequest _ _ _ _ _

theorem State.rd_triggerSource_val (s : State) (src : Nat) (p : TraceBuf → Bool) {j : Nat} (hgap : j ≠ 0xBD) (htrig : j ≠ 0xBE) :
    (s.triggerSource src p).rd ZX_LS_VAL_VAL j = s.rd ZX_LS_VAL_VAL j :=
  List.foldlRecOn (motive := fun (t : State) => t.rd ZX_LS_VAL_VAL j = s.rd ZX_LS_VAL_VAL j) _ _ rfl fun t ht n _ => by
    split
    · exact (t.rd_trigger_val n src hgap htrig).trans ht
    · exact ht

/-- The alarm, the interrupt and the trace triggers of a condemned block, whose request waits already. -/
def State.blzRaise (s : State) (u addr : Nat) : State :=
  let s := s.zxAlarm 2 u addr
  (if s.flag BLZ_CFG_IRQ_EN u then s.irq ZX_IRQ_STS_ALARM else s).triggerSource 3

theorem State.blzRaise_untriggered (s : State) (u addr : Nat) : (s.blzRaise u addr).zx.untriggered = s.zx.untriggered := by
  unfold State.blzRaise
  refine (State.triggerSource_untriggered _ _ _).trans ?_
  split <;> rfl

theorem State.rd_blzRaise_val (s : State) (u addr : Nat) : (s.blzRaise u addr).rd ZX_LS_VAL_VAL 0xB9 = s.rd ZX_LS_VAL_VAL 0xB9 := by
  unfold State.blzRaise
  refine (State.rd_triggerSource_val _ _ _ (by decide) (by decide)).trans ?_
  split
  · exact State.rd_wr_otherReg _ _ (by decide) (by decide) (by decide)
  · rfl

/-- A condemned block whose unit poisons queues its granules where there is room, and LAST names its outcome. -/
theorem State.blzCondemn_poisons {s : State} {u o : Nat} (b : BlzBlock) (ho : 1 < o ∧ o < 16) (hpoison : s.flag BLZ_CFG_POISON u = true)
    (hroom : s.zx.psnQ.length < 16) :
    (s.blzCondemn u o b).blzUnit u = s.blzUnit u ∧
    (s.blzCondemn u o b).zx.psnQ = s.zx.psnQ ++ [(List.range (s.blzSize u / 64)).map (fun i => b.addr / 64 % 2 ^ 42 + i)] ∧
    (s.blzCondemn u o b).rd BLZ_LAST_OUTCOME u = o ∧ (s.blzCondemn u o b).rd BLZ_LAST_VALID u = 1 ∧
    (s.blzCondemn u o b).rd ZX_LS_VAL_VAL 0xB9 = s.rd ZX_LS_VAL_VAL 0xB9 := by
  let grans := (List.range (s.blzSize u / 64)).map (fun i => b.addr / 64 % 2 ^ 42 + i)
  let q : State := { s with zx := { s.zx with psnQ := s.zx.psnQ ++ [grans] } }
  have heq : s.blzCondemn u o b = ((q.blzRaise u b.addr).blzLast u o b.addr b.tag).blzReport u o b.addr b.tag b.word := by
    unfold State.blzCondemn
    simp only [hpoison, hroom]
    rfl
  have hkept := q.blzRaise_untriggered u b.addr
  obtain ⟨hout, hvalid⟩ := (q.blzRaise u b.addr).blzLast_notes ho.1 u b.addr b.tag
  rw [heq]
  refine ⟨?_, ?_, ?_, ?_, ?_⟩
  · rw [State.blzUnit_blzReport, State.blzUnit_congr (State.blzLast_zx _ _ _ _ _)]
    exact congrArg (fun z => z.blz.getD u {}) hkept
  · rw [State.blzReport_zx _ (g := Zx.psnQ) fun _ _ => rfl, State.blzLast_zx]
    exact congrArg (fun z => z.psnQ) hkept
  · rw [State.rd_blzReport _ _ _ _ _ _ (by decide) (by decide), hout, Nat.mod_eq_of_lt ho.2]
  · rw [State.rd_blzReport _ _ _ _ _ _ (by decide) (by decide), hvalid]
  · rw [State.rd_blzReport _ _ _ _ _ _ (by decide) (by decide), State.rd_blzLast _ _ _ _ _ (by decide) (by decide), State.rd_blzRaise_val]
    rfl

section
variable {s : State} {k : Nat} {b : BlzBlock} {t : List BlzBlock}

theorem State.blzTaken_zx : (s.blzTaken k b t).zx = (s.setBlz k { s.blzUnit k with ready := t }).zx := by
  rw [State.blzTaken, State.blzCount_zx, State.ls_zx, State.countUntyped_zx]

theorem State.blzUnit_blzTaken : (s.blzTaken k b t).blzUnit k = { s.blzUnit k with ready := t } :=
  (State.blzUnit_congr State.blzTaken_zx k).trans (s.blzUnit_setBlz k _)

theorem State.blzTaken_out : (s.blzTaken k b t).out = s.out := by
  rw [State.blzTaken, State.blzCount_out, State.ls_out, State.countUntyped_out, State.setBlz_out]

theorem State.rd_blzTaken {f : Fld} {i : Nat} (hlo : f.lo < 64) (hf : f.reg ∉ [Reg.BLZ_CNT0, .BLZ_CNT1]) (hls : f.reg ≠ .ZX_LS_VAL) :
    (s.blzTaken k b t).rd f i = s.rd f i := by
  rw [State.blzTaken, State.rd_blzCount _ _ _ hlo hf, State.rd_ls _ _ _ hlo hls,
    State.rd_countUntyped _ _ _ hlo (.inl (ne_of_mem_of_not_mem (by decide) hf).symm), State.rd_setBlz]

/-- An OK block is counted in CHECKED. -/
theorem State.blzTaken_counts (hok : s.blzJudge k b.data b.addr b.seq b.word = blzOk) : s.counted (s.blzTaken k b t) BLZ_CNT0_CHECKED k 1 := by
  unfold State.blzTaken
  rw [hok]
  refine State.counted_of_before ?_ (State.blzCount_ok_counts _ k)
  rw [State.rd_ls _ _ _ (by decide) (by decide), State.rd_countUntyped _ _ _ (by decide) (.inl (by decide)), State.rd_setBlz]

/-- Of the light set only 0xB8 has counted. -/
theorem State.rd_blzTaken_val {j : Nat} (hj : j ≠ 0xB8) : (s.blzTaken k b t).rd ZX_LS_VAL_VAL j = s.rd ZX_LS_VAL_VAL j := by
  rw [State.blzTaken, State.rd_blzCount _ _ _ (by decide) (by decide), State.rd_ls_other _ _ hj,
    State.rd_countUntyped _ _ _ (by decide) (.inl (by decide)), State.rd_setBlz]

/-- The count of the block in the light set stands whatever the outcome. -/
theorem State.lsUp_blzTaken : s.lsUp (s.blzTaken k b t) 0xB8 1 := by
  let a := (s.setBlz k { s.blzUnit k with ready := t }).countUntyped k b.word
  have hkept {f : Fld} {i : Nat} (hlo : f.lo < 64) (hf : f.reg ≠ .BLZ_CNT1) : a.rd f i = s.rd f i := State.rd_countUntyped _ _ _ hlo (.inl hf)
  refine State.lsUp_of_kept (t := a) (hkept (by decide) (by decide)) (hkept (by decide) (by decide)) ?_
  exact (State.rd_blzCount _ _ _ (by decide) (by decide)).trans (a.lsUp_ls 0xB8 1)

/-- A further count of the light set after the block is taken. -/
theorem State.lsUp_blzTaken_ls {j : Nat} (hj : j ≠ 0xB8) : s.lsUp ((s.blzTaken k b t).ls j) j 1 :=
  State.lsUp_of_kept (State.rd_blzTaken_val hj) (State.rd_blzTaken (by decide) (by decide) (by decide)) (State.lsUp_ls _ _ _)

variable (hready : (s.blzUnit k).ready = b :: t) (hinj : s.zx.inj.find? k = none) (hmode : s.rd BLZ_CFG_MODE k ≠ 1) (hfirst : b.represent = false)
include hready hinj hmode hfirst

/-- The outcome of a block that is not a re-presentation decides what follows its count. -/
theorem exec_blazeClassify : exec (.blazeClassify k) s =
    (s.blzTaken k b t).blzFollow k (s.blzJudge k b.data b.addr b.seq b.word) b := by
  let a := s.setBlz k { s.blzUnit k with ready := t }
  have hexec : exec (.blazeClassify k) s = execBlazeClassify k s := rfl
  unfold execBlazeClassify at hexec
  dsimp only at hexec
  rw [hready] at hexec
  dsimp only at hexec
  rw [State.blzInject_none (s := a) hinj] at hexec
  dsimp only at hexec
  rw [if_neg (by exact hmode), hfirst, if_neg Bool.false_ne_true] at hexec
  rw [hexec, State.blzFollow, hfirst]
  by_cases ho : s.blzJudge k b.data b.addr b.seq b.word = blzCorrupt
  · refine (if_pos ho).trans (Eq.trans ?_ (if_pos ho).symm)
    change (match (none : Option Nat), ((s.blzTaken k b t).ls 0xBA).blzSlot? k with
      | none, some j => done (((s.blzTaken k b t).ls 0xBA).blzAwait k j (s.blzJudge k b.data b.addr b.seq b.word) b)
      | _, _ => done (((s.blzTaken k b t).ls 0xBA).blzUnverify k b.addr b.tag b.word)) = _
    dsimp only
    cases ((s.blzTaken k b t).ls 0xBA).blzSlot? k <;> rfl
  · exact (if_neg ho).trans (if_neg ho).symm

/-- An OK block is reported at most. -/
theorem blazeClassify_ok (hok : s.blzJudge k b.data b.addr b.seq b.word = blzOk) : Answers (.blazeClassify k) s (fun u =>
    (u.blzUnit k).ready = t ∧ s.counted u BLZ_CNT0_CHECKED k 1 ∧ s.lsUp u 0xB8 1 ∧ u.zx.psnQ = s.zx.psnQ ∧ u.out = s.out) := by
  let c := s.blzTaken k b t
  have hready' : (c.blzUnit k).ready = t := congrArg BlzUnit.ready State.blzUnit_blzTaken
  have hpsn : c.zx.psnQ = s.zx.psnQ := congrArg (fun z => z.psnQ) State.blzTaken_zx
  have hcount : s.counted c BLZ_CNT0_CHECKED k 1 := State.blzTaken_counts hok
  have hexec := exec_blazeClassify hready hinj hmode hfirst
  rw [hok, State.blzFollow, if_neg (by decide), if_pos rfl] at hexec
  split at hexec
  · refine ⟨_, hexec, ?_, ?_, ?_, ?_, ?_⟩
    · rw [State.blzUnit_blzReport]
      exact hready'
    · exact (State.rd_blzReport _ _ _ _ _ _ (by decide) (by decide)).trans hcount
    · exact (State.rd_blzReport _ _ _ _ _ _ (by decide) (by decide)).trans State.lsUp_blzTaken
    · exact (State.blzReport_zx _ (g := Zx.psnQ) (fun _ _ => rfl) _ _ _ _ _).trans hpsn
    · exact (State.blzReport_out _ _ _ _ _ _).trans State.blzTaken_out
  · exact ⟨_, hexec, hready', hcount, State.lsUp_blzTaken, hpsn, State.blzTaken_out⟩

theorem blazeClassify_corrupt (hcorrupt : s.blzJudge k b.data b.addr b.seq b.word = blzCorrupt)
    (hfree : ∃ j, j < 16 ∧ (s.blzUnit k).refetch.find? j = none) : Answers (.blazeClassify k) s (fun u =>
    (u.blzUnit k).ready = t ∧ s.lsUp u 0xBA 1 ∧ u.rd BLZ_LAST_OUTCOME k = blzCorrupt ∧
    (∃ j, j < 16 ∧ (s.blzUnit k).refetch.find? j = none ∧ ((u.blzUnit k).refetch.find? j).map (fun e => (e.addr, e.tag, e.word)) =
      some (b.addr, b.tag, b.word))) := by
  let c := (s.blzTaken k b t).ls 0xBA
  have hunit : c.blzUnit k = { s.blzUnit k with ready := t } := (State.blzUnit_congr (State.ls_zx _ _ _) k).trans State.blzUnit_blzTaken
  obtain ⟨j, hj, hlt, hnone⟩ := State.blzSlot?_free (s := c) (k := k) (by rw [hunit]; exact hfree)
  rw [hunit] at hnone
  have hexec := exec_blazeClassify hready hinj hmode hfirst
  rw [hcorrupt, State.blzFollow, if_pos rfl] at hexec
  dsimp only at hexec
  rw [hj] at hexec
  obtain ⟨hawaits, hlast, hval⟩ := c.blzAwait_holds k j b
  rw [hunit] at hawaits
  refine ⟨_, hexec, ?_, ?_, hlast, j, hlt, hnone, ?_⟩
  · rw [hawaits]
  · exact (hval 0xBA).trans (State.lsUp_blzTaken_ls (by decide))
  · rw [hawaits]
    simp

/-- A condemned block whose unit poisons, with room for its request. -/
theorem blazeClassify_condemned {o : Nat} (ho : s.blzJudge k b.data b.addr b.seq b.word = o) (hbad : o = blzStale ∨ o = blzMismatch)
    (hpoison : s.flag BLZ_CFG_POISON k = true) (hroom : s.zx.psnQ.length < 16) : Answers (.blazeClassify k) s (fun u =>
    (u.blzUnit k).ready = t ∧ u.zx.psnQ = s.zx.psnQ ++ [(List.range (s.blzSize k / 64)).map (fun i => b.addr / 64 % 2 ^ 42 + i)] ∧
    u.rd BLZ_LAST_OUTCOME k = o ∧ u.rd BLZ_LAST_VALID k = 1 ∧ s.lsUp u 0xB9 1) := by
  let c := (s.blzTaken k b t).ls 0xB9
  have hzx : c.zx = (s.setBlz k { s.blzUnit k with ready := t }).zx := (State.ls_zx _ _ _).trans State.blzTaken_zx
  have hcfg {f : Fld} (hf : f.reg = .BLZ_CFG) (hlo : f.lo < 64) : c.rd f k = s.rd f k :=
    (State.rd_ls _ _ _ hlo (by rw [hf]; decide)).trans (State.rd_blzTaken hlo (by rw [hf]; decide) (by rw [hf]; decide))
  have hexec := exec_blazeClassify hready hinj hmode hfirst
  obtain ⟨hcorrupt, hok, hcode⟩ : o ≠ blzCorrupt ∧ o ≠ blzOk ∧ 1 < o ∧ o < 16 := by rcases hbad with rfl | rfl <;> decide
  have hpoison' : c.flag BLZ_CFG_POISON k = true := by
    unfold State.flag
    rw [hcfg rfl (by decide)]
    exact hpoison
  rw [ho, State.blzFollow, if_neg hcorrupt, if_neg hok] at hexec
  obtain ⟨hblz, hpsn, hout, hvalid, hval⟩ := State.blzCondemn_poisons b hcode hpoison' (by rw [hzx]; exact hroom)
  refine ⟨_, hexec, ?_, ?_, ?_, hvalid, ?_⟩
  · rw [hblz, State.blzUnit_congr hzx, State.blzUnit_setBlz]
  · rw [hpsn, State.blzSize_congr (hcfg rfl (by decide)), hzx]
    rfl
  · exact hout
  · exact hval.trans (State.lsUp_blzTaken_ls (by decide))

end

/-! ### The refetch list expires and is flushed (R197, Tables 7-5 and 7-13) -/

theorem State.blzExpire_eq {s : State} {u k : Nat} {e : RefetchEntry} (h : (s.blzUnit u).refetch.find? k = some e) : s.blzExpire u k =
    (s.setBlz u { s.blzUnit u with refetch := (s.blzUnit u).refetch.erase k }).blzUnverify u e.addr e.tag e.word := by
  unfold State.blzExpire
  dsimp only
  rw [h]

theorem State.blzExpire_unit {s : State} {u k : Nat} {e : RefetchEntry} (h : (s.blzUnit u).refetch.find? k = some e) :
    (s.blzExpire u k).blzUnit u = { s.blzUnit u with refetch := (s.blzUnit u).refetch.erase k } := by
  rw [State.blzExpire_eq h]
  exact (State.blzUnit_blzUnverify _ _ _ _ _ u).trans (s.blzUnit_setBlz u _)

theorem blazeRefetchTimeout_expires {s : State} {k j : Nat} {e : RefetchEntry} (hj : (s.blzUnit k).refetch.find? j = some e)
    (hcoming : s.blzComing k e = false) (hdue : e.at_ + max 1 (s.rd ZX_BLZ_CTRL_REFETCH_US) * 1000 ≤ s.zxNs) :
    Answers (.blazeRefetchTimeout k j) s (fun u => (u.blzUnit k).refetch.find? j = none ∧ s.counted u BLZ_CNT1_UNVERIFIED k 1) := by
  refine ⟨s.blzExpire k j, ?_, ?_, ?_⟩
  · change execBlazeRefetchTimeout k j s = done _
    unfold execBlazeRefetchTimeout
    rw [hj]
    dsimp only
    rw [if_neg (by simp [hcoming, hdue])]
  · rw [State.blzExpire_unit hj]
    exact SMap.find?_erase_same _ _
  · rw [State.blzExpire_eq hj]
    exact State.counted_of_before (s.rd_setBlz _ _ _ _) (State.blzUnverify_counts _ k e.addr e.tag e.word)

/-- No block of unit u is on its way. -/
def State.blzIdle (s : State) (u : Nat) : Prop := (s.blzUnit u).block = none ∧ (s.blzUnit u).ready = []

/-- Slot k of a unit's refetch list is flushed, unless its block is on its way. -/
def State.blzFlushSlot (u : Nat) (s : State) (k : Nat) : State :=
  match (s.blzUnit u).refetch.find? k with
  | none => s
  | some e => if s.blzComing u e then s else s.blzExpire u k

theorem exec_blzFlushRf (s : State) (u : Nat) : exec (.blzFlushRf u) s = done ((List.range 16).foldl (State.blzFlushSlot u) s) := rfl

/-- With no block on its way the slot empties, and empty slots stay so. -/
theorem State.blzFlushSlot_empties {s : State} {u : Nat} (h : s.blzIdle u) (k : Nat) : (s.blzFlushSlot u k).blzIdle u ∧
    ∀ j, j = k ∨ (s.blzUnit u).refetch.find? j = none → ((s.blzFlushSlot u k).blzUnit u).refetch.find? j = none := by
  unfold State.blzFlushSlot
  split
  · next hk => exact ⟨h, fun j hj => hj.elim (fun hjk => hjk ▸ hk) id⟩
  · next e hk =>
    obtain ⟨hblock, hready⟩ := h
    have hcoming : s.blzComing u e = false := by simp [State.blzComing, hblock, hready]
    rw [hcoming, if_neg Bool.false_ne_true, State.blzIdle, State.blzExpire_unit hk]
    refine ⟨⟨hblock, hready⟩, fun j hj => ?_⟩
    by_cases hjk : j = k
    · rw [hjk]
      exact SMap.find?_erase_same _ _
    · exact (SMap.find?_erase_other _ hjk).trans (hj.resolve_left hjk)

theorem State.foldl_blzFlushSlot_empties {s : State} {u : Nat} (h : s.blzIdle u) (l : List Nat) :
    ∀ j, j ∈ l ∨ (s.blzUnit u).refetch.find? j = none → ((l.foldl (State.blzFlushSlot u) s).blzUnit u).refetch.find? j = none := by
  induction l generalizing s with
  | nil => exact fun j hj => hj.resolve_left List.not_mem_nil
  | cons k l ih =>
    obtain ⟨hidle, hempty⟩ := State.blzFlushSlot_empties h k
    refine fun j hj => ih hidle j ?_
    rw [List.mem_cons, or_right_comm] at hj
    exact hj.symm.imp_right (hempty j)

theorem blzFlushRf_empties {s : State} {k : Nat} (hblock : (s.blzUnit k).block = none) (hready : (s.blzUnit k).ready = []) :
    Answers (.blzFlushRf k) s (fun u => (∀ j, j < 16 → (u.blzUnit k).refetch.find? j = none)) :=
  ⟨_, exec_blzFlushRf s k, fun j hj => State.foldl_blzFlushSlot_empties ⟨hblock, hready⟩ _ j (.inl (List.mem_range.mpr hj))⟩

end Sys2Proof.Machine
end

section
/-! SUPPORT. The registers of a Blaze unit: CNT_CLR and writes of POLY (R200, Tables 7-10, 7-11 and 7-13). -/

namespace Sys2Proof.Machine
open Sys2Proof

theorem blzCntClr_clears (s : State) (k : Nat) : Answers (.blzCntClr k) s (fun u => u.rd BLZ_CNT0_CHECKED k = 0 ∧
    u.rd BLZ_CNT0_MISMATCH k = 0 ∧ u.rd BLZ_CNT1_STALE k = 0 ∧ u.rd BLZ_CNT1_CORRUPT k = 0 ∧ u.rd BLZ_CNT1_UNVERIFIED k = 0 ∧
    u.rd BLZ_CNT1_MALFORMED k = 0 ∧ u.zx = s.zx) := by
  refine ⟨_, rfl, ?_⟩
  simp (disch := decide) [State.rd_wr_otherReg, State.rd_wr_otherLo]

/-! ### Writes of POLY -/

theorem bits_mod_two_pow {w n hi lo : Nat} (h : hi < n) : bits (w % 2 ^ n) hi lo = bits w hi lo := by
  refine Nat.eq_of_testBit_eq fun i => ?_
  simp only [bits, Nat.testBit_mod_two_pow, Nat.testBit_shiftRight]
  by_cases hi' : i < hi + 1 - lo
  · have hn : lo + i < n := by omega
    simp [hn]
  · simp [hi']

/-- Of two fields of 32 bits the upper one is read back. -/
theorem bits_packFields_upper (a b : Nat) : bits (packFields [(32, 32, a), (0, 32, b)]) 63 32 = a % 2 ^ 32 := by
  refine Nat.eq_of_testBit_eq fun i => ?_
  rw [bits, Nat.testBit_mod_two_pow, Nat.testBit_mod_two_pow, Nat.testBit_shiftRight, testBit_packFields]
  by_cases hi : i < 32
  · simp [hi]
  · simp [hi]

/-- Every bit of POLY belongs to a field. -/
theorem and_mask_poly (v i : Nat) : v &&& Reg.mask .BLZ_POLY i = v % 2 ^ 64 := by
  have hcfg : Reg.BLZ_POLY ≠ .BLZ_CFG := by decide
  unfold Reg.mask
  simp only [hcfg, false_and, if_false]
  exact Nat.and_two_pow_sub_one_eq_mod v 64

theorem State.readReg_poly (s : State) (i : Nat) :
    s.readReg .BLZ_POLY i = packFields [(32, 32, s.rd BLZ_POLY_POLY i), (0, 32, s.rd BLZ_POLY_INIT i)] := rfl

/-- POLY set from a word reads the word's halves. -/
theorem State.rd_setReg_poly (s : State) (i v : Nat) : (s.setReg .BLZ_POLY i (v % 2 ^ 64)).rd BLZ_POLY_POLY i = bits v 63 32 ∧
    (s.setReg .BLZ_POLY i (v % 2 ^ 64)).rd BLZ_POLY_INIT i = bits v 31 0 :=
  ⟨(s.rd_setReg i _ (by decide) (by decide) (by decide)).trans (bits_mod_two_pow (by decide)),
    (s.rd_setReg i _ (by decide) (by decide) (by decide)).trans (bits_mod_two_pow (by decide))⟩

/-- A unit out of service takes a write of POLY. -/
theorem State.blzWrite_poly_stores {s : State} {i : Nat} (hen : s.flag BLZ_CFG_EN i = false) (v : Nat) :
    s.blzWrite i 1 (v &&& Reg.mask .BLZ_POLY i) = (true, s.setReg .BLZ_POLY i (v % 2 ^ 64)) := by
  rw [and_mask_poly]
  unfold State.blzWrite
  rw [hen, if_neg (by simp)]
  simp

/-- A unit in service keeps POLY from a write that would change it. -/
theorem State.blzWrite_poly_refuses {s : State} {i v : Nat} (hen : s.flag BLZ_CFG_EN i = true) (hold : s.rd BLZ_POLY_POLY i < 2 ^ 32)
    (hnew : bits v 63 32 ≠ s.rd BLZ_POLY_POLY i) : s.blzWrite i 1 (v &&& Reg.mask .BLZ_POLY i) = (false, s) := by
  rw [and_mask_poly]
  have hne : packFields [(32, 32, bits (v % 2 ^ 64 % 2 ^ 64) 63 32), (0, 32, bits (v % 2 ^ 64 % 2 ^ 64) 31 0)] ≠ s.readReg .BLZ_POLY i := by
    intro h
    have hhalf := congrArg (fun w => bits w 63 32) h
    rw [s.readReg_poly, bits_packFields_upper, bits_packFields_upper, Nat.mod_eq_of_lt hold, Nat.mod_mod, bits_mod_two_pow (by decide)] at hhalf
    exact hnew ((Nat.mod_eq_of_lt (bits_lt v 63 32)).symm.trans hhalf)
  refine if_pos ?_
  rw [hen, Bool.true_and, Bool.not_eq_true']
  exact beq_false_of_ne hne

section
variable {s : State} {k v : Nat} (hr : s.zx.inReset = false) (hp : s.zx.pwr < 2)
include hr hp

theorem exec_blzCfgWrite_poly : exec (.blzCfgWrite .zx k 1 v) s =
    let r := s.blzWrite k 1 (v &&& Reg.mask .BLZ_POLY k)
    if r.1 then done (r.2.emit (.apb 0 false)) else done ((r.2.ls 0xCB).emit (.apb 0 true)) := by
  change execBlzCfgWrite .zx k 1 v s = _
  unfold execBlzCfgWrite
  dsimp only
  rw [if_neg (by simp), if_neg (by simp [hr, hp])]
  rfl

theorem blzCfgWrite_zx_stores (hen : s.flag BLZ_CFG_EN k = false) : Answers (.blzCfgWrite .zx k 1 v) s (fun u =>
    u.rd BLZ_POLY_POLY k = bits v 63 32 ∧ u.rd BLZ_POLY_INIT k = bits v 31 0 ∧ u.out = s.out ++ [.apb 0 false]) := by
  have hexec := exec_blzCfgWrite_poly (k := k) (v := v) hr hp
  rw [State.blzWrite_poly_stores hen] at hexec
  replace hexec := hexec.trans (if_pos rfl)
  obtain ⟨hpoly, hinit⟩ := s.rd_setReg_poly k v
  exact ⟨_, hexec, hpoly, hinit, rfl⟩

theorem blzCfgWrite_zx_refuses (hen : s.flag BLZ_CFG_EN k = true) (hold : s.rd BLZ_POLY_POLY k < 2 ^ 32)
    (hnew : bits v 63 32 ≠ s.rd BLZ_POLY_POLY k) : Answers (.blzCfgWrite .zx k 1 v) s (fun u =>
    u.rd BLZ_POLY_POLY k = s.rd BLZ_POLY_POLY k ∧ u.out = s.out ++ [.apb 0 true] ∧ s.lsUp u 0xCB 1) := by
  have hexec := exec_blzCfgWrite_poly (k := k) (v := v) hr hp
  rw [State.blzWrite_poly_refuses hen hold hnew] at hexec
  replace hexec := hexec.trans (if_neg Bool.false_ne_true)
  refine ⟨_, hexec, s.rd_ls _ _ (by decide) (by decide), ?_, s.lsUp_ls _ _⟩
  exact congrArg (fun l => l ++ [Out.apb 0 true]) (s.ls_out _ _)

end

theorem blzCfgWrite_bx_stores {s : State} {k v : Nat} (hen : s.flag BLZ_CFG_EN (16 + k) = false) : Answers (.blzCfgWrite .bx k 1 v) s
    (fun u => u.rd BLZ_POLY_POLY (16 + k) = bits v 63 32 ∧ u.rd BLZ_POLY_INIT (16 + k) = bits v 31 0 ∧ u.out = s.out) := by
  have hexec : exec (.blzCfgWrite .bx k 1 v) s = done (s.blzWrite (16 + k) 1 (v &&& Reg.mask .BLZ_POLY (16 + k))).2 := rfl
  rw [State.blzWrite_poly_stores hen] at hexec
  obtain ⟨hpoly, hinit⟩ := s.rd_setReg_poly (16 + k) v
  exact ⟨_, hexec, hpoly, hinit, rfl⟩

/-- Settles O21: what follows the count of a block reads and writes other registers than its count, the triggers of a condemned block leave the
units and the poison requests alone, and of the two fields of POLY the upper one decides whether a write would change it. -/
theorem blazeUnitsOfZx40Judge : Obligations.BlazeUnitsOfZx40Judge :=
  ⟨fun _ _ _ _ _ hready hinj hmode hfirst hok => blazeClassify_ok hready hinj hmode hfirst hok,
    fun _ _ _ _ _ hready hinj hmode hfirst hbad hpoison hroom =>
      blazeClassify_condemned hready hinj hmode hfirst rfl hbad hpoison hroom,
    fun _ _ _ _ _ hready hinj hmode hfirst hcorrupt hfree => blazeClassify_corrupt hready hinj hmode hfirst hcorrupt hfree,
    fun _ _ _ _ hj hcoming hdue => blazeRefetchTimeout_expires hj hcoming hdue,
    fun _ _ hblock hready => blzFlushRf_empties hblock hready,
    fun s k => blzCntClr_clears s k,
    fun _ _ _ hr hp hen => blzCfgWrite_zx_stores hr hp hen,
    fun _ _ _ hr hp hen hold hnew => blzCfgWrite_zx_refuses hr hp hen hold hnew⟩

end Sys2Proof.Machine
end

section
/-! SUPPORT. Check units and write points of BX64 (R186, R189, R201, R205). -/

namespace Sys2Proof.Machine
open Sys2Proof

theorem State.bxInject_unarmed {s : State} {u : Nat} (h : s.flag BX_WT_INJ_ARMED (wtTarget 3 u) = false) (b : BxBlock) :
    s.bxInject u b = (b, s) := by
  unfold State.bxInject State.wtEvent
  rw [h]
  rfl

/-- A clean block judged o at unit u is counted and noted. -/
def State.bxCounted (s : State) (u o : Nat) (b : BxBlock) : State :=
  ((s.countUntyped (16 + u) b.word).blzCount (16 + u) o).blzLast (16 + u) o b.addr b.tag

theorem State.bxPass_clean {s : State} {u : Nat} {b : BxBlock} (hinj : s.flag BX_WT_INJ_ARMED (wtTarget 3 u) = false)
    (hclean : b.poisoned = false) {o : Nat} (ho : s.blzJudge (16 + u) b.data b.addr b.seq b.word = o) :
    s.bxPass u b = (o, s.bxCounted u o b) := by
  unfold State.bxPass
  rw [State.bxInject_unarmed hinj]
  dsimp only
  rw [hclean, if_neg Bool.false_ne_true, ho]
  rfl

/-- The outcome OK of a unit from 16 to 23 has no consumer to be told. -/
theorem State.bxOutcome_ok (s : State) {u : Nat} (hlo : 16 ≤ u) (hhi : u < 24) (tries : Nat) (b : BxBlock) : s.bxOutcome u blzOk tries b = s := by
  have hcorrupt : blzOk ≠ blzCorrupt := by decide
  have hbad : ¬ (blzOk = blzMismatch ∨ blzOk = blzStale) := by decide
  unfold State.bxOutcome
  rw [if_neg hcorrupt, if_neg hbad]
  unfold State.bxReport
  rw [if_neg (Nat.not_lt.mpr hlo), if_neg fun h => Nat.not_le.mpr hhi h.1]

/-- A word that is corrupt for the first time is read again. -/
theorem State.bxOutcome_corrupt (s : State) (u : Nat) (b : BxBlock) : s.bxOutcome u blzCorrupt 0 b =
    (s.setHbm { s.hbm with reread := s.hbm.reread.set u (b, 1) }).emit (.reread u b.addr) := by
  unfold State.bxOutcome
  rw [if_pos rfl, if_pos (by decide)]

section
variable (s : State) (u o : Nat) (b : BxBlock)

theorem State.bxCounted_out : (s.bxCounted u o b).out = s.out := by
  rw [State.bxCounted, State.blzLast_out, State.blzCount_out, State.countUntyped_out]

theorem State.bxCounted_hbm : (s.bxCounted u o b).hbm = s.hbm := by
  rw [State.bxCounted, State.blzLast_hbm, State.blzCount_hbm, State.countUntyped_hbm]

/-- A counter that is not MALFORMED's counts the outcome as BLZ_CNT0 and BLZ_CNT1 do. -/
theorem State.counted_bxCounted {f : Fld} (hlo : f.lo < 64) (hf : f.reg ≠ .BLZ_LAST)
    (hm : f.reg ≠ .BLZ_CNT1 ∨ f.lo ≠ BLZ_CNT1_MALFORMED.lo)
    (hcount : ∀ t : State, t.counted (t.blzCount (16 + u) o) f (16 + u) 1) : s.counted (s.bxCounted u o b) f (16 + u) 1 :=
  (State.rd_blzLast _ _ _ _ _ hlo hf).trans (State.counted_of_before (s.rd_countUntyped _ _ hlo hm) (hcount _))

end

section
variable {s : State} {k : Nat} {b : BxBlock}

theorem bxBlazeCheck_forms {fmt : Nat} (hk : k < 32) (hen : s.flag BLZ_CFG_EN (16 + k) = true) (hclean : b.poisoned = false) :
    Answers (.bxBlazeCheck k (some fmt) b) s (fun u =>
      u.out = s.out ++ [.blazeWord k b.addr (s.blzForm (16 + k) b.data b.addr b.seq fmt)] ∧ s.counted u BLZ_CNT0_CHECKED (16 + k) 1 ∧
      u.hbm = s.hbm) := by
  let w := s.blzForm (16 + k) b.data b.addr b.seq fmt
  let t := (s.blzCount (16 + k) blzReported).emit (.blazeWord k b.addr w)
  refine ⟨t.countUntyped (16 + k) w, ?_, ?_, ?_, ?_⟩
  · change execBxBlazeCheck k (some fmt) b s = done _
    unfold execBxBlazeCheck State.bxForm
    rw [if_neg (by simp [hk, hen])]
    dsimp only
    rw [if_neg (by simp [hen]), hclean, if_neg Bool.false_ne_true]
    rfl
  · rw [State.countUntyped_out]
    exact congrArg (fun l => l ++ [Out.blazeWord k b.addr w]) (s.blzCount_out _ _)
  · exact (t.rd_countUntyped _ _ (by decide) (.inl (by decide))).trans (s.counted_bump BLZ_CNT0_CHECKED (16 + k) 1)
  · exact (t.countUntyped_hbm _ _).trans (s.blzCount_hbm _ _)

section
variable (hen : s.flag BLZ_CFG_EN (16 + k) = true) (hinj : s.flag BX_WT_INJ_ARMED (wtTarget 3 k) = false) (hclean : b.poisoned = false)
include hen hinj hclean

/-- A clean block that no injection meets is counted under its outcome, which then acts. -/
theorem exec_bxBlazeCheck (hk : k < 32) {o : Nat} (ho : s.blzJudge (16 + k) b.data b.addr b.seq b.word = o) :
    exec (.bxBlazeCheck k none b) s = done ((s.bxCounted k o b).bxOutcome k o 0 b) := by
  change execBxBlazeCheck k none b s = done _
  unfold execBxBlazeCheck
  rw [if_neg (by simp [hk, hen])]
  dsimp only
  rw [State.bxPass_clean hinj hclean ho]

theorem bxBlazeCheck_ok (hlo : 16 ≤ k) (hhi : k < 24) (hok : s.blzJudge (16 + k) b.data b.addr b.seq b.word = blzOk) :
    Answers (.bxBlazeCheck k none b) s (fun u => s.counted u BLZ_CNT0_CHECKED (16 + k) 1 ∧ u.hbm = s.hbm ∧ u.out = s.out) := by
  have hexec := exec_bxBlazeCheck hen hinj hclean (by omega) hok
  rw [State.bxOutcome_ok _ hlo hhi] at hexec
  exact ⟨_, hexec, s.counted_bxCounted k _ b (by decide) (by decide) (.inl (by decide)) (fun t => t.blzCount_ok_counts _),
    s.bxCounted_hbm k _ b, s.bxCounted_out k _ b⟩

theorem bxBlazeCheck_corrupt (hk : k < 32) (hcorrupt : s.blzJudge (16 + k) b.data b.addr b.seq b.word = blzCorrupt) :
    Answers (.bxBlazeCheck k none b) s (fun u => u.out = s.out ++ [.reread k b.addr] ∧ SMap.find? u.hbm.reread k = some (b, 1) ∧
      s.counted u BLZ_CNT1_CORRUPT (16 + k) 1) := by
  have hexec := exec_bxBlazeCheck hen hinj hclean hk hcorrupt
  rw [State.bxOutcome_corrupt] at hexec
  refine ⟨_, hexec, ?_, SMap.find?_set_same _ _ _, ?_⟩
  · exact congrArg (fun l => l ++ [Out.reread k b.addr]) (s.bxCounted_out k _ b)
  · unfold State.counted
    rw [State.rd_emit, State.rd_setHbm]
    exact s.counted_bxCounted k _ b (by decide) (by decide) (.inr (by decide)) fun t => t.blzCount_corrupt_counts _

end

theorem blazeReread_ok {w q n : Nat} {d : Bytes} (hlo : 16 ≤ k) (hhi : k < 24) (hheld : s.hbm.reread.find? k = some (b, n))
    (hinj : s.flag BX_WT_INJ_ARMED (wtTarget 3 k) = false)
    (hok : s.blzJudge (16 + k) d b.addr (q % 2 ^ 32) (w % 2 ^ 64) = blzOk) : Answers (.blazeReread k ⟨w, q⟩ d false) s (fun u =>
    SMap.find? u.hbm.reread k = none ∧ u.out = s.out ∧ s.counted u BLZ_CNT0_CHECKED (16 + k) 1) := by
  let a := s.setHbm { s.hbm with reread := s.hbm.reread.erase k }
  let b' : BxBlock := { b with word := w % 2 ^ 64, seq := q % 2 ^ 32, data := d, poisoned := false }
  refine ⟨a.bxCounted k blzOk b', ?_, ?_, ?_, ?_⟩
  · change execBlazeReread k ⟨w, q⟩ d false s = done _
    unfold execBlazeReread
    rw [hheld]
    dsimp only
    rw [State.bxPass_clean (s := a) (b := b') hinj rfl hok]
    exact congrArg done (State.bxOutcome_ok _ hlo hhi n b')
  · rw [State.bxCounted_hbm]
    exact SMap.find?_erase_same _ _
  · exact a.bxCounted_out k _ b'
  · exact a.counted_bxCounted k _ b' (by decide) (by decide) (.inl (by decide)) fun t => t.blzCount_ok_counts _

end

/-- Settles O22: a clean block that no injection meets is only counted and noted before its outcome acts, and OK has no consumer at units 16
to 23. -/
theorem blazeUnitsOfBx64Judge : Obligations.BlazeUnitsOfBx64Judge :=
  ⟨fun _ _ _ _ hk hen hclean => bxBlazeCheck_forms hk hen hclean,
    fun _ _ _ hlo hhi hen hinj hclean hok => bxBlazeCheck_ok hen hinj hclean hlo hhi hok,
    fun _ _ _ hk hen hinj hclean hcorrupt => bxBlazeCheck_corrupt hen hinj hclean hk hcorrupt,
    fun _ _ _ _ _ _ _ hlo hhi hheld hinj hok => blazeReread_ok hlo hhi hheld hinj hok,
    fun _ _ _ hen => blzCfgWrite_bx_stores hen⟩

end Sys2Proof.Machine
end

section
/-! SUPPORT. What the signalling of events leaves alone (R133, R134, R157, R378, R388, R470, R501): records, events, alarms, violations and the
changes of LSTATE that they bring; a lemma per function. -/

namespace Sys2Proof.Machine
open Sys2Proof

/-- A state without what the signalling of events changes: register fields, link ends, the records of Taproot, the event rings, the outputs,
and on Canopy the ports, the routes and the MSG_ID. -/
def State.unsignalled (s : State) : State :=
  { s with
    regs := [], links := [], tap := {}, out := [], wdn := { s.wdn with rings := [] }
    cnp := { s.cnp with ports := [], lsdb := [], lseq := 0, lsaAt := 0, routes := [], msgId := 0 } }

/-- The registers that the signalling of events changes: those of Heartwood and of the event rings, the counters of the links and of messages
without a route, and what is held of a port's state. -/
def signalRegs : List Reg :=
  [.BX_HW_STS, .BX_HW_CNT, .BX_WDN_EV_STS, .BX_CNP_CNT0, .ZX_LS_VAL, .ZX_STM_CNT, .PORT_ERRS, .BX_STM_PORT_MISC, .BX_CNP_PORT_MISC,
    .BX_STM_PORT_CTRL, .BX_CNP_PORT_CTRL, .BX_CNP_PORT_STS]

/-- Between s before and t after, events have been signalled, and nothing else has changed. -/
structure Signals (s t : State) : Prop where
  rest : t.unsignalled = s.unsignalled
  regs : RegsKept signalRegs s t

namespace Signals
variable {s t u : State}

theorem refl (s : State) : Signals s s := ⟨rfl, .refl _ s⟩

theorem branch {c : Prop} [Decidable c] (ht : Signals s t) (hu : Signals s u) : Signals s (if c then t else u) := by
  split <;> assumption

theorem foldl {α : Type} {f : State → α → State} {l : List α} (h : Signals s t) (hf : ∀ u x, Signals s u → Signals s (f u x)) :
    Signals s (l.foldl f t) := List.foldlRecOn l f h fun u hu x _ => hf u x hu

theorem snd_eq {α : Type} {p : α × State} {a : α} (h : Signals s p.2) (e : p = (a, u)) : Signals s u := by
  subst e
  exact h

/-! What they do not change, part by part. -/

theorem red (h : Signals s t) : t.red = s.red := congrArg (fun u => u.red) h.rest
theorem grv (h : Signals s t) : t.grv = s.grv := congrArg (fun u => u.grv) h.rest
theorem delivered (h : Signals s t) : t.cnp.delivered = s.cnp.delivered := congrArg (fun u => u.cnp.delivered) h.rest
theorem replies (h : Signals s t) : t.wdn.replies = s.wdn.replies := congrArg (fun u => u.wdn.replies) h.rest
theorem zxPort (h : Signals s t) (p : Nat) : t.zxPort p = s.zxPort p := congrArg (fun u => u.wdn.zx.getD p {}) h.rest

/-! Updates of what they change. -/

theorem wr (h : Signals s t) {f : Fld} {i v : Nat} (hlo : f.lo < 64 := by decide) (hf : f.reg ∈ signalRegs := by decide) :
    Signals s (t.wr f i v) := ⟨h.rest, h.regs.wr hlo hf⟩

theorem bump (h : Signals s t) {f : Fld} {i n : Nat} (hlo : f.lo < 64 := by decide) (hf : f.reg ∈ signalRegs := by decide) :
    Signals s (t.bump f i n) := h.wr hlo hf

theorem ls (h : Signals s t) {k n} : Signals s (t.ls k n) := .branch h h.wr

theorem modLink (h : Signals s t) {e f} : Signals s (t.modLink e f) := ⟨h.rest, h.regs⟩

theorem setPort (h : Signals s t) {q p} : Signals s (t.setPort q p) := ⟨h.rest, h.regs⟩

theorem setTap (h : Signals s t) {tap} : Signals s { t with tap := tap } := ⟨h.rest, h.regs⟩

theorem setRing (h : Signals s t) {f r} : Signals s (t.setRing f r) := ⟨h.rest, h.regs⟩

theorem emit (h : Signals s t) {o} : Signals s (t.emit o) := ⟨h.rest, h.regs⟩

theorem consume (h : Signals s t) {e ty sub} : Signals s (t.consume e ty sub) := h.modLink

/-! Records and events. -/

theorem hwWrite (h : Signals s t) {r} : Signals s (t.hwWrite r) :=
  .branch (Signals.branch h.wr.bump h.wr).setTap (Signals.branch h.wr.bump h.wr).setTap

theorem signal (h : Signals s t) {r} : Signals s (t.signal r) :=
  .branch h.hwWrite (.branch h.bump (.branch (Signals.branch h.setTap h).bump (Signals.branch h.setTap h).setTap))

theorem violation (h : Signals s t) {partner row source idx} : Signals s (t.violation partner row source idx) := h.signal

theorem takeEvSeq (h : Signals s t) {f} : Signals s (t.takeEvSeq f) := h.wr

theorem ringPut (h : Signals s t) {f ev} : Signals s (t.ringPut f ev) := h.emit.emit.setRing

theorem enterRing (h : Signals s t) {f kind body} : Signals s (t.enterRing f kind body) :=
  .branch h.takeEvSeq.ringPut (.branch h.takeEvSeq.setRing h.takeEvSeq.setRing.bump)

theorem overflowIfDue (h : Signals s t) {f} : Signals s (t.overflowIfDue f) := by
  dsimp only [State.overflowIfDue]
  split
  · exact h
  · exact .branch h.setRing.enterRing h

theorem post (h : Signals s t) {f kind body} : Signals s (t.post f kind body) := .branch h.overflowIfDue.enterRing h

/-! Alarms and advertisements on Canopy. -/

theorem outPort (h : Signals s t) {ty sub src dst} : Signals s (t.outPort ty sub src dst).2 := by
  dsimp only [State.outPort]
  split
  · split
    · exact h
    · split
      · exact h
      · split <;> exact h.bump
  · split
    · exact h
    · exact h.bump

theorem sendOn (h : Signals s t) {q ty sub vc src dst bcast bytes hops} : Signals s (t.sendOn q ty sub vc src dst bcast bytes hops) :=
  h.foldl fun _ _ h => h.modLink

theorem alarmUp (h : Signals s t) {sub p40} : Signals s (t.alarmUp sub p40) := by
  dsimp only [State.alarmUp]
  split
  · exact h.post
  · split
    · next e => exact (h.outPort.snd_eq e).sendOn
    · next e => exact .branch h.post (h.outPort.snd_eq e)

theorem floodLsa (h : Signals s t) : Signals s t.floodLsa := foldl ⟨h.rest, h.regs⟩ fun _ _ h => h.sendOn

/-! Changes of LSTATE, and the violations that bring them. -/

theorem setPstate (h : Signals s t) {q ps} : Signals s (t.setPstate q ps) := .branch h.wr.floodLsa h.wr

theorem setLstate (h : Signals s t) {e st} : Signals s (t.setLstate e st) := by
  dsimp only [State.setLstate]
  split
  · exact .branch h.modLink h.modLink.setPort.setPstate
  · exact h.modLink

theorem countRetrain (h : Signals s t) {e} : Signals s (t.countRetrain e) := by
  unfold State.countRetrain
  split
  · exact h.ls
  · exact h.bump
  · exact h.bump

theorem retrain (h : Signals s t) {e} : Signals s (t.retrain e) := .branch h.countRetrain.setLstate h

theorem setHold (h : Signals s t) {e hold} : Signals s (t.setHold e hold) := by
  unfold State.setHold
  extract_lets u
  have hu : Signals s u := by
    dsimp only [u]
    split
    · exact h
    · exact h.wr
    · exact h.wr
  exact .branch (.branch hu hu.setLstate) (.branch hu.modLink.setLstate hu)

theorem escalate (h : Signals s t) {e} : Signals s (t.escalate e) :=
  .branch (.branch h.modLink.retrain.modLink.setHold.signal.alarmUp h.modLink.retrain) h

theorem countViol (h : Signals s t) {e} : Signals s (t.countViol e) := modLink (.branch h h.modLink)

theorem viol (h : Signals s t) {e row} : Signals s (t.viol e row) := by
  dsimp only [State.viol]
  refine .escalate ?_
  split
  · exact h.countViol.bump
  · exact h.countViol.bump.violation
  · exact h.countViol.bump.violation

end Signals

end Sys2Proof.Machine
end

section
/-! SUPPORT. Partials leave, are received, and come back from the mirror (R219 to R222, R233, Table 8-6). -/

namespace Sys2Proof.Machine
open Sys2Proof

/-! ### Messages under end-to-end recovery (R386, R387) -/

theorem State.outPort_cnp (s : State) (ty sub src dst : Nat) : (s.outPort ty sub src dst).2.cnp = s.cnp := by
  dsimp only [State.outPort]
  split
  · split
    · rfl
    · split
      · rfl
      · split <;> rfl
  · split <;> rfl

theorem State.sendOn_cnp (s : State) (q ty sub vc src dst : Nat) (bcast : Bool) (bytes : Bytes) (hops : Nat) :
    (s.sendOn q ty sub vc src dst bcast bytes hops).cnp = s.cnp :=
  List.foldlRecOn (motive := fun t : State => t.cnp = s.cnp) _ _ rfl fun _ h _ _ => h

theorem State.sendTo_cnp (s : State) (ty sub vc dst : Nat) (bytes : Bytes) : (s.sendTo ty sub vc dst bytes).cnp = s.cnp := by
  have hport := s.outPort_cnp ty sub s.agg dst
  dsimp only [State.sendTo]
  split
  · next e =>
    rw [e] at hport
    exact (State.sendOn_cnp _ _ _ _ _ _ _ _ _ _).trans hport
  · next e =>
    rw [e] at hport
    exact hport

/-- A message keeps those under recovery before it, and joins them where it is to be recovered. -/
theorem State.sendMsg_e2e (s : State) (ty sub vc dst : Nat) (body : Bytes) (epoch : Option Nat) (rec : Bool) :
    s.cnp.e2e ⊆ (s.sendMsg ty sub vc dst body epoch rec).cnp.e2e ∧
    (rec = true → ∃ m ∈ (s.sendMsg ty sub vc dst body epoch rec).cnp.e2e, m.ty = ty ∧ m.sub = sub ∧ m.dst = dst ∧ m.epoch = epoch) := by
  dsimp only [State.sendMsg]
  rw [State.sendTo_cnp]
  cases rec with
  | false => exact ⟨fun _ h => h, nofun⟩
  | true => exact ⟨List.subset_append_left _ _, fun _ => ⟨_, List.mem_append_right _ (List.mem_singleton_self _), rfl, rfl, rfl, rfl⟩⟩

theorem State.mirror_e2e (s : State) (m : MirrorItem) (epoch : Option Nat) : s.cnp.e2e ⊆ (s.mirror m epoch).2.cnp.e2e := by
  dsimp only [State.mirror]
  split
  · exact fun _ h => h
  · exact (s.sendMsg_e2e _ _ _ _ _ _ _).1

/-- A message had before is acknowledged once more, and nothing else. -/
theorem State.e2eTake_seen (s : State) {src msgId : Nat} (h : (src, msgId) ∈ s.cnp.delivered) :
    s.e2eTake src msgId = (false, s.sendE2eAck src msgId) := by
  unfold State.e2eTake
  simp [h]

/-! ### Partials leave (R219, R220, R222) -/

/-- A partial that leaves is kept as sent and counted, and its message to dst is under recovery. -/
theorem State.emitPartial_leaves (s : State) (c : Settings) (p : Partial) (dst : Nat) :
    (s.emitPartial c p dst).red = { s.red with kept := s.red.kept ++ [⟨true, p⟩] } ∧
    s.counted (s.emitPartial c p dst) BX_RED_CNT0_PARTIALS_SENT 0 1 ∧
    ∃ m ∈ (s.emitPartial c p dst).cnp.e2e, m.ty = 1 ∧ m.sub = 1 ∧ m.dst = dst ∧ m.epoch = some p.epoch := by
  let t := s.sendMsg 1 1 3 dst (c.partialBytes p) (some p.epoch) true
  let u : State := { t.bump BX_RED_CNT0_PARTIALS_SENT with red := { t.red with kept := t.red.kept ++ [⟨true, p⟩] } }
  have ht : Sends s t := (Sends.refl s).sendMsg
  have hmirror : Sends u (s.emitPartial c p dst) := (Sends.refl u).mirror
  obtain ⟨m, hm, hkind⟩ := (s.sendMsg_e2e 1 1 3 dst (c.partialBytes p) (some p.epoch) true).2 rfl
  refine ⟨hmirror.red.trans ?_, ?_, m, u.mirror_e2e _ _ hm, hkind⟩
  · change ({ t.red with kept := t.red.kept ++ [⟨true, p⟩] } : Reduction) = _
    rw [ht.red]
  · have hcount := t.counted_bump BX_RED_CNT0_PARTIALS_SENT 0 1
    unfold State.counted at hcount ⊢
    rw [hmirror.rd, ← ht.rd (s := s) (f := BX_RED_CNT0_PARTIALS_SENT)]
    exact hcount

/-- Between s before and u after, what the context x of epoch n has merged since its last partial has left for the aggregator a. -/
abbrev State.PartialLeft (s : State) (n a : Nat) (x : Ctx) (supplement : Bool) (u : State) : Prop :=
  (u.ctx? n).map (fun y => (y.firstSent, y.lastSent, y.partSeq, y.acc)) = some (true, s.bxNs, s.nextSeq n + 1, {}) ∧
  u.red.kept.map (fun k => (k.sent, k.p.epoch, k.p.supplement, k.p.body)) =
    s.red.kept.map (fun k => (k.sent, k.p.epoch, k.p.supplement, k.p.body)) ++ [(true, n, supplement, x.acc)] ∧
  s.counted u BX_RED_CNT0_PARTIALS_SENT 0 1 ∧ (∃ m ∈ u.cnp.e2e, m.ty = 1 ∧ m.sub = 1 ∧ m.dst = a ∧ m.epoch = some n)

section
variable {s : State} {n a : Nat} {x : Ctx} {g : GenRec} (hx : s.ctx? n = some x)
include hx

theorem State.ctx?_epoch : x.epoch = n := by simpa using List.find?_some hx

/-- The context replaced is found again. -/
theorem State.ctx?_setCtx_of_epoch {y : Ctx} (hy : y.epoch = n) : (s.setCtx y).ctx? n = some y := by
  subst hy
  exact s.ctx?_setCtx (by rw [hx]; rfl)

variable (hp : s.parentOf n = some a) (hg : s.genOf n = some g)
include hp hg

theorem State.sendPartial_leaves (supplement : Bool) : s.PartialLeft n a x supplement (s.sendPartial x supplement) := by
  obtain rfl := State.ctx?_epoch hx
  let y : Ctx := { x with acc := {}, firstSent := true, lastSent := s.bxNs, partSeq := s.nextSeq x.epoch + 1 }
  let p : Partial := {
    epoch := x.epoch, gen := g.gen, origin := s.agg, supplement := supplement, partSeq := s.nextSeq x.epoch, body := x.acc }
  have hsend : s.sendPartial x supplement = (s.setCtx y).emitPartial g.cfg p a := by
    unfold State.sendPartial
    rw [hp, hg]
  obtain ⟨hred, hcount, hmsg⟩ := (s.setCtx y).emitPartial_leaves g.cfg p a
  have hctx : (s.setCtx y).ctx? x.epoch = some y := State.ctx?_setCtx_of_epoch hx rfl
  rw [hsend]
  refine ⟨?_, ?_, hcount, hmsg⟩
  · rw [State.ctx?, hred]
    exact (congrArg (Option.map fun y => (y.firstSent, y.lastSent, y.partSeq, y.acc)) hctx).trans rfl
  · rw [hred]
    exact List.map_append

variable (hr : s.rootOf n = false)
include hr

theorem partialFlush_leaves (hfirst : x.firstSent = false) (hdue : s.flushAt n ≤ s.bxNs) :
    Answers (.partialFlush n false) s (s.PartialLeft n a x false) := by
  refine ⟨s.sendPartial x false, ?_, State.sendPartial_leaves hx hp hg false⟩
  change execPartialFlush n false s = _
  unfold execPartialFlush
  simp [hx, hr, hfirst, hdue, done]

theorem partialReady_leaves (hfirst : x.firstSent = false) (hlocals : ∀ d ∈ s.expectedLocals n, x.localSeen.contains d = true)
    (hchildren : ∀ c ∈ s.childrenOf n, x.childFirst.contains c = true) : Answers (.partialReady n) s (s.PartialLeft n a x false) := by
  refine ⟨s.sendPartial x false, ?_, State.sendPartial_leaves hx hp hg false⟩
  have hready : ((s.expectedLocals n).all (fun d => x.localSeen.contains d) && (s.childrenOf n).all (fun a => x.childFirst.contains a)) = true := by
    rw [List.all_eq_true.mpr hlocals, List.all_eq_true.mpr hchildren]
    rfl
  change execPartialReady n s = _
  unfold execPartialReady
  rw [hx]
  exact if_pos ⟨by simp [hr], by simp [hfirst], hready⟩

theorem supplementPartial_leaves (hfirst : x.firstSent = true) (hnew : x.acc.dies ≠ [])
    (hdue : x.lastSent + (s.schedOf n).len / 8 ≤ s.bxNs) (hlate : s.bxNs < s.horizonOf n) :
    Answers (.supplementPartial n) s (s.PartialLeft n a x true) := by
  refine ⟨s.sendPartial x true, ?_, State.sendPartial_leaves hx hp hg true⟩
  change execSupplementPartial n s = _
  unfold execSupplementPartial
  rw [hx]
  exact if_pos ⟨by simp [hr], hfirst, hnew, hdue, hlate⟩

end

/-! ### Partials are received (R221) -/

/-- What a BX64 is in the tree of an epoch is read off the generations, the verdicts on its neighbours, its aggregator ID and its role. -/
theorem State.rootOf_congr {s t : State} (hep : t.ep = s.ep) (hpeers : t.cnp.peers = s.cnp.peers)
    (hagg : t.rd BX_CNP_IDENT_AGG_ID = s.rd BX_CNP_IDENT_AGG_ID)
    (hrole : t.rd BX_CNP_FAB_STS_ROLE = s.rd BX_CNP_FAB_STS_ROLE) (n : Nat) : t.rootOf n = s.rootOf n := by
  have hlost (a : Nat) : t.isLost a = s.isLost a := by simp only [State.isLost, hpeers]
  have hpast : t.pastGen? n = s.pastGen? n := by simp only [State.pastGen?, State.genOf, hep]
  have hroot (g : GenRec) : t.pastRoot g = s.pastRoot g := by simp only [State.pastRoot, hlost]
  have hself : t.isRoot = s.isRoot := by simp only [State.isRoot, hrole]
  have hid : t.agg = s.agg := hagg
  simp only [State.rootOf, hpast, hroot, hid, hself]

theorem Sends.genOf {s t : State} (h : Sends s t) (n : Nat) : t.genOf n = s.genOf n := by simp only [State.genOf, h.ep]

theorem Sends.horizonOf {s t : State} (h : Sends s t) (n : Nat) : t.horizonOf n = s.horizonOf n := by
  simp only [State.horizonOf, State.schedOf, h.genOf]

theorem Sends.committed {s t : State} (h : Sends s t) (n : Nat) : t.committed n = s.committed n := State.committed_congr h.rd h.rd n

theorem State.rd_bump_otherReg (s : State) {f g : Fld} (i j n : Nat) (hf : f.lo < 64 := by decide) (hg : g.lo < 64 := by decide)
    (h : g.reg ≠ f.reg := by decide) : (s.bump f i n).rd g j = s.rd g j := s.rd_wr_otherReg _ hf hg h

/-- A partial of another generation than its epoch's is counted as received and as a mismatch. -/
theorem State.takeReceived_mismatch {s : State} {p : Partial} {g : GenRec} (hg : s.genOf p.epoch = some g) (hne : p.gen ≠ g.gen) :
    s.takeReceived p = (s.bump BX_RED_CNT0_PARTIALS_RCVD).bump BX_RED_CNT1_GEN_MISMATCH := by
  unfold State.takeReceived
  refine if_pos ?_
  change p.gen ≠ ((s.genOf p.epoch).map fun g => g.gen).getD 0
  rwa [hg]

theorem State.mergePartial_of_new (s : State) {p : Partial} {x : Ctx}
    (hnew : p.body.dies.any (fun d => x.merged.any (fun y => y.1 = d.1)) = false) :
    s.mergePartial x p = s.setCtx (x.takePartial (s.cfgOf p.epoch) p) := by
  unfold State.mergePartial
  simp [hnew]

/-- One of an epoch that still takes partials is counted and kept, and merged where none of its dies is merged already. -/
theorem State.takeReceived_merges {s : State} {p : Partial} {x : Ctx} (hgen : (s.genOf p.epoch).map (fun g => g.gen) = some p.gen)
    (hopen : s.committed p.epoch = false) (hroot : s.rootOf p.epoch = true → s.bxNs < s.horizonOf p.epoch) (hx : s.ctx? p.epoch = some x)
    (hnew : p.body.dies.any (fun d => x.merged.any (fun y => y.1 = d.1)) = false) :
    ((s.takeReceived p).ctx? p.epoch).map (fun y => y.merged) = some (x.merged ++ p.body.dies) ∧
    (s.takeReceived p).red.kept = s.red.kept ++ [⟨false, p⟩] ∧ s.counted (s.takeReceived p) BX_RED_CNT0_PARTIALS_RCVD 0 1 ∧
    (s.takeReceived p).cnp.delivered = s.cnp.delivered := by
  let t := s.bump BX_RED_CNT0_PARTIALS_RCVD
  let v : State := { t with red := { t.red with kept := t.red.kept ++ [⟨false, p⟩] } }
  let u := t.keepReceived p
  have hkept : Sends v u := (Sends.refl _).mirror
  have hux : u.ctx? p.epoch = some x := by
    rw [State.ctx?, hkept.red]
    exact hx
  have hcommitted : t.committed p.epoch = false := by
    rw [State.committed_congr (s := s) (s.rd_bump_otherReg _ _ _) (s.rd_bump_otherReg _ _ _), hopen]
  have hlate : ¬ (t.committed p.epoch = true ∨ t.rootOf p.epoch = true ∧ t.horizonOf p.epoch ≤ t.bxNs) := by
    rw [hcommitted, State.rootOf_congr (s := s) (t := t) rfl rfl (s.rd_bump_otherReg _ _ _) (s.rd_bump_otherReg _ _ _)]
    rintro (h | ⟨hr, hle⟩)
    · cases h
    · exact absurd (hroot hr) (Nat.not_lt.mpr hle)
  have htake : s.takeReceived p = u.setCtx (x.takePartial (u.cfgOf p.epoch) p) := by
    unfold State.takeReceived
    dsimp only
    rw [if_neg (by change ¬ p.gen ≠ ((s.genOf p.epoch).map fun g => g.gen).getD 0; rw [hgen]; simp), if_neg hlate]
    change (match u.ctx? p.epoch with | none => u | some x => u.mergePartial x p) = _
    rw [hux]
    exact u.mergePartial_of_new hnew
  have hmerged : (x.takePartial (u.cfgOf p.epoch) p).epoch = p.epoch ∧ (x.takePartial (u.cfgOf p.epoch) p).merged = x.merged ++ p.body.dies := by
    obtain hepoch := State.ctx?_epoch hx
    unfold Ctx.takePartial
    split <;> simp [hnew, Ctx.merge, hepoch]
  rw [htake]
  refine ⟨?_, congrArg (fun r => r.kept) hkept.red, ?_, hkept.delivered⟩
  · rw [State.ctx?_setCtx_of_epoch hux hmerged.1]
    exact congrArg some hmerged.2
  · exact (hkept.rd (f := BX_RED_CNT0_PARTIALS_RCVD)).trans (s.counted_bump _ _ _)


theorem nearestAncestor_congr {s t : State} (htree : ∀ a, t.treeOf a = s.treeOf a) (hno : ∀ a, t.noParent a = s.noParent a) (fuel a : Nat) :
    nearestAncestor t fuel a = nearestAncestor s fuel a := by
  induction fuel generalizing a with
  | zero => rfl
  | succ fuel ih => simp only [nearestAncestor, htree, hno, ih]

/-- Who is a child does not hang on the link ends. -/
theorem State.childrenOf_consume (s : State) (e : LinkId) (ty sub n : Nat) : (s.consume e ty sub).childrenOf n = s.childrenOf n := by
  have hacting (a : Nat) : (s.consume e ty sub).actingParent a = s.actingParent a :=
    congrArg (fun o => Option.getD o (s.rd BX_CNP_FAB_STS_ACT_ROOT))
      (nearestAncestor_congr (s := s) (t := s.consume e ty sub) (fun _ => rfl) (fun _ => rfl) s.cfg.tree.length a)
  have hchildren : (s.consume e ty sub).children = s.children := by
    simp only [State.children, hacting]
    rfl
  simp only [State.childrenOf, hchildren]
  rfl

section
variable {s : State} {q src m : Nat} {p : Partial} (hlost : s.isLost src = false)
include hlost

/-- A partial that is not RECOMPUTE, from a child and not had before, is taken where its answer has been sent and it counts as delivered. -/
theorem exec_partialReceive (hchild : src ∈ s.childrenOf p.epoch) (hnew : (src, m) ∉ s.cnp.delivered) (hrec : p.recompute = false) :
    ∃ t, Sends s t ∧ exec (.partialReceive q src m p false) s =
      done (State.takeReceived { t with cnp := { t.cnp with delivered := t.cnp.delivered ++ [(src, m)] } } p) := by
  obtain ⟨t, ht, htake⟩ := s.consume_e2eTake_fresh (e := .canopy q) (ty := 1) (sub := 1) hnew
  refine ⟨t, ht, ?_⟩
  change execPartialReceive q src m p false s = _
  unfold execPartialReceive
  dsimp only
  rw [if_neg (by change ¬ s.isLost src = true; simp [hlost]),
    if_neg (by rw [State.childrenOf_consume]; simp [hchild]), htake]
  dsimp only
  rw [if_neg (by decide), if_neg (by simp [hrec]), if_neg (by decide)]

theorem partialReceive_merges {x : Ctx} (hchild : src ∈ s.childrenOf p.epoch) (hnew : (src, m) ∉ s.cnp.delivered)
    (hrec : p.recompute = false)
    (hgen : (s.genOf p.epoch).map (fun g => g.gen) = some p.gen) (hopen : s.committed p.epoch = false)
    (hroot : s.rootOf p.epoch = true → s.bxNs < s.horizonOf p.epoch) (hx : s.ctx? p.epoch = some x)
    (hdies : p.body.dies.any (fun d => x.merged.any (fun y => y.1 = d.1)) = false) : Answers (.partialReceive q src m p false) s (fun u =>
      (u.ctx? p.epoch).map (fun y => y.merged) = some (x.merged ++ p.body.dies) ∧ u.red.kept = s.red.kept ++ [⟨false, p⟩] ∧
      s.counted u BX_RED_CNT0_PARTIALS_RCVD 0 1 ∧ (src, m) ∈ u.cnp.delivered) := by
  obtain ⟨t, ht, he⟩ := exec_partialReceive (q := q) hlost hchild hnew hrec
  let w : State := { t with cnp := { t.cnp with delivered := t.cnp.delivered ++ [(src, m)] } }
  have hwroot : w.rootOf p.epoch = s.rootOf p.epoch := State.rootOf_congr ht.ep ht.peers ht.rd ht.rd _
  have hbx : w.bxNs = s.bxNs := congrArg Timebase.ns ht.bxTb
  obtain ⟨hmerged, hkept, hcount, hdelivered⟩ := State.takeReceived_merges (s := w) (p := p) (x := x)
    ((congrArg (Option.map fun g => g.gen) (ht.genOf p.epoch)).trans hgen) ((ht.committed p.epoch).trans hopen)
    (fun h => by rw [hbx]; exact (hroot (hwroot.symm.trans h)).trans_eq (ht.horizonOf p.epoch).symm)
    ((congrArg (fun r : Reduction => r.ctxs.find? (fun (x : Ctx) => x.epoch = p.epoch)) ht.red).trans hx) hdies
  refine ⟨_, he, hmerged, hkept.trans (congrArg (fun r => r.kept ++ [⟨false, p⟩]) ht.red), ?_, ?_⟩
  · unfold State.counted at hcount ⊢
    rw [← ht.rd (s := s) (f := BX_RED_CNT0_PARTIALS_RCVD)]
    exact hcount
  · rw [hdelivered]
    exact List.mem_append_right _ (List.mem_singleton_self _)

theorem partialReceive_mismatch {g : GenRec} (hchild : src ∈ s.childrenOf p.epoch) (hnew : (src, m) ∉ s.cnp.delivered)
    (hrec : p.recompute = false) (hg : s.genOf p.epoch = some g) (hne : p.gen ≠ g.gen) : Answers (.partialReceive q src m p false) s (fun u =>
      u.red = s.red ∧ s.counted u BX_RED_CNT1_GEN_MISMATCH 0 1) := by
  obtain ⟨t, ht, he⟩ := exec_partialReceive (q := q) hlost hchild hnew hrec
  let w : State := { t with cnp := { t.cnp with delivered := t.cnp.delivered ++ [(src, m)] } }
  rw [State.takeReceived_mismatch (s := w) ((ht.genOf p.epoch).trans hg) hne] at he
  refine ⟨_, he, ht.red, ?_⟩
  have hcount := (w.bump BX_RED_CNT0_PARTIALS_RCVD).counted_bump BX_RED_CNT1_GEN_MISMATCH 0 1
  unfold State.counted at hcount ⊢
  rw [w.rd_bump_otherReg, show w.rd BX_RED_CNT1_GEN_MISMATCH = s.rd BX_RED_CNT1_GEN_MISMATCH from ht.rd] at hcount
  exact hcount

theorem partialReceive_stranger (e : Bool) (hrec : p.recompute = false) (hchild : src ∉ s.childrenOf p.epoch) :
    Answers (.partialReceive q src m p e) s (fun u => u.red = s.red ∧ u.cnp.delivered = s.cnp.delivered) := by
  have hviol : Signals s ((s.consume (.canopy q) 1 1).viol (.canopy q) 7) := (Signals.refl s).consume.viol
  refine ⟨_, ?_, hviol.red, hviol.delivered⟩
  change execPartialReceive q src m p e s = done _
  unfold execPartialReceive
  dsimp only
  rw [if_neg (by change ¬ s.isLost src = true; simp [hlost]),
    if_pos (by rw [State.childrenOf_consume]; simp [hrec, hchild])]

end

theorem partialReceive_lost {s : State} {q src m : Nat} {p : Partial} (e : Bool) (hlost : s.isLost src = true) :
    Answers (.partialReceive q src m p e) s (fun u => u.red = s.red ∧ s.counted u BX_RED_CNT1_LOST_ORIGIN 0 1) := by
  refine ⟨(s.consume (.canopy q) 1 1).bump BX_RED_CNT1_LOST_ORIGIN, ?_, rfl, (s.consume (.canopy q) 1 1).counted_bump _ _ _⟩
  change execPartialReceive q src m p e s = done _
  exact if_pos hlost

/-! ### The mirror is restored (R233, Table 8-6) -/

/-- A state without what changes as partials leave and snapshots are acknowledged: what messages change, the contexts, the partials kept, and
the epochs acknowledged to the dies. -/
def State.unpartialled (s : State) : State := { s.unsent with red := { s.red with ctxs := [], kept := [], logAck := [] } }

/-- Between s before and t after, partials have left or snapshots have been acknowledged, and nothing else outside the registers has changed. -/
def Partials (s t : State) : Prop := t.unpartialled = s.unpartialled

namespace Partials
variable {s t u : State}

theorem refl (s : State) : Partials s s := rfl

theorem branch {c : Prop} [Decidable c] (ht : Partials s t) (hu : Partials s u) : Partials s (if c then t else u) := by
  split <;> assumption

theorem foldl {α : Type} {f : State → α → State} {l : List α} (h : Partials s t) (hf : ∀ u x, Partials s u → Partials s (f u x)) :
    Partials s (l.foldl f t) := List.foldlRecOn l f h fun u hu x _ => hf u x hu

theorem ep (h : Partials s t) : t.ep = s.ep := congrArg (fun u => u.ep) h
theorem log (h : Partials s t) : t.red.log = s.red.log := congrArg (fun u => u.red.log) h
theorem recomputeTo (h : Partials s t) : t.red.recomputeTo = s.red.recomputeTo := congrArg (fun u => u.red.recomputeTo) h

theorem sends (h : Partials s t) (hu : Sends t u) : Partials s u := by
  have hut : u.unpartialled = t.unpartialled :=
    congrArg (fun v : State => { v with red := { v.red with ctxs := [], kept := [], logAck := [] } }) hu.rest
  exact hut.trans h

theorem bump (h : Partials s t) {f i n} : Partials s (t.bump f i n) := h

theorem setCtx (h : Partials s t) {x} : Partials s (t.setCtx x) := h

theorem setKept (h : Partials s t) {l} : Partials s { t with red := { t.red with kept := l } } := h

theorem sendMsg (h : Partials s t) {ty sub vc dst body epoch rec} : Partials s (t.sendMsg ty sub vc dst body epoch rec) :=
  h.sends (Sends.refl t).sendMsg

theorem mirror (h : Partials s t) {m epoch} : Partials s (t.mirror m epoch).2 := h.sends (Sends.refl t).mirror

theorem emitPartial (h : Partials s t) {c p dst} : Partials s (t.emitPartial c p dst) := h.sendMsg.bump.setKept.mirror

theorem recomputePartial (h : Partials s t) {n k} : Partials s (t.recomputePartial n k) := h.emitPartial

theorem recomputeOpen (h : Partials s t) {x} : Partials s (t.recomputeOpen x) :=
  .branch h (h.setCtx.foldl fun _ _ h => h.recomputePartial)

theorem recomputeAll (h : Partials s t) : Partials s t.recomputeAll :=
  h.foldl fun _ _ h => by split; exacts [h, h.recomputeOpen]

theorem advanceAck (h : Partials s t) {d} : Partials s (t.advanceAck d) := .branch h h

theorem advanceAcks (h : Partials s t) {l : List Nat} : Partials s (l.foldl (fun s d => s.advanceAck d) t) := h.foldl fun _ _ h => h.advanceAck

end Partials

/-- Where no incarnation waits for the mirror, none is judged. -/
theorem State.releaseIncs_of_not_due {s : State} (h : s.ep.restoreDue = false) : s.releaseIncs = s := by
  unfold State.releaseIncs
  simp [h]

/-- The state in which the items of a mirror message are restored: a BX64 with a generation in force notes the epochs whose snapshots are
RECOMPUTE ones, one without that it restarted. -/
def State.restoring (s : State) : State :=
  { s with red := { s.red with
      restarted := s.red.restarted || !s.liveGen?.isSome
      recomputeTo := if s.liveGen?.isSome then some (max (s.red.recomputeTo.getD 0) s.bxEpoch) else s.red.recomputeTo } }

/-- What follows the items gives the unsent contributions as RECOMPUTE partials and advances the acknowledgements. -/
theorem exec_mirrorRestoreReceive {s : State} {q src m : Nat} (l : List MirrorItem) (hnew : (src, m) ∉ s.cnp.delivered) :
    ∃ t u, Sends s t ∧
      Partials (l.foldl State.restoreItem (State.restoring { t with cnp := { t.cnp with delivered := t.cnp.delivered ++ [(src, m)] } })) u ∧
      exec (.mirrorRestoreReceive q src m l) s = done u.releaseIncs := by
  obtain ⟨t, ht, htake⟩ := s.consume_e2eTake_fresh (e := .canopy q) (ty := 2) (sub := 0) hnew
  refine ⟨t, _, ht, (Partials.refl _).recomputeAll.advanceAcks (l := List.range 65), ?_⟩
  change execMirrorRestoreReceive q src m l s = _
  unfold execMirrorRestoreReceive
  dsimp only
  rw [htake]
  rfl

theorem Sends.bxEpoch {s t : State} (h : Sends s t) : t.bxEpoch = s.bxEpoch := by
  simp only [State.bxEpoch, State.sched?, State.liveGen?, State.bxNs, h.ep, h.bxTb]

theorem mirrorRestoreReceive_nextInc {s : State} {q src m d i : Nat} (hnew : (src, m) ∉ s.cnp.delivered) (hlive : s.liveGen?.isSome = true)
    (hdue : s.ep.restoreDue = false) : Answers (.mirrorRestoreReceive q src m [.nextInc d i]) s (fun u =>
      (u.die d).next = i ∧ (u.die d).cur = prevInc i ∧ u.red.recomputeTo = some (max (s.red.recomputeTo.getD 0) s.bxEpoch)) := by
  obtain ⟨t, u, ht, hu, he⟩ := exec_mirrorRestoreReceive (q := q) [.nextInc d i] hnew
  let v := State.restoring { t with cnp := { t.cnp with delivered := t.cnp.delivered ++ [(src, m)] } }
  have hdie : u.die d = { v.die d with cur := prevInc i, next := i } :=
    (congrArg (fun e : Epochs => e.dies.getD d {}) hu.ep).trans (SMap.getD_set_same _ _ _ _)
  have hudue : u.ep.restoreDue = false := (congrArg Epochs.restoreDue hu.ep).trans ((congrArg Epochs.restoreDue ht.ep).trans hdue)
  have hbound : v.red.recomputeTo = some (max (s.red.recomputeTo.getD 0) s.bxEpoch) := by
    rw [← ht.bxEpoch, ← ht.red]
    exact if_pos ((congrArg (fun e : Epochs => e.gens.head?.isSome) ht.ep).trans hlive)
  exact ⟨u, he.trans (congrArg done (State.releaseIncs_of_not_due hudue)), by rw [hdie], by rw [hdie], hu.recomputeTo.trans hbound⟩

/-- A mirror message had before is acknowledged, and restores nothing. -/
theorem mirrorRestoreReceive_seen {s : State} {q src m : Nat} (l : List MirrorItem) (hseen : (src, m) ∈ s.cnp.delivered) :
    Answers (.mirrorRestoreReceive q src m l) s (fun u => u.red = s.red ∧ u.ep = s.ep) := by
  have hack : Sends s ((s.consume (.canopy q) 2 0).sendE2eAck src m) := (Sends.refl s).consume.sendMsg
  refine ⟨_, ?_, hack.red, hack.ep⟩
  change execMirrorRestoreReceive q src m l s = done _
  unfold execMirrorRestoreReceive
  dsimp only
  rw [State.e2eTake_seen (s.consume (.canopy q) 2 0) hseen]
  rfl

/-- Settles O23: a partial that leaves, a partial received and a mirror message each change the contexts, the partials kept and the dies once,
and the messages that go with them are sent beside. -/
theorem partialsFlowUpTheTree : Obligations.PartialsFlowUpTheTree :=
  ⟨fun _ _ _ _ _ hx hr hp hg hfirst hdue => partialFlush_leaves hx hp hg hr hfirst hdue,
    fun _ _ _ _ _ hx hr hp hg hfirst hlocals hchildren => partialReady_leaves hx hp hg hr hfirst hlocals hchildren,
    fun _ _ _ _ _ hx hr hp hg hfirst hnew hdue hlate => supplementPartial_leaves hx hp hg hr hfirst hnew hdue hlate,
    fun _ _ _ _ _ _ hlost hchild hnew hrec hgen hopen hroot hx hdies =>
      partialReceive_merges hlost hchild hnew hrec hgen hopen hroot hx hdies,
    fun _ _ _ _ _ _ hlost hchild hnew hrec hg hne => partialReceive_mismatch hlost hchild hnew hrec hg hne,
    fun _ _ _ _ _ e hlost => partialReceive_lost e hlost,
    fun _ _ _ _ _ e hlost hrec hchild => partialReceive_stranger hlost e hrec hchild,
    fun _ _ _ _ _ _ hnew hlive hdue => mirrorRestoreReceive_nextInc hnew hlive hdue,
    fun _ _ _ _ l hseen => mirrorRestoreReceive_seen l hseen⟩

end Sys2Proof.Machine
end

section
/-! SUPPORT. Snapshots of local dies are taken, held and classified (R212 to R214, Tables 5-12 and 8-3). -/

namespace Sys2Proof.Machine
open Sys2Proof

/-! ### Snapshots held -/

/-- What an entry of the ingress log says of its snapshot: all but the row it is classified under, and what its mirror item awaits. -/
def IngEntry.content (x : IngEntry) : Nat × Nat × Bytes × Nat × Nat := (x.die, x.epoch, x.bytes, x.inc, x.gen)

theorem State.held?_content (s : State) (d n : Nat) :
    (s.held? d n).map IngEntry.content = (s.red.log.map IngEntry.content).find? (fun y => decide (y.1 = d ∧ y.2.1 = n)) := by
  rw [List.find?_map]
  rfl

theorem State.resendGen_red (s : State) (p : Nat) : (s.resendGen p).red = s.red := by
  unfold State.resendGen
  split
  · rfl
  · exact (Sends.refl s).stageZx.zxInternal.red

theorem State.mismatch_red (s : State) (p n : Nat) : (s.mismatch p n).red = s.red := by
  unfold State.mismatch
  split
  · exact s.resendGen_red p
  · split
    · exact s.resendGen_red p
    · rfl

theorem State.countRow_red (s : State) (row : Nat) : (s.countRow row).red = s.red := by
  unfold State.countRow
  split <;> rfl

theorem State.setRow_content (s : State) (d n row : Nat) :
    (s.setRow d n row).red.log.map IngEntry.content = s.red.log.map IngEntry.content := by
  change (s.red.log.map _).map _ = _
  rw [List.map_map]
  exact List.map_congr_left fun x _ => by dsimp only [Function.comp]; split <;> rfl

/-- Classification notes the row of the snapshots held, and nothing else of them. -/
theorem State.classify_content (s : State) (d n : Nat) (b : Bytes) :
    (s.classify d n b).red.log.map IngEntry.content = s.red.log.map IngEntry.content := by
  unfold State.classify
  extract_lets self row s₁ s₂
  have h₁ : s₁.red.log.map IngEntry.content = s.red.log.map IngEntry.content := by
    rw [← s.countRow_red row]
    exact State.setRow_content _ _ _ _
  have h₂ : s₂.red.log = s₁.red.log := by
    dsimp only [s₂]
    split
    · rw [s₁.mismatch_red]
    · rfl
  rw [← h₁, ← h₂]
  refine congrArg (List.map IngEntry.content) ?_
  split
  · rfl
  · exact Partials.log (.branch (.branch (Partials.refl s₂).setCtx.recomputePartial (Partials.refl s₂).setCtx) (Partials.refl s₂).setCtx)

/-- A log with room frees nothing. -/
theorem freeLog_of_room {s : State} {n : Nat} (h : s.logBytes + n ≤ s.regionBytes 1) (k : Nat) : freeLog k s n = s := by
  cases k with
  | zero => rfl
  | succ k => exact if_pos h

/-- A new snapshot for which the log has room is held. -/
theorem State.storeSnap_holds {s : State} {d : Nat} {b : Bytes} (hnew : s.held? d (snapEpoch b) = none)
    (hroom : s.logBytes + roundUp64 b.length ≤ s.regionBytes 1) :
    ((s.storeSnap d b).held? d (snapEpoch b)).map IngEntry.content = some (d, snapEpoch b, b, snapInc b, snapGen b) := by
  unfold State.storeSnap
  extract_lets n t₀
  have hfree : t₀ = s := freeLog_of_room hroom _
  clear_value t₀
  rw [hfree, if_neg (Nat.not_lt.mpr hroom)]
  split
  next id t e =>
  have hsend : Sends s t := (Sends.refl s).mirror.snd_eq e
  extract_lets x red s₁ die s₂ past s₃
  have h₂ : s₂.red.log = s.red.log ++ [x] := by
    have h₁ : s₁.red.log = s.red.log ++ [x] := congrArg (fun r : Reduction => r.log ++ [x]) hsend.red
    dsimp only [s₂]
    split <;> exact h₁
  have h₃ : s₃.red.log.map IngEntry.content = s₂.red.log.map IngEntry.content := by
    dsimp only [s₃]
    split
    · exact s₂.classify_content _ _ _
    · rfl
  have hnone := s.held?_content d (snapEpoch b)
  rw [hnew, Option.map_none] at hnone
  rw [State.held?_content, ((Partials.refl s₃).advanceAck).log, h₃, h₂, List.map_append, List.find?_append, ← hnone]
  simp [IngEntry.content, x, n]

/-! ### Snapshots received (Table 8-3) -/

/-- What a snapshot under the die's current incarnation notes before it is held: that the die was heard, the generation it runs and, where it
is no resend, its epoch. -/
def State.heardSnap (s : State) (d : Nat) (b : Bytes) (resent : Bool) : State :=
  let t := (s.hear d (snapEpoch b)).setDie d { s.die d with runs := snapGen b }
  if resent then t else { t with red := { t.red with lastFresh := t.red.lastFresh.set d (snapEpoch b) } }

theorem State.hear_frame (s : State) (d n : Nat) : s.hear d n = { s with cor := (s.hear d n).cor } := by
  unfold State.hear
  dsimp only
  split <;> rfl

theorem State.heardSnap_log (s : State) (d : Nat) (b : Bytes) (resent : Bool) : (s.heardSnap d b resent).red.log = s.red.log := by
  unfold State.heardSnap
  rw [s.hear_frame]
  split <;> rfl

theorem State.heardSnap_regs (s : State) (d : Nat) (b : Bytes) (resent : Bool) : (s.heardSnap d b resent).regs = s.regs := by
  unfold State.heardSnap
  rw [s.hear_frame]
  split <;> rfl

theorem State.heardSnap_resent_red (s : State) (d : Nat) (b : Bytes) : (s.heardSnap d b true).red = s.red := by
  unfold State.heardSnap
  rw [s.hear_frame]
  rfl

section
variable {s : State} {d : Nat} {b : Bytes} {resent : Bool}

/-- A snapshot under the current incarnation, of a closed epoch and not older than the last fresh one: a new one is stored, and one held with
the same bytes is counted. -/
theorem State.takeSnap_current (hinc : snapInc b = (s.die d).cur) (hclosed : s.closed (snapEpoch b) = true)
    (hfresh : (resent || (s.red.lastFresh.find? d).all (fun m => decide (m < snapEpoch b))) = true) :
    (s.held? d (snapEpoch b) = none → s.takeSnap d b resent false = (s.heardSnap d b resent).storeSnap d b) ∧
    (∀ x, s.held? d (snapEpoch b) = some x → x.bytes = b →
      s.takeSnap d b resent false = (s.heardSnap d b resent).bump BX_STM_PORT_MISC_DUP_SNAP d) := by
  have hnotOld : ¬ (¬ resent = true ∧
      ((s.hear d (snapEpoch b)).red.lastFresh.find? d).map (fun m => decide (snapEpoch b ≤ m)) = some true) := by
    rw [s.hear_frame]
    rintro ⟨hr, hm⟩
    obtain ⟨m, hm, hle⟩ := Option.map_eq_some_iff.mp hm
    have hle' : snapEpoch b ≤ m := by simpa using hle
    have hlt : m < snapEpoch b := by simpa [hr, hm] using hfresh
    exact absurd hlt (Nat.not_lt.mpr hle')
  unfold State.takeSnap
  extract_lets n e die s₁ lf red s₂
  have hheld : s₂.held? d n = s.held? d n := congrArg (List.find? _) (s.heardSnap_log d b resent)
  rw [if_neg Bool.false_ne_true, if_neg (not_not.mpr hinc), if_neg (by simp [n, hclosed]), 
    if_neg (show ¬ (¬ resent = true ∧ lf = some true) from hnotOld), hheld]
  refine ⟨fun h => by rw [h]; rfl, fun x h hb => ?_⟩
  rw [h]
  exact if_pos hb

end

theorem exec_snapReceive (s : State) (p : Nat) (b : Bytes) (resent poison : Bool) :
    exec (.snapReceive p b resent poison) s = done ((s.consume (.stem p) 1 0).takeSnap p b resent poison) := rfl

section
variable {s : State} {p : Nat} {b : Bytes} {r : Bool}

theorem snapReceive_holds (hinc : snapInc b = (s.die p).cur) (hclosed : s.closed (snapEpoch b) = true)
    (hfresh : (r || (s.red.lastFresh.find? p).all (fun m => decide (m < snapEpoch b))) = true) (hnew : s.held? p (snapEpoch b) = none)
    (hroom : s.logBytes + roundUp64 b.length ≤ s.regionBytes 1) : Answers (.snapReceive p b r false) s (fun u =>
      (u.held? p (snapEpoch b)).map (fun x => (x.bytes, x.inc, x.gen)) = some (b, snapInc b, snapGen b)) := by
  let t := s.consume (.stem p) 1 0
  let v := t.heardSnap p b r
  have htake : t.takeSnap p b r false = v.storeSnap p b := (State.takeSnap_current (s := t) hinc hclosed hfresh).1 hnew
  have hlog : v.red.log = s.red.log := t.heardSnap_log p b r
  have hvnew : v.held? p (snapEpoch b) = none := (congrArg (List.find? _) hlog).trans hnew
  have hvroom : v.logBytes + roundUp64 b.length ≤ v.regionBytes 1 := by
    unfold State.logBytes State.regionBytes at hroom ⊢
    rwa [hlog, State.rd_congr (t.heardSnap_regs p b r)]
  refine ⟨_, congrArg done htake, ?_⟩
  have hheld := congrArg (Option.map fun y => (y.2.2.1, y.2.2.2.1, y.2.2.2.2)) (State.storeSnap_holds hvnew hvroom)
  rwa [Option.map_map] at hheld

theorem snapReceive_duplicate {x : IngEntry} (hinc : snapInc b = (s.die p).cur) (hclosed : s.closed (snapEpoch b) = true)
    (hheld : s.held? p (snapEpoch b) = some x) (hx : x.bytes = b) : Answers (.snapReceive p b true false) s (fun u =>
      u.red = s.red ∧ s.counted u BX_STM_PORT_MISC_DUP_SNAP p 1) := by
  let t := s.consume (.stem p) 1 0
  have htake : t.takeSnap p b true false = (t.heardSnap p b true).bump BX_STM_PORT_MISC_DUP_SNAP p :=
    (State.takeSnap_current (s := t) hinc hclosed rfl).2 x hheld hx
  refine ⟨_, congrArg done htake, t.heardSnap_resent_red p b, ?_⟩
  have hcount := (t.heardSnap p b true).counted_bump BX_STM_PORT_MISC_DUP_SNAP p 1
  unfold State.counted at hcount ⊢
  rwa [State.rd_congr (t.heardSnap_regs p b true)] at hcount

/-- A snapshot noted as seen counts toward the first partial, and nothing else changes. -/
theorem State.noteSeen_frame (s : State) (d n : Nat) : s.noteSeen d n = { s with red := { s.red with ctxs := (s.noteSeen d n).red.ctxs } } := by
  unfold State.noteSeen
  split <;> rfl

theorem snapReceive_oldIncarnation (hinc : snapInc b ≠ (s.die p).cur) : Answers (.snapReceive p b r false) s (fun u =>
    u.red.log = s.red.log ∧ u.cor = s.cor ∧ s.counted u BX_EPC_DROP_CNT_OLD_INCARNATION 0 1) := by
  let t := s.consume (.stem p) 1 0
  refine ⟨(t.bump BX_EPC_DROP_CNT_OLD_INCARNATION).noteSeen p (snapEpoch b), ?_, ?_⟩
  · rw [exec_snapReceive]
    unfold State.takeSnap
    exact congrArg done ((if_neg Bool.false_ne_true).trans (if_pos hinc))
  · rw [State.noteSeen_frame]
    exact ⟨rfl, rfl, t.counted_bump BX_EPC_DROP_CNT_OLD_INCARNATION 0 1⟩

/-! ### Commands to a ZX40 that a snapshot brings (R147, R212) -/

/-- What a command asks for. -/
def ZxCmd.request (m : ZxCmd) : Nat × List Nat := (m.op, m.params)

/-- A command issued moves from those waiting to those under way. -/
theorem State.issueZx_requests (s : State) (p : Nat) :
    (((s.issueZx p).zxPort p).out ++ ((s.issueZx p).zxPort p).waiting).map ZxCmd.request =
    ((s.zxPort p).out ++ (s.zxPort p).waiting).map ZxCmd.request := by
  unfold State.issueZx
  dsimp only
  split
  · rfl
  · next m t hw =>
    split
    · change List.map ZxCmd.request ((State.zxPort (s.setZxPort p _) p).out ++ (State.zxPort (s.setZxPort p _) p).waiting) = _
      rw [State.zxPort_setZxPort, hw]
      simp [ZxCmd.request]
    · rfl

theorem State.zxInternal_joins (s : State) (p op : Nat) (params : List Nat) :
    ∃ m ∈ ((s.zxInternal p op params).zxPort p).out ++ ((s.zxInternal p op params).zxPort p).waiting, m.op = op ∧ m.params = params := by
  have hmem : (op, params) ∈
      (((s.zxInternal p op params).zxPort p).out ++ ((s.zxInternal p op params).zxPort p).waiting).map ZxCmd.request := by
    unfold State.zxInternal State.zxSend
    dsimp only
    rw [State.issueZx_requests, State.zxPort_setZxPort]
    simp [ZxCmd.request]
  obtain ⟨m, hm, hreq⟩ := List.mem_map.mp hmem
  exact ⟨m, hm, congrArg Prod.fst hreq, congrArg Prod.snd hreq⟩

theorem State.die_setDie (s : State) (d : Nat) (x : DieId) : (s.setDie d x).die d = x := SMap.getD_set_same _ _ _ _

theorem Sends.die {s t : State} (h : Sends s t) (d : Nat) : t.die d = s.die d := congrArg (fun e : Epochs => e.dies.getD d {}) h.ep

theorem State.noteLack_of_none {s : State} {d : Nat} (h : (s.die d).ilogLacks = none) (n : Nat) :
    s.noteLack d n = s.setDie d { s.die d with ilogLacks := some n } := by
  unfold State.noteLack
  dsimp only
  rw [h]

theorem snapReceive_poisoned (hlacks : (s.die p).ilogLacks = none) : Answers (.snapReceive p b r true) s (fun u =>
    u.red.log = s.red.log ∧ (∃ m ∈ (u.zxPort p).out ++ (u.zxPort p).waiting, m.op = 0x0514 ∧ m.params.getD 1 0 = snapEpoch b) ∧
    (u.die p).ilogLacks = some (snapEpoch b) ∧ s.counted u BX_BLZ_PSN_CNT0_REDUCTION 0 1) := by
  let t := (s.consume (.stem p) 1 0).bump BX_BLZ_PSN_CNT0_REDUCTION
  let w : State := { t with red := { t.red with ctxs := (t.noteSeen p (snapEpoch b)).red.ctxs } }
  let v := w.setDie p { w.die p with ilogLacks := some (snapEpoch b) }
  have hv : (t.noteSeen p (snapEpoch b)).noteLack p (snapEpoch b) = v := by
    rw [t.noteSeen_frame]
    exact State.noteLack_of_none (s := w) hlacks _
  have hask : Sends v (v.askResend p (snapEpoch b)) := (Sends.refl v).zxInternal
  obtain ⟨m, hm, hop, hparams⟩ := v.zxInternal_joins p 0x0514 [v.dieAddr p + (if p = 64 then 2 ^ 18 else 0), snapEpoch b]
  refine ⟨v.askResend p (snapEpoch b), congrArg (fun u : State => done (u.askResend p (snapEpoch b))) hv, ?_,
    ⟨m, hm, hop, by rw [hparams]; rfl⟩, ?_, ?_⟩
  · rw [hask.red]
    rfl
  · rw [hask.die, State.die_setDie]
  · unfold State.counted
    rw [hask.rd]
    exact s.counted_bump BX_BLZ_PSN_CNT0_REDUCTION 0 1

end

end Sys2Proof.Machine
end

section
/-! SUPPORT. Alarms, Blaze reports, replies and incarnation reads of local dies (R144, R147, R350, R388, R405, R474, R498). -/

namespace Sys2Proof.Machine
open Sys2Proof

/-! ### Alarms (R144, R388, R405, R498) -/

theorem State.epochCounts_frame (s : State) (e : LinkId) : s.epochCounts e = { s with links := (s.epochCounts e).links } := by
  unfold State.epochCounts
  split <;> rfl

theorem State.alarmWaits_epochCounts (s : State) (p sub : Nat) (b : Bytes) : (s.epochCounts (.stem p)).alarmWaits p sub b = s.alarmWaits p sub b := by
  have hkept : LinkKept LinkEnd.inbox s (s.epochCounts (.stem p)) := .branch (.refl _ s) (LinkKept.refl _ s).modLink
  unfold State.alarmWaits
  rw [hkept]

/-- A port's alarm is received at a state that differs in its link end. -/
theorem State.alarmTaken_frame (s : State) (p sub : Nat) :
    (s.epochCounts (.stem p)).consume (.stem p) 3 sub = { s with links := ((s.epochCounts (.stem p)).consume (.stem p) 3 sub).links } :=
  congrArg (fun u : State => u.consume (.stem p) 3 sub) (s.epochCounts_frame (.stem p))

section
variable {s : State} {p sub n : Nat} {b : Bytes}

/-- A good alarm that the link has accepted acts by its sub-kind. -/
theorem exec_alarmReceive_good (hwait : s.alarmWaits p sub b = true) : exec (.alarmReceive p ⟨n, sub⟩ b (some true)) s =
    done (if 1 ≤ sub ∧ sub ≤ 4 then
        if s.dieFenced p then (s.epochCounts (.stem p)).consume (.stem p) 3 sub
        else ((s.epochCounts (.stem p)).consume (.stem p) 3 sub).alarmEnd p sub b true
      else if sub = 0x10 then ((s.epochCounts (.stem p)).consume (.stem p) 3 sub).heartwoodReq p b
      else (s.epochCounts (.stem p)).consume (.stem p) 3 sub) := by
  have hfenced : ((s.epochCounts (.stem p)).consume (.stem p) 3 sub).dieFenced p = s.dieFenced p := by
    rw [s.alarmTaken_frame]
    rfl
  change execAlarmReceive p ⟨n, sub⟩ b (some true) s = _
  unfold execAlarmReceive
  dsimp only
  rw [s.alarmWaits_epochCounts, if_neg (not_not.mpr hwait), hfenced]
  simp only [Bool.and_eq_true, decide_eq_true_eq]
  split_ifs <;> rfl

/-- Of a fenced die an alarm that would go on changes no more than link ends. -/
theorem exec_alarmReceive_fenced (h1 : 1 ≤ sub) (h4 : sub ≤ 4) (hfenced : s.dieFenced p = true) (v : Option Bool) :
    ∃ l, exec (.alarmReceive p ⟨n, sub⟩ b v) s = done { s with links := l } := by
  obtain ⟨l, hl⟩ : ∃ l, s.epochCounts (.stem p) = { s with links := l } := ⟨_, s.epochCounts_frame _⟩
  have hstill (k : SMap LinkEnd) : ({ s with links := k } : State).dieFenced p = true := hfenced
  have hfwd : (decide (1 ≤ sub) && decide (sub ≤ 4)) = true := by simp [h1, h4]
  change ∃ l, execAlarmReceive p ⟨n, sub⟩ b v s = done { s with links := l }
  unfold execAlarmReceive
  dsimp only
  rw [hl]
  obtain _ | _ | _ := v <;> dsimp only
  · exact ⟨l, by simp [hstill]⟩
  · exact ⟨l, by simp [hstill]⟩
  · split
    · exact ⟨l, rfl⟩
    · exact ⟨_, congrArg done (if_pos (hstill _))⟩

theorem alarmReceive_fenced (h1 : 1 ≤ sub) (h4 : sub ≤ 4) (hfenced : s.dieFenced p = true) (v : Option Bool) :
    Answers (.alarmReceive p ⟨n, sub⟩ b v) s (fun u => u.cnp = s.cnp ∧ u.out = s.out ∧ u.regs = s.regs) := by
  obtain ⟨l, he⟩ := exec_alarmReceive_fenced (n := n) (b := b) h1 h4 hfenced v
  exact ⟨_, he, rfl, rfl, rfl⟩

/-- A safety report writes the code of its die, which nothing that follows writes again. -/
theorem State.zxSafety_lastCode (s : State) (p : Nat) (b : Bytes) :
    (s.zxSafety p b).rd BX_SAF_DIE_LAST_CODE p = 0x4000 + bits (rdLe b 0 8) 7 0 := by
  have hdetail : (alarmRec 0x0506 p b).detail % 256 = bits (rdLe b 0 8) 7 0 := by
    simp only [alarmRec, bits]
    exact Nat.mod_mod_of_dvd _ (by decide)
  have hcode : (0x4000 + bits (rdLe b 0 8) 7 0) % 2 ^ BX_SAF_DIE_LAST_CODE.width = 0x4000 + bits (rdLe b 0 8) 7 0 :=
    Nat.mod_eq_of_lt (Nat.add_lt_add_left (bits_lt _ 7 0) 0x4000 |>.trans (by decide))
  unfold State.zxSafety
  extract_lets r code idx s₁ key known extra tap s₃ s₂
  have h₁ : s₁.rd BX_SAF_DIE_LAST_CODE p = 0x4000 + bits (rdLe b 0 8) 7 0 := by
    rw [← hcode, ← hdetail]
    exact (State.rd_wr_otherLo _ _ (by decide) (by decide) (by decide)).trans (State.rd_wr_same _ _ _ _)
  have h₂ : s₂.rd BX_SAF_DIE_LAST_CODE p = s₁.rd BX_SAF_DIE_LAST_CODE p := by
    dsimp only [s₂]
    split
    · exact s₁.rd_bump_otherReg _ _ _
    · exact (Signals.refl s₁).setTap.alarmUp.regs _ _ (by decide) (by decide)
  rw [← h₁, ← h₂]
  exact (Signals.refl s₂).signal.regs _ _ (by decide) (by decide)

theorem alarmReceive_safety {q : Nat} (hkind : bits (rdLe b 0 8) 15 8 = 0xFF) (hwait : s.alarmWaits p 0x10 b = true) :
    Answers (.alarmReceive p ⟨q, 0x10⟩ b (some true)) s (fun u => u.rd BX_SAF_DIE_LAST_CODE p = 0x4000 + bits (rdLe b 0 8) 7 0) := by
  refine ⟨_, exec_alarmReceive_good hwait, ?_⟩
  rw [if_neg (by decide), if_pos rfl]
  unfold State.heartwoodReq
  dsimp only
  rw [if_pos hkind]
  exact State.zxSafety_lastCode _ p b

/-- A good alarm within its die's limit leaves whole for the acting parent, by the port of its path. -/
theorem State.alarmEnd_leaves {a q : Nat} (hcut : s.cutOf p = none) (hparent : s.parent? = some a) (hroom : s.alarmRoom p = true)
    (hport : (s.outPort 3 sub s.agg a).1 = some q) : ∃ w ∈ ((s.alarmEnd p sub b true).link (.canopy q)).wait, w.1 = 0 ∧ w.2.body.ty = 3 ∧
      w.2.body.sub = sub ∧ w.2.body.dst = a ∧ w.2.body.stomp = false ∧ w.2.body.payload = canopyAlarm b s.cnp.bseq := by
  have hcnp := s.outPort_cnp 3 sub s.agg a
  have hagg : (s.outPort 3 sub s.agg a).2.agg = s.agg := (Sends.refl s).outPort.rd
  generalize hv : s.outPort 3 sub s.agg a = r at hport hcnp hagg
  obtain ⟨_, v⟩ := r
  obtain rfl : _ = some q := hport
  have hend : s.alarmEnd p sub b true = (v.countAlarm p).enqueue (.canopy q) 0 {
      ty := 3, sub := sub, first := true, last := true, part := 0, payload := canopyAlarm b v.cnp.bseq, vc := 0, bcast := false, hops := 31,
      src := v.agg, dst := a, stomp := false } := by
    unfold State.alarmEnd State.alarmFlit
    rw [hcut, hparent]
    dsimp only
    rw [hv, if_neg (by simp), if_neg (not_not.mpr hroom)]
    rfl
  rw [hend]
  have hcnp' : v.cnp = s.cnp := hcnp
  unfold State.enqueue
  rw [State.link_modLink, ← hcnp']
  exact ⟨_, List.mem_append_right _ (List.mem_singleton_self _), rfl, rfl, rfl, rfl, rfl, rfl⟩

theorem State.outPort_links (s : State) (l : SMap LinkEnd) (ty sub src dst : Nat) :
    (({ s with links := l } : State).outPort ty sub src dst).1 = (s.outPort ty sub src dst).1 := by
  have hpin : ({ s with links := l } : State).pinnedNext src dst = s.pinnedNext src dst := rfl
  have hto (hop : Nat) : ({ s with links := l } : State).portTo hop = s.portTo hop := rfl
  dsimp only [State.outPort]
  rw [hpin]
  split
  · rw [hto]
    split
    · rfl
    · split
      · rfl
      · split <;> rfl
  · split <;> rfl

theorem alarmReceive_leaves {a q : Nat} (h1 : 1 ≤ sub) (h4 : sub ≤ 4) (hwait : s.alarmWaits p sub b = true) (hfenced : s.dieFenced p = false)
    (hcut : s.cutOf p = none) (hparent : s.parent? = some a) (hroom : (s.epochCounts (.stem p)).alarmRoom p = true)
    (hport : (s.outPort 3 sub s.agg a).1 = some q) : Answers (.alarmReceive p ⟨n, sub⟩ b (some true)) s (fun u =>
      (∃ w ∈ (u.link (.canopy q)).wait, w.1 = 0 ∧ w.2.body.ty = 3 ∧ w.2.body.sub = sub ∧ w.2.body.dst = a ∧ w.2.body.stomp = false ∧
        w.2.body.payload = canopyAlarm b s.cnp.bseq)) := by
  let t := (s.epochCounts (.stem p)).consume (.stem p) 3 sub
  have ht : t = { s with links := t.links } := s.alarmTaken_frame p sub
  have htroom : t.alarmRoom p = true := by
    have hkept : LinkKept LinkEnd.alarmsFwd (s.epochCounts (.stem p)) t := (LinkKept.refl _ _).modLink
    unfold State.alarmRoom at hroom ⊢
    rw [hkept]
    exact hroom
  have hleaves := State.alarmEnd_leaves (s := t) (p := p) (sub := sub) (b := b) (a := a) (q := q) (by rw [ht]; exact hcut)
    (by rw [ht]; exact hparent) htroom
    (by rw [ht, State.outPort_links]; exact hport)
  have hcnp : t.cnp = s.cnp := by rw [ht]
  refine ⟨_, (exec_alarmReceive_good hwait).trans (congrArg done ((if_pos ⟨h1, h4⟩).trans (if_neg (by simp [hfenced])))), ?_⟩
  rwa [hcnp] at hleaves

end

/-! ### Blaze reports (R350, R405) -/

section
variable {s : State} {p : Nat} {b : Bytes}

theorem blazeReceive_fenced (hfenced : s.dieFenced p = true) : Answers (.blazeReceive p b) s (fun u => u.gate = s.gate ∧ u.regs = s.regs) :=
  ⟨s.consume (.stem p) 6 0, if_pos hfenced, rfl, rfl⟩

/-- A report that matches no step is remembered. -/
theorem State.tagMatch_remembers {d tag : Nat} (hnone : ∀ g ∈ s.gate.steps, ¬ (g.die = d ∧ g.tag = tag))
    (hnew : s.gate.alerts.contains (d, tag) = false) (condemned : Bool) :
    s.tagMatch d tag condemned = s.setGate { s.gate with alerts := s.gate.alerts ++ [(d, tag)] } := by
  have hhits : s.gate.steps.filter (fun g => g.die = d && g.tag = tag) = [] :=
    List.filter_eq_nil_iff.mpr fun g hg => by simpa using hnone g hg
  unfold State.tagMatch
  dsimp only
  rw [if_pos hhits, hnew]
  rfl

theorem blazeReceive_remembers (hfenced : s.dieFenced p = false) (hlen : b.length = 24) (hmismatch : bits (rdLe b 8 8) 23 20 = 2)
    (hnone : ∀ g ∈ s.gate.steps, ¬ (g.die = p ∧ g.tag = bits (rdLe b 8 8) 15 0))
    (hnew : s.gate.alerts.contains (p, bits (rdLe b 8 8) 15 0) = false) : Answers (.blazeReceive p b) s (fun u =>
      u.gate.alerts = s.gate.alerts ++ [(p, bits (rdLe b 8 8) 15 0)]) := by
  let t := s.consume (.stem p) 6 0
  have hentry : t.blazeEntry p (rdLe b 8 8) = t.setGate { t.gate with alerts := t.gate.alerts ++ [(p, bits (rdLe b 8 8) 15 0)] } := by
    unfold State.blazeEntry
    dsimp only
    rw [if_pos (.inl hmismatch)]
    exact State.tagMatch_remembers (s := t) hnone hnew true
  refine ⟨t.blazeEntry p (rdLe b 8 8), ?_, by rw [hentry]; rfl⟩
  change execBlazeReceive p b s = _
  unfold execBlazeReceive
  dsimp only
  rw [hlen]
  exact if_neg (ne_true_of_eq_false hfenced)

end

/-! ### Replies and incarnation reads (R147, R405, R474) -/

section
variable {s : State} {p tag st rs : Nat} {res : List Nat}

/-- A command issued changes no reply, and where none waits nothing. -/
theorem State.issueZx_replies (s : State) (p : Nat) : (s.issueZx p).wdn.replies = s.wdn.replies := by
  unfold State.issueZx
  dsimp only
  split
  · rfl
  · split <;> rfl

theorem State.issueZx_of_none {s : State} {p : Nat} (h : (s.zxPort p).waiting = []) : s.issueZx p = s := by
  unfold State.issueZx
  dsimp only
  rw [h]

theorem capsReplyReceive_stray (hnone : (s.zxPort p).out.find? (fun (x : ZxCmd) => x.tag = tag) = none) :
    Answers (.capsReplyReceive p tag st rs res) s (fun u => u.wdn.replies = s.wdn.replies ∧ u.zxPort p = s.zxPort p) := by
  have hviol : Signals s ((s.consume (.stem p) 4 1).viol (.stem p) 11) := (Signals.refl s).consume.viol
  refine ⟨_, ?_, hviol.replies, hviol.zxPort p⟩
  change execCapsReplyReceive p tag st rs res s = done _
  unfold execCapsReplyReceive
  dsimp only
  rw [show ((s.consume (.stem p) 4 1).zxPort p).out.find? (fun (x : ZxCmd) => x.tag = tag) = none from hnone]

/-- An acknowledged image is noted of its die, whose fence stands. -/
theorem State.noteImage_keeps (s : State) (p : Nat) (m : ZxCmd) (status : Nat) :
    (s.noteImage p m status).wdn = s.wdn ∧ (s.noteImage p m status).dieFenced p = s.dieFenced p := by
  have hset (v : Nat) : (s.setDie p { s.die p with image := v }).dieFenced p = s.dieFenced p := by
    unfold State.dieFenced
    rw [State.die_setDie]
  unfold State.noteImage
  split
  · exact ⟨rfl, rfl⟩
  · split
    · exact ⟨rfl, hset _⟩
    · exact ⟨rfl, hset _⟩

theorem State.reply_zxPort (s : State) (c : Cap) (op status : Nat) (res : List Nat) (reason : Nat) (w : Option (Nat × Bytes)) (p : Nat) :
    (s.reply c op status res reason w).zxPort p = s.zxPort p := by
  unfold State.reply
  dsimp only
  have hcounted (t : State) (k : Prop) [Decidable k] (f : Fld) : (if k then t.bump f else t).wdn = t.wdn := by split <;> rfl
  rw [hcounted, hcounted, hcounted]
  rfl

theorem capsReplyReceive_returns {op : Nat} {m : ZxCmd} {c : Cap} (hm : (s.zxPort p).out.find? (fun (x : ZxCmd) => x.tag = tag) = some m)
    (hread : (s.zxPort p).readTag ≠ some tag) (ho : m.origin = some (op, c)) (hfenced : s.dieFenced p = false) (hop : op ≠ 0x0F01) :
    Answers (.capsReplyReceive p tag st rs res) s (fun u => u.replied c op st res ∧ ((s.zxPort p).waiting = [] →
      (u.zxPort p).out = (s.zxPort p).out.filter (fun (x : ZxCmd) => x.tag ≠ tag))) := by
  let t := ((s.consume (.stem p) 4 1).takeReply p tag).noteImage p m st
  have hkeeps := ((s.consume (.stem p) 4 1).takeReply p tag).noteImage_keeps p m st
  have htfenced : t.dieFenced p = false := hkeeps.2.trans hfenced
  let v := t.reply c op st res rs
  have he : exec (.capsReplyReceive p tag st rs res) s = done (v.issueZx p) := by
    have hreturn : t.returnReply (op, c) st rs res = v := by
      unfold State.returnReply
      rw [if_neg fun h => hop h.1]
    change execCapsReplyReceive p tag st rs res s = _
    unfold execCapsReplyReceive
    dsimp only
    rw [show ((s.consume (.stem p) 4 1).zxPort p).out.find? (fun (x : ZxCmd) => x.tag = tag) = some m from hm]
    dsimp only
    rw [if_neg (by rw [decide_eq_true_eq]; exact hread), ho]
    dsimp only
    rw [if_neg (by change ¬ (t.dieFenced p = true ∧ _); rw [htfenced]; simp)]
    exact congrArg (fun u : State => done (u.issueZx p)) hreturn
  have hport : v.zxPort p = { s.zxPort p with out := (s.zxPort p).out.filter (fun (x : ZxCmd) => x.tag ≠ tag) } := by
    have htake : ((s.consume (.stem p) 4 1).takeReply p tag).zxPort p = _ := State.zxPort_setZxPort _ _ _
    have htport : t.zxPort p = ((s.consume (.stem p) 4 1).takeReply p tag).zxPort p :=
      congrArg (fun w : Warden => w.zx.getD p {}) hkeeps.1
    rw [t.reply_zxPort, htport, htake]
    exact congrArg (fun r => { s.zxPort p with out := (s.zxPort p).out.filter (fun (x : ZxCmd) => x.tag ≠ tag), readTag := r }) (if_neg hread)
  refine ⟨_, he, ?_, fun hwait => ?_⟩
  · unfold State.replied State.lastReply
    rw [State.issueZx_replies]
    exact t.reply_replied c op st res rs none
  · have hvwait : (v.zxPort p).waiting = [] := by
      rw [hport]
      exact hwait
    rw [State.issueZx_of_none hvwait, hport]

/-- Bringing a die up to the generation in force changes neither of its incarnations. -/
theorem State.sendRun_incs (s : State) (p : Nat) : ((s.sendRun p).die p).cur = (s.die p).cur ∧ ((s.sendRun p).die p).next = (s.die p).next := by
  unfold State.sendRun
  split
  · unfold State.resendGen
    split
    · exact ⟨rfl, rfl⟩
    · next g _ =>
      extract_lets m t v d
      have hd : d = s.die p := (Sends.refl s).stageZx.zxInternal.die p
      rw [State.die_setDie, hd]
      exact ⟨rfl, rfl⟩
  · rw [(Sends.refl s).refreshGrs.die]
    exact ⟨rfl, rfl⟩

/-- An incarnation assigned is the one that was next. -/
theorem State.assignInc_incs {s : State} (hdue : s.ep.restoreDue = false) (p : Nat) :
    ((s.assignInc p).die p).cur = (s.die p).next ∧ ((s.assignInc p).die p).next = nextInc (s.die p).next := by
  unfold State.assignInc
  rw [if_neg (by simp [hdue])]
  extract_lets d n
  split
  next id t e =>
  extract_lets v w
  have hw : w.die p = { d with cur := d.next, next := n, admitMsg := id, resendM := none } := t.die_setDie p _
  split
  · rw [State.sendAdmit, (Sends.refl w).zxInternal.die, hw]
    exact ⟨rfl, rfl⟩
  · rw [hw]
    exact ⟨rfl, rfl⟩

theorem incarnationReadReply_assigns {id : Nat} (hread : (s.zxPort p).readTag = some tag) (hdue : s.ep.restoreDue = false)
    (hid : bits id 63 48 = 0) : Answers (.incarnationReadReply p id) s (fun u =>
      (u.die p).cur = (s.die p).next ∧ (u.die p).next = nextInc (s.die p).next) := by
  let t := (s.consume (.stem p) 4 1).takeReply p tag
  let v := (t.assignInc p).setDie p { (t.assignInc p).die p with runs := bits id 47 32, image := 0 }
  have hjudge : t.judgeInc p id = v.sendRun p := by
    unfold State.judgeInc
    dsimp only
    rw [if_neg (by change ¬ s.ep.restoreDue = true; simp [hdue]), if_pos (.inl hid)]
  have hv : v.die p = { (t.assignInc p).die p with runs := bits id 47 32, image := 0 } := (t.assignInc p).die_setDie p _
  have hissue : ((v.sendRun p).issueZx p).die p = (v.sendRun p).die p := (Sends.refl _).issueZx.die p
  obtain ⟨hcur, hnext⟩ := v.sendRun_incs p
  obtain ⟨hacur, hanext⟩ := State.assignInc_incs (s := t) hdue p
  refine ⟨(v.sendRun p).issueZx p, ?_, ?_, ?_⟩
  · rw [← hjudge]
    change execIncarnationReadReply p id s = _
    unfold execIncarnationReadReply
    rw [hread]
    rfl
  · rw [hissue, hcur, hv]
    exact hacur
  · rw [hissue, hnext, hv]
    exact hanext

end

end Sys2Proof.Machine
end
section
/-! SUPPORT. The vectors of a record's present dies are built (R280 to R284, Table 8-14). -/

namespace Sys2Proof.Machine
open Sys2Proof

variable {s : State}

/-! ### What the Correlator and the mirror of a die leave alone -/

theorem State.issueTest_grv (s : State) (c : Settings) (d unit reason n pre : Nat) (bin : Option Nat) :
    (s.issueTest c d unit reason n pre bin).grv = s.grv := (Signals.refl _).post.grv

theorem State.testFor_grv (s : State) (d r n : Nat) : (s.testFor d r n).grv = s.grv := by
  unfold State.testFor
  split
  · rfl
  · dsimp only
    split
    · exact State.issueTest_grv ..
    · exact State.issueTest_grv ..

theorem State.setReason_grv (s : State) (d r n : Nat) : (s.setReason d r n).grv = s.grv := by
  unfold State.setReason
  split
  · rfl
  · exact State.testFor_grv ..

theorem State.setDrift_grv (s : State) (d r n chan : Nat) (bin : Option Nat) : (s.setDrift d r n chan bin).grv = s.grv := by
  unfold State.setDrift
  split
  · rfl
  · refine (State.setReason_grv ..).trans ?_
    split
    · rfl
    · rfl

theorem State.driftEval_grv (s : State) (d n chan : Nat) : (s.driftEval d n chan).grv = s.grv := by
  unfold State.driftEval
  dsimp only
  split
  · rfl
  · split
    · exact State.setDrift_grv ..
    · split
      · exact State.setDrift_grv ..
      · rfl

theorem State.setBins_grv (s : State) (d n chan : Nat) (b : SMap (Nat × Nat)) : (s.setBins d n chan b).grv = s.grv := by
  unfold State.setBins
  dsimp only
  split
  · rfl
  · rfl

theorem State.driftChan_grv (s : State) (d : Nat) (v : Bytes) (chan : Nat) : (s.driftChan d v chan).grv = s.grv := by
  unfold State.driftChan
  dsimp only
  split
  · rfl
  · split
    · exact (State.driftEval_grv ..).trans (State.setBins_grv ..)
    · rfl

theorem State.dropPast_grv (s : State) (d n : Nat) : (s.dropPast d n).grv = s.grv := by
  unfold State.dropPast
  split
  · rfl
  · rfl

theorem State.mirrorDie_grv (s : State) (d : Nat) : (s.mirrorDie d).grv = s.grv := (Sends.refl s).mirror.grv

/-! ### Vectors built -/

/-- A vector built is kept for its die and form, and no other is lost. -/
theorem State.buildOne_grv (s : State) (r : Bytes) (l : List (Nat × Nat)) (d : Nat) :
    ∃ v, (s.buildOne r l d).grv = { s.grv with vectors := s.grv.vectors.set (2 * d + b2n (recCommitted r)) v } := by
  unfold State.buildOne
  extract_lets x bad nf fs v miss t com g u q w z
  refine ⟨v, ?_⟩
  split
  · have hdrift : ((List.range 16).foldl (fun s c => s.driftChan d v c) z).grv = z.grv :=
      List.foldlRecOn (motive := fun y : State => y.grv = z.grv) _ _ rfl fun y hy c _ => (y.driftChan_grv d v c).trans hy
    exact (State.mirrorDie_grv ..).trans (hdrift.trans (State.dropPast_grv ..))
  · rfl

theorem State.buildOne_find (s : State) (r : Bytes) (l : List (Nat × Nat)) (d : Nat) :
    ((s.buildOne r l d).grv.vectors.find? (2 * d + b2n (recCommitted r))).isSome = true := by
  obtain ⟨v, hv⟩ := s.buildOne_grv r l d
  rw [hv, SMap.find?_set_same]
  rfl

theorem State.buildOne_keeps_find (s : State) (r : Bytes) (l : List (Nat × Nat)) (d : Nat) {k : Nat}
    (hk : (s.grv.vectors.find? k).isSome = true) : ((s.buildOne r l d).grv.vectors.find? k).isSome = true := by
  obtain ⟨v, hv⟩ := s.buildOne_grv r l d
  rw [hv]
  by_cases he : k = 2 * d + b2n (recCommitted r)
  · rw [he, SMap.find?_set_same]
    rfl
  · rw [SMap.find?_set_other _ _ he]
    exact hk

theorem State.foldl_buildOne_find (r : Bytes) (l : List (Nat × Nat)) (ds : List Nat) : ∀ (s : State) (d : Nat),
    d ∈ ds ∨ (s.grv.vectors.find? (2 * d + b2n (recCommitted r))).isSome = true →
    ((ds.foldl (fun s d => s.buildOne r l d) s).grv.vectors.find? (2 * d + b2n (recCommitted r))).isSome = true := by
  induction ds with
  | nil => exact fun s d h => h.resolve_left List.not_mem_nil
  | cons e ds ih =>
    intro s d h
    refine ih _ d ?_
    rcases h with hmem | hbefore
    · rcases List.mem_cons.1 hmem with rfl | hlater
      · exact .inr (s.buildOne_find r l d)
      · exact .inl hlater
    · exact .inr (s.buildOne_keeps_find r l e hbefore)

theorem vectorBuild_builds {n : Nat} {r : Bytes} (hn : n < 2 ^ 48) (hr : s.fleetRecord? n = some r) (hlast : s.red.lastVec = none)
    (hcorr : (s.cfgOf n).usesCorr = false) : Answers (.vectorBuild n true []) s (fun u => u.red.lastVec = some n ∧
      (∀ d ∈ s.vecDies r, (u.grv.vectors.find? (2 * d + b2n (recCommitted r))).isSome = true) ∧ u.rd BX_FB_STS_EPOCH = n ∧
      u.rd BX_FB_STS_FORM = 1) := by
  let t := (s.vecDies r).foldl (fun s d => s.buildOne r [] d) s
  let u := ((t.wr BX_FB_STS_EPOCH 0 n).wr BX_FB_STS_FORM 0 1).wr BX_FB_STS_REVISION 0 (recRevision r)
  refine ⟨{ u with red := { u.red with lastVec := some n } }, ?_, rfl, fun d hd => ?_, ?_, ?_⟩
  · change execVectorBuild n true [] s = _
    unfold execVectorBuild
    simp only [if_true, hr, hlast, hcorr, Bool.not_false, Bool.or_true, Bool.true_or, Bool.and_self]
    rfl
  · exact State.foldl_buildOne_find r [] (s.vecDies r) s d (.inl hd)
  · have hepoch : u.rd BX_FB_STS_EPOCH = n % 2 ^ 48 := by
      rw [State.rd_wr_otherLo _ _ (by decide) (by decide) (by decide), State.rd_wr_otherLo _ _ (by decide) (by decide) (by decide)]
      exact State.rd_wr_same ..
    exact hepoch.trans (Nat.mod_eq_of_lt hn)
  · have hform : u.rd BX_FB_STS_FORM = 1 := by
      rw [State.rd_wr_otherLo _ _ (by decide) (by decide) (by decide)]
      exact State.rd_wr_same ..
    exact hform

theorem vectorBuild_notFresh {n m : Nat} {l : List (Nat × Nat)} (hlast : s.red.lastVec = some m) (hm : n ≤ m) :
    Answers (.vectorBuild n true l) s (fun u => u = s) := by
  refine ⟨s, ?_, rfl⟩
  change execVectorBuild n true l s = _
  unfold execVectorBuild
  dsimp only
  split
  · rfl
  · rw [hlast]
    simp [Nat.not_lt.2 hm, done]

/-- Settles O24: a lemma per clause. A signal, a message and an exchange with the die each leave alone what the clause tells of the
reduction, the gate, the port and the die's identity; the vectors are built by induction over the present dies. -/
theorem messagesOfLocalDiesAreTaken : Obligations.MessagesOfLocalDiesAreTaken :=
  ⟨fun _ _ _ _ _ hinc hclosed hfresh hnone hroom => snapReceive_holds hinc hclosed hfresh hnone hroom,
    fun _ _ _ _ hinc hclosed hx hb => snapReceive_duplicate hinc hclosed hx hb,
    fun _ _ _ _ hinc => snapReceive_oldIncarnation hinc,
    fun _ _ _ _ hlacks => snapReceive_poisoned hlacks,
    fun _ _ _ _ _ hkind hwait => alarmReceive_safety hkind hwait,
    fun _ _ _ _ _ _ _ h1 h4 hwait hfence hcut ha hroom hq => alarmReceive_leaves h1 h4 hwait hfence hcut ha hroom hq,
    fun _ _ _ _ _ v h1 h4 hfence => alarmReceive_fenced h1 h4 hfence v,
    fun _ _ _ hfence hlen hkind hstep halert => blazeReceive_remembers hfence hlen hkind hstep halert,
    fun _ _ _ hfence => blazeReceive_fenced hfence,
    fun _ _ _ _ _ _ _ _ _ hm hread ho hfence hop => capsReplyReceive_returns hm hread ho hfence hop,
    fun _ _ _ _ _ _ hnone => capsReplyReceive_stray hnone,
    fun _ _ _ _ hread hdue hid => incarnationReadReply_assigns hread hdue hid,
    fun _ _ _ hn hr hlast hcorr => vectorBuild_builds hn hr hlast hcorr,
    fun _ _ _ _ hlast hm => vectorBuild_notFresh hlast hm⟩

end Sys2Proof.Machine
end

section
/-! SUPPORT. What replies, the reasons of a die, commands to a ZX40 and short messages leave alone and what they leave behind (R141, R146, R290,
R291, R379). -/

namespace Sys2Proof.Machine
open Sys2Proof

/-! ### Replies -/

theorem State.reply_grv (s : State) (c : Cap) (op status : Nat) (res : List Nat) (reason : Nat) (w : Option (Nat × Bytes)) :
    (s.reply c op status res reason w).grv = s.grv := by
  unfold State.reply
  dsimp only
  have hcounted (t : State) (p : Prop) [Decidable p] (f : Fld) : (if p then t.bump f else t).grv = t.grv := by split <;> rfl
  rw [hcounted, hcounted, hcounted]

/-- A reply whose status no counter of Table 16-23 counts writes no register. -/
theorem State.reply_regs (s : State) (c : Cap) (op : Nat) {status : Nat} (hst : status ∉ [S_DENIED, S_TIMEOUT, S_BADOP]) (res : List Nat)
    (reason : Nat) (w : Option (Nat × Bytes)) : (s.reply c op status res reason w).regs = s.regs := by
  obtain ⟨hrest, -, -⟩ := s.reply_onlyReply c op hst res reason w
  exact (congrArg (fun u : State => u.regs) hrest :)

theorem State.reply_hostWrite (s : State) (c : Cap) (op status : Nat) (res : List Nat) (reason : Nat) (w : Option (Nat × Bytes)) :
    (s.reply c op status res reason w).wdn.replies.getLast?.bind (fun r => r.hostWrite) = w := by
  unfold State.reply
  dsimp only
  rw [List.getLast?_concat]
  rfl

theorem Cap.isMctp_of_isOp {c : Cap} (hc : c.isOp = true) : c.isMctp = false := by
  obtain ⟨-, hpath⟩ : c.tenant = 0 ∧ (c.path = 0 ∨ c.path = 2) := of_decide_eq_true hc
  rcases hpath with h | h <;> simp [Cap.isMctp, h]

/-! ### The reasons of a die (R290, R291) -/

theorem RegsKept.mono {rs qs : List Reg} {s t : State} (h : RegsKept rs s t) (hsub : rs ⊆ qs) : RegsKept qs s t :=
  fun f i hlo hf => h f i hlo fun hr => hf (hsub hr)

/-- The registers a reason changes: the mark of its die, the count of the tests issued, and what the dispatch record's event changes. -/
def reasonRegs : List Reg := .BX_COR_DIE_MARK :: .BX_COR_CNT1 :: signalRegs

theorem State.testFor_of_issueTest {P : State → Prop} {s : State} (hs : P s)
    (hissue : ∀ c d unit reason n pre bin, P (s.issueTest c d unit reason n pre bin)) (d r n : Nat) : P (s.testFor d r n) := by
  unfold State.testFor
  split
  · exact hs
  · dsimp only
    split
    · exact hissue ..
    · exact hissue ..

theorem State.issueTest_regsKept (s : State) (c : Settings) (d unit reason n pre : Nat) (bin : Option Nat) :
    RegsKept reasonRegs s (s.issueTest c d unit reason n pre bin) := by
  unfold State.issueTest
  extract_lets id cor t deadline u x v w1 w2
  have hu : RegsKept reasonRegs t u := .wr (.wr (.wr (.wr (.refl _ t))))
  have hv : RegsKept reasonRegs s v := hu
  exact hv.trans ((Signals.refl v).post.regs.mono fun _ h => List.mem_cons_of_mem _ (List.mem_cons_of_mem _ h))

theorem State.testFor_regsKept (s : State) (d r n : Nat) : RegsKept reasonRegs s (s.testFor d r n) :=
  State.testFor_of_issueTest (.refl _ s) s.issueTest_regsKept d r n

theorem State.setReason_regsKept (s : State) (d r n : Nat) : RegsKept reasonRegs s (s.setReason d r n) := by
  unfold State.setReason
  split
  · exact .refl _ s
  · have hnote : RegsKept reasonRegs s (s.noteReason d r n (if r ≤ 4 then n else 0)) :=
      (RegsKept.refl reasonRegs s).wr (f := BX_COR_DIE_MARK_REASONS)
    exact hnote.trans (State.testFor_regsKept _ d r n)

/-- The test issued for a die leaves the reasons of all dies as they stand. -/
theorem State.issueTest_reasons (s : State) (c : Settings) (d unit reason n pre : Nat) (bin : Option Nat) (k : Nat) :
    (s.issueTest c d unit reason n pre bin).reasons k = s.reasons k := by
  unfold State.issueTest
  extract_lets id cor t deadline u x v w1 w2
  refine ((Signals.refl v).post.regs BX_COR_DIE_MARK_REASONS k (by decide) (by decide)).trans ?_
  refine (State.rd_bump_otherReg _ _ _ _).trans ?_
  rw [State.rd_wr_otherLo _ _ (by decide) (by decide) (by decide), State.rd_wr_otherLo _ _ (by decide) (by decide) (by decide),
    State.rd_wr_otherLo _ _ (by decide) (by decide) (by decide)]
  rfl

theorem State.testFor_reasons (s : State) (d r n k : Nat) : (s.testFor d r n).reasons k = s.reasons k :=
  State.testFor_of_issueTest (P := fun t => t.reasons k = s.reasons k) rfl (fun _ _ _ _ _ _ _ => s.issueTest_reasons ..) d r n

/-- A die has the reason it gains. -/
theorem State.setReason_testBit (s : State) (d n : Nat) {r : Nat} (hr : r < 8) : ((s.setReason d r n).reasons d).testBit r = true := by
  unfold State.setReason
  split
  · assumption
  · rw [State.testFor_reasons]
    have hnote : (s.noteReason d r n (if r ≤ 4 then n else 0)).reasons d = (s.reasons d ||| 2 ^ r) % 2 ^ 8 :=
      s.rd_wr_same BX_COR_DIE_MARK_REASONS d _
    rw [hnote, Nat.testBit_mod_two_pow, Nat.testBit_or, Nat.testBit_two_pow_self]
    simp [hr]

theorem State.mirrorDie_rd (s : State) (d : Nat) {f : Fld} {i : Nat} (hlo : f.lo < 64 := by decide)
    (hf : f.reg ∉ [Reg.BX_CNP_CNT0] := by decide) : (s.mirrorDie d).rd f i = s.rd f i :=
  (Sends.refl s).mirror.rd hlo hf

/-! ### Commands to a ZX40 (R146, R147) -/

/-- A command issued is still with its port, changed at most in its instant. -/
theorem State.issueZx_map {α : Type} (s : State) (p : Nat) (g : ZxCmd → α) (hg : ∀ m n, g { m with at_ := n } = g m) :
    (((s.issueZx p).zxPort p).out ++ ((s.issueZx p).zxPort p).waiting).map g = ((s.zxPort p).out ++ (s.zxPort p).waiting).map g := by
  unfold State.issueZx
  dsimp only
  split
  · rfl
  · next m t hw =>
    split
    · change List.map g ((State.zxPort (s.setZxPort p _) p).out ++ (State.zxPort (s.setZxPort p _) p).waiting) = _
      rw [State.zxPort_setZxPort, hw]
      simp [hg]
    · rfl

/-- What a command asks for, and the capsule that its reply answers. -/
def ZxCmd.asked (m : ZxCmd) : Nat × List Nat × Option (Nat × Cap) := (m.op, m.params, m.origin)

theorem State.zxSend_joins (s : State) (p op : Nat) (params : List Nat) (origin : Option (Nat × Cap)) :
    ∃ m ∈ ((s.zxSend p op params origin).zxPort p).waiting ++ ((s.zxSend p op params origin).zxPort p).out,
      m.op = op ∧ m.params = params ∧ m.origin = origin := by
  have hmem : (op, params, origin) ∈
      (((s.zxSend p op params origin).zxPort p).out ++ ((s.zxSend p op params origin).zxPort p).waiting).map ZxCmd.asked := by
    unfold State.zxSend
    dsimp only
    rw [State.issueZx_map _ p ZxCmd.asked fun _ _ => rfl, State.zxPort_setZxPort]
    simp [ZxCmd.asked]
  obtain ⟨m, hm, hasked⟩ := List.mem_map.1 hmem
  obtain ⟨hop, hparams, horigin⟩ : m.op = op ∧ m.params = params ∧ m.origin = origin := by simpa [ZxCmd.asked] using hasked
  exact ⟨m, (List.mem_append.1 hm).elim (List.mem_append_right _) (List.mem_append_left _), hop, hparams, horigin⟩

theorem Sends.replies {s t : State} (h : Sends s t) : t.wdn.replies = s.wdn.replies := congrArg (fun u => u.wdn.replies) h.rest

/-! ### A message in one flit (R141, R379) -/

theorem chunks_of_length_le {α : Type} {n : Nat} {l : List α} (hne : l ≠ []) (hn : l.length ≤ n) : chunks n l = [l] := by
  obtain ⟨x, t, rfl⟩ := List.exists_cons_of_ne_nil hne
  have hrest : (x :: t).drop n = [] := List.drop_eq_nil_of_le hn
  change chunkFuel n (t.length + 1) (x :: t) = _
  unfold chunkFuel
  rw [hrest, List.take_of_length_le hn]
  cases t.length <;> rfl

theorem msgFlits_of_length_le {max : Nat} {b : FlitBody} {bytes : Bytes} (hne : bytes ≠ []) (hn : bytes.length ≤ max) :
    msgFlits max b bytes = [{ b with part := 0, payload := bytes }] := by
  unfold msgFlits
  rw [if_neg hne, chunks_of_length_le hne hn]
  simp

/-- A message that does not follow the pinned path leaves by the port of its route, and counts no detour. -/
theorem State.outPort_of_route {s : State} {ty sub src dst q : Nat} (hpin : pinnedMsg ty sub = false)
    (hroute : s.cnp.routes.find? dst = some q) : s.outPort ty sub src dst = (some q, s) := by
  unfold State.outPort
  simp only [hpin, Bool.false_eq_true, if_false, hroute]

theorem State.route_of_outPort {s : State} {ty sub src dst q : Nat} (hpin : pinnedMsg ty sub = false)
    (hport : (s.outPort ty sub src dst).1 = some q) : s.cnp.routes.find? dst = some q := by
  unfold State.outPort at hport
  simp only [hpin, Bool.false_eq_true, if_false] at hport
  split at hport
  · next hroute => exact hroute.trans hport
  · cases hport

/-- A short message waits whole at the port of its route, on its VC. -/
theorem State.sendMsg_waits {s : State} {ty sub vc dst q : Nat} {body : Bytes} (hpin : pinnedMsg ty sub = false)
    (hport : (s.outPort ty sub s.agg dst).1 = some q) (hlen : body.length ≤ 476) :
    ∃ w ∈ ((s.sendMsg ty sub vc dst body).link (.canopy q)).wait, w.1 = vc ∧ w.2.body.ty = ty ∧ w.2.body.sub = sub ∧ w.2.body.dst = dst ∧
      w.2.body.payload = msgPrefix s.cnp.msgId body.length 0 0 ++ body := by
  let t : State := { s with cnp := { s.cnp with msgId := (s.cnp.msgId + 1) % 2 ^ 32 } }
  let bytes := msgPrefix s.cnp.msgId body.length 0 0 ++ body
  have hout : t.outPort ty sub t.agg dst = (some q, t) :=
    State.outPort_of_route (s := t) hpin (State.route_of_outPort (s := s) hpin hport)
  have hbytes : bytes.length = 16 + body.length := by simp [bytes, msgPrefix]; omega
  have hsend : s.sendMsg ty sub vc dst body = t.sendOn q ty sub vc t.agg dst false bytes := by
    change t.sendTo ty sub vc dst bytes = _
    unfold State.sendTo
    rw [hout]
  rw [hsend]
  unfold State.sendOn
  dsimp only
  rw [msgFlits_of_length_le (List.ne_nil_of_length_pos (by omega)) (by omega), List.foldl_cons, List.foldl_nil]
  unfold State.enqueue
  rw [State.link_modLink]
  exact ⟨_, List.mem_append_right _ (List.mem_singleton_self _), rfl, rfl, rfl, rfl, rfl⟩

end Sys2Proof.Machine
end

section
/-! SUPPORT. Vectors are scored, split models collect the sums of their parts, and Grove-S votes are checked (R258 to R273, Tables 9-13 and
9-25). -/

namespace Sys2Proof.Machine
open Sys2Proof

/-! ### What a result counts and stores (R258, R259, Table 9-25) -/

theorem State.countScore_frame (s : State) (r : Vote) (alarm : Bool) :
    s.countScore r alarm = { s with regs := (s.countScore r alarm).regs } := by
  unfold State.countScore
  cases alarm <;> dsimp only <;> split <;> rfl

theorem State.countScore_grv (s : State) (r : Vote) (alarm : Bool) : (s.countScore r alarm).grv = s.grv := by rw [s.countScore_frame]

/-- A result PART_MISSING counts itself once, beside the vector. -/
theorem State.countScore_partMissing (s : State) {r : Vote} (hr : r.status = 2) :
    s.counted (s.countScore r false) BX_GRV_CNT1_PART_MISSING 0 1 := by
  have hcount : s.countScore r false = (s.bump BX_GRV_CNT0_VECTORS).bump BX_GRV_CNT1_PART_MISSING := by
    unfold State.countScore
    rw [hr]
    rfl
  rw [hcount]
  unfold State.counted
  rw [← s.rd_bump_otherReg (f := BX_GRV_CNT0_VECTORS) (g := BX_GRV_CNT1_PART_MISSING) 0 0 1 (h := by decide)]
  exact (s.bump BX_GRV_CNT0_VECTORS).counted_bump BX_GRV_CNT1_PART_MISSING 0 1

theorem State.storeScore_grv (s : State) (v : Bytes) (stage : Nat) (ws : List Nat) : ∃ keep : List ScoreRec, (s.storeScore v stage ws).grv =
    { s.grv with scores := keep ++ [⟨vecEpoch v, vecCommitted v, vecDie v, stage, wordBytes ws⟩] } := ⟨_, rfl⟩

/-- Of the Grove engine a stage's result changes the scores held, among which its record now is. -/
theorem State.finishScore_grv (s : State) (v : Bytes) (stage slot : Nat) (r : Vote) (h : MHdr) : ∃ keep : List ScoreRec,
    (s.finishScore v stage slot r h).grv = { s.grv with scores := keep ++ [⟨vecEpoch v, vecCommitted v, vecDie v, stage,
      wordBytes (scoreWords v stage slot r (r.alarm (fun j => s.amask (s.genCfg (vecGen v)) slot j)) h)⟩] } := by
  unfold State.finishScore
  extract_lets c alarm ws t d u
  obtain ⟨keep, hkeep⟩ : ∃ keep : List ScoreRec, t.grv = _ := (s.countScore r alarm).storeScore_grv v stage ws
  rw [s.countScore_grv] at hkeep
  have hu : u.grv = t.grv := (Signals.branch (Signals.refl t).alarmUp (Signals.refl t)).grv
  refine ⟨keep, Eq.trans ?_ hkeep⟩
  rw [← hu]
  split
  · rw [State.mirrorDie_grv, State.setReason_grv]
  · rfl

/-- A result that is no vote raises no alarm. -/
theorem State.finishScore_of_noVote (s : State) (v : Bytes) (stage slot : Nat) {r : Vote} (hr : r.status ≠ 0) (h : MHdr) :
    s.finishScore v stage slot r h = (s.countScore r false).storeScore v stage (scoreWords v stage slot r false h) := by
  have halarm (mask : Nat → Bool) : r.alarm mask = false := by simp [Vote.alarm, hr]
  unfold State.finishScore
  simp only [halarm, Bool.false_eq_true, false_and, if_false]

theorem State.evalReply_grv (s : State) (c : Cap) (v : Bytes) (slot : Nat) (r : Vote) (h : MHdr) : (s.evalReply c v slot r h).grv = s.grv :=
  (State.reply_grv _ _ _ _ _ _ _).trans (s.countScore_grv _ _)

theorem State.evalReply_replied (s : State) (c : Cap) (v : Bytes) (slot : Nat) (r : Vote) (h : MHdr) :
    (s.evalReply c v slot r h).replied c 0x0304 S_OK
      (scoreWords v 0 slot r (r.alarm (fun j => s.amask (s.genCfg (vecGen v)) slot j)) h) :=
  State.reply_replied _ _ _ _ _ _ _

/-- An unsplit model without a FAULT is scored at once, by the vote over its class sums. -/
theorem State.scoreWith_unsplit {s : State} {v : Bytes} {slot : Nat} {m : Model} {x : List Nat} (hone : (parseModel m.binary).partCount = 1)
    (hsums : modelSums m.binary (parseModel m.binary).binary (parseModel m.binary) (vecFeat v) = some x) (stage : Nat)
    (finish : State → Vote → State) (eval : Option Cap) : s.scoreWith v stage slot m none finish eval =
      finish s (voteOf x (s.voteMin (s.genCfg (vecGen v)) slot) (parseModel m.binary).tieAbstain) := by
  unfold State.scoreWith State.partSums
  simp only [hone, hsums, if_true]

/-! ### GROVE_SCORE and GROVE_EVAL -/

section
variable {s : State} {d k : Nat} {v : Bytes} (hk : k ≤ 7) (hv : s.grv.vectors.find? (2 * d + 1) = some v)
  (hen : (s.genCfg (vecGen v)).fld BX_GRV_SEL_EN k ≠ 0) (hnew : s.grv.lastScored.find? (8 * d + k) ≠ some (vecEpoch v))
include hk hv hen hnew

/-- An enabled stage takes up a committed vector that it has not scored yet, once. -/
theorem exec_groveScore_fresh : exec (.groveScore d k true none) s =
    let t : State := { s with grv := { s.grv with lastScored := s.grv.lastScored.set (8 * d + k) (vecEpoch v) } }
    let slot := (s.genCfg (vecGen v)).fld BX_GRV_SEL_SLOT k
    match s.grv.slots.find? slot with
    | none => done (t.bump BX_GRV_CNT1_NO_MODEL)
    | some m => done (t.scoreWith v k slot m none (fun s r => s.finishScore v k slot r (parseModel m.binary)) none) := by
  change execGroveScore d k true none s = _
  unfold execGroveScore
  rw [show s.grv.vectors.find? (2 * d + b2n true) = some v from hv]
  dsimp only
  rw [if_neg (by simp [hen, hnew, Nat.not_lt.2 hk])]
  rfl

theorem groveScore_noModel (hslot : s.grv.slots.find? ((s.genCfg (vecGen v)).fld BX_GRV_SEL_SLOT k) = none) :
    Answers (.groveScore d k true none) s (fun u => s.counted u BX_GRV_CNT1_NO_MODEL 0 1 ∧ u.grv.scores = s.grv.scores) := by
  let t : State := { s with grv := { s.grv with lastScored := s.grv.lastScored.set (8 * d + k) (vecEpoch v) } }
  refine ⟨t.bump BX_GRV_CNT1_NO_MODEL, (exec_groveScore_fresh hk hv hen hnew).trans ?_, t.counted_bump BX_GRV_CNT1_NO_MODEL 0 1, rfl⟩
  dsimp only
  rw [hslot]
  rfl

theorem groveScore_scores {m : Model} {x : List Nat} (hslot : s.grv.slots.find? ((s.genCfg (vecGen v)).fld BX_GRV_SEL_SLOT k) = some m)
    (hone : (parseModel m.binary).partCount = 1)
    (hsums : modelSums m.binary (parseModel m.binary).binary (parseModel m.binary) (vecFeat v) = some x) :
    let slot := (s.genCfg (vecGen v)).fld BX_GRV_SEL_SLOT k
    let r := voteOf x (s.voteMin (s.genCfg (vecGen v)) slot) (parseModel m.binary).tieAbstain
    Answers (.groveScore d k true none) s (fun u => (∃ y ∈ u.grv.scores, y.epoch = vecEpoch v ∧ y.committed = vecCommitted v ∧
      y.die = vecDie v ∧ y.stage = k ∧ y.bytes = wordBytes (scoreWords v k slot r
        (r.alarm (fun j => s.amask (s.genCfg (vecGen v)) slot j)) (parseModel m.binary))) ∧
      u.grv.lastScored.find? (8 * d + k) = some (vecEpoch v)) := by
  intro slot r
  let t : State := { s with grv := { s.grv with lastScored := s.grv.lastScored.set (8 * d + k) (vecEpoch v) } }
  obtain ⟨keep, hgrv⟩ := t.finishScore_grv v k slot r (parseModel m.binary)
  refine ⟨t.finishScore v k slot r (parseModel m.binary), ?_, ?_, ?_⟩
  · rw [exec_groveScore_fresh hk hv hen hnew]
    dsimp only
    rw [hslot]
    exact congrArg done (State.scoreWith_unsplit (s := t) hone hsums _ _ _)
  · rw [hgrv]
    exact ⟨_, List.mem_append_right _ (List.mem_singleton_self _), rfl, rfl, rfl, rfl, rfl⟩
  · rw [hgrv]
    exact SMap.find?_set_same _ _ _

end

theorem groveEval_scores {s : State} {c : Cap} {m : Model} {x : List Nat} (hc : c.isOp = true) (hl : 2 ≤ c.params.length)
    (hslot : s.grv.slots.find? (c.p 0) = some m) (hpart : (parseModel m.binary).part = 0) (hone : (parseModel m.binary).partCount = 1)
    (hsums : modelSums m.binary (parseModel m.binary).binary (parseModel m.binary) (vecFeat c.data) = some x) :
    let r := voteOf x (s.voteMin (s.genCfg (vecGen c.data)) (c.p 0)) (parseModel m.binary).tieAbstain
    Answers (.groveEval c none) s (fun u => u.replied c 0x0304 S_OK (scoreWords c.data 0 (c.p 0) r
      (r.alarm (fun j => s.amask (s.genCfg (vecGen c.data)) (c.p 0) j)) (parseModel m.binary)) ∧ u.grv = s.grv) := by
  intro r
  refine ⟨s.evalReply c c.data (c.p 0) r (parseModel m.binary), ?_, s.evalReply_replied .., s.evalReply_grv ..⟩
  change execGroveEval c none s = _
  unfold execGroveEval
  rw [s.checked_of_allowed hc hl, hslot]
  dsimp only
  rw [if_neg (not_not.2 hpart), State.scoreWith_unsplit hone hsums]
  rfl

/-! ### A vector for a part held here (R264, R273) -/

theorem groveVecReceive_noModel {s : State} {q q2 src slot part num : Nat} {v : Bytes} {f : Option Nat}
    (hslot : s.grv.slots.find? slot = none) (hport : (s.outPort 4 0x21 s.agg src).1 = some q2) :
    Answers (.groveVecReceive q src slot part num v f) s (fun u => (∃ w ∈ (u.link (.canopy q2)).wait, w.1 = 5 ∧ w.2.body.ty = 4 ∧
      w.2.body.sub = 0x21 ∧ w.2.body.dst = src ∧ w.2.body.payload = msgPrefix s.cnp.msgId 40 0 0 ++ wordBytes [num, part, 1, 0, 0]) ∧
      u.grv = s.grv) := by
  let t := s.consume (.canopy q) 4 0x20
  have hport' : (t.outPort 4 0x21 t.agg src).1 = some q2 := (s.outPort_links _ _ _ _ _).trans hport
  refine ⟨t.sendMsg 4 0x21 5 src (wordBytes [num, part, 1, 0, 0]), ?_,
    State.sendMsg_waits (s := t) (by decide) hport' (by simp), (Sends.refl t).sendMsg.grv⟩
  have hempty : packFields [(32, 32, (parseModel []).modelId), (16, 16, (parseModel []).modelVer)] = 0 := by decide
  change execGroveVecReceive q src slot part num v f s = _
  unfold execGroveVecReceive
  dsimp only
  rw [show (s.consume (.canopy q) 4 0x20).grv.slots.find? slot = none from hslot]
  simp only [Option.map_none, Option.getD_none, hempty]
  rfl

/-! ### The sums of a part (R264, R265) -/

/-- A split vector once a part's sums have joined it. -/
def SplitVec.join (x : SplitVec) (part : Nat) (l : List Nat) : SplitVec := { x with parts := x.parts.set part (some l) }

/-- A state whose split vector has become this one. -/
def State.setSplit (s : State) (x : SplitVec) : State :=
  { s with grv := { s.grv with split := s.grv.split.map (fun y => if y.num = x.num then x else y) } }

theorem num_of_find?_split {l : List SplitVec} {num : Nat} {x : SplitVec} (hx : l.find? (fun y => y.num = num) = some x) : x.num = num := by
  simpa using List.find?_some hx

theorem State.find?_setSplit {s : State} {x y : SplitVec} (hx : s.grv.split.find? (fun z => z.num = y.num) = some x) :
    (s.setSplit y).grv.split.find? (fun z => z.num = y.num) = some y := by
  unfold State.setSplit
  dsimp only
  rw [List.find?_map, show ((fun z : SplitVec => decide (z.num = y.num)) ∘ fun z => if z.num = y.num then y else z) =
    fun z => decide (z.num = y.num) from ?_, hx]
  · simp [num_of_find?_split hx]
  · funext z
    by_cases h : z.num = y.num <;> simp [h]

theorem SMap.any_set_of {α : Type} {p : Nat × α → Bool} {m : SMap α} {k : Nat} {v : α} (hm : m.any p = false) (hv : p (k, v) = false) :
    (m.set k v).any p = false := by
  induction m with
  | nil => simp [SMap.set, hv]
  | cons e t ih =>
    obtain ⟨he, ht⟩ : p e = false ∧ t.any p = false := by simpa only [List.any_cons, Bool.or_eq_false_iff] using hm
    unfold SMap.set
    split
    · simp [hv, ht]
    · split
      · simp [hv, he, ht]
      · simp [he, ih ht]

/-- While a part has not answered and none has answered FAULT, a split vector waits. -/
theorem State.trySplit_waits {s : State} {x : SplitVec} {m : Model} {j : Nat} (hslot : s.grv.slots.find? x.slot = some m)
    (hfault : x.parts.any (fun p => p.2.isNone) = false) (hj : j < (parseModel m.binary).partCount) (hnone : x.parts.find? j = none) :
    s.trySplit x = s := by
  have hall : ¬ (List.range (parseModel m.binary).partCount).all (fun p => (x.parts.find? p).isSome) = true := by
    rw [List.all_eq_true]
    intro h
    have := h j (List.mem_range.2 hj)
    simp [hnone] at this
  unfold State.trySplit
  rw [hslot]
  dsimp only
  rw [if_neg (by simp [hfault]), if_neg hall]

/-- Once every part has answered, a split vector ends with the vote over the added sums. -/
theorem State.trySplit_votes {s : State} {x : SplitVec} {m : Model} (hslot : s.grv.slots.find? x.slot = some m)
    (hfault : x.parts.any (fun p => p.2.isNone) = false) (hall : ∀ j < (parseModel m.binary).partCount, (x.parts.find? j).isSome = true) :
    s.trySplit x = s.endSplit x (voteOf (addSums (x.parts.filterMap (fun p => p.2)) (parseModel m.binary).nclass)
      (s.voteMin (s.genCfg (vecGen x.vector)) x.slot) (parseModel m.binary).tieAbstain) := by
  unfold State.trySplit
  rw [hslot]
  dsimp only
  rw [if_neg (by simp [hfault]), if_pos (List.all_eq_true.2 fun j hj => hall j (List.mem_range.1 hj))]

/-- A state without a split vector. -/
def State.dropSplit (s : State) (num : Nat) : State := { s with grv := { s.grv with split := s.grv.split.filter (fun y => y.num ≠ num) } }

section
variable {s : State} {x : SplitVec} {m : Model} (hslot : s.grv.slots.find? x.slot = some m) (r : Vote)
include hslot

theorem State.endSplit_of_stage (heval : x.eval = none) :
    s.endSplit x r = (s.dropSplit x.num).finishScore x.vector x.stage x.slot r (parseModel m.binary) := by
  unfold State.endSplit
  dsimp only
  rw [hslot, heval]
  rfl

theorem State.endSplit_of_eval {c : Cap} (heval : x.eval = some c) :
    s.endSplit x r = (s.dropSplit x.num).evalReply c x.vector x.slot r (parseModel m.binary) := by
  unfold State.endSplit
  dsimp only
  rw [hslot, heval]
  rfl

end

theorem State.dropSplit_gone (s : State) (num : Nat) : ∀ y ∈ (s.dropSplit num).grv.split, y.num ≠ num :=
  fun _ hy => of_decide_eq_true (List.mem_filter.1 hy).2

theorem groveSumsReceive_stray {s : State} {q src num : Nat} (part i v : Nat) (f : Bool) (l : List Nat)
    (hnone : ∀ x ∈ s.grv.split, x.num ≠ num) : Answers (.groveSumsReceive ⟨q, src⟩ num part f i v l) s (fun u =>
      u.grv = s.grv ∧ s.counted u BX_GRV_CNT1_PEER_BAD 0 1) := by
  let t := (s.consume (.canopy q) 4 0x21).bump BX_GRV_CNT1_PEER_BAD
  have hviol : Signals t (t.viol (.canopy q) 11) := (Signals.refl t).viol
  refine ⟨t.viol (.canopy q) 11, ?_, hviol.grv, ?_⟩
  · change execGroveSumsReceive ⟨q, src⟩ num part f i v l s = _
    unfold execGroveSumsReceive
    dsimp only
    rw [show (s.consume (.canopy q) 4 0x21).grv.split.find? (fun x : SplitVec => x.num = num) = none from
      List.find?_eq_none.2 fun x hx => by simpa using hnone x hx]
    rfl
  · exact (hviol.regs BX_GRV_CNT1_PEER_BAD 0 (by decide) (by decide)).trans
      ((s.consume (.canopy q) 4 0x21).counted_bump BX_GRV_CNT1_PEER_BAD 0 1)

section
variable {s : State} {q src num part : Nat} {l : List Nat} {x : SplitVec} {m : Model}
  (hx : s.grv.split.find? (fun (y : SplitVec) => y.num = num) = some x) (hslot : s.grv.slots.find? x.slot = some m)
include hx hslot

section
variable (hbind : s.grv.binds.any (fun (b : PeerBind) => b.slot = x.slot && b.part = part && b.peer = src) = true) (hpart : part ≠ 0)
  (hcount : part < (parseModel m.binary).partCount) (hfresh : x.parts.find? part = none) (hlen : l.length = (parseModel m.binary).nclass)
  (hintime : s.bxNs < x.at_ + max 1 (s.rd BX_GRV_SPLIT_WAIT_US) * 1000)
include hbind hpart hcount hfresh hlen hintime

/-- Sums of a part from the peer bound for it, in time, join their vector. -/
theorem exec_groveSumsReceive_joins : exec (.groveSumsReceive ⟨q, src⟩ num part false (parseModel m.binary).modelId
    (parseModel m.binary).modelVer l) s =
      done (((s.consume (.canopy q) 4 0x21).setSplit (x.join part l)).trySplit (x.join part l)) := by
  obtain rfl := num_of_find?_split hx
  change execGroveSumsReceive ⟨q, src⟩ x.num part false _ _ l s = _
  unfold execGroveSumsReceive
  dsimp only
  rw [show (s.consume (.canopy q) 4 0x21).grv.split.find? (fun y : SplitVec => y.num = x.num) = some x from hx]
  dsimp only
  rw [show (s.consume (.canopy q) 4 0x21).grv.slots.find? x.slot = some m from hslot]
  dsimp only
  rw [if_neg, if_neg]
  · rfl
  · exact Nat.not_le.2 hintime
  · have hbind' : (s.consume (.canopy q) 4 0x21).grv.binds.any (fun (b : PeerBind) => b.slot = x.slot && b.part = part && b.peer = src) = true :=
      hbind
    simp [hbind', hpart, hfresh, hlen, Nat.not_le.2 hcount]

theorem groveSumsReceive_joins {j : Nat} (hfault : x.parts.any (fun p => p.2.isNone) = false) (hj : j < (parseModel m.binary).partCount)
    (hne : j ≠ part) (hnone : x.parts.find? j = none) : Answers (.groveSumsReceive ⟨q, src⟩ num part false (parseModel m.binary).modelId
      (parseModel m.binary).modelVer l) s (fun u =>
        (u.grv.split.find? (fun (y : SplitVec) => y.num = num)).map (fun y => y.parts) = some (x.parts.set part (some l))) := by
  obtain rfl := num_of_find?_split hx
  let t := (s.consume (.canopy q) 4 0x21).setSplit (x.join part l)
  have hwaits : t.trySplit (x.join part l) = t := State.trySplit_waits (s := t) (x := x.join part l) hslot (SMap.any_set_of hfault rfl) hj
    ((SMap.find?_set_other _ _ hne).trans hnone)
  refine ⟨t, (exec_groveSumsReceive_joins hx hslot hbind hpart hcount hfresh hlen hintime).trans (congrArg done hwaits), ?_⟩
  exact congrArg (Option.map fun y : SplitVec => y.parts)
    (State.find?_setSplit (s := s.consume (.canopy q) 4 0x21) (y := x.join part l) hx)

theorem groveSumsReceive_answers {c : Cap} (hfault : (x.parts.set part (some l)).any (fun p => p.2.isNone) = false)
    (hall : ∀ j < (parseModel m.binary).partCount, ((x.parts.set part (some l)).find? j).isSome = true) (heval : x.eval = some c) :
    let r := voteOf (addSums ((x.parts.set part (some l)).filterMap (fun p => p.2)) (parseModel m.binary).nclass)
      (s.voteMin (s.genCfg (vecGen x.vector)) x.slot) (parseModel m.binary).tieAbstain
    Answers (.groveSumsReceive ⟨q, src⟩ num part false (parseModel m.binary).modelId (parseModel m.binary).modelVer l) s (fun u =>
      u.replied c 0x0304 S_OK (scoreWords x.vector 0 x.slot r (r.alarm (fun j => s.amask (s.genCfg (vecGen x.vector)) x.slot j))
        (parseModel m.binary)) ∧ (∀ y ∈ u.grv.split, y.num ≠ num)) := by
  intro r
  obtain rfl := num_of_find?_split hx
  let t := (s.consume (.canopy q) 4 0x21).setSplit (x.join part l)
  let v := (t.dropSplit x.num).evalReply c x.vector x.slot r (parseModel m.binary)
  have hvotes : t.trySplit (x.join part l) = t.endSplit (x.join part l) r :=
    State.trySplit_votes (s := t) (x := x.join part l) hslot hfault hall
  have hend : t.endSplit (x.join part l) r = v := State.endSplit_of_eval (s := t) (x := x.join part l) hslot r heval
  refine ⟨v, (exec_groveSumsReceive_joins hx hslot hbind hpart hcount hfresh hlen hintime).trans (congrArg done (hvotes.trans hend)),
    (t.dropSplit x.num).evalReply_replied .., ?_⟩
  rw [(t.dropSplit x.num).evalReply_grv]
  exact t.dropSplit_gone x.num

end

theorem groveSplitTimeout_ends (heval : x.eval = none) (hlate : x.at_ + max 1 (s.rd BX_GRV_SPLIT_WAIT_US) * 1000 ≤ s.bxNs) :
    Answers (.groveSplitTimeout num) s (fun u => s.counted u BX_GRV_CNT1_PART_MISSING 0 1 ∧ (∀ y ∈ u.grv.split, y.num ≠ num)) := by
  obtain rfl := num_of_find?_split hx
  let r : Vote := { status := 2, cls := 0xFF, win := 0, runner := 0 }
  let t := (s.dropSplit x.num).countScore r false
  let u := t.storeScore x.vector x.stage (scoreWords x.vector x.stage x.slot r false (parseModel m.binary))
  have hend : s.endSplit x r = u :=
    (State.endSplit_of_stage hslot r heval).trans ((s.dropSplit x.num).finishScore_of_noVote _ _ _ (by decide) _)
  refine ⟨u, ?_, (s.dropSplit x.num).countScore_partMissing rfl, ?_⟩
  · change execGroveSplitTimeout x.num s = _
    unfold execGroveSplitTimeout
    rw [hx]
    dsimp only
    rw [if_pos hlate]
    exact congrArg done hend
  · have hgrv : t.grv = (s.dropSplit x.num).grv := State.countScore_grv _ _ _
    change ∀ y ∈ t.grv.split, y.num ≠ x.num
    rw [hgrv]
    exact s.dropSplit_gone x.num

end

/-! ### The Grove-S check (R271) -/

section
variable {s : State} {d n : Nat} {x : IngEntry} {m : Model} {f : List Nat} (hchk : s.flag BX_GRV_GRS_CHK_EN = true)
  (hevery : n % max 1 (s.rd BX_GRV_GRS_CHK_EVERY) = 0) (hnew : s.grv.grsChecked.find? d ≠ some n) (hx : s.held? d n = some x)
  (hrow : x.row = some 10) (hvalid : bitAt (snapGrs x.bytes) 15 = true) (hen : (s.cfgOf n).fld BX_GRV_GRS_SEL_EN 0 ≠ 0)
  (hslot : s.grv.slots.find? ((s.cfgOf n).fld BX_GRV_GRS_SEL_SLOT 0) = some m)
  (hsums : modelSums m.binary (parseModel m.binary).binary (parseModel m.binary) (grsFeature ((s.genCfg x.gen).zx.getD d []) x.bytes) = some f)
include hchk hevery hnew hx hrow hvalid hen hslot hsums

/-- A due check of a valid vote notes its epoch and compares the vote with one of this BX64's own. -/
theorem exec_grsCheck_due : exec (.grsCheck d n) s =
    let r := voteOf f (parseModel m.binary).voteMin (parseModel m.binary).tieAbstain
    let t : State := { s with grv := { s.grv with grsChecked := s.grv.grsChecked.set d n } }
    let u := (t.bump BX_GRV_CNT1_GRS_MISMATCH).signal
      { ty := 0x0505, source := 5, idx := d, self := d = 64, die := s.dieAddr d, inc := x.inc, extra := n }
    if r.cls = bits (snapGrs x.bytes) 7 0 ∧ r.alarm (alarmBit m.binary) = bitAt (snapGrs x.bytes) 14 then done t
    else done ((u.setReason d 5 n).mirrorDie d) := by
  have hdue : (s.flag BX_GRV_GRS_CHK_EN && decide (n % max 1 (s.rd BX_GRV_GRS_CHK_EVERY) = 0) &&
      decide (s.grv.grsChecked.find? d ≠ some n)) = true := by simp [hchk, hevery, hnew]
  change execGrsCheck d n s = _
  unfold execGrsCheck
  dsimp only
  rw [hdue, hx, if_neg hen, hslot]
  dsimp only
  rw [if_neg (by simp [hrow]), if_neg (by simp [hvalid])]
  rw [show modelSums m.binary (parseModel m.binary).binary (parseModel m.binary) (fun j => grsFeature
    ((State.genCfg { s with grv := { s.grv with grsChecked := s.grv.grsChecked.set d n } } x.gen).zx.getD d []) x.bytes j) = some f from hsums]
  rfl

theorem grsCheck_agrees (hcls : (voteOf f (parseModel m.binary).voteMin (parseModel m.binary).tieAbstain).cls = bits (snapGrs x.bytes) 7 0)
    (halarm : (voteOf f (parseModel m.binary).voteMin (parseModel m.binary).tieAbstain).alarm (alarmBit m.binary) =
      bitAt (snapGrs x.bytes) 14) : Answers (.grsCheck d n) s (fun u =>
        u.grv.grsChecked.find? d = some n ∧ { u with grv := s.grv } = s) :=
  ⟨_, (exec_grsCheck_due hchk hevery hnew hx hrow hvalid hen hslot hsums).trans (if_pos ⟨hcls, halarm⟩), SMap.find?_set_same _ _ _, rfl⟩

theorem grsCheck_mismatch (hdiff : ¬ ((voteOf f (parseModel m.binary).voteMin (parseModel m.binary).tieAbstain).cls =
      bits (snapGrs x.bytes) 7 0 ∧ (voteOf f (parseModel m.binary).voteMin (parseModel m.binary).tieAbstain).alarm (alarmBit m.binary) =
      bitAt (snapGrs x.bytes) 14)) : Answers (.grsCheck d n) s (fun u => u.grv.grsChecked.find? d = some n ∧
        s.counted u BX_GRV_CNT1_GRS_MISMATCH 0 1 ∧ (u.reasons d).testBit 5 = true) := by
  let t : State := { s with grv := { s.grv with grsChecked := s.grv.grsChecked.set d n } }
  let v := t.bump BX_GRV_CNT1_GRS_MISMATCH
  let u := v.signal { ty := 0x0505, source := 5, idx := d, self := d = 64, die := s.dieAddr d, inc := x.inc, extra := n }
  have hu : Signals v u := (Signals.refl v).signal
  refine ⟨(u.setReason d 5 n).mirrorDie d,
    (exec_grsCheck_due hchk hevery hnew hx hrow hvalid hen hslot hsums).trans (if_neg hdiff), ?_, ?_, ?_⟩
  · rw [State.mirrorDie_grv, State.setReason_grv, hu.grv]
    exact SMap.find?_set_same _ _ _
  · unfold State.counted
    rw [State.mirrorDie_rd, u.setReason_regsKept d 5 n _ _ (by decide) (by decide), hu.regs _ _ (by decide) (by decide)]
    exact t.counted_bump BX_GRV_CNT1_GRS_MISMATCH 0 1
  · rw [State.reasons, State.mirrorDie_rd]
    exact u.setReason_testBit d n (by decide)

end

/-- Settles O26: a score is stored, or answered, by the vote over the sums of its model or of all its parts; what follows a result or a
mismatch, alarms, marks and messages, leaves the Grove engine and its counters alone. -/
theorem groveScoresAndSplitsModels : Obligations.GroveScoresAndSplitsModels :=
  ⟨fun _ _ _ _ hk hv hen hnew hslot => groveScore_noModel hk hv hen hnew hslot,
    fun _ _ _ _ _ _ hk hv hen hnew hslot hone hsums => groveScore_scores hk hv hen hnew hslot hone hsums,
    fun _ _ _ _ hc hl hslot hpart hone hsums => groveEval_scores hc hl hslot hpart hone hsums,
    fun _ _ _ _ _ _ _ _ _ hslot hport => groveVecReceive_noModel hslot hport,
    fun _ _ _ _ part i v f l hnone => groveSumsReceive_stray part i v f l hnone,
    fun _ _ _ _ _ _ _ _ _ hx hslot hbind hpart hcount hfresh hlen hintime hfault hj hne hnone =>
      groveSumsReceive_joins hx hslot hbind hpart hcount hfresh hlen hintime hfault hj hne hnone,
    fun _ _ _ _ _ _ _ _ _ hx hslot hbind hpart hcount hfresh hlen hintime hfault hall heval =>
      groveSumsReceive_answers hx hslot hbind hpart hcount hfresh hlen hintime hfault hall heval,
    fun _ _ _ _ hx hslot heval hlate => groveSplitTimeout_ends hx hslot heval hlate,
    fun _ _ _ _ _ _ hchk hevery hnew hx hrow hvalid hen hslot hsums hcls halarm =>
      grsCheck_agrees hchk hevery hnew hx hrow hvalid hen hslot hsums hcls halarm,
    fun _ _ _ _ _ _ hchk hevery hnew hx hrow hvalid hen hslot hsums hdiff =>
      grsCheck_mismatch hchk hevery hnew hx hrow hvalid hen hslot hsums hdiff⟩

end Sys2Proof.Machine
end

section
/-! SUPPORT. Models are loaded, unloaded and read, Grove-S images are read and sent, parts are bound (R255 to R257, R263, R270, R274). -/

namespace Sys2Proof.Machine
open Sys2Proof

/-! ### What a load leaves alone (R263, R274, Table 9-21) -/

/-- A die brought up to the generation in force receives messages, and no part of the Grove engine changes. -/
theorem State.sendRun_keeps (s : State) (p : Nat) : (s.sendRun p).grv = s.grv ∧ RegsKept [.BX_CNP_CNT0] s (s.sendRun p) := by
  unfold State.sendRun
  split
  · unfold State.resendGen
    split
    · exact ⟨rfl, .refl _ s⟩
    · have hsend {gen : Nat} {c : Settings} {params : List Nat} : Sends s ((s.stageZx p gen c).zxInternal p 0x0212 params) :=
        (Sends.refl s).stageZx.zxInternal
      exact ⟨hsend.grv, hsend.regs⟩
  · exact ⟨(Sends.refl s).refreshGrs.grv, (Sends.refl s).refreshGrs.regs⟩

theorem State.reloadGrs_keeps (s : State) (slot : Nat) : (s.reloadGrs slot).grv = s.grv ∧ RegsKept [.BX_CNP_CNT0] s (s.reloadGrs slot) := by
  unfold State.reloadGrs
  split
  · exact ⟨rfl, .refl _ s⟩
  · refine List.foldlRecOn (motive := fun t : State => t.grv = s.grv ∧ RegsKept [.BX_CNP_CNT0] s t) _ _ ⟨rfl, .refl _ s⟩ fun t ht p _ => ?_
    obtain ⟨hgrv, hregs⟩ := ht
    dsimp only
    split
    · exact ⟨hgrv, hregs⟩
    · obtain ⟨hgrv', hregs'⟩ := t.sendRun_keeps p
      exact ⟨hgrv'.trans hgrv, hregs.trans hregs'⟩

theorem State.setThr_grv (s : State) (slot : Nat) (b : Bytes) : (s.setThr slot b).grv = s.grv := rfl

theorem State.setThr_voteMin (s : State) (slot : Nat) (b : Bytes) : (s.setThr slot b).rd BX_GRV_THR_VOTE_MIN slot = (parseModel b).voteMin := by
  have hmask : RegsKept [.BX_GRV_AMASK] (s.wr BX_GRV_THR_VOTE_MIN slot (parseModel b).voteMin) (s.setThr slot b) :=
    List.foldlRecOn (motive := RegsKept _ _) _ _ (.refl _ _) fun t ht j _ => ht.wr
  rw [hmask _ _ (by decide) (by decide), State.rd_wr_same]
  exact Nat.mod_eq_of_lt (bits_lt _ 63 32)

/-- The bindings of a home slot, of all its parts or of one, end: their peers have been told, and the other bindings stand. -/
theorem State.unbind_eq (s : State) (c : Cap) (slot : Nat) (part : Option Nat) : ∃ t, Sends s t ∧ s.unbind c slot part =
    { t with grv := { s.grv with binds := s.grv.binds.filter fun b => ¬ (b.slot = slot && part.all fun j => b.part = j) = true } } := by
  let gone (b : PeerBind) : Bool := b.slot = slot && part.all fun j => b.part = j
  let t := (s.grv.binds.filter gone).foldl (fun s (b : PeerBind) => s.tellPeer b c.tag c.tenant 512 0xFFF) s
  have ht : Sends s t := (Sends.refl s).foldl fun _ _ h => h.sendMsg
  refine ⟨t, ht, ?_⟩
  change ({ t with grv := { t.grv with binds := t.grv.binds.filter fun b => ¬ gone b = true } } : State) = _
  rw [ht.grv]

theorem State.unbind_slots (s : State) (c : Cap) (slot : Nat) (part : Option Nat) : (s.unbind c slot part).grv.slots = s.grv.slots := by
  obtain ⟨t, -, ht⟩ := s.unbind_eq c slot part
  rw [ht]

/-! ### GROVE_LOAD and GROVE_UNLOAD (Table 9-11) -/

/-- The statuses of Table 9-11 are none of those that a counter counts. -/
theorem State.loadCheck_status {s : State} {slot len : Nat} {b : Bytes} {r : Nat × Nat} (h : s.loadCheck slot len b = some r) :
    r.2 ∉ [S_DENIED, S_TIMEOUT, S_BADOP] := by
  have hdisjoint : ∀ st ∈ [S_BADPARAM, S_BUSY, S_NOTNOW, S_CONFLICT], st ∉ [S_DENIED, S_TIMEOUT, S_BADOP] := by decide
  refine hdisjoint _ ?_
  unfold State.loadCheck at h
  split at h
  · obtain rfl := Option.some.inj h
    simp
  · split at h
    · obtain rfl := Option.some.inj h
      simp
    · dsimp only at h
      split_ifs at h <;> obtain rfl := Option.some.inj h <;> simp

/-- A binary takes the place of what its slot held, with its digest and where it is placed. -/
def State.enterModel (s : State) (slot : Nat) (b : Bytes) : State :=
  let t : State := { s with grv := { s.grv with slots := s.grv.slots.erase slot } }
  let pl := (t.place b).getD ([], [])
  { t with grv := { t.grv with slots := t.grv.slots.set slot { binary := b, digest := sha256 b, extents := pl.1, banks := pl.2 } } }

theorem State.enterModel_binary (s : State) (slot : Nat) (b : Bytes) :
    ((s.enterModel slot b).grv.slots.find? slot).map (fun m => m.binary) = some b :=
  congrArg (Option.map fun m : Model => m.binary) (SMap.find?_set_same _ _ _)

section
variable {s : State} {c : Cap} (hc : c.isOp = true)
include hc

theorem exec_groveLoad_passes (hl : 3 ≤ c.params.length) (h0 : c.p 0 ≤ 15) (hcheck : s.loadCheck (c.p 0) (c.p 2) c.data = none) :
    exec (.groveLoad c) s = done (((((s.enterModel (c.p 0) c.data).unbind c (c.p 0) none).setThr (c.p 0) c.data).reloadGrs (c.p 0)).reply c
      0x0301 S_OK (leWords (sha256 c.data))) := by
  change execGroveLoad c s = _
  unfold execGroveLoad
  rw [s.checked_of_allowed hc hl, if_neg (Nat.not_lt.2 h0), hcheck]
  rfl

theorem groveLoad_passes (hl : 3 ≤ c.params.length) (h0 : c.p 0 ≤ 15) (hcheck : s.loadCheck (c.p 0) (c.p 2) c.data = none) :
    Answers (.groveLoad c) s (fun u => u.replied c 0x0301 S_OK (leWords (sha256 c.data)) ∧
      (u.grv.slots.find? (c.p 0)).map (fun m => m.binary) = some c.data ∧
      u.rd BX_GRV_THR_VOTE_MIN (c.p 0) = (parseModel c.data).voteMin) := by
  let t := (s.enterModel (c.p 0) c.data).unbind c (c.p 0) none
  let v := t.setThr (c.p 0) c.data
  obtain ⟨hgrv, hregs⟩ := v.reloadGrs_keeps (c.p 0)
  refine ⟨_, exec_groveLoad_passes hc hl h0 hcheck, State.reply_replied .., ?_, ?_⟩
  · rw [State.reply_grv, hgrv, t.setThr_grv, State.unbind_slots]
    exact s.enterModel_binary (c.p 0) c.data
  · rw [State.rd_congr (State.reply_regs _ _ _ (by decide) _ _ _), hregs _ _ (by decide) (by decide)]
    exact t.setThr_voteMin (c.p 0) c.data

theorem groveLoad_refuses {r : Nat × Nat} (hl : 3 ≤ c.params.length) (h0 : c.p 0 ≤ 15)
    (hcheck : s.loadCheck (c.p 0) (c.p 2) c.data = some r) :
    Answers (.groveLoad c) s (fun u => u.replied c 0x0301 r.2 [] ∧ s.onlyReply u) := by
  refine ⟨s.reply c 0x0301 r.2 [] r.1, ?_, State.reply_replied .., s.reply_onlyReply c _ (State.loadCheck_status hcheck) _ _ _⟩
  change execGroveLoad c s = _
  unfold execGroveLoad
  rw [s.checked_of_allowed hc hl, if_neg (Nat.not_lt.2 h0), hcheck]
  rfl

theorem groveUnload_empties (hl : 1 ≤ c.params.length) (h0 : c.p 0 ≤ 15) (hsel : s.slotSelected (c.p 0) = false)
    (hbound : s.slotBound (c.p 0) = false) : Answers (.groveUnload c) s (fun u =>
      u.replied c 0x0302 S_OK [] ∧ u.grv.slots = s.grv.slots.erase (c.p 0)) := by
  let t : State := { s with grv := { s.grv with slots := s.grv.slots.erase (c.p 0) } }
  refine ⟨(t.unbind c (c.p 0) none).reply c 0x0302 S_OK, ?_, State.reply_replied .., ?_⟩
  · change execGroveUnload c s = _
    unfold execGroveUnload
    rw [s.checked_of_allowed hc hl, if_neg (Nat.not_lt.2 h0), if_neg (by simp [hsel, hbound])]
    rfl
  · rw [State.reply_grv]
    exact t.unbind_slots c (c.p 0) none

end

/-! ### Models, scores and images read (Tables 9-13, 9-17 and 9-18) -/

/-- What GROVE_INFO says of a model's use: the entries it holds of each memory, and its trees in each rule bank. -/
def Model.memoryUse (m : Model) : List Nat :=
  (List.range 8).map (fun i => ((m.extents.filter (fun e => e.1 = i)).map (fun e => e.2.2)).foldl (· + ·) 0) ++
    (List.range 4).map (fun i => (m.banks.filter (fun b => b = i)).length)

@[simp] theorem Model.length_memoryUse (m : Model) : m.memoryUse.length = 12 := by simp [Model.memoryUse]

section
variable {s : State} {c : Cap} (hc : c.isOp = true)
include hc

theorem exec_groveInfo {m : Model} (hl : 1 ≤ c.params.length) (hptr : c.noPtr = false) (hslot : s.grv.slots.find? (c.p 0) = some m) :
    exec (.groveInfo c) s = done (s.reply c 0x0303 S_OK [(m.binary.take 48 ++ m.digest ++ wordBytes m.memoryUse).length] 0
      (some (c.replyPtr, m.binary.take 48 ++ m.digest ++ wordBytes m.memoryUse))) := by
  change execGroveInfo c s = _
  unfold execGroveInfo
  rw [s.checkedPtr_of_allowed hc hl hptr, hslot]
  dsimp only
  unfold State.replyBlob
  rw [Cap.isMctp_of_isOp hc]
  rfl

theorem groveInfo_reads {m : Model} (hl : 1 ≤ c.params.length) (hptr : c.noPtr = false) (hslot : s.grv.slots.find? (c.p 0) = some m) :
    Answers (.groveInfo c) s (fun u => u.replied c 0x0303 S_OK [(m.binary.take 48).length + m.digest.length + 96] ∧ s.onlyReply u ∧
      (u.wdn.replies.getLast?.bind (fun r => r.hostWrite)).map (fun x => (x.1, x.2.take ((m.binary.take 48).length + m.digest.length))) =
        some (c.replyPtr, m.binary.take 48 ++ m.digest)) := by
  have hlen : (m.binary.take 48 ++ m.digest ++ wordBytes m.memoryUse).length = (m.binary.take 48).length + m.digest.length + 96 := by
    simp [Nat.add_assoc]
  refine ⟨_, exec_groveInfo hc hl hptr hslot, ?_, s.reply_onlyReply c _ (by decide) _ _ _, ?_⟩
  · rw [hlen]
    exact s.reply_replied ..
  · rw [State.reply_hostWrite, Option.map_some, List.take_left' List.length_append]

theorem groveScoreRead_reads {d : Nat} {x : ScoreRec} (hl : 4 ≤ c.params.length) (hd : s.localDie? (c.p 0) = some d) (h2 : c.p 2 ≤ 7)
    (h3 : c.p 3 ≤ 1) (hx : s.grv.scores.find? (fun (x : ScoreRec) => x.die = d && x.epoch = c.p 1 && x.stage = c.p 2 &&
      x.committed = (c.p 3 = 1)) = some x) :
    Answers (.groveScoreRead c) s (fun u => u.replied c 0x0306 S_OK (leWords x.bytes) ∧ s.onlyReply u) := by
  refine answers_reply (by decide) ?_
  change execGroveScoreRead c s = _
  unfold execGroveScoreRead
  rw [s.checked_of_allowed hc hl, hd]
  dsimp only
  rw [if_neg (by omega), hx]

theorem groveGrsImage_reads {m : Model} (hl : 2 ≤ c.params.length) (hslot : s.grv.slots.find? (c.p 0) = some m)
    (hok : (parseModel m.binary).grsOk = true) : Answers (.groveGrsImage c) s (fun u => u.replied c 0x0307 S_OK [36352] ∧ s.onlyReply u ∧
      u.wdn.replies.getLast?.bind (fun r => r.hostWrite) = some (c.p 1, grsImage m.binary s.liveGen)) := by
  refine ⟨s.reply c 0x0307 S_OK [36352] 0 (some (c.p 1, grsImage m.binary s.liveGen)), ?_, s.reply_replied ..,
    s.reply_onlyReply c _ (by decide) _ _ _, s.reply_hostWrite ..⟩
  change execGroveGrsImage c s = _
  unfold execGroveGrsImage
  rw [s.checked_of_allowed hc hl, hslot]
  dsimp only
  rw [if_pos hok]
  rfl

/-! ### GROVE_GRS_REFRESH (R270, Table 9-20) -/

theorem groveGrsRefresh_sends {p : Nat} {b : Bytes} (hl : 1 ≤ c.params.length) (hp : s.localDie? (c.p 0) = some p)
    (hb : s.grsImageOf s.cfg s.liveGen = some b) (hact : (s.link (.stem p)).lstate = .active) :
    Answers (.groveGrsRefresh c) s (fun u => (∃ m ∈ (u.zxPort p).waiting ++ (u.zxPort p).out, m.op = 0x0211 ∧ m.params = [0, 0, 0] ∧
      m.origin = some (0x0308, c)) ∧ u.wdn.replies = s.wdn.replies) := by
  refine ⟨(s.sendImage p 0 b).zxSend p 0x0211 [0, 0, 0] (some (0x0308, c)), ?_, State.zxSend_joins .., (Sends.refl s).sendImage.zxSend.replies⟩
  change execGroveGrsRefresh c s = _
  unfold execGroveGrsRefresh
  rw [s.checked_of_allowed hc hl, hp]
  dsimp only
  rw [hb]
  dsimp only
  rw [if_neg (not_not.2 hact)]
  rfl

/-! ### GROVE_PEER_BIND (R263) -/

section
variable (hl : 8 ≤ c.params.length) (h0 : c.p 0 ≤ 15) (h1 : 1 ≤ c.p 1) (h7 : c.p 1 ≤ 7) (h3 : c.p 3 ≤ 15)
  (hsel : s.slotSelected (c.p 0) = false)
include hl h0 h1 h7 h3 hsel

/-- The operator's request for a slot that is not selected releases a binding, or asks a peer, which does not answer. -/
theorem exec_grovePeerBind_unanswered : exec (.grovePeerBind c none) s =
    done (if c.p 2 = 0xFFF then (s.unbind c (c.p 0) (some (c.p 1))).reply c 0x0305 S_OK
      else if (s.grv.slots.find? (c.p 0)).isNone then s.reply c 0x0305 S_CONFLICT
      else (s.tellPeer ⟨c.p 0, c.p 1, c.p 2, c.p 3, wordBytes [c.p 4, c.p 5, c.p 6, c.p 7]⟩ c.tag c.tenant 256 s.agg).reply c 0x0305
        S_TIMEOUT) := by
  change execGrovePeerBind c none s = _
  unfold execGrovePeerBind
  rw [s.checked_of_allowed hc hl]
  dsimp only
  rw [if_neg (by omega), if_neg (by omega), if_neg (by simp [hsel])]
  cases s.grv.slots.find? (c.p 0) <;> rfl

theorem grovePeerBind_releases (h2 : c.p 2 = 0xFFF) : Answers (.grovePeerBind c none) s (fun u => u.replied c 0x0305 S_OK [] ∧
    u.grv.binds = s.grv.binds.filter (fun (b : PeerBind) => ¬ (b.slot = c.p 0 ∧ b.part = c.p 1))) := by
  refine ⟨_, (exec_grovePeerBind_unanswered hc hl h0 h1 h7 h3 hsel).trans (congrArg done (if_pos h2)), State.reply_replied .., ?_⟩
  obtain ⟨t, -, ht⟩ := s.unbind_eq c (c.p 0) (some (c.p 1))
  rw [State.reply_grv, ht]
  simp

theorem grovePeerBind_timesOut {m : Model} (h2 : c.p 2 ≠ 0xFFF) (hslot : s.grv.slots.find? (c.p 0) = some m) :
    Answers (.grovePeerBind c none) s (fun u => u.replied c 0x0305 S_TIMEOUT [] ∧ u.grv = s.grv) := by
  refine ⟨_, (exec_grovePeerBind_unanswered hc hl h0 h1 h7 h3 hsel).trans
    (congrArg done ((if_neg h2).trans (if_neg (by simp [hslot])))), State.reply_replied .., ?_⟩
  rw [State.reply_grv]
  exact (Sends.refl s).sendMsg.grv

end

end

/-! ### The lane control (R273, Table 9-19) -/

/-- A field written unless the value is 0, which it does not take. -/
def State.wrUnlessZero (s : State) (f : Fld) (v : Nat) : State := if v = 0 then s else s.wr f 0 v

theorem State.rd_wrUnlessZero_same (s : State) (f : Fld) {v : Nat} (hv : v < 2 ^ f.width) :
    (s.wrUnlessZero f v).rd f = if v = 0 then s.rd f else v := by
  unfold State.wrUnlessZero
  split
  · rfl
  · exact (s.rd_wr_same _ _ _).trans (Nat.mod_eq_of_lt hv)

theorem State.rd_wrUnlessZero_otherLo (s : State) {f g : Fld} (v : Nat) (hf : f.lo < 64) (hg : g.lo < 64) (h : g.lo ≠ f.lo) :
    (s.wrUnlessZero f v).rd g = s.rd g := by
  unfold State.wrUnlessZero
  split
  · rfl
  · exact s.rd_wr_otherLo _ hf hg h

theorem State.wrUnlessZero_grv (s : State) (f : Fld) (v : Nat) : (s.wrUnlessZero f v).grv = s.grv := by
  unfold State.wrUnlessZero
  split <;> rfl

theorem grvLaneCtrlWrite_writes (s : State) (v : Nat) : Answers (.grvLaneCtrlWrite v) s (fun u =>
    u.rd BX_GRV_LANE_CTRL_EN = (if bits v 15 0 = 0 then s.rd BX_GRV_LANE_CTRL_EN else bits v 15 0) ∧
    u.rd BX_GRV_LANE_CTRL_BANK_EN = (if bits v 19 16 = 0 then s.rd BX_GRV_LANE_CTRL_BANK_EN else bits v 19 16) ∧ u.grv = s.grv) := by
  refine ⟨(s.wrUnlessZero BX_GRV_LANE_CTRL_EN (bits v 15 0)).wrUnlessZero BX_GRV_LANE_CTRL_BANK_EN (bits v 19 16), rfl, ?_, ?_, ?_⟩
  · rw [State.rd_wrUnlessZero_otherLo _ _ (by decide) (by decide) (by decide)]
    exact s.rd_wrUnlessZero_same BX_GRV_LANE_CTRL_EN (bits_lt v 15 0)
  · rw [State.rd_wrUnlessZero_same _ BX_GRV_LANE_CTRL_BANK_EN (bits_lt v 19 16),
      State.rd_wrUnlessZero_otherLo _ _ (by decide) (by decide) (by decide)]
  · rw [State.wrUnlessZero_grv, State.wrUnlessZero_grv]

/-- Settles O25: each request comes to one reply, formed after what it changes; the messages to peers and ZX40s leave the models, the bindings
and the threshold alone. -/
theorem groveModelsAreLoadedAndRead : Obligations.GroveModelsAreLoadedAndRead :=
  ⟨fun _ _ hc hl h0 hcheck => groveLoad_passes hc hl h0 hcheck,
    fun _ _ _ hc hl h0 hcheck => groveLoad_refuses hc hl h0 hcheck,
    fun _ _ hc hl h0 hsel hbound => groveUnload_empties hc hl h0 hsel hbound,
    fun _ _ _ hc hl hptr hslot => groveInfo_reads hc hl hptr hslot,
    fun _ _ _ _ hc hl hd h2 h3 hx => groveScoreRead_reads hc hl hd h2 h3 hx,
    fun _ _ _ hc hl hslot hok => groveGrsImage_reads hc hl hslot hok,
    fun _ _ _ _ hc hl hp hb hact => groveGrsRefresh_sends hc hl hp hb hact,
    fun _ _ hc hl h0 h1 h7 h2 h3 hsel => grovePeerBind_releases hc hl h0 h1 h7 h3 hsel h2,
    fun _ _ _ hc hl h0 h1 h7 h2 h3 hsel hslot => grovePeerBind_timesOut hc hl h0 h1 h7 h3 hsel h2 hslot,
    grvLaneCtrlWrite_writes⟩

end Sys2Proof.Machine
end

section
/-! SUPPORT. What messages, events, replies, tests and fences leave alone and leave behind of what the correlator and Lookout hold of a die (R290,
R294, R297, R381). -/

namespace Sys2Proof.Machine
open Sys2Proof

variable {s t : State}

/-! ### Messages, events and broadcasts (R379, R381, R470) -/

theorem Sends.cor (h : Sends s t) : t.cor = s.cor := congrArg (fun u => u.cor) h.rest
theorem Signals.cor (h : Signals s t) : t.cor = s.cor := congrArg (fun u => u.cor) h.rest
theorem Signals.ep (h : Signals s t) : t.ep = s.ep := congrArg (fun u => u.ep) h.rest

theorem State.corDie_congr (h : t.cor = s.cor) (d : Nat) : t.corDie d = s.corDie d := congrArg (fun x : Corr => x.dies.getD d {}) h

theorem State.die_congr (h : t.ep = s.ep) (d : Nat) : t.die d = s.die d := congrArg (fun x : Epochs => x.dies.getD d {}) h

theorem State.dieFenced_congr (h : t.ep = s.ep) (d : Nat) : t.dieFenced d = s.dieFenced d :=
  congrArg (fun x : DieId => x.fence.isSome) (State.die_congr h d)

theorem State.nextTick_congr (h : t.bxTb = s.bxTb) : t.nextTick = s.nextTick := congrArg (fun b : Timebase => (b.count + b.inc) / 4294967296) h

@[simp] theorem State.corDie_setCorDie (s : State) (d : Nat) (x : DieCorr) : (s.setCorDie d x).corDie d = x := SMap.getD_set_same _ _ _ _

/-- A broadcast takes the next BSEQ, and is otherwise a message. -/
theorem State.broadcastAlarm_sends (s : State) (sub : Nat) (p40 : Bytes) : Sends s.takeBseq.2 (s.broadcastAlarm sub p40) :=
  (Sends.refl _).foldl fun _ _ h => h.sendOn

/-! ### Replies (Tables 16-2 and 16-23) -/

/-- A state without what forming a reply changes: register fields and the replies formed. -/
def State.unreplied (s : State) : State := { s with regs := [], wdn := { s.wdn with replies := [] } }

/-- Between s before and t after, replies have been formed: nothing else has changed, and of the registers at most what counts refusals and
timeouts. -/
structure Replies (s t : State) : Prop where
  rest : t.unreplied = s.unreplied
  regs : RegsKept [.BX_WDN_CNT0, .BX_WDN_CNT1] s t

namespace Replies

theorem refl (s : State) : Replies s s := ⟨rfl, .refl _ s⟩

theorem ep (h : Replies s t) : t.ep = s.ep := congrArg (fun u => u.ep) h.rest
theorem cor (h : Replies s t) : t.cor = s.cor := congrArg (fun u => u.cor) h.rest
theorem bxTb (h : Replies s t) : t.bxTb = s.bxTb := congrArg (fun u => u.bxTb) h.rest

theorem branch {u : State} {c : Prop} [Decidable c] (ht : Replies s t) (hu : Replies s u) : Replies s (if c then t else u) := by
  split <;> assumption

theorem bump (h : Replies s t) {f i n} (hlo : f.lo < 64 := by decide) (hf : f.reg ∈ [Reg.BX_WDN_CNT0, .BX_WDN_CNT1] := by decide) :
    Replies s (t.bump f i n) := ⟨h.rest, h.regs.wr hlo hf⟩

theorem reply (h : Replies s t) {c op status res reason w} : Replies s (t.reply c op status res reason w) := by
  unfold State.reply
  extract_lets r s₁ s₂ s₃
  have h₁ : Replies s s₁ := .branch h.bump h
  have h₂ : Replies s s₂ := .branch h₁.bump h₁
  have h₃ : Replies s s₃ := .branch h₂.bump h₂
  exact ⟨h₃.rest, h₃.regs⟩

end Replies

/-! ### Reasons and tests (R290, R297) -/

/-- Of the reasons of a die those of a mask are cleared. -/
theorem State.clearReasons_testBit (s : State) (d mask : Nat) {r : Nat} (hr : r < 8) :
    ((s.clearReasons d mask).reasons d).testBit r = ((s.reasons d).testBit r && !mask.testBit r) := by
  have hkept : (s.clearReasons d mask).reasons d = ((s.reasons d &&& mask) ^^^ s.reasons d) % 2 ^ 8 := by
    unfold State.clearReasons
    dsimp only
    split
    · exact State.rd_wr_same _ _ _ _
    · exact (State.rd_wr_otherLo _ _ (by decide) (by decide) (by decide)).trans
        ((State.rd_wr_otherLo _ _ (by decide) (by decide) (by decide)).trans (State.rd_wr_same _ _ _ _))
  rw [hkept, Nat.testBit_mod_two_pow, Nat.testBit_xor, Nat.testBit_and, decide_eq_true hr]
  cases (s.reasons d).testBit r <;> cases mask.testBit r <;> rfl

theorem State.issueTest_keeps (s : State) (c : Settings) (d unit reason n pre : Nat) (bin : Option Nat) :
    (s.issueTest c d unit reason n pre bin).ep = s.ep ∧ (s.issueTest c d unit reason n pre bin).cor.groups = s.cor.groups := by
  unfold State.issueTest
  extract_lets id cor t deadline u x v w1 w2
  exact ⟨(Signals.refl v).post.ep, (congrArg Corr.groups (Signals.refl v).post.cor).trans rfl⟩

/-- A reason gained changes neither what is held of the epochs and of the dies' incarnations nor a barrier group. -/
theorem State.setReason_keeps (s : State) (d r n : Nat) : (s.setReason d r n).ep = s.ep ∧ (s.setReason d r n).cor.groups = s.cor.groups := by
  unfold State.setReason
  split
  · exact ⟨rfl, rfl⟩
  · exact State.testFor_of_issueTest (s := s.noteReason d r n (if r ≤ 4 then n else 0))
      (P := fun t => t.ep = s.ep ∧ t.cor.groups = s.cor.groups) ⟨rfl, rfl⟩ (fun _ _ _ _ _ _ _ => State.issueTest_keeps ..) d r n

/-! ### Fences (R294) -/

/-- Between s before and u after, die d has been fenced from the next tick of tclk on. -/
structure Fenced (s : State) (d cause : Nat) (u : State) : Prop where
  fence : (u.die d).fence = some s.nextTick
  cause : u.rd BX_LKO_DIE_CAUSE d = cause
  state : u.rd BX_LKO_DIE_STATE d = 2
  corr : u.corDie d = { s.corDie d with heardRun := 0 }
  regs : RegsKept (.BX_LKO_DIE :: signalRegs) s u

theorem State.fenceDie_fences {d cause : Nat} (hd : d ≠ 64) (hfence : s.dieFenced d = false) (hcause : cause < 8) :
    Fenced s d cause (s.fenceDie d cause) := by
  unfold State.fenceDie
  rw [if_neg hd, if_neg (by simp [hfence])]
  extract_lets f x fr t₁ cnp t₂ t₃ y t₄ t₅
  have hsent := State.broadcastAlarm_sends t₅ 0x20 (t₅.bxAlarm (fenceDetail false 0 cause) f (some d))
  have hsig : Signals t₄ t₅ := (Signals.refl t₄).signal
  have hregs : RegsKept signalRegs t₄ (t₅.broadcastAlarm 0x20 (t₅.bxAlarm (fenceDetail false 0 cause) f (some d))) :=
    hsig.regs.trans (hsent.regs.mono (by decide))
  refine ⟨?_, ?_, ?_, ?_, ?_⟩
  · rw [State.die_congr (hsent.ep.trans hsig.ep)]
    exact congrArg DieId.fence (s.die_setDie d _)
  · rw [hregs _ _ (by decide) (by decide)]
    change t₃.rd BX_LKO_DIE_CAUSE d = cause
    rw [State.rd_wr_otherLo _ _ (by decide) (by decide) (by decide), State.rd_wr_same]
    exact Nat.mod_eq_of_lt hcause
  · rw [hregs _ _ (by decide) (by decide)]
    change t₃.rd BX_LKO_DIE_STATE d = 2
    rw [State.rd_wr_otherLo _ _ (by decide) (by decide) (by decide), State.rd_wr_otherLo _ _ (by decide) (by decide) (by decide),
      State.rd_wr_same]
    rfl
  · rw [State.corDie_congr (hsent.cor.trans hsig.cor)]
    exact State.corDie_setCorDie _ _ _
  · have hwrites : RegsKept (.BX_LKO_DIE :: signalRegs) t₂ t₃ := .wr (.wr (.wr (.refl _ t₂)))
    exact hwrites.trans (hregs.mono (List.subset_cons_self _ _))

end Sys2Proof.Machine
end

section
/-! SUPPORT. Barrier digests, due epochs and lag returns of the correlator, and its reads (R279 to R283, R289, R290, Tables 10-11 and 10-11a). -/

namespace Sys2Proof.Machine
open Sys2Proof

/-! ### Digests and lag returns taken (R279, R283, R387) -/

theorem State.find?_of_groups {s : State} {home num : Nat} {x : GroupState}
    (hx : s.cor.groups.find? (fun (y : GroupState) => y.home = home && y.num = num) = some x) : x.home = home ∧ x.num = num := by
  simpa using List.find?_some hx

/-- A group with no due epoch does not advance. -/
theorem State.runGroup_of_no_due {s : State} {home num : Nat} {x : GroupState} (hgroups : s.cor.groups = [x]) (hhome : x.home = home)
    (hnum : x.num = num) (hdue : x.due = []) : s.runGroup home num = s := by
  have hnone : s.dueOf home num = 0 := by simp [State.dueOf, hgroups, hhome, hnum, hdue]
  unfold State.runGroup
  rw [hnone]
  rfl

theorem State.takeDigest_joins {s : State} {g : Digest} {x : GroupState} (hgroups : s.cor.groups = [x]) (hhome : x.home = g.home)
    (hnum : x.num = g.group) (hnew : x.digests.any (fun (y : Digest) => y.epoch = g.epoch ∧ y.agg = g.agg) = false) :
    s.takeDigest g = { s with cor := { s.cor with groups := [{ x with digests := x.digests ++ [g] }] } } := by
  unfold State.takeDigest
  rw [hgroups, List.map_singleton, if_pos ⟨hhome, hnum⟩, hnew]
  rfl

theorem digestReceive_joins {s : State} {q src m : Nat} {g : Digest} {x : GroupState} (hnew : (src, m) ∉ s.cnp.delivered)
    (hgroups : s.cor.groups = [x]) (hhome : x.home = g.home) (hnum : x.num = g.group) (hdue : x.due = [])
    (hdigest : x.digests.any (fun (y : Digest) => y.epoch = g.epoch ∧ y.agg = g.agg) = false) : Answers (.digestReceive q src m g) s (fun u =>
      u.cor.groups = [{ x with digests := x.digests ++ [g] }] ∧ (src, m) ∈ u.cnp.delivered) := by
  obtain ⟨t, ht, htake⟩ := (s.consume (.canopy q) 1 5).e2eTake_fresh hnew
  let v : State := { t with cnp := { t.cnp with delivered := t.cnp.delivered ++ [(src, m)] } }
  have hvgroups : v.cor.groups = [x] := (congrArg Corr.groups ht.cor).trans hgroups
  let y : GroupState := { x with digests := x.digests ++ [g] }
  let w : State := { v with cor := { v.cor with groups := [y] } }
  have hrun : (v.takeDigest g).runGroup g.home g.group = w := by
    rw [State.takeDigest_joins hvgroups hhome hnum hdigest]
    exact State.runGroup_of_no_due (s := w) (x := y) rfl hhome hnum hdue
  refine ⟨w, ?_, rfl, List.mem_append_right _ (List.mem_singleton_self _)⟩
  change execDigestReceive q src m g s = done w
  unfold execDigestReceive
  dsimp only
  rw [htake, ← hrun]
  rfl

theorem digestReceive_repeated {s : State} {q src m : Nat} (g : Digest) (hseen : (src, m) ∈ s.cnp.delivered) :
    Answers (.digestReceive q src m g) s (fun u => u.cor = s.cor ∧ u.red = s.red) := by
  have hack : Sends s ((s.consume (.canopy q) 1 5).sendE2eAck src m) := (Sends.refl s).consume.sendMsg
  refine ⟨_, ?_, hack.cor, hack.red⟩
  change execDigestReceive q src m g s = done _
  unfold execDigestReceive
  dsimp only
  rw [(s.consume (.canopy q) 1 5).e2eTake_seen hseen]
  rfl

theorem State.mirrorDie_corDie (s : State) (d k : Nat) : (s.mirrorDie d).corDie k = s.corDie k :=
  State.corDie_congr (Sends.refl s).mirror.cor k

theorem State.mirrorDie_groups (s : State) (d : Nat) : (s.mirrorDie d).cor.groups = s.cor.groups :=
  (congrArg Corr.groups (Sends.refl s).mirror.cor :)

/-- The values of a local die under its incarnation, or under none yet, are held as they came. -/
theorem State.takeLag_holds {s : State} {home group n a : Nat} {v : LagVal} (ha : a / 64 = s.agg)
    (hinc : v.inc = 0 ∨ v.inc = (s.die (a % 64)).cur) :
    (∃ y ∈ ((s.takeLag home group n a v false).corDie (a % 64)).lag, y = ⟨home, group, n, v⟩) ∧
      (s.takeLag home group n a v false).cnp.delivered = s.cnp.delivered := by
  have hcurrent : (v.inc ≠ 0 && v.inc ≠ (s.die (a % 64)).cur) = false := by rcases hinc with h | h <;> simp [h]
  unfold State.takeLag
  rw [if_pos ha]
  dsimp only
  rw [hcurrent, if_neg (by simp)]
  refine ⟨?_, (Sends.refl _).mirror.delivered⟩
  rw [State.mirrorDie_corDie]
  change ∃ y ∈ ((s.setCorDie (a % 64) _).corDie (a % 64)).lag, _
  rw [State.corDie_setCorDie]
  exact ⟨_, List.mem_append_right _ (List.mem_singleton_self _), rfl⟩

theorem lagReturnReceive_holds {s : State} {q src m home group n a : Nat} {v : LagVal} (hnew : (src, m) ∉ s.cnp.delivered)
    (ha : a / 64 = s.agg) (hinc : v.inc = 0 ∨ v.inc = (s.die (a % 64)).cur) :
    Answers (.lagReturnReceive q src m home group n [(a, v, false)]) s (fun u =>
      (∃ y ∈ (u.corDie (a % 64)).lag, y = ⟨home, group, n, v⟩) ∧ (src, m) ∈ u.cnp.delivered) := by
  obtain ⟨t, ht, htake⟩ := (s.consume (.canopy q) 1 6).e2eTake_fresh hnew
  let w : State := { t with cnp := { t.cnp with delivered := t.cnp.delivered ++ [(src, m)] } }
  have hagg : w.agg = s.agg := ht.rd
  have hdie : w.die (a % 64) = s.die (a % 64) := ht.die _
  obtain ⟨hheld, hdelivered⟩ := State.takeLag_holds (s := w) (home := home) (group := group) (n := n) (ha.trans hagg.symm) (hdie ▸ hinc)
  refine ⟨w.takeLag home group n a v false, ?_, hheld, ?_⟩
  · change execLagReturnReceive q src m home group n [(a, v, false)] s = done _
    unfold execLagReturnReceive
    dsimp only
    rw [htake]
    rfl
  · rw [hdelivered]
    exact List.mem_append_right _ (List.mem_singleton_self _)

/-! ### Due epochs (R279, R289) -/

/-- The epochs due at a group held here. -/
def State.dueAt (s : State) (home num : Nat) : Option (List (Nat × Nat)) :=
  (s.cor.groups.find? (fun (y : GroupState) => y.home = home && y.num = num)).map (fun y => y.due)

theorem State.dueAt_congr {s t : State} (h : t.cor.groups = s.cor.groups) (home num : Nat) : t.dueAt home num = s.dueAt home num := by
  unfold State.dueAt
  rw [h]

/-- A group set by its home and number is found by them. -/
theorem State.dueAt_setGroup {s : State} {home num : Nat} {x y : GroupState}
    (hx : s.cor.groups.find? (fun (y : GroupState) => y.home = home && y.num = num) = some x) (hhome : y.home = home) (hnum : y.num = num) :
    (s.setGroup y).dueAt home num = some y.due := by
  obtain ⟨hxhome, hxnum⟩ := State.find?_of_groups hx
  subst hhome hnum
  have hsame : ((fun z : GroupState => z.home = y.home && z.num = y.num) ∘ fun z => if z.home = y.home ∧ z.num = y.num then y else z) =
      fun z : GroupState => decide (z.home = y.home) && decide (z.num = y.num) := by
    funext z
    by_cases h : z.home = y.home ∧ z.num = y.num <;> simp [h]
  unfold State.dueAt State.setGroup
  dsimp only
  rw [List.find?_map, hsame, hx, Option.map_some, if_pos ⟨hxhome, hxnum⟩, Option.map_some]

theorem State.takeLag_regsKept (s : State) (home group n a : Nat) (v : LagVal) (hit : Bool) :
    RegsKept reasonRegs s (s.takeLag home group n a v hit) := by
  unfold State.takeLag
  split
  · extract_lets d x stale y keep t gs u
    have hu : RegsKept reasonRegs s u := (RegsKept.refl reasonRegs s).wr (f := BX_COR_DIE_MARK_LAG)
    have hmarked : RegsKept reasonRegs s (if hit = true ∧ ¬ stale = true then u.setReason d 1 n else u) := by
      split
      · exact hu.trans (u.setReason_regsKept d 1 n)
      · exact hu
    exact hmarked.trans ((Sends.refl _).mirror.regs.mono (by decide))
  · split
    · exact .refl _ s
    · exact .refl _ s

theorem State.takeLag_dueAt (s : State) (home num n a : Nat) (v : LagVal) (hit : Bool) :
    (s.takeLag home num n a v hit).dueAt home num = s.dueAt home num := by
  unfold State.takeLag
  split
  · extract_lets d x stale y keep t gs u
    refine State.dueAt_congr ?_ home num
    rw [State.mirrorDie_groups]
    split
    · exact (u.setReason_keeps d 1 n).2
    · rfl
  · split
    · next x hx =>
      obtain ⟨hhome, hnum⟩ := State.find?_of_groups hx
      refine (State.dueAt_setGroup hx ?_ ?_).trans (congrArg (Option.map fun y : GroupState => y.due) hx).symm
      · exact hhome
      · exact hnum
    · rfl

/-- The return of a group's values changes neither its due epochs nor what is counted of barrier groups. -/
theorem State.sendLag_keeps (s : State) (home num n : Nat) (vals : List (Nat × LagVal × Bool)) :
    RegsKept reasonRegs s (s.sendLag home num n vals) ∧ (s.sendLag home num n vals).dueAt home num = s.dueAt home num := by
  let kept (t : State) : Prop := RegsKept reasonRegs s t ∧ t.dueAt home num = s.dueAt home num
  refine List.foldlRecOn (motive := kept) _ _ ⟨.refl _ s, rfl⟩ fun t ht a _ => ?_
  dsimp only
  split
  · refine List.foldlRecOn (motive := kept) _ _ ht fun u hu w _ => ?_
    obtain ⟨hregs, hdue⟩ := hu
    exact ⟨hregs.trans (u.takeLag_regsKept home num n w.1 w.2.1 w.2.2), (u.takeLag_dueAt ..).trans hdue⟩
  · obtain ⟨hregs, hdue⟩ := ht
    have hsent (body : Bytes) : Sends t (t.sendMsg 1 6 6 a body (some n) true) := (Sends.refl t).sendMsg
    exact ⟨hregs.trans ((hsent _).regs.mono (by decide)), (State.dueAt_congr (congrArg Corr.groups (hsent _).cor) home num).trans hdue⟩

section
variable {s : State} {home num n t : Nat} {x : GroupState} {g : BarGroup}
  (hx : s.cor.groups.find? (fun (y : GroupState) => y.home = home && y.num = num) = some x) (hdue : x.due = [(n, t)])
include hx hdue

/-- A skipped epoch is counted and due no longer. -/
theorem State.skipEpoch_skips (g : BarGroup) : s.counted (s.skipEpoch x g n) BX_COR_CNT0_SKIPPED 0 1 ∧
    (s.skipEpoch x g n).dueAt home num = some [] := by
  obtain ⟨rfl, rfl⟩ := State.find?_of_groups hx
  unfold State.skipEpoch
  extract_lets u entered y
  have hsent : Sends (u.setGroup y) ((u.setGroup y).mirror (.group y)).2 := (Sends.refl _).mirror
  obtain ⟨hregs, hkept⟩ := ((u.setGroup y).mirror (.group y)).2.sendLag_keeps y.home y.num n (y.members.map fun m => (m.1, m.2, false))
  constructor
  · refine Eq.trans ?_ (s.counted_bump BX_COR_CNT0_SKIPPED 0 1)
    rw [hregs _ _ (by decide) (by decide), hsent.rd]
    rfl
  · calc
      _ = ((u.setGroup y).mirror (.group y)).2.dueAt y.home y.num := hkept
      _ = (u.setGroup y).dueAt y.home y.num := State.dueAt_congr (congrArg Corr.groups hsent.cor) _ _
      _ = some y.due := State.dueAt_setGroup (s := u) hx rfl rfl
      _ = some [] := by simp [y, hdue]

variable (hg : (s.cfgOf n).group? home num = some g)
include hg

/-- The one due epoch of a group is skipped once overdue, else processed with its digests, else it waits. -/
theorem State.runGroup_of_one_due : s.runGroup home num =
    if t + s.rd BX_COR_CTRL_BAR_WAIT_US * 1000 ≤ s.bxNs then s.skipEpoch x g n
    else if digestsHeld x g n then s.processEpoch x g n else s := by
  have hone : s.dueOf home num = 1 := by simp [State.dueOf, hx, hdue]
  unfold State.runGroup
  rw [hone]
  unfold State.advanceGroup
  rw [hx]
  dsimp only
  rw [hdue]
  dsimp only
  rw [hg]
  rfl

theorem barWaitExpiry_skips (hlate : t + s.rd BX_COR_CTRL_BAR_WAIT_US * 1000 ≤ s.bxNs) : Answers (.barWaitExpiry home num) s (fun u =>
    s.counted u BX_COR_CNT0_SKIPPED 0 1 ∧ (u.cor.groups.find? (fun (y : GroupState) => y.home = home && y.num = num)).map (fun y => y.due) =
      some []) :=
  ⟨s.skipEpoch x g n, congrArg done ((State.runGroup_of_one_due hx hdue hg).trans (if_pos hlate)), State.skipEpoch_skips hx hdue g⟩

theorem barWaitExpiry_waits (hearly : s.bxNs < t + s.rd BX_COR_CTRL_BAR_WAIT_US * 1000) (hmissing : digestsHeld x g n = false) :
    Answers (.barWaitExpiry home num) s (fun u => u = s) := by
  refine ⟨s, congrArg done ((State.runGroup_of_one_due hx hdue hg).trans ?_), rfl⟩
  rw [if_neg (Nat.not_le.mpr hearly), hmissing]
  rfl

end

/-! ### Reads and clears (Tables 10-11 and 10-11a) -/

section
variable {s : State} {c : Cap} (hc : c.isOp = true)
include hc

/-- The operator's results that can exceed 48 bytes are written at REPLY_PTR, the byte count in R0 (R460). -/
theorem State.replyBlob_of_isOp (op status : Nat) (b : Bytes) :
    s.replyBlob c op status b = s.reply c op status [b.length] 0 (some (c.replyPtr, b)) := by
  unfold State.replyBlob
  rw [Cap.isMctp_of_isOp hc]
  rfl

theorem State.dieOp_of_local {op n d : Nat} (hl : n ≤ c.params.length) (hd : s.localDie? (c.p 0) = some d) (f : Nat → State → State) :
    s.dieOp c op n f = f d s := by
  unfold State.dieOp
  rw [s.checked_of_allowed hc hl, hd]

theorem State.replyBlob_writes (op : Nat) (b : Bytes) : (s.replyBlob c op S_OK b).answered c op S_OK ∧ (s.replyBlob c op S_OK b).wrote c b ∧
    s.onlyReply (s.replyBlob c op S_OK b) := by
  rw [State.replyBlob_of_isOp hc]
  refine ⟨?_, s.reply_wrote .., s.reply_onlyReply c op (by decide) _ _ _⟩
  have hreplied := s.reply_replied c op S_OK [b.length] 0 (some (c.replyPtr, b))
  unfold State.answered
  rw [hreplied]
  rfl

theorem lagRead_group {x : GroupState} {g : BarGroup} (hl : 3 ≤ c.params.length) (hptr : c.noPtr = false) (h0 : c.p 0 = 0)
    (hx : s.cor.groups.find? (fun (y : GroupState) => y.home = c.p 1 && y.num = c.p 2) = some x) (hg : s.cfg.group? (c.p 1) (c.p 2) = some g) :
    Answers (.lagRead c) s (fun u => u.answered c 0x0221 S_OK ∧
      u.wrote c ((x.enter g).members.flatMap (fun m => lagEntryBytes m.1 x.home x.num m.2)) ∧ s.onlyReply u) := by
  refine ⟨_, ?_, State.replyBlob_writes hc 0x0221 _⟩
  change execLagRead c s = done _
  unfold execLagRead
  rw [s.checkedPtr_of_allowed hc (by rw [if_pos h0]; exact hl) hptr, if_pos h0, hx, hg]

theorem lagRead_die {d : Nat} (hl : 2 ≤ c.params.length) (hptr : c.noPtr = false) (h0 : c.p 0 = 1) (hd : s.localDie? (c.p 1) = some d) :
    Answers (.lagRead c) s (fun u => u.answered c 0x0221 S_OK ∧ (u.wrote c ((sortBy (fun a b => a.home < b.home ∨ a.home = b.home ∧ a.num ≤
      b.num) (if d = 64 then [] else s.cfg.groupsOf (s.dieAddr d))).flatMap (fun g => lagEntryBytes (s.dieAddr d) g.home g.num ((s.corDie
      d).lagAt none g)))) ∧ s.onlyReply u) := by
  have h0' : ¬ c.p 0 = 0 := by omega
  refine ⟨_, ?_, State.replyBlob_writes hc 0x0221 _⟩
  change execLagRead c s = done _
  unfold execLagRead
  rw [s.checkedPtr_of_allowed hc (by rw [if_neg h0']; exact hl) hptr, if_neg h0', if_pos h0, hd]

variable {d : Nat} (hd : s.localDie? (c.p 0) = some d)
include hd

theorem driftRead_reads (hl : 3 ≤ c.params.length) (hchan : c.p 1 ≤ 15) : Answers (.driftRead c) s (fun u => u.replied c 0x0222 S_OK [4096] ∧
    u.wdn.replies.getLast?.bind (fun r => r.hostWrite) = some (c.p 2, wordBytes ((List.range 512).map (fun i => packFields [(32, 16, (((s.corDie
      d).drift.getD (c.p 1) []).getD i (0, 0)).1), (0, 32, (((s.corDie d).drift.getD (c.p 1) []).getD i (0, 0)).2)]))) ∧ s.onlyReply u) := by
  refine ⟨_, ?_, s.reply_replied c 0x0222 S_OK [4096] 0 _, s.reply_hostWrite .., s.reply_onlyReply c 0x0222 (by decide) _ _ _⟩
  change execDriftRead c s = done _
  unfold execDriftRead
  rw [State.dieOp_of_local hc hl hd, if_neg (Nat.not_lt.mpr hchan)]

theorem suspectClear_clears (hl : 2 ≤ c.params.length) (hidle : s.rd BX_COR_DIE_MARK_TSTATE d ≠ 2) : Answers (.suspectClear c) s (fun u =>
    u.replied c 0x0224 S_OK [] ∧ (∀ r < 8, (u.reasons d).testBit r = ((s.reasons d).testBit r && !((c.p 1).testBit r)))) := by
  refine ⟨(s.clearReasons d (c.p 1 % 256)).reply c 0x0224 S_OK, ?_, State.reply_replied .., fun r hr => ?_⟩
  · change execSuspectClear c s = done _
    unfold execSuspectClear
    rw [State.dieOp_of_local hc hl hd, if_neg hidle]
  · have hmask : (c.p 1 % 256).testBit r = (c.p 1).testBit r := by
      rw [show 256 = 2 ^ 8 from rfl, Nat.testBit_mod_two_pow, decide_eq_true hr, Bool.true_and]
    have hkept : ((s.clearReasons d (c.p 1 % 256)).reply c 0x0224 S_OK).reasons d = (s.clearReasons d (c.p 1 % 256)).reasons d :=
      State.rd_reply _ c _ (by decide) [] _ _
    rw [hkept, s.clearReasons_testBit d _ hr, hmask]

end

/-- Settles O27: a group keeps what is due of it while its values are returned, so an expiry counts and removes the one epoch it skips; the
reads come to one reply. -/
theorem correlatorTakesDigestsAndReads : Obligations.CorrelatorTakesDigestsAndReads :=
  ⟨fun _ _ _ _ _ _ hnew hgroups hhome hnum hdue hdigest => digestReceive_joins hnew hgroups hhome hnum hdue hdigest,
    fun _ _ _ _ g hseen => digestReceive_repeated g hseen,
    fun _ _ _ _ _ _ _ hx hdue hg hlate => barWaitExpiry_skips hx hdue hg hlate,
    fun _ _ _ _ _ _ _ hx hdue hg hearly hmissing => barWaitExpiry_waits hx hdue hg hearly hmissing,
    fun _ _ _ _ _ _ _ _ _ hnew ha hinc => lagReturnReceive_holds hnew ha hinc,
    fun _ _ _ _ hc hl hptr h0 hx hg => lagRead_group hc hl hptr h0 hx hg,
    fun _ _ _ hc hl hptr h0 hd => lagRead_die hc hl hptr h0 hd,
    fun _ _ _ hc hl hd hchan => driftRead_reads hc hd hl hchan,
    fun _ _ _ hc hl hd => answers_reply (by decide) (congrArg done (State.dieOp_of_local hc hl hd _)),
    fun _ _ _ hc hl hd hidle => suspectClear_clears hc hd hl hidle,
    fun _ _ _ hc hl hd => answers_reply (by decide) (congrArg done (State.dieOp_of_local hc hl hd _))⟩

end Sys2Proof.Machine
end

section
/-! SUPPORT. Lookout's probes, its fences and the readmission of a die (R293 to R296, R405, Table 10-11). -/

namespace Sys2Proof.Machine
open Sys2Proof

/-! ### Probes (R293, R296) -/

/-- The probe that runs of a die, or none, set. -/
def State.setProbe (s : State) (d : Nat) (o : Option Probe) : State := s.setCorDie d { s.corDie d with probe := o }

@[simp] theorem State.probe_setProbe (s : State) (d : Nat) (o : Option Probe) : ((s.setProbe d o).corDie d).probe = o :=
  congrArg DieCorr.probe (s.corDie_setCorDie d _)

/-- A send is the command LOOKOUT_PROBE without a capsule that its reply answers, and the probe that runs of its die. -/
theorem State.sendProbe_sends (s : State) (d tries : Nat) (origins : List (Nat × Cap)) :
    ∃ t tag, Sends s t ∧ s.sendProbe d tries origins = t.setProbe d (some ⟨tries, s.bxNs, tag, origins⟩) ∧
      ∃ x ∈ (t.zxPort d).waiting ++ (t.zxPort d).out, x.op = 0x0623 ∧ x.origin = none := by
  have hsent : Sends s (s.zxSend d 0x0623 [] none) := (Sends.refl s).zxSend
  have hns : (s.zxSend d 0x0623 [] none).bxNs = s.bxNs := congrArg Timebase.ns hsent.bxTb
  obtain ⟨m, hm, hop, -, horigin⟩ := s.zxSend_joins d 0x0623 [] none
  refine ⟨_, (s.zxPort d).nextTag, hsent, ?_, m, hm, hop, horigin⟩
  unfold State.sendProbe State.setProbe
  dsimp only
  rw [hns]

/-- A state in which no probe of a die runs. -/
def State.dropProbe (s : State) (d : Nat) : State := (s.wr BX_LKO_DIE_PROBING d 0).setProbe d none

@[simp] theorem State.probe_dropProbe (s : State) (d : Nat) : ((s.dropProbe d).corDie d).probe = none := State.probe_setProbe _ _ _

theorem State.rd_dropProbe_probing (s : State) (d : Nat) : (s.dropProbe d).rd BX_LKO_DIE_PROBING d = 0 := s.rd_wr_same BX_LKO_DIE_PROBING d 0

/-- A probe ended is none, and its capsules are answered. -/
theorem State.endProbe_ends {s : State} {d : Nat} {p : Probe} (hp : (s.corDie d).probe = some p) (alive : Bool) :
    Replies (s.dropProbe d) (s.endProbe d alive) := by
  unfold State.endProbe
  rw [hp]
  dsimp only
  refine List.foldlRecOn (motive := Replies _) _ _ (.refl _) fun t ht o _ => ?_
  exact .branch ht.reply ht.reply

section
variable {s : State} {d : Nat} {p : Probe} (hp : (s.corDie d).probe = some p)
include hp

theorem probeRetryTimeout_sendsAgain (hlate : p.at_ + max 1 (s.cfg.fld BX_LKO_CFG_PROBE_US 0) * 1000 ≤ s.bxNs)
    (htries : p.tries < max 1 (s.cfg.fld BX_LKO_CFG_PROBE_TRIES 0)) : Answers (.probeRetryTimeout d) s (fun u =>
      (u.corDie d).probe.map (fun x => (x.tries, x.at_, x.origins)) = some (p.tries + 1, s.bxNs, p.origins) ∧
      (∃ x ∈ (u.zxPort d).waiting ++ (u.zxPort d).out, x.op = 0x0623 ∧ x.origin = none)) := by
  obtain ⟨t, tag, -, hprobe, hjoins⟩ := s.sendProbe_sends d (p.tries + 1) p.origins
  refine ⟨t.setProbe d (some ⟨p.tries + 1, s.bxNs, tag, p.origins⟩), ?_, by rw [State.probe_setProbe]; rfl, hjoins⟩
  · change execProbeRetryTimeout d s = done _
    unfold execProbeRetryTimeout
    rw [hp]
    dsimp only
    rw [if_neg (Nat.not_lt.mpr hlate), if_pos htries, hprobe]

theorem probeRetryTimeout_fences (hd : d < 64) (hfence : s.dieFenced d = false)
    (hlate : p.at_ + max 1 (s.cfg.fld BX_LKO_CFG_PROBE_US 0) * 1000 ≤ s.bxNs)
    (htries : max 1 (s.cfg.fld BX_LKO_CFG_PROBE_TRIES 0) ≤ p.tries) : Answers (.probeRetryTimeout d) s (fun u =>
      (u.corDie d).probe = none ∧ s.counted u BX_COR_CNT1_PROBE_FAILS 0 1 ∧ (u.die d).fence = some s.nextTick ∧ u.rd BX_LKO_DIE_CAUSE d = 2 ∧
      u.rd BX_LKO_DIE_STATE d = 2) := by
  let v := s.bump BX_COR_CNT1_PROBE_FAILS
  have hends : Replies (v.dropProbe d) (v.endProbe d false) := State.endProbe_ends (s := v) hp false
  have hfenced : Fenced (v.endProbe d false) d 2 ((v.endProbe d false).fenceDie d 2) :=
    State.fenceDie_fences (by omega) ((State.dieFenced_congr (s := s) hends.ep d).trans hfence) (by decide)
  refine ⟨(v.endProbe d false).fenceDie d 2, ?_, ?_, ?_, ?_, hfenced.cause, hfenced.state⟩
  · change execProbeRetryTimeout d s = done _
    unfold execProbeRetryTimeout
    rw [hp]
    dsimp only
    rw [if_neg (Nat.not_lt.mpr hlate), if_neg (Nat.not_lt.mpr htries)]
  · rw [hfenced.corr]
    change ((v.endProbe d false).corDie d).probe = none
    rw [State.corDie_congr hends.cor, State.probe_dropProbe]
  · refine Eq.trans ?_ (s.counted_bump BX_COR_CNT1_PROBE_FAILS 0 1)
    rw [hfenced.regs _ _ (by decide) (by decide), hends.regs _ _ (by decide) (by decide)]
    exact v.rd_wr_otherReg (f := BX_LKO_DIE_PROBING) (g := BX_COR_CNT1_PROBE_FAILS) (i := d) (j := 0) 0 (by decide) (by decide) (by decide)
  · rw [hfenced.fence, State.nextTick_congr hends.bxTb]
    rfl

theorem probeReplyReceive_answers {c : Cap} (horigins : p.origins = [(0x0623, c)]) : Answers (.probeReplyReceive d S_OK) s (fun u =>
    (u.corDie d).probe = none ∧ u.replied c 0x0623 S_OK [] ∧ u.rd BX_LKO_DIE_PROBING d = 0) := by
  let z := s.zxPort d
  let v := (s.consume (.stem d) 4 1).setZxPort d { z with out := z.out.filter (fun (m : ZxCmd) => ¬ (m.op = 0x0623 ∧ m.origin = none)) }
  let t := v.dropProbe d
  have hends : v.endProbe d true = t.reply c 0x0623 S_OK := by
    unfold State.endProbe
    rw [show (v.corDie d).probe = some p from hp]
    dsimp only
    rw [horigins]
    rfl
  have hreply : Replies t (t.reply c 0x0623 S_OK) := (Replies.refl t).reply
  have hissue : Sends (t.reply c 0x0623 S_OK) ((t.reply c 0x0623 S_OK).issueZx d) := (Sends.refl _).issueZx
  refine ⟨(t.reply c 0x0623 S_OK).issueZx d, ?_, ?_, ?_, ?_⟩
  · rw [← hends]
    rfl
  · rw [State.corDie_congr (hissue.cor.trans hreply.cor), State.probe_dropProbe]
  · unfold State.replied State.lastReply
    rw [State.issueZx_replies]
    exact t.reply_replied c 0x0623 S_OK [] 0 none
  · rw [hissue.rd, hreply.regs _ _ (by decide) (by decide)]
    exact v.rd_dropProbe_probing d

end

section
variable {s : State} {c : Cap} {d : Nat} (hc : c.isOp = true) (hl : 1 ≤ c.params.length) (hd : s.localDie? (c.p 0) = some d)
include hc hl hd

theorem lookoutReport_probes (hagg : bits (c.p 0) 17 6 = s.agg) (hfence : s.dieFenced d = false) (hidle : (s.corDie d).probe = none) :
    Answers (.lookoutReport c) s (fun u => (u.corDie d).probe.map (fun x => (x.tries, x.origins)) = some (1, [(0x0620, c)]) ∧
      u.rd BX_LKO_DIE_PROBING d = 1) := by
  obtain ⟨t, tag, hsent, hprobe, -⟩ := (s.wr BX_LKO_DIE_PROBING d 1).sendProbe_sends d 1 [(0x0620, c)]
  refine ⟨t.setProbe d (some ⟨1, s.bxNs, tag, [(0x0620, c)]⟩), ?_, by rw [State.probe_setProbe]; rfl, ?_⟩
  · change execLookoutReport c s = done _
    unfold execLookoutReport
    rw [s.checked_of_allowed (by rw [hc]; rfl) hl, if_neg (fun h => h.1 hagg), hd]
    dsimp only
    rw [if_neg (fun h => h.1 (Cap.tenant_of_isOp hc)), if_neg (by simp [hfence])]
    unfold State.startProbe
    rw [hidle]
    exact congrArg done hprobe
  · exact hsent.rd.trans (State.rd_wr_same _ _ _ _)

theorem lookoutProbe_joins {p : Probe} (hp : (s.corDie d).probe = some p) : Answers (.lookoutProbe c) s (fun u =>
    (u.corDie d).probe = some { p with origins := p.origins ++ [(0x0623, c)] } ∧ u.wdn = s.wdn) := by
  refine ⟨s.setProbe d (some { p with origins := p.origins ++ [(0x0623, c)] }), ?_, State.probe_setProbe .., rfl⟩
  change execLookoutProbe c s = done _
  unfold execLookoutProbe
  rw [if_neg (by simp [Cap.isInternal_of_isOp hc]), State.dieOp_of_local hc hl hd]
  unfold State.startProbe
  rw [hp]
  rfl

/-! ### Fences (R294, R405) -/

theorem dieFence_fences (hlt : d < 64) (hfence : s.dieFenced d = false) : Answers (.dieFence c) s (fun u =>
    u.replied c 0x0624 S_OK [s.nextTick] ∧ (u.die d).fence = some s.nextTick ∧ u.rd BX_LKO_DIE_CAUSE d = 4 ∧ u.rd BX_LKO_DIE_STATE d = 2) := by
  have hfenced : Fenced s d 4 (s.fenceDie d 4) := State.fenceDie_fences (by omega) hfence (by decide)
  have hrd (f : Fld) : ((s.fenceDie d 4).reply c 0x0624 S_OK [s.nextTick]).rd f d = (s.fenceDie d 4).rd f d :=
    State.rd_reply _ c _ (by decide) _ f d
  refine ⟨(s.fenceDie d 4).reply c 0x0624 S_OK [s.nextTick], ?_, State.reply_replied .., ?_, (hrd _).trans hfenced.cause,
    (hrd _).trans hfenced.state⟩
  · change execDieFence c s = done _
    unfold execDieFence
    rw [State.dieOp_of_local hc hl hd, if_neg (by omega), if_neg (by simp [hfence])]
    dsimp only
    rw [hfenced.fence]
    rfl
  · rw [State.die_congr (State.reply_ep ..)]
    exact hfenced.fence

theorem dieFence_fenced (hlt : d < 64) (hfence : s.dieFenced d = true) : Answers (.dieFence c) s (fun u =>
    u.replied c 0x0624 S_FENCED [] ∧ s.onlyReply u) := by
  refine answers_reply (by decide) ?_
  change execDieFence c s = _
  unfold execDieFence
  rw [State.dieOp_of_local hc hl hd, if_neg (by omega), if_pos hfence]

/-! ### Readmission (R295) -/

theorem lookoutAdmit_notFenced (hfence : s.dieFenced d = false) : Answers (.lookoutAdmit c) s (fun u =>
    u.replied c 0x0621 S_CONFLICT [] ∧ s.onlyReply u) := by
  refine answers_reply (by decide) ?_
  change execLookoutAdmit c s = _
  unfold execLookoutAdmit
  rw [State.dieOp_of_local hc hl hd, if_pos (.inl (by simp [hfence]))]

end

theorem State.sendRun_unfence (s : State) (p : Nat) : ((s.sendRun p).die p).unfence = (s.die p).unfence := by
  unfold State.sendRun
  split
  · unfold State.resendGen
    split
    · rfl
    · next g _ =>
      extract_lets m t v d
      have hd : d = s.die p := (Sends.refl s).stageZx.zxInternal.die p
      rw [State.die_setDie, hd]
  · rw [(Sends.refl s).refreshGrs.die]

theorem State.clearReasons_ep (s : State) (d mask : Nat) : (s.clearReasons d mask).ep = s.ep := by
  unfold State.clearReasons
  dsimp only
  split
  · rfl
  · rfl

/-- The state of a die starts over in the registers and the correlator alone. -/
theorem State.resetCorr_ep (s : State) (d : Nat) : (s.resetCorr d).ep = s.ep := s.clearReasons_ep d 0xFF

/-- A die readmitted has its next incarnation, and a fence that lifts at the first epoch that R407 allows. -/
theorem State.readmit_readmits {s : State} {d : Nat} (hdue : s.ep.restoreDue = false) :
    ((s.readmit d).die d).cur = (s.die d).next ∧ ((s.readmit d).die d).unfence = some s.liftEpoch := by
  obtain ⟨hcur, -⟩ := State.assignInc_incs (s := s.resetCorr d) (by rw [s.resetCorr_ep]; exact hdue) d
  unfold State.readmit
  extract_lets m cause addr t x u cnp v w y
  have hu : u.die d = { t.die d with unfence := some m } := t.die_setDie d _
  have hw : w.ep = u.ep := by
    dsimp only [w]
    split
    · exact (v.setReason_keeps ..).1
    · rfl
  have hsent := y.broadcastAlarm_sends 0x21 (y.bxAlarm (fenceDetail false 0 cause) ((y.schedOf m).open_ m) (some d))
  obtain ⟨hycur, -⟩ := w.sendRun_incs d
  rw [State.die_congr (s := y) hsent.ep, hycur, w.sendRun_unfence d, State.die_congr hw, hu]
  exact ⟨hcur.trans (congrArg DieId.next (State.die_congr (s.resetCorr_ep d) d)), rfl⟩

theorem lookoutAdmit_readmits {s : State} {c : Cap} {d : Nat} (hc : c.isOp = true) (hl : 1 ≤ c.params.length)
    (hd : s.localDie? (c.p 0) = some d) (hfence : s.dieFenced d = true) (hlift : (s.die d).unfence = none)
    (hheard : s.rd BX_LKO_DIE_HEARD_RUN d ≠ 0) (hdue : s.ep.restoreDue = false) : Answers (.lookoutAdmit c) s (fun u =>
      u.replied c 0x0621 S_OK [] ∧ (u.die d).cur = (s.die d).next ∧ (u.die d).unfence = some s.liftEpoch) := by
  refine ⟨(s.readmit d).reply c 0x0621 S_OK, ?_, State.reply_replied .., ?_⟩
  · change execLookoutAdmit c s = done _
    unfold execLookoutAdmit
    rw [State.dieOp_of_local hc hl hd, if_neg (by simp [hfence, hlift]), if_neg hheard]
  · rw [State.die_congr (State.reply_ep ..)]
    exact State.readmit_readmits hdue

/-- A ZX40 answers the probe at its head. -/
theorem lookoutProbe_answers {s : State} {c : Cap} (hc : c.isInternal = true) (hhead : s.zx.caps.head? = some (0x0623, c)) :
    Answers (.lookoutProbe c) s (fun u => u.zxReplied c 0x0623 S_OK []) := by
  refine ⟨_, ?_, s.zxReply_replied c 0x0623 S_OK [] 0⟩
  change execLookoutProbe c s = done _
  unfold execLookoutProbe
  rw [if_pos hc, if_pos (show s.zxNext c 0x0623 = true from decide_eq_true hhead)]

/-- Settles O28: a probe ended changes no more than its die and the replies, and what follows a fence or a readmission leaves the die's fence and
incarnation alone. -/
theorem lookoutProbesFencesAndReadmits : Obligations.LookoutProbesFencesAndReadmits :=
  ⟨fun _ _ _ hp hlate htries => probeRetryTimeout_sendsAgain hp hlate htries,
    fun _ _ _ hd hfence hp hlate htries => probeRetryTimeout_fences hp hd hfence hlate htries,
    fun _ _ _ _ hp horigins => probeReplyReceive_answers hp horigins,
    fun _ _ _ hc hl hd hagg _ hfence hidle => lookoutReport_probes hc hl hd hagg hfence hidle,
    fun _ _ _ _ hc hl hd hp => lookoutProbe_joins hc hl hd hp,
    fun _ _ hc hhead => lookoutProbe_answers hc hhead,
    fun _ _ _ hc hl hd hlt hfence => dieFence_fences hc hl hd hlt hfence,
    fun _ _ _ hc hl hd hlt hfence => dieFence_fenced hc hl hd hlt hfence,
    fun _ _ _ hc hl hd hfence hlift hheard hdue => lookoutAdmit_readmits hc hl hd hfence hlift hheard hdue,
    fun _ _ _ hc hl hd hfence => lookoutAdmit_notFenced hc hl hd hfence⟩

end Sys2Proof.Machine
end

section
/-! SUPPORT. In-field tests of a die (R297 to R300, Tables 10-7 and 10-11). -/

namespace Sys2Proof.Machine
open Sys2Proof

variable {s : State} {d : Nat}

/-! ### A test issued (R297) -/

theorem State.testDie?_lt {id : Nat} (hd : s.testDie? id = some d) : d < 64 := List.mem_range.mp (List.mem_of_find?_eq_some hd)

/-- Between s before and u after, a test has been issued for a die. -/
structure TestIssued (s : State) (d unit : Nat) (u : State) : Prop where
  id : u.rd BX_COR_DIE_MARK_TEST_ID d = (s.cor.testId + 1) % 65536
  state : u.rd BX_COR_DIE_MARK_TSTATE d = 1
  unit : u.rd BX_COR_DIE_MARK_UNIT d = unit
  tests : s.counted u BX_COR_CNT1_TESTS 0 1

theorem State.issueTest_issues (s : State) (c : Settings) (d : Nat) {unit : Nat} (hunit : unit ≤ 0x3FF) (reason n pre : Nat) (bin : Option Nat) :
    TestIssued s d unit (s.issueTest c d unit reason n pre bin) := by
  unfold State.issueTest
  extract_lets id cor t deadline u x v w1 w2
  have hpost {body : Bytes} {f : Fld} {i : Nat} (hlo : f.lo < 64) (hf : f.reg ∉ signalRegs) : (v.post 0 0x10 body).rd f i = u.rd f i :=
    (Signals.refl v).post.regs f i hlo hf
  refine ⟨?_, ?_, ?_, ?_⟩
  · rw [hpost (by decide) (by decide)]
    dsimp only [u]
    rw [State.rd_bump_otherReg, State.rd_wr_same]
    exact Nat.mod_mod _ _
  · rw [hpost (by decide) (by decide)]
    dsimp only [u]
    rw [State.rd_bump_otherReg, State.rd_wr_otherLo _ _ (by decide) (by decide) (by decide),
      State.rd_wr_otherLo _ _ (by decide) (by decide) (by decide), State.rd_wr_same]
    rfl
  · rw [hpost (by decide) (by decide)]
    dsimp only [u]
    rw [State.rd_bump_otherReg, State.rd_wr_otherLo _ _ (by decide) (by decide) (by decide), State.rd_wr_same]
    exact Nat.mod_eq_of_lt (Nat.lt_succ_of_le hunit)
  · have hmarks : RegsKept [.BX_COR_DIE_MARK] s
        (((t.wr BX_COR_DIE_MARK_TSTATE d 1).wr BX_COR_DIE_MARK_UNIT d unit).wr BX_COR_DIE_MARK_TEST_ID d id) :=
      .wr (.wr (.wr (RegsKept.refl _ s)))
    refine (hpost (by decide) (by decide)).trans ?_
    exact State.counted_of_before (hmarks _ _ (by decide) (by decide)) (State.counted_bump _ BX_COR_CNT1_TESTS 0 1)

/-- MANUAL is set by hand as a reason is gained, but for the test. -/
theorem State.noteManual_reasons (s : State) (d n : Nat) :
    (if (s.reasons d).testBit 6 then s else s.noteReason d 6 n 0).reasons d = (s.setReason d 6 n).reasons d := by
  unfold State.setReason
  split
  · rfl
  · exact (State.testFor_reasons _ d 6 n d).symm

/-- A test requested of a die with none outstanding sets MANUAL, unless it is set, and is issued. -/
theorem State.requestTest_requests {unit : Nat} (hidle : s.rd BX_COR_DIE_MARK_TSTATE d = 0) (hd : d ≠ 64) (hunit : unit ≤ 0x3FF) (pre : Nat)
    (bin : Option Nat) : TestIssued s d unit (s.requestTest d unit pre bin) ∧ ((s.requestTest d unit pre bin).reasons d).testBit 6 = true := by
  unfold State.requestTest
  extract_lets n busy t
  have hmark : t.cor.testId = s.cor.testId ∧ RegsKept [.BX_COR_DIE_MARK] s t := by
    dsimp only [t]
    split
    · exact ⟨rfl, .refl _ s⟩
    · exact ⟨rfl, (RegsKept.refl _ s).wr (f := BX_COR_DIE_MARK_REASONS)⟩
  obtain ⟨htestId, hkept⟩ := hmark
  obtain ⟨hid, hstate, hfield, htests⟩ := t.issueTest_issues t.cfg d hunit 6 n pre bin
  rw [if_neg (by simp [busy, hidle, hd]), t.issueTest_reasons, s.noteManual_reasons d n]
  exact ⟨⟨htestId ▸ hid, hstate, hfield, State.counted_of_before (hkept _ _ (by decide) (by decide)) htests⟩,
    s.setReason_testBit d n (by decide)⟩

/-! ### A test overdue, ended and aborted (R298 to R300, Table 10-7) -/

/-- A test not overdue before is marked overdue and counted, and stays as it was. -/
theorem State.testOverdue_marks (hflag : s.flag BX_COR_DIE_MARK_OVERDUE d = false) : (s.testOverdue d).flag BX_COR_DIE_MARK_OVERDUE d = true ∧
    s.counted (s.testOverdue d) BX_COR_CNT1_OVERDUE 0 1 := by
  unfold State.testOverdue
  rw [if_neg (by simp [hflag])]
  extract_lets id unit t u
  have hsig {sub : Nat} {b : Bytes} {f : Fld} {i : Nat} (hlo : f.lo < 64) (hf : f.reg ∉ signalRegs) : (u.alarmUp sub b).rd f i = t.rd f i :=
    (Signals.refl t).signal.alarmUp.regs f i hlo hf
  constructor
  · unfold State.flag
    rw [hsig (by decide) (by decide)]
    dsimp only [t]
    rw [State.rd_bump_otherReg, State.rd_wr_same]
    rfl
  · refine (hsig (by decide) (by decide)).trans (State.counted_of_before ?_ (State.counted_bump _ BX_COR_CNT1_OVERDUE 0 1))
    exact s.rd_wr_otherReg _ (by decide) (by decide) (by decide)

/-- Of a test that becomes overdue neither the state changes nor what the correlator holds of its die. -/
theorem State.testOverdue_keeps (s : State) (d : Nat) :
    (s.testOverdue d).rd BX_COR_DIE_MARK_TSTATE d = s.rd BX_COR_DIE_MARK_TSTATE d ∧ (s.testOverdue d).cor = s.cor := by
  unfold State.testOverdue
  split
  · exact ⟨rfl, rfl⟩
  · extract_lets id unit t u
    have hsig {sub : Nat} {b : Bytes} : Signals t (u.alarmUp sub b) := (Signals.refl t).signal.alarmUp
    refine ⟨(hsig.regs _ _ (by decide) (by decide)).trans ?_, hsig.cor⟩
    dsimp only [t]
    rw [State.rd_bump_otherReg, State.rd_wr_otherLo _ _ (by decide) (by decide) (by decide)]

theorem State.testAbort_aborts (s : State) (d : Nat) :
    (s.testAbort d).rd BX_COR_DIE_MARK_TSTATE d = 1 ∧ ((s.testAbort d).corDie d).started = false := by
  unfold State.testAbort
  extract_lets x t
  have ht : t.rd BX_COR_DIE_MARK_TSTATE d = 1 ∧ (t.corDie d).started = false :=
    ⟨s.rd_wr_same BX_COR_DIE_MARK_TSTATE d 1, congrArg DieCorr.started (State.corDie_setCorDie _ d _)⟩
  split
  · obtain ⟨hstate, hcor⟩ := t.testOverdue_keeps d
    rwa [hstate, State.corDie_congr hcor]
  · exact ht

/-- Between s before and u after, the test of a die has ended, and of the registers at most the die's mark has changed, its reasons not. -/
structure TestOver (s : State) (d : Nat) (u : State) : Prop where
  state : u.rd BX_COR_DIE_MARK_TSTATE d = 0
  overdue : u.flag BX_COR_DIE_MARK_OVERDUE d = false
  reasons : u.reasons d = s.reasons d
  regs : RegsKept [.BX_COR_DIE_MARK] s u
  ep : u.ep = s.ep

theorem State.testIdle_ends (s : State) (d : Nat) : TestOver s d (s.testIdle d) := by
  let t := s.wr BX_COR_DIE_MARK_TSTATE d 0
  let u := t.wr BX_COR_DIE_MARK_OVERDUE d 0
  have hkept : RegsKept [.BX_COR_DIE_MARK] s u := .wr (.wr (.refl _ s))
  have hother {f : Fld} (hlo : f.lo < 64) (hf : f.lo ≠ 53) : u.rd f d = t.rd f d :=
    t.rd_wr_otherLo (f := BX_COR_DIE_MARK_OVERDUE) 0 (by decide) hlo hf
  refine ⟨?_, ?_, ?_, hkept, rfl⟩
  · exact (hother (by decide) (by decide)).trans (s.rd_wr_same BX_COR_DIE_MARK_TSTATE d 0)
  · exact congrArg (fun v => decide (v ≠ 0)) (t.rd_wr_same BX_COR_DIE_MARK_OVERDUE d 0)
  · exact (hother (by decide) (by decide)).trans
      (s.rd_wr_otherLo (f := BX_COR_DIE_MARK_TSTATE) (g := BX_COR_DIE_MARK_REASONS) 0 (by decide) (by decide) (by decide))

/-- A test passed with no reason gained meanwhile ends, and clears every reason of its die. -/
theorem State.testPass_passes (hgained : (s.corDie d).gained = 0) : (s.testPass d).rd BX_COR_DIE_MARK_TSTATE d = 0 ∧
    (s.testPass d).flag BX_COR_DIE_MARK_OVERDUE d = false ∧ (∀ r < 8, ((s.testPass d).reasons d).testBit r = false) := by
  have hnone : (List.range 8).filter (fun r => (s.corDie d).gained.testBit r) = [] := by
    rw [hgained]
    simp
  unfold State.testPass
  extract_lets y again chans t x u v
  rw [show (List.range 8).filter again = [] from hnone, List.foldl_nil]
  have hover : TestOver u d v := u.testIdle_ends d
  refine ⟨hover.state, hover.overdue, fun r hr => ?_⟩
  rw [show v.reasons d = t.reasons d from hover.reasons, State.clearReasons_testBit _ _ _ hr]
  have hmask : Nat.testBit 0xFF r = true := by
    rw [show 0xFF = 2 ^ 8 - 1 from rfl, Nat.testBit_two_pow_sub_one, decide_eq_true hr]
  rw [hmask, Bool.not_true, Bool.and_false]

/-- A running test ended by its verdict: PASS 0, FAIL 1, ABORTED 2. -/
def State.testEnded (s : State) (d : Nat) : Nat → State
  | 0 => s.testPass d
  | 1 => ((s.bump BX_COR_CNT1_FAILS).fenceDie d 3).testIdle d
  | _ => s.testAbort d

/-! ### The opcodes (Table 10-11) -/

section
variable {c : Cap} (hc : c.isOp = true)
include hc

theorem testRequest_requests (hl : 4 ≤ c.params.length) (hd : s.localDie? (c.p 0) = some d) (hlt : d < 64) (h1 : c.p 1 ≤ 0x3FF)
    (h2 : c.p 2 ≤ 3) (h3 : c.p 3 = 0xFFFF) (hfence : s.dieFenced d = false) (hidle : s.rd BX_COR_DIE_MARK_TSTATE d = 0) :
    Answers (.testRequest c) s (fun u => u.replied c 0x0920 S_OK [(s.cor.testId + 1) % 65536] ∧ u.rd BX_COR_DIE_MARK_TSTATE d = 1 ∧
      u.rd BX_COR_DIE_MARK_UNIT d = c.p 1 ∧ (u.reasons d).testBit 6 = true ∧ s.counted u BX_COR_CNT1_TESTS 0 1) := by
  let t := s.requestTest d (c.p 1) (c.p 2) none
  obtain ⟨⟨hid, hstate, hunit, htests⟩, hmanual⟩ : TestIssued s d (c.p 1) t ∧ (t.reasons d).testBit 6 = true :=
    State.requestTest_requests hidle (by omega) h1 (c.p 2) none
  have hrd (f : Fld) (i : Nat) : (t.reply c 0x0920 S_OK [(s.cor.testId + 1) % 65536]).rd f i = t.rd f i := t.rd_reply c _ (by decide) _ f i
  refine ⟨t.reply c 0x0920 S_OK [(s.cor.testId + 1) % 65536], ?_, t.reply_replied .., (hrd _ _).trans hstate, (hrd _ _).trans hunit, ?_,
    (hrd _ _).trans htests⟩
  · change execTestRequest c s = done _
    unfold execTestRequest
    rw [State.dieOp_of_local hc hl hd, if_neg (by omega), if_neg (by simp [hfence]), if_neg (not_not.mpr hidle), if_pos h3]
    dsimp only
    rw [hid]
  · unfold State.reasons
    rw [hrd]
    exact hmanual

theorem testStart_starts (hl : 1 ≤ c.params.length) (hd : s.testDie? (c.p 0) = some d) (hfence : s.dieFenced d = false)
    (hsc : s.scPlaced d (s.rd BX_COR_DIE_MARK_UNIT d) = false) : Answers (.testStart c) s (fun u =>
      u.replied c 0x0921 S_OK [] ∧ u.rd BX_COR_DIE_MARK_TSTATE d = 2) := by
  let t := if s.rd BX_COR_DIE_MARK_TSTATE d = 2 then s
    else (s.wr BX_COR_DIE_MARK_TSTATE d 2).setCorDie d { s.corDie d with started := true, startNs := s.bxNs }
  have ht : t.rd BX_COR_DIE_MARK_TSTATE d = 2 := by
    dsimp only [t]
    split
    · assumption
    · exact s.rd_wr_same BX_COR_DIE_MARK_TSTATE d 2
  refine ⟨t.reply c 0x0921 S_OK, ?_, t.reply_replied .., (t.rd_reply c _ (by decide) _ _ _).trans ht⟩
  change execTestStart c s = done _
  unfold execTestStart
  rw [s.checked_of_allowed hc hl, hd]
  dsimp only
  rw [if_neg (by simp [hfence]), if_neg (by simp [hsc])]
  dsimp only [t]
  split
  · rfl
  · rfl

theorem testCancel_cancels (hl : 1 ≤ c.params.length) (hd : s.testDie? (c.p 0) = some d) : Answers (.testCancel c) s (fun u =>
    u.replied c 0x0923 S_OK [] ∧ u.rd BX_COR_DIE_MARK_TSTATE d = 0 ∧ u.flag BX_COR_DIE_MARK_OVERDUE d = false) := by
  have hover := s.testIdle_ends d
  let t := (s.testIdle d).setCorDie d { (s.testIdle d).corDie d with gained := 0 }
  have hrd (f : Fld) : (t.reply c 0x0923 S_OK).rd f d = (s.testIdle d).rd f d := t.rd_reply c _ (by decide) _ f d
  refine ⟨t.reply c 0x0923 S_OK, ?_, t.reply_replied .., (hrd _).trans hover.state, ?_⟩
  · change execTestCancel c s = done _
    unfold execTestCancel
    rw [s.checked_of_allowed hc hl, hd]
  · unfold State.flag
    rw [hrd]
    exact hover.overdue

theorem testCancel_unknown (hl : 1 ≤ c.params.length) (hd : s.testDie? (c.p 0) = none) : Answers (.testCancel c) s (fun u =>
    u.replied c 0x0923 S_STALE [] ∧ s.onlyReply u) := by
  refine answers_reply (by decide) ?_
  change execTestCancel c s = _
  unfold execTestCancel
  rw [s.checked_of_allowed hc hl, hd]

variable (hl : 2 ≤ c.params.length) (hd : s.testDie? (c.p 0) = some d)
include hl hd

theorem testResult_notRunning (hstate : s.rd BX_COR_DIE_MARK_TSTATE d ≠ 2) : Answers (.testResult c) s (fun u =>
    u.replied c 0x0922 S_NOTNOW [] ∧ s.onlyReply u) := by
  refine answers_reply (by decide) ?_
  change execTestResult c s = _
  unfold execTestResult
  rw [s.checked_of_allowed hc hl, hd]
  dsimp only
  rw [if_pos hstate]

variable (hrun : s.rd BX_COR_DIE_MARK_TSTATE d = 2)
include hrun

/-- A running test ends by its verdict. -/
theorem exec_testResult_running (hverdict : c.p 1 ≤ 2) : exec (.testResult c) s = done ((s.testEnded d (c.p 1)).reply c 0x0922 S_OK) := by
  have hcases : c.p 1 = 0 ∨ c.p 1 = 1 ∨ c.p 1 = 2 := by omega
  change execTestResult c s = _
  unfold execTestResult
  rw [s.checked_of_allowed hc hl, hd]
  dsimp only
  rw [if_neg (not_not.mpr hrun)]
  rcases hcases with h | h | h
  · rw [h]; rfl
  · rw [h]; rfl
  · rw [h]; rfl

theorem testResult_passes (hpass : c.p 1 = 0) (hgained : (s.corDie d).gained = 0) : Answers (.testResult c) s (fun u =>
    u.replied c 0x0922 S_OK [] ∧ u.rd BX_COR_DIE_MARK_TSTATE d = 0 ∧ u.flag BX_COR_DIE_MARK_OVERDUE d = false ∧
    (∀ r < 8, (u.reasons d).testBit r = false)) := by
  obtain ⟨hstate, hoverdue, hreasons⟩ := State.testPass_passes hgained
  have hrd (f : Fld) : ((s.testPass d).reply c 0x0922 S_OK).rd f d = (s.testPass d).rd f d := State.rd_reply _ c _ (by decide) _ f d
  have he := exec_testResult_running hc hl hd hrun (by omega)
  rw [hpass] at he
  refine ⟨(s.testPass d).reply c 0x0922 S_OK, he, State.reply_replied .., (hrd _).trans hstate, ?_, ?_⟩
  · unfold State.flag
    rw [hrd]
    exact hoverdue
  · unfold State.reasons
    rw [hrd]
    exact hreasons

theorem testResult_fails (hfail : c.p 1 = 1) (hfence : s.dieFenced d = false) : Answers (.testResult c) s (fun u =>
    u.replied c 0x0922 S_OK [] ∧ u.rd BX_COR_DIE_MARK_TSTATE d = 0 ∧ (u.die d).fence = some s.nextTick ∧ u.rd BX_LKO_DIE_CAUSE d = 3 ∧
    s.counted u BX_COR_CNT1_FAILS 0 1) := by
  have hlt := State.testDie?_lt hd
  let v := s.bump BX_COR_CNT1_FAILS
  have hfenced : Fenced v d 3 (v.fenceDie d 3) := State.fenceDie_fences (by omega) hfence (by decide)
  have hover := (v.fenceDie d 3).testIdle_ends d
  have hrd (f : Fld) (i : Nat) : (((v.fenceDie d 3).testIdle d).reply c 0x0922 S_OK).rd f i = ((v.fenceDie d 3).testIdle d).rd f i :=
    State.rd_reply _ c _ (by decide) _ f i
  have he := exec_testResult_running hc hl hd hrun (by omega)
  rw [hfail] at he
  refine ⟨((v.fenceDie d 3).testIdle d).reply c 0x0922 S_OK, he, State.reply_replied .., (hrd _ _).trans hover.state, ?_, ?_, ?_⟩
  · rw [State.die_congr ((State.reply_ep ..).trans hover.ep)]
    exact hfenced.fence
  · exact (hrd _ _).trans ((hover.regs _ _ (by decide) (by decide)).trans hfenced.cause)
  · refine ((hrd _ _).trans ((hover.regs _ _ (by decide) (by decide)).trans (hfenced.regs _ _ (by decide) (by decide)))).trans ?_
    exact s.counted_bump BX_COR_CNT1_FAILS 0 1

theorem testResult_aborts (habort : c.p 1 = 2) : Answers (.testResult c) s (fun u =>
    u.replied c 0x0922 S_OK [] ∧ u.rd BX_COR_DIE_MARK_TSTATE d = 1) := by
  have he := exec_testResult_running hc hl hd hrun (by omega)
  rw [habort] at he
  obtain ⟨hstate, -⟩ := s.testAbort_aborts d
  exact ⟨(s.testAbort d).reply c 0x0922 S_OK, he, State.reply_replied .., (State.rd_reply _ c _ (by decide) _ _ d).trans hstate⟩

end

/-! ### The deadline and the longest run (R299, R300) -/

theorem testDeadline_overdue (hlt : d < 64) (hpend : s.rd BX_COR_DIE_MARK_TSTATE d = 1) (hlate : (s.corDie d).deadline ≤ s.bxNs)
    (hflag : s.flag BX_COR_DIE_MARK_OVERDUE d = false) : Answers (.testDeadline d) s (fun u => u.flag BX_COR_DIE_MARK_OVERDUE d = true ∧
      s.counted u BX_COR_CNT1_OVERDUE 0 1 ∧ u.rd BX_COR_DIE_MARK_TSTATE d = 1) := by
  obtain ⟨hoverdue, hcounted⟩ := State.testOverdue_marks hflag
  obtain ⟨hstate, -⟩ := s.testOverdue_keeps d
  exact ⟨s.testOverdue d, if_pos ⟨hlt, hpend, hlate⟩, hoverdue, hcounted, hstate.trans hpend⟩

theorem testRunTimeout_aborts (hlt : d < 64) (hrun : s.rd BX_COR_DIE_MARK_TSTATE d = 2)
    (hlate : (s.corDie d).startNs + s.rd BX_COR_CTRL_TEST_RUN_MS * 1000000 ≤ s.bxNs) : Answers (.testRunTimeout d) s (fun u =>
      u.rd BX_COR_DIE_MARK_TSTATE d = 1 ∧ (u.corDie d).started = false) :=
  ⟨s.testAbort d, if_pos ⟨hlt, hrun, hlate⟩, s.testAbort_aborts d⟩

/-- Settles O29: a test is issued once, by the request itself; a reply, an alarm and an overdue mark leave its state alone, and a passed test
clears the reasons after what it sends. -/
theorem fieldTestsRunTheirCourse : Obligations.FieldTestsRunTheirCourse :=
  ⟨fun _ _ _ hc hl hd hlt h1 h2 h3 hfence hidle => testRequest_requests hc hl hd hlt h1 h2 h3 hfence hidle,
    fun _ _ _ hc hl hd hfence hsc => testStart_starts hc hl hd hfence hsc,
    fun _ _ _ hc hl hd hrun hpass hgained => testResult_passes hc hl hd hrun hpass hgained,
    fun _ _ _ hc hl hd hrun hfail hfence => testResult_fails hc hl hd hrun hfail hfence,
    fun _ _ _ hc hl hd hrun habort => testResult_aborts hc hl hd hrun habort,
    fun _ _ _ hc hl hd hstate => testResult_notRunning hc hl hd hstate,
    fun _ _ _ hc hl hd => testCancel_cancels hc hl hd,
    fun _ _ hc hl hd => testCancel_unknown hc hl hd,
    fun _ _ hlt hpend hlate hflag => testDeadline_overdue hlt hpend hlate hflag,
    fun _ _ hlt hrun hlate => testRunTimeout_aborts hlt hrun hlate⟩

end Sys2Proof.Machine
end

section
/-! SUPPORT. Which parts of BX64's state every command leaves alone: HBM, the commit gate, the power state, the queues, the egress shapers, the
life-cycle state and BX_SAF_STS.DEGRADED; a lemma per function. (As in the tests, declarations are checked in order:
so many short lemmas at once would need more threads than the memory limit lets start.) -/

set_option Elab.async false

namespace Sys2Proof.Machine
open Sys2Proof

/-- The parts of the state a command is asked to keep. -/
structure Parts where
  hbm : Bool
  gate : Bool
  up : Bool
  queues : Bool
  egs : Bool
  lc : Bool
  deg : Bool

/-- What is kept, of the parts asked for, between the state s before and t after. -/
structure StoresKept (M : Parts) (s t : State) : Prop where
  hbm : M.hbm = true → t.hbm = s.hbm
  gate : M.gate = true → t.gate = s.gate
  up : M.up = true → t.up = s.up
  queues : M.queues = true → t.queues = s.queues
  egs : M.egs = true → t.egs = s.egs
  lc : M.lc = true → t.rd BX_LC_STS_STATE = s.rd BX_LC_STS_STATE
  deg : M.deg = true → s.rd BX_SAF_STS_DEGRADED = 1 → t.rd BX_SAF_STS_DEGRADED = 1

/-- The outcome is a next state that keeps the parts asked for. -/
def KeepsStores (M : Parts) (s : State) (o : Host.Outcome State Fault Refusal) : Prop := ∃ t, o = .next t ∧ StoresKept M s t

theorem KeepsStores.done {M : Parts} {s t : State} (h : StoresKept M s t) : KeepsStores M s (done t) := ⟨t, rfl, h⟩

theorem KeepsStores.branch {M : Parts} {s : State} {c : Prop} [Decidable c] {o p : Host.Outcome State Fault Refusal} (ho : KeepsStores M s o)
    (hp : KeepsStores M s p) : KeepsStores M s (if c then o else p) := by
  split <;> assumption

theorem KeepsStores.ite {M : Parts} {s : State} {c : Prop} [Decidable c] {o p : Host.Outcome State Fault Refusal} (ho : c → KeepsStores M s o)
    (hp : ¬ c → KeepsStores M s p) : KeepsStores M s (if c then o else p) := by
  split
  · next hc => exact ho hc
  · next hc => exact hp hc

/-- A field that is neither BX_LC_STS.STATE nor BX_SAF_STS.DEGRADED, by the numbers of its register and its lowest bit. -/
def Fld.apart (f : Fld) : Bool :=
  Nat.blt f.lo 64 && (!Nat.beq f.reg.ctorIdx (Reg.ctorIdx .BX_LC_STS) || !Nat.beq f.lo 61) &&
    (!Nat.beq f.reg.ctorIdx (Reg.ctorIdx .BX_SAF_STS) || !Nat.beq f.lo 15)

theorem Fld.key_ne_of_apart {f : Fld} (hf : f.apart = true) (i : Nat) :
    BX_LC_STS_STATE.key 0 ≠ f.key i ∧ BX_SAF_STS_DEGRADED.key 0 ≠ f.key i := by
  simp only [Fld.apart, Bool.and_eq_true, Bool.or_eq_true, Nat.blt_eq, Bool.not_eq_true', ← Bool.not_eq_true, Nat.beq_eq] at hf
  obtain ⟨⟨hlo, hlc⟩, hsaf⟩ := hf
  have hreg {r : Reg} (h : f.reg.ctorIdx ≠ r.ctorIdx) : r ≠ f.reg := fun e => h (congrArg Reg.ctorIdx e.symm)
  exact ⟨Fld.key_ne (by decide) hlo (hlc.imp hreg fun h => .inr (Ne.symm h)), Fld.key_ne (by decide) hlo (hsaf.imp hreg fun h => .inr
      (Ne.symm h))⟩

/-- A register none of whose fields is one of the two. -/
def Reg.apart (r : Reg) : Bool := (Reg.fields r).all Fld.apart

theorem Reg.apart_of_blaze (which : Nat) : Reg.apart (if which = 0 then .BLZ_CFG else if which = 1 then .BLZ_POLY else .BLZ_XOROUT) = true := by
  split
  · decide
  · split <;> decide

/-- The staged registers of a ZX40 are others (Table 5-6a). -/
theorem Reg.apart_of_staged {a i : Nat} {r : Reg} (e : zxStaged? a = some (r, i)) : Reg.apart r = true := by
  have hr : r ∈ [Reg.ZX_SNS_CFG, .ZX_SNS_EN, .ZX_GRS_FEAT, .ZX_SNS_CAL, .ZX_CTR_SEL] := by
    unfold zxStaged? at e
    split_ifs at e <;> simp only [Option.some.injEq, Prod.mk.injEq] at e <;> simp [← e.1]
  exact List.all_eq_true.mp (by decide : [Reg.ZX_SNS_CFG, .ZX_SNS_EN, .ZX_GRS_FEAT, .ZX_SNS_CAL, .ZX_CTR_SEL].all Reg.apart = true) r hr

/-- The registers TRACE_STORE_SET sets are others (Table 14-10). -/
theorem Reg.apart_of_traceStore (n : Nat) :
    Reg.apart ([Reg.BX_TRS_CTRL, .BX_TRS_GAUGE_CFG, .BX_TRS_GAUGE_SNS, .BX_TRS_GAUGE_BND, .BX_TRS_GAUGE_BND].getD n .BX_TRS_DIE_CFG) = true := by
  have hall : (Reg.BX_TRS_DIE_CFG :: [Reg.BX_TRS_CTRL, .BX_TRS_GAUGE_CFG, .BX_TRS_GAUGE_SNS, .BX_TRS_GAUGE_BND, .BX_TRS_GAUGE_BND]).all Reg.apart
      = true := by decide
  rw [List.all_eq_true] at hall
  rw [List.getD_eq_getElem?_getD]
  cases e : [Reg.BX_TRS_CTRL, .BX_TRS_GAUGE_CFG, .BX_TRS_GAUGE_SNS, .BX_TRS_GAUGE_BND, .BX_TRS_GAUGE_BND][n]? with
  | none => exact hall _ (.head _)
  | some r => exact hall _ (.tail _ (List.mem_of_getElem? e))

/-- What a refused announcement counts is another field (Table 12-2). -/
theorem Fld.apart_of_announceRow {s : State} {g : GStep} {j : Job} {f : Fld} (e : (s.announceRow g j).2 = some f) : f.apart = true := by
  have hf : f ∈ [BX_CMT_CNT4_FENCED_DROP, BX_CMT_CNT2_STALE_PLACEMENT, BX_CMT_CNT3_PLACEMENT_ERR, BX_CMT_CNT2_DUP_STEP] := by
    unfold State.announceRow at e
    extract_lets at e
    split_ifs at e <;> simp_all
  exact List.all_eq_true.mp (by decide : [BX_CMT_CNT4_FENCED_DROP, BX_CMT_CNT2_STALE_PLACEMENT, BX_CMT_CNT3_PLACEMENT_ERR,
    BX_CMT_CNT2_DUP_STEP].all Fld.apart = true) f hf

/-- Both fields take no write of the outside (Table 0-4). -/
theorem Fld.apart_of_written {r : Reg} {f : Fld} (hf : f ∈ Reg.fields r) (ha : f.acc ≠ .ro) : f.apart = true := by
  have h (r : Reg) : (Reg.fields r).all (fun f => f.acc == .ro || f.apart) = true := by cases r <;> decide
  simpa [ha] using List.all_eq_true.mp (h r) f hf

/-- A warm reset, from P3 too, is no cold one. -/
theorem State.warmKind_isCold (s : State) : s.warmKind.isCold = false := by
  unfold State.warmKind
  split <;> rfl

namespace StoresKept
variable {M : Parts} {H G U Q E L D : Bool} {s t : State}

theorem refl (M : Parts) (s : State) : StoresKept M s s :=
  ⟨fun _ => rfl, fun _ => rfl, fun _ => rfl, fun _ => rfl, fun _ => rfl, fun _ => rfl, fun _ => id⟩

theorem branch {c : Prop} [Decidable c] {u : State} (ht : StoresKept M s t) (hu : StoresKept M s u) : StoresKept M s (if c then t else u) := by
  split <;> assumption

theorem foldl {α : Type} {f : State → α → State} {l : List α} (h : StoresKept M s t) (hf : ∀ u x, StoresKept M s u → StoresKept M s (f u x)) :
    StoresKept M s (l.foldl f t) := by
  induction l generalizing t with
  | nil => exact h
  | cons x l ih => exact ih (hf t x h)

/-- The same with what is known of the elements. -/
theorem foldlMem {α : Type} {f : State → α → State} {l : List α} (h : StoresKept M s t)
    (hf : ∀ u, ∀ x ∈ l, StoresKept M s u → StoresKept M s (f u x)) : StoresKept M s (l.foldl f t) := by
  induction l generalizing t with
  | nil => exact h
  | cons x l ih => exact ih (hf t x (.head _) h) fun u y hy => hf u y (.tail _ hy)

theorem foldlSnd {α β : Type} {f : β × State → α → β × State} {l : List α} {b : β} (h : StoresKept M s t)
    (hf : ∀ p x, StoresKept M s p.2 → StoresKept M s (f p x).2) : StoresKept M s (l.foldl f (b, t)).2 := by
  suffices ∀ p : β × State, StoresKept M s p.2 → StoresKept M s (l.foldl f p).2 from this _ h
  induction l with
  | nil => exact fun _ hp => hp
  | cons x l ih => exact fun p hp => ih _ (hf p x hp)

theorem foldlFst {α β : Type} {f : State × β → α → State × β} {l : List α} {b : β} (h : StoresKept M s t)
    (hf : ∀ p x, StoresKept M s p.1 → StoresKept M s (f p x).1) : StoresKept M s (l.foldl f (t, b)).1 := by
  suffices ∀ p : State × β, StoresKept M s p.1 → StoresKept M s (l.foldl f p).1 from this _ h
  induction l with
  | nil => exact fun _ hp => hp
  | cons x l ih => exact fun p hp => ih _ (hf p x hp)

theorem branchSnd {α : Type} {c : Prop} [Decidable c] {p q : α × State} (hp : StoresKept M s p.2) (hq : StoresKept M s q.2) :
    StoresKept M s (if c then p else q).2 := by
  split <;> assumption

theorem pair {α : Type} {a : α} (h : StoresKept M s t) : StoresKept M s (a, t).2 := h

theorem snd_eq {α : Type} {p : α × State} {a : α} {u : State} (h : StoresKept M s p.2) (e : p = (a, u)) : StoresKept M s u := by
  subst e
  exact h

/-! ### What changes the parts, and what changes none of them -/

theorem wr (h : StoresKept M s t) {f i v} (hf : f.apart = true := by exact rfl) : StoresKept M s (t.wr f i v) :=
  ⟨h.hbm, h.gate, h.up, h.queues, h.egs, fun hl => (t.rd_wr_other v (Fld.key_ne_of_apart hf i).1).trans (h.lc hl),
    fun hd hs => (t.rd_wr_other v (Fld.key_ne_of_apart hf i).2).trans (h.deg hd hs)⟩

theorem dropRegs (h : StoresKept M s t) {p} (hl : p (BX_LC_STS_STATE.key 0) = false := by decide)
    (hd : M.deg = true → p (BX_SAF_STS_DEGRADED.key 0) = false := by intro; decide) : StoresKept M s (t.dropRegs p) :=
  ⟨h.hbm, h.gate, h.up, h.queues, h.egs, fun e => (t.rd_dropRegs hl).trans (h.lc e), fun e hs => (t.rd_dropRegs (hd e)).trans (h.deg e hs)⟩

/-- An update of what is neither a register nor one of the parts. -/
theorem set (h : StoresKept M s t) {zx bxTb pps tsrc links ep red cnp grv cor wdn tap rpl out fresh pending} :
    StoresKept M s ⟨t.regs, zx, bxTb, pps, tsrc, links, t.queues, ep, red, cnp, grv, cor, wdn, tap, t.hbm, t.egs, rpl, t.gate, t.up, out, fresh,
      pending⟩ :=
  ⟨h.hbm, h.gate, h.up, h.queues, h.egs, h.lc, h.deg⟩

/-- An update of HBM, where it is not asked for. -/
theorem setHbm (h : StoresKept ⟨false, G, U, Q, E, L, D⟩ s t) {x} : StoresKept ⟨false, G, U, Q, E, L, D⟩ s (t.setHbm x) :=
  ⟨nofun, h.gate, h.up, h.queues, h.egs, h.lc, h.deg⟩

/-- An update of the commit gate, where it is not asked for. -/
theorem putGate (h : StoresKept ⟨H, false, U, Q, E, L, D⟩ s t) {g} : StoresKept ⟨H, false, U, Q, E, L, D⟩ s { t with gate := g } :=
  ⟨h.hbm, nofun, h.up, h.queues, h.egs, h.lc, h.deg⟩

/-- An update of the power state, where it is not asked for. -/
theorem putUp (h : StoresKept ⟨H, G, false, Q, E, L, D⟩ s t) {u} : StoresKept ⟨H, G, false, Q, E, L, D⟩ s { t with up := u } :=
  ⟨h.hbm, h.gate, nofun, h.queues, h.egs, h.lc, h.deg⟩

/-- An update of the queues, where they are not asked for. -/
theorem putQueues (h : StoresKept ⟨H, G, U, false, E, L, D⟩ s t) {q} : StoresKept ⟨H, G, U, false, E, L, D⟩ s { t with queues := q } :=
  ⟨h.hbm, h.gate, h.up, nofun, h.egs, h.lc, h.deg⟩

/-- An update of the egress shapers, where they are not asked for. -/
theorem putEgs (h : StoresKept ⟨H, G, U, Q, false, L, D⟩ s t) {e} : StoresKept ⟨H, G, U, Q, false, L, D⟩ s { t with egs := e } :=
  ⟨h.hbm, h.gate, h.up, h.queues, nofun, h.lc, h.deg⟩

/-- A write of the life-cycle state, where it is not asked for. -/
theorem putLc (h : StoresKept ⟨H, G, U, Q, E, false, D⟩ s t) {v} : StoresKept ⟨H, G, U, Q, E, false, D⟩ s (t.wr BX_LC_STS_STATE 0 v) :=
  ⟨h.hbm, h.gate, h.up, h.queues, h.egs, nofun, fun hd hs => (t.rd_wr_other v (by decide)).trans (h.deg hd hs)⟩

/-- DEGRADED set. -/
theorem setDegraded (h : StoresKept M s t) : StoresKept M s (t.wr BX_SAF_STS_DEGRADED 0 1) :=
  ⟨h.hbm, h.gate, h.up, h.queues, h.egs, fun hl => (t.rd_wr_other 1 (by decide)).trans (h.lc hl), fun _ _ => t.rd_wr_same _ _ _⟩

theorem emit (h : StoresKept M s t) {o} : StoresKept M s (t.emit o) :=
  h.set

theorem draw (h : StoresKept M s t) : StoresKept M s { t with fresh := t.fresh + 1 } :=
  h.set

/-! ### Ops -/
theorem bump (h : StoresKept M s t) {f i n} (hf : f.apart = true := by exact rfl) : StoresKept M s (t.bump f i n) :=
  h.wr hf

theorem wrSat (h : StoresKept M s t) {f i v} (hf : f.apart = true := by exact rfl) : StoresKept M s (t.wrSat f i v) :=
  h.wr hf

theorem setDie (h : StoresKept M s t) {d x} : StoresKept M s (t.setDie d x) :=
  h.set

theorem setLink (h : StoresKept M s t) {e l} : StoresKept M s (t.setLink e l) :=
  h.set

theorem modLink (h : StoresKept M s t) {e f} : StoresKept M s (t.modLink e f) :=
  h.setLink

theorem setPort (h : StoresKept M s t) {q p} : StoresKept M s (t.setPort q p) :=
  h.set

/-! ### View -/

theorem readEffect (h : StoresKept M s t) {r i} : StoresKept M s (t.readEffect r i) :=
  .branch h.wr h

/-! ### Heartwood -/

theorem hwWrite (h : StoresKept M s t) {r} : StoresKept M s (t.hwWrite r) :=
  .branch (StoresKept.branch h.wr.bump h.wr).set (StoresKept.branch h.wr.bump h.wr).set

theorem signal (h : StoresKept M s t) {r} : StoresKept M s (t.signal r) :=
  .branch h.hwWrite (.branch h.bump (.branch (StoresKept.branch h.set h).bump (StoresKept.branch h.set h).set))

theorem violation (h : StoresKept M s t) {partner row source idx} : StoresKept M s (t.violation partner row source idx) :=
  h.signal

/-! ### Events -/

theorem setRing (h : StoresKept M s t) {f r} : StoresKept M s (t.setRing f r) :=
  h.set

theorem ringPut (h : StoresKept M s t) {f ev} : StoresKept M s (t.ringPut f ev) :=
  h.emit.emit.setRing

theorem takeEvSeq (h : StoresKept M s t) {f} : StoresKept M s (t.takeEvSeq f) :=
  h.wr

theorem enterRing (h : StoresKept M s t) {f kind body} : StoresKept M s (t.enterRing f kind body) :=
  .branch h.takeEvSeq.ringPut (.branch h.takeEvSeq.setRing h.takeEvSeq.setRing.bump)

theorem overflowIfDue (h : StoresKept M s t) {f} : StoresKept M s (t.overflowIfDue f) := by
  dsimp only [State.overflowIfDue]
  split
  · exact h
  · exact .branch h.setRing.enterRing h

theorem post (h : StoresKept M s t) {f kind body} : StoresKept M s (t.post f kind body) :=
  .branch h.overflowIfDue.enterRing h

theorem drainRing (h : StoresKept M s t) {f k} : StoresKept M s (drainRing f k t) := by
  induction k generalizing t with
  | zero => exact h
  | succ k ih =>
    unfold Machine.drainRing
    split
    · exact h
    · exact .branch (ih h.setRing.ringPut) h

theorem ringService (h : StoresKept M s t) {f} : StoresKept M s (t.ringService f) :=
  h.drainRing.overflowIfDue

theorem postAll (h : StoresKept M s t) {kind body} : StoresKept M s (t.postAll kind body) :=
  h.foldl fun _ _ h => h.post

/-! ### Lanes -/

theorem sendMarkers (h : StoresKept M s t) {e} : StoresKept M s (t.sendMarkers e) :=
  .branch h.modLink.emit h

theorem passSlot (h : StoresKept M s t) {e} : StoresKept M s (t.passSlot e) :=
  h.modLink

theorem sendLanes (h : StoresKept M s t) {e bs} : StoresKept M s (t.sendLanes e bs) :=
  h.sendMarkers.modLink.passSlot.emit

theorem rxFlit (h : StoresKept M s t) {e ws} : StoresKept M s (t.rxFlit e ws).2 := by
  dsimp only [State.rxFlit]
  exact .branchSnd (.pair h) (.pair h.modLink)

/-! ### Links -/

theorem ls (h : StoresKept M s t) {k n} : StoresKept M s (t.ls k n) :=
  .branch h h.wr

theorem epochCounts (h : StoresKept M s t) {e} : StoresKept M s (t.epochCounts e) :=
  .branch h h.modLink

theorem countViol (h : StoresKept M s t) {e} : StoresKept M s (t.countViol e) :=
  h.epochCounts.modLink

theorem putOut (h : StoresKept M s t) {e bs} : StoresKept M s (t.putOut e bs) := by
  dsimp only [State.putOut]
  exact .sendLanes (.emit (by split; exacts [h.modLink.setPort, h.modLink]))

theorem enqueue (h : StoresKept M s t) {e cls b fromPort} : StoresKept M s (t.enqueue e cls b fromPort) :=
  h.modLink

theorem enqueueFront (h : StoresKept M s t) {q vc b} : StoresKept M s (t.enqueueFront q vc b) :=
  h.modLink

theorem outPort (h : StoresKept M s t) {ty sub src dst} : StoresKept M s (t.outPort ty sub src dst).2 := by
  dsimp only [State.outPort]
  split
  · split
    · exact h
    · refine .branchSnd (.pair h) ?_
      split <;> exact h.bump
  · split
    · exact h
    · exact h.bump

theorem sendOn (h : StoresKept M s t) {q ty sub vc src dst bcast bytes hops} : StoresKept M s (t.sendOn q ty sub vc src dst bcast bytes hops) :=
  h.foldl fun _ _ h => h.enqueue

theorem sendTo (h : StoresKept M s t) {ty sub vc dst bytes} : StoresKept M s (t.sendTo ty sub vc dst bytes) := by
  dsimp only [State.sendTo]
  split
  · next e => exact (h.outPort.snd_eq e).sendOn
  · next e => exact h.outPort.snd_eq e

theorem sendAll (h : StoresKept M s t) {ty sub vc src bytes except hops bcast}
    : StoresKept M s (t.sendAll ty sub vc src bytes except hops bcast) :=
  h.foldl fun _ _ h => h.sendOn

theorem passOn (h : StoresKept M s t) {q ty sub vc src bcast bytes hops} : StoresKept M s (t.passOn q ty sub vc src bcast bytes hops) :=
  .branch h h.sendAll

theorem takeMsgId (h : StoresKept M s t) : StoresKept M s (t.takeMsgId).2 :=
  h.set

theorem sendMsg (h : StoresKept M s t) {ty sub vc dst body epoch rec} : StoresKept M s (t.sendMsg ty sub vc dst body epoch rec) :=
  (StoresKept.branch h.takeMsgId.set h.takeMsgId).sendTo

theorem sendE2eAck (h : StoresKept M s t) {src msgId} : StoresKept M s (t.sendE2eAck src msgId) :=
  h.sendMsg

theorem e2eTake (h : StoresKept M s t) {src msgId} : StoresKept M s (t.e2eTake src msgId).2 := by
  dsimp only [State.e2eTake]
  exact .branch h.sendE2eAck h.sendE2eAck.set

theorem consume (h : StoresKept M s t) {e ty sub} : StoresKept M s (t.consume e ty sub) :=
  h.modLink

theorem takeBseq (h : StoresKept M s t) : StoresKept M s (t.takeBseq).2 :=
  h.set

theorem broadcastAlarm (h : StoresKept M s t) {sub p40} : StoresKept M s (t.broadcastAlarm sub p40) :=
  h.takeBseq.sendAll

theorem alarmUp (h : StoresKept M s t) {sub p40} : StoresKept M s (t.alarmUp sub p40) := by
  dsimp only [State.alarmUp]
  split
  · exact h.post
  · split
    · next e => exact (h.outPort.snd_eq e).sendOn
    · next e => exact .branch h.post (h.outPort.snd_eq e)

theorem safAlarm (h : StoresKept M s t) {code sys idx die} : StoresKept M s (t.safAlarm code sys idx die) :=
  .branch h h.set.alarmUp

theorem detect (h : StoresKept M s t) {code sys idx die inj} : StoresKept M s (t.detect code sys idx die inj) :=
  h.wr.bump.wr.safAlarm.signal

theorem recompute (h : StoresKept M s t) : StoresKept M s t.recompute :=
  h.set

theorem floodLsa (h : StoresKept M s t) : StoresKept M s t.floodLsa :=
  h.set.recompute.takeMsgId.foldl fun _ _ h => h.sendOn

theorem sendHello (h : StoresKept M s t) {q} : StoresKept M s (t.sendHello q) :=
  h.takeMsgId.sendOn.setPort

theorem setPstate (h : StoresKept M s t) {q ps} : StoresKept M s (t.setPstate q ps) :=
  .branch h.wr.floodLsa h.wr

theorem setLstate (h : StoresKept M s t) {e st} : StoresKept M s (t.setLstate e st) := by
  dsimp only [State.setLstate]
  split
  · exact .branch h.modLink h.modLink.setPort.setPstate
  · exact h.modLink

theorem countRetrain (h : StoresKept M s t) {e} : StoresKept M s (t.countRetrain e) := by
  dsimp only [State.countRetrain]
  split
  · exact h.ls
  · exact h.bump
  · exact h.bump

theorem retrain (h : StoresKept M s t) {e} : StoresKept M s (t.retrain e) :=
  .branch h.countRetrain.setLstate h

theorem setHold (h : StoresKept M s t) {e hold} : StoresKept M s (t.setHold e hold) := by
  unfold State.setHold
  extract_lets s₁
  have h₁ : StoresKept M s s₁ := by
    dsimp only [s₁]
    split
    · exact h
    · exact h.wr
    · exact h.wr
  exact .branch (.branch h₁ h₁.setLstate) (.branch h₁.modLink.setLstate h₁)

theorem escalate (h : StoresKept M s t) {e} : StoresKept M s (t.escalate e) :=
  .branch (.branch h.modLink.retrain.modLink.setHold.signal.alarmUp h.modLink.retrain) h

theorem malformed (h : StoresKept M s t) {e row} : StoresKept M s (t.malformed e row) := by
  dsimp only [State.malformed]
  exact .escalate (by split; exacts [h.countViol.bump.ls, h.countViol.bump.violation, h.countViol.bump.violation])

theorem viol (h : StoresKept M s t) {e row} : StoresKept M s (t.viol e row) := by
  dsimp only [State.viol]
  exact .escalate (by split; exacts [h.countViol.bump, h.countViol.bump.violation, h.countViol.bump.violation])

/-! ### Capsules -/

theorem reply (h : StoresKept M s t) {c op status results reason hostWrite} : StoresKept M s (t.reply c op status results reason hostWrite) := by
  unfold State.reply
  extract_lets r s₁ s₂ s₃
  have h₁ : StoresKept M s s₁ := .branch h.bump h
  have h₂ : StoresKept M s s₂ := .branch h₁.bump h₁
  have h₃ : StoresKept M s s₃ := .branch h₂.bump h₂
  exact h₃.set

theorem replyBlob (h : StoresKept M s t) {c op status bytes more} : StoresKept M s (t.replyBlob c op status bytes more) :=
  .branch h.reply h.reply

theorem checked (h : StoresKept M s t) {c op a n f} (hf : StoresKept M s (f t)) : StoresKept M s (t.checked c op a n f) :=
  .branch h.reply (.branch h.reply hf)

theorem checkedPtr (h : StoresKept M s t) {c op a n f} (hf : StoresKept M s (f t)) : StoresKept M s (t.checkedPtr c op a n f) :=
  h.checked (.branch h.reply hf)

theorem setZxPort (h : StoresKept M s t) {p z'} : StoresKept M s (t.setZxPort p z') :=
  h.set

theorem issueZx (h : StoresKept M s t) {p} : StoresKept M s (t.issueZx p) := by
  dsimp only [State.issueZx]
  split
  · exact h
  · exact .branch h.setZxPort.enqueue h

theorem zxFirst (h : StoresKept M s t) {p op params} : StoresKept M s (t.zxFirst p op params) := by
  dsimp only [State.zxFirst]
  exact h.setZxPort.modLink.enqueue.modLink

theorem zxSend (h : StoresKept M s t) {p op params origin} : StoresKept M s (t.zxSend p op params origin) :=
  h.setZxPort.issueZx

theorem zxInternal (h : StoresKept M s t) {p op params} : StoresKept M s (t.zxInternal p op params) :=
  h.zxSend

theorem toZx (h : StoresKept M s t) {c op} : StoresKept M s (t.toZx c op) := by
  dsimp only [State.toZx]
  split
  · exact h.reply
  · exact .branch h.reply (.branch h.reply h.zxSend)

theorem timeoutZx (h : StoresKept M s t) {p m} : StoresKept M s (t.timeoutZx p m) := by
  dsimp only [State.timeoutZx]
  split
  · exact h.reply
  · split
    · exact .branch h.setDie h
    · exact .branch (StoresKept.branch h.setDie h).set (.branch h.setDie h)

theorem flushZx (h : StoresKept M s t) {p} : StoresKept M s (t.flushZx p) :=
  (h.modLink.foldl fun _ _ h => h.timeoutZx).setZxPort

theorem zxSendReply (h : StoresKept M s t) {tag op status results reason} : StoresKept M s (t.zxSendReply tag op status results reason) :=
  h.enqueue

theorem zxRefuse (h : StoresKept M s t) {k} : StoresKept M s (zxRefuse k t) := by
  induction k generalizing t with
  | zero => exact h
  | succ k ih =>
    unfold Machine.zxRefuse
    split
    · exact h
    · exact .branch (ih h.set.zxSendReply) (.branch (ih h.set.zxSendReply) h)

theorem zxReply (h : StoresKept M s t) {c op status results reason} : StoresKept M s (t.zxReply c op status results reason) :=
  h.set.zxSendReply.zxRefuse

theorem zxRun (h : StoresKept M s t) {c op n f} (hf : StoresKept M s (f t)) : StoresKept M s (t.zxRun c op n f) :=
  .branch (.branch h (.branch h.zxReply hf)) (h.checked h.toZx)

theorem zxInt (h : StoresKept M s t) {c op n f} (hf : StoresKept M s (f t)) : StoresKept M s (t.zxInt c op n f) :=
  .branch h (.branch h.zxReply (.branch h.zxReply hf))

/-! ### Injection -/

theorem wtRecord (h : StoresKept M s t) {ty tgt extra} : StoresKept M s (t.wtRecord ty tgt extra) :=
  h.signal

theorem wtDisarm (h : StoresKept M s t) {tgt} : StoresKept M s (t.wtDisarm tgt) :=
  .branch h.wr.wr.wr.wr.wr.set.wtRecord h

theorem wtResetOff (h : StoresKept M s t) {p} : StoresKept M s (t.wtResetOff p).2 :=
  (h.foldl fun _ _ h => h.wr.wr.wr.wr.set).wr

theorem resetOff (h : StoresKept M s t) {n} : StoresKept M s (t.resetOff n) :=
  .branch h h.signal

theorem wtZxOff (h : StoresKept M s t) {p} : StoresKept M s (t.wtZxOff p) :=
  h.wtResetOff.resetOff

theorem wtArm (h : StoresKept M s t) {tgt action arg count} : StoresKept M s (t.wtArm tgt action arg count) :=
  h.wtDisarm.wr.wr.wr.wr.bump.set.wtRecord

theorem wtEvent (h : StoresKept M s t) {tgt extra} : StoresKept M s (t.wtEvent tgt extra).2 := by
  dsimp only [State.wtEvent]
  exact .branchSnd (.pair (.branch h.set.wr.bump.wtRecord.wtDisarm h.set.wr.bump.wtRecord)) (.pair h)

theorem pcs (h : StoresKept M s t) {e tx bs} : StoresKept M s (t.pcs e tx bs).2 := by
  dsimp only [State.pcs]
  split
  · exact h
  · refine .branchSnd (.pair h.set) ?_
    split
    · next e => exact h.set.wtEvent.snd_eq e
    · next e => exact .branchSnd (.pair (h.set.wtEvent.snd_eq e)) (.branchSnd (.pair (h.set.wtEvent.snd_eq e))
        (.branchSnd (.pair (h.set.wtEvent.snd_eq e)) (.branchSnd (.pair (h.set.wtEvent.snd_eq e).set) (.pair (h.set.wtEvent.snd_eq e)))))

/-! ### ZxCfg -/

theorem setReg (h : StoresKept M s t) {r i w} (hr : r.apart = true := by exact rfl) : StoresKept M s (t.setReg r i w) :=
  h.foldlMem fun _ f hf h => h.wr (List.all_eq_true.mp hr f hf)

theorem sendImage (h : StoresKept M s t) {p gen img} : StoresKept M s (t.sendImage p gen img) :=
  h.foldl fun _ _ h => h.zxInternal

theorem stageZx (h : StoresKept M s t) {p gen c} : StoresKept M s (t.stageZx p gen c) := by
  dsimp only [State.stageZx]
  exact .zxInternal (by split; exacts [h.foldl fun _ _ h => h.zxInternal, (h.foldl fun _ _ h => h.zxInternal).sendImage])

theorem resendGen (h : StoresKept M s t) {p} : StoresKept M s (t.resendGen p) := by
  dsimp only [State.resendGen]
  split
  · exact h
  · exact h.stageZx.zxInternal.setDie

theorem refreshGrs (h : StoresKept M s t) {p} : StoresKept M s (t.refreshGrs p) := by
  dsimp only [State.refreshGrs]
  split
  · exact h
  · exact h.sendImage.zxInternal

theorem sendRun (h : StoresKept M s t) {p} : StoresKept M s (t.sendRun p) :=
  .branch h.resendGen h.refreshGrs

/-! ### ZxOps -/

theorem irq (h : StoresKept M s t) {f} (hf : f.apart = true := by exact rfl) : StoresKept M s (t.irq f) :=
  h.wr hf

theorem zxAlarmAt (h : StoresKept M s t) {sub detail extra stamp epoch} : StoresKept M s (t.zxAlarmAt sub detail extra stamp epoch) :=
  h.enqueue

theorem zxAlarm (h : StoresKept M s t) {sub detail extra} : StoresKept M s (t.zxAlarm sub detail extra) :=
  h.zxAlarmAt

theorem setTap (h : StoresKept M s t) {t' x} : StoresKept M s (t.setTap t' x) :=
  h.set

theorem setTrc (h : StoresKept M s t) {n b} : StoresKept M s (t.setTrc n b) :=
  h.set

theorem gaps (h : StoresKept M s t) {n} : StoresKept M s (t.gaps n) :=
  .branch h h.ls.irq

theorem putTrc (h : StoresKept M s t) {n x} : StoresKept M s (t.putTrc n x) :=
  h.setTrc.gaps

theorem hwRequest (h : StoresKept M s t) {buf cause} : StoresKept M s (t.hwRequest buf cause) :=
  .branch h.zxAlarm (.branch h.set h.set)

theorem sendHwReqs (h : StoresKept M s t) : StoresKept M s t.sendHwReqs :=
  h.set.foldl fun _ _ h => h.zxAlarmAt

theorem trigger (h : StoresKept M s t) {n cause} : StoresKept M s (t.trigger n cause) := by
  dsimp only [State.trigger]
  split
  · exact h
  · exact h.putTrc.ls
  · exact h.setTrc.hwRequest

theorem triggerSource (h : StoresKept M s t) {src p} : StoresKept M s (t.triggerSource src p) :=
  h.foldl fun _ _ h1 => .branch h1.trigger h1

theorem epochMark (h : StoresKept M s t) {n} : StoresKept M s (t.epochMark n) := by
  dsimp only [State.epochMark]
  split
  · exact h
  · exact h.putTrc

theorem orphanBursts (h : StoresKept M s t) {n} : StoresKept M s (t.orphanBursts n) :=
  .branch h.set h

theorem trcArm (h : StoresKept M s t) {n} : StoresKept M s (t.trcArm n) :=
  .branch h (.branch h.setTrc.wr.wr h.setTrc.wr.wr.epochMark)

theorem trcRelease (h : StoresKept M s t) {n} : StoresKept M s (t.trcRelease n) :=
  .branch h (.branch h.setTrc.orphanBursts h.putTrc.orphanBursts)

theorem trcFree (h : StoresKept M s t) {n count} : StoresKept M s (t.trcFree n count) :=
  h.putTrc

theorem logRoom (h : StoresKept M s t) {size k} : StoresKept M s (t.logRoom size k) := by
  induction k generalizing t with
  | zero => exact h
  | succ k ih =>
    unfold State.logRoom
    refine .branch h ?_
    split
    · exact h
    · exact ih (.branch h.set.ls.irq h.set)

theorem modEntry (h : StoresKept M s t) {n f} : StoresKept M s (t.modEntry n f) :=
  h.set

theorem startPass (h : StoresKept M s t) {cursor floor} : StoresKept M s (t.startPass cursor floor) :=
  h.set

theorem resendUnacked (h : StoresKept M s t) : StoresKept M s t.resendUnacked := by
  dsimp only [State.resendUnacked]
  split
  · exact h
  · exact h.startPass

theorem resendFrom (h : StoresKept M s t) {f} : StoresKept M s (t.resendFrom f) := by
  dsimp only [State.resendFrom]
  split
  · exact h.startPass
  · exact h.set

theorem beginSnap (h : StoresKept M s t) {n} : StoresKept M s (t.beginSnap n) :=
  h.set

theorem endPass (h : StoresKept M s t) : StoresKept M s t.endPass := by
  dsimp only [State.endPass]
  split
  · exact h
  · exact .branch h h.set

theorem setSel (h : StoresKept M s t) {n w} : StoresKept M s (t.setSel n w) :=
  h.set

theorem loadSel (h : StoresKept M s t) : StoresKept M s t.loadSel :=
  h.set.foldl fun _ _ h => h.wr

theorem loadQw (h : StoresKept M s t) : StoresKept M s t.loadQw :=
  h.set

theorem showImage (h : StoresKept M s t) : StoresKept M s t.showImage :=
  h.wr.wr.wr.wr

theorem grsSwitch (h : StoresKept M s t) : StoresKept M s t.grsSwitch := by
  dsimp only [State.grsSwitch]
  split
  · exact h
  · exact .branch h h.set.showImage.wr

theorem declareHang (h : StoresKept M s t) {causes} : StoresKept M s (t.declareHang causes) :=
  .branch h.bump.wr h.set.wr.triggerSource

theorem releaseHang (h : StoresKept M s t) : StoresKept M s t.releaseHang :=
  .branch h (.branch h.set.wr.wr.wr.wr h.set.wr.wr.wr.wr.declareHang)

/-! ### Blaze -/

theorem blzCount (h : StoresKept M s t) {u outcome} : StoresKept M s (t.blzCount u outcome) := by
  dsimp only [State.blzCount]
  split
  · exact (StoresKept.branch h.bump h).bump
  · exact (StoresKept.branch h.bump h).bump
  · exact (StoresKept.branch h.bump h).bump
  · exact (StoresKept.branch h.bump h).bump
  · exact (StoresKept.branch h.bump h).bump
  · exact .branch h.bump h

theorem blzLast (h : StoresKept M s t) {u outcome addr tag} : StoresKept M s (t.blzLast u outcome addr tag) :=
  .branch h h.wr.wr.wr.wr

theorem blzReport (h : StoresKept M s t) {u outcome addr tag word} : StoresKept M s (t.blzReport u outcome addr tag word) :=
  .branch h.set (.branch h.set h.bump)

theorem setBlz (h : StoresKept M s t) {u x} : StoresKept M s (t.setBlz u x) :=
  h.set

theorem blzBad (h : StoresKept M s t) {u b} : StoresKept M s (t.blzBad u b) :=
  h.setBlz.blzCount.blzLast.blzReport

theorem blzBeat (h : StoresKept M s t) {u bytes ctl} : StoresKept M s (t.blzBeat u bytes ctl) :=
  .branch h (.branch h (.branch h.setBlz.blzBad (.branch (.branch h.setBlz.blzBad h.setBlz.setBlz)
    (.branch h.setBlz.blzBad (.branch h.setBlz.blzBad (.branch h.setBlz.setBlz h.setBlz.setBlz))))))

theorem blzUnverify (h : StoresKept M s t) {u addr tag word} : StoresKept M s (t.blzUnverify u addr tag word) :=
  h.blzCount.blzLast.blzReport

theorem blzCondemn (h : StoresKept M s t) {u outcome b} : StoresKept M s (t.blzCondemn u outcome b) :=
  (StoresKept.branch (StoresKept.branch (.branch h.set h.bump) h).zxAlarm.irq (StoresKept.branch (.branch h.set h.bump)
    h).zxAlarm).triggerSource.blzLast.blzReport

theorem blzInject (h : StoresKept M s t) {u b} : StoresKept M s (t.blzInject u b).2 := by
  dsimp only [State.blzInject]
  split
  · exact h
  · exact h.set.zxAlarm

theorem blazeClassify (h : StoresKept M s t) {u} : KeepsStores M s (execBlazeClassify u t) := by
  unfold execBlazeClassify
  extract_lets x₀
  split
  · exact .done h
  · extract_lets s₁
    split
    next e =>
    extract_lets x fmt w s₂ slot s₃ o s₄ s₅ s₆ free y
    have h₁ := (h.setBlz.blzInject : StoresKept M s (s₁.blzInject u _).2).snd_eq e
    have h₂ : StoresKept M s s₂ := .branch h₁.bump h₁
    have h₃ : StoresKept M s s₃ := by
      dsimp only [s₃]
      clear_value slot
      cases slot with
      | none => exact h₁
      | some k => exact h₁.setBlz
    have h₄ : StoresKept M s s₄ := .branch h₃.bump h₃
    have h₅ : StoresKept M s s₅ := h₄.ls.blzCount
    refine .branch (.done h₂.ls.blzCount.blzReport) (.branch ?_ (.branch (.branch (.done h₅.blzReport) (.done h₅)) (.done h₅.ls.blzCondemn)))
    clear_value slot free
    split
    · exact .done h₅.ls.setBlz.blzLast.blzReport
    · exact .done h₅.ls.blzUnverify

theorem blzExpire (h : StoresKept M s t) {u k} : StoresKept M s (t.blzExpire u k) := by
  dsimp only [State.blzExpire]
  split
  · exact h
  · exact h.setBlz.blzUnverify

theorem blazeRefetchTimeout (h : StoresKept M s t) {u k} : KeepsStores M s (execBlazeRefetchTimeout u k t) := by
  dsimp only [execBlazeRefetchTimeout]
  split
  · exact .done h
  · exact .branch (.done h) (.done h.blzExpire)

theorem blzFlushRf (h : StoresKept M s t) {u} : KeepsStores M s (execBlzFlushRf u t) := by
  dsimp only [execBlzFlushRf]
  exact .done (h.foldl fun _ _ h1 => by split; exacts [h1, .branch h1 h1.blzExpire])

theorem blzCntClr (h : StoresKept M s t) {u} : KeepsStores M s (execBlzCntClr u t) :=
  .done h.wr.wr.wr.wr.wr.wr

theorem blzWrite (h : StoresKept M s t) {u which v} : StoresKept M s (t.blzWrite u which v).2 := by
  dsimp only [State.blzWrite]
  exact .branchSnd (.pair h) (.pair (h.setReg (Reg.apart_of_blaze which)))

theorem blzCfgWrite (h : StoresKept M s t) {part u which v} : KeepsStores M s (execBlzCfgWrite part u which v t) :=
  .branch (.done h.blzWrite) (.branch (.done h) (.branch (.done h.blzWrite.emit) (.done h.blzWrite.ls.emit)))

/-! ### Ingress -/

theorem mirror (h : StoresKept M s t) {m epoch} : StoresKept M s (t.mirror m epoch).2 := by
  dsimp only [State.mirror]
  split
  · exact h
  · exact h.sendMsg

theorem sendAdmit (h : StoresKept M s t) {p} : StoresKept M s (t.sendAdmit p) :=
  h.zxInternal

theorem assignInc (h : StoresKept M s t) {p} : StoresKept M s (t.assignInc p) :=
  .branch h.set (.branch h.mirror.setDie.wr.sendAdmit h.mirror.setDie.wr)

theorem emitPartial (h : StoresKept M s t) {c p dst} : StoresKept M s (t.emitPartial c p dst) :=
  h.sendMsg.bump.set.mirror

theorem setCtx (h : StoresKept M s t) {x} : StoresKept M s (t.setCtx x) :=
  h.set

theorem recomputePartial (h : StoresKept M s t) {n k} : StoresKept M s (t.recomputePartial n k) :=
  h.emitPartial

theorem recomputeOpen (h : StoresKept M s t) {x} : StoresKept M s (t.recomputeOpen x) :=
  .branch h (h.setCtx.foldl fun _ _ h => h.recomputePartial)

theorem mismatch (h : StoresKept M s t) {p n} : StoresKept M s (t.mismatch p n) := by
  dsimp only [State.mismatch]
  split
  · exact h.resendGen
  · exact .branch h.resendGen h

theorem countRow (h : StoresKept M s t) {row} : StoresKept M s (t.countRow row) := by
  dsimp only [State.countRow]
  split
  · exact h.bump
  · exact h.bump
  · exact h.bump
  · exact h.bump
  · exact h

theorem setRow (h : StoresKept M s t) {d n row} : StoresKept M s (t.setRow d n row) :=
  h.set

theorem classify (h : StoresKept M s t) {d n b} : StoresKept M s (t.classify d n b) := by
  dsimp only [State.classify]
  split
  · exact .branch h.countRow.setRow.mismatch h.countRow.setRow
  · exact .branch (.branch (StoresKept.branch h.countRow.setRow.mismatch h.countRow.setRow).setCtx.recomputePartial
      (StoresKept.branch h.countRow.setRow.mismatch h.countRow.setRow).setCtx) (StoresKept.branch h.countRow.setRow.mismatch
          h.countRow.setRow).setCtx

theorem classifyHeld (h : StoresKept M s t) {n} : StoresKept M s (t.classifyHeld n) :=
  h.foldl fun _ _ h => h.classify

theorem advanceAck (h : StoresKept M s t) {d} : StoresKept M s (t.advanceAck d) :=
  .branch h h.set.modLink

theorem freeLog (h : StoresKept M s t) {k n} : StoresKept M s (freeLog k t n) := by
  induction k generalizing t with
  | zero => exact h
  | succ k ih =>
    unfold Machine.freeLog
    refine .branch h ?_
    split
    · exact h
    · exact ih h.set

theorem askResend (h : StoresKept M s t) {d n} : StoresKept M s (t.askResend d n) :=
  h.zxInternal

theorem dropHeld (h : StoresKept M s t) {d n} : StoresKept M s (t.dropHeld d n) := by
  dsimp only [State.dropHeld]
  split
  · exact h
  · exact h.set.bump.askResend

theorem noteLack (h : StoresKept M s t) {d n} : StoresKept M s (t.noteLack d n) :=
  h.setDie

theorem ilogFreed (h : StoresKept M s t) : StoresKept M s t.ilogFreed := by
  dsimp only [State.ilogFreed]
  exact h.foldl fun _ _ h => by split; exacts [h.askResend, h]

theorem afterCommitLog (h : StoresKept M s t) : StoresKept M s t.afterCommitLog :=
  .branch (.branch h.freeLog.ilogFreed h.freeLog) h

theorem storeSnap (h : StoresKept M s t) {d b} : StoresKept M s (t.storeSnap d b) :=
  .branch h.freeLog.bump.noteLack (StoresKept.branch (StoresKept.branch h.freeLog.mirror.set.setDie h.freeLog.mirror.set).classify
    (.branch h.freeLog.mirror.set.setDie h.freeLog.mirror.set)).advanceAck

theorem setCorDie (h : StoresKept M s t) {d x} : StoresKept M s (t.setCorDie d x) :=
  h.set

theorem hear (h : StoresKept M s t) {d n} : StoresKept M s (t.hear d n) :=
  .branch h h.setCorDie

theorem noteSeen (h : StoresKept M s t) {d n} : StoresKept M s (t.noteSeen d n) := by
  dsimp only [State.noteSeen]
  split
  · exact h
  · exact h.setCtx

theorem takeSnap (h : StoresKept M s t) {d b resent poison} : StoresKept M s (t.takeSnap d b resent poison) := by
  dsimp only [State.takeSnap]
  refine .branch h.bump.noteSeen.noteLack.askResend (.branch h.bump.noteSeen (.branch h.viol (.branch h.hear.setDie.viol ?_)))
  split
  · exact .branch (StoresKept.branch h.hear.setDie h.hear.setDie.set).bump (StoresKept.branch h.hear.setDie h.hear.setDie.set).viol.signal
  · exact (StoresKept.branch h.hear.setDie h.hear.setDie.set).storeSnap

theorem judgeInc (h : StoresKept M s t) {p id} : StoresKept M s (t.judgeInc p id) :=
  .branch h.set (StoresKept.branch h.assignInc h.sendAdmit).setDie.sendRun

theorem releaseIncs (h : StoresKept M s t) : StoresKept M s t.releaseIncs :=
  .branch (h.set.foldl fun _ _ h => h.judgeInc) h

theorem recomputeAll (h : StoresKept M s t) : StoresKept M s t.recomputeAll := by
  dsimp only [State.recomputeAll]
  exact h.foldl fun _ _ h => by split; exacts [h, h.recomputeOpen]

/-! ### LookoutOps -/

theorem fenceDie (h : StoresKept M s t) {d cause} : StoresKept M s (t.fenceDie d cause) :=
  .branch h.wr.signal.draw.detect (.branch h h.setDie.set.wr.wr.wr.setCorDie.signal.broadcastAlarm)

theorem issueTest (h : StoresKept M s t) {c d unit reason n pre bin} : StoresKept M s (t.issueTest c d unit reason n pre bin) :=
  h.set.wr.wr.wr.bump.setCorDie.post

theorem testFor (h : StoresKept M s t) {d r n} : StoresKept M s (t.testFor d r n) := by
  dsimp only [State.testFor]
  refine .branch h ?_
  split <;> exact h.issueTest

theorem noteReason (h : StoresKept M s t) {d r n set} : StoresKept M s (t.noteReason d r n set) :=
  h.wr.setCorDie

theorem setReason (h : StoresKept M s t) {d r n} : StoresKept M s (t.setReason d r n) :=
  .branch h h.noteReason.testFor

theorem setDrift (h : StoresKept M s t) {d r n chan bin} : StoresKept M s (t.setDrift d r n chan bin) := by
  dsimp only [State.setDrift]
  exact .branch h (.setReason (by split; exacts [h.setCorDie, h.setCorDie.wr.wr]))

theorem clearReasons (h : StoresKept M s t) {d mask} : StoresKept M s (t.clearReasons d mask) :=
  .branch h.wr.setCorDie h.wr.setCorDie.wr.wr

theorem mirrorDie (h : StoresKept M s t) {d} : StoresKept M s (t.mirrorDie d) :=
  h.mirror.set

theorem restoreDie (h : StoresKept M s t) {d x} : StoresKept M s (t.restoreDie d x) :=
  h.setReg.setReg.setCorDie

theorem lastTest (h : StoresKept M s t) {id} : StoresKept M s (t.lastTest id) :=
  .branch h.set h

theorem resetCorr (h : StoresKept M s t) {d} : StoresKept M s (t.resetCorr d) :=
  h.clearReasons.wr.wr.wr.wr.wr.wr.setCorDie

theorem readmit (h : StoresKept M s t) {d} : StoresKept M s (t.readmit d) :=
  (StoresKept.branch h.resetCorr.assignInc.setDie.set.setReason h.resetCorr.assignInc.setDie.set).sendRun.broadcastAlarm

theorem sendProbe (h : StoresKept M s t) {d tries origins} : StoresKept M s (t.sendProbe d tries origins) :=
  h.zxSend.setCorDie

theorem startProbe (h : StoresKept M s t) {d origin} : StoresKept M s (t.startProbe d origin) := by
  dsimp only [State.startProbe]
  split
  · exact h.setCorDie
  · exact h.wr.sendProbe

theorem endProbe (h : StoresKept M s t) {d alive} : StoresKept M s (t.endProbe d alive) := by
  dsimp only [State.endProbe]
  split
  · exact h
  · exact h.wr.setCorDie.foldl fun _ _ h1 => .branch h1.reply h1.reply

theorem lookDie (h : StoresKept M s t) {n d} : StoresKept M s (t.lookDie n d) :=
  .branch (.branch h.setCorDie.setCorDie.wr.readmit h.setCorDie.setCorDie.wr) (.branch h.setCorDie.wr
    (.branch h.setCorDie (.branch h.setCorDie.wr.wr (.branch h.setCorDie.wr.wr.startProbe (.branch h.setCorDie.wr h.setCorDie.wr.fenceDie)))))

theorem lookoutUpdate (h : StoresKept M s t) {n} : StoresKept M s (t.lookoutUpdate n) :=
  h.foldl fun _ _ h => h.lookDie

theorem healthDie (h : StoresKept M s t) {n r d} : StoresKept M s (t.healthDie n r d) := by
  dsimp only [State.healthDie]
  split
  · exact .branch h.setCorDie.setReason h.setCorDie
  · exact h.setCorDie
  · exact h

theorem healthUpdate (h : StoresKept M s t) {n r} : StoresKept M s (t.healthUpdate n r) :=
  h.foldl fun _ _ h1 => h1.healthDie

theorem takeDigest (h : StoresKept M s t) {g} : StoresKept M s (t.takeDigest g) :=
  h.set

theorem sendDigests (h : StoresKept M s t) {agg n snap r} : StoresKept M s (t.sendDigests agg n snap r) :=
  h.foldl fun _ _ h1 => .branch h1.takeDigest h1.sendMsg

theorem groupsDue (h : StoresKept M s t) {n} : StoresKept M s (t.groupsDue n) :=
  h.set

/-! ### Queues -/

theorem setQueue (h : StoresKept ⟨H, G, U, false, E, L, D⟩ s t) {k q} : StoresKept ⟨H, G, U, false, E, L, D⟩ s (t.setQueue k q) :=
  h.putQueues

theorem writePort (h : StoresKept M s t) {k q w} : StoresKept M s (t.writePort k q w).2 := by
  dsimp only [State.writePort]
  refine .branchSnd (.pair h) ?_
  split
  · next e => exact h.wtEvent.snd_eq e
  · next e => exact .branchSnd (.pair (h.wtEvent.snd_eq e)) (.branchSnd (.pair (h.wtEvent.snd_eq e)) (.pair (h.wtEvent.snd_eq e)))

theorem pushWord (h : StoresKept ⟨H, G, U, false, E, L, D⟩ s t) {k q w} : StoresKept ⟨H, G, U, false, E, L, D⟩ s (t.pushWord k q w).2 := by
  dsimp only [State.pushWord]
  split
  · exact h.setQueue
  · exact .branch h.setQueue.emit h.setQueue
  · exact h.writePort.setQueue

theorem pushFirst (h : StoresKept ⟨H, G, U, false, E, L, D⟩ s t) {k h'} : StoresKept ⟨H, G, U, false, E, L, D⟩ s (t.pushFirst k h') := by
  dsimp only [State.pushFirst]
  split
  · exact h
  · exact .branch h.setQueue h.pushWord

theorem pushHeld (h : StoresKept ⟨H, G, U, false, E, L, D⟩ s t) {k h'} : StoresKept ⟨H, G, U, false, E, L, D⟩ s (t.pushHeld k h') :=
  h.foldl fun _ _ h1 => h1.pushFirst

theorem queueEdge (h : StoresKept ⟨H, G, U, false, E, L, D⟩ s t) {k h' write}
    : StoresKept ⟨H, G, U, false, E, L, D⟩ s (t.queueEdge k h' write) :=
  .branch h.setQueue.pushFirst h.setQueue

theorem queueEdges (h : StoresKept ⟨H, G, U, false, E, L, D⟩ s t) {k h' we re}
    : StoresKept ⟨H, G, U, false, E, L, D⟩ s (t.queueEdges k h' we re) :=
  h.foldl fun _ _ h => h.queueEdge

theorem present (h : StoresKept ⟨H, G, U, false, E, L, D⟩ s t) {k h' w} : StoresKept ⟨H, G, U, false, E, L, D⟩ s (t.present k h' w) :=
  .branch h.setQueue.queueEdge h.setQueue.pushHeld

theorem queuePush (h : StoresKept ⟨H, G, U, false, E, L, D⟩ s t) {k h' data x last we re}
    : KeepsStores ⟨H, G, U, false, E, L, D⟩ s (execQueuePush k h' data x last we re t) :=
  .done h.queueEdges.present

theorem queuePop (h : StoresKept ⟨H, G, U, false, E, L, D⟩ s t) {k h' we re}
    : KeepsStores ⟨H, G, U, false, E, L, D⟩ s (execQueuePop k h' we re t) :=
  .done (.branch (.branch h.queueEdges.setQueue.ls h.queueEdges.setQueue) (StoresKept.branch h.queueEdges.setQueue.ls
      h.queueEdges.setQueue).pushHeld)

theorem packetCancel (h : StoresKept ⟨H, G, U, false, E, L, D⟩ s t) {k h' we re}
    : KeepsStores ⟨H, G, U, false, E, L, D⟩ s (execPacketCancel k h' we re t) :=
  .done h.queueEdges.present

theorem queueCntClr (h : StoresKept ⟨H, G, U, false, E, L, D⟩ s t) {k} : KeepsStores ⟨H, G, U, false, E, L, D⟩ s (execQueueCntClr k t) := by
  dsimp only [execQueueCntClr]
  split
  · exact .done h
  · exact .done h.setQueue

theorem crossWords (h : StoresKept ⟨H, G, U, false, E, L, D⟩ s t) {k h' ws} : StoresKept ⟨H, G, U, false, E, L, D⟩ s (t.crossWords k h' ws).2 :=
  h.setQueue

theorem crossIn (h : StoresKept ⟨H, G, U, false, E, L, D⟩ s t) {p ty bs} : StoresKept ⟨H, G, U, false, E, L, D⟩ s (t.crossIn p ty bs).2 := by
  dsimp only [State.crossIn]
  split
  · exact h.crossWords
  · exact h.foldlSnd fun _ _ hp => hp.crossWords

/-! ### Stem -/

theorem failAttempt (h : StoresKept M s t) {e} : StoresKept M s (t.failAttempt e) :=
  h.modLink.setLstate

theorem countFlushed (h : StoresKept M s t) {e n} : StoresKept M s (t.countFlushed e n) := by
  dsimp only [State.countFlushed]
  split
  · exact h.bump
  · exact h.bump
  · exact h

theorem recoverFlushed (h : StoresKept M s t) {held} : StoresKept M s (t.recoverFlushed held) :=
  (StoresKept.branch (h.foldl fun _ _ h => h.enqueue).modLink (h.foldl fun _ _ h => h.enqueue)).foldl fun _ _ h1 => .branch h1 h1.putTrc

theorem enterActive (h : StoresKept M s t) {e fresh rxNext peerFresh peerActive} :
    StoresKept M s (t.enterActive e fresh rxNext peerFresh peerActive) := by
  unfold State.enterActive
  extract_lets l s₁ s₂ n s₃ s₄ s₅ s₆
  have h₂ : StoresKept M s s₂ := h.countFlushed.modLink
  have h₃ : StoresKept M s s₃ := by
    refine .branch ?_ h.modLink
    split
    · exact h₂.recoverFlushed
    · extract_lets u₁ u₂
      have hu : StoresKept M s u₁ := .branch h₂.flushZx h₂
      exact (StoresKept.branch hu.wtZxOff hu).zxFirst
    · exact h₂.setPort
  have h₆ : StoresKept M s s₆ := h₃.modLink.setLstate.modLink
  split
  · exact h₆.setPstate.sendHello
  · exact h₆.sendHwReqs.resendUnacked
  · exact h₆

theorem linkResetDone (h : StoresKept M s t) {e} : KeepsStores M s (execLinkResetDone e t) :=
  .branch (.branch (.done h.enterActive) (.done h.setLstate)) (.done h)

theorem linkLockDone (h : StoresKept M s t) {e} : KeepsStores M s (execLinkLockDone e t) :=
  .branch (.done h.modLink.setLstate) (.done h)

theorem linkAlignDone (h : StoresKept M s t) {e a} : KeepsStores M s (execLinkAlignDone e a t) :=
  .branch (.done h.modLink.setLstate) (.done h)

theorem linkParamDone (h : StoresKept M s t) {e lane0 lane3 rxNext peer} : KeepsStores M s (execLinkParamDone e lane0 lane3 rxNext peer t) :=
  .branch (.branch (.done (StoresKept.branch h h.viol).enterActive) (.done h.viol.failAttempt)) (.done h)

theorem linkTrainTimeout (h : StoresKept M s t) {e} : KeepsStores M s (execLinkTrainTimeout e t) := by
  dsimp only [execLinkTrainTimeout]
  split
  · exact .done h.failAttempt
  · exact .done h.failAttempt
  · exact .done h.failAttempt
  · exact .done h

theorem linkDownHoldExpiry (h : StoresKept M s t) {e} : KeepsStores M s (execLinkDownHoldExpiry e t) :=
  .branch (.done h.modLink.setLstate) (.done h)

theorem linkLockLoss (h : StoresKept M s t) {e locks} : KeepsStores M s (execLinkLockLoss e locks t) :=
  .done (.branch h h.modLink.retrain)

theorem linkMarkerMiss (h : StoresKept M s t) {m} : KeepsStores M s (execLinkMarkerMiss m t) :=
  .branch (.done h) (.branch (.done h.modLink.retrain) (.done h.modLink))

theorem linkNoFlitTimeout (h : StoresKept M s t) {e} : KeepsStores M s (execLinkNoFlitTimeout e t) :=
  .done h.retrain

theorem zxStmRetrainWrite (h : StoresKept M s t) {v} : KeepsStores M s (execZxStmRetrainWrite v t) :=
  .done (.branch h.retrain h)

theorem stemPortRetrainWrite (h : StoresKept M s t) {p} : KeepsStores M s (execStemPortRetrainWrite p t) :=
  .done (.branch h.retrain h)

theorem stemPortHoldWrite (h : StoresKept M s t) {p hold} : KeepsStores M s (execStemPortHoldWrite p hold t) :=
  .done (.branch h.setHold h)

theorem cnpPortRetrainWrite (h : StoresKept M s t) {q} : KeepsStores M s (execCnpPortRetrainWrite q t) :=
  .done (.branch h.retrain h)

theorem cnpPortHoldWrite (h : StoresKept M s t) {q hold} : KeepsStores M s (execCnpPortHoldWrite q hold t) :=
  .done (.branch h.setHold h)

theorem stemPortCtrl (h : StoresKept M s t) {c} : KeepsStores M s (execStemPortCtrl c t) :=
  .done (h.checked (.branch h.reply (StoresKept.branch (StoresKept.branch h.wr.setHold h.wr).retrain (.branch h.wr.setHold h.wr)).reply))

theorem nak (h : StoresKept M s t) {e} : StoresKept M s (t.nak e) :=
  .branch h h.modLink

theorem applyAck (h : StoresKept M s t) {e a} : StoresKept M s (t.applyAck e a) :=
  .branch h.modLink (.branch h h.viol)

theorem resendDue (h : StoresKept M s t) {e from_} : StoresKept M s (t.resendDue e from_) :=
  .branch h (.branch h.retrain h.modLink)

theorem reassemble (h : StoresKept M s t) {e h' payload} : StoresKept M s (t.reassemble e h' payload) := by
  dsimp only [State.reassemble]
  refine .branch h.modLink.malformed ?_
  split
  · exact .branch h.modLink.malformed (.branch (.branch h.modLink h.modLink.malformed) (.branch h.modLink h.modLink.malformed))
  · exact .branch h.modLink.malformed (.branch (.branch h.modLink h.modLink.malformed) (.branch h.modLink.malformed (.branch h.modLink
      h.modLink)))

theorem freeBuf (h : StoresKept M s t) {q vc} : StoresKept M s (t.freeBuf q vc) :=
  h.setPort

theorem dropBuf (h : StoresKept M s t) {e h'} : StoresKept M s (t.dropBuf e h') := by
  dsimp only [State.dropBuf]
  split
  · exact .branch h h.setPort
  · exact h

theorem canopyContent (h : StoresKept M s t) {q h' payload} : StoresKept M s (t.canopyContent q h' payload) := by
  dsimp only [State.canopyContent]
  refine .branch h.bump.violation.freeBuf (.branch h.viol.freeBuf (.branch h.reassemble.freeBuf (.branch h.bump.violation.freeBuf ?_)))
  split
  · next e => exact (h.outPort.snd_eq e).violation.freeBuf
  · next e => exact (h.outPort.snd_eq e).enqueue

theorem deliver (h : StoresKept M s t) {e h' payload} : StoresKept M s (t.deliver e h' payload) := by
  dsimp only [State.deliver]
  split
  · exact .branch (StoresKept.branch h.set h).malformed.dropBuf (.branch (StoresKept.branch h.set h).setPort
      (.branch (.branch h.set h) (StoresKept.branch h.set h).setPort.canopyContent))
  · exact .branch h.malformed (.branch h h.reassemble)

theorem countCrc (h : StoresKept M s t) {e} : StoresKept M s (t.countCrc e) := by
  dsimp only [State.countCrc]
  split
  · exact h.ls
  · exact h.bump

theorem countSeq (h : StoresKept M s t) {e} : StoresKept M s (t.countSeq e) := by
  dsimp only [State.countSeq]
  split
  · exact h.ls
  · exact h.bump

theorem creditViol (h : StoresKept M s t) {e} : StoresKept M s (t.creditViol e) :=
  h.bump.countViol.violation.nak.escalate

theorem receiveUnseq (h : StoresKept M s t) {e h' payload} : StoresKept M s (t.receiveUnseq e h' payload) := by
  unfold State.receiveUnseq
  extract_lets ok s₁ s₂
  have h₁ : StoresKept M s s₁ := .branch h.applyAck h
  have h₂ : StoresKept M s s₂ := .branch h₁.ls h₁
  exact .branch h₁.malformed (.branch (.branch h₂.resendDue h₂) (.branch h₁.creditViol h₁.deliver))

theorem accept (h : StoresKept M s t) {e h' payload stomped} : StoresKept M s (t.accept e h' payload stomped) :=
  .branch h.creditViol (.branch (StoresKept.branch h.modLink.applyAck h.modLink).dropBuf (StoresKept.branch h.modLink.applyAck
      h.modLink).deliver)

theorem receiveSeq (h : StoresKept M s t) {e h' payload stomped} : StoresKept M s (t.receiveSeq e h' payload stomped) :=
  .branch h.accept (.branch h.countSeq.nak (.branch (.branch h.modLink.bump h.modLink) h.viol))

theorem headerCredit (h : StoresKept M s t) {e h'} : StoresKept M s (t.headerCredit e h') := by
  dsimp only [State.headerCredit]
  split
  · exact h.setPort
  · exact h

theorem receive (h : StoresKept M s t) {e bs} : StoresKept M s (t.receive e bs) := by
  dsimp only [State.receive]
  split
  · exact h.countCrc.nak
  · exact .branch (StoresKept.branch h.modLink.bump h.modLink.headerCredit).receiveSeq
      (.branch (StoresKept.branch h.modLink.bump h.modLink.headerCredit).dropBuf (StoresKept.branch h.modLink.bump
          h.modLink.headerCredit).receiveUnseq)

theorem flitIn (h : StoresKept ⟨H, G, U, false, E, L, D⟩ s t) {e bs} : StoresKept ⟨H, G, U, false, E, L, D⟩ s (t.flitIn e bs) := by
  dsimp only [State.flitIn]
  split
  · exact .branch h.receive (.branch h.crossIn.receive h.crossIn.nak)
  · exact h.receive

theorem flitReceive (h : StoresKept ⟨H, G, U, false, E, L, D⟩ s t) {e words}
    : KeepsStores ⟨H, G, U, false, E, L, D⟩ s (execFlitReceive e words t) :=
  .branch (.done (h.rxFlit.pcs.foldl fun _ _ h => h.flitIn)) (.done h)

theorem nakTimerExpiry (h : StoresKept M s t) {e} : KeepsStores M s (execNakTimerExpiry e t) :=
  .done h.modLink

theorem replayTimerExpiry (h : StoresKept M s t) {e} : KeepsStores M s (execReplayTimerExpiry e t) :=
  .branch (.done h.resendDue) (.done h)

theorem ackTimerExpiry (h : StoresKept M s t) {e} : KeepsStores M s (execAckTimerExpiry e t) :=
  .done h.modLink

/-! ### Warden -/

theorem begin (h : StoresKept M s t) {op c relay} : StoresKept M s (t.begin op c relay) :=
  h.set

theorem dispatchCap (h : StoresKept M s t) {h' c host} : StoresKept M s (t.dispatchCap h' c host) := by
  dsimp only [State.dispatchCap]
  split
  · exact .branch (StoresKept.branch h.begin.bump h.begin).reply.violation (StoresKept.branch h.begin.bump h.begin).reply
  · exact .branch h.begin.sendMsg (.branch h.begin.toZx h.begin)

theorem haltQp (h : StoresKept M s t) {i err row} : StoresKept M s (t.haltQp i err row) :=
  h.wr.wr.violation

theorem sqDoorbell (h : StoresKept M s t) {f q tail} : KeepsStores M s (execSqDoorbell f q tail t) :=
  .branch (.done h) (.branch (.done h.wr.haltQp) (.done h.wr))

theorem cqHeadWrite (h : StoresKept M s t) {f q head} : KeepsStores M s (execCqHeadWrite f q head t) :=
  .branch (.done h) (.branch (.done h.wr.haltQp) (.done h.wr))

theorem evHeadWrite (h : StoresKept M s t) {f head} : KeepsStores M s (execEvHeadWrite f head t) :=
  .branch (.done h) (.branch (.done h.bump.violation) (.done h.wr.ringService))

theorem qpEnable (h : StoresKept M s t) {f q} : KeepsStores M s (execQpEnable f q t) :=
  .branch (.done h) (.done h.wr.wr.wr.wr.wr.set)

theorem disableQp (h : StoresKept M s t) {i} : StoresKept M s (t.disableQp i) :=
  h.wr.wr.bump.set

theorem qpDisable (h : StoresKept M s t) {f q} : KeepsStores M s (execQpDisable f q t) :=
  .branch (.done h) (.done h.disableQp)

theorem disableRing (h : StoresKept M s t) {f} : StoresKept M s (t.disableRing f) :=
  h.wr.setRing

theorem flr (h : StoresKept ⟨false, G, U, Q, E, L, D⟩ s t) {f} : KeepsStores ⟨false, G, U, Q, E, L, D⟩ s (execFlr f t) :=
  .branch (.done h) (.done ((h.foldl fun _ _ h => h.disableQp).disableRing.foldl fun _ _ h1 => .branch h1.setHbm.wr.wr h1).postAll)

theorem served (h : StoresKept M s t) {f q} : StoresKept M s (t.served f q) :=
  h.set

theorem capsuleFetch (h : StoresKept M s t) {ws block data err poison host}
    : KeepsStores M s (execCapsuleFetch ws block data err poison host t) := by
  dsimp only [execCapsuleFetch]
  split
  · exact .done h
  · exact .branch (.done h.haltQp) (.branch (.done h.wr.served.bump.bump.bump.signal) (.done h.wr.served.bump.dispatchCap))

theorem endProg (h : StoresKept M s t) {r} : StoresKept M s (t.endProg r) :=
  h.set

theorem writeReply (h : StoresKept M s t) {cqErr} : StoresKept M s (t.writeReply cqErr) := by
  dsimp only [State.writeReply]
  split
  · exact h
  · refine .branch h.set ?_
    split
    · exact .branch (.haltQp (by split; exacts [h.set.endProg, h.set.endProg.emit]))
        (.branch (.emit (.set (.wr (.emit (by split; exacts [h.set.endProg, h.set.endProg.emit])))))
        (.set (.wr (.emit (by split; exacts [h.set.endProg, h.set.endProg.emit])))))
    · exact h.set.endProg.set.foldl fun _ _ h => h.emit
    · exact h.set.endProg.sendMsg
    · exact h.set.endProg

theorem capsuleReply (h : StoresKept M s t) {cqErr} : KeepsStores M s (execCapsuleReply cqErr t) :=
  .done h.writeReply

theorem writeReplies (h : StoresKept M s t) : StoresKept M s t.writeReplies :=
  h.foldl fun _ _ h => h.writeReply

theorem execTimeout (h : StoresKept M s t) : KeepsStores M s (execExecTimeout t) :=
  .done (h.foldl fun _ _ h => h.reply)

theorem relayFail (h : StoresKept M s t) {p} : StoresKept M s (t.relayFail p) :=
  (h.foldl fun _ _ h => h.reply).set

theorem relayTimeout (h : StoresKept M s t) : KeepsStores M s (execRelayTimeout t) :=
  .done h.relayFail

theorem relayedCapsuleReceive (h : StoresKept M s t) {e src ws block data} : KeepsStores M s (execRelayedCapsuleReceive e src ws block data t) :=
  .done h.consume.dispatchCap

theorem relayedReplyReceive (h : StoresKept M s t) {e src ws} : KeepsStores M s (execRelayedReplyReceive e src ws t) := by
  dsimp only [execRelayedReplyReceive]
  split
  · exact .done h.consume
  · exact .done h.consume.set.reply

theorem eventPost (h : StoresKept M s t) {f kind body} : KeepsStores M s (execEventPost f kind body t) :=
  .done (.branch h.post h)

theorem mctpViol (h : StoresKept M s t) {row} : StoresKept M s (t.mctpViol row) := by
  dsimp only [State.mctpViol]
  exact .violation (by split <;> exact h.bump)

theorem mctpCapsule (h : StoresKept M s t) {m} : StoresKept M s (t.mctpCapsule m) :=
  .branch h.mctpViol (StoresKept.branch h.set.mctpViol h.set).dispatchCap

theorem mctpMessage (h : StoresKept M s t) {m} : StoresKept M s (t.mctpMessage m) :=
  .branch h.mctpCapsule (.branch h h.mctpViol)

theorem mctpMessageCmd (h : StoresKept M s t) {pecOk som eom seq body} : KeepsStores M s (execMctpMessage pecOk som eom seq body t) := by
  dsimp only [execMctpMessage]
  refine .branch (.done h.mctpViol) ?_
  split
  · exact .done h.set.mctpViol
  · exact .branch (.done h.set.mctpViol) (.branch (.done h.set.mctpMessage) (.done h.set))

theorem mctpControl (h : StoresKept M s t) {code fields} : StoresKept M s (t.mctpControl code fields) :=
  h.emit

theorem setEndpointId (h : StoresKept M s t) {eid} : KeepsStores M s (execSetEndpointId eid t) :=
  .done h.set.mctpControl

theorem getEndpointId (h : StoresKept M s t) : KeepsStores M s (execGetEndpointId t) :=
  .done h.mctpControl

theorem getEndpointUuid (h : StoresKept M s t) : KeepsStores M s (execGetEndpointUuid t) :=
  .done h.mctpControl

theorem getMctpVersionSupport (h : StoresKept M s t) {ty} : KeepsStores M s (execGetMctpVersionSupport ty t) :=
  .done h.mctpControl

theorem getMessageTypeSupport (h : StoresKept M s t) : KeepsStores M s (execGetMessageTypeSupport t) :=
  .done h.mctpControl

theorem sysNop (h : StoresKept M s t) {c} : KeepsStores M s (execSysNop c t) :=
  .done (h.checked h.reply)

theorem sysInfo (h : StoresKept M s t) {c} : KeepsStores M s (execSysInfo c t) :=
  .done (h.checked h.reply)

theorem sysStatus (h : StoresKept M s t) {c} : KeepsStores M s (execSysStatus c t) :=
  .done (h.checked h.reply)

theorem setFw (h : StoresKept M s t) {fw} : StoresKept M s (t.setFw fw) :=
  h.set

theorem fwFinish (h : StoresKept M s t) {img} : StoresKept M s (t.fwFinish img).2 := by
  dsimp only [State.fwFinish]
  exact .branchSnd (.pair (StoresKept.branch h.setFw.wr h.setFw).wr) (.pair (StoresKept.branch h.setFw.wr h.setFw).wr)

theorem fwPiece (h : StoresKept M s t) {off bs} : StoresKept M s (t.fwPiece off bs).2 := by
  dsimp only [State.fwPiece]
  refine .branchSnd (.pair h) ?_
  split
  · exact h.setFw
  · exact .branchSnd (StoresKept.branch (StoresKept.branch h.wr h).setFw.wr (StoresKept.branch h.wr h).setFw).fwFinish
      (.pair (.branch (StoresKept.branch h.wr h).setFw.wr (StoresKept.branch h.wr h).setFw))

theorem wardenStart (h : StoresKept M s t) {cause} : StoresKept M s (t.wardenStart cause) :=
  .branch ((StoresKept.branch (.branch h.setFw.wr.wr.wr.wr.setFw.set.signal h.setFw.wr.wr.wr.wr.setFw.set)
    (StoresKept.branch h.setFw.wr.wr.wr.wr.setFw.set.signal h.setFw.wr.wr.wr.wr.setFw.set).postAll).foldl fun _ _ h1 => .branch
        h1.ringService h1)
    h.setFw.wr.wr.signal

theorem fwUpdate (h : StoresKept M s t) {c} : KeepsStores M s (execFwUpdate c t) := by
  dsimp only [execFwUpdate]
  refine .done (h.checked ?_)
  refine .branch (.branch h.fwPiece.reply.wardenStart h.fwPiece.reply) (.branch h.reply ?_)
  split
  · exact h.reply
  · exact h.fwFinish.reply

theorem fwActivate (h : StoresKept M s t) {c} : KeepsStores M s (execFwActivate c t) :=
  .done (h.checked (.branch h.reply (.branch h.reply h.reply.setFw)))

theorem fwInfo (h : StoresKept M s t) {c} : KeepsStores M s (execFwInfo c t) :=
  .done (h.checked h.reply)

theorem wardenRestart (h : StoresKept M s t) : KeepsStores M s (execWardenRestart t) :=
  .done (StoresKept.branch (h.foldl fun _ _ h => h.reply) h).wardenStart

theorem bootMailboxGo (h : StoresKept M s t) : KeepsStores M s (execBootMailboxGo t) :=
  .branch (.done h) (.done (.branch ((StoresKept.branchSnd h.fwPiece (.branchSnd (.pair h) (.pair h.bump))).foldl fun _ _ h =>
      h.wr).wr.wardenStart
    ((StoresKept.branchSnd h.fwPiece (.branchSnd (.pair h) (.pair h.bump))).foldl fun _ _ h => h.wr).wr))

/-! ### FabricOps -/

theorem evictRecords (h : StoresKept M s t) : StoresKept M s t.evictRecords :=
  h.set

theorem epochAnswer (h : StoresKept M s t) {c u} (e : t.epochAnswer c = some u) : StoresKept M s u := by
  unfold State.epochAnswer at e
  extract_lets n view wm old give at e
  split at e
  · cases e; exact h.reply
  split at e
  · cases e; exact h.reply
  split at e
  · cases e
  split at e
  · cases e; exact h.reply
  split at e
  · split at e
    · cases e; exact h.replyBlob
    · cases e; exact h.reply
  split at e
  · cases e; exact h.reply
  split at e
  · cases e; exact h.replyBlob
  · cases e; exact h.reply

theorem answerWaits (h : StoresKept M s t) : StoresKept M s t.answerWaits := by
  dsimp only [State.answerWaits]
  exact h.foldl fun _ _ h1 => by split; exacts [h1, (h1.epochAnswer ‹_›).set]

theorem putRecord (h : StoresKept M s t) {b} : StoresKept M s (t.putRecord b) := by
  dsimp only [State.putRecord]
  split
  · exact h.set
  · exact .branch h h.set

theorem toChildren (h : StoresKept M s t) {ty sub vc body epoch rec} : StoresKept M s (t.toChildren ty sub vc body epoch rec) :=
  h.foldl fun _ _ h => h.sendMsg

theorem announce (h : StoresKept M s t) {n} : StoresKept M s (t.announce n) :=
  (h.foldl fun _ _ h1 => h1.toChildren).toChildren

theorem refreshRoles (h : StoresKept M s t) : StoresKept M s t.refreshRoles := by
  dsimp only [State.refreshRoles]
  split
  · exact h.wr.wr.wr
  · exact h.wr.wr.wr.wr.wr

theorem resendPartials (h : StoresKept M s t) {old} : StoresKept M s (t.resendPartials old) := by
  dsimp only [State.resendPartials]
  exact h.foldl fun _ _ h1 => by split; exacts [h1, .branch h1 h1.sendMsg.bump]

theorem advanceWm (h : StoresKept M s t) {k} : StoresKept M s (advanceWm k t) := by
  induction k generalizing t with
  | zero => exact h
  | succ k ih => exact .branch (ih h.wr) h

theorem becomeRoot (h : StoresKept M s t) {lost was} : StoresKept M s (t.becomeRoot lost was) := by
  dsimp only [State.becomeRoot]
  exact ((StoresKept.branch (h.foldl fun _ _ h => h.putRecord) (by split; exacts [h.foldl fun _ _ h => h.putRecord,
    (h.foldl fun _ _ h => h.putRecord).wr.wr])).advanceWm.set.foldl fun _ _ h => h.announce).answerWaits

theorem unmirrored (h : StoresKept M s t) : StoresKept M s t.unmirrored :=
  h.wr.signal.alarmUp

theorem switchMirror (h : StoresKept M s t) {lost} : StoresKept M s (t.switchMirror lost) := by
  dsimp only [State.switchMirror]
  split
  · exact h.set.set.unmirrored
  · exact (h.set.set.foldl fun _ _ h => by split; exacts [h.mirror, h.mirror.set]).set.wr.unmirrored

theorem keepReceived (h : StoresKept M s t) {p} : StoresKept M s (t.keepReceived p) :=
  h.set.mirror

theorem standInSnap (h : StoresKept M s t) {a items d n b} : StoresKept M s (t.standInSnap a items d n b) := by
  dsimp only [State.standInSnap]
  refine .branch h (.branch h.bump (.branch (.branch ?_ h.countRow.recomputePartial) h.countRow))
  split
  · exact h.countRow
  · exact .branch h.countRow.bump h.countRow.keepReceived.setCtx

theorem standIn (h : StoresKept M s t) {a} : StoresKept M s (t.standIn a) := by
  dsimp only [State.standIn]
  split
  · exact (h.set.foldl fun _ _ h => by split; exacts [h.standInSnap, h]).set
  · exact (h.set.foldl fun _ _ h => by split; exacts [h.standInSnap, h]).set.sendDigests

theorem setPeer (h : StoresKept M s t) {a p} : StoresKept M s (t.setPeer a p) :=
  h.set

theorem lostEffects (h : StoresKept M s t) {a} : StoresKept M s (t.lostEffects a) := by
  unfold State.lostEffects
  extract_lets oldParent wasRoot root0 cnp s₁ s₂ mine s₃ s₄ s₅ now s₆
  have h₃ : StoresKept M s s₃ := h.set.relayFail.refreshRoles
  have h₄ : StoresKept M s s₄ := .branch h₃.switchMirror h₃
  have h₅ : StoresKept M s s₅ := .branch h₄.standIn h₄
  have h₆ : StoresKept M s s₆ := .branch h₅.becomeRoot h₅
  exact h₆.resendPartials

theorem takeLost (h : StoresKept M s t) {a boot ep} : StoresKept M s (t.takeLost a boot ep) :=
  .branch h.setPeer.lostEffects h

theorem takeBack (h : StoresKept M s t) {a boot ep} : StoresKept M s (t.takeBack a boot ep) :=
  .branch (StoresKept.branch (StoresKept.branch h.setPeer.set.set.wr.refreshRoles h.setPeer.set.refreshRoles).becomeRoot
    (.branch h.setPeer.set.set.wr.refreshRoles h.setPeer.set.refreshRoles)).resendPartials h

theorem declareLost (h : StoresKept M s t) {a} : StoresKept M s (t.declareLost a) :=
  h.bump.signal.broadcastAlarm.takeLost

theorem declareBack (h : StoresKept M s t) {a boot} : StoresKept M s (t.declareBack a boot) :=
  h.broadcastAlarm.takeBack

theorem sendRestore (h : StoresKept M s t) {a} : StoresKept M s (t.sendRestore a) :=
  .branch h h.sendMsg

/-! ### CfgOps -/

theorem sendCfg (h : StoresKept M s t) {a m} : StoresKept M s (t.sendCfg a m) :=
  h.sendMsg

theorem setStaged (h : StoresKept M s t) {g} : StoresKept M s (t.setStaged g) :=
  h.set

theorem holdStaged (h : StoresKept M s t) {g} : StoresKept M s (t.holdStaged g) := by
  dsimp only [State.holdStaged]
  exact h.setStaged.foldl fun _ _ h1 => by split; exacts [.branch h1.stageZx h1, h1]

theorem resendTo (h : StoresKept M s t) {a} : StoresKept M s (t.resendTo a) := by
  dsimp only [State.resendTo]
  split
  · exact h
  · exact h.sendCfg.sendCfg

theorem armRecord (h : StoresKept M s t) {kind addr gen} : StoresKept M s (t.armRecord kind addr gen) :=
  h.draw.signal

theorem noteAnswer (h : StoresKept M s t) {arm kind addr status} : StoresKept M s (t.noteAnswer arm kind addr status) := by
  dsimp only [State.noteAnswer]
  split
  · refine .branch ?_ h
    split
    · exact (StoresKept.branch h.armRecord h).resendGen
    · exact .branch (StoresKept.branch h.armRecord h).resendTo (.branch h.armRecord h)
  · exact .branch h.setStaged.armRecord h.setStaged

theorem localAnswer (h : StoresKept M s t) {arm kind addr status} : StoresKept M s (t.localAnswer arm kind addr status) :=
  .branch h.noteAnswer (h.noteAnswer.foldl fun _ _ h => h.sendCfg)

theorem tellScope (h : StoresKept M s t) : StoresKept M s t.tellScope := by
  dsimp only [State.tellScope]
  split
  · exact h
  · exact h.foldl fun _ _ h => h.sendCfg

theorem noteScope (h : StoresKept M s t) {ts} : StoresKept M s (t.noteScope ts) := by
  dsimp only [State.noteScope]
  split
  · exact h
  · exact h.setStaged

theorem targetsGone (h : StoresKept M s t) : StoresKept M s t.targetsGone := by
  dsimp only [State.targetsGone]
  split
  · exact h
  · exact .branch h (h.setStaged.foldl fun _ _ h => h.sendCfg)

theorem dropStaged (h : StoresKept M s t) {g} : StoresKept M s (t.dropStaged g) := by
  dsimp only [State.dropStaged]
  exact (h.foldl fun _ _ h1 => by split; exacts [.branch h1.zxInternal h1, h1]).setStaged

theorem restage (h : StoresKept M s t) : StoresKept M s t.restage := by
  dsimp only [State.restage]
  split
  · exact h
  · exact h.setStaged.foldl fun _ _ h => by split; exacts [h.stageZx, h]

/-! ### Canopy -/

theorem openPort (h : StoresKept M s t) {q} : StoresKept M s (t.openPort q) :=
  .branch h.setPstate h

theorem noticeBoot (h : StoresKept M s t) {a boot} : StoresKept M s (t.noticeBoot a boot) :=
  .branch (StoresKept.branch (StoresKept.branch h.setPeer.set h.setPeer).declareBack (.branch h.setPeer.set h.setPeer)).sendRestore
    (.branch h.setPeer.set h.setPeer)

theorem resendRejoined (h : StoresKept M s t) {a} : StoresKept M s (t.resendRejoined a) :=
  .branch h.resendTo h

theorem helloReceive (h : StoresKept M s t) {q uid fleet agg partition boot gen}
    : KeepsStores M s (execHelloReceive q uid fleet agg partition boot gen t) := by
  dsimp only [execHelloReceive]
  refine .branch (.done h.consume) ?_
  split
  · exact .done (StoresKept.branch h.consume.bump h.consume.bump).setPort.setPstate.violation.signal.alarmUp
  · exact .done (.branch (StoresKept.branch h.consume.setPort.draw.wr.wr.noticeBoot.sendHello
      h.consume.setPort.draw.wr.wr.noticeBoot).openPort.resendRejoined (StoresKept.branch h.consume.setPort.draw.wr.wr.noticeBoot.sendHello
      h.consume.setPort.draw.wr.wr.noticeBoot).openPort)

theorem helloResend (h : StoresKept M s t) {q} : KeepsStores M s (execHelloResend q t) :=
  .branch (.done h.sendHello) (.done h)

theorem lsaReceive (h : StoresKept M s t) {q l} : KeepsStores M s (execLsaReceive q l t) :=
  .branch (.done h.consume) (.done (h.consume.set.foldl fun _ _ h => h.bump.violation).recompute.passOn.noticeBoot)

theorem lsaRefresh (h : StoresKept M s t) : KeepsStores M s (execLsaRefresh t) :=
  .branch (.done h.floodLsa) (.done h)

theorem lsaExpiry (h : StoresKept M s t) : KeepsStores M s (execLsaExpiry t) :=
  .branch (.done h) (.done h.set.recompute)

theorem closeTx (h : StoresKept M s t) {q b} : StoresKept M s (t.closeTx q b) :=
  .branch h.setPort h

theorem relayWaitTimeout (h : StoresKept M s t) {q} : KeepsStores M s (execRelayWaitTimeout q t) := by
  dsimp only [execRelayWaitTimeout]
  exact .done (h.modLink.foldl fun _ _ h => .closeTx (.bump (by split; exacts [h.freeBuf, h])))

theorem holdFence (h : StoresKept M s t) {p} : StoresKept M s (t.holdFence p) :=
  h.set

theorem holdUnfence (h : StoresKept M s t) {p} : StoresKept M s (t.holdUnfence p) :=
  h.set

theorem broadcastReceive (h : StoresKept M s t) {q sub src payload} : KeepsStores M s (execBroadcastReceive q sub src payload t) :=
  .branch (.done h.consume) (.done (.branch h.consume.setPeer.passOn.holdFence (.branch h.consume.setPeer.passOn.holdUnfence
    h.consume.setPeer.passOn)))

theorem canopyAlarmReceive (h : StoresKept M s t) {q sub src payload} : KeepsStores M s (execCanopyAlarmReceive q sub src payload t) := by
  dsimp only [execCanopyAlarmReceive]
  split
  · exact .done h.consume.post
  · refine .branch (.done (StoresKept.branch h.consume.bump.signal.violation h.consume.bump).setPort) ?_
    split
    · next e => exact .done (h.consume.setPort.outPort.snd_eq e).sendOn
    · next e => exact .done (h.consume.setPort.outPort.snd_eq e)

theorem cutThroughHoldLimit (h : StoresKept M s t) {q} : KeepsStores M s (execCutThroughHoldLimit q t) := by
  dsimp only [execCutThroughHoldLimit]
  split
  · exact .done h
  · exact .done h.setPort.bump.enqueueFront

theorem e2eRepeat (h : StoresKept M s t) : KeepsStores M s (execE2eRepeat t) :=
  .done (h.set.set.foldl fun _ _ h => h.sendTo)

theorem ackItems (h : StoresKept M s t) {id} : StoresKept M s (t.ackItems id) :=
  h.set

theorem ackAdmit (h : StoresKept M s t) {id d} : StoresKept M s (t.ackAdmit id d) :=
  .branch h.setDie.sendAdmit h

theorem ackAlt (h : StoresKept M s t) {id} : StoresKept M s (t.ackAlt id) :=
  .branch h (.branch (h.set.wr.foldl fun _ _ h => h.advanceAck) h.set)

theorem mirrorAcked (h : StoresKept M s t) {id} : StoresKept M s (t.mirrorAcked id) := by
  dsimp only [State.mirrorAcked]
  exact ((h.ackItems.foldl fun _ _ h => h.advanceAck).foldl fun _ _ h => h.ackAdmit).ackAlt

theorem e2eAckReceive (h : StoresKept M s t) {q msgId} : KeepsStores M s (execE2eAckReceive q msgId t) :=
  .done (.branch h.consume.set.mirrorAcked h.consume.set)

theorem mirrorReceive (h : StoresKept M s t) {q src msgId m} : KeepsStores M s (execMirrorReceive q src msgId m t) :=
  .branch (.done h.consume.viol) (.branch (.done h.consume) (.branch (.done h.consume.e2eTake) (.done h.consume.e2eTake.set)))

theorem heartbeatSend (h : StoresKept M s t) : KeepsStores M s (execHeartbeatSend t) :=
  .branch (.done (h.set.foldl fun _ _ h => h.sendMsg)) (.done h)

theorem heartbeatReceive (h : StoresKept M s t) {q src boot role epoch wm} : KeepsStores M s (execHeartbeatReceive q src boot role epoch wm t) :=
  .done h.consume.noticeBoot.setPeer

theorem peerLostDeclare (h : StoresKept M s t) {a} : KeepsStores M s (execPeerLostDeclare a t) := by
  dsimp only [execPeerLostDeclare]
  split
  · exact .done h
  · exact .branch (.done h.declareLost) (.done h)

theorem peerLostReceive (h : StoresKept M s t) {a boot ep} : KeepsStores M s (execPeerLostReceive a boot ep t) :=
  .done h.takeLost

theorem peerBackReceive (h : StoresKept M s t) {a boot ep} : KeepsStores M s (execPeerBackReceive a boot ep t) :=
  .done (.branch h.takeBack.resendRejoined h.takeBack)

theorem peerDeclare (h : StoresKept M s t) {c} : KeepsStores M s (execPeerDeclare c t) :=
  .done (h.checked (.branch h.reply (StoresKept.branch h.declareLost h.declareBack).reply))

theorem firebreakFence (h : StoresKept M s t) {c} : KeepsStores M s (execFirebreakFence c t) :=
  .done (h.checked (.branch h.reply (.branch h.reply h.set.broadcastAlarm.reply)))

theorem dropFenced (h : StoresKept M s t) {q} : StoresKept M s (t.dropFenced q) := by
  dsimp only [State.dropFenced]
  exact h.modLink.foldl fun _ _ h => .closeTx (.bump (by split; exacts [h.freeBuf, h]))

theorem assertFence (h : StoresKept M s t) {x} : StoresKept M s (t.assertFence x) :=
  .branch (h.wr.foldl fun _ _ h1 => .branch h1.setPstate.dropFenced h1) h

theorem fenceInstant (h : StoresKept M s t) : KeepsStores M s (execFenceInstant t) :=
  .done (h.set.foldl fun _ _ h => h.assertFence)

theorem firebreakClear (h : StoresKept M s t) {c} : KeepsStores M s (execFirebreakClear c t) :=
  .done (h.checked (.branch h.reply (.branch h.reply (.branch h.reply h.set.broadcastAlarm.reply))))

theorem liftDie (h : StoresKept M s t) {addr} : StoresKept M s (t.liftDie addr) :=
  .branch h.setDie.wr.wr h

theorem rejoin (h : StoresKept M s t) : StoresKept M s t.rejoin :=
  h.wr

theorem liftPart (h : StoresKept M s t) {p} : StoresKept M s (t.liftPart p) :=
  .branch ((StoresKept.branch (h.wr.foldl fun _ _ h1 => .branch h1.setPstate h1).rejoin (h.wr.foldl fun _ _ h1 => .branch h1.setPstate
      h1)).foldl fun _ _
    h => h.assignInc).set.recomputeAll (.branch (h.wr.foldl fun _ _ h1 => .branch h1.setPstate h1).rejoin
    (h.wr.foldl fun _ _ h1 => .branch h1.setPstate h1))

theorem unfenceInstant (h : StoresKept M s t) : KeepsStores M s (execUnfenceInstant t) :=
  .done (h.set.foldl fun _ _ h1 => .branch h1.liftPart h1.liftDie)

theorem canopyIdentSet (h : StoresKept M s t) {c} : KeepsStores M s (execCanopyIdentSet c t) :=
  .done (h.checked (.branch h.reply (.branch h.reply h.wr.wr.wr.reply)))

theorem canopyPortCtrl (h : StoresKept M s t) {c} : KeepsStores M s (execCanopyPortCtrl c t) := by
  refine .done (h.checked ?_)
  extract_lets q s₁ s₂ s₃ s₄ s₅
  have h₂ : StoresKept M s s₂ := .branch h.wr.setHold h.wr
  have h₃ : StoresKept M s s₃ := .branch h₂.retrain h₂
  have h₅ : StoresKept M s s₅ := .branch (.branch h₃.wr.setPstate h₃.wr) h₃.wr.openPort
  exact .branch h.reply h₅.reply

theorem canopyTopoRead (h : StoresKept M s t) {c} : KeepsStores M s (execCanopyTopoRead c t) :=
  .done (h.checked h.reply)

theorem fabricStatus (h : StoresKept M s t) {c} : KeepsStores M s (execFabricStatus c t) :=
  .done (h.checked h.reply)

/-! ### Memory -/

theorem hbmWrite (h : StoresKept ⟨false, G, U, Q, E, L, D⟩ s t) {a bs x} : StoresKept ⟨false, G, U, Q, E, L, D⟩ s (t.hbmWrite a bs x) :=
  h.setHbm

theorem hbmPoison (h : StoresKept ⟨false, G, U, Q, E, L, D⟩ s t) {a n} : StoresKept ⟨false, G, U, Q, E, L, D⟩ s (t.hbmPoison a n) :=
  h.setHbm

theorem hbmWipe (h : StoresKept ⟨false, G, U, Q, E, L, D⟩ s t) {a n} : StoresKept ⟨false, G, U, Q, E, L, D⟩ s (t.hbmWipe a n) :=
  h.setHbm

theorem xlFault (h : StoresKept M s t) {source space va cause} : StoresKept M s (t.xlFault source space va cause) :=
  .branch h.wr.wr.wr.wr.bump.detect h.wr.wr.wr.wr.bump

theorem translate (h : StoresKept ⟨false, G, U, Q, E, L, D⟩ s t) {source space va write}
    : StoresKept ⟨false, G, U, Q, E, L, D⟩ s (t.translate source space va write).2 := by
  dsimp only [State.translate]
  split
  · exact .branchSnd (.pair h) (.pair h.xlFault)
  · split
    · exact h.bump.xlFault
    · exact h.bump.setHbm

theorem tlbInval (h : StoresKept ⟨false, G, U, Q, E, L, D⟩ s t) {space va len}
    : StoresKept ⟨false, G, U, Q, E, L, D⟩ s (t.tlbInval space va len) :=
  h.setHbm

theorem vaRange (h : StoresKept ⟨false, G, U, Q, E, L, D⟩ s t) {source space va n write}
    : StoresKept ⟨false, G, U, Q, E, L, D⟩ s (t.vaRange source space va n write).2 :=
  h.foldlSnd fun _ _ hp => by dsimp only; split; exacts [hp, by split <;> exact hp.translate]

theorem writePieces (h : StoresKept ⟨false, G, U, Q, E, L, D⟩ s t) {ps bs} : StoresKept ⟨false, G, U, Q, E, L, D⟩ s (t.writePieces ps bs) :=
  h.foldlFst fun _ _ hp => hp.hbmWrite

theorem memLayoutSet (h : StoresKept M s t) {c} : KeepsStores M s (execMemLayoutSet c t) :=
  .done (h.checked (.branch h.reply (.branch h.reply (h.foldl fun _ _ h => h.wr).reply)))

theorem setPartition (h : StoresKept ⟨false, G, U, Q, E, L, D⟩ s t) {t' base count}
    : StoresKept ⟨false, G, U, Q, E, L, D⟩ s (t.setPartition t' base count) :=
  (h.foldl fun _ _ h1 => h1.hbmWipe).bump.wr.wr.wr.wr

theorem xlateInval (h : StoresKept ⟨false, G, U, Q, E, L, D⟩ s t) {c} : KeepsStores ⟨false, G, U, Q, E, L, D⟩ s (execXlateInval c t) :=
  .done (h.checked (.branch h.reply h.tlbInval.reply))

theorem xlateProbe (h : StoresKept M s t) {c} : KeepsStores M s (execXlateProbe c t) := by
  dsimp only [execXlateProbe]
  refine .done (h.checked ?_)
  refine .branch h.reply ?_
  split <;> exact h.reply

theorem hbmError (h : StoresKept ⟨false, G, U, Q, E, L, D⟩ s t) {a} : StoresKept ⟨false, G, U, Q, E, L, D⟩ s (t.hbmError a) :=
  h.draw.hbmPoison.bump.detect

/-! ### BxBlaze -/

theorem bxInject (h : StoresKept M s t) {u b} : StoresKept M s (t.bxInject u b).2 := by
  dsimp only [State.bxInject]
  split
  · next e => exact h.wtEvent.snd_eq e
  · next e => exact .branchSnd (.pair (h.wtEvent.snd_eq e)) (.pair (h.wtEvent.snd_eq e))

theorem bxCondemn (h : StoresKept ⟨false, G, U, Q, E, L, D⟩ s t) {u b} : StoresKept ⟨false, G, U, Q, E, L, D⟩ s (t.bxCondemn u b) := by
  dsimp only [State.bxCondemn]
  exact .signal (.alarmUp (by split; exacts [h, .branch h.hbmPoison h]))

theorem bxPass (h : StoresKept M s t) {u b} : StoresKept M s (t.bxPass u b).2 := by
  dsimp only [State.bxPass]
  exact .branchSnd (.pair h.bxInject.blzCount.blzLast) (.pair (StoresKept.branch h.bxInject.bump h.bxInject).blzCount.blzLast)

theorem bxForm (h : StoresKept M s t) {u fmt b} : StoresKept M s (t.bxForm u fmt b) :=
  .branch h (.branch h.blzCount (.branch h.blzCount.emit.bump h.blzCount.emit))

theorem bxJudge (h : StoresKept ⟨false, G, U, Q, E, L, D⟩ s t) {u b} : StoresKept ⟨false, G, U, Q, E, L, D⟩ s (t.bxJudge u b).2 := by
  unfold State.bxJudge
  extract_lets r₁ r₂ r₃
  have h₁ : StoresKept ⟨false, G, U, Q, E, L, D⟩ s r₁.2 := h.bxPass
  have h₂ : StoresKept ⟨false, G, U, Q, E, L, D⟩ s r₂.2 := .branchSnd h₁.bxPass h₁
  have h₃ : StoresKept ⟨false, G, U, Q, E, L, D⟩ s r₃.2 := .branchSnd h₂.bxPass h₂
  exact .branchSnd (.pair h) (.branchSnd (.pair h₃.blzCount.blzLast) (.branchSnd (.pair h₃.bxCondemn) h₃))

/-! ### TraceStore -/

theorem setTrs (h : StoresKept ⟨false, G, U, Q, E, L, D⟩ s t) {id x} : StoresKept ⟨false, G, U, Q, E, L, D⟩ s (t.setTrs id x) :=
  h.setHbm

theorem closeBuf (h : StoresKept ⟨false, G, U, Q, E, L, D⟩ s t) {id} : StoresKept ⟨false, G, U, Q, E, L, D⟩ s (t.closeBuf id) :=
  .branch h h.setTrs

theorem loseInput (h : StoresKept ⟨false, G, U, Q, E, L, D⟩ s t) {id n} : StoresKept ⟨false, G, U, Q, E, L, D⟩ s (t.loseInput id n) :=
  h.setTrs.bump

theorem appendRec (h : StoresKept ⟨false, G, U, Q, E, L, D⟩ s t) {id r} : StoresKept ⟨false, G, U, Q, E, L, D⟩ s (t.appendRec id r) :=
  .branch h.loseInput (.branch h.setTrs.closeBuf h.setTrs)

theorem appendDump (h : StoresKept ⟨false, G, U, Q, E, L, D⟩ s t) {id bs} : StoresKept ⟨false, G, U, Q, E, L, D⟩ s (t.appendDump id bs) :=
  .branch h.loseInput h.appendRec.appendRec

theorem trsInput (h : StoresKept ⟨false, G, U, Q, E, L, D⟩ s t) {p k rs} : StoresKept ⟨false, G, U, Q, E, L, D⟩ s (t.trsInput p k rs) :=
  .branch h.bump (.branch h.appendDump (h.foldl fun _ _ h => h.appendRec))

theorem gaugeInput (h : StoresKept ⟨false, G, U, Q, E, L, D⟩ s t) {p b} : StoresKept ⟨false, G, U, Q, E, L, D⟩ s (t.gaugeInput p b) :=
  .branch h.bump (h.foldlSnd fun _ _ hp => (StoresKept.branch hp.bump hp).setTrs).appendRec

theorem trsHistory (h : StoresKept ⟨false, G, U, Q, E, L, D⟩ s t) {n present}
    : StoresKept ⟨false, G, U, Q, E, L, D⟩ s (t.trsHistory n present) :=
  h.foldl fun _ _ h => h.trsInput.gaugeInput

theorem putIdx (h : StoresKept ⟨false, G, U, Q, E, L, D⟩ s t) {ws} : StoresKept ⟨false, G, U, Q, E, L, D⟩ s (t.putIdx ws) :=
  h.hbmWrite.wr

theorem putGap (h : StoresKept ⟨false, G, U, Q, E, L, D⟩ s t) {id} : StoresKept ⟨false, G, U, Q, E, L, D⟩ s (t.putGap id) :=
  .branch h h.setTrs.putIdx

theorem makeGap (h : StoresKept ⟨false, G, U, Q, E, L, D⟩ s t) {n lost} : StoresKept ⟨false, G, U, Q, E, L, D⟩ s (t.makeGap n lost) :=
  h.hbmWrite

theorem overwriteOne (h : StoresKept ⟨false, G, U, Q, E, L, D⟩ s t) {draining n u} (e : t.overwriteOne draining n = some u)
    : StoresKept ⟨false, G, U, Q, E, L, D⟩ s u := by
  unfold State.overwriteOne at e
  split at e
  · cases e
  · obtain ⟨x, -, rfl⟩ := Option.map_eq_some_iff.mp e
    extract_lets a
    split
    next e => exact ((StoresKept.branchSnd h.draw (.pair h)).snd_eq e).makeGap.bump

theorem overwrite (h : StoresKept ⟨false, G, U, Q, E, L, D⟩ s t) {draining n k}
    : StoresKept ⟨false, G, U, Q, E, L, D⟩ s (overwrite draining n k t) := by
  induction k generalizing t with
  | zero => exact h
  | succ k ih =>
    unfold Machine.overwrite
    split
    · exact h
    · next e => exact ih (h.overwriteOne e)

theorem makeRoom (h : StoresKept ⟨false, G, U, Q, E, L, D⟩ s t) {n} : StoresKept ⟨false, G, U, Q, E, L, D⟩ s (t.makeRoom n) :=
  .branch h.overwrite h

theorem codecLost (h : StoresKept ⟨false, G, U, Q, E, L, D⟩ s t) {id b} : StoresKept ⟨false, G, U, Q, E, L, D⟩ s (t.codecLost id b) :=
  h.setTrs.bump.putGap

theorem codecPut (h : StoresKept ⟨false, G, U, Q, E, L, D⟩ s t) {id u poisoned seq b r o}
    : StoresKept ⟨false, G, U, Q, E, L, D⟩ s (t.codecPut id u poisoned seq b r o) :=
  h.hbmWrite.setHbm.putIdx.bump

theorem codecStore (h : StoresKept ⟨false, G, U, Q, E, L, D⟩ s t) {id u poisoned seq b r}
    : StoresKept ⟨false, G, U, Q, E, L, D⟩ s (t.codecStore id u poisoned seq b r) := by
  dsimp only [State.codecStore]
  cases t.blkRoom (ceilDiv r.2.1.length 64) with
  | none => exact h.codecLost
  | some o => exact h.codecPut

theorem codecCount (h : StoresKept ⟨false, G, U, Q, E, L, D⟩ s t) {poisoned r}
    : StoresKept ⟨false, G, U, Q, E, L, D⟩ s (t.codecCount poisoned r) :=
  (StoresKept.branch h.bump.bump h.bump).makeRoom

theorem codecBlock (h : StoresKept ⟨false, G, U, Q, E, L, D⟩ s t) {id u poisoned}
    : KeepsStores ⟨false, G, U, Q, E, L, D⟩ s (execCodecBlock id u poisoned t) := by
  dsimp only [execCodecBlock]
  split
  · exact .done h
  · exact .done h.setTrs.putGap.codecCount.codecStore

theorem stagingFlush (h : StoresKept ⟨false, G, U, Q, E, L, D⟩ s t) {id} : KeepsStores ⟨false, G, U, Q, E, L, D⟩ s (execStagingFlush id t) :=
  .branch (.done h) (.done h.closeBuf)

theorem traceReceive (h : StoresKept ⟨false, G, U, Q, E, L, D⟩ s t) {p sub bs}
    : KeepsStores ⟨false, G, U, Q, E, L, D⟩ s (execTraceReceive p sub bs t) :=
  .branch (.done h.consume) (.done (StoresKept.branch h.consume.signal h.consume).trsInput)

theorem closeGauges (h : StoresKept ⟨false, G, U, Q, E, L, D⟩ s t) : StoresKept ⟨false, G, U, Q, E, L, D⟩ s t.closeGauges :=
  h.foldl fun _ _ h => h.closeBuf

theorem traceStoreSet (h : StoresKept ⟨false, G, U, Q, E, L, D⟩ s t) {c} : KeepsStores ⟨false, G, U, Q, E, L, D⟩ s (execTraceStoreSet c t) :=
  .done (h.checked (.branch h.reply ((StoresKept.branch h.closeGauges h).foldlMem fun _ f hf h =>
    h.wr (List.all_eq_true.mp (Reg.apart_of_traceStore _) f hf)).reply))

theorem traceStoreStatus (h : StoresKept M s t) {c} : KeepsStores M s (execTraceStoreStatus c t) :=
  .done (h.checked h.reply)

/-! ### Dma -/

theorem setChan (h : StoresKept ⟨false, G, U, Q, E, L, D⟩ s t) {c x} : StoresKept ⟨false, G, U, Q, E, L, D⟩ s (t.setChan c x) :=
  h.setHbm

theorem dmaSettle (h : StoresKept M s t) {c} : StoresKept M s (t.dmaSettle c) :=
  h.wr

theorem dmaNext (h : StoresKept ⟨false, G, U, Q, E, L, D⟩ s t) {c} : StoresKept ⟨false, G, U, Q, E, L, D⟩ s (t.dmaNext c) :=
  h.wr.setChan.dmaSettle

theorem dmaComplete (h : StoresKept M s t) {c d off status cause va} : StoresKept M s (t.dmaComplete c d off status cause va) :=
  (StoresKept.branch h.emit.emit h.emit).wr.wr

theorem dmaHalt (h : StoresKept ⟨false, G, U, Q, E, L, D⟩ s t) {c d status cause va}
    : StoresKept ⟨false, G, U, Q, E, L, D⟩ s (t.dmaHalt c d status cause va) :=
  .branch h.dmaComplete.wr.bump.setChan.bump.violation (.branch h.dmaComplete.wr.bump.setChan.violation
    (.branch h.dmaComplete.wr.bump.setChan.bump h.dmaComplete.wr.bump.setChan))

theorem dmaOk (h : StoresKept ⟨false, G, U, Q, E, L, D⟩ s t) {c d} : StoresKept ⟨false, G, U, Q, E, L, D⟩ s (t.dmaOk c d) :=
  h.dmaComplete.dmaNext

theorem pickChan (h : StoresKept ⟨false, G, U, Q, E, L, D⟩ s t) : StoresKept ⟨false, G, U, Q, E, L, D⟩ s (t.pickChan).2 := by
  dsimp only [State.pickChan]
  split
  · exact h
  · exact h.setHbm

theorem useGrant (h : StoresKept ⟨H, G, U, Q, false, L, D⟩ s t) {c} : StoresKept ⟨H, G, U, Q, false, L, D⟩ s (t.useGrant c) :=
  h.putEgs

theorem chunkDone (h : StoresKept ⟨false, G, U, Q, E, L, D⟩ s t) {c d n} : StoresKept ⟨false, G, U, Q, E, L, D⟩ s (t.chunkDone c d n) :=
  .branch h.setChan.wr.dmaOk h.setChan.wr

theorem dmaVa (h : StoresKept ⟨false, G, U, Q, E, L, D⟩ s t) {c va write} : StoresKept ⟨false, G, U, Q, E, L, D⟩ s (t.dmaVa c va write).2 := by
  dsimp only [State.dmaVa]
  refine .branchSnd (.pair h) ?_
  split <;> exact h.translate

theorem chunkH2d (h : StoresKept ⟨false, G, U, Q, E, L, D⟩ s t) {c d n host}
    : StoresKept ⟨false, G, U, Q, E, L, D⟩ s (t.chunkH2d c d n host) := by
  dsimp only [State.chunkH2d]
  split
  · next e => exact (h.dmaVa.snd_eq e).dmaHalt
  · next e =>
    split
    · exact (h.dmaVa.snd_eq e).dmaHalt
    · exact .branch (h.dmaVa.snd_eq e).hbmWrite.dmaHalt (h.dmaVa.snd_eq e).hbmWrite.chunkDone

theorem chunkD2h (h : StoresKept ⟨false, G, U, Q, E, L, D⟩ s t) {c d n} : StoresKept ⟨false, G, U, Q, E, L, D⟩ s (t.chunkD2h c d n) := by
  dsimp only [State.chunkD2h]
  split
  · next e => exact (h.dmaVa.snd_eq e).dmaHalt
  · next e => exact .branch (h.dmaVa.snd_eq e).dmaHalt (h.dmaVa.snd_eq e).emit.chunkDone

theorem chunkCopy (h : StoresKept ⟨false, G, U, Q, E, L, D⟩ s t) {c d n} : StoresKept ⟨false, G, U, Q, E, L, D⟩ s (t.chunkCopy c d n) := by
  dsimp only [State.chunkCopy]
  split
  · next e => exact (h.dmaVa.snd_eq e).dmaHalt
  · next e =>
    split
    · next e2 => exact ((h.dmaVa.snd_eq e).dmaVa.snd_eq e2).dmaHalt
    · next e2 => exact .branch ((h.dmaVa.snd_eq e).dmaVa.snd_eq e2).dmaHalt ((h.dmaVa.snd_eq e).dmaVa.snd_eq e2).hbmWrite.chunkDone

theorem drainEntry (h : StoresKept ⟨false, G, U, Q, E, L, D⟩ s t) {c d n u} : StoresKept ⟨false, G, U, Q, E, L, D⟩ s (t.drainEntry c d n u) :=
  .branch h.dmaHalt (.branch (StoresKept.branchSnd (.pair h) h.bxJudge).dmaHalt (.branch (StoresKept.branchSnd (.pair h) h.bxJudge).dmaHalt
    (StoresKept.branchSnd (.pair h) h.bxJudge).emit.wr.setChan.wr))

theorem chunk (h : StoresKept ⟨false, G, U, Q, false, L, D⟩ s t) {c d host u}
    : StoresKept ⟨false, G, U, Q, false, L, D⟩ s (t.chunk c d host u) := by
  dsimp only [State.chunk]
  refine .branch h.dmaHalt (.branch h.dmaOk ?_)
  split
  · exact (StoresKept.branch h.useGrant h).chunkH2d
  · exact (StoresKept.branch h.useGrant h).chunkD2h
  · exact (StoresKept.branch h.useGrant h).chunkCopy
  · exact (StoresKept.branch h.useGrant h).drainEntry

theorem dmaChunk (h : StoresKept ⟨false, G, U, Q, false, L, D⟩ s t) {deferred host u}
    : KeepsStores ⟨false, G, U, Q, false, L, D⟩ s (execDmaChunk deferred host u t) := by
  dsimp only [execDmaChunk]
  split
  · next e => exact .done (h.bump.pickChan.snd_eq e)
  · next e =>
    split
    · exact .done (h.bump.pickChan.snd_eq e).chunk
    · split
      · exact .done (h.bump.pickChan.snd_eq e).dmaHalt
      · exact .done (h.bump.pickChan.snd_eq e).dmaHalt
      · exact .branch (.done (h.bump.pickChan.snd_eq e).setChan.wr) (.done (h.bump.pickChan.snd_eq e).setChan.wr.chunk)

theorem dmaDoorbell (h : StoresKept M s t) {c tail} : KeepsStores M s (execDmaDoorbell c tail t) :=
  .branch (.done h) (.branch (.done h.bump.violation) (.done (.branch h.wr.dmaSettle h.wr)))

theorem dmaChSet (h : StoresKept ⟨false, G, U, Q, E, L, D⟩ s t) {c} : KeepsStores ⟨false, G, U, Q, E, L, D⟩ s (execDmaChSet c t) :=
  .done (h.checked (.branch h.reply (.branch h.reply (.branch h.reply (.branch h.reply
    (StoresKept.branch h.wr.wr.wr.wr.wr.wr.setChan.wr (.branch h.wr.wr.wr.wr.wr.wr h.wr.wr.wr.wr.wr.wr.dmaSettle)).reply)))))

theorem dmaResume (h : StoresKept ⟨false, G, U, Q, E, L, D⟩ s t) {c} : KeepsStores ⟨false, G, U, Q, E, L, D⟩ s (execDmaResume c t) :=
  .done (h.checked (.branch h.reply (.branch h.reply (.branch h.setChan.wr.reply (StoresKept.branch h.makeGap h).dmaNext.reply))))

theorem dmaStatus (h : StoresKept M s t) {c} : KeepsStores M s (execDmaStatus c t) :=
  .done (h.checked (.branch h.reply h.reply))

theorem bxReport (h : StoresKept ⟨false, G, U, Q, E, L, D⟩ s t) {u outcome b}
    : StoresKept ⟨false, G, U, Q, E, L, D⟩ s (t.bxReport u outcome b) := by
  dsimp only [State.bxReport]
  refine .branch ?_ ?_
  · split
    · exact h
    · exact h.set
  · refine .branch ?_ h
    split
    · exact h
    · exact h.dmaHalt

theorem bxOutcome (h : StoresKept ⟨false, G, U, Q, E, L, D⟩ s t) {u outcome tries b}
    : StoresKept ⟨false, G, U, Q, E, L, D⟩ s (t.bxOutcome u outcome tries b) :=
  .branch (.branch h.setHbm.emit h.blzCount.blzLast.bxReport) (StoresKept.branch h.bxCondemn h).bxReport

theorem bxBlazeCheck (h : StoresKept ⟨false, G, U, Q, E, L, D⟩ s t) {u form b}
    : KeepsStores ⟨false, G, U, Q, E, L, D⟩ s (execBxBlazeCheck u form b t) := by
  dsimp only [execBxBlazeCheck]
  refine .branch (.done h) ?_
  split
  · exact .done h.bxForm
  · exact .done h.bxPass.bxOutcome

theorem blazeReread (h : StoresKept ⟨false, G, U, Q, E, L, D⟩ s t) {u w data poisoned}
    : KeepsStores ⟨false, G, U, Q, E, L, D⟩ s (execBlazeReread u w data poisoned t) := by
  dsimp only [execBlazeReread]
  split
  · exact .done h
  · exact .done h.setHbm.bxPass.bxOutcome

theorem patrolScrub (h : StoresKept ⟨false, G, U, Q, E, L, D⟩ s t) {corrected bad snaps}
    : KeepsStores ⟨false, G, U, Q, E, L, D⟩ s (execPatrolScrub corrected bad snaps t) :=
  .done ((h.bump.foldl fun _ _ h1 => h1.hbmError).foldl fun _ _ h => h.dropHeld)

/-! ### Features -/

theorem setBins (h : StoresKept M s t) {d n chan b} : StoresKept M s (t.setBins d n chan b) := by
  dsimp only [State.setBins]
  split <;> exact h.setCorDie

theorem driftEval (h : StoresKept M s t) {d n chan} : StoresKept M s (t.driftEval d n chan) :=
  .branch h (.branch h.setDrift (.branch h.setDrift h.bump))

theorem driftChan (h : StoresKept M s t) {d v chan} : StoresKept M s (t.driftChan d v chan) := by
  dsimp only [State.driftChan]
  refine .branch h ?_
  split
  · exact h.setBins.driftEval
  · exact h.bump

theorem clearBins (h : StoresKept M s t) {oldGen old new} : StoresKept M s (t.clearBins oldGen old new) :=
  h.set

theorem dropPast (h : StoresKept M s t) {d n} : StoresKept M s (t.dropPast d n) :=
  .branch h.setCorDie h

theorem buildOne (h : StoresKept M s t) {r poisoned d} : StoresKept M s (t.buildOne r poisoned d) :=
  .branch (h.bump.bump.bump.set.set.dropPast.foldl fun _ _ h1 => h1.driftChan).mirrorDie h.bump.bump.bump.set

theorem vectorBuild (h : StoresKept M s t) {n committed poisoned} : KeepsStores M s (execVectorBuild n committed poisoned t) := by
  dsimp only [execVectorBuild]
  split
  · exact .done h
  · exact .branch (.done (.branch ((h.foldl fun _ _ h => h.buildOne).foldl fun _ _ h => h.dropHeld).wr.wr.wr.set
      ((h.foldl fun _ _ h => h.buildOne).foldl fun _ _ h => h.dropHeld).wr.wr.wr)) (.done h)

/-! ### RplOps -/

theorem setRpl (h : StoresKept M s t) {r} : StoresKept M s (t.setRpl r) :=
  h.set

theorem setRctx (h : StoresKept M s t) {k x} : StoresKept M s (t.setRctx k x) :=
  h.setRpl

theorem submit (h : StoresKept M s t) {j} : StoresKept M s (t.submit j) :=
  h.setRpl

theorem dropJob (h : StoresKept M s t) {j} : StoresKept M s (t.dropJob j) :=
  h.setRpl

theorem modJob (h : StoresKept M s t) {j f} : StoresKept M s (t.modJob j f) :=
  h.setRpl

theorem countJob (h : StoresKept M s t) {outcome reason} : StoresKept M s (t.countJob outcome reason) := by
  dsimp only [State.countJob]
  split
  · exact (StoresKept.branch h.bump.bump h.bump).bump
  · exact (StoresKept.branch h.bump.bump h.bump).bump
  · exact (StoresKept.branch h.bump.bump h.bump).bump
  · exact (StoresKept.branch h.bump.bump h.bump).bump
  · exact .branch h.bump.bump h.bump

theorem loadRanges (h : StoresKept ⟨false, G, U, Q, E, L, D⟩ s t) {space rs}
    : StoresKept ⟨false, G, U, Q, E, L, D⟩ s (t.loadRanges space rs).2 :=
  h.foldlSnd fun _ _ hp => by dsimp only; split; exacts [hp, by split <;> exact hp.vaRange]

theorem freeze (h : StoresKept M s t) {j} : StoresKept M s (t.freeze j) :=
  .branch h h.bump.modJob

theorem loadBank (h : StoresKept ⟨false, G, U, Q, E, L, D⟩ s t) {k bank j} : StoresKept ⟨false, G, U, Q, E, L, D⟩ s (t.loadBank k bank j) := by
  dsimp only [State.loadBank]
  refine .branch h ?_
  split
  · next e => exact (h.loadRanges.snd_eq e).freeze
  · next e => exact (h.loadRanges.snd_eq e).setRctx

theorem storeWord (h : StoresKept M s t) {k fmt addr data} : StoresKept M s (t.storeWord k fmt addr data) :=
  h.draw.draw.bxForm

theorem storeWords (h : StoresKept M s t) {k fmt va b} : StoresKept M s (t.storeWords k fmt va b) :=
  .branch h (h.foldl fun _ _ h => h.storeWord)

theorem evacuate (h : StoresKept M s t) {k} : StoresKept M s (t.evacuate k) :=
  h.setRpl

theorem dropMem (h : StoresKept M s t) {k} : StoresKept M s (t.dropMem k) := by
  dsimp only [State.dropMem]
  split
  · exact h
  · exact h.setRctx

theorem retireUnit (h : StoresKept M s t) {level idx} : StoresKept M s (t.retireUnit level idx) :=
  .branch h (h.setRpl.bump.signal.foldl fun _ _ h1 => .branch h1.evacuate (.branch h1.dropMem h1))

/-! ### GateOps -/

theorem setGate (h : StoresKept ⟨H, false, U, Q, E, L, D⟩ s t) {g} : StoresKept ⟨H, false, U, Q, E, L, D⟩ s (t.setGate g) :=
  h.putGate

theorem setJob (h : StoresKept ⟨H, false, U, Q, E, L, D⟩ s t) {id j} : StoresKept ⟨H, false, U, Q, E, L, D⟩ s (t.setJob id j) :=
  h.setGate

theorem setStep (h : StoresKept ⟨H, false, U, Q, E, L, D⟩ s t) {g} : StoresKept ⟨H, false, U, Q, E, L, D⟩ s (t.setStep g) :=
  h.setGate

theorem dropStep (h : StoresKept ⟨H, false, U, Q, E, L, D⟩ s t) {g} : StoresKept ⟨H, false, U, Q, E, L, D⟩ s (t.dropStep g) :=
  h.setGate

theorem ledgerPut (h : StoresKept ⟨false, false, U, Q, E, L, D⟩ s t) {r} : StoresKept ⟨false, false, U, Q, E, L, D⟩ s (t.ledgerPut r).2.2 := by
  dsimp only [State.ledgerPut]
  split
  · exact .branch h.setGate.wr.bump h.setGate.wr
  · exact (StoresKept.branch h.setGate.wr.bump h.setGate.wr).hbmWrite

theorem ledgerStart (h : StoresKept ⟨false, false, U, Q, E, L, D⟩ s t) {t'} : StoresKept ⟨false, false, U, Q, E, L, D⟩ s (t.ledgerStart t') :=
  .branch h.ledgerPut h

theorem ledger (h : StoresKept ⟨false, false, U, Q, E, L, D⟩ s t) {r} : StoresKept ⟨false, false, U, Q, E, L, D⟩ s (t.ledger r).2.2 :=
  h.ledgerStart.ledgerPut

theorem stepEvent (h : StoresKept M s t) {t' ws} : StoresKept M s (t.stepEvent t' ws) :=
  (StoresKept.branch h h.post).post

theorem commitStep (h : StoresKept ⟨false, false, U, Q, E, L, D⟩ s t) {g cause}
    : StoresKept ⟨false, false, U, Q, E, L, D⟩ s (t.commitStep g cause) := by
  dsimp only [State.commitStep]
  split
  · exact h.ledger.stepEvent.bump
  · exact h.ledger.stepEvent.bump.setJob

theorem feedOne (h : StoresKept ⟨H, false, U, Q, E, L, D⟩ s t) {k} : StoresKept ⟨H, false, U, Q, E, L, D⟩ s (feedOne k t) := by
  induction k generalizing t with
  | zero => exact h
  | succ k ih =>
    unfold Machine.feedOne
    refine .branch h ?_
    split
    · exact ih h.setRpl
    · split
      · exact h
      · split
        · exact h
        · exact ih h.setStep.submit

theorem feed (h : StoresKept ⟨H, false, U, Q, E, L, D⟩ s t) : StoresKept ⟨H, false, U, Q, E, L, D⟩ s t.feed :=
  h.feedOne

theorem cancelJobs (h : StoresKept M s t) {g} : StoresKept M s (t.cancelJobs g) :=
  h.foldl fun _ _ h => h.dropJob

theorem endStep (h : StoresKept ⟨H, false, U, Q, E, L, D⟩ s t) {g} : StoresKept ⟨H, false, U, Q, E, L, D⟩ s (t.endStep g) :=
  h.cancelJobs.dropStep.feed

theorem afterCheck (h : StoresKept ⟨false, false, U, Q, E, L, D⟩ s t) {g cause}
    : StoresKept ⟨false, false, U, Q, E, L, D⟩ s (t.afterCheck g cause) :=
  (StoresKept.branch h.ledger.stepEvent h.ledger.stepEvent.bump).endStep

theorem revokeOne (h : StoresKept ⟨false, false, U, Q, E, L, D⟩ s t) {g cause}
    : StoresKept ⟨false, false, U, Q, E, L, D⟩ s (t.revokeOne g cause) :=
  (StoresKept.branch h.ledger.stepEvent.bump h.ledger.stepEvent.bump).endStep

theorem revoke (h : StoresKept ⟨false, false, U, Q, E, L, D⟩ s t) {g cause} : StoresKept ⟨false, false, U, Q, E, L, D⟩ s (t.revoke g cause) := by
  dsimp only [State.revoke]
  split
  · exact h.revokeOne.foldl fun _ _ h => h.revokeOne
  · exact .branch (h.revokeOne.foldl fun _ _ h => h.revokeOne).setJob (h.revokeOne.foldl fun _ _ h => h.revokeOne).setJob

theorem requestTest (h : StoresKept M s t) {d unit pre bin} : StoresKept M s (t.requestTest d unit pre bin) :=
  .branch (.branch h h.noteReason) (StoresKept.branch h h.noteReason).issueTest

theorem detected (h : StoresKept M s t) {g cause} : StoresKept M s (t.detected g cause) :=
  h.requestTest.signal.alarmUp

theorem resolve (h : StoresKept ⟨false, false, U, Q, E, L, D⟩ s t) {g cause}
    : StoresKept ⟨false, false, U, Q, E, L, D⟩ s (t.resolve g cause) := by
  unfold State.resolve
  extract_lets s₁ s₂
  have h₁ : StoresKept ⟨false, false, U, Q, E, L, D⟩ s s₁ := .branch h.bump (.branch h.bump (.branch h.bump h))
  have h₂ : StoresKept ⟨false, false, U, Q, E, L, D⟩ s s₂ := .branch h₁.detected h₁
  exact .branch h₂.afterCheck (.branch h₂.setStep (.branch h₂.cancelJobs.setStep.feed h₂.revoke))

theorem gateJobEnd (h : StoresKept ⟨false, false, U, Q, E, L, D⟩ s t) {j outcome reason}
    : StoresKept ⟨false, false, U, Q, E, L, D⟩ s (t.gateJobEnd j outcome reason) := by
  dsimp only [State.gateJobEnd]
  split
  · exact h
  · split
    · exact h
    · exact .branch h.setStep.feed (.branch h.setStep h.setStep.resolve)

theorem urge (h : StoresKept ⟨H, false, U, Q, E, L, D⟩ s t) {g} : StoresKept ⟨H, false, U, Q, E, L, D⟩ s (t.urge g) :=
  (StoresKept.branch h h.bump).setRpl.setStep

theorem tagMatch (h : StoresKept ⟨false, false, U, Q, E, L, D⟩ s t) {d tag condemned}
    : StoresKept ⟨false, false, U, Q, E, L, D⟩ s (t.tagMatch d tag condemned) := by
  dsimp only [State.tagMatch]
  exact .branch (.branch h h.setGate) (h.foldl fun _ _ h1 => by split; exacts [h1, .branch h1.resolve (.branch h1.urge h1)])

theorem gateFault (h : StoresKept M s t) {idx extra} : StoresKept M s (t.gateFault idx extra) :=
  h.bump.signal

theorem stepFault (h : StoresKept ⟨false, false, U, Q, E, L, D⟩ s t) {job step attempt}
    : StoresKept ⟨false, false, U, Q, E, L, D⟩ s (t.stepFault job step attempt) := by
  dsimp only [State.stepFault]
  split
  · exact h
  · exact h.gateFault.resolve

theorem jobFault (h : StoresKept ⟨false, false, U, Q, E, L, D⟩ s t) {job} : StoresKept ⟨false, false, U, Q, E, L, D⟩ s (t.jobFault job) := by
  dsimp only [State.jobFault]
  split
  · exact h
  · exact (h.gateFault.foldl fun _ _ h1 => .branch h1.revokeOne h1.afterCheck).setGate

theorem entryFault (h : StoresKept ⟨H, false, U, Q, E, L, D⟩ s t) {t' seq} : StoresKept ⟨H, false, U, Q, E, L, D⟩ s (t.entryFault t' seq) :=
  h.gateFault.setGate

/-! ### Replay -/

theorem apdLoad (h : StoresKept M s t) {c} : KeepsStores M s (execApdLoad c t) :=
  .done (h.checked (.branch h.reply (.branch h.reply (.branch h.reply h.setRpl.reply))))

theorem apdUnload (h : StoresKept M s t) {c} : KeepsStores M s (execApdUnload c t) :=
  .done (h.checked (.branch h.reply (.branch h.reply h.setRpl.reply)))

theorem apdInfo (h : StoresKept M s t) {c} : KeepsStores M s (execApdInfo c t) := by
  dsimp only [execApdInfo]
  refine .done (h.checkedPtr ?_)
  split
  · exact h.reply
  · exact h.replyBlob

theorem finishJob (h : StoresKept ⟨false, false, U, Q, E, L, D⟩ s t) {j outcome reason cluster confirmed bad}
    : StoresKept ⟨false, false, U, Q, E, L, D⟩ s (t.finishJob j outcome reason cluster confirmed bad) := by
  dsimp only [State.finishJob]
  exact .feed (.gateJobEnd (by split; exacts [h.dropJob.countJob, h.dropJob.countJob.reply]))

theorem badAddress (h : StoresKept ⟨false, G, U, Q, E, L, D⟩ s t) {source tenant l}
    : StoresKept ⟨false, G, U, Q, E, L, D⟩ s (t.badAddress source tenant l).2 := by
  induction l generalizing t with
  | nil => exact h
  | cons a l ih =>
    unfold State.badAddress
    split
    · exact ih h
    · dsimp only
      split
      · exact h.translate
      · exact ih h.translate

theorem replayRun (h : StoresKept ⟨false, G, U, Q, E, L, D⟩ s t) {c} : KeepsStores ⟨false, G, U, Q, E, L, D⟩ s (execReplayRun c t) := by
  dsimp only [execReplayRun]
  refine .done (h.checked ?_)
  refine .branch h.reply (.branch h.reply ?_)
  split
  · next e => exact (h.badAddress.snd_eq e).reply
  · next e => exact (h.badAddress.snd_eq e).submit

theorem replayCancel (h : StoresKept ⟨false, false, U, Q, E, L, D⟩ s t) {c}
    : KeepsStores ⟨false, false, U, Q, E, L, D⟩ s (execReplayCancel c t) := by
  dsimp only [execReplayCancel]
  refine .done (h.checked ?_)
  split
  · exact h.reply
  · exact h.finishJob.reply

theorem replayStatus (h : StoresKept M s t) {c} : KeepsStores M s (execReplayStatus c t) :=
  .done (h.checkedPtr h.replyBlob)

theorem replayUnit (h : StoresKept M s t) {c} : KeepsStores M s (execReplayUnit c t) :=
  .done (h.checked (.branch h.reply (.branch h.retireUnit.reply (.branch h.reply h.setRpl.reply))))

theorem replayGen (h : StoresKept M s t) {c} : KeepsStores M s (execReplayGen c t) :=
  .done (h.checked (.branch h.reply h.reply))

theorem replayCrosscheck (h : StoresKept ⟨false, G, U, Q, E, L, D⟩ s t) {c}
    : KeepsStores ⟨false, G, U, Q, E, L, D⟩ s (execReplayCrosscheck c t) := by
  dsimp only [execReplayCrosscheck]
  refine .done (h.checked ?_)
  split
  · exact h.reply
  · refine .branch h.reply ?_
    split
    · refine .branch h.vaRange.vaRange.bump.reply ?_
      split <;> exact h.vaRange.vaRange.reply
    · exact h.vaRange.vaRange.reply
    · exact h.vaRange.vaRange.reply

theorem replayPlace (h : StoresKept ⟨false, false, U, Q, E, L, D⟩ s t) : KeepsStores ⟨false, false, U, Q, E, L, D⟩ s (execReplayPlace t) := by
  dsimp only [execReplayPlace]
  refine .branch (.done h) ?_
  split
  · exact .done h
  · split
    · exact .done h.finishJob
    · split
      · exact .done h
      · exact .done (StoresKept.branch h.setRpl.setRctx h.setRpl.setRctx.loadBank).feed

theorem replayBankFilled (h : StoresKept ⟨false, G, U, Q, E, L, D⟩ s t) {k}
    : KeepsStores ⟨false, G, U, Q, E, L, D⟩ s (execReplayBankFilled k t) :=
  .branch (.done h) (.branch (.done (h.foldl fun _ _ h => h.loadBank)) (.done (StoresKept.branch (h.foldl fun _ _ h => h.loadBank).bump
    (h.foldl fun _ _ h => h.loadBank)).setRctx))

theorem retireRun (h : StoresKept M s t) {r} : StoresKept M s (t.retireRun r) :=
  h.retireUnit

theorem runJob (h : StoresKept ⟨false, false, U, Q, E, L, D⟩ s t) {k j a r1 r2 r3}
    : StoresKept ⟨false, false, U, Q, E, L, D⟩ s (t.runJob k j a r1 r2 r3) := by
  unfold State.runJob
  extract_lets s₁ outLen store j'
  have h₁ : StoresKept ⟨false, false, U, Q, E, L, D⟩ s s₁ := h.loadBank
  split
  · exact h₁
  · extract_lets loads
    have hs : StoresKept ⟨false, false, U, Q, E, L, D⟩ s store.2 := .branchSnd (.pair h₁) h₁.vaRange
    clear_value store
    split
    · exact StoresKept.freeze hs
    · next u =>
      have hu : StoresKept ⟨false, false, U, Q, E, L, D⟩ s u := hs
      refine .branch hu.modJob.finishJob (.branch hu.modJob.finishJob (.foldl (.branch (.bump ?_) ?_) fun _ _ h => h.retireRun))
      · exact (StoresKept.branch hu.modJob hu.modJob.writePieces.storeWords).finishJob
      · exact (StoresKept.branch hu.modJob hu.modJob.writePieces.storeWords).finishJob

theorem replayJobEnd (h : StoresKept ⟨false, false, U, Q, E, L, D⟩ s t) {k r1 r2 r3}
    : KeepsStores ⟨false, false, U, Q, E, L, D⟩ s (execReplayJobEnd k r1 r2 r3 t) := by
  dsimp only [execReplayJobEnd]
  split
  · exact .done h
  · split
    · exact .done h.finishJob
    · exact .done h.runJob

theorem replayXlateFault (h : StoresKept M s t) {k other va cause} : KeepsStores M s (execReplayXlateFault k other va cause t) := by
  dsimp only [execReplayXlateFault]
  split
  · exact .done h
  · exact .done h.xlFault.freeze

theorem replayKat (h : StoresKept M s t) {e pass} : KeepsStores M s (execReplayKat e pass t) :=
  .branch (.done h) (.done h.bump.setRpl.retireUnit.signal.alarmUp)

/-! ### Gate -/

theorem accept? (h : StoresKept ⟨false, false, U, Q, E, L, D⟩ s t) {g j} : StoresKept ⟨false, false, U, Q, E, L, D⟩ s (t.accept? g j).2 := by
  unfold State.accept?
  extract_lets isOld g₁ s₁
  split
  extract_lets g₂ s₂ gate s₃ s₄ gate' keep
  have h₁ : StoresKept ⟨false, false, U, Q, E, L, D⟩ s s₁ := h.bump
  have h₂ : StoresKept ⟨false, false, U, Q, E, L, D⟩ s s₂ := .branch h₁.bump (.branch h₁.bump h₁)
  have h₃ : StoresKept ⟨false, false, U, Q, E, L, D⟩ s s₃ := .branch h₂.setGate h₂
  have h₄ : StoresKept ⟨false, false, U, Q, E, L, D⟩ s s₄ := h₃.setJob
  have hk : StoresKept ⟨false, false, U, Q, E, L, D⟩ s keep := h₄.setGate
  exact .branchSnd (.pair hk) (.pair (StoresKept.branch hk h₄).commitStep)

/-- The state an announcement is judged in, once its row has counted. -/
theorem announceCount (h : StoresKept M s t) {g j} :
    StoresKept M s (match (t.announceRow g j).2 with | none => t | some f => t.bump f) := by
  split
  · exact h
  · next e => exact h.bump (Fld.apart_of_announceRow e)

theorem stepAnnounce (h : StoresKept ⟨false, false, U, Q, E, L, D⟩ s t) {c}
    : KeepsStores ⟨false, false, U, Q, E, L, D⟩ s (execStepAnnounce c t) := by
  dsimp only [execStepAnnounce]
  refine .done (h.checked ?_)
  split
  · exact h.reply
  · exact .branch h.reply (.branch h.reply (.branch h.reply (.branch (.reply h.announceCount) (.reply (.accept? h.announceCount)))))

theorem expire (h : StoresKept ⟨false, false, U, Q, E, L, D⟩ s t) {due} : StoresKept ⟨false, false, U, Q, E, L, D⟩ s (t.expire due) := by
  dsimp only [State.expire]
  exact h.foldl fun _ _ h => by split; exacts [h, h.resolve]

theorem expireOperands (h : StoresKept ⟨false, false, U, Q, E, L, D⟩ s t) : StoresKept ⟨false, false, U, Q, E, L, D⟩ s t.expireOperands :=
  h.expire

theorem operandWaitExpiry (h : StoresKept ⟨false, false, U, Q, E, L, D⟩ s t)
    : KeepsStores ⟨false, false, U, Q, E, L, D⟩ s (execOperandWaitExpiry t) :=
  .done h.expireOperands

theorem stepOperands (h : StoresKept ⟨false, false, U, Q, E, L, D⟩ s t) {c}
    : KeepsStores ⟨false, false, U, Q, E, L, D⟩ s (execStepOperands c t) := by
  dsimp only [execStepOperands]
  refine .done (h.checked ?_)
  split
  · exact h.expireOperands.reply
  · refine .branch h.expireOperands.reply ?_
    split
    · exact h.expireOperands.reply
    · refine .branch h.expireOperands.reply (.branch h.expireOperands.reply (.branch h.expireOperands.reply ?_))
      split
      · next e => exact (h.expireOperands.badAddress.snd_eq e).reply
      · next e => exact (h.expireOperands.badAddress.snd_eq e).setStep.feed.reply

theorem gateWaitExpiry (h : StoresKept ⟨false, false, U, Q, E, L, D⟩ s t) : KeepsStores ⟨false, false, U, Q, E, L, D⟩ s (execGateWaitExpiry t) :=
  .done h.expire

theorem stepCommit (h : StoresKept ⟨false, false, U, Q, E, L, D⟩ s t) {job}
    : KeepsStores ⟨false, false, U, Q, E, L, D⟩ s (execStepCommit job t) := by
  dsimp only [execStepCommit]
  split
  · exact .done h
  · split
    · exact .done h
    · exact .branch (.done h.commitStep.endStep) (.done h)

theorem jobOpen (h : StoresKept ⟨H, false, U, Q, E, L, D⟩ s t) {c} : KeepsStores ⟨H, false, U, Q, E, L, D⟩ s (execJobOpen c t) := by
  dsimp only [execJobOpen]
  refine .done (h.checked ?_)
  split
  · exact h.reply
  · exact .branch h.reply (.branch h.reply (.branch h.reply h.setJob.reply))

theorem placementMigrate (h : StoresKept ⟨false, false, U, Q, E, L, D⟩ s t) {c}
    : KeepsStores ⟨false, false, U, Q, E, L, D⟩ s (execPlacementMigrate c t) := by
  dsimp only [execPlacementMigrate]
  refine .done (h.checked ?_)
  split
  · exact .branch h.reply (.branch h.reply (.branch h.reply h.setJob.ledger.reply))
  · exact h.reply

theorem commitPolicySet (h : StoresKept M s t) {c} : KeepsStores M s (execCommitPolicySet c t) :=
  .done (h.checked (.branch h.reply (.branch h.reply (h.foldlMem fun _ x hx h => h.wr (List.all_eq_true.mp
    (by decide : policyFields.all Fld.apart = true) x.1 (List.of_mem_zip hx).1)).reply)))

theorem commitStatus (h : StoresKept M s t) {c} : KeepsStores M s (execCommitStatus c t) := by
  dsimp only [execCommitStatus]
  refine .done (h.checked ?_)
  split
  · exact h.reply
  · exact .branch h.reply h.reply

theorem ledgerRead (h : StoresKept M s t) {c} : KeepsStores M s (execLedgerRead c t) := by
  dsimp only [execLedgerRead]
  refine .done (h.checked ?_)
  refine .branch h.reply (.branch h.reply (.branch h.reply ?_))
  split <;> exact h.reply

theorem ledgerHead (h : StoresKept M s t) {c} : KeepsStores M s (execLedgerHead c t) :=
  .done (h.checked (.branch h.reply (.branch h.reply h.reply)))

theorem jobClose (h : StoresKept ⟨false, false, U, Q, E, L, D⟩ s t) {c} : KeepsStores ⟨false, false, U, Q, E, L, D⟩ s (execJobClose c t) := by
  dsimp only [execJobClose]
  refine .done (h.checked ?_)
  split
  · exact h.reply
  · exact .branch h.reply (.branch h.reply (h.foldl fun _ _ h1 => .branch h1.revokeOne h1.endStep).setGate.reply)

/-! ### Grove -/

theorem setThr (h : StoresKept M s t) {slot b} : StoresKept M s (t.setThr slot b) :=
  h.wr.foldl fun _ _ h => h.wr

theorem reloadGrs (h : StoresKept M s t) {slot} : StoresKept M s (t.reloadGrs slot) :=
  .branch h (h.foldl fun _ _ h1 => .branch h1 h1.sendRun)

theorem tellPeer (h : StoresKept M s t) {b tag tenant way peer} : StoresKept M s (t.tellPeer b tag tenant way peer) :=
  h.sendMsg

theorem unbind (h : StoresKept M s t) {c slot part} : StoresKept M s (t.unbind c slot part) :=
  (h.foldl fun _ _ h => h.tellPeer).set

theorem groveLoad (h : StoresKept M s t) {c} : KeepsStores M s (execGroveLoad c t) := by
  dsimp only [execGroveLoad]
  refine .done (h.checked ?_)
  refine .branch h.reply ?_
  split
  · exact h.reply
  · exact h.set.set.unbind.setThr.reloadGrs.reply

theorem groveUnload (h : StoresKept M s t) {c} : KeepsStores M s (execGroveUnload c t) :=
  .done (h.checked (.branch h.reply (.branch h.reply h.set.unbind.reply)))

theorem groveInfo (h : StoresKept M s t) {c} : KeepsStores M s (execGroveInfo c t) := by
  dsimp only [execGroveInfo]
  refine .done (h.checkedPtr ?_)
  split
  · exact h.reply
  · exact h.replyBlob

theorem storeScore (h : StoresKept M s t) {v stage ws} : StoresKept M s (t.storeScore v stage ws) :=
  h.set

theorem countScore (h : StoresKept M s t) {r alarm} : StoresKept M s (t.countScore r alarm) := by
  dsimp only [State.countScore]
  split
  · exact (StoresKept.branch h.bump.bump h.bump).bump
  · exact (StoresKept.branch h.bump.bump h.bump).bump
  · exact (StoresKept.branch h.bump.bump h.bump).bump
  · exact .branch h.bump.bump h.bump

theorem finishScore (h : StoresKept M s t) {v stage slot r h'} : StoresKept M s (t.finishScore v stage slot r h') :=
  .branch (StoresKept.branch h.countScore.storeScore.alarmUp h.countScore.storeScore).setReason.mirrorDie
    (.branch h.countScore.storeScore.alarmUp h.countScore.storeScore)

theorem grvFault (h : StoresKept M s t) {slot mem} : StoresKept M s (t.grvFault slot mem) :=
  h.signal

theorem partSums (h : StoresKept M s t) {slot m v fault} : StoresKept M s (t.partSums slot m v fault).2 := by
  dsimp only [State.partSums]
  split
  · exact h.grvFault
  · split
    · exact h
    · exact h.grvFault

theorem scoreWith (h : StoresKept M s t) {v stage slot m fault finish eval} (hf : ∀ u w, StoresKept M s u → StoresKept M s (finish u w)) :
    StoresKept M s (t.scoreWith v stage slot m fault finish eval) := by
  unfold State.scoreWith
  extract_lets m' num send s₁
  have h₁ : StoresKept M s s₁ := .branch h (h.set.foldl fun _ _ h => h.sendMsg)
  dsimp only
  split
  · exact hf _ _ h₁.partSums
  · exact .branch (hf _ _ h₁.partSums) h₁.partSums.set

theorem groveScore (h : StoresKept M s t) {d k committed fault} : KeepsStores M s (execGroveScore d k committed fault t) := by
  dsimp only [execGroveScore]
  split
  · exact .done h
  · refine .branch (.done h) ?_
    split
    · exact .done h.set.bump
    · exact .done (h.set.scoreWith fun _ _ h => h.finishScore)

theorem groveVecReceive (h : StoresKept M s t) {q src slot part num v fault}
    : KeepsStores M s (execGroveVecReceive q src slot part num v fault t) := by
  dsimp only [execGroveVecReceive]
  split
  · exact .done h.consume.sendMsg
  · exact .branch (.done h.consume.sendMsg) (.done (StoresKept.branch h.consume.partSums.bump h.consume.partSums).sendMsg)

theorem evalReply (h : StoresKept M s t) {c v slot r h'} : StoresKept M s (t.evalReply c v slot r h') :=
  h.countScore.reply

theorem endSplit (h : StoresKept M s t) {x r} : StoresKept M s (t.endSplit x r) := by
  dsimp only [State.endSplit]
  split
  · exact h.set
  · split
    · exact h.set.finishScore
    · exact h.set.evalReply

theorem trySplit (h : StoresKept M s t) {x} : StoresKept M s (t.trySplit x) := by
  dsimp only [State.trySplit]
  split
  · exact h
  · exact .branch h.endSplit (.branch h.endSplit h)

theorem groveSumsReceive (h : StoresKept M s t) {f num part fault modelId modelVer sums} :
    KeepsStores M s (execGroveSumsReceive f num part fault modelId modelVer sums t) := by
  dsimp only [execGroveSumsReceive]
  split
  · exact .done h.consume.bump.viol
  · split
    · exact .done h.consume.bump.viol
    · exact .branch (.done h.consume.bump.viol) (.branch (.done h.consume.endSplit) (.done h.consume.set.trySplit))

theorem groveSplitTimeout (h : StoresKept M s t) {num} : KeepsStores M s (execGroveSplitTimeout num t) := by
  dsimp only [execGroveSplitTimeout]
  split
  · exact .done h
  · exact .branch (.done h.endSplit) (.done h)

theorem peerConfirm (h : StoresKept M s t) {c} : StoresKept M s (t.peerConfirm c) := by
  dsimp only [State.peerConfirm]
  refine .branch h.set.reply ?_
  split
  · exact h.reply
  · exact .branch h.reply h.reply

theorem grovePeerBind (h : StoresKept M s t) {c answer} : KeepsStores M s (execGrovePeerBind c answer t) := by
  dsimp only [execGrovePeerBind]
  refine .done (h.checked ?_)
  refine .branch h.peerConfirm (.branch h.reply (.branch h.reply (.branch h.unbind.reply ?_)))
  split
  · exact h.reply
  · split
    · exact h.tellPeer.reply
    · exact h.tellPeer.reply
    · exact .branch h.tellPeer.unbind.tellPeer.set.reply h.tellPeer.reply

theorem groveEval (h : StoresKept M s t) {c fault} : KeepsStores M s (execGroveEval c fault t) := by
  dsimp only [execGroveEval]
  refine .done (h.checked ?_)
  split
  · exact h.reply
  · exact .branch h.reply (h.scoreWith fun _ _ h => h.evalReply)

theorem groveScoreRead (h : StoresKept M s t) {c} : KeepsStores M s (execGroveScoreRead c t) := by
  dsimp only [execGroveScoreRead]
  refine .done (h.checked ?_)
  split
  · exact h.reply
  · refine .branch h.reply ?_
    split
    · exact h.reply
    · exact .branch h.reply h.reply

theorem groveGrsImage (h : StoresKept M s t) {c} : KeepsStores M s (execGroveGrsImage c t) := by
  dsimp only [execGroveGrsImage]
  refine .done (h.checked ?_)
  split
  · exact h.reply
  · exact .branch h.reply h.reply

theorem groveGrsRefresh (h : StoresKept M s t) {c} : KeepsStores M s (execGroveGrsRefresh c t) := by
  dsimp only [execGroveGrsRefresh]
  refine .done (h.checked ?_)
  split
  · exact h.reply
  · split
    · exact h.reply
    · exact .branch h.reply h.sendImage.zxSend

theorem grvLaneCtrlWrite (h : StoresKept M s t) {v} : KeepsStores M s (execGrvLaneCtrlWrite v t) :=
  .done (.branch (.branch h h.wr) (StoresKept.branch h h.wr).wr)

theorem grsCheck (h : StoresKept M s t) {d n} : KeepsStores M s (execGrsCheck d n t) := by
  dsimp only [execGrsCheck]
  split
  · refine .branch (.done h) (.branch (.done h.set) ?_)
    split
    · exact .done h.set
    · exact .branch (.done h.set) (.done h.set.bump.signal.setReason.mirrorDie)
  · exact .done h

/-! ### Time -/

theorem setTb (h : StoresKept M s t) {i t'} : StoresKept M s (t.setTb i t') :=
  .branch h.set h.set

theorem fine8 (h : StoresKept M s t) {r} : StoresKept M s (t.fine8 r).2 := by
  dsimp only [State.fine8]
  exact .branchSnd (.pair h) (.pair h.draw)

theorem noteOffset (h : StoresKept M s t) {i o d} : StoresKept M s (t.noteOffset i o d) := by
  dsimp only [State.noteOffset]
  split
  · exact h.fine8.wr
  · exact h.fine8.wr.fine8.wr

theorem noteStep (h : StoresKept M s t) {i o} : StoresKept M s (t.noteStep i o) :=
  .branch h.set h.set

theorem expireHoldover (h : StoresKept M s t) {i} : StoresKept M s (t.expireHoldover i) :=
  .branch (.branch h.setTb.bump.ls h.setTb.bump) h

theorem measure (h : StoresKept M s t) {i o d period} : StoresKept M s (t.measure i o d period) := by
  unfold State.measure
  extract_lets s₁ tb₀ tb a lock tb₁ s₂ s₃
  have h₁ : StoresKept M s s₁ := h.expireHoldover.noteOffset
  have h₃ : StoresKept M s s₃ := .branch (.branch h₁.bump.ls h₁.bump.violation) h₁
  exact .branch h₁.setTb.noteStep (.branch h₁.setTb.noteStep (StoresKept.branch (.branch h₃.bump.ls h₃.bump) h₃).setTb)

theorem beginExchange (h : StoresKept M s t) {i} : StoresKept M s (t.beginExchange i) :=
  h.setTb

theorem timeViol (h : StoresKept M s t) {e row} : StoresKept M s (t.timeViol e row) := by
  dsimp only [State.timeViol]
  exact .escalate (by split; exacts [h.countViol.bump, h.countViol.bump.violation])

theorem sendTime (h : StoresKept M s t) {e sub payload} : StoresKept M s (t.sendTime e sub payload) :=
  .branch h.modLink h.enqueue

theorem stemSyncs (h : StoresKept M s t) {ahead} : StoresKept M s (t.stemSyncs ahead) :=
  h.foldl fun _ _ h1 => .branch h1.set.sendTime h1

theorem syncReceive (h : StoresKept M s t) {exch period origin corr ago ahead}
    : KeepsStores M s (execSyncReceive exch period origin corr ago ahead t) :=
  .done h.consume.beginExchange.set.sendTime

theorem delayReqReceive (h : StoresKept M s t) {p exch ago ahead} : KeepsStores M s (execDelayReqReceive p exch ago ahead t) := by
  dsimp only [execDelayReqReceive]
  split
  · exact .branch (.done h.consume.set.sendTime) (.done h.consume)
  · exact .done h.consume.timeViol

theorem delayRespReceive (h : StoresKept M s t) {exch t4} : KeepsStores M s (execDelayRespReceive exch t4 t) := by
  dsimp only [execDelayRespReceive]
  split
  · exact .done h.consume.timeViol
  · exact .branch (.done h.consume) (.branch (.done h.consume.set.timeViol) (.done h.consume.set.measure))

theorem sendPtp (h : StoresKept M s t) {sub src dst hops mk domainPort} : StoresKept M s (t.sendPtp sub src dst hops mk domainPort) := by
  dsimp only [State.sendPtp]
  split
  · next e => exact h.outPort.snd_eq e
  · next e => exact (h.outPort.snd_eq e).enqueue

theorem canopySyncs (h : StoresKept M s t) {ahead} : StoresKept M s (t.canopySyncs ahead) :=
  h.foldl fun _ _ h => h.set.sendPtp

theorem syncSend (h : StoresKept M s t) {ahead cahead} : KeepsStores M s (execSyncSend ahead cahead t) :=
  .done h.stemSyncs.canopySyncs

theorem canopySyncReceive (h : StoresKept M s t) {q src msg ago ahead} : KeepsStores M s (execCanopySyncReceive q src msg ago ahead t) :=
  .branch (.done h.consume.timeViol) (.branch (.done h.consume) (.done h.consume.beginExchange.set.sendPtp))

theorem canopyDelayReqReceive (h : StoresKept M s t) {q src msg ago} : KeepsStores M s (execCanopyDelayReqReceive q src msg ago t) := by
  dsimp only [execCanopyDelayReqReceive]
  refine .branch (.done h.consume.timeViol) ?_
  split
  · exact .branch (.done h.consume.set.sendPtp) (.done h.consume)
  · exact .done h.consume

theorem canopyMeasure (h : StoresKept M s t) {x o d} : StoresKept M s (t.canopyMeasure x o d) :=
  (StoresKept.branch h.set h).measure

theorem canopyDelayRespReceive (h : StoresKept M s t) {f msg} : KeepsStores M s (execCanopyDelayRespReceive f msg t) := by
  dsimp only [execCanopyDelayRespReceive]
  refine .branch (.done h.consume.timeViol) ?_
  split
  · exact .done h.consume.timeViol
  · exact .branch (.done h.consume.timeViol) (.branch (.done h.consume.set) (.branch (.done h.consume.set.timeViol)
      (.done h.consume.set.canopyMeasure)))

theorem timeRelay (h : StoresKept M s t) {q sub src dst hops msg ago ahead}
    : KeepsStores M s (execTimeRelay q sub src dst hops msg ago ahead t) :=
  .branch (.done h.consume.bump.violation) (.done h.consume.sendPtp)

theorem ppsEdge (h : StoresKept M s t) {ago wide} : KeepsStores M s (execPpsEdge ago wide t) := by
  dsimp only [execPpsEdge]
  refine .branch (.done h) (.branch (.done h.bump.violation) ?_)
  split
  · exact .done h.set.beginExchange
  · exact .done h.set.beginExchange.measure

theorem todFrame (h : StoresKept M s t) {f} : KeepsStores M s (execTodFrame f t) :=
  .branch (.done h) (.branch (.done h.bump.violation) (.branch (.done h) (.branch (.done h.set.set.violation)
    (.branch (.done h.set.set.bump.violation) (.done h.set.set)))))

theorem tbSourceLost (h : StoresKept M s t) {part} : KeepsStores M s (execTbSourceLost part t) :=
  .branch (.done (.branch h.set h)) (.branch (.done (StoresKept.branch h.set h).setTb) (.done (StoresKept.branch h.set h).setTb))

theorem holdoverExpiry (h : StoresKept M s t) {part} : KeepsStores M s (execHoldoverExpiry part t) :=
  .done h.expireHoldover

theorem grantDie (h : StoresKept M s t) {d} : StoresKept M s (t.grantDie d) :=
  .branch h.setTb h

theorem resync (h : StoresKept M s t) {c} : KeepsStores M s (execResync c t) := by
  dsimp only [execResync]
  refine .done (h.checked ?_)
  split
  · exact h.setTb.reply
  · split
    · exact h.reply
    · exact .branch h.reply h.grantDie.reply
  · exact (h.setTb.foldl fun _ _ h1 => .branch h1.grantDie h1).reply
  · exact h.reply

theorem resyncGrantLapse (h : StoresKept M s t) {part} : KeepsStores M s (execResyncGrantLapse part t) :=
  .done (.branch h.setTb h)

theorem setLac (h : StoresKept M s t) {k x} : StoresKept M s (t.setLac k x) :=
  h.set

theorem lacPulse (h : StoresKept M s t) {k} : StoresKept M s (t.lacPulse k) :=
  h.setLac.emit.ls

theorem lacFire (h : StoresKept M s t) {k} : KeepsStores M s (execLacFire k t) :=
  .branch (.done h) (.branch (.done h.lacPulse.wr) (.done (StoresKept.branch h.lacPulse h.lacPulse.ls).setLac))

theorem lacArm (h : StoresKept M s t) {k v} : KeepsStores M s (execLacArm k v t) :=
  .branch (.done h) (.branch (.done h.wr.wr.wr.wr.wr.wr) (.branch (.done h.wr.wr.wr.wr.wr.wr.setLac)
    (.branch h.wr.wr.wr.wr.wr.wr.setLac.lacFire (.branch (.done (StoresKept.branch h.wr.wr.wr.wr.wr.wr.setLac.ls.lacPulse
    h.wr.wr.wr.wr.wr.wr.setLac.ls).wr) (.done (StoresKept.branch h.wr.wr.wr.wr.wr.wr.setLac.ls.lacPulse
        h.wr.wr.wr.wr.wr.wr.setLac.ls).setLac)))))

theorem ppsOutput (h : StoresKept M s t) : KeepsStores M s (execPpsOutput t) :=
  .branch (.done h.set.emit) (.done h)

theorem tick (h : StoresKept M s t) : StoresKept M s t.tick :=
  .branch (StoresKept.branch h.set h).set (.branch h.set h)

theorem timeSrcSet (h : StoresKept M s t) {c} : KeepsStores M s (execTimeSrcSet c t) :=
  .done (h.checked (.branch h.reply h.set.wr.wr.wr.wr.wr.wr.wr.reply))

theorem timeRead (h : StoresKept M s t) {c} : KeepsStores M s (execTimeRead c t) :=
  .done (h.checked h.readEffect.reply)

theorem timeStatus (h : StoresKept M s t) {c} : KeepsStores M s (execTimeStatus c t) :=
  .done (h.checked h.reply)

theorem ppsSet (h : StoresKept M s t) {c} : KeepsStores M s (execPpsSet c t) :=
  .done (h.checked h.wr.wr.set.reply)

/-! ### ZxBlock -/

theorem addHw (h : StoresKept M s t) {h'} : StoresKept M s (t.addHw h') :=
  (h.ls.ls.foldl fun _ _ h => h.ls).ls.ls.ls.foldl fun _ _ h1 => .branch h1.wr h1

theorem latchCounters (h : StoresKept M s t) : StoresKept M s t.latchCounters :=
  (h.foldl fun _ _ h => h.wr).set.loadSel

theorem latchStop (h : StoresKept M s t) {t' b c} : StoresKept M s (t.latchStop t' b c) :=
  h.setTap.wrSat

theorem strobe (h : StoresKept M s t) : StoresKept M s t.strobe :=
  (h.foldl fun _ _ h => h.setTap).emit

theorem openWindow (h : StoresKept M s t) {c e at_} : StoresKept M s (t.openWindow c e at_) :=
  h.set.emit

theorem endWindow (h : StoresKept M s t) {w} : StoresKept M s (t.endWindow w) :=
  (StoresKept.branch (h.ls.foldl fun _ _ h => h.setReg).modEntry.irq (h.ls.foldl fun _ _ h => h.setReg).modEntry).set

theorem closeEpoch (h : StoresKept M s t) {c n at_} : StoresKept M s (t.closeEpoch c n at_) := by
  unfold State.closeEpoch
  extract_lets s₁ zx e part flags entry s₂ s₃ s₄ s₅ s₆
  have h₁ : StoresKept M s s₁ := by
    dsimp only [s₁]
    split
    · exact h
    · exact h.endWindow
  have h₅ : StoresKept M s s₅ := (h₁.latchCounters.loadQw.foldl fun _ _ h => h.latchStop).strobe.openWindow.set
  have h₆ : StoresKept M s s₆ := .branch (h₅.foldl fun _ _ h => .branch h.epochMark h) h₅
  exact .branch h₁.set.loadSel.loadQw (.branch h₆.ls.logRoom.set.grsSwitch h₆.grsSwitch)

theorem zxEpochClose (h : StoresKept M s t) {h'} : KeepsStores M s (execZxEpochClose h' t) := by
  dsimp only [execZxEpochClose]
  refine .branch (.done h) ?_
  split
  · exact .done h.addHw
  · exact .branch (.done h.addHw) (.done h.addHw.closeEpoch)

theorem modCounts (h : StoresKept M s t) {n f} : StoresKept M s (t.modCounts n f) :=
  h.modEntry

theorem lsRegion (h : StoresKept M s t) {pre k n} : StoresKept M s (t.lsRegion pre k n) :=
  .branch h (.branch h.ls.set.modCounts h.ls)

theorem ctrEdge (h : StoresKept M s t) {pre n t' engines nlines prev lines} : StoresKept M s (t.ctrEdge pre n t' engines nlines prev lines) :=
  .branch h (.branch (StoresKept.branch h.wr.wr.set h.wr).modCounts h.wr)

theorem resumeTap (h : StoresKept M s t) {t'} : StoresKept M s (t.resumeTap t') := by
  dsimp only [State.resumeTap]
  exact .wr (.setTap (by split; exacts [h, (h.foldl fun _ _ h1 => .branch h1.setTrc h1).setTap]))

theorem engineEdge (h : StoresKept M s t) {pre t' engines prev lines} : StoresKept M s (t.engineEdge pre t' engines prev lines) :=
  (StoresKept.branch (h.lsRegion.lsRegion.lsRegion.lsRegion.lsRegion.foldl fun _ _ h => h.lsRegion)
    (h.lsRegion.lsRegion.lsRegion.lsRegion.lsRegion.foldl fun _ _ h => h.lsRegion).wr.irq).setTap

theorem traceEdge (h : StoresKept M s t) {t' engines prev lines stretched} : StoresKept M s (t.traceEdge t' engines prev lines stretched) :=
  h.foldl fun _ _ h1 => .branch h1 h1.setTrc

theorem tapEdge (h : StoresKept M s t) {t' raw} : StoresKept M s (t.tapEdge t' raw) :=
  .branch (.branch (h.resumeTap.engineEdge.foldl fun _ _ h => h.ctrEdge).traceEdge.setTap.wr.lsRegion.modCounts
    (h.resumeTap.engineEdge.foldl fun _ _ h => h.ctrEdge).traceEdge.setTap.wr.lsRegion)
    (h.resumeTap.engineEdge.foldl fun _ _ h => h.ctrEdge).traceEdge.setTap

theorem blzFeed (h : StoresKept M s t) {u} : StoresKept M s (t.blzFeed u) :=
  h.blzBeat

theorem regionTapSample (h : StoresKept M s t) {edge} : KeepsStores M s (execRegionTapSample edge t) :=
  .branch (.done h) (.done ((h.foldl fun _ _ h => h.tapEdge).foldl fun _ _ h1 => .branch h1.blzFeed h1))

theorem tapLatchTimeout (h : StoresKept M s t) {t'} : KeepsStores M s (execTapLatchTimeout t' t) :=
  .branch (.done h) (.done h.setTap.modCounts.wr.wr.ls.irq)

theorem tapClockStopped (h : StoresKept M s t) {t'} : KeepsStores M s (execTapClockStopped t' t) :=
  .branch (.done h) (.done h.setTap.bump)

theorem tapClockResumed (h : StoresKept M s t) {t'} : KeepsStores M s (execTapClockResumed t' t) :=
  .branch (.done h) (.done h.resumeTap)

theorem stretchTrip (h : StoresKept M s t) {n} : KeepsStores M s (execStretchTrip n t) :=
  .branch (.done h) (.done (.branch h.ls.setTap h.ls))

theorem droopTrip (h : StoresKept M s t) {n} : KeepsStores M s (execDroopTrip n t) :=
  .branch (.done h) (.done h.ls)

theorem testModeRequest (h : StoresKept M s t) {level} : KeepsStores M s (execTestModeRequest level t) :=
  .branch (.done h) (.branch (.done h.set) (.branch (.done h.ls.irq) (.done h.set)))

theorem zxCtrSelWrite (h : StoresKept M s t) {n w priv} : KeepsStores M s (execZxCtrSelWrite n w priv t) :=
  .branch (.done h) (.branch (.done h.emit) (.branch (.done (StoresKept.branch (StoresKept.branch h.ls h).ls (.branch h.ls h)).irq.emit)
      (.done h.setSel.emit)))

theorem zxLsCtrlWrite (h : StoresKept M s t) {v} : KeepsStores M s (execZxLsCtrlWrite v t) :=
  .branch (.done h) (.branch (.done h.emit) (.done (StoresKept.branch h h.wr).emit))

theorem zxApbAccessInReset (h : StoresKept M s t) {addr write v} : KeepsStores M s (execZxApbAccessInReset addr write v t) :=
  .done (.branch h.emit h)

theorem arriveNew (h : StoresKept M s t) {l pin} : StoresKept M s (t.arriveNew l pin) :=
  h.ls.set.foldl fun _ _ h1 => .branch h1.setTrc h1

theorem arrive (h : StoresKept M s t) {l pin} : StoresKept M s (t.arrive l pin) :=
  .branch h h.arriveNew

theorem barrierArrival (h : StoresKept M s t) {l} : KeepsStores M s (execBarrierArrival l t) :=
  .branch (.done h) (.done h.arrive)

theorem zxBarArriveWrite (h : StoresKept M s t) {v priv} : KeepsStores M s (execZxBarArriveWrite v priv t) :=
  .branch (.done h) (.branch (.done h.emit) (.branch (.done h.ls.irq.emit) (.done h.arrive.emit)))

theorem sensorResult (h : StoresKept M s t) {id raw err} : KeepsStores M s (execSensorResult id raw err t) := by
  dsimp only [execSensorResult]
  refine .branch (.done h) ?_
  split
  · exact .done h.ls
  · exact .branch (.done h.ls) (.branch (.done h.ls) (.done (.branch h.set.ls h.set.ls)))

theorem sensorWindowEnd (h : StoresKept M s t) : KeepsStores M s (execSensorWindowEnd t) := by
  dsimp only [execSensorWindowEnd]
  split
  · exact .done h
  · exact .branch (.done h) (.done h.endWindow)

theorem groveSVote (h : StoresKept M s t) : KeepsStores M s (execGroveSVote t) := by
  dsimp only [execGroveSVote]
  refine .branch (.done h) ?_
  split
  · exact .done h
  · split
    · exact .done h.setReg.modEntry.grsSwitch
    · exact .done (StoresKept.branch h.setReg.modEntry.ls.ls.irq.zxAlarm.triggerSource h.setReg.modEntry.ls).grsSwitch

theorem poisonAccept (h : StoresKept M s t) : KeepsStores M s (execPoisonAccept t) := by
  dsimp only [execPoisonAccept]
  split
  · exact .done h
  · exact .done h.set.ls

theorem poisonStuck (h : StoresKept M s t) : KeepsStores M s (execPoisonStuck t) := by
  dsimp only [execPoisonStuck]
  split
  · exact .done h
  · exact .branch (.done h) (.done h.set.irq.zxAlarm)

theorem quietWindowEdge (h : StoresKept M s t) : KeepsStores M s (execQuietWindowEdge t) :=
  .branch (.done h) (.branch (.done h) (.done h.set.emit))

/-! ### ZxTrace -/

theorem traceArm (h : StoresKept M s t) {n} : KeepsStores M s (execTraceArm n t) :=
  .done (.branch h.trcArm h)

theorem traceManualTrigger (h : StoresKept M s t) {n} : KeepsStores M s (execTraceManualTrigger n t) :=
  .done (.branch h.trigger h)

theorem traceRelease (h : StoresKept M s t) {n} : KeepsStores M s (execTraceRelease n t) :=
  .done (.branch h.trcRelease h)

theorem trcTrigger (h : StoresKept M s t) {c} : KeepsStores M s (execTrcTrigger c t) :=
  .done (h.zxRun (.branch h.trigger.zxReply h.zxReply))

theorem trcReleaseCmd (h : StoresKept M s t) {c} : KeepsStores M s (execTrcRelease c t) :=
  .done (h.zxRun (.branch h.trcRelease.zxReply h.zxReply))

theorem traceSourceRecord (h : StoresKept M s t) {n} : KeepsStores M s (execTraceSourceRecord n t) :=
  .done (.branch h.putTrc h)

theorem traceLineTrigger (h : StoresKept M s t) {t' l} : KeepsStores M s (execTraceLineTrigger t' l t) :=
  .done (.branch h.triggerSource h)

theorem traceTimeTrigger (h : StoresKept M s t) {n} : KeepsStores M s (execTraceTimeTrigger n t) :=
  .branch (.done h) (.done h.setTrc.trigger)

theorem drainBurstIssue (h : StoresKept M s t) {n} : KeepsStores M s (execDrainBurstIssue n t) := by
  dsimp only [execDrainBurstIssue]
  refine .branch (.done h) (.branch (.done (.branch h h.set.ls)) ?_)
  split
  · exact .done h
  · exact .done h.setTrc.set.emit

theorem advanceDwr (h : StoresKept M s t) {n k} : StoresKept M s (advanceDwr n k t) := by
  induction k generalizing t with
  | zero => exact h
  | succ k ih =>
    unfold Machine.advanceDwr
    split
    · exact h
    · exact .branch (ih h.set.wr.trcFree) h

theorem drainBresp (h : StoresKept M s t) {id ok} : KeepsStores M s (execDrainBresp id ok t) := by
  dsimp only [execDrainBresp]
  split
  · exact .done h
  · exact .branch (.done (StoresKept.branch h h.ls).set) (.done (StoresKept.branch (StoresKept.branch h h.ls).set
      (StoresKept.branch h h.ls).set.setTrc.irq).advanceDwr.orphanBursts)

theorem traceDrdWrite (h : StoresKept M s t) {n v} : KeepsStores M s (execTraceDrdWrite n v t) :=
  .done (.branch h.wr h)

theorem hangCondition (h : StoresKept M s t) : KeepsStores M s (execHangCondition t) :=
  .branch (.done h) (.done (.branch h.set h.set.declareHang))

theorem hangTake (h : StoresKept M s t) : KeepsStores M s (execHangTake t) :=
  .done (.branch h.declareHang h)

theorem hangReleaseWrite (h : StoresKept M s t) : KeepsStores M s (execHangReleaseWrite t) :=
  .done (.branch h.releaseHang h)

theorem hangDeclare (h : StoresKept M s t) {c} : KeepsStores M s (execHangDeclare c t) :=
  .done (h.zxRun h.declareHang.zxReply)

theorem hangRelease (h : StoresKept M s t) {c} : KeepsStores M s (execHangRelease c t) :=
  .done (h.zxRun (.branch h.releaseHang.zxReply h.zxReply))

theorem hangDumpTaken (h : StoresKept M s t) : KeepsStores M s (execHangDumpTaken t) :=
  .branch (.done h) (.done h.wr.wr.irq.ls.zxAlarm.modLink)

theorem logResend (h : StoresKept M s t) {c} : KeepsStores M s (execLogResend c t) :=
  .done (h.zxRun (.branch h.resendFrom.endPass.zxReply h.resendFrom.endPass.zxReply))

theorem stemAckReceive (h : StoresKept M s t) {logv epoch} : KeepsStores M s (execStemAckReceive logv epoch t) :=
  .branch (.done h.consume) (.branch (.done h.consume) (.branch (.done h.consume.viol) (.done h.consume.wr.wr)))

/-! ### ZxAdmin -/

theorem zxWipe (h : StoresKept M s t) : StoresKept M s t.zxWipe := by
  dsimp only [State.zxWipe]
  exact h.set.dropRegs.modLink

theorem zxClear (h : StoresKept M s t) : StoresKept M s t.zxClear :=
  h.zxWipe.set

theorem zxSetLc (h : StoresKept M s t) {lc} : StoresKept M s (t.zxSetLc lc) :=
  .branch h (StoresKept.branch h.set.wr h.set).zxClear

theorem zxFresh (h : StoresKept ⟨H, G, U, false, E, L, D⟩ s t) {keep lc} : StoresKept ⟨H, G, U, false, E, L, D⟩ s (t.zxFresh keep lc) :=
  ((h.dropRegs (p := fun k => zxKey k && !keep k && !keyOf integrated k) (by simp [show zxKey (BX_LC_STS_STATE.key 0) = false by decide])
    fun _ => by simp [show zxKey (BX_SAF_STS_DEGRADED.key 0) = false by decide]).putQueues.set).setLink

theorem zxReset (h : StoresKept ⟨H, G, U, false, E, L, D⟩ s t) {kind low} : StoresKept ⟨H, G, U, false, E, L, D⟩ s (t.zxReset kind low) := by
  dsimp only [State.zxReset]
  refine .branch h.set ?_
  split <;> exact h.set.zxFresh

theorem zxColdReset (h : StoresKept ⟨H, G, U, false, E, L, D⟩ s t) {low} : KeepsStores ⟨H, G, U, false, E, L, D⟩ s (execZxColdReset low t) :=
  .done h.zxReset

theorem zxWarmReset (h : StoresKept ⟨H, G, U, false, E, L, D⟩ s t) {low} : KeepsStores ⟨H, G, U, false, E, L, D⟩ s (execZxWarmReset low t) :=
  .done h.zxReset

theorem zxLocalReset (h : StoresKept ⟨H, G, U, false, E, L, D⟩ s t) {low} : KeepsStores ⟨H, G, U, false, E, L, D⟩ s (execZxLocalReset low t) :=
  .done h.zxReset

theorem gateTrace (h : StoresKept M s t) : StoresKept M s t.gateTrace :=
  h.foldl fun _ _ h1 => .branch h1.setTrc h1

theorem ungateTrace (h : StoresKept M s t) : StoresKept M s t.ungateTrace := by
  dsimp only [State.ungateTrace]
  exact h.foldl fun _ _ h1 => by split; exacts [h1, h1.putTrc.epochMark]

theorem zxRetain (h : StoresKept ⟨H, G, U, false, E, L, D⟩ s t) : StoresKept ⟨H, G, U, false, E, L, D⟩ s t.zxRetain :=
  h.zxWipe.dropRegs.putQueues.set.setLink

theorem zxEnter (h : StoresKept ⟨H, G, U, false, E, L, D⟩ s t) {z'} : StoresKept ⟨H, G, U, false, E, L, D⟩ s (t.zxEnter z') := by
  unfold State.zxEnter
  extract_lets old zx₁ s₁ s₂ zx₂ s₃ s₄
  have h₁ : StoresKept ⟨H, G, U, false, E, L, D⟩ s s₁ := h.set
  have h₃ : StoresKept ⟨H, G, U, false, E, L, D⟩ s s₃ := .branch h₁.zxFresh.set (.branch (.branch h₁.zxRetain h₁)
    (.branch (.branch h₁.gateTrace h₁) (.branch h₁.ungateTrace h₁)))
  have h₄ : StoresKept ⟨H, G, U, false, E, L, D⟩ s s₄ := .branch (h₃.foldl fun _ _ h => h.setTap) h₃
  exact h₄.set.emit

theorem pwrSettle (h : StoresKept ⟨H, G, U, false, E, L, D⟩ s t) : StoresKept ⟨H, G, U, false, E, L, D⟩ s t.pwrSettle := by
  dsimp only [State.pwrSettle]
  split
  · exact h
  · exact .branch h h.zxEnter

theorem zxPowerRequest (h : StoresKept ⟨H, G, U, false, E, L, D⟩ s t) {z'} : KeepsStores ⟨H, G, U, false, E, L, D⟩ s (execZxPowerRequest z' t) :=
  .branch (.done h) (.branch (.done h.zxEnter) (.done h.set.pwrSettle))

theorem capsCommandReceive (h : StoresKept M s t) {b} : KeepsStores M s (execCapsCommandReceive b t) :=
  .branch (.done h) (.branch (.done h.consume.ls.ls.zxSendReply) (.done h.consume.ls.set.zxRefuse))

theorem newInc (h : StoresKept M s t) {inc} : StoresKept M s (t.newInc inc) :=
  .branch h h.set.modLink.wr.wr.ls.wr

theorem zxAdmit (h : StoresKept M s t) {c} : KeepsStores M s (execZxAdmit c t) :=
  .done (h.zxInt (.branch h.zxReply h.wr.wr.wr.newInc.zxSetLc.zxReply))

theorem firstWrite (h : StoresKept M s t) {g} : StoresKept M s (t.firstWrite g) :=
  .branch h h.set.wr.wr

theorem zxShadowWrite (h : StoresKept M s t) {c} : KeepsStores M s (execZxShadowWrite c t) :=
  .done (h.zxInt (.branch h.zxReply (.branch h.zxReply h.firstWrite.set.zxReply)))

theorem zxGrsImageWrite (h : StoresKept M s t) {c} : KeepsStores M s (execZxGrsImageWrite c t) :=
  .done (h.zxInt (.branch h.zxReply (.branch h.zxReply (.branch h.set.zxReply h.firstWrite.set.wr.zxReply))))

theorem zxCfgDone (h : StoresKept M s t) {c} : KeepsStores M s (execZxCfgDone c t) :=
  .done (h.zxInt (.branch (.branch h.set.showImage.zxReply h.zxReply) (.branch h.zxReply (.branch h.set.wr.zxReply h.zxReply))))

theorem zxArm (h : StoresKept M s t) {c} : KeepsStores M s (execZxArm c t) :=
  .done (h.zxInt (.branch h.zxReply (.branch h.zxReply h.set.wr.zxReply)))

theorem zxCfgDrop (h : StoresKept M s t) {c} : KeepsStores M s (execZxCfgDrop c t) :=
  .done (h.zxInt (.branch h.zxReply (.branch h.zxReply h.set.wr.zxReply)))

theorem zxLcSet (h : StoresKept M s t) {c} : KeepsStores M s (execZxLcSet c t) :=
  .done (h.zxInt (.branch h.zxReply h.zxSetLc.zxReply))

theorem zxWtSet (h : StoresKept M s t) {c} : KeepsStores M s (execZxWtSet c t) :=
  .done (h.zxInt (.branch h.zxReply (.branch h.set.zxReply (.branch h.zxReply h.set.zxReply))))

theorem applyShadow (h : StoresKept M s t) {a w} : StoresKept M s (t.applyShadow a w) := by
  dsimp only [State.applyShadow]
  split
  · exact .branch h.setSel h.setSel
  · next e => exact h.setReg (Reg.apart_of_staged e)
  · exact h

theorem zxApply (h : StoresKept M s t) : StoresKept M s t.zxApply := by
  dsimp only [State.zxApply]
  split
  · exact h
  · exact .branch h (StoresKept.branch ((h.foldl fun _ _ h1 => h1.applyShadow).loadSel.loadQw.set.foldl fun _ _ h1 => .branch h1.epochMark h1)
      (h.foldl fun _ _ h1 => h1.applyShadow).loadSel.loadQw.set).wr.wr.wr.grsSwitch

/-! ### Access -/

theorem nextOr {o : Host.Outcome State Fault Refusal} (ho : KeepsStores M s o) {t} : StoresKept M s (nextOr o t) := by
  obtain ⟨u, rfl, hu⟩ := ho
  exact hu

theorem storeField (h : StoresKept M s t) {r i w f} (hf : f ∈ Reg.fields r) : StoresKept M s (t.storeField i w f) := by
  dsimp only [State.storeField]
  split
  case h_1 ha => exact h.wr (Fld.apart_of_written hf (by simp [ha]))
  case h_2 ha => exact h.wr (Fld.apart_of_written hf (by simp [ha]))
  case h_3 ha => exact .branch (h.wr (Fld.apart_of_written hf (by simp [ha]))) h
  · exact h
  · exact h

theorem store (h : StoresKept M s t) {r i w} : StoresKept M s (t.store r i w) :=
  h.foldlMem fun _ _ hf h => h.storeField hf

theorem winRead (h : StoresKept M s t) {off} : StoresKept M s (t.winRead off).2 := by
  dsimp only [State.winRead]
  refine .branchSnd ?_ ?_
  · split
    · exact h
    · exact h.draw
  · refine .branchSnd ?_ (.pair h)
    split
    · exact h
    · exact h.draw

theorem memRead (h : StoresKept M s t) {a} : StoresKept M s (t.memRead a).2 := by
  dsimp only [State.memRead]
  exact .branchSnd h.winRead (.branchSnd (.branchSnd h.draw (.pair h)) (.branchSnd (.pair h) (.pair h)))

theorem wordRead (h : StoresKept M s t) {x} : StoresKept M s (t.wordRead x).2 := by
  dsimp only [State.wordRead]
  refine .branchSnd (.pair h) (.branchSnd ?_ (.pair h.readEffect.set))
  split
  · exact h.set
  · exact h

theorem apbDeny (h : StoresKept M s t) : StoresKept M s t.apbDeny :=
  h.ls.irq

theorem apbRead (h : StoresKept M s t) {a priv} : StoresKept M s (t.apbRead a priv).2 := by
  dsimp only [State.apbRead]
  exact .branchSnd (.pair h.apbDeny) (.pair (by split; exacts [h.wordRead, h.memRead]))

theorem hdCfg (h : StoresKept M s t) {w} : StoresKept M s (t.hdCfg w) :=
  h.store.set

theorem trcCtrl (h : StoresKept M s t) {n w} : StoresKept M s (t.trcCtrl n w) :=
  .branch (StoresKept.branch (StoresKept.branch h.trcArm h).trigger (.branch h.trcArm h)).trcRelease
    (.branch (StoresKept.branch h.trcArm h).trigger (.branch h.trcArm h))

theorem blzCtrl (h : StoresKept M s t) {u w} : StoresKept M s (t.blzCtrl u w) :=
  .branch (nextOr (StoresKept.branch (nextOr h.blzFlushRf) h).blzCntClr) (.branch (nextOr h.blzFlushRf) h)

theorem zxStore (h : StoresKept M s t) {r i w} : StoresKept M s (t.zxStore r i w).2 := by
  dsimp only [State.zxStore]
  split
  · exact .branchSnd (.pair h.ls.irq) (.pair h.setSel)
  · exact .branch h.ls h
  · exact .branch h.ls h
  · exact .branch h h.store
  · exact h.arrive
  · exact h.store.setTrc
  · exact h.wr
  · exact h.trcCtrl
  · exact h.hdCfg
  · exact .branch (StoresKept.branch h.declareHang h).releaseHang (.branch h.declareHang h)
  · exact .branch h.retrain h
  · exact nextOr h.lacArm
  · exact .branchSnd (.pair h.blzWrite) (.pair h.blzWrite.ls)
  · exact .branchSnd (.pair h.blzWrite) (.pair h.blzWrite.ls)
  · exact .branchSnd (.pair h.blzWrite) (.pair h.blzWrite.ls)
  · exact h.blzCtrl
  · exact .branch h.ls h.store

theorem wordWrite (h : StoresKept M s t) {x w} : StoresKept M s (t.wordWrite x w).2 := by
  dsimp only [State.wordWrite]
  exact .branchSnd h.zxStore (.branchSnd (.pair h.set) (.zxStore (by split; exacts [h.set, h.draw])))

theorem apbWrite (h : StoresKept M s t) {a w priv full} : StoresKept M s (t.apbWrite a w priv full).2 := by
  dsimp only [State.apbWrite]
  refine .branchSnd (.pair (.branch h.apbDeny.ls h.apbDeny)) (.branchSnd (.pair h.irq) ?_)
  split
  · exact h.wordWrite
  · exact h

theorem ringWrite (h : StoresKept M s t) {f en r i w} : StoresKept M s (t.ringWrite f en r i w) :=
  .branch h.bump.violation h.store

theorem qpCfg (h : StoresKept M s t) {i w} : StoresKept M s (t.qpCfg i w) :=
  .branch (.branch (.branch h.bump.violation h.wr.wr) h) (.branch (StoresKept.branch (.branch h.bump.violation h.wr.wr) h).disableQp
    (nextOr (StoresKept.branch (.branch h.bump.violation h.wr.wr) h).qpEnable))

theorem evCfg (h : StoresKept ⟨H, G, false, Q, E, L, D⟩ s t) {f w} : StoresKept ⟨H, G, false, Q, E, L, D⟩ s (t.evCfg f w) := by
  unfold State.evCfg
  extract_lets en n s₁ s₂ up
  have h₁ : StoresKept ⟨H, G, false, Q, E, L, D⟩ s s₁ := .branch (.branch h.bump.violation h.wr) h
  exact .branch h₁ (.branch h₁.disableRing (.branch h₁.wr.putUp.post h₁.wr))

theorem stemCtrl (h : StoresKept M s t) {p w} : StoresKept M s (t.stemCtrl p w) :=
  .branch (StoresKept.branch h.wr.setHold h.wr).retrain (.branch h.wr.setHold h.wr)

theorem cnpCtrl (h : StoresKept M s t) {q w} : StoresKept M s (t.cnpCtrl q w) := by
  unfold State.cnpCtrl
  extract_lets s₁ s₂ s₃ s₄
  have h₂ : StoresKept M s s₂ := .branch h.wr.setHold h.wr
  have h₃ : StoresKept M s s₃ := .branch h₂.retrain h₂
  exact .branch (.branch h₃.wr.setPstate h₃.wr) h₃.wr.openPort

theorem queueSts (h : StoresKept ⟨H, G, U, false, E, L, D⟩ s t) {k w} : StoresKept ⟨H, G, U, false, E, L, D⟩ s (t.queueSts k w) := by
  dsimp only [State.queueSts]
  split
  · exact h
  · exact .branch (nextOr h.setQueue.queueCntClr) h.setQueue

theorem identWrite (h : StoresKept M s t) {w} : StoresKept M s (t.identWrite w) :=
  h.store.foldl fun _ _ h1 => .branch h1.openPort h1

theorem bxStore (h : StoresKept ⟨false, G, false, false, E, L, D⟩ s t) {f r i w}
    : StoresKept ⟨false, G, false, false, E, L, D⟩ s (t.bxStore f r i w) := by
  dsimp only [State.bxStore]
  split
  · exact h.queueSts
  · exact .branch h.stemCtrl h.wr
  · exact h.cnpCtrl
  · exact h.blzWrite
  · exact h.blzWrite
  · exact h.blzWrite
  · exact nextOr h.grvLaneCtrlWrite
  · exact h.store.wr
  · exact h.identWrite
  · exact h.set.store
  · exact h.store.set
  · exact nextOr h.dmaDoorbell
  · exact h.closeGauges.store
  · exact h.closeGauges.store
  · exact h.closeGauges.store
  · exact .branch h.set h
  · exact .branch (nextOr h.bootMailboxGo) h
  · exact .branch h.store h
  · exact h.ringWrite
  · exact h.ringWrite
  · exact h.ringWrite
  · exact h.qpCfg
  · exact h.evCfg
  · exact (nextOr (nextOr h.cqHeadWrite).sqDoorbell)
  · exact nextOr h.evHeadWrite
  · exact .branch h h.store
  · exact .branch h h.store
  · exact h.store

theorem barWrite (h : StoresKept ⟨false, G, false, false, E, L, D⟩ s t) {f r i w}
    : StoresKept ⟨false, G, false, false, E, L, D⟩ s (t.barWrite f r i w) :=
  .branch (StoresKept.branch h.bump.violation h).bxStore (.branch h.bump.violation h)

theorem registerWrite (h : StoresKept ⟨false, G, false, false, E, L, D⟩ s t) {a w strb}
    : KeepsStores ⟨false, G, false, false, E, L, D⟩ s (execRegisterWrite a w strb t) := by
  dsimp only [execRegisterWrite]
  split
  · exact .branch (.done h) (.branch (.done h.emit) (.done h.apbWrite.emit))
  · exact .done (.branch h.barWrite h)

theorem registerRead (h : StoresKept M s t) {a} : KeepsStores M s (execRegisterRead a t) := by
  dsimp only [execRegisterRead]
  split
  · exact .branch (.done h) (.branch (.done h.emit) (.done h.apbRead.emit))
  · exact .branch (.done h) (.branch (.done h.readEffect.emit) (.done h.emit))

theorem zxRegRead (h : StoresKept M s t) {c} : KeepsStores M s (execZxRegRead c t) :=
  .done (h.zxRun (.branch h.zxReply (.branch (.branch h.apbRead.zxReply h.apbRead.zxReply)
    (.branch h.apbRead.apbRead.zxReply h.apbRead.apbRead.zxReply))))

theorem zxRegWrite (h : StoresKept M s t) {c} : KeepsStores M s (execZxRegWrite c t) :=
  .done (h.zxRun (.branch h.zxReply (.branch h.apbWrite.zxReply h.apbWrite.apbWrite.zxReply)))

/-! ### Correlator -/

theorem setGroup (h : StoresKept M s t) {x} : StoresKept M s (t.setGroup x) :=
  h.set

theorem takeLag (h : StoresKept M s t) {home group n addr v hit} : StoresKept M s (t.takeLag home group n addr v hit) := by
  dsimp only [State.takeLag]
  refine .branch (StoresKept.branch h.setCorDie.wr.setReason h.setCorDie.wr).mirrorDie ?_
  split
  · exact h.setGroup
  · exact h

theorem sendLag (h : StoresKept M s t) {home group n vals} : StoresKept M s (t.sendLag home group n vals) :=
  h.foldl fun _ _ h1 => .branch (h1.foldl fun _ _ h => h.takeLag) h1.sendMsg

theorem processEpoch (h : StoresKept M s t) {x g n} : StoresKept M s (t.processEpoch x g n) :=
  h.bump.bump.bump.setGroup.mirror.sendLag

theorem skipEpoch (h : StoresKept M s t) {x g n} : StoresKept M s (t.skipEpoch x g n) :=
  h.bump.setGroup.mirror.sendLag

theorem endGroup (h : StoresKept M s t) {home num n} : StoresKept M s (t.endGroup home num n) :=
  .branch h h.set

theorem advanceGroup (h : StoresKept M s t) {home num k} : StoresKept M s (State.advanceGroup home num k t) := by
  induction k generalizing t with
  | zero => exact h
  | succ k ih =>
    unfold State.advanceGroup
    split
    · exact h
    · split
      · exact h
      · split
        · exact ih h.setGroup.endGroup
        · exact .branch (ih h.skipEpoch) (.branch (ih h.processEpoch) h)

theorem runGroup (h : StoresKept M s t) {home num} : StoresKept M s (t.runGroup home num) :=
  h.advanceGroup

theorem digestReceive (h : StoresKept M s t) {q src msgId g} : KeepsStores M s (execDigestReceive q src msgId g t) :=
  .branch (.done h.consume.e2eTake) (.done h.consume.e2eTake.takeDigest.runGroup)

theorem barWaitExpiry (h : StoresKept M s t) {home num} : KeepsStores M s (execBarWaitExpiry home num t) :=
  .done h.runGroup

theorem lagReturnReceive (h : StoresKept M s t) {q src msgId home group n vals}
    : KeepsStores M s (execLagReturnReceive q src msgId home group n vals t) :=
  .branch (.done h.consume.e2eTake) (.done (h.consume.e2eTake.foldl fun _ _ h => h.takeLag))

theorem startGroups (h : StoresKept M s t) {new} : StoresKept M s (t.startGroups new) :=
  h.set

theorem probeRetryTimeout (h : StoresKept M s t) {d} : KeepsStores M s (execProbeRetryTimeout d t) := by
  dsimp only [execProbeRetryTimeout]
  split
  · exact .done h
  · exact .branch (.done h) (.branch (.done h.sendProbe) (.done h.bump.endProbe.fenceDie))

theorem probeReplyReceive (h : StoresKept M s t) {d status} : KeepsStores M s (execProbeReplyReceive d status t) :=
  .done (StoresKept.branch h.consume.setZxPort.endProbe h.consume.setZxPort).issueZx

theorem dieOp (h : StoresKept M s t) {c op n f} (hf : ∀ d, StoresKept M s (f d t)) : StoresKept M s (t.dieOp c op n f) :=
  h.checked (by split; exacts [h.reply, hf _])

theorem lagRead (h : StoresKept M s t) {c} : KeepsStores M s (execLagRead c t) := by
  dsimp only [execLagRead]
  refine .done (h.checkedPtr ?_)
  refine .branch ?_ ?_
  · split
    · exact h.replyBlob
    · exact h.reply
  · refine .branch ?_ h.reply
    split
    · exact h.reply
    · exact h.replyBlob

theorem driftRead (h : StoresKept M s t) {c} : KeepsStores M s (execDriftRead c t) :=
  .done (h.dieOp fun _ => .branch h.reply h.reply)

theorem suspectRead (h : StoresKept M s t) {c} : KeepsStores M s (execSuspectRead c t) :=
  .done (h.dieOp fun _ => h.reply)

theorem suspectClear (h : StoresKept M s t) {c} : KeepsStores M s (execSuspectClear c t) :=
  .done (h.dieOp fun _ => .branch h.reply h.clearReasons.reply)

theorem lookoutReport (h : StoresKept M s t) {c} : KeepsStores M s (execLookoutReport c t) := by
  dsimp only [execLookoutReport]
  refine .done (h.checked ?_)
  refine .branch (.branch h.reply h.set.sendMsg) ?_
  split
  · exact h.reply
  · exact .branch h.reply (.branch h.reply h.startProbe)

theorem lookoutAdmit (h : StoresKept M s t) {c} : KeepsStores M s (execLookoutAdmit c t) :=
  .done (h.dieOp fun _ => .branch h.reply (.branch h.reply h.readmit.reply))

theorem lookoutStatus (h : StoresKept M s t) {c} : KeepsStores M s (execLookoutStatus c t) :=
  .done (h.dieOp fun _ => h.reply)

theorem lookoutProbe (h : StoresKept M s t) {c} : KeepsStores M s (execLookoutProbe c t) :=
  .branch (.done (.branch h.zxReply h)) (.done (h.dieOp fun _ => h.startProbe))

theorem dieFence (h : StoresKept M s t) {c} : KeepsStores M s (execDieFence c t) :=
  .done (h.dieOp fun _ => .branch h.reply (.branch h.reply h.fenceDie.reply))

/-! ### Epoch -/

theorem mergePartial (h : StoresKept M s t) {x p} : StoresKept M s (t.mergePartial x p) :=
  .branch h.setCtx (.branch h.setCtx.bump h.setCtx.bump.signal)

theorem openCtx (h : StoresKept M s t) {n} : StoresKept M s (t.openCtx n) := by
  dsimp only [State.openCtx]
  exact (h.set.foldl fun _ _ h => by split; exacts [h, h.mergePartial]).classifyHeld

theorem classifyOlder (h : StoresKept M s t) {n} : StoresKept M s (t.classifyOlder n) :=
  h.foldl fun _ _ h => h.classifyHeld

theorem bxEpochClose (h : StoresKept M s t) : KeepsStores M s (execBxEpochClose t) := by
  dsimp only [execBxEpochClose]
  split
  · exact .done h
  · exact .branch (.done h) (.branch (.done (StoresKept.branch h.classifyOlder h).set.targetsGone.restage.classifyHeld)
      (.branch (.done (StoresKept.branch h.classifyOlder h).set.targetsGone.restage.openCtx)
      (.done (StoresKept.branch h.classifyOlder h).set.targetsGone.restage.set.bump)))

theorem contextFree (h : StoresKept M s t) : KeepsStores M s (execContextFree t) := by
  dsimp only [execContextFree]
  split
  · exact .done h
  · exact .branch (.done h.set.openCtx) (.done h)

theorem epochHorizon (h : StoresKept M s t) : KeepsStores M s (execEpochHorizon t) :=
  .done h.set

theorem provisionalRevision (h : StoresKept M s t) {n} : KeepsStores M s (execProvisionalRevision n t) := by
  dsimp only [execProvisionalRevision]
  split
  · exact .branch (.done (h.foldl fun _ _ h1 => h1.putRecord.toChildren).setCtx) (.done h)
  · exact .done h

theorem epochRead (h : StoresKept M s t) {c} : KeepsStores M s (execEpochRead c t) := by
  dsimp only [execEpochRead]
  refine .done (h.checkedPtr ?_)
  refine .branch h.reply (.branch h.reply ?_)
  split
  · next e => exact (h.epochAnswer e)
  · exact h.set

theorem readWaitExpiry (h : StoresKept M s t) : KeepsStores M s (execReadWaitExpiry t) :=
  .done (h.answerWaits.set.foldl fun _ _ h => h.bump.reply)

theorem epochStatus (h : StoresKept M s t) {c} : KeepsStores M s (execEpochStatus c t) :=
  .done (h.checked h.reply)

theorem cfgStage (h : StoresKept M s t) {c cfg} : KeepsStores M s (execCfgStage c cfg t) :=
  .done (h.checked (.branch h.reply (.branch h.reply ((h.holdStaged.foldl fun _ _ h => h.sendCfg).foldl fun _ _ h =>
      h.sendCfg).tellScope.reply)))

theorem cfgDistribution (h : StoresKept M s t) {q src msgId m} : KeepsStores M s (execCfgDistribution q src msgId m t) := by
  dsimp only [execCfgDistribution]
  refine .branch (.done h.consume.e2eTake) ?_
  split
  · exact .branch (.done (h.consume.e2eTake.foldl fun _ _ h => h.sendCfg)) (.branch (.done (h.consume.e2eTake.foldl fun _ _ h => h.sendCfg))
      (.done (h.consume.e2eTake.holdStaged.foldl fun _ _ h => h.sendCfg).tellScope))
  · exact .done h.consume.e2eTake.noteAnswer
  · exact .done h.consume.e2eTake.noteScope
  · split
    · exact .done (.branch h.consume.e2eTake.dropStaged h.consume.e2eTake)
    · exact .done h.consume.e2eTake
  · exact .done h.consume.e2eTake

theorem armHere (h : StoresKept M s t) {g t' m} : StoresKept M s (t.armHere g t' m) := by
  dsimp only [State.armHere]
  exact h.setStaged.foldl fun _ _ h => by split; exacts [h.zxInternal, h]

theorem cfgApplyAt (h : StoresKept M s t) {c} : KeepsStores M s (execCfgApplyAt c t) := by
  dsimp only [execCfgApplyAt]
  refine .done (h.checkedPtr ?_)
  refine .branch h.reply ?_
  split
  · exact h.reply
  · refine .branch h.reply ?_
    split
    · exact h.reply
    · exact .branch h.reply (.branch h.replyBlob (h.armHere.foldl fun _ _ h => h.sendCfg).reply)

theorem cfgAbort (h : StoresKept M s t) {c} : KeepsStores M s (execCfgAbort c t) := by
  dsimp only [execCfgAbort]
  refine .done (h.checked ?_)
  split
  · exact h.reply
  · exact .branch h.reply (.branch h.reply (h.dropStaged.foldl fun _ _ h => h.sendCfg).reply)

theorem cfgStatus (h : StoresKept M s t) {c} : KeepsStores M s (execCfgStatus c t) :=
  .done (h.checked h.reply)

theorem cfgArm (h : StoresKept M s t) {q src msgId m} : KeepsStores M s (execCfgArm q src msgId m t) := by
  dsimp only [execCfgArm]
  refine .branch (.done h.consume.e2eTake) ?_
  split
  · split
    · exact .branch (.done h.consume.e2eTake.armHere.sendCfg) (.done h.consume.e2eTake.sendCfg)
    · exact .done h.consume.e2eTake.sendCfg
  · exact .done h.consume.e2eTake.noteAnswer
  · exact .done h.consume.e2eTake
  · exact .done h.consume.e2eTake
  · exact .done h.consume.e2eTake

/-! ### Commit -/

theorem mirrorState (h : StoresKept M s t) : StoresKept M s t.mirrorState :=
  h.foldl fun _ _ h => h.mirrorDie

theorem allDigests (h : StoresKept M s t) {n r} : StoresKept M s (t.allDigests n r) :=
  h.sendDigests.foldl fun _ _ h => h.sendDigests

theorem pruneEpoch (h : StoresKept M s t) {n} : StoresKept M s (t.pruneEpoch n) :=
  h.set

theorem applyCommit (h : StoresKept ⟨false, G, U, Q, E, L, D⟩ s t) {n} : StoresKept ⟨false, G, U, Q, E, L, D⟩ s (t.applyCommit n) := by
  dsimp only [State.applyCommit]
  exact .answerWaits (.afterCommitLog (.foldl (.evictRecords (.mirrorState (.foldl
    (.groupsDue (by split; exacts [h.wr.wr.classifyHeld.pruneEpoch.lookoutUpdate,
    h.wr.wr.classifyHeld.pruneEpoch.lookoutUpdate.healthUpdate.allDigests.trsHistory])) fun _ _ h => h.runGroup))) fun _ _ h => h.advanceAck))

theorem proposeCommit (h : StoresKept M s t) : StoresKept M s t.proposeCommit := by
  dsimp only [State.proposeCommit]
  split
  · exact h
  · split
    · exact .branch h (.setCtx (.foldlSnd h fun _ _ hp => by exact hp.mirror))
    · exact h

theorem finishCommit (h : StoresKept ⟨false, G, U, Q, E, L, D⟩ s t) : StoresKept ⟨false, G, U, Q, E, L, D⟩ s t.finishCommit := by
  dsimp only [State.finishCommit]
  split
  · exact h
  · split
    · exact h
    · exact .branch h (h.foldl fun _ _ h => h.putRecord).announce.applyCommit

theorem rootCommit (h : StoresKept ⟨false, G, U, Q, E, L, D⟩ s t) : KeepsStores ⟨false, G, U, Q, E, L, D⟩ s (execRootCommit t) :=
  .done h.finishCommit.proposeCommit

theorem askSync (h : StoresKept M s t) : StoresKept M s t.askSync := by
  dsimp only [State.askSync]
  split
  · exact h
  · exact h.sendMsg

theorem dropWrong (h : StoresKept M s t) {o} : StoresKept M s (t.dropWrong o) :=
  h.set

theorem applyNotices (h : StoresKept ⟨false, G, U, Q, E, L, D⟩ s t) {k} : StoresKept ⟨false, G, U, Q, E, L, D⟩ s (applyNotices k t) := by
  induction k generalizing t with
  | zero => exact h
  | succ k ih =>
    unfold Machine.applyNotices
    split
    · exact h
    · split
      · exact h
      · exact .branch (ih h.applyCommit) h.dropWrong.askSync

theorem runNotices (h : StoresKept ⟨false, G, U, Q, E, L, D⟩ s t) : StoresKept ⟨false, G, U, Q, E, L, D⟩ s t.runNotices :=
  h.applyNotices

theorem commitNotice (h : StoresKept ⟨false, G, U, Q, E, L, D⟩ s t) {q src msgId o}
    : KeepsStores ⟨false, G, U, Q, E, L, D⟩ s (execCommitNotice q src msgId o t) :=
  .branch (.done h.consume) (.branch (.done h.consume.e2eTake) (.branch (.done h.consume.e2eTake.viol)
    (.done (StoresKept.branch h.consume.e2eTake.toChildren h.consume.e2eTake.toChildren.set).runNotices)))

theorem sendSince (h : StoresKept M s t) {a wm} : StoresKept M s (t.sendSince a wm) :=
  h.foldl fun _ _ h => h.sendMsg

theorem syncTo (h : StoresKept M s t) {n k} : StoresKept M s (syncTo n k t) := by
  induction k generalizing t with
  | zero => exact h
  | succ k ih => exact .branch (.branch (ih h.wr.classifyHeld.pruneEpoch) h) (.branch h.wr.wr.classifyHeld.pruneEpoch h)

theorem runSync (h : StoresKept ⟨false, G, U, Q, E, L, D⟩ s t) : StoresKept ⟨false, G, U, Q, E, L, D⟩ s t.runSync := by
  dsimp only [State.runSync]
  split
  · exact h
  · exact .branch h.syncTo.set.wr.runNotices.answerWaits h.syncTo.answerWaits

theorem wmSync (h : StoresKept ⟨false, G, U, Q, E, L, D⟩ s t) {q src m} : KeepsStores ⟨false, G, U, Q, E, L, D⟩ s (execWmSync q src m t) := by
  dsimp only [execWmSync]
  split
  · exact .done (.branch h.runSync h.runSync.askSync)
  · exact .branch (.done h.consume) (.done h.consume.sendMsg.sendSince)
  · refine .branch (.done h.consume) ?_
    split
    · exact .done h.consume.wr.runNotices.answerWaits
    · exact .done h.consume.set.runSync

theorem applyTree (h : StoresKept M s t) : StoresKept M s t.applyTree := by
  dsimp only [State.applyTree]
  exact .refreshRoles (by split; exacts [h.set, h.set.wr])

theorem resendRefused (h : StoresKept M s t) {ts} : StoresKept M s (t.resendRefused ts) := by
  dsimp only [State.resendRefused]
  exact h.foldl fun _ _ h1 => by split; exacts [h1.resendGen, .branch h1.resendTo h1]

theorem startSync (h : StoresKept M s t) : StoresKept M s t.startSync :=
  .branch h.wr (.branch h h.askSync)

theorem restartOver (h : StoresKept M s t) : StoresKept M s t.restartOver :=
  (StoresKept.branch h.set h).releaseIncs

theorem bxApply (h : StoresKept M s t) {g t' m} : StoresKept M s (t.bxApply g t' m) :=
  h.set.applyTree.startGroups.clearBins.resendRefused.startSync.restartOver

theorem cfgApplyInstant (h : StoresKept M s t) {p} : KeepsStores M s (execCfgApplyInstant p t) := by
  dsimp only [execCfgApplyInstant]
  split
  · exact .done h.zxApply
  · split
    · exact .done h
    · split
      · exact .done h
      · exact .done (.branch h.bxApply h)

theorem recordReceive (h : StoresKept ⟨false, G, U, Q, E, L, D⟩ s t) {q src bytes}
    : KeepsStores ⟨false, G, U, Q, E, L, D⟩ s (execRecordReceive q src bytes t) := by
  dsimp only [execRecordReceive]
  refine .branch (.done h.consume.viol) (.branch (.done h.consume.toChildren) ?_)
  split
  · exact .branch (.done h.consume.toChildren.viol.signal.alarmUp) (.done h.consume.toChildren)
  · exact .done (.branch h.consume.toChildren.putRecord.runSync.runNotices h.consume.toChildren.putRecord)

/-! ### Reduction -/

theorem poisonCtx (h : StoresKept M s t) {n} : StoresKept M s (t.poisonCtx n) := by
  dsimp only [State.poisonCtx]
  split
  · exact h
  · exact h.setCtx.bump.signal

theorem sendPartial (h : StoresKept M s t) {x supplement} : StoresKept M s (t.sendPartial x supplement) := by
  dsimp only [State.sendPartial]
  split
  · exact h.setCtx.emitPartial
  · exact h

theorem partialFlush (h : StoresKept M s t) {n ecc} : KeepsStores M s (execPartialFlush n ecc t) := by
  dsimp only [execPartialFlush]
  split
  · exact .done (.branch h.poisonCtx h)
  · exact .branch (.done (StoresKept.branch h.poisonCtx h).sendPartial) (.done (.branch h.poisonCtx h))

theorem partialReady (h : StoresKept M s t) {n} : KeepsStores M s (execPartialReady n t) := by
  dsimp only [execPartialReady]
  split
  · exact .done h
  · exact .branch (.done h.sendPartial) (.done h)

theorem supplementPartial (h : StoresKept M s t) {n} : KeepsStores M s (execSupplementPartial n t) := by
  dsimp only [execSupplementPartial]
  split
  · exact .done h
  · exact .branch (.done h.sendPartial) (.done h)

theorem takeReceived (h : StoresKept M s t) {p} : StoresKept M s (t.takeReceived p) := by
  dsimp only [State.takeReceived]
  refine .branch h.bump.bump (.branch h.bump.bump ?_)
  split
  · exact h.bump.keepReceived
  · exact h.bump.keepReceived.mergePartial

theorem partialReceive (h : StoresKept M s t) {q src msgId p ecc} : KeepsStores M s (execPartialReceive q src msgId p ecc t) :=
  .branch (.done h.consume.bump) (.branch (.done h.consume.viol) (.branch (.done h.consume.e2eTake)
    (.branch (.done h.consume.e2eTake.sendMsg) (.done (StoresKept.branch h.consume.e2eTake.poisonCtx h.consume.e2eTake).takeReceived))))

theorem restoreItem (h : StoresKept M s t) {m} : StoresKept M s (t.restoreItem m) := by
  dsimp only [State.restoreItem]
  split
  · exact .branch h (.branch h.set.classify h.set)
  · exact h.setDie.wr
  · exact h.restoreDie.lastTest
  · exact h.set
  · exact h.set
  · exact h.putRecord

theorem mirrorRestoreReceive (h : StoresKept M s t) {q src msgId items} : KeepsStores M s (execMirrorRestoreReceive q src msgId items t) :=
  .branch (.done h.consume.e2eTake) (.done ((h.consume.e2eTake.set.foldl fun _ _ h => h.restoreItem).recomputeAll.foldl fun _ _ h =>
    h.advanceAck).releaseIncs)

/-! ### Taproot -/

theorem taprootTimeLatch (h : StoresKept M s t) {answered} : KeepsStores M s (execTaprootTimeLatch answered t) :=
  .done (.branch h.set.wr h.set.wr)

theorem tapKick (h : StoresKept M s t) {v} : KeepsStores M s (execTapKick v t) :=
  .done (.branch h.set h)

theorem heartwoodRequest (h : StoresKept M s t) {ev} : KeepsStores M s (execHeartwoodRequest ev t) := by
  dsimp only [execHeartwoodRequest]
  split
  · exact .done (by split; exacts [h, h.signal])
  · exact .done (.hwWrite (.set (by split; exacts [h, h.signal])))

theorem tapSelfReset (h : StoresKept M s t) : StoresKept M s t.tapSelfReset :=
  h.set.signal

theorem taprootSelfReset (h : StoresKept M s t) : KeepsStores M s (execTaprootSelfReset t) :=
  .done h.tapSelfReset

theorem hwRead (h : StoresKept M s t) {c} : KeepsStores M s (execHwRead c t) :=
  .done (h.checked (.branch (.branch h.bump.reply h.reply) h.reply))

theorem authorized (h : StoresKept M s t) {command blk} : StoresKept M s (t.authorized command blk).2 :=
  h.wr

theorem hwClear (h : StoresKept M s t) {c} : KeepsStores M s (execHwClear c t) :=
  .done (h.checked (.branch h.wr.set.signal.reply h.wr.reply))

theorem safetyStatus (h : StoresKept M s t) {c} : KeepsStores M s (execSafetyStatus c t) :=
  .done (h.checked h.reply)

theorem hangDumpRead (h : StoresKept M s t) {c} : KeepsStores M s (execHangDumpRead c t) :=
  .done (h.checked (.branch h.reply (.branch (.branch h.bump.reply h.wr.reply) h.wr.reply)))

theorem jtagExtest (h : StoresKept M s t) {bits_} : KeepsStores M s (execJtagExtest bits_ t) :=
  .branch (.done h.set.emit) (.done h.set)

theorem jtagIdcode (h : StoresKept M s t) : KeepsStores M s (execJtagIdcode t) :=
  .done h.set.emit

theorem jtagSamplePreload (h : StoresKept M s t) {bits_} : KeepsStores M s (execJtagSamplePreload bits_ t) :=
  .branch (.done h.set.emit) (.done h.draw.set.emit)

theorem jtagHdRead (h : StoresKept M s t) : KeepsStores M s (execJtagHdRead t) :=
  .branch (.done h.set.emit) (.done (StoresKept.branch h.set.wr h.set).emit)

theorem jtagBypass (h : StoresKept M s t) {bits_} : KeepsStores M s (execJtagBypass bits_ t) :=
  .done h.set.emit

theorem wtArmCmd (h : StoresKept M s t) {c} : KeepsStores M s (execWtArm c t) := by
  dsimp only [execWtArm]
  refine .done (h.checked ?_)
  refine .branch ?_ h.reply
  split
  · exact h.wtArm.reply
  · exact h.wtArm.zxSend

theorem wtOff (h : StoresKept M s t) {tgt} : StoresKept M s (t.wtOff tgt) := by
  dsimp only [State.wtOff]
  refine .branch ?_ h
  split
  · exact h.wtDisarm
  · exact h.wtDisarm.zxInternal

theorem wtDisarmCmd (h : StoresKept M s t) {c} : KeepsStores M s (execWtDisarm c t) :=
  .done (h.checked (StoresKept.branch (h.foldl fun _ _ h => h.wtOff) h.wtOff).reply)

theorem wtStatus (h : StoresKept M s t) {c} : KeepsStores M s (execWtStatus c t) :=
  .done (h.checkedPtr h.replyBlob)

/-! ### Reset -/

theorem bxWipe (h : StoresKept ⟨false, false, U, false, false, L, D⟩ s t) {k} (hk : D = true → k.isCold = false) :
    StoresKept ⟨false, false, U, false, false, L, D⟩ s (t.bxWipe k) := by
  have hl : keepAlways (BX_LC_STS_STATE.key 0) = true := by decide
  have hw : keepWarm (BX_SAF_STS_DEGRADED.key 0) = true := by decide
  exact (((h.dropRegs (p := fun key => !zxKey key && !bxKeep k (t.dumpKept k) key) (by simp [bxKeep, hl])
    fun hd => by simp [bxKeep, hw, hk hd]).setHbm (x := {})).putGate.putQueues.putEgs).set

theorem bxReset (h : StoresKept ⟨false, false, false, false, false, L, D⟩ s t) {k} (hk : D = true → k.isCold = false) :
    StoresKept ⟨false, false, false, false, false, L, D⟩ s (t.bxReset k) :=
  ((StoresKept.branch h.signal.wr.wr h.signal.wr).wtResetOff.bxWipe hk).putUp

theorem askedReset (h : StoresKept ⟨false, false, false, false, false, L, D⟩ s t) {c k} (hk : D = true → k.isCold = false) :
    StoresKept ⟨false, false, false, false, false, L, D⟩ s (t.askedReset c k) :=
  .branch h.reply.writeReplies (h.reply.writeReplies.bxReset hk)

theorem sysReset (h : StoresKept M s t) {c kind f} (hf : StoresKept M s (f t)) : StoresKept M s (t.sysReset c kind f) :=
  h.checked (.branch h.reply hf)

theorem sysResetWarm (h : StoresKept ⟨false, false, false, false, false, L, D⟩ s t) {c} :
    KeepsStores ⟨false, false, false, false, false, L, D⟩ s (execSysResetWarm c t) :=
  .done (h.sysReset (h.askedReset fun _ => t.warmKind_isCold))

theorem sysResetCold (h : StoresKept ⟨false, false, false, false, false, L, false⟩ s t) {c}
    : KeepsStores ⟨false, false, false, false, false, L, false⟩ s (execSysResetCold c t) :=
  .done (h.sysReset (h.askedReset nofun))

theorem powerOn (h : StoresKept ⟨false, false, false, false, false, L, false⟩ s t)
    : KeepsStores ⟨false, false, false, false, false, L, false⟩ s (execPowerOn t) :=
  .done (h.bxReset nofun)

theorem railBelowMinimum (h : StoresKept ⟨false, false, false, false, false, L, false⟩ s t)
    : KeepsStores ⟨false, false, false, false, false, L, false⟩ s (execRailBelowMinimum t) :=
  .done (.branch h (h.detect.bxReset nofun))

theorem powerLoss (h : StoresKept ⟨false, false, false, false, false, L, false⟩ s t)
    : KeepsStores ⟨false, false, false, false, false, L, false⟩ s (execPowerLoss t) :=
  .done (((h.bxWipe nofun).dropRegs (p := nextSizeKey)).putGate (g := {})).putUp

theorem keepQueues (h : StoresKept ⟨H, G, U, false, E, L, D⟩ s t) : StoresKept ⟨H, G, U, false, E, L, D⟩ s t.keepQueues :=
  h.putQueues

theorem portReset (h : StoresKept ⟨H, G, U, false, E, L, D⟩ s t) {e} : StoresKept ⟨H, G, U, false, E, L, D⟩ s (t.portReset e) := by
  have hl : keyOf [.BX_CNP_PORT_STS, .BX_CNP_PORT_SEQ] (BX_LC_STS_STATE.key 0) = false := by decide
  have hd : keyOf [.BX_CNP_PORT_STS, .BX_CNP_PORT_SEQ] (BX_SAF_STS_DEGRADED.key 0) = false := by decide
  dsimp only [State.portReset]
  refine .resetOff (.wtResetOff (.setLink (.keepQueues ?_)))
  split
  · next q =>
    have h₁ := (h.foldl fun _ _ h1 => by split; exacts [.branch h1 h1.freeBuf, h1] : StoresKept ⟨H, G, U, false, E, L, D⟩ s
      ((t.link (.canopy q)).wait.foldl (fun (s : State) (w : Nat × WaitFlit) => match w.2.fromPort with
        | some f => if f = q then s else s.freeBuf f w.1
        | none => s) t))
    exact ((h₁.setPstate (q := q) (ps := 0)).dropRegs (p := fun k => keyOf [.BX_CNP_PORT_STS, .BX_CNP_PORT_SEQ] k && k / 16384 == q) (by
        simp [hl])
      fun _ => by simp [hd]).wr.setPort
  · exact (StoresKept.branch h.flushZx h).wr.putQueues
  · exact h

theorem sysResetStemPort (h : StoresKept ⟨H, G, U, false, E, L, D⟩ s t) {c}
    : KeepsStores ⟨H, G, U, false, E, L, D⟩ s (execSysResetStemPort c t) :=
  .done (h.sysReset (.branch h.reply h.portReset.reply))

theorem sysResetCanopyPort (h : StoresKept ⟨H, G, U, false, E, L, D⟩ s t) {c}
    : KeepsStores ⟨H, G, U, false, E, L, D⟩ s (execSysResetCanopyPort c t) :=
  .done (h.sysReset (.branch h.reply h.portReset.reply))

theorem clusterReset (h : StoresKept ⟨false, false, U, false, E, L, D⟩ s t) {cl}
    : StoresKept ⟨false, false, U, false, E, L, D⟩ s (t.clusterReset cl) :=
  ((h.foldl fun _ _ h1 => h1.foldl fun _ _ h2 => h2.finishJob).foldl fun _ _ h => h.setRctx).keepQueues.wtResetOff.resetOff

theorem sysResetCluster (h : StoresKept ⟨false, false, U, false, E, L, D⟩ s t) {c}
    : KeepsStores ⟨false, false, U, false, E, L, D⟩ s (execSysResetCluster c t) :=
  .done (h.sysReset (.branch h.reply h.clusterReset.reply))

theorem setUp (h : StoresKept ⟨H, G, false, Q, E, L, D⟩ s t) {u} : StoresKept ⟨H, G, false, Q, E, L, D⟩ s (t.setUp u) :=
  h.putUp

theorem toPhase (h : StoresKept ⟨H, G, false, Q, E, L, D⟩ s t) {n} : StoresKept ⟨H, G, false, Q, E, L, D⟩ s (t.toPhase n) :=
  h.setUp

theorem hbmFail (h : StoresKept ⟨false, false, false, false, false, L, false⟩ s t)
    : StoresKept ⟨false, false, false, false, false, L, false⟩ s t.hbmFail :=
  .branch h.wr.toPhase (h.setUp.bxReset nofun)

theorem bringupRailsUp (h : StoresKept ⟨H, G, false, Q, E, L, D⟩ s t) {ok} : KeepsStores ⟨H, G, false, Q, E, L, D⟩ s (execBringupRailsUp ok t) :=
  .branch (.done h) (.done (.branch h.toPhase h.wr.toPhase))

theorem bringupPllLock (h : StoresKept ⟨H, G, false, Q, E, L, D⟩ s t) {ok} : KeepsStores ⟨H, G, false, Q, E, L, D⟩ s (execBringupPllLock ok t) :=
  .branch (.done h) (.done (.branch h.toPhase h.wr.toPhase))

theorem pcieLinkUp (h : StoresKept ⟨H, G, false, Q, E, L, D⟩ s t) : KeepsStores ⟨H, G, false, Q, E, L, D⟩ s (execPcieLinkUp t) :=
  .done (.branch h h.setUp)

theorem hbmTrainingDone (h : StoresKept ⟨false, false, false, false, false, L, false⟩ s t) {ok}
    : KeepsStores ⟨false, false, false, false, false, L, false⟩ s (execHbmTrainingDone ok t) :=
  .branch (.done h) (.done (.branch h.toPhase h.hbmFail))

theorem bringupTimeout (h : StoresKept ⟨false, false, false, false, false, L, false⟩ s t) {step}
    : KeepsStores ⟨false, false, false, false, false, L, false⟩ s (execBringupTimeout step t) := by
  dsimp only [execBringupTimeout]
  exact .done (by split; exacts [.branch h.wr.toPhase h, .branch h.wr.toPhase h, .branch h.wr.toPhase h, .branch h.hbmFail h, h])

theorem applySizes (h : StoresKept M s t) : StoresKept M s t.applySizes :=
  h.foldl fun _ _ h => h.wr.wr

theorem lcEnter (h : StoresKept ⟨H, G, U, Q, E, false, D⟩ s t) {new key} : StoresKept ⟨H, G, U, Q, E, false, D⟩ s (t.lcEnter new key) :=
  (StoresKept.branch (StoresKept.branch h.putLc.bump.set.wr.wr.wr h.putLc.bump.set).set.wr (.branch h.putLc.bump.set.wr.wr.wr
      h.putLc.bump.set)).signal

/-- The end of the Clearing changes the life-cycle state only where a transition is under way. -/
theorem clearingDone (h : StoresKept ⟨H, G, false, Q, E, L, D⟩ s t) (hl : L = true → t.up.phase = 4 → t.up.lcNext = none) :
    KeepsStores ⟨H, G, false, Q, E, L, D⟩ s (execClearingDone t) := by
  have hup : t.applySizes.up = t.up := ((StoresKept.refl ⟨false, false, true, false, false, false, false⟩ t).applySizes).up rfl
  unfold execClearingDone
  refine KeepsStores.ite (fun _ => .done h) fun hp => ?_
  extract_lets s₁ s₂ s₃ s₄
  have h₂ : StoresKept ⟨H, G, false, Q, E, L, D⟩ s s₂ := by
    dsimp only [s₂]
    split
    · exact h.applySizes
    · next x e =>
      have hL : L = false := Bool.eq_false_iff.mpr fun hL => by
        rw [show s₁.up = t.up from hup, hl hL (not_not.mp hp)] at e
        cases e
      subst hL
      exact h.applySizes.lcEnter
  exact .branch (.done h₂.wr.resetOff.setUp) (.done h₂.wr.resetOff.setUp.wardenStart)

theorem enterP2 (h : StoresKept ⟨H, G, false, Q, E, L, D⟩ s t) {c} : StoresKept ⟨H, G, false, Q, E, L, D⟩ s (t.enterP2 c) :=
  h.setUp.set.wr.reply

theorem enterP3 (h : StoresKept ⟨H, G, false, Q, E, L, D⟩ s t) {c} : StoresKept ⟨H, G, false, Q, E, L, D⟩ s (t.enterP3 c) :=
  (h.reply.writeReplies.foldl fun _ _ h => h.setLstate).setUp.wr

theorem powerSet (h : StoresKept ⟨H, G, false, Q, E, L, D⟩ s t) {c} : KeepsStores ⟨H, G, false, Q, E, L, D⟩ s (execPowerSet c t) :=
  .branch (.done h) (.done (h.checked (.branch h.reply (.branch h.reply (.branch h.reply
    (.branch h.enterP3 (.branch (.branch h.setUp h.enterP2) h.setUp.wr.reply)))))))

theorem p2Entry (h : StoresKept ⟨H, G, false, Q, E, L, D⟩ s t) : KeepsStores ⟨H, G, false, Q, E, L, D⟩ s (execP2Entry t) := by
  dsimp only [execP2Entry]
  split
  · exact .done h
  · exact .done (.branch h h.enterP2)

theorem powerThrottle (h : StoresKept ⟨H, G, false, Q, E, L, D⟩ s t) {w} : KeepsStores ⟨H, G, false, Q, E, L, D⟩ s (execPowerThrottle w t) :=
  .done (.branch h.wrSat.setUp.wr.bump h.wrSat.setUp.wr)

theorem lcStatus (h : StoresKept M s t) {c} : KeepsStores M s (execLcStatus c t) :=
  .done (h.checked h.reply)

theorem lcBegin (h : StoresKept ⟨false, false, false, false, false, L, D⟩ s t) {c new key}
    : StoresKept ⟨false, false, false, false, false, L, D⟩ s (t.lcBegin c new key) :=
  (h.wr.reply.writeReplies.bxReset (fun _ => rfl)).wr.setUp

theorem lcTransition (h : StoresKept ⟨false, false, false, false, false, L, D⟩ s t) {c}
    : KeepsStores ⟨false, false, false, false, false, L, D⟩ s (execLcTransition c t) := by
  dsimp only [execLcTransition]
  refine .done (h.checked ?_)
  split
  · exact h.reply
  · refine .branch h.bump.reply (.branch h.reply (.branch h.wr.reply (.branch ?_ h.wr.lcBegin)))
    split
    · exact h.wr.reply
    · exact h.wr.zxInternal.reply

theorem autoReset (h : StoresKept ⟨false, false, false, false, false, L, false⟩ s t)
    : StoresKept ⟨false, false, false, false, false, L, false⟩ s t.autoReset := by
  dsimp only [State.autoReset]
  split
  · exact .branch h (h.bxReset nofun)
  · exact h.bxReset nofun
  · exact h

theorem wedgeDeclare (h : StoresKept ⟨false, false, false, false, false, L, false⟩ s t) {causes}
    : KeepsStores ⟨false, false, false, false, false, L, false⟩ s (execWedgeDeclare causes t) := by
  dsimp only [execWedgeDeclare]
  split
  · exact .done h
  · exact .branch (.done (h.set.wr.wr.foldl fun _ _ h => h.detect).signal.bump.autoReset)
      (.branch (.done (h.set.wr.wr.foldl fun _ _ h => h.detect).signal.bump) (.done (h.set.wr.wr.foldl fun _ _ h => h.detect).signal.set))

theorem bxHangDumpHeld (h : StoresKept ⟨false, false, false, false, false, L, false⟩ s t) {branches late}
    : KeepsStores ⟨false, false, false, false, false, L, false⟩ s (execBxHangDumpHeld branches late t) := by
  dsimp only [execBxHangDumpHeld]
  split
  · exact .done h
  · exact .done h.set.wr.wr.signal.autoReset

/-! ### Detections -/

theorem zxReact (h : StoresKept M s t) {code args} : StoresKept M s (t.zxReact code args) := by
  dsimp only [State.zxReact]
  split
  · exact .branch h.set.wr.ls h
  · exact h.set
  · exact h.setTb.bump
  · exact h.setTb.bump
  · exact h.wr
  · exact h

theorem corrEcc (h : StoresKept M s t) {d args} : StoresKept M s (t.corrEcc d args) := by
  dsimp only [State.corrEcc]
  exact .signal (by split; exacts [h.setCorDie, h.set, by split; exacts [h.restoreDie, h]])

theorem replyTimeout (h : StoresKept M s t) : StoresKept M s t.replyTimeout := by
  dsimp only [State.replyTimeout]
  split
  · exact h
  · exact h.set.bump

theorem wardenFail (h : StoresKept M s t) : StoresKept M s t.wardenFail :=
  h.setFw

theorem dmaEcc (h : StoresKept ⟨false, G, U, Q, E, L, D⟩ s t) {c} : StoresKept ⟨false, G, U, Q, E, L, D⟩ s (t.dmaEcc c) := by
  dsimp only [State.dmaEcc]
  split
  · exact h
  · exact .branch h.dmaHalt h

theorem gateEcc (h : StoresKept ⟨false, false, U, Q, E, L, D⟩ s t) {args} : StoresKept ⟨false, false, U, Q, E, L, D⟩ s (t.gateEcc args) := by
  dsimp only [State.gateEcc]
  split
  · exact h.stepFault
  · exact h.jobFault
  · exact h.entryFault

theorem bxReact (h : StoresKept ⟨false, false, false, false, false, L, D⟩ s t) {code idx args} (hc : D = true → code ≠ 0x1302)
    : StoresKept ⟨false, false, false, false, false, L, D⟩ s (t.bxReact code idx args) := by
  dsimp only [State.bxReact]
  split
  · exact .branch h.retrain.recompute h
  · exact h.poisonCtx
  · exact h.corrEcc
  · exact .branch h.retireUnit h
  · exact h.gateEcc
  · exact .branch (StoresKept.branch h.hbmPoison h).dropHeld (.branch h.hbmPoison h)
  · exact .branch h.dmaEcc h
  · exact h.putEgs
  · exact h.setTb.bump
  · exact h.wardenFail
  · exact h.wardenFail
  · exact h.replyTimeout.wardenFail
  · exact h.tapSelfReset
  · exact h.bxReset fun hd => absurd rfl (hc hd)
  · exact h

theorem zxReport (h : StoresKept M s t) {code idx} : StoresKept M s (t.zxReport code idx) :=
  .branch h h.zxAlarm

theorem degrade (h : StoresKept M s t) {d} : StoresKept M s (t.degrade d) :=
  .branch h.setDegraded h

theorem safetyDetection (h : StoresKept ⟨false, false, false, false, false, L, false⟩ s t) {code idx args die inj degraded} :
    KeepsStores ⟨false, false, false, false, false, L, false⟩ s (execSafetyDetection code idx args die inj degraded t) :=
  .branch (.done h.zxReport.zxReact) (.done (h.detect.degrade.bxReact nofun))

theorem latentTest (h : StoresKept ⟨false, false, false, false, false, L, false⟩ s t) {code idx args pass degraded}
    : KeepsStores ⟨false, false, false, false, false, L, false⟩ s (execLatentTest code idx args pass degraded t) :=
  .branch (.done h) (.branch (.done h.zxReport.zxReact) (.done (h.safAlarm.bump.signal.degrade.bxReact nofun)))

/-! ### Egress -/

theorem setEgs (h : StoresKept ⟨H, G, U, Q, false, L, D⟩ s t) {e} : StoresKept ⟨H, G, U, Q, false, L, D⟩ s (t.setEgs e) :=
  h.putEgs

theorem charge (h : StoresKept M s t) {sub svc n} : StoresKept M s (t.charge sub svc n) :=
  .branch h.wr.wr.wr h.wr.wr

theorem putWord (h : StoresKept M s t) {r i w} (hr : r.apart = true := by exact rfl) : StoresKept M s (t.putWord r i w) :=
  h.foldlMem fun _ f hf h => h.wr (List.all_eq_true.mp hr f hf)

theorem refillSub (h : StoresKept M s t) {q u} : StoresKept M s (t.refillSub q u) := by
  dsimp only [State.refillSub]
  exact (StoresKept.branch (.bump (by split; exacts [h, h.putWord.putWord])) (by split; exacts [h, h.putWord.putWord])).wr.wr

theorem refillSvc (h : StoresKept M s t) {q v} : StoresKept M s (t.refillSvc q v) := by
  dsimp only [State.refillSvc]
  exact (StoresKept.branch (.bump (by split; exacts [h, h.putWord.wr])) (by split; exacts [h, h.putWord.wr])).wr

theorem countHeld (h : StoresKept ⟨H, G, U, Q, false, L, D⟩ s t) {q} : StoresKept ⟨H, G, U, Q, false, L, D⟩ s (t.countHeld q) :=
  h.foldl fun _ _ h1 => .branch h1.setEgs.bump h1

theorem wake (h : StoresKept ⟨H, G, U, Q, false, L, D⟩ s t) {q} : StoresKept ⟨H, G, U, Q, false, L, D⟩ s (t.wake q) :=
  h.foldl fun _ _ h1 => .branch (.branch h1.setEgs.bump.wr h1.setEgs.bump) h1.setEgs

theorem release (h : StoresKept ⟨H, G, U, Q, false, L, D⟩ s t) {q v u} : StoresKept ⟨H, G, U, Q, false, L, D⟩ s (t.release q v u) :=
  h.charge.wr.wr.setEgs

theorem egressRelease (h : StoresKept ⟨H, G, U, Q, false, L, D⟩ s t) {q} : KeepsStores ⟨H, G, U, Q, false, L, D⟩ s (execEgressRelease q t) := by
  dsimp only [execEgressRelease]
  refine .branch (.done h) ?_
  split
  · exact .done h.countHeld.wake
  · split
    · exact .done h.countHeld.wake
    · exact .done h.countHeld.wake.release

theorem refillTick (h : StoresKept ⟨H, G, U, Q, false, L, D⟩ s t) : KeepsStores ⟨H, G, U, Q, false, L, D⟩ s (execRefillTick t) :=
  .branch (.done h) (.done (((h.foldl fun _ _ h1 => (h1.foldl fun _ _ h => h.refillSub).foldl fun _ _ h => h.refillSvc).foldl fun _ _ h =>
    h.putWord.putWord).setEgs.foldl fun _ _ h => h.wake))

theorem shaperSet (h : StoresKept ⟨H, G, U, Q, false, L, D⟩ s t) {c} : KeepsStores ⟨H, G, U, Q, false, L, D⟩ s (execShaperSet c t) :=
  .done (h.checked (.branch h.reply (.branch (.branch h.reply (.branch h.reply h.setEgs.reply)) (.branch h.reply (.branch h.reply
      h.setEgs.reply)))))

theorem shaperClearDebt (h : StoresKept ⟨H, G, U, Q, false, L, D⟩ s t) {c} : KeepsStores ⟨H, G, U, Q, false, L, D⟩ s (execShaperClearDebt c t) :=
  .done (h.checked (.branch h.reply (.branch h.setEgs.reply (.branch (.branch h.setEgs.reply h.reply) (.branch h.setEgs.reply h.reply)))))

theorem shaperRead (h : StoresKept M s t) {c} : KeepsStores M s (execShaperRead c t) :=
  .done (h.checked (.branch h.reply (.branch h.reply h.reply)))

theorem gateSet (h : StoresKept ⟨H, G, U, Q, false, L, D⟩ s t) {c} : KeepsStores ⟨H, G, U, Q, false, L, D⟩ s (execGateSet c t) :=
  .done (h.checked (.branch h.reply h.setEgs.reply))

theorem gateStatus (h : StoresKept M s t) {c} : KeepsStores M s (execGateStatus c t) :=
  .done (h.checked (.branch h.reply h.reply))

/-! ### FieldTests -/

theorem testOverdue (h : StoresKept M s t) {d} : StoresKept M s (t.testOverdue d) :=
  .branch h h.wr.bump.signal.alarmUp

theorem testIdle (h : StoresKept M s t) {d} : StoresKept M s (t.testIdle d) :=
  h.wr.wr.setCorDie

theorem clearLag (h : StoresKept M s t) {d} : StoresKept M s (t.clearLag d) := by
  dsimp only [State.clearLag]
  exact h.foldl fun _ _ h1 => .branch (by split; exacts [h1, h1.setGroup]) h1.sendMsg

theorem testPass (h : StoresKept M s t) {d} : StoresKept M s (t.testPass d) := by
  dsimp only [State.testPass]
  exact h.clearLag.clearReasons.setCorDie.testIdle.foldl fun _ _ h1 => by split; exacts [h1.setDrift, .branch h1.requestTest h1.setReason]

theorem testAbort (h : StoresKept M s t) {d} : StoresKept M s (t.testAbort d) :=
  .branch h.wr.setCorDie.testOverdue h.wr.setCorDie

theorem testRequest (h : StoresKept M s t) {c} : KeepsStores M s (execTestRequest c t) :=
  .done (h.dieOp fun _ => .branch h.reply (.branch h.reply (.branch h.reply h.requestTest.reply)))

theorem testStart (h : StoresKept M s t) {c} : KeepsStores M s (execTestStart c t) := by
  dsimp only [execTestStart]
  refine .done (h.checked ?_)
  split
  · exact h.reply
  · exact .branch h.reply (.branch h.reply (.branch h.reply h.wr.setCorDie.reply))

theorem testResult (h : StoresKept M s t) {c} : KeepsStores M s (execTestResult c t) := by
  dsimp only [execTestResult]
  refine .done (h.checked ?_)
  split
  · exact h.reply
  · refine .branch h.reply ?_
    split
    · exact h.testPass.reply
    · exact h.bump.fenceDie.testIdle.reply
    · exact h.testAbort.reply
    · exact h.reply

theorem testCancel (h : StoresKept M s t) {c} : KeepsStores M s (execTestCancel c t) := by
  dsimp only [execTestCancel]
  refine .done (h.checked ?_)
  split
  · exact h.reply
  · exact h.testIdle.setCorDie.reply

theorem testDeadline (h : StoresKept M s t) {d} : KeepsStores M s (execTestDeadline d t) :=
  .branch (.done h.testOverdue) (.done h)

theorem testRunTimeout (h : StoresKept M s t) {d} : KeepsStores M s (execTestRunTimeout d t) :=
  .branch (.done h.testAbort) (.done h)

/-! ### Partition -/

theorem memPartitionSet (h : StoresKept ⟨false, false, U, Q, E, L, D⟩ s t) {c}
    : KeepsStores ⟨false, false, U, Q, E, L, D⟩ s (execMemPartitionSet c t) :=
  .done (h.checked (.branch h.reply (.branch h.reply (.branch h.reply (.branch h.reply
    (StoresKept.branch h.setPartition h.setPartition.ledgerStart).reply)))))

/-! ### Receive -/

theorem snapReceive (h : StoresKept M s t) {p bs resent poison} : KeepsStores M s (execSnapReceive p bs resent poison t) :=
  .done h.consume.takeSnap

theorem zxSafety (h : StoresKept M s t) {p payload} : StoresKept M s (t.zxSafety p payload) :=
  (StoresKept.branch h.wr.bump.bump h.wr.bump.set.alarmUp).signal

theorem zxInjected (h : StoresKept M s t) {p payload} : StoresKept M s (t.zxInjected p payload) :=
  .branch h.wtEvent h.bump.wtRecord

theorem heartwoodReq (h : StoresKept M s t) {p payload} : StoresKept M s (t.heartwoodReq p payload) :=
  .branch h.zxSafety (.branch h.zxInjected h.signal)

theorem alarmLimited (h : StoresKept M s t) {p} : StoresKept M s (t.alarmLimited p) :=
  .branch h.bump h.bump.modLink.signal.violation

theorem countAlarm (h : StoresKept M s t) {p} : StoresKept M s (t.countAlarm p) :=
  h.modLink

theorem alarmFlit (h : StoresKept M s t) {sub payload} : StoresKept M s (t.alarmFlit sub payload).2 := by
  dsimp only [State.alarmFlit]
  split
  · exact h
  · split
    · next e => exact h.outPort.snd_eq e
    · next e => exact h.outPort.snd_eq e

theorem alarmCut (h : StoresKept M s t) {p sub payload} : StoresKept M s (t.alarmCut p sub payload) := by
  dsimp only [State.alarmCut]
  refine .branch h ?_
  split
  · next e => exact .branch (h.alarmFlit.snd_eq e) (h.alarmFlit.snd_eq e).setPort.countAlarm.emit
  · next e => exact h.alarmFlit.snd_eq e

theorem alarmEnd (h : StoresKept M s t) {p sub payload good} : StoresKept M s (t.alarmEnd p sub payload good) := by
  dsimp only [State.alarmEnd]
  split
  · exact (StoresKept.branch h.setPort h.setPort.bump).enqueueFront
  · refine .branch (.branch h.post h) (.branch (.branch h.alarmLimited h) ?_)
    split
    · next e => exact (StoresKept.branch (h.alarmFlit.snd_eq e).countAlarm (h.alarmFlit.snd_eq e).countAlarm.bump).enqueue
    · next e => exact h.alarmFlit.snd_eq e

theorem alarmReceive (h : StoresKept M s t) {p h' payload verdict} : KeepsStores M s (execAlarmReceive p h' payload verdict t) := by
  dsimp only [execAlarmReceive]
  split
  · exact .done (.branch h.epochCounts.alarmCut h.epochCounts)
  · exact .done (.branch h.epochCounts.alarmEnd h.epochCounts)
  · exact .branch (.done h.epochCounts) (.branch (.done (.branch h.epochCounts.consume h.epochCounts.consume.alarmEnd))
      (.branch (.done h.epochCounts.consume.heartwoodReq) (.done h.epochCounts.consume)))

theorem blazeEntry (h : StoresKept ⟨false, false, U, Q, E, L, D⟩ s t) {d w0} : StoresKept ⟨false, false, U, Q, E, L, D⟩ s (t.blazeEntry d w0) :=
  .branch h.tagMatch (.branch h.tagMatch h)

theorem blazeReceive (h : StoresKept ⟨false, false, U, Q, E, L, D⟩ s t) {p payload}
    : KeepsStores ⟨false, false, U, Q, E, L, D⟩ s (execBlazeReceive p payload t) :=
  .branch (.done h.consume) (.done (h.consume.foldl fun _ _ h => h.blazeEntry))

theorem noteImage (h : StoresKept M s t) {p m status} : StoresKept M s (t.noteImage p m status) :=
  .branch h (.branch h.setDie h.setDie)

theorem ownReply (h : StoresKept M s t) {p m status} : StoresKept M s (t.ownReply p m status) := by
  unfold State.ownReply
  extract_lets gen k staged die s₁ s₂
  have h₁ : StoresKept M s s₁ := .branch h.setDie h
  have h₂ : StoresKept M s s₂ := .branch h₁.wr (.branch h₁.wr h₁)
  have ha (b) : StoresKept M s (s₂.localAnswer b k.1 k.2 status) := h₂.localAnswer
  exact .branch (.branch h₂.endProbe h₂) (.branch h₂ (.branch (.branch h₂ (ha _)) (.branch (ha _) (.branch (ha _) h₂))))

theorem takeReply (h : StoresKept M s t) {p tag} : StoresKept M s (t.takeReply p tag) :=
  h.setZxPort

theorem returnReply (h : StoresKept M s t) {o status reason results} : StoresKept M s (t.returnReply o status reason results) :=
  (StoresKept.branch h.wtDisarm h).reply

theorem capsReplyReceive (h : StoresKept M s t) {p tag status reason results}
    : KeepsStores M s (execCapsReplyReceive p tag status reason results t) := by
  dsimp only [execCapsReplyReceive]
  split
  · exact .done h.consume.viol
  · refine .branch (.done h.consume.takeReply.noteImage.judgeInc.issueZx) ?_
    split
    · exact .done h.consume.takeReply.noteImage.ownReply.issueZx
    · exact .branch (.done h.consume.takeReply.noteImage.issueZx) (.done h.consume.takeReply.noteImage.returnReply.issueZx)

theorem incarnationReadReply (h : StoresKept M s t) {p id} : KeepsStores M s (execIncarnationReadReply p id t) := by
  dsimp only [execIncarnationReadReply]
  split
  · exact .done h
  · exact .done h.consume.takeReply.judgeInc.issueZx

/-! ### Transmit -/

theorem sendBytes (h : StoresKept M s t) {e bs} : StoresKept M s (t.sendBytes e bs) :=
  h.pcs.foldl fun _ _ h => h.putOut

theorem acked (h : StoresKept M s t) {e} : StoresKept M s (t.acked e) :=
  h.modLink

theorem sendSeq (h : StoresKept M s t) {e b} : StoresKept M s (t.sendSeq e b) :=
  h.modLink.acked.sendBytes

theorem sendUnseq (h : StoresKept M s t) {e b} : StoresKept M s (t.sendUnseq e b) :=
  h.acked.sendBytes

theorem sendAgain (h : StoresKept M s t) {e r} : StoresKept M s (t.sendAgain e r) := by
  dsimp only [State.sendAgain]
  split
  · exact h.modLink
  · exact (StoresKept.branch h.modLink.ls h.modLink).sendBytes

theorem sendNak (h : StoresKept M s t) {e} : StoresKept M s (t.sendNak e) :=
  (StoresKept.branch h.modLink.ls h.modLink).sendUnseq

theorem sendCtl (h : StoresKept M s t) {e} : StoresKept M s (t.sendCtl e) :=
  .branch h.modLink.sendUnseq (StoresKept.branch h.ls h).sendUnseq

theorem dropWaiting (h : StoresKept M s t) {e cls} : StoresKept M s (t.dropWaiting e cls) :=
  h.modLink

theorem poisonedMsg (h : StoresKept M s t) : StoresKept M s t.poisonedMsg :=
  h.bump.countViol.escalate

theorem snapDone (h : StoresKept ⟨H, G, U, false, E, L, D⟩ s t) {t'} : StoresKept ⟨H, G, U, false, E, L, D⟩ s (t.snapDone t') :=
  h.modLink.ls.endPass.pwrSettle

theorem sendSnap (h : StoresKept ⟨H, G, U, false, E, L, D⟩ s t) {t' p bytes psn}
    : StoresKept ⟨H, G, U, false, E, L, D⟩ s (t.sendSnap t' p bytes psn) :=
  .branch (StoresKept.branch h.beginSnap h).modLink.poisonedMsg.set (.branch (StoresKept.branch h.beginSnap h).modLink.sendSeq.ls.snapDone
    (StoresKept.branch h.beginSnap h).modLink.sendSeq.ls)

theorem sendDump (h : StoresKept M s t) {i psn} : StoresKept M s (t.sendDump i psn) :=
  .branch h.modLink.poisonedMsg (.branch h.modLink.sendSeq.ls.wr h.modLink.sendSeq.ls)

theorem sendRecs (h : StoresKept M s t) {n psn} : StoresKept M s (t.sendRecs n psn) :=
  (StoresKept.branch h.poisonedMsg h.sendSeq.ls).trcFree

theorem sendTrace (h : StoresKept M s t) {psn} : StoresKept M s (t.sendTrace psn) := by
  dsimp only [State.sendTrace]
  split
  · exact h.modLink.sendDump
  · split
    · exact h.modLink
    · exact h.modLink.sendRecs

theorem sendBlaze (h : StoresKept M s t) {psn} : StoresKept M s (t.sendBlaze psn) :=
  .branch h.set.poisonedMsg h.set.sendSeq.ls

theorem zxBulk (h : StoresKept ⟨H, G, U, false, E, L, D⟩ s t) {psn} : StoresKept ⟨H, G, U, false, E, L, D⟩ s (t.zxBulk psn) := by
  dsimp only [State.zxBulk]
  refine .branch h.sendCtl (.branch h.sendTrace ?_)
  split
  · exact h.sendSnap
  · exact .branch h.sendBlaze (.branch h.sendTrace h.sendCtl)

theorem sendWaiting (h : StoresKept M s t) {e cls b psn} : StoresKept M s (t.sendWaiting e cls b psn) :=
  .branch h.dropWaiting.poisonedMsg (.branch h.dropWaiting.sendSeq.ls h.dropWaiting.sendSeq)

theorem stemBoundary (h : StoresKept ⟨H, G, U, false, E, L, D⟩ s t) {e psn} : StoresKept ⟨H, G, U, false, E, L, D⟩ s (t.stemBoundary e psn) := by
  dsimp only [State.stemBoundary]
  split
  · exact h.sendWaiting
  · refine .branch h.sendNak ?_
    split
    · exact h.dropWaiting.sendUnseq
    · split
      · exact h.sendWaiting
      · exact .branch h.zxBulk h.sendCtl

theorem countGate (h : StoresKept ⟨H, G, U, Q, false, L, D⟩ s t) {q} : StoresKept ⟨H, G, U, Q, false, L, D⟩ s (t.countGate q) :=
  h.foldl fun _ _ h1 => .branch h1.setEgs.bump h1

theorem freeRelay (h : StoresKept M s t) {w} : StoresKept M s (t.freeRelay w) := by
  dsimp only [State.freeRelay]
  split
  · exact h.freeBuf
  · exact h

theorem dropMsg (h : StoresKept M s t) {q vc x} : StoresKept M s (t.dropMsg q vc x) :=
  (h.foldl fun _ _ h => h.modLink.freeRelay).setPort.bump

theorem sendVc (h : StoresKept ⟨H, G, U, Q, false, L, D⟩ s t) {q vc w psn} : StoresKept ⟨H, G, U, Q, false, L, D⟩ s (t.sendVc q vc w psn) :=
  .branch h.setEgs.dropMsg (StoresKept.branch h.setEgs.setPort.modLink.sendUnseq h.setEgs.setPort.modLink.sendSeq).freeRelay

theorem canopyBoundary (h : StoresKept ⟨H, G, U, Q, false, L, D⟩ s t) {q psn}
    : StoresKept ⟨H, G, U, Q, false, L, D⟩ s (t.canopyBoundary q psn) := by
  dsimp only [State.canopyBoundary]
  split
  · exact h.countGate.sendVc
  · refine .branch h.countGate.sendNak ?_
    split
    · exact h.countGate.sendVc
    · split
      · exact h.countGate.sendVc
      · split
        · exact h.countGate.setEgs.sendVc
        · exact h.countGate.sendCtl

theorem flitTransmit (h : StoresKept ⟨H, G, U, false, false, L, D⟩ s t) {e psn}
    : KeepsStores ⟨H, G, U, false, false, L, D⟩ s (execFlitTransmit e psn t) := by
  dsimp only [execFlitTransmit]
  refine .branch (.done h) (.branch (.done (.branch h h.sendMarkers.passSlot)) ?_)
  split
  · exact .done h.modLink.sendUnseq
  · split
    · exact .done h.sendAgain
    · split
      · exact .done h.canopyBoundary
      · exact .done h.stemBoundary

end StoresKept

end Sys2Proof.Machine

/-- The parts that a command, by the lists, keeps. -/
def Sys2Proof.Instr.keptParts (i : Instr) : Machine.Parts where
  hbm := !i.changesHbm
  gate := !i.changesGate
  up := !i.changesPower
  queues := !i.changesQueues
  egs := !i.changesEgress
  lc := !(i == .clearingDone)
  deg := !i.coldResets

namespace Sys2Proof.Machine

/-- Every command keeps the parts outside whose lists it is. -/
theorem exec_keepsStores (i : Instr) (s : State) : KeepsStores i.keptParts s (exec i s) := by
  have h (M : Parts) : StoresKept M s s := .refl M s
  unfold exec
  cases i with
  | zxEpochClose => exact (h _).zxEpochClose
  | bxEpochClose => exact (h _).bxEpochClose
  | contextFree => exact (h _).contextFree
  | epochHorizon => exact (h _).epochHorizon
  | provisionalRevision => exact (h _).provisionalRevision
  | rootCommit => exact (h _).rootCommit
  | commitNotice => exact (h _).commitNotice
  | epochRead => exact (h _).epochRead
  | epochStatus => exact (h _).epochStatus
  | cfgStage => exact (h _).cfgStage
  | cfgDistribution => exact (h _).cfgDistribution
  | cfgApplyAt => exact (h _).cfgApplyAt
  | cfgAbort => exact (h _).cfgAbort
  | cfgStatus => exact (h _).cfgStatus
  | cfgArm => exact (h _).cfgArm
  | cfgApplyInstant => exact (h _).cfgApplyInstant
  | wmSync => exact (h _).wmSync
  | registerWrite => exact (h _).registerWrite
  | zxApbAccessInReset => exact (h _).zxApbAccessInReset
  | zxCtrSelWrite => exact (h _).zxCtrSelWrite
  | zxLsCtrlWrite => exact (h _).zxLsCtrlWrite
  | zxBarArriveWrite => exact (h _).zxBarArriveWrite
  | barrierArrival => exact (h _).barrierArrival
  | tapLatchTimeout => exact (h _).tapLatchTimeout
  | tapClockStopped => exact (h _).tapClockStopped
  | tapClockResumed => exact (h _).tapClockResumed
  | stretchTrip => exact (h _).stretchTrip
  | droopTrip => exact (h _).droopTrip
  | testModeRequest => exact (h _).testModeRequest
  | sensorResult => exact (h _).sensorResult
  | sensorWindowEnd => exact (h _).sensorWindowEnd
  | groveSVote => exact (h _).groveSVote
  | poisonAccept => exact (h _).poisonAccept
  | poisonStuck => exact (h _).poisonStuck
  | drainBurstIssue => exact (h _).drainBurstIssue
  | drainBresp => exact (h _).drainBresp
  | zxPowerRequest => exact (h _).zxPowerRequest
  | zxColdReset => exact (h _).zxColdReset
  | zxWarmReset => exact (h _).zxWarmReset
  | zxLocalReset => exact (h _).zxLocalReset
  | traceArm => exact (h _).traceArm
  | traceManualTrigger => exact (h _).traceManualTrigger
  | traceRelease => exact (h _).traceRelease
  | trcTrigger => exact (h _).trcTrigger
  | trcRelease => exact (h _).trcReleaseCmd
  | traceSourceRecord => exact (h _).traceSourceRecord
  | traceLineTrigger => exact (h _).traceLineTrigger
  | traceTimeTrigger => exact (h _).traceTimeTrigger
  | traceDrdWrite => exact (h _).traceDrdWrite
  | hangCondition => exact (h _).hangCondition
  | hangTake => exact (h _).hangTake
  | hangReleaseWrite => exact (h _).hangReleaseWrite
  | hangDeclare => exact (h _).hangDeclare
  | hangRelease => exact (h _).hangRelease
  | hangDumpTaken => exact (h _).hangDumpTaken
  | logResend => exact (h _).logResend
  | stemAckReceive => exact (h _).stemAckReceive
  | queuePush => exact (h _).queuePush
  | queuePop => exact (h _).queuePop
  | packetCancel => exact (h _).packetCancel
  | queueCntClr => exact (h _).queueCntClr
  | linkResetDone => exact (h _).linkResetDone
  | linkLockDone => exact (h _).linkLockDone
  | linkAlignDone => exact (h _).linkAlignDone
  | linkParamDone => exact (h _).linkParamDone
  | linkTrainTimeout => exact (h _).linkTrainTimeout
  | linkDownHoldExpiry => exact (h _).linkDownHoldExpiry
  | linkLockLoss => exact (h _).linkLockLoss
  | linkMarkerMiss => exact (h _).linkMarkerMiss
  | linkNoFlitTimeout => exact (h _).linkNoFlitTimeout
  | zxStmRetrainWrite => exact (h _).zxStmRetrainWrite
  | stemPortRetrainWrite => exact (h _).stemPortRetrainWrite
  | stemPortHoldWrite => exact (h _).stemPortHoldWrite
  | cnpPortRetrainWrite => exact (h _).cnpPortRetrainWrite
  | stemPortCtrl => exact (h _).stemPortCtrl
  | flitReceive => exact (h _).flitReceive
  | nakTimerExpiry => exact (h _).nakTimerExpiry
  | replayTimerExpiry => exact (h _).replayTimerExpiry
  | ackTimerExpiry => exact (h _).ackTimerExpiry
  | flitTransmit => exact (h _).flitTransmit
  | snapReceive => exact (h _).snapReceive
  | alarmReceive => exact (h _).alarmReceive
  | traceReceive => exact (h _).traceReceive
  | blazeReceive => exact (h _).blazeReceive
  | capsCommandReceive => exact (h _).capsCommandReceive
  | capsReplyReceive => exact (h _).capsReplyReceive
  | incarnationReadReply => exact (h _).incarnationReadReply
  | zxAdmit => exact (h _).zxAdmit
  | zxShadowWrite => exact (h _).zxShadowWrite
  | zxGrsImageWrite => exact (h _).zxGrsImageWrite
  | zxCfgDone => exact (h _).zxCfgDone
  | zxArm => exact (h _).zxArm
  | zxCfgDrop => exact (h _).zxCfgDrop
  | zxLcSet => exact (h _).zxLcSet
  | zxWtSet => exact (h _).zxWtSet
  | delayRespReceive => exact (h _).delayRespReceive
  | syncSend => exact (h _).syncSend
  | syncReceive => exact (h _).syncReceive
  | delayReqReceive => exact (h _).delayReqReceive
  | canopySyncReceive => exact (h _).canopySyncReceive
  | canopyDelayReqReceive => exact (h _).canopyDelayReqReceive
  | canopyDelayRespReceive => exact (h _).canopyDelayRespReceive
  | timeRelay => exact (h _).timeRelay
  | ppsEdge => exact (h _).ppsEdge
  | todFrame => exact (h _).todFrame
  | resync => exact (h _).resync
  | resyncGrantLapse => exact (h _).resyncGrantLapse
  | tbSourceLost => exact (h _).tbSourceLost
  | holdoverExpiry => exact (h _).holdoverExpiry
  | lacFire => exact (h _).lacFire
  | lacArm => exact (h _).lacArm
  | ppsOutput => exact (h _).ppsOutput
  | timeSrcSet => exact (h _).timeSrcSet
  | timeRead => exact (h _).timeRead
  | timeStatus => exact (h _).timeStatus
  | ppsSet => exact (h _).ppsSet
  | taprootTimeLatch => exact (h _).taprootTimeLatch
  | blazeClassify => exact (h _).blazeClassify
  | blazeRefetchTimeout => exact (h _).blazeRefetchTimeout
  | blzFlushRf => exact (h _).blzFlushRf
  | blzCntClr => exact (h _).blzCntClr
  | blzCfgWrite => exact (h _).blzCfgWrite
  | bxBlazeCheck => exact (h _).bxBlazeCheck
  | blazeReread => exact (h _).blazeReread
  | partialFlush => exact (h _).partialFlush
  | partialReady => exact (h _).partialReady
  | supplementPartial => exact (h _).supplementPartial
  | partialReceive => exact (h _).partialReceive
  | vectorBuild => exact (h _).vectorBuild
  | groveScore => exact (h _).groveScore
  | groveVecReceive => exact (h _).groveVecReceive
  | groveSumsReceive => exact (h _).groveSumsReceive
  | groveSplitTimeout => exact (h _).groveSplitTimeout
  | grsCheck => exact (h _).grsCheck
  | groveLoad => exact (h _).groveLoad
  | groveUnload => exact (h _).groveUnload
  | groveInfo => exact (h _).groveInfo
  | groveEval => exact (h _).groveEval
  | grovePeerBind => exact (h _).grovePeerBind
  | groveScoreRead => exact (h _).groveScoreRead
  | groveGrsImage => exact (h _).groveGrsImage
  | groveGrsRefresh => exact (h _).groveGrsRefresh
  | grvLaneCtrlWrite => exact (h _).grvLaneCtrlWrite
  | digestReceive => exact (h _).digestReceive
  | barWaitExpiry => exact (h _).barWaitExpiry
  | lagReturnReceive => exact (h _).lagReturnReceive
  | probeRetryTimeout => exact (h _).probeRetryTimeout
  | probeReplyReceive => exact (h _).probeReplyReceive
  | testDeadline => exact (h _).testDeadline
  | testRunTimeout => exact (h _).testRunTimeout
  | lagRead => exact (h _).lagRead
  | driftRead => exact (h _).driftRead
  | suspectRead => exact (h _).suspectRead
  | suspectClear => exact (h _).suspectClear
  | lookoutReport => exact (h _).lookoutReport
  | lookoutAdmit => exact (h _).lookoutAdmit
  | lookoutStatus => exact (h _).lookoutStatus
  | lookoutProbe => exact (h _).lookoutProbe
  | dieFence => exact (h _).dieFence
  | testRequest => exact (h _).testRequest
  | testStart => exact (h _).testStart
  | testResult => exact (h _).testResult
  | testCancel => exact (h _).testCancel
  | apdLoad => exact (h _).apdLoad
  | apdUnload => exact (h _).apdUnload
  | apdInfo => exact (h _).apdInfo
  | replayRun => exact (h _).replayRun
  | replayCancel => exact (h _).replayCancel
  | replayStatus => exact (h _).replayStatus
  | replayUnit => exact (h _).replayUnit
  | replayGen => exact (h _).replayGen
  | replayCrosscheck => exact (h _).replayCrosscheck
  | replayPlace => exact (h _).replayPlace
  | replayBankFilled => exact (h _).replayBankFilled
  | replayJobEnd => exact (h _).replayJobEnd
  | replayXlateFault => exact (h _).replayXlateFault
  | replayKat => exact (h _).replayKat
  | stepAnnounce => exact (h _).stepAnnounce
  | stepOperands => exact (h _).stepOperands
  | operandWaitExpiry => exact (h _).operandWaitExpiry
  | gateWaitExpiry => exact (h _).gateWaitExpiry
  | stepCommit => exact (h _).stepCommit
  | jobOpen => exact (h _).jobOpen
  | placementMigrate => exact (h _).placementMigrate
  | commitPolicySet => exact (h _).commitPolicySet
  | commitStatus => exact (h _).commitStatus
  | ledgerRead => exact (h _).ledgerRead
  | ledgerHead => exact (h _).ledgerHead
  | jobClose => exact (h _).jobClose
  | helloReceive => exact (h _).helloReceive
  | helloResend => exact (h _).helloResend
  | lsaReceive => exact (h _).lsaReceive
  | lsaRefresh => exact (h _).lsaRefresh
  | lsaExpiry => exact (h _).lsaExpiry
  | relayWaitTimeout => exact (h _).relayWaitTimeout
  | broadcastReceive => exact (h _).broadcastReceive
  | canopyAlarmReceive => exact (h _).canopyAlarmReceive
  | cutThroughHoldLimit => exact (h _).cutThroughHoldLimit
  | recordReceive => exact (h _).recordReceive
  | e2eRepeat => exact (h _).e2eRepeat
  | e2eAckReceive => exact (h _).e2eAckReceive
  | mirrorReceive => exact (h _).mirrorReceive
  | heartbeatSend => exact (h _).heartbeatSend
  | heartbeatReceive => exact (h _).heartbeatReceive
  | peerLostDeclare => exact (h _).peerLostDeclare
  | peerLostReceive => exact (h _).peerLostReceive
  | peerBackReceive => exact (h _).peerBackReceive
  | peerDeclare => exact (h _).peerDeclare
  | firebreakFence => exact (h _).firebreakFence
  | fenceInstant => exact (h _).fenceInstant
  | firebreakClear => exact (h _).firebreakClear
  | unfenceInstant => exact (h _).unfenceInstant
  | canopyIdentSet => exact (h _).canopyIdentSet
  | canopyPortCtrl => exact (h _).canopyPortCtrl
  | canopyTopoRead => exact (h _).canopyTopoRead
  | fabricStatus => exact (h _).fabricStatus
  | memLayoutSet => exact (h _).memLayoutSet
  | memPartitionSet => exact (h _).memPartitionSet
  | xlateInval => exact (h _).xlateInval
  | xlateProbe => exact (h _).xlateProbe
  | dmaChSet => exact (h _).dmaChSet
  | dmaResume => exact (h _).dmaResume
  | dmaStatus => exact (h _).dmaStatus
  | dmaDoorbell => exact (h _).dmaDoorbell
  | dmaChunk => exact (h _).dmaChunk
  | patrolScrub => exact (h _).patrolScrub
  | stagingFlush => exact (h _).stagingFlush
  | codecBlock => exact (h _).codecBlock
  | traceStoreSet => exact (h _).traceStoreSet
  | traceStoreStatus => exact (h _).traceStoreStatus
  | refillTick => exact (h _).refillTick
  | egressRelease => exact (h _).egressRelease
  | shaperSet => exact (h _).shaperSet
  | shaperClearDebt => exact (h _).shaperClearDebt
  | shaperRead => exact (h _).shaperRead
  | gateSet => exact (h _).gateSet
  | gateStatus => exact (h _).gateStatus
  | sqDoorbell => exact (h _).sqDoorbell
  | cqHeadWrite => exact (h _).cqHeadWrite
  | evHeadWrite => exact (h _).evHeadWrite
  | qpEnable => exact (h _).qpEnable
  | qpDisable => exact (h _).qpDisable
  | capsuleFetch => exact (h _).capsuleFetch
  | capsuleReply => exact (h _).capsuleReply
  | execTimeout => exact (h _).execTimeout
  | relayTimeout => exact (h _).relayTimeout
  | relayedCapsuleReceive => exact (h _).relayedCapsuleReceive
  | relayedReplyReceive => exact (h _).relayedReplyReceive
  | flr => exact (h _).flr
  | eventPost => exact (h _).eventPost
  | mctpMessage => exact (h _).mctpMessageCmd
  | setEndpointId => exact (h _).setEndpointId
  | getEndpointId => exact (h _).getEndpointId
  | getEndpointUuid => exact (h _).getEndpointUuid
  | getMctpVersionSupport => exact (h _).getMctpVersionSupport
  | getMessageTypeSupport => exact (h _).getMessageTypeSupport
  | bootMailboxGo => exact (h _).bootMailboxGo
  | wardenRestart => exact (h _).wardenRestart
  | sysNop => exact (h _).sysNop
  | sysInfo => exact (h _).sysInfo
  | sysStatus => exact (h _).sysStatus
  | sysResetWarm => exact (h _).sysResetWarm
  | sysResetCold => exact (h _).sysResetCold
  | sysResetStemPort => exact (h _).sysResetStemPort
  | sysResetCanopyPort => exact (h _).sysResetCanopyPort
  | sysResetCluster => exact (h _).sysResetCluster
  | powerSet => exact (h _).powerSet
  | p2Entry => exact (h _).p2Entry
  | powerThrottle => exact (h _).powerThrottle
  | fwUpdate => exact (h _).fwUpdate
  | fwActivate => exact (h _).fwActivate
  | fwInfo => exact (h _).fwInfo
  | zxRegRead => exact (h _).zxRegRead
  | zxRegWrite => exact (h _).zxRegWrite
  | hwRead => exact (h _).hwRead
  | hwClear => exact (h _).hwClear
  | safetyStatus => exact (h _).safetyStatus
  | hangDumpRead => exact (h _).hangDumpRead
  | lcStatus => exact (h _).lcStatus
  | lcTransition => exact (h _).lcTransition
  | wtArm => exact (h _).wtArmCmd
  | wtDisarm => exact (h _).wtDisarmCmd
  | wtStatus => exact (h _).wtStatus
  | wedgeDeclare => exact (h _).wedgeDeclare
  | tapKick => exact (h _).tapKick
  | bxHangDumpHeld => exact (h _).bxHangDumpHeld
  | safetyDetection => exact (h _).safetyDetection
  | latentTest => exact (h _).latentTest
  | heartwoodRequest => exact (h _).heartwoodRequest
  | taprootSelfReset => exact (h _).taprootSelfReset
  | jtagExtest => exact (h _).jtagExtest
  | jtagIdcode => exact (h _).jtagIdcode
  | jtagSamplePreload => exact (h _).jtagSamplePreload
  | jtagHdRead => exact (h _).jtagHdRead
  | jtagBypass => exact (h _).jtagBypass
  | powerOn => exact (h _).powerOn
  | railBelowMinimum => exact (h _).railBelowMinimum
  | clearingDone => exact (h _).clearingDone nofun
  | bringupRailsUp => exact (h _).bringupRailsUp
  | bringupPllLock => exact (h _).bringupPllLock
  | pcieLinkUp => exact (h _).pcieLinkUp
  | hbmTrainingDone => exact (h _).hbmTrainingDone
  | bringupTimeout => exact (h _).bringupTimeout
  | readWaitExpiry => exact (h _).readWaitExpiry
  | regionTapSample => exact (h _).regionTapSample
  | quietWindowEdge => exact (h _).quietWindowEdge
  | mirrorRestoreReceive => exact (h _).mirrorRestoreReceive
  | cnpPortHoldWrite => exact (h _).cnpPortHoldWrite
  | powerLoss => exact (h _).powerLoss
  | registerRead => exact (h _).registerRead

theorem storesKept_of_exec {i : Instr} {s t : State} (e : exec i s = .next t) : StoresKept i.keptParts s t := by
  obtain ⟨u, hu, h⟩ := exec_keepsStores i s
  obtain rfl : u = t := Host.Outcome.next.inj (hu.symm.trans e)
  exact h

/-- Settles O54: a command outside a list keeps the part of the list. -/
theorem storesAreChangedOnlyByTheirCommands : Obligations.StoresAreChangedOnlyByTheirCommands := by
  intro i s t e
  obtain ⟨hhbm, hgate, hup, hqueues, hegs, -, -⟩ := storesKept_of_exec e
  exact ⟨fun h => hhbm (by simp [Instr.keptParts, h]), fun h => hgate (by simp [Instr.keptParts, h]), fun h => hup (by simp
      [Instr.keptParts, h]),
    fun h => hqueues (by simp [Instr.keptParts, h]), fun h => hegs (by simp [Instr.keptParts, h])⟩

/-- A Clearing that ends with no transition under way leaves the life-cycle state. -/
theorem lc_of_clearingDone {s t : State} (e : exec .clearingDone s = .next t) (h : s.up.phase = 4 → s.up.lcNext = none) :
    t.rd BX_LC_STS_STATE = s.rd BX_LC_STS_STATE := by
  obtain ⟨u, hu, hk⟩ := (StoresKept.refl ⟨false, false, false, false, false, true, false⟩ s).clearingDone fun _ => h
  obtain rfl : u = t := Host.Outcome.next.inj (hu.symm.trans e)
  exact hk.lc rfl

/-- A detection at BX64 whose unit cannot be removed sets DEGRADED, and no reaction but the rail monitor's clears it. -/
theorem degraded_of_safetyDetection {s : State} {code idx : Nat} {args : List Nat} {die : Option Nat} {inj : Bool} (hb : code / 256 ≠ 0x40)
    (hr : code ≠ 0x1302) : Answers (.safetyDetection code idx args die inj true) s (fun u => u.rd BX_SAF_STS_DEGRADED = 1) := by
  refine ⟨_, if_neg hb, ?_⟩
  have hd : ((s.detect code (mechSys code) idx die inj).degrade true).rd BX_SAF_STS_DEGRADED = 1 := State.rd_wr_same ..
  exact ((StoresKept.refl ⟨false, false, false, false, false, false, true⟩ _).bxReact fun _ => hr).deg rfl hd

/-- Settles O60: the frame of the two fields, with the two commands at which it says more. -/
theorem safetyStateOutlivesEveryOtherCommand : Obligations.SafetyStateOutlivesEveryOtherCommand := by
  refine ⟨fun i s t e => ?_, fun _ _ _ _ _ _ hb hr => degraded_of_safetyDetection hb hr⟩
  have hk := storesKept_of_exec e
  refine ⟨?_, fun hd hc => hk.deg (by simp [Instr.keptParts, hc]) hd⟩
  by_cases hi : i = .clearingDone
  · subst hi
    by_cases hl : s.up.phase = 4 ∧ s.up.lcNext.isSome = true
    · exact .inr ⟨rfl, hl⟩
    · exact .inl (lc_of_clearingDone e fun hp => Option.not_isSome_iff_eq_none.mp fun hs => hl ⟨hp, hs⟩)
  · exact .inl (hk.lc (by simp [Instr.keptParts, hi]))

end Sys2Proof.Machine
end

section
/-! SUPPORT. Opcodes that only read (R457, R459, Tables 16-12 and 16-23). -/

namespace Sys2Proof.Machine
open Sys2Proof

/-- Between s before and u after, at most a reply was formed and counted. -/
structure OnlyReads (s u : State) : Prop where
  state : { u with wdn := s.wdn, regs := s.regs } = s
  wdn : { u.wdn with replies := s.wdn.replies } = s.wdn
  regs : RegsKept [.BX_WDN_CNT0, .BX_WDN_CNT1] s u

namespace OnlyReads
variable {s u v : State} {c : Cap} {op n : Nat} {a : Bool} {f : State → State}

theorem branch {p : Prop} [Decidable p] (hu : OnlyReads s u) (hv : OnlyReads s v) : OnlyReads s (if p then u else v) := by
  split <;> assumption

theorem reply (s : State) (c : Cap) {op status : Nat} {results : List Nat} {reason : Nat} {w : Option (Nat × Bytes)} :
    OnlyReads s (s.reply c op status results reason w) := by
  unfold State.reply
  extract_lets r s₁ s₂ s₃
  have h₁ : OnlyReads s s₁ := .branch ⟨rfl, rfl, (RegsKept.refl _ s).wr⟩ ⟨rfl, rfl, .refl _ s⟩
  have h₂ : OnlyReads s s₂ := .branch ⟨h₁.state, h₁.wdn, h₁.regs.wr⟩ h₁
  have h₃ : OnlyReads s s₃ := .branch ⟨h₂.state, h₂.wdn, h₂.regs.wr⟩ h₂
  exact ⟨h₃.state, h₃.wdn, h₃.regs⟩

theorem replyBlob (s : State) (c : Cap) {op status : Nat} {b : Bytes} {more : List Nat} : OnlyReads s (s.replyBlob c op status b more) :=
  .branch (.reply s c) (.reply s c)

theorem checked (hf : OnlyReads s (f s)) : OnlyReads s (s.checked c op a n f) :=
  .branch (.reply s c) (.branch (.reply s c) hf)

theorem checkedPtr (hf : OnlyReads s (f s)) : OnlyReads s (s.checkedPtr c op a n f) :=
  .checked (.branch (.reply s c) hf)

theorem dieOp {g : Nat → State → State} (hg : ∀ d, OnlyReads s (g d s)) : OnlyReads s (s.dieOp c op n g) := by
  unfold State.dieOp
  refine .checked ?_
  split
  · exact .reply s c
  · exact hg _

end OnlyReads

theorem Reads.of {i : Instr} {s : State} (h : ∃ u, exec i s = .next u ∧ OnlyReads s u) : Reads i s := by
  obtain ⟨u, he, hu⟩ := h
  exact ⟨u, he, hu.state, hu.wdn, hu.regs⟩

/-! ### The opcodes whose answer depends on what is held -/

section
variable (s : State) (c : Cap)

theorem groveInfo_onlyReads : Reads (.groveInfo c) s := by
  refine .of ⟨_, rfl, .checkedPtr ?_⟩
  dsimp only
  split
  · exact .reply s c
  · exact .replyBlob s c

theorem groveScoreRead_onlyReads : Reads (.groveScoreRead c) s := by
  refine .of ⟨_, rfl, .checked ?_⟩
  split
  · exact .reply s c
  · refine .branch (.reply s c) ?_
    split
    · exact .reply s c
    · exact .branch (.reply s c) (.reply s c)

theorem groveGrsImage_onlyReads : Reads (.groveGrsImage c) s := by
  refine .of ⟨_, rfl, .checked ?_⟩
  split
  · exact .reply s c
  · exact .branch (.reply s c) (.reply s c)

theorem lagRead_onlyReads : Reads (.lagRead c) s := by
  refine .of ⟨_, rfl, .checkedPtr ?_⟩
  refine .branch ?_ (.branch ?_ (.reply s c))
  · split
    · exact .replyBlob s c
    · exact .reply s c
  · split
    · exact .reply s c
    · exact .replyBlob s c

theorem apdInfo_onlyReads : Reads (.apdInfo c) s := by
  refine .of ⟨_, rfl, .checkedPtr ?_⟩
  split
  · exact .reply s c
  · exact .replyBlob s c

theorem commitStatus_onlyReads : Reads (.commitStatus c) s := by
  refine .of ⟨_, rfl, .checked ?_⟩
  split
  · exact .reply s c
  · exact .branch (.reply s c) (.reply s c)

theorem ledgerRead_onlyReads : Reads (.ledgerRead c) s := by
  refine .of ⟨_, rfl, .checked ?_⟩
  refine .branch (.reply s c) (.branch (.reply s c) (.branch (.reply s c) ?_))
  split
  · exact .reply s c
  · exact .reply s c

theorem xlateProbe_onlyReads : Reads (.xlateProbe c) s := by
  refine .of ⟨_, rfl, .checked ?_⟩
  refine .branch (.reply s c) ?_
  split
  · exact .reply s c
  · exact .reply s c

end

/-- Settles O56: each of the opcodes comes to one reply, whatever it finds. -/
theorem statusOpcodesOnlyRead : Obligations.StatusOpcodesOnlyRead := by
  intro s c
  have r {op status : Nat} {res : List Nat} {w : Option (Nat × Bytes)} : OnlyReads s (s.reply c op status res 0 w) := .reply s c
  have b {op : Nat} {bytes : Bytes} : OnlyReads s (s.replyBlob c op S_OK bytes) := .replyBlob s c
  exact ⟨.of ⟨_, rfl, .checked r⟩, .of ⟨_, rfl, .checked r⟩, .of ⟨_, rfl, .checked r⟩, groveInfo_onlyReads s c, groveScoreRead_onlyReads s c,
    groveGrsImage_onlyReads s c, lagRead_onlyReads s c, .of ⟨_, rfl, .dieOp fun _ => .branch r r⟩, .of ⟨_, rfl, .dieOp fun _ => r⟩,
    .of ⟨_, rfl, .dieOp fun _ => r⟩, apdInfo_onlyReads s c, .of ⟨_, rfl, .checkedPtr b⟩, .of ⟨_, rfl, .checked (.branch r r)⟩,
    commitStatus_onlyReads s c, ledgerRead_onlyReads s c, .of ⟨_, rfl, .checked (.branch r (.branch r r))⟩, .of ⟨_, rfl, .checked r⟩,
    .of ⟨_, rfl, .checked r⟩, xlateProbe_onlyReads s c, .of ⟨_, rfl, .checked (.branch r r)⟩, .of ⟨_, rfl, .checked r⟩,
    .of ⟨_, rfl, .checked (.branch r (.branch r r))⟩, .of ⟨_, rfl, .checked (.branch r r)⟩, .of ⟨_, rfl, .checked r⟩, .of ⟨_, rfl, .checked r⟩,
    .of ⟨_, rfl, .checked r⟩, .of ⟨_, rfl, .checked r⟩, .of ⟨_, rfl, .checked r⟩, .of ⟨_, rfl, .checked r⟩, .of ⟨_, rfl, .checkedPtr b⟩⟩

end Sys2Proof.Machine
end

section
/-! SUPPORT. The opcodes of Tables 14-11 and 15-3 are the operator's (R439, R454). -/

namespace Sys2Proof.Machine
open Sys2Proof

/-! ### A capsule answered, and not denied -/

/-- The newest reply answers the capsule under the opcode, and not with S_DENIED. -/
def State.Accepted (u : State) (c : Cap) (op : Nat) : Prop := ∃ st, st ≠ S_DENIED ∧ u.answered c op st

theorem State.reply_answered (s : State) (c : Cap) (op status : Nat) (res : List Nat) (reason : Nat) (w : Option (Nat × Bytes)) :
    (s.reply c op status res reason w).answered c op status := by
  unfold State.answered
  rw [s.reply_replied]
  rfl

namespace State.Accepted
variable {s u v : State} {c : Cap} {op n : Nat} {f : State → State}

theorem reply (t : State) (c : Cap) {op status : Nat} {res : List Nat} {reason : Nat} {w : Option (Nat × Bytes)}
    (hst : status ≠ S_DENIED := by decide) : (t.reply c op status res reason w).Accepted c op :=
  ⟨status, hst, t.reply_answered c op status res reason w⟩

theorem branch {p : Prop} [Decidable p] (hu : u.Accepted c op) (hv : v.Accepted c op) : (if p then u else v).Accepted c op := by
  split <;> assumption

theorem checked (hc : c.isOp = true) (hf : (f s).Accepted c op) : (s.checked c op c.isOp n f).Accepted c op := by
  unfold State.checked
  rw [if_neg (not_not.mpr hc)]
  exact .branch (.reply s c) hf

end State.Accepted

/-- A command answered with a state in which its capsule is accepted. -/
theorem Accepts.of {i : Instr} {s : State} {c : Cap} {op : Nat} (h : ∃ u, exec i s = .next u ∧ u.Accepted c op) : Accepts i s c op := h

section
variable (s : State) {c : Cap} (hc : c.isOp = true)
include hc

theorem xlateProbe_accepts : Accepts (.xlateProbe c) s c 0x0704 := by
  refine .of ⟨_, rfl, .checked hc (.branch (.reply s c) ?_)⟩
  split
  · exact .reply s c
  · exact .reply s c

/-- DMA_CH_SET of a BULK channel: only a system channel is denied. -/
theorem dmaChSet_accepts (hbulk : c.p 0 < 120) : Accepts (.dmaChSet c) s c 0x0705 := by
  refine .of ⟨_, rfl, .checked hc (.branch (.reply s c) ?_)⟩
  dsimp only
  rw [if_neg (by omega)]
  exact .branch (.reply s c) (.branch (.reply s c) (.reply _ c))

theorem exec_dmaResume_of_range (hl : 2 ≤ c.params.length) (hch : c.p 0 < 128) (hmode : c.p 1 ≤ 1) : exec (.dmaResume c) s = done
    (if s.rd BX_DMA_CH_STS_STATE (c.p 0) ≠ 2 then s.reply c 0x0706 S_CONFLICT
    else if c.p 1 = 0 then ((s.setChan (c.p 0) {}).wr BX_DMA_CH_STS_STATE (c.p 0) 1).reply c 0x0706 S_OK
    else ((if (s.rd BX_DMA_CH_STS_LAST_STATUS (c.p 0) = 3 && (s.chan (c.p 0)).desc.any (fun (d : List Nat) => dOp d == 3)) = true then
      s.makeGap (s.rd BX_TRS_STS_DRAIN_RD) (2 ^ 32 - 1) else s).dmaNext (c.p 0)).reply c 0x0706 S_OK) := by
  change execDmaResume c s = _
  unfold execDmaResume
  rw [s.checked_of_allowed hc hl, if_neg (by omega)]

theorem dmaResume_notHalted (hl : 2 ≤ c.params.length) (hch : c.p 0 < 128) (hmode : c.p 1 ≤ 1) (hst : s.rd BX_DMA_CH_STS_STATE (c.p 0) ≠ 2) :
    Answers (.dmaResume c) s (fun u => u.replied c 0x0706 S_CONFLICT [] ∧ { u with wdn := s.wdn } = s) :=
  ⟨s.reply c 0x0706 S_CONFLICT, by rw [exec_dmaResume_of_range s hc hl hch hmode, if_pos hst]; rfl, s.reply_replied .., rfl⟩

/-- A HALTED channel is resumed: RETRY puts it in RUN. -/
theorem dmaResume_halted (hl : 2 ≤ c.params.length) (hch : c.p 0 < 128) (hmode : c.p 1 ≤ 1) (hst : s.rd BX_DMA_CH_STS_STATE (c.p 0) = 2) :
    Answers (.dmaResume c) s (fun u => u.answered c 0x0706 S_OK ∧ (c.p 1 = 0 → u.rd BX_DMA_CH_STS_STATE (c.p 0) = 1)) := by
  have he := exec_dmaResume_of_range s hc hl hch hmode
  rw [if_neg (not_not.mpr hst)] at he
  by_cases hretry : c.p 1 = 0
  · rw [if_pos hretry] at he
    exact ⟨_, he, State.reply_answered .., fun _ => (State.rd_reply _ c _ (by decide) _ _ _).trans
      (State.rd_wr_same (s.setChan (c.p 0) {}) BX_DMA_CH_STS_STATE (c.p 0) 1)⟩
  · rw [if_neg hretry] at he
    exact ⟨_, he, State.reply_answered .., fun h => absurd h hretry⟩

end

/-- Settles O57: each command is checked for the operator before it acts, and every status it then gives is another than S_DENIED. -/
theorem memoryAndSchedulerOpcodesAreTheOperators : Obligations.MemoryAndSchedulerOpcodesAreTheOperators := by
  refine ⟨fun s c h => ?_, fun s c hc => ?_, fun s c hc hl hch hmode hst => dmaResume_notHalted s hc hl hch hmode hst,
    fun s c hc hl hch hmode hst => dmaResume_halted s hc hl hch hmode hst⟩
  · exact ⟨.of_checked h rfl, .of_checked h rfl, .of_checked h rfl, .of_checked h rfl, .of_checked h rfl, .of_checked h rfl, .of_checked h rfl,
      .of_checked h rfl, .of_checked h rfl, .of_checked h rfl, .of_checked h rfl, .of_checked h rfl, .of_checked h rfl, .of_checked h rfl⟩
  · have r {t : State} {op status : Nat} {res : List Nat} (hst : status ≠ S_DENIED := by decide) : (t.reply c op status res).Accepted c op :=
      .reply t c hst
    exact ⟨.of ⟨_, rfl, .checked hc (.branch r (.branch r r))⟩, .of ⟨_, rfl, .checked hc (.branch r (.branch r (.branch r (.branch r r))))⟩,
      .of ⟨_, rfl, .checked hc (.branch r r)⟩, xlateProbe_accepts s hc, fun h => dmaChSet_accepts s hc h,
      .of ⟨_, rfl, .checked hc (.branch r (.branch r (.branch r r)))⟩, .of ⟨_, rfl, .checked hc (.branch r r)⟩,
      .of ⟨_, rfl, .checked hc (.branch r r)⟩, .of ⟨_, rfl, .checked hc r⟩,
      .of ⟨_, rfl, .checked hc (.branch r (.branch (.branch r (.branch r r)) (.branch r (.branch r r))))⟩,
      .of ⟨_, rfl, .checked hc (.branch r (.branch r (.branch (.branch r r) (.branch r r))))⟩,
      .of ⟨_, rfl, .checked hc (.branch r (.branch r r))⟩, .of ⟨_, rfl, .checked hc (.branch r r)⟩, .of ⟨_, rfl, .checked hc (.branch r r)⟩⟩

end Sys2Proof.Machine
end

section
/-! SUPPORT. HBM's regions, partitions and translation (R415 to R423). -/

namespace Sys2Proof.Machine
open Sys2Proof

/-! ### What a reply, a detection and a write of HBM leave alone -/

theorem Replies.hbm {s t : State} (h : Replies s t) : t.hbm = s.hbm := (congrArg (fun u => u.hbm) h.rest :)

theorem State.reply_hbm (s : State) (c : Cap) (op status : Nat) (res : List Nat) (reason : Nat) (w : Option (Nat × Bytes)) :
    (s.reply c op status res reason w).hbm = s.hbm := (Replies.refl s).reply.hbm

/-- Between s before and t after, a detection in BX64 has been made, and nothing else has changed. -/
structure Detects (s t : State) : Prop where
  rest : t.unsignalled = s.unsignalled
  regs : RegsKept (.BX_SAF_STS :: signalRegs) s t

theorem Detects.hbm {s t : State} (h : Detects s t) : t.hbm = s.hbm := (congrArg (fun u => u.hbm) h.rest :)

theorem State.detect_detects (s : State) (code sys idx : Nat) (die : Option Nat) (inj : Bool) : Detects s (s.detect code sys idx die inj) := by
  let t := ((s.wr BX_SAF_STS_LAST_CODE 0 code).bump BX_SAF_STS_DETECTIONS).wr BX_SAF_STS_LAST_INJ 0 (b2n inj)
  have hregs : RegsKept [.BX_SAF_STS] s t := .wr (.wr (.wr (.refl _ s)))
  have halarm : Signals t (t.safAlarm code sys idx die) := .branch (.refl t) (Signals.refl t).setTap.alarmUp
  have hsig : Signals t (s.detect code sys idx die inj) := halarm.signal
  exact ⟨hsig.rest, (hregs.mono (by simp)).trans (hsig.regs.mono (by simp))⟩

/-! ### Partitions and ledgers (R367, R419) -/

/-- A partition set: its granules, VALID, and no register but its own and the count of what leaves it. -/
structure PartitionSet (s : State) (t base count : Nat) (u : State) : Prop where
  valid : u.rd BX_MEM_PART_VALID t = 1
  base : u.rd BX_MEM_PART_BASE t = base
  count : u.rd BX_MEM_PART_COUNT t = count

theorem State.setPartition_sets (s : State) (t : Nat) {base count : Nat} (hcount : count ≠ 0) (hb : base < 2 ^ 16) (hn : count < 2 ^ 16) :
    PartitionSet s t base count (s.setPartition t base count) := by
  unfold State.setPartition
  extract_lets old leave v w led
  rw [if_neg hcount, if_neg hcount]
  have hlo {u : State} {f g : Fld} {x : Nat} (hf : f.lo < 64) (hg : g.lo < 64) (h : g.lo ≠ f.lo) : (u.wr f t x).rd g t = u.rd g t :=
    u.rd_wr_otherLo x hf hg h
  refine ⟨?_, ?_, ?_⟩
  · rw [hlo (by decide) (by decide) (by decide), hlo (by decide) (by decide) (by decide), hlo (by decide) (by decide) (by decide),
      State.rd_wr_same]
    rfl
  · rw [hlo (by decide) (by decide) (by decide), hlo (by decide) (by decide) (by decide), State.rd_wr_same]
    exact Nat.mod_eq_of_lt hb
  · rw [hlo (by decide) (by decide) (by decide), State.rd_wr_same]
    exact Nat.mod_eq_of_lt hn

/-- An entry put into a ledger changes no register but those of the ledgers. -/
theorem State.ledgerPut_regs (s : State) (r : LedgerRec) : RegsKept [.BX_CMT_LEDGER, .BX_CMT_CNT4] s (s.ledgerPut r).2.2 := by
  unfold State.ledgerPut
  extract_lets t seq body chain g u v w x
  have hw : RegsKept [.BX_CMT_LEDGER, .BX_CMT_CNT4] s w := by
    dsimp only [w]
    split
    · exact .wr (.wr (.refl _ s))
    · exact .wr (.refl _ s)
  dsimp only [x]
  split
  · exact hw
  · exact hw

theorem State.ledgerStart_regs (s : State) (t : Nat) : RegsKept [.BX_CMT_LEDGER, .BX_CMT_CNT4] s (s.ledgerStart t) := by
  unfold State.ledgerStart
  split
  · exact s.ledgerPut_regs _
  · exact .refl _ s

/-! ### The scrub (R415) -/

theorem mem_insertBy {α : Type} (le : α → α → Bool) (x y : α) (l : List α) : y ∈ insertBy le x l ↔ y = x ∨ y ∈ l := by
  induction l with
  | nil => simp [insertBy]
  | cons z t ih =>
    unfold insertBy
    split
    · exact List.mem_cons
    · rw [List.mem_cons, ih, List.mem_cons, or_left_comm]

theorem mem_addMark {l : List Nat} {w x : Nat} : x ∈ addMark l w ↔ x = w ∨ x ∈ l := by
  unfold addMark
  split
  · next h => exact ⟨.inr, fun hx => hx.elim (fun e => e ▸ List.contains_iff_mem.mp h) id⟩
  · exact mem_insertBy _ w x l

theorem mem_addMarks {ws l : List Nat} {x : Nat} : x ∈ ws.foldl addMark l ↔ x ∈ ws ∨ x ∈ l := by
  induction ws generalizing l with
  | nil => simp
  | cons w t ih => rw [List.foldl_cons, ih, mem_addMark, List.mem_cons, or_left_comm, or_assoc]

/-- Between s before and t after, uncorrectable errors have been found: nothing is unmarked, and neither HBM's bytes nor the count of
corrected words changes. -/
structure Scrubbed (s t : State) : Prop where
  marks : s.hbm.poison ⊆ t.hbm.poison
  cells : t.hbm.cells = s.hbm.cells
  corrected : t.rd BX_MEM_ECC_CE 0 = s.rd BX_MEM_ECC_CE 0

theorem Scrubbed.refl (s : State) : Scrubbed s s := ⟨List.Subset.refl _, rfl, rfl⟩

theorem Scrubbed.trans {s t u : State} (ht : Scrubbed s t) (hu : Scrubbed t u) : Scrubbed s u :=
  ⟨List.Subset.trans ht.marks hu.marks, hu.cells.trans ht.cells, hu.corrected.trans ht.corrected⟩

/-- An uncorrectable error marks its word, and nothing is unmarked. -/
theorem State.hbmError_scrubs (s : State) (a : Nat) : Scrubbed s (s.hbmError a) ∧ a / 8 ∈ (s.hbmError a).hbm.poison := by
  let v := ((s.draw 22).2.hbmPoison (a / 8 * 8) 8).bump BX_MEM_ECC_UE
  have hd : Detects v (s.hbmError a) := State.detect_detects v 0x0A01 10 _ none false
  have hword : a / 8 ∈ wordsOf (a / 8 * 8) 8 := by
    unfold wordsOf
    rw [if_neg (by decide)]
    exact List.mem_map.mpr ⟨0, List.mem_range.mpr (by omega), by omega⟩
  refine ⟨⟨?_, ?_, ?_⟩, ?_⟩
  · rw [hd.hbm]
    exact fun x hx => mem_addMarks.mpr (.inr hx)
  · rw [hd.hbm]
    rfl
  · rw [hd.regs _ _ (by decide) (by decide)]
    exact ((s.draw 22).2.hbmPoison (a / 8 * 8) 8).rd_wr_otherLo _ (by decide) (by decide) (by decide)
  · rw [hd.hbm]
    exact mem_addMarks.mpr (.inl hword)

theorem State.hbmErrors_scrub (bad : List Nat) (s : State) :
    Scrubbed s (bad.foldl (fun t a => t.hbmError a) s) ∧ ∀ a ∈ bad, a / 8 ∈ (bad.foldl (fun t a => t.hbmError a) s).hbm.poison := by
  induction bad generalizing s with
  | nil => exact ⟨.refl s, fun _ h => absurd h List.not_mem_nil⟩
  | cons a bad ih =>
    obtain ⟨hfirst, hmark⟩ := s.hbmError_scrubs a
    obtain ⟨hrest, hmarks⟩ := ih (s.hbmError a)
    exact ⟨hfirst.trans hrest, List.forall_mem_cons.mpr ⟨hrest.marks hmark, hmarks⟩⟩

theorem patrolScrub_marks (s : State) (n : Nat) (bad : List Nat) : Answers (.patrolScrub n bad []) s (fun u =>
    s.counted u BX_MEM_ECC_CE 0 n ∧ (∀ a ∈ bad, a / 8 ∈ u.hbm.poison) ∧ u.hbm.cells = s.hbm.cells) := by
  obtain ⟨hscrub, hmarks⟩ := State.hbmErrors_scrub bad (s.bump BX_MEM_ECC_CE 0 n)
  exact ⟨_, rfl, hscrub.corrected.trans (s.counted_bump BX_MEM_ECC_CE 0 n), hmarks, hscrub.cells⟩

/-! ### The opcodes (Table 14-11) -/

/-- Sizes staged one after another: each region reads its own. -/
theorem State.rd_nextSizes (s : State) (p : Nat → Nat) (n : Nat) {r : Nat} (hr : r < n) :
    ((List.range n).foldl (fun t i => t.wr BX_MEM_REGION_NEXT_SIZE i (p i)) s).rd BX_MEM_REGION_NEXT_SIZE r = p r % 65536 := by
  induction n with
  | zero => omega
  | succ n ih =>
    rw [List.range_succ, List.foldl_append, List.foldl_cons, List.foldl_nil]
    by_cases h : r = n
    · subst h
      exact State.rd_wr_same ..
    · rw [State.rd_wr_otherIdx _ _ (by decide) (by decide) h]
      exact ih (by omega)

section
variable {s : State} {c : Cap} (hc : c.isOp = true)
include hc

theorem memLayoutSet_stages (hl : 6 ≤ c.params.length) (hmin : (List.range 6).any (fun r => decide (c.p r < regionMin r (c.p 1))) = false)
    (hfit : ((List.range 6).map c.p).foldl (· + ·) 0 ≤ hbmGranules)
    (hparts : (List.range 64).any (fun t => s.flag BX_MEM_PART_VALID t && decide
      (s.rd BX_MEM_PART_BASE t < ((List.range 6).map c.p).foldl (· + ·) 0)) = false) :
    Answers (.memLayoutSet c) s (fun u => u.replied c 0x0701 S_OK [] ∧ (∀ r, r < 6 → u.rd BX_MEM_REGION_NEXT_SIZE r = c.p r % 65536) ∧
      u.hbm = s.hbm) := by
  let t := (List.range 6).foldl (fun s r => s.wr BX_MEM_REGION_NEXT_SIZE r (c.p r)) s
  refine ⟨t.reply c 0x0701 S_OK, ?_, t.reply_replied .., fun r hr => ?_, t.reply_hbm ..⟩
  · change execMemLayoutSet c s = done _
    unfold execMemLayoutSet
    rw [s.checked_of_allowed hc hl]
    dsimp only
    rw [hmin, if_neg Bool.false_ne_true, List.any_filter, hparts, if_neg (by simpa using hfit)]
  · rw [State.rd_reply _ c _ (by decide)]
    exact s.rd_nextSizes c.p 6 hr

theorem memPartitionSet_sets (hl : 3 ≤ c.params.length) (ht : c.p 0 < 64) (hjob : s.jobOpen (c.p 0) = false)
    (hrun : (List.range 120).any (fun ch => s.rd BX_DMA_CH_STS_STATE ch = 1 && s.rd BX_DMA_CH_CFG_SPACE ch = c.p 0) = false)
    (hfree : (List.range 64).any (fun t => t ≠ c.p 0 && s.flag BX_MEM_PART_VALID t && decide (s.rd BX_MEM_PART_BASE t < c.p 1 + c.p 2) &&
      decide (c.p 1 < s.rd BX_MEM_PART_BASE t + s.rd BX_MEM_PART_COUNT t)) = false)
    (hled : ledgerGranules (SMap.getD s.gate.logs (c.p 0) 16) + 1 ≤ c.p 2) (hpool : s.poolBase ≤ c.p 1) (hfit : c.p 1 + c.p 2 ≤ hbmGranules) :
    Answers (.memPartitionSet c) s (fun u => u.replied c 0x0702 S_OK [] ∧ u.rd BX_MEM_PART_VALID (c.p 0) = 1 ∧
      u.rd BX_MEM_PART_BASE (c.p 0) = c.p 1 ∧ u.rd BX_MEM_PART_COUNT (c.p 0) = c.p 2) := by
  have hmax : hbmGranules < 2 ^ 16 := by decide
  let t := s.setPartition (c.p 0) (c.p 1) (c.p 2)
  have hset : PartitionSet s (c.p 0) (c.p 1) (c.p 2) t := s.setPartition_sets (c.p 0) (by omega) (by omega) (by omega)
  have hrd (f : Fld) (hlo : f.lo < 64) (hf : f.reg ∉ [Reg.BX_CMT_LEDGER, .BX_CMT_CNT4]) (i : Nat) :
      ((t.ledgerStart (c.p 0)).reply c 0x0702 S_OK).rd f i = t.rd f i :=
    (State.rd_reply _ c _ (by decide) _ f i).trans (t.ledgerStart_regs (c.p 0) f i hlo hf)
  refine ⟨(t.ledgerStart (c.p 0)).reply c 0x0702 S_OK, ?_, State.reply_replied .., (hrd _ (by decide) (by decide) _).trans hset.valid,
    (hrd _ (by decide) (by decide) _).trans hset.base, (hrd _ (by decide) (by decide) _).trans hset.count⟩
  change execMemPartitionSet c s = done _
  unfold execMemPartitionSet
  rw [s.checked_of_allowed hc hl]
  dsimp only
  rw [if_neg (by omega), hrun, hjob, if_neg (by decide), hfree, Bool.and_false, if_neg (by decide), if_neg (by omega), if_neg (by omega)]

theorem xlateInval_empties (hl : 3 ≤ c.params.length) (hspace : c.p 0 ≤ 64) (hall : c.p 2 = 0) : Answers (.xlateInval c) s (fun u =>
    u.replied c 0x0703 S_OK [] ∧ (∀ e ∈ u.hbm.tlb, e.space ≠ c.p 0) ∧ u.regs = s.regs) := by
  let t := s.tlbInval (c.p 0) (c.p 1) (c.p 2)
  refine ⟨t.reply c 0x0703 S_OK, ?_, t.reply_replied .., ?_, t.reply_regs c _ (by decide) ..⟩
  · change execXlateInval c s = done _
    unfold execXlateInval
    rw [s.checked_of_allowed hc hl, if_neg (by omega)]
  · rw [t.reply_hbm]
    intro e he
    obtain ⟨-, hout⟩ := List.mem_filter.mp he
    simpa [hall] using hout

theorem xlateProbe_answers {pa : Nat} {t : TlbEntry} (hl : 3 ≤ c.params.length) (hspace : c.p 0 ≤ 64) (hva : c.p 1 < 2 ^ 37)
    (hwalk : s.walk (c.p 0) (c.p 1) (decide (c.p 2 ≠ 0)) = .ok pa t) : Answers (.xlateProbe c) s (fun u =>
      u.replied c 0x0704 S_OK [pa, t.size] ∧ s.onlyReply u) := by
  refine answers_reply (by decide) ?_
  change execXlateProbe c s = _
  unfold execXlateProbe
  rw [s.checked_of_allowed hc hl, if_neg (by omega), hwalk]

end

/-- Settles O30: what is staged, set and left reads back behind the reply, and every word the scrub found lost stays marked to the end of its
pass. -/
theorem memoryIsLaidOutAndTranslated : Obligations.MemoryIsLaidOutAndTranslated :=
  ⟨fun _ _ hc hl hmin hfit hparts => memLayoutSet_stages hc hl hmin hfit hparts,
    fun _ _ hc hl ht hjob hrun hfree hled hpool hfit => memPartitionSet_sets hc hl ht hjob hrun hfree hled hpool hfit,
    fun _ _ hc hl hspace hall => xlateInval_empties hc hl hspace hall,
    fun _ _ _ _ hc hl hspace hva hwalk => xlateProbe_answers hc hl hspace hva hwalk,
    fun s n bad => patrolScrub_marks s n bad⟩

end Sys2Proof.Machine
end

section
/-! SUPPORT. DMA (R424 to R429): a state whose list of HBM bytes repeats an address, where a chunk of a zero byte does not read back. -/

namespace Sys2Proof.Machine
open Sys2Proof

/-- A descriptor of one byte from host address 0 to virtual address 0 (Table 14-4). -/
def oneByteDesc : List Nat := [1, 0, 0, 0, 0, 0, 0, 0]

/-- Channel 0 runs that descriptor, virtual address 0 is physical address 4, and the list of bytes holds address 4 twice: the state is not in
the canonical form `State.Inv`. -/
def repeatedByte : State :=
  { State.reset.wr BX_DMA_CH_STS_STATE 0 1 with
    hbm := {
      cells := [(4, 1), (4, 1)], tlb := [{ space := 0, va := 0, pa := 4, size := 4096, rd := true, wr := true }]
      chans := [(0, { desc := some oneByteDesc })] } }

/-- Host memory with a zero byte at address 0. -/
def zeroHost : List HostSeg := [{ addr := 0, bytes := [0] }]

/-- The state in which the engine moves the chunk. -/
def repeatedByteChosen : State := ((repeatedByte.bump BX_DMA_CNT_PREEMPTS 0 0).pickChan).2

theorem repeatedByte_pickChan : (repeatedByte.bump BX_DMA_CNT_PREEMPTS 0 0).pickChan = (some 0, repeatedByteChosen) :=
  Prod.ext (by decide) rfl

theorem repeatedByteChosen_dmaVa : repeatedByteChosen.dmaVa 0 0 true = (.ok 4, repeatedByteChosen) := by decide

/-- After the chunk the byte at physical address 4 reads 1: the write took away one of its two entries. -/
theorem repeatedByte_dmaChunk : ∃ t, exec (.dmaChunk 0 zeroHost 0) repeatedByte = .next t ∧ t.hbmRead 4 1 = [1] :=
  ⟨_, rfl, by decide⟩

/-- Refutes O31: its first clause is asked of every state, and where the list of HBM's bytes is not in canonical form a zero byte moved by a
chunk does not read back. -/
theorem not_dmaMovesDescribedBytes : ¬ Obligations.DmaMovesDescribedBytes := by
  unfold Obligations.DmaMovesDescribedBytes
  rintro ⟨hchunk, -⟩
  obtain ⟨t, ht, -, hread⟩ := hchunk repeatedByte 0 0 zeroHost 0 4 oneByteDesc [0] repeatedByteChosen repeatedByteChosen repeatedByte_pickChan
    (by decide) (by decide) (by decide) (by decide) repeatedByteChosen_dmaVa (by decide)
  obtain ⟨u, hu, hone⟩ := repeatedByte_dmaChunk
  cases ht.symm.trans hu
  exact absurd (hread.symm.trans hone) (by decide)

end Sys2Proof.Machine
end

section
/-! SUPPORT. The trace store (R430 to R436): a state whose list of HBM bytes is out of order, where a block that is written changes what
another byte reads. -/

namespace Sys2Proof.Machine
open Sys2Proof

/-- An empty closed buffer. -/
def emptyBlk : ClosedBlk := { data := [], inputLen := 0, epoch := 0, ns := 0 }

/-- The address of the first unit of the block ring after reset. -/
def firstBlock : Nat := State.reset.blkAddr 0

/-- Stream 0 has the empty buffer to store, and the list of bytes holds address 0 behind the block's first: the state is not in the canonical
form `State.Inv`. -/
def hiddenByte : State :=
  { State.reset with hbm := { cells := [(firstBlock, 1), (0, 7)], trs := [(0, { closed := [emptyBlk] })] } }

theorem hiddenByte_reads : cellGet hiddenByte.hbm.cells 0 = 0 := by decide

/-- The block's first byte is 0 and takes its entry away, and address 0 reads 7. -/
theorem hiddenByte_codecBlock : ∃ t, exec (.codecBlock 0 0 false) hiddenByte = .next t ∧ cellGet t.hbm.cells 0 = 7 :=
  ⟨_, rfl, by decide⟩

/-- Refutes O32: its clause on CODEC_BLOCK is asked of every state, and where the list of HBM's bytes is not in canonical form a byte outside
the block and its index entry does change. -/
theorem not_traceStoreKeepsBlocks : ¬ Obligations.TraceStoreKeepsBlocks := by
  unfold Obligations.TraceStoreKeepsBlocks
  rintro ⟨-, -, hblock, -⟩
  obtain ⟨t, ht, -, -, hkept⟩ := hblock hiddenByte 0 0 0 false emptyBlk [] (by decide) (by decide) (by decide) (by decide)
  obtain ⟨u, hu, hseven⟩ := hiddenByte_codecBlock
  cases ht.symm.trans hu
  have hzero := hkept 0 (.inl (by decide)) (.inl (by decide))
  exact absurd (hseven.symm.trans (hzero.trans hiddenByte_reads)) (by decide)

end Sys2Proof.Machine
end

section
/-! SUPPORT. The egress scheduler (R442 to R451, Table 15-3). -/

namespace Sys2Proof.Machine
open Sys2Proof

/-! ### Folds over states -/

/-- What one element of a list brings about, and every element keeps, holds after the whole list. -/
theorem foldl_reaches {α β : Type} {E P : β → Prop} {f : β → α → β} {l : List α} {x : α} {b : β} (hx : x ∈ l) (hE : ∀ b y, E b → E (f b y))
    (hP : ∀ b y, E b → P b → P (f b y)) (hit : ∀ b, E b → P (f b x)) (hb : E b) : P (l.foldl f b) := by
  induction l generalizing b with
  | nil => cases hx
  | cons y l ih =>
    rcases List.mem_cons.mp hx with rfl | hx
    · exact (List.foldlRecOn (motive := fun b => E b ∧ P b) l f ⟨hE b x hb, hit b hb⟩ fun b h y _ => ⟨hE b y h.1, hP b y h.1 h.2⟩).2
    · exact ih hx (hE b y hb)

theorem RegsKept.foldl {α : Type} {rs : List Reg} {s t : State} {f : State → α → State} {l : List α} (h : RegsKept rs s t)
    (hf : ∀ u x, RegsKept rs s u → RegsKept rs s (f u x)) : RegsKept rs s (l.foldl f t) :=
  List.foldlRecOn l f h fun u hu x _ => hf u x hu

theorem RegsKept.branch {rs : List Reg} {s t u : State} {c : Prop} [Decidable c] (ht : RegsKept rs s t) (hu : RegsKept rs s u) :
    RegsKept rs s (if c then t else u) := by
  split
  · exact ht
  · exact hu

/-- A register's word written changes only its fields at that index. -/
theorem State.rd_putWord_other (s : State) {r : Reg} {f : Fld} {i j : Nat} (w : Nat) (hr : ∀ g ∈ Reg.fields r, g.lo < 64 ∧ g.reg = r)
    (hf : f.lo < 64) (h : f.reg ≠ r ∨ j ≠ i) : (s.putWord r i w).rd f j = s.rd f j :=
  List.foldlRecOn (motive := fun t : State => t.rd f j = s.rd f j) (Reg.fields r) _ rfl fun t ht g hg =>
    (t.rd_wr_other _ (Fld.key_ne hf (hr g hg).1 (h.imp (fun hreg e => hreg (e.trans (hr g hg).2)) .inl))).trans ht

/-! ### Refills (R446, R447) -/

theorem State.putWord_egs (s : State) (r : Reg) (i w : Nat) : (s.putWord r i w).egs = s.egs :=
  List.foldlRecOn (motive := fun t : State => t.egs = s.egs) (Reg.fields r) _ rfl fun _ ht _ _ => ht

theorem State.refillSub_egs (s : State) (q u : Nat) : (s.refillSub q u).egs = s.egs := by
  unfold State.refillSub
  extract_lets i t clear v c p
  have ht : t.egs = s.egs := by
    dsimp only [t]
    split
    · rfl
    · rw [State.putWord_egs, State.putWord_egs]
  have hv : v.egs = t.egs := by
    dsimp only [v]
    split <;> rfl
  exact hv.trans ht

theorem State.refillSvc_egs (s : State) (q v : Nat) : (s.refillSvc q v).egs = s.egs := by
  unfold State.refillSvc
  extract_lets i t clear u
  have ht : t.egs = s.egs := by
    dsimp only [t]
    split
    · rfl
    · exact s.putWord_egs ..
  have hu : u.egs = t.egs := by
    dsimp only [u]
    split <;> rfl
  exact hu.trans ht

/-- The rates of a subscriber in a state are those of a word. -/
def State.SubRates (s : State) (i w : Nat) : Prop := s.rd BX_EGS_SUB_CFG_CIR i = bits w 63 40 ∧ s.rd BX_EGS_SUB_CFG_PIR i = bits w 39 16

/-- The rate of a service in a state is that of a word. -/
def State.SvcRate (s : State) (i w : Nat) : Prop := s.rd BX_EGS_SVC_CFG_RATE i = bits w BX_EGS_SVC_CFG_RATE.hi BX_EGS_SVC_CFG_RATE.lo

theorem State.SubRates.of_kept {rs : List Reg} {s t : State} {i w : Nat} (h : s.SubRates i w) (ht : RegsKept rs s t)
    (hrs : Reg.BX_EGS_SUB_CFG ∉ rs) : t.SubRates i w :=
  ⟨(ht _ _ (by decide) hrs).trans h.1, (ht _ _ (by decide) hrs).trans h.2⟩

theorem State.SvcRate.of_kept {rs : List Reg} {s t : State} {i w : Nat} (h : s.SvcRate i w) (ht : RegsKept rs s t)
    (hrs : Reg.BX_EGS_SVC_CFG ∉ rs) : t.SvcRate i w :=
  (ht _ _ (by decide) hrs).trans h

/-- A subscriber's refill puts its staged rates in force, and leaves those of any other. -/
theorem State.refillSub_rates {s : State} {j w : Nat} {x : Nat × Nat} (q u : Nat) (hj : s.egs.sub.find? j = some x) (hw : x.1 = w) :
    (j = q * 64 + u ∨ s.SubRates j w) → (s.refillSub q u).SubRates j w := by
  intro h
  unfold State.refillSub
  extract_lets i t clear v c p
  have ht : t.SubRates j w := by
    by_cases hij : j = i
    · have hfind : s.egs.sub.find? i = some x := hij ▸ hj
      dsimp only [t]
      rw [hfind]
      dsimp only
      rw [hij, hw]
      exact ⟨(State.rd_putWord_other _ _ (by decide) (by decide) (.inl (by decide))).trans (s.rd_setReg i w (by decide) (by decide) (by decide)),
        (State.rd_putWord_other _ _ (by decide) (by decide) (.inl (by decide))).trans (s.rd_setReg i w (by decide) (by decide) (by decide))⟩
    · have hold := h.resolve_left hij
      dsimp only [t]
      split
      · exact hold
      · exact ⟨((State.rd_putWord_other _ _ (by decide) (by decide) (.inr hij)).trans
            (State.rd_putWord_other _ _ (by decide) (by decide) (.inr hij))).trans hold.1,
          ((State.rd_putWord_other _ _ (by decide) (by decide) (.inr hij)).trans
            (State.rd_putWord_other _ _ (by decide) (by decide) (.inr hij))).trans hold.2⟩
  have hv : RegsKept [.BX_EGS_PORT_CNT, .BX_EGS_SUB_LVL] t v := .branch (.wr (.refl _ t)) (.refl _ t)
  exact ht.of_kept (.wr (.wr hv)) (by decide)

/-- A subscriber's refill leaves the settings of the services alone. -/
theorem State.refillSub_svcCfg (s : State) (q u : Nat) :
    RegsKept [.BX_EGS_SUB_CFG, .BX_EGS_SUB_BURST, .BX_EGS_SUB_LVL, .BX_EGS_PORT_CNT] s (s.refillSub q u) := by
  unfold State.refillSub
  extract_lets i t clear v c p
  have ht : RegsKept [.BX_EGS_SUB_CFG, .BX_EGS_SUB_BURST, .BX_EGS_SUB_LVL, .BX_EGS_PORT_CNT] s t := by
    dsimp only [t]
    split
    · exact .refl _ s
    · intro f j hlo hf
      exact (State.rd_putWord_other _ _ (by decide) hlo (.inl (ne_of_mem_of_not_mem (by decide) hf).symm)).trans
        (State.rd_putWord_other _ _ (by decide) hlo (.inl (ne_of_mem_of_not_mem (by decide) hf).symm))
  exact .wr (.wr (.branch (.wr ht) ht))

/-- A service's refill puts its staged rate in force, and leaves that of any other. -/
theorem State.refillSvc_rate {s : State} {j w : Nat} (q v : Nat) (hj : s.egs.svc.find? j = some w) :
    (j = q * 8 + v ∨ s.SvcRate j w) → (s.refillSvc q v).SvcRate j w := by
  intro h
  unfold State.refillSvc
  extract_lets i t clear u
  have ht : t.SvcRate j w := by
    by_cases hij : j = i
    · have hfind : s.egs.svc.find? i = some w := hij ▸ hj
      dsimp only [t]
      rw [hfind]
      dsimp only
      rw [hij]
      exact (State.rd_wr_otherLo _ _ (by decide) (by decide) (by decide)).trans (s.rd_setReg i w (by decide) (by decide) (by decide))
    · have hold := h.resolve_left hij
      dsimp only [t]
      split
      · exact hold
      · exact ((State.rd_wr_otherIdx _ _ (by decide) (by decide) hij).trans
          (State.rd_putWord_other _ _ (by decide) (by decide) (.inr hij))).trans hold
  have hu : RegsKept [.BX_EGS_PORT_CNT, .BX_EGS_SVC_LVL] t u := .branch (.wr (.refl _ t)) (.refl _ t)
  exact ht.of_kept (.wr hu) (by decide)

/-- A service's refill leaves the settings of the subscribers alone. -/
theorem State.refillSvc_subCfg (s : State) (q v : Nat) :
    RegsKept [.BX_EGS_SVC_CFG, .BX_EGS_SVC_LVL, .BX_EGS_PORT_CNT] s (s.refillSvc q v) := by
  unfold State.refillSvc
  extract_lets i t clear u
  have ht : RegsKept [.BX_EGS_SVC_CFG, .BX_EGS_SVC_LVL, .BX_EGS_PORT_CNT] s t := by
    dsimp only [t]
    split
    · exact .refl _ s
    · intro f j hlo hf
      exact (State.rd_wr_otherReg _ _ (by decide) hlo (ne_of_mem_of_not_mem (by decide) hf).symm).trans
        (State.rd_putWord_other _ _ (by decide) hlo (.inl (ne_of_mem_of_not_mem (by decide) hf).symm))
  exact .wr (.branch (.wr ht) ht)

/-- The refill of a port: its subscribers', then its services'. -/
def State.refillPort (s : State) (q : Nat) : State :=
  (portSvcs q).foldl (fun s v => s.refillSvc q v) ((portSubs q).foldl (fun s u => s.refillSub q u) s)

theorem State.refillPort_eq : State.refillPort = fun s q =>
    (portSvcs q).foldl (fun s v => s.refillSvc q v) ((portSubs q).foldl (fun s u => s.refillSub q u) s) := rfl

theorem State.refillSubs_egs (s : State) (q : Nat) (l : List Nat) : (l.foldl (fun s u => s.refillSub q u) s).egs = s.egs :=
  List.foldlRecOn (motive := fun t : State => t.egs = s.egs) l _ rfl fun t ht u _ => (t.refillSub_egs q u).trans ht

theorem State.refillSvcs_egs (s : State) (q : Nat) (l : List Nat) : (l.foldl (fun s v => s.refillSvc q v) s).egs = s.egs :=
  List.foldlRecOn (motive := fun t : State => t.egs = s.egs) l _ rfl fun t ht v _ => (t.refillSvc_egs q v).trans ht

theorem State.refillPort_egs (s : State) (q : Nat) : (s.refillPort q).egs = s.egs :=
  (State.refillSvcs_egs ..).trans (s.refillSubs_egs q _)

/-- Every register but the settings of the subscribers and what levels and counts. -/
theorem State.refillSvcs_subCfg (s : State) (q : Nat) (l : List Nat) :
    RegsKept [.BX_EGS_SVC_CFG, .BX_EGS_SVC_LVL, .BX_EGS_PORT_CNT] s (l.foldl (fun s v => s.refillSvc q v) s) :=
  RegsKept.foldl (.refl _ s) fun t v ht => ht.trans (t.refillSvc_subCfg q v)

theorem State.refillSubs_svcCfg (s : State) (q : Nat) (l : List Nat) :
    RegsKept [.BX_EGS_SUB_CFG, .BX_EGS_SUB_BURST, .BX_EGS_SUB_LVL, .BX_EGS_PORT_CNT] s (l.foldl (fun s u => s.refillSub q u) s) :=
  .foldl (.refl _ s) fun t u ht => ht.trans (t.refillSub_svcCfg q u)

/-- The refill of every port puts a subscriber's staged rates in force. -/
theorem State.refillPorts_subRates {s : State} {q x : Nat} {w : Nat × Nat} (hq : q < 25) (hx : x ∈ portSubs q)
    (hw : s.egs.sub.find? (q * 64 + x) = some w) : ((List.range 25).foldl State.refillPort s).SubRates (q * 64 + x) w.1 := by
  have hstep (t : State) (p u : Nat) (ht : t.egs = s.egs) :=
    State.refillSub_rates (s := t) (j := q * 64 + x) (w := w.1) (x := w) p u (ht ▸ hw) rfl
  have hsubs (t : State) (p : Nat) (ht : t.egs = s.egs) (h : t.SubRates (q * 64 + x) w.1) :
      ((portSubs p).foldl (fun s u => s.refillSub p u) t).SubRates (q * 64 + x) w.1 :=
    (List.foldlRecOn (motive := fun t : State => t.egs = s.egs ∧ t.SubRates (q * 64 + x) w.1) (portSubs p) _ ⟨ht, h⟩ fun t h u _ =>
      ⟨(t.refillSub_egs p u).trans h.1, hstep t p u h.1 (.inr h.2)⟩).2
  refine foldl_reaches (E := fun t : State => t.egs = s.egs) (P := fun t : State => t.SubRates (q * 64 + x) w.1) (List.mem_range.mpr hq)
      (fun t p ht => (t.refillPort_egs p).trans ht) ?_ ?_ rfl
  · exact fun t p ht h => (hsubs t p ht h).of_kept (State.refillSvcs_subCfg _ p (portSvcs p)) (by decide)
  · intro t ht
    refine State.SubRates.of_kept ?_ (State.refillSvcs_subCfg _ q (portSvcs q)) (by decide)
    exact foldl_reaches (E := fun t : State => t.egs = s.egs) hx (fun t u ht => (t.refillSub_egs q u).trans ht)
      (fun t u ht h => hstep t q u ht (.inr h)) (fun t ht => hstep t q x ht (.inl rfl)) ht

/-- The refill of every port puts a service's staged rate in force. -/
theorem State.refillPorts_svcRate {s : State} {q x w : Nat} (hq : q < 25) (hx : x ∈ portSvcs q) (hw : s.egs.svc.find? (q * 8 + x) = some w) :
    ((List.range 25).foldl State.refillPort s).SvcRate (q * 8 + x) w := by
  have hstep (t : State) (p v : Nat) (ht : t.egs = s.egs) :=
    State.refillSvc_rate (s := t) (j := q * 8 + x) (w := w) p v (ht ▸ hw)
  refine foldl_reaches (E := fun t : State => t.egs = s.egs) (P := fun t : State => t.SvcRate (q * 8 + x) w) (List.mem_range.mpr hq) (fun t
      p ht => (t.refillPort_egs p).trans ht) ?_ ?_ rfl
  · intro t p ht h
    have hkept := h.of_kept (t.refillSubs_svcCfg p (portSubs p)) (by decide)
    exact (List.foldlRecOn (motive := fun t : State => t.egs = s.egs ∧ t.SvcRate (q * 8 + x) w) (portSvcs p) _
      ⟨(t.refillSubs_egs p _).trans ht, hkept⟩ fun t h v _ => ⟨(t.refillSvc_egs p v).trans h.1, hstep t p v h.1 (.inr h.2)⟩).2
  · intro t ht
    exact foldl_reaches (E := fun t : State => t.egs = s.egs) hx (fun t v ht => (t.refillSvc_egs q v).trans ht)
      (fun t v ht h => hstep t q v ht (.inr h)) (fun t ht => hstep t q x ht (.inl rfl)) ((t.refillSubs_egs q _).trans ht)

/-! ### What competes and what is held (R443, R449, R451) -/

/-- What a decision on services changes before it releases: the tags, the counts, and in the shapers what competes and is held. -/
structure Weighed (s t : State) : Prop where
  regs : RegsKept [.BX_EGS_SVC_TAG, .BX_EGS_PORT_CNT] s t
  egs : { t.egs with competing := s.egs.competing, held := s.egs.held } = s.egs

theorem Weighed.refl (s : State) : Weighed s s := ⟨.refl _ s, rfl⟩

theorem Weighed.wr {s t : State} (h : Weighed s t) {f : Fld} {i v : Nat} (hlo : f.lo < 64 := by decide)
    (hf : f.reg ∈ [Reg.BX_EGS_SVC_TAG, .BX_EGS_PORT_CNT] := by decide) : Weighed s (t.wr f i v) := ⟨h.regs.wr hlo hf, h.egs⟩

theorem Weighed.setCompeting {s t : State} (h : Weighed s t) (l : List Nat) : Weighed s (t.setEgs { t.egs with competing := l }) :=
  ⟨h.regs, h.egs⟩

theorem Weighed.setHeld {s t : State} (h : Weighed s t) (l : List (Nat × Nat)) : Weighed s (t.setEgs { t.egs with held := l }) :=
  ⟨h.regs, h.egs⟩

theorem Weighed.branch {s t u : State} {c : Prop} [Decidable c] (ht : Weighed s t) (hu : Weighed s u) : Weighed s (if c then t else u) := by
  split
  · exact ht
  · exact hu

theorem Weighed.wake {s t : State} (h : Weighed s t) (q : Nat) : Weighed s (t.wake q) :=
  List.foldlRecOn (portSvcs q) _ h fun _ hu _ _ => .branch (.branch (Weighed.wr (hu.setCompeting _).wr) (hu.setCompeting _).wr)
      (hu.setCompeting _)

theorem Weighed.countHeld {s t : State} (h : Weighed s t) (q : Nat) : Weighed s (t.countHeld q) :=
  List.foldlRecOn (portSubs q) _ h fun _ hu _ _ => .branch (hu.setHeld _).wr hu

theorem Weighed.wakes {s t : State} (h : Weighed s t) (l : List Nat) : Weighed s (l.foldl (fun s q => s.wake q) t) :=
  List.foldlRecOn l _ h fun _ hu q _ => hu.wake q

section
variable {s t : State} (h : Weighed s t)
include h

theorem Weighed.grants : t.egs.grants = s.egs.grants := (congrArg Egress.grants h.egs :)
theorem Weighed.tick : t.egs.tick = s.egs.tick := (congrArg Egress.tick h.egs :)
theorem Weighed.sub : t.egs.sub = s.egs.sub := (congrArg Egress.sub h.egs :)
theorem Weighed.svc : t.egs.svc = s.egs.svc := (congrArg Egress.svc h.egs :)
theorem Weighed.gate : t.egs.gate = s.egs.gate := (congrArg Egress.gate h.egs :)
theorem Weighed.clearSub : t.egs.clearSub = s.egs.clearSub := (congrArg Egress.clearSub h.egs :)
theorem Weighed.clearSvc : t.egs.clearSvc = s.egs.clearSvc := (congrArg Egress.clearSvc h.egs :)

end

/-! ### The tick -/

/-- The staged settings of the windows put in force (R448). -/
def State.putGates (s : State) : State :=
  s.egs.gate.foldl (fun s (g : Nat × (Nat × Nat)) => (s.putWord .BX_EGS_GATE_TIME g.1 g.2.1).putWord .BX_EGS_GATE_SPAN g.1 g.2.2) s

/-- Nothing is staged any more, and a tick is used. -/
def State.unstaged (s : State) (k : Nat) : State :=
  s.setEgs { s.egs with sub := [], svc := [], gate := [], clearSub := [], clearSvc := [], tick := some k }

theorem State.putGates_regs (s : State) : RegsKept [.BX_EGS_GATE_TIME, .BX_EGS_GATE_SPAN] s s.putGates := by
  refine .foldl (.refl _ s) fun u g hu => hu.trans fun f j hlo hf => ?_
  exact (State.rd_putWord_other _ _ (by decide) hlo (.inl (ne_of_mem_of_not_mem (by decide) hf).symm)).trans
    (State.rd_putWord_other _ _ (by decide) hlo (.inl (ne_of_mem_of_not_mem (by decide) hf).symm))

theorem State.unstaged_regs (s : State) (k : Nat) : RegsKept [.BX_EGS_GATE_TIME, .BX_EGS_GATE_SPAN] s (s.unstaged k) := fun _ _ _ _ => rfl

/-- A tick not used yet takes effect: what was staged is in force. -/
theorem refillTick_refills {s : State} (hnew : ∀ j, s.egs.tick = some j → j < s.bxNs / 1000) : Answers .refillTick s (fun u =>
    u.egs.tick = some (s.bxNs / 1000) ∧ u.egs.sub = [] ∧ u.egs.svc = [] ∧ u.egs.gate = [] ∧ u.egs.clearSub = [] ∧ u.egs.clearSvc = [] ∧
    (∀ q x w, q < 25 → x ∈ portSubs q → s.egs.sub.find? (q * 64 + x) = some w → u.rd BX_EGS_SUB_CFG_CIR (q * 64 + x) = bits w.1 63 40 ∧
      u.rd BX_EGS_SUB_CFG_PIR (q * 64 + x) = bits w.1 39 16) ∧
    (∀ q x w, q < 25 → x ∈ portSvcs q → s.egs.svc.find? (q * 8 + x) = some w → u.rd BX_EGS_SVC_CFG_RATE (q * 8 + x) =
      bits w BX_EGS_SVC_CFG_RATE.hi BX_EGS_SVC_CFG_RATE.lo)) := by
  let t := (List.range 25).foldl State.refillPort s
  let u := (List.range 25).foldl (fun s q => s.wake q) (t.putGates.unstaged (s.bxNs / 1000))
  have hold : s.egs.tick.any (fun j => decide (s.bxNs / 1000 ≤ j)) = false := by
    cases htick : s.egs.tick with
    | none => rfl
    | some j => exact decide_eq_false (Nat.not_le.mpr (hnew j htick))
  have hwake : Weighed (t.putGates.unstaged (s.bxNs / 1000)) u := Weighed.wakes (.refl _) _
  have hkept : RegsKept [.BX_EGS_GATE_TIME, .BX_EGS_GATE_SPAN, .BX_EGS_SVC_TAG, .BX_EGS_PORT_CNT] t u :=
    ((t.putGates_regs.trans (State.unstaged_regs _ _)).mono (by decide)).trans (hwake.regs.mono (by decide))
  refine ⟨u, ?_, hwake.tick, hwake.sub, hwake.svc,
    hwake.gate, hwake.clearSub, hwake.clearSvc,
    fun q x w hq hx hw => (State.refillPorts_subRates hq hx hw).of_kept hkept (by decide),
    fun q x w hq hx hw => (State.refillPorts_svcRate hq hx hw).of_kept hkept (by decide)⟩
  change execRefillTick s = done u
  unfold execRefillTick
  dsimp only
  rw [hold, if_neg Bool.false_ne_true]
  dsimp only [u, t, State.refillPort_eq, State.putGates, State.unstaged]

/-! ### Releases (R443, R449) -/

theorem State.charge_egs (s : State) (sub svc n : Nat) : (s.charge sub svc n).egs = s.egs := by
  unfold State.charge
  dsimp only
  split
  · rfl
  · rfl

theorem State.release_grants (s : State) (q v u : Nat) :
    (s.release q v u).egs.grants = s.egs.grants.set q (s.egs.grants.getD q [] ++ [u]) := by
  unfold State.release
  dsimp only [State.setEgs, State.wr_egs]
  rw [State.charge_egs]

theorem egressRelease_grants {s : State} {q v k : Nat} (hq : q < 24) (hfree : SMap.getD s.egs.grants q [] = [])
    (htag : ((s.countHeld q).wake q).firstTag q ((portSvcs q).filter (fun x => decide (((s.countHeld q).wake q).releasable q x true false ≠
        []))) =
      some v) (hunit : (((s.countHeld q).wake q).releasable q v true false).head? = some k) :
    Answers (.egressRelease q) s (fun u => SMap.getD u.egs.grants q [] = [k]) := by
  let t := (s.countHeld q).wake q
  have hcoms : (portSvcs q).filter (fun x => decide (t.releasable q x true false ≠ [])) ≠ [] := by
    intro h
    change t.firstTag q ((portSvcs q).filter (fun x => decide (t.releasable q x true false ≠ []))) = some v at htag
    rw [h] at htag
    cases htag
  have hgrants : t.egs.grants = s.egs.grants := (((Weighed.refl s).countHeld q).wake q).grants
  refine ⟨t.release q v k, ?_, ?_⟩
  · change execEgressRelease q s = done _
    unfold execEgressRelease
    rw [if_neg (by rw [hfree]; simp; omega)]
    dsimp only
    rw [decide_eq_true hcoms, if_pos rfl, htag]
    dsimp only
    rw [if_neg (by omega), Bool.not_true, hunit]
  · dsimp only
    rw [State.release_grants, SMap.getD_set_same, hgrants, hfree]
    rfl

/-! ### The opcodes (Table 15-3) -/

section
variable {s : State} {c : Cap} (hc : c.isOp = true)
include hc

theorem shaperSet_stages (hl : 4 ≤ c.params.length) (hq : c.p 0 ≤ 24) (hsvc : c.p 1 = 1) (hx : (portSvcs (c.p 0)).contains (c.p 2) = true)
    (hsum : (s.setEgs { s.egs with svc := s.egs.svc.set (c.p 0 * 8 + c.p 2) (c.p 3 / 256 * 256) }).overRate (c.p 0) (c.p 2) = false) :
    Answers (.shaperSet c) s (fun u => u.replied c 0x0801 S_OK [] ∧ SMap.find? u.egs.svc (c.p 0 * 8 + c.p 2) = some (c.p 3 / 256 * 256) ∧
      u.regs = s.regs) := by
  let t := s.setEgs { s.egs with svc := s.egs.svc.set (c.p 0 * 8 + c.p 2) (c.p 3 / 256 * 256) }
  refine ⟨t.reply c 0x0801 S_OK, ?_, t.reply_replied .., SMap.find?_set_same _ _ _, t.reply_regs c _ (by decide) ..⟩
  change execShaperSet c s = done _
  unfold execShaperSet
  rw [s.checked_of_allowed hc (by rw [if_neg (by omega)]; exact hl)]
  dsimp only
  rw [if_neg (by omega), if_neg (by omega), if_neg (not_not.mpr hx), hsum, if_neg Bool.false_ne_true]

theorem shaperClearDebt_marks (hl : 3 ≤ c.params.length) (hq : c.p 0 ≤ 24) (hsub : c.p 1 = 0) (hone : c.p 2 ≠ 0xFFFF)
    (hx : (portSubs (c.p 0)).contains (c.p 2) = true) : Answers (.shaperClearDebt c) s (fun u =>
      u.replied c 0x0802 S_OK [] ∧ c.p 0 * 64 + c.p 2 ∈ u.egs.clearSub ∧ u.regs = s.regs) := by
  let t := s.setEgs { s.egs with clearSub := addMark s.egs.clearSub (c.p 0 * 64 + c.p 2) }
  refine ⟨t.reply c 0x0802 S_OK, ?_, t.reply_replied .., mem_addMark.mpr (.inl rfl), t.reply_regs c _ (by decide) ..⟩
  change execShaperClearDebt c s = done _
  unfold execShaperClearDebt
  rw [s.checked_of_allowed hc hl]
  dsimp only
  rw [if_neg (by omega), if_neg hone, if_pos hsub, if_pos hx]

theorem shaperRead_answers (hl : 3 ≤ c.params.length) (hq : c.p 0 ≤ 24) (hsvc : c.p 1 = 1) (hx : (portSvcs (c.p 0)).contains (c.p 2) = true) :
    Answers (.shaperRead c) s (fun u => u.replied c 0x0803 S_OK [s.readReg .BX_EGS_SVC_CFG (c.p 0 * 8 + c.p 2),
      s.stagedSvc (c.p 0 * 8 + c.p 2), s.readReg .BX_EGS_SVC_LVL (c.p 0 * 8 + c.p 2), s.readReg .BX_EGS_SVC_TAG (c.p 0 * 8 + c.p 2)] ∧
      s.onlyReply u) := by
  refine answers_reply (by decide) ?_
  change execShaperRead c s = _
  have hsub : c.p 1 ≠ 0 := by omega
  unfold execShaperRead
  rw [s.checked_of_allowed hc hl]
  dsimp only
  rw [if_neg hsub, hx, if_neg (by simp; omega), if_neg hsub]

theorem gateSet_stages (hl : 7 ≤ c.params.length) (hq : c.p 0 ≤ 24) (hwin : c.p 1 ≤ 3) (hen : c.p 2 = 1) (hperiod : c.p 3 < 2 ^ 32)
    (hphase : c.p 4 < 2 ^ 32) (hwidth : c.p 5 < 2 ^ 24) (hfit : c.p 5 + guardNs (c.p 0) (c.p 6) < c.p 3) (hmask : c.p 6 ≤ 255)
    (hcls : (if c.p 0 = 24 then decide (c.p 6 ≤ 1) else !bitAt (c.p 6) 2) = true) : Answers (.gateSet c) s (fun u =>
      u.replied c 0x0804 S_OK [] ∧ SMap.find? u.egs.gate (c.p 0 * 4 + c.p 1) = some (packFields [(32, 32, c.p 3), (0, 32, c.p 4)],
        packFields [(63, 1, 1), (48, 8, c.p 6), (0, 24, c.p 5)]) ∧ u.regs = s.regs) := by
  let w := (packFields [(32, 32, c.p 3), (0, 32, c.p 4)], packFields [(63, 1, 1), (48, 8, c.p 6), (0, 24, c.p 5)])
  let t := s.setEgs { s.egs with gate := s.egs.gate.set (c.p 0 * 4 + c.p 1) w }
  refine ⟨t.reply c 0x0804 S_OK, ?_, t.reply_replied .., SMap.find?_set_same _ _ _, t.reply_regs c _ (by decide) ..⟩
  have hfits : ¬ c.p 3 ≤ c.p 5 + guardNs (c.p 0) (c.p 6) := Nat.not_le.mpr hfit
  have hbadCls : (if c.p 0 = 24 then decide (1 < c.p 6) else bitAt (c.p 6) 2) = false := by
    split at hcls
    · next h24 => rw [if_pos h24]; simpa using hcls
    · next h24 => rw [if_neg h24]; simpa using hcls
  change execGateSet c s = done _
  unfold execGateSet
  rw [s.checked_of_allowed hc hl]
  dsimp only
  rw [decide_eq_false hfits, decide_eq_false (Nat.not_lt.mpr hmask), show (if c.p 0 = 24 then _ else _) = false from hbadCls,
    decide_eq_false (show c.p 3 ≠ 0 by omega), Bool.or_false, Bool.and_false, if_neg (by simp; omega), hen]

theorem gateStatus_answers (hl : 1 ≤ c.params.length) (hq : c.p 0 ≤ 24) : Answers (.gateStatus c) s (fun u => u.replied c 0x0805 S_OK
    [s.readReg .BX_EGS_PORT_STS (c.p 0), s.readReg .BX_EGS_PORT_VT (c.p 0), s.readReg .BX_EGS_PORT_CNT (c.p 0)] ∧ s.onlyReply u) := by
  refine answers_reply (by decide) ?_
  change execGateStatus c s = _
  unfold execGateStatus
  rw [s.checked_of_allowed hc hl, if_neg (by omega)]

end

/-- Settles O33: a refill writes a subscriber's or a service's staged word wherever its number occurs, so no later one undoes it; a decision
weighs services without touching the grants. -/
theorem egressRefillsAndReleases : Obligations.EgressRefillsAndReleases :=
  ⟨fun _ hnew => refillTick_refills hnew,
    fun _ _ _ _ hq hfree htag hunit => egressRelease_grants hq hfree htag hunit,
    fun _ _ hc hl hq hsvc hx hsum => shaperSet_stages hc hl hq hsvc hx hsum,
    fun _ _ hc hl hq hsub hone hx => shaperClearDebt_marks hc hl hq hsub hone hx,
    fun _ _ hc hl hq hsvc hx => shaperRead_answers hc hl hq hsvc hx,
    fun _ _ hc hl hq hwin hen hperiod hphase hwidth hfit hmask hcls =>
      gateSet_stages hc hl hq hwin hen hperiod hphase hwidth hfit hmask hcls,
    fun _ _ hc hl hq => gateStatus_answers hc hl hq⟩

end Sys2Proof.Machine
end

section
/-! SUPPORT. The replay engine's descriptors, units, generator and cross-check (R329 to R339). -/

namespace Sys2Proof.Machine
open Sys2Proof

/-! ### Units leave service (R337) -/

/-- Between s before and t after, units of the replay engine have left service: contexts and the queue aside, only what records, counts and
signals it has changed. -/
structure Retires (s t : State) : Prop where
  regs : RegsKept (.BX_RPL_CNT2 :: signalRegs) s t
  katFails : t.rd BX_RPL_CNT2_KAT_FAILS = s.rd BX_RPL_CNT2_KAT_FAILS
  replies : t.wdn.replies = s.wdn.replies
  retired : s.rpl.retired ⊆ t.rpl.retired
  katFailed : t.rpl.katFailed = s.rpl.katFailed

namespace Retires
variable {s t u : State}

theorem refl (s : State) : Retires s s := ⟨.refl _ s, rfl, rfl, List.Subset.refl _, rfl⟩

theorem trans (h : Retires s t) (h' : Retires t u) : Retires s u :=
  ⟨h.regs.trans h'.regs, h'.katFails.trans h.katFails, h'.replies.trans h.replies, List.Subset.trans h.retired h'.retired,
    h'.katFailed.trans h.katFailed⟩

theorem evacuate (h : Retires s t) (k : Nat) : Retires s (t.evacuate k) := ⟨h.regs, h.katFails, h.replies, h.retired, h.katFailed⟩

theorem dropMem (h : Retires s t) (k : Nat) : Retires s (t.dropMem k) := by
  unfold State.dropMem
  split
  · exact h
  · exact ⟨h.regs, h.katFails, h.replies, h.retired, h.katFailed⟩

end Retires

/-- A unit that leaves service is recorded. -/
theorem State.retireUnit_retires (s : State) (level idx : Nat) :
    Retires s (s.retireUnit level idx) ∧ (level, idx) ∈ (s.retireUnit level idx).rpl.retired := by
  unfold State.retireUnit
  split
  · next hin => exact ⟨.refl s, List.contains_iff_mem.mp hin⟩
  · extract_lets r t u
    have hsig : Signals (t.bump BX_RPL_CNT2_RETIRED) u := (Signals.refl _).signal
    have hrpl : u.rpl = t.rpl := (congrArg (fun v => v.rpl) hsig.rest :)
    have hu : Retires s u := by
      refine ⟨(RegsKept.wr (.refl _ s)).trans (hsig.regs.mono (List.subset_cons_self _ _)), ?_, hsig.replies, ?_, ?_⟩
      · exact (hsig.regs _ _ (by decide) (by decide)).trans (t.rd_wr_otherLo _ (by decide) (by decide) (by decide))
      · rw [hrpl]
        exact List.subset_append_left _ _
      · exact (congrArg Replay.katFailed hrpl :)
    have hall := List.foldlRecOn (motive := fun v : State => Retires u v) (List.range 16)
      (fun s k => if ¬ s.ctxIn k then s.evacuate k else if unitOf level idx k then s.dropMem k else s) (.refl u) fun v hv k _ => by
        split
        · exact hv.evacuate k
        · split
          · exact hv.dropMem k
          · exact hv
    refine ⟨hu.trans hall, hall.retired ?_⟩
    rw [hrpl]
    exact List.mem_append_right _ List.mem_cons_self

/-- A failed known-answer set of an engine in service retires it (R339). -/
theorem replayKat_retires {s : State} {e : Nat} (he : e < 256) (hrun : s.replayRuns = true) (hin : s.engineIn e = true)
    (hfree : (s.rctx (e / 16)).other = none) : Answers (.replayKat e false) s (fun u =>
      e ∈ u.rpl.katFailed ∧ (0, e) ∈ u.rpl.retired ∧ s.counted u BX_RPL_CNT2_KAT_FAILS 0 1) := by
  let t := (s.bump BX_RPL_CNT2_KAT_FAILS).setRpl { s.rpl with katFailed := addMark s.rpl.katFailed e }
  obtain ⟨hret, hmem⟩ := t.retireUnit_retires 0 e
  let v := (t.retireUnit 0 e).signal { ty := 0x0702, source := 7, idx := e, detail := e }
  let u := v.alarmUp 0x28 (v.bxAlarm 0x0701 (packFields [(56, 8, 7), (0, 22, e)]))
  have hsig : Signals (t.retireUnit 0 e) u := (Signals.refl _).signal.alarmUp
  have hrpl : u.rpl = (t.retireUnit 0 e).rpl := (congrArg (fun w => w.rpl) hsig.rest :)
  refine ⟨u, ?_, ?_, ?_, ?_⟩
  · change execReplayKat e false s = done u
    unfold execReplayKat
    rw [if_neg (by simp [hrun, hin, hfree]; omega)]
  · rw [hrpl, hret.katFailed]
    exact mem_addMark.mpr (.inl rfl)
  · rw [hrpl]
    exact hmem
  · refine (hsig.regs _ _ (by decide) (by decide)).trans (hret.katFails.trans ?_)
    exact s.counted_bump BX_RPL_CNT2_KAT_FAILS 0 1

theorem replayKat_passed (s : State) (e : Nat) : Answers (.replayKat e true) s (fun u => u = s) := by
  refine ⟨s, ?_, rfl⟩
  change execReplayKat e true s = done s
  unfold execReplayKat
  exact if_pos (.inr (.inl rfl))

/-! ### The opcodes -/

section
variable {s : State} {c : Cap} (hc : c.isOp = true)
include hc

theorem apdLoad_stores (hl : 3 ≤ c.params.length) (hslot : c.p 0 ≤ 63) (hcheck : apdCheck c.data (c.p 2) = 0)
    (hfree : s.apdBusy (c.p 0) = false) : Answers (.apdLoad c) s (fun u =>
      u.replied c 0x0401 S_OK (digestWords (sha256 c.data)) ∧ u.rpl.apds.find? (c.p 0) = some c.data) := by
  let t := s.setRpl { s.rpl with apds := s.rpl.apds.set (c.p 0) c.data }
  refine ⟨t.reply c 0x0401 S_OK (digestWords (sha256 c.data)), ?_, t.reply_replied .., SMap.find?_set_same _ _ _⟩
  change execApdLoad c s = done _
  unfold execApdLoad
  rw [s.checked_of_allowed hc hl]
  dsimp only
  rw [if_neg (by omega), if_neg (not_not.mpr hcheck), hfree, if_neg Bool.false_ne_true]

theorem apdLoad_refuses (hl : 3 ≤ c.params.length) (hslot : c.p 0 ≤ 63) (hcheck : apdCheck c.data (c.p 2) ≠ 0) :
    Answers (.apdLoad c) s (fun u => u.replied c 0x0401 S_BADPARAM [] ∧ s.onlyReply u) := by
  refine ⟨_, ?_, State.reply_replied s c 0x0401 S_BADPARAM [] (apdCheck c.data (c.p 2)) none, s.reply_onlyReply c _ (by decide) ..⟩
  change execApdLoad c s = done _
  unfold execApdLoad
  rw [s.checked_of_allowed hc hl]
  dsimp only
  rw [if_neg (by omega), if_pos hcheck]

theorem apdUnload_empties (hl : 1 ≤ c.params.length) (hslot : c.p 0 ≤ 63) (hfree : s.apdBusy (c.p 0) = false) :
    Answers (.apdUnload c) s (fun u => u.replied c 0x0402 S_OK [] ∧ u.rpl.apds = s.rpl.apds.erase (c.p 0)) := by
  let t := s.setRpl { s.rpl with apds := s.rpl.apds.erase (c.p 0) }
  refine ⟨t.reply c 0x0402 S_OK, ?_, t.reply_replied .., rfl⟩
  change execApdUnload c s = done _
  unfold execApdUnload
  rw [s.checked_of_allowed hc hl, if_neg (by omega), hfree, if_neg Bool.false_ne_true]

theorem apdInfo_reads {b : Bytes} (hl : 1 ≤ c.params.length) (hptr : c.noPtr = false) (hb : s.rpl.apds.find? (c.p 0) = some b) :
    Answers (.apdInfo c) s (fun u => u.answered c 0x0403 S_OK ∧
      u.wrote c (wordBytes ((parseApd b).h.take 6 ++ (parseApd b).codes) ++ sha256 b) ∧ s.onlyReply u) := by
  refine ⟨_, ?_, State.replyBlob_writes hc 0x0403 _⟩
  change execApdInfo c s = done _
  unfold execApdInfo
  rw [s.checkedPtr_of_allowed hc hl hptr, hb]

theorem replayStatus_reads (hptr : c.noPtr = false) : Answers (.replayStatus c) s (fun u => u.replied c 0x0406 S_OK [136] ∧
    u.wrote c (wordBytes (s.readReg .BX_RPL_STS :: (List.range 16).map (fun k => s.readReg .BX_RPL_CTX k))) ∧ s.onlyReply u) := by
  let b := wordBytes (s.readReg .BX_RPL_STS :: (List.range 16).map (fun k => s.readReg .BX_RPL_CTX k))
  have hlen : b.length = 136 := by
    rw [length_wordBytes, List.length_cons, List.length_map, List.length_range]
  refine ⟨s.reply c 0x0406 S_OK [b.length] 0 (some (c.replyPtr, b)), ?_, ?_, s.reply_wrote .., s.reply_onlyReply c _ (by decide) ..⟩
  · change execReplayStatus c s = done _
    unfold execReplayStatus
    rw [s.checkedPtr_of_allowed hc (Nat.zero_le _) hptr, State.replyBlob_of_isOp hc]
  · rw [hlen]
    exact s.reply_replied ..

section
variable (hl : 3 ≤ c.params.length) (hlevel : c.p 0 ≤ 2) (hunit : c.p 1 < unitCount (c.p 0))
include hl hlevel hunit

theorem replayUnit_retires (hretire : c.p 2 = 0) : Answers (.replayUnit c) s (fun u =>
    u.replied c 0x0407 S_OK [] ∧ (c.p 0, c.p 1) ∈ u.rpl.retired) := by
  obtain ⟨-, hmem⟩ := s.retireUnit_retires (c.p 0) (c.p 1)
  refine ⟨(s.retireUnit (c.p 0) (c.p 1)).reply c 0x0407 S_OK, ?_, State.reply_replied .., hmem⟩
  change execReplayUnit c s = done _
  unfold execReplayUnit
  rw [s.checked_of_allowed hc hl, if_neg (by omega), if_pos hretire]

theorem replayUnit_restores (hrestore : c.p 2 = 1) (hkat : c.p 0 = 0 → s.rpl.katFailed.contains (c.p 1) = false) :
    Answers (.replayUnit c) s (fun u => u.replied c 0x0407 S_OK [] ∧ (c.p 0, c.p 1) ∉ u.rpl.retired) := by
  let t := s.setRpl { s.rpl with retired := s.rpl.retired.filter (fun u => u ≠ (c.p 0, c.p 1)) }
  refine ⟨t.reply c 0x0407 S_OK, ?_, t.reply_replied .., fun h => ?_⟩
  · change execReplayUnit c s = done _
    unfold execReplayUnit
    rw [s.checked_of_allowed hc hl, if_neg (by omega), if_neg (by omega),
      if_neg fun h => Bool.false_ne_true ((hkat h.1).symm.trans h.2)]
  · obtain ⟨-, hne⟩ := List.mem_filter.mp h
    exact of_decide_eq_true hne rfl

end

theorem replayGen_answers (hl : 5 ≤ c.params.length) (hstep : c.p 1 < 2 ^ 48) (hblock : c.p 2 < 2 ^ 32) (hstream : c.p 3 ≤ 255)
    (hcall : c.p 4 < 2 ^ 32) : Answers (.replayGen c) s (fun u =>
      u.replied c 0x0408 S_OK (genOut (c.p 0) (c.p 1) (c.p 2) (c.p 3) (c.p 4)) ∧ s.onlyReply u) := by
  refine answers_reply (by decide) ?_
  change execReplayGen c s = _
  unfold execReplayGen
  rw [s.checked_of_allowed hc hl, if_neg (by omega)]

theorem replayCrosscheck_notComparable (hl : 8 ≤ c.params.length) (hfmt : (rfmt (c.p 7)).isSome = true) (hcode : c.p 1 ≠ c.p 3) :
    Answers (.replayCrosscheck c) s (fun u => u.replied c 0x0409 S_NOTCOMPARABLE [] ∧ s.onlyReply u) := by
  obtain ⟨f, hf⟩ := Option.isSome_iff_exists.mp hfmt
  refine answers_reply (by decide) ?_
  change execReplayCrosscheck c s = _
  unfold execReplayCrosscheck
  rw [s.checked_of_allowed hc hl, hf]
  dsimp only
  rw [if_pos hcode]

theorem replayCrosscheck_equal {f : RFmt} {s1 s2 : State} {a b : List (Nat × Nat)} (hl : 8 ≤ c.params.length) (hf : rfmt (c.p 7) = some f)
    (hcode : c.p 1 = c.p 3) (ha : s.vaRange 0x80 64 (c.p 4) (c.p 6) false = (.ok a, s1))
    (hb : s1.vaRange 0x80 64 (c.p 5) (c.p 6) false = (.ok b, s2)) (hcleanA : (s2.readPieces a).2 = false)
    (hcleanB : (s2.readPieces b).2 = false) (hequal : ∀ i < 8 * c.p 6 / f.width,
      elemAt f.width (s2.readPieces a).1 i = elemAt f.width (s2.readPieces b).1 i) :
    Answers (.replayCrosscheck c) s (fun u => u.replied c 0x0409 S_OK [0]) := by
  have hnone : (List.range (8 * c.p 6 / f.width)).find? (fun i => elemAt f.width (s2.readPieces a).1 i ≠ elemAt f.width (s2.readPieces b).1 i) =
      none := List.find?_eq_none.mpr fun i hi => by simpa using hequal i (List.mem_range.mp hi)
  refine ⟨s2.reply c 0x0409 S_OK [0], ?_, s2.reply_replied ..⟩
  change execReplayCrosscheck c s = done _
  unfold execReplayCrosscheck
  rw [s.checked_of_allowed hc hl, hf]
  dsimp only
  rw [if_neg (not_not.mpr hcode), show srcReplay = 0x80 from rfl, ha]
  dsimp only
  rw [hb]
  dsimp only
  rw [hcleanA, hcleanB, if_neg (by decide), hnone]

end

/-- Settles O35: a unit once listed as out of service stays listed while contexts give their jobs back. -/
theorem replayUnitsAndDescriptors : Obligations.ReplayUnitsAndDescriptors :=
  ⟨fun _ _ hc hl hslot hcheck hfree => apdLoad_stores hc hl hslot hcheck hfree,
    fun _ _ hc hl hslot hcheck => apdLoad_refuses hc hl hslot hcheck,
    fun _ _ hc hl hslot hfree => apdUnload_empties hc hl hslot hfree,
    fun _ _ _ hc hl hptr hb => apdInfo_reads hc hl hptr hb,
    fun _ _ hc hptr => replayStatus_reads hc hptr,
    fun _ _ hc hl hlevel hunit hretire => replayUnit_retires hc hl hlevel hunit hretire,
    fun _ _ hc hl hlevel hunit hrestore hkat => replayUnit_restores hc hl hlevel hunit hrestore hkat,
    fun _ _ hc hl hstep hblock hstream hcall => replayGen_answers hc hl hstep hblock hstream hcall,
    fun _ _ hc hl hfmt hcode => replayCrosscheck_notComparable hc hl hfmt hcode,
    fun _ _ _ _ _ _ _ hc hl hf hcode ha hb hcleanA hcleanB hequal => replayCrosscheck_equal hc hl hf hcode ha hb hcleanA hcleanB hequal,
    fun _ _ he hrun hin hfree => replayKat_retires he hrun hin hfree,
    fun s e => replayKat_passed s e⟩

end Sys2Proof.Machine
end

section
/-! SUPPORT. The operations of the commit gate: entries, events, jobs that feed the replay queue, and the end of a step (R346 to R365). -/

namespace Sys2Proof.Machine
open Sys2Proof

/-- What tells two provisional steps apart: job, step and attempt. -/
def GStep.id3 (g : GStep) : Nat × Nat × Nat := (g.job, g.step, g.attempt)

theorem GStep.is_iff {g h : GStep} : g.is h = true ↔ g.id3 = h.id3 := by
  simp only [GStep.is, GStep.id3, Bool.and_eq_true, decide_eq_true_eq, Prod.mk.injEq, and_assoc]

theorem State.gstep?_some {s : State} {job step attempt : Nat} {g : GStep} (h : s.gstep? job step attempt = some g) :
    g.id3 = (job, step, attempt) ∧ g ∈ s.gate.steps := by
  refine ⟨?_, List.mem_of_find?_eq_some h⟩
  have hkey := List.find?_some h
  simpa only [GStep.id3, Bool.and_eq_true, decide_eq_true_eq, Prod.mk.injEq, and_assoc] using hkey

/-- A step with that job, step and attempt is found where there is one. -/
theorem State.gstep?_isSome {s : State} {h : GStep} {job step attempt : Nat} (hmem : h ∈ s.gate.steps) (hid : h.id3 = (job, step, attempt)) :
    ∃ g, s.gstep? job step attempt = some g := by
  refine Option.isSome_iff_exists.mp (List.find?_isSome.mpr ⟨h, hmem, ?_⟩)
  simpa only [GStep.id3, Bool.and_eq_true, decide_eq_true_eq, Prod.mk.injEq, and_assoc] using hid

theorem Replies.gate {s t : State} (h : Replies s t) : t.gate = s.gate := (congrArg (fun u => u.gate) h.rest :)

theorem State.reply_gate (s : State) (c : Cap) (op status : Nat) (res : List Nat) (reason : Nat) (w : Option (Nat × Bytes)) :
    (s.reply c op status res reason w).gate = s.gate :=
  (Replies.refl s).reply.gate

/-! ### Jobs of steps enter and leave the replay queue (R313, R352) -/

/-- Between s before and t after, replay jobs have been queued or cancelled: beside the replay engine only the jobs that steps hold back have
changed. -/
structure Feeds (s t : State) : Prop where
  rest : { t with rpl := s.rpl, gate := s.gate } = s
  gate : { t.gate with steps := s.gate.steps } = s.gate
  ids : t.gate.steps.map GStep.id3 = s.gate.steps.map GStep.id3
  steps : ∀ h ∈ t.gate.steps, ∃ g ∈ s.gate.steps, { h with heldJobs := g.heldJobs } = g

namespace Feeds
variable {s t u : State}

theorem of_gate (hrest : { t with rpl := s.rpl, gate := s.gate } = s) (hgate : t.gate = s.gate) : Feeds s t :=
  ⟨hrest, by rw [hgate], by rw [hgate], fun h hh => ⟨h, hgate ▸ hh, rfl⟩⟩

theorem refl (s : State) : Feeds s s := .of_gate rfl rfl

theorem trans (h : Feeds s t) (h' : Feeds t u) : Feeds s u := by
  refine ⟨?_, ?_, h'.ids.trans h.ids, fun x hx => ?_⟩
  · have hu : { u with rpl := s.rpl, gate := s.gate } = { t with rpl := s.rpl, gate := s.gate } :=
      congrArg (fun v : State => { v with rpl := s.rpl, gate := s.gate }) h'.rest
    exact hu.trans h.rest
  · have hu : { u.gate with steps := s.gate.steps } = { t.gate with steps := s.gate.steps } :=
      congrArg (fun v : Gate => { v with steps := s.gate.steps }) h'.gate
    exact hu.trans h.gate
  · obtain ⟨y, hy, hxy⟩ := h'.steps x hx
    obtain ⟨g, hg, hyg⟩ := h.steps y hy
    exact ⟨g, hg, (congrArg (fun z : GStep => { z with heldJobs := g.heldJobs }) hxy).trans hyg⟩

theorem regs (h : Feeds s t) : t.regs = s.regs := (congrArg State.regs h.rest :)
theorem wdn (h : Feeds s t) : t.wdn = s.wdn := (congrArg State.wdn h.rest :)
theorem hbm (h : Feeds s t) : t.hbm = s.hbm := (congrArg State.hbm h.rest :)
theorem jobs (h : Feeds s t) : t.gate.jobs = s.gate.jobs := (congrArg Gate.jobs h.gate :)

theorem rd (h : Feeds s t) (f : Fld) (i : Nat) : t.rd f i = s.rd f i := State.rd_congr h.regs f i

end Feeds

/-- A step gives up its first held job. -/
theorem State.submitHeld_feeds {s : State} {g : GStep} (hg : g ∈ s.gate.steps) (j : RplJob) (t : List RplJob) :
    Feeds s ((s.setStep { g with heldJobs := t }).submit j) := by
  refine ⟨rfl, rfl, ?_, fun h hh => ?_⟩
  · change (s.gate.steps.map _).map GStep.id3 = _
    rw [List.map_map]
    refine List.map_congr_left fun h _ => ?_
    change GStep.id3 (if h.is { g with heldJobs := t } = true then { g with heldJobs := t } else h) = h.id3
    split
    · next his => exact (GStep.is_iff.mp his).symm
    · rfl
  · obtain ⟨x, hx, rfl⟩ := List.mem_map.mp hh
    split
    · exact ⟨g, hg, rfl⟩
    · exact ⟨x, hx, rfl⟩

theorem State.setRpl_feeds (s : State) (r : Replay) : Feeds s (s.setRpl r) := .of_gate rfl rfl

theorem feedOne_feeds (k : Nat) (s : State) : Feeds s (feedOne k s) := by
  induction k generalizing s with
  | zero => exact .refl s
  | succ k ih =>
    unfold feedOne
    split
    · exact .refl s
    · split
      · exact .trans (s.setRpl_feeds _) (ih _)
      · split
        · exact .refl s
        · next g hg =>
          split
          · exact .refl s
          · exact (State.submitHeld_feeds (List.mem_of_find?_eq_some hg) _ _).trans (ih _)

theorem State.feed_feeds (s : State) : Feeds s s.feed := feedOne_feeds 1024 s

/-- Where no step holds a job back, the steps stay as they are. -/
theorem feedOne_gate {s : State} (hheld : ∀ g ∈ s.gate.steps, g.heldJobs = []) (k : Nat) : (feedOne k s).gate = s.gate := by
  have hnone : s.gate.steps.find? (fun g => g.heldJobs ≠ []) = none :=
    List.find?_eq_none.mpr fun g hg => by simp [hheld g hg]
  induction k generalizing s with
  | zero => rfl
  | succ k ih =>
    unfold feedOne
    split
    · rfl
    · split
      · exact ih hheld hnone
      · rw [hnone]

theorem State.cancelJobs_feeds (s : State) (g : GStep) : Feeds s (s.cancelJobs g) :=
  List.foldlRecOn (motive := fun t : State => Feeds s t) _ _ (.refl s) fun _ ht _ _ => ht.trans (.of_gate rfl rfl)

theorem State.cancelJobs_gate (s : State) (g : GStep) : (s.cancelJobs g).gate = s.gate :=
  List.foldlRecOn (motive := fun t : State => t.gate = s.gate) _ _ rfl fun _ ht _ _ => ht

/-- A step ends: it is no longer among the provisional steps; beside them only the replay engine has changed. -/
structure Ends (s : State) (g : GStep) (t : State) : Prop where
  rest : { t with rpl := s.rpl, gate := s.gate } = s
  jobs : t.gate.jobs = s.gate.jobs
  ids : t.gate.steps.map GStep.id3 = (s.gate.steps.filter (fun h => !h.is g)).map GStep.id3

theorem State.endStep_ends (s : State) (g : GStep) : Ends s g (s.endStep g) := by
  have hcancel := s.cancelJobs_feeds g
  have hgate := s.cancelJobs_gate g
  have hfeed := ((s.cancelJobs g).dropStep g).feed_feeds
  refine ⟨?_, hfeed.jobs.trans (congrArg Gate.jobs hgate :), hfeed.ids.trans ?_⟩
  · exact (congrArg (fun v : State => { v with rpl := s.rpl, gate := s.gate }) hfeed.rest :).trans hcancel.rest
  · change ((s.cancelJobs g).gate.steps.filter _).map GStep.id3 = _
    rw [hgate]

theorem Ends.rd {s t : State} {g : GStep} (h : Ends s g t) (f : Fld) (i : Nat) : t.rd f i = s.rd f i :=
  State.rd_congr (congrArg State.regs h.rest :) f i

/-! ### Translations (R422, R423) -/

/-- Between s before and t after, addresses have been translated: beside the TLB only the record of a failed translation, and what it signals,
has changed. -/
structure Translates (s t : State) : Prop where
  rest : { t.unsignalled with hbm := s.hbm } = { s.unsignalled with hbm := s.hbm }
  hbm : { t.hbm with tlb := s.hbm.tlb } = s.hbm
  regs : RegsKept (.BX_XLT_FAULT :: .BX_XLT_CNT :: .BX_SAF_STS :: signalRegs) s t

namespace Translates
variable {s t u : State}

theorem refl (s : State) : Translates s s := ⟨rfl, rfl, .refl _ s⟩

theorem trans (h : Translates s t) (h' : Translates t u) : Translates s u := by
  refine ⟨?_, ?_, h.regs.trans h'.regs⟩
  · exact (congrArg (fun v : State => { v with hbm := s.hbm }) h'.rest :).trans h.rest
  · exact (congrArg (fun v : Hbm => { v with tlb := s.hbm.tlb }) h'.hbm :).trans h.hbm

theorem branch {c : Prop} [Decidable c] (ht : Translates s t) (hu : Translates s u) : Translates s (if c then t else u) := by
  split <;> assumption

theorem setTlb (h : Translates s t) (l : List TlbEntry) : Translates s (t.setHbm { t.hbm with tlb := l }) := ⟨h.rest, h.hbm, h.regs⟩

theorem gate (h : Translates s t) : t.gate = s.gate := (congrArg (fun u => u.gate) h.rest :)
theorem rpl (h : Translates s t) : t.rpl = s.rpl := (congrArg (fun u => u.rpl) h.rest :)
theorem replies (h : Translates s t) : t.wdn.replies = s.wdn.replies := (congrArg (fun u => u.wdn.replies) h.rest :)

end Translates

theorem State.xlFault_translates (s : State) (source space va cause : Nat) : Translates s (s.xlFault source space va cause) := by
  unfold State.xlFault
  extract_lets t u
  have hu : RegsKept [.BX_XLT_FAULT, .BX_XLT_CNT] s u := .wr (.wr (.wr (.wr (.wr (.refl _ s)))))
  split
  · have hd := u.detect_detects 0x0B01 11 source none false
    exact ⟨(congrArg (fun v : State => { v with hbm := s.hbm }) hd.rest :), congrArg (fun v : Hbm => { v with tlb := s.hbm.tlb }) hd.hbm,
      (hu.mono (by decide)).trans (hd.regs.mono (by decide))⟩
  · exact ⟨rfl, rfl, hu.mono (by decide)⟩

theorem State.translate_translates (s : State) (source space va : Nat) (write : Bool) :
    Translates s (s.translate source space va write).2 := by
  unfold State.translate
  split
  · rw [apply_ite Prod.snd]
    exact .branch (.refl s) (s.xlFault_translates source space va 5)
  · have hmiss : Translates s (s.bump BX_XLT_CNT_TLB_MISS) := ⟨rfl, rfl, .wr (.refl _ s)⟩
    dsimp only
    split
    · exact hmiss.trans (State.xlFault_translates ..)
    · exact hmiss.setTlb _

theorem State.badAddress_translates (source tenant : Nat) (l : List Nat) (s : State) : Translates s (s.badAddress source tenant l).2 := by
  induction l generalizing s with
  | nil => exact .refl s
  | cons a l ih =>
    unfold State.badAddress
    split
    · exact ih s
    · dsimp only
      split
      · exact s.translate_translates ..
      · exact (s.translate_translates ..).trans (ih _)

/-! ### Ledger entries and events (R360, R364) -/

/-- Between s before and t after, an entry has joined a ledger, and its event may have been posted. -/
structure Entered (s t : State) : Prop where
  regs : RegsKept (.BX_CMT_LEDGER :: .BX_CMT_CNT4 :: signalRegs) s t
  jobs : t.gate.jobs = s.gate.jobs
  steps : t.gate.steps = s.gate.steps
  replies : t.wdn.replies = s.wdn.replies

theorem Entered.refl (s : State) : Entered s s := ⟨.refl _ s, rfl, rfl, rfl⟩

theorem Entered.trans {s t u : State} (h : Entered s t) (h' : Entered t u) : Entered s u :=
  ⟨h.regs.trans h'.regs, h'.jobs.trans h.jobs, h'.steps.trans h.steps, h'.replies.trans h.replies⟩

theorem Entered.of_signals {s t : State} (h : Signals s t) : Entered s t :=
  have hgate : t.gate = s.gate := (congrArg (fun u => u.gate) h.rest :)
  ⟨h.regs.mono (by decide), congrArg Gate.jobs hgate, congrArg Gate.steps hgate, h.replies⟩

theorem State.ledgerPut_enters (s : State) (r : LedgerRec) : Entered s (s.ledgerPut r).2.2 := by
  refine ⟨(s.ledgerPut_regs r).mono (by decide), ?_, ?_, ?_⟩
  all_goals
    unfold State.ledgerPut
    dsimp only
    split
    · split <;> rfl
    · split <;> rfl

theorem State.ledgerStart_enters (s : State) (t : Nat) : Entered s (s.ledgerStart t) := by
  unfold State.ledgerStart
  split
  · exact s.ledgerPut_enters _
  · exact .refl s

theorem State.ledger_enters (s : State) (r : LedgerRec) : Entered s (s.ledger r).2.2 :=
  (s.ledgerStart_enters r.tenant).trans (State.ledgerPut_enters _ r)

theorem State.stepEvent_signals (s : State) (t : Nat) (ws : List Nat) : Signals s (s.stepEvent t ws) :=
  (Signals.branch (.refl s) (Signals.refl s).post).post

/-- The ledger takes the next sequence number. -/
theorem State.ledgerPut_nextSeq (s : State) (r : LedgerRec) :
    (s.ledgerPut r).2.2.rd BX_CMT_LEDGER_NEXT_SEQ r.tenant = (s.rd BX_CMT_LEDGER_NEXT_SEQ r.tenant + 1) % 2 ^ 48 := by
  unfold State.ledgerPut
  extract_lets t seq body chain g u v w x
  have hv : v.rd BX_CMT_LEDGER_NEXT_SEQ t = (seq + 1) % 2 ^ 48 := u.rd_wr_same ..
  have hw : w.rd BX_CMT_LEDGER_NEXT_SEQ t = (seq + 1) % 2 ^ 48 := by
    dsimp only [w]
    split
    · exact (v.rd_bump_otherReg _ _ _).trans hv
    · exact hv
  dsimp only [x]
  split
  · exact hw
  · exact hw

theorem State.ledger_nextSeq {s : State} {r : LedgerRec} (hpos : 0 < s.rd BX_CMT_LEDGER_NEXT_SEQ r.tenant)
    (hlt : s.rd BX_CMT_LEDGER_NEXT_SEQ r.tenant < 2 ^ 40) :
    (s.ledger r).2.2.rd BX_CMT_LEDGER_NEXT_SEQ r.tenant = s.rd BX_CMT_LEDGER_NEXT_SEQ r.tenant + 1 := by
  have hstart : s.ledgerStart r.tenant = s := if_neg (Nat.pos_iff_ne_zero.mp hpos)
  unfold State.ledger
  rw [hstart, State.ledgerPut_nextSeq, Nat.mod_eq_of_lt (by omega)]

/-! ### Announcements (R346, R347, Table 12-2) -/

/-- The step that an announcement of a job makes. -/
def State.announced (s : State) (b : Bytes) (j : Job) : GStep :=
  { job := rdLe b 4 4, record := b, die := j.die, unit := j.unit, selected := false, accepted := s.bxNs, gated := j.gated
    onUnchecked := s.rd BX_CMT_TEN_POLICY_HOLD_EXTERNAL j.tenant ≠ 0 || s.rd BX_CMT_TEN_POLICY_ON_UNCHECKED j.tenant ≠ 0, sc := j.sc
    afterRevoke := s.rd BX_CMT_TEN_POLICY_AFTER_REVOKE j.tenant }

/-- A step commits (Table 12-8): its entry joins the ledger, and of its job at most the newest step committed changes. -/
structure Commits (s : State) (g : GStep) (t : State) : Prop where
  regs : RegsKept (.BX_CMT_LEDGER :: .BX_CMT_CNT4 :: .BX_CMT_CNT0 :: signalRegs) s t
  announced : t.rd BX_CMT_CNT0_ANNOUNCED 0 = s.rd BX_CMT_CNT0_ANNOUNCED 0
  committed : s.counted t BX_CMT_CNT0_COMMITTED 0 1
  steps : t.gate.steps = s.gate.steps
  job : (t.gjob? g.job).map (fun x => (x.nextStep, x.rollback)) = (s.gjob? g.job).map (fun x => (x.nextStep, x.rollback))
  nextSeq : 0 < s.rd BX_CMT_LEDGER_NEXT_SEQ g.tenant → s.rd BX_CMT_LEDGER_NEXT_SEQ g.tenant < 2 ^ 40 →
    t.rd BX_CMT_LEDGER_NEXT_SEQ g.tenant = s.rd BX_CMT_LEDGER_NEXT_SEQ g.tenant + 1

theorem State.commitStep_commits (s : State) (g : GStep) (cause : Nat) : Commits s g (s.commitStep g cause) := by
  unfold State.commitStep
  let r := s.stepRec g 1 cause
  let l := (s.ledger r).2.2
  let u := l.stepEvent g.tenant (stepWords g 1 cause (s.ledger r).1 (rdLe (s.ledger r).2.1 0 8))
  have hsig : Signals l u := l.stepEvent_signals _ _
  have hu : Entered s u := (s.ledger_enters r).trans (.of_signals hsig)
  have hjob : u.gjob? g.job = s.gjob? g.job := congrArg (fun m => SMap.find? m g.job) hu.jobs
  let v := u.bump BX_CMT_CNT0_COMMITTED
  have hv : Commits s g v := by
    refine ⟨?_, ?_, ?_, hu.steps, ?_, fun hpos hlt => ?_⟩
    · exact .wr (hu.regs.mono (by decide))
    · exact (u.rd_wr_otherLo _ (by decide) (by decide) (by decide)).trans (hu.regs _ _ (by decide) (by decide))
    · exact State.counted_of_before (hu.regs _ _ (by decide) (by decide)) (u.counted_bump BX_CMT_CNT0_COMMITTED 0 1)
    · exact congrArg (Option.map fun x : Job => (x.nextStep, x.rollback)) hjob
    · exact (u.rd_bump_otherReg _ _ _).trans ((hsig.regs _ _ (by decide) (by decide)).trans (State.ledger_nextSeq (r := r) hpos hlt))
  change Commits s g (match v.gjob? g.job with
    | none => v
    | some j => v.setJob g.job { j with lastCommitted := some (match j.lastCommitted with
        | none => g.step
        | some l => max l g.step) })
  cases hj : v.gjob? g.job with
  | none => exact hv
  | some j =>
    refine ⟨hv.regs, hv.announced, hv.committed, hv.steps, ?_, hv.nextSeq⟩
    have hset (x : Job) : (v.setJob g.job x).gjob? g.job = some x := SMap.find?_set_same ..
    rw [← hv.job, hj]
    dsimp only
    rw [hset]
    rfl

/-- A step that commits leaves its job where an announcement has put it. -/
theorem State.commitStep_keepsJob {s t : State} {g : GStep} (hregs : t.regs = s.regs) (hjobs : t.gate.jobs = s.gate.jobs) (cause : Nat) :
    ((t.commitStep g cause).gjob? g.job).map (fun x => (x.nextStep, x.rollback)) = (s.gjob? g.job).map (fun x => (x.nextStep, x.rollback)) ∧
      (t.commitStep g cause).rd BX_CMT_CNT0_ANNOUNCED 0 = s.rd BX_CMT_CNT0_ANNOUNCED 0 := by
  have hcommit := t.commitStep_commits g cause
  exact ⟨hcommit.job.trans (congrArg (fun m => (SMap.find? m g.job).map fun x : Job => (x.nextStep, x.rollback)) hjobs),
    hcommit.announced.trans (State.rd_congr hregs _ _)⟩

/-- An accepted announcement: the job moves on, the acceptance is counted, and a gated step is kept. -/
theorem State.accept?_accepts (s : State) (g : GStep) (j : Job) :
    ((s.accept? g j).2.gjob? g.job).map (fun x => (x.nextStep, x.rollback)) = some (g.step + 1, false) ∧
      s.counted (s.accept? g j).2 BX_CMT_CNT0_ANNOUNCED 0 1 ∧
      (g.gated = true → ∃ h ∈ (s.accept? g j).2.gate.steps, h.job = g.job ∧ h.record = g.record ∧ h.accepted = g.accepted ∧ h.gated = true) := by
  generalize ha : s.accept? g j = a
  unfold State.accept? at ha
  extract_lets isOld g' t at ha
  generalize s.select g' j.apd (decide (0 < j.after)) = r at ha
  obtain ⟨sel, prio, u, cause⟩ := r
  dsimp -zeta only at ha
  extract_lets g₂ v gv w x gx keep at ha
  subst ha
  have hv : RegsKept [.BX_CMT_CNT1, .BX_CMT_CNT2] t v := .branch (.wr (.refl _ t)) (.branch (.wr (.refl _ t)) (.refl _ t))
  have hw : w.regs = v.regs := by
    dsimp only [w]
    split <;> rfl
  have hcount : s.counted x BX_CMT_CNT0_ANNOUNCED 0 1 :=
    (State.rd_congr hw _ _).trans ((hv _ _ (by decide) (by decide)).trans (s.counted_bump BX_CMT_CNT0_ANNOUNCED 0 1))
  have hjob : (x.gjob? g₂.job).map (fun x => (x.nextStep, x.rollback)) = some (g.step + 1, false) :=
    congrArg (Option.map _) (SMap.find?_set_same _ _ _)
  split
  · exact ⟨hjob, hcount, fun hg => ⟨g₂, List.mem_append_right _ List.mem_cons_self, rfl, rfl, rfl, hg⟩⟩
  · next hg =>
    have hsame : (if sel then keep else x).regs = x.regs ∧ (if sel then keep else x).gate.jobs = x.gate.jobs := by
      split
      · exact ⟨rfl, rfl⟩
      · exact ⟨rfl, rfl⟩
    obtain ⟨hnext, hann⟩ := State.commitStep_keepsJob (g := g₂) hsame.1 hsame.2 cAfter
    exact ⟨hnext.trans hjob, hann.trans hcount, fun h => absurd h hg⟩

section
variable {s : State} {c : Cap} {b : Bytes} {j : Job}

/-- An announcement that is the job's next step, or comes before it, is judged by Table 12-2 from row 8 on. -/
theorem State.announceRow_current (hinc : bits (rdLe b 8 8) 15 0 = j.curInc) (hold : j.old = none) (hfence : (s.die j.die).fence = none)
    (hstuck : j.stuck = false) (hattempt : bits (rdLe b 0 8) 31 24 = j.attempt) :
    s.announceRow (s.announced b j) j =
      if bits (rdLe b 8 8) 63 16 < j.nextStep then (S_CONFLICT, some BX_CMT_CNT2_DUP_STEP)
      else if j.nextStep < bits (rdLe b 8 8) 63 16 then (S_NOTNOW, none)
      else if 65536 ≤ s.gate.steps.length ∨ s.rd BX_CMT_TEN_POLICY_MAX_PENDING j.tenant ≤
        (s.gate.steps.filter (fun h => h.tenant = j.tenant)).length then (S_BUSY, none)
      else (S_OK, none) := by
  have hi : (s.announced b j).inc = j.curInc := hinc
  have ha : (s.announced b j).attempt = j.attempt := hattempt
  unfold State.announceRow
  rw [hold]
  dsimp only
  rw [if_neg Bool.false_ne_true, hfence]
  dsimp only
  rw [Bool.and_false, if_neg Bool.false_ne_true, if_neg (by simp [hi]), if_neg (by simp), hstuck, if_neg Bool.false_ne_true,
    if_neg (by omega), if_neg (by omega)]
  rfl

variable (hc : (c.isOp || c.isTenant) = true) (hl : 1 ≤ c.params.length) (hb : padTo 128 c.data = b) (hj : s.gjob? (rdLe b 4 4) = some j)
  (hown : c.ownsJob j = true) (hten : bits (rdLe b 0 8) 21 16 = j.tenant) (hkind : bits (rdLe b 0 8) 23 22 ≠ 3)
  (hen : s.flag BX_CMT_CTRL_EN = true)
include hc hl hb hj hown hten hkind hen

/-- An announcement of a job the capsule may act on, with the gate enabled, is answered as its row of Table 12-2 says. -/
theorem exec_stepAnnounce : exec (.stepAnnounce c) s = done
    (let g := s.announced b j
    let r := s.announceRow g j
    let t := match r.2 with
      | none => s
      | some f => s.bump f
    if r.1 ≠ S_OK then t.reply c 0x0410 r.1 else (t.accept? g j).2.reply c 0x0410 S_OK [b2n !(t.accept? g j).1]) := by
  have ht : (s.announced b j).tenant = j.tenant := hten
  have hk : (s.announced b j).kind ≠ 3 := hkind
  change execStepAnnounce c s = _
  unfold execStepAnnounce
  rw [s.checked_of_allowed hc hl, hb]
  dsimp only
  rw [hj]
  change done (if ¬ c.ownsJob j = true then _ else if (s.announced b j).tenant ≠ j.tenant ∨ (s.announced b j).kind = 3 then _ else _) = _
  rw [if_neg (not_not.mpr hown), if_neg (not_or.mpr ⟨not_not.mpr ht, hk⟩), if_neg (not_not.mpr hen)]
  rfl

variable (hinc : bits (rdLe b 8 8) 15 0 = j.curInc) (hold : j.old = none) (hfence : (s.die j.die).fence = none) (hstuck : j.stuck = false)
  (hattempt : bits (rdLe b 0 8) 31 24 = j.attempt)
include hinc hold hfence hstuck hattempt

theorem stepAnnounce_duplicate (hstep : bits (rdLe b 8 8) 63 16 < j.nextStep) : Answers (.stepAnnounce c) s (fun u =>
    u.replied c 0x0410 S_CONFLICT [] ∧ u.gate = s.gate ∧ s.counted u BX_CMT_CNT2_DUP_STEP 0 1) := by
  have hrow := State.announceRow_current hinc hold hfence hstuck hattempt
  rw [if_pos hstep] at hrow
  let t := s.bump BX_CMT_CNT2_DUP_STEP
  refine ⟨t.reply c 0x0410 S_CONFLICT, ?_, t.reply_replied .., ?_, ?_⟩
  · rw [exec_stepAnnounce hc hl hb hj hown hten hkind hen]
    dsimp only
    rw [hrow]
    rfl
  · exact t.reply_gate ..
  · exact (t.rd_reply c _ (by decide) _ _ _).trans (s.counted_bump BX_CMT_CNT2_DUP_STEP 0 1)

theorem stepAnnounce_accepts (hstep : bits (rdLe b 8 8) 63 16 = j.nextStep) (hroom : s.gate.steps.length < 65536)
    (hpending : (s.gate.steps.filter (fun h => h.tenant = j.tenant)).length < s.rd BX_CMT_TEN_POLICY_MAX_PENDING j.tenant) :
    Answers (.stepAnnounce c) s (fun u => u.answered c 0x0410 S_OK ∧
      (u.gjob? (rdLe b 4 4)).map (fun x => (x.nextStep, x.rollback)) = some (j.nextStep + 1, false) ∧ s.counted u BX_CMT_CNT0_ANNOUNCED 0 1 ∧
      (j.gated = true → ∃ g ∈ u.gate.steps, g.job = rdLe b 4 4 ∧ g.record = b ∧ g.accepted = s.bxNs ∧ g.gated = true)) := by
  have hrow := State.announceRow_current hinc hold hfence hstuck hattempt
  rw [if_neg (by omega), if_neg (by omega), if_neg (by omega)] at hrow
  let t := (s.accept? (s.announced b j) j).2
  let sel := [b2n !(s.accept? (s.announced b j) j).1]
  obtain ⟨hjob, hcount, hkept⟩ := s.accept?_accepts (s.announced b j) j
  have hgate : (t.reply c 0x0410 S_OK sel).gate = t.gate := t.reply_gate ..
  refine ⟨t.reply c 0x0410 S_OK sel, ?_, t.reply_answered c 0x0410 S_OK sel 0 none, ?_, (t.rd_reply c _ (by decide) _ _ _).trans hcount, fun
      h => ?_⟩
  · rw [exec_stepAnnounce hc hl hb hj hown hten hkind hen]
    dsimp only
    rw [hrow]
    rfl
  · have hstep' : (s.announced b j).step = j.nextStep := hstep
    rw [hstep'] at hjob
    exact (congrArg (fun m : Gate => (SMap.find? m.jobs (rdLe b 4 4)).map fun x : Job => (x.nextStep, x.rollback)) hgate).trans hjob
  · rw [hgate]
    exact hkept h

end

/-! ### Operands and waits (R351, R353, R356) -/

section
variable {s : State} {g : GStep}

/-- A step as it stands after a change of its own. -/
theorem State.setStep_steps (s : State) (g : GStep) : (s.setStep g).gate.steps = s.gate.steps.map (fun h => if h.is g then g else h) := rfl

/-- The steps for which a wait has run out, where there is one step and it has. -/
theorem State.expire_one {due : GStep → Bool} (hone : s.gate.steps = [g]) (hready : g.ready = none) (hdue : due g = true) :
    s.expire due = s.resolve g cUncheckable := by
  have hfind : s.gstep? g.job g.step g.attempt = some g := by
    unfold State.gstep?
    rw [hone]
    exact List.find?_cons_of_pos (by simp)
  unfold State.expire
  rw [hone, List.filter_cons_of_pos (by simp [hready, hdue]), List.filter_nil, List.foldl_cons, List.foldl_nil, hfind]

/-- A step that commits as UNCHECKED once every earlier one has. -/
def GStep.unchecked (g : GStep) : GStep := { g with ready := some cUnchecked, heldJobs := [] }

/-- A gated step that cannot be checked and may commit all the same waits for its turn as UNCHECKED. -/
theorem State.resolve_uncheckable (hgated : g.gated = true) (hcommit : g.onUnchecked = false) :
    s.resolve g cUncheckable =
      ((((s.bump BX_CMT_CNT2_UNCHECKED).cancelJobs g).setStep g.unchecked).feed) := by
  unfold State.resolve
  rw [if_pos rfl, if_neg (not_not.mpr hgated), if_neg (show ¬ cUncheckable = cChecked by decide), if_pos ⟨rfl, by simp [hcommit]⟩]
  rfl

theorem State.resolve_uncheckable_revokes (hgated : g.gated = true) (hrevoke : g.onUnchecked = true) :
    s.resolve g cUncheckable = (s.bump BX_CMT_CNT2_UNCHECKED).revoke g cUncheckable := by
  unfold State.resolve
  rw [if_pos rfl, if_neg (not_not.mpr hgated), if_neg (show ¬ cUncheckable = cChecked by decide), if_neg fun h => h.2 hrevoke]
  rfl

theorem operandWaitExpiry_resolves (hone : s.gate.steps = [g]) (hsel : g.selected = true) (hops : g.operands = none) (hready : g.ready = none)
    (hgated : g.gated = true) (hcommit : g.onUnchecked = false)
    (hlate : g.accepted + max 1 (s.rd BX_CMT_CTRL_OPERAND_WAIT_MS) * 1000000 ≤ s.bxNs) : Answers .operandWaitExpiry s (fun u =>
      u.gate.steps = [{ g with ready := some 2, heldJobs := [] }] ∧ s.counted u BX_CMT_CNT2_UNCHECKED 0 1) := by
  let v := s.bump BX_CMT_CNT2_UNCHECKED
  let w := (v.cancelJobs g).setStep g.unchecked
  have his : g.is g.unchecked = true := GStep.is_iff.mpr rfl
  have hsteps : w.gate.steps = [g.unchecked] := by
    dsimp only [w]
    rw [State.setStep_steps, State.cancelJobs_gate]
    change s.gate.steps.map _ = _
    rw [hone, List.map_cons, List.map_nil, if_pos his]
  have hcancel := v.cancelJobs_feeds g
  refine ⟨w.feed, ?_, ?_, ?_⟩
  · change done s.expireOperands = done _
    unfold State.expireOperands
    rw [State.expire_one hone hready (by simp [hsel, hops, hlate]), State.resolve_uncheckable hgated hcommit]
  · unfold State.feed
    rw [feedOne_gate (by simp [hsteps, GStep.unchecked])]
    exact hsteps
  · refine (w.feed_feeds.rd _ _).trans ((hcancel.rd BX_CMT_CNT2_UNCHECKED 0).trans ?_)
    exact s.counted_bump BX_CMT_CNT2_UNCHECKED 0 1

/-- A step revoked: its entry joins the ledger, and it is no longer provisional. -/
theorem State.revokeOne_revokes (s : State) (g : GStep) {cause : Nat} (hcause : cause ≠ cDependent) :
    (s.revokeOne g cause).gate.jobs = s.gate.jobs ∧
      (s.revokeOne g cause).gate.steps.map GStep.id3 = (s.gate.steps.filter (fun h => !h.is g)).map GStep.id3 ∧
      s.counted (s.revokeOne g cause) BX_CMT_CNT1_REVOKED 0 1 ∧
      RegsKept (.BX_CMT_LEDGER :: .BX_CMT_CNT4 :: .BX_CMT_CNT1 :: signalRegs) s (s.revokeOne g cause) := by
  let lc := (s.gjob? g.job).bind (·.lastCommitted)
  let l := s.ledger (s.stepRec g 2 cause)
  let u := l.2.2.stepEvent g.tenant (stepWords g 2 cause l.1 (packFields [(16, 48, lc.getD 0), (15, 1, b2n lc.isSome)]))
  have hu : Entered s u := (s.ledger_enters _).trans (.of_signals (State.stepEvent_signals _ _ _))
  have he : s.revokeOne g cause = (if cause = cDependent then u.bump BX_CMT_CNT1_DEPENDENT else u.bump BX_CMT_CNT1_REVOKED).endStep g := rfl
  rw [he, if_neg hcause]
  have hend := (u.bump BX_CMT_CNT1_REVOKED).endStep_ends g
  refine ⟨hend.jobs.trans hu.jobs, ?_, ?_, ?_⟩
  · rw [hend.ids]
    exact congrArg (fun l : List GStep => (l.filter (fun h => !h.is g)).map GStep.id3) hu.steps
  · exact (hend.rd _ _).trans (State.counted_of_before (hu.regs _ _ (by decide) (by decide)) (u.counted_bump BX_CMT_CNT1_REVOKED 0 1))
  · exact (RegsKept.wr (hu.regs.mono (by decide))).trans fun f i _ _ => hend.rd f i

theorem gateWaitExpiry_revokes {j : Job} (hone : s.gate.steps = [g]) (hj : s.gjob? g.job = some j) (hattempt : j.attempt < 255)
    (hready : g.ready = none) (hgated : g.gated = true) (hrevoke : g.onUnchecked = true)
    (hlate : g.accepted + max 1 (s.rd BX_CMT_CTRL_GATE_WAIT_MS) * 1000000 ≤ s.bxNs) : Answers .gateWaitExpiry s (fun u =>
      u.gate.steps = [] ∧ (u.gjob? g.job).map (fun x => (x.rollback, x.nextStep, x.attempt)) = some (true, g.step, j.attempt + 1) ∧
      s.counted u BX_CMT_CNT1_REVOKED 0 1 ∧ s.counted u BX_CMT_CNT2_UNCHECKED 0 1) := by
  let v := s.bump BX_CMT_CNT2_UNCHECKED
  obtain ⟨hjobs, hids, hrevoked, hregs⟩ := v.revokeOne_revokes g (cause := cUncheckable) (by decide)
  generalize hw : v.revokeOne g cUncheckable = w at hjobs hids hrevoked hregs
  let u := w.setJob g.job { j with rollback := true, nextStep := g.step, attempt := j.attempt + 1, after := g.afterRevoke }
  have hlater : (v.stepsOf g.job).filter (fun h => decide (g.step < h.step)) = [] := by
    unfold State.stepsOf
    change (sortBy _ (s.gate.steps.filter _)).filter _ = []
    rw [hone, List.filter_cons_of_pos (by simp), List.filter_nil]
    exact List.filter_cons_of_neg (by simp)
  have hsteps : w.gate.steps = [] := by
    refine List.map_eq_nil_iff.mp (hids.trans ?_)
    change (s.gate.steps.filter _).map _ = []
    rw [hone, List.filter_cons_of_neg (by simp [GStep.is_iff]), List.filter_nil, List.map_nil]
  have hwj : w.gjob? g.job = some j := (congrArg (fun m => SMap.find? m g.job) hjobs).trans hj
  refine ⟨u, ?_, hsteps, ?_, ?_, ?_⟩
  · change done (s.expire _) = done u
    rw [State.expire_one hone hready (by simp [hlate]), State.resolve_uncheckable_revokes hgated hrevoke]
    unfold State.revoke
    rw [hlater]
    dsimp only [List.foldl_nil]
    rw [show (s.bump BX_CMT_CNT2_UNCHECKED).revokeOne g cUncheckable = w from hw, hwj]
    dsimp only
    rw [if_neg (by omega)]
  · exact congrArg (Option.map _) (SMap.find?_set_same _ _ _)
  · exact State.counted_of_before (s.rd_bump_otherReg _ _ _) hrevoked
  · exact (hregs _ _ (by decide) (by decide)).trans (s.counted_bump BX_CMT_CNT2_UNCHECKED 0 1)

/-- Operands of a step that waits for them are held. -/
theorem stepOperands_holds {c : Cap} {j : Job} (hc : (c.isOp || c.isTenant) = true) (hl : 4 ≤ c.params.length)
    (hj : s.gjob? (c.p 0) = some j) (hown : c.ownsJob j = true) (hg : s.gstep? (c.p 0) (c.p 1) (c.p 2) = some g) (hsel : g.selected = true)
    (hready : g.ready = none) (hops : g.operands = none)
    (hnone : s.gate.steps.filter (fun x => x.ready.isNone && (x.selected && x.operands.isNone && decide
      (x.accepted + max 1 (s.rd BX_CMT_CTRL_OPERAND_WAIT_MS) * 1000000 ≤ s.bxNs))) = [])
    (hstore : (leWords (padTo 48 c.data)).getD 5 0 = 0) (haddr : (s.badAddress 0x81 j.tenant (leWords (padTo 48 c.data))).1 = none) :
    Answers (.stepOperands c) s (fun u => u.replied c 0x0411 S_OK [] ∧
      (u.gstep? (c.p 0) (c.p 1) (c.p 2)).bind (fun x => x.operands) = some (leWords (padTo 48 c.data))) := by
  let ops := leWords (padTo 48 c.data)
  rcases hbad : s.badAddress 0x81 j.tenant ops with ⟨b, t⟩
  have ht : Translates s t := by
    have h := State.badAddress_translates 0x81 j.tenant ops s
    rwa [hbad] at h
  obtain rfl : b = none := by rwa [hbad] at haddr
  let jobs := t.stepJobs g j.apd ops
  let g' : GStep := { g with ready := none, operands := some ops, heldJobs := jobs, njobs := jobs.length }
  let w := t.setStep g'
  obtain ⟨hid, hmem⟩ := State.gstep?_some hg
  have hfeed := w.feed_feeds
  refine ⟨w.feed.reply c 0x0411 S_OK, ?_, State.reply_replied .., ?_⟩
  · have hexpire : s.expireOperands = s := by
      unfold State.expireOperands State.expire
      dsimp only
      rw [hnone, List.foldl_nil]
    change execStepOperands c s = done _
    unfold execStepOperands
    rw [s.checked_of_allowed hc hl]
    dsimp only
    rw [hexpire, hj]
    dsimp only
    rw [if_neg (not_not.mpr hown), hg]
    dsimp only
    rw [hready, hops, if_neg (by simp), if_neg (by simp [hsel]), if_neg (not_not.mpr hstore), hbad]
  · have hkey : ∀ h ∈ w.gate.steps, h.id3 = g.id3 → h.operands = some ops := by
      intro h hh hsame
      obtain ⟨x, -, rfl⟩ := List.mem_map.mp hh
      split
      · rfl
      · next hnot =>
        rw [if_neg hnot] at hsame
        exact absurd (GStep.is_iff.mpr hsame) hnot
    have hin : g.id3 ∈ w.feed.gate.steps.map GStep.id3 := by
      rw [hfeed.ids]
      refine List.mem_map.mpr ⟨g', List.mem_map.mpr ⟨g, ?_, if_pos (GStep.is_iff.mpr rfl)⟩, rfl⟩
      rw [ht.gate]
      exact hmem
    obtain ⟨y, hy, hyid⟩ := List.mem_map.mp hin
    obtain ⟨z, hz⟩ := State.gstep?_isSome hy (hyid.trans hid)
    obtain ⟨hzid, hzmem⟩ := State.gstep?_some hz
    obtain ⟨x, hx, hxz⟩ := hfeed.steps z hzmem
    have hxid : x.id3 = g.id3 := (congrArg GStep.id3 hxz).symm.trans (hzid.trans hid.symm)
    have hzops : z.operands = some ops := (congrArg GStep.operands hxz :).trans (hkey x hx hxid)
    change ((w.feed.reply c 0x0411 S_OK).gate.steps.find? _).bind _ = _
    rw [State.reply_gate]
    change (w.feed.gstep? (c.p 0) (c.p 1) (c.p 2)).bind _ = _
    rw [hz]
    exact hzops

end

/-! ### Commits (R355) -/

theorem stepCommit_commits {s : State} {j cs : Nat} {g : GStep} {t : List GStep} (hfirst : s.stepsOf j = g :: t) (hready : g.ready = some cs)
    (hgated : g.gated = true) (hpos : 0 < s.rd BX_CMT_LEDGER_NEXT_SEQ g.tenant) (hlt : s.rd BX_CMT_LEDGER_NEXT_SEQ g.tenant < 2 ^ 40) :
    Answers (.stepCommit j) s (fun u =>
      u.gate.steps.map (fun h => (h.job, h.step, h.attempt)) = (s.gate.steps.filter (fun h => !h.is g)).map (fun h => (h.job, h.step,
          h.attempt)) ∧
      s.counted u BX_CMT_CNT0_COMMITTED 0 1 ∧ u.rd BX_CMT_LEDGER_NEXT_SEQ g.tenant = s.rd BX_CMT_LEDGER_NEXT_SEQ g.tenant + 1) := by
  have hcommit := s.commitStep_commits g cs
  have hend := (s.commitStep g cs).endStep_ends g
  refine ⟨(s.commitStep g cs).endStep g, ?_, ?_, (hend.rd _ _).trans hcommit.committed, (hend.rd _ _).trans (hcommit.nextSeq hpos hlt)⟩
  · change execStepCommit j s = done _
    unfold execStepCommit
    rw [hfirst]
    dsimp only
    rw [hready]
    dsimp only
    rw [if_pos hgated]
  · exact hend.ids.trans (congrArg (fun l : List GStep => (l.filter (fun h => !h.is g)).map GStep.id3) hcommit.steps)

theorem stepCommit_waits {s : State} {j : Nat} {g : GStep} {t : List GStep} (hfirst : s.stepsOf j = g :: t) (hready : g.ready = none) :
    Answers (.stepCommit j) s (fun u => u = s) := by
  refine ⟨s, ?_, rfl⟩
  change execStepCommit j s = done s
  unfold execStepCommit
  rw [hfirst]
  dsimp only
  rw [hready]

/-- Settles O36: beside the ledger, the events and the counts, an ended step leaves the job and the other steps as they are, but for the replay
jobs they hold back. -/
theorem stepsAreAnnouncedAndResolve : Obligations.StepsAreAnnouncedAndResolve :=
  ⟨fun _ _ _ _ hc hl hb hj hown hten hkind hen hinc hold hfence hstuck hattempt hstep hroom hpending =>
      stepAnnounce_accepts hc hl hb hj hown hten hkind hen hinc hold hfence hstuck hattempt hstep hroom hpending,
    fun _ _ _ _ hc hl hb hj hown hten hkind hen hinc hold hfence hstuck hattempt hstep =>
      stepAnnounce_duplicate hc hl hb hj hown hten hkind hen hinc hold hfence hstuck hattempt hstep,
    fun _ _ _ _ hc hl hj hown hg hsel hready hops hnone hstore haddr =>
      stepOperands_holds hc hl hj hown hg hsel hready hops hnone hstore haddr,
    fun _ _ hone hsel hops hready hgated hcommit hlate => operandWaitExpiry_resolves hone hsel hops hready hgated hcommit hlate,
    fun _ _ _ hone hj hattempt hready hgated hrevoke hlate => gateWaitExpiry_revokes hone hj hattempt hready hgated hrevoke hlate,
    fun _ _ _ _ _ hfirst hready hgated hpos hlt => stepCommit_commits hfirst hready hgated hpos hlt,
    fun _ _ _ _ hfirst hready => stepCommit_waits hfirst hready⟩

end Sys2Proof.Machine
end

section
/-! SUPPORT. Jobs, placements, policies and ledgers of the commit gate (R344 to R365, Table 12-12). -/

namespace Sys2Proof.Machine
open Sys2Proof

/-! ### Policies (Table 12-13) -/

/-- The fields of a tenant's policy lie apart in one register. -/
theorem policyFields_apart : policyFields.Pairwise (fun f g => f.lo ≠ g.lo) ∧ ∀ f ∈ policyFields, f.lo < 64 ∧ f.reg = .BX_CMT_TEN_POLICY := by
  decide

/-- What a policy field stores of a value in its range fits it. -/
theorem policyStore_lt {f : Fld} (hf : f ∈ policyFields) {v : Nat} (hv : v ≤ f.max) : policyStore f v < 2 ^ f.width := by
  have hle : policyStore f v ≤ f.max := by
    unfold policyStore
    split
    · exact le_trans (Nat.min_le_left _ _) hv
    · split
      · next h =>
        subst h
        have : BX_CMT_TEN_POLICY_LEDGER_LOG2.max = 31 := rfl
        omega
      · exact hv
  have hpos := Nat.two_pow_pos f.width
  unfold Fld.max at hle
  omega

/-- Values written one after another to fields that lie apart each stay. -/
theorem State.rd_foldl_policy {fs : List (Fld × Nat)} (t : Nat) (hapart : (fs.map Prod.fst).Pairwise (fun f g => f.lo ≠ g.lo))
    (hlo : ∀ x ∈ fs, x.1.lo < 64) {x : Fld × Nat} (hx : x ∈ fs) (s : State) :
    (fs.foldl (fun s x => s.wr x.1 t (policyStore x.1 x.2)) s).rd x.1 t = policyStore x.1 x.2 % 2 ^ x.1.width := by
  induction fs generalizing s with
  | nil => cases hx
  | cons y fs ih =>
    rw [List.map_cons, List.pairwise_cons] at hapart
    obtain ⟨hy, hrest⟩ := List.forall_mem_cons.mp hlo
    rw [List.foldl_cons]
    rcases List.mem_cons.mp hx with rfl | hx
    · refine (List.foldlRecOn (motive := fun u : State => u.rd x.1 t = (s.wr x.1 t (policyStore x.1 x.2)).rd x.1 t) fs _ rfl
        fun u hu z hz => (u.rd_wr_otherLo _ (hrest z hz) hy ?_).trans hu).trans (s.rd_wr_same ..)
      exact hapart.1 z.1 (List.mem_map_of_mem hz)
    · exact ih hapart.2 hrest hx _

section
variable {s : State} {c : Cap}

theorem Cap.isOpOrTenant_of_isOp (hc : c.isOp = true) : (c.isOp || c.isTenant) = true := by rw [hc]; rfl

theorem Cap.isOpOrTenant_of_isTenant (hc : c.isTenant = true) : (c.isOp || c.isTenant) = true := by rw [hc, Bool.or_true]

theorem commitPolicySet_stores (hc : c.isOp = true) (hl : 9 ≤ c.params.length) (ht : c.p 0 ≤ 63)
    (hrange : (policyFields.zip (c.params.drop 1)).any (fun x => decide (x.1.max < x.2)) = false)
    (hsample : s.rd BX_CMT_SUSPECT_MIN_SAMPLE_PPM ≤ c.p 6) : Answers (.commitPolicySet c) s (fun u =>
      u.replied c 0x0414 S_OK [] ∧ ∀ x ∈ policyFields.zip (c.params.drop 1), u.rd x.1 (c.p 0) = policyStore x.1 x.2) := by
  let fs := policyFields.zip (c.params.drop 1)
  let t := fs.foldl (fun s x => s.wr x.1 (c.p 0) (policyStore x.1 x.2)) s
  have hfst : fs.map Prod.fst = policyFields := by
    refine List.map_fst_zip ?_
    rw [List.length_drop]
    change 8 ≤ _
    omega
  obtain ⟨hapart, hfields⟩ := policyFields_apart
  have hmem (x : Fld × Nat) (hx : x ∈ fs) : x.1 ∈ policyFields := hfst ▸ List.mem_map_of_mem hx
  refine ⟨t.reply c 0x0414 S_OK, ?_, t.reply_replied .., fun x hx => ?_⟩
  · change execCommitPolicySet c s = done _
    unfold execCommitPolicySet
    rw [s.checked_of_allowed (Cap.isOpOrTenant_of_isOp hc) hl]
    dsimp only
    rw [hc, Bool.not_true, Bool.false_and, if_neg Bool.false_ne_true, hrange, if_neg (by simp; omega)]
  · have hv : x.2 ≤ x.1.max := by
      have := List.any_eq_false.mp hrange x hx
      simpa using this
    rw [t.rd_reply c _ (by decide), State.rd_foldl_policy _ (hfst ▸ hapart) (fun y hy => (hfields _ (hmem y hy)).1) hx,
      Nat.mod_eq_of_lt (policyStore_lt (hmem x hx) hv)]

/-! ### Jobs and placements (R344, R362) -/

section
variable {d : Nat} (hc : c.isOp = true) (hl : 7 ≤ c.params.length) (hd : s.localDie? (c.p 2) = some d) (hself : d ≠ 64) (h0 : c.p 0 < 2 ^ 32)
  (h1 : c.p 1 ≤ 63) (h3 : c.p 3 ≤ 1023) (hinc : c.p 4 ≠ 0) (h4 : c.p 4 ≤ 65535) (hapd : (s.rpl.apds.find? (c.p 5)).isSome = true)
  (h6 : c.p 6 < 2 ^ 48)
include hc hl hd hself h0 h1 h3 hinc h4 hapd h6

/-- A JOB_OPEN with operands in range and a loaded APD. -/
theorem exec_jobOpen_inRange : exec (.jobOpen c) s = done
    (if (s.gjob? (c.p 0)).isSome then s.reply c 0x0412 S_CONFLICT
    else if 4096 ≤ s.gate.jobs.length then s.reply c 0x0412 S_BUSY
    else (s.setJob (c.p 0) {
      tenant := c.p 1, die := d, unit := c.p 3, apd := c.p 5, gated := !s.flag BX_CMT_TEN_POLICY_SC (c.p 1) && s.flag BX_CMT_TEN_POLICY_GATE
          (c.p 1)
      sc := s.flag BX_CMT_TEN_POLICY_SC (c.p 1), nextStep := c.p 6, curInc := c.p 4 }).reply c 0x0412 S_OK) := by
  have hin : (s.rpl.apds.find? (c.p 5)).isNone = false := by
    rw [← Option.not_isSome, hapd]
    rfl
  change execJobOpen c s = _
  unfold execJobOpen
  rw [s.checked_of_allowed hc hl]
  dsimp only
  rw [hd]
  dsimp only
  rw [hin, if_neg (by simp; omega)]

theorem jobOpen_opens (hnew : s.gjob? (c.p 0) = none) (hroom : s.gate.jobs.length < 4096) : Answers (.jobOpen c) s (fun u =>
    u.replied c 0x0412 S_OK [] ∧
    (u.gjob? (c.p 0)).map (fun x => (x.tenant, x.die, x.unit, x.curInc, x.apd, x.nextStep)) = some (c.p 1, d, c.p 3, c.p 4, c.p 5, c.p 6) ∧
    (u.gjob? (c.p 0)).map (fun x => x.gated) = some (!s.flag BX_CMT_TEN_POLICY_SC (c.p 1) && s.flag BX_CMT_TEN_POLICY_GATE (c.p 1))) := by
  have he := exec_jobOpen_inRange hc hl hd hself h0 h1 h3 hinc h4 hapd h6
  rw [hnew, if_neg (by decide), if_neg (Nat.not_le.mpr hroom)] at he
  refine ⟨_, he, State.reply_replied .., ?_, ?_⟩
  · exact congrArg (Option.map _) (SMap.find?_set_same _ _ _)
  · exact congrArg (Option.map _) (SMap.find?_set_same _ _ _)

theorem jobOpen_conflicts (hopen : (s.gjob? (c.p 0)).isSome = true) : Answers (.jobOpen c) s (fun u =>
    u.replied c 0x0412 S_CONFLICT [] ∧ s.onlyReply u) := by
  refine answers_reply (by decide) ?_
  rw [exec_jobOpen_inRange hc hl hd hself h0 h1 h3 hinc h4 hapd h6, if_pos hopen]

end

theorem placementMigrate_moves {d : Nat} {j : Job} (hc : c.isOp = true) (hl : 5 ≤ c.params.length) (hj : s.gjob? (c.p 0) = some j)
    (hd : s.localDie? (c.p 1) = some d) (hself : d ≠ 64) (h2 : c.p 2 ≤ 1023) (h3 : c.p 3 ≤ 65535)
    (hlead : s.bxEpoch + max 2 (s.rd BX_CMT_CTRL_MIG_LEAD) ≤ c.p 4) (hinc : c.p 3 ≠ 0) (hnew : c.p 3 ≠ j.curInc) (hold : j.old = none) :
    Answers (.placementMigrate c) s (fun u => u.replied c 0x0413 S_OK [] ∧
      (u.gjob? (c.p 0)).map (fun x => (x.old, x.oldDie, x.oldUnit, x.curInc, x.die, x.unit)) =
        some (some (j.curInc, c.p 4), j.die, j.unit, c.p 3, d, c.p 2)) := by
  let t := s.setJob (c.p 0) { j with
    old := some (j.curInc, c.p 4), oldDie := j.die, oldUnit := j.unit, curInc := c.p 3, die := d, unit := c.p 2 }
  let r : LedgerRec := {
    kind := 5, tenant := j.tenant, job := c.p 0, attempt := j.attempt, slot := j.apd, inc := c.p 3, step := c.p 4, addr := t.dieAddr d
    unit := c.p 2 }
  have hjob : (t.ledger r).2.2.gjob? (c.p 0) = t.gjob? (c.p 0) := congrArg (fun m => SMap.find? m (c.p 0)) (t.ledger_enters r).jobs
  refine ⟨(t.ledger r).2.2.reply c 0x0413 S_OK, ?_, State.reply_replied .., ?_⟩
  · change execPlacementMigrate c s = done _
    unfold execPlacementMigrate
    rw [s.checked_of_allowed hc hl]
    dsimp only
    rw [hj, hd]
    dsimp only
    rw [hold, if_neg (by omega), if_neg (by omega), if_neg (by simp [hinc, hnew])]
  · change (((t.ledger r).2.2.reply c 0x0413 S_OK).gate.jobs.find? (c.p 0)).map _ = _
    rw [State.reply_gate]
    change ((t.ledger r).2.2.gjob? (c.p 0)).map _ = _
    rw [hjob]
    exact congrArg (Option.map _) (SMap.find?_set_same _ _ _)

section
variable {j : Job} (hc : (c.isOp || c.isTenant) = true) (hj : s.gjob? (c.p 0) = some j) (hown : c.ownsJob j = true)
include hc hj hown

theorem commitStatus_reads (hl : 1 ≤ c.params.length) : Answers (.commitStatus c) s (fun u =>
    u.replied c 0x0415 S_OK [j.nextStep, j.attempt, j.lastCommitted.getD 0, (s.stepsOf (c.p 0)).length,
      if j.stuck then 2 else if j.rollback then 1 else 0] ∧ s.onlyReply u) := by
  refine answers_reply (by decide) ?_
  change execCommitStatus c s = _
  unfold execCommitStatus
  rw [s.checked_of_allowed hc hl, hj]
  dsimp only
  rw [if_neg (not_not.mpr hown)]

variable (hl : 2 ≤ c.params.length)
include hl

theorem jobClose_closes (hnone : s.stepsOf (c.p 0) = []) : Answers (.jobClose c) s (fun u =>
    u.replied c 0x0418 S_OK [] ∧ u.gate.jobs = s.gate.jobs.erase (c.p 0) ∧ u.gate.steps = s.gate.steps) := by
  let t := s.setGate { s.gate with jobs := s.gate.jobs.erase (c.p 0) }
  have hgate : (t.reply c 0x0418 S_OK).gate = t.gate := t.reply_gate ..
  refine ⟨t.reply c 0x0418 S_OK, ?_, t.reply_replied .., (congrArg Gate.jobs hgate :), (congrArg Gate.steps hgate :)⟩
  change execJobClose c s = done _
  unfold execJobClose
  rw [s.checked_of_allowed hc hl, hj]
  dsimp only
  rw [if_neg (not_not.mpr hown), hnone, if_neg fun h => h.1 rfl]
  rfl

theorem jobClose_busy (hsome : s.stepsOf (c.p 0) ≠ []) (hforce : bitAt (c.p 1) 0 = false) : Answers (.jobClose c) s (fun u =>
    u.replied c 0x0418 S_BUSY [] ∧ s.onlyReply u) := by
  refine answers_reply (by decide) ?_
  change execJobClose c s = _
  unfold execJobClose
  rw [s.checked_of_allowed hc hl, hj]
  dsimp only
  rw [if_neg (not_not.mpr hown), if_pos ⟨hsome, by simp [hforce]⟩]

end

/-! ### Ledgers (R364, R365) -/

theorem ledgerRead_otherTenant (hc : c.isTenant = true) (hl : 4 ≤ c.params.length) (hother : c.p 0 ≠ c.tenant) :
    Answers (.ledgerRead c) s (fun u => u.replied c 0x0416 S_DENIED [] ∧ u.hbm = s.hbm) := by
  refine ⟨s.reply c 0x0416 S_DENIED, ?_, s.reply_replied .., s.reply_hbm ..⟩
  change execLedgerRead c s = done _
  unfold execLedgerRead
  rw [s.checked_of_allowed (Cap.isOpOrTenant_of_isTenant hc) hl]
  dsimp only
  rw [if_pos ⟨by simp [Cap.isOp_of_isTenant hc], hother⟩]

theorem ledgerRead_reads {n : Nat} (hc : c.isOp = true) (hl : 4 ≤ c.params.length) (ht : c.p 0 ≤ 63)
    (hn : min (c.p 2) (s.rd BX_CMT_LEDGER_NEXT_SEQ (c.p 0) - min (s.rd BX_CMT_LEDGER_NEXT_SEQ (c.p 0)) (c.p 1)) = n)
    (hgood : ((List.range n).map (fun i => c.p 1 + i)).any (fun q => s.entryGone (c.p 0) q || s.entryBad (c.p 0) q) = false) :
    Answers (.ledgerRead c) s (fun u => u.replied c 0x0416 S_OK [n] ∧
      u.wdn.replies.getLast?.bind (fun r => r.hostWrite) =
        some (c.p 3, ((List.range n).map (fun i => c.p 1 + i)).flatMap (s.entryBytes (c.p 0))) ∧ s.onlyReply u) := by
  let seqs := (List.range n).map (fun i => c.p 1 + i)
  have hfind : seqs.find? (fun q => s.entryGone (c.p 0) q || s.entryBad (c.p 0) q) = none :=
    List.find?_eq_none.mpr (List.any_eq_false.mp hgood)
  have hheld : ¬ (0 < n ∧ seqs.all (s.entryGone (c.p 0)) = true) := by
    rintro ⟨hpos, hall⟩
    have hfirst : c.p 1 + 0 ∈ seqs := List.mem_map_of_mem (List.mem_range.mpr hpos)
    exact List.any_eq_false.mp hgood _ hfirst (by rw [List.all_eq_true.mp hall _ hfirst]; rfl)
  refine ⟨_, ?_, s.reply_replied c 0x0416 S_OK [n] 0 (some (c.p 3, seqs.flatMap (s.entryBytes (c.p 0)))), s.reply_hostWrite ..,
    s.reply_onlyReply c _ (by decide) ..⟩
  change execLedgerRead c s = done _
  unfold execLedgerRead
  rw [s.checked_of_allowed (Cap.isOpOrTenant_of_isOp hc) hl]
  dsimp only
  rw [hn, if_neg (by simp [hc]), if_neg (by omega), if_neg hheld, hfind]

theorem ledgerHead_reads (hc : c.isOp = true) (hl : 1 ≤ c.params.length) (ht : c.p 0 ≤ 63) : Answers (.ledgerHead c) s (fun u =>
    u.replied c 0x0417 S_OK (s.rd BX_CMT_LEDGER_NEXT_SEQ (c.p 0) :: digestWords (s.gate.chains.getD (c.p 0) (zeroBytes 32))) ∧
    s.onlyReply u) := by
  refine answers_reply (by decide) ?_
  change execLedgerHead c s = _
  unfold execLedgerHead
  rw [s.checked_of_allowed (Cap.isOpOrTenant_of_isOp hc) hl]
  dsimp only
  rw [if_neg (by simp [hc]), if_neg (by omega)]

end

/-- Settles O37: a policy's values fit their fields, which lie apart, and an entry of the ledger leaves the jobs alone. -/
theorem gateJobsPoliciesAndLedgers : Obligations.GateJobsPoliciesAndLedgers :=
  ⟨fun _ _ _ hc hl hd hself h0 h1 h3 hinc h4 hapd h6 hnew hroom => jobOpen_opens hc hl hd hself h0 h1 h3 hinc h4 hapd h6 hnew hroom,
    fun _ _ _ hc hl hd hself h0 h1 h3 hinc h4 hapd h6 hopen => jobOpen_conflicts hc hl hd hself h0 h1 h3 hinc h4 hapd h6 hopen,
    fun _ _ _ _ hc hl hj hd hself h2 h3 hlead hinc hnew hold => placementMigrate_moves hc hl hj hd hself h2 h3 hlead hinc hnew hold,
    fun _ _ hc hl ht hrange hsample => commitPolicySet_stores hc hl ht hrange hsample,
    fun _ _ _ hc hl hj hown => commitStatus_reads hc hj hown hl,
    fun _ _ hc hl hother => ledgerRead_otherTenant hc hl hother,
    fun _ _ _ hc hl ht hn hgood => ledgerRead_reads hc hl ht hn hgood,
    fun _ _ hc hl ht => ledgerHead_reads hc hl ht,
    fun _ _ _ hc hl hj hown hnone => jobClose_closes hc hj hown hl hnone,
    fun _ _ _ hc hl hj hown hsome hforce => jobClose_busy hc hj hown hl hsome hforce⟩

end Sys2Proof.Machine
end

section
/-! SUPPORT. Life-cycle transitions: Table 18-10 as the model has it, and how LC_TRANSITION judges a capsule (R507, R529, R530). -/

namespace Sys2Proof.Machine
open Sys2Proof

/-- Table 18-10: the state, the target and the COMMAND of every transition permitted. -/
def lcRows : List (Nat × Nat × Nat) :=
  [(0, 1, 0x0010), (1, 2, 0x0011), (2, 1, 0x0012), (1, 3, 0x0013), (2, 3, 0x0013), (3, 0, 0x0014), (0, 4, 0x0015), (1, 4, 0x0015),
    (2, 4, 0x0015), (3, 4, 0x0015), (2, 2, 0x0016)]

/-- No row of the table has a target over 4. -/
theorem lcCommand_eq_none_of_lt {old new : Nat} (hold : old ≤ 4) (hnew : 4 < new) : lcCommand old new = none := by
  unfold lcCommand
  rw [if_neg (show ¬ new = 4 by omega)]
  split
  · rfl
  · split
    case h_8 => rfl
    all_goals omega

theorem lcCommand_eq_some_iff {old new cmd : Nat} (hold : old ≤ 4) : lcCommand old new = some cmd ↔ (old, new, cmd) ∈ lcRows := by
  by_cases hnew : new ≤ 4
  · have hfin : ∀ o ≤ 4, ∀ n ≤ 4, ∀ x ∈ lcRows, (x.1 = o ∧ x.2.1 = n) → lcCommand o n = some x.2.2 := by decide
    have hrow : ∀ o ≤ 4, ∀ n ≤ 4, ∀ k ∈ lcCommand o n, (o, n, k) ∈ lcRows := by decide
    exact ⟨fun h => hrow old hold new hnew cmd h, fun h => hfin old hold new hnew _ h ⟨rfl, rfl⟩⟩
  · rw [lcCommand_eq_none_of_lt hold (Nat.lt_of_not_le hnew)]
    have hle : ∀ x ∈ lcRows, x.2.1 ≤ 4 := by decide
    exact ⟨fun h => (Option.some_ne_none _ h.symm).elim, fun h => (hnew (hle (old, new, cmd) h)).elim⟩

theorem Cap.isMctp_of_isOpPcie {c : Cap} (hc : c.isOpPcie = true) : c.isMctp = false := by
  have hpath : c.path = 0 := (of_decide_eq_true hc : c.tenant = 0 ∧ c.path = 0).2
  unfold Cap.isMctp
  rw [hpath]
  rfl

/-- The block LC_TRANSITION reads: through the DMA pointer over PCIe, from the parameter block over MCTP. -/
def Cap.lcBlock (c : Cap) (blk : Bytes) : Prop := c.isOpPcie = true ∧ blk = c.data ∨ c.isMctp = true ∧ c.p 1 = 0 ∧ blk = wordBytes
    (c.params.drop 2)

/-- What LC_TRANSITION answers of a target permitted under a COMMAND, once the block is read. -/
def State.lcJudge (s : State) (c : Cap) (cmd : Nat) (blk : Bytes) : State :=
  let (ok, s) := s.authorized cmd blk
  let key := sliceBytes blk 128 64
  let keyOk : Bool := cmd ≠ 0x0010 || sliceBytes blk 32 8 = (sha256 key).take 8
  if ¬ ok ∨ ¬ keyOk then s.reply c 0x0A02 S_DENIED
  else if cmd = 0x0016 then
    match s.localDie? (rdLe blk 32 8) with
    | none => s.reply c 0x0A02 S_BADPARAM
    | some p => (s.zxInternal p 0x0A10 [3]).reply c 0x0A02 S_OK
  else s.lcBegin c (c.p 0) (if cmd = 0x0010 then beNat key else if c.p 0 = 3 then 0 else s.tap.opKey)

section
variable {s : State} {c : Cap} {blk : Bytes}

theorem exec_lcTransition_none (hc : (c.isOpPcie || c.isMctp) = true) (hl : 2 ≤ c.params.length)
    (hcmd : lcCommand (s.rd BX_LC_STS_STATE) (c.p 0) = none) : exec (.lcTransition c) s = done (s.reply c 0x0A02 S_BADPARAM) := by
  change execLcTransition c s = _
  unfold execLcTransition
  rw [s.checked_of_allowed hc hl]
  dsimp only
  rw [hcmd]

theorem exec_lcTransition_judges {cmd : Nat} (hc : c.lcBlock blk) (hl : 2 ≤ c.params.length) (hrun : s.flag BX_LC_STS_TRANSITIONING = false)
    (hcmd : lcCommand (s.rd BX_LC_STS_STATE) (c.p 0) = some cmd) : exec (.lcTransition c) s = done (s.lcJudge c cmd blk) := by
  have hallowed : (c.isOpPcie || c.isMctp) = true := by
    rcases hc with ⟨hop, -⟩ | ⟨hm, -⟩
    · rw [hop, Bool.true_or]
    · rw [hm, Bool.or_true]
  have hblk : (if c.isMctp then wordBytes (c.params.drop 2) else c.data) = blk := by
    rcases hc with ⟨hop, rfl⟩ | ⟨hm, -, rfl⟩
    · rw [Cap.isMctp_of_isOpPcie hop, if_neg Bool.false_ne_true]
    · rw [hm, if_pos rfl]
  have hptr : ¬ (c.isMctp = true ∧ c.p 1 ≠ 0) := by
    rcases hc with ⟨hop, -⟩ | ⟨-, hp, -⟩
    · rw [Cap.isMctp_of_isOpPcie hop]
      exact fun h => Bool.false_ne_true h.1
    · exact fun h => h.2 hp
  change execLcTransition c s = _
  unfold execLcTransition
  rw [s.checked_of_allowed hallowed hl]
  dsimp only
  rw [hcmd, hblk]
  dsimp only
  rw [if_neg hptr, hrun, if_neg Bool.false_ne_true]
  rfl

/-- A block that R507 does not accept is denied. -/
theorem State.lcJudge_denied {cmd : Nat} (hok : (s.authorized cmd blk).1 = false) :
    s.lcJudge c cmd blk = (s.wr BX_HW_AUTH_NONCE 0 (s.rd BX_HW_AUTH_NONCE + 1)).reply c 0x0A02 S_DENIED := by
  unfold State.lcJudge
  rw [show s.authorized cmd blk = (false, s.wr BX_HW_AUTH_NONCE 0 (s.rd BX_HW_AUTH_NONCE + 1)) from Prod.ext hok rfl]
  dsimp only
  rw [if_pos (Or.inl Bool.false_ne_true)]

/-- A block that R507 accepts begins the transition; PROVISION needs the key its ARG names. -/
theorem State.lcJudge_begins {cmd : Nat} (hok : (s.authorized cmd blk).1 = true) (hret : cmd ≠ 0x0016)
    (hkey : cmd = 0x0010 → sliceBytes blk 32 8 = (sha256 (sliceBytes blk 128 64)).take 8) :
    ∃ key, s.lcJudge c cmd blk = (s.wr BX_HW_AUTH_NONCE 0 (s.rd BX_HW_AUTH_NONCE + 1)).lcBegin c (c.p 0) key := by
  have hkeyOk : (decide (cmd ≠ 0x0010) || decide (sliceBytes blk 32 8 = (sha256 (sliceBytes blk 128 64)).take 8)) = true := by
    by_cases h : cmd = 0x0010
    · rw [decide_eq_true (hkey h), Bool.or_true]
    · rw [decide_eq_true h, Bool.true_or]
  refine ⟨if cmd = 0x0010 then beNat (sliceBytes blk 128 64) else if c.p 0 = 3 then 0 else s.tap.opKey, ?_⟩
  unfold State.lcJudge
  rw [show s.authorized cmd blk = (true, s.wr BX_HW_AUTH_NONCE 0 (s.rd BX_HW_AUTH_NONCE + 1)) from Prod.ext hok rfl]
  dsimp only
  rw [hkeyOk, if_neg (by decide), if_neg hret]
  rfl

/-- An accepted ZX40_RETURN of a local die goes to it and is answered. -/
theorem State.lcJudge_returns (hok : (s.authorized 0x0016 blk).1 = true) {p : Nat} (hp : s.localDie? (rdLe blk 32 8) = some p) :
    s.lcJudge c 0x0016 blk = ((s.wr BX_HW_AUTH_NONCE 0 (s.rd BX_HW_AUTH_NONCE + 1)).zxInternal p 0x0A10 [3]).reply c 0x0A02 S_OK := by
  have hp' : (s.wr BX_HW_AUTH_NONCE 0 (s.rd BX_HW_AUTH_NONCE + 1)).localDie? (rdLe blk 32 8) = some p := by
    rw [← hp]
    unfold State.localDie? State.agg
    rw [State.rd_wr_otherReg _ _ (by decide) (by decide) (by decide)]
  unfold State.lcJudge
  rw [show s.authorized 0x0016 blk = (true, s.wr BX_HW_AUTH_NONCE 0 (s.rd BX_HW_AUTH_NONCE + 1)) from Prod.ext hok rfl]
  dsimp only
  rw [decide_eq_true (show 0x0016 ≠ 0x0010 by decide), Bool.true_or, if_neg (by decide), if_pos rfl, hp']

/-- The transition begun: its target is held, TRANSITIONING reads 1. -/
theorem State.lcBegin_lcNext (s : State) (c : Cap) (new key : Nat) : (s.lcBegin c new key).up.lcNext = some (new, key) := rfl

theorem State.lcBegin_transitioning (s : State) (c : Cap) (new key : Nat) : (s.lcBegin c new key).rd BX_LC_STS_TRANSITIONING = 1 := by
  unfold State.lcBegin
  exact (State.rd_setUp ..).trans (State.rd_wr_same _ BX_LC_STS_TRANSITIONING 0 1)

end

/-- Settles O59: the rows of Table 18-10 are those of lcCommand, and each answer is that of lcJudge. -/
theorem lifeCycleTransitionsAreThoseOfTheTable : Obligations.LifeCycleTransitionsAreThoseOfTheTable := by
  intro s c blk hstate hc hl hrun
  refine ⟨fun hnone => ?_, fun cmd hrow => ?_⟩
  · have hcmd : lcCommand (s.rd BX_LC_STS_STATE) (c.p 0) = none :=
      Option.eq_none_iff_forall_not_mem.mpr fun cmd h => hnone cmd ((lcCommand_eq_some_iff hstate).mp h)
    have hallowed : (c.isOpPcie || c.isMctp) = true := by
      rcases hc with ⟨hop, -⟩ | ⟨hm, -⟩
      · rw [hop, Bool.true_or]
      · rw [hm, Bool.or_true]
    exact ⟨_, exec_lcTransition_none hallowed hl hcmd, State.reply_replied .., rfl⟩
  · have he := exec_lcTransition_judges hc hl hrun ((lcCommand_eq_some_iff hstate).mpr hrow)
    refine ⟨fun hcommand => ?_, fun hok hret hkey => ?_, fun hok hret hdie => ?_⟩
    · have hok : (s.authorized cmd blk).1 = false := by
        unfold State.authorized
        rw [decide_eq_false hcommand]
        simp
      rw [State.lcJudge_denied hok] at he
      refine ⟨_, he, State.reply_replied .., ?_, rfl⟩
      rw [(Replies.refl _).reply.regs _ _ (by decide) (by decide), State.rd_wr_otherReg _ _ (by decide) (by decide) (by decide)]
    · obtain ⟨key, hbegin⟩ := State.lcJudge_begins (c := c) hok hret hkey
      rw [hbegin] at he
      exact ⟨_, he, congrArg (Option.map _) (State.lcBegin_lcNext ..), State.lcBegin_transitioning ..⟩
    · obtain ⟨p, hp⟩ := Option.isSome_iff_exists.mp hdie
      subst hret
      rw [State.lcJudge_returns hok hp] at he
      refine ⟨_, he, State.reply_replied .., ?_⟩
      exact (congrArg (fun u : State => u.up) (Sends.refl (s.wr BX_HW_AUTH_NONCE 0 (s.rd BX_HW_AUTH_NONCE + 1))).zxInternal.rest :)

end Sys2Proof.Machine
end

section
/-! SUPPORT. Replay jobs: translations that succeed, the operands of a bank, the end of a job and what the commit gate makes of it (R311 to
R317, R352 to R356). -/

namespace Sys2Proof.Machine
open Sys2Proof

/-! ### Addresses that translate (R423) -/

/-- Between s before and t after, addresses have been translated and none failed: at most the TLB and its counter have changed. -/
structure Caches (s t : State) : Prop where
  rest : { t with regs := s.regs, hbm := s.hbm } = s
  hbm : { t.hbm with tlb := s.hbm.tlb } = s.hbm
  regs : RegsKept [.BX_XLT_CNT] s t

namespace Caches
variable {s t u : State}

theorem refl (s : State) : Caches s s := ⟨rfl, rfl, .refl _ s⟩

theorem trans (h : Caches s t) (h' : Caches t u) : Caches s u := by
  refine ⟨?_, ?_, h.regs.trans h'.regs⟩
  · exact (congrArg (fun v : State => { v with regs := s.regs, hbm := s.hbm }) h'.rest :).trans h.rest
  · exact (congrArg (fun v : Hbm => { v with tlb := s.hbm.tlb }) h'.hbm :).trans h.hbm

theorem setTlb (h : Caches s t) (l : List TlbEntry) : Caches s (t.setHbm { t.hbm with tlb := l }) := ⟨h.rest, h.hbm, h.regs⟩

theorem rpl (h : Caches s t) : t.rpl = s.rpl := (congrArg State.rpl h.rest :)
theorem wdn (h : Caches s t) : t.wdn = s.wdn := (congrArg State.wdn h.rest :)

theorem rd (h : Caches s t) {f : Fld} {i : Nat} (hlo : f.lo < 64 := by decide) (hf : f.reg ∉ [Reg.BX_XLT_CNT] := by decide) :
    t.rd f i = s.rd f i := h.regs f i hlo hf

theorem readPieces (h : Caches s t) (ps : List (Nat × Nat)) : t.readPieces ps = s.readPieces ps := by
  have hcells : t.hbm.cells = s.hbm.cells := (congrArg Hbm.cells h.hbm :)
  have hpoison : t.hbm.poison = s.hbm.poison := (congrArg Hbm.poison h.hbm :)
  unfold State.readPieces State.hbmRead State.hbmPoisoned
  rw [hcells, hpoison]

end Caches

section
variable {α β γ : Type}

/-- A step of a course of translations: it goes on only where all before it succeeded, changes only the TLB and its counter where it succeeds,
and does not look at the replay engine. -/
def Smooth (step : Except Nat β × State → α → Except Nat β × State) : Prop :=
  ∀ a x b, (step a x).1 = .ok b → (∃ b0, a.1 = .ok b0) ∧ Caches a.2 (step a x).2 ∧
    ∀ r, step (a.1, a.2.setRpl r) x = ((step a x).1, (step a x).2.setRpl r)

theorem Smooth.foldl {step : Except Nat β × State → α → Except Nat β × State} (h : Smooth step) (l : List α) (a : Except Nat β × State) (b : β)
    (hok : (l.foldl step a).1 = .ok b) : (∃ b0, a.1 = .ok b0) ∧ Caches a.2 (l.foldl step a).2 ∧
      ∀ r, l.foldl step (a.1, a.2.setRpl r) = ((l.foldl step a).1, (l.foldl step a).2.setRpl r) := by
  induction l generalizing a with
  | nil => exact ⟨⟨b, hok⟩, .refl _, fun _ => rfl⟩
  | cons x l ih =>
    obtain ⟨⟨b0, hb0⟩, hrest, hsame⟩ := ih (step a x) hok
    obtain ⟨hpre, hone, honeSame⟩ := h a x b0 hb0
    refine ⟨hpre, hone.trans hrest, fun r => ?_⟩
    rw [List.foldl_cons, List.foldl_cons, honeSame r, hsame r]

/-- A course whose steps each collect what one translation gives. -/
theorem Smooth.of_collect {step : Except Nat β × State → α → Except Nat β × State} (tr : State → α → Except Nat γ × State) (put : β → α → γ → β)
    (hstop : ∀ c s x, (step (.error c, s) x).1 = .error c) (hfail : ∀ l s x c, (tr s x).1 = .error c → (step (.ok l, s) x).1 = .error c)
    (hgo : ∀ l s x c, (tr s x).1 = .ok c → step (.ok l, s) x = (.ok (put l x c), (tr s x).2))
    (htr : ∀ s x c, (tr s x).1 = .ok c → Caches s (tr s x).2 ∧ ∀ r, tr (s.setRpl r) x = ((tr s x).1, (tr s x).2.setRpl r)) : Smooth step := by
  rintro ⟨a, s⟩ x b hok
  cases a with
  | error c =>
    rw [hstop] at hok
    exact nomatch hok
  | ok l =>
    cases hx : (tr s x).1 with
    | error c =>
      rw [hfail l s x c hx] at hok
      exact nomatch hok
    | ok c =>
      obtain ⟨hcache, hsame⟩ := htr s x c hx
      rw [hgo l s x c hx]
      refine ⟨⟨l, rfl⟩, hcache, fun r => ?_⟩
      rw [hgo l (s.setRpl r) x c (by rw [hsame r, hx]), hsame r]

end

/-- The entry of the TLB that covers an address of a space. -/
def State.tlbHit (s : State) (space va : Nat) : Option TlbEntry :=
  s.hbm.tlb.find? (fun (t : TlbEntry) => t.space = space && t.va ≤ va && va < t.va + t.size)

/-- The TLB with a leaf taken up, the oldest entry leaving a full one. -/
def cachedTlb (l : List TlbEntry) (leaf : TlbEntry) : List TlbEntry := l.drop (l.length - 4095) ++ [leaf]

/-- The TLB takes up what a walk has found. -/
def State.cacheLeaf (s : State) (leaf : TlbEntry) : State :=
  (s.bump BX_XLT_CNT_TLB_MISS).setHbm { s.hbm with tlb := cachedTlb s.hbm.tlb leaf }

theorem State.cacheLeaf_caches (s : State) (leaf : TlbEntry) : Caches s (s.cacheLeaf leaf) := by
  have hmiss : Caches s (s.bump BX_XLT_CNT_TLB_MISS) := ⟨rfl, rfl, (RegsKept.refl _ s).wr (f := BX_XLT_CNT_TLB_MISS)⟩
  exact hmiss.setTlb _

/-! A walk does not look at the replay engine. -/

theorem State.mayMap_setRpl (s : State) (r : Replay) (space pa : Nat) : (s.setRpl r).mayMap space pa = s.mayMap space pa := rfl

theorem State.xlEntry_setRpl (s : State) (r : Replay) (l1 : Bool) (a : Nat) : (s.setRpl r).xlEntry l1 a = s.xlEntry l1 a := by
  unfold State.xlEntry
  rw [show (s.setRpl r).inPtab a = s.inPtab a from rfl, show (s.setRpl r).hbmPoisoned a 8 = s.hbmPoisoned a 8 from rfl,
    show (s.setRpl r).hbmRead a 8 = s.hbmRead a 8 from rfl]

theorem State.xlLeaf_setRpl (s : State) (r : Replay) (space va size e : Nat) (write : Bool) :
    (s.setRpl r).xlLeaf space va size e write = s.xlLeaf space va size e write := by
  unfold State.xlLeaf
  simp only [State.mayMap_setRpl]
  rfl

theorem State.walk_setRpl (s : State) (r : Replay) (space va : Nat) (write : Bool) : (s.setRpl r).walk space va write = s.walk space va
    write := by
  unfold State.walk
  rw [show (s.setRpl r).flag BX_XLT_SPACE_EN space = s.flag BX_XLT_SPACE_EN space from rfl, State.rd_setRpl]
  generalize s.rd BX_XLT_SPACE_L1_BASE space * 4096 / 524288 * 524288 = base
  simp only [State.xlEntry_setRpl, State.xlLeaf_setRpl]

section
variable {s : State} {source space va pa : Nat} {write : Bool}

theorem State.translate_of_hit {t : TlbEntry} (hhit : s.tlbHit space va = some t) (hperm : (if write then t.wr else t.rd) = true) :
    s.translate source space va write = (.ok (t.pa + (va - t.va)), s) := by
  unfold State.tlbHit at hhit
  unfold State.translate
  rw [hhit]
  exact if_pos hperm

theorem State.translate_of_walk {leaf : TlbEntry} (hmiss : s.tlbHit space va = none)
    (hwalk : (s.bump BX_XLT_CNT_TLB_MISS).walk space va write = .ok pa leaf) :
    s.translate source space va write = (.ok pa, s.cacheLeaf leaf) := by
  unfold State.tlbHit at hmiss
  unfold State.translate
  rw [hmiss]
  dsimp only
  rw [hwalk]
  rfl

/-- A translation that succeeds hits the TLB or finds a leaf. -/
theorem State.translate_succeeds (hok : (s.translate source space va write).1 = .ok pa) :
    (∃ t, s.tlbHit space va = some t ∧ (if write then t.wr else t.rd) = true) ∨
      ∃ leaf, s.tlbHit space va = none ∧ (s.bump BX_XLT_CNT_TLB_MISS).walk space va write = .ok pa leaf := by
  unfold State.translate at hok
  split at hok
  · next t ht =>
    by_cases hperm : (if write then t.wr else t.rd) = true
    · exact .inl ⟨t, ht, hperm⟩
    · rw [if_neg hperm] at hok
      exact nomatch hok
  · next ht =>
    dsimp only at hok
    split at hok
    · exact nomatch hok
    · next pa' leaf hleaf =>
      cases hok
      exact .inr ⟨leaf, ht, hleaf⟩

theorem State.translate_ok (hok : (s.translate source space va write).1 = .ok pa) :
    Caches s (s.translate source space va write).2 ∧ ∀ r, (s.setRpl r).translate source space va write =
      ((s.translate source space va write).1, (s.translate source space va write).2.setRpl r) := by
  rcases State.translate_succeeds hok with ⟨t, hhit, hperm⟩ | ⟨leaf, hmiss, hwalk⟩
  · rw [State.translate_of_hit hhit hperm]
    exact ⟨.refl s, fun r => State.translate_of_hit (s := s.setRpl r) hhit hperm⟩
  · rw [State.translate_of_walk hmiss hwalk]
    exact ⟨s.cacheLeaf_caches leaf, fun r => State.translate_of_walk (s := s.setRpl r) hmiss
      ((State.walk_setRpl (s.bump BX_XLT_CNT_TLB_MISS) r space va write).trans hwalk)⟩

end

theorem State.vaRange_ok {s : State} {source space va n : Nat} {write : Bool} {ps : List (Nat × Nat)}
    (hok : (s.vaRange source space va n write).1 = .ok ps) :
    Caches s (s.vaRange source space va n write).2 ∧ ∀ r, (s.setRpl r).vaRange source space va n write =
      ((s.vaRange source space va n write).1, (s.vaRange source space va n write).2.setRpl r) := by
  unfold State.vaRange at hok ⊢
  refine (Smooth.foldl (.of_collect (fun (s : State) (p : Nat × Nat) => s.translate source space p.1 write) (fun l p pa => l ++ [(pa, p.2)])
      (fun _ _ _ => rfl)
    (fun _ _ _ _ h => ?_) (fun _ _ _ _ h => ?_) fun _ _ _ h => State.translate_ok h) _ _ ps hok).2
  · dsimp only
    rw [h]
  · dsimp only
    rw [h]

theorem State.loadRanges_ok {s : State} {space : Nat} {rs : List (Nat × Nat)} {l : List (List (Nat × Nat))}
    (hok : (s.loadRanges space rs).1 = .ok l) : Caches s (s.loadRanges space rs).2 ∧
      ∀ r, (s.setRpl r).loadRanges space rs = ((s.loadRanges space rs).1, (s.loadRanges space rs).2.setRpl r) := by
  unfold State.loadRanges at hok ⊢
  refine (Smooth.foldl (.of_collect (fun (s : State) (r : Nat × Nat) => s.vaRange srcReplay space r.1 r.2 false) (fun l _ ps => l ++ [ps])
      (fun _ _ _ => rfl)
    (fun _ _ _ _ h => ?_) (fun _ _ _ _ h => ?_) fun _ _ _ h => State.vaRange_ok h) _ _ l hok).2
  · dsimp only
    rw [h]
  · dsimp only
    rw [h]

/-! ### Contexts and their banks (R308, R313, R314) -/

/-- The context with the operands of a bank filled. -/
def RplCtx.fill (x : RplCtx) (bank : Bool) (m : OpMem) : RplCtx := if bank then { x with mem1 := some m } else { x with mem0 := some m }

theorem RplCtx.mem_fill (x : RplCtx) (bank : Bool) (m : OpMem) : (x.fill bank m).mem bank = some m := by cases bank <;> rfl

/-- Beside the operands a fill changes nothing of a context. -/
theorem RplCtx.fill_rest (x : RplCtx) (bank : Bool) (m : OpMem) : (x.fill bank m).run = x.run ∧ (x.fill bank m).other = x.other ∧
    (x.fill bank m).bank = x.bank := by cases bank <;> exact ⟨rfl, rfl, rfl⟩

/-- What the loader brings of the ranges of a job. -/
def State.opMem (s : State) (j : RplJob) (rs : List (List (Nat × Nat))) : OpMem :=
  ⟨j.seq, (rs.map s.readPieces).take 2, ((rs.map s.readPieces).drop 2).take 2, (rs.map s.readPieces).drop 4⟩

theorem State.rctx_setRctx (s : State) (k : Nat) (x : RplCtx) : (s.setRctx k x).rctx k = x := SMap.getD_set_same ..

/-- The loader fills a bank whose ranges translate. -/
theorem State.loadBank_fills {s : State} {k : Nat} {bank : Bool} {j : RplJob} {rs : List (List (Nat × Nat))}
    (hin : s.operandsIn k bank j = none)
    (hok : (s.loadRanges j.tenant ((parseApd ((s.rpl.apds.find? j.slot).getD [])).ranges j)).1 = .ok rs) :
    ∃ t, Caches s t ∧ s.loadBank k bank j = t.setRctx k ((s.rctx k).fill bank (s.opMem j rs)) := by
  obtain ⟨hcache, -⟩ := State.loadRanges_ok hok
  refine ⟨_, hcache, ?_⟩
  unfold State.loadBank
  rw [hin, if_neg (by decide)]
  dsimp only
  generalize s.loadRanges j.tenant ((parseApd ((s.rpl.apds.find? j.slot).getD [])).ranges j) = r at hok hcache ⊢
  obtain ⟨r1, t⟩ := r
  obtain rfl : r1 = .ok rs := hok
  have hread : rs.map t.readPieces = rs.map s.readPieces := List.map_congr_left fun ps _ => hcache.readPieces ps
  have hctx : t.rctx k = s.rctx k := congrArg (fun r : Replay => r.ctxs.getD k {}) hcache.rpl
  unfold State.opMem
  rw [← hread, ← hctx]
  rfl

/-- Jobs fed into the queue leave the contexts alone. -/
theorem feedOne_ctxs (k : Nat) (s : State) : (feedOne k s).rpl.ctxs = s.rpl.ctxs := by
  induction k generalizing s with
  | zero => rfl
  | succ k ih =>
    unfold feedOne
    split
    · rfl
    · split
      · exact ih _
      · split
        · rfl
        · split
          · rfl
          · exact ih _

theorem State.rctx_feed (s : State) (k : Nat) : s.feed.rctx k = s.rctx k :=
  congrArg (fun m : SMap RplCtx => m.getD k {}) (feedOne_ctxs 1024 s)

theorem SMap.find?_map {α β : Type} (m : SMap α) (f : α → β) (k : Nat) :
    SMap.find? (m.map fun e => (e.1, f e.2)) k = (SMap.find? m k).map f := by
  induction m with
  | nil => rfl
  | cons e m ih =>
    obtain ⟨j, v⟩ := e
    change (if j = k then some (f v) else SMap.find? (m.map _) k) = (if j = k then some v else SMap.find? m k).map f
    rw [ih]
    split <;> rfl

/-- A context with a change of a job. -/
def RplCtx.modJob (x : RplCtx) (j : RplJob) (f : RplJob → RplJob) : RplCtx :=
  { x with run := x.run.map (fun i => if i.is j then f i else i), other := x.other.map (fun i => if i.is j then f i else i) }

/-- A change of a job reaches the context that runs it. -/
theorem State.modJob_run {s : State} {k : Nat} {j : RplJob} (hrun : (s.rctx k).run = some j) (f : RplJob → RplJob) :
    ((s.modJob j f).rctx k).run = some (f j) := by
  have hself : j.is j = true := by simp [RplJob.is]
  unfold State.rctx SMap.getD at hrun
  have hfind : SMap.find? (s.modJob j f).rpl.ctxs k = (SMap.find? s.rpl.ctxs k).map (RplCtx.modJob · j f) :=
    SMap.find?_map s.rpl.ctxs (RplCtx.modJob · j f) k
  unfold State.rctx SMap.getD
  rw [hfind]
  cases hx : SMap.find? s.rpl.ctxs k with
  | none =>
    rw [hx] at hrun
    exact nomatch hrun
  | some x =>
    rw [hx] at hrun
    change x.run.map _ = _
    rw [show x.run = some j from hrun, Option.map_some, if_pos hself]

section
variable {s : State} {c : Cap} {k : Nat} {j : RplJob}

theorem replayRun_submits {b : Bytes} {s1 : State} (hc : c.isOp = true) (hl : 1 ≤ c.params.length)
    (hform : RplJob.malformed ⟨leWords (padTo 128 c.data), 0, some c, none, 0, 0, false, false, false⟩ = false)
    (hapd : s.rpl.apds.find? (RplJob.slot ⟨leWords (padTo 128 c.data), 0, some c, none, 0, 0, false, false, false⟩) = some b)
    (hfit : RplJob.misfit ⟨leWords (padTo 128 c.data), 0, some c, none, 0, 0, false, false, false⟩ (parseApd b) = false)
    (hroom : s.rpl.queue.length < 1024)
    (haddr : s.badAddress srcReplay (RplJob.tenant ⟨leWords (padTo 128 c.data), 0, some c, none, 0, 0, false, false, false⟩)
      ((List.range 6).map (fun i => RplJob.w ⟨leWords (padTo 128 c.data), 0, some c, none, 0, 0, false, false, false⟩ (6 + i))) = (none, s1)) :
    Answers (.replayRun c) s (fun u =>
      u.rpl.queue = s.rpl.queue ++ [⟨leWords (padTo 128 c.data), s.rpl.seq, some c, none, 0, 0, false, false, false⟩] ∧
      u.rpl.seq = s.rpl.seq + 1 ∧ { u with rpl := s1.rpl } = s1) := by
  have hrpl : s1.rpl = s.rpl := by
    have h := (State.badAddress_translates srcReplay _ _ s).rpl.symm.trans (congrArg (fun r => r.2.rpl) haddr)
    exact h.symm
  have hfull : s.queueFull = false := decide_eq_false (by omega)
  refine ⟨s1.submit ⟨leWords (padTo 128 c.data), 0, some c, none, 0, 0, false, false, false⟩, ?_, ?_, ?_, rfl⟩
  · change execReplayRun c s = done _
    unfold execReplayRun
    rw [s.checked_of_allowed hc hl]
    dsimp only
    generalize (⟨leWords (padTo 128 c.data), 0, some c, none, 0, 0, false, false, false⟩ : RplJob) = i at *
    rw [hapd]
    dsimp only
    rw [if_neg (by rw [hform, hfit]; decide), if_neg (by rw [hfull]; decide), haddr]
  · change s1.rpl.queue ++ [_] = _
    rw [hrpl]
  · change s1.rpl.seq + 1 = _
    rw [hrpl]

theorem replayPlace_fills {rs : List (List (Nat × Nat))} (hen : s.flag BX_RPL_CTRL_EN = true) (hruns : s.replayRuns = true)
    (hp2 : s.up.p2Wait = none) (hnext : nextJob s.rpl.queue = some j) (hstop : s.jobStop j = none) (hplace : s.placeAt j = some (k, false))
    (hin : s.operandsIn k (s.rctx k).bank j = none)
    (hok : (s.loadRanges j.tenant ((parseApd ((s.rpl.apds.find? j.slot).getD [])).ranges j)).1 = .ok rs) :
    Answers .replayPlace s (fun u => (u.rctx k).run = some j ∧ (u.rctx k).mem (s.rctx k).bank = some (s.opMem j rs) ∧ u.wdn = s.wdn) := by
  let x : RplCtx := { s.rctx k with run := some j }
  let t := (s.setRpl { s.rpl with queue := s.rpl.queue.filter (fun i => !i.is j) }).setRctx k x
  have hctx : t.rctx k = x := State.rctx_setRctx ..
  have hload : (t.loadRanges j.tenant ((parseApd ((t.rpl.apds.find? j.slot).getD [])).ranges j)).1 = .ok rs :=
    (congrArg Prod.fst ((State.loadRanges_ok hok).2 t.rpl)).trans hok
  have hnone : t.operandsIn k (s.rctx k).bank j = none := by
    rw [← hin]
    unfold State.operandsIn
    rw [hctx]
    rfl
  obtain ⟨v, hcache, hfill⟩ := State.loadBank_fills hnone hload
  have hfeed := (t.loadBank k (s.rctx k).bank j).feed_feeds
  have hrun : (t.loadBank k (s.rctx k).bank j).feed.rctx k = x.fill (s.rctx k).bank (t.opMem j rs) := by
    rw [State.rctx_feed, hfill, State.rctx_setRctx, hctx]
  refine ⟨(t.loadBank k (s.rctx k).bank j).feed, ?_, ?_, ?_, hfeed.wdn.trans ?_⟩
  · change execReplayPlace s = done _
    unfold execReplayPlace
    rw [hen, hruns, hp2, if_neg (by decide), hnext]
    dsimp only
    rw [hstop]
    dsimp only
    rw [hplace]
    dsimp only
    rw [if_neg Bool.false_ne_true, if_neg Bool.false_ne_true]
    rfl
  · rw [hrun, (x.fill_rest _ _).1]
  · rw [hrun, RplCtx.mem_fill]
    rfl
  · rw [hfill]
    exact hcache.wdn

theorem replayBankFilled_switches {rs : List (List (Nat × Nat))} (hloading : (s.rctx k).loading = true) (hother : (s.rctx k).other = some j)
    (hfrozen : j.frozen = false) (hruns : s.replayRuns = true) (hin : s.operandsIn k (!(s.rctx k).bank) j = none)
    (hok : (s.loadRanges j.tenant ((parseApd ((s.rpl.apds.find? j.slot).getD [])).ranges j)).1 = .ok rs) :
    Answers (.replayBankFilled k) s (fun u => (u.rctx k).run = some j ∧ (u.rctx k).other = (s.rctx k).run ∧ (u.rctx k).loading = false ∧
      (u.rctx k).bank = !(s.rctx k).bank ∧ (u.rctx k).mem (u.rctx k).bank = some (s.opMem j rs) ∧
      ((s.rctx k).run ≠ none → s.counted u BX_RPL_CNT2_PREEMPTS 0 1)) := by
  obtain ⟨v, hcache, hfill⟩ := State.loadBank_fills hin hok
  let x := (s.rctx k).fill (!(s.rctx k).bank) (s.opMem j rs)
  let w := v.setRctx k x
  obtain ⟨hrun, hoth, hbank⟩ := (s.rctx k).fill_rest (!(s.rctx k).bank) (s.opMem j rs)
  have hctx : w.rctx k = x := State.rctx_setRctx ..
  let t := if (s.rctx k).run.isSome then w.bump BX_RPL_CNT2_PREEMPTS else w
  let y : RplCtx := { x with run := x.other, other := x.run, loading := false, bank := !x.bank }
  have hy : (t.setRctx k y).rctx k = y := State.rctx_setRctx ..
  refine ⟨t.setRctx k y, ?_, ?_, ?_, ?_, ?_, ?_, fun hsome => ?_⟩
  · change execReplayBankFilled k s = done _
    unfold execReplayBankFilled
    dsimp only
    rw [hloading, hother, hruns, if_neg (by simp [hfrozen]), Option.toList_some, List.foldl_cons, List.foldl_nil, hfill]
    change (if (w.rctx k).other.any _ = true then _ else _) = _
    rw [hctx, show x.other = some j from hoth.trans hother, show x.run = (s.rctx k).run from hrun, if_neg (by simp [hfrozen])]
    rw [show y = { x with run := some j, other := (s.rctx k).run, loading := false, bank := !x.bank } by
      change ({ x with run := x.other, other := x.run, loading := false, bank := !x.bank } : RplCtx) = _
      rw [show x.other = some j from hoth.trans hother, show x.run = (s.rctx k).run from hrun]]
  · rw [hy]
    exact hoth.trans hother
  · rw [hy]
    exact hrun
  · rw [hy]
  · rw [hy]
    exact congrArg (!·) hbank
  · rw [hy]
    change x.mem (!x.bank) = _
    rw [show x.bank = (s.rctx k).bank from hbank]
    exact RplCtx.mem_fill ..
  · have ht : t = w.bump BX_RPL_CNT2_PREEMPTS := if_pos (Option.isSome_iff_ne_none.mpr hsome)
    have hcount : w.counted (t.setRctx k y) BX_RPL_CNT2_PREEMPTS 0 1 := by
      rw [ht]
      exact w.counted_bump ..
    exact State.counted_of_before hcache.rd hcount

end

/-! ### The commit gate takes the end of a job (R352 to R356) -/

/-- The registers the resolution of a step can change: the ledger, the gate's counters, and what a test of a die and a signal change. -/
def resolveRegs : List Reg :=
  .BX_CMT_LEDGER :: .BX_CMT_CNT0 :: .BX_CMT_CNT1 :: .BX_CMT_CNT2 :: .BX_CMT_CNT3 :: .BX_CMT_CNT4 :: reasonRegs

section
variable {s t : State}

theorem RegsKept.of_feeds (h : RegsKept resolveRegs s t) {u : State} (hu : Feeds t u) : RegsKept resolveRegs s u :=
  fun f i hlo hf => (hu.rd f i).trans (h f i hlo hf)

theorem RegsKept.endStep (h : RegsKept resolveRegs s t) (g : GStep) : RegsKept resolveRegs s (t.endStep g) :=
  fun f i hlo hf => ((t.endStep_ends g).rd f i).trans (h f i hlo hf)

theorem State.requestTest_regsKept (s : State) (d unit pre : Nat) (bin : Option Nat) : RegsKept resolveRegs s (s.requestTest d unit pre bin)
    := by
  unfold State.requestTest
  extract_lets n busy u
  have hu : RegsKept resolveRegs s u := .branch (.refl _ s) ((RegsKept.refl _ s).wr (f := BX_COR_DIE_MARK_REASONS))
  split
  · exact hu
  · exact hu.trans ((u.issueTest_regsKept u.cfg d unit 6 n pre bin).mono (by decide))

theorem State.detected_regsKept (s : State) (g : GStep) (cause : Nat) : RegsKept resolveRegs s (s.detected g cause) := by
  unfold State.detected
  exact (s.requestTest_regsKept g.die g.unit 0 none).trans ((Signals.refl _).signal.alarmUp.regs.mono (by decide))

/-- A step's entry and its event. -/
theorem State.ledger_stepEvent_regsKept (s : State) (r : LedgerRec) (t : Nat) (ws : List Nat) :
    RegsKept resolveRegs s ((s.ledger r).2.2.stepEvent t ws) :=
  ((s.ledger_enters r).regs.mono (by decide)).trans ((State.stepEvent_signals _ t ws).regs.mono (by decide))

theorem State.afterCheck_regsKept (s : State) (g : GStep) (cause : Nat) : RegsKept resolveRegs s (s.afterCheck g cause) := by
  have h := s.ledger_stepEvent_regsKept (s.stepRec g 3 cause) g.tenant (stepWords g 3 cause (s.ledger (s.stepRec g 3 cause)).1 0)
  exact (RegsKept.branch h (h.wr (f := BX_CMT_CNT3_DETECTED))).endStep g

theorem State.revokeOne_regsKept (s : State) (g : GStep) (cause : Nat) : RegsKept resolveRegs s (s.revokeOne g cause) := by
  unfold State.revokeOne
  extract_lets lc
  exact (RegsKept.branch ((s.ledger_stepEvent_regsKept _ _ _).wr (f := BX_CMT_CNT1_DEPENDENT))
    ((s.ledger_stepEvent_regsKept _ _ _).wr (f := BX_CMT_CNT1_REVOKED))).endStep g

theorem State.revoke_regsKept (s : State) (g : GStep) (cause : Nat) : RegsKept resolveRegs s (s.revoke g cause) := by
  unfold State.revoke
  extract_lets later u
  have hu : RegsKept resolveRegs s u :=
    RegsKept.foldl (s.revokeOne_regsKept g cause) fun t h ht => ht.trans (t.revokeOne_regsKept h cDependent)
  split
  · exact hu
  · split
    · exact hu
    · exact hu

theorem State.resolve_regsKept (s : State) (g : GStep) (cause : Nat) : RegsKept resolveRegs s (s.resolve g cause) := by
  unfold State.resolve
  extract_lets u v
  have hu : RegsKept resolveRegs s u := .branch ((RegsKept.refl _ s).wr (f := BX_CMT_CNT2_UNCHECKED))
    (.branch ((RegsKept.refl _ s).wr (f := BX_CMT_CNT3_BLAZE)) (.branch ((RegsKept.refl _ s).wr (f := BX_CMT_CNT4_DIGEST_MISMATCH)) (.refl _ s)))
  have hv : RegsKept resolveRegs s v := .branch (hu.trans (u.detected_regsKept g cause)) hu
  refine .branch (hv.trans (v.afterCheck_regsKept g cause)) (.branch hv (.branch ?_ (hv.trans (v.revoke_regsKept g cause))))
  have hcancel : RegsKept resolveRegs s (v.cancelJobs g) := hv.of_feeds (v.cancelJobs_feeds g)
  have hready : RegsKept resolveRegs s ((v.cancelJobs g).setStep { g with ready := some cUnchecked, heldJobs := [] }) := hcancel
  exact hready.of_feeds (State.feed_feeds _)

theorem State.gateJobEnd_regsKept (s : State) (j : RplJob) (outcome reason : Nat) : RegsKept resolveRegs s (s.gateJobEnd j outcome reason) := by
  unfold State.gateJobEnd
  split
  · exact .refl _ s
  · split
    · exact .refl _ s
    · next job step attempt i _ g _ =>
      split
      · exact RegsKept.of_feeds (t := s.setStep _) (.refl _ s) (State.feed_feeds _)
      · extract_lets h u
        exact .branch (.refl _ s) (u.resolve_regsKept h _)

/-! ### The end of a job (R315 to R317, Table 11-4) -/

theorem State.countJob_jobsDone (s : State) (outcome reason : Nat) : s.counted (s.countJob outcome reason) BX_RPL_CNT0_JOBS_DONE 0 1 := by
  unfold State.countJob
  extract_lets t u
  have ht : s.counted t BX_RPL_CNT0_JOBS_DONE 0 1 := s.counted_bump ..
  clear_value t
  have hu : u.rd BX_RPL_CNT0_JOBS_DONE = t.rd BX_RPL_CNT0_JOBS_DONE := by
    dsimp only [u]
    split
    · exact t.rd_bump_otherReg _ _ _
    · rfl
  refine Eq.trans ?_ (hu.trans ht)
  clear_value u
  split
  · exact u.rd_wr_otherLo _ (by decide) (by decide) (by decide)
  · exact u.rd_bump_otherReg _ _ _
  · exact u.rd_bump_otherReg _ _ _
  · exact u.rd_bump_otherReg _ _ _
  · rfl

theorem State.countJob_notReplayed (s : State) (reason : Nat) : s.counted (s.countJob oNotReplayed reason) BX_RPL_CNT1_NOT_REPLAYED 0 1 := by
  unfold State.countJob
  extract_lets t u
  have ht : t.rd BX_RPL_CNT1_NOT_REPLAYED = s.rd BX_RPL_CNT1_NOT_REPLAYED := s.rd_bump_otherReg _ _ _
  clear_value t
  have hu : u.rd BX_RPL_CNT1_NOT_REPLAYED = t.rd BX_RPL_CNT1_NOT_REPLAYED := by
    dsimp only [u]
    split
    · exact t.rd_bump_otherReg _ _ _
    · rfl
  clear_value u
  exact State.counted_of_before (hu.trans ht) (u.counted_bump ..)

/-- A job has left the engine, is counted and answered; the gate has not taken its outcome yet. -/
def State.jobAnswered (s : State) (j : RplJob) (outcome reason cluster : Nat) (confirmed : Bool) (bad : List Nat) : State :=
  let u := (s.dropJob j).countJob outcome reason
  match j.cap with
  | none => u
  | some c => u.reply c 0x0404 S_OK (s.resultRec j outcome reason cluster confirmed bad)

theorem State.jobAnswered_regs (s : State) (j : RplJob) (outcome reason cluster : Nat) (confirmed : Bool) (bad : List Nat) :
    (s.jobAnswered j outcome reason cluster confirmed bad).regs = ((s.dropJob j).countJob outcome reason).regs := by
  unfold State.jobAnswered
  split
  · rfl
  · exact State.reply_regs _ _ _ (by decide) ..

/-- An ended job is counted, and its record answers its capsule; a job of no step ends nothing of the gate. -/
structure JobEnds (s : State) (j : RplJob) (outcome : Nat) (res : List Nat) (u : State) : Prop where
  jobsDone : s.counted u BX_RPL_CNT0_JOBS_DONE 0 1
  notReplayed : outcome = oNotReplayed → s.counted u BX_RPL_CNT1_NOT_REPLAYED 0 1
  replied : j.gate = none → ∀ c, j.cap = some c → u.replied c 0x0404 S_OK res

theorem State.finishJob_ends (s : State) (j : RplJob) (outcome reason cluster : Nat) (confirmed : Bool) (bad : List Nat) :
    JobEnds s j outcome (s.resultRec j outcome reason cluster confirmed bad) (s.finishJob j outcome reason cluster confirmed bad) := by
  let u := s.jobAnswered j outcome reason cluster confirmed bad
  let v := u.gateJobEnd j outcome reason
  have hend : s.finishJob j outcome reason cluster confirmed bad = v.feed := rfl
  have hu (f : Fld) : u.rd f = ((s.dropJob j).countJob outcome reason).rd f := State.rd_congr (s.jobAnswered_regs ..) f 0
  have hv := u.gateJobEnd_regsKept j outcome reason
  have hrd (f : Fld) (hlo : f.lo < 64) (hf : f.reg ∉ resolveRegs) : v.feed.rd f = ((s.dropJob j).countJob outcome reason).rd f :=
    ((v.feed_feeds.rd f 0).trans (hv f 0 hlo hf)).trans (hu f)
  rw [hend]
  refine ⟨?_, fun ho => ?_, fun hgate c hcap => ?_⟩
  · exact (hrd _ (by decide) (by decide)).trans ((s.dropJob j).countJob_jobsDone outcome reason)
  · subst ho
    exact (hrd _ (by decide) (by decide)).trans ((s.dropJob j).countJob_notReplayed reason)
  · have hv' : v = u := by
      dsimp only [v]
      unfold State.gateJobEnd
      rw [hgate]
    have hlast : v.feed.lastReply = u.lastReply := by
      unfold State.lastReply
      rw [v.feed_feeds.wdn, hv']
    have hans : u = ((s.dropJob j).countJob outcome reason).reply c 0x0404 S_OK (s.resultRec j outcome reason cluster confirmed bad) := by
      dsimp only [u]
      unfold State.jobAnswered
      rw [hcap]
    unfold State.replied
    rw [hlast, hans]
    exact State.reply_replied ..

/-- Units whose run differed are retired; the answers stay. -/
theorem State.retireRuns_retires (s : State) (rs : List RplRun) (r1 : RplRun) (l : List Nat) :
    Retires s (l.foldl (fun s i => s.retireRun (rs.getD i r1)) s) :=
  List.foldlRecOn (motive := fun t : State => Retires s t) l _ (.refl s) fun t ht i _ =>
    ht.trans (t.retireUnit_retires (rs.getD i r1).level (rs.getD i r1).idx).1

end

section
variable {s : State} {c : Cap} {k : Nat} {j : RplJob} {r1 r2 r3 : RplRun}

theorem replayPlace_ends {o r : Nat} (hen : s.flag BX_RPL_CTRL_EN = true) (hruns : s.replayRuns = true) (hp2 : s.up.p2Wait = none)
    (hnext : nextJob s.rpl.queue = some j) (hstop : s.jobStop j = some (o, r)) (hgate : j.gate = none) : Answers .replayPlace s (fun u =>
      s.counted u BX_RPL_CNT0_JOBS_DONE 0 1 ∧ ∀ c, j.cap = some c → u.replied c 0x0404 S_OK (s.resultRec j o r 0 false [])) := by
  have hend := s.finishJob_ends j o r 0 false []
  refine ⟨s.finishJob j o r 0, ?_, hend.jobsDone, hend.replied hgate⟩
  change execReplayPlace s = done _
  unfold execReplayPlace
  rw [hen, hruns, hp2, if_neg (by decide), hnext]
  dsimp only
  rw [hstop]

theorem exec_replayJobEnd_noApd (hruns : s.replayRuns = true) (hrun : (s.rctx k).run = some j) (hapd : s.rpl.apds.find? j.slot = none) :
    exec (.replayJobEnd k r1 r2 r3) s = done (s.finishJob j oNotReplayed 4 (k / 4)) := by
  change execReplayJobEnd k r1 r2 r3 s = _
  unfold execReplayJobEnd
  rw [hruns, if_pos rfl, hrun]
  dsimp only
  rw [hapd]

theorem exec_replayJobEnd_runs {b : Bytes} (hruns : s.replayRuns = true) (hrun : (s.rctx k).run = some j)
    (hapd : s.rpl.apds.find? j.slot = some b) : exec (.replayJobEnd k r1 r2 r3) s = done (s.runJob k j (parseApd b) r1 r2 r3) := by
  change execReplayJobEnd k r1 r2 r3 s = _
  unfold execReplayJobEnd
  rw [hruns, if_pos rfl, hrun]
  dsimp only
  rw [hapd]

theorem replayJobEnd_noApd (hruns : s.replayRuns = true) (hrun : (s.rctx k).run = some j) (hapd : s.rpl.apds.find? j.slot = none)
    (hgate : j.gate = none) : Answers (.replayJobEnd k r1 r2 r3) s (fun u => s.counted u BX_RPL_CNT1_NOT_REPLAYED 0 1 ∧
      ∀ c, j.cap = some c → u.replied c 0x0404 S_OK (s.resultRec j 3 4 (k / 4) false [])) := by
  have hend := s.finishJob_ends j oNotReplayed 4 (k / 4) false []
  exact ⟨_, exec_replayJobEnd_noApd hruns hrun hapd, hend.notReplayed rfl, hend.replied hgate⟩

/-- A job whose operands are there and clean and that stores no output ends with the verdict over its runs. -/
theorem State.runJob_ends {a : Apd} {m : OpMem} (hfrozen : j.frozen = false) (hblaze : j.blaze = false) (hstore : j.w 11 = 0)
    (hin : s.operandsIn k (s.rctx k).bank j = some m) (hclean : (m.dm0 ++ m.dm1 ++ m.core).any (fun x => x.2) = false) {v : Verdict}
    (hv : a.verdict j (s.flag BX_RPL_CTRL_CONFIRM) (a.output j (a.operands j ((m.dm0 ++ m.dm1 ++ m.core).map (fun x => x.1))).1)
      (a.operands j ((m.dm0 ++ m.dm1 ++ m.core).map (fun x => x.1))).2 r1 r2 r3 = v) :
    s.runJob k j a r1 r2 r3 =
      let t := (s.modJob j (fun i => { i with frozen := false })).finishJob j v.outcome 0 (k / 4) v.confirmed v.bad
      v.retire.foldl (fun s i => s.retireRun ([r1, r2, r3].getD i r1)) (if v.failed then t.bump BX_RPL_CNT1_CONFIRM_FAIL else t) := by
  have hload : s.loadBank k (s.rctx k).bank j = s := by
    unfold State.loadBank
    rw [hin]
    exact if_pos rfl
  obtain ⟨_, _, _, _, _, _, _, _, frozen⟩ := j
  obtain rfl : frozen = false := hfrozen
  unfold State.runJob
  rw [hload]
  dsimp only
  rw [hin]
  dsimp only
  rw [if_pos hstore]
  dsimp only
  rw [if_neg (ne_true_of_eq_false hblaze), if_neg (ne_true_of_eq_false hclean)]
  have hconfirm (f : RplJob → RplJob) (i : RplJob) : (s.modJob i f).flag BX_RPL_CTRL_CONFIRM = s.flag BX_RPL_CTRL_CONFIRM := rfl
  rw [hconfirm, hv, if_pos (Or.inr hstore)]

theorem replayJobEnd_ends {b : Bytes} {m : OpMem} {v : Verdict} (hruns : s.replayRuns = true) (hrun : (s.rctx k).run = some j)
    (hapd : s.rpl.apds.find? j.slot = some b) (hcap : j.cap = some c) (hgate : j.gate = none) (hfrozen : j.frozen = false)
    (hblaze : j.blaze = false) (hstore : j.w 11 = 0) (hin : s.operandsIn k (s.rctx k).bank j = some m)
    (hclean : (m.dm0 ++ m.dm1 ++ m.core).any (fun x => x.2) = false)
    (hv : (parseApd b).verdict j (s.flag BX_RPL_CTRL_CONFIRM)
      ((parseApd b).output j ((parseApd b).operands j ((m.dm0 ++ m.dm1 ++ m.core).map (fun x => x.1))).1)
      ((parseApd b).operands j ((m.dm0 ++ m.dm1 ++ m.core).map (fun x => x.1))).2 r1 r2 r3 = v) :
    Answers (.replayJobEnd k r1 r2 r3) s (fun u => u.replied c 0x0404 S_OK (s.resultRec j v.outcome 0 (k / 4) v.confirmed v.bad) ∧
      s.counted u BX_RPL_CNT0_JOBS_DONE 0 1) := by
  let s1 := s.modJob j (fun i => { i with frozen := false })
  let t := s1.finishJob j v.outcome 0 (k / 4) v.confirmed v.bad
  have hend : JobEnds s1 j v.outcome (s.resultRec j v.outcome 0 (k / 4) v.confirmed v.bad) t := s1.finishJob_ends ..
  let w := if v.failed then t.bump BX_RPL_CNT1_CONFIRM_FAIL else t
  have hwReplies : w.wdn.replies = t.wdn.replies := by
    dsimp only [w]
    split <;> rfl
  have hw : w.rd BX_RPL_CNT0_JOBS_DONE = t.rd BX_RPL_CNT0_JOBS_DONE := by
    dsimp only [w]
    split
    · exact t.rd_bump_otherReg _ _ _
    · rfl
  have hret := w.retireRuns_retires [r1, r2, r3] r1 v.retire
  refine ⟨v.retire.foldl (fun s i => s.retireRun ([r1, r2, r3].getD i r1)) w, ?_, ?_, ?_⟩
  · exact (exec_replayJobEnd_runs hruns hrun hapd).trans (congrArg done (State.runJob_ends hfrozen hblaze hstore hin hclean hv))
  · have hlast := hend.replied hgate c hcap
    unfold State.replied State.lastReply at hlast ⊢
    rw [hret.replies, hwReplies]
    exact hlast
  · exact ((hret.regs _ 0 (by decide) (by decide)).trans hw).trans hend.jobsDone

theorem replayXlateFault_freezes {va cs : Nat} (hrun : (s.rctx k).run = some j) (hfrozen : j.frozen = false) :
    Answers (.replayXlateFault k false va cs) s (fun u => s.counted u BX_RPL_CNT2_XLATE_FREEZES 0 1 ∧
      (u.rctx k).run = some { j with frozen := true }) := by
  have htr := s.xlFault_translates srcReplay j.tenant va cs
  let t := s.xlFault srcReplay j.tenant va cs
  let u := t.bump BX_RPL_CNT2_XLATE_FREEZES
  have hctx : u.rctx k = s.rctx k := congrArg (fun r : Replay => r.ctxs.getD k {}) htr.rpl
  refine ⟨u.modJob j (fun i => { i with frozen := true }), ?_, ?_, State.modJob_run (hctx ▸ hrun) _⟩
  · change execReplayXlateFault k false va cs s = done _
    unfold execReplayXlateFault State.freeze
    rw [if_neg Bool.false_ne_true, hrun]
    dsimp only
    rw [hfrozen, if_neg Bool.false_ne_true]
  · exact State.counted_of_before (htr.regs BX_RPL_CNT2_XLATE_FREEZES 0 (by decide) (by decide)) (t.counted_bump ..)

theorem replayCancel_ends (hc : c.isOp = true) (hl : 1 ≤ c.params.length) (hj : s.rplJobs.find? (fun j => j.tag = c.p 0) = some j) :
    Answers (.replayCancel c) s (fun u => u.replied c 0x0405 S_OK [] ∧ s.counted u BX_RPL_CNT1_NOT_REPLAYED 0 1) := by
  have hend := s.finishJob_ends j oNotReplayed (if j.frozen then 3 else 7) (s.clusterOf j) false []
  refine ⟨(s.finishJob j oNotReplayed (if j.frozen then 3 else 7) (s.clusterOf j)).reply c 0x0405 S_OK, ?_, State.reply_replied .., ?_⟩
  · change execReplayCancel c s = done _
    unfold execReplayCancel
    rw [s.checked_of_allowed hc hl]
    rw [hj]
  · exact (State.rd_reply _ c _ (by decide) ..).trans (hend.notReplayed rfl)

theorem replayCancel_stale (hc : c.isOp = true) (hl : 1 ≤ c.params.length) (hnone : ∀ j ∈ s.rplJobs, j.tag ≠ c.p 0) :
    Answers (.replayCancel c) s (fun u => u.replied c 0x0405 S_STALE [] ∧ s.onlyReply u) := by
  refine answers_reply (by decide) ?_
  change execReplayCancel c s = _
  unfold execReplayCancel
  rw [s.checked_of_allowed hc hl]
  rw [List.find?_eq_none.mpr fun i hi => by simpa using hnone i hi]

end

/-- Settles O34: a bank whose ranges translate is filled and leaves all but the TLB alone; what the gate makes of a job's end changes neither
the engine's counters nor, for a job of no step, anything. -/
theorem replayJobsRunAndEnd : Obligations.ReplayJobsRunAndEnd :=
  ⟨fun _ _ _ _ hc hl hform hapd hfit hroom haddr => replayRun_submits hc hl hform hapd hfit hroom haddr,
    fun _ _ _ _ hen hruns hp2 hnext hstop hplace hin hok => replayPlace_fills hen hruns hp2 hnext hstop hplace hin hok,
    fun _ _ _ _ hen hruns hp2 hnext hstop hgate => replayPlace_ends hen hruns hp2 hnext hstop hgate,
    fun _ _ _ _ hloading hother hfrozen hruns hin hok => replayBankFilled_switches hloading hother hfrozen hruns hin hok,
    fun _ _ _ _ _ _ _ _ _ _ hruns hrun hapd hcap hgate hfrozen hblaze hstore hin hclean hv =>
      replayJobEnd_ends hruns hrun hapd hcap hgate hfrozen hblaze hstore hin hclean hv,
    fun _ _ _ _ _ _ hruns hrun hapd hgate => replayJobEnd_noApd hruns hrun hapd hgate,
    fun _ _ _ _ _ hrun hfrozen => replayXlateFault_freezes hrun hfrozen,
    fun _ _ _ hc hl hj => replayCancel_ends hc hl hj,
    fun _ _ hc hl hnone => replayCancel_stale hc hl hnone⟩

end Sys2Proof.Machine
end

section
/-! SUPPORT. Firebreak: partition fences held, asserted and lifted (R404 to R407). -/

namespace Sys2Proof.Machine
open Sys2Proof

namespace Signals
variable {s t : State}

theorem fences (h : Signals s t) : t.cnp.fences = s.cnp.fences := (congrArg (fun u => u.cnp.fences) h.rest :)

theorem freeBuf (h : Signals s t) {q vc} : Signals s (t.freeBuf q vc) := h.setPort

theorem closeTx (h : Signals s t) {q b} : Signals s (t.closeTx q b) := .branch h.setPort h

theorem dropFenced (h : Signals s t) {q} : Signals s (t.dropFenced q) := by
  unfold State.dropFenced
  extract_lets stays drop u
  refine foldl (show Signals s u from h.modLink) fun v w hv => closeTx (bump ?_)
  split
  · exact hv.freeBuf
  · exact hv

end Signals

theorem Sends.fences {s t : State} (h : Sends s t) : t.cnp.fences = s.cnp.fences := (congrArg (fun u => u.cnp.fences) h.rest :)

theorem State.broadcastAlarm_fences (s : State) (sub : Nat) (p40 : Bytes) : (s.broadcastAlarm sub p40).cnp.fences = s.cnp.fences :=
  (s.broadcastAlarm_sends sub p40).fences

/-- The instant a fence announced now asserts (R405). -/
def State.fenceAt (s : State) : Nat := s.bxNs + s.rd BX_CNP_CTRL_FENCE_LEAD_US * 1000

section
variable {s : State} {c : Cap}

theorem firebreakFence_announces (hc : c.isOp = true) (hl : 1 ≤ c.params.length) (hp : c.p 0 ≤ 63)
    (hroot : (s.treeOf (s.rd BX_CNP_FAB_STS_ACT_ROOT)).map (fun (e : TreeEntry) => e.partition) ≠ some (c.p 0))
    (hnone : s.partHasFence (c.p 0) = false) : Answers (.firebreakFence c) s (fun u => u.replied c 0x0604 S_OK [s.fenceAt] ∧
      ∃ x ∈ u.cnp.fences, x.partition = true ∧ x.id = c.p 0 ∧ x.f = s.fenceAt ∧ x.asserted = false) := by
  let fr : FenceRec := { partition := true, id := c.p 0, cause := 4, f := s.fenceAt }
  let t : State := { s with cnp := { s.cnp with fences := s.cnp.fences ++ [fr] } }
  let u := t.broadcastAlarm 0x20 (t.bxAlarm (fenceDetail true (c.p 0) 4) s.fenceAt)
  have hfences : u.cnp.fences = s.cnp.fences ++ [fr] := t.broadcastAlarm_fences ..
  refine ⟨u.reply c 0x0604 S_OK [s.fenceAt], ?_, State.reply_replied .., fr, ?_, rfl, rfl, rfl, rfl⟩
  · change execFirebreakFence c s = done _
    unfold execFirebreakFence
    rw [s.checked_of_allowed (by rw [hc]; rfl) hl]
    dsimp only
    rw [if_neg (Nat.not_lt.mpr hp), if_neg (by simp [hroot, hnone])]
    rfl
  · change fr ∈ u.cnp.fences
    rw [hfences]
    exact List.mem_append_right _ (List.mem_singleton_self _)

theorem firebreakFence_conflicts (hc : c.isOp = true) (hl : 1 ≤ c.params.length) (hp : c.p 0 ≤ 63) (hheld : s.partHasFence (c.p 0) = true) :
    Answers (.firebreakFence c) s (fun u => u.replied c 0x0604 S_CONFLICT [] ∧ s.onlyReply u) := by
  refine answers_reply (by decide) ?_
  change execFirebreakFence c s = _
  unfold execFirebreakFence
  rw [s.checked_of_allowed (by rw [hc]; rfl) hl]
  dsimp only
  rw [if_neg (Nat.not_lt.mpr hp), if_pos (Or.inr hheld)]

/-! ### Fences assert (R406) -/

/-- A fence that asserts sets its partition's bit; beside it only events are signalled. -/
theorem State.assertFence_signals (s : State) (x : FenceRec) : Signals
    (if x.partition then s.wr BX_CNP_FENCE_FENCED 0 (s.rd BX_CNP_FENCE_FENCED ||| 2 ^ x.id) else s) (s.assertFence x) := by
  unfold State.assertFence
  split
  · exact (Signals.refl _).foldl fun _ _ h => .branch h.setPstate.dropFenced h
  · exact .refl s

theorem State.assertFence_fences (s : State) (x : FenceRec) : (s.assertFence x).cnp.fences = s.cnp.fences := by
  refine (s.assertFence_signals x).fences.trans ?_
  split <;> rfl

theorem State.assertFence_fenced (s : State) (x : FenceRec) : (s.assertFence x).rd BX_CNP_FENCE_FENCED =
    if x.partition then (s.rd BX_CNP_FENCE_FENCED ||| 2 ^ x.id) % 2 ^ 64 else s.rd BX_CNP_FENCE_FENCED := by
  rw [(s.assertFence_signals x).regs _ _ (by decide) (by decide)]
  split
  · exact s.rd_wr_same ..
  · rfl

/-- A bit of FENCED once set stays set under further fences. -/
theorem State.assertFence_keepsBit {s : State} {i : Nat} (x : FenceRec) (hi : i < 64) (hbit : (s.rd BX_CNP_FENCE_FENCED).testBit i = true) :
    ((s.assertFence x).rd BX_CNP_FENCE_FENCED).testBit i = true := by
  rw [State.assertFence_fenced]
  split
  · rw [Nat.testBit_mod_two_pow, Nat.testBit_or, hbit, decide_eq_true hi]
    rfl
  · exact hbit

theorem State.assertFence_setsBit {s : State} {x : FenceRec} (hpart : x.partition = true) (hid : x.id < 64) :
    ((s.assertFence x).rd BX_CNP_FENCE_FENCED).testBit x.id = true := by
  rw [State.assertFence_fenced, if_pos hpart, Nat.testBit_mod_two_pow, Nat.testBit_or, Nat.testBit_two_pow_self, decide_eq_true hid,
      Bool.or_true]
  rfl

theorem fenceInstant_asserts (s : State) : Answers .fenceInstant s (fun u =>
    u.cnp.fences = s.cnp.fences.map (fun (x : FenceRec) => if x.f ≤ s.bxNs then { x with asserted := true } else x) ∧
    ∀ x ∈ s.cnp.fences, x.partition = true → x.asserted = false → x.f ≤ s.bxNs → x.id < 64 →
      (u.rd BX_CNP_FENCE_FENCED).testBit x.id = true) := by
  let due := s.cnp.fences.filter (fun (x : FenceRec) => !x.asserted && decide (x.f ≤ s.bxNs))
  let t : State := { s with
    cnp := { s.cnp with fences := s.cnp.fences.map (fun (x : FenceRec) => if x.f ≤ s.bxNs then { x with asserted := true } else x) } }
  refine ⟨due.foldl (fun s x => s.assertFence x) t, rfl, ?_, fun x hx hpart hnew hf hid => ?_⟩
  · exact List.foldlRecOn (motive := fun u : State => u.cnp.fences = t.cnp.fences) due _ rfl fun u hu x _ => (u.assertFence_fences x).trans hu
  · have hdue : x ∈ due := List.mem_filter.mpr ⟨hx, by simp [hnew, hf]⟩
    exact foldl_reaches (E := fun _ : State => True) (P := fun u : State => (u.rd BX_CNP_FENCE_FENCED).testBit x.id = true) hdue
      (fun _ _ _ => trivial) (fun _ y _ hbit => State.assertFence_keepsBit y hid hbit) (fun _ _ => State.assertFence_setsBit hpart hid) trivial

/-! ### Fences are lifted (R407) -/

theorem firebreakClear_notes (hc : c.isOp = true) (hl : 2 ≤ c.params.length) (hp : c.p 0 ≤ 63) (hheld : s.partHasFence (c.p 0) = true)
    (hm : s.liftEpoch ≤ c.p 1) : Answers (.firebreakClear c) s (fun u => u.replied c 0x0605 S_OK [] ∧
      ∀ x ∈ u.cnp.fences, x.partition = true → x.id = c.p 0 → x.lifted = false → x.lift = some (c.p 1)) := by
  let note (x : FenceRec) : FenceRec := if x.partition ∧ x.id = c.p 0 ∧ ¬ x.lifted then { x with lift := some (c.p 1) } else x
  let t : State := { s with cnp := { s.cnp with fences := s.cnp.fences.map note } }
  let u := t.broadcastAlarm 0x21 (t.bxAlarm (fenceDetail true (c.p 0) 4) ((t.schedOf (c.p 1)).open_ (c.p 1)))
  have hfences : u.cnp.fences = s.cnp.fences.map note := t.broadcastAlarm_fences ..
  refine ⟨u.reply c 0x0605 S_OK, ?_, State.reply_replied .., fun x hx hpart hid hlifted => ?_⟩
  · change execFirebreakClear c s = done _
    unfold execFirebreakClear
    rw [s.checked_of_allowed hc hl]
    dsimp only
    rw [if_neg (Nat.not_lt.mpr hp), hheld, if_neg (by decide), if_neg (Nat.not_lt.mpr hm)]
  · change x ∈ u.cnp.fences at hx
    rw [hfences] at hx
    obtain ⟨y, -, rfl⟩ := List.mem_map.mp hx
    by_cases hy : y.partition = true ∧ y.id = c.p 0 ∧ ¬ y.lifted = true
    · rw [show note y = { y with lift := some (c.p 1) } from if_pos hy]
    · rw [show note y = y from if_neg hy] at hpart hid hlifted
      exact (hy ⟨hpart, hid, by rw [hlifted]; decide⟩).elim

theorem firebreakClear_early (hc : c.isOp = true) (hl : 2 ≤ c.params.length) (hp : c.p 0 ≤ 63) (hheld : s.partHasFence (c.p 0) = true)
    (hm : c.p 1 < s.liftEpoch) : Answers (.firebreakClear c) s (fun u => u.replied c 0x0605 S_NOTNOW [] ∧ s.onlyReply u) := by
  refine answers_reply (by decide) ?_
  change execFirebreakClear c s = _
  unfold execFirebreakClear
  rw [s.checked_of_allowed hc hl]
  dsimp only
  rw [if_neg (Nat.not_lt.mpr hp), hheld, if_neg (by decide), if_pos hm]

/-- A fence not lifted yet whose epoch has opened is due to be lifted. -/
def State.liftDue (s : State) (x : FenceRec) : Bool := !x.lifted && x.lift.any (fun m => decide ((s.schedOf m).open_ m ≤ s.bxNs))

theorem exec_unfenceInstant (s : State) : exec .unfenceInstant s = done
    ((s.cnp.fences.filter s.liftDue).foldl (fun s (x : FenceRec) => if x.partition then s.liftPart x.id else s.liftDie x.id)
      { s with cnp := { s.cnp with fences := s.cnp.fences.map (fun x => if s.liftDue x then { x with lifted := true } else x) } }) := by
  change execUnfenceInstant s = _
  unfold execUnfenceInstant
  extract_lets isDue due _ t
  have hdue : isDue = s.liftDue := by
    funext x
    dsimp only [isDue, State.liftDue]
    cases x.lift <;> rfl
  clear_value isDue
  subst hdue
  rfl

theorem unfenceInstant_lifts {d m : Nat} {x : FenceRec} (hone : s.cnp.fences = [x]) (hdie : x.partition = false) (hid : x.id = s.agg * 64 + d)
    (hd : d < 64) (hnew : x.lifted = false) (hlift : x.lift = some m) (hopen : (s.schedOf m).open_ m ≤ s.bxNs) :
    Answers .unfenceInstant s (fun u => u.cnp.fences = [{ x with lifted := true }] ∧ (u.die d).fence = none ∧ u.rd BX_LKO_DIE_STATE d = 0) := by
  have hdue : s.liftDue x = true := by
    unfold State.liftDue
    rw [hnew, hlift]
    exact decide_eq_true hopen
  let t : State := { s with cnp := { s.cnp with fences := [{ x with lifted := true }] } }
  let v := t.setDie d { t.die d with fence := none, cause := 0, unfence := none }
  have haddr : x.id / 64 = t.agg ∧ x.id % 64 = d := by
    change x.id / 64 = s.agg ∧ _
    omega
  refine ⟨(v.wr BX_LKO_DIE_STATE d 0).wr BX_LKO_DIE_CAUSE d 0, ?_, rfl, congrArg DieId.fence (t.die_setDie d _), ?_⟩
  · rw [exec_unfenceInstant, hone, List.filter_cons_of_pos hdue, List.filter_nil, List.foldl_cons, List.foldl_nil, List.map_singleton,
      if_pos hdue, if_neg (ne_true_of_eq_false hdie)]
    change done (t.liftDie x.id) = _
    unfold State.liftDie
    rw [if_pos haddr.1, haddr.2]
    rfl
  · rw [State.rd_wr_otherLo _ _ (by decide) (by decide) (by decide)]
    exact v.rd_wr_same ..

theorem unfenceInstant_none (hnone : ∀ x ∈ s.cnp.fences, x.lifted = false → x.lift = none) : Answers .unfenceInstant s (fun u => u = s) := by
  have hdue : ∀ x ∈ s.cnp.fences, s.liftDue x = false := by
    intro x hx
    unfold State.liftDue
    cases hlifted : x.lifted with
    | true => rfl
    | false =>
      rw [hnone x hx hlifted]
      rfl
  refine ⟨s, ?_, rfl⟩
  rw [exec_unfenceInstant, List.filter_eq_nil_iff.mpr fun x hx => by rw [hdue x hx]; decide, List.foldl_nil,
    List.map_congr_left (g := id) fun x hx => by rw [hdue x hx]; rfl, List.map_id]
  rfl

end

/-- Settles O40: a fence that asserts sets its bit of FENCED and keeps those set, and what it signals leaves the fences held alone. -/
theorem firebreakFencesAndLifts : Obligations.FirebreakFencesAndLifts :=
  ⟨fun _ _ hc hl hp hroot hnone => firebreakFence_announces hc hl hp hroot hnone,
    fun _ _ hc hl hp hheld => firebreakFence_conflicts hc hl hp hheld,
    fenceInstant_asserts,
    fun _ _ hc hl hp hheld hm => firebreakClear_notes hc hl hp hheld hm,
    fun _ _ hc hl hp hheld hm => firebreakClear_early hc hl hp hheld hm,
    fun _ _ _ _ hone hdie hid hd hnew hlift hopen => unfenceInstant_lifts hone hdie hid hd hnew hlift hopen,
    fun _ hnone => unfenceInstant_none hnone⟩

end Sys2Proof.Machine
end

section
/-! SUPPORT. Doorbells, queue pairs and function-level reset (R464 to R469), over what a Heartwood record and an event change. -/

namespace Sys2Proof.Machine
open Sys2Proof

/-! ### Records (R501) -/

/-- Between s before and t after, records have been signalled: beside Taproot's records only the registers of Heartwood have changed. -/
structure Records (s t : State) : Prop where
  rest : { t with regs := s.regs, tap := s.tap } = s
  regs : RegsKept [.BX_HW_STS, .BX_HW_CNT] s t

namespace Records
variable {s t : State}

theorem refl (s : State) : Records s s := ⟨rfl, .refl _ s⟩

theorem branch {c : Prop} [Decidable c] (ht : Records s t) {u : State} (hu : Records s u) : Records s (if c then t else u) := by
  split <;> assumption

theorem trans (h : Records s t) {u : State} (hu : Records t u) : Records s u :=
  ⟨(congrArg (fun v : State => { v with regs := s.regs, tap := s.tap }) hu.rest :).trans h.rest, h.regs.trans hu.regs⟩

theorem wr (h : Records s t) {f : Fld} {i v : Nat} (hlo : f.lo < 64 := by decide) (hf : f.reg ∈ [Reg.BX_HW_STS, .BX_HW_CNT] := by decide) :
    Records s (t.wr f i v) := ⟨h.rest, h.regs.wr hlo hf⟩

theorem bump (h : Records s t) {f : Fld} {i n : Nat} (hlo : f.lo < 64 := by decide)
    (hf : f.reg ∈ [Reg.BX_HW_STS, .BX_HW_CNT] := by decide) : Records s (t.bump f i n) := h.wr hlo hf

theorem setTap (h : Records s t) {tap} : Records s { t with tap := tap } := ⟨h.rest, h.regs⟩

theorem hwWrite (h : Records s t) {r} : Records s (t.hwWrite r) :=
  .branch (Records.branch h.wr.bump h.wr).setTap (Records.branch h.wr.bump h.wr).setTap

theorem signal (h : Records s t) {r} : Records s (t.signal r) :=
  .branch h.hwWrite (.branch h.bump (.branch (Records.branch h.setTap h).bump (Records.branch h.setTap h).setTap))

theorem violation (h : Records s t) {partner row source idx} : Records s (t.violation partner row source idx) := h.signal

theorem wdn (h : Records s t) : t.wdn = s.wdn := (congrArg State.wdn h.rest :)
theorem cnp (h : Records s t) : t.cnp = s.cnp := (congrArg State.cnp h.rest :)
theorem links (h : Records s t) : t.links = s.links := (congrArg State.links h.rest :)

theorem rd (h : Records s t) {f : Fld} {i : Nat} (hlo : f.lo < 64 := by decide)
    (hf : f.reg ∉ [Reg.BX_HW_STS, .BX_HW_CNT] := by decide) : t.rd f i = s.rd f i := h.regs f i hlo hf

end Records

theorem State.signal_records (s : State) (r : HwRec) : Records s (s.signal r) := (Records.refl s).signal

theorem State.violation_records (s : State) (partner row source idx : Nat) : Records s (s.violation partner row source idx) := s.signal_records _

/-! ### Events (R470, R471) -/

/-- Between s before and t after, events have been posted to function f's ring: beside that ring, its status and the outputs nothing has
changed. -/
structure Posts (f : Nat) (s t : State) : Prop where
  rest : { t with regs := s.regs, out := s.out, wdn := { t.wdn with rings := s.wdn.rings } } = s
  regs : RegsKept [.BX_WDN_EV_STS] s t
  ring : ∀ g, g ≠ f → t.ring g = s.ring g

namespace Posts
variable {s t : State} {f : Nat}

theorem refl (f : Nat) (s : State) : Posts f s s := ⟨rfl, .refl _ s, fun _ _ => rfl⟩

theorem branch {c : Prop} [Decidable c] (ht : Posts f s t) {u : State} (hu : Posts f s u) : Posts f s (if c then t else u) := by
  split <;> assumption

theorem wr (h : Posts f s t) {g : Fld} {i v : Nat} (hlo : g.lo < 64 := by decide) (hg : g.reg ∈ [Reg.BX_WDN_EV_STS] := by decide) :
    Posts f s (t.wr g i v) := ⟨h.rest, h.regs.wr hlo hg, h.ring⟩

theorem setRing (h : Posts f s t) {r} : Posts f s (t.setRing f r) :=
  ⟨h.rest, h.regs, fun g hg => (SMap.getD_set_other _ r {} hg).trans (h.ring g hg)⟩

theorem emit (h : Posts f s t) {o} : Posts f s (t.emit o) := ⟨h.rest, h.regs, h.ring⟩

theorem takeEvSeq (h : Posts f s t) : Posts f s (t.takeEvSeq f) := h.wr

theorem ringPut (h : Posts f s t) {ev} : Posts f s (t.ringPut f ev) := h.emit.emit.setRing

theorem enterRing (h : Posts f s t) {kind body} : Posts f s (t.enterRing f kind body) :=
  .branch h.takeEvSeq.ringPut (.branch h.takeEvSeq.setRing h.takeEvSeq.setRing.wr)

theorem overflowIfDue (h : Posts f s t) : Posts f s (t.overflowIfDue f) := by
  dsimp only [State.overflowIfDue]
  split
  · exact h
  · exact .branch h.setRing.enterRing h

theorem post (h : Posts f s t) {kind body} : Posts f s (t.post f kind body) := .branch h.overflowIfDue.enterRing h

theorem drainRing (h : Posts f s t) {k} : Posts f s (drainRing f k t) := by
  induction k generalizing t with
  | zero => exact h
  | succ k ih =>
    unfold Machine.drainRing
    split
    · exact h
    · exact .branch (ih h.setRing.ringPut) h

theorem ringService (h : Posts f s t) : Posts f s (t.ringService f) := h.drainRing.overflowIfDue

end Posts

/-- Events posted to every ring leave all registers but the rings' status alone, and a ring that is not enabled. -/
theorem State.postAll_regs (s : State) (kind : Nat) (b : Bytes) : RegsKept [.BX_WDN_EV_STS] s (s.postAll kind b) :=
  List.foldlRecOn (motive := fun t : State => RegsKept [.BX_WDN_EV_STS] s t) _ _ (.refl _ s)
    fun t ht f _ => ht.trans (Posts.refl f t).post.regs

theorem State.postAll_disabled {s : State} {f : Nat} (hen : s.flag BX_WDN_EV_CFG_EN f = false) (kind : Nat) (b : Bytes) :
    (s.postAll kind b).ring f = s.ring f := by
  refine (List.foldlRecOn (motive := fun t : State => t.rd BX_WDN_EV_CFG_EN f = s.rd BX_WDN_EV_CFG_EN f ∧ t.ring f = s.ring f) (List.range 64) _
    ⟨rfl, rfl⟩ fun t ht g _ => ?_).2
  obtain ⟨hrd, hring⟩ := ht
  have hpost := (Posts.refl g t).post (kind := kind) (body := b)
  refine ⟨(hpost.regs _ _ (by decide) (by decide)).trans hrd, ?_⟩
  by_cases hg : f = g
  · subst hg
    have hoff : t.flag BX_WDN_EV_CFG_EN f = false := by
      unfold State.flag at hen ⊢
      rw [hrd]
      exact hen
    unfold State.post
    rw [hoff, if_neg Bool.false_ne_true]
    exact hring
  · exact (hpost.ring f hg).trans hring

/-! ### Queue pairs (R464 to R468) -/

/-- A queue pair that halts is in HALTED with its cause. -/
theorem State.haltQp_halts (s : State) (i row : Nat) {err : Nat} (herr : err < 16) :
    (s.haltQp i err row).rd BX_WDN_QP_STS_STATE i = 2 ∧ (s.haltQp i err row).rd BX_WDN_QP_STS_ERR i = err := by
  let t := (s.wr BX_WDN_QP_STS_STATE i 2).wr BX_WDN_QP_STS_ERR i err
  have hrec : Records t (s.haltQp i err row) := t.violation_records ..
  refine ⟨hrec.rd.trans ?_, hrec.rd.trans ?_⟩
  · exact (State.rd_wr_otherLo _ _ (by decide) (by decide) (by decide)).trans (s.rd_wr_same ..)
  · exact (State.rd_wr_same ..).trans (Nat.mod_eq_of_lt herr)

section
variable {s : State} {f q : Nat}

/-- The function and queue pair exist. -/
theorem not_outside (hf : f < 64) (hq : q < 4) : ¬ (64 ≤ f ∨ 4 ≤ q) := by omega

section
variable {tail : Nat}

theorem sqDoorbell_inRange (hf : f < 64) (hq : q < 4) (htail : tail < s.sqSize (qpIdx f q)) : Answers (.sqDoorbell f q tail) s (fun u =>
    u.rd BX_WDN_QP_DB_SQ_TAIL (qpIdx f q) = tail % 65536 ∧
    u.rd BX_WDN_QP_STS_STATE (qpIdx f q) = s.rd BX_WDN_QP_STS_STATE (qpIdx f q) ∧ { u with regs := s.regs } = s) := by
  let t := s.wr BX_WDN_QP_DB_SQ_TAIL (qpIdx f q) tail
  have hsize : t.sqSize (qpIdx f q) = s.sqSize (qpIdx f q) :=
    congrArg (2 ^ ·) (s.rd_wr_otherReg tail (by decide) (by decide) (by decide))
  refine ⟨t, ?_, s.rd_wr_same .., s.rd_wr_otherReg _ (by decide) (by decide) (by decide), rfl⟩
  change execSqDoorbell f q tail s = done t
  unfold execSqDoorbell
  dsimp only
  rw [if_neg (not_outside hf hq), if_neg fun h => absurd (hsize ▸ h.2) (Nat.not_le.mpr htail)]

theorem sqDoorbell_halts (hf : f < 64) (hq : q < 4) (hrun : s.rd BX_WDN_QP_STS_STATE (qpIdx f q) = 1) (htail : s.sqSize (qpIdx f q) ≤ tail) :
    Answers (.sqDoorbell f q tail) s (fun u =>
      u.rd BX_WDN_QP_STS_STATE (qpIdx f q) = 2 ∧ u.rd BX_WDN_QP_STS_ERR (qpIdx f q) = 2) := by
  let t := s.wr BX_WDN_QP_DB_SQ_TAIL (qpIdx f q) tail
  have hsize : t.sqSize (qpIdx f q) = s.sqSize (qpIdx f q) :=
    congrArg (2 ^ ·) (s.rd_wr_otherReg tail (by decide) (by decide) (by decide))
  have hstate : t.rd BX_WDN_QP_STS_STATE (qpIdx f q) = 1 := (s.rd_wr_otherReg tail (by decide) (by decide) (by decide)).trans hrun
  refine ⟨t.haltQp (qpIdx f q) 2 3, ?_, t.haltQp_halts _ 3 (by decide)⟩
  change execSqDoorbell f q tail s = done _
  unfold execSqDoorbell
  dsimp only
  rw [if_neg (not_outside hf hq), if_pos ⟨hstate, hsize ▸ htail⟩]

end

section
variable {head : Nat}

/-- The entries from the oldest one held to a head. -/
def ringDist (n old head : Nat) : Nat := (head + n - old) % n

theorem cqHeadWrite_inRange (hf : f < 64) (hq : q < 4) (hhead : head < s.cqSize (qpIdx f q))
    (hdist : ringDist (s.cqSize (qpIdx f q)) (s.rd BX_WDN_QP_DB_CQ_HEAD (qpIdx f q)) head ≤
      ringDist (s.cqSize (qpIdx f q)) (s.rd BX_WDN_QP_DB_CQ_HEAD (qpIdx f q)) (s.rd BX_WDN_QP_STS_CQ_TAIL (qpIdx f q))) :
    Answers (.cqHeadWrite f q head) s (fun u => u.rd BX_WDN_QP_DB_CQ_HEAD (qpIdx f q) = head % 65536 ∧
      u.rd BX_WDN_QP_STS_STATE (qpIdx f q) = s.rd BX_WDN_QP_STS_STATE (qpIdx f q) ∧ { u with regs := s.regs } = s) := by
  let t := s.wr BX_WDN_QP_DB_CQ_HEAD (qpIdx f q) head
  refine ⟨t, ?_, s.rd_wr_same .., s.rd_wr_otherReg _ (by decide) (by decide) (by decide), rfl⟩
  change execCqHeadWrite f q head s = done t
  unfold execCqHeadWrite
  dsimp only
  unfold ringDist at hdist
  rw [if_neg (not_outside hf hq), if_neg (by simp; omega)]

theorem cqHeadWrite_halts (hf : f < 64) (hq : q < 4) (hrun : s.rd BX_WDN_QP_STS_STATE (qpIdx f q) = 1)
    (hdist : ringDist (s.cqSize (qpIdx f q)) (s.rd BX_WDN_QP_DB_CQ_HEAD (qpIdx f q)) (s.rd BX_WDN_QP_STS_CQ_TAIL (qpIdx f q)) <
      ringDist (s.cqSize (qpIdx f q)) (s.rd BX_WDN_QP_DB_CQ_HEAD (qpIdx f q)) head) :
    Answers (.cqHeadWrite f q head) s (fun u =>
      u.rd BX_WDN_QP_STS_STATE (qpIdx f q) = 2 ∧ u.rd BX_WDN_QP_STS_ERR (qpIdx f q) = 2) := by
  let t := s.wr BX_WDN_QP_DB_CQ_HEAD (qpIdx f q) head
  have hstate : t.rd BX_WDN_QP_STS_STATE (qpIdx f q) = 1 := (s.rd_wr_otherReg head (by decide) (by decide) (by decide)).trans hrun
  refine ⟨t.haltQp (qpIdx f q) 2 3, ?_, t.haltQp_halts _ 3 (by decide)⟩
  change execCqHeadWrite f q head s = done _
  unfold execCqHeadWrite
  dsimp only
  unfold ringDist at hdist
  rw [if_neg (not_outside hf hq), if_pos ⟨hstate, decide_eq_true (Or.inr hdist)⟩]

theorem evHeadWrite_inRange (hf : f < 64) (hhead : head < s.ringSize f)
    (hdist : ringDist (s.ringSize f) (s.rd BX_WDN_EV_DB_HEAD f) head ≤ ringDist (s.ringSize f) (s.rd BX_WDN_EV_DB_HEAD f) (s.ring f).tail) :
    Answers (.evHeadWrite f head) s (fun u => u.rd BX_WDN_EV_DB_HEAD f = head % 65536) := by
  let t := s.wr BX_WDN_EV_DB_HEAD f head
  refine ⟨t.ringService f, ?_, ((Posts.refl f t).ringService.regs _ _ (by decide) (by decide)).trans (s.rd_wr_same ..)⟩
  change execEvHeadWrite f head s = done _
  unfold execEvHeadWrite
  dsimp only
  unfold ringDist at hdist
  rw [if_neg (Nat.not_le.mpr hf), if_neg (by omega)]

theorem evHeadWrite_ignored (hf : f < 64)
    (hdist : ringDist (s.ringSize f) (s.rd BX_WDN_EV_DB_HEAD f) (s.ring f).tail < ringDist (s.ringSize f) (s.rd BX_WDN_EV_DB_HEAD f) head) :
    Answers (.evHeadWrite f head) s (fun u => u.rd BX_WDN_EV_DB_HEAD f = s.rd BX_WDN_EV_DB_HEAD f ∧
      s.counted u BX_VIOL_HOST_EV_HEAD 0 1 ∧ u.wdn = s.wdn) := by
  let t := s.bump BX_VIOL_HOST_EV_HEAD
  have hrec : Records t (t.violation 4 9 15 f) := t.violation_records ..
  refine ⟨t.violation 4 9 15 f, ?_, hrec.rd.trans (s.rd_bump_otherReg ..), hrec.rd.trans (s.counted_bump ..), hrec.wdn⟩
  change execEvHeadWrite f head s = done _
  unfold execEvHeadWrite
  dsimp only
  unfold ringDist at hdist
  rw [if_neg (Nat.not_le.mpr hf), if_pos (Or.inr hdist)]

end

theorem qpEnable_starts (hf : f < 64) (hq : q < 4) (hen : s.flag BX_WDN_QP_CFG_EN (qpIdx f q) = false) : Answers (.qpEnable f q) s (fun u =>
    u.rd BX_WDN_QP_CFG_EN (qpIdx f q) = 1 ∧ u.rd BX_WDN_QP_STS_SQ_HEAD (qpIdx f q) = 0 ∧ u.rd BX_WDN_QP_STS_CQ_TAIL (qpIdx f q) = 0 ∧
    u.rd BX_WDN_QP_STS_STATE (qpIdx f q) = 1 ∧ u.rd BX_WDN_QP_STS_ERR (qpIdx f q) = 0 ∧ u.wdn.prog = s.wdn.prog) := by
  let i := qpIdx f q
  let t₁ := s.wr BX_WDN_QP_CFG_EN i 1
  let t₂ := t₁.wr BX_WDN_QP_STS_SQ_HEAD i 0
  let t₃ := t₂.wr BX_WDN_QP_STS_CQ_TAIL i 0
  let t₄ := t₃.wr BX_WDN_QP_STS_STATE i 1
  let t₅ := t₄.wr BX_WDN_QP_STS_ERR i 0
  have hkept : RegsKept [.BX_WDN_QP_STS] t₁ t₅ := .wr (.wr (.wr (.wr (.refl _ t₁))))
  let u : State := { t₅ with wdn := { t₅.wdn with qps := t₅.wdn.qps.set i { phase := true } } }
  have hsame (g : Fld) : u.rd g i = t₅.rd g i := State.rd_congr (show u.regs = t₅.regs from rfl) g i
  refine ⟨u, ?_, (hsame _).trans ?_, (hsame _).trans ?_, (hsame _).trans ?_, (hsame _).trans ?_, (hsame _).trans ?_, rfl⟩
  · change execQpEnable f q s = done _
    unfold execQpEnable
    dsimp only
    rw [hen, if_neg (by simp; omega)]
  · exact (hkept BX_WDN_QP_CFG_EN i (by decide) (by decide)).trans (s.rd_wr_same ..)
  · exact (t₄.rd_wr_otherLo _ (by decide) (by decide) (by decide)).trans ((t₃.rd_wr_otherLo _ (by decide) (by decide) (by decide)).trans
      ((t₂.rd_wr_otherLo _ (by decide) (by decide) (by decide)).trans (t₁.rd_wr_same ..)))
  · exact (t₄.rd_wr_otherLo _ (by decide) (by decide) (by decide)).trans ((t₃.rd_wr_otherLo _ (by decide) (by decide) (by decide)).trans
      (t₂.rd_wr_same ..))
  · exact (t₄.rd_wr_otherLo _ (by decide) (by decide) (by decide)).trans (t₃.rd_wr_same ..)
  · exact t₄.rd_wr_same ..

theorem qpEnable_enabled (hen : s.flag BX_WDN_QP_CFG_EN (qpIdx f q) = true) : Answers (.qpEnable f q) s (fun u => u = s) := by
  refine ⟨s, ?_, rfl⟩
  change execQpEnable f q s = done s
  unfold execQpEnable
  dsimp only
  rw [if_pos (Or.inr (Or.inr hen))]

/-- A disabled queue pair is off and idle, and its capsules in progress are counted and gone. -/
structure Disables (s : State) (i : Nat) (u : State) : Prop where
  en : u.rd BX_WDN_QP_CFG_EN i = 0
  state : u.rd BX_WDN_QP_STS_STATE i = 0
  counted : s.counted u BX_WDN_CNT1_DISCARDED 0 (s.inProg i)
  rest : { u with regs := s.regs, wdn := { u.wdn with prog := s.wdn.prog } } = s
  others : ∀ k ≠ i, u.rd BX_WDN_QP_CFG_EN k = s.rd BX_WDN_QP_CFG_EN k ∧ u.rd BX_WDN_QP_STS_STATE k = s.rd BX_WDN_QP_STS_STATE k
  regs : RegsKept [.BX_WDN_QP_CFG, .BX_WDN_QP_STS, .BX_WDN_CNT1] s u

theorem State.disableQp_disables (s : State) (i : Nat) : Disables s i (s.disableQp i) := by
  let t₁ := s.wr BX_WDN_QP_CFG_EN i 0
  let t₂ := t₁.wr BX_WDN_QP_STS_STATE i 0
  let t₃ := t₂.bump BX_WDN_CNT1_DISCARDED 0 (t₂.inProg i)
  have hlast : (s.disableQp i).regs = t₃.regs := rfl
  refine ⟨?_, ?_, ?_, rfl, fun k hk => ⟨?_, ?_⟩, ?_⟩
  · exact (State.rd_congr hlast _ _).trans ((t₂.rd_bump_otherReg ..).trans ((t₁.rd_wr_otherReg _ (by decide) (by decide) (by decide)).trans
      (s.rd_wr_same ..)))
  · exact (State.rd_congr hlast _ _).trans ((t₂.rd_bump_otherReg ..).trans (t₁.rd_wr_same ..))
  · refine (State.rd_congr hlast _ _).trans ?_
    have hbefore : t₂.rd BX_WDN_CNT1_DISCARDED = s.rd BX_WDN_CNT1_DISCARDED :=
      (t₁.rd_wr_otherReg _ (by decide) (by decide) (by decide)).trans (s.rd_wr_otherReg _ (by decide) (by decide) (by decide))
    exact State.counted_of_before hbefore (t₂.counted_bump ..)
  · exact (State.rd_congr hlast _ _).trans ((t₂.rd_bump_otherReg ..).trans ((t₁.rd_wr_otherReg _ (by decide) (by decide) (by decide)).trans
      (s.rd_wr_otherIdx _ (by decide) (by decide) hk)))
  · exact (State.rd_congr hlast _ _).trans ((t₂.rd_bump_otherReg ..).trans ((t₁.rd_wr_otherIdx _ (by decide) (by decide) hk).trans
      (s.rd_wr_otherReg _ (by decide) (by decide) (by decide))))
  · have h : RegsKept [.BX_WDN_QP_CFG, .BX_WDN_QP_STS, .BX_WDN_CNT1] s t₃ := .wr (.wr (.wr (.refl _ s)))
    exact fun g k hlo hg => (State.rd_congr hlast g k).trans (h g k hlo hg)

theorem qpDisable_stops (hf : f < 64) (hq : q < 4) : Answers (.qpDisable f q) s (fun u => u.rd BX_WDN_QP_CFG_EN (qpIdx f q) = 0 ∧
    u.rd BX_WDN_QP_STS_STATE (qpIdx f q) = 0 ∧ s.counted u BX_WDN_CNT1_DISCARDED 0 (s.inProg (qpIdx f q)) ∧
    u.wdn.prog = s.wdn.prog.filter (fun g => ¬ (g.cap.path = 0 ∧ qpIdx g.cap.fn g.cap.qp = qpIdx f q)) ∧ u.wdn.replies = s.wdn.replies) := by
  have h := s.disableQp_disables (qpIdx f q)
  refine ⟨s.disableQp (qpIdx f q), ?_, h.en, h.state, h.counted, rfl, rfl⟩
  change execQpDisable f q s = done _
  unfold execQpDisable
  rw [if_neg (not_outside hf hq)]

/-! ### Function-level reset (R469) -/

/-- Every queue pair of a function is disabled. -/
def State.disableQps (s : State) (f : Nat) : State := (List.range 4).foldl (fun s q => s.disableQp (qpIdx f q)) s

theorem State.disableQps_off (s : State) {f q : Nat} (hq : q < 4) :
    (s.disableQps f).rd BX_WDN_QP_CFG_EN (qpIdx f q) = 0 ∧ (s.disableQps f).rd BX_WDN_QP_STS_STATE (qpIdx f q) = 0 := by
  refine foldl_reaches (E := fun _ : State => True)
    (P := fun t : State => t.rd BX_WDN_QP_CFG_EN (qpIdx f q) = 0 ∧ t.rd BX_WDN_QP_STS_STATE (qpIdx f q) = 0) (List.mem_range.mpr hq)
    (fun _ _ _ => trivial) (fun t p _ ht => ?_) (fun t _ => ?_) trivial
  · have h := t.disableQp_disables (qpIdx f p)
    by_cases hp : qpIdx f q = qpIdx f p
    · rw [hp]
      exact ⟨h.en, h.state⟩
    · obtain ⟨hen, hstate⟩ := h.others _ hp
      exact ⟨hen.trans ht.1, hstate.trans ht.2⟩
  · have h := t.disableQp_disables (qpIdx f q)
    exact ⟨h.en, h.state⟩

theorem State.disableQps_regs (s : State) (f : Nat) : RegsKept [.BX_WDN_QP_CFG, .BX_WDN_QP_STS, .BX_WDN_CNT1] s (s.disableQps f) :=
  (RegsKept.refl _ s).foldl fun t q ht => ht.trans (t.disableQp_disables (qpIdx f q)).regs

/-- A DMA channel bound to a function that is reset is DISABLED. -/
def State.disableCh (s : State) (f c : Nat) : State :=
  if s.rd BX_DMA_CH_CFG_FUNC c = f ∧ s.flag BX_DMA_CH_CFG_EN c then
    (({ s with hbm := { s.hbm with chans := s.hbm.chans.erase c } }).wr BX_DMA_CH_STS_STATE c 3).wr BX_DMA_CH_CFG_EN c 0
  else s

def State.disableChs (s : State) (f : Nat) : State := (List.range 128).foldl (fun s c => s.disableCh f c) s

theorem State.disableCh_regs (s : State) (f c : Nat) : RegsKept [.BX_DMA_CH_CFG, .BX_DMA_CH_STS] s (s.disableCh f c) := by
  let t : State := { s with hbm := { s.hbm with chans := s.hbm.chans.erase c } }
  have h : RegsKept [.BX_DMA_CH_CFG, .BX_DMA_CH_STS] t ((t.wr BX_DMA_CH_STS_STATE c 3).wr BX_DMA_CH_CFG_EN c 0) := .wr (.wr (.refl _ t))
  exact .branch h (.refl _ s)

theorem State.disableCh_wdn (s : State) (f c : Nat) : (s.disableCh f c).wdn = s.wdn := by
  unfold State.disableCh
  split <;> rfl

/-- A channel keeps its function, whichever channel is disabled. -/
theorem State.disableCh_func (s : State) (f c k : Nat) : (s.disableCh f c).rd BX_DMA_CH_CFG_FUNC k = s.rd BX_DMA_CH_CFG_FUNC k := by
  unfold State.disableCh
  split
  · exact (State.rd_wr_otherLo _ _ (by decide) (by decide) (by decide)).trans
      (State.rd_wr_otherReg _ _ (by decide) (by decide) (by decide))
  · rfl

/-- The channel is DISABLED and not enabled. -/
def State.ChOff (s : State) (c : Nat) : Prop := s.rd BX_DMA_CH_CFG_EN c = 0 ∧ s.rd BX_DMA_CH_STS_STATE c = 3

theorem State.disableCh_same {s : State} {f c : Nat} (hfn : s.rd BX_DMA_CH_CFG_FUNC c = f) (hen : s.flag BX_DMA_CH_CFG_EN c = true) :
    (s.disableCh f c).ChOff c := by
  unfold State.disableCh
  rw [if_pos ⟨hfn, hen⟩]
  exact ⟨State.rd_wr_same _ _ _ 0, (State.rd_wr_otherReg _ _ (by decide) (by decide) (by decide)).trans (State.rd_wr_same _ _ _ 3)⟩

theorem State.disableCh_other {s : State} {f c k : Nat} (hk : k ≠ c) : (s.disableCh f c).rd BX_DMA_CH_CFG_EN k = s.rd BX_DMA_CH_CFG_EN k ∧
    (s.disableCh f c).rd BX_DMA_CH_STS_STATE k = s.rd BX_DMA_CH_STS_STATE k := by
  unfold State.disableCh
  split
  · exact ⟨(State.rd_wr_otherIdx _ _ (by decide) (by decide) hk).trans (State.rd_wr_otherReg _ _ (by decide) (by decide) (by decide)),
      (State.rd_wr_otherReg _ _ (by decide) (by decide) (by decide)).trans (State.rd_wr_otherIdx _ _ (by decide) (by decide) hk)⟩
  · exact ⟨rfl, rfl⟩

/-- A channel that is off stays off. -/
theorem State.disableCh_off {s : State} {k : Nat} (h : s.ChOff k) (f c : Nat) : (s.disableCh f c).ChOff k := by
  by_cases hk : k = c
  · subst hk
    have hen : s.flag BX_DMA_CH_CFG_EN k = false := by
      unfold State.flag
      rw [h.1]
      rfl
    unfold State.disableCh
    rw [hen, if_neg fun h => Bool.false_ne_true h.2]
    exact h
  · obtain ⟨hen, hstate⟩ := State.disableCh_other (s := s) (f := f) hk
    exact ⟨hen.trans h.1, hstate.trans h.2⟩

theorem State.disableChs_off {s : State} {f c : Nat} (hc : c < 128) (hfn : s.rd BX_DMA_CH_CFG_FUNC c = f)
    (hen : s.flag BX_DMA_CH_CFG_EN c = true) : (s.disableChs f).ChOff c := by
  refine foldl_reaches (E := fun t : State => t.rd BX_DMA_CH_CFG_FUNC c = f ∧ (t.flag BX_DMA_CH_CFG_EN c = true ∨ t.ChOff c))
    (P := fun t : State => t.ChOff c) (List.mem_range.mpr hc) (fun t k ht => ⟨(t.disableCh_func f k c).trans ht.1, ?_⟩)
    (fun t k _ hoff => State.disableCh_off hoff f k) (fun t ht => ?_) ⟨hfn, .inl hen⟩
  · rcases ht.2 with hon | hoff
    · by_cases hk : c = k
      · subst hk
        exact .inr (State.disableCh_same ht.1 hon)
      · refine .inl ?_
        unfold State.flag at hon ⊢
        rw [(State.disableCh_other hk).1]
        exact hon
    · exact .inr (State.disableCh_off hoff f k)
  · exact ht.2.elim (State.disableCh_same ht.1) (State.disableCh_off · f c)

theorem State.disableRing_regs (s : State) (f : Nat) : RegsKept [.BX_WDN_EV_CFG] s (s.disableRing f) := by
  have h : RegsKept [.BX_WDN_EV_CFG] s (s.wr BX_WDN_EV_CFG_EN f 0) := .wr (.refl _ s)
  exact h

theorem State.disableRing_en (s : State) (f : Nat) : (s.disableRing f).rd BX_WDN_EV_CFG_EN f = 0 := s.rd_wr_same BX_WDN_EV_CFG_EN f 0

theorem State.ring_disableRing (s : State) (f : Nat) : (s.disableRing f).ring f = {} := SMap.getD_set_same ..

theorem flr_disables (hf : f < 64) : Answers (.flr f) s (fun u =>
    (∀ q < 4, u.rd BX_WDN_QP_CFG_EN (qpIdx f q) = 0 ∧ u.rd BX_WDN_QP_STS_STATE (qpIdx f q) = 0) ∧ u.rd BX_WDN_EV_CFG_EN f = 0 ∧
    u.ring f = {} ∧ ∀ c < 128, s.rd BX_DMA_CH_CFG_FUNC c = f → s.flag BX_DMA_CH_CFG_EN c = true → u.ChOff c) := by
  let t₁ := s.disableQps f
  let t₂ := t₁.disableRing f
  let t₃ := t₂.disableChs f
  let u := t₃.postAll 0x31 (leBytes 8 (t₃.rd BX_CNP_IDENT_BOOT * 2 ^ 32 + 3))
  have h₁ : RegsKept [.BX_WDN_QP_CFG, .BX_WDN_QP_STS, .BX_WDN_CNT1] s t₁ := s.disableQps_regs f
  have h₂ : RegsKept [.BX_WDN_EV_CFG] t₁ t₂ := t₁.disableRing_regs f
  have h₃ : RegsKept [.BX_DMA_CH_CFG, .BX_DMA_CH_STS] t₂ t₃ := (RegsKept.refl _ t₂).foldl fun v c hv => hv.trans (v.disableCh_regs f c)
  have h₄ : RegsKept [.BX_WDN_EV_STS] t₃ u := t₃.postAll_regs _ _
  have hwdn : t₃.wdn = t₂.wdn :=
    List.foldlRecOn (motive := fun v : State => v.wdn = t₂.wdn) (List.range 128) _ rfl fun v hv c _ => (v.disableCh_wdn f c).trans hv
  have hring : t₃.ring f = {} := (congrArg (fun w : Warden => w.rings.getD f {}) hwdn).trans (t₁.ring_disableRing f)
  have hen : t₃.rd BX_WDN_EV_CFG_EN f = 0 := (h₃ _ _ (by decide) (by decide)).trans (t₁.disableRing_en f)
  have hoff : t₃.flag BX_WDN_EV_CFG_EN f = false := by
    unfold State.flag
    rw [hen]
    rfl
  refine ⟨u, ?_, fun q hq => ?_, (h₄ _ _ (by decide) (by decide)).trans hen, (State.postAll_disabled hoff _ _).trans hring, fun c hc hfn hon
      => ?_⟩
  · change execFlr f s = done u
    unfold execFlr
    rw [if_neg (Nat.not_le.mpr hf)]
    rfl
  · obtain ⟨hcfg, hstate⟩ := s.disableQps_off (f := f) hq
    exact ⟨(h₄ _ _ (by decide) (by decide)).trans ((h₃ _ _ (by decide) (by decide)).trans ((h₂ _ _ (by decide) (by decide)).trans hcfg)),
      (h₄ _ _ (by decide) (by decide)).trans ((h₃ _ _ (by decide) (by decide)).trans ((h₂ _ _ (by decide) (by decide)).trans hstate))⟩
  · have hfn₂ : t₂.rd BX_DMA_CH_CFG_FUNC c = f := (h₂ _ _ (by decide) (by decide)).trans ((h₁ _ _ (by decide) (by decide)).trans hfn)
    have hon₂ : t₂.flag BX_DMA_CH_CFG_EN c = true := by
      unfold State.flag at hon ⊢
      rw [h₂ _ _ (by decide) (by decide), h₁ _ _ (by decide) (by decide)]
      exact hon
    have hch := State.disableChs_off hc hfn₂ hon₂
    exact ⟨(h₄ _ _ (by decide) (by decide)).trans hch.1, (h₄ _ _ (by decide) (by decide)).trans hch.2⟩

end

/-- Settles O43: a write out of range halts its queue pair, and what is signalled or posted besides touches neither the rings' heads nor the
queue pairs. -/
theorem doorbellsMoveTheRings : Obligations.DoorbellsMoveTheRings :=
  ⟨fun _ _ _ _ hf hq htail => sqDoorbell_inRange hf hq htail,
    fun _ _ _ _ hf hq hrun htail => sqDoorbell_halts hf hq hrun htail,
    fun _ _ _ _ hf hq hhead hdist => cqHeadWrite_inRange hf hq hhead hdist,
    fun _ _ _ _ hf hq hrun hdist => cqHeadWrite_halts hf hq hrun hdist,
    fun _ _ _ hf hhead hdist => evHeadWrite_inRange hf hhead hdist,
    fun _ _ _ hf hdist => evHeadWrite_ignored hf hdist,
    fun _ _ _ hf hq hen => qpEnable_starts hf hq hen,
    fun _ _ _ _ _ hen => qpEnable_enabled hen,
    fun _ _ _ hf hq => qpDisable_stops hf hq,
    fun _ _ hf => flr_disables hf⟩

end Sys2Proof.Machine
end

section
/-! SUPPORT. Capsules fetched, replies written, timeouts and relay (R458, R464 to R466, R468, R475). -/

namespace Sys2Proof.Machine
open Sys2Proof

/-! ### A capsule is judged and taken (Table 16-3) -/

/-- What the checks of a capsule read: the capsules in progress, the life cycle, the firmware's state and the aggregator. -/
theorem State.capsuleCheck_congr {s t : State} (hprog : t.wdn.prog = s.wdn.prog) (hlc : t.rd BX_LC_STS_STATE = s.rd BX_LC_STS_STATE)
    (hfw : t.rd BX_WDN_FW_STS_STATE = s.rd BX_WDN_FW_STS_STATE) (hagg : t.agg = s.agg) (h : CapWord) (c : Cap) (host : Bool) :
    t.capsuleCheck h c host = s.capsuleCheck h c host := by
  have hopen : t.openTo h.op c = s.openTo h.op c := by
    unfold State.openTo State.recovery
    rw [hlc, hfw]
  unfold State.capsuleCheck
  rw [hprog, hopen, hagg]

theorem State.dispatchCap_begins {s : State} {h : CapWord} {c : Cap} {host : Bool} (hok : s.capsuleCheck h c host = none)
    (hrelay : h.relay = false) (hzx : zxOpcode h.op = false) : s.dispatchCap h c host = s.begin h.op c := by
  unfold State.dispatchCap
  rw [hok]
  dsimp only
  rw [hrelay, hzx, if_neg fun h => Bool.false_ne_true h.1, if_neg Bool.false_ne_true]

/-- The counter of a refusal of R466 counts a duplicate TAG, nothing else. -/
def State.countDupTag (s : State) (reason : Nat) : State := if reason = 0xF1 then s.bump BX_WDN_CNT1_DUP_TAG else s

theorem State.dispatchCap_fails {s : State} {h : CapWord} {c : Cap} {host : Bool} {x : Nat × Nat} (hbad : s.capsuleCheck h c host = some x) :
    Records (((s.begin h.op c).countDupTag x.2).reply c h.op x.1 [] x.2) (s.dispatchCap h c host) := by
  unfold State.dispatchCap
  rw [hbad]
  exact .branch (State.violation_records ..) (.refl _)

theorem Records.lastReply {s t : State} (h : Records s t) : t.lastReply = s.lastReply := congrArg (fun w : Warden =>
  w.replies.getLast?.map (fun (r : Reply) => (r.cap, r.op, r.status, r.results))) h.wdn

/-- A reply counts no capsule. -/
theorem State.reply_capsules (s : State) (c : Cap) (op status : Nat) (res : List Nat) (reason : Nat) (w : Option (Nat × Bytes)) :
    (s.reply c op status res reason w).rd BX_WDN_CNT0_CAPSULES = s.rd BX_WDN_CNT0_CAPSULES := by
  have hbump (t : State) (p : Prop) [Decidable p] (f : Fld) (hlo : f.lo < 64) (hf : f.reg = .BX_WDN_CNT0 → BX_WDN_CNT0_CAPSULES.lo ≠ f.lo) :
      (if p then t.bump f else t).rd BX_WDN_CNT0_CAPSULES = t.rd BX_WDN_CNT0_CAPSULES := by
    split
    · by_cases h : f.reg = .BX_WDN_CNT0
      · exact t.rd_wr_otherLo _ hlo (by decide) (hf h)
      · exact t.rd_wr_otherReg _ hlo (by decide) (Ne.symm h)
    · rfl
  exact ((hbump _ _ BX_WDN_CNT0_BADOP (by decide) fun _ => by decide).trans (hbump _ _ BX_WDN_CNT1_TIMEOUTS (by decide) (by decide))).trans
    (hbump s _ BX_WDN_CNT0_DENIED (by decide) fun _ => by decide)

/-! ### Fetch (R464 to R466) -/

/-- The capsule's slot is taken: SQ_HEAD moves on, and the fetch is on record and counted. -/
def State.fetched (s : State) (f q : Nat) : State :=
  ((s.wr BX_WDN_QP_STS_SQ_HEAD (qpIdx f q) ((s.rd BX_WDN_QP_STS_SQ_HEAD (qpIdx f q) + 1) % s.sqSize (qpIdx f q))).served f q).bump
    BX_WDN_CNT0_CAPSULES

theorem State.fetched_regs (s : State) (f q : Nat) : RegsKept [.BX_WDN_QP_STS, .BX_WDN_CNT0] s (s.fetched f q) := by
  let t := s.wr BX_WDN_QP_STS_SQ_HEAD (qpIdx f q) ((s.rd BX_WDN_QP_STS_SQ_HEAD (qpIdx f q) + 1) % s.sqSize (qpIdx f q))
  have ht : RegsKept [.BX_WDN_QP_STS, .BX_WDN_CNT0] s t := .wr (.refl _ s)
  have hserved : RegsKept [.BX_WDN_QP_STS, .BX_WDN_CNT0] s (t.served f q) := ht
  exact hserved.wr

theorem State.fetched_sqHead (s : State) (f q : Nat) : (s.fetched f q).rd BX_WDN_QP_STS_SQ_HEAD (qpIdx f q) =
    (s.rd BX_WDN_QP_STS_SQ_HEAD (qpIdx f q) + 1) % s.sqSize (qpIdx f q) % 65536 :=
  (State.rd_bump_otherReg _ _ _ _ (f := BX_WDN_CNT0_CAPSULES)).trans
    (s.rd_wr_same BX_WDN_QP_STS_SQ_HEAD (qpIdx f q) ((s.rd BX_WDN_QP_STS_SQ_HEAD (qpIdx f q) + 1) % s.sqSize (qpIdx f q)))

theorem State.fetched_counted (s : State) (f q : Nat) : s.counted (s.fetched f q) BX_WDN_CNT0_CAPSULES 0 1 :=
  State.counted_of_before (s.rd_wr_otherReg _ (by decide) (by decide) (by decide)) (State.counted_bump ..)

theorem State.fetched_check (s : State) (f q : Nat) (h : CapWord) (c : Cap) (host : Bool) :
    (s.fetched f q).capsuleCheck h c host = s.capsuleCheck h c host := by
  have hkept := s.fetched_regs f q
  have hrd {g : Fld} (hlo : g.lo < 64 := by decide) (hg : g.reg ∉ [Reg.BX_WDN_QP_STS, .BX_WDN_CNT0] := by decide) :
      (s.fetched f q).rd g = s.rd g := hkept g 0 hlo hg
  exact State.capsuleCheck_congr (t := s.fetched f q) (s := s) rfl hrd hrd (hrd (g := BX_CNP_IDENT_AGG_ID)) h c host

section
variable {s : State} {f q : Nat} {ws block : List Nat} {data : Bytes} {poison host : Bool}

theorem capsuleFetch_none {err : Nat} (hnext : s.nextFetch = none) : Answers (.capsuleFetch ws block data err poison host) s (fun u => u =
    s) := by
  refine ⟨s, ?_, rfl⟩
  change execCapsuleFetch ws block data err poison host s = done s
  unfold execCapsuleFetch
  rw [hnext]

theorem capsuleFetch_error {err : Nat} (hnext : s.nextFetch = some (f, q)) (herr : err ≠ 0) :
    Answers (.capsuleFetch ws block data err poison host) s (fun u => u.rd BX_WDN_QP_STS_STATE (qpIdx f q) = 2 ∧
      u.rd BX_WDN_QP_STS_ERR (qpIdx f q) = (if err = 4 then 4 else 1) ∧ u.wdn = s.wdn) := by
  have hcause : (if err = 4 then 4 else 1) < 16 := by split <;> decide
  obtain ⟨hstate, hcode⟩ := s.haltQp_halts (qpIdx f q) 4 hcause
  refine ⟨s.haltQp (qpIdx f q) (if err = 4 then 4 else 1) 4, ?_, hstate, hcode, (State.violation_records ..).wdn⟩
  change execCapsuleFetch ws block data err poison host s = done _
  unfold execCapsuleFetch
  rw [hnext]
  dsimp only
  rw [if_pos herr]

/-- A fetch that reads its capsule takes the slot first. -/
theorem exec_capsuleFetch_read (hnext : s.nextFetch = some (f, q)) : exec (.capsuleFetch ws block data 0 poison host) s = done
    (if poison then
      (((s.fetched f q).bump BX_WDN_CNT1_POISON_DROP).bump BX_BLZ_PSN_CNT1_WARDEN).signal { ty := 0x0606, source := 15, idx := qpIdx f q }
    else (s.fetched f q).dispatchCap (mkCap 0 f f q ws block data).1 (mkCap 0 f f q ws block data).2 host) := by
  change execCapsuleFetch ws block data 0 poison host s = _
  unfold execCapsuleFetch
  rw [hnext]
  dsimp only
  rw [if_neg (by decide)]
  cases poison
  · rfl
  · rfl

theorem capsuleFetch_poisoned (hnext : s.nextFetch = some (f, q)) : Answers (.capsuleFetch ws block data 0 true host) s (fun u =>
    s.counted u BX_WDN_CNT1_POISON_DROP 0 1 ∧ s.counted u BX_WDN_CNT0_CAPSULES 0 1 ∧ u.wdn.prog = s.wdn.prog ∧
    u.rd BX_WDN_QP_STS_SQ_HEAD (qpIdx f q) = (s.rd BX_WDN_QP_STS_SQ_HEAD (qpIdx f q) + 1) % s.sqSize (qpIdx f q) % 65536) := by
  let t := s.fetched f q
  let v := t.bump BX_WDN_CNT1_POISON_DROP
  let w := v.bump BX_BLZ_PSN_CNT1_WARDEN
  have hrec : Records w (w.signal { ty := 0x0606, source := 15, idx := qpIdx f q }) := w.signal_records _
  have hbefore : t.rd BX_WDN_CNT1_POISON_DROP = s.rd BX_WDN_CNT1_POISON_DROP := s.fetched_regs f q _ _ (by decide) (by decide)
  refine ⟨_, (exec_capsuleFetch_read hnext).trans (congrArg done (if_pos rfl)), ?_, ?_, (congrArg Warden.prog hrec.wdn :), ?_⟩
  · exact hrec.rd.trans ((v.rd_bump_otherReg ..).trans (State.counted_of_before hbefore (t.counted_bump ..)))
  · exact hrec.rd.trans ((v.rd_bump_otherReg ..).trans ((t.rd_bump_otherReg ..).trans (s.fetched_counted f q)))
  · exact hrec.rd.trans ((v.rd_bump_otherReg ..).trans ((t.rd_bump_otherReg ..).trans (s.fetched_sqHead f q)))

theorem capsuleFetch_begins {h : CapWord} {c : Cap} (hnext : s.nextFetch = some (f, q)) (hcap : mkCap 0 f f q ws block data = (h, c))
    (hok : s.capsuleCheck h c host = none) (hrelay : h.relay = false) (hzx : zxOpcode h.op = false) :
    Answers (.capsuleFetch ws block data 0 false host) s (fun u =>
      u.wdn.prog = s.wdn.prog ++ [{ op := h.op, cap := c, at_ := s.bxNs }] ∧ u.wdn.replies = s.wdn.replies ∧
      s.counted u BX_WDN_CNT0_CAPSULES 0 1 ∧
      u.rd BX_WDN_QP_STS_SQ_HEAD (qpIdx f q) = (s.rd BX_WDN_QP_STS_SQ_HEAD (qpIdx f q) + 1) % s.sqSize (qpIdx f q) % 65536) := by
  refine ⟨(s.fetched f q).begin h.op c, (exec_capsuleFetch_read hnext).trans (congrArg done ((if_neg Bool.false_ne_true).trans ?_)), rfl, rfl,
    s.fetched_counted f q, s.fetched_sqHead f q⟩
  rw [hcap]
  exact State.dispatchCap_begins ((s.fetched_check ..).trans hok) hrelay hzx

theorem capsuleFetch_fails {st reason : Nat} {h : CapWord} {c : Cap} (hnext : s.nextFetch = some (f, q))
    (hcap : mkCap 0 f f q ws block data = (h, c)) (hbad : s.capsuleCheck h c host = some (st, reason)) :
    Answers (.capsuleFetch ws block data 0 false host) s (fun u => u.replied c h.op st [] ∧ s.counted u BX_WDN_CNT0_CAPSULES 0 1) := by
  let t := (s.fetched f q).begin h.op c
  let v := t.countDupTag reason
  have hrec : Records (v.reply c h.op st [] reason) ((s.fetched f q).dispatchCap h c host) :=
    State.dispatchCap_fails ((s.fetched_check ..).trans hbad)
  have hv : v.rd BX_WDN_CNT0_CAPSULES = t.rd BX_WDN_CNT0_CAPSULES := by
    dsimp only [v, State.countDupTag]
    split
    · exact t.rd_bump_otherReg ..
    · rfl
  refine ⟨(s.fetched f q).dispatchCap h c host, (exec_capsuleFetch_read hnext).trans (congrArg done ((if_neg Bool.false_ne_true).trans ?_)),
      ?_, ?_⟩
  · rw [hcap]
  · exact hrec.lastReply.trans (v.reply_replied ..)
  · exact hrec.rd.trans ((v.reply_capsules c h.op st [] reason none).trans (hv.trans (s.fetched_counted f q)))

end

/-! ### Replies are written (R458, R465) -/

theorem capsuleReply_none {s : State} {b : Bool} (hnone : s.wdn.replies = []) : Answers (.capsuleReply b) s (fun u => u = s) := by
  refine ⟨s, ?_, rfl⟩
  change done (s.writeReply b) = done s
  unfold State.writeReply
  rw [hnone]

theorem capsuleReply_dropped {s : State} {b : Bool} {r : Reply} {t : List Reply} (hfirst : s.wdn.replies = r :: t)
    (hgone : s.wdn.prog.any (fun g => g.op = r.op && g.cap = r.cap) = false) :
    Answers (.capsuleReply b) s (fun u => u.wdn.replies = t ∧ u.out = s.out ∧ u.regs = s.regs) := by
  refine ⟨{ s with wdn := { s.wdn with replies := t } }, ?_, rfl, rfl, rfl⟩
  change done (s.writeReply b) = done _
  unfold State.writeReply
  rw [hfirst]
  dsimp only
  rw [hgone, if_pos (by decide)]

/-- The state once the oldest reply and its capsule in progress are taken. -/
def State.replyTaken (s : State) (r : Reply) (t : List Reply) : State := { s with wdn := { s.wdn with replies := t } }.endProg r

theorem State.replyTaken_prog (s : State) (r : Reply) (t : List Reply) : (s.replyTaken r t).wdn.prog =
    if r.reason = 0xF1 then (s.wdn.prog.reverse.eraseP (fun g => g.op = r.op && g.cap = r.cap)).reverse
    else s.wdn.prog.eraseP (fun g => g.op = r.op && g.cap = r.cap) := by
  have hhit : (fun g : InProg => decide (g.op = r.op ∧ g.cap = r.cap)) = fun g => g.op = r.op && g.cap = r.cap :=
    funext fun g => Bool.decide_and ..
  unfold State.replyTaken State.endProg
  dsimp only
  rw [hhit]

/-- The results of a reply that go to the host's memory. -/
def State.emitResults (s : State) (r : Reply) : State :=
  match r.hostWrite with
  | none => s
  | some w => s.emit (.hostWrite r.cap.fn w.1 w.2)

theorem State.emitResults_out (s : State) (r : Reply) : ∃ o, s.emitResults r = { s with out := o } := by
  unfold State.emitResults
  split
  · exact ⟨s.out, rfl⟩
  · exact ⟨_, rfl⟩

/-- The completion of a reply over PCIe without an error: its results, the slot, CQ_TAIL, and the signal (R465). -/
def State.complete (s : State) (r : Reply) : State :=
  let i := qpIdx r.cap.fn r.cap.qp
  let u := s.emitResults r
  let tail := u.rd BX_WDN_QP_STS_CQ_TAIL i
  let ph := ((u.wdn.qps.find? i).map (·.phase)).getD true
  let v := u.emit (.hostWrite r.cap.fn (u.rd BX_WDN_QP_CQB_BASE i * 64 + 64 * tail)
    (replyBytes r (u.rd BX_WDN_QP_STS_SQ_HEAD i) ph r.reason r.results))
  let w := v.wr BX_WDN_QP_STS_CQ_TAIL i ((tail + 1) % v.cqSize i)
  let x : State := { w with wdn := { w.wdn with qps := w.wdn.qps.set i { phase := if (tail + 1) % v.cqSize i = 0 then !ph else ph } } }
  if r.cap.notify then x.emit (.msix r.cap.fn r.cap.qp) else x

structure Completes (s : State) (r : Reply) (u : State) : Prop where
  wdn : { u.wdn with qps := s.wdn.qps } = s.wdn
  tail : u.rd BX_WDN_QP_STS_CQ_TAIL (qpIdx r.cap.fn r.cap.qp) =
    (s.rd BX_WDN_QP_STS_CQ_TAIL (qpIdx r.cap.fn r.cap.qp) + 1) % s.cqSize (qpIdx r.cap.fn r.cap.qp) % 65536
  slot : Out.hostWrite r.cap.fn
    (s.rd BX_WDN_QP_CQB_BASE (qpIdx r.cap.fn r.cap.qp) * 64 + 64 * s.rd BX_WDN_QP_STS_CQ_TAIL (qpIdx r.cap.fn r.cap.qp))
    (replyBytes r (s.rd BX_WDN_QP_STS_SQ_HEAD (qpIdx r.cap.fn r.cap.qp))
      (((s.wdn.qps.find? (qpIdx r.cap.fn r.cap.qp)).map (fun x => x.phase)).getD true) r.reason r.results) ∈ u.out

theorem State.complete_completes (s : State) (r : Reply) : Completes s r (s.complete r) := by
  obtain ⟨o, ho⟩ := s.emitResults_out r
  unfold State.complete
  rw [ho]
  extract_lets i u tail ph v w _ x
  have htail : x.rd BX_WDN_QP_STS_CQ_TAIL i = (s.rd BX_WDN_QP_STS_CQ_TAIL i + 1) % s.cqSize i % 65536 := v.rd_wr_same ..
  split
  · exact ⟨rfl, htail, List.mem_append_left _ (List.mem_append_right _ (List.mem_singleton_self _))⟩
  · exact ⟨rfl, htail, List.mem_append_right _ (List.mem_singleton_self _)⟩

theorem capsuleReply_completes {s : State} {r : Reply} {t : List Reply} {i : Nat} (hfirst : s.wdn.replies = r :: t)
    (hlive : s.wdn.prog.any (fun g => g.op = r.op && g.cap = r.cap) = true) (hpath : r.cap.path = 0) (hi : i = qpIdx r.cap.fn r.cap.qp) :
    Answers (.capsuleReply false) s (fun u => u.wdn.replies = t ∧
      u.wdn.prog = (if r.reason = 0xF1 then (s.wdn.prog.reverse.eraseP (fun g => g.op = r.op && g.cap = r.cap)).reverse
        else s.wdn.prog.eraseP (fun g => g.op = r.op && g.cap = r.cap)) ∧
      u.rd BX_WDN_QP_STS_CQ_TAIL i = (s.rd BX_WDN_QP_STS_CQ_TAIL i + 1) % s.cqSize i % 65536 ∧
      Out.hostWrite r.cap.fn (s.rd BX_WDN_QP_CQB_BASE i * 64 + 64 * s.rd BX_WDN_QP_STS_CQ_TAIL i)
        (replyBytes r (s.rd BX_WDN_QP_STS_SQ_HEAD i) (((s.wdn.qps.find? i).map (fun x => x.phase)).getD true) r.reason r.results) ∈ u.out) := by
  subst hi
  obtain ⟨hwdn, htail, hslot⟩ := (s.replyTaken r t).complete_completes r
  refine ⟨(s.replyTaken r t).complete r, ?_, (congrArg Warden.replies hwdn :), (congrArg Warden.prog hwdn :).trans (s.replyTaken_prog r t),
      htail,
    hslot⟩
  change done (s.writeReply false) = done _
  unfold State.writeReply
  rw [hfirst]
  dsimp only
  rw [hlive, if_neg (by decide), hpath]
  rfl

/-! ### Timeouts (R458, R475) -/

/-- Every capsule of a list is answered S_TIMEOUT. -/
def State.timeOut (s : State) (l : List InProg) : State := l.foldl (fun s g => s.reply g.cap g.op S_TIMEOUT) s

theorem Replies.prog {s t : State} (h : Replies s t) : t.wdn.prog = s.wdn.prog := (congrArg (fun u => u.wdn.prog) h.rest :)

theorem State.timeOut_prog (s : State) (l : List InProg) : (s.timeOut l).wdn.prog = s.wdn.prog :=
  List.foldlRecOn (motive := fun t : State => t.wdn.prog = s.wdn.prog) l _ rfl fun t ht _ _ => (Replies.refl t).reply.prog.trans ht

theorem State.timeOut_answers {s : State} {l : List InProg} {g : InProg} (hg : g ∈ l) :
    ∃ r ∈ (s.timeOut l).wdn.replies, r.cap = g.cap ∧ r.op = g.op ∧ r.status = S_TIMEOUT := by
  refine foldl_reaches (E := fun _ : State => True)
    (P := fun t : State => ∃ r ∈ t.wdn.replies, r.cap = g.cap ∧ r.op = g.op ∧ r.status = S_TIMEOUT) hg (fun _ _ _ => trivial)
    (fun t h _ ht => ?_) (fun t _ => ?_) trivial
  · obtain ⟨r, hr, hwhose⟩ := ht
    obtain ⟨r', hreplies, -⟩ := t.reply_replies h.cap h.op S_TIMEOUT []
    exact ⟨r, hreplies ▸ List.mem_append_left _ hr, hwhose⟩
  · obtain ⟨r, hreplies, hcap, hop, hstatus⟩ := t.reply_replies g.cap g.op S_TIMEOUT []
    exact ⟨r, hreplies ▸ List.mem_append_right _ (List.mem_singleton_self r), hcap, hop, hstatus⟩

theorem execTimeout_answers (s : State) : Answers .execTimeout s (fun u =>
    (∀ g ∈ s.wdn.prog, g.at_ + s.rd BX_WDN_CTRL_EXEC_MS * 1000000 ≤ s.bxNs → s.replyDue g = false →
      ∃ r ∈ u.wdn.replies, r.cap = g.cap ∧ r.op = g.op ∧ r.status = S_TIMEOUT) ∧ u.wdn.prog = s.wdn.prog) := by
  refine ⟨_, rfl, fun g hg hlate hdue => ?_, s.timeOut_prog _⟩
  exact State.timeOut_answers (List.mem_filter.mpr ⟨hg, by simp [hlate, hdue]⟩)

/-- Relayed capsules that fail are answered and no longer wait for their target. -/
theorem State.relayFail_answers {s : State} {p : InProg → Bool} : (∀ g ∈ s.wdn.prog, g.relay.isSome = true → p g = true → s.replyDue g = false →
      ∃ r ∈ (s.relayFail p).wdn.replies, r.cap = g.cap ∧ r.op = g.op ∧ r.status = S_TIMEOUT) ∧
    (s.relayFail p).wdn.prog.length = s.wdn.prog.length := by
  let hit := s.wdn.prog.filter (fun g => g.relay.isSome && p g && !s.replyDue g)
  refine ⟨fun g hg hrelay hp hdue => ?_, ?_⟩
  · exact State.timeOut_answers (l := hit) (List.mem_filter.mpr ⟨hg, by rw [hrelay, hp, hdue]; rfl⟩)
  · change ((s.timeOut hit).wdn.prog.map _).length = _
    rw [List.length_map, State.timeOut_prog]

theorem relayTimeout_answers (s : State) : Answers .relayTimeout s (fun u =>
    (∀ g ∈ s.wdn.prog, ∀ a t, g.relay = some (a, t) → t + s.rd BX_WDN_CTRL_RELAY_MS * 1000000 ≤ s.bxNs → s.replyDue g = false →
      ∃ r ∈ u.wdn.replies, r.cap = g.cap ∧ r.op = g.op ∧ r.status = S_TIMEOUT) ∧ u.wdn.prog.length = s.wdn.prog.length) := by
  refine ⟨_, rfl, fun g hg a t hrelay hlate hdue => ?_, State.relayFail_answers.2⟩
  exact State.relayFail_answers.1 g hg (by rw [hrelay]; rfl) (by rw [hrelay]; exact decide_eq_true hlate) hdue

/-! ### Relay (R475) -/

section
variable {s : State} {e : LinkId} {src : Nat} {ws block : List Nat} {data : Bytes}

theorem relayedCapsuleReceive_begins {h : CapWord} {c : Cap}
    (hcap : mkCap 2 ((parseCapWord (ws.getD 0 0)).origin % 64) src 0 ws block data = (h, c)) (hok : s.capsuleCheck h c true = none)
    (hrelay : h.relay = false) (hzx : zxOpcode h.op = false) : Answers (.relayedCapsuleReceive e src ws block data) s (fun u =>
      u.wdn.prog = s.wdn.prog ++ [{ op := h.op, cap := c, at_ := s.bxNs }]) := by
  refine ⟨(s.consume e 4 0).begin h.op c, ?_, rfl⟩
  change execRelayedCapsuleReceive e src ws block data s = done _
  unfold execRelayedCapsuleReceive
  dsimp only
  rw [hcap]
  exact congrArg done (State.dispatchCap_begins (s := s.consume e 4 0) hok hrelay hzx)

/-- The capsule a relayed reply belongs to. -/
def State.relayedFor (s : State) (src : Nat) (ws : List Nat) : Option InProg :=
  s.wdn.prog.find? (fun g => g.op = bits (ws.getD 0 0) 63 48 && g.cap.tag = bits (ws.getD 0 0) 47 32 && (g.relay.map (fun x => x.1)) = some src)

theorem relayedReplyReceive_answers {g : InProg} (hfind : s.relayedFor src ws = some g) : Answers (.relayedReplyReceive e src ws) s (fun u =>
    u.replied g.cap g.op (bits (ws.getD 0 0) 31 24) ((ws.drop 2).take 6) ∧ u.wdn.replies.getLast?.bind (fun r => r.hostWrite) =
      (if (wordBytes (ws.drop 8)).take (ws.getD 2 0) = [] then none else some (g.cap.replyPtr, (wordBytes (ws.drop 8)).take (ws.getD 2 0))))
          := by
  let t : State := { s.consume e 4 1 with wdn := { (s.consume e 4 1).wdn with
    prog := (s.consume e 4 1).wdn.prog.map (fun x => if x = g then { x with relay := none } else x) } }
  let blob := (wordBytes (ws.drop 8)).take (ws.getD 2 0)
  refine ⟨t.reply g.cap g.op (bits (ws.getD 0 0) 31 24) ((ws.drop 2).take 6) (bits (ws.getD 0 0) 23 16)
    (if blob = [] then none else some (g.cap.replyPtr, blob)), ?_, State.reply_replied .., State.reply_hostWrite ..⟩
  change execRelayedReplyReceive e src ws s = done _
  unfold execRelayedReplyReceive
  have hfind' : (s.consume e 4 1).wdn.prog.find? _ = some g := hfind
  dsimp only
  rw [hfind']

theorem relayedReplyReceive_late (hnone : s.relayedFor src ws = none) :
    Answers (.relayedReplyReceive e src ws) s (fun u => u.wdn = s.wdn ∧ u.regs = s.regs) := by
  refine ⟨s.consume e 4 1, ?_, rfl, rfl⟩
  change execRelayedReplyReceive e src ws s = done _
  unfold execRelayedReplyReceive
  have hnone' : (s.consume e 4 1).wdn.prog.find? _ = none := hnone
  dsimp only
  rw [hnone']

end

/-- Settles O44: a capsule is judged on what the fetch leaves alone, and the replies of timeouts join those that wait. -/
theorem capsulesAreFetchedAnsweredAndRelayed : Obligations.CapsulesAreFetchedAnsweredAndRelayed :=
  ⟨fun _ _ _ _ _ _ _ hnext => capsuleFetch_none hnext,
    fun _ _ _ _ _ _ _ _ _ hnext herr => capsuleFetch_error hnext herr,
    fun _ _ _ _ _ _ _ hnext => capsuleFetch_poisoned hnext,
    fun _ _ _ _ _ _ _ _ _ hnext hcap hok hrelay hzx => capsuleFetch_begins hnext hcap hok hrelay hzx,
    fun _ _ _ _ _ _ _ _ _ _ _ hnext hcap hbad => capsuleFetch_fails hnext hcap hbad,
    fun _ _ hnone => capsuleReply_none hnone,
    fun _ _ _ _ hfirst hlive hpath hi => capsuleReply_completes hfirst hlive hpath hi,
    fun _ _ _ _ hfirst hgone => capsuleReply_dropped hfirst hgone,
    execTimeout_answers,
    relayTimeout_answers,
    fun _ _ _ _ _ _ _ _ hcap hok hrelay hzx => relayedCapsuleReceive_begins hcap hok hrelay hzx,
    fun _ _ _ _ _ hfind => relayedReplyReceive_answers hfind,
    fun _ _ _ _ hnone => relayedReplyReceive_late hnone⟩

end Sys2Proof.Machine
end

section
/-! SUPPORT. Events into their rings, MCTP packets and control requests (R470 to R473, Table 17-15). -/

namespace Sys2Proof.Machine
open Sys2Proof

/-! ### Events (R470, R471) -/

section
variable {s : State} {f kind : Nat} {b : Bytes}

theorem eventPost_disabled (hen : s.flag BX_WDN_EV_CFG_EN f = false) : Answers (.eventPost f kind b) s (fun u => u = s) := by
  refine ⟨s, ?_, rfl⟩
  change done (if f < 64 then s.post f kind (b.take 56) else s) = done s
  unfold State.post
  rw [hen, if_neg Bool.false_ne_true, ite_self]

/-- An event posted to an enabled ring that has lost none enters it. -/
theorem exec_eventPost_enters (hf : f < 64) (hen : s.flag BX_WDN_EV_CFG_EN f = true) (hlost : (s.ring f).lost = none) :
    exec (.eventPost f kind b) s = done (s.enterRing f kind (b.take 56)) := by
  have hover : s.overflowIfDue f = s := by
    unfold State.overflowIfDue
    dsimp only
    rw [hlost]
  change done (if f < 64 then s.post f kind (b.take 56) else s) = _
  unfold State.post
  rw [if_pos hf, if_pos hen, hover]

/-- Taking the next EV_SEQ leaves the room of the rings as it is. -/
theorem State.takeEvSeq_ringRoom (s : State) (f : Nat) : (s.takeEvSeq f).ringRoom f = s.ringRoom f := by
  have hkept : RegsKept [.BX_WDN_EV_STS] s (s.takeEvSeq f) := (Posts.refl f s).takeEvSeq.regs
  have hrd (g : Fld) (hlo : g.lo < 64 := by decide) (hg : g.reg ∉ [Reg.BX_WDN_EV_STS] := by decide) : (s.takeEvSeq f).rd g f = s.rd g f :=
    hkept g f hlo hg
  have hring : (s.takeEvSeq f).ring f = s.ring f := rfl
  have hfw : (s.takeEvSeq f).wdn.fw = s.wdn.fw := rfl
  unfold State.ringRoom State.ringSize
  rw [hring, hfw, hrd BX_WDN_EV_CFG_LOG2, hrd BX_WDN_EV_DB_HEAD]

theorem eventPost_enters (hf : f < 64) (hen : s.flag BX_WDN_EV_CFG_EN f = true) (hhold : (s.ring f).hold = []) (hlost : (s.ring f).lost = none)
    (hroom : s.ringRoom f = true) : Answers (.eventPost f kind b) s (fun u =>
      Out.hostWrite f (s.rd BX_WDN_EVB_BASE f * 64 + 64 * (s.ring f).tail)
        (eventEntry ⟨kind, b.take 56, s.rd BX_WDN_EV_STS_EV_SEQ f⟩ (s.ring f).phase) ∈ u.out ∧ Out.msix f 4 ∈ u.out ∧
      u.rd BX_WDN_EV_STS_EV_SEQ f = (s.rd BX_WDN_EV_STS_EV_SEQ f + 1) % 2 ^ 32 ∧ (u.ring f).tail = ((s.ring f).tail + 1) % s.ringSize f) := by
  let ev : Event := { kind := kind, body := b.take 56, seq := s.rd BX_WDN_EV_STS_EV_SEQ f }
  let t := s.takeEvSeq f
  have hkept : RegsKept [.BX_WDN_EV_STS] s t := (Posts.refl f s).takeEvSeq.regs
  have hsize : t.ringSize f = s.ringSize f := congrArg (2 ^ ·) (hkept BX_WDN_EV_CFG_LOG2 f (by decide) (by decide))
  have hbase : t.rd BX_WDN_EVB_BASE f = s.rd BX_WDN_EVB_BASE f := hkept _ f (by decide) (by decide)
  have hseq : t.rd BX_WDN_EV_STS_EV_SEQ f = (s.rd BX_WDN_EV_STS_EV_SEQ f + 1) % 2 ^ 32 := s.rd_wr_same ..
  have hput : s.enterRing f kind (b.take 56) = t.ringPut f ev := by
    unfold State.enterRing
    exact if_pos ⟨hhold, (s.takeEvSeq_ringRoom f).trans hroom⟩
  refine ⟨t.ringPut f ev, (exec_eventPost_enters hf hen hlost).trans (congrArg done hput), ?_, ?_, hseq, ?_⟩
  · rw [← hbase]
    exact List.mem_append_left _ (List.mem_append_right _ (List.mem_singleton_self _))
  · exact List.mem_append_right _ (List.mem_singleton_self _)
  · rw [← hsize]
    exact congrArg EvRing.tail (SMap.getD_set_same ..)

theorem eventPost_waits (hf : f < 64) (hen : s.flag BX_WDN_EV_CFG_EN f = true) (hhold : (s.ring f).hold.length < 1024)
    (hlost : (s.ring f).lost = none) (hroom : s.ringRoom f = false) : Answers (.eventPost f kind b) s (fun u =>
      (u.ring f).hold = (s.ring f).hold ++ [⟨kind, b.take 56, s.rd BX_WDN_EV_STS_EV_SEQ f⟩] ∧ u.out = s.out) := by
  let ev : Event := { kind := kind, body := b.take 56, seq := s.rd BX_WDN_EV_STS_EV_SEQ f }
  let t := s.takeEvSeq f
  have hfull : ¬ ((t.ring f).hold = [] ∧ t.ringRoom f = true) := fun h =>
    Bool.false_ne_true (hroom.symm.trans ((s.takeEvSeq_ringRoom f).symm.trans h.2))
  have hput : s.enterRing f kind (b.take 56) = t.setRing f { t.ring f with hold := (t.ring f).hold ++ [ev] } := by
    unfold State.enterRing
    exact (if_neg hfull).trans (if_pos hhold)
  exact ⟨_, (exec_eventPost_enters hf hen hlost).trans (congrArg done hput), congrArg EvRing.hold (SMap.getD_set_same ..), rfl⟩

end

/-! ### MCTP (R472, R473) -/

/-- The message under assembly. -/
def State.setAsm (s : State) (a : Option (Bytes × Nat)) : State := { s with wdn := { s.wdn with mctp := { s.wdn.mctp with asm := a } } }

section
variable {s : State} {som eom : Bool} {q : Nat} {b : Bytes}

theorem mctpMessage_badPec : Answers (.mctpMessage false som eom q b) s (fun u => s.counted u BX_VIOL_MCTP_PEC 0 1 ∧ u.wdn = s.wdn) := by
  have hrec : Records (s.bump BX_VIOL_MCTP_PEC) (s.mctpViol 1) := State.violation_records ..
  exact ⟨s.mctpViol 1, rfl, hrec.rd.trans (s.counted_bump ..), hrec.wdn⟩

theorem mctpMessage_starts (hlen : b.length ≤ 320) : Answers (.mctpMessage true true false q b) s (fun u =>
    u.wdn.mctp.asm = some (b, (q + 1) % 4) ∧ u.regs = s.regs) := by
  refine ⟨s.setAsm (some (b, (q + 1) % 4)), ?_, rfl, rfl⟩
  change execMctpMessage true true false q b s = done _
  unfold execMctpMessage
  dsimp only
  rw [if_neg (by decide), if_pos rfl]
  dsimp only
  rw [List.nil_append, if_neg (Nat.not_lt.mpr hlen), if_neg Bool.false_ne_true]
  rfl

theorem mctpMessage_outOfSequence {m : Bytes} {n : Nat} (hasm : s.wdn.mctp.asm = some (m, n)) (hseq : n ≠ q % 4) :
    Answers (.mctpMessage true false eom q b) s (fun u => u.wdn.mctp.asm = none ∧ s.counted u BX_VIOL_MCTP_SEQ 0 1) := by
  let t := s.setAsm none
  have hrec : Records (t.bump BX_VIOL_MCTP_SEQ) (t.mctpViol 2) := State.violation_records ..
  refine ⟨t.mctpViol 2, ?_, congrArg (fun w : Warden => w.mctp.asm) hrec.wdn, hrec.rd.trans (t.counted_bump ..)⟩
  change execMctpMessage true false eom q b s = done _
  unfold execMctpMessage
  dsimp only
  rw [if_neg (by decide), if_neg Bool.false_ne_true, hasm]
  dsimp only
  rw [if_neg hseq]
  rfl

theorem mctpMessage_tooLong (hlen : 320 < b.length) : Answers (.mctpMessage true true eom q b) s (fun u =>
    u.wdn.mctp.asm = none ∧ s.counted u BX_VIOL_MCTP_LONG 0 1 ∧ u.wdn.prog = s.wdn.prog) := by
  let t := s.setAsm none
  have hrec : Records (t.bump BX_VIOL_MCTP_LONG) (t.mctpViol 3) := State.violation_records ..
  refine ⟨t.mctpViol 3, ?_, congrArg (fun w : Warden => w.mctp.asm) hrec.wdn, hrec.rd.trans (t.counted_bump ..),
    (congrArg (fun w : Warden => w.prog) hrec.wdn :)⟩
  change execMctpMessage true true eom q b s = done _
  unfold execMctpMessage
  dsimp only
  rw [if_neg (by decide), if_pos rfl]
  dsimp only
  rw [List.nil_append, if_pos hlen]
  rfl

/-- A capsule that passes every check is one of its origin's opcodes. -/
theorem State.openTo_of_check {s : State} {h : CapWord} {c : Cap} {host : Bool} (hok : s.capsuleCheck h c host = none) :
    s.openTo h.op c = true := by
  by_contra hclosed
  unfold State.capsuleCheck at hok
  rw [if_pos hclosed] at hok
  split_ifs at hok

/-- One more capsule over MCTP is unanswered. -/
def State.oneMore (s : State) : State :=
  { s with wdn := { s.wdn with mctp := { s.wdn.mctp with unanswered := s.wdn.mctp.unanswered + 1 } } }

theorem State.mctpCapsule_begins {s : State} {b : Bytes} {h : CapWord} {c : Cap}
    (hcap : mkCap 1 0 0 0 (leWords (sliceBytes b 3 64)) (leWords (b.drop 67)) [] = (h, c)) (hfew : s.wdn.mctp.unanswered < 4)
    (hok : s.oneMore.capsuleCheck h c true = none) (hrelay : h.relay = false) (hzx : zxOpcode h.op = false) :
    s.mctpCapsule b = s.oneMore.begin h.op c := by
  unfold State.mctpCapsule
  dsimp only
  rw [hcap, if_neg (Nat.not_le.mpr hfew)]
  change State.dispatchCap (if ¬ s.oneMore.openTo h.op c = true then s.oneMore.mctpViol 5 else s.oneMore) h c true = _
  rw [if_neg (not_not.mpr (State.openTo_of_check hok))]
  exact State.dispatchCap_begins hok hrelay hzx

theorem mctpMessage_begins {h : CapWord} {c : Cap} (hlen : b.length ≤ 320) (htype : rdLe b 0 1 = 0x7E)
    (hvendor : beNat (sliceBytes b 1 2) = s.rd BX_SYS_ID_VENDOR)
    (hcap : mkCap 1 0 0 0 (leWords (sliceBytes b 3 64)) (leWords (b.drop 67)) [] = (h, c)) (hfew : s.wdn.mctp.unanswered < 4)
    (hok : s.capsuleCheck h c true = none) (hrelay : h.relay = false) (hzx : zxOpcode h.op = false) :
    Answers (.mctpMessage true true true q b) s (fun u => u.wdn.prog = s.wdn.prog ++ [{ op := h.op, cap := c, at_ := s.bxNs }] ∧
      u.wdn.mctp.unanswered = s.wdn.mctp.unanswered + 1 ∧ u.wdn.mctp.asm = none) := by
  refine ⟨(s.setAsm none).oneMore.begin h.op c, ?_, rfl, rfl, rfl⟩
  change execMctpMessage true true true q b s = done _
  unfold execMctpMessage
  dsimp only
  rw [if_neg (by decide), if_pos rfl]
  dsimp only
  rw [List.nil_append, if_neg (Nat.not_lt.mpr hlen), if_pos rfl]
  change done ((s.setAsm none).mctpMessage b) = _
  unfold State.mctpMessage
  rw [if_pos ⟨htype, hvendor⟩]
  exact congrArg done (State.mctpCapsule_begins (s := s.setAsm none) hcap hfew hok hrelay hzx)

end

/-- Settles O45: a ring takes an event that finds room and holds one that does not, and a capsule over MCTP that passes its checks is open to
its requester. -/
theorem eventsAndMctpMessagesAreTaken : Obligations.EventsAndMctpMessagesAreTaken :=
  ⟨fun _ _ _ _ hen => eventPost_disabled hen,
    fun _ _ _ _ hf hen hhold hlost hroom => eventPost_enters hf hen hhold hlost hroom,
    fun _ _ _ _ hf hen hhold hlost hroom => eventPost_waits hf hen hhold hlost hroom,
    fun _ _ _ _ _ => mctpMessage_badPec,
    fun _ _ _ hlen => mctpMessage_starts hlen,
    fun _ _ _ _ _ _ hasm hseq => mctpMessage_outOfSequence hasm hseq,
    fun _ _ _ _ hlen => mctpMessage_tooLong hlen,
    fun _ _ _ _ _ hlen htype hvendor hcap hfew hok hrelay hzx => mctpMessage_begins hlen htype hvendor hcap hfew hok hrelay hzx,
    fun _ _ => ⟨_, rfl, rfl, rfl, rfl⟩,
    fun _ => ⟨_, rfl, rfl⟩,
    fun _ => ⟨_, rfl, rfl⟩,
    fun _ _ => ⟨_, rfl, rfl⟩,
    fun _ => ⟨_, rfl, rfl⟩⟩

end Sys2Proof.Machine
end

section
/-! SUPPORT. The Warden's firmware, its restart, and the boot mailbox in RECOVERY (R477 to R481). -/

namespace Sys2Proof.Machine
open Sys2Proof

/-! ### System opcodes (Table 16-13) -/

section
variable {s : State} {c : Cap}

/-- Any of three origins allows an opcode that names them all. -/
theorem Cap.allowed_of_or3 {a b d : Bool} (h : a = true ∨ b = true ∨ d = true) : (a || b || d) = true := by
  rcases h with rfl | rfl | rfl
  · rfl
  · exact (Bool.or_assoc a true d).trans (Bool.or_true a)
  · exact Bool.or_true _

theorem Cap.allowed_of_or2 {a b : Bool} (h : a = true ∨ b = true) : (a || b) = true := by
  rcases h with rfl | rfl
  · rfl
  · exact Bool.or_true _

theorem sysNop_echoes (hc : c.isOp = true ∨ c.isTenant = true ∨ c.isMctp = true) : Answers (.sysNop c) s (fun u =>
    u.replied c 0x0001 S_OK (c.params.take 6) ∧ s.onlyReply u) := by
  refine answers_reply (by decide) ?_
  change execSysNop c s = _
  unfold execSysNop
  rw [s.checked_of_allowed (Cap.allowed_of_or3 hc) (Nat.zero_le _)]

theorem sysInfo_reads (hc : c.isOp = true ∨ c.isTenant = true ∨ c.isMctp = true) : Answers (.sysInfo c) s (fun u =>
    u.replied c 0x0002 S_OK [s.readReg .BX_SYS_ID, s.rd BX_CNP_DEV_UID_DEV_UID, s.readReg .BX_WDN_FW_STS] ∧ s.onlyReply u) := by
  refine answers_reply (by decide) ?_
  change execSysInfo c s = _
  unfold execSysInfo
  rw [s.checked_of_allowed (Cap.allowed_of_or3 hc) (Nat.zero_le _)]

theorem sysStatus_reads (hc : c.isOp = true) : Answers (.sysStatus c) s (fun u => u.replied c 0x0003 S_OK [s.readReg .BX_EPC_STATE,
    s.readReg .TB_STS 1, s.readReg .BX_CNP_FAB_STS, s.readReg .BX_WDN_FW_STS, s.readReg .BX_RPL_STS, s.readReg .BX_CMT_STS] ∧ s.onlyReply u)
        := by
  refine answers_reply (by decide) ?_
  change execSysStatus c s = _
  unfold execSysStatus
  rw [s.checked_of_allowed (Cap.allowed_of_or2 (.inl hc)) (Nat.zero_le _)]
  dsimp only
  rw [Cap.isMctp_of_isOp hc, Bool.false_and, if_neg Bool.false_ne_true, if_neg Bool.false_ne_true]

theorem fwInfo_reads (hc : c.isOp = true ∨ c.isMctp = true) : Answers (.fwInfo c) s (fun u =>
    u.replied c 0x0012 S_OK (s.readReg .BX_WDN_FW_STS :: digestWords (padTo 32 s.wdn.fw.runDigest)) ∧ s.onlyReply u) := by
  refine answers_reply (by decide) ?_
  change execFwInfo c s = _
  unfold execFwInfo
  rw [s.checked_of_allowed (Cap.allowed_of_or2 hc) (Nat.zero_le _)]

/-! ### FW_UPDATE and FW_ACTIVATE (R477 to R479) -/

/-- FW_UPDATE over PCIe, no update running. -/
theorem exec_fwUpdate_pcie (hc : c.isOpPcie = true) (hl : 2 ≤ c.params.length) : exec (.fwUpdate c) s = done
    (if s.wdn.fw.updating.isSome then s.reply c 0x0010 S_BUSY
    else (s.fwCheck c.data (c.p 1) false).elim
      ((s.fwFinish c.data).2.reply c 0x0010 (s.fwFinish c.data).1.1 (s.fwFinish c.data).1.2.2 (s.fwFinish c.data).1.2.1)
      (fun x => s.reply c 0x0010 x.1 [] x.2)) := by
  change execFwUpdate c s = _
  unfold execFwUpdate
  rw [s.checked_of_allowed (Cap.allowed_of_or2 (.inl hc)) hl]
  dsimp only
  rw [Cap.isMctp_of_isOpPcie hc, if_neg Bool.false_ne_true]
  cases s.fwCheck c.data (c.p 1) false <;> rfl

theorem fwUpdate_busy (hc : c.isOpPcie = true) (hl : 2 ≤ c.params.length) (hupd : s.wdn.fw.updating.isSome = true) :
    Answers (.fwUpdate c) s (fun u => u.replied c 0x0010 S_BUSY [] ∧ s.onlyReply u) := by
  refine answers_reply (by decide) ?_
  rw [exec_fwUpdate_pcie hc hl, if_pos hupd]

theorem Replies.fw {s t : State} (h : Replies s t) : t.wdn.fw = s.wdn.fw := (congrArg (fun u => u.wdn.fw) h.rest :)

theorem fwUpdate_fails {st reason : Nat} (hc : c.isOpPcie = true) (hl : 2 ≤ c.params.length) (hupd : s.wdn.fw.updating = none)
    (hbad : s.fwCheck c.data (c.p 1) false = some (st, reason)) : Answers (.fwUpdate c) s (fun u =>
      u.replied c 0x0010 st [] ∧ u.wdn.fw = s.wdn.fw ∧ u.rd BX_WDN_FW_STS_STORE_VALID = s.rd BX_WDN_FW_STS_STORE_VALID) := by
  have hrep := (Replies.refl s).reply (c := c) (op := 0x0010) (status := st) (res := []) (reason := reason) (w := none)
  refine ⟨s.reply c 0x0010 st [] reason, ?_, State.reply_replied .., hrep.fw, hrep.regs _ _ (by decide) (by decide)⟩
  rw [exec_fwUpdate_pcie hc hl, hupd, hbad]
  rfl

/-- An image whose digest is its header's is whole in the store. -/
theorem State.fwFinish_valid {img : Bytes} (hdigest : sha256 (img.drop 256) = sliceBytes img 32 32) :
    (s.fwFinish img).1 = (S_OK, 0, rdLe img 8 4 :: digestWords (sha256 (img.drop 256))) ∧ (s.fwFinish img).2.wdn.fw.image = img ∧
      (s.fwFinish img).2.rd BX_WDN_FW_STS_STORE_VALID = 1 := by
  unfold State.fwFinish
  extract_lets _ t u
  have hu : u.wdn.fw.image = img := by
    dsimp only [u]
    split <;> rfl
  rw [if_pos hdigest]
  exact ⟨rfl, hu, u.rd_wr_same BX_WDN_FW_STS_STORE_VALID 0 1⟩

theorem fwUpdate_stores (hc : c.isOpPcie = true) (hl : 2 ≤ c.params.length) (hupd : s.wdn.fw.updating = none)
    (hok : s.fwCheck c.data (c.p 1) false = none) (hdigest : sha256 (c.data.drop 256) = sliceBytes c.data 32 32) :
    Answers (.fwUpdate c) s (fun u => u.replied c 0x0010 S_OK (rdLe c.data 8 4 :: digestWords (sha256 (c.data.drop 256))) ∧
      u.wdn.fw.image = c.data ∧ u.rd BX_WDN_FW_STS_STORE_VALID = 1) := by
  obtain ⟨hres, himage, hvalid⟩ := State.fwFinish_valid (s := s) hdigest
  let t := (s.fwFinish c.data).2
  have hrep := (Replies.refl t).reply (c := c) (op := 0x0010) (status := S_OK)
    (res := rdLe c.data 8 4 :: digestWords (sha256 (c.data.drop 256))) (reason := 0) (w := none)
  refine ⟨t.reply c 0x0010 S_OK (rdLe c.data 8 4 :: digestWords (sha256 (c.data.drop 256))), ?_, State.reply_replied ..,
    (congrArg Firmware.image hrep.fw).trans himage, (hrep.regs _ _ (by decide) (by decide)).trans hvalid⟩
  rw [exec_fwUpdate_pcie hc hl, hupd, hok, hres]
  rfl

/-- A first piece shorter than the header is held. -/
theorem State.fwPiece_first {bs : Bytes} (hshort : bs.length < 256) (hrec : s.recovery = true) :
    s.fwPiece 0 bs = ((S_OK, 0, []), s.setFw { s.wdn.fw with updating := some bs }) := by
  have hstate : s.rd BX_WDN_FW_STS_STATE = 3 := of_decide_eq_true hrec
  unfold State.fwPiece
  extract_lets sofar all total img bad _ t fw u v
  have himg : img = bs := by
    dsimp only [img]
    rw [if_neg]
    · rfl
    · change ¬ 256 ≤ bs.length
      omega
  have hbad : bad = none := by
    dsimp only [bad]
    rw [himg, if_neg fun h => absurd h.1 (Nat.not_le.mpr hshort)]
  have ht : t = s := by
    dsimp only [t]
    rw [himg, if_neg (by omega)]
  have hu : u = s.setFw { s.wdn.fw with updating := some bs } := by
    dsimp only [u, fw]
    rw [himg, ht, if_neg (by omega)]
  have hv : v = u := by
    dsimp only [v]
    rw [hu, if_neg]
    change ¬ s.rd BX_WDN_FW_STS_STATE = 1
    rw [hstate]
    decide
  rw [if_neg (show ¬ 0 ≠ sofar.length from not_not.mpr rfl), hbad]
  dsimp only
  rw [himg, if_neg fun h => absurd h.1 (Nat.not_le.mpr hshort), hv, hu]

theorem fwUpdate_firstPiece (hc : c.isMctp = true) (hrec : s.recovery = true) (hl : 2 ≤ c.params.length) (hlen : c.params.length ≤ 30)
    (hoff : c.p 0 = 0) (hvalid : s.flag BX_WDN_FW_STS_STORE_VALID = false) : Answers (.fwUpdate c) s (fun u =>
      u.replied c 0x0010 S_OK [] ∧ u.wdn.fw.updating = some (wordBytes (c.params.drop 1)) ∧ u.wdn.fw.image = s.wdn.fw.image) := by
  have hshort : (wordBytes (c.params.drop 1)).length < 256 := by
    rw [length_wordBytes, List.length_drop]
    omega
  let t := s.setFw { s.wdn.fw with updating := some (wordBytes (c.params.drop 1)) }
  have hrep := (Replies.refl t).reply (c := c) (op := 0x0010) (status := S_OK) (res := []) (reason := 0) (w := none)
  have hflag : (t.reply c 0x0010 S_OK).flag BX_WDN_FW_STS_STORE_VALID = false := by
    unfold State.flag at hvalid ⊢
    rw [hrep.regs _ _ (by decide) (by decide)]
    exact hvalid
  refine ⟨t.reply c 0x0010 S_OK, ?_, State.reply_replied .., (congrArg Firmware.updating hrep.fw :), (congrArg Firmware.image hrep.fw :)⟩
  change execFwUpdate c s = done _
  unfold execFwUpdate
  rw [s.checked_of_allowed (Cap.allowed_of_or2 (.inr (by rw [hc, hrec]; rfl))) hl]
  dsimp only
  rw [hc, if_pos rfl, hoff, State.fwPiece_first hshort hrec]
  dsimp only
  rw [hflag, if_neg fun h => Bool.false_ne_true h.1]

theorem fwActivate_due (hc : c.isOpPcie = true) (hupd : s.wdn.fw.updating = none) (hvalid : s.flag BX_WDN_FW_STS_STORE_VALID = true) :
    Answers (.fwActivate c) s (fun u => u.replied c 0x0011 S_OK [] ∧ u.wdn.fw.restartDue = true ∧ u.regs = s.regs) := by
  refine ⟨(s.reply c 0x0011 S_OK).setFw { s.wdn.fw with restartDue := true }, ?_, s.reply_replied .., rfl, s.reply_regs c 0x0011 (by decide)
      [] 0 none⟩
  change execFwActivate c s = done _
  unfold execFwActivate
  rw [s.checked_of_allowed hc (Nat.zero_le _)]
  dsimp only
  rw [hupd, hvalid, if_neg (by decide), if_neg (by decide)]

theorem fwActivate_notNow (hc : c.isOpPcie = true) (hupd : s.wdn.fw.updating = none) (hvalid : s.flag BX_WDN_FW_STS_STORE_VALID = false) :
    Answers (.fwActivate c) s (fun u => u.replied c 0x0011 S_NOTNOW [] ∧ s.onlyReply u) := by
  refine answers_reply (by decide) ?_
  change execFwActivate c s = _
  unfold execFwActivate
  rw [s.checked_of_allowed hc (Nat.zero_le _)]
  dsimp only
  rw [hupd, hvalid, if_neg (by decide), if_pos (by decide)]

end

/-! ### What events leave alone -/

/-- Taproot without its records and what it has suppressed. -/
def Taproot.unrecorded (t : Taproot) : Taproot :=
  { t with main := [], prot := [], reqs := [], supEpoch := 0, sup := [], safEpoch := 0, safSent := [] }

section
variable {s t : State}

/-- Beside records and suppression, Taproot is the same in t as in s. -/
structure Latched (s t : State) : Prop where
  tap : t.tap.unrecorded = s.tap.unrecorded

namespace Latched
variable {u : State}

theorem refl (s : State) : Latched s s := ⟨rfl⟩

theorem trans (h : Latched s t) (h' : Latched t u) : Latched s u := ⟨h'.tap.trans h.tap⟩

theorem branch {c : Prop} [Decidable c] (ht : Latched s t) (hu : Latched s u) : Latched s (if c then t else u) := by
  split <;> assumption

theorem foldl {α : Type} {f : State → α → State} {l : List α} (h : Latched s t) (hf : ∀ u x, Latched s u → Latched s (f u x)) :
    Latched s (l.foldl f t) := List.foldlRecOn l f h fun u hu x _ => hf u x hu

theorem wr (h : Latched s t) {f i v} : Latched s (t.wr f i v) := ⟨h.tap⟩

theorem bump (h : Latched s t) {f i n} : Latched s (t.bump f i n) := ⟨h.tap⟩

theorem record (h : Latched s t) {main prot reqs : List HwRec} {supEpoch safEpoch : Nat} {sup : List (Nat × Nat × Nat)}
    {safSent : List (Nat × Nat)} : Latched s { t with tap := { t.tap with
      main := main, prot := prot, reqs := reqs, supEpoch := supEpoch, sup := sup, safEpoch := safEpoch, safSent := safSent } } := ⟨h.tap⟩

theorem hwWrite (h : Latched s t) {r} : Latched s (t.hwWrite r) :=
  .branch (Latched.branch h.wr.bump h.wr).record (Latched.branch h.wr.bump h.wr).record

theorem signal (h : Latched s t) {r} : Latched s (t.signal r) :=
  .branch h.hwWrite (.branch h.bump (.branch (Latched.branch h.record h).bump (Latched.branch h.record h).record))

end Latched

end

/-- Between s before and t after, events have been signalled or posted: beside the rings, the outputs, Taproot's records and the registers
of Heartwood and of the rings nothing has changed. -/
structure Notes (s t : State) : Prop where
  rest : { t with regs := s.regs, tap := s.tap, out := s.out, wdn := { t.wdn with rings := s.wdn.rings } } = s
  latch : Latched s t
  regs : RegsKept [.BX_HW_STS, .BX_HW_CNT, .BX_WDN_EV_STS] s t

namespace Notes
variable {s t u : State}

theorem refl (s : State) : Notes s s := ⟨rfl, .refl s, .refl _ s⟩

theorem trans (h : Notes s t) (h' : Notes t u) : Notes s u :=
  ⟨(congrArg (fun v : State => { v with regs := s.regs, tap := s.tap, out := s.out, wdn := { v.wdn with rings := s.wdn.rings } }) h'.rest
    :).trans h.rest, h.latch.trans h'.latch, h.regs.trans h'.regs⟩

theorem of_posts {f : Nat} (h : Posts f s t) : Notes s t :=
  ⟨(congrArg (fun v : State => { v with tap := s.tap }) h.rest :), ⟨congrArg Taproot.unrecorded (congrArg State.tap h.rest :)⟩,
    h.regs.mono (by decide)⟩

theorem branch {c : Prop} [Decidable c] (ht : Notes s t) (hu : Notes s u) : Notes s (if c then t else u) := by
  split <;> assumption

theorem foldl {α : Type} {f : State → α → State} {l : List α} (h : Notes s t) (hf : ∀ u x, Notes s u → Notes s (f u x)) :
    Notes s (l.foldl f t) := List.foldlRecOn l f h fun u hu x _ => hf u x hu

theorem signal (h : Notes s t) {r} : Notes s (t.signal r) := by
  have hrec := t.signal_records r
  exact h.trans ⟨(congrArg (fun v : State => { v with out := t.out, wdn := { v.wdn with rings := t.wdn.rings } }) hrec.rest :),
    (Latched.refl t).signal, hrec.regs.mono (by decide)⟩

theorem post (h : Notes s t) {f kind body} : Notes s (t.post f kind body) := h.trans (.of_posts (Posts.refl f t).post)

theorem postAll (h : Notes s t) {kind body} : Notes s (t.postAll kind body) := h.foldl fun _ _ h => h.post

theorem ringService (h : Notes s t) {f} : Notes s (t.ringService f) := h.trans (.of_posts (Posts.refl f t).ringService)

theorem rd (h : Notes s t) {f : Fld} {i : Nat} (hlo : f.lo < 64 := by decide)
    (hf : f.reg ∉ [Reg.BX_HW_STS, .BX_HW_CNT, .BX_WDN_EV_STS] := by decide) : t.rd f i = s.rd f i := h.regs f i hlo hf

theorem fw (h : Notes s t) : t.wdn.fw = s.wdn.fw := (congrArg (fun v : State => v.wdn.fw) h.rest :)
theorem replies (h : Notes s t) : t.wdn.replies = s.wdn.replies := (congrArg (fun v : State => v.wdn.replies) h.rest :)
theorem up (h : Notes s t) : t.up = s.up := (congrArg State.up h.rest :)
theorem opKey (h : Notes s t) : t.tap.opKey = s.tap.opKey := (congrArg Taproot.opKey h.latch.tap :)

end Notes

/-! ### The restart (R479, R480) -/

theorem State.fwCheck_congr {s t : State} (hsec : t.rd BX_WDN_FW_STS_MIN_SEC_VER = s.rd BX_WDN_FW_STS_MIN_SEC_VER) (img : Bytes) (len : Nat)
    (body : Bool) : t.fwCheck img len body = s.fwCheck img len body := by
  unfold State.fwCheck
  rw [hsec]

/-- The store is valid and its body passes every check (R479). -/
def State.storeRuns (s : State) : Bool :=
  s.flag BX_WDN_FW_STS_STORE_VALID && (s.fwCheck s.wdn.fw.image (256 + rdLe s.wdn.fw.image 12 4) true).isNone

/-- The state of BX64 as the Warden starts in RECOVERY, before the event. -/
def State.enterRecovery (s : State) : State :=
  ((s.setFw { s.wdn.fw with restartDue := false }).wr BX_WDN_FW_STS_STATE 0 3).wr BX_WDN_BOOT_STS_RECOVERY 0 1

/-- The state of BX64 as the Warden runs the body of the store, before the events. -/
def State.runStored (s : State) : State :=
  let img := s.wdn.fw.image
  let t := s.setFw { s.wdn.fw with restartDue := false }
  let u := (((t.wr BX_WDN_FW_STS_STATE 0 1).wr BX_WDN_FW_STS_VERSION 0 (rdLe img 8 4)).wr BX_WDN_FW_STS_MIN_SEC_VER 0
    (max (t.rd BX_WDN_FW_STS_MIN_SEC_VER) (rdLe img 6 2))).wr BX_WDN_BOOT_STS_RECOVERY 0 0
  let v := u.setFw { u.wdn.fw with runDigest := sliceBytes img 32 32 }
  { v with tap := { v.tap with kickAt := v.bxNs } }

theorem State.wardenStart_notes_recovery {s : State} (hruns : s.storeRuns = false) (cause : Nat) :
    Notes s.enterRecovery (s.wardenStart cause) := by
  have hstart : s.wardenStart cause = s.enterRecovery.signal { ty := 0x0104, source := 0x80 } :=
    if_neg (ne_true_of_eq_false hruns)
  rw [hstart]
  exact (Notes.refl _).signal

theorem State.wardenStart_notes_runs {s : State} (hruns : s.storeRuns = true) (cause : Nat) :
    Notes s.runStored (s.wardenStart cause) := by
  unfold State.storeRuns at hruns
  unfold State.wardenStart
  dsimp only
  rw [hruns, if_pos rfl]
  exact Notes.foldl (.branch (.branch (Notes.refl s.runStored).signal (.refl s.runStored))
    (Notes.postAll (.branch (Notes.refl s.runStored).signal (.refl s.runStored)))) fun _ _ h => .branch h.ringService h

theorem State.wardenStart_recovery {s : State} (hvalid : s.flag BX_WDN_FW_STS_STORE_VALID = false) (cause : Nat) :
    (s.wardenStart cause).rd BX_WDN_FW_STS_STATE = 3 ∧ (s.wardenStart cause).rd BX_WDN_BOOT_STS_RECOVERY = 1 ∧
      (s.wardenStart cause).wdn.fw.restartDue = false := by
  let t := s.setFw { s.wdn.fw with restartDue := false }
  have hruns : s.storeRuns = false := by
    unfold State.storeRuns
    rw [hvalid, Bool.false_and]
  have hnotes := State.wardenStart_notes_recovery hruns cause
  exact ⟨hnotes.rd.trans (((t.wr BX_WDN_FW_STS_STATE 0 3).rd_wr_otherReg _ (by decide) (by decide) (by decide)).trans
      (t.rd_wr_same BX_WDN_FW_STS_STATE 0 3)),
    hnotes.rd.trans ((t.wr BX_WDN_FW_STS_STATE 0 3).rd_wr_same BX_WDN_BOOT_STS_RECOVERY 0 1), congrArg Firmware.restartDue hnotes.fw⟩

theorem State.wardenStart_runs {s : State} (hvalid : s.flag BX_WDN_FW_STS_STORE_VALID = true)
    (hok : s.fwCheck s.wdn.fw.image (256 + rdLe s.wdn.fw.image 12 4) true = none) (cause : Nat) :
    (s.wardenStart cause).rd BX_WDN_FW_STS_STATE = 1 ∧
      (s.wardenStart cause).rd BX_WDN_FW_STS_VERSION = rdLe s.wdn.fw.image 8 4 % 2 ^ 32 ∧
      (s.wardenStart cause).rd BX_WDN_BOOT_STS_RECOVERY = 0 ∧ (s.wardenStart cause).wdn.fw.restartDue = false ∧
      (s.wardenStart cause).wdn.replies = s.wdn.replies := by
  have hruns : s.storeRuns = true := by
    unfold State.storeRuns
    rw [hvalid, hok]
    rfl
  have hnotes := State.wardenStart_notes_runs hruns cause
  let t := s.setFw { s.wdn.fw with restartDue := false }
  let t₁ := t.wr BX_WDN_FW_STS_STATE 0 1
  let t₂ := t₁.wr BX_WDN_FW_STS_VERSION 0 (rdLe s.wdn.fw.image 8 4)
  let t₃ := t₂.wr BX_WDN_FW_STS_MIN_SEC_VER 0 (max (t.rd BX_WDN_FW_STS_MIN_SEC_VER) (rdLe s.wdn.fw.image 6 2))
  let t₄ := t₃.wr BX_WDN_BOOT_STS_RECOVERY 0 0
  have hlow (f : Fld) : s.runStored.rd f = t₄.rd f := State.rd_congr (show s.runStored.regs = t₄.regs from rfl) f 0
  refine ⟨hnotes.rd.trans ((hlow _).trans ?_), hnotes.rd.trans ((hlow _).trans ?_), hnotes.rd.trans ((hlow _).trans ?_),
    congrArg Firmware.restartDue hnotes.fw, hnotes.replies⟩
  · rw [State.rd_wr_otherReg _ _ (by decide) (by decide) (by decide), State.rd_wr_otherLo _ _ (by decide) (by decide) (by decide),
      State.rd_wr_otherLo _ _ (by decide) (by decide) (by decide)]
    exact t.rd_wr_same BX_WDN_FW_STS_STATE 0 1
  · rw [State.rd_wr_otherReg _ _ (by decide) (by decide) (by decide), State.rd_wr_otherLo _ _ (by decide) (by decide) (by decide)]
    exact t₁.rd_wr_same ..
  · exact t₃.rd_wr_same BX_WDN_BOOT_STS_RECOVERY 0 0

/-- The capsules a restart that FW_ACTIVATE asked for leaves unanswered are timed out. -/
def State.restartTimeouts (s : State) : State :=
  if s.wdn.fw.restartDue then s.timeOut (s.wdn.prog.filter (fun g => g.cap.path ≠ 1 ∧ ¬ s.replyDue g)) else s

theorem exec_wardenRestart (s : State) :
    exec .wardenRestart s = done (s.restartTimeouts.wardenStart (if s.wdn.fw.restartDue then 2 else 0)) := rfl

theorem State.timeOut_rd (s : State) (l : List InProg) {f : Fld} (hlo : f.lo < 64) (hf : f.reg ∉ [Reg.BX_WDN_CNT0, .BX_WDN_CNT1]) :
    (s.timeOut l).rd f = s.rd f :=
  List.foldlRecOn (motive := fun t : State => t.rd f = s.rd f) l _ rfl fun t ht _ _ => ((Replies.refl t).reply.regs f 0 hlo hf).trans ht

theorem State.restartTimeouts_rd (s : State) {f : Fld} (hlo : f.lo < 64) (hf : f.reg ∉ [Reg.BX_WDN_CNT0, .BX_WDN_CNT1]) :
    s.restartTimeouts.rd f = s.rd f := by
  unfold State.restartTimeouts
  split
  · exact s.timeOut_rd _ hlo hf
  · rfl

theorem State.restartTimeouts_fw (s : State) : s.restartTimeouts.wdn.fw = s.wdn.fw := by
  unfold State.restartTimeouts
  split
  · exact List.foldlRecOn (motive := fun t : State => t.wdn.fw = s.wdn.fw) _ _ rfl fun t ht _ _ => (Replies.refl t).reply.fw.trans ht
  · rfl

theorem wardenRestart_recovery {s : State} (hvalid : s.flag BX_WDN_FW_STS_STORE_VALID = false) : Answers .wardenRestart s (fun u =>
    u.rd BX_WDN_FW_STS_STATE = 3 ∧ u.rd BX_WDN_BOOT_STS_RECOVERY = 1 ∧ u.wdn.fw.restartDue = false) := by
  have hflag : s.restartTimeouts.flag BX_WDN_FW_STS_STORE_VALID = false := by
    unfold State.flag at hvalid ⊢
    rw [s.restartTimeouts_rd (by decide) (by decide)]
    exact hvalid
  exact ⟨_, exec_wardenRestart s, State.wardenStart_recovery hflag _⟩

theorem wardenRestart_runs {s : State} (hvalid : s.flag BX_WDN_FW_STS_STORE_VALID = true)
    (hok : s.fwCheck s.wdn.fw.image (256 + rdLe s.wdn.fw.image 12 4) true = none) : Answers .wardenRestart s (fun u =>
      u.rd BX_WDN_FW_STS_STATE = 1 ∧ u.rd BX_WDN_FW_STS_VERSION = rdLe s.wdn.fw.image 8 4 % 2 ^ 32 ∧ u.rd BX_WDN_BOOT_STS_RECOVERY = 0 ∧
      u.wdn.fw.restartDue = false ∧ ∀ g ∈ s.wdn.prog, s.wdn.fw.restartDue = true → g.cap.path ≠ 1 → s.replyDue g = false →
        ∃ r ∈ u.wdn.replies, r.cap = g.cap ∧ r.op = g.op ∧ r.status = S_TIMEOUT) := by
  have hflag : s.restartTimeouts.flag BX_WDN_FW_STS_STORE_VALID = true := by
    unfold State.flag at hvalid ⊢
    rw [s.restartTimeouts_rd (by decide) (by decide)]
    exact hvalid
  have hok' : s.restartTimeouts.fwCheck s.restartTimeouts.wdn.fw.image (256 + rdLe s.restartTimeouts.wdn.fw.image 12 4) true = none := by
    rw [s.restartTimeouts_fw, State.fwCheck_congr (s.restartTimeouts_rd (by decide) (by decide))]
    exact hok
  obtain ⟨hstate, hversion, hboot, hdue, hreplies⟩ := State.wardenStart_runs hflag hok' (if s.wdn.fw.restartDue then 2 else 0)
  rw [s.restartTimeouts_fw] at hversion
  refine ⟨_, exec_wardenRestart s, hstate, hversion, hboot, hdue, fun g hg hact hpath hnodue => ?_⟩
  rw [hreplies]
  unfold State.restartTimeouts
  rw [hact, if_pos rfl]
  exact State.timeOut_answers (List.mem_filter.mpr ⟨hg, by simp [hpath, hnodue]⟩)

/-! ### The boot mailbox (R481) -/

/-- The reply words of the boot mailbox, and DONE. -/
def State.bootReply (s : State) (rw_ : List Nat) : State :=
  ((List.range 8).foldl (fun s i => s.wr BX_WDN_BOOT_RPL_RPL i (rw_.getD i 0)) s).wr BX_WDN_BOOT_STS_DONE 0 1

theorem State.bootReply_regs (s : State) (rw_ : List Nat) : RegsKept [.BX_WDN_BOOT_RPL, .BX_WDN_BOOT_STS] s (s.bootReply rw_) := by
  have h : RegsKept [.BX_WDN_BOOT_RPL, .BX_WDN_BOOT_STS] s ((List.range 8).foldl (fun s i => s.wr BX_WDN_BOOT_RPL_RPL i (rw_.getD i 0)) s) :=
    (RegsKept.refl _ s).foldl fun _ _ h => h.wr
  exact h.wr

theorem State.bootReply_wdn (s : State) (rw_ : List Nat) : (s.bootReply rw_).wdn = s.wdn :=
  List.foldlRecOn (motive := fun t : State => t.wdn = s.wdn) (List.range 8) (fun s i => s.wr BX_WDN_BOOT_RPL_RPL i (rw_.getD i 0)) rfl
    fun _ ht _ _ => ht

theorem State.bootReply_done (s : State) (rw_ : List Nat) : (s.bootReply rw_).rd BX_WDN_BOOT_STS_DONE = 1 :=
  State.rd_wr_same _ BX_WDN_BOOT_STS_DONE 0 1

theorem State.bootReply_word (s : State) (rw_ : List Nat) {i : Nat} (hi : i < 8) :
    (s.bootReply rw_).rd BX_WDN_BOOT_RPL_RPL i = rw_.getD i 0 % 2 ^ 64 := by
  refine (State.rd_wr_otherReg _ _ (by decide) (by decide) (by decide)).trans ?_
  refine foldl_reaches (E := fun _ : State => True) (P := fun t : State => t.rd BX_WDN_BOOT_RPL_RPL i = rw_.getD i 0 % 2 ^ 64)
    (List.mem_range.mpr hi) (fun _ _ _ => trivial) (fun t j _ ht => ?_) (fun t _ => t.rd_wr_same ..) trivial
  by_cases hij : i = j
  · subst hij
    exact t.rd_wr_same ..
  · exact (t.rd_wr_otherIdx _ (by decide) (by decide) hij).trans ht

section
variable {s : State}

theorem bootMailboxGo_outside (hrec : s.recovery = false) : Answers .bootMailboxGo s (fun u => u = s) := by
  refine ⟨s, ?_, rfl⟩
  change execBootMailboxGo s = done s
  unfold execBootMailboxGo
  rw [hrec, if_pos (Or.inl (by decide))]

/-- The words of the boot mailbox. -/
def State.bootIn (s : State) : List Nat := (List.range 8).map (fun i => s.wdn.boot.getD i 0)

/-- The reply words to an opcode of the boot mailbox. -/
def State.bootOut (s : State) (op status : Nat) (res : List Nat) : List Nat :=
  leWords (replyBytes ⟨(mkCap 0 0 0 0 s.bootIn [] []).2, op, status, 0, [], none, s.rd BX_EPC_STATE_WATERMARK,
    s.flag BX_EPC_STATE_WM_VALID⟩ 0 false 0 res)

theorem State.bootReply_invalid {t : State} (hvalid : t.flag BX_WDN_FW_STS_STORE_VALID = false) (rw_ : List Nat) :
    (t.bootReply rw_).flag BX_WDN_FW_STS_STORE_VALID = false := by
  unfold State.flag at hvalid ⊢
  rw [t.bootReply_regs _ _ _ (by decide) (by decide)]
  exact hvalid

/-- FW_INFO in the boot mailbox, with no valid store. -/
theorem exec_bootMailboxGo_fwInfo (hrec : s.recovery = true) (hbusy : s.flag BX_WDN_BOOT_STS_BUSY = false)
    (hop : (mkCap 0 0 0 0 s.bootIn [] []).1.op = 0x0012) (hvalid : s.flag BX_WDN_FW_STS_STORE_VALID = false) : exec .bootMailboxGo s = done
      (s.bootReply (s.bootOut 0x0012 S_OK (s.readReg .BX_WDN_FW_STS :: digestWords (padTo 32 s.wdn.fw.runDigest)))) := by
  unfold State.bootIn at hop
  change execBootMailboxGo s = _
  unfold execBootMailboxGo
  rw [hrec, hbusy, if_neg (by decide)]
  dsimp only
  rw [hop, if_neg (show ¬ 18 = 16 by decide), if_pos (Eq.refl 18)]
  exact congrArg done (if_neg fun h => Bool.false_ne_true ((State.bootReply_invalid hvalid _).symm.trans h.1))

/-- An opcode the boot mailbox does not take, with no valid store. -/
theorem exec_bootMailboxGo_denied (hrec : s.recovery = true) (hbusy : s.flag BX_WDN_BOOT_STS_BUSY = false)
    (hupd : (mkCap 0 0 0 0 s.bootIn [] []).1.op ≠ 0x0010) (hinfo : (mkCap 0 0 0 0 s.bootIn [] []).1.op ≠ 0x0012)
    (hvalid : s.flag BX_WDN_FW_STS_STORE_VALID = false) : exec .bootMailboxGo s = done ((s.bump BX_WDN_CNT0_DENIED).bootReply
      ((s.bump BX_WDN_CNT0_DENIED).bootOut (mkCap 0 0 0 0 s.bootIn [] []).1.op S_DENIED [])) := by
  unfold State.bootIn at hupd hinfo ⊢
  change execBootMailboxGo s = _
  unfold execBootMailboxGo
  rw [hrec, hbusy, if_neg (by decide)]
  dsimp only
  rw [if_neg hupd, if_neg hinfo]
  have hflag : (s.bump BX_WDN_CNT0_DENIED).flag BX_WDN_FW_STS_STORE_VALID = false := by
    unfold State.flag at hvalid ⊢
    rw [State.rd_bump_otherReg]
    exact hvalid
  exact congrArg done (if_neg fun h => Bool.false_ne_true ((State.bootReply_invalid hflag _).symm.trans h.1))

theorem bootMailboxGo_fwInfo (hrec : s.recovery = true) (hbusy : s.flag BX_WDN_BOOT_STS_BUSY = false)
    (hop : (mkCap 0 0 0 0 s.bootIn [] []).1.op = 0x0012) (hvalid : s.flag BX_WDN_FW_STS_STORE_VALID = false) :
    Answers .bootMailboxGo s (fun u => u.rd BX_WDN_BOOT_STS_DONE = 1 ∧ u.wdn = s.wdn ∧ ∀ i < 8, u.rd BX_WDN_BOOT_RPL_RPL i =
      (s.bootOut 0x0012 S_OK (s.readReg .BX_WDN_FW_STS :: digestWords (padTo 32 s.wdn.fw.runDigest))).getD i 0 % 2 ^ 64) :=
  ⟨_, exec_bootMailboxGo_fwInfo hrec hbusy hop hvalid, State.bootReply_done .., State.bootReply_wdn .., fun _ hi => State.bootReply_word _ _ hi⟩

theorem bootMailboxGo_denied (hrec : s.recovery = true) (hbusy : s.flag BX_WDN_BOOT_STS_BUSY = false)
    (hupd : (mkCap 0 0 0 0 s.bootIn [] []).1.op ≠ 0x0010) (hinfo : (mkCap 0 0 0 0 s.bootIn [] []).1.op ≠ 0x0012)
    (hvalid : s.flag BX_WDN_FW_STS_STORE_VALID = false) : Answers .bootMailboxGo s (fun u =>
      u.rd BX_WDN_BOOT_STS_DONE = 1 ∧ s.counted u BX_WDN_CNT0_DENIED 0 1 ∧ u.wdn = s.wdn) := by
  refine ⟨_, exec_bootMailboxGo_denied hrec hbusy hupd hinfo hvalid, State.bootReply_done .., ?_, State.bootReply_wdn ..⟩
  exact (State.bootReply_regs _ _ _ _ (by decide) (by decide)).trans (s.counted_bump BX_WDN_CNT0_DENIED 0 1)

end

/-- Settles O46: the opcodes read or judge and answer, a restart runs the stored body where it passes its checks, and the boot mailbox
answers in its reply words. -/
theorem wardenFirmwareAndSystemOpcodes : Obligations.WardenFirmwareAndSystemOpcodes :=
  ⟨fun _ _ => sysNop_echoes, fun _ _ => sysInfo_reads, fun _ _ => sysStatus_reads, fun _ _ => fwInfo_reads, fun _ _ => fwUpdate_busy,
    fun _ _ _ _ => fwUpdate_fails, fun _ _ => fwUpdate_stores, fun _ _ => fwUpdate_firstPiece, fun _ _ => fwActivate_due,
    fun _ _ => fwActivate_notNow, fun _ => wardenRestart_recovery, fun _ => wardenRestart_runs, fun _ => bootMailboxGo_outside,
    fun _ hrec hbusy hop _ => bootMailboxGo_fwInfo hrec hbusy hop, fun _ => bootMailboxGo_denied⟩

end Sys2Proof.Machine
end

section
/-! SUPPORT. JTAG outside FIELD and RETIRED (R492), and Windthrow's injectors (R509 to R511). -/

namespace Sys2Proof.Machine
open Sys2Proof

/-! ### JTAG (R492) -/

section
variable {s : State} {b : List Bool}

theorem jtagExtest_drives (hfield : s.inField = false) (hret : s.retired = false) : Answers (.jtagExtest b) s (fun u =>
    u.tap.jtag.ir = 0 ∧ u.tap.jtag.preload = b ∧ u.regs = s.regs) := by
  refine ⟨{ s with tap := { s.tap with jtag := { s.tap.jtag with ir := 0x00, preload := b } } }, ?_, rfl, rfl, rfl⟩
  change execJtagExtest b s = done _
  unfold execJtagExtest
  rw [hfield, hret, if_neg (by decide)]

theorem jtagIdcode_shifts : Answers .jtagIdcode s (fun u =>
    u.tap.jtag.ir = 1 ∧ u.regs = s.regs ∧ ∃ x : List Bool, x.length = 32 ∧ u.out = s.out ++ [.tdo x]) :=
  ⟨_, rfl, rfl, rfl, _, (List.length_map _).trans List.length_range, rfl⟩

theorem jtagSamplePreload_loads (hret : s.retired = false) : Answers (.jtagSamplePreload b) s (fun u =>
    u.tap.jtag.ir = 2 ∧ u.tap.jtag.preload = b ∧ u.fresh = s.fresh + 1 ∧
      ∃ x : List Bool, x.length = b.length ∧ u.out = s.out ++ [.tdo x]) := by
  let x : List Bool := (List.range b.length).map (fun i => bitAt (s.draw b.length).1 i)
  refine ⟨{ (s.draw b.length).2 with tap := { s.tap with jtag := { s.tap.jtag with ir := 0x02, preload := b } } }.emit (.tdo x), ?_, rfl, rfl,
    rfl, x, (List.length_map _).trans List.length_range, rfl⟩
  change execJtagSamplePreload b s = done _
  unfold execJtagSamplePreload
  rw [hret, if_neg Bool.false_ne_true]
  rfl

theorem jtagHdRead_shifts (hret : s.retired = false) (hir : s.tap.jtag.ir = 0x30) : Answers .jtagHdRead s (fun u =>
    u.tap.jtag.ir = 0x30 ∧ u.tap.jtag.pos = s.tap.jtag.pos + 1 ∧ u.out = s.out ++ [.tdo ((List.range 32).map (fun i =>
      bitAt (if s.flag BX_TAP_STS_DUMP_HELD then bits (s.tap.dump.getD (s.tap.jtag.pos / 2) 0) (s.tap.jtag.pos % 2 * 32 + 31)
        (s.tap.jtag.pos % 2 * 32) else 0) i))]) := by
  let w := if s.flag BX_TAP_STS_DUMP_HELD then bits (s.tap.dump.getD (s.tap.jtag.pos / 2) 0) (s.tap.jtag.pos % 2 * 32 + 31)
    (s.tap.jtag.pos % 2 * 32) else 0
  let t : State := { s with tap := { s.tap with jtag := { s.tap.jtag with ir := 0x30, pos := s.tap.jtag.pos + 1 } } }
  let u : State := if s.tap.jtag.pos = 16383 ∧ t.flag BX_TAP_STS_DUMP_HELD then t.wr BX_TAP_STS_DUMP_READ 0 1 else t
  have hu : { u with regs := t.regs } = t := by
    dsimp only [u]
    split <;> rfl
  refine ⟨u.emit (.tdo ((List.range 32).map (fun i => bitAt w i))), ?_, (congrArg (fun v : State => v.tap.jtag.ir) hu :),
    (congrArg (fun v : State => v.tap.jtag.pos) hu :), (congrArg (fun v : State => v.out ++ _) hu :)⟩
  change execJtagHdRead s = done _
  unfold execJtagHdRead
  rw [hret, if_neg Bool.false_ne_true, hir, if_pos rfl]

theorem jtagBypass_delays : Answers (.jtagBypass b) s (fun u =>
    u.tap.jtag.ir = 0xFF ∧ u.out = s.out ++ [.tdo (false :: b.dropLast)] ∧ u.regs = s.regs) := ⟨_, rfl, rfl, rfl, rfl⟩

end

/-! ### Windthrow (R509 to R511) -/

section
variable {s : State} {c : Cap}

theorem Cap.isOp_of_isOpPcie (hc : c.isOpPcie = true) : c.isOp = true := by
  obtain ⟨hten, hpath⟩ : c.tenant = 0 ∧ c.path = 0 := of_decide_eq_true hc
  exact decide_eq_true ⟨hten, .inl hpath⟩

/-- The four fields of an injector are set. -/
def State.wrInj (s : State) (tgt armed action remain arg : Nat) : State :=
  (((s.wr BX_WT_INJ_ARMED tgt armed).wr BX_WT_INJ_ACTION tgt action).wr BX_WT_INJ_REMAIN tgt remain).wr BX_WT_INJ_ARG tgt arg

theorem State.rd_wrInj_armed (s : State) (tgt armed action remain arg : Nat) :
    (s.wrInj tgt armed action remain arg).rd BX_WT_INJ_ARMED tgt = armed % 2 ^ BX_WT_INJ_ARMED.width := by
  unfold State.wrInj
  rw [State.rd_wr_otherLo _ _ (by decide) (by decide) (by decide), State.rd_wr_otherLo _ _ (by decide) (by decide) (by decide),
    State.rd_wr_otherLo _ _ (by decide) (by decide) (by decide)]
  exact s.rd_wr_same ..

theorem State.rd_wrInj_remain (s : State) (tgt armed action remain arg : Nat) :
    (s.wrInj tgt armed action remain arg).rd BX_WT_INJ_REMAIN tgt = remain % 2 ^ BX_WT_INJ_REMAIN.width := by
  unfold State.wrInj
  rw [State.rd_wr_otherLo _ _ (by decide) (by decide) (by decide)]
  exact State.rd_wr_same ..

/-- Arming sets the injector's fields; what else it writes is the count of armed injectors and the record of Heartwood. -/
theorem State.wtArm_regsKept (s : State) (tgt action arg count : Nat) :
    RegsKept [.BX_WT_STS, .BX_HW_STS, .BX_HW_CNT] ((s.wtDisarm tgt).wrInj tgt 1 action count arg) (s.wtArm tgt action arg count) := by
  generalize hw : (s.wtDisarm tgt).wrInj tgt 1 action count arg = w
  have hrec : Records (w.bump BX_WT_STS_ARMED) (s.wtArm tgt action arg count) := by
    subst hw
    exact (Records.refl _).setTap.signal
  have hbump : RegsKept [.BX_WT_STS, .BX_HW_STS, .BX_HW_CNT] w (w.bump BX_WT_STS_ARMED) := .wr (.refl _ w)
  exact hbump.trans (hrec.regs.mono (by decide))

theorem State.wtDisarm_regsKept {tgt : Nat} (harmed : s.flag BX_WT_INJ_ARMED tgt = true) :
    RegsKept [.BX_WT_STS, .BX_HW_STS, .BX_HW_CNT] (s.wrInj tgt 0 0 0 0) (s.wtDisarm tgt) := by
  generalize hw : s.wrInj tgt 0 0 0 0 = w
  have hrec : Records (w.wr BX_WT_STS_ARMED 0 (w.rd BX_WT_STS_ARMED - 1)) (s.wtDisarm tgt) := by
    subst hw
    unfold State.wtDisarm
    rw [if_pos harmed]
    exact (Records.refl _).setTap.signal
  have hsts : RegsKept [.BX_WT_STS, .BX_HW_STS, .BX_HW_CNT] w (w.wr BX_WT_STS_ARMED 0 (w.rd BX_WT_STS_ARMED - 1)) := .wr (.refl _ w)
  exact hsts.trans (hrec.regs.mono (by decide))

theorem wtArm_arms (hc : c.isOpPcie = true) (hlive : s.rd BX_LC_STS_STATE ≠ 4) (hl : 5 ≤ c.params.length)
    (hidx : wtIndexOk (c.p 0) (c.p 1) = true) (harg : s.wtArgOk (c.p 0) (c.p 1) (c.p 2) (c.p 3) = true) (hlo : 1 ≤ c.p 4) (hhi : c.p 4 ≤ 64)
    (hhere : wtZx? (c.p 0) (c.p 1) = none) : Answers (.wtArm c) s (fun u => u.replied c 0x0F01 S_OK [] ∧
      u.rd BX_WT_INJ_ARMED (wtTarget (c.p 0) (c.p 1)) = 1 ∧
      u.rd BX_WT_INJ_REMAIN (wtTarget (c.p 0) (c.p 1)) = c.p 4 % 2 ^ BX_WT_INJ_REMAIN.width) := by
  let t := s.wtArm (wtTarget (c.p 0) (c.p 1)) (c.p 2) (c.p 3) (c.p 4)
  have hregs := s.wtArm_regsKept (wtTarget (c.p 0) (c.p 1)) (c.p 2) (c.p 3) (c.p 4)
  have harmed := (hregs BX_WT_INJ_ARMED (wtTarget (c.p 0) (c.p 1)) (by decide) (by decide)).trans (State.rd_wrInj_armed ..)
  have hremain := (hregs BX_WT_INJ_REMAIN (wtTarget (c.p 0) (c.p 1)) (by decide) (by decide)).trans (State.rd_wrInj_remain ..)
  refine ⟨t.reply c 0x0F01 S_OK, ?_, t.reply_replied .., (t.rd_reply c _ (by decide) ..).trans harmed,
    (t.rd_reply c _ (by decide) ..).trans hremain⟩
  change execWtArm c s = done _
  unfold execWtArm
  rw [s.checked_of_allowed (by rw [hc, decide_eq_true hlive]; rfl) hl]
  dsimp only
  rw [hidx, harg, decide_eq_true hlo, decide_eq_true hhi, if_pos (by decide), hhere]

theorem wtDisarm_disarms (hc : c.isOpPcie = true) (hlive : s.rd BX_LC_STS_STATE ≠ 4) (hl : 1 ≤ c.params.length) (hone : c.p 0 ≠ 0xFFFF)
    (harmed : s.flag BX_WT_INJ_ARMED (wtTarget (c.p 0) (c.p 1)) = true)
    (hhere : wtZx? (wtTarget (c.p 0) (c.p 1) / 65536) (wtTarget (c.p 0) (c.p 1) % 65536) = none) : Answers (.wtDisarm c) s (fun u =>
      u.replied c 0x0F02 S_OK [] ∧ u.rd BX_WT_INJ_ARMED (wtTarget (c.p 0) (c.p 1)) = 0) := by
  let t := s.wtDisarm (wtTarget (c.p 0) (c.p 1))
  have hoff : s.wtOff (wtTarget (c.p 0) (c.p 1)) = t := by
    unfold State.wtOff
    rw [if_pos harmed, hhere]
  have hinj := (State.wtDisarm_regsKept harmed BX_WT_INJ_ARMED (wtTarget (c.p 0) (c.p 1)) (by decide) (by decide)).trans
    (State.rd_wrInj_armed ..)
  refine ⟨t.reply c 0x0F02 S_OK, ?_, t.reply_replied .., (t.rd_reply c _ (by decide) ..).trans hinj⟩
  change execWtDisarm c s = done _
  unfold execWtDisarm
  rw [s.checked_of_allowed (by rw [hc, decide_eq_true hlive]; rfl) hl]
  dsimp only
  rw [if_neg hone, hoff]

theorem wtStatus_lists (hc : c.isOpPcie = true) (hlive : s.rd BX_LC_STS_STATE ≠ 4) (hptr : c.noPtr = false) : Answers (.wtStatus c) s (fun u =>
    u.answered c 0x0F03 S_OK ∧ u.wrote c (wordBytes (s.wtArmed.flatMap (fun t => [t, s.readReg .BX_WT_INJ t]))) ∧ s.onlyReply u) := by
  refine ⟨_, ?_, s.replyBlob_writes (Cap.isOp_of_isOpPcie hc) 0x0F03 (wordBytes (s.wtArmed.flatMap (fun t => [t, s.readReg .BX_WT_INJ t])))⟩
  change execWtStatus c s = _
  unfold execWtStatus
  rw [s.checkedPtr_of_allowed (by rw [hc, decide_eq_true hlive]; rfl) (Nat.zero_le _) hptr]
  rfl

end

/-- Settles O42: the boundary scan, the identity and the dump are shifted as the instruction says, and an injector is armed with its count,
disarmed and listed. -/
theorem jtagAndWindthrowAct : Obligations.JtagAndWindthrowAct := by
  refine ⟨fun _ _ => jtagExtest_drives, fun s => ?_, fun s b hret => ?_, fun _ => jtagHdRead_shifts, fun _ _ => jtagBypass_delays,
    fun _ _ => wtArm_arms, fun _ _ => wtDisarm_disarms, fun _ _ => wtStatus_lists⟩
  · obtain ⟨u, hexec, hir, hregs, x, hx, hout⟩ := jtagIdcode_shifts (s := s)
    refine ⟨u, hexec, hir, by rw [hout, List.length_append]; rfl, hregs, ?_⟩
    rw [hout, List.getLast?_concat]
    exact congrArg some hx
  · obtain ⟨u, hexec, hir, hpre, hfresh, x, hx, hout⟩ := jtagSamplePreload_loads (b := b) hret
    refine ⟨u, hexec, hir, hpre, hfresh, by rw [hout, List.length_append]; rfl, ?_⟩
    rw [hout, List.getLast?_concat]
    exact congrArg some hx

end Sys2Proof.Machine
end

section
/-! SUPPORT. Taproot's clock, watchdogs and records, and the opcodes of Heartwood (R487 to R508). -/

namespace Sys2Proof.Machine
open Sys2Proof

/-! ### What signalling and detections leave of Taproot -/

section
variable {s t : State}

/-- A record of class 1 goes to the protected ring (R504), so the main ring stays. -/
theorem State.hwWrite_main_of_protected (s : State) {r : HwRec} (hr : hwClass r.ty = 1) : (s.hwWrite r).tap.main = s.tap.main := by
  unfold State.hwWrite
  extract_lets r' t u
  rw [if_pos hr]
  change u.tap.main = s.tap.main
  dsimp only [u]
  split <;> rfl

theorem State.signal_main_of_protected (s : State) {r : HwRec} (hr : hwClass r.ty = 1) : (s.signal r).tap.main = s.tap.main := by
  unfold State.signal
  extract_lets r'
  have hform : hwClass r'.ty = 1 := hr
  rw [if_pos (hform ▸ Nat.le_refl 1)]
  exact s.hwWrite_main_of_protected hform

/-- Between s before and t after, an alarm has gone up the tree or into the rings: beside the links, the outputs, the rings and two
registers nothing has changed. -/
structure Alarms (s t : State) : Prop where
  rest : { t with regs := s.regs, links := s.links, out := s.out, wdn := { t.wdn with rings := s.wdn.rings } } = s
  regs : RegsKept [.BX_WDN_EV_STS, .BX_CNP_CNT0] s t

namespace Alarms
variable {u : State}

theorem refl (s : State) : Alarms s s := ⟨rfl, .refl _ s⟩

theorem trans (h : Alarms s t) (h' : Alarms t u) : Alarms s u :=
  ⟨(congrArg (fun v : State => { v with regs := s.regs, links := s.links, out := s.out, wdn := { v.wdn with rings := s.wdn.rings } }) h'.rest
    :).trans h.rest, h.regs.trans h'.regs⟩

theorem tap (h : Alarms s t) : t.tap = s.tap := (congrArg State.tap h.rest :)
theorem cnp (h : Alarms s t) : t.cnp = s.cnp := (congrArg State.cnp h.rest :)
theorem bxTb (h : Alarms s t) : t.bxTb = s.bxTb := (congrArg State.bxTb h.rest :)

theorem bump (h : Alarms s t) {f : Fld} {i n : Nat} (hlo : f.lo < 64 := by decide)
    (hf : f.reg ∈ [Reg.BX_WDN_EV_STS, .BX_CNP_CNT0] := by decide) : Alarms s (t.bump f i n) := ⟨h.rest, h.regs.wr hlo hf⟩

theorem modLink (h : Alarms s t) {e f} : Alarms s (t.modLink e f) := ⟨h.rest, h.regs⟩

theorem post (h : Alarms s t) {f kind body} : Alarms s (t.post f kind body) := by
  have hpost : Posts f t (t.post f kind body) := (Posts.refl f t).post
  exact h.trans ⟨(congrArg (fun v : State => { v with links := t.links }) hpost.rest :), hpost.regs.mono (by decide)⟩

theorem outPort (h : Alarms s t) {ty sub src dst} : Alarms s (t.outPort ty sub src dst).2 := by
  dsimp only [State.outPort]
  split
  · split
    · exact h
    · split
      · exact h
      · split <;> exact h.bump
  · split
    · exact h
    · exact h.bump

theorem sendOn (h : Alarms s t) {q ty sub vc src dst bcast bytes hops} : Alarms s (t.sendOn q ty sub vc src dst bcast bytes hops) :=
  List.foldlRecOn (motive := fun v : State => Alarms s v) _ _ h fun _ h _ _ => h.modLink

theorem snd_eq {α : Type} {p : α × State} {a : α} (h : Alarms s p.2) (e : p = (a, u)) : Alarms s u := by
  subst e
  exact h

theorem alarmUp (h : Alarms s t) {sub p40} : Alarms s (t.alarmUp sub p40) := by
  dsimp only [State.alarmUp]
  split
  · exact h.post
  · split
    · next e => exact (h.outPort.snd_eq e).sendOn
    · next e =>
      split
      · exact h.post
      · exact h.outPort.snd_eq e

end Alarms

theorem Latched.detect (h : Latched s t) {code sys idx die inj} : Latched s (t.detect code sys idx die inj) := by
  have halarm {v : State} (hv : Latched s v) : Latched s (v.safAlarm code sys idx die) := by
    refine .branch hv ⟨?_⟩
    rw [(Alarms.refl _).alarmUp.tap]
    exact hv.tap
  exact (halarm h.wr.bump.wr).signal

end

/-! ### Time, watchdogs and records (R487 to R501) -/

section
variable {s : State}

theorem taprootTimeLatch_copies : Answers (.taprootTimeLatch true) s (fun u =>
    u.tap.copy = s.bxNs ∧ u.rd BX_TAP_STS_TB_LOST = 0 ∧ u.hbm = s.hbm) :=
  ⟨_, rfl, rfl, State.rd_wr_same _ BX_TAP_STS_TB_LOST 0 0, rfl⟩

theorem taprootTimeLatch_runsOn : Answers (.taprootTimeLatch false) s (fun u =>
    u.tap.copy = s.tap.copy + 1000 ∧ u.rd BX_TAP_STS_TB_LOST = 1) :=
  ⟨_, rfl, rfl, State.rd_wr_same _ BX_TAP_STS_TB_LOST 0 1⟩

theorem tapKick_restarts {v : Nat} (hv : bitAt v 0 = true) : Answers (.tapKick v) s (fun u =>
    u = { s with tap := { s.tap with kickAt := s.tapNs } }) :=
  ⟨_, congrArg done (if_pos hv), rfl⟩

/-- The watchdogs of a wedge, as bits of CAUSE. -/
def causeBits (cs : List Nat) : Nat := cs.foldl (fun a i => a + 2 ^ i) 0

/-- A wedge declared: its bits are set and each watchdog is a detection. -/
def State.wedge (s : State) (cs : List Nat) : State :=
  let t := { s with tap := { s.tap with
    wdogKick := if cs.contains 0 then some s.tap.kickAt else s.tap.wdogKick
    wdogEpoch := if cs.contains 2 then some s.bxEpoch else s.tap.wdogEpoch } }
  cs.foldl (fun s i => s.detect (wedgeCode i) 0x80 i) ((t.wr BX_TAP_STS_WEDGED 0 1).wr BX_TAP_STS_CAUSE 0 (causeBits cs))

/-- The bits of a wedge stand in BX_TAP_STS; what else changes is what detections and records change. -/
theorem State.wedge_regs (s : State) (cs : List Nat) : RegsKept (.BX_SAF_STS :: signalRegs)
    ((s.wr BX_TAP_STS_WEDGED 0 1).wr BX_TAP_STS_CAUSE 0 (causeBits cs)) (s.wedge cs) :=
  RegsKept.foldl (.refl _ _) fun v i h => h.trans (v.detect_detects (wedgeCode i) 0x80 i none false).regs

theorem State.wedge_tap (s : State) (cs : List Nat) : (s.wedge cs).tap.copy = s.tap.copy ∧ (s.wedge cs).tap.dumpPend = s.tap.dumpPend := by
  let t : State := { s with tap := { s.tap with
    wdogKick := if cs.contains 0 then some s.tap.kickAt else s.tap.wdogKick
    wdogEpoch := if cs.contains 2 then some s.bxEpoch else s.tap.wdogEpoch } }
  have h : Latched t (s.wedge cs) := Latched.foldl (Latched.refl t).wr.wr fun _ _ h => h.detect
  exact ⟨(congrArg Taproot.copy h.tap :), (congrArg Taproot.dumpPend h.tap :)⟩

theorem State.wedge_bxTb (s : State) (cs : List Nat) : (s.wedge cs).bxTb = s.bxTb :=
  List.foldlRecOn (motive := fun v : State => v.bxTb = s.bxTb) _ _ rfl fun v h i _ =>
    (congrArg (fun u : State => u.bxTb) (v.detect_detects (wedgeCode i) 0x80 i none false).rest :).trans h

theorem State.tapRc_congr {t : State} (hlost : t.rd BX_TAP_STS_TB_LOST = s.rd BX_TAP_STS_TB_LOST) (hcopy : t.tap.copy = s.tap.copy)
    (htb : t.bxTb = s.bxTb) : t.tapRc = s.tapRc := by
  unfold State.tapRc State.flag State.bxRc
  rw [hlost, hcopy, htb]

/-- A wedge where no dump is held or due: the WEDGE record is written and a dump falls due. -/
theorem exec_wedgeDeclare {causes i : Nat} {cs : List Nat} (hcs : (List.range 3).filter (fun i => bitAt causes i && s.expired i) = i :: cs)
    (hheld : ((s.wedge (i :: cs)).signal { ty := 0x0001, source := 0x80, idx := i, detail := wedgeCode i }).flag BX_TAP_STS_DUMP_HELD = false)
    (hpend : ((s.wedge (i :: cs)).signal { ty := 0x0001, source := 0x80, idx := i, detail := wedgeCode i }).tap.dumpPend = none) :
    Answers (.wedgeDeclare causes) s (fun u =>
      u.regs = ((s.wedge (i :: cs)).signal { ty := 0x0001, source := 0x80, idx := i, detail := wedgeCode i }).regs ∧
      u.tap.dumpPend = some (((s.wedge (i :: cs)).signal { ty := 0x0001, source := 0x80, idx := i, detail := wedgeCode i }).tapRc,
        causeBits (i :: cs), (s.wedge (i :: cs)).rd BX_HW_STS_NEXT_SEQ)) := by
  generalize hw : (s.wedge (i :: cs)).signal { ty := 0x0001, source := 0x80, idx := i, detail := wedgeCode i } = w at *
  refine ⟨{ w with tap := { w.tap with dumpPend := some (w.tapRc, causeBits (i :: cs), (s.wedge (i :: cs)).rd BX_HW_STS_NEXT_SEQ) } }, ?_,
    rfl, rfl⟩
  change execWedgeDeclare causes s = done _
  unfold execWedgeDeclare
  rw [hcs]
  subst hw
  exact (if_neg (ne_true_of_eq_false hheld)).trans (if_neg (ne_true_of_eq_false (congrArg Option.isSome hpend)))

theorem wedgeDeclare_wedges {causes : Nat} {cs : List Nat} (hcs : (List.range 3).filter (fun i => bitAt causes i && s.expired i) = cs)
    (hne : cs ≠ []) (hheld : s.flag BX_TAP_STS_DUMP_HELD = false) (hpend : s.tap.dumpPend = none) : Answers (.wedgeDeclare causes) s (fun u =>
      u.rd BX_TAP_STS_WEDGED = 1 ∧ u.rd BX_TAP_STS_CAUSE = causeBits cs % 2 ^ BX_TAP_STS_CAUSE.width ∧
      u.tap.dumpPend.map (fun d => (d.1, d.2.1)) = some (s.tapRc, causeBits cs)) := by
  obtain ⟨i, cs, rfl⟩ := List.exists_cons_of_ne_nil hne
  let r : HwRec := { ty := 0x0001, source := 0x80, idx := i, detail := wedgeCode i }
  have hregs := (s.wedge_regs (i :: cs)).trans (((s.wedge (i :: cs)).signal_records r).regs.mono (by decide))
  have hsame (f : Fld) (hlo : f.lo < 64) (hf : f.reg ∉ Reg.BX_SAF_STS :: signalRegs) (hwedged : f.lo ≠ 63) (hcause : f.lo ≠ 60) :
      ((s.wedge (i :: cs)).signal r).rd f = s.rd f := by
    rw [hregs f 0 hlo hf, State.rd_wr_otherLo _ _ (by decide) hlo hcause, State.rd_wr_otherLo _ _ (by decide) hlo hwedged]
  obtain ⟨hcopy, hdump⟩ := s.wedge_tap (i :: cs)
  have hlatch := (Latched.refl (s.wedge (i :: cs))).signal (r := r)
  have htap : ((s.wedge (i :: cs)).signal r).tapRc = s.tapRc :=
    State.tapRc_congr (hsame _ (by decide) (by decide) (by decide) (by decide)) ((congrArg Taproot.copy hlatch.tap :).trans hcopy)
      ((congrArg State.bxTb ((s.wedge (i :: cs)).signal_records r).rest :).trans (s.wedge_bxTb _))
  have hheld' : ((s.wedge (i :: cs)).signal r).flag BX_TAP_STS_DUMP_HELD = false := by
    unfold State.flag at hheld ⊢
    rw [hsame _ (by decide) (by decide) (by decide) (by decide)]
    exact hheld
  obtain ⟨u, hexec, huregs, hupend⟩ := exec_wedgeDeclare hcs hheld' (((congrArg Taproot.dumpPend hlatch.tap :).trans hdump).trans hpend)
  refine ⟨u, hexec, ?_, ?_, ?_⟩
  · rw [State.rd_congr huregs, hregs _ _ (by decide) (by decide), State.rd_wr_otherLo _ _ (by decide) (by decide) (by decide)]
    exact s.rd_wr_same BX_TAP_STS_WEDGED 0 1
  · rw [State.rd_congr huregs, hregs _ _ (by decide) (by decide)]
    exact State.rd_wr_same ..
  · rw [hupend, htap]
    rfl

theorem State.rd_setTaproot (s : State) (tap : Taproot) (f : Fld) (i : Nat) : ({ s with tap := tap } : State).rd f i = s.rd f i := rfl

/-- Taproot writes a record into its ring under the next SEQ (R501). -/
theorem State.hwWrite_writes (s : State) (r : HwRec) : (s.hwWrite r).tap.reqs = s.tap.reqs ∧
    { r with seq := s.rd BX_HW_STS_NEXT_SEQ } ∈ (s.hwWrite r).tap.main ++ (s.hwWrite r).tap.prot ∧
    (s.hwWrite r).rd BX_HW_STS_NEXT_SEQ = (s.rd BX_HW_STS_NEXT_SEQ + 1) % 2 ^ BX_HW_STS_NEXT_SEQ.width := by
  unfold State.hwWrite
  extract_lets r' t u _ v _
  have hseq : t.rd BX_HW_STS_NEXT_SEQ = (s.rd BX_HW_STS_NEXT_SEQ + 1) % 2 ^ BX_HW_STS_NEXT_SEQ.width := s.rd_wr_same ..
  have hreqs : t.tap.reqs = s.tap.reqs := rfl
  clear_value t
  have hcount {b : Prop} [Decidable b] : (if b then t.bump BX_HW_CNT_OVERWRITTEN else t).tap.reqs = s.tap.reqs ∧
      (if b then t.bump BX_HW_CNT_OVERWRITTEN else t).rd BX_HW_STS_NEXT_SEQ =
        (s.rd BX_HW_STS_NEXT_SEQ + 1) % 2 ^ BX_HW_STS_NEXT_SEQ.width := by
    split
    · exact ⟨hreqs, (t.rd_bump_otherReg _ _ _).trans hseq⟩
    · exact ⟨hreqs, hseq⟩
  have hu : u.tap.reqs = s.tap.reqs ∧ u.rd BX_HW_STS_NEXT_SEQ = (s.rd BX_HW_STS_NEXT_SEQ + 1) % 2 ^ BX_HW_STS_NEXT_SEQ.width := hcount
  have hv : v.tap.reqs = s.tap.reqs ∧ v.rd BX_HW_STS_NEXT_SEQ = (s.rd BX_HW_STS_NEXT_SEQ + 1) % 2 ^ BX_HW_STS_NEXT_SEQ.width := hcount
  clear_value u v
  split
  · exact ⟨hu.1, List.mem_append_right _ (List.mem_append_right _ (List.mem_singleton_self _)), hu.2⟩
  · exact ⟨hv.1, List.mem_append_left _ (List.mem_append_right _ (List.mem_singleton_self _)), (v.rd_setTaproot ..).trans hv.2⟩

theorem heartwoodRequest_writes {r : HwRec} {l : List HwRec} (hreqs : s.tap.reqs = r :: l) : Answers (.heartwoodRequest none) s (fun u =>
    u.tap.reqs = l ∧ { r with seq := s.rd BX_HW_STS_NEXT_SEQ } ∈ u.tap.main ++ u.tap.prot ∧
      u.rd BX_HW_STS_NEXT_SEQ = (s.rd BX_HW_STS_NEXT_SEQ + 1) % 2 ^ BX_HW_STS_NEXT_SEQ.width) := by
  let t : State := { s with tap := { s.tap with reqs := l } }
  obtain ⟨hkept, hmem, hseq⟩ := t.hwWrite_writes r
  refine ⟨t.hwWrite r, ?_, hkept, hmem, hseq⟩
  change execHeartwoodRequest none s = done _
  unfold execHeartwoodRequest
  dsimp only
  rw [hreqs]

theorem taprootSelfReset_startsOver : Answers .taprootSelfReset s (fun u =>
    u.tap.jtag = {} ∧ u.wdn.mctp.asm = none ∧ u.tap.opKey = s.tap.opKey ∧ u.tap.kickAt = s.tapNs) := by
  let t : State := { s with
    tap := { s.tap with jtag := {}, kickAt := s.tapNs }
    wdn := { s.wdn with mctp := { s.wdn.mctp with asm := none } } }
  have h : Latched t s.tapSelfReset := (Latched.refl t).signal
  exact ⟨_, rfl, (congrArg Taproot.jtag h.tap :), (congrArg (fun w : Warden => w.mctp.asm) (t.signal_records _).wdn :),
    (congrArg Taproot.opKey h.tap :), (congrArg Taproot.kickAt h.tap :)⟩

end

/-! ### Heartwood's opcodes (R506 to R508) -/

section
variable {s : State} {c : Cap}

theorem hwRead_reads (hc : c.isOp = true) (hl : 3 ≤ c.params.length) : Answers (.hwRead c) s (fun u => u.replied c 0x0901 S_OK
    [((s.hwHeld.filter (fun r => c.p 0 ≤ r.seq)).take (c.p 1)).length] ∧ u.wdn.replies.getLast?.bind (fun r => r.hostWrite) = some (c.p 2,
      ((s.hwHeld.filter (fun r => c.p 0 ≤ r.seq)).take (c.p 1)).flatMap HwRec.bytes) ∧ s.onlyReply u) := by
  let rs := (s.hwHeld.filter (fun r => c.p 0 ≤ r.seq)).take (c.p 1)
  refine ⟨s.reply c 0x0901 S_OK [rs.length] 0 (some (c.p 2, rs.flatMap HwRec.bytes)), ?_, s.reply_replied .., s.reply_hostWrite ..,
    s.reply_onlyReply c _ (by decide) ..⟩
  change execHwRead c s = done _
  unfold execHwRead
  rw [s.checked_of_allowed (Cap.allowed_of_or2 (.inl hc)) hl]
  dsimp only
  rw [Cap.isMctp_of_isOp hc, if_neg Bool.false_ne_true]

/-- HW_CLEAR whose block fails a check counts the NONCE on and erases nothing. -/
theorem hwClear_denied (hc : c.isOpPcie = true) (hl : 1 ≤ c.params.length) (hbad : (s.authorized 1 c.data).1 = false) :
    Answers (.hwClear c) s (fun u => u.replied c 0x0902 S_DENIED [] ∧ u.tap.main = s.tap.main ∧
      u.rd BX_HW_AUTH_NONCE = (s.rd BX_HW_AUTH_NONCE + 1) % 2 ^ BX_HW_AUTH_NONCE.width) := by
  let t := s.wr BX_HW_AUTH_NONCE 0 (s.rd BX_HW_AUTH_NONCE + 1)
  refine ⟨t.reply c 0x0902 S_DENIED, ?_, t.reply_replied .., rfl,
    ((Replies.refl t).reply.regs _ _ (by decide) (by decide)).trans (s.rd_wr_same ..)⟩
  change execHwClear c s = done _
  unfold execHwClear
  rw [s.checked_of_allowed hc hl]
  exact congrArg done (if_neg (ne_true_of_eq_false hbad))

theorem State.authorized_of_magic {blk : Bytes} (hmagic : rdLe blk 0 4 ≠ 0x48545541) (cmd : Nat) : (s.authorized cmd blk).1 = false := by
  unfold State.authorized
  dsimp only
  rw [decide_eq_false hmagic, Bool.false_and, Bool.false_and, Bool.false_and, Bool.false_and, Bool.false_and]

theorem hwClear_clears (hc : c.isOpPcie = true) (hl : 1 ≤ c.params.length) (hok : (s.authorized 1 c.data).1 = true) :
    Answers (.hwClear c) s (fun u => u.replied c 0x0902 S_OK [] ∧ u.tap.main = s.tap.main.filter (fun r => ¬ r.seq ≤ rdLe c.data 32 8) ∧
      u.rd BX_HW_AUTH_NONCE = (s.rd BX_HW_AUTH_NONCE + 1) % 2 ^ BX_HW_AUTH_NONCE.width) := by
  let t := s.wr BX_HW_AUTH_NONCE 0 (s.rd BX_HW_AUTH_NONCE + 1)
  let u : State := { t with tap := { s.tap with main := s.tap.main.filter (fun r => ¬ r.seq ≤ rdLe c.data 32 8) } }
  let r : HwRec := { ty := 0x0102, source := 0x80, extra := rdLe c.data 32 8, snaps := [(true, s.rd BX_HW_AUTH_NONCE)] }
  have hnonce : (u.signal r).rd BX_HW_AUTH_NONCE = (s.rd BX_HW_AUTH_NONCE + 1) % 2 ^ BX_HW_AUTH_NONCE.width :=
    (u.signal_records r).rd.trans (s.rd_wr_same ..)
  refine ⟨(u.signal r).reply c 0x0902 S_OK, ?_, State.reply_replied .., (u.signal_main_of_protected (r := r) (show hwClass 0x0102 = 1 by
      decide) :),
    ((u.signal r).rd_reply c _ (by decide) ..).trans hnonce⟩
  change execHwClear c s = done _
  unfold execHwClear
  rw [s.checked_of_allowed hc hl]
  exact congrArg done (if_pos hok)

theorem safetyStatus_reads (hc : c.isOp = true ∨ c.isMctp = true) : Answers (.safetyStatus c) s (fun u =>
    u.replied c 0x0903 S_OK [s.readReg .BX_SAF_STS, s.readReg .BX_TAP_STS] ∧ s.onlyReply u) := by
  refine answers_reply (by decide) ?_
  change execSafetyStatus c s = _
  unfold execSafetyStatus
  rw [s.checked_of_allowed (Cap.allowed_of_or2 hc) (Nat.zero_le _)]

theorem hangDumpRead_reads (hc : c.isOp = true) (hl : 1 ≤ c.params.length) (hheld : s.flag BX_TAP_STS_DUMP_HELD = true) :
    Answers (.hangDumpRead c) s (fun u => u.replied c 0x0904 S_OK [] ∧
      u.wdn.replies.getLast?.bind (fun r => r.hostWrite) = some (c.p 0, s.dumpBytes) ∧ u.rd BX_TAP_STS_DUMP_READ = 1 ∧ u.tap = s.tap) := by
  let t := s.wr BX_TAP_STS_DUMP_READ 0 1
  refine ⟨t.reply c 0x0904 S_OK [] 0 (some (c.p 0, s.dumpBytes)), ?_, t.reply_replied .., t.reply_hostWrite ..,
    (t.rd_reply c 0x0904 (by decide) [] ..).trans (s.rd_wr_same BX_TAP_STS_DUMP_READ 0 1), rfl⟩
  change execHangDumpRead c s = done _
  unfold execHangDumpRead
  rw [s.checked_of_allowed (Cap.allowed_of_or2 (.inl hc)) hl, hheld, if_neg (by decide), Cap.isMctp_of_isOp hc, if_neg Bool.false_ne_true]

end

/-- Settles O41: Taproot's copy, watchdogs and rings do what each command says, and Heartwood is erased by an authorized block only. -/
theorem taprootKeepsHeartwood : Obligations.TaprootKeepsHeartwood := by
  refine ⟨fun _ => taprootTimeLatch_copies, fun _ => taprootTimeLatch_runsOn, fun _ _ => tapKick_restarts,
    fun _ _ _ => wedgeDeclare_wedges, fun s r l hreqs => ?_, fun _ => taprootSelfReset_startsOver, fun _ _ => hwRead_reads,
    fun _ _ hc hl hmagic => hwClear_denied hc hl (State.authorized_of_magic hmagic 1), fun _ _ => hwClear_clears,
    fun _ _ => safetyStatus_reads, fun _ _ => hangDumpRead_reads⟩
  obtain ⟨u, hexec, hu, hmem, hseq⟩ := heartwoodRequest_writes hreqs
  exact ⟨u, hexec, hu, List.any_eq_true.mpr ⟨_, hmem, decide_eq_true rfl⟩, hseq⟩

end Sys2Proof.Machine
end

section
/-! SUPPORT. Resets of BX64 and what they leave (R491, R515, R516, Table 18-6). -/

namespace Sys2Proof.Machine
open Sys2Proof

/-! ### What precedes the wipe -/

/-- A state without what replies, records, detections and injectors change: register fields, link ends, Taproot, the Warden, the outputs and
Canopy. -/
def State.unprepared (s : State) : State := { s with regs := [], links := [], tap := {}, wdn := {}, cnp := {}, out := [] }

/-- The registers that what precedes the wipe of a reset changes, BOOT apart. -/
def prepareRegs : List Reg := [.BX_WDN_CNT0, .BX_WDN_CNT1, .BX_WDN_QP_STS, .BX_SAF_STS, .BX_WT_INJ, .BX_WT_STS, .BX_WDN_FW_STS] ++ signalRegs

/-- Between s before and t after, replies have been written, events recorded and injectors disarmed. -/
structure Prepares (s t : State) : Prop where
  rest : t.unprepared = s.unprepared
  regs : RegsKept prepareRegs s t

namespace Prepares
variable {s t u : State}

theorem refl (s : State) : Prepares s s := ⟨rfl, .refl _ s⟩

theorem trans (h : Prepares s t) (h' : Prepares t u) : Prepares s u := ⟨h'.rest.trans h.rest, h.regs.trans h'.regs⟩

theorem branch {c : Prop} [Decidable c] (ht : Prepares s t) (hu : Prepares s u) : Prepares s (if c then t else u) := by
  split <;> assumption

theorem foldl {α : Type} {f : State → α → State} {l : List α} (h : Prepares s t) (hf : ∀ u x, Prepares s u → Prepares s (f u x)) :
    Prepares s (l.foldl f t) := List.foldlRecOn l f h fun u hu x _ => hf u x hu

theorem of_signals (h : Signals s t) : Prepares s t := ⟨(congrArg State.unprepared h.rest :), h.regs.mono (by decide)⟩

theorem of_detects (h : Detects s t) : Prepares s t := ⟨(congrArg State.unprepared h.rest :), h.regs.mono (by decide)⟩

theorem of_sends (h : Sends s t) : Prepares s t := ⟨(congrArg State.unprepared h.rest :), h.regs.mono (by decide)⟩

theorem of_replies (h : Replies s t) : Prepares s t := ⟨(congrArg State.unprepared h.rest :), h.regs.mono (by decide)⟩

theorem red (h : Prepares s t) : t.red = s.red := (congrArg State.red h.rest :)
theorem ep (h : Prepares s t) : t.ep = s.ep := (congrArg State.ep h.rest :)
theorem zx (h : Prepares s t) : t.zx = s.zx := (congrArg State.zx h.rest :)
theorem up (h : Prepares s t) : t.up = s.up := (congrArg State.up h.rest :)
theorem bxTb (h : Prepares s t) : t.bxTb = s.bxTb := (congrArg State.bxTb h.rest :)

theorem rd (h : Prepares s t) {f : Fld} {i : Nat} (hlo : f.lo < 64 := by decide) (hf : f.reg ∉ prepareRegs := by decide) :
    t.rd f i = s.rd f i := h.regs f i hlo hf

theorem wr (h : Prepares s t) {f : Fld} {i v : Nat} (hlo : f.lo < 64 := by decide) (hf : f.reg ∈ prepareRegs := by decide) :
    Prepares s (t.wr f i v) := ⟨h.rest, h.regs.wr hlo hf⟩

theorem setWdn (h : Prepares s t) {w} : Prepares s { t with wdn := w } := ⟨h.rest, h.regs⟩

theorem setTap (h : Prepares s t) {x} : Prepares s { t with tap := x } := ⟨h.rest, h.regs⟩

theorem emit (h : Prepares s t) {o} : Prepares s (t.emit o) := ⟨h.rest, h.regs⟩

theorem reply (h : Prepares s t) {c op status res reason w} : Prepares s (t.reply c op status res reason w) :=
  h.trans (.of_replies (Replies.refl t).reply)

theorem signal (h : Prepares s t) {r} : Prepares s (t.signal r) := h.trans (.of_signals (Signals.refl t).signal)

theorem sendMsg (h : Prepares s t) {ty sub vc dst body epoch rec} : Prepares s (t.sendMsg ty sub vc dst body epoch rec) :=
  h.trans (.of_sends (Sends.refl t).sendMsg)

theorem detect (h : Prepares s t) {code sys idx die inj} : Prepares s (t.detect code sys idx die inj) :=
  h.trans (.of_detects (t.detect_detects code sys idx die inj))

theorem haltQp (h : Prepares s t) {i err row} : Prepares s (t.haltQp i err row) := h.wr.wr.signal

theorem endProg (h : Prepares s t) {r} : Prepares s (t.endProg r) := h.setWdn

theorem hostWrite (h : Prepares s t) {f : Nat} {w : Option (Nat × Bytes)} :
    Prepares s (match w with | none => t | some w => t.emit (.hostWrite f w.1 w.2)) := by
  split
  · exact h
  · exact h.emit

theorem writeReply (h : Prepares s t) {cqErr} : Prepares s (t.writeReply cqErr) := by
  dsimp only [State.writeReply]
  split
  · exact h
  · refine .branch h.setWdn ?_
    split
    · refine .branch (haltQp ?_) (.branch (emit (setWdn (wr (emit ?_)))) (setWdn (wr (emit ?_)))) <;> exact h.setWdn.endProg.hostWrite
    · exact h.setWdn.endProg.setWdn.foldl fun _ _ h => h.emit
    · exact h.setWdn.endProg.sendMsg
    · exact h.setWdn.endProg

theorem writeReplies (h : Prepares s t) : Prepares s t.writeReplies := h.foldl fun _ _ h => h.writeReply

theorem wtResetOff (h : Prepares s t) {p} : Prepares s (t.wtResetOff p).2 := wr (h.foldl fun _ _ h => h.wr.wr.wr.wr.setTap)

theorem resetOff (h : Prepares s t) {n} : Prepares s (t.resetOff n) := .branch h h.signal

end Prepares

/-! ### The wipe (Table 18-6) -/

section
variable {s t u : State} {k : ResetKind}

/-- What a reset of BX64 leaves, whatever its kind. -/
structure Wiped (s : State) (k : ResetKind) (u : State) : Prop where
  phase : u.up.phase = s.firstPhase k
  retried : u.up.retried = s.up.retried
  boot : u.rd BX_CNP_IDENT_BOOT = (s.rd BX_CNP_IDENT_BOOT + 1) % 2 ^ 32
  red : u.red = { restarted := s.red.restarted || s.liveGen?.isSome }
  grv : u.grv = {}
  cor : u.cor = {}
  hbm : u.hbm = {}
  egs : u.egs = {}
  zx : u.zx = s.zx
  jobs : u.gate.jobs = []
  lc : u.rd BX_LC_STS_STATE = s.rd BX_LC_STS_STATE
  fields : ∀ (f : Fld) (i : Nat), zxKey (f.key i) = false → bxKeep k (s.dumpKept k) (f.key i) = false → u.rd f i = resetOf f i

theorem State.firstPhase_congr (hlc : t.rd BX_LC_STS_STATE = s.rd BX_LC_STS_STATE) (k : ResetKind) : t.firstPhase k = s.firstPhase k := by
  unfold State.firstPhase
  rw [hlc]

theorem State.dumpKept_congr (hread : t.rd BX_TAP_STS_DUMP_READ = s.rd BX_TAP_STS_DUMP_READ) (k : ResetKind) :
    t.dumpKept k = s.dumpKept k := by
  unfold State.dumpKept State.flag
  rw [hread]

theorem Wiped.of_prepares (h : Prepares s t) (hu : Wiped t k u) : Wiped s k u where
  phase := hu.phase.trans (State.firstPhase_congr h.rd k)
  retried := hu.retried.trans (congrArg PowerUp.retried h.up)
  boot := by rw [hu.boot, h.rd]
  red := by
    have hgen : t.liveGen? = s.liveGen? := congrArg (fun e => e.gens.head?) h.ep
    rw [hu.red, h.red, hgen]
  grv := hu.grv
  cor := hu.cor
  hbm := hu.hbm
  egs := hu.egs
  zx := hu.zx.trans h.zx
  jobs := hu.jobs
  lc := hu.lc.trans h.rd
  fields f i hz hk := hu.fields f i hz (by rw [State.dumpKept_congr h.rd]; exact hk)

/-- The state of a reset before its wipe, and how many injectors it has disarmed. -/
def State.preReset (s : State) (k : ResetKind) : Nat × State :=
  let t := s.signal { ty := if k.isCold then 0x0003 else 0x0004, source := 0x80 }
  let u := t.wr BX_CNP_IDENT_BOOT 0 (t.rd BX_CNP_IDENT_BOOT + 1)
  (if u.wdn.fw.updating.isSome then u.wr BX_WDN_FW_STS_STORE_VALID 0 0 else u).wtResetOff (fun _ => true)

/-- Before its wipe a reset counts BOOT, and else changes what replies, records and injectors change. -/
theorem State.preReset_keeps (s : State) (k : ResetKind) : (s.preReset k).2.unprepared = s.unprepared ∧
    RegsKept (.BX_CNP_IDENT :: prepareRegs) s (s.preReset k).2 ∧
    (s.preReset k).2.rd BX_CNP_IDENT_BOOT = (s.rd BX_CNP_IDENT_BOOT + 1) % 2 ^ 32 := by
  let t := s.signal { ty := if k.isCold then 0x0003 else 0x0004, source := 0x80 }
  let u := t.wr BX_CNP_IDENT_BOOT 0 (t.rd BX_CNP_IDENT_BOOT + 1)
  have ht : Prepares s t := (Prepares.refl s).signal
  have hu : RegsKept (.BX_CNP_IDENT :: prepareRegs) t u := .wr (.refl _ t)
  have hv : Prepares u (s.preReset k).2 := .wtResetOff (.branch (Prepares.refl u).wr (.refl u))
  refine ⟨hv.rest.trans ht.rest, ((ht.regs.mono (List.subset_cons_self ..)).trans hu).trans (hv.regs.mono (List.subset_cons_self ..)), ?_⟩
  rw [hv.rd, ← ht.rd (f := BX_CNP_IDENT_BOOT)]
  exact t.rd_wr_same ..

theorem bxKeep_boot (k : ResetKind) (dump : Bool) : bxKeep k dump (BX_CNP_IDENT_BOOT.key 0) = true := by
  unfold bxKeep
  rw [show keepAlways (BX_CNP_IDENT_BOOT.key 0) = true by decide]
  rfl

theorem bxKeep_lc (k : ResetKind) (dump : Bool) : bxKeep k dump (BX_LC_STS_STATE.key 0) = true := by
  unfold bxKeep
  rw [show keepAlways (BX_LC_STS_STATE.key 0) = true by decide]
  rfl

theorem bxKeep_dump (k : ResetKind) : bxKeep k true (BX_TAP_STS_DUMP_HELD.key 0) = true := by
  unfold bxKeep
  rw [show keyIn [BX_TAP_STS_DUMP_HELD, BX_TAP_STS_DUMP_READ] (BX_TAP_STS_DUMP_HELD.key 0) = true by decide]
  cases keepAlways (BX_TAP_STS_DUMP_HELD.key 0) <;> cases !k.isCold && nextSizeKey (BX_TAP_STS_DUMP_HELD.key 0) <;> rfl

/-- What a reset keeps with a dump held includes what it keeps without. -/
theorem bxKeep_false_of_true {key : Nat} (h : bxKeep k true key = false) (dump : Bool) : bxKeep k dump key = false := by
  cases dump with
  | true => exact h
  | false =>
    unfold bxKeep at h ⊢
    simp only [Bool.or_eq_false_iff, Bool.and_eq_false_iff] at h ⊢
    obtain ⟨⟨⟨⟨hfixed, hsize⟩, -⟩, hwarm⟩, hexit⟩ := h
    exact ⟨⟨⟨⟨hfixed, hsize⟩, .inl trivial⟩, hwarm⟩, hexit⟩

/-- A field that a reset keeps reads after the wipe as before. -/
theorem State.rd_bxReset (s : State) {f : Fld} {i : Nat} (hkeep : bxKeep k ((s.preReset k).2.dumpKept k) (f.key i) = true) :
    (s.bxReset k).rd f i = (s.preReset k).2.rd f i :=
  State.rd_dropRegs _ (p := fun key => !zxKey key && !bxKeep k ((s.preReset k).2.dumpKept k) key) (by rw [hkeep]; simp)

theorem State.bxReset_wipes (s : State) (k : ResetKind) : Wiped s k (s.bxReset k) := by
  obtain ⟨hrest, hregs, hboot⟩ := s.preReset_keeps k
  have hred : (s.preReset k).2.red = s.red := (congrArg State.red hrest :)
  have hep : (s.preReset k).2.ep = s.ep := (congrArg State.ep hrest :)
  have hlc : (s.preReset k).2.rd BX_LC_STS_STATE = s.rd BX_LC_STS_STATE := hregs _ _ (by decide) (by decide)
  have hdump := State.dumpKept_congr (hregs BX_TAP_STS_DUMP_READ 0 (by decide) (by decide)) k
  refine ⟨State.firstPhase_congr hlc k, (congrArg (fun v : State => v.up.retried) hrest :), (s.rd_bxReset (bxKeep_boot k _)).trans hboot, ?_,
    rfl, rfl, rfl, rfl, (congrArg State.zx hrest :), rfl, (s.rd_bxReset (bxKeep_lc k _)).trans hlc, fun f i hz hk => ?_⟩
  · have hgen : (s.preReset k).2.liveGen? = s.liveGen? := congrArg (fun e => e.gens.head?) hep
    rw [← hred, ← hgen]
    rfl
  · refine State.rd_dropRegs_taken _ (p := fun key => !zxKey key && !bxKeep k ((s.preReset k).2.dumpKept k) key) ?_
    rw [hz, hdump, hk]
    rfl

end

/-! ### SYS_RESET WARM and COLD, POWER_ON, the rails (R515, R516) -/

section
variable {s : State} {c : Cap}

theorem State.sysReset_of_op (hc : c.isOpPcie = true) (hl : 1 ≤ c.params.length) {kind : Nat} (hk : c.p 0 = kind) (f : State → State) :
    s.sysReset c kind f = f s := by
  unfold State.sysReset
  rw [s.checked_of_allowed (by rw [hc, Bool.true_or]) hl]
  exact if_neg (not_not.mpr hk)

/-- The reset asked for is answered, and begins. -/
theorem State.askedReset_wipes {k : ResetKind} (hk : s.up.lcNext = none ∨ k.isCold = true) : ∃ t, Prepares s t ∧ s.askedReset c k =
    t.bxReset k := by
  have hp : Prepares s (s.reply c 0x0004 S_OK).writeReplies := (Prepares.refl s).reply.writeReplies
  refine ⟨_, hp, if_neg fun h => ?_⟩
  rcases hk with hk | hk
  · rw [hp.up, hk] at h
    exact Bool.false_ne_true h.1
  · exact h.2 hk

theorem State.firstPhase_of_live (hlc : s.rd BX_LC_STS_STATE ≠ 4) (k : ResetKind) : s.firstPhase k = if k.isCold then 1 else 4 := if_neg hlc

theorem sysResetWarm_wipes (hc : c.isOpPcie = true) (hl : 1 ≤ c.params.length) (hkind : c.p 0 = 0) (hlc : s.up.lcNext = none)
    (hp3 : s.rd BX_PWR_STS_PSTATE ≠ 3) : Answers (.sysResetWarm c) s (fun u => Wiped s .warm u) := by
  obtain ⟨t, ht, hreset⟩ := State.askedReset_wipes (c := c) (k := .warm) (.inl hlc)
  have hwarm : s.warmKind = .warm := if_neg hp3
  refine ⟨t.bxReset .warm, ?_, (t.bxReset_wipes .warm).of_prepares ht⟩
  change done (s.sysReset c 0 fun s => s.askedReset c s.warmKind) = done _
  rw [State.sysReset_of_op hc hl hkind, hwarm, hreset]

/-- A cold reset leaves the fences, the Warden and the replay array as after power. -/
theorem sysResetCold_wipes (hc : c.isOpPcie = true) (hl : 1 ≤ c.params.length) (hkind : c.p 0 = 1) : Answers (.sysResetCold c) s (fun u =>
    Wiped s .cold u ∧ u.cnp = {} ∧ u.wdn = {} ∧ u.rpl = {}) := by
  obtain ⟨t, ht, hreset⟩ := State.askedReset_wipes (c := c) (k := .cold) (.inr rfl)
  refine ⟨t.bxReset .cold, ?_, (t.bxReset_wipes .cold).of_prepares ht, rfl, rfl, rfl⟩
  change done (s.sysReset c 1 fun s => s.askedReset c .cold) = done _
  rw [State.sysReset_of_op hc hl hkind, hreset]

theorem powerOn_wipes : Answers .powerOn s (fun u => Wiped s .cold u ∧ u.cnp = {} ∧ u.wdn = {} ∧ u.rpl = {}) :=
  ⟨_, rfl, s.bxReset_wipes .cold, rfl, rfl, rfl⟩

theorem railBelowMinimum_wipes (hon : s.up.phase ≠ 6) : Answers .railBelowMinimum s (fun u =>
    Wiped s .cold u ∧ u.cnp = {} ∧ u.wdn = {} ∧ u.rpl = {}) :=
  ⟨_, congrArg done (if_neg hon), ((s.detect 0x1302 0x80 0).bxReset_wipes .cold).of_prepares (Prepares.refl s).detect, rfl, rfl, rfl⟩

end

/-! ### Ports and clusters (R515) -/

section
variable {s t u : State}

/-- Between s before and t after, commands to a ZX40 have timed out: the epochs' targets and the ports' commands change, and what replies
change. -/
structure TimesOut (s t : State) : Prop where
  rest : { t with regs := s.regs, links := s.links, ep := s.ep, wdn := s.wdn } = s

namespace TimesOut

theorem refl (s : State) : TimesOut s s := ⟨rfl⟩

theorem branch {c : Prop} [Decidable c] (ht : TimesOut s t) (hu : TimesOut s u) : TimesOut s (if c then t else u) := by
  split <;> assumption

theorem reply (h : TimesOut s t) {c op status res reason w} : TimesOut s (t.reply c op status res reason w) := by
  have hrep := (Replies.refl t).reply (c := c) (op := op) (status := status) (res := res) (reason := reason) (w := w)
  exact ⟨(congrArg (fun v : State => { v with regs := s.regs, links := s.links, ep := s.ep, wdn := s.wdn }) hrep.rest :).trans h.rest⟩

theorem setEp (h : TimesOut s t) {e} : TimesOut s { t with ep := e } := ⟨h.rest⟩

theorem timeoutZx (h : TimesOut s t) {p m} : TimesOut s (t.timeoutZx p m) := by
  unfold State.timeoutZx
  split
  · exact h.reply
  · dsimp only
    split
    · exact .branch h.setEp h
    · exact .branch (TimesOut.setEp (.branch h.setEp h)) (.branch h.setEp h)

theorem flushZx (h : TimesOut s t) {p} : TimesOut s (t.flushZx p) := by
  have hlink : TimesOut s (t.modLink (.stem p) (fun l => { l with wait := l.wait.filter (fun w => !isCapsFlit w) })) := ⟨h.rest⟩
  have hout : TimesOut s ((t.zxPort p).out.foldl (fun s m => s.timeoutZx p m)
      (t.modLink (.stem p) (fun l => { l with wait := l.wait.filter (fun w => !isCapsFlit w) }))) :=
    List.foldlRecOn _ _ hlink fun _ h _ _ => h.timeoutZx
  exact ⟨hout.rest⟩

end TimesOut

/-- Between s before and t after, injectors have been disarmed and the record of it written. -/
structure Disarms (s t : State) : Prop where
  rest : { t with regs := s.regs, tap := s.tap } = s
  regs : RegsKept [.BX_WT_INJ, .BX_WT_STS, .BX_HW_STS, .BX_HW_CNT] s t

namespace Disarms

theorem links (h : Disarms s t) : t.links = s.links := (congrArg State.links h.rest :)
theorem cnp (h : Disarms s t) : t.cnp = s.cnp := (congrArg State.cnp h.rest :)
theorem red (h : Disarms s t) : t.red = s.red := (congrArg State.red h.rest :)
theorem rpl (h : Disarms s t) : t.rpl = s.rpl := (congrArg State.rpl h.rest :)
theorem up (h : Disarms s t) : t.up = s.up := (congrArg State.up h.rest :)

theorem wr (h : Disarms s t) {f : Fld} {i v : Nat} (hlo : f.lo < 64 := by decide)
    (hf : f.reg ∈ [Reg.BX_WT_INJ, .BX_WT_STS, .BX_HW_STS, .BX_HW_CNT] := by decide) : Disarms s (t.wr f i v) := ⟨h.rest, h.regs.wr hlo hf⟩

theorem setTap (h : Disarms s t) {x} : Disarms s { t with tap := x } := ⟨h.rest, h.regs⟩

theorem wtResetOff (s : State) (p : Nat → Bool) : Disarms s (s.wtResetOff p).2 := by
  have hfold : Disarms s ((s.wtArmed.filter p).foldl (fun s tgt =>
      let s := (((s.wr BX_WT_INJ_ARMED tgt 0).wr BX_WT_INJ_ACTION tgt 0).wr BX_WT_INJ_REMAIN tgt 0).wr BX_WT_INJ_ARG tgt 0
      { s with tap := { s.tap with wtDone := s.tap.wtDone.erase tgt } }) s) :=
    List.foldlRecOn (motive := fun t : State => Disarms s t) _ _ ⟨rfl, .refl _ s⟩ fun _ h _ _ => h.wr.wr.wr.wr.setTap
  exact hfold.wr

theorem resetOff (h : Disarms s t) (n : Nat) : Disarms s (t.resetOff n) := by
  unfold State.resetOff
  split
  · exact h
  · have hrec := t.signal_records { ty := 0x0304, source := 17, detail := n }
    exact ⟨(congrArg (fun v : State => { v with regs := s.regs, tap := s.tap }) hrec.rest :).trans h.rest, h.regs.trans (hrec.regs.mono (by
        decide))⟩

end Disarms

/-- A link end returned to reset, then the injectors of its port disarmed. -/
def State.relink (s : State) (e : LinkId) : State :=
  let t := s.keepQueues.setLink e { lastChange := s.bxNs }
  let x := t.wtResetOff (fun t => (wtLink e true == some t) || (wtLink e false == some t))
  x.2.resetOff x.1

theorem State.relink_disarms (s : State) (e : LinkId) : Disarms (s.keepQueues.setLink e { lastChange := s.bxNs }) (s.relink e) :=
  (Disarms.wtResetOff _ _).resetOff _

theorem State.link_relink (s : State) (e : LinkId) : (s.relink e).link e = { lastChange := s.bxNs } := by
  have h : (s.relink e).link e = (s.keepQueues.setLink e { lastChange := s.bxNs }).link e :=
    congrArg (fun l : SMap LinkEnd => SMap.getD l e.key {}) (s.relink_disarms e).links
  exact h.trans (State.link_setLink ..)

/-- The state of a Stem port before its link end returns to reset. -/
def State.stemBefore (s : State) (p : Nat) : State :=
  let t := if ((s.link (.stem p)).replay.any (fun h => h.body.ty = 4)) ∨ (s.link (.stem p)).wait.any isCapsFlit then s.flushZx p else s
  { t.wr BX_STM_PORT_CTRL_HOLD p 0 with queues := t.queues.filter (fun (x : Nat × Queue) => x.1 / 8 ≠ crossQueue p 0 / 8) }

theorem State.stemBefore_timesOut (s : State) (p : Nat) : TimesOut s { s.stemBefore p with queues := s.queues } := by
  have h : TimesOut s (if ((s.link (.stem p)).replay.any (fun h => h.body.ty = 4)) ∨ (s.link (.stem p)).wait.any isCapsFlit then s.flushZx p
      else s) := .branch (TimesOut.refl s).flushZx (.refl s)
  exact ⟨(congrArg (fun v : State => { v with queues := s.queues }) h.rest :)⟩

theorem State.rd_stemBefore_hold (s : State) (p : Nat) : (s.stemBefore p).rd BX_STM_PORT_CTRL_HOLD p = 0 :=
  State.rd_wr_same _ BX_STM_PORT_CTRL_HOLD p 0

theorem State.portReset_stem (s : State) (p : Nat) : s.portReset (.stem p) = (s.stemBefore p).relink (.stem p) := rfl

theorem State.portReset_stem_resets (s : State) (p : Nat) : (s.portReset (.stem p)).link (.stem p) = { lastChange := s.bxNs } ∧
    (s.portReset (.stem p)).rd BX_STM_PORT_CTRL_HOLD p = 0 ∧ (s.portReset (.stem p)).cnp = s.cnp ∧ (s.portReset (.stem p)).red = s.red ∧
    (s.portReset (.stem p)).up = s.up := by
  have ht := s.stemBefore_timesOut p
  have hhold := s.rd_stemBefore_hold p
  rw [s.portReset_stem]
  generalize s.stemBefore p = t at *
  have hu := t.relink_disarms (.stem p)
  have hns : t.bxNs = s.bxNs := congrArg Timebase.ns (congrArg State.bxTb ht.rest :)
  exact ⟨hns ▸ t.link_relink _, (hu.regs _ _ (by decide) (by decide)).trans hhold, hu.cnp.trans (congrArg State.cnp ht.rest :),
    hu.red.trans (congrArg State.red ht.rest :), hu.up.trans (congrArg State.up ht.rest :)⟩

theorem sysResetStemPort_resets {c : Cap} (hc : c.isOpPcie = true) (hl : 1 ≤ c.params.length) (hkind : c.p 0 = 2) (hp : c.p 1 < 64) :
    Answers (.sysResetStemPort c) s (fun u => u.answered c 0x0004 S_OK ∧ u.link (.stem (c.p 1)) = { lastChange := s.bxNs } ∧
      u.rd BX_STM_PORT_CTRL_HOLD (c.p 1) = 0 ∧ u.cnp = s.cnp ∧ u.red = s.red ∧ u.up = s.up) := by
  have he : exec (.sysResetStemPort c) s = done ((s.portReset (.stem (c.p 1))).reply c 0x0004 S_OK) := by
    change done (s.sysReset c 2 fun s => _) = done _
    rw [State.sysReset_of_op hc hl hkind, if_neg (Nat.not_le.mpr hp)]
  obtain ⟨hlink, hhold, hcnp, hred, hup⟩ := s.portReset_stem_resets (c.p 1)
  generalize s.portReset (.stem (c.p 1)) = t at *
  exact ⟨_, he, State.reply_answered .., hlink, (State.rd_reply _ c 0x0004 (by decide) [] _ _).trans hhold, hcnp, hred, hup⟩

theorem sysResetStemPort_badIndex {c : Cap} (hc : c.isOpPcie = true) (hl : 1 ≤ c.params.length) (hkind : c.p 0 = 2) (hp : 64 ≤ c.p 1) :
    Answers (.sysResetStemPort c) s (fun u => u.replied c 0x0004 S_BADPARAM [] ∧ s.onlyReply u) := by
  refine answers_reply (by decide) ?_
  change done (s.sysReset c 2 fun s => _) = _
  rw [State.sysReset_of_op hc hl hkind, if_pos hp]

/-- The state of a Canopy port before its link end returns to reset. -/
def State.canopyBefore (s : State) (q : Nat) : State :=
  let t := (s.link (.canopy q)).wait.foldl (fun (s : State) (w : Nat × WaitFlit) => match w.2.fromPort with
    | some f => if f = q then s else s.freeBuf f w.1
    | none => s) s
  let u := (t.setPstate q 0).dropRegs (fun k => keyOf [.BX_CNP_PORT_STS, .BX_CNP_PORT_SEQ] k && k / 16384 == q)
  (u.wr BX_CNP_PORT_CTRL_HOLD q 0).setPort q {}

theorem State.portReset_canopy (s : State) (q : Nat) : s.portReset (.canopy q) = (s.canopyBefore q).relink (.canopy q) := rfl

theorem State.canopyBefore_rest (s : State) (q : Nat) : (s.canopyBefore q).unsignalled = s.unsignalled := by
  have ht : Signals s ((s.link (.canopy q)).wait.foldl (fun (s : State) (w : Nat × WaitFlit) => match w.2.fromPort with
      | some f => if f = q then s else s.freeBuf f w.1
      | none => s) s) := by
    refine (Signals.refl s).foldl fun v w h => ?_
    split
    · exact .branch h h.freeBuf
    · exact h
  exact ht.setPstate.rest

theorem State.port_canopyBefore (s : State) (q : Nat) : (s.canopyBefore q).port q = {} := SMap.getD_set_same _ _ _ _

theorem State.rd_canopyBefore_pstate (s : State) {q : Nat} (hq : q < 24) : (s.canopyBefore q).rd BX_CNP_PORT_STS_PSTATE q = 0 := by
  have hport : ∀ q < 24, (BX_CNP_PORT_STS_PSTATE.key q / 16384 == q) = true := by decide
  unfold State.canopyBefore
  extract_lets t u
  have hdrop : u.rd BX_CNP_PORT_STS_PSTATE q = 0 := by
    refine State.rd_dropRegs_taken _ (p := fun k => keyOf [.BX_CNP_PORT_STS, .BX_CNP_PORT_SEQ] k && k / 16384 == q) ?_
    rw [keyOf_key_mem q (by decide) (by decide), hport q hq]
    rfl
  exact (u.rd_wr_otherReg (f := BX_CNP_PORT_CTRL_HOLD) (g := BX_CNP_PORT_STS_PSTATE) (i := q) (j := q) 0 (by decide) (by decide) (by
      decide)).trans hdrop

theorem sysResetCanopyPort_resets {c : Cap} (hc : c.isOpPcie = true) (hl : 1 ≤ c.params.length) (hkind : c.p 0 = 3) (hq : c.p 1 < 24) :
    Answers (.sysResetCanopyPort c) s (fun u => u.answered c 0x0004 S_OK ∧ u.link (.canopy (c.p 1)) = { lastChange := s.bxNs } ∧
      u.port (c.p 1) = {} ∧ u.rd BX_CNP_PORT_STS_PSTATE (c.p 1) = 0 ∧ u.up = s.up) := by
  have he : exec (.sysResetCanopyPort c) s = done ((s.portReset (.canopy (c.p 1))).reply c 0x0004 S_OK) := by
    change done (s.sysReset c 3 fun s => _) = done _
    rw [State.sysReset_of_op hc hl hkind, if_neg (Nat.not_le.mpr hq)]
  have hrest := s.canopyBefore_rest (c.p 1)
  have hport := s.port_canopyBefore (c.p 1)
  have hpstate := s.rd_canopyBefore_pstate hq
  rw [s.portReset_canopy] at he
  generalize s.canopyBefore (c.p 1) = t at *
  have hu := t.relink_disarms (.canopy (c.p 1))
  have hns : t.bxNs = s.bxNs := congrArg Timebase.ns (congrArg State.bxTb hrest :)
  have hport' : (t.relink (.canopy (c.p 1))).port (c.p 1) = {} :=
    (congrArg (fun n : Fabric => SMap.getD n.ports (c.p 1) {}) hu.cnp).trans hport
  exact ⟨_, he, State.reply_answered .., hns ▸ t.link_relink _, hport',
    (State.rd_reply _ c 0x0004 (by decide) [] _ _).trans ((hu.regs _ _ (by decide) (by decide)).trans hpstate),
    hu.up.trans (congrArg State.up hrest :)⟩

/-- The contexts of a cluster are wiped. -/
theorem State.rctx_wiped (s : State) (cl : Nat) {k : Nat} (hk : k < 4) :
    (((List.range 4).map (fun i => 4 * cl + i)).foldl (fun s k => s.setRctx k {}) s).rctx (4 * cl + k) = {} := by
  refine foldl_reaches (E := fun _ : State => True) (P := fun t : State => t.rctx (4 * cl + k) = {})
    (List.mem_map.mpr ⟨k, List.mem_range.mpr hk, rfl⟩) (fun _ _ _ => trivial) (fun t j _ ht => ?_) (fun t _ => SMap.getD_set_same _ _ _ _)
    trivial
  by_cases hj : 4 * cl + k = j
  · subst hj
    exact SMap.getD_set_same _ _ _ _
  · exact (SMap.getD_set_other _ _ _ hj).trans ht

theorem State.rctx_clusterReset (s : State) (cl : Nat) {k : Nat} (hk : k < 4) : (s.clusterReset cl).rctx (4 * cl + k) = {} := by
  unfold State.clusterReset
  extract_lets ks t
  clear_value t
  refine Eq.trans ?_ (t.rctx_wiped cl hk)
  exact congrArg (fun r : Replay => SMap.getD r.ctxs (4 * cl + k) {}) ((Disarms.wtResetOff _ _).resetOff _).rpl

theorem sysResetCluster_resets {c : Cap} (hc : c.isOpPcie = true) (hl : 1 ≤ c.params.length) (hkind : c.p 0 = 4) (hcl : c.p 1 < 4) :
    Answers (.sysResetCluster c) s (fun u => u.answered c 0x0004 S_OK ∧ ∀ k < 4, u.rctx (4 * c.p 1 + k) = {}) := by
  have he : exec (.sysResetCluster c) s = done ((s.clusterReset (c.p 1)).reply c 0x0004 S_OK) := by
    change done (s.sysReset c 4 fun s => _) = done _
    rw [State.sysReset_of_op hc hl hkind, if_neg (Nat.not_le.mpr hcl)]
  have hctx := fun k (hk : k < 4) => s.rctx_clusterReset (c.p 1) hk
  generalize s.clusterReset (c.p 1) = t at *
  exact ⟨_, he, State.reply_answered .., hctx⟩

end

/-! ### The hang dump (R491) -/

section
variable {s : State} {br : List (Nat × Nat)} {late : List Nat}

theorem bxHangDumpHeld_none (hpend : s.tap.dumpPend = none) : Answers (.bxHangDumpHeld br late) s (fun u => u = s) := by
  refine ⟨s, ?_, rfl⟩
  change execBxHangDumpHeld br late s = done s
  unfold execBxHangDumpHeld
  rw [hpend]

/-- The state with the hang dump taken, before AUTO_RESET. -/
def State.takeDump (s : State) (d : SMap Nat) (n : Nat) : State :=
  ((({ s with tap := { s.tap with dump := d, dumpPend := none } }.wr BX_TAP_STS_DUMP_HELD 0 1).wr BX_TAP_STS_DUMP_READ 0 0).signal
    { ty := 0x0002, source := 0x80, extra := n })

/-- A dump taken is held and not read. -/
theorem State.takeDump_holds (s : State) (d : SMap Nat) (n : Nat) : (s.takeDump d n).rd BX_TAP_STS_DUMP_HELD = 1 ∧
    (s.takeDump d n).rd BX_TAP_STS_DUMP_READ = 0 ∧ (s.takeDump d n).tap.dumpPend = none ∧ (s.takeDump d n).tap.dump = d ∧
    (s.takeDump d n).up = s.up ∧ (s.takeDump d n).rd BX_TAP_CTRL_AUTO_RESET = s.rd BX_TAP_CTRL_AUTO_RESET := by
  let t := ({ s with tap := { s.tap with dump := d, dumpPend := none } } : State)
  let u := (t.wr BX_TAP_STS_DUMP_HELD 0 1).wr BX_TAP_STS_DUMP_READ 0 0
  have hnotes : Notes u (s.takeDump d n) := (Notes.refl u).signal
  refine ⟨hnotes.rd.trans (((t.wr BX_TAP_STS_DUMP_HELD 0 1).rd_wr_otherLo _ (by decide) (by decide) (by decide)).trans
      (t.rd_wr_same BX_TAP_STS_DUMP_HELD 0 1)),
    hnotes.rd.trans ((t.wr BX_TAP_STS_DUMP_HELD 0 1).rd_wr_same BX_TAP_STS_DUMP_READ 0 0), (congrArg Taproot.dumpPend hnotes.latch.tap :),
    (congrArg Taproot.dump hnotes.latch.tap :), hnotes.up, hnotes.rd.trans ?_⟩
  exact ((t.wr BX_TAP_STS_DUMP_HELD 0 1).rd_wr_otherReg _ (by decide) (by decide) (by decide)).trans
    (t.rd_wr_otherReg _ (by decide) (by decide) (by decide))

/-- The word offsets of the dump that timed out. -/
def dumpLate (late : List Nat) : List Nat := late.filter (fun i => i < 0x3800 / 8)

/-- The dump Taproot takes. -/
def State.dumpTaken (s : State) (at_ causes seq : Nat) (br : List (Nat × Nat)) (late : List Nat) : SMap Nat :=
  dumpTimeouts (s.dumpWords at_ causes seq (dumpLate late).length br) (dumpLate late)

variable {at_ causes seq : Nat}

theorem exec_bxHangDumpHeld (hpend : s.tap.dumpPend = some (at_, causes, seq)) : exec (.bxHangDumpHeld br late) s =
    done (s.takeDump (s.dumpTaken at_ causes seq br late) (dumpLate late).length).autoReset := by
  change execBxHangDumpHeld br late s = _
  unfold execBxHangDumpHeld
  rw [hpend]
  rfl

theorem bxHangDumpHeld_holds (hpend : s.tap.dumpPend = some (at_, causes, seq)) (hauto : s.rd BX_TAP_CTRL_AUTO_RESET = 0) :
    Answers (.bxHangDumpHeld br late) s (fun u => u.rd BX_TAP_STS_DUMP_HELD = 1 ∧ u.rd BX_TAP_STS_DUMP_READ = 0 ∧ u.tap.dumpPend = none ∧
      u.tap.dump = s.dumpTaken at_ causes seq br late ∧ u.up = s.up) := by
  have he := exec_bxHangDumpHeld (br := br) (late := late) hpend
  obtain ⟨hheld, hread, hnone, hdump, hup, hreset⟩ := s.takeDump_holds (s.dumpTaken at_ causes seq br late) (dumpLate late).length
  generalize s.takeDump (s.dumpTaken at_ causes seq br late) (dumpLate late).length = t at *
  refine ⟨t, he.trans ?_, hheld, hread, hnone, hdump, hup⟩
  unfold State.autoReset
  rw [hreset, hauto]
  rfl

theorem State.takeDump_rest (s : State) (d : SMap Nat) (n : Nat) : (s.takeDump d n).unprepared = s.unprepared ∧
    (s.takeDump d n).rd BX_LC_STS_STATE = s.rd BX_LC_STS_STATE := by
  let t := ({ s with tap := { s.tap with dump := d, dumpPend := none } } : State)
  let u := (t.wr BX_TAP_STS_DUMP_HELD 0 1).wr BX_TAP_STS_DUMP_READ 0 0
  have h : Prepares u (s.takeDump d n) := (Prepares.refl u).signal
  exact ⟨h.rest, h.rd.trans (((t.wr BX_TAP_STS_DUMP_HELD 0 1).rd_wr_otherReg _ (by decide) (by decide) (by decide)).trans
    (t.rd_wr_otherReg _ (by decide) (by decide) (by decide)))⟩

theorem State.preReset_dump (s : State) (k : ResetKind) : (s.preReset k).2.tap.dump = s.tap.dump := by
  let t := s.signal { ty := if k.isCold then 0x0003 else 0x0004, source := 0x80 }
  let u := t.wr BX_CNP_IDENT_BOOT 0 (t.rd BX_CNP_IDENT_BOOT + 1)
  let v := if u.wdn.fw.updating.isSome then u.wr BX_WDN_FW_STS_STORE_VALID 0 0 else u
  have ht : t.tap.dump = s.tap.dump := (congrArg Taproot.dump ((Latched.refl s).signal).tap :)
  have hv : v.tap.dump = t.tap.dump := by
    dsimp only [v]
    split <;> rfl
  refine Eq.trans ?_ (hv.trans ht)
  exact List.foldlRecOn (motive := fun w : State => w.tap.dump = v.tap.dump) _ _ rfl fun _ h _ _ => h

/-- A cold reset of AUTO_RESET = 2 keeps a dump not read. -/
theorem State.bxReset_coldDump {s : State} (hread : s.rd BX_TAP_STS_DUMP_READ = 0) :
    (s.bxReset .coldDump).rd BX_TAP_STS_DUMP_HELD = s.rd BX_TAP_STS_DUMP_HELD ∧ (s.bxReset .coldDump).tap.dump = s.tap.dump := by
  obtain ⟨-, hregs, -⟩ := s.preReset_keeps .coldDump
  have hkept : (s.preReset .coldDump).2.dumpKept .coldDump = true := by
    rw [State.dumpKept_congr (hregs BX_TAP_STS_DUMP_READ 0 (by decide) (by decide))]
    unfold State.dumpKept State.flag
    rw [hread]
    rfl
  refine ⟨(s.rd_bxReset (by rw [hkept]; exact bxKeep_dump _)).trans (hregs _ _ (by decide) (by decide)), ?_⟩
  refine Eq.trans ?_ (s.preReset_dump .coldDump)
  change (if (s.preReset .coldDump).2.dumpKept .coldDump = true then (s.preReset .coldDump).2.tap.dump else []) = _
  rw [hkept, if_pos rfl]

theorem bxHangDumpHeld_resets (hpend : s.tap.dumpPend = some (at_, causes, seq)) (hauto : s.rd BX_TAP_CTRL_AUTO_RESET = 2)
    (hlc : s.rd BX_LC_STS_STATE ≠ 4) : Answers (.bxHangDumpHeld br late) s (fun u => u.rd BX_TAP_STS_DUMP_HELD = 1 ∧
      u.tap.dump = s.dumpTaken at_ causes seq br late ∧ u.up.phase = 1 ∧ u.red = { restarted := s.red.restarted || s.liveGen?.isSome } ∧
      u.grv = {} ∧ u.cor = {} ∧ u.hbm = {} ∧ u.egs = {} ∧ u.zx = s.zx) := by
  have he := exec_bxHangDumpHeld (br := br) (late := late) hpend
  obtain ⟨hheld, hread, -, hdump, -, hreset⟩ := s.takeDump_holds (s.dumpTaken at_ causes seq br late) (dumpLate late).length
  obtain ⟨hrest, hlife⟩ := s.takeDump_rest (s.dumpTaken at_ causes seq br late) (dumpLate late).length
  generalize s.takeDump (s.dumpTaken at_ causes seq br late) (dumpLate late).length = t at *
  obtain ⟨hheld', hdump'⟩ := State.bxReset_coldDump hread
  have hu := t.bxReset_wipes .coldDump
  have hred : t.red = s.red := (congrArg State.red hrest :)
  have hgen : t.liveGen? = s.liveGen? := congrArg (fun e => e.gens.head?) (congrArg State.ep hrest :)
  refine ⟨t.bxReset .coldDump, he.trans ?_, hheld'.trans hheld, hdump'.trans hdump,
    hu.phase.trans (State.firstPhase_of_live (hlife ▸ hlc) .coldDump), by rw [hu.red, hred, hgen], hu.grv, hu.cor, hu.hbm, hu.egs,
    hu.zx.trans (congrArg State.zx hrest :)⟩
  unfold State.autoReset
  rw [hreset, hauto]
  rfl

end

/-- Settles O47: a reset writes its replies and records, counts BOOT and wipes what its column of Table 18-6 does not keep. -/
theorem resetsReturnThePart : Obligations.ResetsReturnThePart := by
  refine ⟨fun s c hc hl hkind hnext hp3 hlc => ?_, fun s c hc hl hkind hlc => ?_, fun s c hc hl hkind hlc => ?_, fun s hlc => ?_,
    fun s hlc hon => ?_, fun s hoff => ⟨s, congrArg done (if_pos hoff), rfl⟩, fun _ _ => sysResetStemPort_resets,
    fun _ _ => sysResetStemPort_badIndex, fun _ _ => sysResetCanopyPort_resets, fun _ _ => sysResetCluster_resets,
    fun _ _ _ => bxHangDumpHeld_none, fun _ _ _ _ _ _ => bxHangDumpHeld_holds, fun _ _ _ _ _ _ => bxHangDumpHeld_resets⟩
  · obtain ⟨u, he, hu⟩ := sysResetWarm_wipes hc hl hkind hnext hp3
    exact ⟨u, he, hu.phase.trans (State.firstPhase_of_live hlc .warm), hu.boot, hu.red, hu.grv, hu.cor, hu.hbm, hu.egs, hu.zx, hu.jobs, hu.lc,
      fun f i hz hk => hu.fields f i hz (bxKeep_false_of_true hk _)⟩
  · obtain ⟨u, he, hu, hcnp, hwdn, hrpl⟩ := sysResetCold_wipes (s := s) hc hl hkind
    exact ⟨u, he, hu.phase.trans (State.firstPhase_of_live hlc .cold), hu.boot, hu.red, hu.grv, hu.cor, hu.hbm, hu.egs, hu.zx, hcnp, hwdn, hrpl,
      fun f i hz hk => hu.fields f i hz hk⟩
  · obtain ⟨u, he, hu, -⟩ := sysResetCold_wipes (s := s) hc hl hkind
    exact ⟨u, he, hu.phase.trans (if_pos hlc)⟩
  · obtain ⟨u, he, hu, hcnp, hwdn, hrpl⟩ := powerOn_wipes (s := s)
    exact ⟨u, he, hu.phase.trans (State.firstPhase_of_live hlc .cold), hu.boot, hu.red, hu.grv, hu.cor, hu.hbm, hu.egs, hu.zx, hcnp, hwdn, hrpl,
      fun f i hz hk => hu.fields f i hz hk⟩
  · obtain ⟨u, he, hu, hcnp, hwdn, hrpl⟩ := railBelowMinimum_wipes hon
    exact ⟨u, he, hu.phase.trans (State.firstPhase_of_live hlc .cold), hu.boot, hu.red, hu.grv, hu.cor, hu.hbm, hu.egs, hu.zx, hcnp, hwdn, hrpl⟩

end Sys2Proof.Machine
end

section
/-! SUPPORT. Bring-up, the end of the Clearing, and power loss (R416, R516, R526, R530, Table 18-8). -/

namespace Sys2Proof.Machine
open Sys2Proof

/-! ### The steps of Table 18-8 -/

section
variable {s : State}

/-- A step that fails sets its fault bit and holds the part in reset. -/
theorem State.fault_holds (s : State) (f : Fld) (hf : 1 % 2 ^ f.width = 1) : ((s.wr f 0 1).toPhase 5).up.phase = 5 ∧
    ((s.wr f 0 1).toPhase 5).rd f = 1 := ⟨rfl, (s.rd_wr_same f 0 1).trans hf⟩

theorem bringupRailsUp_done (hph : s.up.phase = 1) : Answers (.bringupRailsUp true) s (fun u =>
    u.up = { s.up with phase := 2 } ∧ u.regs = s.regs) := ⟨s.toPhase 2, if_neg (not_not.mpr hph), rfl, rfl⟩

theorem bringupRailsUp_fails (hph : s.up.phase = 1) : Answers (.bringupRailsUp false) s (fun u =>
    u.up.phase = 5 ∧ u.rd BX_PWR_STS_RAIL_FAULT = 1) := ⟨_, if_neg (not_not.mpr hph), s.fault_holds BX_PWR_STS_RAIL_FAULT (by decide)⟩

theorem bringupPllLock_done (hph : s.up.phase = 2) : Answers (.bringupPllLock true) s (fun u =>
    u.up = { s.up with phase := 3 } ∧ u.regs = s.regs) := ⟨s.toPhase 3, if_neg (not_not.mpr hph), rfl, rfl⟩

theorem bringupPllLock_fails (hph : s.up.phase = 2) : Answers (.bringupPllLock false) s (fun u =>
    u.up.phase = 5 ∧ u.rd BX_PWR_STS_CLOCK_FAULT = 1) := ⟨_, if_neg (not_not.mpr hph), s.fault_holds BX_PWR_STS_CLOCK_FAULT (by decide)⟩

theorem pcieLinkUp_up (hph : s.up.phase < 5) (hp3 : s.rd BX_PWR_STS_PSTATE ≠ 3) : Answers .pcieLinkUp s (fun u =>
    u.up = { s.up with pcie := true } ∧ u.regs = s.regs) :=
  ⟨_, congrArg done (if_neg (not_or.mpr ⟨Nat.not_le.mpr hph, hp3⟩)), rfl, rfl⟩

theorem pcieLinkUp_inP3 (hp3 : s.rd BX_PWR_STS_PSTATE = 3) : Answers .pcieLinkUp s (fun u => u = s) :=
  ⟨s, congrArg done (if_pos (.inr hp3)), rfl⟩

theorem hbmTrainingDone_done (hph : s.up.phase = 3) : Answers (.hbmTrainingDone true) s (fun u =>
    u.up = { s.up with phase := 4 } ∧ u.regs = s.regs) := ⟨s.toPhase 4, if_neg (not_not.mpr hph), rfl, rfl⟩

theorem State.hbmFail_retried (hre : s.up.retried = true) : s.hbmFail.up.phase = 5 ∧ s.hbmFail.rd BX_PWR_STS_HBM_FAULT = 1 := by
  rw [show s.hbmFail = (s.wr BX_PWR_STS_HBM_FAULT 0 1).toPhase 5 from if_pos hre]
  exact s.fault_holds BX_PWR_STS_HBM_FAULT (by decide)

/-- The first failure of HBM training is followed by one further cold reset. -/
theorem State.hbmFail_resets (hre : s.up.retried = false) (hlc : s.rd BX_LC_STS_STATE ≠ 4) :
    s.hbmFail.up.phase = 1 ∧ s.hbmFail.up.retried = true := by
  have hwiped := (s.setUp { s.up with retried := true }).bxReset_wipes .cold
  rw [show s.hbmFail = (s.setUp { s.up with retried := true }).bxReset .cold from if_neg (ne_true_of_eq_false hre)]
  exact ⟨hwiped.phase.trans (State.firstPhase_of_live hlc .cold), hwiped.retried⟩

theorem hbmTrainingDone_fails (hph : s.up.phase = 3) (hre : s.up.retried = true) : Answers (.hbmTrainingDone false) s (fun u =>
    u.up.phase = 5 ∧ u.rd BX_PWR_STS_HBM_FAULT = 1) := ⟨s.hbmFail, if_neg (not_not.mpr hph), State.hbmFail_retried hre⟩

theorem hbmTrainingDone_retries (hph : s.up.phase = 3) (hre : s.up.retried = false) (hlc : s.rd BX_LC_STS_STATE ≠ 4) :
    Answers (.hbmTrainingDone false) s (fun u => u.up.phase = 1 ∧ u.up.retried = true) :=
  ⟨s.hbmFail, if_neg (not_not.mpr hph), State.hbmFail_resets hre hlc⟩

/-! ### Time limits -/

theorem bringupTimeout_nvm (hph : s.up.phase = 1) : Answers (.bringupTimeout 1) s (fun u => u.up.phase = 5 ∧ u.rd BX_LC_STS_NVM_ERR = 1) :=
  ⟨_, congrArg done (if_pos hph), s.fault_holds BX_LC_STS_NVM_ERR (by decide)⟩

theorem bringupTimeout_rails (hph : s.up.phase = 1) : Answers (.bringupTimeout 2) s (fun u =>
    u.up.phase = 5 ∧ u.rd BX_PWR_STS_RAIL_FAULT = 1) := ⟨_, congrArg done (if_pos hph), s.fault_holds BX_PWR_STS_RAIL_FAULT (by decide)⟩

theorem bringupTimeout_plls (hph : s.up.phase = 2) : Answers (.bringupTimeout 3) s (fun u =>
    u.up.phase = 5 ∧ u.rd BX_PWR_STS_CLOCK_FAULT = 1) := ⟨_, congrArg done (if_pos hph), s.fault_holds BX_PWR_STS_CLOCK_FAULT (by decide)⟩

theorem bringupTimeout_hbm (hph : s.up.phase = 3 ∨ s.up.phase = 4) (hre : s.up.retried = true) : Answers (.bringupTimeout 5) s (fun u =>
    u.up.phase = 5 ∧ u.rd BX_PWR_STS_HBM_FAULT = 1) := ⟨s.hbmFail, congrArg done (if_pos hph), State.hbmFail_retried hre⟩

theorem bringupTimeout_running (hph : s.up.phase = 0) (n : Nat) : Answers (.bringupTimeout n) s (fun u => u = s) := by
  refine ⟨s, ?_, rfl⟩
  change execBringupTimeout n s = done s
  unfold execBringupTimeout
  rw [hph]
  split <;> rfl

theorem powerLoss_stops : Answers .powerLoss s (fun u => u.up = { phase := 6 } ∧ u.gate = {} ∧
    u.red = { restarted := s.red.restarted || s.liveGen?.isSome } ∧ u.hbm = {} ∧ u.zx = s.zx) := ⟨_, rfl, rfl, rfl, rfl, rfl, rfl⟩

end

/-! ### The end of the Clearing (R416, R526, R530) -/

section
variable {s : State}

/-- Each region's SIZE is its NEXT_SIZE, and no other register changes. -/
theorem State.applySizes_regs (s : State) : RegsKept [.BX_MEM_REGION] s s.applySizes :=
  RegsKept.foldl (.refl _ s) fun _ _ h => .wr (.wr h)

theorem State.applySizes_rest (s : State) : { s.applySizes with regs := s.regs } = s :=
  List.foldlRecOn (motive := fun t : State => { t with regs := s.regs } = s) _ _ rfl fun _ h _ _ => h

theorem State.rd_applySizes (s : State) {r : Nat} (hr : r < 6) :
    s.applySizes.rd BX_MEM_REGION_SIZE r = s.rd BX_MEM_REGION_NEXT_SIZE r % 2 ^ BX_MEM_REGION_SIZE.width := by
  unfold State.applySizes
  extract_lets sizes
  have hsize : sizes.getD r 0 = s.rd BX_MEM_REGION_NEXT_SIZE r := by
    dsimp only [sizes]
    rw [List.getD_eq_getElem _ _ (by simpa using hr)]
    simp
  refine foldl_reaches (E := fun _ : State => True)
    (P := fun t : State => t.rd BX_MEM_REGION_SIZE r = s.rd BX_MEM_REGION_NEXT_SIZE r % 2 ^ BX_MEM_REGION_SIZE.width)
    (List.mem_range.mpr hr) (fun _ _ _ => trivial) (fun t j _ ht => ?_) (fun t _ => ?_) trivial
  · rw [State.rd_wr_otherLo _ _ (by decide) (by decide) (by decide)]
    by_cases hj : r = j
    · subst hj
      rw [State.rd_wr_same, hsize]
    · exact (State.rd_wr_otherIdx _ _ (by decide) (by decide) hj).trans ht
  · rw [State.rd_wr_otherLo _ _ (by decide) (by decide) (by decide), State.rd_wr_same, hsize]

/-- The registers that the Warden's start changes. -/
def startRegs : List Reg := [.BX_WDN_FW_STS, .BX_WDN_BOOT_STS, .BX_HW_STS, .BX_HW_CNT, .BX_WDN_EV_STS]

theorem State.wardenStart_keeps (s : State) (cause : Nat) : (s.wardenStart cause).up = s.up ∧
    (s.wardenStart cause).tap.opKey = s.tap.opKey ∧ RegsKept startRegs s (s.wardenStart cause) := by
  cases hruns : s.storeRuns with
  | false =>
    have hnotes := State.wardenStart_notes_recovery hruns cause
    have hregs : RegsKept startRegs s s.enterRecovery := .wr (.wr (.refl _ s))
    exact ⟨hnotes.up, hnotes.opKey, hregs.trans (hnotes.regs.mono (by decide))⟩
  | true =>
    have hnotes := State.wardenStart_notes_runs hruns cause
    let t := s.setFw { s.wdn.fw with restartDue := false }
    let u := (((t.wr BX_WDN_FW_STS_STATE 0 1).wr BX_WDN_FW_STS_VERSION 0 (rdLe s.wdn.fw.image 8 4)).wr BX_WDN_FW_STS_MIN_SEC_VER 0
      (max (t.rd BX_WDN_FW_STS_MIN_SEC_VER) (rdLe s.wdn.fw.image 6 2))).wr BX_WDN_BOOT_STS_RECOVERY 0 0
    have hregs : RegsKept startRegs t u := .wr (.wr (.wr (.wr (.refl _ t))))
    exact ⟨hnotes.up, hnotes.opKey, hregs.trans (hnotes.regs.mono (by decide))⟩

/-- A state after the transition of step 4 of R530, where the part is not retired. -/
structure LcEntered (s : State) (new key : Nat) (u : State) : Prop where
  lc : u.rd BX_LC_STS_STATE = new
  opKey : u.tap.opKey = key
  up : u.up = s.up

theorem State.lcEnter_enters (s : State) {new : Nat} (hnew : new < 4) (key : Nat) : LcEntered s new key (s.lcEnter new key) := by
  have hmod : new % 2 ^ BX_LC_STS_STATE.width = new := Nat.mod_eq_of_lt (Nat.lt_trans hnew (by decide))
  let t := (s.wr BX_LC_STS_STATE 0 new).bump BX_LC_STS_TRANSITIONS
  have hstate : t.rd BX_LC_STS_STATE = new :=
    ((s.wr BX_LC_STS_STATE 0 new).rd_wr_otherLo _ (by decide) (by decide) (by decide)).trans ((s.rd_wr_same ..).trans hmod)
  let u : State := { t with tap := { t.tap with opKey := key } }
  let v := if new = 3 then ((u.wr BX_CNP_IDENT_FLEET_ID 0 BX_CNP_IDENT_FLEET_ID.reset).wr BX_CNP_IDENT_AGG_ID 0 BX_CNP_IDENT_AGG_ID.reset).wr
    BX_CNP_IDENT_ASSIGNED 0 BX_CNP_IDENT_ASSIGNED.reset else u
  have hident : RegsKept [.BX_CNP_IDENT] u
      (((u.wr BX_CNP_IDENT_FLEET_ID 0 BX_CNP_IDENT_FLEET_ID.reset).wr BX_CNP_IDENT_AGG_ID 0 BX_CNP_IDENT_AGG_ID.reset).wr BX_CNP_IDENT_ASSIGNED
        0 BX_CNP_IDENT_ASSIGNED.reset) := .wr (.wr (.wr (.refl _ u)))
  have hregs : RegsKept [.BX_CNP_IDENT] u v := .branch hident (.refl _ u)
  have hrest : { v with regs := u.regs } = u := by
    dsimp only [v]
    split <;> rfl
  have hnotes : Notes v (s.lcEnter new key) := by
    unfold State.lcEnter
    dsimp only
    rw [if_neg (Nat.ne_of_lt hnew)]
    exact (Notes.refl v).signal
  exact ⟨hnotes.rd.trans ((hregs _ _ (by decide) (by decide)).trans hstate), hnotes.opKey.trans (congrArg (fun w : State => w.tap.opKey)
      hrest :),
    hnotes.up.trans (congrArg State.up hrest :)⟩

/-- What follows the new state at the end of the Clearing. -/
def State.clearingEnds (s : State) : State := (s.wr BX_LC_STS_TRANSITIONING 0 0).resetOff s.up.injOff

theorem State.clearingEnds_notes (s : State) : Notes (s.wr BX_LC_STS_TRANSITIONING 0 0) s.clearingEnds :=
  .branch (.refl _) (Notes.refl _).signal

/-- The part runs after the Clearing, where it is not retired. -/
def State.clearedRuns (s : State) : State :=
  (s.clearingEnds.setUp { s.clearingEnds.up with phase := 0, retried := false, lcNext := none, injOff := 0 }).wardenStart 0

theorem State.clearedRuns_keeps (s : State) : s.clearedRuns.up = { s.up with phase := 0, retried := false, lcNext := none, injOff := 0 } ∧
    s.clearedRuns.tap.opKey = s.tap.opKey ∧ s.clearedRuns.rd BX_LC_STS_TRANSITIONING = 0 ∧
    RegsKept (.BX_LC_STS :: startRegs) s s.clearedRuns ∧ s.clearedRuns.rd BX_LC_STS_STATE = s.rd BX_LC_STS_STATE := by
  have hnotes := s.clearingEnds_notes
  obtain ⟨hup, hkey, hregs⟩ := State.wardenStart_keeps
    (s.clearingEnds.setUp { s.clearingEnds.up with phase := 0, retried := false, lcNext := none, injOff := 0 }) 0
  have hwr : RegsKept (.BX_LC_STS :: startRegs) s (s.wr BX_LC_STS_TRANSITIONING 0 0) := .wr (.refl _ s)
  refine ⟨hup.trans ?_, hkey.trans hnotes.opKey, (hregs _ _ (by decide) (by decide)).trans (hnotes.rd.trans (s.rd_wr_same _ _ 0)),
    (hwr.trans (hnotes.regs.mono (by decide))).trans (hregs.mono (by decide)),
    (hregs _ _ (by decide) (by decide)).trans (hnotes.rd.trans (s.rd_wr_otherLo _ (by decide) (by decide) (by decide)))⟩
  exact congrArg (fun p : PowerUp => { p with phase := 0, retried := false, lcNext := none, injOff := 0 }) hnotes.up

/-- The Clearing ends, the part not retired: t is the state with the sizes and a transition under way applied. -/
theorem exec_clearingDone {t : State} (hph : s.up.phase = 4) (hlive : t.rd BX_LC_STS_STATE ≠ 4)
    (ht : s.up.lcNext = none ∧ t = s.applySizes ∨ ∃ x, s.up.lcNext = some x ∧ t = s.applySizes.lcEnter x.1 x.2) :
    exec .clearingDone s = done t.clearedRuns := by
  have hup : s.applySizes.up = s.up := (congrArg State.up s.applySizes_rest :)
  have hlc : t.clearingEnds.rd BX_LC_STS_STATE ≠ 4 := by
    rw [t.clearingEnds_notes.rd, State.rd_wr_otherLo _ _ (by decide) (by decide) (by decide)]
    exact hlive
  change execClearingDone s = _
  unfold execClearingDone
  rw [if_neg (not_not.mpr hph)]
  dsimp only
  rw [hup]
  rcases ht with ⟨hnone, rfl⟩ | ⟨x, hx, rfl⟩
  · rw [hnone]
    exact if_neg hlc
  · rw [hx]
    exact if_neg hlc

theorem clearingDone_runs (hph : s.up.phase = 4) (hnext : s.up.lcNext = none) (hlc : s.rd BX_LC_STS_STATE ≠ 4) :
    Answers .clearingDone s (fun u => u.up.phase = 0 ∧ u.up.retried = false ∧
      (∀ r < 6, u.rd BX_MEM_REGION_SIZE r = s.rd BX_MEM_REGION_NEXT_SIZE r % 2 ^ BX_MEM_REGION_SIZE.width) ∧
      u.rd BX_LC_STS_STATE = s.rd BX_LC_STS_STATE) := by
  have hlife : s.applySizes.rd BX_LC_STS_STATE = s.rd BX_LC_STS_STATE := s.applySizes_regs _ _ (by decide) (by decide)
  have he := exec_clearingDone hph (hlife ▸ hlc) (.inl ⟨hnext, rfl⟩)
  have hsizes := fun r (hr : r < 6) => s.rd_applySizes hr
  generalize s.applySizes = t at *
  obtain ⟨hup, -, -, hregs, hstate⟩ := t.clearedRuns_keeps
  exact ⟨_, he, congrArg PowerUp.phase hup, congrArg PowerUp.retried hup, fun r hr => (hregs _ _ (by decide) (by decide)).trans (hsizes r hr),
    hstate.trans hlife⟩

theorem clearingDone_enters {st key : Nat} (hph : s.up.phase = 4) (hnext : s.up.lcNext = some (st, key)) (hst : st < 4) :
    Answers .clearingDone s (fun u => u.up.phase = 0 ∧ u.up.lcNext = none ∧ u.rd BX_LC_STS_STATE = st ∧
      u.rd BX_LC_STS_TRANSITIONING = 0 ∧ u.tap.opKey = key) := by
  have hent := s.applySizes.lcEnter_enters hst key
  have he := exec_clearingDone hph (by rw [hent.lc]; exact Nat.ne_of_lt hst) (.inr ⟨_, hnext, rfl⟩)
  generalize s.applySizes.lcEnter st key = t at *
  obtain ⟨hup, hkey, htrans, -, hstate⟩ := t.clearedRuns_keeps
  exact ⟨_, he, congrArg PowerUp.phase hup, congrArg PowerUp.lcNext hup, hstate.trans hent.lc, htrans, hkey.trans hent.opKey⟩

end

/-- Settles O48: each step of Table 18-8 sets its phase or its fault, and the Clearing ends with the sizes and a transition applied. -/
theorem bringUpGoesStepByStep : Obligations.BringUpGoesStepByStep :=
  ⟨fun _ => bringupRailsUp_done, fun _ => bringupRailsUp_fails, fun s _ hph => ⟨s, if_pos hph, rfl⟩, fun _ => bringupPllLock_done,
    fun _ => bringupPllLock_fails, fun _ => pcieLinkUp_up, fun _ => pcieLinkUp_inP3, fun _ => hbmTrainingDone_done,
    fun _ => hbmTrainingDone_fails, fun _ => hbmTrainingDone_retries, fun _ => clearingDone_runs, fun _ _ _ => clearingDone_enters,
    fun s hph => ⟨s, if_pos hph, rfl⟩, fun _ => bringupTimeout_nvm, fun _ => bringupTimeout_rails, fun _ => bringupTimeout_plls,
    fun _ => bringupTimeout_hbm, fun _ n hph => bringupTimeout_running hph n, fun _ => powerLoss_stops⟩

end Sys2Proof.Machine
end

section
/-! SUPPORT. Power states and throttling, LC_TRANSITION, detections and latent tests (R493 to R500, R518 to R530). -/

namespace Sys2Proof.Machine
open Sys2Proof

/-! ### Power states (R518 to R520) -/

section
variable {s : State} {c : Cap}

/-- What POWER_SET does of a state asked for, outside P3. -/
def State.setPower (s : State) (c : Cap) : State :=
  if 3 < c.p 0 then s.reply c 0x0005 S_BADPARAM
  else if c.p 0 = 3 ∧ s.rd BX_CNP_FAB_STS_ROLE ≠ 0 then s.reply c 0x0005 S_CONFLICT
  else if s.wdn.fw.updating.isSome ∨ s.flag BX_LC_STS_TRANSITIONING then s.reply c 0x0005 S_BUSY
  else if c.p 0 = 3 then s.enterP3 c
  else if c.p 0 = 2 then (if s.jobsRun then s.setUp { s.up with p2Wait := some c } else s.enterP2 c)
  else ((s.setUp { s.up with p2Wait := none }).wr BX_PWR_STS_PSTATE 0 (c.p 0)).reply c 0x0005 S_OK

theorem exec_powerSet (hp3 : s.rd BX_PWR_STS_PSTATE ≠ 3) (hc : c.isOp = true) (hl : 1 ≤ c.params.length) :
    exec (.powerSet c) s = done (s.setPower c) := by
  change execPowerSet c s = _
  unfold execPowerSet
  rw [if_neg hp3, s.checked_of_allowed hc hl]
  rfl

/-- Neither an update nor a transition is under way. -/
theorem State.not_busy (hupd : s.wdn.fw.updating = none) (htrans : s.flag BX_LC_STS_TRANSITIONING = false) :
    ¬ (s.wdn.fw.updating.isSome = true ∨ s.flag BX_LC_STS_TRANSITIONING = true) := by
  rw [hupd, htrans]
  decide

theorem State.enterP2_enters (s : State) (c : Cap) : (s.enterP2 c).replied c 0x0005 S_OK [] ∧ (s.enterP2 c).rd BX_PWR_STS_PSTATE = 2 ∧
    (s.enterP2 c).rpl.ctxs = [] ∧ (s.enterP2 c).up.p2Wait = none := by
  let t := ({ s.setUp { s.up with p2Wait := none } with rpl := { s.rpl with ctxs := [] } } : State)
  exact ⟨State.reply_replied .., (State.rd_reply _ c 0x0005 (by decide) [] _ _).trans (t.rd_wr_same BX_PWR_STS_PSTATE 0 2), rfl, rfl⟩

section
variable (hp3 : s.rd BX_PWR_STS_PSTATE ≠ 3) (hc : c.isOp = true) (hl : 1 ≤ c.params.length)
include hp3 hc hl

theorem powerSet_p0p1 (hz : c.p 0 ≤ 1) (hupd : s.wdn.fw.updating = none) (htrans : s.flag BX_LC_STS_TRANSITIONING = false) :
    Answers (.powerSet c) s (fun u => u.replied c 0x0005 S_OK [] ∧ u.rd BX_PWR_STS_PSTATE = c.p 0 ∧ u.up.p2Wait = none ∧ u.rpl = s.rpl) := by
  let t := s.setUp { s.up with p2Wait := none }
  have hmod : c.p 0 % 2 ^ BX_PWR_STS_PSTATE.width = c.p 0 := Nat.mod_eq_of_lt (Nat.lt_of_le_of_lt hz (by decide))
  refine ⟨(t.wr BX_PWR_STS_PSTATE 0 (c.p 0)).reply c 0x0005 S_OK, (exec_powerSet hp3 hc hl).trans (congrArg done ?_), State.reply_replied ..,
    (State.rd_reply _ c 0x0005 (by decide) [] _ _).trans ((t.rd_wr_same ..).trans hmod), rfl, rfl⟩
  unfold State.setPower
  rw [if_neg (by omega), if_neg fun h => by omega, if_neg (State.not_busy hupd htrans), if_neg (by omega), if_neg (by omega)]

theorem powerSet_p2 (hz : c.p 0 = 2) (hjobs : s.jobsRun = false) (hupd : s.wdn.fw.updating = none)
    (htrans : s.flag BX_LC_STS_TRANSITIONING = false) : Answers (.powerSet c) s (fun u =>
      u.replied c 0x0005 S_OK [] ∧ u.rd BX_PWR_STS_PSTATE = 2 ∧ u.rpl.ctxs = []) := by
  obtain ⟨hreplied, hstate, hctxs, -⟩ := s.enterP2_enters c
  refine ⟨s.enterP2 c, (exec_powerSet hp3 hc hl).trans (congrArg done ?_), hreplied, hstate, hctxs⟩
  unfold State.setPower
  rw [if_neg (by omega), if_neg fun h => by omega, if_neg (State.not_busy hupd htrans), if_neg (by omega), if_pos hz, hjobs,
    if_neg Bool.false_ne_true]

theorem powerSet_p2Waits (hz : c.p 0 = 2) (hjobs : s.jobsRun = true) (hupd : s.wdn.fw.updating = none)
    (htrans : s.flag BX_LC_STS_TRANSITIONING = false) : Answers (.powerSet c) s (fun u =>
      u.up.p2Wait = some c ∧ { u with up := s.up } = s) := by
  refine ⟨s.setUp { s.up with p2Wait := some c }, (exec_powerSet hp3 hc hl).trans (congrArg done ?_), rfl, rfl⟩
  unfold State.setPower
  rw [if_neg (by omega), if_neg fun h => by omega, if_neg (State.not_busy hupd htrans), if_neg (by omega), if_pos hz, hjobs, if_pos rfl]

theorem powerSet_p3 (hz : c.p 0 = 3) (hrole : s.rd BX_CNP_FAB_STS_ROLE = 0) (hupd : s.wdn.fw.updating = none)
    (htrans : s.flag BX_LC_STS_TRANSITIONING = false) : Answers (.powerSet c) s (fun u =>
      u.rd BX_PWR_STS_PSTATE = 3 ∧ u.up.pcie = false) := by
  refine ⟨s.enterP3 c, (exec_powerSet hp3 hc hl).trans (congrArg done ?_), State.rd_wr_same _ BX_PWR_STS_PSTATE 0 3, rfl⟩
  unfold State.setPower
  rw [if_neg (by omega), if_neg (not_and_of_not_right _ (not_not.mpr hrole)), if_neg (State.not_busy hupd htrans), if_pos hz]

theorem powerSet_conflict (hz : c.p 0 = 3) (hrole : s.rd BX_CNP_FAB_STS_ROLE ≠ 0) : Answers (.powerSet c) s (fun u =>
    u.replied c 0x0005 S_CONFLICT [] ∧ s.onlyReply u) := by
  refine answers_reply (by decide) ((exec_powerSet hp3 hc hl).trans (congrArg done ?_))
  unfold State.setPower
  rw [if_neg (by omega), if_pos ⟨hz, hrole⟩]

theorem powerSet_busy (hz : c.p 0 ≤ 2) (htrans : s.flag BX_LC_STS_TRANSITIONING = true) : Answers (.powerSet c) s (fun u =>
    u.replied c 0x0005 S_BUSY [] ∧ s.onlyReply u) := by
  refine answers_reply (by decide) ((exec_powerSet hp3 hc hl).trans (congrArg done ?_))
  unfold State.setPower
  rw [if_neg (by omega), if_neg fun h => by omega, if_pos (.inr htrans)]

theorem powerSet_badParam (hz : 3 < c.p 0) : Answers (.powerSet c) s (fun u => u.replied c 0x0005 S_BADPARAM [] ∧ s.onlyReply u) :=
  answers_reply (by decide) ((exec_powerSet hp3 hc hl).trans (congrArg done (if_pos hz)))

end

theorem powerSet_inP3 (hp3 : s.rd BX_PWR_STS_PSTATE = 3) : Answers (.powerSet c) s (fun u => u = s) := ⟨s, if_pos hp3, rfl⟩

theorem p2Entry_enters (hwait : s.up.p2Wait = some c) (hjobs : s.jobsRun = false) : Answers .p2Entry s (fun u =>
    u.replied c 0x0005 S_OK [] ∧ u.rd BX_PWR_STS_PSTATE = 2 ∧ u.rpl.ctxs = [] ∧ u.up.p2Wait = none) := by
  refine ⟨s.enterP2 c, ?_, s.enterP2_enters c⟩
  change execP2Entry s = done _
  unfold execP2Entry
  rw [hwait, hjobs]
  rfl

theorem p2Entry_waits (h : s.up.p2Wait = none ∨ s.jobsRun = true) : Answers .p2Entry s (fun u => u = s) := by
  refine ⟨s, ?_, rfl⟩
  change execP2Entry s = done s
  unfold execP2Entry
  rcases h with h | h
  · rw [h]
  · split
    · rfl
    · rw [h, if_pos rfl]

/-! ### Throttling (R522) -/

/-- The state with a power and an xclk, before THROTTLE_MS counts. -/
def State.throttled (s : State) (w x : Nat) : State :=
  ((s.wrSat BX_PWR_STS_POWER_W 0 w).setUp { s.up with xclk := x }).wr BX_PWR_STS_THROTTLE 0 (b2n (x < 16))

theorem exec_powerThrottle {w x : Nat} (hx : (if s.rd BX_PWR_LIMIT_LIMIT_W < w then s.up.xclk - 1 else min 16 (s.up.xclk + 1)) = x) :
    exec (.powerThrottle w) s = done (if x < 16 then (s.throttled w x).bump BX_PWR_STS_THROTTLE_MS else s.throttled w x) := by
  have hlim : (s.wrSat BX_PWR_STS_POWER_W 0 w).rd BX_PWR_LIMIT_LIMIT_W = s.rd BX_PWR_LIMIT_LIMIT_W :=
    s.rd_wr_otherReg _ (by decide) (by decide) (by decide)
  change execPowerThrottle w s = _
  unfold execPowerThrottle
  dsimp only
  rw [hlim]
  subst hx
  rfl

theorem State.rd_throttled (s : State) (w x : Nat) : (s.throttled w x).rd BX_PWR_STS_THROTTLE = b2n (x < 16) % 2 ∧
    (s.throttled w x).rd BX_PWR_STS_POWER_W = min w 65535 ∧ (s.throttled w x).rd BX_PWR_STS_THROTTLE_MS = s.rd BX_PWR_STS_THROTTLE_MS := by
  have hmod : min w BX_PWR_STS_POWER_W.max % 2 ^ BX_PWR_STS_POWER_W.width = min w 65535 :=
    Nat.mod_eq_of_lt (Nat.lt_of_le_of_lt (Nat.min_le_right _ _) (by decide))
  exact ⟨State.rd_wr_same _ BX_PWR_STS_THROTTLE 0 _,
    (State.rd_wr_otherLo _ _ (by decide) (by decide) (by decide)).trans ((s.rd_wr_same BX_PWR_STS_POWER_W 0 _).trans hmod),
    (State.rd_wr_otherLo _ _ (by decide) (by decide) (by decide)).trans (s.rd_wr_otherLo _ (by decide) (by decide) (by decide))⟩

theorem powerThrottle_slows {w : Nat} (hover : s.rd BX_PWR_LIMIT_LIMIT_W < w) (hmax : s.up.xclk ≤ 16) (hmin : 1 ≤ s.up.xclk) :
    Answers (.powerThrottle w) s (fun u => u.up.xclk = s.up.xclk - 1 ∧ u.rd BX_PWR_STS_THROTTLE = 1 ∧
      u.rd BX_PWR_STS_POWER_W = min w 65535 ∧ s.counted u BX_PWR_STS_THROTTLE_MS 0 1) := by
  have hslow : s.up.xclk - 1 < 16 := by omega
  have he := exec_powerThrottle (s := s) (w := w) (if_pos hover)
  obtain ⟨hthrottle, hpower, hms⟩ := s.rd_throttled w (s.up.xclk - 1)
  rw [if_pos hslow] at he
  refine ⟨_, he, rfl, ?_, ?_, State.counted_of_before hms (State.counted_bump _ BX_PWR_STS_THROTTLE_MS 0 1)⟩
  · refine (State.rd_wr_otherLo _ _ (by decide) (by decide) (by decide)).trans (hthrottle.trans ?_)
    rw [decide_eq_true hslow]
    rfl
  · exact (State.rd_wr_otherLo _ _ (by decide) (by decide) (by decide)).trans hpower

theorem powerThrottle_recovers {w : Nat} (hunder : w ≤ s.rd BX_PWR_LIMIT_LIMIT_W) (hx : 15 ≤ s.up.xclk) : Answers (.powerThrottle w) s (fun u =>
    u.up.xclk = 16 ∧ u.rd BX_PWR_STS_THROTTLE = 0 ∧ u.rd BX_PWR_STS_POWER_W = min w 65535) := by
  have hfull : (if s.rd BX_PWR_LIMIT_LIMIT_W < w then s.up.xclk - 1 else min 16 (s.up.xclk + 1)) = 16 := by
    rw [if_neg (Nat.not_lt.mpr hunder)]
    omega
  obtain ⟨hthrottle, hpower, -⟩ := s.rd_throttled w 16
  exact ⟨s.throttled w 16, exec_powerThrottle hfull, rfl, hthrottle, hpower⟩

end

/-! ### The life cycle (R528 to R530) -/

section
variable {s : State} {c : Cap}

theorem lcStatus_reads (hc : c.isOp = true ∨ c.isMctp = true) : Answers (.lcStatus c) s (fun u =>
    u.replied c 0x0A01 S_OK [s.readReg .BX_LC_STS] ∧ s.onlyReply u) := by
  refine answers_reply (by decide) ?_
  change execLcStatus c s = _
  unfold execLcStatus
  rw [s.checked_of_allowed (Cap.allowed_of_or2 hc) (Nat.zero_le _)]

theorem Cap.lcAllowed (hc : c.isOpPcie = true) : (c.isOpPcie || c.isMctp) = true := by rw [hc, Bool.true_or]

theorem lcTransition_notPermitted (hc : c.isOpPcie = true) (hl : 2 ≤ c.params.length)
    (hcmd : lcCommand (s.rd BX_LC_STS_STATE) (c.p 0) = none) : Answers (.lcTransition c) s (fun u =>
      u.replied c 0x0A02 S_BADPARAM [] ∧ s.onlyReply u) :=
  answers_reply (by decide) (exec_lcTransition_none (Cap.lcAllowed hc) hl hcmd)

theorem lcTransition_busy (hc : c.isOpPcie = true) (hl : 2 ≤ c.params.length)
    (hcmd : (lcCommand (s.rd BX_LC_STS_STATE) (c.p 0)).isSome = true) (hrun : s.flag BX_LC_STS_TRANSITIONING = true) :
    Answers (.lcTransition c) s (fun u => u.replied c 0x0A02 S_BUSY [] ∧ s.onlyReply u) := by
  obtain ⟨cmd, hcmd⟩ := Option.isSome_iff_exists.mp hcmd
  refine answers_reply (by decide) ?_
  change execLcTransition c s = _
  unfold execLcTransition
  rw [s.checked_of_allowed (Cap.lcAllowed hc) hl]
  dsimp only
  rw [hcmd]
  dsimp only
  rw [Cap.isMctp_of_isOpPcie hc, if_neg fun h => Bool.false_ne_true h.1, hrun, if_pos rfl]

theorem lcTransition_denied {cmd : Nat} (hc : c.isOpPcie = true) (hl : 2 ≤ c.params.length)
    (hcmd : lcCommand (s.rd BX_LC_STS_STATE) (c.p 0) = some cmd) (hrun : s.flag BX_LC_STS_TRANSITIONING = false)
    (hbad : (s.authorized cmd c.data).1 = false) : Answers (.lcTransition c) s (fun u =>
      u.replied c 0x0A02 S_DENIED [] ∧ u.rd BX_LC_STS_STATE = s.rd BX_LC_STS_STATE) := by
  have he := exec_lcTransition_judges (blk := c.data) (.inl ⟨hc, rfl⟩) hl hrun hcmd
  rw [State.lcJudge_denied hbad] at he
  exact ⟨_, he, State.reply_replied .., ((Replies.refl _).reply.regs _ _ (by decide) (by decide)).trans
    (s.rd_wr_otherReg _ (by decide) (by decide) (by decide))⟩

/-- A transition begins with a warm reset, and until the end of the Clearing the state is the old one. -/
theorem State.lcBegin_resets (s : State) (c : Cap) (new key : Nat) (hlc : s.rd BX_LC_STS_STATE ≠ 4) :
    (s.lcBegin c new key).up.phase = 4 ∧ (s.lcBegin c new key).rd BX_LC_STS_STATE = s.rd BX_LC_STS_STATE := by
  let t := s.wr BX_LC_STS_TRANSITIONING 0 1
  let u := (t.reply c 0x0A02 S_OK).writeReplies
  have hu : Prepares t u := (Prepares.refl t).reply.writeReplies
  have hlife : t.rd BX_LC_STS_STATE = s.rd BX_LC_STS_STATE := s.rd_wr_otherLo _ (by decide) (by decide) (by decide)
  have hwiped := (u.bxReset_wipes .lifeCycle).of_prepares hu
  exact ⟨hwiped.phase.trans (State.firstPhase_of_live (hlife ▸ hlc) .lifeCycle),
    ((u.bxReset .lifeCycle).rd_wr_otherLo (f := BX_LC_STS_TRANSITIONING) (i := 0) 1 (by decide) (by decide) (by decide)).trans
      (hwiped.lc.trans hlife)⟩

/-- No transition leaves RETIRED. -/
theorem lcCommand_retired (new : Nat) : lcCommand 4 new = none := rfl

theorem lcTransition_begins {cmd : Nat} (hc : c.isOpPcie = true) (hl : 2 ≤ c.params.length)
    (hcmd : lcCommand (s.rd BX_LC_STS_STATE) (c.p 0) = some cmd) (hkey : cmd ≠ 0x0010) (hret : cmd ≠ 0x0016)
    (hrun : s.flag BX_LC_STS_TRANSITIONING = false) (hok : (s.authorized cmd c.data).1 = true) : Answers (.lcTransition c) s (fun u =>
      u.rd BX_LC_STS_TRANSITIONING = 1 ∧ u.up.phase = 4 ∧ u.up.lcNext.map (fun x => x.1) = some (c.p 0) ∧
      u.rd BX_LC_STS_STATE = s.rd BX_LC_STS_STATE) := by
  have he := exec_lcTransition_judges (blk := c.data) (.inl ⟨hc, rfl⟩) hl hrun hcmd
  obtain ⟨key, hbegin⟩ := State.lcJudge_begins (c := c) hok hret fun h => absurd h hkey
  have hlive : s.rd BX_LC_STS_STATE ≠ 4 := fun h => by
    rw [h, lcCommand_retired] at hcmd
    exact Option.some_ne_none _ hcmd.symm
  let t := s.wr BX_HW_AUTH_NONCE 0 (s.rd BX_HW_AUTH_NONCE + 1)
  have hlife : t.rd BX_LC_STS_STATE = s.rd BX_LC_STS_STATE := s.rd_wr_otherReg _ (by decide) (by decide) (by decide)
  obtain ⟨hphase, hlc⟩ := t.lcBegin_resets c (c.p 0) key (hlife ▸ hlive)
  rw [hbegin] at he
  exact ⟨_, he, State.lcBegin_transitioning .., hphase, congrArg (Option.map _) (State.lcBegin_lcNext ..), hlc.trans hlife⟩

end

/-! ### Detections and latent tests (R493 to R500) -/

section
variable {s : State} {i : Nat} {a : List Nat} {d : Option Nat} {j g : Bool}

/-- A detection in BX64 is counted with its code; DEGRADED is kept. -/
theorem State.detect_counts (s : State) {code : Nat} (hcode : code < 65536) (sys idx : Nat) (die : Option Nat) (inj : Bool) :
    s.counted (s.detect code sys idx die inj) BX_SAF_STS_DETECTIONS 0 1 ∧ (s.detect code sys idx die inj).rd BX_SAF_STS_LAST_CODE = code ∧
    (s.detect code sys idx die inj).rd BX_SAF_STS_DEGRADED = s.rd BX_SAF_STS_DEGRADED := by
  let t := s.wr BX_SAF_STS_LAST_CODE 0 code
  let u := t.bump BX_SAF_STS_DETECTIONS
  let v := u.wr BX_SAF_STS_LAST_INJ 0 (b2n inj)
  have halarm : Signals v (v.safAlarm code sys idx die) := .branch (.refl v) (Signals.refl v).setTap.alarmUp
  have hsig : Signals v (s.detect code sys idx die inj) := halarm.signal
  have hlow (f : Fld) (hlo : f.lo < 64) (hf : f.reg ∉ signalRegs) (hinj : f.lo ≠ 14) : (s.detect code sys idx die inj).rd f = u.rd f :=
    (hsig.regs f 0 hlo hf).trans (u.rd_wr_otherLo _ (by decide) hlo hinj)
  have hother (f : Fld) (hlo : f.lo < 64) (hcount : f.lo ≠ 32) : u.rd f = t.rd f := t.rd_wr_otherLo _ (by decide) hlo hcount
  refine ⟨?_, ?_, ?_⟩
  · exact (hlow _ (by decide) (by decide) (by decide)).trans (State.counted_of_before (s.rd_wr_otherLo _ (by decide) (by decide) (by decide))
      (t.counted_bump BX_SAF_STS_DETECTIONS 0 1))
  · rw [hlow _ (by decide) (by decide) (by decide), hother _ (by decide) (by decide), s.rd_wr_same]
    exact Nat.mod_eq_of_lt hcode
  · rw [hlow _ (by decide) (by decide) (by decide), hother _ (by decide) (by decide)]
    exact s.rd_wr_otherLo _ (by decide) (by decide) (by decide)

theorem State.degrade_regs (s : State) (g : Bool) (f : Fld) (hlo : f.lo < 64) (hf : f.lo ≠ 15) : (s.degrade g).rd f = s.rd f := by
  cases g
  · rfl
  · exact s.rd_wr_otherLo _ (by decide) hlo hf

theorem State.rd_degrade (s : State) (g : Bool) : (s.degrade g).rd BX_SAF_STS_DEGRADED = if g then 1 else s.rd BX_SAF_STS_DEGRADED := by
  cases g
  · rfl
  · exact s.rd_wr_same BX_SAF_STS_DEGRADED 0 1

theorem exec_safetyDetection_bx {code : Nat} (hbx : code / 256 ≠ 0x40) : exec (.safetyDetection code i a d j g) s =
    done (((s.detect code (mechSys code) i d j).degrade g).bxReact code i a) := if_neg hbx

theorem exec_safetyDetection_zx {code : Nat} (hzx : code / 256 = 0x40) : exec (.safetyDetection code i a d j g) s =
    done ((s.zxReport code i).zxReact code a) := if_pos hzx

/-- A latent test that fails is recorded, alarmed and counted. -/
def State.latentFails (s : State) (code i : Nat) : State :=
  let u := (s.safAlarm code (mechSys code) i none).bump BX_SAF_STS_LATENT_FAILS
  u.signal { ty := 0x0202, source := mechSys code, idx := i, detail := code, extra := u.safExtra (mechSys code) i none }

theorem exec_latentTest_bx {code : Nat} (hbx : code / 256 ≠ 0x40) : exec (.latentTest code i a false g) s =
    done (((s.latentFails code i).degrade g).bxReact code i a) := if_neg hbx

theorem State.latentFails_counts (s : State) (code i : Nat) : s.counted (s.latentFails code i) BX_SAF_STS_LATENT_FAILS 0 1 := by
  let t := s.safAlarm code (mechSys code) i none
  have ht : Signals s t := .branch (.refl s) (Signals.refl s).setTap.alarmUp
  have hfails : s.counted (t.bump BX_SAF_STS_LATENT_FAILS) BX_SAF_STS_LATENT_FAILS 0 1 :=
    State.counted_of_before (ht.regs _ _ (by decide) (by decide)) (t.counted_bump BX_SAF_STS_LATENT_FAILS 0 1)
  exact (State.signal_records _ _).rd.trans hfails

/-- An egress failure leaves its shaper stuck, and no register changes. -/
theorem State.bxReact_egress (s : State) (i : Nat) (a : List Nat) : i ∈ (s.bxReact 0x0C01 i a).egs.stuck ∧
    (s.bxReact 0x0C01 i a).regs = s.regs := ⟨mem_addMark.mpr (.inl rfl), rfl⟩

theorem safetyDetection_egress : Answers (.safetyDetection 0x0C01 i a d j g) s (fun u => i ∈ u.egs.stuck ∧
    s.counted u BX_SAF_STS_DETECTIONS 0 1 ∧ u.rd BX_SAF_STS_LAST_CODE = 0x0C01 ∧
    u.rd BX_SAF_STS_DEGRADED = (if g then 1 else s.rd BX_SAF_STS_DEGRADED)) := by
  have he := exec_safetyDetection_bx (s := s) (code := 0x0C01) (i := i) (a := a) (d := d) (j := j) (g := g) (by decide)
  obtain ⟨hcount, hcode, hdeg⟩ := s.detect_counts (code := 0x0C01) (by decide) (mechSys 0x0C01) i d j
  generalize s.detect 0x0C01 (mechSys 0x0C01) i d j = t at *
  obtain ⟨hstuck, hregs⟩ := (t.degrade g).bxReact_egress i a
  refine ⟨_, he, hstuck, (State.rd_congr hregs _ _).trans ((t.degrade_regs g _ (by decide) (by decide)).trans hcount),
    (State.rd_congr hregs _ _).trans ((t.degrade_regs g _ (by decide) (by decide)).trans hcode),
    (State.rd_congr hregs _ _).trans ((t.rd_degrade g).trans ?_)⟩
  rw [hdeg]

theorem safetyDetection_timebase : Answers (.safetyDetection 0x0D01 i a d j g) s (fun u => u.bxTb.state = .unlocked ∧
    s.counted u BX_SAF_STS_DETECTIONS 0 1 ∧ s.counted u TB_STS_LOCK_LOSSES 1 1) := by
  have he := exec_safetyDetection_bx (s := s) (code := 0x0D01) (i := i) (a := a) (d := d) (j := j) (g := g) (by decide)
  obtain ⟨hcount, -, -⟩ := s.detect_counts (code := 0x0D01) (by decide) (mechSys 0x0D01) i d j
  have hlosses := (s.detect_detects 0x0D01 (mechSys 0x0D01) i d j).regs TB_STS_LOCK_LOSSES 1 (by decide) (by decide)
  generalize s.detect 0x0D01 (mechSys 0x0D01) i d j = t at *
  have hdeg : (t.degrade g).rd TB_STS_LOCK_LOSSES 1 = t.rd TB_STS_LOCK_LOSSES 1 := by
    cases g
    · rfl
    · exact t.rd_wr_otherReg _ (by decide) (by decide) (by decide)
  let u := (t.degrade g).setTb 1 { (t.degrade g).bxTb with state := .unlocked, goodRun := 0, badRun := 0 }
  exact ⟨u.bump TB_STS_LOCK_LOSSES 1, he, rfl,
    ((u.rd_bump_otherReg _ _ _).trans (t.degrade_regs g _ (by decide) (by decide))).trans hcount,
    State.counted_of_before (hdeg.trans hlosses) (u.counted_bump TB_STS_LOCK_LOSSES 1 1)⟩

theorem safetyDetection_epochLog {n : Nat} : Answers (.safetyDetection 0x4002 i (n :: a) d j g) s (fun u =>
    (∀ e ∈ u.zx.log, e.epoch ≠ n) ∧ n ∉ u.zx.unsent ∧ s.rd BX_SAF_STS_DETECTIONS = u.rd BX_SAF_STS_DETECTIONS) := by
  refine ⟨_, exec_safetyDetection_zx (by decide), fun e he => ?_, fun hn => ?_, rfl⟩
  · exact of_decide_eq_true (List.mem_filter.mp (show e ∈ s.zx.log.filter (fun (x : LogEntry) => x.epoch ≠ n) from he)).2
  · exact of_decide_eq_true (List.mem_filter.mp (show n ∈ s.zx.unsent.filter (fun m => m ≠ n) from hn)).2 rfl

theorem safetyDetection_grove : Answers (.safetyDetection 0x4006 i a d j g) s (fun u =>
    u.rd ZX_GRS_RESULT_VALID = 0 ∧ { u with regs := s.regs } = s) :=
  ⟨s.wr ZX_GRS_RESULT_VALID 0 0, exec_safetyDetection_zx (by decide), s.rd_wr_same ZX_GRS_RESULT_VALID 0 0, rfl⟩

theorem latentTest_egress : Answers (.latentTest 0x0C01 i a false g) s (fun u => i ∈ u.egs.stuck ∧
    s.counted u BX_SAF_STS_LATENT_FAILS 0 1) := by
  have he := exec_latentTest_bx (s := s) (code := 0x0C01) (i := i) (a := a) (g := g) (by decide)
  have hfails := s.latentFails_counts 0x0C01 i
  generalize s.latentFails 0x0C01 i = t at *
  obtain ⟨hstuck, hregs⟩ := (t.degrade g).bxReact_egress i a
  exact ⟨_, he, hstuck, (State.rd_congr hregs _ _).trans ((t.degrade_regs g _ (by decide) (by decide)).trans hfails)⟩

end

/-- Settles O49: a power state is taken by the rows of R519, a transition is judged and begun by a warm reset, and a detection is counted
before its reaction. -/
theorem powerStatesLifeCycleAndDetections : Obligations.PowerStatesLifeCycleAndDetections :=
  ⟨fun _ _ => powerSet_p0p1, fun _ _ => powerSet_p2, fun _ _ => powerSet_p2Waits, fun _ _ => powerSet_p3, fun _ _ => powerSet_conflict,
    fun _ _ => powerSet_busy, fun _ _ => powerSet_badParam, fun _ _ => powerSet_inP3, fun _ _ => p2Entry_enters, fun _ => p2Entry_waits,
    fun _ _ => powerThrottle_slows, fun _ _ => powerThrottle_recovers, fun _ _ => lcStatus_reads, fun _ _ => lcTransition_notPermitted,
    fun _ _ => lcTransition_busy,
    fun _ _ cmd hc hl hcmd hrun hmagic => lcTransition_denied hc hl hcmd hrun (State.authorized_of_magic hmagic cmd),
    fun _ _ _ => lcTransition_begins, fun _ _ _ _ _ _ => safetyDetection_egress, fun _ _ _ _ _ _ => safetyDetection_timebase,
    fun _ _ _ _ _ _ _ => safetyDetection_epochLog, fun _ _ _ _ _ _ => safetyDetection_grove, fun s _ _ _ _ => ⟨s, rfl, rfl⟩,
    fun _ _ _ _ => latentTest_egress⟩

end Sys2Proof.Machine
end

section
/-! SUPPORT. A mirror item of no ward is a violation, and the sixteenth of an epoch escalates (R408, R409): the fabric's state changes. -/

namespace Sys2Proof.Machine
open Sys2Proof

/-- The reset state with Canopy port 0 ACTIVE and fifteen violations counted there in the open epoch. -/
def fifteenViolations : State := State.reset.setLink (.canopy 0) { lstate := .active, violEpoch := 15 }

/-- The sixteenth violation retrains the link, and the fabric notes its port as without a HELLO. -/
theorem fifteenViolations_escalates : (fifteenViolations.viol (.canopy 0) 10).cnp.ports ≠ fifteenViolations.cnp.ports := by decide

/-- No BX64 is a ward here, so an item of another is refused as a violation. -/
theorem fifteenViolations_refuses (m : MirrorItem) : exec (.mirrorReceive 0 1 0 m) fifteenViolations =
    done ((fifteenViolations.consume (.canopy 0) 1 4).viol (.canopy 0) 10) := by
  have hward : (fifteenViolations.consume (.canopy 0) 1 4).isWard 1 = false := by decide
  change execMirrorReceive 0 1 0 m fifteenViolations = _
  unfold execMirrorReceive
  dsimp only
  rw [hward, if_pos (by decide)]

/-- Nothing waits at the port, so the item itself leaves its state as it was. -/
theorem fifteenViolations_consume : (fifteenViolations.consume (.canopy 0) 1 4).viol (.canopy 0) 10 = fifteenViolations.viol (.canopy 0) 10 := by
  rfl

/-- Refutes O39: its clause on an item of no ward says that the fabric's state stays, but at a port with fifteen violations in the open epoch
the violation escalates, the link retrains and the state of the port changes. -/
theorem not_fabricMessagesAreRecoveredAndMirrored : ¬ Obligations.FabricMessagesAreRecoveredAndMirrored := by
  unfold Obligations.FabricMessagesAreRecoveredAndMirrored
  rintro ⟨-, -, -, -, -, -, -, -, -, hrefused, -⟩
  obtain ⟨u, hu, hcnp, -⟩ := hrefused fifteenViolations 0 1 0 (.nextInc 0 0) (by decide)
  have hexec := (fifteenViolations_refuses (.nextInc 0 0)).symm.trans hu
  obtain rfl : (fifteenViolations.consume (.canopy 0) 1 4).viol (.canopy 0) 10 = u := Host.Outcome.next.inj hexec
  rw [fifteenViolations_consume] at hcnp
  exact fifteenViolations_escalates (congrArg Fabric.ports hcnp)

end Sys2Proof.Machine
end

section
/-! SUPPORT. Neighbours, link-state advertisements and the fabric opcodes (R377 to R385, Table 13-13). -/

namespace Sys2Proof.Machine
open Sys2Proof

/-! ### What a returning BX64 brings about leaves the ports and the advertisements alone (R402, R403) -/

/-- The registers that the return of a BX64 may change. -/
def welcomeRegs : List Reg :=
  [.BX_CNP_CNT0, .BX_CNP_FAB_STS, .BX_EPC_STATE, .BX_RED_CNT0, .BX_WDN_CNT0, .BX_WDN_CNT1]

/-- Between s before and t after, a BX64 that is back has been taken up again: neither the state of a port, nor the advertisements held, nor
a register outside the list has changed. -/
structure Welcomes (s t : State) : Prop where
  ports : t.cnp.ports = s.cnp.ports
  lsdb : t.cnp.lsdb = s.cnp.lsdb
  regs : RegsKept welcomeRegs s t

namespace Welcomes
variable {s t u : State}

theorem refl (s : State) : Welcomes s s := ⟨rfl, rfl, .refl _ s⟩

theorem trans (h : Welcomes s t) (h' : Welcomes t u) : Welcomes s u :=
  ⟨h'.ports.trans h.ports, h'.lsdb.trans h.lsdb, h.regs.trans h'.regs⟩

theorem branch {c : Prop} [Decidable c] (ht : Welcomes s t) (hu : Welcomes s u) : Welcomes s (if c then t else u) := by
  split <;> assumption

theorem foldl {α : Type} {f : State → α → State} {l : List α} (h : Welcomes s t) (hf : ∀ u x, Welcomes s u → Welcomes s (f u x)) :
    Welcomes s (l.foldl f t) := List.foldlRecOn l f h fun u hu x _ => hf u x hu

theorem of_sends (h : Sends s t) : Welcomes s t :=
  ⟨(congrArg (fun v : State => v.cnp.ports) h.rest :), (congrArg (fun v : State => v.cnp.lsdb) h.rest :), h.regs.mono (by decide)⟩

theorem of_replies (h : Replies s t) : Welcomes s t :=
  ⟨(congrArg (fun v : State => v.cnp.ports) h.rest :), (congrArg (fun v : State => v.cnp.lsdb) h.rest :), h.regs.mono (by decide)⟩

theorem wr (h : Welcomes s t) {f : Fld} {i v : Nat} (hlo : f.lo < 64 := by decide) (hf : f.reg ∈ welcomeRegs := by decide) :
    Welcomes s (t.wr f i v) := ⟨h.ports, h.lsdb, h.regs.wr hlo hf⟩

theorem bump (h : Welcomes s t) {f : Fld} {i n : Nat} (hlo : f.lo < 64 := by decide) (hf : f.reg ∈ welcomeRegs := by decide) :
    Welcomes s (t.bump f i n) := h.wr hlo hf

theorem setEp (h : Welcomes s t) {e} : Welcomes s { t with ep := e } := ⟨h.ports, h.lsdb, h.regs⟩

theorem setRed (h : Welcomes s t) {r} : Welcomes s { t with red := r } := ⟨h.ports, h.lsdb, h.regs⟩

theorem setPeer (h : Welcomes s t) {a p} : Welcomes s (t.setPeer a p) := ⟨h.ports, h.lsdb, h.regs⟩

theorem reply (h : Welcomes s t) {c op status res reason w} : Welcomes s (t.reply c op status res reason w) :=
  h.trans (.of_replies (Replies.refl t).reply)

theorem replyBlob (h : Welcomes s t) {c op status bytes more} : Welcomes s (t.replyBlob c op status bytes more) := .branch h.reply h.reply

theorem sendMsg (h : Welcomes s t) {ty sub vc dst body epoch rec} : Welcomes s (t.sendMsg ty sub vc dst body epoch rec) :=
  h.trans (.of_sends (Sends.refl t).sendMsg)

theorem toChildren (h : Welcomes s t) {ty sub vc body epoch rec} : Welcomes s (t.toChildren ty sub vc body epoch rec) :=
  h.foldl fun _ _ h => h.sendMsg

theorem announce (h : Welcomes s t) {n} : Welcomes s (t.announce n) := (h.foldl fun _ _ h => h.toChildren).toChildren

theorem putRecord (h : Welcomes s t) {b} : Welcomes s (t.putRecord b) := by
  unfold State.putRecord
  dsimp only
  split
  · exact h.setEp
  · exact .branch h h.setEp

theorem advanceWm (h : Welcomes s t) {k} : Welcomes s (advanceWm k t) := by
  induction k generalizing t with
  | zero => exact h
  | succ k ih => exact .branch (ih h.wr) h

theorem epochAnswer (h : Welcomes s t) {c} (hu : t.epochAnswer c = some u) : Welcomes s u := by
  unfold State.epochAnswer at hu
  extract_lets n view wm old give at hu
  split at hu
  · cases hu; exact h.reply
  split at hu
  · cases hu; exact h.reply
  split at hu
  · cases hu
  split at hu
  · cases hu; exact h.reply
  split at hu
  · split at hu
    · cases hu; exact h.replyBlob
    · cases hu; exact h.reply
  split at hu
  · cases hu; exact h.reply
  split at hu
  · cases hu; exact h.replyBlob
  · cases hu; exact h.reply

theorem answerWaits (h : Welcomes s t) : Welcomes s t.answerWaits := by
  refine h.foldl fun v w hv => ?_
  split
  · exact hv
  · next e => exact (hv.epochAnswer e).setEp

theorem becomeRoot (h : Welcomes s t) {lost was} : Welcomes s (t.becomeRoot lost was) := by
  dsimp only [State.becomeRoot]
  refine ((Welcomes.branch ?_ ?_).advanceWm.setRed.foldl fun _ _ h => h.announce).answerWaits
  · exact h.foldl fun _ _ h => h.putRecord
  · split
    · exact h.foldl fun _ _ h => h.putRecord
    · exact (h.foldl fun _ _ h => h.putRecord).wr.wr

theorem refreshRoles (h : Welcomes s t) : Welcomes s t.refreshRoles := by
  unfold State.refreshRoles
  split
  · exact h.wr.wr.wr
  · exact h.wr.wr.wr.wr.wr

theorem resendPartials (h : Welcomes s t) {old} : Welcomes s (t.resendPartials old) := by
  refine h.foldl fun v k hv => ?_
  split
  · exact hv
  · exact .branch hv hv.sendMsg.bump

theorem setStandIn (h : Welcomes s t) {l} : Welcomes s { t with cnp := { t.cnp with standIn := l } } := ⟨h.ports, h.lsdb, h.regs⟩

theorem setReturned (h : Welcomes s t) {l} : Welcomes s { t with cnp := { t.cnp with returned := l } } := ⟨h.ports, h.lsdb, h.regs⟩

theorem takeBack (h : Welcomes s t) {a boot ep} : Welcomes s (t.takeBack a boot ep) :=
  .branch (Welcomes.branch (Welcomes.branch h.setPeer.setStandIn.setReturned.wr.refreshRoles h.setPeer.setStandIn.refreshRoles).becomeRoot
    (.branch h.setPeer.setStandIn.setReturned.wr.refreshRoles h.setPeer.setStandIn.refreshRoles)).resendPartials h

theorem broadcastAlarm (h : Welcomes s t) {sub p40} : Welcomes s (t.broadcastAlarm sub p40) :=
  (Welcomes.mk h.ports h.lsdb h.regs : Welcomes s t.takeBseq.2).trans (.of_sends (t.broadcastAlarm_sends sub p40))

theorem declareBack (h : Welcomes s t) {a boot} : Welcomes s (t.declareBack a boot) := h.broadcastAlarm.takeBack

theorem sendRestore (h : Welcomes s t) {a} : Welcomes s (t.sendRestore a) := .branch h h.sendMsg

theorem setDelivered (h : Welcomes s t) {l} : Welcomes s { t with cnp := { t.cnp with delivered := l } } := ⟨h.ports, h.lsdb, h.regs⟩

theorem noticeBoot (h : Welcomes s t) {a boot} : Welcomes s (t.noticeBoot a boot) :=
  .branch (Welcomes.branch (Welcomes.branch h.setPeer.setDelivered h.setPeer).declareBack (.branch h.setPeer.setDelivered h.setPeer)).sendRestore
    (.branch h.setPeer.setDelivered h.setPeer)

theorem resendTo (h : Welcomes s t) {a} : Welcomes s (t.resendTo a) := by
  unfold State.resendTo
  split
  · exact h
  · exact h.sendMsg.sendMsg

theorem resendRejoined (h : Welcomes s t) {a} : Welcomes s (t.resendRejoined a) := .branch h.resendTo h

end Welcomes

/-! ### The state of a port and what floods an LSA (R377, R378) -/

section
variable {s t : State}

theorem State.port_setPort (s : State) (q : Nat) (p : CnpPort) : (s.setPort q p).port q = p := SMap.getD_set_same _ _ _ _

/-- The LSA this BX64 floods next (Table 13-5). -/
def State.ownLsa (s : State) : Lsa where
  uid := s.rd BX_CNP_DEV_UID_DEV_UID
  agg := s.agg
  boot := s.rd BX_CNP_IDENT_BOOT
  lseq := (s.cnp.lseq + 1) % 2 ^ 32
  links := s.fwdPorts.map (fun q => (q, s.rd BX_CNP_PORT_STS_NEIGH_AGG q, s.rd BX_CNP_PORT_STS_NEIGH_PORT q))
  at_ := s.bxNs

/-- The state in which this BX64 holds its next LSA and has its routes anew, with nothing sent. -/
def State.withOwnLsa (s : State) : State :=
  State.recompute { s with cnp := { s.cnp with
    lseq := s.ownLsa.lseq, lsaAt := s.bxNs, lsdb := s.cnp.lsdb.filter (fun (x : Lsa) => x.agg ≠ s.agg) ++ [s.ownLsa] } }

theorem State.floodLsa_sends (s : State) : Sends s.withOwnLsa s.floodLsa := Sends.foldl ⟨rfl, .refl _ _⟩ fun _ _ h => h.sendOn

theorem State.floodLsa_ports (s : State) : s.floodLsa.cnp.ports = s.cnp.ports :=
  (congrArg (fun v : State => v.cnp.ports) s.floodLsa_sends.rest :)

theorem State.setPstate_ports (s : State) (q ps : Nat) : (s.setPstate q ps).cnp.ports = s.cnp.ports := by
  unfold State.setPstate
  dsimp only
  split
  · exact State.floodLsa_ports _
  · rfl

/-- A port that takes a PSTATE has it written, and no other field but what counts messages without a route. -/
theorem State.setPstate_regs (s : State) (q ps : Nat) : RegsKept [.BX_CNP_CNT0] (s.wr BX_CNP_PORT_STS_PSTATE q ps) (s.setPstate q ps) := by
  unfold State.setPstate
  dsimp only
  split
  · exact State.floodLsa_regs _
  · exact .refl _ _

/-- What the PSTATE of a port does not lie in, its change leaves. -/
theorem State.rd_setPstate_other (s : State) (q ps : Nat) {f : Fld} (i : Nat) (hlo : f.lo < 64 := by decide)
    (hf : f.reg ∉ [Reg.BX_CNP_CNT0] := by decide) (hps : f.lo ≠ BX_CNP_PORT_STS_PSTATE.lo := by decide) : (s.setPstate q ps).rd f i = s.rd f i :=
  (s.setPstate_regs q ps f i hlo hf).trans (s.rd_wr_otherLo ps (by decide) hlo hps)

theorem State.openPort_ports (s : State) (q : Nat) : (s.openPort q).cnp.ports = s.cnp.ports := by
  unfold State.openPort
  dsimp only
  split
  · exact s.setPstate_ports _ _
  · rfl

theorem State.rd_openPort_other (s : State) (q : Nat) {f : Fld} (i : Nat) (hlo : f.lo < 64 := by decide)
    (hf : f.reg ∉ [Reg.BX_CNP_CNT0] := by decide) (hps : f.lo ≠ BX_CNP_PORT_STS_PSTATE.lo := by decide) : (s.openPort q).rd f i = s.rd f i := by
  unfold State.openPort
  dsimp only
  split
  · exact s.rd_setPstate_other _ _ i hlo hf hps
  · rfl

/-- The state in which a HELLO has left port q, not yet noted there. -/
def State.helloLeft (s : State) (q : Nat) : State :=
  s.takeMsgId.2.sendOn q 4 0x10 2 s.agg 0 false (msgPrefix s.cnp.msgId 32 0 0 ++
    wordBytes [s.rd BX_CNP_DEV_UID_DEV_UID,
      packFields [(48, 16, s.rd BX_CNP_IDENT_FLEET_ID), (36, 12, s.agg), (33, 3, s.rd BX_LC_STS_STATE),
        (27, 6, ((s.treeOf s.agg).map (·.partition)).getD 0)],
      packFields [(32, 32, s.rd BX_CNP_IDENT_BOOT), (16, 16, s.liveGen)], 0])

theorem State.helloLeft_sends (s : State) (q : Nat) : Sends s (s.helloLeft q) :=
  Sends.sendOn (⟨rfl, .refl _ _⟩ : Sends s s.takeMsgId.2)

theorem State.sendHello_eq (s : State) (q : Nat) :
    s.sendHello q = (s.helloLeft q).setPort q { (s.helloLeft q).port q with helloSent := true, helloAt := (s.helloLeft q).bxNs } := rfl

/-- A message of one flit waits at the port it leaves by. -/
theorem State.sendOn_waits (s : State) (q ty sub vc src dst : Nat) (bcast : Bool) {bytes : Bytes} (hops : Nat) (hne : bytes ≠ [])
    (hlen : bytes.length ≤ 492) : ∃ w ∈ ((s.sendOn q ty sub vc src dst bcast bytes hops).link (.canopy q)).wait,
      w.2.body.ty = ty ∧ w.2.body.sub = sub := by
  unfold State.sendOn
  dsimp only
  rw [msgFlits_of_length_le hne hlen, List.foldl_cons, List.foldl_nil]
  unfold State.enqueue
  rw [State.link_modLink]
  exact ⟨_, List.mem_append_right _ (List.mem_singleton_self _), rfl, rfl⟩

/-! ### HELLO (R377) -/

/-- What a port has recorded of the neighbour behind it. -/
structure Knows (q ag bt pt : Nat) (s : State) : Prop where
  agg : s.rd BX_CNP_PORT_STS_NEIGH_AGG q = ag
  seen : (s.port q).helloSeen = true
  boot : (s.port q).neighBoot = bt
  part : (s.port q).neighPartition = pt

namespace Knows
variable {q ag bt pt : Nat}

theorem branch {c : Prop} [Decidable c] (hs : Knows q ag bt pt s) (ht : Knows q ag bt pt t) : Knows q ag bt pt (if c then s else t) := by
  split <;> assumption

/-- Where the ports are as before and the neighbour's field too, the record stands. -/
theorem of_kept (h : Knows q ag bt pt s) (hports : t.cnp.ports = s.cnp.ports)
    (hrd : t.rd BX_CNP_PORT_STS_NEIGH_AGG q = s.rd BX_CNP_PORT_STS_NEIGH_AGG q) : Knows q ag bt pt t := by
  have hport : t.port q = s.port q := congrArg (fun m : SMap CnpPort => m.getD q {}) hports
  exact ⟨hrd.trans h.agg, hport ▸ h.seen, hport ▸ h.boot, hport ▸ h.part⟩

theorem welcomes (h : Knows q ag bt pt s) (ht : Welcomes s t) : Knows q ag bt pt t := h.of_kept ht.ports (ht.regs _ _ (by decide) (by decide))

theorem sendHello (h : Knows q ag bt pt s) : Knows q ag bt pt (s.sendHello q) := by
  have hleft : Knows q ag bt pt (s.helloLeft q) := h.welcomes (.of_sends (s.helloLeft_sends q))
  rw [s.sendHello_eq]
  refine ⟨hleft.agg, ?_, ?_, ?_⟩ <;> rw [State.port_setPort]
  exacts [hleft.seen, hleft.boot, hleft.part]

theorem openPort (h : Knows q ag bt pt s) : Knows q ag bt pt (s.openPort q) :=
  h.of_kept (s.openPort_ports q) (s.rd_openPort_other q q)

end Knows

/-- The state in which a HELLO without conflict is noted at its port: the neighbour's port is the value np drawn. -/
def State.noteHello (s : State) (q uid ag bt pt np : Nat) : State :=
  ((s.setPort q { s.port q with helloSeen := true, neighUid := uid, neighBoot := bt, neighPartition := pt }).draw 5).2.wr
    BX_CNP_PORT_STS_NEIGH_AGG q ag |>.wr BX_CNP_PORT_STS_NEIGH_PORT q np

theorem State.noteHello_knows (s : State) (q uid bt pt np : Nat) {ag : Nat} (hag : ag < 4096) :
    Knows q ag bt pt (s.noteHello q uid ag bt pt np) := by
  have hport : (s.noteHello q uid ag bt pt np).port q =
      { s.port q with helloSeen := true, neighUid := uid, neighBoot := bt, neighPartition := pt } := s.port_setPort q _
  refine ⟨?_, ?_, ?_, ?_⟩
  · unfold State.noteHello
    rw [State.rd_wr_otherLo _ _ (by decide) (by decide) (by decide), State.rd_wr_same]
    exact Nat.mod_eq_of_lt hag
  all_goals rw [hport]

/-- What a HELLO without conflict brings about: it is noted, answered where it is the first, and opens the port. -/
def State.takeHello (s : State) (q uid ag bt pt gn : Nat) : State :=
  let answer : Bool := !(s.port q).helloSeen
  let noted := (s.noteHello q uid ag bt pt (s.draw 5).1).noticeBoot ag bt
  let opened := (if answer then noted.sendHello q else noted).openPort q
  if gn = 0 ∧ answer then opened.resendRejoined ag else opened

theorem State.takeHello_knows (s : State) (q uid bt pt gn : Nat) {ag : Nat} (hag : ag < 4096) :
    Knows q ag bt pt (s.takeHello q uid ag bt pt gn) := by
  have hnoted : Knows q ag bt pt ((s.noteHello q uid ag bt pt (s.draw 5).1).noticeBoot ag bt) :=
    (s.noteHello_knows q uid bt pt _ hag).welcomes (Welcomes.refl _).noticeBoot
  have hopened := (hnoted.sendHello.branch (c := (!(s.port q).helloSeen) = true) hnoted).openPort
  exact .branch (hopened.welcomes (Welcomes.refl _).resendRejoined) hopened

/-- A message consumed leaves its port ACTIVE. -/
theorem State.consume_active {q ty sub : Nat} (hq : q < 24) (hl : (s.link (.canopy q)).lstate = .active) :
    ¬ (24 ≤ q ∨ ((s.consume (.canopy q) ty sub).link (.canopy q)).lstate ≠ .active) := by
  rw [s.consume_keeps (.canopy q) (.canopy q) ty sub LinkEnd.lstate]
  exact not_or.2 ⟨Nat.not_le.2 hq, not_not.2 hl⟩

theorem helloReceive_knows {q ag : Nat} (uid fl pt bt gn : Nat) (hq : q < 24) (hl : (s.link (.canopy q)).lstate = .active)
    (hnone : s.helloConflict fl ag uid = none) (hag : ag < 4096) : Answers (.helloReceive q uid fl ag pt bt gn) s (fun u =>
      u.rd BX_CNP_PORT_STS_NEIGH_AGG q = ag ∧ (u.port q).helloSeen = true ∧ (u.port q).neighBoot = bt ∧ (u.port q).neighPartition = pt) := by
  have hnot := State.consume_active (ty := 4) (sub := 0x10) hq hl
  have hconf : (s.consume (.canopy q) 4 0x10).helloConflict fl ag uid = none := hnone
  obtain ⟨hagg, hseen, hboot, hpart⟩ := (s.consume (.canopy q) 4 0x10).takeHello_knows q uid bt pt gn hag
  refine ⟨(s.consume (.canopy q) 4 0x10).takeHello q uid ag bt pt gn, ?_, hagg, hseen, hboot, hpart⟩
  change execHelloReceive q uid fl ag pt bt gn s = _
  unfold execHelloReceive
  generalize s.consume (.canopy q) 4 0x10 = t at hnot hconf
  dsimp only
  rw [if_neg hnot, hconf]
  rfl

/-- The state in which a HELLO of another fleet is counted and its port isolated. -/
def State.strange (s : State) (q : Nat) : State :=
  ((s.bump BX_CNP_CNT1_FLEET_MISMATCH).setPort q { (s.bump BX_CNP_CNT1_FLEET_MISMATCH).port q with helloSeen := false }).setPstate q 1

theorem State.strange_isolates (s : State) (q : Nat) : (s.strange q).rd BX_CNP_PORT_STS_PSTATE q = 1 ∧ ((s.strange q).port q).helloSeen = false ∧
    s.counted (s.strange q) BX_CNP_CNT1_FLEET_MISMATCH 0 1 := by
  let v := s.bump BX_CNP_CNT1_FLEET_MISMATCH
  let w := v.setPort q { v.port q with helloSeen := false }
  refine ⟨?_, ?_, ?_⟩
  · exact (w.setPstate_regs q 1 _ q (by decide) (by decide)).trans (w.rd_wr_same _ _ _)
  · have hport : (s.strange q).port q = w.port q := congrArg (fun m : SMap CnpPort => m.getD q {}) (w.setPstate_ports q 1)
    rw [hport]
    exact congrArg CnpPort.helloSeen (v.port_setPort q _)
  · have hrd : (s.strange q).rd BX_CNP_CNT1_FLEET_MISMATCH 0 = v.rd BX_CNP_CNT1_FLEET_MISMATCH 0 :=
      (w.setPstate_regs q 1 _ 0 (by decide) (by decide)).trans (w.rd_wr_otherReg _ (by decide) (by decide) (by decide))
    exact hrd.trans (s.counted_bump _ 0 1)

/-- What a HELLO of another fleet brings about: its port is isolated, a record says so, and an alarm goes up. -/
def State.rejectHello (s : State) (q uid ag : Nat) : State :=
  let d := packFields [(4, 12, ag), (3, 1, 1)]
  let v := ((s.strange q).violation 2 4 2 q).signal { ty := 0x0405, source := 2, idx := q, detail := d, extra := uid }
  v.alarmUp 0x2C (v.bxAlarm d uid)

theorem State.rejectHello_isolates (s : State) (q uid ag : Nat) : (s.rejectHello q uid ag).rd BX_CNP_PORT_STS_PSTATE q = 1 ∧
    ((s.rejectHello q uid ag).port q).helloSeen = false ∧ s.counted (s.rejectHello q uid ag) BX_CNP_CNT1_FLEET_MISMATCH 0 1 := by
  let d := packFields [(4, 12, ag), (3, 1, 1)]
  let v := ((s.strange q).violation 2 4 2 q).signal { ty := 0x0405, source := 2, idx := q, detail := d, extra := uid }
  have hrec : Records (s.strange q) v := (Records.refl _).violation.signal
  have hal : Alarms v (s.rejectHello q uid ag) := (Alarms.refl v).alarmUp
  obtain ⟨hps, hseen, hcount⟩ := s.strange_isolates q
  refine ⟨?_, ?_, ?_⟩
  · rw [hal.regs _ _ (by decide) (by decide), hrec.rd, hps]
  · unfold State.port
    rw [hal.cnp, hrec.cnp]
    exact hseen
  · unfold State.counted
    rw [hal.regs _ _ (by decide) (by decide), hrec.rd]
    exact hcount

theorem helloReceive_isolates {q fl : Nat} (uid ag pt bt gn : Nat) (hq : q < 24) (hl : (s.link (.canopy q)).lstate = .active)
    (hfl : fl ≠ s.rd BX_CNP_IDENT_FLEET_ID) : Answers (.helloReceive q uid fl ag pt bt gn) s (fun u =>
      u.rd BX_CNP_PORT_STS_PSTATE q = 1 ∧ (u.port q).helloSeen = false ∧ s.counted u BX_CNP_CNT1_FLEET_MISMATCH 0 1) := by
  have hnot := State.consume_active (ty := 4) (sub := 0x10) hq hl
  have hconf : (s.consume (.canopy q) 4 0x10).helloConflict fl ag uid = some true := if_pos hfl
  refine ⟨(s.consume (.canopy q) 4 0x10).rejectHello q uid ag, ?_, (s.consume (.canopy q) 4 0x10).rejectHello_isolates q uid ag⟩
  change execHelloReceive q uid fl ag pt bt gn s = _
  unfold execHelloReceive
  generalize s.consume (.canopy q) 4 0x10 = t at hnot hconf
  dsimp only
  rw [if_neg hnot, hconf]
  rfl

theorem helloResend_sends {q : Nat} (hq : q < 24) (hl : (s.link (.canopy q)).lstate = .active) (hsent : (s.port q).helloSent = true)
    (hseen : (s.port q).helloSeen = false) (hdue : (s.port q).helloAt + 1000000 ≤ s.bxNs) : Answers (.helloResend q) s (fun u =>
      (u.port q).helloAt = s.bxNs ∧ ∃ w ∈ (u.link (.canopy q)).wait, w.2.body.ty = 4 ∧ w.2.body.sub = 0x10) := by
  refine ⟨s.sendHello q, if_pos ⟨hq, hl, hsent, by simp [hseen], hdue⟩, ?_, ?_⟩
  · rw [s.sendHello_eq, State.port_setPort]
    exact congrArg Timebase.ns (s.helloLeft_sends q).bxTb
  · exact State.sendOn_waits _ q 4 0x10 2 _ 0 false 31 (List.ne_nil_of_length_pos (by simp [msgPrefix])) (by simp [msgPrefix])

/-! ### LSAs (R378) -/

/-- The state in which an LSA has taken the place of the one held of its aggregator. -/
def State.holdLsa (s : State) (l : Lsa) : State :=
  { s with cnp := { s.cnp with lsdb := s.cnp.lsdb.filter (fun (x : Lsa) => x.agg ≠ l.agg) ++ [l] } }

/-- The links of an LSA whose other end does not list them. -/
def State.oneWay (s : State) (l : Lsa) : List (Nat × Nat × Nat) :=
  l.links.filter (fun k => s.cnp.lsdb.any (fun (x : Lsa) => x.agg = k.2.1 && !x.links.any (fun m => m.2.1 = l.agg)))

/-- What a newer LSA brings about before its sender's BOOT is looked at: it is held, its one-way links are counted, and it goes on. -/
def State.takeLsa (s : State) (q : Nat) (l : Lsa) (m : Option Msg) : State :=
  let v := ((s.holdLsa l).oneWay l).foldl (fun s _ => (s.bump BX_CNP_CNT1_LSA_ONEWAY).violation 2 6 2 q) (s.holdLsa l)
  v.recompute.passOn q 4 0x11 2 l.agg false ((m.map (·.bytes)).getD (msgPrefix 0 (lsaBytes l).length 0 0 ++ lsaBytes l)) ((m.map
      (·.hops)).getD 31)

theorem State.takeLsa_lsdb (s : State) (q : Nat) (l : Lsa) (m : Option Msg) : (s.takeLsa q l m).cnp.lsdb = (s.holdLsa l).cnp.lsdb := by
  let v := ((s.holdLsa l).oneWay l).foldl (fun s _ => (s.bump BX_CNP_CNT1_LSA_ONEWAY).violation 2 6 2 q) (s.holdLsa l)
  have hv : v.cnp = (s.holdLsa l).cnp := List.foldlRecOn (motive := fun t : State => t.cnp = (s.holdLsa l).cnp) _ _ rfl
    fun t h _ _ => ((t.bump BX_CNP_CNT1_LSA_ONEWAY).violation_records 2 6 2 q).cnp.trans h
  have hsent : Sends v.recompute (s.takeLsa q l m) := .branch (.refl _) (Sends.foldl (.refl _) fun _ _ h => h.sendOn)
  calc (s.takeLsa q l m).cnp.lsdb
    _ = v.cnp.lsdb := (congrArg (fun t : State => t.cnp.lsdb) hsent.rest :)
    _ = (s.holdLsa l).cnp.lsdb := congrArg Fabric.lsdb hv

/-- An LSA of another aggregator is taken where none is held, or where it is newer than the one held. -/
theorem lsaReceive_exec (q : Nat) {l : Lsa} (hagg : l.agg ≠ s.agg) (hnew : ∀ x ∈ s.cnp.lsdb, x.agg = l.agg → l.newer x = true) :
    exec (.lsaReceive q l) s = done (((s.consume (.canopy q) 4 0x11).takeLsa q { l with at_ := s.bxNs }
      (s.inMsg? (.canopy q) 4 0x11)).noticeBoot l.agg l.boot) := by
  have hagg' : l.agg ≠ (s.consume (.canopy q) 4 0x11).agg := hagg
  have hheld : ∀ x, (s.consume (.canopy q) 4 0x11).cnp.lsdb.find? (fun (x : Lsa) => x.agg = l.agg) = some x → l.newer x = true :=
    fun x hx => hnew x (List.mem_of_find?_eq_some hx) (by simpa using List.find?_some hx)
  have hns : (s.consume (.canopy q) 4 0x11).bxNs = s.bxNs := rfl
  change execLsaReceive q l s = _
  unfold execLsaReceive
  generalize s.consume (.canopy q) 4 0x11 = t at hagg' hheld hns
  dsimp only
  rw [if_neg]
  · rw [hns]
    rfl
  · refine not_not.2 (Bool.and_eq_true_iff.2 ⟨decide_eq_true hagg', ?_⟩)
    split
    · rfl
    · next hx => exact hheld _ hx

theorem lsaReceive_takes (q : Nat) {l : Lsa} (hagg : l.agg ≠ s.agg) (hnew : ∀ x ∈ s.cnp.lsdb, x.agg = l.agg → l.newer x = true) :
    Answers (.lsaReceive q l) s (fun u =>
      (∃ x ∈ u.cnp.lsdb, x = { l with at_ := s.bxNs }) ∧ (∀ x ∈ s.cnp.lsdb, x.agg ≠ l.agg → x ∈ u.cnp.lsdb)) := by
  let l' : Lsa := { l with at_ := s.bxNs }
  have hlsdb : (((s.consume (.canopy q) 4 0x11).takeLsa q l' (s.inMsg? (.canopy q) 4 0x11)).noticeBoot l.agg l.boot).cnp.lsdb =
      s.cnp.lsdb.filter (fun (x : Lsa) => x.agg ≠ l.agg) ++ [l'] := (Welcomes.refl _).noticeBoot.lsdb.trans (State.takeLsa_lsdb _ _ _ _)
  refine ⟨_, lsaReceive_exec q hagg hnew, ⟨l', ?_, rfl⟩, fun x hx hother => ?_⟩ <;> rw [hlsdb]
  · exact List.mem_append_right _ (List.mem_singleton_self _)
  · exact List.mem_append_left _ (List.mem_filter.2 ⟨hx, decide_eq_true hother⟩)

theorem lsaReceive_ignores (q : Nat) {l x : Lsa} (hheld : s.cnp.lsdb.find? (fun (x : Lsa) => x.agg = l.agg) = some x)
    (hold : l.newer x = false) : Answers (.lsaReceive q l) s (fun u => u.cnp = s.cnp ∧ u.regs = s.regs) := by
  have hheld' : (s.consume (.canopy q) 4 0x11).cnp.lsdb.find? (fun (x : Lsa) => x.agg = l.agg) = some x := hheld
  refine ⟨s.consume (.canopy q) 4 0x11, ?_, rfl, rfl⟩
  change execLsaReceive q l s = _
  unfold execLsaReceive
  generalize s.consume (.canopy q) 4 0x11 = t at hheld'
  dsimp only
  refine if_pos ?_
  simp only [hheld', hold, Bool.and_false, Bool.false_eq_true, not_false_eq_true]

theorem lsaRefresh_floods (hdue : s.cnp.lsaAt + max 1 (s.rd BX_CNP_CTRL_LSA_REFRESH_MS) * 1000000 ≤ s.bxNs) :
    Answers .lsaRefresh s (fun u => u.cnp.lsaAt = s.bxNs ∧ u.cnp.lseq = (s.cnp.lseq + 1) % 2 ^ 32 ∧
      ∃ x ∈ u.cnp.lsdb, x.agg = s.agg ∧ x.lseq = u.cnp.lseq ∧ x.boot = s.rd BX_CNP_IDENT_BOOT) := by
  have hrest := s.floodLsa_sends.rest
  have hlseq : s.floodLsa.cnp.lseq = (s.cnp.lseq + 1) % 2 ^ 32 := (congrArg (fun v : State => v.cnp.lseq) hrest :)
  have hlsdb : s.floodLsa.cnp.lsdb = s.withOwnLsa.cnp.lsdb := (congrArg (fun v : State => v.cnp.lsdb) hrest :)
  refine ⟨s.floodLsa, if_pos hdue, (congrArg (fun v : State => v.cnp.lsaAt) hrest :), hlseq, s.ownLsa, ?_, rfl, hlseq.symm, rfl⟩
  rw [hlsdb]
  exact List.mem_append_right _ (List.mem_singleton_self _)

theorem lsaExpiry_filters (s : State) : Answers .lsaExpiry s (fun u => u.cnp.lsdb = s.cnp.lsdb.filter (fun (x : Lsa) =>
    x.agg = s.agg || s.bxNs < x.at_ + 4 * max 1 (s.rd BX_CNP_CTRL_LSA_REFRESH_MS) * 1000000)) := by
  generalize hkeep : (fun (x : Lsa) => (x.agg = s.agg || s.bxNs < x.at_ + 4 * max 1 (s.rd BX_CNP_CTRL_LSA_REFRESH_MS) * 1000000 : Bool)) = keep
  by_cases hall : (s.cnp.lsdb.filter keep).length = s.cnp.lsdb.length
  · subst hkeep
    exact ⟨s, if_pos hall, (List.filter_eq_self.2 (List.length_filter_eq_length_iff.1 hall)).symm⟩
  · subst hkeep
    exact ⟨_, if_neg hall, rfl⟩

/-! ### Flits a relay has held too long (R385) -/

/-- A flit dropped on its way out of port q: its buffer is freed and it is counted. -/
def State.dropFlit (q : Nat) (s : State) (w : Nat × WaitFlit) : State :=
  ((match w.2.fromPort with
    | some p => s.freeBuf p w.2.body.vc
    | none => s).bump BX_CNP_CNT0_RELAY_TIMEOUT).closeTx q w.2.body

theorem State.closeTx_links (s : State) (q : Nat) (b : FlitBody) : (s.closeTx q b).links = s.links := by
  unfold State.closeTx
  dsimp only
  split <;> rfl

theorem State.closeTx_regs (s : State) (q : Nat) (b : FlitBody) : (s.closeTx q b).regs = s.regs := by
  unfold State.closeTx
  dsimp only
  split <;> rfl

theorem State.dropFlit_links (s : State) (q : Nat) (w : Nat × WaitFlit) : (s.dropFlit q w).links = s.links := by
  unfold State.dropFlit
  rw [State.closeTx_links]
  split <;> rfl

theorem State.dropFlit_counts (s : State) (q : Nat) (w : Nat × WaitFlit) : s.counted (s.dropFlit q w) BX_CNP_CNT0_RELAY_TIMEOUT 0 1 := by
  unfold State.dropFlit State.counted
  rw [State.rd_congr (State.closeTx_regs _ q w.2.body)]
  split
  · exact (s.freeBuf _ _).counted_bump _ 0 1
  · exact s.counted_bump _ 0 1

/-- Steps that each count once have counted as many as they are. -/
theorem State.foldl_counts {α : Type} {f : State → α → State} {fld : Fld} {i : Nat} (hf : ∀ (s : State) x, s.counted (f s x) fld i 1) {l :
    List α}
    (hne : l ≠ []) (s : State) : s.counted (l.foldl f s) fld i l.length := by
  induction l generalizing s with
  | nil => exact absurd rfl hne
  | cons x l ih =>
    have hx := hf s x
    by_cases hl : l = []
    · subst hl
      exact hx
    · have hrest := ih hl (f s x)
      unfold State.counted at hx hrest ⊢
      rw [List.foldl_cons, List.length_cons, hrest, hx]
      omega

/-- A flit held for a relay has waited RELAY_WAIT_US. -/
def State.lateFlit (s : State) (w : Nat × WaitFlit) : Bool :=
  w.2.fromPort.isSome && decide (w.2.since + s.rd BX_CNP_CTRL_RELAY_WAIT_US * 1000 ≤ s.bxNs)

theorem relayWaitTimeout_drops (q : Nat) (hlate : (s.link (.canopy q)).wait.filter s.lateFlit ≠ []) :
    Answers (.relayWaitTimeout q) s (fun u => (u.link (.canopy q)).wait = (s.link (.canopy q)).wait.filter (fun w => !s.lateFlit w) ∧
      s.counted u BX_CNP_CNT0_RELAY_TIMEOUT 0 ((s.link (.canopy q)).wait.filter s.lateFlit).length) := by
  let t := s.modLink (.canopy q) (fun l => { l with wait := l.wait.filter (fun w => !s.lateFlit w) })
  have hlinks : (((s.link (.canopy q)).wait.filter s.lateFlit).foldl (State.dropFlit q) t).links = t.links :=
    List.foldlRecOn (motive := fun v : State => v.links = t.links) _ _ rfl fun v h w _ => (v.dropFlit_links q w).trans h
  refine ⟨((s.link (.canopy q)).wait.filter s.lateFlit).foldl (State.dropFlit q) t, rfl, ?_, ?_⟩
  · unfold State.link at hlinks ⊢
    rw [hlinks]
    exact congrArg LinkEnd.wait (s.link_modLink (.canopy q) _)
  · exact State.foldl_counts (fun s w => s.dropFlit_counts q w) hlate t

/-! ### Fabric opcodes (Table 13-13) -/

/-- What CANOPY_PORT_CTRL brings about before ISOLATE is written: ALARM_LIMIT, HOLD and RETRAIN. -/
def State.portHeld (s : State) (q limit : Nat) (hold again : Bool) : State :=
  let v := s.wr BX_CNP_PORT_CTRL_ALARM_LIMIT q limit
  let w := if v.flag BX_CNP_PORT_CTRL_HOLD q ≠ hold then v.setHold (.canopy q) hold else v
  if again then w.retrain (.canopy q) else w

/-- A port that is held, released or trained again keeps its ALARM_LIMIT. -/
theorem State.rd_setHold_limit (s : State) (q : Nat) (hold : Bool) :
    (s.setHold (.canopy q) hold).rd BX_CNP_PORT_CTRL_ALARM_LIMIT q = s.rd BX_CNP_PORT_CTRL_ALARM_LIMIT q :=
  (s.setHold_regsKept (.canopy q) hold _ q (by decide) (by decide)).trans (s.rd_wr_otherLo _ (by decide) (by decide) (by decide))

theorem State.rd_retrain_limit (s : State) (q : Nat) :
    (s.retrain (.canopy q)).rd BX_CNP_PORT_CTRL_ALARM_LIMIT q = s.rd BX_CNP_PORT_CTRL_ALARM_LIMIT q := by
  by_cases hl : (s.link (.canopy q)).lstate = .active
  · exact (State.rd_retrain hl).trans (s.rd_bump_otherReg _ _ _)
  · rw [State.retrain, if_neg hl]

theorem State.rd_portHeld_limit (s : State) (q limit : Nat) (hold again : Bool) :
    (s.portHeld q limit hold again).rd BX_CNP_PORT_CTRL_ALARM_LIMIT q = limit % 65536 := by
  let v := s.wr BX_CNP_PORT_CTRL_ALARM_LIMIT q limit
  let w := if v.flag BX_CNP_PORT_CTRL_HOLD q ≠ hold then v.setHold (.canopy q) hold else v
  have hv : v.rd BX_CNP_PORT_CTRL_ALARM_LIMIT q = limit % 65536 := s.rd_wr_same _ q limit
  have hw : w.rd BX_CNP_PORT_CTRL_ALARM_LIMIT q = limit % 65536 := by
    dsimp only [w]
    split
    · exact (v.rd_setHold_limit q hold).trans hv
    · exact hv
  change (if again = true then w.retrain (.canopy q) else w).rd _ _ = _
  split
  · exact (w.rd_retrain_limit q).trans hw
  · exact hw

/-- What CANOPY_PORT_CTRL brings about once ISOLATE is written. -/
def State.isolatePort (s : State) (q : Nat) (isolate : Bool) : State :=
  let v := s.wr BX_CNP_PORT_CTRL_ISOLATE q (b2n isolate)
  if isolate then (if 2 ≤ v.rd BX_CNP_PORT_STS_PSTATE q then v.setPstate q 1 else v) else v.openPort q

/-- Once ISOLATE is written, the port takes its PSTATE, and BX_CNP_PORT_CTRL stays as written. -/
theorem State.rd_isolatePort (s : State) (q : Nat) (isolate : Bool) {f : Fld} (hlo : f.lo < 64 := by decide)
    (hf : f.reg ∉ [Reg.BX_CNP_CNT0] := by decide) (hps : f.lo ≠ BX_CNP_PORT_STS_PSTATE.lo := by decide) :
    (s.isolatePort q isolate).rd f q = (s.wr BX_CNP_PORT_CTRL_ISOLATE q (b2n isolate)).rd f q := by
  unfold State.isolatePort
  dsimp only
  split
  · split
    · exact State.rd_setPstate_other _ q 1 q hlo hf hps
    · rfl
  · exact State.rd_openPort_other _ q q hlo hf hps

variable {c : Cap} (hc : c.isOp = true)
include hc

theorem canopyIdentSet_assigns (hl : 2 ≤ c.params.length) (hdown : ∀ q < 24, s.flag BX_CNP_PORT_STS_PSTATE q = false) (hfl : c.p 0 ≤ 65535)
    (hagg : c.p 1 ≤ 4095) : Answers (.canopyIdentSet c) s (fun u => u.replied c 0x0601 S_OK [] ∧ u.rd BX_CNP_IDENT_FLEET_ID = c.p 0 ∧
      u.agg = c.p 1 ∧ u.flag BX_CNP_IDENT_ASSIGNED = true) := by
  let t := ((s.wr BX_CNP_IDENT_FLEET_ID 0 (c.p 0)).wr BX_CNP_IDENT_AGG_ID 0 (c.p 1)).wr BX_CNP_IDENT_ASSIGNED 0 1
  have hnone : (List.range 24).any (fun q => s.flag BX_CNP_PORT_STS_PSTATE q) = false := by
    rw [List.any_eq_false]
    intro q hq
    simp [hdown q (List.mem_range.1 hq)]
  have hexec : exec (.canopyIdentSet c) s = done (t.reply c 0x0601 S_OK) := by
    refine congrArg done ((s.checked_of_allowed hc hl _).trans ?_)
    rw [hnone, if_neg Bool.false_ne_true, if_neg (by omega)]
  have hrd (f : Fld) : (t.reply c 0x0601 S_OK).rd f 0 = t.rd f 0 := t.rd_reply c 0x0601 (by decide) [] f 0
  refine ⟨_, hexec, t.reply_replied .., ?_, ?_, ?_⟩
  · rw [hrd, State.rd_wr_otherLo _ _ (by decide) (by decide) (by decide), State.rd_wr_otherLo _ _ (by decide) (by decide) (by decide),
      State.rd_wr_same]
    exact Nat.mod_eq_of_lt (Nat.lt_succ_of_le hfl)
  · change State.rd _ BX_CNP_IDENT_AGG_ID 0 = _
    rw [hrd, State.rd_wr_otherLo _ _ (by decide) (by decide) (by decide), State.rd_wr_same]
    exact Nat.mod_eq_of_lt (Nat.lt_succ_of_le hagg)
  · unfold State.flag
    rw [hrd, State.rd_wr_same]
    rfl

theorem canopyTopoRead_reads (hl : 1 ≤ c.params.length) : Answers (.canopyTopoRead c) s (fun u =>
    u.replied c 0x0603 S_OK [(s.cnp.lsdb.flatMap lsaBytes).length] ∧
    u.wdn.replies.getLast?.bind (fun r => r.hostWrite) = some (c.p 0, s.cnp.lsdb.flatMap lsaBytes) ∧ s.onlyReply u) :=
  ⟨_, congrArg done (s.checked_of_allowed hc hl _), s.reply_replied .., s.reply_hostWrite .., s.reply_onlyReply c 0x0603 (by decide) ..⟩

theorem fabricStatus_reads : Answers (.fabricStatus c) s (fun u => u.replied c 0x0606 S_OK [s.readReg .BX_CNP_FAB_STS,
    s.rd BX_CNP_FAB_STS_ACT_ROOT, s.rd BX_CNP_FAB_STS_ACT_PARENT, s.rd BX_CNP_FAB_STS_ACT_BUDDY] ∧ s.onlyReply u) :=
  answers_reply (by decide) (congrArg done (s.checked_of_allowed hc (Nat.zero_le _) _))

theorem canopyPortCtrl_sets (hl : 5 ≤ c.params.length) (hq : c.p 0 < 24) : Answers (.canopyPortCtrl c) s (fun u => u.replied c 0x0602 S_OK [] ∧
    u.rd BX_CNP_PORT_CTRL_ALARM_LIMIT (c.p 0) = c.p 4 % 65536 ∧ u.flag BX_CNP_PORT_CTRL_ISOLATE (c.p 0) = bitAt (c.p 3) 0) := by
  let v := s.portHeld (c.p 0) (c.p 4) (bitAt (c.p 1) 0) (bitAt (c.p 2) 0)
  let t := v.isolatePort (c.p 0) (bitAt (c.p 3) 0)
  have hexec : exec (.canopyPortCtrl c) s = done (t.reply c 0x0602 S_OK) :=
    congrArg done ((s.checked_of_allowed hc hl _).trans (if_neg (by omega)))
  have hlimit : t.rd BX_CNP_PORT_CTRL_ALARM_LIMIT (c.p 0) = c.p 4 % 65536 :=
    (v.rd_isolatePort _ _).trans ((v.rd_wr_otherLo _ (by decide) (by decide) (by decide)).trans (s.rd_portHeld_limit ..))
  have hisolate : t.rd BX_CNP_PORT_CTRL_ISOLATE (c.p 0) = b2n (bitAt (c.p 3) 0) :=
    (v.rd_isolatePort _ _).trans ((v.rd_wr_same ..).trans (by cases bitAt (c.p 3) 0 <;> rfl))
  exact ⟨_, hexec, t.reply_replied .., (t.rd_reply c 0x0602 (by decide) [] _ _).trans hlimit,
    State.flag_of_rd_b2n ((t.rd_reply c 0x0602 (by decide) [] _ _).trans hisolate)⟩

end

/-- Settles O38: a HELLO, an LSA and each fabric opcode by what its lemma says of the ports, the advertisements and the registers. -/
theorem neighboursAndRoutesAreKept : Obligations.NeighboursAndRoutesAreKept := by
  unfold Obligations.NeighboursAndRoutesAreKept
  exact ⟨fun _ _ uid fl _ pt bt gn hq hl hnone hag => helloReceive_knows uid fl pt bt gn hq hl hnone hag,
    fun _ _ uid _ ag pt bt gn hq hl hfl => helloReceive_isolates uid ag pt bt gn hq hl hfl,
    fun _ _ hq hl hsent hseen hdue => helloResend_sends hq hl hsent hseen hdue,
    fun _ q _ hagg hnew => lsaReceive_takes q hagg hnew,
    fun _ q _ _ hheld hold => lsaReceive_ignores q hheld hold,
    fun _ hdue => lsaRefresh_floods hdue,
    fun s => lsaExpiry_filters s,
    fun _ q hlate => relayWaitTimeout_drops q hlate,
    fun _ _ hc hl hdown hfl hagg => canopyIdentSet_assigns hc hl hdown hfl hagg,
    fun _ _ hc hl hq => canopyPortCtrl_sets hc hl hq,
    fun _ _ hc hl => canopyTopoRead_reads hc hl,
    fun _ _ hc => fabricStatus_reads hc⟩

end Sys2Proof.Machine
end
